-- ==== Sys2Proof/Word.lean ====
section
/-! DEFINITION. The word types of the HX-9160 and their plainest arithmetic. -/

namespace Sys2Proof

/-- A BAR0 register word. -/
abbrev Word := BitVec 32

/-- A byte of SRAM, GDDR6 or flash. -/
abbrev Byte := BitVec 8

/-- An 80-bit Almanac timestamp: 40 bits of seconds above 40 bits of fraction (R9). -/
abbrev Stamp := BitVec 80

end Sys2Proof
end

