-- ==== Sys2Proof/Syntax.lean ====
section
/-! DEFINITION. The commands of the HX-9160 block model: one constructor of `Instr` for every row of
spec/opcode_table.json. -/

namespace Sys2Proof

/-- Who makes a register access (R528): the host over PCIe, either management complex, or the Constellation. -/
inductive Source where
  | host | complexA | complexB | constellation
deriving DecidableEq, Repr

/-- The SOURCE code of an error-log entry (R533). -/
def Source.code : Source → Nat
  | .host => 0 | .complexA => 1 | .complexB => 2 | .constellation => 3

/-- A measured capacity of R45, with its new value. -/
inductive Capacity where
  /-- working pipe p leaves service -/
  | pipe (p : Fin 8)
  /-- trained GDDR6 pin rate code (MEM_FREQ.RATE_NOW) -/
  | pinRate (code : BitVec 2)
  /-- negotiated host link: lanes (1, 2, 4, 8, 16; 0 for down) and PCIe generation 1 to 5 -/
  | hostLink (width : BitVec 6) (speed : BitVec 3)
  /-- negotiated link of drive d: lanes and generation -/
  | driveLink (d : Fin 4) (width : BitVec 6) (speed : BitVec 3)
  /-- trained eDP rate code and lane code (DPY_LINK) -/
  | displayLink (up : Bool) (rate : BitVec 3) (lanes : BitVec 2)
deriving DecidableEq, Repr

/-- What brings a synchronised apply to its end at a node (R502). -/
inductive ApplyEnd where
  /-- COMMIT arrives, with T_A -/
  | commit (t : Stamp)
  /-- ABORT arrives, with the lowest refusing node and its code -/
  | abort (node : BitVec 14) (code : BitVec 8)
  /-- the first FCLK edge at or after T_A -/
  | edge
deriving DecidableEq, Repr

/-- The link configuration a lane group reads from its second ILAS multiframe (R97): the JESD204B parameters, and the
lane identifier received on each physical lane. -/
structure Ilas where
  l : Nat
  f : Nat
  k : Nat
  n : Nat
  np : Nat
  cs : Nat
  m : Nat
  s : Nat
  hd : Bool
  scr : Bool
  subclass : Nat
  lid : Vector Nat 32
deriving DecidableEq, Repr

/-- A complex sample as it enters FCV's corrections: after the real-to-complex conversion of R127, or, in IQ-pair mode,
the I sample and the delayed Q sample of R132. `i` and `q` are on the scale of R129; the flags are those of R130. -/
structure Sample where
  stamp : Stamp
  i : Int
  q : Int
  ovr : Bool
  thr : Bool
deriving DecidableEq, Repr


/-- The commands of the HX-9160: one constructor for each row of the command table, in its order. An operand `src`
with a word `v` is a register write: who writes, and the word written (the bit the row names is taken as written 1). -/
inductive Instr where
  /-- The engine leaves POWER_OFF once RESET_N is high and every supply monitor reports its rail above the reset threshold, and boot begins (R592). -/
  | resetNRise
  /-- A low on RESET_N that passes the glitch filter takes the engine to POWER_OFF at once, abandoning any dump in progress (R592). -/
  | resetNFall (lowNs : Nat)
  /-- A rail below its reset threshold for the filter time moves the engine to POWER_OFF without a dump (R577). -/
  | supplyBelowReset (rail : Fin 10) (lowNs : Nat)
  /-- A host request made while the engine is in POWER_OFF receives no completion and changes nothing (R608). -/
  | hostAccessPowerOff (addr : Nat) (write : Bool) (v : Word)
  /-- A rail outside its monitor window for 10 us raises the fatal SUPPLY event (R577). -/
  | supplyFault (rail : Fin 10) (mv : Nat)
  /-- The post-mortem dump completes and FLT_DUMP.DONE and LEN are set (R581). -/
  | dumpDone (len : BitVec 9)
  /-- The active complex moves a record from the hardware queue into the fault log and sets interrupt source 93 (R568). -/
  | faultLogMove
  /-- A write of SYS_UPDATE starts an update of the selected groups and enters CHECK (R520). -/
  | updateStrobe (src : Source) (v : Word)
  /-- Admission of an update completes; the engine writes SYS_ADMIT_RESULT and sets DONE, then ends the update or proceeds toward the apply (R521). -/
  | admissionVerdict
  /-- A timed update waiting in WAIT applies on the first FCLK edge at or after SYS_UPDATE_TIME (R524). -/
  | timedApply
  /-- A write of SYS_UPDATE_CTRL.CANCEL ends an update in CHECK or WAIT without applying it (R525). -/
  | updateCancel (src : Source) (v : Word)
  /-- A measured capacity falls while the engine runs; admission reruns and a failing set-up raises CAPACITY and enters DEGRADED (R44). -/
  | capacityFall (c : Capacity)
  /-- XTAL_IN stops or leaves ±1,000 ppm, which is a fatal fault (R56). -/
  | xtalLoss
  /-- A PLL declares loss of lock and the engine halts, gates clocks, blanks or drops lanes according to the PLL (R56). -/
  | pllLoss (n : Fin 9)
  /-- A PLL declares lock in window or timer mode, and dependent logic resumes (R54). -/
  | pllLock (n : Fin 9)
  /-- A PLL retuned by a procedure fails to declare lock within that procedure's time and is treated as having lost lock (R57). -/
  | pllRetuneTimeout (n : Fin 9)
  /-- A 1 us REF_IN counting window ends and REF_PRESENT is updated after three consecutive good or bad windows (R69). -/
  | refWindow (count : Nat) (corr : Int)
  /-- Once REF_IN has stayed present and in range for 1 s, the engine leaves holdover and slews back without stepping (R72). -/
  | holdoverExit
  /-- An active SYNC_IN edge is sampled and stamped, and may act as SYSREF or reset the armed dividers (R60). -/
  | syncInEdge (rising : Bool) (stamp : Stamp) (onPhase : Bool)
  /-- A write of CLK_SYNC_CTRL.DIV_ARM arms a divider reset on the next active SYNC_IN edge (R62). -/
  | divArm (src : Source) (v : Word)
  /-- A write of ALM_CTRL.STEP loads ALM_SET into the Almanac, or marks the step pending until the next accepted PPS edge (R75). -/
  | almStep (src : Source) (v : Word)
  /-- An active PPS_IN edge is stamped and then accepted and slewed out, or rejected, or completes a pending step (R73). -/
  | ppsInEdge (rising : Bool) (stamp : Stamp)
  /-- PPS_PRESENT clears when no edge has been accepted for 2.5 s (R73). -/
  | ppsAbsent
  /-- PPS_OUT rises at each Almanac seconds boundary while PPSO_EN is set (R77). -/
  | ppsOutPulse
  /-- PPS_OUT falls once PPSO_W has elapsed (R77). -/
  | ppsOutEnd
  /-- An active edge on TRIG_INk receives an edge stamp unless it falls in the dead time, and becomes an EXT event and a TDC edge (R83). -/
  | trigInEdge (k : Fin 8) (rising : Bool) (stamp : Stamp)
  /-- A write of ALM_TDC_CTRL.ARM clears the results and arms a time-interval measurement (R86). -/
  | tdcArm (src : Source) (v : Word)
  /-- A write of ALM_TDC_CTRL.ABORT ends the running measurement (R86). -/
  | tdcAbort (src : Source) (v : Word)
  /-- A measurement ends by timeout TIMEOUT x 100 ns after its start edge, setting TIMEOUT and DONE (R85). -/
  | tdcTimeout
  /-- Every 1 ms the idle interpolator of each TDC input is recalibrated against TCLK (R84). -/
  | tdcCalibrate (failed : BitVec 10)
  /-- A K28.3 marker arrives on a lane; it is stamped and advances lane alignment and the converter's sample-time model (R79). -/
  | laneMarker (n : Fin 32) (stamp : Stamp) (offset : Nat) (samples : Nat) (more : Bool)
  /-- A lane in CDR has locked its clock and finished adaptation, and moves to CGS (R101). -/
  | cdrDone (n : Fin 32) (ctle : BitVec 4) (taps : BitVec 30)
  /-- Four consecutive K28.5 at one boundary move a lane from CGS to WAIT_MARK (R101). -/
  | codeGroupSync (n : Fin 32)
  /-- A converter stream becomes valid after its fourth marker and releases its first multiframe to FCV (R105). -/
  | converterValid (c : Fin 4) (firstStamp : Stamp)
  /-- The second ILAS multiframe arrives and the engine compares its link configuration with its own settings (R97). -/
  | ilasReceive (c : Fin 4) (cfg : Ilas)
  /-- A lane's first marker has not arrived within 64 characters of the earliest lane, so every lane of the converter returns to CGS (R104). -/
  | deskewFail (c : Fin 4)
  /-- A figure-of-merit measurement of a lane completes and is reported in LNK_LANE_STAT.FOM (R108). -/
  | fomMeasure (n : Fin 32) (h v : BitVec 8)
  /-- Every DFE_INT microseconds in continuous mode each DFE tap moves by at most one LSB (R110). -/
  | dfeAdapt (n : Fin 32) (moves : Vector Int 5)
  /-- A converter announces idle on all its lanes; the last sample is delivered and the lanes enter IDLE (R112). -/
  | idleAnnounce (c : Fin 4) (lanes : BitVec 32)
  /-- The signal returns on lanes in IDLE and the exit burst brings the converter back with its stored state (R113). -/
  | idleExit (c : Fin 4) (firstStamp : Stamp) (missed : BitVec 32)
  /-- A lane's amplitude stays below 65 mV for 16 ns without a complete announcement, a loss with cause SQUELCH (R116). -/
  | laneSquelch (n : Fin 32) (more : Bool)
  /-- Four disparity or not-in-table errors within 16 characters cause a loss with cause CODE (R116). -/
  | laneCodeErrors (n : Fin 32) (disp : Fin 5) (unexp : Fin 17) (more : Bool)
  /-- A second /A/ at the same wrong offset causes a loss with cause MARKER (R116). -/
  | laneMarkerError (n : Fin 32) (more : Bool)
  /-- A lane's clock-recovery loop loses lock, a loss with cause CDR (R116). -/
  | cdrLoss (n : Fin 32) (more : Bool)
  /-- A character arrives at a full deskew queue, a loss with cause OVERRUN (R116). -/
  | deskewOverrun (n : Fin 32) (more : Bool)
  /-- A write of LNK_CTRL.RESTART sends a valid converter's lanes to CGS with cause RESTART (R121). -/
  | lnkRestart (src : Source) (v : Word)
  /-- FCV delivers a channel's complex samples on one FCLK edge to the pipes, DDCs, triggers and capture (R24). -/
  | sampleDeliver (ch : Fin 4) (samples : List Sample)
  /-- A write of DCB.CLR sets a DC-blocker estimate to zero (R134). -/
  | dcbClr (unit : Fin 20) (src : Source) (v : Word)
  /-- A write of DDC_BANK.SWAP makes the inactive coefficient bank active and starts a cross-fade (R149). -/
  | ddcSwap (d : Fin 16) (src : Source) (v : Word)
  /-- The last output of a cross-fade is delivered and FADING clears (R149). -/
  | fadeEnd (d : Fin 16)
  /-- A write of DDC_SYNC_CTRL.GO arms a synchronising reset of the DDCs in MASK (R159). -/
  | ddcSyncGo (src : Source) (v : Word)
  /-- A write of DDC_SYNC_CTRL.ABORT cancels a pending synchronising reset (R160). -/
  | ddcSyncAbort (src : Source) (v : Word)
  /-- The selected edge t0 arrives and the armed DDCs reset as one set, and PENDING clears (R159). -/
  | ddcSyncReset (stamp : Stamp)
  /-- A reset set reaches its release edge tR and its DDCs set valid = 1 (R158). -/
  | ddcRelease (stamp : Stamp)
  /-- A spectrum is released N/4 + 512 FCLK after its frame ends and reaches records, traces, lines, triggers and Nebula (R180). -/
  | spectrumRelease (source : Fin 32) (bins : List (Int × Int))
  /-- A write of FFT_SRC_TRC.SNAP publishes a running trace (R186). -/
  | traceSnap (source : Fin 32) (t : Fin 4) (src : Source) (v : Word)
  /-- A write of FFT_SRC_TRC.RESET restarts a trace from the next spectrum (R187). -/
  | traceReset (source : Fin 32) (t : Fin 4) (src : Source) (v : Word)
  /-- A pipe detects a fault, becomes FAILED, raises PIPE_FAIL and the spare takes over when available (R194). -/
  | pipeFail (p : Fin 10) (cause : BitVec 4) (loc : Word)
  /-- A write of FFT_PIPE_CTRL.RESET to a FAILED pipe reinitialises it and starts its pattern test (R198). -/
  | pipeReset (p : Fin 10) (src : Source) (v : Word)
  /-- A pipe's pattern test ends, returning it to service or to FAILED (R198). -/
  | patternTestDone (p : Fin 10) (pass : Bool)
  /-- A write of FFT_SPARE_CTRL.TAKEOVER starts a shadow handover of pipe TARGET to the spare (R199). -/
  | spareTakeover (src : Source) (v : Word)
  /-- A write of FFT_SPARE_CTRL.RELEASE starts a shadow handover back to the relieved pipe (R199). -/
  | spareRelease (src : Source) (v : Word)
  /-- The shadow phase ends at the switch edge and the incoming pipe releases the spectra (R199). -/
  | spareSwitch (isMatch : Bool)
  /-- A write of FFT_CHECK_CTRL.START runs a self-check of TARGET at once (R201). -/
  | checkStart (src : Source) (v : Word)
  /-- The periodic self-check timer expires and starts the check of the next pipe (R201). -/
  | checkInterval
  /-- A write of FFT_CHECK_CTRL.ABORT ends the running check (R203). -/
  | checkAbort (src : Source) (v : Word)
  /-- The TEST phase of a self-check finishes and the check moves to SHADOW_OUT or ends (R200). -/
  | checkTestDone (pass : Bool)
  /-- TRG closes a slot L_M FCLK after its reference sample and decides it through the trigger logic (R210). -/
  | slotDecide (stamp next delivered : Stamp) (real : Bool)
  /-- In AUTO mode the auto timer expires and places AUTO in a slot (R242). -/
  | autoTimer
  /-- A write of TRG_CMD.ARM arms TRG from the slot of the write (R239). -/
  | trgArm (src : Source) (v : Word)
  /-- A write of TRG_CMD.FORCE places SOFT in the current slot (R241). -/
  | trgForce (src : Source) (v : Word)
  /-- A write of TRG_CMD.POP removes the oldest trigger-log record (R245). -/
  | trgLogPop (src : Source) (v : Word)
  /-- A write of TRG_CMD.SEQ_RESET returns the sequencer to WAIT_A (R237). -/
  | seqReset (src : Source) (v : Word)
  /-- A scheduled TRIG_OUT pulse starts at its instant plus TRG_OUT_DELAY (R246). -/
  | trigOutPulse (k : Fin 4) (t : Stamp)
  /-- A TRIG_OUT pulse ends after WIDTH x 12.5 ns (R246). -/
  | trigOutEnd (k : Fin 4)
  /-- A remote trigger message arrives and is forwarded, and becomes a REMOTE event when its TX_ID is accepted (R232). -/
  | remoteTriggerRx (p : Fin 4) (txId : BitVec 4) (instant : Stamp) (node : BitVec 14) (cause : BitVec 26) (hops : Nat)
  /-- A write of ACQ_U_CMD.ARM arms a capture unit and applies its pending geometry (R266). -/
  | acqArm (u : Fin 4) (src : Source) (v : Word)
  /-- A write of ACQ_U_CMD.STOP stops a unit after its segment in fill, or at once in circular and stream mode (R266). -/
  | acqStop (u : Fin 4) (src : Source) (v : Word)
  /-- A write of ACQ_U_CMD.ABORT stops a unit at once, truncating any segment in fill (R266). -/
  | acqAbort (u : Fin 4) (src : Source) (v : Word)
  /-- A write of ACQ_U_LRD releases Ledger entries to the unit (R264). -/
  | lrdWrite (u : Fin 4) (src : Source) (v : Word)
  /-- A segment's last sample is in GDDR6 and its verdict known, so the unit writes the segment entry and may stop (R265). -/
  | segmentEntry (u : Fin 4)
  /-- A unit's staging share fills and arriving samples are discarded as a gap (R257). -/
  | stagingOverrun (u : Fin 4)
  /-- A full share drains to half and the unit accepts samples again (R257). -/
  | stagingResume (u : Fin 4)
  /-- A circular unit writes sample T + POST - 1 and stops with cause POST (R280). -/
  | circularPostStop (u : Fin 4)
  /-- A circular unit with AUTO_REARM arms itself 32 FCLK after a POST stop (R280). -/
  | autoRearm (u : Fin 4)
  /-- A stream unit closes a full container block and starts the next (R429). -/
  | containerBlock (u : Fin 4)
  /-- The Nebula period timer expires and makes a swap request (R298). -/
  | nebTimer
  /-- A write of NEB_CMD.SWAP makes a swap request (R298). -/
  | nebSwap (src : Source) (v : Word)
  /-- A write of NEB_CMD.CLEAR makes a clearing swap request (R298). -/
  | nebClear (src : Source) (v : Word)
  /-- A write of NEB_CMD.HOLD takes or waits for the host read lock (R300). -/
  | nebHold (src : Source) (v : Word)
  /-- A write of NEB_CMD.RELEASE releases or cancels the host hold (R300). -/
  | nebRelease (src : Source) (v : Word)
  /-- A waiting swap request becomes a swap edge once no publication or lock is in progress (R299). -/
  | swapEdge
  /-- The copy pass completes, NEB_PUB_SEQ increments and a waiting hold is granted (R297). -/
  | publicationComplete
  /-- A host hold still held after NEB_HOLD_MAX ms is released by the engine (R300). -/
  | holdExpired
  /-- The blanking edge samples commits, increments DPY_FRAME and requests a Nebula swap and lock (R320). -/
  | vblank
  /-- A write of DPY_COMMIT.COMMIT sets COMMIT_PEND and enters the synchroniser (R322). -/
  | dpyCommit (src : Source) (v : Word)
  /-- A commit leaves the synchroniser after the display admission check, landing or being refused (R322). -/
  | commitLand
  /-- The compositor's Nebula lock is granted and composition of the frame starts (R315). -/
  | composeStart
  /-- The last line of the density viewport is composed and the compositor releases its lock (R315). -/
  | densityLockRelease
  /-- Scan-out reads a line, recording an underrun if the composer has not finished it (R312). -/
  | scanoutLine (line : Nat) (composed : Bool)
  /-- An active TE_IN edge in LOCK mode starts the next frame at the next line start (R321). -/
  | teInEdge (rising : Bool)
  /-- No TE_IN edge arrives by VTOTAL_MAX, so the frame starts there and TE_MISS is set (R321). -/
  | teMiss
  /-- eDP training completes, succeeding or falling back or leaving the link down with DISP_LINK (R329). -/
  | linkTrained (rate : BitVec 3) (lanes : BitVec 2) (ok : Bool)
  /-- An HPD IRQ pulse makes the engine read link status and retrain if a lane has lost lock (R331). -/
  | hpdIrq (lost : Bool)
  /-- HPD low for over 2 ms stops video and sets MSTATE to WAIT_HPD (R331). -/
  | hpdUnplug
  /-- HPD rises and the link retrains (R331). -/
  | hpdPlug
  /-- A write of DPY_AUX_CTRL.GO starts a host AUX transaction (R334). -/
  | auxGo (src : Source) (v : Word)
  /-- A host AUX transaction completes with ACK, NACK, DEFER exhausted or timeout (R334). -/
  | auxDone (result : BitVec 2) (data : List Byte)
  /-- A write of LOD_CMD.START clears a core's registers and runs it from ENTRY (R366). -/
  | lodStart (core : Fin 8) (src : Source) (v : Word)
  /-- A write of LOD_CMD.STOP stops a core at its next interruptible boundary (R366). -/
  | lodStop (core : Fin 8) (src : Source) (v : Word)
  /-- A host write of LOD_DOOR ORs a message into MAIL and sets DOOR pending (R362). -/
  | lodDoor (core : Fin 8) (src : Source) (v : Word)
  /-- A core's timer expires every PERIOD DCLK and sets TIMER pending (R360). -/
  | lodTimer (core : Fin 8)
  /-- A DDC output arrives at a tap queue, or is discarded when the queue is full (R355). -/
  | tapEntry (core : Fin 8) (q : Fin 2)
  /-- A core takes a pending enabled interrupt at a boundary and enters its vector (R361). -/
  | interruptEntry (core : Fin 8)
  /-- An invocation exceeds CYCLES; OVERRUN is counted, LOD_BUDGET raised and the core may halt (R370). -/
  | budgetOverrun (core : Fin 8)
  /-- The 1 ms window ends and LOD_BUSY and the stall counts take the window's values (R370). -/
  | lodBusyWindow (core : Fin 8) (mstall : Nat)
  /-- Instruction that does nothing for one cycle (R348). -/
  | nop (core : Fin 8) (w : BitVec 24)
  /-- Instruction that suspends the core in WAITING until an enabled interrupt is pending (R367). -/
  | wait (core : Fin 8) (w : BitVec 24)
  /-- Instruction that restores SR and returns from an interrupt (R361). -/
  | reti (core : Fin 8) (w : BitVec 24)
  /-- Instruction that returns from a subroutine (R350). -/
  | rts (core : Fin 8) (w : BitVec 24)
  /-- Instruction that sets IE (R361). -/
  | ei (core : Fin 8) (w : BitVec 24)
  /-- Instruction that clears IE (R361). -/
  | di (core : Fin 8) (w : BitVec 24)
  /-- Instruction that halts the core with cause TRAP and its code (R368). -/
  | trap (core : Fin 8) (w : BitVec 24)
  /-- Instruction that sets this core's bit in another core's PEERS (R362). -/
  | sig (core : Fin 8) (w : BitVec 24)
  /-- Instruction that sets LOD_STAT.HOSTEV and raises a host interrupt source (R414). -/
  | hostev (core : Fin 8) (w : BitVec 24)
  /-- Instruction that clears the sticky overflow flags (R343). -/
  | clrv (core : Fin 8) (w : BitVec 24)
  /-- Instruction that branches unconditionally after two delay slots (R350). -/
  | bra (core : Fin 8) (w : BitVec 26)
  /-- Instruction that branches on a condition after two delay slots (R349). -/
  | bcc (core : Fin 8) (w : BitVec 26)
  /-- Instruction that pushes the return address and branches (R350). -/
  | call (core : Fin 8) (w : BitVec 26)
  /-- Instruction that issues the next instruction n times (R352). -/
  | rep (core : Fin 8) (w : BitVec 27)
  /-- Instruction that executes a body n times (R352). -/
  | loop (core : Fin 8) (w : BitVec 27)
  /-- ALU instruction that adds two registers (R342). -/
  | add (core : Fin 8) (w : BitVec 23)
  /-- ALU instruction that subtracts two registers (R342). -/
  | sub (core : Fin 8) (w : BitVec 23)
  /-- ALU instruction that ANDs two registers (R342). -/
  | and (core : Fin 8) (w : BitVec 23)
  /-- ALU instruction that ORs two registers (R342). -/
  | or (core : Fin 8) (w : BitVec 23)
  /-- ALU instruction that XORs two registers (R342). -/
  | xor (core : Fin 8) (w : BitVec 23)
  /-- ALU instruction that shifts right arithmetically (R342). -/
  | asr (core : Fin 8) (w : BitVec 23)
  /-- ALU instruction that shifts right logically (R342). -/
  | lsr (core : Fin 8) (w : BitVec 23)
  /-- ALU instruction that shifts left (R342). -/
  | shl (core : Fin 8) (w : BitVec 23)
  /-- ALU instruction that compares two registers and sets flags (R342). -/
  | cmp (core : Fin 8) (w : BitVec 23)
  /-- ALU instruction that copies a register (R342). -/
  | mov (core : Fin 8) (w : BitVec 23)
  /-- ALU instruction that negates a register (R342). -/
  | neg (core : Fin 8) (w : BitVec 23)
  /-- ALU instruction that takes an absolute value (R342). -/
  | abs (core : Fin 8) (w : BitVec 23)
  /-- ALUI instruction that adds an immediate (R348). -/
  | aluiAdd (core : Fin 8) (w : BitVec 23)
  /-- ALUI instruction that subtracts an immediate (R348). -/
  | aluiSub (core : Fin 8) (w : BitVec 23)
  /-- ALUI instruction that ANDs an immediate (R348). -/
  | aluiAnd (core : Fin 8) (w : BitVec 23)
  /-- ALUI instruction that ORs an immediate (R348). -/
  | aluiOr (core : Fin 8) (w : BitVec 23)
  /-- ALUI instruction that XORs an immediate (R348). -/
  | aluiXor (core : Fin 8) (w : BitVec 23)
  /-- ALUI instruction that shifts right arithmetically by an immediate (R348). -/
  | aluiAsr (core : Fin 8) (w : BitVec 23)
  /-- ALUI instruction that shifts right logically by an immediate (R348). -/
  | aluiLsr (core : Fin 8) (w : BitVec 23)
  /-- ALUI instruction that shifts left by an immediate (R348). -/
  | aluiShl (core : Fin 8) (w : BitVec 23)
  /-- ALUI instruction that compares with an immediate (R348). -/
  | aluiCmp (core : Fin 8) (w : BitVec 23)
  /-- ALUI instruction that loads an immediate (R348). -/
  | aluiMov (core : Fin 8) (w : BitVec 23)
  /-- ALUI instruction that negates with an immediate operand (R348). -/
  | aluiNeg (core : Fin 8) (w : BitVec 23)
  /-- ALUI instruction that takes an absolute value with an immediate operand (R348). -/
  | aluiAbs (core : Fin 8) (w : BitVec 23)
  /-- Instruction that loads a 48-bit product into an accumulator (R343). -/
  | mpy (core : Fin 8) (w : BitVec 26)
  /-- Instruction that adds a product to an accumulator (R343). -/
  | mac (core : Fin 8) (w : BitVec 26)
  /-- Instruction that subtracts a product from an accumulator (R343). -/
  | msu (core : Fin 8) (w : BitVec 26)
  /-- Complex instruction that loads a complex product into a pair (R345). -/
  | cmpy (core : Fin 8) (w : BitVec 26)
  /-- Complex instruction that accumulates a complex product (R345). -/
  | cmac (core : Fin 8) (w : BitVec 26)
  /-- Complex instruction that accumulates a product with a conjugated operand (R345). -/
  | cmacj (core : Fin 8) (w : BitVec 26)
  /-- Complex instruction that subtracts a complex product (R345). -/
  | cmsu (core : Fin 8) (w : BitVec 26)
  /-- Accumulator instruction that clears an accumulator (R348). -/
  | clra (core : Fin 8) (w : BitVec 24)
  /-- Accumulator instruction that adds accumulators (R348). -/
  | adda (core : Fin 8) (w : BitVec 24)
  /-- Accumulator instruction that subtracts accumulators (R348). -/
  | suba (core : Fin 8) (w : BitVec 24)
  /-- Instruction that shifts an accumulator by -32 to +31 bits (R344). -/
  | ash (core : Fin 8) (w : BitVec 24)
  /-- Instruction that stores an accumulator to a data register, wrapping or saturating (R344). -/
  | mva (core : Fin 8) (w : BitVec 24)
  /-- Instruction that moves a data register into an accumulator (R348). -/
  | mvda (core : Fin 8) (w : BitVec 24)
  /-- Instruction that loads a 24-bit word through a walker (R338). -/
  | ld (core : Fin 8) (w : BitVec 26)
  /-- Instruction that stores a register or accumulator to data memory (R344). -/
  | st (core : Fin 8) (acc : Bool) (w : BitVec 26)
  /-- Instruction that loads an accumulator from two words (R338). -/
  | ldl (core : Fin 8) (w : BitVec 26)
  /-- Instruction that stores all 56 bits of an accumulator (R338). -/
  | stl (core : Fin 8) (w : BitVec 26)
  /-- Instruction that performs up to two transfers alone (R347). -/
  | move (core : Fin 8) (w : BitVec 28)
  /-- Instruction that loads a walker field (R346). -/
  | ldg (core : Fin 8) (w : BitVec 28)
  /-- Instruction that adds to a walker field (R346). -/
  | addg (core : Fin 8) (w : BitVec 28)
  /-- Instruction that takes the oldest tap entry into a complex register, stalling on an empty queue (R356). -/
  | tget (core : Fin 8) (w : BitVec 26)
  /-- Instruction that copies a special register into a data register (R359). -/
  | mvs (core : Fin 8) (w : BitVec 26)
  /-- Instruction that copies a data register into a special register (R359). -/
  | mvt (core : Fin 8) (w : BitVec 26)
  /-- Long instruction that loads a 24-bit immediate (R348). -/
  | ldi (core : Fin 8) (w : BitVec 24) (imm : BitVec 32)
  /-- Long instruction that loads from an absolute address (R348). -/
  | lda (core : Fin 8) (w : BitVec 24) (imm : BitVec 32)
  /-- Long instruction that stores to an absolute address (R348). -/
  | sta (core : Fin 8) (w : BitVec 24) (imm : BitVec 32)
  /-- A write of DMA_S_CMD.START makes a stall fetch from HEAD (R388). -/
  | dmaStart (k : Fin 32) (src : Source) (v : Word)
  /-- A write of DMA_S_CMD.STOP stops a stall after its current descriptor (R388). -/
  | dmaStop (k : Fin 32) (src : Source) (v : Word)
  /-- A write of DMA_S_CMD.ABORT ends the current descriptor with ERR_ABORT (R388). -/
  | dmaAbort (k : Fin 32) (beats : Nat) (host : List Byte) (src : Source) (v : Word)
  /-- A write of DMA_S_CMD.KICK refetches HEAD or sets KICK_PEND (R379). -/
  | kick (k : Fin 32) (src : Source) (v : Word)
  /-- A write of DMA_S_HEAD sets the next descriptor of a stopped or halted stall (R388). -/
  | dmaHeadWrite (k : Fin 32) (src : Source) (v : Word)
  /-- A stall fetch of a descriptor completes; a VALID one starts or waits on its barrier, otherwise the stall enters WAIT_DESC (R379). -/
  | descriptorFetch (k : Fin 32)
  /-- Every beat is acknowledged and the stall writes the descriptor back, arrives at a barrier, closes the check result and raises IRQ (R386). -/
  | descriptorComplete (k : Fin 32) (host : List Byte)
  /-- A beat is refused; the descriptor ends with an error, its barrier and check unit fail and the stall halts (R387). -/
  | beatRefused (k : Fin 32) (read : Bool) (beats : Nat) (detail : BitVec 8) (host : List Byte)
  /-- A write of DMA_BAR_CTRL.ARM sets a barrier's COUNT to 0 and clears ERR (R390). -/
  | barrierArm (b : Fin 16) (src : Source) (v : Word)
  /-- A write of CHK_CMD.RESET discards open bytes and resets SEQ and ALIVE (R394). -/
  | chkReset (n : Fin 16) (src : Source) (v : Word)
  /-- A waiting request of class C1 to C3 rises one class after each DMA_ARB_AGE cycles (R398). -/
  | agePromote (path : Fin 32) (index : Fin 64)
  /-- The host port trains its link with the header parameters and answers configuration requests (R545). -/
  | hostLinkUp (width : BitVec 6) (speed : BitVec 3) (bme msixEn funcMask : Bool)
  /-- Host link loss, PERST_N, hot reset or link disable resets the host port and fails HOST beats (R408). -/
  | hostLinkReset (p : List (Fin 32 × Nat × List Byte))
  /-- An FLR clears configuration, MSI-X and interrupt enables and stops stalls with beats in flight to the host (R409). -/
  | functionLevelReset (p : List (Fin 32 × Nat × List Byte))
  /-- A HOST read beat receives no completion within HPT_CTO and is refused (R412). -/
  | hostCompletionTimeout (k : Fin 32) (beats : Nat) (host : List Byte)
  /-- A pending, unmasked vector whose HOLD has passed sends its MSI-X message (R416). -/
  | msixMessage (vec : Fin 32)
  /-- A host access to SRAM through BAR2 is served or rejected under the region rules and locks (R40). -/
  | bar2Access (addr : Nat) (write : Bool) (bytes : List (Option Byte)) (rivals : List (Fin 64 × Nat))
  /-- A host access to GDDR6 through BAR4 is served or rejected (R404). -/
  | bar4Access (addr : Nat) (write : Bool) (bytes : List (Option Byte)) (rivals : List (Fin 64 × Nat))
  /-- A drive bring-up completes and the drive becomes READY, UNSUPPORTED or FAILED (R419). -/
  | driveBringup (d : Fin 4) (ok : Bool) (lba : Nat) (metadata : Bool) (nsze : Nat) (mdts : BitVec 8) (mqes : BitVec 16)
  /-- An NVMe Write completes and acknowledges or refuses its beats (R423). -/
  | writeComplete (d : Fin 4) (n : Nat) (sct : BitVec 3) (sc : BitVec 8) (cid : BitVec 16)
  /-- An NVMe command has no completion within SPT_TO and its beats are refused (R423). -/
  | nvmeTimeout (d : Fin 4) (n : Nat) (cid : BitVec 16)
  /-- A drive reports CSTS.CFS, times out or loses its link and becomes FAILED (R424). -/
  | driveFail (d : Fin 4) (linkLost : Bool)
  /-- A write of SPT_CMD.REINIT repeats bring-up of a drive (R424). -/
  | sptReinit (mask : BitVec 4) (src : Source) (v : Word)
  /-- A write of SPT_CMD.FLUSH sends Flush to every READY drive in DMASK (R425). -/
  | sptFlush (src : Source) (v : Word)
  /-- All Flush commands complete and FLUSH_DONE or FLUSH_ERR is set (R425). -/
  | flushComplete (err : Bool)
  /-- A per-bank refresh falls due on a GDDR6 channel (R440). -/
  | refresh (ch : Fin 16) (bank : Fin 16) (c0 : Bool)
  /-- The controller reads device temperature every 1 ms, adjusting refresh and possibly triggering retraining (R440). -/
  | tempRead (c : Fin 8) (tA tB : BitVec 8)
  /-- A channel's retraining interval expires and its retraining starts (R443). -/
  | retrainInterval (ch : Fin 16)
  /-- A write of MEM_CMD.TRAIN retrains every channel once (R443). -/
  | memTrain (src : Source) (v : Word)
  /-- A retraining step applies its new setting or fails and schedules a retry (R444). -/
  | trainStepDone (ok : Bool)
  /-- A failed step is retried after 1 ms; three failures make the controller FAILED (R444). -/
  | trainRetry (ok : Bool)
  /-- Full training of the controllers completes and MEM_STAT.STATE reads READY (R442). -/
  | trainingDone (ok : Bool)
  /-- A write of MEM_CMD.FREQ_GO starts a change of the GDDR6 pin rate (R445). -/
  | freqGo (src : Source) (v : Word)
  /-- A GDDR6 row activation is counted toward the row-disturbance threshold (R447). -/
  | rowActivate (ch : Fin 16) (bank : Fin 16) (row : BitVec 15) (req : BitVec 6)
  /-- The throttling of a requester on a bank ends after TIME ms (R448). -/
  | throttleEnd (ch : Fin 16) (bank : Fin 16) (req : BitVec 6)
  /-- The patrol scrubber reads and corrects a GDDR6 ECC word (R449). -/
  | patrolScrub (word : Nat) (errors : Fin 3)
  /-- A GDDR6 row-sparing copy completes and the row is redirected (R450). -/
  | rowSpareDone (ch : Fin 16) (bank : Fin 16) (row : BitVec 15)
  /-- A monitor-ADC conversion slot starts and its result is written, flagged and cross-checked (R455). -/
  | adcSlot (measure : Bool) (raw0 raw1 : BitVec 16)
  /-- A write of AUX_CMD.INJ requests an injected conversion (R462). -/
  | inj (src : Source) (v : Word)
  /-- A write of AUX_CMD.CAL_GO measures a calibration point (R465). -/
  | calGo (src : Source) (v : Word)
  /-- A calibration point's conversions finish and Z or F is stored (R465). -/
  | calPointDone
  /-- A write of AUX_CMD.CAL_APPLY computes and writes GAIN and OFS (R465). -/
  | calApply (src : Source) (v : Word)
  /-- A write of AUX_DIAG_CTRL.GO starts a path diagnosis (R464). -/
  | diagGo (src : Source) (v : Word)
  /-- A write of AUX_DIAG_CTRL.ABORT ends a running diagnosis (R464). -/
  | diagAbort (src : Source) (v : Word)
  /-- A diagnosis completes with MAXDEV, PASS and DONE (R464). -/
  | diagDone
  /-- A servo loop computes its PID law after DIV results and writes its output (R468). -/
  | loopCompute (l : Fin 4)
  /-- A write of SRV_LOOP_CMD.CLR_FAULT returns a loop to its applied mode (R469). -/
  | clrFault (l : Fin 4) (src : Source) (v : Word)
  /-- A PWM period starts and takes its new DUTY (R473). -/
  | pwmPeriod (p : Fin 4)
  /-- A write of AUX_SPI_CMD.GO sends AUX_SPI_TX (R475). -/
  | spiGo (m : Fin 8) (src : Source) (v : Word)
  /-- An SPI frame ends at the rise of chip select and its reply is captured (R475). -/
  | spiDone (m : Fin 8) (rx : Word)
  /-- A write of SRV_SS_CMD.GO starts the stepped-span sequencer (R483). -/
  | ssGo (src : Source) (v : Word)
  /-- A write of SRV_SS_CMD.STOP ends the sequence after the current step (R483). -/
  | ssStop (src : Source) (v : Word)
  /-- A write of SRV_SS_CMD.ABORT ends the step at once and stops (R483). -/
  | ssAbort (src : Source) (v : Word)
  /-- A step starts, closing the gate, writing its values and frames and driving the flatness pointer (R478). -/
  | stepStart
  /-- A step's settle time has passed and its frames are done, so the gate opens (R479). -/
  | gateOpen
  /-- A step ends, writes its log entry and the next step starts or the sequence stops (R479). -/
  | stepEnd
  /-- The gate has not opened by the late limit, so the step ends as late (R480). -/
  | stepLate
  /-- A Constellation port reaches UP after alignment and delay measurement (R487). -/
  | portUp (p : Fin 4) (delay : Nat) (peer : Option (Nat × Nat × Nat)) (count : Option Nat) (c : Nat) (healed : Bool)
  /-- A Constellation port goes DOWN and the Constellation reacts as a tree or ring (R488). -/
  | portDown (p : Fin 4) (cause : BitVec 4) (remote : Option Nat) (members : Nat)
  /-- A frame that fails its CRC is resent (R488). -/
  | frameResend (p : Fin 4)
  /-- Every 100 us a node sends a Pulsar beacon to each child (R493). -/
  | beaconSend
  /-- A child stamps a beacon, replies and disciplines its Almanac from the offset (R493). -/
  | beaconReceive (p : Fin 4) (tTx : Stamp) (tq : BitVec 2) (tRx : Stamp) (c : Nat)
  /-- A write of CST_OP_CMD.BCAST sends a 32-byte broadcast (R499). -/
  | bcast (src : Source) (v : Word)
  /-- A broadcast reaches a node and enters its receive queue (R499). -/
  | broadcastDeliver (sender : BitVec 14) (data : Vector Word 8)
  /-- A write of CST_OP_CMD.BC_POP removes the oldest broadcast (R499). -/
  | bcPop (src : Source) (v : Word)
  /-- A write of CST_OP_CMD.ARRIVE marks the node arrived at the barrier (R500). -/
  | arrive (src : Source) (v : Word)
  /-- The root releases a barrier and each node sets BAR_DONE (R500). -/
  | barrierRelease (stamp : Stamp) (lost : Bool)
  /-- A write of CST_OP_CMD.SNAP at the root requests a consistent snapshot (R501). -/
  | cstSnap (src : Source) (v : Word)
  /-- At T_S each node captures its 64-byte snapshot record (R501). -/
  | snapshotCapture (request : Option (Stamp × Word × Bool))
  /-- A write of CST_OP_CMD.APPLY at the root starts a synchronised apply (R502). -/
  | cstApply (src : Source) (v : Word)
  /-- A node receives PREPARE, runs admission and locks the selected groups (R502). -/
  | applyPrepare (groups : Word)
  /-- A node applies its pending copies at T_A, or aborts on ABORT (R502). -/
  | applyCommit (e : ApplyEnd)
  /-- A write of CST_OP_CMD.RESET at the root schedules a system reset (R503). -/
  | cstReset (src : Source) (v : Word)
  /-- At T_R each node behaves as if RESET_N fell and rose (R503). -/
  | systemReset (request : Option Stamp)
  /-- A global operation not complete within CST_OP_TO ends with ERR_TIMEOUT (R498). -/
  | opTimeout (k : Fin 5)
  /-- A write to a register with no row of its own lands in the pending copy or at once, or is rejected (R517). -/
  | registerWrite (src : Source) (addr size : Nat) (v : BitVec 64)
  /-- A write to the set alias sets the written RW bits (R512). -/
  | setAlias (src : Source) (addr : Nat) (v : Word)
  /-- A write to the clear alias clears the written RW bits (R512). -/
  | clearAlias (src : Source) (addr : Nat) (v : Word)
  /-- A write to the toggle alias inverts the written RW bits (R512). -/
  | toggleAlias (src : Source) (addr : Nat) (v : Word)
  /-- A read of an RC field returns it and clears the returned bits (R515). -/
  | readClear (src : Source) (addr size : Nat)
  /-- A read of word 0 of a multi-word register latches its higher words (R68). -/
  | latchingRead (src : Source) (addr size : Nat)
  /-- A write of BLOCK_GROUP assigns a block to an update group (R519). -/
  | groupWrite (w : Nat) (src : Source) (v : Word)
  /-- Every 10 us a configuration-guard pass computes its CRC and compares it with REF (R529). -/
  | guardPass
  /-- A write of SYS_CFGCRC_REF commits a new reference at once (R531). -/
  | cfgcrcRefWrite (src : Source) (v : Word)
  /-- A write of SYS_ERR_CMD.POP removes the oldest error-log entry (R533). -/
  | errLogPop (src : Source) (v : Word)
  /-- The directory and image header are read, host-port parameters set and link training enabled (R543). -/
  | headerRead
  /-- A boot candidate's image checks complete; it passes, or is REJECTED and the next is tried (R542). -/
  | imageCheck (ownFmt : BitVec 8) (sigOk : Bool)
  /-- Complex A starts the firmware and SYS_STATE enters LOAD (R543). -/
  | firmwareStart
  /-- The standby complex finishes loading firmware and STBY reads READY or FAILED (R546). -/
  | standbyLoaded (ok : Bool)
  /-- A REG configuration record writes consecutive registers (R548). -/
  | regRecord
  /-- A MASK configuration record read-modify-writes a register (R548). -/
  | maskRecord
  /-- An SRAM configuration record writes bytes to SRAM under BAR2 rules (R548). -/
  | sramRecord
  /-- A POWER configuration record switches domains on and waits for them (R548). -/
  | powerRecord
  /-- A WAIT configuration record starts waiting for its condition (R548). -/
  | waitRecord
  /-- A WAIT record's condition does not hold within its timeout and LOAD fails with ERR_TIMEOUT (R549). -/
  | waitRecordTimeout
  /-- An APPLY configuration record strobes SYS_UPDATE and waits for DONE (R548). -/
  | applyRecord
  /-- A CRCREF configuration record writes SYS_CFGCRC_REF (R548). -/
  | crcrefRecord
  /-- The END record runs admission on the applied set-up and enters RUN, or fails LOAD (R549). -/
  | endRecord
  /-- No CONFIG session completes within HOST_CFG_TO and LAST_ERR takes ERR_TIMEOUT (R550). -/
  | hostCfgTimeout
  /-- A write of UPD_CMD.START opens an update session (R551). -/
  | updStart (src : Source) (v : Word)
  /-- A write of UPD_CMD.ABORT closes the open session and empties its slot (R555). -/
  | updAbort (src : Source) (v : Word)
  /-- A DATA block handed over by UPD_BLK.GO is checked and its payload written (R553). -/
  | dataBlock (src : Source) (v : Word)
  /-- A COPY block handed over by UPD_BLK.GO copies bytes from the image in service (R553). -/
  | copyBlock (src : Source) (v : Word)
  /-- A FILL block handed over by UPD_BLK.GO fills bytes with one value (R553). -/
  | fillBlock (src : Source) (v : Word)
  /-- An END block closes the session and starts verification of the written slot or runs the delivered configuration (R554). -/
  | endBlock (src : Source) (v : Word)
  /-- An accepted block's bytes are programmed in flash and its buffer slot frees (R553). -/
  | blockProgrammed
  /-- The read-back check of a written slot completes; it becomes STAGED or REJECTED (R554). -/
  | slotVerify (ownFmt : BitVec 8) (sigOk : Bool)
  /-- The flash reports a failed program or erase and the session ends with ERR_CHECK (R555). -/
  | flashFail
  /-- A write of UPD_CMD.HANDOVER starts moving the active role to the standby complex (R556). -/
  | handover (src : Source) (v : Word)
  /-- The handover check and freeze complete and the complexes exchange roles on one edge (R557). -/
  | handoverSwitch
  /-- The new active complex takes the state, drains the FLT queue and lifts the freeze (R557). -/
  | handoverResume
  /-- A write of UPD_CMD.CONFIRM makes the TRIAL slot CONFIRMED (R559). -/
  | confirm (src : Source) (v : Word)
  /-- A write of UPD_CMD.REVERT hands over back to the old firmware (R559). -/
  | revert (src : Source) (v : Word)
  /-- A write of UPD_CMD.BOOTNEXT moves a STAGED slot to NEXT (R561). -/
  | bootnext (src : Source) (v : Word)
  /-- A write of UPD_CMD.LOADSTBY reloads the standby from the CONFIRMED slot (R563). -/
  | loadstby (src : Source) (v : Word)
  /-- UPD_TRIAL_LEFT reaches 0 and the engine reverts automatically (R559). -/
  | trialExpiry
  /-- A management complex's watchdog expires, causing a revert, a failover, a standby reload or a fatal fault (R575). -/
  | watchdogExpiry (standby : Bool)
  /-- A write of FLT_CMD.ACK clears acknowledgeable recoverable conditions (R570). -/
  | fltAck (src : Source) (v : Word)
  /-- A write of FLT_CMD.POP removes the oldest fault-log record (R568). -/
  | faultLogPop (src : Source) (v : Word)
  /-- The SRAM scrubber reads and corrects words over each FLT_SCRUB period (R572). -/
  | sramScrub (word : Nat) (errors : Fin 3)
  /-- An SRAM row-sparing copy completes and the row is redirected, raising SRAM_SPARED (R574). -/
  | sramRowSpared
  /-- Every 1 ms the hottest die temperature is sampled and compared with WARN and the trip level (R576). -/
  | thermSample (tj : Int) (sensor : BitVec 6)
  /-- A write of PWR_DOM_CMD.UP starts powering a domain up, optionally with RESTORE (R584). -/
  | pwrUp (d : Fin 24) (src : Source) (v : Word)
  /-- A write of PWR_DOM_CMD.DOWN requests a domain power-down through its checks and drain (R585). -/
  | pwrDown (d : Fin 24) (p : List (Fin 32 × Nat × List Byte)) (src : Source) (v : Word)
  /-- A write of PWR_DOM_CMD.FORCE with DOWN powers a domain down without waiting for the drain (R587). -/
  | pwrForce (d : Fin 24) (p : List (Fin 32 × Nat × List Byte)) (src : Source) (v : Word)
  /-- A domain finishes powering up and becomes ON, running any deferred DOWN (R584). -/
  | domainOn (d : Fin 24) (p : List (Fin 32 × Nat × List Byte))
  /-- The active complex rewrites the pending copies of a restored domain and sets RESTORED (R584). -/
  | restoreDone (d : Fin 24)
  /-- Every stall using a draining domain holds and the domain switches off (R586). -/
  | drainDone (d : Fin 24) (p : List (Fin 32 × Nat × List Byte))
  /-- The drain does not end within PWR_DRAIN_TO and the power-down is refused with ERR_BUSY (R586). -/
  | drainTimeout (d : Fin 24)
  /-- A domain completes switching off and begins any pending restart (R585). -/
  | domainOff (d : Fin 24)
  /-- SL_SYNCNc rises once every lane of converter c is in WAIT_MARK. In subclass 1 it rises at the next LMFC boundary, and after a loss not before the minimum low time of 5 frames plus 9 characters (R102). -/
  | slSyncnRise (c : Fin 4)
  /-- A storage link comes up, and the NVMe engine starts bringing drive d up (R419). -/
  | driveLinkUp (d : Fin 4) (width : BitVec 6) (speed : BitVec 3)
  /-- The active time of ⌊DUTY × PERIOD / 65,536⌋ ACLK cycles within a PWM period runs out, and the output returns to its inactive level (R473). -/
  | pwmActiveEnd (p : Fin 4)
  /-- A child's reply to a Pulsar beacon reaches the parent, which stamps its arrival for the next beacon (R493). -/
  | beaconReply (p : Fin 4) (stamp : Stamp)
  /-- A child's report that it and its whole subtree have arrived at the barrier reaches its parent, which reports upward once its own subtree is complete (R500). -/
  | arrivalReport (p : Fin 4)
  /-- A child's admission verdict for a synchronised apply reaches its parent, which reports upward once its whole subtree has reported (R502). -/
  | verdictReport (p : Fin 4) (node : BitVec 14) (code : BitVec 8)
deriving DecidableEq, Repr

end Sys2Proof
end

