-- ==== Sys2Proof/Machine/Crc.lean ====
section
/-! DEFINITION. The CRCs of R392, bit by bit, and the value a finished CRC publishes. -/

namespace Sys2Proof.Machine

/-- One bit into a reflected 32-bit CRC with the reflected polynomial `p`. -/
def crcBitR (p c : BitVec 32) : BitVec 32 := if c.getLsbD 0 then (c >>> 1) ^^^ p else c >>> 1

/-- One byte into a reflected 32-bit CRC. -/
def crcByteR (p c : BitVec 32) (b : Byte) : BitVec 32 :=
  let x := c ^^^ b.setWidth 32
  crcBitR p (crcBitR p (crcBitR p (crcBitR p (crcBitR p (crcBitR p (crcBitR p (crcBitR p x)))))))

/-- One bit into CRC-16-CCITT. -/
def crcBit16 (c : BitVec 16) : BitVec 16 := if c.getLsbD 15 then (c <<< 1) ^^^ 0x1021 else c <<< 1

/-- One byte into CRC-16-CCITT. -/
def crcByte16 (c : BitVec 16) (b : Byte) : BitVec 16 :=
  let x := c ^^^ (b.setWidth 16 <<< 8)
  crcBit16 (crcBit16 (crcBit16 (crcBit16 (crcBit16 (crcBit16 (crcBit16 (crcBit16 x)))))))

/-- The initial register of ALG `alg` (R392). -/
def crcInit (alg : Nat) : BitVec 32 := if alg = 2 then 0xFFFF else 0xFFFFFFFF

/-- One byte into the register of ALG `alg`. -/
def crcStep (alg : Nat) (c : BitVec 32) (b : Byte) : BitVec 32 :=
  match alg with
  | 0 => crcByteR 0x82F63B78 c b
  | 1 => crcByteR 0xEDB88320 c b
  | _ => (crcByte16 (c.setWidth 16) b).setWidth 32

/-- The published value: the final XOR (R392). -/
def crcFinal (alg : Nat) (c : BitVec 32) : BitVec 32 := if alg = 2 then c else c ^^^ 0xFFFFFFFF

/-- CRC-32C of a list of bytes. -/
def crc32c (bs : List Byte) : BitVec 32 := crcFinal 0 (bs.foldl (crcStep 0) (crcInit 0))

/-- The low n bytes of a number, little-endian. -/
def leBytes : Nat → Nat → List Byte
  | 0, _ => []
  | n + 1, v => BitVec.ofNat 8 v :: leBytes n (v / 256)

/-- The ten bytes of a stamp in the layout of R182: fraction in the first five, seconds in the next five. -/
def stampBytes (t : Stamp) : List Byte := leBytes 10 t.toNat

end Sys2Proof.Machine
end

