-- ==== Sys2Proof/Config.lean ====
section
/-! DEFINITION. What an implementation fixes and the free values: constants with no body, which no proof can see. -/

namespace Sys2Proof

/-- The k-th free value: a value the manual leaves open. Nothing constrains it. The machine reads it at the counter
State.freeCtr and advances the counter, so that every open value is a fresh one. -/
opaque Config.freeValue : Nat → BitVec 64

/-- FCLK periods from the arrival of a sample of converter c at the balls to the edge on which FCV delivers it (R247): the
manual says the latency is fixed and gives no number. DESIGN CHOICE (log entry 38). -/
opaque Config.frontLatency : Nat → Nat

/-- The sense of the Lodestar carry flag after a subtraction (R342): the manual says C is set for the last result and not
whether a borrow sets or clears it. DESIGN CHOICE (log entry 54). -/
opaque Config.subCarryIsBorrow : Bool

/-- The left shift of MVDA, which moves a data register into an accumulator (R348): the manual gives no scale.
DESIGN CHOICE (log entry 55). -/
opaque Config.mvdaShift : Nat

/-- The standard coefficient set of the DDCs, tap by tap, as the words the firmware writes (R145, R146): the manual gives
its response and no numbers. DESIGN CHOICE (log entry 19). -/
opaque Config.standardTap : Nat → BitVec 32

/-- The bytes of the attached flash above 32 MiB, as its SFDP table declares them (R535): a choice of the board, so that the
flash has 32 MiB to 256 MiB. DESIGN CHOICE (log entry 89). -/
opaque Config.flashOver : Fin 0xE000001

/-- The size of the attached flash in bytes: 32 MiB to 256 MiB (R535). -/
def Config.flashSize : Nat := 0x2000000 + Config.flashOver.val

/-- The number of the first snapshot since power-up (R501): the manual counts snapshots and does not say from what.
DESIGN CHOICE (log entry 81). -/
opaque Config.firstSnapNo : Nat

/-- The address of the SRAM row that an SRAM address lies in, and the macro that holds the row (R574): the manual gives
neither geometry. DESIGN CHOICE (log entry 71). -/
opaque Config.sramRow : Nat → Nat
opaque Config.sramMacro : Nat → Nat

/-- The bytes of the post-mortem dump that hold the state of the management complexes and the SCLK event trace (R580), by
dump and place in the dump region: the manual does not lay them out. DESIGN CHOICE (log entry 98). -/
opaque Config.dumpByte : Nat → Nat → BitVec 8

end Sys2Proof
end

