-- ==== Sys2Proof/Machine/Fields.lean ====
section
/-! DEFINITION. The types a register table of the manual is made of: access codes, value checks, field rows, register
rows, and the place of one field in BAR0. -/

namespace Sys2Proof.Machine

/-- The place of a field: the BAR0 address of its register, its lowest bit and its width in bits. -/
structure Fld where
  addr : Nat
  lo : Nat
  n : Nat
deriving DecidableEq, Repr

/-- Access code of a field (R10) joined with the way it takes effect (R517).
`rwBuf`: RW, buffered. `rwShadow`: RW of DPY, shadow. `rwImm`: RW, immediate. `rwHw`: RW+H, immediate. -/
inductive Acc where
  | ro | rc | rwBuf | rwShadow | rwImm | rwHw | wo | wp
deriving DecidableEq, Repr

/-- What a field's table says of the values it takes (R12). -/
inductive Chk where
  /-- every value is taken -/
  | any
  /-- a value outside lo..hi is rejected with ERR_RANGE -/
  | range (lo hi : Nat)
  /-- a value not in the list is rejected with ERR_RANGE -/
  | oneOf (vs : List Nat)
  /-- an encoding above the given one is reserved: ERR_RESERVED -/
  | resvAbove (hi : Nat)
  /-- the encodings in the list are reserved: ERR_RESERVED -/
  | resvIn (vs : List Nat)
  /-- the values in the list are out of range: ERR_RANGE -/
  | rangeNotIn (vs : List Nat)
deriving DecidableEq, Repr

/-- One field of a register table: lowest bit, width, access, reset value, value check. -/
structure FieldRow where
  lo : Nat
  n : Nat
  acc : Acc
  rst : Nat
  chk : Chk
deriving DecidableEq, Repr

/-- One register, or an array of `cnt` registers: element i stands at
base + (i / grp) * outer + (i % grp) * inner. -/
structure RegRow where
  base : Nat
  cnt : Nat
  grp : Nat
  outer : Nat
  inner : Nat
  fields : List FieldRow
deriving DecidableEq, Repr

end Sys2Proof.Machine
end

