-- ==== Sys2Proof/Machine/RegNamesA.lean ====
section
/-! DEFINITION. Names of the registers and fields of the BAR0 register map, part A: for each register its
BAR0 address (window * 0x10000 + offset), for each field its place in the word. Transcribed from the register
tables of spec/ (the rule that holds each table stands before its registers). An index is taken modulo the number of elements: a name never reaches another register. -/

namespace Sys2Proof.Machine

/-! ### Block SYS, window 0x00 -/

/-! R21 of spec/00_scope.md -/
def SYS_ID.addr : Nat := 0x0
def SYS_ID.PART : Fld := ⟨SYS_ID.addr, 16, 16⟩
def SYS_ID.SI_MAJOR : Fld := ⟨SYS_ID.addr, 8, 8⟩
def SYS_ID.SI_MINOR : Fld := ⟨SYS_ID.addr, 0, 8⟩
/-! R20 of spec/00_scope.md -/
def SYS_STATE.addr : Nat := 0x4
def SYS_STATE.LAST_ERR : Fld := ⟨SYS_STATE.addr, 8, 8⟩
def SYS_STATE.STATE : Fld := ⟨SYS_STATE.addr, 0, 4⟩
/-! R534 of spec/16_register_model.md -/
def SYS_UPDATE.addr : Nat := 0x10
def SYS_UPDATE.GROUPS : Fld := ⟨SYS_UPDATE.addr, 0, 32⟩
def SYS_UPDATE_CTRL.addr : Nat := 0x14
def SYS_UPDATE_CTRL.CANCEL : Fld := ⟨SYS_UPDATE_CTRL.addr, 8, 1⟩
def SYS_UPDATE_CTRL.CHECK_ONLY : Fld := ⟨SYS_UPDATE_CTRL.addr, 1, 1⟩
def SYS_UPDATE_CTRL.TIMED : Fld := ⟨SYS_UPDATE_CTRL.addr, 0, 1⟩
def SYS_UPDATE_STAT.addr : Nat := 0x18
def SYS_UPDATE_STAT.APPLY_SEQ : Fld := ⟨SYS_UPDATE_STAT.addr, 16, 16⟩
def SYS_UPDATE_STAT.CODE : Fld := ⟨SYS_UPDATE_STAT.addr, 8, 8⟩
def SYS_UPDATE_STAT.CANCELLED : Fld := ⟨SYS_UPDATE_STAT.addr, 6, 1⟩
def SYS_UPDATE_STAT.SKIPPED : Fld := ⟨SYS_UPDATE_STAT.addr, 5, 1⟩
def SYS_UPDATE_STAT.LATE : Fld := ⟨SYS_UPDATE_STAT.addr, 4, 1⟩
def SYS_UPDATE_STAT.APPLIED : Fld := ⟨SYS_UPDATE_STAT.addr, 3, 1⟩
def SYS_UPDATE_STAT.DONE : Fld := ⟨SYS_UPDATE_STAT.addr, 2, 1⟩
def SYS_UPDATE_STAT.STATE : Fld := ⟨SYS_UPDATE_STAT.addr, 0, 2⟩
def SYS_UPDATE_TIME.addr : Nat := 0x20
def SYS_UPDATE_TS.addr : Nat := 0x30
/-! R47 of spec/01_architecture.md -/
def SYS_ADMIT_RESULT.addr : Nat := 0x40
def SYS_ADMIT_RESULT.LOAD : Fld := ⟨SYS_ADMIT_RESULT.addr, 16, 16⟩
def SYS_ADMIT_RESULT.INDEX : Fld := ⟨SYS_ADMIT_RESULT.addr, 12, 4⟩
def SYS_ADMIT_RESULT.RESOURCE : Fld := ⟨SYS_ADMIT_RESULT.addr, 8, 4⟩
def SYS_ADMIT_RESULT.CODE : Fld := ⟨SYS_ADMIT_RESULT.addr, 0, 8⟩
/-! R534 of spec/16_register_model.md -/
def SYS_CFGCRC_CTRL.addr : Nat := 0x50
def SYS_CFGCRC_CTRL.AUTO : Fld := ⟨SYS_CFGCRC_CTRL.addr, 1, 1⟩
def SYS_CFGCRC_CTRL.EN : Fld := ⟨SYS_CFGCRC_CTRL.addr, 0, 1⟩
def SYS_CFGCRC_REF.addr : Nat := 0x54
def SYS_CFGCRC_REF.REF : Fld := ⟨SYS_CFGCRC_REF.addr, 0, 32⟩
def SYS_CFGCRC_NOW.addr : Nat := 0x58
def SYS_CFGCRC_NOW.NOW : Fld := ⟨SYS_CFGCRC_NOW.addr, 0, 32⟩
def SYS_CFGCRC_STAT.addr : Nat := 0x5C
def SYS_CFGCRC_STAT.PASSES : Fld := ⟨SYS_CFGCRC_STAT.addr, 16, 16⟩
def SYS_CFGCRC_STAT.MISMATCH : Fld := ⟨SYS_CFGCRC_STAT.addr, 1, 1⟩
def SYS_CFGCRC_STAT.MATCH : Fld := ⟨SYS_CFGCRC_STAT.addr, 0, 1⟩
def SYS_CFGCRC_EXCL.addr : Nat := 0x60
def SYS_CFGCRC_EXCL.EXCL : Fld := ⟨SYS_CFGCRC_EXCL.addr, 0, 28⟩
def SYS_ERR_LOG.addr (i : Nat) : Nat := 0x80 + i % 4 * 0x4
def SYS_ERR_LOG.W (i : Nat) : Fld := ⟨SYS_ERR_LOG.addr i, 0, 32⟩
def SYS_ERR_STAT.addr : Nat := 0x90
def SYS_ERR_STAT.DROP : Fld := ⟨SYS_ERR_STAT.addr, 16, 16⟩
def SYS_ERR_STAT.OVF : Fld := ⟨SYS_ERR_STAT.addr, 8, 1⟩
def SYS_ERR_STAT.COUNT : Fld := ⟨SYS_ERR_STAT.addr, 0, 5⟩
def SYS_ERR_CMD.addr : Nat := 0x94
def SYS_ERR_CMD.POP : Fld := ⟨SYS_ERR_CMD.addr, 0, 1⟩
def SYS_ERR.addr : Nat := 0x3FF4
def SYS_ERR.CODE : Fld := ⟨SYS_ERR.addr, 0, 8⟩
def SYS_ERR_OFS_LO.addr : Nat := 0x3FF8
def SYS_ERR_OFS_LO.OFS : Fld := ⟨SYS_ERR_OFS_LO.addr, 0, 32⟩
def SYS_ERR_OFS_HI.addr : Nat := 0x3FFC
def SYS_ERR_OFS_HI.SPACE : Fld := ⟨SYS_ERR_OFS_HI.addr, 30, 2⟩
def SYS_ERR_OFS_HI.OFS_HI : Fld := ⟨SYS_ERR_OFS_HI.addr, 0, 4⟩

/-! ### Block PWR, window 0x01 -/

/-! R589 of spec/18_reliability_power.md -/
def PWR_ON.addr : Nat := 0x10000
def PWR_ON.ON : Fld := ⟨PWR_ON.addr, 0, 24⟩
def PWR_DRAIN_TO.addr : Nat := 0x10004
def PWR_DRAIN_TO.DRAIN_TO : Fld := ⟨PWR_DRAIN_TO.addr, 0, 24⟩
def PWR_CNT.addr : Nat := 0x10008
def PWR_CNT.FORCED : Fld := ⟨PWR_CNT.addr, 0, 16⟩
def PWR_DOM_CMD.addr (i : Nat) : Nat := 0x10100 + i % 24 * 0x8
def PWR_DOM_CMD.RESTORE (i : Nat) : Fld := ⟨PWR_DOM_CMD.addr i, 3, 1⟩
def PWR_DOM_CMD.FORCE (i : Nat) : Fld := ⟨PWR_DOM_CMD.addr i, 2, 1⟩
def PWR_DOM_CMD.DOWN (i : Nat) : Fld := ⟨PWR_DOM_CMD.addr i, 1, 1⟩
def PWR_DOM_CMD.UP (i : Nat) : Fld := ⟨PWR_DOM_CMD.addr i, 0, 1⟩
def PWR_DOM_STAT.addr (i : Nat) : Nat := 0x10104 + i % 24 * 0x8
def PWR_DOM_STAT.LAST_CODE (i : Nat) : Fld := ⟨PWR_DOM_STAT.addr i, 24, 8⟩
def PWR_DOM_STAT.RESTORED (i : Nat) : Fld := ⟨PWR_DOM_STAT.addr i, 10, 1⟩
def PWR_DOM_STAT.STOP_PENDING (i : Nat) : Fld := ⟨PWR_DOM_STAT.addr i, 9, 1⟩
def PWR_DOM_STAT.RESTART_PENDING (i : Nat) : Fld := ⟨PWR_DOM_STAT.addr i, 8, 1⟩
def PWR_DOM_STAT.STATE (i : Nat) : Fld := ⟨PWR_DOM_STAT.addr i, 0, 3⟩
/-! R534 of spec/16_register_model.md -/
def PWR_ERR.addr : Nat := 0x13FF4
def PWR_ERR.CODE : Fld := ⟨PWR_ERR.addr, 0, 8⟩
def PWR_ERR_OFS_LO.addr : Nat := 0x13FF8
def PWR_ERR_OFS_LO.OFS : Fld := ⟨PWR_ERR_OFS_LO.addr, 0, 32⟩
def PWR_ERR_OFS_HI.addr : Nat := 0x13FFC
def PWR_ERR_OFS_HI.SPACE : Fld := ⟨PWR_ERR_OFS_HI.addr, 30, 2⟩
def PWR_ERR_OFS_HI.OFS_HI : Fld := ⟨PWR_ERR_OFS_HI.addr, 0, 4⟩

/-! ### Block CLK, window 0x02 -/

/-! R64 of spec/02_almanac_clocks.md -/
def CLK_SYNC_CTRL.addr : Nat := 0x20020
def CLK_SYNC_CTRL.DIV_ARM : Fld := ⟨CLK_SYNC_CTRL.addr, 24, 1⟩
def CLK_SYNC_CTRL.DIV_MASK : Fld := ⟨CLK_SYNC_CTRL.addr, 8, 9⟩
def CLK_SYNC_CTRL.SYSREF_EN : Fld := ⟨CLK_SYNC_CTRL.addr, 1, 1⟩
def CLK_SYNC_CTRL.EDGE : Fld := ⟨CLK_SYNC_CTRL.addr, 0, 1⟩
def CLK_SYNC_STAT.addr : Nat := 0x20024
def CLK_SYNC_STAT.DONE : Fld := ⟨CLK_SYNC_STAT.addr, 1, 1⟩
def CLK_SYNC_STAT.ARMED : Fld := ⟨CLK_SYNC_STAT.addr, 0, 1⟩
/-! R57 of spec/02_almanac_clocks.md -/
def CLK_PLL_CTRL.addr (i : Nat) : Nat := 0x20100 + i % 9 * 0x10
def CLK_PLL_CTRL.LOCK_WIN (i : Nat) : Fld := ⟨CLK_PLL_CTRL.addr i, 28, 2⟩
def CLK_PLL_CTRL.LOCK_COUNT (i : Nat) : Fld := ⟨CLK_PLL_CTRL.addr i, 16, 12⟩
def CLK_PLL_CTRL.LOCK_TIME (i : Nat) : Fld := ⟨CLK_PLL_CTRL.addr i, 6, 10⟩
def CLK_PLL_CTRL.LOCK_MODE (i : Nat) : Fld := ⟨CLK_PLL_CTRL.addr i, 5, 1⟩
def CLK_PLL_CTRL.EN (i : Nat) : Fld := ⟨CLK_PLL_CTRL.addr i, 0, 1⟩
def CLK_PLL_STAT.addr (i : Nat) : Nat := 0x20104 + i % 9 * 0x10
def CLK_PLL_STAT.LOSS_COUNT (i : Nat) : Fld := ⟨CLK_PLL_STAT.addr i, 16, 16⟩
def CLK_PLL_STAT.LOST (i : Nat) : Fld := ⟨CLK_PLL_STAT.addr i, 2, 1⟩
def CLK_PLL_STAT.SYNCED (i : Nat) : Fld := ⟨CLK_PLL_STAT.addr i, 1, 1⟩
def CLK_PLL_STAT.LOCKED (i : Nat) : Fld := ⟨CLK_PLL_STAT.addr i, 0, 1⟩
/-! R59 of spec/02_almanac_clocks.md -/
def CLK_PLLP_CFG.addr : Nat := 0x20190
def CLK_PLLP_CFG.INT : Fld := ⟨CLK_PLLP_CFG.addr, 24, 8⟩
def CLK_PLLP_CFG.FRAC : Fld := ⟨CLK_PLLP_CFG.addr, 0, 24⟩
def CLK_PLLP_DIV.addr : Nat := 0x20194
def CLK_PLLP_DIV.SEED : Fld := ⟨CLK_PLLP_DIV.addr, 16, 16⟩
def CLK_PLLP_DIV.DITHER_EN : Fld := ⟨CLK_PLLP_DIV.addr, 8, 1⟩
def CLK_PLLP_DIV.ODIV : Fld := ⟨CLK_PLLP_DIV.addr, 0, 7⟩
/-! R534 of spec/16_register_model.md -/
def CLK_PEND.addr : Nat := 0x23FEC
def CLK_PEND.DIRTY : Fld := ⟨CLK_PEND.addr, 0, 1⟩
def CLK_GROUP.addr : Nat := 0x23FF0
def CLK_GROUP.GROUP : Fld := ⟨CLK_GROUP.addr, 0, 5⟩
def CLK_ERR.addr : Nat := 0x23FF4
def CLK_ERR.CODE : Fld := ⟨CLK_ERR.addr, 0, 8⟩
def CLK_ERR_OFS_LO.addr : Nat := 0x23FF8
def CLK_ERR_OFS_LO.OFS : Fld := ⟨CLK_ERR_OFS_LO.addr, 0, 32⟩
def CLK_ERR_OFS_HI.addr : Nat := 0x23FFC
def CLK_ERR_OFS_HI.SPACE : Fld := ⟨CLK_ERR_OFS_HI.addr, 30, 2⟩
def CLK_ERR_OFS_HI.OFS_HI : Fld := ⟨CLK_ERR_OFS_HI.addr, 0, 4⟩

/-! ### Block ALM, window 0x03 -/

/-! R67 of spec/02_almanac_clocks.md -/
def ALM_CTRL.addr : Nat := 0x30000
def ALM_CTRL.STEP : Fld := ⟨ALM_CTRL.addr, 12, 1⟩
def ALM_CTRL.AUTO_STEP : Fld := ⟨ALM_CTRL.addr, 11, 1⟩
def ALM_CTRL.SLEW_MAX : Fld := ⟨ALM_CTRL.addr, 9, 2⟩
def ALM_CTRL.PPSO_W : Fld := ⟨ALM_CTRL.addr, 6, 2⟩
def ALM_CTRL.PPSO_EN : Fld := ⟨ALM_CTRL.addr, 5, 1⟩
def ALM_CTRL.PPS_EDGE : Fld := ⟨ALM_CTRL.addr, 4, 1⟩
def ALM_CTRL.REF_FREQ : Fld := ⟨ALM_CTRL.addr, 3, 1⟩
def ALM_CTRL.SRC : Fld := ⟨ALM_CTRL.addr, 0, 2⟩
def ALM_STAT.addr : Nat := 0x30004
def ALM_STAT.PPS_REJECT : Fld := ⟨ALM_STAT.addr, 16, 16⟩
def ALM_STAT.REF_OFF_RANGE : Fld := ⟨ALM_STAT.addr, 12, 1⟩
def ALM_STAT.TDC_CAL_OK : Fld := ⟨ALM_STAT.addr, 11, 1⟩
def ALM_STAT.XTAL_OK : Fld := ⟨ALM_STAT.addr, 10, 1⟩
def ALM_STAT.PPS_PRESENT : Fld := ⟨ALM_STAT.addr, 9, 1⟩
def ALM_STAT.REF_PRESENT : Fld := ⟨ALM_STAT.addr, 8, 1⟩
def ALM_STAT.STEP_PENDING : Fld := ⟨ALM_STAT.addr, 3, 1⟩
def ALM_STAT.STEPPED : Fld := ⟨ALM_STAT.addr, 2, 1⟩
def ALM_STAT.TQ : Fld := ⟨ALM_STAT.addr, 0, 2⟩
def ALM_NOW.addr : Nat := 0x30010
def ALM_SET.addr : Nat := 0x30020
def ALM_STEP_LAST.addr (i : Nat) : Nat := 0x30030 + i % 2 * 0x4
def ALM_STEP_LAST.W (i : Nat) : Fld := ⟨ALM_STEP_LAST.addr i, 0, 32⟩
/-! R73 of spec/02_almanac_clocks.md -/
def ALM_PPS_ERR.addr : Nat := 0x30038
def ALM_PPS_ERR.ERR : Fld := ⟨ALM_PPS_ERR.addr, 0, 32⟩
/-! R67 of spec/02_almanac_clocks.md -/
def ALM_SYNC_TS.addr : Nat := 0x30040
/-! R80 of spec/02_almanac_clocks.md -/
def ALM_LAT_COMP.addr (i : Nat) : Nat := 0x30050 + i % 4 * 0x4
def ALM_LAT_COMP.W (i : Nat) : Fld := ⟨ALM_LAT_COMP.addr i, 0, 32⟩
/-! R82 of spec/02_almanac_clocks.md -/
def ALM_RATE_ERR.addr (i : Nat) : Nat := 0x30060 + i % 4 * 0x4
def ALM_RATE_ERR.PPB (i : Nat) : Fld := ⟨ALM_RATE_ERR.addr i, 0, 32⟩
/-! R87 of spec/02_almanac_clocks.md -/
def ALM_TDC_CTRL.addr : Nat := 0x30100
def ALM_TDC_CTRL.ABORT : Fld := ⟨ALM_TDC_CTRL.addr, 25, 1⟩
def ALM_TDC_CTRL.ARM : Fld := ⟨ALM_TDC_CTRL.addr, 24, 1⟩
def ALM_TDC_CTRL.STOP_COUNT : Fld := ⟨ALM_TDC_CTRL.addr, 16, 3⟩
def ALM_TDC_CTRL.STOP_MASK : Fld := ⟨ALM_TDC_CTRL.addr, 8, 8⟩
def ALM_TDC_CTRL.START_SEL : Fld := ⟨ALM_TDC_CTRL.addr, 0, 3⟩
def ALM_TDC_TIMEOUT.addr : Nat := 0x30104
def ALM_TDC_TIMEOUT.TIMEOUT : Fld := ⟨ALM_TDC_TIMEOUT.addr, 0, 24⟩
def ALM_TDC_STAT.addr : Nat := 0x30108
def ALM_TDC_STAT.MISSED : Fld := ⟨ALM_TDC_STAT.addr, 16, 8⟩
def ALM_TDC_STAT.COUNT : Fld := ⟨ALM_TDC_STAT.addr, 8, 3⟩
def ALM_TDC_STAT.TIMEOUT : Fld := ⟨ALM_TDC_STAT.addr, 2, 1⟩
def ALM_TDC_STAT.DONE : Fld := ⟨ALM_TDC_STAT.addr, 1, 1⟩
def ALM_TDC_STAT.BUSY : Fld := ⟨ALM_TDC_STAT.addr, 0, 1⟩
def ALM_TDC_START.addr : Nat := 0x30110
def ALM_TDC_RESULT_LO.addr (i : Nat) : Nat := 0x30120 + i % 7 * 0x8
def ALM_TDC_RESULT_LO.INTERVAL (i : Nat) : Fld := ⟨ALM_TDC_RESULT_LO.addr i, 0, 32⟩
def ALM_TDC_RESULT_HI.addr (i : Nat) : Nat := 0x30124 + i % 7 * 0x8
def ALM_TDC_RESULT_HI.VALID (i : Nat) : Fld := ⟨ALM_TDC_RESULT_HI.addr i, 31, 1⟩
def ALM_TDC_RESULT_HI.EDGE (i : Nat) : Fld := ⟨ALM_TDC_RESULT_HI.addr i, 20, 1⟩
def ALM_TDC_RESULT_HI.SRC (i : Nat) : Fld := ⟨ALM_TDC_RESULT_HI.addr i, 16, 3⟩
def ALM_TDC_RESULT_HI.INTERVAL_HI (i : Nat) : Fld := ⟨ALM_TDC_RESULT_HI.addr i, 0, 9⟩
/-! R83 of spec/02_almanac_clocks.md -/
def ALM_TRIG_EDGE.addr : Nat := 0x30180
def ALM_TRIG_EDGE.EDGE : Fld := ⟨ALM_TRIG_EDGE.addr, 0, 16⟩
/-! R534 of spec/16_register_model.md -/
def ALM_PEND.addr : Nat := 0x33FEC
def ALM_PEND.DIRTY : Fld := ⟨ALM_PEND.addr, 0, 1⟩
def ALM_GROUP.addr : Nat := 0x33FF0
def ALM_GROUP.GROUP : Fld := ⟨ALM_GROUP.addr, 0, 5⟩
def ALM_ERR.addr : Nat := 0x33FF4
def ALM_ERR.CODE : Fld := ⟨ALM_ERR.addr, 0, 8⟩
def ALM_ERR_OFS_LO.addr : Nat := 0x33FF8
def ALM_ERR_OFS_LO.OFS : Fld := ⟨ALM_ERR_OFS_LO.addr, 0, 32⟩
def ALM_ERR_OFS_HI.addr : Nat := 0x33FFC
def ALM_ERR_OFS_HI.SPACE : Fld := ⟨ALM_ERR_OFS_HI.addr, 30, 2⟩
def ALM_ERR_OFS_HI.OFS_HI : Fld := ⟨ALM_ERR_OFS_HI.addr, 0, 4⟩

/-! ### Block LNK, window 0x04 -/

/-! R123 of spec/03_sample_lanes.md -/
def LNK_CTRL.addr : Nat := 0x40000
def LNK_CTRL.RESTART : Fld := ⟨LNK_CTRL.addr, 20, 4⟩
def LNK_CTRL.SYSREF_CONT : Fld := ⟨LNK_CTRL.addr, 14, 1⟩
def LNK_CTRL.SCR : Fld := ⟨LNK_CTRL.addr, 13, 1⟩
def LNK_CTRL.SUBCLASS : Fld := ⟨LNK_CTRL.addr, 11, 2⟩
def LNK_CTRL.START : Fld := ⟨LNK_CTRL.addr, 10, 1⟩
def LNK_CTRL.PROTO : Fld := ⟨LNK_CTRL.addr, 9, 1⟩
def LNK_CTRL.MODE : Fld := ⟨LNK_CTRL.addr, 4, 2⟩
def LNK_CTRL.RATE : Fld := ⟨LNK_CTRL.addr, 0, 3⟩
def LNK_FRAME.addr : Nat := 0x40004
def LNK_FRAME.L : Fld := ⟨LNK_FRAME.addr, 24, 6⟩
def LNK_FRAME.F : Fld := ⟨LNK_FRAME.addr, 20, 4⟩
def LNK_FRAME.K : Fld := ⟨LNK_FRAME.addr, 14, 6⟩
def LNK_FRAME.CS : Fld := ⟨LNK_FRAME.addr, 12, 2⟩
def LNK_FRAME.NM1 : Fld := ⟨LNK_FRAME.addr, 8, 4⟩
def LNK_FRAME.RBD : Fld := ⟨LNK_FRAME.addr, 0, 5⟩
def LNK_ADAPT.addr : Nat := 0x4000C
def LNK_ADAPT.FOM_MIN : Fld := ⟨LNK_ADAPT.addr, 16, 8⟩
def LNK_ADAPT.MODE : Fld := ⟨LNK_ADAPT.addr, 8, 2⟩
def LNK_ADAPT.DFE_INT : Fld := ⟨LNK_ADAPT.addr, 0, 8⟩
def LNK_STAT.addr : Nat := 0x40010
def LNK_STAT.SYSREF_PHASE_ERR : Fld := ⟨LNK_STAT.addr, 10, 1⟩
def LNK_STAT.SYSREF_SEEN : Fld := ⟨LNK_STAT.addr, 9, 1⟩
def LNK_STAT.LMFC_LOCK : Fld := ⟨LNK_STAT.addr, 8, 1⟩
def LNK_STAT.CONV_VALID : Fld := ⟨LNK_STAT.addr, 0, 4⟩
def LNK_CONV_STAT.addr (i : Nat) : Nat := 0x40020 + i % 4 * 0x4
def LNK_CONV_STAT.CAUSE (i : Nat) : Fld := ⟨LNK_CONV_STAT.addr i, 12, 4⟩
def LNK_CONV_STAT.OVR (i : Nat) : Fld := ⟨LNK_CONV_STAT.addr i, 7, 1⟩
def LNK_CONV_STAT.ILAS_MISMATCH (i : Nat) : Fld := ⟨LNK_CONV_STAT.addr i, 6, 1⟩
def LNK_CONV_STAT.DESKEW_FAIL (i : Nat) : Fld := ⟨LNK_CONV_STAT.addr i, 5, 1⟩
def LNK_CONV_STAT.LOST (i : Nat) : Fld := ⟨LNK_CONV_STAT.addr i, 4, 1⟩
def LNK_CONV_STAT.STATE (i : Nat) : Fld := ⟨LNK_CONV_STAT.addr i, 0, 2⟩
def LNK_CONV_CNT.addr (i : Nat) : Nat := 0x40030 + i % 4 * 0x4
def LNK_CONV_CNT.OVR_COUNT (i : Nat) : Fld := ⟨LNK_CONV_CNT.addr i, 16, 16⟩
def LNK_CONV_CNT.LOSS_COUNT (i : Nat) : Fld := ⟨LNK_CONV_CNT.addr i, 0, 16⟩
def LNK_LANE_CTRL.addr (i : Nat) : Nat := 0x40100 + i % 32 * 0x20
def LNK_LANE_CTRL.CTLE (i : Nat) : Fld := ⟨LNK_LANE_CTRL.addr i, 12, 4⟩
def LNK_LANE_CTRL.POL (i : Nat) : Fld := ⟨LNK_LANE_CTRL.addr i, 10, 1⟩
def LNK_LANE_CTRL.LOGICAL (i : Nat) : Fld := ⟨LNK_LANE_CTRL.addr i, 1, 5⟩
def LNK_LANE_CTRL.EN (i : Nat) : Fld := ⟨LNK_LANE_CTRL.addr i, 0, 1⟩
def LNK_LANE_STAT.addr (i : Nat) : Nat := 0x40104 + i % 32 * 0x20
def LNK_LANE_STAT.FOM (i : Nat) : Fld := ⟨LNK_LANE_STAT.addr i, 24, 8⟩
def LNK_LANE_STAT.LOSS_COUNT (i : Nat) : Fld := ⟨LNK_LANE_STAT.addr i, 16, 8⟩
def LNK_LANE_STAT.SKEW (i : Nat) : Fld := ⟨LNK_LANE_STAT.addr i, 8, 6⟩
def LNK_LANE_STAT.CTLE_NOW (i : Nat) : Fld := ⟨LNK_LANE_STAT.addr i, 4, 4⟩
def LNK_LANE_STAT.STATE (i : Nat) : Fld := ⟨LNK_LANE_STAT.addr i, 0, 3⟩
def LNK_LANE_ERR0.addr (i : Nat) : Nat := 0x40108 + i % 32 * 0x20
def LNK_LANE_ERR0.DISP (i : Nat) : Fld := ⟨LNK_LANE_ERR0.addr i, 16, 16⟩
def LNK_LANE_ERR0.CODE (i : Nat) : Fld := ⟨LNK_LANE_ERR0.addr i, 0, 16⟩
def LNK_LANE_ERR1.addr (i : Nat) : Nat := 0x4010C + i % 32 * 0x20
def LNK_LANE_ERR1.MARK (i : Nat) : Fld := ⟨LNK_LANE_ERR1.addr i, 16, 16⟩
def LNK_LANE_ERR1.UNEXP_K (i : Nat) : Fld := ⟨LNK_LANE_ERR1.addr i, 0, 16⟩
def LNK_LANE_DFE.addr (i : Nat) : Nat := 0x40110 + i % 32 * 0x20
def LNK_LANE_DFE.H5 (i : Nat) : Fld := ⟨LNK_LANE_DFE.addr i, 24, 6⟩
def LNK_LANE_DFE.H4 (i : Nat) : Fld := ⟨LNK_LANE_DFE.addr i, 18, 6⟩
def LNK_LANE_DFE.H3 (i : Nat) : Fld := ⟨LNK_LANE_DFE.addr i, 12, 6⟩
def LNK_LANE_DFE.H2 (i : Nat) : Fld := ⟨LNK_LANE_DFE.addr i, 6, 6⟩
def LNK_LANE_DFE.H1 (i : Nat) : Fld := ⟨LNK_LANE_DFE.addr i, 0, 6⟩
/-! R534 of spec/16_register_model.md -/
def LNK_PEND.addr : Nat := 0x43FEC
def LNK_PEND.DIRTY : Fld := ⟨LNK_PEND.addr, 0, 1⟩
def LNK_GROUP.addr : Nat := 0x43FF0
def LNK_GROUP.GROUP : Fld := ⟨LNK_GROUP.addr, 0, 5⟩
def LNK_ERR.addr : Nat := 0x43FF4
def LNK_ERR.CODE : Fld := ⟨LNK_ERR.addr, 0, 8⟩
def LNK_ERR_OFS_LO.addr : Nat := 0x43FF8
def LNK_ERR_OFS_LO.OFS : Fld := ⟨LNK_ERR_OFS_LO.addr, 0, 32⟩
def LNK_ERR_OFS_HI.addr : Nat := 0x43FFC
def LNK_ERR_OFS_HI.SPACE : Fld := ⟨LNK_ERR_OFS_HI.addr, 30, 2⟩
def LNK_ERR_OFS_HI.OFS_HI : Fld := ⟨LNK_ERR_OFS_HI.addr, 0, 4⟩

/-! ### Block FCV, window 0x05 -/

/-! R138 of spec/04_front_conversion_ddc.md -/
def FCV_MAP.addr : Nat := 0x50000
def FCV_MAP.ALIGN : Fld := ⟨FCV_MAP.addr, 12, 1⟩
def FCV_MAP.CH_EN : Fld := ⟨FCV_MAP.addr, 8, 4⟩
def FCV_MAP.CONV_SEL3 : Fld := ⟨FCV_MAP.addr, 6, 2⟩
def FCV_MAP.CONV_SEL2 : Fld := ⟨FCV_MAP.addr, 4, 2⟩
def FCV_MAP.CONV_SEL1 : Fld := ⟨FCV_MAP.addr, 2, 2⟩
def FCV_MAP.CONV_SEL0 : Fld := ⟨FCV_MAP.addr, 0, 2⟩
def FCV_STAT.addr : Nat := 0x50004
def FCV_STAT.DSAT : Fld := ⟨FCV_STAT.addr, 16, 4⟩
def FCV_STAT.ALIGN_FAIL : Fld := ⟨FCV_STAT.addr, 10, 1⟩
def FCV_STAT.IQ_PAIRED : Fld := ⟨FCV_STAT.addr, 9, 1⟩
def FCV_STAT.IQ_PAIR_FAIL : Fld := ⟨FCV_STAT.addr, 8, 1⟩
def FCV_STAT.CH_VALID : Fld := ⟨FCV_STAT.addr, 0, 4⟩
def FCV_IQ_RESID.addr : Nat := 0x50008
def FCV_IQ_RESID.RESID : Fld := ⟨FCV_IQ_RESID.addr, 0, 32⟩
def FCV_CHAN.addr (i : Nat) : Nat := 0x50100 + i % 4 * 0x20
def FCV_CHAN.FLAT_SEL (i : Nat) : Fld := ⟨FCV_CHAN.addr i, 8, 3⟩
def FCV_CHAN.FLAT_EN (i : Nat) : Fld := ⟨FCV_CHAN.addr i, 4, 1⟩
def FCV_CHAN.SPEC_INV (i : Nat) : Fld := ⟨FCV_CHAN.addr i, 0, 1⟩
def FCV_DCB.addr (i : Nat) : Nat := 0x50104 + i % 4 * 0x20
def FCV_DCB.K (i : Nat) : Fld := ⟨FCV_DCB.addr i, 8, 5⟩
def FCV_DCB.CLR (i : Nat) : Fld := ⟨FCV_DCB.addr i, 3, 1⟩
def FCV_DCB.AUTO_FRZ (i : Nat) : Fld := ⟨FCV_DCB.addr i, 2, 1⟩
def FCV_DCB.FREEZE (i : Nat) : Fld := ⟨FCV_DCB.addr i, 1, 1⟩
def FCV_DCB.EN (i : Nat) : Fld := ⟨FCV_DCB.addr i, 0, 1⟩
def FCV_DC_EST_I.addr (i : Nat) : Nat := 0x50108 + i % 4 * 0x20
def FCV_DC_EST_I.EST (i : Nat) : Fld := ⟨FCV_DC_EST_I.addr i, 0, 32⟩
def FCV_DC_EST_Q.addr (i : Nat) : Nat := 0x5010C + i % 4 * 0x20
def FCV_DC_EST_Q.EST (i : Nat) : Fld := ⟨FCV_DC_EST_Q.addr i, 0, 32⟩
def FCV_CH_CNT.addr (i : Nat) : Nat := 0x50110 + i % 4 * 0x20
def FCV_CH_CNT.DSAT_COUNT (i : Nat) : Fld := ⟨FCV_CH_CNT.addr i, 0, 16⟩
def FCV_IQ_GAIN.addr : Nat := 0x50200
def FCV_IQ_GAIN.GAIN : Fld := ⟨FCV_IQ_GAIN.addr, 0, 18⟩
def FCV_IQ_PHASE.addr : Nat := 0x50204
def FCV_IQ_PHASE.PHASE : Fld := ⟨FCV_IQ_PHASE.addr, 0, 16⟩
def FCV_IQ_DELAY.addr : Nat := 0x50208
def FCV_IQ_DELAY.DELAY : Fld := ⟨FCV_IQ_DELAY.addr, 0, 12⟩
/-! R534 of spec/16_register_model.md -/
def FCV_PEND.addr : Nat := 0x53FEC
def FCV_PEND.DIRTY : Fld := ⟨FCV_PEND.addr, 0, 1⟩
def FCV_GROUP.addr : Nat := 0x53FF0
def FCV_GROUP.GROUP : Fld := ⟨FCV_GROUP.addr, 0, 5⟩
def FCV_ERR.addr : Nat := 0x53FF4
def FCV_ERR.CODE : Fld := ⟨FCV_ERR.addr, 0, 8⟩
def FCV_ERR_OFS_LO.addr : Nat := 0x53FF8
def FCV_ERR_OFS_LO.OFS : Fld := ⟨FCV_ERR_OFS_LO.addr, 0, 32⟩
def FCV_ERR_OFS_HI.addr : Nat := 0x53FFC
def FCV_ERR_OFS_HI.SPACE : Fld := ⟨FCV_ERR_OFS_HI.addr, 30, 2⟩
def FCV_ERR_OFS_HI.OFS_HI : Fld := ⟨FCV_ERR_OFS_HI.addr, 0, 4⟩

/-! ### Block DDC, window 0x06 -/

/-! R162 of spec/04_front_conversion_ddc.md -/
def DDC_CFG.addr (i : Nat) : Nat := 0x60000 + i % 16 / 4 * 0x1000 + i % 16 % 4 * 0x400
def DDC_CFG.DEST (i : Nat) : Fld := ⟨DDC_CFG.addr i, 16, 3⟩
def DDC_CFG.DEC (i : Nat) : Fld := ⟨DDC_CFG.addr i, 8, 5⟩
def DDC_CFG.SRC_CH (i : Nat) : Fld := ⟨DDC_CFG.addr i, 4, 2⟩
def DDC_CFG.EN (i : Nat) : Fld := ⟨DDC_CFG.addr i, 0, 1⟩
def DDC_FTW_LO.addr (i : Nat) : Nat := 0x60004 + i % 16 / 4 * 0x1000 + i % 16 % 4 * 0x400
def DDC_FTW_LO.FTW_LO (i : Nat) : Fld := ⟨DDC_FTW_LO.addr i, 0, 32⟩
def DDC_FTW_HI.addr (i : Nat) : Nat := 0x60008 + i % 16 / 4 * 0x1000 + i % 16 % 4 * 0x400
def DDC_FTW_HI.PHASE (i : Nat) : Fld := ⟨DDC_FTW_HI.addr i, 16, 16⟩
def DDC_FTW_HI.FTW_HI (i : Nat) : Fld := ⟨DDC_FTW_HI.addr i, 0, 16⟩
def DDC_GAIN.addr (i : Nat) : Nat := 0x6000C + i % 16 / 4 * 0x1000 + i % 16 % 4 * 0x400
def DDC_GAIN.SHIFT (i : Nat) : Fld := ⟨DDC_GAIN.addr i, 24, 3⟩
def DDC_GAIN.GAIN (i : Nat) : Fld := ⟨DDC_GAIN.addr i, 0, 18⟩
def DDC_DCB.addr (i : Nat) : Nat := 0x60010 + i % 16 / 4 * 0x1000 + i % 16 % 4 * 0x400
def DDC_DCB.K (i : Nat) : Fld := ⟨DDC_DCB.addr i, 8, 5⟩
def DDC_DCB.CLR (i : Nat) : Fld := ⟨DDC_DCB.addr i, 3, 1⟩
def DDC_DCB.AUTO_FRZ (i : Nat) : Fld := ⟨DDC_DCB.addr i, 2, 1⟩
def DDC_DCB.FREEZE (i : Nat) : Fld := ⟨DDC_DCB.addr i, 1, 1⟩
def DDC_DCB.EN (i : Nat) : Fld := ⟨DDC_DCB.addr i, 0, 1⟩
def DDC_BANK.addr (i : Nat) : Nat := 0x60014 + i % 16 / 4 * 0x1000 + i % 16 % 4 * 0x400
def DDC_BANK.FADE_LEN (i : Nat) : Fld := ⟨DDC_BANK.addr i, 4, 3⟩
def DDC_BANK.FADING (i : Nat) : Fld := ⟨DDC_BANK.addr i, 2, 1⟩
def DDC_BANK.ACTIVE (i : Nat) : Fld := ⟨DDC_BANK.addr i, 1, 1⟩
def DDC_BANK.SWAP (i : Nat) : Fld := ⟨DDC_BANK.addr i, 0, 1⟩
def DDC_STAT.addr (i : Nat) : Nat := 0x60018 + i % 16 / 4 * 0x1000 + i % 16 % 4 * 0x400
def DDC_STAT.SET (i : Nat) : Fld := ⟨DDC_STAT.addr i, 24, 8⟩
def DDC_STAT.LOCAL_RESET (i : Nat) : Fld := ⟨DDC_STAT.addr i, 6, 1⟩
def DDC_STAT.DSAT (i : Nat) : Fld := ⟨DDC_STAT.addr i, 5, 1⟩
def DDC_STAT.OVR (i : Nat) : Fld := ⟨DDC_STAT.addr i, 4, 1⟩
def DDC_STAT.SETTLING (i : Nat) : Fld := ⟨DDC_STAT.addr i, 1, 1⟩
def DDC_STAT.VALID (i : Nat) : Fld := ⟨DDC_STAT.addr i, 0, 1⟩
def DDC_DC_EST_I.addr (i : Nat) : Nat := 0x6001C + i % 16 / 4 * 0x1000 + i % 16 % 4 * 0x400
def DDC_DC_EST_I.EST (i : Nat) : Fld := ⟨DDC_DC_EST_I.addr i, 0, 32⟩
def DDC_DC_EST_Q.addr (i : Nat) : Nat := 0x60020 + i % 16 / 4 * 0x1000 + i % 16 % 4 * 0x400
def DDC_DC_EST_Q.EST (i : Nat) : Fld := ⟨DDC_DC_EST_Q.addr i, 0, 32⟩
def DDC_CNT.addr (i : Nat) : Nat := 0x60024 + i % 16 / 4 * 0x1000 + i % 16 % 4 * 0x400
def DDC_CNT.RESET_COUNT (i : Nat) : Fld := ⟨DDC_CNT.addr i, 16, 16⟩
def DDC_CNT.DSAT_COUNT (i : Nat) : Fld := ⟨DDC_CNT.addr i, 0, 16⟩
def DDC_SYNC_CTRL.addr : Nat := 0x70000
def DDC_SYNC_CTRL.ABORT : Fld := ⟨DDC_SYNC_CTRL.addr, 25, 1⟩
def DDC_SYNC_CTRL.GO : Fld := ⟨DDC_SYNC_CTRL.addr, 24, 1⟩
def DDC_SYNC_CTRL.SRC : Fld := ⟨DDC_SYNC_CTRL.addr, 16, 2⟩
def DDC_SYNC_CTRL.MASK : Fld := ⟨DDC_SYNC_CTRL.addr, 0, 16⟩
def DDC_SYNC_STAT.addr : Nat := 0x70004
def DDC_SYNC_STAT.SET_COUNT : Fld := ⟨DDC_SYNC_STAT.addr, 16, 8⟩
def DDC_SYNC_STAT.LATE : Fld := ⟨DDC_SYNC_STAT.addr, 2, 1⟩
def DDC_SYNC_STAT.DONE : Fld := ⟨DDC_SYNC_STAT.addr, 1, 1⟩
def DDC_SYNC_STAT.PENDING : Fld := ⟨DDC_SYNC_STAT.addr, 0, 1⟩
def DDC_SYNC_TIME.addr : Nat := 0x70010
/-! R534 of spec/16_register_model.md -/
def DDC_PEND.addr : Nat := 0x63FEC
def DDC_PEND.DIRTY : Fld := ⟨DDC_PEND.addr, 0, 1⟩
def DDC_GROUP.addr : Nat := 0x63FF0
def DDC_GROUP.GROUP : Fld := ⟨DDC_GROUP.addr, 0, 5⟩
def DDC_ERR.addr : Nat := 0x63FF4
def DDC_ERR.CODE : Fld := ⟨DDC_ERR.addr, 0, 8⟩
def DDC_ERR_OFS_LO.addr : Nat := 0x63FF8
def DDC_ERR_OFS_LO.OFS : Fld := ⟨DDC_ERR_OFS_LO.addr, 0, 32⟩
def DDC_ERR_OFS_HI.addr : Nat := 0x63FFC
def DDC_ERR_OFS_HI.SPACE : Fld := ⟨DDC_ERR_OFS_HI.addr, 30, 2⟩
def DDC_ERR_OFS_HI.OFS_HI : Fld := ⟨DDC_ERR_OFS_HI.addr, 0, 4⟩

/-! ### Block FFT, window 0x08 -/

/-! R205 of spec/05_fft_fabric.md -/
def FFT_SRC_CFG.addr (i : Nat) : Nat := 0x80000 + i % 4 * 0x1000
def FFT_SRC_CFG.GATE_EN (i : Nat) : Fld := ⟨FFT_SRC_CFG.addr i, 20, 1⟩
def FFT_SRC_CFG.KBETA (i : Nat) : Fld := ⟨FFT_SRC_CFG.addr i, 16, 3⟩
def FFT_SRC_CFG.WIN (i : Nat) : Fld := ⟨FFT_SRC_CFG.addr i, 12, 3⟩
def FFT_SRC_CFG.HOP (i : Nat) : Fld := ⟨FFT_SRC_CFG.addr i, 8, 2⟩
def FFT_SRC_CFG.LEN (i : Nat) : Fld := ⟨FFT_SRC_CFG.addr i, 4, 4⟩
def FFT_SRC_CFG.EN (i : Nat) : Fld := ⟨FFT_SRC_CFG.addr i, 0, 1⟩
def FFT_SRC_OUT.addr (i : Nat) : Nat :=
  if i < 16 then 0x80004 + i % 4 * 0x1000 else 0x93404 + i % 16 * 0x40
def FFT_SRC_OUT.RED (i : Nat) : Fld := ⟨FFT_SRC_OUT.addr i, 16, 5⟩
def FFT_SRC_OUT.RDET (i : Nat) : Fld := ⟨FFT_SRC_OUT.addr i, 8, 2⟩
def FFT_SRC_OUT.OUT_EN (i : Nat) : Fld := ⟨FFT_SRC_OUT.addr i, 4, 1⟩
def FFT_SRC_OUT.DET (i : Nat) : Fld := ⟨FFT_SRC_OUT.addr i, 0, 3⟩
def FFT_SRC_RANGE.addr (i : Nat) : Nat :=
  if i < 16 then 0x80008 + i % 4 * 0x1000 else 0x93408 + i % 16 * 0x40
def FFT_SRC_RANGE.NBM1 (i : Nat) : Fld := ⟨FFT_SRC_RANGE.addr i, 16, 16⟩
def FFT_SRC_RANGE.FIRST_BIN (i : Nat) : Fld := ⟨FFT_SRC_RANGE.addr i, 0, 16⟩
def FFT_SRC_TRC.addr (i t : Nat) : Nat :=
  if i < 16 then 0x80010 + i % 4 * 0x1000 + t % 4 * 4 else 0x93410 + i % 16 * 0x40 + t % 4 * 4
def FFT_SRC_TRC.SNAP (i t : Nat) : Fld := ⟨FFT_SRC_TRC.addr i t, 29, 1⟩
def FFT_SRC_TRC.RESET (i t : Nat) : Fld := ⟨FFT_SRC_TRC.addr i t, 28, 1⟩
def FFT_SRC_TRC.BASE (i t : Nat) : Fld := ⟨FFT_SRC_TRC.addr i t, 16, 11⟩
def FFT_SRC_TRC.GAP_RST (i t : Nat) : Fld := ⟨FFT_SRC_TRC.addr i t, 9, 1⟩
def FFT_SRC_TRC.A (i t : Nat) : Fld := ⟨FFT_SRC_TRC.addr i t, 4, 5⟩
def FFT_SRC_TRC.BLOCK (i t : Nat) : Fld := ⟨FFT_SRC_TRC.addr i t, 3, 1⟩
def FFT_SRC_TRC.MODE (i t : Nat) : Fld := ⟨FFT_SRC_TRC.addr i t, 0, 3⟩
def FFT_SRC_SPG.addr (i : Nat) : Nat :=
  if i < 16 then 0x80020 + i % 4 * 0x1000 else 0x93420 + i % 16 * 0x40
def FFT_SRC_SPG.BASE (i : Nat) : Fld := ⟨FFT_SRC_SPG.addr i, 16, 11⟩
def FFT_SRC_SPG.LRED (i : Nat) : Fld := ⟨FFT_SRC_SPG.addr i, 8, 5⟩
def FFT_SRC_SPG.BRED (i : Nat) : Fld := ⟨FFT_SRC_SPG.addr i, 4, 3⟩
def FFT_SRC_SPG.LDET (i : Nat) : Fld := ⟨FFT_SRC_SPG.addr i, 1, 2⟩
def FFT_SRC_SPG.EN (i : Nat) : Fld := ⟨FFT_SRC_SPG.addr i, 0, 1⟩
def FFT_SRC_SPGL.addr (i : Nat) : Nat :=
  if i < 16 then 0x80024 + i % 4 * 0x1000 else 0x93424 + i % 16 * 0x40
def FFT_SRC_SPGL.LINES_M1 (i : Nat) : Fld := ⟨FFT_SRC_SPGL.addr i, 0, 16⟩
def FFT_SRC_SPGW.addr (i : Nat) : Nat :=
  if i < 16 then 0x80028 + i % 4 * 0x1000 else 0x93428 + i % 16 * 0x40
def FFT_SRC_SPGW.WRAPS (i : Nat) : Fld := ⟨FFT_SRC_SPGW.addr i, 16, 16⟩
def FFT_SRC_SPGW.WLINE (i : Nat) : Fld := ⟨FFT_SRC_SPGW.addr i, 0, 16⟩
def FFT_SRC_STAT.addr (i : Nat) : Nat :=
  if i < 16 then 0x8002C + i % 4 * 0x1000 else 0x9342C + i % 16 * 0x40
def FFT_SRC_STAT.VALID (i : Nat) : Fld := ⟨FFT_SRC_STAT.addr i, 7, 1⟩
def FFT_SRC_STAT.POI_LOST (i : Nat) : Fld := ⟨FFT_SRC_STAT.addr i, 6, 1⟩
def FFT_SRC_STAT.CHK (i : Nat) : Fld := ⟨FFT_SRC_STAT.addr i, 5, 1⟩
def FFT_SRC_STAT.OUT_DROP (i : Nat) : Fld := ⟨FFT_SRC_STAT.addr i, 4, 1⟩
def FFT_SRC_STAT.GAP (i : Nat) : Fld := ⟨FFT_SRC_STAT.addr i, 3, 1⟩
def FFT_SRC_STAT.DSAT (i : Nat) : Fld := ⟨FFT_SRC_STAT.addr i, 2, 1⟩
def FFT_SRC_STAT.THR (i : Nat) : Fld := ⟨FFT_SRC_STAT.addr i, 1, 1⟩
def FFT_SRC_STAT.OVR (i : Nat) : Fld := ⟨FFT_SRC_STAT.addr i, 0, 1⟩
def FFT_SRC_SEQ.addr (i : Nat) : Nat :=
  if i < 16 then 0x80030 + i % 4 * 0x1000 else 0x93430 + i % 16 * 0x40
def FFT_SRC_SEQ.SEQ (i : Nat) : Fld := ⟨FFT_SRC_SEQ.addr i, 0, 32⟩
def FFT_WIN_INFO.addr (i : Nat) : Nat :=
  if i < 16 then 0x80034 + i % 4 * 0x1000 else 0x93434 + i % 16 * 0x40
def FFT_WIN_INFO.ENBW (i : Nat) : Fld := ⟨FFT_WIN_INFO.addr i, 16, 16⟩
def FFT_WIN_INFO.C_HALF (i : Nat) : Fld := ⟨FFT_WIN_INFO.addr i, 0, 10⟩
def FFT_SRC_TRS.addr (i : Nat) : Nat :=
  if i < 16 then 0x80038 + i % 4 * 0x1000 else 0x93438 + i % 16 * 0x40
def FFT_SRC_TRS.PUB (i : Nat) : Fld := ⟨FFT_SRC_TRS.addr i, 4, 4⟩
def FFT_SRC_TRS.SNAP_PEND (i : Nat) : Fld := ⟨FFT_SRC_TRS.addr i, 0, 4⟩
def FFT_SRC_CNT.addr (i : Nat) : Nat :=
  if i < 16 then 0x8003C + i % 4 * 0x1000 else 0x9343C + i % 16 * 0x40
def FFT_SRC_CNT.GAP_COUNT (i : Nat) : Fld := ⟨FFT_SRC_CNT.addr i, 16, 16⟩
def FFT_SRC_CNT.DROP_COUNT (i : Nat) : Fld := ⟨FFT_SRC_CNT.addr i, 0, 16⟩
def FFT_ZSRC_CFG.addr (i : Nat) : Nat := 0x93400 + i % 16 * 0x40
def FFT_ZSRC_CFG.FLAT_EN (i : Nat) : Fld := ⟨FFT_ZSRC_CFG.addr i, 28, 1⟩
def FFT_ZSRC_CFG.FLAT_SEL (i : Nat) : Fld := ⟨FFT_ZSRC_CFG.addr i, 24, 3⟩
def FFT_ZSRC_CFG.GATE_EN (i : Nat) : Fld := ⟨FFT_ZSRC_CFG.addr i, 20, 1⟩
def FFT_ZSRC_CFG.KBETA (i : Nat) : Fld := ⟨FFT_ZSRC_CFG.addr i, 16, 3⟩
def FFT_ZSRC_CFG.WIN (i : Nat) : Fld := ⟨FFT_ZSRC_CFG.addr i, 12, 3⟩
def FFT_ZSRC_CFG.HOP (i : Nat) : Fld := ⟨FFT_ZSRC_CFG.addr i, 8, 2⟩
def FFT_ZSRC_CFG.LEN (i : Nat) : Fld := ⟨FFT_ZSRC_CFG.addr i, 4, 4⟩
def FFT_PIPE_STAT.addr (i : Nat) : Nat := 0x90000 + i % 10 / 4 * 0x1000 + i % 10 % 4 * 0x400
def FFT_PIPE_STAT.FAIL (i : Nat) : Fld := ⟨FFT_PIPE_STAT.addr i, 12, 4⟩
def FFT_PIPE_STAT.STANDIN (i : Nat) : Fld := ⟨FFT_PIPE_STAT.addr i, 8, 4⟩
def FFT_PIPE_STAT.SRC (i : Nat) : Fld := ⟨FFT_PIPE_STAT.addr i, 4, 4⟩
def FFT_PIPE_STAT.STATE (i : Nat) : Fld := ⟨FFT_PIPE_STAT.addr i, 0, 3⟩
def FFT_PIPE_CTRL.addr (i : Nat) : Nat := 0x90004 + i % 10 / 4 * 0x1000 + i % 10 % 4 * 0x400
def FFT_PIPE_CTRL.RESET (i : Nat) : Fld := ⟨FFT_PIPE_CTRL.addr i, 0, 1⟩
def FFT_PIPE_CNT.addr (i : Nat) : Nat := 0x90008 + i % 10 / 4 * 0x1000 + i % 10 % 4 * 0x400
def FFT_PIPE_CNT.REPLAYS (i : Nat) : Fld := ⟨FFT_PIPE_CNT.addr i, 16, 16⟩
def FFT_PIPE_CNT.ECC_CORR (i : Nat) : Fld := ⟨FFT_PIPE_CNT.addr i, 0, 16⟩
def FFT_SPARE_CTRL.addr : Nat := 0x93000
def FFT_SPARE_CTRL.RELEASE : Fld := ⟨FFT_SPARE_CTRL.addr, 9, 1⟩
def FFT_SPARE_CTRL.TAKEOVER : Fld := ⟨FFT_SPARE_CTRL.addr, 8, 1⟩
def FFT_SPARE_CTRL.TARGET : Fld := ⟨FFT_SPARE_CTRL.addr, 0, 4⟩
def FFT_SPARE_STAT.addr : Nat := 0x93004
def FFT_SPARE_STAT.TARGET : Fld := ⟨FFT_SPARE_STAT.addr, 8, 4⟩
def FFT_SPARE_STAT.REASON : Fld := ⟨FFT_SPARE_STAT.addr, 4, 2⟩
def FFT_SPARE_STAT.IN_USE : Fld := ⟨FFT_SPARE_STAT.addr, 1, 1⟩
def FFT_SPARE_STAT.AVAIL : Fld := ⟨FFT_SPARE_STAT.addr, 0, 1⟩
def FFT_CHECK_CTRL.addr : Nat := 0x93008
def FFT_CHECK_CTRL.ABORT : Fld := ⟨FFT_CHECK_CTRL.addr, 25, 1⟩
def FFT_CHECK_CTRL.START : Fld := ⟨FFT_CHECK_CTRL.addr, 24, 1⟩
def FFT_CHECK_CTRL.TARGET : Fld := ⟨FFT_CHECK_CTRL.addr, 16, 4⟩
def FFT_CHECK_CTRL.INTERVAL : Fld := ⟨FFT_CHECK_CTRL.addr, 0, 16⟩
def FFT_CHECK_STAT.addr : Nat := 0x9300C
def FFT_CHECK_STAT.SUSPENDED : Fld := ⟨FFT_CHECK_STAT.addr, 12, 1⟩
def FFT_CHECK_STAT.LAST_PIPE : Fld := ⟨FFT_CHECK_STAT.addr, 8, 4⟩
def FFT_CHECK_STAT.LAST_RESULT : Fld := ⟨FFT_CHECK_STAT.addr, 4, 3⟩
def FFT_CHECK_STAT.PHASE : Fld := ⟨FFT_CHECK_STAT.addr, 1, 3⟩
def FFT_CHECK_STAT.BUSY : Fld := ⟨FFT_CHECK_STAT.addr, 0, 1⟩
def FFT_CHECK_COUNT.addr : Nat := 0x93010
def FFT_CHECK_COUNT.COUNT : Fld := ⟨FFT_CHECK_COUNT.addr, 0, 32⟩
def FFT_CHECK_TIME_LO.addr : Nat := 0x93018
def FFT_CHECK_TIME_LO.SEC : Fld := ⟨FFT_CHECK_TIME_LO.addr, 0, 32⟩
def FFT_CHECK_TIME_HI.addr : Nat := 0x9301C
def FFT_CHECK_TIME_HI.SEC_HI : Fld := ⟨FFT_CHECK_TIME_HI.addr, 0, 8⟩
def FFT_UWIN.addr (i : Nat) : Nat := 0x93020 + i % 2 * 0x4
def FFT_UWIN.IN_USE (i : Nat) : Fld := ⟨FFT_UWIN.addr i, 8, 1⟩
def FFT_UWIN.LEN (i : Nat) : Fld := ⟨FFT_UWIN.addr i, 0, 4⟩
/-! R534 of spec/16_register_model.md -/
def FFT_PEND.addr : Nat := 0x83FEC
def FFT_PEND.DIRTY : Fld := ⟨FFT_PEND.addr, 0, 1⟩
def FFT_GROUP.addr : Nat := 0x83FF0
def FFT_GROUP.GROUP : Fld := ⟨FFT_GROUP.addr, 0, 5⟩
def FFT_ERR.addr : Nat := 0x83FF4
def FFT_ERR.CODE : Fld := ⟨FFT_ERR.addr, 0, 8⟩
def FFT_ERR_OFS_LO.addr : Nat := 0x83FF8
def FFT_ERR_OFS_LO.OFS : Fld := ⟨FFT_ERR_OFS_LO.addr, 0, 32⟩
def FFT_ERR_OFS_HI.addr : Nat := 0x83FFC
def FFT_ERR_OFS_HI.SPACE : Fld := ⟨FFT_ERR_OFS_HI.addr, 30, 2⟩
def FFT_ERR_OFS_HI.OFS_HI : Fld := ⟨FFT_ERR_OFS_HI.addr, 0, 4⟩

/-! ### Block TRG, window 0x0A -/

/-! R251 of spec/06_triggers.md -/
def TRG_CTRL.addr : Nat := 0xA0000
def TRG_CTRL.HO_MODE : Fld := ⟨TRG_CTRL.addr, 12, 2⟩
def TRG_CTRL.REF_CH : Fld := ⟨TRG_CTRL.addr, 8, 2⟩
def TRG_CTRL.LOGIC : Fld := ⟨TRG_CTRL.addr, 4, 1⟩
def TRG_CTRL.MODE : Fld := ⟨TRG_CTRL.addr, 1, 2⟩
def TRG_CTRL.EN : Fld := ⟨TRG_CTRL.addr, 0, 1⟩
def TRG_STAT.addr : Nat := 0xA0004
def TRG_STAT.B_SEEN : Fld := ⟨TRG_STAT.addr, 16, 16⟩
def TRG_STAT.OUT_LATE : Fld := ⟨TRG_STAT.addr, 13, 1⟩
def TRG_STAT.LOG_OVF : Fld := ⟨TRG_STAT.addr, 12, 1⟩
def TRG_STAT.EVT_DROP : Fld := ⟨TRG_STAT.addr, 11, 1⟩
def TRG_STAT.LATE : Fld := ⟨TRG_STAT.addr, 10, 1⟩
def TRG_STAT.ACCEPTED : Fld := ⟨TRG_STAT.addr, 9, 1⟩
def TRG_STAT.NOREF : Fld := ⟨TRG_STAT.addr, 4, 1⟩
def TRG_STAT.WAIT_B : Fld := ⟨TRG_STAT.addr, 3, 1⟩
def TRG_STAT.HOLDOFF : Fld := ⟨TRG_STAT.addr, 1, 1⟩
def TRG_STAT.ARMED : Fld := ⟨TRG_STAT.addr, 0, 1⟩
def TRG_CMD.addr : Nat := 0xA0008
def TRG_CMD.SEQ_RESET : Fld := ⟨TRG_CMD.addr, 3, 1⟩
def TRG_CMD.POP : Fld := ⟨TRG_CMD.addr, 2, 1⟩
def TRG_CMD.FORCE : Fld := ⟨TRG_CMD.addr, 1, 1⟩
def TRG_CMD.ARM : Fld := ⟨TRG_CMD.addr, 0, 1⟩
def TRG_EN.addr : Nat := 0xA000C
def TRG_EN.EN : Fld := ⟨TRG_EN.addr, 0, 24⟩
def TRG_HOLDOFF.addr : Nat := 0xA0010
def TRG_HOLDOFF.HOLDOFF : Fld := ⟨TRG_HOLDOFF.addr, 0, 32⟩
def TRG_AUTO.addr : Nat := 0xA0014
def TRG_AUTO.AUTO_TIME : Fld := ⟨TRG_AUTO.addr, 0, 24⟩
def TRG_LATENCY.addr : Nat := 0xA0018
def TRG_LATENCY.L_M : Fld := ⟨TRG_LATENCY.addr, 0, 21⟩
def TRG_WAIT.addr : Nat := 0xA001C
def TRG_WAIT.EXTRA : Fld := ⟨TRG_WAIT.addr, 0, 20⟩
def TRG_SEQ.addr : Nat := 0xA0020
def TRG_SEQ.RESTART_ON_A : Fld := ⟨TRG_SEQ.addr, 17, 1⟩
def TRG_SEQ.SAME_OK : Fld := ⟨TRG_SEQ.addr, 16, 1⟩
def TRG_SEQ.B_COUNT : Fld := ⟨TRG_SEQ.addr, 0, 16⟩
def TRG_SEQ_A.addr : Nat := 0xA0024
def TRG_SEQ_A.MASK : Fld := ⟨TRG_SEQ_A.addr, 0, 24⟩
def TRG_SEQ_B.addr : Nat := 0xA0028
def TRG_SEQ_B.MASK : Fld := ⟨TRG_SEQ_B.addr, 0, 24⟩
def TRG_SEQ_R.addr : Nat := 0xA002C
def TRG_SEQ_R.MASK : Fld := ⟨TRG_SEQ_R.addr, 0, 24⟩
def TRG_SEQ_MIN.addr : Nat := 0xA0030
def TRG_SEQ_MIN.WIN_MIN : Fld := ⟨TRG_SEQ_MIN.addr, 0, 32⟩
def TRG_SEQ_MAX.addr : Nat := 0xA0034
def TRG_SEQ_MAX.WIN_MAX : Fld := ⟨TRG_SEQ_MAX.addr, 0, 32⟩
def TRG_OUT_MIN.addr : Nat := 0xA003C
def TRG_OUT_MIN.OUT_MIN : Fld := ⟨TRG_OUT_MIN.addr, 0, 32⟩
def TRG_CNT_ACCEPT.addr : Nat := 0xA0040
def TRG_CNT_ACCEPT.ACCEPT : Fld := ⟨TRG_CNT_ACCEPT.addr, 0, 32⟩
def TRG_CNT_SUPP.addr : Nat := 0xA0044
def TRG_CNT_SUPP.HOLDOFF : Fld := ⟨TRG_CNT_SUPP.addr, 16, 16⟩
def TRG_CNT_SUPP.DISARMED : Fld := ⟨TRG_CNT_SUPP.addr, 0, 16⟩
def TRG_FMT_CTRL.addr (i : Nat) : Nat := 0xA0100 + i % 4 * 0x10
def TRG_FMT_CTRL.MIN_BINS (i : Nat) : Fld := ⟨TRG_FMT_CTRL.addr i, 16, 8⟩
def TRG_FMT_CTRL.QUAL (i : Nat) : Fld := ⟨TRG_FMT_CTRL.addr i, 8, 2⟩
def TRG_FMT_CTRL.TABLE (i : Nat) : Fld := ⟨TRG_FMT_CTRL.addr i, 4, 2⟩
def TRG_FMT_CTRL.SRC_CH (i : Nat) : Fld := ⟨TRG_FMT_CTRL.addr i, 0, 2⟩
def TRG_FMT_RANGE.addr (i : Nat) : Nat := 0xA0104 + i % 4 * 0x10
def TRG_FMT_RANGE.NBM1 (i : Nat) : Fld := ⟨TRG_FMT_RANGE.addr i, 16, 16⟩
def TRG_FMT_RANGE.FIRST_BIN (i : Nat) : Fld := ⟨TRG_FMT_RANGE.addr i, 0, 16⟩
def TRG_FMT_STAT.addr (i : Nat) : Nat := 0xA0108 + i % 4 * 0x10
def TRG_FMT_STAT.EXCESS (i : Nat) : Fld := ⟨TRG_FMT_STAT.addr i, 16, 16⟩
def TRG_FMT_STAT.BIN (i : Nat) : Fld := ⟨TRG_FMT_STAT.addr i, 0, 16⟩
def TRG_LVL_CTRL.addr (i : Nat) : Nat := 0xA0200 + i % 4 * 0x10
def TRG_LVL_CTRL.MIN_LEN (i : Nat) : Fld := ⟨TRG_LVL_CTRL.addr i, 16, 16⟩
def TRG_LVL_CTRL.DIR (i : Nat) : Fld := ⟨TRG_LVL_CTRL.addr i, 12, 2⟩
def TRG_LVL_CTRL.QTY (i : Nat) : Fld := ⟨TRG_LVL_CTRL.addr i, 8, 2⟩
def TRG_LVL_CTRL.SRC (i : Nat) : Fld := ⟨TRG_LVL_CTRL.addr i, 0, 5⟩
def TRG_LVL_THR.addr (i : Nat) : Nat := 0xA0204 + i % 4 * 0x10
def TRG_LVL_THR.HYST (i : Nat) : Fld := ⟨TRG_LVL_THR.addr i, 16, 8⟩
def TRG_LVL_THR.THR (i : Nat) : Fld := ⟨TRG_LVL_THR.addr i, 0, 16⟩
def TRG_PWR_CTRL.addr (i : Nat) : Nat := 0xA0280 + i % 4 * 0x10
def TRG_PWR_CTRL.DIR (i : Nat) : Fld := ⟨TRG_PWR_CTRL.addr i, 12, 2⟩
def TRG_PWR_CTRL.W (i : Nat) : Fld := ⟨TRG_PWR_CTRL.addr i, 5, 3⟩
def TRG_PWR_CTRL.SRC (i : Nat) : Fld := ⟨TRG_PWR_CTRL.addr i, 0, 5⟩
def TRG_PWR_THR.addr (i : Nat) : Nat := 0xA0284 + i % 4 * 0x10
def TRG_PWR_THR.W_LO (i : Nat) : Fld := ⟨TRG_PWR_THR.addr i, 24, 2⟩
def TRG_PWR_THR.HYST (i : Nat) : Fld := ⟨TRG_PWR_THR.addr i, 16, 8⟩
def TRG_PWR_THR.THR (i : Nat) : Fld := ⟨TRG_PWR_THR.addr i, 0, 16⟩
def TRG_DEN_CTRL.addr (i : Nat) : Nat := 0xA0300 + i % 2 * 0x20
def TRG_DEN_CTRL.W (i : Nat) : Fld := ⟨TRG_DEN_CTRL.addr i, 0, 5⟩
def TRG_DEN_COLS.addr (i : Nat) : Nat := 0xA0304 + i % 2 * 0x20
def TRG_DEN_COLS.COL_HI (i : Nat) : Fld := ⟨TRG_DEN_COLS.addr i, 16, 11⟩
def TRG_DEN_COLS.COL_LO (i : Nat) : Fld := ⟨TRG_DEN_COLS.addr i, 0, 11⟩
def TRG_DEN_ROWS.addr (i : Nat) : Nat := 0xA0308 + i % 2 * 0x20
def TRG_DEN_ROWS.ROW_HI (i : Nat) : Fld := ⟨TRG_DEN_ROWS.addr i, 16, 10⟩
def TRG_DEN_ROWS.ROW_LO (i : Nat) : Fld := ⟨TRG_DEN_ROWS.addr i, 0, 10⟩
def TRG_DEN_THRESH.addr (i : Nat) : Nat := 0xA030C + i % 2 * 0x20
def TRG_DEN_THRESH.THRESH (i : Nat) : Fld := ⟨TRG_DEN_THRESH.addr i, 0, 17⟩
def TRG_DEN_REARM.addr (i : Nat) : Nat := 0xA0310 + i % 2 * 0x20
def TRG_DEN_REARM.REARM (i : Nat) : Fld := ⟨TRG_DEN_REARM.addr i, 0, 17⟩
def TRG_OVR_CTRL.addr : Nat := 0xA0340
def TRG_OVR_CTRL.DSAT_EN : Fld := ⟨TRG_OVR_CTRL.addr, 9, 1⟩
def TRG_OVR_CTRL.THR_EN : Fld := ⟨TRG_OVR_CTRL.addr, 8, 1⟩
def TRG_OVR_CTRL.CH_MASK : Fld := ⟨TRG_OVR_CTRL.addr, 0, 4⟩
def TRG_REM_CTRL.addr : Nat := 0xA0350
def TRG_REM_CTRL.RX_MASK : Fld := ⟨TRG_REM_CTRL.addr, 16, 16⟩
def TRG_REM_CTRL.TX_ID : Fld := ⟨TRG_REM_CTRL.addr, 8, 4⟩
def TRG_REM_CTRL.TX_EN : Fld := ⟨TRG_REM_CTRL.addr, 0, 1⟩
def TRG_REM_DELAY.addr : Nat := 0xA0354
def TRG_REM_DELAY.DELAY : Fld := ⟨TRG_REM_DELAY.addr, 0, 32⟩
def TRG_OUT_CTRL.addr (i : Nat) : Nat := 0xA0380 + i % 4 * 0x8
def TRG_OUT_CTRL.POL (i : Nat) : Fld := ⟨TRG_OUT_CTRL.addr i, 24, 1⟩
def TRG_OUT_CTRL.WIDTH (i : Nat) : Fld := ⟨TRG_OUT_CTRL.addr i, 16, 8⟩
def TRG_OUT_CTRL.SRC (i : Nat) : Fld := ⟨TRG_OUT_CTRL.addr i, 8, 5⟩
def TRG_OUT_CTRL.SEL (i : Nat) : Fld := ⟨TRG_OUT_CTRL.addr i, 0, 2⟩
def TRG_OUT_DELAY.addr (i : Nat) : Nat := 0xA0384 + i % 4 * 0x8
def TRG_OUT_DELAY.DELAY (i : Nat) : Fld := ⟨TRG_OUT_DELAY.addr i, 0, 32⟩
def TRG_SRC_CNT.addr (i : Nat) : Nat := 0xA0400 + i % 24 * 0x4
def TRG_SRC_CNT.DROP (i : Nat) : Fld := ⟨TRG_SRC_CNT.addr i, 16, 16⟩
def TRG_SRC_CNT.EVENTS (i : Nat) : Fld := ⟨TRG_SRC_CNT.addr i, 0, 16⟩
def TRG_LOG.addr (i : Nat) : Nat := 0xA0500 + i % 8 * 0x4
def TRG_LOG.W (i : Nat) : Fld := ⟨TRG_LOG.addr i, 0, 32⟩
def TRG_LOG_STAT.addr : Nat := 0xA0520
def TRG_LOG_STAT.COUNT : Fld := ⟨TRG_LOG_STAT.addr, 0, 9⟩
/-! R534 of spec/16_register_model.md -/
def TRG_PEND.addr : Nat := 0xA3FEC
def TRG_PEND.DIRTY : Fld := ⟨TRG_PEND.addr, 0, 1⟩
def TRG_GROUP.addr : Nat := 0xA3FF0
def TRG_GROUP.GROUP : Fld := ⟨TRG_GROUP.addr, 0, 5⟩
def TRG_ERR.addr : Nat := 0xA3FF4
def TRG_ERR.CODE : Fld := ⟨TRG_ERR.addr, 0, 8⟩
def TRG_ERR_OFS_LO.addr : Nat := 0xA3FF8
def TRG_ERR_OFS_LO.OFS : Fld := ⟨TRG_ERR_OFS_LO.addr, 0, 32⟩
def TRG_ERR_OFS_HI.addr : Nat := 0xA3FFC
def TRG_ERR_OFS_HI.SPACE : Fld := ⟨TRG_ERR_OFS_HI.addr, 30, 2⟩
def TRG_ERR_OFS_HI.OFS_HI : Fld := ⟨TRG_ERR_OFS_HI.addr, 0, 4⟩

/-! ### Block ACQ, window 0x0B -/

/-! R285 of spec/07_acquisition.md -/
def ACQ_U_CFG.addr (i : Nat) : Nat := 0xB0000 + i % 4 * 0x100
def ACQ_U_CFG.TEST_MASK (i : Nat) : Fld := ⟨ACQ_U_CFG.addr i, 28, 4⟩
def ACQ_U_CFG.STOP_ON_FAIL (i : Nat) : Fld := ⟨ACQ_U_CFG.addr i, 27, 1⟩
def ACQ_U_CFG.AUTO_REARM (i : Nat) : Fld := ⟨ACQ_U_CFG.addr i, 26, 1⟩
def ACQ_U_CFG.END (i : Nat) : Fld := ⟨ACQ_U_CFG.addr i, 24, 2⟩
def ACQ_U_CFG.SCALE (i : Nat) : Fld := ⟨ACQ_U_CFG.addr i, 20, 4⟩
def ACQ_U_CFG.FMT (i : Nat) : Fld := ⟨ACQ_U_CFG.addr i, 16, 3⟩
def ACQ_U_CFG.SRC (i : Nat) : Fld := ⟨ACQ_U_CFG.addr i, 8, 5⟩
def ACQ_U_CFG.MODE (i : Nat) : Fld := ⟨ACQ_U_CFG.addr i, 0, 2⟩
def ACQ_U_TMASK.addr (i : Nat) : Nat := 0xB0004 + i % 4 * 0x100
def ACQ_U_TMASK.TMASK (i : Nat) : Fld := ⟨ACQ_U_TMASK.addr i, 0, 26⟩
def ACQ_U_LEN.addr (i : Nat) : Nat := 0xB0008 + i % 4 * 0x100
def ACQ_U_LEN.LEN (i : Nat) : Fld := ⟨ACQ_U_LEN.addr i, 0, 25⟩
def ACQ_U_SPLIT.addr (i : Nat) : Nat := 0xB000C + i % 4 * 0x100
def ACQ_U_SPLIT.SPLIT (i : Nat) : Fld := ⟨ACQ_U_SPLIT.addr i, 0, 32⟩
def ACQ_U_ABASE.addr (i : Nat) : Nat := 0xB0010 + i % 4 * 0x100
def ACQ_U_ABASE.ABASE (i : Nat) : Fld := ⟨ACQ_U_ABASE.addr i, 0, 23⟩
def ACQ_U_ASIZE.addr (i : Nat) : Nat := 0xB0014 + i % 4 * 0x100
def ACQ_U_ASIZE.ASIZE (i : Nat) : Fld := ⟨ACQ_U_ASIZE.addr i, 0, 25⟩
def ACQ_U_LBASE.addr (i : Nat) : Nat := 0xB0018 + i % 4 * 0x100
def ACQ_U_LBASE.LBASE (i : Nat) : Fld := ⟨ACQ_U_LBASE.addr i, 0, 23⟩
def ACQ_U_LLEN.addr (i : Nat) : Nat := 0xB001C + i % 4 * 0x100
def ACQ_U_LLEN.LLEN (i : Nat) : Fld := ⟨ACQ_U_LLEN.addr i, 0, 17⟩
def ACQ_U_CMD.addr (i : Nat) : Nat := 0xB0020 + i % 4 * 0x100
def ACQ_U_CMD.ABORT (i : Nat) : Fld := ⟨ACQ_U_CMD.addr i, 2, 1⟩
def ACQ_U_CMD.STOP (i : Nat) : Fld := ⟨ACQ_U_CMD.addr i, 1, 1⟩
def ACQ_U_CMD.ARM (i : Nat) : Fld := ⟨ACQ_U_CMD.addr i, 0, 1⟩
def ACQ_U_STAT.addr (i : Nat) : Nat := 0xB0024 + i % 4 * 0x100
def ACQ_U_STAT.PENDING (i : Nat) : Fld := ⟨ACQ_U_STAT.addr i, 16, 1⟩
def ACQ_U_STAT.STOP_CAUSE (i : Nat) : Fld := ⟨ACQ_U_STAT.addr i, 12, 4⟩
def ACQ_U_STAT.GAP_HELD (i : Nat) : Fld := ⟨ACQ_U_STAT.addr i, 8, 1⟩
def ACQ_U_STAT.FAIL (i : Nat) : Fld := ⟨ACQ_U_STAT.addr i, 7, 1⟩
def ACQ_U_STAT.OVERRUN (i : Nat) : Fld := ⟨ACQ_U_STAT.addr i, 6, 1⟩
def ACQ_U_STAT.GAP (i : Nat) : Fld := ⟨ACQ_U_STAT.addr i, 5, 1⟩
def ACQ_U_STAT.SEG (i : Nat) : Fld := ⟨ACQ_U_STAT.addr i, 4, 1⟩
def ACQ_U_STAT.STATE (i : Nat) : Fld := ⟨ACQ_U_STAT.addr i, 0, 3⟩
def ACQ_U_LWR.addr (i : Nat) : Nat := 0xB0028 + i % 4 * 0x100
def ACQ_U_LWR.LWR (i : Nat) : Fld := ⟨ACQ_U_LWR.addr i, 0, 32⟩
def ACQ_U_LRD.addr (i : Nat) : Nat := 0xB002C + i % 4 * 0x100
def ACQ_U_LRD.LRD (i : Nat) : Fld := ⟨ACQ_U_LRD.addr i, 0, 32⟩
def ACQ_U_SEGNO.addr (i : Nat) : Nat := 0xB0030 + i % 4 * 0x100
def ACQ_U_SEGNO.SEGNO (i : Nat) : Fld := ⟨ACQ_U_SEGNO.addr i, 0, 32⟩
def ACQ_U_CNT0.addr (i : Nat) : Nat := 0xB0034 + i % 4 * 0x100
def ACQ_U_CNT0.BUSY (i : Nat) : Fld := ⟨ACQ_U_CNT0.addr i, 16, 16⟩
def ACQ_U_CNT0.NOSLOT (i : Nat) : Fld := ⟨ACQ_U_CNT0.addr i, 0, 16⟩
def ACQ_U_CNT1.addr (i : Nat) : Nat := 0xB0038 + i % 4 * 0x100
def ACQ_U_CNT1.GAPSKIP (i : Nat) : Fld := ⟨ACQ_U_CNT1.addr i, 16, 16⟩
def ACQ_U_CNT1.FAILS (i : Nat) : Fld := ⟨ACQ_U_CNT1.addr i, 0, 16⟩
def ACQ_U_STG.addr (i : Nat) : Nat := 0xB003C + i % 4 * 0x100
def ACQ_U_STG.STORE (i : Nat) : Fld := ⟨ACQ_U_STG.addr i, 16, 9⟩
def ACQ_U_STG.CAPT (i : Nat) : Fld := ⟨ACQ_U_STG.addr i, 0, 9⟩
def ACQ_U_WPTR_LO.addr (i : Nat) : Nat := 0xB0040 + i % 4 * 0x100
def ACQ_U_WPTR_LO.W (i : Nat) : Fld := ⟨ACQ_U_WPTR_LO.addr i, 0, 32⟩
def ACQ_U_WPTR_HI.addr (i : Nat) : Nat := 0xB0044 + i % 4 * 0x100
def ACQ_U_WPTR_HI.W (i : Nat) : Fld := ⟨ACQ_U_WPTR_HI.addr i, 0, 32⟩
def ACQ_U_RPTR_LO.addr (i : Nat) : Nat := 0xB0048 + i % 4 * 0x100
def ACQ_U_RPTR_LO.W (i : Nat) : Fld := ⟨ACQ_U_RPTR_LO.addr i, 0, 32⟩
def ACQ_U_RPTR_HI.addr (i : Nat) : Nat := 0xB004C + i % 4 * 0x100
def ACQ_U_RPTR_HI.W (i : Nat) : Fld := ⟨ACQ_U_RPTR_HI.addr i, 0, 32⟩
def ACQ_U_TPTR_LO.addr (i : Nat) : Nat := 0xB0050 + i % 4 * 0x100
def ACQ_U_TPTR_LO.W (i : Nat) : Fld := ⟨ACQ_U_TPTR_LO.addr i, 0, 32⟩
def ACQ_U_TPTR_HI.addr (i : Nat) : Nat := 0xB0054 + i % 4 * 0x100
def ACQ_U_TPTR_HI.W (i : Nat) : Fld := ⟨ACQ_U_TPTR_HI.addr i, 0, 32⟩
def ACQ_U_APTR_LO.addr (i : Nat) : Nat := 0xB0058 + i % 4 * 0x100
def ACQ_U_APTR_LO.W (i : Nat) : Fld := ⟨ACQ_U_APTR_LO.addr i, 0, 32⟩
def ACQ_U_APTR_HI.addr (i : Nat) : Nat := 0xB005C + i % 4 * 0x100
def ACQ_U_APTR_HI.W (i : Nat) : Fld := ⟨ACQ_U_APTR_HI.addr i, 0, 32⟩
/-! R534 of spec/16_register_model.md -/
def ACQ_PEND.addr : Nat := 0xB3FEC
def ACQ_PEND.DIRTY : Fld := ⟨ACQ_PEND.addr, 0, 1⟩
def ACQ_GROUP.addr : Nat := 0xB3FF0
def ACQ_GROUP.GROUP : Fld := ⟨ACQ_GROUP.addr, 0, 5⟩
def ACQ_ERR.addr : Nat := 0xB3FF4
def ACQ_ERR.CODE : Fld := ⟨ACQ_ERR.addr, 0, 8⟩
def ACQ_ERR_OFS_LO.addr : Nat := 0xB3FF8
def ACQ_ERR_OFS_LO.OFS : Fld := ⟨ACQ_ERR_OFS_LO.addr, 0, 32⟩
def ACQ_ERR_OFS_HI.addr : Nat := 0xB3FFC
def ACQ_ERR_OFS_HI.SPACE : Fld := ⟨ACQ_ERR_OFS_HI.addr, 30, 2⟩
def ACQ_ERR_OFS_HI.OFS_HI : Fld := ⟨ACQ_ERR_OFS_HI.addr, 0, 4⟩

/-! ### Block NEB, window 0x0C -/

/-! R310 of spec/08_nebula.md -/
def NEB_CTRL.addr : Nat := 0xC0000
def NEB_CTRL.HIT_SHIFT : Fld := ⟨NEB_CTRL.addr, 24, 4⟩
def NEB_CTRL.SWAP_SRC : Fld := ⟨NEB_CTRL.addr, 20, 2⟩
def NEB_CTRL.PERSIST : Fld := ⟨NEB_CTRL.addr, 16, 2⟩
def NEB_CTRL.DEC_MODE : Fld := ⟨NEB_CTRL.addr, 12, 1⟩
def NEB_CTRL.RMODE : Fld := ⟨NEB_CTRL.addr, 10, 2⟩
def NEB_CTRL.FILL : Fld := ⟨NEB_CTRL.addr, 9, 1⟩
def NEB_CTRL.CLIP : Fld := ⟨NEB_CTRL.addr, 8, 1⟩
def NEB_CTRL.SRC_CH : Fld := ⟨NEB_CTRL.addr, 4, 2⟩
def NEB_CTRL.EN : Fld := ⟨NEB_CTRL.addr, 0, 1⟩
def NEB_GEOM.addr : Nat := 0xC0004
def NEB_GEOM.ROWS_M1 : Fld := ⟨NEB_GEOM.addr, 16, 10⟩
def NEB_GEOM.COLS_M1 : Fld := ⟨NEB_GEOM.addr, 0, 11⟩
def NEB_RANGE.addr : Nat := 0xC0008
def NEB_RANGE.NBM1 : Fld := ⟨NEB_RANGE.addr, 16, 16⟩
def NEB_RANGE.FIRST_BIN : Fld := ⟨NEB_RANGE.addr, 0, 16⟩
def NEB_LEVEL.addr : Nat := 0xC000C
def NEB_LEVEL.STEP : Fld := ⟨NEB_LEVEL.addr, 16, 13⟩
def NEB_LEVEL.TOP : Fld := ⟨NEB_LEVEL.addr, 0, 16⟩
def NEB_PERSIST.addr : Nat := 0xC0010
def NEB_PERSIST.DF : Fld := ⟨NEB_PERSIST.addr, 0, 16⟩
def NEB_PERIOD.addr : Nat := 0xC0014
def NEB_PERIOD.CEXP : Fld := ⟨NEB_PERIOD.addr, 24, 5⟩
def NEB_PERIOD.PERIOD : Fld := ⟨NEB_PERIOD.addr, 0, 24⟩
def NEB_DEC.addr : Nat := 0xC0018
def NEB_DEC.KMIN : Fld := ⟨NEB_DEC.addr, 0, 8⟩
def NEB_COLOUR.addr : Nat := 0xC001C
def NEB_COLOUR.LOGK : Fld := ⟨NEB_COLOUR.addr, 16, 6⟩
def NEB_COLOUR.CSHIFT : Fld := ⟨NEB_COLOUR.addr, 8, 5⟩
def NEB_COLOUR.SCALE : Fld := ⟨NEB_COLOUR.addr, 4, 1⟩
def NEB_COLOUR.CTAB : Fld := ⟨NEB_COLOUR.addr, 0, 2⟩
def NEB_CMD.addr : Nat := 0xC0020
def NEB_CMD.RELEASE : Fld := ⟨NEB_CMD.addr, 3, 1⟩
def NEB_CMD.HOLD : Fld := ⟨NEB_CMD.addr, 2, 1⟩
def NEB_CMD.CLEAR : Fld := ⟨NEB_CMD.addr, 1, 1⟩
def NEB_CMD.SWAP : Fld := ⟨NEB_CMD.addr, 0, 1⟩
def NEB_HOLD_MAX.addr : Nat := 0xC0024
def NEB_HOLD_MAX.HOLD_MAX : Fld := ⟨NEB_HOLD_MAX.addr, 0, 10⟩
def NEB_STAT.addr : Nat := 0xC0028
def NEB_STAT.K : Fld := ⟨NEB_STAT.addr, 8, 8⟩
def NEB_STAT.SAT : Fld := ⟨NEB_STAT.addr, 6, 1⟩
def NEB_STAT.NO_VBLANK : Fld := ⟨NEB_STAT.addr, 5, 1⟩
def NEB_STAT.HOLD_EXPIRED : Fld := ⟨NEB_STAT.addr, 4, 1⟩
def NEB_STAT.HOLD_WAIT : Fld := ⟨NEB_STAT.addr, 3, 1⟩
def NEB_STAT.HELD : Fld := ⟨NEB_STAT.addr, 2, 1⟩
def NEB_STAT.PENDING : Fld := ⟨NEB_STAT.addr, 1, 1⟩
def NEB_STAT.PUB_BUSY : Fld := ⟨NEB_STAT.addr, 0, 1⟩
def NEB_CNT.addr : Nat := 0xC002C
def NEB_CNT.MERGED : Fld := ⟨NEB_CNT.addr, 16, 16⟩
def NEB_CNT.SETTLE_SKIP : Fld := ⟨NEB_CNT.addr, 0, 16⟩
def NEB_PUB_SEQ.addr : Nat := 0xC0030
def NEB_PUB_SEQ.PUB_SEQ : Fld := ⟨NEB_PUB_SEQ.addr, 0, 32⟩
def NEB_PUB_COUNT.addr : Nat := 0xC0034
def NEB_PUB_COUNT.COUNT : Fld := ⟨NEB_PUB_COUNT.addr, 0, 32⟩
def NEB_PUB_FLAGS.addr : Nat := 0xC0038
def NEB_PUB_FLAGS.K : Fld := ⟨NEB_PUB_FLAGS.addr, 16, 8⟩
def NEB_PUB_FLAGS.SAT : Fld := ⟨NEB_PUB_FLAGS.addr, 5, 1⟩
def NEB_PUB_FLAGS.CLEARED : Fld := ⟨NEB_PUB_FLAGS.addr, 4, 1⟩
def NEB_PUB_FLAGS.GAP : Fld := ⟨NEB_PUB_FLAGS.addr, 3, 1⟩
def NEB_PUB_FLAGS.DSAT : Fld := ⟨NEB_PUB_FLAGS.addr, 2, 1⟩
def NEB_PUB_FLAGS.THR : Fld := ⟨NEB_PUB_FLAGS.addr, 1, 1⟩
def NEB_PUB_FLAGS.OVR : Fld := ⟨NEB_PUB_FLAGS.addr, 0, 1⟩
def NEB_PUB_COLOUR.addr : Nat := 0xC003C
def NEB_PUB_COLOUR.LOGK : Fld := ⟨NEB_PUB_COLOUR.addr, 16, 6⟩
def NEB_PUB_COLOUR.CSHIFT : Fld := ⟨NEB_PUB_COLOUR.addr, 8, 5⟩
def NEB_PUB_COLOUR.SCALE : Fld := ⟨NEB_PUB_COLOUR.addr, 4, 1⟩
def NEB_PUB_COLOUR.CTAB : Fld := ⟨NEB_PUB_COLOUR.addr, 0, 2⟩
def NEB_PUB_T0.addr : Nat := 0xC0040
def NEB_PUB_T1.addr : Nat := 0xC0050
/-! R534 of spec/16_register_model.md -/
def NEB_PEND.addr : Nat := 0xC3FEC
def NEB_PEND.DIRTY : Fld := ⟨NEB_PEND.addr, 0, 1⟩
def NEB_GROUP.addr : Nat := 0xC3FF0
def NEB_GROUP.GROUP : Fld := ⟨NEB_GROUP.addr, 0, 5⟩
def NEB_ERR.addr : Nat := 0xC3FF4
def NEB_ERR.CODE : Fld := ⟨NEB_ERR.addr, 0, 8⟩
def NEB_ERR_OFS_LO.addr : Nat := 0xC3FF8
def NEB_ERR_OFS_LO.OFS : Fld := ⟨NEB_ERR_OFS_LO.addr, 0, 32⟩
def NEB_ERR_OFS_HI.addr : Nat := 0xC3FFC
def NEB_ERR_OFS_HI.SPACE : Fld := ⟨NEB_ERR_OFS_HI.addr, 30, 2⟩
def NEB_ERR_OFS_HI.OFS_HI : Fld := ⟨NEB_ERR_OFS_HI.addr, 0, 4⟩

end Sys2Proof.Machine
end

