-- ==== Sys2Proof/Machine/RegNamesB.lean ====
section
/-! DEFINITION. Names of the registers and fields of the BAR0 register map, part B: for each register its
BAR0 address (window * 0x10000 + offset), for each field its place in the word. Transcribed from the register
tables of spec/ (the rule that holds each table stands before its registers). An index is taken modulo the number of elements: a name never reaches another register. -/

namespace Sys2Proof.Machine

/-! ### Block DPY, window 0x0E -/

/-! R335 of spec/09_display.md -/
def DPY_CTRL.addr : Nat := 0xE0000
def DPY_CTRL.BPC : Fld := ⟨DPY_CTRL.addr, 12, 2⟩
def DPY_CTRL.RATE : Fld := ⟨DPY_CTRL.addr, 8, 3⟩
def DPY_CTRL.LANES : Fld := ⟨DPY_CTRL.addr, 6, 2⟩
def DPY_CTRL.ASSR : Fld := ⟨DPY_CTRL.addr, 5, 1⟩
def DPY_CTRL.FALLBACK : Fld := ⟨DPY_CTRL.addr, 4, 1⟩
def DPY_CTRL.TE_MODE : Fld := ⟨DPY_CTRL.addr, 1, 1⟩
def DPY_CTRL.EN : Fld := ⟨DPY_CTRL.addr, 0, 1⟩
def DPY_HTIM.addr : Nat := 0xE0004
def DPY_HTIM.HTOTAL : Fld := ⟨DPY_HTIM.addr, 16, 13⟩
def DPY_HTIM.HACTIVE : Fld := ⟨DPY_HTIM.addr, 0, 13⟩
def DPY_HSYNC.addr : Nat := 0xE0008
def DPY_HSYNC.HSW : Fld := ⟨DPY_HSYNC.addr, 16, 12⟩
def DPY_HSYNC.HFP : Fld := ⟨DPY_HSYNC.addr, 0, 12⟩
def DPY_VTIM.addr : Nat := 0xE000C
def DPY_VTIM.VTOTAL : Fld := ⟨DPY_VTIM.addr, 16, 12⟩
def DPY_VTIM.VACTIVE : Fld := ⟨DPY_VTIM.addr, 0, 12⟩
def DPY_VSYNC.addr : Nat := 0xE0010
def DPY_VSYNC.VSW : Fld := ⟨DPY_VSYNC.addr, 16, 12⟩
def DPY_VSYNC.VFP : Fld := ⟨DPY_VSYNC.addr, 0, 12⟩
def DPY_VTMAX.addr : Nat := 0xE0014
def DPY_VTMAX.VTOTAL_MAX : Fld := ⟨DPY_VTMAX.addr, 0, 13⟩
def DPY_PLLP_CFG.addr : Nat := 0xE0018
def DPY_PLLP_CFG.INT : Fld := ⟨DPY_PLLP_CFG.addr, 24, 8⟩
def DPY_PLLP_CFG.FRAC : Fld := ⟨DPY_PLLP_CFG.addr, 0, 24⟩
def DPY_PLLP_DIV.addr : Nat := 0xE001C
def DPY_PLLP_DIV.SEED : Fld := ⟨DPY_PLLP_DIV.addr, 16, 16⟩
def DPY_PLLP_DIV.DITHER_EN : Fld := ⟨DPY_PLLP_DIV.addr, 8, 1⟩
def DPY_PLLP_DIV.ODIV : Fld := ⟨DPY_PLLP_DIV.addr, 0, 7⟩
def DPY_BG.addr : Nat := 0xE0020
def DPY_BG.BG : Fld := ⟨DPY_BG.addr, 0, 30⟩
def DPY_DEN_VP0.addr : Nat := 0xE0030
def DPY_DEN_VP0.Y : Fld := ⟨DPY_DEN_VP0.addr, 16, 12⟩
def DPY_DEN_VP0.X : Fld := ⟨DPY_DEN_VP0.addr, 0, 12⟩
def DPY_DEN_VP1.addr : Nat := 0xE0034
def DPY_DEN_VP1.H : Fld := ⟨DPY_DEN_VP1.addr, 16, 12⟩
def DPY_DEN_VP1.W : Fld := ⟨DPY_DEN_VP1.addr, 0, 12⟩
def DPY_DEN_CTRL.addr : Nat := 0xE0038
def DPY_DEN_CTRL.EN : Fld := ⟨DPY_DEN_CTRL.addr, 0, 1⟩
def DPY_SPG_CTRL.addr : Nat := 0xE0040
def DPY_SPG_CTRL.CTAB : Fld := ⟨DPY_SPG_CTRL.addr, 16, 2⟩
def DPY_SPG_CTRL.SRC : Fld := ⟨DPY_SPG_CTRL.addr, 8, 5⟩
def DPY_SPG_CTRL.EN : Fld := ⟨DPY_SPG_CTRL.addr, 0, 1⟩
def DPY_SPG_LEVEL.addr : Nat := 0xE0044
def DPY_SPG_LEVEL.STEP : Fld := ⟨DPY_SPG_LEVEL.addr, 16, 13⟩
def DPY_SPG_LEVEL.TOP : Fld := ⟨DPY_SPG_LEVEL.addr, 0, 16⟩
def DPY_SPG_VP0.addr : Nat := 0xE0048
def DPY_SPG_VP0.Y : Fld := ⟨DPY_SPG_VP0.addr, 16, 12⟩
def DPY_SPG_VP0.X : Fld := ⟨DPY_SPG_VP0.addr, 0, 12⟩
def DPY_SPG_VP1.addr : Nat := 0xE004C
def DPY_SPG_VP1.H : Fld := ⟨DPY_SPG_VP1.addr, 16, 12⟩
def DPY_SPG_VP1.W : Fld := ⟨DPY_SPG_VP1.addr, 0, 12⟩
def DPY_TRC_CTRL.addr (i : Nat) : Nat := 0xE0060 + i % 4 * 0x8
def DPY_TRC_CTRL.SRC (i : Nat) : Fld := ⟨DPY_TRC_CTRL.addr i, 8, 5⟩
def DPY_TRC_CTRL.T (i : Nat) : Fld := ⟨DPY_TRC_CTRL.addr i, 4, 2⟩
def DPY_TRC_CTRL.EN (i : Nat) : Fld := ⟨DPY_TRC_CTRL.addr i, 0, 1⟩
def DPY_TRC_COLOUR.addr (i : Nat) : Nat := 0xE0064 + i % 4 * 0x8
def DPY_TRC_COLOUR.COLOUR (i : Nat) : Fld := ⟨DPY_TRC_COLOUR.addr i, 0, 30⟩
def DPY_TRC_LEVEL.addr : Nat := 0xE0080
def DPY_TRC_LEVEL.STEP : Fld := ⟨DPY_TRC_LEVEL.addr, 16, 13⟩
def DPY_TRC_LEVEL.TOP : Fld := ⟨DPY_TRC_LEVEL.addr, 0, 16⟩
def DPY_OVL_CTRL.addr : Nat := 0xE0090
def DPY_OVL_CTRL.BASE : Fld := ⟨DPY_OVL_CTRL.addr, 16, 7⟩
def DPY_OVL_CTRL.PAL : Fld := ⟨DPY_OVL_CTRL.addr, 4, 1⟩
def DPY_OVL_CTRL.EN : Fld := ⟨DPY_OVL_CTRL.addr, 0, 1⟩
def DPY_COMMIT.addr : Nat := 0xE0100
def DPY_COMMIT.COMMIT : Fld := ⟨DPY_COMMIT.addr, 0, 1⟩
def DPY_STAT.addr : Nat := 0xE0104
def DPY_STAT.APPLIED_FRAME : Fld := ⟨DPY_STAT.addr, 16, 16⟩
def DPY_STAT.MSTATE : Fld := ⟨DPY_STAT.addr, 8, 3⟩
def DPY_STAT.UNDERRUN : Fld := ⟨DPY_STAT.addr, 6, 1⟩
def DPY_STAT.TE_MISS : Fld := ⟨DPY_STAT.addr, 5, 1⟩
def DPY_STAT.LINK_UP : Fld := ⟨DPY_STAT.addr, 2, 1⟩
def DPY_STAT.HPD : Fld := ⟨DPY_STAT.addr, 1, 1⟩
def DPY_STAT.COMMIT_PEND : Fld := ⟨DPY_STAT.addr, 0, 1⟩
def DPY_FRAME.addr : Nat := 0xE0108
def DPY_FRAME.FRAME : Fld := ⟨DPY_FRAME.addr, 0, 32⟩
def DPY_LINK.addr : Nat := 0xE010C
def DPY_LINK.FELL_BACK : Fld := ⟨DPY_LINK.addr, 8, 1⟩
def DPY_LINK.LANES : Fld := ⟨DPY_LINK.addr, 6, 2⟩
def DPY_LINK.RATE : Fld := ⟨DPY_LINK.addr, 0, 3⟩
def DPY_CNT.addr : Nat := 0xE0110
def DPY_CNT.UNDERRUN_COUNT : Fld := ⟨DPY_CNT.addr, 16, 16⟩
def DPY_CNT.TE_MISS_COUNT : Fld := ⟨DPY_CNT.addr, 0, 16⟩
def DPY_AUX_CTRL.addr : Nat := 0xE0120
def DPY_AUX_CTRL.GO : Fld := ⟨DPY_AUX_CTRL.addr, 31, 1⟩
def DPY_AUX_CTRL.READ : Fld := ⟨DPY_AUX_CTRL.addr, 30, 1⟩
def DPY_AUX_CTRL.LENM1 : Fld := ⟨DPY_AUX_CTRL.addr, 24, 4⟩
def DPY_AUX_CTRL.ADDR : Fld := ⟨DPY_AUX_CTRL.addr, 0, 20⟩
def DPY_AUX_STAT.addr : Nat := 0xE0124
def DPY_AUX_STAT.RESULT : Fld := ⟨DPY_AUX_STAT.addr, 4, 2⟩
def DPY_AUX_STAT.DONE : Fld := ⟨DPY_AUX_STAT.addr, 0, 1⟩
def DPY_AUX_DATA.addr (i : Nat) : Nat := 0xE0130 + i % 4 * 0x4
def DPY_AUX_DATA.DATA (i : Nat) : Fld := ⟨DPY_AUX_DATA.addr i, 0, 32⟩
/-! R534 of spec/16_register_model.md -/
def DPY_PEND.addr : Nat := 0xE3FEC
def DPY_PEND.DIRTY : Fld := ⟨DPY_PEND.addr, 0, 1⟩
def DPY_ERR.addr : Nat := 0xE3FF4
def DPY_ERR.CODE : Fld := ⟨DPY_ERR.addr, 0, 8⟩
def DPY_ERR_OFS_LO.addr : Nat := 0xE3FF8
def DPY_ERR_OFS_LO.OFS : Fld := ⟨DPY_ERR_OFS_LO.addr, 0, 32⟩
def DPY_ERR_OFS_HI.addr : Nat := 0xE3FFC
def DPY_ERR_OFS_HI.SPACE : Fld := ⟨DPY_ERR_OFS_HI.addr, 30, 2⟩
def DPY_ERR_OFS_HI.OFS_HI : Fld := ⟨DPY_ERR_OFS_HI.addr, 0, 4⟩

/-! ### Block LOD, window 0x10 -/

/-! R373 of spec/10_lodestar_cores.md -/
def LOD_CTRL.addr (i : Nat) : Nat := 0x100000 + i % 8 * 0x100
def LOD_CTRL.BUDGET_TRAP (i : Nat) : Fld := ⟨LOD_CTRL.addr i, 2, 1⟩
def LOD_CTRL.SATST (i : Nat) : Fld := ⟨LOD_CTRL.addr i, 1, 1⟩
def LOD_CTRL.EN (i : Nat) : Fld := ⟨LOD_CTRL.addr i, 0, 1⟩
def LOD_ENTRY.addr (i : Nat) : Nat := 0x100004 + i % 8 * 0x100
def LOD_ENTRY.ENTRY (i : Nat) : Fld := ⟨LOD_ENTRY.addr i, 0, 15⟩
def LOD_BUDGET.addr (i : Nat) : Nat := 0x100008 + i % 8 * 0x100
def LOD_BUDGET.CYCLES (i : Nat) : Fld := ⟨LOD_BUDGET.addr i, 0, 24⟩
def LOD_RATE.addr (i : Nat) : Nat := 0x10000C + i % 8 * 0x100
def LOD_RATE.RATE (i : Nat) : Fld := ⟨LOD_RATE.addr i, 0, 28⟩
def LOD_TAP.addr (i : Nat) : Nat := 0x100010 + i % 8 * 0x100
def LOD_TAP.EN_1 (i : Nat) : Fld := ⟨LOD_TAP.addr i, 31, 1⟩
def LOD_TAP.THR_1 (i : Nat) : Fld := ⟨LOD_TAP.addr i, 24, 7⟩
def LOD_TAP.DDC_1 (i : Nat) : Fld := ⟨LOD_TAP.addr i, 16, 4⟩
def LOD_TAP.EN_0 (i : Nat) : Fld := ⟨LOD_TAP.addr i, 15, 1⟩
def LOD_TAP.THR_0 (i : Nat) : Fld := ⟨LOD_TAP.addr i, 8, 7⟩
def LOD_TAP.DDC_0 (i : Nat) : Fld := ⟨LOD_TAP.addr i, 0, 4⟩
def LOD_TIMER.addr (i : Nat) : Nat := 0x100014 + i % 8 * 0x100
def LOD_TIMER.PERIOD (i : Nat) : Fld := ⟨LOD_TIMER.addr i, 0, 24⟩
def LOD_CMD.addr (i : Nat) : Nat := 0x100020 + i % 8 * 0x100
def LOD_CMD.STOP (i : Nat) : Fld := ⟨LOD_CMD.addr i, 1, 1⟩
def LOD_CMD.START (i : Nat) : Fld := ⟨LOD_CMD.addr i, 0, 1⟩
def LOD_DOOR.addr (i : Nat) : Nat := 0x100024 + i % 8 * 0x100
def LOD_DOOR.MSG (i : Nat) : Fld := ⟨LOD_DOOR.addr i, 0, 16⟩
def LOD_STAT.addr (i : Nat) : Nat := 0x100028 + i % 8 * 0x100
def LOD_STAT.TCODE (i : Nat) : Fld := ⟨LOD_STAT.addr i, 24, 8⟩
def LOD_STAT.CAUSE (i : Nat) : Fld := ⟨LOD_STAT.addr i, 16, 4⟩
def LOD_STAT.HOSTEV (i : Nat) : Fld := ⟨LOD_STAT.addr i, 13, 1⟩
def LOD_STAT.OVERRUN (i : Nat) : Fld := ⟨LOD_STAT.addr i, 12, 1⟩
def LOD_STAT.TAP_OVF1 (i : Nat) : Fld := ⟨LOD_STAT.addr i, 11, 1⟩
def LOD_STAT.TAP_OVF0 (i : Nat) : Fld := ⟨LOD_STAT.addr i, 10, 1⟩
def LOD_STAT.SAT (i : Nat) : Fld := ⟨LOD_STAT.addr i, 9, 1⟩
def LOD_STAT.V56 (i : Nat) : Fld := ⟨LOD_STAT.addr i, 8, 1⟩
def LOD_STAT.V24 (i : Nat) : Fld := ⟨LOD_STAT.addr i, 7, 1⟩
def LOD_STAT.STATE (i : Nat) : Fld := ⟨LOD_STAT.addr i, 0, 3⟩
def LOD_PC.addr (i : Nat) : Nat := 0x10002C + i % 8 * 0x100
def LOD_PC.PC (i : Nat) : Fld := ⟨LOD_PC.addr i, 0, 15⟩
def LOD_CNT0.addr (i : Nat) : Nat := 0x100030 + i % 8 * 0x100
def LOD_CNT0.INVOC (i : Nat) : Fld := ⟨LOD_CNT0.addr i, 0, 32⟩
def LOD_CNT1.addr (i : Nat) : Nat := 0x100034 + i % 8 * 0x100
def LOD_CNT1.OVERRUN (i : Nat) : Fld := ⟨LOD_CNT1.addr i, 16, 16⟩
def LOD_CNT1.MSTALL (i : Nat) : Fld := ⟨LOD_CNT1.addr i, 8, 8⟩
def LOD_CNT1.ISTALL (i : Nat) : Fld := ⟨LOD_CNT1.addr i, 0, 8⟩
def LOD_CNT2.addr (i : Nat) : Nat := 0x100038 + i % 8 * 0x100
def LOD_CNT2.DROP1 (i : Nat) : Fld := ⟨LOD_CNT2.addr i, 16, 16⟩
def LOD_CNT2.DROP0 (i : Nat) : Fld := ⟨LOD_CNT2.addr i, 0, 16⟩
def LOD_BUSY.addr (i : Nat) : Nat := 0x10003C + i % 8 * 0x100
def LOD_BUSY.BUSY (i : Nat) : Fld := ⟨LOD_BUSY.addr i, 0, 20⟩
def LOD_MAXINV.addr (i : Nat) : Nat := 0x100040 + i % 8 * 0x100
def LOD_MAXINV.MAXINV (i : Nat) : Fld := ⟨LOD_MAXINV.addr i, 0, 24⟩
/-! R534 of spec/16_register_model.md -/
def LOD_PEND.addr : Nat := 0x103FEC
def LOD_PEND.DIRTY : Fld := ⟨LOD_PEND.addr, 0, 1⟩
def LOD_GROUP.addr : Nat := 0x103FF0
def LOD_GROUP.GROUP : Fld := ⟨LOD_GROUP.addr, 0, 5⟩
def LOD_ERR.addr : Nat := 0x103FF4
def LOD_ERR.CODE : Fld := ⟨LOD_ERR.addr, 0, 8⟩
def LOD_ERR_OFS_LO.addr : Nat := 0x103FF8
def LOD_ERR_OFS_LO.OFS : Fld := ⟨LOD_ERR_OFS_LO.addr, 0, 32⟩
def LOD_ERR_OFS_HI.addr : Nat := 0x103FFC
def LOD_ERR_OFS_HI.SPACE : Fld := ⟨LOD_ERR_OFS_HI.addr, 30, 2⟩
def LOD_ERR_OFS_HI.OFS_HI : Fld := ⟨LOD_ERR_OFS_HI.addr, 0, 4⟩

/-! ### Block DMA, window 0x12 -/

/-! R401 of spec/11_dma_check_units.md -/
def DMA_S_CFG.addr (i : Nat) : Nat := 0x120000 + i % 32 * 0x40
def DMA_S_CFG.QUEUE (i : Nat) : Fld := ⟨DMA_S_CFG.addr i, 16, 8⟩
def DMA_S_CFG.BUF (i : Nat) : Fld := ⟨DMA_S_CFG.addr i, 8, 3⟩
def DMA_S_CFG.CLASS (i : Nat) : Fld := ⟨DMA_S_CFG.addr i, 4, 2⟩
def DMA_S_CFG.QEN (i : Nat) : Fld := ⟨DMA_S_CFG.addr i, 1, 1⟩
def DMA_S_CFG.EN (i : Nat) : Fld := ⟨DMA_S_CFG.addr i, 0, 1⟩
def DMA_S_CHAIN.addr (i : Nat) : Nat := 0x120004 + i % 32 * 0x40
def DMA_S_CHAIN.CHAIN_BASE (i : Nat) : Fld := ⟨DMA_S_CHAIN.addr i, 0, 19⟩
def DMA_S_CLEN.addr (i : Nat) : Nat := 0x120008 + i % 32 * 0x40
def DMA_S_CLEN.CLEN (i : Nat) : Fld := ⟨DMA_S_CLEN.addr i, 0, 17⟩
def DMA_S_HEAD.addr (i : Nat) : Nat := 0x12000C + i % 32 * 0x40
def DMA_S_HEAD.HEAD (i : Nat) : Fld := ⟨DMA_S_HEAD.addr i, 6, 21⟩
def DMA_S_CMD.addr (i : Nat) : Nat := 0x120010 + i % 32 * 0x40
def DMA_S_CMD.KICK (i : Nat) : Fld := ⟨DMA_S_CMD.addr i, 3, 1⟩
def DMA_S_CMD.ABORT (i : Nat) : Fld := ⟨DMA_S_CMD.addr i, 2, 1⟩
def DMA_S_CMD.STOP (i : Nat) : Fld := ⟨DMA_S_CMD.addr i, 1, 1⟩
def DMA_S_CMD.START (i : Nat) : Fld := ⟨DMA_S_CMD.addr i, 0, 1⟩
def DMA_S_SPACE.addr (i : Nat) : Nat := 0x120014 + i % 32 * 0x40
def DMA_S_SPACE.DSPACE (i : Nat) : Fld := ⟨DMA_S_SPACE.addr i, 24, 4⟩
def DMA_S_SPACE.SSPACE (i : Nat) : Fld := ⟨DMA_S_SPACE.addr i, 16, 4⟩
def DMA_S_SPACE.DW (i : Nat) : Fld := ⟨DMA_S_SPACE.addr i, 9, 3⟩
def DMA_S_SPACE.SW (i : Nat) : Fld := ⟨DMA_S_SPACE.addr i, 6, 3⟩
def DMA_S_STAT.addr (i : Nat) : Nat := 0x120018 + i % 32 * 0x40
def DMA_S_STAT.DETAIL (i : Nat) : Fld := ⟨DMA_S_STAT.addr i, 16, 8⟩
def DMA_S_STAT.ERR (i : Nat) : Fld := ⟨DMA_S_STAT.addr i, 10, 1⟩
def DMA_S_STAT.DESC_DONE (i : Nat) : Fld := ⟨DMA_S_STAT.addr i, 9, 1⟩
def DMA_S_STAT.KICK_PEND (i : Nat) : Fld := ⟨DMA_S_STAT.addr i, 8, 1⟩
def DMA_S_STAT.LAST_STATUS (i : Nat) : Fld := ⟨DMA_S_STAT.addr i, 4, 4⟩
def DMA_S_STAT.STATE (i : Nat) : Fld := ⟨DMA_S_STAT.addr i, 0, 3⟩
def DMA_S_RATE.addr (i : Nat) : Nat := 0x12001C + i % 32 * 0x40
def DMA_S_RATE.RATE (i : Nat) : Fld := ⟨DMA_S_RATE.addr i, 0, 20⟩
def DMA_S_DONE.addr (i : Nat) : Nat := 0x120020 + i % 32 * 0x40
def DMA_S_DONE.DONE (i : Nat) : Fld := ⟨DMA_S_DONE.addr i, 0, 32⟩
def DMA_S_BYTES_LO.addr (i : Nat) : Nat := 0x120028 + i % 32 * 0x40
def DMA_S_BYTES_LO.W (i : Nat) : Fld := ⟨DMA_S_BYTES_LO.addr i, 0, 32⟩
def DMA_S_BYTES_HI.addr (i : Nat) : Nat := 0x12002C + i % 32 * 0x40
def DMA_S_BYTES_HI.W (i : Nat) : Fld := ⟨DMA_S_BYTES_HI.addr i, 0, 32⟩
def DMA_BAR_CTRL.addr (i : Nat) : Nat := 0x122000 + i % 16 * 0x8
def DMA_BAR_CTRL.ARM (i : Nat) : Fld := ⟨DMA_BAR_CTRL.addr i, 31, 1⟩
def DMA_BAR_CTRL.TARGET (i : Nat) : Fld := ⟨DMA_BAR_CTRL.addr i, 0, 16⟩
def DMA_BAR_STAT.addr (i : Nat) : Nat := 0x122004 + i % 16 * 0x8
def DMA_BAR_STAT.ERR (i : Nat) : Fld := ⟨DMA_BAR_STAT.addr i, 17, 1⟩
def DMA_BAR_STAT.DONE (i : Nat) : Fld := ⟨DMA_BAR_STAT.addr i, 16, 1⟩
def DMA_BAR_STAT.COUNT (i : Nat) : Fld := ⟨DMA_BAR_STAT.addr i, 0, 16⟩
def DMA_ARB_AGE.addr : Nat := 0x123000
def DMA_ARB_AGE.AGE : Fld := ⟨DMA_ARB_AGE.addr, 0, 12⟩
/-! R534 of spec/16_register_model.md -/
def DMA_PEND.addr : Nat := 0x123FEC
def DMA_PEND.DIRTY : Fld := ⟨DMA_PEND.addr, 0, 1⟩
def DMA_GROUP.addr : Nat := 0x123FF0
def DMA_GROUP.GROUP : Fld := ⟨DMA_GROUP.addr, 0, 5⟩
def DMA_ERR.addr : Nat := 0x123FF4
def DMA_ERR.CODE : Fld := ⟨DMA_ERR.addr, 0, 8⟩
def DMA_ERR_OFS_LO.addr : Nat := 0x123FF8
def DMA_ERR_OFS_LO.OFS : Fld := ⟨DMA_ERR_OFS_LO.addr, 0, 32⟩
def DMA_ERR_OFS_HI.addr : Nat := 0x123FFC
def DMA_ERR_OFS_HI.SPACE : Fld := ⟨DMA_ERR_OFS_HI.addr, 30, 2⟩
def DMA_ERR_OFS_HI.OFS_HI : Fld := ⟨DMA_ERR_OFS_HI.addr, 0, 4⟩

/-! ### Block CHK, window 0x13 -/

/-! R401 of spec/11_dma_check_units.md -/
def CHK_CFG.addr (i : Nat) : Nat := 0x130000 + i % 16 * 0x20
def CHK_CFG.STALL (i : Nat) : Fld := ⟨CHK_CFG.addr i, 8, 5⟩
def CHK_CFG.ALG (i : Nat) : Fld := ⟨CHK_CFG.addr i, 1, 2⟩
def CHK_CFG.EN (i : Nat) : Fld := ⟨CHK_CFG.addr i, 0, 1⟩
def CHK_SEQ_INIT.addr (i : Nat) : Nat := 0x130004 + i % 16 * 0x20
def CHK_SEQ_INIT.SEQ_INIT (i : Nat) : Fld := ⟨CHK_SEQ_INIT.addr i, 0, 32⟩
def CHK_CMD.addr (i : Nat) : Nat := 0x130008 + i % 16 * 0x20
def CHK_CMD.RESET (i : Nat) : Fld := ⟨CHK_CMD.addr i, 0, 1⟩
def CHK_RESULT.addr (i : Nat) : Nat := 0x13000C + i % 16 * 0x20
def CHK_RESULT.VALUE (i : Nat) : Fld := ⟨CHK_RESULT.addr i, 0, 32⟩
def CHK_RSEQ.addr (i : Nat) : Nat := 0x130010 + i % 16 * 0x20
def CHK_RSEQ.SEQ (i : Nat) : Fld := ⟨CHK_RSEQ.addr i, 0, 32⟩
def CHK_RINFO.addr (i : Nat) : Nat := 0x130014 + i % 16 * 0x20
def CHK_RINFO.VALID (i : Nat) : Fld := ⟨CHK_RINFO.addr i, 4, 1⟩
def CHK_RINFO.ALIVE (i : Nat) : Fld := ⟨CHK_RINFO.addr i, 0, 4⟩
def CHK_RBYTES.addr (i : Nat) : Nat := 0x130018 + i % 16 * 0x20
def CHK_RBYTES.BYTES (i : Nat) : Fld := ⟨CHK_RBYTES.addr i, 0, 32⟩
def CHK_STAT.addr (i : Nat) : Nat := 0x13001C + i % 16 * 0x20
def CHK_STAT.INVALIDS (i : Nat) : Fld := ⟨CHK_STAT.addr i, 16, 16⟩
def CHK_STAT.OPEN (i : Nat) : Fld := ⟨CHK_STAT.addr i, 1, 1⟩
def CHK_STAT.NEW (i : Nat) : Fld := ⟨CHK_STAT.addr i, 0, 1⟩
/-! R534 of spec/16_register_model.md -/
def CHK_PEND.addr : Nat := 0x133FEC
def CHK_PEND.DIRTY : Fld := ⟨CHK_PEND.addr, 0, 1⟩
def CHK_GROUP.addr : Nat := 0x133FF0
def CHK_GROUP.GROUP : Fld := ⟨CHK_GROUP.addr, 0, 5⟩
def CHK_ERR.addr : Nat := 0x133FF4
def CHK_ERR.CODE : Fld := ⟨CHK_ERR.addr, 0, 8⟩
def CHK_ERR_OFS_LO.addr : Nat := 0x133FF8
def CHK_ERR_OFS_LO.OFS : Fld := ⟨CHK_ERR_OFS_LO.addr, 0, 32⟩
def CHK_ERR_OFS_HI.addr : Nat := 0x133FFC
def CHK_ERR_OFS_HI.SPACE : Fld := ⟨CHK_ERR_OFS_HI.addr, 30, 2⟩
def CHK_ERR_OFS_HI.OFS_HI : Fld := ⟨CHK_ERR_OFS_HI.addr, 0, 4⟩

/-! ### Block MEM, window 0x14 -/

/-! R453 of spec/13_gddr6_controller.md -/
def MEM_CFG.addr : Nat := 0x140000
def MEM_CFG.POP : Fld := ⟨MEM_CFG.addr, 6, 2⟩
def MEM_CFG.MAP : Fld := ⟨MEM_CFG.addr, 4, 2⟩
def MEM_CFG.DENS : Fld := ⟨MEM_CFG.addr, 0, 1⟩
def MEM_FREQ.addr : Nat := 0x140004
def MEM_FREQ.RATE_NOW : Fld := ⟨MEM_FREQ.addr, 8, 2⟩
def MEM_FREQ.RATE : Fld := ⟨MEM_FREQ.addr, 0, 2⟩
def MEM_CMD.addr : Nat := 0x140008
def MEM_CMD.TRAIN : Fld := ⟨MEM_CMD.addr, 1, 1⟩
def MEM_CMD.FREQ_GO : Fld := ⟨MEM_CMD.addr, 0, 1⟩
def MEM_STAT.addr : Nat := 0x14000C
def MEM_STAT.SPARE_EXH : Fld := ⟨MEM_STAT.addr, 11, 1⟩
def MEM_STAT.ROW_HOT : Fld := ⟨MEM_STAT.addr, 10, 1⟩
def MEM_STAT.SPARED : Fld := ⟨MEM_STAT.addr, 9, 1⟩
def MEM_STAT.UE : Fld := ⟨MEM_STAT.addr, 8, 1⟩
def MEM_STAT.TRAIN_BUSY : Fld := ⟨MEM_STAT.addr, 5, 1⟩
def MEM_STAT.FREQ_DEFERRED : Fld := ⟨MEM_STAT.addr, 4, 1⟩
def MEM_STAT.STATE : Fld := ⟨MEM_STAT.addr, 0, 3⟩
def MEM_USABLE.addr : Nat := 0x140010
def MEM_USABLE.USABLE : Fld := ⟨MEM_USABLE.addr, 0, 23⟩
def MEM_ARB.addr : Nat := 0x140014
def MEM_ARB.PROMOTE2 : Fld := ⟨MEM_ARB.addr, 16, 12⟩
def MEM_ARB.PROMOTE3 : Fld := ⟨MEM_ARB.addr, 0, 12⟩
def MEM_TRAIN.addr : Nat := 0x140018
def MEM_TRAIN.TEMP_DELTA : Fld := ⟨MEM_TRAIN.addr, 16, 8⟩
def MEM_TRAIN.INTERVAL : Fld := ⟨MEM_TRAIN.addr, 0, 16⟩
def MEM_RD_CFG.addr : Nat := 0x14001C
def MEM_RD_CFG.THRESH : Fld := ⟨MEM_RD_CFG.addr, 16, 16⟩
def MEM_RD_CFG.GAP : Fld := ⟨MEM_RD_CFG.addr, 8, 8⟩
def MEM_RD_CFG.TIME : Fld := ⟨MEM_RD_CFG.addr, 0, 8⟩
def MEM_RD_STAT.addr : Nat := 0x140020
def MEM_RD_STAT.REQ : Fld := ⟨MEM_RD_STAT.addr, 26, 6⟩
def MEM_RD_STAT.CH : Fld := ⟨MEM_RD_STAT.addr, 20, 4⟩
def MEM_RD_STAT.BANK : Fld := ⟨MEM_RD_STAT.addr, 16, 4⟩
def MEM_RD_STAT.ROW : Fld := ⟨MEM_RD_STAT.addr, 0, 15⟩
def MEM_SCRUB.addr : Nat := 0x140028
def MEM_SCRUB.CE_THRESH : Fld := ⟨MEM_SCRUB.addr, 16, 8⟩
def MEM_SCRUB.HOURS : Fld := ⟨MEM_SCRUB.addr, 0, 8⟩
def MEM_CNT.addr : Nat := 0x14002C
def MEM_CNT.UE_COUNT : Fld := ⟨MEM_CNT.addr, 16, 16⟩
def MEM_CNT.CE_COUNT : Fld := ⟨MEM_CNT.addr, 0, 16⟩
def MEM_ERR_ROW.addr : Nat := 0x140030
def MEM_ERR_ROW.CH : Fld := ⟨MEM_ERR_ROW.addr, 20, 4⟩
def MEM_ERR_ROW.BANK : Fld := ⟨MEM_ERR_ROW.addr, 16, 4⟩
def MEM_ERR_ROW.ROW : Fld := ⟨MEM_ERR_ROW.addr, 0, 15⟩
def MEM_C_STAT.addr (i : Nat) : Nat := 0x141000 + i % 8 * 0x100
def MEM_C_STAT.TEMP_B (i : Nat) : Fld := ⟨MEM_C_STAT.addr i, 24, 8⟩
def MEM_C_STAT.TEMP_A (i : Nat) : Fld := ⟨MEM_C_STAT.addr i, 16, 8⟩
def MEM_C_STAT.TRAIN_FAIL (i : Nat) : Fld := ⟨MEM_C_STAT.addr i, 13, 1⟩
def MEM_C_STAT.TRAINED (i : Nat) : Fld := ⟨MEM_C_STAT.addr i, 12, 1⟩
def MEM_C_STAT.SPARES (i : Nat) : Fld := ⟨MEM_C_STAT.addr i, 0, 10⟩
def MEM_C_CNT.addr (i : Nat) : Nat := 0x141004 + i % 8 * 0x100
def MEM_C_CNT.RETRAINS (i : Nat) : Fld := ⟨MEM_C_CNT.addr i, 16, 16⟩
def MEM_C_CNT.ROW_HOTS (i : Nat) : Fld := ⟨MEM_C_CNT.addr i, 0, 16⟩
/-! R534 of spec/16_register_model.md -/
def MEM_PEND.addr : Nat := 0x143FEC
def MEM_PEND.DIRTY : Fld := ⟨MEM_PEND.addr, 0, 1⟩
def MEM_GROUP.addr : Nat := 0x143FF0
def MEM_GROUP.GROUP : Fld := ⟨MEM_GROUP.addr, 0, 5⟩
def MEM_ERR.addr : Nat := 0x143FF4
def MEM_ERR.CODE : Fld := ⟨MEM_ERR.addr, 0, 8⟩
def MEM_ERR_OFS_LO.addr : Nat := 0x143FF8
def MEM_ERR_OFS_LO.OFS : Fld := ⟨MEM_ERR_OFS_LO.addr, 0, 32⟩
def MEM_ERR_OFS_HI.addr : Nat := 0x143FFC
def MEM_ERR_OFS_HI.SPACE : Fld := ⟨MEM_ERR_OFS_HI.addr, 30, 2⟩
def MEM_ERR_OFS_HI.OFS_HI : Fld := ⟨MEM_ERR_OFS_HI.addr, 0, 4⟩

/-! ### Block HPT, window 0x15 -/

/-! R431 of spec/12_host_storage_ports.md -/
def HPT_LINK.addr : Nat := 0x150000
def HPT_LINK.VENDOR : Fld := ⟨HPT_LINK.addr, 16, 16⟩
def HPT_LINK.BME : Fld := ⟨HPT_LINK.addr, 13, 1⟩
def HPT_LINK.UP : Fld := ⟨HPT_LINK.addr, 12, 1⟩
def HPT_LINK.WIDTH : Fld := ⟨HPT_LINK.addr, 4, 6⟩
def HPT_LINK.SPEED : Fld := ⟨HPT_LINK.addr, 0, 3⟩
def HPT_BAR4.addr : Nat := 0x150004
def HPT_BAR4.SIZE : Fld := ⟨HPT_BAR4.addr, 24, 8⟩
def HPT_BAR4.OFS : Fld := ⟨HPT_BAR4.addr, 0, 6⟩
def HPT_CTO.addr : Nat := 0x150008
def HPT_CTO.CTO : Fld := ⟨HPT_CTO.addr, 0, 20⟩
def HPT_CNT.addr : Nat := 0x15000C
def HPT_CNT.RECOVERY : Fld := ⟨HPT_CNT.addr, 16, 16⟩
def HPT_CNT.REPLAY : Fld := ⟨HPT_CNT.addr, 0, 16⟩
def HPT_IRQ_STAT.addr (i : Nat) : Nat := 0x150100 + i % 4 * 0x4
def HPT_IRQ_STAT.STAT (i : Nat) : Fld := ⟨HPT_IRQ_STAT.addr i, 0, 32⟩
def HPT_IRQ_EN.addr (i : Nat) : Nat := 0x150110 + i % 4 * 0x4
def HPT_IRQ_EN.EN (i : Nat) : Fld := ⟨HPT_IRQ_EN.addr i, 0, 32⟩
def HPT_IRQ_MAP.addr (i : Nat) : Nat := 0x150200 + i % 32 * 0x4
def HPT_IRQ_MAP.VEC3 (i : Nat) : Fld := ⟨HPT_IRQ_MAP.addr i, 24, 5⟩
def HPT_IRQ_MAP.VEC2 (i : Nat) : Fld := ⟨HPT_IRQ_MAP.addr i, 16, 5⟩
def HPT_IRQ_MAP.VEC1 (i : Nat) : Fld := ⟨HPT_IRQ_MAP.addr i, 8, 5⟩
def HPT_IRQ_MAP.VEC0 (i : Nat) : Fld := ⟨HPT_IRQ_MAP.addr i, 0, 5⟩
def HPT_VEC.addr (i : Nat) : Nat := 0x150300 + i % 32 * 0x4
def HPT_VEC.PEND (i : Nat) : Fld := ⟨HPT_VEC.addr i, 31, 1⟩
def HPT_VEC.HOLD (i : Nat) : Fld := ⟨HPT_VEC.addr i, 0, 16⟩
def HPT_MSIX_ADDR_LO.addr (i : Nat) : Nat := 0x151000 + i % 32 * 0x10
def HPT_MSIX_ADDR_LO.W (i : Nat) : Fld := ⟨HPT_MSIX_ADDR_LO.addr i, 0, 32⟩
def HPT_MSIX_ADDR_HI.addr (i : Nat) : Nat := 0x151004 + i % 32 * 0x10
def HPT_MSIX_ADDR_HI.W (i : Nat) : Fld := ⟨HPT_MSIX_ADDR_HI.addr i, 0, 32⟩
def HPT_MSIX_DATA.addr (i : Nat) : Nat := 0x151008 + i % 32 * 0x10
def HPT_MSIX_DATA.W (i : Nat) : Fld := ⟨HPT_MSIX_DATA.addr i, 0, 32⟩
def HPT_MSIX_CTRL.addr (i : Nat) : Nat := 0x15100C + i % 32 * 0x10
def HPT_MSIX_CTRL.MASK (i : Nat) : Fld := ⟨HPT_MSIX_CTRL.addr i, 0, 1⟩
def HPT_PBA.addr : Nat := 0x151800
def HPT_PBA.PEND : Fld := ⟨HPT_PBA.addr, 0, 32⟩
/-! R534 of spec/16_register_model.md -/
def HPT_PEND.addr : Nat := 0x153FEC
def HPT_PEND.DIRTY : Fld := ⟨HPT_PEND.addr, 0, 1⟩
def HPT_GROUP.addr : Nat := 0x153FF0
def HPT_GROUP.GROUP : Fld := ⟨HPT_GROUP.addr, 0, 5⟩
def HPT_ERR.addr : Nat := 0x153FF4
def HPT_ERR.CODE : Fld := ⟨HPT_ERR.addr, 0, 8⟩
def HPT_ERR_OFS_LO.addr : Nat := 0x153FF8
def HPT_ERR_OFS_LO.OFS : Fld := ⟨HPT_ERR_OFS_LO.addr, 0, 32⟩
def HPT_ERR_OFS_HI.addr : Nat := 0x153FFC
def HPT_ERR_OFS_HI.SPACE : Fld := ⟨HPT_ERR_OFS_HI.addr, 30, 2⟩
def HPT_ERR_OFS_HI.OFS_HI : Fld := ⟨HPT_ERR_OFS_HI.addr, 0, 4⟩

/-! ### Block SPT, window 0x16 -/

/-! R431 of spec/12_host_storage_ports.md -/
def SPT_CFG.addr : Nat := 0x160000
def SPT_CFG.VWC : Fld := ⟨SPT_CFG.addr, 20, 1⟩
def SPT_CFG.DMASK : Fld := ⟨SPT_CFG.addr, 16, 4⟩
def SPT_CFG.SU : Fld := ⟨SPT_CFG.addr, 8, 4⟩
def SPT_CFG.FUA : Fld := ⟨SPT_CFG.addr, 4, 1⟩
def SPT_CFG.BIF : Fld := ⟨SPT_CFG.addr, 0, 2⟩
def SPT_BUF.addr : Nat := 0x160004
def SPT_BUF.SIZE : Fld := ⟨SPT_BUF.addr, 16, 7⟩
def SPT_BUF.BASE : Fld := ⟨SPT_BUF.addr, 0, 9⟩
def SPT_CMD.addr : Nat := 0x160008
def SPT_CMD.REINIT : Fld := ⟨SPT_CMD.addr, 4, 4⟩
def SPT_CMD.FLUSH : Fld := ⟨SPT_CMD.addr, 0, 1⟩
def SPT_STAT.addr : Nat := 0x16000C
def SPT_STAT.FLUSH_ERR : Fld := ⟨SPT_STAT.addr, 6, 1⟩
def SPT_STAT.FLUSH_DONE : Fld := ⟨SPT_STAT.addr, 5, 1⟩
def SPT_STAT.FLUSH_BUSY : Fld := ⟨SPT_STAT.addr, 4, 1⟩
def SPT_STAT.READY : Fld := ⟨SPT_STAT.addr, 0, 4⟩
def SPT_TO.addr : Nat := 0x160010
def SPT_TO.TO : Fld := ⟨SPT_TO.addr, 0, 16⟩
def SPT_DRV_CTRL.addr (i : Nat) : Nat := 0x160100 + i % 4 * 0x40
def SPT_DRV_CTRL.QD (i : Nat) : Fld := ⟨SPT_DRV_CTRL.addr i, 16, 9⟩
def SPT_DRV_CTRL.EN (i : Nat) : Fld := ⟨SPT_DRV_CTRL.addr i, 0, 1⟩
def SPT_DRV_NSID.addr (i : Nat) : Nat := 0x160104 + i % 4 * 0x40
def SPT_DRV_NSID.NSID (i : Nat) : Fld := ⟨SPT_DRV_NSID.addr i, 0, 32⟩
def SPT_DRV_BASE_LO.addr (i : Nat) : Nat := 0x160108 + i % 4 * 0x40
def SPT_DRV_BASE_LO.W (i : Nat) : Fld := ⟨SPT_DRV_BASE_LO.addr i, 0, 32⟩
def SPT_DRV_BASE_HI.addr (i : Nat) : Nat := 0x16010C + i % 4 * 0x40
def SPT_DRV_BASE_HI.W (i : Nat) : Fld := ⟨SPT_DRV_BASE_HI.addr i, 0, 32⟩
def SPT_DRV_NLB_LO.addr (i : Nat) : Nat := 0x160110 + i % 4 * 0x40
def SPT_DRV_NLB_LO.W (i : Nat) : Fld := ⟨SPT_DRV_NLB_LO.addr i, 0, 32⟩
def SPT_DRV_NLB_HI.addr (i : Nat) : Nat := 0x160114 + i % 4 * 0x40
def SPT_DRV_NLB_HI.W (i : Nat) : Fld := ⟨SPT_DRV_NLB_HI.addr i, 0, 32⟩
def SPT_DRV_WRATE.addr (i : Nat) : Nat := 0x160118 + i % 4 * 0x40
def SPT_DRV_WRATE.WRATE (i : Nat) : Fld := ⟨SPT_DRV_WRATE.addr i, 0, 20⟩
def SPT_DRV_STAT.addr (i : Nat) : Nat := 0x16011C + i % 4 * 0x40
def SPT_DRV_STAT.MDTS (i : Nat) : Fld := ⟨SPT_DRV_STAT.addr i, 16, 8⟩
def SPT_DRV_STAT.WIDTH (i : Nat) : Fld := ⟨SPT_DRV_STAT.addr i, 8, 6⟩
def SPT_DRV_STAT.SPEED (i : Nat) : Fld := ⟨SPT_DRV_STAT.addr i, 4, 3⟩
def SPT_DRV_STAT.LBA4K (i : Nat) : Fld := ⟨SPT_DRV_STAT.addr i, 3, 1⟩
def SPT_DRV_STAT.STATE (i : Nat) : Fld := ⟨SPT_DRV_STAT.addr i, 0, 3⟩
def SPT_DRV_ERR.addr (i : Nat) : Nat := 0x160120 + i % 4 * 0x40
def SPT_DRV_ERR.CID (i : Nat) : Fld := ⟨SPT_DRV_ERR.addr i, 16, 16⟩
def SPT_DRV_ERR.SCT (i : Nat) : Fld := ⟨SPT_DRV_ERR.addr i, 8, 3⟩
def SPT_DRV_ERR.SC (i : Nat) : Fld := ⟨SPT_DRV_ERR.addr i, 0, 8⟩
def SPT_DRV_CNT.addr (i : Nat) : Nat := 0x160124 + i % 4 * 0x40
def SPT_DRV_CNT.TIMEOUTS (i : Nat) : Fld := ⟨SPT_DRV_CNT.addr i, 16, 16⟩
def SPT_DRV_CNT.ERRORS (i : Nat) : Fld := ⟨SPT_DRV_CNT.addr i, 0, 16⟩
def SPT_DRV_BYTES_LO.addr (i : Nat) : Nat := 0x160130 + i % 4 * 0x40
def SPT_DRV_BYTES_LO.W (i : Nat) : Fld := ⟨SPT_DRV_BYTES_LO.addr i, 0, 32⟩
def SPT_DRV_BYTES_HI.addr (i : Nat) : Nat := 0x160134 + i % 4 * 0x40
def SPT_DRV_BYTES_HI.W (i : Nat) : Fld := ⟨SPT_DRV_BYTES_HI.addr i, 0, 32⟩
/-! R534 of spec/16_register_model.md -/
def SPT_PEND.addr : Nat := 0x163FEC
def SPT_PEND.DIRTY : Fld := ⟨SPT_PEND.addr, 0, 1⟩
def SPT_GROUP.addr : Nat := 0x163FF0
def SPT_GROUP.GROUP : Fld := ⟨SPT_GROUP.addr, 0, 5⟩
def SPT_ERR.addr : Nat := 0x163FF4
def SPT_ERR.CODE : Fld := ⟨SPT_ERR.addr, 0, 8⟩
def SPT_ERR_OFS_LO.addr : Nat := 0x163FF8
def SPT_ERR_OFS_LO.OFS : Fld := ⟨SPT_ERR_OFS_LO.addr, 0, 32⟩
def SPT_ERR_OFS_HI.addr : Nat := 0x163FFC
def SPT_ERR_OFS_HI.SPACE : Fld := ⟨SPT_ERR_OFS_HI.addr, 30, 2⟩
def SPT_ERR_OFS_HI.OFS_HI : Fld := ⟨SPT_ERR_OFS_HI.addr, 0, 4⟩

end Sys2Proof.Machine
end

