-- ==== Sys2Proof/Machine/RegNamesC.lean ====
section
/-! DEFINITION. Names of the registers and fields of the BAR0 register map, part C: for each register its
BAR0 address (window * 0x10000 + offset), for each field its place in the word. Transcribed from the register
tables of spec/ (the rule that holds each table stands before its registers). An index is taken modulo the number of elements: a name never reaches another register. -/

namespace Sys2Proof.Machine

/-! ### Block AUX, window 0x17 -/

/-! R485 of spec/14_frontend_control.md -/
def AUX_SEQ.addr (i : Nat) : Nat := 0x170000 + i % 2 * 0x4
def AUX_SEQ.LEN_M1 (i : Nat) : Fld := ⟨AUX_SEQ.addr i, 8, 4⟩
def AUX_SEQ.EN (i : Nat) : Fld := ⟨AUX_SEQ.addr i, 0, 1⟩
def AUX_SLOT.addr (i : Nat) : Nat := 0x170100 + i % 32 / 16 * 0x40 + i % 32 % 16 * 0x4
def AUX_SLOT.INPUT (i : Nat) : Fld := ⟨AUX_SLOT.addr i, 0, 5⟩
def AUX_MON_RES.addr (i : Nat) : Nat := 0x170200 + i % 32 / 16 * 0x40 + i % 32 % 16 * 0x4
def AUX_MON_RES.COUNT (i : Nat) : Fld := ⟨AUX_MON_RES.addr i, 24, 8⟩
def AUX_MON_RES.NEW (i : Nat) : Fld := ⟨AUX_MON_RES.addr i, 18, 1⟩
def AUX_MON_RES.SUSPECT (i : Nat) : Fld := ⟨AUX_MON_RES.addr i, 17, 1⟩
def AUX_MON_RES.OVR (i : Nat) : Fld := ⟨AUX_MON_RES.addr i, 16, 1⟩
def AUX_MON_RES.CODE (i : Nat) : Fld := ⟨AUX_MON_RES.addr i, 0, 16⟩
def AUX_XCHK.addr : Nat := 0x170300
def AUX_XCHK.TOL : Fld := ⟨AUX_XCHK.addr, 16, 16⟩
def AUX_XCHK.N : Fld := ⟨AUX_XCHK.addr, 12, 4⟩
def AUX_XCHK.POS : Fld := ⟨AUX_XCHK.addr, 8, 4⟩
def AUX_XCHK.EN : Fld := ⟨AUX_XCHK.addr, 0, 1⟩
def AUX_STAT.addr : Nat := 0x170304
def AUX_STAT.FOK : Fld := ⟨AUX_STAT.addr, 8, 1⟩
def AUX_STAT.ZOK : Fld := ⟨AUX_STAT.addr, 7, 1⟩
def AUX_STAT.DIAG_BUSY : Fld := ⟨AUX_STAT.addr, 6, 1⟩
def AUX_STAT.CAL_BUSY : Fld := ⟨AUX_STAT.addr, 5, 1⟩
def AUX_STAT.INJ_BUSY : Fld := ⟨AUX_STAT.addr, 4, 1⟩
def AUX_STAT.XCHK_FAIL : Fld := ⟨AUX_STAT.addr, 3, 1⟩
def AUX_STAT.OVR1 : Fld := ⟨AUX_STAT.addr, 1, 1⟩
def AUX_STAT.OVR0 : Fld := ⟨AUX_STAT.addr, 0, 1⟩
def AUX_XCHK_DIFF.addr : Nat := 0x170308
def AUX_XCHK_DIFF.DIFF : Fld := ⟨AUX_XCHK_DIFF.addr, 0, 17⟩
def AUX_INJ.addr : Nat := 0x170310
def AUX_INJ.INPUT1 : Fld := ⟨AUX_INJ.addr, 24, 5⟩
def AUX_INJ.INPUT0 : Fld := ⟨AUX_INJ.addr, 16, 5⟩
def AUX_INJ.ADC_MASK : Fld := ⟨AUX_INJ.addr, 8, 2⟩
def AUX_INJ.TRG_EN : Fld := ⟨AUX_INJ.addr, 4, 1⟩
def AUX_INJ_RES.addr (i : Nat) : Nat := 0x170314 + i % 2 * 0x4
def AUX_INJ_RES.SUSPECT (i : Nat) : Fld := ⟨AUX_INJ_RES.addr i, 17, 1⟩
def AUX_INJ_RES.OVR (i : Nat) : Fld := ⟨AUX_INJ_RES.addr i, 16, 1⟩
def AUX_INJ_RES.CODE (i : Nat) : Fld := ⟨AUX_INJ_RES.addr i, 0, 16⟩
def AUX_INJ_CNT.addr : Nat := 0x17031C
def AUX_INJ_CNT.MERGED : Fld := ⟨AUX_INJ_CNT.addr, 0, 16⟩
def AUX_CMD.addr : Nat := 0x170320
def AUX_CMD.CAL_APPLY : Fld := ⟨AUX_CMD.addr, 2, 1⟩
def AUX_CMD.CAL_GO : Fld := ⟨AUX_CMD.addr, 1, 1⟩
def AUX_CMD.INJ : Fld := ⟨AUX_CMD.addr, 0, 1⟩
def AUX_INJ_TS_A.addr : Nat := 0x170330
def AUX_INJ_TS_B.addr : Nat := 0x170340
def AUX_CAL_CTRL.addr : Nat := 0x170400
def AUX_CAL_CTRL.ADC : Fld := ⟨AUX_CAL_CTRL.addr, 24, 1⟩
def AUX_CAL_CTRL.INPUT : Fld := ⟨AUX_CAL_CTRL.addr, 16, 5⟩
def AUX_CAL_CTRL.POINT : Fld := ⟨AUX_CAL_CTRL.addr, 8, 1⟩
def AUX_CAL_CTRL.AVG : Fld := ⟨AUX_CAL_CTRL.addr, 0, 4⟩
def AUX_CAL_TGT.addr : Nat := 0x170404
def AUX_CAL_TGT.FT : Fld := ⟨AUX_CAL_TGT.addr, 16, 16⟩
def AUX_CAL_TGT.ZT : Fld := ⟨AUX_CAL_TGT.addr, 0, 16⟩
def AUX_CAL_COUNT.addr : Nat := 0x170408
def AUX_CAL_COUNT.COUNT : Fld := ⟨AUX_CAL_COUNT.addr, 0, 32⟩
def AUX_CAL_TIME_LO.addr : Nat := 0x170410
def AUX_CAL_TIME_LO.W : Fld := ⟨AUX_CAL_TIME_LO.addr, 0, 32⟩
def AUX_CAL_TIME_HI.addr : Nat := 0x170414
def AUX_CAL_TIME_HI.W : Fld := ⟨AUX_CAL_TIME_HI.addr, 0, 8⟩
def AUX_CAL_MEAS.addr : Nat := 0x170418
def AUX_CAL_MEAS.F : Fld := ⟨AUX_CAL_MEAS.addr, 16, 16⟩
def AUX_CAL_MEAS.Z : Fld := ⟨AUX_CAL_MEAS.addr, 0, 16⟩
def AUX_CAL_GAIN.addr (i : Nat) : Nat := 0x170500 + i % 32 * 0x4
def AUX_CAL_GAIN.GAIN (i : Nat) : Fld := ⟨AUX_CAL_GAIN.addr i, 0, 18⟩
def AUX_CAL_OFS.addr (i : Nat) : Nat := 0x170580 + i % 32 * 0x4
def AUX_CAL_OFS.OFS (i : Nat) : Fld := ⟨AUX_CAL_OFS.addr i, 0, 18⟩
def AUX_TDAC.addr : Nat := 0x170600
def AUX_TDAC.OUT_EN : Fld := ⟨AUX_TDAC.addr, 16, 1⟩
def AUX_TDAC.VAL : Fld := ⟨AUX_TDAC.addr, 0, 12⟩
def AUX_DIAG_CTRL.addr : Nat := 0x170604
def AUX_DIAG_CTRL.GO : Fld := ⟨AUX_DIAG_CTRL.addr, 31, 1⟩
def AUX_DIAG_CTRL.ABORT : Fld := ⟨AUX_DIAG_CTRL.addr, 30, 1⟩
def AUX_DIAG_CTRL.PATH : Fld := ⟨AUX_DIAG_CTRL.addr, 24, 1⟩
def AUX_DIAG_CTRL.INPUT : Fld := ⟨AUX_DIAG_CTRL.addr, 16, 5⟩
def AUX_DIAG_CTRL.SETTLE : Fld := ⟨AUX_DIAG_CTRL.addr, 8, 8⟩
def AUX_DIAG_CTRL.ADC_MASK : Fld := ⟨AUX_DIAG_CTRL.addr, 0, 2⟩
def AUX_DIAG_EXP.addr : Nat := 0x170608
def AUX_DIAG_EXP.DG : Fld := ⟨AUX_DIAG_EXP.addr, 16, 16⟩
def AUX_DIAG_EXP.DZ : Fld := ⟨AUX_DIAG_EXP.addr, 0, 16⟩
def AUX_DIAG_TOL.addr : Nat := 0x17060C
def AUX_DIAG_TOL.DTOL : Fld := ⟨AUX_DIAG_TOL.addr, 0, 16⟩
def AUX_DIAG_RES.addr (i : Nat) : Nat := 0x170610 + i % 2 * 0x4
def AUX_DIAG_RES.PASS (i : Nat) : Fld := ⟨AUX_DIAG_RES.addr i, 17, 1⟩
def AUX_DIAG_RES.DONE (i : Nat) : Fld := ⟨AUX_DIAG_RES.addr i, 16, 1⟩
def AUX_DIAG_RES.MAXDEV (i : Nat) : Fld := ⟨AUX_DIAG_RES.addr i, 0, 16⟩
def AUX_CDAC.addr (i : Nat) : Nat := 0x170700 + i % 4 * 0x8
def AUX_CDAC.OWNER (i : Nat) : Fld := ⟨AUX_CDAC.addr i, 16, 2⟩
def AUX_CDAC.VAL (i : Nat) : Fld := ⟨AUX_CDAC.addr i, 0, 16⟩
def AUX_CDAC_SAFE.addr (i : Nat) : Nat := 0x170704 + i % 4 * 0x8
def AUX_CDAC_SAFE.SAFE (i : Nat) : Fld := ⟨AUX_CDAC_SAFE.addr i, 0, 16⟩
def AUX_PWM.addr (i : Nat) : Nat := 0x170780 + i % 4 * 0x10
def AUX_PWM.OWNER (i : Nat) : Fld := ⟨AUX_PWM.addr i, 20, 2⟩
def AUX_PWM.POL (i : Nat) : Fld := ⟨AUX_PWM.addr i, 16, 1⟩
def AUX_PWM.PERIOD (i : Nat) : Fld := ⟨AUX_PWM.addr i, 0, 16⟩
def AUX_PWM_DUTY.addr (i : Nat) : Nat := 0x170784 + i % 4 * 0x10
def AUX_PWM_DUTY.DUTY (i : Nat) : Fld := ⟨AUX_PWM_DUTY.addr i, 0, 16⟩
def AUX_PWM_SAFE.addr (i : Nat) : Nat := 0x170788 + i % 4 * 0x10
def AUX_PWM_SAFE.SAFE (i : Nat) : Fld := ⟨AUX_PWM_SAFE.addr i, 0, 16⟩
def AUX_SPI_CFG.addr (i : Nat) : Nat := 0x170800 + i % 8 * 0x20
def AUX_SPI_CFG.LEN_M1 (i : Nat) : Fld := ⟨AUX_SPI_CFG.addr i, 16, 5⟩
def AUX_SPI_CFG.DIV (i : Nat) : Fld := ⟨AUX_SPI_CFG.addr i, 8, 8⟩
def AUX_SPI_CFG.LSB (i : Nat) : Fld := ⟨AUX_SPI_CFG.addr i, 3, 1⟩
def AUX_SPI_CFG.MODE (i : Nat) : Fld := ⟨AUX_SPI_CFG.addr i, 1, 2⟩
def AUX_SPI_CFG.EN (i : Nat) : Fld := ⟨AUX_SPI_CFG.addr i, 0, 1⟩
def AUX_SPI_TX.addr (i : Nat) : Nat := 0x170804 + i % 8 * 0x20
def AUX_SPI_TX.TX (i : Nat) : Fld := ⟨AUX_SPI_TX.addr i, 0, 32⟩
def AUX_SPI_RX.addr (i : Nat) : Nat := 0x170808 + i % 8 * 0x20
def AUX_SPI_RX.RX (i : Nat) : Fld := ⟨AUX_SPI_RX.addr i, 0, 32⟩
def AUX_SPI_CMD.addr (i : Nat) : Nat := 0x17080C + i % 8 * 0x20
def AUX_SPI_CMD.GO (i : Nat) : Fld := ⟨AUX_SPI_CMD.addr i, 0, 1⟩
def AUX_SPI_STAT.addr (i : Nat) : Nat := 0x170810 + i % 8 * 0x20
def AUX_SPI_STAT.OWNED (i : Nat) : Fld := ⟨AUX_SPI_STAT.addr i, 2, 1⟩
def AUX_SPI_STAT.DONE (i : Nat) : Fld := ⟨AUX_SPI_STAT.addr i, 1, 1⟩
def AUX_SPI_STAT.BUSY (i : Nat) : Fld := ⟨AUX_SPI_STAT.addr i, 0, 1⟩
def AUX_SPI_STEP.addr (i : Nat) : Nat := 0x170A00 + i % 128 / 16 * 0x40 + i % 128 % 16 * 0x4
def AUX_SPI_STEP.FRAME (i : Nat) : Fld := ⟨AUX_SPI_STEP.addr i, 0, 32⟩
/-! R534 of spec/16_register_model.md -/
def AUX_PEND.addr : Nat := 0x173FEC
def AUX_PEND.DIRTY : Fld := ⟨AUX_PEND.addr, 0, 1⟩
def AUX_GROUP.addr : Nat := 0x173FF0
def AUX_GROUP.GROUP : Fld := ⟨AUX_GROUP.addr, 0, 5⟩
def AUX_ERR.addr : Nat := 0x173FF4
def AUX_ERR.CODE : Fld := ⟨AUX_ERR.addr, 0, 8⟩
def AUX_ERR_OFS_LO.addr : Nat := 0x173FF8
def AUX_ERR_OFS_LO.OFS : Fld := ⟨AUX_ERR_OFS_LO.addr, 0, 32⟩
def AUX_ERR_OFS_HI.addr : Nat := 0x173FFC
def AUX_ERR_OFS_HI.SPACE : Fld := ⟨AUX_ERR_OFS_HI.addr, 30, 2⟩
def AUX_ERR_OFS_HI.OFS_HI : Fld := ⟨AUX_ERR_OFS_HI.addr, 0, 4⟩

/-! ### Block SRV, window 0x18 -/

/-! R485 of spec/14_frontend_control.md -/
def SRV_LOOP_CFG.addr (i : Nat) : Nat := 0x180000 + i % 4 * 0x40
def SRV_LOOP_CFG.DIV_M1 (i : Nat) : Fld := ⟨SRV_LOOP_CFG.addr i, 24, 8⟩
def SRV_LOOP_CFG.PV_POS (i : Nat) : Fld := ⟨SRV_LOOP_CFG.addr i, 16, 4⟩
def SRV_LOOP_CFG.PV_ADC (i : Nat) : Fld := ⟨SRV_LOOP_CFG.addr i, 12, 1⟩
def SRV_LOOP_CFG.OUT_SEL (i : Nat) : Fld := ⟨SRV_LOOP_CFG.addr i, 8, 3⟩
def SRV_LOOP_CFG.SP_SRC (i : Nat) : Fld := ⟨SRV_LOOP_CFG.addr i, 4, 1⟩
def SRV_LOOP_CFG.GATE_EN (i : Nat) : Fld := ⟨SRV_LOOP_CFG.addr i, 3, 1⟩
def SRV_LOOP_CFG.INV (i : Nat) : Fld := ⟨SRV_LOOP_CFG.addr i, 2, 1⟩
def SRV_LOOP_CFG.MODE (i : Nat) : Fld := ⟨SRV_LOOP_CFG.addr i, 0, 2⟩
def SRV_LOOP_SP.addr (i : Nat) : Nat := 0x180004 + i % 4 * 0x40
def SRV_LOOP_SP.MAN (i : Nat) : Fld := ⟨SRV_LOOP_SP.addr i, 16, 16⟩
def SRV_LOOP_SP.SP (i : Nat) : Fld := ⟨SRV_LOOP_SP.addr i, 0, 16⟩
def SRV_LOOP_KP.addr (i : Nat) : Nat := 0x180008 + i % 4 * 0x40
def SRV_LOOP_KP.K (i : Nat) : Fld := ⟨SRV_LOOP_KP.addr i, 0, 18⟩
def SRV_LOOP_KI.addr (i : Nat) : Nat := 0x18000C + i % 4 * 0x40
def SRV_LOOP_KI.K (i : Nat) : Fld := ⟨SRV_LOOP_KI.addr i, 0, 18⟩
def SRV_LOOP_KD.addr (i : Nat) : Nat := 0x180010 + i % 4 * 0x40
def SRV_LOOP_KD.DFILT (i : Nat) : Fld := ⟨SRV_LOOP_KD.addr i, 24, 3⟩
def SRV_LOOP_KD.KD (i : Nat) : Fld := ⟨SRV_LOOP_KD.addr i, 0, 18⟩
def SRV_LOOP_KF.addr (i : Nat) : Nat := 0x180014 + i % 4 * 0x40
def SRV_LOOP_KF.K (i : Nat) : Fld := ⟨SRV_LOOP_KF.addr i, 0, 18⟩
def SRV_LOOP_FOFS.addr (i : Nat) : Nat := 0x180018 + i % 4 * 0x40
def SRV_LOOP_FOFS.FOFS (i : Nat) : Fld := ⟨SRV_LOOP_FOFS.addr i, 0, 18⟩
def SRV_LOOP_LIM.addr (i : Nat) : Nat := 0x18001C + i % 4 * 0x40
def SRV_LOOP_LIM.UMAX (i : Nat) : Fld := ⟨SRV_LOOP_LIM.addr i, 16, 16⟩
def SRV_LOOP_LIM.UMIN (i : Nat) : Fld := ⟨SRV_LOOP_LIM.addr i, 0, 16⟩
def SRV_LOOP_SLEW.addr (i : Nat) : Nat := 0x180020 + i % 4 * 0x40
def SRV_LOOP_SLEW.HOLD_MAX (i : Nat) : Fld := ⟨SRV_LOOP_SLEW.addr i, 16, 8⟩
def SRV_LOOP_SLEW.SLEW (i : Nat) : Fld := ⟨SRV_LOOP_SLEW.addr i, 0, 16⟩
def SRV_LOOP_SET.addr (i : Nat) : Nat := 0x180024 + i % 4 * 0x40
def SRV_LOOP_SET.SETTLE_N (i : Nat) : Fld := ⟨SRV_LOOP_SET.addr i, 16, 8⟩
def SRV_LOOP_SET.BAND (i : Nat) : Fld := ⟨SRV_LOOP_SET.addr i, 0, 16⟩
def SRV_LOOP_CMD.addr (i : Nat) : Nat := 0x180028 + i % 4 * 0x40
def SRV_LOOP_CMD.CLR_FAULT (i : Nat) : Fld := ⟨SRV_LOOP_CMD.addr i, 0, 1⟩
def SRV_LOOP_STAT.addr (i : Nat) : Nat := 0x18002C + i % 4 * 0x40
def SRV_LOOP_STAT.HELD (i : Nat) : Fld := ⟨SRV_LOOP_STAT.addr i, 6, 1⟩
def SRV_LOOP_STAT.AW (i : Nat) : Fld := ⟨SRV_LOOP_STAT.addr i, 5, 1⟩
def SRV_LOOP_STAT.SETTLED (i : Nat) : Fld := ⟨SRV_LOOP_STAT.addr i, 4, 1⟩
def SRV_LOOP_STAT.STATE (i : Nat) : Fld := ⟨SRV_LOOP_STAT.addr i, 0, 3⟩
def SRV_LOOP_OUT.addr (i : Nat) : Nat := 0x180030 + i % 4 * 0x40
def SRV_LOOP_OUT.OUT (i : Nat) : Fld := ⟨SRV_LOOP_OUT.addr i, 0, 16⟩
def SRV_LOOP_ERR.addr (i : Nat) : Nat := 0x180034 + i % 4 * 0x40
def SRV_LOOP_ERR.ERR (i : Nat) : Fld := ⟨SRV_LOOP_ERR.addr i, 0, 17⟩
def SRV_LOOP_INT.addr (i : Nat) : Nat := 0x180038 + i % 4 * 0x40
def SRV_LOOP_INT.INT (i : Nat) : Fld := ⟨SRV_LOOP_INT.addr i, 0, 18⟩
def SRV_LOOP_CNT.addr (i : Nat) : Nat := 0x18003C + i % 4 * 0x40
def SRV_LOOP_CNT.HOLDS (i : Nat) : Fld := ⟨SRV_LOOP_CNT.addr i, 16, 16⟩
def SRV_LOOP_CNT.SAT (i : Nat) : Fld := ⟨SRV_LOOP_CNT.addr i, 0, 16⟩
def SRV_GATE.addr : Nat := 0x180200
def SRV_GATE.FORCE : Fld := ⟨SRV_GATE.addr, 0, 1⟩
def SRV_GATE_STAT.addr : Nat := 0x180204
def SRV_GATE_STAT.CLOSES : Fld := ⟨SRV_GATE_STAT.addr, 16, 16⟩
def SRV_GATE_STAT.OPEN : Fld := ⟨SRV_GATE_STAT.addr, 0, 1⟩
def SRV_SS_CTRL.addr : Nat := 0x180300
def SRV_SS_CTRL.SWEEPS : Fld := ⟨SRV_SS_CTRL.addr, 24, 8⟩
def SRV_SS_CTRL.SRC : Fld := ⟨SRV_SS_CTRL.addr, 20, 1⟩
def SRV_SS_CTRL.PACE : Fld := ⟨SRV_SS_CTRL.addr, 17, 1⟩
def SRV_SS_CTRL.ON_LATE : Fld := ⟨SRV_SS_CTRL.addr, 16, 1⟩
def SRV_SS_CTRL.LAST : Fld := ⟨SRV_SS_CTRL.addr, 12, 4⟩
def SRV_SS_CTRL.FIRST : Fld := ⟨SRV_SS_CTRL.addr, 8, 4⟩
def SRV_SS_CTRL.CH : Fld := ⟨SRV_SS_CTRL.addr, 4, 2⟩
def SRV_SS_CTRL.EN : Fld := ⟨SRV_SS_CTRL.addr, 0, 1⟩
def SRV_SS_CMD.addr : Nat := 0x180304
def SRV_SS_CMD.ABORT : Fld := ⟨SRV_SS_CMD.addr, 2, 1⟩
def SRV_SS_CMD.STOP : Fld := ⟨SRV_SS_CMD.addr, 1, 1⟩
def SRV_SS_CMD.GO : Fld := ⟨SRV_SS_CMD.addr, 0, 1⟩
def SRV_SS_STAT.addr : Nat := 0x180308
def SRV_SS_STAT.STOP_CAUSE : Fld := ⟨SRV_SS_STAT.addr, 20, 4⟩
def SRV_SS_STAT.LATE : Fld := ⟨SRV_SS_STAT.addr, 17, 1⟩
def SRV_SS_STAT.TLATE : Fld := ⟨SRV_SS_STAT.addr, 16, 1⟩
def SRV_SS_STAT.SWEEP : Fld := ⟨SRV_SS_STAT.addr, 8, 8⟩
def SRV_SS_STAT.STEP : Fld := ⟨SRV_SS_STAT.addr, 4, 4⟩
def SRV_SS_STAT.STATE : Fld := ⟨SRV_SS_STAT.addr, 0, 3⟩
def SRV_SS_TIME.addr : Nat := 0x180310
def SRV_SS_LOG.addr : Nat := 0x180320
def SRV_SS_LOG.BASE : Fld := ⟨SRV_SS_LOG.addr, 0, 19⟩
def SRV_SS_LLEN.addr : Nat := 0x180324
def SRV_SS_LLEN.LLEN : Fld := ⟨SRV_SS_LLEN.addr, 0, 13⟩
def SRV_SS_LWR.addr : Nat := 0x180328
def SRV_SS_LWR.LWR : Fld := ⟨SRV_SS_LWR.addr, 0, 32⟩
def SRV_STEP.addr (i : Nat) : Nat := 0x180400 + i % 16 * 0x20
def SRV_STEP.DWELL (i : Nat) : Fld := ⟨SRV_STEP.addr i, 0, 24⟩
def SRV_STEP_SETTLE.addr (i : Nat) : Nat := 0x180404 + i % 16 * 0x20
def SRV_STEP_SETTLE.SETTLE (i : Nat) : Fld := ⟨SRV_STEP_SETTLE.addr i, 0, 24⟩
def SRV_STEP_M.addr (i : Nat) : Nat := 0x180408 + i % 16 * 0x20
def SRV_STEP_M.M (i : Nat) : Fld := ⟨SRV_STEP_M.addr i, 0, 16⟩
def SRV_STEP_V01.addr (i : Nat) : Nat := 0x18040C + i % 16 * 0x20
def SRV_STEP_V01.V1 (i : Nat) : Fld := ⟨SRV_STEP_V01.addr i, 16, 16⟩
def SRV_STEP_V01.V0 (i : Nat) : Fld := ⟨SRV_STEP_V01.addr i, 0, 16⟩
def SRV_STEP_V23.addr (i : Nat) : Nat := 0x180410 + i % 16 * 0x20
def SRV_STEP_V23.V3 (i : Nat) : Fld := ⟨SRV_STEP_V23.addr i, 16, 16⟩
def SRV_STEP_V23.V2 (i : Nat) : Fld := ⟨SRV_STEP_V23.addr i, 0, 16⟩
def SRV_STEP_AUX.addr (i : Nat) : Nat := 0x180414 + i % 16 * 0x20
def SRV_STEP_AUX.SPI_MASK (i : Nat) : Fld := ⟨SRV_STEP_AUX.addr i, 8, 8⟩
def SRV_STEP_AUX.FLAT_EN (i : Nat) : Fld := ⟨SRV_STEP_AUX.addr i, 3, 1⟩
def SRV_STEP_AUX.FLAT_SEL (i : Nat) : Fld := ⟨SRV_STEP_AUX.addr i, 0, 3⟩
def SRV_STEP_OPEN.addr (i : Nat) : Nat := 0x180418 + i % 16 * 0x20
def SRV_STEP_OPEN.OPEN (i : Nat) : Fld := ⟨SRV_STEP_OPEN.addr i, 0, 24⟩
/-! R534 of spec/16_register_model.md -/
def SRV_PEND.addr : Nat := 0x183FEC
def SRV_PEND.DIRTY : Fld := ⟨SRV_PEND.addr, 0, 1⟩
def SRV_GROUP.addr : Nat := 0x183FF0
def SRV_GROUP.GROUP : Fld := ⟨SRV_GROUP.addr, 0, 5⟩
def SRV_ERR.addr : Nat := 0x183FF4
def SRV_ERR.CODE : Fld := ⟨SRV_ERR.addr, 0, 8⟩
def SRV_ERR_OFS_LO.addr : Nat := 0x183FF8
def SRV_ERR_OFS_LO.OFS : Fld := ⟨SRV_ERR_OFS_LO.addr, 0, 32⟩
def SRV_ERR_OFS_HI.addr : Nat := 0x183FFC
def SRV_ERR_OFS_HI.SPACE : Fld := ⟨SRV_ERR_OFS_HI.addr, 30, 2⟩
def SRV_ERR_OFS_HI.OFS_HI : Fld := ⟨SRV_ERR_OFS_HI.addr, 0, 4⟩

/-! ### Block CST, window 0x19 -/

/-! R507 of spec/15_constellation.md -/
def CST_CTRL.addr : Nat := 0x190000
def CST_CTRL.RING_N_M1 : Fld := ⟨CST_CTRL.addr, 16, 6⟩
def CST_CTRL.MAXD : Fld := ⟨CST_CTRL.addr, 8, 4⟩
def CST_CTRL.TOPO : Fld := ⟨CST_CTRL.addr, 2, 1⟩
def CST_CTRL.ROLE : Fld := ⟨CST_CTRL.addr, 1, 1⟩
def CST_CTRL.EN : Fld := ⟨CST_CTRL.addr, 0, 1⟩
def CST_NODE.addr : Nat := 0x190004
def CST_NODE.VALID : Fld := ⟨CST_NODE.addr, 31, 1⟩
def CST_NODE.HOPS : Fld := ⟨CST_NODE.addr, 16, 6⟩
def CST_NODE.ID : Fld := ⟨CST_NODE.addr, 0, 14⟩
def CST_STAT.addr : Nat := 0x190008
def CST_STAT.RING_BROKEN : Fld := ⟨CST_STAT.addr, 5, 1⟩
def CST_STAT.SIZE_MISMATCH : Fld := ⟨CST_STAT.addr, 4, 1⟩
def CST_STAT.ID_RANGE : Fld := ⟨CST_STAT.addr, 3, 1⟩
def CST_STAT.RESENT : Fld := ⟨CST_STAT.addr, 2, 1⟩
def CST_STAT.HOLDOVER : Fld := ⟨CST_STAT.addr, 1, 1⟩
def CST_STAT.LOCKED : Fld := ⟨CST_STAT.addr, 0, 1⟩
def CST_MEMBERS.addr : Nat := 0x19000C
def CST_MEMBERS.MEMBERS : Fld := ⟨CST_MEMBERS.addr, 0, 15⟩
def CST_OFFSET.addr : Nat := 0x190010
def CST_OFFSET.OFFSET : Fld := ⟨CST_OFFSET.addr, 0, 32⟩
def CST_HOP.addr : Nat := 0x190014
def CST_HOP.H : Fld := ⟨CST_HOP.addr, 0, 12⟩
def CST_PORT_CTRL.addr (i : Nat) : Nat := 0x190100 + i % 4 * 0x10
def CST_PORT_CTRL.ASYM (i : Nat) : Fld := ⟨CST_PORT_CTRL.addr i, 16, 16⟩
def CST_PORT_CTRL.EN (i : Nat) : Fld := ⟨CST_PORT_CTRL.addr i, 0, 1⟩
def CST_PORT_STAT.addr (i : Nat) : Nat := 0x190104 + i % 4 * 0x10
def CST_PORT_STAT.CAUSE (i : Nat) : Fld := ⟨CST_PORT_STAT.addr i, 8, 4⟩
def CST_PORT_STAT.STATE (i : Nat) : Fld := ⟨CST_PORT_STAT.addr i, 0, 2⟩
def CST_PORT_DELAY.addr (i : Nat) : Nat := 0x190108 + i % 4 * 0x10
def CST_PORT_DELAY.DELAY (i : Nat) : Fld := ⟨CST_PORT_DELAY.addr i, 0, 21⟩
def CST_PORT_CNT.addr (i : Nat) : Nat := 0x19010C + i % 4 * 0x10
def CST_PORT_CNT.DOWNS (i : Nat) : Fld := ⟨CST_PORT_CNT.addr i, 16, 16⟩
def CST_PORT_CNT.RESENDS (i : Nat) : Fld := ⟨CST_PORT_CNT.addr i, 0, 16⟩
def CST_OP_CMD.addr : Nat := 0x190200
def CST_OP_CMD.USE_TIME : Fld := ⟨CST_OP_CMD.addr, 8, 1⟩
def CST_OP_CMD.BC_POP : Fld := ⟨CST_OP_CMD.addr, 6, 1⟩
def CST_OP_CMD.RESET : Fld := ⟨CST_OP_CMD.addr, 5, 1⟩
def CST_OP_CMD.APPLY : Fld := ⟨CST_OP_CMD.addr, 4, 1⟩
def CST_OP_CMD.SNAP : Fld := ⟨CST_OP_CMD.addr, 3, 1⟩
def CST_OP_CMD.BCAST : Fld := ⟨CST_OP_CMD.addr, 2, 1⟩
def CST_OP_CMD.ARRIVE : Fld := ⟨CST_OP_CMD.addr, 1, 1⟩
def CST_OP_TO.addr : Nat := 0x190204
def CST_OP_TO.TO : Fld := ⟨CST_OP_TO.addr, 0, 24⟩
def CST_APPLY.addr : Nat := 0x190208
def CST_APPLY.GROUPS : Fld := ⟨CST_APPLY.addr, 0, 32⟩
def CST_OP_STAT.addr (i : Nat) : Nat := 0x190210 + i % 5 * 0x4
def CST_OP_STAT.BUSY (i : Nat) : Fld := ⟨CST_OP_STAT.addr i, 31, 1⟩
def CST_OP_STAT.DONE (i : Nat) : Fld := ⟨CST_OP_STAT.addr i, 30, 1⟩
def CST_OP_STAT.NODE (i : Nat) : Fld := ⟨CST_OP_STAT.addr i, 16, 14⟩
def CST_OP_STAT.CODE (i : Nat) : Fld := ⟨CST_OP_STAT.addr i, 0, 8⟩
def CST_TIME.addr : Nat := 0x190230
def CST_BAR_TS.addr : Nat := 0x190240
def CST_BC_TX.addr (i : Nat) : Nat := 0x190300 + i % 8 * 0x4
def CST_BC_TX.DATA (i : Nat) : Fld := ⟨CST_BC_TX.addr i, 0, 32⟩
def CST_BC_RX.addr (i : Nat) : Nat := 0x190320 + i % 8 * 0x4
def CST_BC_RX.DATA (i : Nat) : Fld := ⟨CST_BC_RX.addr i, 0, 32⟩
def CST_BC_STAT.addr : Nat := 0x190340
def CST_BC_STAT.SRC : Fld := ⟨CST_BC_STAT.addr, 16, 14⟩
def CST_BC_STAT.OVF : Fld := ⟨CST_BC_STAT.addr, 8, 1⟩
def CST_BC_STAT.COUNT : Fld := ⟨CST_BC_STAT.addr, 0, 5⟩
def CST_SNAP_BASE.addr : Nat := 0x190400
def CST_SNAP_BASE.BASE : Fld := ⟨CST_SNAP_BASE.addr, 0, 19⟩
/-! R534 of spec/16_register_model.md -/
def CST_PEND.addr : Nat := 0x193FEC
def CST_PEND.DIRTY : Fld := ⟨CST_PEND.addr, 0, 1⟩
def CST_GROUP.addr : Nat := 0x193FF0
def CST_GROUP.GROUP : Fld := ⟨CST_GROUP.addr, 0, 5⟩
def CST_ERR.addr : Nat := 0x193FF4
def CST_ERR.CODE : Fld := ⟨CST_ERR.addr, 0, 8⟩
def CST_ERR_OFS_LO.addr : Nat := 0x193FF8
def CST_ERR_OFS_LO.OFS : Fld := ⟨CST_ERR_OFS_LO.addr, 0, 32⟩
def CST_ERR_OFS_HI.addr : Nat := 0x193FFC
def CST_ERR_OFS_HI.SPACE : Fld := ⟨CST_ERR_OFS_HI.addr, 30, 2⟩
def CST_ERR_OFS_HI.OFS_HI : Fld := ⟨CST_ERR_OFS_HI.addr, 0, 4⟩

/-! ### Block UPD, window 0x1A -/

/-! R563 of spec/17_boot_update.md -/
def UPD_CTRL.addr : Nat := 0x1A0000
def UPD_CTRL.TRIAL_TO : Fld := ⟨UPD_CTRL.addr, 0, 16⟩
def UPD_CMD.addr : Nat := 0x1A0004
def UPD_CMD.BOOTNEXT : Fld := ⟨UPD_CMD.addr, 6, 1⟩
def UPD_CMD.LOADSTBY : Fld := ⟨UPD_CMD.addr, 5, 1⟩
def UPD_CMD.REVERT : Fld := ⟨UPD_CMD.addr, 4, 1⟩
def UPD_CMD.CONFIRM : Fld := ⟨UPD_CMD.addr, 3, 1⟩
def UPD_CMD.HANDOVER : Fld := ⟨UPD_CMD.addr, 2, 1⟩
def UPD_CMD.ABORT : Fld := ⟨UPD_CMD.addr, 1, 1⟩
def UPD_CMD.START : Fld := ⟨UPD_CMD.addr, 0, 1⟩
def UPD_SESSION.addr : Nat := 0x1A0008
def UPD_SESSION.TYPE : Fld := ⟨UPD_SESSION.addr, 30, 2⟩
def UPD_SESSION.ID : Fld := ⟨UPD_SESSION.addr, 0, 30⟩
def UPD_BUF.addr : Nat := 0x1A000C
def UPD_BUF.BASE : Fld := ⟨UPD_BUF.addr, 0, 9⟩
def UPD_BLK.addr : Nat := 0x1A0010
def UPD_BLK.GO : Fld := ⟨UPD_BLK.addr, 31, 1⟩
def UPD_BLK.SLOT : Fld := ⟨UPD_BLK.addr, 0, 1⟩
def UPD_STAT.addr : Nat := 0x1A0014
def UPD_STAT.LAST_CODE : Fld := ⟨UPD_STAT.addr, 24, 8⟩
def UPD_STAT.SESS : Fld := ⟨UPD_STAT.addr, 16, 2⟩
def UPD_STAT.SLOT_FREE : Fld := ⟨UPD_STAT.addr, 12, 2⟩
def UPD_STAT.STBY : Fld := ⟨UPD_STAT.addr, 8, 3⟩
def UPD_STAT.CFMT_DUAL : Fld := ⟨UPD_STAT.addr, 4, 1⟩
def UPD_STAT.TRIAL : Fld := ⟨UPD_STAT.addr, 3, 1⟩
def UPD_STAT.HANDOVER : Fld := ⟨UPD_STAT.addr, 2, 1⟩
def UPD_STAT.ACTIVE : Fld := ⟨UPD_STAT.addr, 0, 1⟩
def UPD_NEXT.addr : Nat := 0x1A0018
def UPD_NEXT.NEXT : Fld := ⟨UPD_NEXT.addr, 0, 32⟩
def UPD_NEXT_DST.addr : Nat := 0x1A001C
def UPD_NEXT_DST.DST : Fld := ⟨UPD_NEXT_DST.addr, 0, 32⟩
def UPD_VER_ACT.addr : Nat := 0x1A0020
def UPD_VER_ACT.CFMT : Fld := ⟨UPD_VER_ACT.addr, 24, 8⟩
def UPD_VER_ACT.FW_VER : Fld := ⟨UPD_VER_ACT.addr, 0, 24⟩
def UPD_VER_STBY.addr : Nat := 0x1A0024
def UPD_VER_STBY.CFMT : Fld := ⟨UPD_VER_STBY.addr, 24, 8⟩
def UPD_VER_STBY.FW_VER : Fld := ⟨UPD_VER_STBY.addr, 0, 24⟩
def UPD_SLOT.addr (i : Nat) : Nat := 0x1A0030 + i % 2 * 0x4
def UPD_SLOT.IMG_SEQ (i : Nat) : Fld := ⟨UPD_SLOT.addr i, 8, 24⟩
def UPD_SLOT.STATE (i : Nat) : Fld := ⟨UPD_SLOT.addr i, 0, 8⟩
def UPD_BOOT.addr : Nat := 0x1A0040
def UPD_BOOT.CODE1 : Fld := ⟨UPD_BOOT.addr, 24, 8⟩
def UPD_BOOT.CODE0 : Fld := ⟨UPD_BOOT.addr, 16, 8⟩
def UPD_BOOT.FALLBACK : Fld := ⟨UPD_BOOT.addr, 8, 1⟩
def UPD_BOOT.SLOT : Fld := ⟨UPD_BOOT.addr, 0, 1⟩
def UPD_CNT.addr : Nat := 0x1A0044
def UPD_CNT.REVERTS : Fld := ⟨UPD_CNT.addr, 16, 16⟩
def UPD_CNT.HANDOVERS : Fld := ⟨UPD_CNT.addr, 0, 16⟩
def UPD_TRIAL_LEFT.addr : Nat := 0x1A0048
def UPD_TRIAL_LEFT.LEFT : Fld := ⟨UPD_TRIAL_LEFT.addr, 0, 16⟩
def UPD_LOAD_ERR.addr : Nat := 0x1A004C
def UPD_LOAD_ERR.OFS : Fld := ⟨UPD_LOAD_ERR.addr, 0, 32⟩
/-! R534 of spec/16_register_model.md -/
def UPD_ERR.addr : Nat := 0x1A3FF4
def UPD_ERR.CODE : Fld := ⟨UPD_ERR.addr, 0, 8⟩
def UPD_ERR_OFS_LO.addr : Nat := 0x1A3FF8
def UPD_ERR_OFS_LO.OFS : Fld := ⟨UPD_ERR_OFS_LO.addr, 0, 32⟩
def UPD_ERR_OFS_HI.addr : Nat := 0x1A3FFC
def UPD_ERR_OFS_HI.SPACE : Fld := ⟨UPD_ERR_OFS_HI.addr, 30, 2⟩
def UPD_ERR_OFS_HI.OFS_HI : Fld := ⟨UPD_ERR_OFS_HI.addr, 0, 4⟩

/-! ### Block FLT, window 0x1B -/

/-! R589 of spec/18_reliability_power.md -/
def FLT_ACTIVE.addr : Nat := 0x1B0000
def FLT_ACTIVE.ACTIVE : Fld := ⟨FLT_ACTIVE.addr, 0, 10⟩
def FLT_CMD.addr : Nat := 0x1B0004
def FLT_CMD.ACK : Fld := ⟨FLT_CMD.addr, 16, 10⟩
def FLT_CMD.POP : Fld := ⟨FLT_CMD.addr, 0, 1⟩
def FLT_LOG.addr (i : Nat) : Nat := 0x1B0010 + i % 8 * 0x4
def FLT_LOG.W (i : Nat) : Fld := ⟨FLT_LOG.addr i, 0, 32⟩
def FLT_LOG_STAT.addr : Nat := 0x1B0030
def FLT_LOG_STAT.DROP : Fld := ⟨FLT_LOG_STAT.addr, 16, 16⟩
def FLT_LOG_STAT.OVF : Fld := ⟨FLT_LOG_STAT.addr, 12, 1⟩
def FLT_LOG_STAT.COUNT : Fld := ⟨FLT_LOG_STAT.addr, 0, 9⟩
def FLT_CNT.addr : Nat := 0x1B0034
def FLT_CNT.FAILOVERS : Fld := ⟨FLT_CNT.addr, 16, 16⟩
def FLT_CNT.HWQ_DROP : Fld := ⟨FLT_CNT.addr, 0, 16⟩
def FLT_SEQ.addr : Nat := 0x1B0038
def FLT_SEQ.SEQ : Fld := ⟨FLT_SEQ.addr, 0, 32⟩
def FLT_SCRUB.addr : Nat := 0x1B0040
def FLT_SCRUB.CE_THRESH : Fld := ⟨FLT_SCRUB.addr, 16, 8⟩
def FLT_SCRUB.PERIOD : Fld := ⟨FLT_SCRUB.addr, 0, 8⟩
def FLT_SRAM_CNT.addr : Nat := 0x1B0044
def FLT_SRAM_CNT.UE_COUNT : Fld := ⟨FLT_SRAM_CNT.addr, 16, 16⟩
def FLT_SRAM_CNT.CE_COUNT : Fld := ⟨FLT_SRAM_CNT.addr, 0, 16⟩
def FLT_POISON.addr : Nat := 0x1B0048
def FLT_POISON.POISON_OVF : Fld := ⟨FLT_POISON.addr, 8, 1⟩
def FLT_POISON.HELD : Fld := ⟨FLT_POISON.addr, 0, 5⟩
def FLT_SRAM_SPARES.addr : Nat := 0x1B004C
def FLT_SRAM_SPARES.SPARES : Fld := ⟨FLT_SRAM_SPARES.addr, 0, 16⟩
def FLT_WDOG.addr : Nat := 0x1B0050
def FLT_WDOG.TIMEOUT : Fld := ⟨FLT_WDOG.addr, 0, 10⟩
def FLT_THERM.addr : Nat := 0x1B0054
def FLT_THERM.TJ_NOW : Fld := ⟨FLT_THERM.addr, 16, 8⟩
def FLT_THERM.WARN : Fld := ⟨FLT_THERM.addr, 0, 8⟩
def FLT_DUMP.addr : Nat := 0x1B0060
def FLT_DUMP.FATAL_EXTRA : Fld := ⟨FLT_DUMP.addr, 16, 16⟩
def FLT_DUMP.LEN : Fld := ⟨FLT_DUMP.addr, 4, 9⟩
def FLT_DUMP.DONE : Fld := ⟨FLT_DUMP.addr, 0, 1⟩
/-! R534 of spec/16_register_model.md -/
def FLT_ERR.addr : Nat := 0x1B3FF4
def FLT_ERR.CODE : Fld := ⟨FLT_ERR.addr, 0, 8⟩
def FLT_ERR_OFS_LO.addr : Nat := 0x1B3FF8
def FLT_ERR_OFS_LO.OFS : Fld := ⟨FLT_ERR_OFS_LO.addr, 0, 32⟩
def FLT_ERR_OFS_HI.addr : Nat := 0x1B3FFC
def FLT_ERR_OFS_HI.SPACE : Fld := ⟨FLT_ERR_OFS_HI.addr, 30, 2⟩
def FLT_ERR_OFS_HI.OFS_HI : Fld := ⟨FLT_ERR_OFS_HI.addr, 0, 4⟩

end Sys2Proof.Machine
end

