-- ==== Sys2Proof/Machine/RegTableA.lean ====
section
/-! DEFINITION. The BAR0 register map as a table, part A: for every register (or register array) its base address,
the number of elements and how they are laid out, and every field with its place, access code (R10, R517), reset
value and the values the field refuses (R12). Transcribed from the register tables of spec/. -/

namespace Sys2Proof.Machine

/-- Registers of block SYS (0). -/
def rowsSys0 : List RegRow :=
  [⟨0x0, 1, 1, 0x0, 0x0, [⟨16, 16, .ro, 0x9160, .any⟩, ⟨8, 8, .ro, 0xb, .any⟩, ⟨0, 8, .ro, 0, .any⟩]⟩,
   ⟨0x4, 1, 1, 0x0, 0x0, [⟨8, 8, .ro, 0, .any⟩, ⟨0, 4, .ro, 0, .any⟩]⟩,
   ⟨0x10, 1, 1, 0x0, 0x0, [⟨0, 32, .wo, 0, .any⟩]⟩,
   ⟨0x14, 1, 1, 0x0, 0x0, [⟨8, 1, .wp, 0, .any⟩, ⟨1, 1, .rwImm, 0, .any⟩, ⟨0, 1, .rwImm, 0, .any⟩]⟩,
   ⟨0x18, 1, 1, 0x0, 0x0, [⟨16, 16, .ro, 0, .any⟩, ⟨8, 8, .ro, 0, .any⟩, ⟨6, 1, .ro, 0, .any⟩, ⟨5, 1, .ro, 0, .any⟩, ⟨4, 1, .ro, 0, .any⟩, ⟨3, 1, .ro, 0, .any⟩, ⟨2, 1, .ro, 0, .any⟩, ⟨0, 2, .ro, 0, .any⟩]⟩,
   ⟨0x20, 1, 1, 0x0, 0x0, [⟨0, 32, .rwImm, 0, .any⟩]⟩,
   ⟨0x24, 1, 1, 0x0, 0x0, [⟨0, 32, .rwImm, 0, .any⟩]⟩,
   ⟨0x28, 1, 1, 0x0, 0x0, [⟨0, 16, .rwImm, 0, .any⟩]⟩,
   ⟨0x30, 1, 1, 0x0, 0x0, [⟨0, 32, .ro, 0, .any⟩]⟩,
   ⟨0x34, 1, 1, 0x0, 0x0, [⟨0, 32, .ro, 0, .any⟩]⟩,
   ⟨0x38, 1, 1, 0x0, 0x0, [⟨0, 16, .ro, 0, .any⟩]⟩,
   ⟨0x40, 1, 1, 0x0, 0x0, [⟨16, 16, .ro, 0, .any⟩, ⟨12, 4, .ro, 0, .any⟩, ⟨8, 4, .ro, 0, .any⟩, ⟨0, 8, .ro, 0, .any⟩]⟩,
   ⟨0x50, 1, 1, 0x0, 0x0, [⟨1, 1, .rwImm, 0, .any⟩, ⟨0, 1, .rwImm, 0, .any⟩]⟩,
   ⟨0x54, 1, 1, 0x0, 0x0, [⟨0, 32, .rwImm, 0, .any⟩]⟩,
   ⟨0x58, 1, 1, 0x0, 0x0, [⟨0, 32, .ro, 0, .any⟩]⟩,
   ⟨0x5C, 1, 1, 0x0, 0x0, [⟨16, 16, .rwHw, 0, .any⟩, ⟨1, 1, .rc, 0, .any⟩, ⟨0, 1, .ro, 0, .any⟩]⟩,
   ⟨0x60, 1, 1, 0x0, 0x0, [⟨0, 28, .rwImm, 0, .any⟩]⟩,
   ⟨0x80, 4, 4, 0x0, 0x4, [⟨0, 32, .ro, 0, .any⟩]⟩,
   ⟨0x90, 1, 1, 0x0, 0x0, [⟨16, 16, .rwHw, 0, .any⟩, ⟨8, 1, .rc, 0, .any⟩, ⟨0, 5, .ro, 0, .any⟩]⟩,
   ⟨0x94, 1, 1, 0x0, 0x0, [⟨0, 1, .wp, 0, .any⟩]⟩,
   ⟨0x3FF4, 1, 1, 0x0, 0x0, [⟨0, 8, .rc, 0, .any⟩]⟩,
   ⟨0x3FF8, 1, 1, 0x0, 0x0, [⟨0, 32, .ro, 0, .any⟩]⟩,
   ⟨0x3FFC, 1, 1, 0x0, 0x0, [⟨30, 2, .ro, 0, .any⟩, ⟨0, 4, .ro, 0, .any⟩]⟩]

/-- All registers of block SYS. -/
def rowsSys : List RegRow := rowsSys0

/-- Registers of block PWR (0). -/
def rowsPwr0 : List RegRow :=
  [⟨0x10000, 1, 1, 0x0, 0x0, [⟨0, 24, .ro, 0x143, .any⟩]⟩,
   ⟨0x10004, 1, 1, 0x0, 0x0, [⟨0, 24, .rwImm, 0x3e8, .range 10 1000000⟩]⟩,
   ⟨0x10008, 1, 1, 0x0, 0x0, [⟨0, 16, .rwHw, 0, .any⟩]⟩,
   ⟨0x10100, 24, 24, 0x0, 0x8, [⟨3, 1, .wp, 0, .any⟩, ⟨2, 1, .wp, 0, .any⟩, ⟨1, 1, .wp, 0, .any⟩, ⟨0, 1, .wp, 0, .any⟩]⟩,
   ⟨0x10104, 24, 24, 0x0, 0x8, [⟨24, 8, .ro, 0, .any⟩, ⟨10, 1, .rc, 0, .any⟩, ⟨9, 1, .ro, 0, .any⟩, ⟨8, 1, .ro, 0, .any⟩, ⟨0, 3, .ro, 0, .any⟩]⟩,
   ⟨0x13FF4, 1, 1, 0x0, 0x0, [⟨0, 8, .rc, 0, .any⟩]⟩,
   ⟨0x13FF8, 1, 1, 0x0, 0x0, [⟨0, 32, .ro, 0, .any⟩]⟩,
   ⟨0x13FFC, 1, 1, 0x0, 0x0, [⟨30, 2, .ro, 0, .any⟩, ⟨0, 4, .ro, 0, .any⟩]⟩]

/-- All registers of block PWR. -/
def rowsPwr : List RegRow := rowsPwr0

/-- Registers of block CLK (0). -/
def rowsClk0 : List RegRow :=
  [⟨0x20020, 1, 1, 0x0, 0x0, [⟨24, 1, .wp, 0, .any⟩, ⟨8, 9, .rwBuf, 0, .any⟩, ⟨1, 1, .rwBuf, 0, .any⟩, ⟨0, 1, .rwBuf, 0, .any⟩]⟩,
   ⟨0x20024, 1, 1, 0x0, 0x0, [⟨1, 1, .rc, 0, .any⟩, ⟨0, 1, .ro, 0, .any⟩]⟩,
   ⟨0x20100, 4, 4, 0x0, 0x10, [⟨28, 2, .rwBuf, 1, .any⟩, ⟨16, 12, .rwBuf, 0x100, .range 16 4095⟩, ⟨6, 10, .rwBuf, 0x64, .range 1 1023⟩, ⟨5, 1, .rwBuf, 0, .any⟩, ⟨0, 1, .rwBuf, 0, .any⟩]⟩,
   ⟨0x20140, 1, 1, 0x0, 0x0, [⟨28, 2, .rwBuf, 1, .any⟩, ⟨16, 12, .rwBuf, 0x100, .range 16 4095⟩, ⟨6, 10, .rwBuf, 0x64, .range 1 1023⟩, ⟨5, 1, .rwBuf, 0, .any⟩, ⟨0, 1, .rwBuf, 1, .any⟩]⟩,
   ⟨0x20150, 4, 4, 0x0, 0x10, [⟨28, 2, .rwBuf, 1, .any⟩, ⟨16, 12, .rwBuf, 0x100, .range 16 4095⟩, ⟨6, 10, .rwBuf, 0x64, .range 1 1023⟩, ⟨5, 1, .rwBuf, 0, .any⟩, ⟨0, 1, .rwBuf, 0, .any⟩]⟩,
   ⟨0x20104, 9, 9, 0x0, 0x10, [⟨16, 16, .ro, 0, .any⟩, ⟨2, 1, .rc, 0, .any⟩, ⟨1, 1, .ro, 0, .any⟩, ⟨0, 1, .ro, 0, .any⟩]⟩,
   ⟨0x20190, 1, 1, 0x0, 0x0, [⟨24, 8, .rwBuf, 0x18, .range 24 48⟩, ⟨0, 24, .rwBuf, 0, .any⟩]⟩,
   ⟨0x20194, 1, 1, 0x0, 0x0, [⟨16, 16, .rwBuf, 1, .range 1 65535⟩, ⟨8, 1, .rwBuf, 1, .any⟩, ⟨0, 7, .rwBuf, 0x20, .range 8 96⟩]⟩,
   ⟨0x23FEC, 1, 1, 0x0, 0x0, [⟨0, 1, .ro, 0, .any⟩]⟩,
   ⟨0x23FF0, 1, 1, 0x0, 0x0, [⟨0, 5, .rwImm, 0, .any⟩]⟩,
   ⟨0x23FF4, 1, 1, 0x0, 0x0, [⟨0, 8, .rc, 0, .any⟩]⟩,
   ⟨0x23FF8, 1, 1, 0x0, 0x0, [⟨0, 32, .ro, 0, .any⟩]⟩,
   ⟨0x23FFC, 1, 1, 0x0, 0x0, [⟨30, 2, .ro, 0, .any⟩, ⟨0, 4, .ro, 0, .any⟩]⟩]

/-- All registers of block CLK. -/
def rowsClk : List RegRow := rowsClk0

/-- Registers of block ALM (0). -/
def rowsAlm0 : List RegRow :=
  [⟨0x30000, 1, 1, 0x0, 0x0, [⟨12, 1, .wp, 0, .any⟩, ⟨11, 1, .rwBuf, 0, .any⟩, ⟨9, 2, .rwBuf, 1, .resvAbove 2⟩, ⟨6, 2, .rwBuf, 1, .any⟩, ⟨5, 1, .rwBuf, 0, .any⟩, ⟨4, 1, .rwBuf, 0, .any⟩, ⟨3, 1, .rwBuf, 1, .any⟩, ⟨0, 2, .rwBuf, 0, .any⟩]⟩,
   ⟨0x30004, 1, 1, 0x0, 0x0, [⟨16, 16, .ro, 0, .any⟩, ⟨12, 1, .ro, 0, .any⟩, ⟨11, 1, .ro, 0, .any⟩, ⟨10, 1, .ro, 1, .any⟩, ⟨9, 1, .ro, 0, .any⟩, ⟨8, 1, .ro, 0, .any⟩, ⟨3, 1, .ro, 0, .any⟩, ⟨2, 1, .rc, 0, .any⟩, ⟨0, 2, .ro, 0, .any⟩]⟩,
   ⟨0x30010, 1, 1, 0x0, 0x0, [⟨0, 32, .ro, 0, .any⟩]⟩,
   ⟨0x30014, 1, 1, 0x0, 0x0, [⟨0, 32, .ro, 0, .any⟩]⟩,
   ⟨0x30018, 1, 1, 0x0, 0x0, [⟨0, 16, .ro, 0, .any⟩]⟩,
   ⟨0x30020, 1, 1, 0x0, 0x0, [⟨0, 32, .rwBuf, 0, .any⟩]⟩,
   ⟨0x30024, 1, 1, 0x0, 0x0, [⟨0, 32, .rwBuf, 0, .any⟩]⟩,
   ⟨0x30028, 1, 1, 0x0, 0x0, [⟨0, 16, .rwBuf, 0, .any⟩]⟩,
   ⟨0x30030, 2, 2, 0x0, 0x4, [⟨0, 32, .ro, 0, .any⟩]⟩,
   ⟨0x30038, 1, 1, 0x0, 0x0, [⟨0, 32, .ro, 0, .any⟩]⟩,
   ⟨0x30040, 1, 1, 0x0, 0x0, [⟨0, 32, .ro, 0, .any⟩]⟩,
   ⟨0x30044, 1, 1, 0x0, 0x0, [⟨0, 32, .ro, 0, .any⟩]⟩,
   ⟨0x30048, 1, 1, 0x0, 0x0, [⟨0, 16, .ro, 0, .any⟩]⟩,
   ⟨0x30050, 4, 4, 0x0, 0x4, [⟨0, 32, .rwBuf, 0, .any⟩]⟩,
   ⟨0x30060, 4, 4, 0x0, 0x4, [⟨0, 32, .ro, 0, .any⟩]⟩,
   ⟨0x30100, 1, 1, 0x0, 0x0, [⟨25, 1, .wp, 0, .any⟩, ⟨24, 1, .wp, 0, .any⟩, ⟨16, 3, .rwBuf, 1, .range 1 7⟩, ⟨8, 8, .rwBuf, 0, .any⟩, ⟨0, 3, .rwBuf, 0, .any⟩]⟩,
   ⟨0x30104, 1, 1, 0x0, 0x0, [⟨0, 24, .rwBuf, 0xa, .range 1 10000000⟩]⟩,
   ⟨0x30108, 1, 1, 0x0, 0x0, [⟨16, 8, .ro, 0, .any⟩, ⟨8, 3, .ro, 0, .any⟩, ⟨2, 1, .ro, 0, .any⟩, ⟨1, 1, .ro, 0, .any⟩, ⟨0, 1, .ro, 0, .any⟩]⟩,
   ⟨0x30110, 1, 1, 0x0, 0x0, [⟨0, 32, .ro, 0, .any⟩]⟩,
   ⟨0x30114, 1, 1, 0x0, 0x0, [⟨0, 32, .ro, 0, .any⟩]⟩,
   ⟨0x30118, 1, 1, 0x0, 0x0, [⟨0, 16, .ro, 0, .any⟩]⟩,
   ⟨0x30120, 7, 7, 0x0, 0x8, [⟨0, 32, .ro, 0, .any⟩]⟩,
   ⟨0x30124, 7, 7, 0x0, 0x8, [⟨31, 1, .ro, 0, .any⟩, ⟨20, 1, .ro, 0, .any⟩, ⟨16, 3, .ro, 0, .any⟩, ⟨0, 9, .ro, 0, .any⟩]⟩,
   ⟨0x30180, 1, 1, 0x0, 0x0, [⟨0, 16, .rwBuf, 0, .any⟩]⟩,
   ⟨0x33FEC, 1, 1, 0x0, 0x0, [⟨0, 1, .ro, 0, .any⟩]⟩,
   ⟨0x33FF0, 1, 1, 0x0, 0x0, [⟨0, 5, .rwImm, 0, .any⟩]⟩,
   ⟨0x33FF4, 1, 1, 0x0, 0x0, [⟨0, 8, .rc, 0, .any⟩]⟩,
   ⟨0x33FF8, 1, 1, 0x0, 0x0, [⟨0, 32, .ro, 0, .any⟩]⟩,
   ⟨0x33FFC, 1, 1, 0x0, 0x0, [⟨30, 2, .ro, 0, .any⟩, ⟨0, 4, .ro, 0, .any⟩]⟩]

/-- All registers of block ALM. -/
def rowsAlm : List RegRow := rowsAlm0

/-- Registers of block LNK (0). -/
def rowsLnk0 : List RegRow :=
  [⟨0x40000, 1, 1, 0x0, 0x0, [⟨20, 4, .wp, 0, .any⟩, ⟨14, 1, .rwBuf, 0, .any⟩, ⟨13, 1, .rwBuf, 0, .any⟩, ⟨11, 2, .rwBuf, 0, .resvAbove 1⟩, ⟨10, 1, .rwBuf, 0, .any⟩, ⟨9, 1, .rwBuf, 0, .any⟩, ⟨4, 2, .rwBuf, 0, .any⟩, ⟨0, 3, .rwBuf, 3, .resvAbove 4⟩]⟩,
   ⟨0x40004, 1, 1, 0x0, 0x0, [⟨24, 6, .rwBuf, 0x20, .oneOf [1, 2, 4, 8, 16, 32]⟩, ⟨20, 4, .rwBuf, 2, .oneOf [1, 2, 4, 8]⟩, ⟨14, 6, .rwBuf, 0x20, .range 1 32⟩, ⟨12, 2, .rwBuf, 2, .resvAbove 2⟩, ⟨8, 4, .rwBuf, 0xd, .range 11 15⟩, ⟨0, 5, .rwBuf, 0, .any⟩]⟩,
   ⟨0x4000C, 1, 1, 0x0, 0x0, [⟨16, 8, .rwBuf, 0x40, .any⟩, ⟨8, 2, .rwBuf, 2, .resvAbove 2⟩, ⟨0, 8, .rwBuf, 0xa, .range 1 255⟩]⟩,
   ⟨0x40010, 1, 1, 0x0, 0x0, [⟨10, 1, .rc, 0, .any⟩, ⟨9, 1, .rc, 0, .any⟩, ⟨8, 1, .ro, 0, .any⟩, ⟨0, 4, .ro, 0, .any⟩]⟩,
   ⟨0x40020, 4, 4, 0x0, 0x4, [⟨12, 4, .ro, 0, .any⟩, ⟨7, 1, .rc, 0, .any⟩, ⟨6, 1, .rc, 0, .any⟩, ⟨5, 1, .rc, 0, .any⟩, ⟨4, 1, .rc, 0, .any⟩, ⟨0, 2, .ro, 0, .any⟩]⟩,
   ⟨0x40030, 4, 4, 0x0, 0x4, [⟨16, 16, .rwHw, 0, .any⟩, ⟨0, 16, .rwHw, 0, .any⟩]⟩,
   ⟨0x40100, 32, 32, 0x0, 0x20, [⟨12, 4, .rwBuf, 8, .any⟩, ⟨10, 1, .rwBuf, 0, .any⟩, ⟨1, 5, .rwBuf, 0, .any⟩, ⟨0, 1, .rwBuf, 0, .any⟩]⟩,
   ⟨0x40104, 32, 32, 0x0, 0x20, [⟨24, 8, .ro, 0, .any⟩, ⟨16, 8, .ro, 0, .any⟩, ⟨8, 6, .ro, 0, .any⟩, ⟨4, 4, .ro, 0, .any⟩, ⟨0, 3, .ro, 0, .any⟩]⟩,
   ⟨0x40108, 32, 32, 0x0, 0x20, [⟨16, 16, .rwHw, 0, .any⟩, ⟨0, 16, .rwHw, 0, .any⟩]⟩,
   ⟨0x4010C, 32, 32, 0x0, 0x20, [⟨16, 16, .rwHw, 0, .any⟩, ⟨0, 16, .rwHw, 0, .any⟩]⟩,
   ⟨0x40110, 32, 32, 0x0, 0x20, [⟨24, 6, .ro, 0, .any⟩, ⟨18, 6, .ro, 0, .any⟩, ⟨12, 6, .ro, 0, .any⟩, ⟨6, 6, .ro, 0, .any⟩, ⟨0, 6, .ro, 0, .any⟩]⟩,
   ⟨0x43FEC, 1, 1, 0x0, 0x0, [⟨0, 1, .ro, 0, .any⟩]⟩,
   ⟨0x43FF0, 1, 1, 0x0, 0x0, [⟨0, 5, .rwImm, 0, .any⟩]⟩,
   ⟨0x43FF4, 1, 1, 0x0, 0x0, [⟨0, 8, .rc, 0, .any⟩]⟩,
   ⟨0x43FF8, 1, 1, 0x0, 0x0, [⟨0, 32, .ro, 0, .any⟩]⟩,
   ⟨0x43FFC, 1, 1, 0x0, 0x0, [⟨30, 2, .ro, 0, .any⟩, ⟨0, 4, .ro, 0, .any⟩]⟩]

/-- All registers of block LNK. -/
def rowsLnk : List RegRow := rowsLnk0

/-- Registers of block FCV (0). -/
def rowsFcv0 : List RegRow :=
  [⟨0x50000, 1, 1, 0x0, 0x0, [⟨12, 1, .rwBuf, 0, .any⟩, ⟨8, 4, .rwBuf, 1, .any⟩, ⟨6, 2, .rwBuf, 3, .any⟩, ⟨4, 2, .rwBuf, 2, .any⟩, ⟨2, 2, .rwBuf, 1, .any⟩, ⟨0, 2, .rwBuf, 0, .any⟩]⟩,
   ⟨0x50004, 1, 1, 0x0, 0x0, [⟨16, 4, .rc, 0, .any⟩, ⟨10, 1, .rc, 0, .any⟩, ⟨9, 1, .ro, 0, .any⟩, ⟨8, 1, .rc, 0, .any⟩, ⟨0, 4, .ro, 0, .any⟩]⟩,
   ⟨0x50008, 1, 1, 0x0, 0x0, [⟨0, 32, .ro, 0, .any⟩]⟩,
   ⟨0x50100, 4, 4, 0x0, 0x20, [⟨8, 3, .rwBuf, 0, .any⟩, ⟨4, 1, .rwBuf, 0, .any⟩, ⟨0, 1, .rwBuf, 0, .any⟩]⟩,
   ⟨0x50104, 4, 4, 0x0, 0x20, [⟨8, 5, .rwBuf, 0x14, .range 10 24⟩, ⟨3, 1, .wp, 0, .any⟩, ⟨2, 1, .rwBuf, 1, .any⟩, ⟨1, 1, .rwBuf, 0, .any⟩, ⟨0, 1, .rwBuf, 1, .any⟩]⟩,
   ⟨0x50108, 4, 4, 0x0, 0x20, [⟨0, 32, .ro, 0, .any⟩]⟩,
   ⟨0x5010C, 4, 4, 0x0, 0x20, [⟨0, 32, .ro, 0, .any⟩]⟩,
   ⟨0x50110, 4, 4, 0x0, 0x20, [⟨0, 16, .rwHw, 0, .any⟩]⟩,
   ⟨0x50200, 1, 1, 0x0, 0x0, [⟨0, 18, .rwBuf, 0x10000, .range 0x8000 0x1FFFF⟩]⟩,
   ⟨0x50204, 1, 1, 0x0, 0x0, [⟨0, 16, .rwBuf, 0, .any⟩]⟩,
   ⟨0x50208, 1, 1, 0x0, 0x0, [⟨0, 12, .rwBuf, 0, .any⟩]⟩,
   ⟨0x53FEC, 1, 1, 0x0, 0x0, [⟨0, 1, .ro, 0, .any⟩]⟩,
   ⟨0x53FF0, 1, 1, 0x0, 0x0, [⟨0, 5, .rwImm, 0, .any⟩]⟩,
   ⟨0x53FF4, 1, 1, 0x0, 0x0, [⟨0, 8, .rc, 0, .any⟩]⟩,
   ⟨0x53FF8, 1, 1, 0x0, 0x0, [⟨0, 32, .ro, 0, .any⟩]⟩,
   ⟨0x53FFC, 1, 1, 0x0, 0x0, [⟨30, 2, .ro, 0, .any⟩, ⟨0, 4, .ro, 0, .any⟩]⟩]

/-- All registers of block FCV. -/
def rowsFcv : List RegRow := rowsFcv0

/-- Registers of block DDC (0). -/
def rowsDdc0 : List RegRow :=
  [⟨0x60000, 16, 4, 0x1000, 0x400, [⟨16, 3, .rwBuf, 0, .any⟩, ⟨8, 5, .rwBuf, 1, .range 1 16⟩, ⟨4, 2, .rwBuf, 0, .any⟩, ⟨0, 1, .rwBuf, 0, .any⟩]⟩,
   ⟨0x60004, 16, 4, 0x1000, 0x400, [⟨0, 32, .rwBuf, 0, .any⟩]⟩,
   ⟨0x60008, 16, 4, 0x1000, 0x400, [⟨16, 16, .rwBuf, 0, .any⟩, ⟨0, 16, .rwBuf, 0, .any⟩]⟩,
   ⟨0x6000C, 16, 4, 0x1000, 0x400, [⟨24, 3, .rwBuf, 0, .any⟩, ⟨0, 18, .rwBuf, 0x10000, .any⟩]⟩,
   ⟨0x60010, 16, 4, 0x1000, 0x400, [⟨8, 5, .rwBuf, 0x14, .range 6 24⟩, ⟨3, 1, .wp, 0, .any⟩, ⟨2, 1, .rwBuf, 1, .any⟩, ⟨1, 1, .rwBuf, 0, .any⟩, ⟨0, 1, .rwBuf, 1, .any⟩]⟩,
   ⟨0x60014, 16, 4, 0x1000, 0x400, [⟨4, 3, .rwBuf, 2, .resvAbove 4⟩, ⟨2, 1, .ro, 0, .any⟩, ⟨1, 1, .ro, 0, .any⟩, ⟨0, 1, .wp, 0, .any⟩]⟩,
   ⟨0x60018, 16, 4, 0x1000, 0x400, [⟨24, 8, .ro, 0, .any⟩, ⟨6, 1, .rc, 0, .any⟩, ⟨5, 1, .rc, 0, .any⟩, ⟨4, 1, .rc, 0, .any⟩, ⟨1, 1, .ro, 0, .any⟩, ⟨0, 1, .ro, 0, .any⟩]⟩,
   ⟨0x6001C, 16, 4, 0x1000, 0x400, [⟨0, 32, .ro, 0, .any⟩]⟩,
   ⟨0x60020, 16, 4, 0x1000, 0x400, [⟨0, 32, .ro, 0, .any⟩]⟩,
   ⟨0x60024, 16, 4, 0x1000, 0x400, [⟨16, 16, .rwHw, 0, .any⟩, ⟨0, 16, .rwHw, 0, .any⟩]⟩,
   ⟨0x70000, 1, 1, 0x0, 0x0, [⟨25, 1, .wp, 0, .any⟩, ⟨24, 1, .wp, 0, .any⟩, ⟨16, 2, .rwBuf, 0, .any⟩, ⟨0, 16, .rwBuf, 0, .any⟩]⟩,
   ⟨0x70004, 1, 1, 0x0, 0x0, [⟨16, 8, .ro, 0, .any⟩, ⟨2, 1, .rc, 0, .any⟩, ⟨1, 1, .rc, 0, .any⟩, ⟨0, 1, .ro, 0, .any⟩]⟩,
   ⟨0x70010, 1, 1, 0x0, 0x0, [⟨0, 32, .rwBuf, 0, .any⟩]⟩,
   ⟨0x70014, 1, 1, 0x0, 0x0, [⟨0, 32, .rwBuf, 0, .any⟩]⟩,
   ⟨0x70018, 1, 1, 0x0, 0x0, [⟨0, 16, .rwBuf, 0, .any⟩]⟩,
   ⟨0x63FEC, 1, 1, 0x0, 0x0, [⟨0, 1, .ro, 0, .any⟩]⟩,
   ⟨0x63FF0, 1, 1, 0x0, 0x0, [⟨0, 5, .rwImm, 0, .any⟩]⟩,
   ⟨0x63FF4, 1, 1, 0x0, 0x0, [⟨0, 8, .rc, 0, .any⟩]⟩,
   ⟨0x63FF8, 1, 1, 0x0, 0x0, [⟨0, 32, .ro, 0, .any⟩]⟩,
   ⟨0x63FFC, 1, 1, 0x0, 0x0, [⟨30, 2, .ro, 0, .any⟩, ⟨0, 4, .ro, 0, .any⟩]⟩]

/-- All registers of block DDC. -/
def rowsDdc : List RegRow := rowsDdc0

/-- Registers of block FFT (0). -/
def rowsFft0 : List RegRow :=
  [⟨0x80000, 4, 4, 0x0, 0x1000, [⟨20, 1, .rwBuf, 0, .any⟩, ⟨16, 3, .rwBuf, 3, .any⟩, ⟨12, 3, .rwBuf, 2, .resvAbove 6⟩, ⟨8, 2, .rwBuf, 3, .any⟩, ⟨4, 4, .rwBuf, 2, .range 0 8⟩, ⟨0, 1, .rwBuf, 0, .any⟩]⟩,
   ⟨0x80004, 4, 4, 0x0, 0x1000, [⟨16, 5, .rwBuf, 0, .range 0 20⟩, ⟨8, 2, .rwBuf, 0, .any⟩, ⟨4, 1, .rwBuf, 0, .any⟩, ⟨0, 3, .rwBuf, 0, .resvAbove 3⟩]⟩,
   ⟨0x93404, 16, 16, 0x0, 0x40, [⟨16, 5, .rwBuf, 0, .range 0 20⟩, ⟨8, 2, .rwBuf, 0, .any⟩, ⟨4, 1, .rwBuf, 0, .any⟩, ⟨0, 3, .rwBuf, 0, .resvAbove 3⟩]⟩,
   ⟨0x80008, 4, 4, 0x0, 0x1000, [⟨16, 16, .rwBuf, 0x31f, .any⟩, ⟨0, 16, .rwBuf, 0x70, .any⟩]⟩,
   ⟨0x93408, 16, 16, 0x0, 0x40, [⟨16, 16, .rwBuf, 0x31f, .any⟩, ⟨0, 16, .rwBuf, 0x70, .any⟩]⟩,
   ⟨0x80010, 16, 4, 0x1000, 0x4, [⟨29, 1, .wp, 0, .any⟩, ⟨28, 1, .wp, 0, .any⟩, ⟨16, 11, .rwBuf, 0, .any⟩, ⟨9, 1, .rwBuf, 0, .any⟩, ⟨4, 5, .rwBuf, 0, .range 0 20⟩, ⟨3, 1, .rwBuf, 0, .any⟩, ⟨0, 3, .rwBuf, 0, .resvAbove 5⟩]⟩,
   ⟨0x93410, 64, 4, 0x40, 0x4, [⟨29, 1, .wp, 0, .any⟩, ⟨28, 1, .wp, 0, .any⟩, ⟨16, 11, .rwBuf, 0, .any⟩, ⟨9, 1, .rwBuf, 0, .any⟩, ⟨4, 5, .rwBuf, 0, .range 0 20⟩, ⟨3, 1, .rwBuf, 0, .any⟩, ⟨0, 3, .rwBuf, 0, .resvAbove 5⟩]⟩,
   ⟨0x80020, 4, 4, 0x0, 0x1000, [⟨16, 11, .rwBuf, 0, .any⟩, ⟨8, 5, .rwBuf, 0, .range 0 20⟩, ⟨4, 3, .rwBuf, 0, .any⟩, ⟨1, 2, .rwBuf, 0, .any⟩, ⟨0, 1, .rwBuf, 0, .any⟩]⟩,
   ⟨0x93420, 16, 16, 0x0, 0x40, [⟨16, 11, .rwBuf, 0, .any⟩, ⟨8, 5, .rwBuf, 0, .range 0 20⟩, ⟨4, 3, .rwBuf, 0, .any⟩, ⟨1, 2, .rwBuf, 0, .any⟩, ⟨0, 1, .rwBuf, 0, .any⟩]⟩,
   ⟨0x80024, 4, 4, 0x0, 0x1000, [⟨0, 16, .rwBuf, 0, .any⟩]⟩,
   ⟨0x93424, 16, 16, 0x0, 0x40, [⟨0, 16, .rwBuf, 0, .any⟩]⟩,
   ⟨0x80028, 4, 4, 0x0, 0x1000, [⟨16, 16, .ro, 0, .any⟩, ⟨0, 16, .ro, 0, .any⟩]⟩,
   ⟨0x93428, 16, 16, 0x0, 0x40, [⟨16, 16, .ro, 0, .any⟩, ⟨0, 16, .ro, 0, .any⟩]⟩,
   ⟨0x8002C, 4, 4, 0x0, 0x1000, [⟨7, 1, .ro, 0, .any⟩, ⟨6, 1, .rc, 0, .any⟩, ⟨5, 1, .rc, 0, .any⟩, ⟨4, 1, .rc, 0, .any⟩, ⟨3, 1, .rc, 0, .any⟩, ⟨2, 1, .rc, 0, .any⟩, ⟨1, 1, .rc, 0, .any⟩, ⟨0, 1, .rc, 0, .any⟩]⟩,
   ⟨0x9342C, 16, 16, 0x0, 0x40, [⟨7, 1, .ro, 0, .any⟩, ⟨6, 1, .rc, 0, .any⟩, ⟨5, 1, .rc, 0, .any⟩, ⟨4, 1, .rc, 0, .any⟩, ⟨3, 1, .rc, 0, .any⟩, ⟨2, 1, .rc, 0, .any⟩, ⟨1, 1, .rc, 0, .any⟩, ⟨0, 1, .rc, 0, .any⟩]⟩,
   ⟨0x80030, 4, 4, 0x0, 0x1000, [⟨0, 32, .ro, 0, .any⟩]⟩,
   ⟨0x93430, 16, 16, 0x0, 0x40, [⟨0, 32, .ro, 0, .any⟩]⟩,
   ⟨0x80034, 4, 4, 0x0, 0x1000, [⟨16, 16, .ro, 0, .any⟩, ⟨0, 10, .ro, 0, .any⟩]⟩,
   ⟨0x93434, 16, 16, 0x0, 0x40, [⟨16, 16, .ro, 0, .any⟩, ⟨0, 10, .ro, 0, .any⟩]⟩,
   ⟨0x80038, 4, 4, 0x0, 0x1000, [⟨4, 4, .rc, 0, .any⟩, ⟨0, 4, .ro, 0, .any⟩]⟩,
   ⟨0x93438, 16, 16, 0x0, 0x40, [⟨4, 4, .rc, 0, .any⟩, ⟨0, 4, .ro, 0, .any⟩]⟩,
   ⟨0x8003C, 4, 4, 0x0, 0x1000, [⟨16, 16, .rwHw, 0, .any⟩, ⟨0, 16, .rwHw, 0, .any⟩]⟩,
   ⟨0x9343C, 16, 16, 0x0, 0x40, [⟨16, 16, .rwHw, 0, .any⟩, ⟨0, 16, .rwHw, 0, .any⟩]⟩,
   ⟨0x93400, 16, 16, 0x0, 0x40, [⟨28, 1, .rwBuf, 0, .any⟩, ⟨24, 3, .rwBuf, 0, .any⟩, ⟨20, 1, .rwBuf, 0, .any⟩, ⟨16, 3, .rwBuf, 3, .any⟩, ⟨12, 3, .rwBuf, 2, .resvAbove 6⟩, ⟨8, 2, .rwBuf, 3, .any⟩, ⟨4, 4, .rwBuf, 2, .range 0 8⟩]⟩,
   ⟨0x90000, 10, 4, 0x1000, 0x400, [⟨12, 4, .ro, 0, .any⟩, ⟨8, 4, .ro, 0xf, .any⟩, ⟨4, 4, .ro, 0xf, .any⟩, ⟨0, 3, .ro, 0, .any⟩]⟩,
   ⟨0x90004, 10, 4, 0x1000, 0x400, [⟨0, 1, .wp, 0, .any⟩]⟩,
   ⟨0x90008, 10, 4, 0x1000, 0x400, [⟨16, 16, .rwHw, 0, .any⟩, ⟨0, 16, .rwHw, 0, .any⟩]⟩,
   ⟨0x93000, 1, 1, 0x0, 0x0, [⟨9, 1, .wp, 0, .any⟩, ⟨8, 1, .wp, 0, .any⟩, ⟨0, 4, .rwImm, 0, .oneOf [0, 1, 2, 3, 4, 5, 6, 7, 9]⟩]⟩,
   ⟨0x93004, 1, 1, 0x0, 0x0, [⟨8, 4, .ro, 0xf, .any⟩, ⟨4, 2, .ro, 0, .any⟩, ⟨1, 1, .ro, 0, .any⟩, ⟨0, 1, .ro, 0, .any⟩]⟩,
   ⟨0x93008, 1, 1, 0x0, 0x0, [⟨25, 1, .wp, 0, .any⟩, ⟨24, 1, .wp, 0, .any⟩, ⟨16, 4, .rwImm, 0, .range 0 9⟩, ⟨0, 16, .rwBuf, 0, .any⟩]⟩]

/-- Registers of block FFT (1). -/
def rowsFft1 : List RegRow :=
  [⟨0x9300C, 1, 1, 0x0, 0x0, [⟨12, 1, .ro, 0, .any⟩, ⟨8, 4, .ro, 0, .any⟩, ⟨4, 3, .ro, 0, .any⟩, ⟨1, 3, .ro, 0, .any⟩, ⟨0, 1, .ro, 0, .any⟩]⟩,
   ⟨0x93010, 1, 1, 0x0, 0x0, [⟨0, 32, .ro, 0, .any⟩]⟩,
   ⟨0x93018, 1, 1, 0x0, 0x0, [⟨0, 32, .ro, 0, .any⟩]⟩,
   ⟨0x9301C, 1, 1, 0x0, 0x0, [⟨0, 8, .ro, 0, .any⟩]⟩,
   ⟨0x93020, 2, 2, 0x0, 0x4, [⟨8, 1, .ro, 0, .any⟩, ⟨0, 4, .rwBuf, 2, .range 0 8⟩]⟩,
   ⟨0x83FEC, 1, 1, 0x0, 0x0, [⟨0, 1, .ro, 0, .any⟩]⟩,
   ⟨0x83FF0, 1, 1, 0x0, 0x0, [⟨0, 5, .rwImm, 0, .any⟩]⟩,
   ⟨0x83FF4, 1, 1, 0x0, 0x0, [⟨0, 8, .rc, 0, .any⟩]⟩,
   ⟨0x83FF8, 1, 1, 0x0, 0x0, [⟨0, 32, .ro, 0, .any⟩]⟩,
   ⟨0x83FFC, 1, 1, 0x0, 0x0, [⟨30, 2, .ro, 0, .any⟩, ⟨0, 4, .ro, 0, .any⟩]⟩]

/-- All registers of block FFT. -/
def rowsFft : List RegRow := rowsFft0 ++ rowsFft1

/-- Registers of block TRG (0). -/
def rowsTrg0 : List RegRow :=
  [⟨0xA0000, 1, 1, 0x0, 0x0, [⟨12, 2, .rwBuf, 0, .resvAbove 2⟩, ⟨8, 2, .rwBuf, 0, .any⟩, ⟨4, 1, .rwBuf, 0, .any⟩, ⟨1, 2, .rwBuf, 0, .resvAbove 2⟩, ⟨0, 1, .rwBuf, 0, .any⟩]⟩,
   ⟨0xA0004, 1, 1, 0x0, 0x0, [⟨16, 16, .ro, 0, .any⟩, ⟨13, 1, .rc, 0, .any⟩, ⟨12, 1, .rc, 0, .any⟩, ⟨11, 1, .rc, 0, .any⟩, ⟨10, 1, .rc, 0, .any⟩, ⟨9, 1, .rc, 0, .any⟩, ⟨4, 1, .ro, 0, .any⟩, ⟨3, 1, .ro, 0, .any⟩, ⟨1, 1, .ro, 0, .any⟩, ⟨0, 1, .ro, 0, .any⟩]⟩,
   ⟨0xA0008, 1, 1, 0x0, 0x0, [⟨3, 1, .wp, 0, .any⟩, ⟨2, 1, .wp, 0, .any⟩, ⟨1, 1, .wp, 0, .any⟩, ⟨0, 1, .wp, 0, .any⟩]⟩,
   ⟨0xA000C, 1, 1, 0x0, 0x0, [⟨0, 24, .rwBuf, 0, .any⟩]⟩,
   ⟨0xA0010, 1, 1, 0x0, 0x0, [⟨0, 32, .rwBuf, 0, .any⟩]⟩,
   ⟨0xA0014, 1, 1, 0x0, 0x0, [⟨0, 24, .rwBuf, 0x3e8, .range 1 16777215⟩]⟩,
   ⟨0xA0018, 1, 1, 0x0, 0x0, [⟨0, 21, .ro, 0, .any⟩]⟩,
   ⟨0xA001C, 1, 1, 0x0, 0x0, [⟨0, 20, .rwBuf, 0, .any⟩]⟩,
   ⟨0xA0020, 1, 1, 0x0, 0x0, [⟨17, 1, .rwBuf, 0, .any⟩, ⟨16, 1, .rwBuf, 0, .any⟩, ⟨0, 16, .rwBuf, 1, .range 1 65535⟩]⟩,
   ⟨0xA0024, 1, 1, 0x0, 0x0, [⟨0, 24, .rwBuf, 0, .any⟩]⟩,
   ⟨0xA0028, 1, 1, 0x0, 0x0, [⟨0, 24, .rwBuf, 0, .any⟩]⟩,
   ⟨0xA002C, 1, 1, 0x0, 0x0, [⟨0, 24, .rwBuf, 0, .any⟩]⟩,
   ⟨0xA0030, 1, 1, 0x0, 0x0, [⟨0, 32, .rwBuf, 0, .any⟩]⟩,
   ⟨0xA0034, 1, 1, 0x0, 0x0, [⟨0, 32, .rwBuf, 0, .any⟩]⟩,
   ⟨0xA003C, 1, 1, 0x0, 0x0, [⟨0, 32, .ro, 0, .any⟩]⟩,
   ⟨0xA0040, 1, 1, 0x0, 0x0, [⟨0, 32, .rwHw, 0, .any⟩]⟩,
   ⟨0xA0044, 1, 1, 0x0, 0x0, [⟨16, 16, .rwHw, 0, .any⟩, ⟨0, 16, .rwHw, 0, .any⟩]⟩,
   ⟨0xA0100, 4, 4, 0x0, 0x10, [⟨16, 8, .rwBuf, 1, .range 1 255⟩, ⟨8, 2, .rwBuf, 0, .resvAbove 2⟩, ⟨4, 2, .rwBuf, 0, .any⟩, ⟨0, 2, .rwBuf, 0, .any⟩]⟩,
   ⟨0xA0104, 4, 4, 0x0, 0x10, [⟨16, 16, .rwBuf, 0, .any⟩, ⟨0, 16, .rwBuf, 0, .any⟩]⟩,
   ⟨0xA0108, 4, 4, 0x0, 0x10, [⟨16, 16, .ro, 0, .any⟩, ⟨0, 16, .ro, 0, .any⟩]⟩,
   ⟨0xA0200, 4, 4, 0x0, 0x10, [⟨16, 16, .rwBuf, 0, .any⟩, ⟨12, 2, .rwBuf, 0, .resvAbove 2⟩, ⟨8, 2, .rwBuf, 0, .resvAbove 2⟩, ⟨0, 5, .rwBuf, 0, .resvIn [4, 5, 6, 7, 8, 9, 10, 11, 12, 13, 14, 15]⟩]⟩,
   ⟨0xA0204, 4, 4, 0x0, 0x10, [⟨16, 8, .rwBuf, 0x10, .any⟩, ⟨0, 16, .rwBuf, 0xec00, .any⟩]⟩,
   ⟨0xA0280, 4, 4, 0x0, 0x10, [⟨12, 2, .rwBuf, 0, .resvAbove 2⟩, ⟨5, 3, .rwBuf, 0, .any⟩, ⟨0, 5, .rwBuf, 0, .resvIn [4, 5, 6, 7, 8, 9, 10, 11, 12, 13, 14, 15]⟩]⟩,
   ⟨0xA0284, 4, 4, 0x0, 0x10, [⟨24, 2, .rwBuf, 0, .any⟩, ⟨16, 8, .rwBuf, 0x10, .any⟩, ⟨0, 16, .rwBuf, 0xec00, .any⟩]⟩,
   ⟨0xA0300, 2, 2, 0x0, 0x20, [⟨0, 5, .rwBuf, 8, .range 0 16⟩]⟩,
   ⟨0xA0304, 2, 2, 0x0, 0x20, [⟨16, 11, .rwBuf, 0, .any⟩, ⟨0, 11, .rwBuf, 0, .any⟩]⟩,
   ⟨0xA0308, 2, 2, 0x0, 0x20, [⟨16, 10, .rwBuf, 0, .any⟩, ⟨0, 10, .rwBuf, 0, .any⟩]⟩,
   ⟨0xA030C, 2, 2, 0x0, 0x20, [⟨0, 17, .rwBuf, 0x80, .range 1 65536⟩]⟩,
   ⟨0xA0310, 2, 2, 0x0, 0x20, [⟨0, 17, .rwBuf, 0x40, .any⟩]⟩,
   ⟨0xA0340, 1, 1, 0x0, 0x0, [⟨9, 1, .rwBuf, 0, .any⟩, ⟨8, 1, .rwBuf, 0, .any⟩, ⟨0, 4, .rwBuf, 1, .any⟩]⟩]

/-- Registers of block TRG (1). -/
def rowsTrg1 : List RegRow :=
  [⟨0xA0350, 1, 1, 0x0, 0x0, [⟨16, 16, .rwBuf, 0, .any⟩, ⟨8, 4, .rwBuf, 0, .any⟩, ⟨0, 1, .rwBuf, 0, .any⟩]⟩,
   ⟨0xA0354, 1, 1, 0x0, 0x0, [⟨0, 32, .rwBuf, 0, .any⟩]⟩,
   ⟨0xA0380, 4, 4, 0x0, 0x8, [⟨24, 1, .rwBuf, 0, .any⟩, ⟨16, 8, .rwBuf, 8, .range 1 255⟩, ⟨8, 5, .rwBuf, 0, .range 0 23⟩, ⟨0, 2, .rwBuf, 0, .any⟩]⟩,
   ⟨0xA0384, 4, 4, 0x0, 0x8, [⟨0, 32, .rwBuf, 0, .any⟩]⟩,
   ⟨0xA0400, 24, 24, 0x0, 0x4, [⟨16, 16, .rwHw, 0, .any⟩, ⟨0, 16, .rwHw, 0, .any⟩]⟩,
   ⟨0xA0500, 8, 8, 0x0, 0x4, [⟨0, 32, .ro, 0, .any⟩]⟩,
   ⟨0xA0520, 1, 1, 0x0, 0x0, [⟨0, 9, .ro, 0, .any⟩]⟩,
   ⟨0xA3FEC, 1, 1, 0x0, 0x0, [⟨0, 1, .ro, 0, .any⟩]⟩,
   ⟨0xA3FF0, 1, 1, 0x0, 0x0, [⟨0, 5, .rwImm, 0, .any⟩]⟩,
   ⟨0xA3FF4, 1, 1, 0x0, 0x0, [⟨0, 8, .rc, 0, .any⟩]⟩,
   ⟨0xA3FF8, 1, 1, 0x0, 0x0, [⟨0, 32, .ro, 0, .any⟩]⟩,
   ⟨0xA3FFC, 1, 1, 0x0, 0x0, [⟨30, 2, .ro, 0, .any⟩, ⟨0, 4, .ro, 0, .any⟩]⟩]

/-- All registers of block TRG. -/
def rowsTrg : List RegRow := rowsTrg0 ++ rowsTrg1

/-- Registers of block ACQ (0). -/
def rowsAcq0 : List RegRow :=
  [⟨0xB0000, 4, 4, 0x0, 0x100, [⟨28, 4, .rwBuf, 0, .any⟩, ⟨27, 1, .rwBuf, 0, .any⟩, ⟨26, 1, .rwBuf, 0, .any⟩, ⟨24, 2, .rwBuf, 0, .resvAbove 2⟩, ⟨20, 4, .rwBuf, 2, .any⟩, ⟨16, 3, .rwBuf, 0, .resvAbove 3⟩, ⟨8, 5, .rwBuf, 0, .resvIn [4, 5, 6, 7, 8, 9, 10, 11, 12, 13, 14, 15]⟩, ⟨0, 2, .rwBuf, 0, .any⟩]⟩,
   ⟨0xB0004, 4, 4, 0x0, 0x100, [⟨0, 26, .rwBuf, 0, .any⟩]⟩,
   ⟨0xB0008, 4, 4, 0x0, 0x100, [⟨0, 25, .rwBuf, 0x10, .range 1 0x1FFFFFF⟩]⟩,
   ⟨0xB000C, 4, 4, 0x0, 0x100, [⟨0, 32, .rwBuf, 0, .any⟩]⟩,
   ⟨0xB0010, 4, 4, 0x0, 0x100, [⟨0, 23, .rwBuf, 0, .any⟩]⟩,
   ⟨0xB0014, 4, 4, 0x0, 0x100, [⟨0, 25, .rwBuf, 1, .range 1 0x1FFFFFF⟩]⟩,
   ⟨0xB0018, 4, 4, 0x0, 0x100, [⟨0, 23, .rwBuf, 0, .any⟩]⟩,
   ⟨0xB001C, 4, 4, 0x0, 0x100, [⟨0, 17, .rwBuf, 2, .range 2 65536⟩]⟩,
   ⟨0xB0020, 4, 4, 0x0, 0x100, [⟨2, 1, .wp, 0, .any⟩, ⟨1, 1, .wp, 0, .any⟩, ⟨0, 1, .wp, 0, .any⟩]⟩,
   ⟨0xB0024, 4, 4, 0x0, 0x100, [⟨16, 1, .ro, 0, .any⟩, ⟨12, 4, .ro, 0, .any⟩, ⟨8, 1, .ro, 0, .any⟩, ⟨7, 1, .rc, 0, .any⟩, ⟨6, 1, .rc, 0, .any⟩, ⟨5, 1, .rc, 0, .any⟩, ⟨4, 1, .rc, 0, .any⟩, ⟨0, 3, .ro, 0, .any⟩]⟩,
   ⟨0xB0028, 4, 4, 0x0, 0x100, [⟨0, 32, .ro, 0, .any⟩]⟩,
   ⟨0xB002C, 4, 4, 0x0, 0x100, [⟨0, 32, .rwImm, 0, .any⟩]⟩,
   ⟨0xB0030, 4, 4, 0x0, 0x100, [⟨0, 32, .ro, 0, .any⟩]⟩,
   ⟨0xB0034, 4, 4, 0x0, 0x100, [⟨16, 16, .rwHw, 0, .any⟩, ⟨0, 16, .rwHw, 0, .any⟩]⟩,
   ⟨0xB0038, 4, 4, 0x0, 0x100, [⟨16, 16, .rwHw, 0, .any⟩, ⟨0, 16, .rwHw, 0, .any⟩]⟩,
   ⟨0xB003C, 4, 4, 0x0, 0x100, [⟨16, 9, .ro, 0, .any⟩, ⟨0, 9, .ro, 0, .any⟩]⟩,
   ⟨0xB0040, 4, 4, 0x0, 0x100, [⟨0, 32, .ro, 0, .any⟩]⟩,
   ⟨0xB0044, 4, 4, 0x0, 0x100, [⟨0, 32, .ro, 0, .any⟩]⟩,
   ⟨0xB0048, 4, 4, 0x0, 0x100, [⟨0, 32, .ro, 0, .any⟩]⟩,
   ⟨0xB004C, 4, 4, 0x0, 0x100, [⟨0, 32, .ro, 0, .any⟩]⟩,
   ⟨0xB0050, 4, 4, 0x0, 0x100, [⟨0, 32, .ro, 0, .any⟩]⟩,
   ⟨0xB0054, 4, 4, 0x0, 0x100, [⟨0, 32, .ro, 0, .any⟩]⟩,
   ⟨0xB0058, 4, 4, 0x0, 0x100, [⟨0, 32, .ro, 0, .any⟩]⟩,
   ⟨0xB005C, 4, 4, 0x0, 0x100, [⟨0, 32, .ro, 0, .any⟩]⟩,
   ⟨0xB3FEC, 1, 1, 0x0, 0x0, [⟨0, 1, .ro, 0, .any⟩]⟩,
   ⟨0xB3FF0, 1, 1, 0x0, 0x0, [⟨0, 5, .rwImm, 0, .any⟩]⟩,
   ⟨0xB3FF4, 1, 1, 0x0, 0x0, [⟨0, 8, .rc, 0, .any⟩]⟩,
   ⟨0xB3FF8, 1, 1, 0x0, 0x0, [⟨0, 32, .ro, 0, .any⟩]⟩,
   ⟨0xB3FFC, 1, 1, 0x0, 0x0, [⟨30, 2, .ro, 0, .any⟩, ⟨0, 4, .ro, 0, .any⟩]⟩]

/-- All registers of block ACQ. -/
def rowsAcq : List RegRow := rowsAcq0

/-- Registers of block NEB (0). -/
def rowsNeb0 : List RegRow :=
  [⟨0xC0000, 1, 1, 0x0, 0x0, [⟨24, 4, .rwBuf, 0, .any⟩, ⟨20, 2, .rwBuf, 1, .any⟩, ⟨16, 2, .rwBuf, 0, .resvAbove 2⟩, ⟨12, 1, .rwBuf, 0, .any⟩, ⟨10, 2, .rwBuf, 0, .any⟩, ⟨9, 1, .rwBuf, 1, .any⟩, ⟨8, 1, .rwBuf, 0, .any⟩, ⟨4, 2, .rwBuf, 0, .any⟩, ⟨0, 1, .rwBuf, 0, .any⟩]⟩,
   ⟨0xC0004, 1, 1, 0x0, 0x0, [⟨16, 10, .rwBuf, 0x1ff, .range 15 1023⟩, ⟨0, 11, .rwBuf, 0x3ff, .range 15 2047⟩]⟩,
   ⟨0xC0008, 1, 1, 0x0, 0x0, [⟨16, 16, .rwBuf, 0x31f, .any⟩, ⟨0, 16, .rwBuf, 0x70, .any⟩]⟩,
   ⟨0xC000C, 1, 1, 0x0, 0x0, [⟨16, 13, .rwBuf, 0x40, .range 1 4096⟩, ⟨0, 16, .rwBuf, 0, .any⟩]⟩,
   ⟨0xC0010, 1, 1, 0x0, 0x0, [⟨0, 16, .rwBuf, 0xe000, .any⟩]⟩,
   ⟨0xC0014, 1, 1, 0x0, 0x0, [⟨24, 5, .rwBuf, 0xa, .range 0 24⟩, ⟨0, 24, .rwBuf, 0x411b, .range 10 16777215⟩]⟩,
   ⟨0xC0018, 1, 1, 0x0, 0x0, [⟨0, 8, .rwBuf, 1, .range 1 255⟩]⟩,
   ⟨0xC001C, 1, 1, 0x0, 0x0, [⟨16, 6, .rwBuf, 0x10, .range 1 32⟩, ⟨8, 5, .rwBuf, 0, .any⟩, ⟨4, 1, .rwBuf, 1, .any⟩, ⟨0, 2, .rwBuf, 0, .any⟩]⟩,
   ⟨0xC0020, 1, 1, 0x0, 0x0, [⟨3, 1, .wp, 0, .any⟩, ⟨2, 1, .wp, 0, .any⟩, ⟨1, 1, .wp, 0, .any⟩, ⟨0, 1, .wp, 0, .any⟩]⟩,
   ⟨0xC0024, 1, 1, 0x0, 0x0, [⟨0, 10, .rwBuf, 0x64, .range 1 1000⟩]⟩,
   ⟨0xC0028, 1, 1, 0x0, 0x0, [⟨8, 8, .ro, 1, .any⟩, ⟨6, 1, .rc, 0, .any⟩, ⟨5, 1, .ro, 0, .any⟩, ⟨4, 1, .rc, 0, .any⟩, ⟨3, 1, .ro, 0, .any⟩, ⟨2, 1, .ro, 0, .any⟩, ⟨1, 1, .ro, 0, .any⟩, ⟨0, 1, .ro, 0, .any⟩]⟩,
   ⟨0xC002C, 1, 1, 0x0, 0x0, [⟨16, 16, .rwHw, 0, .any⟩, ⟨0, 16, .rwHw, 0, .any⟩]⟩,
   ⟨0xC0030, 1, 1, 0x0, 0x0, [⟨0, 32, .ro, 0, .any⟩]⟩,
   ⟨0xC0034, 1, 1, 0x0, 0x0, [⟨0, 32, .ro, 0, .any⟩]⟩,
   ⟨0xC0038, 1, 1, 0x0, 0x0, [⟨16, 8, .ro, 0, .any⟩, ⟨5, 1, .ro, 0, .any⟩, ⟨4, 1, .ro, 0, .any⟩, ⟨3, 1, .ro, 0, .any⟩, ⟨2, 1, .ro, 0, .any⟩, ⟨1, 1, .ro, 0, .any⟩, ⟨0, 1, .ro, 0, .any⟩]⟩,
   ⟨0xC003C, 1, 1, 0x0, 0x0, [⟨16, 6, .ro, 0x10, .any⟩, ⟨8, 5, .ro, 0, .any⟩, ⟨4, 1, .ro, 1, .any⟩, ⟨0, 2, .ro, 0, .any⟩]⟩,
   ⟨0xC0040, 1, 1, 0x0, 0x0, [⟨0, 32, .ro, 0, .any⟩]⟩,
   ⟨0xC0044, 1, 1, 0x0, 0x0, [⟨0, 32, .ro, 0, .any⟩]⟩,
   ⟨0xC0048, 1, 1, 0x0, 0x0, [⟨0, 16, .ro, 0, .any⟩]⟩,
   ⟨0xC0050, 1, 1, 0x0, 0x0, [⟨0, 32, .ro, 0, .any⟩]⟩,
   ⟨0xC0054, 1, 1, 0x0, 0x0, [⟨0, 32, .ro, 0, .any⟩]⟩,
   ⟨0xC0058, 1, 1, 0x0, 0x0, [⟨0, 16, .ro, 0, .any⟩]⟩,
   ⟨0xC3FEC, 1, 1, 0x0, 0x0, [⟨0, 1, .ro, 0, .any⟩]⟩,
   ⟨0xC3FF0, 1, 1, 0x0, 0x0, [⟨0, 5, .rwImm, 0, .any⟩]⟩,
   ⟨0xC3FF4, 1, 1, 0x0, 0x0, [⟨0, 8, .rc, 0, .any⟩]⟩,
   ⟨0xC3FF8, 1, 1, 0x0, 0x0, [⟨0, 32, .ro, 0, .any⟩]⟩,
   ⟨0xC3FFC, 1, 1, 0x0, 0x0, [⟨30, 2, .ro, 0, .any⟩, ⟨0, 4, .ro, 0, .any⟩]⟩]

/-- All registers of block NEB. -/
def rowsNeb : List RegRow := rowsNeb0

end Sys2Proof.Machine
end

