-- ==== Sys2Proof/Machine/RegTableB.lean ====
section
/-! DEFINITION. The BAR0 register map as a table, part B: for every register (or register array) its base address,
the number of elements and how they are laid out, and every field with its place, access code (R10, R517), reset
value and the values the field refuses (R12). Transcribed from the register tables of spec/. -/

namespace Sys2Proof.Machine

/-- Registers of block DPY (0). -/
def rowsDpy0 : List RegRow :=
  [⟨0xE0000, 1, 1, 0x0, 0x0, [⟨12, 2, .rwShadow, 1, .resvAbove 2⟩, ⟨8, 3, .rwShadow, 6, .any⟩, ⟨6, 2, .rwShadow, 2, .resvAbove 2⟩, ⟨5, 1, .rwShadow, 1, .any⟩, ⟨4, 1, .rwShadow, 1, .any⟩, ⟨1, 1, .rwShadow, 0, .any⟩, ⟨0, 1, .rwShadow, 0, .any⟩]⟩,
   ⟨0xE0004, 1, 1, 0x0, 0x0, [⟨16, 13, .rwShadow, 0xf50, .any⟩, ⟨0, 13, .rwShadow, 0xf00, .any⟩]⟩,
   ⟨0xE0008, 1, 1, 0x0, 0x0, [⟨16, 12, .rwShadow, 0x20, .any⟩, ⟨0, 12, .rwShadow, 8, .any⟩]⟩,
   ⟨0xE000C, 1, 1, 0x0, 0x0, [⟨16, 12, .rwShadow, 0x8ae, .any⟩, ⟨0, 12, .rwShadow, 0x870, .any⟩]⟩,
   ⟨0xE0010, 1, 1, 0x0, 0x0, [⟨16, 12, .rwShadow, 8, .any⟩, ⟨0, 12, .rwShadow, 0x30, .any⟩]⟩,
   ⟨0xE0014, 1, 1, 0x0, 0x0, [⟨0, 13, .rwShadow, 0x8ae, .any⟩]⟩,
   ⟨0xE0018, 1, 1, 0x0, 0x0, [⟨24, 8, .rwShadow, 0x29, .range 24 48⟩, ⟨0, 24, .rwShadow, 0xcf2496, .any⟩]⟩,
   ⟨0xE001C, 1, 1, 0x0, 0x0, [⟨16, 16, .rwShadow, 1, .range 1 65535⟩, ⟨8, 1, .rwShadow, 1, .any⟩, ⟨0, 7, .rwShadow, 8, .range 8 96⟩]⟩,
   ⟨0xE0020, 1, 1, 0x0, 0x0, [⟨0, 30, .rwShadow, 0, .any⟩]⟩,
   ⟨0xE0030, 1, 1, 0x0, 0x0, [⟨16, 12, .rwShadow, 0, .any⟩, ⟨0, 12, .rwShadow, 0, .any⟩]⟩,
   ⟨0xE0034, 1, 1, 0x0, 0x0, [⟨16, 12, .rwShadow, 0, .any⟩, ⟨0, 12, .rwShadow, 0, .any⟩]⟩,
   ⟨0xE0038, 1, 1, 0x0, 0x0, [⟨0, 1, .rwShadow, 0, .any⟩]⟩,
   ⟨0xE0040, 1, 1, 0x0, 0x0, [⟨16, 2, .rwShadow, 0, .any⟩, ⟨8, 5, .rwShadow, 0, .rangeNotIn [4, 5, 6, 7, 8, 9, 10, 11, 12, 13, 14, 15]⟩, ⟨0, 1, .rwShadow, 0, .any⟩]⟩,
   ⟨0xE0044, 1, 1, 0x0, 0x0, [⟨16, 13, .rwShadow, 0x20, .range 1 4096⟩, ⟨0, 16, .rwShadow, 0, .any⟩]⟩,
   ⟨0xE0048, 1, 1, 0x0, 0x0, [⟨16, 12, .rwShadow, 0, .any⟩, ⟨0, 12, .rwShadow, 0, .any⟩]⟩,
   ⟨0xE004C, 1, 1, 0x0, 0x0, [⟨16, 12, .rwShadow, 0, .any⟩, ⟨0, 12, .rwShadow, 0, .any⟩]⟩,
   ⟨0xE0060, 4, 4, 0x0, 0x8, [⟨8, 5, .rwShadow, 0, .rangeNotIn [4, 5, 6, 7, 8, 9, 10, 11, 12, 13, 14, 15]⟩, ⟨4, 2, .rwShadow, 0, .any⟩, ⟨0, 1, .rwShadow, 0, .any⟩]⟩,
   ⟨0xE0064, 4, 4, 0x0, 0x8, [⟨0, 30, .rwShadow, 0x3ff00000, .any⟩]⟩,
   ⟨0xE0080, 1, 1, 0x0, 0x0, [⟨16, 13, .rwShadow, 0x40, .range 1 4096⟩, ⟨0, 16, .rwShadow, 0, .any⟩]⟩,
   ⟨0xE0090, 1, 1, 0x0, 0x0, [⟨16, 7, .rwShadow, 0, .any⟩, ⟨4, 1, .rwShadow, 0, .any⟩, ⟨0, 1, .rwShadow, 0, .any⟩]⟩,
   ⟨0xE0100, 1, 1, 0x0, 0x0, [⟨0, 1, .wp, 0, .any⟩]⟩,
   ⟨0xE0104, 1, 1, 0x0, 0x0, [⟨16, 16, .ro, 0, .any⟩, ⟨8, 3, .ro, 0, .any⟩, ⟨6, 1, .rc, 0, .any⟩, ⟨5, 1, .rc, 0, .any⟩, ⟨2, 1, .ro, 0, .any⟩, ⟨1, 1, .ro, 0, .any⟩, ⟨0, 1, .ro, 0, .any⟩]⟩,
   ⟨0xE0108, 1, 1, 0x0, 0x0, [⟨0, 32, .ro, 0, .any⟩]⟩,
   ⟨0xE010C, 1, 1, 0x0, 0x0, [⟨8, 1, .ro, 0, .any⟩, ⟨6, 2, .ro, 0, .any⟩, ⟨0, 3, .ro, 0, .any⟩]⟩,
   ⟨0xE0110, 1, 1, 0x0, 0x0, [⟨16, 16, .rwHw, 0, .any⟩, ⟨0, 16, .rwHw, 0, .any⟩]⟩,
   ⟨0xE0120, 1, 1, 0x0, 0x0, [⟨31, 1, .wp, 0, .any⟩, ⟨30, 1, .rwImm, 0, .any⟩, ⟨24, 4, .rwImm, 0, .any⟩, ⟨0, 20, .rwImm, 0, .any⟩]⟩,
   ⟨0xE0124, 1, 1, 0x0, 0x0, [⟨4, 2, .ro, 0, .any⟩, ⟨0, 1, .rc, 0, .any⟩]⟩,
   ⟨0xE0130, 4, 4, 0x0, 0x4, [⟨0, 32, .rwHw, 0, .any⟩]⟩,
   ⟨0xE3FEC, 1, 1, 0x0, 0x0, [⟨0, 1, .ro, 0, .any⟩]⟩,
   ⟨0xE3FF4, 1, 1, 0x0, 0x0, [⟨0, 8, .rc, 0, .any⟩]⟩]

/-- Registers of block DPY (1). -/
def rowsDpy1 : List RegRow :=
  [⟨0xE3FF8, 1, 1, 0x0, 0x0, [⟨0, 32, .ro, 0, .any⟩]⟩,
   ⟨0xE3FFC, 1, 1, 0x0, 0x0, [⟨30, 2, .ro, 0, .any⟩, ⟨0, 4, .ro, 0, .any⟩]⟩]

/-- All registers of block DPY. -/
def rowsDpy : List RegRow := rowsDpy0 ++ rowsDpy1

/-- Registers of block LOD (0). -/
def rowsLod0 : List RegRow :=
  [⟨0x100000, 8, 8, 0x0, 0x100, [⟨2, 1, .rwBuf, 0, .any⟩, ⟨1, 1, .rwBuf, 0, .any⟩, ⟨0, 1, .rwBuf, 0, .any⟩]⟩,
   ⟨0x100004, 8, 8, 0x0, 0x100, [⟨0, 15, .rwBuf, 0x50, .any⟩]⟩,
   ⟨0x100008, 8, 8, 0x0, 0x100, [⟨0, 24, .rwBuf, 0, .any⟩]⟩,
   ⟨0x10000C, 8, 8, 0x0, 0x100, [⟨0, 28, .rwBuf, 0, .any⟩]⟩,
   ⟨0x100010, 8, 8, 0x0, 0x100, [⟨31, 1, .rwBuf, 0, .any⟩, ⟨24, 7, .rwBuf, 0x20, .range 1 64⟩, ⟨16, 4, .rwBuf, 0, .any⟩, ⟨15, 1, .rwBuf, 0, .any⟩, ⟨8, 7, .rwBuf, 0x20, .range 1 64⟩, ⟨0, 4, .rwBuf, 0, .any⟩]⟩,
   ⟨0x100014, 8, 8, 0x0, 0x100, [⟨0, 24, .rwBuf, 0, .any⟩]⟩,
   ⟨0x100020, 8, 8, 0x0, 0x100, [⟨1, 1, .wp, 0, .any⟩, ⟨0, 1, .wp, 0, .any⟩]⟩,
   ⟨0x100024, 8, 8, 0x0, 0x100, [⟨0, 16, .wo, 0, .any⟩]⟩,
   ⟨0x100028, 8, 8, 0x0, 0x100, [⟨24, 8, .ro, 0, .any⟩, ⟨16, 4, .ro, 0, .any⟩, ⟨13, 1, .rc, 0, .any⟩, ⟨12, 1, .rc, 0, .any⟩, ⟨11, 1, .rc, 0, .any⟩, ⟨10, 1, .rc, 0, .any⟩, ⟨9, 1, .rwHw, 0, .any⟩, ⟨8, 1, .rwHw, 0, .any⟩, ⟨7, 1, .rwHw, 0, .any⟩, ⟨0, 3, .ro, 0, .any⟩]⟩,
   ⟨0x10002C, 8, 8, 0x0, 0x100, [⟨0, 15, .ro, 0, .any⟩]⟩,
   ⟨0x100030, 8, 8, 0x0, 0x100, [⟨0, 32, .rwHw, 0, .any⟩]⟩,
   ⟨0x100034, 8, 8, 0x0, 0x100, [⟨16, 16, .rwHw, 0, .any⟩, ⟨8, 8, .rwHw, 0, .any⟩, ⟨0, 8, .rwHw, 0, .any⟩]⟩,
   ⟨0x100038, 8, 8, 0x0, 0x100, [⟨16, 16, .rwHw, 0, .any⟩, ⟨0, 16, .rwHw, 0, .any⟩]⟩,
   ⟨0x10003C, 8, 8, 0x0, 0x100, [⟨0, 20, .ro, 0, .any⟩]⟩,
   ⟨0x100040, 8, 8, 0x0, 0x100, [⟨0, 24, .rc, 0, .any⟩]⟩,
   ⟨0x103FEC, 1, 1, 0x0, 0x0, [⟨0, 1, .ro, 0, .any⟩]⟩,
   ⟨0x103FF0, 1, 1, 0x0, 0x0, [⟨0, 5, .rwImm, 0, .any⟩]⟩,
   ⟨0x103FF4, 1, 1, 0x0, 0x0, [⟨0, 8, .rc, 0, .any⟩]⟩,
   ⟨0x103FF8, 1, 1, 0x0, 0x0, [⟨0, 32, .ro, 0, .any⟩]⟩,
   ⟨0x103FFC, 1, 1, 0x0, 0x0, [⟨30, 2, .ro, 0, .any⟩, ⟨0, 4, .ro, 0, .any⟩]⟩]

/-- All registers of block LOD. -/
def rowsLod : List RegRow := rowsLod0

/-- Registers of block DMA (0). -/
def rowsDma0 : List RegRow :=
  [⟨0x120000, 32, 32, 0x0, 0x40, [⟨16, 8, .rwBuf, 0, .any⟩, ⟨8, 3, .rwBuf, 2, .resvAbove 6⟩, ⟨4, 2, .rwBuf, 3, .any⟩, ⟨1, 1, .rwBuf, 0, .any⟩, ⟨0, 1, .rwBuf, 0, .any⟩]⟩,
   ⟨0x120004, 32, 32, 0x0, 0x40, [⟨0, 19, .rwBuf, 0, .any⟩]⟩,
   ⟨0x120008, 32, 32, 0x0, 0x40, [⟨0, 17, .rwBuf, 1, .range 1 65536⟩]⟩,
   ⟨0x12000C, 32, 32, 0x0, 0x40, [⟨6, 21, .rwHw, 0x1bc000, .any⟩]⟩,
   ⟨0x120010, 32, 32, 0x0, 0x40, [⟨3, 1, .wp, 0, .any⟩, ⟨2, 1, .wp, 0, .any⟩, ⟨1, 1, .wp, 0, .any⟩, ⟨0, 1, .wp, 0, .any⟩]⟩,
   ⟨0x120014, 32, 32, 0x0, 0x40, [⟨24, 4, .rwBuf, 0, .any⟩, ⟨16, 4, .rwBuf, 0, .any⟩, ⟨9, 3, .rwBuf, 0, .any⟩, ⟨6, 3, .rwBuf, 0, .any⟩]⟩,
   ⟨0x120018, 32, 32, 0x0, 0x40, [⟨16, 8, .ro, 0, .any⟩, ⟨10, 1, .rc, 0, .any⟩, ⟨9, 1, .rc, 0, .any⟩, ⟨8, 1, .ro, 0, .any⟩, ⟨4, 4, .ro, 0, .any⟩, ⟨0, 3, .ro, 0, .any⟩]⟩,
   ⟨0x12001C, 32, 32, 0x0, 0x40, [⟨0, 20, .rwBuf, 0, .any⟩]⟩,
   ⟨0x120020, 32, 32, 0x0, 0x40, [⟨0, 32, .rwHw, 0, .any⟩]⟩,
   ⟨0x120028, 32, 32, 0x0, 0x40, [⟨0, 32, .ro, 0, .any⟩]⟩,
   ⟨0x12002C, 32, 32, 0x0, 0x40, [⟨0, 32, .ro, 0, .any⟩]⟩,
   ⟨0x122000, 16, 16, 0x0, 0x8, [⟨31, 1, .wp, 0, .any⟩, ⟨0, 16, .rwImm, 1, .range 1 65535⟩]⟩,
   ⟨0x122004, 16, 16, 0x0, 0x8, [⟨17, 1, .ro, 0, .any⟩, ⟨16, 1, .ro, 0, .any⟩, ⟨0, 16, .ro, 0, .any⟩]⟩,
   ⟨0x123000, 1, 1, 0x0, 0x0, [⟨0, 12, .rwBuf, 0x100, .range 16 4095⟩]⟩,
   ⟨0x123FEC, 1, 1, 0x0, 0x0, [⟨0, 1, .ro, 0, .any⟩]⟩,
   ⟨0x123FF0, 1, 1, 0x0, 0x0, [⟨0, 5, .rwImm, 0, .any⟩]⟩,
   ⟨0x123FF4, 1, 1, 0x0, 0x0, [⟨0, 8, .rc, 0, .any⟩]⟩,
   ⟨0x123FF8, 1, 1, 0x0, 0x0, [⟨0, 32, .ro, 0, .any⟩]⟩,
   ⟨0x123FFC, 1, 1, 0x0, 0x0, [⟨30, 2, .ro, 0, .any⟩, ⟨0, 4, .ro, 0, .any⟩]⟩]

/-- All registers of block DMA. -/
def rowsDma : List RegRow := rowsDma0

/-- Registers of block CHK (0). -/
def rowsChk0 : List RegRow :=
  [⟨0x130000, 16, 16, 0x0, 0x20, [⟨8, 5, .rwBuf, 0, .any⟩, ⟨1, 2, .rwBuf, 0, .resvAbove 2⟩, ⟨0, 1, .rwBuf, 0, .any⟩]⟩,
   ⟨0x130004, 16, 16, 0x0, 0x20, [⟨0, 32, .rwBuf, 0, .any⟩]⟩,
   ⟨0x130008, 16, 16, 0x0, 0x20, [⟨0, 1, .wp, 0, .any⟩]⟩,
   ⟨0x13000C, 16, 16, 0x0, 0x20, [⟨0, 32, .ro, 0, .any⟩]⟩,
   ⟨0x130010, 16, 16, 0x0, 0x20, [⟨0, 32, .ro, 0, .any⟩]⟩,
   ⟨0x130014, 16, 16, 0x0, 0x20, [⟨4, 1, .ro, 0, .any⟩, ⟨0, 4, .ro, 0, .any⟩]⟩,
   ⟨0x130018, 16, 16, 0x0, 0x20, [⟨0, 32, .ro, 0, .any⟩]⟩,
   ⟨0x13001C, 16, 16, 0x0, 0x20, [⟨16, 16, .rwHw, 0, .any⟩, ⟨1, 1, .ro, 0, .any⟩, ⟨0, 1, .rc, 0, .any⟩]⟩,
   ⟨0x133FEC, 1, 1, 0x0, 0x0, [⟨0, 1, .ro, 0, .any⟩]⟩,
   ⟨0x133FF0, 1, 1, 0x0, 0x0, [⟨0, 5, .rwImm, 0, .any⟩]⟩,
   ⟨0x133FF4, 1, 1, 0x0, 0x0, [⟨0, 8, .rc, 0, .any⟩]⟩,
   ⟨0x133FF8, 1, 1, 0x0, 0x0, [⟨0, 32, .ro, 0, .any⟩]⟩,
   ⟨0x133FFC, 1, 1, 0x0, 0x0, [⟨30, 2, .ro, 0, .any⟩, ⟨0, 4, .ro, 0, .any⟩]⟩]

/-- All registers of block CHK. -/
def rowsChk : List RegRow := rowsChk0

/-- Registers of block MEM (0). -/
def rowsMem0 : List RegRow :=
  [⟨0x140000, 1, 1, 0x0, 0x0, [⟨6, 2, .rwBuf, 0, .resvAbove 2⟩, ⟨4, 2, .rwBuf, 0, .resvAbove 2⟩, ⟨0, 1, .rwBuf, 1, .any⟩]⟩,
   ⟨0x140004, 1, 1, 0x0, 0x0, [⟨8, 2, .ro, 3, .any⟩, ⟨0, 2, .rwBuf, 3, .any⟩]⟩,
   ⟨0x140008, 1, 1, 0x0, 0x0, [⟨1, 1, .wp, 0, .any⟩, ⟨0, 1, .wp, 0, .any⟩]⟩,
   ⟨0x14000C, 1, 1, 0x0, 0x0, [⟨11, 1, .rc, 0, .any⟩, ⟨10, 1, .rc, 0, .any⟩, ⟨9, 1, .rc, 0, .any⟩, ⟨8, 1, .rc, 0, .any⟩, ⟨5, 1, .ro, 0, .any⟩, ⟨4, 1, .ro, 0, .any⟩, ⟨0, 3, .ro, 0, .any⟩]⟩,
   ⟨0x140010, 1, 1, 0x0, 0x0, [⟨0, 23, .ro, 0, .any⟩]⟩,
   ⟨0x140014, 1, 1, 0x0, 0x0, [⟨16, 12, .rwBuf, 0x100, .range 16 4095⟩, ⟨0, 12, .rwBuf, 0x400, .range 16 4095⟩]⟩,
   ⟨0x140018, 1, 1, 0x0, 0x0, [⟨16, 8, .rwBuf, 5, .range 1 20⟩, ⟨0, 16, .rwBuf, 0x64, .range 10 10000⟩]⟩,
   ⟨0x14001C, 1, 1, 0x0, 0x0, [⟨16, 16, .rwBuf, 0x4000, .range 12288 65535⟩, ⟨8, 8, .rwBuf, 0x20, .range 1 255⟩, ⟨0, 8, .rwBuf, 0xa, .range 1 255⟩]⟩,
   ⟨0x140020, 1, 1, 0x0, 0x0, [⟨26, 6, .ro, 0, .any⟩, ⟨20, 4, .ro, 0, .any⟩, ⟨16, 4, .ro, 0, .any⟩, ⟨0, 15, .ro, 0, .any⟩]⟩,
   ⟨0x140028, 1, 1, 0x0, 0x0, [⟨16, 8, .rwBuf, 4, .range 1 255⟩, ⟨0, 8, .rwBuf, 0x18, .range 1 255⟩]⟩,
   ⟨0x14002C, 1, 1, 0x0, 0x0, [⟨16, 16, .rwHw, 0, .any⟩, ⟨0, 16, .rwHw, 0, .any⟩]⟩,
   ⟨0x140030, 1, 1, 0x0, 0x0, [⟨20, 4, .ro, 0, .any⟩, ⟨16, 4, .ro, 0, .any⟩, ⟨0, 15, .ro, 0, .any⟩]⟩,
   ⟨0x141000, 8, 8, 0x0, 0x100, [⟨24, 8, .ro, 0, .any⟩, ⟨16, 8, .ro, 0, .any⟩, ⟨13, 1, .rc, 0, .any⟩, ⟨12, 1, .ro, 0, .any⟩, ⟨0, 10, .ro, 0, .any⟩]⟩,
   ⟨0x141004, 8, 8, 0x0, 0x100, [⟨16, 16, .rwHw, 0, .any⟩, ⟨0, 16, .rwHw, 0, .any⟩]⟩,
   ⟨0x143FEC, 1, 1, 0x0, 0x0, [⟨0, 1, .ro, 0, .any⟩]⟩,
   ⟨0x143FF0, 1, 1, 0x0, 0x0, [⟨0, 5, .rwImm, 0, .any⟩]⟩,
   ⟨0x143FF4, 1, 1, 0x0, 0x0, [⟨0, 8, .rc, 0, .any⟩]⟩,
   ⟨0x143FF8, 1, 1, 0x0, 0x0, [⟨0, 32, .ro, 0, .any⟩]⟩,
   ⟨0x143FFC, 1, 1, 0x0, 0x0, [⟨30, 2, .ro, 0, .any⟩, ⟨0, 4, .ro, 0, .any⟩]⟩]

/-- All registers of block MEM. -/
def rowsMem : List RegRow := rowsMem0

/-- Registers of block HPT (0). -/
def rowsHpt0 : List RegRow :=
  [⟨0x150000, 1, 1, 0x0, 0x0, [⟨16, 16, .ro, 0, .any⟩, ⟨13, 1, .ro, 0, .any⟩, ⟨12, 1, .ro, 0, .any⟩, ⟨4, 6, .ro, 0, .any⟩, ⟨0, 3, .ro, 0, .any⟩]⟩,
   ⟨0x150004, 1, 1, 0x0, 0x0, [⟨24, 8, .ro, 0, .any⟩, ⟨0, 6, .rwImm, 0, .any⟩]⟩,
   ⟨0x150008, 1, 1, 0x0, 0x0, [⟨0, 20, .rwBuf, 0x2710, .range 50 50000⟩]⟩,
   ⟨0x15000C, 1, 1, 0x0, 0x0, [⟨16, 16, .rwHw, 0, .any⟩, ⟨0, 16, .rwHw, 0, .any⟩]⟩,
   ⟨0x150100, 4, 4, 0x0, 0x4, [⟨0, 32, .rc, 0, .any⟩]⟩,
   ⟨0x150110, 4, 4, 0x0, 0x4, [⟨0, 32, .rwImm, 0, .any⟩]⟩,
   ⟨0x150200, 32, 32, 0x0, 0x4, [⟨24, 5, .rwImm, 0, .any⟩, ⟨16, 5, .rwImm, 0, .any⟩, ⟨8, 5, .rwImm, 0, .any⟩, ⟨0, 5, .rwImm, 0, .any⟩]⟩,
   ⟨0x150300, 32, 32, 0x0, 0x4, [⟨31, 1, .ro, 0, .any⟩, ⟨0, 16, .rwImm, 0, .any⟩]⟩,
   ⟨0x151000, 32, 32, 0x0, 0x10, [⟨0, 32, .rwImm, 0, .any⟩]⟩,
   ⟨0x151004, 32, 32, 0x0, 0x10, [⟨0, 32, .rwImm, 0, .any⟩]⟩,
   ⟨0x151008, 32, 32, 0x0, 0x10, [⟨0, 32, .rwImm, 0, .any⟩]⟩,
   ⟨0x15100C, 32, 32, 0x0, 0x10, [⟨0, 1, .rwImm, 1, .any⟩]⟩,
   ⟨0x151800, 1, 1, 0x0, 0x0, [⟨0, 32, .ro, 0, .any⟩]⟩,
   ⟨0x153FEC, 1, 1, 0x0, 0x0, [⟨0, 1, .ro, 0, .any⟩]⟩,
   ⟨0x153FF0, 1, 1, 0x0, 0x0, [⟨0, 5, .rwImm, 0, .any⟩]⟩,
   ⟨0x153FF4, 1, 1, 0x0, 0x0, [⟨0, 8, .rc, 0, .any⟩]⟩,
   ⟨0x153FF8, 1, 1, 0x0, 0x0, [⟨0, 32, .ro, 0, .any⟩]⟩,
   ⟨0x153FFC, 1, 1, 0x0, 0x0, [⟨30, 2, .ro, 0, .any⟩, ⟨0, 4, .ro, 0, .any⟩]⟩]

/-- All registers of block HPT. -/
def rowsHpt : List RegRow := rowsHpt0

/-- Registers of block SPT (0). -/
def rowsSpt0 : List RegRow :=
  [⟨0x160000, 1, 1, 0x0, 0x0, [⟨20, 1, .rwBuf, 1, .any⟩, ⟨16, 4, .rwBuf, 0, .any⟩, ⟨8, 4, .rwBuf, 8, .range 0 8⟩, ⟨4, 1, .rwBuf, 0, .any⟩, ⟨0, 2, .rwBuf, 2, .resvAbove 2⟩]⟩,
   ⟨0x160004, 1, 1, 0x0, 0x0, [⟨16, 7, .rwBuf, 0x20, .range 4 64⟩, ⟨0, 9, .rwBuf, 0, .any⟩]⟩,
   ⟨0x160008, 1, 1, 0x0, 0x0, [⟨4, 4, .wp, 0, .any⟩, ⟨0, 1, .wp, 0, .any⟩]⟩,
   ⟨0x16000C, 1, 1, 0x0, 0x0, [⟨6, 1, .rc, 0, .any⟩, ⟨5, 1, .rc, 0, .any⟩, ⟨4, 1, .ro, 0, .any⟩, ⟨0, 4, .ro, 0, .any⟩]⟩,
   ⟨0x160010, 1, 1, 0x0, 0x0, [⟨0, 16, .rwBuf, 0x64, .range 1 60000⟩]⟩,
   ⟨0x160100, 4, 4, 0x0, 0x40, [⟨16, 9, .rwBuf, 0x40, .range 1 256⟩, ⟨0, 1, .rwBuf, 0, .any⟩]⟩,
   ⟨0x160104, 4, 4, 0x0, 0x40, [⟨0, 32, .rwBuf, 1, .any⟩]⟩,
   ⟨0x160108, 4, 4, 0x0, 0x40, [⟨0, 32, .rwBuf, 0, .any⟩]⟩,
   ⟨0x16010C, 4, 4, 0x0, 0x40, [⟨0, 32, .rwBuf, 0, .any⟩]⟩,
   ⟨0x160110, 4, 4, 0x0, 0x40, [⟨0, 32, .rwBuf, 0, .any⟩]⟩,
   ⟨0x160114, 4, 4, 0x0, 0x40, [⟨0, 32, .rwBuf, 0, .any⟩]⟩,
   ⟨0x160118, 4, 4, 0x0, 0x40, [⟨0, 20, .rwBuf, 0, .any⟩]⟩,
   ⟨0x16011C, 4, 4, 0x0, 0x40, [⟨16, 8, .ro, 0, .any⟩, ⟨8, 6, .ro, 0, .any⟩, ⟨4, 3, .ro, 0, .any⟩, ⟨3, 1, .ro, 0, .any⟩, ⟨0, 3, .ro, 0, .any⟩]⟩,
   ⟨0x160120, 4, 4, 0x0, 0x40, [⟨16, 16, .ro, 0, .any⟩, ⟨8, 3, .ro, 0, .any⟩, ⟨0, 8, .ro, 0, .any⟩]⟩,
   ⟨0x160124, 4, 4, 0x0, 0x40, [⟨16, 16, .rwHw, 0, .any⟩, ⟨0, 16, .rwHw, 0, .any⟩]⟩,
   ⟨0x160130, 4, 4, 0x0, 0x40, [⟨0, 32, .ro, 0, .any⟩]⟩,
   ⟨0x160134, 4, 4, 0x0, 0x40, [⟨0, 32, .ro, 0, .any⟩]⟩,
   ⟨0x163FEC, 1, 1, 0x0, 0x0, [⟨0, 1, .ro, 0, .any⟩]⟩,
   ⟨0x163FF0, 1, 1, 0x0, 0x0, [⟨0, 5, .rwImm, 0, .any⟩]⟩,
   ⟨0x163FF4, 1, 1, 0x0, 0x0, [⟨0, 8, .rc, 0, .any⟩]⟩,
   ⟨0x163FF8, 1, 1, 0x0, 0x0, [⟨0, 32, .ro, 0, .any⟩]⟩,
   ⟨0x163FFC, 1, 1, 0x0, 0x0, [⟨30, 2, .ro, 0, .any⟩, ⟨0, 4, .ro, 0, .any⟩]⟩]

/-- All registers of block SPT. -/
def rowsSpt : List RegRow := rowsSpt0

end Sys2Proof.Machine
end

