-- ==== Sys2Proof/Machine/RegTableC.lean ====
section
/-! DEFINITION. The BAR0 register map as a table, part C: for every register (or register array) its base address,
the number of elements and how they are laid out, and every field with its place, access code (R10, R517), reset
value and the values the field refuses (R12). Transcribed from the register tables of spec/. -/

namespace Sys2Proof.Machine

/-- Registers of block AUX (0). -/
def rowsAux0 : List RegRow :=
  [⟨0x170000, 2, 2, 0x0, 0x4, [⟨8, 4, .rwBuf, 0, .any⟩, ⟨0, 1, .rwBuf, 0, .any⟩]⟩,
   ⟨0x170100, 32, 16, 0x40, 0x4, [⟨0, 5, .rwBuf, 0, .resvAbove 18⟩]⟩,
   ⟨0x170200, 32, 16, 0x40, 0x4, [⟨24, 8, .ro, 0, .any⟩, ⟨18, 1, .rc, 0, .any⟩, ⟨17, 1, .ro, 0, .any⟩, ⟨16, 1, .ro, 0, .any⟩, ⟨0, 16, .ro, 0, .any⟩]⟩,
   ⟨0x170300, 1, 1, 0x0, 0x0, [⟨16, 16, .rwBuf, 0x100, .any⟩, ⟨12, 4, .rwBuf, 4, .range 1 15⟩, ⟨8, 4, .rwBuf, 0, .any⟩, ⟨0, 1, .rwBuf, 0, .any⟩]⟩,
   ⟨0x170304, 1, 1, 0x0, 0x0, [⟨8, 1, .ro, 0, .any⟩, ⟨7, 1, .ro, 0, .any⟩, ⟨6, 1, .ro, 0, .any⟩, ⟨5, 1, .ro, 0, .any⟩, ⟨4, 1, .ro, 0, .any⟩, ⟨3, 1, .rc, 0, .any⟩, ⟨1, 1, .rc, 0, .any⟩, ⟨0, 1, .rc, 0, .any⟩]⟩,
   ⟨0x170308, 1, 1, 0x0, 0x0, [⟨0, 17, .ro, 0, .any⟩]⟩,
   ⟨0x170310, 1, 1, 0x0, 0x0, [⟨24, 5, .rwBuf, 0, .resvAbove 18⟩, ⟨16, 5, .rwBuf, 0, .resvAbove 18⟩, ⟨8, 2, .rwBuf, 0, .any⟩, ⟨4, 1, .rwBuf, 0, .any⟩]⟩,
   ⟨0x170314, 2, 2, 0x0, 0x4, [⟨17, 1, .ro, 0, .any⟩, ⟨16, 1, .ro, 0, .any⟩, ⟨0, 16, .ro, 0, .any⟩]⟩,
   ⟨0x17031C, 1, 1, 0x0, 0x0, [⟨0, 16, .rwHw, 0, .any⟩]⟩,
   ⟨0x170320, 1, 1, 0x0, 0x0, [⟨2, 1, .wp, 0, .any⟩, ⟨1, 1, .wp, 0, .any⟩, ⟨0, 1, .wp, 0, .any⟩]⟩,
   ⟨0x170330, 1, 1, 0x0, 0x0, [⟨0, 32, .ro, 0, .any⟩]⟩,
   ⟨0x170334, 1, 1, 0x0, 0x0, [⟨0, 32, .ro, 0, .any⟩]⟩,
   ⟨0x170338, 1, 1, 0x0, 0x0, [⟨0, 16, .ro, 0, .any⟩]⟩,
   ⟨0x170340, 1, 1, 0x0, 0x0, [⟨0, 32, .ro, 0, .any⟩]⟩,
   ⟨0x170344, 1, 1, 0x0, 0x0, [⟨0, 32, .ro, 0, .any⟩]⟩,
   ⟨0x170348, 1, 1, 0x0, 0x0, [⟨0, 16, .ro, 0, .any⟩]⟩,
   ⟨0x170400, 1, 1, 0x0, 0x0, [⟨24, 1, .rwImm, 0, .any⟩, ⟨16, 5, .rwImm, 0, .any⟩, ⟨8, 1, .rwImm, 0, .any⟩, ⟨0, 4, .rwImm, 0, .range 4 12⟩]⟩,
   ⟨0x170404, 1, 1, 0x0, 0x0, [⟨16, 16, .rwBuf, 0xf000, .any⟩, ⟨0, 16, .rwBuf, 0x1000, .any⟩]⟩,
   ⟨0x170408, 1, 1, 0x0, 0x0, [⟨0, 32, .ro, 0, .any⟩]⟩,
   ⟨0x170410, 1, 1, 0x0, 0x0, [⟨0, 32, .ro, 0, .any⟩]⟩,
   ⟨0x170414, 1, 1, 0x0, 0x0, [⟨0, 8, .ro, 0, .any⟩]⟩,
   ⟨0x170418, 1, 1, 0x0, 0x0, [⟨16, 16, .ro, 0, .any⟩, ⟨0, 16, .ro, 0, .any⟩]⟩,
   ⟨0x170500, 8, 8, 0x0, 0x4, [⟨0, 18, .rwHw, 0x10000, .range 0x8000 0x20000⟩]⟩,
   ⟨0x17053C, 1, 1, 0x0, 0x0, [⟨0, 18, .rwHw, 0x10000, .range 0x8000 0x20000⟩]⟩,
   ⟨0x170560, 8, 8, 0x0, 0x4, [⟨0, 18, .rwHw, 0x10000, .range 0x8000 0x20000⟩]⟩,
   ⟨0x170580, 8, 8, 0x0, 0x4, [⟨0, 18, .rwHw, 0, .any⟩]⟩,
   ⟨0x1705BC, 1, 1, 0x0, 0x0, [⟨0, 18, .rwHw, 0, .any⟩]⟩,
   ⟨0x1705E0, 8, 8, 0x0, 0x4, [⟨0, 18, .rwHw, 0, .any⟩]⟩,
   ⟨0x170600, 1, 1, 0x0, 0x0, [⟨16, 1, .rwBuf, 0, .any⟩, ⟨0, 12, .rwBuf, 0, .any⟩]⟩,
   ⟨0x170604, 1, 1, 0x0, 0x0, [⟨31, 1, .wp, 0, .any⟩, ⟨30, 1, .wp, 0, .any⟩, ⟨24, 1, .rwBuf, 0, .any⟩, ⟨16, 5, .rwBuf, 0, .any⟩, ⟨8, 8, .rwBuf, 0xa, .range 1 255⟩, ⟨0, 2, .rwBuf, 3, .any⟩]⟩]

/-- Registers of block AUX (1). -/
def rowsAux1 : List RegRow :=
  [⟨0x170608, 1, 1, 0x0, 0x0, [⟨16, 16, .rwBuf, 0, .any⟩, ⟨0, 16, .rwBuf, 0, .any⟩]⟩,
   ⟨0x17060C, 1, 1, 0x0, 0x0, [⟨0, 16, .rwBuf, 0x40, .any⟩]⟩,
   ⟨0x170610, 2, 2, 0x0, 0x4, [⟨17, 1, .ro, 0, .any⟩, ⟨16, 1, .rc, 0, .any⟩, ⟨0, 16, .ro, 0, .any⟩]⟩,
   ⟨0x170700, 4, 4, 0x0, 0x8, [⟨16, 2, .rwBuf, 0, .resvAbove 2⟩, ⟨0, 16, .rwBuf, 0, .any⟩]⟩,
   ⟨0x170704, 4, 4, 0x0, 0x8, [⟨0, 16, .rwBuf, 0, .any⟩]⟩,
   ⟨0x170780, 4, 4, 0x0, 0x10, [⟨20, 2, .rwBuf, 0, .resvAbove 2⟩, ⟨16, 1, .rwBuf, 0, .any⟩, ⟨0, 16, .rwBuf, 0x2710, .range 100 65535⟩]⟩,
   ⟨0x170784, 4, 4, 0x0, 0x10, [⟨0, 16, .rwBuf, 0, .any⟩]⟩,
   ⟨0x170788, 4, 4, 0x0, 0x10, [⟨0, 16, .rwBuf, 0, .any⟩]⟩,
   ⟨0x170800, 8, 8, 0x0, 0x20, [⟨16, 5, .rwBuf, 0x1f, .range 7 31⟩, ⟨8, 8, .rwBuf, 4, .range 1 255⟩, ⟨3, 1, .rwBuf, 0, .any⟩, ⟨1, 2, .rwBuf, 0, .any⟩, ⟨0, 1, .rwBuf, 0, .any⟩]⟩,
   ⟨0x170804, 8, 8, 0x0, 0x20, [⟨0, 32, .rwImm, 0, .any⟩]⟩,
   ⟨0x170808, 8, 8, 0x0, 0x20, [⟨0, 32, .ro, 0, .any⟩]⟩,
   ⟨0x17080C, 8, 8, 0x0, 0x20, [⟨0, 1, .wp, 0, .any⟩]⟩,
   ⟨0x170810, 8, 8, 0x0, 0x20, [⟨2, 1, .ro, 0, .any⟩, ⟨1, 1, .rc, 0, .any⟩, ⟨0, 1, .ro, 0, .any⟩]⟩,
   ⟨0x170A00, 128, 16, 0x40, 0x4, [⟨0, 32, .rwBuf, 0, .any⟩]⟩,
   ⟨0x173FEC, 1, 1, 0x0, 0x0, [⟨0, 1, .ro, 0, .any⟩]⟩,
   ⟨0x173FF0, 1, 1, 0x0, 0x0, [⟨0, 5, .rwImm, 0, .any⟩]⟩,
   ⟨0x173FF4, 1, 1, 0x0, 0x0, [⟨0, 8, .rc, 0, .any⟩]⟩,
   ⟨0x173FF8, 1, 1, 0x0, 0x0, [⟨0, 32, .ro, 0, .any⟩]⟩,
   ⟨0x173FFC, 1, 1, 0x0, 0x0, [⟨30, 2, .ro, 0, .any⟩, ⟨0, 4, .ro, 0, .any⟩]⟩]

/-- All registers of block AUX. -/
def rowsAux : List RegRow := rowsAux0 ++ rowsAux1

/-- Registers of block SRV (0). -/
def rowsSrv0 : List RegRow :=
  [⟨0x180000, 4, 4, 0x0, 0x40, [⟨24, 8, .rwBuf, 0, .any⟩, ⟨16, 4, .rwBuf, 0, .any⟩, ⟨12, 1, .rwBuf, 0, .any⟩, ⟨8, 3, .rwBuf, 0, .any⟩, ⟨4, 1, .rwBuf, 0, .any⟩, ⟨3, 1, .rwBuf, 0, .any⟩, ⟨2, 1, .rwBuf, 0, .any⟩, ⟨0, 2, .rwBuf, 0, .resvAbove 2⟩]⟩,
   ⟨0x180004, 4, 4, 0x0, 0x40, [⟨16, 16, .rwBuf, 0, .any⟩, ⟨0, 16, .rwBuf, 0, .any⟩]⟩,
   ⟨0x180008, 4, 4, 0x0, 0x40, [⟨0, 18, .rwBuf, 0, .any⟩]⟩,
   ⟨0x18000C, 4, 4, 0x0, 0x40, [⟨0, 18, .rwBuf, 0, .any⟩]⟩,
   ⟨0x180010, 4, 4, 0x0, 0x40, [⟨24, 3, .rwBuf, 0, .any⟩, ⟨0, 18, .rwBuf, 0, .any⟩]⟩,
   ⟨0x180014, 4, 4, 0x0, 0x40, [⟨0, 18, .rwBuf, 0, .any⟩]⟩,
   ⟨0x180018, 4, 4, 0x0, 0x40, [⟨0, 18, .rwBuf, 0, .any⟩]⟩,
   ⟨0x18001C, 4, 4, 0x0, 0x40, [⟨16, 16, .rwBuf, 0xffff, .any⟩, ⟨0, 16, .rwBuf, 0, .any⟩]⟩,
   ⟨0x180020, 4, 4, 0x0, 0x40, [⟨16, 8, .rwBuf, 0x10, .range 1 255⟩, ⟨0, 16, .rwBuf, 0, .any⟩]⟩,
   ⟨0x180024, 4, 4, 0x0, 0x40, [⟨16, 8, .rwBuf, 8, .range 1 255⟩, ⟨0, 16, .rwBuf, 0x40, .any⟩]⟩,
   ⟨0x180028, 4, 4, 0x0, 0x40, [⟨0, 1, .wp, 0, .any⟩]⟩,
   ⟨0x18002C, 4, 4, 0x0, 0x40, [⟨6, 1, .rc, 0, .any⟩, ⟨5, 1, .ro, 0, .any⟩, ⟨4, 1, .ro, 0, .any⟩, ⟨0, 3, .ro, 0, .any⟩]⟩,
   ⟨0x180030, 4, 4, 0x0, 0x40, [⟨0, 16, .ro, 0, .any⟩]⟩,
   ⟨0x180034, 4, 4, 0x0, 0x40, [⟨0, 17, .ro, 0, .any⟩]⟩,
   ⟨0x180038, 4, 4, 0x0, 0x40, [⟨0, 18, .ro, 0, .any⟩]⟩,
   ⟨0x18003C, 4, 4, 0x0, 0x40, [⟨16, 16, .rwHw, 0, .any⟩, ⟨0, 16, .rwHw, 0, .any⟩]⟩,
   ⟨0x180200, 1, 1, 0x0, 0x0, [⟨0, 1, .rwBuf, 0, .any⟩]⟩,
   ⟨0x180204, 1, 1, 0x0, 0x0, [⟨16, 16, .rwHw, 0, .any⟩, ⟨0, 1, .ro, 1, .any⟩]⟩,
   ⟨0x180300, 1, 1, 0x0, 0x0, [⟨24, 8, .rwBuf, 0, .any⟩, ⟨20, 1, .rwBuf, 0, .any⟩, ⟨17, 1, .rwBuf, 0, .any⟩, ⟨16, 1, .rwBuf, 0, .any⟩, ⟨12, 4, .rwBuf, 0, .any⟩, ⟨8, 4, .rwBuf, 0, .any⟩, ⟨4, 2, .rwBuf, 0, .any⟩, ⟨0, 1, .rwBuf, 0, .any⟩]⟩,
   ⟨0x180304, 1, 1, 0x0, 0x0, [⟨2, 1, .wp, 0, .any⟩, ⟨1, 1, .wp, 0, .any⟩, ⟨0, 1, .wp, 0, .any⟩]⟩,
   ⟨0x180308, 1, 1, 0x0, 0x0, [⟨20, 4, .ro, 0, .any⟩, ⟨17, 1, .rc, 0, .any⟩, ⟨16, 1, .rc, 0, .any⟩, ⟨8, 8, .ro, 0, .any⟩, ⟨4, 4, .ro, 0, .any⟩, ⟨0, 3, .ro, 0, .any⟩]⟩,
   ⟨0x180310, 1, 1, 0x0, 0x0, [⟨0, 32, .rwBuf, 0, .any⟩]⟩,
   ⟨0x180314, 1, 1, 0x0, 0x0, [⟨0, 32, .rwBuf, 0, .any⟩]⟩,
   ⟨0x180318, 1, 1, 0x0, 0x0, [⟨0, 16, .rwBuf, 0, .any⟩]⟩,
   ⟨0x180320, 1, 1, 0x0, 0x0, [⟨0, 19, .rwBuf, 0, .any⟩]⟩,
   ⟨0x180324, 1, 1, 0x0, 0x0, [⟨0, 13, .rwBuf, 0x10, .range 2 4096⟩]⟩,
   ⟨0x180328, 1, 1, 0x0, 0x0, [⟨0, 32, .ro, 0, .any⟩]⟩,
   ⟨0x180400, 16, 16, 0x0, 0x20, [⟨0, 24, .rwBuf, 0xc8, .range 1 16777215⟩]⟩,
   ⟨0x180404, 16, 16, 0x0, 0x20, [⟨0, 24, .rwBuf, 0x64, .any⟩]⟩,
   ⟨0x180408, 16, 16, 0x0, 0x20, [⟨0, 16, .rwBuf, 1, .range 1 65535⟩]⟩]

/-- Registers of block SRV (1). -/
def rowsSrv1 : List RegRow :=
  [⟨0x18040C, 16, 16, 0x0, 0x20, [⟨16, 16, .rwBuf, 0, .any⟩, ⟨0, 16, .rwBuf, 0, .any⟩]⟩,
   ⟨0x180410, 16, 16, 0x0, 0x20, [⟨16, 16, .rwBuf, 0, .any⟩, ⟨0, 16, .rwBuf, 0, .any⟩]⟩,
   ⟨0x180414, 16, 16, 0x0, 0x20, [⟨8, 8, .rwBuf, 0, .any⟩, ⟨3, 1, .rwBuf, 0, .any⟩, ⟨0, 3, .rwBuf, 0, .any⟩]⟩,
   ⟨0x180418, 16, 16, 0x0, 0x20, [⟨0, 24, .ro, 0, .any⟩]⟩,
   ⟨0x183FEC, 1, 1, 0x0, 0x0, [⟨0, 1, .ro, 0, .any⟩]⟩,
   ⟨0x183FF0, 1, 1, 0x0, 0x0, [⟨0, 5, .rwImm, 0, .any⟩]⟩,
   ⟨0x183FF4, 1, 1, 0x0, 0x0, [⟨0, 8, .rc, 0, .any⟩]⟩,
   ⟨0x183FF8, 1, 1, 0x0, 0x0, [⟨0, 32, .ro, 0, .any⟩]⟩,
   ⟨0x183FFC, 1, 1, 0x0, 0x0, [⟨30, 2, .ro, 0, .any⟩, ⟨0, 4, .ro, 0, .any⟩]⟩]

/-- All registers of block SRV. -/
def rowsSrv : List RegRow := rowsSrv0 ++ rowsSrv1

/-- Registers of block CST (0). -/
def rowsCst0 : List RegRow :=
  [⟨0x190000, 1, 1, 0x0, 0x0, [⟨16, 6, .rwBuf, 0, .any⟩, ⟨8, 4, .rwBuf, 9, .range 1 9⟩, ⟨2, 1, .rwBuf, 0, .any⟩, ⟨1, 1, .rwBuf, 0, .any⟩, ⟨0, 1, .rwBuf, 0, .any⟩]⟩,
   ⟨0x190004, 1, 1, 0x0, 0x0, [⟨31, 1, .ro, 0, .any⟩, ⟨16, 6, .ro, 0, .any⟩, ⟨0, 14, .ro, 0, .any⟩]⟩,
   ⟨0x190008, 1, 1, 0x0, 0x0, [⟨5, 1, .ro, 0, .any⟩, ⟨4, 1, .ro, 0, .any⟩, ⟨3, 1, .ro, 0, .any⟩, ⟨2, 1, .rc, 0, .any⟩, ⟨1, 1, .ro, 0, .any⟩, ⟨0, 1, .ro, 0, .any⟩]⟩,
   ⟨0x19000C, 1, 1, 0x0, 0x0, [⟨0, 15, .ro, 0, .any⟩]⟩,
   ⟨0x190010, 1, 1, 0x0, 0x0, [⟨0, 32, .ro, 0, .any⟩]⟩,
   ⟨0x190014, 1, 1, 0x0, 0x0, [⟨0, 12, .ro, 0, .any⟩]⟩,
   ⟨0x190100, 4, 4, 0x0, 0x10, [⟨16, 16, .rwImm, 0, .any⟩, ⟨0, 1, .rwImm, 0, .any⟩]⟩,
   ⟨0x190104, 4, 4, 0x0, 0x10, [⟨8, 4, .ro, 0, .any⟩, ⟨0, 2, .ro, 0, .any⟩]⟩,
   ⟨0x190108, 4, 4, 0x0, 0x10, [⟨0, 21, .ro, 0, .any⟩]⟩,
   ⟨0x19010C, 4, 4, 0x0, 0x10, [⟨16, 16, .rwHw, 0, .any⟩, ⟨0, 16, .rwHw, 0, .any⟩]⟩,
   ⟨0x190200, 1, 1, 0x0, 0x0, [⟨8, 1, .wp, 0, .any⟩, ⟨6, 1, .wp, 0, .any⟩, ⟨5, 1, .wp, 0, .any⟩, ⟨4, 1, .wp, 0, .any⟩, ⟨3, 1, .wp, 0, .any⟩, ⟨2, 1, .wp, 0, .any⟩, ⟨1, 1, .wp, 0, .any⟩]⟩,
   ⟨0x190204, 1, 1, 0x0, 0x0, [⟨0, 24, .rwBuf, 0x3e8, .range 10 16777215⟩]⟩,
   ⟨0x190208, 1, 1, 0x0, 0x0, [⟨0, 32, .rwBuf, 0, .any⟩]⟩,
   ⟨0x190210, 5, 5, 0x0, 0x4, [⟨31, 1, .ro, 0, .any⟩, ⟨30, 1, .rc, 0, .any⟩, ⟨16, 14, .ro, 0, .any⟩, ⟨0, 8, .ro, 0, .any⟩]⟩,
   ⟨0x190230, 1, 1, 0x0, 0x0, [⟨0, 32, .rwBuf, 0, .any⟩]⟩,
   ⟨0x190234, 1, 1, 0x0, 0x0, [⟨0, 32, .rwBuf, 0, .any⟩]⟩,
   ⟨0x190238, 1, 1, 0x0, 0x0, [⟨0, 16, .rwBuf, 0, .any⟩]⟩,
   ⟨0x190240, 1, 1, 0x0, 0x0, [⟨0, 32, .ro, 0, .any⟩]⟩,
   ⟨0x190244, 1, 1, 0x0, 0x0, [⟨0, 32, .ro, 0, .any⟩]⟩,
   ⟨0x190248, 1, 1, 0x0, 0x0, [⟨0, 16, .ro, 0, .any⟩]⟩,
   ⟨0x190300, 8, 8, 0x0, 0x4, [⟨0, 32, .rwBuf, 0, .any⟩]⟩,
   ⟨0x190320, 8, 8, 0x0, 0x4, [⟨0, 32, .ro, 0, .any⟩]⟩,
   ⟨0x190340, 1, 1, 0x0, 0x0, [⟨16, 14, .ro, 0, .any⟩, ⟨8, 1, .rc, 0, .any⟩, ⟨0, 5, .ro, 0, .any⟩]⟩,
   ⟨0x190400, 1, 1, 0x0, 0x0, [⟨0, 19, .rwBuf, 0, .any⟩]⟩,
   ⟨0x193FEC, 1, 1, 0x0, 0x0, [⟨0, 1, .ro, 0, .any⟩]⟩,
   ⟨0x193FF0, 1, 1, 0x0, 0x0, [⟨0, 5, .rwImm, 0, .any⟩]⟩,
   ⟨0x193FF4, 1, 1, 0x0, 0x0, [⟨0, 8, .rc, 0, .any⟩]⟩,
   ⟨0x193FF8, 1, 1, 0x0, 0x0, [⟨0, 32, .ro, 0, .any⟩]⟩,
   ⟨0x193FFC, 1, 1, 0x0, 0x0, [⟨30, 2, .ro, 0, .any⟩, ⟨0, 4, .ro, 0, .any⟩]⟩]

/-- All registers of block CST. -/
def rowsCst : List RegRow := rowsCst0

/-- Registers of block UPD (0). -/
def rowsUpd0 : List RegRow :=
  [⟨0x1A0000, 1, 1, 0x0, 0x0, [⟨0, 16, .rwImm, 0xe10, .any⟩]⟩,
   ⟨0x1A0004, 1, 1, 0x0, 0x0, [⟨6, 1, .wp, 0, .any⟩, ⟨5, 1, .wp, 0, .any⟩, ⟨4, 1, .wp, 0, .any⟩, ⟨3, 1, .wp, 0, .any⟩, ⟨2, 1, .wp, 0, .any⟩, ⟨1, 1, .wp, 0, .any⟩, ⟨0, 1, .wp, 0, .any⟩]⟩,
   ⟨0x1A0008, 1, 1, 0x0, 0x0, [⟨30, 2, .rwImm, 0, .resvAbove 2⟩, ⟨0, 30, .rwImm, 0, .any⟩]⟩,
   ⟨0x1A000C, 1, 1, 0x0, 0x0, [⟨0, 9, .rwImm, 0, .range 0 270⟩]⟩,
   ⟨0x1A0010, 1, 1, 0x0, 0x0, [⟨31, 1, .wp, 0, .any⟩, ⟨0, 1, .rwImm, 0, .any⟩]⟩,
   ⟨0x1A0014, 1, 1, 0x0, 0x0, [⟨24, 8, .ro, 0, .any⟩, ⟨16, 2, .ro, 0, .any⟩, ⟨12, 2, .ro, 3, .any⟩, ⟨8, 3, .ro, 0, .any⟩, ⟨4, 1, .ro, 0, .any⟩, ⟨3, 1, .ro, 0, .any⟩, ⟨2, 1, .ro, 0, .any⟩, ⟨0, 1, .ro, 0, .any⟩]⟩,
   ⟨0x1A0018, 1, 1, 0x0, 0x0, [⟨0, 32, .ro, 0, .any⟩]⟩,
   ⟨0x1A001C, 1, 1, 0x0, 0x0, [⟨0, 32, .ro, 0, .any⟩]⟩,
   ⟨0x1A0020, 1, 1, 0x0, 0x0, [⟨24, 8, .ro, 0, .any⟩, ⟨0, 24, .ro, 0, .any⟩]⟩,
   ⟨0x1A0024, 1, 1, 0x0, 0x0, [⟨24, 8, .ro, 0, .any⟩, ⟨0, 24, .ro, 0, .any⟩]⟩,
   ⟨0x1A0030, 2, 2, 0x0, 0x4, [⟨8, 24, .ro, 0, .any⟩, ⟨0, 8, .ro, 0, .any⟩]⟩,
   ⟨0x1A0040, 1, 1, 0x0, 0x0, [⟨24, 8, .ro, 0, .any⟩, ⟨16, 8, .ro, 0, .any⟩, ⟨8, 1, .ro, 0, .any⟩, ⟨0, 1, .ro, 0, .any⟩]⟩,
   ⟨0x1A0044, 1, 1, 0x0, 0x0, [⟨16, 16, .rwHw, 0, .any⟩, ⟨0, 16, .rwHw, 0, .any⟩]⟩,
   ⟨0x1A0048, 1, 1, 0x0, 0x0, [⟨0, 16, .ro, 0, .any⟩]⟩,
   ⟨0x1A004C, 1, 1, 0x0, 0x0, [⟨0, 32, .ro, 0, .any⟩]⟩,
   ⟨0x1A3FF4, 1, 1, 0x0, 0x0, [⟨0, 8, .rc, 0, .any⟩]⟩,
   ⟨0x1A3FF8, 1, 1, 0x0, 0x0, [⟨0, 32, .ro, 0, .any⟩]⟩,
   ⟨0x1A3FFC, 1, 1, 0x0, 0x0, [⟨30, 2, .ro, 0, .any⟩, ⟨0, 4, .ro, 0, .any⟩]⟩]

/-- All registers of block UPD. -/
def rowsUpd : List RegRow := rowsUpd0

/-- Registers of block FLT (0). -/
def rowsFlt0 : List RegRow :=
  [⟨0x1B0000, 1, 1, 0x0, 0x0, [⟨0, 10, .ro, 0, .any⟩]⟩,
   ⟨0x1B0004, 1, 1, 0x0, 0x0, [⟨16, 10, .wp, 0, .any⟩, ⟨0, 1, .wp, 0, .any⟩]⟩,
   ⟨0x1B0010, 8, 8, 0x0, 0x4, [⟨0, 32, .ro, 0, .any⟩]⟩,
   ⟨0x1B0030, 1, 1, 0x0, 0x0, [⟨16, 16, .rwHw, 0, .any⟩, ⟨12, 1, .rc, 0, .any⟩, ⟨0, 9, .ro, 0, .any⟩]⟩,
   ⟨0x1B0034, 1, 1, 0x0, 0x0, [⟨16, 16, .rwHw, 0, .any⟩, ⟨0, 16, .rwHw, 0, .any⟩]⟩,
   ⟨0x1B0038, 1, 1, 0x0, 0x0, [⟨0, 32, .ro, 0, .any⟩]⟩,
   ⟨0x1B0040, 1, 1, 0x0, 0x0, [⟨16, 8, .rwImm, 4, .range 1 255⟩, ⟨0, 8, .rwImm, 8, .range 1 255⟩]⟩,
   ⟨0x1B0044, 1, 1, 0x0, 0x0, [⟨16, 16, .rwHw, 0, .any⟩, ⟨0, 16, .rwHw, 0, .any⟩]⟩,
   ⟨0x1B0048, 1, 1, 0x0, 0x0, [⟨8, 1, .ro, 0, .any⟩, ⟨0, 5, .ro, 0, .any⟩]⟩,
   ⟨0x1B004C, 1, 1, 0x0, 0x0, [⟨0, 16, .ro, 0, .any⟩]⟩,
   ⟨0x1B0050, 1, 1, 0x0, 0x0, [⟨0, 10, .rwImm, 0x64, .range 10 1000⟩]⟩,
   ⟨0x1B0054, 1, 1, 0x0, 0x0, [⟨16, 8, .ro, 0, .any⟩, ⟨0, 8, .rwImm, 0x64, .range 70 110⟩]⟩,
   ⟨0x1B0060, 1, 1, 0x0, 0x0, [⟨16, 16, .ro, 0, .any⟩, ⟨4, 9, .ro, 0, .any⟩, ⟨0, 1, .ro, 0, .any⟩]⟩,
   ⟨0x1B3FF4, 1, 1, 0x0, 0x0, [⟨0, 8, .rc, 0, .any⟩]⟩,
   ⟨0x1B3FF8, 1, 1, 0x0, 0x0, [⟨0, 32, .ro, 0, .any⟩]⟩,
   ⟨0x1B3FFC, 1, 1, 0x0, 0x0, [⟨30, 2, .ro, 0, .any⟩, ⟨0, 4, .ro, 0, .any⟩]⟩]

/-- All registers of block FLT. -/
def rowsFlt : List RegRow := rowsFlt0

end Sys2Proof.Machine
end

