-- ==== Sys2Proof/Machine/RegMap.lean ====
section
/-! DEFINITION. Looking an address up in the BAR0 register map (R41): which register row an address belongs to, its
reset word, and the bits of it that are buffered, readable, writable. -/

namespace Sys2Proof.Machine

/-- The register block that owns a BAR0 window, named by its first window (R41): DDC spans 0x06 and 0x07, FFT 0x08
and 0x09. -/
def blockOfWindow (w : Nat) : Nat := if w = 7 then 6 else if w = 9 then 8 else w

/-- The register rows of the block with first window `w`; none for the unimplemented windows (R42). -/
def rowsOfBlock (w : Nat) : List RegRow :=
  match w with
  | 0x00 => rowsSys | 0x01 => rowsPwr | 0x02 => rowsClk | 0x03 => rowsAlm | 0x04 => rowsLnk | 0x05 => rowsFcv
  | 0x06 => rowsDdc | 0x08 => rowsFft | 0x0A => rowsTrg | 0x0B => rowsAcq | 0x0C => rowsNeb | 0x0E => rowsDpy
  | 0x10 => rowsLod | 0x12 => rowsDma | 0x13 => rowsChk | 0x14 => rowsMem | 0x15 => rowsHpt | 0x16 => rowsSpt
  | 0x17 => rowsAux | 0x18 => rowsSrv | 0x19 => rowsCst | 0x1A => rowsUpd | 0x1B => rowsFlt
  | _ => []

/-- The first windows of the implemented blocks, in ascending address. -/
def blocks : List Nat :=
  [0x00, 0x01, 0x02, 0x03, 0x04, 0x05, 0x06, 0x08, 0x0A, 0x0B, 0x0C, 0x0E, 0x10, 0x12, 0x13, 0x14, 0x15, 0x16, 0x17,
   0x18, 0x19, 0x1A, 0x1B]

/-- A BAR0 window number is implemented (R42). -/
def windowImplemented (w : Nat) : Bool := (blocks.contains w) || w == 7 || w == 9

/-- The address of element i of a register row. -/
def RegRow.elem (r : RegRow) (i : Nat) : Nat := r.base + i / r.grp * r.outer + i % r.grp * r.inner

/-- Which element of the row stands at address `a`, if one does. -/
def RegRow.index? (r : RegRow) (a : Nat) : Option Nat :=
  if a < r.base then none
  else
    let d := a - r.base
    let q := if r.outer = 0 then 0 else d / r.outer
    let m := d - q * r.outer
    let p := if r.inner = 0 then 0 else m / r.inner
    let i := q * r.grp + p
    if p < r.grp ∧ i < r.cnt ∧ r.elem i = a then some i else none

/-- The register row that holds address `a` (normal view), if `a` is an implemented register. -/
def regRow? (a : Nat) : Option RegRow :=
  (rowsOfBlock (blockOfWindow (a / 0x10000))).find? (fun r => (r.index? a).isSome)

/-- The bits of a field as a mask in its word. -/
def FieldRow.mask (f : FieldRow) : Nat := (2 ^ f.n - 1) * 2 ^ f.lo

/-- The fields of the register at `a`; none where no register stands. -/
def fieldsAt (a : Nat) : List FieldRow := match regRow? a with | some r => r.fields | none => []

/-- The word a register holds at reset (R518: both copies hold the reset values). -/
def resetWord (a : Nat) : Word := BitVec.ofNat 32 ((fieldsAt a).foldl (fun w f => w + f.rst * 2 ^ f.lo) 0)

/-- The bits of the register at `a` whose fields satisfy `p`. -/
def maskOf (p : Acc → Bool) (a : Nat) : Word :=
  BitVec.ofNat 32 ((fieldsAt a).foldl (fun w f => if p f.acc then w + f.mask else w) 0)

/-- Buffered and shadow bits: the bits that have an applied copy (R517). -/
def Acc.twoCopies : Acc → Bool
  | .rwBuf => true | .rwShadow => true | _ => false

/-- Bits software can write as RW (plain, shadow, immediate or +H): the bits the aliases act on (R512). -/
def Acc.isRw : Acc → Bool
  | .rwBuf => true | .rwShadow => true | .rwImm => true | .rwHw => true | _ => false

/-- Access codes whose field reads 0 (R10). -/
def Acc.readsZero : Acc → Bool
  | .wo => true | .wp => true | _ => false

/-- The bits of register `a` that have an applied copy. -/
def bufMask (a : Nat) : Word := maskOf Acc.twoCopies a

/-- Every address of an implemented register of the block with first window `w`, in the order of its table. -/
def addrsOfBlock (w : Nat) : List Nat :=
  (rowsOfBlock w).flatMap (fun r => (List.range r.cnt).map r.elem)

end Sys2Proof.Machine
end

