-- ==== Sys2Proof/Machine/Sparse.lean ====
section
/-! DEFINITION. Sparse maps: lists of (key, value) pairs in one canonical form, keys strictly rising and no entry equal
to what an unlisted key reads as. Registers, SRAM, GDDR6 and flash are held so. -/

namespace Sys2Proof.Machine

/-- A sparse map from addresses to values. -/
abbrev SMap (α : Type) := List (Nat × α)

/-- The entry at key `k`, if listed. -/
def SMap.find {α : Type} : SMap α → Nat → Option α
  | [], _ => none
  | (a, v) :: m, k => if a = k then some v else SMap.find m k

/-- The value at key `k`, where an unlisted key reads as `d k`. -/
def SMap.get {α : Type} (d : Nat → α) (m : SMap α) (k : Nat) : α := (SMap.find m k).getD (d k)

/-- Remove every entry at key `k`. -/
def SMap.erase {α : Type} : SMap α → Nat → SMap α
  | [], _ => []
  | (a, v) :: m, k => if a = k then SMap.erase m k else (a, v) :: SMap.erase m k

/-- Insert an entry before the first larger key. -/
def SMap.insert {α : Type} : SMap α → Nat → α → SMap α
  | [], k, v => [(k, v)]
  | (a, w) :: m, k, v => if k < a then (k, v) :: (a, w) :: m else (a, w) :: SMap.insert m k v

/-- Write `v` at key `k`: writing the value an unlisted key reads as removes the entry. -/
def SMap.set {α : Type} [DecidableEq α] (d : Nat → α) (m : SMap α) (k : Nat) (v : α) : SMap α :=
  if v = d k then SMap.erase m k else SMap.insert (SMap.erase m k) k v

/-- Every key of `m` is above `b`. -/
def SMap.above {α : Type} (b : Nat) : SMap α → Bool
  | [] => true
  | (a, _) :: m => decide (b < a) && SMap.above b m

/-- The canonical form: keys strictly rising, no entry equal to what its unlisted key reads as. -/
def SMap.wf {α : Type} [DecidableEq α] (d : Nat → α) : SMap α → Bool
  | [] => true
  | (a, v) :: m => SMap.above a m && decide (v ≠ d a) && SMap.wf d m

/-- The listed keys. -/
def SMap.keys {α : Type} (m : SMap α) : List Nat := m.map (·.1)

end Sys2Proof.Machine
end

