-- ==== Sys2Proof/Machine/Types.lean ====
section
/-! DEFINITION. Small types shared by the state and the operations: error codes, device states, FLT events. -/

namespace Sys2Proof.Machine

/-- The error codes of R13, OK apart. -/
inductive Err where
  | range | reserved | locked | width | align | domainOff | deadline | busy | check | signature | sequence
  | resource | conflict | unmapped | timeout
deriving DecidableEq, Repr

/-- The 8-bit code of an error (R13). -/
def Err.code : Err → Nat
  | .range => 0x01 | .reserved => 0x02 | .locked => 0x03 | .width => 0x04 | .align => 0x05 | .domainOff => 0x06
  | .deadline => 0x07 | .busy => 0x08 | .check => 0x09 | .signature => 0x0A | .sequence => 0x0B | .resource => 0x0C
  | .conflict => 0x0D | .unmapped => 0x0E | .timeout => 0x0F

/-- Device state codes of R16. -/
abbrev powerOff : Nat := 0
abbrev boot : Nat := 1
abbrev load : Nat := 2
abbrev run : Nat := 3
abbrev degraded : Nat := 4
abbrev halt : Nat := 5

/-- The space of a rejected access (R533, R534). -/
inductive Space where
  | bar0 | operation | bar2 | bar4
deriving DecidableEq, Repr

/-- The SPACE code. -/
def Space.code : Space → Nat
  | .bar0 => 0 | .operation => 1 | .bar2 => 2 | .bar4 => 3

/-- FLT event classes of R565. -/
inductive FltClass where
  | info | recoverable | fatal
deriving DecidableEq, Repr

/-- The CLASS code of R566. -/
def FltClass.code : FltClass → Nat
  | .info => 0 | .recoverable => 1 | .fatal => 2

/-- A fault record (R566), word for word: REPEAT and SEQ are apart because they change. -/
structure FltRec where
  /-- event code (R567) -/
  code : Nat
  cls : FltClass
  sub : Nat
  /-- BAR0 address bits 23:16 of the raising block -/
  window : Nat
  rep : Nat
  /-- fault location code (R35) -/
  location : Nat
  stamp : Stamp
  tq : Nat
  detail : Nat
  seq : Nat
  /-- device state code after the event -/
  devState : Nat
  /-- FLT_ACTIVE after the event -/
  active : Nat
deriving DecidableEq, Repr

/-- An entry of SYS_ERR_LOG (R533). -/
structure ErrEntry where
  w0 : Word
  w1 : Word
  w2 : Word
  w3 : Word
deriving DecidableEq, Repr

/-- A complex sample as FCV or a DDC delivers it, with its flags (R129, R130, R152). -/
structure OutSample where
  stamp : Stamp
  i : Int
  q : Int
  ovr : Bool
  thr : Bool
  dsat : Bool
deriving DecidableEq, Repr

/-- The record of an accepted trigger (R244). -/
structure TrgRec where
  cause : Nat
  node : Nat
  tq : Nat
  seq : Bool
  noref : Bool
  late : Bool
  primary : Nat
  stamp : Stamp
  fine : Int
  no : Nat
  delay : Nat
deriving DecidableEq, Repr

/-- What the last bus access returned to its maker: none in POWER_OFF (R608). -/
structure Resp where
  /-- a register word or pair -/
  data : BitVec 64
  /-- the bytes of a BAR2 or BAR4 read -/
  bytes : List Byte
  code : Nat
deriving DecidableEq, Repr

end Sys2Proof.Machine
end

