-- ==== Sys2Proof/Machine/State.lean ====
section
/-! DEFINITION. The state of the HX-9160 block, as plain data, and the state right after reset. The registers of BAR0
stand in three sparse maps keyed by BAR0 address (current or pending copy, applied copy, latched high words); what the
manual gives the machine beside its registers stands in one structure per block. -/

namespace Sys2Proof.Machine

/-- The reasons a command stops with a fault: none. Every command of the table has an effect the manual gives. -/
inductive Fault where
deriving DecidableEq, Repr

/-- The reasons a command is refused. -/
inductive Refusal where
  /-- the command has no meaning in this model yet; raised by the dispatch alone; safe -/
  | notModelled (mnemonic : String)
deriving DecidableEq, Repr

/-- What SYS keeps beside its registers. -/
structure SysSt where
  /-- SYS_ERR_LOG, oldest first, at most 16 (R533) -/
  errLog : List ErrEntry
  /-- the groups of the running update (R520) -/
  updMask : Word
  /-- who strobed the running update (R534) -/
  updSrc : Source
  /-- TIMED and CHECK_ONLY as the running update was strobed (R520) -/
  updTimed : Bool
  updCheckOnly : Bool
  /-- the running update is a Constellation apply (R502, R525) -/
  updCst : Bool
  /-- the guard pass in progress is not comparable (R530) -/
  guardSpoilt : Bool
  /-- with AUTO, the next comparable pass loads REF (R531) -/
  guardReload : Bool
  /-- a differing pass raises CFG_GUARD: the pass before matched, or REF was written since (R530) -/
  guardArmed : Bool
deriving DecidableEq, Repr

/-- What FLT keeps beside its registers. -/
structure FltSt where
  /-- the hardware queue, oldest first, at most 64 records (R568) -/
  hwq : List FltRec
  /-- the fault log, oldest first, at most 256 records (R568) -/
  log : List FltRec
  /-- the newest record made, for coalescing (R568) -/
  newest : Option FltRec
  /-- tracked poisoned SRAM words, at most 16 (R573) -/
  poison : List Nat
  /-- poisoned SRAM words that are not tracked (R573) -/
  poisonUntracked : List Nat
  /-- THERM_WARN may be raised again (R576) -/
  warnArmed : Bool
  /-- THERM_TRIP may be raised again (R576) -/
  tripArmed : Bool
  /-- the fatal record of the running HALT (R580) -/
  fatal : Option FltRec
  /-- corrections of SRAM rows within 24 h: row address and instant (R574) -/
  rowCorr : List (Nat × Stamp)
  /-- SRAM rows due for sparing whose copy has not completed, in the order they fell due (R574) -/
  rowsDue : List Nat
  /-- SRAM rows redirected to spares, by row address, once for each spare taken (R574) -/
  rowsSpared : List Nat
deriving DecidableEq, Repr

/-- What PWR keeps beside its registers. -/
structure PwrSt where
  /-- the supplies are above their reset thresholds (R16) -/
  supplyOk : Bool
  /-- the level of RESET_N (R592) -/
  resetN : Bool
  /-- domains whose accepted UP carried RESTORE = 1 (R584) -/
  restoreAsked : List Nat
  /-- the applied values, other than reset values, held when a domain went off: domain, BAR0 address, word (R584) -/
  saved : List (Nat × Nat × Word)
  /-- the last DOWN accepted of a domain: domain, who wrote it, FORCE (R585, R588) -/
  asked : List (Nat × Source × Bool)
  /-- stalls held by a drain, with the domain that drains (R586) -/
  held : List (Nat × Nat)
deriving DecidableEq, Repr

/-- Pins the engine drives (R606). -/
structure Pins where
  /-- SL_SYNCN0 to SL_SYNCN3, bit c high (R102) -/
  syncn : BitVec 4
  /-- TRIG_OUT0 to TRIG_OUT3 levels (R246) -/
  trigOut : BitVec 4
  /-- PPS_OUT (R77) -/
  ppsOut : Bool
  /-- SP_PERST_N0 to SP_PERST_N3, bit d high when released (R419) -/
  spPerstN : BitVec 4
  /-- SPI_CSN0 to SPI_CSN7, bit m high when inactive (R475) -/
  spiCsn : BitVec 8
  /-- CDAC outputs: the value driven, or none for high impedance (R474) -/
  cdac : Vector (Option (BitVec 16)) 4
  /-- PWM outputs: the level driven, or none for high impedance (R473, R474) -/
  pwm : Vector (Option Bool) 4
  /-- TEST_DAC_OUT: the value driven, or none for high impedance (R464) -/
  testDac : Option (BitVec 12)
deriving DecidableEq, Repr

def SysSt.reset : SysSt :=
  { errLog := [], updMask := 0, updSrc := .host, updTimed := false, updCheckOnly := false, updCst := false, guardSpoilt := false,
    guardReload := false, guardArmed := false }

def FltSt.reset : FltSt :=
  { hwq := [], log := [], newest := none, poison := [], poisonUntracked := [], warnArmed := true, tripArmed := true,
    fatal := none, rowCorr := [], rowsDue := [], rowsSpared := [] }

def PwrSt.reset : PwrSt := { supplyOk := true, resetN := false, restoreAsked := [], saved := [], asked := [], held := [] }

/-- The pins in POWER_OFF with supplies valid (R606). -/
def Pins.reset : Pins :=
  { syncn := 0, trigOut := 0, ppsOut := false, spPerstN := 0, spiCsn := 0xFF, cdac := Vector.replicate 4 none,
    pwm := Vector.replicate 4 none, testDac := none }

/-- The sample-time model of one converter (R79 to R82). -/
structure MarkerSt where
  /-- the stamp of the last marker on the converter's lowest-numbered lane -/
  last : Option Stamp
  /-- the last marker intervals, newest first, at most 1,024: length in stamp units, samples in it -/
  intervals : List (Nat × Nat)
deriving DecidableEq, Repr

/-- What ALM and CLK keep beside their registers. -/
structure AlmSt where
  /-- the Almanac word with its 24 further fraction bits (R65) -/
  word : BitVec 104
  /-- correction of the increment, in units of 2^-64 s per TCLK edge (R70, R71) -/
  corr : Int
  /-- the corrections of the last 100 ms, newest first, one per REF_IN window (R71) -/
  corrHist : List Int
  /-- time error still to be slewed out, in units of 2^-64 s (R73) -/
  slewLeft : Int
  /-- consecutive good and bad REF_IN windows (R69) -/
  refGood : Nat
  refBad : Nat
  /-- the source of discipline is lost (R66, R71) -/
  holdover : Bool
  /-- PPS_IN has been accepted since holdover was left, as R72 asks before TQ returns to TIME -/
  ppsSinceRef : Bool
  /-- a persistent PPS mismatch holds TQ at FREQ (R74) -/
  ppsMismatch : Bool
  /-- consecutive accepted PPS_IN edges, up to 2 (R73) -/
  ppsAccepted : Nat
  /-- consecutive rejected PPS_IN edges 1 s apart (R74) -/
  ppsRejected : Nat
  /-- the stamp of the last rejected edge (R74) -/
  ppsLastRejected : Option Stamp
  /-- the TQ of the root node, as the beacons carry it (R66, R495) -/
  rootTq : Nat
  /-- the stamp of the last stamped edge on TRIG_IN0 to 7, SYNC_IN (8), PPS_IN (9), for the dead time (R83) -/
  lastEdge : Vector (Option Stamp) 10
  /-- calibrations failed in succession on each TDC input (R84) -/
  calFails : Vector Nat 10
  /-- the running measurement has met its start edge (R85) -/
  tdcStarted : Bool
  /-- START_SEL, STOP_MASK, STOP_COUNT, TIMEOUT as applied at ARM (R85) -/
  tdcSel : Nat
  tdcMask : Nat
  tdcStops : Nat
  tdcTimeout : Nat
  /-- the stops collected, in the order of R85 step 4: stamp, input, falling -/
  tdcList : List (Stamp × Nat × Bool)
  /-- the frequency moves back after holdover, at no more than SLEW_MAX (R72) -/
  returning : Bool
  /-- a written step of SRC LOCAL or REF waits for the next TCLK edge (R75) -/
  stepDue : Bool
  /-- PLLs that a procedure retunes and that are not watched for loss of lock (R57) -/
  unwatched : List Nat
  /-- the sample-time models of converters 0 to 3 (R79) -/
  marker : Vector MarkerSt 4
deriving DecidableEq, Repr

def AlmSt.reset : AlmSt :=
  { word := 0, corr := 0, corrHist := [], slewLeft := 0, refGood := 0, refBad := 0, holdover := false, ppsSinceRef := false,
    ppsMismatch := false, ppsAccepted := 0, ppsRejected := 0, ppsLastRejected := none, rootTq := 0,
    lastEdge := Vector.replicate 10 none, calFails := Vector.replicate 10 0, tdcStarted := false, tdcSel := 0, tdcMask := 0,
    tdcStops := 0, tdcTimeout := 0, tdcList := [], returning := false, stepDue := false, unwatched := [],
    marker := Vector.replicate 4 { last := none, intervals := [] } }

/-- What LNK keeps beside its registers. -/
structure LnkSt where
  /-- markers of the present burst or ILAS met by each lane, 0 to 4 (R101, R105) -/
  marks : Vector Nat 32
  /-- the stamp of each lane's first marker, for SKEW (R104) -/
  firstMark : Vector (Option Stamp) 32
  /-- the offset of the last marker out of place on each lane (R116 cause MARKER) -/
  wrongOfs : Vector (Option Nat) 32
  /-- the last figure of merit of the lane in DATA was below FOM_MIN (R111) -/
  fomLow : Vector Bool 32
  /-- converters in IDLE that keep clock frequency, CTLE and DFE state (R112) -/
  stored : Vector Bool 4
  /-- the last sample of the converter had OVR = 1 (R96) -/
  ovrPrev : Vector Bool 4
  /-- the LMFC aligns to the next SYSREF edge (R106) -/
  lmfcRealign : Bool
  /-- lane losses (lane, cause) detected in this FCLK cycle that wait for another of the same cycle (R119) -/
  cycleLosses : List (Nat × Nat)
deriving DecidableEq, Repr

def LnkSt.reset : LnkSt :=
  { marks := Vector.replicate 32 0, firstMark := Vector.replicate 32 none, wrongOfs := Vector.replicate 32 none,
    fomLow := Vector.replicate 32 false, stored := Vector.replicate 4 false, ovrPrev := Vector.replicate 4 false,
    lmfcRealign := true, cycleLosses := [] }

/-- What FCV keeps beside its registers. -/
structure FcvSt where
  /-- fill of each channel's alignment queue (R126) -/
  fill : Vector Nat 4
  /-- DC estimates of each channel, in units of 2^-64 of the sample LSB (R133) -/
  estI : Vector Int 4
  estQ : Vector Int 4
  /-- the stamp of the last sample delivered on each channel (R28) -/
  lastStamp : Vector (Option Stamp) 4
  /-- the stamp of the first sample of each valid converter (R131) -/
  convFirst : Vector (Option Stamp) 4
deriving DecidableEq, Repr

def FcvSt.reset : FcvSt :=
  { fill := Vector.replicate 4 64, estI := Vector.replicate 4 0, estQ := Vector.replicate 4 0,
    lastStamp := Vector.replicate 4 none, convFirst := Vector.replicate 4 none }

/-- What one DDC keeps beside its registers. -/
structure DdcCh where
  /-- the NCO's phase accumulator (R142) -/
  phase : BitVec 48
  /-- source samples since the last output or reset (R155) -/
  cnt : Nat
  /-- outputs since the reset (R158) -/
  outs : Nat
  /-- the release edge of the set the DDC settles in; none for a local reset (R158) -/
  release : Option Stamp
  /-- source samples since the last that carried OVR, THR, DSAT (R153) -/
  ovrAge : Nat
  thrAge : Nat
  dsatAge : Nat
  /-- DC estimates, in units of 2^-64 of the LSB of the 2^22 scale (R133, R151) -/
  estI : Int
  estQ : Int
  /-- the cross-fade in progress: its length L and the outputs of it computed (R149) -/
  fadeLen : Nat
  fadePos : Nat
  /-- the stamp of the last valid output (R154) -/
  lastStamp : Option Stamp
deriving DecidableEq, Repr

/-- What the DDC block keeps beside its registers. -/
structure DdcSt where
  /-- the sixteen zoom channels (R139) -/
  ch : Vector DdcCh 16
  /-- MASK, SRC and DDC_SYNC_TIME of the armed synchronising reset (R159) -/
  syncMask : Nat
  syncSrc : Nat
  syncTime : Stamp
  /-- the synchronising set that settles, whose release sets DONE (R159) -/
  syncSet : Option Nat
deriving DecidableEq, Repr

/-- A DDC just reset, with no flag in its span. -/
def DdcCh.reset : DdcCh :=
  { phase := 0, cnt := 0, outs := 0, release := none, ovrAge := 2 ^ 24, thrAge := 2 ^ 24, dsatAge := 2 ^ 24, estI := 0,
    estQ := 0, fadeLen := 0, fadePos := 0, lastStamp := none }

def DdcSt.reset : DdcSt :=
  { ch := Vector.replicate 16 DdcCh.reset, syncMask := 0, syncSrc := 0, syncTime := 0, syncSet := none }
/-- A frame of a spectrum source: the samples of it that have arrived (R164). -/
structure FftFrame where
  /-- index of its first sample since the source's start or resumption -/
  start : Nat
  /-- samples so far -/
  n : Nat
  /-- the instant its first sample arrived (R30) -/
  begun : Stamp
  /-- stamps of its first sample, its centre sample N/2 and its last sample -/
  first : Stamp
  centre : Stamp
  last : Stamp
  ovr : Bool
  thr : Bool
  dsat : Bool
deriving DecidableEq, Repr

/-- What waits for release on a source, in frame order (R180, R183, R192). -/
inductive FftItem where
  /-- a complete frame, its SEQ, the pipe its schedule names, and whether no pipe computes it (R196) -/
  | frame (f : FftFrame) (seq pipe : Nat) (lost : Bool)
  /-- a gap: cause, STAMP_BEFORE, and STAMP_AFTER with the SEQ after it once known -/
  | gap (cause : Nat) (before : Stamp) (after : Option (Stamp × Nat))
deriving DecidableEq, Repr

/-- A group of spectra being combined into a record or a line (R181, R188). -/
structure FftGroup where
  /-- FFT_SRC_OUT or FFT_SRC_SPG, FFT_SRC_RANGE and the window code as they applied -/
  cfg : Word
  range : Word
  win : Nat
  /-- group number -/
  g : Nat
  stamp : Stamp
  count : Nat
  pipe : Nat
  ovr : Bool
  thr : Bool
  dsat : Bool
  chk : Bool
  exp : Nat
  /-- LOG16 values, powers in units of 2^-160, and the mantissas of the last spectrum, over the bins (or points) -/
  l : List Int
  p : List Nat
  m : List (Int × Int)
deriving DecidableEq, Repr

/-- The working state of a trace (R185): values in units of 2^-19 dB, or 2^-160 of full-scale power in mode 0x4, and the
spectra since it restarted. -/
structure FftTrace where
  vals : List Int
  n : Nat
deriving DecidableEq, Repr

/-- What one spectrum source keeps beside its registers. -/
structure FftSrc where
  /-- the source is configured (R163) -/
  on : Bool
  /-- samples since the start or resumption, and frames completed since then (R164, R167) -/
  count : Nat
  frames : Nat
  /-- frames not complete yet, oldest first (R164) -/
  opened : List FftFrame
  /-- complete frames that wait for their release, oldest first (R180) -/
  items : List FftItem
  /-- the next SEQ (R182) -/
  seq : Nat
  /-- stamp of the last sample of the last complete frame (R192) -/
  lastFrame : Stamp
  /-- working pipes assigned, ascending (R167) -/
  pipes : List Nat
  /-- end (exclusive) and last stamp of the samples that the last released spectrum covered (R196) -/
  cover : Option Nat
  coverStamp : Stamp
  /-- spectra gated, dropped or not computed since the last record, and since the last line (R182) -/
  skip : Nat
  lskip : Nat
  /-- the next record, and the next line, carries GAP (R183, R188) -/
  gapFlag : Bool
  lgapFlag : Bool
  /-- the group of spectra being combined into a record (R190) -/
  rec_ : Option FftGroup
  /-- the group of spectra being combined into a spectrogram line (R188) -/
  line : Option FftGroup
  /-- the four traces of the source (R185) -/
  trace : Vector (Option FftTrace) 4
  /-- the trace restarts from the next spectrum (R187) -/
  traceReset : Vector Bool 4
  /-- records in the output queue, oldest first, at most 64 KiB (R181) -/
  out : List (List Byte)
deriving DecidableEq, Repr

/-- A shadow handover between a pipe and the spare (R199). -/
inductive FftHand where
  /-- a manual takeover or release -/
  | takeover | release
  /-- SHADOW_IN and SHADOW_OUT of a self-check (R200) -/
  | checkIn | checkOut
deriving DecidableEq, Repr

/-- What FFT keeps beside its registers. -/
structure FftSt where
  /-- sources 0 to 3 are the channels, 4 to 19 the zoom sources 16 to 31 (R163) -/
  src : Vector FftSrc 20
  /-- who computes the frames of a pipe, where it is not the pipe itself: pipe and carrier (R194, R199) -/
  carry : List (Nat × Nat)
  /-- the shadow phase in progress: kind, pipe, and the instant it was accepted (R199) -/
  hand : Option (FftHand × Nat × Stamp)
  /-- the pipe of the running self-check, 8 for the spare's pattern test (R200, R201) -/
  check : Option Nat
  /-- a mismatch of the running check: the pipe under arbitration test, and whether SHADOW_OUT found it (R202) -/
  arb : Option (Nat × Bool)
  /-- the comparison of SHADOW_IN found a mismatch and the spare passed its test (R202) -/
  transient : Bool
  /-- the next turn of the periodic checks: index in 0 to 7, 9, 8 (R201) -/
  turn : Nat
  /-- the applied words before the last apply edge, and that edge (R30) -/
  oldApplied : SMap Word
  applyEdge : Stamp
  /-- source, ENBW and C_HALF as the last admission check found them (R172) -/
  winNext : List (Nat × Nat × Nat)
deriving DecidableEq, Repr

def FftSrc.reset : FftSrc :=
  { on := false, count := 0, frames := 0, opened := [], items := [], seq := 0, lastFrame := 0, pipes := [], cover := none,
    coverStamp := 0, skip := 0, lskip := 0, gapFlag := false, lgapFlag := false, rec_ := none, line := none,
    trace := Vector.replicate 4 none, traceReset := Vector.replicate 4 false, out := [] }

def FftSt.reset : FftSt :=
  { src := Vector.replicate 20 FftSrc.reset, carry := [], hand := none, check := none, arb := none, transient := false, turn := 0,
    oldApplied := [], applyEdge := 0, winNext := [] }


/-- An event filed for the merge (R208, R214). -/
structure TrgEvent where
  src : Nat
  instant : Stamp
  late : Bool
  /-- node ID of a remote trigger -/
  node : Nat
  /-- the instant FINE is taken from: EXT, REMOTE and an interpolated LVL have one (R244) -/
  fine : Option Stamp
deriving DecidableEq, Repr

/-- A level or power unit's comparison state (R223 to R225). -/
structure CrossSt where
  /-- the quantity has been at or below THR - HYST since the last rising crossing -/
  low : Bool
  /-- it has been at or above THR + HYST since the last falling crossing -/
  high : Bool
  /-- the stamp of the sample before, for interpolation -/
  prev : Option Stamp
  /-- a crossing that waits for MIN_LEN further samples: stamp of the crossing sample, interpolated instant, rising,
  samples left -/
  cand : Option (Stamp × Option Stamp × Bool × Nat)
  /-- PWR: squared magnitudes of the last 2^W samples, newest first -/
  window : List Nat
deriving DecidableEq, Repr

def CrossSt.reset : CrossSt := { low := false, high := false, prev := none, cand := none, window := [] }

/-- What TRG keeps beside its registers. -/
structure TrgSt where
  /-- events queued for the merge, in order of arrival, at most 1,024 of each source (R214) -/
  events : List TrgEvent
  /-- the stamp at which the first slot not yet closed begins (R210) -/
  closedTo : Stamp
  /-- FORCE writes whose slot is not decided yet: the time of the write, and whether ARM was written with it (R241) -/
  softs : List (Stamp × Bool)
  /-- AUTO waits for its slot (R242) -/
  autoDue : Bool
  /-- slots delivered at or after this are armed while ARMED = 1 (R239) -/
  armFrom : Stamp
  /-- the slot from which TRG last armed (R242) -/
  armSlot : Option Stamp
  /-- STAMP of the last accepted trigger (R242, R243) -/
  lastAccept : Option Stamp
  /-- the stamp the hold-off runs from (R243) -/
  holdBase : Option Stamp
  /-- STAMP_A of the sequencer (R236) -/
  stampA : Stamp
  /-- a SEQ_RESET that waits for its slot (R237) -/
  seqReset : Option Stamp
  /-- the applied TRG settings before the last apply edge, and that edge (R248) -/
  oldApplied : SMap Word
  applyEdge : Stamp
  /-- no slot has been decided under the new settings yet (R248) -/
  fresh : Bool
  /-- the trigger log, oldest first, at most 256 (R245) -/
  log : List TrgRec
  /-- scheduled pulses of each TRIG_OUT, by start (R246) -/
  pulses : Vector (List Stamp) 4
  /-- the end of the pulse each TRIG_OUT drives (R246) -/
  outEnd : Vector (Option Stamp) 4
  /-- FMT units whose last spectrum failed (R219) -/
  fmtFail : Vector Bool 4
  lvl : Vector CrossSt 4
  pwr : Vector CrossSt 4
  /-- samples of each channel since the last selected flag (R227) -/
  ovrClean : Vector Nat 4
  /-- hits of the last spectra of each DEN unit, newest first, and whether it waits to re-arm (R228) -/
  denHits : Vector (List Bool) 2
  denFired : Vector Bool 2
  /-- the last trigger sent to the Constellation, with its TX_ID (R231) -/
  sent : Option (TrgRec × Nat)
deriving DecidableEq, Repr

def TrgSt.reset : TrgSt :=
  { events := [], closedTo := 0, softs := [], autoDue := false, armFrom := 0, armSlot := none, lastAccept := none,
    holdBase := none, stampA := 0, seqReset := none, oldApplied := [], applyEdge := 0, fresh := false, log := [],
    pulses := Vector.replicate 4 [], outEnd := Vector.replicate 4 none, fmtFail := Vector.replicate 4 false,
    lvl := Vector.replicate 4 CrossSt.reset, pwr := Vector.replicate 4 CrossSt.reset, ovrClean := Vector.replicate 4 0,
    denHits := Vector.replicate 2 [], denFired := Vector.replicate 2 false, sent := none }

/-- The running geometry of a capture unit (R268). -/
structure AcqGeom where
  mode : Nat
  src : Nat
  fmt : Nat
  scale : Nat
  endMode : Nat
  autoRearm : Bool
  len : Nat
  split : Nat
  abase : Nat
  asize : Nat
  lbase : Nat
  llen : Nat
deriving DecidableEq, Repr

/-- A segment taken whose entry is not written yet (R262, R265). -/
structure AcqSeg where
  no : Nat
  /-- the instant I of its trigger -/
  instant : Stamp
  stampT : Stamp
  fineU : Nat
  rec_ : TrgRec
  /-- samples written so far -/
  written : Nat
  ovr : Bool
  thr : Bool
  dsat : Bool
  trunc : Bool
  fail : Bool
  /-- FMT units whose verdict on the segment is known -/
  known : List Nat
  missed : Nat
deriving DecidableEq, Repr

/-- A gap or stop entry that waits to be written (R265). -/
structure AcqNote where
  instant : Stamp
  stop : Bool
  cause : Nat
  /-- gap: STAMP_AFTER, none while unknown (R273) -/
  after : Option Stamp
  merged : Bool
  /-- circular: RESUME_PTR; stop for cause MASK: the failing segment -/
  aux : Nat
deriving DecidableEq, Repr

/-- The recording of a stream unit (R427 to R429). -/
structure StreamSt where
  blockNo : Nat
  /-- valid samples written since ARM, and before the block -/
  count : Nat
  base : Nat
  /-- payload bytes of the open block, newest first, and its samples -/
  payload : List Byte
  nsamp : Nat
  first : Option Stamp
  ovr : Bool
  thr : Bool
  dsat : Bool
  /-- the gap before the block: cause and STAMP_BEFORE -/
  gap : Option (Nat × Stamp)
  /-- closed blocks, oldest first, that the stall has not taken -/
  out : List (List Byte)
deriving DecidableEq, Repr

/-- What one capture unit keeps beside its registers. -/
structure AcqUnit where
  /-- the geometry taken at the arm (R268) -/
  geom : AcqGeom
  /-- no ARM since MODE became circular or ABASE or ASIZE changed (R280) -/
  firstArm : Bool
  /-- staged samples not yet beyond every trigger's claim, newest first (R256) -/
  look : List OutSample
  segs : List AcqSeg
  notes : List AcqNote
  /-- the end instant of the previous segment (R261) -/
  lastEnd : Option Stamp
  missed : Nat
  /-- the gap in progress: cause and STAMP_BEFORE (R271) -/
  gap : Option (Nat × Stamp)
  /-- a gap entry held by a full Ledger (R264) -/
  held : Option AcqNote
  /-- segment number and entry number of segments whose entries stand in the Ledger (R263) -/
  entryNo : List (Nat × Nat)
  /-- the first failing segment, for STOP_ON_FAIL (R277) -/
  failSeg : Option Nat
  /-- the cause a STOPPING unit will stop with (R266, R277) -/
  stopWith : Nat
  /-- the staging share is full: arriving samples are discarded; true and resumed (R257) -/
  discarding : Bool
  resume : Bool
  /-- circular: the record of the trigger taken, its instant, stamp of T, count of T, and cause of the stop (R278, R280) -/
  circ : Option (TrgRec × Stamp × Stamp × Nat × Nat)
  strm : StreamSt
deriving DecidableEq, Repr

/-- What ACQ keeps beside its registers. -/
structure AcqSt where
  /-- the four acquisition units (R252) -/
  unit : Vector AcqUnit 4
  /-- sources that are not valid: source, cause, stamp of the last valid sample (R271) -/
  bad : List (Nat × Nat × Stamp)
deriving DecidableEq, Repr

def AcqGeom.reset : AcqGeom :=
  { mode := 0, src := 0, fmt := 0, scale := 2, endMode := 0, autoRearm := false, len := 16, split := 0, abase := 0, asize := 1,
    lbase := 0, llen := 2 }

def StreamSt.reset : StreamSt :=
  { blockNo := 0, count := 0, base := 0, payload := [], nsamp := 0, first := none, ovr := false, thr := false, dsat := false,
    gap := none, out := [] }

def AcqUnit.reset : AcqUnit :=
  { geom := AcqGeom.reset, firstArm := true, look := [], segs := [], notes := [], lastEnd := none, missed := 0, gap := none,
    held := none, entryNo := [], failSeg := none, stopWith := 0, discarding := false, resume := false, circ := none,
    strm := StreamSt.reset }

def AcqSt.reset : AcqSt := { unit := Vector.replicate 4 AcqUnit.reset, bad := [] }
/-- A period of Nebula (R296). -/
structure NebPeriod where
  /-- event stamp of the swap edge that opened it -/
  t0 : Stamp
  /-- accumulations so far -/
  count : Nat
  ovr : Bool
  thr : Bool
  dsat : Bool
  gap : Bool
  sat : Bool
  cleared : Bool
deriving DecidableEq, Repr

/-- A publication in progress: the period it closes, the swap edge, k and the colour settings (R296, R304). -/
structure NebPub where
  period : NebPeriod
  t1 : Stamp
  k : Nat
  colour : Word
  geom : Word
deriving DecidableEq, Repr

/-- A PEAK group in progress (R294). -/
structure NebGroup where
  g : Nat
  maxima : List Int
  ovr : Bool
  thr : Bool
  dsat : Bool
deriving DecidableEq, Repr

/-- What NEB keeps beside its registers. -/
structure NebSt where
  /-- the accumulation period in progress (R296) -/
  cur : NebPeriod
  /-- the published raster's period (R296) -/
  pub : Option NebPub
  /-- the waiting swap clears (R299) -/
  waitClear : Bool
  /-- the compositor's read lock (R300) -/
  dpyLock : Bool
  /-- the compositor has asked for its lock (R315) -/
  dpyWant : Bool
  /-- NEB_GEOM of the published raster (R296) -/
  pubGeom : Word
  /-- a publication has been made since power-up (R315) -/
  everPub : Bool
  /-- the published raster is undefined: none has completed since Nebula was enabled (R301) -/
  pubUndef : Bool
  /-- the applied words in force for the open period (R307) -/
  settings : SMap Word
  /-- the last apply edge that changed NEB settings (R307) -/
  applyEdge : Stamp
  /-- new settings wait for their swap edge (R307) -/
  settle : Bool
  /-- that swap has been requested, and clears (R298) -/
  settleAsked : Bool
  settleClear : Bool
  /-- the spectra being combined for one accumulation (R294) -/
  group : Option NebGroup
deriving DecidableEq, Repr

def NebPeriod.reset : NebPeriod :=
  { t0 := 0, count := 0, ovr := false, thr := false, dsat := false, gap := false, sat := false, cleared := false }

def NebSt.reset : NebSt :=
  { cur := NebPeriod.reset, pub := none, waitClear := false, dpyLock := false, dpyWant := false, pubGeom := 0, everPub := false, pubUndef := false, settings := [], applyEdge := 0, settle := false,
    settleAsked := false, settleClear := false, group := none }

/-- What DPY keeps beside its registers. -/
structure DpySt where
  /-- who wrote the pending commit (R322) -/
  src : Source
  /-- the commit has landed and waits for a blanking edge (R322) -/
  landed : Bool
  /-- APPLIED_FRAME is to name the first frame after the controlled blank (R323, R327) -/
  nameFrame : Bool
  /-- video is blanked by a loss of PLL_P lock (R332) -/
  lossBlank : Bool
  /-- the composer works on a frame, and the lines of it that are composed (R312) -/
  composing : Bool
  lines : Nat
  /-- the spectrogram's line count as latched at composition start (R316) -/
  spgLines : Nat
  /-- the column store: the row of each column of each trace, none where it is not drawn (R317) -/
  columns : List (List (Option Nat))
  /-- a TE_IN edge has arrived since the last blanking edge (R321) -/
  teSeen : Bool
  /-- a host AUX transaction is in progress; it waits for training to end (R334) -/
  auxBusy : Bool
  auxWait : Bool
deriving DecidableEq, Repr

def DpySt.reset : DpySt :=
  { src := .host, landed := false, nameFrame := false, lossBlank := false, composing := false, lines := 0, spgLines := 0
    columns := [], teSeen := false, auxBusy := false, auxWait := false }

/-- An entry of a stream tap's queue (R355). -/
structure TapItem where
  i : BitVec 24
  q : BitVec 24
  ovr : Bool
  thr : Bool
  dsat : Bool
  /-- the DDC's output count since its reset, modulo 2^16 -/
  seq : BitVec 16
  gap : Bool
  stamp : Stamp
deriving DecidableEq, Repr

/-- One stream tap (R355, R357). -/
structure LodTap where
  /-- entries on their way into DCLK, oldest first -/
  crossing : List TapItem
  /-- the queue, oldest first, at most 64 entries -/
  queue : List TapItem
  /-- the next entry that crosses carries GAP = 1: the DDC's outputs were invalid, or the tap changed -/
  gap : Bool
  /-- the next entry stored carries GAP = 1: entries were discarded -/
  lost : Bool
deriving DecidableEq, Repr

/-- One level of the loop stack (R352, R353). -/
structure LodLoop where
  start : Nat
  stop : Nat
  left : Nat
deriving DecidableEq, Repr

/-- The programmer's registers of a Lodestar core and its sequencer (R336, R353, R359). The sticky flags V24, V56 and
SAT of SR stand in LOD_STAT, their one home. -/
structure LodCore where
  /-- D0 to D15 -/
  d : Vector (BitVec 24) 16
  /-- U0 to U7 -/
  u : Vector (BitVec 56) 8
  /-- BASE, IDX, STEP and SPAN of the walkers G0 to G7 -/
  base : Vector (BitVec 18) 8
  idx : Vector (BitVec 18) 8
  step : Vector (BitVec 18) 8
  span : Vector (BitVec 18) 8
  /-- SR bits 0 to 3 and 7 -/
  z : Bool
  n : Bool
  c : Bool
  v : Bool
  ie : Bool
  /-- the shadow copy of SR (R361) -/
  shadow : BitVec 8
  imr : BitVec 24
  /-- TIMER, DOOR and PEER pending (R360) -/
  timer : Bool
  door : Bool
  peer : Bool
  tfl : BitVec 24
  ts : Vector (BitVec 24) 3
  /-- NOW1 and NOW2 as latched by the last read of NOW0 -/
  now1 : BitVec 24
  now2 : BitVec 24
  mail : BitVec 16
  peers : BitVec 8
  pc : Nat
  /-- issues left of the instruction that REP repeats (R352) -/
  rep : Nat
  /-- delay slots left, and the target taken after them (R350) -/
  delay : Nat
  target : Option Nat
  /-- the loop stack, innermost first, at most 4 levels (R353) -/
  loops : List LodLoop
  /-- the return stack, newest first, at most 16 entries (R353) -/
  rets : List Nat
  /-- cycles of the current invocation; whether its overrun has been counted (R370) -/
  icyc : Nat
  overrun : Bool
  /-- cycles outside WAITING, and interlock stalls, in the current 1 ms window (R351, R370) -/
  busy : Nat
  istall : Nat
  /-- accumulators the last instruction wrote; walkers the last ADDR instruction wrote (R351): masks -/
  lastAcc : Nat
  lastWalk : Nat
  /-- a STOP waits for the next boundary (R366) -/
  stopReq : Bool
deriving DecidableEq, Repr

/-- What LOD keeps beside its registers. -/
structure LodSt where
  /-- the eight cores (R336) -/
  core : Vector LodCore 8
  /-- taps 0 and 1 of each core (R355) -/
  tap : Vector (Vector LodTap 2) 8
deriving DecidableEq, Repr

/-- A core with every register zero and both stacks empty (R337). -/
def LodCore.reset : LodCore :=
  { d := Vector.replicate 16 0, u := Vector.replicate 8 0, base := Vector.replicate 8 0, idx := Vector.replicate 8 0
    step := Vector.replicate 8 0, span := Vector.replicate 8 0, z := false, n := false, c := false, v := false, ie := false
    shadow := 0, imr := 0, timer := false, door := false, peer := false, tfl := 0, ts := Vector.replicate 3 0, now1 := 0
    now2 := 0, mail := 0, peers := 0, pc := 0, rep := 0, delay := 0, target := none, loops := [], rets := [], icyc := 0
    overrun := false, busy := 0, istall := 0, lastAcc := 0, lastWalk := 0, stopReq := false }

/-- An empty tap. -/
def LodTap.reset : LodTap := { crossing := [], queue := [], gap := true, lost := false }

def LodSt.reset : LodSt :=
  { core := Vector.replicate 8 LodCore.reset, tap := Vector.replicate 8 (Vector.replicate 2 LodTap.reset) }

/-- The descriptor a stall works on (R377 to R379). -/
structure DmaCur where
  /-- its SRAM address, and the 16 words as fetched -/
  addr : Nat
  w : Vector Word 16
  /-- destination bytes handed on, and acknowledged -/
  pos : Nat
  acked : Nat
  /-- source bytes of the current row read so far -/
  row : List Byte
  /-- the earliest refused Write: destination offset and DETAIL (R423) -/
  refused : Option (Nat × Nat)
deriving DecidableEq, Repr

/-- The open result of a check unit (R393). -/
structure ChkUnit where
  crc : BitVec 32
  bytes : Nat
  seq : Word
  alive : BitVec 4
deriving DecidableEq, Repr

/-- A request that waits on a path (R397, R398): its requester index, its class in force and its age. -/
structure ArbReq where
  path : Nat
  index : Nat
  cls : Nat
  age : Nat
deriving DecidableEq, Repr

/-- What DMA and CHK keep beside their registers, and the Auctioneer. -/
structure DmaSt where
  /-- the descriptor each stall works on (R379) -/
  stall : Vector (Option DmaCur) 32
  /-- the sixteen check units (R391) -/
  unit : Vector ChkUnit 16
  /-- rotation pointers that are not 0: path, class, pointer (R397) -/
  ptr : List (Nat × Nat × Nat)
  /-- requests that wait (R397) -/
  wait : List ArbReq
deriving DecidableEq, Repr

def DmaSt.reset : DmaSt :=
  { stall := Vector.replicate 32 none, unit := Vector.replicate 16 { crc := 0xFFFFFFFF, bytes := 0, seq := 0, alive := 0 }
    ptr := [], wait := [] }

/-- What HPT keeps beside its registers: the configuration space and the times of the messages (R403, R416). -/
structure HptSt where
  /-- MSI-X enabled, and the function mask -/
  msixEn : Bool
  funcMask : Bool
  /-- when each vector last sent its message -/
  sent : Vector (Option Stamp) 32
  /-- parameters of the image header: subsystem IDs and SRIS (R545) -/
  subsys : Word
  sris : Bool
  /-- the port may train: the header has been read, and PERST_N is high (R545) -/
  train : Bool
deriving DecidableEq, Repr

def HptSt.reset : HptSt := { msixEn := false, funcMask := false, sent := Vector.replicate 32 none, subsys := 0, sris := false, train := false }

/-- An NVMe Write without a completion (R422). -/
structure NvmeCmd where
  drive : Nat
  stall : Nat
  /-- destination offset in the descriptor, and length -/
  ofs : Nat
  len : Nat
deriving DecidableEq, Repr

/-- What SPT keeps beside its registers. -/
structure SptSt where
  /-- Write commands outstanding, in the order of their issue (R424) -/
  out : List NvmeCmd
  /-- the depth of each drive's I/O queue pair (R419) -/
  depth : Vector Nat 4
deriving DecidableEq, Repr

def SptSt.reset : SptSt := { out := [], depth := Vector.replicate 4 64 }

/-- A row of GDDR6: channel, bank, logical row (R434). -/
structure MemRow where
  ch : Nat
  bank : Nat
  row : Nat
deriving DecidableEq, Repr

/-- The periodic retraining in progress (R443, R444). -/
structure MemStep where
  ch : Nat
  /-- 0 WCK2CK, 1 read eye, 2 write eye -/
  step : Nat
  /-- failures in succession; above 0 the step waits for its retry -/
  fails : Nat
deriving DecidableEq, Repr

/-- What MEM keeps beside its registers. -/
structure MemSt where
  /-- ECC words that are uncorrectable, by number (R437) -/
  ue : List Nat
  /-- corrections of a row within 24 h (R449) -/
  corr : List (MemRow × Stamp)
  /-- rows due for sparing whose copy has not completed (R450) -/
  due : List MemRow
  /-- spare rows used, per channel and bank (R434, R451) -/
  spares : List (Nat × Nat × Nat)
  /-- activations in the window of 32 ms with the given number (R447) -/
  window : Nat
  acts : List (MemRow × Nat)
  /-- throttled requesters: channel, bank, requester (R448) -/
  throttle : List (Nat × Nat × Nat)
  /-- refreshes postponed: channel and bank, at most 8 per channel (R440) -/
  postponed : List (Nat × Nat)
  /-- channels that wait for their retraining, ascending (R443) -/
  queue : List Nat
  cur : Option MemStep
  /-- the device temperature at a channel's last training (R443) -/
  lastTemp : Vector Int 16
  /-- a pin-rate change has passed its admission and waits, or runs (R445) -/
  freq : Bool
deriving DecidableEq, Repr

def MemSt.reset : MemSt :=
  { ue := [], corr := [], due := [], spares := [], window := 0, acts := [], throttle := [], postponed := [], queue := [], cur := none
    lastTemp := Vector.replicate 16 0, freq := false }

/-- A calibration point being measured (R465): who asked, ADC, input, FULL, conversions left, sum. -/
structure CalRun where
  src : Source
  adc : Nat
  input : Nat
  full : Bool
  left : Nat
  taken : Nat
  sum : Nat
deriving DecidableEq, Repr

/-- A diagnosis in progress (R464): ADCs, step among the five codes, and of each ADC its conversions, their sum and the
largest deviation. -/
structure DiagRun where
  mask : Nat
  step : Nat
  n : Vector Nat 2
  sum : Vector Nat 2
  dev : Vector Nat 2
deriving DecidableEq, Repr

/-- What AUX keeps beside its registers. -/
structure AuxSt where
  /-- position of each sequence (R455) -/
  pos : Vector Nat 2
  /-- slot times that still mark SUSPECT (R458) -/
  suspect : Vector Nat 2
  /-- consecutive mismatches of the cross-check (R463) -/
  xrun : Nat
  /-- ADCs of the injection that waits, as a mask (R460) -/
  inj : Nat
  cal : Option CalRun
  /-- index on which ZOK and FOK were measured (R466) -/
  zIdx : Nat
  fIdx : Nat
  diag : Option DiagRun
  /-- the duty in force and the duty the next period takes (R473) -/
  duty : Vector Nat 4
  next : Vector Nat 4
  /-- the frame in flight of a master is a step's; a step's frame waits (R476) -/
  spiStep : Vector Bool 8
  spiWait : Vector Bool 8
deriving DecidableEq, Repr

def AuxSt.reset : AuxSt :=
  { pos := Vector.replicate 2 0, suspect := Vector.replicate 2 0, xrun := 0, inj := 0, cal := none, zIdx := 0, fIdx := 0
    diag := none, duty := Vector.replicate 4 0, next := Vector.replicate 4 0, spiStep := Vector.replicate 8 false
    spiWait := Vector.replicate 8 false }

/-- A servo loop (R467 to R471). Terms carry 12 fraction bits. -/
structure SrvLoop where
  /-- results of the slot since the last computation, usable ones, and their sum -/
  results : Nat
  usable : Nat
  sum : Nat
  i : Int
  d : Int
  /-- P, D and FF of the last computation together (R469) -/
  terms : Int
  pvPrev : Option Int
  uPrev : Int
  held : Nat
  settled : Nat
  /-- the setpoint the stepped-span sequencer wrote -/
  sp : Nat
deriving DecidableEq, Repr

/-- The settings a sweep and a step run with (R484). -/
structure SpanRun where
  ch : Nat
  first : Nat
  last : Nat
  sweeps : Nat
  pace : Bool
  onLate : Bool
  /-- t_k, and the opening of the gate -/
  start : Stamp
  opened : Option Stamp
  /-- masters whose step frame has not completed -/
  frames : Nat
  /-- channel ch had a gap during the step -/
  gap : Bool
  /-- STOP has been written -/
  stop : Bool
deriving DecidableEq, Repr

/-- What SRV keeps beside its registers. -/
structure SrvSt where
  /-- the four servo loops (R467) -/
  loop : Vector SrvLoop 4
  /-- the span sequencer (R478) -/
  span : SpanRun
  /-- the settle gate's closed intervals, newest first, at most 64: closing and opening stamps (R477) -/
  gateClosed : List (Stamp × Option Stamp)
  /-- the sequencer's flatness override of a channel: channel, FLAT_EN, FLAT_SEL (R478) -/
  flat : Option (Nat × Bool × Nat)
deriving DecidableEq, Repr

def SrvLoop.reset : SrvLoop :=
  { results := 0, usable := 0, sum := 0, i := 0, d := 0, terms := 0, pvPrev := none, uPrev := 0, held := 0, settled := 0, sp := 0 }

def SpanRun.reset : SpanRun :=
  { ch := 0, first := 0, last := 0, sweeps := 0, pace := false, onLate := false, start := 0, opened := none, frames := 0
    gap := false, stop := false }

def SrvSt.reset : SrvSt :=
  { loop := Vector.replicate 4 SrvLoop.reset, span := SpanRun.reset, gateClosed := [], flat := none }

/-- A frame other than a beacon, as a node sends it to a neighbour (R497 to R504). -/
inductive CstMsg where
  /-- a broadcast: its sender and its eight words -/
  | broadcast (node : Nat) (data : List Word)
  /-- a barrier report to the parent -/
  | arrived
  /-- a barrier release: the root's time, and whether a lost node is let go -/
  | release (t : Stamp) (lost : Bool)
  /-- a snapshot request: T_S and SNAP_NO -/
  | snapshot (t : Stamp) (no : Word)
  /-- PREPARE of a synchronised apply -/
  | prepare (groups : Word)
  /-- a verdict to the parent: 0 and 0 for a pass, else the lowest refusing node and its code -/
  | verdict (node code : Nat)
  /-- COMMIT with T_A -/
  | commit (t : Stamp)
  /-- ABORT with the lowest refusing node and its code -/
  | abort (node code : Nat)
  /-- a system reset at T_R -/
  | reset (t : Stamp)
  /-- a remote trigger: TX_ID, STAMP + FINE, node, cause mask, and the hops that remain -/
  | trigger (txId : Nat) (instant : Stamp) (node cause hops : Nat)
deriving DecidableEq, Repr

/-- A Pulsar beacon as it was sent: the node's time, its TQ, and the stamp of the last reply's arrival (R493). -/
structure Beacon where
  time : Stamp
  tq : Nat
  reply : Option Stamp
deriving DecidableEq, Repr

/-- A synchronised apply at this node (R502). -/
structure CstApplyRun where
  /-- the update groups -/
  groups : Word
  /-- this node's own verdict, once PREPARE has been received -/
  own : Option Nat
  /-- the verdicts of the child ports: port, node, code -/
  from_ : List (Nat × Nat × Nat)
  /-- the verdict has been reported, or decided at the root -/
  decided : Bool
  /-- T_A, once COMMIT has been received -/
  commit : Option Stamp
deriving DecidableEq, Repr

/-- What CST keeps beside its registers. -/
structure CstSt where
  /-- engines that the root last counted; 0 until it has (R505) -/
  members : Nat
  /-- the failed link of a broken ring: from node j to node j + 1 (R505) -/
  ringBroken : Option Nat
  /-- an offset has been taken since the parent port came UP (R494) -/
  stepped : Bool
  /-- consecutive offsets within +-1 ns and outside +-10 ns (R494) -/
  good : Nat
  bad : Nat
  /-- LOCKED has been reached (R494) -/
  everLocked : Bool
  /-- the stamp of the last reply's arrival on each port, and the last beacon sent (R493) -/
  reply : Vector (Option Stamp) 4
  beacon : Vector (Option Beacon) 4
  /-- the last frame other than a beacon sent on each port (R488) -/
  sent : Vector (Option CstMsg) 4
  /-- received broadcasts, oldest first, at most 16: sender, eight words (R499) -/
  rx : List (Nat × List Word)
  /-- the payload of this node's own broadcast under way (R499) -/
  tx : List Word
  /-- the barrier: this node has arrived, the ports whose subtree has, the report has gone up, a member was lost (R500) -/
  arrived : Bool
  childArrived : List Nat
  reported : Bool
  barLost : Bool
  /-- snapshots requested since power-up, and the one under way: T_S, SNAP_NO, late (R501) -/
  snapCount : Nat
  snap : Option (Stamp × Word × Bool)
  snapLost : Bool
  /-- the synchronised apply under way (R502) -/
  apply : Option CstApplyRun
  /-- T_R of a scheduled system reset (R503) -/
  resetAt : Option Stamp
deriving DecidableEq, Repr

def CstSt.reset : CstSt :=
  { members := 0, ringBroken := none, stepped := false, good := 0, bad := 0, everLocked := false,
    reply := Vector.replicate 4 none, beacon := Vector.replicate 4 none, sent := Vector.replicate 4 none, rx := [], tx := [],
    arrived := false, childArrived := [], reported := false, barLost := false, snapCount := 0, snap := none, snapLost := false,
    apply := none, resetAt := none }

/-- A slot as the directory records it (R537, R538). -/
structure DirSlot where
  state : Nat
  imgSeq : Word
  len : Nat
  icrc : Word
deriving DecidableEq, Repr

/-- An accepted block whose bytes are not programmed yet (R553). -/
structure UpdBlock where
  /-- buffer slot to free -/
  slot : Nat
  dst : Nat
  /-- bytes produced -/
  len : Nat
  /-- the payload of a DATA block; a COPY's source; a FILL's byte -/
  data : List Byte
  copy : Option Nat
  fill : Byte
deriving DecidableEq, Repr

/-- What a handover in progress is (R557, R559). -/
inductive HandKind where
  | forward | revert | automatic
deriving DecidableEq, Repr

/-- What UPD keeps beside its registers. -/
structure UpdSt where
  /-- the directory (R537) -/
  slot0 : DirSlot
  slot1 : DirSlot
  dseq : Word
  /-- the copy that holds the newer record (R537) -/
  newer : Nat
  /-- the open session: type, ID as given at START, the slot it writes (R551) -/
  sess : Option (Nat × Nat × Nat)
  /-- CRC of the last accepted block (R553) -/
  lastCrc : Option Word
  /-- accepted blocks that wait to be programmed, oldest first (R552) -/
  blocks : List UpdBlock
  /-- an END has been accepted: the written slot waits for its check (R554) -/
  verify : Bool
  /-- the section of a CONFIG session (R550) -/
  section_ : List Byte
  /-- the slot the standby loads from (R543, R554, R559) -/
  stbyFrom : Nat
  /-- the handover in progress, and whether its switch has been made (R557) -/
  hand : Option HandKind
  switched : Bool
deriving DecidableEq, Repr

def DirSlot.reset : DirSlot := { state := 0, imgSeq := 0, len := 0, icrc := 0 }

def UpdSt.reset : UpdSt :=
  { slot0 := DirSlot.reset, slot1 := DirSlot.reset, dseq := 0, newer := 0, sess := none, lastCrc := none, blocks := [],
    verify := false, section_ := [], stbyFrom := 0, hand := none, switched := false }

/-- Steps of a boot (R543). -/
inductive BootStep where
  /-- before the directory and header read -/
  | rom
  /-- a candidate has failed: the header of the next is read -/
  | reading (slot : Nat)
  /-- a candidate slot is loaded and checked -/
  | checking (slot : Nat)
  /-- a candidate has passed; its firmware starts next -/
  | verified (slot : Nat)
  /-- no candidate is left: the engine stays in BOOT (R20) -/
  | stuck
  /-- firmware runs -/
  | done
deriving DecidableEq, Repr

/-- The records being run: from flash or from a session, and where they stand (R547). -/
structure RecordRun where
  /-- the section lies in flash at this offset, or in the delivered section -/
  flash : Option Nat
  len : Nat
  /-- offset of the record to run next -/
  ofs : Nat
  /-- a POWER or APPLY record waits for its end, or a WAIT record for its condition -/
  waiting : Bool
deriving DecidableEq, Repr

/-- What boot and LOAD keep. -/
structure BootSt where
  /-- how far the boot has come (R543) -/
  step : BootStep
  /-- candidates still to be tried (R544) -/
  rest : List Nat
  /-- the first candidate (R544) -/
  first : Nat
  /-- the candidate became TRIAL from NEXT (R544) -/
  trialBoot : Bool
  /-- the configuration records being run (R547) -/
  run : Option RecordRun
  /-- a CONFIG session is accepted: HOST_CFG = 1, or LOAD has failed (R550) -/
  hostCfg : Bool
  /-- HOST_CFG = 1 in the header of the image that runs (R540, R550) -/
  byImage : Bool
  /-- a CONFIG session has completed (R550) -/
  hostDone : Bool
deriving DecidableEq, Repr

def BootSt.reset : BootSt :=
  { step := .rom, rest := [], first := 0, trialBoot := false, run := none, hostCfg := false, byImage := false,
    hostDone := false }


/-- The state of the block. -/
structure State where
  /-- the commands that wait, first in, first out -/
  pending : List Instr
  /-- current words of the BAR0 registers, the pending copy where a field is buffered (R518) -/
  regs : SMap Word
  /-- applied copies: the buffered and shadow bits of each register word (R517, R518) -/
  applied : SMap Word
  /-- latched higher words of multi-word registers; 0 until word 0 is first read (R68, R511) -/
  latch : SMap Word
  /-- the on-chip SRAM (R39), written to zero at power-up (R584) -/
  sram : SMap Byte
  /-- the GDDR6 memory -/
  gddr : SMap Byte
  /-- the attached octal flash (R1, R535) -/
  flash : SMap Byte
  /-- the model's own: how many free values have been drawn -/
  freeCtr : Nat
  /-- what the last bus access returned -/
  resp : Option Resp
  /-- pins the engine drives -/
  pins : Pins
  /-- what SYS keeps beside its registers -/
  sys : SysSt
  /-- what FLT keeps beside its registers -/
  flt : FltSt
  /-- what PWR keeps beside its registers -/
  pwr : PwrSt
  /-- what ALM and CLK keeps beside its registers -/
  alm : AlmSt
  /-- what LNK keeps beside its registers -/
  lnk : LnkSt
  /-- what FCV keeps beside its registers -/
  fcv : FcvSt
  /-- what DDC keeps beside its registers -/
  ddc : DdcSt
  /-- what FFT keeps beside its registers -/
  fft : FftSt
  /-- what TRG keeps beside its registers -/
  trg : TrgSt
  /-- what ACQ keeps beside its registers -/
  acq : AcqSt
  /-- what NEB keeps beside its registers -/
  neb : NebSt
  /-- what DPY keeps beside its registers -/
  dpy : DpySt
  /-- what LOD keeps beside its registers -/
  lod : LodSt
  /-- what DMA and CHK keeps beside its registers -/
  dma : DmaSt
  /-- what HPT keeps beside its registers -/
  hpt : HptSt
  /-- what SPT keeps beside its registers -/
  spt : SptSt
  /-- what MEM keeps beside its registers -/
  mem : MemSt
  /-- what AUX keeps beside its registers -/
  aux : AuxSt
  /-- what SRV keeps beside its registers -/
  srv : SrvSt
  /-- what CST keeps beside its registers -/
  cst : CstSt
  /-- what UPD keeps beside its registers -/
  upd : UpdSt
  /-- what boot and LOAD keeps beside its registers -/
  boot : BootSt
deriving DecidableEq, Repr

/-- What an unlisted SRAM byte reads as: 0, since every memory is written to zero at power-up (R584).
DESIGN CHOICE (log entry 4). -/
def sramDefault (_ : Nat) : Byte := 0
/-- What an unlisted GDDR6 byte reads as. DESIGN CHOICE (unsafe, log entry 4): 0; the manual gives no contents. -/
def gddrDefault (_ : Nat) : Byte := 0
/-- What an unlisted flash byte reads as. PRESUMED (unsafe, log entry 4): 0xFF, an erased byte. -/
def flashDefault (_ : Nat) : Byte := 0xFF
/-- What an unlisted applied word reads as: the buffered bits of the reset word (R518). -/
def appliedDefault (a : Nat) : Word := resetWord a &&& bufMask a
/-- What an unlisted latch reads as: 0 (R68). -/
def latchDefault (_ : Nat) : Word := 0

/-- The machine right after reset: supplies valid, RESET_N low, device state POWER_OFF, every register at its reset value
(R16, R518), no command waiting. DESIGN CHOICE (log entry 3). -/
def State.reset : State :=
  { pending := [], regs := [], applied := [], latch := [], sram := [], gddr := [], flash := [], freeCtr := 0, resp := none,
    pins := Pins.reset,
    sys := SysSt.reset,
    flt := FltSt.reset,
    pwr := PwrSt.reset,
    alm := AlmSt.reset,
    lnk := LnkSt.reset,
    fcv := FcvSt.reset,
    ddc := DdcSt.reset,
    fft := FftSt.reset,
    trg := TrgSt.reset,
    acq := AcqSt.reset,
    neb := NebSt.reset,
    dpy := DpySt.reset,
    lod := LodSt.reset,
    dma := DmaSt.reset,
    hpt := HptSt.reset,
    spt := SptSt.reset,
    mem := MemSt.reset,
    aux := AuxSt.reset,
    srv := SrvSt.reset,
    cst := CstSt.reset,
    upd := UpdSt.reset,
    boot := BootSt.reset }

end Sys2Proof.Machine
end

