-- ==== Sys2Proof/Machine/Ops.lean ====
section
/-! DEFINITION. The named operations over the state: registers and fields, stamps, free values, interrupts, power
domains, the error log, FLT records, DEGRADED and HALT. -/

namespace Sys2Proof.Machine

/-- What a meaning answers. -/
abbrev Out := Host.Outcome State Fault Refusal

/-! ### Bits of a word -/

/-- Bits lo+n-1 : lo of a word, as a number. -/
def bitsOf (w : Word) (lo n : Nat) : Nat := w.toNat / 2 ^ lo % 2 ^ n

/-- A word with bits lo+n-1 : lo replaced by the low n bits of v. -/
def insBits (w : Word) (lo n v : Nat) : Word :=
  BitVec.ofNat 32 (w.toNat - bitsOf w lo n * 2 ^ lo + v % 2 ^ n * 2 ^ lo)

/-- An n-bit number read as two's complement. -/
def toSigned (n v : Nat) : Int := if v < 2 ^ (n - 1) then (v : Int) else (v : Int) - (2 ^ n : Nat)

/-- A number as n-bit two's complement. -/
def ofSigned (n : Nat) (v : Int) : Nat := (v % (2 ^ n : Nat)).toNat

/-- A signed value held in lo..hi. -/
def clampInt (lo hi v : Int) : Int := if v < lo then lo else if hi < v then hi else v

/-- A signed value saturated to n bits, as n-bit two's complement. -/
def satSigned (n : Nat) (v : Int) : Nat := ofSigned n (clampInt (-(2 ^ (n - 1) : Nat)) ((2 ^ (n - 1) : Nat) - 1) v)

/-- Bit k of a number. -/
def bit (m k : Nat) : Bool := m.testBit k

/-- A Bool as a number. -/
def b2n (b : Bool) : Nat := if b then 1 else 0

/-- A mask with bit k set to b. -/
def setBit (m k : Nat) (b : Bool) : Nat := if m.testBit k == b then m else if b then m + 2 ^ k else m - 2 ^ k

/-- The bits of `m` below `n` that are set. -/
def bitsIn (n m : Nat) : List Nat := (List.range n).filter (fun k => m.testBit k)

/-! ### Vectors of like things -/

/-- Element k. -/
def vget {α : Type} {n : Nat} (v : Vector α n) (k : Fin n) : α := v[k.val]'k.isLt

/-- Element k replaced. -/
def vset {α : Type} {n : Nat} (v : Vector α n) (k : Fin n) (x : α) : Vector α n := v.set k.val x k.isLt

/-- Element k changed by f. -/
def vmod {α : Type} {n : Nat} (v : Vector α n) (k : Fin n) (f : α → α) : Vector α n := vset v k (f (vget v k))

/-! ### Registers and fields -/

/-- The current word of register `a` (the pending copy where a field is buffered). -/
def State.word (s : State) (a : Nat) : Word := SMap.get resetWord s.regs a

/-- Register `a` set to `w`. -/
def State.setWord (s : State) (a : Nat) (w : Word) : State := { s with regs := SMap.set resetWord s.regs a w }

/-- The applied word of register `a`: its buffered and shadow bits (R518). -/
def State.appWord (s : State) (a : Nat) : Word := SMap.get appliedDefault s.applied a

/-- The applied word of register `a` set to `w`. -/
def State.setAppWord (s : State) (a : Nat) (w : Word) : State := { s with applied := SMap.set appliedDefault s.applied a w }

/-- The current value of a field. -/
def State.get (s : State) (f : Fld) : Nat := bitsOf (s.word f.addr) f.lo f.n

/-- The applied value of a buffered or shadow field. -/
def State.app (s : State) (f : Fld) : Nat := bitsOf (s.appWord f.addr) f.lo f.n

/-- The current value of a one-bit field. -/
def State.flag (s : State) (f : Fld) : Bool := s.get f == 1

/-- The applied value of a one-bit field. -/
def State.appFlag (s : State) (f : Fld) : Bool := s.app f == 1

/-- A field written. -/
def State.put (s : State) (f : Fld) (v : Nat) : State := s.setWord f.addr (insBits (s.word f.addr) f.lo f.n v)

/-- A one-bit field written. -/
def State.putB (s : State) (f : Fld) (b : Bool) : State := s.put f (b2n b)

/-- The applied copy of a field written. -/
def State.putApp (s : State) (f : Fld) (v : Nat) : State :=
  s.setAppWord f.addr (insBits (s.appWord f.addr) f.lo f.n v)

/-- A counter field stepped, holding at its largest value (R534). -/
def State.bump (s : State) (f : Fld) : State := if s.get f < 2 ^ f.n - 1 then s.put f (s.get f + 1) else s

/-- A counter field advanced by k, holding at its largest value. -/
def State.bumpBy (s : State) (f : Fld) (k : Nat) : State := s.put f (min (s.get f + k) (2 ^ f.n - 1))

/-- A counter field stepped, wrapping. -/
def State.bumpWrap (s : State) (f : Fld) : State := s.put f (s.get f + 1)

/-- The low 64 bits, or the pair, that two consecutive words hold. -/
def State.getPair (s : State) (a : Nat) : Nat := (s.word a).toNat + (s.word (a + 4)).toNat * 2 ^ 32

/-- A 64-bit value written to two consecutive words. -/
def State.putPair (s : State) (a v : Nat) : State :=
  (s.setWord a (BitVec.ofNat 32 v)).setWord (a + 4) (BitVec.ofNat 32 (v / 2 ^ 32))

/-- The 80-bit value of a multi-word register (R67). -/
def State.getStamp (s : State) (a : Nat) : Stamp :=
  BitVec.ofNat 80 ((s.word a).toNat + (s.word (a + 4)).toNat * 2 ^ 32 + (s.word (a + 8)).toNat % 2 ^ 16 * 2 ^ 64)

/-- The applied 80-bit value of a buffered multi-word register. -/
def State.appStamp (s : State) (a : Nat) : Stamp :=
  BitVec.ofNat 80 ((s.appWord a).toNat + (s.appWord (a + 4)).toNat * 2 ^ 32 + (s.appWord (a + 8)).toNat % 2 ^ 16 * 2 ^ 64)

/-- An 80-bit value written to a multi-word register (R67). -/
def State.putStamp (s : State) (a : Nat) (t : Stamp) : State :=
  ((s.setWord a (BitVec.ofNat 32 t.toNat)).setWord (a + 4) (BitVec.ofNat 32 (t.toNat / 2 ^ 32))).setWord (a + 8)
    (BitVec.ofNat 32 (t.toNat / 2 ^ 64))

/-! ### Bytes of SRAM and GDDR6 -/

/-- One SRAM byte. -/
def State.sramByte (s : State) (a : Nat) : Byte := SMap.get sramDefault s.sram a
def State.setSramByte (s : State) (a : Nat) (b : Byte) : State := { s with sram := SMap.set sramDefault s.sram a b }
/-- One GDDR6 byte. -/
def State.gddrByte (s : State) (a : Nat) : Byte := SMap.get gddrDefault s.gddr a
def State.setGddrByte (s : State) (a : Nat) (b : Byte) : State := { s with gddr := SMap.set gddrDefault s.gddr a b }
/-- One flash byte. -/
def State.flashByte (s : State) (a : Nat) : Byte := SMap.get flashDefault s.flash a
def State.setFlashByte (s : State) (a : Nat) (b : Byte) : State := { s with flash := SMap.set flashDefault s.flash a b }

/-- n bytes from address a, little-endian, by a byte reader. -/
def readLE (rd : Nat → Byte) (a : Nat) : Nat → Nat
  | 0 => 0
  | n + 1 => (rd a).toNat + 256 * readLE rd (a + 1) n

/-- n bytes of SRAM, little-endian. -/
def State.sramLE (s : State) (a n : Nat) : Nat := readLE s.sramByte a n
def State.gddrLE (s : State) (a n : Nat) : Nat := readLE s.gddrByte a n

/-- A value's low n bytes written to SRAM, little-endian. -/
def State.setSramLE (s : State) (a : Nat) : Nat → Nat → State
  | 0, _ => s
  | n + 1, v => State.setSramLE (s.setSramByte a (BitVec.ofNat 8 v)) (a + 1) n (v / 256)

/-- A value's low n bytes written to GDDR6, little-endian. -/
def State.setGddrLE (s : State) (a : Nat) : Nat → Nat → State
  | 0, _ => s
  | n + 1, v => State.setGddrLE (s.setGddrByte a (BitVec.ofNat 8 v)) (a + 1) n (v / 256)

/-- Bytes written to SRAM in order. -/
def State.setSramBytes (s : State) (a : Nat) : List Byte → State
  | [] => s
  | b :: bs => State.setSramBytes (s.setSramByte a b) (a + 1) bs

/-- Bytes written to GDDR6 in order. -/
def State.setGddrBytes (s : State) (a : Nat) : List Byte → State
  | [] => s
  | b :: bs => State.setGddrBytes (s.setGddrByte a b) (a + 1) bs

/-! ### Time and free values -/

/-- The Almanac word: the event stamp of this instant (R65, R78). -/
def State.now (s : State) : Stamp := (s.alm.word >>> 24).setWidth 80

/-- The time-quality code that goes with a stamp (R66). -/
def State.tq (s : State) : Nat := s.get ALM_STAT.TQ

/-- The next free value. -/
def State.free (s : State) : BitVec 64 := Config.freeValue s.freeCtr

/-- A free value has been drawn. -/
def State.drawFree (s : State) : State := { s with freeCtr := s.freeCtr + 1 }

/-- Units of a stamp in n nanoseconds (LSB 2^-40 s), truncated. -/
def nsToStamp (n : Nat) : Nat := n * 2 ^ 40 / 1000000000

/-! ### Device state and power domains -/

/-- SYS_STATE.STATE. -/
def State.dev (s : State) : Nat := s.get SYS_STATE.STATE

/-- The state code of power domain d: 0 OFF, 1 POWERING_UP, 2 ON, 3 DRAINING, 4 SWITCHING_OFF (R589). -/
def State.dom (s : State) (d : Nat) : Nat := s.get (PWR_DOM_STAT.STATE d)

/-- Domain d carries power and works: ON, or DRAINING (R586). -/
def State.domOn (s : State) (d : Nat) : Bool := s.dom d == 2 || s.dom d == 3

/-- The engine is neither in POWER_OFF nor in HALT. -/
def State.alive (s : State) : Bool := s.dev != powerOff && s.dev != halt

/-- RUN or DEGRADED. -/
def State.inRun (s : State) : Bool := s.dev == run || s.dev == degraded

/-- Blocks of domain d act: the engine is alive and the domain works. -/
def State.live (s : State) (d : Nat) : Bool := s.alive && s.domOn d

/-- The domain numbers of R582. -/
abbrev dAON : Nat := 0
abbrev dMGMT : Nat := 1
abbrev dLANE_A : Nat := 2
abbrev dMESH : Nat := 6
abbrev dDISP : Nat := 7
abbrev dPCIE_H : Nat := 8
abbrev dPCIE_S : Nat := 9
abbrev dMEM0 : Nat := 10
abbrev dFFT_A : Nat := 14
abbrev dFFT_B : Nat := 15
abbrev dFFT_S : Nat := 16
abbrev dDDC : Nat := 17
abbrev dTRG : Nat := 18
abbrev dNEB : Nat := 19
abbrev dCORE_A : Nat := 20
abbrev dCORE_B : Nat := 21
abbrev dAUX : Nat := 22
abbrev dACQ : Nat := 23

/-- The power domain of FFT pipe p: pipes 0 to 3 FFT_A, 4 to 7 FFT_B, the spare and the zoom pipe FFT_S (R204). -/
def pipeDomain (p : Nat) : Nat := if p < 4 then dFFT_A else if p < 8 then dFFT_B else dFFT_S

/-- The power domains that the register at normal-view address `a` lives in (R22): those of its instance where the
block's instances lie in several domains, else those of its block. -/
def domainsOfReg (a : Nat) : List Nat :=
  let w := blockOfWindow (a / 0x10000)
  let o := a - w * 0x10000
  match w with
  | 0x01 => [0] | 0x00 => [0] | 0x02 => [0] | 0x03 => [0]
  | 0x04 => if 0x100 ≤ o ∧ o < 0x500 then [2 + (o - 0x100) / 0x20 / 8] else [2, 3, 4, 5]
  | 0x05 => [6] | 0x06 => [17]
  | 0x08 =>
    if 0x10000 ≤ o ∧ o < 0x13000 then
      let p := (o - 0x10000) / 0x1000 * 4 + o % 0x1000 / 0x400
      if p < 10 then [pipeDomain p] else [14, 15, 16]
    else [14, 15, 16]
  | 0x0A => [18] | 0x0B => [23] | 0x0C => [19] | 0x0E => [7]
  | 0x10 => if o < 0x400 then [20] else if o < 0x800 then [21] else [20, 21]
  | 0x12 => [23] | 0x13 => [23]
  | 0x14 => if 0x1000 ≤ o ∧ o < 0x1800 then [10 + (o - 0x1000) / 0x100 / 2] else [10, 11, 12, 13]
  | 0x15 => [8] | 0x16 => [9] | 0x17 => [22] | 0x18 => [22] | 0x19 => [6] | 0x1A => [1] | 0x1B => [1]
  | _ => []

/-! ### Interrupts (R414 to R416) -/

/-- The field of HPT_IRQ_MAP that maps source n to a vector. -/
def irqVecFld (n : Nat) : Fld := ⟨HPT_IRQ_MAP.addr (n / 4), n % 4 * 8, 5⟩

/-- Interrupt source n sets its status bit. An enabled source whose bit was clear pends its vector (R416). The host
port keeps nothing while its domain is off. -/
def State.raiseIrq (s : State) (n : Nat) : State :=
  if ! s.domOn dPCIE_H then s
  else
    let f : Fld := ⟨HPT_IRQ_STAT.addr (n / 32), n % 32, 1⟩
    if s.get f == 1 then s
    else
      let s := s.put f 1
      if s.get ⟨HPT_IRQ_EN.addr (n / 32), n % 32, 1⟩ == 1 then s.put (HPT_VEC.PEND (s.get (irqVecFld n))) 1 else s

/-- A status bit rises and raises interrupt source n with it: nothing happens where it was set already. -/
def State.riseIrq (s : State) (f : Fld) (n : Nat) : State :=
  if s.flag f then s else (s.put f 1).raiseIrq n

/-- The device state becomes d; a change sets interrupt source 92 (R414). -/
def State.setDev (s : State) (d : Nat) : State :=
  if s.dev == d then s else (s.put SYS_STATE.STATE d).raiseIrq 92

/-! ### The error log (R532, R533) -/

/-- Words W2 and W3 of an error-log entry. -/
def errStamp (t : Stamp) : Word × Word :=
  (BitVec.ofNat 32 t.toNat, BitVec.ofNat 32 (t.toNat / 2 ^ 32 % 256 + t.toNat / 2 ^ 40 % 2 ^ 24 * 256))

/-- Word W0 of an error-log entry. -/
def errW0 (addrHi : Nat) (read : Bool) (src : Source) (sp : Space) (window code : Nat) : Word :=
  BitVec.ofNat 32 (addrHi % 4 * 2 ^ 24 + b2n read * 2 ^ 20 + src.code * 2 ^ 18 + sp.code * 2 ^ 16 + window % 256 * 256 + code)

/-- One entry appended to SYS_ERR_LOG, or dropped when it is full (R533). -/
def State.logErr (s : State) (w0 w1 : Word) : State :=
  if s.sys.errLog.length < 16 then
    { s with sys := { s.sys with errLog := s.sys.errLog ++ [⟨w0, w1, (errStamp s.now).1, (errStamp s.now).2⟩] } }
  else (s.bump SYS_ERR_STAT.DROP).put SYS_ERR_STAT.OVF 1

/-- BLOCK_ERR and BLOCK_ERR_OFS of the block with first window `w` take a rejection (R532). -/
def State.blockErr (s : State) (w code : Nat) (sp : Space) (ofs : Nat) : State :=
  ((s.put ⟨w * 0x10000 + 0x3FF4, 0, 8⟩ code).put ⟨w * 0x10000 + 0x3FF8, 0, 32⟩ ofs).setWord (w * 0x10000 + 0x3FFC)
    (BitVec.ofNat 32 (sp.code * 2 ^ 30 + ofs / 2 ^ 32 % 16))

/-- An operation of block `w`, started by its command register at offset `ofs`, is refused (R534): recorded in that
block with SPACE 0x1, and appended to SYS_ERR_LOG. -/
def State.refuseOp (s : State) (w ofs : Nat) (src : Source) (e : Err) : State :=
  (s.blockErr w e.code .operation ofs).logErr (errW0 0 false src .operation w e.code) (BitVec.ofNat 32 (w * 0x10000 + ofs))

/-! ### FLT records (R565 to R570) -/

/-- The location code of an event with no physical element: the active management complex (R566). DEDUCED (log entry 93). -/
def State.mgmtLocation (s : State) : Nat := (if s.get UPD_STAT.ACTIVE == 1 then 2 ^ 30 else 0) + 11 * 2 ^ 24

/-- The location code of a tile (R35). -/
def tileLoc (quadrant tile slice : Nat) : Nat := quadrant * 2 ^ 30 + tile * 2 ^ 24 + slice * 2 ^ 19

/-- The location of the Almanac's events (R566): 0xCC50_0000. -/
def almLocation : Nat := tileLoc 3 12 10

/-- The newest record's REPEAT counted up, wherever the record is held (R568). -/
def coalesce (r : FltRec) (x : FltRec) : FltRec := if x.seq = r.seq then { x with rep := min (r.rep + 1) 255 } else x

/-- One record enters the hardware queue, coalesces, or is dropped (R568). -/
def State.record (s : State) (cls : FltClass) (code sub window location detail : Nat) : State :=
  let fresh : Bool := match s.flt.newest with
    | some r => ! (cls != .fatal && r.code == code && r.sub == sub && r.location == location
        && s.now.toNat - r.stamp.toNat ≤ nsToStamp 1000000 && r.stamp.toNat ≤ s.now.toNat)
    | none => true
  match fresh, s.flt.newest with
  | false, some r =>
    { s with flt := { s.flt with
        newest := some (coalesce r r), hwq := s.flt.hwq.map (coalesce r), log := s.flt.log.map (coalesce r) } }
  | _, _ =>
    let seq := if s.get FLT_SEQ.SEQ = 2 ^ 32 - 1 then 1 else s.get FLT_SEQ.SEQ + 1
    let r : FltRec :=
      { code := code, cls := cls, sub := sub % 64, window := window, rep := 0, location := location, stamp := s.now,
        tq := s.tq, detail := detail % 2 ^ 32, seq := seq, devState := s.dev, active := s.get FLT_ACTIVE.ACTIVE }
    let s : State := { s.put FLT_SEQ.SEQ seq with flt := { s.flt with newest := some r } }
    if s.flt.hwq.length < 64 then { s with flt := { s.flt with hwq := s.flt.hwq ++ [r] } } else s.bump FLT_CNT.HWQ_DROP

/-- Condition `b` of FLT_ACTIVE becomes set; RUN becomes DEGRADED (R569, R570). DEDUCED (log entry 16). -/
def State.setActive (s : State) (b : Nat) : State :=
  let s := s.put FLT_ACTIVE.ACTIVE (setBit (s.get FLT_ACTIVE.ACTIVE) b true)
  if s.dev == run then s.setDev degraded else s

/-- Condition `b` of FLT_ACTIVE becomes clear; DEGRADED becomes RUN when none is left (R569, R570). -/
def State.clearActive (s : State) (b : Nat) : State :=
  let s := s.put FLT_ACTIVE.ACTIVE (setBit (s.get FLT_ACTIVE.ACTIVE) b false)
  if s.dev == degraded && s.get FLT_ACTIVE.ACTIVE == 0 then s.setDev run else s

/-- An Info event (R565). -/
def State.fltInfo (s : State) (code sub window location detail : Nat) : State := s.record .info code sub window location detail

/-- A Recoverable event: its condition is set, then it is recorded (R565, R566). -/
def State.fltRec (s : State) (b code sub window location detail : Nat) : State :=
  (s.setActive b).record .recoverable code sub window location detail

/-- Pins on the edge of a fatal fault (R578, R606): TRIG_OUT to the inactive level, PPS_OUT, SYNCN and PERST low, chip
selects released, AUX outputs to SAFE (R474). -/
def State.haltPins (s : State) : Pins :=
  { syncn := 0
    trigOut := BitVec.ofNat 4 ((List.range 4).foldl (fun m k => m + s.app (TRG_OUT_CTRL.POL k) * 2 ^ k) 0)
    ppsOut := false, spPerstN := 0, spiCsn := 0xFF
    cdac := Vector.ofFn (fun k => (vget s.pins.cdac k).map (fun _ => BitVec.ofNat 16 (s.app (AUX_CDAC_SAFE.SAFE k))))
    pwm := s.pins.pwm, testDac := none }

/-- A Fatal event (R578): the engine enters HALT, unless it is there already, where a further fatal fault during the
capture counts in FATAL_EXTRA (R581). POWER_OFF knows no faults (R16). -/
def State.fltFatal (s : State) (code sub window location detail : Nat) : State :=
  if s.dev == powerOff then s
  else if s.dev == halt then
    if s.get FLT_DUMP.DONE == 0 then s.bump FLT_DUMP.FATAL_EXTRA else s
  else
    let s : State := { s.setDev halt with pins := s.haltPins }
    let s := s.record .fatal code sub window location detail
    { s with flt := { s.flt with fatal := s.flt.newest } }

end Sys2Proof.Machine
end

