-- ==== Sys2Proof/Machine/Operands.lean ====
section
/-! DEFINITION. The operand forms of a register access: what a written word may hold (R11, R12), what of it lands
(R10, R512, R515), the three aliases, and the latching of multi-word registers (R68, R511). -/

namespace Sys2Proof.Machine

/-- The value a field takes from a word. -/
def FieldRow.val (f : FieldRow) (w : Word) : Nat := bitsOf w f.lo f.n

/-- The value is a reserved encoding of the field (R12). -/
def FieldRow.reservedVal (f : FieldRow) (v : Nat) : Bool :=
  match f.chk with
  | .resvAbove hi => decide (hi < v)
  | .resvIn vs => vs.contains v
  | _ => false

/-- The value lies outside the field's stated range (R12). -/
def FieldRow.outOfRange (f : FieldRow) (v : Nat) : Bool :=
  match f.chk with
  | .range lo hi => decide (v < lo) || decide (hi < v)
  | .oneOf vs => ! vs.contains v
  | .rangeNotIn vs => vs.contains v
  | _ => false

/-- The word sets a bit that no field of the register owns (R11). -/
def setsReserved (fs : List FieldRow) (w : Word) : Bool :=
  (w &&& ~~~ (BitVec.ofNat 32 (fs.foldl (fun m f => m + f.mask) 0))) != 0

/-- What is wrong with the value of a written word: reserved bits and encodings rank ahead of ranges (R509). -/
def valueErr (fs : List FieldRow) (w : Word) : Option Err :=
  if setsReserved fs w then some .reserved
  else if fs.any (fun f => f.acc.isRw && f.reservedVal (f.val w)) then some .reserved
  else if fs.any (fun f => f.acc.isRw && f.outOfRange (f.val w)) then some .range
  else none

/-- What one field of the register holds after a write of `w` over `cur`: an RW field takes its bits; a one-bit RW+H
status flag is cleared by a 0 and kept by a 1 (R515); any other field keeps what it held (R10). DEDUCED (log entry 9). -/
def FieldRow.landed (f : FieldRow) (cur w : Word) : Nat :=
  if f.acc.isRw then
    if f.acc == .rwHw && f.n == 1 then f.val cur * f.val w else f.val w
  else f.val cur

/-- The register word after a write of `w` over `cur`. DEDUCED (log entry 9). -/
def landWord (fs : List FieldRow) (cur w : Word) : Word :=
  fs.foldl (fun acc f => insBits acc f.lo f.n (f.landed cur w)) cur

/-- The four views of a window (R512). -/
inductive View where
  | normal | set | clear | toggle
deriving DecidableEq, Repr

/-- The view an address within its window belongs to. -/
def viewOf (a : Nat) : View :=
  match a % 0x10000 / 0x4000 with
  | 0 => .normal | 1 => .set | 2 => .clear | _ => .toggle

/-- The normal-view address of an address. -/
def normalAddr (a : Nat) : Nat := a / 0x10000 * 0x10000 + a % 0x4000

/-- The bits of `fs` that an alias acts on (R512). -/
def rwBits (fs : List FieldRow) : Word := BitVec.ofNat 32 (fs.foldl (fun m f => if f.acc.isRw then m + f.mask else m) 0)

/-- The word an alias write of `m` over `cur` amounts to: the RW bits written 1 are set, cleared or inverted. -/
def aliasWord (v : View) (fs : List FieldRow) (cur m : Word) : Word :=
  let e := m &&& rwBits fs
  let c := cur &&& rwBits fs
  match v with
  | .normal => m
  | .set => c ||| e
  | .clear => c &&& ~~~ e
  | .toggle => c ^^^ e

/-- Latching multi-word registers and 64-bit pairs (R68, R511, R395): base address, elements, stride, and the offsets
of the higher words that a read of word 0 latches. -/
def latchTable : List (Nat × Nat × Nat × List Nat) :=
  [(SYS_UPDATE_TS.addr, 1, 0, [4, 8]), (ALM_NOW.addr, 1, 0, [4, 8]), (ALM_SYNC_TS.addr, 1, 0, [4, 8]),
   (ALM_TDC_START.addr, 1, 0, [4, 8]), (ALM_TDC_RESULT_LO.addr 0, 7, 8, [4]), (FFT_CHECK_TIME_LO.addr, 1, 0, [4]),
   (ACQ_U_WPTR_LO.addr 0, 4, 0x100, [4]), (ACQ_U_RPTR_LO.addr 0, 4, 0x100, [4]), (ACQ_U_TPTR_LO.addr 0, 4, 0x100, [4]),
   (ACQ_U_APTR_LO.addr 0, 4, 0x100, [4]), (NEB_PUB_T0.addr, 1, 0, [4, 8]), (NEB_PUB_T1.addr, 1, 0, [4, 8]),
   (CHK_RESULT.addr 0, 16, 0x20, [4, 8, 12]), (DMA_S_BYTES_LO.addr 0, 32, 0x40, [4]),
   (SPT_DRV_BASE_LO.addr 0, 4, 0x40, [4]), (SPT_DRV_NLB_LO.addr 0, 4, 0x40, [4]), (SPT_DRV_BYTES_LO.addr 0, 4, 0x40, [4]),
   (AUX_INJ_TS_A.addr, 1, 0, [4, 8]), (AUX_INJ_TS_B.addr, 1, 0, [4, 8]), (AUX_CAL_TIME_LO.addr, 1, 0, [4]),
   (CST_BAR_TS.addr, 1, 0, [4, 8])]
  ++ blocks.map (fun w => (w * 0x10000 + 0x3FF8, 1, 0, [4]))

/-- The element of a latch row whose word 0 stands `d` bytes below `a`. -/
def latchElem (r : Nat × Nat × Nat × List Nat) (a d : Nat) : Bool :=
  (List.range r.2.1).any (fun i => r.1 + i * r.2.2.1 + d == a)

/-- The addresses that a read of `a` latches: the higher words, when `a` is word 0 of a latching register. -/
def latchesAt (a : Nat) : List Nat :=
  match latchTable.find? (fun r => latchElem r a 0) with
  | some r => r.2.2.2.map (a + ·)
  | none => []

/-- `a` is a higher word of a latching register: it reads from its latch. -/
def isLatched (a : Nat) : Bool := latchTable.any (fun r => r.2.2.2.any (fun d => latchElem r a d))

end Sys2Proof.Machine
end

