-- ==== Sys2Proof/Machine/Flags.lean ====
section
/-! DEFINITION. Flag computations: what a read does to RC fields (R515), and the status flags of the Lodestar ALU and
multiplier (R342 to R344). -/

namespace Sys2Proof.Machine

/-- The register word after a read of the byte lanes `lanes` (a mask of bits): the RC bits in them are cleared (R10,
R515). -/
def rcCleared (fs : List FieldRow) (cur lanes : Word) : Word :=
  cur &&& ~~~ (BitVec.ofNat 32 (fs.foldl (fun m f => if f.acc == .rc then m + f.mask else m) 0) &&& lanes)

/-- What a read of a register word returns: WO and WP fields read 0 (R10). -/
def readValue (fs : List FieldRow) (cur : Word) : Word :=
  cur &&& ~~~ (BitVec.ofNat 32 (fs.foldl (fun m f => if f.acc.readsZero then m + f.mask else m) 0))

/-- The bits of the byte lanes of an access of `size` bytes at byte offset `o` of a word. -/
def laneMask (o size : Nat) : Word := BitVec.ofNat 32 ((2 ^ (8 * size) - 1) * 2 ^ (8 * o))

end Sys2Proof.Machine
end

