-- ==== Sys2Proof/Machine/Bus.lean ====
section
/-! DEFINITION. The register bridge: the order of the access rules (R508, R509), the locks of the device state (R19,
R579) and of a running update (R522), a register write as one operation, and the recording of rejections (R532). -/

namespace Sys2Proof.Machine

/-- The blocks a BAR0 access may reach in the present device state: in BOOT and LOAD the host reaches SYS, PWR, CLK,
UPD and FLT only (R19); in HALT only SYS, PWR and FLT answer (R579). -/
def closedByState (dev : Nat) (src : Source) (w : Nat) : Bool :=
  if dev == boot || dev == load then src == .host && ! [0x00, 0x01, 0x02, 0x1A, 0x1B].contains w
  else if dev == halt then ! [0x00, 0x01, 0x1B].contains w
  else false

/-- What the power domains of a register say to an access: it lives (none), drains (ERR_BUSY, R586) or is off. -/
def State.domainErr (s : State) (a : Nat) : Option Err :=
  let ds := domainsOfReg a
  if ds.any (fun d => s.dom d == 2) then none
  else if ds.any (fun d => s.dom d == 3) then some .busy
  else some .domainOff

/-- The completion an access returns to its maker. -/
def State.answer (s : State) (data code : Nat) : State := { s with resp := some ⟨BitVec.ofNat 64 data, [], code⟩ }

/-- A BAR0 access is rejected: nothing changes but BLOCK_ERR, SYS_ERR_LOG and the completion (R15, R532, R533). An
unimplemented window has no BLOCK_ERR (R510); a rejected SYS_ERR_CMD write appends no entry (R533). -/
def State.reject (s : State) (src : Source) (read : Bool) (addr : Nat) (e : Err) : State :=
  let w := addr / 0x10000
  let b := blockOfWindow w
  let s1 := if windowImplemented w then s.blockErr b e.code .bar0 (addr - b * 0x10000) else s
  let s2 := if ! read && normalAddr addr == SYS_ERR_CMD.addr then s1
    else s1.logErr (errW0 0 read src .bar0 w e.code) (BitVec.ofNat 32 addr)
  s2.answer 0 e.code

/-- A running update selects the group of block b (R520, R522). -/
def State.updateHolds (s : State) (b : Nat) : Bool :=
  s.get SYS_UPDATE_STAT.STATE != 0 && s.sys.updMask.toNat.testBit (s.get ⟨b * 0x10000 + 0x3FF0, 0, 5⟩)

/-- A block is locked by a prepared Constellation apply that selects its group (R502). -/
def State.cstLocks (s : State) (b : Nat) : Bool := s.sys.updCst && s.updateHolds b

/-- A block has a GROUP register: it takes part in SYS_UPDATE (R519, R534). -/
def hasGroup (b : Nat) : Bool := ! [0x00, 0x01, 0x1A, 0x1B, 0x0E].contains b

/-- What stands against a write of register `a` at every block: a GROUP write while an update runs (R519), and a write
to a register that holds a buffered field of a selected block (R522). -/
def State.updateBusy (s : State) (a : Nat) : Option Err :=
  let b := blockOfWindow (a / 0x10000)
  if hasGroup b then
    if a % 0x10000 == 0x3FF0 then if s.get SYS_UPDATE_STAT.STATE != 0 then some .busy else none
    else if s.updateHolds b && bufMask a != 0 then some .busy
    else none
  else none

/-- The first access rule an access to `addr` breaks, up to the power domain (R509). DEDUCED (log entry 6). -/
def State.accessErr (s : State) (src : Source) (addr size : Nat) (write : Bool) : Option Err :=
  let w := addr / 0x10000
  let a := normalAddr addr / 4 * 4
  if ! windowImplemented w then some .unmapped
  else if (regRow? a).isNone then some .unmapped
  else if viewOf addr != .normal && rwBits (fieldsAt a) == 0 then some .unmapped
  else if ! [1, 2, 4, 8].contains size then some .width
  else if addr % size != 0 then some .align
  else if write && size < 4 then some .width
  else if closedByState s.dev src (blockOfWindow w) then some .locked
  else s.domainErr a

/-- What a block adds to a register write: the locks and busy rules it has (`pre`, ranked with ERR_LOCKED and ERR_BUSY),
and the action of the write once its fields have landed, which can still refuse it whole (`act`). -/
structure WriteRules where
  pre : State → Source → Nat → Word → Option Err
  act : Source → Nat → Word → State → Except Err State

/-- A block with neither. -/
def WriteRules.plain : WriteRules := { pre := fun _ _ _ _ => none, act := fun _ _ _ s => .ok s }

/-- A 4-byte write of `v` at `addr` (any view) from `src`, by the rules of R508 to R517: it lands whole and acts, or is
rejected and changes nothing else. In POWER_OFF the engine answers no access (R608). -/
def State.writeReg (s : State) (r : WriteRules) (src : Source) (addr : Nat) (v : Word) : State :=
  if s.dev == powerOff then { s with resp := none }
  else
    let a := normalAddr addr
    let fs := fieldsAt a
    let w := aliasWord (viewOf addr) fs (s.word a) v
    match s.accessErr src addr 4 true with
    | some e => s.reject src false addr e
    | none =>
      if hasGroup (blockOfWindow (a / 0x10000)) && s.cstLocks (blockOfWindow (a / 0x10000)) then s.reject src false addr .locked
      else match r.pre s src a w with
      | some e => s.reject src false addr e
      | none =>
        match s.updateBusy a with
        | some e => s.reject src false addr e
        | none =>
          if setsReserved fs v then s.reject src false addr .reserved
          else match valueErr fs w with
            | some e => s.reject src false addr e
            | none =>
              match r.act src a w (s.setWord a (landWord fs (s.word a) w)) with
              | .error e => s.reject src false addr e
              | .ok s' => s'.answer 0 0

end Sys2Proof.Machine
end

