-- ==== Sys2Proof/Machine/Rates.lean ====
section
/-! DEFINITION. Rates of the lanes, converters, channels and DDCs, from a view of the registers (R23, R88, R89, R140). -/

namespace Sys2Proof.Machine

/-- A view of the registers: how a set-up reads its fields. -/
abbrev View' := Fld → Nat

/-- The line rate in bits per second (R88); a character lasts ten bits. -/
def lineRate (rate : Nat) : Nat :=
  match rate with | 0 => 6400000000 | 1 => 8000000000 | 2 => 10240000000 | 3 => 12800000000 | _ => 16000000000

/-- The derived converter rate, samples per second: L lanes at the samples per lane of R88 (R89). -/
def convRateV (r : View') : Nat := r LNK_FRAME.L * (lineRate (r LNK_CTRL.RATE) / 20)

/-- Complex sample rate of every channel, Hz: half the converter rate, or the converter rate in IQ-pair mode (R127, R131). -/
def chanRateV (r : View') : Nat := if r LNK_CTRL.MODE == 1 then convRateV r else convRateV r / 2

def State.convRate (s : State) : Nat := convRateV s.app
def State.chanRate (s : State) : Nat := chanRateV s.app

/-- Nominal complex samples per FCLK of a channel (R23). -/
def modeSamples (mode : Nat) : Nat := match mode with | 0 => 8 | 1 => 8 | 2 => 4 | _ => 2

/-- Channels that exist in a mode (R124). -/
def modeChannels (mode : Nat) : Nat := match mode with | 0 => 1 | 1 => 1 | 2 => 2 | _ => 4

/-- FCLK, Hz. -/
abbrev fclkHz : Nat := 1280000000

/-- The settling count S(D) (R157). -/
def settleCount (d : Nat) : Nat := match d with | 1 => 48 | 2 => 55 | 3 => 59 | 4 => 61 | 5 => 62 | _ => 63

/-- The chain's span F(D), in source samples (R153). -/
def chainSpan (d : Nat) : Nat := 125 * 2 ^ (d - 1) - 30

/-- Ceiling division. -/
def ceilDiv (a b : Nat) : Nat := (a + b - 1) / b

/-- FCLK cycles in stamp units, rounded down. -/
def fclkStamp (n : Nat) : Nat := n * 2 ^ 40 / fclkHz

/-- A stamp difference in whole FCLK periods (R236). -/
def stampFclk (d : Nat) : Nat := d * fclkHz / 2 ^ 40

/-- The FFT length of a LEN code (R165). -/
def fftLen (code : Nat) : Nat := 256 * 2 ^ code

/-- The source number of DDC k at the FFT, ACQ and TRG (R222). -/
def ddcSource (k : Nat) : Nat := 16 + k

/-- DDC k is enabled by the applied set-up and its domain works. -/
def State.ddcEn (s : State) (k : Nat) : Bool := s.appFlag (DDC_CFG.EN k) && s.domOn dDDC

/-- Channel ch is valid. -/
def State.chanValid (s : State) (ch : Nat) : Bool := (s.get FCV_STAT.CH_VALID).testBit ch

/-- A quotient whose rounding the manual leaves open: the floor, or one more, by a free value where it is not exact. -/
def State.roundOpen (s : State) (num den : Int) : Int × State :=
  if num % den == 0 then (num / den, s) else (num / den + (s.free.toNat % 2 : Nat), s.drawFree)

/-- A rational num / den rounded to the nearest integer, ties to even (R152). -/
def roundEven (num den : Int) : Int :=
  let f := num / den
  let r := 2 * (num - f * den)
  if r < den then f else if den < r then f + 1 else if f % 2 = 0 then f else f + 1

/-- Saturation to n signed bits. -/
def satInt (n : Nat) (v : Int) : Int := clampInt (-(2 ^ (n - 1) : Nat)) ((2 ^ (n - 1) : Nat) - 1) v

/-- The value lies outside n signed bits. -/
def overflows (n : Nat) (v : Int) : Bool := satInt n v != v

end Sys2Proof.Machine
end

