-- ==== Sys2Proof/Machine/Acq.lean ====
section
/-! DEFINITION. Acquisition: capture units, formats, segments, the circular mode, streams and their container, the
Ledger. -/

namespace Sys2Proof.Machine

/-- Unit states of ACQ_U_STAT.STATE (R285). -/
abbrev uOFF : Nat := 0
abbrev uIDLE : Nat := 1
abbrev uARMED : Nat := 2
abbrev uFILLING : Nat := 3
abbrev uSTOPPED : Nat := 4
abbrev uSTOPPING : Nat := 5

/-- The state of unit u. -/
def State.acqState (s : State) (u : Nat) : Nat := s.get (ACQ_U_STAT.STATE u)

/-- The unit is ARMED, FILLING or STOPPING. -/
def State.acqBusy (s : State) (u : Nat) : Bool :=
  s.acqState u == uARMED || s.acqState u == uFILLING || s.acqState u == uSTOPPING

/-- Unit u changed. -/
def State.setUnit (s : State) (u : Fin 4) (x : AcqUnit) : State := { s with acq := { s.acq with unit := vset s.acq.unit u x } }

/-- Unit u. -/
def State.acqUnit (s : State) (u : Fin 4) : AcqUnit := vget s.acq.unit u

/-! ### Formats (R254) -/

/-- Bytes per complex sample. -/
def fmtBytes (fmt : Nat) : Nat := match fmt with | 0 => 4 | 1 => 3 | 2 => 6 | _ => 8

/-- Component width in bits that the requantised value saturates to. -/
def fmtWidth (fmt : Nat) : Nat := match fmt with | 0 => 16 | 1 => 12 | 2 => 24 | _ => 32

/-- A component requantised: ties to even, then saturated. -/
def requant (fmt scale : Nat) (x : Int) : Int := satInt (fmtWidth fmt) (roundEven x (2 ^ scale : Nat))

/-- Requantising saturated. -/
def requantSat (fmt scale : Nat) (x : Int) : Bool := overflows (fmtWidth fmt) (roundEven x (2 ^ scale : Nat))

/-- The bytes of one sample. -/
def fmtSample (fmt scale : Nat) (x : OutSample) : List Byte :=
  let i := requant fmt scale x.i
  let q := requant fmt scale x.q
  match fmt with
  | 0 => leBytes 2 (ofSigned 16 i) ++ leBytes 2 (ofSigned 16 q)
  | 1 => leBytes 3 (ofSigned 12 i + ofSigned 12 q * 2 ^ 12)
  | 2 => leBytes 3 (ofSigned 24 i) ++ leBytes 3 (ofSigned 24 q)
  | _ => leBytes 4 (ofSigned 32 i) ++ leBytes 4 (ofSigned 32 q)

/-- DSAT of a sample as the unit stores it: the source's flag or its own saturation (R255). -/
def storedSat (g : AcqGeom) (x : OutSample) : Bool := x.dsat || requantSat g.fmt g.scale x.i || requantSat g.fmt g.scale x.q

/-! ### Geometry (R262, R268, R279) -/

/-- The geometry that a register view gives unit u. -/
def geomV (r : View') (u : Nat) : AcqGeom :=
  { mode := r (ACQ_U_CFG.MODE u), src := r (ACQ_U_CFG.SRC u), fmt := r (ACQ_U_CFG.FMT u), scale := r (ACQ_U_CFG.SCALE u),
    endMode := r (ACQ_U_CFG.END u), autoRearm := r (ACQ_U_CFG.AUTO_REARM u) == 1, len := r (ACQ_U_LEN.LEN u),
    split := r (ACQ_U_SPLIT.SPLIT u), abase := r (ACQ_U_ABASE.ABASE u), asize := r (ACQ_U_ASIZE.ASIZE u),
    lbase := r (ACQ_U_LBASE.LBASE u), llen := r (ACQ_U_LLEN.LLEN u) }

/-- Segment length L, or BUF_LEN, in samples. -/
def AcqGeom.samples (g : AcqGeom) : Nat := g.len * 256
/-- PRE: the pre-trigger samples of a segment; 0 in circular mode (R256). -/
def AcqGeom.pre (g : AcqGeom) : Nat := if g.mode = 1 then g.split else 0
/-- POST. -/
def AcqGeom.post (g : AcqGeom) : Nat := if g.mode = 1 then g.samples - g.split else g.split
/-- CAP of the ring. -/
def AcqGeom.cap (g : AcqGeom) : Nat := g.asize * 256
/-- Ledger entries N_L. -/
def AcqGeom.entries (g : AcqGeom) : Nat := g.llen * 128

/-- The sample rate of a source over a common denominator: rate = chanRate / 2^k (R253). -/
def State.srcShift (s : State) (src : Nat) : Nat := if src < 16 then 0 else s.app (DDC_CFG.DEC (src - 16))

/-- n sample periods of a source in stamp units, rounded down. -/
def State.srcPeriods (s : State) (src n : Nat) : Nat := n * 2 ^ s.srcShift src * 2 ^ 40 / max s.chanRate 1

/-- How many samples the unit's lookback holds: those of (L_M + 64) FCLK and PRE more (R256). -/
def State.lookLen (s : State) (g : AcqGeom) : Nat :=
  ceilDiv ((s.get TRG_LATENCY.L_M + 64) * s.chanRate) (fclkHz * 2 ^ s.srcShift g.src) + g.pre + 1

/-! ### The Ledger (R263 to R265, R269, R270) -/

/-- LWR and LRD of unit u. -/
def State.lwr (s : State) (u : Nat) : Nat := s.get (ACQ_U_LWR.LWR u)
def State.lrd (s : State) (u : Nat) : Nat := s.get (ACQ_U_LRD.LRD u)

/-- Entry number e lies below LRD (R263). -/
def belowLrd (lrd e : Nat) : Bool :=
  let d := (lrd + 2 ^ 32 - e % 2 ^ 32) % 2 ^ 32
  decide (1 ≤ d) && decide (d ≤ 2 ^ 31)

/-- Entry number n is free in FLOW mode (R263). -/
def State.entryFree (s : State) (u : Fin 4) (n : Nat) : Bool :=
  decide ((n + 2 ^ 32 - s.lrd u) % 2 ^ 32 < (s.acqUnit u).geom.entries)

/-- Word W0 of a segment entry. -/
def segW0 (u : Nat) (x : AcqSeg) (tested : Bool) : Nat :=
  1 * 2 ^ 28 + x.rec_.tq * 2 ^ 26 + b2n x.ovr * 2 ^ 25 + b2n x.thr * 2 ^ 24 + b2n x.dsat * 2 ^ 23 + b2n x.trunc * 2 ^ 22
    + b2n tested * 2 ^ 21 + b2n x.fail * 2 ^ 20 + b2n x.rec_.noref * 2 ^ 19 + b2n x.rec_.late * 2 ^ 18 + x.rec_.primary * 2 ^ 8 + u

/-- The 32 bytes of a segment entry. -/
def segEntry (u : Nat) (x : AcqSeg) (tested : Bool) (valid : Nat) : List Byte :=
  leBytes 4 (segW0 u x tested) ++ leBytes 4 x.no ++ leBytes 4 x.rec_.no ++ stampBytes x.stampT ++ leBytes 4 x.fineU
    ++ leBytes 4 (min valid (2 ^ 32 - 1)) ++ leBytes 2 (min x.missed 65535)

/-- The 32 bytes of a gap or stop entry. -/
def noteEntry (u tq segNo : Nat) (x : AcqNote) : List Byte :=
  if x.stop then
    leBytes 4 (3 * 2 ^ 28 + tq * 2 ^ 26 + x.cause * 2 ^ 16 + u) ++ leBytes 4 segNo ++ leBytes 4 x.aux ++ stampBytes x.instant
      ++ leBytes 10 0
  else
    leBytes 4 (2 * 2 ^ 28 + tq * 2 ^ 26 + b2n x.merged * 2 ^ 25 + b2n x.after.isNone * 2 ^ 24 + x.cause * 2 ^ 16 + u)
      ++ leBytes 4 segNo ++ leBytes 4 x.aux ++ stampBytes x.instant ++ stampBytes (x.after.getD (BitVec.allOnes 80))

/-- One entry written to the Ledger of unit u, and LWR advanced over it; `flag` (SEG, GAP or none for a stop) rises with
interrupt source 80 + u (R265, R414). -/
def State.ledgerWrite (s : State) (u : Fin 4) (bytes : List Byte) (flag : Option Fld) : State :=
  let g := (s.acqUnit u).geom
  let s := s.setGddrBytes (g.lbase * 4096 + s.lwr u % g.entries * 32) bytes
  let s := s.put (ACQ_U_LWR.LWR u) ((s.lwr u + 1) % 2 ^ 32)
  match flag with
  | some f => s.riseIrq f (80 + u)
  | none => s

/-- The earliest waiting note of a unit. -/
def AcqUnit.firstNote (x : AcqUnit) : Option AcqNote :=
  x.notes.foldl (fun o n => match o with
    | none => some n
    | some m => if n.instant.toNat < m.instant.toNat then some n else some m) none

/-- No segment that is not written yet has an earlier instant (R265). -/
def AcqUnit.clear (x : AcqUnit) (t : Stamp) : Bool := x.segs.all (fun g => decide (t.toNat < g.instant.toNat))

/-- One waiting gap or stop entry written, if every earlier entry is; in FLOW mode a gap entry that finds the Ledger full
is held (R264, R265). -/
def State.flushOne (s : State) (u : Fin 4) : State :=
  let x := s.acqUnit u
  match x.firstNote with
  | none => s
  | some n =>
    if ! x.clear n.instant || x.held.isSome then s
    else
      let x' := { x with notes := x.notes.erase n }
      if x.geom.endMode == 2 && ! n.stop && x.geom.mode == 1 && ! s.entryFree u (s.lwr u) then
        (s.setUnit u { x' with held := some n }).put (ACQ_U_STAT.GAP_HELD u) 1
      else
        (s.setUnit u x').ledgerWrite u (noteEntry u s.tq (s.get (ACQ_U_SEGNO.SEGNO u)) n)
          (if n.stop then none else some (ACQ_U_STAT.GAP u))

/-- Every waiting entry that may be written, in order. -/
def State.flushNotes (s : State) (u : Fin 4) : State :=
  ((s.acqUnit u).notes).foldl (fun s _ => s.flushOne u) s

/-- A note joins the waiting entries; a further gap during a hold merges into the held entry (R264). -/
def State.addNote (s : State) (u : Fin 4) (n : AcqNote) : State :=
  let x := s.acqUnit u
  match x.held with
  | some h =>
    if n.stop then s.setUnit u { x with notes := x.notes ++ [n] }
    else s.setUnit u { x with held := some { h with cause := n.cause, after := n.after, merged := true } }
  | none => (s.setUnit u { x with notes := x.notes ++ [n] }).flushNotes u

/-! ### Streams (R281, R282, R427 to R429) -/

/-- Samples of a full container block (R427). -/
def blockSamples (fmt : Nat) : Nat := 1048512 / fmtBytes fmt

/-- The header of the open block, HCRC apart. -/
def blockHeader (u node : Nat) (g : AcqGeom) (x : StreamSt) (tq : Nat) (pcrc : BitVec 32) (final : Bool) : List Byte :=
  leBytes 4 0x5A3CC35A ++ [1, BitVec.ofNat 8 (g.fmt + u * 16)]
    ++ [BitVec.ofNat 8 (b2n x.gap.isSome + b2n x.ovr * 2 + b2n x.thr * 4 + b2n x.dsat * 8 + b2n final * 16
      + b2n (x.blockNo == 0) * 32 + tq * 64)]
    ++ [BitVec.ofNat 8 g.src] ++ leBytes 8 x.blockNo ++ leBytes 8 x.base ++ leBytes 4 x.nsamp
    ++ [BitVec.ofNat 8 ((x.gap.map (·.1)).getD 0), BitVec.ofNat 8 g.scale] ++ leBytes 2 (node % 2 ^ 14)
    ++ stampBytes (x.first.getD 0) ++ stampBytes ((x.gap.map (·.2)).getD 0) ++ leBytes 4 pcrc.toNat ++ leBytes 4 0

/-- The open block is closed and joins the queue the stall drains; the next block starts (R429). -/
def State.closeBlock (s : State) (u : Fin 4) (final : Bool) : State :=
  let x := s.acqUnit u
  let st := x.strm
  let body := st.payload.reverse ++ List.replicate (1048512 - st.payload.length) 0
  let hdr := blockHeader u (s.get CST_NODE.ID) x.geom st s.tq (crc32c body) final
  let blk := hdr ++ leBytes 4 (crc32c hdr).toNat ++ body
  s.setUnit u { x with strm :=
    { st with blockNo := st.blockNo + 1, base := st.count, payload := [], nsamp := 0, first := none, ovr := false, thr := false,
              dsat := false, gap := none, out := st.out ++ [blk] } }

/-- A valid sample of a stream unit enters the open block. -/
def State.streamSample (s : State) (u : Fin 4) (x : OutSample) : State :=
  let s := if (s.acqUnit u).strm.nsamp = blockSamples (s.acqUnit u).geom.fmt then s.closeBlock u false else s
  let un := s.acqUnit u
  let st := un.strm
  s.setUnit u { un with strm :=
    { st with count := st.count + 1, payload := (fmtSample un.geom.fmt un.geom.scale x).reverse ++ st.payload,
              nsamp := st.nsamp + 1, first := some (st.first.getD x.stamp), ovr := st.ovr || x.ovr, thr := st.thr || x.thr,
              dsat := st.dsat || storedSat un.geom x } }

/-! ### Stopping -/

/-- Unit u becomes STOPPED with a cause, which interrupt source 84 + u reports: an open gap is noted as OPEN, a stream
closes its block, and the stop entry follows, but for a POST stop in circular mode (R266, R273). -/
def State.acqStop (s : State) (u : Fin 4) (cause aux : Nat) : State :=
  let x := s.acqUnit u
  let s := (s.put (ACQ_U_STAT.STATE u) uSTOPPED).put (ACQ_U_STAT.STOP_CAUSE u) cause
  let s := s.raiseIrq (84 + u)
  let s := s.setUnit u { x with gap := none, circ := none, stopWith := 0, look := if x.geom.mode = 2 then [] else x.look }
  let s := if x.geom.mode == 3 then s.closeBlock u true else s
  let s := match x.gap with
    | some (c, before) => s.addNote u ⟨before, false, c, none, false, 0⟩
    | none => s
  if x.geom.mode == 2 && cause == 6 then s else s.addNote u ⟨s.now, true, cause, none, false, aux⟩

/-- The segments in fill: those not yet complete. -/
def AcqUnit.inFill (x : AcqUnit) : Bool := x.segs.any (fun g => ! g.trunc && decide (g.written < x.geom.samples))

/-- Once nothing is in fill, a FILLING unit is ARMED again and a STOPPING one stops (R266, R277). -/
def State.fillDone (s : State) (u : Fin 4) : State :=
  let x := s.acqUnit u
  if x.inFill then s
  else if s.acqState u == uFILLING && x.geom.mode == 1 then s.put (ACQ_U_STAT.STATE u) uARMED
  else if s.acqState u == uSTOPPING then
    if x.stopWith == 2 && ! x.segs.isEmpty then s else s.acqStop u x.stopWith (if x.stopWith == 2 then x.failSeg.getD 0 else 0)
  else s

/-! ### Samples -/

/-- A run of capture writes that began at byte `base` has written the n bytes at `a`: the ECC word it completes, where
the run covers it whole, stops failing (R437). DEDUCED (log entry 69). -/
def State.captured (s : State) (base a n : Nat) : State :=
  let u := (a + n) / 64 - 1
  if s.mem.ue.isEmpty || a / 64 == (a + n) / 64 || u * 64 < base then s
  else { s with mem := { s.mem with ue := s.mem.ue.filter (· != u) } }

/-- One sample written into an open segment's slot (R262). -/
def State.segSample (s : State) (g : AcqGeom) (x : OutSample) (seg : AcqSeg) : AcqSeg × State :=
  if seg.trunc || g.samples ≤ seg.written then (seg, s)
  else
    let b := fmtBytes g.fmt
    let base := g.abase * 4096 + seg.no % max g.asize 1 * (g.samples * b)
    let a := base + seg.written * b
    ({ seg with written := seg.written + 1, ovr := seg.ovr || x.ovr, thr := seg.thr || x.thr, dsat := seg.dsat || storedSat g x },
      (s.setGddrBytes a (fmtSample g.fmt g.scale x)).captured base a b)

/-- One sample written to the open segments of unit u, oldest first. -/
def State.fillSegs (s : State) (u : Fin 4) (x : OutSample) : State :=
  let un := s.acqUnit u
  let r := un.segs.foldl (fun (a : List AcqSeg × State) g => let (g', s') := a.2.segSample un.geom x g; (a.1 ++ [g'], s')) ([], s)
  (r.2.setUnit u { (r.2.acqUnit u) with segs := r.1 }).fillDone u

/-- WPTR, RPTR, TPTR and APTR of unit u. -/
def State.wptr (s : State) (u : Nat) : Nat := s.getPair (ACQ_U_WPTR_LO.addr u)
def State.rptr (s : State) (u : Nat) : Nat := s.getPair (ACQ_U_RPTR_LO.addr u)

/-- A circular unit may write sample count WPTR: it is not past the POST of a trigger it took (R280). -/
def State.circOpen (s : State) (u : Fin 4) : Bool :=
  match (s.acqUnit u).circ with
  | some (_, _, _, t, _) => decide (s.wptr u < t + (s.acqUnit u).geom.post)
  | none => true

/-- One sample written to the ring at WPTR (R280). -/
def State.ringWrite (s : State) (u : Fin 4) (x : OutSample) : State :=
  let g := (s.acqUnit u).geom
  let w := s.wptr u
  let a := g.abase * 4096 + w % max g.cap 1 * fmtBytes g.fmt
  let s := (s.setGddrBytes a (fmtSample g.fmt g.scale x)).captured (g.abase * 4096) a (fmtBytes g.fmt)
  let s := s.putPair (ACQ_U_WPTR_LO.addr u) (w + 1)
  if g.samples < w + 1 - s.rptr u then s.putPair (ACQ_U_RPTR_LO.addr u) (w + 1 - g.samples) else s

/-- Staged samples of a circular unit that every trigger's decision has passed move to the ring, oldest first (R256). -/
def State.circDrain (s : State) (u : Fin 4) : State :=
  let limit : Option Stamp := if s.appFlag TRG_CTRL.EN && s.domOn dTRG then some s.trg.closedTo else none
  (s.acqUnit u).look.reverse.foldl (fun s x =>
    let decided := match limit with | some t => decide (x.stamp.toNat < t.toNat) | none => true
    if (decided || (s.acqUnit u).circ.isSome) && s.circOpen u then
      let un := s.acqUnit u
      (s.ringWrite u x).setUnit u { un with look := un.look.dropLast }
    else s) s

/-- The gap in progress of unit u ends with a valid sample at `after` (R271, R273). -/
def State.gapEnd (s : State) (u : Fin 4) (after : Stamp) : State :=
  let x := s.acqUnit u
  match x.gap with
  | none => s
  | some (c, before) =>
    let s := s.setUnit u { x with gap := none }
    let s := if x.geom.mode == 3 then
        s.setUnit u { (s.acqUnit u) with strm := { (s.acqUnit u).strm with gap := some (c, before) } }
      else s
    s.addNote u ⟨before, false, c, some after, false, if x.geom.mode = 2 then (s.wptr u + x.look.length) % 2 ^ 32 else 0⟩

/-- A gap of unit u begins after the sample stamped `before`: segments in fill are truncated (R271, R274). When several
causes start one interval the lowest stays (R272). -/
def State.gapStart (s : State) (u : Fin 4) (cause : Nat) (before : Stamp) : State :=
  let x := s.acqUnit u
  if ! s.acqBusy u then s.setUnit u { x with look := [] }
  else
    match x.gap with
    | some (c, b) => s.setUnit u { x with gap := some (min c cause, b) }
    | none =>
      let s := if x.geom.mode == 2 then s.circDrain u else s
      let x := s.acqUnit u
      let s := s.setUnit u { x with
        gap := some (cause, before), look := if x.geom.mode = 2 then x.look else []
        segs := x.segs.map (fun g => if g.written < x.geom.samples then { g with trunc := true } else g) }
      let s := if x.geom.mode == 3 && 0 < (s.acqUnit u).strm.nsamp then s.closeBlock u false else s
      s.fillDone u

/-- A valid sample of source src reaches unit u (R252, R256, R280, R281). -/
def State.unitSample (s : State) (u : Fin 4) (x : OutSample) : State :=
  let un := s.acqUnit u
  if un.discarding && ! un.resume then s
  else
    let s := if un.discarding then s.setUnit u { un with discarding := false, resume := false } else s
    let s := if s.acqBusy u then s.gapEnd u x.stamp else s
    let un := s.acqUnit u
    match un.geom.mode with
    | 1 =>
      let s := s.setUnit u { un with look := (x :: un.look).take (s.lookLen un.geom) }
      if s.acqBusy u then s.fillSegs u x else s
    | 2 => if s.acqState u == uARMED || s.acqState u == uFILLING then (s.setUnit u { un with look := x :: un.look }).circDrain u else s
    | 3 => if s.acqBusy u then s.streamSample u x else s
    | _ => s

/-- A valid sample of source src reaches ACQ. -/
def State.acqSample (s : State) (src : Nat) (x : OutSample) : State :=
  if s.domOn dACQ then
    (List.finRange 4).foldl (fun (s : State) (u : Fin 4) => if (s.acqUnit u).geom.src == src then s.unitSample u x else s) s
  else s

/-- Source src stops being valid after the sample stamped `before` (R271). -/
def State.acqSourceGap (s : State) (src cause : Nat) (before : Stamp) : State :=
  let s : State := { s with acq := { s.acq with bad := (src, cause, before) :: s.acq.bad.filter (fun b => b.1 != src) } }
  if s.domOn dACQ then
    (List.finRange 4).foldl (fun (s : State) (u : Fin 4) => if (s.acqUnit u).geom.src == src then s.gapStart u cause before else s) s
  else s

/-- Source src is valid again, from the sample stamped `first` (R273). -/
def State.acqSourceStart (s : State) (src : Nat) (first : Stamp) : State :=
  let s : State := { s with acq := { s.acq with bad := s.acq.bad.filter (fun b => b.1 != src) } }
  if s.domOn dACQ then
    (List.finRange 4).foldl (fun (s : State) (u : Fin 4) =>
      if (s.acqUnit u).geom.src == src && s.acqBusy u && ! (s.acqUnit u).discarding then s.gapEnd u first else s) s
  else s

/-! ### Triggers -/

/-- A counter of triggers not taken, and MISSED (R261). -/
def State.notTaken (s : State) (u : Fin 4) (f : Fld) : State :=
  (s.setUnit u { (s.acqUnit u) with missed := (s.acqUnit u).missed + 1 }).bump f

/-- The trigger sample: the index in the lookback (newest first) of the latest sample at or before I (R260). -/
def trigIndex (look : List OutSample) (i : Stamp) : Option Nat := look.findIdx? (fun x => decide (x.stamp.toNat ≤ i.toNat))

/-- The slot of segment k is free in FLOW mode (R263). -/
def State.slotFree (s : State) (u : Fin 4) (k : Nat) : Bool :=
  let x := s.acqUnit u
  if k < x.geom.asize then true
  else
    let o := k - x.geom.asize
    if x.segs.any (fun g => g.no == o) then false
    else match x.entryNo.find? (fun e => e.1 == o) with
      | some e => belowLrd (s.lrd u) e.2
      | none => true

/-- A segmented unit is offered a trigger with instant i (R261, R262). -/
def State.offerSeg (s : State) (u : Fin 4) (r : TrgRec) (i : Stamp) : State :=
  let x := s.acqUnit u
  let g := x.geom
  let k := s.get (ACQ_U_SEGNO.SEGNO u)
  let early := match x.lastEnd with | some e => decide (i.toNat < e.toNat + nsToStamp 25) | none => false
  if early then s.notTaken u (ACQ_U_CNT0.BUSY u)
  else match trigIndex x.look i with
    | none => s.notTaken u (ACQ_U_CNT1.GAPSKIP u)
    | some n =>
      let hist := (x.look.take (n + g.pre + 1)).reverse
      if x.gap.isSome || x.look.length < n + g.pre + 1 then s.notTaken u (ACQ_U_CNT1.GAPSKIP u)
      else if g.endMode == 2 && (x.held.isSome || ! s.slotFree u k || ! s.entryFree u (s.lwr u + x.segs.length + x.notes.length)) then
        s.notTaken u (ACQ_U_CNT0.NOSLOT u)
      else
        let t := ((x.look[n]?).map (·.stamp)).getD i
        let seg : AcqSeg := { no := k, instant := i, stampT := t, fineU := (i - t).toNat, rec_ := r, written := 0, ovr := false,
                              thr := false, dsat := false, trunc := false, fail := false, known := [], missed := x.missed }
        let w := hist.foldl (fun (a : AcqSeg × State) y => a.2.segSample g y a.1) (seg, s)
        let s := w.2.setUnit u { x with segs := x.segs ++ [w.1], missed := 0,
                                        lastEnd := some (i + BitVec.ofNat 80 (s.srcPeriods g.src g.post)) }
        let s := s.put (ACQ_U_SEGNO.SEGNO u) ((k + 1) % 2 ^ 32)
        (s.put (ACQ_U_STAT.STATE u) uFILLING).fillDone u

/-- A circular unit is offered a trigger with instant i, that stops it with `cause` (R261, R278, R280). -/
def State.offerCirc (s : State) (u : Fin 4) (r : TrgRec) (i : Stamp) (cause : Nat) : State :=
  let x := s.acqUnit u
  if s.acqState u == uFILLING then s.notTaken u (ACQ_U_CNT0.BUSY u)
  else match trigIndex x.look i with
    | none => s.notTaken u (ACQ_U_CNT1.GAPSKIP u)
    | some n =>
      if x.gap.isSome then s.notTaken u (ACQ_U_CNT1.GAPSKIP u)
      else
        let t := s.wptr u + (x.look.length - 1 - n)
        let st := ((x.look[n]?).map (·.stamp)).getD i
        let s := s.setUnit u { x with circ := some (r, i, st, t, cause) }
        let s := s.putPair (ACQ_U_TPTR_LO.addr u) t
        (s.put (ACQ_U_STAT.STATE u) uFILLING).circDrain u

/-- An accepted trigger is offered to the units (R259, R260). -/
def State.acqTrigger (s : State) (r : TrgRec) : State :=
  if s.domOn dACQ then
    let i : Stamp := BitVec.ofInt 80 (r.stamp.toNat + r.fine)
    (List.finRange 4).foldl (fun (s : State) (u : Fin 4) =>
      let g := (s.acqUnit u).geom
      if (s.acqState u == uARMED || s.acqState u == uFILLING) && (r.cause &&& s.app (ACQ_U_TMASK.TMASK u)) != 0 then
        if g.mode == 1 then s.offerSeg u r i else if g.mode == 2 then s.offerCirc u r i 6 else s
      else s) s
  else s

/-- FMT unit m has evaluated a spectrum of channel ch with the given centre stamp (R276 to R278). -/
def State.acqVerdict (s : State) (m ch : Nat) (failed : Bool) (centre : Stamp) : State :=
  if ! s.domOn dACQ then s
  else (List.finRange 4).foldl (fun (s : State) (u : Fin 4) =>
    let x := s.acqUnit u
    let g := x.geom
    let on := (s.app (ACQ_U_CFG.TEST_MASK u)).testBit m
      && (if g.src < 16 then g.src == ch else s.app (DDC_CFG.SRC_CH (g.src - 16)) == ch)
    if ! on then s
    else if g.mode == 2 then
      if failed && s.appFlag (ACQ_U_CFG.STOP_ON_FAIL u) && s.acqState u == uARMED then
        s.offerCirc u { cause := 0, node := s.get CST_NODE.ID, tq := s.tq, seq := false, noref := false, late := false,
                        primary := 8 + m, stamp := centre, fine := 0, no := 0, delay := 0 } centre 2
      else s
    else
      let segs := x.segs.map (fun (z : AcqSeg) =>
        let begin_ := z.stampT.toNat - s.srcPeriods g.src g.pre
        let end_ := z.instant.toNat + s.srcPeriods g.src g.post
        if begin_ ≤ centre.toNat ∧ centre.toNat < end_ then (if failed then { z with fail := true } else z)
        else if end_ ≤ centre.toNat then { z with known := m :: z.known.filter (· != m) } else z)
      let newFail := segs.find? (fun z => z.fail)
      let s := s.setUnit u { x with segs := segs }
      match newFail with
      | some z =>
        if x.failSeg.isNone then
          let s := s.setUnit u { (s.acqUnit u) with failSeg := some z.no }
          if s.appFlag (ACQ_U_CFG.STOP_ON_FAIL u) && (s.acqState u == uARMED || s.acqState u == uFILLING) then
            (s.setUnit u { (s.acqUnit u) with stopWith := 2 }).put (ACQ_U_STAT.STATE u) uSTOPPING
          else s
        else s
      | none => s) s

/-! ### Commands -/

/-- ARM of unit u: a pending geometry takes effect; segmented and stream mode start a new Ledger, circular mode keeps its
pointers but at its first ARM (R266, R268, R280). -/
def State.acqArm (s : State) (u : Fin 4) : State :=
  let x := s.acqUnit u
  let g := geomV s.app u
  let first := x.firstArm || g.mode != x.geom.mode || g.abase != x.geom.abase || g.asize != x.geom.asize
  let s := (s.put (ACQ_U_STAT.PENDING u) 0).put (ACQ_U_STAT.STATE u) uARMED
  let keep := if g.src == x.geom.src && g.mode == 1 then x.look else []
  let gap := (s.acq.bad.find? (fun b => b.1 == g.src)).map (fun b => b.2)
  let base : AcqUnit := { AcqUnit.reset with geom := g, firstArm := false, look := keep, gap := gap }
  if g.mode == 2 then
    let d := s.wptr u - s.rptr u
    let s := s.setUnit u { base with missed := x.missed, entryNo := x.entryNo, segs := x.segs, notes := x.notes }
    if first then
      ((((s.putPair (ACQ_U_WPTR_LO.addr u) 0).putPair (ACQ_U_RPTR_LO.addr u) 0).putPair (ACQ_U_APTR_LO.addr u) 0).put
        (ACQ_U_SEGNO.SEGNO u) 0)
    else
      let s := if g.samples < d then s.putPair (ACQ_U_RPTR_LO.addr u) (s.wptr u - g.samples) else s
      s.putPair (ACQ_U_APTR_LO.addr u) (s.wptr u)
  else
    (((s.setUnit u base).put (ACQ_U_SEGNO.SEGNO u) 0).put (ACQ_U_LWR.LWR u) 0).put (ACQ_U_LRD.LRD u) 0

/-- STOP of unit u (R266): circular and stream units stop at once, a segmented one after the segment in fill. -/
def State.acqStopCmd (s : State) (u : Fin 4) : State :=
  let x := s.acqUnit u
  if x.geom.mode == 1 && x.inFill then (s.setUnit u { x with stopWith := 4 }).put (ACQ_U_STAT.STATE u) uSTOPPING
  else s.acqStop u 4 0

/-- ABORT of unit u (R266, R275): a segment in fill is truncated. -/
def State.acqAbort (s : State) (u : Fin 4) : State :=
  let x := s.acqUnit u
  (s.setUnit u { x with segs := x.segs.map (fun g => if g.written < x.geom.samples then { g with trunc := true } else g) }).acqStop u 5 0

/-- LRD of unit u released to x: the held gap entry may now find room (R264). -/
def State.lrdRelease (s : State) (u : Fin 4) : State :=
  let x := s.acqUnit u
  match x.held with
  | some n =>
    if s.entryFree u (s.lwr u) then
      let s := (s.setUnit u { x with held := none }).put (ACQ_U_STAT.GAP_HELD u) 0
      (s.ledgerWrite u (noteEntry u s.tq (s.get (ACQ_U_SEGNO.SEGNO u)) n) (some (ACQ_U_STAT.GAP u))).flushNotes u
    else s
  | none => s

/-- The unit whose register `a` is, by an address function. -/
def unitAt (f : Nat → Nat) (a : Nat) : Option (Fin 4) := (List.finRange 4).find? (fun (u : Fin 4) => f u == a)

/-- The ACQ registers' own rules (R264, R266, R267). -/
def acqRules : WriteRules :=
  { pre := fun s _ a w =>
      match unitAt ACQ_U_CMD.addr a with
      | some u => if w.toNat.testBit 0 && s.acqBusy u then some .busy else none
      | none => none
    act := fun _ a w s =>
      match unitAt ACQ_U_CMD.addr a with
      | some u =>
        let arm := w.toNat.testBit 0
        let stop := w.toNat.testBit 1
        let abort := w.toNat.testBit 2
        if b2n arm + b2n stop + b2n abort ≥ 2 then .error .conflict
        else if arm then if s.app (ACQ_U_CFG.MODE u) == 0 then .error .sequence else .ok (s.acqArm u)
        else if (stop || abort) && ! s.acqBusy u then .error .sequence
        else if stop then .ok (s.acqStopCmd u)
        else if abort then .ok (s.acqAbort u)
        else .ok s
      | none => match unitAt ACQ_U_LRD.addr a with
        | some u => .ok (s.lrdRelease u)
        | none => .ok s }

/-- LRD takes values from the current LRD up to LWR (R264): judged before the write lands. -/
def acqRulesLrd : WriteRules :=
  { acqRules with
    pre := fun s src a w =>
      match unitAt ACQ_U_LRD.addr a with
      | some u =>
        if (w.toNat + 2 ^ 32 - s.lrd u) % 2 ^ 32 ≤ (s.lwr u + 2 ^ 32 - s.lrd u) % 2 ^ 32 then none else some .range
      | none => acqRules.pre s src a w }

/-- ACQ_ARM (R266, R267). DEDUCED (log entry 5). DEDUCED (log entry 48). -/
def execAcqArm (u : Fin 4) (src : Source) (v : Word) (s : State) : Out := .next (s.writeReg acqRulesLrd src (ACQ_U_CMD.addr u) (v ||| 1))

/-- ACQ_STOP (R266, R267). DEDUCED (log entry 48). -/
def execAcqStop (u : Fin 4) (src : Source) (v : Word) (s : State) : Out := .next (s.writeReg acqRulesLrd src (ACQ_U_CMD.addr u) (v ||| 2))

/-- ACQ_ABORT (R266, R267). -/
def execAcqAbort (u : Fin 4) (src : Source) (v : Word) (s : State) : Out := .next (s.writeReg acqRulesLrd src (ACQ_U_CMD.addr u) (v ||| 4))

/-- LRD_WRITE (R264). -/
def execLrdWrite (u : Fin 4) (src : Source) (v : Word) (s : State) : Out := .next (s.writeReg acqRulesLrd src (ACQ_U_LRD.addr u) v)

/-- The oldest segment of unit u is ready for its entry: its samples are in GDDR6 and every selected FMT unit's verdict is
known (R265, R276). -/
def State.segReady (s : State) (u : Fin 4) (g : AcqSeg) : Bool :=
  (g.trunc || decide ((s.acqUnit u).geom.samples ≤ g.written))
    && (bitsIn 4 (s.app (ACQ_U_CFG.TEST_MASK u))).all (fun m => g.known.contains m)

/-- SEGMENT_ENTRY: unit u writes the entry of its oldest segment, the entries that waited for it, and stops when the area
or the Ledger is used up or a stop waited for it (R263, R265, R276, R277). DESIGN CHOICE (log entry 49). -/
def execSegmentEntry (u : Fin 4) (s : State) : Out :=
  .next (
    if ! s.live dACQ then s
    else
      let x := s.acqUnit u
      match x.segs with
      | [] => s
      | g :: rest =>
        let early := match x.firstNote with | some n => decide (n.instant.toNat < g.instant.toNat) | none => false
        if ! s.segReady u g || early || x.held.isSome then s
        else
          let tested := s.app (ACQ_U_CFG.TEST_MASK u) != 0
          let no := s.lwr u
          let s := s.ledgerWrite u (segEntry u g tested g.written) (some (ACQ_U_STAT.SEG u))
          let s := if tested && g.fail then (s.put (ACQ_U_STAT.FAIL u) 1).bump (ACQ_U_CNT1.FAILS u) else s
          let s := s.setUnit u { (s.acqUnit u) with segs := rest, entryNo := (g.no, no) :: x.entryNo.take (x.geom.asize) }
          let s := s.flushNotes u
          if x.geom.endMode == 0 && (s.acqBusy u) && g.no + 1 == x.geom.asize then s.acqStop u 1 0
          else if x.geom.endMode == 0 && s.acqBusy u && no + 1 == x.geom.entries then s.acqStop u 3 0
          else s.fillDone u)

/-- STAGING_OVERRUN: the share of unit u is full; arriving samples are discarded as a gap, of cause 0x21 in capture staging
and 0x22 in storage staging (R257, R272, R282). -/
def execStagingOverrun (u : Fin 4) (s : State) : Out :=
  .next (
    let x := s.acqUnit u
    if s.live dACQ && s.acqBusy u && ! x.discarding && x.gap.isNone then
      let before := match x.look.head? with
        | some y => y.stamp
        | none => x.strm.first.getD s.now
      let s := (s.put (ACQ_U_STAT.OVERRUN u) 1).gapStart u (if x.geom.mode = 3 then 0x22 else 0x21) before
      s.setUnit u { (s.acqUnit u) with discarding := true, resume := false }
    else s)

/-- STAGING_RESUME: the share of unit u is no more than half full; the next sample that arrives is accepted (R257). -/
def execStagingResume (u : Fin 4) (s : State) : Out :=
  .next (if s.live dACQ && (s.acqUnit u).discarding then s.setUnit u { (s.acqUnit u) with resume := true } else s)

/-- CIRCULAR_POST_STOP: unit u has written sample T + POST - 1: it stops with cause POST (or MASK, when a failing spectrum
was its trigger) and writes its segment entry (R278, R280). -/
def execCircularPostStop (u : Fin 4) (s : State) : Out :=
  .next (
    let x := s.acqUnit u
    match x.circ with
    | some (r, i, st, _, cause) =>
      if s.live dACQ && s.acqState u == uFILLING && ! s.circOpen u then
        let k := s.get (ACQ_U_SEGNO.SEGNO u)
        let seg : AcqSeg := { no := k, instant := i, stampT := st, fineU := (i - st).toNat, rec_ := r, written := 0, ovr := false,
                              thr := false, dsat := false, trunc := false, fail := cause == 2, known := [], missed := x.missed }
        let tested := s.app (ACQ_U_CFG.TEST_MASK u) != 0
        let s := s.ledgerWrite u (segEntry u seg tested (s.wptr u - s.rptr u)) (some (ACQ_U_STAT.SEG u))
        let s := (s.put (ACQ_U_SEGNO.SEGNO u) ((k + 1) % 2 ^ 32)).setUnit u { (s.acqUnit u) with missed := 0 }
        s.acqStop u cause 0
      else s
    | none => s)

/-- AUTO_REARM: 32 FCLK after a POST stop, a circular unit with AUTO_REARM arms itself (R280). -/
def execAutoRearm (u : Fin 4) (s : State) : Out :=
  .next (
    let g := (s.acqUnit u).geom
    if s.live dACQ && g.mode == 2 && g.autoRearm && s.acqState u == uSTOPPED && s.get (ACQ_U_STAT.STOP_CAUSE u) == 6 then s.acqArm u
    else s)

/-- CONTAINER_BLOCK: a stream unit closes a full block (R429). -/
def execContainerBlock (u : Fin 4) (s : State) : Out :=
  .next (
    let x := s.acqUnit u
    if s.live dACQ && s.acqBusy u && x.geom.mode == 3 && x.strm.nsamp == blockSamples x.geom.fmt then s.closeBlock u false else s)

/-- The staging share of a segmented or circular unit, in 64 KiB units, from a view of the registers and L_M (R256). -/
def stagingUnits (r : View') (lm : Nat) (g : AcqGeom) : Nat :=
  let sh := if g.src < 16 then 0 else r (DDC_CFG.DEC (g.src - 16))
  let rate := chanRateV r
  let b := fmtBytes g.fmt
  -- S_u = (b / T_u) (lookback + 32 us) bytes, over the common denominator 2^sh * fclkHz * 10^6
  let bytes := ceilDiv (b * rate * ((lm + 64) * 1000000 + 32 * fclkHz) + b * g.pre * 2 ^ sh * fclkHz * 1000000)
    (2 ^ sh * fclkHz * 1000000)
  ceilDiv bytes 65536

/-- ACQ takes an apply edge (R268, R256, R280, R281): a unit that is off, idle or stopped takes its geometry at once. -/
def State.acqApply (s : State) : State :=
  let s := (List.finRange 4).foldl (fun (s : State) (u : Fin 4) =>
    let x := s.acqUnit u
    let g := geomV s.app u
    if s.acqBusy u then s.putB (ACQ_U_STAT.PENDING u) (g != x.geom)
    else
      let first := x.firstArm || g.mode != x.geom.mode || g.abase != x.geom.abase || g.asize != x.geom.asize
      let s := s.setUnit u { x with geom := g, firstArm := first, look := if g.src == x.geom.src then x.look else [] }
      let s := if g.mode == 2 && g.samples < s.wptr u - s.rptr u then s.putPair (ACQ_U_RPTR_LO.addr u) (s.wptr u - g.samples) else s
      if g.mode == 0 then s.put (ACQ_U_STAT.STATE u) uOFF
      else if s.acqState u == uOFF || g.mode != x.geom.mode then s.put (ACQ_U_STAT.STATE u) uIDLE else s) s
  let streams := (List.range 4).filter (fun u => s.app (ACQ_U_CFG.MODE u) == 3)
  let rate (u : Nat) : Nat :=
    let g := geomV s.app u
    fmtBytes g.fmt * s.chanRate * 2 ^ 16 / 2 ^ (s.srcShift g.src)
  let total := streams.foldl (fun a u => a + rate u) 0
  (List.range 4).foldl (fun s u =>
    let g := geomV s.app u
    let share (g : AcqGeom) : Nat := if g.mode == 1 || g.mode == 2 then min 256 (stagingUnits s.app (s.get TRG_LATENCY.L_M) g) else 0
    let s := s.put (ACQ_U_STG.CAPT u) (max (share g) (if s.acqBusy u then share (s.acqUnit (Fin.ofNat _ u)).geom else 0))
    s.put (ACQ_U_STG.STORE u) (if g.mode == 3 then 256 * rate u / max total 1 else 0)) s

end Sys2Proof.Machine
end

