-- ==== Sys2Proof/Machine/Inject.lean ====
section
/-! DEFINITION. Requests for injected conversions, which a trigger or a write makes (R461, R462). -/

namespace Sys2Proof.Machine

/-- An injection is requested on the ADCs of AUX_INJ.ADC_MASK; one that waits on the same ADCs takes it in (R462). -/
def State.injRequest (s : State) : State :=
  let m := s.app AUX_INJ.ADC_MASK
  if m = 0 then s
  else if s.aux.inj &&& m ≠ 0 then s.bump AUX_INJ_CNT.MERGED
  else ({ s with aux := { s.aux with inj := s.aux.inj ||| m } } : State).put AUX_STAT.INJ_BUSY 1

/-- An accepted trigger requests an injection (R461). -/
def State.injTrigger (s : State) : State := if s.live dAUX && s.appFlag AUX_INJ.TRG_EN then s.injRequest else s

end Sys2Proof.Machine
end

