-- ==== Sys2Proof/Machine/Relay.lean ====
section
/-! DEFINITION. The Constellation as one node sees it: roles, parents and children, hop limits, frames sent (R489 to R492,
R504, R505). -/

namespace Sys2Proof.Machine

/-- CST works: the engine is alive and CST_CTRL.EN is applied (MESH is never switched). -/
def State.cstOn (s : State) : Bool := s.alive && s.appFlag CST_CTRL.EN

/-- This node is the root. -/
def State.cstRoot (s : State) : Bool := s.appFlag CST_CTRL.ROLE

/-- The node takes part: it has an ID (R492). -/
def State.cstValid (s : State) : Bool := s.cstOn && s.flag CST_NODE.VALID

/-- Port p is UP. -/
def State.portUp (s : State) (p : Nat) : Bool := s.get (CST_PORT_STAT.STATE p) == 3

/-- The topology is a ring, and its size n. -/
def State.ring (s : State) : Bool := s.appFlag CST_CTRL.TOPO
def State.ringN (s : State) : Nat := s.app CST_CTRL.RING_N_M1 + 1

/-- In a ring, node i takes its port-0 neighbour as its parent (R491); in a broken ring the chain decides (R505). -/
def State.via0 (s : State) (i : Nat) : Bool :=
  match s.cst.ringBroken with
  | none => decide (i ≤ s.ringN / 2)
  | some j => decide (i ≤ j)

/-- The port that leads to the parent (R490, R491). -/
def State.parentPort (s : State) : Option Nat :=
  if s.cstRoot then none else if ! s.ring then some 0 else if s.via0 (s.get CST_NODE.ID) then some 0 else some 1

/-- The UP ports that lead to children. -/
def State.childPorts (s : State) : List Nat :=
  let i := s.get CST_NODE.ID
  let n := s.ringN
  let ports := if ! s.ring then [1, 2, 3]
    else (if (i + n - 1) % n != 0 && ! s.via0 ((i + n - 1) % n) then [0] else [])
      ++ (if (i + 1) % n != 0 && s.via0 ((i + 1) % n) then [1] else [])
  ports.filter s.portUp

/-- D: the depth the bounds use (R490, R491, R505). -/
def State.cstDepth (s : State) : Nat :=
  if ! s.ring then s.app CST_CTRL.MAXD else match s.cst.ringBroken with | none => s.ringN / 2 | some _ => s.ringN - 1

/-- Hops of node i of a ring from the root. -/
def State.ringHops (s : State) (i : Nat) : Nat := if s.via0 i then i else s.ringN - i

/-- CST takes an apply edge: the root is node 0 at once; a member waits for its ID (R489, R490, R492). -/
def State.cstApply (s : State) (old : State) : State :=
  if s.appWord CST_CTRL.addr == old.appWord CST_CTRL.addr then s
  else
    let root := s.appFlag CST_CTRL.EN && s.cstRoot
    let s := ((s.putB CST_NODE.VALID root).put CST_NODE.ID 0).put CST_NODE.HOPS 0
    { s with cst := { s.cst with members := b2n root, ringBroken := none } }

/-- A frame sent on port p. -/
def State.cstSend (s : State) (m : CstMsg) (p : Nat) : State :=
  { s with cst := { s.cst with sent := vset s.cst.sent (Fin.ofNat _ p) (some m) } }

/-- A frame sent to every child. -/
def State.cstDown (s : State) (m : CstMsg) : State := s.childPorts.foldl (fun (s : State) p => s.cstSend m p) s

/-- A frame sent to the parent. -/
def State.cstUp (s : State) (m : CstMsg) : State := match s.parentPort with | some p => s.cstSend m p | none => s

/-- A remote trigger leaves its sender: in a tree on every UP port, in a ring both ways with the hop limits of R504. -/
def State.floodStart (s : State) (txId : Nat) (instant : Stamp) (node cause : Nat) : State :=
  if ! s.cstValid then s
  else if ! s.ring then
    ([0, 1, 2, 3].filter s.portUp).foldl (fun (s : State) p => s.cstSend (.trigger txId instant node cause 0) p) s
  else
    let n := s.ringN
    let limit (p : Nat) : Nat := if s.cst.ringBroken.isSome then n - 1 else if p = 1 then n / 2 else (n - 1) / 2
    ([0, 1].filter (fun p => s.portUp p && decide (0 < limit p))).foldl (fun (s : State) p =>
      s.cstSend (.trigger txId instant node cause (limit p - 1)) p) s

/-- A remote trigger that came in on port p goes on (R504); `hops` are the hops that remain in a ring. -/
def State.floodOn (s : State) (p : Nat) (txId : Nat) (instant : Stamp) (node cause hops : Nat) : State :=
  if ! s.cstValid then s
  else if ! s.ring then
    ([0, 1, 2, 3].filter (fun q => q != p && s.portUp q)).foldl (fun (s : State) q =>
      s.cstSend (.trigger txId instant node cause 0) q) s
  else if 0 < hops && decide (p < 2) && s.portUp (1 - p) then s.cstSend (.trigger txId instant node cause (hops - 1)) (1 - p)
  else s

end Sys2Proof.Machine
end

