-- ==== Sys2Proof/Machine/Trigger.lean ====
section
/-! DEFINITION. Triggers: event sources, the merge, the trigger logic and sequencer, arming and hold-off, the trigger
log, TRIG_OUT, remote triggers. -/

namespace Sys2Proof.Machine

/-! ### The grid and its settings -/

/-- The settings under which TRG decides a slot delivered at `delivered`: those in force on that edge (R248). -/
def State.trgView (s : State) (delivered : Stamp) : View' := fun f =>
  if delivered.toNat < s.trg.applyEdge.toNat then bitsOf (SMap.get appliedDefault s.trg.oldApplied f.addr) f.lo f.n else s.app f

/-- Lambda of a level or power unit's source: its delay through a DDC, G(D), in FCLK (R211). -/
def ddcDelayV (r : View') (src : Nat) : Nat :=
  if src < 16 then 0 else ceilDiv (chainSpan (r (DDC_CFG.DEC (src - 16))) * fclkHz) (2 * max (chanRateV r) 1) + 32

/-- Samples of a source in FCLK, rounded up (R211). -/
def samplesFclkV (r : View') (src n : Nat) : Nat :=
  ceilDiv (n * 2 ^ (if src < 16 then 0 else r (DDC_CFG.DEC (src - 16))) * fclkHz) (max (chanRateV r) 1)

/-- Lambda of a frequency-mask unit on channel ch (R211). -/
def fmtLambdaV (r : View') (ch : Nat) : Nat :=
  let n := fftLen (r (FFT_SRC_CFG.LEN ch))
  ceilDiv (n * fclkHz) (2 * max (chanRateV r) 1) + n / 4 + 544

/-- Lambda of source i (R211). -/
def lambdaV (r : View') (i : Nat) : Nat :=
  if i < 8 then 24
  else if i < 12 then fmtLambdaV r (r (TRG_FMT_CTRL.SRC_CH (i - 8)))
  else if i < 16 then
    let u := i - 12
    let src := r (TRG_LVL_CTRL.SRC u)
    16 + samplesFclkV r src (r (TRG_LVL_CTRL.MIN_LEN u)) + ddcDelayV r src
  else if i < 20 then 24 + ddcDelayV r (r (TRG_PWR_CTRL.SRC (i - 16)))
  else if i < 22 then fmtLambdaV r (r NEB_CTRL.SRC_CH) + 64
  else if i = 22 then 16
  else 0

/-- L_M of a set-up (R211). -/
def latencyV (r : View') : Nat :=
  max 24 ((bitsIn 24 (r TRG_EN.EN)).foldl (fun m i => max m (lambdaV r i)) 0 + r TRG_WAIT.EXTRA)

/-! ### Events (R207, R208, R213, R214) -/

/-- Source `src` reports an event: it is counted, and queued for the merge unless its queue is full. -/
def State.fileEvent (s : State) (src : Nat) (instant : Stamp) (fine : Option Stamp) (node : Nat) : State :=
  if s.live dTRG && s.appFlag TRG_CTRL.EN && (s.app TRG_EN.EN).testBit src then
    let s := s.bump (TRG_SRC_CNT.EVENTS src)
    if 1024 ≤ (s.trg.events.filter (fun e => e.src == src)).length then
      (s.bump (TRG_SRC_CNT.DROP src)).put TRG_STAT.EVT_DROP 1
    else
      let late := decide (instant.toNat < s.trg.closedTo.toNat)
      let s := if late then s.put TRG_STAT.LATE 1 else s
      { s with trg := { s.trg with events := s.trg.events ++ [⟨src, instant, late, node, fine⟩] } }
  else s

/-! ### Level, power and over-range units (R222 to R227) -/

/-- num / den, as a power ratio in dB, is at or above t/256 dB: exact comparison. -/
def dbGe (num den : Nat) (t : Int) : Bool :=
  if t < 0 then decide (den ^ 2560 ≤ num ^ 2560 * 10 ^ t.natAbs) else decide (den ^ 2560 * 10 ^ t.natAbs ≤ num ^ 2560)

/-- num / den is at or below t/256 dB. -/
def dbLe (num den : Nat) (t : Int) : Bool :=
  if t < 0 then decide (num ^ 2560 * 10 ^ t.natAbs ≤ den ^ 2560) else decide (num ^ 2560 ≤ den ^ 2560 * 10 ^ t.natAbs)

/-- Full-scale power of a source: a magnitude of 2^16 on a channel, 2^22 on a DDC (R222). -/
def fullPower (src : Nat) : Nat := if src < 16 then 2 ^ 32 else 2 ^ 44

/-- How a quantity stands to a level given in THR LSBs. -/
structure Level where
  ge : Int → Bool
  le : Int → Bool

/-- The level comparisons of a power: THR in LOG16. -/
def powerLevel (num den : Nat) : Level := { ge := dbGe num den, le := dbLe num den }

/-- The level comparisons of a component: THR linear, 0x7FFF for full scale (R223). -/
def linearLevel (src : Nat) (x : Int) : Level :=
  let fs : Int := if src < 16 then 65536 else 4194304
  { ge := fun t => decide (t * fs ≤ x * 32767), le := fun t => decide (x * 32767 ≤ t * fs) }

/-- The arming of a crossing by a sample: at or beyond the hysteresis levels (R223). -/
def CrossSt.arm (c : CrossSt) (l : Level) (thr hyst : Int) : CrossSt :=
  { c with low := c.low || l.le (thr - hyst), high := c.high || l.ge (thr + hyst) }

/-- The crossing that a sample makes, if it makes one: whether it rises (R223). -/
def CrossSt.crossing (c : CrossSt) (l : Level) (thr : Int) : Option Bool :=
  if c.low && l.ge thr then some true else if c.high && l.le thr then some false else none

/-- DIR selects a crossing (R223). -/
def dirTakes (dir : Nat) (rising : Bool) : Bool := dir == 2 || (dir == 0 && rising) || (dir == 1 && ! rising)

/-- One sample of a level or power unit under the crossing rules (R223, R224): the new state, and the crossing to report,
as the stamp of its sample and its interpolated instant. -/
def CrossSt.sample (c : CrossSt) (l : Level) (thr hyst : Int) (dir minLen : Nat) (t : Stamp) (interp : Option Stamp) :
    CrossSt × Option (Stamp × Option Stamp) :=
  let fresh (c : CrossSt) : CrossSt × Option (Stamp × Option Stamp) :=
    match c.crossing l thr with
    | some r =>
      let c' := ({ c with low := c.low && ! r, high := c.high && r } : CrossSt).arm l thr hyst
      if dirTakes dir r then
        if minLen = 0 then (c', some (t, interp)) else ({ c' with cand := some (t, interp, r, minLen) }, none)
      else (c', none)
    | none => (c.arm l thr hyst, none)
  let (c', out) := match c.cand with
    | some (t0, i0, r, n) =>
      if (if r then l.ge thr else l.le thr) then
        let c1 := c.arm l thr hyst
        if n ≤ 1 then ({ c1 with cand := none }, some (t0, i0)) else ({ c1 with cand := some (t0, i0, r, n - 1) }, none)
      else fresh { c with cand := none }
    | none => fresh c
  ({ c' with prev := some t }, out)

/-- The interpolated crossing instant between a sample and its predecessor (R226): a free value between their stamps,
since the manual does not give its rounding. -/
def State.interpolate (s : State) (prev : Option Stamp) (t : Stamp) : Stamp × State :=
  match prev with
  | some p => (p + BitVec.ofNat 80 (s.free.toNat % ((t - p).toNat + 1)), s.drawFree)
  | none => (t, s)

/-- LVL unit u takes a sample of its source. -/
def State.lvlSample (s : State) (u : Fin 4) (src : Nat) (x : OutSample) : State :=
  let c := vget s.trg.lvl u
  let thr := toSigned 16 (s.app (TRG_LVL_THR.THR u))
  let h : Int := s.app (TRG_LVL_THR.HYST u) * 16
  let qty := s.app (TRG_LVL_CTRL.QTY u)
  let l := if qty = 0 then powerLevel (x.i * x.i + x.q * x.q).toNat (fullPower src)
    else linearLevel src (if qty = 1 then x.i else x.q)
  let (i, s) := if qty = 0 && (c.crossing l thr).isSome then s.interpolate c.prev x.stamp else (x.stamp, s)
  let r := c.sample l thr h (s.app (TRG_LVL_CTRL.DIR u)) (s.app (TRG_LVL_CTRL.MIN_LEN u)) x.stamp (if qty = 0 then some i else none)
  let s : State := { s with trg := { s.trg with lvl := vset s.trg.lvl u r.1 } }
  match r.2 with
  | some (t, f) => s.fileEvent (12 + u) t f 0
  | none => s

/-- PWR unit u takes a sample of its source (R225). -/
def State.pwrSample (s : State) (u : Fin 4) (src : Nat) (x : OutSample) : State :=
  let c := vget s.trg.pwr u
  let w := 2 ^ (s.app (TRG_PWR_CTRL.W u) * 4 + s.app (TRG_PWR_THR.W_LO u))
  let win := ((x.i * x.i + x.q * x.q).toNat :: c.window).take w
  let c := { c with window := win }
  let thr := toSigned 16 (s.app (TRG_PWR_THR.THR u))
  let r := if win.length < w then (c, none)
    else c.sample (powerLevel win.sum (fullPower src * w)) thr (s.app (TRG_PWR_THR.HYST u) * 16 : Nat)
      (s.app (TRG_PWR_CTRL.DIR u)) 0 x.stamp none
  let s : State := { s with trg := { s.trg with pwr := vset s.trg.pwr u r.1 } }
  match r.2 with
  | some (t, _) => s.fileEvent (16 + u) t none 0
  | none => s

/-- Source i is enabled. -/
def State.trgSrcEn (s : State) (i : Nat) : Bool := s.live dTRG && s.appFlag TRG_CTRL.EN && (s.app TRG_EN.EN).testBit i

/-- A valid sample of source src reaches the level and power units that watch it. -/
def State.trgSample (s : State) (src : Nat) (x : OutSample) : State :=
  (List.finRange 4).foldl (fun (s : State) (u : Fin 4) =>
    let s := if s.trgSrcEn (12 + u) && s.app (TRG_LVL_CTRL.SRC u) == src then s.lvlSample u src x else s
    if s.trgSrcEn (16 + u) && s.app (TRG_PWR_CTRL.SRC u) == src then s.pwrSample u src x else s) s

/-- A valid sample of channel ch reaches the over-range source (R227). -/
def State.trgOvr (s : State) (ch : Fin 4) (x : OutSample) : State :=
  if s.trgSrcEn 22 && (s.app TRG_OVR_CTRL.CH_MASK).testBit ch then
    let hit := x.ovr || (x.thr && s.appFlag TRG_OVR_CTRL.THR_EN) || (x.dsat && s.appFlag TRG_OVR_CTRL.DSAT_EN)
    let n := vget s.trg.ovrClean ch
    let s : State := { s with trg := { s.trg with ovrClean := vset s.trg.ovrClean ch (if hit then 0 else min 64 (n + 1)) } }
    if hit && 64 ≤ n then s.fileEvent 22 x.stamp none 0 else s
  else s

/-- A gap of the samples of source src resets the qualification of the units that watch them (R224, R225, R249). -/
def State.trgGap (s : State) (src : Nat) : State :=
  (List.finRange 4).foldl (fun (s : State) (u : Fin 4) =>
    let t := s.trg
    let t := if s.app (TRG_LVL_CTRL.SRC u) == src then { t with lvl := vset t.lvl u CrossSt.reset } else t
    let t := if s.app (TRG_PWR_CTRL.SRC u) == src then { t with pwr := vset t.pwr u CrossSt.reset } else t
    { s with trg := if u.val == src then { t with ovrClean := vset t.ovrClean u 0 } else t }) s

/-- A gap record of the spectra of channel ch: the predecessor counts as passing, the density counts restart (R219, R229,
R249). -/
def State.trgSpecGap (s : State) (ch : Nat) : State :=
  let s := (List.finRange 4).foldl (fun (s : State) (u : Fin 4) =>
    if s.app (TRG_FMT_CTRL.SRC_CH u) == ch then { s with trg := { s.trg with fmtFail := vset s.trg.fmtFail u false } } else s) s
  if s.app NEB_CTRL.SRC_CH == ch then
    { s with trg := { s.trg with denHits := Vector.replicate 2 [], denFired := Vector.replicate 2 false } }
  else s

/-- Every source's qualification state restarts (R248). -/
def State.trgQualReset (s : State) : State :=
  { s with trg := { s.trg with
      lvl := Vector.replicate 4 CrossSt.reset, pwr := Vector.replicate 4 CrossSt.reset, fmtFail := Vector.replicate 4 false
      ovrClean := Vector.replicate 4 0, denHits := Vector.replicate 2 [], denFired := Vector.replicate 2 false } }

/-! ### Frequency masks (R216 to R221) -/

/-- The limits of bin b in mask table t: LOWER and UPPER. -/
def State.maskLimits (s : State) (t b : Nat) : Int × Int :=
  let w := s.sramLE (0x06900000 + t * 0x40000 + b * 4) 4
  (toSigned 16 (w % 65536), toSigned 16 (w / 65536))

/-- How far LOG16 value `l` lies beyond the limits of bin b; none where it lies within them. -/
def State.maskExcess (s : State) (t b : Nat) (l : Int) : Option Nat :=
  let (lo, up) := s.maskLimits t b
  if up < l then some (max (l - up) (lo - l)).toNat
  else if l < lo then some (lo - l).toNat
  else none

/-- The violating bins of a spectrum against a table: bin and excess, in ascending order. -/
def State.maskViolations (s : State) (t first : Nat) (l : List Int) : List (Nat × Nat) :=
  (l.zipIdx first).filterMap (fun x => (s.maskExcess t x.2 x.1).map (fun e => (x.2, e)))

/-- An ungated spectrum of channel ch, as LOG16 over all its bins, reaches FMT unit m, with the stamp of its centre
sample. The verdict also reaches ACQ (R276). -/
def State.fmtSpectrum (s : State) (m : Fin 4) (ch : Nat) (l : List Int) (centre : Stamp) : State :=
  if s.trgSrcEn (8 + m) && s.app (TRG_FMT_CTRL.SRC_CH m) == ch then
    let first := s.app (TRG_FMT_RANGE.FIRST_BIN m)
    let v := s.maskViolations (s.app (TRG_FMT_CTRL.TABLE m)) first ((l.drop first).take (s.app (TRG_FMT_RANGE.NBM1 m) + 1))
    let failed := decide (s.app (TRG_FMT_CTRL.MIN_BINS m) ≤ v.length)
    let was := vget s.trg.fmtFail m
    let s : State := { s with trg := { s.trg with fmtFail := vset s.trg.fmtFail m failed } }
    let s := if failed then
        (s.put (TRG_FMT_STAT.BIN m) ((v.head?.map (·.1)).getD 0)).put (TRG_FMT_STAT.EXCESS m)
          (min 65535 (v.foldl (fun a x => max a x.2) 0))
      else s
    let hit := match s.app (TRG_FMT_CTRL.QUAL m) with
      | 0 => failed && ! was
      | 1 => failed
      | _ => ! failed && was
    (if hit then s.fileEvent (8 + m) centre none 0 else s).acqVerdict m ch failed centre
  else s

/-! ### TRIG_OUT (R246) -/

/-- The levels of TRIG_OUT from SEL, POL, the arming and the running pulses. -/
def State.trigLevels (s : State) : State :=
  let level (k : Fin 4) : Bool :=
    let active := match s.app (TRG_OUT_CTRL.SEL k) with
      | 0 => false
      | 3 => s.flag TRG_STAT.ARMED
      | _ => (vget s.trg.outEnd k).isSome
    active != s.appFlag (TRG_OUT_CTRL.POL k)
  { s with pins := { s.pins with trigOut := BitVec.ofNat 4 ((List.finRange 4).foldl (fun (m : Nat) (k : Fin 4) => setBit m k (level k)) 0) } }

/-- A pulse on TRIG_OUTk starts at t: one that starts while the output is active extends it to the later end. -/
def State.pulseStart (s : State) (k : Fin 4) (t : Stamp) : State :=
  let e := t + BitVec.ofNat 80 (s.app (TRG_OUT_CTRL.WIDTH k) * 125 * 2 ^ 40 / 10000000000)
  let e := match vget s.trg.outEnd k with
    | some x => if e.toNat < x.toNat then x else e
    | none => e
  ({ s with trg := { s.trg with outEnd := vset s.trg.outEnd k (some e) } } : State).trigLevels

/-- A pulse on TRIG_OUTk is due TRG_OUT_DELAY after `instant`, decided at `at_`: past its time it starts at once. -/
def State.schedulePulse (s : State) (k : Fin 4) (instant at_ : Stamp) : State :=
  let t := instant + BitVec.ofNat 80 (fclkStamp (s.app (TRG_OUT_DELAY.DELAY k)))
  if t.toNat < at_.toNat then (s.put TRG_STAT.OUT_LATE 1).pulseStart k at_
  else { s with trg := { s.trg with pulses := vmod s.trg.pulses k (fun l => l ++ [t]) } }

/-! ### The sequencer (R236) -/

/-- A slot resolved in WAIT_A: accepted or not. -/
def State.seqWaitA (s : State) (v : View') (stamp : Stamp) (a b : Bool) : Bool × State :=
  if ! a then (false, s)
  else
    let s1 := (({ s with trg := { s.trg with stampA := stamp } } : State).put TRG_STAT.B_SEEN 0).put TRG_STAT.WAIT_B 1
    if b && v TRG_SEQ.SAME_OK == 1 && v TRG_SEQ_MIN.WIN_MIN == 0 then
      if v TRG_SEQ.B_COUNT == 1 then (true, (s1.put TRG_STAT.B_SEEN 0).put TRG_STAT.WAIT_B 0) else (false, s1.put TRG_STAT.B_SEEN 1)
    else (false, s1)

/-- The sequencer resolves a slot with the cause mask `mask`: acceptance and the final B delay. -/
def State.seqStep (s : State) (v : View') (stamp : Stamp) (mask : Nat) : Bool × Nat × State :=
  let a := (mask &&& v TRG_SEQ_A.MASK) != 0
  let b := (mask &&& v TRG_SEQ_B.MASK) != 0
  let r := (mask &&& v TRG_SEQ_R.MASK) != 0
  let toA (s : State) : State := (s.put TRG_STAT.WAIT_B 0).put TRG_STAT.B_SEEN 0
  if s.flag TRG_STAT.WAIT_B then
    let delay := stampFclk (stamp - s.trg.stampA).toNat
    if v TRG_SEQ_MAX.WIN_MAX != 0 && decide (v TRG_SEQ_MAX.WIN_MAX < delay) then
      let (acc, s) := (toA s).seqWaitA v stamp a b
      (acc, 0, s)
    else if r then
      let (acc, s) := (toA s).seqWaitA v stamp a false
      (acc, 0, s)
    else
      let counts := b && decide (v TRG_SEQ_MIN.WIN_MIN ≤ delay)
      let n := s.get TRG_STAT.B_SEEN + b2n counts
      if counts && decide (v TRG_SEQ.B_COUNT ≤ n) then (true, delay, toA s)
      else
        let s := s.put TRG_STAT.B_SEEN n
        if a && v TRG_SEQ.RESTART_ON_A == 1 then
          (false, 0, ({ s with trg := { s.trg with stampA := stamp } } : State).put TRG_STAT.B_SEEN 0)
        else (false, 0, s)
  else
    let (acc, s) := s.seqWaitA v stamp a b
    (acc, 0, s)

/-! ### Slots -/

/-- The earliest event of a source among those of a slot; on a tie the lower node (R209, R232). -/
def earliest (es : List TrgEvent) (src : Nat) : Option TrgEvent :=
  (es.filter (fun e => e.src == src)).foldl (fun o e => match o with
    | none => some e
    | some x => if e.instant.toNat < x.instant.toNat || (e.instant == x.instant && e.node < x.node) then some e else some x) none

/-- The slot is in hold-off (R243). -/
def State.inHoldoff (s : State) (v : View') (stamp : Stamp) : Bool :=
  match s.trg.holdBase with
  | some b => v TRG_CTRL.HO_MODE != 0 && decide (stamp.toNat * fclkHz < b.toNat * fclkHz + v TRG_HOLDOFF.HOLDOFF * 2 ^ 40)
  | none => false

/-- AUTO falls in the slot: the timer has expired and the stamp is AUTO_TIME after the base (R242). -/
def State.autoFalls (s : State) (v : View') (stamp : Stamp) : Bool :=
  let base := max ((s.trg.lastAccept.map (·.toNat)).getD 0) ((s.trg.armSlot.map (·.toNat)).getD stamp.toNat)
  s.trg.autoDue && v TRG_CTRL.MODE == 1 && decide (base * 1000000 + v TRG_AUTO.AUTO_TIME * 2 ^ 40 ≤ stamp.toNat * 1000000)

/-- A trigger is accepted: counted, recorded, passed to ACQ, logged, put out, sent to the Constellation (R231, R237,
R243, R244, R245). -/
def State.trgAccept (s : State) (v : View') (es : List TrgEvent) (mask : Nat) (stamp at_ : Stamp) (seq noref keepArmed : Bool)
    (delay : Nat) : State :=
  let primary := (bitsIn 26 mask).headD 0
  let ev := earliest es primary
  let inst : Int := match ev.bind (·.fine) with | some t => t.toNat | none => stamp.toNat
  let fine := clampInt (-2147483648) 2147483647 (inst - stamp.toNat)
  let s := s.bumpWrap TRG_CNT_ACCEPT.ACCEPT
  let r : TrgRec :=
    { cause := mask, node := if primary = 23 then ((ev.map (·.node)).getD 0) else s.get CST_NODE.ID, tq := s.tq, seq := seq,
      noref := noref, late := es.any (·.late), primary := primary, stamp := stamp, fine := fine,
      no := s.get TRG_CNT_ACCEPT.ACCEPT, delay := delay }
  let s := (s.riseIrq TRG_STAT.ACCEPTED 88).injTrigger
  let s := s.acqTrigger r
  let s := if s.trg.log.length < 256 then { s with trg := { s.trg with log := s.trg.log ++ [r] } } else s.put TRG_STAT.LOG_OVF 1
  let out : Stamp := BitVec.ofInt 80 (stamp.toNat + fine)
  let s := (List.finRange 4).foldl (fun (s : State) (k : Fin 4) => if v (TRG_OUT_CTRL.SEL k) == 1 then s.schedulePulse k out at_ else s) s
  let s : State := { s with trg := { s.trg with
    lastAccept := some stamp, holdBase := some stamp, autoDue := false } }
  let s := if v TRG_REM_CTRL.TX_EN == 1 && primary != 23 then
      s.floodStart (v TRG_REM_CTRL.TX_ID) out (s.get CST_NODE.ID) mask else s
  let s := (s.put TRG_STAT.WAIT_B 0).put TRG_STAT.B_SEEN 0
  if v TRG_CTRL.MODE == 2 && ! keepArmed then s.put TRG_STAT.ARMED 0 else s

/-- The trigger logic over one slot (R234): `mask` its cause mask with SOFT and AUTO, `armed` its arming. -/
def State.trgLogic (s : State) (v : View') (es : List TrgEvent) (mask : Nat) (stamp at_ : Stamp)
    (noref armed hold keepArmed : Bool) : State :=
  if mask.testBit 24 then s.trgAccept v es mask stamp at_ false noref keepArmed 0
  else if ! armed then if mask != 0 then s.bump TRG_CNT_SUPP.DISARMED else s
  else if mask.testBit 25 then s.trgAccept v es mask stamp at_ false noref false 0
  else if hold then
    if mask != 0 then
      let s := s.bump TRG_CNT_SUPP.HOLDOFF
      if v TRG_CTRL.HO_MODE == 2 then { s with trg := { s.trg with holdBase := some stamp } } else s
    else s
  else if v TRG_CTRL.LOGIC == 0 then if mask != 0 then s.trgAccept v es mask stamp at_ false noref false 0 else s
  else
    let (acc, delay, s) := s.seqStep v stamp mask
    if acc then s.trgAccept v es mask stamp at_ true noref false delay else s

/-- What the first slot delivered under new settings, and a waiting SEQ_RESET, do before a slot is decided (R237, R248). -/
def State.slotOpen (s : State) (delivered : Stamp) : State :=
  let toA (s : State) : State := (s.put TRG_STAT.WAIT_B 0).put TRG_STAT.B_SEEN 0
  let s := if s.trg.fresh && decide (s.trg.applyEdge.toNat ≤ delivered.toNat) then
      let s := toA s.trgQualReset
      { s with trg := { s.trg with fresh := false } }
    else s
  match s.trg.seqReset with
  | some t => if t.toNat ≤ delivered.toNat then { toA s with trg := { s.trg with seqReset := none } } else s
  | none => s

/-- SLOT_DECIDE: the slot stamped `stamp`, before the slot stamped `next`, whose reference sample FCV delivered at
`delivered`, closes on the real or the virtual grid (R209, R210, R215, R234). DESIGN CHOICE (log entry 45).
DEDUCED (log entry 46). DEDUCED (log entry 47). DEDUCED (log entry 104). -/
def execSlotDecide (stamp next delivered : Stamp) (real : Bool) (s : State) : Out :=
  .next (
    let v := s.trgView delivered
    if s.live dTRG && v TRG_CTRL.EN == 1 && decide (s.trg.closedTo.toNat ≤ stamp.toNat) && decide (stamp.toNat < next.toNat) then
      let s := s.slotOpen delivered
      let es := s.trg.events.filter (fun e => decide (e.instant.toNat < next.toNat))
      let soft := s.trg.softs.filter (fun x => decide (x.1.toNat ≤ delivered.toNat))
      let s : State := { s with trg := { s.trg with
        events := s.trg.events.filter (fun e => decide (next.toNat ≤ e.instant.toNat)), closedTo := next
        softs := s.trg.softs.filter (fun x => decide (delivered.toNat < x.1.toNat)) } }
      let s := s.putB TRG_STAT.NOREF (! real)
      let armed := s.flag TRG_STAT.ARMED && decide (s.trg.armFrom.toNat ≤ delivered.toNat)
      let s : State := if armed && s.trg.armSlot.isNone then { s with trg := { s.trg with armSlot := some stamp } } else s
      let real_ := (List.range 24).foldl (fun m i => if es.any (fun e => e.src == i) then setBit m i true else m) 0
      let mask := real_ + (if soft.isEmpty then 0 else 2 ^ 24) + (if armed && s.autoFalls v stamp then 2 ^ 25 else 0)
      let at_ := delivered + BitVec.ofNat 80 (fclkStamp (s.get TRG_LATENCY.L_M))
      let s := (List.finRange 4).foldl (fun (s : State) (k : Fin 4) =>
        if v (TRG_OUT_CTRL.SEL k) == 2 then
          match earliest es (v (TRG_OUT_CTRL.SRC k)) with
          | some e => s.schedulePulse k e.instant at_
          | none => s
        else s) s
      let hold := s.inHoldoff v stamp
      let s := s.putB TRG_STAT.HOLDOFF hold
      (s.trgLogic v es mask stamp at_ (! real) armed hold (soft.any (·.2))).trigLevels
    else s)

/-- AUTO_TIMER: AUTO_TIME has passed since the base: AUTO waits for its slot (R242). DEDUCED (log entry 47). -/
def execAutoTimer (s : State) : Out :=
  .next (
    if s.live dTRG && s.appFlag TRG_CTRL.EN && s.app TRG_CTRL.MODE == 1 && s.flag TRG_STAT.ARMED then
      { s with trg := { s.trg with autoDue := true } }
    else s)

/-! ### Commands (R237, R239 to R241, R245) -/

/-- TRG arms at `t` (R239). -/
def State.trgArmAt (s : State) (t : Stamp) : State :=
  (({ s with trg := { s.trg with armFrom := t, armSlot := none } } : State).put TRG_STAT.ARMED 1).trigLevels

/-- The TRG registers' own rules: TRG_CMD as R240 and R245 resolve it. -/
def trgRules : WriteRules :=
  { pre := fun s _ a w => if a == TRG_CMD.addr && w.toNat.testBit 0 && s.flag TRG_STAT.ARMED then some .busy else none
    act := fun _ a w s =>
      if a == TRG_CMD.addr then
        let arm := w.toNat.testBit 0
        let force := w.toNat.testBit 1
        let pop := w.toNat.testBit 2
        if (arm || force) && ! s.appFlag TRG_CTRL.EN then .error .sequence
        else if pop && s.trg.log.isEmpty then .error .sequence
        else
          let s : State := if force then { s with trg := { s.trg with softs := s.trg.softs ++ [(s.now, arm)] } } else s
          let s := if arm then s.trgArmAt s.now else s
          let s : State := if pop then { s with trg := { s.trg with log := s.trg.log.tail } } else s
          .ok (if w.toNat.testBit 3 then { s with trg := { s.trg with seqReset := some s.now } } else s)
      else if (List.range 4).any (fun u => a == TRG_PWR_CTRL.addr u || a == TRG_PWR_THR.addr u)
          && (List.range 4).any (fun u => decide (20 < s.get (TRG_PWR_CTRL.W u) * 4 + s.get (TRG_PWR_THR.W_LO u))) then .error .range
      else .ok s }

/-- TRG_ARM (R239, R240). DEDUCED (log entry 5). -/
def execTrgArm (src : Source) (v : Word) (s : State) : Out := .next (s.writeReg trgRules src TRG_CMD.addr (v ||| 1))

/-- TRG_FORCE (R240, R241). -/
def execTrgForce (src : Source) (v : Word) (s : State) : Out := .next (s.writeReg trgRules src TRG_CMD.addr (v ||| 2))

/-- TRG_LOG_POP (R245). -/
def execTrgLogPop (src : Source) (v : Word) (s : State) : Out := .next (s.writeReg trgRules src TRG_CMD.addr (v ||| 4))

/-- SEQ_RESET (R237). -/
def execSeqReset (src : Source) (v : Word) (s : State) : Out := .next (s.writeReg trgRules src TRG_CMD.addr (v ||| 8))

/-- TRIG_OUT_PULSE: the pulse that TRIG_OUTk has scheduled for t starts (R246). -/
def execTrigOutPulse (k : Fin 4) (t : Stamp) (s : State) : Out :=
  .next (
    if s.live dTRG && (vget s.trg.pulses k).contains t then
      ({ s with trg := { s.trg with pulses := vmod s.trg.pulses k (fun l => l.erase t) } } : State).pulseStart k t
    else s)

/-- TRIG_OUT_END: the pulse on TRIG_OUTk ends (R246). -/
def execTrigOutEnd (k : Fin 4) (s : State) : Out :=
  .next (
    if s.live dTRG && (vget s.trg.outEnd k).isSome then
      ({ s with trg := { s.trg with outEnd := vset s.trg.outEnd k none } } : State).trigLevels
    else s)

/-- REMOTE_TRIGGER_RX: a trigger message arrives on port p with a TX_ID, the originating instant and node, the cause mask
and, in a ring, the hops that remain. It is sent on (R504). One whose TX_ID RX_MASK accepts is an event of REMOTE,
TRG_REM_DELAY later; an engine takes none of its own (R208, R231, R232). -/
def execRemoteTriggerRx (p : Fin 4) (txId : BitVec 4) (instant : Stamp) (node : BitVec 14) (cause : BitVec 26) (hops : Nat)
    (s : State) : Out :=
  .next (
    if ! s.cstValid || node.toNat == s.get CST_NODE.ID then s
    else
      let s := s.floodOn p txId.toNat instant node.toNat cause.toNat hops
      if (s.app TRG_REM_CTRL.RX_MASK).testBit txId.toNat then
        let t := instant + BitVec.ofNat 80 (fclkStamp (s.app TRG_REM_DELAY.DELAY))
        s.fileEvent 23 t (some t) node.toNat
      else s)

/-- TRG takes an apply edge (R211, R239, R247, R248): `old` holds the applied words before it. -/
def State.trgApply (s : State) (old : State) : State :=
  let was := old.appFlag TRG_CTRL.EN
  let on := s.appFlag TRG_CTRL.EN
  let s : State := { s with trg := { s.trg with oldApplied := old.applied, applyEdge := s.now, fresh := true } }
  let lm := latencyV s.app
  let s := s.put TRG_LATENCY.L_M lm
  let s := s.put TRG_OUT_MIN.OUT_MIN (lm + 8 + Config.frontLatency (s.app TRG_CTRL.REF_CH))
  if on && ! was && s.app TRG_CTRL.MODE != 2 then s.trgArmAt s.now
  else if ! on && was then (s.put TRG_STAT.ARMED 0).trigLevels
  else s.trigLevels

end Sys2Proof.Machine
end

