-- ==== Sys2Proof/Machine/Neb.lean ====
section
/-! DEFINITION. The Nebula density engine: requests, swap edges, publications, holds, accumulation; and the density
trigger units. -/

namespace Sys2Proof.Machine

/-! ### From spectrum to cells (R289 to R292) -/

/-- One of a spectrum's bins. -/
def binAt (l : List Int) (i : Nat) : Int := (l[i]?).getD 0

/-- A column's level where bins are reduced: RMODE over its bins (R290). -/
def reduceBins (rmode : Nat) (l : List Int) : Int :=
  match rmode with
  | 0 => l.foldl max (l.headD 0)
  | 1 => l.foldl min (l.headD 0)
  | 2 => l.sum / (max l.length 1 : Nat)
  | _ => l.headD 0

/-- The level of column c of `cols` from the mapped bins `l` (R290, R291). -/
def columnLevel (rmode fill cols : Nat) (l : List Int) (c : Nat) : Int :=
  let n := l.length
  if cols ≤ n then
    let a := c * n / cols
    reduceBins rmode ((l.drop a).take ((c + 1) * n / cols - a))
  else
    let num : Int := ((2 * c + 1) * n : Nat) - (cols : Int)
    let d : Int := (2 * cols : Nat)
    if fill = 0 then binAt l (clampInt 0 ((n : Int) - 1) ((num + cols) / d)).toNat
    else if num ≤ 0 then binAt l 0
    else if ((n : Int) - 1) * d ≤ num then binAt l (n - 1)
    else
      let i := (num / d).toNat
      let f := num - (i : Int) * d
      (2 * (binAt l i * d + f * (binAt l (i + 1) - binAt l i)) + d) / (2 * d)

/-- The row of a level, if the column receives a cell (R292). -/
def levelRow (top step : Int) (rows clip : Nat) (x : Int) : Option Nat :=
  let r := (top - x) / step
  if 0 ≤ r ∧ r < rows then some r.toNat
  else if clip = 0 then some (clampInt 0 ((rows : Int) - 1) r).toNat
  else none

/-- The cells (column, row) that a spectrum's LOG16 bins occupy under a view of the settings (R306). -/
def nebCells (v : View') (l : List Int) : List (Nat × Nat) :=
  let cols := v NEB_GEOM.COLS_M1 + 1
  let bins := (l.drop (v NEB_RANGE.FIRST_BIN)).take (v NEB_RANGE.NBM1 + 1)
  (List.range cols).filterMap (fun c =>
    (levelRow (toSigned 16 (v NEB_LEVEL.TOP)) (v NEB_LEVEL.STEP : Nat) (v NEB_GEOM.ROWS_M1 + 1) (v NEB_CTRL.CLIP)
      (columnLevel (v NEB_CTRL.RMODE) (v NEB_CTRL.FILL) cols bins c)).map (fun r => (c, r)))

/-- The spectrum rate of a channel's FFT source over a denominator: samples per second and hop (R164). -/
def hopV (r : View') (src : Nat) : Nat := fftLen (r (FFT_SRC_CFG.LEN src)) / 2 ^ r (FFT_SRC_CFG.HOP src)

/-- The decimation k of a set-up (R293). -/
def nebKV (r : View') : Nat :=
  max (r NEB_DEC.KMIN) (ceilDiv ((r NEB_GEOM.COLS_M1 + 1) * chanRateV r) (max (hopV r (r NEB_CTRL.SRC_CH)) 1 * 81920000000))

/-! ### Rasters -/

abbrev nebWorking : Nat := 0x02800000
abbrev nebPublished : Nat := 0x03000000
/-- The byte offset of a cell. -/
def cellOfs (c r : Nat) : Nat := r * 0x2000 + c * 4

/-- One hit on cell (c, r) of the working raster: saturating (R288). -/
def State.nebHit (s : State) (shift : Nat) (x : Nat × Nat) : State :=
  let a := nebWorking + cellOfs x.1 x.2
  let w := s.sramLE a 4 + 2 ^ shift
  if w < 2 ^ 32 then s.setSramLE a 4 w
  else
    let s := (s.setSramLE a 4 (2 ^ 32 - 1)).put NEB_STAT.SAT 1
    { s with neb := { s.neb with cur := { s.neb.cur with sat := true } } }

/-- The offsets of the raster cells of a view that either raster lists: every other cell holds 0 in both. -/
def State.listedCells (s : State) (v : View') : List Nat :=
  let cols := v NEB_GEOM.COLS_M1 + 1
  let rows := v NEB_GEOM.ROWS_M1 + 1
  let f (base : Nat) : List Nat :=
    (s.sram.keys.filter (fun a => decide (base ≤ a) && decide (a < base + 0x800000))).map (fun a => (a - base) / 4 * 4)
  ((f nebWorking ++ f nebPublished).filter (fun o => decide (o % 0x2000 / 4 < cols) && decide (o / 0x2000 < rows))).eraseDups

/-- What persistence leaves of a cell (R296). -/
def persist (v : View') (clear : Bool) (x : Nat) : Nat :=
  if clear then 0 else match v NEB_CTRL.PERSIST with | 0 => 0 | 1 => x * v NEB_PERSIST.DF / 65536 | _ => x

/-- The copy pass of a swap edge: publish and persist every cell (R296, R297). -/
def State.copyPass (s : State) (v : View') (clear : Bool) : State :=
  (s.listedCells v).foldl (fun s o =>
    let w := s.sramLE (nebWorking + o) 4
    (s.setSramLE (nebPublished + o) 4 w).setSramLE (nebWorking + o) 4 (persist v clear w)) s

/-- The working raster cleared (R301). -/
def State.clearRaster (s : State) (v : View') : State :=
  (s.listedCells v).foldl (fun s o => s.setSramLE (nebWorking + o) 4 0) s

/-! ### Requests and swap edges (R296 to R300) -/

/-- The settings in force for the open period. -/
def State.nebView (s : State) : View' := fun f => bitsOf (SMap.get appliedDefault s.neb.settings f.addr) f.lo f.n

/-- A swap edge. -/
def State.nebSwap (s : State) (clear : Bool) : State :=
  let v := s.nebView
  let p : NebPub := { period := s.neb.cur, t1 := s.now, k := s.get NEB_STAT.K, colour := SMap.get appliedDefault s.neb.settings NEB_COLOUR.addr
                      geom := SMap.get appliedDefault s.neb.settings NEB_GEOM.addr }
  let s := s.copyPass v clear
  let s : State := { s with neb := { s.neb with
    pub := some p, waitClear := false, cur := { NebPeriod.reset with t0 := s.now, cleared := clear } } }
  let s : State := if s.neb.settleAsked then
      { s with neb := { s.neb with settings := s.applied, settle := false, settleAsked := false, settleClear := false } }
    else s
  (s.put NEB_STAT.PUB_BUSY 1).put NEB_STAT.PENDING 0

/-- No publication is in progress and no read lock is held. A compositor's request is granted on the edge on which no
publication is in progress (R315). -/
def State.nebFree (s : State) : Bool := ! s.flag NEB_STAT.PUB_BUSY && ! s.flag NEB_STAT.HELD && ! s.neb.dpyLock && ! s.neb.dpyWant

/-- A swap request (R298, R299). With Nebula disabled no publication takes place (R301). -/
def State.nebRequest (s : State) (clear : Bool) : State :=
  if ! (s.live dNEB && s.appFlag NEB_CTRL.EN) then s
  else if s.flag NEB_STAT.PENDING then
    ({ s with neb := { s.neb with waitClear := s.neb.waitClear || clear } } : State).bump NEB_CNT.MERGED
  else if s.nebFree then s.nebSwap clear
  else ({ s with neb := { s.neb with waitClear := clear } } : State).put NEB_STAT.PENDING 1

/-- NEB_TIMER (R298). -/
def execNebTimer (s : State) : Out := .next (if s.app NEB_CTRL.SWAP_SRC == 0 then s.nebRequest false else s)

/-- SWAP_EDGE: the waiting request becomes a swap edge (R299). DEDUCED (log entry 50). DEDUCED (log entry 51). -/
def execSwapEdge (s : State) : Out :=
  .next (if s.live dNEB && s.appFlag NEB_CTRL.EN && s.flag NEB_STAT.PENDING && s.nebFree then s.nebSwap s.neb.waitClear else s)

/-- PUBLICATION_COMPLETE (R297, R300). DEDUCED (log entry 50). -/
def execPublicationComplete (s : State) : Out :=
  .next (
    match s.neb.pub with
    | some p =>
      if s.live dNEB then
        let s : State := { s with neb := { s.neb with
          pub := none, everPub := true, pubUndef := false, pubGeom := p.geom } }
        let s := (s.put NEB_STAT.PUB_BUSY 0).bumpWrap NEB_PUB_SEQ.PUB_SEQ
        let s := s.put NEB_PUB_COUNT.COUNT (min p.period.count (2 ^ 32 - 1))
        let s := ((s.put NEB_PUB_FLAGS.K p.k).putB NEB_PUB_FLAGS.SAT p.period.sat).putB NEB_PUB_FLAGS.CLEARED p.period.cleared
        let s := ((s.putB NEB_PUB_FLAGS.GAP p.period.gap).putB NEB_PUB_FLAGS.DSAT p.period.dsat).putB NEB_PUB_FLAGS.THR p.period.thr
        let s := (s.putB NEB_PUB_FLAGS.OVR p.period.ovr).setWord NEB_PUB_COLOUR.addr p.colour
        let s := (s.putStamp NEB_PUB_T0.addr p.period.t0).putStamp NEB_PUB_T1.addr p.t1
        let s := s.raiseIrq 89
        if s.flag NEB_STAT.HOLD_WAIT then (s.put NEB_STAT.HOLD_WAIT 0).put NEB_STAT.HELD 1 else s
      else s
    | none => s)

/-- HOLD_EXPIRED (R300). -/
def execHoldExpired (s : State) : Out :=
  .next (if s.live dNEB && s.flag NEB_STAT.HELD then (s.put NEB_STAT.HELD 0).put NEB_STAT.HOLD_EXPIRED 1 else s)

/-- The NEB registers' own rules: NEB_CMD (R298, R300). -/
def nebRules : WriteRules :=
  { pre := fun s _ a w =>
      if a == NEB_CMD.addr && w.toNat.testBit 2 && ! w.toNat.testBit 3 && (s.flag NEB_STAT.HELD || s.flag NEB_STAT.HOLD_WAIT) then
        some .busy
      else none
    act := fun _ a w s =>
      if a == NEB_CMD.addr then
        let hold := w.toNat.testBit 2
        let release := w.toNat.testBit 3
        if hold && release then .error .conflict
        else if release && ! s.flag NEB_STAT.HELD && ! s.flag NEB_STAT.HOLD_WAIT then .error .sequence
        else
          let s := if release then (s.put NEB_STAT.HELD 0).put NEB_STAT.HOLD_WAIT 0 else s
          let s := if w.toNat.testBit 0 || w.toNat.testBit 1 then s.nebRequest (w.toNat.testBit 1) else s
          .ok (if hold then if s.flag NEB_STAT.PUB_BUSY then s.put NEB_STAT.HOLD_WAIT 1 else s.put NEB_STAT.HELD 1 else s)
      else .ok s }

/-- NEB_SWAP (R298). -/
def execNebSwap (src : Source) (v : Word) (s : State) : Out := .next (s.writeReg nebRules src NEB_CMD.addr (v ||| 1))

/-- NEB_CLEAR (R298). DEDUCED (log entry 51). -/
def execNebClear (src : Source) (v : Word) (s : State) : Out := .next (s.writeReg nebRules src NEB_CMD.addr (v ||| 2))

/-- NEB_HOLD (R300). -/
def execNebHold (src : Source) (v : Word) (s : State) : Out := .next (s.writeReg nebRules src NEB_CMD.addr (v ||| 4))

/-- NEB_RELEASE (R300). -/
def execNebRelease (src : Source) (v : Word) (s : State) : Out := .next (s.writeReg nebRules src NEB_CMD.addr (v ||| 8))

/-! ### Accumulation (R288, R294, R307, R308) -/

/-- A spectrum is accumulated under a view: its hits, its flags, its count, and the request of the COUNT source. -/
def State.nebAccumulate (s : State) (v : View') (l : List Int) (ovr thr dsat : Bool) : State :=
  let s := (nebCells v l).foldl (fun s x => s.nebHit (v NEB_CTRL.HIT_SHIFT) x) s
  let c := s.neb.cur
  let s : State := { s with neb := { s.neb with
    cur := { c with count := c.count + 1, ovr := c.ovr || ovr, thr := c.thr || thr, dsat := c.dsat || dsat } } }
  if v NEB_CTRL.SWAP_SRC == 2 && s.neb.cur.count % 2 ^ v NEB_PERIOD.CEXP == 0 then s.nebRequest false else s

/-- The PEAK group in progress is accumulated, if there is one (R294). -/
def State.nebGroupEnd (s : State) (v : View') : State :=
  match s.neb.group with
  | some g => ({ s with neb := { s.neb with group := none } } : State).nebAccumulate v g.maxima g.ovr g.thr g.dsat
  | none => s

/-- One spectrum of the source channel in PEAK mode. -/
def State.nebPeak (s : State) (v : View') (seq : Nat) (gated : Bool) (l : List Int) (ovr thr dsat : Bool) : State :=
  let k := max (s.get NEB_STAT.K) 1
  let g := seq / k
  let s := match s.neb.group with
    | some x => if x.g = g then s else s.nebGroupEnd v
    | none => s
  let s : State := if gated then s else
    let x : NebGroup := match s.neb.group with
      | some x => { x with maxima := List.zipWith max x.maxima l, ovr := x.ovr || ovr, thr := x.thr || thr, dsat := x.dsat || dsat }
      | none => { g := g, maxima := l, ovr := ovr, thr := thr, dsat := dsat }
    { s with neb := { s.neb with group := some x } }
  if seq % k = k - 1 then s.nebGroupEnd v else s

/-- Density unit d sees an ungated spectrum's cells (R228, R306). -/
def State.denSpectrum (s : State) (d : Fin 2) (cells : List (Nat × Nat)) (centre : Stamp) : State :=
  if s.trgSrcEn (20 + d) then
    let hit := cells.any (fun x =>
      decide (s.app (TRG_DEN_COLS.COL_LO d) ≤ x.1) && decide (x.1 ≤ s.app (TRG_DEN_COLS.COL_HI d))
        && decide (s.app (TRG_DEN_ROWS.ROW_LO d) ≤ x.2) && decide (x.2 ≤ s.app (TRG_DEN_ROWS.ROW_HI d)))
    let old := vget s.trg.denHits d
    let now := (hit :: old).take (2 ^ s.app (TRG_DEN_CTRL.W d))
    let c0 := old.count true
    let c := now.count true
    let th := s.app (TRG_DEN_THRESH.THRESH d)
    let held := vget s.trg.denFired d && decide (s.app (TRG_DEN_REARM.REARM d) < c)
    let fire := hit && ! held && decide (c0 < th) && decide (th ≤ c)
    let s : State := { s with trg := { s.trg with denHits := vset s.trg.denHits d now, denFired := vset s.trg.denFired d (held || fire) } }
    if fire then s.fileEvent (20 + d) centre none 0 else s
  else s

/-- A main-pipe spectrum of channel ch reaches Nebula and the density units on its release edge: its SEQ, the edge on
which its first sample arrived, the stamp of its centre sample, whether it is gated, its LOG16 bins and flags. -/
def State.nebSpectrum (s : State) (ch seq : Nat) (begun centre : Stamp) (gated : Bool) (l : List Int) (ovr thr dsat : Bool) :
    State :=
  if ! s.live dNEB then s
  else
    let new := s.neb.settle && decide (s.neb.applyEdge.toNat ≤ begun.toNat)
    let v := if new then s.app else s.nebView
    if v NEB_CTRL.EN != 1 || v NEB_CTRL.SRC_CH != ch then s
    else
      let cells := nebCells v l
      let s := if gated then s else (List.finRange 2).foldl (fun (s : State) (d : Fin 2) => s.denSpectrum d cells centre) s
      let s := if new && ! s.neb.settleAsked then
          ({ s with neb := { s.neb with settleAsked := true, group := none } } : State).nebRequest s.neb.settleClear
        else s
      if new && s.neb.settle then s.bump NEB_CNT.SETTLE_SKIP
      else if v NEB_CTRL.DEC_MODE == 1 then s.nebPeak v seq gated l ovr thr dsat
      else if ! gated && seq % max (s.get NEB_STAT.K) 1 == 0 then s.nebAccumulate v l ovr thr dsat
      else s

/-- A gap record of channel ch: it marks the open period and ends the PEAK group (R294, R308). -/
def State.nebGap (s : State) (ch : Nat) : State :=
  if s.live dNEB && s.nebView NEB_CTRL.EN == 1 && s.nebView NEB_CTRL.SRC_CH == ch then
    let s := s.nebGroupEnd s.nebView
    { s with neb := { s.neb with cur := { s.neb.cur with gap := true } } }
  else s

/-- NEB registers that hold buffered fields. -/
def nebSettingAddrs : List Nat :=
  [NEB_CTRL.addr, NEB_GEOM.addr, NEB_RANGE.addr, NEB_LEVEL.addr, NEB_PERSIST.addr, NEB_PERIOD.addr, NEB_DEC.addr, NEB_COLOUR.addr,
   NEB_HOLD_MAX.addr]

/-- NEB takes an apply edge (R293, R301, R307): `old` holds the applied words before it. -/
def State.nebApply (s : State) (old : State) : State :=
  let s := s.put NEB_STAT.K (min 255 (nebKV s.app))
  let was := old.appFlag NEB_CTRL.EN
  let on := s.appFlag NEB_CTRL.EN
  let ch := s.app NEB_CTRL.SRC_CH
  let frame := hopV s.app ch != hopV old.app ch || s.app (FFT_SRC_CFG.LEN ch) != old.app (FFT_SRC_CFG.LEN ch)
  let changed := nebSettingAddrs.any (fun a => s.appWord a != old.appWord a) || frame
  if on && ! was then
    let s := (s.clearRaster s.app).put NEB_PUB_SEQ.PUB_SEQ 0
    { s with neb := { s.neb with
        cur := { NebPeriod.reset with t0 := s.now, cleared := true }, pubUndef := true, settings := s.applied, applyEdge := s.now, settle := false
        settleAsked := false, settleClear := false, group := none } }
  else if ! changed then { s with neb := { s.neb with settings := if s.neb.settle then s.neb.settings else s.applied } }
  else
    let d (f : Fld) : Bool := s.app f != old.app f
    let clear := d NEB_CTRL.SRC_CH || d NEB_CTRL.HIT_SHIFT || d NEB_CTRL.RMODE || d NEB_CTRL.FILL || d NEB_CTRL.CLIP || frame
      || [NEB_GEOM.addr, NEB_RANGE.addr, NEB_LEVEL.addr].any (fun a => s.appWord a != old.appWord a)
    { s with neb := { s.neb with
        applyEdge := s.now, settle := true, settleAsked := false, settleClear := s.neb.settleClear || clear } }

end Sys2Proof.Machine
end

