-- ==== Sys2Proof/Machine/Spectrum.lean ====
section
/-! DEFINITION. Numbers of the detectors: LOG16, the flatness gain as a ratio, IEEE 754 single precision (R176, R177). -/

namespace Sys2Proof.Machine

/-- The largest v in [lo, lo + 2^n) with p v, where p holds below some point and p lo holds. -/
def searchMax (p : Int → Bool) (lo : Int) : Nat → Int
  | 0 => lo
  | n + 1 => let m := lo + (2 ^ n : Nat); if p m then searchMax p m n else searchMax p lo n

/-- round(2,560 x log10(num / den)), not saturated; num and den are positive. The exact comparison is
(num / den)^5120 >= 10^(2v - 1). -/
def logRatio (num den : Nat) : Int :=
  let a := num ^ 5120
  let b := den ^ 5120
  searchMax (fun v => let e := 2 * v - 1; if e < 0 then decide (b ≤ a * 10 ^ e.natAbs) else decide (b * 10 ^ e.natAbs ≤ a)) (-262144) 19

/-- A LOG16 value: saturates to 0x7FFF, and to 0x8000 at -128 dBFS or less (R176). -/
def satLog (v : Int) : Int := if 32767 < v then 32767 else if v < -32768 then -32768 else v

/-- LOG16 of a power num / den with a flatness gain of g/256 dB (R177): a zero reads 0x8000 whatever g. -/
def log16 (num den : Nat) (g : Int) : Int := if num = 0 then -32768 else satLog (logRatio num den + g)

/-- The largest number below 2^n whose r-th power is at most x. -/
def rootFloor (x r n : Nat) : Nat := (searchMax (fun v => decide (v.toNat ^ r ≤ x)) 0 n).toNat

/-- 10^(g / r) in units of 2^-64, rounded down: the flatness gain as a power ratio (r = 2560) or an amplitude ratio
(r = 5120). -/
def gainFix (g : Int) (r : Nat) : Nat :=
  if g = 0 then 2 ^ 64
  else if 0 < g then rootFloor (10 ^ g.natAbs * 2 ^ (64 * r)) r 128
  else rootFloor (2 ^ (64 * r) / 10 ^ g.natAbs) r 65

/-- A number rounded to the nearest multiple of 2^k, ties to even, in units of 2^k. -/
def roundShift (n k : Nat) : Nat :=
  let f := n / 2 ^ k
  let r := 2 * (n % 2 ^ k)
  if r < 2 ^ k then f else if 2 ^ k < r then f + 1 else f + f % 2

/-- The IEEE 754 single nearest to n / 2^k. -/
def single (neg : Bool) (n k : Nat) : BitVec 32 :=
  let sign := if neg then 2 ^ 31 else 0
  if n = 0 then BitVec.ofNat 32 sign
  else
    let e := Nat.log2 n
    if 127 + k < e then BitVec.ofNat 32 (sign + 0x7F800000)
    else if e + 126 < k then BitVec.ofNat 32 (sign + (if 149 ≤ k then roundShift n (k - 149) else n * 2 ^ (149 - k)))
    else
      let m := if 23 ≤ e then roundShift n (e - 23) else n * 2 ^ (23 - e)
      BitVec.ofNat 32 (sign + (e + 127 - k) * 2 ^ 23 + (m - 2 ^ 23))

/-- The IEEE 754 single nearest to v / 2^k. -/
def singleInt (v : Int) (k : Nat) : BitVec 32 := single (decide (v < 0)) v.natAbs k

/-! ### Windows (R169, R172) -/

/-- ENBW and C_HALF of the fixed windows, in thousandths. -/
def fixedWindow : Nat → Nat × Nat
  | 0 => (1000, 500)
  | 1 => (1500, 265)
  | 2 => (2004, 193)
  | _ => (3770, 114)

/-- ENBW in thousandths of a bin, ties away from zero: N sum w^2 / (sum w)^2. -/
def enbwOf (w : List Nat) : Nat :=
  let s := w.sum
  let q := (w.map (fun x => x * x)).sum
  if s = 0 then 0 else (2000 * w.length * q + s * s) / (2 * s * s)

/-- C_HALF in thousandths, rounded up, of a window of n coefficients and their sum: `rings` holds the coefficients from the
centre outwards, those at one distance together as their number and their sum. The fraction is a real number: the
coefficients at its two edges count in part (DEDUCED, log entry 20). -/
def cHalfFrom (total n : Nat) : List (Nat × Nat) → Nat → Nat → Nat
  | [], _, _ => 1000
  | (c, w) :: l, acc, width =>
    if total ≤ 2 * (acc + w) then
      (1000 * (2 * width * w + c * (total - 2 * acc)) + 2 * w * n - 1) / max (2 * w * n) 1
    else cHalfFrom total n l (acc + w) (width + c)

/-- C_HALF of a window that is symmetric about its coefficient n/2, the first standing alone. DEDUCED (log entry 20). -/
def cHalfPeriodic (w : List Nat) : Nat :=
  let n := w.length
  let half := w.take (n / 2)
  cHalfFrom w.sum n ((1, (w[n / 2]?).getD 0) :: (half.drop 1).reverse.map (fun x => (2, 2 * x)) ++ [(1, half.headD 0)]) 0 0

/-- C_HALF of a window from its first half, mirrored. DEDUCED (log entry 20). -/
def cHalfMirrored (half : List Nat) : Nat :=
  cHalfFrom (2 * half.sum) (2 * half.length) (half.reverse.map (fun x => (2, 2 * x))) 0 0

/-- I0(x) from q = x^2/4 in units of 2^-64: sum of q^k / (k!)^2. -/
def bessel0 (q : Nat) : Nat :=
  ((List.range 80).foldl (fun (a : Nat × Nat) k => let t := a.1 * q / (2 ^ 64 * (k + 1) * (k + 1)); (t, a.2 + t)) (2 ^ 64, 2 ^ 64)).2

/-- Kaiser coefficient n of N for beta, in units of 2^-64, I0(beta) not divided out. -/
def kaiser (beta nn n : Nat) : Nat :=
  let d : Int := (2 * n : Nat) - (nn : Int)
  bessel0 (beta * beta * (nn * nn - d.natAbs * d.natAbs) * 2 ^ 62 / (nn * nn))

/-- ENBW and C_HALF of a window: its code, KBETA, N, and a user slot's N/2 coefficients. -/
def windowInfo (win kbeta n : Nat) (slot : List Nat) : Nat × Nat :=
  if win < 4 then fixedWindow win
  else if win = 4 then
    let w := (List.range n).map (kaiser (2 * (kbeta + 1)) n)
    (enbwOf w, cHalfPeriodic w)
  else (enbwOf (slot ++ slot.reverse), cHalfMirrored slot)

end Sys2Proof.Machine
end

