-- ==== Sys2Proof/Machine/Fft.lean ====
section
/-! DEFINITION. FFT pipes, detectors, traces, spectrogram lines, records, spare takeovers and self-checks. -/

namespace Sys2Proof.Machine

/-! ### Sources and their settings -/

/-- The place of a source index: channels 0 to 3, zoom sources 16 to 31. -/
def fftIdx (src : Nat) : Option (Fin 20) :=
  if h : src < 4 then some ⟨src, by omega⟩
  else if h : 16 ≤ src ∧ src < 32 then some ⟨src - 12, by omega⟩
  else none

/-- The source index of a place. -/
def fftSourceOf (i : Fin 20) : Nat := if i.val < 4 then i.val else i.val + 12

/-- FFT_SRC_CFG of a source. -/
def srcCfgAddr (src : Nat) : Nat := if src < 16 then FFT_SRC_CFG.addr src else FFT_ZSRC_CFG.addr (src - 16)
def srcLenFld (src : Nat) : Fld := ⟨srcCfgAddr src, 4, 4⟩
def srcHopFld (src : Nat) : Fld := ⟨srcCfgAddr src, 8, 2⟩
def srcWinFld (src : Nat) : Fld := ⟨srcCfgAddr src, 12, 3⟩
def srcBetaFld (src : Nat) : Fld := ⟨srcCfgAddr src, 16, 3⟩
def srcGateFld (src : Nat) : Fld := ⟨srcCfgAddr src, 20, 1⟩

/-- N and hop of a source in a view. -/
def srcN (r : View') (src : Nat) : Nat := fftLen (r (srcLenFld src))
def srcHop (r : View') (src : Nat) : Nat := srcN r src / 2 ^ r (srcHopFld src)

/-- Source `src` exists in a set-up: an enabled FFT source of a channel, or a DDC routed to the zoom pipe (R163). -/
def srcOnV (r : View') (src : Nat) : Bool :=
  if src < 4 then
    r (FFT_SRC_CFG.EN src) == 1 && (r FCV_MAP.CH_EN).testBit src && decide (src < modeChannels (r LNK_CTRL.MODE))
  else if 16 ≤ src ∧ src < 32 then r (DDC_CFG.EN (src - 16)) == 1 && (r (DDC_CFG.DEST (src - 16))).testBit 0
  else false

/-- Working pipes that channel source s needs (R166). -/
def pipesNeededV (r : View') (s : Nat) : Nat := ceilDiv (chanRateV r * srcN r s) (max (srcHop r s) 1 * 8 * fclkHz)

/-- The settings for a spectrum whose first sample arrived at `begun` (R30). -/
def State.fftView (s : State) (begun : Stamp) : View' := fun f =>
  if begun.toNat < s.fft.applyEdge.toNat then bitsOf (SMap.get appliedDefault s.fft.oldApplied f.addr) f.lo f.n else s.app f

/-- The state of source place i. -/
def State.fftSrc (s : State) (i : Fin 20) : FftSrc := vget s.fft.src i
def State.setFftSrc (s : State) (i : Fin 20) (x : FftSrc) : State := { s with fft := { s.fft with src := vset s.fft.src i x } }
def State.modFftSrc (s : State) (i : Fin 20) (f : FftSrc → FftSrc) : State := s.setFftSrc i (f (s.fftSrc i))

/-! ### Pipes -/

abbrev pOFF : Nat := 0
abbrev pIDLE : Nat := 1
abbrev pACTIVE : Nat := 2
abbrev pSHADOW : Nat := 3
abbrev pTEST : Nat := 4
abbrev pSTANDIN : Nat := 5
abbrev pFAILED : Nat := 6
abbrev pRECOVERING : Nat := 7

/-- The location code of pipe p: the working pipes, the spare and the zoom pipe (R37). -/
def pipeLoc (p : Nat) : Nat := if p = 8 then tileLoc 1 3 0 else if p = 9 then tileLoc 2 3 0 else tileLoc (p / 2) (1 + p % 2) 0

/-- The state of pipe p. -/
def State.pipe (s : State) (p : Nat) : Nat := s.get (FFT_PIPE_STAT.STATE p)
def State.setPipe (s : State) (p st : Nat) : State := s.put (FFT_PIPE_STAT.STATE p) st

/-- A pipe works: its domain is on and it is neither off, FAILED nor RECOVERING (R166). -/
def State.pipeGood (s : State) (p : Nat) : Bool :=
  s.domOn (pipeDomain p) && s.pipe p != pFAILED && s.pipe p != pRECOVERING && s.pipe p != pOFF

/-- The pipe that computes the frames of pipe p's schedule; none where no pipe does (R196). -/
def State.carrier (s : State) (p : Nat) : Option Nat :=
  match s.fft.carry.find? (fun x => x.1 == p) with
  | some x => if s.pipeGood x.2 then some x.2 else none
  | none => if s.pipeGood p then some p else none

/-- The zoom sources that exist. -/
def State.zoomSources (s : State) : List (Fin 20) := (List.finRange 20).filter (fun (i : Fin 20) => decide (4 ≤ i.val) && (s.fftSrc i).on)

/-- Pipe p has a frame schedule (R194). -/
def State.hasSchedule (s : State) (p : Nat) : Bool :=
  if p = 9 then ! s.zoomSources.isEmpty
  else (List.finRange 20).any (fun (i : Fin 20) => decide (i.val < 4) && (s.fftSrc i).on && (s.fftSrc i).pipes.contains p)

/-- The source places whose frames pipe p's schedule holds. -/
def State.sourcesOfPipe (s : State) (p : Nat) : List (Fin 20) :=
  if p = 9 then s.zoomSources
  else (List.finRange 20).filter (fun (i : Fin 20) => decide (i.val < 4) && (s.fftSrc i).on && (s.fftSrc i).pipes.contains p)

/-- The spare's registers that follow from its state: AVAIL, and SUSPENDED (R201). -/
def State.spareRefresh (s : State) : State :=
  let s := s.putB FFT_SPARE_STAT.AVAIL (s.domOn dFFT_S && s.pipe 8 != pFAILED && s.pipe 8 != pOFF)
  s.putB FFT_CHECK_STAT.SUSPENDED (! s.domOn dFFT_S || s.get FFT_SPARE_STAT.REASON == 2 || s.get FFT_SPARE_STAT.REASON == 3)

/-- The spare is engaged for pipe p, for a reason. -/
def State.spareUse (s : State) (p reason : Nat) : State :=
  (((s.put FFT_SPARE_STAT.IN_USE 1).put FFT_SPARE_STAT.TARGET p).put FFT_SPARE_STAT.REASON reason).spareRefresh

/-- The spare is free again. DEDUCED (log entry 21). -/
def State.spareFree (s : State) : State :=
  let s : State := { s with fft := { s.fft with carry := s.fft.carry.filter (fun x => x.2 != 8), hand := none } }
  let s := (s.put FFT_SPARE_STAT.IN_USE 0).put FFT_SPARE_STAT.TARGET 0xF
  let s := ((s.put FFT_SPARE_STAT.REASON 0).put (FFT_PIPE_STAT.STANDIN 8) 0xF).put (FFT_PIPE_STAT.SRC 8) 0xF
  let s := if s.pipe 8 == pSTANDIN || s.pipe 8 == pSHADOW then s.setPipe 8 pIDLE else s
  s.spareRefresh

/-- The spare carries the work of pipe p. DEDUCED (log entry 21). -/
def State.spareCarry (s : State) (p : Nat) : State :=
  let s : State := { s with fft := { s.fft with carry := (p, 8) :: s.fft.carry.filter (fun x => x.1 != p && x.2 != 8) } }
  ((s.setPipe 8 pSTANDIN).put (FFT_PIPE_STAT.STANDIN 8) p).put (FFT_PIPE_STAT.SRC 8) (s.get (FFT_PIPE_STAT.SRC p))

/-- Pipe p serves its own schedule again. -/
def State.pipeOwn (s : State) (p : Nat) : State :=
  let s : State := { s with fft := { s.fft with carry := s.fft.carry.filter (fun x => x.1 != p) } }
  if s.pipe p == pFAILED || s.pipe p == pRECOVERING || s.pipe p == pOFF then s
  else s.setPipe p (if s.hasSchedule p then pACTIVE else pIDLE)

/-- The PIPE condition follows the pipes (R569). -/
def State.pipeCondition (s : State) : State :=
  if (List.range 10).any (fun p => s.pipe p == pFAILED || s.pipe p == pRECOVERING) then s
  else if (s.get FLT_ACTIVE.ACTIVE).testBit 1 then s.clearActive 1 else s

/-- The SPARE condition clears when it was set (R569). -/
def State.spareCondOff (s : State) : State := if (s.get FLT_ACTIVE.ACTIVE).testBit 0 then s.clearActive 0 else s

/-! ### Records and lines (R181 to R184, R188) -/

/-- The 32-byte header of R182. -/
def recHeader (type src tq : Nat) (x : FftGroup) (seq skip bred : Nat) (gap : Bool) (det first nbm1 : Nat) : List Byte :=
  leBytes 2 0xA5C3 ++ [BitVec.ofNat 8 (type * 16 + det), BitVec.ofNat 8 src] ++ leBytes 4 seq ++ stampBytes x.stamp
    ++ [BitVec.ofNat 8 (b2n x.ovr + b2n x.thr * 2 + b2n x.dsat * 4 + b2n gap * 8 + b2n (skip != 0) * 16 + b2n x.chk * 32 + tq * 64)]
    ++ [BitVec.ofNat 8 x.exp] ++ leBytes 3 x.count ++ [BitVec.ofNat 8 x.win] ++ leBytes 2 first ++ leBytes 2 nbm1
    ++ [BitVec.ofNat 8 x.pipe, BitVec.ofNat 8 bred] ++ leBytes 2 (min skip 65535)

/-- The 32 bytes of a gap record (R183). -/
def gapRecord (src tq cause seq : Nat) (before after : Stamp) : List Byte :=
  leBytes 2 0xA5C3 ++ [0x10, BitVec.ofNat 8 src] ++ leBytes 4 seq ++ stampBytes after ++ [BitVec.ofNat 8 (tq * 64), BitVec.ofNat 8 cause]
    ++ stampBytes before ++ leBytes 2 0

/-- Bytes padded with zeros to a multiple of n. -/
def padTo (n : Nat) (l : List Byte) : List Byte := l ++ List.replicate ((n - l.length % n) % n) 0

/-- A signed 24-bit mantissa times the amplitude gain `a` (units of 2^-64), rounded; where it is not exact the manual does
not say how, and the free value k decides between the two neighbours. -/
def scaleMant (a : Nat) (k : Nat) (x : Int) : Int :=
  let v := x * a
  if v % (2 ^ 64 : Nat) = 0 then v / (2 ^ 64 : Nat) else v / (2 ^ 64 : Nat) + ((Config.freeValue k).toNat % 2 : Nat)

/-- The data bytes of a record in a DET format, from a combined group; `ctr` is the first free value it may use. -/
def recData (det ctr : Nat) (gains : List Int) (x : FftGroup) : List Byte :=
  match det with
  | 0 => x.l.flatMap (fun v => leBytes 2 (ofSigned 16 v))
  | 1 => x.p.flatMap (fun v => leBytes 4 (single false v 160).toNat)
  | 2 => (x.m.zip gains).zipIdx.flatMap (fun y =>
      let a := gainFix y.1.2 5120
      leBytes 4 (ofSigned 32 (satInt 24 (scaleMant a (ctr + 2 * y.2) y.1.1.1)))
        ++ leBytes 4 (ofSigned 32 (satInt 24 (scaleMant a (ctr + 2 * y.2 + 1) y.1.1.2))))
  | _ => (x.m.zip gains).flatMap (fun y =>
      let a := gainFix y.2 5120
      leBytes 4 (singleInt (y.1.1 * a) (86 + x.exp)).toNat ++ leBytes 4 (singleInt (y.1.2 * a) (86 + x.exp)).toNat)

/-- The gains of R177 for the bins of a source, in 1/256 dB. -/
def State.flatGain (s : State) (t n b : Nat) : Int :=
  let e (i : Nat) : Int := toSigned 16 (s.sramLE (0x06A24000 + t * 0x2000 + i * 2) 2)
  let i := b * 4096 / n
  let f : Int := (b * 4096 % n : Nat)
  let d := (e (min (i + 1) 4095)) - e i
  (2 * (e i * n + f * d) + n) / (2 * n : Nat)

/-- The flatness table of a source in a view, if one applies (R177); the stepped-span sequencer overrides a channel's
(R478). -/
def State.flatTable (s : State) (v : View') (src : Nat) : Option Nat :=
  if src < 4 then
    match s.srv.flat with
    | some (c, en, t) => if c == src then (if en then some t else none)
        else if v (FCV_CHAN.FLAT_EN src) == 1 then some (v (FCV_CHAN.FLAT_SEL src)) else none
    | none => if v (FCV_CHAN.FLAT_EN src) == 1 then some (v (FCV_CHAN.FLAT_SEL src)) else none
  else if v (FFT_ZSRC_CFG.FLAT_EN (src - 16)) == 1 then some (v (FFT_ZSRC_CFG.FLAT_SEL (src - 16))) else none

/-- The bytes held in a source's output queue. -/
def FftSrc.outBytes (x : FftSrc) : Nat := (x.out.map List.length).sum

/-- A record enters the output queue, or is dropped whole (R184): `n` spectra are in it. -/
def State.outRecord (s : State) (i : Fin 20) (n : Nat) (r : List Byte) (clears : Bool) : State :=
  let x := s.fftSrc i
  let src := fftSourceOf i
  if x.outBytes + r.length ≤ 65536 then
    s.setFftSrc i { x with out := x.out ++ [r], skip := if clears then 0 else x.skip, gapFlag := if clears then false else x.gapFlag }
  else
    ((s.setFftSrc i { x with skip := x.skip + n }).put (FFT_SRC_STAT.OUT_DROP src) 1).bump (FFT_SRC_CNT.DROP_COUNT src)

/-- The open record of a source is closed and written (R181). -/
def State.closeRec (s : State) (i : Fin 20) : State :=
  let x := s.fftSrc i
  match x.rec_ with
  | none => s
  | some g =>
    let src := fftSourceOf i
    let s := s.setFftSrc i { x with rec_ := none }
    if bitsOf g.cfg 4 1 == 0 || g.count == 0 then s
    else
      let det := bitsOf g.cfg 0 3
      let first := bitsOf g.range 0 16
      let v := s.app
      let gains : List Int := if det < 2 then [] else
        match s.flatTable v src with
        | some t => (List.range g.m.length).map (fun b => s.flatGain t (max (srcN v src) 1) (first + b))
        | none => List.replicate g.m.length 0
      let x3 := recData det s.freeCtr gains { g with p := g.p.map (fun a => a / (if bitsOf g.cfg 8 2 == 2 then g.count else 1)) }
      let s : State := { s with freeCtr := s.freeCtr + 2 * g.m.length }
      let h := recHeader 0 src s.tq { g with exp := if det = 2 then g.exp else 0 } (g.g * 2 ^ bitsOf g.cfg 16 5) x.skip 0 x.gapFlag
        det first (bitsOf g.range 16 16)
      s.outRecord i g.count (padTo 32 (h ++ x3)) true

/-- One line written into the ring of a source, and WLINE advanced (R188). -/
def State.ringLine (s : State) (i : Fin 20) (size : Nat) (r : List Byte) : State :=
  let src := fftSourceOf i
  let lines := s.app (FFT_SRC_SPGL.LINES_M1 src) + 1
  let w := s.get (FFT_SRC_SPGW.WLINE src) % lines
  let s := s.setSramBytes (0x03800000 + s.app (FFT_SRC_SPG.BASE src) * 0x1000 + w * size) (r ++ List.replicate (size - r.length) 0)
  if w + 1 == lines then (s.put (FFT_SRC_SPGW.WLINE src) 0).bumpWrap (FFT_SRC_SPGW.WRAPS src)
  else s.put (FFT_SRC_SPGW.WLINE src) (w + 1)

/-- Bytes that a line of a SPG and RANGE setting occupies. -/
def lineSize (spg range : Word) : Nat :=
  let w := (bitsOf range 16 16 + 1) / 2 ^ bitsOf spg 4 3
  (32 + 2 * w + 63) / 64 * 64

/-- The open line of a source is closed and written (R188). -/
def State.closeLine (s : State) (i : Fin 20) : State :=
  let x := s.fftSrc i
  match x.line with
  | none => s
  | some g =>
    let src := fftSourceOf i
    let s := s.setFftSrc i { x with line := none, lskip := 0, lgapFlag := false }
    if bitsOf g.cfg 0 1 == 0 || g.count == 0 then s
    else
      let h := recHeader 2 src s.tq { g with exp := 0 } (g.g * 2 ^ bitsOf g.cfg 8 5) x.lskip (bitsOf g.cfg 4 3) x.lgapFlag 0
        (bitsOf g.range 0 16) (bitsOf g.range 16 16)
      s.ringLine i (lineSize g.cfg g.range) (h ++ g.l.flatMap (fun v => leBytes 2 (ofSigned 16 v)))

/-- Two spectra's values combined by RDET or LDET: peak, minimum, (the average works on powers), first. -/
def combineLog (det : Nat) (a b : List Int) : List Int :=
  match det with | 0 => List.zipWith max a b | 1 => List.zipWith min a b | _ => a

/-- Two spectra's powers combined: peak, minimum, sum for the average, first. -/
def combinePow (det : Nat) (a b : List Nat) : List Nat :=
  match det with | 0 => List.zipWith max a b | 1 => List.zipWith min a b | 2 => List.zipWith (· + ·) a b | _ => a

/-- LOG16 of a mean power held in units of 2^-160. -/
def meanLog (sum count : Nat) : Int := log16 sum (count * 2 ^ 160) 0

/-- A list cut into runs of n. -/
def runs {α : Type} (n : Nat) : Nat → List α → List (List α)
  | 0, _ => []
  | k + 1, l => if l.isEmpty then [] else l.take n :: runs n k (l.drop n)

/-- A spectrum as a detector sees it. -/
structure Spec where
  seq : Nat
  pipe : Nat
  frame : FftFrame
  chk : Bool
  exp : Nat
  dsat : Bool
  /-- LOG16 with flatness, powers with flatness in units of 2^-160, mantissas, over all bins -/
  l : List Int
  p : List Nat
  m : List (Int × Int)

/-- A spectrum joins a group, or opens it. -/
def joinGroup (o : Option FftGroup) (cfg range : Word) (win g det : Nat) (x : Spec) (l : List Int) (p : List Nat) (m : List (Int × Int)) :
    FftGroup :=
  match o with
  | some y =>
    { y with count := y.count + 1, pipe := x.pipe, ovr := y.ovr || x.frame.ovr, thr := y.thr || x.frame.thr, dsat := y.dsat || x.dsat
             chk := y.chk || x.chk, exp := x.exp, l := combineLog det y.l l, p := combinePow det y.p p, m := m }
  | none =>
    { cfg := cfg, range := range, win := win, g := g, stamp := x.frame.first, count := 1, pipe := x.pipe, ovr := x.frame.ovr
      thr := x.frame.thr, dsat := x.dsat, chk := x.chk, exp := x.exp, l := l, p := p, m := m }

/-- The average of a group is taken when it closes: its LOG16 values from its mean powers (R181). -/
def FftGroup.averaged (y : FftGroup) (det : Nat) : FftGroup :=
  if det = 2 && 1 < y.count then { y with l := y.p.map (fun a => meanLog a y.count) } else y

/-- The record group of a spectrum that is not gated (R181): `v` its settings. -/
def State.recSpectrum (s : State) (i : Fin 20) (v : View') (x : Spec) : State :=
  let src := fftSourceOf i
  let cfg := BitVec.ofNat 32 (v ⟨FFT_SRC_OUT.addr src, 0, 32⟩)
  let range := BitVec.ofNat 32 (v ⟨FFT_SRC_RANGE.addr src, 0, 32⟩)
  let red := bitsOf cfg 16 5
  let g := x.seq / 2 ^ red
  let s := match (s.fftSrc i).rec_ with
    | some y => if y.g == g && y.cfg == cfg && y.range == range then s else s.closeRec i
    | none => s
  if bitsOf cfg 4 1 == 0 then s
  else
    let first := bitsOf range 0 16
    let n := bitsOf range 16 16 + 1
    let y := joinGroup (s.fftSrc i).rec_ cfg range (v (srcWinFld src)) g (bitsOf cfg 8 2) x ((x.l.drop first).take n)
      ((x.p.drop first).take n) ((x.m.drop first).take n)
    s.modFftSrc i (fun z => { z with rec_ := some y })

/-- The last spectrum of the open record's group has been released, gated or not computed: the record is written. -/
def State.recEnd (s : State) (i : Fin 20) (seq : Nat) : State :=
  match (s.fftSrc i).rec_ with
  | some y =>
    if seq % 2 ^ bitsOf y.cfg 16 5 == 2 ^ bitsOf y.cfg 16 5 - 1 || seq / 2 ^ bitsOf y.cfg 16 5 != y.g then
      (s.modFftSrc i (fun z => { z with rec_ := some (y.averaged (bitsOf y.cfg 8 2)) })).closeRec i
    else s
  | none => s

/-- One spectrum's points for a line: runs of 2^BRED bins combined by LDET (R188). -/
def linePoints (bred det : Nat) (l : List Int) (p : List Nat) : List Int × List Nat :=
  let n := 2 ^ bred
  let ls := runs n l.length l
  let ps := runs n p.length p
  match det with
  | 0 => (ls.map (fun y => y.foldl max (y.headD 0)), ps.map (fun y => y.foldl max 0))
  | 1 => (ls.map (fun y => y.foldl min (y.headD 0)), ps.map (fun y => y.foldl min (y.headD 0)))
  | 2 => (if bred = 0 then l else ps.map (fun y => meanLog y.sum y.length), ps.map (fun y => y.sum / max y.length 1))
  | _ => (ls.map (fun y => y.headD 0), ps.map (fun y => y.headD 0))

/-- The line group of a spectrum that is not gated (R188). -/
def State.lineSpectrum (s : State) (i : Fin 20) (v : View') (x : Spec) : State :=
  let src := fftSourceOf i
  let cfg := BitVec.ofNat 32 (v ⟨FFT_SRC_SPG.addr src, 0, 32⟩)
  let range := BitVec.ofNat 32 (v ⟨FFT_SRC_RANGE.addr src, 0, 32⟩)
  let g := x.seq / 2 ^ bitsOf cfg 8 5
  let s := match (s.fftSrc i).line with
    | some y => if y.g == g && y.cfg == cfg && y.range == range then s else s.closeLine i
    | none => s
  if bitsOf cfg 0 1 == 0 then s
  else
    let first := bitsOf range 0 16
    let n := bitsOf range 16 16 + 1
    let det := bitsOf cfg 1 2
    let pt := linePoints (bitsOf cfg 4 3) det ((x.l.drop first).take n) ((x.p.drop first).take n)
    let y := joinGroup (s.fftSrc i).line cfg range (v (srcWinFld src)) g det x pt.1 pt.2 []
    s.modFftSrc i (fun z => { z with line := some y })

/-- The last spectrum of the open line's group has passed. -/
def State.lineEnd (s : State) (i : Fin 20) (seq : Nat) : State :=
  match (s.fftSrc i).line with
  | some y =>
    if seq % 2 ^ bitsOf y.cfg 8 5 == 2 ^ bitsOf y.cfg 8 5 - 1 || seq / 2 ^ bitsOf y.cfg 8 5 != y.g then
      (s.modFftSrc i (fun z => { z with line := some (y.averaged (bitsOf y.cfg 1 2)) })).closeLine i
    else s
  | none => s

/-- A gap record of source place i: it cuts the open group and line, is written to the queue and the ring, and reaches
traces, masks and Nebula (R181, R183, R187, R188, R249, R308). -/
def State.gapOut (s : State) (i : Fin 20) (cause seq : Nat) (before after : Stamp) : State :=
  let src := fftSourceOf i
  let avg (s : State) : State :=
    s.modFftSrc i (fun z => { z with rec_ := z.rec_.map (fun y => y.averaged (bitsOf y.cfg 8 2))
                                     line := z.line.map (fun y => y.averaged (bitsOf y.cfg 1 2)) })
  let s := ((avg s).closeRec i).closeLine i
  let r := gapRecord src s.tq cause seq before after
  let s := if s.appFlag (FFT_SRC_OUT.OUT_EN src) then s.outRecord i 0 r false else s
  let s := if s.appFlag (FFT_SRC_SPG.EN src) then
      s.ringLine i (lineSize (s.appWord (FFT_SRC_SPG.addr src)) (s.appWord (FFT_SRC_RANGE.addr src))) r
    else s
  let s := s.modFftSrc i (fun z => { z with
    gapFlag := true, lgapFlag := true
    traceReset := (List.finRange 4).foldl (fun (v : Vector Bool 4) (t : Fin 4) =>
      if s.appFlag (FFT_SRC_TRC.GAP_RST src t) then vset v t true else v) z.traceReset })
  if src < 4 then (s.trgSpecGap src).nebGap src else s

/-- A gap of a source has occurred (R183). -/
def State.gapCount (s : State) (src : Nat) : State :=
  let s : State := if src == s.srv.span.ch then { s with srv := { s.srv with span := { s.srv.span with gap := true } } } else s
  (s.put (FFT_SRC_STAT.GAP src) 1).bump (FFT_SRC_CNT.GAP_COUNT src)

/-! ### Traces (R185 to R187) -/

/-- The bytes of a trace buffer: bins x 4, rounded up to 4 KiB. -/
def traceBytes (n : Nat) : Nat := (4 * n + 4095) / 4096 * 4096

/-- A trace's values as IEEE 754 singles. -/
def traceWords (mode : Nat) (x : FftTrace) : List Byte :=
  x.vals.flatMap (fun v => leBytes 4 (if mode = 4 then singleInt v 160 else singleInt v 19).toNat)

/-- The dB values of a spectrum in units of 2^-19 dB: the manual gives no precision beyond the single's, so the part below
1/256 dB is a free value, within half of it to either side. -/
def fineDb (ctr : Nat) (l : List Int) : List Int :=
  l.zipIdx.map (fun y => y.1 * 2048 + (((Config.freeValue (ctr + y.2)).toNat % 2048 : Nat) : Int) - 1024)

/-- v + (p - v) 2^-A: the rounding of the running average is a free choice between the two neighbours. -/
def runAverage (a ctr : Nat) (v p : List Int) : List Int :=
  ((v.zip p).zipIdx).map (fun y =>
    let d := y.1.2 - y.1.1
    let q : Int := (2 ^ a : Nat)
    y.1.1 + d / q + (if d % q = 0 then 0 else (((Config.freeValue (ctr + y.2)).toNat / 2048 % 2 : Nat) : Int)))

/-- One trace updated with a spectrum: `x` its values in the trace's units. -/
def traceStep (mode : Nat) (block : Bool) (a ctr : Nat) (t : Option FftTrace) (x : List Int) : FftTrace :=
  match t with
  | none => { vals := x, n := 1 }
  | some t =>
    let n := t.n + 1
    match mode with
    | 1 => { vals := x, n := n }
    | 2 => { vals := List.zipWith max t.vals x, n := n }
    | 3 => { vals := List.zipWith min t.vals x, n := n }
    | _ =>
      if block then { vals := List.zipWith (· + ·) t.vals x, n := n } else { vals := runAverage a ctr t.vals x, n := n }

/-- What a trace shows: in block mode an average is the mean of its spectra. -/
def FftTrace.shown (t : FftTrace) (mode : Nat) (block : Bool) : FftTrace :=
  if block && 4 ≤ mode then { t with vals := t.vals.map (fun v => v / (max t.n 1 : Nat)) } else t

/-- Trace t of a source takes a spectrum that is not gated. -/
def State.traceSpectrum (s : State) (i : Fin 20) (v : View') (x : Spec) (t : Fin 4) : State :=
  let src := fftSourceOf i
  let mode := s.app (FFT_SRC_TRC.MODE src t)
  if mode = 0 then s
  else
    let block := s.appFlag (FFT_SRC_TRC.BLOCK src t)
    let a := s.app (FFT_SRC_TRC.A src t)
    let first := v (FFT_SRC_RANGE.FIRST_BIN src)
    let n := v (FFT_SRC_RANGE.NBM1 src) + 1
    let base := 0x03800000 + s.app (FFT_SRC_TRC.BASE src t) * 0x1000
    let old := vget (s.fftSrc i).trace t
    let pend := (s.get (FFT_SRC_TRS.SNAP_PEND src)).testBit t
    let publish (s : State) (y : FftTrace) : State :=
      (s.setSramBytes (base + traceBytes n) (traceWords mode (y.shown mode block))).put (FFT_SRC_TRS.PUB src)
        (setBit (s.get (FFT_SRC_TRS.PUB src)) t true)
    let s := if pend then
        let s := match old with | some y => publish s y | none => s
        s.put (FFT_SRC_TRS.SNAP_PEND src) (setBit (s.get (FFT_SRC_TRS.SNAP_PEND src)) t false)
      else s
    let restart := vget (s.fftSrc i).traceReset t || (match old with | some y => y.vals.length != n | none => false)
    let ctr := s.freeCtr
    let s : State := { s with freeCtr := s.freeCtr + n }
    let vals : List Int := if mode = 4 then ((x.p.drop first).take n).map Int.ofNat else fineDb ctr ((x.l.drop first).take n)
    let y := traceStep mode block a ctr (if restart then none else old) vals
    let s := s.setSramBytes base (traceWords mode (y.shown mode block))
    let done := block && decide (2 ^ a ≤ y.n)
    let s := if done then publish s y else s
    s.modFftSrc i (fun z => { z with trace := vset z.trace t (if done then none else some y), traceReset := vset z.traceReset t false })

/-! ### Frames (R164, R192) -/

/-- A frame is complete: it takes its SEQ and a place in its pipe's schedule (R167, R182). -/
def State.frameDone (s : State) (i : Fin 20) (f : FftFrame) : State :=
  let x := s.fftSrc i
  let p := if i.val < 4 then (if x.pipes.isEmpty then 0 else (x.pipes[x.frames % x.pipes.length]?).getD 0) else 9
  let lost := (s.carrier p).isNone || (decide (i.val < 4) && x.pipes.isEmpty)
  let s := s.setFftSrc i { x with
    frames := x.frames + 1, seq := (x.seq + 1) % 2 ^ 32, lastFrame := f.last, items := x.items ++ [.frame f x.seq p lost] }
  match s.fft.hand with
  | some (k, q, t) =>
    if q == p && decide (t.toNat + fclkStamp 128 ≤ s.now.toNat) then
      match k with
      | .takeover | .checkIn => if s.pipe p == pACTIVE then (s.setPipe p pSHADOW).setPipe 8 pSHADOW else s
      | .release | .checkOut => if s.pipe p == pIDLE || s.pipe p == pTEST then s.setPipe p pSHADOW else s
    else s
  | none => s

/-- A valid sample of source src enters its frames. -/
def State.fftSample (s : State) (src : Nat) (y : OutSample) : State :=
  match fftIdx src with
  | none => s
  | some i =>
    let x := s.fftSrc i
    if ! x.on then s
    else
      let v := s.app
      let n := srcN v src
      let hop := max (srcHop v src) 1
      let opened := if x.count % hop = 0 then
          x.opened ++ [{ start := x.count, n := 0, begun := s.now, first := y.stamp, centre := y.stamp, last := y.stamp, ovr := false,
                         thr := false, dsat := false }]
        else x.opened
      let opened := opened.map (fun f => { f with
        n := f.n + 1, last := y.stamp, centre := if f.n = n / 2 then y.stamp else f.centre, ovr := f.ovr || y.ovr, thr := f.thr || y.thr
        dsat := f.dsat || y.dsat })
      let s := s.setFftSrc i { x with count := x.count + 1, opened := opened.filter (fun f => decide (f.n < n)) }
      (opened.filter (fun f => decide (n ≤ f.n))).foldl (fun s f => s.frameDone i f) s

/-- Gaps at the head of a source's queue whose end is known are written out. -/
def State.drainGaps (s : State) (i : Fin 20) : Nat → State
  | 0 => s
  | k + 1 =>
    match (s.fftSrc i).items with
    | .gap c b (some (a, q)) :: rest =>
      ((s.modFftSrc i (fun z => { z with items := rest, cover := none })).gapOut i c q b a).drainGaps i k
    | _ => s

/-- Source src stops being valid after the sample stamped `before` (R192): incomplete frames are discarded, and a gap
follows the complete ones. -/
def State.fftSourceGap (s : State) (src cause : Nat) (before : Stamp) : State :=
  match fftIdx src with
  | none => s
  | some i =>
    let x := s.fftSrc i
    if ! x.on then s
    else
      let open_ := x.items.any (fun it => match it with | .gap _ _ none => true | _ => false)
      let b := if x.frames = 0 then (if x.count = 0 then before else before) else x.lastFrame
      let s := s.setFftSrc i { x with opened := [], count := 0, frames := 0
                                      items := if open_ then x.items else x.items ++ [.gap cause b none] }
      let s := s.put (FFT_SRC_STAT.VALID src) 0
      if open_ then s else s.gapCount src

/-- Source src is valid from the sample stamped `first`: frame 0 begins with it (R164, R192). -/
def State.fftSourceStart (s : State) (src : Nat) (first : Stamp) : State :=
  match fftIdx src with
  | none => s
  | some i =>
    let x := s.fftSrc i
    if ! x.on then s
    else
      let s := s.setFftSrc i { x with
        count := 0, frames := 0, opened := []
        items := x.items.map (fun it => match it with | .gap c b none => .gap c b (some (first, x.seq)) | _ => it) }
      (s.put (FFT_SRC_STAT.VALID src) 1).drainGaps i 4

/-! ### Release (R180) -/

/-- A spectrum's block exponent: the largest S from 0 to 47 for which every component, rounded, fits 24 bits (R174). -/
def blockExp (bins : List (Int × Int)) : Nat :=
  ((List.range 48).filter (fun e => bins.all (fun b =>
    ! overflows 24 (roundEven b.1 (2 ^ (47 - e) : Nat)) && ! overflows 24 (roundEven b.2 (2 ^ (47 - e) : Nat))))).foldl max 0

/-- A frame overlaps a closed interval of the settle gate, 10 ns wider on either side (R191, R477). -/
def State.gatedFrame (s : State) (f : FftFrame) : Bool :=
  s.srv.gateClosed.any (fun g =>
    decide (g.1.toNat ≤ f.last.toNat + nsToStamp 10)
      && (match g.2 with | some o => decide (f.first.toNat ≤ o.toNat + nsToStamp 10) | none => true))

/-- Something consumes the detector's values of a source. -/
def State.specUsed (s : State) (src : Nat) (v : View') : Bool :=
  v (FFT_SRC_OUT.OUT_EN src) == 1 || v (FFT_SRC_SPG.EN src) == 1 || (List.range 4).any (fun t => s.app (FFT_SRC_TRC.MODE src t) != 0)
    || (decide (src < 4) && (s.appFlag TRG_CTRL.EN || s.appFlag NEB_CTRL.EN || s.nebView NEB_CTRL.EN == 1))

/-- The spectrum of frame f, from the bins X_b in units of 2^-69, as the detector of the source sees it (R173 to R177). -/
def State.makeSpec (s : State) (src : Nat) (v : View') (f : FftFrame) (seq pipe : Nat) (chk : Bool) (bins : List (Int × Int)) : Spec :=
  let n := srcN v src
  let bins := (List.range n).map (fun b => (bins[b]?).getD (0, 0))
  let e := blockExp bins
  let m := bins.map (fun b => (satInt 24 (roundEven b.1 (2 ^ (47 - e) : Nat)), satInt 24 (roundEven b.2 (2 ^ (47 - e) : Nat))))
  if s.specUsed src v then
    let gain (b : Nat) : Int := match s.flatTable v src with | some t => s.flatGain t (max n 1) b | none => 0
    let pw := m.map (fun x => (x.1 * x.1 + x.2 * x.2).toNat)
    let l := pw.zipIdx.map (fun x => log16 x.1 (2 ^ (2 * (22 + e))) (gain x.2))
    let p := pw.zipIdx.map (fun x => x.1 * gainFix (gain x.2) 2560 * 2 ^ (160 - 64) / 2 ^ (2 * (22 + e)))
    let sat := v (FFT_SRC_OUT.DET src) == 2 && m.zipIdx.any (fun x =>
      let a := gainFix (gain x.2) 5120
      overflows 24 (x.1.1 * a / (2 ^ 64 : Nat)) || overflows 24 (x.1.2 * a / (2 ^ 64 : Nat)))
    { seq := seq, pipe := pipe, frame := f, chk := chk, exp := e, dsat := f.dsat || sat, l := l, p := p, m := m }
  else { seq := seq, pipe := pipe, frame := f, chk := chk, exp := e, dsat := f.dsat, l := [], p := [], m := m }

/-- Frames at the head that no pipe computes are passed over: they count in SKIP_COUNT (R196). -/
def State.dropLost (s : State) (i : Fin 20) : Nat → State
  | 0 => s
  | k + 1 =>
    match (s.fftSrc i).items with
    | .frame _ q _ true :: rest =>
      let s := s.modFftSrc i (fun z => { z with items := rest, skip := z.skip + 1, lskip := z.lskip + 1 })
      ((((s.put (FFT_SRC_STAT.POI_LOST (fftSourceOf i)) 1).recEnd i q).lineEnd i q).drainGaps i 4).dropLost i k
    | _ => s

/-- A computed spectrum leaves the detector: coverage, flags, records, lines, traces, masks and Nebula. -/
def State.releaseSpec (s : State) (i : Fin 20) (f : FftFrame) (seq pipe : Nat) (bins : List (Int × Int)) : State :=
  let src := fftSourceOf i
  let v := s.fftView f.begun
  let lostRun := match (s.fftSrc i).cover with
    | some c => decide (c < f.start)
    | none => decide (0 < f.start)
  let s := if lostRun then (s.gapCount src).gapOut i 0x11 seq (s.fftSrc i).coverStamp f.first else s
  let s := s.modFftSrc i (fun z => { z with cover := some (f.start + f.n), coverStamp := f.last })
  let chk := match s.fft.arb, s.fft.check with | some _, some p => p == pipe || pipe == 8 | _, _ => false
  let x := s.makeSpec src v f seq pipe chk bins
  let s := s.put (FFT_SRC_SEQ.SEQ src) seq
  let s := if f.ovr then s.put (FFT_SRC_STAT.OVR src) 1 else s
  let s := if f.thr then s.put (FFT_SRC_STAT.THR src) 1 else s
  let s := if x.dsat then s.put (FFT_SRC_STAT.DSAT src) 1 else s
  let s := if chk then s.put (FFT_SRC_STAT.CHK src) 1 else s
  let gated := v (srcGateFld src) == 1 && s.gatedFrame f
  let s := if gated then s.modFftSrc i (fun z => { z with skip := z.skip + 1, lskip := z.lskip + 1 })
    else
      let s := (s.recSpectrum i v x).lineSpectrum i v x
      (List.finRange 4).foldl (fun (s : State) (t : Fin 4) => s.traceSpectrum i v x t) s
  let s := (s.recEnd i seq).lineEnd i seq
  if src < 4 then
    let s := if gated then s else (List.finRange 4).foldl (fun (s : State) (m : Fin 4) => s.fmtSpectrum m src x.l f.centre) s
    s.nebSpectrum src seq f.begun f.centre gated x.l f.ovr f.thr x.dsat
  else s

/-- SPECTRUM_RELEASE: the next spectrum of a source is released; `bins` are its normalised bins X_b in units of 2^-69
(R173, R180). DESIGN CHOICE (log entry 41). DESIGN CHOICE (log entry 42). -/
def execSpectrumRelease (source : Fin 32) (bins : List (Int × Int)) (s : State) : Out :=
  .next (
    match fftIdx source with
    | none => s
    | some i =>
      if ! s.alive then s
      else
        let s := s.drainGaps i 4
        let s := s.dropLost i (s.fftSrc i).items.length
        match (s.fftSrc i).items with
        | .frame f q p false :: rest =>
          let s := s.modFftSrc i (fun z => { z with items := rest })
          (s.releaseSpec i f q ((s.carrier p).getD p) bins).drainGaps i 4
        | _ => s)

/-! ### Faults and takeovers (R194 to R197) -/

/-- Frames waiting on a source that pipe p's schedule holds. -/
def FftSrc.waiting (x : FftSrc) (p : Nat) : Nat :=
  (x.items.filter (fun it => match it with | .frame _ _ q l => q == p && ! l | _ => false)).length

/-- The unreleased frames of pipe p are not computed (R196). -/
def State.loseFrames (s : State) (p : Nat) : State :=
  (s.sourcesOfPipe p).foldl (fun s i => s.modFftSrc i (fun z => { z with
    items := z.items.map (fun it => match it with | .frame f q r l => .frame f q r (l || r == p) | _ => it) })) s

/-- The frames in flight of every zoom source are lost with a gap of cause 0x11 (R197). -/
def State.zoomLost (s : State) : State :=
  s.zoomSources.foldl (fun s i =>
    let x := s.fftSrc i
    let src := fftSourceOf i
    let lost := x.items.any (fun it => match it with | .frame .. => true | _ => false) || ! x.opened.isEmpty
    if lost then
      (s.setFftSrc i { x with
        opened := []
        items := x.items.map (fun it => match it with | .frame f q r _ => .frame f q r true | _ => it) }).put (FFT_SRC_STAT.POI_LOST src) 1
    else s) s

/-- A self-check ends with a result (R200 to R203); its end sets interrupt source 97. -/
def State.checkEnd (s : State) (result : Nat) : State :=
  let p := s.fft.check.getD 0
  let s : State := { s with fft := { s.fft with check := none, arb := none, transient := false, hand := none } }
  let s := (s.put FFT_CHECK_STAT.BUSY 0).put FFT_CHECK_STAT.PHASE 0
  let s := (s.put FFT_CHECK_STAT.LAST_RESULT result).put FFT_CHECK_STAT.LAST_PIPE p
  let s := if result == 1 || result == 2 then s.bumpWrap FFT_CHECK_COUNT.COUNT else s
  let s := if result == 1 then
      let sec := s.now.toNat / 2 ^ 40
      (s.put FFT_CHECK_TIME_LO.SEC sec).put FFT_CHECK_TIME_HI.SEC_HI (sec / 2 ^ 32)
    else s
  s.raiseIrq 97

/-- Pipe p becomes FAILED with a cause, recorded as PIPE_FAIL (R194). -/
def State.pipeFailed (s : State) (p cause loc : Nat) : State :=
  ((s.setPipe p pFAILED).put (FFT_PIPE_STAT.FAIL p) cause).fltRec 1 0x10 p 0x08 loc cause

/-- The spare takes the work of failed pipe p (R194): at most two frames are recomputed. -/
def State.takeFault (s : State) (p : Nat) : State :=
  let n := min 2 ((s.sourcesOfPipe p).foldl (fun a i => a + (s.fftSrc i).waiting p) 0)
  let s := if p = 9 then s.zoomLost else s.bumpBy (FFT_PIPE_CNT.REPLAYS 8) n
  let s : State := { s with fft := { s.fft with hand := none } }
  ((s.spareCarry p).spareUse p 3).setActive 0

/-- The spare fails while it stands in for pipe p: p returns where it is sound, else its frames are not computed. -/
def State.spareLost (s : State) (p : Nat) : State :=
  let s := s.spareFree.spareCondOff
  if s.pipe p == pFAILED || s.pipe p == pRECOVERING then s.loseFrames p else s.pipeOwn p

/-- PIPE_FAIL: pipe p detects a fault of cause 0x1 to 0x3 at a location (R194, R196 to R198, R203). -/
def State.pipeFailEvent (s : State) (p : Fin 10) (cause : BitVec 4) (loc : Word) : State :=
  (
    let q := p.val
    if ! (s.live (pipeDomain q) && decide (1 ≤ cause.toNat) && decide (cause.toNat ≤ 3)) || s.pipe q == pFAILED || s.pipe q == pOFF then s
    else
      let carried := s.fft.carry.find? (fun x => x.1 == q)
      let checked := s.fft.check == some q
      let byHand := match s.fft.hand with | some (_, r, _) => r == q | none => false
      let s := s.pipeFailed q cause.toNat loc.toNat
      if q = 8 then
        let t := s.get FFT_SPARE_STAT.TARGET
        let s := if s.fft.check.isSome then s.checkEnd 4 else s
        (if s.flag FFT_SPARE_STAT.IN_USE then s.spareLost t else s).spareRefresh
      else if carried.isSome then
        -- the spare carries it already: it keeps doing so
        let s : State := if byHand then { s with fft := { s.fft with hand := none } } else s
        let s := ((s.put FFT_SPARE_STAT.REASON 3).setActive 0).spareRefresh
        if checked then s.checkEnd 3 else s
      else if checked then (s.takeFault q).checkEnd 3
      else if byHand then (s.takeFault q)
      else
        let inTest := match s.fft.check with | some t => s.get FFT_CHECK_STAT.PHASE == 2 && t != 8 | none => false
        if ! s.hasSchedule q then s
        else if inTest then
          -- the pipe under TEST takes q's schedule, the spare keeps its own
          let t := s.fft.check.getD 0
          let s : State := { s with fft := { s.fft with carry := (q, t) :: s.fft.carry } }
          ((s.setPipe t pACTIVE).checkEnd 5).spareUse t 3 |>.setActive 0
        else if s.flag FFT_SPARE_STAT.AVAIL && ! s.flag FFT_SPARE_STAT.IN_USE && s.pipe 8 == pIDLE then s.takeFault q
        else if q = 9 then s.zoomLost
        else s.loseFrames q)

/-- PATTERN_TEST_DONE: the pattern test of a RECOVERING pipe, or the arbitration test of a check, ends (R198, R202).
DEDUCED (log entry 21): a pipe that fails its test raises PIPE_FAIL with cause 0x4, and FAIL keeps its cause when a pipe
passes. -/
def State.patternTestEvent (s : State) (p : Fin 10) (pass : Bool) : State :=
  (
    let q := p.val
    if ! s.live (pipeDomain q) then s
    else match s.fft.arb with
      | some (r, out) =>
        if r != q then s
        else
          let t := s.fft.check.getD 0
          let s : State := { s with fft := { s.fft with arb := none } }
          if ! pass then
            let s := s.pipeFailed q 5 (pipeLoc q)
            if q = 8 then ((s.checkEnd 4).spareFree).pipeOwn t
            else (s.checkEnd 3).takeFault q
          else if out then
            -- SHADOW_OUT: both pipes have passed
            let s := (s.spareFree).pipeOwn t
            (s.fltInfo 0x11 t 0x08 (pipeLoc t) 0).checkEnd 2
          else
            -- the spare passed: the check continues into TEST of the checked pipe
            let s : State := { s with fft := { s.fft with transient := true } }
            ((s.spareCarry t).setPipe t pTEST).put FFT_CHECK_STAT.PHASE 2
      | none =>
        if s.pipe q != pRECOVERING then s
        else if pass then
          let carried := s.fft.carry.any (fun x => x.1 == q)
          (((s.setPipe q pIDLE).setPipe q (if carried || ! s.hasSchedule q then pIDLE else pACTIVE)).pipeCondition).spareRefresh
        else (s.pipeFailed q 4 (pipeLoc q)).spareRefresh)

/-! ### Commands (R186, R187, R198 to R203) -/

/-- START or TAKEOVER finds a check running or the spare in use. -/
def State.spareBusy (s : State) : Bool := s.fft.check.isSome || s.flag FFT_SPARE_STAT.IN_USE

/-- The spare can be engaged. -/
def State.spareReady (s : State) : Bool := s.domOn dFFT_S && s.pipe 8 != pFAILED && s.pipe 8 != pRECOVERING && s.pipe 8 != pOFF

/-- A self-check of pipe p starts (R200, R201). -/
def State.checkBegin (s : State) (p : Nat) : State :=
  let s := s.put FFT_CHECK_STAT.BUSY 1
  let s : State := { s with fft := { s.fft with check := some p } }
  if p = 8 then (s.put FFT_CHECK_STAT.PHASE 4).setPipe 8 pTEST
  else
    let s : State := { s with fft := { s.fft with hand := some (.checkIn, p, s.now) } }
    (s.put FFT_CHECK_STAT.PHASE 1).spareUse p 1

/-- The running check is aborted with a result: the checked pipe serves its schedule at once (R203). -/
def State.checkAbort (s : State) (result : Nat) : State :=
  match s.fft.check with
  | none => s
  | some p => if p = 8 then (s.setPipe 8 pIDLE).checkEnd result else ((s.checkEnd result).spareFree).pipeOwn p

/-- FFT_SPARE_CTRL at the write (R199, R203). -/
def State.spareWrite (s : State) (w : Word) : Except Err State :=
  let take := w.toNat.testBit 8
  let rel := w.toNat.testBit 9
  let p := s.get FFT_SPARE_CTRL.TARGET
  let t := s.get FFT_SPARE_STAT.TARGET
  if take && rel then .error .conflict
  else if take then
    if ! s.spareReady then .error .sequence
    else if s.pipe p != pACTIVE then .error .conflict
    else .ok (({ s with fft := { s.fft with hand := some (.takeover, p, s.now) } } : State).spareUse p 2)
  else if rel then
    if ! s.flag FFT_SPARE_STAT.IN_USE then .error .sequence
    else if s.pipe t == pFAILED || s.pipe t == pRECOVERING then .error .conflict
    else .ok { s with fft := { s.fft with hand := some (.release, t, s.now) } }
  else .ok s

/-- FFT_CHECK_CTRL at the write (R200, R201, R203). -/
def State.checkWrite (s : State) (w : Word) : Except Err State :=
  let start := w.toNat.testBit 24
  let abort := w.toNat.testBit 25
  let p := s.get FFT_CHECK_CTRL.TARGET
  if start && abort then .error .conflict
  else if start then
    if ! s.spareReady then .error .sequence
    else if p != 8 && s.pipe p != pACTIVE && s.pipe p != pIDLE then .error .conflict
    else .ok (s.checkBegin p)
  else if abort then if s.fft.check.isNone then .error .sequence else .ok (s.checkAbort 5)
  else .ok s

/-- SNAP and RESET of a trace at the write (R186, R187): in block mode there is nothing to snap. -/
def State.traceWrite (s : State) (i : Fin 20) (t : Fin 4) (w : Word) : State :=
  let src := fftSourceOf i
  let running := ! s.appFlag (FFT_SRC_TRC.BLOCK src t) && s.app (FFT_SRC_TRC.MODE src t) != 0
  let s := if w.toNat.testBit 29 && running then
      s.put (FFT_SRC_TRS.SNAP_PEND src) (setBit (s.get (FFT_SRC_TRS.SNAP_PEND src)) t true)
    else s
  if w.toNat.testBit 28 then s.modFftSrc i (fun z => { z with traceReset := vset z.traceReset t true }) else s

/-- The trace whose FFT_SRC_TRC stands at `a`. -/
def traceAt (a : Nat) : Option (Fin 20 × Fin 4) :=
  ((List.finRange 20).flatMap (fun i => (List.finRange 4).map (fun (t : Fin 4) => (i, t)))).find? (fun x => a == FFT_SRC_TRC.addr (fftSourceOf x.1) x.2)

/-- The FFT registers' own rules. -/
def fftRules : WriteRules :=
  { pre := fun s _ a w =>
      if a == FFT_SPARE_CTRL.addr then
        let take := w.toNat.testBit 8
        let rel := w.toNat.testBit 9
        if take && ! rel && s.spareBusy then some .busy
        else if rel && ! take && (s.fft.check.isSome || s.fft.hand.isSome) then some .busy
        else none
      else if a == FFT_CHECK_CTRL.addr then
        if w.toNat.testBit 24 && ! w.toNat.testBit 25 && s.spareBusy then some .busy else none
      else match traceAt a with
        | some (i, t) => if w.toNat.testBit 29 && (s.get (FFT_SRC_TRS.SNAP_PEND (fftSourceOf i))).testBit t then some .busy else none
        | none => none
    act := fun _ a w s =>
      if a == FFT_SPARE_CTRL.addr then s.spareWrite w
      else if a == FFT_CHECK_CTRL.addr then s.checkWrite w
      else match traceAt a with
        | some (i, t) => .ok (s.traceWrite i t w)
        | none =>
          match (List.range 10).find? (fun p => a == FFT_PIPE_CTRL.addr p) with
          | some p =>
            if w.toNat.testBit 0 then
              if s.pipe p == pFAILED then .ok (s.setPipe p pRECOVERING) else .error .sequence
            else .ok s
          | none => .ok s }

/-- TRACE_SNAP (R186, R187). -/
def execTraceSnap (source : Fin 32) (t : Fin 4) (src : Source) (v : Word) (s : State) : Out :=
  .next (s.writeReg fftRules src (FFT_SRC_TRC.addr source t) (v ||| BitVec.ofNat 32 (2 ^ 29)))

/-- TRACE_RESET (R187). -/
def execTraceReset (source : Fin 32) (t : Fin 4) (src : Source) (v : Word) (s : State) : Out :=
  .next (s.writeReg fftRules src (FFT_SRC_TRC.addr source t) (v ||| BitVec.ofNat 32 (2 ^ 28)))

/-- PIPE_RESET (R198). -/
def execPipeReset (p : Fin 10) (src : Source) (v : Word) (s : State) : Out :=
  .next (s.writeReg fftRules src (FFT_PIPE_CTRL.addr p) (v ||| 1))

/-- SPARE_TAKEOVER (R199, R203). -/
def execSpareTakeover (src : Source) (v : Word) (s : State) : Out :=
  .next (s.writeReg fftRules src FFT_SPARE_CTRL.addr (v ||| BitVec.ofNat 32 (2 ^ 8)))

/-- SPARE_RELEASE (R199, R203). DEDUCED (log entry 44). -/
def execSpareRelease (src : Source) (v : Word) (s : State) : Out :=
  .next (s.writeReg fftRules src FFT_SPARE_CTRL.addr (v ||| BitVec.ofNat 32 (2 ^ 9)))

/-- SPARE_SWITCH: the shadow phase ends with the comparison of its frames: a match switches on this edge; a mismatch of a
self-check starts the pattern test of the other pipe, and a manual handover goes on comparing (R199, R200, R202). -/
def execSpareSwitch (isMatch : Bool) (s : State) : Out :=
  .next (
    if ! s.live dFFT_S then s
    else match s.fft.hand, isMatch with
      | some (k, p, _), true =>
        let s : State := { s with fft := { s.fft with hand := none } }
        match k with
        | .takeover => ((s.spareCarry p).setPipe p pIDLE).setActive 0
        | .release =>
          -- a schedule that p carried meanwhile goes back to its own pipe
          let others := (s.fft.carry.filter (fun x => x.2 == p)).map (·.1)
          let s := (s.spareFree).pipeOwn p
          (others.foldl (fun s q => s.pipeOwn q) s).spareCondOff
        | .checkIn => ((s.spareCarry p).setPipe p pTEST).put FFT_CHECK_STAT.PHASE 2
        | .checkOut =>
          let t := s.fft.transient
          let s := (s.spareFree).pipeOwn p
          if t then (s.fltInfo 0x11 p 0x08 (pipeLoc p) 0).checkEnd 2 else s.checkEnd 1
      | some (k, p, _), false =>
        match k with
        | .checkIn => ({ s with fft := { s.fft with hand := none, arb := some (8, false) } } : State).setPipe 8 pTEST
        | .checkOut => ({ s with fft := { s.fft with hand := none, arb := some (p, true) } } : State).setPipe p pTEST
        | _ => s
      | none, _ => s)

/-- CHECK_START (R201, R203). DEDUCED (log entry 44). -/
def execCheckStart (src : Source) (v : Word) (s : State) : Out :=
  .next (s.writeReg fftRules src FFT_CHECK_CTRL.addr (v ||| BitVec.ofNat 32 (2 ^ 24)))

/-- CHECK_ABORT (R203). -/
def execCheckAbort (src : Source) (v : Word) (s : State) : Out :=
  .next (s.writeReg fftRules src FFT_CHECK_CTRL.addr (v ||| BitVec.ofNat 32 (2 ^ 25)))

/-- The pipe of turn k: 0 to 7, then 9, then the spare (R201). -/
def turnPipe (k : Nat) : Nat := if k < 8 then k else if k = 8 then 9 else 8

/-- The next turn from k on whose pipe is on and assigned to a source; the spare's is always taken. -/
def State.nextTurn (s : State) (k : Nat) : Option Nat :=
  ((List.range 10).map (fun i => (k + i) % 10)).find? (fun t =>
    turnPipe t == 8 || (s.pipe (turnPipe t) == pACTIVE && s.hasSchedule (turnPipe t)))

/-- CHECK_INTERVAL: the periodic timer expires (R201). -/
def execCheckInterval (s : State) : Out :=
  .next (
    if s.live dFFT_S && s.app FFT_CHECK_CTRL.INTERVAL != 0 && ! s.spareBusy && ! s.flag FFT_CHECK_STAT.SUSPENDED && s.spareReady then
      match s.nextTurn s.fft.turn with
      | some t => ({ s with fft := { s.fft with turn := (t + 1) % 10 } } : State).checkBegin (turnPipe t)
      | none => s
    else s)

/-- CHECK_TEST_DONE: the TEST phase, or the spare's pattern test, ends (R200, R201, R202). -/
def State.checkTestEvent (s : State) (pass : Bool) : State :=
  (
    match s.fft.check with
    | some p =>
      if ! s.live dFFT_S then s
      else if p = 8 then
        if pass then (s.setPipe 8 pIDLE).checkEnd 1
        else (s.pipeFailed 8 4 (pipeLoc 8)).checkEnd 4 |>.spareRefresh
      else if s.get FFT_CHECK_STAT.PHASE == 2 && s.fft.arb.isNone then
        if pass then
          ({ s with fft := { s.fft with hand := some (.checkOut, p, s.now) } } : State).put FFT_CHECK_STAT.PHASE 3
        else
          let s := s.pipeFailed p 4 (pipeLoc p)
          ((s.checkEnd 3).spareUse p 3).setActive 0
      else s
    | none => s)

/-! ### Apply (R164, R167, R172, R182, R187, R193, R205) -/

/-- Which pipes a set-up assigns to each channel: a channel whose N, hop and rate stay keeps its own, the others take the
lowest-indexed pipes in service that are free, in ascending source (R167). -/
def State.assignPipes (s : State) (v : View') (kept : Nat → Bool) : List (Nat × List Nat) :=
  let keepers := (List.range 4).filter (fun c => srcOnV v c && kept c)
  let held := keepers.map (fun c => (c, match fftIdx c with | some i => (s.fftSrc i).pipes | none => []))
  ((List.range 4).filter (fun c => srcOnV v c && ! kept c)).foldl (fun acc c =>
    let used := acc.flatMap (·.2)
    let free := (List.range 8).filter (fun p => s.pipeGood p && ! used.contains p && ! s.fft.carry.any (fun x => x.1 == p || x.2 == p))
    acc ++ [(c, free.take (pipesNeededV v c))]) held

/-- The admission check of a set-up finds ENBW and C_HALF of each source's window, which FFT_WIN_INFO takes at the apply
edge (R172). DEDUCED (log entry 26). DEDUCED (log entry 43). -/
def State.winCheck (s : State) (v : View') : State :=
  let ws := (List.finRange 20).filterMap (fun (i : Fin 20) =>
    let src := fftSourceOf i
    if srcOnV v src then
      let win := v (srcWinFld src)
      let n := srcN v src
      let slot := if win = 5 ∨ win = 6 then
          (List.range (n / 2)).map (fun k => s.sramLE (0x06A04000 + (win - 5) * 0x10000 + k * 2) 2)
        else []
      let w := windowInfo win (v (srcBetaFld src)) n slot
      some (src, w.1, w.2)
    else none)
  { s with fft := { s.fft with winNext := ws } }

/-- A source place takes its new settings: start, stop, or a flush where N or hop changes. DEDUCED (log entry 26). -/
def State.fftSrcApply (s : State) (i : Fin 20) (old : State) : State :=
  let src := fftSourceOf i
  let x := s.fftSrc i
  let on := srcOnV s.app src
  let valid := if src < 4 then s.chanValid src else s.flag (DDC_STAT.VALID (src - 16))
  let s := if on && ! x.on then
      (s.setFftSrc i { FftSrc.reset with on := true, out := x.out }).putB (FFT_SRC_STAT.VALID src) valid
    else if ! on && x.on then (s.setFftSrc i { x with on := false, opened := [], items := [] }).put (FFT_SRC_STAT.VALID src) 0
    else if on && (srcN s.app src != srcN old.app src || srcHop s.app src != srcHop old.app src) then
      let b := if x.frames = 0 then s.now else x.lastFrame
      let s := s.setFftSrc i { x with count := 0, frames := 0, opened := [], items := x.items ++ [.gap 0x10 b none] }
      let s := s.gapCount src
      if valid then s.fftSourceStart src s.now else s
    else s
  let s := (List.finRange 4).foldl (fun (s : State) (t : Fin 4) =>
    if [FFT_SRC_TRC.MODE src t, FFT_SRC_TRC.BLOCK src t, FFT_SRC_TRC.A src t].any (fun f => s.app f != old.app f) then
      s.modFftSrc i (fun z => { z with traceReset := vset z.traceReset t true })
    else s) s
  if on then
    match s.fft.winNext.find? (fun x => x.1 == src) with
    | some w => (s.put (FFT_WIN_INFO.ENBW src) w.2.1).put (FFT_WIN_INFO.C_HALF src) w.2.2
    | none => s
  else s

/-- FFT takes an apply edge: `old` holds the state before it. -/
def State.fftApply (s : State) (old : State) : State :=
  let s : State := { s with fft := { s.fft with oldApplied := old.applied, applyEdge := s.now } }
  let same (c : Nat) : Bool :=
    srcOnV old.app c && srcN s.app c == srcN old.app c && srcHop s.app c == srcHop old.app c && chanRateV s.app == chanRateV old.app
  -- a check whose pipe serves a source that changes ends (R203)
  let s := match s.fft.check with
    | some p =>
      if p != 8 && (s.sourcesOfPipe p).any (fun i =>
          let src := fftSourceOf i
          ! (srcOnV s.app src && srcN s.app src == srcN old.app src && srcHop s.app src == srcHop old.app src
            && chanRateV s.app == chanRateV old.app)) then s.checkAbort 5
      else s
    | none => s
  let pipes := s.assignPipes s.app same
  let s := (List.finRange 20).foldl (fun (s : State) (i : Fin 20) => s.fftSrcApply i old) s
  let s := (List.finRange 20).foldl (fun (s : State) (i : Fin 20) =>
    if i.val < 4 then s.modFftSrc i (fun z => { z with pipes := ((pipes.find? (fun x => x.1 == i.val)).map (·.2)).getD [] }) else s) s
  let s := (List.range 10).foldl (fun s p =>
    let owner := if p = 9 then (if s.zoomSources.isEmpty then 0xF else 8)
      else ((pipes.find? (fun x => x.2.contains p)).map (·.1)).getD 0xF
    let s := s.put (FFT_PIPE_STAT.SRC p) owner
    if p = 8 || s.fft.carry.any (fun x => x.1 == p || x.2 == p) then s
    else if s.pipe p == pIDLE && owner != 0xF then s.setPipe p pACTIVE
    else if s.pipe p == pACTIVE && owner == 0xF then s.setPipe p pIDLE
    else s) s
  let s := if s.get (FFT_PIPE_STAT.STANDIN 8) == 0xF then s
    else s.put (FFT_PIPE_STAT.SRC 8) (s.get (FFT_PIPE_STAT.SRC (s.get (FFT_PIPE_STAT.STANDIN 8))))
  (List.range 2).foldl (fun s u =>
    s.putB (FFT_UWIN.IN_USE u) ((List.finRange 20).any (fun (i : Fin 20) => (s.fftSrc i).on && s.app (srcWinFld (fftSourceOf i)) == 5 + u))) s

/-- Domain d comes on: its pipes are IDLE. It goes off: they are OFF. -/
def State.fftDomain (s : State) (d : Nat) (on : Bool) : State :=
  ((List.range 10).foldl (fun s p =>
    if pipeDomain p == d then
      if on then (if s.pipe p == pOFF then s.setPipe p pIDLE else s) else (s.setPipe p pOFF).put (FFT_PIPE_STAT.FAIL p) 0
    else s) s).spareRefresh.pipeCondition

end Sys2Proof.Machine
end

