-- ==== Sys2Proof/Machine/Taps.lean ====
section
/-! DEFINITION. The stream taps of the Lodestar cores: what a DDC's output does to them, and which SRAM words are
poisoned. -/

namespace Sys2Proof.Machine

/-- The power domain of core n (R22). -/
def coreDomain (n : Fin 8) : Nat := if n.val < 4 then dCORE_A else dCORE_B

/-- Tap q of core n is enabled on DDC k, and the core's domain works (R355). -/
def State.tapOn (s : State) (n : Fin 8) (q : Fin 2) (k : Nat) : Bool :=
  s.live (coreDomain n) && (if q.val = 0 then s.appFlag (LOD_TAP.EN_0 n) && s.app (LOD_TAP.DDC_0 n) == k
    else s.appFlag (LOD_TAP.EN_1 n) && s.app (LOD_TAP.DDC_1 n) == k)

/-- Tap q of core n changed. -/
def State.modTap (s : State) (n : Fin 8) (q : Fin 2) (f : LodTap → LodTap) : State :=
  { s with lod := { s.lod with tap := vmod s.lod.tap n (fun t => vmod t q f) } }

/-- Tap q of core n. -/
def State.tap (s : State) (n : Fin 8) (q : Fin 2) : LodTap := vget (vget s.lod.tap n) q

/-- Every tap on DDC k changed by f. -/
def State.modTapsOf (s : State) (k : Nat) (f : LodTap → LodTap) : State :=
  (List.finRange 8).foldl (fun (s : State) (n : Fin 8) =>
    (List.finRange 2).foldl (fun (s : State) (q : Fin 2) => if s.tapOn n q k then s.modTap n q f else s) s) s

/-- A valid output of DDC k, the `seq`-th since its reset, starts to cross to the taps on it (R355, R357). -/
def State.tapCross (s : State) (k : Nat) (seq : Nat) (y : OutSample) : State :=
  let item (gap : Bool) : TapItem :=
    { i := BitVec.ofInt 24 y.i, q := BitVec.ofInt 24 y.q, ovr := y.ovr, thr := y.thr, dsat := y.dsat
      seq := BitVec.ofNat 16 seq, gap := gap, stamp := y.stamp }
  s.modTapsOf k (fun t => { t with gap := false, crossing := t.crossing ++ [item t.gap] })

/-- The outputs of DDC k stop being valid: the next entry carries GAP (R357). -/
def State.tapGap (s : State) (k : Nat) : State := s.modTapsOf k (fun t => { t with gap := true })

/-! ### Poisoned SRAM words (R573) -/

/-- The 64-bit SRAM word of byte address a is poisoned. -/
def State.poisoned (s : State) (a : Nat) : Bool :=
  s.flt.poison.contains (a / 8 * 8) || s.flt.poisonUntracked.contains (a / 8 * 8)

/-- The bank group of an SRAM address, as a fault location (R37, R38). The place within the tile is a free value: the
manual gives the bank group alone. -/
def State.sramLoc (s : State) (a : Nat) : Nat × State :=
  (tileLoc (a / 256 % 4) 9 0 + s.free.toNat % 2 ^ 24, s.drawFree)

/-- A write has covered bytes a to a + n - 1: words it covers whole are no longer poisoned (R573), and the condition
SRAM_POISON clears when no tracked word remains and none went untracked (R569). -/
def State.unpoison (s : State) (a n : Nat) : State :=
  let covered (w : Nat) : Bool := decide (a ≤ w) && decide (w + 8 ≤ a + n)
  if (s.flt.poison ++ s.flt.poisonUntracked).any covered then
    let p := s.flt.poison.filter (fun w => ! covered w)
    let s : State := { s with flt := { s.flt with poison := p, poisonUntracked := s.flt.poisonUntracked.filter (fun w => ! covered w) } }
    let s := s.put FLT_POISON.HELD p.length
    if p.isEmpty && ! s.flag FLT_POISON.POISON_OVF && s.get FLT_ACTIVE.ACTIVE / 2 ^ 8 % 2 == 1 then s.clearActive 8 else s
  else s

end Sys2Proof.Machine
end

