-- ==== Sys2Proof/Machine/Front.lean ====
section
/-! DEFINITION. Front conversion and the zoom DDC chain: channels, IQ pairing, DC blockers, DDC resets and settling,
cross-fades, sample distribution. -/

namespace Sys2Proof.Machine

/-- The release delay of a set, in FCLK cycles, from the (D, P) of its DDCs (R158). -/
def releaseDelay (l : List (Nat × Nat)) : Nat :=
  let w := l.foldl (fun m x => max m (ceilDiv (settleCount x.1 * 2 ^ x.1) x.2)) 0
  let p := l.foldl (fun m x => max m (max 1 (2 ^ x.1 / x.2))) 1
  ceilDiv w p * p

/-! ### DDC resets -/

/-- The outputs of DDC k stop being valid: its consumers' streams end (R155, R160). -/
def State.ddcInvalid (s : State) (k : Fin 16) (cause : Nat) : State :=
  if s.flag (DDC_STAT.VALID k) then
    let before := ((vget s.ddc.ch k).lastStamp).getD s.now
    let s := (s.put (DDC_STAT.VALID k) 0).tapGap k
    ((s.fftSourceGap (ddcSource k) cause before).acqSourceGap (ddcSource k) cause before).trgGap (ddcSource k)
  else s

/-- A cross-fade of DDC k ends with the bank that fades in active (R160). -/
def State.fadeDrop (s : State) (k : Fin 16) : State :=
  if s.flag (DDC_BANK.FADING k) then
    let s1 := if (vget s.ddc.ch k).fadePos = 0 then s.put (DDC_BANK.ACTIVE k) (1 - s.get (DDC_BANK.ACTIVE k)) else s
    s1.put (DDC_BANK.FADING k) 0
  else s

/-- A reset of DDC k on the edge t0 (R155): delay lines, NCO phase and counters cleared, valid = 0 until its release.
A DDC whose source channel is not valid waits for the local reset (R156). -/
def State.ddcReset (s : State) (k : Fin 16) (set : Nat) (release : Option Stamp) : State :=
  let s := (s.ddcInvalid k 0x20).fadeDrop k
  let c := vget s.ddc.ch k
  let c' : DdcCh := { DdcCh.reset with release := release, estI := c.estI, estQ := c.estQ, lastStamp := c.lastStamp }
  let s : State := { s with ddc := { s.ddc with ch := vset s.ddc.ch k c' } }
  let s := (s.put (DDC_STAT.SET k) set).bump (DDC_CNT.RESET_COUNT k)
  s.putB (DDC_STAT.SETTLING k) (s.chanValid (s.app (DDC_CFG.SRC_CH k)))

/-- The next SET_COUNT: 1 to 255, skipping 0 (R156). -/
def State.nextSet (s : State) : Nat := let n := s.get DDC_SYNC_STAT.SET_COUNT; if n = 255 then 1 else n + 1

/-- The DDCs of `ks` reset as one set at t0 (R156, R158). -/
def State.ddcResetSet (s : State) (ks : List (Fin 16)) (t0 : Stamp) : State :=
  let set := s.nextSet
  let p := modeSamples (s.app LNK_CTRL.MODE)
  let tR := t0 + BitVec.ofNat 80 (fclkStamp (releaseDelay (ks.map (fun (k : Fin 16) => (s.app (DDC_CFG.DEC k), p)))))
  ks.foldl (fun s k => s.ddcReset k set (some tR)) (s.put DDC_SYNC_STAT.SET_COUNT set)

/-- The armed synchronising reset takes place at t0 (R159, R160). -/
def State.ddcSyncFire (s : State) (t0 : Stamp) : State :=
  if s.flag DDC_SYNC_STAT.PENDING then
    let ks := (List.finRange 16).filter (fun (k : Fin 16) => s.ddc.syncMask.testBit k && s.ddcEn k)
    let s := s.put DDC_SYNC_STAT.PENDING 0
    if ks.isEmpty then s.put DDC_SYNC_STAT.DONE 1
    else
      let s := s.ddcResetSet ks t0
      { s with ddc := { s.ddc with syncSet := some (s.get DDC_SYNC_STAT.SET_COUNT) } }
  else s

/-! ### Channels -/

/-- Channel ch starts to deliver: its consumers' streams begin and every enabled DDC on it takes a local reset (R126,
R156). With ALIGN = 1 a channel that is not the first enters with the fill alignment needs: a free value, since it
depends on latencies the manual does not number. -/
def State.chanUp (s : State) (ch : Fin 4) (first : Stamp) : State :=
  let others := s.get FCV_STAT.CH_VALID != 0
  let align := s.appFlag FCV_MAP.ALIGN && 2 ≤ s.app LNK_CTRL.MODE && others
  let need := s.free.toNat % 256
  let s := if align then s.drawFree else s
  let s : State := { s with fcv := { s.fcv with fill := vset s.fcv.fill ch (if align && need ≤ 128 then need else 64) } }
  let s := if align && 128 < need then
      (s.put FCV_STAT.ALIGN_FAIL 1).fltInfo 0x0A ch 0x05 (tileLoc 0 10 0) 0
    else s
  let s := s.put FCV_STAT.CH_VALID (setBit (s.get FCV_STAT.CH_VALID) ch true)
  let s := (s.fftSourceStart ch first).acqSourceStart ch first
  (List.finRange 16).foldl (fun (s : State) (k : Fin 16) =>
    if s.ddcEn k && s.app (DDC_CFG.SRC_CH k) == ch.val then
      (s.ddcReset k 0 none).put (DDC_STAT.LOCAL_RESET k) 1
    else s) s

/-- The stream of channel ch ends with a cause (R119, R160). -/
def State.chanDown (s : State) (ch : Fin 4) (cause : Nat) : State :=
  if s.chanValid ch then
    let before := (vget s.fcv.lastStamp ch).getD s.now
    let s := s.put FCV_STAT.CH_VALID (setBit (s.get FCV_STAT.CH_VALID) ch false)
    let s := ((s.fftSourceGap ch cause before).acqSourceGap ch cause before).trgGap ch
    (List.finRange 16).foldl (fun (s : State) (k : Fin 16) =>
      if s.ddcEn k && s.app (DDC_CFG.SRC_CH k) == ch.val then
        ((s.ddcInvalid k cause).fadeDrop k).put (DDC_STAT.SETTLING k) 0
      else s) s
  else s

/-- CONV_SEL of channel ch, applied. -/
def State.convSel (s : State) (ch : Nat) : Nat :=
  match ch with
  | 0 => s.app FCV_MAP.CONV_SEL0 | 1 => s.app FCV_MAP.CONV_SEL1 | 2 => s.app FCV_MAP.CONV_SEL2 | _ => s.app FCV_MAP.CONV_SEL3

/-- Channel ch exists in the mode and is enabled (R124). -/
def State.chanEn (s : State) (ch : Nat) : Bool :=
  (s.app FCV_MAP.CH_EN).testBit ch
    && decide (ch < (match s.app LNK_CTRL.MODE with | 0 => 1 | 1 => 1 | 2 => 2 | _ => 4))

/-- Both converters of the IQ pair are valid: I and Q pair by their stamps (R131). -/
def State.iqPair (s : State) (i q : Stamp) : State :=
  let d : Int := (i.toNat : Int) - q.toNat
  let d := -d
  let rate : Nat := s.convRate
  let k : Nat := (2 * d.natAbs * rate + 2 ^ 40) / (2 * 2 ^ 40)
  if k ≤ 64 then
    let (r, s) := s.roundOpen (d * rate - (if d < 0 then -1 else 1) * (k * 2 ^ 40 : Nat)) (max rate 1)
    let s := (s.put FCV_STAT.IQ_PAIRED 1).put FCV_IQ_RESID.RESID (satSigned 32 r)
    s.chanUp 0 (if 0 < d then i + BitVec.ofNat 80 (k * 2 ^ 40 / max rate 1) else i)
  else (s.put FCV_STAT.IQ_PAIR_FAIL 1).fltInfo 0x0B 0 0x05 (tileLoc 0 10 0) k

/-- The stamp of a sample of converter c that arrived at t: less ALM_LAT_COMP (R79, R80). DEDUCED (log entry 37). -/
def State.lessLatency (s : State) (c : Nat) (t : Stamp) : Stamp :=
  t - BitVec.ofInt 80 (toSigned 32 (s.app (ALM_LAT_COMP.W c)))

/-- Converter c delivers, from the sample stamped `first` (R107, R124, R131). -/
def State.convUp (s : State) (c : Fin 4) (first : Stamp) : State :=
  let s : State := { s with fcv := { s.fcv with convFirst := vset s.fcv.convFirst c (some first) } }
  if s.app LNK_CTRL.MODE == 1 then
    match vget s.fcv.convFirst 0, vget s.fcv.convFirst 1 with
    | some i, some q => if s.chanEn 0 then s.iqPair i q else s
    | _, _ => s
  else
    (List.finRange 4).foldl (fun (s : State) (ch : Fin 4) => if s.chanEn ch && s.convSel ch == c.val then s.chanUp ch first else s) s

/-- Converter c is lost: the channels it feeds end (R107, R119). -/
def State.convDown (s : State) (c cause : Nat) : State :=
  if h : c < 4 then
    let s : State := { s with fcv := { s.fcv with convFirst := vset s.fcv.convFirst ⟨c, h⟩ none } }
    if s.app LNK_CTRL.MODE == 1 then (s.put FCV_STAT.IQ_PAIRED 0).chanDown 0 cause
    else (List.finRange 4).foldl (fun (s : State) (ch : Fin 4) => if s.convSel ch == c then s.chanDown ch cause else s) s
  else s

/-! ### Samples -/

/-- Units of a DC estimate in one LSB: 2^64. -/
abbrev dcOne : Int := 18446744073709551616

/-- The EST field of a DC estimate: 8 fraction bits, sign-extended (R138, R162). -/
def estField (e : Int) : Nat := satSigned 32 (e / 72057594037927936)

/-- One sample of channel ch through FCV's corrections, with the estimate held over its FCLK (R127, R129, R132, R133,
R138): the delivered sample and the state after its flags and counters. -/
def State.fcvSample (s : State) (ch : Fin 4) (x : Sample) : OutSample × State :=
  let iq := s.app LNK_CTRL.MODE == 1
  let i0 := x.i
  let g : Int := s.app FCV_IQ_GAIN.GAIN
  let p := toSigned 16 (s.app FCV_IQ_PHASE.PHASE)
  let (q0, s) := if iq then s.roundOpen (2 * g * x.q + p * x.i) 131072 else (x.q, s)
  let q0 := if s.appFlag (FCV_CHAN.SPEC_INV ch) && ! iq then -q0 else q0
  let en := s.appFlag (FCV_DCB.EN ch)
  let (i1, s) := if en then s.roundOpen (satInt 18 i0 * dcOne - vget s.fcv.estI ch) dcOne else (satInt 18 i0, s)
  let (q1, s) := if en then s.roundOpen (satInt 18 q0 * dcOne - vget s.fcv.estQ ch) dcOne else (satInt 18 q0, s)
  let sat := overflows 18 i0 || overflows 18 q0 || overflows 18 i1 || overflows 18 q1
  let s := if sat then (s.put FCV_STAT.DSAT (setBit (s.get FCV_STAT.DSAT) ch true)).bump (FCV_CH_CNT.DSAT_COUNT ch) else s
  (⟨x.stamp, satInt 18 i1, satInt 18 q1, x.ovr, x.thr, sat⟩, s)

/-- The DC blocker of channel ch updates once per FCLK over the samples of that FCLK (R133, R134).
DEDUCED (log entry 40). -/
def State.fcvDc (s : State) (ch : Fin 4) (xs : List Sample) : State :=
  if ! s.appFlag (FCV_DCB.EN ch) || s.appFlag (FCV_DCB.FREEZE ch) || (s.appFlag (FCV_DCB.AUTO_FRZ ch) && xs.any (·.ovr)) then s
  else
    let k : Int := (2 ^ s.app (FCV_DCB.K ch) : Nat)
    let ei := vget s.fcv.estI ch
    let eq := vget s.fcv.estQ ch
    let ei' := ei + (xs.foldl (fun a x => a + (satInt 18 x.i * dcOne - ei)) 0) / k
    let eq' := eq + (xs.foldl (fun a x => a + (satInt 18 x.q * dcOne - eq)) 0) / k
    let s : State := { s with fcv := { s.fcv with estI := vset s.fcv.estI ch ei', estQ := vset s.fcv.estQ ch eq' } }
    (s.put (FCV_DC_EST_I.EST ch) (estField ei')).put (FCV_DC_EST_Q.EST ch) (estField eq')

/-- Sum of the magnitudes of the active bank's coefficients of DDC k, 17 fraction bits (R144, R147). -/
def State.ddcCoefSum (s : State) (k : Nat) : Nat :=
  (List.range 96).foldl (fun a t =>
    a + (toSigned 18 (s.sramLE (0x06A00000 + k * 0x400 + s.get (DDC_BANK.ACTIVE k) * 0x200 + t * 4) 4 % 2 ^ 18)).natAbs) 0

/-- One output of DDC k (R149, R151 to R154): the FIR output is a free value, since the NCO and half-band numerics are
not given; DC blocker, gain, rounding, saturation, flags, stamp and cross-fade progress are as stated. -/
def State.ddcOutput (s : State) (k : Fin 16) (stamp : Stamp) : State :=
  let c := vget s.ddc.ch k
  let d := s.app (DDC_CFG.DEC k)
  let f := s.free.toNat
  let s := s.drawFree
  let fi := toSigned 31 (f % 2 ^ 31)
  let fq := toSigned 31 (f / 2 ^ 31 % 2 ^ 31)
  let fsat := f.testBit 62 && decide (2 ^ 18 < s.ddcCoefSum k)
  let en := s.appFlag (DDC_DCB.EN k)
  let vi := fi * dcOne - (if en then c.estI else 0)
  let vq := fq * dcOne - (if en then c.estQ else 0)
  let g : Int := (s.app (DDC_GAIN.GAIN k) * 2 ^ s.app (DDC_GAIN.SHIFT k) : Nat)
  let yi := roundEven (vi * g) (dcOne * 65536)
  let yq := roundEven (vq * g) (dcOne * 65536)
  let own := overflows 24 yi || overflows 24 yq || fsat
  let span := chainSpan d
  let ovr := decide (c.ovrAge < span)
  let thr := decide (c.thrAge < span)
  let dsat := own || decide (c.dsatAge < span)
  let hold := ! en || s.appFlag (DDC_DCB.FREEZE k) || (s.appFlag (DDC_DCB.AUTO_FRZ k) && ovr)
  let gk : Int := (2 ^ s.app (DDC_DCB.K k) : Nat)
  let ei := if hold then c.estI else c.estI + (fi * dcOne - c.estI) / gk
  let eq := if hold then c.estQ else c.estQ + (fq * dcOne - c.estQ) / gk
  let t := stamp - BitVec.ofNat 80 ((span - 1) * 2 ^ 40 / (2 * max s.chanRate 1))
  let valid := s.flag (DDC_STAT.VALID k)
  let fading := s.flag (DDC_BANK.FADING k)
  let s := if fading && c.fadePos = 0 then s.put (DDC_BANK.ACTIVE k) (1 - s.get (DDC_BANK.ACTIVE k)) else s
  let c' := { c with outs := c.outs + 1, estI := ei, estQ := eq, fadePos := if fading then c.fadePos + 1 else c.fadePos,
                     lastStamp := if valid then some t else c.lastStamp }
  let s : State := { s with ddc := { s.ddc with ch := vset s.ddc.ch k c' } }
  let s := (s.put (DDC_DC_EST_I.EST k) (estField ei)).put (DDC_DC_EST_Q.EST k) (estField eq)
  if valid then
    let s := if ovr then s.put (DDC_STAT.OVR k) 1 else s
    let s := if dsat then s.put (DDC_STAT.DSAT k) 1 else s
    let s := if own then s.bump (DDC_CNT.DSAT_COUNT k) else s
    let y : OutSample := ⟨t, satInt 24 yi, satInt 24 yq, ovr, thr, dsat⟩
    let s := s.trgSample (ddcSource k) y
    let s := if (s.app (DDC_CFG.DEST k)).testBit 2 then s.tapCross k c.outs y else s
    let s := if (s.app (DDC_CFG.DEST k)).testBit 1 then s.acqSample (ddcSource k) y else s
    if (s.app (DDC_CFG.DEST k)).testBit 0 then s.fftSample (ddcSource k) y else s
  else s

/-- One source sample enters DDC k (R142, R153, R155). -/
def State.ddcSample (s : State) (k : Fin 16) (x : OutSample) : State :=
  let c := vget s.ddc.ch k
  let ftw := s.app (DDC_FTW_LO.FTW_LO k) + s.app (DDC_FTW_HI.FTW_HI k) * 2 ^ 32
  let age (hit : Bool) (n : Nat) : Nat := if hit then 0 else min (n + 1) (2 ^ 24)
  let full := c.cnt + 1 == 2 ^ s.app (DDC_CFG.DEC k)
  let c' := { c with phase := c.phase + BitVec.ofNat 48 ftw, cnt := if full then 0 else c.cnt + 1,
                     ovrAge := age x.ovr c.ovrAge, thrAge := age x.thr c.thrAge, dsatAge := age x.dsat c.dsatAge }
  let s : State := { s with ddc := { s.ddc with ch := vset s.ddc.ch k c' } }
  if full then s.ddcOutput k x.stamp else s

/-- A delivered sample of channel ch reaches the pipes, the DDCs, the triggers and capture on one edge (R24).
DESIGN CHOICE (log entry 39). -/
def State.distribute (s : State) (ch : Fin 4) (x : OutSample) : State :=
  let s := (s.trgSample ch x).trgOvr ch x
  let s := (s.acqSample ch x).fftSample ch x
  let s : State := { s with fcv := { s.fcv with lastStamp := vset s.fcv.lastStamp ch (some x.stamp) } }
  (List.finRange 16).foldl (fun (s : State) (k : Fin 16) =>
    if s.ddcEn k && s.app (DDC_CFG.SRC_CH k) == ch.val then s.ddcSample k x else s) s

/-- The converters that feed channel ch (R124). -/
def State.convsOf (s : State) (ch : Nat) : List Nat := if s.app LNK_CTRL.MODE == 1 then [0, 1] else [s.convSel ch]

/-- The over-range flag and events of the converter c that carried a sample (R96). -/
def State.convOvr (s : State) (c : Nat) (ovr : Bool) : State :=
  if h : c < 4 then
    let s1 := if ovr then s.put (LNK_CONV_STAT.OVR c) 1 else s
    let s1 := if ovr && ! vget s.lnk.ovrPrev ⟨c, h⟩ then s1.bump (LNK_CONV_CNT.OVR_COUNT c) else s1
    { s1 with lnk := { s1.lnk with ovrPrev := vset s1.lnk.ovrPrev ⟨c, h⟩ ovr } }
  else s

/-- The stamp of a sample of channel ch whose character arrived at t: the I sample's, in IQ-pair mode (R79, R80).
DEDUCED (log entry 37). -/
def State.chanStamp (s : State) (ch : Nat) (t : Stamp) : Stamp := s.lessLatency ((s.convsOf ch).headD 0) t

/-- SAMPLE_DELIVER: FCV delivers the samples of one FCLK on channel ch; each operand names the instant its sample arrived
at the balls, by the marker model of R79 (R24, R79, R80, R127 to R134). DESIGN CHOICE (log entry 39).
DESIGN CHOICE (log entry 45). -/
def execSampleDeliver (ch : Fin 4) (samples : List Sample) (s : State) : Out :=
  .next (
    if s.alive && s.chanValid ch then
      let samples := samples.map (fun (x : Sample) => { x with stamp := s.chanStamp ch x.stamp })
      let out := samples.foldl (fun (a : List OutSample × State) x =>
        let (y, s) := a.2.fcvSample ch x
        (y :: a.1, (s.convsOf ch).foldl (fun s c => s.convOvr c x.ovr) s)) ([], s)
      (out.1.reverse.foldl (fun s y => s.distribute ch y) out.2).fcvDc ch samples
    else s)

/-! ### Commands of FCV and the DDCs -/

/-- FCV's registers: CLR zeroes a DC estimate at the write (R134). -/
def fcvRules : WriteRules :=
  { pre := fun _ _ _ _ => none
    act := fun _ a w s =>
      match (List.finRange 4).find? (fun (ch : Fin 4) => a == FCV_DCB.addr ch) with
      | some ch =>
        if w.toNat.testBit 3 then
          .ok ((({ s with fcv := { s.fcv with estI := vset s.fcv.estI ch 0, estQ := vset s.fcv.estQ ch 0 } } : State).put
            (FCV_DC_EST_I.EST ch) 0).put (FCV_DC_EST_Q.EST ch) 0)
        else .ok s
      | none => .ok s }

/-- The output samples of FADE_LEN (R162). -/
def fadeOutputs (code : Nat) : Nat := match code with | 0 => 0 | 1 => 16 | 2 => 64 | 3 => 256 | _ => 1024

/-- SWAP of DDC k at the write (R149, R150): at once, without fade, while its outputs carry valid = 0. -/
def State.ddcSwap (s : State) (k : Fin 16) : State :=
  if s.flag (DDC_STAT.VALID k) then
    let s : State := { s with ddc := { s.ddc with ch := vmod s.ddc.ch k (fun c =>
      { c with fadeLen := fadeOutputs (s.app (DDC_BANK.FADE_LEN k)), fadePos := 0 }) } }
    s.put (DDC_BANK.FADING k) 1
  else s.put (DDC_BANK.ACTIVE k) (1 - s.get (DDC_BANK.ACTIVE k))

/-- DDC_SYNC_CTRL at the write (R159, R160). -/
def State.ddcSyncWrite (s : State) (w : Word) : Except Err State :=
  let go := w.toNat.testBit 24
  let abort := w.toNat.testBit 25
  if go && abort then .error .conflict
  else if go then
    if s.app DDC_SYNC_CTRL.MASK == 0 then .error .conflict
    else
      let src := s.app DDC_SYNC_CTRL.SRC
      let t := s.appStamp DDC_SYNC_TIME.addr
      let s : State := { s with ddc := { s.ddc with syncMask := s.app DDC_SYNC_CTRL.MASK, syncSrc := src, syncTime := t } }
      let s := s.put DDC_SYNC_STAT.PENDING 1
      .ok (if src == 3 && t.toNat < s.now.toNat then s.put DDC_SYNC_STAT.LATE 1 else s)
  else if abort then
    if s.flag DDC_SYNC_STAT.PENDING then .ok (s.put DDC_SYNC_STAT.PENDING 0) else .error .sequence
  else .ok s

/-- The DDC registers' own rules. -/
def ddcRules : WriteRules :=
  { pre := fun s _ a w =>
      if a == DDC_SYNC_CTRL.addr && w.toNat.testBit 24 && s.flag DDC_SYNC_STAT.PENDING then some .busy
      else if (List.range 16).any (fun k => a == DDC_BANK.addr k && w.toNat.testBit 0 && s.flag (DDC_BANK.FADING k)) then some .busy
      else none
    act := fun _ a w s =>
      if a == DDC_SYNC_CTRL.addr then s.ddcSyncWrite w
      else match (List.finRange 16).find? (fun (k : Fin 16) => a == DDC_BANK.addr k || a == DDC_DCB.addr k) with
        | some k =>
          if a == DDC_BANK.addr k then .ok (if w.toNat.testBit 0 then s.ddcSwap k else s)
          else if w.toNat.testBit 3 then
            .ok ((({ s with ddc := { s.ddc with ch := vmod s.ddc.ch k (fun c => { c with estI := 0, estQ := 0 }) } } : State).put
              (DDC_DC_EST_I.EST k) 0).put (DDC_DC_EST_Q.EST k) 0)
          else .ok s
        | none => .ok s }

/-- DCB_CLR: a write of a DCB register with CLR: units 0 to 3 are the channels of FCV, 4 to 19 the DDCs (R134). -/
def execDcbClr (unit : Fin 20) (src : Source) (v : Word) (s : State) : Out :=
  .next (if unit.val < 4 then s.writeReg fcvRules src (FCV_DCB.addr unit) (v ||| 8)
         else s.writeReg ddcRules src (DDC_DCB.addr (unit - 4)) (v ||| 8))

/-- DDC_SWAP (R149, R150). -/
def execDdcSwap (d : Fin 16) (src : Source) (v : Word) (s : State) : Out :=
  .next (s.writeReg ddcRules src (DDC_BANK.addr d) (v ||| 1))

/-- FADE_END: output L - 1 of the fade (or output 0 with L = 0) has been delivered (R149). -/
def execFadeEnd (d : Fin 16) (s : State) : Out :=
  .next (
    let c := vget s.ddc.ch d
    if s.live dDDC && s.flag (DDC_BANK.FADING d) && max c.fadeLen 1 ≤ c.fadePos then s.put (DDC_BANK.FADING d) 0 else s)

/-- DDC_SYNC_GO (R159, R160). -/
def execDdcSyncGo (src : Source) (v : Word) (s : State) : Out :=
  .next (s.writeReg ddcRules src DDC_SYNC_CTRL.addr (v ||| BitVec.ofNat 32 (2 ^ 24)))

/-- DDC_SYNC_ABORT (R160). -/
def execDdcSyncAbort (src : Source) (v : Word) (s : State) : Out :=
  .next (s.writeReg ddcRules src DDC_SYNC_CTRL.addr (v ||| BitVec.ofNat 32 (2 ^ 25)))

/-- DDC_SYNC_RESET: the selected edge arrives at t0 (R159). With SRC 0x3 an edge before the armed time is not it. -/
def execDdcSyncReset (t0 : Stamp) (s : State) : Out :=
  .next (
    if s.live dDDC && s.ddc.syncSrc != 1 && (s.ddc.syncSrc != 3 || s.ddc.syncTime.toNat ≤ t0.toNat) then s.ddcSyncFire t0
    else s)

/-- DDC k reaches its release: its outputs become valid (R158). -/
def State.ddcReleaseOne (s : State) (t : Stamp) (k : Fin 16) : State :=
  let c := vget s.ddc.ch k
  let due := match c.release with
    | some r => decide (r.toNat ≤ t.toNat)
    | none => decide (settleCount (s.app (DDC_CFG.DEC k)) ≤ c.outs)
  if s.ddcEn k && s.flag (DDC_STAT.SETTLING k) && due then
    let s := (s.put (DDC_STAT.SETTLING k) 0).put (DDC_STAT.VALID k) 1
    (s.fftSourceStart (ddcSource k) t).acqSourceStart (ddcSource k) t
  else s

/-- DDC_RELEASE: the edge t is the release edge of the DDCs whose settling ends with it; the release of a synchronising
set sets DONE (R158, R159). -/
def execDdcRelease (t : Stamp) (s : State) : Out :=
  .next (
    if s.live dDDC then
      let s := (List.finRange 16).foldl (fun (s : State) (k : Fin 16) => s.ddcReleaseOne t k) s
      match s.ddc.syncSet with
      | some n =>
        if (List.finRange 16).any (fun (k : Fin 16) => s.flag (DDC_STAT.SETTLING k) && s.get (DDC_STAT.SET k) == n) then s
        else { s.put DDC_SYNC_STAT.DONE 1 with ddc := { s.ddc with syncSet := none } }
      | none => s
    else s)

/-! ### Apply (R120, R135, R137, R156, R159, R160) -/

/-- FCV takes an apply edge: a change of the map ends every channel it affects, with cause 0x12, and starts those it
enables on a valid converter (R137). -/
def State.fcvApply (s : State) (old : State) : State :=
  (List.finRange 4).foldl (fun (s : State) (ch : Fin 4) =>
    let same := s.chanEn ch == old.chanEn ch && s.convSel ch == old.convSel ch && s.app FCV_MAP.ALIGN == old.app FCV_MAP.ALIGN
    if same then s
    else
      let s := s.chanDown ch 0x12
      if s.chanEn ch && (s.convsOf ch).all (fun c => (s.get LNK_STAT.CONV_VALID).testBit c) && ! s.chanValid ch then s.chanUp ch s.now
      else s) s

/-- The applied settings of DDC k that reset it changed, or it was enabled (R156). -/
def State.ddcChanged (s : State) (old : State) (k : Fin 16) : Bool :=
  s.ddcEn k && (! old.appFlag (DDC_CFG.EN k)
    || [DDC_CFG.SRC_CH k, DDC_CFG.DEC k, DDC_FTW_LO.FTW_LO k, DDC_FTW_HI.FTW_HI k, DDC_FTW_HI.PHASE k].any (fun f => s.app f != old.app f))

/-- The DDCs take an apply edge; `selected` tells whether the update selects the DDC block's group. A pending
synchronising reset with SRC 0x1 takes place first, as a set of its own (R159, R160). -/
def State.ddcApply (s : State) (old : State) (selected : Bool) : State :=
  let s := (List.finRange 16).foldl (fun (s : State) (k : Fin 16) =>
    if old.appFlag (DDC_CFG.EN k) && ! s.ddcEn k then ((s.ddcInvalid k 0x20).fadeDrop k).put (DDC_STAT.SETTLING k) 0 else s) s
  let fires := selected && s.flag DDC_SYNC_STAT.PENDING && s.ddc.syncSrc == 1
  let inSync (k : Fin 16) : Bool := fires && s.ddc.syncMask.testBit k
  let ks := (List.finRange 16).filter (fun (k : Fin 16) => s.ddcChanged old k && ! inSync k)
  let s := if fires then s.ddcSyncFire s.now else s
  if ks.isEmpty then s else s.ddcResetSet ks s.now

end Sys2Proof.Machine
end

