-- ==== Sys2Proof/Machine/Records.lean ====
section
/-! DEFINITION. The configuration records of LOAD: where the section being run stands, when a record that waits ends, and
how a record fails (R547 to R549). -/

namespace Sys2Proof.Machine

/-- Byte o of the section being run. -/
def State.recByte (s : State) (r : RecordRun) (o : Nat) : Byte :=
  match r.flash with
  | some f => s.flashByte (f + o)
  | none => (s.upd.section_[o]?).getD 0

/-- n bytes of the section from o, little-endian. -/
def State.recLE (s : State) (r : RecordRun) (o n : Nat) : Nat := readLE (fun i => s.recByte r i) o n

/-- The head of a record (R547): type, payload length, ARG. -/
structure RecHead where
  type : Nat
  len : Nat
  arg : Nat

/-- The head of the record that stands next. -/
def State.recHead (s : State) (r : RecordRun) : RecHead :=
  ⟨(s.recByte r r.ofs).toNat, s.recLE r (r.ofs + 2) 2, s.recLE r (r.ofs + 4) 4⟩

/-- Where the record after this one begins: payloads are padded to a multiple of 4 bytes. -/
def RecHead.next (h : RecHead) (ofs : Nat) : Nat := ofs + 8 + (h.len + 3) / 4 * 4

/-- The record types that are not reserved (R548). -/
def recTypes : List Nat := [0x01, 0x02, 0x03, 0x04, 0x05, 0x06, 0x07, 0x0F]

/-- The record at the present offset fails with a code: LOAD ends there (R549), and the host may send a configuration
(R550). DEDUCED (log entry 14). -/
def State.loadFail (s : State) (code : Nat) : State :=
  let ofs := match s.boot.run with | some r => r.ofs | none => 0
  let s := (s.put SYS_STATE.LAST_ERR code).put UPD_LOAD_ERR.OFS ofs
  { s with boot := { s.boot with run := none, hostCfg := true } }

/-- The run arrives at offset ofs: past the section's end it fails with ERR_CHECK, at a reserved type with ERR_RESERVED
(R548, R549). DEDUCED (log entry 14). -/
def State.recArrive (s : State) (r : RecordRun) (ofs : Nat) : State :=
  let r : RecordRun := { r with ofs := ofs, waiting := false }
  let s : State := { s with boot := { s.boot with run := some r } }
  if r.len < ofs + 8 then s.loadFail Err.check.code
  else
    let h := s.recHead r
    if ! recTypes.contains h.type then s.loadFail Err.reserved.code
    else if r.len < h.next ofs then s.loadFail Err.check.code
    else s

/-- The present record has ended well. -/
def State.recDone (s : State) : State :=
  match s.boot.run with
  | some r => s.recArrive r ((s.recHead r).next r.ofs)
  | none => s

/-- The present record waits. -/
def State.recWait (s : State) : State :=
  match s.boot.run with
  | some r => { s with boot := { s.boot with run := some { r with waiting := true } } }
  | none => s

/-- A WAIT condition code is defined (R548). -/
def waitCode (c : Nat) : Bool :=
  decide (c ≤ 9) || c == 0x10 || (decide (0x11 ≤ c) && decide (c ≤ 0x14)) || (decide (0x20 ≤ c) && decide (c ≤ 0x23)) || c == 0x30

/-- A WAIT condition holds (R548): a PLL locked, GDDR6 READY, a converter valid, a drive READY, the Constellation locked.
A wait for time alone ends with its timeout. -/
def State.waitHolds (s : State) (c : Nat) : Bool :=
  if c = 0 then false
  else if c ≤ 9 then s.flag (CLK_PLL_STAT.LOCKED (c - 1))
  else if c = 0x10 then s.get MEM_STAT.STATE == 2
  else if 0x11 ≤ c ∧ c ≤ 0x14 then (s.get LNK_STAT.CONV_VALID).testBit (c - 0x11)
  else if 0x20 ≤ c ∧ c ≤ 0x23 then s.get (SPT_DRV_STAT.STATE (c - 0x20)) == 3
  else if c = 0x30 then s.flag CST_STAT.LOCKED
  else false

/-- A record that waits ends once what it waits for has come: the domains of a POWER record are on, a WAIT condition
holds, an APPLY has its verdict; a refused APPLY fails LOAD (R548, R549). -/
def State.recSettle (s : State) : State :=
  match s.boot.run with
  | none => s
  | some r =>
    if ! r.waiting || s.dev != load then s
    else
      let h := s.recHead r
      match h.type with
      | 4 => if (List.range 24).all (fun d => ! h.arg.testBit d || s.dom d == 2) then s.recDone else s
      | 5 => if s.waitHolds h.arg then s.recDone else s
      | 6 =>
        if s.flag SYS_UPDATE_STAT.DONE then
          if s.get SYS_UPDATE_STAT.CODE = 0 then s.recDone else s.loadFail (s.get SYS_UPDATE_STAT.CODE)
        else s
      | _ => s

end Sys2Proof.Machine
end

