-- ==== Sys2Proof/Machine/Lanes.lean ====
section
/-! DEFINITION. Sample lanes and the ESL link: bring-up, loss and resumption, figure of merit, adaptation, idle. -/

namespace Sys2Proof.Machine

/-- Lane states of R101. -/
abbrev lnOFF : Nat := 0
abbrev lnCDR : Nat := 1
abbrev lnCGS : Nat := 2
abbrev lnWAIT : Nat := 3
abbrev lnALIGNED : Nat := 4
abbrev lnDATA : Nat := 5
abbrev lnIDLE : Nat := 6

/-- The state of lane n. -/
def State.lane (s : State) (n : Nat) : Nat := s.get (LNK_LANE_STAT.STATE n)

/-- The lane's domain, LANE_A to LANE_D. -/
def laneDomain (n : Nat) : Nat := dLANE_A + n / 8

/-- Lane n is enabled by the applied set-up and its domain works. -/
def State.laneEn (s : State) (n : Nat) : Bool := s.appFlag (LNK_LANE_CTRL.EN n) && s.domOn (laneDomain n)

/-- The physical lanes of converter c in the input mode (R98). -/
def modeLanes (mode c : Nat) : List Nat :=
  match mode with
  | 0 => if c = 0 then List.range 32 else []
  | 3 => (List.range 8).map (8 * c + ·)
  | _ => if c < 2 then (List.range 16).map (16 * c + ·) else []

/-- The converter whose range holds lane n (R98). -/
def modeConv (mode n : Nat) : Nat := match mode with | 0 => 0 | 3 => n / 8 | _ => n / 16

/-- The converter of lane n in the applied mode. -/
def State.convOf (s : State) (n : Nat) : Nat := modeConv (s.app LNK_CTRL.MODE) n

/-- The enabled lanes of converter c, ascending. -/
def State.convLanes (s : State) (c : Nat) : List Nat := (modeLanes (s.app LNK_CTRL.MODE) c).filter s.laneEn

/-- The converter's lowest-numbered enabled lane (R100). -/
def State.lowLane (s : State) (c : Nat) : Nat := (s.convLanes c).headD 0

/-- Converter c is valid. -/
def State.convValid (s : State) (c : Nat) : Bool := (s.get LNK_STAT.CONV_VALID).testBit c

/-- The location of a lane (R111). -/
def laneLoc (n : Nat) : Nat := tileLoc (n / 8) 0 (n % 8)

/-- A stamp difference in characters. -/
def State.chars (s : State) (d : Nat) : Nat := d * lineRate (s.app LNK_CTRL.RATE) / (10 * 2 ^ 40)

/-- SL_SYNCNc driven. -/
def State.setSyncn (s : State) (c : Nat) (b : Bool) : State :=
  { s with pins := { s.pins with syncn := BitVec.ofNat 4 (setBit s.pins.syncn.toNat c b) } }

/-- SYNC~ start: SL_SYNCNc goes low while a lane is in CDR or CGS (R102); blind start holds it high (R103). -/
def State.syncnLow (s : State) (c : Nat) : State := if s.app LNK_CTRL.START == 0 then s.setSyncn c false else s

/-- A lane enters a state; leaving ALIGNED and DATA forgets its markers. -/
def State.setLane (s : State) (n : Nat) (st : Nat) : State :=
  let s := s.put (LNK_LANE_STAT.STATE n) st
  if h : n < 32 then
    if st == lnALIGNED || st == lnDATA then s
    else { s with lnk := { s.lnk with marks := vset s.lnk.marks ⟨n, h⟩ 0, firstMark := vset s.lnk.firstMark ⟨n, h⟩ none,
                                      wrongOfs := vset s.lnk.wrongOfs ⟨n, h⟩ none, fomLow := vset s.lnk.fomLow ⟨n, h⟩ false } }
  else s

/-- The CTLE code a lane uses on entering CDR or CGS in hold mode, with all taps zero (R109, R110). -/
def State.holdEq (s : State) (n : Nat) : State :=
  if s.app LNK_ADAPT.MODE == 0 then
    (s.put (LNK_LANE_STAT.CTLE_NOW n) (s.app (LNK_LANE_CTRL.CTLE n))).setWord (LNK_LANE_DFE.addr n) 0
  else s

/-- A lane (re)enters the bring-up at st (CDR or CGS). -/
def State.laneBack (s : State) (st : Nat) (n : Nat) : State := (s.setLane n st).holdEq n

/-- The loss causes charged to single lanes (R122). -/
def laneCause (cause : Nat) : Bool := [2, 3, 4, 5, 8, 9].contains cause

/-- Where the lanes of a lost converter go (R101): CDR for the causes CDR and LPLL out of DATA, IDLE for an announced
idle, CGS otherwise. -/
def lossState (cause from_ : Nat) : Nat :=
  if cause == 1 then lnIDLE
  else if (cause == 5 || cause == 6) && from_ == lnDATA then lnCDR
  else lnCGS

/-- The causes detected on converter c in one FCLK cycle, those that wait for this one among them: the recorded cause is
the lowest code, and the lanes are those on which it was detected (R119). DESIGN CHOICE (log entry 33). -/
def State.cycleCause (s : State) (c cause : Nat) (lanes : List Nat) : Nat × List Nat :=
  let held := s.lnk.cycleLosses.filter (fun x => s.convOf x.1 == c)
  let low := held.foldl (fun (m : Nat) x => min m x.2) cause
  let here := (held.filter (fun x => x.2 == low)).map Prod.fst
  (low, (List.range 32).filter (fun n => here.contains n || (low == cause && lanes.contains n)))

/-- The loss of converter c with a cause, detected on `lanes` (R117 to R122): its lanes leave ALIGNED and DATA, the loss
is counted, charged and recorded, SL_SYNCNc falls in SYNC~ start, and its channel ends. DEDUCED (log entry 31). -/
def State.convLoss (s : State) (c cause : Nat) (lanes : List Nat) : State :=
  let (cause, lanes) := s.cycleCause c cause lanes
  let s : State := { s with lnk := { s.lnk with cycleLosses := s.lnk.cycleLosses.filter (fun x => s.convOf x.1 != c) } }
  let all := s.convLanes c
  let lost := all.filter (fun n => s.lane n == lnALIGNED || s.lane n == lnDATA)
  if h : c < 4 then
    if lost.isEmpty then s
    else
      let was := s.convValid c
      let s := lost.foldl (fun s n => s.laneBack (lossState cause (s.lane n)) n) s
      let s := (s.put (LNK_CONV_STAT.LOST c) 1).put (LNK_CONV_STAT.CAUSE c) cause
      let s := s.put (LNK_CONV_STAT.STATE c) (if cause == 1 then 3 else 0)
      let s := s.bump (LNK_CONV_CNT.LOSS_COUNT c)
      let s := s.put LNK_STAT.CONV_VALID (setBit (s.get LNK_STAT.CONV_VALID) c false)
      let s := (if laneCause cause then lanes else all).foldl (fun s n => s.bump (LNK_LANE_STAT.LOSS_COUNT n)) s
      let s := s.fltInfo 0x08 cause 0x04 (laneLoc (if laneCause cause then lanes.headD 0 else all.headD 0)) c
      let s : State := { s with lnk := { s.lnk with stored := vset s.lnk.stored ⟨c, h⟩ (cause == 1), lmfcRealign := true } }
      let s := if cause == 1 then s else s.syncnLow c
      if was then s.convDown c cause else s
  else s

/-- A loss met in WAIT_MARK sends the lane to CGS, which pulls SL_SYNCNc low in SYNC~ start; nothing is counted, since
R116 loses lanes in ALIGNED and DATA only (R101, R102). DEDUCED (log entry 32). -/
def State.waitLoss (s : State) (n : Nat) : State :=
  if s.live (laneDomain n) && s.laneEn n && s.lane n == lnWAIT then (s.laneBack lnCGS n).syncnLow (s.convOf n) else s

/-- The loss of a lane with a lane cause, when the lane is in ALIGNED or DATA (R116). With `more`, another loss of the
same converter is detected in the same FCLK cycle and follows: this one waits for it (R119).
DESIGN CHOICE (log entry 33). -/
def State.laneLoss (s : State) (n cause : Nat) (more : Bool) : State :=
  if s.live (laneDomain n) && s.laneEn n && (s.lane n == lnALIGNED || s.lane n == lnDATA) then
    if more then { s with lnk := { s.lnk with cycleLosses := s.lnk.cycleLosses ++ [(n, cause)] } }
    else s.convLoss (s.convOf n) cause [n]
  else s.waitLoss n

/-- SKEW of every lane of converter c that has met its first marker (R104). -/
def State.updateSkew (s : State) (c : Nat) : State :=
  let ls := s.convLanes c
  let first (n : Nat) : Option Nat := if h : n < 32 then (vget s.lnk.firstMark ⟨n, h⟩).map (·.toNat) else none
  match (ls.filterMap first).min? with
  | none => s
  | some m => ls.foldl (fun s n => match first n with
      | some t => s.put (LNK_LANE_STAT.SKEW n) (min (s.chars (t - m)) 63)
      | none => s) s

/-- The measured rate error in ppb over the last 1,024 marker intervals (R79, R82); none before they have passed.
DEDUCED (log entry 36). -/
def rateErr (rate : Nat) (m : MarkerSt) : Option Int :=
  if m.intervals.length < 1024 then none
  else
    let dur := m.intervals.foldl (fun a x => a + x.1) 0
    let n := m.intervals.foldl (fun a x => a + x.2) 0
    if n = 0 then none
    else some (((dur * rate : Nat) : Int) * 1000000000 / ((n * 2 ^ 40 : Nat) : Int) - 1000000000)

/-- A marker on the lowest lane of a valid converter advances its sample-time model (R79, R82). DEDUCED (log entry 36). -/
def State.markModel (s : State) (c : Fin 4) (t : Stamp) (samples : Nat) : State :=
  let m := vget s.alm.marker c
  let m' : MarkerSt := match m.last with
    | none => { m with last := some t }
    | some l => { last := some t, intervals := ((t - l).toNat, samples) :: m.intervals.take 1023 }
  let s : State := { s with alm := { s.alm with marker := vset s.alm.marker c m' } }
  match rateErr s.convRate m' with
  | none => s
  | some e =>
    let before := toSigned 32 (s.get (ALM_RATE_ERR.PPB c))
    let s := s.put (ALM_RATE_ERR.PPB c) (satSigned 32 e)
    if e.natAbs > 100000 && before.natAbs ≤ 100000 then s.fltInfo 0x06 c 0x03 almLocation (satSigned 32 e) else s

/-- LANE_MARKER: a K28.3 arrives on lane n, `offset` characters from where a multiframe ends, `samples` of the converter
after the marker before (R79, R101, R105, R116). DEDUCED (log entry 31). -/
def execLaneMarker (n : Fin 32) (t : Stamp) (offset samples : Nat) (more : Bool) (s : State) : Out :=
  .next (
    if ! (s.live (laneDomain n) && s.laneEn n) then s
    else
      let c := s.convOf n
      let st := s.lane n
      if st == lnWAIT then
        let s := s.put (LNK_LANE_STAT.STATE n) lnALIGNED
        let s : State := { s with lnk := { s.lnk with marks := vset s.lnk.marks n 1, firstMark := vset s.lnk.firstMark n (some t) } }
        (s.updateSkew c).put (LNK_CONV_STAT.STATE c) 1
      else if st == lnALIGNED then
        if offset = 0 then { s with lnk := { s.lnk with marks := vmod s.lnk.marks n (fun k => min (k + 1) 4) } }
        else (s.bump (LNK_LANE_ERR1.MARK n)).laneLoss n 4 more
      else if st == lnDATA then
        if offset = 0 then
          let s : State := { s with lnk := { s.lnk with wrongOfs := vset s.lnk.wrongOfs n none } }
          if h : c < 4 then if s.lowLane c == n.val then s.markModel ⟨c, h⟩ t samples else s else s
        else
          let s1 := s.bump (LNK_LANE_ERR1.MARK n)
          if vget s.lnk.wrongOfs n == some offset then s1.laneLoss n 4 more
          else { s1 with lnk := { s1.lnk with wrongOfs := vset s1.lnk.wrongOfs n (some offset) } }
      else s)

/-- CDR_DONE: lane n has locked its clock and adapted, to the CTLE code and taps it found; in hold mode it uses
LNK_LANE_CTRL.CTLE with zero taps (R101, R109). DESIGN CHOICE (log entry 35). -/
def execCdrDone (n : Fin 32) (ctle : BitVec 4) (taps : BitVec 30) (s : State) : Out :=
  .next (
    if s.live (laneDomain n) && s.laneEn n && s.lane n == lnCDR then
      let s := s.setLane n lnCGS
      if s.app LNK_ADAPT.MODE == 0 then s.holdEq n
      else (s.put (LNK_LANE_STAT.CTLE_NOW n) ctle.toNat).setWord (LNK_LANE_DFE.addr n) (taps.setWidth 32)
    else s)

/-- CODE_GROUP_SYNC: four K28.5 at one boundary (R101). -/
def execCodeGroupSync (n : Fin 32) (s : State) : Out :=
  .next (if s.live (laneDomain n) && s.laneEn n && s.lane n == lnCGS then s.setLane n lnWAIT else s)

/-- SL_SYNCN_RISE: every lane of converter c waits for its marker; in subclass 1 the LMFC must be locked (R102). -/
def execSlSyncnRise (c : Fin 4) (s : State) : Out :=
  .next (
    if s.alive && s.app LNK_CTRL.START == 0 && ! (s.convLanes c).isEmpty && (s.convLanes c).all (fun n => s.lane n == lnWAIT)
      && (s.app LNK_CTRL.SUBCLASS != 1 || s.flag LNK_STAT.LMFC_LOCK) then s.setSyncn c true
    else s)

/-- The lanes of converter c deliver: the stream is valid, its sample-time model restarts, its channel starts (R81,
R105). -/
def State.convStart (s : State) (c : Fin 4) (first : Stamp) : State :=
  let s := (s.convLanes c).foldl (fun s n => s.put (LNK_LANE_STAT.STATE n) lnDATA) s
  let s := s.put (LNK_CONV_STAT.STATE c) 2
  let s := s.put LNK_STAT.CONV_VALID (setBit (s.get LNK_STAT.CONV_VALID) c true)
  let s : State := { s with
    lnk := { s.lnk with stored := vset s.lnk.stored c false, ovrPrev := vset s.lnk.ovrPrev c false }
    alm := { s.alm with marker := vset s.alm.marker c { last := none, intervals := [] } } }
  s.convUp c (s.lessLatency c first)

/-- CONVERTER_VALID: the fourth marker has arrived on every lane of converter c (R105). -/
def execConverterValid (c : Fin 4) (first : Stamp) (s : State) : Out :=
  .next (
    let ls := s.convLanes c
    if s.alive && ! ls.isEmpty && ! s.convValid c
      && ls.all (fun n => s.lane n == lnALIGNED && (if h : n < 32 then vget s.lnk.marks ⟨n, h⟩ == 4 else false))
      && (s.app LNK_CTRL.SUBCLASS != 1 || s.flag LNK_STAT.LMFC_LOCK) then (s.convStart c first).recSettle
    else s)

/-- The lanes on which a received lane identifier differs from LOGICAL (R97). -/
def State.lidWrong (s : State) (c : Nat) (cfg : Ilas) : List Nat :=
  (s.convLanes c).filter (fun n => if h : n < 32 then vget cfg.lid ⟨n, h⟩ != s.app (LNK_LANE_CTRL.LOGICAL n) else false)

/-- The link configuration agrees with the engine's settings, lane identifiers apart (R97). -/
def State.ilasAgrees (s : State) (g : Ilas) : Bool :=
  let l := s.app LNK_FRAME.L
  let f := s.app LNK_FRAME.F
  g.l == l && g.f == f && g.k == s.app LNK_FRAME.K && g.n == s.app LNK_FRAME.NM1 + 1 && g.np == 16
    && g.cs == s.app LNK_FRAME.CS && g.m == 1 && g.s == l * f / 2 && g.hd == (f == 1) && g.scr == s.appFlag LNK_CTRL.SCR
    && g.subclass == s.app LNK_CTRL.SUBCLASS

/-- ILAS_RECEIVE: the second ILAS multiframe of converter c (R97): a mismatch sets ILAS_MISMATCH and ends the bring-up
with cause ILAS. -/
def execIlasReceive (c : Fin 4) (cfg : Ilas) (s : State) : Out :=
  .next (
    let ls := s.convLanes c
    if s.alive && s.app LNK_CTRL.PROTO == 1 && ! ls.isEmpty && ls.all (fun n => s.lane n == lnALIGNED) then
      let bad := s.lidWrong c cfg
      if s.ilasAgrees cfg && bad.isEmpty then s
      else (s.put (LNK_CONV_STAT.ILAS_MISMATCH c) 1).convLoss c 9 (if bad.isEmpty then ls else bad)
    else s)

/-- DESKEW_FAIL: a lane's first marker is more than 64 characters late; every lane returns to CGS (R104). -/
def execDeskewFail (c : Fin 4) (s : State) : Out :=
  .next (
    let ls := s.convLanes c
    if s.alive && ls.any (fun n => s.lane n == lnALIGNED) && ls.any (fun n => s.lane n != lnALIGNED) then
      let s := (s.put (LNK_CONV_STAT.DESKEW_FAIL c) 1).convLoss c 7 []
      (ls.filter (fun n => s.lane n == lnWAIT)).foldl (fun s n => s.laneBack lnCGS n) s
    else s)

/-- FOM_MEASURE: a measurement of lane n saw H phase and V threshold steps without error (R108, R111).
DESIGN CHOICE (log entry 35). -/
def execFomMeasure (n : Fin 32) (h v : BitVec 8) (s : State) : Out :=
  .next (
    let st := s.lane n
    let idleExit := if hc : s.convOf n < 4 then vget s.lnk.stored ⟨s.convOf n, hc⟩ && (st == lnCGS || st == lnWAIT) else false
    if s.live (laneDomain n) && s.laneEn n && (st == lnCDR || st == lnALIGNED || st == lnDATA || idleExit) then
      let fom := min 255 (h.toNat * v.toNat / 16)
      let s := s.put (LNK_LANE_STAT.FOM n) fom
      if st == lnDATA then
        let low := decide (fom < s.app LNK_ADAPT.FOM_MIN)
        let s1 := if low && vget s.lnk.fomLow n then s.fltInfo 0x09 n 0x04 (laneLoc n) fom else s
        { s1 with lnk := { s1.lnk with fomLow := vset s1.lnk.fomLow n low } }
      else s
    else s)

/-- One DFE tap moved by at most one LSB, within its 6 signed bits (R110). -/
def moveTap (w : Word) (k : Nat) (d : Int) : Word :=
  insBits w (6 * k) 6 (satSigned 6 (toSigned 6 (bitsOf w (6 * k) 6) + clampInt (-1) 1 d))

/-- DFE_ADAPT: one interval of sign-sign LMS in DATA, with MODE continuous (R110). DESIGN CHOICE (log entry 35). -/
def execDfeAdapt (n : Fin 32) (moves : Vector Int 5) (s : State) : Out :=
  .next (
    if s.live (laneDomain n) && s.laneEn n && s.lane n == lnDATA && s.app LNK_ADAPT.MODE == 2 then
      s.setWord (LNK_LANE_DFE.addr n)
        ((List.finRange 5).foldl (fun (w : Word) (k : Fin 5) => moveTap w k (vget moves k)) (s.word (LNK_LANE_DFE.addr n)))
    else s)

/-- IDLE_ANNOUNCE: the lanes in `lanes` show the idle announcement of converter c in one multiframe. On every enabled lane
of it the converter idles; reaching only some of them, or in JESD204B mode, which has no idle, it is a loss with cause
SQUELCH on the lanes that stop (R112, R115). DEDUCED (log entry 34). -/
def execIdleAnnounce (c : Fin 4) (lanes : BitVec 32) (s : State) : Out :=
  .next (
    let stop := (s.convLanes c).filter (fun n => lanes.toNat.testBit n)
    if s.alive && s.convValid c && ! stop.isEmpty then
      if stop == s.convLanes c && s.app LNK_CTRL.PROTO == 0 then s.convLoss c 1 [] else s.convLoss c 2 stop
    else s)

/-- IDLE_EXIT: the exit burst of converter c ends. Lanes in `missed` had not reached WAIT_MARK: they run full adaptation,
LOST is set and the burst is missed (R114); with none missed the converter is valid again (R113). -/
def execIdleExit (c : Fin 4) (first : Stamp) (missed : BitVec 32) (s : State) : Out :=
  .next (
    let ls := s.convLanes c
    if s.alive && vget s.lnk.stored c && ! ls.isEmpty && ls.all (fun n => s.lane n == lnIDLE) then
      let bad := ls.filter (fun n => missed.toNat.testBit n)
      if bad.isEmpty then s.convStart c first
      else
        let s := ls.foldl (fun s n => s.laneBack (if bad.contains n then lnCDR else lnCGS) n) s
        let s := (s.put (LNK_CONV_STAT.LOST c) 1).put (LNK_CONV_STAT.STATE c) 0
        ({ s with lnk := { s.lnk with stored := vset s.lnk.stored c false } } : State).syncnLow c
    else s)

/-- LANE_SQUELCH (R116). -/
def execLaneSquelch (n : Fin 32) (more : Bool) (s : State) : Out := .next (s.laneLoss n 2 more)

/-- LANE_CODE_ERRORS: four errors within 16 characters, `disp` of them disparity errors; `unexp` unexpected control
characters stand among the characters (R91, R116, R122). -/
def execLaneCodeErrors (n : Fin 32) (disp : Fin 5) (unexp : Fin 17) (more : Bool) (s : State) : Out :=
  .next (
    if s.live (laneDomain n) && s.laneEn n && (s.lane n == lnALIGNED || s.lane n == lnDATA) then
      let s := (s.bumpBy (LNK_LANE_ERR0.DISP n) disp).bumpBy (LNK_LANE_ERR0.CODE n) (4 - disp)
      (s.bumpBy (LNK_LANE_ERR1.UNEXP_K n) unexp).laneLoss n 3 more
    else s.waitLoss n)

/-- LANE_MARKER_ERROR: a second /A/ at the same wrong offset (R116, R122). -/
def execLaneMarkerError (n : Fin 32) (more : Bool) (s : State) : Out :=
  .next (
    if s.live (laneDomain n) && s.laneEn n && s.lane n == lnDATA && (vget s.lnk.wrongOfs n).isSome then
      (s.bump (LNK_LANE_ERR1.MARK n)).laneLoss n 4 more
    else s)

/-- CDR_LOSS (R116). -/
def execCdrLoss (n : Fin 32) (more : Bool) (s : State) : Out := .next (s.laneLoss n 5 more)

/-- DESKEW_OVERRUN (R90, R116). -/
def execDeskewOverrun (n : Fin 32) (more : Bool) (s : State) : Out := .next (s.laneLoss n 8 more)

/-- The LNK registers' own rules: RESTART acts at the write, on valid converters only (R121). -/
def lnkRules : WriteRules :=
  { pre := fun _ _ _ _ => none
    act := fun _ a w s =>
      if a == LNK_CTRL.addr then
        .ok ((bitsIn 4 (bitsOf w 20 4)).foldl (fun s c => if s.convValid c then s.convLoss c 0xB [] else s) s)
      else .ok s }

/-- LNK_RESTART: a write of LNK_CTRL with the converters of RESTART in the word (R121). -/
def execLnkRestart (src : Source) (v : Word) (s : State) : Out := .next (s.writeReg lnkRules src LNK_CTRL.addr v)

/-- A SYSREF edge reaches the lanes (R61, R106). -/
def State.sysref (s : State) (onPhase : Bool) : State :=
  if [0, 1, 2, 3].all (fun g => ! s.domOn (dLANE_A + g)) then s
  else
    let s := s.put LNK_STAT.SYSREF_SEEN 1
    if s.app LNK_CTRL.SUBCLASS != 1 then s
    else
      let anyValid := s.get LNK_STAT.CONV_VALID != 0
      let s := if s.appFlag LNK_CTRL.SYSREF_CONT && s.flag LNK_STAT.LMFC_LOCK && ! onPhase then s.put LNK_STAT.SYSREF_PHASE_ERR 1 else s
      if s.lnk.lmfcRealign && ! anyValid then
        { s.put LNK_STAT.LMFC_LOCK 1 with lnk := { s.lnk with lmfcRealign := false } }
      else s

/-- LPLL g loses lock: the converters with lanes in group g lose alignment with cause LPLL (R56, R116). -/
def State.lpllLost (s : State) (g : Nat) : State :=
  [0, 1, 2, 3].foldl (fun s c =>
    if (s.convLanes c).any (fun n => n / 8 == g) then
      ((s.convLanes c).filter (fun n => n / 8 == g)).foldl (fun (s : State) n => s.waitLoss n) (s.convLoss c 6 [])
    else s) s

/-! ### Apply (R101, R120) -/

/-- The fields of LNK_CTRL and LNK_FRAME whose change restarts the converters (R120). -/
def lnkRestartFields : List Fld :=
  [LNK_CTRL.MODE, LNK_CTRL.RATE, LNK_CTRL.PROTO, LNK_CTRL.SUBCLASS, LNK_CTRL.START, LNK_CTRL.SCR, LNK_CTRL.SYSREF_CONT, LNK_FRAME.L,
   LNK_FRAME.F, LNK_FRAME.K, LNK_FRAME.CS, LNK_FRAME.NM1, LNK_FRAME.RBD]

/-- The lanes whose EN, LOGICAL or POL a set-up changes. -/
def State.lanesChanged (s : State) (new : View') : List Nat :=
  (List.range 32).filter (fun n =>
    (s.app (LNK_LANE_CTRL.EN n) == 1 || new (LNK_LANE_CTRL.EN n) == 1)
      && [LNK_LANE_CTRL.EN n, LNK_LANE_CTRL.LOGICAL n, LNK_LANE_CTRL.POL n].any (fun f => s.app f != new f))

/-- The converters that a set-up restarts (R120). -/
def State.convsRestarted (s : State) (new : View') : List Nat :=
  if lnkRestartFields.any (fun f => s.app f != new f) then [0, 1, 2, 3]
  else ((s.lanesChanged new).map (modeConv (s.app LNK_CTRL.MODE))).eraseDups

/-- Before LNK takes an apply edge: the converters it restarts are lost with cause UPDATE (R120). -/
def State.lnkBefore (s : State) (new : View') : State :=
  (s.convsRestarted new).foldl (fun s c => s.convLoss c 0xA []) s

/-- Every lane follows its enable: one newly enabled enters CDR, one no longer enabled is OFF (R101). -/
def State.lanesFollow (s : State) : State :=
  (List.range 32).foldl (fun s n =>
    if s.laneEn n then if s.lane n == lnOFF then s.laneBack lnCDR n else s
    else if s.lane n != lnOFF then s.setLane n lnOFF else s) s

/-- SL_SYNCN of a converter with lanes that are not yet in WAIT_MARK: low in SYNC~ start, high in blind start (R102,
R103). -/
def State.syncnFollow (s : State) (c : Nat) : State :=
  if s.app LNK_CTRL.START == 1 then s.setSyncn c true
  else if (s.convLanes c).any (fun n => s.lane n == lnCDR || s.lane n == lnCGS) then s.setSyncn c false else s

/-- After LNK has taken an apply edge; `cs` are the converters restarted. -/
def State.lnkAfter (s : State) (cs : List Nat) : State :=
  let s := (List.range 32).foldl (fun s n =>
    if cs.contains (s.convOf n) && s.laneEn n && [lnWAIT, lnALIGNED, lnDATA, lnIDLE].contains (s.lane n) then s.laneBack lnCGS n else s) s
  let s := s.lanesFollow
  let s : State := if cs.isEmpty then s else { s with lnk := { s.lnk with lmfcRealign := true } }
  -- an update that restarts a channel's converters clears its blocker (R135)
  let s := (List.finRange 4).foldl (fun (s : State) (ch : Fin 4) =>
    if (s.convsOf ch).any cs.contains then
      ((({ s with fcv := { s.fcv with estI := vset s.fcv.estI ch 0, estQ := vset s.fcv.estQ ch 0 } } : State).put
        (FCV_DC_EST_I.EST ch) 0).put (FCV_DC_EST_Q.EST ch) 0)
    else s) s
  [0, 1, 2, 3].foldl (fun s c => s.syncnFollow c) s

end Sys2Proof.Machine
end

