-- ==== Sys2Proof/Machine/Almanac.lean ====
section
/-! DEFINITION. The Almanac: the word and its discipline, PPS, steps, holdover; the TDC and its inputs; SYNC_IN. -/

namespace Sys2Proof.Machine

/-! ### The word and its discipline (R65, R69 to R74) -/

/-- The nominal increment of a TCLK edge in units of 2^-64 s: 2^64 / 320,000,000 rounded down (R65, log entry).
DEDUCED (log entry 27). -/
abbrev almIncrement : Int := 57646075230

/-- The correction limit of +-200 ppm in the same units (R70). -/
abbrev corrLimit : Int := 11529215

/-- SLEW_MAX in the same units per TCLK edge. -/
def State.slewMax (s : State) : Int :=
  match s.app ALM_CTRL.SLEW_MAX with | 0 => 57646 | 1 => 576460 | _ => 5764607

/-- The applied discipline source. -/
def State.almSrc (s : State) : Nat := s.app ALM_CTRL.SRC

/-- REF_IN disciplines the Almanac: selected, present and in range (R70). -/
def State.refGood (s : State) : Bool :=
  (s.almSrc == 1 || s.almSrc == 2) && s.flag ALM_STAT.REF_PRESENT && ! s.flag ALM_STAT.REF_OFF_RANGE

/-- TQ follows the source (R66, R72, R74). -/
def State.almTq (s : State) : State :=
  let q := match s.almSrc with
    | 0 => 0
    | 1 => if s.refGood && ! s.alm.holdover then 1 else 3
    | 2 =>
      if s.refGood && ! s.alm.holdover then
        if s.flag ALM_STAT.PPS_PRESENT && s.alm.ppsSinceRef && ! s.alm.ppsMismatch then 2 else 1
      else 3
    | _ => if s.alm.holdover then 3 else s.alm.rootTq
  s.put ALM_STAT.TQ q

/-- One TCLK edge: the disciplined increment, and the slew that removes a PPS error (R65, R73).
DESIGN CHOICE (log entry 1). -/
def State.almTick (s : State) : State :=
  let slew := clampInt (-s.slewMax) s.slewMax s.alm.slewLeft
  let d := almIncrement + s.alm.corr + slew
  ({ s with alm := { s.alm with word := s.alm.word + BitVec.ofInt 104 d, slewLeft := s.alm.slewLeft - slew } } : State).almTq

/-- The mean of the corrections of the last 100 ms. -/
def meanCorr (l : List Int) (dflt : Int) : Int := if l.isEmpty then dflt else l.sum / (l.length : Nat)

/-- Holdover begins: the correction freezes at its average over the last 100 ms (R71). -/
def State.enterHoldover (s : State) : State :=
  let s : State := { s with alm := { s.alm with holdover := true, returning := false, corr := meanCorr s.alm.corrHist s.alm.corr, slewLeft := 0 } }
  s.almTq

/-- The correction follows a measured one; after holdover at no more than SLEW_MAX (R70, R72). DEDUCED (log entry 28). -/
def State.track (s : State) (corr : Int) : State :=
  let step := corr - s.alm.corr
  let move := if s.alm.returning then clampInt (-s.slewMax) s.slewMax step else step
  { s with alm := { s.alm with
      corr := s.alm.corr + move, returning := s.alm.returning && move != step, corrHist := (corr :: s.alm.corrHist).take 100000 } }

/-- REF_WINDOW: a 1 us window counted `count` edges; `corr` is the correction that REF_IN asks for, in 2^-64 s per TCLK
edge (R69 to R71). -/
def execRefWindow (count : Nat) (corr : Int) (s : State) : Out :=
  .next (
    if ! s.alive then s
    else
      let nom := if s.app ALM_CTRL.REF_FREQ == 1 then 100 else 10
      let ok := decide (nom * 9 ≤ count * 10) && decide (count * 10 ≤ nom * 11)
      let g := if ok then min (s.alm.refGood + 1) 3 else 0
      let b := if ok then 0 else min (s.alm.refBad + 1) 3
      let was := s.refGood && ! s.alm.holdover
      let s : State := { s with alm := { s.alm with refGood := g, refBad := b } }
      let s := if g = 3 then s.put ALM_STAT.REF_PRESENT 1 else if b = 3 then s.put ALM_STAT.REF_PRESENT 0 else s
      let sel := s.almSrc == 1 || s.almSrc == 2
      let s := s.putB ALM_STAT.REF_OFF_RANGE (sel && s.flag ALM_STAT.REF_PRESENT && decide (200 < corr.natAbs * 1000000 / almIncrement.toNat || corrLimit < corr.natAbs))
      if was && ! s.refGood then (s.enterHoldover).fltInfo 0x03 0 0x03 almLocation 0
      else if s.refGood && ! s.alm.holdover then (s.track corr).almTq
      else s.almTq)

/-- HOLDOVER_EXIT: REF_IN has stayed present and in range for 1 s (R72). -/
def execHoldoverExit (s : State) : Out :=
  .next (
    if s.alive && s.alm.holdover && s.refGood then
      ({ s with alm := { s.alm with holdover := false, returning := true, ppsSinceRef := false } } : State).almTq
    else s)

/-! ### Steps and PPS (R73 to R77) -/

/-- The time is stepped to `t` (R76). -/
def State.stepTo (s : State) (t : Stamp) : State :=
  let d : Int := (t.toNat : Int) - s.now.toNat
  let s : State := { s with alm := { s.alm with word := t.setWidth 104 <<< 24, slewLeft := 0 } }
  let s := (s.put ALM_STAT.STEPPED 1).putPair (ALM_STEP_LAST.addr 0) (satSigned 64 d)
  s.fltInfo 0x05 0 0x03 almLocation ((satSigned 64 d) % 2 ^ 32)

/-- What the block does while no command waits: one TCLK edge passes, outside POWER_OFF (R65); a step written under SRC
LOCAL or REF loads ALM_SET on it (R75). DESIGN CHOICE (log entry 1): time passes on an empty queue and at no other step.
DEDUCED (log entry 102). -/
def State.idle (s : State) : State :=
  if s.dev == powerOff then s
  else
    let s := s.almTick
    if s.alm.stepDue then
      ({ s with alm := { s.alm with stepDue := false } } : State).stepTo (s.appStamp ALM_SET.addr)
    else s

/-- The signed distance of a stamp from the nearest seconds boundary. DEDUCED (log entry 27). -/
def secondError (t : Stamp) : Int :=
  let f : Nat := t.toNat % 2 ^ 40
  if f < 2 ^ 39 then (f : Int) else (f : Int) - 2 ^ 40

/-- An edge at t on TDC input k lies in the dead time of the edge stamped before it (R83). -/
def State.inDeadTime (s : State) (k : Fin 10) (t : Stamp) : Bool :=
  match vget s.alm.lastEdge k with
  | some l => decide (l.toNat ≤ t.toNat) && decide ((t.toNat - l.toNat) * 1000000000 < 2 * 2 ^ 40)
  | none => false

/-- An edge on TDC input k is stamped. -/
def State.stampEdge (s : State) (k : Fin 10) (t : Stamp) : State :=
  { s with alm := { s.alm with lastEdge := vset s.alm.lastEdge k (some t) } }

/-- A PPS_IN edge is accepted with error e (R73). -/
def State.ppsAccept (s : State) (e : Int) : State :=
  let n := min (s.alm.ppsAccepted + 1) 2
  let s := s.put ALM_PPS_ERR.ERR (satSigned 32 e)
  let s : State := { s with alm := { s.alm with
    ppsAccepted := n, ppsRejected := 0, ppsLastRejected := none, ppsMismatch := false, ppsSinceRef := true, slewLeft := -e * 16777216 } }
  (if n = 2 then s.put ALM_STAT.PPS_PRESENT 1 else s).almTq

/-- A PPS_IN edge is rejected (R73, R74). -/
def State.ppsReject (s : State) (t : Stamp) (e : Int) : State :=
  let chained := match s.alm.ppsLastRejected with
    | some l => decide (((((t.toNat : Int) - l.toNat) - 2 ^ 40).natAbs) * 1000000 ≤ 2 ^ 40)
    | none => false
  let n := if chained then s.alm.ppsRejected + 1 else 1
  let s := s.bump ALM_STAT.PPS_REJECT
  let s : State := { s with alm := { s.alm with ppsAccepted := 0, ppsRejected := n, ppsLastRejected := some t } }
  if n = 4 then
    if s.appFlag ALM_CTRL.AUTO_STEP then
      let s : State := { s with alm := { s.alm with ppsRejected := 0, ppsLastRejected := none } }
      s.stepTo (BitVec.ofInt 80 ((s.now.toNat : Int) - e))
    else
      let s : State := { s with alm := { s.alm with ppsMismatch := true } }
      (s.fltInfo 0x04 0 0x03 almLocation (satSigned 32 e)).almTq
  else s

/-- PPS_IN_EDGE (R73 to R75): an active edge outside the dead time; with another source PPS_IN is only a TDC input.
DEDUCED (log entry 27). -/
def execPpsInEdge (rising : Bool) (t : Stamp) (s : State) : Out :=
  .next (
    if ! s.alive || rising == (s.app ALM_CTRL.PPS_EDGE == 1) || s.inDeadTime 9 t then s
    else
      let s := s.stampEdge 9 t
      if s.almSrc != 2 then s
      else
        let e := secondError t
        if s.flag ALM_STAT.STEP_PENDING then
          let s := (s.put ALM_STAT.STEP_PENDING 0).ppsAccept 0
          s.stepTo (BitVec.ofNat 80 ((s.appStamp ALM_SET.addr).toNat / 2 ^ 40 * 2 ^ 40))
        else if e.natAbs * 1000000 ≤ 2 ^ 40 then s.ppsAccept e
        else s.ppsReject t e)

/-- PPS_ABSENT (R73). -/
def execPpsAbsent (s : State) : Out :=
  .next (
    if s.alive then ({ s with alm := { s.alm with ppsAccepted := 0 } } : State).put ALM_STAT.PPS_PRESENT 0 |>.almTq else s)

/-- PPS_OUT_PULSE (R77). -/
def execPpsOutPulse (s : State) : Out :=
  .next (if s.alive && s.appFlag ALM_CTRL.PPSO_EN then { s with pins := { s.pins with ppsOut := true } } else s)

/-- PPS_OUT_END (R77). -/
def execPpsOutEnd (s : State) : Out := .next (if s.alive then { s with pins := { s.pins with ppsOut := false } } else s)

/-! ### The TDC (R83 to R87) -/

/-- The stops in the order of R85 step 4. -/
def insertStop (x : Stamp × Nat × Bool) : List (Stamp × Nat × Bool) → List (Stamp × Nat × Bool)
  | [] => [x]
  | y :: l => if x.1.toNat < y.1.toNat || (x.1 == y.1 && x.2.1 < y.2.1) then x :: y :: l else y :: insertStop x l

/-- The measurement ends. -/
def State.tdcEnd (s : State) : State := (s.put ALM_TDC_STAT.DONE 1).put ALM_TDC_STAT.BUSY 0

/-- The results are written out, and COUNT. -/
def State.tdcResults (s : State) : State :=
  let start := s.getStamp ALM_TDC_START.addr
  let s := s.put ALM_TDC_STAT.COUNT s.alm.tdcList.length
  (s.alm.tdcList.zipIdx).foldl (fun s x =>
    let d := (x.1.1 - start).toNat % 2 ^ 41
    let s := s.put (ALM_TDC_RESULT_LO.INTERVAL x.2) d
    let s := (s.put (ALM_TDC_RESULT_HI.INTERVAL_HI x.2) (d / 2 ^ 32)).put (ALM_TDC_RESULT_HI.SRC x.2) x.1.2.1
    (s.putB (ALM_TDC_RESULT_HI.EDGE x.2) x.1.2.2).put (ALM_TDC_RESULT_HI.VALID x.2) 1) s

/-- A stamped edge on TRIG_INk in the running measurement. -/
def State.tdcEdge (s : State) (k : Nat) (rising : Bool) (t : Stamp) : State :=
  if ! s.flag ALM_TDC_STAT.BUSY then s
  else if ! s.alm.tdcStarted then
    if k == s.alm.tdcSel then
      ({ s with alm := { s.alm with tdcStarted := true } } : State).putStamp ALM_TDC_START.addr t
    else s
  else
    let start := s.getStamp ALM_TDC_START.addr
    if s.alm.tdcMask.testBit k && decide ((t - start).toNat * 10000000 ≤ s.alm.tdcTimeout * 2 ^ 40) then
      let s := ({ s with alm := { s.alm with tdcList := insertStop (t, k, ! rising) s.alm.tdcList } } : State).tdcResults
      if s.alm.tdcStops ≤ s.alm.tdcList.length then s.tdcEnd else s
    else s

/-- TRIG_IN_EDGE: an edge on TRIG_INk that ALM_TRIG_EDGE makes active is stamped, unless it falls in the dead time, and
becomes an event of EXTk and an edge of the measurement (R83, R85, R230). DEDUCED (log entry 104). -/
def execTrigInEdge (k : Fin 8) (rising : Bool) (t : Stamp) (s : State) : Out :=
  .next (
    let sel := s.app ALM_TRIG_EDGE.EDGE / 4 ^ k.val % 4
    let active := if rising then sel % 2 == 1 else sel / 2 == 1
    let c : Fin 10 := ⟨k.val, by omega⟩
    if ! s.alive || ! active then s
    else if s.inDeadTime c t then
      if s.flag ALM_TDC_STAT.BUSY && s.alm.tdcStarted && s.alm.tdcMask.testBit k then s.bump ALM_TDC_STAT.MISSED else s
    else ((s.stampEdge c t).tdcEdge k rising t).fileEvent k t (some t) 0)

/-- TDC_TIMEOUT (R85). -/
def execTdcTimeout (s : State) : Out :=
  .next (
    if s.alive && s.flag ALM_TDC_STAT.BUSY && s.alm.tdcStarted then (s.put ALM_TDC_STAT.TIMEOUT 1).tdcEnd else s)

/-- TDC_CALIBRATE: the inputs in `failed` failed their calibration (R84). DEDUCED (log entry 29). -/
def execTdcCalibrate (failed : BitVec 10) (s : State) : Out :=
  .next (
    if ! s.alive then s
    else
      let f : Vector Nat 10 := Vector.ofFn (fun (k : Fin 10) =>
        if failed.getLsbD k then min (vget s.alm.calFails k + 1) 2 else 0)
      let s : State := { s with alm := { s.alm with calFails := f } }
      if f.toList.any (fun n => decide (2 ≤ n)) then s.put ALM_STAT.TDC_CAL_OK 0
      else if failed == 0 then s.put ALM_STAT.TDC_CAL_OK 1 else s)

/-- ARM: the results are cleared and the applied settings taken (R85, R86). -/
def State.tdcArm (s : State) : State :=
  let s := (List.range 7).foldl (fun s j => (s.setWord (ALM_TDC_RESULT_LO.addr j) 0).setWord (ALM_TDC_RESULT_HI.addr j) 0) s
  let s := (s.setWord ALM_TDC_STAT.addr 0).putStamp ALM_TDC_START.addr 0
  let s : State := { s with alm := { s.alm with
    tdcStarted := false, tdcList := [], tdcSel := s.app ALM_TDC_CTRL.START_SEL, tdcMask := s.app ALM_TDC_CTRL.STOP_MASK
    tdcStops := s.app ALM_TDC_CTRL.STOP_COUNT, tdcTimeout := s.app ALM_TDC_TIMEOUT.TIMEOUT } }
  s.put ALM_TDC_STAT.BUSY 1

/-- The ALM registers' own rules (R75, R86). -/
def almRules : WriteRules :=
  { pre := fun s _ a w =>
      if a == ALM_CTRL.addr && w.toNat.testBit 12 && s.almSrc == 3 then some .locked
      else if a == ALM_TDC_CTRL.addr && w.toNat.testBit 24 && s.flag ALM_TDC_STAT.BUSY then some .busy
      else none
    act := fun _ a w s =>
      if a == ALM_CTRL.addr then
        if w.toNat.testBit 12 then
          if s.almSrc == 2 then .ok (s.put ALM_STAT.STEP_PENDING 1) else .ok { s with alm := { s.alm with stepDue := true } }
        else .ok s
      else if a == ALM_TDC_CTRL.addr then
        let arm := w.toNat.testBit 24
        let abort := w.toNat.testBit 25
        if arm && abort then .error .conflict
        else if arm then if s.app ALM_TDC_CTRL.STOP_MASK == 0 then .error .conflict else .ok s.tdcArm
        else if abort then if s.flag ALM_TDC_STAT.BUSY then .ok s.tdcEnd else .error .sequence
        else .ok s
      else .ok s }

/-- ALM_STEP (R75). DEDUCED (log entry 102). -/
def execAlmStep (src : Source) (v : Word) (s : State) : Out :=
  .next (s.writeReg almRules src ALM_CTRL.addr (v ||| BitVec.ofNat 32 (2 ^ 12)))

/-- TDC_ARM (R86). -/
def execTdcArm (src : Source) (v : Word) (s : State) : Out :=
  .next (s.writeReg almRules src ALM_TDC_CTRL.addr (v ||| BitVec.ofNat 32 (2 ^ 24)))

/-- TDC_ABORT (R85, R86). -/
def execTdcAbort (src : Source) (v : Word) (s : State) : Out :=
  .next (s.writeReg almRules src ALM_TDC_CTRL.addr (v ||| BitVec.ofNat 32 (2 ^ 25)))

/-! ### SYNC_IN (R60 to R64) -/

/-- SYNC_IN_EDGE: an active edge is sampled, stamped outside the dead time, passed on as SYSREF, and resets the armed
dividers. -/
def execSyncInEdge (rising : Bool) (t : Stamp) (onPhase : Bool) (s : State) : Out :=
  .next (
    if ! s.alive || rising == (s.app CLK_SYNC_CTRL.EDGE == 1) then s
    else
      let s := if s.inDeadTime 8 t then s else (s.stampEdge 8 t).putStamp ALM_SYNC_TS.addr t
      let s := if s.appFlag CLK_SYNC_CTRL.SYSREF_EN then s.sysref onPhase else s
      if s.flag CLK_SYNC_STAT.ARMED then
        let s := (s.put CLK_SYNC_STAT.ARMED 0).put CLK_SYNC_STAT.DONE 1
        (bitsIn 9 (s.app CLK_SYNC_CTRL.DIV_MASK)).foldl (fun s n =>
          if s.flag (CLK_PLL_STAT.LOCKED n) then s.put (CLK_PLL_STAT.SYNCED n) 1 else s) s
      else s)

/-- ALM takes an apply edge: a new source re-evaluates TQ, and PPS_OUT ends with its enable (R67, R77). -/
def State.almApply (s : State) (old : State) : State :=
  let s : State := if s.appFlag ALM_CTRL.PPSO_EN then s else { s with pins := { s.pins with ppsOut := false } }
  if s.almSrc == old.almSrc then s
  else
    ({ s with alm := { s.alm with
        holdover := (s.almSrc == 1 || s.almSrc == 2) && ! s.refGood, ppsSinceRef := false, ppsAccepted := 0, slewLeft := 0
        returning := true } } : State).almTq

end Sys2Proof.Machine
end

