-- ==== Sys2Proof/Machine/Admit.lean ====
section
/-! DEFINITION. The verdict of an admission check: demands against budgets, and the word SYS_ADMIT_RESULT reports (R46 to
R48); the application of a block's pending copies. -/

namespace Sys2Proof.Machine

/-- One thing the checker judges: a resource and its unit, the load as a fraction, and the refusal it leads to, if any. -/
structure AdmItem where
  res : Nat
  idx : Nat
  num : Nat
  den : Nat
  fail : Option Err
deriving DecidableEq, Repr

/-- Contradictory settings: ERR_CONFLICT on resource 0x0. -/
def admConflict (b : Bool) : List AdmItem := if b then [⟨0, 0, 0, 1, some .conflict⟩] else []

/-- A demand against a budget; over it, refused with `e`. -/
def admDemand (res idx num den : Nat) (e : Err) : List AdmItem :=
  [⟨res, idx, num, den, if den < num then some e else none⟩]

/-- Demand over budget as 8.8, truncated, saturating (R47). -/
def AdmItem.load (i : AdmItem) : Nat :=
  if i.den = 0 then (if i.num = 0 then 0 else 0xFFFF) else min (i.num * 256 / i.den) 0xFFFF

/-- Lower resource code, then lower index. -/
def AdmItem.before (a b : AdmItem) : Bool := decide (a.res < b.res) || (a.res == b.res && decide (a.idx < b.idx))

/-- A higher load. -/
def AdmItem.heavier (a b : AdmItem) : Bool := decide (b.num * a.den < a.num * b.den)

/-- The item of a list that `better` prefers, the earlier on a tie. -/
def pick (better : AdmItem → AdmItem → Bool) : List AdmItem → Option AdmItem
  | [] => none
  | a :: l => some (l.foldl (fun m x => if better x m then x else m) a)

/-- The verdict: SYS_ADMIT_RESULT and the refusal (R47, R48). A set-up with no load at all reports resource 0x0, none. -/
def admJudge (l : List AdmItem) : Word × Option Err :=
  let word (i : AdmItem) (code : Nat) : Word := BitVec.ofNat 32 (i.load * 65536 + i.idx % 16 * 4096 + i.res % 16 * 256 + code)
  match pick AdmItem.before (l.filter (·.fail.isSome)) with
  | some i => (word i ((i.fail.map Err.code).getD 0), i.fail)
  | none =>
    match pick (fun x m => x.heavier m || (! m.heavier x && x.before m)) (l.filter (fun i => i.num != 0)) with
    | some i => (word i 0, none)
    | none => (0, none)

/-- The pending copies of block `w` become applied (R523). -/
def State.applyBlock (s : State) (w : Nat) : State :=
  (addrsOfBlock w).foldl (fun (s : State) a => if bufMask a = 0 then s else s.setAppWord a (s.word a &&& bufMask a)) s

end Sys2Proof.Machine
end

