-- ==== Sys2Proof/Machine/Display.lean ====
section
/-! DEFINITION. The display: timing, commits and their admission, the composer's five layers, controlled blanks, the link,
the AUX channel. -/

namespace Sys2Proof.Machine

/-! ### Admission of the display settings (R311, R313, R316, R318, R319, R325, R326) -/

/-- Gb/s code to Mb/s (R328). -/
def linkRate (code : Nat) : Nat :=
  match code with | 0 => 1620 | 1 => 2160 | 2 => 2430 | 3 => 2700 | 4 => 3240 | 5 => 4320 | 6 => 5400 | _ => 8100

/-- Lanes of a LANES code. -/
def linkLanes (code : Nat) : Nat := 2 ^ code

/-- PCLK in Hz, as a fraction (R58). -/
def pclkNum (r : View') : Nat := 100000000 * (r DPY_PLLP_CFG.INT * 2 ^ 24 + r DPY_PLLP_CFG.FRAC)
def pclkDen (r : View') : Nat := 2 ^ 24 * r DPY_PLLP_DIV.ODIV

/-- STRIDE and OSTRIDE (R311, R318). -/
def strideV (r : View') : Nat := (r DPY_HTIM.HACTIVE * 4 + 255) / 256 * 256
def ostrideV (r : View') : Nat := (r DPY_HTIM.HACTIVE + 63) / 64 * 64

/-- A viewport lies within the active area and is not empty (R313). -/
def viewportOk (r : View') (x y w h : Fld) : Bool :=
  r w != 0 && r h != 0 && decide (r x + r w ≤ r DPY_HTIM.HACTIVE) && decide (r y + r h ≤ r DPY_VTIM.VACTIVE)

/-- A timing mode within the limits of R319. -/
def timingOk (r : View') : Bool :=
  let ha := r DPY_HTIM.HACTIVE
  let va := r DPY_VTIM.VACTIVE
  ha % 2 == 0 && decide (64 ≤ ha) && decide (ha ≤ 3840) && decide (64 ≤ va) && decide (va ≤ 2160)
    && decide (r DPY_HTIM.HTOTAL ≤ 8192) && decide (r DPY_VTIM.VTOTAL ≤ 4096)
    && r DPY_HSYNC.HFP != 0 && r DPY_HSYNC.HSW != 0 && r DPY_VSYNC.VFP != 0 && r DPY_VSYNC.VSW != 0
    && decide (ha + r DPY_HSYNC.HFP + r DPY_HSYNC.HSW < r DPY_HTIM.HTOTAL)
    && decide (va + r DPY_VSYNC.VFP + r DPY_VSYNC.VSW < r DPY_VTIM.VTOTAL)

/-- The conflicts of a set of display settings r, with the rest of the set-up q. -/
def dpyConflict (r q : View') : Bool :=
  ! timingOk r || decide (0x02000000 < strideV r * r DPY_VTIM.VACTIVE) || decide (r DPY_VTMAX.VTOTAL_MAX < r DPY_VTIM.VTOTAL)
  || ((r DPY_DEN_CTRL.EN == 1 || (List.range 4).any (fun i => r (DPY_TRC_CTRL.EN i) == 1))
      && ! viewportOk r DPY_DEN_VP0.X DPY_DEN_VP0.Y DPY_DEN_VP1.W DPY_DEN_VP1.H)
  || (r DPY_SPG_CTRL.EN == 1 && (! viewportOk r DPY_SPG_VP0.X DPY_SPG_VP0.Y DPY_SPG_VP1.W DPY_SPG_VP1.H
      || q (FFT_SRC_SPG.EN (r DPY_SPG_CTRL.SRC)) == 0))
  || (r DPY_OVL_CTRL.EN == 1
      && decide (0x02800000 < 0x02000000 + r DPY_OVL_CTRL.BASE * 65536 + ostrideV r * r DPY_VTIM.VACTIVE))

/-- The larger of two fractions. -/
def maxFrac (a b : Nat × Nat) : Nat × Nat := if a.1 * b.2 < b.1 * a.2 then b else a

/-- What admission judges of the display (R325, R326): `mbps` is the link's raw rate in Mb/s. -/
def dpyItems (r q : View') (mbps : Nat) : List AdmItem :=
  let bpc := match r DPY_CTRL.BPC with | 0 => 6 | 1 => 8 | _ => 10
  let a := pclkNum r
  let b := max (pclkDen r) 1
  let ht := max (r DPY_HTIM.HTOTAL) 1
  let vb := max (r DPY_VTIM.VTOTAL - r DPY_VTIM.VACTIVE) 1
  let t := if r DPY_DEN_CTRL.EN == 1 then (q NEB_GEOM.COLS_M1 + 1) * (q NEB_GEOM.ROWS_M1 + 1) + 81920 else 0
  let lead := (t * a + ht * (40960000000 * b) + a * 40960, 40960000000 * b * vb * ht)
  let fb := maxFrac (a * 4, b * 2560000000) lead
  admConflict (dpyConflict r q) ++
    (if r DPY_CTRL.EN == 1 then
      admDemand 8 0 (a * 3 * bpc * 10) (b * mbps * 8 * 1000000) .deadline ++ admDemand 8 1 fb.1 fb.2 .deadline
    else [])

/-- The raw rate of the trained link, or before training of the committed one (R325). -/
def State.linkMbps (s : State) (r : View') (committed : Bool) : Nat :=
  if s.flag DPY_STAT.LINK_UP && ! committed then linkLanes (s.get DPY_LINK.LANES) * linkRate (s.get DPY_LINK.RATE)
  else linkLanes (r DPY_CTRL.LANES) * linkRate (r DPY_CTRL.RATE)

/-- The display's part of an admission check of the applied display settings with the set-up q. -/
def State.dpyApplied (s : State) (q : View') : List AdmItem :=
  if s.domOn dDISP then dpyItems s.app q (s.linkMbps s.app false) else []

/-! ### Composition (R311 to R318) -/

/-- A colour of 10 bits per component. -/
structure Rgb where
  r : Nat
  g : Nat
  b : Nat
deriving DecidableEq, Repr

/-- A 30-bit colour field. -/
def rgbOf (v : Nat) : Rgb := ⟨v / 2 ^ 20 % 1024, v / 2 ^ 10 % 1024, v % 1024⟩

/-- An 8-bit component widened to 10 bits. -/
def widen (c : Nat) : Nat := c * 4 + c / 64

/-- One component of a layer with alpha a over the one below (R314). -/
def blend (a s d : Nat) : Nat := (a * s + (255 - a) * d + 127) / 255

/-- An entry 0xAARRGGBB placed over a colour. -/
def laidOver (e : Nat) (d : Rgb) : Rgb :=
  let a := e / 2 ^ 24 % 256
  ⟨blend a (widen (e / 2 ^ 16 % 256)) d.r, blend a (widen (e / 2 ^ 8 % 256)) d.g, blend a (widen (e % 256)) d.b⟩

/-- A word of a colour table or palette: a poisoned word reads as 0 (R573). -/
def State.tableWord (s : State) (a : Nat) : Nat := if s.poisoned a then 0 else s.sramLE a 4

/-- The colour index of a cell value under colour settings c (R303). -/
def cellIndex (c : Word) (v : Nat) : Nat :=
  let f (x : Fld) : Nat := bitsOf c x.lo x.n
  let v' := v / 2 ^ f NEB_COLOUR.CSHIFT
  if f NEB_COLOUR.SCALE = 0 then min 1023 v'
  else if v' = 0 then 0
  else min 1023 (1 + f NEB_COLOUR.LOGK * Nat.log2 (v' ^ 64) / 64)

/-- The density layer's entry at pixel (x, y) of its viewport; `none` where a poisoned cell leaves the background. -/
def State.densityEntry (s : State) (x y ctr : Nat) : Option Nat :=
  let c := s.word NEB_PUB_COLOUR.addr
  let table := 0x06A34000 + bitsOf c NEB_COLOUR.CTAB.lo NEB_COLOUR.CTAB.n * 0x1000
  let geom (f : Fld) : Nat := bitsOf s.neb.pubGeom f.lo f.n + 1
  let col := (x - s.app DPY_DEN_VP0.X) * geom NEB_GEOM.COLS_M1 / max (s.app DPY_DEN_VP1.W) 1
  let row := (y - s.app DPY_DEN_VP0.Y) * geom NEB_GEOM.ROWS_M1 / max (s.app DPY_DEN_VP1.H) 1
  let a := nebPublished + cellOfs col row
  if s.neb.pubUndef && s.appFlag NEB_CTRL.EN then
    some (s.tableWord (table + cellIndex c ((Config.freeValue ctr).toNat % 2 ^ 32) * 4))
  else if ! s.neb.everPub then some (s.tableWord table)
  else if s.poisoned a then none
  else some (s.tableWord (table + cellIndex c (s.sramLE a 4) * 4))

/-- The pixel lies in a viewport. -/
def State.inView (s : State) (vx vy vw vh : Fld) (x y : Nat) : Bool :=
  decide (s.app vx ≤ x) && decide (x < s.app vx + s.app vw) && decide (s.app vy ≤ y) && decide (y < s.app vy + s.app vh)

/-- Line width in points of the spectrogram of source src (R188). -/
def State.spgPoints (s : State) (src : Nat) : Nat := (s.app (FFT_SRC_RANGE.NBM1 src) + 1) / 2 ^ s.app (FFT_SRC_SPG.BRED src)

/-- The spectrogram layer's entry at pixel (x, y): `some none` is background (R316). -/
def State.spectroEntry (s : State) (x y : Nat) : Option (Option Nat) :=
  let src := s.app DPY_SPG_CTRL.SRC
  let w := s.spgPoints src
  let lines := s.app (FFT_SRC_SPGL.LINES_M1 src) + 1
  let v := y - s.app DPY_SPG_VP0.Y
  let table := 0x06A34000 + s.app DPY_SPG_CTRL.CTAB * 0x1000
  if s.dpy.spgLines ≤ v then some none
  else
    let line := (s.dpy.spgLines - 1 - v) % lines
    let a := 0x03800000 + s.app (FFT_SRC_SPG.BASE src) * 0x1000 + line * ((32 + 2 * w + 63) / 64 * 64)
    let p := a + 32 + 2 * ((x - s.app DPY_SPG_VP0.X) * w / max (s.app DPY_SPG_VP1.W) 1)
    if s.poisoned a || s.poisoned p then none
    else if s.sramLE (a + 2) 1 / 16 == 1 then some (some (s.tableWord table))
    else
      let l := toSigned 16 (s.sramLE p 2)
      let top := toSigned 16 (s.app DPY_SPG_LEVEL.TOP)
      let i := clampInt 0 1023 (1023 - (top - l) / (s.app DPY_SPG_LEVEL.STEP : Nat))
      some (some (s.tableWord (table + i.toNat * 4)))

/-- Digits of n in base 10, less one. -/
def log10Floor : Nat → Nat → Nat
  | 0, _ => 0
  | k + 1, n => if n < 10 then 0 else 1 + log10Floor k (n / 10)

/-- The least integer not below log10 (a / b), for positive a and b. -/
def ceilLog10 (a b : Nat) : Int :=
  if a ≤ b then -(log10Floor (Nat.log2 (b / a) + 1) (b / a) : Int)
  else
    let q := ceilDiv a b
    let n := log10Floor (Nat.log2 q + 1) q
    if 10 ^ n = q then (n : Int) else (n : Int) + 1

/-- A single-precision number in units of 2^-149. -/
def singleUnits (w : Nat) : Int :=
  let e := w / 2 ^ 23 % 256
  let m : Nat := if e = 0 then w % 2 ^ 23 else (w % 2 ^ 23 + 2 ^ 23) * 2 ^ (e - 1)
  if w < 2 ^ 31 then (m : Int) else -(m : Int)

/-- The row of a trace value (R317): dB values, or a power of mode 0x4 whose 10 log10 is taken. -/
def traceRow (power : Bool) (top step : Int) (h : Nat) (w : Nat) : Nat :=
  let v := singleUnits w
  let last : Int := (h : Int) - 1
  if power then
    if v ≤ 0 then h - 1
    else (clampInt 0 last ((top - ceilLog10 (v.toNat ^ 2560) (2 ^ (149 * 2560))) / step)).toNat
  else
    let one : Int := (2 ^ 149 : Nat)
    (clampInt 0 last ((top * one - 256 * v) / (step * one))).toNat

/-- The column store of trace i at composition start (R317): the row of every viewport column. -/
def State.traceColumns (s : State) (i : Nat) : List (Option Nat) :=
  if ! s.appFlag (DPY_TRC_CTRL.EN i) then []
  else
    let src := s.app (DPY_TRC_CTRL.SRC i)
    let t := s.app (DPY_TRC_CTRL.T i)
    let nb := s.app (FFT_SRC_RANGE.NBM1 src) + 1
    let base := 0x03800000 + s.app (FFT_SRC_TRC.BASE src t) * 0x1000 + (4 * nb + 4095) / 4096 * 4096
    let w := s.app DPY_DEN_VP1.W
    (List.range w).map (fun c =>
      let a := base + 4 * (c * nb / max w 1)
      if s.poisoned a then none
      else some (traceRow (s.app (FFT_SRC_TRC.MODE src t) == 4) (toSigned 16 (s.app DPY_TRC_LEVEL.TOP))
        (s.app DPY_TRC_LEVEL.STEP : Nat) (s.app DPY_DEN_VP1.H) (s.sramLE a 4)))

/-- Trace i covers row r of column c. -/
def State.traceHits (s : State) (i c r : Nat) : Bool :=
  let col := (s.dpy.columns[i]?).getD []
  let at_ (k : Nat) : Option Nat := (col[k]?).getD none
  match at_ c with
  | none => false
  | some y =>
    let y0 := if c = 0 then y else (at_ (c - 1)).getD y
    decide (min y y0 ≤ r) && decide (r ≤ max y y0)

/-- The overlay's entry at pixel (x, y) (R318). -/
def State.overlayEntry (s : State) (x y : Nat) : Option Nat :=
  let a := 0x02000000 + s.app DPY_OVL_CTRL.BASE * 65536 + y * ostrideV s.app + x
  if s.poisoned a then none else some (s.tableWord (0x06A38000 + s.app DPY_OVL_CTRL.PAL * 0x400 + s.sramLE a 1 * 4))

/-- The composed pixel (x, y): the layers from the bottom up (R313). A pixel that needs a poisoned word takes DPY_BG
(R573). -/
def State.pixel (s : State) (x y ctr : Nat) : Rgb :=
  let bg := rgbOf (s.app DPY_BG.BG)
  let inDen := s.inView DPY_DEN_VP0.X DPY_DEN_VP0.Y DPY_DEN_VP1.W DPY_DEN_VP1.H x y
  let den : Option Rgb := if s.appFlag DPY_DEN_CTRL.EN && inDen then (s.densityEntry x y ctr).map (fun e => laidOver e bg) else some bg
  let spg : Option Rgb := den.bind (fun d =>
    if s.appFlag DPY_SPG_CTRL.EN && s.inView DPY_SPG_VP0.X DPY_SPG_VP0.Y DPY_SPG_VP1.W DPY_SPG_VP1.H x y then
      (s.spectroEntry x y).map (fun e => match e with | some e => laidOver e d | none => bg)
    else some d)
  let trc : Option Rgb := spg.map (fun d =>
    if inDen then
      (List.range 4).foldl (fun d i =>
        if s.traceHits i (x - s.app DPY_DEN_VP0.X) (y - s.app DPY_DEN_VP0.Y) then rgbOf (s.app (DPY_TRC_COLOUR.COLOUR i)) else d) d
    else d)
  (trc.bind (fun d => if s.appFlag DPY_OVL_CTRL.EN then (s.overlayEntry x y).map (fun e => laidOver e d) else some d)).getD bg

/-- Line y of the frame is composed into the frame buffer (R311, R312). -/
def State.composeLine (s : State) (y : Nat) : State :=
  let ha := s.app DPY_HTIM.HACTIVE
  let base := y * strideV s.app
  (List.range ha).foldl (fun (t : State) x =>
    let p := s.pixel x y (s.freeCtr + y * ha + x)
    t.setSramLE (base + x * 4) 4 (p.r * 2 ^ 20 + p.g * 2 ^ 10 + p.b)) s |>.unpoison base (ha * 4)

/-- The composer finishes every line below n. -/
def State.composeTo (s : State) (n : Nat) : State :=
  let n := min n (s.app DPY_VTIM.VACTIVE)
  if s.dpy.composing && s.dpy.lines < n then
    let s1 := ((List.range n).drop s.dpy.lines).foldl (fun (s : State) y => s.composeLine y) s
    let s1 : State := { s1 with dpy := { s1.dpy with lines := n } }
    if n = s.app DPY_VTIM.VACTIVE then
      { s1 with dpy := { s1.dpy with composing := false }, freeCtr := s1.freeCtr + s.app DPY_HTIM.HACTIVE * s.app DPY_VTIM.VACTIVE }
    else s1
  else s

/-! ### Video, commits and controlled blanks (R320 to R333) -/

abbrev mOFF : Nat := 0
abbrev mWAIT : Nat := 1
abbrev mPLL : Nat := 2
abbrev mTRAIN : Nat := 3
abbrev mRUN : Nat := 4
abbrev mBLANK : Nat := 5

/-- The machine state of the display; NEB_STAT.NO_VBLANK follows it (R333). -/
def State.setMstate (s : State) (m : Nat) : State := (s.put DPY_STAT.MSTATE m).putB NEB_STAT.NO_VBLANK (m != mRUN)

/-- The commit that applied names the frame it was first scanned in (R323, R327). -/
def State.nameFrame (s : State) : State :=
  ({ s with dpy := { s.dpy with nameFrame := false } } : State).put DPY_STAT.APPLIED_FRAME (s.get DPY_FRAME.FRAME) |>.raiseIrq 90

/-- Video stops; the composer drops its frame and its lock. -/
def State.stopVideo (s : State) (m : Nat) : State :=
  let s : State := { s with neb := { s.neb with dpyLock := false, dpyWant := false }, dpy := { s.dpy with composing := false } }
  s.setMstate m

/-- Video resumes at the next frame start (R327, R332): the frame is composed anew. -/
def State.resumeVideo (s : State) : State :=
  let s : State := { s.setMstate mRUN with neb := { s.neb with dpyWant := true } }
  if s.dpy.nameFrame then s.nameFrame else s

/-- Step 3 of R327: wait for HPD, then train. -/
def State.toTraining (s : State) : State :=
  let s := s.put DPY_STAT.LINK_UP 0
  s.stopVideo (if s.flag DPY_STAT.HPD then mTRAIN else mWAIT)

/-- PLL_P is retuned with the PLL_P fields of DPY (R327); it is not watched until it locks (R57). -/
def State.retunePllP (s : State) : State :=
  let s := (s.setWord CLK_PLLP_CFG.addr (s.appWord DPY_PLLP_CFG.addr)).setWord CLK_PLLP_DIV.addr (s.appWord DPY_PLLP_DIV.addr)
  let s := (s.setAppWord CLK_PLLP_CFG.addr (s.appWord DPY_PLLP_CFG.addr &&& bufMask CLK_PLLP_CFG.addr)).setAppWord CLK_PLLP_DIV.addr
    (s.appWord DPY_PLLP_DIV.addr &&& bufMask CLK_PLLP_DIV.addr)
  let s := (s.put (CLK_PLL_STAT.LOCKED 3) 0).put (CLK_PLL_STAT.SYNCED 3) 0
  { s with alm := { s.alm with unwatched := 3 :: s.alm.unwatched.filter (· != 3) } }

/-- A landed commit applies (R323, R327). -/
def State.commitApply (s : State) : State :=
  let old := s
  let s := (s.applyBlock 0x0E).put DPY_STAT.COMMIT_PEND 0
  let s : State := { s with dpy := { s.dpy with landed := false, lossBlank := false }, sys := { s.sys with guardSpoilt := true } }
  let d (f : Fld) : Bool := s.app f != old.app f
  let pll := s.appWord DPY_PLLP_CFG.addr != old.appWord DPY_PLLP_CFG.addr || s.appWord DPY_PLLP_DIV.addr != old.appWord DPY_PLLP_DIV.addr
  let en := s.appFlag DPY_CTRL.EN
  if pll || d DPY_CTRL.RATE || d DPY_CTRL.LANES || d DPY_CTRL.EN then
    let s := if pll then s.retunePllP else s
    if ! en then ((s.put DPY_STAT.LINK_UP 0).stopVideo mOFF).nameFrame
    else
      let s : State := { s with dpy := { s.dpy with nameFrame := true } }
      if s.flag (CLK_PLL_STAT.LOCKED 3) then s.toTraining else (s.put DPY_STAT.LINK_UP 0).stopVideo mPLL
  else s.nameFrame

/-- VBLANK: the blanking edge (R320). -/
def execVblank (s : State) : Out :=
  .next (
    if s.live dDISP && s.get DPY_STAT.MSTATE == mRUN then
      let s := s.bumpWrap DPY_FRAME.FRAME
      let s : State := { s with dpy := { s.dpy with teSeen := false } }
      let s := if s.dpy.landed then s.commitApply else s
      let s := if s.app NEB_CTRL.SWAP_SRC == 1 then s.nebRequest false else s
      if s.get DPY_STAT.MSTATE == mRUN then { s with neb := { s.neb with dpyWant := true } } else s
    else s)

/-- COMPOSE_START: the compositor's lock is granted and the composition of the frame starts (R315 to R317).
DESIGN CHOICE (log entry 52). -/
def execComposeStart (s : State) : Out :=
  .next (
    if s.live dDISP && s.get DPY_STAT.MSTATE == mRUN && s.neb.dpyWant && ! s.flag NEB_STAT.PUB_BUSY then
      let src := s.app DPY_SPG_CTRL.SRC
      let n := s.get (FFT_SRC_SPGW.WRAPS src) * (s.app (FFT_SRC_SPGL.LINES_M1 src) + 1) + s.get (FFT_SRC_SPGW.WLINE src)
      let cols := (List.range 4).map s.traceColumns
      { s with neb := { s.neb with dpyWant := false, dpyLock := true }
               dpy := { s.dpy with composing := true, lines := 0, spgLines := n, columns := cols } }
    else s)

/-- DENSITY_LOCK_RELEASE: the last line of the density viewport has been composed (R315). -/
def execDensityLockRelease (s : State) : Out :=
  .next (
    if s.live dDISP && s.neb.dpyLock && s.dpy.composing then
      let s := s.composeTo (s.app DPY_DEN_VP0.Y + s.app DPY_DEN_VP1.H)
      { s with neb := { s.neb with dpyLock := false } }
    else s)

/-- SCANOUT_LINE: scan-out reads a line; `composed` tells whether the composer has finished it (R312).
DESIGN CHOICE (log entry 52). -/
def execScanoutLine (line : Nat) (composed : Bool) (s : State) : Out :=
  .next (
    if s.live dDISP && s.get DPY_STAT.MSTATE == mRUN && line < s.app DPY_VTIM.VACTIVE then
      if ! s.neb.dpyWant && (! s.dpy.composing || line < s.dpy.lines) then s
      else if composed && s.dpy.composing then s.composeTo (line + 1)
      else (s.put DPY_STAT.UNDERRUN 1).bump DPY_CNT.UNDERRUN_COUNT
    else s)

/-- TE_IN_EDGE: an active (rising) edge in LOCK mode (R321). -/
def execTeInEdge (rising : Bool) (s : State) : Out :=
  .next (
    if s.live dDISP && s.get DPY_STAT.MSTATE == mRUN && s.app DPY_CTRL.TE_MODE == 1 && rising then
      { s with dpy := { s.dpy with teSeen := true } }
    else s)

/-- TE_MISS (R321). -/
def execTeMiss (s : State) : Out :=
  .next (
    if s.live dDISP && s.get DPY_STAT.MSTATE == mRUN && s.app DPY_CTRL.TE_MODE == 1 && ! s.dpy.teSeen then
      (s.put DPY_STAT.TE_MISS 1).bump DPY_CNT.TE_MISS_COUNT
    else s)

/-- DPY's own rules: shadow fields and COMMIT while a commit is pending (R324), the AUX channel (R334). -/
def dpyRules : WriteRules :=
  { pre := fun s _ a w =>
      if s.flag DPY_STAT.COMMIT_PEND && (bufMask a != 0 || (a == DPY_COMMIT.addr && w.toNat.testBit 0)) then some .busy
      else if a == DPY_AUX_CTRL.addr && w.toNat.testBit 31 then
        let adr := bitsOf w 0 20
        let last := adr + bitsOf w 24 4
        let held := (decide (adr ≤ 0x115) && decide (0x100 ≤ last)) || (decide (adr ≤ 0x600) && decide (0x600 ≤ last))
        let m := s.get DPY_STAT.MSTATE
        if ! w.toNat.testBit 30 && held && (m == mTRAIN || m == mRUN) then some .locked
        else if s.dpy.auxBusy then some .busy
        else none
      else none
    act := fun src a w s =>
      if a == DPY_COMMIT.addr && w.toNat.testBit 0 then
        .ok ({ s with dpy := { s.dpy with src := src } } |>.put DPY_STAT.COMMIT_PEND 1)
      else if a == DPY_AUX_CTRL.addr && w.toNat.testBit 31 then
        .ok { s with dpy := { s.dpy with auxBusy := true, auxWait := s.get DPY_STAT.MSTATE == mTRAIN } }
      else if a == DPY_PLLP_CFG.addr then
        if 48 * 2 ^ 24 < s.get DPY_PLLP_CFG.INT * 2 ^ 24 + s.get DPY_PLLP_CFG.FRAC then .error .range else .ok s
      else .ok s }

/-- DPY_COMMIT (R322, R324). -/
def execDpyCommit (src : Source) (v : Word) (s : State) : Out := .next (s.writeReg dpyRules src DPY_COMMIT.addr (v ||| 1))

/-- COMMIT_LAND: the commit leaves the synchroniser with its verdict (R322, R326). Where no blanking edges occur it
applies at once. -/
def execCommitLand (s : State) : Out :=
  .next (
    if s.live dDISP && s.flag DPY_STAT.COMMIT_PEND && ! s.dpy.landed then
      let fresh := s.get DPY_CTRL.RATE != s.app DPY_CTRL.RATE || s.get DPY_CTRL.LANES != s.app DPY_CTRL.LANES
      let v := admJudge (dpyItems s.get s.app (s.linkMbps s.get fresh))
      let s := s.setWord SYS_ADMIT_RESULT.addr v.1
      match v.2 with
      | some e => (s.put DPY_STAT.COMMIT_PEND 0).refuseOp 0x0E 0x100 s.dpy.src e
      | none =>
        let s : State := { s with dpy := { s.dpy with landed := true } }
        let m := s.get DPY_STAT.MSTATE
        if m == mRUN || m == mPLL || m == mTRAIN then s else s.commitApply
    else s)

/-- PLL_P declares lock: a controlled blank goes on to training, a blank for its loss ends (R327, R332). -/
def State.dpyPllLocked (s : State) : State :=
  if ! s.domOn dDISP then s
  else if s.get DPY_STAT.MSTATE == mPLL then s.toTraining
  else if s.dpy.lossBlank then ({ s with dpy := { s.dpy with lossBlank := false } } : State).resumeVideo
  else s

/-- PLL_P has lost lock: a display that runs blanks (R332). -/
def State.dpyPllLost (s : State) : State :=
  if s.domOn dDISP && s.get DPY_STAT.MSTATE == mRUN then
    { s.stopVideo mBLANK with dpy := { s.dpy with lossBlank := true, composing := false } }
  else s

/-- The end of training (R329, R330): the link as trained, or down. `ok` with a combination whose budget does not cover
the demand leaves the display blanked. -/
def State.linkTrained (s : State) (rate lanes : Nat) (ok : Bool) : State :=
  let s : State := { s with dpy := { s.dpy with auxWait := false } }
  let s := if ok then
      let fell := decide (linkRate rate < linkRate (s.app DPY_CTRL.RATE)) || decide (lanes < s.app DPY_CTRL.LANES)
      let s := ((s.put DPY_STAT.LINK_UP 1).put DPY_LINK.RATE rate).put DPY_LINK.LANES lanes
      let s := s.putB DPY_LINK.FELL_BACK fell
      if (s.dpyApplied s.app).any (fun i => i.res == 8 && i.idx == 0 && i.fail.isSome) then s.setMstate mBLANK else s.resumeVideo
    else
      let s := s.put DPY_STAT.LINK_UP 0
      (s.setMstate mBLANK).fltInfo 0x28 0 0x0E (tileLoc 2 11 0) (s.word DPY_LINK.addr).toNat
  if s.dpy.landed && s.get DPY_STAT.MSTATE == mBLANK then s.commitApply else s

/-- HPD_IRQ: the engine reads the link status; `lost` says that a lane has lost lock (R331). -/
def execHpdIrq (lost : Bool) (s : State) : Out :=
  .next (if s.live dDISP && s.get DPY_STAT.MSTATE == mRUN && lost then s.toTraining else s)

/-- HPD_UNPLUG (R331). -/
def execHpdUnplug (s : State) : Out :=
  .next (
    if s.live dDISP then
      let s := (s.put DPY_STAT.HPD 0).put DPY_STAT.LINK_UP 0
      let m := s.get DPY_STAT.MSTATE
      if m == mOFF || m == mPLL then s else s.stopVideo mWAIT
    else s)

/-- HPD_PLUG: the link retrains; no commit is needed (R327, R331). DEDUCED (log entry 100). -/
def execHpdPlug (s : State) : Out :=
  .next (
    if s.live dDISP then
      let s := s.put DPY_STAT.HPD 1
      if s.get DPY_STAT.MSTATE == mWAIT then s.stopVideo mTRAIN else s
    else s)

/-- AUX_GO (R334). -/
def execAuxGo (src : Source) (v : Word) (s : State) : Out :=
  .next (s.writeReg dpyRules src DPY_AUX_CTRL.addr (v ||| BitVec.ofNat 32 (2 ^ 31)))

/-- The bytes of an AUX read land in DPY_AUX_DATA, byte 4k in bits 7:0 of word k (R335). -/
def State.auxData (s : State) (data : List Byte) : State :=
  data.zipIdx.foldl (fun (s : State) x => s.put ⟨DPY_AUX_DATA.addr (x.2 / 4), x.2 % 4 * 8, 8⟩ x.1.toNat) s

/-- AUX_DONE: the host's transaction ends (R334). DEDUCED (log entry 100). -/
def execAuxDone (result : BitVec 2) (data : List Byte) (s : State) : Out :=
  .next (
    if s.live dDISP && s.dpy.auxBusy && ! s.dpy.auxWait then
      let s : State := { s with dpy := { s.dpy with auxBusy := false } }
      let s := (s.put DPY_AUX_STAT.RESULT result.toNat).put DPY_AUX_STAT.DONE 1
      if result == 0 && s.flag DPY_AUX_CTRL.READ then s.auxData (data.take (s.get DPY_AUX_CTRL.LENM1 + 1)) else s
    else s)

end Sys2Proof.Machine
end

