-- ==== Sys2Proof/Machine/Lod.lean ====
section
/-! DEFINITION. The Lodestar cores: their registers and data memory, the issue of an instruction with its stalls, delay
slots and loops, halts, interrupts, control and cycle budgets. One command is the issue of one instruction word at the
core's program counter (log entry). -/

namespace Sys2Proof.Machine

/-- Bits lo+n-1 : lo of an instruction word. -/
def wbits {k : Nat} (w : BitVec k) (lo n : Nat) : Nat := w.toNat / 2 ^ lo % 2 ^ n

/-- Data register, accumulator or walker number k. -/
abbrev fin16 (k : Nat) : Fin 16 := Fin.ofNat _ k
abbrev fin8 (k : Nat) : Fin 8 := Fin.ofNat _ k

/-! ### Access to a core -/

/-- Core n. -/
def State.core (s : State) (n : Fin 8) : LodCore := vget s.lod.core n

/-- Core n changed. -/
def State.modCore (s : State) (n : Fin 8) (f : LodCore → LodCore) : State :=
  { s with lod := { s.lod with core := vmod s.lod.core n f } }

/-- Data register k of core n. -/
def State.dreg (s : State) (n : Fin 8) (k : Nat) : BitVec 24 := vget (s.core n).d (fin16 k)
def State.setDreg (s : State) (n : Fin 8) (k : Nat) (v : BitVec 24) : State :=
  s.modCore n (fun c => { c with d := vset c.d (fin16 k) v })

/-- Accumulator k of core n. -/
def State.acc (s : State) (n : Fin 8) (k : Nat) : BitVec 56 := vget (s.core n).u (fin8 k)

/-- The state code of core n (R365). -/
def State.coreState (s : State) (n : Fin 8) : Nat := s.get (LOD_STAT.STATE n)
abbrev cSTOPPED : Nat := 1
abbrev cRUNNING : Nat := 2
abbrev cWAITING : Nat := 3
abbrev cHALTED : Nat := 4

/-- A sticky flag of SR is set (R342 to R344). -/
def State.stick (s : State) (f : Fld) (b : Bool) : State := if b then s.put f 1 else s

/-- An accumulator takes an exact value: modulo 2^56, with V56 when it lay outside (R343). -/
def State.setAcc (s : State) (n : Fin 8) (k : Nat) (v : Int) : State :=
  let s := s.modCore n (fun c => { c with u := vset c.u (fin8 k) (BitVec.ofInt 56 v) })
  s.stick (LOD_STAT.V56 n) (decide (v < -(2 ^ 55)) || decide (2 ^ 55 ≤ v))

/-- The 24-bit value that a store of accumulator k yields (R344). -/
def State.accStore (s : State) (n : Fin 8) (k : Nat) : BitVec 24 × State :=
  let v : Int := (s.acc n k).toInt / 8388608
  if s.appFlag (LOD_CTRL.SATST n) && (decide (v < -8388608) || decide (8388608 ≤ v)) then
    (BitVec.ofInt 24 (clampInt (-8388608) 8388607 v), s.put (LOD_STAT.SAT n) 1)
  else (BitVec.ofInt 24 v, s)

/-- SR as software reads it (R359). -/
def State.sr (s : State) (n : Fin 8) : Nat :=
  let c := s.core n
  b2n c.z + 2 * b2n c.n + 4 * b2n c.c + 8 * b2n c.v + 16 * s.get (LOD_STAT.V24 n) + 32 * s.get (LOD_STAT.V56 n)
    + 64 * s.get (LOD_STAT.SAT n) + 128 * b2n c.ie

/-- SR written. -/
def State.setSr (s : State) (n : Fin 8) (v : Nat) : State :=
  let s := s.modCore n (fun c => { c with z := bit v 0, n := bit v 1, c := bit v 2, v := bit v 3, ie := bit v 7 })
  ((s.putB (LOD_STAT.V24 n) (bit v 4)).putB (LOD_STAT.V56 n) (bit v 5)).putB (LOD_STAT.SAT n) (bit v 6)

/-- The flags of an ALU result (R342): Z and N of the result, C as given or a free value, V and V24 on a wrap. -/
def State.aluFlags (s : State) (n : Fin 8) (r : BitVec 24) (carry : Option Bool) (wrap : Bool) : State :=
  let (c, s) : Bool × State := match carry with | some b => (b, s) | none => (s.free.getLsbD 0, s.drawFree)
  (s.modCore n (fun k => { k with z := r == 0, n := r.msb, c := c, v := wrap })).stick (LOD_STAT.V24 n) wrap

/-- An ALU result: its value, its carry if the manual gives one, and whether it wrapped. -/
structure AluRes where
  r : BitVec 24
  carry : Option Bool
  wrap : Bool

/-- The result of an exact signed value reduced to 24 bits (R342). -/
def aluExact (v : Int) (carry : Option Bool) : AluRes :=
  ⟨BitVec.ofInt 24 v, carry, decide (v < -8388608) || decide (8388608 ≤ v)⟩

/-- A logical result. -/
def aluLogic (r : BitVec 24) : AluRes := ⟨r, none, false⟩

def aluAdd (a b : BitVec 24) : AluRes := aluExact (a.toInt + b.toInt) (some (decide (2 ^ 24 ≤ a.toNat + b.toNat)))
/-- Subtraction; the sense of its carry is open. -/
def aluSub (a b : BitVec 24) : AluRes :=
  aluExact (a.toInt - b.toInt) (some (decide (a.toNat < b.toNat) == Config.subCarryIsBorrow))
def aluAsr (a : BitVec 24) (k : Nat) : AluRes := aluLogic (a.sshiftRight k)
def aluLsr (a : BitVec 24) (k : Nat) : AluRes := aluLogic (a >>> k)
def aluShl (a : BitVec 24) (k : Nat) : AluRes := aluExact (a.toInt * 2 ^ k) none
def aluMov (b : BitVec 24) : AluRes := aluLogic b
def aluNeg (b : BitVec 24) : AluRes := aluSub 0 b
def aluAbs (b : BitVec 24) : AluRes := aluExact (b.toInt.natAbs : Int) none

/-! ### Walkers and data memory (R338, R346, R347) -/

/-- The BAR2 address of data word w of core n. -/
def dataAddr (n : Fin 8) (w : Nat) : Nat := 0x06000000 + n.val * 0x100000 + w % 2 ^ 18 * 4

/-- An index reduced into the span of a walker: modulo 2^18 when SPAN is 0, else by floor modulo into 0..SPAN-1. -/
def reduceIdx (span : BitVec 18) (i : Int) : BitVec 18 :=
  if span = 0 then BitVec.ofInt 18 i else BitVec.ofInt 18 (i % (span.toNat : Int))

/-- The word address BASE + IDX + disp of walker g. -/
def State.walkAddr (s : State) (n : Fin 8) (g : Nat) (disp : Int) : Nat :=
  let c := s.core n
  (BitVec.ofInt 18 ((vget c.base (fin8 g)).toNat + (vget c.idx (fin8 g)).toNat + disp)).toNat

/-- Walker g advances by its STEP (R346). -/
def State.advance (s : State) (n : Fin 8) (g : Nat) : State :=
  s.modCore n (fun c =>
    let i := reduceIdx (vget c.span (fin8 g)) ((vget c.idx (fin8 g)).toNat + (vget c.step (fin8 g)).toInt)
    { c with idx := vset c.idx (fin8 g) i })

/-- A halt in the middle of an instruction: its cause, and the SRAM address for cause MEM. -/
structure LodTrap where
  cause : Nat
  addr : Nat

/-- Word w of core n's data memory; a poisoned word halts the core with cause MEM (R341). -/
def State.loadWord (s : State) (n : Fin 8) (w : Nat) : Except LodTrap (BitVec 32) :=
  let a := dataAddr n w
  if s.poisoned a then .error ⟨6, a⟩ else .ok (BitVec.ofNat 32 (s.sramLE a 4))

/-- Word w of core n's data memory written. -/
def State.storeWord (s : State) (n : Fin 8) (w : Nat) (v : BitVec 32) : State :=
  (s.setSramLE (dataAddr n w) 4 v.toNat).unpoison (dataAddr n w) 4

/-- A data register's value as a 24-bit store writes it: sign-extended. -/
def store24 (v : BitVec 24) : BitVec 32 := v.signExtend 32

/-! ### Halts and invocations (R368 to R370) -/

/-- The invocation of core n ends: LOD_MAXINV keeps the longest. -/
def State.endInvoc (s : State) (n : Fin 8) : State :=
  s.put (LOD_MAXINV.MAXINV n) (max (s.get (LOD_MAXINV.MAXINV n)) (min (s.core n).icyc (2 ^ 24 - 1)))

/-- An invocation of core n begins. -/
def State.beginInvoc (s : State) (n : Fin 8) : State :=
  (s.bumpWrap (LOD_CNT0.INVOC n)).modCore n (fun c => { c with icyc := 0, overrun := false })

/-- Core n stops or halts with a cause at address pc (R365, R366, R368): causes STOP and CLOCK leave it STOPPED, the
others HALTED with a FLT event and interrupt source 72 + n. -/
def State.lodEnd (s : State) (n : Fin 8) (cause pc : Nat) (addr : Nat) : State :=
  let s := if s.coreState n == cRUNNING then s.endInvoc n else s
  let s := (s.put (LOD_STAT.CAUSE n) cause).put (LOD_PC.PC n) pc
  let s := s.modCore n (fun c => { c with stopReq := false })
  if cause == 1 then s.put (LOD_STAT.STATE n) cSTOPPED
  else if cause == 7 then (s.put (LOD_STAT.STATE n) cSTOPPED).raiseIrq (72 + n)
  else
    let s := (s.put (LOD_STAT.STATE n) cHALTED).raiseIrq (72 + n)
    let detail := (s.word (LOD_STAT.addr n)).toNat
    if cause == 6 then
      let (loc, s) := s.sramLoc addr
      s.fltRec 6 0x14 n 0x10 loc detail
    else s.fltInfo 0x14 n 0x10 (tileLoc (n.val / 2) (5 + n.val % 2) 0) detail

/-- Core n is clocked and its domain works: PLL_D is locked (R369). -/
def State.coreLive (s : State) (n : Fin 8) : Bool := s.live (coreDomain n) && s.flag (CLK_PLL_STAT.LOCKED 1)

/-- Sources pending on core n (R360). -/
def State.ipr (s : State) (n : Fin 8) : Nat :=
  let c := s.core n
  b2n c.timer + 2 * b2n (decide (s.app (LOD_TAP.THR_0 n) ≤ (s.tap n 0).queue.length))
    + 4 * b2n (decide (s.app (LOD_TAP.THR_1 n) ≤ (s.tap n 1).queue.length)) + 8 * b2n c.door + 16 * b2n c.peer

/-- The lowest-numbered source that is pending and enabled (R360). -/
def State.irqDue (s : State) (n : Fin 8) : Option Nat :=
  (List.range 5).find? (fun i => (s.ipr n).testBit i && (s.core n).imr.getLsbD i)

/-- An interrupt, or a STOP, may be taken at this boundary (R363). -/
def LodCore.boundary (c : LodCore) : Bool := c.rep == 0 && c.delay == 0

/-- Core n takes interrupt source i (R361): a full return stack halts it with cause STACK (R353). -/
def State.takeIrq (s : State) (n : Fin 8) (i : Nat) : State :=
  let c := s.core n
  if 16 ≤ c.rets.length then s.lodEnd n 4 c.pc 0
  else
    let s := if s.coreState n == cWAITING then (s.put (LOD_STAT.STATE n) cRUNNING).beginInvoc n else s
    let sr := BitVec.ofNat 8 (s.sr n)
    s.modCore n (fun k =>
      { k with rets := c.pc :: k.rets, shadow := sr, ie := false, pc := i * 0x10, timer := k.timer && i != 0, lastAcc := 0, lastWalk := 0 })

/-- A STOP that waits is taken at a boundary (R366). -/
def State.settleStop (s : State) (n : Fin 8) : State :=
  if (s.core n).stopReq && (s.core n).boundary && (s.coreState n == cRUNNING || s.coreState n == cWAITING) then s.lodEnd n 1 (s.core n).pc 0 else s

/-! ### Issue (R348 to R354) -/

/-- What R354 distinguishes. -/
inductive LodKind where
  | plain | branch | ret | repeats | loops | wait | tget | long
deriving DecidableEq, Repr

/-- Where the core goes after an instruction. -/
inductive LodFlow where
  /-- on to the next word -/
  | seq
  /-- a branch with its two delay slots: the target, or none when not taken -/
  | jump (target : Option Nat)
  /-- REP with a count -/
  | rep (count : Nat)
  /-- LOOP with a count, to its end word -/
  | loop (count stop : Nat)
  /-- into WAITING -/
  | wait
  /-- issue again: TGET on an empty queue -/
  | stall

/-- Accumulators and walkers an instruction uses, as masks, for the interlocks of R351. -/
structure LodUse where
  /-- accumulators written -/
  accW : Nat := 0
  /-- accumulators that MVA, ST or STL stores -/
  accR : Nat := 0
  /-- walkers a class ADDR instruction writes -/
  walkW : Nat := 0
  /-- walkers an address uses -/
  walkR : Nat := 0

/-- The rules of place of R354: what may not stand in a delay slot, under a REP, or at the end of a LOOP body. -/
def LodCore.illegalHere (c : LodCore) (k : LodKind) : Bool :=
  (c.delay != 0 && [LodKind.branch, .ret, .repeats, .loops, .wait, .long].contains k)
  || (c.rep != 0 && [LodKind.branch, .repeats, .loops, .wait, .tget, .long].contains k)
  || (k == .branch && match c.loops with | l :: _ => c.pc == l.stop || c.pc + 1 == l.stop | [] => false)

/-- The program counter and the loop stack after the last issue of an instruction of `len` words at pc (R352). -/
def LodCore.next (c : LodCore) (len : Nat) : LodCore :=
  let pc' := (c.pc + len) % 2 ^ 15
  match c.loops with
  | l :: ls =>
    if c.pc + len - 1 == l.stop then
      if 1 < l.left then { c with pc := l.start, loops := { l with left := l.left - 1 } :: ls }
      else { c with pc := pc', loops := ls }
    else { c with pc := pc' }
  | [] => { c with pc := pc' }

/-- The core after an instruction that ran on: REP's repetition, then the delay slots, then the LOOP (R350, R352). -/
def LodCore.stepOn (c : LodCore) (len : Nat) : LodCore :=
  if 1 < c.rep then { c with rep := c.rep - 1 }
  else
    let c1 : LodCore := { c with rep := 0 }.next len
    if c.delay = 0 then c1
    else if c.delay = 1 then
      match c.target with
      | some t => { c1 with delay := 0, target := none, pc := t, loops := c.loops }
      | none => { c1 with delay := 0 }
    else { c1 with delay := c.delay - 1 }

/-- The effect of a flow on the core, or a halt. -/
def State.lodFlow (s : State) (n : Fin 8) (len : Nat) (f : LodFlow) : Except LodTrap State :=
  match f with
  | .seq => .ok (s.modCore n (fun c => c.stepOn len))
  | .jump t => .ok (s.modCore n (fun c => { c.stepOn 1 with delay := 2, target := t }))
  | .rep 0 => .ok (s.modCore n (fun c => { c.next 1 with pc := ((c.next 1).pc + 1) % 2 ^ 15 }))
  | .rep k => .ok (s.modCore n (fun c => { c.next 1 with rep := k }))
  | .loop 0 stop => .ok (s.modCore n (fun c => { c with pc := (stop + 1) % 2 ^ 15 }))
  | .loop k stop =>
    if 4 ≤ (s.core n).loops.length then .error ⟨4, 0⟩
    else .ok (s.modCore n (fun c =>
      { c with pc := (c.pc + 1) % 2 ^ 15, loops := ⟨(c.pc + 1) % 2 ^ 15, stop, k⟩ :: c.loops }))
  | .wait =>
    if ! (s.core n).ie then .error ⟨2, 0⟩
    else
      let s := s.modCore n (fun c => c.stepOn 1)
      match s.irqDue n with
      | some i => .ok (s.takeIrq n i)
      | none => .ok ((s.endInvoc n).put (LOD_STAT.STATE n) cWAITING)
  | .stall => .ok s

/-- Cycles pass on core n, `stalls` of them interlock stalls. -/
def State.lodCycles (s : State) (n : Fin 8) (cycles stalls : Nat) : State :=
  s.modCore n (fun c =>
    { c with icyc := c.icyc + cycles + stalls, busy := c.busy + cycles + stalls, istall := c.istall + stalls })

/-- The issue of one instruction on core n: `ok` says that its word is legal (R348, R354), `eff` is its effect. A core
that is not running issues nothing. A halt leaves the state as it was before the instruction, at its address (R368). -/
def State.lodIssue (s : State) (n : Fin 8) (k : LodKind) (ok : Bool) (u : LodUse) (eff : State → Except LodTrap (State × LodFlow)) :
    State :=
  if ! (s.coreLive n && s.coreState n == cRUNNING) then s
  else
    let c := s.core n
    let len := if k == .long then 2 else 1
    let stall := (u.accR &&& c.lastAcc) != 0 || (u.walkR &&& c.lastWalk) != 0
    let s := s.lodCycles n len (b2n stall)
    let r : Except LodTrap State :=
      if ! ok || c.illegalHere k then .error ⟨2, 0⟩
      else match eff s with
        | .error t => .error t
        | .ok (s1, f) => s1.lodFlow n len f
    match r with
    | .error t => s.lodEnd n t.cause c.pc t.addr
    | .ok s2 => (s2.modCore n (fun c => { c with lastAcc := u.accW, lastWalk := u.walkW })).settleStop n

/-- An instruction whose effect runs on to the next word. -/
def runOn (f : State → State) : State → Except LodTrap (State × LodFlow) := fun s => .ok (f s, .seq)

/-! ### Class CTRL (R348) -/

/-- NOP. -/
def execNop (n : Fin 8) (w : BitVec 24) (s : State) : Out := .next (s.lodIssue n .plain (w == 0) {} (runOn id))

/-- WAIT (R367). -/
def execWait (n : Fin 8) (w : BitVec 24) (s : State) : Out :=
  .next (s.lodIssue n .wait (w == 0) {} (fun s => .ok (s, .wait)))

/-- The newest address of the return stack (R353). -/
def State.popRet (s : State) (n : Fin 8) : Except LodTrap (State × LodFlow) :=
  match (s.core n).rets with
  | t :: r => .ok (s.modCore n (fun c => { c with rets := r }), .jump (some t))
  | [] => .error ⟨4, 0⟩

/-- RETI: SR comes back from its shadow (R361). -/
def execReti (n : Fin 8) (w : BitVec 24) (s : State) : Out :=
  .next (s.lodIssue n .ret (w == 0) {} (fun s => (s.setSr n (s.core n).shadow.toNat).popRet n))

/-- RTS. -/
def execRts (n : Fin 8) (w : BitVec 24) (s : State) : Out :=
  .next (s.lodIssue n .ret (w == 0) {} (fun s => s.popRet n))

/-- EI. -/
def execEi (n : Fin 8) (w : BitVec 24) (s : State) : Out :=
  .next (s.lodIssue n .plain (w == 0) {} (runOn (fun s => s.modCore n (fun c => { c with ie := true }))))

/-- DI. -/
def execDi (n : Fin 8) (w : BitVec 24) (s : State) : Out :=
  .next (s.lodIssue n .plain (w == 0) {} (runOn (fun s => s.modCore n (fun c => { c with ie := false }))))

/-- TRAP: the code goes to TCODE and the core halts (R368). -/
def execTrap (n : Fin 8) (w : BitVec 24) (s : State) : Out :=
  .next (
    if ! (s.coreLive n && s.coreState n == cRUNNING) then s
    else if wbits w 8 16 != 0 then s.lodIssue n .plain false {} (runOn id)
    else ((s.lodCycles n 1 0).put (LOD_STAT.TCODE n) (wbits w 0 8)).lodEnd n 8 (s.core n).pc 0)

/-- SIG m: bit n of core m's PEERS (R362). A core that is OFF takes nothing. -/
def execSig (n : Fin 8) (w : BitVec 24) (s : State) : Out :=
  .next (s.lodIssue n .plain (wbits w 3 21 == 0) {} (runOn (fun s =>
    let m := fin8 (wbits w 0 3)
    if s.coreState m == 0 then s
    else s.modCore m (fun c => { c with peers := c.peers ||| BitVec.ofNat 8 (2 ^ n.val), peer := true }))))

/-- HOSTEV: the status bit, and interrupt source 64 + n (R373, R414). -/
def execHostev (n : Fin 8) (w : BitVec 24) (s : State) : Out :=
  .next (s.lodIssue n .plain (w == 0) {} (runOn (fun s => (s.put (LOD_STAT.HOSTEV n) 1).raiseIrq (64 + n))))

/-- CLRV: the sticky overflow flags (R343). -/
def execClrv (n : Fin 8) (w : BitVec 24) (s : State) : Out :=
  .next (s.lodIssue n .plain (w == 0) {} (runOn (fun s => (s.put (LOD_STAT.V24 n) 0).put (LOD_STAT.V56 n) 0)))

/-! ### Classes BRANCH and REPEAT (R349 to R353) -/

/-- BRA. DEDUCED (log entry 56). -/
def execBra (n : Fin 8) (w : BitVec 26) (s : State) : Out :=
  .next (s.lodIssue n .branch (wbits w 15 7 == 0) {} (fun s => .ok (s, .jump (some (wbits w 0 15)))))

/-- A condition of R349. -/
def State.lodCond (s : State) (n : Fin 8) (code : Nat) : Bool :=
  let c := s.core n
  match code with
  | 0 => c.z | 1 => ! c.z | 2 => c.n != c.v | 3 => c.n == c.v | 4 => ! c.z && c.n == c.v | 5 => c.z || c.n != c.v
  | 6 => c.c | 7 => ! c.c | 8 => s.flag (LOD_STAT.V24 n) | 9 => s.flag (LOD_STAT.V56 n)
  | 10 => (s.tap n 0).queue.isEmpty | _ => (s.tap n 1).queue.isEmpty

/-- BCC. -/
def execBcc (n : Fin 8) (w : BitVec 26) (s : State) : Out :=
  .next (s.lodIssue n .branch (wbits w 15 7 == 0 && decide (wbits w 22 4 ≤ 11)) {} (fun s =>
    .ok (s, .jump (if s.lodCond n (wbits w 22 4) then some (wbits w 0 15) else none))))

/-- CALL: the return address is the word after the delay slots (R350, R353). -/
def execCall (n : Fin 8) (w : BitVec 26) (s : State) : Out :=
  .next (s.lodIssue n .branch (wbits w 15 7 == 0) {} (fun s =>
    if 16 ≤ (s.core n).rets.length then .error ⟨4, 0⟩
    else .ok (s.modCore n (fun c => { c with rets := (c.pc + 3) % 2 ^ 15 :: c.rets }), .jump (some (wbits w 0 15)))))

/-- The count of a REP or LOOP: an immediate, 0 meaning 1,024, or a data register of at most 1,024 (R348, R352). -/
def State.repCount (s : State) (n : Fin 8) (w : BitVec 27) : Except LodTrap Nat :=
  if wbits w 26 1 = 0 then .ok (if wbits w 16 10 = 0 then 1024 else wbits w 16 10)
  else
    let v := (s.dreg n (wbits w 16 4)).toNat
    if 1024 < v then .error ⟨3, 0⟩ else .ok v

/-- REP. -/
def execRep (n : Fin 8) (w : BitVec 27) (s : State) : Out :=
  .next (s.lodIssue n .repeats (wbits w 15 1 == 0) {} (fun s =>
    match s.repCount n w with | .ok k => .ok (s, .rep k) | .error t => .error t))

/-- LOOP: an end word that does not come after the LOOP is ILLEGAL (R354). DEDUCED (log entry 56). -/
def execLoop (n : Fin 8) (w : BitVec 27) (s : State) : Out :=
  .next (s.lodIssue n .loops (wbits w 15 1 == 0 && decide ((s.core n).pc < wbits w 0 15)) {} (fun s =>
    match s.repCount n w with | .ok k => .ok (s, .loop k (wbits w 0 15)) | .error t => .error t))

/-! ### Classes ALU and ALUI (R342, R348) -/

/-- An ALU instruction on two registers. `cmp` writes no destination. -/
def State.aluOp (s : State) (n : Fin 8) (w : BitVec 23) (cmp : Bool) (f : BitVec 24 → BitVec 24 → AluRes) : State :=
  s.lodIssue n .plain (wbits w 0 11 == 0) {} (runOn (fun s =>
    let x := f (s.dreg n (wbits w 15 4)) (s.dreg n (wbits w 11 4))
    (if cmp then s else s.setDreg n (wbits w 19 4) x.r).aluFlags n x.r x.carry x.wrap))

/-- An ALU shift by the count in bits 14:11. -/
def State.aluShift (s : State) (n : Fin 8) (w : BitVec 23) (f : BitVec 24 → Nat → AluRes) : State :=
  s.lodIssue n .plain (wbits w 0 11 == 0) {} (runOn (fun s =>
    let x := f (s.dreg n (wbits w 15 4)) (wbits w 11 4)
    (s.setDreg n (wbits w 19 4) x.r).aluFlags n x.r x.carry x.wrap))

/-- The immediate of class ALUI, sign-extended to 24 bits. -/
def aluImm (w : BitVec 23) : BitVec 24 := BitVec.ofInt 24 (toSigned 19 (wbits w 0 19))

/-- An ALUI instruction: the destination register is its first source. -/
def State.aluiOp (s : State) (n : Fin 8) (w : BitVec 23) (cmp : Bool) (f : BitVec 24 → BitVec 24 → AluRes) : State :=
  s.lodIssue n .plain true {} (runOn (fun s =>
    let x := f (s.dreg n (wbits w 19 4)) (aluImm w)
    (if cmp then s else s.setDreg n (wbits w 19 4) x.r).aluFlags n x.r x.carry x.wrap))

/-- An ALUI shift; a negative count has no stated result: result and flags are free values. -/
def State.aluiShift (s : State) (n : Fin 8) (w : BitVec 23) (f : BitVec 24 → Nat → AluRes) : State :=
  s.lodIssue n .plain true {} (runOn (fun s =>
    if (aluImm w).msb then
      let r : BitVec 24 := s.free.setWidth 24
      let wrap := s.free.getLsbD 32
      ((s.drawFree).setDreg n (wbits w 19 4) r).aluFlags n r none wrap
    else
      let x := f (s.dreg n (wbits w 19 4)) (aluImm w).toNat
      (s.setDreg n (wbits w 19 4) x.r).aluFlags n x.r x.carry x.wrap))

/-- ADD. DEDUCED (log entry 56). -/
def execAdd (n : Fin 8) (w : BitVec 23) (s : State) : Out := .next (s.aluOp n w false aluAdd)
/-- SUB. DESIGN CHOICE (log entry 54). -/
def execSub (n : Fin 8) (w : BitVec 23) (s : State) : Out := .next (s.aluOp n w false aluSub)
/-- AND. -/
def execAnd (n : Fin 8) (w : BitVec 23) (s : State) : Out := .next (s.aluOp n w false (fun a b => aluLogic (a &&& b)))
/-- OR. -/
def execOr (n : Fin 8) (w : BitVec 23) (s : State) : Out := .next (s.aluOp n w false (fun a b => aluLogic (a ||| b)))
/-- XOR. -/
def execXor (n : Fin 8) (w : BitVec 23) (s : State) : Out := .next (s.aluOp n w false (fun a b => aluLogic (a ^^^ b)))
/-- ASR. -/
def execAsr (n : Fin 8) (w : BitVec 23) (s : State) : Out := .next (s.aluShift n w aluAsr)
/-- LSR. -/
def execLsr (n : Fin 8) (w : BitVec 23) (s : State) : Out := .next (s.aluShift n w aluLsr)
/-- SHL. -/
def execShl (n : Fin 8) (w : BitVec 23) (s : State) : Out := .next (s.aluShift n w aluShl)
/-- CMP: flags alone. DESIGN CHOICE (log entry 54). -/
def execCmp (n : Fin 8) (w : BitVec 23) (s : State) : Out := .next (s.aluOp n w true aluSub)
/-- MOV copies its second source. -/
def execMov (n : Fin 8) (w : BitVec 23) (s : State) : Out := .next (s.aluOp n w false (fun _ b => aluMov b))
/-- NEG negates its second source. -/
def execNeg (n : Fin 8) (w : BitVec 23) (s : State) : Out := .next (s.aluOp n w false (fun _ b => aluNeg b))
/-- ABS of its second source. -/
def execAbs (n : Fin 8) (w : BitVec 23) (s : State) : Out := .next (s.aluOp n w false (fun _ b => aluAbs b))
/-- ALUI ADD. -/
def execAluiAdd (n : Fin 8) (w : BitVec 23) (s : State) : Out := .next (s.aluiOp n w false aluAdd)
/-- ALUI SUB. -/
def execAluiSub (n : Fin 8) (w : BitVec 23) (s : State) : Out := .next (s.aluiOp n w false aluSub)
/-- ALUI AND. -/
def execAluiAnd (n : Fin 8) (w : BitVec 23) (s : State) : Out := .next (s.aluiOp n w false (fun a b => aluLogic (a &&& b)))
/-- ALUI OR. -/
def execAluiOr (n : Fin 8) (w : BitVec 23) (s : State) : Out := .next (s.aluiOp n w false (fun a b => aluLogic (a ||| b)))
/-- ALUI XOR. -/
def execAluiXor (n : Fin 8) (w : BitVec 23) (s : State) : Out := .next (s.aluiOp n w false (fun a b => aluLogic (a ^^^ b)))
/-- ALUI ASR. -/
def execAluiAsr (n : Fin 8) (w : BitVec 23) (s : State) : Out := .next (s.aluiShift n w aluAsr)
/-- ALUI LSR. -/
def execAluiLsr (n : Fin 8) (w : BitVec 23) (s : State) : Out := .next (s.aluiShift n w aluLsr)
/-- ALUI SHL. -/
def execAluiShl (n : Fin 8) (w : BitVec 23) (s : State) : Out := .next (s.aluiShift n w aluShl)
/-- ALUI CMP. -/
def execAluiCmp (n : Fin 8) (w : BitVec 23) (s : State) : Out := .next (s.aluiOp n w true aluSub)
/-- ALUI MOV loads its immediate. -/
def execAluiMov (n : Fin 8) (w : BitVec 23) (s : State) : Out := .next (s.aluiOp n w false (fun _ b => aluMov b))
/-- ALUI NEG. -/
def execAluiNeg (n : Fin 8) (w : BitVec 23) (s : State) : Out := .next (s.aluiOp n w false (fun _ b => aluNeg b))
/-- ALUI ABS. -/
def execAluiAbs (n : Fin 8) (w : BitVec 23) (s : State) : Out := .next (s.aluiOp n w false (fun _ b => aluAbs b))

/-! ### Transfers and multiplicands (R347) -/

/-- A transfer field: its code, walker and data register. -/
structure Xfer where
  code : Nat
  g : Nat
  d : Nat

/-- The transfer field in the low 9 bits of f. -/
def xferOf (f : Nat) : Xfer := ⟨f / 2 ^ 7 % 4, f / 2 ^ 4 % 8, f % 16⟩

/-- It names a memory operand. -/
def Xfer.mem (x : Xfer) : Bool := x.code == 1 || x.code == 2

/-- The walkers the transfers use. -/
def xferWalkers (xs : List Xfer) : Nat := xs.foldl (fun m x => if x.mem then m ||| 2 ^ x.g else m) 0

/-- What the transfers of an instruction do, gathered before anything is written: loads, stores, and the state with the
walkers advanced. Reads see the memory before the instruction, stores the registers before it. -/
def State.gather (old : State) (n : Fin 8) : List Xfer → State → Except LodTrap (State × List (Nat × BitVec 24) × List (Nat × BitVec 24))
  | [], s => .ok (s, [], [])
  | x :: xs, s =>
    if ! x.mem then State.gather old n xs s
    else
      let a := s.walkAddr n x.g 0
      if x.code = 1 then
        match old.loadWord n a with
        | .error t => .error t
        | .ok v =>
          match State.gather old n xs (s.advance n x.g) with
          | .error t => .error t
          | .ok (s, ls, ws) => .ok (s, (x.d, v.setWidth 24) :: ls, ws)
      else
        match State.gather old n xs (s.advance n x.g) with
        | .error t => .error t
        | .ok (s, ls, ws) => .ok (s, ls, (a, old.dreg n x.d) :: ws)

/-- Two transfers that load one data register: its value is not stated. -/
def sameLoad (ls : List (Nat × BitVec 24)) : Bool := match ls with | [a, b] => a.1 == b.1 | _ => false

/-- The loads and stores of the transfers land, port 1 before port 2 (R339). -/
def State.landXfers (s : State) (n : Fin 8) (ls ws : List (Nat × BitVec 24)) : State :=
  let s := ws.foldl (fun (s : State) x => s.storeWord n x.1 (store24 x.2)) s
  if sameLoad ls then
    let v : BitVec 24 := s.free.setWidth 24
    ls.foldl (fun (s : State) x => s.setDreg n x.1 v) s.drawFree
  else ls.foldl (fun (s : State) x => s.setDreg n x.1 x.2) s

/-- A multiplicand field: its value and the state with its walker advanced. -/
def State.multiplicand (old s : State) (n : Fin 8) (f : Nat) : Except LodTrap (BitVec 24 × State) :=
  if f < 16 then .ok (old.dreg n f, s)
  else
    match old.loadWord n (s.walkAddr n (f % 8) 0) with
    | .error t => .error t
    | .ok v => .ok (v.setWidth 24, if f / 8 % 2 = 1 then s.advance n (f % 8) else s)

/-- A class MAC instruction; `f` gives the accumulator's new exact value from its old one and the product (R343). -/
def State.macOp (s : State) (n : Fin 8) (w : BitVec 26) (f : Int → Int → Int) : State :=
  let m1 := wbits w 18 5
  let m2 := wbits w 13 5
  let x := xferOf (wbits w 0 9)
  let u := wbits w 23 3
  let ok := wbits w 9 4 == 0 && x.code != 3 && decide (m1 / 16 + m2 / 16 + b2n x.mem ≤ 2)
  let walk (m : Nat) : Nat := if m < 16 then 0 else 2 ^ (m % 8)
  s.lodIssue n .plain ok { accW := 2 ^ u, walkR := walk m1 ||| walk m2 ||| xferWalkers [x] } (fun s0 =>
    match State.multiplicand s0 s0 n m1 with
    | .error t => .error t
    | .ok (a, s1) =>
      match State.multiplicand s0 s1 n m2 with
      | .error t => .error t
      | .ok (b, s2) =>
        match State.gather s0 n [x] s2 with
        | .error t => .error t
        | .ok (s3, ls, ws) =>
          .ok ((s3.setAcc n u (f (s0.acc n u).toInt (a.toInt * b.toInt))).landXfers n ls ws, .seq))

/-- MPY. -/
def execMpy (n : Fin 8) (w : BitVec 26) (s : State) : Out := .next (s.macOp n w (fun _ p => p))
/-- MAC. -/
def execMac (n : Fin 8) (w : BitVec 26) (s : State) : Out := .next (s.macOp n w (fun u p => u + p))
/-- MSU. -/
def execMsu (n : Fin 8) (w : BitVec 26) (s : State) : Out := .next (s.macOp n w (fun u p => u - p))

/-- A class CMPLX instruction (R345): operands reduced to 18 bits, the sums shifted left by 12; `conj` conjugates the
second operand, `f` joins the accumulator's old value and the sum. -/
def State.cmplxOp (s : State) (n : Fin 8) (w : BitVec 26) (conj : Bool) (f : Int → Int → Int) : State :=
  let xs := [xferOf (wbits w 9 9), xferOf (wbits w 0 9)]
  let p := wbits w 24 2
  let r1 := wbits w 21 3
  let r2 := wbits w 18 3
  s.lodIssue n .plain (xs.all (fun x => x.code != 3)) { accW := 3 * 4 ^ p, walkR := xferWalkers xs } (fun s0 =>
    let a := (s0.dreg n (2 * r1)).toInt / 64
    let b := (s0.dreg n (2 * r1 + 1)).toInt / 64
    let c := (s0.dreg n (2 * r2)).toInt / 64
    let d := (s0.dreg n (2 * r2 + 1)).toInt / 64
    let re := if conj then a * c + b * d else a * c - b * d
    let im := if conj then b * c - a * d else a * d + b * c
    match State.gather s0 n xs s0 with
    | .error t => .error t
    | .ok (s1, ls, ws) =>
      let s2 := s1.setAcc n (2 * p) (f (s0.acc n (2 * p)).toInt (re * 4096))
      let s3 := s2.setAcc n (2 * p + 1) (f (s0.acc n (2 * p + 1)).toInt (im * 4096))
      .ok (s3.landXfers n ls ws, .seq))

/-- CMPY. -/
def execCmpy (n : Fin 8) (w : BitVec 26) (s : State) : Out := .next (s.cmplxOp n w false (fun _ p => p))
/-- CMAC. -/
def execCmac (n : Fin 8) (w : BitVec 26) (s : State) : Out := .next (s.cmplxOp n w false (fun u p => u + p))
/-- CMACJ. -/
def execCmacj (n : Fin 8) (w : BitVec 26) (s : State) : Out := .next (s.cmplxOp n w true (fun u p => u + p))
/-- CMSU. -/
def execCmsu (n : Fin 8) (w : BitVec 26) (s : State) : Out := .next (s.cmplxOp n w false (fun u p => u - p))

/-! ### Class ACC (R344, R348) -/

/-- A class ACC instruction that writes accumulator 23:21 with an exact value. -/
def State.accOp (s : State) (n : Fin 8) (w : BitVec 24) (f : State → Int) : State :=
  let u := wbits w 21 3
  s.lodIssue n .plain (wbits w 6 8 == 0) { accW := 2 ^ u } (runOn (fun s => s.setAcc n u (f s)))

/-- CLRA. -/
def execClra (n : Fin 8) (w : BitVec 24) (s : State) : Out := .next (s.accOp n w (fun _ => 0))
/-- ADDA adds the source accumulator to the destination. -/
def execAdda (n : Fin 8) (w : BitVec 24) (s : State) : Out :=
  .next (s.accOp n w (fun s => (s.acc n (wbits w 21 3)).toInt + (s.acc n (wbits w 18 3)).toInt))
/-- SUBA subtracts the source accumulator from the destination. -/
def execSuba (n : Fin 8) (w : BitVec 24) (s : State) : Out :=
  .next (s.accOp n w (fun s => (s.acc n (wbits w 21 3)).toInt - (s.acc n (wbits w 18 3)).toInt))
/-- ASH shifts by -32 to +31 bits; a right shift drops the low bits (R344). -/
def execAsh (n : Fin 8) (w : BitVec 24) (s : State) : Out :=
  .next (s.accOp n w (fun s =>
    let k := toSigned 6 (wbits w 0 6)
    let v := (s.acc n (wbits w 18 3)).toInt
    if 0 ≤ k then v * 2 ^ k.toNat else v / 2 ^ (-k).toNat))
/-- MVDA: the scale of the move is open. DESIGN CHOICE (log entry 55). -/
def execMvda (n : Fin 8) (w : BitVec 24) (s : State) : Out :=
  .next (s.accOp n w (fun s => (s.dreg n (wbits w 14 4)).toInt * 2 ^ Config.mvdaShift))
/-- MVA: the store of R344 to a data register. -/
def execMva (n : Fin 8) (w : BitVec 24) (s : State) : Out :=
  .next (
    let u := wbits w 18 3
    s.lodIssue n .plain (wbits w 6 8 == 0) { accR := 2 ^ u } (runOn (fun s =>
      let (v, s) := s.accStore n u
      s.setDreg n (wbits w 14 4) v)))

/-! ### Class LDST (R338, R346) -/

/-- The word address of an LDST operand, and the state with the walker advanced. -/
def State.ldst (s : State) (n : Fin 8) (w : BitVec 26) : Nat × State :=
  let g := wbits w 21 3
  match wbits w 24 2 with
  | 1 => (s.walkAddr n g (toSigned 10 (wbits w 0 10)), s)
  | 2 => (s.walkAddr n g 0, s.advance n g)
  | _ => (s.walkAddr n g 0, s)

/-- The word of an LDST instruction is legal: mode 0x3 and the bits between its fields are reserved. -/
def ldstOk (w : BitVec 26) (acc : Bool) : Bool :=
  wbits w 24 2 != 3 && wbits w 10 7 == 0 && (! acc || wbits w 20 1 == 0)

/-- LD. -/
def execLd (n : Fin 8) (w : BitVec 26) (s : State) : Out :=
  .next (s.lodIssue n .plain (ldstOk w false) { walkR := 2 ^ wbits w 21 3 } (fun s =>
    let (a, s1) := s.ldst n w
    match s.loadWord n a with
    | .error t => .error t
    | .ok v => .ok (s1.setDreg n (wbits w 17 4) (v.setWidth 24), .seq)))

/-- ST: a data register, or an accumulator by R344. -/
def execSt (n : Fin 8) (acc : Bool) (w : BitVec 26) (s : State) : Out :=
  .next (
    let u := wbits w 17 3
    s.lodIssue n .plain (ldstOk w acc) { walkR := 2 ^ wbits w 21 3, accR := if acc then 2 ^ u else 0 } (fun s =>
      let (a, s1) := s.ldst n w
      if acc then
        let (v, s2) := s1.accStore n u
        .ok (s2.storeWord n a (store24 v), .seq)
      else .ok (s1.storeWord n a (store24 (s.dreg n (wbits w 17 4))), .seq)))

/-- LDL: an accumulator from two words; the second word's bits 31:24 are ignored. -/
def execLdl (n : Fin 8) (w : BitVec 26) (s : State) : Out :=
  .next (
    let u := wbits w 17 3
    s.lodIssue n .plain (ldstOk w true) { walkR := 2 ^ wbits w 21 3, accW := 2 ^ u } (fun s =>
      let (a, s1) := s.ldst n w
      match s.loadWord n a, s.loadWord n (a + 1) with
      | .error t, _ => .error t
      | _, .error t => .error t
      | .ok lo, .ok hi => .ok (s1.modCore n (fun c => { c with u := vset c.u (fin8 u) (hi.setWidth 24 ++ lo) }), .seq)))

/-- STL: all 56 bits to two words. -/
def execStl (n : Fin 8) (w : BitVec 26) (s : State) : Out :=
  .next (
    let u := wbits w 17 3
    s.lodIssue n .plain (ldstOk w true) { walkR := 2 ^ wbits w 21 3, accR := 2 ^ u } (fun s =>
      let (a, s1) := s.ldst n w
      let v := s.acc n u
      let s2 := s1.storeWord n a (v.setWidth 32)
      let s3 := s2.storeWord n (a + 1) (store24 ((v >>> 32).setWidth 24))
      .ok (if a % 2 = 0 then s3.unpoison (dataAddr n a) 8 else s3, .seq)))

/-! ### Classes MOVE, ADDR, SPEC, LONG -/

/-- MOVE: up to two transfers alone. -/
def execMove (n : Fin 8) (w : BitVec 28) (s : State) : Out :=
  .next (
    let xs := [xferOf (wbits w 9 9), xferOf (wbits w 0 9)]
    s.lodIssue n .plain (wbits w 18 10 == 0 && xs.all (fun x => x.code != 3)) { walkR := xferWalkers xs } (fun s0 =>
      match State.gather s0 n xs s0 with
      | .error t => .error t
      | .ok (s1, ls, ws) => .ok (s1.landXfers n ls ws, .seq)))

/-- A class ADDR instruction: the named field of a walker takes or adds the source. A write of IDX or SPAN of a walker
with a span reduces IDX (R346). -/
def State.addrOp (s : State) (n : Fin 8) (w : BitVec 28) (add : Bool) : State :=
  let g := fin8 (wbits w 23 3)
  s.lodIssue n .plain (wbits w 21 1 == 1 || wbits w 18 3 == 0) { walkW := 2 ^ g.val } (runOn (fun s =>
    let v : BitVec 18 := if wbits w 21 1 = 0 then BitVec.ofNat 18 (wbits w 0 18) else (s.dreg n (wbits w 0 4)).setWidth 18
    s.modCore n (fun c =>
      let new (old : BitVec 18) : BitVec 18 := if add then old + v else v
      match wbits w 26 2 with
      | 0 => { c with base := vmod c.base g new }
      | 1 => { c with idx := vmod c.idx g (fun i => reduceIdx (vget c.span g) (new i).toNat) }
      | 2 => { c with step := vmod c.step g new }
      | _ =>
        let i := reduceIdx (new (vget c.span g)) (vget c.idx g).toNat
        { c with span := vmod c.span g new, idx := vset c.idx g i })))

/-- LDG. -/
def execLdg (n : Fin 8) (w : BitVec 28) (s : State) : Out := .next (s.addrOp n w false)
/-- ADDG. -/
def execAddg (n : Fin 8) (w : BitVec 28) (s : State) : Out := .next (s.addrOp n w true)

/-- The three 24-bit words of a stamp as TS and NOW hold it (R359). -/
def ts0Of (t : Stamp) : BitVec 24 := (t >>> 16).setWidth 24
def ts1Of (t : Stamp) : BitVec 24 := BitVec.ofNat 24 (t.toNat % 2 ^ 16 * 2 ^ 8 + t.toNat / 2 ^ 40 % 2 ^ 8)
def ts2Of (t : Stamp) : BitVec 24 := (t >>> 48).setWidth 24

/-- TGET: the oldest entry of a tap; on an empty queue it stalls, a cycle at a time (R356). -/
def execTget (n : Fin 8) (w : BitVec 26) (s : State) : Out :=
  .next (s.lodIssue n .tget (wbits w 0 16 == 0) {} (fun s =>
    let q : Fin 2 := if wbits w 25 1 = 0 then 0 else 1
    let r := wbits w 16 3
    match (s.tap n q).queue with
    | [] => .ok (s, .stall)
    | e :: es =>
      let s := s.modTap n q (fun t => { t with queue := es })
      let s := (s.setDreg n (2 * r) e.i).setDreg n (2 * r + 1) e.q
      let tfl := BitVec.ofNat 24 (e.seq.toNat + b2n e.ovr * 2 ^ 16 + b2n e.thr * 2 ^ 17 + b2n e.dsat * 2 ^ 18 + b2n e.gap * 2 ^ 19)
      .ok (s.modCore n (fun c => { c with tfl := tfl, ts := #v[ts0Of e.stamp, ts1Of e.stamp, ts2Of e.stamp] }), .seq)))

/-- Iterations left in the innermost LOOP or REP, the running one counted (R359). -/
def LodCore.lc (c : LodCore) : Nat :=
  if c.rep != 0 then c.rep else match c.loops with | l :: _ => l.left | [] => 0

/-- The special register with the given code as MVS reads it, and what the read does (R359). -/
def State.mvsRead (s : State) (n : Fin 8) (code : Nat) : BitVec 24 × State :=
  let c := s.core n
  match code with
  | 0 => (BitVec.ofNat 24 (s.sr n), s)
  | 1 => (c.imr, s)
  | 2 => (BitVec.ofNat 24 (s.ipr n), s)
  | 3 => (BitVec.ofNat 24 c.lc, s)
  | 4 => (c.tfl, s)
  | 5 => (vget c.ts 0, s)
  | 6 => (vget c.ts 1, s)
  | 7 => (vget c.ts 2, s)
  | 8 => (ts0Of s.now, s.modCore n (fun c => { c with now1 := ts1Of s.now, now2 := ts2Of s.now }))
  | 9 => (c.now1, s)
  | 10 => (c.now2, s)
  | 11 => (c.mail.setWidth 24, s.modCore n (fun c => { c with mail := 0, door := false }))
  | 12 => (c.peers.setWidth 24, s.modCore n (fun c => { c with peers := 0, peer := false }))
  | 13 => (BitVec.ofNat 24 n.val, s)
  | _ => (BitVec.ofNat 24 (min c.icyc (2 ^ 24 - 1)), s)

/-- MVS. -/
def execMvs (n : Fin 8) (w : BitVec 26) (s : State) : Out :=
  .next (s.lodIssue n .plain (wbits w 0 16 == 0 && decide (wbits w 20 5 ≤ 14)) {} (runOn (fun s =>
    let (v, s) := s.mvsRead n (wbits w 20 5)
    s.setDreg n (wbits w 16 4) v)))

/-- MVT: SR and IMR take a value, writes to read-only registers are ignored (R359). -/
def execMvt (n : Fin 8) (w : BitVec 26) (s : State) : Out :=
  .next (s.lodIssue n .plain (wbits w 0 16 == 0 && decide (wbits w 20 5 ≤ 14)) {} (runOn (fun s =>
    let v := s.dreg n (wbits w 16 4)
    match wbits w 20 5 with
    | 0 => s.setSr n v.toNat
    | 1 => s.modCore n (fun c => { c with imr := v })
    | _ => s)))

/-- LDI: a 24-bit immediate. -/
def execLdi (n : Fin 8) (w : BitVec 24) (imm : BitVec 32) (s : State) : Out :=
  .next (s.lodIssue n .long (wbits w 0 20 == 0 && wbits imm 24 8 == 0) {} (runOn (fun s =>
    s.setDreg n (wbits w 20 4) (imm.setWidth 24))))

/-- LDA: a load from an absolute address. -/
def execLda (n : Fin 8) (w : BitVec 24) (imm : BitVec 32) (s : State) : Out :=
  .next (s.lodIssue n .long (wbits w 0 20 == 0 && wbits imm 18 14 == 0) {} (fun s =>
    match s.loadWord n imm.toNat with
    | .error t => .error t
    | .ok v => .ok (s.setDreg n (wbits w 20 4) (v.setWidth 24), .seq)))

/-- STA: a store to an absolute address. -/
def execSta (n : Fin 8) (w : BitVec 24) (imm : BitVec 32) (s : State) : Out :=
  .next (s.lodIssue n .long (wbits w 0 20 == 0 && wbits imm 18 14 == 0) {} (runOn (fun s =>
    s.storeWord n imm.toNat (store24 (s.dreg n (wbits w 20 4))))))

/-! ### Control (R360 to R370) -/

/-- START of core n (R337, R366): every register of the core clears, the counters of its window stay. -/
def State.lodStart (s : State) (n : Fin 8) : State :=
  let was6 := s.coreState n == cHALTED && s.get (LOD_STAT.CAUSE n) == 6
  let pc := s.app (LOD_ENTRY.ENTRY n)
  let s := s.modCore n (fun c => { LodCore.reset with pc := pc, busy := c.busy, istall := c.istall })
  let s := ((s.put (LOD_STAT.V24 n) 0).put (LOD_STAT.V56 n) 0).put (LOD_STAT.SAT n) 0
  let s := ((s.put (LOD_STAT.STATE n) cRUNNING).put (LOD_CNT0.INVOC n) 0).beginInvoc n
  let others := (List.finRange 8).any (fun (m : Fin 8) => s.coreState m == cHALTED && s.get (LOD_STAT.CAUSE m) == 6)
  if was6 && ! others && s.get FLT_ACTIVE.ACTIVE / 2 ^ 6 % 2 == 1 then s.clearActive 6 else s

/-- LOD_CMD of core n (R366). -/
def State.lodCmd (s : State) (n : Fin 8) (w : Word) : Except Err State :=
  let start := w.toNat.testBit 0
  let stop := w.toNat.testBit 1
  let st := s.coreState n
  if start && stop then .error .conflict
  else if start then if st == 0 then .error .sequence else .ok (s.lodStart n)
  else if stop then
    if st == cWAITING then .ok (s.lodEnd n 1 (s.core n).pc 0)
    else if st == cRUNNING then .ok ((s.modCore n (fun c => { c with stopReq := true })).settleStop n)
    else .error .sequence
  else .ok s

/-- The core that register `a` belongs to. -/
def coreOf (a : Nat) : Fin 8 := fin8 ((a - 0x100000) / 0x100)

/-- The LOD registers' own rules (R362, R366). -/
def lodRules : WriteRules :=
  { pre := fun s _ a w =>
      let n := coreOf a
      if a == LOD_CMD.addr n && w.toNat.testBit 0 && ! w.toNat.testBit 1
          && (s.coreState n == cRUNNING || s.coreState n == cWAITING) then some .busy
      else none
    act := fun _ a w s =>
      let n := coreOf a
      if a == LOD_CMD.addr n then s.lodCmd n w
      else if a == LOD_DOOR.addr n then
        .ok (s.modCore n (fun c => { c with mail := c.mail ||| w.setWidth 16, door := true }))
      else .ok s }

/-- LOD_START (R366). -/
def execLodStart (core : Fin 8) (src : Source) (v : Word) (s : State) : Out :=
  .next (s.writeReg lodRules src (LOD_CMD.addr core) (v ||| 1))

/-- LOD_STOP (R366). -/
def execLodStop (core : Fin 8) (src : Source) (v : Word) (s : State) : Out :=
  .next (s.writeReg lodRules src (LOD_CMD.addr core) (v ||| 2))

/-- LOD_DOOR (R362). -/
def execLodDoor (core : Fin 8) (src : Source) (v : Word) (s : State) : Out :=
  .next (s.writeReg lodRules src (LOD_DOOR.addr core) v)

/-- LOD_TIMER: the timer of a started core expires (R360). -/
def execLodTimer (core : Fin 8) (s : State) : Out :=
  .next (
    if s.coreLive core && (s.coreState core == cRUNNING || s.coreState core == cWAITING) && s.app (LOD_TIMER.PERIOD core) != 0 then
      s.modCore core (fun c => { c with timer := true })
    else s)

/-- TAP_ENTRY: the oldest entry under way reaches its queue, or is discarded when the queue is full (R355, R357). -/
def execTapEntry (core : Fin 8) (q : Fin 2) (s : State) : Out :=
  .next (
    if ! s.live (coreDomain core) then s
    else
      let t := s.tap core q
      match t.crossing with
      | [] => s
      | e :: es =>
        if t.queue.length < 64 then
          s.modTap core q (fun t => { t with crossing := es, lost := false, queue := t.queue ++ [{ e with gap := e.gap || t.lost }] })
        else
          let s := s.modTap core q (fun t => { t with crossing := es, lost := true })
          if q.val = 0 then (s.put (LOD_STAT.TAP_OVF0 core) 1).bump (LOD_CNT2.DROP0 core)
          else (s.put (LOD_STAT.TAP_OVF1 core) 1).bump (LOD_CNT2.DROP1 core))

/-- INTERRUPT_ENTRY (R360, R361, R363). -/
def execInterruptEntry (core : Fin 8) (s : State) : Out :=
  .next (
    let c := s.core core
    if s.coreLive core && (s.coreState core == cRUNNING || s.coreState core == cWAITING) && c.ie && c.boundary then
      match s.irqDue core with | some i => s.takeIrq core i | none => s
    else s)

/-- BUDGET_OVERRUN: the running invocation has exceeded CYCLES (R370). -/
def execBudgetOverrun (core : Fin 8) (s : State) : Out :=
  .next (
    let c := s.core core
    if s.coreLive core && s.coreState core == cRUNNING && ! c.overrun && decide (s.app (LOD_BUDGET.CYCLES core) < c.icyc) then
      let s := s.modCore core (fun c => { c with overrun := true })
      let s := (s.bump (LOD_CNT1.OVERRUN core)).put (LOD_STAT.OVERRUN core) 1
      let s := s.fltInfo 0x15 core 0x10 (tileLoc (core.val / 2) (5 + core.val % 2) 0) c.icyc
      if s.appFlag (LOD_CTRL.BUDGET_TRAP core) then s.lodEnd core 5 c.pc 0 else s
    else s)

/-- LOD_BUSY_WINDOW: a 1 ms window ends; `mstall` is the steal cycles of the window (R340, R351, R370). -/
def execLodBusyWindow (core : Fin 8) (mstall : Nat) (s : State) : Out :=
  .next (
    if s.coreLive core then
      let c := s.core core
      let s := (s.put (LOD_BUSY.BUSY core) (min (c.busy + mstall) (2 ^ 20 - 1))).put (LOD_CNT1.ISTALL core) (min (c.istall / 4096) 255)
      let s := s.put (LOD_CNT1.MSTALL core) (min (mstall / 4096) 255)
      s.modCore core (fun c => { c with busy := 0, istall := 0 })
    else s)

/-! ### Apply, power, clock -/

/-- LOD takes an apply edge (R357, R365): EN brings a core to STOPPED or to OFF, a changed tap is emptied. -/
def State.lodApply (s : State) (old : State) : State :=
  (List.finRange 8).foldl (fun (s : State) (n : Fin 8) =>
    let on := s.appFlag (LOD_CTRL.EN n) && s.domOn (coreDomain n)
    let s := if on then if s.coreState n == 0 then s.put (LOD_STAT.STATE n) cSTOPPED else s
      else if s.coreState n == 0 then s
      else
        let s := if s.coreState n == cRUNNING || s.coreState n == cWAITING then s.lodEnd n 1 (s.core n).pc 0 else s
        s.put (LOD_STAT.STATE n) 0
    let ch0 := s.app (LOD_TAP.EN_0 n) != old.app (LOD_TAP.EN_0 n) || s.app (LOD_TAP.DDC_0 n) != old.app (LOD_TAP.DDC_0 n)
    let ch1 := s.app (LOD_TAP.EN_1 n) != old.app (LOD_TAP.EN_1 n) || s.app (LOD_TAP.DDC_1 n) != old.app (LOD_TAP.DDC_1 n)
    let s := if ch0 then s.modTap n 0 (fun _ => LodTap.reset) else s
    if ch1 then s.modTap n 1 (fun _ => LodTap.reset) else s) s

/-- PLL_D loses lock: every running core stops with cause CLOCK (R369). -/
def State.lodClockLost (s : State) : State :=
  (List.finRange 8).foldl (fun (s : State) (n : Fin 8) =>
    if s.coreState n == cRUNNING || s.coreState n == cWAITING then s.lodEnd n 7 (s.core n).pc 0 else s) s

/-- Domain CORE_A or CORE_B comes on or goes off: its cores and taps start afresh (R584). -/
def State.lodDomain (s : State) (d : Nat) : State :=
  (List.finRange 8).foldl (fun (s : State) (n : Fin 8) =>
    if coreDomain n == d then
      { s with lod := { core := vset s.lod.core n LodCore.reset, tap := vset s.lod.tap n (Vector.replicate 2 LodTap.reset) } }
    else s) s

end Sys2Proof.Machine
end

