-- ==== Sys2Proof/Machine/Check.lean ====
section
/-! DEFINITION. Check-value units (R391 to R394), and the Auctioneer (R396 to R398, R439). -/

namespace Sys2Proof.Machine

abbrev fin32 (k : Nat) : Fin 32 := Fin.ofNat _ k

/-- Check unit u. -/
def State.chk (s : State) (u : Nat) : ChkUnit := vget s.dma.unit (Fin.ofNat _ u)

/-- Check unit u replaced. -/
def State.setChk (s : State) (u : Nat) (x : ChkUnit) : State :=
  { s with dma := { s.dma with unit := vset s.dma.unit (Fin.ofNat _ u) x } }

/-- Unit u opens its next result (R393). -/
def State.chkOpen (s : State) (u : Nat) (seq : Word) (alive : BitVec 4) : State :=
  (s.setChk u { crc := crcInit (s.app (CHK_CFG.ALG u)), bytes := 0, seq := seq, alive := alive }).put (CHK_STAT.OPEN u) 0

/-- The result of unit u is published, valid or not; the value of an invalid one is undefined (R393, R394). -/
def State.chkPublish (s : State) (u : Nat) (valid : Bool) : State :=
  let x := s.chk u
  let alg := s.app (CHK_CFG.ALG u)
  let crc := crcFinal alg ((leBytes 4 x.seq.toNat ++ [x.alive.setWidth 8]).foldl (crcStep alg) x.crc)
  let s := if valid then s.setWord (CHK_RESULT.addr u) crc
    else ((s.setWord (CHK_RESULT.addr u) (s.free.setWidth 32)).drawFree).bump (CHK_STAT.INVALIDS u)
  let s := s.setWord (CHK_RSEQ.addr u) x.seq
  let s := (s.put (CHK_RINFO.ALIVE u) x.alive.toNat).putB (CHK_RINFO.VALID u) valid
  let s := s.put (CHK_RBYTES.BYTES u) (min x.bytes (2 ^ 32 - 1))
  let s := s.riseIrq (CHK_STAT.NEW u) 94
  s.chkOpen u (x.seq + 1) (x.alive + 1)

/-- Bytes folded into unit u (R391). -/
def State.chkFeed (s : State) (u : Nat) (bs : List Byte) : State :=
  if bs.isEmpty then s
  else
    let x := s.chk u
    let alg := s.app (CHK_CFG.ALG u)
    (s.setChk u { x with crc := bs.foldl (crcStep alg) x.crc, bytes := x.bytes + bs.length }).put (CHK_STAT.OPEN u) 1

/-- RESET of unit u (R394). -/
def State.chkReset (s : State) (u : Nat) : State := s.chkOpen u (BitVec.ofNat 32 (s.app (CHK_SEQ_INIT.SEQ_INIT u))) 0

/-- CHK's rules: RESET acts at the write. -/
def chkRules : WriteRules :=
  { pre := fun _ _ _ _ => none
    act := fun _ a w s =>
      match (List.range 16).find? (fun u => CHK_CMD.addr u == a) with
      | some u => .ok (if w.toNat.testBit 0 then s.chkReset u else s)
      | none => .ok s }

/-- CHK_RESET (R394). -/
def execChkReset (u : Fin 16) (src : Source) (v : Word) (s : State) : Out :=
  .next (s.writeReg chkRules src (CHK_CMD.addr u) (v ||| 1))

/-- CHK takes an apply edge: a change of ALG or STALL while bytes are open publishes an invalid result (R394). -/
def State.chkApply (s : State) (old : State) : State :=
  (List.range 16).foldl (fun (s : State) u =>
    if s.app (CHK_CFG.ALG u) != old.app (CHK_CFG.ALG u) || s.app (CHK_CFG.STALL u) != old.app (CHK_CFG.STALL u) then
      let x := s.chk u
      if s.flag (CHK_STAT.OPEN u) then s.chkPublish u false else s.chkOpen u x.seq x.alive
    else s) s

/-! ### The Auctioneer -/

/-- The class of a requester (R396). -/
def State.reqClass (s : State) (index : Nat) : Nat :=
  if index < 8 then 0 else if index < 12 then 1 else if 16 ≤ index ∧ index < 48 then s.app (DMA_S_CFG.CLASS (index - 16)) else 3

/-- The rotation pointer of class c on path p. -/
def State.arbPtr (s : State) (p c : Nat) : Nat := ((s.dma.ptr.find? (fun x => x.1 == p && x.2.1 == c)).map (·.2.2)).getD 0

/-- Request a precedes request b: class, then age, then rotation (R397). -/
def State.arbBefore (s : State) (a b : ArbReq) : Bool :=
  let age (r : ArbReq) := min r.age 4095
  let rot (r : ArbReq) := (r.index + 64 - s.arbPtr r.path r.cls) % 64
  if a.cls != b.cls then decide (a.cls < b.cls)
  else if age a != age b then decide (age b < age a)
  else decide (rot a < rot b)

/-- One grant on path p: the winner leaves, its class's pointer moves past it, the others age (R397). -/
def State.arbGrant (s : State) (p : Nat) : Option (ArbReq × State) :=
  match s.dma.wait.filter (·.path == p) with
  | [] => none
  | r :: l =>
    let w := l.foldl (fun m x => if s.arbBefore x m then x else m) r
    let ptr := (p, w.cls, (w.index + 1) % 64) :: s.dma.ptr.filter (fun x => ! (x.1 == p && x.2.1 == w.cls))
    let wait := (s.dma.wait.erase w).map (fun x => if x.path == p then { x with age := x.age + 1 } else x)
    some (w, { s with dma := { s.dma with ptr := ptr.filter (fun x => x.2.2 != 0), wait := wait } })

/-- Grants on path p until requester `index` has its own. -/
def State.arbUntil (s : State) (p index : Nat) : Nat → State
  | 0 => s
  | n + 1 => match s.arbGrant p with
    | none => s
    | some (w, s') => if w.index == index then s' else State.arbUntil s' p index n

/-- A request is presented on path p. -/
def State.arbPresent (s : State) (p index age : Nat) : State :=
  if s.dma.wait.any (fun x => x.path == p && x.index == index) then s
  else { s with dma := { s.dma with wait := s.dma.wait ++ [⟨p, index, s.reqClass index, age⟩] } }

/-- Requester `index` is served on path p against `rivals` (index, age), presented in the same cycle, and the requests that
wait already: grants run until its own. -/
def State.arbServe (s : State) (p index : Nat) (rivals : List (Fin 64 × Nat)) : State :=
  let s := rivals.foldl (fun (s : State) r => s.arbPresent p r.1.val r.2) s
  let s := s.arbPresent p index 0
  s.arbUntil p index s.dma.wait.length

/-- The SRAM bank-group port of an address, and the queue of a GDDR6 controller, as paths. -/
def sramPath (a : Nat) : Nat := a / 256 % 4
def gddrPath (c : Nat) : Nat := 4 + c

/-- AGE_PROMOTE: a waiting request of class C1 to C3 rises one class (R398); on a GDDR6 path none rises above C1
(R439). Its age stays. -/
def execAgePromote (path : Fin 32) (index : Fin 64) (s : State) : Out :=
  .next { s with dma := { s.dma with wait := s.dma.wait.map (fun r =>
    if r.path == path.val && r.index == index.val && 0 < r.cls
        && ! (4 ≤ path.val && path.val < 12 && r.cls == 1) then { r with cls := r.cls - 1 } else r) } }

end Sys2Proof.Machine
end

