-- ==== Sys2Proof/Machine/Sram.lean ====
section
/-! DEFINITION. The regions of SRAM, what a host or a stall may do in each (R39, R40, R375), and the tables that an applied
set-up locks. -/

namespace Sys2Proof.Machine

/-- The size of SRAM in bytes. -/
abbrev sramSize : Nat := 0x08000000

/-- An address lies in a region of SRAM that the host may write (R39). -/
def sramRw (a : Nat) : Bool :=
  (decide (0x02000000 ≤ a) && decide (a < 0x02800000)) || (decide (0x06000000 ≤ a) && decide (a < 0x06B00000))
    || (decide (0x06F00000 ≤ a) && decide (a < sramSize))

/-- An address lies in the region marked none (R39). -/
def sramNone (a : Nat) : Bool := decide (0x06B00000 ≤ a) && decide (a < 0x06D00000)

/-- The Lodestar core whose data or program memory holds an address (R39). -/
def coreOfSram (a : Nat) : Option (Fin 8) :=
  if 0x06000000 ≤ a ∧ a < 0x06800000 then some (Fin.ofNat _ ((a - 0x06000000) / 0x100000))
  else if 0x06800000 ≤ a ∧ a < 0x06900000 then some (Fin.ofNat _ ((a - 0x06800000) / 0x20000))
  else none

/-- An applied set-up uses mask table t in an enabled FMT unit (R218). -/
def State.maskUsed (s : State) (t : Nat) : Bool :=
  (List.range 4).any (fun m => s.appFlag TRG_CTRL.EN && (s.app TRG_EN.EN).testBit (8 + m) && s.app (TRG_FMT_CTRL.TABLE m) == t)

/-- Bank b of DDC k is locked: active, or either while a swap fades (R148). -/
def State.bankLocked (s : State) (k b : Nat) : Bool :=
  s.ddcEn k && (s.get (DDC_BANK.ACTIVE k) == b || s.flag (DDC_BANK.FADING k))

/-- User window slot u is used by a configured source (R171). -/
def State.windowUsed (s : State) (u : Nat) : Bool :=
  (List.finRange 20).any (fun (i : Fin 20) => (s.fftSrc i).on && s.app (srcWinFld (fftSourceOf i)) == 5 + u)

/-- Flatness table t is used by the applied set-up (R178). -/
def State.flatUsed (s : State) (t : Nat) : Bool :=
  (List.range 4).any (fun ch => (s.app FCV_MAP.CH_EN).testBit ch && s.appFlag (FCV_CHAN.FLAT_EN ch) && s.app (FCV_CHAN.FLAT_SEL ch) == t)
  || (List.range 16).any (fun k =>
    srcOnV s.app (16 + k) && s.appFlag (FFT_ZSRC_CFG.FLAT_EN k) && s.app (FFT_ZSRC_CFG.FLAT_SEL k) == t)
  || (s.appFlag SRV_SS_CTRL.EN && (List.range 16).any (fun i =>
    decide (s.app SRV_SS_CTRL.FIRST ≤ i) && decide (i ≤ s.app SRV_SS_CTRL.LAST)
      && s.appFlag (SRV_STEP_AUX.FLAT_EN i) && s.app (SRV_STEP_AUX.FLAT_SEL i) == t))

/-- Colour table t is used by Nebula or the spectrogram layer (R302, R316). -/
def State.colourUsed (s : State) (t : Nat) : Bool :=
  (s.appFlag NEB_CTRL.EN && s.app NEB_COLOUR.CTAB == t) || (s.appFlag DPY_SPG_CTRL.EN && s.app DPY_SPG_CTRL.CTAB == t)

/-- A write to address a is locked by the set-up in force (R40 and the owning chapters). -/
def State.tableLocked (s : State) (a : Nat) : Bool :=
  if 0x06800000 ≤ a ∧ a < 0x06900000 then
    match coreOfSram a with
    | some n => s.get (LOD_STAT.STATE n) == 2 || s.get (LOD_STAT.STATE n) == 3
    | none => false
  else if 0x06900000 ≤ a ∧ a < 0x06A00000 then s.maskUsed ((a - 0x06900000) / 0x40000)
  else if 0x06A00000 ≤ a ∧ a < 0x06A04000 then s.bankLocked ((a - 0x06A00000) / 0x400) ((a - 0x06A00000) % 0x400 / 0x200)
  else if 0x06A04000 ≤ a ∧ a < 0x06A24000 then s.windowUsed ((a - 0x06A04000) / 0x10000)
  else if 0x06A24000 ≤ a ∧ a < 0x06A34000 then s.flatUsed ((a - 0x06A24000) / 0x2000)
  else if 0x06A34000 ≤ a ∧ a < 0x06A38000 then s.colourUsed ((a - 0x06A34000) / 0x1000)
  else if 0x06A38000 ≤ a ∧ a < 0x06A38800 then
    s.appFlag DPY_OVL_CTRL.EN && s.app DPY_OVL_CTRL.PAL == (a - 0x06A38000) / 0x400
  else false

/-- What stands against an access of one SRAM byte by the host or a stall (R40, R341, R375, R586). -/
def State.sramErr (s : State) (a : Nat) (write : Bool) : Option Err :=
  if sramSize ≤ a then some .unmapped
  else if sramNone a then some .locked
  else
    let dom := match coreOfSram a with | some n => s.dom (coreDomain n) | none => 2
    if dom == 3 then some .busy
    else if dom != 2 then some .domainOff
    else if write && (! sramRw a || s.tableLocked a) then some .locked
    else none

end Sys2Proof.Machine
end

