-- ==== Sys2Proof/Machine/Mem.lean ====
section
/-! DEFINITION. The GDDR6 controller: capacity and mapping, errors, scrubbing and sparing, refresh, training, row
disturbance. -/

namespace Sys2Proof.Machine

abbrev gOFF : Nat := 0
abbrev gTRAINING : Nat := 1
abbrev gREADY : Nat := 2
abbrev gFREQ : Nat := 3
abbrev gFAILED : Nat := 4

/-- MEM_STAT.STATE. -/
def State.memState (s : State) : Nat := s.get MEM_STAT.STATE

/-- Populated controllers and channels NC (R433). -/
def State.memCtrls (s : State) : Nat := match s.app MEM_CFG.POP with | 0 => 8 | 1 => 4 | _ => 2
def State.memNc (s : State) : Nat := 2 * s.memCtrls

/-- Physical rows R of a bank (R434). -/
def State.memRows (s : State) : Nat := if s.app MEM_CFG.DENS = 0 then 16384 else 32768

/-- MEM_USABLE when trained, in 4 KiB units (R434). -/
def State.usableUnits (s : State) : Nat := s.memNc * (s.memRows - 16) * 124 / 16

/-- Usable bytes: 0 until READY. -/
def State.usableBytes (s : State) : Nat := s.get MEM_USABLE.USABLE * 4096

/-- Where ECC word u lies: channel, bank, row (R435). -/
def State.memPlace (s : State) (u : Nat) : MemRow :=
  let nc := s.memNc
  let v := u / nc
  match s.app MEM_CFG.MAP with
  | 1 => ⟨u % nc, v % 16, v / 16 / 31⟩
  | m =>
    let w := v / 31
    let row := w / 16
    if m = 0 then ⟨u % nc, w % 16, row⟩ else ⟨(u % nc) ^^^ (row % nc), (w % 16) ^^^ (row / nc % 16), row⟩

/-- A row as MEM_ERR_ROW and MEM_RD_STAT lay it out. -/
def MemRow.word (r : MemRow) : Nat := r.ch * 2 ^ 20 + r.bank * 2 ^ 16 + r.row

/-- The location code of a bank: the controller's tile, SLICE the device channel and bank (R37, R437). -/
def memLoc (ch bank : Nat) : Nat := tileLoc (ch / 4) (7 + ch / 2 % 2) (ch % 2 * 16 + bank)

/-- The domain of controller c. -/
def memDomOf (c : Nat) : Nat := dMEM0 + c / 2

/-- The GDDR6 controllers work: MEM is alive and READY. -/
def State.memReady (s : State) : Bool := s.alive && s.memState == gREADY

/-- What stands against an access of one GDDR6 byte (R375, R404, R442). -/
def State.gddrErr (s : State) (a : Nat) : Option Err :=
  if ! s.domOn (memDomOf ((s.memPlace (a / 64)).ch / 2)) then some .domainOff
  else if s.memState != gREADY then some .locked
  else if s.usableBytes ≤ a then some .unmapped
  else none

/-- A row is due for sparing; a bank with no free spare raises SPARE_EXHAUSTED (R449 to R451). -/
def State.rowDue (s : State) (r : MemRow) : State :=
  if s.mem.due.contains r then s
  else
    let used := ((s.mem.spares.find? (fun x => x.1 == r.ch && x.2.1 == r.bank)).map (·.2.2)).getD 0
    if used < 16 then { s with mem := { s.mem with due := s.mem.due ++ [r] } }
    else
      (s.put MEM_STAT.SPARE_EXH 1).fltRec 7 0x1F 0 0x14 (memLoc r.ch r.bank) (r.ch * 2 ^ 20 + r.bank * 2 ^ 16)

/-- A read has found ECC word u uncorrectable (R437). -/
def State.memUe (s : State) (u : Nat) : State :=
  let r := s.memPlace u
  let s := ((s.bump MEM_CNT.UE_COUNT).put MEM_STAT.UE 1).setWord MEM_ERR_ROW.addr (BitVec.ofNat 32 r.word)
  (s.fltInfo 0x1C 0 0x14 (memLoc r.ch r.bank) r.word).rowDue r

/-- The bytes of an access written to GDDR6: words covered whole stop failing (R437). -/
def State.writeGddr (s : State) (a : Nat) (bs : List Byte) : State :=
  let s := s.setGddrBytes a bs
  if s.mem.ue.isEmpty then s
  else { s with mem := { s.mem with ue := s.mem.ue.filter (fun u => ! (decide (a ≤ u * 64) && decide (u * 64 + 64 ≤ a + bs.length))) } }

/-- PATROL_SCRUB: ECC word u is read: clean, corrected, or uncorrectable (R437, R449). A word that failed before fails
again. DEDUCED (log entry 69). DESIGN CHOICE (log entry 70). -/
def execPatrolScrub (word : Nat) (errors : Fin 3) (s : State) : Out :=
  .next (
    if ! s.memReady || s.usableBytes ≤ word * 64 then s
    else if errors.val = 2 || s.mem.ue.contains word then
      let s : State := { s with mem := { s.mem with ue := if s.mem.ue.contains word then s.mem.ue else word :: s.mem.ue } }
      s.memUe word
    else if errors.val = 1 then
      let r := s.memPlace word
      let s := s.bump MEM_CNT.CE_COUNT
      let day : Nat := 86400 * 2 ^ 40
      let kept := (r, s.now) :: s.mem.corr.filter (fun x => decide (s.now.toNat - x.2.toNat < day))
      let s : State := { s with mem := { s.mem with corr := kept } }
      if s.app MEM_SCRUB.CE_THRESH ≤ (kept.filter (fun x => x.1 == r)).length then
        ({ s with mem := { s.mem with corr := kept.filter (fun x => x.1 != r) } } : State).rowDue r
      else s
    else s)

/-- ROW_SPARE_DONE: the copy of a due row completes and the row is redirected; words that were uncorrectable keep failing
(R450). DEDUCED (log entry 69). -/
def execRowSpareDone (ch bank : Fin 16) (row : BitVec 15) (s : State) : Out :=
  .next (
    let r : MemRow := ⟨ch, bank, row.toNat⟩
    if s.memReady && s.mem.due.contains r then
      let used := ((s.mem.spares.find? (fun x => x.1 == r.ch && x.2.1 == r.bank)).map (·.2.2)).getD 0
      let s : State := { s with mem := { s.mem with
        due := s.mem.due.erase r
        spares := (r.ch, r.bank, used + 1) :: s.mem.spares.filter (fun x => ! (x.1 == r.ch && x.2.1 == r.bank)) } }
      let s := (s.bump (MEM_C_STAT.SPARES (ch / 2))).put MEM_STAT.SPARED 1
      s.fltInfo 0x1E 0 0x14 (memLoc ch bank) r.word
    else s)

/-- REFRESH: a per-bank refresh falls due; up to 8 are postponed while C0 requests wait for the bank (R440). -/
def execRefresh (ch bank : Fin 16) (c0 : Bool) (s : State) : Out :=
  .next (
    if s.memReady && ch.val < s.memNc then
      let mine := s.mem.postponed.filter (fun x => x.1 == ch.val)
      if c0 && mine.length < 8 then { s with mem := { s.mem with postponed := s.mem.postponed ++ [(ch.val, bank.val)] } }
      else { s with mem := { s.mem with postponed := s.mem.postponed.filter (fun x => ! (x.1 == ch.val && x.2 == bank.val)) } }
    else s)

/-! ### Training (R442 to R446) -/

/-- A channel inserted in ascending order. -/
def insertAsc (n : Nat) : List Nat → List Nat
  | [] => [n]
  | m :: l => if n = m then m :: l else if n < m then n :: m :: l else m :: insertAsc n l

/-- The next waiting channel starts its retraining. -/
def State.trainNext (s : State) : State :=
  match s.mem.cur, s.mem.queue with
  | none, ch :: l =>
    ({ s with mem := { s.mem with queue := l, cur := some ⟨ch, 0, 0⟩ } } : State).put MEM_STAT.TRAIN_BUSY 1
  | none, [] => s.put MEM_STAT.TRAIN_BUSY 0
  | some _, _ => s

/-- Channel ch is to be retrained (R443). -/
def State.retrain (s : State) (ch : Nat) : State :=
  if s.inRun && s.memState == gREADY && ch < s.memNc then
    ({ s with mem := { s.mem with queue := insertAsc ch s.mem.queue } } : State).trainNext
  else s

/-- RETRAIN_INTERVAL (R443). -/
def execRetrainInterval (ch : Fin 16) (s : State) : Out := .next (s.retrain ch)

/-- TEMP_READ: the temperatures of controller c's device channels (R440, R443). -/
def execTempRead (c : Fin 8) (tA tB : BitVec 8) (s : State) : Out :=
  .next (
    if s.alive && s.domOn (memDomOf c) && c.val < s.memCtrls then
      let s := (s.put (MEM_C_STAT.TEMP_A c) tA.toNat).put (MEM_C_STAT.TEMP_B c) tB.toNat
      [(2 * c.val, tA), (2 * c.val + 1, tB)].foldl (fun (s : State) x =>
        let last := vget s.mem.lastTemp (Fin.ofNat _ x.1)
        if s.app MEM_TRAIN.TEMP_DELTA ≤ ((x.2.toNat : Int) - last).natAbs then s.retrain x.1 else s) s
    else s)

/-- The temperature of channel ch as last read. -/
def State.chTemp (s : State) (ch : Nat) : Nat := if ch % 2 = 0 then s.get (MEM_C_STAT.TEMP_A (ch / 2)) else s.get (MEM_C_STAT.TEMP_B (ch / 2))

/-- Channel ch has been trained. -/
def State.trained (s : State) (ch : Nat) : State :=
  { s with mem := { s.mem with lastTemp := vset s.mem.lastTemp (Fin.ofNat _ ch) (s.chTemp ch) } }

/-- PLL_M is retuned to the new pin rate (R445, R57). -/
def State.memRetune (s : State) : State :=
  let s := (s.put MEM_STAT.STATE gFREQ).put MEM_STAT.FREQ_DEFERRED 0
  let s := (s.put (CLK_PLL_STAT.LOCKED 2) 0).put (CLK_PLL_STAT.SYNCED 2) 0
  let s := s.putApp MEM_FREQ.RATE (s.get MEM_FREQ.RATE)
  let s := (s.put MEM_STAT.TRAIN_BUSY 0).put MEM_USABLE.USABLE 0
  { s with mem := { s.mem with queue := [], cur := none }
           alm := { s.alm with unwatched := 2 :: s.alm.unwatched.filter (· != 2) } }

/-- FREQ_GO has passed: it waits for a training step that gathers data (R445). -/
def State.freqGo (s : State) : State :=
  let s : State := { s with mem := { s.mem with freq := true } }
  match s.mem.cur with
  | some c => if c.fails = 0 then s.put MEM_STAT.FREQ_DEFERRED 1 else s.memRetune
  | none => s.memRetune

/-- The step of the running retraining has applied: the next step, or the next channel (R443). -/
def State.stepApplied (s : State) (c : MemStep) : State :=
  if s.flag MEM_STAT.FREQ_DEFERRED then s.memRetune
  else if c.step < 2 then { s with mem := { s.mem with cur := some ⟨c.ch, c.step + 1, 0⟩ } }
  else
    let s := (s.trained c.ch).bump (MEM_C_CNT.RETRAINS (c.ch / 2))
    ({ s with mem := { s.mem with cur := none } } : State).trainNext

/-- TRAIN_STEP_DONE: a step applies, or keeps the previous setting and is retried (R444). -/
def execTrainStepDone (ok : Bool) (s : State) : Out :=
  .next (
    match s.mem.cur with
    | some c =>
      if ! s.memReady || c.fails != 0 then s
      else if ok then s.stepApplied c
      else
        let s := s.put (MEM_C_STAT.TRAIN_FAIL (c.ch / 2)) 1
        let s : State := { s with mem := { s.mem with cur := some { c with fails := 1 } } }
        if s.flag MEM_STAT.FREQ_DEFERRED then s.memRetune else s
    | none => s)

/-- Training has failed for good on controller c: capacity 0 (R444). -/
def State.memFailed (s : State) (c : Nat) : State :=
  let s := ((s.put MEM_STAT.STATE gFAILED).put MEM_USABLE.USABLE 0).put (MEM_C_STAT.TRAINED c) 0
  let s := s.put MEM_STAT.TRAIN_BUSY 0
  let s : State := { s with mem := { s.mem with queue := [], cur := none, freq := false } }
  s.fltInfo 0x20 c 0x14 (tileLoc (c / 2) (7 + c % 2) 0) 0

/-- The controllers may start to train: their domains are on and PLL_M is locked (R442). -/
def State.memBegin (s : State) : State :=
  if s.memState == gOFF && (List.range s.memCtrls).all (fun c => s.dom (memDomOf c) == 2) && s.flag (CLK_PLL_STAT.LOCKED 2) then
    (s.put MEM_STAT.STATE gTRAINING).putApp MEM_FREQ.RATE (s.get MEM_FREQ.RATE)
  else s

/-- The end of full training (R442, R445). -/
def State.trainingDone (s : State) (ok : Bool) : State :=
  let training := s.memState == gTRAINING || (s.memState == gFREQ && s.flag (CLK_PLL_STAT.LOCKED 2))
  if ! s.alive || ! training then s
  else if ! ok then s.memFailed 0
  else
    let s := (s.put MEM_STAT.STATE gREADY).put MEM_FREQ.RATE_NOW (s.app MEM_FREQ.RATE)
    let s := s.put MEM_USABLE.USABLE s.usableUnits
    let s := (List.range s.memCtrls).foldl (fun (s : State) c => s.put (MEM_C_STAT.TRAINED c) 1) s
    let s := (List.range s.memNc).foldl (fun (s : State) ch => s.trained ch) s
    { s with mem := { s.mem with freq := false } }

/-! ### Row disturbance (R447, R448) -/

/-- ROW_ACTIVATE: an activation by a requester (R447). -/
def execRowActivate (ch bank : Fin 16) (row : BitVec 15) (req : BitVec 6) (s : State) : Out :=
  .next (
    if ! s.memReady || s.memNc ≤ ch.val then s
    else
      let r : MemRow := ⟨ch, bank, row.toNat⟩
      let w := s.now.toNat * 1000 / (32 * 2 ^ 40)
      let acts := if w = s.mem.window then s.mem.acts else []
      let n := ((acts.find? (fun x => x.1 == r)).map (·.2)).getD 0 + 1
      let rest := acts.filter (fun x => x.1 != r)
      if n < s.app MEM_RD_CFG.THRESH then { s with mem := { s.mem with window := w, acts := (r, n) :: rest } }
      else
        let t := (ch.val, bank.val, req.toNat)
        let s : State := { s with mem := { s.mem with window := w, acts := rest, throttle := t :: s.mem.throttle.filter (· != t) } }
        let s := s.setWord MEM_RD_STAT.addr (BitVec.ofNat 32 (req.toNat * 2 ^ 26 + r.word))
        let s := (s.put MEM_STAT.ROW_HOT 1).bump (MEM_C_CNT.ROW_HOTS (ch / 2))
        s.fltInfo 0x1D req.toNat 0x14 (memLoc ch bank) (s.word MEM_RD_STAT.addr).toNat)

/-- THROTTLE_END (R448). -/
def execThrottleEnd (ch bank : Fin 16) (req : BitVec 6) (s : State) : Out :=
  .next { s with mem := { s.mem with throttle := s.mem.throttle.filter (· != (ch.val, bank.val, req.toNat)) } }

/-! ### Commands of MEM_CMD -/

/-- MEM's own rules (R433, R445, R446). FREQ_GO's admission is the operation's own (see execFreqGo). -/
def memPre (s : State) (a : Nat) (w : Word) : Option Err :=
  let st := s.memState
  if a == MEM_CFG.addr && s.inRun then some .locked
  else if a == MEM_CMD.addr && w.toNat % 4 != 3 then
    if w.toNat.testBit 0 && (st == gTRAINING || st == gFREQ || st == gFAILED || s.flag MEM_STAT.FREQ_DEFERRED) then some .busy
    else if w.toNat.testBit 1 && st != gREADY then some .busy
    else none
  else none

/-- The conflicts of FREQ_GO (R445): a capture unit or a GDDR6 stall that works. -/
def State.freqConflict (s : State) : Bool :=
  (List.range 4).any (fun u => let st := s.get (ACQ_U_STAT.STATE u); st == 2 || st == 3 || st == 5)
  || (List.range 32).any (fun k =>
    let st := s.get (DMA_S_STAT.STATE k)
    (s.app (DMA_S_SPACE.DSPACE k) == 1 || s.app (DMA_S_SPACE.SSPACE k) == 1) && (st == 2 || st == 3 || st == 4 || st == 6))

/-- MEM_CMD.TRAIN: every channel once (R443). -/
def State.memTrain (s : State) : State := (List.range s.memNc).foldl (fun (s : State) ch => s.retrain ch) s

/-- MEM takes an apply edge, which in RUN and DEGRADED leaves MEM_CFG as it was (R433). -/
def State.memDomain (s : State) (d : Nat) : State :=
  if (List.range 4).all (fun k => k + dMEM0 == d || s.dom (dMEM0 + k) == 0) then { s with mem := MemSt.reset } else s

end Sys2Proof.Machine
end

