-- ==== Sys2Proof/Machine/Dma.lean ====
section
/-! DEFINITION. The stalls (R374 to R390) and the STORE space they write (R420 to R423). -/

namespace Sys2Proof.Machine

abbrev dOFF : Nat := 0
abbrev dSTOPPED : Nat := 1
abbrev dRUNNING : Nat := 2
abbrev dWAITDESC : Nat := 3
abbrev dWAITBAR : Nat := 4
abbrev dHALTED : Nat := 5
abbrev dSTOPPING : Nat := 6

/-- The address spaces of R374. -/
abbrev spSRAM : Nat := 0
abbrev spGDDR : Nat := 1
abbrev spHOST : Nat := 2
abbrev spSTORE : Nat := 3
abbrev spQUEUE : Nat := 4

/-- DMA_S_STAT.STATE of stall k. -/
def State.dmaState (s : State) (k : Nat) : Nat := s.get (DMA_S_STAT.STATE k)
def State.setDma (s : State) (k st : Nat) : State := s.put (DMA_S_STAT.STATE k) st

/-- The descriptor stall k works on. -/
def State.dmaCur (s : State) (k : Nat) : Option DmaCur := vget s.dma.stall (fin32 k)
def State.setCur (s : State) (k : Nat) (c : Option DmaCur) : State :=
  { s with dma := { s.dma with stall := vset s.dma.stall (fin32 k) c } }

/-- Stall k moves beats: RUNNING or STOPPING with a descriptor. -/
def State.dmaMoving (s : State) (k : Nat) : Bool :=
  (s.dmaState k == dRUNNING || s.dmaState k == dSTOPPING) && (s.dmaCur k).isSome

/-! ### Fields of a descriptor (R377) -/

/-- Bits lo+n-1 : lo of word i. -/
def DmaCur.fld (c : DmaCur) (i lo n : Nat) : Nat := bitsOf (vget c.w (Fin.ofNat _ i)) lo n

def DmaCur.last (c : DmaCur) : Bool := c.fld 0 1 1 == 1
def DmaCur.shuf (c : DmaCur) : Nat := c.fld 0 4 4
def DmaCur.chans (c : DmaCur) : Nat := c.fld 0 8 4 + 1
def DmaCur.pairs (c : DmaCur) : Nat := c.fld 0 20 1 + 1
def DmaCur.len (c : DmaCur) : Nat := c.fld 1 0 32
def DmaCur.rows (c : DmaCur) : Nat := c.fld 2 0 24
def DmaCur.srcStride (c : DmaCur) : Nat := c.fld 3 0 32
def DmaCur.dstStride (c : DmaCur) : Nat := c.fld 4 0 32
def DmaCur.srcSpace (c : DmaCur) : Nat := c.fld 6 28 4
def DmaCur.dstSpace (c : DmaCur) : Nat := c.fld 8 28 4
def DmaCur.src (c : DmaCur) : Nat := c.fld 5 0 32 + c.fld 6 0 28 * 2 ^ 32
def DmaCur.dst (c : DmaCur) : Nat := c.fld 7 0 32 + c.fld 8 0 28 * 2 ^ 32
def DmaCur.bar (c : DmaCur) : Nat := c.fld 10 0 4
def DmaCur.arrive (c : DmaCur) : Bool := c.fld 10 5 1 == 1
def DmaCur.chku (c : DmaCur) : Nat := c.fld 10 8 4
def DmaCur.chkEn (c : DmaCur) : Bool := c.fld 10 12 1 == 1

/-- Bits of a width code. -/
def widthBits (code : Nat) : Nat := match code with | 0 => 8 | 1 => 12 | 2 => 16 | 3 => 24 | 4 => 32 | _ => 64

def DmaCur.sw (c : DmaCur) : Nat := widthBits (c.fld 0 12 3)
def DmaCur.dw (c : DmaCur) : Nat := widthBits (c.fld 0 15 3)

/-- Elements of a source row. -/
def DmaCur.elems (c : DmaCur) : Nat := c.len * 8 / c.sw

/-- Slots of one channel. -/
def DmaCur.chanSlots (c : DmaCur) : Nat := c.elems / c.pairs / c.chans

/-- Destination bytes of one channel's run (deinterleave). -/
def DmaCur.runBytes (c : DmaCur) : Nat := (c.chanSlots * c.pairs * c.dw + 7) / 8

/-- Destination bytes of a row: a split or a merge keeps the number of bits (R381, R383). -/
def DmaCur.rowDst (c : DmaCur) : Nat :=
  if c.shuf = 2 then c.chans * c.runBytes else if c.shuf = 3 ∨ c.shuf = 4 then c.len else c.len * c.dw / c.sw

/-- All destination bytes. -/
def DmaCur.total (c : DmaCur) : Nat := c.rowDst * c.rows

/-! ### From destination bits to source bits (R381 to R383) -/

/-- Where a destination bit comes from: a bit of the source row, a zero, or nothing the manual gives. -/
inductive DmaBit where
  | src (i : Nat) | zero | gap
deriving DecidableEq, Repr

/-- The width stage: bit p of a destination element, as a bit of its source element (R382). -/
def DmaCur.widthBit (c : DmaCur) (p : Nat) : Option Nat :=
  let sw := c.sw
  let dw := c.dw
  let msb := c.fld 0 19 1 == 1
  if dw ≤ sw then some (if msb then p + sw - dw else p)
  else if msb then (if dw - sw ≤ p then some (p - (dw - sw)) else none)
  else if p < sw then some p
  else if c.fld 0 18 1 == 1 then some (sw - 1)
  else none

/-- Bit p of destination element e takes source element `se`. -/
def DmaCur.elemBit (c : DmaCur) (se p : Nat) : DmaBit :=
  match c.widthBit p with | some b => .src (se * c.sw + b) | none => .zero

/-- The source of bit i of a destination row. -/
def DmaCur.bitFrom (c : DmaCur) (i : Nat) : DmaBit :=
  match c.shuf with
  | 1 =>
    let e := i / c.dw
    let slot := e / c.pairs
    c.elemBit ((slot % c.chans * c.chanSlots + slot / c.chans) * c.pairs + e % c.pairs) (i % c.dw)
  | 2 =>
    let ch := i / (8 * c.runBytes)
    let e := i % (8 * c.runBytes) / c.dw
    if c.chanSlots * c.pairs ≤ e then .gap
    else c.elemBit ((e / c.pairs * c.chans + ch) * c.pairs + e % c.pairs) (i % (8 * c.runBytes) % c.dw)
  | 3 =>
    let w := c.sw
    let word := i / 32
    .src ((word / w * 32 + i % 32) * w + (w - 1 - word % w))
  | 4 =>
    let w := c.dw
    let e := i / w
    .src ((e / 32 * w + (w - 1 - i % w)) * 32 + e % 32)
  | _ => c.elemBit (i / c.dw) (i % c.dw)

/-- Bit i of a row of bytes. -/
def rowBit (row : List Byte) (i : Nat) : Bool := ((row[i / 8]?).getD 0).getLsbD (i % 8)

/-- Byte j of the destination row made from the source row; `free` fills what the manual leaves open. -/
def DmaCur.dstByte (c : DmaCur) (row : List Byte) (free : BitVec 64) (j : Nat) : Byte :=
  BitVec.ofNat 8 ((List.range 8).foldl (fun m k =>
    m + match c.bitFrom (8 * j + k) with
      | .src i => if rowBit row i then 2 ^ k else 0
      | .zero => 0
      | .gap => if free.getLsbD (j % 8 * 8 + k) then 2 ^ k else 0) 0)

/-- Source bytes of the row that its first n destination bytes need. -/
def DmaCur.need (c : DmaCur) (n : Nat) : Nat :=
  if c.shuf = 0 then min c.len (((8 * n + c.dw - 1) / c.dw * c.sw + 7) / 8) else c.len

/-- The source address of byte j of a row (R377, R383). -/
def DmaCur.srcAddr (c : DmaCur) (row j : Nat) : Nat :=
  if c.shuf = 1 then c.src + j / (c.len / c.chans) * c.srcStride + j % (c.len / c.chans) else c.src + row * c.srcStride + j

/-- The destination address of byte j of a row. -/
def DmaCur.dstAddr (c : DmaCur) (row j : Nat) : Nat :=
  if c.shuf = 2 then c.dst + j / c.runBytes * c.dstStride + j % c.runBytes else c.dst + row * c.dstStride + j

/-! ### Rules a descriptor must keep (R376, R377, R381, R383, R391, R399, R420) -/

/-- Shuffle rules of R383. -/
def DmaCur.shufOk (c : DmaCur) : Bool :=
  match c.shuf with
  | 0 => true
  | 1 => c.rows == 1 && c.len % c.chans == 0 && c.len / c.chans * 8 % (c.sw * c.pairs) == 0
  | 2 => c.rows == 1 && c.elems % c.pairs == 0 && c.elems / c.pairs % c.chans == 0
  | 3 => c.rows == 1 && c.dw == 32 && c.elems % 32 == 0
  | 4 => c.rows == 1 && c.sw == 32 && c.elems % c.dw == 0
  | _ => false

/-- Reserved bits of W0, W2, W10 and W12, and reserved codes. -/
def DmaCur.reservedOk (c : DmaCur) : Bool :=
  c.fld 0 3 1 == 0 && c.fld 0 21 11 == 0 && c.fld 2 24 8 == 0 && c.fld 10 6 2 == 0 && c.fld 10 15 17 == 0
    && c.fld 12 4 4 == 0 && c.fld 12 16 15 == 0 && decide (c.fld 0 12 3 ≤ 5) && decide (c.fld 0 15 3 ≤ 5)

/-- The rules of a STORE destination (R420). -/
def DmaCur.storeOk (c : DmaCur) : Bool :=
  c.dstSpace != spSTORE || (c.sw == c.dw && c.dst / 2 ^ 48 == 0 && c.dst % 4096 == 0 && c.rowDst % 4096 == 0
    && (c.rows == 1 || c.dstStride % 4096 == 0))

/-- The descriptor breaks a rule of the chapter: it ends with ERR_DESC before any byte moves. -/
def State.dmaBad (s : State) (k : Nat) (c : DmaCur) : Bool :=
  ! (c.reservedOk && c.len != 0 && c.rows != 0 && c.len * 8 % c.sw == 0 && c.len * c.dw % c.sw == 0 && c.shufOk && c.storeOk
    && c.srcSpace == s.app (DMA_S_SPACE.SSPACE k) && c.dstSpace == s.app (DMA_S_SPACE.DSPACE k)
    && c.fld 0 12 3 == s.app (DMA_S_SPACE.SW k) && c.fld 0 15 3 == s.app (DMA_S_SPACE.DW k)
    && (c.srcSpace != spQUEUE || (s.appFlag (DMA_S_CFG.QEN k) && c.src % 256 == s.app (DMA_S_CFG.QUEUE k)))
    && (! c.chkEn || (s.appFlag (CHK_CFG.EN c.chku) && s.app (CHK_CFG.STALL c.chku) == k)))

/-! ### The STORE space (R420, R421) -/

/-- The stripe drives, ascending, and the stripe unit in bytes. -/
def State.storeDrives (s : State) : List Nat := bitsIn 4 (s.app SPT_CFG.DMASK)
def State.storeUnit (s : State) : Nat := 2 ^ s.app SPT_CFG.SU * 4096

/-- Bytes of an LBA of drive d. -/
def State.lbaSize (s : State) (d : Nat) : Nat := if s.flag (SPT_DRV_STAT.LBA4K d) then 4096 else 512

/-- An applied 64-bit pair. -/
def State.appPair (s : State) (a : Nat) : Nat := (s.appWord a).toNat + (s.appWord (a + 4)).toNat * 2 ^ 32

/-- Bytes of the volume. -/
def State.volume (s : State) : Nat :=
  let ds := s.storeDrives
  let each := ds.map (fun d => s.appPair (SPT_DRV_NLB_LO.addr d) * s.lbaSize d)
  let q := ds.length * s.storeUnit
  match each with
  | [] => 0
  | x :: l => ds.length * l.foldl min x / max q 1 * q

/-- The drive that holds volume offset o. -/
def State.storeDrive (s : State) (o : Nat) : Option Nat :=
  let ds := s.storeDrives
  ds[o / s.storeUnit % max ds.length 1]?

/-- Its byte address there. -/
def State.storeByte (s : State) (d o : Nat) : Nat :=
  let u := s.storeUnit
  s.appPair (SPT_DRV_BASE_LO.addr d) * s.lbaSize d + o / u / max s.storeDrives.length 1 * u + o % u

/-- The link of drive d works and the drive is READY. -/
def State.driveReady (s : State) (d : Nat) : Bool := s.domOn dPCIE_S && s.get (SPT_DRV_STAT.STATE d) == 3

/-- What stands against a STORE beat at offset o (R421, R423). -/
def State.storeErr (s : State) (o : Nat) : Option Err :=
  if s.volume ≤ o then some .unmapped
  else match s.storeDrive o with
    | some d => if s.driveReady d then none else some .sequence
    | none => some .unmapped

/-! ### Beats -/

/-- The host link takes beats: up, with Bus Master Enable (R408, R412). -/
def State.hostOk (s : State) : Bool := s.domOn dPCIE_H && s.flag HPT_LINK.UP && s.flag HPT_LINK.BME

/-- The first n bytes of a list of byte strings, and the rest. -/
def takeBytes : Nat → List (List Byte) → List Byte × List (List Byte)
  | _, [] => ([], [])
  | n, b :: l =>
    if b.length ≤ n then
      let r := takeBytes (n - b.length) l
      (b ++ r.1, r.2)
    else (b.take n, b.drop n :: l)

/-- The unread bytes of a producer queue (R374). -/
def State.queueOf (s : State) (q : Nat) : List (List Byte) :=
  if 0x20 ≤ q then (if q < 0x24 then (s.acqUnit (Fin.ofNat _ (q - 0x20))).strm.out else [])
  else match fftIdx q with | some i => (s.fftSrc i).out | none => []

/-- The unread bytes of a producer queue replaced. -/
def State.setQueue (s : State) (q : Nat) (l : List (List Byte)) : State :=
  if 0x20 ≤ q then
    let u : Fin 4 := Fin.ofNat _ (q - 0x20)
    let x := s.acqUnit u
    if q < 0x24 then s.setUnit u { x with strm := { x.strm with out := l } } else s
  else match fftIdx q with | some i => s.modFftSrc i (fun x => { x with out := l }) | none => s

/-- What a read of source bytes comes to. -/
inductive DmaRead where
  | bytes (bs : List Byte) (s : State)
  | refused (e : Err) (s : State)
  | none_

/-- Bytes read from memory at the addresses `as`. -/
def State.dmaReadMem (s : State) (gddr : Bool) : List Nat → DmaRead
  | [] => .bytes [] s
  | a :: l =>
    match (if gddr then s.gddrErr a else s.sramErr a false) with
    | some e => .refused e s
    | none =>
      if gddr && s.mem.ue.contains (a / 64) then .refused .check (s.memUe (a / 64))
      else if ! gddr && s.poisoned a then .refused .check s
      else match State.dmaReadMem s gddr l with
        | .bytes bs s' => .bytes ((if gddr then s.gddrByte a else s.sramByte a) :: bs) s'
        | r => r

/-- n further source bytes of the row, from byte j (R374 to R376). `host` are the bytes the host returns. -/
def State.dmaRead (s : State) (c : DmaCur) (row j n : Nat) (host : List Byte) : DmaRead × List Byte :=
  let addrs := (List.range n).map (fun i => c.srcAddr row (j + i))
  if n = 0 then (.bytes [] s, host)
  else if c.srcSpace = spSRAM then (s.dmaReadMem false addrs, host)
  else if c.srcSpace = spGDDR then (s.dmaReadMem true addrs, host)
  else if c.srcSpace = spHOST then
    if ! s.hostOk then (.refused .sequence s, host)
    else if host.length < n then (.none_, host)
    else (.bytes (host.take n) s, host.drop n)
  else if c.srcSpace = spQUEUE then
    let q := takeBytes n (s.queueOf (c.src % 256))
    if q.1.length < n then (.none_, host) else (.bytes q.1 (s.setQueue (c.src % 256) q.2), host)
  else (.refused .unmapped s, host)

/-- A destination beat written (R375). -/
def State.dmaWrite (s : State) (c : DmaCur) (row j : Nat) (bs : List Byte) : Except Err State :=
  let addrs := (List.range bs.length).map (fun i => c.dstAddr row (j + i))
  if c.dstSpace = spSRAM then
    match addrs.findSome? (fun a => s.sramErr a true) with
    | some e => .error e
    | none =>
      let s := (addrs.zip bs).foldl (fun (s : State) x => s.setSramByte x.1 x.2) s
      .ok (s.unpoison (addrs.headD 0) bs.length)
  else if c.dstSpace = spGDDR then
    match addrs.findSome? (fun a => s.gddrErr a) with
    | some e => .error e
    | none => .ok (s.writeGddr (addrs.headD 0) bs)
  else if c.dstSpace = spHOST then (if s.hostOk then .ok s else .error .sequence)
  else if c.dstSpace = spSTORE then
    match s.storeErr (c.dstAddr row j) with | some e => .error e | none => .ok s
  else .error .unmapped

/-- What a beat comes to: it moved, it was refused (on its read side or not, its length), or the stall waits. -/
inductive DmaBeat where
  | moved (s : State)
  | refused (read : Bool) (len : Nat) (e : Err) (s : State)
  | waits

/-- Bytes folded into the check unit of a descriptor, on its side (R391). -/
def State.dmaFeed (s : State) (c : DmaCur) (dst : Bool) (bs : List Byte) : State :=
  if c.chkEn && (c.fld 10 13 1 == 1) == dst then s.chkFeed c.chku bs else s

/-- One destination beat of stall k: the source bytes it needs are read, the destination bytes are made and written
(R381 to R385). A STORE beat is handed to the port, and acknowledged only where `ack` says so. -/
def State.dmaBeat (s : State) (k : Nat) (c : DmaCur) (ack : Bool) (host : List Byte) : DmaBeat × List Byte :=
  let row := c.pos / c.rowDst
  let j := c.pos % c.rowDst
  let n := min 64 (c.rowDst - j)
  let have_ := c.row.length
  match s.dmaRead c row have_ (c.need (j + n) - have_) host with
  | (.none_, h) => (.waits, h)
  | (.refused e s, h) => (.refused true n e s, h)
  | (.bytes bs s, h) =>
    let s := s.dmaFeed c false bs
    let src := c.row ++ bs
    let out := (List.range n).map (fun i => c.dstByte src s.free (j + i))
    match s.dmaWrite c row j out with
    | .error e => (.refused false n e s, h)
    | .ok s =>
      let s := s.dmaFeed c true out
      let c := { c with pos := c.pos + n, acked := if ack then c.acked + n else c.acked
                        row := if j + n = c.rowDst then [] else src }
      (.moved (s.setCur k (some c)), h)

/-! ### Ends (R385 to R387, R390, R394) -/

/-- Destination bytes acknowledged since power-up. -/
def State.dmaCount (s : State) (k n : Nat) : State :=
  s.putPair (DMA_S_BYTES_LO.addr k) (s.getPair (DMA_S_BYTES_LO.addr k) + n)

/-- W12 to W15 of a descriptor written back; `done` also clears VALID (R377, R386, R387). -/
def State.dmaWriteBack (s : State) (c : DmaCur) (done : Bool) (status detail : Nat) : State :=
  let t := s.now.toNat
  let s := if done then s.setSramLE c.addr 4 ((vget c.w 0).toNat / 2 * 2) else s
  let s := s.setSramLE (c.addr + 48) 4 (b2n done * 2 ^ 31 + detail % 256 * 256 + status)
  let s := s.setSramLE (c.addr + 52) 4 (c.acked % 2 ^ 32)
  let s := s.setSramLE (c.addr + 56) 8 (t % 2 ^ 40 + t / 2 ^ 40 % 2 ^ 24 * 2 ^ 40)
  s.unpoison c.addr 64

/-- The location code of the stalls (R37). -/
def dmaLocation : Nat := tileLoc 2 10 0

/-- The descriptor c of stall k ends with a status other than OK; the stall halts, or stops (R387, R388). Descriptors
that wait on its barrier end with ERR_BAR in turn. -/
def State.dmaFail (s : State) (k : Nat) (c : DmaCur) (status detail : Nat) (stop : Bool) : Nat → State
  | 0 => s
  | fuel + 1 =>
    let s := (s.dmaWriteBack c false status detail).dmaCount k c.acked
    let s := (s.setCur k none).setDma k (if stop then dSTOPPED else dHALTED)
    let s := { s with spt := { s.spt with out := s.spt.out.filter (fun x => x.stall != k) } }
    let s := (s.put (DMA_S_HEAD.HEAD k) (c.addr / 64)).put (DMA_S_STAT.LAST_STATUS k) status
    let s := (s.put (DMA_S_STAT.DETAIL k) detail).riseIrq (DMA_S_STAT.ERR k) (32 + k)
    let s := s.fltInfo 0x18 k 0x12 dmaLocation (detail % 256 * 256 + status)
    let s := if c.chkEn && s.appFlag (CHK_CFG.EN c.chku) && s.app (CHK_CFG.STALL c.chku) == k then s.chkPublish c.chku false else s
    if c.arrive then
      let s := s.put (DMA_BAR_STAT.ERR c.bar) 1
      (List.range 32).foldl (fun (s : State) q =>
        match s.dmaCur q with
        | some d =>
          if s.dmaState q == dWAITBAR && d.bar == c.bar then State.dmaFail s q d 5 0 false fuel else s
        | none => s) s
    else s

/-- The descriptor of stall k ends as a refusal. -/
def State.dmaEnd (s : State) (k status detail : Nat) (stop : Bool) : State :=
  match s.dmaCur k with
  | some c => s.dmaFail k c status detail stop 33
  | none => s

/-- The status of a refused beat (R385). -/
def beatStatus (read : Bool) (c : DmaCur) (len : Nat) : Nat :=
  if read then 1 else if c.total ≤ c.pos + len then 3 else 2

/-- Barrier b reaches DONE or ERR: the stalls that wait on it start, or end with ERR_BAR (R390). -/
def State.barRelease (s : State) (b : Nat) : State :=
  let s := s.putB (DMA_BAR_STAT.DONE b) (decide (s.get (DMA_BAR_CTRL.TARGET b) ≤ s.get (DMA_BAR_STAT.COUNT b)))
  (List.range 32).foldl (fun (s : State) k =>
    match s.dmaCur k with
    | some c =>
      if s.dmaState k == dWAITBAR && c.bar == b then
        if s.flag (DMA_BAR_STAT.ERR b) then s.dmaEnd k 5 0 false
        else if s.flag (DMA_BAR_STAT.DONE b) then s.setDma k dRUNNING
        else s
      else s
    | none => s) s

/-- An address lies in the chain region of stall k, at a 64-byte boundary (R377, R380). -/
def State.inChain (s : State) (k a : Nat) : Bool :=
  let base := 0x06F00000 + s.app (DMA_S_CHAIN.CHAIN_BASE k) * 64
  a % 64 == 0 && decide (base ≤ a) && decide (a < base + s.app (DMA_S_CLEN.CLEN k) * 64)

/-- A domain that carries an access of stall k is draining: the domains its descriptor reaches, or, between descriptors,
those its declared spaces name (R389, R586). -/
def State.stallTouches (s : State) (k d : Nat) : Bool :=
  let space (sp : Nat) : Bool := match sp with
    | 1 => decide (dMEM0 ≤ d) && decide (d < dMEM0 + 4) && decide (memDomOf 0 ≤ d) && decide (d ≤ memDomOf (s.memCtrls - 1))
    | 2 => d == dPCIE_H
    | 3 => d == dPCIE_S
    | 4 => (decide (0x20 ≤ s.app (DMA_S_CFG.QUEUE k)) && d == dACQ)
           || (decide (s.app (DMA_S_CFG.QUEUE k) < 0x20) && (d == dFFT_A || d == dFFT_B || d == dFFT_S))
    | _ => false
  let core (a : Nat) : Bool := match coreOfSram a with | some n => coreDomain n == d | none => false
  d == dACQ || match s.dmaCur k with
    | some c => space c.srcSpace || space c.dstSpace || (c.srcSpace == spSRAM && (core c.src || core (c.src + c.len - 1)))
        || (c.dstSpace == spSRAM && (core c.dst || core (c.dst + c.rowDst - 1)))
    | none => space (s.app (DMA_S_SPACE.SSPACE k)) || space (s.app (DMA_S_SPACE.DSPACE k))

/-- The draining domain that holds stall k after its descriptor. -/
def State.stallDrain (s : State) (k : Nat) : Option Nat := (List.range 24).find? (fun d => s.dom d == 3 && s.stallTouches k d)

/-- The descriptor c of stall k has every beat acknowledged (R386): write-back, barrier, check unit, interrupt, next. -/
def State.dmaDone (s : State) (k : Nat) (c : DmaCur) : State :=
  let drain := s.stallDrain k
  let s := (s.dmaWriteBack c true 0 0).dmaCount k c.acked
  let s := s.arbServe (sramPath c.addr) (16 + k) []
  let s := (s.bumpWrap (DMA_S_DONE.DONE k)).put (DMA_S_STAT.LAST_STATUS k) 0
  let s := s.setCur k none
  let s := if c.chkEn && c.fld 10 14 1 == 1 then s.chkPublish c.chku true else s
  let s := if c.fld 0 2 1 == 1 then s.riseIrq (DMA_S_STAT.DESC_DONE k) k else s
  let next := c.fld 9 0 32
  let s := if c.last then s else s.put (DMA_S_HEAD.HEAD k) (next / 64)
  let s :=
    if s.dmaState k == dSTOPPING then s.setDma k dSTOPPED
    else if c.last then s.setDma k dSTOPPED
    else if ! s.inChain k next then (s.put (DMA_S_STAT.LAST_STATUS k) 4).setDma k dHALTED
    else match drain with
      | some d => { s.setDma k dSTOPPED with pwr := { s.pwr with held := s.pwr.held ++ [(k, d)] } }
      | none => s.setDma k dRUNNING
  if c.arrive then (s.bump (DMA_BAR_STAT.COUNT c.bar)).barRelease c.bar else s

/-! ### Runs -/

/-- Beats of stall k, at most `n`: they move until one is refused or the source has no more. -/
def State.dmaBeats (s : State) (k : Nat) (ack : Bool) : Nat → List Byte → State
  | 0, _ => s
  | n + 1, host =>
    match s.dmaCur k with
    | none => s
    | some c =>
      if c.total ≤ c.pos then s
      else match s.dmaBeat k c ack host with
        | (.moved s', h) => State.dmaBeats s' k ack n h
        | (.refused read len e s', _) => s'.dmaEnd k (beatStatus read c len) e.code false
        | (.waits, _) => s

/-- Beats of a descriptor. -/
def DmaCur.beats (c : DmaCur) : Nat := (c.rowDst + 63) / 64 * c.rows

/-- Source bytes that wait in the queue of a descriptor. -/
def State.queueBytes (s : State) (c : DmaCur) : Nat := ((s.queueOf (c.src % 256)).map List.length).sum

/-- The next Write of a STORE descriptor: a contiguous run on one drive of up to a stripe unit, the drive's MDTS and
1 MiB (R422). MDTS counts units of 4 KiB as a power of two; 0 is no limit. -/
def State.storeRun (s : State) (c : DmaCur) : Nat × Nat :=
  let o := c.dstAddr (c.pos / c.rowDst) (c.pos % c.rowDst)
  let d := (s.storeDrive o).getD 0
  let m := s.get (SPT_DRV_STAT.MDTS d)
  let lim := if m = 0 then 2 ^ 20 else min (2 ^ 20) (4096 * 2 ^ m)
  (d, min (min (s.storeUnit - o % s.storeUnit) lim) (c.rowDst - c.pos % c.rowDst))

/-- Bytes in the port's data buffer. -/
def State.storeHeld (s : State) : Nat := (s.spt.out.map (·.len)).sum

/-- The port issues the Writes that stall k has the bytes and the buffer the room for (R422). A refused beat stops it
(R421, R423). -/
def State.storePump (s : State) (k : Nat) : Nat → State
  | 0 => s
  | fuel + 1 =>
    match s.dmaCur k with
    | none => s
    | some c =>
      if ! s.dmaMoving k || c.dstSpace != spSTORE || c.srcSpace == spHOST || c.refused.isSome || c.total ≤ c.pos then s
      else
        let o := c.dstAddr (c.pos / c.rowDst) (c.pos % c.rowDst)
        match s.storeErr o with
        | some e =>
          let c' := { c with refused := some (c.pos, e.code) }
          if s.spt.out.any (fun x => x.stall == k) then s.setCur k (some c')
          else s.dmaEnd k (beatStatus false c (min 64 (c.rowDst - c.pos % c.rowDst))) e.code false
        | none =>
          let r := s.storeRun c
          if s.app SPT_BUF.SIZE * 262144 < s.storeHeld + r.2 then s
          else if (vget s.spt.depth (Fin.ofNat 4 r.1)) ≤ (s.spt.out.filter (·.drive == r.1)).length then s
          else if c.srcSpace == spQUEUE && s.queueBytes c + c.row.length < c.need (c.pos % c.rowDst + r.2) then s
          else
            let s' := s.dmaBeats k false ((r.2 + 63) / 64) []
            if (s'.dmaCur k).isSome then
              let cmd : NvmeCmd := { drive := r.1, stall := k, ofs := c.pos, len := r.2 }
              State.storePump { s' with spt := { s'.spt with out := s'.spt.out ++ [cmd] } } k fuel
            else s'

/-- Every stall that writes the STORE space issues what it can. -/
def State.storePumpAll (s : State) : State := (List.range 32).foldl (fun (s : State) k => s.storePump k 64) s

/-- DESCRIPTOR_COMPLETE: the rest of the beats of stall k move, and the descriptor is written back (R386). `host` are the
bytes the host returns for the rest of a HOST source. A beat the engine refuses ends the descriptor; a source that has not
delivered, or a Write without its completion, leaves it waiting. DEDUCED (log entry 57). DEDUCED (log entry 58).
DEDUCED (log entry 59). DESIGN CHOICE (log entry 64). -/
def execDescriptorComplete (k : Fin 32) (host : List Byte) (s : State) : Out :=
  .next (
    if ! (s.live dACQ && s.dmaMoving k) then s
    else match s.dmaCur k with
      | none => s
      | some c =>
        let store := c.dstSpace == spSTORE && c.srcSpace != spHOST
        let s' := if store then s.storePump k (c.beats + 1) else s.dmaBeats k true c.beats host
        match s'.dmaCur k with
        | none => s'
        | some c' =>
          if c'.pos < c'.total || s'.spt.out.any (fun x => x.stall == k.val) then (if store then s' else s)
          else s'.dmaDone k c')

/-- BEAT_REFUSED: `beats` further beats are acknowledged, then one is refused, on its read side or not (R387).
DEDUCED (log entry 57). DEDUCED (log entry 62). -/
def execBeatRefused (k : Fin 32) (read : Bool) (beats : Nat) (detail : BitVec 8) (host : List Byte) (s : State) : Out :=
  .next (
    if ! (s.live dACQ && s.dmaMoving k) then s
    else
      let s := s.dmaBeats k true beats host
      match s.dmaCur k with
      | some c =>
        if c.pos < c.total then
          s.dmaEnd k (beatStatus read c (min 64 (c.rowDst - c.pos % c.rowDst))) detail.toNat false
        else s
      | none => s)

/-! ### Fetching and commands (R379, R388) -/

/-- The 16 words at a descriptor's address. -/
def State.dmaWords (s : State) (a : Nat) : Vector Word 16 := Vector.ofFn (fun i => BitVec.ofNat 32 (s.sramLE (a + 4 * i.val) 4))

/-- DESCRIPTOR_FETCH: a fetch of stall k completes (R378 to R380, R390). DEDUCED (log entry 59). DEDUCED (log entry 60). -/
def execDescriptorFetch (k : Fin 32) (s : State) : Out :=
  .next (
    if ! (s.live dACQ && s.dmaState k == dRUNNING && (s.dmaCur k).isNone) then s
    else
      let a := s.get (DMA_S_HEAD.HEAD k) * 64
      if ! s.inChain k a then (s.put (DMA_S_STAT.LAST_STATUS k) 4).setDma k dHALTED
      else
        let c : DmaCur := { addr := a, w := s.dmaWords a, pos := 0, acked := 0, row := [], refused := none }
        if (List.range 8).any (fun i => s.poisoned (a + 8 * i)) then (s.setCur k (some c)).dmaEnd k 1 Err.check.code false
        else if c.fld 0 0 1 == 0 then
          if s.flag (DMA_S_STAT.KICK_PEND k) then s.put (DMA_S_STAT.KICK_PEND k) 0 else s.setDma k dWAITDESC
        else
          let s := s.setCur k (some c)
          match s.stallDrain k with
          | some d => { (s.setCur k none).setDma k dSTOPPED with pwr := { s.pwr with held := s.pwr.held ++ [(k.val, d)] } }
          | none =>
          if s.dmaBad k c then s.dmaEnd k 4 0 false
          else if c.fld 10 4 1 == 1 then
            if s.flag (DMA_BAR_STAT.ERR c.bar) then s.dmaEnd k 5 0 false
            else if s.flag (DMA_BAR_STAT.DONE c.bar) then s else s.setDma k dWAITBAR
          else s)

/-- The stall whose register block holds an address. -/
def stallOf (a : Nat) : Nat := (a - 0x120000) / 0x40

/-- DMA_S_CMD (R379, R388). -/
def State.dmaCmd (s : State) (k : Nat) (w : Word) : Except Err State :=
  let st := s.dmaState k
  let start := w.toNat.testBit 0
  let stop := w.toNat.testBit 1
  let abort := w.toNat.testBit 2
  let kick := w.toNat.testBit 3
  if 1 < b2n start + b2n stop + b2n abort then .error .conflict
  else if ! (start || stop || abort || kick) then .ok s
  else if st == dOFF then .error .sequence
  else if (stop || abort || kick) && (st == dSTOPPED || st == dHALTED) then .error .sequence
  else
    let s := if kick then (if st == dWAITDESC then s.setDma k dRUNNING else s.put (DMA_S_STAT.KICK_PEND k) 1) else s
    if start then .ok ((s.setCur k none).setDma k dRUNNING)
    else if (stop || abort) && (st == dWAITDESC || st == dWAITBAR) then .ok ((s.setCur k none).setDma k dSTOPPED)
    else if stop then .ok (if (s.dmaCur k).isSome then s.setDma k dSTOPPING else s.setDma k dSTOPPED)
    else if abort then .ok (if (s.dmaCur k).isSome then s.dmaEnd k 6 0 true else s.setDma k dSTOPPED)
    else .ok s

/-- DMA's own rules (R388, R390). -/
def dmaRules : WriteRules :=
  { pre := fun s _ a w =>
      let k := stallOf a
      let st := s.dmaState k
      if a < 0x120800 then
        if a == DMA_S_CMD.addr k && w.toNat % 8 == 1 && (st == dRUNNING || st == dWAITDESC || st == dWAITBAR || st == dSTOPPING)
        then some .busy
        else if a == DMA_S_HEAD.addr k && st != dSTOPPED && st != dHALTED then some .busy
        else none
      else none
    act := fun _ a w s =>
      let k := stallOf a
      if a < 0x120800 then
        if a == DMA_S_CMD.addr k then s.dmaCmd k w
        else if a == DMA_S_HEAD.addr k then
          if s.inChain k (s.get (DMA_S_HEAD.HEAD k) * 64) then .ok s else .error .range
        else .ok s
      else
        match (List.range 16).find? (fun b => DMA_BAR_CTRL.addr b == a) with
        | some b =>
          let s := if w.toNat.testBit 31 then (s.put (DMA_BAR_STAT.COUNT b) 0).put (DMA_BAR_STAT.ERR b) 0 else s
          .ok (s.barRelease b)
        | none => .ok s }

/-- DMA_START (R388). -/
def execDmaStart (k : Fin 32) (src : Source) (v : Word) (s : State) : Out :=
  .next (s.writeReg dmaRules src (DMA_S_CMD.addr k) (v ||| 1))

/-- DMA_STOP (R388). DEDUCED (log entry 61). -/
def execDmaStop (k : Fin 32) (src : Source) (v : Word) (s : State) : Out :=
  .next (s.writeReg dmaRules src (DMA_S_CMD.addr k) (v ||| 2))

/-- DMA_ABORT (R388): `beats` further beats are acknowledged before the write arrives; the descriptor ends at the next.
DEDUCED (log entry 57). DEDUCED (log entry 61). -/
def execDmaAbort (k : Fin 32) (beats : Nat) (host : List Byte) (src : Source) (v : Word) (s : State) : Out :=
  let s := if s.live dACQ && s.dmaMoving k then s.dmaBeats k true beats host else s
  .next (s.writeReg dmaRules src (DMA_S_CMD.addr k) (v ||| 4))

/-- KICK (R379). DEDUCED (log entry 61). -/
def execKick (k : Fin 32) (src : Source) (v : Word) (s : State) : Out :=
  .next (s.writeReg dmaRules src (DMA_S_CMD.addr k) (v ||| 8))

/-- DMA_HEAD_WRITE (R388). -/
def execDmaHeadWrite (k : Fin 32) (src : Source) (v : Word) (s : State) : Out :=
  .next (s.writeReg dmaRules src (DMA_S_HEAD.addr k) v)

/-- BARRIER_ARM (R390). -/
def execBarrierArm (b : Fin 16) (src : Source) (v : Word) (s : State) : Out :=
  .next (s.writeReg dmaRules src (DMA_BAR_CTRL.addr b) (v ||| BitVec.ofNat 32 (2 ^ 31)))

/-- DMA takes an apply edge: EN brings a stall to STOPPED, or to OFF after it has ended its descriptor. -/
def State.dmaApply (s : State) : State :=
  (List.range 32).foldl (fun (s : State) k =>
    if s.appFlag (DMA_S_CFG.EN k) then (if s.dmaState k == dOFF then s.setDma k dSTOPPED else s)
    else if s.dmaState k == dOFF then s
    else
      let s := if s.dmaMoving k then s.dmaEnd k 6 0 true else s
      (s.setCur k none).setDma k dOFF) s

/-- The beats of several stalls before they end: stall, beats, bytes of the host. -/
abbrev Progress := List (Fin 32 × Nat × List Byte)

/-- Stall k moves the beats that `p` gives it. -/
def State.dmaProgress (s : State) (p : Progress) (k : Nat) : State :=
  match p.find? (fun x => x.1.val == k) with
  | some x => if s.dmaMoving k then s.dmaBeats k true x.2.1 x.2.2 else s
  | none => s

/-- A forced power-down of domain d ends the descriptors that reach it with ERR_DOMAIN (R389, R587): how many, and the
state after. -/
def State.dmaForced (s : State) (d : Nat) (p : Progress) : Nat × State :=
  (List.range 32).foldl (fun (x : Nat × State) k =>
    let s := if x.2.stallTouches k d then x.2.dmaProgress p k else x.2
    if s.dmaMoving k && s.stallTouches k d then (x.1 + 1, s.dmaEnd k 7 0 false) else (x.1, s)) (0, s)

end Sys2Proof.Machine
end

