-- ==== Sys2Proof/Machine/Ports.lean ====
section
/-! DEFINITION. The host port (R402 to R416) and the storage port (R417 to R426). -/

namespace Sys2Proof.Machine

/-! ### Registers of a block at reset -/

/-- Both copies of register a take its reset value. -/
def State.resetReg (s : State) (a : Nat) : State :=
  { s with regs := SMap.erase s.regs a, applied := SMap.erase s.applied a, latch := SMap.erase s.latch a }

/-- Both copies of every register of block w that satisfies p take their reset values (R584). -/
def State.resetBlock (s : State) (w : Nat) (p : Nat → Bool) : State :=
  (addrsOfBlock w).foldl (fun (s : State) a => if p a then s.resetReg a else s) s

/-! ### Host link -/

/-- The registers of HPT that outlast a reset of the port: the vendor ID and the size of BAR4. -/
def State.hptReset (s : State) : State :=
  let v := s.get HPT_LINK.VENDOR
  let z := s.get HPT_BAR4.SIZE
  let s := s.resetBlock 0x15 (fun _ => true)
  let s := (s.put HPT_LINK.VENDOR v).put HPT_BAR4.SIZE z
  { s with hpt := { s.hpt with msixEn := false, funcMask := false, sent := Vector.replicate 32 none } }

/-- The beats of stall k that use the host link end its descriptor with ERR_SEQUENCE (R408, R409). -/
def State.hostFail (s : State) (p : Progress) (abort : Bool) : State :=
  p.foldl (fun (s : State) x =>
    let k := x.1.val
    match s.dmaCur k with
    | some c0 =>
      if s.dmaMoving k && (c0.srcSpace == spHOST || c0.dstSpace == spHOST) then
        let s := s.dmaProgress p k
        match s.dmaCur k with
        | some c =>
          if c.pos < c.total then
            let st := if abort then 6 else beatStatus (c.srcSpace == spHOST) c (min 64 (c.rowDst - c.pos % c.rowDst))
            s.dmaEnd k st Err.sequence.code abort
          else s
        | none => s
      else s
    | none => s) s

/-- The location code of the host port (R37). -/
def hptLocation : Nat := tileLoc 0 12 0

/-- The host link goes down (R408): the host port and its configuration space are reset; beats in flight (`p`) end their
descriptors. -/
def State.hostDown (s : State) (p : Progress) : State :=
  let s := s.hostFail p false
  let detail := (s.word HPT_LINK.addr).toNat
  s.hptReset.fltInfo 0x19 0 0x15 hptLocation detail

/-- The host link comes up, or the host writes its configuration space anew (R402, R545). -/
def State.hostUp (s : State) (width speed : Nat) (bme msixEn funcMask : Bool) : State :=
  let s := ((s.put HPT_LINK.UP 1).put HPT_LINK.WIDTH width).put HPT_LINK.SPEED speed
  let s := s.putB HPT_LINK.BME bme
  { s with hpt := { s.hpt with msixEn := msixEn, funcMask := funcMask } }

/-- FUNCTION_LEVEL_RESET: `p` names the stalls with a beat in flight to the host (R409). DEDUCED (log entry 65). -/
def execFunctionLevelReset (p : List (Fin 32 × Nat × List Byte)) (s : State) : Out :=
  .next (
    if ! (s.dev != powerOff && s.domOn dPCIE_H && s.flag HPT_LINK.UP) then s
    else
      let s := if s.live dACQ then s.hostFail p true else s
      let s := s.put HPT_LINK.BME 0
      let s := s.resetBlock 0x15 (fun a => (decide (0x150110 ≤ a) && decide (a < 0x150120))
        || (decide (0x151000 ≤ a) && decide (a < 0x151200)))
      { s with hpt := { s.hpt with msixEn := false, funcMask := false } })

/-- HOST_COMPLETION_TIMEOUT: after `beats` more, a HOST read beat of stall k has no completion within HPT_CTO (R412). -/
def execHostCompletionTimeout (k : Fin 32) (beats : Nat) (host : List Byte) (s : State) : Out :=
  .next (
    match s.dmaCur k with
    | some c0 =>
      if s.live dACQ && s.dmaMoving k && c0.srcSpace == spHOST then
        let s := s.dmaBeats k true beats host
        match s.dmaCur k with
        | some c => if c.pos < c.total then s.dmaEnd k 1 Err.timeout.code false else s
        | none => s
      else s
    | none => s)

/-- MSIX_MESSAGE: vector v is pending, unmasked, and HOLD has passed (R416). -/
def execMsixMessage (v : Fin 32) (s : State) : Out :=
  .next (
    let held : Bool := match vget s.hpt.sent v with
      | some t => decide (s.now.toNat < t.toNat + nsToStamp (s.get (HPT_VEC.HOLD v) * 1000))
      | none => false
    if s.dev != powerOff && s.domOn dPCIE_H && s.flag HPT_LINK.UP && s.hpt.msixEn && ! s.hpt.funcMask
        && s.flag (HPT_VEC.PEND v) && ! s.flag (HPT_MSIX_CTRL.MASK v) && ! held then
      { s.put (HPT_VEC.PEND v) 0 with hpt := { s.hpt with sent := vset s.hpt.sent v (some s.now) } }
    else s)

/-! ### BAR2 and BAR4 (R40, R403 to R406, R579) -/

/-- A BAR2 or BAR4 access is rejected: HPT records the code and the BAR offset (R404, R532, R533). -/
def State.rejectBar (s : State) (sp : Space) (read : Bool) (ofs n : Nat) (e : Err) : State :=
  let s := (s.blockErr 0x15 e.code sp ofs).logErr (errW0 (ofs / 2 ^ 32) read .host sp 0x15 e.code) (BitVec.ofNat 32 ofs)
  { s with resp := some ⟨0, if read then List.replicate n 0 else [], e.code⟩ }

/-- The bytes an access enables: offset and value. -/
def enabled (bytes : List (Option Byte)) : List (Nat × Byte) :=
  (bytes.zipIdx).filterMap (fun x => x.1.map (fun b => (x.2, b)))

/-- The host link carries an access. -/
def State.hostLink (s : State) : Bool := s.dev != powerOff && s.domOn dPCIE_H && s.flag HPT_LINK.UP

/-- What stands against a BAR2 access of SRAM address a (R40, R579). -/
def State.bar2Err (s : State) (a : Nat) (write : Bool) : Option Err :=
  if s.dev == halt then
    if ! write && decide (0x06D00000 ≤ a) && decide (a < 0x06F00000) then none else some .locked
  else s.sramErr a write

/-- BAR2_ACCESS: a read of as many bytes as `bytes` lists, or a write of those it enables; `rivals` are the requests
presented on the same port in that cycle (R40, R397, R404, R406). DEDUCED (log entry 66). -/
def execBar2Access (addr : Nat) (write : Bool) (bytes : List (Option Byte)) (rivals : List (Fin 64 × Nat)) (s : State) : Out :=
  .next (
    if ! s.hostLink then { s with resp := none }
    else
      let es := enabled bytes
      let at_ := if write then es.map (fun x => addr + x.1) else (List.range bytes.length).map (addr + ·)
      match at_.findSome? (fun a => s.bar2Err a write) with
      | some e => s.rejectBar .bar2 (! write) addr bytes.length e
      | none =>
        let s := s.arbServe (sramPath addr) 10 rivals
        if write then
          let s := es.foldl (fun (s : State) x => s.setSramByte (addr + x.1) x.2) s
          { (if es.length = bytes.length then s.unpoison addr bytes.length else s) with resp := some ⟨0, [], 0⟩ }
        else if at_.any s.poisoned then s.rejectBar .bar2 true addr bytes.length .check
        else { s with resp := some ⟨0, at_.map s.sramByte, 0⟩ })

/-- What stands against a BAR4 access of GDDR6 byte a (R404). -/
def State.bar4Err (s : State) (a : Nat) : Option Err := if s.dev == halt then some .locked else s.gddrErr a

/-- BAR4_ACCESS: GDDR6 byte OFS × 256 MiB + addr (R403, R404, R437). DEDUCED (log entry 66). -/
def execBar4Access (addr : Nat) (write : Bool) (bytes : List (Option Byte)) (rivals : List (Fin 64 × Nat)) (s : State) : Out :=
  .next (
    if ! s.hostLink then { s with resp := none }
    else
      let base := s.get HPT_BAR4.OFS * 2 ^ 28 + addr
      let es := enabled bytes
      let at_ := if write then es.map (fun x => base + x.1) else (List.range bytes.length).map (base + ·)
      match at_.findSome? s.bar4Err with
      | some e => s.rejectBar .bar4 (! write) addr bytes.length e
      | none =>
        let s := s.arbServe (gddrPath ((s.memPlace (base / 64)).ch / 2)) 10 rivals
        if write then
          let s := if es.length = bytes.length then s.writeGddr base (es.map (·.2))
            else es.foldl (fun (s : State) x => s.setGddrByte (base + x.1) x.2) s
          { s with resp := some ⟨0, [], 0⟩ }
        else match at_.find? (fun a => s.mem.ue.contains (a / 64)) with
          | some a => (s.memUe (a / 64)).rejectBar .bar4 true addr bytes.length .check
          | none => { s with resp := some ⟨0, at_.map s.gddrByte, 0⟩ })

/-! ### Drives (R417 to R424) -/

abbrev vABSENT : Nat := 0
abbrev vLINK : Nat := 1
abbrev vINIT : Nat := 2
abbrev vREADY : Nat := 3
abbrev vFAILED : Nat := 4
abbrev vUNSUPPORTED : Nat := 5

/-- Drive d takes a state; a change sets source 95 (R414, R419). -/
def State.setDrive (s : State) (d st : Nat) : State :=
  if s.get (SPT_DRV_STAT.STATE d) == st then s
  else
    let s := s.put (SPT_DRV_STAT.STATE d) st
    (s.put SPT_STAT.READY (setBit (s.get SPT_STAT.READY) d (st == vREADY))).raiseIrq 95

/-- Drives that the links of BIF carry (R417). -/
def bifDrives (code : Nat) : Nat := match code with | 0 => 1 | 1 => 2 | _ => 4

/-- DRIVE_LINK_UP: the link of drive d comes up; with EN = 1 the drive is brought up (R419). DEDUCED (log entry 67).
DEDUCED (log entry 96). -/
def execDriveLinkUp (d : Fin 4) (width : BitVec 6) (speed : BitVec 3) (s : State) : Out :=
  .next (
    if s.alive && s.dom dPCIE_S == 2 && d.val < bifDrives (s.app SPT_CFG.BIF) then
      let s := (s.put (SPT_DRV_STAT.WIDTH d) width.toNat).put (SPT_DRV_STAT.SPEED d) speed.toNat
      let s : State := { s with pins := { s.pins with spPerstN := BitVec.ofNat 4 (setBit s.pins.spPerstN.toNat d true) } }
      s.setDrive d (if s.appFlag (SPT_DRV_CTRL.EN d) then vINIT else vLINK)
    else s)

/-- The end of a bring-up of drive d (R419): a step failed, or the drive identified itself with its LBA size, metadata,
namespace size, MDTS and CAP.MQES. -/
def State.driveUp (s : State) (d : Fin 4) (ok : Bool) (lba : Nat) (metadata : Bool) (nsze : Nat) (mdts : BitVec 8)
    (mqes : BitVec 16) : State :=
  if ! (s.alive && s.dom dPCIE_S == 2 && s.get (SPT_DRV_STAT.STATE d) == vINIT) then s
  else if ! ok then s.setDrive d vFAILED
  else
    let s := (s.put (SPT_DRV_STAT.MDTS d) mdts.toNat).putB (SPT_DRV_STAT.LBA4K d) (lba == 4096)
    let fits := decide (s.appPair (SPT_DRV_BASE_LO.addr d) + s.appPair (SPT_DRV_NLB_LO.addr d) ≤ nsze)
    if (lba == 512 || lba == 4096) && ! metadata && fits then
      ({ s with spt := { s.spt with
        depth := vset s.spt.depth d (min (s.app (SPT_DRV_CTRL.QD d)) (mqes.toNat + 1)) } } : State).setDrive d vREADY
    else s.setDrive d vUNSUPPORTED

/-- The beats of a Write are refused: the earliest refused offset of its stall, and its DETAIL (R423). -/
def State.storeRefuse (s : State) (x : NvmeCmd) (e : Err) : State :=
  match s.dmaCur x.stall with
  | some c =>
    let r := match c.refused with
      | some (o, dt) => if o ≤ x.ofs then (o, dt) else (x.ofs, e.code)
      | none => (x.ofs, e.code)
    s.setCur x.stall (some { c with refused := some r })
  | none => s

/-- Stall k ends its descriptor once no Write of an earlier beat than the refused one is outstanding (R385). -/
def State.storeSettle (s : State) (k : Nat) : State :=
  match s.dmaCur k with
  | some c =>
    match c.refused with
    | some (o, dt) =>
      if s.spt.out.any (fun x => x.stall == k && decide (x.ofs < o)) then s
      else s.dmaEnd k (beatStatus false { c with pos := o } 64) dt false
    | none => s
  | none => s

/-- Every stall settled. -/
def State.storeSettleAll (s : State) : State := (List.range 32).foldl (fun (s : State) k => s.storeSettle k) s

/-- The n-th outstanding Write of drive d. -/
def State.driveCmd (s : State) (d n : Nat) : Option NvmeCmd := (s.spt.out.filter (·.drive == d))[n]?

/-- An outstanding Write leaves. -/
def State.dropCmd (s : State) (x : NvmeCmd) : State := { s with spt := { s.spt with out := s.spt.out.erase x } }

/-- WRITE_COMPLETE: the n-th outstanding Write of drive d completes with a status (R423). DEDUCED (log entry 63). -/
def execWriteComplete (d : Fin 4) (n : Nat) (sct : BitVec 3) (sc : BitVec 8) (cid : BitVec 16) (s : State) : Out :=
  .next (
    if ! s.alive then s
    else
      let s := s.storePumpAll
      match s.driveCmd d n with
      | none => s
      | some x =>
        let s := s.dropCmd x
        let s :=
          if sct = 0 ∧ sc = 0 then
            let s := s.putPair (SPT_DRV_BYTES_LO.addr d) (s.getPair (SPT_DRV_BYTES_LO.addr d) + x.len)
            match s.dmaCur x.stall with
            | some c => s.setCur x.stall (some { c with acked := c.acked + x.len })
            | none => s
          else
            let s := ((s.put (SPT_DRV_ERR.CID d) cid.toNat).put (SPT_DRV_ERR.SCT d) sct.toNat).put (SPT_DRV_ERR.SC d) sc.toNat
            ((s.bump (SPT_DRV_CNT.ERRORS d)).raiseIrq 95).storeRefuse x .check
        (s.storeSettle x.stall).storePumpAll)

/-- Drive d becomes FAILED: its outstanding and later beats are refused with ERR_SEQUENCE (R424). -/
def State.driveFailed (s : State) (d : Nat) : State :=
  let s := s.setDrive d vFAILED
  let xs := s.spt.out.filter (·.drive == d)
  let s := xs.foldl (fun (s : State) x => (s.dropCmd x).storeRefuse x .sequence) s
  s.storeSettleAll

/-- The n-th outstanding Write of drive d has no completion within SPT_TO (R423, R424). Its status is unstated. -/
def State.nvmeTimeout (s : State) (d n : Nat) (cid : BitVec 16) : State :=
  let s := s.storePumpAll
  match s.driveCmd d n with
  | none => s
  | some x =>
    let s := (s.put (SPT_DRV_ERR.CID d) cid.toNat).put (SPT_DRV_ERR.SCT d) s.free.toNat
    let s := (s.put (SPT_DRV_ERR.SC d) (s.free.toNat / 8)).drawFree
    let s := ((s.bump (SPT_DRV_CNT.TIMEOUTS d)).raiseIrq 95).dropCmd x
    (s.storeRefuse x .timeout).driveFailed d

/-! ### Commands of SPT_CMD (R424, R425) -/

/-- SPT's own rules. -/
def sptRules : WriteRules :=
  { pre := fun s _ a w =>
      if a == SPT_CMD.addr then
        if w.toNat.testBit 0 && s.flag SPT_STAT.FLUSH_BUSY then some .busy
        else if (List.range 4).any (fun d => w.toNat.testBit (4 + d) && s.get (SPT_DRV_STAT.STATE d) == vREADY) then some .busy
        else none
      else none
    act := fun _ a w s =>
      if a == SPT_CMD.addr then
        let s := if w.toNat.testBit 0 then s.put SPT_STAT.FLUSH_BUSY 1 else s
        .ok ((List.range 4).foldl (fun (s : State) d =>
          if w.toNat.testBit (4 + d) && s.appFlag (SPT_DRV_CTRL.EN d) && s.get (SPT_DRV_STAT.WIDTH d) != 0 then s.setDrive d vINIT
          else s) s)
      else .ok s }

/-- SPT_REINIT of the drives of `mask` (R424). DEDUCED (log entry 67). -/
def execSptReinit (mask : BitVec 4) (src : Source) (v : Word) (s : State) : Out :=
  .next (s.writeReg sptRules src SPT_CMD.addr (v ||| BitVec.ofNat 32 (mask.toNat * 16)))

/-- SPT_FLUSH (R425). -/
def execSptFlush (src : Source) (v : Word) (s : State) : Out := .next (s.writeReg sptRules src SPT_CMD.addr (v ||| 1))

/-- FLUSH_COMPLETE (R425, R426). -/
def execFlushComplete (err : Bool) (s : State) : Out :=
  .next (
    if s.alive && s.flag SPT_STAT.FLUSH_BUSY then
      let s := s.put SPT_STAT.FLUSH_BUSY 0
      (if err then s.put SPT_STAT.FLUSH_ERR 1 else s.put SPT_STAT.FLUSH_DONE 1).raiseIrq 95
    else s)

/-- Every drive reads ABSENT: its link is down (R417, R426). -/
def State.drivesGone (s : State) : State :=
  (List.range 4).foldl (fun (s : State) d =>
    ((s.put (SPT_DRV_STAT.WIDTH d) 0).put (SPT_DRV_STAT.SPEED d) 0).setDrive d vABSENT) s

/-- SPT takes an apply edge: a change of BIF resets every storage link (R417); a drive that is no longer enabled is left
with its link. -/
def State.sptApply (s : State) (old : State) : State :=
  if s.app SPT_CFG.BIF != old.app SPT_CFG.BIF then s.drivesGone
  else (List.range 4).foldl (fun (s : State) d =>
    if s.appFlag (SPT_DRV_CTRL.EN d) then s
    else if s.get (SPT_DRV_STAT.STATE d) == vABSENT then s
    else
      let xs := s.spt.out.filter (·.drive == d)
      (xs.foldl (fun (s : State) x => (s.dropCmd x).storeRefuse x .sequence) (s.setDrive d vLINK)).storeSettleAll) s

/-- The end of LOAD brings up the drives whose links are up (R419). -/
def State.drivesStart (s : State) : State :=
  (List.range 4).foldl (fun (s : State) d =>
    if s.appFlag (SPT_DRV_CTRL.EN d) && s.get (SPT_DRV_STAT.STATE d) == vLINK then s.setDrive d vINIT else s) s

end Sys2Proof.Machine
end

