-- ==== Sys2Proof/Machine/Monitor.lean ====
section
/-! DEFINITION. The monitor ADCs, calibration, diagnosis, control DACs, PWM outputs and SPI masters (R454 to R466, R472 to
R476). -/

namespace Sys2Proof.Machine

/-! ### Outputs (R472 to R474) -/

/-- Control DAC i takes a code. -/
def State.setCdac (s : State) (i v : Nat) : State :=
  { s with pins := { s.pins with cdac := vset s.pins.cdac (Fin.ofNat _ i) (some (BitVec.ofNat 16 v)) } }

/-- PWM i takes a duty at its next period start. -/
def State.setDuty (s : State) (i v : Nat) : State :=
  { s with aux := { s.aux with next := vset s.aux.next (Fin.ofNat _ i) (v % 65536) } }

/-- Output o of R485: CDAC0 to 3, then PWM0 to 3. -/
def State.setOutput (s : State) (o v : Nat) : State := if o < 4 then s.setCdac o v else s.setDuty (o - 4) v

/-- The applied owner of output o, and its SAFE value. -/
def State.owner (s : State) (o : Nat) : Nat := if o < 4 then s.app (AUX_CDAC.OWNER o) else s.app (AUX_PWM.OWNER (o - 4))
def State.safeOf (s : State) (o : Nat) : Nat := if o < 4 then s.app (AUX_CDAC_SAFE.SAFE o) else s.app (AUX_PWM_SAFE.SAFE (o - 4))

/-- The test-DAC pin, when the DAC holds `code` (R464). -/
def State.setTdac (s : State) (code : Nat) : State :=
  { s with pins := { s.pins with testDac := if s.appFlag AUX_TDAC.OUT_EN then some (BitVec.ofNat 12 code) else none } }

/-- The level of PWM p while active, or not. -/
def State.pwmLevel (s : State) (p : Fin 4) (active : Bool) : State :=
  { s with pins := { s.pins with pwm := vset s.pins.pwm p (some (active != s.appFlag (AUX_PWM.POL p))) } }

/-- PWM_PERIOD: a period starts and takes its new duty (R473). -/
def execPwmPeriod (p : Fin 4) (s : State) : Out :=
  .next (
    if s.live dAUX then
      let duty := vget s.aux.next p
      let s : State := { s with aux := { s.aux with duty := vset s.aux.duty p duty } }
      s.pwmLevel p (decide (0 < duty * s.app (AUX_PWM.PERIOD p) / 65536))
    else s)

/-- PWM_ACTIVE_END: the active time runs out (R473). -/
def execPwmActiveEnd (p : Fin 4) (s : State) : Out := .next (if s.live dAUX then s.pwmLevel p false else s)

/-! ### Conversions (R454 to R459) -/

/-- The coefficient index of ADC a and external input i. -/
def calIndex (a i : Nat) : Nat := a * 16 + i

/-- ADC a reaches external input i (R454). -/
def adcReaches (a i : Nat) : Bool :=
  if a = 0 then decide (i < 8) || (decide (15 ≤ i) && decide (i ≤ 18)) else decide (8 ≤ i) && decide (i ≤ 18)

/-- The calibrated value before the clamp (R456). -/
def State.calValue (s : State) (a i raw : Nat) : Int :=
  if i < 16 ∧ adcReaches a i = true then
    (raw * s.get (AUX_CAL_GAIN.GAIN (calIndex a i)) / 65536 : Nat) + toSigned 18 (s.get (AUX_CAL_OFS.OFS (calIndex a i)))
  else raw

/-- A conversion: its code, and whether it is out of range (R456, R457). -/
def State.convert (s : State) (a i raw : Nat) : Nat × Bool :=
  let x := s.calValue a i raw
  if raw = 0 ∨ raw = 0xFFFF ∨ x < 0 ∨ 0xFFFF < x then (if x < 0x8000 then 0 else 0xFFFF, true) else (x.toNat, false)

/-- The SUSPECT marking of a conversion ADC a starts now. -/
def State.suspectNow (s : State) (a : Fin 2) : Bool := 0 < vget s.aux.suspect a

/-- ADC a has converted, out of range or not, or has idled: the window of SUSPECT moves on (R457, R458, R459). -/
def State.adcAfter (s : State) (a : Fin 2) (ovr : Bool) : State :=
  let s : State := { s with aux := { s.aux with suspect := vset s.aux.suspect a (if ovr then 2 else vget s.aux.suspect a - 1) } }
  if ovr then s.put (if a.val = 0 then AUX_STAT.OVR0 else AUX_STAT.OVR1) 1 else s

/-- Servo loops that read slot p of ADC a collect a result (R467). -/
def State.loopCollect (s : State) (a p code : Nat) (usable : Bool) : State :=
  (List.finRange 4).foldl (fun (s : State) (l : Fin 4) =>
    if s.app (SRV_LOOP_CFG.PV_ADC l) == a && s.app (SRV_LOOP_CFG.PV_POS l) == p then
      let x := vget s.srv.loop l
      let x := { x with results := x.results + 1, usable := x.usable + b2n usable, sum := if usable then x.sum + code else x.sum }
      { s with srv := { s.srv with loop := vset s.srv.loop l x } }
    else s) s

/-- ADC a runs its sequence. -/
def State.seqEn (s : State) (a : Nat) : Bool := s.appFlag (AUX_SEQ.EN a)

/-- One slot of the sequence of ADC a (R455 to R458). -/
def State.seqSlot (s : State) (a : Fin 2) (raw : Nat) : State :=
  if ! s.seqEn a then s.adcAfter a false
  else
    let p := vget s.aux.pos a
    let e := a.val * 16 + p
    let sus := s.suspectNow a
    let (code, ovr) := s.convert a (s.app (AUX_SLOT.INPUT e)) raw
    let s := ((s.bumpWrap (AUX_MON_RES.COUNT e)).put (AUX_MON_RES.NEW e) 1).put (AUX_MON_RES.CODE e) code
    let s := (s.putB (AUX_MON_RES.SUSPECT e) sus).putB (AUX_MON_RES.OVR e) ovr
    let s := s.adcAfter a ovr
    let s := s.loopCollect a p code (! ovr && ! sus)
    { s with aux := { s.aux with pos := vset s.aux.pos a ((p + 1) % (s.app (AUX_SEQ.LEN_M1 a) + 1)) } }

/-- The cross-check of a pair on the shared channel (R463). -/
def State.crossCheck (s : State) (p : Nat) : State :=
  if ! (s.appFlag AUX_XCHK.EN && s.seqEn 0 && s.seqEn 1 && p == s.app AUX_XCHK.POS) then s
  else
    let c0 := s.get (AUX_MON_RES.CODE p)
    let c1 := s.get (AUX_MON_RES.CODE (16 + p))
    let diff : Int := (c0 : Int) - c1
    let s := s.put AUX_XCHK_DIFF.DIFF (ofSigned 17 diff)
    let bad (e : Nat) : Bool := s.flag (AUX_MON_RES.OVR e) || s.flag (AUX_MON_RES.SUSPECT e)
    if bad p || bad (16 + p) then s
    else if s.app AUX_XCHK.TOL < diff.natAbs then
      let n := s.aux.xrun + 1
      if s.app AUX_XCHK.N ≤ n then
        let s : State := { s with aux := { s.aux with xrun := 0 } }
        (s.put AUX_STAT.XCHK_FAIL 1).fltInfo 0x24 0 0x17 (tileLoc 3 11 0) (s.get AUX_XCHK_DIFF.DIFF)
      else { s with aux := { s.aux with xrun := n } }
    else { s with aux := { s.aux with xrun := 0 } }

/-- The injected slot (R460 to R462). -/
def State.injSlot (s : State) (raws : Fin 2 → Nat) : State :=
  let m := s.aux.inj
  let s := (List.finRange 2).foldl (fun (s : State) (a : Fin 2) =>
    if m.testBit a.val then
      let sus := s.suspectNow a
      let (code, ovr) := s.convert a (s.app (if a.val = 0 then AUX_INJ.INPUT0 else AUX_INJ.INPUT1)) (raws a)
      let s := ((s.put (AUX_INJ_RES.CODE a) code).putB (AUX_INJ_RES.SUSPECT a) sus).putB (AUX_INJ_RES.OVR a) ovr
      (s.putStamp (if a.val = 0 then AUX_INJ_TS_A.addr else AUX_INJ_TS_B.addr) s.now).adcAfter a ovr
    else s.adcAfter a false) s
  ({ s with aux := { s.aux with inj := 0 } } : State).put AUX_STAT.INJ_BUSY 0

/-- A calibration conversion (R465, R466). -/
def State.calSlot (s : State) (c : CalRun) (raws : Fin 2 → Nat) : State :=
  let a : Fin 2 := Fin.ofNat _ c.adc
  let raw := raws a
  let sus := s.suspectNow a
  let (_, ovr) := s.convert a c.input raw
  let s := (s.adcAfter a ovr).adcAfter (1 - a) false
  if ovr then
    (({ s with aux := { s.aux with cal := none } } : State).put AUX_STAT.CAL_BUSY 0).refuseOp 0x17 0x320 c.src .range
  else if sus || c.left == 0 then s
  else { s with aux := { s.aux with cal := some { c with left := c.left - 1, taken := c.taken + 1, sum := c.sum + raw } } }

/-- The five test-DAC codes of a diagnosis. -/
def diagCode (k : Nat) : Nat := match k with | 0 => 0x000 | 1 => 0x400 | 2 => 0x800 | 3 => 0xC00 | _ => 0xFFF

/-- The expected code E at DAC code td (R464). -/
def State.diagExpect (s : State) (td : Nat) : Nat :=
  if s.appFlag AUX_DIAG_CTRL.PATH then s.app AUX_DIAG_EXP.DZ + td * s.app AUX_DIAG_EXP.DG / 4096 else td * 16 + 8

/-- Every selected ADC has its 16 conversions. -/
def DiagRun.full (d : DiagRun) : Bool :=
  (List.finRange 2).all (fun (a : Fin 2) => ! d.mask.testBit a.val || decide (16 ≤ vget d.n a))

/-- A diagnosis slot: every selected ADC that lacks conversions takes one; after the last the next DAC code (R464). -/
def State.diagSlot (s : State) (d : DiagRun) (raws : Fin 2 → Nat) : State :=
  if 5 ≤ d.step then s
  else
    let input := if s.appFlag AUX_DIAG_CTRL.PATH then s.app AUX_DIAG_CTRL.INPUT else 16
    let r := (List.finRange 2).foldl (fun (x : State × DiagRun) (a : Fin 2) =>
      let (s, d) := x
      if d.mask.testBit a.val && decide (vget d.n a < 16) then
        let sus := s.suspectNow a
        let (code, ovr) := s.convert a input (raws a)
        (s.adcAfter a ovr, if sus then d else { d with n := vset d.n a (vget d.n a + 1), sum := vset d.sum a (vget d.sum a + code) })
      else (s.adcAfter a false, d)) (s, d)
    let (s, d) := r
    if d.full then
      let e : Int := s.diagExpect (diagCode d.step)
      let dev := Vector.ofFn (fun (a : Fin 2) => max (vget d.dev a) (((vget d.sum a / 16 : Nat) : Int) - e).natAbs)
      let d := { d with step := d.step + 1, n := Vector.replicate 2 0, sum := Vector.replicate 2 0, dev := dev }
      let s : State := { s with aux := { s.aux with diag := some d } }
      s.setTdac (if d.step < 5 then diagCode d.step else s.app AUX_TDAC.VAL)
    else { s with aux := { s.aux with diag := some d } }

/-- ADC_SLOT: one slot time of both ADCs, with the raw codes their inputs give; `meas` says that a calibration or diagnosis
conversion falls due in it (R455, R460). DEDUCED (log entry 72). DEDUCED (log entry 74). -/
def execAdcSlot (measure : Bool) (raw0 raw1 : BitVec 16) (s : State) : Out :=
  .next (
    if ! s.live dAUX then s
    else
      let raws : Fin 2 → Nat := fun a => if a.val = 0 then raw0.toNat else raw1.toNat
      if s.aux.inj ≠ 0 then s.injSlot raws
      else match measure, s.aux.cal, s.aux.diag with
        | true, some c, _ => s.calSlot c raws
        | true, none, some d => s.diagSlot d raws
        | _, _, _ =>
          let p0 := vget s.aux.pos 0
          let p1 := vget s.aux.pos 1
          let s := (s.seqSlot 0 raw0.toNat).seqSlot 1 raw1.toNat
          if p0 = p1 then s.crossCheck p0 else s)

/-! ### Commands (R462, R464 to R466) -/

/-- An index of R465. -/
def calIndexOk (a i : Nat) : Bool := decide (i < 16) && adcReaches a i

/-- CAL_APPLY (R465, R466). -/
def State.calApply (s : State) : Except Err State :=
  if ! (s.flag AUX_STAT.ZOK && s.flag AUX_STAT.FOK && s.aux.zIdx == s.aux.fIdx) then .error .sequence
  else
    let z := s.get AUX_CAL_MEAS.Z
    let f := s.get AUX_CAL_MEAS.F
    if f ≤ z then .error .range
    else
      let g : Int := ((s.app AUX_CAL_TGT.FT : Int) - s.app AUX_CAL_TGT.ZT) * 65536 / ((f : Int) - z)
      if g < 0x8000 ∨ 0x20000 < g then .error .range
      else
        let e := s.aux.zIdx
        let o := ofSigned 18 ((s.app AUX_CAL_TGT.ZT : Int) - z * g / 65536)
        let s := (s.put (AUX_CAL_GAIN.GAIN e) g.toNat).put (AUX_CAL_OFS.OFS e) o
        let s := (s.bump AUX_CAL_COUNT.COUNT).putPair AUX_CAL_TIME_LO.addr (s.now.toNat / 2 ^ 40)
        .ok ((s.put AUX_STAT.ZOK 0).put AUX_STAT.FOK 0)

/-- CAL_GO (R465, R466). -/
def State.calGo (s : State) (src : Source) : Except Err State :=
  let a := s.get AUX_CAL_CTRL.ADC
  let i := s.get AUX_CAL_CTRL.INPUT
  if ! calIndexOk a i then .error .conflict
  else
    let full := s.flag AUX_CAL_CTRL.POINT
    let c : CalRun := { src := src, adc := a, input := i, full := full, left := 2 ^ s.get AUX_CAL_CTRL.AVG, taken := 0, sum := 0 }
    let s := s.put (if full then AUX_STAT.FOK else AUX_STAT.ZOK) 0
    .ok (({ s with aux := { s.aux with cal := some c } } : State).put AUX_STAT.CAL_BUSY 1)

/-- DIAG_GO and DIAG_ABORT (R464). -/
def State.diagWrite (s : State) (w : Word) : Except Err State :=
  let go := w.toNat.testBit 31
  let abort := w.toNat.testBit 30
  if go && abort then .error .conflict
  else if go then
    let m := s.app AUX_DIAG_CTRL.ADC_MASK
    if s.appFlag AUX_DIAG_CTRL.PATH && [0, 1].any (fun a => m.testBit a && ! adcReaches a (s.app AUX_DIAG_CTRL.INPUT)) then
      .error .conflict
    else
      let d : DiagRun :=
        { mask := m, step := if m = 0 then 5 else 0, n := Vector.replicate 2 0, sum := Vector.replicate 2 0, dev := Vector.replicate 2 0 }
      .ok ((({ s with aux := { s.aux with diag := some d } } : State).put AUX_STAT.DIAG_BUSY 1).setTdac (diagCode 0))
  else if abort then
    if s.aux.diag.isNone then .error .sequence
    else .ok ((({ s with aux := { s.aux with diag := none } } : State).put AUX_STAT.DIAG_BUSY 0).setTdac (s.app AUX_TDAC.VAL))
  else .ok s

/-- The master whose registers hold an address. -/
def spiOf (a : Nat) : Nat := (a - 0x170800) / 0x20

/-- Master m starts a frame, of the host or of a step (R475). -/
def State.spiStart (s : State) (m : Fin 8) (step : Bool) : State :=
  let s := s.put (AUX_SPI_STAT.BUSY m) 1
  { s with pins := { s.pins with spiCsn := BitVec.ofNat 8 (setBit s.pins.spiCsn.toNat m false) }
           aux := { s.aux with spiStep := vset s.aux.spiStep m step } }

/-- AUX's own rules (R464 to R466, R476). -/
def auxRules : WriteRules :=
  { pre := fun s _ a w =>
      let busy := s.flag AUX_STAT.CAL_BUSY || s.flag AUX_STAT.DIAG_BUSY
      if a == AUX_CMD.addr then if w.toNat.testBit 1 && busy then some .busy else none
      else if a == AUX_DIAG_CTRL.addr then if w.toNat.testBit 31 && busy then some .busy else none
      else if 0x170800 ≤ a ∧ a < 0x170900 then
        let m := spiOf a
        if a == AUX_SPI_CMD.addr m && w.toNat.testBit 0 then
          if s.flag (AUX_SPI_STAT.OWNED m) then some .locked
          else if s.flag (AUX_SPI_STAT.BUSY m) then some .busy else none
        else none
      else none
    act := fun src a w s =>
      if a == AUX_CMD.addr then
        match (if w.toNat.testBit 1 then s.calGo src else .ok s) with
        | .error e => .error e
        | .ok s =>
          match (if w.toNat.testBit 2 then s.calApply else .ok s) with
          | .error e => .error e
          | .ok s => .ok (if w.toNat.testBit 0 then s.injRequest else s)
      else if a == AUX_DIAG_CTRL.addr then s.diagWrite w
      else if 0x170800 ≤ a ∧ a < 0x170900 then
        let m := spiOf a
        if a == AUX_SPI_CMD.addr m && w.toNat.testBit 0 then
          if s.appFlag (AUX_SPI_CFG.EN m) then .ok (s.spiStart (Fin.ofNat _ m) false) else .error .sequence
        else .ok s
      else .ok s }

/-- INJ (R462). DEDUCED (log entry 74). -/
def execInj (src : Source) (v : Word) (s : State) : Out := .next (s.writeReg auxRules src AUX_CMD.addr (v ||| 1))

/-- CAL_GO (R465). DEDUCED (log entry 73). -/
def execCalGo (src : Source) (v : Word) (s : State) : Out := .next (s.writeReg auxRules src AUX_CMD.addr (v ||| 2))

/-- CAL_APPLY (R465). -/
def execCalApply (src : Source) (v : Word) (s : State) : Out := .next (s.writeReg auxRules src AUX_CMD.addr (v ||| 4))

/-- DIAG_GO (R464). -/
def execDiagGo (src : Source) (v : Word) (s : State) : Out :=
  .next (s.writeReg auxRules src AUX_DIAG_CTRL.addr (v ||| BitVec.ofNat 32 (2 ^ 31)))

/-- DIAG_ABORT (R464). DEDUCED (log entry 73). -/
def execDiagAbort (src : Source) (v : Word) (s : State) : Out :=
  .next (s.writeReg auxRules src AUX_DIAG_CTRL.addr (v ||| BitVec.ofNat 32 (2 ^ 30)))

/-- SPI_GO (R475, R476). DEDUCED (log entry 75). -/
def execSpiGo (m : Fin 8) (src : Source) (v : Word) (s : State) : Out :=
  .next (s.writeReg auxRules src (AUX_SPI_CMD.addr m) (v ||| 1))

/-- CAL_POINT_DONE: the conversions of a point are taken; their raw mean is stored (R465). DEDUCED (log entry 73). -/
def execCalPointDone (s : State) : Out :=
  .next (
    match s.aux.cal with
    | some c =>
      if s.live dAUX && c.left == 0 then
        let mean := c.sum / max c.taken 1
        let e := calIndex c.adc c.input
        let s := (s.put AUX_STAT.CAL_BUSY 0).put (if c.full then AUX_CAL_MEAS.F else AUX_CAL_MEAS.Z) mean
        let s := s.put (if c.full then AUX_STAT.FOK else AUX_STAT.ZOK) 1
        { s with aux := { s.aux with cal := none, zIdx := if c.full then s.aux.zIdx else e, fIdx := if c.full then e else s.aux.fIdx } }
      else s
    | none => s)

/-- DIAG_DONE: the last code is done; the results are recorded (R464). -/
def execDiagDone (s : State) : Out :=
  .next (
    match s.aux.diag with
    | some d =>
      if s.live dAUX && decide (5 ≤ d.step) then
        let s := (List.finRange 2).foldl (fun (s : State) (a : Fin 2) =>
          if d.mask.testBit a.val then
            let v := min (vget d.dev a) 0xFFFF
            ((s.put (AUX_DIAG_RES.MAXDEV a) v).putB (AUX_DIAG_RES.PASS a) (decide (vget d.dev a ≤ s.app AUX_DIAG_TOL.DTOL))).put
              (AUX_DIAG_RES.DONE a) 1
          else s) s
        (({ s with aux := { s.aux with diag := none } } : State).put AUX_STAT.DIAG_BUSY 0).setTdac (s.app AUX_TDAC.VAL)
      else s
    | none => s)

/-- SPI_DONE: a frame of master m ends and its reply is captured; a step frame that waited starts (R475, R476). -/
def execSpiDone (m : Fin 8) (rx : Word) (s : State) : Out :=
  .next (
    if s.live dAUX && s.flag (AUX_SPI_STAT.BUSY m) then
      let s := s.setWord (AUX_SPI_RX.addr m) (BitVec.ofNat 32 (rx.toNat % 2 ^ (s.app (AUX_SPI_CFG.LEN_M1 m) + 1)))
      let s := (s.put (AUX_SPI_STAT.DONE m) 1).put (AUX_SPI_STAT.BUSY m) 0
      let s : State := { s with pins := { s.pins with spiCsn := BitVec.ofNat 8 (setBit s.pins.spiCsn.toNat m true) } }
      let s : State := if vget s.aux.spiStep m then
          { s with srv := { s.srv with span := { s.srv.span with frames := setBit s.srv.span.frames m false } }
                   aux := { s.aux with spiStep := vset s.aux.spiStep m false } }
        else s
      if vget s.aux.spiWait m then
        ({ s with aux := { s.aux with spiWait := vset s.aux.spiWait m false } } : State).spiStart m true
      else s
    else s)

/-- AUX takes an apply edge: changed sequences restart, outputs that own themselves take their values (R455, R464,
R472, R473). -/
def State.auxApply (s : State) (old : State) : State :=
  let changed := (List.range 2).any (fun a => s.appWord (AUX_SEQ.addr a) != old.appWord (AUX_SEQ.addr a))
    || (List.range 32).any (fun e => s.appWord (AUX_SLOT.addr e) != old.appWord (AUX_SLOT.addr e))
  let s : State := if changed then { s with aux := { s.aux with pos := Vector.replicate 2 0 } } else s
  let s := if s.aux.diag.isSome then s else s.setTdac (s.app AUX_TDAC.VAL)
  (List.range 4).foldl (fun (s : State) i =>
    let s := if s.app (AUX_CDAC.OWNER i) == 0 then s.setCdac i (s.app (AUX_CDAC.VAL i)) else s
    if s.app (AUX_PWM.OWNER i) == 0 then s.setDuty i (s.app (AUX_PWM_DUTY.DUTY i)) else s) s

end Sys2Proof.Machine
end

