-- ==== Sys2Proof/Machine/Servo.lean ====
section
/-! DEFINITION. The servo loops, the settle gate and the stepped-span sequencer (R467 to R484). -/

namespace Sys2Proof.Machine

abbrev lOFF : Nat := 0
abbrev lMANUAL : Nat := 1
abbrev lAUTO : Nat := 2
abbrev lFAULT : Nat := 3

/-- Loop l. -/
def State.loop (s : State) (l : Fin 4) : SrvLoop := vget s.srv.loop l
def State.setLoop (s : State) (l : Fin 4) (x : SrvLoop) : State := { s with srv := { s.srv with loop := vset s.srv.loop l x } }

/-- The stepped-span sequencer changed. -/
def State.modSpan (s : State) (f : SpanRun → SpanRun) : State := { s with srv := { s.srv with span := f s.srv.span } }

/-- SRV_SS_STAT.STATE: IDLE, WAIT_START, SETTLE, OPEN. -/
def State.ssState (s : State) : Nat := s.get SRV_SS_STAT.STATE
abbrev ssIDLE : Nat := 0
abbrev ssWAIT : Nat := 1
abbrev ssSETTLE : Nat := 2
abbrev ssOPEN : Nat := 3

/-! ### The settle gate (R477) -/

/-- What holds the gate closed. -/
def State.gateHeld (s : State) : Bool :=
  s.ssState == ssSETTLE || s.appFlag SRV_GATE.FORCE
    || (List.range 4).any (fun l => s.appFlag (SRV_LOOP_CFG.GATE_EN l) && ! s.flag (SRV_LOOP_STAT.SETTLED l))

/-- The gate follows; each change is stamped. -/
def State.gateUpdate (s : State) : State :=
  let open_ := ! s.gateHeld
  if open_ == s.flag SRV_GATE_STAT.OPEN then s
  else if open_ then
    let l := match s.srv.gateClosed with
      | (c, none) :: l => (c, some s.now) :: l
      | l => l
    ({ s with srv := { s.srv with gateClosed := l } } : State).put SRV_GATE_STAT.OPEN 1
  else
    let l := ((s.now, none) :: s.srv.gateClosed).take 64
    (({ s with srv := { s.srv with gateClosed := l } } : State).put SRV_GATE_STAT.OPEN 0).bump SRV_GATE_STAT.CLOSES

/-! ### Loops (R467 to R471) -/

/-- The location code of AUX and SRV (R37). -/
def srvLocation : Nat := tileLoc 3 11 0

/-- A gain or an offset of a loop, signed 18 bits. -/
def State.gain18 (s : State) (f : Fld) : Int := toSigned 18 (s.app f)

/-- An integer with 12 fraction bits. -/
def q12 (v : Int) : Int := v * 4096

/-- The limit of the integrator, 2^17, with 12 fraction bits. -/
def intLimit : Int := 536870912

/-- The setpoint of loop l (R471, R478). -/
def State.loopSp (s : State) (l : Fin 4) : Int :=
  if s.appFlag (SRV_LOOP_CFG.SP_SRC l) then ((s.loop l).sp : Int) else (s.app (SRV_LOOP_SP.SP l) : Int)

/-- u held within SLEW of its previous value (R468). -/
def State.slewed (s : State) (l : Fin 4) (u : Int) : Int :=
  let k := q12 (s.app (SRV_LOOP_SLEW.SLEW l))
  let p := (s.loop l).uPrev
  if k = 0 then u else clampInt (p - k) (p + k) u

/-- Loop l writes u to its output and reports u, e and I (R468). -/
def State.loopReport (s : State) (l : Fin 4) (u e i : Int) : State :=
  let o := (clampInt 0 65535 (u / 4096)).toNat
  let s := s.setOutput (s.app (SRV_LOOP_CFG.OUT_SEL l)) o
  let s := (s.put (SRV_LOOP_OUT.OUT l) o).put (SRV_LOOP_ERR.ERR l) (ofSigned 17 e)
  s.put (SRV_LOOP_INT.INT l) (ofSigned 18 (i / 4096))

/-- Loop l is SETTLED after SETTLE_N computations within BAND (R470). -/
def State.loopSettle (s : State) (l : Fin 4) (e : Int) : State :=
  let x := s.loop l
  let auto := s.get (SRV_LOOP_STAT.STATE l) == lAUTO
  let n := if auto && decide (e.natAbs ≤ s.app (SRV_LOOP_SET.BAND l)) then x.settled + 1 else 0
  (s.setLoop l { x with settled := min n 256 }).putB (SRV_LOOP_STAT.SETTLED l) (auto && decide (s.app (SRV_LOOP_SET.SETTLE_N l) ≤ n))

/-- The output of loop l goes to SAFE (R469). -/
def State.loopSafe (s : State) (l : Fin 4) : State :=
  let o := s.app (SRV_LOOP_CFG.OUT_SEL l)
  let v := s.safeOf o
  let s := (s.setOutput o v).put (SRV_LOOP_OUT.OUT l) v
  s.setLoop l { s.loop l with uPrev := q12 v }

/-- A computation of loop l with measured value pv (R468, R469). -/
def State.loopLaw (s : State) (l : Fin 4) (pv : Int) : State :=
  let x := s.loop l
  let sp := s.loopSp l
  let auto := s.get (SRV_LOOP_STAT.STATE l) == lAUTO
  let e := if s.appFlag (SRV_LOOP_CFG.INV l) then pv - sp else sp - pv
  let p := s.gain18 (SRV_LOOP_KP.K l) * e
  let prev := x.pvPrev.getD pv
  let d := x.d + (s.gain18 (SRV_LOOP_KD.KD l) * (prev - pv) - x.d) / (2 ^ s.app (SRV_LOOP_KD.DFILT l) : Nat)
  let ff := s.gain18 (SRV_LOOP_KF.K l) * sp + q12 (s.gain18 (SRV_LOOP_FOFS.FOFS l))
  let terms := ff + p + d
  let raw := terms + x.i
  let u := if auto then s.slewed l (clampInt (q12 (s.app (SRV_LOOP_LIM.UMIN l))) (q12 (s.app (SRV_LOOP_LIM.UMAX l))) raw)
    else s.slewed l (q12 (s.app (SRV_LOOP_SP.MAN l)))
  let ki := s.gain18 (SRV_LOOP_KI.K l) * e
  let wind := auto && ((decide (u < raw) && decide (0 < ki)) || (decide (raw < u) && decide (ki < 0)))
  let i := if ! auto then u - terms else if wind then x.i else clampInt (-intLimit) intLimit (x.i + ki)
  let s := s.setLoop l { x with i := i, d := d, terms := terms, pvPrev := some pv, uPrev := u, held := 0 }
  let s := (s.loopReport l u e i).putB (SRV_LOOP_STAT.AW l) wind
  let s := if wind then s.bump (SRV_LOOP_CNT.SAT l) else s
  s.loopSettle l e

/-- LOOP_COMPUTE: loop l has DIV results of its slot (R467 to R470). DEDUCED (log entry 75). -/
def execLoopCompute (l : Fin 4) (s : State) : Out :=
  .next (
    let x := s.loop l
    let st := s.get (SRV_LOOP_STAT.STATE l)
    if ! (s.live dAUX && (st == lMANUAL || st == lAUTO) && decide (s.app (SRV_LOOP_CFG.DIV_M1 l) < x.results)) then s
    else
      let s := s.setLoop l { x with results := 0, usable := 0, sum := 0 }
      if x.usable = 0 then
        let s := (s.put (SRV_LOOP_STAT.HELD l) 1).bump (SRV_LOOP_CNT.HOLDS l)
        let n := x.held + 1
        let s := s.setLoop l { s.loop l with held := n }
        if s.app (SRV_LOOP_SLEW.HOLD_MAX l) ≤ n then
          let s := ((s.put (SRV_LOOP_STAT.STATE l) lFAULT).put (SRV_LOOP_STAT.SETTLED l) 0).loopSafe l
          let s := s.setLoop l { s.loop l with settled := 0, held := 0 }
          (s.fltInfo 0x25 l 0x18 srvLocation 0).gateUpdate
        else s
      else (s.loopLaw l (x.sum / x.usable : Nat)).gateUpdate)

/-- CLR_FAULT of loop l (R469). -/
def State.clrFault (s : State) (l : Fin 4) : Except Err State :=
  if s.get (SRV_LOOP_STAT.STATE l) != lFAULT then .error .sequence
  else
    let mode := s.app (SRV_LOOP_CFG.MODE l)
    let x := s.loop l
    let safe := q12 (s.safeOf (s.app (SRV_LOOP_CFG.OUT_SEL l)))
    let i := safe - x.terms
    let s := s.setLoop l { x with i := i, pvPrev := none, uPrev := safe, held := 0, settled := 0, results := 0, usable := 0, sum := 0 }
    .ok ((s.put (SRV_LOOP_STAT.STATE l) mode).put (SRV_LOOP_INT.INT l) (ofSigned 18 (i / 4096)))

/-! ### Stepped span (R478 to R484) -/

/-- Steps of the running range, ascending. -/
def SpanRun.range (x : SpanRun) : List Nat := (List.range 16).filter (fun k => decide (x.first ≤ k) && decide (k ≤ x.last))

/-- Masters that the running sequencer owns (R476). -/
def State.spiOwned (s : State) : State :=
  let x := s.srv.span
  (List.range 8).foldl (fun (s : State) m =>
    s.putB (AUX_SPI_STAT.OWNED m) (s.ssState != ssIDLE && x.range.any (fun k => (s.app (SRV_STEP_AUX.SPI_MASK k)).testBit m))) s

/-- A sweep takes the applied settings (R484). -/
def State.sweepLoad (s : State) : State :=
  s.modSpan (fun x => { x with
    ch := s.app SRV_SS_CTRL.CH, first := s.app SRV_SS_CTRL.FIRST, last := s.app SRV_SS_CTRL.LAST
    sweeps := s.app SRV_SS_CTRL.SWEEPS, pace := s.appFlag SRV_SS_CTRL.PACE, onLate := s.appFlag SRV_SS_CTRL.ON_LATE })

/-- Value i of step k (R478). -/
def State.stepValue (s : State) (k i : Nat) : Nat :=
  match i with
  | 0 => s.app (SRV_STEP_V01.V0 k) | 1 => s.app (SRV_STEP_V01.V1 k) | 2 => s.app (SRV_STEP_V23.V2 k) | _ => s.app (SRV_STEP_V23.V3 k)

/-- A step frame of master m starts, or waits for a host frame in flight (R476, R478). -/
def State.stepFrame (s : State) (m : Fin 8) : State :=
  let s := s.modSpan (fun x => { x with frames := setBit x.frames m true })
  if s.flag (AUX_SPI_STAT.BUSY m) then { s with aux := { s.aux with spiWait := vset s.aux.spiWait m true } } else s.spiStart m true

/-- Step k starts (R478). -/
def State.stepStart (s : State) (k : Nat) : State :=
  let s := (s.put SRV_SS_STAT.STATE ssSETTLE).put SRV_SS_STAT.STEP k
  let s := s.modSpan (fun x => { x with start := s.now, opened := none, frames := 0, gap := false })
  let s := (List.finRange 4).foldl (fun (s : State) (i : Fin 4) =>
    let v := s.stepValue k i
    let s := if s.appFlag (SRV_LOOP_CFG.SP_SRC i) then s.setLoop i { s.loop i with sp := v } else s
    let s := if s.app (AUX_CDAC.OWNER i) == 2 then s.setCdac i v else s
    if s.app (AUX_PWM.OWNER i) == 2 then s.setDuty i v else s) s
  let fl := some (s.srv.span.ch, s.appFlag (SRV_STEP_AUX.FLAT_EN k), s.app (SRV_STEP_AUX.FLAT_SEL k))
  let s : State := { s with srv := { s.srv with flat := fl } }
  let mask := s.app (SRV_STEP_AUX.SPI_MASK k)
  let s := (List.finRange 8).foldl (fun (s : State) (m : Fin 8) => if mask.testBit m then s.stepFrame m else s) s
  s.gateUpdate

/-- The sequencer stops (R483, R484). -/
def State.ssStop (s : State) (cause : Nat) : State :=
  let s := (s.put SRV_SS_STAT.STATE ssIDLE).put SRV_SS_STAT.STOP_CAUSE cause
  let s : State := { s with srv := { s.srv with flat := none } }
  (s.modSpan (fun x => { x with stop := false })).spiOwned.gateUpdate

/-- The log entry of a step that ends (R482). -/
def State.stepLog (s : State) (late : Bool) : State :=
  let x := s.srv.span
  let k := s.get SRV_SS_STAT.STEP
  let b0 := k + b2n late * 16 + b2n x.gap * 32 + b2n x.opened.isSome * 64 + b2n (k == x.last) * 128
  let e := [BitVec.ofNat 8 b0, BitVec.ofNat 8 (s.get SRV_SS_STAT.SWEEP)] ++ leBytes 10 x.start.toNat
    ++ leBytes 10 (match x.opened with | some t => t.toNat | none => 2 ^ 80 - 1) ++ leBytes 10 s.now.toNat
  let n := s.get SRV_SS_LWR.LWR
  let a := 0x06F00000 + s.app SRV_SS_LOG.BASE * 64 + n % max (s.app SRV_SS_LLEN.LLEN) 1 * 32
  ((s.setSramBytes a e).unpoison a 32).bumpWrap SRV_SS_LWR.LWR

/-- The step ends; the next starts, or the sequencer stops (R479, R480, R483). -/
def State.stepEnd (s : State) (late : Bool) : State :=
  let s := s.stepLog late
  let x := s.srv.span
  let k := s.get SRV_SS_STAT.STEP
  if x.stop then s.ssStop 2
  else if late && x.onLate then s.ssStop 4
  else if k == x.last then
    let done := s.get SRV_SS_STAT.SWEEP + 1
    let s := s.put SRV_SS_STAT.SWEEP done
    if x.sweeps != 0 && x.sweeps == done then s.ssStop 1
    else
      let s := s.sweepLoad.spiOwned
      s.stepStart s.srv.span.first
  else s.stepStart ((k + 1) % 16)

/-- A step runs. -/
def State.stepRuns (s : State) : Bool := s.live dAUX && (s.ssState == ssSETTLE || s.ssState == ssOPEN)

/-- STEP_START: step FIRST starts (R483). -/
def execStepStart (s : State) : Out :=
  .next (
    if s.live dAUX && s.ssState == ssWAIT then
      let s := s.sweepLoad.spiOwned
      s.stepStart s.srv.span.first
    else s)

/-- GATE_OPEN: the settle time has passed and every step frame has completed (R479). -/
def execGateOpen (s : State) : Out :=
  .next (
    if s.live dAUX && s.ssState == ssSETTLE && s.srv.span.frames == 0 then
      let t := s.put SRV_SS_STAT.STATE ssOPEN
      if t.gateHeld then s else (t.modSpan (fun x => { x with opened := some s.now })).gateUpdate
    else s)

/-- STEP_END: an open step ends (R479). -/
def execStepEnd (s : State) : Out := .next (if s.live dAUX && s.ssState == ssOPEN then s.stepEnd false else s)

/-- STEP_LATE: the gate has not opened by the late limit (R480). -/
def execStepLate (s : State) : Out :=
  .next (if s.live dAUX && s.ssState == ssSETTLE then (s.put SRV_SS_STAT.LATE 1).stepEnd true else s)

/-- SRV_SS_CMD (R483, R484). -/
def State.ssCmd (s : State) (w : Word) : Except Err State :=
  let go := w.toNat.testBit 0
  let stop := w.toNat.testBit 1
  let abort := w.toNat.testBit 2
  if 1 < b2n go + b2n stop + b2n abort then .error .conflict
  else if (stop || abort) && s.ssState == ssIDLE then .error .sequence
  else if go then
    if ! s.appFlag SRV_SS_CTRL.EN then .error .sequence
    else
      let s := ((s.put SRV_SS_STAT.STATE ssWAIT).put SRV_SS_STAT.STOP_CAUSE 0).put SRV_SS_STAT.SWEEP 0
      let s := s.sweepLoad
      let s := (s.put SRV_SS_STAT.STEP s.srv.span.first).spiOwned
      if s.appFlag SRV_SS_CTRL.SRC && decide ((s.appStamp SRV_SS_TIME.addr).toNat < s.now.toNat) then
        .ok ((s.put SRV_SS_STAT.TLATE 1).stepStart s.srv.span.first)
      else .ok s
  else if stop then
    if s.ssState == ssWAIT then .ok (s.ssStop 2) else .ok (s.modSpan (fun x => { x with stop := true }))
  else if abort then
    .ok ((if s.ssState == ssWAIT then s else s.stepLog false).ssStop 3)
  else .ok s

/-- The loop whose registers hold an address. -/
def loopOf (a : Nat) : Nat := (a - 0x180000) / 0x40

/-- SRV's own rules (R469, R483, R484). -/
def srvRules : WriteRules :=
  { pre := fun s _ a w =>
      if a == SRV_SS_CMD.addr && w.toNat % 8 == 1 && s.ssState != ssIDLE then some .busy else none
    act := fun _ a w s =>
      if a == SRV_SS_CMD.addr then s.ssCmd w
      else if a < 0x180100 then
        let l := loopOf a
        if a == SRV_LOOP_CMD.addr l && w.toNat.testBit 0 then s.clrFault (Fin.ofNat _ l) else .ok s
      else .ok s }

/-- CLR_FAULT (R469). -/
def execClrFault (l : Fin 4) (src : Source) (v : Word) (s : State) : Out :=
  .next (s.writeReg srvRules src (SRV_LOOP_CMD.addr l) (v ||| 1))

/-- SS_GO (R483). DEDUCED (log entry 75). -/
def execSsGo (src : Source) (v : Word) (s : State) : Out := .next (s.writeReg srvRules src SRV_SS_CMD.addr (v ||| 1))

/-- SS_STOP (R483). -/
def execSsStop (src : Source) (v : Word) (s : State) : Out := .next (s.writeReg srvRules src SRV_SS_CMD.addr (v ||| 2))

/-- SS_ABORT (R483). -/
def execSsAbort (src : Source) (v : Word) (s : State) : Out := .next (s.writeReg srvRules src SRV_SS_CMD.addr (v ||| 4))

/-- OPEN_k in µs (R479). -/
def openTimeV (r : View') (k : Nat) : Nat :=
  let ch := r SRV_SS_CTRL.CH
  ceilDiv ((srcN r ch + r (SRV_STEP_M.M k) * srcHop r ch) * 1000000) (max (chanRateV r) 1) + 1

/-- SRV takes an apply edge (R469, R471, R479, R484). -/
def State.srvApply (s : State) (old : State) : State :=
  let s := (List.range 16).foldl (fun (s : State) k => s.put (SRV_STEP_OPEN.OPEN k) (openTimeV s.app k)) s
  let s := (List.finRange 4).foldl (fun (s : State) (l : Fin 4) =>
    let f (g : Fld) : Bool := s.app g != old.app g
    let s := if f (SRV_LOOP_CFG.PV_ADC l) || f (SRV_LOOP_CFG.PV_POS l) || f (SRV_LOOP_CFG.DIV_M1 l) then
        s.setLoop l { s.loop l with results := 0, usable := 0, sum := 0 }
      else s
    let mode := s.app (SRV_LOOP_CFG.MODE l)
    let st := s.get (SRV_LOOP_STAT.STATE l)
    let s := if st == lFAULT || st == mode then s
      else
        let s := (s.put (SRV_LOOP_STAT.STATE l) mode).put (SRV_LOOP_STAT.SETTLED l) 0
        s.setLoop l { s.loop l with settled := 0, held := 0, pvPrev := if mode = lAUTO then none else (s.loop l).pvPrev }
    if mode == lOFF && s.owner (s.app (SRV_LOOP_CFG.OUT_SEL l)) == 1 && st != lFAULT then s.loopSafe l else s) s
  let s := if ! s.appFlag SRV_SS_CTRL.EN && s.ssState != ssIDLE then s.ssStop 5 else s
  s.gateUpdate

end Sys2Proof.Machine
end

