-- ==== Sys2Proof/Machine/Admission.lean ====
section
/-! DEFINITION. The admission checker: what every block's chapter asks of a set-up, the measured capacities, and the
verdict (R43 to R48). A set-up is a view of the registers. -/

namespace Sys2Proof.Machine

/-! ### Measured capacities (R45) -/

/-- The capacities that a check uses. -/
structure Caps where
  /-- working pipes in service (R166) -/
  pipes : List Nat
  /-- usable GDDR6 bytes, and the budget of resource 0x4 in bytes per second (R434, R452) -/
  memBytes : Nat
  memRate : Nat
  /-- budget of resource 0x6 in each direction, bytes per second, as a fraction (R413) -/
  host : Nat × Nat
  /-- budget of each READY drive, bytes per second, as a fraction (R419) -/
  drives : List (Nat × (Nat × Nat))
  /-- the display link's raw rate in Mb/s; none while DISP is off (R325) -/
  link : Option Nat
deriving DecidableEq, Repr

/-- 0.8 of the data rate of a PCIe link in bytes per second (R413): lanes and generation. -/
def linkBudget (lanes gen : Nat) : Nat × Nat :=
  match gen with
  | 0 => (0, 1)
  | 1 => (lanes * 200000000, 1)
  | 2 => (lanes * 400000000, 1)
  | 3 => (lanes * 102400000000, 130)
  | 4 => (lanes * 204800000000, 130)
  | _ => (lanes * 409600000000, 130)

/-- Pin rate of a code in bits per second (R432). -/
def pinRate (code : Nat) : Nat := 12000000000 + code * 2000000000

/-- The smaller of two fractions, and their sum. -/
def minFrac (a b : Nat × Nat) : Nat × Nat := if b.1 * a.2 < a.1 * b.2 then b else a
def addFrac (a b : Nat × Nat) : Nat × Nat := (a.1 * b.2 + b.1 * a.2, a.2 * b.2)

/-- The budget of resource 0x4 at a pin-rate code (R452). -/
def State.memBudget (s : State) (code : Nat) : Nat := s.memCtrls * 4 * pinRate code * 7 / 10

/-- The capacities of this moment. DEDUCED (log entry 23). -/
def State.caps (s : State) : Caps :=
  { pipes := (List.range 8).filter s.pipeGood
    memBytes := s.usableBytes
    memRate := if s.memState == gREADY || s.memState == gFREQ then s.memBudget (s.get MEM_FREQ.RATE_NOW) else 0
    host := if s.domOn dPCIE_H && s.flag HPT_LINK.UP then linkBudget (s.get HPT_LINK.WIDTH) (s.get HPT_LINK.SPEED) else (0, 1)
    drives := ((List.range 4).filter s.driveReady).map (fun d =>
      (d, minFrac (s.app (SPT_DRV_WRATE.WRATE d) * 1000000, 1)
        (linkBudget (s.get (SPT_DRV_STAT.WIDTH d)) (s.get (SPT_DRV_STAT.SPEED d)))))
    link := if s.domOn dDISP then some (s.linkMbps s.app false) else none }

/-- The capacities without domain d (R585). -/
def Caps.without (c : Caps) (d : Nat) : Caps :=
  { c with
    pipes := c.pipes.filter (fun p => pipeDomain p != d)
    host := if d = dPCIE_H then (0, 1) else c.host
    drives := if d = dPCIE_S then [] else c.drives
    link := if d = dDISP then none else c.link }

/-! ### Contradictions, block by block -/

/-- Channel ch exists and is enabled (R124). -/
def chanOnV (r : View') (ch : Nat) : Bool := (r FCV_MAP.CH_EN).testBit ch && decide (ch < modeChannels (r LNK_CTRL.MODE))

/-- A source code of R222 and R252 names an enabled channel or DDC. -/
def srcOkV (r : View') (code : Nat) : Bool := if code < 16 then chanOnV r code else r (DDC_CFG.EN (code - 16)) == 1

/-- Converters of a mode, and the converter rate of its row of R23. -/
def modeConvs (mode : Nat) : Nat := match mode with | 0 => 1 | 3 => 4 | _ => 2
def convLimit (mode : Nat) : Nat := match mode with | 0 => 20480000000 | 3 => 5120000000 | _ => 10240000000

/-- Enabled lanes of converter c. -/
def lanesOfV (r : View') (c : Nat) : List Nat := (modeLanes (r LNK_CTRL.MODE) c).filter (fun n => r (LNK_LANE_CTRL.EN n) == 1)

/-- LNK: R88, R89, R97, R99, R103, R106. A converter with no enabled lane is not in use. -/
def lnkConflict (r : View') : Bool :=
  let jesd := r LNK_CTRL.PROTO == 1
  let l := r LNK_FRAME.L
  let f := r LNK_FRAME.F
  let k := r LNK_FRAME.K
  (jesd && (decide (2 < r LNK_CTRL.RATE) || r LNK_CTRL.START == 1))
  || (r LNK_CTRL.SUBCLASS == 1 && (r CLK_SYNC_CTRL.SYSREF_EN == 0 || (jesd && decide (k ≤ r LNK_FRAME.RBD))))
  || (l * f) % 2 == 1 || decide (f * k < 17) || decide (1024 < f * k) || decide (16 < r LNK_FRAME.NM1 + 1 + r LNK_FRAME.CS)
  || (List.range (modeConvs (r LNK_CTRL.MODE))).any (fun c =>
      let ns := lanesOfV r c
      ! ns.isEmpty && (ns.length != l || decide (convLimit (r LNK_CTRL.MODE) < convRateV r)
        || (List.range l).any (fun j => ! ns.any (fun n => r (LNK_LANE_CTRL.LOGICAL n) == j))))

/-- The converter that enabled channel ch names in dual and quad mode. -/
def selV (r : View') (ch : Nat) : Nat :=
  match ch with | 0 => r FCV_MAP.CONV_SEL0 | 1 => r FCV_MAP.CONV_SEL1 | 2 => r FCV_MAP.CONV_SEL2 | _ => r FCV_MAP.CONV_SEL3

/-- FCV: R124. A channel on a converter that the mode does not have contradicts the mode. -/
def fcvConflict (r : View') : Bool :=
  let mode := r LNK_CTRL.MODE
  (List.range 4).any (fun ch => (r FCV_MAP.CH_EN).testBit ch && decide (modeChannels mode ≤ ch))
  || (if mode < 2 then r FCV_MAP.CONV_SEL0 != 0
      else
        let on := (List.range 4).filter (chanOnV r)
        on.any (fun ch => decide (modeConvs mode ≤ selV r ch) || on.any (fun x => decide (x < ch) && selV r x == selV r ch)))

/-- DDC: R125. -/
def ddcConflict (r : View') : Bool :=
  (List.range 16).any (fun k => r (DDC_CFG.EN k) == 1 && ! chanOnV r (r (DDC_CFG.SRC_CH k)))

/-- The sources of a set-up. -/
def sourcesV (r : View') : List Nat := (List.range 32).filter (srcOnV r)

/-- The SRAM ranges of a source's traces and ring (R186, R188): start and end. -/
def srcRangesV (r : View') (src : Nat) : List (Nat × Nat) :=
  let nb := r (FFT_SRC_RANGE.NBM1 src) + 1
  let traces := ((List.range 4).filter (fun t => r (FFT_SRC_TRC.MODE src t) != 0)).map (fun t =>
    let a := 0x03800000 + r (FFT_SRC_TRC.BASE src t) * 0x1000
    (a, a + 2 * traceBytes nb))
  if r (FFT_SRC_SPG.EN src) == 1 then
    let a := 0x03800000 + r (FFT_SRC_SPG.BASE src) * 0x1000
    (a, a + (r (FFT_SRC_SPGL.LINES_M1 src) + 1) * ((32 + 2 * (nb / 2 ^ r (FFT_SRC_SPG.BRED src)) + 63) / 64 * 64)) :: traces
  else traces

/-- Two of the ranges overlap. -/
def overlaps : List (Nat × Nat) → Bool
  | [] => false
  | a :: l => l.any (fun b => decide (a.1 < b.2) && decide (b.1 < a.2)) || overlaps l

/-- FFT: R125, R171, R181, R189. `zero u` says that user slot u holds only zeros up to N. -/
def fftConflict (r : View') (zero : Nat → Nat → Bool) : Bool :=
  (List.range 4).any (fun ch => r (FFT_SRC_CFG.EN ch) == 1 && ! chanOnV r ch)
  || (sourcesV r).any (fun src =>
      let nb := r (FFT_SRC_RANGE.NBM1 src) + 1
      let win := r (srcWinFld src)
      (decide (0 < r (FFT_SRC_OUT.RED src)) && (r (FFT_SRC_OUT.DET src) == 2 || r (FFT_SRC_OUT.DET src) == 3))
      || decide (srcN r src < r (FFT_SRC_RANGE.FIRST_BIN src) + nb)
      || (r (FFT_SRC_SPG.EN src) == 1
          && (nb % 2 ^ r (FFT_SRC_SPG.BRED src) != 0 || decide (4096 < nb / 2 ^ r (FFT_SRC_SPG.BRED src))))
      || ((win == 5 || win == 6)
          && (r (FFT_UWIN.LEN (win - 5)) != r (srcLenFld src) || zero (win - 5) (srcN r src))))
  || (let rs := (sourcesV r).flatMap (srcRangesV r)
      rs.any (fun x => decide (0x04000000 < x.2)) || overlaps rs)

/-- User window slot u holds only zeros in its first N/2 coefficients (R171). -/
def State.slotZero (s : State) (u n : Nat) : Bool :=
  let a := 0x06A04000 + u * 0x10000
  s.sram.all (fun x => decide (x.1 < a) || decide (a + n ≤ x.1) || x.2 == 0)

/-- TRG: R212, R221, R222, R229, R238, R243, R250, R251. -/
def trgConflict (r : View') : Bool :=
  let en (i : Nat) : Bool := (r TRG_EN.EN).testBit i
  let cols := r NEB_GEOM.COLS_M1 + 1
  let rows := r NEB_GEOM.ROWS_M1 + 1
  decide (1048576 < latencyV r)
  || (List.range 4).any (fun m => en (8 + m) &&
      (! srcOnV r (r (TRG_FMT_CTRL.SRC_CH m))
        || decide (srcN r (r (TRG_FMT_CTRL.SRC_CH m)) < r (TRG_FMT_RANGE.FIRST_BIN m) + r (TRG_FMT_RANGE.NBM1 m) + 1)))
  || (List.range 4).any (fun u => (en (12 + u) && ! srcOkV r (r (TRG_LVL_CTRL.SRC u)))
      || (en (16 + u) && ! srcOkV r (r (TRG_PWR_CTRL.SRC u))))
  || (List.range 2).any (fun d => en (20 + d) &&
      (r NEB_CTRL.EN == 0 || decide (r (TRG_DEN_COLS.COL_HI d) < r (TRG_DEN_COLS.COL_LO d))
        || decide (r (TRG_DEN_ROWS.ROW_HI d) < r (TRG_DEN_ROWS.ROW_LO d)) || decide (cols ≤ r (TRG_DEN_COLS.COL_HI d))
        || decide (rows ≤ r (TRG_DEN_ROWS.ROW_HI d)) || decide (r (TRG_DEN_THRESH.THRESH d) ≤ r (TRG_DEN_REARM.REARM d))
        || decide (2 ^ r (TRG_DEN_CTRL.W d) < r (TRG_DEN_THRESH.THRESH d))))
  || (en 22 && (List.range 4).any (fun ch => (r TRG_OVR_CTRL.CH_MASK).testBit ch && ! chanOnV r ch))
  || (r TRG_CTRL.EN == 1 && ! chanOnV r (r TRG_CTRL.REF_CH))
  || (r TRG_CTRL.LOGIC == 1 &&
      (let a := r TRG_SEQ_A.MASK
       let b := r TRG_SEQ_B.MASK
       let c := r TRG_SEQ_R.MASK
       a == 0 || b == 0 || (c &&& (a ||| b)) != 0 || ((a ||| b ||| c) &&& r TRG_EN.EN) != (a ||| b ||| c)
        || (r TRG_SEQ_MAX.WIN_MAX != 0 && decide (r TRG_SEQ_MAX.WIN_MAX < r TRG_SEQ_MIN.WIN_MIN))))
  || (r TRG_CTRL.HO_MODE != 0 && r TRG_HOLDOFF.HOLDOFF == 0)
  || (r TRG_CTRL.MODE == 1 && r TRG_CTRL.HO_MODE == 1
      && decide (r TRG_AUTO.AUTO_TIME * 100000000 < r TRG_HOLDOFF.HOLDOFF * 78125))

/-- The GDDR6 ranges of unit u: its area and its Ledger (R262, R269, R279). A stream unit has no area. -/
def acqRangesV (g : AcqGeom) : List (Nat × Nat) :=
  let b := fmtBytes g.fmt
  let led := (g.lbase * 4096, g.lbase * 4096 + g.llen * 4096)
  match g.mode with
  | 0 => []
  | 1 => [(g.abase * 4096, g.abase * 4096 + g.asize * g.samples * b), led]
  | 2 => [(g.abase * 4096, g.abase * 4096 + g.cap * b), led]
  | _ => [led]

/-- ACQ: R252, R262, R276, R279; R430's binding of a stream unit to a stall. -/
def acqConflict (r : View') (usable : Nat) : Bool :=
  let units := (List.range 4).filter (fun u => r (ACQ_U_CFG.MODE u) != 0)
  units.any (fun u =>
    let g := geomV r u
    let ch := if g.src < 16 then g.src else r (DDC_CFG.SRC_CH (g.src - 16))
    ! srcOkV r g.src || (decide (16 ≤ g.src) && ! (r (DDC_CFG.DEST (g.src - 16))).testBit 1)
    || (List.range 4).any (fun m => (r (ACQ_U_CFG.TEST_MASK u)).testBit m &&
        (r TRG_CTRL.EN == 0 || ! (r TRG_EN.EN).testBit (8 + m) || r (TRG_FMT_CTRL.SRC_CH m) != ch))
    || (g.mode == 1 && (decide (65536 < g.len) || decide (4194304 < g.asize) || decide (g.samples < g.split)))
    || (g.mode == 2 && (decide (g.cap < g.samples) || decide (g.samples < g.split)))
    || (g.mode == 3 &&
        (let ks := (List.range 32).filter (fun k => r (DMA_S_CFG.EN k) == 1 && r (DMA_S_CFG.QEN k) == 1 && r (DMA_S_CFG.QUEUE k) == 0x20 + u)
         let sh := if g.src < 16 then 0 else r (DDC_CFG.DEC (g.src - 16))
         match ks with
         | [k] => decide (r (DMA_S_RATE.RATE k) * 1000000 * 2 ^ sh * 1048512 < fmtBytes g.fmt * chanRateV r * 1048576)
         | _ => true)))
  || (let rs := units.flatMap (fun u => acqRangesV (geomV r u))
      rs.any (fun x => decide (usable < x.2)) || overlaps rs)

/-- NEB: R289. -/
def nebConflict (r : View') : Bool :=
  r NEB_CTRL.EN == 1 && (! srcOnV r (r NEB_CTRL.SRC_CH)
    || decide (srcN r (r NEB_CTRL.SRC_CH) < r NEB_RANGE.FIRST_BIN + r NEB_RANGE.NBM1 + 1))

/-- The taps of core n in a set-up: the DDCs of its enabled taps. -/
def tapsV (r : View') (n : Nat) : List Nat :=
  (if r (LOD_TAP.EN_0 n) == 1 then [r (LOD_TAP.DDC_0 n)] else []) ++ (if r (LOD_TAP.EN_1 n) == 1 then [r (LOD_TAP.DDC_1 n)] else [])

/-- LOD: R358, R371. -/
def State.lodConflict (s : State) (r : View') : Bool :=
  (List.range 8).any (fun n =>
    (tapsV r n).any (fun k => r (DDC_CFG.EN k) == 0 || ! (r (DDC_CFG.DEST k)).testBit 2)
    || (r (LOD_CTRL.EN n) == 1 && ! s.domOn (coreDomain (Fin.ofNat _ n))))

/-- Enabled stalls. -/
def stallsV (r : View') : List Nat := (List.range 32).filter (fun k => r (DMA_S_CFG.EN k) == 1)

/-- The chain region of stall k (R378). -/
def chainV (r : View') (k : Nat) : Nat × Nat :=
  let a := 0x06F00000 + r (DMA_S_CHAIN.CHAIN_BASE k) * 64
  (a, a + r (DMA_S_CLEN.CLEN k) * 64)

/-- DMA and CHK: R400. -/
def dmaConflict (r : View') : Bool :=
  let ks := stallsV r
  ks.any (fun k => (r (DMA_S_RATE.RATE k) == 0 && r (DMA_S_CFG.CLASS k) != 3) || decide (0x08000000 < (chainV r k).2)
    || (r (DMA_S_CFG.QEN k) == 1
        && ks.any (fun j => decide (j < k) && r (DMA_S_CFG.QEN j) == 1 && r (DMA_S_CFG.QUEUE j) == r (DMA_S_CFG.QUEUE k))))
  || overlaps (ks.map (chainV r))
  || (List.range 16).any (fun u => r (CHK_CFG.EN u) == 1 && r (DMA_S_CFG.EN (r (CHK_CFG.STALL u))) == 0)

/-- SPT: a change of BIF while a stall that writes STORE works (R417). -/
def State.sptConflict (s : State) (r : View') : Bool :=
  r SPT_CFG.BIF != s.app SPT_CFG.BIF
    && (List.range 32).any (fun k => s.app (DMA_S_SPACE.DSPACE k) == spSTORE && s.dmaState k != dOFF && s.dmaState k != dSTOPPED)

/-- Loops that are not OFF. -/
def loopsV (r : View') : List Nat := (List.range 4).filter (fun l => r (SRV_LOOP_CFG.MODE l) != 0)

/-- The owner of output o in a set-up. -/
def ownerV (r : View') (o : Nat) : Nat := if o < 4 then r (AUX_CDAC.OWNER o) else r (AUX_PWM.OWNER (o - 4))

/-- AUX and SRV: R454, R463, R467, R472, R481, and the limits of a loop (R485). -/
def auxConflict (r : View') : Bool :=
  (List.range 2).any (fun a => r (AUX_SEQ.EN a) == 1
      && (List.range (r (AUX_SEQ.LEN_M1 a) + 1)).any (fun p =>
          let i := r (AUX_SLOT.INPUT (a * 16 + p))
          if a = 0 then decide (8 ≤ i) && decide (i < 15) else decide (i < 8)))
  || (r AUX_XCHK.EN == 1 && (r (AUX_SEQ.LEN_M1 0) != r (AUX_SEQ.LEN_M1 1) || decide (r (AUX_SEQ.LEN_M1 0) < r AUX_XCHK.POS)
      || (List.range 2).any (fun a => r (AUX_SLOT.INPUT (a * 16 + r AUX_XCHK.POS)) != 15)))
  || (loopsV r).any (fun l =>
      decide ((r (AUX_SEQ.LEN_M1 (r (SRV_LOOP_CFG.PV_ADC l))) + 1) * (r (SRV_LOOP_CFG.DIV_M1 l) + 1) < 50)
      || ownerV r (r (SRV_LOOP_CFG.OUT_SEL l)) != 1)
  || (List.range 4).any (fun l => decide (r (SRV_LOOP_LIM.UMAX l) < r (SRV_LOOP_LIM.UMIN l)))
  || (List.range 8).any (fun o =>
      (ownerV r o == 1 && ((loopsV r).filter (fun l => r (SRV_LOOP_CFG.OUT_SEL l) == o)).length != 1)
      || (ownerV r o == 2 && r (SRV_LOOP_CFG.SP_SRC (o % 4)) == 1))
  || (r SRV_SS_CTRL.EN == 1 && (decide (r SRV_SS_CTRL.LAST < r SRV_SS_CTRL.FIRST) || ! srcOnV r (r SRV_SS_CTRL.CH)
      || decide (0x08000000 < 0x06F00000 + r SRV_SS_LOG.BASE * 64 + r SRV_SS_LLEN.LLEN * 32)))

/-! ### Demands -/

/-- Resource 0x1: R166, R167. `same` says which channels keep their pipes. -/
def State.pipeItems (s : State) (r : View') (c : Caps) : List AdmItem :=
  let chs := (List.range 4).filter (srcOnV r)
  let num := chs.foldl (fun n ch => n + chanRateV r * 2 ^ r (srcHopFld ch)) 0
  let den := 8 * c.pipes.length * fclkHz
  let same (ch : Nat) : Bool :=
    srcOnV s.app ch && srcN r ch == srcN s.app ch && srcHop r ch == srcHop s.app ch && chanRateV r == chanRateV s.app
  let got := s.assignPipes r same
  let short := got.any (fun x => decide (x.2.length < pipesNeededV r x.1))
  [⟨1, 0, num, den, if den < num then some .deadline else if short then some .resource else none⟩]

/-- Resource 0x2: R46, R161, R168. -/
def zoomItems (r : View') : List AdmItem :=
  let zs := ((List.range 16).map (16 + ·)).filter (srcOnV r)
  let num := zs.foldl (fun n z => n + chanRateV r * 2 ^ r (srcHopFld z) * 2 ^ (16 - r (DDC_CFG.DEC (z - 16)))) 0
  let den := 8 * fclkHz * 2 ^ 16
  let store := zs.foldl (fun n z => n + 2 * srcN r z) 0
  [⟨2, 0, num, den, if den < num then some .deadline else if 262144 < store then some .resource else none⟩]

/-- Resource 0x3: R293. -/
def nebItems (r : View') : List AdmItem :=
  if r NEB_CTRL.EN == 1 then
    [⟨3, 0, (r NEB_GEOM.COLS_M1 + 1) * chanRateV r, max (hopV r (r NEB_CTRL.SRC_CH)) 1 * nebKV r * 81920000000, none⟩]
  else []

/-- The GDDR6 demand of a unit in bytes per second (R283). -/
def unitDemandV (r : View') (g : AcqGeom) : Nat × Nat :=
  let rate := chanRateV r
  let b := fmtBytes g.fmt
  let sh := if g.src < 16 then 0 else r (DDC_CFG.DEC (g.src - 16))
  match g.mode with
  | 1 => ((g.samples * b + 32) * rate * 40000000, g.post * 2 ^ sh * 40000000 + rate)
  | 2 => (b * rate, 2 ^ sh)
  | _ => (0, 1)

/-- The source and destination rates of stall k in bytes per second, times 192 (R399). -/
def stallSrc (r : View') (k : Nat) : Nat := r (DMA_S_RATE.RATE k) * 1000000 * 192
def stallDst (r : View') (k : Nat) : Nat :=
  r (DMA_S_RATE.RATE k) * 1000000 * 192 * widthBits (r (DMA_S_SPACE.DW k)) / widthBits (r (DMA_S_SPACE.SW k))

/-- Resource 0x4: R283, R268, R399, R452. -/
def State.memItems (s : State) (r : View') (c : Caps) : List AdmItem :=
  let acq := (List.finRange 4).foldl (fun (n : Nat × Nat) (u : Fin 4) =>
    let p := unitDemandV r (geomV r u)
    addFrac n (if s.acqBusy u then maxFrac p (unitDemandV r (s.acqUnit u).geom) else p)) (0, 1)
  let dma := (stallsV r).foldl (fun n k =>
    n + (if r (DMA_S_SPACE.SSPACE k) == spGDDR then stallSrc r k else 0)
      + (if r (DMA_S_SPACE.DSPACE k) == spGDDR then stallDst r k else 0)) 0
  let d := addFrac acq (dma, 192)
  admDemand 4 0 d.1 (d.2 * c.memRate) .deadline

/-- The recording rate R_c of a unit, bytes per second (R430). -/
def recRateV (r : View') (u : Nat) : Nat × Nat :=
  let g := geomV r u
  let sh := if g.src < 16 then 0 else r (DDC_CFG.DEC (g.src - 16))
  (fmtBytes g.fmt * chanRateV r * 1048576, 2 ^ sh * 1048512)

/-- Resource 0x5: R399, R430. -/
def sptItems (r : View') (c : Caps) : List AdmItem :=
  let ds := bitsIn 4 (r SPT_CFG.DMASK)
  let total := ((stallsV r).filter (fun k => r (DMA_S_SPACE.DSPACE k) == spSTORE)).foldl (fun (n : Nat × Nat) k =>
    let q := r (DMA_S_CFG.QUEUE k)
    let x := (stallDst r k, 192)
    addFrac n (if r (DMA_S_CFG.QEN k) == 1 && decide (0x20 ≤ q) && decide (q < 0x24) && r (ACQ_U_CFG.MODE (q - 0x20)) == 3
      then maxFrac x (recRateV r (q - 0x20)) else x)) (0, 1)
  ds.flatMap (fun d =>
    match c.drives.find? (fun x => x.1 == d) with
    | some x => admDemand 5 d (total.1 * x.2.2) (total.2 * ds.length * x.2.1) .deadline
    | none => [⟨5, d, total.1, 0, some .resource⟩])

/-- Resource 0x6: R399, R413. -/
def hptItems (r : View') (c : Caps) : List AdmItem :=
  let out := (stallsV r).foldl (fun n k => n + if r (DMA_S_SPACE.DSPACE k) == spHOST then stallDst r k else 0) 0
  let inp := (stallsV r).foldl (fun n k => n + if r (DMA_S_SPACE.SSPACE k) == spHOST then stallSrc r k else 0) 0
  admDemand 6 0 (out * c.host.2) (192 * c.host.1) .deadline ++ admDemand 6 1 (inp * c.host.2) (192 * c.host.1) .deadline

/-- Resource 0x7: R371. -/
def lodItems (r : View') : List AdmItem :=
  ((List.range 8).filter (fun n => r (LOD_CTRL.EN n) == 1)).flatMap (fun n =>
    let declared := r (LOD_BUDGET.CYCLES n) * r (LOD_RATE.RATE n) * 2 ^ 16
    let taps := (tapsV r n).foldl (fun m k => m + chanRateV r * 2 ^ (16 - r (DDC_CFG.DEC k))) 0
    admDemand 7 n (max declared taps) (1024000000 * 2 ^ 16) .deadline)

/-- Resource 0x9: R481. -/
def ssItems (r : View') : List AdmItem :=
  if r SRV_SS_CTRL.EN == 1 then
    ((List.range 16).filter (fun k => decide (r SRV_SS_CTRL.FIRST ≤ k) && decide (k ≤ r SRV_SS_CTRL.LAST))).flatMap (fun k =>
      admDemand 9 k (r (SRV_STEP_SETTLE.SETTLE k) + openTimeV r k) (r (SRV_STEP.DWELL k)) .deadline)
  else []

/-- The storage buffer is in use: some drive is enabled (R422). -/
def sptBufV (r : View') : Bool := (List.range 4).any (fun d => r (SPT_DRV_CTRL.EN d) == 1)

/-- Bytes of the general pool that a set-up uses (R399, R422, R481, R501, R551). -/
def State.poolV (s : State) (r : View') : Nat :=
  (stallsV r).foldl (fun n k => n + 2 ^ r (DMA_S_CFG.BUF k) * 4096 + r (DMA_S_CLEN.CLEN k) * 64) 0
  + (if sptBufV r && s.domOn dPCIE_S then r SPT_BUF.SIZE * 262144 else 0)
  + (if r SRV_SS_CTRL.EN == 1 then r SRV_SS_LLEN.LLEN * 32 else 0)
  + (if r CST_CTRL.EN == 1 then 1024 else 0)
  + (if s.upd.sess.isSome then 131072 else 0)

/-- Resources 0xA and 0xB. -/
def State.poolItems (s : State) (r : View') : List AdmItem :=
  admDemand 10 0 (s.poolV r) 17825792 .resource
  ++ admDemand 11 0 ((List.range 16).filter (fun k => r (DDC_CFG.EN k) == 1)).length 16 .resource

/-- The staging shares fit the 16 MiB region (R256, R268). -/
def State.stagingItems (s : State) (r : View') : List AdmItem :=
  let lm := latencyV r
  let share (g : AcqGeom) : Nat := if g.mode == 1 || g.mode == 2 then stagingUnits r lm g else 0
  let total := (List.finRange 4).foldl (fun n (u : Fin 4) =>
    n + if s.acqBusy u then max (share (geomV r u)) (share (s.acqUnit u).geom) else share (geomV r u)) 0
  if 256 < total then [⟨0, 0, 0, 1, some .resource⟩] else []

/-- Everything the checker judges of the set-up `r` with the capacities `c`. -/
def State.admItems (s : State) (r : View') (c : Caps) : List AdmItem :=
  admConflict (lnkConflict r || fcvConflict r || ddcConflict r || fftConflict r s.slotZero || trgConflict r
    || acqConflict r c.memBytes || nebConflict r || s.lodConflict r || dmaConflict r || s.sptConflict r || auxConflict r)
  ++ s.stagingItems r ++ s.pipeItems r c ++ zoomItems r ++ nebItems r ++ s.memItems r c ++ sptItems r c ++ hptItems r c
  ++ lodItems r ++ (match c.link with | some mbps => dpyItems s.app r mbps | none => []) ++ ssItems r ++ s.poolItems r

/-- An admission check: SYS_ADMIT_RESULT is written; the refusal (R43, R47). DEDUCED (log entry 22).
DEDUCED (log entry 23). -/
def State.admitWith (s : State) (r : View') (c : Caps) : Option Err × State :=
  let x := admJudge (s.admItems r c)
  (x.2, s.setWord SYS_ADMIT_RESULT.addr x.1)

/-- The check of the applied set-up with the capacities of this moment. -/
def State.admitRunning (s : State) : Option Err × State := s.admitWith s.app s.caps

/-- A measured capacity has changed, or an update has applied: admission reruns on the running set-up (R44, R569). A pass
clears CAPACITY. A refusal after a fall raises it. -/
def State.capacityRerun (s : State) (fell : Bool) : State :=
  if ! s.inRun then s
  else
    let x := s.admitRunning
    match x.1 with
    | some _ =>
      let w := x.2.word SYS_ADMIT_RESULT.addr
      if fell then x.2.fltRec 2 0x31 (bitsOf w 8 4) 0x00 x.2.mgmtLocation w.toNat else x.2
    | none => if (x.2.get FLT_ACTIVE.ACTIVE).testBit 2 then x.2.clearActive 2 else x.2

end Sys2Proof.Machine
end

