-- ==== Sys2Proof/Machine/Clocks.lean ====
section
/-! DEFINITION. XTAL_IN, the PLLs, and the divider reset (R50 to R64). -/

namespace Sys2Proof.Machine

/-- PLL n carries LOCKED. -/
def State.locked (s : State) (n : Nat) : Bool := s.flag (CLK_PLL_STAT.LOCKED n)

/-- XTAL_LOSS: a fatal fault (R56). -/
def execXtalLoss (s : State) : Out :=
  .next (if s.alive then (s.put ALM_STAT.XTAL_OK 0).fltFatal 0x01 0 0x02 (tileLoc 3 12 9) 0 else s)

/-- PLL n has lost lock (R55, R56). -/
def State.pllLost (s : State) (n : Nat) : State :=
  let s := (s.put (CLK_PLL_STAT.LOCKED n) 0).put (CLK_PLL_STAT.SYNCED n) 0
  let s := (s.put (CLK_PLL_STAT.LOST n) 1).bump (CLK_PLL_STAT.LOSS_COUNT n)
  let detail := s.get (CLK_PLL_STAT.LOSS_COUNT n)
  let loc := tileLoc 3 12 n
  if n = 0 ∨ n = 2 ∨ n = 4 then s.fltFatal 0x02 n 0x02 loc detail
  else if n = 1 then (s.fltRec 3 0x02 n 0x02 loc detail).lodClockLost
  else if n = 3 then (s.fltRec 4 0x02 n 0x02 loc detail).dpyPllLost
  else (s.fltRec 5 0x02 n 0x02 loc detail).lpllLost (n - 5)

/-- PLL_LOSS: a locked PLL that is watched loses lock (R55 to R57). DEDUCED (log entry 30). -/
def execPllLoss (n : Fin 9) (s : State) : Out :=
  .next (if s.alive && s.locked n && ! s.alm.unwatched.contains n.val then s.pllLost n else s)

/-- PLL_RETUNE_TIMEOUT: a PLL that a procedure retunes has not declared its new lock in time (R57). -/
def execPllRetuneTimeout (n : Fin 9) (s : State) : Out :=
  .next (
    if s.alive && s.alm.unwatched.contains n.val then
      ({ s with alm := { s.alm with unwatched := s.alm.unwatched.filter (· != n.val) } } : State).pllLost n
    else s)

/-- The condition of FLT_ACTIVE that a relock of PLL n clears: every LPLL that is enabled must be locked (R569). -/
def State.pllCondition (s : State) (n : Nat) : State :=
  let off (s : State) (b : Nat) : State := if (s.get FLT_ACTIVE.ACTIVE).testBit b then s.clearActive b else s
  if n = 1 then off s 3
  else if n = 3 then off s 4
  else if 5 ≤ n then
    if [5, 6, 7, 8].all (fun k => ! s.appFlag (CLK_PLL_CTRL.EN k) || s.locked k) then off s 5 else s
  else s

/-- PLL n declares lock, and what waits for it goes on (R54, R327, R332, R442). -/
def State.pllLocked (s : State) (n : Nat) : State :=
  let s := s.put (CLK_PLL_STAT.LOCKED n) 1
  let s : State := { s with alm := { s.alm with unwatched := s.alm.unwatched.filter (· != n) } }
  let s := s.pllCondition n
  if n = 3 then s.dpyPllLocked else if n = 2 then s.memBegin else s

/-- PLL_LOCK: an enabled PLL declares lock (R53, R54). DEDUCED (log entry 30). -/
def execPllLock (n : Fin 9) (s : State) : Out :=
  .next (if s.alive && s.appFlag (CLK_PLL_CTRL.EN n) && ! s.locked n then (s.pllLocked n).recSettle else s)

/-- CLK's own rules (R52, R58, R62, R323). A procedure that retunes a PLL leaves its control register open while the
PLL is not watched. -/
def clkRules : WriteRules :=
  { pre := fun s _ a w =>
      if ! s.inRun then none
      else if a == CLK_SYNC_CTRL.addr then if w.toNat.testBit 24 then some .locked else none
      else if a == CLK_PLLP_CFG.addr || a == CLK_PLLP_DIV.addr then some .locked
      else match (List.range 9).find? (fun n => CLK_PLL_CTRL.addr n == a) with
        | some n => if n = 0 ∨ n = 1 ∨ n = 4 then some .locked else if s.alm.unwatched.contains n then none else some .locked
        | none => none
    act := fun _ a w s =>
      if a == CLK_SYNC_CTRL.addr && w.toNat.testBit 24 then .ok (s.put CLK_SYNC_STAT.ARMED 1)
      else if a == CLK_PLLP_CFG.addr && 48 * 2 ^ 24 < w.toNat then .error .range
      else .ok s }

/-- DIV_ARM (R62, R63). -/
def execDivArm (src : Source) (v : Word) (s : State) : Out :=
  .next (s.writeReg clkRules src CLK_SYNC_CTRL.addr (v ||| BitVec.ofNat 32 (2 ^ 24)))

/-- CLK takes an apply edge, and LNK a new lane rate: a PLL switched off is not locked; a lane-rate change retunes the
LPLLs, which are not watched until they lock (R52, R54, R57). -/
def State.clkApply (s : State) (old : State) : State :=
  let s := (List.range 9).foldl (fun (s : State) n =>
    if s.appFlag (CLK_PLL_CTRL.EN n) then s
    else
      let s := (s.put (CLK_PLL_STAT.LOCKED n) 0).put (CLK_PLL_STAT.SYNCED n) 0
      { s with alm := { s.alm with unwatched := s.alm.unwatched.filter (· != n) } }) s
  if s.app LNK_CTRL.RATE == old.app LNK_CTRL.RATE then s
  else [5, 6, 7, 8].foldl (fun (s : State) n =>
    if s.appFlag (CLK_PLL_CTRL.EN n) && s.locked n then
      let s := (s.put (CLK_PLL_STAT.LOCKED n) 0).put (CLK_PLL_STAT.SYNCED n) 0
      { s with alm := { s.alm with unwatched := n :: s.alm.unwatched.filter (· != n) } }
    else s) s

end Sys2Proof.Machine
end

