-- ==== Sys2Proof/Machine/Update.lean ====
section
/-! DEFINITION. SYS: the update strobe, its verdict, its apply edge and its cancellation (R519 to R526); the configuration
guard (R529 to R531); the error log's POP (R533). -/

namespace Sys2Proof.Machine

/-- The power domains of a block (R22). -/
def blockDomains (b : Nat) : List Nat :=
  match b with
  | 0x04 => [2, 3, 4, 5] | 0x05 => [6] | 0x06 => [17] | 0x08 => [14, 15, 16] | 0x0A => [18] | 0x0B => [23] | 0x0C => [19]
  | 0x0E => [7] | 0x10 => [20, 21] | 0x12 => [23] | 0x13 => [23] | 0x14 => [10, 11, 12, 13] | 0x15 => [8] | 0x16 => [9]
  | 0x17 => [22] | 0x18 => [22] | 0x19 => [6] | 0x1A => [1] | 0x1B => [1] | _ => [0]

/-- Some domain of block b is on. -/
def State.blockOn (s : State) (b : Nat) : Bool := (blockDomains b).any s.domOn

/-- The update mask `m` selects block b's group (R519). -/
def State.inGroups (s : State) (m : Word) (b : Nat) : Bool := hasGroup b && m.toNat.testBit (s.get ⟨b * 0x10000 + 0x3FF0, 0, 5⟩)

/-- The mask selects block b, and the block is not skipped (R523). -/
def State.selected (s : State) (m : Word) (b : Nat) : Bool := s.inGroups m b && s.blockOn b

/-- An update in RUN or DEGRADED never applies MEM_CFG (R433). -/
def State.held (s : State) (a : Nat) : Bool := a == MEM_CFG.addr && s.inRun

/-- The set-up that an update of the groups `m` would produce (R521). -/
def State.pendView (s : State) (m : Word) : View' := fun f =>
  if s.selected m (blockOfWindow (f.addr / 0x10000)) && ! s.held f.addr then s.get f else s.app f

/-- The pending copies of the selected blocks become applied (R523). -/
def State.copySelected (s : State) (m : Word) : State :=
  (blocks.filter (s.selected m)).foldl (fun (t : State) b =>
    let kept := t.appWord MEM_CFG.addr
    let t := t.applyBlock b
    if b == 0x14 && s.inRun then t.setAppWord MEM_CFG.addr kept else t) s

/-- The apply edge of an update of the groups `m` (R523): every block takes its new settings, and SYS reports the edge. -/
def State.applyEdge (s : State) (m : Word) (late : Bool) : State :=
  let skipped := blocks.any (fun b => s.inGroups m b && ! s.blockOn b)
  let ddc := s.selected m 0x06
  let new := s.pendView m
  let cs := s.convsRestarted new
  let old := s
  let s := (s.lnkBefore new).copySelected m
  let s := ((((s.lnkAfter cs).fcvApply old).ddcApply old ddc).fftApply old).trgApply old
  let s := (((((s.acqApply).nebApply old).lodApply old).dmaApply).chkApply old).sptApply old
  let s := ((((s.auxApply old).srvApply old).almApply old).clkApply old).cstApply old
  let s := (s.put SYS_UPDATE_STAT.APPLIED 1).bumpWrap SYS_UPDATE_STAT.APPLY_SEQ
  let s := (s.putB SYS_UPDATE_STAT.LATE late).putB SYS_UPDATE_STAT.SKIPPED skipped
  let s := (s.putStamp SYS_UPDATE_TS.addr s.now).put SYS_UPDATE_STAT.STATE 0
  let s : State := { s with sys := { s.sys with updCst := false, guardSpoilt := true, guardReload := true } }
  s.capacityRerun false

/-- An update begins: the flags of the last one clear, and STATE is CHECK (R520). -/
def State.updateBegin (s : State) (m : Word) (src : Source) (timed checkOnly cst : Bool) : State :=
  let s := ((s.put SYS_UPDATE_STAT.DONE 0).put SYS_UPDATE_STAT.APPLIED 0).put SYS_UPDATE_STAT.LATE 0
  let s := ((s.put SYS_UPDATE_STAT.SKIPPED 0).put SYS_UPDATE_STAT.CANCELLED 0).put SYS_UPDATE_STAT.STATE 1
  { s with sys := { s.sys with updMask := m, updSrc := src, updTimed := timed, updCheckOnly := checkOnly, updCst := cst } }

/-- The update of the running groups is refused (R521, R534). -/
def State.updateRefused (s : State) (e : Err) : State :=
  ((s.put SYS_UPDATE_STAT.CODE e.code).put SYS_UPDATE_STAT.STATE 0).refuseOp 0x00 0x10 s.sys.updSrc e

/-- The verdict of an update (R521, R523, R524). -/
def State.verdict (s : State) : State :=
  let x := s.admitWith (s.pendView s.sys.updMask) s.caps
  let s := x.2.put SYS_UPDATE_STAT.DONE 1
  match x.1 with
  | some e => s.updateRefused e
  | none =>
    let s := (s.winCheck (s.pendView s.sys.updMask)).put SYS_UPDATE_STAT.CODE 0
    if s.sys.updCheckOnly then s.put SYS_UPDATE_STAT.STATE 0
    else if s.sys.updTimed then
      if (s.getStamp SYS_UPDATE_TIME.addr).toNat < s.now.toNat then s.applyEdge s.sys.updMask true
      else s.put SYS_UPDATE_STAT.STATE 2
    else s.applyEdge s.sys.updMask false

/-- ADMISSION_VERDICT: admission of the update in CHECK completes (R521). A Constellation apply has its own verdicts.
DEDUCED (log entry 22). -/
def execAdmissionVerdict (s : State) : Out :=
  .next (if s.alive && s.get SYS_UPDATE_STAT.STATE == 1 && ! s.sys.updCst then s.verdict.recSettle else s)

/-- TIMED_APPLY: the Almanac reaches SYS_UPDATE_TIME (R524). -/
def execTimedApply (s : State) : Out :=
  .next (if s.alive && s.get SYS_UPDATE_STAT.STATE == 2 && ! s.sys.updCst then s.applyEdge s.sys.updMask false else s)

/-- A measured capacity has changed: the running set-up is judged (R44), and an update that waits (R524).
DEDUCED (log entry 24). -/
def State.capacityChanged (s : State) (fell : Bool) : State :=
  let s := s.capacityRerun fell
  if s.get SYS_UPDATE_STAT.STATE == 2 && ! s.sys.updCst then
    let x := s.admitWith (s.pendView s.sys.updMask) s.caps
    match x.1 with
    | some e => x.2.updateRefused e
    | none => x.2
  else s

/-! ### SYS's own rules -/

/-- A handover freezes strobes, PWR requests and UPD commands (R557). -/
def State.frozen (s : State) : Bool := s.upd.hand.isSome

/-- SYS's own rules (R520, R525, R530, R531, R533). -/
def sysRules : WriteRules :=
  { pre := fun s src a w =>
      let early := src == .host && (s.dev == boot || s.dev == load)
      if a == SYS_UPDATE.addr then
        if early then some .locked
        else if s.get SYS_UPDATE_STAT.STATE != 0 || s.frozen then some .busy else none
      else if a == SYS_UPDATE_CTRL.addr && w.toNat.testBit 8 then
        if early || (s.sys.updCst && s.get SYS_UPDATE_STAT.STATE != 0) then some .locked else none
      else none
    act := fun src a w s =>
      if a == SYS_UPDATE.addr then
        if w == 0 then .error .range
        else if s.flag SYS_UPDATE_CTRL.TIMED && s.flag SYS_UPDATE_CTRL.CHECK_ONLY then .error .conflict
        else .ok (s.updateBegin w src (s.flag SYS_UPDATE_CTRL.TIMED) (s.flag SYS_UPDATE_CTRL.CHECK_ONLY) false)
      else if a == SYS_UPDATE_CTRL.addr && w.toNat.testBit 8 then
        if s.get SYS_UPDATE_STAT.STATE == 0 then .error .sequence
        else .ok ((s.put SYS_UPDATE_STAT.CANCELLED 1).put SYS_UPDATE_STAT.STATE 0)
      else if a == SYS_CFGCRC_REF.addr then .ok { s with sys := { s.sys with guardArmed := true } }
      else if a == SYS_CFGCRC_EXCL.addr then .ok { s with sys := { s.sys with guardSpoilt := true } }
      else if a == SYS_ERR_CMD.addr && w.toNat.testBit 0 then
        if s.sys.errLog.isEmpty then .error .sequence else .ok { s with sys := { s.sys with errLog := s.sys.errLog.drop 1 } }
      else .ok s }

/-- UPDATE_STROBE (R520): a write of SYS_UPDATE with the groups v. -/
def execUpdateStrobe (src : Source) (v : Word) (s : State) : Out := .next (s.writeReg sysRules src SYS_UPDATE.addr v)

/-- UPDATE_CANCEL (R525). -/
def execUpdateCancel (src : Source) (v : Word) (s : State) : Out :=
  .next (s.writeReg sysRules src SYS_UPDATE_CTRL.addr (v ||| BitVec.ofNat 32 (2 ^ 8)))

/-- CFGCRC_REF_WRITE (R531). -/
def execCfgcrcRefWrite (src : Source) (v : Word) (s : State) : Out := .next (s.writeReg sysRules src SYS_CFGCRC_REF.addr v)

/-- ERR_LOG_POP (R533). -/
def execErrLogPop (src : Source) (v : Word) (s : State) : Out := .next (s.writeReg sysRules src SYS_ERR_CMD.addr (v ||| 1))

/-! ### The configuration guard -/

/-- An address inserted in ascending order. -/
def insertAddr (a : Nat) : List Nat → List Nat
  | [] => [a]
  | b :: l => if a ≤ b then a :: b :: l else b :: insertAddr a l

/-- The registers a guard pass covers, in ascending address (R529). -/
def State.guardAddrs (s : State) : List Nat :=
  let excl := s.get SYS_CFGCRC_EXCL.EXCL
  (blocks.filter s.blockOn).flatMap (fun b =>
    ((addrsOfBlock b).foldl (fun l a => insertAddr a l) []).filter (fun a => ! excl.testBit (a / 0x10000)))

/-- The CRC-32C of a guard pass (R529). -/
def State.guardCrc (s : State) : Word := crc32c (s.guardAddrs.flatMap (fun a => leBytes 4 (s.appWord a).toNat))

/-- GUARD_PASS: a pass completes (R529 to R531). -/
def execGuardPass (s : State) : Out :=
  .next (
    if ! s.alive || ! s.flag SYS_CFGCRC_CTRL.EN then s
    else if s.sys.guardSpoilt then { s with sys := { s.sys with guardSpoilt := false } }
    else
      let crc := s.guardCrc
      let s := (s.setWord SYS_CFGCRC_NOW.addr crc).bumpWrap SYS_CFGCRC_STAT.PASSES
      let loads := s.flag SYS_CFGCRC_CTRL.AUTO && s.sys.guardReload
      let s : State := { s with sys := { s.sys with guardReload := false } }
      if loads || s.word SYS_CFGCRC_REF.addr == crc then
        let s := (s.setWord SYS_CFGCRC_REF.addr crc).put SYS_CFGCRC_STAT.MATCH 1
        { s with sys := { s.sys with guardArmed := true } }
      else
        let s := (s.put SYS_CFGCRC_STAT.MATCH 0).put SYS_CFGCRC_STAT.MISMATCH 1
        if s.sys.guardArmed then
          ({ s with sys := { s.sys with guardArmed := false } } : State).fltInfo 0x30 0 0x00 s.mgmtLocation crc.toNat
        else s)

end Sys2Proof.Machine
end

