-- ==== Sys2Proof/Machine/Power.lean ====
section
/-! DEFINITION. PWR: the power domains, their checks, drains and restarts (R582 to R588). -/

namespace Sys2Proof.Machine

/-- Domain d takes a state code; bit d of PWR_ON follows it (R589), and a guard pass in progress is spoilt (R530). -/
def State.setDom (s : State) (d st : Nat) : State :=
  let s := (s.put (PWR_DOM_STAT.STATE d) st).put PWR_ON.ON (setBit (s.get PWR_ON.ON) d (st == 2))
  { s with sys := { s.sys with guardSpoilt := true } }

/-- A request for domain d is refused after its write has been accepted (R585, R588). -/
def State.downRefused (s : State) (d : Nat) (src : Source) (e : Err) : State :=
  (s.put (PWR_DOM_STAT.LAST_CODE d) e.code).refuseOp 0x01 (0x100 + d * 8) src e

/-- Pipe p is in use: it has a schedule, or carries another's (R31). -/
def State.pipeInUse (s : State) (p : Nat) : Bool :=
  if p == 8 then s.flag FFT_SPARE_STAT.IN_USE || s.fft.carry.any (fun x => x.2 == 8)
  else s.hasSchedule p

/-- The owning chapter refuses a power-down of domain d (R31, R249, R284, R309, R333, R372, R433, R474, R410, R426). -/
def State.downConflict (s : State) (d : Nat) (src : Source) : Bool :=
  match d with
  | 7 => s.appFlag DPY_CTRL.EN
  | 8 => src == .host || (stallsV s.app).any (fun k =>
      s.app (DMA_S_SPACE.SSPACE k) == spHOST || s.app (DMA_S_SPACE.DSPACE k) == spHOST)
  | 9 => (stallsV s.app).any (fun k => s.app (DMA_S_SPACE.DSPACE k) == spSTORE) || s.flag SPT_STAT.FLUSH_BUSY
      || ! s.spt.out.isEmpty
  | 14 => (List.range 10).any (fun p => pipeDomain p == 14 && s.pipeInUse p)
  | 15 => (List.range 10).any (fun p => pipeDomain p == 15 && s.pipeInUse p)
  | 16 => (List.range 10).any (fun p => pipeDomain p == 16 && s.pipeInUse p)
  | 17 => (List.range 16).any s.ddcEn
  | 18 => s.appFlag TRG_CTRL.EN
  | 19 => s.appFlag NEB_CTRL.EN
  | 20 => (List.finRange 8).any (fun (n : Fin 8) => coreDomain n == 20 && s.appFlag (LOD_CTRL.EN n))
  | 21 => (List.finRange 8).any (fun (n : Fin 8) => coreDomain n == 21 && s.appFlag (LOD_CTRL.EN n))
  | 22 => (List.range 2).any (fun a => s.appFlag (AUX_SEQ.EN a)) || ! (loopsV s.app).isEmpty
      || (List.range 8).any (fun m => s.appFlag (AUX_SPI_CFG.EN m)) || s.appFlag SRV_SS_CTRL.EN
      || (List.range 8).any (fun o => ownerV s.app o != 0)
  | 23 => (List.range 4).any s.acqBusy
  | _ =>
    if 2 ≤ d ∧ d < 6 then (List.range 32).any (fun n => laneDomain n == d && s.appFlag (LNK_LANE_CTRL.EN n))
    else if 10 ≤ d ∧ d < 14 then (List.range 4).any s.acqBusy
      || (s.inRun && (List.range 8).any (fun c => memDomOf c == d && decide (c < s.memCtrls)))
    else true

/-- A power-down of domain d changes a measured capacity (R43, R45). -/
def State.altersCapacity (s : State) (d : Nat) : Bool := [dDISP, dPCIE_H, dPCIE_S, dFFT_A, dFFT_B].contains d && s.dom d == 2

/-- Steps 2 and 3 of R585. -/
def State.downCheck (s : State) (d : Nat) (src : Source) : Option Err :=
  if s.frozen || s.get SYS_UPDATE_STAT.STATE != 0 then some .busy
  else if s.downConflict d src then some .conflict
  else none

/-- Stalls between descriptors that reach domain d hold at once (R389, R586). -/
def State.holdIdle (s : State) (d : Nat) : State :=
  (List.range 32).foldl (fun (s : State) k =>
    if (s.dmaState k == dRUNNING || s.dmaState k == dWAITDESC) && (s.dmaCur k).isNone && s.stallTouches k d then
      let s := s.setDma k dSTOPPED
      { s with pwr := { s.pwr with held := s.pwr.held ++ [(k, d)] } }
    else s) s

/-- A stall that has not finished its work with domain d. -/
def State.drainWaits (s : State) (d : Nat) : Bool :=
  (List.range 32).any (fun k => [dRUNNING, dSTOPPING, dWAITBAR, dWAITDESC].contains (s.dmaState k) && s.stallTouches k d)

/-- Domain d begins to switch off: its outputs are isolated (R585). -/
def State.switchOff (s : State) (d : Nat) (p : Progress) : State :=
  let s := (s.setDom d 4).put (PWR_DOM_STAT.LAST_CODE d) 0
  let s : State := { s with pwr := { s.pwr with held := s.pwr.held.filter (fun x => x.2 != d) } }
  let s := match d with
    | 8 => if s.flag HPT_LINK.UP then s.hostDown p else s.hptReset
    | 9 => if s.app SPT_CFG.VWC == 1 && s.get SPT_STAT.READY != 0 then s.put SPT_STAT.FLUSH_BUSY 1 else s
    | 7 => s
    | 22 => { s with pins := { s.pins with cdac := Pins.reset.cdac, pwm := Pins.reset.pwm, testDac := none, spiCsn := 0xFF } }
    | 18 => { s with pins := { s.pins with trigOut := 0 } }
    | _ =>
      if 2 ≤ d ∧ d < 6 then s.lanesFollow
      else if d == dFFT_A || d == dFFT_B || d == dFFT_S then s.fftDomain d false
      else s
  if [dDISP, dPCIE_H, dPCIE_S, dFFT_A, dFFT_B].contains d then s.capacityChanged true else s

/-- A forced power-down of domain d (R587). -/
def State.forceOff (s : State) (d : Nat) (p : Progress) : State :=
  let x := s.dmaForced d p
  ((x.2.bump PWR_CNT.FORCED).fltInfo 0x40 d 0x01 s.mgmtLocation x.1).switchOff d p

/-- Steps 4 and 5 of R585. -/
def State.downGo (s : State) (d : Nat) (src : Source) (force : Bool) (p : Progress) : State :=
  let r : Option Err × State := if s.altersCapacity d then s.admitWith s.app (s.caps.without d) else (none, s)
  match r.1 with
  | some e => r.2.downRefused d src e
  | none =>
    let s := r.2
    let s : State := { s with pwr := { s.pwr with asked := (d, src, force) :: s.pwr.asked.filter (fun x => x.1 != d) } }
    if force then s.forceOff d p else (s.setDom d 3).holdIdle d

/-- Domain d begins to power up (R584). -/
def State.powerUp (s : State) (d : Nat) : State := s.setDom d 1

/-! ### Commands -/

/-- The domain whose command register stands at a. -/
def domOfCmd (a : Nat) : Option Nat := (List.range 24).find? (fun d => PWR_DOM_CMD.addr d == a)

/-- A command that waits for another to end (R557, R585, R588). DEDUCED (log entry 8). -/
def State.pwrBusy (s : State) (d : Nat) (w : Word) : Bool :=
  let up := w.toNat.testBit 0
  let down := w.toNat.testBit 1
  -- the combinations of R588 are refused first, and a DOWN meets the state rules before the freeze (R585 step 1)
  if up == down || (w.toNat.testBit 2 && ! down) || (w.toNat.testBit 3 && ! up) then false
  else if s.frozen then ! (down && s.dom d == 0)
  else match s.dom d with
    | 0 => false
    | 1 => up
    | 2 => down && s.get SYS_UPDATE_STAT.STATE != 0
    | st =>
      let restart := s.flag (PWR_DOM_STAT.RESTART_PENDING d)
      (up && restart) || (down && ! restart && ! (w.toNat.testBit 2 && st == 3))

/-- A write of PWR_DOM_CMD[d] that nothing holds back (R583 to R588). DEDUCED (log entry 94). -/
def State.pwrCmd (s : State) (d : Nat) (src : Source) (w : Word) (p : Progress) : Except Err State :=
  let up := w.toNat.testBit 0
  let down := w.toNat.testBit 1
  let force := w.toNat.testBit 2
  let restore := w.toNat.testBit 3
  if (up && down) || (force && ! down) || (restore && ! up) then .error .conflict
  else if ! up && ! down then .ok s
  else if d == dAON || d == dMGMT || d == dMESH then .error .conflict
  else
    let noted (s : State) : State :=
      let l := s.pwr.restoreAsked.filter (· != d)
      { s with pwr := { s.pwr with restoreAsked := if restore then d :: l else l } }
    let asked (s : State) : State :=
      { s with pwr := { s.pwr with asked := (d, src, force) :: s.pwr.asked.filter (fun x => x.1 != d) } }
    match s.dom d with
    | 0 =>
      if down then .error .sequence
      else
        let s := ((noted s).powerUp d).put (PWR_DOM_STAT.LAST_CODE d) 0
        .ok (if d == dFFT_A || d == dFFT_B then s.admitRunning.2 else s)
    | 1 => .ok ((asked s).put (PWR_DOM_STAT.STOP_PENDING d) 1)
    | 2 =>
      if up then .error .sequence
      else match s.downCheck d src with
        | some e => .error e
        | none => .ok (s.downGo d src force p)
    | st =>
      if up then .ok ((noted s).put (PWR_DOM_STAT.RESTART_PENDING d) 1)
      else
        let s := s.put (PWR_DOM_STAT.RESTART_PENDING d) 0
        .ok (if force && st == 3 then (asked s).forceOff d p else s)

/-- PWR's own rules; `p` is what stalls move before a forced power-down ends their descriptors. -/
def pwrRules (p : Progress) : WriteRules :=
  { pre := fun s _ a w =>
      match domOfCmd a with
      | some d => if s.dev == halt then some .locked else if s.pwrBusy d w then some .busy else none
      | none => none
    act := fun src a w s => match domOfCmd a with | some d => s.pwrCmd d src w p | none => .ok s }

/-- PWR_UP (R584, R588). DEDUCED (log entry 92). -/
def execPwrUp (d : Fin 24) (src : Source) (v : Word) (s : State) : Out :=
  .next (s.writeReg (pwrRules []) src (PWR_DOM_CMD.addr d) (v ||| 1))

/-- PWR_DOWN (R585). `p` matters where the write carries FORCE too, or the host link goes down. DEDUCED (log entry 91). -/
def execPwrDown (d : Fin 24) (p : Progress) (src : Source) (v : Word) (s : State) : Out :=
  .next (s.writeReg (pwrRules p) src (PWR_DOM_CMD.addr d) (v ||| 2))

/-- PWR_FORCE (R587). DEDUCED (log entry 94). -/
def execPwrForce (d : Fin 24) (p : Progress) (src : Source) (v : Word) (s : State) : Out :=
  .next (s.writeReg (pwrRules p) src (PWR_DOM_CMD.addr d) (v ||| 6))

/-! ### Events -/

/-- The last DOWN asked of domain d: who, and FORCE. -/
def State.downAsk (s : State) (d : Nat) : Source × Bool :=
  match s.pwr.asked.find? (fun x => x.1 == d) with | some x => x.2 | none => (.host, false)

/-- The cores of domain d. -/
def coresOf (d : Nat) : List (Fin 8) := (List.finRange 8).filter (fun (n : Fin 8) => coreDomain n == d)

/-- Bytes lo to lo + n - 1 of SRAM written to zero (R584). -/
def State.zeroSram (s : State) (lo n : Nat) : State :=
  { s with sram := s.sram.filter (fun x => decide (x.1 < lo) || decide (lo + n ≤ x.1)) }

/-- The memories of domain d's blocks are written to zero with valid check bits (R584). -/
def State.zeroMemories (s : State) (d : Nat) : State :=
  (coresOf d).foldl (fun (s : State) (n : Fin 8) =>
    let data := 0x06000000 + n.val * 0x100000
    let prog := 0x06800000 + n.val * 0x20000
    (((s.zeroSram data 0x100000).unpoison data 0x100000).zeroSram prog 0x20000).unpoison prog 0x20000) s

/-- Domain d becomes ON: its blocks start (R584, R410, R442). -/
def State.domainStarts (s : State) (d : Nat) : State :=
  let s := s.zeroMemories d
  if 2 ≤ d ∧ d < 6 then s.lanesFollow
  else if 10 ≤ d ∧ d < 14 then s.memBegin
  else if d == dFFT_A || d == dFFT_B || d == dFFT_S then s.fftDomain d true
  else if d == dNEB then s.putB NEB_STAT.NO_VBLANK (s.get DPY_STAT.MSTATE != 4)
  else s

/-- DOMAIN_ON: domain d has powered up. A DOWN that waited runs its checks now (R588); `p` as for PWR_DOWN.
DEDUCED (log entry 91). -/
def execDomainOn (d : Fin 24) (p : Progress) (s : State) : Out :=
  .next (
    if ! s.alive || s.dom d != 1 then s
    else
      let s := ((s.setDom d 2).put (PWR_DOM_STAT.RESTART_PENDING d) 0).domainStarts d
      let s := (s.capacityChanged false).recSettle
      if s.flag (PWR_DOM_STAT.STOP_PENDING d) then
        let s := s.put (PWR_DOM_STAT.STOP_PENDING d) 0
        let q := s.downAsk d
        match s.downCheck d q.1 with
        | some e => s.downRefused d q.1 e
        | none => s.downGo d q.1 q.2 p
      else s)

/-- RESTORE_DONE: the pending copies of domain d's blocks take the values that were applied (R584).
DEDUCED (log entry 95). -/
def execRestoreDone (d : Fin 24) (s : State) : Out :=
  .next (
    if ! s.alive || ! s.domOn d || ! s.pwr.restoreAsked.contains d.val then s
    else
      let s := (s.pwr.saved.filter (fun x => x.1 == d.val)).foldl (fun (s : State) x =>
        s.setWord x.2.1 ((s.word x.2.1 &&& ~~~(bufMask x.2.1)) ||| x.2.2)) s
      let s := s.put (PWR_DOM_STAT.RESTORED d) 1
      { s with pwr := { s.pwr with restoreAsked := s.pwr.restoreAsked.filter (· != d.val) } })

/-- DRAIN_DONE: every stall that uses domain d holds (R586). -/
def execDrainDone (d : Fin 24) (p : Progress) (s : State) : Out :=
  .next (if s.alive && s.dom d == 3 && ! s.drainWaits d then s.switchOff d p else s)

/-- DRAIN_TIMEOUT: the power-down is refused, and held stalls resume (R586, R588). -/
def execDrainTimeout (d : Fin 24) (s : State) : Out :=
  .next (
    if s.alive && s.dom d == 3 then
      let s := (s.setDom d 2).put (PWR_DOM_STAT.RESTART_PENDING d) 0
      let s := (s.pwr.held.filter (fun x => x.2 == d.val)).foldl (fun (s : State) x =>
        if s.dmaState x.1 == dSTOPPED then s.setDma x.1 dRUNNING else s) s
      let s : State := { s with pwr := { s.pwr with held := s.pwr.held.filter (fun x => x.2 != d.val) } }
      s.downRefused d (s.downAsk d).1 .busy
    else s)

/-- The registers that go off with domain d: those of its blocks that no other domain keeps on (R22, R584). -/
def State.regsOfDomain (s : State) (d : Nat) : List Nat :=
  (blocks.filter (fun b => (blockDomains b).contains d)).flatMap (fun b =>
    (addrsOfBlock b).filter (fun a => (domainsOfReg a).contains d && (domainsOfReg a).all (fun e => s.dom e == 0 || e == d)))

/-- What the blocks of domain d keep beside their registers starts afresh (R584). -/
def State.blocksForget (s : State) (d : Nat) : State :=
  match d with
  | 7 => { s with dpy := DpySt.reset }
  | 9 => { s with spt := SptSt.reset, pins := { s.pins with spPerstN := 0 } }
  | 17 => { s with ddc := DdcSt.reset }
  | 18 => { s with trg := TrgSt.reset }
  | 19 => { s with neb := NebSt.reset }
  | 20 => s.lodDomain 20
  | 21 => s.lodDomain 21
  | 22 => { s with aux := AuxSt.reset, srv := SrvSt.reset }
  | 23 => { s with acq := AcqSt.reset, dma := DmaSt.reset }
  | _ =>
    if 10 ≤ d ∧ d < 14 then
      let s := s.memDomain d
      if (List.range 8).any (fun c => memDomOf c == d && decide (c < s.memCtrls)) then
        { (s.put MEM_STAT.STATE gOFF).put MEM_USABLE.USABLE 0 with gddr := [] }
      else s
    else if 14 ≤ d ∧ d < 17 then
      if s.dom 14 == 0 && s.dom 15 == 0 && s.dom 16 == 0 then { s with fft := FftSt.reset } else s
    else s

/-- Domain d is off: both copies of its registers take reset values, and the applied values are kept for a RESTORE. -/
def State.domainDead (s : State) (d : Nat) : State :=
  let s := if d == dPCIE_S then s.drivesGone else s
  let s := s.setDom d 0
  let as_ := s.regsOfDomain d
  let keep := (as_.filter (fun a => bufMask a != 0 && s.appWord a != appliedDefault a)).map (fun a => (d, a, s.appWord a))
  let s : State := { s with pwr := { s.pwr with saved := s.pwr.saved.filter (fun x => x.1 != d) ++ keep } }
  let s := if d == dPCIE_H then s.hptReset else as_.foldl (fun (s : State) a => s.resetReg a) s
  s.blocksForget d

/-- DOMAIN_OFF: domain d has switched off; a pending restart powers it up (R585, R588). DEDUCED (log entry 96). -/
def execDomainOff (d : Fin 24) (s : State) : Out :=
  .next (
    if s.alive && s.dom d == 4 && ! (d.val == dPCIE_S && s.flag SPT_STAT.FLUSH_BUSY) then
      let s := s.domainDead d
      if s.flag (PWR_DOM_STAT.RESTART_PENDING d) then s.powerUp d else s
    else s)

end Sys2Proof.Machine
end

