-- ==== Sys2Proof/Machine/Capacity.lean ====
section
/-! DEFINITION. The events that change a measured capacity, and after which admission reruns (R44, R45): pipes, GDDR6, the
host link, drives, the display link. -/

namespace Sys2Proof.Machine

/-- Some capacity of b is below that of a. -/
def Caps.fell (a b : Caps) : Bool :=
  a.pipes.any (fun p => ! b.pipes.contains p) || decide (b.memBytes < a.memBytes) || decide (b.memRate < a.memRate)
  || decide (b.host.1 * a.host.2 < a.host.1 * b.host.2)
  || a.drives.any (fun x => match b.drives.find? (fun y => y.1 == x.1) with
      | some y => decide (y.2.1 * x.2.2 < x.2.1 * y.2.2) | none => true)
  || (match a.link, b.link with | some x, some y => decide (y < x) | some _, none => true | none, _ => false)

/-- Admission reruns where the capacities are no longer those of `old`. -/
def State.settleCaps (s old : State) : State :=
  if s.caps = old.caps then s else s.capacityChanged (old.caps.fell s.caps)

/-- CAPACITY_FALL: capacity c falls to the value given (R44). DEDUCED (log entry 24). DEDUCED (log entry 25). -/
def execCapacityFall (c : Capacity) (s : State) : Out :=
  .next (
    if ! s.alive then s
    else
      let t := match c with
        | .pipe p => if s.pipeGood p then ((s.setPipe p pFAILED).loseFrames p).pipeCondition else s
        | .pinRate code => if s.memReady then s.put MEM_FREQ.RATE_NOW code.toNat else s
        | .hostLink w g =>
          if ! (s.domOn dPCIE_H && s.flag HPT_LINK.UP) then s
          else if w = 0 then s.hostDown []
          else (s.put HPT_LINK.WIDTH w.toNat).put HPT_LINK.SPEED g.toNat
        | .driveLink d w g =>
          if ! s.driveReady d then s
          else
            let s := (s.put (SPT_DRV_STAT.WIDTH d) w.toNat).put (SPT_DRV_STAT.SPEED d) g.toNat
            if w = 0 then s.driveFailed d else s
        | .displayLink up rate lanes => if s.live dDISP then s.linkTrained rate.toNat lanes.toNat up else s
      t.settleCaps s)

/-- PIPE_FAIL (R194 to R198, R203). -/
def execPipeFail (p : Fin 10) (cause : BitVec 4) (loc : Word) (s : State) : Out :=
  .next ((s.pipeFailEvent p cause loc).settleCaps s)

/-- PATTERN_TEST_DONE (R198, R202). -/
def execPatternTestDone (p : Fin 10) (pass : Bool) (s : State) : Out := .next ((s.patternTestEvent p pass).settleCaps s)

/-- CHECK_TEST_DONE (R200 to R202). -/
def execCheckTestDone (pass : Bool) (s : State) : Out := .next ((s.checkTestEvent pass).settleCaps s)

/-! ### GDDR6 -/

/-- MEM's own rules (R433, R443, R445, R446). A FREQ_GO that admission refuses is an operation refused (R534). -/
def memRules : WriteRules :=
  { pre := fun s _ a w => memPre s a w
    act := fun src a w s =>
      if a == MEM_CMD.addr then
        let train := w.toNat.testBit 1
        let go := w.toNat.testBit 0
        if train && go then .error .conflict
        else if train then .ok s.memTrain
        else if go then
          if s.freqConflict then .error .conflict
          else
            let x := s.admitWith s.app { s.caps with memRate := s.memBudget (s.get MEM_FREQ.RATE) }
            .ok (match x.1 with
              | some e => x.2.refuseOp 0x14 (MEM_CMD.addr - 0x140000) src e
              | none => x.2.freqGo.settleCaps s)
        else .ok s
      else .ok s }

/-- MEM_TRAIN (R443). DEDUCED (log entry 68). -/
def execMemTrain (src : Source) (v : Word) (s : State) : Out := .next (s.writeReg memRules src MEM_CMD.addr (v ||| 2))

/-- FREQ_GO (R445). DEDUCED (log entry 68). -/
def execFreqGo (src : Source) (v : Word) (s : State) : Out := .next (s.writeReg memRules src MEM_CMD.addr (v ||| 1))

/-- TRAIN_RETRY: the step that failed is tried again; the third failure in succession fails the controller (R444). -/
def execTrainRetry (ok : Bool) (s : State) : Out :=
  .next (
    match s.mem.cur with
    | some c =>
      if ! s.memReady || c.fails = 0 then s
      else if ok then s.stepApplied { c with fails := 0 }
      else if c.fails < 2 then { s with mem := { s.mem with cur := some { c with fails := c.fails + 1 } } }
      else (s.memFailed (c.ch / 2)).settleCaps s
    | none => s)

/-- TRAINING_DONE (R442, R445). -/
def execTrainingDone (ok : Bool) (s : State) : Out := .next ((s.trainingDone ok).settleCaps s).recSettle

/-! ### Host link -/

/-- HOST_LINK_UP: the port has trained (R545); or the host writes its configuration space anew (R402). -/
def execHostLinkUp (width : BitVec 6) (speed : BitVec 3) (bme msixEn funcMask : Bool) (s : State) : Out :=
  .next (
    if s.dev != powerOff && s.domOn dPCIE_H && s.hpt.train then
      (s.hostUp width.toNat speed.toNat bme msixEn funcMask).settleCaps s
    else s)

/-- HOST_LINK_RESET (R408): `p` is what stalls move before their beats fail. DEDUCED (log entry 65). -/
def execHostLinkReset (p : List (Fin 32 × Nat × List Byte)) (s : State) : Out :=
  .next (if s.dev != powerOff && s.domOn dPCIE_H && s.flag HPT_LINK.UP then (s.hostDown p).settleCaps s else s)

/-! ### Drives -/

/-- DRIVE_BRINGUP (R419). DEDUCED (log entry 63). -/
def execDriveBringup (d : Fin 4) (ok : Bool) (lba : Nat) (metadata : Bool) (nsze : Nat) (mdts : BitVec 8)
    (mqes : BitVec 16) (s : State) : Out :=
  .next ((s.driveUp d ok lba metadata nsze mdts mqes).settleCaps s).recSettle

/-- NVME_TIMEOUT (R423, R424). DESIGN CHOICE (log entry 64). -/
def execNvmeTimeout (d : Fin 4) (n : Nat) (cid : BitVec 16) (s : State) : Out :=
  .next (if s.alive && s.domOn dPCIE_S then (s.nvmeTimeout d n cid).settleCaps s else s)

/-- DRIVE_FAIL: the drive reports CSTS.CFS, or loses its link (R424). -/
def execDriveFail (d : Fin 4) (linkLost : Bool) (s : State) : Out :=
  .next (
    if s.alive && s.domOn dPCIE_S && s.get (SPT_DRV_STAT.STATE d) != vABSENT then
      let t := if linkLost then (s.put (SPT_DRV_STAT.WIDTH d) 0).put (SPT_DRV_STAT.SPEED d) 0 else s
      (t.driveFailed d).settleCaps s
    else s)

/-! ### Display link -/

/-- LINK_TRAINED: training ends at a combination of rate and lanes, or with the link down (R329, R330). Without FALLBACK no
other combination than the committed one is tried. DEDUCED (log entry 53). -/
def execLinkTrained (rate : BitVec 3) (lanes : BitVec 2) (ok : Bool) (s : State) : Out :=
  .next (
    let same := s.app DPY_CTRL.RATE == rate.toNat && s.app DPY_CTRL.LANES == lanes.toNat
    if s.live dDISP && s.get DPY_STAT.MSTATE == mTRAIN && (! ok || same || s.appFlag DPY_CTRL.FALLBACK) then (s.linkTrained rate.toNat lanes.toNat ok).settleCaps s else s)

end Sys2Proof.Machine
end

