-- ==== Sys2Proof/Machine/Faults.lean ====
section
/-! DEFINITION. FLT: the fault log, the acknowledgement of conditions, SRAM protection, temperature, supplies, the
post-mortem dump (R565 to R581). -/

namespace Sys2Proof.Machine

/-! ### The fault log (R568) -/

/-- The eight words of a record (R566). -/
def FltRec.words (r : FltRec) : List Word :=
  [BitVec.ofNat 32 (r.code * 2 ^ 24 + r.cls.code * 2 ^ 22 + r.sub * 2 ^ 16 + r.window * 2 ^ 8 + r.rep),
   BitVec.ofNat 32 r.location, BitVec.ofNat 32 r.stamp.toNat, BitVec.ofNat 32 (r.stamp.toNat / 2 ^ 32),
   BitVec.ofNat 32 (r.stamp.toNat / 2 ^ 64 + r.tq % 4 * 2 ^ 16), BitVec.ofNat 32 r.detail, BitVec.ofNat 32 r.seq,
   BitVec.ofNat 32 (r.devState * 2 ^ 16 + r.active)]

/-- The oldest record of the hardware queue enters the fault log, or finds it full. -/
def State.moveRecord (s : State) : State :=
  match s.flt.hwq with
  | [] => s
  | r :: l =>
    let s : State := { s with flt := { s.flt with hwq := l } }
    if s.flt.log.length < 256 then
      ({ s with flt := { s.flt with log := s.flt.log ++ [r] } } : State).raiseIrq 93
    else (s.bump FLT_LOG_STAT.DROP).put FLT_LOG_STAT.OVF 1

/-- Every record of the hardware queue moves, at most `n`. -/
def State.moveRecords (s : State) : Nat → State
  | 0 => s
  | n + 1 => if s.flt.hwq.isEmpty then s else State.moveRecords s.moveRecord n

/-- FAULT_LOG_MOVE: the active complex moves one record (R568). In HALT both complexes are held in reset (R578); during a
handover records wait (R558). -/
def execFaultLogMove (s : State) : Out := .next (if s.alive && ! s.frozen then s.moveRecord else s)

/-- The conditions that a write of ACK clears (R569, R570). -/
def State.fltAck (s : State) (ack : Nat) : State :=
  let s := if ack.testBit 7 then s.clearActive 7 else s
  let s := if ack.testBit 9 then s.clearActive 9 else s
  if ack.testBit 8 then
    let s := s.put FLT_POISON.POISON_OVF 0
    let s : State := { s with flt := { s.flt with poisonUntracked := [] } }
    s.clearActive 8
  else s

/-- FLT's own rules (R568, R570). -/
def fltRules : WriteRules :=
  { pre := fun _ _ _ _ => none
    act := fun _ a w s =>
      if a == FLT_CMD.addr then
        let ack := bitsOf w 16 10
        let pop := w.toNat.testBit 0
        if (List.range 10).any (fun b => ack.testBit b && b != 7 && b != 9 && ! (b == 8 && s.flag FLT_POISON.POISON_OVF)) then
          .error .conflict
        else if pop && s.flt.log.isEmpty then .error .sequence
        else
          let s := if ack == 0 then s else s.fltAck ack
          .ok (if pop then { s with flt := { s.flt with log := s.flt.log.drop 1 } } else s)
      else .ok s }

/-- FLT_ACK: a write of FLT_CMD whose ACK bits stand in v (R570). DEDUCED (log entry 97). -/
def execFltAck (src : Source) (v : Word) (s : State) : Out := .next (s.writeReg fltRules src FLT_CMD.addr v)

/-- FAULT_LOG_POP (R568). -/
def execFaultLogPop (src : Source) (v : Word) (s : State) : Out := .next (s.writeReg fltRules src FLT_CMD.addr (v ||| 1))

/-! ### SRAM protection (R571 to R574) -/

/-- The row of SRAM address a is due for sparing; a macro with no free spare raises SRAM_SPARE_EXH (R574). -/
def State.sramRowDue (s : State) (a : Nat) : State :=
  let row := Config.sramRow a
  if s.flt.rowsDue.contains row then s
  else if (s.flt.rowsSpared.filter (fun r => Config.sramMacro r == Config.sramMacro row)).length
      + (s.flt.rowsDue.filter (fun r => Config.sramMacro r == Config.sramMacro row)).length < 8 then
    { s with flt := { s.flt with rowsDue := s.flt.rowsDue ++ [row] } }
  else
    let x := s.sramLoc row
    x.2.fltRec 9 0x3A 0 0x1B x.1 row

/-- A read has found word a uncorrectable: it is poisoned (R573). -/
def State.poison (s : State) (a requester : Nat) : State :=
  let s := s.bump FLT_SRAM_CNT.UE_COUNT
  let s : State := if s.flt.poison.length < 16 then
      let p := s.flt.poison ++ [a]
      ({ s with flt := { s.flt with poison := p } } : State).put FLT_POISON.HELD p.length
    else
      ({ s with flt := { s.flt with poisonUntracked := a :: s.flt.poisonUntracked } } : State).put FLT_POISON.POISON_OVF 1
  let x := s.sramLoc a
  (x.2.fltRec 8 0x38 requester 0x1B x.1 a).sramRowDue a

/-- SRAM_SCRUB: the scrubber reads 64-bit word number `word`: clean, corrected, or uncorrectable (R571 to R574). A word
that is poisoned stays so. DESIGN CHOICE (log entry 70). DESIGN CHOICE (log entry 71). -/
def execSramScrub (word : Nat) (errors : Fin 3) (s : State) : Out :=
  .next (
    let a := word * 8
    if ! s.alive || 0x08000000 ≤ a || s.poisoned a then s
    else if errors.val = 2 then s.poison a 12
    else if errors.val = 1 then
      let row := Config.sramRow a
      let s := s.bump FLT_SRAM_CNT.CE_COUNT
      let day : Nat := 86400 * 2 ^ 40
      let kept := (row, s.now) :: s.flt.rowCorr.filter (fun x => decide (s.now.toNat - x.2.toNat < day))
      if s.get FLT_SCRUB.CE_THRESH ≤ (kept.filter (fun x => x.1 == row)).length then
        ({ s with flt := { s.flt with rowCorr := kept.filter (fun x => x.1 != row) } } : State).sramRowDue a
      else { s with flt := { s.flt with rowCorr := kept } }
    else s)

/-- SRAM_ROW_SPARED: the copy of the row that has waited longest completes, and the row is redirected. Poisoned words stay
poisoned (R574). -/
def execSramRowSpared (s : State) : Out :=
  .next (
    match s.flt.rowsDue with
    | [] => s
    | row :: l =>
      if ! s.alive then s
      else
        let s : State := { s with flt := { s.flt with rowsDue := l, rowsSpared := s.flt.rowsSpared ++ [row] } }
        let x := (s.bump FLT_SRAM_SPARES.SPARES).sramLoc row
        x.2.fltInfo 0x39 0 0x1B x.1 row)

/-! ### Temperature and supplies (R576, R577) -/

/-- THERM_SAMPLE: the hottest sensor reads tj degrees (R576, R597). DEDUCED (log entry 93). DEDUCED (log entry 99). -/
def execThermSample (tj : Int) (sensor : BitVec 6) (s : State) : Out :=
  .next (
    if s.dev == powerOff || 16 ≤ sensor.toNat then s
    else
      let s := s.put FLT_THERM.TJ_NOW (satSigned 8 tj)
      let warn : Int := s.get FLT_THERM.WARN
      let s : State :=
        if decide (warn ≤ tj) && s.flt.warnArmed then
          ({ s with flt := { s.flt with warnArmed := false } } : State).fltInfo 0x3D sensor.toNat 0x1B s.mgmtLocation (ofSigned 32 tj)
        else if tj ≤ warn - 2 then { s with flt := { s.flt with warnArmed := true } }
        else s
      if 120 ≤ tj && s.flt.tripArmed then
        ({ s with flt := { s.flt with tripArmed := false } } : State).fltFatal 0x3E sensor.toNat 0x1B s.mgmtLocation (ofSigned 32 tj)
      else if tj < 118 then { s with flt := { s.flt with tripArmed := true } }
      else s)

/-- Nominal millivolts, monitor window in per cent, and reset threshold in per cent of each rail (R590). -/
def railTable : List (Nat × Nat × Nat) :=
  [(750, 5, 12), (800, 5, 12), (750, 5, 12), (900, 4, 12), (1200, 5, 12), (900, 4, 12), (1350, 5, 12), (1800, 4, 12),
   (1800, 8, 15), (3300, 8, 15)]

/-- A rail is outside its monitor window, and not below its reset threshold. -/
def outsideWindow (rail mv : Nat) : Bool :=
  match railTable[rail]? with
  | some (nom, win, thr) =>
    (decide (mv * 100 < nom * (100 - win)) && decide (nom * (100 - thr) ≤ mv * 100)) || decide (nom * (100 + win) < mv * 100)
  | none => false

/-- SUPPLY_FAULT: a rail has been at mv, outside its window, for 10 us (R577). -/
def execSupplyFault (rail : Fin 10) (mv : Nat) (s : State) : Out :=
  .next (if outsideWindow rail mv then s.fltFatal 0x3F rail 0x1B s.mgmtLocation mv else s)

/-! ### The dump (R578 to R581) -/

/-- Where the dump region begins (R39). -/
abbrev dumpBase : Nat := 0x06D00000

/-- Bytes filled up to n with zeros. -/
def fillTo (n : Nat) (l : List Byte) : List Byte := (l ++ List.replicate (n - l.length) 0).take n

/-- Words as bytes, little-endian. -/
def wordBytes (l : List Word) : List Byte := l.flatMap (fun w => leBytes 4 w.toNat)

/-- The current value of a register: its applied bits where it has two copies, else the register. -/
def State.currentWord (s : State) (a : Nat) : Word := (s.word a &&& ~~~(bufMask a)) ||| s.appWord a

/-- The registers of every domain that is on, in ascending address. -/
def State.snapshotAddrs (s : State) : List Nat :=
  blocks.flatMap (fun b =>
    ((addrsOfBlock b).filter (fun a => (domainsOfReg a).any (fun d => s.dom d != 0))).foldl (fun l a => insertAddr a l) [])

/-- The register snapshot: BAR0 address, current value, pending value. -/
def State.dumpSnapshot (s : State) : List Byte :=
  s.snapshotAddrs.flatMap (fun a => wordBytes [BitVec.ofNat 32 a, s.currentWord a, s.word a])

/-- IMG_SEQ of the booted slot. -/
def State.bootedSeq (s : State) : Word := if s.get UPD_BOOT.SLOT == 1 then s.upd.slot1.imgSeq else s.upd.slot0.imgSeq

/-- The header of the dump without its CRC. -/
def State.dumpHeader (s : State) (len : Nat) : List Byte :=
  let f := match s.flt.fatal with | some r => wordBytes r.words ++ stampBytes r.stamp | none => List.replicate 42 0
  fillTo 252 (wordBytes [0x504D4458, s.word SYS_ID.addr, s.word UPD_VER_ACT.addr, s.word UPD_VER_STBY.addr, s.bootedSeq]
    ++ f ++ leBytes 2 (s.get FLT_DUMP.FATAL_EXTRA) ++ leBytes 4 (len * 8192))

/-- The fault log and SYS_ERR_LOG as the dump holds them. -/
def State.dumpLogs (s : State) : List Byte :=
  fillTo 0x2000 (s.flt.log.flatMap (fun r => wordBytes r.words))
  ++ fillTo 0x100 (s.sys.errLog.flatMap (fun e => wordBytes [e.w0, e.w1, e.w2, e.w3]))

/-- The complexes' state and the event trace, at offsets 0x2_0000 to 0x1F_FFFF: free values. -/
def State.dumpOpen (s : State) (n : Nat) : List Byte :=
  (List.range n).map (fun i => Config.dumpByte s.freeCtr i)

/-- The dump as it stands, its CRC taken as 0, in its first len x 8 KiB. -/
def State.dumpBytes (s : State) (len : Nat) : List Byte :=
  ((fillTo 0x100 (s.dumpHeader len)) ++ fillTo 0xFF00 s.dumpLogs ++ fillTo 0x10000 s.dumpSnapshot ++ s.dumpOpen 0x1E0000).take
    (len * 8192)

/-- What stays on in HALT (R578). -/
def haltOn (d : Nat) : Bool := d == dAON || d == dMGMT || d == dMESH || d == dPCIE_H

/-- Domains whose registers are captured switch off, and GDDR6 contents are lost (R578). -/
def State.haltOff (s : State) : State :=
  let s := (List.range 24).foldl (fun (s : State) d => if haltOn d || s.dom d == 0 then s else s.setDom d 0) s
  { s with
    gddr := []
    pins := { s.pins with cdac := Pins.reset.cdac, pwm := Pins.reset.pwm, testDac := none } }

/-- DUMP_DONE: the dump of len units of 8 KiB completes (R580, R581). DESIGN CHOICE (log entry 98). -/
def execDumpDone (len : BitVec 9) (s : State) : Out :=
  .next (
    if s.dev != halt || s.flag FLT_DUMP.DONE || len = 0 || 256 < len.toNat then s
    else
      let bs := s.dumpBytes len.toNat
      let crc := crc32c bs
      let s := (s.setSramBytes dumpBase bs).setSramLE (dumpBase + 252) 4 crc.toNat
      let s := s.drawFree.haltOff
      (s.put FLT_DUMP.LEN len.toNat).put FLT_DUMP.DONE 1)

end Sys2Proof.Machine
end

