-- ==== Sys2Proof/Machine/Constellation.lean ====
section
/-! DEFINITION. CST: ports and links, enumeration, Pulsar beacons, global operations, link failure (R486 to R506), as one
node sees them. What the neighbours send comes in as commands; what this node sends stands in `cst.sent` and
`cst.beacon`. -/

namespace Sys2Proof.Machine

/-- The location code of the Constellation ports (R37). -/
def cstLocation : Nat := tileLoc 2 12 0

/-- CST's own part changed. -/
def State.modCst (s : State) (f : CstSt → CstSt) : State := { s with cst := f s.cst }

/-- Units of a stamp in n picoseconds, truncated. -/
def psToStamp (n : Int) : Int := n * 2 ^ 40 / 1000000000000

/-- D x h + 1 us as a stamp difference (R501 to R503). -/
def State.cstLead (s : State) : Nat := nsToStamp (s.cstDepth * s.get CST_HOP.H + 1000)

/-- The time D x h + 1 us from now. -/
def State.cstInstant (s : State) : Stamp := s.now + BitVec.ofNat 80 s.cstLead

/-! ### Operation status -/

/-- The operation kinds of CST_OP_STAT. -/
abbrev opBcast : Nat := 0
abbrev opBarrier : Nat := 1
abbrev opSnap : Nat := 2
abbrev opApply : Nat := 3
abbrev opReset : Nat := 4

/-- Operation k begins at this node. -/
def State.opBegin (s : State) (k : Nat) : State :=
  let s := ((s.put (CST_OP_STAT.BUSY k) 1).put (CST_OP_STAT.DONE k) 0).put (CST_OP_STAT.CODE k) 0
  (s.put (CST_OP_STAT.NODE k) 0).put CST_MEMBERS.MEMBERS (if s.cstRoot then s.cst.members else s.get CST_MEMBERS.MEMBERS)

/-- Operation k ends at this node. -/
def State.opEnd (s : State) (k node code : Nat) : State :=
  ((s.put (CST_OP_STAT.BUSY k) 0).put (CST_OP_STAT.DONE k) 1).put (CST_OP_STAT.NODE k) node |>.put (CST_OP_STAT.CODE k) code

/-- Operation k runs at this node. -/
def State.opRuns (s : State) (k : Nat) : Bool := s.flag (CST_OP_STAT.BUSY k)

/-- The update that a synchronised apply holds is let go without an edge (R502). -/
def State.applyDrop (s : State) : State :=
  let s := s.modCst (fun c => { c with apply := none })
  if s.sys.updCst then
    { s.put SYS_UPDATE_STAT.STATE 0 with sys := { s.sys with updCst := false } }
  else s

/-- The synchronised apply ends at this node without an edge. -/
def State.applyAbort (s : State) (node code : Nat) : State := if s.opRuns opApply then (s.opEnd opApply node code).applyDrop else s

/-- Every operation other than the reset is cancelled (R503). -/
def State.cancelOps (s : State) : State :=
  let e := Err.sequence.code
  let s := if s.opRuns opBcast then s.opEnd opBcast 0 e else s
  let s := if s.opRuns opBarrier then s.opEnd opBarrier 0 e else s
  let s := if s.opRuns opSnap then s.opEnd opSnap 0 e else s
  (s.applyAbort 0 e).modCst (fun c =>
    { c with tx := [], arrived := false, childArrived := [], reported := false, barLost := false, snap := none, snapLost := false })

/-! ### Membership -/

/-- The node leaves the Constellation: its link towards the root is down (R492, R496, R505). -/
def State.cstLeave (s : State) : State := ((s.put CST_NODE.VALID 0).put CST_NODE.ID 0).put CST_NODE.HOPS 0

/-- The node reports holdover and re-acquires (R496, R505). -/
def State.cstHoldover (s : State) : State :=
  let s := (s.put CST_STAT.LOCKED 0).put CST_STAT.HOLDOVER 1
  let s := s.modCst (fun c => { c with stepped := false, good := 0, bad := 0 })
  if s.almSrc == 3 then s.enterHoldover else s

/-- The root learns that members are lost (R505, R506). -/
def State.rootLoses (s : State) (members : Nat) : State :=
  if ! s.cstRoot then s
  else
    let s := (s.modCst (fun c => { c with members := members, snapLost := c.snap.isSome })).put CST_MEMBERS.MEMBERS members
    let s := if s.opRuns opBarrier || ! s.cst.childArrived.isEmpty then s.modCst (fun c => { c with barLost := true }) else s
    match s.cst.apply with
    | some x => if x.commit.isNone then (s.cstDown (.abort 0 Err.sequence.code)).applyAbort 0 Err.sequence.code else s
    | none => s

/-- An apply that has no COMMIT aborts when the parent link goes down (R506). -/
def State.parentLost (s : State) : State :=
  match s.cst.apply with
  | some x => if x.commit.isNone then s.applyAbort 0 Err.sequence.code else s
  | none => s

/-- The ring's link from node j to node j + 1 fails (R505): the first failure makes a chain, a second separates. -/
def State.ringFails (s : State) (j : Nat) : State :=
  let i := s.get CST_NODE.ID
  let was := s.via0 i
  match s.cst.ringBroken with
  | none =>
    let s := (s.modCst (fun c => { c with ringBroken := some j })).put CST_STAT.RING_BROKEN 1
    if s.cstRoot || was == s.via0 i then s.put CST_NODE.HOPS (if s.cstRoot then 0 else s.ringHops i)
    else ((s.put CST_NODE.HOPS (s.ringHops i)).parentLost).cstHoldover
  | some k =>
    if k == j || s.cstRoot then s
    else
      let cut := if was then decide (j < i) else decide (i ≤ j)
      if cut then (s.parentLost).cstLeave.cstHoldover else s

/-- What the node does when its port p no longer carries traffic (R496, R505, R506). -/
def State.linkLost (s : State) (p members : Nat) : State :=
  if ! s.cstValid then s
  else
    let s := if s.ring then
        if p < 2 then
          let i := s.get CST_NODE.ID
          s.ringFails (if p = 1 then i else (i + s.ringN - 1) % s.ringN)
        else s
      else if s.parentPort == some p then (s.parentLost).cstLeave.cstHoldover
      else s
    s.rootLoses members

/-! ### Ports (R486 to R491) -/

/-- The ID that the neighbour on port p gives this node: ID and hop count; none for a node out of range (R490, R491). -/
def State.cstIdFrom (s : State) (peer : Nat × Nat × Nat) : Option (Nat × Nat) :=
  if s.ring then some ((peer.1 + 1) % s.ringN, s.ringHops ((peer.1 + 1) % s.ringN))
  else
    let i := 3 * peer.1 + peer.2.1
    if 16383 < i || s.app CST_CTRL.MAXD < peer.2.2 + 1 then none else some (i, peer.2.2 + 1)

/-- PORT_UP: port p has aligned and measured its delay (ps). `peer` is the neighbour's ID, its port and its hop count, on
the port that gives this node its ID; `count` is what returns to the root: members, or the nodes of the ring; `c` is the
largest delay of the Constellation (ps); `healed` says that a broken ring is whole again (R487, R490 to R492, R505). -/
def execPortUp (p : Fin 4) (delay : Nat) (peer : Option (Nat × Nat × Nat)) (count : Option Nat) (c : Nat) (healed : Bool)
    (s : State) : Out :=
  .next (
    let st := s.get (CST_PORT_STAT.STATE p)
    if ! s.alive || ! s.flag (CST_PORT_CTRL.EN p) || (st != 1 && st != 2) then s
    else
      let s := s.put (CST_PORT_DELAY.DELAY p) delay
      if 2000000 < delay then (s.put (CST_PORT_STAT.STATE p) 1).put (CST_PORT_STAT.CAUSE p) 1
      else
        let s := (s.put (CST_PORT_STAT.STATE p) 3).put (CST_PORT_STAT.CAUSE p) 0
        if ! s.cstOn then s
        else
          let x := s.roundOpen (96000 + c : Nat) 1000
          let s := x.2.put CST_HOP.H (min x.1.toNat 4095)
          let s := if healed then (s.modCst (fun k => { k with ringBroken := none })).put CST_STAT.RING_BROKEN 0 else s
          let s := if ! s.cstRoot && p.val = 0 && ! s.flag CST_NODE.VALID then
              match peer with
              | none => s
              | some q =>
                match s.cstIdFrom q with
                | some (i, h) => (((s.put CST_NODE.ID i).put CST_NODE.HOPS h).put CST_NODE.VALID 1).put CST_STAT.ID_RANGE 0
                | none => (s.put CST_STAT.ID_RANGE 1).put (CST_PORT_STAT.STATE p) 1
            else s
          let s := if s.parentPort == some p.val then s.modCst (fun k => { k with stepped := false, good := 0, bad := 0 }) else s
          match count with
          | some m =>
            if s.cstRoot then
              (s.modCst (fun k => { k with members := m })).putB CST_STAT.SIZE_MISMATCH (s.ring && m != s.ringN)
            else s
          | none => s)

/-- PORT_DOWN: this node's port p goes DOWN, or, with `remote`, the node learns of a link that failed elsewhere: in a ring
from node j to node j + 1. `members` are the engines that remain, as the root counts them (R488, R496, R505, R506).
DEDUCED (log entry 79). -/
def execPortDown (p : Fin 4) (cause : BitVec 4) (remote : Option Nat) (members : Nat) (s : State) : Out :=
  .next (
    match remote with
    | some j => if s.cstValid then ((if s.ring then s.ringFails j else s).rootLoses members) else s
    | none =>
      let st := s.get (CST_PORT_STAT.STATE p)
      if ! s.alive || (st != 2 && st != 3) then s
      else
        let s := ((s.put (CST_PORT_STAT.STATE p) 1).put (CST_PORT_STAT.CAUSE p) cause.toNat).bump (CST_PORT_CNT.DOWNS p)
        let s := (s.fltInfo 0x2C p 0x19 cstLocation (s.word (CST_PORT_STAT.addr p)).toNat).raiseIrq 96
        s.linkLost p members)

/-- FRAME_RESEND (R488). DEDUCED (log entry 80). -/
def execFrameResend (p : Fin 4) (s : State) : Out :=
  .next (if s.alive && s.portUp p then (s.bump (CST_PORT_CNT.RESENDS p)).put CST_STAT.RESENT 1 else s)

/-! ### Beacons (R493 to R496) -/

/-- BEACON_SEND: a beacon on every port that leads to a child (R493). -/
def execBeaconSend (s : State) : Out :=
  .next (
    if ! s.cstValid then s
    else s.childPorts.foldl (fun (s : State) p =>
      let q : Fin 4 := Fin.ofNat _ p
      let b : Beacon := { time := s.now, tq := s.tq, reply := vget s.cst.reply q }
      s.modCst (fun c => { c with beacon := vset c.beacon q (some b), reply := vset c.reply q none })) s)

/-- BEACON_REPLY: the reply to a beacon reaches the parent on port p (R493). -/
def execBeaconReply (p : Fin 4) (stamp : Stamp) (s : State) : Out :=
  .next (if s.cstValid && s.childPorts.contains p.val then s.modCst (fun c => { c with reply := vset c.reply p (some stamp) }) else s)

/-- LOCKED after an offset of `o` picoseconds (R494). -/
def State.cstLockStep (s : State) (o : Int) : State :=
  let c := s.cst
  let good := if o.natAbs ≤ 1000 then c.good + 1 else 0
  let bad := if o.natAbs ≤ 10000 then 0 else c.bad + 1
  let s := s.modCst (fun c => { c with good := min good 64, bad := min bad 4 })
  if s.flag CST_STAT.LOCKED then if 4 ≤ bad then s.put CST_STAT.LOCKED 0 else s
  else if 64 ≤ good then
    let s := (s.put CST_STAT.LOCKED 1).put CST_STAT.HOLDOVER 0
    let s := s.modCst (fun c => { c with everLocked := true })
    { s with alm := { s.alm with holdover := false, returning := true } }
  else s

/-- BEACON_RECEIVE: a beacon arrives on port p with the parent's time, its TQ, the arrival in this node's time and the
one-way delay of that exchange in picoseconds (R493, R494). -/
def execBeaconReceive (p : Fin 4) (tTx : Stamp) (tq : BitVec 2) (tRx : Stamp) (c : Nat) (s : State) : Out :=
  .next (
    if ! (s.cstValid && s.parentPort == some p.val && s.portUp p) then s
    else
      let s := s.put (CST_PORT_DELAY.DELAY p) c
      let fix : Int := c + toSigned 16 (s.get (CST_PORT_CTRL.ASYM p))
      let raw : Int := (tRx.toNat : Int) - tTx.toNat
      let x := s.roundOpen (raw * 1000000000000 - fix * 2 ^ 40) (2 ^ 40)
      let s := x.2.put CST_OFFSET.OFFSET (satSigned 32 x.1)
      if s.almSrc != 3 then s
      else
        let d := raw - psToStamp fix
        let first := ! s.cst.stepped
        let s := s.modCst (fun k => { k with stepped := true })
        let s := if first && 1000000 < x.1.natAbs then s.stepTo (BitVec.ofInt 80 ((s.now.toNat : Int) - d))
          else { s with alm := { s.alm with slewLeft := -d * 2 ^ 24 } }
        let s := s.cstLockStep x.1
        let s : State := { s with alm := { s.alm with rootTq := if s.cst.everLocked then tq.toNat else 0 } }
        s.almTq.recSettle)

/-! ### Broadcast (R499) -/

/-- CST_BC_RX and CST_BC_STAT show the oldest message; while none is held they show free values. -/
def State.rxShow (s : State) : State :=
  let s := s.put CST_BC_STAT.COUNT s.cst.rx.length
  match s.cst.rx with
  | m :: _ =>
    (List.range 8).foldl (fun (s : State) k => s.setWord (CST_BC_RX.addr k) ((m.2[k]?).getD 0)) (s.put CST_BC_STAT.SRC m.1)
  | [] =>
    (List.range 8).foldl (fun (s : State) k => (s.setWord (CST_BC_RX.addr k) (s.free.setWidth 32)).drawFree)
      (s.put CST_BC_STAT.SRC s.free.toNat).drawFree

/-- BROADCAST_DELIVER: a broadcast of node `sender` reaches this node and goes on to its children. -/
def execBroadcastDeliver (sender : BitVec 14) (data : Vector Word 8) (s : State) : Out :=
  .next (
    if ! s.cstValid then s
    else
      let s := s.cstDown (.broadcast sender.toNat data.toList)
      let s := if s.opRuns opBcast && sender.toNat == s.get CST_NODE.ID && data.toList == s.cst.tx then s.opEnd opBcast 0 0 else s
      if s.cst.rx.length < 16 then (s.modCst (fun c => { c with rx := c.rx ++ [(sender.toNat, data.toList)] })).rxShow
      else s.put CST_BC_STAT.OVF 1)

/-! ### Barrier (R500) -/

/-- This node and its whole subtree have arrived. -/
def State.barComplete (s : State) : Bool := s.cst.arrived && s.childPorts.all (fun p => s.cst.childArrived.contains p)

/-- A complete subtree is reported to the parent once. -/
def State.barReport (s : State) : State :=
  if s.barComplete && ! s.cst.reported && ! s.cstRoot then (s.cstUp .arrived).modCst (fun c => { c with reported := true }) else s

/-- ARRIVAL_REPORT: the subtree on child port p has arrived. -/
def execArrivalReport (p : Fin 4) (s : State) : Out :=
  .next (
    if s.cstValid && s.childPorts.contains p.val then
      (s.modCst (fun c => { c with childArrived := p.val :: c.childArrived.filter (· != p.val) })).barReport
    else s)

/-- The barrier is released at root time t. -/
def State.barRelease' (s : State) (t : Stamp) (lost : Bool) : State :=
  let s := (s.cstDown (.release t lost)).putStamp CST_BAR_TS.addr t
  let s := s.opEnd opBarrier 0 (if lost then Err.sequence.code else 0)
  s.modCst (fun c => { c with arrived := false, childArrived := [], reported := false, barLost := false })

/-- BARRIER_RELEASE: at the root, every member has arrived, or a lost node is no longer waited for (R505); at a member, the
release arrives with the root's time. DEDUCED (log entry 77). -/
def execBarrierRelease (stamp : Stamp) (lost : Bool) (s : State) : Out :=
  .next (
    if ! s.cstValid then s
    else if s.cstRoot then
      if s.cst.barLost then s.barRelease' s.now true else if s.barComplete then s.barRelease' s.now false else s
    else s.barRelease' stamp lost)

/-! ### Snapshot (R501) -/

/-- The 64-byte record. -/
def State.snapRecord (s : State) (t : Stamp) (no : Word) (late : Bool) : List Byte :=
  let b := leBytes 2 0xC57A ++ leBytes 2 (s.get CST_NODE.ID) ++ leBytes 4 no.toNat ++ stampBytes t
    ++ leBytes 1 (b2n late + s.tq * 64) ++ leBytes 1 s.dev ++ leBytes 4 (s.word TRG_CNT_ACCEPT.addr).toNat
    ++ (List.range 4).flatMap (fun k => leBytes 4 (s.word (FFT_SRC_SEQ.addr k)).toNat)
    ++ (List.range 4).flatMap (fun k => leBytes 4 (s.word (ACQ_U_SEGNO.addr k)).toNat)
    ++ leBytes 4 (s.word NEB_PUB_SEQ.addr).toNat
  b ++ leBytes 4 (crc32c b).toNat

/-- SNAPSHOT_CAPTURE: at a member, `request` is the request received: T_S, SNAP_NO and whether T_S had passed; at the root
the snapshot under way is captured once T_S is reached. DEDUCED (log entry 76). DESIGN CHOICE (log entry 81). -/
def execSnapshotCapture (request : Option (Stamp × Word × Bool)) (s : State) : Out :=
  .next (
    let req := if s.cstRoot then s.cst.snap else request
    match req with
    | none => s
    | some (t, no, late) =>
      if ! s.cstValid || s.now.toNat < t.toNat then s
      else
        let s := if s.cstRoot then s else (s.opBegin opSnap).cstDown (.snapshot t no)
        let a := 0x06F00000 + s.app CST_SNAP_BASE.BASE * 64 + no.toNat % 16 * 64
        let s := (s.setSramBytes a (s.snapRecord t no late)).unpoison a 64
        let s := s.arbServe (sramPath a) 11 []
        let code := if s.cstRoot && s.cst.snapLost then Err.sequence.code else 0
        (s.opEnd opSnap 0 code).modCst (fun c => { c with snap := none, snapLost := false }))

/-! ### Synchronised apply (R502) -/

/-- The lowest refusing node of a list of verdicts: 0 and 0 where all pass. -/
def lowestRefusal (l : List (Nat × Nat)) : Nat × Nat :=
  l.foldl (fun b x => if x.2 = 0 then b else if b.2 = 0 || decide (x.1 < b.1) then x else b) (0, 0)

/-- The verdicts of this node and its subtree are complete: reported upward, or decided at the root. -/
def State.applyCollect (s : State) : State :=
  match s.cst.apply with
  | none => s
  | some x =>
    match x.own with
    | none => s
    | some own =>
      if x.decided || ! s.childPorts.all (fun p => x.from_.any (fun y => y.1 == p)) then s
      else
        let r := lowestRefusal ((s.get CST_NODE.ID, own) :: x.from_.map (·.2))
        if ! s.cstRoot then
          (s.cstUp (.verdict r.1 r.2)).modCst (fun c => { c with apply := some { x with decided := true } })
        else if r.2 = 0 then
          let t := s.cstInstant
          (s.cstDown (.commit t)).modCst (fun c => { c with apply := some { x with decided := true, commit := some t } })
        else (s.cstDown (.abort r.1 r.2)).applyAbort r.1 r.2

/-- APPLY_PREPARE: PREPARE reaches this node with the groups (the root prepares its own). The admission check runs on the
pending copies and the groups are locked; a local update that runs refuses with ERR_BUSY. DEDUCED (log entry 77). -/
def execApplyPrepare (groups : Word) (s : State) : Out :=
  .next (
    if ! s.cstValid then s
    else
      let start : Option (CstApplyRun × State) :=
        if s.cstRoot then
          match s.cst.apply with | some x => if x.own.isNone then some (x, s) else none | none => none
        else if s.opRuns opApply then none
        else
          let x : CstApplyRun := { groups := groups, own := none, from_ := [], decided := false, commit := none }
          some (x, (s.opBegin opApply).cstDown (.prepare groups))
      match start with
      | none => s
      | some (x, s) =>
        let y : Nat × State :=
          if s.get SYS_UPDATE_STAT.STATE != 0 then (Err.busy.code, s)
          else
            let s := s.updateBegin x.groups .constellation false false true
            let v := s.admitWith (s.pendView x.groups) s.caps
            let code := match v.1 with | some e => e.code | none => 0
            let s := if v.1.isNone then v.2.winCheck (s.pendView x.groups) else v.2
            (code, ((s.put SYS_UPDATE_STAT.DONE 1).put SYS_UPDATE_STAT.CODE code).put SYS_UPDATE_STAT.STATE 2)
        (y.2.modCst (fun c => { c with apply := some { x with own := some y.1 } })).applyCollect)

/-- VERDICT_REPORT: the verdict of the subtree on child port p: its lowest refusing node and code, or 0 and 0. -/
def execVerdictReport (p : Fin 4) (node : BitVec 14) (code : BitVec 8) (s : State) : Out :=
  .next (
    match s.cst.apply with
    | some x =>
      if s.cstValid && s.childPorts.contains p.val && ! x.decided then
        let l := (p.val, node.toNat, code.toNat) :: x.from_.filter (fun y => y.1 != p.val)
        (s.modCst (fun c => { c with apply := some { x with from_ := l } })).applyCollect
      else s
    | none => s)

/-- The groups of the apply x take their new settings. -/
def State.applyCommit (s : State) (x : CstApplyRun) : State :=
  let s := if s.sys.updCst then s.applyEdge x.groups false else s
  (s.opEnd opApply 0 0).modCst (fun c => { c with apply := none })

/-- APPLY_COMMIT: COMMIT or ABORT reaches a member and goes on to its children; at T_A the node applies. -/
def execApplyCommit (e : ApplyEnd) (s : State) : Out :=
  .next (
    match s.cst.apply with
    | none => s
    | some x =>
      if ! s.cstOn then s
      else match e with
      | .commit t =>
        if s.cstRoot || x.commit.isSome then s
        else
          let s := s.cstDown (.commit t)
          if t.toNat ≤ s.now.toNat then s.applyCommit x
          else s.modCst (fun c => { c with apply := some { x with commit := some t } })
      | .abort node code =>
        if s.cstRoot then s else (s.cstDown (.abort node.toNat code.toNat)).applyAbort node.toNat code.toNat
      | .edge =>
        match x.commit with
        | some t => if t.toNat ≤ s.now.toNat then s.applyCommit x else s
        | none => s)

/-! ### Commands (R489, R498 to R503) -/

/-- The operations that a write of CST_OP_CMD asks for, as kinds of CST_OP_STAT. -/
def opsAsked (w : Word) : List Nat :=
  [(2, opBcast), (1, opBarrier), (3, opSnap), (4, opApply), (5, opReset)].filterMap (fun x => if w.toNat.testBit x.1 then some x.2 else none)

/-- An operation of kind k starts at this node. -/
def State.opStart (s : State) (k : Nat) (useTime : Bool) : State :=
  let at_ := if useTime then s.appStamp CST_TIME.addr else s.cstInstant
  let s := s.opBegin k
  match k with
  | 0 =>
    let data := (List.range 8).map (fun i => s.appWord (CST_BC_TX.addr i))
    let s := s.modCst (fun c => { c with tx := data })
    if s.cstRoot then s else s.cstUp (.broadcast (s.get CST_NODE.ID) data)
  | 1 => (s.modCst (fun c => { c with arrived := true })).barReport
  | 2 =>
    let no := BitVec.ofNat 32 (Config.firstSnapNo + s.cst.snapCount)
    let late := decide (at_.toNat < s.now.toNat)
    (s.modCst (fun c => { c with snapCount := c.snapCount + 1, snap := some (at_, no, late), snapLost := false })).cstDown (.snapshot at_ no)
  | 3 =>
    let g := s.appWord CST_APPLY.addr
    let x : CstApplyRun := { groups := g, own := none, from_ := [], decided := false, commit := none }
    (s.modCst (fun c => { c with apply := some x })).cstDown (.prepare g)
  | _ => ((s.cancelOps).modCst (fun c => { c with resetAt := some at_ })).cstDown (.reset at_)

/-- The oldest broadcast is removed. -/
def State.bcPop (s : State) : State := (s.modCst (fun c => { c with rx := c.rx.drop 1 })).rxShow

/-- A write of CST_OP_CMD. -/
def State.opCmd (s : State) (w : Word) : Except Err State :=
  let ks := opsAsked w
  let pop := w.toNat.testBit 6
  if ! ks.isEmpty && ! s.cstValid then .error .sequence
  else if pop && s.cst.rx.isEmpty then .error .sequence
  else if 1 < ks.length then .error .conflict
  else if ! ks.isEmpty && s.flag CST_STAT.SIZE_MISMATCH then .error .conflict
  else
    let s := if pop then s.bcPop else s
    .ok (ks.foldl (fun (s : State) k => s.opStart k (w.toNat.testBit 8)) s)

/-- CST's own rules. -/
def cstRules : WriteRules :=
  { pre := fun s _ a w =>
      if a == CST_CTRL.addr then if s.inRun then some .locked else none
      else if a == CST_OP_CMD.addr then
        if (opsAsked w).any (fun k => decide (2 ≤ k) && ! s.cstRoot) then some .locked
        else if (opsAsked w).any s.opRuns then some .busy else none
      else none
    act := fun _ a w s =>
      if a == CST_CTRL.addr then
        if w.toNat.testBit 2 && s.get CST_CTRL.RING_N_M1 == 0 then .error .range else .ok s
      else if a == CST_OP_CMD.addr then s.opCmd w
      else match (List.range 4).find? (fun p => CST_PORT_CTRL.addr p == a) with
        | some p =>
          let st := s.get (CST_PORT_STAT.STATE p)
          if s.flag (CST_PORT_CTRL.EN p) then .ok (if st == 0 then s.put (CST_PORT_STAT.STATE p) 2 else s)
          else
            let up := st == 3
            let s := (s.put (CST_PORT_STAT.STATE p) 0).put (CST_PORT_STAT.CAUSE p) 0
            .ok (if up then s.linkLost p (s.cst.members - 1) else s)
        | none => .ok s }

/-- BCAST (R499). DEDUCED (log entry 77). -/
def execBcast (src : Source) (v : Word) (s : State) : Out := .next (s.writeReg cstRules src CST_OP_CMD.addr (v ||| 4))

/-- BC_POP (R499). DESIGN CHOICE (log entry 78). -/
def execBcPop (src : Source) (v : Word) (s : State) : Out := .next (s.writeReg cstRules src CST_OP_CMD.addr (v ||| 64))

/-- ARRIVE (R500). -/
def execArrive (src : Source) (v : Word) (s : State) : Out := .next (s.writeReg cstRules src CST_OP_CMD.addr (v ||| 2))

/-- CST_SNAP (R501). DEDUCED (log entry 76). -/
def execCstSnap (src : Source) (v : Word) (s : State) : Out := .next (s.writeReg cstRules src CST_OP_CMD.addr (v ||| 8))

/-- CST_APPLY (R502). -/
def execCstApply (src : Source) (v : Word) (s : State) : Out := .next (s.writeReg cstRules src CST_OP_CMD.addr (v ||| 16))

/-- CST_RESET (R503). -/
def execCstReset (src : Source) (v : Word) (s : State) : Out := .next (s.writeReg cstRules src CST_OP_CMD.addr (v ||| 32))

/-- OP_TIMEOUT: operation k has not completed within CST_OP_TO; a barrier waits for its members (R498). -/
def execOpTimeout (k : Fin 5) (s : State) : Out :=
  .next (
    if ! s.cstOn || k.val == opBarrier || ! s.opRuns k then s
    else
      let e := Err.timeout.code
      if k.val == opApply then s.applyAbort 0 e
      else (s.opEnd k 0 e).modCst (fun c =>
        if k.val == opSnap then { c with snap := none, snapLost := false }
        else if k.val == opReset then { c with resetAt := none } else { c with tx := [] }))

end Sys2Proof.Machine
end

