-- ==== Sys2Proof/Machine/Session.lean ====
section
/-! DEFINITION. UPD: the flash directory and its slots, the checks of an image, update sessions, the handover between the
management complexes, trial and fallback, watchdogs (R535 to R563, R575). -/

namespace Sys2Proof.Machine

/-! ### The flash (R535 to R538) -/

/-- Slot states of R538. -/
abbrev kEMPTY : Nat := 0
abbrev kWRITING : Nat := 1
abbrev kSTAGED : Nat := 2
abbrev kTRIAL : Nat := 3
abbrev kCONFIRMED : Nat := 4
abbrev kPREVIOUS : Nat := 5
abbrev kREJECTED : Nat := 6
abbrev kNEXT : Nat := 7

/-- The size of a slot in a flash of n bytes (R536). -/
def slotSizeOf (n : Nat) : Nat := (n - 131072) / 2 / 65536 * 65536

/-- S: the size of a slot (R536). DESIGN CHOICE (log entry 89). -/
def slotSize : Nat := slotSizeOf Config.flashSize

/-- Where slot i begins. -/
def slotBase (i : Nat) : Nat := if i = 0 then 0x20000 else 0x20000 + slotSize

/-- n bytes of flash at a, little-endian; and as a list. -/
def State.flashLE (s : State) (a n : Nat) : Nat := readLE s.flashByte a n
def State.flashBytes (s : State) (a n : Nat) : List Byte := (List.range n).map (fun i => s.flashByte (a + i))

/-- Flash bytes lo to lo + n - 1 erased. -/
def State.eraseFlash (s : State) (lo n : Nat) : State :=
  { s with flash := s.flash.filter (fun x => decide (x.1 < lo) || decide (lo + n ≤ x.1)) }

/-- Bytes programmed in flash in order. -/
def State.setFlashBytes (s : State) (a : Nat) : List Byte → State
  | [] => s
  | b :: bs => State.setFlashBytes (s.setFlashByte a b) (a + 1) bs

/-- Slot i of the directory. -/
def State.slot (s : State) (i : Nat) : DirSlot := if i = 0 then s.upd.slot0 else s.upd.slot1

/-- Slot i changed; UPD_SLOT follows. -/
def State.setSlot (s : State) (i : Nat) (x : DirSlot) : State :=
  let s : State := { s with upd := if i = 0 then { s.upd with slot0 := x } else { s.upd with slot1 := x } }
  (s.put (UPD_SLOT.STATE i) x.state).put (UPD_SLOT.IMG_SEQ i) x.imgSeq.toNat

/-- Slot i takes a state. -/
def State.slotState (s : State) (i st : Nat) : State := s.setSlot i { s.slot i with state := st }

/-- The slot in a state, if one is; the lower where both are. -/
def State.slotIn (s : State) (st : Nat) : Option Nat :=
  if s.upd.slot0.state == st then some 0 else if s.upd.slot1.state == st then some 1 else none

/-- A directory record (R537). -/
def State.dirRecord (s : State) : List Byte :=
  let slot (x : DirSlot) : List Byte :=
    leBytes 4 x.state ++ leBytes 4 x.imgSeq.toNat ++ leBytes 4 x.len ++ leBytes 4 x.icrc.toNat
  let b := leBytes 4 0x44523958 ++ leBytes 4 s.upd.dseq.toNat ++ slot s.upd.slot0 ++ List.replicate 8 0
    ++ slot s.upd.slot1 ++ List.replicate 12 0
  b ++ leBytes 4 (crc32c b).toNat

/-- The directory is written to the older copy with the next DSEQ (R537). -/
def State.writeDir (s : State) : State :=
  let c := 1 - s.upd.newer
  let s : State := { s with upd := { s.upd with newer := c, dseq := s.upd.dseq + 1 } }
  (s.eraseFlash (c * 0x10000) 0x10000).setFlashBytes (c * 0x10000) s.dirRecord

/-! ### The checks of an image (R539 to R542) -/

/-- The header's fields of the image at flash offset a. -/
def State.imgLen (s : State) (a : Nat) : Nat := s.flashLE (a + 16) 4
def State.imgSeq (s : State) (a : Nat) : Word := BitVec.ofNat 32 (s.flashLE (a + 12) 4)
def State.imgNsec (s : State) (a : Nat) : Nat := s.flashLE (a + 30) 2
def State.imgFlags (s : State) (a : Nat) : Nat := s.flashLE (a + 23) 1

/-- An image's header passes its HCRC. -/
def State.hcrcGood (s : State) (a : Nat) : Bool := (crc32c (s.flashBytes a 4092)).toNat == s.flashLE (a + 4092) 4

/-- A section of an image: type, offset, length, CRC. -/
structure ImgSection where
  type : Nat
  ofs : Nat
  len : Nat
  crc : Nat
deriving DecidableEq, Repr

/-- The sections that the header at a names. -/
def State.sections (s : State) (a : Nat) : List ImgSection :=
  (List.range (min (s.imgNsec a) 15)).map (fun k =>
    let b := a + 32 + k * 16
    ⟨s.flashLE b 4, s.flashLE (b + 4) 4, s.flashLE (b + 8) 4, s.flashLE (b + 12) 4⟩)

/-- Sections lie in order at 4 KiB boundaries from `lo` up, and end by `hi`. -/
def sectionsFit (hi : Nat) : Nat → List ImgSection → Bool
  | _, [] => true
  | lo, x :: l => x.ofs % 4096 == 0 && decide (lo ≤ x.ofs) && decide (x.ofs + x.len ≤ hi) && sectionsFit hi (x.ofs + x.len) l

/-- The section table, the sections' CRCs and their count (R540, R542). -/
def State.sectionsGood (s : State) (a : Nat) : Bool :=
  let l := s.sections a
  let n := s.imgNsec a
  let kind (t : Nat) : Nat := (l.filter (fun x => x.type == t)).length
  decide (2 ≤ n) && decide (n ≤ 15) && decide (4224 ≤ s.imgLen a) && decide (s.imgLen a ≤ slotSize)
  && l.all (fun x => decide (1 ≤ x.type) && decide (x.type ≤ 3)) && kind 1 == 1 && kind 3 == 1 && decide (kind 2 ≤ 1)
  && sectionsFit (s.imgLen a - 128) 4096 l
  && l.all (fun x => (crc32c (s.flashBytes (a + x.ofs) x.len)).toNat == x.crc)

/-- The verdict on the image at flash offset a: 0, or the code of its first failure (R542). The format of the firmware and
the outcome of the certificate and signature are given. -/
def State.imageVerdict (s : State) (a ownFmt : Nat) (sigOk : Bool) : Nat :=
  if ! (s.flashLE a 4 == 0x39584851 && s.flashLE (a + 4) 2 == 0x9160 && s.hcrcGood a) then Err.check.code
  else if (s.word SYS_ID.addr).toNat % 65536 < s.flashLE (a + 6) 2 then Err.conflict.code
  else if ! s.sectionsGood a then Err.check.code
  else if s.flashLE (a + 20) 1 < s.flashLE (a + 21) 1 || ownFmt < s.flashLE (a + 20) 1 then Err.sequence.code
  else if ! sigOk then Err.signature.code
  else 0

/-- FW_VER and CFMT of the image at a, as UPD_VER_ACT and UPD_VER_STBY show them. -/
def State.imgVer (s : State) (a : Nat) : Word := BitVec.ofNat 32 (s.flashLE (a + 20) 1 * 2 ^ 24 + s.flashLE (a + 8) 4 % 2 ^ 24)

/-! ### The complexes -/

/-- The complex that is active, and the other: 0 for A, 1 for B. -/
def State.activeCx (s : State) : Nat := s.get UPD_STAT.ACTIVE
def State.standbyCx (s : State) : Nat := 1 - s.get UPD_STAT.ACTIVE

/-- Writes of the active complex. -/
def State.activeSrc (s : State) : Source := if s.activeCx = 0 then .complexA else .complexB

/-- The location code of a complex (R37). -/
def cxLoc (c : Nat) : Nat := tileLoc c 11 0

/-- STBY codes. -/
abbrev yLOADING : Nat := 1
abbrev yREADY : Nat := 2
abbrev yFAILED : Nat := 3

/-- The standby loads from slot i. -/
def State.loadStandby (s : State) (i : Nat) : State :=
  { s.put UPD_STAT.STBY yLOADING with upd := { s.upd with stbyFrom := i } }

/-- STANDBY_LOADED (R543, R546, R554, R559, R575). -/
def execStandbyLoaded (ok : Bool) (s : State) : Out :=
  .next (
    if ! s.alive || s.get UPD_STAT.STBY != yLOADING then s
    else if ok then (s.put UPD_STAT.STBY yREADY).setWord UPD_VER_STBY.addr (s.imgVer (slotBase s.upd.stbyFrom))
    else (s.put UPD_STAT.STBY yFAILED).fltInfo 0x35 s.standbyCx 0x1A (cxLoc s.standbyCx) 0)

/-- The complexes exchange roles; versions follow. -/
def State.swapRoles (s : State) : State :=
  let a := s.word UPD_VER_ACT.addr
  let b := s.word UPD_VER_STBY.addr
  ((s.put UPD_STAT.ACTIVE s.standbyCx).setWord UPD_VER_ACT.addr b).setWord UPD_VER_STBY.addr a

/-! ### Sessions (R551 to R555) -/

/-- Regions of the general pool that a set-up uses (R400, R422, R481, R501). -/
def State.poolRegions (s : State) (r : View') : List (Nat × Nat) :=
  (stallsV r).map (chainV r)
  ++ (if sptBufV r && s.domOn dPCIE_S then
        [(0x06F00000 + r SPT_BUF.BASE * 65536, 0x06F00000 + r SPT_BUF.BASE * 65536 + r SPT_BUF.SIZE * 262144)] else [])
  ++ (if r SRV_SS_CTRL.EN == 1 then
        [(0x06F00000 + r SRV_SS_LOG.BASE * 64, 0x06F00000 + r SRV_SS_LOG.BASE * 64 + r SRV_SS_LLEN.LLEN * 32)] else [])
  ++ (if r CST_CTRL.EN == 1 then
        [(0x06F00000 + r CST_SNAP_BASE.BASE * 64, 0x06F00000 + r CST_SNAP_BASE.BASE * 64 + 1024)] else [])

/-- The address of buffer slot k. -/
def State.updBuf (s : State) (k : Nat) : Nat := 0x06F00000 + s.get UPD_BUF.BASE * 65536 + k * 65536

/-- A session ends. -/
def State.sessEnd (s : State) (sess : Nat) : State :=
  let s := (s.put UPD_STAT.SESS sess).put UPD_STAT.SLOT_FREE 3
  { s with upd := { s.upd with sess := none, blocks := [], verify := false, lastCrc := none } }

/-- The engine is in trial. -/
def State.inTrial (s : State) : Bool := s.flag UPD_STAT.TRIAL

/-- A CONFIG session may open: LOAD, with HOST_CFG or after a failure (R550). -/
def State.configAllowed (s : State) : Bool := s.dev == load && s.boot.hostCfg

/-- START (R551). -/
def State.updStart (s : State) : Except Err State :=
  let t := s.get UPD_SESSION.TYPE
  let b := s.updBuf 0
  if t == 2 && ! s.configAllowed then .error .sequence
  else if t == 0 && (s.slotIn kCONFIRMED).isNone then .error .sequence
  else if (s.poolRegions s.app).any (fun x => decide (x.1 < b + 131072) && decide (b < x.2)) then .error .conflict
  else if 17825792 < s.poolV s.app + 131072 then .error .resource
  else
    let k : Nat × State := match s.slotIn kCONFIRMED with
      | some c => (1 - c, s)
      | none => (s.free.toNat % 2, if t == 2 then s else s.drawFree)
    let s := k.2
    let s := ((s.put UPD_STAT.SESS 1).put UPD_STAT.SLOT_FREE 3).put UPD_STAT.LAST_CODE 0
    let s := (s.put UPD_NEXT.NEXT 0).put UPD_NEXT_DST.DST 0
    let s : State := { s with upd := { s.upd with
      sess := some (t, s.get UPD_SESSION.ID, k.1), lastCrc := none, blocks := [], verify := false, section_ := [] } }
    .ok (if t == 2 then s else ((s.slotState k.1 kWRITING).writeDir).eraseFlash (slotBase k.1) slotSize)

/-- A block as its 32-byte header and payload stand in the buffer (R552). -/
structure BlkHead where
  magic : Nat
  session : Nat
  index : Nat
  op : Nat
  resv : Nat
  dst : Nat
  len : Nat
  src : Nat
  crc : Nat
  payload : List Byte
  good : Bool

/-- The block in buffer slot k. -/
def State.blkHead (s : State) (k : Nat) : BlkHead :=
  let a := s.updBuf k
  let op := s.sramLE (a + 12) 1
  let len := s.sramLE (a + 20) 4
  let payload := if op = 0 then (List.range (min len 65504)).map (fun i => s.sramByte (a + 32 + i)) else []
  let head := (List.range 28).map (fun i => s.sramByte (a + i))
  { magic := s.sramLE a 4, session := s.sramLE (a + 4) 4, index := s.sramLE (a + 8) 4, op := op, resv := s.sramLE (a + 13) 3
    dst := s.sramLE (a + 16) 4, len := len, src := s.sramLE (a + 24) 4, crc := s.sramLE (a + 28) 4, payload := payload
    good := (crc32c (head ++ payload)).toNat == s.sramLE (a + 28) 4 }

/-- LEN is in the range of its OP. -/
def BlkHead.lenOk (h : BlkHead) : Bool :=
  match h.op with
  | 0 => decide (1 ≤ h.len) && decide (h.len ≤ 65504)
  | 3 => h.len == 0
  | _ => decide (1 ≤ h.len) && decide (h.len ≤ 2 ^ 28)

/-- The image in service. -/
def State.inService (s : State) : Nat := (s.slotIn kCONFIRMED).getD 0

/-- The checks of a block in a session of type t (R536, R553, R554). -/
def State.blockErr' (s : State) (t id : Nat) (h : BlkHead) : Option Err :=
  if ! h.good || h.magic != 0x55444B42 || h.session != id then some .check
  else if 3 < h.op || h.resv != 0 then some .reserved
  else if h.index != s.get UPD_NEXT.NEXT || h.dst != s.get UPD_NEXT_DST.DST || (h.op == 3 && h.src != h.dst) then some .sequence
  else if slotSize < h.dst + h.len then some .resource
  else if t != 2 && h.index == 0 && h.op == 0 && decide (20 ≤ h.payload.length)
      && decide (slotSize < readLE (fun i => (h.payload[i]?).getD 0) 16 4) then some .resource
  else if ! h.lenOk then some .range
  else if h.op == 1 && (t != 0 || decide ((s.slot s.inService).len < h.src + h.len)) then some .range
  else none

/-- The switchable domains that a CONFIG session powers off (R550). -/
def State.configOff (s : State) : State :=
  let s := (List.range 24).foldl (fun (s : State) d => if haltOn d || s.dom d == 0 then s else s.domainDead d) s
  let s := (s.resetBlock 0x05 (fun _ => true)).resetBlock 0x19 (fun _ => true)
  let kept (a : Nat) : Bool := a == HPT_LINK.addr || a == HPT_BAR4.addr || (decide (0x150300 ≤ a) && decide (a < 0x151C00))
  let s := s.resetBlock 0x15 (fun a => ! kept a)
  { s with fcv := FcvSt.reset, cst := CstSt.reset, pins := { Pins.reset with spPerstN := 0 } }

/-- An END block closes a CONFIG session: the delivered section is run from its start (R550, R554). -/
def State.configRun (s : State) : State :=
  let s := (s.sessEnd 2).configOff
  let s : State := { s with boot := { s.boot with hostDone := true } }
  s.recArrive { flash := none, len := s.upd.section_.length, ofs := 0, waiting := false } 0

/-- The bytes a block produces, for a section. -/
def BlkHead.bytes (h : BlkHead) : List Byte :=
  match h.op with | 0 => h.payload | 2 => List.replicate h.len (BitVec.ofNat 8 h.src) | _ => []

/-- An accepted block of a session of type t in buffer slot k. -/
def State.blockAccept (s : State) (t k : Nat) (h : BlkHead) : State :=
  let s := (s.put UPD_NEXT.NEXT (h.index + 1)).put UPD_NEXT_DST.DST (h.dst + h.len)
  let s : State := { s with upd := { s.upd with lastCrc := some (BitVec.ofNat 32 h.crc) } }
  if t == 2 then
    let s : State := { s with upd := { s.upd with section_ := s.upd.section_ ++ h.bytes } }
    if h.op == 3 then s.configRun else s
  else if h.op == 3 then { s with upd := { s.upd with verify := true } }
  else
    let b : UpdBlock := { slot := k, dst := h.dst, len := h.len, data := h.payload, copy := if h.op == 1 then some h.src else none
                          fill := BitVec.ofNat 8 h.src }
    let s : State := { s with upd := { s.upd with blocks := s.upd.blocks ++ [b] } }
    s.put UPD_STAT.SLOT_FREE (setBit (s.get UPD_STAT.SLOT_FREE) k false)

/-- Buffer slot k is handed over (R553): a resend has no effect, a rejected block leaves its code. -/
def State.blockGo (s : State) (k : Nat) : Except Err State :=
  match s.upd.sess with
  | none => .error .sequence
  | some (t, id, _) =>
    if s.upd.verify then .error .sequence
    else
      let h := s.blkHead k
      let resend := h.good && h.magic == 0x55444B42 && h.session == id && h.index + 1 == s.get UPD_NEXT.NEXT
        && s.upd.lastCrc == some (BitVec.ofNat 32 h.crc)
      if resend then .ok s
      else match s.blockErr' t id h with
        | some e => .ok (s.put UPD_STAT.LAST_CODE e.code)
        | none => .ok (s.blockAccept t k h)

/-- BLOCK_PROGRAMMED: the bytes of the oldest accepted block are in flash, and its buffer slot frees (R553). -/
def execBlockProgrammed (s : State) : Out :=
  .next (
    match s.upd.sess, s.upd.blocks with
    | some (_, _, i), b :: l =>
      if ! s.alive then s
      else
        let bs := match b.copy with
          | some o => s.flashBytes (slotBase s.inService + o) b.len
          | none => if b.data.isEmpty then List.replicate b.len b.fill else b.data
        let s := s.setFlashBytes (slotBase i + b.dst) bs
        let s := s.put UPD_STAT.SLOT_FREE (setBit (s.get UPD_STAT.SLOT_FREE) b.slot true)
        { s with upd := { s.upd with blocks := l } }
    | _, _ => s)

/-- SLOT_VERIFY: the written slot has been read back and checked (R542, R554). -/
def execSlotVerify (ownFmt : BitVec 8) (sigOk : Bool) (s : State) : Out :=
  .next (
    match s.upd.sess with
    | some (_, _, i) =>
      if ! s.alive || ! s.upd.verify || ! s.upd.blocks.isEmpty then s
      else
        let a := slotBase i
        let code := s.imageVerdict a ownFmt.toNat sigOk
        if code = 0 then
          let n := s.imgLen a
          let x : DirSlot := { state := kSTAGED, imgSeq := s.imgSeq a, len := n, icrc := crc32c (s.flashBytes a n) }
          (((s.setSlot i x).writeDir).sessEnd 2).loadStandby i
        else
          let s := ((s.slotState i kREJECTED).writeDir).sessEnd 3
          let s := s.put UPD_STAT.LAST_CODE code
          (s.blockErr 0x1A code .operation 0x10).logErr (errW0 0 false .host .operation 0x1A code) (BitVec.ofNat 32 0x1A0010)
    | none => s)

/-- FLASH_FAIL: the flash reports a program or erase as failed (R555). -/
def execFlashFail (s : State) : Out :=
  .next (
    match s.upd.sess with
    | some (t, _, i) =>
      if s.alive && t != 2 then (((s.slotState i kREJECTED).writeDir).sessEnd 3).put UPD_STAT.LAST_CODE Err.check.code else s
    | none => s)

/-! ### Handover and trial (R556 to R562) -/

/-- A handover begins. -/
def State.handBegin (s : State) (k : HandKind) : State :=
  { s.put UPD_STAT.HANDOVER 1 with upd := { s.upd with hand := some k, switched := false } }

/-- The check of a handover: admission on the applied set-up; a refusal ends it (R557). -/
def State.handCheck (s : State) (k : HandKind) (src : Source) : State :=
  let x := s.admitRunning
  match x.1 with
  | some e => (x.2.put UPD_STAT.LAST_CODE e.code).refuseOp 0x1A 0x04 src e
  | none => x.2.handBegin k

/-- An automatic revert (R559). -/
def State.autoRevert (s : State) : State :=
  if s.upd.hand.isSome then s
  else (s.fltInfo 0x36 0 0x1A s.mgmtLocation (s.get UPD_TRIAL_LEFT.LEFT)).handBegin .automatic

/-- The trial ends. -/
def State.trialEnd (s : State) : State :=
  ((s.put UPD_STAT.TRIAL 0).put UPD_STAT.CFMT_DUAL 0).put UPD_TRIAL_LEFT.LEFT 0

/-- HANDOVER_SWITCH: the complexes exchange roles on one edge (R557 to R560). DEDUCED (log entry 90). -/
def execHandoverSwitch (s : State) : Out :=
  .next (
    match s.upd.hand with
    | none => s
    | some k =>
      if ! s.alive || s.upd.switched then s
      else
        let s : State := { s.swapRoles with upd := { s.upd with switched := true } }
        match k with
        | .forward =>
          let s := match s.slotIn kSTAGED with | some i => (s.slotState i kTRIAL).writeDir | none => s
          let s := (s.bump UPD_CNT.HANDOVERS).put UPD_STAT.TRIAL 1
          (s.put UPD_STAT.CFMT_DUAL 1).put UPD_TRIAL_LEFT.LEFT (s.get UPD_CTRL.TRIAL_TO)
        | _ =>
          let s := match s.slotIn kTRIAL with | some i => (s.slotState i kREJECTED).writeDir | none => s
          (s.bump UPD_CNT.REVERTS).trialEnd)

/-- HANDOVER_RESUME: the new active complex takes the state, drains the FLT queue and lifts the freeze (R557, R558).
DEDUCED (log entry 90). -/
def execHandoverResume (s : State) : Out :=
  .next (
    if s.alive && s.upd.hand.isSome && s.upd.switched then
      let s := s.moveRecords 64
      { s.put UPD_STAT.HANDOVER 0 with upd := { s.upd with hand := none, switched := false } }
    else s)

/-- TRIAL_EXPIRY (R559). DEDUCED (log entry 85). DEDUCED (log entry 86). -/
def execTrialExpiry (s : State) : Out :=
  .next (
    if s.alive && s.inTrial && s.get UPD_TRIAL_LEFT.LEFT != 0 then (s.put UPD_TRIAL_LEFT.LEFT 0).autoRevert else s)

/-- CONFIRM (R559). -/
def State.updConfirm (s : State) : State :=
  match s.slotIn kTRIAL with
  | none => s.trialEnd
  | some i =>
    let s := match s.slotIn kCONFIRMED with | some j => s.slotState j kPREVIOUS | none => s
    (((s.slotState i kCONFIRMED).writeDir).trialEnd).loadStandby i

/-- WATCHDOG_EXPIRY of the active complex, or of the standby (R559, R575). DEDUCED (log entry 85).
DEDUCED (log entry 93). -/
def execWatchdogExpiry (standby : Bool) (s : State) : Out :=
  .next (
    if ! s.alive then s
    else if standby then if s.get UPD_STAT.STBY = 0 then s else s.put UPD_STAT.STBY yLOADING
    else if s.inTrial then s.autoRevert
    else
      let c := s.activeCx
      if s.get UPD_STAT.STBY == yREADY then
        let s := (s.swapRoles).loadStandby s.inService
        (s.bump FLT_CNT.FAILOVERS).fltInfo 0x3C c 0x1B (cxLoc c) 0
      else s.fltFatal 0x3C c 0x1B (cxLoc c) 0)

/-! ### Commands (R562, R563) -/

/-- A write of UPD_CMD with one command bit. -/
def State.updCmd (s : State) (src : Source) (k : Nat) : Except Err State :=
  match k with
  | 0 => s.updStart
  | 1 =>
    match s.upd.sess with
    | none => .error .sequence
    | some (t, _, i) =>
      let s := s.sessEnd 0
      .ok (if t == 2 then s else (s.slotState i kEMPTY).writeDir)
  | 2 =>
    if s.get UPD_STAT.STBY != yREADY || (s.slotIn kSTAGED).isNone then .error .sequence else .ok (s.handCheck .forward src)
  | 3 => if s.inTrial then .ok s.updConfirm else .error .sequence
  | 4 => if s.inTrial then .ok (s.handCheck .revert src) else .error .sequence
  | 5 => match s.slotIn kCONFIRMED with | some i => .ok (s.loadStandby i) | none => .error .sequence
  | _ =>
    match s.slotIn kSTAGED with
    | some i => if s.inTrial then .error .sequence else .ok ((s.slotState i kNEXT).writeDir)
    | none => .error .sequence

/-- The command bits of a word of UPD_CMD. -/
def updBits (w : Word) : List Nat := bitsIn 7 w.toNat

/-- UPD's own rules. -/
def updRules : WriteRules :=
  { pre := fun s _ a w =>
      if a == UPD_CMD.addr then
        let l := updBits w
        let busy := s.upd.sess.isSome || s.frozen || s.inTrial
        if l.length ≠ 1 then (if s.frozen && ! l.isEmpty then some .busy else none)
        else if s.frozen then some .busy
        else if l == [0] && busy then some .busy
        else if l == [2] && (busy || s.get SYS_UPDATE_STAT.STATE != 0 || s.cst.apply.isSome) then some .busy
        else none
      else if a == UPD_BLK.addr && w.toNat.testBit 31 then
        if s.frozen || (s.upd.sess.isSome && ! (s.get UPD_STAT.SLOT_FREE).testBit (w.toNat % 2)) then some .busy else none
      else none
    act := fun src a w s =>
      if a == UPD_CMD.addr then
        match updBits w with
        | [] => .ok s
        | [k] => s.updCmd src k
        | _ => .error .conflict
      else if a == UPD_BLK.addr && w.toNat.testBit 31 then s.blockGo (w.toNat % 2)
      else .ok s }

/-- A write of UPD_BLK that hands a buffer slot over (R552). -/
def State.updHand (s : State) (src : Source) (v : Word) : State :=
  s.writeReg updRules src UPD_BLK.addr (v ||| BitVec.ofNat 32 (2 ^ 31))

/-- UPD_START (R551). DEDUCED (log entry 5). DEDUCED (log entry 82). -/
def execUpdStart (src : Source) (v : Word) (s : State) : Out := .next (s.writeReg updRules src UPD_CMD.addr (v ||| 1))

/-- UPD_ABORT (R555). DEDUCED (log entry 84). -/
def execUpdAbort (src : Source) (v : Word) (s : State) : Out := .next (s.writeReg updRules src UPD_CMD.addr (v ||| 2))

/-- HANDOVER (R556, R557). DEDUCED (log entry 90). -/
def execHandover (src : Source) (v : Word) (s : State) : Out := .next (s.writeReg updRules src UPD_CMD.addr (v ||| 4))

/-- CONFIRM (R559). -/
def execConfirm (src : Source) (v : Word) (s : State) : Out := .next (s.writeReg updRules src UPD_CMD.addr (v ||| 8))

/-- REVERT (R559). DEDUCED (log entry 85). -/
def execRevert (src : Source) (v : Word) (s : State) : Out := .next (s.writeReg updRules src UPD_CMD.addr (v ||| 16))

/-- LOADSTBY (R563). DEDUCED (log entry 84). -/
def execLoadstby (src : Source) (v : Word) (s : State) : Out := .next (s.writeReg updRules src UPD_CMD.addr (v ||| 32))

/-- BOOTNEXT (R561). -/
def execBootnext (src : Source) (v : Word) (s : State) : Out := .next (s.writeReg updRules src UPD_CMD.addr (v ||| 64))

/-- DATA_BLOCK: a write of UPD_BLK.GO with a DATA block in the buffer slot (R553). DEDUCED (log entry 83). -/
def execDataBlock (src : Source) (v : Word) (s : State) : Out := .next (s.updHand src v)

/-- COPY_BLOCK: a write of UPD_BLK.GO with a COPY block in the buffer slot (R553). DEDUCED (log entry 83). -/
def execCopyBlock (src : Source) (v : Word) (s : State) : Out := .next (s.updHand src v)

/-- FILL_BLOCK: a write of UPD_BLK.GO with a FILL block in the buffer slot (R553). DEDUCED (log entry 83). -/
def execFillBlock (src : Source) (v : Word) (s : State) : Out := .next (s.updHand src v)

/-- END_BLOCK: a write of UPD_BLK.GO with an END block in the buffer slot (R554). DEDUCED (log entry 83).
DEDUCED (log entry 84). DEDUCED (log entry 87). -/
def execEndBlock (src : Source) (v : Word) (s : State) : Out := .next (s.updHand src v)

end Sys2Proof.Machine
end

