-- ==== Sys2Proof/Machine/RegBus.lean ====
section
/-! DEFINITION. The register bridge: which block's rules bind a write, plain and alias writes of any length, reads with
their side effects, and the registers whose value is made at the read (R508 to R519). -/

namespace Sys2Proof.Machine

/-! ### Writes -/

/-- The rules of the block that owns address a. -/
def rulesAt (a : Nat) : WriteRules :=
  match blockOfWindow (a / 0x10000) with
  | 0x00 => sysRules | 0x01 => pwrRules [] | 0x02 => clkRules | 0x03 => almRules | 0x04 => lnkRules | 0x05 => fcvRules
  | 0x06 => ddcRules | 0x08 => fftRules | 0x0A => trgRules | 0x0B => acqRulesLrd | 0x0C => nebRules | 0x0E => dpyRules
  | 0x10 => lodRules | 0x12 => dmaRules | 0x13 => chkRules | 0x14 => memRules | 0x16 => sptRules | 0x17 => auxRules
  | 0x18 => srvRules | 0x19 => cstRules | 0x1A => updRules | 0x1B => fltRules
  | _ => WriteRules.plain

/-- A 4-byte write at any address and view, under the rules of the block it reaches. -/
def State.writeWord (s : State) (src : Source) (addr : Nat) (v : Word) : State := s.writeReg (rulesAt addr) src addr v

/-- The code the last access returned; 0 where there was no answer. -/
def State.respCode (s : State) : Nat := match s.resp with | some r => r.code | none => 0

/-- The data the last access returned. -/
def State.respData (s : State) : Nat := match s.resp with | some r => r.data.toNat | none => 0

/-- The first of two codes that is not OK. -/
def firstCode (a b : Nat) : Nat := if a = 0 then b else a

/-- An access that has no effect and no error: one of zero length, or a read of an alias (R508, R514). -/
def State.emptyAccess (s : State) : State := if s.dev == powerOff then { s with resp := none } else s.answer 0 0

/-- A BAR0 write of `size` bytes (R508, R511): 8 bytes are two words, low word first, each with its own outcome. A length
that is none of 0, 1, 2, 4 and 8 stands for every form R508 rejects with ERR_WIDTH. DEDUCED (log entry 6).
DEDUCED (log entry 7). -/
def State.busWrite (s : State) (src : Source) (addr size : Nat) (v : BitVec 64) : State :=
  if size = 0 then s.emptyAccess
  else if size = 8 ∧ addr % 8 = 0 then
    let s1 := s.writeWord src addr (v.setWidth 32)
    let s2 := s1.writeWord src (addr + 4) ((v >>> 32).setWidth 32)
    if s.dev == powerOff then s2 else s2.answer 0 (firstCode s1.respCode s2.respCode)
  else if size = 4 then s.writeWord src addr (v.setWidth 32)
  else if s.dev == powerOff then { s with resp := none }
  else match s.accessErr src addr size true with
    | some e => s.reject src false addr e
    | none => s.reject src false addr .width

/-- The address of a register in a view. -/
def viewAddr (a view : Nat) : Nat := a / 0x10000 * 0x10000 + view * 0x4000 + a % 0x4000

/-- REGISTER_WRITE (R517). DEDUCED (log entry 6). -/
def execRegisterWrite (src : Source) (addr size : Nat) (v : BitVec 64) (s : State) : Out :=
  .next (s.busWrite src addr size v)

/-- SET_ALIAS of the register at normal-view address `addr` (R512 to R514). -/
def execSetAlias (src : Source) (addr : Nat) (v : Word) (s : State) : Out := .next (s.writeWord src (viewAddr addr 1) v)

/-- CLEAR_ALIAS (R512 to R514). -/
def execClearAlias (src : Source) (addr : Nat) (v : Word) (s : State) : Out := .next (s.writeWord src (viewAddr addr 2) v)

/-- TOGGLE_ALIAS (R512 to R514). -/
def execToggleAlias (src : Source) (addr : Nat) (v : Word) (s : State) : Out := .next (s.writeWord src (viewAddr addr 3) v)

/-- GROUP_WRITE: BLOCK_GROUP of the window w (R519). -/
def execGroupWrite (w : Nat) (src : Source) (v : Word) (s : State) : Out := .next (s.writeWord src (w * 0x10000 + 0x3FF0) v)

/-! ### Reads -/

/-- DIRTY of block b: a buffered or shadow field differs from its applied copy (R518, R534). -/
def State.dirty (s : State) (b : Nat) : Bool :=
  (SMap.keys s.regs ++ SMap.keys s.applied).any (fun a =>
    blockOfWindow (a / 0x10000) == b && (s.word a &&& bufMask a) != s.appWord a)

/-- Word i of a stamp in the Almanac's multi-word layout (R67). -/
def stampWord (t : Stamp) (i : Nat) : Word := BitVec.ofNat 32 (t.toNat / 2 ^ (32 * i))

/-- The eight words of a trigger record (R244). -/
def TrgRec.words (r : TrgRec) : List Word :=
  [BitVec.ofNat 32 r.cause,
   BitVec.ofNat 32 (r.node % 2 ^ 14 * 2 ^ 18 + r.tq % 4 * 2 ^ 16 + b2n r.seq * 2 ^ 10 + b2n r.noref * 2 ^ 9 + b2n r.late * 2 ^ 8
     + r.primary % 32),
   stampWord r.stamp 0, stampWord r.stamp 1, stampWord r.stamp 2, BitVec.ofInt 32 r.fine, BitVec.ofNat 32 r.no,
   BitVec.ofNat 32 r.delay]

/-- Word i of the oldest entry of a log; 0 while it is empty. -/
def oldestWord (l : List (List Word)) (i : Nat) : Word := ((l.headD [])[i]?).getD 0

/-- The PBA (R416): the pending bit of each masked vector. The manual does not say what an unmasked vector shows.
DEDUCED (log entry 18). -/
def State.pba (s : State) : Word :=
  BitVec.ofNat 32 ((List.range 32).foldl (fun m v =>
    let open_ : Bool := ! s.flag (HPT_MSIX_CTRL.MASK v) && ! s.hpt.funcMask
    if s.flag (HPT_VEC.PEND v) && (! open_ || s.free.toNat.testBit v) then m + 2 ^ v else m) 0)

/-- The value of the register at `a` at this instant, before any latch: made at the read for the registers that show
queues, time and comparisons, held otherwise. -/
def State.liveWord (s : State) (a : Nat) : Word :=
  let o := a % 0x10000
  if o == 0x3FEC then BitVec.ofNat 32 (b2n (s.dirty (blockOfWindow (a / 0x10000))))
  else if a == SYS_ERR_STAT.addr then insBits (s.word a) 0 5 s.sys.errLog.length
  else if decide (SYS_ERR_LOG.addr 0 ≤ a) && decide (a < SYS_ERR_LOG.addr 0 + 16) then
    oldestWord (s.sys.errLog.map (fun e => [e.w0, e.w1, e.w2, e.w3])) ((a - SYS_ERR_LOG.addr 0) / 4)
  else if a == FLT_LOG_STAT.addr then insBits (s.word a) 0 9 s.flt.log.length
  else if decide (FLT_LOG.addr 0 ≤ a) && decide (a < FLT_LOG.addr 0 + 32) then
    oldestWord (s.flt.log.map FltRec.words) ((a - FLT_LOG.addr 0) / 4)
  else if a == TRG_LOG_STAT.addr then insBits (s.word a) 0 9 s.trg.log.length
  else if decide (TRG_LOG.addr 0 ≤ a) && decide (a < TRG_LOG.addr 0 + 32) then
    oldestWord (s.trg.log.map TrgRec.words) ((a - TRG_LOG.addr 0) / 4)
  else if decide (ALM_NOW.addr ≤ a) && decide (a < ALM_NOW.addr + 12) then stampWord s.now ((a - ALM_NOW.addr) / 4)
  else if a == HPT_PBA.addr then s.pba
  else s.word a

/-- A read of the register at `a`, of the byte lanes in `lanes`: higher words of a latching register come from their
latch, word 0 latches them, WO and WP fields read 0, and the RC bits returned are cleared (R10, R68, R511, R515). -/
def State.readReg (s : State) (a : Nat) (lanes : Word) : Word × State :=
  let fs := fieldsAt a
  let cur := if isLatched a then SMap.get latchDefault s.latch a else s.liveWord a
  let s := (latchesAt a).foldl (fun (s : State) h => { s with latch := SMap.set latchDefault s.latch h (s.liveWord h) }) s
  let s := if a == HPT_PBA.addr then s.drawFree else s
  let s := if rcCleared fs (s.word a) lanes == s.word a then s else s.setWord a (rcCleared fs (s.word a) lanes)
  (readValue fs cur &&& lanes, s)

/-- A read that stays within one register word. DEDUCED (log entry 7). -/
def State.readPart (s : State) (src : Source) (addr size : Nat) : State :=
  if s.dev == powerOff then { s with resp := none }
  else if windowImplemented (addr / 0x10000) && viewOf addr != .normal then s.emptyAccess
  else match s.accessErr src addr size false with
    | some e => s.reject src true addr e
    | none =>
      let o := addr % 4
      let r := s.readReg (addr / 4 * 4) (laneMask o size)
      r.2.answer (r.1.toNat / 2 ^ (8 * o)) 0

/-- A BAR0 read of `size` bytes (R508, R511, R514, R515): 8 bytes are two words, low word first. DEDUCED (log entry 6).
DEDUCED (log entry 7). -/
def State.busRead (s : State) (src : Source) (addr size : Nat) : State :=
  if size = 0 then s.emptyAccess
  else if size = 8 ∧ addr % 8 = 0 then
    let s1 := s.readPart src addr 4
    let s2 := s1.readPart src (addr + 4) 4
    if s.dev == powerOff then s2
    else s2.answer (s1.respData + s2.respData * 2 ^ 32) (firstCode s1.respCode s2.respCode)
  else s.readPart src addr size

/-- READ_CLEAR: a read, which clears the RC bits it returns (R515). -/
def execReadClear (src : Source) (addr size : Nat) (s : State) : Out := .next (s.busRead src addr size)

/-- LATCHING_READ: a read, which latches higher words where it reads word 0 (R68). -/
def execLatchingRead (src : Source) (addr size : Nat) (s : State) : Out := .next (s.busRead src addr size)

end Sys2Proof.Machine
end

