-- ==== Sys2Proof/Machine/Boot.lean ====
section
/-! DEFINITION. POWER_OFF, RESET_N, the supplies, the boot and the configuration records of LOAD (R16, R53, R503, R535 to
R550, R577, R592, R608). -/

namespace Sys2Proof.Machine

/-! ### POWER_OFF (R16, R592, R608) -/

/-- The engine enters POWER_OFF: everything but the flash starts afresh. DEDUCED (log entry 12). -/
def State.powerOffState (s : State) : State :=
  { State.reset with pending := s.pending, flash := s.flash, freeCtr := s.freeCtr }

/-- The engine leaves POWER_OFF: the domains of R583 are on, and boot begins. -/
def State.bootStart (s : State) : State :=
  let s : State := { s with pwr := { s.pwr with supplyOk := true, resetN := true } }
  let s := (((s.setDom dAON 2).setDom dMGMT 2).setDom dMESH 2).setDom dPCIE_H 2
  s.setDev Machine.boot

/-- RESET_N_RISE: RESET_N is high and every supply is above its reset threshold (R592). DESIGN CHOICE (log entry 10). -/
def execResetNRise (s : State) : Out := .next (if s.dev == powerOff then s.bootStart else s)

/-- A low or a dip of n ns passes its filter: always from 1 µs, never below 0.5 µs, and between the two as a free value
says (R577, R592). DESIGN CHOICE (log entry 11). -/
def State.filtered (s : State) (n : Nat) : Bool × State :=
  if 1000 ≤ n then (true, s) else if n < 500 then (false, s) else (s.free.getLsbD 0, s.drawFree)

/-- RESET_N_FALL: RESET_N goes low for lowNs (R592). DESIGN CHOICE (log entry 11). DEDUCED (log entry 12). -/
def execResetNFall (lowNs : Nat) (s : State) : Out :=
  .next (let x := s.filtered lowNs; if x.1 then x.2.powerOffState else x.2)

/-- SUPPLY_BELOW_RESET: a rail lies below its reset threshold for lowNs (R577, R590). No dump is taken.
DESIGN CHOICE (log entry 11). DEDUCED (log entry 12). -/
def execSupplyBelowReset (_rail : Fin 10) (lowNs : Nat) (s : State) : Out :=
  .next (
    let x := s.filtered lowNs
    if x.1 then
      let t := x.2.powerOffState
      { t with pwr := { t.pwr with supplyOk := false } }
    else x.2)

/-- HOST_ACCESS_POWER_OFF: a host access in POWER_OFF has no completion and no effect (R608). -/
def execHostAccessPowerOff (_addr : Nat) (_write : Bool) (_v : Word) (s : State) : Out :=
  .next (if s.dev == powerOff then { s with resp := none } else s)

/-- SYSTEM_RESET: the RESET frame reaches a member with T_R, or the Almanac reaches T_R (R503). DEDUCED (log entry 17). -/
def execSystemReset (request : Option Stamp) (s : State) : Out :=
  .next (
    match request with
    | some t =>
      if s.cstValid && ! s.cstRoot then
        ((s.cancelOps).modCst (fun c => { c with resetAt := some t })).cstDown (.reset t)
      else s
    | none =>
      match s.cst.resetAt with
      | some t => if s.cstOn && decide (t.toNat ≤ s.now.toNat) then s.powerOffState.bootStart else s
      | none => s)

/-! ### The directory and the candidates (R537, R538, R543 to R545) -/

/-- Directory copy c is good: its MAGIC and its CRC. -/
def State.dirGood (s : State) (c : Nat) : Bool :=
  let a := c * 0x10000
  s.flashLE a 4 == 0x44523958 && (crc32c (s.flashBytes a 60)).toNat == s.flashLE (a + 60) 4

/-- Slot i as directory copy c has it. -/
def State.dirSlot (s : State) (c i : Nat) : DirSlot :=
  let a := c * 0x10000 + 8 + i * 24
  { state := s.flashLE a 1, imgSeq := BitVec.ofNat 32 (s.flashLE (a + 4) 4), len := s.flashLE (a + 8) 4,
    icrc := BitVec.ofNat 32 (s.flashLE (a + 12) 4) }

/-- The directory copy to use: the good one with the higher DSEQ. -/
def State.dirCopy (s : State) : Option Nat :=
  match s.dirGood 0, s.dirGood 1 with
  | true, true => some (if s.flashLE 4 4 < s.flashLE 0x10004 4 then 1 else 0)
  | true, false => some 0
  | false, true => some 1
  | false, false => none

/-- The directory as read. -/
def State.dirLoad (s : State) (c : Nat) : State :=
  let s := (s.setSlot 0 (s.dirSlot c 0)).setSlot 1 (s.dirSlot c 1)
  { s with upd := { s.upd with newer := c, dseq := BitVec.ofNat 32 (s.flashLE (c * 0x10000 + 4) 4) } }

/-- The host port takes its parameters from an image header, or the defaults of R544, and may train (R545). -/
def State.portParams (s : State) (header : Option Nat) : State :=
  let size := match header with | some i => s.imgFlags (slotBase i) / 4 | none => 28
  let subsys := match header with | some i => s.flashLE (slotBase i + 24) 4 | none => 0
  let sris := match header with | some i => (s.imgFlags (slotBase i)).testBit 1 | none => false
  let s := s.put HPT_BAR4.SIZE size
  { s with hpt := { s.hpt with subsys := BitVec.ofNat 32 subsys, sris := sris, train := true } }

/-- The slot whose header serves the host port where no candidate exists (R544). -/
def State.headerOnly (s : State) : Option Nat :=
  match s.hcrcGood (slotBase 0), s.hcrcGood (slotBase 1) with
  | true, true => some (if (s.imgSeq (slotBase 0)).toNat < (s.imgSeq (slotBase 1)).toNat then 1 else 0)
  | true, false => some 0
  | false, true => some 1
  | false, false => none

/-- The candidates in the order they are tried (R544). -/
def State.candidates (s : State) : List Nat :=
  (s.slotIn kNEXT).toList ++ (s.slotIn kCONFIRMED).toList ++ (s.slotIn kPREVIOUS).toList

/-- A slot found in TRIAL did not reach confirmation (R544). -/
def State.trialRejected (s : State) : State :=
  let t0 := s.upd.slot0.state == kTRIAL
  let t1 := s.upd.slot1.state == kTRIAL
  if t0 || t1 then
    let s := if t0 then s.slotState 0 kREJECTED else s
    (if t1 then s.slotState 1 kREJECTED else s).writeDir
  else s

/-- The boot takes a step. -/
def State.bootStep (s : State) (b : BootStep) : State := { s with boot := { s.boot with step := b } }

/-- HEADER_READ: the directory and the header of the first candidate, or the header of a further candidate (R543, R544,
R545). DEDUCED (log entry 13). -/
def execHeaderRead (s : State) : Out :=
  .next (
    if s.dev != boot then s
    else match s.boot.step with
      | .reading i => s.bootStep (.checking i)
      | .rom =>
        let s := match s.dirCopy with | some c => (s.dirLoad c).trialRejected | none => s
        match s.candidates with
        | i :: l =>
          let s := s.portParams (some i)
          { s with boot := { s.boot with step := .checking i, rest := l, first := i, trialBoot := s.slotIn kNEXT == some i } }
        | [] => ((s.portParams s.headerOnly).put SYS_STATE.LAST_ERR Err.check.code).bootStep .stuck
      | _ => s)

/-- IMAGE_CHECK: the checks of the candidate end, with the firmware's own format and the outcome of the certificate and
signature given (R542, R544). DEDUCED (log entry 13). -/
def execImageCheck (ownFmt : BitVec 8) (sigOk : Bool) (s : State) : Out :=
  .next (
    if s.dev != boot then s
    else match s.boot.step with
      | .checking i =>
        let code := s.imageVerdict (slotBase i) ownFmt.toNat sigOk
        let s := s.put (if i = 0 then UPD_BOOT.CODE0 else UPD_BOOT.CODE1) code
        if code = 0 then
          let s := s.put UPD_BOOT.SLOT i
          let s := if s.boot.trialBoot && i == s.boot.first then (s.slotState i kTRIAL).writeDir else s
          let s := if i == s.boot.first then s
            else
              let s := s.put UPD_BOOT.FALLBACK 1
              s.fltInfo 0x34 i 0x1A s.mgmtLocation (s.word UPD_BOOT.addr).toNat
          s.bootStep (.verified i)
        else
          let s := (s.slotState i kREJECTED).writeDir
          match s.boot.rest with
          | j :: l => { s with boot := { s.boot with step := .reading j, rest := l } }
          | [] => (s.put SYS_STATE.LAST_ERR code).bootStep .stuck
      | _ => s)

/-- The CONFIG section of the image at a: its flash offset and length; one of no length where the image has none. -/
def State.configSection (s : State) (a : Nat) : RecordRun :=
  match (s.sections a).find? (fun x => x.type == 2) with
  | some x => { flash := some (a + x.ofs), len := x.len, ofs := 0, waiting := false }
  | none => { flash := some a, len := 0, ofs := 0, waiting := false }

/-- The firmware writes the standard set into both banks of every DDC (R146, R147). DESIGN CHOICE (log entry 19). -/
def State.standardBanks (s : State) : State :=
  (List.range 32).foldl (fun (s : State) b =>
    (List.range 96).foldl (fun (s : State) t =>
      s.setSramLE (0x06A00000 + b * 0x200 + t * 4) 4 (Config.standardTap t).toNat) s) s

/-- FIRMWARE_START: complex A starts the firmware, complex B begins to load it, and the configuration records begin, unless
the host is to send them (R543, R546, R550). DEDUCED (log entry 13). -/
def execFirmwareStart (s : State) : Out :=
  .next (
    match s.boot.step with
    | .verified i =>
      if s.dev != boot then s
      else
        let a := slotBase i
        let s := ((s.setDev load).bootStep .done).standardBanks
        let s := (s.put UPD_STAT.ACTIVE 0).setWord UPD_VER_ACT.addr (s.imgVer a)
        let s := s.loadStandby i
        let s := if s.boot.trialBoot && i == s.boot.first then
            (s.put UPD_STAT.TRIAL 1).put UPD_TRIAL_LEFT.LEFT (s.get UPD_CTRL.TRIAL_TO)
          else s
        if (s.imgFlags a).testBit 0 then { s with boot := { s.boot with hostCfg := true, byImage := true } }
        else s.recArrive (s.configSection a) 0
    | _ => s)

/-! ### Records (R547 to R549) -/

/-- The record that stands next has type t and is to be run; what waited before it has ended. -/
def State.recordAt (s : State) (t : Nat) : Option (RecordRun × RecHead) :=
  match s.boot.run with
  | some r => if s.dev == load && ! r.waiting && (s.recHead r).type == t then some (r, s.recHead r) else none
  | none => none

/-- Word k of a record's payload. -/
def State.recWord (s : State) (r : RecordRun) (k : Nat) : Word := BitVec.ofNat 32 (s.recLE r (r.ofs + 8 + 4 * k) 4)

/-- A write of the active complex, unless one before it failed: the state, and the first code. -/
def State.cfgWrite (x : State × Nat) (a : Nat) (v : Word) : State × Nat :=
  if x.2 = 0 then
    let s := x.1.writeWord x.1.activeSrc a v
    (s, s.respCode)
  else x

/-- The record ends with a code. -/
def State.cfgEnd (x : State × Nat) : State := if x.2 = 0 then x.1.recDone else x.1.loadFail x.2

/-- REG_RECORD: n words to n consecutive registers; the first rejected write fails the record. -/
def execRegRecord (s : State) : Out :=
  .next (
    let s := s.recSettle
    match s.recordAt 1 with
    | some (r, h) =>
      State.cfgEnd ((List.range (h.len / 4)).foldl (fun (x : State × Nat) k => State.cfgWrite x (h.arg + 4 * k) (s.recWord r k)) (s, 0))
    | none => s)

/-- MASK_RECORD: writes (read & ~mask) | (value & mask). DEDUCED (log entry 15). -/
def execMaskRecord (s : State) : Out :=
  .next (
    let s := s.recSettle
    match s.recordAt 2 with
    | some (r, h) =>
      let t := s.busRead s.activeSrc h.arg 4
      let m := s.recWord r 1
      let v := (BitVec.ofNat 32 t.respData &&& ~~~m) ||| (s.recWord r 0 &&& m)
      State.cfgEnd (State.cfgWrite (t, t.respCode) h.arg v)
    | none => s)

/-- SRAM_RECORD: bytes to SRAM under the rules of a host BAR2 write (R40, R548). DEDUCED (log entry 15). -/
def execSramRecord (s : State) : Out :=
  .next (
    let s := s.recSettle
    match s.recordAt 3 with
    | some (r, h) =>
      match (List.range h.len).findSome? (fun i => s.bar2Err (h.arg + i) true) with
      | some e =>
        let s := (s.blockErr 0x15 e.code .bar2 h.arg).logErr (errW0 0 false s.activeSrc .bar2 0x15 e.code) (BitVec.ofNat 32 h.arg)
        s.loadFail e.code
      | none =>
        let bytes := (List.range h.len).map (fun i => s.recByte r (r.ofs + 8 + i))
        ((s.setSramBytes h.arg bytes).unpoison h.arg h.len).recDone
    | none => s)

/-- POWER_RECORD: the active complex writes UP for each domain of the mask that is not on, in ascending index, and waits
(R548, R583). DEDUCED (log entry 15). -/
def execPowerRecord (s : State) : Out :=
  .next (
    let s := s.recSettle
    match s.recordAt 4 with
    | some (_, h) =>
      let ds := (bitsIn 32 h.arg).filter (fun d => decide (24 ≤ d) || s.dom d != 2)
      let x := ds.foldl (fun (x : State × Nat) d => State.cfgWrite x (PWR_DOM_CMD.addr 0 + 8 * d) 1) (s, 0)
      if x.2 = 0 then x.1.recWait.recSettle else x.1.loadFail x.2
    | none => s)

/-- WAIT_RECORD: a reserved condition fails the record; else it waits (R548). -/
def execWaitRecord (s : State) : Out :=
  .next (
    let s := s.recSettle
    match s.recordAt 5 with
    | some (_, h) => if waitCode h.arg then s.recWait.recSettle else s.loadFail Err.reserved.code
    | none => s)

/-- WAIT_RECORD_TIMEOUT: the timeout of a WAIT record has run out (R549); a wait for time alone ends well. -/
def execWaitRecordTimeout (s : State) : Out :=
  .next (
    let s := s.recSettle
    match s.boot.run with
    | some r =>
      let h := s.recHead r
      if s.dev != load || ! r.waiting || h.type != 5 then s
      else if h.arg = 0 then s.recDone
      else s.loadFail Err.timeout.code
    | none => s)

/-- APPLY_RECORD: strobes SYS_UPDATE, and waits for DONE (R548). DEDUCED (log entry 15). -/
def execApplyRecord (s : State) : Out :=
  .next (
    let s := s.recSettle
    match s.recordAt 6 with
    | some (_, h) =>
      let x := State.cfgWrite (s, 0) SYS_UPDATE.addr (BitVec.ofNat 32 h.arg)
      if x.2 = 0 then x.1.recWait else x.1.loadFail x.2
    | none => s)

/-- CRCREF_RECORD: writes SYS_CFGCRC_REF (R531, R548). -/
def execCrcrefRecord (s : State) : Out :=
  .next (
    let s := s.recSettle
    match s.recordAt 7 with
    | some (_, h) => State.cfgEnd (State.cfgWrite (s, 0) SYS_CFGCRC_REF.addr (BitVec.ofNat 32 h.arg))
    | none => s)

/-- END_RECORD: admission on the applied set-up; RUN, or the END record fails (R549). DEDUCED (log entry 16). -/
def execEndRecord (s : State) : Out :=
  .next (
    let s := s.recSettle
    match s.recordAt 15 with
    | some _ =>
      let x := s.admitRunning
      match x.1 with
      | some e => (x.2.refuseOp 0x00 0x04 x.2.activeSrc e).loadFail e.code
      | none =>
        let s : State := { x.2 with boot := { x.2.boot with run := none } }
        (s.setDev run).drivesStart
    | none => s)

/-- HOST_CFG_TIMEOUT: with HOST_CFG = 1, no CONFIG session has completed in time (R550). DEDUCED (log entry 87).
DEDUCED (log entry 88). -/
def execHostCfgTimeout (s : State) : Out :=
  .next (
    if s.dev == load && s.boot.byImage && ! s.boot.hostDone then s.put SYS_STATE.LAST_ERR Err.timeout.code else s)

end Sys2Proof.Machine
end

