-- ==== Sys2Proof/Machine/Dispatch.lean ====
section
/-! DEFINITION. One arm per command: each calls its meaning. -/

namespace Sys2Proof.Machine

def exec (i : Instr) (s : State) : Host.Outcome State Fault Refusal :=
  match i with
  | .resetNRise => Sys2Proof.Machine.execResetNRise s
  | .resetNFall lowNs => Sys2Proof.Machine.execResetNFall lowNs s
  | .supplyBelowReset rail lowNs => Sys2Proof.Machine.execSupplyBelowReset rail lowNs s
  | .hostAccessPowerOff addr write v => Sys2Proof.Machine.execHostAccessPowerOff addr write v s
  | .supplyFault rail mv => Sys2Proof.Machine.execSupplyFault rail mv s
  | .dumpDone len => Sys2Proof.Machine.execDumpDone len s
  | .faultLogMove => Sys2Proof.Machine.execFaultLogMove s
  | .updateStrobe src v => Sys2Proof.Machine.execUpdateStrobe src v s
  | .admissionVerdict => Sys2Proof.Machine.execAdmissionVerdict s
  | .timedApply => Sys2Proof.Machine.execTimedApply s
  | .updateCancel src v => Sys2Proof.Machine.execUpdateCancel src v s
  | .capacityFall c => Sys2Proof.Machine.execCapacityFall c s
  | .xtalLoss => Sys2Proof.Machine.execXtalLoss s
  | .pllLoss n => Sys2Proof.Machine.execPllLoss n s
  | .pllLock n => Sys2Proof.Machine.execPllLock n s
  | .pllRetuneTimeout n => Sys2Proof.Machine.execPllRetuneTimeout n s
  | .refWindow count corr => Sys2Proof.Machine.execRefWindow count corr s
  | .holdoverExit => Sys2Proof.Machine.execHoldoverExit s
  | .syncInEdge rising stamp onPhase => Sys2Proof.Machine.execSyncInEdge rising stamp onPhase s
  | .divArm src v => Sys2Proof.Machine.execDivArm src v s
  | .almStep src v => Sys2Proof.Machine.execAlmStep src v s
  | .ppsInEdge rising stamp => Sys2Proof.Machine.execPpsInEdge rising stamp s
  | .ppsAbsent => Sys2Proof.Machine.execPpsAbsent s
  | .ppsOutPulse => Sys2Proof.Machine.execPpsOutPulse s
  | .ppsOutEnd => Sys2Proof.Machine.execPpsOutEnd s
  | .trigInEdge k rising stamp => Sys2Proof.Machine.execTrigInEdge k rising stamp s
  | .tdcArm src v => Sys2Proof.Machine.execTdcArm src v s
  | .tdcAbort src v => Sys2Proof.Machine.execTdcAbort src v s
  | .tdcTimeout => Sys2Proof.Machine.execTdcTimeout s
  | .tdcCalibrate failed => Sys2Proof.Machine.execTdcCalibrate failed s
  | .laneMarker n stamp offset samples more => Sys2Proof.Machine.execLaneMarker n stamp offset samples more s
  | .cdrDone n ctle taps => Sys2Proof.Machine.execCdrDone n ctle taps s
  | .codeGroupSync n => Sys2Proof.Machine.execCodeGroupSync n s
  | .converterValid c firstStamp => Sys2Proof.Machine.execConverterValid c firstStamp s
  | .ilasReceive c cfg => Sys2Proof.Machine.execIlasReceive c cfg s
  | .deskewFail c => Sys2Proof.Machine.execDeskewFail c s
  | .fomMeasure n h v => Sys2Proof.Machine.execFomMeasure n h v s
  | .dfeAdapt n moves => Sys2Proof.Machine.execDfeAdapt n moves s
  | .idleAnnounce c lanes => Sys2Proof.Machine.execIdleAnnounce c lanes s
  | .idleExit c firstStamp missed => Sys2Proof.Machine.execIdleExit c firstStamp missed s
  | .laneSquelch n more => Sys2Proof.Machine.execLaneSquelch n more s
  | .laneCodeErrors n disp unexp more => Sys2Proof.Machine.execLaneCodeErrors n disp unexp more s
  | .laneMarkerError n more => Sys2Proof.Machine.execLaneMarkerError n more s
  | .cdrLoss n more => Sys2Proof.Machine.execCdrLoss n more s
  | .deskewOverrun n more => Sys2Proof.Machine.execDeskewOverrun n more s
  | .lnkRestart src v => Sys2Proof.Machine.execLnkRestart src v s
  | .sampleDeliver ch samples => Sys2Proof.Machine.execSampleDeliver ch samples s
  | .dcbClr unit src v => Sys2Proof.Machine.execDcbClr unit src v s
  | .ddcSwap d src v => Sys2Proof.Machine.execDdcSwap d src v s
  | .fadeEnd d => Sys2Proof.Machine.execFadeEnd d s
  | .ddcSyncGo src v => Sys2Proof.Machine.execDdcSyncGo src v s
  | .ddcSyncAbort src v => Sys2Proof.Machine.execDdcSyncAbort src v s
  | .ddcSyncReset stamp => Sys2Proof.Machine.execDdcSyncReset stamp s
  | .ddcRelease stamp => Sys2Proof.Machine.execDdcRelease stamp s
  | .spectrumRelease source bins => Sys2Proof.Machine.execSpectrumRelease source bins s
  | .traceSnap source t src v => Sys2Proof.Machine.execTraceSnap source t src v s
  | .traceReset source t src v => Sys2Proof.Machine.execTraceReset source t src v s
  | .pipeFail p cause loc => Sys2Proof.Machine.execPipeFail p cause loc s
  | .pipeReset p src v => Sys2Proof.Machine.execPipeReset p src v s
  | .patternTestDone p pass => Sys2Proof.Machine.execPatternTestDone p pass s
  | .spareTakeover src v => Sys2Proof.Machine.execSpareTakeover src v s
  | .spareRelease src v => Sys2Proof.Machine.execSpareRelease src v s
  | .spareSwitch isMatch => Sys2Proof.Machine.execSpareSwitch isMatch s
  | .checkStart src v => Sys2Proof.Machine.execCheckStart src v s
  | .checkInterval => Sys2Proof.Machine.execCheckInterval s
  | .checkAbort src v => Sys2Proof.Machine.execCheckAbort src v s
  | .checkTestDone pass => Sys2Proof.Machine.execCheckTestDone pass s
  | .slotDecide stamp next delivered real => Sys2Proof.Machine.execSlotDecide stamp next delivered real s
  | .autoTimer => Sys2Proof.Machine.execAutoTimer s
  | .trgArm src v => Sys2Proof.Machine.execTrgArm src v s
  | .trgForce src v => Sys2Proof.Machine.execTrgForce src v s
  | .trgLogPop src v => Sys2Proof.Machine.execTrgLogPop src v s
  | .seqReset src v => Sys2Proof.Machine.execSeqReset src v s
  | .trigOutPulse k t => Sys2Proof.Machine.execTrigOutPulse k t s
  | .trigOutEnd k => Sys2Proof.Machine.execTrigOutEnd k s
  | .remoteTriggerRx p txId instant node cause hops => Sys2Proof.Machine.execRemoteTriggerRx p txId instant node cause hops s
  | .acqArm u src v => Sys2Proof.Machine.execAcqArm u src v s
  | .acqStop u src v => Sys2Proof.Machine.execAcqStop u src v s
  | .acqAbort u src v => Sys2Proof.Machine.execAcqAbort u src v s
  | .lrdWrite u src v => Sys2Proof.Machine.execLrdWrite u src v s
  | .segmentEntry u => Sys2Proof.Machine.execSegmentEntry u s
  | .stagingOverrun u => Sys2Proof.Machine.execStagingOverrun u s
  | .stagingResume u => Sys2Proof.Machine.execStagingResume u s
  | .circularPostStop u => Sys2Proof.Machine.execCircularPostStop u s
  | .autoRearm u => Sys2Proof.Machine.execAutoRearm u s
  | .containerBlock u => Sys2Proof.Machine.execContainerBlock u s
  | .nebTimer => Sys2Proof.Machine.execNebTimer s
  | .nebSwap src v => Sys2Proof.Machine.execNebSwap src v s
  | .nebClear src v => Sys2Proof.Machine.execNebClear src v s
  | .nebHold src v => Sys2Proof.Machine.execNebHold src v s
  | .nebRelease src v => Sys2Proof.Machine.execNebRelease src v s
  | .swapEdge => Sys2Proof.Machine.execSwapEdge s
  | .publicationComplete => Sys2Proof.Machine.execPublicationComplete s
  | .holdExpired => Sys2Proof.Machine.execHoldExpired s
  | .vblank => Sys2Proof.Machine.execVblank s
  | .dpyCommit src v => Sys2Proof.Machine.execDpyCommit src v s
  | .commitLand => Sys2Proof.Machine.execCommitLand s
  | .composeStart => Sys2Proof.Machine.execComposeStart s
  | .densityLockRelease => Sys2Proof.Machine.execDensityLockRelease s
  | .scanoutLine line composed => Sys2Proof.Machine.execScanoutLine line composed s
  | .teInEdge rising => Sys2Proof.Machine.execTeInEdge rising s
  | .teMiss => Sys2Proof.Machine.execTeMiss s
  | .linkTrained rate lanes ok => Sys2Proof.Machine.execLinkTrained rate lanes ok s
  | .hpdIrq lost => Sys2Proof.Machine.execHpdIrq lost s
  | .hpdUnplug => Sys2Proof.Machine.execHpdUnplug s
  | .hpdPlug => Sys2Proof.Machine.execHpdPlug s
  | .auxGo src v => Sys2Proof.Machine.execAuxGo src v s
  | .auxDone result data => Sys2Proof.Machine.execAuxDone result data s
  | .lodStart core src v => Sys2Proof.Machine.execLodStart core src v s
  | .lodStop core src v => Sys2Proof.Machine.execLodStop core src v s
  | .lodDoor core src v => Sys2Proof.Machine.execLodDoor core src v s
  | .lodTimer core => Sys2Proof.Machine.execLodTimer core s
  | .tapEntry core q => Sys2Proof.Machine.execTapEntry core q s
  | .interruptEntry core => Sys2Proof.Machine.execInterruptEntry core s
  | .budgetOverrun core => Sys2Proof.Machine.execBudgetOverrun core s
  | .lodBusyWindow core mstall => Sys2Proof.Machine.execLodBusyWindow core mstall s
  | .nop core w => Sys2Proof.Machine.execNop core w s
  | .wait core w => Sys2Proof.Machine.execWait core w s
  | .reti core w => Sys2Proof.Machine.execReti core w s
  | .rts core w => Sys2Proof.Machine.execRts core w s
  | .ei core w => Sys2Proof.Machine.execEi core w s
  | .di core w => Sys2Proof.Machine.execDi core w s
  | .trap core w => Sys2Proof.Machine.execTrap core w s
  | .sig core w => Sys2Proof.Machine.execSig core w s
  | .hostev core w => Sys2Proof.Machine.execHostev core w s
  | .clrv core w => Sys2Proof.Machine.execClrv core w s
  | .bra core w => Sys2Proof.Machine.execBra core w s
  | .bcc core w => Sys2Proof.Machine.execBcc core w s
  | .call core w => Sys2Proof.Machine.execCall core w s
  | .rep core w => Sys2Proof.Machine.execRep core w s
  | .loop core w => Sys2Proof.Machine.execLoop core w s
  | .add core w => Sys2Proof.Machine.execAdd core w s
  | .sub core w => Sys2Proof.Machine.execSub core w s
  | .and core w => Sys2Proof.Machine.execAnd core w s
  | .or core w => Sys2Proof.Machine.execOr core w s
  | .xor core w => Sys2Proof.Machine.execXor core w s
  | .asr core w => Sys2Proof.Machine.execAsr core w s
  | .lsr core w => Sys2Proof.Machine.execLsr core w s
  | .shl core w => Sys2Proof.Machine.execShl core w s
  | .cmp core w => Sys2Proof.Machine.execCmp core w s
  | .mov core w => Sys2Proof.Machine.execMov core w s
  | .neg core w => Sys2Proof.Machine.execNeg core w s
  | .abs core w => Sys2Proof.Machine.execAbs core w s
  | .aluiAdd core w => Sys2Proof.Machine.execAluiAdd core w s
  | .aluiSub core w => Sys2Proof.Machine.execAluiSub core w s
  | .aluiAnd core w => Sys2Proof.Machine.execAluiAnd core w s
  | .aluiOr core w => Sys2Proof.Machine.execAluiOr core w s
  | .aluiXor core w => Sys2Proof.Machine.execAluiXor core w s
  | .aluiAsr core w => Sys2Proof.Machine.execAluiAsr core w s
  | .aluiLsr core w => Sys2Proof.Machine.execAluiLsr core w s
  | .aluiShl core w => Sys2Proof.Machine.execAluiShl core w s
  | .aluiCmp core w => Sys2Proof.Machine.execAluiCmp core w s
  | .aluiMov core w => Sys2Proof.Machine.execAluiMov core w s
  | .aluiNeg core w => Sys2Proof.Machine.execAluiNeg core w s
  | .aluiAbs core w => Sys2Proof.Machine.execAluiAbs core w s
  | .mpy core w => Sys2Proof.Machine.execMpy core w s
  | .mac core w => Sys2Proof.Machine.execMac core w s
  | .msu core w => Sys2Proof.Machine.execMsu core w s
  | .cmpy core w => Sys2Proof.Machine.execCmpy core w s
  | .cmac core w => Sys2Proof.Machine.execCmac core w s
  | .cmacj core w => Sys2Proof.Machine.execCmacj core w s
  | .cmsu core w => Sys2Proof.Machine.execCmsu core w s
  | .clra core w => Sys2Proof.Machine.execClra core w s
  | .adda core w => Sys2Proof.Machine.execAdda core w s
  | .suba core w => Sys2Proof.Machine.execSuba core w s
  | .ash core w => Sys2Proof.Machine.execAsh core w s
  | .mva core w => Sys2Proof.Machine.execMva core w s
  | .mvda core w => Sys2Proof.Machine.execMvda core w s
  | .ld core w => Sys2Proof.Machine.execLd core w s
  | .st core acc w => Sys2Proof.Machine.execSt core acc w s
  | .ldl core w => Sys2Proof.Machine.execLdl core w s
  | .stl core w => Sys2Proof.Machine.execStl core w s
  | .move core w => Sys2Proof.Machine.execMove core w s
  | .ldg core w => Sys2Proof.Machine.execLdg core w s
  | .addg core w => Sys2Proof.Machine.execAddg core w s
  | .tget core w => Sys2Proof.Machine.execTget core w s
  | .mvs core w => Sys2Proof.Machine.execMvs core w s
  | .mvt core w => Sys2Proof.Machine.execMvt core w s
  | .ldi core w imm => Sys2Proof.Machine.execLdi core w imm s
  | .lda core w imm => Sys2Proof.Machine.execLda core w imm s
  | .sta core w imm => Sys2Proof.Machine.execSta core w imm s
  | .dmaStart k src v => Sys2Proof.Machine.execDmaStart k src v s
  | .dmaStop k src v => Sys2Proof.Machine.execDmaStop k src v s
  | .dmaAbort k beats host src v => Sys2Proof.Machine.execDmaAbort k beats host src v s
  | .kick k src v => Sys2Proof.Machine.execKick k src v s
  | .dmaHeadWrite k src v => Sys2Proof.Machine.execDmaHeadWrite k src v s
  | .descriptorFetch k => Sys2Proof.Machine.execDescriptorFetch k s
  | .descriptorComplete k host => Sys2Proof.Machine.execDescriptorComplete k host s
  | .beatRefused k read beats detail host => Sys2Proof.Machine.execBeatRefused k read beats detail host s
  | .barrierArm b src v => Sys2Proof.Machine.execBarrierArm b src v s
  | .chkReset n src v => Sys2Proof.Machine.execChkReset n src v s
  | .agePromote path index => Sys2Proof.Machine.execAgePromote path index s
  | .hostLinkUp width speed bme msixEn funcMask => Sys2Proof.Machine.execHostLinkUp width speed bme msixEn funcMask s
  | .hostLinkReset p => Sys2Proof.Machine.execHostLinkReset p s
  | .functionLevelReset p => Sys2Proof.Machine.execFunctionLevelReset p s
  | .hostCompletionTimeout k beats host => Sys2Proof.Machine.execHostCompletionTimeout k beats host s
  | .msixMessage vec => Sys2Proof.Machine.execMsixMessage vec s
  | .bar2Access addr write bytes rivals => Sys2Proof.Machine.execBar2Access addr write bytes rivals s
  | .bar4Access addr write bytes rivals => Sys2Proof.Machine.execBar4Access addr write bytes rivals s
  | .driveBringup d ok lba metadata nsze mdts mqes => Sys2Proof.Machine.execDriveBringup d ok lba metadata nsze mdts mqes s
  | .writeComplete d n sct sc cid => Sys2Proof.Machine.execWriteComplete d n sct sc cid s
  | .nvmeTimeout d n cid => Sys2Proof.Machine.execNvmeTimeout d n cid s
  | .driveFail d linkLost => Sys2Proof.Machine.execDriveFail d linkLost s
  | .sptReinit mask src v => Sys2Proof.Machine.execSptReinit mask src v s
  | .sptFlush src v => Sys2Proof.Machine.execSptFlush src v s
  | .flushComplete err => Sys2Proof.Machine.execFlushComplete err s
  | .refresh ch bank c0 => Sys2Proof.Machine.execRefresh ch bank c0 s
  | .tempRead c tA tB => Sys2Proof.Machine.execTempRead c tA tB s
  | .retrainInterval ch => Sys2Proof.Machine.execRetrainInterval ch s
  | .memTrain src v => Sys2Proof.Machine.execMemTrain src v s
  | .trainStepDone ok => Sys2Proof.Machine.execTrainStepDone ok s
  | .trainRetry ok => Sys2Proof.Machine.execTrainRetry ok s
  | .trainingDone ok => Sys2Proof.Machine.execTrainingDone ok s
  | .freqGo src v => Sys2Proof.Machine.execFreqGo src v s
  | .rowActivate ch bank row req => Sys2Proof.Machine.execRowActivate ch bank row req s
  | .throttleEnd ch bank req => Sys2Proof.Machine.execThrottleEnd ch bank req s
  | .patrolScrub word errors => Sys2Proof.Machine.execPatrolScrub word errors s
  | .rowSpareDone ch bank row => Sys2Proof.Machine.execRowSpareDone ch bank row s
  | .adcSlot measure raw0 raw1 => Sys2Proof.Machine.execAdcSlot measure raw0 raw1 s
  | .inj src v => Sys2Proof.Machine.execInj src v s
  | .calGo src v => Sys2Proof.Machine.execCalGo src v s
  | .calPointDone => Sys2Proof.Machine.execCalPointDone s
  | .calApply src v => Sys2Proof.Machine.execCalApply src v s
  | .diagGo src v => Sys2Proof.Machine.execDiagGo src v s
  | .diagAbort src v => Sys2Proof.Machine.execDiagAbort src v s
  | .diagDone => Sys2Proof.Machine.execDiagDone s
  | .loopCompute l => Sys2Proof.Machine.execLoopCompute l s
  | .clrFault l src v => Sys2Proof.Machine.execClrFault l src v s
  | .pwmPeriod p => Sys2Proof.Machine.execPwmPeriod p s
  | .spiGo m src v => Sys2Proof.Machine.execSpiGo m src v s
  | .spiDone m rx => Sys2Proof.Machine.execSpiDone m rx s
  | .ssGo src v => Sys2Proof.Machine.execSsGo src v s
  | .ssStop src v => Sys2Proof.Machine.execSsStop src v s
  | .ssAbort src v => Sys2Proof.Machine.execSsAbort src v s
  | .stepStart => Sys2Proof.Machine.execStepStart s
  | .gateOpen => Sys2Proof.Machine.execGateOpen s
  | .stepEnd => Sys2Proof.Machine.execStepEnd s
  | .stepLate => Sys2Proof.Machine.execStepLate s
  | .portUp p delay peer count c healed => Sys2Proof.Machine.execPortUp p delay peer count c healed s
  | .portDown p cause remote members => Sys2Proof.Machine.execPortDown p cause remote members s
  | .frameResend p => Sys2Proof.Machine.execFrameResend p s
  | .beaconSend => Sys2Proof.Machine.execBeaconSend s
  | .beaconReceive p tTx tq tRx c => Sys2Proof.Machine.execBeaconReceive p tTx tq tRx c s
  | .bcast src v => Sys2Proof.Machine.execBcast src v s
  | .broadcastDeliver sender data => Sys2Proof.Machine.execBroadcastDeliver sender data s
  | .bcPop src v => Sys2Proof.Machine.execBcPop src v s
  | .arrive src v => Sys2Proof.Machine.execArrive src v s
  | .barrierRelease stamp lost => Sys2Proof.Machine.execBarrierRelease stamp lost s
  | .cstSnap src v => Sys2Proof.Machine.execCstSnap src v s
  | .snapshotCapture request => Sys2Proof.Machine.execSnapshotCapture request s
  | .cstApply src v => Sys2Proof.Machine.execCstApply src v s
  | .applyPrepare groups => Sys2Proof.Machine.execApplyPrepare groups s
  | .applyCommit e => Sys2Proof.Machine.execApplyCommit e s
  | .cstReset src v => Sys2Proof.Machine.execCstReset src v s
  | .systemReset request => Sys2Proof.Machine.execSystemReset request s
  | .opTimeout k => Sys2Proof.Machine.execOpTimeout k s
  | .registerWrite src addr size v => Sys2Proof.Machine.execRegisterWrite src addr size v s
  | .setAlias src addr v => Sys2Proof.Machine.execSetAlias src addr v s
  | .clearAlias src addr v => Sys2Proof.Machine.execClearAlias src addr v s
  | .toggleAlias src addr v => Sys2Proof.Machine.execToggleAlias src addr v s
  | .readClear src addr size => Sys2Proof.Machine.execReadClear src addr size s
  | .latchingRead src addr size => Sys2Proof.Machine.execLatchingRead src addr size s
  | .groupWrite w src v => Sys2Proof.Machine.execGroupWrite w src v s
  | .guardPass => Sys2Proof.Machine.execGuardPass s
  | .cfgcrcRefWrite src v => Sys2Proof.Machine.execCfgcrcRefWrite src v s
  | .errLogPop src v => Sys2Proof.Machine.execErrLogPop src v s
  | .headerRead => Sys2Proof.Machine.execHeaderRead s
  | .imageCheck ownFmt sigOk => Sys2Proof.Machine.execImageCheck ownFmt sigOk s
  | .firmwareStart => Sys2Proof.Machine.execFirmwareStart s
  | .standbyLoaded ok => Sys2Proof.Machine.execStandbyLoaded ok s
  | .regRecord => Sys2Proof.Machine.execRegRecord s
  | .maskRecord => Sys2Proof.Machine.execMaskRecord s
  | .sramRecord => Sys2Proof.Machine.execSramRecord s
  | .powerRecord => Sys2Proof.Machine.execPowerRecord s
  | .waitRecord => Sys2Proof.Machine.execWaitRecord s
  | .waitRecordTimeout => Sys2Proof.Machine.execWaitRecordTimeout s
  | .applyRecord => Sys2Proof.Machine.execApplyRecord s
  | .crcrefRecord => Sys2Proof.Machine.execCrcrefRecord s
  | .endRecord => Sys2Proof.Machine.execEndRecord s
  | .hostCfgTimeout => Sys2Proof.Machine.execHostCfgTimeout s
  | .updStart src v => Sys2Proof.Machine.execUpdStart src v s
  | .updAbort src v => Sys2Proof.Machine.execUpdAbort src v s
  | .dataBlock src v => Sys2Proof.Machine.execDataBlock src v s
  | .copyBlock src v => Sys2Proof.Machine.execCopyBlock src v s
  | .fillBlock src v => Sys2Proof.Machine.execFillBlock src v s
  | .endBlock src v => Sys2Proof.Machine.execEndBlock src v s
  | .blockProgrammed => Sys2Proof.Machine.execBlockProgrammed s
  | .slotVerify ownFmt sigOk => Sys2Proof.Machine.execSlotVerify ownFmt sigOk s
  | .flashFail => Sys2Proof.Machine.execFlashFail s
  | .handover src v => Sys2Proof.Machine.execHandover src v s
  | .handoverSwitch => Sys2Proof.Machine.execHandoverSwitch s
  | .handoverResume => Sys2Proof.Machine.execHandoverResume s
  | .confirm src v => Sys2Proof.Machine.execConfirm src v s
  | .revert src v => Sys2Proof.Machine.execRevert src v s
  | .bootnext src v => Sys2Proof.Machine.execBootnext src v s
  | .loadstby src v => Sys2Proof.Machine.execLoadstby src v s
  | .trialExpiry => Sys2Proof.Machine.execTrialExpiry s
  | .watchdogExpiry standby => Sys2Proof.Machine.execWatchdogExpiry standby s
  | .fltAck src v => Sys2Proof.Machine.execFltAck src v s
  | .faultLogPop src v => Sys2Proof.Machine.execFaultLogPop src v s
  | .sramScrub word errors => Sys2Proof.Machine.execSramScrub word errors s
  | .sramRowSpared => Sys2Proof.Machine.execSramRowSpared s
  | .thermSample tj sensor => Sys2Proof.Machine.execThermSample tj sensor s
  | .pwrUp d src v => Sys2Proof.Machine.execPwrUp d src v s
  | .pwrDown d p src v => Sys2Proof.Machine.execPwrDown d p src v s
  | .pwrForce d p src v => Sys2Proof.Machine.execPwrForce d p src v s
  | .domainOn d p => Sys2Proof.Machine.execDomainOn d p s
  | .restoreDone d => Sys2Proof.Machine.execRestoreDone d s
  | .drainDone d p => Sys2Proof.Machine.execDrainDone d p s
  | .drainTimeout d => Sys2Proof.Machine.execDrainTimeout d s
  | .domainOff d => Sys2Proof.Machine.execDomainOff d s
  | .slSyncnRise c => Sys2Proof.Machine.execSlSyncnRise c s
  | .driveLinkUp d width speed => Sys2Proof.Machine.execDriveLinkUp d width speed s
  | .pwmActiveEnd p => Sys2Proof.Machine.execPwmActiveEnd p s
  | .beaconReply p stamp => Sys2Proof.Machine.execBeaconReply p stamp s
  | .arrivalReport p => Sys2Proof.Machine.execArrivalReport p s
  | .verdictReport p node code => Sys2Proof.Machine.execVerdictReport p node code s

end Sys2Proof.Machine
end

