-- ==== Sys2Proof/Safety.lean ====
section
/-! DEFINITION. The vocabulary of the statements: completion of a command, an admitted register write, the canonical form
of the state, and its bounded logs. -/

namespace Sys2Proof.Machine

/-- Command c, run on s, answers a next state, and P holds of it. -/
def Completes (c : Instr) (s : State) (P : State → Prop) : Prop := ∃ t, exec c s = .next t ∧ P t

/-- No rule of access stands against a write of `w` at the normal-view address `a` from `src`: the engine is not in
POWER_OFF, the access rules of R508 and R509, the locks and busy rules of R502 and R522 and of the block (`r`), and the
value rules of R11 and R12 all pass. -/
def State.admits (s : State) (r : WriteRules) (src : Source) (a : Nat) (w : Word) : Prop :=
  s.dev ≠ powerOff ∧ s.accessErr src a 4 true = none
  ∧ (hasGroup (blockOfWindow (a / 0x10000)) && s.cstLocks (blockOfWindow (a / 0x10000))) = false
  ∧ r.pre s src a w = none ∧ s.updateBusy a = none ∧ setsReserved (fieldsAt a) w = false ∧ valueErr (fieldsAt a) w = none

/-- The state with the fields of `w` landed in register `a`, before the write acts. -/
def State.landed (s : State) (a : Nat) (w : Word) : State := s.setWord a (landWord (fieldsAt a) (s.word a) w)

/-- The last access was answered OK. -/
def State.okAnswer (s : State) : Prop := s.resp = some ⟨0, [], 0⟩

/-- The memories and the register maps are in canonical form: keys rising, no entry equal to what an unlisted key reads
as. -/
def State.canonical (s : State) : Prop :=
  s.regs.wf resetWord = true ∧ s.applied.wf appliedDefault = true ∧ s.latch.wf latchDefault = true
  ∧ s.sram.wf sramDefault = true ∧ s.gddr.wf gddrDefault = true ∧ s.flash.wf flashDefault = true

/-- The logs hold no more than the manual gives them: 16 entries of SYS_ERR_LOG (R533), 64 records in the hardware queue
and 256 in the fault log (R568). -/
def State.logsFit (s : State) : Prop := s.sys.errLog.length ≤ 16 ∧ s.flt.hwq.length ≤ 64 ∧ s.flt.log.length ≤ 256

/-- The parts of the state beside the queue and the two register maps, each named as its field is. -/
inductive Part where
  | latch
  | sram
  | gddr
  | flash
  | freeCtr
  | resp
  | pins
  | sys
  | flt
  | pwr
  | alm
  | lnk
  | fcv
  | ddc
  | fft
  | trg
  | acq
  | neb
  | dpy
  | lod
  | dma
  | hpt
  | spt
  | mem
  | aux
  | srv
  | cst
  | upd
  | boot
deriving DecidableEq, Repr

/-- A part is the same in both states. -/
def Part.same (s t : State) : Part → Prop
  | .latch => t.latch = s.latch
  | .sram => t.sram = s.sram
  | .gddr => t.gddr = s.gddr
  | .flash => t.flash = s.flash
  | .freeCtr => t.freeCtr = s.freeCtr
  | .resp => t.resp = s.resp
  | .pins => t.pins = s.pins
  | .sys => t.sys = s.sys
  | .flt => t.flt = s.flt
  | .pwr => t.pwr = s.pwr
  | .alm => t.alm = s.alm
  | .lnk => t.lnk = s.lnk
  | .fcv => t.fcv = s.fcv
  | .ddc => t.ddc = s.ddc
  | .fft => t.fft = s.fft
  | .trg => t.trg = s.trg
  | .acq => t.acq = s.acq
  | .neb => t.neb = s.neb
  | .dpy => t.dpy = s.dpy
  | .lod => t.lod = s.lod
  | .dma => t.dma = s.dma
  | .hpt => t.hpt = s.hpt
  | .spt => t.spt = s.spt
  | .mem => t.mem = s.mem
  | .aux => t.aux = s.aux
  | .srv => t.srv = s.srv
  | .cst => t.cst = s.cst
  | .upd => t.upd = s.upd
  | .boot => t.boot = s.boot

/-- What a command may change: the BAR0 windows whose registers it may write, the windows whose applied copies it may
write (with `any`, every window for both), and the parts of the state it may write. -/
structure Foot where
  any : Bool
  words : List Nat
  apps : List Nat
  parts : List Part
deriving DecidableEq, Repr

/-- The footprint names window w for registers. -/
def Foot.word (f : Foot) (w : Nat) : Bool := f.any || f.words.contains w

/-- The footprint names window w for applied copies. -/
def Foot.app (f : Foot) (w : Nat) : Bool := f.any || f.apps.contains w

/-- The footprint names part p. -/
def Foot.part (f : Foot) (p : Part) : Bool := f.parts.contains p

/-- State t is s but for what the footprint names: the queue is the same, every register outside the footprint's windows
reads the same in both copies, and every other part is the same. -/
def Foot.holds (f : Foot) (s t : State) : Prop :=
  t.pending = s.pending
  ∧ (∀ a, f.word (a / 0x10000) = false → t.word a = s.word a)
  ∧ (∀ a, f.app (a / 0x10000) = false → t.appWord a = s.appWord a)
  ∧ ∀ p, f.part p = false → p.same s t

/-- Core n runs and may issue an instruction of kind k where it stands: it is clocked and RUNNING (R365, R369), no rule of
place forbids the instruction (R354), and no STOP waits (R366). -/
def State.lodRuns (s : State) (n : Fin 8) (k : LodKind) : Prop :=
  s.coreLive n = true ∧ s.coreState n = cRUNNING ∧ (s.core n).stopReq = false ∧ (s.core n).illegalHere k = false

/-- The interlock stall of an instruction that uses `u` (R351), as a number of cycles. -/
def LodCore.stall (c : LodCore) (u : LodUse) : Nat := b2n ((u.accR &&& c.lastAcc) != 0 || (u.walkR &&& c.lastWalk) != 0)

/-- The state that an instruction of `len` words acts on: its cycles and its stall are counted (R351, R370). -/
def State.lodAt (s : State) (n : Fin 8) (len : Nat) (u : LodUse) : State := s.lodCycles n len ((s.core n).stall u)

/-- The core after an instruction of `len` words that has run on: its cycles and stall are counted, the program counter,
the repetition, the delay slots and the loops have stepped on (R350 to R352), and what it used is remembered for the
interlock of the next (R351). -/
def LodCore.ranOn (c : LodCore) (len : Nat) (u : LodUse) : LodCore :=
  { c.stepOn len with
    icyc := c.icyc + len + c.stall u, busy := c.busy + len + c.stall u, istall := c.istall + c.stall u
    lastAcc := u.accW, lastWalk := u.walkW }

/-- Every core but n is the same in t as in s, and so are the taps. -/
def State.otherCores (s t : State) (n : Fin 8) : Prop := (∀ m, m ≠ n → t.core m = s.core m) ∧ t.lod.tap = s.lod.tap

end Sys2Proof.Machine
end

