-- ==== Sys2Proof/Footprint.lean ====
section
/-! DEFINITION. The footprint of every command: what it may change. -/

namespace Sys2Proof.Machine

/-- What each command may change: the BAR0 windows whose registers it may write, those whose applied copies it may write,
and the parts of the state it may write. -/
def footOf : Instr → Foot
  | .resetNRise => ⟨false, [0x00, 0x01, 0x15], [], [.sys, .pwr]⟩
  | .resetNFall _ => ⟨true, [], [], [.latch, .sram, .gddr, .freeCtr, .resp, .pins, .sys, .flt, .pwr, .alm, .lnk, .fcv, .ddc, .fft, .trg, .acq, .neb, .dpy, .lod, .dma, .hpt, .spt, .mem, .aux, .srv, .cst, .upd, .boot]⟩
  | .supplyBelowReset _ _ => ⟨true, [], [], [.latch, .sram, .gddr, .freeCtr, .resp, .pins, .sys, .flt, .pwr, .alm, .lnk, .fcv, .ddc, .fft, .trg, .acq, .neb, .dpy, .lod, .dma, .hpt, .spt, .mem, .aux, .srv, .cst, .upd, .boot]⟩
  | .hostAccessPowerOff _ _ _ => ⟨false, [], [], [.resp]⟩
  | .supplyFault _ _ => ⟨false, [0x00, 0x15, 0x1B], [], [.pins, .flt]⟩
  | .dumpDone _ => ⟨false, [0x01, 0x1B], [], [.sram, .gddr, .freeCtr, .pins, .sys]⟩
  | .faultLogMove => ⟨false, [0x15, 0x1B], [], [.flt]⟩
  | .updateStrobe _ _ => ⟨false, [0x00], [], [.resp, .sys]⟩
  | .admissionVerdict => ⟨false, [0x00, 0x02, 0x03, 0x04, 0x05, 0x06, 0x07, 0x08, 0x09, 0x0A, 0x0B, 0x0C, 0x10, 0x12, 0x13, 0x15, 0x16, 0x17, 0x18, 0x19, 0x1A, 0x1B], [0x00, 0x01, 0x02, 0x03, 0x04, 0x05, 0x06, 0x07, 0x08, 0x09, 0x0A, 0x0B, 0x0C, 0x0D, 0x0E, 0x0F, 0x10, 0x11, 0x12, 0x13, 0x14, 0x15, 0x16, 0x17, 0x18, 0x19, 0x1A, 0x1B], [.sram, .gddr, .freeCtr, .pins, .sys, .flt, .alm, .lnk, .fcv, .ddc, .fft, .trg, .acq, .neb, .lod, .dma, .spt, .mem, .aux, .srv, .cst, .boot]⟩
  | .timedApply => ⟨false, [0x00, 0x02, 0x03, 0x04, 0x05, 0x06, 0x07, 0x08, 0x09, 0x0A, 0x0B, 0x0C, 0x10, 0x12, 0x13, 0x15, 0x16, 0x17, 0x18, 0x19, 0x1B], [0x00, 0x01, 0x02, 0x03, 0x04, 0x05, 0x06, 0x07, 0x08, 0x09, 0x0A, 0x0B, 0x0C, 0x0D, 0x0E, 0x0F, 0x10, 0x11, 0x12, 0x13, 0x14, 0x15, 0x16, 0x17, 0x18, 0x19, 0x1A, 0x1B], [.sram, .gddr, .freeCtr, .pins, .sys, .flt, .alm, .lnk, .fcv, .ddc, .fft, .trg, .acq, .neb, .lod, .dma, .spt, .mem, .aux, .srv, .cst]⟩
  | .updateCancel _ _ => ⟨false, [0x00], [], [.resp, .sys]⟩
  | .capacityFall _ => ⟨false, [0x00, 0x02, 0x08, 0x09, 0x0C, 0x0E, 0x12, 0x13, 0x14, 0x15, 0x16, 0x1B], [0x02, 0x0E, 0x15], [.latch, .sram, .gddr, .freeCtr, .sys, .flt, .alm, .fft, .acq, .neb, .dpy, .dma, .hpt, .spt, .mem]⟩
  | .xtalLoss => ⟨false, [0x00, 0x03, 0x15, 0x1B], [], [.pins, .flt]⟩
  | .pllLoss _ => ⟨false, [0x00, 0x02, 0x04, 0x05, 0x06, 0x07, 0x08, 0x09, 0x0B, 0x0C, 0x0E, 0x10, 0x15, 0x1B], [], [.gddr, .freeCtr, .pins, .flt, .lnk, .fcv, .fft, .trg, .acq, .neb, .dpy, .lod, .mem, .srv]⟩
  | .pllLock _ => ⟨false, [0x00, 0x02, 0x0C, 0x0E, 0x14, 0x15, 0x1A, 0x1B], [0x14], [.alm, .neb, .dpy, .boot]⟩
  | .pllRetuneTimeout _ => ⟨false, [0x00, 0x02, 0x04, 0x05, 0x06, 0x07, 0x08, 0x09, 0x0B, 0x0C, 0x0E, 0x10, 0x15, 0x1B], [], [.gddr, .freeCtr, .pins, .flt, .alm, .lnk, .fcv, .fft, .trg, .acq, .neb, .dpy, .lod, .mem, .srv]⟩
  | .refWindow _ _ => ⟨false, [0x03, 0x1B], [], [.flt, .alm]⟩
  | .holdoverExit => ⟨false, [0x03], [], [.alm]⟩
  | .syncInEdge _ _ _ => ⟨false, [0x02, 0x03, 0x04], [], [.alm, .lnk]⟩
  | .divArm _ _ => ⟨false, [0x00, 0x02], [], [.resp, .sys]⟩
  | .almStep _ _ => ⟨false, [0x00, 0x03], [], [.resp, .sys, .alm]⟩
  | .ppsInEdge _ _ => ⟨false, [0x03, 0x1B], [], [.flt, .alm]⟩
  | .ppsAbsent => ⟨false, [0x03], [], [.alm]⟩
  | .ppsOutPulse => ⟨false, [], [], [.pins]⟩
  | .ppsOutEnd => ⟨false, [], [], [.pins]⟩
  | .trigInEdge _ _ _ => ⟨false, [0x03, 0x0A], [], [.alm, .trg]⟩
  | .tdcArm _ _ => ⟨false, [0x00, 0x03], [], [.resp, .sys, .alm]⟩
  | .tdcAbort _ _ => ⟨false, [0x00, 0x03], [], [.resp, .sys, .alm]⟩
  | .tdcTimeout => ⟨false, [0x03], [], []⟩
  | .tdcCalibrate _ => ⟨false, [0x03], [], [.alm]⟩
  | .laneMarker _ _ _ _ _ => ⟨false, [0x03, 0x04, 0x05, 0x06, 0x07, 0x08, 0x09, 0x0B, 0x15, 0x1B], [], [.gddr, .pins, .flt, .alm, .lnk, .fcv, .fft, .trg, .acq, .lod, .mem, .srv]⟩
  | .cdrDone _ _ _ => ⟨false, [0x04], [], [.lnk]⟩
  | .codeGroupSync _ => ⟨false, [0x04], [], [.lnk]⟩
  | .converterValid _ _ => ⟨false, [0x00, 0x04, 0x05, 0x06, 0x07, 0x08, 0x09, 0x0B, 0x0C, 0x15, 0x1A, 0x1B], [], [.sram, .gddr, .freeCtr, .flt, .alm, .lnk, .fcv, .ddc, .fft, .trg, .acq, .neb, .lod, .mem, .srv, .boot]⟩
  | .ilasReceive _ _ => ⟨false, [0x04, 0x05, 0x06, 0x07, 0x08, 0x09, 0x0B, 0x15, 0x1B], [], [.gddr, .pins, .flt, .lnk, .fcv, .fft, .trg, .acq, .lod, .mem, .srv]⟩
  | .deskewFail _ => ⟨false, [0x04, 0x05, 0x06, 0x07, 0x08, 0x09, 0x0B, 0x15, 0x1B], [], [.gddr, .pins, .flt, .lnk, .fcv, .fft, .trg, .acq, .lod, .mem, .srv]⟩
  | .fomMeasure _ _ _ => ⟨false, [0x04, 0x1B], [], [.flt, .lnk]⟩
  | .dfeAdapt _ _ => ⟨false, [0x04], [], []⟩
  | .idleAnnounce _ _ => ⟨false, [0x04, 0x05, 0x06, 0x07, 0x08, 0x09, 0x0B, 0x15, 0x1B], [], [.gddr, .pins, .flt, .lnk, .fcv, .fft, .trg, .acq, .lod, .mem, .srv]⟩
  | .idleExit _ _ _ => ⟨false, [0x04, 0x05, 0x06, 0x07, 0x08, 0x09, 0x0B, 0x0C, 0x15, 0x1B], [], [.sram, .gddr, .freeCtr, .pins, .flt, .alm, .lnk, .fcv, .ddc, .fft, .trg, .acq, .neb, .lod, .mem, .srv]⟩
  | .laneSquelch _ _ => ⟨false, [0x04, 0x05, 0x06, 0x07, 0x08, 0x09, 0x0B, 0x15, 0x1B], [], [.gddr, .pins, .flt, .lnk, .fcv, .fft, .trg, .acq, .lod, .mem, .srv]⟩
  | .laneCodeErrors _ _ _ _ => ⟨false, [0x04, 0x05, 0x06, 0x07, 0x08, 0x09, 0x0B, 0x15, 0x1B], [], [.gddr, .pins, .flt, .lnk, .fcv, .fft, .trg, .acq, .lod, .mem, .srv]⟩
  | .laneMarkerError _ _ => ⟨false, [0x04, 0x05, 0x06, 0x07, 0x08, 0x09, 0x0B, 0x15, 0x1B], [], [.gddr, .pins, .flt, .lnk, .fcv, .fft, .trg, .acq, .lod, .mem, .srv]⟩
  | .cdrLoss _ _ => ⟨false, [0x04, 0x05, 0x06, 0x07, 0x08, 0x09, 0x0B, 0x15, 0x1B], [], [.gddr, .pins, .flt, .lnk, .fcv, .fft, .trg, .acq, .lod, .mem, .srv]⟩
  | .deskewOverrun _ _ => ⟨false, [0x04, 0x05, 0x06, 0x07, 0x08, 0x09, 0x0B, 0x15, 0x1B], [], [.gddr, .pins, .flt, .lnk, .fcv, .fft, .trg, .acq, .lod, .mem, .srv]⟩
  | .lnkRestart _ _ => ⟨false, [0x00, 0x04, 0x05, 0x06, 0x07, 0x08, 0x09, 0x0B, 0x15, 0x1B], [], [.gddr, .resp, .pins, .sys, .flt, .lnk, .fcv, .fft, .trg, .acq, .lod, .mem, .srv]⟩
  | .sampleDeliver _ _ => ⟨false, [0x04, 0x05, 0x06, 0x07, 0x08, 0x09, 0x0A, 0x0B, 0x15], [], [.gddr, .freeCtr, .lnk, .fcv, .ddc, .fft, .trg, .acq, .lod, .mem]⟩
  | .dcbClr _ _ _ => ⟨false, [0x00, 0x05, 0x06, 0x07], [], [.resp, .sys, .fcv, .ddc]⟩
  | .ddcSwap _ _ _ => ⟨false, [0x00, 0x06, 0x07], [], [.resp, .sys, .ddc]⟩
  | .fadeEnd _ => ⟨false, [0x06, 0x07], [], []⟩
  | .ddcSyncGo _ _ => ⟨false, [0x00, 0x06, 0x07], [], [.resp, .sys, .ddc]⟩
  | .ddcSyncAbort _ _ => ⟨false, [0x00, 0x06, 0x07], [], [.resp, .sys, .ddc]⟩
  | .ddcSyncReset _ => ⟨false, [0x06, 0x07, 0x08, 0x09, 0x0B, 0x15], [], [.gddr, .ddc, .fft, .trg, .acq, .lod, .mem, .srv]⟩
  | .ddcRelease _ => ⟨false, [0x06, 0x07, 0x08, 0x09, 0x0B, 0x0C, 0x15], [], [.sram, .gddr, .freeCtr, .ddc, .fft, .trg, .acq, .neb]⟩
  | .spectrumRelease _ _ => ⟨false, [0x08, 0x09, 0x0A, 0x0B, 0x0C], [], [.sram, .gddr, .freeCtr, .fft, .trg, .acq, .neb, .mem, .srv]⟩
  | .traceSnap _ _ _ _ => ⟨false, [0x00, 0x08, 0x09, 0x15], [], [.resp, .sys, .fft]⟩
  | .traceReset _ _ _ _ => ⟨false, [0x00, 0x08, 0x09, 0x15], [], [.resp, .sys, .fft]⟩
  | .pipeFail _ _ _ => ⟨false, [0x00, 0x08, 0x09, 0x15, 0x1B], [], [.sys, .flt, .fft]⟩
  | .pipeReset _ _ _ => ⟨false, [0x00, 0x08, 0x09, 0x15], [], [.resp, .sys, .fft]⟩
  | .patternTestDone _ _ => ⟨false, [0x00, 0x08, 0x09, 0x15, 0x1B], [], [.sys, .flt, .fft]⟩
  | .spareTakeover _ _ => ⟨false, [0x00, 0x08, 0x09, 0x15], [], [.resp, .sys, .fft]⟩
  | .spareRelease _ _ => ⟨false, [0x00, 0x08, 0x09, 0x15], [], [.resp, .sys, .fft]⟩
  | .spareSwitch _ => ⟨false, [0x00, 0x08, 0x09, 0x15, 0x1B], [], [.flt, .fft]⟩
  | .checkStart _ _ => ⟨false, [0x00, 0x08, 0x09, 0x15], [], [.resp, .sys, .fft]⟩
  | .checkInterval => ⟨false, [0x08, 0x09], [], [.fft]⟩
  | .checkAbort _ _ => ⟨false, [0x00, 0x08, 0x09, 0x15], [], [.resp, .sys, .fft]⟩
  | .checkTestDone _ => ⟨false, [0x00, 0x08, 0x09, 0x15, 0x1B], [], [.sys, .flt, .fft]⟩
  | .slotDecide _ _ _ _ => ⟨false, [0x0A, 0x0B, 0x15, 0x17], [], [.gddr, .pins, .trg, .acq, .mem, .aux, .cst]⟩
  | .autoTimer => ⟨false, [], [], [.trg]⟩
  | .trgArm _ _ => ⟨false, [0x00, 0x0A], [], [.resp, .pins, .sys, .trg]⟩
  | .trgForce _ _ => ⟨false, [0x00, 0x0A], [], [.resp, .pins, .sys, .trg]⟩
  | .trgLogPop _ _ => ⟨false, [0x00, 0x0A], [], [.resp, .pins, .sys, .trg]⟩
  | .seqReset _ _ => ⟨false, [0x00, 0x0A], [], [.resp, .pins, .sys, .trg]⟩
  | .trigOutPulse _ _ => ⟨false, [], [], [.pins, .trg]⟩
  | .trigOutEnd _ => ⟨false, [], [], [.pins, .trg]⟩
  | .remoteTriggerRx _ _ _ _ _ _ => ⟨false, [0x0A], [], [.trg, .cst]⟩
  | .acqArm _ _ _ => ⟨false, [0x00, 0x0B, 0x15], [], [.gddr, .resp, .sys, .acq]⟩
  | .acqStop _ _ _ => ⟨false, [0x00, 0x0B, 0x15], [], [.gddr, .resp, .sys, .acq]⟩
  | .acqAbort _ _ _ => ⟨false, [0x00, 0x0B, 0x15], [], [.gddr, .resp, .sys, .acq]⟩
  | .lrdWrite _ _ _ => ⟨false, [0x00, 0x0B, 0x15], [], [.gddr, .resp, .sys, .acq]⟩
  | .segmentEntry _ => ⟨false, [0x0B, 0x15], [], [.gddr, .acq]⟩
  | .stagingOverrun _ => ⟨false, [0x0B, 0x15], [], [.gddr, .acq, .mem]⟩
  | .stagingResume _ => ⟨false, [], [], [.acq]⟩
  | .circularPostStop _ => ⟨false, [0x0B, 0x15], [], [.gddr, .acq]⟩
  | .autoRearm _ => ⟨false, [0x0B], [], [.acq]⟩
  | .containerBlock _ => ⟨false, [], [], [.acq]⟩
  | .nebTimer => ⟨false, [0x0C], [], [.sram, .neb]⟩
  | .nebSwap _ _ => ⟨false, [0x00, 0x0C], [], [.sram, .resp, .sys, .neb]⟩
  | .nebClear _ _ => ⟨false, [0x00, 0x0C], [], [.sram, .resp, .sys, .neb]⟩
  | .nebHold _ _ => ⟨false, [0x00, 0x0C], [], [.sram, .resp, .sys, .neb]⟩
  | .nebRelease _ _ => ⟨false, [0x00, 0x0C], [], [.sram, .resp, .sys, .neb]⟩
  | .swapEdge => ⟨false, [0x0C], [], [.sram, .neb]⟩
  | .publicationComplete => ⟨false, [0x0C, 0x15], [], [.neb]⟩
  | .holdExpired => ⟨false, [0x0C], [], []⟩
  | .vblank => ⟨false, [0x02, 0x0C, 0x0E, 0x15], [0x02, 0x0E], [.sram, .sys, .alm, .neb, .dpy]⟩
  | .dpyCommit _ _ => ⟨false, [0x00, 0x0E], [], [.resp, .sys, .dpy]⟩
  | .commitLand => ⟨false, [0x00, 0x02, 0x0C, 0x0E, 0x15], [0x02, 0x0E], [.sys, .alm, .neb, .dpy]⟩
  | .composeStart => ⟨false, [], [], [.neb, .dpy]⟩
  | .densityLockRelease => ⟨false, [0x00, 0x15, 0x1B], [], [.sram, .freeCtr, .flt, .neb, .dpy]⟩
  | .scanoutLine _ _ => ⟨false, [0x00, 0x0E, 0x15, 0x1B], [], [.sram, .freeCtr, .flt, .dpy]⟩
  | .teInEdge _ => ⟨false, [], [], [.dpy]⟩
  | .teMiss => ⟨false, [0x0E], [], []⟩
  | .linkTrained _ _ _ => ⟨false, [0x00, 0x02, 0x0C, 0x0E, 0x15, 0x1B], [0x02, 0x0E], [.sys, .flt, .alm, .neb, .dpy]⟩
  | .hpdIrq _ => ⟨false, [0x0C, 0x0E], [], [.neb, .dpy]⟩
  | .hpdUnplug => ⟨false, [0x0C, 0x0E], [], [.neb, .dpy]⟩
  | .hpdPlug => ⟨false, [0x0C, 0x0E], [], [.neb, .dpy]⟩
  | .auxGo _ _ => ⟨false, [0x00, 0x0E], [], [.resp, .sys, .dpy]⟩
  | .auxDone _ _ => ⟨false, [0x0E], [], [.dpy]⟩
  | .lodStart _ _ _ => ⟨false, [0x00, 0x10, 0x15, 0x1B], [], [.freeCtr, .resp, .sys, .flt, .lod]⟩
  | .lodStop _ _ _ => ⟨false, [0x00, 0x10, 0x15, 0x1B], [], [.freeCtr, .resp, .sys, .flt, .lod]⟩
  | .lodDoor _ _ _ => ⟨false, [0x00, 0x10, 0x15, 0x1B], [], [.freeCtr, .resp, .sys, .flt, .lod]⟩
  | .lodTimer _ => ⟨false, [], [], [.lod]⟩
  | .tapEntry _ _ => ⟨false, [0x10], [], [.lod]⟩
  | .interruptEntry _ => ⟨false, [0x00, 0x10, 0x15, 0x1B], [], [.freeCtr, .flt, .lod]⟩
  | .budgetOverrun _ => ⟨false, [0x00, 0x10, 0x15, 0x1B], [], [.freeCtr, .flt, .lod]⟩
  | .lodBusyWindow _ _ => ⟨false, [0x10], [], [.lod]⟩
  | .nop _ _ => ⟨false, [0x00, 0x10, 0x15, 0x1B], [], [.freeCtr, .flt, .lod]⟩
  | .wait _ _ => ⟨false, [0x00, 0x10, 0x15, 0x1B], [], [.freeCtr, .flt, .lod]⟩
  | .reti _ _ => ⟨false, [0x00, 0x10, 0x15, 0x1B], [], [.freeCtr, .flt, .lod]⟩
  | .rts _ _ => ⟨false, [0x00, 0x10, 0x15, 0x1B], [], [.freeCtr, .flt, .lod]⟩
  | .ei _ _ => ⟨false, [0x00, 0x10, 0x15, 0x1B], [], [.freeCtr, .flt, .lod]⟩
  | .di _ _ => ⟨false, [0x00, 0x10, 0x15, 0x1B], [], [.freeCtr, .flt, .lod]⟩
  | .trap _ _ => ⟨false, [0x00, 0x10, 0x15, 0x1B], [], [.freeCtr, .flt, .lod]⟩
  | .sig _ _ => ⟨false, [0x00, 0x10, 0x15, 0x1B], [], [.freeCtr, .flt, .lod]⟩
  | .hostev _ _ => ⟨false, [0x00, 0x10, 0x15, 0x1B], [], [.freeCtr, .flt, .lod]⟩
  | .clrv _ _ => ⟨false, [0x00, 0x10, 0x15, 0x1B], [], [.freeCtr, .flt, .lod]⟩
  | .bra _ _ => ⟨false, [0x00, 0x10, 0x15, 0x1B], [], [.freeCtr, .flt, .lod]⟩
  | .bcc _ _ => ⟨false, [0x00, 0x10, 0x15, 0x1B], [], [.freeCtr, .flt, .lod]⟩
  | .call _ _ => ⟨false, [0x00, 0x10, 0x15, 0x1B], [], [.freeCtr, .flt, .lod]⟩
  | .rep _ _ => ⟨false, [0x00, 0x10, 0x15, 0x1B], [], [.freeCtr, .flt, .lod]⟩
  | .loop _ _ => ⟨false, [0x00, 0x10, 0x15, 0x1B], [], [.freeCtr, .flt, .lod]⟩
  | .add _ _ => ⟨false, [0x00, 0x10, 0x15, 0x1B], [], [.freeCtr, .flt, .lod]⟩
  | .sub _ _ => ⟨false, [0x00, 0x10, 0x15, 0x1B], [], [.freeCtr, .flt, .lod]⟩
  | .and _ _ => ⟨false, [0x00, 0x10, 0x15, 0x1B], [], [.freeCtr, .flt, .lod]⟩
  | .or _ _ => ⟨false, [0x00, 0x10, 0x15, 0x1B], [], [.freeCtr, .flt, .lod]⟩
  | .xor _ _ => ⟨false, [0x00, 0x10, 0x15, 0x1B], [], [.freeCtr, .flt, .lod]⟩
  | .asr _ _ => ⟨false, [0x00, 0x10, 0x15, 0x1B], [], [.freeCtr, .flt, .lod]⟩
  | .lsr _ _ => ⟨false, [0x00, 0x10, 0x15, 0x1B], [], [.freeCtr, .flt, .lod]⟩
  | .shl _ _ => ⟨false, [0x00, 0x10, 0x15, 0x1B], [], [.freeCtr, .flt, .lod]⟩
  | .cmp _ _ => ⟨false, [0x00, 0x10, 0x15, 0x1B], [], [.freeCtr, .flt, .lod]⟩
  | .mov _ _ => ⟨false, [0x00, 0x10, 0x15, 0x1B], [], [.freeCtr, .flt, .lod]⟩
  | .neg _ _ => ⟨false, [0x00, 0x10, 0x15, 0x1B], [], [.freeCtr, .flt, .lod]⟩
  | .abs _ _ => ⟨false, [0x00, 0x10, 0x15, 0x1B], [], [.freeCtr, .flt, .lod]⟩
  | .aluiAdd _ _ => ⟨false, [0x00, 0x10, 0x15, 0x1B], [], [.freeCtr, .flt, .lod]⟩
  | .aluiSub _ _ => ⟨false, [0x00, 0x10, 0x15, 0x1B], [], [.freeCtr, .flt, .lod]⟩
  | .aluiAnd _ _ => ⟨false, [0x00, 0x10, 0x15, 0x1B], [], [.freeCtr, .flt, .lod]⟩
  | .aluiOr _ _ => ⟨false, [0x00, 0x10, 0x15, 0x1B], [], [.freeCtr, .flt, .lod]⟩
  | .aluiXor _ _ => ⟨false, [0x00, 0x10, 0x15, 0x1B], [], [.freeCtr, .flt, .lod]⟩
  | .aluiAsr _ _ => ⟨false, [0x00, 0x10, 0x15, 0x1B], [], [.freeCtr, .flt, .lod]⟩
  | .aluiLsr _ _ => ⟨false, [0x00, 0x10, 0x15, 0x1B], [], [.freeCtr, .flt, .lod]⟩
  | .aluiShl _ _ => ⟨false, [0x00, 0x10, 0x15, 0x1B], [], [.freeCtr, .flt, .lod]⟩
  | .aluiCmp _ _ => ⟨false, [0x00, 0x10, 0x15, 0x1B], [], [.freeCtr, .flt, .lod]⟩
  | .aluiMov _ _ => ⟨false, [0x00, 0x10, 0x15, 0x1B], [], [.freeCtr, .flt, .lod]⟩
  | .aluiNeg _ _ => ⟨false, [0x00, 0x10, 0x15, 0x1B], [], [.freeCtr, .flt, .lod]⟩
  | .aluiAbs _ _ => ⟨false, [0x00, 0x10, 0x15, 0x1B], [], [.freeCtr, .flt, .lod]⟩
  | .mpy _ _ => ⟨false, [0x00, 0x10, 0x15, 0x1B], [], [.sram, .freeCtr, .flt, .lod]⟩
  | .mac _ _ => ⟨false, [0x00, 0x10, 0x15, 0x1B], [], [.sram, .freeCtr, .flt, .lod]⟩
  | .msu _ _ => ⟨false, [0x00, 0x10, 0x15, 0x1B], [], [.sram, .freeCtr, .flt, .lod]⟩
  | .cmpy _ _ => ⟨false, [0x00, 0x10, 0x15, 0x1B], [], [.sram, .freeCtr, .flt, .lod]⟩
  | .cmac _ _ => ⟨false, [0x00, 0x10, 0x15, 0x1B], [], [.sram, .freeCtr, .flt, .lod]⟩
  | .cmacj _ _ => ⟨false, [0x00, 0x10, 0x15, 0x1B], [], [.sram, .freeCtr, .flt, .lod]⟩
  | .cmsu _ _ => ⟨false, [0x00, 0x10, 0x15, 0x1B], [], [.sram, .freeCtr, .flt, .lod]⟩
  | .clra _ _ => ⟨false, [0x00, 0x10, 0x15, 0x1B], [], [.freeCtr, .flt, .lod]⟩
  | .adda _ _ => ⟨false, [0x00, 0x10, 0x15, 0x1B], [], [.freeCtr, .flt, .lod]⟩
  | .suba _ _ => ⟨false, [0x00, 0x10, 0x15, 0x1B], [], [.freeCtr, .flt, .lod]⟩
  | .ash _ _ => ⟨false, [0x00, 0x10, 0x15, 0x1B], [], [.freeCtr, .flt, .lod]⟩
  | .mva _ _ => ⟨false, [0x00, 0x10, 0x15, 0x1B], [], [.freeCtr, .flt, .lod]⟩
  | .mvda _ _ => ⟨false, [0x00, 0x10, 0x15, 0x1B], [], [.freeCtr, .flt, .lod]⟩
  | .ld _ _ => ⟨false, [0x00, 0x10, 0x15, 0x1B], [], [.freeCtr, .flt, .lod]⟩
  | .st _ _ _ => ⟨false, [0x00, 0x10, 0x15, 0x1B], [], [.sram, .freeCtr, .flt, .lod]⟩
  | .ldl _ _ => ⟨false, [0x00, 0x10, 0x15, 0x1B], [], [.freeCtr, .flt, .lod]⟩
  | .stl _ _ => ⟨false, [0x00, 0x10, 0x15, 0x1B], [], [.sram, .freeCtr, .flt, .lod]⟩
  | .move _ _ => ⟨false, [0x00, 0x10, 0x15, 0x1B], [], [.sram, .freeCtr, .flt, .lod]⟩
  | .ldg _ _ => ⟨false, [0x00, 0x10, 0x15, 0x1B], [], [.freeCtr, .flt, .lod]⟩
  | .addg _ _ => ⟨false, [0x00, 0x10, 0x15, 0x1B], [], [.freeCtr, .flt, .lod]⟩
  | .tget _ _ => ⟨false, [0x00, 0x10, 0x15, 0x1B], [], [.freeCtr, .flt, .lod]⟩
  | .mvs _ _ => ⟨false, [0x00, 0x10, 0x15, 0x1B], [], [.freeCtr, .flt, .lod]⟩
  | .mvt _ _ => ⟨false, [0x00, 0x10, 0x15, 0x1B], [], [.freeCtr, .flt, .lod]⟩
  | .ldi _ _ _ => ⟨false, [0x00, 0x10, 0x15, 0x1B], [], [.freeCtr, .flt, .lod]⟩
  | .lda _ _ _ => ⟨false, [0x00, 0x10, 0x15, 0x1B], [], [.freeCtr, .flt, .lod]⟩
  | .sta _ _ _ => ⟨false, [0x00, 0x10, 0x15, 0x1B], [], [.sram, .freeCtr, .flt, .lod]⟩
  | .dmaStart _ _ _ => ⟨false, [0x00, 0x12, 0x13, 0x15, 0x1B], [], [.sram, .freeCtr, .resp, .sys, .flt, .dma, .spt]⟩
  | .dmaStop _ _ _ => ⟨false, [0x00, 0x12, 0x13, 0x15, 0x1B], [], [.sram, .freeCtr, .resp, .sys, .flt, .dma, .spt]⟩
  | .dmaAbort _ _ _ _ _ => ⟨false, [0x00, 0x12, 0x13, 0x14, 0x15, 0x1B], [], [.sram, .gddr, .freeCtr, .resp, .sys, .flt, .fft, .acq, .dma, .spt, .mem]⟩
  | .kick _ _ _ => ⟨false, [0x00, 0x12, 0x13, 0x15, 0x1B], [], [.sram, .freeCtr, .resp, .sys, .flt, .dma, .spt]⟩
  | .dmaHeadWrite _ _ _ => ⟨false, [0x00, 0x12, 0x13, 0x15, 0x1B], [], [.sram, .freeCtr, .resp, .sys, .flt, .dma, .spt]⟩
  | .descriptorFetch _ => ⟨false, [0x00, 0x12, 0x13, 0x15, 0x1B], [], [.sram, .freeCtr, .flt, .pwr, .dma, .spt]⟩
  | .descriptorComplete _ _ => ⟨false, [0x00, 0x12, 0x13, 0x14, 0x15, 0x1B], [], [.sram, .gddr, .freeCtr, .flt, .pwr, .fft, .acq, .dma, .spt, .mem]⟩
  | .beatRefused _ _ _ _ _ => ⟨false, [0x00, 0x12, 0x13, 0x14, 0x15, 0x1B], [], [.sram, .gddr, .freeCtr, .flt, .fft, .acq, .dma, .spt, .mem]⟩
  | .barrierArm _ _ _ => ⟨false, [0x00, 0x12, 0x13, 0x15, 0x1B], [], [.sram, .freeCtr, .resp, .sys, .flt, .dma, .spt]⟩
  | .chkReset _ _ _ => ⟨false, [0x00, 0x13], [], [.resp, .sys, .dma]⟩
  | .agePromote _ _ => ⟨false, [], [], [.dma]⟩
  | .hostLinkUp _ _ _ _ _ => ⟨false, [0x00, 0x15, 0x1B], [], [.sys, .flt, .hpt]⟩
  | .hostLinkReset _ => ⟨false, [0x00, 0x12, 0x13, 0x14, 0x15, 0x1B], [0x15], [.latch, .sram, .gddr, .freeCtr, .sys, .flt, .fft, .acq, .dma, .hpt, .spt, .mem]⟩
  | .functionLevelReset _ => ⟨false, [0x00, 0x12, 0x13, 0x14, 0x15, 0x1B], [0x15], [.latch, .sram, .gddr, .freeCtr, .flt, .fft, .acq, .dma, .hpt, .spt, .mem]⟩
  | .hostCompletionTimeout _ _ _ => ⟨false, [0x00, 0x12, 0x13, 0x14, 0x15, 0x1B], [], [.sram, .gddr, .freeCtr, .flt, .fft, .acq, .dma, .spt, .mem]⟩
  | .msixMessage _ => ⟨false, [0x15], [], [.hpt]⟩
  | .bar2Access _ _ _ _ => ⟨false, [0x00, 0x15, 0x1B], [], [.sram, .resp, .sys, .flt, .dma]⟩
  | .bar4Access _ _ _ _ => ⟨false, [0x00, 0x14, 0x15, 0x1B], [], [.gddr, .resp, .sys, .flt, .dma, .mem]⟩
  | .driveBringup _ _ _ _ _ _ _ => ⟨false, [0x00, 0x15, 0x16, 0x1A, 0x1B], [], [.sys, .flt, .spt, .boot]⟩
  | .writeComplete _ _ _ _ _ => ⟨false, [0x00, 0x12, 0x13, 0x14, 0x15, 0x16, 0x1B], [], [.sram, .gddr, .freeCtr, .flt, .fft, .acq, .dma, .spt, .mem]⟩
  | .nvmeTimeout _ _ _ => ⟨false, [0x00, 0x12, 0x13, 0x14, 0x15, 0x16, 0x1B], [], [.sram, .gddr, .freeCtr, .sys, .flt, .fft, .acq, .dma, .spt, .mem]⟩
  | .driveFail _ _ => ⟨false, [0x00, 0x12, 0x13, 0x15, 0x16, 0x1B], [], [.sram, .freeCtr, .sys, .flt, .dma, .spt]⟩
  | .sptReinit _ _ _ => ⟨false, [0x00, 0x15, 0x16], [], [.resp, .sys]⟩
  | .sptFlush _ _ => ⟨false, [0x00, 0x15, 0x16], [], [.resp, .sys]⟩
  | .flushComplete _ => ⟨false, [0x15, 0x16], [], []⟩
  | .refresh _ _ _ => ⟨false, [], [], [.mem]⟩
  | .tempRead _ _ _ => ⟨false, [0x14], [], [.mem]⟩
  | .retrainInterval _ => ⟨false, [0x14], [], [.mem]⟩
  | .memTrain _ _ => ⟨false, [0x00, 0x02, 0x14, 0x15, 0x1B], [0x14], [.resp, .sys, .flt, .alm, .mem]⟩
  | .trainStepDone _ => ⟨false, [0x02, 0x14], [0x14], [.alm, .mem]⟩
  | .trainRetry _ => ⟨false, [0x00, 0x02, 0x14, 0x15, 0x1B], [0x14], [.sys, .flt, .alm, .mem]⟩
  | .trainingDone _ => ⟨false, [0x00, 0x14, 0x15, 0x1A, 0x1B], [], [.sys, .flt, .mem, .boot]⟩
  | .freqGo _ _ => ⟨false, [0x00, 0x02, 0x14, 0x15, 0x1B], [0x14], [.resp, .sys, .flt, .alm, .mem]⟩
  | .rowActivate _ _ _ _ => ⟨false, [0x14, 0x1B], [], [.flt, .mem]⟩
  | .throttleEnd _ _ _ => ⟨false, [], [], [.mem]⟩
  | .patrolScrub _ _ => ⟨false, [0x00, 0x14, 0x15, 0x1B], [], [.flt, .mem]⟩
  | .rowSpareDone _ _ _ => ⟨false, [0x14, 0x1B], [], [.flt, .mem]⟩
  | .adcSlot _ _ _ => ⟨false, [0x00, 0x17, 0x1B], [], [.pins, .sys, .flt, .aux, .srv]⟩
  | .inj _ _ => ⟨false, [0x00, 0x17], [], [.resp, .pins, .sys, .aux]⟩
  | .calGo _ _ => ⟨false, [0x00, 0x17], [], [.resp, .pins, .sys, .aux]⟩
  | .calPointDone => ⟨false, [0x17], [], [.aux]⟩
  | .calApply _ _ => ⟨false, [0x00, 0x17], [], [.resp, .pins, .sys, .aux]⟩
  | .diagGo _ _ => ⟨false, [0x00, 0x17], [], [.resp, .pins, .sys, .aux]⟩
  | .diagAbort _ _ => ⟨false, [0x00, 0x17], [], [.resp, .pins, .sys, .aux]⟩
  | .diagDone => ⟨false, [0x17], [], [.pins, .aux]⟩
  | .loopCompute _ => ⟨false, [0x18, 0x1B], [], [.pins, .flt, .aux, .srv]⟩
  | .clrFault _ _ _ => ⟨false, [0x00, 0x15, 0x17, 0x18, 0x1B], [], [.sram, .resp, .pins, .sys, .flt, .aux, .srv]⟩
  | .pwmPeriod _ => ⟨false, [], [], [.pins, .aux]⟩
  | .spiGo _ _ _ => ⟨false, [0x00, 0x17], [], [.resp, .pins, .sys, .aux]⟩
  | .spiDone _ _ => ⟨false, [0x17], [], [.pins, .aux, .srv]⟩
  | .ssGo _ _ => ⟨false, [0x00, 0x15, 0x17, 0x18, 0x1B], [], [.sram, .resp, .pins, .sys, .flt, .aux, .srv]⟩
  | .ssStop _ _ => ⟨false, [0x00, 0x15, 0x17, 0x18, 0x1B], [], [.sram, .resp, .pins, .sys, .flt, .aux, .srv]⟩
  | .ssAbort _ _ => ⟨false, [0x00, 0x15, 0x17, 0x18, 0x1B], [], [.sram, .resp, .pins, .sys, .flt, .aux, .srv]⟩
  | .stepStart => ⟨false, [0x17, 0x18], [], [.pins, .aux, .srv]⟩
  | .gateOpen => ⟨false, [0x18], [], [.srv]⟩
  | .stepEnd => ⟨false, [0x00, 0x15, 0x17, 0x18, 0x1B], [], [.sram, .pins, .flt, .aux, .srv]⟩
  | .stepLate => ⟨false, [0x00, 0x15, 0x17, 0x18, 0x1B], [], [.sram, .pins, .flt, .aux, .srv]⟩
  | .portUp _ _ _ _ _ _ => ⟨false, [0x19], [], [.freeCtr, .cst]⟩
  | .portDown _ _ _ _ => ⟨false, [0x00, 0x03, 0x15, 0x19, 0x1B], [], [.sys, .flt, .alm, .cst]⟩
  | .frameResend _ => ⟨false, [0x19], [], []⟩
  | .beaconSend => ⟨false, [], [], [.cst]⟩
  | .beaconReceive _ _ _ _ _ => ⟨false, [0x00, 0x03, 0x19, 0x1A, 0x1B], [], [.freeCtr, .flt, .alm, .cst, .boot]⟩
  | .bcast _ _ => ⟨false, [0x00, 0x03, 0x19], [], [.freeCtr, .resp, .sys, .alm, .cst]⟩
  | .broadcastDeliver _ _ => ⟨false, [0x19], [], [.freeCtr, .cst]⟩
  | .bcPop _ _ => ⟨false, [0x00, 0x03, 0x19], [], [.freeCtr, .resp, .sys, .alm, .cst]⟩
  | .arrive _ _ => ⟨false, [0x00, 0x03, 0x19], [], [.freeCtr, .resp, .sys, .alm, .cst]⟩
  | .barrierRelease _ _ => ⟨false, [0x19], [], [.cst]⟩
  | .cstSnap _ _ => ⟨false, [0x00, 0x03, 0x19], [], [.freeCtr, .resp, .sys, .alm, .cst]⟩
  | .snapshotCapture _ => ⟨false, [0x00, 0x15, 0x19, 0x1B], [], [.sram, .flt, .dma, .cst]⟩
  | .cstApply _ _ => ⟨false, [0x00, 0x03, 0x19], [], [.freeCtr, .resp, .sys, .alm, .cst]⟩
  | .applyPrepare _ => ⟨false, [0x00, 0x19], [], [.sys, .fft, .cst]⟩
  | .applyCommit _ => ⟨false, [0x00, 0x02, 0x03, 0x04, 0x05, 0x06, 0x07, 0x08, 0x09, 0x0A, 0x0B, 0x0C, 0x10, 0x12, 0x13, 0x15, 0x16, 0x17, 0x18, 0x19, 0x1B], [0x00, 0x01, 0x02, 0x03, 0x04, 0x05, 0x06, 0x07, 0x08, 0x09, 0x0A, 0x0B, 0x0C, 0x0D, 0x0E, 0x0F, 0x10, 0x11, 0x12, 0x13, 0x14, 0x15, 0x16, 0x17, 0x18, 0x19, 0x1A, 0x1B], [.sram, .gddr, .freeCtr, .pins, .sys, .flt, .alm, .lnk, .fcv, .ddc, .fft, .trg, .acq, .neb, .lod, .dma, .spt, .mem, .aux, .srv, .cst]⟩
  | .cstReset _ _ => ⟨false, [0x00, 0x03, 0x19], [], [.freeCtr, .resp, .sys, .alm, .cst]⟩
  | .systemReset _ => ⟨true, [], [], [.latch, .sram, .gddr, .resp, .pins, .sys, .flt, .pwr, .alm, .lnk, .fcv, .ddc, .fft, .trg, .acq, .neb, .dpy, .lod, .dma, .hpt, .spt, .mem, .aux, .srv, .cst, .upd, .boot]⟩
  | .opTimeout _ => ⟨false, [0x00, 0x19], [], [.sys, .cst]⟩
  | .registerWrite _ _ _ _ => ⟨true, [], [], [.latch, .sram, .gddr, .flash, .freeCtr, .resp, .pins, .sys, .flt, .pwr, .alm, .lnk, .fcv, .ddc, .fft, .trg, .acq, .neb, .dpy, .lod, .dma, .hpt, .spt, .mem, .aux, .srv, .cst, .upd, .boot]⟩
  | .setAlias _ _ _ => ⟨true, [], [], [.latch, .sram, .gddr, .flash, .freeCtr, .resp, .pins, .sys, .flt, .pwr, .alm, .lnk, .fcv, .ddc, .fft, .trg, .acq, .neb, .dpy, .lod, .dma, .hpt, .spt, .mem, .aux, .srv, .cst, .upd, .boot]⟩
  | .clearAlias _ _ _ => ⟨true, [], [], [.latch, .sram, .gddr, .flash, .freeCtr, .resp, .pins, .sys, .flt, .pwr, .alm, .lnk, .fcv, .ddc, .fft, .trg, .acq, .neb, .dpy, .lod, .dma, .hpt, .spt, .mem, .aux, .srv, .cst, .upd, .boot]⟩
  | .toggleAlias _ _ _ => ⟨true, [], [], [.latch, .sram, .gddr, .flash, .freeCtr, .resp, .pins, .sys, .flt, .pwr, .alm, .lnk, .fcv, .ddc, .fft, .trg, .acq, .neb, .dpy, .lod, .dma, .hpt, .spt, .mem, .aux, .srv, .cst, .upd, .boot]⟩
  | .readClear _ _ _ => ⟨true, [], [], [.latch, .freeCtr, .resp, .sys]⟩
  | .latchingRead _ _ _ => ⟨true, [], [], [.latch, .freeCtr, .resp, .sys]⟩
  | .groupWrite _ _ _ => ⟨true, [], [], [.latch, .sram, .gddr, .flash, .freeCtr, .resp, .pins, .sys, .flt, .pwr, .alm, .lnk, .fcv, .ddc, .fft, .trg, .acq, .neb, .dpy, .lod, .dma, .hpt, .spt, .mem, .aux, .srv, .cst, .upd, .boot]⟩
  | .guardPass => ⟨false, [0x00, 0x1B], [], [.sys, .flt]⟩
  | .cfgcrcRefWrite _ _ => ⟨false, [0x00], [], [.resp, .sys]⟩
  | .errLogPop _ _ => ⟨false, [0x00], [], [.resp, .sys]⟩
  | .headerRead => ⟨false, [0x00, 0x15, 0x1A], [], [.flash, .hpt, .upd, .boot]⟩
  | .imageCheck _ _ => ⟨false, [0x00, 0x1A, 0x1B], [], [.flash, .flt, .upd, .boot]⟩
  | .firmwareStart => ⟨false, [0x00, 0x15, 0x1A], [], [.sram, .upd, .boot]⟩
  | .standbyLoaded _ => ⟨false, [0x1A, 0x1B], [], [.flt]⟩
  | .regRecord => ⟨true, [], [], [.latch, .sram, .gddr, .flash, .freeCtr, .resp, .pins, .sys, .flt, .pwr, .alm, .lnk, .fcv, .ddc, .fft, .trg, .acq, .neb, .dpy, .lod, .dma, .hpt, .spt, .mem, .aux, .srv, .cst, .upd, .boot]⟩
  | .maskRecord => ⟨true, [], [], [.latch, .sram, .gddr, .flash, .freeCtr, .resp, .pins, .sys, .flt, .pwr, .alm, .lnk, .fcv, .ddc, .fft, .trg, .acq, .neb, .dpy, .lod, .dma, .hpt, .spt, .mem, .aux, .srv, .cst, .upd, .boot]⟩
  | .sramRecord => ⟨false, [0x00, 0x15, 0x1A, 0x1B], [], [.sram, .sys, .flt, .boot]⟩
  | .powerRecord => ⟨true, [], [], [.latch, .sram, .gddr, .flash, .freeCtr, .resp, .pins, .sys, .flt, .pwr, .alm, .lnk, .fcv, .ddc, .fft, .trg, .acq, .neb, .dpy, .lod, .dma, .hpt, .spt, .mem, .aux, .srv, .cst, .upd, .boot]⟩
  | .waitRecord => ⟨false, [0x00, 0x1A], [], [.boot]⟩
  | .waitRecordTimeout => ⟨false, [0x00, 0x1A], [], [.boot]⟩
  | .applyRecord => ⟨true, [], [], [.latch, .sram, .gddr, .flash, .freeCtr, .resp, .pins, .sys, .flt, .pwr, .alm, .lnk, .fcv, .ddc, .fft, .trg, .acq, .neb, .dpy, .lod, .dma, .hpt, .spt, .mem, .aux, .srv, .cst, .upd, .boot]⟩
  | .crcrefRecord => ⟨true, [], [], [.latch, .sram, .gddr, .flash, .freeCtr, .resp, .pins, .sys, .flt, .pwr, .alm, .lnk, .fcv, .ddc, .fft, .trg, .acq, .neb, .dpy, .lod, .dma, .hpt, .spt, .mem, .aux, .srv, .cst, .upd, .boot]⟩
  | .endRecord => ⟨false, [0x00, 0x15, 0x16, 0x1A], [], [.sys, .boot]⟩
  | .hostCfgTimeout => ⟨false, [0x00], [], []⟩
  | .updStart _ _ => ⟨true, [], [], [.latch, .gddr, .flash, .freeCtr, .resp, .pins, .sys, .pwr, .fcv, .ddc, .fft, .trg, .acq, .neb, .dpy, .lod, .dma, .hpt, .spt, .mem, .aux, .srv, .cst, .upd, .boot]⟩
  | .updAbort _ _ => ⟨true, [], [], [.latch, .gddr, .flash, .freeCtr, .resp, .pins, .sys, .pwr, .fcv, .ddc, .fft, .trg, .acq, .neb, .dpy, .lod, .dma, .hpt, .spt, .mem, .aux, .srv, .cst, .upd, .boot]⟩
  | .dataBlock _ _ => ⟨true, [], [], [.latch, .gddr, .flash, .freeCtr, .resp, .pins, .sys, .pwr, .fcv, .ddc, .fft, .trg, .acq, .neb, .dpy, .lod, .dma, .hpt, .spt, .mem, .aux, .srv, .cst, .upd, .boot]⟩
  | .copyBlock _ _ => ⟨true, [], [], [.latch, .gddr, .flash, .freeCtr, .resp, .pins, .sys, .pwr, .fcv, .ddc, .fft, .trg, .acq, .neb, .dpy, .lod, .dma, .hpt, .spt, .mem, .aux, .srv, .cst, .upd, .boot]⟩
  | .fillBlock _ _ => ⟨true, [], [], [.latch, .gddr, .flash, .freeCtr, .resp, .pins, .sys, .pwr, .fcv, .ddc, .fft, .trg, .acq, .neb, .dpy, .lod, .dma, .hpt, .spt, .mem, .aux, .srv, .cst, .upd, .boot]⟩
  | .endBlock _ _ => ⟨true, [], [], [.latch, .gddr, .flash, .freeCtr, .resp, .pins, .sys, .pwr, .fcv, .ddc, .fft, .trg, .acq, .neb, .dpy, .lod, .dma, .hpt, .spt, .mem, .aux, .srv, .cst, .upd, .boot]⟩
  | .blockProgrammed => ⟨false, [0x1A], [], [.flash, .upd]⟩
  | .slotVerify _ _ => ⟨false, [0x00, 0x1A], [], [.flash, .sys, .upd]⟩
  | .flashFail => ⟨false, [0x1A], [], [.flash, .upd]⟩
  | .handover _ _ => ⟨true, [], [], [.latch, .gddr, .flash, .freeCtr, .resp, .pins, .sys, .pwr, .fcv, .ddc, .fft, .trg, .acq, .neb, .dpy, .lod, .dma, .hpt, .spt, .mem, .aux, .srv, .cst, .upd, .boot]⟩
  | .handoverSwitch => ⟨false, [0x1A], [], [.flash, .upd]⟩
  | .handoverResume => ⟨false, [0x15, 0x1A, 0x1B], [], [.flt, .upd]⟩
  | .confirm _ _ => ⟨true, [], [], [.latch, .gddr, .flash, .freeCtr, .resp, .pins, .sys, .pwr, .fcv, .ddc, .fft, .trg, .acq, .neb, .dpy, .lod, .dma, .hpt, .spt, .mem, .aux, .srv, .cst, .upd, .boot]⟩
  | .revert _ _ => ⟨true, [], [], [.latch, .gddr, .flash, .freeCtr, .resp, .pins, .sys, .pwr, .fcv, .ddc, .fft, .trg, .acq, .neb, .dpy, .lod, .dma, .hpt, .spt, .mem, .aux, .srv, .cst, .upd, .boot]⟩
  | .bootnext _ _ => ⟨true, [], [], [.latch, .gddr, .flash, .freeCtr, .resp, .pins, .sys, .pwr, .fcv, .ddc, .fft, .trg, .acq, .neb, .dpy, .lod, .dma, .hpt, .spt, .mem, .aux, .srv, .cst, .upd, .boot]⟩
  | .loadstby _ _ => ⟨true, [], [], [.latch, .gddr, .flash, .freeCtr, .resp, .pins, .sys, .pwr, .fcv, .ddc, .fft, .trg, .acq, .neb, .dpy, .lod, .dma, .hpt, .spt, .mem, .aux, .srv, .cst, .upd, .boot]⟩
  | .trialExpiry => ⟨false, [0x1A, 0x1B], [], [.flt, .upd]⟩
  | .watchdogExpiry _ => ⟨false, [0x00, 0x15, 0x1A, 0x1B], [], [.pins, .flt, .upd]⟩
  | .fltAck _ _ => ⟨false, [0x00, 0x15, 0x1B], [], [.resp, .sys, .flt]⟩
  | .faultLogPop _ _ => ⟨false, [0x00, 0x15, 0x1B], [], [.resp, .sys, .flt]⟩
  | .sramScrub _ _ => ⟨false, [0x00, 0x15, 0x1B], [], [.freeCtr, .flt]⟩
  | .sramRowSpared => ⟨false, [0x1B], [], [.freeCtr, .flt]⟩
  | .thermSample _ _ => ⟨false, [0x00, 0x15, 0x1B], [], [.pins, .flt]⟩
  | .pwrUp _ _ _ => ⟨false, [0x00, 0x01, 0x04, 0x08, 0x09, 0x12, 0x13, 0x14, 0x15, 0x16, 0x1B], [0x15], [.latch, .sram, .gddr, .freeCtr, .resp, .pins, .sys, .flt, .pwr, .lnk, .fft, .acq, .dma, .hpt, .spt, .mem]⟩
  | .pwrDown _ _ _ _ => ⟨false, [0x00, 0x01, 0x04, 0x08, 0x09, 0x12, 0x13, 0x14, 0x15, 0x16, 0x1B], [0x15], [.latch, .sram, .gddr, .freeCtr, .resp, .pins, .sys, .flt, .pwr, .lnk, .fft, .acq, .dma, .hpt, .spt, .mem]⟩
  | .pwrForce _ _ _ _ => ⟨false, [0x00, 0x01, 0x04, 0x08, 0x09, 0x12, 0x13, 0x14, 0x15, 0x16, 0x1B], [0x15], [.latch, .sram, .gddr, .freeCtr, .resp, .pins, .sys, .flt, .pwr, .lnk, .fft, .acq, .dma, .hpt, .spt, .mem]⟩
  | .domainOn _ _ => ⟨false, [0x00, 0x01, 0x04, 0x08, 0x09, 0x0C, 0x12, 0x13, 0x14, 0x15, 0x16, 0x1A, 0x1B], [0x14, 0x15], [.latch, .sram, .gddr, .freeCtr, .pins, .sys, .flt, .pwr, .lnk, .fft, .acq, .dma, .hpt, .spt, .mem, .boot]⟩
  | .restoreDone _ => ⟨true, [], [], [.pwr]⟩
  | .drainDone _ _ => ⟨false, [0x00, 0x01, 0x04, 0x08, 0x09, 0x12, 0x13, 0x14, 0x15, 0x16, 0x1B], [0x15], [.latch, .sram, .gddr, .freeCtr, .pins, .sys, .flt, .pwr, .lnk, .fft, .acq, .dma, .hpt, .spt, .mem]⟩
  | .drainTimeout _ => ⟨false, [0x00, 0x01, 0x12], [], [.sys, .pwr]⟩
  | .domainOff _ => ⟨true, [], [], [.latch, .gddr, .pins, .sys, .pwr, .ddc, .fft, .trg, .acq, .neb, .dpy, .lod, .dma, .hpt, .spt, .mem, .aux, .srv]⟩
  | .slSyncnRise _ => ⟨false, [], [], [.pins]⟩
  | .driveLinkUp _ _ _ => ⟨false, [0x15, 0x16], [], [.pins]⟩
  | .pwmActiveEnd _ => ⟨false, [], [], [.pins]⟩
  | .beaconReply _ _ => ⟨false, [], [], [.cst]⟩
  | .arrivalReport _ => ⟨false, [], [], [.cst]⟩
  | .verdictReport _ _ _ => ⟨false, [0x00, 0x19], [], [.sys, .cst]⟩

end Sys2Proof.Machine
end

