-- ==== Sys2Proof/Certificates/Slice0/Obligations.lean ====
section
/-! DEFINITION. The statements for the provers. The completion statements say, for each command, under which conditions on
the state and the operands it has the effect that the manual gives it, and what it leaves. -/

open Sys2Proof Sys2Proof.Machine

/-- A step takes the command at the front of the queue and runs it on the rest. -/
def Obligations.StepTakesFront : Prop := ∀ (c : Instr) (s : State), step (s.pushFront c) = exec c s

/-- With no command waiting a step idles (log entry 1): one TCLK edge passes outside POWER_OFF, and the queue, the flash,
SRAM, GDDR6, the answer of the last access and the mode of the engine stay. -/
def Obligations.EmptyQueueIdles : Prop :=
  ∀ s : State, s.pending = [] → step s = .next s.idle
    ∧ (s.dev = powerOff → s.idle = s)
    ∧ s.idle.pending = [] ∧ s.idle.flash = s.flash ∧ s.idle.sram = s.sram ∧ s.idle.gddr = s.gddr ∧ s.idle.resp = s.resp ∧ s.idle.dev = s.dev

/-- Right after power-up, before RESET_N rises, the engine is in POWER_OFF, every register and applied copy reads its
reset value, no byte of SRAM is other than zero, no access has been answered, no command waits, and the memories and logs
are sound. The bytes of GDDR6 and the flash are the choice of log entry 4. -/
def Obligations.ResetState : Prop :=
  State.reset.dev = powerOff ∧ State.reset.pending = [] ∧ State.reset.resp = none
  ∧ (∀ a, State.reset.word a = resetWord a) ∧ (∀ a, State.reset.appWord a = resetWord a &&& bufMask a)
  ∧ (∀ a, State.reset.sramByte a = 0) ∧ (∀ a, State.reset.gddrByte a = 0) ∧ (∀ a, State.reset.flashByte a = 0xFF)
  ∧ State.reset.canonical ∧ State.reset.logsFit

/-- Soundness is kept by every step: from a state whose memories and register maps are in canonical form and whose logs
fit (16 entries of SYS_ERR_LOG, 64 records in the hardware queue, 256 in the fault log), every step leads to such a
state. -/
def Obligations.EveryStepKeepsSound : Prop :=
  ∀ s t : State, s.canonical ∧ s.logsFit → step s = .next t → t.canonical ∧ t.logsFit

/-- A command changes no more than its footprint: the queue stays, and so does every register and applied copy outside
the windows of footOf and every part of the state that footOf does not name. -/
def Obligations.CommandsKeepTheirFrame : Prop :=
  ∀ (c : Instr) (s t : State), exec c s = .next t → (footOf c).holds s t

/-- In POWER_OFF the engine answers no access: a register write by any view, a read, and an access to BAR2 or BAR4 leave
everything as it was and have no completion. -/
def Obligations.PowerOffAnswersNothing : Prop :=
  ∀ s : State, s.dev = powerOff →
    (∀ src a n v, exec (.registerWrite src a n v) s = .next { s with resp := none })
    ∧ (∀ src a v, exec (.setAlias src a v) s = .next { s with resp := none } ∧ exec (.clearAlias src a v) s = .next { s with resp := none }
      ∧ exec (.toggleAlias src a v) s = .next { s with resp := none })
    ∧ (∀ src a n, exec (.readClear src a n) s = .next { s with resp := none } ∧ exec (.latchingRead src a n) s = .next { s with resp := none })
    ∧ (∀ a w b r, exec (.bar2Access a w b r) s = .next { s with resp := none } ∧ exec (.bar4Access a w b r) s = .next { s with resp := none })

/-- Alias accesses outside POWER_OFF (R514): an alias write of a register that has no RW field is rejected with
ERR_UNMAPPED and recorded; a read of an alias address of an implemented window returns 0, changes nothing else and records
no error, whether or not the register has RW fields. -/
def Obligations.AliasOfNoRwField : Prop :=
  ∀ (s : State) (src : Source) (a : Nat), s.dev ≠ powerOff → viewOf a ≠ .normal →
    (∀ v : Word, rwBits (fieldsAt (normalAddr a / 4 * 4)) = 0 →
      s.writeWord src a v = s.reject src false a .unmapped ∧ (s.writeWord src a v).resp = some ⟨0, [], 0x0E⟩)
    ∧ (∀ n, windowImplemented (a / 0x10000) = true →
      exec (.readClear src a n) s = .next { s with resp := some ⟨0, [], 0⟩ } ∧ exec (.latchingRead src a n) s = .next { s with resp := some ⟨0, [], 0⟩ })

/-- Values that a field's table does not allow (R12): a write that no earlier rule of access stops, with a reserved
encoding in a field that it writes, is rejected with ERR_RESERVED, and one with a value outside a field's range with
ERR_RANGE; the register keeps its previous value, and so does every register but those that record the rejection. -/
def Obligations.ReservedAndRangeRefused : Prop :=
  ∀ (s : State) (src : Source) (a : Nat) (v : Word), s.dev ≠ powerOff → normalAddr a = a → viewOf a = .normal → s.accessErr src a 4 true = none →
    (hasGroup (blockOfWindow (a / 0x10000)) && s.cstLocks (blockOfWindow (a / 0x10000))) = false → (rulesAt a).pre s src a v = none →
    s.updateBusy a = none → setsReserved (fieldsAt a) v = false →
    ((∃ f ∈ fieldsAt a, f.acc.isRw = true ∧ f.reservedVal (f.val v) = true) →
      Completes (.registerWrite src a 4 (v.setWidth 64)) s (fun t => t.resp = some ⟨0, [], 0x02⟩ ∧ t.word a = s.word a
        ∧ ∀ b, b % 0x10000 < 0x3FF4 → b ≠ SYS_ERR_STAT.addr → t.word b = s.word b))
    ∧ ((∀ f ∈ fieldsAt a, f.acc.isRw = true → f.reservedVal (f.val v) = false) → (∃ f ∈ fieldsAt a, f.acc.isRw = true ∧ f.outOfRange (f.val v) = true) →
      Completes (.registerWrite src a 4 (v.setWidth 64)) s (fun t => t.resp = some ⟨0, [], 0x01⟩ ∧ t.word a = s.word a
        ∧ ∀ b, b % 0x10000 < 0x3FF4 → b ≠ SYS_ERR_STAT.addr → t.word b = s.word b))

/-- The engine leaves POWER_OFF for BOOT when RESET_N rises (R592), enters POWER_OFF when RESET_N or a supply stays low
for 1 us and not when it stays low for less than 0.5 us (R577, R592), answers no access there (R608), and boots again at
T_R of a system reset (R503). The lengths are the reading of log entry 11. -/
def Obligations.ResetCommandsComplete : Prop :=
  (∀ s : State, s.dev = powerOff → Completes .resetNRise s (fun t =>
    t.dev = boot ∧ t.flash = s.flash ∧ ∀ d, d = dAON ∨ d = dMGMT ∨ d = dMESH ∨ d = dPCIE_H → t.dom d = 2))
  ∧ (∀ (s : State) n, 1000 ≤ n → Completes (.resetNFall n) s (fun t =>
    t.dev = powerOff ∧ t.flash = s.flash ∧ t.regs = [] ∧ t.sram = [] ∧ t.gddr = [] ∧ t.pins = Pins.reset))
  ∧ (∀ (s : State) n, n < 500 → Completes (.resetNFall n) s (fun t => t = s))
  ∧ (∀ (s : State) r n, 1000 ≤ n → Completes (.supplyBelowReset r n) s (fun t =>
    t.dev = powerOff ∧ t.flash = s.flash ∧ t.regs = [] ∧ t.sram = [] ∧ t.gddr = [] ∧ t.pwr.supplyOk = false))
  ∧ (∀ (s : State) a w v, s.dev = powerOff → Completes (.hostAccessPowerOff a w v) s (fun t => t = { s with resp := none }))
  ∧ (∀ (s : State) T, s.cstValid = true → s.cstRoot = false → Completes (.systemReset (some T)) s (fun t => t.cst.resetAt = some T))
  ∧ (∀ (s : State) T, s.cst.resetAt = some T → s.cstOn = true → T.toNat ≤ s.now.toNat → Completes (.systemReset none) s (fun t =>
    t.dev = boot ∧ t.flash = s.flash ∧ t.sram = [] ∧ t.gddr = []))

/-- The requests and events of the power sequencer (R584 to R588): an UP of an OFF domain begins its power-up, a DOWN of
an ON domain that nothing holds back drains it, a forced one switches it off at once, and the end of each phase brings the
next state of R589. -/
def Obligations.PowerDomainCommandsComplete : Prop :=
  (∀ (s : State) (d : Fin 24) src v, s.admits (pwrRules []) src (PWR_DOM_CMD.addr d) (v ||| 1) →
    (v ||| 1).toNat.testBit 1 = false → (v ||| 1).toNat.testBit 2 = false → d.val ≠ dAON → d.val ≠ dMGMT → d.val ≠ dMESH → s.dom d = 0 →
    Completes (.pwrUp d src v) s (fun t => t.okAnswer ∧ t.dom d = 1 ∧ t.get (PWR_DOM_STAT.LAST_CODE d) = 0))
  ∧ (∀ (s : State) (d : Fin 24) p src v, s.admits (pwrRules p) src (PWR_DOM_CMD.addr d) (v ||| 2) →
    (v ||| 2).toNat.testBit 0 = false → (v ||| 2).toNat.testBit 2 = false → (v ||| 2).toNat.testBit 3 = false →
    d.val ≠ dAON → d.val ≠ dMGMT → d.val ≠ dMESH → s.dom d = 2 →
    (s.landed (PWR_DOM_CMD.addr d) (v ||| 2)).downCheck d src = none → s.altersCapacity d = false →
    Completes (.pwrDown d p src v) s (fun t => t.okAnswer ∧ t.dom d = 3))
  ∧ (∀ (s : State) (d : Fin 24) p src v, s.admits (pwrRules p) src (PWR_DOM_CMD.addr d) (v ||| 6) →
    (v ||| 6).toNat.testBit 0 = false → (v ||| 6).toNat.testBit 3 = false →
    d.val ≠ dAON → d.val ≠ dMGMT → d.val ≠ dMESH → s.dom d = 2 →
    (s.landed (PWR_DOM_CMD.addr d) (v ||| 6)).downCheck d src = none → s.altersCapacity d = false →
    Completes (.pwrForce d p src v) s (fun t => t.okAnswer ∧ t.dom d = 4))
  ∧ (∀ (s : State) (d : Fin 24) p, s.alive = true → s.dom d = 1 → s.flag (PWR_DOM_STAT.STOP_PENDING d) = false →
    Completes (.domainOn d p) s (fun t => t.dom d = 2 ∧ t.flag (PWR_DOM_STAT.RESTART_PENDING d) = false))
  ∧ (∀ (s : State) (d : Fin 24), s.alive = true → s.domOn d = true → s.pwr.restoreAsked.contains d.val = true →
    Completes (.restoreDone d) s (fun t => t.flag (PWR_DOM_STAT.RESTORED d) = true ∧ t.pwr.restoreAsked = s.pwr.restoreAsked.filter (· != d.val)))
  ∧ (∀ (s : State) (d : Fin 24) p, s.alive = true → s.dom d = 3 → s.drainWaits d = false →
    Completes (.drainDone d p) s (fun t => t.dom d = 4))
  ∧ (∀ (s : State) (d : Fin 24), s.alive = true → s.dom d = 3 →
    Completes (.drainTimeout d) s (fun t => t.dom d = 2 ∧ t.flag (PWR_DOM_STAT.RESTART_PENDING d) = false
      ∧ t.get (PWR_DOM_STAT.LAST_CODE d) = Err.busy.code))
  ∧ (∀ (s : State) (d : Fin 24), s.alive = true → d.val ≠ dAON → s.dom d = 4 → (d.val = dPCIE_S → s.flag SPT_STAT.FLUSH_BUSY = false) →
    s.flag (PWR_DOM_STAT.RESTART_PENDING d) = false → Completes (.domainOff d) s (fun t => t.dom d = 0))

/-- A fatal fault takes an engine that is alive into HALT, with the pins as R578 leaves them and the record of the event,
class Fatal, held (R56, R577, R578); a watchdog of the standby complex sends that complex to LOADING (R559, R575). -/
def Obligations.FatalFaultCommandsComplete : Prop :=
  (∀ (s : State) (rail : Fin 10) mv, outsideWindow rail mv = true → s.alive = true → Completes (.supplyFault rail mv) s (fun t =>
    t.dev = halt ∧ t.pins = s.haltPins ∧ ∃ r, t.flt.fatal = some r ∧ r.code = 0x3F ∧ r.cls = .fatal ∧ r.sub = rail.val))
  ∧ (∀ s : State, s.alive = true → Completes .xtalLoss s (fun t =>
    t.dev = halt ∧ t.pins = s.haltPins ∧ ∃ r, t.flt.fatal = some r ∧ r.code = 0x01 ∧ r.cls = .fatal))
  ∧ (∀ s : State, s.alive = true → s.inTrial = false → s.get UPD_STAT.STBY ≠ yREADY → Completes (.watchdogExpiry false) s (fun t =>
    t.dev = halt ∧ t.pins = s.haltPins ∧ ∃ r, t.flt.fatal = some r ∧ r.code = 0x3C ∧ r.cls = .fatal ∧ r.sub = s.activeCx % 64))
  ∧ (∀ s : State, s.alive = true → s.get UPD_STAT.STBY ≠ 0 → Completes (.watchdogExpiry true) s (fun t =>
    t.get UPD_STAT.STBY = yLOADING ∧ t.dev = s.dev))
  ∧ (∀ (s : State) (len : BitVec 9), s.dev = halt → s.flag FLT_DUMP.DONE = false → len ≠ 0 → len.toNat ≤ 256 →
    Completes (.dumpDone len) s (fun t => t.flag FLT_DUMP.DONE = true ∧ t.get FLT_DUMP.LEN = len.toNat ∧ t.gddr = []))

/-- The fault log, the acknowledgements, the SRAM scrubber and the temperature (R568 to R576). -/
def Obligations.FaultLogCommandsComplete : Prop :=
  (∀ (s : State) r l, s.alive = true → s.frozen = false → s.flt.hwq = r :: l → s.flt.log.length < 256 → Completes .faultLogMove s (fun t =>
    t.flt.hwq = l ∧ t.flt.log = s.flt.log ++ [r]))
  ∧ (∀ (s : State) r l, s.alive = true → s.frozen = false → s.flt.hwq = r :: l → 256 ≤ s.flt.log.length → Completes .faultLogMove s (fun t =>
    t.flt.hwq = l ∧ t.flt.log = s.flt.log ∧ t.flag FLT_LOG_STAT.OVF = true))
  ∧ (∀ (s : State) src v, s.admits fltRules src FLT_CMD.addr v → bitsOf v 16 10 = 2 ^ 7 → v.toNat.testBit 0 = false → s.dev = degraded →
    s.get FLT_ACTIVE.ACTIVE = 2 ^ 7 → Completes (.fltAck src v) s (fun t => t.okAnswer ∧ t.get FLT_ACTIVE.ACTIVE = 0 ∧ t.dev = run))
  ∧ (∀ (s : State) src v r l, s.admits fltRules src FLT_CMD.addr (v ||| 1) → bitsOf (v ||| 1) 16 10 = 0 → s.flt.log = r :: l →
    Completes (.faultLogPop src v) s (fun t => t.okAnswer ∧ t.flt.log = l))
  ∧ (∀ (s : State) w, s.alive = true → w < 0x01000000 → s.poisoned (w * 8) = false → s.flt.poison.length < 16 →
    Completes (.sramScrub w 2) s (fun t => t.flt.poison = s.flt.poison ++ [w * 8] ∧ t.sram = s.sram))
  ∧ (∀ (s : State) w, s.alive = true → w < 0x01000000 → s.poisoned (w * 8) = false → s.get FLT_SRAM_CNT.CE_COUNT < 0xFFFF →
    Completes (.sramScrub w 1) s (fun t => t.get FLT_SRAM_CNT.CE_COUNT = s.get FLT_SRAM_CNT.CE_COUNT + 1 ∧ t.sram = s.sram ∧ t.flt.poison = s.flt.poison))
  ∧ (∀ (s : State) w, Completes (.sramScrub w 0) s (fun t => t = s))
  ∧ (∀ (s : State) row l, s.alive = true → s.flt.rowsDue = row :: l → Completes .sramRowSpared s (fun t =>
    t.flt.rowsDue = l ∧ t.flt.rowsSpared = s.flt.rowsSpared ++ [row] ∧ t.flt.poison = s.flt.poison))
  ∧ (∀ (s : State) tj (k : BitVec 6), s.dev ≠ powerOff → k.toNat < 16 → tj < 118 → Completes (.thermSample tj k) s (fun t =>
    t.get FLT_THERM.TJ_NOW = satSigned 8 tj ∧ t.flt.tripArmed = true ∧ t.dev = s.dev))
  ∧ (∀ (s : State) tj (k : BitVec 6), s.alive = true → k.toNat < 16 → 120 ≤ tj → s.flt.tripArmed = true → Completes (.thermSample tj k) s (fun t =>
    t.dev = halt ∧ ∃ r, t.flt.fatal = some r ∧ r.code = 0x3E ∧ r.cls = .fatal ∧ r.sub = k.toNat))

/-- SYS_UPDATE (R520, R521, R524, R525): the strobe begins the check of the groups written, the verdict refuses the update,
ends a check, leaves a timed one waiting or applies, and a cancellation ends it; the error log gives up its oldest entry
(R533). -/
def Obligations.UpdateCommandsComplete : Prop :=
  (∀ (s : State) src v, s.admits sysRules src SYS_UPDATE.addr v → v ≠ 0 → (s.flag SYS_UPDATE_CTRL.TIMED && s.flag SYS_UPDATE_CTRL.CHECK_ONLY) = false →
    Completes (.updateStrobe src v) s (fun t => t.okAnswer ∧ t.get SYS_UPDATE_STAT.STATE = 1 ∧ t.flag SYS_UPDATE_STAT.DONE = false
      ∧ t.sys.updMask = v ∧ t.sys.updSrc = src ∧ t.sys.updTimed = s.flag SYS_UPDATE_CTRL.TIMED ∧ t.sys.updCheckOnly = s.flag SYS_UPDATE_CTRL.CHECK_ONLY))
  ∧ (∀ (s : State) e, s.inRun = true → s.get SYS_UPDATE_STAT.STATE = 1 → s.sys.updCst = false →
    (s.admitWith (s.pendView s.sys.updMask) s.caps).1 = some e →
    Completes .admissionVerdict s (fun t => t.get SYS_UPDATE_STAT.STATE = 0 ∧ t.flag SYS_UPDATE_STAT.DONE = true
      ∧ t.get SYS_UPDATE_STAT.CODE = e.code ∧ t.applied = s.applied))
  ∧ (∀ (s : State), s.inRun = true → s.get SYS_UPDATE_STAT.STATE = 1 → s.sys.updCst = false →
    (s.admitWith (s.pendView s.sys.updMask) s.caps).1 = none → s.sys.updCheckOnly = true →
    Completes .admissionVerdict s (fun t => t.get SYS_UPDATE_STAT.STATE = 0 ∧ t.flag SYS_UPDATE_STAT.DONE = true
      ∧ t.get SYS_UPDATE_STAT.CODE = 0 ∧ t.applied = s.applied))
  ∧ (∀ (s : State), s.inRun = true → s.get SYS_UPDATE_STAT.STATE = 1 → s.sys.updCst = false →
    (s.admitWith (s.pendView s.sys.updMask) s.caps).1 = none → s.sys.updCheckOnly = false → s.sys.updTimed = true →
    s.now.toNat ≤ (s.getStamp SYS_UPDATE_TIME.addr).toNat →
    Completes .admissionVerdict s (fun t => t.get SYS_UPDATE_STAT.STATE = 2 ∧ t.flag SYS_UPDATE_STAT.DONE = true
      ∧ t.get SYS_UPDATE_STAT.CODE = 0 ∧ t.applied = s.applied))
  ∧ (∀ (s : State), s.alive = true → s.get SYS_UPDATE_STAT.STATE = 2 → s.sys.updCst = false →
    Completes .timedApply s (fun t => t.get SYS_UPDATE_STAT.STATE = 0 ∧ t.flag SYS_UPDATE_STAT.APPLIED = true ∧ t.flag SYS_UPDATE_STAT.LATE = false))
  ∧ (∀ (s : State) src v, s.admits sysRules src SYS_UPDATE_CTRL.addr (v ||| 0x100) → s.get SYS_UPDATE_STAT.STATE ≠ 0 →
    Completes (.updateCancel src v) s (fun t => t.okAnswer ∧ t.get SYS_UPDATE_STAT.STATE = 0 ∧ t.flag SYS_UPDATE_STAT.CANCELLED = true))
  ∧ (∀ (s : State) src v e l, s.admits sysRules src SYS_ERR_CMD.addr (v ||| 1) → s.sys.errLog = e :: l →
    Completes (.errLogPop src v) s (fun t => t.okAnswer ∧ t.sys.errLog = l))

/-- The configuration guard (R529 to R531) and the loss of a capacity (R44). -/
def Obligations.GuardAndCapacityCommandsComplete : Prop :=
  (∀ (s : State), s.alive = true → s.flag SYS_CFGCRC_CTRL.EN = true → s.sys.guardSpoilt = false → s.word SYS_CFGCRC_REF.addr = s.guardCrc →
    Completes .guardPass s (fun t => t.word SYS_CFGCRC_NOW.addr = s.guardCrc ∧ t.flag SYS_CFGCRC_STAT.MATCH = true ∧ t.sys.guardArmed = true))
  ∧ (∀ (s : State), s.alive = true → s.flag SYS_CFGCRC_CTRL.EN = true → s.sys.guardSpoilt = false → s.word SYS_CFGCRC_REF.addr ≠ s.guardCrc →
    (s.flag SYS_CFGCRC_CTRL.AUTO && s.sys.guardReload) = false →
    Completes .guardPass s (fun t => t.word SYS_CFGCRC_NOW.addr = s.guardCrc ∧ t.flag SYS_CFGCRC_STAT.MATCH = false
      ∧ t.flag SYS_CFGCRC_STAT.MISMATCH = true ∧ t.sys.guardArmed = false))
  ∧ (∀ (s : State), s.alive = true → s.flag SYS_CFGCRC_CTRL.EN = true → s.sys.guardSpoilt = true →
    Completes .guardPass s (fun t => t = { s with sys := { s.sys with guardSpoilt := false } }))
  ∧ (∀ (s : State) src v, s.admits sysRules src SYS_CFGCRC_REF.addr v → Completes (.cfgcrcRefWrite src v) s (fun t =>
    t.okAnswer ∧ t.word SYS_CFGCRC_REF.addr = v ∧ t.sys.guardArmed = true))
  ∧ (∀ (s : State) (p : Fin 8), s.alive = true → s.pipeGood p = true → Completes (.capacityFall (.pipe p)) s (fun t => t.pipe p = pFAILED))
  ∧ (∀ (s : State) code, s.memReady = true → Completes (.capacityFall (.pinRate code)) s (fun t => t.get MEM_FREQ.RATE_NOW = code.toNat))
  ∧ (∀ (s : State) (d : Fin 4) w g, s.alive = true → s.driveReady d = true → w ≠ 0 → Completes (.capacityFall (.driveLink d w g)) s (fun t =>
    t.get (SPT_DRV_STAT.WIDTH d) = w.toNat ∧ t.get (SPT_DRV_STAT.SPEED d) = g.toNat))

/-- The PLLs, SYNC_IN and the divider reset (R52 to R64): a watched PLL that loses lock, or one that fails to relock in
time, loses LOCKED and SYNCED and takes LOST, and HALT follows where the PLL is PLL_S, PLL_M or PLL_H; a lock sets LOCKED; an active edge of SYNC_IN resets the
armed dividers. -/
def Obligations.ClockCommandsComplete : Prop :=
  (∀ (s : State) (n : Fin 9), s.alive = true → s.locked n = true → s.alm.unwatched.contains n.val = false → Completes (.pllLoss n) s (fun t =>
    t.locked n = false ∧ t.flag (CLK_PLL_STAT.SYNCED n) = false ∧ t.flag (CLK_PLL_STAT.LOST n) = true
    ∧ (n.val = 0 ∨ n.val = 2 ∨ n.val = 4 → t.dev = halt)))
  ∧ (∀ (s : State) (n : Fin 9), s.alive = true → s.alm.unwatched.contains n.val = true → Completes (.pllRetuneTimeout n) s (fun t =>
    t.locked n = false ∧ t.flag (CLK_PLL_STAT.SYNCED n) = false ∧ t.flag (CLK_PLL_STAT.LOST n) = true
    ∧ t.alm.unwatched = s.alm.unwatched.filter (· != n.val)))
  ∧ (∀ (s : State) (n : Fin 9), s.alive = true → s.appFlag (CLK_PLL_CTRL.EN n) = true → s.locked n = false → Completes (.pllLock n) s (fun t =>
    t.locked n = true ∧ t.alm.unwatched = s.alm.unwatched.filter (· != n.val)))
  ∧ (∀ (s : State) r (t : Stamp) ph, s.alive = true → r ≠ (s.app CLK_SYNC_CTRL.EDGE == 1) → s.flag CLK_SYNC_STAT.ARMED = true →
    Completes (.syncInEdge r t ph) s (fun u => u.flag CLK_SYNC_STAT.ARMED = false ∧ u.flag CLK_SYNC_STAT.DONE = true))
  ∧ (∀ (s : State) r (t : Stamp) ph, s.alive = true → r ≠ (s.app CLK_SYNC_CTRL.EDGE == 1) → s.inDeadTime 8 t = false →
    Completes (.syncInEdge r t ph) s (fun u => u.getStamp ALM_SYNC_TS.addr = t ∧ vget u.alm.lastEdge 8 = some t))
  ∧ (∀ (s : State) src v, s.admits clkRules src CLK_SYNC_CTRL.addr (v ||| 0x1000000) → Completes (.divArm src v) s (fun t =>
    t.okAnswer ∧ t.flag CLK_SYNC_STAT.ARMED = true))

/-- The Almanac's discipline (R69 to R77): windows of REF_IN count towards REF_PRESENT, holdover ends into a return at no
more than SLEW_MAX, an accepted PPS_IN edge sets the slew, a pending step takes the whole seconds of ALM_SET on it, and
PPS_OUT follows its enable. -/
def Obligations.AlmanacCommandsComplete : Prop :=
  (∀ (s : State) n c, s.alive = true → (if s.app ALM_CTRL.REF_FREQ = 1 then 90 ≤ n ∧ n ≤ 110 else 9 ≤ n ∧ n ≤ 11) →
    Completes (.refWindow n c) s (fun t => t.alm.refGood = min (s.alm.refGood + 1) 3 ∧ t.alm.refBad = 0
      ∧ (2 ≤ s.alm.refGood → t.flag ALM_STAT.REF_PRESENT = true)))
  ∧ (∀ (s : State) n c, s.alive = true → ¬ (if s.app ALM_CTRL.REF_FREQ = 1 then 90 ≤ n ∧ n ≤ 110 else 9 ≤ n ∧ n ≤ 11) →
    Completes (.refWindow n c) s (fun t => t.alm.refBad = min (s.alm.refBad + 1) 3 ∧ t.alm.refGood = 0
      ∧ (2 ≤ s.alm.refBad → t.flag ALM_STAT.REF_PRESENT = false)))
  ∧ (∀ s : State, s.alive = true → s.alm.holdover = true → s.refGood = true → Completes .holdoverExit s (fun t =>
    t.alm.holdover = false ∧ t.alm.returning = true ∧ t.alm.corr = s.alm.corr))
  ∧ (∀ (s : State) src v, s.admits almRules src ALM_CTRL.addr (v ||| 0x1000) → s.almSrc = 2 →
    Completes (.almStep src v) s (fun t => t.okAnswer ∧ t.flag ALM_STAT.STEP_PENDING = true ∧ t.alm = s.alm))
  ∧ (∀ (s : State) src v, s.admits almRules src ALM_CTRL.addr (v ||| 0x1000) → s.almSrc ≠ 2 →
    Completes (.almStep src v) s (fun t => t.okAnswer ∧ t.alm = { s.alm with stepDue := true }))
  ∧ (∀ (s : State) r (p : Stamp), s.alive = true → r ≠ (s.app ALM_CTRL.PPS_EDGE == 1) → s.inDeadTime 9 p = false → s.almSrc = 2 →
    s.flag ALM_STAT.STEP_PENDING = true → Completes (.ppsInEdge r p) s (fun t =>
      t.flag ALM_STAT.STEP_PENDING = false ∧ t.now.toNat = (s.appStamp ALM_SET.addr).toNat / 2 ^ 40 * 2 ^ 40 ∧ vget t.alm.lastEdge 9 = some p))
  ∧ (∀ (s : State) r (p : Stamp), s.alive = true → r ≠ (s.app ALM_CTRL.PPS_EDGE == 1) → s.inDeadTime 9 p = false → s.almSrc = 2 →
    s.flag ALM_STAT.STEP_PENDING = false → (secondError p).natAbs * 1000000 ≤ 2 ^ 40 → Completes (.ppsInEdge r p) s (fun t =>
      t.get ALM_PPS_ERR.ERR = satSigned 32 (secondError p) ∧ t.alm.slewLeft = - secondError p * 2 ^ 24 ∧ t.alm.ppsMismatch = false
      ∧ t.now = s.now ∧ (1 ≤ s.alm.ppsAccepted → t.flag ALM_STAT.PPS_PRESENT = true)))
  ∧ (∀ s : State, s.alive = true → Completes .ppsAbsent s (fun t => t.flag ALM_STAT.PPS_PRESENT = false ∧ t.alm.ppsAccepted = 0))
  ∧ (∀ s : State, s.alive = true → s.appFlag ALM_CTRL.PPSO_EN = true → Completes .ppsOutPulse s (fun t => t = { s with pins := { s.pins with ppsOut := true } }))
  ∧ (∀ s : State, s.alive = true → Completes .ppsOutEnd s (fun t => t = { s with pins := { s.pins with ppsOut := false } }))

/-- The time-to-digital converter (R83 to R87): a stamped edge outside a measurement is kept as the last edge of its
input, ARM begins a measurement with the applied settings, ABORT and the timeout end it, and a calibration that no input
fails sets TDC_CAL_OK. -/
def Obligations.TdcCommandsComplete : Prop :=
  (∀ (s : State) (k : Fin 8) r (e : Stamp), s.alive = true →
    (if r then s.app ALM_TRIG_EDGE.EDGE / 4 ^ k.val % 4 % 2 = 1 else s.app ALM_TRIG_EDGE.EDGE / 4 ^ k.val % 4 / 2 = 1) →
    s.inDeadTime ⟨k.val, by omega⟩ e = false → s.flag ALM_TDC_STAT.BUSY = false →
    Completes (.trigInEdge k r e) s (fun t => vget t.alm.lastEdge ⟨k.val, by omega⟩ = some e ∧ t.pins = s.pins))
  ∧ (∀ (s : State) src v, s.admits almRules src ALM_TDC_CTRL.addr (v ||| 0x1000000) → (v ||| 0x1000000).toNat.testBit 25 = false →
    s.app ALM_TDC_CTRL.STOP_MASK ≠ 0 → Completes (.tdcArm src v) s (fun t => t.okAnswer ∧ t.flag ALM_TDC_STAT.BUSY = true
      ∧ t.flag ALM_TDC_STAT.DONE = false ∧ t.alm.tdcStarted = false ∧ t.alm.tdcList = [] ∧ t.alm.tdcMask = s.app ALM_TDC_CTRL.STOP_MASK))
  ∧ (∀ (s : State) src v, s.admits almRules src ALM_TDC_CTRL.addr (v ||| 0x2000000) → (v ||| 0x2000000).toNat.testBit 24 = false →
    s.flag ALM_TDC_STAT.BUSY = true → Completes (.tdcAbort src v) s (fun t => t.okAnswer ∧ t.flag ALM_TDC_STAT.BUSY = false ∧ t.flag ALM_TDC_STAT.DONE = true))
  ∧ (∀ s : State, s.alive = true → s.flag ALM_TDC_STAT.BUSY = true → s.alm.tdcStarted = true → Completes .tdcTimeout s (fun t =>
    t.flag ALM_TDC_STAT.TIMEOUT = true ∧ t.flag ALM_TDC_STAT.BUSY = false ∧ t.flag ALM_TDC_STAT.DONE = true))
  ∧ (∀ s : State, s.alive = true → Completes (.tdcCalibrate 0) s (fun t =>
    t.flag ALM_STAT.TDC_CAL_OK = true ∧ ∀ k, vget t.alm.calFails k = 0))

/-- The bring-up of the lanes (R97 to R105, R108 to R110). -/
def Obligations.LaneBringupCommandsComplete : Prop :=
  (∀ (s : State) (n : Fin 32) (e : Stamp) o k m, s.live (laneDomain n) = true → s.laneEn n = true → s.lane n = lnWAIT → Completes (.laneMarker n e o k m) s (fun t =>
    t.lane n = lnALIGNED ∧ vget t.lnk.marks n = 1 ∧ vget t.lnk.firstMark n = some e ∧ t.get (LNK_CONV_STAT.STATE (s.convOf n)) = 1))
  ∧ (∀ (s : State) (n : Fin 32) (e : Stamp) k m, s.live (laneDomain n) = true → s.laneEn n = true → s.lane n = lnALIGNED → Completes (.laneMarker n e 0 k m) s (fun t =>
    t.lane n = lnALIGNED ∧ vget t.lnk.marks n = min (vget s.lnk.marks n + 1) 4 ∧ t.regs = s.regs))
  ∧ (∀ (s : State) (n : Fin 32) ctle (taps : BitVec 30), s.live (laneDomain n) = true → s.laneEn n = true → s.lane n = lnCDR → s.app LNK_ADAPT.MODE ≠ 0 →
    Completes (.cdrDone n ctle taps) s (fun t => t.lane n = lnCGS ∧ t.get (LNK_LANE_STAT.CTLE_NOW n) = ctle.toNat ∧ t.word (LNK_LANE_DFE.addr n) = taps.setWidth 32))
  ∧ (∀ (s : State) (n : Fin 32) ctle (taps : BitVec 30), s.live (laneDomain n) = true → s.laneEn n = true → s.lane n = lnCDR → s.app LNK_ADAPT.MODE = 0 →
    Completes (.cdrDone n ctle taps) s (fun t => t.lane n = lnCGS ∧ t.get (LNK_LANE_STAT.CTLE_NOW n) = s.app (LNK_LANE_CTRL.CTLE n) % 16 ∧ t.word (LNK_LANE_DFE.addr n) = 0))
  ∧ (∀ (s : State) (n : Fin 32), s.live (laneDomain n) = true → s.laneEn n = true → s.lane n = lnCGS → Completes (.codeGroupSync n) s (fun t => t.lane n = lnWAIT))
  ∧ (∀ (s : State) (c : Fin 4), s.alive = true → s.app LNK_CTRL.START = 0 → s.convLanes c ≠ [] → (∀ n ∈ s.convLanes c, s.lane n = lnWAIT) →
    (s.app LNK_CTRL.SUBCLASS = 1 → s.flag LNK_STAT.LMFC_LOCK = true) → Completes (.slSyncnRise c) s (fun t =>
      t.pins.syncn.getLsbD c = true ∧ t.regs = s.regs))
  ∧ (∀ (s : State) (c : Fin 4) e, s.alive = true → s.convLanes c ≠ [] → s.convValid c = false →
    (∀ n : Fin 32, n.val ∈ s.convLanes c → s.lane n = lnALIGNED ∧ vget s.lnk.marks n = 4) →
    (s.app LNK_CTRL.SUBCLASS = 1 → s.flag LNK_STAT.LMFC_LOCK = true) → Completes (.converterValid c e) s (fun t =>
      t.convValid c = true ∧ t.get (LNK_CONV_STAT.STATE c) = 2 ∧ ∀ n ∈ s.convLanes c, t.lane n = lnDATA))
  ∧ (∀ (s : State) (c : Fin 4) g, s.alive = true → s.app LNK_CTRL.PROTO = 1 → s.convLanes c ≠ [] → (∀ n ∈ s.convLanes c, s.lane n = lnALIGNED) →
    s.ilasAgrees g = false → s.lnk.cycleLosses = [] → Completes (.ilasReceive c g) s (fun t =>
      t.flag (LNK_CONV_STAT.ILAS_MISMATCH c) = true ∧ t.flag (LNK_CONV_STAT.LOST c) = true ∧ t.get (LNK_CONV_STAT.CAUSE c) = 9 ∧ t.convValid c = false))
  ∧ (∀ (s : State) (c : Fin 4) n m, s.alive = true → n ∈ s.convLanes c → s.lane n = lnALIGNED → m ∈ s.convLanes c → s.lane m ≠ lnALIGNED →
    s.lnk.cycleLosses = [] → Completes (.deskewFail c) s (fun t =>
      t.flag (LNK_CONV_STAT.DESKEW_FAIL c) = true ∧ t.flag (LNK_CONV_STAT.LOST c) = true ∧ t.get (LNK_CONV_STAT.CAUSE c) = 7 ∧ t.convValid c = false))
  ∧ (∀ (s : State) (n : Fin 32) h v, s.live (laneDomain n) = true → s.laneEn n = true → s.lane n = lnCDR ∨ s.lane n = lnALIGNED ∨ s.lane n = lnDATA →
    Completes (.fomMeasure n h v) s (fun t => t.get (LNK_LANE_STAT.FOM n) = min 255 (h.toNat * v.toNat / 16)))
  ∧ (∀ (s : State) (n : Fin 32) mv, s.live (laneDomain n) = true → s.laneEn n = true → s.lane n = lnDATA → s.app LNK_ADAPT.MODE = 2 →
    Completes (.dfeAdapt n mv) s (fun t => t.word (LNK_LANE_DFE.addr n) =
      (List.finRange 5).foldl (fun (w : Word) (k : Fin 5) => moveTap w k (vget mv k)) (s.word (LNK_LANE_DFE.addr n)) ∧ t.lane n = lnDATA))

/-- The losses of converters (R112 to R122): each is recorded with its cause in LNK_CONV_STAT and ends the converter. -/
def Obligations.LaneLossCommandsComplete : Prop :=
  (∀ (s : State) (n : Fin 32), s.live (laneDomain n) = true → s.laneEn n = true → s.lane n = lnALIGNED ∨ s.lane n = lnDATA → s.lnk.cycleLosses = [] →
    let lost (cause : Nat) (t : State) : Prop := t.flag (LNK_CONV_STAT.LOST (s.convOf n)) = true ∧ t.get (LNK_CONV_STAT.CAUSE (s.convOf n)) = cause
      ∧ t.convValid (s.convOf n) = false
    Completes (.laneSquelch n false) s (lost 2) ∧ (∀ d u, Completes (.laneCodeErrors n d u false) s (lost 3))
    ∧ (s.lane n = lnDATA → (vget s.lnk.wrongOfs n).isSome = true → Completes (.laneMarkerError n false) s (lost 4))
    ∧ Completes (.cdrLoss n false) s (lost 5) ∧ Completes (.deskewOverrun n false) s (lost 8))
  ∧ (∀ (s : State) (c : Fin 4) ls, s.alive = true → s.convValid c = true → s.convLanes c ≠ [] → (∀ n ∈ s.convLanes c, s.lane n = lnDATA) →
    s.lnk.cycleLosses = [] → s.app LNK_CTRL.PROTO = 0 → (∀ n ∈ s.convLanes c, ls.getLsbD n = true) → Completes (.idleAnnounce c ls) s (fun t =>
      t.flag (LNK_CONV_STAT.LOST c) = true ∧ t.get (LNK_CONV_STAT.CAUSE c) = 1 ∧ t.get (LNK_CONV_STAT.STATE c) = 3 ∧ t.convValid c = false))
  ∧ (∀ (s : State) (c : Fin 4) e, s.alive = true → vget s.lnk.stored c = true → s.convLanes c ≠ [] → (∀ n ∈ s.convLanes c, s.lane n = lnIDLE) →
    Completes (.idleExit c e 0) s (fun t => t.convValid c = true ∧ t.get (LNK_CONV_STAT.STATE c) = 2 ∧ ∀ n ∈ s.convLanes c, t.lane n = lnDATA))
  ∧ (∀ (s : State) src v (c : Fin 4), s.admits lnkRules src LNK_CTRL.addr v → bitsOf v 20 4 = 2 ^ c.val → s.convValid c = true → s.convLanes c ≠ [] →
    (∀ n ∈ s.convLanes c, s.lane n = lnDATA) → s.lnk.cycleLosses = [] → Completes (.lnkRestart src v) s (fun t =>
      t.okAnswer ∧ t.flag (LNK_CONV_STAT.LOST c) = true ∧ t.get (LNK_CONV_STAT.CAUSE c) = 0xB ∧ t.convValid c = false))

/-- FCV and the DDCs (R80, R134, R149, R150, R156 to R160): a delivered sample is stamped, CLR zeroes a DC estimate, SWAP
begins a fade or changes the bank at once, and the synchronising reset is armed, aborted, taken and released. -/
def Obligations.DdcCommandsComplete : Prop :=
  (∀ (s : State) (ch : Fin 4) x, s.alive = true → s.chanValid ch = true → Completes (.sampleDeliver ch [x]) s (fun t =>
    vget t.fcv.lastStamp ch = some (s.chanStamp ch x.stamp)))
  ∧ (∀ (s : State) (u : Fin 20) src v, u.val < 4 → s.admits fcvRules src (FCV_DCB.addr u) (v ||| 8) → Completes (.dcbClr u src v) s (fun t =>
    t.okAnswer ∧ t.get (FCV_DC_EST_I.EST u) = 0 ∧ t.get (FCV_DC_EST_Q.EST u) = 0))
  ∧ (∀ (s : State) (u : Fin 20) src v, 4 ≤ u.val → s.admits ddcRules src (DDC_DCB.addr (u - 4)) (v ||| 8) → Completes (.dcbClr u src v) s (fun t =>
    t.okAnswer ∧ t.get (DDC_DC_EST_I.EST (u - 4)) = 0 ∧ t.get (DDC_DC_EST_Q.EST (u - 4)) = 0))
  ∧ (∀ (s : State) (d : Fin 16) src v, s.admits ddcRules src (DDC_BANK.addr d) (v ||| 1) → s.flag (DDC_STAT.VALID d) = true →
    Completes (.ddcSwap d src v) s (fun t => t.okAnswer ∧ t.flag (DDC_BANK.FADING d) = true ∧ (vget t.ddc.ch d).fadePos = 0))
  ∧ (∀ (s : State) (d : Fin 16), s.live dDDC = true → s.flag (DDC_BANK.FADING d) = true → max (vget s.ddc.ch d).fadeLen 1 ≤ (vget s.ddc.ch d).fadePos →
    Completes (.fadeEnd d) s (fun t => t.flag (DDC_BANK.FADING d) = false ∧ t.get (DDC_BANK.ACTIVE d) = s.get (DDC_BANK.ACTIVE d)))
  ∧ (∀ (s : State) src v, s.admits ddcRules src DDC_SYNC_CTRL.addr (v ||| 0x1000000) → (v ||| 0x1000000).toNat.testBit 25 = false →
    s.app DDC_SYNC_CTRL.MASK ≠ 0 → Completes (.ddcSyncGo src v) s (fun t => t.okAnswer ∧ t.flag DDC_SYNC_STAT.PENDING = true
      ∧ t.ddc.syncMask = s.app DDC_SYNC_CTRL.MASK ∧ t.ddc.syncSrc = s.app DDC_SYNC_CTRL.SRC))
  ∧ (∀ (s : State) src v, s.admits ddcRules src DDC_SYNC_CTRL.addr (v ||| 0x2000000) → (v ||| 0x2000000).toNat.testBit 24 = false →
    s.flag DDC_SYNC_STAT.PENDING = true → Completes (.ddcSyncAbort src v) s (fun t => t.okAnswer ∧ t.flag DDC_SYNC_STAT.PENDING = false))
  ∧ (∀ (s : State) t0, s.live dDDC = true → s.flag DDC_SYNC_STAT.PENDING = true → s.ddc.syncSrc ≠ 1 → (s.ddc.syncSrc = 3 → s.ddc.syncTime.toNat ≤ t0.toNat) →
    Completes (.ddcSyncReset t0) s (fun t => t.flag DDC_SYNC_STAT.PENDING = false))
  ∧ (∀ (s : State) t0 (k : Fin 16) r, s.live dDDC = true → s.ddcEn k = true → s.flag (DDC_STAT.SETTLING k) = true → (vget s.ddc.ch k).release = some r →
    r.toNat ≤ t0.toNat → Completes (.ddcRelease t0) s (fun t => t.flag (DDC_STAT.VALID k) = true ∧ t.flag (DDC_STAT.SETTLING k) = false))

/-- FFT pipes and spectra (R173, R180, R186, R187, R194, R198 to R203): the sequence number of a released spectrum, the trace
strobes, a pipe that fails, is reset and tested, the spare taken over, switched in and released, and the self-check. -/
def Obligations.FftCommandsComplete : Prop :=
  (∀ (s : State) (i : Fin 20) (src : Fin 32) bins f q p rest, fftIdx src.val = some i → s.alive = true → (s.fftSrc i).items = .frame f q p false :: rest →
    q < 2 ^ 32 → Completes (.spectrumRelease src bins) s (fun t => t.get (FFT_SRC_SEQ.SEQ src) = q))
  ∧ (∀ (s : State) (i : Fin 20) (t : Fin 4) src v, s.admits fftRules src (FFT_SRC_TRC.addr (fftSourceOf i) t) (v ||| 0x20000000) →
    s.appFlag (FFT_SRC_TRC.BLOCK (fftSourceOf i) t) = false → s.app (FFT_SRC_TRC.MODE (fftSourceOf i) t) ≠ 0 →
    ∀ h : fftSourceOf i < 32, Completes (.traceSnap ⟨fftSourceOf i, h⟩ t src v) s (fun y => y.okAnswer
      ∧ (y.get (FFT_SRC_TRS.SNAP_PEND (fftSourceOf i))).testBit t = true))
  ∧ (∀ (s : State) (i : Fin 20) (t : Fin 4) src v, s.admits fftRules src (FFT_SRC_TRC.addr (fftSourceOf i) t) (v ||| 0x10000000) →
    ∀ h : fftSourceOf i < 32, Completes (.traceReset ⟨fftSourceOf i, h⟩ t src v) s (fun y => y.okAnswer ∧ vget (y.fftSrc i).traceReset t = true))
  ∧ (∀ (s : State) (p : Fin 10) (c : BitVec 4) loc, p.val ≠ 8 → s.live (pipeDomain p) = true → 1 ≤ c.toNat → c.toNat ≤ 3 → s.pipe p ≠ pFAILED → s.pipe p ≠ pOFF →
    s.hasSchedule p = false → s.fft.check = none → s.fft.hand = none → s.fft.carry = [] →
    Completes (.pipeFail p c loc) s (fun t => t.pipe p = pFAILED ∧ t.get (FFT_PIPE_STAT.FAIL p) = c.toNat))
  ∧ (∀ (s : State) (p : Fin 10) src v, s.admits fftRules src (FFT_PIPE_CTRL.addr p) (v ||| 1) → s.pipe p = pFAILED →
    Completes (.pipeReset p src v) s (fun t => t.okAnswer ∧ t.pipe p = pRECOVERING))
  ∧ (∀ (s : State) (p : Fin 10), s.live (pipeDomain p) = true → s.fft.arb = none → s.pipe p = pRECOVERING →
    Completes (.patternTestDone p true) s (fun t => t.pipe p = (if (s.fft.carry.any (fun x => x.1 == p.val) || ! s.hasSchedule p) = true then pIDLE else pACTIVE))
    ∧ Completes (.patternTestDone p false) s (fun t => t.pipe p = pFAILED ∧ t.get (FFT_PIPE_STAT.FAIL p) = 4))
  ∧ (∀ (s : State) src v, s.admits fftRules src FFT_SPARE_CTRL.addr (v ||| 0x100) → (v ||| 0x100).toNat.testBit 9 = false → s.spareReady = true →
    s.pipe (v.toNat % 16) = pACTIVE → v.toNat % 16 < 10 → Completes (.spareTakeover src v) s (fun t => t.okAnswer
      ∧ t.fft.hand = some (.takeover, v.toNat % 16, s.now) ∧ t.get FFT_SPARE_STAT.TARGET = v.toNat % 16 ∧ t.get FFT_SPARE_STAT.REASON = 2))
  ∧ (∀ (s : State) src v, s.admits fftRules src FFT_SPARE_CTRL.addr (v ||| 0x200) → (v ||| 0x200).toNat.testBit 8 = false → s.flag FFT_SPARE_STAT.IN_USE = true →
    s.pipe (s.get FFT_SPARE_STAT.TARGET) ≠ pFAILED → s.pipe (s.get FFT_SPARE_STAT.TARGET) ≠ pRECOVERING →
    Completes (.spareRelease src v) s (fun t => t.okAnswer ∧ t.fft.hand = some (.release, s.get FFT_SPARE_STAT.TARGET, s.now)))
  ∧ (∀ (s : State) (p : Fin 10) t0, p.val ≠ 8 → s.live dFFT_S = true → s.fft.hand = some (.takeover, p.val, t0) →
    Completes (.spareSwitch true) s (fun t => t.pipe p = pIDLE ∧ t.pipe 8 = pSTANDIN ∧ t.fft.hand = none))
  ∧ (∀ (s : State) src v, s.admits fftRules src FFT_CHECK_CTRL.addr (v ||| 0x1000000) → (v ||| 0x1000000).toNat.testBit 25 = false → s.spareReady = true →
    (v ||| 0x1000000).toNat / 65536 % 16 = 8 → Completes (.checkStart src v) s (fun t => t.okAnswer
      ∧ t.fft.check = some 8 ∧ t.flag FFT_CHECK_STAT.BUSY = true ∧ t.get FFT_CHECK_STAT.PHASE = 4))
  ∧ (∀ (s : State) k, s.live dFFT_S = true → s.app FFT_CHECK_CTRL.INTERVAL ≠ 0 → s.spareBusy = false → s.flag FFT_CHECK_STAT.SUSPENDED = false → s.spareReady = true →
    s.nextTurn s.fft.turn = some k → Completes .checkInterval s (fun t => t.fft.check = some (turnPipe k) ∧ t.fft.turn = (k + 1) % 10))
  ∧ (∀ (s : State) src v, s.admits fftRules src FFT_CHECK_CTRL.addr (v ||| 0x2000000) → (v ||| 0x2000000).toNat.testBit 24 = false →
    s.fft.check = some 8 → Completes (.checkAbort src v) s (fun t => t.okAnswer
      ∧ t.fft.check = none ∧ t.get FFT_CHECK_STAT.LAST_RESULT = 5 ∧ t.get FFT_CHECK_STAT.LAST_PIPE = 8))
  ∧ (∀ (s : State), s.live dFFT_S = true → s.fft.check = some 8 →
    Completes (.checkTestDone true) s (fun t => t.fft.check = none ∧ t.get FFT_CHECK_STAT.LAST_RESULT = 1))

/-- TRG (R209, R210, R231, R237, R239 to R242, R245, R246, R504): a slot that closes while TRG is disarmed, the AUTO timer,
the strobes of TRG_CMD, the pulses of TRIG_OUT, and a remote trigger. -/
def Obligations.TriggerCommandsComplete : Prop :=
  (∀ (s : State) st nx de real, s.live dTRG = true → s.trgView de TRG_CTRL.EN = 1 → s.trg.closedTo.toNat ≤ st.toNat → st.toNat < nx.toNat →
    s.trg.fresh = false → s.trg.seqReset = none → s.trg.softs = [] → s.flag TRG_STAT.ARMED = false →
    Completes (.slotDecide st nx de real) s (fun t => t.trg.closedTo = nx ∧ t.flag TRG_STAT.NOREF = !real
      ∧ t.trg.events = s.trg.events.filter (fun e => decide (nx.toNat ≤ e.instant.toNat))))
  ∧ (∀ (s : State), s.live dTRG = true → s.appFlag TRG_CTRL.EN = true → s.app TRG_CTRL.MODE = 1 → s.flag TRG_STAT.ARMED = true →
    Completes .autoTimer s (fun t => t.trg.autoDue = true))
  ∧ (∀ (s : State) src v, s.admits trgRules src TRG_CMD.addr (v ||| 1) → s.appFlag TRG_CTRL.EN = true → (v ||| 1).toNat.testBit 2 = false →
    Completes (.trgArm src v) s (fun t => t.okAnswer ∧ t.flag TRG_STAT.ARMED = true ∧ t.trg.armFrom = s.now))
  ∧ (∀ (s : State) src v, s.admits trgRules src TRG_CMD.addr (v ||| 2) → s.appFlag TRG_CTRL.EN = true → (v ||| 2).toNat.testBit 0 = false →
    (v ||| 2).toNat.testBit 2 = false → Completes (.trgForce src v) s (fun t => t.okAnswer ∧ t.trg.softs = s.trg.softs ++ [(s.now, false)]))
  ∧ (∀ (s : State) src v, s.admits trgRules src TRG_CMD.addr (v ||| 4) → (v ||| 4).toNat.testBit 0 = false → (v ||| 4).toNat.testBit 1 = false →
    s.trg.log ≠ [] → Completes (.trgLogPop src v) s (fun t => t.okAnswer ∧ t.trg.log = s.trg.log.tail))
  ∧ (∀ (s : State) src v, s.admits trgRules src TRG_CMD.addr (v ||| 8) → (v ||| 8).toNat % 8 = 0 →
    Completes (.seqReset src v) s (fun t => t.okAnswer ∧ t.trg.seqReset = some s.now))
  ∧ (∀ (s : State) (k : Fin 4) t0, s.live dTRG = true → (vget s.trg.pulses k).contains t0 = true → s.app (TRG_OUT_CTRL.SEL k) ≠ 0 → s.app (TRG_OUT_CTRL.SEL k) ≠ 3 →
    Completes (.trigOutPulse k t0) s (fun t => vget t.trg.pulses k = (vget s.trg.pulses k).erase t0 ∧ (vget t.trg.outEnd k).isSome = true
      ∧ t.pins.trigOut.getLsbD k = !s.appFlag (TRG_OUT_CTRL.POL k)))
  ∧ (∀ (s : State) (k : Fin 4), s.live dTRG = true → (vget s.trg.outEnd k).isSome = true → s.app (TRG_OUT_CTRL.SEL k) ≠ 0 → s.app (TRG_OUT_CTRL.SEL k) ≠ 3 →
    Completes (.trigOutEnd k) s (fun t => vget t.trg.outEnd k = none ∧ t.pins.trigOut.getLsbD k = s.appFlag (TRG_OUT_CTRL.POL k)))
  ∧ (∀ (s : State) p (i : BitVec 4) t0 n c h, s.cstValid = true → n.toNat ≠ s.get CST_NODE.ID → (s.app TRG_REM_CTRL.RX_MASK).testBit i.toNat = true →
    s.live dTRG = true → s.appFlag TRG_CTRL.EN = true → (s.app TRG_EN.EN).testBit 23 = true → (s.trg.events.filter (fun e => e.src == 23)).length < 1024 →
    Completes (.remoteTriggerRx p i t0 n c h) s (fun t => ∃ e, t.trg.events = s.trg.events ++ [e] ∧ e.src = 23 ∧ e.node = n.toNat
      ∧ e.instant = t0 + BitVec.ofNat 80 (fclkStamp (s.app TRG_REM_DELAY.DELAY))))

/-- ACQ (R257, R263 to R267, R272, R277, R280, R429): a unit arms, stops and aborts, LRD is released, a segment's entry is
written, staging overruns and resumes, a circular unit stops after its POST and arms itself again, and a stream unit closes
a block. -/
def Obligations.CaptureCommandsComplete : Prop :=
  (∀ (s : State) (u : Fin 4) src v, s.admits acqRulesLrd src (ACQ_U_CMD.addr u) (v ||| 1) → (v ||| 1).toNat % 8 = 1 → s.app (ACQ_U_CFG.MODE u) ≠ 0 →
    Completes (.acqArm u src v) s (fun t => t.okAnswer ∧ t.acqState u = uARMED ∧ t.flag (ACQ_U_STAT.PENDING u) = false ∧ (t.acqUnit u).geom = geomV s.app u))
  ∧ (∀ (s : State) (u : Fin 4) src v, s.admits acqRulesLrd src (ACQ_U_CMD.addr u) (v ||| 2) → (v ||| 2).toNat % 8 = 2 → s.acqBusy u = true →
    Completes (.acqStop u src v) s (fun t => t.okAnswer ∧ (if (s.acqUnit u).geom.mode = 1 ∧ (s.acqUnit u).inFill = true then t.acqState u = uSTOPPING
      else t.acqState u = uSTOPPED ∧ t.get (ACQ_U_STAT.STOP_CAUSE u) = 4)))
  ∧ (∀ (s : State) (u : Fin 4) src v, s.admits acqRulesLrd src (ACQ_U_CMD.addr u) (v ||| 4) → (v ||| 4).toNat % 8 = 4 → s.acqBusy u = true →
    Completes (.acqAbort u src v) s (fun t => t.okAnswer ∧ t.acqState u = uSTOPPED ∧ t.get (ACQ_U_STAT.STOP_CAUSE u) = 5))
  ∧ (∀ (s : State) (u : Fin 4) src v, s.admits acqRulesLrd src (ACQ_U_LRD.addr u) v →
    Completes (.lrdWrite u src v) s (fun t => t.okAnswer ∧ t.lrd u = v.toNat))
  ∧ (∀ (s : State) (u : Fin 4) g rest, s.live dACQ = true → (s.acqUnit u).segs = g :: rest → s.segReady u g = true → (s.acqUnit u).notes = [] →
    (s.acqUnit u).held = none → (s.acqUnit u).geom.endMode ≠ 0 → s.acqState u ≠ uSTOPPING →
    Completes (.segmentEntry u) s (fun t => (t.acqUnit u).segs = rest ∧ t.lwr u = (s.lwr u + 1) % 2 ^ 32 ∧ t.flag (ACQ_U_STAT.SEG u) = true))
  ∧ (∀ (s : State) (u : Fin 4), s.live dACQ = true → s.acqBusy u = true → (s.acqUnit u).discarding = false → (s.acqUnit u).gap = none →
    Completes (.stagingOverrun u) s (fun t => (t.acqUnit u).discarding = true ∧ (t.acqUnit u).resume = false))
  ∧ (∀ (s : State) (u : Fin 4), s.live dACQ = true → (s.acqUnit u).discarding = true →
    Completes (.stagingResume u) s (fun t => (t.acqUnit u).resume = true ∧ t.regs = s.regs))
  ∧ (∀ (s : State) (u : Fin 4) r i st pt c, s.live dACQ = true → (s.acqUnit u).circ = some (r, i, st, pt, c) → s.acqState u = uFILLING → s.circOpen u = false →
    c < 16 → Completes (.circularPostStop u) s (fun t => t.acqState u = uSTOPPED ∧ t.get (ACQ_U_STAT.STOP_CAUSE u) = c))
  ∧ (∀ (s : State) (u : Fin 4), s.live dACQ = true → (s.acqUnit u).geom.mode = 2 → (s.acqUnit u).geom.autoRearm = true → s.acqState u = uSTOPPED →
    s.get (ACQ_U_STAT.STOP_CAUSE u) = 6 → Completes (.autoRearm u) s (fun t => t.acqState u = uARMED ∧ (t.acqUnit u).geom = geomV s.app u))
  ∧ (∀ (s : State) (u : Fin 4), s.live dACQ = true → s.acqBusy u = true → (s.acqUnit u).geom.mode = 3 →
    (s.acqUnit u).strm.nsamp = blockSamples (s.acqUnit u).geom.fmt → Completes (.containerBlock u) s (fun t =>
      (t.acqUnit u).strm.blockNo = (s.acqUnit u).strm.blockNo + 1 ∧ (t.acqUnit u).strm.payload = [] ∧ (t.acqUnit u).strm.out.length = (s.acqUnit u).strm.out.length + 1))

/-- NEB (R297 to R300): a swap request of the timer and of NEB_CMD swaps at once where nothing is published and waits
otherwise, the waiting request becomes a swap edge, a publication completes, and the read lock is taken and ends. -/
def Obligations.NebulaCommandsComplete : Prop :=
  let swapped (clear : Bool) (s t : State) : Prop := t.flag NEB_STAT.PUB_BUSY = true ∧ t.flag NEB_STAT.PENDING = false ∧ t.neb.cur.cleared = clear
    ∧ ∃ p, t.neb.pub = some p ∧ p.period = s.neb.cur ∧ p.t1 = s.now
  let waits (clear : Bool) (t : State) : Prop := t.flag NEB_STAT.PENDING = true ∧ t.neb.waitClear = clear
  (∀ (s : State), s.live dNEB = true → s.appFlag NEB_CTRL.EN = true → s.flag NEB_STAT.PENDING = false → s.app NEB_CTRL.SWAP_SRC = 0 →
    Completes .nebTimer s (fun t => if s.nebFree = true then swapped false s t else waits false t))
  ∧ (∀ (s : State) src v, s.live dNEB = true → s.appFlag NEB_CTRL.EN = true → s.flag NEB_STAT.PENDING = false →
    s.admits nebRules src NEB_CMD.addr (v ||| 1) → (v ||| 1).toNat % 16 = 1 →
    Completes (.nebSwap src v) s (fun t => t.okAnswer ∧ if s.nebFree = true then swapped false s t else waits false t))
  ∧ (∀ (s : State) src v, s.live dNEB = true → s.appFlag NEB_CTRL.EN = true → s.flag NEB_STAT.PENDING = false →
    s.admits nebRules src NEB_CMD.addr (v ||| 2) → (v ||| 2).toNat / 4 % 4 = 0 →
    Completes (.nebClear src v) s (fun t => t.okAnswer ∧ if s.nebFree = true then swapped true s t else waits true t))
  ∧ (∀ (s : State) src v, s.admits nebRules src NEB_CMD.addr (v ||| 4) → (v ||| 4).toNat % 16 = 4 →
    Completes (.nebHold src v) s (fun t => t.okAnswer ∧ if s.flag NEB_STAT.PUB_BUSY = true then t.flag NEB_STAT.HOLD_WAIT = true else t.flag NEB_STAT.HELD = true))
  ∧ (∀ (s : State) src v, s.admits nebRules src NEB_CMD.addr (v ||| 8) → (v ||| 8).toNat % 16 = 8 →
    (s.flag NEB_STAT.HELD = true ∨ s.flag NEB_STAT.HOLD_WAIT = true) →
    Completes (.nebRelease src v) s (fun t => t.okAnswer ∧ t.flag NEB_STAT.HELD = false ∧ t.flag NEB_STAT.HOLD_WAIT = false))
  ∧ (∀ (s : State), s.live dNEB = true → s.appFlag NEB_CTRL.EN = true → s.flag NEB_STAT.PENDING = true → s.nebFree = true →
    Completes .swapEdge s (fun t => swapped s.neb.waitClear s t))
  ∧ (∀ (s : State) p, s.live dNEB = true → s.neb.pub = some p →
    Completes .publicationComplete s (fun t => t.neb.pub = none ∧ t.flag NEB_STAT.PUB_BUSY = false
      ∧ t.get NEB_PUB_SEQ.PUB_SEQ = (s.get NEB_PUB_SEQ.PUB_SEQ + 1) % 2 ^ 32 ∧ t.get NEB_PUB_COUNT.COUNT = min p.period.count (2 ^ 32 - 1)))
  ∧ (∀ (s : State), s.live dNEB = true → s.flag NEB_STAT.HELD = true →
    Completes .holdExpired s (fun t => t.flag NEB_STAT.HELD = false ∧ t.flag NEB_STAT.HOLD_EXPIRED = true))

/-- DPY (R312, R315 to R317, R320 to R324, R327 to R331, R334): the blanking edge, a commit and its verdict, the compositor's
lock, scan-out, the tearing input, training, hot plug and the AUX channel. -/
def Obligations.DisplayCommandsComplete : Prop :=
  (∀ (s : State), s.live dDISP = true → s.get DPY_STAT.MSTATE = mRUN → s.dpy.landed = false → s.app NEB_CTRL.SWAP_SRC ≠ 1 →
    Completes .vblank s (fun t => t.get DPY_FRAME.FRAME = (s.get DPY_FRAME.FRAME + 1) % 2 ^ 32 ∧ t.neb.dpyWant = true))
  ∧ (∀ (s : State) src v, s.admits dpyRules src DPY_COMMIT.addr (v ||| 1) →
    Completes (.dpyCommit src v) s (fun t => t.okAnswer ∧ t.flag DPY_STAT.COMMIT_PEND = true ∧ t.dpy.src = src))
  ∧ (∀ (s : State), s.live dDISP = true → s.flag DPY_STAT.COMMIT_PEND = true → s.dpy.landed = false →
    let fresh := s.get DPY_CTRL.RATE != s.app DPY_CTRL.RATE || s.get DPY_CTRL.LANES != s.app DPY_CTRL.LANES
    ((admJudge (dpyItems s.get s.app (s.linkMbps s.get fresh))).2 = none → s.get DPY_STAT.MSTATE = mRUN → Completes .commitLand s (fun t => t.dpy.landed = true
      ∧ t.applied = s.applied))
    ∧ (∀ e, (admJudge (dpyItems s.get s.app (s.linkMbps s.get fresh))).2 = some e → Completes .commitLand s (fun t => t.flag DPY_STAT.COMMIT_PEND = false
      ∧ t.applied = s.applied)))
  ∧ (∀ (s : State), s.live dDISP = true → s.get DPY_STAT.MSTATE = mRUN → s.neb.dpyWant = true → s.flag NEB_STAT.PUB_BUSY = false →
    Completes .composeStart s (fun t => t.neb.dpyWant = false ∧ t.neb.dpyLock = true ∧ t.dpy.composing = true ∧ t.dpy.lines = 0 ∧ t.regs = s.regs))
  ∧ (∀ (s : State), s.live dDISP = true → s.neb.dpyLock = true → s.dpy.composing = true →
    Completes .densityLockRelease s (fun t => t.neb.dpyLock = false))
  ∧ (∀ (s : State) line, s.live dDISP = true → s.get DPY_STAT.MSTATE = mRUN → line < s.app DPY_VTIM.VACTIVE → s.dpy.composing = true → s.dpy.lines ≤ line →
    Completes (.scanoutLine line true) s (fun t => t.dpy.lines = line + 1)
    ∧ Completes (.scanoutLine line false) s (fun t => t.flag DPY_STAT.UNDERRUN = true
      ∧ t.get DPY_CNT.UNDERRUN_COUNT = min (s.get DPY_CNT.UNDERRUN_COUNT + 1) 65535))
  ∧ (∀ (s : State), s.live dDISP = true → s.get DPY_STAT.MSTATE = mRUN → s.app DPY_CTRL.TE_MODE = 1 →
    Completes (.teInEdge true) s (fun t => t.dpy.teSeen = true ∧ t.regs = s.regs)
    ∧ (s.dpy.teSeen = false → Completes .teMiss s (fun t => t.flag DPY_STAT.TE_MISS = true
      ∧ t.get DPY_CNT.TE_MISS_COUNT = min (s.get DPY_CNT.TE_MISS_COUNT + 1) 65535)))
  ∧ (∀ (s : State) (r : BitVec 3) (l : BitVec 2), s.live dDISP = true → s.get DPY_STAT.MSTATE = mTRAIN → s.dpy.landed = false →
    (s.app DPY_CTRL.RATE = r.toNat ∧ s.app DPY_CTRL.LANES = l.toNat ∨ s.appFlag DPY_CTRL.FALLBACK = true →
      Completes (.linkTrained r l true) s (fun t => t.get DPY_LINK.RATE = r.toNat ∧ t.get DPY_LINK.LANES = l.toNat))
    ∧ Completes (.linkTrained r l false) s (fun t => t.flag DPY_STAT.LINK_UP = false ∧ t.get DPY_STAT.MSTATE = mBLANK))
  ∧ (∀ (s : State), s.live dDISP = true → s.get DPY_STAT.MSTATE = mRUN → Completes (.hpdIrq true) s (fun t => t.flag DPY_STAT.LINK_UP = false
      ∧ t.get DPY_STAT.MSTATE = (if s.flag DPY_STAT.HPD = true then mTRAIN else mWAIT)))
  ∧ (∀ (s : State), s.live dDISP = true → Completes .hpdUnplug s (fun t => t.flag DPY_STAT.HPD = false ∧ t.flag DPY_STAT.LINK_UP = false))
  ∧ (∀ (s : State), s.live dDISP = true → Completes .hpdPlug s (fun t => t.flag DPY_STAT.HPD = true
      ∧ (s.get DPY_STAT.MSTATE = mWAIT → t.get DPY_STAT.MSTATE = mTRAIN)))
  ∧ (∀ (s : State) src v, s.admits dpyRules src DPY_AUX_CTRL.addr (v ||| 0x80000000) →
    Completes (.auxGo src v) s (fun t => t.okAnswer ∧ t.dpy.auxBusy = true ∧ (t.dpy.auxWait = true ↔ s.get DPY_STAT.MSTATE = mTRAIN)))
  ∧ (∀ (s : State) (r : BitVec 2) d, s.live dDISP = true → s.dpy.auxBusy = true → s.dpy.auxWait = false → r ≠ 0 ∨ s.flag DPY_AUX_CTRL.READ = false →
    Completes (.auxDone r d) s (fun t => t.dpy.auxBusy = false ∧ t.flag DPY_AUX_STAT.DONE = true ∧ t.get DPY_AUX_STAT.RESULT = r.toNat))

/-- The control of the Lodestar cores (R337, R355 to R370): START clears the registers of the core and runs it from its
entry; STOP stops a waiting core, and a running one at the next boundary; the doorbell, the timer and a tap entry reach
their places, and a tap entry that finds 64 entries is discarded and counted; an interrupt is taken at a boundary; an
invocation past its budget is counted; a window of 1 ms ends with its figures. -/
def Obligations.LodestarControlCommandsComplete : Prop :=
  (∀ (s : State) (n : Fin 8) src v, s.admits lodRules src (LOD_CMD.addr n) (v ||| 1) → (v ||| 1).toNat.testBit 1 = false → s.coreState n ≠ 0 →
    Completes (.lodStart n src v) s (fun t => t.okAnswer ∧ t.coreState n = cRUNNING
      ∧ t.core n = { LodCore.reset with pc := s.app (LOD_ENTRY.ENTRY n), busy := (s.core n).busy, istall := (s.core n).istall }
      ∧ s.otherCores t n ∧ t.get (LOD_STAT.V24 n) = 0 ∧ t.get (LOD_STAT.V56 n) = 0 ∧ t.get (LOD_STAT.SAT n) = 0))
  ∧ (∀ (s : State) (n : Fin 8) src v, s.admits lodRules src (LOD_CMD.addr n) (v ||| 2) → (v ||| 2).toNat.testBit 0 = false →
    s.coreState n = cWAITING ∨ (s.coreState n = cRUNNING ∧ (s.core n).boundary = true) →
    Completes (.lodStop n src v) s (fun t => t.okAnswer ∧ t.coreState n = cSTOPPED ∧ t.get (LOD_STAT.CAUSE n) = 1
      ∧ t.get (LOD_PC.PC n) = (s.core n).pc % 2 ^ 15 ∧ s.otherCores t n))
  ∧ (∀ (s : State) (n : Fin 8) src v, s.admits lodRules src (LOD_CMD.addr n) (v ||| 2) → (v ||| 2).toNat.testBit 0 = false →
    s.coreState n = cRUNNING → (s.core n).boundary = false →
    Completes (.lodStop n src v) s (fun t => t.okAnswer ∧ t.coreState n = cRUNNING ∧ t.core n = { s.core n with stopReq := true } ∧ s.otherCores t n))
  ∧ (∀ (s : State) (n : Fin 8) src v, s.admits lodRules src (LOD_DOOR.addr n) v → Completes (.lodDoor n src v) s (fun t =>
    t.okAnswer ∧ t.core n = { s.core n with mail := (s.core n).mail ||| v.setWidth 16, door := true } ∧ s.otherCores t n))
  ∧ (∀ (s : State) (n : Fin 8), s.coreLive n = true → s.coreState n = cRUNNING ∨ s.coreState n = cWAITING → s.app (LOD_TIMER.PERIOD n) ≠ 0 →
    Completes (.lodTimer n) s (fun t => t = s.modCore n (fun c => { c with timer := true })))
  ∧ (∀ (s : State) (n : Fin 8) (q : Fin 2) e es, s.live (coreDomain n) = true → (s.tap n q).crossing = e :: es →
    Completes (.tapEntry n q) s (fun t => (t.tap n q).crossing = es
      ∧ (t.tap n q).queue = (if (s.tap n q).queue.length < 64 then (s.tap n q).queue ++ [{ e with gap := e.gap || (s.tap n q).lost }] else (s.tap n q).queue)
      ∧ (t.tap n q).lost = decide (64 ≤ (s.tap n q).queue.length)
      ∧ (64 ≤ (s.tap n q).queue.length → t.flag (if q.val = 0 then LOD_STAT.TAP_OVF0 n else LOD_STAT.TAP_OVF1 n) = true)))
  ∧ (∀ (s : State) (n : Fin 8) (i : Nat), s.coreLive n = true → s.coreState n = cRUNNING → (s.core n).ie = true → (s.core n).boundary = true →
    s.irqDue n = some i → (s.core n).rets.length < 16 →
    Completes (.interruptEntry n) s (fun t => t.core n = { s.core n with
      rets := (s.core n).pc :: (s.core n).rets, shadow := BitVec.ofNat 8 (s.sr n)
      ie := false, pc := i * 0x10, timer := (s.core n).timer && i != 0, lastAcc := 0, lastWalk := 0 } ∧ s.otherCores t n))
  ∧ (∀ (s : State) (n : Fin 8), s.coreLive n = true → s.coreState n = cRUNNING → (s.core n).overrun = false → s.app (LOD_BUDGET.CYCLES n) < (s.core n).icyc →
    Completes (.budgetOverrun n) s (fun t => (t.core n).overrun = true ∧ t.flag (LOD_STAT.OVERRUN n) = true
      ∧ t.coreState n = (if s.appFlag (LOD_CTRL.BUDGET_TRAP n) = true then cHALTED else cRUNNING)))
  ∧ (∀ (s : State) (n : Fin 8) m, s.coreLive n = true → Completes (.lodBusyWindow n m) s (fun t =>
    t.get (LOD_BUSY.BUSY n) = min ((s.core n).busy + m) (2 ^ 20 - 1) ∧ t.get (LOD_CNT1.ISTALL n) = min ((s.core n).istall / 4096) 255
    ∧ t.get (LOD_CNT1.MSTALL n) = min (m / 4096) 255 ∧ t.core n = { s.core n with busy := 0, istall := 0 } ∧ s.otherCores t n))

/-- The Lodestar instructions of class CTRL (R348, R353, R361, R362, R367, R368, R373): NOP steps on; EI and DI set IE;
CLRV clears the sticky flags; HOSTEV sets its status bit; SIG reaches the peer; RTS and RETI return with two delay slots,
RETI with SR from its shadow; WAIT with nothing pending goes into WAITING; TRAP halts with its code. -/
def Obligations.LodestarCtrl : Prop :=
  let on (n : Fin 8) (s : State) : LodCore := (s.core n).ranOn 1 {}
  ∀ (s : State) (n : Fin 8),
    (s.lodRuns n .plain → Completes (.nop n 0) s (fun t => t.core n = on n s ∧ s.otherCores t n ∧ t.regs = s.regs ∧ t.sram = s.sram))
    ∧ (s.lodRuns n .plain → Completes (.ei n 0) s (fun t => t.core n = { on n s with ie := true } ∧ s.otherCores t n ∧ t.regs = s.regs ∧ t.sram = s.sram))
    ∧ (s.lodRuns n .plain → Completes (.di n 0) s (fun t => t.core n = { on n s with ie := false } ∧ s.otherCores t n ∧ t.regs = s.regs ∧ t.sram = s.sram))
    ∧ (s.lodRuns n .plain → Completes (.clrv n 0) s (fun t => t.core n = on n s ∧ s.otherCores t n ∧ t.get (LOD_STAT.V24 n) = 0
      ∧ t.get (LOD_STAT.V56 n) = 0 ∧ t.get (LOD_STAT.SAT n) = s.get (LOD_STAT.SAT n) ∧ t.sram = s.sram))
    ∧ (s.lodRuns n .plain → Completes (.hostev n 0) s (fun t => t.core n = on n s ∧ s.otherCores t n ∧ t.flag (LOD_STAT.HOSTEV n) = true ∧ t.sram = s.sram))
    ∧ (∀ m : Fin 8, s.lodRuns n .plain → m ≠ n → s.coreState m ≠ 0 → Completes (.sig n (BitVec.ofNat 24 m)) s (fun t =>
      t.core n = on n s ∧ t.core m = { s.core m with peers := (s.core m).peers ||| BitVec.ofNat 8 (2 ^ n.val), peer := true }
      ∧ (∀ k, k ≠ n → k ≠ m → t.core k = s.core k) ∧ t.regs = s.regs ∧ t.sram = s.sram))
    ∧ (∀ a r, s.lodRuns n .ret → (s.core n).rets = a :: r → Completes (.rts n 0) s (fun t =>
      t.core n = { on n s with rets := r, delay := 2, target := some a } ∧ s.otherCores t n ∧ t.regs = s.regs ∧ t.sram = s.sram))
    ∧ (∀ a r, s.lodRuns n .ret → (s.core n).rets = a :: r → Completes (.reti n 0) s (fun t =>
      t.core n = { on n s with
        rets := r, delay := 2, target := some a, z := bit (s.core n).shadow.toNat 0, n := bit (s.core n).shadow.toNat 1
        c := bit (s.core n).shadow.toNat 2, v := bit (s.core n).shadow.toNat 3, ie := bit (s.core n).shadow.toNat 7 }
      ∧ s.otherCores t n ∧ t.flag (LOD_STAT.V24 n) = bit (s.core n).shadow.toNat 4 ∧ t.flag (LOD_STAT.V56 n) = bit (s.core n).shadow.toNat 5
      ∧ t.flag (LOD_STAT.SAT n) = bit (s.core n).shadow.toNat 6 ∧ t.sram = s.sram))
    ∧ (s.lodRuns n .wait → (s.core n).ie = true → s.irqDue n = none → Completes (.wait n 0) s (fun t =>
      t.coreState n = cWAITING ∧ t.core n = on n s ∧ s.otherCores t n
      ∧ t.get (LOD_MAXINV.MAXINV n) = max (s.get (LOD_MAXINV.MAXINV n)) (min ((s.core n).icyc + 1) (2 ^ 24 - 1)) ∧ t.sram = s.sram))
    ∧ (∀ w : BitVec 24, s.lodRuns n .plain → wbits w 8 16 = 0 → Completes (.trap n w) s (fun t =>
      t.coreState n = cHALTED ∧ t.get (LOD_STAT.CAUSE n) = 8 ∧ t.get (LOD_STAT.TCODE n) = wbits w 0 8 ∧ t.get (LOD_PC.PC n) = (s.core n).pc % 2 ^ 15
      ∧ s.otherCores t n ∧ t.sram = s.sram))

/-- The Lodestar branches and repeats (R349 to R354): BRA, BCC where its condition holds, and CALL jump after two delay
slots, CALL with the return address on the stack; REP repeats the next instruction, or skips it where its count is 0;
LOOP enters its body, or skips it where its count is 0. -/
def Obligations.LodestarFlow : Prop :=
  let on (n : Fin 8) (s : State) : LodCore := (s.core n).ranOn 1 {}
  let quiet (n : Fin 8) (s t : State) : Prop := s.otherCores t n ∧ t.regs = s.regs ∧ t.sram = s.sram
  ∀ (s : State) (n : Fin 8),
    (∀ w : BitVec 26, s.lodRuns n .branch → wbits w 15 7 = 0 →
      Completes (.bra n w) s (fun t => t.core n = { on n s with delay := 2, target := some (wbits w 0 15) } ∧ quiet n s t)
      ∧ (wbits w 22 4 ≤ 11 → Completes (.bcc n w) s (fun t =>
        t.core n = { on n s with delay := 2, target := if s.lodCond n (wbits w 22 4) = true then some (wbits w 0 15) else none } ∧ quiet n s t))
      ∧ ((s.core n).rets.length < 16 → Completes (.call n w) s (fun t =>
        t.core n = { on n s with delay := 2, target := some (wbits w 0 15), rets := ((s.core n).pc + 3) % 2 ^ 15 :: (s.core n).rets } ∧ quiet n s t)))
    ∧ (∀ (w : BitVec 27) k, s.lodRuns n .repeats → wbits w 15 1 = 0 → s.repCount n w = .ok k → Completes (.rep n w) s (fun t =>
      t.core n = (if k = 0 then { on n s with pc := ((on n s).pc + 1) % 2 ^ 15 } else { on n s with rep := k }) ∧ quiet n s t))
    ∧ (∀ (w : BitVec 27) k, s.lodRuns n .loops → wbits w 15 1 = 0 → (s.core n).pc < wbits w 0 15 → s.repCount n w = .ok k → (s.core n).loops.length < 4 →
      Completes (.loop n w) s (fun t => quiet n s t
        ∧ (t.core n).pc = (if k = 0 then wbits w 0 15 + 1 else (s.core n).pc + 1) % 2 ^ 15
        ∧ (t.core n).loops = (if k = 0 then (s.core n).loops else ⟨((s.core n).pc + 1) % 2 ^ 15, wbits w 0 15, k⟩ :: (s.core n).loops)
        ∧ (t.core n).d = (s.core n).d ∧ (t.core n).u = (s.core n).u ∧ (t.core n).rets = (s.core n).rets ∧ (t.core n).idx = (s.core n).idx))

/-- The Lodestar ALU (R342, R348): what each ALU instruction on two registers leaves. The destination takes the result, Z
and N follow it, C is the carry where the manual gives one and a free value elsewhere (log entries 54, 56), V tells a wrap
and V24 keeps it; the core steps on; no other register of it, no other core, no tap and no byte of SRAM changes. CMP
writes no destination. -/
def Obligations.LodestarAlu : Prop :=
  let done (n : Fin 8) (s : State) (dst : Option Nat) (x : AluRes) (t : State) : Prop :=
    t.core n = { (s.core n).ranOn 1 {} with
      d := dst.elim (s.core n).d (fun r => vset (s.core n).d (fin16 r) x.r)
      z := x.r == 0, n := x.r.msb, c := x.carry.getD (s.free.getLsbD 0), v := x.wrap }
    ∧ s.otherCores t n ∧ t.sram = s.sram ∧ t.flag (LOD_STAT.V24 n) = (s.flag (LOD_STAT.V24 n) || x.wrap)
  ∀ (s : State) (n : Fin 8) (w : BitVec 23), s.lodRuns n .plain → wbits w 0 11 = 0 →
    let a := s.dreg n (wbits w 15 4)
    let b := s.dreg n (wbits w 11 4)
    let r := some (wbits w 19 4)
    Completes (.add n w) s (done n s r (aluAdd a b))
    ∧ Completes (.sub n w) s (done n s r (aluSub a b))
    ∧ Completes (.and n w) s (done n s r (aluLogic (a &&& b)))
    ∧ Completes (.or n w) s (done n s r (aluLogic (a ||| b)))
    ∧ Completes (.xor n w) s (done n s r (aluLogic (a ^^^ b)))
    ∧ Completes (.cmp n w) s (done n s none (aluSub a b))
    ∧ Completes (.mov n w) s (done n s r (aluMov b))
    ∧ Completes (.neg n w) s (done n s r (aluNeg b))
    ∧ Completes (.abs n w) s (done n s r (aluAbs b))
    ∧ Completes (.asr n w) s (done n s r (aluAsr a (wbits w 11 4)))
    ∧ Completes (.lsr n w) s (done n s r (aluLsr a (wbits w 11 4)))
    ∧ Completes (.shl n w) s (done n s r (aluShl a (wbits w 11 4)))

/-- The Lodestar ALU on an immediate (R342, R348): the destination register is the first source, the second is the
immediate sign-extended to 24 bits; a shift by a negative immediate, whose result the manual does not state, leaves free
values (log entry 54). All else as for two registers. -/
def Obligations.LodestarAluImmediate : Prop :=
  let done (n : Fin 8) (s : State) (dst : Option Nat) (x : AluRes) (t : State) : Prop :=
    t.core n = { (s.core n).ranOn 1 {} with
      d := dst.elim (s.core n).d (fun r => vset (s.core n).d (fin16 r) x.r)
      z := x.r == 0, n := x.r.msb, c := x.carry.getD (s.free.getLsbD 0), v := x.wrap }
    ∧ s.otherCores t n ∧ t.sram = s.sram ∧ t.flag (LOD_STAT.V24 n) = (s.flag (LOD_STAT.V24 n) || x.wrap)
  ∀ (s : State) (n : Fin 8) (w : BitVec 23), s.lodRuns n .plain →
    let a := s.dreg n (wbits w 19 4)
    let b := aluImm w
    let r := some (wbits w 19 4)
    let free : AluRes := ⟨s.free.setWidth 24, some (s.drawFree.free.getLsbD 0), s.free.getLsbD 32⟩
    Completes (.aluiAdd n w) s (done n s r (aluAdd a b))
    ∧ Completes (.aluiSub n w) s (done n s r (aluSub a b))
    ∧ Completes (.aluiAnd n w) s (done n s r (aluLogic (a &&& b)))
    ∧ Completes (.aluiOr n w) s (done n s r (aluLogic (a ||| b)))
    ∧ Completes (.aluiXor n w) s (done n s r (aluLogic (a ^^^ b)))
    ∧ Completes (.aluiCmp n w) s (done n s none (aluSub a b))
    ∧ Completes (.aluiMov n w) s (done n s r (aluMov b))
    ∧ Completes (.aluiNeg n w) s (done n s r (aluNeg b))
    ∧ Completes (.aluiAbs n w) s (done n s r (aluAbs b))
    ∧ Completes (.aluiAsr n w) s (done n s r (if b.msb = true then free else aluAsr a b.toNat))
    ∧ Completes (.aluiLsr n w) s (done n s r (if b.msb = true then free else aluLsr a b.toNat))
    ∧ Completes (.aluiShl n w) s (done n s r (if b.msb = true then free else aluShl a b.toNat))

/-- The Lodestar class ACC (R343, R344): the accumulator takes the exact value modulo 2^56, V56 keeps that it lay outside,
the core steps on, and nothing else of any core, no tap and no byte of SRAM changes; MVA stores by R344 to a data register.
The scale of MVDA is the choice of log entry 55. -/
def Obligations.LodestarAccumulator : Prop :=
  let done (n : Fin 8) (s : State) (u : Nat) (x : Int) (t : State) : Prop :=
    t.core n = { (s.core n).ranOn 1 { accW := 2 ^ u } with u := vset (s.core n).u (fin8 u) (BitVec.ofInt 56 x) }
    ∧ s.otherCores t n ∧ t.sram = s.sram
    ∧ t.flag (LOD_STAT.V56 n) = (s.flag (LOD_STAT.V56 n) || decide (x < -(2 ^ 55)) || decide (2 ^ 55 ≤ x))
  ∀ (s : State) (n : Fin 8) (w : BitVec 24), s.lodRuns n .plain → wbits w 6 8 = 0 →
    let u := wbits w 21 3
    let a := (s.acc n u).toInt
    let b := (s.acc n (wbits w 18 3)).toInt
    let k := toSigned 6 (wbits w 0 6)
    Completes (.clra n w) s (done n s u 0)
    ∧ Completes (.adda n w) s (done n s u (a + b))
    ∧ Completes (.suba n w) s (done n s u (a - b))
    ∧ Completes (.ash n w) s (done n s u (if 0 ≤ k then b * 2 ^ k.toNat else b / 2 ^ (-k).toNat))
    ∧ Completes (.mvda n w) s (done n s u ((s.dreg n (wbits w 14 4)).toInt * 2 ^ Config.mvdaShift))
    ∧ Completes (.mva n w) s (fun t =>
      t.core n = { (s.core n).ranOn 1 { accR := 2 ^ wbits w 18 3 } with d := vset (s.core n).d (fin16 (wbits w 14 4)) (s.accStore n (wbits w 18 3)).1 }
      ∧ s.otherCores t n ∧ t.sram = s.sram ∧ t.flag (LOD_STAT.SAT n) = (s.accStore n (wbits w 18 3)).2.flag (LOD_STAT.SAT n))

/-- The Lodestar class MAC (R343, R347): with multiplicands and transfers that read no poisoned word, the accumulator
takes the exact product, or its sum or difference, modulo 2^56, V56 keeps that it lay outside, the walkers advance, and
the loads and stores of the transfer land. -/
def Obligations.LodestarMultiply : Prop :=
  ∀ (s : State) (n : Fin 8) (w : BitVec 26) s1 s2 s3 a b ls ws, s.lodRuns n .plain →
    let m1 := wbits w 18 5
    let m2 := wbits w 13 5
    let x := xferOf (wbits w 0 9)
    let u := wbits w 23 3
    let walk (m : Nat) : Nat := if m < 16 then 0 else 2 ^ (m % 8)
    let s0 := s.lodAt n 1 { accW := 2 ^ u, walkR := walk m1 ||| walk m2 ||| xferWalkers [x] }
    let done (v : Int) (t : State) : Prop :=
      (t.core n).u = vset (s.core n).u (fin8 u) (BitVec.ofInt 56 v)
      ∧ t.flag (LOD_STAT.V56 n) = (s.flag (LOD_STAT.V56 n) || decide (v < -(2 ^ 55)) || decide (2 ^ 55 ≤ v))
      ∧ (t.core n).idx = (s3.core n).idx ∧ (t.core n).d = ((s3.landXfers n ls ws).core n).d ∧ (t.core n).pc = ((s.core n).stepOn 1).pc
      ∧ s.otherCores t n ∧ t.sram = (s3.landXfers n ls ws).sram
    wbits w 9 4 = 0 → x.code ≠ 3 → m1 / 16 + m2 / 16 + b2n x.mem ≤ 2 →
    State.multiplicand s0 s0 n m1 = .ok (a, s1) → State.multiplicand s0 s1 n m2 = .ok (b, s2) → State.gather s0 n [x] s2 = .ok (s3, ls, ws) →
    Completes (.mpy n w) s (done (a.toInt * b.toInt))
    ∧ Completes (.mac n w) s (done ((s.acc n u).toInt + a.toInt * b.toInt))
    ∧ Completes (.msu n w) s (done ((s.acc n u).toInt - a.toInt * b.toInt))

/-- The Lodestar class CMPLX (R345): the operands reduced to 18 bits, the complex product shifted left by 12, joined with
the two accumulators of the pair, each modulo 2^56 with V56; the transfers land. -/
def Obligations.LodestarComplex : Prop :=
  ∀ (s : State) (n : Fin 8) (w : BitVec 26) s1 ls ws, s.lodRuns n .plain →
    let xs := [xferOf (wbits w 9 9), xferOf (wbits w 0 9)]
    let p := wbits w 24 2
    let q (k : Nat) : Int := (s.dreg n k).toInt / 64
    let a := q (2 * wbits w 21 3)
    let b := q (2 * wbits w 21 3 + 1)
    let c := q (2 * wbits w 18 3)
    let d := q (2 * wbits w 18 3 + 1)
    let u0 := (s.acc n (2 * p)).toInt
    let u1 := (s.acc n (2 * p + 1)).toInt
    let beyond (v : Int) : Bool := decide (v < -(2 ^ 55)) || decide (2 ^ 55 ≤ v)
    let s0 := s.lodAt n 1 { accW := 3 * 4 ^ p, walkR := xferWalkers xs }
    let done (re im : Int) (t : State) : Prop :=
      (t.core n).u = vset (vset (s.core n).u (fin8 (2 * p)) (BitVec.ofInt 56 re)) (fin8 (2 * p + 1)) (BitVec.ofInt 56 im)
      ∧ t.flag (LOD_STAT.V56 n) = (s.flag (LOD_STAT.V56 n) || beyond re || beyond im)
      ∧ (t.core n).idx = (s1.core n).idx ∧ (t.core n).d = ((s1.landXfers n ls ws).core n).d ∧ (t.core n).pc = ((s.core n).stepOn 1).pc
      ∧ s.otherCores t n ∧ t.sram = (s1.landXfers n ls ws).sram
    (∀ x ∈ xs, x.code ≠ 3) → State.gather s0 n xs s0 = .ok (s1, ls, ws) →
    Completes (.cmpy n w) s (done ((a * c - b * d) * 4096) ((a * d + b * c) * 4096))
    ∧ Completes (.cmac n w) s (done (u0 + (a * c - b * d) * 4096) (u1 + (a * d + b * c) * 4096))
    ∧ Completes (.cmacj n w) s (done (u0 + (a * c + b * d) * 4096) (u1 + (b * c - a * d) * 4096))
    ∧ Completes (.cmsu n w) s (done (u0 - (a * c - b * d) * 4096) (u1 - (a * d + b * c) * 4096))

/-- The Lodestar loads, moves and walker instructions (R338, R346, R348, R356, R359): what each leaves in the core, every
other core, every register and every byte of SRAM unchanged where the instruction stores nothing. -/
def Obligations.LodestarLoads : Prop :=
  let quiet (n : Fin 8) (s t : State) : Prop := s.otherCores t n ∧ t.regs = s.regs ∧ t.sram = s.sram
  ∀ (s : State) (n : Fin 8),
    (∀ (w : BitVec 26) v, s.lodRuns n .plain → ldstOk w false = true → s.loadWord n (s.ldst n w).1 = .ok v → Completes (.ld n w) s (fun t =>
      t.core n = { (s.core n).ranOn 1 { walkR := 2 ^ wbits w 21 3 } with
        d := vset (s.core n).d (fin16 (wbits w 17 4)) (v.setWidth 24), idx := ((s.ldst n w).2.core n).idx } ∧ quiet n s t))
    ∧ (∀ (w : BitVec 26) lo hi, s.lodRuns n .plain → ldstOk w true = true → s.loadWord n (s.ldst n w).1 = .ok lo →
      s.loadWord n ((s.ldst n w).1 + 1) = .ok hi → Completes (.ldl n w) s (fun t =>
      t.core n = { (s.core n).ranOn 1 { walkR := 2 ^ wbits w 21 3, accW := 2 ^ wbits w 17 3 } with
        u := vset (s.core n).u (fin8 (wbits w 17 3)) (hi.setWidth 24 ++ lo), idx := ((s.ldst n w).2.core n).idx } ∧ quiet n s t))
    ∧ (∀ (w : BitVec 24) (imm : BitVec 32), s.lodRuns n .long → wbits w 0 20 = 0 →
      (wbits imm 24 8 = 0 → Completes (.ldi n w imm) s (fun t =>
        t.core n = { (s.core n).ranOn 2 {} with d := vset (s.core n).d (fin16 (wbits w 20 4)) (imm.setWidth 24) } ∧ quiet n s t))
      ∧ (∀ v, wbits imm 18 14 = 0 → s.loadWord n imm.toNat = .ok v → Completes (.lda n w imm) s (fun t =>
        t.core n = { (s.core n).ranOn 2 {} with d := vset (s.core n).d (fin16 (wbits w 20 4)) (v.setWidth 24) } ∧ quiet n s t)))
    ∧ (∀ w : BitVec 28, s.lodRuns n .plain → (wbits w 21 1 = 1 ∨ wbits w 18 3 = 0) →
      let g := fin8 (wbits w 23 3)
      let v : BitVec 18 := if wbits w 21 1 = 0 then BitVec.ofNat 18 (wbits w 0 18) else (s.dreg n (wbits w 0 4)).setWidth 18
      let c := s.core n
      let r : LodCore := c.ranOn 1 { walkW := 2 ^ g.val }
      let after (new : BitVec 18 → BitVec 18) (t : State) : Prop :=
        (wbits w 26 2 = 0 → t.core n = { r with base := vset c.base g (new (vget c.base g)) })
        ∧ (wbits w 26 2 = 1 → t.core n = { r with idx := vset c.idx g (reduceIdx (vget c.span g) (new (vget c.idx g)).toNat) })
        ∧ (wbits w 26 2 = 2 → t.core n = { r with step := vset c.step g (new (vget c.step g)) })
        ∧ (wbits w 26 2 = 3 → t.core n = { r with
          span := vset c.span g (new (vget c.span g)), idx := vset c.idx g (reduceIdx (new (vget c.span g)) (vget c.idx g).toNat) })
      Completes (.ldg n w) s (fun t => after (fun _ => v) t ∧ quiet n s t) ∧ Completes (.addg n w) s (fun t => after (fun x => x + v) t ∧ quiet n s t))
    ∧ (∀ (w : BitVec 26) e es, s.lodRuns n .tget → wbits w 0 16 = 0 →
      let q : Fin 2 := if wbits w 25 1 = 0 then 0 else 1
      let r := wbits w 16 3
      (s.tap n q).queue = e :: es → Completes (.tget n w) s (fun t =>
        t.core n = { (s.core n).ranOn 1 {} with
          d := vset (vset (s.core n).d (fin16 (2 * r)) e.i) (fin16 (2 * r + 1)) e.q
          tfl := BitVec.ofNat 24 (e.seq.toNat + b2n e.ovr * 2 ^ 16 + b2n e.thr * 2 ^ 17 + b2n e.dsat * 2 ^ 18 + b2n e.gap * 2 ^ 19)
          ts := #v[ts0Of e.stamp, ts1Of e.stamp, ts2Of e.stamp] }
        ∧ (t.tap n q).queue = es ∧ (∀ m, m ≠ n → t.core m = s.core m) ∧ t.regs = s.regs ∧ t.sram = s.sram))
    ∧ (∀ w : BitVec 26, s.lodRuns n .plain → wbits w 0 16 = 0 → wbits w 20 5 ≤ 14 →
      let x := (s.lodAt n 1 {}).mvsRead n (wbits w 20 5)
      let v := s.dreg n (wbits w 16 4)
      Completes (.mvs n w) s (fun t => (t.core n).d = vset (s.core n).d (fin16 (wbits w 16 4)) x.1 ∧ (t.core n).pc = ((s.core n).stepOn 1).pc
        ∧ (t.core n).mail = (x.2.core n).mail ∧ (t.core n).door = (x.2.core n).door ∧ (t.core n).peers = (x.2.core n).peers ∧ (t.core n).peer = (x.2.core n).peer
        ∧ (t.core n).now1 = (x.2.core n).now1 ∧ (t.core n).now2 = (x.2.core n).now2 ∧ (t.core n).u = (s.core n).u ∧ (t.core n).idx = (s.core n).idx ∧ quiet n s t)
      ∧ (wbits w 20 5 = 1 → Completes (.mvt n w) s (fun t => t.core n = { (s.core n).ranOn 1 {} with imr := v } ∧ quiet n s t))
      ∧ (1 < wbits w 20 5 → Completes (.mvt n w) s (fun t => t.core n = (s.core n).ranOn 1 {} ∧ quiet n s t))
      ∧ (wbits w 20 5 = 0 → Completes (.mvt n w) s (fun t =>
        t.core n = { (s.core n).ranOn 1 {} with
          z := v.getLsbD 0, n := v.getLsbD 1, c := v.getLsbD 2, v := v.getLsbD 3, ie := v.getLsbD 7 }
        ∧ t.flag (LOD_STAT.V24 n) = v.getLsbD 4 ∧ t.flag (LOD_STAT.V56 n) = v.getLsbD 5 ∧ t.flag (LOD_STAT.SAT n) = v.getLsbD 6
        ∧ s.otherCores t n ∧ t.sram = s.sram)))

/-- The Lodestar stores and transfers (R338, R344, R346, R347): the stored word stands at its address, every byte of SRAM
outside it reads as before, and the core steps on with its walker advanced. -/
def Obligations.LodestarStores : Prop :=
  let stored (s t : State) (a : Nat) (v : BitVec 32) : Prop := t.sramLE a 4 = v.toNat ∧ ∀ b, (b < a ∨ a + 4 ≤ b) → t.sramByte b = s.sramByte b
  ∀ (s : State) (n : Fin 8),
    (∀ w : BitVec 26, s.lodRuns n .plain → ldstOk w false = true → Completes (.st n false w) s (fun t =>
      t.core n = { (s.core n).ranOn 1 { walkR := 2 ^ wbits w 21 3 } with idx := ((s.ldst n w).2.core n).idx }
      ∧ stored s t (dataAddr n (s.ldst n w).1) (store24 (s.dreg n (wbits w 17 4))) ∧ s.otherCores t n))
    ∧ (∀ w : BitVec 26, s.lodRuns n .plain → ldstOk w true = true → Completes (.st n true w) s (fun t =>
      t.core n = { (s.core n).ranOn 1 { walkR := 2 ^ wbits w 21 3, accR := 2 ^ wbits w 17 3 } with idx := ((s.ldst n w).2.core n).idx }
      ∧ stored s t (dataAddr n (s.ldst n w).1) (store24 (s.accStore n (wbits w 17 3)).1) ∧ s.otherCores t n
      ∧ t.flag (LOD_STAT.SAT n) = (s.accStore n (wbits w 17 3)).2.flag (LOD_STAT.SAT n)))
    ∧ (∀ w : BitVec 26, s.lodRuns n .plain → ldstOk w true = true →
      let a := dataAddr n (s.ldst n w).1
      let b := dataAddr n ((s.ldst n w).1 + 1)
      let v := s.acc n (wbits w 17 3)
      Completes (.stl n w) s (fun t =>
        t.core n = { (s.core n).ranOn 1 { walkR := 2 ^ wbits w 21 3, accR := 2 ^ wbits w 17 3 } with idx := ((s.ldst n w).2.core n).idx }
        ∧ t.sramLE a 4 = (v.setWidth 32).toNat ∧ t.sramLE b 4 = (store24 ((v >>> 32).setWidth 24)).toNat
        ∧ (∀ x, (x < a ∨ a + 4 ≤ x) → (x < b ∨ b + 4 ≤ x) → t.sramByte x = s.sramByte x) ∧ s.otherCores t n))
    ∧ (∀ (w : BitVec 24) (imm : BitVec 32), s.lodRuns n .long → wbits w 0 20 = 0 → wbits imm 18 14 = 0 → Completes (.sta n w imm) s (fun t =>
      t.core n = (s.core n).ranOn 2 {} ∧ stored s t (dataAddr n imm.toNat) (store24 (s.dreg n (wbits w 20 4))) ∧ s.otherCores t n))
    ∧ (∀ (w : BitVec 28) s1 ls ws, s.lodRuns n .plain →
      let xs := [xferOf (wbits w 9 9), xferOf (wbits w 0 9)]
      let s0 := s.lodAt n 1 { walkR := xferWalkers xs }
      wbits w 18 10 = 0 → (∀ x ∈ xs, x.code ≠ 3) → State.gather s0 n xs s0 = .ok (s1, ls, ws) → Completes (.move n w) s (fun t =>
        (t.core n).idx = (s1.core n).idx ∧ (t.core n).d = ((s1.landXfers n ls ws).core n).d ∧ (t.core n).u = (s.core n).u
        ∧ (t.core n).pc = ((s.core n).stepOn 1).pc ∧ s.otherCores t n ∧ t.sram = (s1.landXfers n ls ws).sram))

/-- The commands of the stalls (R379, R388, R390, R394): START runs a stopped or halted stall afresh; STOP stops a waiting
stall at once and lets a descriptor in work end; ABORT ends a descriptor with ERR_ABORT, after the beats that the command
names were acknowledged (log entry 57); KICK wakes a stall that waits for a descriptor and is remembered by any other; a
head in the chain region lands; arming a barrier clears its count and error; RESET opens a check unit afresh. -/
def Obligations.StallCommandsComplete : Prop :=
  (∀ (s : State) (k : Fin 32) src v, s.admits dmaRules src (DMA_S_CMD.addr k) (v ||| 1) → (v ||| 1).toNat.testBit 1 = false →
    (v ||| 1).toNat.testBit 2 = false → (v ||| 1).toNat.testBit 3 = false → s.dmaState k ≠ dOFF →
    Completes (.dmaStart k src v) s (fun t => t.okAnswer ∧ t.dmaState k = dRUNNING ∧ t.dmaCur k = none ∧ t.sram = s.sram))
  ∧ (∀ (s : State) (k : Fin 32) src v, s.admits dmaRules src (DMA_S_CMD.addr k) (v ||| 2) → (v ||| 2).toNat.testBit 0 = false →
    (v ||| 2).toNat.testBit 2 = false → (v ||| 2).toNat.testBit 3 = false →
    (s.dmaState k = dWAITDESC ∨ s.dmaState k = dWAITBAR → Completes (.dmaStop k src v) s (fun t => t.okAnswer ∧ t.dmaState k = dSTOPPED ∧ t.dmaCur k = none))
    ∧ (s.dmaState k = dRUNNING → Completes (.dmaStop k src v) s (fun t => t.okAnswer ∧ t.dmaCur k = s.dmaCur k
      ∧ t.dmaState k = (if (s.dmaCur k).isSome = true then dSTOPPING else dSTOPPED))))
  ∧ (∀ (s : State) (k : Fin 32) src v beats host,
    let y := if (s.live dACQ && s.dmaMoving k) = true then s.dmaBeats k true beats host else s
    y.admits dmaRules src (DMA_S_CMD.addr k) (v ||| 4) → (v ||| 4).toNat.testBit 0 = false →
    (v ||| 4).toNat.testBit 1 = false → (v ||| 4).toNat.testBit 3 = false →
    (y.dmaState k = dWAITDESC ∨ y.dmaState k = dWAITBAR → Completes (.dmaAbort k beats host src v) s (fun t =>
      t.okAnswer ∧ t.dmaState k = dSTOPPED ∧ t.dmaCur k = none))
    ∧ (y.dmaState k = dRUNNING ∨ y.dmaState k = dSTOPPING → (y.dmaCur k).isSome = true → Completes (.dmaAbort k beats host src v) s (fun t =>
      t.okAnswer ∧ t.dmaState k = dSTOPPED ∧ t.dmaCur k = none ∧ t.get (DMA_S_STAT.LAST_STATUS k) = 6)))
  ∧ (∀ (s : State) (k : Fin 32) src v, s.admits dmaRules src (DMA_S_CMD.addr k) (v ||| 8) → (v ||| 8).toNat.testBit 0 = false →
    (v ||| 8).toNat.testBit 1 = false → (v ||| 8).toNat.testBit 2 = false →
    (s.dmaState k = dWAITDESC → Completes (.kick k src v) s (fun t => t.okAnswer ∧ t.dmaState k = dRUNNING))
    ∧ (s.dmaState k = dRUNNING ∨ s.dmaState k = dWAITBAR ∨ s.dmaState k = dSTOPPING → Completes (.kick k src v) s (fun t =>
      t.okAnswer ∧ t.dmaState k = s.dmaState k ∧ t.flag (DMA_S_STAT.KICK_PEND k) = true)))
  ∧ (∀ (s : State) (k : Fin 32) src v, s.admits dmaRules src (DMA_S_HEAD.addr k) v →
    s.inChain k (bitsOf v (DMA_S_HEAD.HEAD k).lo (DMA_S_HEAD.HEAD k).n * 64) = true →
    Completes (.dmaHeadWrite k src v) s (fun t => t.okAnswer ∧ t.get (DMA_S_HEAD.HEAD k) = bitsOf v (DMA_S_HEAD.HEAD k).lo (DMA_S_HEAD.HEAD k).n))
  ∧ (∀ (s : State) (b : Fin 16) src v, s.admits dmaRules src (DMA_BAR_CTRL.addr b) (v ||| BitVec.ofNat 32 (2 ^ 31)) →
    Completes (.barrierArm b src v) s (fun t => t.okAnswer ∧ t.get (DMA_BAR_STAT.COUNT b) = 0 ∧ t.flag (DMA_BAR_STAT.ERR b) = false
      ∧ t.flag (DMA_BAR_STAT.DONE b) = (t.get (DMA_BAR_CTRL.TARGET b) == 0)))
  ∧ (∀ (s : State) (u : Fin 16) src v, s.admits chkRules src (CHK_CMD.addr u) (v ||| 1) → Completes (.chkReset u src v) s (fun t =>
    t.okAnswer ∧ t.flag (CHK_STAT.OPEN u) = false
    ∧ t.chk u = { crc := crcInit (s.app (CHK_CFG.ALG u)), bytes := 0, seq := BitVec.ofNat 32 (s.app (CHK_SEQ_INIT.SEQ_INIT u)), alive := 0 }))

/-- The descriptors of the stalls (R378 to R380, R385 to R387, R390): a fetched descriptor is taken into work, waits for
its barrier, or is not yet valid; a head outside the chain region halts the stall; the last acknowledged beat ends the
descriptor; a refused beat ends it with its status and halts the stall. A waiting request of the Auctioneer rises one
class (R398, R439). -/
def Obligations.DescriptorCommandsComplete : Prop :=
  (∀ (s : State) (k : Fin 32), s.live dACQ = true → s.dmaState k = dRUNNING → s.dmaCur k = none →
    let a := s.get (DMA_S_HEAD.HEAD k) * 64
    let c : DmaCur := { addr := a, w := s.dmaWords a, pos := 0, acked := 0, row := [], refused := none }
    (s.inChain k a = false → Completes (.descriptorFetch k) s (fun t => t.dmaState k = dHALTED ∧ t.get (DMA_S_STAT.LAST_STATUS k) = 4))
    ∧ (s.inChain k a = true → (∀ i, i < 8 → s.poisoned (a + 8 * i) = false) →
      (c.fld 0 0 1 = 0 → Completes (.descriptorFetch k) s (fun t =>
        t.dmaState k = (if s.flag (DMA_S_STAT.KICK_PEND k) = true then dRUNNING else dWAITDESC) ∧ t.flag (DMA_S_STAT.KICK_PEND k) = false))
      ∧ (c.fld 0 0 1 = 1 → (s.setCur k (some c)).stallDrain k = none → (s.setCur k (some c)).dmaBad k c = false →
        (c.fld 10 4 1 = 0 → Completes (.descriptorFetch k) s (fun t => t = s.setCur k (some c)))
        ∧ (c.fld 10 4 1 = 1 → s.flag (DMA_BAR_STAT.ERR c.bar) = false → Completes (.descriptorFetch k) s (fun t =>
          t.dmaCur k = some c ∧ t.dmaState k = (if s.flag (DMA_BAR_STAT.DONE c.bar) = true then dRUNNING else dWAITBAR))))))
  ∧ (∀ (s : State) (k : Fin 32) host c c', s.live dACQ = true → s.dmaMoving k = true → s.dmaCur k = some c → c.dstSpace ≠ spSTORE →
    let y := s.dmaBeats k true c.beats host
    y.dmaCur k = some c' → c'.total ≤ c'.pos → (∀ x ∈ y.spt.out, x.stall ≠ k.val) →
    Completes (.descriptorComplete k host) s (fun t => t.dmaCur k = none ∧ t.get (DMA_S_DONE.DONE k) = (y.get (DMA_S_DONE.DONE k) + 1) % 2 ^ 32
      ∧ (y.dmaState k = dSTOPPING ∨ c'.last = true → t.dmaState k = dSTOPPED ∧ t.get (DMA_S_STAT.LAST_STATUS k) = 0)))
  ∧ (∀ (s : State) (k : Fin 32) read beats (detail : BitVec 8) host c, s.live dACQ = true → s.dmaMoving k = true →
    let y := s.dmaBeats k true beats host
    y.dmaCur k = some c → c.pos < c.total →
    Completes (.beatRefused k read beats detail host) s (fun t => t.dmaState k = dHALTED ∧ t.dmaCur k = none
      ∧ t.get (DMA_S_STAT.LAST_STATUS k) = beatStatus read c (min 64 (c.rowDst - c.pos % c.rowDst)) ∧ t.get (DMA_S_STAT.DETAIL k) = detail.toNat))
  ∧ (∀ (s : State) (p : Fin 32) (x : Fin 64), Completes (.agePromote p x) s (fun t =>
    t.dma.wait.length = s.dma.wait.length ∧ ∀ (i : Nat) (r : ArbReq), s.dma.wait[i]? = some r → t.dma.wait[i]? = some
      (if r.path = p.val ∧ r.index = x.val ∧ 0 < r.cls ∧ (r.cls = 1 → p.val < 4 ∨ 12 ≤ p.val) then { r with cls := r.cls - 1 } else r)))

/-- The host port (R402 to R416): a trained link comes up with its width, its speed and its configuration; a link reset
resets the port but for its vendor and BAR4 size; a function-level reset keeps the link and resets the vectors; a
completion time-out ends the descriptor; a message leaves with its pending bit; accesses to BAR2 and BAR4 move their bytes
and no other byte. -/
def Obligations.HostPortCommandsComplete : Prop :=
  (∀ (s : State) (w : BitVec 6) (p : BitVec 3) b m f, s.dev ≠ powerOff → s.domOn dPCIE_H = true → s.hpt.train = true →
    Completes (.hostLinkUp w p b m f) s (fun t => t.flag HPT_LINK.UP = true ∧ t.get HPT_LINK.WIDTH = w.toNat ∧ t.get HPT_LINK.SPEED = p.toNat
      ∧ t.flag HPT_LINK.BME = b ∧ t.hpt.msixEn = m ∧ t.hpt.funcMask = f))
  ∧ (∀ (s : State) p, s.dev ≠ powerOff → s.domOn dPCIE_H = true → s.flag HPT_LINK.UP = true → Completes (.hostLinkReset p) s (fun t =>
    t.flag HPT_LINK.UP = false ∧ t.flag HPT_LINK.BME = false ∧ t.get HPT_LINK.VENDOR = s.get HPT_LINK.VENDOR ∧ t.get HPT_BAR4.SIZE = s.get HPT_BAR4.SIZE
    ∧ t.hpt.msixEn = false ∧ t.hpt.funcMask = false))
  ∧ (∀ (s : State) p, s.dev ≠ powerOff → s.domOn dPCIE_H = true → s.flag HPT_LINK.UP = true → Completes (.functionLevelReset p) s (fun t =>
    t.flag HPT_LINK.UP = true ∧ t.flag HPT_LINK.BME = false ∧ t.hpt.msixEn = false ∧ t.hpt.funcMask = false
    ∧ ∀ v : Fin 32, t.word (HPT_MSIX_CTRL.addr v) = resetWord (HPT_MSIX_CTRL.addr v)))
  ∧ (∀ (s : State) (k : Fin 32) beats host c0 c, s.live dACQ = true → s.dmaMoving k = true → s.dmaCur k = some c0 → c0.srcSpace = spHOST →
    (s.dmaBeats k true beats host).dmaCur k = some c → c.pos < c.total → Completes (.hostCompletionTimeout k beats host) s (fun t =>
      t.dmaState k = dHALTED ∧ t.dmaCur k = none ∧ t.get (DMA_S_STAT.LAST_STATUS k) = 1 ∧ t.get (DMA_S_STAT.DETAIL k) = 0x0F))
  ∧ (∀ (s : State) (v : Fin 32), s.hostLink = true → s.hpt.msixEn = true → s.hpt.funcMask = false → s.flag (HPT_VEC.PEND v) = true →
    s.flag (HPT_MSIX_CTRL.MASK v) = false → vget s.hpt.sent v = none → Completes (.msixMessage v) s (fun t =>
      t.flag (HPT_VEC.PEND v) = false ∧ vget t.hpt.sent v = some s.now ∧ ∀ u : Fin 32, u ≠ v → t.flag (HPT_VEC.PEND u) = s.flag (HPT_VEC.PEND u)))
  ∧ (∀ (s : State) a bytes rivals, s.hostLink = true →
    ((∀ i, i < bytes.length → s.bar2Err (a + i) false = none ∧ s.poisoned (a + i) = false) → Completes (.bar2Access a false bytes rivals) s (fun t =>
      t.resp = some ⟨0, (List.range bytes.length).map (fun i => s.sramByte (a + i)), 0⟩ ∧ t.sram = s.sram ∧ t.regs = s.regs))
    ∧ ((∀ x ∈ enabled bytes, s.bar2Err (a + x.1) true = none) → Completes (.bar2Access a true bytes rivals) s (fun t =>
      t.resp = some ⟨0, [], 0⟩ ∧ (∀ x ∈ enabled bytes, t.sramByte (a + x.1) = x.2)
      ∧ (∀ b, (∀ x ∈ enabled bytes, b ≠ a + x.1) → t.sramByte b = s.sramByte b) ∧ t.regs = s.regs)))
  ∧ (∀ (s : State) a bytes rivals, s.hostLink = true →
    let base := s.get HPT_BAR4.OFS * 2 ^ 28 + a
    ((∀ i, i < bytes.length → s.bar4Err (base + i) = none ∧ s.mem.ue.contains ((base + i) / 64) = false) →
      Completes (.bar4Access a false bytes rivals) s (fun t =>
        t.resp = some ⟨0, (List.range bytes.length).map (fun i => s.gddrByte (base + i)), 0⟩ ∧ t.gddr = s.gddr ∧ t.regs = s.regs))
    ∧ ((∀ x ∈ enabled bytes, s.bar4Err (base + x.1) = none) → Completes (.bar4Access a true bytes rivals) s (fun t =>
      t.resp = some ⟨0, [], 0⟩ ∧ (∀ x ∈ enabled bytes, t.gddrByte (base + x.1) = x.2)
      ∧ (∀ b, (∀ x ∈ enabled bytes, b ≠ base + x.1) → t.gddrByte b = s.gddrByte b) ∧ t.regs = s.regs)))

/-- The storage port (R417 to R426): a link comes up and starts its drive; a drive that identifies itself is READY or
UNSUPPORTED, one that fails a step FAILED; an outstanding Write completes with its bytes or its error; a time-out or a
failure leaves the drive FAILED; REINIT starts a drive anew; a flush is busy until it is done. -/
def Obligations.StorageCommandsComplete : Prop :=
  (∀ (s : State) (d : Fin 4) (w : BitVec 6) (p : BitVec 3), s.alive = true → s.domOn dPCIE_S = true → d.val < bifDrives (s.app SPT_CFG.BIF) →
    Completes (.driveLinkUp d w p) s (fun t => t.get (SPT_DRV_STAT.WIDTH d) = w.toNat ∧ t.get (SPT_DRV_STAT.SPEED d) = p.toNat
      ∧ t.pins.spPerstN.getLsbD d = true ∧ t.get (SPT_DRV_STAT.STATE d) = (if s.appFlag (SPT_DRV_CTRL.EN d) = true then vINIT else vLINK)))
  ∧ (∀ (s : State) (d : Fin 4) lba md nsze mdts mqes, s.alive = true → s.domOn dPCIE_S = true → s.get (SPT_DRV_STAT.STATE d) = vINIT →
    Completes (.driveBringup d false lba md nsze mdts mqes) s (fun t => t.get (SPT_DRV_STAT.STATE d) = vFAILED)
    ∧ Completes (.driveBringup d true lba md nsze mdts mqes) s (fun t => t.get (SPT_DRV_STAT.MDTS d) = mdts.toNat
      ∧ t.flag (SPT_DRV_STAT.LBA4K d) = (lba == 4096)
      ∧ t.get (SPT_DRV_STAT.STATE d) = (if (lba = 512 ∨ lba = 4096) ∧ md = false
          ∧ s.appPair (SPT_DRV_BASE_LO.addr d) + s.appPair (SPT_DRV_NLB_LO.addr d) ≤ nsze then vREADY else vUNSUPPORTED)))
  ∧ (∀ (s : State) (d : Fin 4) n (sct : BitVec 3) (sc : BitVec 8) (cid : BitVec 16) x, s.alive = true → s.storePumpAll.driveCmd d n = some x →
    (sct = 0 ∧ sc = 0 → Completes (.writeComplete d n sct sc cid) s (fun t =>
      t.getPair (SPT_DRV_BYTES_LO.addr d) = (s.getPair (SPT_DRV_BYTES_LO.addr d) + x.len) % 2 ^ 64))
    ∧ (¬ (sct = 0 ∧ sc = 0) → Completes (.writeComplete d n sct sc cid) s (fun t => t.get (SPT_DRV_ERR.CID d) = cid.toNat
      ∧ t.get (SPT_DRV_ERR.SCT d) = sct.toNat ∧ t.get (SPT_DRV_ERR.SC d) = sc.toNat ∧ t.get (SPT_DRV_CNT.ERRORS d) = min (s.get (SPT_DRV_CNT.ERRORS d) + 1) 65535)))
  ∧ (∀ (s : State) (d : Fin 4) n (cid : BitVec 16) x, s.alive = true → s.domOn dPCIE_S = true → s.storePumpAll.driveCmd d n = some x →
    Completes (.nvmeTimeout d n cid) s (fun t => t.get (SPT_DRV_STAT.STATE d) = vFAILED ∧ t.get (SPT_DRV_ERR.CID d) = cid.toNat
      ∧ t.get (SPT_DRV_CNT.TIMEOUTS d) = min (s.get (SPT_DRV_CNT.TIMEOUTS d) + 1) 65535))
  ∧ (∀ (s : State) (d : Fin 4) l, s.alive = true → s.domOn dPCIE_S = true → s.get (SPT_DRV_STAT.STATE d) ≠ vABSENT →
    Completes (.driveFail d l) s (fun t => t.get (SPT_DRV_STAT.STATE d) = vFAILED
      ∧ (l = true → t.get (SPT_DRV_STAT.WIDTH d) = 0 ∧ t.get (SPT_DRV_STAT.SPEED d) = 0)))
  ∧ (∀ (s : State) (mask : BitVec 4) src v, s.admits sptRules src SPT_CMD.addr (v ||| BitVec.ofNat 32 (mask.toNat * 16)) →
    Completes (.sptReinit mask src v) s (fun t => t.okAnswer ∧ ∀ d : Fin 4, mask.getLsbD d = true → s.appFlag (SPT_DRV_CTRL.EN d) = true →
      s.get (SPT_DRV_STAT.WIDTH d) ≠ 0 → t.get (SPT_DRV_STAT.STATE d) = vINIT))
  ∧ (∀ (s : State) src v, s.admits sptRules src SPT_CMD.addr (v ||| 1) → Completes (.sptFlush src v) s (fun t =>
    t.okAnswer ∧ t.flag SPT_STAT.FLUSH_BUSY = true))
  ∧ (∀ (s : State) e, s.alive = true → s.flag SPT_STAT.FLUSH_BUSY = true → Completes (.flushComplete e) s (fun t =>
    t.flag SPT_STAT.FLUSH_BUSY = false ∧ t.flag (if e = true then SPT_STAT.FLUSH_ERR else SPT_STAT.FLUSH_DONE) = true))

/-- The training of the GDDR6 memory (R442 to R445): temperatures are taken and a channel that drifted, that is due or that
TRAIN names waits for its retraining; steps follow each other, a failed one is retried, and the third failure fails the
controller; full training makes the memory READY at its rate; FREQ_GO retunes at once or waits for the step under way. -/
def Obligations.MemoryTrainingCommandsComplete : Prop :=
  let waits (ch : Nat) (t : State) : Prop := ch ∈ t.mem.queue ∨ ∃ c, t.mem.cur = some c ∧ c.ch = ch
  let retuned (t : State) : Prop := t.memState = gFREQ ∧ t.flag (CLK_PLL_STAT.LOCKED 2) = false ∧ t.get MEM_USABLE.USABLE = 0
    ∧ t.flag MEM_STAT.FREQ_DEFERRED = false ∧ t.mem.cur = none ∧ t.mem.queue = []
  (∀ (s : State) (c : Fin 8) (tA tB : BitVec 8), s.alive = true → s.domOn (memDomOf c) = true → c.val < s.memCtrls →
    Completes (.tempRead c tA tB) s (fun t => t.get (MEM_C_STAT.TEMP_A c) = tA.toNat ∧ t.get (MEM_C_STAT.TEMP_B c) = tB.toNat
      ∧ (s.inRun = true → s.memState = gREADY → s.app MEM_TRAIN.TEMP_DELTA ≤ ((tA.toNat : Int) - vget s.mem.lastTemp (Fin.ofNat _ (2 * c.val))).natAbs →
        waits (2 * c.val) t)))
  ∧ (∀ (s : State) (ch : Fin 16), s.inRun = true → s.memState = gREADY → ch.val < s.memNc → Completes (.retrainInterval ch) s (fun t =>
    waits ch t ∧ (s.mem.cur = none → t.flag MEM_STAT.TRAIN_BUSY = true)))
  ∧ (∀ (s : State) src v, s.admits memRules src MEM_CMD.addr (v ||| 2) → (v ||| 2).toNat.testBit 0 = false → s.inRun = true →
    Completes (.memTrain src v) s (fun t => t.okAnswer ∧ ∀ ch, ch < s.memNc → waits ch t))
  ∧ (∀ (s : State) c, s.memReady = true → s.mem.cur = some c → c.fails = 0 →
    (s.flag MEM_STAT.FREQ_DEFERRED = false → c.step < 2 → Completes (.trainStepDone true) s (fun t => t.mem.cur = some ⟨c.ch, c.step + 1, 0⟩))
    ∧ (s.flag MEM_STAT.FREQ_DEFERRED = false → 2 ≤ c.step → Completes (.trainStepDone true) s (fun t =>
      t.get (MEM_C_CNT.RETRAINS (c.ch / 2)) = min (s.get (MEM_C_CNT.RETRAINS (c.ch / 2)) + 1) 65535
      ∧ vget t.mem.lastTemp (Fin.ofNat _ c.ch) = s.chTemp c.ch ∧ t.mem.cur = s.mem.queue.head?.map (fun ch => ⟨ch, 0, 0⟩)))
    ∧ (s.flag MEM_STAT.FREQ_DEFERRED = true → Completes (.trainStepDone true) s retuned)
    ∧ (s.flag MEM_STAT.FREQ_DEFERRED = false → Completes (.trainStepDone false) s (fun t =>
      t.flag (MEM_C_STAT.TRAIN_FAIL (c.ch / 2)) = true ∧ t.mem.cur = some { c with fails := 1 })))
  ∧ (∀ (s : State) c, s.memReady = true → s.mem.cur = some c → c.fails ≠ 0 →
    (s.flag MEM_STAT.FREQ_DEFERRED = false → c.step < 2 → Completes (.trainRetry true) s (fun t => t.mem.cur = some ⟨c.ch, c.step + 1, 0⟩))
    ∧ (c.fails < 2 → Completes (.trainRetry false) s (fun t => t.mem.cur = some { c with fails := c.fails + 1 }))
    ∧ (2 ≤ c.fails → Completes (.trainRetry false) s (fun t => t.memState = gFAILED ∧ t.get MEM_USABLE.USABLE = 0 ∧ t.mem.cur = none)))
  ∧ (∀ (s : State), s.alive = true → (s.memState = gTRAINING ∨ (s.memState = gFREQ ∧ s.flag (CLK_PLL_STAT.LOCKED 2) = true)) →
    Completes (.trainingDone true) s (fun t => t.memState = gREADY ∧ t.get MEM_FREQ.RATE_NOW = s.app MEM_FREQ.RATE ∧ t.get MEM_USABLE.USABLE = s.usableUnits)
    ∧ Completes (.trainingDone false) s (fun t => t.memState = gFAILED ∧ t.get MEM_USABLE.USABLE = 0))
  ∧ (∀ (s : State) src v, s.admits memRules src MEM_CMD.addr (v ||| 1) → (v ||| 1).toNat.testBit 1 = false →
    let y := s.landed MEM_CMD.addr (v ||| 1)
    y.freqConflict = false → (y.admitWith y.app { y.caps with memRate := y.memBudget (y.get MEM_FREQ.RATE) }).1 = none →
    Completes (.freqGo src v) s (fun t => t.okAnswer ∧
      ((∃ c, s.mem.cur = some c ∧ c.fails = 0) → t.flag MEM_STAT.FREQ_DEFERRED = true)
      ∧ ((∀ c, s.mem.cur = some c → c.fails ≠ 0) → retuned t)))

/-- The upkeep of the GDDR6 memory (R440, R447 to R451): refreshes are postponed or done; activations are counted and a row
at its threshold throttles its requester; a throttle ends; the patrol counts corrected and uncorrectable words; the copy of
a due row ends in its spare. -/
def Obligations.MemoryUpkeepCommandsComplete : Prop :=
  (∀ (s : State) (ch bank : Fin 16) c0, s.memReady = true → ch.val < s.memNc → Completes (.refresh ch bank c0) s (fun t =>
    t.mem.postponed = (if c0 = true ∧ (s.mem.postponed.filter (fun x => x.1 == ch.val)).length < 8 then s.mem.postponed ++ [(ch.val, bank.val)]
      else s.mem.postponed.filter (fun x => ! (x.1 == ch.val && x.2 == bank.val)))))
  ∧ (∀ (s : State) (ch bank : Fin 16) (row : BitVec 15) (req : BitVec 6), s.memReady = true → ch.val < s.memNc →
    let r : MemRow := ⟨ch, bank, row.toNat⟩
    let acts := if s.now.toNat * 1000 / (32 * 2 ^ 40) = s.mem.window then s.mem.acts else []
    let n := ((acts.find? (fun x => x.1 == r)).map (·.2)).getD 0 + 1
    (n < s.app MEM_RD_CFG.THRESH → Completes (.rowActivate ch bank row req) s (fun t => t.mem.acts.head? = some (r, n) ∧ t.regs = s.regs))
    ∧ (s.app MEM_RD_CFG.THRESH ≤ n → Completes (.rowActivate ch bank row req) s (fun t => (ch.val, bank.val, req.toNat) ∈ t.mem.throttle
      ∧ t.flag MEM_STAT.ROW_HOT = true ∧ t.word MEM_RD_STAT.addr = BitVec.ofNat 32 (req.toNat * 2 ^ 26 + r.word)
      ∧ (∀ x ∈ t.mem.acts, x.1 ≠ r))))
  ∧ (∀ (s : State) (ch bank : Fin 16) (req : BitVec 6), Completes (.throttleEnd ch bank req) s (fun t =>
    ∀ x, x ∈ t.mem.throttle ↔ x ∈ s.mem.throttle ∧ x ≠ (ch.val, bank.val, req.toNat)))
  ∧ (∀ (s : State) w, s.memReady = true → w * 64 < s.usableBytes →
    (s.mem.ue.contains w = false → Completes (.patrolScrub w 0) s (fun t => t = s))
    ∧ (s.mem.ue.contains w = false → Completes (.patrolScrub w 1) s (fun t => t.get MEM_CNT.CE_COUNT = min (s.get MEM_CNT.CE_COUNT + 1) 65535))
    ∧ Completes (.patrolScrub w 2) s (fun t => w ∈ t.mem.ue ∧ t.flag MEM_STAT.UE = true ∧ t.get MEM_CNT.UE_COUNT = min (s.get MEM_CNT.UE_COUNT + 1) 65535
      ∧ t.word MEM_ERR_ROW.addr = BitVec.ofNat 32 (s.memPlace w).word))
  ∧ (∀ (s : State) (ch bank : Fin 16) (row : BitVec 15), s.memReady = true → s.mem.due.contains ⟨ch, bank, row.toNat⟩ = true →
    Completes (.rowSpareDone ch bank row) s (fun t => t.mem.due = s.mem.due.erase ⟨ch, bank, row.toNat⟩ ∧ t.flag MEM_STAT.SPARED = true
      ∧ t.get (MEM_C_STAT.SPARES (ch / 2)) = min (s.get (MEM_C_STAT.SPARES (ch / 2)) + 1) 1023))

/-- The monitor ADCs, calibration, diagnosis, PWM outputs and SPI masters (R455 to R465, R473, R475): a slot converts the
input of its position, an injected slot the inputs of AUX_INJ and stamps them, a calibration slot adds a raw code to its
sum; an injection is requested or merged; a calibration point runs and leaves its mean, and CAL_APPLY forms gain and offset;
a diagnosis starts, ends or is aborted; PWM periods and SPI frames start and end. -/
def Obligations.AuxCommandsComplete : Prop :=
  (∀ (s : State) m (r0 r1 : BitVec 16), s.live dAUX = true → s.aux.inj = 0 → (m = true → s.aux.cal = none ∧ s.aux.diag = none) → s.seqEn 1 = true →
    let e := 16 + vget s.aux.pos 1
    let x := s.convert 1 (s.app (AUX_SLOT.INPUT e)) r1.toNat
    Completes (.adcSlot m r0 r1) s (fun t => t.get (AUX_MON_RES.CODE e) = x.1 ∧ t.flag (AUX_MON_RES.OVR e) = x.2 ∧ t.flag (AUX_MON_RES.NEW e) = true
      ∧ t.flag (AUX_MON_RES.SUSPECT e) = s.suspectNow 1 ∧ vget t.aux.pos 1 = (vget s.aux.pos 1 + 1) % (s.app (AUX_SEQ.LEN_M1 1) + 1)))
  ∧ (∀ (s : State) m (r0 r1 : BitVec 16), s.live dAUX = true → s.aux.inj ≠ 0 → Completes (.adcSlot m r0 r1) s (fun t =>
    t.aux.inj = 0 ∧ t.flag AUX_STAT.INJ_BUSY = false
    ∧ (s.aux.inj.testBit 0 = true → t.get (AUX_INJ_RES.CODE 0) = (s.convert 0 (s.app AUX_INJ.INPUT0) r0.toNat).1 ∧ t.getStamp AUX_INJ_TS_A.addr = s.now)
    ∧ (s.aux.inj.testBit 1 = true → t.get (AUX_INJ_RES.CODE 1) = (s.convert 1 (s.app AUX_INJ.INPUT1) r1.toNat).1 ∧ t.getStamp AUX_INJ_TS_B.addr = s.now)))
  ∧ (∀ (s : State) c (r0 r1 : BitVec 16), s.live dAUX = true → s.aux.inj = 0 → s.aux.cal = some c → c.left ≠ 0 →
    let raw := if c.adc % 2 = 0 then r0.toNat else r1.toNat
    (s.convert (Fin.ofNat 2 c.adc) c.input raw).2 = false → s.suspectNow (Fin.ofNat 2 c.adc) = false →
    Completes (.adcSlot true r0 r1) s (fun t => t.aux.cal = some { c with left := c.left - 1, taken := c.taken + 1, sum := c.sum + raw }))
  ∧ (∀ (s : State) src v, s.admits auxRules src AUX_CMD.addr (v ||| 1) → (v ||| 1).toNat.testBit 1 = false → (v ||| 1).toNat.testBit 2 = false →
    let m := s.app AUX_INJ.ADC_MASK
    Completes (.inj src v) s (fun t => t.okAnswer ∧ t.aux.inj = (if s.aux.inj &&& m = 0 then s.aux.inj ||| m else s.aux.inj)
      ∧ (m ≠ 0 → s.aux.inj &&& m = 0 → t.flag AUX_STAT.INJ_BUSY = true)
      ∧ (s.aux.inj &&& m ≠ 0 → t.get AUX_INJ_CNT.MERGED = min (s.get AUX_INJ_CNT.MERGED + 1) 65535)))
  ∧ (∀ (s : State) src v, s.admits auxRules src AUX_CMD.addr (v ||| 2) → (v ||| 2).toNat.testBit 0 = false → (v ||| 2).toNat.testBit 2 = false →
    calIndexOk (s.get AUX_CAL_CTRL.ADC) (s.get AUX_CAL_CTRL.INPUT) = true → Completes (.calGo src v) s (fun t => t.okAnswer ∧ t.flag AUX_STAT.CAL_BUSY = true
      ∧ t.flag (if s.flag AUX_CAL_CTRL.POINT then AUX_STAT.FOK else AUX_STAT.ZOK) = false
      ∧ t.aux.cal = some ⟨src, s.get AUX_CAL_CTRL.ADC, s.get AUX_CAL_CTRL.INPUT, s.flag AUX_CAL_CTRL.POINT, 2 ^ s.get AUX_CAL_CTRL.AVG, 0, 0⟩))
  ∧ (∀ (s : State) c, s.live dAUX = true → s.aux.cal = some c → c.left = 0 → Completes .calPointDone s (fun t =>
    t.get (if c.full then AUX_CAL_MEAS.F else AUX_CAL_MEAS.Z) = c.sum / max c.taken 1 % 65536
    ∧ t.flag (if c.full then AUX_STAT.FOK else AUX_STAT.ZOK) = true ∧ t.flag AUX_STAT.CAL_BUSY = false ∧ t.aux.cal = none
    ∧ (if c.full then t.aux.fIdx else t.aux.zIdx) = calIndex c.adc c.input))
  ∧ (∀ (s : State) src v, s.admits auxRules src AUX_CMD.addr (v ||| 4) → (v ||| 4).toNat.testBit 0 = false → (v ||| 4).toNat.testBit 1 = false →
    s.flag AUX_STAT.ZOK = true → s.flag AUX_STAT.FOK = true → s.aux.zIdx = s.aux.fIdx →
    let z := s.get AUX_CAL_MEAS.Z
    let f := s.get AUX_CAL_MEAS.F
    let g : Int := ((s.app AUX_CAL_TGT.FT : Int) - s.app AUX_CAL_TGT.ZT) * 65536 / ((f : Int) - z)
    z < f → 0x8000 ≤ g → g ≤ 0x20000 → Completes (.calApply src v) s (fun t => t.okAnswer ∧ t.get (AUX_CAL_GAIN.GAIN s.aux.zIdx) = g.toNat
      ∧ t.get (AUX_CAL_OFS.OFS s.aux.zIdx) = ofSigned 18 ((s.app AUX_CAL_TGT.ZT : Int) - z * g / 65536)
      ∧ t.flag AUX_STAT.ZOK = false ∧ t.flag AUX_STAT.FOK = false ∧ t.get AUX_CAL_COUNT.COUNT = min (s.get AUX_CAL_COUNT.COUNT + 1) (2 ^ 32 - 1)))
  ∧ (∀ (s : State) src v, let w : Word := v ||| BitVec.ofNat 32 (2 ^ 31)
    s.admits auxRules src AUX_DIAG_CTRL.addr w → w.toNat.testBit 30 = false →
    let m := s.app AUX_DIAG_CTRL.ADC_MASK
    (s.appFlag AUX_DIAG_CTRL.PATH = true → ∀ a, a < 2 → m.testBit a = true → adcReaches a (s.app AUX_DIAG_CTRL.INPUT) = true) →
    Completes (.diagGo src v) s (fun t => t.okAnswer ∧ t.flag AUX_STAT.DIAG_BUSY = true ∧ t.aux.diag.map (·.mask) = some m
      ∧ t.aux.diag.map (·.step) = some (if m = 0 then 5 else 0) ∧ t.pins.testDac = if s.appFlag AUX_TDAC.OUT_EN then some 0 else none))
  ∧ (∀ (s : State) src v, let w : Word := v ||| BitVec.ofNat 32 (2 ^ 30)
    s.admits auxRules src AUX_DIAG_CTRL.addr w → w.toNat.testBit 31 = false → s.aux.diag.isSome = true →
    Completes (.diagAbort src v) s (fun t => t.okAnswer ∧ t.flag AUX_STAT.DIAG_BUSY = false ∧ t.aux.diag = none
      ∧ t.pins.testDac = if s.appFlag AUX_TDAC.OUT_EN then some (BitVec.ofNat 12 (s.app AUX_TDAC.VAL)) else none))
  ∧ (∀ (s : State) d (a : Fin 2), s.live dAUX = true → s.aux.diag = some d → 5 ≤ d.step → d.mask.testBit a.val = true → Completes .diagDone s (fun t =>
    t.get (AUX_DIAG_RES.MAXDEV a) = min (vget d.dev a) 65535 ∧ t.flag (AUX_DIAG_RES.PASS a) = decide (vget d.dev a ≤ s.app AUX_DIAG_TOL.DTOL)
    ∧ t.flag (AUX_DIAG_RES.DONE a) = true ∧ t.flag AUX_STAT.DIAG_BUSY = false ∧ t.aux.diag = none))
  ∧ (∀ (s : State) (p : Fin 4), s.live dAUX = true →
    Completes (.pwmPeriod p) s (fun t => vget t.aux.duty p = vget s.aux.next p
      ∧ vget t.pins.pwm p = some (decide (0 < vget s.aux.next p * s.app (AUX_PWM.PERIOD p) / 65536) != s.appFlag (AUX_PWM.POL p)))
    ∧ Completes (.pwmActiveEnd p) s (fun t => vget t.pins.pwm p = some (s.appFlag (AUX_PWM.POL p))))
  ∧ (∀ (s : State) (m : Fin 8) src v, s.admits auxRules src (AUX_SPI_CMD.addr m) (v ||| 1) → s.appFlag (AUX_SPI_CFG.EN m) = true →
    Completes (.spiGo m src v) s (fun t => t.okAnswer ∧ t.flag (AUX_SPI_STAT.BUSY m) = true ∧ t.pins.spiCsn.toNat.testBit m.val = false))
  ∧ (∀ (s : State) (m : Fin 8) rx, s.live dAUX = true → s.flag (AUX_SPI_STAT.BUSY m) = true → Completes (.spiDone m rx) s (fun t =>
    t.word (AUX_SPI_RX.addr m) = BitVec.ofNat 32 (rx.toNat % 2 ^ (s.app (AUX_SPI_CFG.LEN_M1 m) + 1)) ∧ t.flag (AUX_SPI_STAT.DONE m) = true
    ∧ t.flag (AUX_SPI_STAT.BUSY m) = vget s.aux.spiWait m ∧ t.pins.spiCsn.toNat.testBit m.val = ! vget s.aux.spiWait m))

/-- The servo loops and the stepped-span sequencer (R467 to R484): a computation of a loop takes the mean of its usable
results or holds, and after HOLD_MAX holds faults to SAFE; CLR_FAULT returns to MODE; the sequencer waits, starts a step,
opens the gate, ends a step in time or late, and stops by each of its causes. -/
def Obligations.ServoCommandsComplete : Prop :=
  let computes (s : State) (l : Fin 4) : Prop := s.live dAUX = true ∧ s.app (SRV_LOOP_CFG.DIV_M1 l) < (s.loop l).results
    ∧ (s.get (SRV_LOOP_STAT.STATE l) = lMANUAL ∨ s.get (SRV_LOOP_STAT.STATE l) = lAUTO)
  let idle (c : Nat) (t : State) : Prop := t.ssState = ssIDLE ∧ t.get SRV_SS_STAT.STOP_CAUSE = c ∧ t.srv.flat = none
  let settles (s : State) (k : Nat) (t : State) : Prop := t.ssState = ssSETTLE ∧ t.get SRV_SS_STAT.STEP = k ∧ t.srv.span.start = s.now ∧ t.srv.span.opened = none
  (∀ (s : State) (l : Fin 4), computes s l → (s.loop l).usable ≠ 0 →
    let pv : Int := ((s.loop l).sum / (s.loop l).usable : Nat)
    let e : Int := if s.appFlag (SRV_LOOP_CFG.INV l) then pv - s.loopSp l else s.loopSp l - pv
    Completes (.loopCompute l) s (fun t => t.get (SRV_LOOP_ERR.ERR l) = ofSigned 17 e ∧ (t.loop l).pvPrev = some pv ∧ (t.loop l).held = 0
      ∧ (t.loop l).results = 0 ∧ (t.loop l).usable = 0 ∧ (t.loop l).sum = 0
      ∧ (s.get (SRV_LOOP_STAT.STATE l) = lMANUAL → s.app (SRV_LOOP_SLEW.SLEW l) = 0 → t.get (SRV_LOOP_OUT.OUT l) = s.app (SRV_LOOP_SP.MAN l))))
  ∧ (∀ (s : State) (l : Fin 4), computes s l → (s.loop l).usable = 0 → Completes (.loopCompute l) s (fun t => t.flag (SRV_LOOP_STAT.HELD l) = true
      ∧ t.get (SRV_LOOP_CNT.HOLDS l) = min (s.get (SRV_LOOP_CNT.HOLDS l) + 1) 65535 ∧ (t.loop l).results = 0
      ∧ ((s.loop l).held + 1 < s.app (SRV_LOOP_SLEW.HOLD_MAX l) → (t.loop l).held = (s.loop l).held + 1 ∧ t.get (SRV_LOOP_STAT.STATE l) = s.get (SRV_LOOP_STAT.STATE l))
      ∧ (s.app (SRV_LOOP_SLEW.HOLD_MAX l) ≤ (s.loop l).held + 1 → t.get (SRV_LOOP_STAT.STATE l) = lFAULT ∧ t.flag (SRV_LOOP_STAT.SETTLED l) = false
        ∧ t.get (SRV_LOOP_OUT.OUT l) = s.safeOf (s.app (SRV_LOOP_CFG.OUT_SEL l)))))
  ∧ (∀ (s : State) (l : Fin 4) src v, s.admits srvRules src (SRV_LOOP_CMD.addr l) (v ||| 1) → s.get (SRV_LOOP_STAT.STATE l) = lFAULT →
    Completes (.clrFault l src v) s (fun t => t.okAnswer ∧ t.get (SRV_LOOP_STAT.STATE l) = s.app (SRV_LOOP_CFG.MODE l) ∧ (t.loop l).pvPrev = none
      ∧ (t.loop l).i = q12 (s.safeOf (s.app (SRV_LOOP_CFG.OUT_SEL l))) - (s.loop l).terms))
  ∧ (∀ (s : State) src v, s.admits srvRules src SRV_SS_CMD.addr (v ||| 1) → (v ||| 1).toNat.testBit 1 = false → (v ||| 1).toNat.testBit 2 = false →
    s.appFlag SRV_SS_CTRL.EN = true →
    let late := s.appFlag SRV_SS_CTRL.SRC = true ∧ (s.appStamp SRV_SS_TIME.addr).toNat < s.now.toNat
    (¬ late → Completes (.ssGo src v) s (fun t => t.okAnswer ∧ t.ssState = ssWAIT ∧ t.get SRV_SS_STAT.STOP_CAUSE = 0 ∧ t.get SRV_SS_STAT.SWEEP = 0
      ∧ t.get SRV_SS_STAT.STEP = s.app SRV_SS_CTRL.FIRST))
    ∧ (late → Completes (.ssGo src v) s (fun t => t.okAnswer ∧ t.flag SRV_SS_STAT.TLATE = true ∧ settles s (s.app SRV_SS_CTRL.FIRST) t)))
  ∧ (∀ (s : State) src v, s.admits srvRules src SRV_SS_CMD.addr (v ||| 2) → (v ||| 2).toNat.testBit 0 = false → (v ||| 2).toNat.testBit 2 = false →
    (s.ssState = ssWAIT → Completes (.ssStop src v) s (fun t => t.okAnswer ∧ idle 2 t))
    ∧ (s.ssState ≠ ssWAIT → s.ssState ≠ ssIDLE → Completes (.ssStop src v) s (fun t => t.okAnswer ∧ t.ssState = s.ssState ∧ t.srv.span.stop = true)))
  ∧ (∀ (s : State) src v, s.admits srvRules src SRV_SS_CMD.addr (v ||| 4) → (v ||| 4).toNat.testBit 0 = false → (v ||| 4).toNat.testBit 1 = false →
    s.ssState ≠ ssIDLE → Completes (.ssAbort src v) s (fun t => t.okAnswer ∧ idle 3 t))
  ∧ (∀ (s : State), s.live dAUX = true → s.ssState = ssWAIT → Completes .stepStart s (settles s (s.app SRV_SS_CTRL.FIRST)))
  ∧ (∀ (s : State), s.live dAUX = true → s.ssState = ssSETTLE → s.srv.span.frames = 0 → s.appFlag SRV_GATE.FORCE = false →
    (∀ l, l < 4 → s.appFlag (SRV_LOOP_CFG.GATE_EN l) = true → s.flag (SRV_LOOP_STAT.SETTLED l) = true) →
    Completes .gateOpen s (fun t => t.ssState = ssOPEN ∧ t.srv.span.opened = some s.now ∧ t.flag SRV_GATE_STAT.OPEN = true))
  ∧ (∀ (s : State) late, s.live dAUX = true → s.ssState = (if late then ssSETTLE else ssOPEN) →
    let x := s.srv.span
    let k := s.get SRV_SS_STAT.STEP
    let n := s.get SRV_SS_STAT.SWEEP + 1
    let lateStop := late = true ∧ x.onLate = true
    let ends (t : State) : Prop := t.get SRV_SS_LWR.LWR = (s.get SRV_SS_LWR.LWR + 1) % 2 ^ 32
      ∧ (late = true → t.flag SRV_SS_STAT.LATE = true)
      ∧ (x.stop = true → idle 2 t)
      ∧ (x.stop = false → lateStop → idle 4 t)
      ∧ (x.stop = false → ¬ lateStop → k = x.last → x.sweeps ≠ 0 → x.sweeps = n → idle 1 t)
      ∧ (x.stop = false → ¬ lateStop → k = x.last → (x.sweeps = 0 ∨ x.sweeps ≠ n) → settles s (s.app SRV_SS_CTRL.FIRST) t)
      ∧ (x.stop = false → ¬ lateStop → k ≠ x.last → settles s ((k + 1) % 16) t)
    (late = false → Completes .stepEnd s ends) ∧ (late = true → Completes .stepLate s ends))

/-- The ports and beacons of the Constellation (R486 to R496, R505, R506): a port comes up, or stays down when its delay is
too long; port 0 of a member brings it its ID; a port goes down, a ring breaks; resends are counted; beacons go out with the
reply to the last, and a beacon that comes in slews the Almanac. -/
def Obligations.ConstellationLinkCommandsComplete : Prop :=
  (∀ (s : State) (p : Fin 4) delay peer count c healed, s.alive = true → s.flag (CST_PORT_CTRL.EN p) = true →
    (s.get (CST_PORT_STAT.STATE p) = 1 ∨ s.get (CST_PORT_STAT.STATE p) = 2) →
    (2000000 < delay → Completes (.portUp p delay peer count c healed) s (fun t => t.get (CST_PORT_STAT.STATE p) = 1 ∧ t.get (CST_PORT_STAT.CAUSE p) = 1))
    ∧ (delay ≤ 2000000 → p ≠ 0 → Completes (.portUp p delay peer count c healed) s (fun t => t.get (CST_PORT_STAT.STATE p) = 3
      ∧ t.get (CST_PORT_STAT.CAUSE p) = 0 ∧ t.get (CST_PORT_DELAY.DELAY p) = delay))
    ∧ (delay ≤ 2000000 → p = 0 → s.cstOn = true → s.cstRoot = false → s.flag CST_NODE.VALID = false → ∀ q,
      (∀ i h, s.cstIdFrom q = some (i, h) → Completes (.portUp p delay (some q) count c false) s (fun t => t.flag CST_NODE.VALID = true
        ∧ t.get CST_NODE.ID = i % 2 ^ 14 ∧ t.get CST_NODE.HOPS = h % 2 ^ 6 ∧ t.get (CST_PORT_STAT.STATE p) = 3))
      ∧ (s.cstIdFrom q = none → Completes (.portUp p delay (some q) count c false) s (fun t => t.flag CST_STAT.ID_RANGE = true
        ∧ t.get (CST_PORT_STAT.STATE p) = 1))))
  ∧ (∀ (s : State) (p : Fin 4) cause members, s.alive = true → (s.get (CST_PORT_STAT.STATE p) = 2 ∨ s.get (CST_PORT_STAT.STATE p) = 3) →
    Completes (.portDown p cause none members) s (fun t => t.get (CST_PORT_STAT.STATE p) = 1 ∧ t.get (CST_PORT_STAT.CAUSE p) = cause.toNat
      ∧ t.get (CST_PORT_CNT.DOWNS p) = min (s.get (CST_PORT_CNT.DOWNS p) + 1) 65535))
  ∧ (∀ (s : State) p cause j members, s.cstValid = true →
    (s.ring = true → s.cst.ringBroken = none → Completes (.portDown p cause (some j) members) s (fun t => t.cst.ringBroken = some j
      ∧ t.flag CST_STAT.RING_BROKEN = true))
    ∧ (s.cstRoot = true → Completes (.portDown p cause (some j) members) s (fun t => t.cst.members = members)))
  ∧ (∀ (s : State) (p : Fin 4), s.alive = true → s.portUp p = true → Completes (.frameResend p) s (fun t =>
    t.get (CST_PORT_CNT.RESENDS p) = min (s.get (CST_PORT_CNT.RESENDS p) + 1) 65535 ∧ t.flag CST_STAT.RESENT = true))
  ∧ (∀ (s : State) (p : Fin 4), s.cstValid = true → s.childPorts.contains p.val = true →
    Completes .beaconSend s (fun t => vget t.cst.beacon p = some ⟨s.now, s.tq, vget s.cst.reply p⟩ ∧ vget t.cst.reply p = none)
    ∧ ∀ x, Completes (.beaconReply p x) s (fun t => vget t.cst.reply p = some x))
  ∧ (∀ (s : State) (p : Fin 4) (tTx : Stamp) tq (tRx : Stamp) c, s.cstValid = true → s.parentPort = some p.val → s.portUp p = true →
    let raw : Int := (tRx.toNat : Int) - tTx.toNat
    Completes (.beaconReceive p tTx tq tRx c) s (fun t => t.get (CST_PORT_DELAY.DELAY p) = c % 2 ^ 21
      ∧ (s.almSrc = 3 → t.cst.stepped = true)
      ∧ (s.almSrc = 3 → s.cst.stepped = true → s.dev ≠ load →
        t.alm.slewLeft = -(raw - psToStamp (c + toSigned 16 (s.get (CST_PORT_CTRL.ASYM p)))) * 2 ^ 24)))

/-- The global operations of the Constellation (R498 to R503): a broadcast is held or overflows and the oldest is removed;
arrivals are collected and the barrier released; a snapshot record is written; an apply is prepared, judged, committed and
aborted; CST_OP_CMD starts each operation; an operation that lasts too long ends with ERR_TIMEOUT. -/
def Obligations.ConstellationOperationCommandsComplete : Prop :=
  let ended (k code : Nat) (t : State) : Prop := t.opRuns k = false ∧ t.flag (CST_OP_STAT.DONE k) = true ∧ t.get (CST_OP_STAT.CODE k) = code
  let starts (s : State) src (w : Word) (k : Nat) : Prop := s.admits cstRules src CST_OP_CMD.addr w ∧ opsAsked w = [k] ∧ w.toNat.testBit 6 = false
    ∧ s.cstValid = true ∧ s.flag CST_STAT.SIZE_MISMATCH = false
  let at_ (s : State) (w : Word) : Stamp := if w.toNat.testBit 8 then s.appStamp CST_TIME.addr else s.cstInstant
  (∀ (s : State) sender data, s.cstValid = true → Completes (.broadcastDeliver sender data) s (fun t =>
    (s.cst.rx.length < 16 → t.cst.rx = s.cst.rx ++ [(sender.toNat, data.toList)] ∧ t.get CST_BC_STAT.COUNT = s.cst.rx.length + 1)
    ∧ (16 ≤ s.cst.rx.length → t.cst.rx = s.cst.rx ∧ t.flag CST_BC_STAT.OVF = true)))
  ∧ (∀ (s : State) (p : Fin 4), s.cstValid = true → s.childPorts.contains p.val = true →
    Completes (.arrivalReport p) s (fun t => ∀ q, q ∈ t.cst.childArrived ↔ q = p.val ∨ q ∈ s.cst.childArrived))
  ∧ (∀ (s : State) x lost, s.cstValid = true →
    let done (at_ : Stamp) (l : Bool) (t : State) : Prop := t.getStamp CST_BAR_TS.addr = at_ ∧ ended opBarrier (if l then Err.sequence.code else 0) t
      ∧ t.cst.arrived = false ∧ t.cst.childArrived = [] ∧ t.cst.reported = false
    (s.cstRoot = false → Completes (.barrierRelease x lost) s (done x lost))
    ∧ (s.cstRoot = true → s.cst.barLost = true → Completes (.barrierRelease x lost) s (done s.now true))
    ∧ (s.cstRoot = true → s.cst.barLost = false → s.barComplete = true → Completes (.barrierRelease x lost) s (done s.now false)))
  ∧ (∀ (s : State) req t0 no late, s.cstValid = true → (if s.cstRoot then s.cst.snap else req) = some (t0, no, late) → t0.toNat ≤ s.now.toNat →
    let a := 0x06F00000 + s.app CST_SNAP_BASE.BASE * 64 + no.toNat % 16 * 64
    Completes (.snapshotCapture req) s (fun t => ended opSnap (if s.cstRoot && s.cst.snapLost then Err.sequence.code else 0) t ∧ t.cst.snap = none
      ∧ ∀ (k : Nat) b, (s.snapRecord t0 no late)[k]? = some b → t.sramByte (a + k) = b))
  ∧ (∀ (s : State) groups, s.cstValid = true → s.cstRoot = false → s.opRuns opApply = false →
    (s.get SYS_UPDATE_STAT.STATE ≠ 0 → Completes (.applyPrepare groups) s (fun t => t.opRuns opApply = true
      ∧ t.cst.apply.bind (·.own) = some Err.busy.code ∧ t.cst.apply.map (·.groups) = some groups))
    ∧ (s.get SYS_UPDATE_STAT.STATE = 0 → Completes (.applyPrepare groups) s (fun t => t.opRuns opApply = true ∧ t.get SYS_UPDATE_STAT.STATE = 2
      ∧ t.sys.updCst = true ∧ t.sys.updMask = groups ∧ (t.cst.apply.bind (·.own)).isSome = true)))
  ∧ (∀ (s : State) x (p : Fin 4) node code, s.cst.apply = some x → s.cstValid = true → s.childPorts.contains p.val = true → x.decided = false →
    let l := (p.val, node.toNat, code.toNat) :: x.from_.filter (fun y => y.1 != p.val)
    ((s.cstRoot = false ∨ x.own = none) → Completes (.verdictReport p node code) s (fun t => t.cst.apply.map (·.from_) = some l))
    ∧ (s.cstRoot = true → x.own = some 0 → (∀ q ∈ s.childPorts, ∃ y ∈ l, y.1 = q) → (∀ y ∈ l, y.2.2 = 0) →
      Completes (.verdictReport p node code) s (fun t => t.cst.apply = some { x with from_ := l, decided := true, commit := some s.cstInstant })))
  ∧ (∀ (s : State) x t0, s.cst.apply = some x → s.cstOn = true → s.cstRoot = false → x.commit = none →
    (s.now.toNat < t0.toNat → Completes (.applyCommit (.commit t0)) s (fun t => t.cst.apply = some { x with commit := some t0 }))
    ∧ (t0.toNat ≤ s.now.toNat → Completes (.applyCommit (.commit t0)) s (fun t => ended opApply 0 t ∧ t.cst.apply = none)))
  ∧ (∀ (s : State) x node code, s.cst.apply = some x → s.cstOn = true → s.cstRoot = false → s.opRuns opApply = true →
    Completes (.applyCommit (.abort node code)) s (fun t => ended opApply code.toNat t ∧ t.get (CST_OP_STAT.NODE opApply) = node.toNat ∧ t.cst.apply = none))
  ∧ (∀ (s : State) x t0, s.cst.apply = some x → s.cstOn = true → x.commit = some t0 → t0.toNat ≤ s.now.toNat →
    Completes (.applyCommit .edge) s (fun t => ended opApply 0 t ∧ t.cst.apply = none))
  ∧ (∀ (s : State) src v, starts s src (v ||| 4) opBcast → Completes (.bcast src v) s (fun t => t.okAnswer ∧ t.opRuns opBcast = true
    ∧ t.cst.tx = (List.range 8).map (fun i => s.appWord (CST_BC_TX.addr i))))
  ∧ (∀ (s : State) src v, starts s src (v ||| 2) opBarrier → Completes (.arrive src v) s (fun t => t.okAnswer ∧ t.opRuns opBarrier = true ∧ t.cst.arrived = true))
  ∧ (∀ (s : State) src v, starts s src (v ||| 8) opSnap → let x := at_ s (v ||| 8)
    Completes (.cstSnap src v) s (fun t => t.okAnswer ∧ t.opRuns opSnap = true ∧ t.cst.snapCount = s.cst.snapCount + 1
      ∧ t.cst.snap = some (x, BitVec.ofNat 32 (Config.firstSnapNo + s.cst.snapCount), decide (x.toNat < s.now.toNat))))
  ∧ (∀ (s : State) src v, starts s src (v ||| 16) opApply → Completes (.cstApply src v) s (fun t => t.okAnswer ∧ t.opRuns opApply = true
    ∧ t.cst.apply = some ⟨s.appWord CST_APPLY.addr, none, [], false, none⟩))
  ∧ (∀ (s : State) src v, starts s src (v ||| 32) opReset → Completes (.cstReset src v) s (fun t => t.okAnswer ∧ t.opRuns opReset = true
    ∧ t.cst.resetAt = some (at_ s (v ||| 32)) ∧ ∀ k, k < 4 → t.opRuns k = false))
  ∧ (∀ (s : State) src v, s.admits cstRules src CST_OP_CMD.addr (v ||| 64) → opsAsked (v ||| 64) = [] → s.cst.rx ≠ [] →
    Completes (.bcPop src v) s (fun t => t.okAnswer ∧ t.cst.rx = s.cst.rx.drop 1 ∧ t.get CST_BC_STAT.COUNT = (s.cst.rx.length - 1) % 32))
  ∧ (∀ (s : State) (k : Fin 5), s.cstOn = true → k.val ≠ opBarrier → s.opRuns k = true → Completes (.opTimeout k) s (ended k Err.timeout.code))

/-- Accesses of registers (R10, R68, R508, R512, R515, R519): a write that the rules of access and its block admit ends as
the block acts on the landed register; where the block adds nothing, each RW field holds what was written, or what the alias
sets, clears or inverts, and no other register changes; a group number is held; a read returns the live value, or that of
its latch, clears the RC fields, and latches the higher words of its register. -/
def Obligations.RegisterAccessCommandsComplete : Prop :=
  let lands (s : State) (src : Source) (addr : Nat) (v : Word) (y : State) : Prop :=
    let a := normalAddr addr
    let w := aliasWord (viewOf addr) (fieldsAt a) (s.word a) v
    s.dev ≠ powerOff ∧ s.accessErr src addr 4 true = none ∧ (hasGroup (blockOfWindow (a / 0x10000)) && s.cstLocks (blockOfWindow (a / 0x10000))) = false
    ∧ (rulesAt addr).pre s src a w = none ∧ s.updateBusy a = none ∧ setsReserved (fieldsAt a) v = false ∧ valueErr (fieldsAt a) w = none
    ∧ (rulesAt addr).act src a w (s.landed a w) = .ok y
  let plain (s : State) (addr : Nat) (v : Word) (y : State) : Prop :=
    y = s.landed (normalAddr addr) (aliasWord (viewOf addr) (fieldsAt (normalAddr addr)) (s.word (normalAddr addr)) v)
  let rw (f : FieldRow) : Prop := f.acc.isRw = true ∧ (f.acc = .rwHw → f.n ≠ 1)
  (∀ (s : State) src a v y, viewOf a = .normal → lands s src a v y → Completes (.registerWrite src a 4 (v.setWidth 64)) s (fun t => t = y.answer 0 0
    ∧ (plain s a v y → (∀ f ∈ fieldsAt (normalAddr a), rw f → f.val (t.word (normalAddr a)) = f.val v)
      ∧ ∀ b, b ≠ normalAddr a → t.word b = s.word b)))
  ∧ (∀ (s : State) src a v y, lands s src (viewAddr a 1) v y → Completes (.setAlias src a v) s (fun t => t = y.answer 0 0
    ∧ (plain s (viewAddr a 1) v y → let b := normalAddr (viewAddr a 1)
      ∀ f ∈ fieldsAt b, rw f → f.val (t.word b) = f.val (s.word b ||| v))))
  ∧ (∀ (s : State) src a v y, lands s src (viewAddr a 2) v y → Completes (.clearAlias src a v) s (fun t => t = y.answer 0 0
    ∧ (plain s (viewAddr a 2) v y → let b := normalAddr (viewAddr a 2)
      ∀ f ∈ fieldsAt b, rw f → f.val (t.word b) = f.val (s.word b &&& ~~~ v))))
  ∧ (∀ (s : State) src a v y, lands s src (viewAddr a 3) v y → Completes (.toggleAlias src a v) s (fun t => t = y.answer 0 0
    ∧ (plain s (viewAddr a 3) v y → let b := normalAddr (viewAddr a 3)
      ∀ f ∈ fieldsAt b, rw f → f.val (t.word b) = f.val (s.word b ^^^ v))))
  ∧ (∀ (s : State) src w v y, lands s src (w * 0x10000 + 0x3FF0) v y → Completes (.groupWrite w src v) s (fun t => t = y.answer 0 0
    ∧ (plain s (w * 0x10000 + 0x3FF0) v y → t.get ⟨w * 0x10000 + 0x3FF0, 0, 5⟩ = v.toNat % 32)))
  ∧ (∀ (s : State) src a, s.dev ≠ powerOff → viewOf a = .normal → s.accessErr src a 4 false = none →
    let value := if isLatched a then SMap.get latchDefault s.latch a else s.liveWord a
    (Completes (.readClear src a 4) s (fun t => t.resp = some ⟨(readValue (fieldsAt a) value).setWidth 64, [], 0⟩
      ∧ (∀ f ∈ fieldsAt a, f.acc = .rc → f.val (t.word a) = 0) ∧ (∀ f ∈ fieldsAt a, f.acc ≠ .rc → f.val (t.word a) = f.val (s.word a))
      ∧ ∀ b, b ≠ a → t.word b = s.word b))
    ∧ Completes (.latchingRead src a 4) s (fun t => t.resp = some ⟨(readValue (fieldsAt a) value).setWidth 64, [], 0⟩
      ∧ ∀ h ∈ latchesAt a, SMap.get latchDefault t.latch h = s.liveWord h))

/-- The boot (R543 to R546, R550, R554): the first candidate's header is read, or none is left; a candidate passes its
checks or is rejected and the next is read; the firmware starts in LOAD with complex A active and the standby loading; the
standby is ready or failed; a host configuration that does not come in time is reported. -/
def Obligations.BootCommandsComplete : Prop :=
  (∀ (s : State) i, s.dev = Machine.boot → s.boot.step = .reading i → Completes .headerRead s (fun t => t = s.bootStep (.checking i)))
  ∧ (∀ (s : State), s.dev = Machine.boot → s.boot.step = .rom →
    let y := match s.dirCopy with | some c => (s.dirLoad c).trialRejected | none => s
    (∀ i l, y.candidates = i :: l → Completes .headerRead s (fun t => t.boot.step = .checking i ∧ t.boot.rest = l ∧ t.boot.first = i ∧ t.hpt.train = true
      ∧ t.get HPT_BAR4.SIZE = s.imgFlags (slotBase i) / 4 % 2 ^ HPT_BAR4.SIZE.n))
    ∧ (y.candidates = [] → Completes .headerRead s (fun t => t.boot.step = .stuck ∧ t.get SYS_STATE.LAST_ERR = Err.check.code ∧ t.hpt.train = true)))
  ∧ (∀ (s : State) i fmt ok, s.dev = Machine.boot → s.boot.step = .checking i → let code := s.imageVerdict (slotBase i) fmt.toNat ok
    (code = 0 → Completes (.imageCheck fmt ok) s (fun t => t.boot.step = .verified i ∧ t.get UPD_BOOT.SLOT = i % 2
      ∧ (i ≠ s.boot.first → t.flag UPD_BOOT.FALLBACK = true)))
    ∧ (code ≠ 0 → Completes (.imageCheck fmt ok) s (fun t => (t.slot i).state = kREJECTED
      ∧ (∀ j l, s.boot.rest = j :: l → t.boot.step = .reading j ∧ t.boot.rest = l)
      ∧ (s.boot.rest = [] → t.boot.step = .stuck ∧ t.get SYS_STATE.LAST_ERR = code))))
  ∧ (∀ (s : State) i, s.dev = Machine.boot → s.boot.step = .verified i → Completes .firmwareStart s (fun t => t.dev = load ∧ t.boot.step = .done
    ∧ t.get UPD_STAT.ACTIVE = 0 ∧ t.get UPD_STAT.STBY = yLOADING ∧ t.upd.stbyFrom = i
    ∧ ((s.imgFlags (slotBase i)).testBit 0 = true → t.boot.hostCfg = true ∧ t.boot.byImage = true)))
  ∧ (∀ (s : State), s.alive = true → s.get UPD_STAT.STBY = yLOADING →
    Completes (.standbyLoaded true) s (fun t => t.get UPD_STAT.STBY = yREADY ∧ t.word UPD_VER_STBY.addr = s.imgVer (slotBase s.upd.stbyFrom))
    ∧ Completes (.standbyLoaded false) s (fun t => t.get UPD_STAT.STBY = yFAILED))
  ∧ (∀ (s : State), s.dev = load → s.boot.byImage = true → s.boot.hostDone = false →
    Completes .hostCfgTimeout s (fun t => t.get SYS_STATE.LAST_ERR = Err.timeout.code ∧ t.dev = load))

/-- The configuration records (R547 to R549): a record that stands next and is not waiting has the effect of its type and
the run arrives at the next record, or it waits; a rejected write, a refused admission or a reserved WAIT condition fails
LOAD with its code. -/
def Obligations.RecordCommandsComplete : Prop :=
  let next (s : State) (r : RecordRun) : Prop := s.boot.run = some r ∧ r.waiting = false ∧ s.dev = load
  let failed (code : Nat) (t : State) : Prop := t.boot.run = none ∧ t.boot.hostCfg = true ∧ t.get SYS_STATE.LAST_ERR = code % 256
  let write (s : State) (a : Nat) (v : Word) : State := s.writeWord s.activeSrc a v
  (∀ (s : State) r, next s r → (s.recHead r).type = 1 →
    let x := (List.range ((s.recHead r).len / 4)).foldl (fun (x : State × Nat) k => State.cfgWrite x ((s.recHead r).arg + 4 * k) (s.recWord r k)) (s, 0)
    (x.2 = 0 → Completes .regRecord s (fun t => t = x.1.recDone)) ∧ (x.2 ≠ 0 → Completes .regRecord s (failed x.2)))
  ∧ (∀ (s : State) r, next s r → (s.recHead r).type = 2 →
    let t0 := s.busRead s.activeSrc (s.recHead r).arg 4
    let m := s.recWord r 1
    let y := write t0 (s.recHead r).arg ((BitVec.ofNat 32 t0.respData &&& ~~~ m) ||| (s.recWord r 0 &&& m))
    (t0.respCode ≠ 0 → Completes .maskRecord s (failed t0.respCode))
    ∧ (t0.respCode = 0 → y.respCode = 0 → Completes .maskRecord s (fun t => t = y.recDone))
    ∧ (t0.respCode = 0 → y.respCode ≠ 0 → Completes .maskRecord s (failed y.respCode)))
  ∧ (∀ (s : State) r, next s r → (s.recHead r).type = 3 →
    ((∀ i, i < (s.recHead r).len → s.bar2Err ((s.recHead r).arg + i) true = none) → Completes .sramRecord s (fun t =>
      ∀ i, i < (s.recHead r).len → t.sramByte ((s.recHead r).arg + i) = s.recByte r (r.ofs + 8 + i)))
    ∧ (∀ e, (List.range (s.recHead r).len).findSome? (fun i => s.bar2Err ((s.recHead r).arg + i) true) = some e →
      Completes .sramRecord s (failed e.code)))
  ∧ (∀ (s : State) r, next s r → (s.recHead r).type = 4 →
    let ds := (bitsIn 32 (s.recHead r).arg).filter (fun d => decide (24 ≤ d) || s.dom d != 2)
    let x := ds.foldl (fun (x : State × Nat) d => State.cfgWrite x (PWR_DOM_CMD.addr 0 + 8 * d) 1) (s, 0)
    (x.2 = 0 → Completes .powerRecord s (fun t => t = x.1.recWait.recSettle)) ∧ (x.2 ≠ 0 → Completes .powerRecord s (failed x.2)))
  ∧ (∀ (s : State) r, next s r → (s.recHead r).type = 5 → let c := (s.recHead r).arg
    (waitCode c = true → s.waitHolds c = false → Completes .waitRecord s (fun t => t = s.recWait))
    ∧ (waitCode c = true → s.waitHolds c = true → Completes .waitRecord s (fun t => t = s.recWait.recDone))
    ∧ (waitCode c = false → Completes .waitRecord s (failed Err.reserved.code)))
  ∧ (∀ (s : State) r, s.boot.run = some r → r.waiting = true → s.dev = load → (s.recHead r).type = 5 → s.waitHolds (s.recHead r).arg = false →
    ((s.recHead r).arg = 0 → Completes .waitRecordTimeout s (fun t => t = s.recDone))
    ∧ ((s.recHead r).arg ≠ 0 → Completes .waitRecordTimeout s (failed Err.timeout.code)))
  ∧ (∀ (s : State) r, next s r → (s.recHead r).type = 6 → let y := write s SYS_UPDATE.addr (BitVec.ofNat 32 (s.recHead r).arg)
    (y.respCode = 0 → Completes .applyRecord s (fun t => t = y.recWait)) ∧ (y.respCode ≠ 0 → Completes .applyRecord s (failed y.respCode)))
  ∧ (∀ (s : State) r, next s r → (s.recHead r).type = 7 → let y := write s SYS_CFGCRC_REF.addr (BitVec.ofNat 32 (s.recHead r).arg)
    (y.respCode = 0 → Completes .crcrefRecord s (fun t => t = y.recDone)) ∧ (y.respCode ≠ 0 → Completes .crcrefRecord s (failed y.respCode)))
  ∧ (∀ (s : State) r, next s r → (s.recHead r).type = 15 →
    (s.admitRunning.1 = none → Completes .endRecord s (fun t => t.dev = run ∧ t.boot.run = none))
    ∧ (∀ e, s.admitRunning.1 = some e → Completes .endRecord s (failed e.code)))

/-- The update sessions (R551 to R555): START opens a session and erases the slot that is not in service; UPD_ABORT ends
one; a good block of each kind is accepted once and a resend has no effect; the oldest accepted block is programmed; the
written slot is staged or rejected; a failed flash ends the session. -/
def Obligations.UpdateSessionCommandsComplete : Prop :=
  let go (v : Word) : Word := v ||| BitVec.ofNat 32 (2 ^ 31)
  let handed (s : State) (src : Source) (v : Word) (ty id : Nat) : Prop := s.admits updRules src UPD_BLK.addr (go v) ∧ s.upd.verify = false
    ∧ ∃ i, s.upd.sess = some (ty, id, i)
  let head (s : State) (v : Word) : BlkHead := s.blkHead ((go v).toNat % 2)
  let resend (s : State) (id : Nat) (h : BlkHead) : Prop := h.good = true ∧ h.magic = 0x55444B42 ∧ h.session = id ∧ h.index + 1 = s.get UPD_NEXT.NEXT
    ∧ s.upd.lastCrc = some (BitVec.ofNat 32 h.crc)
  let taken (s : State) (src : Source) (v : Word) (ty id : Nat) : Prop := handed s src v ty id ∧ ¬ resend s id (head s v) ∧ s.blockErr' ty id (head s v) = none
  let moved (h : BlkHead) (t : State) : Prop := t.okAnswer ∧ t.get UPD_NEXT.NEXT = (h.index + 1) % 2 ^ 32 ∧ t.get UPD_NEXT_DST.DST = (h.dst + h.len) % 2 ^ 32
  let queued (s : State) (v : Word) (h : BlkHead) (ty : Nat) (t : State) : Prop := moved h t ∧ t.upd.lastCrc = some (BitVec.ofNat 32 h.crc)
    ∧ (ty ≠ 2 → t.upd.blocks = s.upd.blocks ++ [⟨(go v).toNat % 2, h.dst, h.len, h.payload, if h.op == 1 then some h.src else none, BitVec.ofNat 8 h.src⟩]
      ∧ (t.get UPD_STAT.SLOT_FREE).testBit ((go v).toNat % 2) = false)
    ∧ (ty = 2 → t.upd.section_ = s.upd.section_ ++ h.bytes)
  (∀ (s : State) src v, s.admits updRules src UPD_CMD.addr (v ||| 1) → updBits (v ||| 1) = [0] → let ty := s.get UPD_SESSION.TYPE
    (ty = 2 → s.configAllowed = true) → (ty = 0 → s.slotIn kCONFIRMED ≠ none) →
    (∀ x ∈ s.poolRegions s.app, s.updBuf 0 + 131072 ≤ x.1 ∨ x.2 ≤ s.updBuf 0) → s.poolV s.app + 131072 ≤ 17825792 →
    Completes (.updStart src v) s (fun t => t.okAnswer ∧ t.get UPD_STAT.SESS = 1 ∧ t.get UPD_STAT.SLOT_FREE = 3 ∧ t.get UPD_NEXT.NEXT = 0
      ∧ t.get UPD_NEXT_DST.DST = 0 ∧ t.upd.sess.map (fun x => (x.1, x.2.1)) = some (ty, s.get UPD_SESSION.ID) ∧ t.upd.blocks = []
      ∧ ∀ c, s.slotIn kCONFIRMED = some c → ty ≠ 2 → (t.slot (1 - c)).state = kWRITING
        ∧ ∀ a, slotBase (1 - c) ≤ a → a < slotBase (1 - c) + slotSize → t.flashByte a = flashDefault a))
  ∧ (∀ (s : State) src v ty id i, s.admits updRules src UPD_CMD.addr (v ||| 2) → updBits (v ||| 2) = [1] → s.upd.sess = some (ty, id, i) →
    Completes (.updAbort src v) s (fun t => t.okAnswer ∧ t.get UPD_STAT.SESS = 0 ∧ t.get UPD_STAT.SLOT_FREE = 3 ∧ t.upd.sess = none ∧ t.upd.blocks = []
      ∧ (ty ≠ 2 → (t.slot i).state = kEMPTY)))
  ∧ (∀ (s : State) src v ty id, taken s src v ty id → (head s v).op = 0 → Completes (.dataBlock src v) s (queued s v (head s v) ty))
  ∧ (∀ (s : State) src v ty id, taken s src v ty id → (head s v).op = 1 → Completes (.copyBlock src v) s (queued s v (head s v) ty))
  ∧ (∀ (s : State) src v ty id, taken s src v ty id → (head s v).op = 2 → Completes (.fillBlock src v) s (queued s v (head s v) ty))
  ∧ (∀ (s : State) src v ty id, taken s src v ty id → (head s v).op = 3 → Completes (.endBlock src v) s (fun t => moved (head s v) t
    ∧ (ty ≠ 2 → t.upd.verify = true ∧ t.upd.blocks = s.upd.blocks) ∧ (ty = 2 → t.upd.sess = none ∧ t.boot.hostDone = true ∧ t.get UPD_STAT.SESS = 2)))
  ∧ (∀ (s : State) src v ty id, handed s src v ty id → resend s id (head s v) → Completes (.dataBlock src v) s (fun t => t.okAnswer ∧ t.upd = s.upd))
  ∧ (∀ (s : State) ty id i b l, s.alive = true → s.upd.sess = some (ty, id, i) → s.upd.blocks = b :: l →
    let bs := match b.copy with
      | some o => s.flashBytes (slotBase s.inService + o) b.len
      | none => if b.data.isEmpty then List.replicate b.len b.fill else b.data
    Completes .blockProgrammed s (fun t => t.upd.blocks = l ∧ (b.slot < 2 → (t.get UPD_STAT.SLOT_FREE).testBit b.slot = true)
      ∧ ∀ (j : Nat) x, bs[j]? = some x → t.flashByte (slotBase i + b.dst + j) = x))
  ∧ (∀ (s : State) ty id i fmt ok, s.alive = true → s.upd.sess = some (ty, id, i) → s.upd.verify = true → s.upd.blocks = [] →
    let code := s.imageVerdict (slotBase i) fmt.toNat ok
    (code = 0 → Completes (.slotVerify fmt ok) s (fun t => t.upd.sess = none ∧ t.get UPD_STAT.SESS = 2 ∧ t.get UPD_STAT.STBY = yLOADING ∧ t.upd.stbyFrom = i
      ∧ t.slot i = ⟨kSTAGED, s.imgSeq (slotBase i), s.imgLen (slotBase i), crc32c (s.flashBytes (slotBase i) (s.imgLen (slotBase i)))⟩))
    ∧ (code ≠ 0 → Completes (.slotVerify fmt ok) s (fun t => t.upd.sess = none ∧ t.get UPD_STAT.SESS = 3 ∧ t.get UPD_STAT.LAST_CODE = code
      ∧ (t.slot i).state = kREJECTED)))
  ∧ (∀ (s : State) ty id i, s.alive = true → s.upd.sess = some (ty, id, i) → ty ≠ 2 → Completes .flashFail s (fun t => t.upd.sess = none
    ∧ t.get UPD_STAT.SESS = 3 ∧ t.get UPD_STAT.LAST_CODE = Err.check.code ∧ (t.slot i).state = kREJECTED))

/-- Handover, trial and fallback (R556 to R563): HANDOVER and REVERT begin a handover or leave the code of the refusal; the
complexes exchange roles and the trial begins or ends; the handover resumes; CONFIRM confirms the slot in trial; LOADSTBY,
BOOTNEXT; a trial that expires reverts by itself. -/
def Obligations.HandoverCommandsComplete : Prop :=
  let asks (s : State) (src : Source) (w : Word) (k : Nat) : Prop := s.admits updRules src UPD_CMD.addr w ∧ updBits w = [k]
  let begins (k : HandKind) (t : State) : Prop := t.okAnswer ∧ t.flag UPD_STAT.HANDOVER = true ∧ t.upd.hand = some k ∧ t.upd.switched = false
  (∀ (s : State) src v, asks s src (v ||| 4) 2 → s.get UPD_STAT.STBY = yREADY → s.slotIn kSTAGED ≠ none →
    let x := (s.landed UPD_CMD.addr (v ||| 4)).admitRunning
    (x.1 = none → Completes (.handover src v) s (begins .forward))
    ∧ (∀ e, x.1 = some e → Completes (.handover src v) s (fun t => t.okAnswer ∧ t.get UPD_STAT.LAST_CODE = e.code ∧ t.upd = s.upd)))
  ∧ (∀ (s : State) src v, asks s src (v ||| 16) 4 → s.inTrial = true →
    let x := (s.landed UPD_CMD.addr (v ||| 16)).admitRunning
    (x.1 = none → Completes (.revert src v) s (begins .revert))
    ∧ (∀ e, x.1 = some e → Completes (.revert src v) s (fun t => t.okAnswer ∧ t.get UPD_STAT.LAST_CODE = e.code ∧ t.upd = s.upd)))
  ∧ (∀ (s : State) k, s.alive = true → s.upd.hand = some k → s.upd.switched = false → Completes .handoverSwitch s (fun t => t.upd.switched = true
    ∧ t.get UPD_STAT.ACTIVE = 1 - s.get UPD_STAT.ACTIVE ∧ t.word UPD_VER_ACT.addr = s.word UPD_VER_STBY.addr ∧ t.word UPD_VER_STBY.addr = s.word UPD_VER_ACT.addr
    ∧ (k = .forward → t.inTrial = true ∧ t.flag UPD_STAT.CFMT_DUAL = true ∧ t.get UPD_TRIAL_LEFT.LEFT = s.get UPD_CTRL.TRIAL_TO
      ∧ t.get UPD_CNT.HANDOVERS = min (s.get UPD_CNT.HANDOVERS + 1) 65535 ∧ ∀ i, s.slotIn kSTAGED = some i → (t.slot i).state = kTRIAL)
    ∧ (k ≠ .forward → t.inTrial = false ∧ t.flag UPD_STAT.CFMT_DUAL = false ∧ t.get UPD_TRIAL_LEFT.LEFT = 0
      ∧ t.get UPD_CNT.REVERTS = min (s.get UPD_CNT.REVERTS + 1) 65535 ∧ ∀ i, s.slotIn kTRIAL = some i → (t.slot i).state = kREJECTED)))
  ∧ (∀ (s : State), s.alive = true → s.upd.hand.isSome = true → s.upd.switched = true → Completes .handoverResume s (fun t =>
    t.flag UPD_STAT.HANDOVER = false ∧ t.upd.hand = none ∧ t.upd.switched = false))
  ∧ (∀ (s : State) src v, asks s src (v ||| 8) 3 → s.inTrial = true → Completes (.confirm src v) s (fun t => t.okAnswer ∧ t.inTrial = false
    ∧ t.flag UPD_STAT.CFMT_DUAL = false ∧ t.get UPD_TRIAL_LEFT.LEFT = 0
    ∧ ∀ i, s.slotIn kTRIAL = some i → (t.slot i).state = kCONFIRMED ∧ t.get UPD_STAT.STBY = yLOADING ∧ t.upd.stbyFrom = i
      ∧ ∀ j, s.slotIn kCONFIRMED = some j → (t.slot j).state = kPREVIOUS))
  ∧ (∀ (s : State) src v i, asks s src (v ||| 32) 5 → s.slotIn kCONFIRMED = some i → Completes (.loadstby src v) s (fun t => t.okAnswer
    ∧ t.get UPD_STAT.STBY = yLOADING ∧ t.upd.stbyFrom = i))
  ∧ (∀ (s : State) src v i, asks s src (v ||| 64) 6 → s.inTrial = false → s.slotIn kSTAGED = some i → Completes (.bootnext src v) s (fun t => t.okAnswer
    ∧ (t.slot i).state = kNEXT))
  ∧ (∀ (s : State), s.alive = true → s.inTrial = true → s.get UPD_TRIAL_LEFT.LEFT ≠ 0 → Completes .trialExpiry s (fun t => t.get UPD_TRIAL_LEFT.LEFT = 0
    ∧ (s.upd.hand = none → t.upd.hand = some .automatic ∧ t.flag UPD_STAT.HANDOVER = true) ∧ (s.upd.hand.isSome = true → t.upd = s.upd)))
end

