-- ==== Sys2Proof/Laws/Bits.lean ====
section
/-! SUPPORT. Laws of the bit fields of a word: a field after a write of it, and of a field apart from it. -/

namespace Sys2Proof.Machine

theorem bitsOf_lt (w : Word) (lo n : Nat) : bitsOf w lo n < 2 ^ n := Nat.mod_lt _ (Nat.two_pow_pos n)

/-- Two digits of mixed radix stay below the product of their radices. -/
theorem digits_lt {a b m n : Nat} (ha : a < m) (hb : b < n) : a * n + b < m * n :=
  calc a * n + b < a * n + n := by omega
    _ = (a + 1) * n := by rw [Nat.add_mul, Nat.one_mul]
    _ ≤ m * n := Nat.mul_le_mul_right n ha

/-- A word cut at a field: what stands above, in and below it. -/
theorem cut_field (x lo n : Nat) :
    x = x / 2 ^ (lo + n) * 2 ^ (lo + n) + (x / 2 ^ lo % 2 ^ n * 2 ^ lo + x % 2 ^ lo) := by
  have h1 : x = x / 2 ^ lo * 2 ^ lo + x % 2 ^ lo := by rw [Nat.mul_comm]; exact (Nat.div_add_mod x (2 ^ lo)).symm
  have h2 : x / 2 ^ lo = x / 2 ^ lo / 2 ^ n * 2 ^ n + x / 2 ^ lo % 2 ^ n := by
    rw [Nat.mul_comm]; exact (Nat.div_add_mod _ _).symm
  have h3 : x / 2 ^ lo / 2 ^ n = x / 2 ^ (lo + n) := by rw [Nat.div_div_eq_div_mul, ← Nat.pow_add]
  calc x = x / 2 ^ lo * 2 ^ lo + x % 2 ^ lo := h1
    _ = (x / 2 ^ (lo + n) * 2 ^ n + x / 2 ^ lo % 2 ^ n) * 2 ^ lo + x % 2 ^ lo := by rw [← h3, ← h2]
    _ = _ := by rw [Nat.add_mul, Nat.mul_assoc, ← Nat.pow_add, Nat.add_comm n lo, Nat.add_assoc]

/-- The number a word becomes when a field of it is replaced. -/
theorem insBits_toNat (w : Word) (lo n v : Nat) (h : lo + n ≤ 32) :
    (insBits w lo n v).toNat
      = w.toNat / 2 ^ (lo + n) * 2 ^ (lo + n) + (v % 2 ^ n * 2 ^ lo + w.toNat % 2 ^ lo) := by
  have hc := cut_field w.toNat lo n
  have hn : v % 2 ^ n < 2 ^ n := Nat.mod_lt _ (Nat.two_pow_pos n)
  have hl : w.toNat % 2 ^ lo < 2 ^ lo := Nat.mod_lt _ (Nat.two_pow_pos lo)
  have hb : v % 2 ^ n * 2 ^ lo + w.toNat % 2 ^ lo < 2 ^ (lo + n) := by
    rw [Nat.add_comm lo n, Nat.pow_add]; exact digits_lt hn hl
  have hw : w.toNat < 2 ^ 32 := w.isLt
  have hq : w.toNat / 2 ^ (lo + n) < 2 ^ (32 - (lo + n)) := by
    rw [Nat.div_lt_iff_lt_mul (Nat.two_pow_pos _), ← Nat.pow_add]
    have : 32 - (lo + n) + (lo + n) = 32 := by omega
    rwa [this]
  have ht : w.toNat / 2 ^ (lo + n) * 2 ^ (lo + n) + (v % 2 ^ n * 2 ^ lo + w.toNat % 2 ^ lo) < 2 ^ 32 := by
    have : (2 : Nat) ^ 32 = 2 ^ (32 - (lo + n)) * 2 ^ (lo + n) := by
      rw [← Nat.pow_add]; congr 1; omega
    rw [this]; exact digits_lt hq hb
  have he : w.toNat - bitsOf w lo n * 2 ^ lo + v % 2 ^ n * 2 ^ lo
      = w.toNat / 2 ^ (lo + n) * 2 ^ (lo + n) + (v % 2 ^ n * 2 ^ lo + w.toNat % 2 ^ lo) := by
    unfold bitsOf; omega
  rw [insBits, he, BitVec.toNat_ofNat, Nat.mod_eq_of_lt ht]

/-- A field after a write of it. -/
theorem bitsOf_insBits_same (w : Word) (lo n v : Nat) (h : lo + n ≤ 32) : bitsOf (insBits w lo n v) lo n = v % 2 ^ n := by
  have hn : v % 2 ^ n < 2 ^ n := Nat.mod_lt _ (Nat.two_pow_pos n)
  have hl : w.toNat % 2 ^ lo < 2 ^ lo := Nat.mod_lt _ (Nat.two_pow_pos lo)
  rw [bitsOf, insBits_toNat w lo n v h, Nat.pow_add]
  have : w.toNat / (2 ^ lo * 2 ^ n) * (2 ^ lo * 2 ^ n) + (v % 2 ^ n * 2 ^ lo + w.toNat % 2 ^ lo)
      = w.toNat % 2 ^ lo + 2 ^ lo * (v % 2 ^ n + 2 ^ n * (w.toNat / (2 ^ lo * 2 ^ n))) := by ring
  rw [this, Nat.add_mul_div_left _ _ (Nat.two_pow_pos lo), Nat.div_eq_of_lt hl, Nat.zero_add, Nat.add_mul_mod_self_left,
    Nat.mod_mod]

/-- A field above a written one keeps its value. -/
theorem bitsOf_insBits_above (w : Word) (lo n v lo' n' : Nat) (h : lo + n ≤ 32) (hd : lo + n ≤ lo') :
    bitsOf (insBits w lo n v) lo' n' = bitsOf w lo' n' := by
  have hn : v % 2 ^ n < 2 ^ n := Nat.mod_lt _ (Nat.two_pow_pos n)
  have hl : w.toNat % 2 ^ lo < 2 ^ lo := Nat.mod_lt _ (Nat.two_pow_pos lo)
  have hb : v % 2 ^ n * 2 ^ lo + w.toNat % 2 ^ lo < 2 ^ (lo + n) := by
    rw [Nat.add_comm lo n, Nat.pow_add]; exact digits_lt hn hl
  have e : (insBits w lo n v).toNat / 2 ^ lo' = w.toNat / 2 ^ lo' := by
    obtain ⟨k, rfl⟩ := Nat.exists_eq_add_of_le hd
    rw [Nat.pow_add, ← Nat.div_div_eq_div_mul, ← Nat.div_div_eq_div_mul, insBits_toNat w lo n v h,
      Nat.add_comm, Nat.add_mul_div_right _ _ (Nat.two_pow_pos _), Nat.div_eq_of_lt hb, Nat.zero_add]
  rw [bitsOf, bitsOf, e]

/-- A field below a written one keeps its value. -/
theorem bitsOf_insBits_below (w : Word) (lo n v lo' n' : Nat) (h : lo + n ≤ 32) (hd : lo' + n' ≤ lo) :
    bitsOf (insBits w lo n v) lo' n' = bitsOf w lo' n' := by
  have e : (insBits w lo n v).toNat % 2 ^ lo = w.toNat % 2 ^ lo := by
    rw [insBits_toNat w lo n v h, Nat.pow_add]
    have : w.toNat / (2 ^ lo * 2 ^ n) * (2 ^ lo * 2 ^ n) + (v % 2 ^ n * 2 ^ lo + w.toNat % 2 ^ lo)
        = w.toNat % 2 ^ lo + 2 ^ lo * (v % 2 ^ n + 2 ^ n * (w.toNat / (2 ^ lo * 2 ^ n))) := by ring
    rw [this, Nat.add_mul_mod_self_left, Nat.mod_mod]
  have key : ∀ x : Nat, x / 2 ^ lo' % 2 ^ n' = x % 2 ^ lo / 2 ^ lo' % 2 ^ n' := by
    intro x
    obtain ⟨k, hk⟩ := Nat.exists_eq_add_of_le hd
    have h2 : 2 ^ lo = 2 ^ lo' * 2 ^ (n' + k) := by rw [hk, Nat.add_assoc, Nat.pow_add]
    rw [h2, Nat.mod_mul_right_div_self, Nat.pow_add, Nat.mod_mul_right_mod]
  rw [bitsOf, bitsOf, key (insBits w lo n v).toNat, e, ← key]

/-- Two fields share no bit. -/
abbrev Fld.apart (f g : Fld) : Prop := f.addr ≠ g.addr ∨ f.lo + f.n ≤ g.lo ∨ g.lo + g.n ≤ f.lo

end Sys2Proof.Machine
end

