-- ==== Sys2Proof/Laws/Sparse.lean ====
section
/-! SUPPORT. Laws of sparse maps: a read after a write, and that every operation keeps the canonical form. -/

namespace Sys2Proof.Machine

theorem SMap.find_erase_same {α : Type} (m : SMap α) (k : Nat) : (m.erase k).find k = none := by
  induction m with
  | nil => rfl
  | cons e m ih =>
    obtain ⟨a, v⟩ := e
    by_cases h : a = k
    · simpa [SMap.erase, h] using ih
    · simp [SMap.erase, SMap.find, h, ih]

theorem SMap.find_erase_ne {α : Type} (m : SMap α) {k j : Nat} (h : j ≠ k) : (m.erase k).find j = m.find j := by
  induction m with
  | nil => rfl
  | cons e m ih =>
    obtain ⟨a, v⟩ := e
    by_cases hk : a = k
    · simp [SMap.erase, SMap.find, hk, ih, Ne.symm h]
    · simp [SMap.erase, SMap.find, hk, ih]

theorem SMap.find_insert_ne {α : Type} (m : SMap α) {k j : Nat} (v : α) (h : j ≠ k) : (m.insert k v).find j = m.find j := by
  induction m with
  | nil => simp [SMap.insert, SMap.find, Ne.symm h]
  | cons e m ih =>
    obtain ⟨a, w⟩ := e
    by_cases hk : k < a
    · simp [SMap.insert, SMap.find, hk, Ne.symm h]
    · simp [SMap.insert, SMap.find, hk, ih]

theorem SMap.find_insert_same {α : Type} (m : SMap α) (k : Nat) (v : α) (h : m.find k = none) :
    (m.insert k v).find k = some v := by
  induction m with
  | nil => simp [SMap.insert, SMap.find]
  | cons e m ih =>
    obtain ⟨a, w⟩ := e
    have ha : a ≠ k := by intro e; simp [SMap.find, e] at h
    have hm : SMap.find m k = none := by simpa [SMap.find, ha] using h
    by_cases hk : k < a
    · simp [SMap.insert, SMap.find, hk]
    · simp [SMap.insert, SMap.find, hk, ha, ih hm]

@[simp] theorem SMap.get_set_same {α : Type} [DecidableEq α] (d : Nat → α) (m : SMap α) (k : Nat) (v : α) :
    SMap.get d (m.set d k v) k = v := by
  by_cases h : v = d k
  · simp [SMap.set, SMap.get, h, SMap.find_erase_same]
  · simp [SMap.set, SMap.get, h, SMap.find_insert_same _ _ _ (SMap.find_erase_same m k)]

theorem SMap.get_set_ne {α : Type} [DecidableEq α] (d : Nat → α) (m : SMap α) {k j : Nat} (v : α) (h : j ≠ k) :
    SMap.get d (m.set d k v) j = SMap.get d m j := by
  by_cases hv : v = d k
  · simp [SMap.set, SMap.get, hv, SMap.find_erase_ne m h]
  · simp [SMap.set, SMap.get, hv, SMap.find_insert_ne _ _ h, SMap.find_erase_ne m h]

theorem SMap.above_mono {α : Type} {a b : Nat} (h : a ≤ b) (m : SMap α) (hm : m.above b = true) : m.above a = true := by
  induction m with
  | nil => rfl
  | cons e m ih =>
    simp only [SMap.above, Bool.and_eq_true, decide_eq_true_eq] at hm ⊢
    exact ⟨by omega, ih hm.2⟩

theorem SMap.above_erase {α : Type} (b k : Nat) (m : SMap α) (hm : m.above b = true) : (m.erase k).above b = true := by
  induction m with
  | nil => rfl
  | cons e m ih =>
    obtain ⟨a, v⟩ := e
    simp only [SMap.above, Bool.and_eq_true, decide_eq_true_eq] at hm
    by_cases hk : a = k
    · simpa [SMap.erase, hk] using ih hm.2
    · simp [SMap.erase, SMap.above, hk, hm.1, ih hm.2]

theorem SMap.above_insert {α : Type} (b k : Nat) (v : α) (m : SMap α) (hk : b < k) (hm : m.above b = true) :
    (m.insert k v).above b = true := by
  induction m with
  | nil => simp [SMap.insert, SMap.above, hk]
  | cons e m ih =>
    obtain ⟨a, w⟩ := e
    simp only [SMap.above, Bool.and_eq_true, decide_eq_true_eq] at hm
    by_cases h : k < a
    · simp [SMap.insert, SMap.above, h, hk, hm.1, hm.2]
    · simp [SMap.insert, SMap.above, h, hm.1, ih hm.2]

theorem SMap.wf_erase {α : Type} [DecidableEq α] (d : Nat → α) (k : Nat) (m : SMap α) (hm : m.wf d = true) :
    (m.erase k).wf d = true := by
  induction m with
  | nil => rfl
  | cons e m ih =>
    obtain ⟨a, v⟩ := e
    simp only [SMap.wf, Bool.and_eq_true, decide_eq_true_eq] at hm
    by_cases hk : a = k
    · simpa [SMap.erase, hk] using ih hm.2
    · simp [SMap.erase, SMap.wf, hk, hm.1.2, SMap.above_erase a k m hm.1.1, ih hm.2]

theorem SMap.wf_insert {α : Type} [DecidableEq α] (d : Nat → α) (k : Nat) (v : α) (hv : v ≠ d k) (m : SMap α)
    (hn : m.find k = none) (hm : m.wf d = true) : (m.insert k v).wf d = true := by
  induction m with
  | nil => simp [SMap.insert, SMap.wf, SMap.above, hv]
  | cons e m ih =>
    obtain ⟨a, w⟩ := e
    have ha : a ≠ k := by intro e; simp [SMap.find, e] at hn
    have hn' : SMap.find m k = none := by simpa [SMap.find, ha] using hn
    simp only [SMap.wf, Bool.and_eq_true, decide_eq_true_eq] at hm
    by_cases h : k < a
    · simp [SMap.insert, SMap.wf, SMap.above, h, hv, hm.1.1, hm.1.2, hm.2, SMap.above_mono (Nat.le_of_lt h) m hm.1.1]
    · have hak : a < k := by omega
      simp [SMap.insert, SMap.wf, h, hm.1.2, SMap.above_insert a k v m hak hm.1.1, ih hn' hm.2]

/-- A write keeps the canonical form. -/
theorem SMap.wf_set {α : Type} [DecidableEq α] (d : Nat → α) (m : SMap α) (k : Nat) (v : α) (hm : m.wf d = true) :
    (m.set d k v).wf d = true := by
  by_cases h : v = d k
  · simpa [SMap.set, h] using SMap.wf_erase d k m hm
  · simpa [SMap.set, h] using SMap.wf_insert d k v h _ (SMap.find_erase_same m k) (SMap.wf_erase d k m hm)

/-- A filter of a canonical map is canonical. -/
theorem SMap.above_filter {α : Type} (b : Nat) (p : Nat × α → Bool) (m : SMap α) (hm : m.above b = true) :
    SMap.above b (m.filter p) = true := by
  induction m with
  | nil => rfl
  | cons e m ih =>
    simp only [SMap.above, Bool.and_eq_true, decide_eq_true_eq] at hm
    by_cases hp : p e
    · simp [List.filter, hp, SMap.above, hm.1, ih hm.2]
    · simpa [List.filter, hp] using ih hm.2

theorem SMap.wf_filter {α : Type} [DecidableEq α] (d : Nat → α) (p : Nat × α → Bool) (m : SMap α) (hm : m.wf d = true) :
    SMap.wf d (m.filter p) = true := by
  induction m with
  | nil => rfl
  | cons e m ih =>
    obtain ⟨a, v⟩ := e
    simp only [SMap.wf, Bool.and_eq_true, decide_eq_true_eq] at hm
    by_cases hp : p (a, v)
    · simp [List.filter, hp, SMap.wf, hm.1.2, SMap.above_filter a p m hm.1.1, ih hm.2]
    · simpa [List.filter, hp] using ih hm.2

end Sys2Proof.Machine
end

