-- ==== Sys2Proof/Laws/State.lean ====
section
/-! SUPPORT. Laws of the state: what each update leaves of each field, and what a register, a field of a register and a
byte read as after a write. -/

namespace Sys2Proof.Machine

/-! ### setWord -/

@[simp] theorem State.setWord_pending (s : State) (a : Nat) (w : Word) : (s.setWord a w).pending = s.pending := rfl
@[simp] theorem State.setWord_applied (s : State) (a : Nat) (w : Word) : (s.setWord a w).applied = s.applied := rfl
@[simp] theorem State.setWord_latch (s : State) (a : Nat) (w : Word) : (s.setWord a w).latch = s.latch := rfl
@[simp] theorem State.setWord_sram (s : State) (a : Nat) (w : Word) : (s.setWord a w).sram = s.sram := rfl
@[simp] theorem State.setWord_gddr (s : State) (a : Nat) (w : Word) : (s.setWord a w).gddr = s.gddr := rfl
@[simp] theorem State.setWord_flash (s : State) (a : Nat) (w : Word) : (s.setWord a w).flash = s.flash := rfl
@[simp] theorem State.setWord_freeCtr (s : State) (a : Nat) (w : Word) : (s.setWord a w).freeCtr = s.freeCtr := rfl
@[simp] theorem State.setWord_resp (s : State) (a : Nat) (w : Word) : (s.setWord a w).resp = s.resp := rfl
@[simp] theorem State.setWord_pins (s : State) (a : Nat) (w : Word) : (s.setWord a w).pins = s.pins := rfl
@[simp] theorem State.setWord_sys (s : State) (a : Nat) (w : Word) : (s.setWord a w).sys = s.sys := rfl
@[simp] theorem State.setWord_flt (s : State) (a : Nat) (w : Word) : (s.setWord a w).flt = s.flt := rfl
@[simp] theorem State.setWord_pwr (s : State) (a : Nat) (w : Word) : (s.setWord a w).pwr = s.pwr := rfl
@[simp] theorem State.setWord_alm (s : State) (a : Nat) (w : Word) : (s.setWord a w).alm = s.alm := rfl
@[simp] theorem State.setWord_lnk (s : State) (a : Nat) (w : Word) : (s.setWord a w).lnk = s.lnk := rfl
@[simp] theorem State.setWord_fcv (s : State) (a : Nat) (w : Word) : (s.setWord a w).fcv = s.fcv := rfl
@[simp] theorem State.setWord_ddc (s : State) (a : Nat) (w : Word) : (s.setWord a w).ddc = s.ddc := rfl
@[simp] theorem State.setWord_fft (s : State) (a : Nat) (w : Word) : (s.setWord a w).fft = s.fft := rfl
@[simp] theorem State.setWord_trg (s : State) (a : Nat) (w : Word) : (s.setWord a w).trg = s.trg := rfl
@[simp] theorem State.setWord_acq (s : State) (a : Nat) (w : Word) : (s.setWord a w).acq = s.acq := rfl
@[simp] theorem State.setWord_neb (s : State) (a : Nat) (w : Word) : (s.setWord a w).neb = s.neb := rfl
@[simp] theorem State.setWord_dpy (s : State) (a : Nat) (w : Word) : (s.setWord a w).dpy = s.dpy := rfl
@[simp] theorem State.setWord_lod (s : State) (a : Nat) (w : Word) : (s.setWord a w).lod = s.lod := rfl
@[simp] theorem State.setWord_dma (s : State) (a : Nat) (w : Word) : (s.setWord a w).dma = s.dma := rfl
@[simp] theorem State.setWord_hpt (s : State) (a : Nat) (w : Word) : (s.setWord a w).hpt = s.hpt := rfl
@[simp] theorem State.setWord_spt (s : State) (a : Nat) (w : Word) : (s.setWord a w).spt = s.spt := rfl
@[simp] theorem State.setWord_mem (s : State) (a : Nat) (w : Word) : (s.setWord a w).mem = s.mem := rfl
@[simp] theorem State.setWord_aux (s : State) (a : Nat) (w : Word) : (s.setWord a w).aux = s.aux := rfl
@[simp] theorem State.setWord_srv (s : State) (a : Nat) (w : Word) : (s.setWord a w).srv = s.srv := rfl
@[simp] theorem State.setWord_cst (s : State) (a : Nat) (w : Word) : (s.setWord a w).cst = s.cst := rfl
@[simp] theorem State.setWord_upd (s : State) (a : Nat) (w : Word) : (s.setWord a w).upd = s.upd := rfl
@[simp] theorem State.setWord_boot (s : State) (a : Nat) (w : Word) : (s.setWord a w).boot = s.boot := rfl

/-! ### setAppWord -/

@[simp] theorem State.setAppWord_pending (s : State) (a : Nat) (w : Word) : (s.setAppWord a w).pending = s.pending := rfl
@[simp] theorem State.setAppWord_regs (s : State) (a : Nat) (w : Word) : (s.setAppWord a w).regs = s.regs := rfl
@[simp] theorem State.setAppWord_latch (s : State) (a : Nat) (w : Word) : (s.setAppWord a w).latch = s.latch := rfl
@[simp] theorem State.setAppWord_sram (s : State) (a : Nat) (w : Word) : (s.setAppWord a w).sram = s.sram := rfl
@[simp] theorem State.setAppWord_gddr (s : State) (a : Nat) (w : Word) : (s.setAppWord a w).gddr = s.gddr := rfl
@[simp] theorem State.setAppWord_flash (s : State) (a : Nat) (w : Word) : (s.setAppWord a w).flash = s.flash := rfl
@[simp] theorem State.setAppWord_freeCtr (s : State) (a : Nat) (w : Word) : (s.setAppWord a w).freeCtr = s.freeCtr := rfl
@[simp] theorem State.setAppWord_resp (s : State) (a : Nat) (w : Word) : (s.setAppWord a w).resp = s.resp := rfl
@[simp] theorem State.setAppWord_pins (s : State) (a : Nat) (w : Word) : (s.setAppWord a w).pins = s.pins := rfl
@[simp] theorem State.setAppWord_sys (s : State) (a : Nat) (w : Word) : (s.setAppWord a w).sys = s.sys := rfl
@[simp] theorem State.setAppWord_flt (s : State) (a : Nat) (w : Word) : (s.setAppWord a w).flt = s.flt := rfl
@[simp] theorem State.setAppWord_pwr (s : State) (a : Nat) (w : Word) : (s.setAppWord a w).pwr = s.pwr := rfl
@[simp] theorem State.setAppWord_alm (s : State) (a : Nat) (w : Word) : (s.setAppWord a w).alm = s.alm := rfl
@[simp] theorem State.setAppWord_lnk (s : State) (a : Nat) (w : Word) : (s.setAppWord a w).lnk = s.lnk := rfl
@[simp] theorem State.setAppWord_fcv (s : State) (a : Nat) (w : Word) : (s.setAppWord a w).fcv = s.fcv := rfl
@[simp] theorem State.setAppWord_ddc (s : State) (a : Nat) (w : Word) : (s.setAppWord a w).ddc = s.ddc := rfl
@[simp] theorem State.setAppWord_fft (s : State) (a : Nat) (w : Word) : (s.setAppWord a w).fft = s.fft := rfl
@[simp] theorem State.setAppWord_trg (s : State) (a : Nat) (w : Word) : (s.setAppWord a w).trg = s.trg := rfl
@[simp] theorem State.setAppWord_acq (s : State) (a : Nat) (w : Word) : (s.setAppWord a w).acq = s.acq := rfl
@[simp] theorem State.setAppWord_neb (s : State) (a : Nat) (w : Word) : (s.setAppWord a w).neb = s.neb := rfl
@[simp] theorem State.setAppWord_dpy (s : State) (a : Nat) (w : Word) : (s.setAppWord a w).dpy = s.dpy := rfl
@[simp] theorem State.setAppWord_lod (s : State) (a : Nat) (w : Word) : (s.setAppWord a w).lod = s.lod := rfl
@[simp] theorem State.setAppWord_dma (s : State) (a : Nat) (w : Word) : (s.setAppWord a w).dma = s.dma := rfl
@[simp] theorem State.setAppWord_hpt (s : State) (a : Nat) (w : Word) : (s.setAppWord a w).hpt = s.hpt := rfl
@[simp] theorem State.setAppWord_spt (s : State) (a : Nat) (w : Word) : (s.setAppWord a w).spt = s.spt := rfl
@[simp] theorem State.setAppWord_mem (s : State) (a : Nat) (w : Word) : (s.setAppWord a w).mem = s.mem := rfl
@[simp] theorem State.setAppWord_aux (s : State) (a : Nat) (w : Word) : (s.setAppWord a w).aux = s.aux := rfl
@[simp] theorem State.setAppWord_srv (s : State) (a : Nat) (w : Word) : (s.setAppWord a w).srv = s.srv := rfl
@[simp] theorem State.setAppWord_cst (s : State) (a : Nat) (w : Word) : (s.setAppWord a w).cst = s.cst := rfl
@[simp] theorem State.setAppWord_upd (s : State) (a : Nat) (w : Word) : (s.setAppWord a w).upd = s.upd := rfl
@[simp] theorem State.setAppWord_boot (s : State) (a : Nat) (w : Word) : (s.setAppWord a w).boot = s.boot := rfl

/-! ### setSramByte -/

@[simp] theorem State.setSramByte_pending (s : State) (a : Nat) (b : Byte) : (s.setSramByte a b).pending = s.pending := rfl
@[simp] theorem State.setSramByte_regs (s : State) (a : Nat) (b : Byte) : (s.setSramByte a b).regs = s.regs := rfl
@[simp] theorem State.setSramByte_applied (s : State) (a : Nat) (b : Byte) : (s.setSramByte a b).applied = s.applied := rfl
@[simp] theorem State.setSramByte_latch (s : State) (a : Nat) (b : Byte) : (s.setSramByte a b).latch = s.latch := rfl
@[simp] theorem State.setSramByte_gddr (s : State) (a : Nat) (b : Byte) : (s.setSramByte a b).gddr = s.gddr := rfl
@[simp] theorem State.setSramByte_flash (s : State) (a : Nat) (b : Byte) : (s.setSramByte a b).flash = s.flash := rfl
@[simp] theorem State.setSramByte_freeCtr (s : State) (a : Nat) (b : Byte) : (s.setSramByte a b).freeCtr = s.freeCtr := rfl
@[simp] theorem State.setSramByte_resp (s : State) (a : Nat) (b : Byte) : (s.setSramByte a b).resp = s.resp := rfl
@[simp] theorem State.setSramByte_pins (s : State) (a : Nat) (b : Byte) : (s.setSramByte a b).pins = s.pins := rfl
@[simp] theorem State.setSramByte_sys (s : State) (a : Nat) (b : Byte) : (s.setSramByte a b).sys = s.sys := rfl
@[simp] theorem State.setSramByte_flt (s : State) (a : Nat) (b : Byte) : (s.setSramByte a b).flt = s.flt := rfl
@[simp] theorem State.setSramByte_pwr (s : State) (a : Nat) (b : Byte) : (s.setSramByte a b).pwr = s.pwr := rfl
@[simp] theorem State.setSramByte_alm (s : State) (a : Nat) (b : Byte) : (s.setSramByte a b).alm = s.alm := rfl
@[simp] theorem State.setSramByte_lnk (s : State) (a : Nat) (b : Byte) : (s.setSramByte a b).lnk = s.lnk := rfl
@[simp] theorem State.setSramByte_fcv (s : State) (a : Nat) (b : Byte) : (s.setSramByte a b).fcv = s.fcv := rfl
@[simp] theorem State.setSramByte_ddc (s : State) (a : Nat) (b : Byte) : (s.setSramByte a b).ddc = s.ddc := rfl
@[simp] theorem State.setSramByte_fft (s : State) (a : Nat) (b : Byte) : (s.setSramByte a b).fft = s.fft := rfl
@[simp] theorem State.setSramByte_trg (s : State) (a : Nat) (b : Byte) : (s.setSramByte a b).trg = s.trg := rfl
@[simp] theorem State.setSramByte_acq (s : State) (a : Nat) (b : Byte) : (s.setSramByte a b).acq = s.acq := rfl
@[simp] theorem State.setSramByte_neb (s : State) (a : Nat) (b : Byte) : (s.setSramByte a b).neb = s.neb := rfl
@[simp] theorem State.setSramByte_dpy (s : State) (a : Nat) (b : Byte) : (s.setSramByte a b).dpy = s.dpy := rfl
@[simp] theorem State.setSramByte_lod (s : State) (a : Nat) (b : Byte) : (s.setSramByte a b).lod = s.lod := rfl
@[simp] theorem State.setSramByte_dma (s : State) (a : Nat) (b : Byte) : (s.setSramByte a b).dma = s.dma := rfl
@[simp] theorem State.setSramByte_hpt (s : State) (a : Nat) (b : Byte) : (s.setSramByte a b).hpt = s.hpt := rfl
@[simp] theorem State.setSramByte_spt (s : State) (a : Nat) (b : Byte) : (s.setSramByte a b).spt = s.spt := rfl
@[simp] theorem State.setSramByte_mem (s : State) (a : Nat) (b : Byte) : (s.setSramByte a b).mem = s.mem := rfl
@[simp] theorem State.setSramByte_aux (s : State) (a : Nat) (b : Byte) : (s.setSramByte a b).aux = s.aux := rfl
@[simp] theorem State.setSramByte_srv (s : State) (a : Nat) (b : Byte) : (s.setSramByte a b).srv = s.srv := rfl
@[simp] theorem State.setSramByte_cst (s : State) (a : Nat) (b : Byte) : (s.setSramByte a b).cst = s.cst := rfl
@[simp] theorem State.setSramByte_upd (s : State) (a : Nat) (b : Byte) : (s.setSramByte a b).upd = s.upd := rfl
@[simp] theorem State.setSramByte_boot (s : State) (a : Nat) (b : Byte) : (s.setSramByte a b).boot = s.boot := rfl

/-! ### setGddrByte -/

@[simp] theorem State.setGddrByte_pending (s : State) (a : Nat) (b : Byte) : (s.setGddrByte a b).pending = s.pending := rfl
@[simp] theorem State.setGddrByte_regs (s : State) (a : Nat) (b : Byte) : (s.setGddrByte a b).regs = s.regs := rfl
@[simp] theorem State.setGddrByte_applied (s : State) (a : Nat) (b : Byte) : (s.setGddrByte a b).applied = s.applied := rfl
@[simp] theorem State.setGddrByte_latch (s : State) (a : Nat) (b : Byte) : (s.setGddrByte a b).latch = s.latch := rfl
@[simp] theorem State.setGddrByte_sram (s : State) (a : Nat) (b : Byte) : (s.setGddrByte a b).sram = s.sram := rfl
@[simp] theorem State.setGddrByte_flash (s : State) (a : Nat) (b : Byte) : (s.setGddrByte a b).flash = s.flash := rfl
@[simp] theorem State.setGddrByte_freeCtr (s : State) (a : Nat) (b : Byte) : (s.setGddrByte a b).freeCtr = s.freeCtr := rfl
@[simp] theorem State.setGddrByte_resp (s : State) (a : Nat) (b : Byte) : (s.setGddrByte a b).resp = s.resp := rfl
@[simp] theorem State.setGddrByte_pins (s : State) (a : Nat) (b : Byte) : (s.setGddrByte a b).pins = s.pins := rfl
@[simp] theorem State.setGddrByte_sys (s : State) (a : Nat) (b : Byte) : (s.setGddrByte a b).sys = s.sys := rfl
@[simp] theorem State.setGddrByte_flt (s : State) (a : Nat) (b : Byte) : (s.setGddrByte a b).flt = s.flt := rfl
@[simp] theorem State.setGddrByte_pwr (s : State) (a : Nat) (b : Byte) : (s.setGddrByte a b).pwr = s.pwr := rfl
@[simp] theorem State.setGddrByte_alm (s : State) (a : Nat) (b : Byte) : (s.setGddrByte a b).alm = s.alm := rfl
@[simp] theorem State.setGddrByte_lnk (s : State) (a : Nat) (b : Byte) : (s.setGddrByte a b).lnk = s.lnk := rfl
@[simp] theorem State.setGddrByte_fcv (s : State) (a : Nat) (b : Byte) : (s.setGddrByte a b).fcv = s.fcv := rfl
@[simp] theorem State.setGddrByte_ddc (s : State) (a : Nat) (b : Byte) : (s.setGddrByte a b).ddc = s.ddc := rfl
@[simp] theorem State.setGddrByte_fft (s : State) (a : Nat) (b : Byte) : (s.setGddrByte a b).fft = s.fft := rfl
@[simp] theorem State.setGddrByte_trg (s : State) (a : Nat) (b : Byte) : (s.setGddrByte a b).trg = s.trg := rfl
@[simp] theorem State.setGddrByte_acq (s : State) (a : Nat) (b : Byte) : (s.setGddrByte a b).acq = s.acq := rfl
@[simp] theorem State.setGddrByte_neb (s : State) (a : Nat) (b : Byte) : (s.setGddrByte a b).neb = s.neb := rfl
@[simp] theorem State.setGddrByte_dpy (s : State) (a : Nat) (b : Byte) : (s.setGddrByte a b).dpy = s.dpy := rfl
@[simp] theorem State.setGddrByte_lod (s : State) (a : Nat) (b : Byte) : (s.setGddrByte a b).lod = s.lod := rfl
@[simp] theorem State.setGddrByte_dma (s : State) (a : Nat) (b : Byte) : (s.setGddrByte a b).dma = s.dma := rfl
@[simp] theorem State.setGddrByte_hpt (s : State) (a : Nat) (b : Byte) : (s.setGddrByte a b).hpt = s.hpt := rfl
@[simp] theorem State.setGddrByte_spt (s : State) (a : Nat) (b : Byte) : (s.setGddrByte a b).spt = s.spt := rfl
@[simp] theorem State.setGddrByte_mem (s : State) (a : Nat) (b : Byte) : (s.setGddrByte a b).mem = s.mem := rfl
@[simp] theorem State.setGddrByte_aux (s : State) (a : Nat) (b : Byte) : (s.setGddrByte a b).aux = s.aux := rfl
@[simp] theorem State.setGddrByte_srv (s : State) (a : Nat) (b : Byte) : (s.setGddrByte a b).srv = s.srv := rfl
@[simp] theorem State.setGddrByte_cst (s : State) (a : Nat) (b : Byte) : (s.setGddrByte a b).cst = s.cst := rfl
@[simp] theorem State.setGddrByte_upd (s : State) (a : Nat) (b : Byte) : (s.setGddrByte a b).upd = s.upd := rfl
@[simp] theorem State.setGddrByte_boot (s : State) (a : Nat) (b : Byte) : (s.setGddrByte a b).boot = s.boot := rfl

/-! ### setFlashByte -/

@[simp] theorem State.setFlashByte_pending (s : State) (a : Nat) (b : Byte) : (s.setFlashByte a b).pending = s.pending := rfl
@[simp] theorem State.setFlashByte_regs (s : State) (a : Nat) (b : Byte) : (s.setFlashByte a b).regs = s.regs := rfl
@[simp] theorem State.setFlashByte_applied (s : State) (a : Nat) (b : Byte) : (s.setFlashByte a b).applied = s.applied := rfl
@[simp] theorem State.setFlashByte_latch (s : State) (a : Nat) (b : Byte) : (s.setFlashByte a b).latch = s.latch := rfl
@[simp] theorem State.setFlashByte_sram (s : State) (a : Nat) (b : Byte) : (s.setFlashByte a b).sram = s.sram := rfl
@[simp] theorem State.setFlashByte_gddr (s : State) (a : Nat) (b : Byte) : (s.setFlashByte a b).gddr = s.gddr := rfl
@[simp] theorem State.setFlashByte_freeCtr (s : State) (a : Nat) (b : Byte) : (s.setFlashByte a b).freeCtr = s.freeCtr := rfl
@[simp] theorem State.setFlashByte_resp (s : State) (a : Nat) (b : Byte) : (s.setFlashByte a b).resp = s.resp := rfl
@[simp] theorem State.setFlashByte_pins (s : State) (a : Nat) (b : Byte) : (s.setFlashByte a b).pins = s.pins := rfl
@[simp] theorem State.setFlashByte_sys (s : State) (a : Nat) (b : Byte) : (s.setFlashByte a b).sys = s.sys := rfl
@[simp] theorem State.setFlashByte_flt (s : State) (a : Nat) (b : Byte) : (s.setFlashByte a b).flt = s.flt := rfl
@[simp] theorem State.setFlashByte_pwr (s : State) (a : Nat) (b : Byte) : (s.setFlashByte a b).pwr = s.pwr := rfl
@[simp] theorem State.setFlashByte_alm (s : State) (a : Nat) (b : Byte) : (s.setFlashByte a b).alm = s.alm := rfl
@[simp] theorem State.setFlashByte_lnk (s : State) (a : Nat) (b : Byte) : (s.setFlashByte a b).lnk = s.lnk := rfl
@[simp] theorem State.setFlashByte_fcv (s : State) (a : Nat) (b : Byte) : (s.setFlashByte a b).fcv = s.fcv := rfl
@[simp] theorem State.setFlashByte_ddc (s : State) (a : Nat) (b : Byte) : (s.setFlashByte a b).ddc = s.ddc := rfl
@[simp] theorem State.setFlashByte_fft (s : State) (a : Nat) (b : Byte) : (s.setFlashByte a b).fft = s.fft := rfl
@[simp] theorem State.setFlashByte_trg (s : State) (a : Nat) (b : Byte) : (s.setFlashByte a b).trg = s.trg := rfl
@[simp] theorem State.setFlashByte_acq (s : State) (a : Nat) (b : Byte) : (s.setFlashByte a b).acq = s.acq := rfl
@[simp] theorem State.setFlashByte_neb (s : State) (a : Nat) (b : Byte) : (s.setFlashByte a b).neb = s.neb := rfl
@[simp] theorem State.setFlashByte_dpy (s : State) (a : Nat) (b : Byte) : (s.setFlashByte a b).dpy = s.dpy := rfl
@[simp] theorem State.setFlashByte_lod (s : State) (a : Nat) (b : Byte) : (s.setFlashByte a b).lod = s.lod := rfl
@[simp] theorem State.setFlashByte_dma (s : State) (a : Nat) (b : Byte) : (s.setFlashByte a b).dma = s.dma := rfl
@[simp] theorem State.setFlashByte_hpt (s : State) (a : Nat) (b : Byte) : (s.setFlashByte a b).hpt = s.hpt := rfl
@[simp] theorem State.setFlashByte_spt (s : State) (a : Nat) (b : Byte) : (s.setFlashByte a b).spt = s.spt := rfl
@[simp] theorem State.setFlashByte_mem (s : State) (a : Nat) (b : Byte) : (s.setFlashByte a b).mem = s.mem := rfl
@[simp] theorem State.setFlashByte_aux (s : State) (a : Nat) (b : Byte) : (s.setFlashByte a b).aux = s.aux := rfl
@[simp] theorem State.setFlashByte_srv (s : State) (a : Nat) (b : Byte) : (s.setFlashByte a b).srv = s.srv := rfl
@[simp] theorem State.setFlashByte_cst (s : State) (a : Nat) (b : Byte) : (s.setFlashByte a b).cst = s.cst := rfl
@[simp] theorem State.setFlashByte_upd (s : State) (a : Nat) (b : Byte) : (s.setFlashByte a b).upd = s.upd := rfl
@[simp] theorem State.setFlashByte_boot (s : State) (a : Nat) (b : Byte) : (s.setFlashByte a b).boot = s.boot := rfl

/-! ### put -/

@[simp] theorem State.put_pending (s : State) (f : Fld) (v : Nat) : (s.put f v).pending = s.pending := rfl
@[simp] theorem State.put_applied (s : State) (f : Fld) (v : Nat) : (s.put f v).applied = s.applied := rfl
@[simp] theorem State.put_latch (s : State) (f : Fld) (v : Nat) : (s.put f v).latch = s.latch := rfl
@[simp] theorem State.put_sram (s : State) (f : Fld) (v : Nat) : (s.put f v).sram = s.sram := rfl
@[simp] theorem State.put_gddr (s : State) (f : Fld) (v : Nat) : (s.put f v).gddr = s.gddr := rfl
@[simp] theorem State.put_flash (s : State) (f : Fld) (v : Nat) : (s.put f v).flash = s.flash := rfl
@[simp] theorem State.put_freeCtr (s : State) (f : Fld) (v : Nat) : (s.put f v).freeCtr = s.freeCtr := rfl
@[simp] theorem State.put_resp (s : State) (f : Fld) (v : Nat) : (s.put f v).resp = s.resp := rfl
@[simp] theorem State.put_pins (s : State) (f : Fld) (v : Nat) : (s.put f v).pins = s.pins := rfl
@[simp] theorem State.put_sys (s : State) (f : Fld) (v : Nat) : (s.put f v).sys = s.sys := rfl
@[simp] theorem State.put_flt (s : State) (f : Fld) (v : Nat) : (s.put f v).flt = s.flt := rfl
@[simp] theorem State.put_pwr (s : State) (f : Fld) (v : Nat) : (s.put f v).pwr = s.pwr := rfl
@[simp] theorem State.put_alm (s : State) (f : Fld) (v : Nat) : (s.put f v).alm = s.alm := rfl
@[simp] theorem State.put_lnk (s : State) (f : Fld) (v : Nat) : (s.put f v).lnk = s.lnk := rfl
@[simp] theorem State.put_fcv (s : State) (f : Fld) (v : Nat) : (s.put f v).fcv = s.fcv := rfl
@[simp] theorem State.put_ddc (s : State) (f : Fld) (v : Nat) : (s.put f v).ddc = s.ddc := rfl
@[simp] theorem State.put_fft (s : State) (f : Fld) (v : Nat) : (s.put f v).fft = s.fft := rfl
@[simp] theorem State.put_trg (s : State) (f : Fld) (v : Nat) : (s.put f v).trg = s.trg := rfl
@[simp] theorem State.put_acq (s : State) (f : Fld) (v : Nat) : (s.put f v).acq = s.acq := rfl
@[simp] theorem State.put_neb (s : State) (f : Fld) (v : Nat) : (s.put f v).neb = s.neb := rfl
@[simp] theorem State.put_dpy (s : State) (f : Fld) (v : Nat) : (s.put f v).dpy = s.dpy := rfl
@[simp] theorem State.put_lod (s : State) (f : Fld) (v : Nat) : (s.put f v).lod = s.lod := rfl
@[simp] theorem State.put_dma (s : State) (f : Fld) (v : Nat) : (s.put f v).dma = s.dma := rfl
@[simp] theorem State.put_hpt (s : State) (f : Fld) (v : Nat) : (s.put f v).hpt = s.hpt := rfl
@[simp] theorem State.put_spt (s : State) (f : Fld) (v : Nat) : (s.put f v).spt = s.spt := rfl
@[simp] theorem State.put_mem (s : State) (f : Fld) (v : Nat) : (s.put f v).mem = s.mem := rfl
@[simp] theorem State.put_aux (s : State) (f : Fld) (v : Nat) : (s.put f v).aux = s.aux := rfl
@[simp] theorem State.put_srv (s : State) (f : Fld) (v : Nat) : (s.put f v).srv = s.srv := rfl
@[simp] theorem State.put_cst (s : State) (f : Fld) (v : Nat) : (s.put f v).cst = s.cst := rfl
@[simp] theorem State.put_upd (s : State) (f : Fld) (v : Nat) : (s.put f v).upd = s.upd := rfl
@[simp] theorem State.put_boot (s : State) (f : Fld) (v : Nat) : (s.put f v).boot = s.boot := rfl

/-! ### putB -/

@[simp] theorem State.putB_pending (s : State) (f : Fld) (b : Bool) : (s.putB f b).pending = s.pending := rfl
@[simp] theorem State.putB_applied (s : State) (f : Fld) (b : Bool) : (s.putB f b).applied = s.applied := rfl
@[simp] theorem State.putB_latch (s : State) (f : Fld) (b : Bool) : (s.putB f b).latch = s.latch := rfl
@[simp] theorem State.putB_sram (s : State) (f : Fld) (b : Bool) : (s.putB f b).sram = s.sram := rfl
@[simp] theorem State.putB_gddr (s : State) (f : Fld) (b : Bool) : (s.putB f b).gddr = s.gddr := rfl
@[simp] theorem State.putB_flash (s : State) (f : Fld) (b : Bool) : (s.putB f b).flash = s.flash := rfl
@[simp] theorem State.putB_freeCtr (s : State) (f : Fld) (b : Bool) : (s.putB f b).freeCtr = s.freeCtr := rfl
@[simp] theorem State.putB_resp (s : State) (f : Fld) (b : Bool) : (s.putB f b).resp = s.resp := rfl
@[simp] theorem State.putB_pins (s : State) (f : Fld) (b : Bool) : (s.putB f b).pins = s.pins := rfl
@[simp] theorem State.putB_sys (s : State) (f : Fld) (b : Bool) : (s.putB f b).sys = s.sys := rfl
@[simp] theorem State.putB_flt (s : State) (f : Fld) (b : Bool) : (s.putB f b).flt = s.flt := rfl
@[simp] theorem State.putB_pwr (s : State) (f : Fld) (b : Bool) : (s.putB f b).pwr = s.pwr := rfl
@[simp] theorem State.putB_alm (s : State) (f : Fld) (b : Bool) : (s.putB f b).alm = s.alm := rfl
@[simp] theorem State.putB_lnk (s : State) (f : Fld) (b : Bool) : (s.putB f b).lnk = s.lnk := rfl
@[simp] theorem State.putB_fcv (s : State) (f : Fld) (b : Bool) : (s.putB f b).fcv = s.fcv := rfl
@[simp] theorem State.putB_ddc (s : State) (f : Fld) (b : Bool) : (s.putB f b).ddc = s.ddc := rfl
@[simp] theorem State.putB_fft (s : State) (f : Fld) (b : Bool) : (s.putB f b).fft = s.fft := rfl
@[simp] theorem State.putB_trg (s : State) (f : Fld) (b : Bool) : (s.putB f b).trg = s.trg := rfl
@[simp] theorem State.putB_acq (s : State) (f : Fld) (b : Bool) : (s.putB f b).acq = s.acq := rfl
@[simp] theorem State.putB_neb (s : State) (f : Fld) (b : Bool) : (s.putB f b).neb = s.neb := rfl
@[simp] theorem State.putB_dpy (s : State) (f : Fld) (b : Bool) : (s.putB f b).dpy = s.dpy := rfl
@[simp] theorem State.putB_lod (s : State) (f : Fld) (b : Bool) : (s.putB f b).lod = s.lod := rfl
@[simp] theorem State.putB_dma (s : State) (f : Fld) (b : Bool) : (s.putB f b).dma = s.dma := rfl
@[simp] theorem State.putB_hpt (s : State) (f : Fld) (b : Bool) : (s.putB f b).hpt = s.hpt := rfl
@[simp] theorem State.putB_spt (s : State) (f : Fld) (b : Bool) : (s.putB f b).spt = s.spt := rfl
@[simp] theorem State.putB_mem (s : State) (f : Fld) (b : Bool) : (s.putB f b).mem = s.mem := rfl
@[simp] theorem State.putB_aux (s : State) (f : Fld) (b : Bool) : (s.putB f b).aux = s.aux := rfl
@[simp] theorem State.putB_srv (s : State) (f : Fld) (b : Bool) : (s.putB f b).srv = s.srv := rfl
@[simp] theorem State.putB_cst (s : State) (f : Fld) (b : Bool) : (s.putB f b).cst = s.cst := rfl
@[simp] theorem State.putB_upd (s : State) (f : Fld) (b : Bool) : (s.putB f b).upd = s.upd := rfl
@[simp] theorem State.putB_boot (s : State) (f : Fld) (b : Bool) : (s.putB f b).boot = s.boot := rfl

/-! ### putApp -/

@[simp] theorem State.putApp_pending (s : State) (f : Fld) (v : Nat) : (s.putApp f v).pending = s.pending := rfl
@[simp] theorem State.putApp_regs (s : State) (f : Fld) (v : Nat) : (s.putApp f v).regs = s.regs := rfl
@[simp] theorem State.putApp_latch (s : State) (f : Fld) (v : Nat) : (s.putApp f v).latch = s.latch := rfl
@[simp] theorem State.putApp_sram (s : State) (f : Fld) (v : Nat) : (s.putApp f v).sram = s.sram := rfl
@[simp] theorem State.putApp_gddr (s : State) (f : Fld) (v : Nat) : (s.putApp f v).gddr = s.gddr := rfl
@[simp] theorem State.putApp_flash (s : State) (f : Fld) (v : Nat) : (s.putApp f v).flash = s.flash := rfl
@[simp] theorem State.putApp_freeCtr (s : State) (f : Fld) (v : Nat) : (s.putApp f v).freeCtr = s.freeCtr := rfl
@[simp] theorem State.putApp_resp (s : State) (f : Fld) (v : Nat) : (s.putApp f v).resp = s.resp := rfl
@[simp] theorem State.putApp_pins (s : State) (f : Fld) (v : Nat) : (s.putApp f v).pins = s.pins := rfl
@[simp] theorem State.putApp_sys (s : State) (f : Fld) (v : Nat) : (s.putApp f v).sys = s.sys := rfl
@[simp] theorem State.putApp_flt (s : State) (f : Fld) (v : Nat) : (s.putApp f v).flt = s.flt := rfl
@[simp] theorem State.putApp_pwr (s : State) (f : Fld) (v : Nat) : (s.putApp f v).pwr = s.pwr := rfl
@[simp] theorem State.putApp_alm (s : State) (f : Fld) (v : Nat) : (s.putApp f v).alm = s.alm := rfl
@[simp] theorem State.putApp_lnk (s : State) (f : Fld) (v : Nat) : (s.putApp f v).lnk = s.lnk := rfl
@[simp] theorem State.putApp_fcv (s : State) (f : Fld) (v : Nat) : (s.putApp f v).fcv = s.fcv := rfl
@[simp] theorem State.putApp_ddc (s : State) (f : Fld) (v : Nat) : (s.putApp f v).ddc = s.ddc := rfl
@[simp] theorem State.putApp_fft (s : State) (f : Fld) (v : Nat) : (s.putApp f v).fft = s.fft := rfl
@[simp] theorem State.putApp_trg (s : State) (f : Fld) (v : Nat) : (s.putApp f v).trg = s.trg := rfl
@[simp] theorem State.putApp_acq (s : State) (f : Fld) (v : Nat) : (s.putApp f v).acq = s.acq := rfl
@[simp] theorem State.putApp_neb (s : State) (f : Fld) (v : Nat) : (s.putApp f v).neb = s.neb := rfl
@[simp] theorem State.putApp_dpy (s : State) (f : Fld) (v : Nat) : (s.putApp f v).dpy = s.dpy := rfl
@[simp] theorem State.putApp_lod (s : State) (f : Fld) (v : Nat) : (s.putApp f v).lod = s.lod := rfl
@[simp] theorem State.putApp_dma (s : State) (f : Fld) (v : Nat) : (s.putApp f v).dma = s.dma := rfl
@[simp] theorem State.putApp_hpt (s : State) (f : Fld) (v : Nat) : (s.putApp f v).hpt = s.hpt := rfl
@[simp] theorem State.putApp_spt (s : State) (f : Fld) (v : Nat) : (s.putApp f v).spt = s.spt := rfl
@[simp] theorem State.putApp_mem (s : State) (f : Fld) (v : Nat) : (s.putApp f v).mem = s.mem := rfl
@[simp] theorem State.putApp_aux (s : State) (f : Fld) (v : Nat) : (s.putApp f v).aux = s.aux := rfl
@[simp] theorem State.putApp_srv (s : State) (f : Fld) (v : Nat) : (s.putApp f v).srv = s.srv := rfl
@[simp] theorem State.putApp_cst (s : State) (f : Fld) (v : Nat) : (s.putApp f v).cst = s.cst := rfl
@[simp] theorem State.putApp_upd (s : State) (f : Fld) (v : Nat) : (s.putApp f v).upd = s.upd := rfl
@[simp] theorem State.putApp_boot (s : State) (f : Fld) (v : Nat) : (s.putApp f v).boot = s.boot := rfl

/-! ### bumpWrap -/

@[simp] theorem State.bumpWrap_pending (s : State) (f : Fld) : (s.bumpWrap f).pending = s.pending := rfl
@[simp] theorem State.bumpWrap_applied (s : State) (f : Fld) : (s.bumpWrap f).applied = s.applied := rfl
@[simp] theorem State.bumpWrap_latch (s : State) (f : Fld) : (s.bumpWrap f).latch = s.latch := rfl
@[simp] theorem State.bumpWrap_sram (s : State) (f : Fld) : (s.bumpWrap f).sram = s.sram := rfl
@[simp] theorem State.bumpWrap_gddr (s : State) (f : Fld) : (s.bumpWrap f).gddr = s.gddr := rfl
@[simp] theorem State.bumpWrap_flash (s : State) (f : Fld) : (s.bumpWrap f).flash = s.flash := rfl
@[simp] theorem State.bumpWrap_freeCtr (s : State) (f : Fld) : (s.bumpWrap f).freeCtr = s.freeCtr := rfl
@[simp] theorem State.bumpWrap_resp (s : State) (f : Fld) : (s.bumpWrap f).resp = s.resp := rfl
@[simp] theorem State.bumpWrap_pins (s : State) (f : Fld) : (s.bumpWrap f).pins = s.pins := rfl
@[simp] theorem State.bumpWrap_sys (s : State) (f : Fld) : (s.bumpWrap f).sys = s.sys := rfl
@[simp] theorem State.bumpWrap_flt (s : State) (f : Fld) : (s.bumpWrap f).flt = s.flt := rfl
@[simp] theorem State.bumpWrap_pwr (s : State) (f : Fld) : (s.bumpWrap f).pwr = s.pwr := rfl
@[simp] theorem State.bumpWrap_alm (s : State) (f : Fld) : (s.bumpWrap f).alm = s.alm := rfl
@[simp] theorem State.bumpWrap_lnk (s : State) (f : Fld) : (s.bumpWrap f).lnk = s.lnk := rfl
@[simp] theorem State.bumpWrap_fcv (s : State) (f : Fld) : (s.bumpWrap f).fcv = s.fcv := rfl
@[simp] theorem State.bumpWrap_ddc (s : State) (f : Fld) : (s.bumpWrap f).ddc = s.ddc := rfl
@[simp] theorem State.bumpWrap_fft (s : State) (f : Fld) : (s.bumpWrap f).fft = s.fft := rfl
@[simp] theorem State.bumpWrap_trg (s : State) (f : Fld) : (s.bumpWrap f).trg = s.trg := rfl
@[simp] theorem State.bumpWrap_acq (s : State) (f : Fld) : (s.bumpWrap f).acq = s.acq := rfl
@[simp] theorem State.bumpWrap_neb (s : State) (f : Fld) : (s.bumpWrap f).neb = s.neb := rfl
@[simp] theorem State.bumpWrap_dpy (s : State) (f : Fld) : (s.bumpWrap f).dpy = s.dpy := rfl
@[simp] theorem State.bumpWrap_lod (s : State) (f : Fld) : (s.bumpWrap f).lod = s.lod := rfl
@[simp] theorem State.bumpWrap_dma (s : State) (f : Fld) : (s.bumpWrap f).dma = s.dma := rfl
@[simp] theorem State.bumpWrap_hpt (s : State) (f : Fld) : (s.bumpWrap f).hpt = s.hpt := rfl
@[simp] theorem State.bumpWrap_spt (s : State) (f : Fld) : (s.bumpWrap f).spt = s.spt := rfl
@[simp] theorem State.bumpWrap_mem (s : State) (f : Fld) : (s.bumpWrap f).mem = s.mem := rfl
@[simp] theorem State.bumpWrap_aux (s : State) (f : Fld) : (s.bumpWrap f).aux = s.aux := rfl
@[simp] theorem State.bumpWrap_srv (s : State) (f : Fld) : (s.bumpWrap f).srv = s.srv := rfl
@[simp] theorem State.bumpWrap_cst (s : State) (f : Fld) : (s.bumpWrap f).cst = s.cst := rfl
@[simp] theorem State.bumpWrap_upd (s : State) (f : Fld) : (s.bumpWrap f).upd = s.upd := rfl
@[simp] theorem State.bumpWrap_boot (s : State) (f : Fld) : (s.bumpWrap f).boot = s.boot := rfl

/-! ### bumpBy -/

@[simp] theorem State.bumpBy_pending (s : State) (f : Fld) (k : Nat) : (s.bumpBy f k).pending = s.pending := rfl
@[simp] theorem State.bumpBy_applied (s : State) (f : Fld) (k : Nat) : (s.bumpBy f k).applied = s.applied := rfl
@[simp] theorem State.bumpBy_latch (s : State) (f : Fld) (k : Nat) : (s.bumpBy f k).latch = s.latch := rfl
@[simp] theorem State.bumpBy_sram (s : State) (f : Fld) (k : Nat) : (s.bumpBy f k).sram = s.sram := rfl
@[simp] theorem State.bumpBy_gddr (s : State) (f : Fld) (k : Nat) : (s.bumpBy f k).gddr = s.gddr := rfl
@[simp] theorem State.bumpBy_flash (s : State) (f : Fld) (k : Nat) : (s.bumpBy f k).flash = s.flash := rfl
@[simp] theorem State.bumpBy_freeCtr (s : State) (f : Fld) (k : Nat) : (s.bumpBy f k).freeCtr = s.freeCtr := rfl
@[simp] theorem State.bumpBy_resp (s : State) (f : Fld) (k : Nat) : (s.bumpBy f k).resp = s.resp := rfl
@[simp] theorem State.bumpBy_pins (s : State) (f : Fld) (k : Nat) : (s.bumpBy f k).pins = s.pins := rfl
@[simp] theorem State.bumpBy_sys (s : State) (f : Fld) (k : Nat) : (s.bumpBy f k).sys = s.sys := rfl
@[simp] theorem State.bumpBy_flt (s : State) (f : Fld) (k : Nat) : (s.bumpBy f k).flt = s.flt := rfl
@[simp] theorem State.bumpBy_pwr (s : State) (f : Fld) (k : Nat) : (s.bumpBy f k).pwr = s.pwr := rfl
@[simp] theorem State.bumpBy_alm (s : State) (f : Fld) (k : Nat) : (s.bumpBy f k).alm = s.alm := rfl
@[simp] theorem State.bumpBy_lnk (s : State) (f : Fld) (k : Nat) : (s.bumpBy f k).lnk = s.lnk := rfl
@[simp] theorem State.bumpBy_fcv (s : State) (f : Fld) (k : Nat) : (s.bumpBy f k).fcv = s.fcv := rfl
@[simp] theorem State.bumpBy_ddc (s : State) (f : Fld) (k : Nat) : (s.bumpBy f k).ddc = s.ddc := rfl
@[simp] theorem State.bumpBy_fft (s : State) (f : Fld) (k : Nat) : (s.bumpBy f k).fft = s.fft := rfl
@[simp] theorem State.bumpBy_trg (s : State) (f : Fld) (k : Nat) : (s.bumpBy f k).trg = s.trg := rfl
@[simp] theorem State.bumpBy_acq (s : State) (f : Fld) (k : Nat) : (s.bumpBy f k).acq = s.acq := rfl
@[simp] theorem State.bumpBy_neb (s : State) (f : Fld) (k : Nat) : (s.bumpBy f k).neb = s.neb := rfl
@[simp] theorem State.bumpBy_dpy (s : State) (f : Fld) (k : Nat) : (s.bumpBy f k).dpy = s.dpy := rfl
@[simp] theorem State.bumpBy_lod (s : State) (f : Fld) (k : Nat) : (s.bumpBy f k).lod = s.lod := rfl
@[simp] theorem State.bumpBy_dma (s : State) (f : Fld) (k : Nat) : (s.bumpBy f k).dma = s.dma := rfl
@[simp] theorem State.bumpBy_hpt (s : State) (f : Fld) (k : Nat) : (s.bumpBy f k).hpt = s.hpt := rfl
@[simp] theorem State.bumpBy_spt (s : State) (f : Fld) (k : Nat) : (s.bumpBy f k).spt = s.spt := rfl
@[simp] theorem State.bumpBy_mem (s : State) (f : Fld) (k : Nat) : (s.bumpBy f k).mem = s.mem := rfl
@[simp] theorem State.bumpBy_aux (s : State) (f : Fld) (k : Nat) : (s.bumpBy f k).aux = s.aux := rfl
@[simp] theorem State.bumpBy_srv (s : State) (f : Fld) (k : Nat) : (s.bumpBy f k).srv = s.srv := rfl
@[simp] theorem State.bumpBy_cst (s : State) (f : Fld) (k : Nat) : (s.bumpBy f k).cst = s.cst := rfl
@[simp] theorem State.bumpBy_upd (s : State) (f : Fld) (k : Nat) : (s.bumpBy f k).upd = s.upd := rfl
@[simp] theorem State.bumpBy_boot (s : State) (f : Fld) (k : Nat) : (s.bumpBy f k).boot = s.boot := rfl

/-! ### putPair -/

@[simp] theorem State.putPair_pending (s : State) (a v : Nat) : (s.putPair a v).pending = s.pending := rfl
@[simp] theorem State.putPair_applied (s : State) (a v : Nat) : (s.putPair a v).applied = s.applied := rfl
@[simp] theorem State.putPair_latch (s : State) (a v : Nat) : (s.putPair a v).latch = s.latch := rfl
@[simp] theorem State.putPair_sram (s : State) (a v : Nat) : (s.putPair a v).sram = s.sram := rfl
@[simp] theorem State.putPair_gddr (s : State) (a v : Nat) : (s.putPair a v).gddr = s.gddr := rfl
@[simp] theorem State.putPair_flash (s : State) (a v : Nat) : (s.putPair a v).flash = s.flash := rfl
@[simp] theorem State.putPair_freeCtr (s : State) (a v : Nat) : (s.putPair a v).freeCtr = s.freeCtr := rfl
@[simp] theorem State.putPair_resp (s : State) (a v : Nat) : (s.putPair a v).resp = s.resp := rfl
@[simp] theorem State.putPair_pins (s : State) (a v : Nat) : (s.putPair a v).pins = s.pins := rfl
@[simp] theorem State.putPair_sys (s : State) (a v : Nat) : (s.putPair a v).sys = s.sys := rfl
@[simp] theorem State.putPair_flt (s : State) (a v : Nat) : (s.putPair a v).flt = s.flt := rfl
@[simp] theorem State.putPair_pwr (s : State) (a v : Nat) : (s.putPair a v).pwr = s.pwr := rfl
@[simp] theorem State.putPair_alm (s : State) (a v : Nat) : (s.putPair a v).alm = s.alm := rfl
@[simp] theorem State.putPair_lnk (s : State) (a v : Nat) : (s.putPair a v).lnk = s.lnk := rfl
@[simp] theorem State.putPair_fcv (s : State) (a v : Nat) : (s.putPair a v).fcv = s.fcv := rfl
@[simp] theorem State.putPair_ddc (s : State) (a v : Nat) : (s.putPair a v).ddc = s.ddc := rfl
@[simp] theorem State.putPair_fft (s : State) (a v : Nat) : (s.putPair a v).fft = s.fft := rfl
@[simp] theorem State.putPair_trg (s : State) (a v : Nat) : (s.putPair a v).trg = s.trg := rfl
@[simp] theorem State.putPair_acq (s : State) (a v : Nat) : (s.putPair a v).acq = s.acq := rfl
@[simp] theorem State.putPair_neb (s : State) (a v : Nat) : (s.putPair a v).neb = s.neb := rfl
@[simp] theorem State.putPair_dpy (s : State) (a v : Nat) : (s.putPair a v).dpy = s.dpy := rfl
@[simp] theorem State.putPair_lod (s : State) (a v : Nat) : (s.putPair a v).lod = s.lod := rfl
@[simp] theorem State.putPair_dma (s : State) (a v : Nat) : (s.putPair a v).dma = s.dma := rfl
@[simp] theorem State.putPair_hpt (s : State) (a v : Nat) : (s.putPair a v).hpt = s.hpt := rfl
@[simp] theorem State.putPair_spt (s : State) (a v : Nat) : (s.putPair a v).spt = s.spt := rfl
@[simp] theorem State.putPair_mem (s : State) (a v : Nat) : (s.putPair a v).mem = s.mem := rfl
@[simp] theorem State.putPair_aux (s : State) (a v : Nat) : (s.putPair a v).aux = s.aux := rfl
@[simp] theorem State.putPair_srv (s : State) (a v : Nat) : (s.putPair a v).srv = s.srv := rfl
@[simp] theorem State.putPair_cst (s : State) (a v : Nat) : (s.putPair a v).cst = s.cst := rfl
@[simp] theorem State.putPair_upd (s : State) (a v : Nat) : (s.putPair a v).upd = s.upd := rfl
@[simp] theorem State.putPair_boot (s : State) (a v : Nat) : (s.putPair a v).boot = s.boot := rfl

/-! ### putStamp -/

@[simp] theorem State.putStamp_pending (s : State) (a : Nat) (t : Stamp) : (s.putStamp a t).pending = s.pending := rfl
@[simp] theorem State.putStamp_applied (s : State) (a : Nat) (t : Stamp) : (s.putStamp a t).applied = s.applied := rfl
@[simp] theorem State.putStamp_latch (s : State) (a : Nat) (t : Stamp) : (s.putStamp a t).latch = s.latch := rfl
@[simp] theorem State.putStamp_sram (s : State) (a : Nat) (t : Stamp) : (s.putStamp a t).sram = s.sram := rfl
@[simp] theorem State.putStamp_gddr (s : State) (a : Nat) (t : Stamp) : (s.putStamp a t).gddr = s.gddr := rfl
@[simp] theorem State.putStamp_flash (s : State) (a : Nat) (t : Stamp) : (s.putStamp a t).flash = s.flash := rfl
@[simp] theorem State.putStamp_freeCtr (s : State) (a : Nat) (t : Stamp) : (s.putStamp a t).freeCtr = s.freeCtr := rfl
@[simp] theorem State.putStamp_resp (s : State) (a : Nat) (t : Stamp) : (s.putStamp a t).resp = s.resp := rfl
@[simp] theorem State.putStamp_pins (s : State) (a : Nat) (t : Stamp) : (s.putStamp a t).pins = s.pins := rfl
@[simp] theorem State.putStamp_sys (s : State) (a : Nat) (t : Stamp) : (s.putStamp a t).sys = s.sys := rfl
@[simp] theorem State.putStamp_flt (s : State) (a : Nat) (t : Stamp) : (s.putStamp a t).flt = s.flt := rfl
@[simp] theorem State.putStamp_pwr (s : State) (a : Nat) (t : Stamp) : (s.putStamp a t).pwr = s.pwr := rfl
@[simp] theorem State.putStamp_alm (s : State) (a : Nat) (t : Stamp) : (s.putStamp a t).alm = s.alm := rfl
@[simp] theorem State.putStamp_lnk (s : State) (a : Nat) (t : Stamp) : (s.putStamp a t).lnk = s.lnk := rfl
@[simp] theorem State.putStamp_fcv (s : State) (a : Nat) (t : Stamp) : (s.putStamp a t).fcv = s.fcv := rfl
@[simp] theorem State.putStamp_ddc (s : State) (a : Nat) (t : Stamp) : (s.putStamp a t).ddc = s.ddc := rfl
@[simp] theorem State.putStamp_fft (s : State) (a : Nat) (t : Stamp) : (s.putStamp a t).fft = s.fft := rfl
@[simp] theorem State.putStamp_trg (s : State) (a : Nat) (t : Stamp) : (s.putStamp a t).trg = s.trg := rfl
@[simp] theorem State.putStamp_acq (s : State) (a : Nat) (t : Stamp) : (s.putStamp a t).acq = s.acq := rfl
@[simp] theorem State.putStamp_neb (s : State) (a : Nat) (t : Stamp) : (s.putStamp a t).neb = s.neb := rfl
@[simp] theorem State.putStamp_dpy (s : State) (a : Nat) (t : Stamp) : (s.putStamp a t).dpy = s.dpy := rfl
@[simp] theorem State.putStamp_lod (s : State) (a : Nat) (t : Stamp) : (s.putStamp a t).lod = s.lod := rfl
@[simp] theorem State.putStamp_dma (s : State) (a : Nat) (t : Stamp) : (s.putStamp a t).dma = s.dma := rfl
@[simp] theorem State.putStamp_hpt (s : State) (a : Nat) (t : Stamp) : (s.putStamp a t).hpt = s.hpt := rfl
@[simp] theorem State.putStamp_spt (s : State) (a : Nat) (t : Stamp) : (s.putStamp a t).spt = s.spt := rfl
@[simp] theorem State.putStamp_mem (s : State) (a : Nat) (t : Stamp) : (s.putStamp a t).mem = s.mem := rfl
@[simp] theorem State.putStamp_aux (s : State) (a : Nat) (t : Stamp) : (s.putStamp a t).aux = s.aux := rfl
@[simp] theorem State.putStamp_srv (s : State) (a : Nat) (t : Stamp) : (s.putStamp a t).srv = s.srv := rfl
@[simp] theorem State.putStamp_cst (s : State) (a : Nat) (t : Stamp) : (s.putStamp a t).cst = s.cst := rfl
@[simp] theorem State.putStamp_upd (s : State) (a : Nat) (t : Stamp) : (s.putStamp a t).upd = s.upd := rfl
@[simp] theorem State.putStamp_boot (s : State) (a : Nat) (t : Stamp) : (s.putStamp a t).boot = s.boot := rfl

/-! ### drawFree -/

@[simp] theorem State.drawFree_pending (s : State) : (s.drawFree).pending = s.pending := rfl
@[simp] theorem State.drawFree_regs (s : State) : (s.drawFree).regs = s.regs := rfl
@[simp] theorem State.drawFree_applied (s : State) : (s.drawFree).applied = s.applied := rfl
@[simp] theorem State.drawFree_latch (s : State) : (s.drawFree).latch = s.latch := rfl
@[simp] theorem State.drawFree_sram (s : State) : (s.drawFree).sram = s.sram := rfl
@[simp] theorem State.drawFree_gddr (s : State) : (s.drawFree).gddr = s.gddr := rfl
@[simp] theorem State.drawFree_flash (s : State) : (s.drawFree).flash = s.flash := rfl
@[simp] theorem State.drawFree_resp (s : State) : (s.drawFree).resp = s.resp := rfl
@[simp] theorem State.drawFree_pins (s : State) : (s.drawFree).pins = s.pins := rfl
@[simp] theorem State.drawFree_sys (s : State) : (s.drawFree).sys = s.sys := rfl
@[simp] theorem State.drawFree_flt (s : State) : (s.drawFree).flt = s.flt := rfl
@[simp] theorem State.drawFree_pwr (s : State) : (s.drawFree).pwr = s.pwr := rfl
@[simp] theorem State.drawFree_alm (s : State) : (s.drawFree).alm = s.alm := rfl
@[simp] theorem State.drawFree_lnk (s : State) : (s.drawFree).lnk = s.lnk := rfl
@[simp] theorem State.drawFree_fcv (s : State) : (s.drawFree).fcv = s.fcv := rfl
@[simp] theorem State.drawFree_ddc (s : State) : (s.drawFree).ddc = s.ddc := rfl
@[simp] theorem State.drawFree_fft (s : State) : (s.drawFree).fft = s.fft := rfl
@[simp] theorem State.drawFree_trg (s : State) : (s.drawFree).trg = s.trg := rfl
@[simp] theorem State.drawFree_acq (s : State) : (s.drawFree).acq = s.acq := rfl
@[simp] theorem State.drawFree_neb (s : State) : (s.drawFree).neb = s.neb := rfl
@[simp] theorem State.drawFree_dpy (s : State) : (s.drawFree).dpy = s.dpy := rfl
@[simp] theorem State.drawFree_lod (s : State) : (s.drawFree).lod = s.lod := rfl
@[simp] theorem State.drawFree_dma (s : State) : (s.drawFree).dma = s.dma := rfl
@[simp] theorem State.drawFree_hpt (s : State) : (s.drawFree).hpt = s.hpt := rfl
@[simp] theorem State.drawFree_spt (s : State) : (s.drawFree).spt = s.spt := rfl
@[simp] theorem State.drawFree_mem (s : State) : (s.drawFree).mem = s.mem := rfl
@[simp] theorem State.drawFree_aux (s : State) : (s.drawFree).aux = s.aux := rfl
@[simp] theorem State.drawFree_srv (s : State) : (s.drawFree).srv = s.srv := rfl
@[simp] theorem State.drawFree_cst (s : State) : (s.drawFree).cst = s.cst := rfl
@[simp] theorem State.drawFree_upd (s : State) : (s.drawFree).upd = s.upd := rfl
@[simp] theorem State.drawFree_boot (s : State) : (s.drawFree).boot = s.boot := rfl

/-! ### answer -/

@[simp] theorem State.answer_pending (s : State) (d c : Nat) : (s.answer d c).pending = s.pending := rfl
@[simp] theorem State.answer_regs (s : State) (d c : Nat) : (s.answer d c).regs = s.regs := rfl
@[simp] theorem State.answer_applied (s : State) (d c : Nat) : (s.answer d c).applied = s.applied := rfl
@[simp] theorem State.answer_latch (s : State) (d c : Nat) : (s.answer d c).latch = s.latch := rfl
@[simp] theorem State.answer_sram (s : State) (d c : Nat) : (s.answer d c).sram = s.sram := rfl
@[simp] theorem State.answer_gddr (s : State) (d c : Nat) : (s.answer d c).gddr = s.gddr := rfl
@[simp] theorem State.answer_flash (s : State) (d c : Nat) : (s.answer d c).flash = s.flash := rfl
@[simp] theorem State.answer_freeCtr (s : State) (d c : Nat) : (s.answer d c).freeCtr = s.freeCtr := rfl
@[simp] theorem State.answer_pins (s : State) (d c : Nat) : (s.answer d c).pins = s.pins := rfl
@[simp] theorem State.answer_sys (s : State) (d c : Nat) : (s.answer d c).sys = s.sys := rfl
@[simp] theorem State.answer_flt (s : State) (d c : Nat) : (s.answer d c).flt = s.flt := rfl
@[simp] theorem State.answer_pwr (s : State) (d c : Nat) : (s.answer d c).pwr = s.pwr := rfl
@[simp] theorem State.answer_alm (s : State) (d c : Nat) : (s.answer d c).alm = s.alm := rfl
@[simp] theorem State.answer_lnk (s : State) (d c : Nat) : (s.answer d c).lnk = s.lnk := rfl
@[simp] theorem State.answer_fcv (s : State) (d c : Nat) : (s.answer d c).fcv = s.fcv := rfl
@[simp] theorem State.answer_ddc (s : State) (d c : Nat) : (s.answer d c).ddc = s.ddc := rfl
@[simp] theorem State.answer_fft (s : State) (d c : Nat) : (s.answer d c).fft = s.fft := rfl
@[simp] theorem State.answer_trg (s : State) (d c : Nat) : (s.answer d c).trg = s.trg := rfl
@[simp] theorem State.answer_acq (s : State) (d c : Nat) : (s.answer d c).acq = s.acq := rfl
@[simp] theorem State.answer_neb (s : State) (d c : Nat) : (s.answer d c).neb = s.neb := rfl
@[simp] theorem State.answer_dpy (s : State) (d c : Nat) : (s.answer d c).dpy = s.dpy := rfl
@[simp] theorem State.answer_lod (s : State) (d c : Nat) : (s.answer d c).lod = s.lod := rfl
@[simp] theorem State.answer_dma (s : State) (d c : Nat) : (s.answer d c).dma = s.dma := rfl
@[simp] theorem State.answer_hpt (s : State) (d c : Nat) : (s.answer d c).hpt = s.hpt := rfl
@[simp] theorem State.answer_spt (s : State) (d c : Nat) : (s.answer d c).spt = s.spt := rfl
@[simp] theorem State.answer_mem (s : State) (d c : Nat) : (s.answer d c).mem = s.mem := rfl
@[simp] theorem State.answer_aux (s : State) (d c : Nat) : (s.answer d c).aux = s.aux := rfl
@[simp] theorem State.answer_srv (s : State) (d c : Nat) : (s.answer d c).srv = s.srv := rfl
@[simp] theorem State.answer_cst (s : State) (d c : Nat) : (s.answer d c).cst = s.cst := rfl
@[simp] theorem State.answer_upd (s : State) (d c : Nat) : (s.answer d c).upd = s.upd := rfl
@[simp] theorem State.answer_boot (s : State) (d c : Nat) : (s.answer d c).boot = s.boot := rfl

/-! ### bump, which writes where the counter is not full -/

@[simp] theorem State.bump_pending (s : State) (f : Fld) : (s.bump f).pending = s.pending := by unfold State.bump; split <;> rfl
@[simp] theorem State.bump_applied (s : State) (f : Fld) : (s.bump f).applied = s.applied := by unfold State.bump; split <;> rfl
@[simp] theorem State.bump_latch (s : State) (f : Fld) : (s.bump f).latch = s.latch := by unfold State.bump; split <;> rfl
@[simp] theorem State.bump_sram (s : State) (f : Fld) : (s.bump f).sram = s.sram := by unfold State.bump; split <;> rfl
@[simp] theorem State.bump_gddr (s : State) (f : Fld) : (s.bump f).gddr = s.gddr := by unfold State.bump; split <;> rfl
@[simp] theorem State.bump_flash (s : State) (f : Fld) : (s.bump f).flash = s.flash := by unfold State.bump; split <;> rfl
@[simp] theorem State.bump_freeCtr (s : State) (f : Fld) : (s.bump f).freeCtr = s.freeCtr := by unfold State.bump; split <;> rfl
@[simp] theorem State.bump_resp (s : State) (f : Fld) : (s.bump f).resp = s.resp := by unfold State.bump; split <;> rfl
@[simp] theorem State.bump_pins (s : State) (f : Fld) : (s.bump f).pins = s.pins := by unfold State.bump; split <;> rfl
@[simp] theorem State.bump_sys (s : State) (f : Fld) : (s.bump f).sys = s.sys := by unfold State.bump; split <;> rfl
@[simp] theorem State.bump_flt (s : State) (f : Fld) : (s.bump f).flt = s.flt := by unfold State.bump; split <;> rfl
@[simp] theorem State.bump_pwr (s : State) (f : Fld) : (s.bump f).pwr = s.pwr := by unfold State.bump; split <;> rfl
@[simp] theorem State.bump_alm (s : State) (f : Fld) : (s.bump f).alm = s.alm := by unfold State.bump; split <;> rfl
@[simp] theorem State.bump_lnk (s : State) (f : Fld) : (s.bump f).lnk = s.lnk := by unfold State.bump; split <;> rfl
@[simp] theorem State.bump_fcv (s : State) (f : Fld) : (s.bump f).fcv = s.fcv := by unfold State.bump; split <;> rfl
@[simp] theorem State.bump_ddc (s : State) (f : Fld) : (s.bump f).ddc = s.ddc := by unfold State.bump; split <;> rfl
@[simp] theorem State.bump_fft (s : State) (f : Fld) : (s.bump f).fft = s.fft := by unfold State.bump; split <;> rfl
@[simp] theorem State.bump_trg (s : State) (f : Fld) : (s.bump f).trg = s.trg := by unfold State.bump; split <;> rfl
@[simp] theorem State.bump_acq (s : State) (f : Fld) : (s.bump f).acq = s.acq := by unfold State.bump; split <;> rfl
@[simp] theorem State.bump_neb (s : State) (f : Fld) : (s.bump f).neb = s.neb := by unfold State.bump; split <;> rfl
@[simp] theorem State.bump_dpy (s : State) (f : Fld) : (s.bump f).dpy = s.dpy := by unfold State.bump; split <;> rfl
@[simp] theorem State.bump_lod (s : State) (f : Fld) : (s.bump f).lod = s.lod := by unfold State.bump; split <;> rfl
@[simp] theorem State.bump_dma (s : State) (f : Fld) : (s.bump f).dma = s.dma := by unfold State.bump; split <;> rfl
@[simp] theorem State.bump_hpt (s : State) (f : Fld) : (s.bump f).hpt = s.hpt := by unfold State.bump; split <;> rfl
@[simp] theorem State.bump_spt (s : State) (f : Fld) : (s.bump f).spt = s.spt := by unfold State.bump; split <;> rfl
@[simp] theorem State.bump_mem (s : State) (f : Fld) : (s.bump f).mem = s.mem := by unfold State.bump; split <;> rfl
@[simp] theorem State.bump_aux (s : State) (f : Fld) : (s.bump f).aux = s.aux := by unfold State.bump; split <;> rfl
@[simp] theorem State.bump_srv (s : State) (f : Fld) : (s.bump f).srv = s.srv := by unfold State.bump; split <;> rfl
@[simp] theorem State.bump_cst (s : State) (f : Fld) : (s.bump f).cst = s.cst := by unfold State.bump; split <;> rfl
@[simp] theorem State.bump_upd (s : State) (f : Fld) : (s.bump f).upd = s.upd := by unfold State.bump; split <;> rfl
@[simp] theorem State.bump_boot (s : State) (f : Fld) : (s.bump f).boot = s.boot := by unfold State.bump; split <;> rfl

/-! ### Registers -/

@[simp] theorem State.word_setWord_same (s : State) (a : Nat) (w : Word) : (s.setWord a w).word a = w :=
  SMap.get_set_same resetWord s.regs a w

theorem State.word_setWord_ne (s : State) {a b : Nat} (w : Word) (h : b ≠ a) : (s.setWord a w).word b = s.word b :=
  SMap.get_set_ne resetWord s.regs w h

@[simp] theorem State.appWord_setAppWord_same (s : State) (a : Nat) (w : Word) : (s.setAppWord a w).appWord a = w :=
  SMap.get_set_same appliedDefault s.applied a w

theorem State.appWord_setAppWord_ne (s : State) {a b : Nat} (w : Word) (h : b ≠ a) :
    (s.setAppWord a w).appWord b = s.appWord b :=
  SMap.get_set_ne appliedDefault s.applied w h

@[simp] theorem State.word_setAppWord (s : State) (a b : Nat) (w : Word) : (s.setAppWord a w).word b = s.word b := rfl
@[simp] theorem State.appWord_setWord (s : State) (a b : Nat) (w : Word) : (s.setWord a w).appWord b = s.appWord b := rfl
@[simp] theorem State.appWord_put (s : State) (f : Fld) (v b : Nat) : (s.put f v).appWord b = s.appWord b := rfl
@[simp] theorem State.app_put (s : State) (f g : Fld) (v : Nat) : (s.put f v).app g = s.app g := rfl
@[simp] theorem State.app_setWord (s : State) (g : Fld) (a : Nat) (w : Word) : (s.setWord a w).app g = s.app g := rfl
@[simp] theorem State.word_answer (s : State) (d c a : Nat) : (s.answer d c).word a = s.word a := rfl
@[simp] theorem State.get_answer (s : State) (d c : Nat) (f : Fld) : (s.answer d c).get f = s.get f := rfl
@[simp] theorem State.flag_answer (s : State) (d c : Nat) (f : Fld) : (s.answer d c).flag f = s.flag f := rfl
@[simp] theorem State.app_answer (s : State) (d c : Nat) (f : Fld) : (s.answer d c).app f = s.app f := rfl

theorem State.word_of_regs {s t : State} (h : t.regs = s.regs) (a : Nat) : t.word a = s.word a := by
  unfold State.word; rw [h]
theorem State.get_of_regs {s t : State} (h : t.regs = s.regs) (f : Fld) : t.get f = s.get f := by
  unfold State.get; rw [State.word_of_regs h]
theorem State.app_of_applied {s t : State} (h : t.applied = s.applied) (f : Fld) : t.app f = s.app f := by
  unfold State.app State.appWord; rw [h]

/-- A field after a write of it. -/
theorem State.get_put_same (s : State) (f : Fld) (v : Nat) (h : f.lo + f.n ≤ 32) : (s.put f v).get f = v % 2 ^ f.n := by
  unfold State.get State.put
  rw [State.word_setWord_same, bitsOf_insBits_same _ _ _ _ h]

/-- A field of another register. -/
theorem State.get_put_reg (s : State) (f g : Fld) (v : Nat) (h : g.addr ≠ f.addr) : (s.put f v).get g = s.get g := by
  unfold State.get State.put
  rw [State.word_setWord_ne _ _ h]

/-- A field that shares no bit with the one written. -/
theorem State.get_put_apart (s : State) (f g : Fld) (v : Nat) (h : f.lo + f.n ≤ 32) (hd : f.apart g) :
    (s.put f v).get g = s.get g := by
  by_cases ha : g.addr = f.addr
  · rcases hd with hd | hd | hd
    · exact absurd ha.symm hd
    · unfold State.get State.put
      rw [ha, State.word_setWord_same, bitsOf_insBits_above _ _ _ _ _ _ h hd]
    · unfold State.get State.put
      rw [ha, State.word_setWord_same, bitsOf_insBits_below _ _ _ _ _ _ h hd]
  · exact State.get_put_reg s f g v ha

theorem State.get_setWord_ne (s : State) (a : Nat) (w : Word) (f : Fld) (h : f.addr ≠ a) : (s.setWord a w).get f = s.get f := by
  unfold State.get
  rw [State.word_setWord_ne _ _ h]

/-- A counter steps, and holds at its largest value (R534). -/
theorem State.get_bump_same (s : State) (f : Fld) (h : f.lo + f.n ≤ 32) :
    (s.bump f).get f = if s.get f < 2 ^ f.n - 1 then s.get f + 1 else s.get f := by
  unfold State.bump
  by_cases hc : s.get f < 2 ^ f.n - 1
  · rw [if_pos hc, if_pos hc, State.get_put_same _ _ _ h, Nat.mod_eq_of_lt (by omega)]
  · rw [if_neg hc, if_neg hc]

theorem State.get_bump_apart (s : State) (f g : Fld) (h : f.lo + f.n ≤ 32) (hd : f.apart g) : (s.bump f).get g = s.get g := by
  unfold State.bump
  split
  · exact State.get_put_apart s f g _ h hd
  · rfl

theorem State.word_put_ne (s : State) (f : Fld) (v : Nat) {a : Nat} (h : a ≠ f.addr) : (s.put f v).word a = s.word a :=
  State.word_setWord_ne s _ h

theorem State.word_bump_ne (s : State) (f : Fld) {a : Nat} (h : a ≠ f.addr) : (s.bump f).word a = s.word a := by
  unfold State.bump
  split
  · exact State.word_put_ne s f _ h
  · rfl

/-! ### Bytes -/

@[simp] theorem State.sramByte_set_same (s : State) (a : Nat) (b : Byte) : (s.setSramByte a b).sramByte a = b :=
  SMap.get_set_same sramDefault s.sram a b
theorem State.sramByte_set_ne (s : State) {a c : Nat} (b : Byte) (h : c ≠ a) : (s.setSramByte a b).sramByte c = s.sramByte c :=
  SMap.get_set_ne sramDefault s.sram b h
@[simp] theorem State.gddrByte_set_same (s : State) (a : Nat) (b : Byte) : (s.setGddrByte a b).gddrByte a = b :=
  SMap.get_set_same gddrDefault s.gddr a b
theorem State.gddrByte_set_ne (s : State) {a c : Nat} (b : Byte) (h : c ≠ a) : (s.setGddrByte a b).gddrByte c = s.gddrByte c :=
  SMap.get_set_ne gddrDefault s.gddr b h
@[simp] theorem State.flashByte_set_same (s : State) (a : Nat) (b : Byte) : (s.setFlashByte a b).flashByte a = b :=
  SMap.get_set_same flashDefault s.flash a b
theorem State.flashByte_set_ne (s : State) {a c : Nat} (b : Byte) (h : c ≠ a) :
    (s.setFlashByte a b).flashByte c = s.flashByte c :=
  SMap.get_set_ne flashDefault s.flash b h

/-- A write of n bytes to SRAM leaves every byte outside them. -/
theorem State.sramByte_setSramLE (s : State) (a n v c : Nat) (h : c < a ∨ a + n ≤ c) :
    (s.setSramLE a n v).sramByte c = s.sramByte c := by
  induction n generalizing s a v with
  | zero => rfl
  | succ n ih =>
    rw [State.setSramLE, ih _ _ _ (by omega), State.sramByte_set_ne _ _ (by omega)]

/-- A write of bytes to SRAM leaves every byte outside them. -/
theorem State.sramByte_setSramBytes (s : State) (a : Nat) (l : List Byte) (c : Nat) (h : c < a ∨ a + l.length ≤ c) :
    (s.setSramBytes a l).sramByte c = s.sramByte c := by
  induction l generalizing s a with
  | nil => rfl
  | cons b l ih =>
    simp only [List.length_cons] at h
    rw [State.setSramBytes, ih _ _ (by omega), State.sramByte_set_ne _ _ (by omega)]

/-- A write of bytes to GDDR6 leaves every byte outside them. -/
theorem State.gddrByte_setGddrBytes (s : State) (a : Nat) (l : List Byte) (c : Nat) (h : c < a ∨ a + l.length ≤ c) :
    (s.setGddrBytes a l).gddrByte c = s.gddrByte c := by
  induction l generalizing s a with
  | nil => rfl
  | cons b l ih =>
    simp only [List.length_cons] at h
    rw [State.setGddrBytes, ih _ _ (by omega), State.gddrByte_set_ne _ _ (by omega)]

/-- A byte written to SRAM by a run of bytes. -/
theorem State.sramByte_setSramBytes_mem (s : State) (a : Nat) (l : List Byte) (i : Nat) (h : i < l.length) :
    (s.setSramBytes a l).sramByte (a + i) = l[i] := by
  induction l generalizing s a i with
  | nil => simp at h
  | cons b l ih =>
    rw [State.setSramBytes]
    cases i with
    | zero => rw [State.sramByte_setSramBytes _ _ _ _ (by omega)]; exact State.sramByte_set_same s a b
    | succ i =>
      have e : a + (i + 1) = a + 1 + i := by omega
      rw [e, ih _ _ _ (by simpa using h)]; rfl

/-- A byte written to GDDR6 by a run of bytes. -/
theorem State.gddrByte_setGddrBytes_mem (s : State) (a : Nat) (l : List Byte) (i : Nat) (h : i < l.length) :
    (s.setGddrBytes a l).gddrByte (a + i) = l[i] := by
  induction l generalizing s a i with
  | nil => simp at h
  | cons b l ih =>
    rw [State.setGddrBytes]
    cases i with
    | zero => rw [State.gddrByte_setGddrBytes _ _ _ _ (by omega)]; exact State.gddrByte_set_same s a b
    | succ i =>
      have e : a + (i + 1) = a + 1 + i := by omega
      rw [e, ih _ _ _ (by simpa using h)]; rfl

end Sys2Proof.Machine
end

