-- ==== Sys2Proof/Laws/Bus.lean ====
section
/-! SUPPORT. Laws of the register bridge: what an admitted write does, what a rejected one does, and what stands in
POWER_OFF. -/

namespace Sys2Proof.Machine

/-- An admitted write lands and acts, and is answered OK. -/
theorem State.writeReg_admitted {s t : State} {r : WriteRules} {src : Source} {a : Nat} {w : Word}
    (h : s.admits r src a w) (hn : normalAddr a = a) (hv : viewOf a = .normal)
    (ha : r.act src a w (s.landed a w) = .ok t) : s.writeReg r src a w = t.answer 0 0 := by
  obtain ⟨h1, h2, h3, h4, h5, h6, h7⟩ := h
  have hp : (s.dev == powerOff) = false := by simpa using h1
  unfold State.landed at ha
  unfold State.writeReg
  simp [hp, hn, hv, h2, h3, h4, h5, h6, h7, aliasWord, ha]

/-- An admitted write that its block's action refuses is rejected. -/
theorem State.writeReg_refused {s : State} {r : WriteRules} {src : Source} {a : Nat} {w : Word} {e : Err}
    (h : s.admits r src a w) (hn : normalAddr a = a) (hv : viewOf a = .normal)
    (ha : r.act src a w (s.landed a w) = .error e) : s.writeReg r src a w = s.reject src false a e := by
  obtain ⟨h1, h2, h3, h4, h5, h6, h7⟩ := h
  have hp : (s.dev == powerOff) = false := by simpa using h1
  unfold State.landed at ha
  unfold State.writeReg
  simp [hp, hn, hv, h2, h3, h4, h5, h6, h7, aliasWord, ha]

/-- In POWER_OFF no access is answered, and nothing changes (R608). -/
theorem State.writeReg_powerOff {s : State} (r : WriteRules) (src : Source) (a : Nat) (w : Word) (h : s.dev = powerOff) :
    s.writeReg r src a w = { s with resp := none } := by
  unfold State.writeReg
  simp [h]

/-- A register write lands and acts whole, or is rejected with one error, or finds the engine in POWER_OFF. -/
theorem State.writeReg_cases (s : State) (r : WriteRules) (src : Source) (a : Nat) (w : Word) :
    s.writeReg r src a w = { s with resp := none } ∨ (∃ e, s.writeReg r src a w = s.reject src false a e)
    ∨ ∃ v u t, r.act src (normalAddr a) v (s.setWord (normalAddr a) u) = .ok t ∧ s.writeReg r src a w = t.answer 0 0 := by
  unfold State.writeReg
  split
  · exact .inl rfl
  · dsimp only
    repeat' split
    all_goals first
      | exact .inr (.inl ⟨_, rfl⟩)
      | exact .inr (.inr ⟨_, _, _, ‹_›, rfl⟩)

/-- A field of the landed state, in another register. -/
theorem State.get_landed_ne (s : State) (a : Nat) (w : Word) (f : Fld) (h : f.addr ≠ a) : (s.landed a w).get f = s.get f :=
  State.get_setWord_ne s a _ f h

@[simp] theorem State.app_landed (s : State) (a : Nat) (w : Word) (f : Fld) : (s.landed a w).app f = s.app f := rfl

/-- An entry enters the error log, or the log is full and counts a drop. -/
theorem State.logErr_cases (s : State) (w0 w1 : Word) :
    (s.sys.errLog.length < 16 ∧ (s.logErr w0 w1).sys.errLog = s.sys.errLog ++ [⟨w0, w1, (errStamp s.now).1, (errStamp s.now).2⟩]
      ∧ (s.logErr w0 w1).regs = s.regs)
    ∨ (16 ≤ s.sys.errLog.length ∧ (s.logErr w0 w1).sys.errLog = s.sys.errLog) := by
  unfold State.logErr
  by_cases h : s.sys.errLog.length < 16
  · exact .inl ⟨h, by simp [h], by simp [h]⟩
  · exact .inr ⟨by omega, by simp [h]⟩

end Sys2Proof.Machine
end

