-- ==== Sys2Proof/Laws/Kept.lean ====
section
/-! SUPPORT. What a change of the state can reach: a footprint with the soundness of the memories and logs, and its laws for
the primitive updates. -/

set_option Elab.async false

namespace Sys2Proof.Machine

/-- One footprint lies within another. -/
def Foot.le (f g : Foot) : Bool :=
  (g.any || (! f.any && f.words.all g.words.contains && f.apps.all g.apps.contains)) && f.parts.all g.parts.contains

/-- The state is sound: canonical, with logs that fit. -/
def State.sound (s : State) : Prop := s.canonical ∧ s.logsFit

/-- From s to t no more changes than footprint f names, and soundness is kept. -/
structure Kept (f : Foot) (s t : State) : Prop where
  frame : f.holds s t
  sound : s.sound → t.sound

theorem contains_le {α : Type} [DecidableEq α] {l m : List α} (h : l.all m.contains = true) {x : α} (hx : l.contains x = true) :
    m.contains x = true := by
  rw [List.contains_iff_mem] at hx
  exact List.all_eq_true.mp h x hx

theorem Foot.word_of_le {f g : Foot} (h : f.le g = true) {w : Nat} (hw : f.word w = true) : g.word w = true := by
  simp only [Foot.le, Foot.word, Bool.or_eq_true, Bool.and_eq_true, Bool.not_eq_true'] at *
  rcases h with ⟨h | ⟨⟨h, h1⟩, _⟩, _⟩
  · exact .inl h
  · exact .inr (contains_le h1 (hw.resolve_left (by simp [h])))

theorem Foot.app_of_le {f g : Foot} (h : f.le g = true) {w : Nat} (hw : f.app w = true) : g.app w = true := by
  simp only [Foot.le, Foot.app, Bool.or_eq_true, Bool.and_eq_true, Bool.not_eq_true'] at *
  rcases h with ⟨h | ⟨⟨h, _⟩, h1⟩, _⟩
  · exact .inl h
  · exact .inr (contains_le h1 (hw.resolve_left (by simp [h])))

theorem Foot.part_of_le {f g : Foot} (h : f.le g = true) {p : Part} (hw : f.part p = true) : g.part p = true := by
  simp only [Foot.le, Foot.part, Bool.and_eq_true] at *
  exact contains_le h.2 hw

theorem Foot.le_trans {f g h : Foot} (a : f.le g = true) (b : g.le h = true) : f.le h = true := by
  have tr : ∀ {α : Type} [DecidableEq α] {x y z : List α}, x.all y.contains = true → y.all z.contains = true → x.all z.contains = true := by
    intro α _ x y z p q
    rw [List.all_eq_true] at *
    intro e he
    have := p e he
    rw [List.contains_iff_mem] at this
    exact q e this
  simp only [Foot.le, Bool.or_eq_true, Bool.and_eq_true, Bool.not_eq_true'] at *
  refine ⟨?_, tr a.2 b.2⟩
  rcases b.1 with b | ⟨⟨b, b1⟩, b2⟩
  · exact .inl b
  · rcases a.1 with a | ⟨⟨a, a1⟩, a2⟩
    · exact absurd a (by simp [b])
    · exact .inr ⟨⟨a, tr a1 b1⟩, tr a2 b2⟩

theorem Kept.refl (f : Foot) (s : State) : Kept f s s :=
  ⟨⟨rfl, fun _ _ => rfl, fun _ _ => rfl, fun p _ => by cases p <;> rfl⟩, id⟩

theorem Part.same_trans {s t u : State} {p : Part} (h : p.same s t) (k : p.same t u) : p.same s u := by
  cases p <;> exact Eq.trans k h

theorem Kept.trans {f : Foot} {s t u : State} (h : Kept f s t) (k : Kept f t u) : Kept f s u :=
  ⟨⟨k.frame.1.trans h.frame.1, fun a ha => (k.frame.2.1 a ha).trans (h.frame.2.1 a ha),
    fun a ha => (k.frame.2.2.1 a ha).trans (h.frame.2.2.1 a ha),
    fun p hp => Part.same_trans (h.frame.2.2.2 p hp) (k.frame.2.2.2 p hp)⟩, fun q => k.sound (h.sound q)⟩

theorem Kept.mono {f g : Foot} {s t : State} (h : Kept f s t) (l : f.le g = true) : Kept g s t :=
  ⟨⟨h.frame.1, fun a ha => h.frame.2.1 a (by by_contra hc; exact absurd (Foot.word_of_le l (by simpa using hc)) (by simp [ha])),
    fun a ha => h.frame.2.2.1 a (by by_contra hc; exact absurd (Foot.app_of_le l (by simpa using hc)) (by simp [ha])),
    fun p hp => h.frame.2.2.2 p (by by_contra hc; exact absurd (Foot.part_of_le l (by simpa using hc)) (by simp [hp]))⟩, h.sound⟩

theorem Kept.ite {f : Foot} {s a b : State} {c : Prop} [Decidable c] (h : Kept f s a) (k : Kept f s b) :
    Kept f s (if c then a else b) := by
  split
  · exact h
  · exact k

theorem Kept.ite' {f : Foot} {s a b : State} {c : Prop} [Decidable c] (h : c → Kept f s a) (k : ¬ c → Kept f s b) :
    Kept f s (if c then a else b) := by
  split
  · exact h ‹_›
  · exact k ‹_›

/-- A fold over a list keeps what each of its steps keeps. -/
theorem Kept.foldl {f : Foot} {s x : State} {α : Type} {g : State → α → State} (l : List α)
    (hg : ∀ y a, Kept f s y → Kept f s (g y a)) (h : Kept f s x) : Kept f s (l.foldl g x) := by
  induction l generalizing x with
  | nil => exact h
  | cons a l ih => exact ih (hg x a h)

/-- The same for a fold that carries a state in a pair. -/
theorem Kept.foldl_snd {f : Foot} {s : State} {α β : Type} {p : β × State} {g : β × State → α → β × State} (l : List α)
    (hg : ∀ y a, Kept f s y.2 → Kept f s (g y a).2) (h : Kept f s p.2) : Kept f s (l.foldl g p).2 := by
  induction l generalizing p with
  | nil => exact h
  | cons a l ih => exact ih (hg p a h)

theorem Kept.foldl_fst {f : Foot} {s : State} {α β : Type} {p : State × β} {g : State × β → α → State × β} (l : List α)
    (hg : ∀ y a, Kept f s y.1 → Kept f s (g y a).1) (h : Kept f s p.1) : Kept f s (l.foldl g p).1 := by
  induction l generalizing p with
  | nil => exact h
  | cons a l ih => exact ih (hg p a h)

theorem Kept.setWord {f : Foot} {s x : State} (a : Nat) (w : Word) (h : Kept f s x) (ha : f.word (a / 0x10000) = true) :
    Kept f s (x.setWord a w) := by
  refine h.trans ⟨⟨rfl, fun b hb => State.word_setWord_ne x w ?_, fun _ _ => rfl, fun p _ => by cases p <;> rfl⟩, fun q =>
    ⟨⟨SMap.wf_set resetWord x.regs a w q.1.1, q.1.2⟩, q.2⟩⟩
  rintro rfl
  rw [ha] at hb
  exact absurd hb (by simp)

theorem Kept.setAppWord {f : Foot} {s x : State} (a : Nat) (w : Word) (h : Kept f s x)
    (ha : f.app (a / 0x10000) = true) : Kept f s (x.setAppWord a w) := by
  refine h.trans ⟨⟨rfl, fun _ _ => rfl, fun b hb => State.appWord_setAppWord_ne x w ?_, fun p _ => by cases p <;> rfl⟩, fun q =>
    ⟨⟨q.1.1, SMap.wf_set appliedDefault x.applied a w q.1.2.1, q.1.2.2⟩, q.2⟩⟩
  rintro rfl
  rw [ha] at hb
  exact absurd hb (by simp)

theorem Kept.put {f : Foot} {s x : State} (g : Fld) (v : Nat) (h : Kept f s x) (ha : f.word (g.addr / 0x10000) = true) :
    Kept f s (x.put g v) := Kept.setWord _ _ h ha

theorem Kept.putB {f : Foot} {s x : State} (g : Fld) (b : Bool) (h : Kept f s x)
    (ha : f.word (g.addr / 0x10000) = true) : Kept f s (x.putB g b) := Kept.put _ _ h ha

theorem Kept.putApp {f : Foot} {s x : State} (g : Fld) (v : Nat) (h : Kept f s x)
    (ha : f.app (g.addr / 0x10000) = true) : Kept f s (x.putApp g v) := Kept.setAppWord _ _ h ha

theorem Kept.bump {f : Foot} {s x : State} (g : Fld) (h : Kept f s x) (ha : f.word (g.addr / 0x10000) = true) :
    Kept f s (x.bump g) := Kept.ite (Kept.put _ _ h ha) h

theorem Kept.bumpBy {f : Foot} {s x : State} (g : Fld) (k : Nat) (h : Kept f s x)
    (ha : f.word (g.addr / 0x10000) = true) : Kept f s (x.bumpBy g k) := Kept.put _ _ h ha

theorem Kept.bumpWrap {f : Foot} {s x : State} (g : Fld) (h : Kept f s x)
    (ha : f.word (g.addr / 0x10000) = true) : Kept f s (x.bumpWrap g) := Kept.put _ _ h ha

theorem Kept.putPair {f : Foot} {s x : State} (a v : Nat) (h : Kept f s x) (ha : f.word (a / 0x10000) = true)
    (hb : f.word ((a + 4) / 0x10000) = true) : Kept f s (x.putPair a v) :=
  Kept.setWord _ _ (Kept.setWord _ _ h ha) hb

theorem Kept.putStamp {f : Foot} {s x : State} (a : Nat) (t : Stamp) (h : Kept f s x)
    (ha : f.word (a / 0x10000) = true) (hb : f.word ((a + 4) / 0x10000) = true)
    (hc : f.word ((a + 8) / 0x10000) = true) : Kept f s (x.putStamp a t) :=
  Kept.setWord _ _ (Kept.setWord _ _ (Kept.setWord _ _ h ha) hb) hc

theorem Kept.set_latch {f : Foot} {s x : State} (v : SMap Word) (h : Kept f s x) (hp : f.part .latch = true) (hw : x.latch.wf latchDefault = true → v.wf latchDefault = true) :
    Kept f s { x with latch := v } := by
  refine h.trans ⟨⟨rfl, fun _ _ => rfl, fun _ _ => rfl, fun p hq => ?_⟩, fun q => ⟨⟨q.1.1, q.1.2.1, hw q.1.2.2.1, q.1.2.2.2⟩, q.2⟩⟩
  cases p <;> first | rfl | (rw [hp] at hq; exact absurd hq (by simp))

theorem Kept.set_sram {f : Foot} {s x : State} (v : SMap Byte) (h : Kept f s x) (hp : f.part .sram = true) (hw : x.sram.wf sramDefault = true → v.wf sramDefault = true) :
    Kept f s { x with sram := v } := by
  refine h.trans ⟨⟨rfl, fun _ _ => rfl, fun _ _ => rfl, fun p hq => ?_⟩, fun q => ⟨⟨q.1.1, q.1.2.1, q.1.2.2.1, hw q.1.2.2.2.1, q.1.2.2.2.2⟩, q.2⟩⟩
  cases p <;> first | rfl | (rw [hp] at hq; exact absurd hq (by simp))

theorem Kept.set_gddr {f : Foot} {s x : State} (v : SMap Byte) (h : Kept f s x) (hp : f.part .gddr = true) (hw : x.gddr.wf gddrDefault = true → v.wf gddrDefault = true) :
    Kept f s { x with gddr := v } := by
  refine h.trans ⟨⟨rfl, fun _ _ => rfl, fun _ _ => rfl, fun p hq => ?_⟩, fun q => ⟨⟨q.1.1, q.1.2.1, q.1.2.2.1, q.1.2.2.2.1, hw q.1.2.2.2.2.1, q.1.2.2.2.2.2⟩, q.2⟩⟩
  cases p <;> first | rfl | (rw [hp] at hq; exact absurd hq (by simp))

theorem Kept.set_flash {f : Foot} {s x : State} (v : SMap Byte) (h : Kept f s x) (hp : f.part .flash = true) (hw : x.flash.wf flashDefault = true → v.wf flashDefault = true) :
    Kept f s { x with flash := v } := by
  refine h.trans ⟨⟨rfl, fun _ _ => rfl, fun _ _ => rfl, fun p hq => ?_⟩, fun q => ⟨⟨q.1.1, q.1.2.1, q.1.2.2.1, q.1.2.2.2.1, q.1.2.2.2.2.1, hw q.1.2.2.2.2.2⟩, q.2⟩⟩
  cases p <;> first | rfl | (rw [hp] at hq; exact absurd hq (by simp))

theorem Kept.set_freeCtr {f : Foot} {s x : State} (v : Nat) (h : Kept f s x) (hp : f.part .freeCtr = true) :
    Kept f s { x with freeCtr := v } := by
  refine h.trans ⟨⟨rfl, fun _ _ => rfl, fun _ _ => rfl, fun p hq => ?_⟩, id⟩
  cases p <;> first | rfl | (rw [hp] at hq; exact absurd hq (by simp))

theorem Kept.set_resp {f : Foot} {s x : State} (v : Option Resp) (h : Kept f s x) (hp : f.part .resp = true) :
    Kept f s { x with resp := v } := by
  refine h.trans ⟨⟨rfl, fun _ _ => rfl, fun _ _ => rfl, fun p hq => ?_⟩, id⟩
  cases p <;> first | rfl | (rw [hp] at hq; exact absurd hq (by simp))

theorem Kept.set_pins {f : Foot} {s x : State} (v : Pins) (h : Kept f s x) (hp : f.part .pins = true) :
    Kept f s { x with pins := v } := by
  refine h.trans ⟨⟨rfl, fun _ _ => rfl, fun _ _ => rfl, fun p hq => ?_⟩, id⟩
  cases p <;> first | rfl | (rw [hp] at hq; exact absurd hq (by simp))

theorem Kept.set_sys {f : Foot} {s x : State} (v : SysSt) (h : Kept f s x) (hp : f.part .sys = true) (hw : x.sys.errLog.length ≤ 16 → v.errLog.length ≤ 16) :
    Kept f s { x with sys := v } := by
  refine h.trans ⟨⟨rfl, fun _ _ => rfl, fun _ _ => rfl, fun p hq => ?_⟩, fun q => ⟨q.1, hw q.2.1, q.2.2⟩⟩
  cases p <;> first | rfl | (rw [hp] at hq; exact absurd hq (by simp))

theorem Kept.set_flt {f : Foot} {s x : State} (v : FltSt) (h : Kept f s x) (hp : f.part .flt = true) (hw : x.flt.hwq.length ≤ 64 ∧ x.flt.log.length ≤ 256 → v.hwq.length ≤ 64 ∧ v.log.length ≤ 256) :
    Kept f s { x with flt := v } := by
  refine h.trans ⟨⟨rfl, fun _ _ => rfl, fun _ _ => rfl, fun p hq => ?_⟩, fun q => ⟨q.1, q.2.1, hw q.2.2⟩⟩
  cases p <;> first | rfl | (rw [hp] at hq; exact absurd hq (by simp))

theorem Kept.set_pwr {f : Foot} {s x : State} (v : PwrSt) (h : Kept f s x) (hp : f.part .pwr = true) :
    Kept f s { x with pwr := v } := by
  refine h.trans ⟨⟨rfl, fun _ _ => rfl, fun _ _ => rfl, fun p hq => ?_⟩, id⟩
  cases p <;> first | rfl | (rw [hp] at hq; exact absurd hq (by simp))

theorem Kept.set_alm {f : Foot} {s x : State} (v : AlmSt) (h : Kept f s x) (hp : f.part .alm = true) :
    Kept f s { x with alm := v } := by
  refine h.trans ⟨⟨rfl, fun _ _ => rfl, fun _ _ => rfl, fun p hq => ?_⟩, id⟩
  cases p <;> first | rfl | (rw [hp] at hq; exact absurd hq (by simp))

theorem Kept.set_lnk {f : Foot} {s x : State} (v : LnkSt) (h : Kept f s x) (hp : f.part .lnk = true) :
    Kept f s { x with lnk := v } := by
  refine h.trans ⟨⟨rfl, fun _ _ => rfl, fun _ _ => rfl, fun p hq => ?_⟩, id⟩
  cases p <;> first | rfl | (rw [hp] at hq; exact absurd hq (by simp))

theorem Kept.set_fcv {f : Foot} {s x : State} (v : FcvSt) (h : Kept f s x) (hp : f.part .fcv = true) :
    Kept f s { x with fcv := v } := by
  refine h.trans ⟨⟨rfl, fun _ _ => rfl, fun _ _ => rfl, fun p hq => ?_⟩, id⟩
  cases p <;> first | rfl | (rw [hp] at hq; exact absurd hq (by simp))

theorem Kept.set_ddc {f : Foot} {s x : State} (v : DdcSt) (h : Kept f s x) (hp : f.part .ddc = true) :
    Kept f s { x with ddc := v } := by
  refine h.trans ⟨⟨rfl, fun _ _ => rfl, fun _ _ => rfl, fun p hq => ?_⟩, id⟩
  cases p <;> first | rfl | (rw [hp] at hq; exact absurd hq (by simp))

theorem Kept.set_fft {f : Foot} {s x : State} (v : FftSt) (h : Kept f s x) (hp : f.part .fft = true) :
    Kept f s { x with fft := v } := by
  refine h.trans ⟨⟨rfl, fun _ _ => rfl, fun _ _ => rfl, fun p hq => ?_⟩, id⟩
  cases p <;> first | rfl | (rw [hp] at hq; exact absurd hq (by simp))

theorem Kept.set_trg {f : Foot} {s x : State} (v : TrgSt) (h : Kept f s x) (hp : f.part .trg = true) :
    Kept f s { x with trg := v } := by
  refine h.trans ⟨⟨rfl, fun _ _ => rfl, fun _ _ => rfl, fun p hq => ?_⟩, id⟩
  cases p <;> first | rfl | (rw [hp] at hq; exact absurd hq (by simp))

theorem Kept.set_acq {f : Foot} {s x : State} (v : AcqSt) (h : Kept f s x) (hp : f.part .acq = true) :
    Kept f s { x with acq := v } := by
  refine h.trans ⟨⟨rfl, fun _ _ => rfl, fun _ _ => rfl, fun p hq => ?_⟩, id⟩
  cases p <;> first | rfl | (rw [hp] at hq; exact absurd hq (by simp))

theorem Kept.set_neb {f : Foot} {s x : State} (v : NebSt) (h : Kept f s x) (hp : f.part .neb = true) :
    Kept f s { x with neb := v } := by
  refine h.trans ⟨⟨rfl, fun _ _ => rfl, fun _ _ => rfl, fun p hq => ?_⟩, id⟩
  cases p <;> first | rfl | (rw [hp] at hq; exact absurd hq (by simp))

theorem Kept.set_dpy {f : Foot} {s x : State} (v : DpySt) (h : Kept f s x) (hp : f.part .dpy = true) :
    Kept f s { x with dpy := v } := by
  refine h.trans ⟨⟨rfl, fun _ _ => rfl, fun _ _ => rfl, fun p hq => ?_⟩, id⟩
  cases p <;> first | rfl | (rw [hp] at hq; exact absurd hq (by simp))

theorem Kept.set_lod {f : Foot} {s x : State} (v : LodSt) (h : Kept f s x) (hp : f.part .lod = true) :
    Kept f s { x with lod := v } := by
  refine h.trans ⟨⟨rfl, fun _ _ => rfl, fun _ _ => rfl, fun p hq => ?_⟩, id⟩
  cases p <;> first | rfl | (rw [hp] at hq; exact absurd hq (by simp))

theorem Kept.set_dma {f : Foot} {s x : State} (v : DmaSt) (h : Kept f s x) (hp : f.part .dma = true) :
    Kept f s { x with dma := v } := by
  refine h.trans ⟨⟨rfl, fun _ _ => rfl, fun _ _ => rfl, fun p hq => ?_⟩, id⟩
  cases p <;> first | rfl | (rw [hp] at hq; exact absurd hq (by simp))

theorem Kept.set_hpt {f : Foot} {s x : State} (v : HptSt) (h : Kept f s x) (hp : f.part .hpt = true) :
    Kept f s { x with hpt := v } := by
  refine h.trans ⟨⟨rfl, fun _ _ => rfl, fun _ _ => rfl, fun p hq => ?_⟩, id⟩
  cases p <;> first | rfl | (rw [hp] at hq; exact absurd hq (by simp))

theorem Kept.set_spt {f : Foot} {s x : State} (v : SptSt) (h : Kept f s x) (hp : f.part .spt = true) :
    Kept f s { x with spt := v } := by
  refine h.trans ⟨⟨rfl, fun _ _ => rfl, fun _ _ => rfl, fun p hq => ?_⟩, id⟩
  cases p <;> first | rfl | (rw [hp] at hq; exact absurd hq (by simp))

theorem Kept.set_mem {f : Foot} {s x : State} (v : MemSt) (h : Kept f s x) (hp : f.part .mem = true) :
    Kept f s { x with mem := v } := by
  refine h.trans ⟨⟨rfl, fun _ _ => rfl, fun _ _ => rfl, fun p hq => ?_⟩, id⟩
  cases p <;> first | rfl | (rw [hp] at hq; exact absurd hq (by simp))

theorem Kept.set_aux {f : Foot} {s x : State} (v : AuxSt) (h : Kept f s x) (hp : f.part .aux = true) :
    Kept f s { x with aux := v } := by
  refine h.trans ⟨⟨rfl, fun _ _ => rfl, fun _ _ => rfl, fun p hq => ?_⟩, id⟩
  cases p <;> first | rfl | (rw [hp] at hq; exact absurd hq (by simp))

theorem Kept.set_srv {f : Foot} {s x : State} (v : SrvSt) (h : Kept f s x) (hp : f.part .srv = true) :
    Kept f s { x with srv := v } := by
  refine h.trans ⟨⟨rfl, fun _ _ => rfl, fun _ _ => rfl, fun p hq => ?_⟩, id⟩
  cases p <;> first | rfl | (rw [hp] at hq; exact absurd hq (by simp))

theorem Kept.set_cst {f : Foot} {s x : State} (v : CstSt) (h : Kept f s x) (hp : f.part .cst = true) :
    Kept f s { x with cst := v } := by
  refine h.trans ⟨⟨rfl, fun _ _ => rfl, fun _ _ => rfl, fun p hq => ?_⟩, id⟩
  cases p <;> first | rfl | (rw [hp] at hq; exact absurd hq (by simp))

theorem Kept.set_upd {f : Foot} {s x : State} (v : UpdSt) (h : Kept f s x) (hp : f.part .upd = true) :
    Kept f s { x with upd := v } := by
  refine h.trans ⟨⟨rfl, fun _ _ => rfl, fun _ _ => rfl, fun p hq => ?_⟩, id⟩
  cases p <;> first | rfl | (rw [hp] at hq; exact absurd hq (by simp))

theorem Kept.set_boot {f : Foot} {s x : State} (v : BootSt) (h : Kept f s x) (hp : f.part .boot = true) :
    Kept f s { x with boot := v } := by
  refine h.trans ⟨⟨rfl, fun _ _ => rfl, fun _ _ => rfl, fun p hq => ?_⟩, id⟩
  cases p <;> first | rfl | (rw [hp] at hq; exact absurd hq (by simp))

theorem Kept.set_pins_aux {f : Foot} {s x : State} (v : Pins) (w : AuxSt) (h : Kept f s x) (hp : f.part .pins = true)
    (ha : f.part .aux = true) : Kept f s { x with pins := v, aux := w } :=
  Kept.set_aux (x := { x with pins := v }) w (Kept.set_pins v h hp) ha

theorem Kept.set_srv_aux {f : Foot} {s x : State} (v : SrvSt) (w : AuxSt) (h : Kept f s x) (hp : f.part .srv = true)
    (ha : f.part .aux = true) : Kept f s { x with srv := v, aux := w } :=
  Kept.set_aux (x := { x with srv := v }) w (Kept.set_srv v h hp) ha

theorem Kept.set_neb_dpy {f : Foot} {s x : State} (v : NebSt) (w : DpySt) (h : Kept f s x) (hp : f.part .neb = true)
    (ha : f.part .dpy = true) : Kept f s { x with neb := v, dpy := w } :=
  Kept.set_dpy (x := { x with neb := v }) w (Kept.set_neb v h hp) ha

theorem Kept.set_dpy_freeCtr {f : Foot} {s x : State} (v : DpySt) (w : Nat) (h : Kept f s x) (hp : f.part .dpy = true)
    (ha : f.part .freeCtr = true) : Kept f s { x with dpy := v, freeCtr := w } :=
  Kept.set_freeCtr (x := { x with dpy := v }) w (Kept.set_dpy v h hp) ha

theorem Kept.set_mem_alm {f : Foot} {s x : State} (v : MemSt) (w : AlmSt) (h : Kept f s x) (hp : f.part .mem = true)
    (ha : f.part .alm = true) : Kept f s { x with mem := v, alm := w } :=
  Kept.set_alm (x := { x with mem := v }) w (Kept.set_mem v h hp) ha

theorem Kept.set_spt_pins {f : Foot} {s x : State} (v : SptSt) (w : Pins) (h : Kept f s x) (hp : f.part .spt = true)
    (ha : f.part .pins = true) : Kept f s { x with spt := v, pins := w } :=
  Kept.set_pins (x := { x with spt := v }) w (Kept.set_spt v h hp) ha

theorem Kept.set_acq_dma {f : Foot} {s x : State} (v : AcqSt) (w : DmaSt) (h : Kept f s x) (hp : f.part .acq = true)
    (ha : f.part .dma = true) : Kept f s { x with acq := v, dma := w } :=
  Kept.set_dma (x := { x with acq := v }) w (Kept.set_acq v h hp) ha

theorem Kept.set_sys_dpy {f : Foot} {s x : State} (v : SysSt) (w : DpySt) (h : Kept f s x) (hp : f.part .sys = true)
    (ha : f.part .dpy = true) (hw : x.sys.errLog.length ≤ 16 → v.errLog.length ≤ 16) : Kept f s { x with sys := v, dpy := w } :=
  Kept.set_dpy (x := { x with sys := v }) w (Kept.set_sys v h hp hw) ha

theorem Kept.set_alm_lnk {f : Foot} {s x : State} (v : AlmSt) (w : LnkSt) (h : Kept f s x) (hp : f.part .alm = true)
    (ha : f.part .lnk = true) : Kept f s { x with alm := v, lnk := w } :=
  Kept.set_lnk (x := { x with alm := v }) w (Kept.set_alm v h hp) ha

theorem Kept.set_fcv_cst_pins {f : Foot} {s x : State} (v : FcvSt) (w : CstSt) (z : Pins) (h : Kept f s x) (hp : f.part .fcv = true)
    (ha : f.part .cst = true) (hb : f.part .pins = true) : Kept f s { x with fcv := v, cst := w, pins := z } :=
  Kept.set_pins (x := { x with fcv := v, cst := w }) z (Kept.set_cst (x := { x with fcv := v }) w (Kept.set_fcv v h hp) ha) hb

/-- A result that may be a refusal keeps what footprint f says where it is a state. -/
def Kept.res {ε : Type} (f : Foot) (s : State) : Except ε State → Prop
  | .ok t => Kept f s t
  | .error _ => True

theorem Kept.res_ok {ε : Type} {f : Foot} {s t : State} (h : Kept f s t) : Kept.res (ε := ε) f s (.ok t) := h

theorem Kept.res_error {ε : Type} (f : Foot) (s : State) (e : ε) : Kept.res f s (.error e) := trivial

theorem Kept.res_ite {ε : Type} {f : Foot} {s : State} {a b : Except ε State} {c : Prop} [Decidable c] (h : Kept.res f s a)
    (k : Kept.res f s b) : Kept.res f s (if c then a else b) := by
  split
  · exact h
  · exact k

theorem Kept.of_ok {ε : Type} {f : Foot} {s t : State} {p : Except ε State} (h : Kept.res f s p) (e : p = .ok t) : Kept f s t := by
  subst e; exact h

theorem Kept.of_snd {β : Type} {f : Foot} {s t : State} {a : β} {p : β × State} (h : Kept f s p.2) (e : p = (a, t)) : Kept f s t := by
  subst e; exact h

theorem Kept.of_fst {β : Type} {f : Foot} {s t : State} {a : β} {p : State × β} (h : Kept f s p.1) (e : p = (t, a)) : Kept f s t := by
  subst e; exact h

end Sys2Proof.Machine
end

