-- ==== Sys2Proof/Laws/Win.lean ====
section
/-! SUPPORT. The BAR0 window of every indexed register name. -/

namespace Sys2Proof.Machine

theorem SYS_ERR_LOG.addr_win (i : Nat) : SYS_ERR_LOG.addr i / 0x10000 = 0 := by unfold SYS_ERR_LOG.addr; omega
theorem PWR_DOM_CMD.addr_win (i : Nat) : PWR_DOM_CMD.addr i / 0x10000 = 1 := by unfold PWR_DOM_CMD.addr; omega
theorem PWR_DOM_STAT.addr_win (i : Nat) : PWR_DOM_STAT.addr i / 0x10000 = 1 := by unfold PWR_DOM_STAT.addr; omega
theorem CLK_PLL_CTRL.addr_win (i : Nat) : CLK_PLL_CTRL.addr i / 0x10000 = 2 := by unfold CLK_PLL_CTRL.addr; omega
theorem CLK_PLL_STAT.addr_win (i : Nat) : CLK_PLL_STAT.addr i / 0x10000 = 2 := by unfold CLK_PLL_STAT.addr; omega
theorem ALM_STEP_LAST.addr_win (i : Nat) : ALM_STEP_LAST.addr i / 0x10000 = 3 := by unfold ALM_STEP_LAST.addr; omega
theorem ALM_LAT_COMP.addr_win (i : Nat) : ALM_LAT_COMP.addr i / 0x10000 = 3 := by unfold ALM_LAT_COMP.addr; omega
theorem ALM_RATE_ERR.addr_win (i : Nat) : ALM_RATE_ERR.addr i / 0x10000 = 3 := by unfold ALM_RATE_ERR.addr; omega
theorem ALM_TDC_RESULT_LO.addr_win4 (i : Nat) : (ALM_TDC_RESULT_LO.addr i + 4) / 0x10000 = 3 := by unfold ALM_TDC_RESULT_LO.addr; omega
theorem ALM_TDC_RESULT_LO.addr_win8 (i : Nat) : (ALM_TDC_RESULT_LO.addr i + 8) / 0x10000 = 3 := by unfold ALM_TDC_RESULT_LO.addr; omega
theorem ALM_TDC_RESULT_LO.addr_win (i : Nat) : ALM_TDC_RESULT_LO.addr i / 0x10000 = 3 := by unfold ALM_TDC_RESULT_LO.addr; omega
theorem ALM_TDC_RESULT_HI.addr_win4 (i : Nat) : (ALM_TDC_RESULT_HI.addr i + 4) / 0x10000 = 3 := by unfold ALM_TDC_RESULT_HI.addr; omega
theorem ALM_TDC_RESULT_HI.addr_win8 (i : Nat) : (ALM_TDC_RESULT_HI.addr i + 8) / 0x10000 = 3 := by unfold ALM_TDC_RESULT_HI.addr; omega
theorem ALM_TDC_RESULT_HI.addr_win (i : Nat) : ALM_TDC_RESULT_HI.addr i / 0x10000 = 3 := by unfold ALM_TDC_RESULT_HI.addr; omega
theorem LNK_CONV_STAT.addr_win (i : Nat) : LNK_CONV_STAT.addr i / 0x10000 = 4 := by unfold LNK_CONV_STAT.addr; omega
theorem LNK_CONV_CNT.addr_win (i : Nat) : LNK_CONV_CNT.addr i / 0x10000 = 4 := by unfold LNK_CONV_CNT.addr; omega
theorem LNK_LANE_CTRL.addr_win (i : Nat) : LNK_LANE_CTRL.addr i / 0x10000 = 4 := by unfold LNK_LANE_CTRL.addr; omega
theorem LNK_LANE_STAT.addr_win (i : Nat) : LNK_LANE_STAT.addr i / 0x10000 = 4 := by unfold LNK_LANE_STAT.addr; omega
theorem LNK_LANE_ERR0.addr_win (i : Nat) : LNK_LANE_ERR0.addr i / 0x10000 = 4 := by unfold LNK_LANE_ERR0.addr; omega
theorem LNK_LANE_ERR1.addr_win (i : Nat) : LNK_LANE_ERR1.addr i / 0x10000 = 4 := by unfold LNK_LANE_ERR1.addr; omega
theorem LNK_LANE_DFE.addr_win4 (i : Nat) : (LNK_LANE_DFE.addr i + 4) / 0x10000 = 4 := by unfold LNK_LANE_DFE.addr; omega
theorem LNK_LANE_DFE.addr_win8 (i : Nat) : (LNK_LANE_DFE.addr i + 8) / 0x10000 = 4 := by unfold LNK_LANE_DFE.addr; omega
theorem LNK_LANE_DFE.addr_win (i : Nat) : LNK_LANE_DFE.addr i / 0x10000 = 4 := by unfold LNK_LANE_DFE.addr; omega
theorem FCV_CHAN.addr_win (i : Nat) : FCV_CHAN.addr i / 0x10000 = 5 := by unfold FCV_CHAN.addr; omega
theorem FCV_DCB.addr_win (i : Nat) : FCV_DCB.addr i / 0x10000 = 5 := by unfold FCV_DCB.addr; omega
theorem FCV_DC_EST_I.addr_win (i : Nat) : FCV_DC_EST_I.addr i / 0x10000 = 5 := by unfold FCV_DC_EST_I.addr; omega
theorem FCV_DC_EST_Q.addr_win (i : Nat) : FCV_DC_EST_Q.addr i / 0x10000 = 5 := by unfold FCV_DC_EST_Q.addr; omega
theorem FCV_CH_CNT.addr_win (i : Nat) : FCV_CH_CNT.addr i / 0x10000 = 5 := by unfold FCV_CH_CNT.addr; omega
theorem DDC_CFG.addr_win (i : Nat) : DDC_CFG.addr i / 0x10000 = 6 := by unfold DDC_CFG.addr; omega
theorem DDC_FTW_LO.addr_win (i : Nat) : DDC_FTW_LO.addr i / 0x10000 = 6 := by unfold DDC_FTW_LO.addr; omega
theorem DDC_FTW_HI.addr_win (i : Nat) : DDC_FTW_HI.addr i / 0x10000 = 6 := by unfold DDC_FTW_HI.addr; omega
theorem DDC_GAIN.addr_win (i : Nat) : DDC_GAIN.addr i / 0x10000 = 6 := by unfold DDC_GAIN.addr; omega
theorem DDC_DCB.addr_win (i : Nat) : DDC_DCB.addr i / 0x10000 = 6 := by unfold DDC_DCB.addr; omega
theorem DDC_BANK.addr_win (i : Nat) : DDC_BANK.addr i / 0x10000 = 6 := by unfold DDC_BANK.addr; omega
theorem DDC_STAT.addr_win (i : Nat) : DDC_STAT.addr i / 0x10000 = 6 := by unfold DDC_STAT.addr; omega
theorem DDC_DC_EST_I.addr_win (i : Nat) : DDC_DC_EST_I.addr i / 0x10000 = 6 := by unfold DDC_DC_EST_I.addr; omega
theorem DDC_DC_EST_Q.addr_win (i : Nat) : DDC_DC_EST_Q.addr i / 0x10000 = 6 := by unfold DDC_DC_EST_Q.addr; omega
theorem DDC_CNT.addr_win (i : Nat) : DDC_CNT.addr i / 0x10000 = 6 := by unfold DDC_CNT.addr; omega
theorem FFT_SRC_CFG.addr_win (i : Nat) : FFT_SRC_CFG.addr i / 0x10000 = 8 := by unfold FFT_SRC_CFG.addr; omega
theorem FFT_SRC_OUT.addr_win (i : Nat) : FFT_SRC_OUT.addr i / 0x10000 = if i < 16 then 8 else 9 := by
  unfold FFT_SRC_OUT.addr; split <;> omega
theorem FFT_SRC_RANGE.addr_win (i : Nat) : FFT_SRC_RANGE.addr i / 0x10000 = if i < 16 then 8 else 9 := by
  unfold FFT_SRC_RANGE.addr; split <;> omega
theorem FFT_SRC_TRC.addr_win (i t : Nat) : FFT_SRC_TRC.addr i t / 0x10000 = if i < 16 then 8 else 9 := by
  unfold FFT_SRC_TRC.addr; split <;> omega
theorem FFT_SRC_SPG.addr_win (i : Nat) : FFT_SRC_SPG.addr i / 0x10000 = if i < 16 then 8 else 9 := by
  unfold FFT_SRC_SPG.addr; split <;> omega
theorem FFT_SRC_SPGL.addr_win (i : Nat) : FFT_SRC_SPGL.addr i / 0x10000 = if i < 16 then 8 else 9 := by
  unfold FFT_SRC_SPGL.addr; split <;> omega
theorem FFT_SRC_SPGW.addr_win (i : Nat) : FFT_SRC_SPGW.addr i / 0x10000 = if i < 16 then 8 else 9 := by
  unfold FFT_SRC_SPGW.addr; split <;> omega
theorem FFT_SRC_STAT.addr_win (i : Nat) : FFT_SRC_STAT.addr i / 0x10000 = if i < 16 then 8 else 9 := by
  unfold FFT_SRC_STAT.addr; split <;> omega
theorem FFT_SRC_SEQ.addr_win (i : Nat) : FFT_SRC_SEQ.addr i / 0x10000 = if i < 16 then 8 else 9 := by
  unfold FFT_SRC_SEQ.addr; split <;> omega
theorem FFT_WIN_INFO.addr_win (i : Nat) : FFT_WIN_INFO.addr i / 0x10000 = if i < 16 then 8 else 9 := by
  unfold FFT_WIN_INFO.addr; split <;> omega
theorem FFT_SRC_TRS.addr_win (i : Nat) : FFT_SRC_TRS.addr i / 0x10000 = if i < 16 then 8 else 9 := by
  unfold FFT_SRC_TRS.addr; split <;> omega
theorem FFT_SRC_CNT.addr_win (i : Nat) : FFT_SRC_CNT.addr i / 0x10000 = if i < 16 then 8 else 9 := by
  unfold FFT_SRC_CNT.addr; split <;> omega
theorem FFT_ZSRC_CFG.addr_win (i : Nat) : FFT_ZSRC_CFG.addr i / 0x10000 = 9 := by unfold FFT_ZSRC_CFG.addr; omega
theorem FFT_PIPE_STAT.addr_win (i : Nat) : FFT_PIPE_STAT.addr i / 0x10000 = 9 := by unfold FFT_PIPE_STAT.addr; omega
theorem FFT_PIPE_CTRL.addr_win (i : Nat) : FFT_PIPE_CTRL.addr i / 0x10000 = 9 := by unfold FFT_PIPE_CTRL.addr; omega
theorem FFT_PIPE_CNT.addr_win (i : Nat) : FFT_PIPE_CNT.addr i / 0x10000 = 9 := by unfold FFT_PIPE_CNT.addr; omega
theorem FFT_UWIN.addr_win (i : Nat) : FFT_UWIN.addr i / 0x10000 = 9 := by unfold FFT_UWIN.addr; omega
theorem TRG_FMT_CTRL.addr_win (i : Nat) : TRG_FMT_CTRL.addr i / 0x10000 = 10 := by unfold TRG_FMT_CTRL.addr; omega
theorem TRG_FMT_RANGE.addr_win (i : Nat) : TRG_FMT_RANGE.addr i / 0x10000 = 10 := by unfold TRG_FMT_RANGE.addr; omega
theorem TRG_FMT_STAT.addr_win (i : Nat) : TRG_FMT_STAT.addr i / 0x10000 = 10 := by unfold TRG_FMT_STAT.addr; omega
theorem TRG_LVL_CTRL.addr_win (i : Nat) : TRG_LVL_CTRL.addr i / 0x10000 = 10 := by unfold TRG_LVL_CTRL.addr; omega
theorem TRG_LVL_THR.addr_win (i : Nat) : TRG_LVL_THR.addr i / 0x10000 = 10 := by unfold TRG_LVL_THR.addr; omega
theorem TRG_PWR_CTRL.addr_win (i : Nat) : TRG_PWR_CTRL.addr i / 0x10000 = 10 := by unfold TRG_PWR_CTRL.addr; omega
theorem TRG_PWR_THR.addr_win (i : Nat) : TRG_PWR_THR.addr i / 0x10000 = 10 := by unfold TRG_PWR_THR.addr; omega
theorem TRG_DEN_CTRL.addr_win (i : Nat) : TRG_DEN_CTRL.addr i / 0x10000 = 10 := by unfold TRG_DEN_CTRL.addr; omega
theorem TRG_DEN_COLS.addr_win (i : Nat) : TRG_DEN_COLS.addr i / 0x10000 = 10 := by unfold TRG_DEN_COLS.addr; omega
theorem TRG_DEN_ROWS.addr_win (i : Nat) : TRG_DEN_ROWS.addr i / 0x10000 = 10 := by unfold TRG_DEN_ROWS.addr; omega
theorem TRG_DEN_THRESH.addr_win (i : Nat) : TRG_DEN_THRESH.addr i / 0x10000 = 10 := by unfold TRG_DEN_THRESH.addr; omega
theorem TRG_DEN_REARM.addr_win (i : Nat) : TRG_DEN_REARM.addr i / 0x10000 = 10 := by unfold TRG_DEN_REARM.addr; omega
theorem TRG_OUT_CTRL.addr_win (i : Nat) : TRG_OUT_CTRL.addr i / 0x10000 = 10 := by unfold TRG_OUT_CTRL.addr; omega
theorem TRG_OUT_DELAY.addr_win (i : Nat) : TRG_OUT_DELAY.addr i / 0x10000 = 10 := by unfold TRG_OUT_DELAY.addr; omega
theorem TRG_SRC_CNT.addr_win (i : Nat) : TRG_SRC_CNT.addr i / 0x10000 = 10 := by unfold TRG_SRC_CNT.addr; omega
theorem TRG_LOG.addr_win (i : Nat) : TRG_LOG.addr i / 0x10000 = 10 := by unfold TRG_LOG.addr; omega
theorem ACQ_U_CFG.addr_win (i : Nat) : ACQ_U_CFG.addr i / 0x10000 = 11 := by unfold ACQ_U_CFG.addr; omega
theorem ACQ_U_TMASK.addr_win (i : Nat) : ACQ_U_TMASK.addr i / 0x10000 = 11 := by unfold ACQ_U_TMASK.addr; omega
theorem ACQ_U_LEN.addr_win (i : Nat) : ACQ_U_LEN.addr i / 0x10000 = 11 := by unfold ACQ_U_LEN.addr; omega
theorem ACQ_U_SPLIT.addr_win (i : Nat) : ACQ_U_SPLIT.addr i / 0x10000 = 11 := by unfold ACQ_U_SPLIT.addr; omega
theorem ACQ_U_ABASE.addr_win (i : Nat) : ACQ_U_ABASE.addr i / 0x10000 = 11 := by unfold ACQ_U_ABASE.addr; omega
theorem ACQ_U_ASIZE.addr_win (i : Nat) : ACQ_U_ASIZE.addr i / 0x10000 = 11 := by unfold ACQ_U_ASIZE.addr; omega
theorem ACQ_U_LBASE.addr_win (i : Nat) : ACQ_U_LBASE.addr i / 0x10000 = 11 := by unfold ACQ_U_LBASE.addr; omega
theorem ACQ_U_LLEN.addr_win (i : Nat) : ACQ_U_LLEN.addr i / 0x10000 = 11 := by unfold ACQ_U_LLEN.addr; omega
theorem ACQ_U_CMD.addr_win (i : Nat) : ACQ_U_CMD.addr i / 0x10000 = 11 := by unfold ACQ_U_CMD.addr; omega
theorem ACQ_U_STAT.addr_win (i : Nat) : ACQ_U_STAT.addr i / 0x10000 = 11 := by unfold ACQ_U_STAT.addr; omega
theorem ACQ_U_LWR.addr_win (i : Nat) : ACQ_U_LWR.addr i / 0x10000 = 11 := by unfold ACQ_U_LWR.addr; omega
theorem ACQ_U_LRD.addr_win (i : Nat) : ACQ_U_LRD.addr i / 0x10000 = 11 := by unfold ACQ_U_LRD.addr; omega
theorem ACQ_U_SEGNO.addr_win (i : Nat) : ACQ_U_SEGNO.addr i / 0x10000 = 11 := by unfold ACQ_U_SEGNO.addr; omega
theorem ACQ_U_CNT0.addr_win (i : Nat) : ACQ_U_CNT0.addr i / 0x10000 = 11 := by unfold ACQ_U_CNT0.addr; omega
theorem ACQ_U_CNT1.addr_win (i : Nat) : ACQ_U_CNT1.addr i / 0x10000 = 11 := by unfold ACQ_U_CNT1.addr; omega
theorem ACQ_U_STG.addr_win (i : Nat) : ACQ_U_STG.addr i / 0x10000 = 11 := by unfold ACQ_U_STG.addr; omega
theorem ACQ_U_WPTR_LO.addr_win4 (i : Nat) : (ACQ_U_WPTR_LO.addr i + 4) / 0x10000 = 11 := by unfold ACQ_U_WPTR_LO.addr; omega
theorem ACQ_U_WPTR_LO.addr_win8 (i : Nat) : (ACQ_U_WPTR_LO.addr i + 8) / 0x10000 = 11 := by unfold ACQ_U_WPTR_LO.addr; omega
theorem ACQ_U_WPTR_LO.addr_win (i : Nat) : ACQ_U_WPTR_LO.addr i / 0x10000 = 11 := by unfold ACQ_U_WPTR_LO.addr; omega
theorem ACQ_U_WPTR_HI.addr_win (i : Nat) : ACQ_U_WPTR_HI.addr i / 0x10000 = 11 := by unfold ACQ_U_WPTR_HI.addr; omega
theorem ACQ_U_RPTR_LO.addr_win4 (i : Nat) : (ACQ_U_RPTR_LO.addr i + 4) / 0x10000 = 11 := by unfold ACQ_U_RPTR_LO.addr; omega
theorem ACQ_U_RPTR_LO.addr_win8 (i : Nat) : (ACQ_U_RPTR_LO.addr i + 8) / 0x10000 = 11 := by unfold ACQ_U_RPTR_LO.addr; omega
theorem ACQ_U_RPTR_LO.addr_win (i : Nat) : ACQ_U_RPTR_LO.addr i / 0x10000 = 11 := by unfold ACQ_U_RPTR_LO.addr; omega
theorem ACQ_U_RPTR_HI.addr_win (i : Nat) : ACQ_U_RPTR_HI.addr i / 0x10000 = 11 := by unfold ACQ_U_RPTR_HI.addr; omega
theorem ACQ_U_TPTR_LO.addr_win4 (i : Nat) : (ACQ_U_TPTR_LO.addr i + 4) / 0x10000 = 11 := by unfold ACQ_U_TPTR_LO.addr; omega
theorem ACQ_U_TPTR_LO.addr_win8 (i : Nat) : (ACQ_U_TPTR_LO.addr i + 8) / 0x10000 = 11 := by unfold ACQ_U_TPTR_LO.addr; omega
theorem ACQ_U_TPTR_LO.addr_win (i : Nat) : ACQ_U_TPTR_LO.addr i / 0x10000 = 11 := by unfold ACQ_U_TPTR_LO.addr; omega
theorem ACQ_U_TPTR_HI.addr_win (i : Nat) : ACQ_U_TPTR_HI.addr i / 0x10000 = 11 := by unfold ACQ_U_TPTR_HI.addr; omega
theorem ACQ_U_APTR_LO.addr_win4 (i : Nat) : (ACQ_U_APTR_LO.addr i + 4) / 0x10000 = 11 := by unfold ACQ_U_APTR_LO.addr; omega
theorem ACQ_U_APTR_LO.addr_win8 (i : Nat) : (ACQ_U_APTR_LO.addr i + 8) / 0x10000 = 11 := by unfold ACQ_U_APTR_LO.addr; omega
theorem ACQ_U_APTR_LO.addr_win (i : Nat) : ACQ_U_APTR_LO.addr i / 0x10000 = 11 := by unfold ACQ_U_APTR_LO.addr; omega
theorem ACQ_U_APTR_HI.addr_win (i : Nat) : ACQ_U_APTR_HI.addr i / 0x10000 = 11 := by unfold ACQ_U_APTR_HI.addr; omega
theorem DPY_TRC_CTRL.addr_win (i : Nat) : DPY_TRC_CTRL.addr i / 0x10000 = 14 := by unfold DPY_TRC_CTRL.addr; omega
theorem DPY_TRC_COLOUR.addr_win (i : Nat) : DPY_TRC_COLOUR.addr i / 0x10000 = 14 := by unfold DPY_TRC_COLOUR.addr; omega
theorem DPY_AUX_DATA.addr_win (i : Nat) : DPY_AUX_DATA.addr i / 0x10000 = 14 := by unfold DPY_AUX_DATA.addr; omega
theorem LOD_CTRL.addr_win (i : Nat) : LOD_CTRL.addr i / 0x10000 = 16 := by unfold LOD_CTRL.addr; omega
theorem LOD_ENTRY.addr_win (i : Nat) : LOD_ENTRY.addr i / 0x10000 = 16 := by unfold LOD_ENTRY.addr; omega
theorem LOD_BUDGET.addr_win (i : Nat) : LOD_BUDGET.addr i / 0x10000 = 16 := by unfold LOD_BUDGET.addr; omega
theorem LOD_RATE.addr_win (i : Nat) : LOD_RATE.addr i / 0x10000 = 16 := by unfold LOD_RATE.addr; omega
theorem LOD_TAP.addr_win (i : Nat) : LOD_TAP.addr i / 0x10000 = 16 := by unfold LOD_TAP.addr; omega
theorem LOD_TIMER.addr_win (i : Nat) : LOD_TIMER.addr i / 0x10000 = 16 := by unfold LOD_TIMER.addr; omega
theorem LOD_CMD.addr_win (i : Nat) : LOD_CMD.addr i / 0x10000 = 16 := by unfold LOD_CMD.addr; omega
theorem LOD_DOOR.addr_win (i : Nat) : LOD_DOOR.addr i / 0x10000 = 16 := by unfold LOD_DOOR.addr; omega
theorem LOD_STAT.addr_win (i : Nat) : LOD_STAT.addr i / 0x10000 = 16 := by unfold LOD_STAT.addr; omega
theorem LOD_PC.addr_win (i : Nat) : LOD_PC.addr i / 0x10000 = 16 := by unfold LOD_PC.addr; omega
theorem LOD_CNT0.addr_win (i : Nat) : LOD_CNT0.addr i / 0x10000 = 16 := by unfold LOD_CNT0.addr; omega
theorem LOD_CNT1.addr_win (i : Nat) : LOD_CNT1.addr i / 0x10000 = 16 := by unfold LOD_CNT1.addr; omega
theorem LOD_CNT2.addr_win (i : Nat) : LOD_CNT2.addr i / 0x10000 = 16 := by unfold LOD_CNT2.addr; omega
theorem LOD_BUSY.addr_win (i : Nat) : LOD_BUSY.addr i / 0x10000 = 16 := by unfold LOD_BUSY.addr; omega
theorem LOD_MAXINV.addr_win (i : Nat) : LOD_MAXINV.addr i / 0x10000 = 16 := by unfold LOD_MAXINV.addr; omega
theorem DMA_S_CFG.addr_win (i : Nat) : DMA_S_CFG.addr i / 0x10000 = 18 := by unfold DMA_S_CFG.addr; omega
theorem DMA_S_CHAIN.addr_win (i : Nat) : DMA_S_CHAIN.addr i / 0x10000 = 18 := by unfold DMA_S_CHAIN.addr; omega
theorem DMA_S_CLEN.addr_win (i : Nat) : DMA_S_CLEN.addr i / 0x10000 = 18 := by unfold DMA_S_CLEN.addr; omega
theorem DMA_S_HEAD.addr_win (i : Nat) : DMA_S_HEAD.addr i / 0x10000 = 18 := by unfold DMA_S_HEAD.addr; omega
theorem DMA_S_CMD.addr_win (i : Nat) : DMA_S_CMD.addr i / 0x10000 = 18 := by unfold DMA_S_CMD.addr; omega
theorem DMA_S_SPACE.addr_win (i : Nat) : DMA_S_SPACE.addr i / 0x10000 = 18 := by unfold DMA_S_SPACE.addr; omega
theorem DMA_S_STAT.addr_win (i : Nat) : DMA_S_STAT.addr i / 0x10000 = 18 := by unfold DMA_S_STAT.addr; omega
theorem DMA_S_RATE.addr_win (i : Nat) : DMA_S_RATE.addr i / 0x10000 = 18 := by unfold DMA_S_RATE.addr; omega
theorem DMA_S_DONE.addr_win (i : Nat) : DMA_S_DONE.addr i / 0x10000 = 18 := by unfold DMA_S_DONE.addr; omega
theorem DMA_S_BYTES_LO.addr_win4 (i : Nat) : (DMA_S_BYTES_LO.addr i + 4) / 0x10000 = 18 := by unfold DMA_S_BYTES_LO.addr; omega
theorem DMA_S_BYTES_LO.addr_win8 (i : Nat) : (DMA_S_BYTES_LO.addr i + 8) / 0x10000 = 18 := by unfold DMA_S_BYTES_LO.addr; omega
theorem DMA_S_BYTES_LO.addr_win (i : Nat) : DMA_S_BYTES_LO.addr i / 0x10000 = 18 := by unfold DMA_S_BYTES_LO.addr; omega
theorem DMA_S_BYTES_HI.addr_win (i : Nat) : DMA_S_BYTES_HI.addr i / 0x10000 = 18 := by unfold DMA_S_BYTES_HI.addr; omega
theorem DMA_BAR_CTRL.addr_win (i : Nat) : DMA_BAR_CTRL.addr i / 0x10000 = 18 := by unfold DMA_BAR_CTRL.addr; omega
theorem DMA_BAR_STAT.addr_win (i : Nat) : DMA_BAR_STAT.addr i / 0x10000 = 18 := by unfold DMA_BAR_STAT.addr; omega
theorem CHK_CFG.addr_win (i : Nat) : CHK_CFG.addr i / 0x10000 = 19 := by unfold CHK_CFG.addr; omega
theorem CHK_SEQ_INIT.addr_win (i : Nat) : CHK_SEQ_INIT.addr i / 0x10000 = 19 := by unfold CHK_SEQ_INIT.addr; omega
theorem CHK_CMD.addr_win (i : Nat) : CHK_CMD.addr i / 0x10000 = 19 := by unfold CHK_CMD.addr; omega
theorem CHK_RESULT.addr_win4 (i : Nat) : (CHK_RESULT.addr i + 4) / 0x10000 = 19 := by unfold CHK_RESULT.addr; omega
theorem CHK_RESULT.addr_win8 (i : Nat) : (CHK_RESULT.addr i + 8) / 0x10000 = 19 := by unfold CHK_RESULT.addr; omega
theorem CHK_RESULT.addr_win (i : Nat) : CHK_RESULT.addr i / 0x10000 = 19 := by unfold CHK_RESULT.addr; omega
theorem CHK_RSEQ.addr_win4 (i : Nat) : (CHK_RSEQ.addr i + 4) / 0x10000 = 19 := by unfold CHK_RSEQ.addr; omega
theorem CHK_RSEQ.addr_win8 (i : Nat) : (CHK_RSEQ.addr i + 8) / 0x10000 = 19 := by unfold CHK_RSEQ.addr; omega
theorem CHK_RSEQ.addr_win (i : Nat) : CHK_RSEQ.addr i / 0x10000 = 19 := by unfold CHK_RSEQ.addr; omega
theorem CHK_RINFO.addr_win (i : Nat) : CHK_RINFO.addr i / 0x10000 = 19 := by unfold CHK_RINFO.addr; omega
theorem CHK_RBYTES.addr_win (i : Nat) : CHK_RBYTES.addr i / 0x10000 = 19 := by unfold CHK_RBYTES.addr; omega
theorem CHK_STAT.addr_win (i : Nat) : CHK_STAT.addr i / 0x10000 = 19 := by unfold CHK_STAT.addr; omega
theorem MEM_C_STAT.addr_win (i : Nat) : MEM_C_STAT.addr i / 0x10000 = 20 := by unfold MEM_C_STAT.addr; omega
theorem MEM_C_CNT.addr_win (i : Nat) : MEM_C_CNT.addr i / 0x10000 = 20 := by unfold MEM_C_CNT.addr; omega
theorem HPT_IRQ_STAT.addr_win (i : Nat) : HPT_IRQ_STAT.addr i / 0x10000 = 21 := by unfold HPT_IRQ_STAT.addr; omega
theorem HPT_IRQ_EN.addr_win (i : Nat) : HPT_IRQ_EN.addr i / 0x10000 = 21 := by unfold HPT_IRQ_EN.addr; omega
theorem HPT_IRQ_MAP.addr_win (i : Nat) : HPT_IRQ_MAP.addr i / 0x10000 = 21 := by unfold HPT_IRQ_MAP.addr; omega
theorem HPT_VEC.addr_win (i : Nat) : HPT_VEC.addr i / 0x10000 = 21 := by unfold HPT_VEC.addr; omega
theorem HPT_MSIX_ADDR_LO.addr_win (i : Nat) : HPT_MSIX_ADDR_LO.addr i / 0x10000 = 21 := by unfold HPT_MSIX_ADDR_LO.addr; omega
theorem HPT_MSIX_ADDR_HI.addr_win (i : Nat) : HPT_MSIX_ADDR_HI.addr i / 0x10000 = 21 := by unfold HPT_MSIX_ADDR_HI.addr; omega
theorem HPT_MSIX_DATA.addr_win (i : Nat) : HPT_MSIX_DATA.addr i / 0x10000 = 21 := by unfold HPT_MSIX_DATA.addr; omega
theorem HPT_MSIX_CTRL.addr_win (i : Nat) : HPT_MSIX_CTRL.addr i / 0x10000 = 21 := by unfold HPT_MSIX_CTRL.addr; omega
theorem SPT_DRV_CTRL.addr_win (i : Nat) : SPT_DRV_CTRL.addr i / 0x10000 = 22 := by unfold SPT_DRV_CTRL.addr; omega
theorem SPT_DRV_NSID.addr_win (i : Nat) : SPT_DRV_NSID.addr i / 0x10000 = 22 := by unfold SPT_DRV_NSID.addr; omega
theorem SPT_DRV_BASE_LO.addr_win (i : Nat) : SPT_DRV_BASE_LO.addr i / 0x10000 = 22 := by unfold SPT_DRV_BASE_LO.addr; omega
theorem SPT_DRV_BASE_HI.addr_win (i : Nat) : SPT_DRV_BASE_HI.addr i / 0x10000 = 22 := by unfold SPT_DRV_BASE_HI.addr; omega
theorem SPT_DRV_NLB_LO.addr_win (i : Nat) : SPT_DRV_NLB_LO.addr i / 0x10000 = 22 := by unfold SPT_DRV_NLB_LO.addr; omega
theorem SPT_DRV_NLB_HI.addr_win (i : Nat) : SPT_DRV_NLB_HI.addr i / 0x10000 = 22 := by unfold SPT_DRV_NLB_HI.addr; omega
theorem SPT_DRV_WRATE.addr_win (i : Nat) : SPT_DRV_WRATE.addr i / 0x10000 = 22 := by unfold SPT_DRV_WRATE.addr; omega
theorem SPT_DRV_STAT.addr_win (i : Nat) : SPT_DRV_STAT.addr i / 0x10000 = 22 := by unfold SPT_DRV_STAT.addr; omega
theorem SPT_DRV_ERR.addr_win (i : Nat) : SPT_DRV_ERR.addr i / 0x10000 = 22 := by unfold SPT_DRV_ERR.addr; omega
theorem SPT_DRV_CNT.addr_win (i : Nat) : SPT_DRV_CNT.addr i / 0x10000 = 22 := by unfold SPT_DRV_CNT.addr; omega
theorem SPT_DRV_BYTES_LO.addr_win4 (i : Nat) : (SPT_DRV_BYTES_LO.addr i + 4) / 0x10000 = 22 := by unfold SPT_DRV_BYTES_LO.addr; omega
theorem SPT_DRV_BYTES_LO.addr_win8 (i : Nat) : (SPT_DRV_BYTES_LO.addr i + 8) / 0x10000 = 22 := by unfold SPT_DRV_BYTES_LO.addr; omega
theorem SPT_DRV_BYTES_LO.addr_win (i : Nat) : SPT_DRV_BYTES_LO.addr i / 0x10000 = 22 := by unfold SPT_DRV_BYTES_LO.addr; omega
theorem SPT_DRV_BYTES_HI.addr_win (i : Nat) : SPT_DRV_BYTES_HI.addr i / 0x10000 = 22 := by unfold SPT_DRV_BYTES_HI.addr; omega
theorem AUX_SEQ.addr_win (i : Nat) : AUX_SEQ.addr i / 0x10000 = 23 := by unfold AUX_SEQ.addr; omega
theorem AUX_SLOT.addr_win (i : Nat) : AUX_SLOT.addr i / 0x10000 = 23 := by unfold AUX_SLOT.addr; omega
theorem AUX_MON_RES.addr_win (i : Nat) : AUX_MON_RES.addr i / 0x10000 = 23 := by unfold AUX_MON_RES.addr; omega
theorem AUX_INJ_RES.addr_win (i : Nat) : AUX_INJ_RES.addr i / 0x10000 = 23 := by unfold AUX_INJ_RES.addr; omega
theorem AUX_CAL_GAIN.addr_win (i : Nat) : AUX_CAL_GAIN.addr i / 0x10000 = 23 := by unfold AUX_CAL_GAIN.addr; omega
theorem AUX_CAL_OFS.addr_win (i : Nat) : AUX_CAL_OFS.addr i / 0x10000 = 23 := by unfold AUX_CAL_OFS.addr; omega
theorem AUX_DIAG_RES.addr_win (i : Nat) : AUX_DIAG_RES.addr i / 0x10000 = 23 := by unfold AUX_DIAG_RES.addr; omega
theorem AUX_CDAC.addr_win (i : Nat) : AUX_CDAC.addr i / 0x10000 = 23 := by unfold AUX_CDAC.addr; omega
theorem AUX_CDAC_SAFE.addr_win (i : Nat) : AUX_CDAC_SAFE.addr i / 0x10000 = 23 := by unfold AUX_CDAC_SAFE.addr; omega
theorem AUX_PWM.addr_win (i : Nat) : AUX_PWM.addr i / 0x10000 = 23 := by unfold AUX_PWM.addr; omega
theorem AUX_PWM_DUTY.addr_win (i : Nat) : AUX_PWM_DUTY.addr i / 0x10000 = 23 := by unfold AUX_PWM_DUTY.addr; omega
theorem AUX_PWM_SAFE.addr_win (i : Nat) : AUX_PWM_SAFE.addr i / 0x10000 = 23 := by unfold AUX_PWM_SAFE.addr; omega
theorem AUX_SPI_CFG.addr_win (i : Nat) : AUX_SPI_CFG.addr i / 0x10000 = 23 := by unfold AUX_SPI_CFG.addr; omega
theorem AUX_SPI_TX.addr_win (i : Nat) : AUX_SPI_TX.addr i / 0x10000 = 23 := by unfold AUX_SPI_TX.addr; omega
theorem AUX_SPI_RX.addr_win4 (i : Nat) : (AUX_SPI_RX.addr i + 4) / 0x10000 = 23 := by unfold AUX_SPI_RX.addr; omega
theorem AUX_SPI_RX.addr_win8 (i : Nat) : (AUX_SPI_RX.addr i + 8) / 0x10000 = 23 := by unfold AUX_SPI_RX.addr; omega
theorem AUX_SPI_RX.addr_win (i : Nat) : AUX_SPI_RX.addr i / 0x10000 = 23 := by unfold AUX_SPI_RX.addr; omega
theorem AUX_SPI_CMD.addr_win (i : Nat) : AUX_SPI_CMD.addr i / 0x10000 = 23 := by unfold AUX_SPI_CMD.addr; omega
theorem AUX_SPI_STAT.addr_win (i : Nat) : AUX_SPI_STAT.addr i / 0x10000 = 23 := by unfold AUX_SPI_STAT.addr; omega
theorem AUX_SPI_STEP.addr_win (i : Nat) : AUX_SPI_STEP.addr i / 0x10000 = 23 := by unfold AUX_SPI_STEP.addr; omega
theorem SRV_LOOP_CFG.addr_win (i : Nat) : SRV_LOOP_CFG.addr i / 0x10000 = 24 := by unfold SRV_LOOP_CFG.addr; omega
theorem SRV_LOOP_SP.addr_win (i : Nat) : SRV_LOOP_SP.addr i / 0x10000 = 24 := by unfold SRV_LOOP_SP.addr; omega
theorem SRV_LOOP_KP.addr_win (i : Nat) : SRV_LOOP_KP.addr i / 0x10000 = 24 := by unfold SRV_LOOP_KP.addr; omega
theorem SRV_LOOP_KI.addr_win (i : Nat) : SRV_LOOP_KI.addr i / 0x10000 = 24 := by unfold SRV_LOOP_KI.addr; omega
theorem SRV_LOOP_KD.addr_win (i : Nat) : SRV_LOOP_KD.addr i / 0x10000 = 24 := by unfold SRV_LOOP_KD.addr; omega
theorem SRV_LOOP_KF.addr_win (i : Nat) : SRV_LOOP_KF.addr i / 0x10000 = 24 := by unfold SRV_LOOP_KF.addr; omega
theorem SRV_LOOP_FOFS.addr_win (i : Nat) : SRV_LOOP_FOFS.addr i / 0x10000 = 24 := by unfold SRV_LOOP_FOFS.addr; omega
theorem SRV_LOOP_LIM.addr_win (i : Nat) : SRV_LOOP_LIM.addr i / 0x10000 = 24 := by unfold SRV_LOOP_LIM.addr; omega
theorem SRV_LOOP_SLEW.addr_win (i : Nat) : SRV_LOOP_SLEW.addr i / 0x10000 = 24 := by unfold SRV_LOOP_SLEW.addr; omega
theorem SRV_LOOP_SET.addr_win (i : Nat) : SRV_LOOP_SET.addr i / 0x10000 = 24 := by unfold SRV_LOOP_SET.addr; omega
theorem SRV_LOOP_CMD.addr_win (i : Nat) : SRV_LOOP_CMD.addr i / 0x10000 = 24 := by unfold SRV_LOOP_CMD.addr; omega
theorem SRV_LOOP_STAT.addr_win (i : Nat) : SRV_LOOP_STAT.addr i / 0x10000 = 24 := by unfold SRV_LOOP_STAT.addr; omega
theorem SRV_LOOP_OUT.addr_win (i : Nat) : SRV_LOOP_OUT.addr i / 0x10000 = 24 := by unfold SRV_LOOP_OUT.addr; omega
theorem SRV_LOOP_ERR.addr_win (i : Nat) : SRV_LOOP_ERR.addr i / 0x10000 = 24 := by unfold SRV_LOOP_ERR.addr; omega
theorem SRV_LOOP_INT.addr_win (i : Nat) : SRV_LOOP_INT.addr i / 0x10000 = 24 := by unfold SRV_LOOP_INT.addr; omega
theorem SRV_LOOP_CNT.addr_win (i : Nat) : SRV_LOOP_CNT.addr i / 0x10000 = 24 := by unfold SRV_LOOP_CNT.addr; omega
theorem SRV_STEP.addr_win (i : Nat) : SRV_STEP.addr i / 0x10000 = 24 := by unfold SRV_STEP.addr; omega
theorem SRV_STEP_SETTLE.addr_win (i : Nat) : SRV_STEP_SETTLE.addr i / 0x10000 = 24 := by unfold SRV_STEP_SETTLE.addr; omega
theorem SRV_STEP_M.addr_win (i : Nat) : SRV_STEP_M.addr i / 0x10000 = 24 := by unfold SRV_STEP_M.addr; omega
theorem SRV_STEP_V01.addr_win (i : Nat) : SRV_STEP_V01.addr i / 0x10000 = 24 := by unfold SRV_STEP_V01.addr; omega
theorem SRV_STEP_V23.addr_win (i : Nat) : SRV_STEP_V23.addr i / 0x10000 = 24 := by unfold SRV_STEP_V23.addr; omega
theorem SRV_STEP_AUX.addr_win (i : Nat) : SRV_STEP_AUX.addr i / 0x10000 = 24 := by unfold SRV_STEP_AUX.addr; omega
theorem SRV_STEP_OPEN.addr_win (i : Nat) : SRV_STEP_OPEN.addr i / 0x10000 = 24 := by unfold SRV_STEP_OPEN.addr; omega
theorem CST_PORT_CTRL.addr_win (i : Nat) : CST_PORT_CTRL.addr i / 0x10000 = 25 := by unfold CST_PORT_CTRL.addr; omega
theorem CST_PORT_STAT.addr_win (i : Nat) : CST_PORT_STAT.addr i / 0x10000 = 25 := by unfold CST_PORT_STAT.addr; omega
theorem CST_PORT_DELAY.addr_win (i : Nat) : CST_PORT_DELAY.addr i / 0x10000 = 25 := by unfold CST_PORT_DELAY.addr; omega
theorem CST_PORT_CNT.addr_win (i : Nat) : CST_PORT_CNT.addr i / 0x10000 = 25 := by unfold CST_PORT_CNT.addr; omega
theorem CST_OP_STAT.addr_win (i : Nat) : CST_OP_STAT.addr i / 0x10000 = 25 := by unfold CST_OP_STAT.addr; omega
theorem CST_BC_TX.addr_win (i : Nat) : CST_BC_TX.addr i / 0x10000 = 25 := by unfold CST_BC_TX.addr; omega
theorem CST_BC_RX.addr_win4 (i : Nat) : (CST_BC_RX.addr i + 4) / 0x10000 = 25 := by unfold CST_BC_RX.addr; omega
theorem CST_BC_RX.addr_win8 (i : Nat) : (CST_BC_RX.addr i + 8) / 0x10000 = 25 := by unfold CST_BC_RX.addr; omega
theorem CST_BC_RX.addr_win (i : Nat) : CST_BC_RX.addr i / 0x10000 = 25 := by unfold CST_BC_RX.addr; omega
theorem UPD_SLOT.addr_win (i : Nat) : UPD_SLOT.addr i / 0x10000 = 26 := by unfold UPD_SLOT.addr; omega
theorem FLT_LOG.addr_win (i : Nat) : FLT_LOG.addr i / 0x10000 = 27 := by unfold FLT_LOG.addr; omega

end Sys2Proof.Machine
end

