-- ==== Sys2Proof/Laws/KeptOps.lean ====
section
/-! SUPPORT. What the operations of Sys2Proof/Machine/Ops.lean change. -/

set_option Elab.async false

set_option linter.all false

namespace Sys2Proof.Machine

theorem Kept.raiseIrq {f : Foot} {s x : State} (h : Kept f s x) (hf : Foot.le ⟨false, [0x15], [], []⟩ f = true) (n : Nat) :
    Kept f s (x.raiseIrq n) := by
  have key : ∀ k, f.word (k / 0x10000) = true ∨ k / 0x10000 ≠ 0x15 := fun k => by
    by_cases hk : k / 0x10000 = 0x15
    · exact .inl (Foot.word_of_le hf (by rw [hk]; decide))
    · exact .inr hk
  have h1 : f.word (HPT_IRQ_STAT.addr (n / 32) / 0x10000) = true :=
    (key _).resolve_right (fun q => q (HPT_IRQ_STAT.addr_win _))
  unfold State.raiseIrq
  refine Kept.ite h ?_
  refine Kept.ite h ?_
  refine Kept.ite ?_ (Kept.put _ _ h h1)
  exact Kept.put _ _ (Kept.put _ _ h h1) ((key _).resolve_right (fun q => q (HPT_VEC.addr_win _)))

theorem coalesce_length (r : FltRec) (l : List FltRec) : (l.map (coalesce r)).length = l.length := List.length_map ..

theorem Kept.record {f : Foot} {s x : State} (h : Kept f s x) (hf : Foot.le ⟨false, [0x1B], [], [.flt]⟩ f = true)
    (a0 : FltClass) (a1 a2 a3 a4 a5 : Nat) : Kept f s (x.record a0 a1 a2 a3 a4 a5) := by
  have hw : ∀ g : Fld, g.addr / 0x10000 = 0x1B → f.word (g.addr / 0x10000) = true := fun g hg =>
    Foot.word_of_le hf (by rw [hg]; decide)
  have hp : f.part .flt = true := Foot.part_of_le hf (by decide)
  unfold State.record
  dsimp only
  split
  · exact Kept.set_flt _ h hp (fun q => by simpa [coalesce_length] using q)
  · have h1 := Kept.put FLT_SEQ.SEQ (if x.get FLT_SEQ.SEQ = 2 ^ 32 - 1 then 1 else x.get FLT_SEQ.SEQ + 1) h (hw _ (by decide))
    refine Kept.ite' (fun hc => ?_) (fun _ => ?_)
    · exact Kept.set_flt _ (Kept.set_flt _ h1 hp (fun q => q)) hp (fun q => ⟨by simpa using hc, q.2⟩)
    · exact Kept.bump _ (Kept.set_flt _ h1 hp (fun q => q)) (hw _ (by decide))

theorem Kept.logErr {f : Foot} {s x : State} (h : Kept f s x) (hf : Foot.le ⟨false, [0x00], [], [.sys]⟩ f = true) (w0 w1 : Word) :
    Kept f s (x.logErr w0 w1) := by
  unfold State.logErr
  refine Kept.ite' (fun hc => ?_) (fun _ => ?_)
  · exact Kept.set_sys _ h (Foot.part_of_le hf (by decide)) (fun _ => by simpa using hc)
  · exact Kept.put _ _ (Kept.bump _ h (Foot.word_of_le hf (by decide))) (Foot.word_of_le hf (by decide))

theorem Kept.blockErr {f : Foot} {s x : State} (h : Kept f s x) (w code : Nat) (sp : Space) (ofs : Nat) (hw : f.word w = true) :
    Kept f s (x.blockErr w code sp ofs) := by
  have e : ∀ k, k < 0x10000 → f.word ((w * 0x10000 + k) / 0x10000) = true := fun k hk => by
    have : (w * 0x10000 + k) / 0x10000 = w := by omega
    rw [this]; exact hw
  unfold State.blockErr
  exact Kept.setWord _ _ (Kept.put _ _ (Kept.put _ _ h (e _ (by decide))) (e _ (by decide))) (e _ (by decide))

theorem Kept.refuseOp {f : Foot} {s x : State} (h : Kept f s x) (hf : Foot.le ⟨false, [0x00], [], [.sys]⟩ f = true)
    (w ofs : Nat) (src : Source) (e : Err) (hw : f.word w = true) : Kept f s (x.refuseOp w ofs src e) :=
  Kept.logErr (Kept.blockErr h _ _ _ _ hw) hf _ _

theorem Kept.riseIrq {f : Foot} {s x : State} (h : Kept f s x) (hf : Foot.le ⟨false, [0x15], [], []⟩ f = true) (g : Fld) (n : Nat)
    (hw : f.word (g.addr / 0x10000) = true) : Kept f s (x.riseIrq g n) := by
  unfold State.riseIrq
  exact Kept.ite h (Kept.raiseIrq (Kept.put _ _ h hw) hf n)

theorem Kept.setSramByte {f : Foot} {s x : State} (a : Nat) (b : Byte) (h : Kept f s x) (hp : f.part .sram = true) :
    Kept f s (x.setSramByte a b) := Kept.set_sram _ h hp (SMap.wf_set _ _ _ _)

theorem Kept.setGddrByte {f : Foot} {s x : State} (a : Nat) (b : Byte) (h : Kept f s x) (hp : f.part .gddr = true) :
    Kept f s (x.setGddrByte a b) := Kept.set_gddr _ h hp (SMap.wf_set _ _ _ _)

theorem Kept.setFlashByte {f : Foot} {s x : State} (a : Nat) (b : Byte) (h : Kept f s x) (hp : f.part .flash = true) :
    Kept f s (x.setFlashByte a b) := Kept.set_flash _ h hp (SMap.wf_set _ _ _ _)

theorem Kept.setSramLE {f : Foot} {s : State} (n : Nat) : ∀ {x : State} (_ : Kept f s x) (_ : f.part .sram = true) (a v : Nat),
    Kept f s (x.setSramLE a n v) := by
  induction n with
  | zero => exact fun h _ _ _ => h
  | succ n ih => exact fun h hp a v => ih (Kept.set_sram _ h hp (SMap.wf_set _ _ _ _)) hp _ _

theorem Kept.setGddrLE {f : Foot} {s : State} (n : Nat) : ∀ {x : State} (_ : Kept f s x) (_ : f.part .gddr = true) (a v : Nat),
    Kept f s (x.setGddrLE a n v) := by
  induction n with
  | zero => exact fun h _ _ _ => h
  | succ n ih => exact fun h hp a v => ih (Kept.set_gddr _ h hp (SMap.wf_set _ _ _ _)) hp _ _

theorem Kept.setSramBytes {f : Foot} {s : State} (l : List Byte) : ∀ {x : State} (_ : Kept f s x) (_ : f.part .sram = true) (a : Nat),
    Kept f s (x.setSramBytes a l) := by
  induction l with
  | nil => exact fun h _ _ => h
  | cons b l ih => exact fun h hp a => ih (Kept.set_sram _ h hp (SMap.wf_set _ _ _ _)) hp _

theorem Kept.setGddrBytes {f : Foot} {s : State} (l : List Byte) : ∀ {x : State} (_ : Kept f s x) (_ : f.part .gddr = true) (a : Nat),
    Kept f s (x.setGddrBytes a l) := by
  induction l with
  | nil => exact fun h _ _ => h
  | cons b l ih => exact fun h hp a => ih (Kept.set_gddr _ h hp (SMap.wf_set _ _ _ _)) hp _

theorem Kept.drawFree {f : Foot} {s x : State} (h : Kept f s x) (hf : Foot.le ⟨false, [], [], [.freeCtr]⟩ f = true) :
    Kept f s (State.drawFree x) := by
  unfold Sys2Proof.Machine.State.drawFree
  repeat' first
    | with_reducible exact Kept.set_freeCtr _ (by with_reducible assumption) (Foot.part_of_le hf (by decide +kernel : Foot.part _ .freeCtr = true))

theorem Kept.setDev {f : Foot} {s x : State} (h : Kept f s x) (hf : Foot.le ⟨false, [0x00, 0x15], [], []⟩ f = true) (a0 : Nat) :
    Kept f s (State.setDev x a0) := by
  unfold Sys2Proof.Machine.State.setDev
  repeat' first
    | with_reducible assumption
    | with_reducible refine Kept.ite ?_ ?_
    | with_reducible refine Kept.raiseIrq ?_ (Foot.le_trans (by decide +kernel) hf) _
    | with_reducible refine Kept.put _ _ ?_ (Foot.word_of_le hf (by first | decide +kernel))

theorem Kept.setActive {f : Foot} {s x : State} (h : Kept f s x) (hf : Foot.le ⟨false, [0x00, 0x15, 0x1B], [], []⟩ f = true) (a0 : Nat) :
    Kept f s (State.setActive x a0) := by
  unfold Sys2Proof.Machine.State.setActive
  repeat' first
    | with_reducible assumption
    | with_reducible refine Kept.ite ?_ ?_
    | with_reducible refine Kept.put _ _ ?_ (Foot.word_of_le hf (by first | decide +kernel))
    | with_reducible refine Kept.setDev ?_ (Foot.le_trans (by decide +kernel) hf) _

theorem Kept.fltRec {f : Foot} {s x : State} (h : Kept f s x) (hf : Foot.le ⟨false, [0x00, 0x15, 0x1B], [], [.flt]⟩ f = true) (a0 : Nat) (a1 : Nat) (a2 : Nat) (a3 : Nat) (a4 : Nat) (a5 : Nat) :
    Kept f s (State.fltRec x a0 a1 a2 a3 a4 a5) := by
  unfold Sys2Proof.Machine.State.fltRec
  repeat' first
    | with_reducible assumption
    | with_reducible refine Kept.record ?_ (Foot.le_trans (by decide +kernel) hf) _ _ _ _ _ _
    | with_reducible refine Kept.setActive ?_ (Foot.le_trans (by decide +kernel) hf) _

theorem Kept.fltInfo {f : Foot} {s x : State} (h : Kept f s x) (hf : Foot.le ⟨false, [0x1B], [], [.flt]⟩ f = true) (a0 : Nat) (a1 : Nat) (a2 : Nat) (a3 : Nat) (a4 : Nat) :
    Kept f s (State.fltInfo x a0 a1 a2 a3 a4) := by
  unfold Sys2Proof.Machine.State.fltInfo
  repeat' first
    | with_reducible assumption
    | with_reducible refine Kept.record ?_ (Foot.le_trans (by decide +kernel) hf) _ _ _ _ _ _

theorem Kept.clearActive {f : Foot} {s x : State} (h : Kept f s x) (hf : Foot.le ⟨false, [0x00, 0x15, 0x1B], [], []⟩ f = true) (a0 : Nat) :
    Kept f s (State.clearActive x a0) := by
  unfold Sys2Proof.Machine.State.clearActive
  repeat' first
    | with_reducible assumption
    | with_reducible refine Kept.ite ?_ ?_
    | with_reducible refine Kept.put _ _ ?_ (Foot.word_of_le hf (by first | decide +kernel))
    | with_reducible refine Kept.setDev ?_ (Foot.le_trans (by decide +kernel) hf) _

theorem Kept.fltFatal {f : Foot} {s x : State} (h : Kept f s x) (hf : Foot.le ⟨false, [0x00, 0x15, 0x1B], [], [.pins, .flt]⟩ f = true) (a0 : Nat) (a1 : Nat) (a2 : Nat) (a3 : Nat) (a4 : Nat) :
    Kept f s (State.fltFatal x a0 a1 a2 a3 a4) := by
  unfold Sys2Proof.Machine.State.fltFatal
  repeat' first
    | with_reducible assumption
    | with_reducible refine Kept.ite ?_ ?_
    | with_reducible refine Kept.bump _ ?_ (Foot.word_of_le hf (by first | decide +kernel))
    | with_reducible refine Kept.setDev ?_ (Foot.le_trans (by decide +kernel) hf) _
    | with_reducible refine Kept.record ?_ (Foot.le_trans (by decide +kernel) hf) _ _ _ _ _ _
    | (intro y; refine (fun hy : Kept f s y => ?_) ?_ <;> [clear_value y; skip])
    | intro y
    | lift_lets
    | with_reducible exact Kept.set_pins _ (by with_reducible assumption) (Foot.part_of_le hf (by decide +kernel : Foot.part _ .pins = true))
    | with_reducible exact Kept.set_flt _ (by with_reducible assumption) (Foot.part_of_le hf (by decide +kernel : Foot.part _ .flt = true)) (by first | exact fun q => q | (intro q; simp only [List.length_drop, List.length_tail, List.length_map, List.length_nil] at *; omega) | (intro q; simp at *; omega))

end Sys2Proof.Machine
end

