-- ==== Sys2Proof/Laws/Reads.lean ====
section
/-! SUPPORT. What a field, a register and a part read as after an operation whose footprint leaves them out, and after the
operations that set a status bit. -/

namespace Sys2Proof.Machine

theorem Kept.word_of {F : Foot} {s t : State} (k : Kept F s t) {a : Nat} (h : F.word (a / 0x10000) = false) :
    t.word a = s.word a := k.frame.2.1 a h

theorem Kept.get_of {F : Foot} {s t : State} (k : Kept F s t) {g : Fld} (h : F.word (g.addr / 0x10000) = false) :
    t.get g = s.get g := by
  unfold State.get; rw [k.frame.2.1 _ h]

theorem Kept.flag_of {F : Foot} {s t : State} (k : Kept F s t) {g : Fld} (h : F.word (g.addr / 0x10000) = false) :
    t.flag g = s.flag g := by
  unfold State.flag; rw [k.get_of h]

theorem Kept.app_of {F : Foot} {s t : State} (k : Kept F s t) {g : Fld} (h : F.app (g.addr / 0x10000) = false) :
    t.app g = s.app g := by
  unfold State.app; rw [k.frame.2.2.1 _ h]

theorem Kept.part_of {F : Foot} {s t : State} (k : Kept F s t) (p : Part) (h : F.part p = false) : p.same s t := k.frame.2.2.2 p h

theorem Foot.le_refl (f : Foot) : f.le f = true := by
  have h : ∀ {α : Type} [DecidableEq α] (l : List α), l.all l.contains = true := fun l =>
    List.all_eq_true.mpr (fun x hx => List.contains_iff_mem.mpr hx)
  cases hf : f.any <;> simp [Foot.le, hf, h]

theorem State.flag_put_same (s : State) (f : Fld) (v : Nat) (h : f.lo + f.n ≤ 32) (hn : f.n = 1) :
    (s.put f v).flag f = (v % 2 == 1) := by
  unfold State.flag; rw [State.get_put_same s f v h, hn]; rfl

theorem State.flag_put_apart (s : State) (f g : Fld) (v : Nat) (h : f.lo + f.n ≤ 32) (hd : f.apart g) :
    (s.put f v).flag g = s.flag g := by
  unfold State.flag; rw [State.get_put_apart s f g v h hd]

theorem State.get_raiseIrq (s : State) (g : Fld) (n : Nat) (hw : g.addr / 0x10000 ≠ 0x15) : (s.raiseIrq n).get g = s.get g :=
  Kept.get_of (Kept.raiseIrq (Kept.refl _ _) (Foot.le_refl _) n) (by simp only [Foot.word]; simpa using hw)

theorem State.flag_raiseIrq (s : State) (g : Fld) (n : Nat) (hw : g.addr / 0x10000 ≠ 0x15) : (s.raiseIrq n).flag g = s.flag g := by
  unfold State.flag; rw [State.get_raiseIrq s g n hw]

theorem State.get_riseIrq (s : State) (f g : Fld) (n : Nat) (h : f.lo + f.n ≤ 32) (hd : f.apart g) (hw : g.addr / 0x10000 ≠ 0x15) :
    (s.riseIrq f n).get g = s.get g := by
  unfold State.riseIrq
  split
  · rfl
  · rw [State.get_raiseIrq _ _ _ hw, State.get_put_apart s f g 1 h hd]

theorem State.flag_riseIrq (s : State) (f : Fld) (n : Nat) (h : f.lo + f.n ≤ 32) (hn : f.n = 1) (hw : f.addr / 0x10000 ≠ 0x15) :
    (s.riseIrq f n).flag f = true := by
  unfold State.riseIrq
  split
  · assumption
  · rw [State.flag_raiseIrq _ _ _ hw, State.flag_put_same _ _ _ h hn]; rfl

theorem State.dev_setDev (s : State) (d : Nat) (h : d < 16) : (s.setDev d).dev = d := by
  unfold State.setDev
  split
  · exact beq_iff_eq.mp ‹_›
  · unfold State.dev
    rw [State.get_raiseIrq _ _ _ (by decide), State.get_put_same _ _ _ (by decide)]
    exact Nat.mod_eq_of_lt h

end Sys2Proof.Machine
end

