-- ==== Sys2Proof/Laws/Complete.lean ====
section
/-! SUPPORT. How a register command completes: an admitted write whose action is accepted. -/

namespace Sys2Proof.Machine

/-- A command that is one admitted register write, whose block accepts it, completes with the action's state. -/
theorem Completes.of_write {c : Instr} {s t : State} {r : WriteRules} {src : Source} {a : Nat} {w : Word} {P : State → Prop}
    (he : exec c s = .next (s.writeReg r src a w)) (h : s.admits r src a w) (hn : normalAddr a = a) (hv : viewOf a = .normal)
    (ha : r.act src a w (s.landed a w) = .ok t) (hp : P (t.answer 0 0)) : Completes c s P :=
  ⟨_, he, by rw [State.writeReg_admitted h hn hv ha]; exact hp⟩

@[simp] theorem State.answer_get (s : State) (d k : Nat) (f : Fld) : (s.answer d k).get f = s.get f := rfl
@[simp] theorem State.answer_flag (s : State) (d k : Nat) (f : Fld) : (s.answer d k).flag f = s.flag f := rfl
@[simp] theorem State.answer_word (s : State) (d k a : Nat) : (s.answer d k).word a = s.word a := rfl
@[simp] theorem State.answer_dom (s : State) (d k e : Nat) : (s.answer d k).dom e = s.dom e := rfl
theorem State.answer_ok (s : State) : (s.answer 0 0).okAnswer := rfl

end Sys2Proof.Machine
end

