-- ==== Sys2Proof/Laws/KeptBus.lean ====
section
/-! SUPPORT. What the operations of Sys2Proof/Machine/Bus.lean change. -/

set_option Elab.async false

set_option linter.all false

namespace Sys2Proof.Machine

theorem Kept.reject {f : Foot} {s x : State} (h : Kept f s x) (hf : Foot.le ⟨false, [0x00], [], [.resp, .sys]⟩ f = true)
    (src : Source) (rd : Bool) (addr : Nat) (e : Err) (hb : f.word (blockOfWindow (addr / 0x10000)) = true) :
    Kept f s (x.reject src rd addr e) := by
  have hl : Foot.le ⟨false, [0x00], [], [.sys]⟩ f = true := Foot.le_trans (by decide) hf
  have hr : f.part .resp = true := Foot.part_of_le hf (by decide)
  unfold State.reject
  dsimp only
  refine Kept.set_resp _ ?_ hr
  refine Kept.ite ?_ (Kept.logErr ?_ hl _ _)
  · exact Kept.ite (Kept.blockErr h _ _ _ _ hb) h
  · exact Kept.ite (Kept.blockErr h _ _ _ _ hb) h

theorem normalAddr_win (a : Nat) : normalAddr a / 0x10000 = a / 0x10000 := by unfold normalAddr; omega

theorem Kept.writeReg {f : Foot} {s x : State} {r : WriteRules} {src : Source} {a : Nat} {v : Word} (h : Kept f s x)
    (hr : ∀ (y : State) (b0 : Source) (b1 : Nat) (b2 : Word), Kept.res f y (r.act b0 b1 b2 y))
    (hw : f.word (a / 0x10000) = true) (hb : f.word (blockOfWindow (a / 0x10000)) = true) (h0 : f.word 0 = true)
    (hp : f.part .resp = true) (hs : f.part .sys = true) : Kept f s (x.writeReg r src a v) := by
  have hf : Foot.le ⟨false, [0x00], [], [.resp, .sys]⟩ f = true := by
    simp only [Foot.le, Foot.word, Foot.part] at *
    cases hany : f.any <;> simp_all
  rcases State.writeReg_cases x r src a v with e | ⟨e, he⟩ | ⟨w, u, t, ht, he⟩
  · rw [e]; exact Kept.set_resp _ h hp
  · rw [he]; exact Kept.reject h hf _ _ _ _ hb
  · rw [he]
    have k := hr (x.setWord (normalAddr a) u) src (normalAddr a) w
    rw [ht] at k
    exact Kept.set_resp _ ((Kept.setWord _ _ h (by rw [normalAddr_win]; exact hw)).trans k) hp

theorem Kept.answer {f : Foot} {s x : State} (h : Kept f s x) (hf : Foot.le ⟨false, [], [], [.resp]⟩ f = true) (a0 : Nat) (a1 : Nat) :
    Kept f s (State.answer x a0 a1) := by
  unfold Sys2Proof.Machine.State.answer
  repeat' first
    | with_reducible exact Kept.set_resp _ (by with_reducible assumption) (Foot.part_of_le hf (by decide +kernel : Foot.part _ .resp = true))

end Sys2Proof.Machine
end

