-- ==== Sys2Proof/Laws/KeptRates.lean ====
section
/-! SUPPORT. What the operations of Sys2Proof/Machine/Rates.lean change. -/

set_option Elab.async false

set_option linter.all false

namespace Sys2Proof.Machine

theorem Kept.roundOpen {f : Foot} {s x : State} (h : Kept f s x) (hf : Foot.le ⟨false, [], [], [.freeCtr]⟩ f = true) (a0 : Int) (a1 : Int) :
    Kept f s (State.roundOpen x a0 a1).2 := by
  unfold Sys2Proof.Machine.State.roundOpen
  repeat' first
    | with_reducible assumption
    | with_reducible refine Kept.drawFree ?_ (Foot.le_trans (by decide +kernel) hf)
    | split

end Sys2Proof.Machine
end

