-- ==== Sys2Proof/Laws/KeptAcq.lean ====
section
/-! SUPPORT. What the operations of Sys2Proof/Machine/Acq.lean change. -/

set_option Elab.async false

set_option linter.all false

namespace Sys2Proof.Machine

theorem Kept.setUnit {f : Foot} {s x : State} (h : Kept f s x) (hf : Foot.le ⟨false, [], [], [.acq]⟩ f = true) (a0 : Fin 4) (a1 : AcqUnit) :
    Kept f s (State.setUnit x a0 a1) := by
  unfold Sys2Proof.Machine.State.setUnit
  repeat' first
    | intro y
    | lift_lets
    | with_reducible exact Kept.set_acq _ (by with_reducible assumption) (Foot.part_of_le hf (by decide +kernel : Foot.part _ .acq = true))

theorem Kept.notTaken {f : Foot} {s x : State} (h : Kept f s x) (hf : Foot.le ⟨false, [], [], [.acq]⟩ f = true) (u : Fin 4) (g : Fld)
    (hw : f.word (g.addr / 0x10000) = true) : Kept f s (x.notTaken u g) := Kept.bump _ (Kept.setUnit h hf _ _) hw

theorem Kept.closeBlock {f : Foot} {s x : State} (h : Kept f s x) (hf : Foot.le ⟨false, [], [], [.acq]⟩ f = true) (a0 : Fin 4) (a1 : Bool) :
    Kept f s (State.closeBlock x a0 a1) := by
  unfold Sys2Proof.Machine.State.closeBlock
  repeat' first
    | with_reducible assumption
    | with_reducible refine Kept.setUnit ?_ (Foot.le_trans (by decide +kernel) hf) _ _

theorem Kept.ledgerWrite {f : Foot} {s x : State} (h : Kept f s x) (hf : Foot.le ⟨false, [0x0B, 0x15], [], [.gddr]⟩ f = true)
    (u : Fin 4) (l : List Byte) (flag : Option Fld) (hw : ∀ g, flag = some g → f.word (g.addr / 0x10000) = true) :
    Kept f s (x.ledgerWrite u l flag) := by
  have h1 : ∀ v w, Kept f s ((x.setGddrBytes v l).put (ACQ_U_LWR.LWR u) w) := fun v w =>
    Kept.put _ _ (Kept.setGddrBytes _ h (Foot.part_of_le hf (by decide)) _) (Foot.word_of_le hf (by simp only [ACQ_U_LWR.LWR, ACQ_U_LWR.addr_win]; decide))
  unfold State.ledgerWrite
  cases flag with
  | none => exact h1 _ _
  | some g => exact Kept.riseIrq (h1 _ _) (Foot.le_trans (by decide) hf) _ _ (hw g rfl)

theorem Kept.flushOne {f : Foot} {s x : State} (h : Kept f s x) (hf : Foot.le ⟨false, [0x0B, 0x15], [], [.gddr, .acq]⟩ f = true) (a0 : Fin 4) :
    Kept f s (State.flushOne x a0) := by
  unfold Sys2Proof.Machine.State.flushOne
  repeat' first
    | with_reducible assumption
    | with_reducible refine Kept.ite ?_ ?_
    | with_reducible refine Kept.put _ _ ?_ (Foot.word_of_le hf (by first | decide +kernel | (simp only [ACQ_U_STAT.GAP_HELD, ACQ_U_STAT.addr_win, ACQ_U_SEGNO.SEGNO, ACQ_U_SEGNO.addr_win, ACQ_U_STAT.GAP]; first | decide +kernel | (split <;> decide +kernel))))
    | with_reducible refine Kept.setUnit ?_ (Foot.le_trans (by decide +kernel) hf) _ _
    | with_reducible refine Kept.ledgerWrite ?_ (Foot.le_trans (by decide +kernel) hf) _ _ _ (by intro g e; cases e <;> exact (Foot.word_of_le hf (by first | decide +kernel | (simp only [ACQ_U_STAT.GAP_HELD, ACQ_U_STAT.addr_win, ACQ_U_SEGNO.SEGNO, ACQ_U_SEGNO.addr_win, ACQ_U_STAT.GAP]; first | decide +kernel | (split <;> decide +kernel)))))
    | intro y
    | split
    | lift_lets

theorem Kept.flushNotes {f : Foot} {s x : State} (h : Kept f s x) (hf : Foot.le ⟨false, [0x0B, 0x15], [], [.gddr, .acq]⟩ f = true) (a0 : Fin 4) :
    Kept f s (State.flushNotes x a0) := by
  unfold Sys2Proof.Machine.State.flushNotes
  repeat' first
    | with_reducible assumption
    | with_reducible refine Kept.flushOne ?_ (Foot.le_trans (by decide +kernel) hf) _
    | with_reducible refine Kept.foldl _ (fun y b hy => ?_) ?_

theorem Kept.addNote {f : Foot} {s x : State} (h : Kept f s x) (hf : Foot.le ⟨false, [0x0B, 0x15], [], [.gddr, .acq]⟩ f = true) (a0 : Fin 4) (a1 : AcqNote) :
    Kept f s (State.addNote x a0 a1) := by
  unfold Sys2Proof.Machine.State.addNote
  repeat' first
    | with_reducible assumption
    | with_reducible refine Kept.setUnit ?_ (Foot.le_trans (by decide +kernel) hf) _ _
    | with_reducible refine Kept.flushNotes ?_ (Foot.le_trans (by decide +kernel) hf) _
    | intro y
    | split
    | lift_lets

theorem Kept.acqStop {f : Foot} {s x : State} (h : Kept f s x) (hf : Foot.le ⟨false, [0x0B, 0x15], [], [.gddr, .acq]⟩ f = true) (a0 : Fin 4) (a1 : Nat) (a2 : Nat) :
    Kept f s (State.acqStop x a0 a1 a2) := by
  unfold Sys2Proof.Machine.State.acqStop
  repeat' first
    | with_reducible assumption
    | with_reducible refine Kept.ite ?_ ?_
    | with_reducible refine Kept.put _ _ ?_ (Foot.word_of_le hf (by first | decide +kernel | (simp only [ACQ_U_STAT.STATE, ACQ_U_STAT.addr_win, ACQ_U_STAT.STOP_CAUSE]; first | decide +kernel | (split <;> decide +kernel))))
    | with_reducible refine Kept.raiseIrq ?_ (Foot.le_trans (by decide +kernel) hf) _
    | with_reducible refine Kept.setUnit ?_ (Foot.le_trans (by decide +kernel) hf) _ _
    | with_reducible refine Kept.closeBlock ?_ (Foot.le_trans (by decide +kernel) hf) _ _
    | with_reducible refine Kept.addNote ?_ (Foot.le_trans (by decide +kernel) hf) _ _
    | split

theorem Kept.acqAbort {f : Foot} {s x : State} (h : Kept f s x) (hf : Foot.le ⟨false, [0x0B, 0x15], [], [.gddr, .acq]⟩ f = true) (a0 : Fin 4) :
    Kept f s (State.acqAbort x a0) := by
  unfold Sys2Proof.Machine.State.acqAbort
  repeat' first
    | with_reducible assumption
    | with_reducible refine Kept.acqStop ?_ (Foot.le_trans (by decide +kernel) hf) _ _ _
    | with_reducible refine Kept.setUnit ?_ (Foot.le_trans (by decide +kernel) hf) _ _

theorem Kept.acqApply {f : Foot} {s x : State} (h : Kept f s x) (hf : Foot.le ⟨false, [0x0B], [], [.acq]⟩ f = true) :
    Kept f s (State.acqApply x) := by
  unfold Sys2Proof.Machine.State.acqApply
  repeat' first
    | with_reducible assumption
    | with_reducible refine Kept.ite ?_ ?_
    | with_reducible refine Kept.putB _ _ ?_ (Foot.word_of_le hf (by first | decide +kernel | (simp only [ACQ_U_STAT.PENDING, ACQ_U_STAT.addr_win, ACQ_U_RPTR_LO.addr_win, ACQ_U_RPTR_LO.addr_win4, ACQ_U_RPTR_LO.addr_win8, ACQ_U_STAT.STATE, ACQ_U_CFG.MODE, ACQ_U_CFG.addr_win, ACQ_U_STG.CAPT, ACQ_U_STG.addr_win, ACQ_U_STG.STORE]; first | decide +kernel | (split <;> decide +kernel))))
    | with_reducible refine Kept.setUnit ?_ (Foot.le_trans (by decide +kernel) hf) _ _
    | with_reducible refine Kept.putPair _ _ ?_ (Foot.word_of_le hf (by first | decide +kernel | (simp only [ACQ_U_STAT.PENDING, ACQ_U_STAT.addr_win, ACQ_U_RPTR_LO.addr_win, ACQ_U_RPTR_LO.addr_win4, ACQ_U_RPTR_LO.addr_win8, ACQ_U_STAT.STATE, ACQ_U_CFG.MODE, ACQ_U_CFG.addr_win, ACQ_U_STG.CAPT, ACQ_U_STG.addr_win, ACQ_U_STG.STORE]; first | decide +kernel | (split <;> decide +kernel)))) (Foot.word_of_le hf (by first | decide +kernel | (simp only [ACQ_U_STAT.PENDING, ACQ_U_STAT.addr_win, ACQ_U_RPTR_LO.addr_win, ACQ_U_RPTR_LO.addr_win4, ACQ_U_RPTR_LO.addr_win8, ACQ_U_STAT.STATE, ACQ_U_CFG.MODE, ACQ_U_CFG.addr_win, ACQ_U_STG.CAPT, ACQ_U_STG.addr_win, ACQ_U_STG.STORE]; first | decide +kernel | (split <;> decide +kernel))))
    | with_reducible refine Kept.put _ _ ?_ (Foot.word_of_le hf (by first | decide +kernel | (simp only [ACQ_U_STAT.PENDING, ACQ_U_STAT.addr_win, ACQ_U_RPTR_LO.addr_win, ACQ_U_RPTR_LO.addr_win4, ACQ_U_RPTR_LO.addr_win8, ACQ_U_STAT.STATE, ACQ_U_CFG.MODE, ACQ_U_CFG.addr_win, ACQ_U_STG.CAPT, ACQ_U_STG.addr_win, ACQ_U_STG.STORE]; first | decide +kernel | (split <;> decide +kernel))))
    | with_reducible refine Kept.foldl _ (fun y b hy => ?_) ?_

theorem Kept.acqArm {f : Foot} {s x : State} (h : Kept f s x) (hf : Foot.le ⟨false, [0x0B], [], [.acq]⟩ f = true) (a0 : Fin 4) :
    Kept f s (State.acqArm x a0) := by
  unfold Sys2Proof.Machine.State.acqArm
  repeat' first
    | with_reducible assumption
    | with_reducible refine Kept.ite ?_ ?_
    | with_reducible refine Kept.put _ _ ?_ (Foot.word_of_le hf (by first | decide +kernel | (simp only [ACQ_U_STAT.PENDING, ACQ_U_STAT.addr_win, ACQ_U_STAT.STATE, ACQ_U_WPTR_LO.addr_win, ACQ_U_WPTR_LO.addr_win4, ACQ_U_WPTR_LO.addr_win8, ACQ_U_RPTR_LO.addr_win, ACQ_U_RPTR_LO.addr_win4, ACQ_U_RPTR_LO.addr_win8, ACQ_U_APTR_LO.addr_win, ACQ_U_APTR_LO.addr_win4, ACQ_U_APTR_LO.addr_win8, ACQ_U_SEGNO.SEGNO, ACQ_U_SEGNO.addr_win, ACQ_U_LWR.LWR, ACQ_U_LWR.addr_win, ACQ_U_LRD.LRD, ACQ_U_LRD.addr_win]; first | decide +kernel | (split <;> decide +kernel))))
    | with_reducible refine Kept.setUnit ?_ (Foot.le_trans (by decide +kernel) hf) _ _
    | with_reducible refine Kept.putPair _ _ ?_ (Foot.word_of_le hf (by first | decide +kernel | (simp only [ACQ_U_STAT.PENDING, ACQ_U_STAT.addr_win, ACQ_U_STAT.STATE, ACQ_U_WPTR_LO.addr_win, ACQ_U_WPTR_LO.addr_win4, ACQ_U_WPTR_LO.addr_win8, ACQ_U_RPTR_LO.addr_win, ACQ_U_RPTR_LO.addr_win4, ACQ_U_RPTR_LO.addr_win8, ACQ_U_APTR_LO.addr_win, ACQ_U_APTR_LO.addr_win4, ACQ_U_APTR_LO.addr_win8, ACQ_U_SEGNO.SEGNO, ACQ_U_SEGNO.addr_win, ACQ_U_LWR.LWR, ACQ_U_LWR.addr_win, ACQ_U_LRD.LRD, ACQ_U_LRD.addr_win]; first | decide +kernel | (split <;> decide +kernel)))) (Foot.word_of_le hf (by first | decide +kernel | (simp only [ACQ_U_STAT.PENDING, ACQ_U_STAT.addr_win, ACQ_U_STAT.STATE, ACQ_U_WPTR_LO.addr_win, ACQ_U_WPTR_LO.addr_win4, ACQ_U_WPTR_LO.addr_win8, ACQ_U_RPTR_LO.addr_win, ACQ_U_RPTR_LO.addr_win4, ACQ_U_RPTR_LO.addr_win8, ACQ_U_APTR_LO.addr_win, ACQ_U_APTR_LO.addr_win4, ACQ_U_APTR_LO.addr_win8, ACQ_U_SEGNO.SEGNO, ACQ_U_SEGNO.addr_win, ACQ_U_LWR.LWR, ACQ_U_LWR.addr_win, ACQ_U_LRD.LRD, ACQ_U_LRD.addr_win]; first | decide +kernel | (split <;> decide +kernel))))

theorem Kept.gapEnd {f : Foot} {s x : State} (h : Kept f s x) (hf : Foot.le ⟨false, [0x0B, 0x15], [], [.gddr, .acq]⟩ f = true) (a0 : Fin 4) (a1 : Stamp) :
    Kept f s (State.gapEnd x a0 a1) := by
  unfold Sys2Proof.Machine.State.gapEnd
  repeat' first
    | with_reducible assumption
    | with_reducible refine Kept.ite ?_ ?_
    | with_reducible refine Kept.setUnit ?_ (Foot.le_trans (by decide +kernel) hf) _ _
    | with_reducible refine Kept.addNote ?_ (Foot.le_trans (by decide +kernel) hf) _ _
    | (intro y; refine (fun hy : Kept f s y => ?_) ?_ <;> [clear_value y; skip])
    | intro y
    | split
    | lift_lets

theorem Kept.captured {f : Foot} {s x : State} (h : Kept f s x) (hf : Foot.le ⟨false, [], [], [.mem]⟩ f = true) (a0 : Nat) (a1 : Nat) (a2 : Nat) :
    Kept f s (State.captured x a0 a1 a2) := by
  unfold Sys2Proof.Machine.State.captured
  repeat' first
    | with_reducible assumption
    | with_reducible refine Kept.ite ?_ ?_
    | intro y
    | lift_lets
    | with_reducible exact Kept.set_mem _ (by with_reducible assumption) (Foot.part_of_le hf (by decide +kernel : Foot.part _ .mem = true))

theorem Kept.segSample {f : Foot} {s x : State} (h : Kept f s x) (hf : Foot.le ⟨false, [], [], [.gddr, .mem]⟩ f = true) (a0 : AcqGeom) (a1 : OutSample) (a2 : AcqSeg) :
    Kept f s (State.segSample x a0 a1 a2).2 := by
  unfold Sys2Proof.Machine.State.segSample
  repeat' first
    | with_reducible assumption
    | with_reducible refine Kept.captured ?_ (Foot.le_trans (by decide +kernel) hf) _ _ _
    | with_reducible refine Kept.setGddrBytes _ ?_ (Foot.part_of_le hf (by decide +kernel : Foot.part _ .gddr = true)) _
    | split

theorem Kept.fillDone {f : Foot} {s x : State} (h : Kept f s x) (hf : Foot.le ⟨false, [0x0B, 0x15], [], [.gddr, .acq]⟩ f = true) (a0 : Fin 4) :
    Kept f s (State.fillDone x a0) := by
  unfold Sys2Proof.Machine.State.fillDone
  repeat' first
    | with_reducible assumption
    | with_reducible refine Kept.ite ?_ ?_
    | with_reducible refine Kept.put _ _ ?_ (Foot.word_of_le hf (by first | decide +kernel | (simp only [ACQ_U_STAT.STATE, ACQ_U_STAT.addr_win]; first | decide +kernel | (split <;> decide +kernel))))
    | with_reducible refine Kept.acqStop ?_ (Foot.le_trans (by decide +kernel) hf) _ _ _

theorem Kept.fillSegs {f : Foot} {s x : State} (h : Kept f s x) (hf : Foot.le ⟨false, [0x0B, 0x15], [], [.gddr, .acq, .mem]⟩ f = true) (a0 : Fin 4) (a1 : OutSample) :
    Kept f s (State.fillSegs x a0 a1) := by
  unfold Sys2Proof.Machine.State.fillSegs
  repeat' first
    | with_reducible assumption
    | with_reducible refine Kept.segSample ?_ (Foot.le_trans (by decide +kernel) hf) _ _ _
    | with_reducible refine Kept.fillDone ?_ (Foot.le_trans (by decide +kernel) hf) _
    | with_reducible refine Kept.setUnit ?_ (Foot.le_trans (by decide +kernel) hf) _ _
    | with_reducible refine Kept.foldl_snd _ (fun y b hy => ?_) ?_

theorem Kept.ringWrite {f : Foot} {s x : State} (h : Kept f s x) (hf : Foot.le ⟨false, [0x0B], [], [.gddr, .mem]⟩ f = true) (a0 : Fin 4) (a1 : OutSample) :
    Kept f s (State.ringWrite x a0 a1) := by
  unfold Sys2Proof.Machine.State.ringWrite
  repeat' first
    | with_reducible assumption
    | with_reducible refine Kept.ite ?_ ?_
    | with_reducible refine Kept.captured ?_ (Foot.le_trans (by decide +kernel) hf) _ _ _
    | with_reducible refine Kept.setGddrBytes _ ?_ (Foot.part_of_le hf (by decide +kernel : Foot.part _ .gddr = true)) _
    | with_reducible refine Kept.putPair _ _ ?_ (Foot.word_of_le hf (by first | decide +kernel | (simp only [ACQ_U_WPTR_LO.addr_win, ACQ_U_WPTR_LO.addr_win4, ACQ_U_WPTR_LO.addr_win8, ACQ_U_RPTR_LO.addr_win, ACQ_U_RPTR_LO.addr_win4, ACQ_U_RPTR_LO.addr_win8]; first | decide +kernel | (split <;> decide +kernel)))) (Foot.word_of_le hf (by first | decide +kernel | (simp only [ACQ_U_WPTR_LO.addr_win, ACQ_U_WPTR_LO.addr_win4, ACQ_U_WPTR_LO.addr_win8, ACQ_U_RPTR_LO.addr_win, ACQ_U_RPTR_LO.addr_win4, ACQ_U_RPTR_LO.addr_win8]; first | decide +kernel | (split <;> decide +kernel))))

theorem Kept.circDrain {f : Foot} {s x : State} (h : Kept f s x) (hf : Foot.le ⟨false, [0x0B], [], [.gddr, .acq, .mem]⟩ f = true) (a0 : Fin 4) :
    Kept f s (State.circDrain x a0) := by
  unfold Sys2Proof.Machine.State.circDrain
  repeat' first
    | with_reducible assumption
    | with_reducible refine Kept.ite ?_ ?_
    | with_reducible refine Kept.setUnit ?_ (Foot.le_trans (by decide +kernel) hf) _ _
    | with_reducible refine Kept.ringWrite ?_ (Foot.le_trans (by decide +kernel) hf) _ _
    | with_reducible refine Kept.foldl _ (fun y b hy => ?_) ?_

theorem Kept.streamSample {f : Foot} {s x : State} (h : Kept f s x) (hf : Foot.le ⟨false, [], [], [.acq]⟩ f = true) (a0 : Fin 4) (a1 : OutSample) :
    Kept f s (State.streamSample x a0 a1) := by
  unfold Sys2Proof.Machine.State.streamSample
  repeat' first
    | with_reducible assumption
    | with_reducible refine Kept.ite ?_ ?_
    | with_reducible refine Kept.closeBlock ?_ (Foot.le_trans (by decide +kernel) hf) _ _
    | with_reducible refine Kept.setUnit ?_ (Foot.le_trans (by decide +kernel) hf) _ _

theorem Kept.unitSample {f : Foot} {s x : State} (h : Kept f s x) (hf : Foot.le ⟨false, [0x0B, 0x15], [], [.gddr, .acq, .mem]⟩ f = true) (a0 : Fin 4) (a1 : OutSample) :
    Kept f s (State.unitSample x a0 a1) := by
  unfold Sys2Proof.Machine.State.unitSample
  repeat' first
    | with_reducible assumption
    | with_reducible refine Kept.ite ?_ ?_
    | with_reducible refine Kept.setUnit ?_ (Foot.le_trans (by decide +kernel) hf) _ _
    | with_reducible refine Kept.gapEnd ?_ (Foot.le_trans (by decide +kernel) hf) _ _
    | with_reducible refine Kept.fillSegs ?_ (Foot.le_trans (by decide +kernel) hf) _ _
    | with_reducible refine Kept.circDrain ?_ (Foot.le_trans (by decide +kernel) hf) _
    | with_reducible refine Kept.streamSample ?_ (Foot.le_trans (by decide +kernel) hf) _ _
    | (intro y; refine (fun hy : Kept f s y => ?_) ?_ <;> [clear_value y; skip])
    | intro y
    | split
    | lift_lets

theorem Kept.acqSample {f : Foot} {s x : State} (h : Kept f s x) (hf : Foot.le ⟨false, [0x0B, 0x15], [], [.gddr, .acq, .mem]⟩ f = true) (a0 : Nat) (a1 : OutSample) :
    Kept f s (State.acqSample x a0 a1) := by
  unfold Sys2Proof.Machine.State.acqSample
  repeat' first
    | with_reducible assumption
    | with_reducible refine Kept.ite ?_ ?_
    | with_reducible refine Kept.unitSample ?_ (Foot.le_trans (by decide +kernel) hf) _ _
    | with_reducible refine Kept.foldl _ (fun y b hy => ?_) ?_

theorem Kept.gapStart {f : Foot} {s x : State} (h : Kept f s x) (hf : Foot.le ⟨false, [0x0B, 0x15], [], [.gddr, .acq, .mem]⟩ f = true) (a0 : Fin 4) (a1 : Nat) (a2 : Stamp) :
    Kept f s (State.gapStart x a0 a1 a2) := by
  unfold Sys2Proof.Machine.State.gapStart
  repeat' first
    | with_reducible assumption
    | with_reducible refine Kept.ite ?_ ?_
    | with_reducible refine Kept.setUnit ?_ (Foot.le_trans (by decide +kernel) hf) _ _
    | with_reducible refine Kept.circDrain ?_ (Foot.le_trans (by decide +kernel) hf) _
    | with_reducible refine Kept.closeBlock ?_ (Foot.le_trans (by decide +kernel) hf) _ _
    | with_reducible refine Kept.fillDone ?_ (Foot.le_trans (by decide +kernel) hf) _
    | split

theorem Kept.acqSourceGap {f : Foot} {s x : State} (h : Kept f s x) (hf : Foot.le ⟨false, [0x0B, 0x15], [], [.gddr, .acq, .mem]⟩ f = true) (a0 : Nat) (a1 : Nat) (a2 : Stamp) :
    Kept f s (State.acqSourceGap x a0 a1 a2) := by
  unfold Sys2Proof.Machine.State.acqSourceGap
  repeat' first
    | with_reducible assumption
    | with_reducible refine Kept.ite ?_ ?_
    | with_reducible refine Kept.gapStart ?_ (Foot.le_trans (by decide +kernel) hf) _ _ _
    | with_reducible refine Kept.foldl _ (fun y b hy => ?_) ?_
    | intro y
    | lift_lets
    | with_reducible exact Kept.set_acq _ (by with_reducible assumption) (Foot.part_of_le hf (by decide +kernel : Foot.part _ .acq = true))

theorem Kept.acqSourceStart {f : Foot} {s x : State} (h : Kept f s x) (hf : Foot.le ⟨false, [0x0B, 0x15], [], [.gddr, .acq]⟩ f = true) (a0 : Nat) (a1 : Stamp) :
    Kept f s (State.acqSourceStart x a0 a1) := by
  unfold Sys2Proof.Machine.State.acqSourceStart
  repeat' first
    | with_reducible assumption
    | with_reducible refine Kept.ite ?_ ?_
    | with_reducible refine Kept.gapEnd ?_ (Foot.le_trans (by decide +kernel) hf) _ _
    | with_reducible refine Kept.foldl _ (fun y b hy => ?_) ?_
    | intro y
    | lift_lets
    | with_reducible exact Kept.set_acq _ (by with_reducible assumption) (Foot.part_of_le hf (by decide +kernel : Foot.part _ .acq = true))

theorem Kept.acqStopCmd {f : Foot} {s x : State} (h : Kept f s x) (hf : Foot.le ⟨false, [0x0B, 0x15], [], [.gddr, .acq]⟩ f = true) (a0 : Fin 4) :
    Kept f s (State.acqStopCmd x a0) := by
  unfold Sys2Proof.Machine.State.acqStopCmd
  repeat' first
    | with_reducible assumption
    | with_reducible refine Kept.ite ?_ ?_
    | with_reducible refine Kept.put _ _ ?_ (Foot.word_of_le hf (by first | decide +kernel | (simp only [ACQ_U_STAT.STATE, ACQ_U_STAT.addr_win]; first | decide +kernel | (split <;> decide +kernel))))
    | with_reducible refine Kept.setUnit ?_ (Foot.le_trans (by decide +kernel) hf) _ _
    | with_reducible refine Kept.acqStop ?_ (Foot.le_trans (by decide +kernel) hf) _ _ _

theorem Kept.offerSeg {f : Foot} {s x : State} (h : Kept f s x) (hf : Foot.le ⟨false, [0x0B, 0x15], [], [.gddr, .acq, .mem]⟩ f = true) (a0 : Fin 4) (a1 : TrgRec) (a2 : Stamp) :
    Kept f s (State.offerSeg x a0 a1 a2) := by
  unfold Sys2Proof.Machine.State.offerSeg
  repeat' first
    | with_reducible assumption
    | with_reducible refine Kept.ite ?_ ?_
    | with_reducible refine Kept.notTaken ?_ (Foot.le_trans (by decide +kernel) hf) _ _ (Foot.word_of_le hf (by first | decide +kernel | (simp only [ACQ_U_SEGNO.SEGNO, ACQ_U_SEGNO.addr_win, ACQ_U_CNT0.BUSY, ACQ_U_CNT0.addr_win, ACQ_U_CNT1.GAPSKIP, ACQ_U_CNT1.addr_win, ACQ_U_CNT0.NOSLOT, ACQ_U_STAT.STATE, ACQ_U_STAT.addr_win]; first | decide +kernel | (split <;> decide +kernel))))
    | with_reducible refine Kept.segSample ?_ (Foot.le_trans (by decide +kernel) hf) _ _ _
    | with_reducible refine Kept.setUnit ?_ (Foot.le_trans (by decide +kernel) hf) _ _
    | with_reducible refine Kept.put _ _ ?_ (Foot.word_of_le hf (by first | decide +kernel | (simp only [ACQ_U_SEGNO.SEGNO, ACQ_U_SEGNO.addr_win, ACQ_U_CNT0.BUSY, ACQ_U_CNT0.addr_win, ACQ_U_CNT1.GAPSKIP, ACQ_U_CNT1.addr_win, ACQ_U_CNT0.NOSLOT, ACQ_U_STAT.STATE, ACQ_U_STAT.addr_win]; first | decide +kernel | (split <;> decide +kernel))))
    | with_reducible refine Kept.fillDone ?_ (Foot.le_trans (by decide +kernel) hf) _
    | with_reducible refine Kept.foldl_snd _ (fun y b hy => ?_) ?_
    | split

theorem Kept.offerCirc {f : Foot} {s x : State} (h : Kept f s x) (hf : Foot.le ⟨false, [0x0B], [], [.gddr, .acq, .mem]⟩ f = true) (a0 : Fin 4) (a1 : TrgRec) (a2 : Stamp) (a3 : Nat) :
    Kept f s (State.offerCirc x a0 a1 a2 a3) := by
  unfold Sys2Proof.Machine.State.offerCirc
  repeat' first
    | with_reducible assumption
    | with_reducible refine Kept.ite ?_ ?_
    | with_reducible refine Kept.notTaken ?_ (Foot.le_trans (by decide +kernel) hf) _ _ (Foot.word_of_le hf (by first | decide +kernel | (simp only [ACQ_U_CNT0.BUSY, ACQ_U_CNT0.addr_win, ACQ_U_CNT1.GAPSKIP, ACQ_U_CNT1.addr_win, ACQ_U_TPTR_LO.addr_win, ACQ_U_TPTR_LO.addr_win4, ACQ_U_TPTR_LO.addr_win8, ACQ_U_STAT.STATE, ACQ_U_STAT.addr_win]; first | decide +kernel | (split <;> decide +kernel))))
    | with_reducible refine Kept.setUnit ?_ (Foot.le_trans (by decide +kernel) hf) _ _
    | with_reducible refine Kept.putPair _ _ ?_ (Foot.word_of_le hf (by first | decide +kernel | (simp only [ACQ_U_CNT0.BUSY, ACQ_U_CNT0.addr_win, ACQ_U_CNT1.GAPSKIP, ACQ_U_CNT1.addr_win, ACQ_U_TPTR_LO.addr_win, ACQ_U_TPTR_LO.addr_win4, ACQ_U_TPTR_LO.addr_win8, ACQ_U_STAT.STATE, ACQ_U_STAT.addr_win]; first | decide +kernel | (split <;> decide +kernel)))) (Foot.word_of_le hf (by first | decide +kernel | (simp only [ACQ_U_CNT0.BUSY, ACQ_U_CNT0.addr_win, ACQ_U_CNT1.GAPSKIP, ACQ_U_CNT1.addr_win, ACQ_U_TPTR_LO.addr_win, ACQ_U_TPTR_LO.addr_win4, ACQ_U_TPTR_LO.addr_win8, ACQ_U_STAT.STATE, ACQ_U_STAT.addr_win]; first | decide +kernel | (split <;> decide +kernel))))
    | with_reducible refine Kept.circDrain ?_ (Foot.le_trans (by decide +kernel) hf) _
    | with_reducible refine Kept.put _ _ ?_ (Foot.word_of_le hf (by first | decide +kernel | (simp only [ACQ_U_CNT0.BUSY, ACQ_U_CNT0.addr_win, ACQ_U_CNT1.GAPSKIP, ACQ_U_CNT1.addr_win, ACQ_U_TPTR_LO.addr_win, ACQ_U_TPTR_LO.addr_win4, ACQ_U_TPTR_LO.addr_win8, ACQ_U_STAT.STATE, ACQ_U_STAT.addr_win]; first | decide +kernel | (split <;> decide +kernel))))
    | split

theorem Kept.acqTrigger {f : Foot} {s x : State} (h : Kept f s x) (hf : Foot.le ⟨false, [0x0B, 0x15], [], [.gddr, .acq, .mem]⟩ f = true) (a0 : TrgRec) :
    Kept f s (State.acqTrigger x a0) := by
  unfold Sys2Proof.Machine.State.acqTrigger
  repeat' first
    | with_reducible assumption
    | with_reducible refine Kept.ite ?_ ?_
    | with_reducible refine Kept.offerSeg ?_ (Foot.le_trans (by decide +kernel) hf) _ _ _
    | with_reducible refine Kept.offerCirc ?_ (Foot.le_trans (by decide +kernel) hf) _ _ _ _
    | with_reducible refine Kept.foldl _ (fun y b hy => ?_) ?_

theorem Kept.acqVerdict {f : Foot} {s x : State} (h : Kept f s x) (hf : Foot.le ⟨false, [0x0B], [], [.gddr, .acq, .mem]⟩ f = true) (a0 : Nat) (a1 : Nat) (a2 : Bool) (a3 : Stamp) :
    Kept f s (State.acqVerdict x a0 a1 a2 a3) := by
  unfold State.acqVerdict
  refine Kept.ite h ?_
  refine Kept.foldl _ (fun y b hy => ?_) h
  have h2 : ∀ v, Kept f s (y.setUnit b v) := fun v => Kept.setUnit hy (Foot.le_trans (by decide +kernel) hf) _ _
  have h3 : ∀ v w, Kept f s ((y.setUnit b v).setUnit b w) := fun v w => Kept.setUnit (h2 v) (Foot.le_trans (by decide +kernel) hf) _ _
  have h4 : ∀ v w z, Kept f s (((y.setUnit b v).setUnit b w).setUnit b z) := fun v w z => Kept.setUnit (h3 v w) (Foot.le_trans (by decide +kernel) hf) _ _
  dsimp only
  refine Kept.ite hy (Kept.ite (Kept.ite (Kept.offerCirc hy (Foot.le_trans (by decide +kernel) hf) _ _ _ _) hy) ?_)
  generalize List.find? _ _ = q
  cases q with
  | some z => exact Kept.ite (Kept.ite (Kept.put _ _ (h4 _ _ _) (Foot.word_of_le hf (by first | decide +kernel | (simp only [ACQ_U_CFG.TEST_MASK, ACQ_U_CFG.addr_win, DDC_CFG.SRC_CH, DDC_CFG.addr_win, ACQ_U_CFG.STOP_ON_FAIL, ACQ_U_STAT.STATE, ACQ_U_STAT.addr_win]; first | decide +kernel | (split <;> decide +kernel))))) (h3 _ _)) (h2 _)
  | none => exact h2 _

theorem Kept.lrdRelease {f : Foot} {s x : State} (h : Kept f s x) (hf : Foot.le ⟨false, [0x0B, 0x15], [], [.gddr, .acq]⟩ f = true) (a0 : Fin 4) :
    Kept f s (State.lrdRelease x a0) := by
  unfold Sys2Proof.Machine.State.lrdRelease
  repeat' first
    | with_reducible assumption
    | with_reducible refine Kept.put _ _ ?_ (Foot.word_of_le hf (by first | decide +kernel | (simp only [ACQ_U_STAT.GAP_HELD, ACQ_U_STAT.addr_win, ACQ_U_SEGNO.SEGNO, ACQ_U_SEGNO.addr_win, ACQ_U_STAT.GAP]; first | decide +kernel | (split <;> decide +kernel))))
    | with_reducible refine Kept.setUnit ?_ (Foot.le_trans (by decide +kernel) hf) _ _
    | with_reducible refine Kept.flushNotes ?_ (Foot.le_trans (by decide +kernel) hf) _
    | with_reducible refine Kept.ledgerWrite ?_ (Foot.le_trans (by decide +kernel) hf) _ _ _ (by intro g e; cases e <;> exact (Foot.word_of_le hf (by first | decide +kernel | (simp only [ACQ_U_STAT.GAP_HELD, ACQ_U_STAT.addr_win, ACQ_U_SEGNO.SEGNO, ACQ_U_SEGNO.addr_win, ACQ_U_STAT.GAP]; first | decide +kernel | (split <;> decide +kernel)))))
    | (intro y; refine (fun hy : Kept f s y => ?_) ?_ <;> [clear_value y; skip])
    | intro y
    | split
    | lift_lets

theorem Kept.acqRules {f : Foot} {s x : State} (h : Kept f s x) (hf : Foot.le ⟨false, [0x0B, 0x15], [], [.gddr, .acq]⟩ f = true) (b0 : Source) (b1 : Nat) (b2 : Word) :
    Kept.res f s (acqRules.act b0 b1 b2 x) := by
  unfold Sys2Proof.Machine.acqRules
  repeat' first
    | with_reducible assumption
    | with_reducible refine Kept.res_ite ?_ ?_
    | with_reducible refine Kept.res_ok ?_
    | with_reducible exact Kept.res_error _ _ _
    | with_reducible refine Kept.acqArm ?_ (Foot.le_trans (by decide +kernel) hf) _
    | with_reducible refine Kept.acqStopCmd ?_ (Foot.le_trans (by decide +kernel) hf) _
    | with_reducible refine Kept.acqAbort ?_ (Foot.le_trans (by decide +kernel) hf) _
    | with_reducible refine Kept.lrdRelease ?_ (Foot.le_trans (by decide +kernel) hf) _
    | split
    | lift_lets
    | dsimp only

theorem Kept.acqRulesLrd {f : Foot} {s x : State} (h : Kept f s x) (hf : Foot.le ⟨false, [0x0B, 0x15], [], [.gddr, .acq]⟩ f = true) (b0 : Source) (b1 : Nat) (b2 : Word) :
    Kept.res f s (acqRulesLrd.act b0 b1 b2 x) := by
  exact Kept.acqRules h (Foot.le_trans (by decide +kernel) hf) b0 b1 b2

theorem Kept.execAcqAbort {f : Foot} {s x : State} (h : Kept f s x) (hf : Foot.le ⟨false, [0x00, 0x0B, 0x15], [], [.gddr, .resp, .sys, .acq]⟩ f = true) (a0 : Fin 4) (a1 : Source) (a2 : Word) :
    ∃ t, execAcqAbort a0 a1 a2 x = .next t ∧ Kept f s t := by
  unfold Sys2Proof.Machine.execAcqAbort
  refine ⟨_, rfl, ?_⟩
  repeat' first
    | with_reducible assumption
    | with_reducible refine Kept.writeReg ?_ (fun y b0 b1 b2 => Kept.acqRulesLrd (Kept.refl _ y) (Foot.le_trans (by decide +kernel) hf) b0 b1 b2) (Foot.word_of_le hf (by first | decide +kernel | (simp only [ACQ_U_CMD.addr_win]; first | decide +kernel | (split <;> decide +kernel)))) (Foot.word_of_le hf (by first | decide +kernel | (simp only [ACQ_U_CMD.addr_win]; first | decide +kernel | (split <;> decide +kernel)))) (Foot.word_of_le hf (by decide +kernel)) (Foot.part_of_le hf (by decide +kernel : Foot.part _ .resp = true)) (Foot.part_of_le hf (by decide +kernel : Foot.part _ .sys = true))

theorem Kept.execAcqArm {f : Foot} {s x : State} (h : Kept f s x) (hf : Foot.le ⟨false, [0x00, 0x0B, 0x15], [], [.gddr, .resp, .sys, .acq]⟩ f = true) (a0 : Fin 4) (a1 : Source) (a2 : Word) :
    ∃ t, execAcqArm a0 a1 a2 x = .next t ∧ Kept f s t := by
  unfold Sys2Proof.Machine.execAcqArm
  refine ⟨_, rfl, ?_⟩
  repeat' first
    | with_reducible assumption
    | with_reducible refine Kept.writeReg ?_ (fun y b0 b1 b2 => Kept.acqRulesLrd (Kept.refl _ y) (Foot.le_trans (by decide +kernel) hf) b0 b1 b2) (Foot.word_of_le hf (by first | decide +kernel | (simp only [ACQ_U_CMD.addr_win]; first | decide +kernel | (split <;> decide +kernel)))) (Foot.word_of_le hf (by first | decide +kernel | (simp only [ACQ_U_CMD.addr_win]; first | decide +kernel | (split <;> decide +kernel)))) (Foot.word_of_le hf (by decide +kernel)) (Foot.part_of_le hf (by decide +kernel : Foot.part _ .resp = true)) (Foot.part_of_le hf (by decide +kernel : Foot.part _ .sys = true))

theorem Kept.execAcqStop {f : Foot} {s x : State} (h : Kept f s x) (hf : Foot.le ⟨false, [0x00, 0x0B, 0x15], [], [.gddr, .resp, .sys, .acq]⟩ f = true) (a0 : Fin 4) (a1 : Source) (a2 : Word) :
    ∃ t, execAcqStop a0 a1 a2 x = .next t ∧ Kept f s t := by
  unfold Sys2Proof.Machine.execAcqStop
  refine ⟨_, rfl, ?_⟩
  repeat' first
    | with_reducible assumption
    | with_reducible refine Kept.writeReg ?_ (fun y b0 b1 b2 => Kept.acqRulesLrd (Kept.refl _ y) (Foot.le_trans (by decide +kernel) hf) b0 b1 b2) (Foot.word_of_le hf (by first | decide +kernel | (simp only [ACQ_U_CMD.addr_win]; first | decide +kernel | (split <;> decide +kernel)))) (Foot.word_of_le hf (by first | decide +kernel | (simp only [ACQ_U_CMD.addr_win]; first | decide +kernel | (split <;> decide +kernel)))) (Foot.word_of_le hf (by decide +kernel)) (Foot.part_of_le hf (by decide +kernel : Foot.part _ .resp = true)) (Foot.part_of_le hf (by decide +kernel : Foot.part _ .sys = true))

theorem Kept.execAutoRearm {f : Foot} {s x : State} (h : Kept f s x) (hf : Foot.le ⟨false, [0x0B], [], [.acq]⟩ f = true) (a0 : Fin 4) :
    ∃ t, execAutoRearm a0 x = .next t ∧ Kept f s t := by
  unfold Sys2Proof.Machine.execAutoRearm
  refine ⟨_, rfl, ?_⟩
  repeat' first
    | with_reducible assumption
    | with_reducible refine Kept.ite ?_ ?_
    | with_reducible refine Kept.acqArm ?_ (Foot.le_trans (by decide +kernel) hf) _

theorem Kept.execCircularPostStop {f : Foot} {s x : State} (h : Kept f s x) (hf : Foot.le ⟨false, [0x0B, 0x15], [], [.gddr, .acq]⟩ f = true) (a0 : Fin 4) :
    ∃ t, execCircularPostStop a0 x = .next t ∧ Kept f s t := by
  unfold Sys2Proof.Machine.execCircularPostStop
  refine ⟨_, rfl, ?_⟩
  repeat' first
    | with_reducible assumption
    | with_reducible refine Kept.ledgerWrite ?_ (Foot.le_trans (by decide +kernel) hf) _ _ _ (by intro g e; cases e <;> exact (Foot.word_of_le hf (by first | decide +kernel | (simp only [ACQ_U_SEGNO.SEGNO, ACQ_U_SEGNO.addr_win, ACQ_U_CFG.TEST_MASK, ACQ_U_CFG.addr_win, ACQ_U_STAT.SEG, ACQ_U_STAT.addr_win]; first | decide +kernel | (split <;> decide +kernel)))))
    | with_reducible refine Kept.setUnit ?_ (Foot.le_trans (by decide +kernel) hf) _ _
    | with_reducible refine Kept.put _ _ ?_ (Foot.word_of_le hf (by first | decide +kernel | (simp only [ACQ_U_SEGNO.SEGNO, ACQ_U_SEGNO.addr_win, ACQ_U_CFG.TEST_MASK, ACQ_U_CFG.addr_win, ACQ_U_STAT.SEG, ACQ_U_STAT.addr_win]; first | decide +kernel | (split <;> decide +kernel))))
    | with_reducible refine Kept.acqStop ?_ (Foot.le_trans (by decide +kernel) hf) _ _ _
    | intro y
    | split
    | lift_lets

theorem Kept.execContainerBlock {f : Foot} {s x : State} (h : Kept f s x) (hf : Foot.le ⟨false, [], [], [.acq]⟩ f = true) (a0 : Fin 4) :
    ∃ t, execContainerBlock a0 x = .next t ∧ Kept f s t := by
  unfold Sys2Proof.Machine.execContainerBlock
  refine ⟨_, rfl, ?_⟩
  repeat' first
    | with_reducible assumption
    | with_reducible refine Kept.ite ?_ ?_
    | with_reducible refine Kept.closeBlock ?_ (Foot.le_trans (by decide +kernel) hf) _ _

theorem Kept.execLrdWrite {f : Foot} {s x : State} (h : Kept f s x) (hf : Foot.le ⟨false, [0x00, 0x0B, 0x15], [], [.gddr, .resp, .sys, .acq]⟩ f = true) (a0 : Fin 4) (a1 : Source) (a2 : Word) :
    ∃ t, execLrdWrite a0 a1 a2 x = .next t ∧ Kept f s t := by
  unfold Sys2Proof.Machine.execLrdWrite
  refine ⟨_, rfl, ?_⟩
  repeat' first
    | with_reducible assumption
    | with_reducible refine Kept.writeReg ?_ (fun y b0 b1 b2 => Kept.acqRulesLrd (Kept.refl _ y) (Foot.le_trans (by decide +kernel) hf) b0 b1 b2) (Foot.word_of_le hf (by first | decide +kernel | (simp only [ACQ_U_LRD.addr_win]; first | decide +kernel | (split <;> decide +kernel)))) (Foot.word_of_le hf (by first | decide +kernel | (simp only [ACQ_U_LRD.addr_win]; first | decide +kernel | (split <;> decide +kernel)))) (Foot.word_of_le hf (by decide +kernel)) (Foot.part_of_le hf (by decide +kernel : Foot.part _ .resp = true)) (Foot.part_of_le hf (by decide +kernel : Foot.part _ .sys = true))

theorem Kept.execSegmentEntry {f : Foot} {s x : State} (h : Kept f s x) (hf : Foot.le ⟨false, [0x0B, 0x15], [], [.gddr, .acq]⟩ f = true) (a0 : Fin 4) :
    ∃ t, execSegmentEntry a0 x = .next t ∧ Kept f s t := by
  unfold Sys2Proof.Machine.execSegmentEntry
  refine ⟨_, rfl, ?_⟩
  repeat' first
    | with_reducible assumption
    | with_reducible refine Kept.ite ?_ ?_
    | with_reducible refine Kept.ledgerWrite ?_ (Foot.le_trans (by decide +kernel) hf) _ _ _ (by intro g e; cases e <;> exact (Foot.word_of_le hf (by first | decide +kernel | (simp only [ACQ_U_CFG.TEST_MASK, ACQ_U_CFG.addr_win, ACQ_U_STAT.SEG, ACQ_U_STAT.addr_win, ACQ_U_STAT.FAIL, ACQ_U_CNT1.FAILS, ACQ_U_CNT1.addr_win]; first | decide +kernel | (split <;> decide +kernel)))))
    | with_reducible refine Kept.bump _ ?_ (Foot.word_of_le hf (by first | decide +kernel | (simp only [ACQ_U_CFG.TEST_MASK, ACQ_U_CFG.addr_win, ACQ_U_STAT.SEG, ACQ_U_STAT.addr_win, ACQ_U_STAT.FAIL, ACQ_U_CNT1.FAILS, ACQ_U_CNT1.addr_win]; first | decide +kernel | (split <;> decide +kernel))))
    | with_reducible refine Kept.put _ _ ?_ (Foot.word_of_le hf (by first | decide +kernel | (simp only [ACQ_U_CFG.TEST_MASK, ACQ_U_CFG.addr_win, ACQ_U_STAT.SEG, ACQ_U_STAT.addr_win, ACQ_U_STAT.FAIL, ACQ_U_CNT1.FAILS, ACQ_U_CNT1.addr_win]; first | decide +kernel | (split <;> decide +kernel))))
    | with_reducible refine Kept.setUnit ?_ (Foot.le_trans (by decide +kernel) hf) _ _
    | with_reducible refine Kept.flushNotes ?_ (Foot.le_trans (by decide +kernel) hf) _
    | with_reducible refine Kept.acqStop ?_ (Foot.le_trans (by decide +kernel) hf) _ _ _
    | with_reducible refine Kept.fillDone ?_ (Foot.le_trans (by decide +kernel) hf) _
    | intro y
    | split
    | lift_lets
    | dsimp only

theorem Kept.execStagingOverrun {f : Foot} {s x : State} (h : Kept f s x) (hf : Foot.le ⟨false, [0x0B, 0x15], [], [.gddr, .acq, .mem]⟩ f = true) (a0 : Fin 4) :
    ∃ t, execStagingOverrun a0 x = .next t ∧ Kept f s t := by
  unfold Sys2Proof.Machine.execStagingOverrun
  refine ⟨_, rfl, ?_⟩
  repeat' first
    | with_reducible assumption
    | with_reducible refine Kept.ite ?_ ?_
    | with_reducible refine Kept.gapStart ?_ (Foot.le_trans (by decide +kernel) hf) _ _ _
    | with_reducible refine Kept.put _ _ ?_ (Foot.word_of_le hf (by first | decide +kernel | (simp only [ACQ_U_STAT.OVERRUN, ACQ_U_STAT.addr_win]; first | decide +kernel | (split <;> decide +kernel))))
    | with_reducible refine Kept.setUnit ?_ (Foot.le_trans (by decide +kernel) hf) _ _

theorem Kept.execStagingResume {f : Foot} {s x : State} (h : Kept f s x) (hf : Foot.le ⟨false, [], [], [.acq]⟩ f = true) (a0 : Fin 4) :
    ∃ t, execStagingResume a0 x = .next t ∧ Kept f s t := by
  unfold Sys2Proof.Machine.execStagingResume
  refine ⟨_, rfl, ?_⟩
  repeat' first
    | with_reducible assumption
    | with_reducible refine Kept.ite ?_ ?_
    | with_reducible refine Kept.setUnit ?_ (Foot.le_trans (by decide +kernel) hf) _ _

end Sys2Proof.Machine
end

