-- ==== Sys2Proof/Laws/KeptAdmit.lean ====
section
/-! SUPPORT. What the operations of Sys2Proof/Machine/Admit.lean change. -/

set_option Elab.async false

set_option linter.all false

namespace Sys2Proof.Machine

theorem addrsOfBlock_windows (w : Nat) : ∀ a ∈ addrsOfBlock w, a / 0x10000 < 28 := by
  have key : ∀ b < 28, (addrsOfBlock b).all (fun a => decide (a / 0x10000 < 28)) = true := by decide +kernel
  by_cases hb : w < 28
  · exact fun a ha => by simpa using List.all_eq_true.mp (key w hb) a ha
  · have : rowsOfBlock w = [] := by unfold rowsOfBlock; split <;> first | rfl | omega
    intro a ha
    simp [addrsOfBlock, this] at ha

theorem Kept.applyBlock {f : Foot} {s x : State} (h : Kept f s x) (w : Nat)
    (hw : ∀ a ∈ addrsOfBlock w, f.app (a / 0x10000) = true) : Kept f s (x.applyBlock w) := by
  unfold State.applyBlock
  generalize hl : addrsOfBlock w = l at hw
  clear hl
  induction l generalizing x with
  | nil => exact h
  | cons a l ih =>
    refine ih ?_ (fun b hb => hw b (List.mem_cons_of_mem _ hb))
    exact Kept.ite h (Kept.setAppWord _ _ h (hw a (List.mem_cons_self ..)))

end Sys2Proof.Machine
end

