-- ==== Sys2Proof/Laws/KeptInject.lean ====
section
/-! SUPPORT. What the operations of Sys2Proof/Machine/Inject.lean change. -/

set_option Elab.async false

set_option linter.all false

namespace Sys2Proof.Machine

theorem Kept.injRequest {f : Foot} {s x : State} (h : Kept f s x) (hf : Foot.le ⟨false, [0x17], [], [.aux]⟩ f = true) :
    Kept f s (State.injRequest x) := by
  unfold Sys2Proof.Machine.State.injRequest
  repeat' first
    | with_reducible assumption
    | with_reducible refine Kept.ite ?_ ?_
    | with_reducible refine Kept.bump _ ?_ (Foot.word_of_le hf (by first | decide +kernel))
    | with_reducible refine Kept.put _ _ ?_ (Foot.word_of_le hf (by first | decide +kernel))
    | intro y
    | lift_lets
    | with_reducible exact Kept.set_aux _ (by with_reducible assumption) (Foot.part_of_le hf (by decide +kernel : Foot.part _ .aux = true))

theorem Kept.injTrigger {f : Foot} {s x : State} (h : Kept f s x) (hf : Foot.le ⟨false, [0x17], [], [.aux]⟩ f = true) :
    Kept f s (State.injTrigger x) := by
  unfold Sys2Proof.Machine.State.injTrigger
  repeat' first
    | with_reducible assumption
    | with_reducible refine Kept.ite ?_ ?_
    | with_reducible refine Kept.injRequest ?_ (Foot.le_trans (by decide +kernel) hf)

end Sys2Proof.Machine
end

