-- ==== Sys2Proof/Laws/KeptRelay.lean ====
section
/-! SUPPORT. What the operations of Sys2Proof/Machine/Relay.lean change. -/

set_option Elab.async false

set_option linter.all false

namespace Sys2Proof.Machine

theorem Kept.cstSend {f : Foot} {s x : State} (h : Kept f s x) (hf : Foot.le ⟨false, [], [], [.cst]⟩ f = true) (a0 : CstMsg) (a1 : Nat) :
    Kept f s (State.cstSend x a0 a1) := by
  unfold Sys2Proof.Machine.State.cstSend
  repeat' first
    | intro y
    | lift_lets
    | with_reducible exact Kept.set_cst _ (by with_reducible assumption) (Foot.part_of_le hf (by decide +kernel : Foot.part _ .cst = true))

theorem Kept.cstUp {f : Foot} {s x : State} (h : Kept f s x) (hf : Foot.le ⟨false, [], [], [.cst]⟩ f = true) (a0 : CstMsg) :
    Kept f s (State.cstUp x a0) := by
  unfold Sys2Proof.Machine.State.cstUp
  repeat' first
    | with_reducible assumption
    | with_reducible refine Kept.cstSend ?_ (Foot.le_trans (by decide +kernel) hf) _ _
    | split

theorem Kept.cstDown {f : Foot} {s x : State} (h : Kept f s x) (hf : Foot.le ⟨false, [], [], [.cst]⟩ f = true) (a0 : CstMsg) :
    Kept f s (State.cstDown x a0) := by
  unfold Sys2Proof.Machine.State.cstDown
  repeat' first
    | with_reducible assumption
    | with_reducible refine Kept.cstSend ?_ (Foot.le_trans (by decide +kernel) hf) _ _
    | with_reducible refine Kept.foldl _ (fun y b hy => ?_) ?_

theorem Kept.cstApply {f : Foot} {s x : State} (h : Kept f s x) (hf : Foot.le ⟨false, [0x19], [], [.cst]⟩ f = true) (a0 : State) :
    Kept f s (State.cstApply x a0) := by
  unfold Sys2Proof.Machine.State.cstApply
  repeat' first
    | with_reducible assumption
    | with_reducible refine Kept.ite ?_ ?_
    | with_reducible refine Kept.put _ _ ?_ (Foot.word_of_le hf (by first | decide +kernel))
    | with_reducible refine Kept.putB _ _ ?_ (Foot.word_of_le hf (by first | decide +kernel))
    | (intro y; refine (fun hy : Kept f s y => ?_) ?_ <;> [clear_value y; skip])
    | intro y
    | lift_lets
    | with_reducible exact Kept.set_cst _ (by with_reducible assumption) (Foot.part_of_le hf (by decide +kernel : Foot.part _ .cst = true))

theorem Kept.floodOn {f : Foot} {s x : State} (h : Kept f s x) (hf : Foot.le ⟨false, [], [], [.cst]⟩ f = true) (a0 : Nat) (a1 : Nat) (a2 : Stamp) (a3 : Nat) (a4 : Nat) (a5 : Nat) :
    Kept f s (State.floodOn x a0 a1 a2 a3 a4 a5) := by
  unfold Sys2Proof.Machine.State.floodOn
  repeat' first
    | with_reducible assumption
    | with_reducible refine Kept.ite ?_ ?_
    | with_reducible refine Kept.cstSend ?_ (Foot.le_trans (by decide +kernel) hf) _ _
    | with_reducible refine Kept.foldl _ (fun y b hy => ?_) ?_

theorem Kept.floodStart {f : Foot} {s x : State} (h : Kept f s x) (hf : Foot.le ⟨false, [], [], [.cst]⟩ f = true) (a0 : Nat) (a1 : Stamp) (a2 : Nat) (a3 : Nat) :
    Kept f s (State.floodStart x a0 a1 a2 a3) := by
  unfold Sys2Proof.Machine.State.floodStart
  repeat' first
    | with_reducible assumption
    | with_reducible refine Kept.ite ?_ ?_
    | with_reducible refine Kept.cstSend ?_ (Foot.le_trans (by decide +kernel) hf) _ _
    | with_reducible refine Kept.foldl _ (fun y b hy => ?_) ?_

end Sys2Proof.Machine
end

