-- ==== Sys2Proof/Laws/KeptTrigger.lean ====
section
/-! SUPPORT. What the operations of Sys2Proof/Machine/Trigger.lean change. -/

set_option Elab.async false

set_option linter.all false

namespace Sys2Proof.Machine

theorem Kept.trgGap {f : Foot} {s x : State} (h : Kept f s x) (hf : Foot.le ⟨false, [], [], [.trg]⟩ f = true) (a0 : Nat) :
    Kept f s (State.trgGap x a0) := by
  unfold Sys2Proof.Machine.State.trgGap
  repeat' first
    | with_reducible assumption
    | with_reducible refine Kept.foldl _ (fun y b hy => ?_) ?_
    | intro y
    | split
    | lift_lets
    | with_reducible exact Kept.set_trg _ (by with_reducible assumption) (Foot.part_of_le hf (by decide +kernel : Foot.part _ .trg = true))

theorem Kept.trigLevels {f : Foot} {s x : State} (h : Kept f s x) (hf : Foot.le ⟨false, [], [], [.pins]⟩ f = true) :
    Kept f s (State.trigLevels x) := by
  unfold Sys2Proof.Machine.State.trigLevels
  repeat' first
    | intro y
    | lift_lets
    | with_reducible exact Kept.set_pins _ (by with_reducible assumption) (Foot.part_of_le hf (by decide +kernel : Foot.part _ .pins = true))

theorem Kept.trgArmAt {f : Foot} {s x : State} (h : Kept f s x) (hf : Foot.le ⟨false, [0x0A], [], [.pins, .trg]⟩ f = true) (a0 : Stamp) :
    Kept f s (State.trgArmAt x a0) := by
  unfold Sys2Proof.Machine.State.trgArmAt
  repeat' first
    | with_reducible refine Kept.trigLevels ?_ (Foot.le_trans (by decide +kernel) hf)
    | with_reducible refine Kept.put _ _ ?_ (Foot.word_of_le hf (by first | decide +kernel))
    | intro y
    | lift_lets
    | with_reducible exact Kept.set_trg _ (by with_reducible assumption) (Foot.part_of_le hf (by decide +kernel : Foot.part _ .trg = true))

theorem Kept.trgApply {f : Foot} {s x : State} (h : Kept f s x) (hf : Foot.le ⟨false, [0x0A], [], [.pins, .trg]⟩ f = true) (a0 : State) :
    Kept f s (State.trgApply x a0) := by
  unfold Sys2Proof.Machine.State.trgApply
  repeat' first
    | with_reducible refine Kept.ite ?_ ?_
    | with_reducible refine Kept.put _ _ ?_ (Foot.word_of_le hf (by first | decide +kernel))
    | with_reducible refine Kept.trgArmAt ?_ (Foot.le_trans (by decide +kernel) hf) _
    | with_reducible refine Kept.trigLevels ?_ (Foot.le_trans (by decide +kernel) hf)
    | intro y
    | lift_lets
    | with_reducible exact Kept.set_trg _ (by with_reducible assumption) (Foot.part_of_le hf (by decide +kernel : Foot.part _ .trg = true))

theorem Kept.trgSpecGap {f : Foot} {s x : State} (h : Kept f s x) (hf : Foot.le ⟨false, [], [], [.trg]⟩ f = true) (a0 : Nat) :
    Kept f s (State.trgSpecGap x a0) := by
  unfold Sys2Proof.Machine.State.trgSpecGap
  repeat' first
    | with_reducible assumption
    | with_reducible refine Kept.ite ?_ ?_
    | with_reducible refine Kept.foldl _ (fun y b hy => ?_) ?_
    | intro y
    | lift_lets
    | dsimp only
    | with_reducible exact Kept.set_trg _ (by with_reducible assumption) (Foot.part_of_le hf (by decide +kernel : Foot.part _ .trg = true))
    | fail_if_no_progress (with_reducible refine Kept.set_trg _ ?_ (Foot.part_of_le hf (by decide +kernel : Foot.part _ .trg = true)))

theorem Kept.trgRules {f : Foot} {s x : State} (h : Kept f s x) (hf : Foot.le ⟨false, [0x0A], [], [.pins, .trg]⟩ f = true) (b0 : Source) (b1 : Nat) (b2 : Word) :
    Kept.res f s (trgRules.act b0 b1 b2 x) := by
  unfold Sys2Proof.Machine.trgRules
  repeat' first
    | with_reducible assumption
    | with_reducible refine Kept.ite ?_ ?_
    | with_reducible refine Kept.res_ite ?_ ?_
    | with_reducible refine Kept.res_ok ?_
    | with_reducible exact Kept.res_error _ _ _
    | with_reducible refine Kept.trgArmAt ?_ (Foot.le_trans (by decide +kernel) hf) _
    | intro y
    | split
    | lift_lets
    | dsimp only
    | with_reducible exact Kept.set_trg _ (by with_reducible assumption) (Foot.part_of_le hf (by decide +kernel : Foot.part _ .trg = true))
    | fail_if_no_progress (with_reducible refine Kept.set_trg _ ?_ (Foot.part_of_le hf (by decide +kernel : Foot.part _ .trg = true)))

theorem Kept.interpolate {f : Foot} {s x : State} (h : Kept f s x) (hf : Foot.le ⟨false, [], [], [.freeCtr]⟩ f = true) (a0 : Option Stamp) (a1 : Stamp) :
    Kept f s (State.interpolate x a0 a1).2 := by
  unfold Sys2Proof.Machine.State.interpolate
  repeat' first
    | with_reducible assumption
    | with_reducible refine Kept.drawFree ?_ (Foot.le_trans (by decide +kernel) hf)
    | split

theorem Kept.fileEvent {f : Foot} {s x : State} (h : Kept f s x) (hf : Foot.le ⟨false, [0x0A], [], [.trg]⟩ f = true) (a0 : Nat) (a1 : Stamp) (a2 : Option Stamp) (a3 : Nat) :
    Kept f s (State.fileEvent x a0 a1 a2 a3) := by
  unfold Sys2Proof.Machine.State.fileEvent
  repeat' first
    | with_reducible assumption
    | with_reducible refine Kept.ite ?_ ?_
    | with_reducible refine Kept.bump _ ?_ (Foot.word_of_le hf (by first | decide +kernel | (simp only [TRG_SRC_CNT.EVENTS, TRG_SRC_CNT.addr_win, TRG_SRC_CNT.DROP]; first | decide +kernel | (split <;> decide +kernel))))
    | with_reducible refine Kept.put _ _ ?_ (Foot.word_of_le hf (by first | decide +kernel | (simp only [TRG_SRC_CNT.EVENTS, TRG_SRC_CNT.addr_win, TRG_SRC_CNT.DROP]; first | decide +kernel | (split <;> decide +kernel))))
    | (intro y; refine (fun hy : Kept f s y => ?_) ?_ <;> [clear_value y; skip])
    | intro y
    | lift_lets
    | with_reducible exact Kept.set_trg _ (by with_reducible assumption) (Foot.part_of_le hf (by decide +kernel : Foot.part _ .trg = true))

theorem Kept.lvlSample {f : Foot} {s x : State} (h : Kept f s x) (hf : Foot.le ⟨false, [0x0A], [], [.freeCtr, .trg]⟩ f = true) (a0 : Fin 4) (a1 : Nat) (a2 : OutSample) :
    Kept f s (State.lvlSample x a0 a1 a2) := by
  unfold Sys2Proof.Machine.State.lvlSample
  repeat' first
    | with_reducible assumption
    | with_reducible refine Kept.interpolate ?_ (Foot.le_trans (by decide +kernel) hf) _ _
    | with_reducible refine Kept.fileEvent ?_ (Foot.le_trans (by decide +kernel) hf) _ _ _ _
    | (intro y; refine (fun hy : Kept f s y => ?_) ?_ <;> [clear_value y; skip])
    | intro y
    | with_reducible refine Kept.of_snd ?_ (by with_reducible assumption)
    | split
    | lift_lets
    | fail_if_no_progress (with_reducible refine Kept.set_trg _ ?_ (Foot.part_of_le hf (by decide +kernel : Foot.part _ .trg = true)))

theorem Kept.pwrSample {f : Foot} {s x : State} (h : Kept f s x) (hf : Foot.le ⟨false, [0x0A], [], [.trg]⟩ f = true) (a0 : Fin 4) (a1 : Nat) (a2 : OutSample) :
    Kept f s (State.pwrSample x a0 a1 a2) := by
  unfold Sys2Proof.Machine.State.pwrSample
  repeat' first
    | with_reducible assumption
    | with_reducible refine Kept.fileEvent ?_ (Foot.le_trans (by decide +kernel) hf) _ _ _ _
    | (intro y; refine (fun hy : Kept f s y => ?_) ?_ <;> [clear_value y; skip])
    | intro y
    | split
    | lift_lets
    | with_reducible exact Kept.set_trg _ (by with_reducible assumption) (Foot.part_of_le hf (by decide +kernel : Foot.part _ .trg = true))

theorem Kept.trgSample {f : Foot} {s x : State} (h : Kept f s x) (hf : Foot.le ⟨false, [0x0A], [], [.freeCtr, .trg]⟩ f = true) (a0 : Nat) (a1 : OutSample) :
    Kept f s (State.trgSample x a0 a1) := by
  unfold Sys2Proof.Machine.State.trgSample
  repeat' first
    | with_reducible assumption
    | with_reducible refine Kept.ite ?_ ?_
    | with_reducible refine Kept.lvlSample ?_ (Foot.le_trans (by decide +kernel) hf) _ _ _
    | with_reducible refine Kept.pwrSample ?_ (Foot.le_trans (by decide +kernel) hf) _ _ _
    | with_reducible refine Kept.foldl _ (fun y b hy => ?_) ?_

theorem Kept.trgOvr {f : Foot} {s x : State} (h : Kept f s x) (hf : Foot.le ⟨false, [0x0A], [], [.trg]⟩ f = true) (a0 : Fin 4) (a1 : OutSample) :
    Kept f s (State.trgOvr x a0 a1) := by
  unfold Sys2Proof.Machine.State.trgOvr
  repeat' first
    | with_reducible assumption
    | with_reducible refine Kept.ite ?_ ?_
    | with_reducible refine Kept.fileEvent ?_ (Foot.le_trans (by decide +kernel) hf) _ _ _ _
    | intro y
    | split
    | lift_lets
    | with_reducible exact Kept.set_trg _ (by with_reducible assumption) (Foot.part_of_le hf (by decide +kernel : Foot.part _ .trg = true))

theorem Kept.fmtSpectrum {f : Foot} {s x : State} (h : Kept f s x) (hf : Foot.le ⟨false, [0x0A, 0x0B], [], [.gddr, .trg, .acq, .mem]⟩ f = true) (a0 : Fin 4) (a1 : Nat) (a2 : List Int) (a3 : Stamp) :
    Kept f s (State.fmtSpectrum x a0 a1 a2 a3) := by
  unfold Sys2Proof.Machine.State.fmtSpectrum
  repeat' first
    | with_reducible assumption
    | with_reducible refine Kept.ite ?_ ?_
    | with_reducible refine Kept.put _ _ ?_ (Foot.word_of_le hf (by first | decide +kernel | (simp only [TRG_FMT_CTRL.SRC_CH, TRG_FMT_CTRL.addr_win, TRG_FMT_RANGE.FIRST_BIN, TRG_FMT_RANGE.addr_win, TRG_FMT_CTRL.TABLE, TRG_FMT_RANGE.NBM1, TRG_FMT_CTRL.MIN_BINS, TRG_FMT_STAT.BIN, TRG_FMT_STAT.addr_win, TRG_FMT_STAT.EXCESS, TRG_FMT_CTRL.QUAL]; first | decide +kernel | (split <;> decide +kernel))))
    | with_reducible refine Kept.acqVerdict ?_ (Foot.le_trans (by decide +kernel) hf) _ _ _ _
    | with_reducible refine Kept.fileEvent ?_ (Foot.le_trans (by decide +kernel) hf) _ _ _ _
    | intro y
    | lift_lets
    | with_reducible exact Kept.set_trg _ (by with_reducible assumption) (Foot.part_of_le hf (by decide +kernel : Foot.part _ .trg = true))

theorem Kept.pulseStart {f : Foot} {s x : State} (h : Kept f s x) (hf : Foot.le ⟨false, [], [], [.pins, .trg]⟩ f = true) (a0 : Fin 4) (a1 : Stamp) :
    Kept f s (State.pulseStart x a0 a1) := by
  unfold Sys2Proof.Machine.State.pulseStart
  repeat' first
    | with_reducible refine Kept.trigLevels ?_ (Foot.le_trans (by decide +kernel) hf)
    | intro y
    | split
    | lift_lets
    | with_reducible exact Kept.set_trg _ (by with_reducible assumption) (Foot.part_of_le hf (by decide +kernel : Foot.part _ .trg = true))

theorem Kept.schedulePulse {f : Foot} {s x : State} (h : Kept f s x) (hf : Foot.le ⟨false, [0x0A], [], [.pins, .trg]⟩ f = true) (a0 : Fin 4) (a1 : Stamp) (a2 : Stamp) :
    Kept f s (State.schedulePulse x a0 a1 a2) := by
  unfold Sys2Proof.Machine.State.schedulePulse
  repeat' first
    | with_reducible assumption
    | with_reducible refine Kept.ite ?_ ?_
    | with_reducible refine Kept.pulseStart ?_ (Foot.le_trans (by decide +kernel) hf) _ _
    | with_reducible refine Kept.put _ _ ?_ (Foot.word_of_le hf (by first | decide +kernel | (simp only [TRG_OUT_DELAY.DELAY, TRG_OUT_DELAY.addr_win]; first | decide +kernel | (split <;> decide +kernel))))
    | intro y
    | lift_lets
    | with_reducible exact Kept.set_trg _ (by with_reducible assumption) (Foot.part_of_le hf (by decide +kernel : Foot.part _ .trg = true))

theorem Kept.seqWaitA {f : Foot} {s x : State} (h : Kept f s x) (hf : Foot.le ⟨false, [0x0A], [], [.trg]⟩ f = true) (a0 : View') (a1 : Stamp) (a2 : Bool) (a3 : Bool) :
    Kept f s (State.seqWaitA x a0 a1 a2 a3).2 := by
  unfold Sys2Proof.Machine.State.seqWaitA
  repeat' first
    | with_reducible assumption
    | with_reducible refine Kept.put _ _ ?_ (Foot.word_of_le hf (by first | decide +kernel))
    | intro y
    | split
    | lift_lets
    | with_reducible exact Kept.set_trg _ (by with_reducible assumption) (Foot.part_of_le hf (by decide +kernel : Foot.part _ .trg = true))

theorem Kept.seqStep {f : Foot} {s x : State} (h : Kept f s x) (hf : Foot.le ⟨false, [0x0A], [], [.trg]⟩ f = true) (v : View')
    (t : Stamp) (m : Nat) : Kept f s (x.seqStep v t m).2.2 := by
  have hw : f.word 0x0A = true := Foot.word_of_le hf (by decide)
  have h1 : Kept f s ((x.put TRG_STAT.WAIT_B 0).put TRG_STAT.B_SEEN 0) := Kept.put _ _ (Kept.put _ _ h hw) hw
  unfold State.seqStep
  dsimp only
  split
  · split
    · exact Kept.seqWaitA h1 hf _ _ _ _
    · split
      · exact Kept.seqWaitA h1 hf _ _ _ _
      · split
        · exact h1
        · split
          · exact Kept.put _ _ (Kept.set_trg _ (Kept.put _ _ h hw) (Foot.part_of_le hf (by decide))) hw
          · exact Kept.put _ _ h hw
  · exact Kept.seqWaitA h hf _ _ _ _

theorem Kept.trgQualReset {f : Foot} {s x : State} (h : Kept f s x) (hf : Foot.le ⟨false, [], [], [.trg]⟩ f = true) :
    Kept f s (State.trgQualReset x) := by
  unfold Sys2Proof.Machine.State.trgQualReset
  repeat' first
    | intro y
    | lift_lets
    | with_reducible exact Kept.set_trg _ (by with_reducible assumption) (Foot.part_of_le hf (by decide +kernel : Foot.part _ .trg = true))

theorem Kept.slotOpen {f : Foot} {s x : State} (h : Kept f s x) (hf : Foot.le ⟨false, [0x0A], [], [.trg]⟩ f = true) (a0 : Stamp) :
    Kept f s (State.slotOpen x a0) := by
  unfold Sys2Proof.Machine.State.slotOpen
  repeat' first
    | with_reducible assumption
    | with_reducible refine Kept.ite ?_ ?_
    | with_reducible refine Kept.put _ _ ?_ (Foot.word_of_le hf (by first | decide +kernel))
    | with_reducible refine Kept.trgQualReset ?_ (Foot.le_trans (by decide +kernel) hf)
    | (intro y; refine (fun hy : Kept f s y => ?_) ?_ <;> [clear_value y; skip])
    | intro y
    | split
    | lift_lets
    | with_reducible exact Kept.set_trg _ (by with_reducible assumption) (Foot.part_of_le hf (by decide +kernel : Foot.part _ .trg = true))

theorem Kept.trgAccept {f : Foot} {s x : State} (h : Kept f s x) (hf : Foot.le ⟨false, [0x0A, 0x0B, 0x15, 0x17], [], [.gddr, .pins, .trg, .acq, .mem, .aux, .cst]⟩ f = true) (a0 : View') (a1 : List TrgEvent) (a2 : Nat) (a3 : Stamp) (a4 : Stamp) (a5 : Bool) (a6 : Bool) (a7 : Bool) (a8 : Nat) :
    Kept f s (State.trgAccept x a0 a1 a2 a3 a4 a5 a6 a7 a8) := by
  unfold Sys2Proof.Machine.State.trgAccept
  repeat' first
    | with_reducible assumption
    | with_reducible refine Kept.ite ?_ ?_
    | with_reducible refine Kept.bumpWrap _ ?_ (Foot.word_of_le hf (by first | decide +kernel | (simp only [TRG_OUT_CTRL.SEL, TRG_OUT_CTRL.addr_win]; first | decide +kernel | (split <;> decide +kernel))))
    | with_reducible refine Kept.injTrigger ?_ (Foot.le_trans (by decide +kernel) hf)
    | with_reducible refine Kept.riseIrq ?_ (Foot.le_trans (by decide +kernel) hf) _ _ (Foot.word_of_le hf (by first | decide +kernel | (simp only [TRG_OUT_CTRL.SEL, TRG_OUT_CTRL.addr_win]; first | decide +kernel | (split <;> decide +kernel))))
    | with_reducible refine Kept.acqTrigger ?_ (Foot.le_trans (by decide +kernel) hf) _
    | with_reducible refine Kept.put _ _ ?_ (Foot.word_of_le hf (by first | decide +kernel | (simp only [TRG_OUT_CTRL.SEL, TRG_OUT_CTRL.addr_win]; first | decide +kernel | (split <;> decide +kernel))))
    | with_reducible refine Kept.schedulePulse ?_ (Foot.le_trans (by decide +kernel) hf) _ _ _
    | with_reducible refine Kept.floodStart ?_ (Foot.le_trans (by decide +kernel) hf) _ _ _ _
    | with_reducible refine Kept.foldl _ (fun y b hy => ?_) ?_
    | intro y
    | split
    | lift_lets
    | fail_if_no_progress (with_reducible refine Kept.set_trg _ ?_ (Foot.part_of_le hf (by decide +kernel : Foot.part _ .trg = true)))

theorem Kept.trgLogic {f : Foot} {s x : State} (h : Kept f s x) (hf : Foot.le ⟨false, [0x0A, 0x0B, 0x15, 0x17], [], [.gddr, .pins, .trg, .acq, .mem, .aux, .cst]⟩ f = true) (a0 : View') (a1 : List TrgEvent) (a2 : Nat) (a3 : Stamp) (a4 : Stamp) (a5 : Bool) (a6 : Bool) (a7 : Bool) (a8 : Bool) :
    Kept f s (State.trgLogic x a0 a1 a2 a3 a4 a5 a6 a7 a8) := by
  unfold Sys2Proof.Machine.State.trgLogic
  repeat' first
    | with_reducible assumption
    | with_reducible refine Kept.ite ?_ ?_
    | with_reducible refine Kept.trgAccept ?_ (Foot.le_trans (by decide +kernel) hf) _ _ _ _ _ _ _ _ _
    | with_reducible refine Kept.bump _ ?_ (Foot.word_of_le hf (by first | decide +kernel))
    | with_reducible refine Kept.seqStep ?_ (Foot.le_trans (by decide +kernel) hf) _ _ _
    | intro y
    | lift_lets
    | fail_if_no_progress (with_reducible refine Kept.set_trg _ ?_ (Foot.part_of_le hf (by decide +kernel : Foot.part _ .trg = true)))

theorem Kept.execAutoTimer {f : Foot} {s x : State} (h : Kept f s x) (hf : Foot.le ⟨false, [], [], [.trg]⟩ f = true) :
    ∃ t, execAutoTimer x = .next t ∧ Kept f s t := by
  unfold Sys2Proof.Machine.execAutoTimer
  refine ⟨_, rfl, ?_⟩
  repeat' first
    | with_reducible assumption
    | with_reducible refine Kept.ite ?_ ?_
    | intro y
    | lift_lets
    | with_reducible exact Kept.set_trg _ (by with_reducible assumption) (Foot.part_of_le hf (by decide +kernel : Foot.part _ .trg = true))

theorem Kept.execRemoteTriggerRx {f : Foot} {s x : State} (h : Kept f s x) (hf : Foot.le ⟨false, [0x0A], [], [.trg, .cst]⟩ f = true) (a0 : Fin 4) (a1 : BitVec 4) (a2 : Stamp) (a3 : BitVec 14) (a4 : BitVec 26) (a5 : Nat) :
    ∃ t, execRemoteTriggerRx a0 a1 a2 a3 a4 a5 x = .next t ∧ Kept f s t := by
  unfold Sys2Proof.Machine.execRemoteTriggerRx
  refine ⟨_, rfl, ?_⟩
  repeat' first
    | with_reducible assumption
    | with_reducible refine Kept.ite ?_ ?_
    | with_reducible refine Kept.floodOn ?_ (Foot.le_trans (by decide +kernel) hf) _ _ _ _ _ _
    | with_reducible refine Kept.fileEvent ?_ (Foot.le_trans (by decide +kernel) hf) _ _ _ _

theorem Kept.execSeqReset {f : Foot} {s x : State} (h : Kept f s x) (hf : Foot.le ⟨false, [0x00, 0x0A], [], [.resp, .pins, .sys, .trg]⟩ f = true) (a0 : Source) (a1 : Word) :
    ∃ t, execSeqReset a0 a1 x = .next t ∧ Kept f s t := by
  unfold Sys2Proof.Machine.execSeqReset
  refine ⟨_, rfl, ?_⟩
  repeat' first
    | with_reducible assumption
    | with_reducible refine Kept.writeReg ?_ (fun y b0 b1 b2 => Kept.trgRules (Kept.refl _ y) (Foot.le_trans (by decide +kernel) hf) b0 b1 b2) (Foot.word_of_le hf (by first | decide +kernel)) (Foot.word_of_le hf (by first | decide +kernel)) (Foot.word_of_le hf (by decide +kernel)) (Foot.part_of_le hf (by decide +kernel : Foot.part _ .resp = true)) (Foot.part_of_le hf (by decide +kernel : Foot.part _ .sys = true))

theorem Kept.execSlotDecide {f : Foot} {s x : State} (h : Kept f s x) (hf : Foot.le ⟨false, [0x0A, 0x0B, 0x15, 0x17], [], [.gddr, .pins, .trg, .acq, .mem, .aux, .cst]⟩ f = true) (a0 : Stamp) (a1 : Stamp) (a2 : Stamp) (a3 : Bool) :
    ∃ t, execSlotDecide a0 a1 a2 a3 x = .next t ∧ Kept f s t := by
  unfold Sys2Proof.Machine.execSlotDecide
  refine ⟨_, rfl, ?_⟩
  repeat' first
    | with_reducible assumption
    | with_reducible refine Kept.ite ?_ ?_
    | with_reducible refine Kept.slotOpen ?_ (Foot.le_trans (by decide +kernel) hf) _
    | with_reducible refine Kept.putB _ _ ?_ (Foot.word_of_le hf (by first | decide +kernel | (simp only [TRG_OUT_CTRL.SEL, TRG_OUT_CTRL.addr_win, TRG_OUT_CTRL.SRC]; first | decide +kernel | (split <;> decide +kernel))))
    | with_reducible refine Kept.schedulePulse ?_ (Foot.le_trans (by decide +kernel) hf) _ _ _
    | with_reducible refine Kept.trigLevels ?_ (Foot.le_trans (by decide +kernel) hf)
    | with_reducible refine Kept.trgLogic ?_ (Foot.le_trans (by decide +kernel) hf) _ _ _ _ _ _ _ _ _
    | with_reducible refine Kept.foldl _ (fun y b hy => ?_) ?_
    | intro y
    | split
    | lift_lets
    | fail_if_no_progress (with_reducible refine Kept.set_trg _ ?_ (Foot.part_of_le hf (by decide +kernel : Foot.part _ .trg = true)))

theorem Kept.execTrgArm {f : Foot} {s x : State} (h : Kept f s x) (hf : Foot.le ⟨false, [0x00, 0x0A], [], [.resp, .pins, .sys, .trg]⟩ f = true) (a0 : Source) (a1 : Word) :
    ∃ t, execTrgArm a0 a1 x = .next t ∧ Kept f s t := by
  unfold Sys2Proof.Machine.execTrgArm
  refine ⟨_, rfl, ?_⟩
  repeat' first
    | with_reducible assumption
    | with_reducible refine Kept.writeReg ?_ (fun y b0 b1 b2 => Kept.trgRules (Kept.refl _ y) (Foot.le_trans (by decide +kernel) hf) b0 b1 b2) (Foot.word_of_le hf (by first | decide +kernel)) (Foot.word_of_le hf (by first | decide +kernel)) (Foot.word_of_le hf (by decide +kernel)) (Foot.part_of_le hf (by decide +kernel : Foot.part _ .resp = true)) (Foot.part_of_le hf (by decide +kernel : Foot.part _ .sys = true))

theorem Kept.execTrgForce {f : Foot} {s x : State} (h : Kept f s x) (hf : Foot.le ⟨false, [0x00, 0x0A], [], [.resp, .pins, .sys, .trg]⟩ f = true) (a0 : Source) (a1 : Word) :
    ∃ t, execTrgForce a0 a1 x = .next t ∧ Kept f s t := by
  unfold Sys2Proof.Machine.execTrgForce
  refine ⟨_, rfl, ?_⟩
  repeat' first
    | with_reducible assumption
    | with_reducible refine Kept.writeReg ?_ (fun y b0 b1 b2 => Kept.trgRules (Kept.refl _ y) (Foot.le_trans (by decide +kernel) hf) b0 b1 b2) (Foot.word_of_le hf (by first | decide +kernel)) (Foot.word_of_le hf (by first | decide +kernel)) (Foot.word_of_le hf (by decide +kernel)) (Foot.part_of_le hf (by decide +kernel : Foot.part _ .resp = true)) (Foot.part_of_le hf (by decide +kernel : Foot.part _ .sys = true))

theorem Kept.execTrgLogPop {f : Foot} {s x : State} (h : Kept f s x) (hf : Foot.le ⟨false, [0x00, 0x0A], [], [.resp, .pins, .sys, .trg]⟩ f = true) (a0 : Source) (a1 : Word) :
    ∃ t, execTrgLogPop a0 a1 x = .next t ∧ Kept f s t := by
  unfold Sys2Proof.Machine.execTrgLogPop
  refine ⟨_, rfl, ?_⟩
  repeat' first
    | with_reducible assumption
    | with_reducible refine Kept.writeReg ?_ (fun y b0 b1 b2 => Kept.trgRules (Kept.refl _ y) (Foot.le_trans (by decide +kernel) hf) b0 b1 b2) (Foot.word_of_le hf (by first | decide +kernel)) (Foot.word_of_le hf (by first | decide +kernel)) (Foot.word_of_le hf (by decide +kernel)) (Foot.part_of_le hf (by decide +kernel : Foot.part _ .resp = true)) (Foot.part_of_le hf (by decide +kernel : Foot.part _ .sys = true))

theorem Kept.execTrigOutEnd {f : Foot} {s x : State} (h : Kept f s x) (hf : Foot.le ⟨false, [], [], [.pins, .trg]⟩ f = true) (a0 : Fin 4) :
    ∃ t, execTrigOutEnd a0 x = .next t ∧ Kept f s t := by
  unfold Sys2Proof.Machine.execTrigOutEnd
  refine ⟨_, rfl, ?_⟩
  repeat' first
    | with_reducible assumption
    | with_reducible refine Kept.ite ?_ ?_
    | with_reducible refine Kept.trigLevels ?_ (Foot.le_trans (by decide +kernel) hf)
    | intro y
    | lift_lets
    | with_reducible exact Kept.set_trg _ (by with_reducible assumption) (Foot.part_of_le hf (by decide +kernel : Foot.part _ .trg = true))

theorem Kept.execTrigOutPulse {f : Foot} {s x : State} (h : Kept f s x) (hf : Foot.le ⟨false, [], [], [.pins, .trg]⟩ f = true) (a0 : Fin 4) (a1 : Stamp) :
    ∃ t, execTrigOutPulse a0 a1 x = .next t ∧ Kept f s t := by
  unfold Sys2Proof.Machine.execTrigOutPulse
  refine ⟨_, rfl, ?_⟩
  repeat' first
    | with_reducible assumption
    | with_reducible refine Kept.ite ?_ ?_
    | with_reducible refine Kept.pulseStart ?_ (Foot.le_trans (by decide +kernel) hf) _ _
    | intro y
    | lift_lets
    | with_reducible exact Kept.set_trg _ (by with_reducible assumption) (Foot.part_of_le hf (by decide +kernel : Foot.part _ .trg = true))

end Sys2Proof.Machine
end

