-- ==== Sys2Proof/Laws/KeptNeb.lean ====
section
/-! SUPPORT. What the operations of Sys2Proof/Machine/Neb.lean change. -/

set_option Elab.async false

set_option linter.all false

namespace Sys2Proof.Machine

theorem Kept.nebHit {f : Foot} {s x : State} (h : Kept f s x) (hf : Foot.le ⟨false, [0x0C], [], [.sram, .neb]⟩ f = true) (a0 : Nat) (a1 : Nat × Nat) :
    Kept f s (State.nebHit x a0 a1) := by
  unfold Sys2Proof.Machine.State.nebHit
  repeat' first
    | with_reducible assumption
    | with_reducible refine Kept.ite ?_ ?_
    | with_reducible refine Kept.setSramLE _ ?_ (Foot.part_of_le hf (by decide +kernel : Foot.part _ .sram = true)) _ _
    | with_reducible refine Kept.put _ _ ?_ (Foot.word_of_le hf (by first | decide +kernel))
    | (intro y; refine (fun hy : Kept f s y => ?_) ?_ <;> [clear_value y; skip])
    | intro y
    | lift_lets
    | with_reducible exact Kept.set_neb _ (by with_reducible assumption) (Foot.part_of_le hf (by decide +kernel : Foot.part _ .neb = true))

theorem Kept.copyPass {f : Foot} {s x : State} (h : Kept f s x) (hf : Foot.le ⟨false, [], [], [.sram]⟩ f = true) (a0 : View') (a1 : Bool) :
    Kept f s (State.copyPass x a0 a1) := by
  unfold Sys2Proof.Machine.State.copyPass
  repeat' first
    | with_reducible assumption
    | with_reducible refine Kept.setSramLE _ ?_ (Foot.part_of_le hf (by decide +kernel : Foot.part _ .sram = true)) _ _
    | with_reducible refine Kept.foldl _ (fun y b hy => ?_) ?_

theorem Kept.nebSwap {f : Foot} {s x : State} (h : Kept f s x) (hf : Foot.le ⟨false, [0x0C], [], [.sram, .neb]⟩ f = true) (a0 : Bool) :
    Kept f s (State.nebSwap x a0) := by
  unfold Sys2Proof.Machine.State.nebSwap
  repeat' first
    | with_reducible assumption
    | with_reducible refine Kept.ite ?_ ?_
    | with_reducible refine Kept.copyPass ?_ (Foot.le_trans (by decide +kernel) hf) _ _
    | with_reducible refine Kept.put _ _ ?_ (Foot.word_of_le hf (by first | decide +kernel))
    | intro y
    | lift_lets
    | dsimp only
    | fail_if_no_progress (with_reducible refine Kept.set_neb _ ?_ (Foot.part_of_le hf (by decide +kernel : Foot.part _ .neb = true)))

theorem Kept.nebRequest {f : Foot} {s x : State} (h : Kept f s x) (hf : Foot.le ⟨false, [0x0C], [], [.sram, .neb]⟩ f = true) (a0 : Bool) :
    Kept f s (State.nebRequest x a0) := by
  unfold Sys2Proof.Machine.State.nebRequest
  repeat' first
    | with_reducible assumption
    | with_reducible refine Kept.ite ?_ ?_
    | with_reducible refine Kept.bump _ ?_ (Foot.word_of_le hf (by first | decide +kernel))
    | with_reducible refine Kept.nebSwap ?_ (Foot.le_trans (by decide +kernel) hf) _
    | with_reducible refine Kept.put _ _ ?_ (Foot.word_of_le hf (by first | decide +kernel))
    | intro y
    | lift_lets
    | with_reducible exact Kept.set_neb _ (by with_reducible assumption) (Foot.part_of_le hf (by decide +kernel : Foot.part _ .neb = true))

theorem Kept.nebAccumulate {f : Foot} {s x : State} (h : Kept f s x) (hf : Foot.le ⟨false, [0x0C], [], [.sram, .neb]⟩ f = true) (a0 : View') (a1 : List Int) (a2 : Bool) (a3 : Bool) (a4 : Bool) :
    Kept f s (State.nebAccumulate x a0 a1 a2 a3 a4) := by
  unfold Sys2Proof.Machine.State.nebAccumulate
  repeat' first
    | with_reducible assumption
    | with_reducible refine Kept.ite ?_ ?_
    | with_reducible refine Kept.nebHit ?_ (Foot.le_trans (by decide +kernel) hf) _ _
    | with_reducible refine Kept.nebRequest ?_ (Foot.le_trans (by decide +kernel) hf) _
    | with_reducible refine Kept.foldl _ (fun y b hy => ?_) ?_
    | intro y
    | lift_lets
    | fail_if_no_progress (with_reducible refine Kept.set_neb _ ?_ (Foot.part_of_le hf (by decide +kernel : Foot.part _ .neb = true)))

theorem Kept.nebGroupEnd {f : Foot} {s x : State} (h : Kept f s x) (hf : Foot.le ⟨false, [0x0C], [], [.sram, .neb]⟩ f = true) (a0 : View') :
    Kept f s (State.nebGroupEnd x a0) := by
  unfold Sys2Proof.Machine.State.nebGroupEnd
  repeat' first
    | with_reducible assumption
    | with_reducible refine Kept.nebAccumulate ?_ (Foot.le_trans (by decide +kernel) hf) _ _ _ _ _
    | intro y
    | split
    | lift_lets
    | with_reducible exact Kept.set_neb _ (by with_reducible assumption) (Foot.part_of_le hf (by decide +kernel : Foot.part _ .neb = true))

theorem Kept.nebGap {f : Foot} {s x : State} (h : Kept f s x) (hf : Foot.le ⟨false, [0x0C], [], [.sram, .neb]⟩ f = true) (a0 : Nat) :
    Kept f s (State.nebGap x a0) := by
  unfold Sys2Proof.Machine.State.nebGap
  repeat' first
    | with_reducible assumption
    | with_reducible refine Kept.ite ?_ ?_
    | with_reducible refine Kept.nebGroupEnd ?_ (Foot.le_trans (by decide +kernel) hf) _
    | (intro y; refine (fun hy : Kept f s y => ?_) ?_ <;> [clear_value y; skip])
    | intro y
    | lift_lets
    | with_reducible exact Kept.set_neb _ (by with_reducible assumption) (Foot.part_of_le hf (by decide +kernel : Foot.part _ .neb = true))

theorem Kept.clearRaster {f : Foot} {s x : State} (h : Kept f s x) (hf : Foot.le ⟨false, [], [], [.sram]⟩ f = true) (a0 : View') :
    Kept f s (State.clearRaster x a0) := by
  unfold Sys2Proof.Machine.State.clearRaster
  repeat' first
    | with_reducible assumption
    | with_reducible refine Kept.setSramLE _ ?_ (Foot.part_of_le hf (by decide +kernel : Foot.part _ .sram = true)) _ _
    | with_reducible refine Kept.foldl _ (fun y b hy => ?_) ?_

theorem Kept.nebApply {f : Foot} {s x : State} (h : Kept f s x) (hf : Foot.le ⟨false, [0x0C], [], [.sram, .neb]⟩ f = true) (a0 : State) :
    Kept f s (State.nebApply x a0) := by
  unfold Sys2Proof.Machine.State.nebApply
  repeat' first
    | with_reducible assumption
    | with_reducible refine Kept.ite ?_ ?_
    | with_reducible refine Kept.put _ _ ?_ (Foot.word_of_le hf (by first | decide +kernel | (simp only [FFT_SRC_CFG.LEN, FFT_SRC_CFG.addr_win]; first | decide +kernel | (split <;> decide +kernel))))
    | with_reducible refine Kept.clearRaster ?_ (Foot.le_trans (by decide +kernel) hf) _
    | (intro y; refine (fun hy : Kept f s y => ?_) ?_ <;> [clear_value y; skip])
    | intro y
    | split
    | lift_lets
    | with_reducible exact Kept.set_neb _ (by with_reducible assumption) (Foot.part_of_le hf (by decide +kernel : Foot.part _ .neb = true))
    | fail_if_no_progress (with_reducible refine Kept.set_neb _ ?_ (Foot.part_of_le hf (by decide +kernel : Foot.part _ .neb = true)))

theorem Kept.nebRules {f : Foot} {s x : State} (h : Kept f s x) (hf : Foot.le ⟨false, [0x0C], [], [.sram, .neb]⟩ f = true) (b0 : Source) (b1 : Nat) (b2 : Word) :
    Kept.res f s (nebRules.act b0 b1 b2 x) := by
  unfold Sys2Proof.Machine.nebRules
  repeat' first
    | with_reducible assumption
    | with_reducible refine Kept.ite ?_ ?_
    | with_reducible refine Kept.res_ite ?_ ?_
    | with_reducible refine Kept.res_ok ?_
    | with_reducible exact Kept.res_error _ _ _
    | with_reducible refine Kept.put _ _ ?_ (Foot.word_of_le hf (by first | decide +kernel))
    | with_reducible refine Kept.nebRequest ?_ (Foot.le_trans (by decide +kernel) hf) _

theorem Kept.denSpectrum {f : Foot} {s x : State} (h : Kept f s x) (hf : Foot.le ⟨false, [0x0A], [], [.trg]⟩ f = true) (a0 : Fin 2) (a1 : List (Nat × Nat)) (a2 : Stamp) :
    Kept f s (State.denSpectrum x a0 a1 a2) := by
  unfold Sys2Proof.Machine.State.denSpectrum
  repeat' first
    | with_reducible assumption
    | with_reducible refine Kept.ite ?_ ?_
    | with_reducible refine Kept.fileEvent ?_ (Foot.le_trans (by decide +kernel) hf) _ _ _ _
    | intro y
    | lift_lets
    | with_reducible exact Kept.set_trg _ (by with_reducible assumption) (Foot.part_of_le hf (by decide +kernel : Foot.part _ .trg = true))

theorem Kept.nebPeak {f : Foot} {s x : State} (h : Kept f s x) (hf : Foot.le ⟨false, [0x0C], [], [.sram, .neb]⟩ f = true) (a0 : View') (a1 : Nat) (a2 : Bool) (a3 : List Int) (a4 : Bool) (a5 : Bool) (a6 : Bool) :
    Kept f s (State.nebPeak x a0 a1 a2 a3 a4 a5 a6) := by
  unfold Sys2Proof.Machine.State.nebPeak
  repeat' first
    | with_reducible assumption
    | with_reducible refine Kept.ite ?_ ?_
    | with_reducible refine Kept.nebGroupEnd ?_ (Foot.le_trans (by decide +kernel) hf) _
    | intro y
    | split
    | lift_lets
    | with_reducible exact Kept.set_neb _ (by with_reducible assumption) (Foot.part_of_le hf (by decide +kernel : Foot.part _ .neb = true))
    | fail_if_no_progress (with_reducible refine Kept.set_neb _ ?_ (Foot.part_of_le hf (by decide +kernel : Foot.part _ .neb = true)))

theorem Kept.nebSpectrum {f : Foot} {s x : State} (h : Kept f s x) (hf : Foot.le ⟨false, [0x0A, 0x0C], [], [.sram, .trg, .neb]⟩ f = true) (a0 : Nat) (a1 : Nat) (a2 : Stamp) (a3 : Stamp) (a4 : Bool) (a5 : List Int) (a6 : Bool) (a7 : Bool) (a8 : Bool) :
    Kept f s (State.nebSpectrum x a0 a1 a2 a3 a4 a5 a6 a7 a8) := by
  unfold Sys2Proof.Machine.State.nebSpectrum
  repeat' first
    | with_reducible assumption
    | with_reducible refine Kept.ite ?_ ?_
    | with_reducible refine Kept.denSpectrum ?_ (Foot.le_trans (by decide +kernel) hf) _ _ _
    | with_reducible refine Kept.nebRequest ?_ (Foot.le_trans (by decide +kernel) hf) _
    | with_reducible refine Kept.bump _ ?_ (Foot.word_of_le hf (by first | decide +kernel))
    | with_reducible refine Kept.nebPeak ?_ (Foot.le_trans (by decide +kernel) hf) _ _ _ _ _ _ _
    | with_reducible refine Kept.nebAccumulate ?_ (Foot.le_trans (by decide +kernel) hf) _ _ _ _ _
    | with_reducible refine Kept.foldl _ (fun y b hy => ?_) ?_
    | intro y
    | split
    | lift_lets
    | with_reducible exact Kept.set_neb _ (by with_reducible assumption) (Foot.part_of_le hf (by decide +kernel : Foot.part _ .neb = true))
    | fail_if_no_progress (with_reducible refine Kept.set_neb _ ?_ (Foot.part_of_le hf (by decide +kernel : Foot.part _ .neb = true)))

theorem Kept.execHoldExpired {f : Foot} {s x : State} (h : Kept f s x) (hf : Foot.le ⟨false, [0x0C], [], []⟩ f = true) :
    ∃ t, execHoldExpired x = .next t ∧ Kept f s t := by
  unfold Sys2Proof.Machine.execHoldExpired
  refine ⟨_, rfl, ?_⟩
  repeat' first
    | with_reducible assumption
    | with_reducible refine Kept.ite ?_ ?_
    | with_reducible refine Kept.put _ _ ?_ (Foot.word_of_le hf (by first | decide +kernel))

theorem Kept.execNebClear {f : Foot} {s x : State} (h : Kept f s x) (hf : Foot.le ⟨false, [0x00, 0x0C], [], [.sram, .resp, .sys, .neb]⟩ f = true) (a0 : Source) (a1 : Word) :
    ∃ t, execNebClear a0 a1 x = .next t ∧ Kept f s t := by
  unfold Sys2Proof.Machine.execNebClear
  refine ⟨_, rfl, ?_⟩
  repeat' first
    | with_reducible assumption
    | with_reducible refine Kept.writeReg ?_ (fun y b0 b1 b2 => Kept.nebRules (Kept.refl _ y) (Foot.le_trans (by decide +kernel) hf) b0 b1 b2) (Foot.word_of_le hf (by first | decide +kernel)) (Foot.word_of_le hf (by first | decide +kernel)) (Foot.word_of_le hf (by decide +kernel)) (Foot.part_of_le hf (by decide +kernel : Foot.part _ .resp = true)) (Foot.part_of_le hf (by decide +kernel : Foot.part _ .sys = true))

theorem Kept.execNebHold {f : Foot} {s x : State} (h : Kept f s x) (hf : Foot.le ⟨false, [0x00, 0x0C], [], [.sram, .resp, .sys, .neb]⟩ f = true) (a0 : Source) (a1 : Word) :
    ∃ t, execNebHold a0 a1 x = .next t ∧ Kept f s t := by
  unfold Sys2Proof.Machine.execNebHold
  refine ⟨_, rfl, ?_⟩
  repeat' first
    | with_reducible assumption
    | with_reducible refine Kept.writeReg ?_ (fun y b0 b1 b2 => Kept.nebRules (Kept.refl _ y) (Foot.le_trans (by decide +kernel) hf) b0 b1 b2) (Foot.word_of_le hf (by first | decide +kernel)) (Foot.word_of_le hf (by first | decide +kernel)) (Foot.word_of_le hf (by decide +kernel)) (Foot.part_of_le hf (by decide +kernel : Foot.part _ .resp = true)) (Foot.part_of_le hf (by decide +kernel : Foot.part _ .sys = true))

theorem Kept.execNebRelease {f : Foot} {s x : State} (h : Kept f s x) (hf : Foot.le ⟨false, [0x00, 0x0C], [], [.sram, .resp, .sys, .neb]⟩ f = true) (a0 : Source) (a1 : Word) :
    ∃ t, execNebRelease a0 a1 x = .next t ∧ Kept f s t := by
  unfold Sys2Proof.Machine.execNebRelease
  refine ⟨_, rfl, ?_⟩
  repeat' first
    | with_reducible assumption
    | with_reducible refine Kept.writeReg ?_ (fun y b0 b1 b2 => Kept.nebRules (Kept.refl _ y) (Foot.le_trans (by decide +kernel) hf) b0 b1 b2) (Foot.word_of_le hf (by first | decide +kernel)) (Foot.word_of_le hf (by first | decide +kernel)) (Foot.word_of_le hf (by decide +kernel)) (Foot.part_of_le hf (by decide +kernel : Foot.part _ .resp = true)) (Foot.part_of_le hf (by decide +kernel : Foot.part _ .sys = true))

theorem Kept.execNebSwap {f : Foot} {s x : State} (h : Kept f s x) (hf : Foot.le ⟨false, [0x00, 0x0C], [], [.sram, .resp, .sys, .neb]⟩ f = true) (a0 : Source) (a1 : Word) :
    ∃ t, execNebSwap a0 a1 x = .next t ∧ Kept f s t := by
  unfold Sys2Proof.Machine.execNebSwap
  refine ⟨_, rfl, ?_⟩
  repeat' first
    | with_reducible assumption
    | with_reducible refine Kept.writeReg ?_ (fun y b0 b1 b2 => Kept.nebRules (Kept.refl _ y) (Foot.le_trans (by decide +kernel) hf) b0 b1 b2) (Foot.word_of_le hf (by first | decide +kernel)) (Foot.word_of_le hf (by first | decide +kernel)) (Foot.word_of_le hf (by decide +kernel)) (Foot.part_of_le hf (by decide +kernel : Foot.part _ .resp = true)) (Foot.part_of_le hf (by decide +kernel : Foot.part _ .sys = true))

theorem Kept.execNebTimer {f : Foot} {s x : State} (h : Kept f s x) (hf : Foot.le ⟨false, [0x0C], [], [.sram, .neb]⟩ f = true) :
    ∃ t, execNebTimer x = .next t ∧ Kept f s t := by
  unfold Sys2Proof.Machine.execNebTimer
  refine ⟨_, rfl, ?_⟩
  repeat' first
    | with_reducible assumption
    | with_reducible refine Kept.ite ?_ ?_
    | with_reducible refine Kept.nebRequest ?_ (Foot.le_trans (by decide +kernel) hf) _

theorem Kept.execPublicationComplete {f : Foot} {s x : State} (h : Kept f s x) (hf : Foot.le ⟨false, [0x0C, 0x15], [], [.neb]⟩ f = true) :
    ∃ t, execPublicationComplete x = .next t ∧ Kept f s t := by
  unfold Sys2Proof.Machine.execPublicationComplete
  refine ⟨_, rfl, ?_⟩
  repeat' first
    | with_reducible assumption
    | with_reducible refine Kept.ite ?_ ?_
    | with_reducible refine Kept.bumpWrap _ ?_ (Foot.word_of_le hf (by first | decide +kernel))
    | with_reducible refine Kept.put _ _ ?_ (Foot.word_of_le hf (by first | decide +kernel))
    | with_reducible refine Kept.putB _ _ ?_ (Foot.word_of_le hf (by first | decide +kernel))
    | with_reducible refine Kept.setWord _ _ ?_ (Foot.word_of_le hf (by first | decide +kernel))
    | with_reducible refine Kept.putStamp _ _ ?_ (Foot.word_of_le hf (by first | decide +kernel)) (Foot.word_of_le hf (by first | decide +kernel)) (Foot.word_of_le hf (by first | decide +kernel))
    | with_reducible refine Kept.raiseIrq ?_ (Foot.le_trans (by decide +kernel) hf) _
    | intro y
    | split
    | lift_lets
    | with_reducible exact Kept.set_neb _ (by with_reducible assumption) (Foot.part_of_le hf (by decide +kernel : Foot.part _ .neb = true))

theorem Kept.execSwapEdge {f : Foot} {s x : State} (h : Kept f s x) (hf : Foot.le ⟨false, [0x0C], [], [.sram, .neb]⟩ f = true) :
    ∃ t, execSwapEdge x = .next t ∧ Kept f s t := by
  unfold Sys2Proof.Machine.execSwapEdge
  refine ⟨_, rfl, ?_⟩
  repeat' first
    | with_reducible assumption
    | with_reducible refine Kept.ite ?_ ?_
    | with_reducible refine Kept.nebSwap ?_ (Foot.le_trans (by decide +kernel) hf) _

end Sys2Proof.Machine
end

