-- ==== Sys2Proof/Laws/KeptTaps.lean ====
section
/-! SUPPORT. What the operations of Sys2Proof/Machine/Taps.lean change. -/

set_option Elab.async false

set_option linter.all false

namespace Sys2Proof.Machine

theorem Kept.sramLoc {f : Foot} {s x : State} (h : Kept f s x) (hf : Foot.le ⟨false, [], [], [.freeCtr]⟩ f = true) (a0 : Nat) :
    Kept f s (State.sramLoc x a0).2 := by
  unfold Sys2Proof.Machine.State.sramLoc
  repeat' first
    | with_reducible assumption
    | with_reducible refine Kept.drawFree ?_ (Foot.le_trans (by decide +kernel) hf)

theorem Kept.modTap {f : Foot} {s x : State} (h : Kept f s x) (hf : Foot.le ⟨false, [], [], [.lod]⟩ f = true) (a0 : Fin 8) (a1 : Fin 2) (a2 : LodTap → LodTap) :
    Kept f s (State.modTap x a0 a1 a2) := by
  unfold Sys2Proof.Machine.State.modTap
  repeat' first
    | intro y
    | lift_lets
    | with_reducible exact Kept.set_lod _ (by with_reducible assumption) (Foot.part_of_le hf (by decide +kernel : Foot.part _ .lod = true))

theorem Kept.modTapsOf {f : Foot} {s x : State} (h : Kept f s x) (hf : Foot.le ⟨false, [], [], [.lod]⟩ f = true) (a0 : Nat) (a1 : LodTap → LodTap) :
    Kept f s (State.modTapsOf x a0 a1) := by
  unfold Sys2Proof.Machine.State.modTapsOf
  repeat' first
    | with_reducible assumption
    | with_reducible refine Kept.ite ?_ ?_
    | with_reducible refine Kept.modTap ?_ (Foot.le_trans (by decide +kernel) hf) _ _ _
    | with_reducible refine Kept.foldl _ (fun y b hy => ?_) ?_

theorem Kept.tapGap {f : Foot} {s x : State} (h : Kept f s x) (hf : Foot.le ⟨false, [], [], [.lod]⟩ f = true) (a0 : Nat) :
    Kept f s (State.tapGap x a0) := by
  unfold Sys2Proof.Machine.State.tapGap
  repeat' first
    | with_reducible assumption
    | with_reducible refine Kept.modTapsOf ?_ (Foot.le_trans (by decide +kernel) hf) _ _

theorem Kept.unpoison {f : Foot} {s x : State} (h : Kept f s x) (hf : Foot.le ⟨false, [0x00, 0x15, 0x1B], [], [.flt]⟩ f = true) (a0 : Nat) (a1 : Nat) :
    Kept f s (State.unpoison x a0 a1) := by
  unfold Sys2Proof.Machine.State.unpoison
  repeat' first
    | with_reducible assumption
    | with_reducible refine Kept.ite ?_ ?_
    | with_reducible refine Kept.put _ _ ?_ (Foot.word_of_le hf (by first | decide +kernel))
    | with_reducible refine Kept.clearActive ?_ (Foot.le_trans (by decide +kernel) hf) _
    | intro y
    | lift_lets
    | dsimp only
    | with_reducible exact Kept.set_flt _ (by with_reducible assumption) (Foot.part_of_le hf (by decide +kernel : Foot.part _ .flt = true)) (by first | exact fun q => q | (intro q; simp only [List.length_drop, List.length_tail, List.length_map, List.length_nil] at *; omega) | (intro q; simp at *; omega))

theorem Kept.tapCross {f : Foot} {s x : State} (h : Kept f s x) (hf : Foot.le ⟨false, [], [], [.lod]⟩ f = true) (a0 : Nat) (a1 : Nat) (a2 : OutSample) :
    Kept f s (State.tapCross x a0 a1 a2) := by
  unfold Sys2Proof.Machine.State.tapCross
  repeat' first
    | with_reducible assumption
    | with_reducible refine Kept.modTapsOf ?_ (Foot.le_trans (by decide +kernel) hf) _ _

end Sys2Proof.Machine
end

