-- ==== Sys2Proof/Laws/KeptDisplay.lean ====
section
/-! SUPPORT. What the operations of Sys2Proof/Machine/Display.lean change. -/

set_option Elab.async false

set_option linter.all false

namespace Sys2Proof.Machine

theorem Kept.auxData {f : Foot} {s x : State} (h : Kept f s x) (hf : Foot.le ⟨false, [0x0E], [], []⟩ f = true) (a0 : List Byte) :
    Kept f s (State.auxData x a0) := by
  unfold Sys2Proof.Machine.State.auxData
  repeat' first
    | with_reducible assumption
    | with_reducible refine Kept.put _ _ ?_ (Foot.word_of_le hf (by first | decide +kernel | (simp only [DPY_AUX_DATA.addr_win]; first | decide +kernel | (split <;> decide +kernel))))
    | with_reducible refine Kept.foldl _ (fun y b hy => ?_) ?_

theorem Kept.dpyRules {f : Foot} {s x : State} (h : Kept f s x) (hf : Foot.le ⟨false, [0x0E], [], [.dpy]⟩ f = true) (b0 : Source) (b1 : Nat) (b2 : Word) :
    Kept.res f s (dpyRules.act b0 b1 b2 x) := by
  unfold Sys2Proof.Machine.dpyRules
  repeat' first
    | with_reducible assumption
    | with_reducible refine Kept.res_ite ?_ ?_
    | with_reducible refine Kept.res_ok ?_
    | with_reducible exact Kept.res_error _ _ _
    | with_reducible refine Kept.put _ _ ?_ (Foot.word_of_le hf (by first | decide +kernel))
    | intro y
    | lift_lets
    | with_reducible exact Kept.set_dpy _ (by with_reducible assumption) (Foot.part_of_le hf (by decide +kernel : Foot.part _ .dpy = true))

theorem Kept.retunePllP {f : Foot} {s x : State} (h : Kept f s x) (hf : Foot.le ⟨false, [0x02], [0x02], [.alm]⟩ f = true) :
    Kept f s (State.retunePllP x) := by
  unfold Sys2Proof.Machine.State.retunePllP
  repeat' first
    | with_reducible assumption
    | with_reducible refine Kept.setWord _ _ ?_ (Foot.word_of_le hf (by first | decide +kernel | (simp only [CLK_PLL_STAT.LOCKED, CLK_PLL_STAT.addr_win, CLK_PLL_STAT.SYNCED]; first | decide +kernel | (split <;> decide +kernel))))
    | with_reducible refine Kept.setAppWord _ _ ?_ (Foot.app_of_le hf (by first | decide +kernel | (simp only [CLK_PLL_STAT.LOCKED, CLK_PLL_STAT.addr_win, CLK_PLL_STAT.SYNCED]; first | decide +kernel | (split <;> decide +kernel))))
    | with_reducible refine Kept.put _ _ ?_ (Foot.word_of_le hf (by first | decide +kernel | (simp only [CLK_PLL_STAT.LOCKED, CLK_PLL_STAT.addr_win, CLK_PLL_STAT.SYNCED]; first | decide +kernel | (split <;> decide +kernel))))
    | (intro y; refine (fun hy : Kept f s y => ?_) ?_ <;> [clear_value y; skip])
    | intro y
    | lift_lets
    | with_reducible exact Kept.set_alm _ (by with_reducible assumption) (Foot.part_of_le hf (by decide +kernel : Foot.part _ .alm = true))

theorem Kept.nameFrame {f : Foot} {s x : State} (h : Kept f s x) (hf : Foot.le ⟨false, [0x0E, 0x15], [], [.dpy]⟩ f = true) :
    Kept f s (State.nameFrame x) := by
  unfold Sys2Proof.Machine.State.nameFrame
  repeat' first
    | with_reducible refine Kept.raiseIrq ?_ (Foot.le_trans (by decide +kernel) hf) _
    | with_reducible refine Kept.put _ _ ?_ (Foot.word_of_le hf (by first | decide +kernel))
    | intro y
    | lift_lets
    | with_reducible exact Kept.set_dpy _ (by with_reducible assumption) (Foot.part_of_le hf (by decide +kernel : Foot.part _ .dpy = true))

theorem Kept.setMstate {f : Foot} {s x : State} (h : Kept f s x) (hf : Foot.le ⟨false, [0x0C, 0x0E], [], []⟩ f = true) (a0 : Nat) :
    Kept f s (State.setMstate x a0) := by
  unfold Sys2Proof.Machine.State.setMstate
  repeat' first
    | with_reducible assumption
    | with_reducible refine Kept.putB _ _ ?_ (Foot.word_of_le hf (by first | decide +kernel))
    | with_reducible refine Kept.put _ _ ?_ (Foot.word_of_le hf (by first | decide +kernel))

theorem Kept.stopVideo {f : Foot} {s x : State} (h : Kept f s x) (hf : Foot.le ⟨false, [0x0C, 0x0E], [], [.neb, .dpy]⟩ f = true) (a0 : Nat) :
    Kept f s (State.stopVideo x a0) := by
  unfold Sys2Proof.Machine.State.stopVideo
  repeat' first
    | with_reducible refine Kept.setMstate ?_ (Foot.le_trans (by decide +kernel) hf) _
    | intro y
    | lift_lets
    | with_reducible exact Kept.set_neb_dpy _ _ (by with_reducible assumption) (Foot.part_of_le hf (by decide +kernel : Foot.part _ .neb = true)) (Foot.part_of_le hf (by decide +kernel : Foot.part _ .dpy = true))

theorem Kept.toTraining {f : Foot} {s x : State} (h : Kept f s x) (hf : Foot.le ⟨false, [0x0C, 0x0E], [], [.neb, .dpy]⟩ f = true) :
    Kept f s (State.toTraining x) := by
  unfold Sys2Proof.Machine.State.toTraining
  repeat' first
    | with_reducible assumption
    | with_reducible refine Kept.put _ _ ?_ (Foot.word_of_le hf (by first | decide +kernel))
    | with_reducible refine Kept.stopVideo ?_ (Foot.le_trans (by decide +kernel) hf) _

theorem Kept.commitApply {f : Foot} {s x : State} (h : Kept f s x) (hf : Foot.le ⟨false, [0x02, 0x0C, 0x0E, 0x15], [0x02, 0x0E], [.sys, .alm, .neb, .dpy]⟩ f = true) :
    Kept f s (State.commitApply x) := by
  unfold Sys2Proof.Machine.State.commitApply
  repeat' first
    | with_reducible assumption
    | with_reducible refine Kept.ite ?_ ?_
    | with_reducible refine Kept.put _ _ ?_ (Foot.word_of_le hf (by first | decide +kernel | (simp only [CLK_PLL_STAT.LOCKED, CLK_PLL_STAT.addr_win]; first | decide +kernel | (split <;> decide +kernel))))
    | with_reducible refine Kept.applyBlock ?_ _ (fun k hk => Foot.app_of_le hf (by first | (revert k; decide +kernel) | decide +kernel))
    | with_reducible refine Kept.retunePllP ?_ (Foot.le_trans (by decide +kernel) hf)
    | with_reducible refine Kept.nameFrame ?_ (Foot.le_trans (by decide +kernel) hf)
    | with_reducible refine Kept.stopVideo ?_ (Foot.le_trans (by decide +kernel) hf) _
    | with_reducible refine Kept.toTraining ?_ (Foot.le_trans (by decide +kernel) hf)
    | intro y
    | split
    | lift_lets
    | dsimp only
    | fail_if_no_progress (with_reducible refine Kept.set_dpy _ ?_ (Foot.part_of_le hf (by decide +kernel : Foot.part _ .dpy = true)))
    | fail_if_no_progress (with_reducible refine Kept.set_sys_dpy _ _ ?_ (Foot.part_of_le hf (by decide +kernel : Foot.part _ .sys = true)) (Foot.part_of_le hf (by decide +kernel : Foot.part _ .dpy = true)) (fun q => q))

theorem Kept.composeLine {f : Foot} {s x : State} (h : Kept f s x) (hf : Foot.le ⟨false, [0x00, 0x15, 0x1B], [], [.sram, .flt]⟩ f = true) (a0 : Nat) :
    Kept f s (State.composeLine x a0) := by
  unfold Sys2Proof.Machine.State.composeLine
  repeat' first
    | with_reducible assumption
    | with_reducible refine Kept.unpoison ?_ (Foot.le_trans (by decide +kernel) hf) _ _
    | with_reducible refine Kept.setSramLE _ ?_ (Foot.part_of_le hf (by decide +kernel : Foot.part _ .sram = true)) _ _
    | with_reducible refine Kept.foldl _ (fun y b hy => ?_) ?_

theorem Kept.composeTo {f : Foot} {s x : State} (h : Kept f s x) (hf : Foot.le ⟨false, [0x00, 0x15, 0x1B], [], [.sram, .freeCtr, .flt, .dpy]⟩ f = true) (a0 : Nat) :
    Kept f s (State.composeTo x a0) := by
  unfold Sys2Proof.Machine.State.composeTo
  repeat' first
    | with_reducible assumption
    | with_reducible refine Kept.ite ?_ ?_
    | with_reducible refine Kept.composeLine ?_ (Foot.le_trans (by decide +kernel) hf) _
    | with_reducible refine Kept.foldl _ (fun y b hy => ?_) ?_
    | intro y
    | lift_lets
    | dsimp only
    | fail_if_no_progress (with_reducible refine Kept.set_dpy _ ?_ (Foot.part_of_le hf (by decide +kernel : Foot.part _ .dpy = true)))
    | fail_if_no_progress (with_reducible refine Kept.set_dpy_freeCtr _ _ ?_ (Foot.part_of_le hf (by decide +kernel : Foot.part _ .dpy = true)) (Foot.part_of_le hf (by decide +kernel : Foot.part _ .freeCtr = true)))

theorem Kept.resumeVideo {f : Foot} {s x : State} (h : Kept f s x) (hf : Foot.le ⟨false, [0x0C, 0x0E, 0x15], [], [.neb, .dpy]⟩ f = true) :
    Kept f s (State.resumeVideo x) := by
  unfold Sys2Proof.Machine.State.resumeVideo
  repeat' first
    | with_reducible assumption
    | with_reducible refine Kept.ite ?_ ?_
    | with_reducible refine Kept.setMstate ?_ (Foot.le_trans (by decide +kernel) hf) _
    | with_reducible refine Kept.nameFrame ?_ (Foot.le_trans (by decide +kernel) hf)
    | (intro y; refine (fun hy : Kept f s y => ?_) ?_ <;> [clear_value y; skip])
    | intro y
    | lift_lets
    | with_reducible exact Kept.set_neb _ (by with_reducible assumption) (Foot.part_of_le hf (by decide +kernel : Foot.part _ .neb = true))

theorem Kept.dpyPllLocked {f : Foot} {s x : State} (h : Kept f s x) (hf : Foot.le ⟨false, [0x0C, 0x0E, 0x15], [], [.neb, .dpy]⟩ f = true) :
    Kept f s (State.dpyPllLocked x) := by
  unfold Sys2Proof.Machine.State.dpyPllLocked
  repeat' first
    | with_reducible assumption
    | with_reducible refine Kept.ite ?_ ?_
    | with_reducible refine Kept.toTraining ?_ (Foot.le_trans (by decide +kernel) hf)
    | with_reducible refine Kept.resumeVideo ?_ (Foot.le_trans (by decide +kernel) hf)
    | intro y
    | lift_lets
    | with_reducible exact Kept.set_dpy _ (by with_reducible assumption) (Foot.part_of_le hf (by decide +kernel : Foot.part _ .dpy = true))

theorem Kept.dpyPllLost {f : Foot} {s x : State} (h : Kept f s x) (hf : Foot.le ⟨false, [0x0C, 0x0E], [], [.neb, .dpy]⟩ f = true) :
    Kept f s (State.dpyPllLost x) := by
  unfold Sys2Proof.Machine.State.dpyPllLost
  repeat' first
    | with_reducible assumption
    | with_reducible refine Kept.ite ?_ ?_
    | with_reducible refine Kept.stopVideo ?_ (Foot.le_trans (by decide +kernel) hf) _
    | (intro y; refine (fun hy : Kept f s y => ?_) ?_ <;> [clear_value y; skip])
    | intro y
    | lift_lets
    | with_reducible exact Kept.set_dpy _ (by with_reducible assumption) (Foot.part_of_le hf (by decide +kernel : Foot.part _ .dpy = true))

theorem Kept.linkTrained {f : Foot} {s x : State} (h : Kept f s x) (hf : Foot.le ⟨false, [0x02, 0x0C, 0x0E, 0x15, 0x1B], [0x02, 0x0E], [.sys, .flt, .alm, .neb, .dpy]⟩ f = true) (a0 : Nat) (a1 : Nat) (a2 : Bool) :
    Kept f s (State.linkTrained x a0 a1 a2) := by
  unfold Sys2Proof.Machine.State.linkTrained
  repeat' first
    | with_reducible refine Kept.ite ?_ ?_
    | with_reducible refine Kept.put _ _ ?_ (Foot.word_of_le hf (by first | decide +kernel))
    | with_reducible refine Kept.putB _ _ ?_ (Foot.word_of_le hf (by first | decide +kernel))
    | with_reducible refine Kept.setMstate ?_ (Foot.le_trans (by decide +kernel) hf) _
    | with_reducible refine Kept.resumeVideo ?_ (Foot.le_trans (by decide +kernel) hf)
    | with_reducible refine Kept.fltInfo ?_ (Foot.le_trans (by decide +kernel) hf) _ _ _ _ _
    | with_reducible refine Kept.commitApply ?_ (Foot.le_trans (by decide +kernel) hf)
    | intro y
    | lift_lets
    | with_reducible exact Kept.set_dpy _ (by with_reducible assumption) (Foot.part_of_le hf (by decide +kernel : Foot.part _ .dpy = true))

theorem Kept.execAuxDone {f : Foot} {s x : State} (h : Kept f s x) (hf : Foot.le ⟨false, [0x0E], [], [.dpy]⟩ f = true) (a0 : BitVec 2) (a1 : List Byte) :
    ∃ t, execAuxDone a0 a1 x = .next t ∧ Kept f s t := by
  unfold Sys2Proof.Machine.execAuxDone
  refine ⟨_, rfl, ?_⟩
  repeat' first
    | with_reducible assumption
    | with_reducible refine Kept.ite ?_ ?_
    | with_reducible refine Kept.put _ _ ?_ (Foot.word_of_le hf (by first | decide +kernel))
    | with_reducible refine Kept.auxData ?_ (Foot.le_trans (by decide +kernel) hf) _
    | intro y
    | lift_lets
    | with_reducible exact Kept.set_dpy _ (by with_reducible assumption) (Foot.part_of_le hf (by decide +kernel : Foot.part _ .dpy = true))

theorem Kept.execAuxGo {f : Foot} {s x : State} (h : Kept f s x) (hf : Foot.le ⟨false, [0x00, 0x0E], [], [.resp, .sys, .dpy]⟩ f = true) (a0 : Source) (a1 : Word) :
    ∃ t, execAuxGo a0 a1 x = .next t ∧ Kept f s t := by
  unfold Sys2Proof.Machine.execAuxGo
  refine ⟨_, rfl, ?_⟩
  repeat' first
    | with_reducible assumption
    | with_reducible refine Kept.writeReg ?_ (fun y b0 b1 b2 => Kept.dpyRules (Kept.refl _ y) (Foot.le_trans (by decide +kernel) hf) b0 b1 b2) (Foot.word_of_le hf (by first | decide +kernel)) (Foot.word_of_le hf (by first | decide +kernel)) (Foot.word_of_le hf (by decide +kernel)) (Foot.part_of_le hf (by decide +kernel : Foot.part _ .resp = true)) (Foot.part_of_le hf (by decide +kernel : Foot.part _ .sys = true))

theorem Kept.execCommitLand {f : Foot} {s x : State} (h : Kept f s x) (hf : Foot.le ⟨false, [0x00, 0x02, 0x0C, 0x0E, 0x15], [0x02, 0x0E], [.sys, .alm, .neb, .dpy]⟩ f = true) :
    ∃ t, execCommitLand x = .next t ∧ Kept f s t := by
  unfold Sys2Proof.Machine.execCommitLand
  refine ⟨_, rfl, ?_⟩
  repeat' first
    | with_reducible assumption
    | with_reducible refine Kept.ite ?_ ?_
    | with_reducible refine Kept.setWord _ _ ?_ (Foot.word_of_le hf (by first | decide +kernel))
    | with_reducible refine Kept.refuseOp ?_ (Foot.le_trans (by decide +kernel) hf) _ _ _ _ (Foot.word_of_le hf (by first | decide +kernel))
    | with_reducible refine Kept.put _ _ ?_ (Foot.word_of_le hf (by first | decide +kernel))
    | with_reducible refine Kept.commitApply ?_ (Foot.le_trans (by decide +kernel) hf)
    | (intro y; refine (fun hy : Kept f s y => ?_) ?_ <;> [clear_value y; skip])
    | intro y
    | split
    | lift_lets
    | with_reducible exact Kept.set_dpy _ (by with_reducible assumption) (Foot.part_of_le hf (by decide +kernel : Foot.part _ .dpy = true))

theorem Kept.execComposeStart {f : Foot} {s x : State} (h : Kept f s x) (hf : Foot.le ⟨false, [], [], [.neb, .dpy]⟩ f = true) :
    ∃ t, execComposeStart x = .next t ∧ Kept f s t := by
  unfold Sys2Proof.Machine.execComposeStart
  refine ⟨_, rfl, ?_⟩
  repeat' first
    | with_reducible assumption
    | with_reducible refine Kept.ite ?_ ?_
    | intro y
    | lift_lets
    | with_reducible exact Kept.set_neb_dpy _ _ (by with_reducible assumption) (Foot.part_of_le hf (by decide +kernel : Foot.part _ .neb = true)) (Foot.part_of_le hf (by decide +kernel : Foot.part _ .dpy = true))

theorem Kept.execDensityLockRelease {f : Foot} {s x : State} (h : Kept f s x) (hf : Foot.le ⟨false, [0x00, 0x15, 0x1B], [], [.sram, .freeCtr, .flt, .neb, .dpy]⟩ f = true) :
    ∃ t, execDensityLockRelease x = .next t ∧ Kept f s t := by
  unfold Sys2Proof.Machine.execDensityLockRelease
  refine ⟨_, rfl, ?_⟩
  repeat' first
    | with_reducible assumption
    | with_reducible refine Kept.ite ?_ ?_
    | with_reducible refine Kept.composeTo ?_ (Foot.le_trans (by decide +kernel) hf) _
    | (intro y; refine (fun hy : Kept f s y => ?_) ?_ <;> [clear_value y; skip])
    | intro y
    | lift_lets
    | with_reducible exact Kept.set_neb _ (by with_reducible assumption) (Foot.part_of_le hf (by decide +kernel : Foot.part _ .neb = true))

theorem Kept.execDpyCommit {f : Foot} {s x : State} (h : Kept f s x) (hf : Foot.le ⟨false, [0x00, 0x0E], [], [.resp, .sys, .dpy]⟩ f = true) (a0 : Source) (a1 : Word) :
    ∃ t, execDpyCommit a0 a1 x = .next t ∧ Kept f s t := by
  unfold Sys2Proof.Machine.execDpyCommit
  refine ⟨_, rfl, ?_⟩
  repeat' first
    | with_reducible assumption
    | with_reducible refine Kept.writeReg ?_ (fun y b0 b1 b2 => Kept.dpyRules (Kept.refl _ y) (Foot.le_trans (by decide +kernel) hf) b0 b1 b2) (Foot.word_of_le hf (by first | decide +kernel)) (Foot.word_of_le hf (by first | decide +kernel)) (Foot.word_of_le hf (by decide +kernel)) (Foot.part_of_le hf (by decide +kernel : Foot.part _ .resp = true)) (Foot.part_of_le hf (by decide +kernel : Foot.part _ .sys = true))

theorem Kept.execHpdIrq {f : Foot} {s x : State} (h : Kept f s x) (hf : Foot.le ⟨false, [0x0C, 0x0E], [], [.neb, .dpy]⟩ f = true) (a0 : Bool) :
    ∃ t, execHpdIrq a0 x = .next t ∧ Kept f s t := by
  unfold Sys2Proof.Machine.execHpdIrq
  refine ⟨_, rfl, ?_⟩
  repeat' first
    | with_reducible assumption
    | with_reducible refine Kept.ite ?_ ?_
    | with_reducible refine Kept.toTraining ?_ (Foot.le_trans (by decide +kernel) hf)

theorem Kept.execHpdPlug {f : Foot} {s x : State} (h : Kept f s x) (hf : Foot.le ⟨false, [0x0C, 0x0E], [], [.neb, .dpy]⟩ f = true) :
    ∃ t, execHpdPlug x = .next t ∧ Kept f s t := by
  unfold Sys2Proof.Machine.execHpdPlug
  refine ⟨_, rfl, ?_⟩
  repeat' first
    | with_reducible assumption
    | with_reducible refine Kept.ite ?_ ?_
    | with_reducible refine Kept.put _ _ ?_ (Foot.word_of_le hf (by first | decide +kernel))
    | with_reducible refine Kept.stopVideo ?_ (Foot.le_trans (by decide +kernel) hf) _

theorem Kept.execHpdUnplug {f : Foot} {s x : State} (h : Kept f s x) (hf : Foot.le ⟨false, [0x0C, 0x0E], [], [.neb, .dpy]⟩ f = true) :
    ∃ t, execHpdUnplug x = .next t ∧ Kept f s t := by
  unfold Sys2Proof.Machine.execHpdUnplug
  refine ⟨_, rfl, ?_⟩
  repeat' first
    | with_reducible assumption
    | with_reducible refine Kept.ite ?_ ?_
    | with_reducible refine Kept.put _ _ ?_ (Foot.word_of_le hf (by first | decide +kernel))
    | with_reducible refine Kept.stopVideo ?_ (Foot.le_trans (by decide +kernel) hf) _

theorem Kept.execScanoutLine {f : Foot} {s x : State} (h : Kept f s x) (hf : Foot.le ⟨false, [0x00, 0x0E, 0x15, 0x1B], [], [.sram, .freeCtr, .flt, .dpy]⟩ f = true) (a0 : Nat) (a1 : Bool) :
    ∃ t, execScanoutLine a0 a1 x = .next t ∧ Kept f s t := by
  unfold Sys2Proof.Machine.execScanoutLine
  refine ⟨_, rfl, ?_⟩
  repeat' first
    | with_reducible assumption
    | with_reducible refine Kept.ite ?_ ?_
    | with_reducible refine Kept.composeTo ?_ (Foot.le_trans (by decide +kernel) hf) _
    | with_reducible refine Kept.bump _ ?_ (Foot.word_of_le hf (by first | decide +kernel))
    | with_reducible refine Kept.put _ _ ?_ (Foot.word_of_le hf (by first | decide +kernel))

theorem Kept.execTeInEdge {f : Foot} {s x : State} (h : Kept f s x) (hf : Foot.le ⟨false, [], [], [.dpy]⟩ f = true) (a0 : Bool) :
    ∃ t, execTeInEdge a0 x = .next t ∧ Kept f s t := by
  unfold Sys2Proof.Machine.execTeInEdge
  refine ⟨_, rfl, ?_⟩
  repeat' first
    | with_reducible assumption
    | with_reducible refine Kept.ite ?_ ?_
    | intro y
    | lift_lets
    | with_reducible exact Kept.set_dpy _ (by with_reducible assumption) (Foot.part_of_le hf (by decide +kernel : Foot.part _ .dpy = true))

theorem Kept.execTeMiss {f : Foot} {s x : State} (h : Kept f s x) (hf : Foot.le ⟨false, [0x0E], [], []⟩ f = true) :
    ∃ t, execTeMiss x = .next t ∧ Kept f s t := by
  unfold Sys2Proof.Machine.execTeMiss
  refine ⟨_, rfl, ?_⟩
  repeat' first
    | with_reducible assumption
    | with_reducible refine Kept.ite ?_ ?_
    | with_reducible refine Kept.bump _ ?_ (Foot.word_of_le hf (by first | decide +kernel))
    | with_reducible refine Kept.put _ _ ?_ (Foot.word_of_le hf (by first | decide +kernel))

theorem Kept.execVblank {f : Foot} {s x : State} (h : Kept f s x) (hf : Foot.le ⟨false, [0x02, 0x0C, 0x0E, 0x15], [0x02, 0x0E], [.sram, .sys, .alm, .neb, .dpy]⟩ f = true) :
    ∃ t, execVblank x = .next t ∧ Kept f s t := by
  unfold Sys2Proof.Machine.execVblank
  refine ⟨_, rfl, ?_⟩
  repeat' first
    | with_reducible assumption
    | with_reducible refine Kept.ite ?_ ?_
    | with_reducible refine Kept.bumpWrap _ ?_ (Foot.word_of_le hf (by first | decide +kernel))
    | with_reducible refine Kept.commitApply ?_ (Foot.le_trans (by decide +kernel) hf)
    | with_reducible refine Kept.nebRequest ?_ (Foot.le_trans (by decide +kernel) hf) _
    | intro y
    | split
    | lift_lets
    | dsimp only
    | fail_if_no_progress (with_reducible refine Kept.set_neb _ ?_ (Foot.part_of_le hf (by decide +kernel : Foot.part _ .neb = true)))
    | fail_if_no_progress (with_reducible refine Kept.set_dpy _ ?_ (Foot.part_of_le hf (by decide +kernel : Foot.part _ .dpy = true)))
    | fail_if_no_progress (with_reducible refine Kept.set_neb_dpy _ _ ?_ (Foot.part_of_le hf (by decide +kernel : Foot.part _ .neb = true)) (Foot.part_of_le hf (by decide +kernel : Foot.part _ .dpy = true)))

end Sys2Proof.Machine
end

