-- ==== Sys2Proof/Laws/KeptFft.lean ====
section
/-! SUPPORT. What the operations of Sys2Proof/Machine/Fft.lean change. -/

set_option Elab.async false

set_option linter.all false

namespace Sys2Proof.Machine

theorem Kept.setFftSrc {f : Foot} {s x : State} (h : Kept f s x) (hf : Foot.le ⟨false, [], [], [.fft]⟩ f = true) (a0 : Fin 20) (a1 : FftSrc) :
    Kept f s (State.setFftSrc x a0 a1) := by
  unfold Sys2Proof.Machine.State.setFftSrc
  repeat' first
    | intro y
    | lift_lets
    | with_reducible exact Kept.set_fft _ (by with_reducible assumption) (Foot.part_of_le hf (by decide +kernel : Foot.part _ .fft = true))

theorem Kept.gapCount {f : Foot} {s x : State} (h : Kept f s x) (hf : Foot.le ⟨false, [0x08, 0x09], [], [.srv]⟩ f = true) (a0 : Nat) :
    Kept f s (State.gapCount x a0) := by
  unfold Sys2Proof.Machine.State.gapCount
  repeat' first
    | with_reducible assumption
    | with_reducible refine Kept.ite ?_ ?_
    | with_reducible refine Kept.bump _ ?_ (Foot.word_of_le hf (by first | decide +kernel | (simp only [FFT_SRC_STAT.GAP, FFT_SRC_STAT.addr_win, FFT_SRC_CNT.GAP_COUNT, FFT_SRC_CNT.addr_win]; first | decide +kernel | (split <;> decide +kernel))))
    | with_reducible refine Kept.put _ _ ?_ (Foot.word_of_le hf (by first | decide +kernel | (simp only [FFT_SRC_STAT.GAP, FFT_SRC_STAT.addr_win, FFT_SRC_CNT.GAP_COUNT, FFT_SRC_CNT.addr_win]; first | decide +kernel | (split <;> decide +kernel))))
    | intro y
    | lift_lets
    | with_reducible exact Kept.set_srv _ (by with_reducible assumption) (Foot.part_of_le hf (by decide +kernel : Foot.part _ .srv = true))

theorem Kept.fftSourceGap {f : Foot} {s x : State} (h : Kept f s x) (hf : Foot.le ⟨false, [0x08, 0x09], [], [.fft, .srv]⟩ f = true) (a0 : Nat) (a1 : Nat) (a2 : Stamp) :
    Kept f s (State.fftSourceGap x a0 a1 a2) := by
  unfold Sys2Proof.Machine.State.fftSourceGap
  repeat' first
    | with_reducible assumption
    | with_reducible refine Kept.ite ?_ ?_
    | with_reducible refine Kept.setFftSrc ?_ (Foot.le_trans (by decide +kernel) hf) _ _
    | with_reducible refine Kept.put _ _ ?_ (Foot.word_of_le hf (by first | decide +kernel | (simp only [FFT_SRC_STAT.VALID, FFT_SRC_STAT.addr_win]; first | decide +kernel | (split <;> decide +kernel))))
    | with_reducible refine Kept.gapCount ?_ (Foot.le_trans (by decide +kernel) hf) _
    | split

theorem Kept.checkEnd {f : Foot} {s x : State} (h : Kept f s x) (hf : Foot.le ⟨false, [0x08, 0x09, 0x15], [], [.fft]⟩ f = true) (a0 : Nat) :
    Kept f s (State.checkEnd x a0) := by
  unfold Sys2Proof.Machine.State.checkEnd
  repeat' first
    | with_reducible refine Kept.ite ?_ ?_
    | with_reducible refine Kept.put _ _ ?_ (Foot.word_of_le hf (by first | decide +kernel))
    | with_reducible refine Kept.bumpWrap _ ?_ (Foot.word_of_le hf (by first | decide +kernel))
    | with_reducible refine Kept.raiseIrq ?_ (Foot.le_trans (by decide +kernel) hf) _
    | intro y
    | lift_lets
    | with_reducible exact Kept.set_fft _ (by with_reducible assumption) (Foot.part_of_le hf (by decide +kernel : Foot.part _ .fft = true))

theorem Kept.setPipe {f : Foot} {s x : State} (h : Kept f s x) (hf : Foot.le ⟨false, [0x08, 0x09], [], []⟩ f = true) (a0 : Nat) (a1 : Nat) :
    Kept f s (State.setPipe x a0 a1) := by
  unfold Sys2Proof.Machine.State.setPipe
  repeat' first
    | with_reducible assumption
    | with_reducible refine Kept.put _ _ ?_ (Foot.word_of_le hf (by first | decide +kernel | (simp only [FFT_PIPE_STAT.STATE, FFT_PIPE_STAT.addr_win]; first | decide +kernel | (split <;> decide +kernel))))

theorem Kept.pipeOwn {f : Foot} {s x : State} (h : Kept f s x) (hf : Foot.le ⟨false, [0x08, 0x09], [], [.fft]⟩ f = true) (a0 : Nat) :
    Kept f s (State.pipeOwn x a0) := by
  unfold Sys2Proof.Machine.State.pipeOwn
  repeat' first
    | with_reducible refine Kept.ite ?_ ?_
    | with_reducible refine Kept.setPipe ?_ (Foot.le_trans (by decide +kernel) hf) _ _
    | intro y
    | lift_lets
    | with_reducible exact Kept.set_fft _ (by with_reducible assumption) (Foot.part_of_le hf (by decide +kernel : Foot.part _ .fft = true))

theorem Kept.spareRefresh {f : Foot} {s x : State} (h : Kept f s x) (hf : Foot.le ⟨false, [0x08, 0x09], [], []⟩ f = true) :
    Kept f s (State.spareRefresh x) := by
  unfold Sys2Proof.Machine.State.spareRefresh
  repeat' first
    | with_reducible assumption
    | with_reducible refine Kept.putB _ _ ?_ (Foot.word_of_le hf (by first | decide +kernel))

theorem Kept.spareFree {f : Foot} {s x : State} (h : Kept f s x) (hf : Foot.le ⟨false, [0x08, 0x09], [], [.fft]⟩ f = true) :
    Kept f s (State.spareFree x) := by
  unfold Sys2Proof.Machine.State.spareFree
  repeat' first
    | with_reducible refine Kept.ite ?_ ?_
    | with_reducible refine Kept.put _ _ ?_ (Foot.word_of_le hf (by first | decide +kernel | (simp only [FFT_PIPE_STAT.STANDIN, FFT_PIPE_STAT.addr_win, FFT_PIPE_STAT.SRC]; first | decide +kernel | (split <;> decide +kernel))))
    | with_reducible refine Kept.setPipe ?_ (Foot.le_trans (by decide +kernel) hf) _ _
    | with_reducible refine Kept.spareRefresh ?_ (Foot.le_trans (by decide +kernel) hf)
    | intro y
    | lift_lets
    | with_reducible exact Kept.set_fft _ (by with_reducible assumption) (Foot.part_of_le hf (by decide +kernel : Foot.part _ .fft = true))

theorem Kept.checkAbort {f : Foot} {s x : State} (h : Kept f s x) (hf : Foot.le ⟨false, [0x08, 0x09, 0x15], [], [.fft]⟩ f = true) (a0 : Nat) :
    Kept f s (State.checkAbort x a0) := by
  unfold Sys2Proof.Machine.State.checkAbort
  repeat' first
    | with_reducible assumption
    | with_reducible refine Kept.ite ?_ ?_
    | with_reducible refine Kept.checkEnd ?_ (Foot.le_trans (by decide +kernel) hf) _
    | with_reducible refine Kept.setPipe ?_ (Foot.le_trans (by decide +kernel) hf) _ _
    | with_reducible refine Kept.pipeOwn ?_ (Foot.le_trans (by decide +kernel) hf) _
    | with_reducible refine Kept.spareFree ?_ (Foot.le_trans (by decide +kernel) hf)
    | split

theorem Kept.modFftSrc {f : Foot} {s x : State} (h : Kept f s x) (hf : Foot.le ⟨false, [], [], [.fft]⟩ f = true) (a0 : Fin 20) (a1 : FftSrc → FftSrc) :
    Kept f s (State.modFftSrc x a0 a1) := by
  unfold Sys2Proof.Machine.State.modFftSrc
  repeat' first
    | with_reducible assumption
    | with_reducible refine Kept.setFftSrc ?_ (Foot.le_trans (by decide +kernel) hf) _ _

theorem Kept.ringLine {f : Foot} {s x : State} (h : Kept f s x) (hf : Foot.le ⟨false, [0x08, 0x09], [], [.sram]⟩ f = true) (a0 : Fin 20) (a1 : Nat) (a2 : List Byte) :
    Kept f s (State.ringLine x a0 a1 a2) := by
  unfold Sys2Proof.Machine.State.ringLine
  repeat' first
    | with_reducible assumption
    | with_reducible refine Kept.ite ?_ ?_
    | with_reducible refine Kept.setSramBytes _ ?_ (Foot.part_of_le hf (by decide +kernel : Foot.part _ .sram = true)) _
    | with_reducible refine Kept.bumpWrap _ ?_ (Foot.word_of_le hf (by first | decide +kernel | (simp only [FFT_SRC_SPGL.LINES_M1, FFT_SRC_SPGL.addr_win, FFT_SRC_SPGW.WLINE, FFT_SRC_SPGW.addr_win, FFT_SRC_SPG.BASE, FFT_SRC_SPG.addr_win, FFT_SRC_SPGW.WRAPS]; first | decide +kernel | (split <;> decide +kernel))))
    | with_reducible refine Kept.put _ _ ?_ (Foot.word_of_le hf (by first | decide +kernel | (simp only [FFT_SRC_SPGL.LINES_M1, FFT_SRC_SPGL.addr_win, FFT_SRC_SPGW.WLINE, FFT_SRC_SPGW.addr_win, FFT_SRC_SPG.BASE, FFT_SRC_SPG.addr_win, FFT_SRC_SPGW.WRAPS]; first | decide +kernel | (split <;> decide +kernel))))

theorem Kept.closeLine {f : Foot} {s x : State} (h : Kept f s x) (hf : Foot.le ⟨false, [0x08, 0x09], [], [.sram, .fft]⟩ f = true) (a0 : Fin 20) :
    Kept f s (State.closeLine x a0) := by
  unfold Sys2Proof.Machine.State.closeLine
  repeat' first
    | with_reducible assumption
    | with_reducible refine Kept.ite ?_ ?_
    | with_reducible refine Kept.setFftSrc ?_ (Foot.le_trans (by decide +kernel) hf) _ _
    | with_reducible refine Kept.ringLine ?_ (Foot.le_trans (by decide +kernel) hf) _ _ _
    | (intro y; refine (fun hy : Kept f s y => ?_) ?_ <;> [clear_value y; skip])
    | intro y
    | split
    | lift_lets

theorem Kept.outRecord {f : Foot} {s x : State} (h : Kept f s x) (hf : Foot.le ⟨false, [0x08, 0x09], [], [.fft]⟩ f = true) (a0 : Fin 20) (a1 : Nat) (a2 : List Byte) (a3 : Bool) :
    Kept f s (State.outRecord x a0 a1 a2 a3) := by
  unfold Sys2Proof.Machine.State.outRecord
  repeat' first
    | with_reducible assumption
    | with_reducible refine Kept.ite ?_ ?_
    | with_reducible refine Kept.setFftSrc ?_ (Foot.le_trans (by decide +kernel) hf) _ _
    | with_reducible refine Kept.bump _ ?_ (Foot.word_of_le hf (by first | decide +kernel | (simp only [FFT_SRC_STAT.OUT_DROP, FFT_SRC_STAT.addr_win, FFT_SRC_CNT.DROP_COUNT, FFT_SRC_CNT.addr_win]; first | decide +kernel | (split <;> decide +kernel))))
    | with_reducible refine Kept.put _ _ ?_ (Foot.word_of_le hf (by first | decide +kernel | (simp only [FFT_SRC_STAT.OUT_DROP, FFT_SRC_STAT.addr_win, FFT_SRC_CNT.DROP_COUNT, FFT_SRC_CNT.addr_win]; first | decide +kernel | (split <;> decide +kernel))))

theorem Kept.closeRec {f : Foot} {s x : State} (h : Kept f s x) (hf : Foot.le ⟨false, [0x08, 0x09], [], [.freeCtr, .fft]⟩ f = true) (a0 : Fin 20) :
    Kept f s (State.closeRec x a0) := by
  unfold Sys2Proof.Machine.State.closeRec
  repeat' first
    | with_reducible assumption
    | with_reducible refine Kept.ite ?_ ?_
    | with_reducible refine Kept.setFftSrc ?_ (Foot.le_trans (by decide +kernel) hf) _ _
    | with_reducible refine Kept.outRecord ?_ (Foot.le_trans (by decide +kernel) hf) _ _ _ _
    | (intro y; refine (fun hy : Kept f s y => ?_) ?_ <;> [clear_value y; skip])
    | intro y
    | split
    | lift_lets
    | with_reducible exact Kept.set_freeCtr _ (by with_reducible assumption) (Foot.part_of_le hf (by decide +kernel : Foot.part _ .freeCtr = true))

theorem Kept.gapOut {f : Foot} {s x : State} (h : Kept f s x) (hf : Foot.le ⟨false, [0x08, 0x09, 0x0C], [], [.sram, .freeCtr, .fft, .trg, .neb]⟩ f = true) (a0 : Fin 20) (a1 : Nat) (a2 : Nat) (a3 : Stamp) (a4 : Stamp) :
    Kept f s (State.gapOut x a0 a1 a2 a3 a4) := by
  unfold Sys2Proof.Machine.State.gapOut
  repeat' first
    | with_reducible assumption
    | with_reducible refine Kept.ite ?_ ?_
    | with_reducible refine Kept.modFftSrc ?_ (Foot.le_trans (by decide +kernel) hf) _ _
    | with_reducible refine Kept.closeLine ?_ (Foot.le_trans (by decide +kernel) hf) _
    | with_reducible refine Kept.closeRec ?_ (Foot.le_trans (by decide +kernel) hf) _
    | with_reducible refine Kept.outRecord ?_ (Foot.le_trans (by decide +kernel) hf) _ _ _ _
    | with_reducible refine Kept.ringLine ?_ (Foot.le_trans (by decide +kernel) hf) _ _ _
    | with_reducible refine Kept.nebGap ?_ (Foot.le_trans (by decide +kernel) hf) _
    | with_reducible refine Kept.trgSpecGap ?_ (Foot.le_trans (by decide +kernel) hf) _

theorem Kept.drainGaps {f : Foot} {s x : State} (h : Kept f s x) (hf : Foot.le ⟨false, [0x08, 0x09, 0x0C], [], [.sram, .freeCtr, .fft, .trg, .neb]⟩ f = true) (a0 : Fin 20) (a1 : Nat) :
    Kept f s (State.drainGaps x a0 a1) := by
  induction a1 generalizing x with
  | zero => exact h
  | succ n ih =>
    unfold State.drainGaps
    split
    · exact ih (Kept.gapOut (Kept.modFftSrc h (Foot.le_trans (by decide +kernel) hf) _ _) (Foot.le_trans (by decide +kernel) hf) _ _ _ _ _)
    · exact h

theorem Kept.fftSourceStart {f : Foot} {s x : State} (h : Kept f s x) (hf : Foot.le ⟨false, [0x08, 0x09, 0x0C], [], [.sram, .freeCtr, .fft, .trg, .neb]⟩ f = true) (a0 : Nat) (a1 : Stamp) :
    Kept f s (State.fftSourceStart x a0 a1) := by
  unfold Sys2Proof.Machine.State.fftSourceStart
  repeat' first
    | with_reducible assumption
    | with_reducible refine Kept.ite ?_ ?_
    | with_reducible refine Kept.setFftSrc ?_ (Foot.le_trans (by decide +kernel) hf) _ _
    | with_reducible refine Kept.drainGaps ?_ (Foot.le_trans (by decide +kernel) hf) _ _
    | with_reducible refine Kept.put _ _ ?_ (Foot.word_of_le hf (by first | decide +kernel | (simp only [FFT_SRC_STAT.VALID, FFT_SRC_STAT.addr_win]; first | decide +kernel | (split <;> decide +kernel))))
    | split

theorem Kept.fftSrcApply {f : Foot} {s x : State} (h : Kept f s x) (hf : Foot.le ⟨false, [0x08, 0x09, 0x0C], [], [.sram, .freeCtr, .fft, .trg, .neb, .srv]⟩ f = true) (a0 : Fin 20) (a1 : State) :
    Kept f s (State.fftSrcApply x a0 a1) := by
  unfold Sys2Proof.Machine.State.fftSrcApply
  repeat' first
    | with_reducible assumption
    | with_reducible refine Kept.ite ?_ ?_
    | with_reducible refine Kept.putB _ _ ?_ (Foot.word_of_le hf (by first | decide +kernel | (simp only [DDC_STAT.VALID, DDC_STAT.addr_win, FFT_SRC_STAT.VALID, FFT_SRC_STAT.addr_win, FFT_SRC_TRC.MODE, FFT_SRC_TRC.addr_win, FFT_SRC_TRC.BLOCK, FFT_SRC_TRC.A, FFT_WIN_INFO.ENBW, FFT_WIN_INFO.addr_win, FFT_WIN_INFO.C_HALF]; first | decide +kernel | (split <;> decide +kernel))))
    | with_reducible refine Kept.setFftSrc ?_ (Foot.le_trans (by decide +kernel) hf) _ _
    | with_reducible refine Kept.put _ _ ?_ (Foot.word_of_le hf (by first | decide +kernel | (simp only [DDC_STAT.VALID, DDC_STAT.addr_win, FFT_SRC_STAT.VALID, FFT_SRC_STAT.addr_win, FFT_SRC_TRC.MODE, FFT_SRC_TRC.addr_win, FFT_SRC_TRC.BLOCK, FFT_SRC_TRC.A, FFT_WIN_INFO.ENBW, FFT_WIN_INFO.addr_win, FFT_WIN_INFO.C_HALF]; first | decide +kernel | (split <;> decide +kernel))))
    | with_reducible refine Kept.gapCount ?_ (Foot.le_trans (by decide +kernel) hf) _
    | with_reducible refine Kept.fftSourceStart ?_ (Foot.le_trans (by decide +kernel) hf) _ _
    | with_reducible refine Kept.modFftSrc ?_ (Foot.le_trans (by decide +kernel) hf) _ _
    | with_reducible refine Kept.foldl _ (fun y b hy => ?_) ?_
    | split

theorem Kept.fftApply {f : Foot} {s x : State} (h : Kept f s x) (hf : Foot.le ⟨false, [0x08, 0x09, 0x0C, 0x15], [], [.sram, .freeCtr, .fft, .trg, .neb, .srv]⟩ f = true) (a0 : State) :
    Kept f s (State.fftApply x a0) := by
  unfold Sys2Proof.Machine.State.fftApply
  repeat' first
    | with_reducible assumption
    | with_reducible refine Kept.ite ?_ ?_
    | with_reducible refine Kept.checkAbort ?_ (Foot.le_trans (by decide +kernel) hf) _
    | with_reducible refine Kept.fftSrcApply ?_ (Foot.le_trans (by decide +kernel) hf) _ _
    | with_reducible refine Kept.modFftSrc ?_ (Foot.le_trans (by decide +kernel) hf) _ _
    | with_reducible refine Kept.put _ _ ?_ (Foot.word_of_le hf (by first | decide +kernel | (simp only [FFT_PIPE_STAT.SRC, FFT_PIPE_STAT.addr_win, FFT_PIPE_STAT.STANDIN, FFT_UWIN.IN_USE, FFT_UWIN.addr_win]; first | decide +kernel | (split <;> decide +kernel))))
    | with_reducible refine Kept.setPipe ?_ (Foot.le_trans (by decide +kernel) hf) _ _
    | with_reducible refine Kept.putB _ _ ?_ (Foot.word_of_le hf (by first | decide +kernel | (simp only [FFT_PIPE_STAT.SRC, FFT_PIPE_STAT.addr_win, FFT_PIPE_STAT.STANDIN, FFT_UWIN.IN_USE, FFT_UWIN.addr_win]; first | decide +kernel | (split <;> decide +kernel))))
    | with_reducible refine Kept.foldl _ (fun y b hy => ?_) ?_
    | intro y
    | split
    | lift_lets
    | with_reducible exact Kept.set_fft _ (by with_reducible assumption) (Foot.part_of_le hf (by decide +kernel : Foot.part _ .fft = true))

theorem Kept.pipeCondition {f : Foot} {s x : State} (h : Kept f s x) (hf : Foot.le ⟨false, [0x00, 0x15, 0x1B], [], []⟩ f = true) :
    Kept f s (State.pipeCondition x) := by
  unfold Sys2Proof.Machine.State.pipeCondition
  repeat' first
    | with_reducible assumption
    | with_reducible refine Kept.ite ?_ ?_
    | with_reducible refine Kept.clearActive ?_ (Foot.le_trans (by decide +kernel) hf) _

theorem Kept.fftDomain {f : Foot} {s x : State} (h : Kept f s x) (hf : Foot.le ⟨false, [0x00, 0x08, 0x09, 0x15, 0x1B], [], []⟩ f = true) (a0 : Nat) (a1 : Bool) :
    Kept f s (State.fftDomain x a0 a1) := by
  unfold Sys2Proof.Machine.State.fftDomain
  repeat' first
    | with_reducible assumption
    | with_reducible refine Kept.ite ?_ ?_
    | with_reducible refine Kept.pipeCondition ?_ (Foot.le_trans (by decide +kernel) hf)
    | with_reducible refine Kept.spareRefresh ?_ (Foot.le_trans (by decide +kernel) hf)
    | with_reducible refine Kept.setPipe ?_ (Foot.le_trans (by decide +kernel) hf) _ _
    | with_reducible refine Kept.put _ _ ?_ (Foot.word_of_le hf (by first | decide +kernel | (simp only [FFT_PIPE_STAT.FAIL, FFT_PIPE_STAT.addr_win]; first | decide +kernel | (split <;> decide +kernel))))
    | with_reducible refine Kept.foldl _ (fun y b hy => ?_) ?_

theorem Kept.spareUse {f : Foot} {s x : State} (h : Kept f s x) (hf : Foot.le ⟨false, [0x08, 0x09], [], []⟩ f = true) (a0 : Nat) (a1 : Nat) :
    Kept f s (State.spareUse x a0 a1) := by
  unfold Sys2Proof.Machine.State.spareUse
  repeat' first
    | with_reducible assumption
    | with_reducible refine Kept.spareRefresh ?_ (Foot.le_trans (by decide +kernel) hf)
    | with_reducible refine Kept.put _ _ ?_ (Foot.word_of_le hf (by first | decide +kernel))

theorem Kept.spareWrite {f : Foot} {s x : State} (h : Kept f s x) (hf : Foot.le ⟨false, [0x08, 0x09], [], [.fft]⟩ f = true) (a0 : Word) :
    Kept.res f s (State.spareWrite x a0) := by
  unfold Sys2Proof.Machine.State.spareWrite
  repeat' first
    | with_reducible assumption
    | with_reducible refine Kept.res_ite ?_ ?_
    | with_reducible refine Kept.res_ok ?_
    | with_reducible exact Kept.res_error _ _ _
    | with_reducible refine Kept.spareUse ?_ (Foot.le_trans (by decide +kernel) hf) _ _
    | intro y
    | lift_lets
    | with_reducible exact Kept.set_fft _ (by with_reducible assumption) (Foot.part_of_le hf (by decide +kernel : Foot.part _ .fft = true))

theorem Kept.checkBegin {f : Foot} {s x : State} (h : Kept f s x) (hf : Foot.le ⟨false, [0x08, 0x09], [], [.fft]⟩ f = true) (a0 : Nat) :
    Kept f s (State.checkBegin x a0) := by
  unfold Sys2Proof.Machine.State.checkBegin
  repeat' first
    | with_reducible assumption
    | with_reducible refine Kept.ite ?_ ?_
    | with_reducible refine Kept.put _ _ ?_ (Foot.word_of_le hf (by first | decide +kernel))
    | with_reducible refine Kept.setPipe ?_ (Foot.le_trans (by decide +kernel) hf) _ _
    | with_reducible refine Kept.spareUse ?_ (Foot.le_trans (by decide +kernel) hf) _ _
    | intro y
    | lift_lets
    | dsimp only
    | fail_if_no_progress (with_reducible refine Kept.set_fft _ ?_ (Foot.part_of_le hf (by decide +kernel : Foot.part _ .fft = true)))

theorem Kept.checkWrite {f : Foot} {s x : State} (h : Kept f s x) (hf : Foot.le ⟨false, [0x08, 0x09, 0x15], [], [.fft]⟩ f = true) (a0 : Word) :
    Kept.res f s (State.checkWrite x a0) := by
  unfold Sys2Proof.Machine.State.checkWrite
  repeat' first
    | with_reducible assumption
    | with_reducible refine Kept.res_ite ?_ ?_
    | with_reducible refine Kept.res_ok ?_
    | with_reducible exact Kept.res_error _ _ _
    | with_reducible refine Kept.checkBegin ?_ (Foot.le_trans (by decide +kernel) hf) _
    | with_reducible refine Kept.checkAbort ?_ (Foot.le_trans (by decide +kernel) hf) _

theorem Kept.traceWrite {f : Foot} {s x : State} (h : Kept f s x) (hf : Foot.le ⟨false, [0x08, 0x09], [], [.fft]⟩ f = true) (a0 : Fin 20) (a1 : Fin 4) (a2 : Word) :
    Kept f s (State.traceWrite x a0 a1 a2) := by
  unfold Sys2Proof.Machine.State.traceWrite
  repeat' first
    | with_reducible assumption
    | with_reducible refine Kept.ite ?_ ?_
    | with_reducible refine Kept.put _ _ ?_ (Foot.word_of_le hf (by first | decide +kernel | (simp only [FFT_SRC_TRC.BLOCK, FFT_SRC_TRC.addr_win, FFT_SRC_TRC.MODE, FFT_SRC_TRS.SNAP_PEND, FFT_SRC_TRS.addr_win]; first | decide +kernel | (split <;> decide +kernel))))
    | with_reducible refine Kept.modFftSrc ?_ (Foot.le_trans (by decide +kernel) hf) _ _

theorem Kept.fftRules {f : Foot} {s x : State} (h : Kept f s x) (hf : Foot.le ⟨false, [0x08, 0x09, 0x15], [], [.fft]⟩ f = true) (b0 : Source) (b1 : Nat) (b2 : Word) :
    Kept.res f s (fftRules.act b0 b1 b2 x) := by
  unfold Sys2Proof.Machine.fftRules
  repeat' first
    | with_reducible assumption
    | with_reducible refine Kept.res_ite ?_ ?_
    | with_reducible refine Kept.res_ok ?_
    | with_reducible exact Kept.res_error _ _ _
    | with_reducible refine Kept.spareWrite ?_ (Foot.le_trans (by decide +kernel) hf) _
    | with_reducible refine Kept.checkWrite ?_ (Foot.le_trans (by decide +kernel) hf) _
    | with_reducible refine Kept.traceWrite ?_ (Foot.le_trans (by decide +kernel) hf) _ _ _
    | with_reducible refine Kept.setPipe ?_ (Foot.le_trans (by decide +kernel) hf) _ _
    | split

theorem Kept.pipeFailed {f : Foot} {s x : State} (h : Kept f s x) (hf : Foot.le ⟨false, [0x00, 0x08, 0x09, 0x15, 0x1B], [], [.flt]⟩ f = true) (a0 : Nat) (a1 : Nat) (a2 : Nat) :
    Kept f s (State.pipeFailed x a0 a1 a2) := by
  unfold Sys2Proof.Machine.State.pipeFailed
  repeat' first
    | with_reducible assumption
    | with_reducible refine Kept.fltRec ?_ (Foot.le_trans (by decide +kernel) hf) _ _ _ _ _ _
    | with_reducible refine Kept.put _ _ ?_ (Foot.word_of_le hf (by first | decide +kernel | (simp only [FFT_PIPE_STAT.FAIL, FFT_PIPE_STAT.addr_win]; first | decide +kernel | (split <;> decide +kernel))))
    | with_reducible refine Kept.setPipe ?_ (Foot.le_trans (by decide +kernel) hf) _ _

theorem Kept.checkTestEvent {f : Foot} {s x : State} (h : Kept f s x) (hf : Foot.le ⟨false, [0x00, 0x08, 0x09, 0x15, 0x1B], [], [.flt, .fft]⟩ f = true) (a0 : Bool) :
    Kept f s (State.checkTestEvent x a0) := by
  unfold Sys2Proof.Machine.State.checkTestEvent
  repeat' first
    | with_reducible assumption
    | with_reducible refine Kept.ite ?_ ?_
    | with_reducible refine Kept.checkEnd ?_ (Foot.le_trans (by decide +kernel) hf) _
    | with_reducible refine Kept.setPipe ?_ (Foot.le_trans (by decide +kernel) hf) _ _
    | with_reducible refine Kept.spareRefresh ?_ (Foot.le_trans (by decide +kernel) hf)
    | with_reducible refine Kept.pipeFailed ?_ (Foot.le_trans (by decide +kernel) hf) _ _ _
    | with_reducible refine Kept.put _ _ ?_ (Foot.word_of_le hf (by first | decide +kernel))
    | with_reducible refine Kept.setActive ?_ (Foot.le_trans (by decide +kernel) hf) _
    | with_reducible refine Kept.spareUse ?_ (Foot.le_trans (by decide +kernel) hf) _ _
    | intro y
    | split
    | lift_lets
    | with_reducible exact Kept.set_fft _ (by with_reducible assumption) (Foot.part_of_le hf (by decide +kernel : Foot.part _ .fft = true))

theorem Kept.frameDone {f : Foot} {s x : State} (h : Kept f s x) (hf : Foot.le ⟨false, [0x08, 0x09], [], [.fft]⟩ f = true) (a0 : Fin 20) (a1 : FftFrame) :
    Kept f s (State.frameDone x a0 a1) := by
  unfold Sys2Proof.Machine.State.frameDone
  repeat' first
    | with_reducible assumption
    | with_reducible refine Kept.ite ?_ ?_
    | with_reducible refine Kept.setFftSrc ?_ (Foot.le_trans (by decide +kernel) hf) _ _
    | with_reducible refine Kept.setPipe ?_ (Foot.le_trans (by decide +kernel) hf) _ _
    | (intro y; refine (fun hy : Kept f s y => ?_) ?_ <;> [clear_value y; skip])
    | intro y
    | split
    | lift_lets

theorem Kept.fftSample {f : Foot} {s x : State} (h : Kept f s x) (hf : Foot.le ⟨false, [0x08, 0x09], [], [.fft]⟩ f = true) (a0 : Nat) (a1 : OutSample) :
    Kept f s (State.fftSample x a0 a1) := by
  unfold Sys2Proof.Machine.State.fftSample
  repeat' first
    | with_reducible assumption
    | with_reducible refine Kept.ite ?_ ?_
    | with_reducible refine Kept.setFftSrc ?_ (Foot.le_trans (by decide +kernel) hf) _ _
    | with_reducible refine Kept.frameDone ?_ (Foot.le_trans (by decide +kernel) hf) _ _
    | with_reducible refine Kept.foldl _ (fun y b hy => ?_) ?_
    | split

theorem Kept.lineEnd {f : Foot} {s x : State} (h : Kept f s x) (hf : Foot.le ⟨false, [0x08, 0x09], [], [.sram, .fft]⟩ f = true) (a0 : Fin 20) (a1 : Nat) :
    Kept f s (State.lineEnd x a0 a1) := by
  unfold Sys2Proof.Machine.State.lineEnd
  repeat' first
    | with_reducible assumption
    | with_reducible refine Kept.ite ?_ ?_
    | with_reducible refine Kept.closeLine ?_ (Foot.le_trans (by decide +kernel) hf) _
    | with_reducible refine Kept.modFftSrc ?_ (Foot.le_trans (by decide +kernel) hf) _ _
    | split

theorem Kept.recEnd {f : Foot} {s x : State} (h : Kept f s x) (hf : Foot.le ⟨false, [0x08, 0x09], [], [.freeCtr, .fft]⟩ f = true) (a0 : Fin 20) (a1 : Nat) :
    Kept f s (State.recEnd x a0 a1) := by
  unfold Sys2Proof.Machine.State.recEnd
  repeat' first
    | with_reducible assumption
    | with_reducible refine Kept.ite ?_ ?_
    | with_reducible refine Kept.closeRec ?_ (Foot.le_trans (by decide +kernel) hf) _
    | with_reducible refine Kept.modFftSrc ?_ (Foot.le_trans (by decide +kernel) hf) _ _
    | split

theorem Kept.dropLost {f : Foot} {s x : State} (h : Kept f s x) (hf : Foot.le ⟨false, [0x08, 0x09, 0x0C], [], [.sram, .freeCtr, .fft, .trg, .neb]⟩ f = true) (a0 : Fin 20) (a1 : Nat) :
    Kept f s (State.dropLost x a0 a1) := by
  induction a1 generalizing x with
  | zero => exact h
  | succ n ih =>
    unfold State.dropLost
    split
    · exact ih (Kept.drainGaps (Kept.lineEnd (Kept.recEnd (Kept.put _ _ (Kept.modFftSrc h (Foot.le_trans (by decide +kernel) hf) _ _) (Foot.word_of_le hf (by first | decide +kernel | (simp only [FFT_SRC_STAT.POI_LOST, FFT_SRC_STAT.addr_win]; first | decide +kernel | (split <;> decide +kernel))))) (Foot.le_trans (by decide +kernel) hf) _ _) (Foot.le_trans (by decide +kernel) hf) _ _) (Foot.le_trans (by decide +kernel) hf) _ _)
    · exact h

theorem Kept.lineSpectrum {f : Foot} {s x : State} (h : Kept f s x) (hf : Foot.le ⟨false, [0x08, 0x09], [], [.sram, .fft]⟩ f = true) (a0 : Fin 20) (a1 : View') (a2 : Spec) :
    Kept f s (State.lineSpectrum x a0 a1 a2) := by
  unfold Sys2Proof.Machine.State.lineSpectrum
  repeat' first
    | with_reducible assumption
    | with_reducible refine Kept.ite ?_ ?_
    | with_reducible refine Kept.closeLine ?_ (Foot.le_trans (by decide +kernel) hf) _
    | with_reducible refine Kept.modFftSrc ?_ (Foot.le_trans (by decide +kernel) hf) _ _
    | split

theorem Kept.loseFrames {f : Foot} {s x : State} (h : Kept f s x) (hf : Foot.le ⟨false, [], [], [.fft]⟩ f = true) (a0 : Nat) :
    Kept f s (State.loseFrames x a0) := by
  unfold Sys2Proof.Machine.State.loseFrames
  repeat' first
    | with_reducible assumption
    | with_reducible refine Kept.modFftSrc ?_ (Foot.le_trans (by decide +kernel) hf) _ _
    | with_reducible refine Kept.foldl _ (fun y b hy => ?_) ?_

theorem Kept.zoomLost {f : Foot} {s x : State} (h : Kept f s x) (hf : Foot.le ⟨false, [0x08, 0x09], [], [.fft]⟩ f = true) :
    Kept f s (State.zoomLost x) := by
  unfold Sys2Proof.Machine.State.zoomLost
  repeat' first
    | with_reducible assumption
    | with_reducible refine Kept.ite ?_ ?_
    | with_reducible refine Kept.put _ _ ?_ (Foot.word_of_le hf (by first | decide +kernel | (simp only [FFT_SRC_STAT.POI_LOST, FFT_SRC_STAT.addr_win]; first | decide +kernel | (split <;> decide +kernel))))
    | with_reducible refine Kept.setFftSrc ?_ (Foot.le_trans (by decide +kernel) hf) _ _
    | with_reducible refine Kept.foldl _ (fun y b hy => ?_) ?_

theorem Kept.spareCarry {f : Foot} {s x : State} (h : Kept f s x) (hf : Foot.le ⟨false, [0x08, 0x09], [], [.fft]⟩ f = true) (a0 : Nat) :
    Kept f s (State.spareCarry x a0) := by
  unfold Sys2Proof.Machine.State.spareCarry
  repeat' first
    | with_reducible refine Kept.put _ _ ?_ (Foot.word_of_le hf (by first | decide +kernel | (simp only [FFT_PIPE_STAT.STANDIN, FFT_PIPE_STAT.addr_win, FFT_PIPE_STAT.SRC]; first | decide +kernel | (split <;> decide +kernel))))
    | with_reducible refine Kept.setPipe ?_ (Foot.le_trans (by decide +kernel) hf) _ _
    | intro y
    | lift_lets
    | with_reducible exact Kept.set_fft _ (by with_reducible assumption) (Foot.part_of_le hf (by decide +kernel : Foot.part _ .fft = true))

theorem Kept.takeFault {f : Foot} {s x : State} (h : Kept f s x) (hf : Foot.le ⟨false, [0x00, 0x08, 0x09, 0x15, 0x1B], [], [.fft]⟩ f = true) (a0 : Nat) :
    Kept f s (State.takeFault x a0) := by
  unfold Sys2Proof.Machine.State.takeFault
  repeat' first
    | with_reducible assumption
    | with_reducible refine Kept.zoomLost ?_ (Foot.le_trans (by decide +kernel) hf)
    | with_reducible refine Kept.bumpBy _ _ ?_ (Foot.word_of_le hf (by first | decide +kernel | (simp only [FFT_PIPE_CNT.REPLAYS, FFT_PIPE_CNT.addr_win]; first | decide +kernel | (split <;> decide +kernel))))
    | with_reducible refine Kept.setActive ?_ (Foot.le_trans (by decide +kernel) hf) _
    | with_reducible refine Kept.spareUse ?_ (Foot.le_trans (by decide +kernel) hf) _ _
    | with_reducible refine Kept.spareCarry ?_ (Foot.le_trans (by decide +kernel) hf) _
    | intro y
    | split
    | lift_lets
    | fail_if_no_progress (with_reducible refine Kept.set_fft _ ?_ (Foot.part_of_le hf (by decide +kernel : Foot.part _ .fft = true)))

theorem Kept.patternTestEvent {f : Foot} {s x : State} (h : Kept f s x) (hf : Foot.le ⟨false, [0x00, 0x08, 0x09, 0x15, 0x1B], [], [.flt, .fft]⟩ f = true) (a0 : Fin 10) (a1 : Bool) :
    Kept f s (State.patternTestEvent x a0 a1) := by
  unfold Sys2Proof.Machine.State.patternTestEvent
  repeat' first
    | with_reducible assumption
    | with_reducible refine Kept.ite ?_ ?_
    | with_reducible refine Kept.pipeFailed ?_ (Foot.le_trans (by decide +kernel) hf) _ _ _
    | with_reducible refine Kept.pipeOwn ?_ (Foot.le_trans (by decide +kernel) hf) _
    | with_reducible refine Kept.spareFree ?_ (Foot.le_trans (by decide +kernel) hf)
    | with_reducible refine Kept.checkEnd ?_ (Foot.le_trans (by decide +kernel) hf) _
    | with_reducible refine Kept.takeFault ?_ (Foot.le_trans (by decide +kernel) hf) _
    | with_reducible refine Kept.fltInfo ?_ (Foot.le_trans (by decide +kernel) hf) _ _ _ _ _
    | with_reducible refine Kept.put _ _ ?_ (Foot.word_of_le hf (by first | decide +kernel))
    | with_reducible refine Kept.setPipe ?_ (Foot.le_trans (by decide +kernel) hf) _ _
    | with_reducible refine Kept.spareCarry ?_ (Foot.le_trans (by decide +kernel) hf) _
    | with_reducible refine Kept.spareRefresh ?_ (Foot.le_trans (by decide +kernel) hf)
    | with_reducible refine Kept.pipeCondition ?_ (Foot.le_trans (by decide +kernel) hf)
    | intro y
    | split
    | lift_lets
    | dsimp only
    | with_reducible exact Kept.set_fft _ (by with_reducible assumption) (Foot.part_of_le hf (by decide +kernel : Foot.part _ .fft = true))

theorem Kept.spareCondOff {f : Foot} {s x : State} (h : Kept f s x) (hf : Foot.le ⟨false, [0x00, 0x15, 0x1B], [], []⟩ f = true) :
    Kept f s (State.spareCondOff x) := by
  unfold Sys2Proof.Machine.State.spareCondOff
  repeat' first
    | with_reducible assumption
    | with_reducible refine Kept.ite ?_ ?_
    | with_reducible refine Kept.clearActive ?_ (Foot.le_trans (by decide +kernel) hf) _

theorem Kept.spareLost {f : Foot} {s x : State} (h : Kept f s x) (hf : Foot.le ⟨false, [0x00, 0x08, 0x09, 0x15, 0x1B], [], [.fft]⟩ f = true) (a0 : Nat) :
    Kept f s (State.spareLost x a0) := by
  unfold Sys2Proof.Machine.State.spareLost
  repeat' first
    | with_reducible assumption
    | with_reducible refine Kept.ite ?_ ?_
    | with_reducible refine Kept.spareCondOff ?_ (Foot.le_trans (by decide +kernel) hf)
    | with_reducible refine Kept.spareFree ?_ (Foot.le_trans (by decide +kernel) hf)
    | with_reducible refine Kept.loseFrames ?_ (Foot.le_trans (by decide +kernel) hf) _
    | with_reducible refine Kept.pipeOwn ?_ (Foot.le_trans (by decide +kernel) hf) _

theorem Kept.pipeFailEvent {f : Foot} {s x : State} (h : Kept f s x) (hf : Foot.le ⟨false, [0x00, 0x08, 0x09, 0x15, 0x1B], [], [.flt, .fft]⟩ f = true) (a0 : Fin 10) (a1 : BitVec 4) (a2 : Word) :
    Kept f s (State.pipeFailEvent x a0 a1 a2) := by
  unfold Sys2Proof.Machine.State.pipeFailEvent
  repeat' first
    | with_reducible assumption
    | with_reducible refine Kept.ite ?_ ?_
    | with_reducible refine Kept.pipeFailed ?_ (Foot.le_trans (by decide +kernel) hf) _ _ _
    | with_reducible refine Kept.checkEnd ?_ (Foot.le_trans (by decide +kernel) hf) _
    | with_reducible refine Kept.spareRefresh ?_ (Foot.le_trans (by decide +kernel) hf)
    | with_reducible refine Kept.spareLost ?_ (Foot.le_trans (by decide +kernel) hf) _
    | with_reducible refine Kept.setActive ?_ (Foot.le_trans (by decide +kernel) hf) _
    | with_reducible refine Kept.put _ _ ?_ (Foot.word_of_le hf (by first | decide +kernel))
    | with_reducible refine Kept.takeFault ?_ (Foot.le_trans (by decide +kernel) hf) _
    | with_reducible refine Kept.spareUse ?_ (Foot.le_trans (by decide +kernel) hf) _ _
    | with_reducible refine Kept.setPipe ?_ (Foot.le_trans (by decide +kernel) hf) _ _
    | with_reducible refine Kept.zoomLost ?_ (Foot.le_trans (by decide +kernel) hf)
    | with_reducible refine Kept.loseFrames ?_ (Foot.le_trans (by decide +kernel) hf) _
    | intro y
    | lift_lets
    | fail_if_no_progress (with_reducible refine Kept.set_fft _ ?_ (Foot.part_of_le hf (by decide +kernel : Foot.part _ .fft = true)))

theorem Kept.recSpectrum {f : Foot} {s x : State} (h : Kept f s x) (hf : Foot.le ⟨false, [0x08, 0x09], [], [.freeCtr, .fft]⟩ f = true) (a0 : Fin 20) (a1 : View') (a2 : Spec) :
    Kept f s (State.recSpectrum x a0 a1 a2) := by
  unfold Sys2Proof.Machine.State.recSpectrum
  repeat' first
    | with_reducible assumption
    | with_reducible refine Kept.ite ?_ ?_
    | with_reducible refine Kept.closeRec ?_ (Foot.le_trans (by decide +kernel) hf) _
    | with_reducible refine Kept.modFftSrc ?_ (Foot.le_trans (by decide +kernel) hf) _ _
    | split

theorem Kept.traceSpectrum {f : Foot} {s x : State} (h : Kept f s x) (hf : Foot.le ⟨false, [0x08, 0x09], [], [.sram, .freeCtr, .fft]⟩ f = true) (a0 : Fin 20) (a1 : View') (a2 : Spec) (a3 : Fin 4) :
    Kept f s (State.traceSpectrum x a0 a1 a2 a3) := by
  unfold Sys2Proof.Machine.State.traceSpectrum
  repeat' first
    | with_reducible assumption
    | with_reducible refine Kept.ite ?_ ?_
    | with_reducible refine Kept.put _ _ ?_ (Foot.word_of_le hf (by first | decide +kernel | (simp only [FFT_SRC_TRC.MODE, FFT_SRC_TRC.addr_win, FFT_SRC_TRC.BLOCK, FFT_SRC_TRC.A, FFT_SRC_RANGE.FIRST_BIN, FFT_SRC_RANGE.addr_win, FFT_SRC_RANGE.NBM1, FFT_SRC_TRC.BASE, FFT_SRC_TRS.SNAP_PEND, FFT_SRC_TRS.addr_win, FFT_SRC_TRS.PUB]; first | decide +kernel | (split <;> decide +kernel))))
    | with_reducible refine Kept.setSramBytes _ ?_ (Foot.part_of_le hf (by decide +kernel : Foot.part _ .sram = true)) _
    | with_reducible refine Kept.modFftSrc ?_ (Foot.le_trans (by decide +kernel) hf) _ _
    | (intro y; refine (fun hy : Kept f s y => ?_) ?_ <;> [clear_value y; skip])
    | split
    | lift_lets
    | with_reducible exact Kept.set_freeCtr _ (by with_reducible assumption) (Foot.part_of_le hf (by decide +kernel : Foot.part _ .freeCtr = true))
    | fail_if_no_progress (with_reducible refine Kept.set_freeCtr _ ?_ (Foot.part_of_le hf (by decide +kernel : Foot.part _ .freeCtr = true)))

theorem Kept.releaseSpec {f : Foot} {s x : State} (h : Kept f s x) (hf : Foot.le ⟨false, [0x08, 0x09, 0x0A, 0x0B, 0x0C], [], [.sram, .gddr, .freeCtr, .fft, .trg, .acq, .neb, .mem, .srv]⟩ f = true) (a0 : Fin 20) (a1 : FftFrame) (a2 : Nat) (a3 : Nat) (a4 : List (Int × Int)) :
    Kept f s (State.releaseSpec x a0 a1 a2 a3 a4) := by
  unfold Sys2Proof.Machine.State.releaseSpec
  repeat' first
    | with_reducible assumption
    | with_reducible refine Kept.ite ?_ ?_
    | with_reducible refine Kept.gapOut ?_ (Foot.le_trans (by decide +kernel) hf) _ _ _ _ _
    | with_reducible refine Kept.gapCount ?_ (Foot.le_trans (by decide +kernel) hf) _
    | with_reducible refine Kept.modFftSrc ?_ (Foot.le_trans (by decide +kernel) hf) _ _
    | with_reducible refine Kept.put _ _ ?_ (Foot.word_of_le hf (by first | decide +kernel | (simp only [FFT_SRC_SEQ.SEQ, FFT_SRC_SEQ.addr_win, FFT_SRC_STAT.OVR, FFT_SRC_STAT.addr_win, FFT_SRC_STAT.THR, FFT_SRC_STAT.DSAT, FFT_SRC_STAT.CHK]; first | decide +kernel | (split <;> decide +kernel))))
    | with_reducible refine Kept.lineSpectrum ?_ (Foot.le_trans (by decide +kernel) hf) _ _ _
    | with_reducible refine Kept.recSpectrum ?_ (Foot.le_trans (by decide +kernel) hf) _ _ _
    | with_reducible refine Kept.traceSpectrum ?_ (Foot.le_trans (by decide +kernel) hf) _ _ _ _
    | with_reducible refine Kept.lineEnd ?_ (Foot.le_trans (by decide +kernel) hf) _ _
    | with_reducible refine Kept.recEnd ?_ (Foot.le_trans (by decide +kernel) hf) _ _
    | with_reducible refine Kept.fmtSpectrum ?_ (Foot.le_trans (by decide +kernel) hf) _ _ _ _
    | with_reducible refine Kept.nebSpectrum ?_ (Foot.le_trans (by decide +kernel) hf) _ _ _ _ _ _ _ _ _
    | with_reducible refine Kept.foldl _ (fun y b hy => ?_) ?_

theorem Kept.winCheck {f : Foot} {s x : State} (h : Kept f s x) (hf : Foot.le ⟨false, [], [], [.fft]⟩ f = true) (a0 : View') :
    Kept f s (State.winCheck x a0) := by
  unfold Sys2Proof.Machine.State.winCheck
  repeat' first
    | intro y
    | lift_lets
    | with_reducible exact Kept.set_fft _ (by with_reducible assumption) (Foot.part_of_le hf (by decide +kernel : Foot.part _ .fft = true))

theorem Kept.execCheckAbort {f : Foot} {s x : State} (h : Kept f s x) (hf : Foot.le ⟨false, [0x00, 0x08, 0x09, 0x15], [], [.resp, .sys, .fft]⟩ f = true) (a0 : Source) (a1 : Word) :
    ∃ t, execCheckAbort a0 a1 x = .next t ∧ Kept f s t := by
  unfold Sys2Proof.Machine.execCheckAbort
  refine ⟨_, rfl, ?_⟩
  repeat' first
    | with_reducible assumption
    | with_reducible refine Kept.writeReg ?_ (fun y b0 b1 b2 => Kept.fftRules (Kept.refl _ y) (Foot.le_trans (by decide +kernel) hf) b0 b1 b2) (Foot.word_of_le hf (by first | decide +kernel)) (Foot.word_of_le hf (by first | decide +kernel)) (Foot.word_of_le hf (by decide +kernel)) (Foot.part_of_le hf (by decide +kernel : Foot.part _ .resp = true)) (Foot.part_of_le hf (by decide +kernel : Foot.part _ .sys = true))

theorem Kept.execCheckInterval {f : Foot} {s x : State} (h : Kept f s x) (hf : Foot.le ⟨false, [0x08, 0x09], [], [.fft]⟩ f = true) :
    ∃ t, execCheckInterval x = .next t ∧ Kept f s t := by
  unfold Sys2Proof.Machine.execCheckInterval
  refine ⟨_, rfl, ?_⟩
  repeat' first
    | with_reducible assumption
    | with_reducible refine Kept.ite ?_ ?_
    | with_reducible refine Kept.checkBegin ?_ (Foot.le_trans (by decide +kernel) hf) _
    | intro y
    | split
    | lift_lets
    | with_reducible exact Kept.set_fft _ (by with_reducible assumption) (Foot.part_of_le hf (by decide +kernel : Foot.part _ .fft = true))

theorem Kept.execCheckStart {f : Foot} {s x : State} (h : Kept f s x) (hf : Foot.le ⟨false, [0x00, 0x08, 0x09, 0x15], [], [.resp, .sys, .fft]⟩ f = true) (a0 : Source) (a1 : Word) :
    ∃ t, execCheckStart a0 a1 x = .next t ∧ Kept f s t := by
  unfold Sys2Proof.Machine.execCheckStart
  refine ⟨_, rfl, ?_⟩
  repeat' first
    | with_reducible assumption
    | with_reducible refine Kept.writeReg ?_ (fun y b0 b1 b2 => Kept.fftRules (Kept.refl _ y) (Foot.le_trans (by decide +kernel) hf) b0 b1 b2) (Foot.word_of_le hf (by first | decide +kernel)) (Foot.word_of_le hf (by first | decide +kernel)) (Foot.word_of_le hf (by decide +kernel)) (Foot.part_of_le hf (by decide +kernel : Foot.part _ .resp = true)) (Foot.part_of_le hf (by decide +kernel : Foot.part _ .sys = true))

theorem Kept.execPipeReset {f : Foot} {s x : State} (h : Kept f s x) (hf : Foot.le ⟨false, [0x00, 0x08, 0x09, 0x15], [], [.resp, .sys, .fft]⟩ f = true) (a0 : Fin 10) (a1 : Source) (a2 : Word) :
    ∃ t, execPipeReset a0 a1 a2 x = .next t ∧ Kept f s t := by
  unfold Sys2Proof.Machine.execPipeReset
  refine ⟨_, rfl, ?_⟩
  repeat' first
    | with_reducible assumption
    | with_reducible refine Kept.writeReg ?_ (fun y b0 b1 b2 => Kept.fftRules (Kept.refl _ y) (Foot.le_trans (by decide +kernel) hf) b0 b1 b2) (Foot.word_of_le hf (by first | decide +kernel | (simp only [FFT_PIPE_CTRL.addr_win]; first | decide +kernel | (split <;> decide +kernel)))) (Foot.word_of_le hf (by first | decide +kernel | (simp only [FFT_PIPE_CTRL.addr_win]; first | decide +kernel | (split <;> decide +kernel)))) (Foot.word_of_le hf (by decide +kernel)) (Foot.part_of_le hf (by decide +kernel : Foot.part _ .resp = true)) (Foot.part_of_le hf (by decide +kernel : Foot.part _ .sys = true))

theorem Kept.execSpareRelease {f : Foot} {s x : State} (h : Kept f s x) (hf : Foot.le ⟨false, [0x00, 0x08, 0x09, 0x15], [], [.resp, .sys, .fft]⟩ f = true) (a0 : Source) (a1 : Word) :
    ∃ t, execSpareRelease a0 a1 x = .next t ∧ Kept f s t := by
  unfold Sys2Proof.Machine.execSpareRelease
  refine ⟨_, rfl, ?_⟩
  repeat' first
    | with_reducible assumption
    | with_reducible refine Kept.writeReg ?_ (fun y b0 b1 b2 => Kept.fftRules (Kept.refl _ y) (Foot.le_trans (by decide +kernel) hf) b0 b1 b2) (Foot.word_of_le hf (by first | decide +kernel)) (Foot.word_of_le hf (by first | decide +kernel)) (Foot.word_of_le hf (by decide +kernel)) (Foot.part_of_le hf (by decide +kernel : Foot.part _ .resp = true)) (Foot.part_of_le hf (by decide +kernel : Foot.part _ .sys = true))

theorem Kept.execSpareSwitch {f : Foot} {s x : State} (h : Kept f s x) (hf : Foot.le ⟨false, [0x00, 0x08, 0x09, 0x15, 0x1B], [], [.flt, .fft]⟩ f = true) (a0 : Bool) :
    ∃ t, execSpareSwitch a0 x = .next t ∧ Kept f s t := by
  unfold Sys2Proof.Machine.execSpareSwitch
  refine ⟨_, rfl, ?_⟩
  repeat' first
    | with_reducible assumption
    | with_reducible refine Kept.ite ?_ ?_
    | with_reducible refine Kept.setActive ?_ (Foot.le_trans (by decide +kernel) hf) _
    | with_reducible refine Kept.setPipe ?_ (Foot.le_trans (by decide +kernel) hf) _ _
    | with_reducible refine Kept.spareCarry ?_ (Foot.le_trans (by decide +kernel) hf) _
    | with_reducible refine Kept.pipeOwn ?_ (Foot.le_trans (by decide +kernel) hf) _
    | with_reducible refine Kept.spareFree ?_ (Foot.le_trans (by decide +kernel) hf)
    | with_reducible refine Kept.spareCondOff ?_ (Foot.le_trans (by decide +kernel) hf)
    | with_reducible refine Kept.put _ _ ?_ (Foot.word_of_le hf (by first | decide +kernel))
    | with_reducible refine Kept.checkEnd ?_ (Foot.le_trans (by decide +kernel) hf) _
    | with_reducible refine Kept.fltInfo ?_ (Foot.le_trans (by decide +kernel) hf) _ _ _ _ _
    | with_reducible refine Kept.foldl _ (fun y b hy => ?_) ?_
    | intro y
    | split
    | lift_lets
    | with_reducible exact Kept.set_fft _ (by with_reducible assumption) (Foot.part_of_le hf (by decide +kernel : Foot.part _ .fft = true))

theorem Kept.execSpareTakeover {f : Foot} {s x : State} (h : Kept f s x) (hf : Foot.le ⟨false, [0x00, 0x08, 0x09, 0x15], [], [.resp, .sys, .fft]⟩ f = true) (a0 : Source) (a1 : Word) :
    ∃ t, execSpareTakeover a0 a1 x = .next t ∧ Kept f s t := by
  unfold Sys2Proof.Machine.execSpareTakeover
  refine ⟨_, rfl, ?_⟩
  repeat' first
    | with_reducible assumption
    | with_reducible refine Kept.writeReg ?_ (fun y b0 b1 b2 => Kept.fftRules (Kept.refl _ y) (Foot.le_trans (by decide +kernel) hf) b0 b1 b2) (Foot.word_of_le hf (by first | decide +kernel)) (Foot.word_of_le hf (by first | decide +kernel)) (Foot.word_of_le hf (by decide +kernel)) (Foot.part_of_le hf (by decide +kernel : Foot.part _ .resp = true)) (Foot.part_of_le hf (by decide +kernel : Foot.part _ .sys = true))

theorem Kept.execSpectrumRelease {f : Foot} {s x : State} (h : Kept f s x) (hf : Foot.le ⟨false, [0x08, 0x09, 0x0A, 0x0B, 0x0C], [], [.sram, .gddr, .freeCtr, .fft, .trg, .acq, .neb, .mem, .srv]⟩ f = true) (a0 : Fin 32) (a1 : List (Int × Int)) :
    ∃ t, execSpectrumRelease a0 a1 x = .next t ∧ Kept f s t := by
  unfold Sys2Proof.Machine.execSpectrumRelease
  refine ⟨_, rfl, ?_⟩
  repeat' first
    | with_reducible assumption
    | with_reducible refine Kept.ite ?_ ?_
    | with_reducible refine Kept.drainGaps ?_ (Foot.le_trans (by decide +kernel) hf) _ _
    | with_reducible refine Kept.dropLost ?_ (Foot.le_trans (by decide +kernel) hf) _ _
    | with_reducible refine Kept.modFftSrc ?_ (Foot.le_trans (by decide +kernel) hf) _ _
    | with_reducible refine Kept.releaseSpec ?_ (Foot.le_trans (by decide +kernel) hf) _ _ _ _ _
    | (intro y; refine (fun hy : Kept f s y => ?_) ?_ <;> [clear_value y; skip])
    | split
    | lift_lets

theorem Kept.execTraceReset {f : Foot} {s x : State} (h : Kept f s x) (hf : Foot.le ⟨false, [0x00, 0x08, 0x09, 0x15], [], [.resp, .sys, .fft]⟩ f = true) (a0 : Fin 32) (a1 : Fin 4) (a2 : Source) (a3 : Word) :
    ∃ t, execTraceReset a0 a1 a2 a3 x = .next t ∧ Kept f s t := by
  unfold Sys2Proof.Machine.execTraceReset
  refine ⟨_, rfl, ?_⟩
  repeat' first
    | with_reducible assumption
    | with_reducible refine Kept.writeReg ?_ (fun y b0 b1 b2 => Kept.fftRules (Kept.refl _ y) (Foot.le_trans (by decide +kernel) hf) b0 b1 b2) (Foot.word_of_le hf (by first | decide +kernel | (simp only [FFT_SRC_TRC.addr_win]; first | decide +kernel | (split <;> decide +kernel)))) (Foot.word_of_le hf (by first | decide +kernel | (simp only [FFT_SRC_TRC.addr_win]; first | decide +kernel | (split <;> decide +kernel)))) (Foot.word_of_le hf (by decide +kernel)) (Foot.part_of_le hf (by decide +kernel : Foot.part _ .resp = true)) (Foot.part_of_le hf (by decide +kernel : Foot.part _ .sys = true))

theorem Kept.execTraceSnap {f : Foot} {s x : State} (h : Kept f s x) (hf : Foot.le ⟨false, [0x00, 0x08, 0x09, 0x15], [], [.resp, .sys, .fft]⟩ f = true) (a0 : Fin 32) (a1 : Fin 4) (a2 : Source) (a3 : Word) :
    ∃ t, execTraceSnap a0 a1 a2 a3 x = .next t ∧ Kept f s t := by
  unfold Sys2Proof.Machine.execTraceSnap
  refine ⟨_, rfl, ?_⟩
  repeat' first
    | with_reducible assumption
    | with_reducible refine Kept.writeReg ?_ (fun y b0 b1 b2 => Kept.fftRules (Kept.refl _ y) (Foot.le_trans (by decide +kernel) hf) b0 b1 b2) (Foot.word_of_le hf (by first | decide +kernel | (simp only [FFT_SRC_TRC.addr_win]; first | decide +kernel | (split <;> decide +kernel)))) (Foot.word_of_le hf (by first | decide +kernel | (simp only [FFT_SRC_TRC.addr_win]; first | decide +kernel | (split <;> decide +kernel)))) (Foot.word_of_le hf (by decide +kernel)) (Foot.part_of_le hf (by decide +kernel : Foot.part _ .resp = true)) (Foot.part_of_le hf (by decide +kernel : Foot.part _ .sys = true))

end Sys2Proof.Machine
end

