-- ==== Sys2Proof/Laws/KeptFront.lean ====
section
/-! SUPPORT. What the operations of Sys2Proof/Machine/Front.lean change. -/

set_option Elab.async false

set_option linter.all false

namespace Sys2Proof.Machine

theorem Kept.fadeDrop {f : Foot} {s x : State} (h : Kept f s x) (hf : Foot.le ⟨false, [0x06, 0x07], [], []⟩ f = true) (a0 : Fin 16) :
    Kept f s (State.fadeDrop x a0) := by
  unfold Sys2Proof.Machine.State.fadeDrop
  repeat' first
    | with_reducible assumption
    | with_reducible refine Kept.ite ?_ ?_
    | with_reducible refine Kept.put _ _ ?_ (Foot.word_of_le hf (by first | decide +kernel | (simp only [DDC_BANK.FADING, DDC_BANK.addr_win, DDC_BANK.ACTIVE]; first | decide +kernel | (split <;> decide +kernel))))

theorem Kept.ddcInvalid {f : Foot} {s x : State} (h : Kept f s x) (hf : Foot.le ⟨false, [0x06, 0x07, 0x08, 0x09, 0x0B, 0x15], [], [.gddr, .fft, .trg, .acq, .lod, .mem, .srv]⟩ f = true) (a0 : Fin 16) (a1 : Nat) :
    Kept f s (State.ddcInvalid x a0 a1) := by
  unfold Sys2Proof.Machine.State.ddcInvalid
  repeat' first
    | with_reducible assumption
    | with_reducible refine Kept.ite ?_ ?_
    | with_reducible refine Kept.tapGap ?_ (Foot.le_trans (by decide +kernel) hf) _
    | with_reducible refine Kept.put _ _ ?_ (Foot.word_of_le hf (by first | decide +kernel | (simp only [DDC_STAT.VALID, DDC_STAT.addr_win]; first | decide +kernel | (split <;> decide +kernel))))
    | with_reducible refine Kept.trgGap ?_ (Foot.le_trans (by decide +kernel) hf) _
    | with_reducible refine Kept.acqSourceGap ?_ (Foot.le_trans (by decide +kernel) hf) _ _ _
    | with_reducible refine Kept.fftSourceGap ?_ (Foot.le_trans (by decide +kernel) hf) _ _ _

theorem Kept.chanDown {f : Foot} {s x : State} (h : Kept f s x) (hf : Foot.le ⟨false, [0x05, 0x06, 0x07, 0x08, 0x09, 0x0B, 0x15], [], [.gddr, .fft, .trg, .acq, .lod, .mem, .srv]⟩ f = true) (a0 : Fin 4) (a1 : Nat) :
    Kept f s (State.chanDown x a0 a1) := by
  unfold Sys2Proof.Machine.State.chanDown
  repeat' first
    | with_reducible assumption
    | with_reducible refine Kept.ite ?_ ?_
    | with_reducible refine Kept.put _ _ ?_ (Foot.word_of_le hf (by first | decide +kernel | (simp only [DDC_CFG.SRC_CH, DDC_CFG.addr_win, DDC_STAT.SETTLING, DDC_STAT.addr_win]; first | decide +kernel | (split <;> decide +kernel))))
    | with_reducible refine Kept.trgGap ?_ (Foot.le_trans (by decide +kernel) hf) _
    | with_reducible refine Kept.acqSourceGap ?_ (Foot.le_trans (by decide +kernel) hf) _ _ _
    | with_reducible refine Kept.fftSourceGap ?_ (Foot.le_trans (by decide +kernel) hf) _ _ _
    | with_reducible refine Kept.fadeDrop ?_ (Foot.le_trans (by decide +kernel) hf) _
    | with_reducible refine Kept.ddcInvalid ?_ (Foot.le_trans (by decide +kernel) hf) _ _
    | with_reducible refine Kept.foldl _ (fun y b hy => ?_) ?_

theorem Kept.convDown {f : Foot} {s x : State} (h : Kept f s x) (hf : Foot.le ⟨false, [0x05, 0x06, 0x07, 0x08, 0x09, 0x0B, 0x15], [], [.gddr, .fcv, .fft, .trg, .acq, .lod, .mem, .srv]⟩ f = true) (a0 : Nat) (a1 : Nat) :
    Kept f s (State.convDown x a0 a1) := by
  unfold Sys2Proof.Machine.State.convDown
  repeat' first
    | with_reducible assumption
    | with_reducible refine Kept.ite ?_ ?_
    | with_reducible refine Kept.chanDown ?_ (Foot.le_trans (by decide +kernel) hf) _ _
    | with_reducible refine Kept.put _ _ ?_ (Foot.word_of_le hf (by first | decide +kernel))
    | with_reducible refine Kept.foldl _ (fun y b hy => ?_) ?_
    | intro y
    | split
    | lift_lets
    | with_reducible exact Kept.set_fcv _ (by with_reducible assumption) (Foot.part_of_le hf (by decide +kernel : Foot.part _ .fcv = true))

theorem Kept.ddcReset {f : Foot} {s x : State} (h : Kept f s x) (hf : Foot.le ⟨false, [0x06, 0x07, 0x08, 0x09, 0x0B, 0x15], [], [.gddr, .ddc, .fft, .trg, .acq, .lod, .mem, .srv]⟩ f = true) (a0 : Fin 16) (a1 : Nat) (a2 : Option Stamp) :
    Kept f s (State.ddcReset x a0 a1 a2) := by
  unfold Sys2Proof.Machine.State.ddcReset
  repeat' first
    | with_reducible assumption
    | with_reducible refine Kept.fadeDrop ?_ (Foot.le_trans (by decide +kernel) hf) _
    | with_reducible refine Kept.ddcInvalid ?_ (Foot.le_trans (by decide +kernel) hf) _ _
    | with_reducible refine Kept.bump _ ?_ (Foot.word_of_le hf (by first | decide +kernel | (simp only [DDC_STAT.SET, DDC_STAT.addr_win, DDC_CNT.RESET_COUNT, DDC_CNT.addr_win, DDC_STAT.SETTLING, DDC_CFG.SRC_CH, DDC_CFG.addr_win]; first | decide +kernel | (split <;> decide +kernel))))
    | with_reducible refine Kept.put _ _ ?_ (Foot.word_of_le hf (by first | decide +kernel | (simp only [DDC_STAT.SET, DDC_STAT.addr_win, DDC_CNT.RESET_COUNT, DDC_CNT.addr_win, DDC_STAT.SETTLING, DDC_CFG.SRC_CH, DDC_CFG.addr_win]; first | decide +kernel | (split <;> decide +kernel))))
    | with_reducible refine Kept.putB _ _ ?_ (Foot.word_of_le hf (by first | decide +kernel | (simp only [DDC_STAT.SET, DDC_STAT.addr_win, DDC_CNT.RESET_COUNT, DDC_CNT.addr_win, DDC_STAT.SETTLING, DDC_CFG.SRC_CH, DDC_CFG.addr_win]; first | decide +kernel | (split <;> decide +kernel))))
    | intro y
    | lift_lets
    | fail_if_no_progress (with_reducible refine Kept.set_ddc _ ?_ (Foot.part_of_le hf (by decide +kernel : Foot.part _ .ddc = true)))

theorem Kept.ddcResetSet {f : Foot} {s x : State} (h : Kept f s x) (hf : Foot.le ⟨false, [0x06, 0x07, 0x08, 0x09, 0x0B, 0x15], [], [.gddr, .ddc, .fft, .trg, .acq, .lod, .mem, .srv]⟩ f = true) (a0 : List (Fin 16)) (a1 : Stamp) :
    Kept f s (State.ddcResetSet x a0 a1) := by
  unfold Sys2Proof.Machine.State.ddcResetSet
  repeat' first
    | with_reducible assumption
    | with_reducible refine Kept.ddcReset ?_ (Foot.le_trans (by decide +kernel) hf) _ _ _
    | with_reducible refine Kept.put _ _ ?_ (Foot.word_of_le hf (by first | decide +kernel | (simp only [DDC_CFG.DEC, DDC_CFG.addr_win]; first | decide +kernel | (split <;> decide +kernel))))
    | with_reducible refine Kept.foldl _ (fun y b hy => ?_) ?_

theorem Kept.ddcSyncFire {f : Foot} {s x : State} (h : Kept f s x) (hf : Foot.le ⟨false, [0x06, 0x07, 0x08, 0x09, 0x0B, 0x15], [], [.gddr, .ddc, .fft, .trg, .acq, .lod, .mem, .srv]⟩ f = true) (a0 : Stamp) :
    Kept f s (State.ddcSyncFire x a0) := by
  unfold Sys2Proof.Machine.State.ddcSyncFire
  repeat' first
    | with_reducible assumption
    | with_reducible refine Kept.ite ?_ ?_
    | with_reducible refine Kept.put _ _ ?_ (Foot.word_of_le hf (by first | decide +kernel))
    | with_reducible refine Kept.ddcResetSet ?_ (Foot.le_trans (by decide +kernel) hf) _ _
    | (intro y; refine (fun hy : Kept f s y => ?_) ?_ <;> [clear_value y; skip])
    | intro y
    | lift_lets
    | with_reducible exact Kept.set_ddc _ (by with_reducible assumption) (Foot.part_of_le hf (by decide +kernel : Foot.part _ .ddc = true))

theorem Kept.ddcApply {f : Foot} {s x : State} (h : Kept f s x) (hf : Foot.le ⟨false, [0x06, 0x07, 0x08, 0x09, 0x0B, 0x15], [], [.gddr, .ddc, .fft, .trg, .acq, .lod, .mem, .srv]⟩ f = true) (a0 : State) (a1 : Bool) :
    Kept f s (State.ddcApply x a0 a1) := by
  unfold Sys2Proof.Machine.State.ddcApply
  repeat' first
    | with_reducible assumption
    | with_reducible refine Kept.ite ?_ ?_
    | with_reducible refine Kept.put _ _ ?_ (Foot.word_of_le hf (by first | decide +kernel | (simp only [DDC_CFG.EN, DDC_CFG.addr_win, DDC_STAT.SETTLING, DDC_STAT.addr_win]; first | decide +kernel | (split <;> decide +kernel))))
    | with_reducible refine Kept.fadeDrop ?_ (Foot.le_trans (by decide +kernel) hf) _
    | with_reducible refine Kept.ddcInvalid ?_ (Foot.le_trans (by decide +kernel) hf) _ _
    | with_reducible refine Kept.ddcSyncFire ?_ (Foot.le_trans (by decide +kernel) hf) _
    | with_reducible refine Kept.ddcResetSet ?_ (Foot.le_trans (by decide +kernel) hf) _ _
    | with_reducible refine Kept.foldl _ (fun y b hy => ?_) ?_

theorem Kept.chanUp {f : Foot} {s x : State} (h : Kept f s x) (hf : Foot.le ⟨false, [0x05, 0x06, 0x07, 0x08, 0x09, 0x0B, 0x0C, 0x15, 0x1B], [], [.sram, .gddr, .freeCtr, .flt, .fcv, .ddc, .fft, .trg, .acq, .neb, .lod, .mem, .srv]⟩ f = true) (a0 : Fin 4) (a1 : Stamp) :
    Kept f s (State.chanUp x a0 a1) := by
  unfold Sys2Proof.Machine.State.chanUp
  repeat' first
    | with_reducible assumption
    | with_reducible refine Kept.ite ?_ ?_
    | with_reducible refine Kept.drawFree ?_ (Foot.le_trans (by decide +kernel) hf)
    | with_reducible refine Kept.fltInfo ?_ (Foot.le_trans (by decide +kernel) hf) _ _ _ _ _
    | with_reducible refine Kept.put _ _ ?_ (Foot.word_of_le hf (by first | decide +kernel | (simp only [DDC_CFG.SRC_CH, DDC_CFG.addr_win, DDC_STAT.LOCAL_RESET, DDC_STAT.addr_win]; first | decide +kernel | (split <;> decide +kernel))))
    | with_reducible refine Kept.acqSourceStart ?_ (Foot.le_trans (by decide +kernel) hf) _ _
    | with_reducible refine Kept.fftSourceStart ?_ (Foot.le_trans (by decide +kernel) hf) _ _
    | with_reducible refine Kept.ddcReset ?_ (Foot.le_trans (by decide +kernel) hf) _ _ _
    | with_reducible refine Kept.foldl _ (fun y b hy => ?_) ?_
    | intro y
    | split
    | lift_lets
    | with_reducible exact Kept.set_fcv _ (by with_reducible assumption) (Foot.part_of_le hf (by decide +kernel : Foot.part _ .fcv = true))
    | fail_if_no_progress (with_reducible refine Kept.set_fcv _ ?_ (Foot.part_of_le hf (by decide +kernel : Foot.part _ .fcv = true)))

theorem Kept.fcvApply {f : Foot} {s x : State} (h : Kept f s x) (hf : Foot.le ⟨false, [0x05, 0x06, 0x07, 0x08, 0x09, 0x0B, 0x0C, 0x15, 0x1B], [], [.sram, .gddr, .freeCtr, .flt, .fcv, .ddc, .fft, .trg, .acq, .neb, .lod, .mem, .srv]⟩ f = true) (a0 : State) :
    Kept f s (State.fcvApply x a0) := by
  unfold Sys2Proof.Machine.State.fcvApply
  repeat' first
    | with_reducible assumption
    | with_reducible refine Kept.ite ?_ ?_
    | with_reducible refine Kept.chanDown ?_ (Foot.le_trans (by decide +kernel) hf) _ _
    | with_reducible refine Kept.chanUp ?_ (Foot.le_trans (by decide +kernel) hf) _ _
    | with_reducible refine Kept.foldl _ (fun y b hy => ?_) ?_

theorem Kept.fcvRules {f : Foot} {s x : State} (h : Kept f s x) (hf : Foot.le ⟨false, [0x05], [], [.fcv]⟩ f = true) (b0 : Source) (b1 : Nat) (b2 : Word) :
    Kept.res f s (fcvRules.act b0 b1 b2 x) := by
  unfold Sys2Proof.Machine.fcvRules
  repeat' first
    | with_reducible assumption
    | with_reducible refine Kept.res_ite ?_ ?_
    | with_reducible refine Kept.res_ok ?_
    | with_reducible refine Kept.put _ _ ?_ (Foot.word_of_le hf (by first | decide +kernel | (simp only [FCV_DCB.addr_win, FCV_DC_EST_I.EST, FCV_DC_EST_I.addr_win, FCV_DC_EST_Q.EST, FCV_DC_EST_Q.addr_win]; first | decide +kernel | (split <;> decide +kernel))))
    | split
    | lift_lets
    | dsimp only
    | with_reducible exact Kept.set_fcv _ (by with_reducible assumption) (Foot.part_of_le hf (by decide +kernel : Foot.part _ .fcv = true))

theorem Kept.ddcSyncWrite {f : Foot} {s x : State} (h : Kept f s x) (hf : Foot.le ⟨false, [0x06, 0x07], [], [.ddc]⟩ f = true) (a0 : Word) :
    Kept.res f s (State.ddcSyncWrite x a0) := by
  unfold Sys2Proof.Machine.State.ddcSyncWrite
  repeat' first
    | with_reducible assumption
    | with_reducible refine Kept.ite ?_ ?_
    | with_reducible refine Kept.res_ite ?_ ?_
    | with_reducible refine Kept.res_ok ?_
    | with_reducible exact Kept.res_error _ _ _
    | with_reducible refine Kept.put _ _ ?_ (Foot.word_of_le hf (by first | decide +kernel))
    | intro y
    | lift_lets
    | with_reducible exact Kept.set_ddc _ (by with_reducible assumption) (Foot.part_of_le hf (by decide +kernel : Foot.part _ .ddc = true))

theorem Kept.ddcSwap {f : Foot} {s x : State} (h : Kept f s x) (hf : Foot.le ⟨false, [0x06, 0x07], [], [.ddc]⟩ f = true) (a0 : Fin 16) :
    Kept f s (State.ddcSwap x a0) := by
  unfold Sys2Proof.Machine.State.ddcSwap
  repeat' first
    | with_reducible assumption
    | with_reducible refine Kept.ite ?_ ?_
    | with_reducible refine Kept.put _ _ ?_ (Foot.word_of_le hf (by first | decide +kernel | (simp only [DDC_STAT.VALID, DDC_STAT.addr_win, DDC_BANK.FADE_LEN, DDC_BANK.addr_win, DDC_BANK.FADING, DDC_BANK.ACTIVE]; first | decide +kernel | (split <;> decide +kernel))))
    | intro y
    | lift_lets
    | with_reducible exact Kept.set_ddc _ (by with_reducible assumption) (Foot.part_of_le hf (by decide +kernel : Foot.part _ .ddc = true))

theorem Kept.ddcRules {f : Foot} {s x : State} (h : Kept f s x) (hf : Foot.le ⟨false, [0x06, 0x07], [], [.ddc]⟩ f = true) (b0 : Source) (b1 : Nat) (b2 : Word) :
    Kept.res f s (ddcRules.act b0 b1 b2 x) := by
  unfold Sys2Proof.Machine.ddcRules
  repeat' first
    | with_reducible assumption
    | with_reducible refine Kept.ite ?_ ?_
    | with_reducible refine Kept.res_ite ?_ ?_
    | with_reducible refine Kept.res_ok ?_
    | with_reducible refine Kept.ddcSyncWrite ?_ (Foot.le_trans (by decide +kernel) hf) _
    | with_reducible refine Kept.ddcSwap ?_ (Foot.le_trans (by decide +kernel) hf) _
    | with_reducible refine Kept.put _ _ ?_ (Foot.word_of_le hf (by first | decide +kernel | (simp only [DDC_BANK.addr_win, DDC_BANK.FADING, DDC_DCB.addr_win, DDC_DC_EST_I.EST, DDC_DC_EST_I.addr_win, DDC_DC_EST_Q.EST, DDC_DC_EST_Q.addr_win]; first | decide +kernel | (split <;> decide +kernel))))
    | intro y
    | split
    | lift_lets
    | with_reducible exact Kept.set_ddc _ (by with_reducible assumption) (Foot.part_of_le hf (by decide +kernel : Foot.part _ .ddc = true))

theorem Kept.convOvr {f : Foot} {s x : State} (h : Kept f s x) (hf : Foot.le ⟨false, [0x04], [], [.lnk]⟩ f = true) (a0 : Nat) (a1 : Bool) :
    Kept f s (State.convOvr x a0 a1) := by
  unfold Sys2Proof.Machine.State.convOvr
  repeat' first
    | with_reducible assumption
    | with_reducible refine Kept.put _ _ ?_ (Foot.word_of_le hf (by first | decide +kernel | (simp only [LNK_CONV_STAT.OVR, LNK_CONV_STAT.addr_win, LNK_CONV_CNT.OVR_COUNT, LNK_CONV_CNT.addr_win]; first | decide +kernel | (split <;> decide +kernel))))
    | with_reducible refine Kept.bump _ ?_ (Foot.word_of_le hf (by first | decide +kernel | (simp only [LNK_CONV_STAT.OVR, LNK_CONV_STAT.addr_win, LNK_CONV_CNT.OVR_COUNT, LNK_CONV_CNT.addr_win]; first | decide +kernel | (split <;> decide +kernel))))
    | (intro y; refine (fun hy : Kept f s y => ?_) ?_ <;> [clear_value y; skip])
    | intro y
    | split
    | lift_lets
    | with_reducible exact Kept.set_lnk _ (by with_reducible assumption) (Foot.part_of_le hf (by decide +kernel : Foot.part _ .lnk = true))

theorem Kept.iqPair {f : Foot} {s x : State} (h : Kept f s x) (hf : Foot.le ⟨false, [0x05, 0x06, 0x07, 0x08, 0x09, 0x0B, 0x0C, 0x15, 0x1B], [], [.sram, .gddr, .freeCtr, .flt, .fcv, .ddc, .fft, .trg, .acq, .neb, .lod, .mem, .srv]⟩ f = true) (a0 : Stamp) (a1 : Stamp) :
    Kept f s (State.iqPair x a0 a1) := by
  unfold Sys2Proof.Machine.State.iqPair
  repeat' first
    | with_reducible assumption
    | with_reducible refine Kept.ite ?_ ?_
    | with_reducible refine Kept.roundOpen ?_ (Foot.le_trans (by decide +kernel) hf) _ _
    | with_reducible refine Kept.put _ _ ?_ (Foot.word_of_le hf (by first | decide +kernel))
    | with_reducible refine Kept.chanUp ?_ (Foot.le_trans (by decide +kernel) hf) _ _
    | with_reducible refine Kept.fltInfo ?_ (Foot.le_trans (by decide +kernel) hf) _ _ _ _ _

theorem Kept.convUp {f : Foot} {s x : State} (h : Kept f s x) (hf : Foot.le ⟨false, [0x05, 0x06, 0x07, 0x08, 0x09, 0x0B, 0x0C, 0x15, 0x1B], [], [.sram, .gddr, .freeCtr, .flt, .fcv, .ddc, .fft, .trg, .acq, .neb, .lod, .mem, .srv]⟩ f = true) (a0 : Fin 4) (a1 : Stamp) :
    Kept f s (State.convUp x a0 a1) := by
  unfold Sys2Proof.Machine.State.convUp
  repeat' first
    | with_reducible assumption
    | with_reducible refine Kept.ite ?_ ?_
    | with_reducible refine Kept.iqPair ?_ (Foot.le_trans (by decide +kernel) hf) _ _
    | with_reducible refine Kept.chanUp ?_ (Foot.le_trans (by decide +kernel) hf) _ _
    | with_reducible refine Kept.foldl _ (fun y b hy => ?_) ?_
    | intro y
    | split
    | lift_lets
    | with_reducible exact Kept.set_fcv _ (by with_reducible assumption) (Foot.part_of_le hf (by decide +kernel : Foot.part _ .fcv = true))

theorem Kept.ddcOutput {f : Foot} {s x : State} (h : Kept f s x) (hf : Foot.le ⟨false, [0x06, 0x07, 0x08, 0x09, 0x0A, 0x0B, 0x15], [], [.gddr, .freeCtr, .ddc, .fft, .trg, .acq, .lod, .mem]⟩ f = true) (a0 : Fin 16) (a1 : Stamp) :
    Kept f s (State.ddcOutput x a0 a1) := by
  unfold Sys2Proof.Machine.State.ddcOutput
  extract_lets c d ff s1 fi fq fsat en vi vq g yi yq own span ovr thr dsat hold gk ei eq t valid fading s2 c'
  clear_value c d ff fi fq fsat en vi vq g yi yq own span ovr thr dsat hold gk ei eq t valid fading c'
  rename_i src s3 s4 s5 s6 s7 y s8 s9 s10
  have h1 : Kept f s s1 := Kept.drawFree h (Foot.le_trans (by decide +kernel) hf)
  have h2 : Kept f s s2 := Kept.ite (Kept.put _ _ h1 (Foot.word_of_le hf (by first | decide +kernel | (simp only [DDC_CFG.DEC, DDC_CFG.addr_win, DDC_DCB.EN, DDC_DCB.addr_win, DDC_GAIN.GAIN, DDC_GAIN.addr_win, DDC_GAIN.SHIFT, DDC_DCB.FREEZE, DDC_DCB.AUTO_FRZ, DDC_DCB.K, DDC_STAT.VALID, DDC_STAT.addr_win, DDC_BANK.FADING, DDC_BANK.addr_win, DDC_BANK.ACTIVE, DDC_DC_EST_I.EST, DDC_DC_EST_I.addr_win, DDC_DC_EST_Q.EST, DDC_DC_EST_Q.addr_win, DDC_STAT.OVR, DDC_STAT.DSAT, DDC_CNT.DSAT_COUNT, DDC_CNT.addr_win, DDC_CFG.DEST]; first | decide +kernel | (split <;> decide +kernel))))) h1
  have h3 : Kept f s s3 := Kept.set_ddc _ h2 (Foot.part_of_le hf (by decide +kernel : Foot.part _ .ddc = true))
  clear_value s3
  have h4 : Kept f s s4 := Kept.put _ _ (Kept.put _ _ h3 (Foot.word_of_le hf (by first | decide +kernel | (simp only [DDC_CFG.DEC, DDC_CFG.addr_win, DDC_DCB.EN, DDC_DCB.addr_win, DDC_GAIN.GAIN, DDC_GAIN.addr_win, DDC_GAIN.SHIFT, DDC_DCB.FREEZE, DDC_DCB.AUTO_FRZ, DDC_DCB.K, DDC_STAT.VALID, DDC_STAT.addr_win, DDC_BANK.FADING, DDC_BANK.addr_win, DDC_BANK.ACTIVE, DDC_DC_EST_I.EST, DDC_DC_EST_I.addr_win, DDC_DC_EST_Q.EST, DDC_DC_EST_Q.addr_win, DDC_STAT.OVR, DDC_STAT.DSAT, DDC_CNT.DSAT_COUNT, DDC_CNT.addr_win, DDC_CFG.DEST]; first | decide +kernel | (split <;> decide +kernel))))) (Foot.word_of_le hf (by first | decide +kernel | (simp only [DDC_CFG.DEC, DDC_CFG.addr_win, DDC_DCB.EN, DDC_DCB.addr_win, DDC_GAIN.GAIN, DDC_GAIN.addr_win, DDC_GAIN.SHIFT, DDC_DCB.FREEZE, DDC_DCB.AUTO_FRZ, DDC_DCB.K, DDC_STAT.VALID, DDC_STAT.addr_win, DDC_BANK.FADING, DDC_BANK.addr_win, DDC_BANK.ACTIVE, DDC_DC_EST_I.EST, DDC_DC_EST_I.addr_win, DDC_DC_EST_Q.EST, DDC_DC_EST_Q.addr_win, DDC_STAT.OVR, DDC_STAT.DSAT, DDC_CNT.DSAT_COUNT, DDC_CNT.addr_win, DDC_CFG.DEST]; first | decide +kernel | (split <;> decide +kernel))))
  clear_value s4
  have h5 : Kept f s s5 := Kept.ite (Kept.put _ _ h4 (Foot.word_of_le hf (by first | decide +kernel | (simp only [DDC_CFG.DEC, DDC_CFG.addr_win, DDC_DCB.EN, DDC_DCB.addr_win, DDC_GAIN.GAIN, DDC_GAIN.addr_win, DDC_GAIN.SHIFT, DDC_DCB.FREEZE, DDC_DCB.AUTO_FRZ, DDC_DCB.K, DDC_STAT.VALID, DDC_STAT.addr_win, DDC_BANK.FADING, DDC_BANK.addr_win, DDC_BANK.ACTIVE, DDC_DC_EST_I.EST, DDC_DC_EST_I.addr_win, DDC_DC_EST_Q.EST, DDC_DC_EST_Q.addr_win, DDC_STAT.OVR, DDC_STAT.DSAT, DDC_CNT.DSAT_COUNT, DDC_CNT.addr_win, DDC_CFG.DEST]; first | decide +kernel | (split <;> decide +kernel))))) h4
  clear_value s5
  have h6 : Kept f s s6 := Kept.ite (Kept.put _ _ h5 (Foot.word_of_le hf (by first | decide +kernel | (simp only [DDC_CFG.DEC, DDC_CFG.addr_win, DDC_DCB.EN, DDC_DCB.addr_win, DDC_GAIN.GAIN, DDC_GAIN.addr_win, DDC_GAIN.SHIFT, DDC_DCB.FREEZE, DDC_DCB.AUTO_FRZ, DDC_DCB.K, DDC_STAT.VALID, DDC_STAT.addr_win, DDC_BANK.FADING, DDC_BANK.addr_win, DDC_BANK.ACTIVE, DDC_DC_EST_I.EST, DDC_DC_EST_I.addr_win, DDC_DC_EST_Q.EST, DDC_DC_EST_Q.addr_win, DDC_STAT.OVR, DDC_STAT.DSAT, DDC_CNT.DSAT_COUNT, DDC_CNT.addr_win, DDC_CFG.DEST]; first | decide +kernel | (split <;> decide +kernel))))) h5
  clear_value s6
  have h7 : Kept f s s7 := Kept.ite (Kept.bump _ h6 (Foot.word_of_le hf (by first | decide +kernel | (simp only [DDC_CFG.DEC, DDC_CFG.addr_win, DDC_DCB.EN, DDC_DCB.addr_win, DDC_GAIN.GAIN, DDC_GAIN.addr_win, DDC_GAIN.SHIFT, DDC_DCB.FREEZE, DDC_DCB.AUTO_FRZ, DDC_DCB.K, DDC_STAT.VALID, DDC_STAT.addr_win, DDC_BANK.FADING, DDC_BANK.addr_win, DDC_BANK.ACTIVE, DDC_DC_EST_I.EST, DDC_DC_EST_I.addr_win, DDC_DC_EST_Q.EST, DDC_DC_EST_Q.addr_win, DDC_STAT.OVR, DDC_STAT.DSAT, DDC_CNT.DSAT_COUNT, DDC_CNT.addr_win, DDC_CFG.DEST]; first | decide +kernel | (split <;> decide +kernel))))) h6
  clear_value s7 y
  have h8 : Kept f s s8 := Kept.trgSample h7 (Foot.le_trans (by decide +kernel) hf) _ _
  clear_value s8
  have h9 : Kept f s s9 := Kept.ite (Kept.tapCross h8 (Foot.le_trans (by decide +kernel) hf) _ _ _) h8
  clear_value s9
  have h10 : Kept f s s10 := Kept.ite (Kept.acqSample h9 (Foot.le_trans (by decide +kernel) hf) _ _) h9
  clear_value s10
  exact Kept.ite (Kept.ite (Kept.fftSample h10 (Foot.le_trans (by decide +kernel) hf) _ _) h10) h4

theorem Kept.ddcReleaseOne {f : Foot} {s x : State} (h : Kept f s x) (hf : Foot.le ⟨false, [0x06, 0x07, 0x08, 0x09, 0x0B, 0x0C, 0x15], [], [.sram, .gddr, .freeCtr, .fft, .trg, .acq, .neb]⟩ f = true) (a0 : Stamp) (a1 : Fin 16) :
    Kept f s (State.ddcReleaseOne x a0 a1) := by
  unfold Sys2Proof.Machine.State.ddcReleaseOne
  repeat' first
    | with_reducible assumption
    | with_reducible refine Kept.ite ?_ ?_
    | with_reducible refine Kept.put _ _ ?_ (Foot.word_of_le hf (by first | decide +kernel | (simp only [DDC_CFG.DEC, DDC_CFG.addr_win, DDC_STAT.SETTLING, DDC_STAT.addr_win, DDC_STAT.VALID]; first | decide +kernel | (split <;> decide +kernel))))
    | with_reducible refine Kept.acqSourceStart ?_ (Foot.le_trans (by decide +kernel) hf) _ _
    | with_reducible refine Kept.fftSourceStart ?_ (Foot.le_trans (by decide +kernel) hf) _ _

theorem Kept.ddcSample {f : Foot} {s x : State} (h : Kept f s x) (hf : Foot.le ⟨false, [0x06, 0x07, 0x08, 0x09, 0x0A, 0x0B, 0x15], [], [.gddr, .freeCtr, .ddc, .fft, .trg, .acq, .lod, .mem]⟩ f = true) (a0 : Fin 16) (a1 : OutSample) :
    Kept f s (State.ddcSample x a0 a1) := by
  unfold Sys2Proof.Machine.State.ddcSample
  repeat' first
    | with_reducible refine Kept.ite ?_ ?_
    | with_reducible refine Kept.ddcOutput ?_ (Foot.le_trans (by decide +kernel) hf) _ _
    | intro y
    | split
    | lift_lets
    | dsimp only
    | with_reducible exact Kept.set_ddc _ (by with_reducible assumption) (Foot.part_of_le hf (by decide +kernel : Foot.part _ .ddc = true))

theorem Kept.distribute {f : Foot} {s x : State} (h : Kept f s x) (hf : Foot.le ⟨false, [0x06, 0x07, 0x08, 0x09, 0x0A, 0x0B, 0x15], [], [.gddr, .freeCtr, .fcv, .ddc, .fft, .trg, .acq, .lod, .mem]⟩ f = true) (a0 : Fin 4) (a1 : OutSample) :
    Kept f s (State.distribute x a0 a1) := by
  unfold Sys2Proof.Machine.State.distribute
  repeat' first
    | with_reducible assumption
    | with_reducible refine Kept.ite ?_ ?_
    | with_reducible refine Kept.trgOvr ?_ (Foot.le_trans (by decide +kernel) hf) _ _
    | with_reducible refine Kept.trgSample ?_ (Foot.le_trans (by decide +kernel) hf) _ _
    | with_reducible refine Kept.fftSample ?_ (Foot.le_trans (by decide +kernel) hf) _ _
    | with_reducible refine Kept.acqSample ?_ (Foot.le_trans (by decide +kernel) hf) _ _
    | with_reducible refine Kept.ddcSample ?_ (Foot.le_trans (by decide +kernel) hf) _ _
    | with_reducible refine Kept.foldl _ (fun y b hy => ?_) ?_
    | intro y
    | lift_lets
    | fail_if_no_progress (with_reducible refine Kept.set_fcv _ ?_ (Foot.part_of_le hf (by decide +kernel : Foot.part _ .fcv = true)))

theorem Kept.fcvDc {f : Foot} {s x : State} (h : Kept f s x) (hf : Foot.le ⟨false, [0x05], [], [.fcv]⟩ f = true) (a0 : Fin 4) (a1 : List Sample) :
    Kept f s (State.fcvDc x a0 a1) := by
  unfold Sys2Proof.Machine.State.fcvDc
  repeat' first
    | with_reducible assumption
    | with_reducible refine Kept.ite ?_ ?_
    | with_reducible refine Kept.put _ _ ?_ (Foot.word_of_le hf (by first | decide +kernel | (simp only [FCV_DCB.EN, FCV_DCB.addr_win, FCV_DCB.FREEZE, FCV_DCB.AUTO_FRZ, FCV_DCB.K, FCV_DC_EST_I.EST, FCV_DC_EST_I.addr_win, FCV_DC_EST_Q.EST, FCV_DC_EST_Q.addr_win]; first | decide +kernel | (split <;> decide +kernel))))
    | intro y
    | lift_lets
    | with_reducible exact Kept.set_fcv _ (by with_reducible assumption) (Foot.part_of_le hf (by decide +kernel : Foot.part _ .fcv = true))

theorem Kept.fcvSample {f : Foot} {s x : State} (h : Kept f s x) (hf : Foot.le ⟨false, [0x05], [], [.freeCtr]⟩ f = true) (a0 : Fin 4) (a1 : Sample) :
    Kept f s (State.fcvSample x a0 a1).2 := by
  unfold Sys2Proof.Machine.State.fcvSample
  repeat' first
    | with_reducible assumption
    | with_reducible refine Kept.ite ?_ ?_
    | with_reducible refine Kept.roundOpen ?_ (Foot.le_trans (by decide +kernel) hf) _ _
    | with_reducible refine Kept.bump _ ?_ (Foot.word_of_le hf (by first | decide +kernel | (simp only [FCV_CHAN.SPEC_INV, FCV_CHAN.addr_win, FCV_DCB.EN, FCV_DCB.addr_win, FCV_CH_CNT.DSAT_COUNT, FCV_CH_CNT.addr_win]; first | decide +kernel | (split <;> decide +kernel))))
    | with_reducible refine Kept.put _ _ ?_ (Foot.word_of_le hf (by first | decide +kernel | (simp only [FCV_CHAN.SPEC_INV, FCV_CHAN.addr_win, FCV_DCB.EN, FCV_DCB.addr_win, FCV_CH_CNT.DSAT_COUNT, FCV_CH_CNT.addr_win]; first | decide +kernel | (split <;> decide +kernel))))
    | split

theorem Kept.execDcbClr {f : Foot} {s x : State} (h : Kept f s x) (hf : Foot.le ⟨false, [0x00, 0x05, 0x06, 0x07], [], [.resp, .sys, .fcv, .ddc]⟩ f = true) (a0 : Fin 20) (a1 : Source) (a2 : Word) :
    ∃ t, execDcbClr a0 a1 a2 x = .next t ∧ Kept f s t := by
  unfold Sys2Proof.Machine.execDcbClr
  refine ⟨_, rfl, ?_⟩
  repeat' first
    | with_reducible assumption
    | with_reducible refine Kept.ite ?_ ?_
    | with_reducible refine Kept.writeReg ?_ (fun y b0 b1 b2 => Kept.fcvRules (Kept.refl _ y) (Foot.le_trans (by decide +kernel) hf) b0 b1 b2) (Foot.word_of_le hf (by first | decide +kernel | (simp only [FCV_DCB.addr_win, DDC_DCB.addr_win]; first | decide +kernel | (split <;> decide +kernel)))) (Foot.word_of_le hf (by first | decide +kernel | (simp only [FCV_DCB.addr_win, DDC_DCB.addr_win]; first | decide +kernel | (split <;> decide +kernel)))) (Foot.word_of_le hf (by decide +kernel)) (Foot.part_of_le hf (by decide +kernel : Foot.part _ .resp = true)) (Foot.part_of_le hf (by decide +kernel : Foot.part _ .sys = true))
    | with_reducible refine Kept.writeReg ?_ (fun y b0 b1 b2 => Kept.ddcRules (Kept.refl _ y) (Foot.le_trans (by decide +kernel) hf) b0 b1 b2) (Foot.word_of_le hf (by first | decide +kernel | (simp only [FCV_DCB.addr_win, DDC_DCB.addr_win]; first | decide +kernel | (split <;> decide +kernel)))) (Foot.word_of_le hf (by first | decide +kernel | (simp only [FCV_DCB.addr_win, DDC_DCB.addr_win]; first | decide +kernel | (split <;> decide +kernel)))) (Foot.word_of_le hf (by decide +kernel)) (Foot.part_of_le hf (by decide +kernel : Foot.part _ .resp = true)) (Foot.part_of_le hf (by decide +kernel : Foot.part _ .sys = true))

theorem Kept.execDdcRelease {f : Foot} {s x : State} (h : Kept f s x) (hf : Foot.le ⟨false, [0x06, 0x07, 0x08, 0x09, 0x0B, 0x0C, 0x15], [], [.sram, .gddr, .freeCtr, .ddc, .fft, .trg, .acq, .neb]⟩ f = true) (a0 : Stamp) :
    ∃ t, execDdcRelease a0 x = .next t ∧ Kept f s t := by
  unfold Sys2Proof.Machine.execDdcRelease
  refine ⟨_, rfl, ?_⟩
  repeat' first
    | with_reducible assumption
    | with_reducible refine Kept.ite ?_ ?_
    | with_reducible refine Kept.ddcReleaseOne ?_ (Foot.le_trans (by decide +kernel) hf) _ _
    | with_reducible refine Kept.put _ _ ?_ (Foot.word_of_le hf (by first | decide +kernel | (simp only [DDC_STAT.SETTLING, DDC_STAT.addr_win, DDC_STAT.SET]; first | decide +kernel | (split <;> decide +kernel))))
    | with_reducible refine Kept.foldl _ (fun y b hy => ?_) ?_
    | (intro y; refine (fun hy : Kept f s y => ?_) ?_ <;> [clear_value y; skip])
    | intro y
    | split
    | lift_lets
    | with_reducible exact Kept.set_ddc _ (by with_reducible assumption) (Foot.part_of_le hf (by decide +kernel : Foot.part _ .ddc = true))

theorem Kept.execDdcSwap {f : Foot} {s x : State} (h : Kept f s x) (hf : Foot.le ⟨false, [0x00, 0x06, 0x07], [], [.resp, .sys, .ddc]⟩ f = true) (a0 : Fin 16) (a1 : Source) (a2 : Word) :
    ∃ t, execDdcSwap a0 a1 a2 x = .next t ∧ Kept f s t := by
  unfold Sys2Proof.Machine.execDdcSwap
  refine ⟨_, rfl, ?_⟩
  repeat' first
    | with_reducible assumption
    | with_reducible refine Kept.writeReg ?_ (fun y b0 b1 b2 => Kept.ddcRules (Kept.refl _ y) (Foot.le_trans (by decide +kernel) hf) b0 b1 b2) (Foot.word_of_le hf (by first | decide +kernel | (simp only [DDC_BANK.addr_win]; first | decide +kernel | (split <;> decide +kernel)))) (Foot.word_of_le hf (by first | decide +kernel | (simp only [DDC_BANK.addr_win]; first | decide +kernel | (split <;> decide +kernel)))) (Foot.word_of_le hf (by decide +kernel)) (Foot.part_of_le hf (by decide +kernel : Foot.part _ .resp = true)) (Foot.part_of_le hf (by decide +kernel : Foot.part _ .sys = true))

theorem Kept.execDdcSyncAbort {f : Foot} {s x : State} (h : Kept f s x) (hf : Foot.le ⟨false, [0x00, 0x06, 0x07], [], [.resp, .sys, .ddc]⟩ f = true) (a0 : Source) (a1 : Word) :
    ∃ t, execDdcSyncAbort a0 a1 x = .next t ∧ Kept f s t := by
  unfold Sys2Proof.Machine.execDdcSyncAbort
  refine ⟨_, rfl, ?_⟩
  repeat' first
    | with_reducible assumption
    | with_reducible refine Kept.writeReg ?_ (fun y b0 b1 b2 => Kept.ddcRules (Kept.refl _ y) (Foot.le_trans (by decide +kernel) hf) b0 b1 b2) (Foot.word_of_le hf (by first | decide +kernel)) (Foot.word_of_le hf (by first | decide +kernel)) (Foot.word_of_le hf (by decide +kernel)) (Foot.part_of_le hf (by decide +kernel : Foot.part _ .resp = true)) (Foot.part_of_le hf (by decide +kernel : Foot.part _ .sys = true))

theorem Kept.execDdcSyncGo {f : Foot} {s x : State} (h : Kept f s x) (hf : Foot.le ⟨false, [0x00, 0x06, 0x07], [], [.resp, .sys, .ddc]⟩ f = true) (a0 : Source) (a1 : Word) :
    ∃ t, execDdcSyncGo a0 a1 x = .next t ∧ Kept f s t := by
  unfold Sys2Proof.Machine.execDdcSyncGo
  refine ⟨_, rfl, ?_⟩
  repeat' first
    | with_reducible assumption
    | with_reducible refine Kept.writeReg ?_ (fun y b0 b1 b2 => Kept.ddcRules (Kept.refl _ y) (Foot.le_trans (by decide +kernel) hf) b0 b1 b2) (Foot.word_of_le hf (by first | decide +kernel)) (Foot.word_of_le hf (by first | decide +kernel)) (Foot.word_of_le hf (by decide +kernel)) (Foot.part_of_le hf (by decide +kernel : Foot.part _ .resp = true)) (Foot.part_of_le hf (by decide +kernel : Foot.part _ .sys = true))

theorem Kept.execDdcSyncReset {f : Foot} {s x : State} (h : Kept f s x) (hf : Foot.le ⟨false, [0x06, 0x07, 0x08, 0x09, 0x0B, 0x15], [], [.gddr, .ddc, .fft, .trg, .acq, .lod, .mem, .srv]⟩ f = true) (a0 : Stamp) :
    ∃ t, execDdcSyncReset a0 x = .next t ∧ Kept f s t := by
  unfold Sys2Proof.Machine.execDdcSyncReset
  refine ⟨_, rfl, ?_⟩
  repeat' first
    | with_reducible assumption
    | with_reducible refine Kept.ite ?_ ?_
    | with_reducible refine Kept.ddcSyncFire ?_ (Foot.le_trans (by decide +kernel) hf) _

theorem Kept.execFadeEnd {f : Foot} {s x : State} (h : Kept f s x) (hf : Foot.le ⟨false, [0x06, 0x07], [], []⟩ f = true) (a0 : Fin 16) :
    ∃ t, execFadeEnd a0 x = .next t ∧ Kept f s t := by
  unfold Sys2Proof.Machine.execFadeEnd
  refine ⟨_, rfl, ?_⟩
  repeat' first
    | with_reducible assumption
    | with_reducible refine Kept.ite ?_ ?_
    | with_reducible refine Kept.put _ _ ?_ (Foot.word_of_le hf (by first | decide +kernel | (simp only [DDC_BANK.FADING, DDC_BANK.addr_win]; first | decide +kernel | (split <;> decide +kernel))))

theorem Kept.execSampleDeliver {f : Foot} {s x : State} (h : Kept f s x) (hf : Foot.le ⟨false, [0x04, 0x05, 0x06, 0x07, 0x08, 0x09, 0x0A, 0x0B, 0x15], [], [.gddr, .freeCtr, .lnk, .fcv, .ddc, .fft, .trg, .acq, .lod, .mem]⟩ f = true) (a0 : Fin 4) (a1 : List Sample) :
    ∃ t, execSampleDeliver a0 a1 x = .next t ∧ Kept f s t := by
  unfold Sys2Proof.Machine.execSampleDeliver
  refine ⟨_, rfl, ?_⟩
  repeat' first
    | with_reducible assumption
    | with_reducible refine Kept.ite ?_ ?_
    | with_reducible refine Kept.fcvSample ?_ (Foot.le_trans (by decide +kernel) hf) _ _
    | with_reducible refine Kept.convOvr ?_ (Foot.le_trans (by decide +kernel) hf) _ _
    | with_reducible refine Kept.fcvDc ?_ (Foot.le_trans (by decide +kernel) hf) _ _
    | with_reducible refine Kept.distribute ?_ (Foot.le_trans (by decide +kernel) hf) _ _
    | with_reducible refine Kept.foldl _ (fun y b hy => ?_) ?_
    | with_reducible refine Kept.foldl_snd _ (fun y b hy => ?_) ?_

end Sys2Proof.Machine
end

