-- ==== Sys2Proof/Laws/KeptRecords.lean ====
section
/-! SUPPORT. What the operations of Sys2Proof/Machine/Records.lean change. -/

set_option Elab.async false

set_option linter.all false

namespace Sys2Proof.Machine

theorem Kept.loadFail {f : Foot} {s x : State} (h : Kept f s x) (hf : Foot.le ⟨false, [0x00, 0x1A], [], [.boot]⟩ f = true) (a0 : Nat) :
    Kept f s (State.loadFail x a0) := by
  unfold Sys2Proof.Machine.State.loadFail
  repeat' first
    | with_reducible assumption
    | with_reducible refine Kept.put _ _ ?_ (Foot.word_of_le hf (by first | decide +kernel))
    | (intro y; refine (fun hy : Kept f s y => ?_) ?_ <;> [clear_value y; skip])
    | intro y
    | split
    | lift_lets
    | with_reducible exact Kept.set_boot _ (by with_reducible assumption) (Foot.part_of_le hf (by decide +kernel : Foot.part _ .boot = true))

theorem Kept.recArrive {f : Foot} {s x : State} (h : Kept f s x) (hf : Foot.le ⟨false, [0x00, 0x1A], [], [.boot]⟩ f = true) (a0 : RecordRun) (a1 : Nat) :
    Kept f s (State.recArrive x a0 a1) := by
  unfold Sys2Proof.Machine.State.recArrive
  repeat' first
    | with_reducible refine Kept.ite ?_ ?_
    | with_reducible refine Kept.loadFail ?_ (Foot.le_trans (by decide +kernel) hf) _
    | intro y
    | lift_lets
    | with_reducible exact Kept.set_boot _ (by with_reducible assumption) (Foot.part_of_le hf (by decide +kernel : Foot.part _ .boot = true))

theorem Kept.recDone {f : Foot} {s x : State} (h : Kept f s x) (hf : Foot.le ⟨false, [0x00, 0x1A], [], [.boot]⟩ f = true) :
    Kept f s (State.recDone x) := by
  unfold Sys2Proof.Machine.State.recDone
  repeat' first
    | with_reducible assumption
    | with_reducible refine Kept.recArrive ?_ (Foot.le_trans (by decide +kernel) hf) _ _
    | split

theorem Kept.recSettle {f : Foot} {s x : State} (h : Kept f s x) (hf : Foot.le ⟨false, [0x00, 0x1A], [], [.boot]⟩ f = true) :
    Kept f s (State.recSettle x) := by
  unfold Sys2Proof.Machine.State.recSettle
  repeat' first
    | with_reducible assumption
    | with_reducible refine Kept.ite ?_ ?_
    | with_reducible refine Kept.recDone ?_ (Foot.le_trans (by decide +kernel) hf)
    | with_reducible refine Kept.loadFail ?_ (Foot.le_trans (by decide +kernel) hf) _
    | intro y
    | split
    | lift_lets

theorem Kept.recWait {f : Foot} {s x : State} (h : Kept f s x) (hf : Foot.le ⟨false, [], [], [.boot]⟩ f = true) :
    Kept f s (State.recWait x) := by
  unfold Sys2Proof.Machine.State.recWait
  repeat' first
    | with_reducible assumption
    | intro y
    | split
    | lift_lets
    | with_reducible exact Kept.set_boot _ (by with_reducible assumption) (Foot.part_of_le hf (by decide +kernel : Foot.part _ .boot = true))

end Sys2Proof.Machine
end

