-- ==== Sys2Proof/Laws/KeptLanes.lean ====
section
/-! SUPPORT. What the operations of Sys2Proof/Machine/Lanes.lean change. -/

set_option Elab.async false

set_option linter.all false

namespace Sys2Proof.Machine

theorem Kept.holdEq {f : Foot} {s x : State} (h : Kept f s x) (hf : Foot.le ⟨false, [0x04], [], []⟩ f = true) (a0 : Nat) :
    Kept f s (State.holdEq x a0) := by
  unfold Sys2Proof.Machine.State.holdEq
  repeat' first
    | with_reducible assumption
    | with_reducible refine Kept.ite ?_ ?_
    | with_reducible refine Kept.setWord _ _ ?_ (Foot.word_of_le hf (by first | decide +kernel | (simp only [LNK_LANE_STAT.CTLE_NOW, LNK_LANE_STAT.addr_win, LNK_LANE_CTRL.CTLE, LNK_LANE_CTRL.addr_win, LNK_LANE_DFE.addr_win, LNK_LANE_DFE.addr_win4, LNK_LANE_DFE.addr_win8]; first | decide +kernel | (split <;> decide +kernel))))
    | with_reducible refine Kept.put _ _ ?_ (Foot.word_of_le hf (by first | decide +kernel | (simp only [LNK_LANE_STAT.CTLE_NOW, LNK_LANE_STAT.addr_win, LNK_LANE_CTRL.CTLE, LNK_LANE_CTRL.addr_win, LNK_LANE_DFE.addr_win, LNK_LANE_DFE.addr_win4, LNK_LANE_DFE.addr_win8]; first | decide +kernel | (split <;> decide +kernel))))

theorem Kept.setLane {f : Foot} {s x : State} (h : Kept f s x) (hf : Foot.le ⟨false, [0x04], [], [.lnk]⟩ f = true) (a0 : Nat) (a1 : Nat) :
    Kept f s (State.setLane x a0 a1) := by
  unfold Sys2Proof.Machine.State.setLane
  repeat' first
    | with_reducible assumption
    | with_reducible refine Kept.ite ?_ ?_
    | with_reducible refine Kept.put _ _ ?_ (Foot.word_of_le hf (by first | decide +kernel | (simp only [LNK_LANE_STAT.STATE, LNK_LANE_STAT.addr_win]; first | decide +kernel | (split <;> decide +kernel))))
    | intro y
    | split
    | lift_lets
    | fail_if_no_progress (with_reducible refine Kept.set_lnk _ ?_ (Foot.part_of_le hf (by decide +kernel : Foot.part _ .lnk = true)))

theorem Kept.laneBack {f : Foot} {s x : State} (h : Kept f s x) (hf : Foot.le ⟨false, [0x04], [], [.lnk]⟩ f = true) (a0 : Nat) (a1 : Nat) :
    Kept f s (State.laneBack x a0 a1) := by
  unfold Sys2Proof.Machine.State.laneBack
  repeat' first
    | with_reducible assumption
    | with_reducible refine Kept.holdEq ?_ (Foot.le_trans (by decide +kernel) hf) _
    | with_reducible refine Kept.setLane ?_ (Foot.le_trans (by decide +kernel) hf) _ _

theorem Kept.setSyncn {f : Foot} {s x : State} (h : Kept f s x) (hf : Foot.le ⟨false, [], [], [.pins]⟩ f = true) (a0 : Nat) (a1 : Bool) :
    Kept f s (State.setSyncn x a0 a1) := by
  unfold Sys2Proof.Machine.State.setSyncn
  repeat' first
    | intro y
    | lift_lets
    | with_reducible exact Kept.set_pins _ (by with_reducible assumption) (Foot.part_of_le hf (by decide +kernel : Foot.part _ .pins = true))

theorem Kept.syncnLow {f : Foot} {s x : State} (h : Kept f s x) (hf : Foot.le ⟨false, [], [], [.pins]⟩ f = true) (a0 : Nat) :
    Kept f s (State.syncnLow x a0) := by
  unfold Sys2Proof.Machine.State.syncnLow
  repeat' first
    | with_reducible assumption
    | with_reducible refine Kept.ite ?_ ?_
    | with_reducible refine Kept.setSyncn ?_ (Foot.le_trans (by decide +kernel) hf) _ _

theorem Kept.convLoss {f : Foot} {s x : State} (h : Kept f s x) (hf : Foot.le ⟨false, [0x04, 0x05, 0x06, 0x07, 0x08, 0x09, 0x0B, 0x15, 0x1B], [], [.gddr, .pins, .flt, .lnk, .fcv, .fft, .trg, .acq, .lod, .mem, .srv]⟩ f = true) (a0 : Nat) (a1 : Nat) (a2 : List Nat) :
    Kept f s (State.convLoss x a0 a1 a2) := by
  unfold Sys2Proof.Machine.State.convLoss
  repeat' first
    | with_reducible assumption
    | with_reducible refine Kept.ite ?_ ?_
    | with_reducible refine Kept.laneBack ?_ (Foot.le_trans (by decide +kernel) hf) _ _
    | with_reducible refine Kept.put _ _ ?_ (Foot.word_of_le hf (by first | decide +kernel | (simp only [LNK_CONV_STAT.LOST, LNK_CONV_STAT.addr_win, LNK_CONV_STAT.CAUSE, LNK_CONV_STAT.STATE, LNK_CONV_CNT.LOSS_COUNT, LNK_CONV_CNT.addr_win, LNK_LANE_STAT.LOSS_COUNT, LNK_LANE_STAT.addr_win]; first | decide +kernel | (split <;> decide +kernel))))
    | with_reducible refine Kept.bump _ ?_ (Foot.word_of_le hf (by first | decide +kernel | (simp only [LNK_CONV_STAT.LOST, LNK_CONV_STAT.addr_win, LNK_CONV_STAT.CAUSE, LNK_CONV_STAT.STATE, LNK_CONV_CNT.LOSS_COUNT, LNK_CONV_CNT.addr_win, LNK_LANE_STAT.LOSS_COUNT, LNK_LANE_STAT.addr_win]; first | decide +kernel | (split <;> decide +kernel))))
    | with_reducible refine Kept.fltInfo ?_ (Foot.le_trans (by decide +kernel) hf) _ _ _ _ _
    | with_reducible refine Kept.syncnLow ?_ (Foot.le_trans (by decide +kernel) hf) _
    | with_reducible refine Kept.convDown ?_ (Foot.le_trans (by decide +kernel) hf) _ _
    | with_reducible refine Kept.foldl _ (fun y b hy => ?_) ?_
    | (intro y; refine (fun hy : Kept f s y => ?_) ?_ <;> [clear_value y; skip])
    | intro y
    | split
    | lift_lets
    | with_reducible exact Kept.set_lnk _ (by with_reducible assumption) (Foot.part_of_le hf (by decide +kernel : Foot.part _ .lnk = true))
    | fail_if_no_progress (with_reducible refine Kept.set_lnk _ ?_ (Foot.part_of_le hf (by decide +kernel : Foot.part _ .lnk = true)))

theorem Kept.lnkBefore {f : Foot} {s x : State} (h : Kept f s x) (hf : Foot.le ⟨false, [0x04, 0x05, 0x06, 0x07, 0x08, 0x09, 0x0B, 0x15, 0x1B], [], [.gddr, .pins, .flt, .lnk, .fcv, .fft, .trg, .acq, .lod, .mem, .srv]⟩ f = true) (a0 : View') :
    Kept f s (State.lnkBefore x a0) := by
  unfold Sys2Proof.Machine.State.lnkBefore
  repeat' first
    | with_reducible assumption
    | with_reducible refine Kept.convLoss ?_ (Foot.le_trans (by decide +kernel) hf) _ _ _
    | with_reducible refine Kept.foldl _ (fun y b hy => ?_) ?_

theorem Kept.lanesFollow {f : Foot} {s x : State} (h : Kept f s x) (hf : Foot.le ⟨false, [0x04], [], [.lnk]⟩ f = true) :
    Kept f s (State.lanesFollow x) := by
  unfold Sys2Proof.Machine.State.lanesFollow
  repeat' first
    | with_reducible assumption
    | with_reducible refine Kept.ite ?_ ?_
    | with_reducible refine Kept.laneBack ?_ (Foot.le_trans (by decide +kernel) hf) _ _
    | with_reducible refine Kept.setLane ?_ (Foot.le_trans (by decide +kernel) hf) _ _
    | with_reducible refine Kept.foldl _ (fun y b hy => ?_) ?_

theorem Kept.syncnFollow {f : Foot} {s x : State} (h : Kept f s x) (hf : Foot.le ⟨false, [], [], [.pins]⟩ f = true) (a0 : Nat) :
    Kept f s (State.syncnFollow x a0) := by
  unfold Sys2Proof.Machine.State.syncnFollow
  repeat' first
    | with_reducible assumption
    | with_reducible refine Kept.ite ?_ ?_
    | with_reducible refine Kept.setSyncn ?_ (Foot.le_trans (by decide +kernel) hf) _ _

theorem Kept.lnkAfter {f : Foot} {s x : State} (h : Kept f s x) (hf : Foot.le ⟨false, [0x04, 0x05], [], [.pins, .lnk, .fcv]⟩ f = true) (a0 : List Nat) :
    Kept f s (State.lnkAfter x a0) := by
  unfold Sys2Proof.Machine.State.lnkAfter
  repeat' first
    | with_reducible assumption
    | with_reducible refine Kept.ite ?_ ?_
    | with_reducible refine Kept.laneBack ?_ (Foot.le_trans (by decide +kernel) hf) _ _
    | with_reducible refine Kept.lanesFollow ?_ (Foot.le_trans (by decide +kernel) hf)
    | with_reducible refine Kept.put _ _ ?_ (Foot.word_of_le hf (by first | decide +kernel | (simp only [FCV_DC_EST_I.EST, FCV_DC_EST_I.addr_win, FCV_DC_EST_Q.EST, FCV_DC_EST_Q.addr_win]; first | decide +kernel | (split <;> decide +kernel))))
    | with_reducible refine Kept.syncnFollow ?_ (Foot.le_trans (by decide +kernel) hf) _
    | with_reducible refine Kept.foldl _ (fun y b hy => ?_) ?_
    | intro y
    | lift_lets
    | with_reducible exact Kept.set_fcv _ (by with_reducible assumption) (Foot.part_of_le hf (by decide +kernel : Foot.part _ .fcv = true))
    | fail_if_no_progress (with_reducible refine Kept.set_lnk _ ?_ (Foot.part_of_le hf (by decide +kernel : Foot.part _ .lnk = true)))

theorem Kept.lnkRules {f : Foot} {s x : State} (h : Kept f s x) (hf : Foot.le ⟨false, [0x04, 0x05, 0x06, 0x07, 0x08, 0x09, 0x0B, 0x15, 0x1B], [], [.gddr, .pins, .flt, .lnk, .fcv, .fft, .trg, .acq, .lod, .mem, .srv]⟩ f = true) (b0 : Source) (b1 : Nat) (b2 : Word) :
    Kept.res f s (lnkRules.act b0 b1 b2 x) := by
  unfold Sys2Proof.Machine.lnkRules
  repeat' first
    | with_reducible assumption
    | with_reducible refine Kept.ite ?_ ?_
    | with_reducible refine Kept.res_ite ?_ ?_
    | with_reducible refine Kept.res_ok ?_
    | with_reducible refine Kept.convLoss ?_ (Foot.le_trans (by decide +kernel) hf) _ _ _
    | with_reducible refine Kept.foldl _ (fun y b hy => ?_) ?_

theorem Kept.convStart {f : Foot} {s x : State} (h : Kept f s x) (hf : Foot.le ⟨false, [0x04, 0x05, 0x06, 0x07, 0x08, 0x09, 0x0B, 0x0C, 0x15, 0x1B], [], [.sram, .gddr, .freeCtr, .flt, .alm, .lnk, .fcv, .ddc, .fft, .trg, .acq, .neb, .lod, .mem, .srv]⟩ f = true) (a0 : Fin 4) (a1 : Stamp) :
    Kept f s (State.convStart x a0 a1) := by
  unfold Sys2Proof.Machine.State.convStart
  repeat' first
    | with_reducible assumption
    | with_reducible refine Kept.put _ _ ?_ (Foot.word_of_le hf (by first | decide +kernel | (simp only [LNK_LANE_STAT.STATE, LNK_LANE_STAT.addr_win, LNK_CONV_STAT.STATE, LNK_CONV_STAT.addr_win]; first | decide +kernel | (split <;> decide +kernel))))
    | with_reducible refine Kept.convUp ?_ (Foot.le_trans (by decide +kernel) hf) _ _
    | with_reducible refine Kept.foldl _ (fun y b hy => ?_) ?_
    | intro y
    | lift_lets
    | fail_if_no_progress (with_reducible refine Kept.set_alm_lnk _ _ ?_ (Foot.part_of_le hf (by decide +kernel : Foot.part _ .alm = true)) (Foot.part_of_le hf (by decide +kernel : Foot.part _ .lnk = true)))

theorem Kept.waitLoss {f : Foot} {s x : State} (h : Kept f s x) (hf : Foot.le ⟨false, [0x04], [], [.pins, .lnk]⟩ f = true) (a0 : Nat) :
    Kept f s (State.waitLoss x a0) := by
  unfold Sys2Proof.Machine.State.waitLoss
  repeat' first
    | with_reducible assumption
    | with_reducible refine Kept.ite ?_ ?_
    | with_reducible refine Kept.syncnLow ?_ (Foot.le_trans (by decide +kernel) hf) _
    | with_reducible refine Kept.laneBack ?_ (Foot.le_trans (by decide +kernel) hf) _ _

theorem Kept.laneLoss {f : Foot} {s x : State} (h : Kept f s x) (hf : Foot.le ⟨false, [0x04, 0x05, 0x06, 0x07, 0x08, 0x09, 0x0B, 0x15, 0x1B], [], [.gddr, .pins, .flt, .lnk, .fcv, .fft, .trg, .acq, .lod, .mem, .srv]⟩ f = true) (a0 : Nat) (a1 : Nat) (a2 : Bool) :
    Kept f s (State.laneLoss x a0 a1 a2) := by
  unfold Sys2Proof.Machine.State.laneLoss
  repeat' first
    | with_reducible assumption
    | with_reducible refine Kept.ite ?_ ?_
    | with_reducible refine Kept.convLoss ?_ (Foot.le_trans (by decide +kernel) hf) _ _ _
    | with_reducible refine Kept.waitLoss ?_ (Foot.le_trans (by decide +kernel) hf) _
    | intro y
    | lift_lets
    | with_reducible exact Kept.set_lnk _ (by with_reducible assumption) (Foot.part_of_le hf (by decide +kernel : Foot.part _ .lnk = true))

theorem Kept.lpllLost {f : Foot} {s x : State} (h : Kept f s x) (hf : Foot.le ⟨false, [0x04, 0x05, 0x06, 0x07, 0x08, 0x09, 0x0B, 0x15, 0x1B], [], [.gddr, .pins, .flt, .lnk, .fcv, .fft, .trg, .acq, .lod, .mem, .srv]⟩ f = true) (a0 : Nat) :
    Kept f s (State.lpllLost x a0) := by
  unfold Sys2Proof.Machine.State.lpllLost
  repeat' first
    | with_reducible assumption
    | with_reducible refine Kept.ite ?_ ?_
    | with_reducible refine Kept.waitLoss ?_ (Foot.le_trans (by decide +kernel) hf) _
    | with_reducible refine Kept.convLoss ?_ (Foot.le_trans (by decide +kernel) hf) _ _ _
    | with_reducible refine Kept.foldl _ (fun y b hy => ?_) ?_

theorem Kept.markModel {f : Foot} {s x : State} (h : Kept f s x) (hf : Foot.le ⟨false, [0x03, 0x1B], [], [.flt, .alm]⟩ f = true) (a0 : Fin 4) (a1 : Stamp) (a2 : Nat) :
    Kept f s (State.markModel x a0 a1 a2) := by
  unfold Sys2Proof.Machine.State.markModel
  repeat' first
    | with_reducible assumption
    | with_reducible refine Kept.ite ?_ ?_
    | with_reducible refine Kept.put _ _ ?_ (Foot.word_of_le hf (by first | decide +kernel | (simp only [ALM_RATE_ERR.PPB, ALM_RATE_ERR.addr_win]; first | decide +kernel | (split <;> decide +kernel))))
    | with_reducible refine Kept.fltInfo ?_ (Foot.le_trans (by decide +kernel) hf) _ _ _ _ _
    | (intro y; refine (fun hy : Kept f s y => ?_) ?_ <;> [clear_value y; skip])
    | intro y
    | split
    | lift_lets
    | with_reducible exact Kept.set_alm _ (by with_reducible assumption) (Foot.part_of_le hf (by decide +kernel : Foot.part _ .alm = true))

theorem Kept.sysref {f : Foot} {s x : State} (h : Kept f s x) (hf : Foot.le ⟨false, [0x04], [], [.lnk]⟩ f = true) (a0 : Bool) :
    Kept f s (State.sysref x a0) := by
  unfold Sys2Proof.Machine.State.sysref
  repeat' first
    | with_reducible assumption
    | with_reducible refine Kept.ite ?_ ?_
    | with_reducible refine Kept.put _ _ ?_ (Foot.word_of_le hf (by first | decide +kernel))
    | (intro y; refine (fun hy : Kept f s y => ?_) ?_ <;> [clear_value y; skip])
    | intro y
    | split
    | lift_lets
    | with_reducible exact Kept.set_lnk _ (by with_reducible assumption) (Foot.part_of_le hf (by decide +kernel : Foot.part _ .lnk = true))

theorem Kept.updateSkew {f : Foot} {s x : State} (h : Kept f s x) (hf : Foot.le ⟨false, [0x04], [], []⟩ f = true) (a0 : Nat) :
    Kept f s (State.updateSkew x a0) := by
  unfold Sys2Proof.Machine.State.updateSkew
  repeat' first
    | with_reducible assumption
    | with_reducible refine Kept.put _ _ ?_ (Foot.word_of_le hf (by first | decide +kernel | (simp only [LNK_LANE_STAT.SKEW, LNK_LANE_STAT.addr_win]; first | decide +kernel | (split <;> decide +kernel))))
    | with_reducible refine Kept.foldl _ (fun y b hy => ?_) ?_
    | intro y
    | split
    | lift_lets

theorem Kept.execCdrDone {f : Foot} {s x : State} (h : Kept f s x) (hf : Foot.le ⟨false, [0x04], [], [.lnk]⟩ f = true) (a0 : Fin 32) (a1 : BitVec 4) (a2 : BitVec 30) :
    ∃ t, execCdrDone a0 a1 a2 x = .next t ∧ Kept f s t := by
  unfold Sys2Proof.Machine.execCdrDone
  refine ⟨_, rfl, ?_⟩
  repeat' first
    | with_reducible assumption
    | with_reducible refine Kept.ite ?_ ?_
    | with_reducible refine Kept.setLane ?_ (Foot.le_trans (by decide +kernel) hf) _ _
    | with_reducible refine Kept.holdEq ?_ (Foot.le_trans (by decide +kernel) hf) _
    | with_reducible refine Kept.setWord _ _ ?_ (Foot.word_of_le hf (by first | decide +kernel | (simp only [LNK_LANE_STAT.CTLE_NOW, LNK_LANE_STAT.addr_win, LNK_LANE_DFE.addr_win, LNK_LANE_DFE.addr_win4, LNK_LANE_DFE.addr_win8]; first | decide +kernel | (split <;> decide +kernel))))
    | with_reducible refine Kept.put _ _ ?_ (Foot.word_of_le hf (by first | decide +kernel | (simp only [LNK_LANE_STAT.CTLE_NOW, LNK_LANE_STAT.addr_win, LNK_LANE_DFE.addr_win, LNK_LANE_DFE.addr_win4, LNK_LANE_DFE.addr_win8]; first | decide +kernel | (split <;> decide +kernel))))

theorem Kept.execCdrLoss {f : Foot} {s x : State} (h : Kept f s x) (hf : Foot.le ⟨false, [0x04, 0x05, 0x06, 0x07, 0x08, 0x09, 0x0B, 0x15, 0x1B], [], [.gddr, .pins, .flt, .lnk, .fcv, .fft, .trg, .acq, .lod, .mem, .srv]⟩ f = true) (a0 : Fin 32) (a1 : Bool) :
    ∃ t, execCdrLoss a0 a1 x = .next t ∧ Kept f s t := by
  unfold Sys2Proof.Machine.execCdrLoss
  refine ⟨_, rfl, ?_⟩
  repeat' first
    | with_reducible assumption
    | with_reducible refine Kept.laneLoss ?_ (Foot.le_trans (by decide +kernel) hf) _ _ _

theorem Kept.execCodeGroupSync {f : Foot} {s x : State} (h : Kept f s x) (hf : Foot.le ⟨false, [0x04], [], [.lnk]⟩ f = true) (a0 : Fin 32) :
    ∃ t, execCodeGroupSync a0 x = .next t ∧ Kept f s t := by
  unfold Sys2Proof.Machine.execCodeGroupSync
  refine ⟨_, rfl, ?_⟩
  repeat' first
    | with_reducible assumption
    | with_reducible refine Kept.ite ?_ ?_
    | with_reducible refine Kept.setLane ?_ (Foot.le_trans (by decide +kernel) hf) _ _

theorem Kept.execConverterValid {f : Foot} {s x : State} (h : Kept f s x) (hf : Foot.le ⟨false, [0x00, 0x04, 0x05, 0x06, 0x07, 0x08, 0x09, 0x0B, 0x0C, 0x15, 0x1A, 0x1B], [], [.sram, .gddr, .freeCtr, .flt, .alm, .lnk, .fcv, .ddc, .fft, .trg, .acq, .neb, .lod, .mem, .srv, .boot]⟩ f = true) (a0 : Fin 4) (a1 : Stamp) :
    ∃ t, execConverterValid a0 a1 x = .next t ∧ Kept f s t := by
  unfold Sys2Proof.Machine.execConverterValid
  refine ⟨_, rfl, ?_⟩
  repeat' first
    | with_reducible assumption
    | with_reducible refine Kept.ite ?_ ?_
    | with_reducible refine Kept.recSettle ?_ (Foot.le_trans (by decide +kernel) hf)
    | with_reducible refine Kept.convStart ?_ (Foot.le_trans (by decide +kernel) hf) _ _

theorem Kept.execDeskewFail {f : Foot} {s x : State} (h : Kept f s x) (hf : Foot.le ⟨false, [0x04, 0x05, 0x06, 0x07, 0x08, 0x09, 0x0B, 0x15, 0x1B], [], [.gddr, .pins, .flt, .lnk, .fcv, .fft, .trg, .acq, .lod, .mem, .srv]⟩ f = true) (a0 : Fin 4) :
    ∃ t, execDeskewFail a0 x = .next t ∧ Kept f s t := by
  unfold Sys2Proof.Machine.execDeskewFail
  refine ⟨_, rfl, ?_⟩
  repeat' first
    | with_reducible assumption
    | with_reducible refine Kept.ite ?_ ?_
    | with_reducible refine Kept.convLoss ?_ (Foot.le_trans (by decide +kernel) hf) _ _ _
    | with_reducible refine Kept.put _ _ ?_ (Foot.word_of_le hf (by first | decide +kernel | (simp only [LNK_CONV_STAT.DESKEW_FAIL, LNK_CONV_STAT.addr_win]; first | decide +kernel | (split <;> decide +kernel))))
    | with_reducible refine Kept.laneBack ?_ (Foot.le_trans (by decide +kernel) hf) _ _
    | with_reducible refine Kept.foldl _ (fun y b hy => ?_) ?_

theorem Kept.execDeskewOverrun {f : Foot} {s x : State} (h : Kept f s x) (hf : Foot.le ⟨false, [0x04, 0x05, 0x06, 0x07, 0x08, 0x09, 0x0B, 0x15, 0x1B], [], [.gddr, .pins, .flt, .lnk, .fcv, .fft, .trg, .acq, .lod, .mem, .srv]⟩ f = true) (a0 : Fin 32) (a1 : Bool) :
    ∃ t, execDeskewOverrun a0 a1 x = .next t ∧ Kept f s t := by
  unfold Sys2Proof.Machine.execDeskewOverrun
  refine ⟨_, rfl, ?_⟩
  repeat' first
    | with_reducible assumption
    | with_reducible refine Kept.laneLoss ?_ (Foot.le_trans (by decide +kernel) hf) _ _ _

theorem Kept.execDfeAdapt {f : Foot} {s x : State} (h : Kept f s x) (hf : Foot.le ⟨false, [0x04], [], []⟩ f = true) (a0 : Fin 32) (a1 : Vector Int 5) :
    ∃ t, execDfeAdapt a0 a1 x = .next t ∧ Kept f s t := by
  unfold Sys2Proof.Machine.execDfeAdapt
  refine ⟨_, rfl, ?_⟩
  repeat' first
    | with_reducible assumption
    | with_reducible refine Kept.ite ?_ ?_
    | with_reducible refine Kept.setWord _ _ ?_ (Foot.word_of_le hf (by first | decide +kernel | (simp only [LNK_LANE_DFE.addr_win, LNK_LANE_DFE.addr_win4, LNK_LANE_DFE.addr_win8]; first | decide +kernel | (split <;> decide +kernel))))

theorem Kept.execFomMeasure {f : Foot} {s x : State} (h : Kept f s x) (hf : Foot.le ⟨false, [0x04, 0x1B], [], [.flt, .lnk]⟩ f = true) (a0 : Fin 32) (a1 : BitVec 8) (a2 : BitVec 8) :
    ∃ t, execFomMeasure a0 a1 a2 x = .next t ∧ Kept f s t := by
  unfold Sys2Proof.Machine.execFomMeasure
  refine ⟨_, rfl, ?_⟩
  repeat' first
    | with_reducible assumption
    | with_reducible refine Kept.ite ?_ ?_
    | with_reducible refine Kept.put _ _ ?_ (Foot.word_of_le hf (by first | decide +kernel | (simp only [LNK_LANE_STAT.FOM, LNK_LANE_STAT.addr_win]; first | decide +kernel | (split <;> decide +kernel))))
    | with_reducible refine Kept.fltInfo ?_ (Foot.le_trans (by decide +kernel) hf) _ _ _ _ _
    | (intro y; refine (fun hy : Kept f s y => ?_) ?_ <;> [clear_value y; skip])
    | intro y
    | lift_lets
    | with_reducible exact Kept.set_lnk _ (by with_reducible assumption) (Foot.part_of_le hf (by decide +kernel : Foot.part _ .lnk = true))

theorem Kept.execIdleAnnounce {f : Foot} {s x : State} (h : Kept f s x) (hf : Foot.le ⟨false, [0x04, 0x05, 0x06, 0x07, 0x08, 0x09, 0x0B, 0x15, 0x1B], [], [.gddr, .pins, .flt, .lnk, .fcv, .fft, .trg, .acq, .lod, .mem, .srv]⟩ f = true) (a0 : Fin 4) (a1 : BitVec 32) :
    ∃ t, execIdleAnnounce a0 a1 x = .next t ∧ Kept f s t := by
  unfold Sys2Proof.Machine.execIdleAnnounce
  refine ⟨_, rfl, ?_⟩
  repeat' first
    | with_reducible assumption
    | with_reducible refine Kept.ite ?_ ?_
    | with_reducible refine Kept.convLoss ?_ (Foot.le_trans (by decide +kernel) hf) _ _ _

theorem Kept.execIdleExit {f : Foot} {s x : State} (h : Kept f s x) (hf : Foot.le ⟨false, [0x04, 0x05, 0x06, 0x07, 0x08, 0x09, 0x0B, 0x0C, 0x15, 0x1B], [], [.sram, .gddr, .freeCtr, .pins, .flt, .alm, .lnk, .fcv, .ddc, .fft, .trg, .acq, .neb, .lod, .mem, .srv]⟩ f = true) (a0 : Fin 4) (a1 : Stamp) (a2 : BitVec 32) :
    ∃ t, execIdleExit a0 a1 a2 x = .next t ∧ Kept f s t := by
  unfold Sys2Proof.Machine.execIdleExit
  refine ⟨_, rfl, ?_⟩
  repeat' first
    | with_reducible assumption
    | with_reducible refine Kept.ite ?_ ?_
    | with_reducible refine Kept.convStart ?_ (Foot.le_trans (by decide +kernel) hf) _ _
    | with_reducible refine Kept.laneBack ?_ (Foot.le_trans (by decide +kernel) hf) _ _
    | with_reducible refine Kept.put _ _ ?_ (Foot.word_of_le hf (by first | decide +kernel | (simp only [LNK_CONV_STAT.LOST, LNK_CONV_STAT.addr_win, LNK_CONV_STAT.STATE]; first | decide +kernel | (split <;> decide +kernel))))
    | with_reducible refine Kept.syncnLow ?_ (Foot.le_trans (by decide +kernel) hf) _
    | with_reducible refine Kept.foldl _ (fun y b hy => ?_) ?_
    | intro y
    | lift_lets
    | fail_if_no_progress (with_reducible refine Kept.set_lnk _ ?_ (Foot.part_of_le hf (by decide +kernel : Foot.part _ .lnk = true)))

theorem Kept.execIlasReceive {f : Foot} {s x : State} (h : Kept f s x) (hf : Foot.le ⟨false, [0x04, 0x05, 0x06, 0x07, 0x08, 0x09, 0x0B, 0x15, 0x1B], [], [.gddr, .pins, .flt, .lnk, .fcv, .fft, .trg, .acq, .lod, .mem, .srv]⟩ f = true) (a0 : Fin 4) (a1 : Ilas) :
    ∃ t, execIlasReceive a0 a1 x = .next t ∧ Kept f s t := by
  unfold Sys2Proof.Machine.execIlasReceive
  refine ⟨_, rfl, ?_⟩
  repeat' first
    | with_reducible assumption
    | with_reducible refine Kept.ite ?_ ?_
    | with_reducible refine Kept.convLoss ?_ (Foot.le_trans (by decide +kernel) hf) _ _ _
    | with_reducible refine Kept.put _ _ ?_ (Foot.word_of_le hf (by first | decide +kernel | (simp only [LNK_CONV_STAT.ILAS_MISMATCH, LNK_CONV_STAT.addr_win]; first | decide +kernel | (split <;> decide +kernel))))

theorem Kept.execLaneCodeErrors {f : Foot} {s x : State} (h : Kept f s x) (hf : Foot.le ⟨false, [0x04, 0x05, 0x06, 0x07, 0x08, 0x09, 0x0B, 0x15, 0x1B], [], [.gddr, .pins, .flt, .lnk, .fcv, .fft, .trg, .acq, .lod, .mem, .srv]⟩ f = true) (a0 : Fin 32) (a1 : Fin 5) (a2 : Fin 17) (a3 : Bool) :
    ∃ t, execLaneCodeErrors a0 a1 a2 a3 x = .next t ∧ Kept f s t := by
  unfold Sys2Proof.Machine.execLaneCodeErrors
  refine ⟨_, rfl, ?_⟩
  repeat' first
    | with_reducible assumption
    | with_reducible refine Kept.ite ?_ ?_
    | with_reducible refine Kept.bumpBy _ _ ?_ (Foot.word_of_le hf (by first | decide +kernel | (simp only [LNK_LANE_ERR0.DISP, LNK_LANE_ERR0.addr_win, LNK_LANE_ERR0.CODE, LNK_LANE_ERR1.UNEXP_K, LNK_LANE_ERR1.addr_win]; first | decide +kernel | (split <;> decide +kernel))))
    | with_reducible refine Kept.laneLoss ?_ (Foot.le_trans (by decide +kernel) hf) _ _ _
    | with_reducible refine Kept.waitLoss ?_ (Foot.le_trans (by decide +kernel) hf) _

theorem Kept.execLaneMarker {f : Foot} {s x : State} (h : Kept f s x) (hf : Foot.le ⟨false, [0x03, 0x04, 0x05, 0x06, 0x07, 0x08, 0x09, 0x0B, 0x15, 0x1B], [], [.gddr, .pins, .flt, .alm, .lnk, .fcv, .fft, .trg, .acq, .lod, .mem, .srv]⟩ f = true) (a0 : Fin 32) (a1 : Stamp) (a2 : Nat) (a3 : Nat) (a4 : Bool) :
    ∃ t, execLaneMarker a0 a1 a2 a3 a4 x = .next t ∧ Kept f s t := by
  unfold Sys2Proof.Machine.execLaneMarker
  refine ⟨_, rfl, ?_⟩
  repeat' first
    | with_reducible assumption
    | with_reducible refine Kept.ite ?_ ?_
    | with_reducible refine Kept.put _ _ ?_ (Foot.word_of_le hf (by first | decide +kernel | (simp only [LNK_LANE_STAT.STATE, LNK_LANE_STAT.addr_win, LNK_CONV_STAT.STATE, LNK_CONV_STAT.addr_win, LNK_LANE_ERR1.MARK, LNK_LANE_ERR1.addr_win]; first | decide +kernel | (split <;> decide +kernel))))
    | with_reducible refine Kept.updateSkew ?_ (Foot.le_trans (by decide +kernel) hf) _
    | with_reducible refine Kept.laneLoss ?_ (Foot.le_trans (by decide +kernel) hf) _ _ _
    | with_reducible refine Kept.bump _ ?_ (Foot.word_of_le hf (by first | decide +kernel | (simp only [LNK_LANE_STAT.STATE, LNK_LANE_STAT.addr_win, LNK_CONV_STAT.STATE, LNK_CONV_STAT.addr_win, LNK_LANE_ERR1.MARK, LNK_LANE_ERR1.addr_win]; first | decide +kernel | (split <;> decide +kernel))))
    | with_reducible refine Kept.markModel ?_ (Foot.le_trans (by decide +kernel) hf) _ _ _
    | (intro y; refine (fun hy : Kept f s y => ?_) ?_ <;> [clear_value y; skip])
    | intro y
    | split
    | lift_lets
    | with_reducible exact Kept.set_lnk _ (by with_reducible assumption) (Foot.part_of_le hf (by decide +kernel : Foot.part _ .lnk = true))
    | fail_if_no_progress (with_reducible refine Kept.set_lnk _ ?_ (Foot.part_of_le hf (by decide +kernel : Foot.part _ .lnk = true)))

theorem Kept.execLaneMarkerError {f : Foot} {s x : State} (h : Kept f s x) (hf : Foot.le ⟨false, [0x04, 0x05, 0x06, 0x07, 0x08, 0x09, 0x0B, 0x15, 0x1B], [], [.gddr, .pins, .flt, .lnk, .fcv, .fft, .trg, .acq, .lod, .mem, .srv]⟩ f = true) (a0 : Fin 32) (a1 : Bool) :
    ∃ t, execLaneMarkerError a0 a1 x = .next t ∧ Kept f s t := by
  unfold Sys2Proof.Machine.execLaneMarkerError
  refine ⟨_, rfl, ?_⟩
  repeat' first
    | with_reducible assumption
    | with_reducible refine Kept.ite ?_ ?_
    | with_reducible refine Kept.laneLoss ?_ (Foot.le_trans (by decide +kernel) hf) _ _ _
    | with_reducible refine Kept.bump _ ?_ (Foot.word_of_le hf (by first | decide +kernel | (simp only [LNK_LANE_ERR1.MARK, LNK_LANE_ERR1.addr_win]; first | decide +kernel | (split <;> decide +kernel))))

theorem Kept.execLaneSquelch {f : Foot} {s x : State} (h : Kept f s x) (hf : Foot.le ⟨false, [0x04, 0x05, 0x06, 0x07, 0x08, 0x09, 0x0B, 0x15, 0x1B], [], [.gddr, .pins, .flt, .lnk, .fcv, .fft, .trg, .acq, .lod, .mem, .srv]⟩ f = true) (a0 : Fin 32) (a1 : Bool) :
    ∃ t, execLaneSquelch a0 a1 x = .next t ∧ Kept f s t := by
  unfold Sys2Proof.Machine.execLaneSquelch
  refine ⟨_, rfl, ?_⟩
  repeat' first
    | with_reducible assumption
    | with_reducible refine Kept.laneLoss ?_ (Foot.le_trans (by decide +kernel) hf) _ _ _

theorem Kept.execLnkRestart {f : Foot} {s x : State} (h : Kept f s x) (hf : Foot.le ⟨false, [0x00, 0x04, 0x05, 0x06, 0x07, 0x08, 0x09, 0x0B, 0x15, 0x1B], [], [.gddr, .resp, .pins, .sys, .flt, .lnk, .fcv, .fft, .trg, .acq, .lod, .mem, .srv]⟩ f = true) (a0 : Source) (a1 : Word) :
    ∃ t, execLnkRestart a0 a1 x = .next t ∧ Kept f s t := by
  unfold Sys2Proof.Machine.execLnkRestart
  refine ⟨_, rfl, ?_⟩
  repeat' first
    | with_reducible assumption
    | with_reducible refine Kept.writeReg ?_ (fun y b0 b1 b2 => Kept.lnkRules (Kept.refl _ y) (Foot.le_trans (by decide +kernel) hf) b0 b1 b2) (Foot.word_of_le hf (by first | decide +kernel)) (Foot.word_of_le hf (by first | decide +kernel)) (Foot.word_of_le hf (by decide +kernel)) (Foot.part_of_le hf (by decide +kernel : Foot.part _ .resp = true)) (Foot.part_of_le hf (by decide +kernel : Foot.part _ .sys = true))

theorem Kept.execSlSyncnRise {f : Foot} {s x : State} (h : Kept f s x) (hf : Foot.le ⟨false, [], [], [.pins]⟩ f = true) (a0 : Fin 4) :
    ∃ t, execSlSyncnRise a0 x = .next t ∧ Kept f s t := by
  unfold Sys2Proof.Machine.execSlSyncnRise
  refine ⟨_, rfl, ?_⟩
  repeat' first
    | with_reducible assumption
    | with_reducible refine Kept.ite ?_ ?_
    | with_reducible refine Kept.setSyncn ?_ (Foot.le_trans (by decide +kernel) hf) _ _

end Sys2Proof.Machine
end

