-- ==== Sys2Proof/Laws/KeptLod.lean ====
section
/-! SUPPORT. What the operations of Sys2Proof/Machine/Lod.lean change. -/

set_option Elab.async false

set_option linter.all false

namespace Sys2Proof.Machine

/-- An effect that may be a halt keeps what footprint f says where it is a state. -/
def Kept.eff {β : Type} (f : Foot) (s : State) : Except LodTrap (State × β) → Prop
  | .ok p => Kept f s p.1
  | .error _ => True

theorem Kept.eff_ok {β : Type} {f : Foot} {s : State} {p : State × β} (h : Kept f s p.1) : Kept.eff f s (.ok p) := h

theorem Kept.eff_error {β : Type} (f : Foot) (s : State) (e : LodTrap) : Kept.eff (β := β) f s (.error e) := trivial

theorem Kept.eff_ite {β : Type} {f : Foot} {s : State} {a b : Except LodTrap (State × β)} {c : Prop} [Decidable c] (h : Kept.eff f s a)
    (k : Kept.eff f s b) : Kept.eff f s (if c then a else b) := by
  split
  · exact h
  · exact k

theorem Kept.eff_runOn {f : Foot} {s y : State} {g : State → State} (h : Kept f s (g y)) : Kept.eff f s (runOn g y) := h

theorem Kept.of_eff {β : Type} {f : Foot} {s t : State} {b : β} {p : Except LodTrap (State × β)} (h : Kept.eff f s p) (e : p = .ok (t, b)) :
    Kept f s t := by subst e; exact h

theorem Kept.modCore {f : Foot} {s x : State} (h : Kept f s x) (hf : Foot.le ⟨false, [], [], [.lod]⟩ f = true) (a0 : Fin 8) (a1 : LodCore → LodCore) :
    Kept f s (State.modCore x a0 a1) := by
  unfold Sys2Proof.Machine.State.modCore
  repeat' first
    | intro y
    | lift_lets
    | with_reducible exact Kept.set_lod _ (by with_reducible assumption) (Foot.part_of_le hf (by decide +kernel : Foot.part _ .lod = true))

theorem Kept.stick {f : Foot} {s x : State} (h : Kept f s x) (g : Fld) (b : Bool) (hw : f.word (g.addr / 0x10000) = true) :
    Kept f s (x.stick g b) := Kept.ite (Kept.put _ _ h hw) h

theorem Kept.popRet {f : Foot} {s x : State} (h : Kept f s x) (hf : Foot.le ⟨false, [], [], [.lod]⟩ f = true) (n : Fin 8) :
    Kept.eff f s (x.popRet n) := by
  unfold State.popRet
  split
  · exact Kept.modCore h hf _ _
  · trivial

theorem Kept.lodCycles {f : Foot} {s x : State} (h : Kept f s x) (hf : Foot.le ⟨false, [], [], [.lod]⟩ f = true) (a0 : Fin 8) (a1 : Nat) (a2 : Nat) :
    Kept f s (State.lodCycles x a0 a1 a2) := by
  unfold Sys2Proof.Machine.State.lodCycles
  repeat' first
    | with_reducible assumption
    | with_reducible refine Kept.modCore ?_ (Foot.le_trans (by decide +kernel) hf) _ _

theorem Kept.endInvoc {f : Foot} {s x : State} (h : Kept f s x) (hf : Foot.le ⟨false, [0x10], [], []⟩ f = true) (a0 : Fin 8) :
    Kept f s (State.endInvoc x a0) := by
  unfold Sys2Proof.Machine.State.endInvoc
  repeat' first
    | with_reducible assumption
    | with_reducible refine Kept.put _ _ ?_ (Foot.word_of_le hf (by first | decide +kernel | (simp only [LOD_MAXINV.MAXINV, LOD_MAXINV.addr_win]; first | decide +kernel | (split <;> decide +kernel))))

theorem Kept.lodEnd {f : Foot} {s x : State} (h : Kept f s x) (hf : Foot.le ⟨false, [0x00, 0x10, 0x15, 0x1B], [], [.freeCtr, .flt, .lod]⟩ f = true) (a0 : Fin 8) (a1 : Nat) (a2 : Nat) (a3 : Nat) :
    Kept f s (State.lodEnd x a0 a1 a2 a3) := by
  unfold Sys2Proof.Machine.State.lodEnd
  repeat' first
    | with_reducible assumption
    | with_reducible refine Kept.ite ?_ ?_
    | with_reducible refine Kept.endInvoc ?_ (Foot.le_trans (by decide +kernel) hf) _
    | with_reducible refine Kept.put _ _ ?_ (Foot.word_of_le hf (by first | decide +kernel | (simp only [LOD_STAT.CAUSE, LOD_STAT.addr_win, LOD_PC.PC, LOD_PC.addr_win, LOD_STAT.STATE]; first | decide +kernel | (split <;> decide +kernel))))
    | with_reducible refine Kept.modCore ?_ (Foot.le_trans (by decide +kernel) hf) _ _
    | with_reducible refine Kept.raiseIrq ?_ (Foot.le_trans (by decide +kernel) hf) _
    | with_reducible refine Kept.sramLoc ?_ (Foot.le_trans (by decide +kernel) hf) _
    | with_reducible refine Kept.fltRec ?_ (Foot.le_trans (by decide +kernel) hf) _ _ _ _ _ _
    | with_reducible refine Kept.fltInfo ?_ (Foot.le_trans (by decide +kernel) hf) _ _ _ _ _

theorem Kept.beginInvoc {f : Foot} {s x : State} (h : Kept f s x) (hf : Foot.le ⟨false, [0x10], [], [.lod]⟩ f = true) (a0 : Fin 8) :
    Kept f s (State.beginInvoc x a0) := by
  unfold Sys2Proof.Machine.State.beginInvoc
  repeat' first
    | with_reducible assumption
    | with_reducible refine Kept.modCore ?_ (Foot.le_trans (by decide +kernel) hf) _ _
    | with_reducible refine Kept.bumpWrap _ ?_ (Foot.word_of_le hf (by first | decide +kernel | (simp only [LOD_CNT0.INVOC, LOD_CNT0.addr_win]; first | decide +kernel | (split <;> decide +kernel))))

theorem Kept.takeIrq {f : Foot} {s x : State} (h : Kept f s x) (hf : Foot.le ⟨false, [0x00, 0x10, 0x15, 0x1B], [], [.freeCtr, .flt, .lod]⟩ f = true) (a0 : Fin 8) (a1 : Nat) :
    Kept f s (State.takeIrq x a0 a1) := by
  unfold Sys2Proof.Machine.State.takeIrq
  repeat' first
    | with_reducible assumption
    | with_reducible refine Kept.ite ?_ ?_
    | with_reducible refine Kept.lodEnd ?_ (Foot.le_trans (by decide +kernel) hf) _ _ _ _
    | with_reducible refine Kept.beginInvoc ?_ (Foot.le_trans (by decide +kernel) hf) _
    | with_reducible refine Kept.put _ _ ?_ (Foot.word_of_le hf (by first | decide +kernel | (simp only [LOD_STAT.STATE, LOD_STAT.addr_win]; first | decide +kernel | (split <;> decide +kernel))))
    | with_reducible refine Kept.modCore ?_ (Foot.le_trans (by decide +kernel) hf) _ _

theorem Kept.lodFlow {f : Foot} {s x : State} (h : Kept f s x) (hf : Foot.le ⟨false, [0x00, 0x10, 0x15, 0x1B], [], [.freeCtr, .flt, .lod]⟩ f = true) (a0 : Fin 8) (a1 : Nat) (a2 : LodFlow) :
    Kept.res f s (State.lodFlow x a0 a1 a2) := by
  unfold Sys2Proof.Machine.State.lodFlow
  repeat' first
    | with_reducible assumption
    | with_reducible refine Kept.res_ite ?_ ?_
    | with_reducible refine Kept.res_ok ?_
    | with_reducible exact Kept.res_error _ _ _
    | with_reducible refine Kept.modCore ?_ (Foot.le_trans (by decide +kernel) hf) _ _
    | with_reducible refine Kept.takeIrq ?_ (Foot.le_trans (by decide +kernel) hf) _ _
    | with_reducible refine Kept.put _ _ ?_ (Foot.word_of_le hf (by first | decide +kernel | (simp only [LOD_STAT.STATE, LOD_STAT.addr_win]; first | decide +kernel | (split <;> decide +kernel))))
    | with_reducible refine Kept.endInvoc ?_ (Foot.le_trans (by decide +kernel) hf) _
    | (intro y; refine (fun hy : Kept f s y => ?_) ?_ <;> [clear_value y; skip])
    | split
    | lift_lets

theorem Kept.settleStop {f : Foot} {s x : State} (h : Kept f s x) (hf : Foot.le ⟨false, [0x00, 0x10, 0x15, 0x1B], [], [.freeCtr, .flt, .lod]⟩ f = true) (a0 : Fin 8) :
    Kept f s (State.settleStop x a0) := by
  unfold Sys2Proof.Machine.State.settleStop
  repeat' first
    | with_reducible assumption
    | with_reducible refine Kept.ite ?_ ?_
    | with_reducible refine Kept.lodEnd ?_ (Foot.le_trans (by decide +kernel) hf) _ _ _ _

theorem Kept.lodIssue {f : Foot} {s x : State} (h : Kept f s x)
    (hf : Foot.le ⟨false, [0x00, 0x10, 0x15, 0x1B], [], [.freeCtr, .flt, .lod]⟩ f = true) (n : Fin 8) (k : LodKind) (ok : Bool)
    (u : LodUse) (eff : State → Except LodTrap (State × LodFlow)) (he : ∀ y, Kept f s y → Kept.eff f s (eff y)) :
    Kept f s (x.lodIssue n k ok u eff) := by
  unfold State.lodIssue
  refine Kept.ite h ?_
  have h1 : ∀ st, Kept f s (x.lodCycles n (if k == .long then 2 else 1) st) := fun st => Kept.lodCycles h (Foot.le_trans (by decide) hf) _ _ _
  extract_lets c len stall y r
  have hy : Kept f s y := h1 _
  clear_value y
  have hr : Kept.res f s r := by
    show Kept.res f s (if _ then _ else _)
    refine Kept.res_ite trivial ?_
    have := he y hy
    split
    · trivial
    · next e => rw [e] at this; exact Kept.lodFlow this (Foot.le_trans (by decide) hf) _ _ _
  clear_value r
  cases r with
  | error t => exact Kept.lodEnd hy hf _ _ _ _
  | ok t => exact Kept.settleStop (Kept.modCore hr (Foot.le_trans (by decide) hf) _ _) hf _

theorem Kept.setAcc {f : Foot} {s x : State} (h : Kept f s x) (hf : Foot.le ⟨false, [0x10], [], [.lod]⟩ f = true) (a0 : Fin 8) (a1 : Nat) (a2 : Int) :
    Kept f s (State.setAcc x a0 a1 a2) := by
  unfold Sys2Proof.Machine.State.setAcc
  repeat' first
    | with_reducible assumption
    | with_reducible refine Kept.modCore ?_ (Foot.le_trans (by decide +kernel) hf) _ _
    | with_reducible refine Kept.stick ?_ _ _ (Foot.word_of_le hf (by first | decide +kernel | (simp only [LOD_STAT.V56, LOD_STAT.addr_win]; first | decide +kernel | (split <;> decide +kernel))))

theorem Kept.accOp {f : Foot} {s x : State} (h : Kept f s x) (hf : Foot.le ⟨false, [0x00, 0x10, 0x15, 0x1B], [], [.freeCtr, .flt, .lod]⟩ f = true) (a0 : Fin 8) (a1 : BitVec 24) (a2 : State → Int) :
    Kept f s (State.accOp x a0 a1 a2) := by
  unfold State.accOp
  exact Kept.lodIssue h (Foot.le_trans (by decide +kernel) hf) _ _ _ _ _ (fun y hy => Kept.eff_runOn (Kept.setAcc hy (Foot.le_trans (by decide +kernel) hf) _ _ _))

theorem Kept.accStore {f : Foot} {s x : State} (h : Kept f s x) (hf : Foot.le ⟨false, [0x10], [], []⟩ f = true) (a0 : Fin 8) (a1 : Nat) :
    Kept f s (State.accStore x a0 a1).2 := by
  unfold Sys2Proof.Machine.State.accStore
  repeat' first
    | with_reducible assumption
    | with_reducible refine Kept.put _ _ ?_ (Foot.word_of_le hf (by first | decide +kernel | (simp only [LOD_CTRL.SATST, LOD_CTRL.addr_win, LOD_STAT.SAT, LOD_STAT.addr_win]; first | decide +kernel | (split <;> decide +kernel))))
    | intro y
    | split
    | lift_lets

theorem Kept.addrOp {f : Foot} {s x : State} (h : Kept f s x) (hf : Foot.le ⟨false, [0x00, 0x10, 0x15, 0x1B], [], [.freeCtr, .flt, .lod]⟩ f = true) (a0 : Fin 8) (a1 : BitVec 28) (a2 : Bool) :
    Kept f s (State.addrOp x a0 a1 a2) := by
  unfold State.addrOp
  refine Kept.lodIssue h (Foot.le_trans (by decide +kernel) hf) _ _ _ _ _ (fun y hy => Kept.eff_runOn ?_)
  exact Kept.modCore hy (Foot.le_trans (by decide +kernel) hf) _ _

theorem Kept.advance {f : Foot} {s x : State} (h : Kept f s x) (hf : Foot.le ⟨false, [], [], [.lod]⟩ f = true) (a0 : Fin 8) (a1 : Nat) :
    Kept f s (State.advance x a0 a1) := by
  unfold Sys2Proof.Machine.State.advance
  repeat' first
    | with_reducible assumption
    | with_reducible refine Kept.modCore ?_ (Foot.le_trans (by decide +kernel) hf) _ _

theorem Kept.aluFlags {f : Foot} {s x : State} (h : Kept f s x) (hf : Foot.le ⟨false, [0x10], [], [.freeCtr, .lod]⟩ f = true) (a0 : Fin 8) (a1 : BitVec 24) (a2 : Option Bool) (a3 : Bool) :
    Kept f s (State.aluFlags x a0 a1 a2 a3) := by
  unfold Sys2Proof.Machine.State.aluFlags
  repeat' first
    | with_reducible assumption
    | with_reducible refine Kept.drawFree ?_ (Foot.le_trans (by decide +kernel) hf)
    | with_reducible refine Kept.stick ?_ _ _ (Foot.word_of_le hf (by first | decide +kernel | (simp only [LOD_STAT.V24, LOD_STAT.addr_win]; first | decide +kernel | (split <;> decide +kernel))))
    | with_reducible refine Kept.modCore ?_ (Foot.le_trans (by decide +kernel) hf) _ _
    | split

theorem Kept.setDreg {f : Foot} {s x : State} (h : Kept f s x) (hf : Foot.le ⟨false, [], [], [.lod]⟩ f = true) (a0 : Fin 8) (a1 : Nat) (a2 : BitVec 24) :
    Kept f s (State.setDreg x a0 a1 a2) := by
  unfold Sys2Proof.Machine.State.setDreg
  repeat' first
    | with_reducible assumption
    | with_reducible refine Kept.modCore ?_ (Foot.le_trans (by decide +kernel) hf) _ _

theorem Kept.aluOp {f : Foot} {s x : State} (h : Kept f s x) (hf : Foot.le ⟨false, [0x00, 0x10, 0x15, 0x1B], [], [.freeCtr, .flt, .lod]⟩ f = true) (a0 : Fin 8) (a1 : BitVec 23) (a2 : Bool) (a3 : BitVec 24 → BitVec 24 → AluRes) :
    Kept f s (State.aluOp x a0 a1 a2 a3) := by
  unfold Sys2Proof.Machine.State.aluOp
  repeat' first
    | with_reducible assumption
    | with_reducible refine Kept.ite ?_ ?_
    | with_reducible refine Kept.lodIssue ?_ (Foot.le_trans (by decide +kernel) hf) _ _ _ _ _ (fun y hy => ?_)
    | with_reducible refine Kept.aluFlags ?_ (Foot.le_trans (by decide +kernel) hf) _ _ _ _
    | with_reducible refine Kept.setDreg ?_ (Foot.le_trans (by decide +kernel) hf) _ _ _
    | with_reducible refine Kept.eff_runOn ?_

theorem Kept.aluShift {f : Foot} {s x : State} (h : Kept f s x) (hf : Foot.le ⟨false, [0x00, 0x10, 0x15, 0x1B], [], [.freeCtr, .flt, .lod]⟩ f = true) (a0 : Fin 8) (a1 : BitVec 23) (a2 : BitVec 24 → Nat → AluRes) :
    Kept f s (State.aluShift x a0 a1 a2) := by
  unfold Sys2Proof.Machine.State.aluShift
  repeat' first
    | with_reducible assumption
    | with_reducible refine Kept.lodIssue ?_ (Foot.le_trans (by decide +kernel) hf) _ _ _ _ _ (fun y hy => ?_)
    | with_reducible refine Kept.aluFlags ?_ (Foot.le_trans (by decide +kernel) hf) _ _ _ _
    | with_reducible refine Kept.setDreg ?_ (Foot.le_trans (by decide +kernel) hf) _ _ _
    | with_reducible refine Kept.eff_runOn ?_

theorem Kept.aluiOp {f : Foot} {s x : State} (h : Kept f s x) (hf : Foot.le ⟨false, [0x00, 0x10, 0x15, 0x1B], [], [.freeCtr, .flt, .lod]⟩ f = true) (a0 : Fin 8) (a1 : BitVec 23) (a2 : Bool) (a3 : BitVec 24 → BitVec 24 → AluRes) :
    Kept f s (State.aluiOp x a0 a1 a2 a3) := by
  unfold Sys2Proof.Machine.State.aluiOp
  repeat' first
    | with_reducible assumption
    | with_reducible refine Kept.ite ?_ ?_
    | with_reducible refine Kept.lodIssue ?_ (Foot.le_trans (by decide +kernel) hf) _ _ _ _ _ (fun y hy => ?_)
    | with_reducible refine Kept.aluFlags ?_ (Foot.le_trans (by decide +kernel) hf) _ _ _ _
    | with_reducible refine Kept.setDreg ?_ (Foot.le_trans (by decide +kernel) hf) _ _ _
    | with_reducible refine Kept.eff_runOn ?_

theorem Kept.aluiShift {f : Foot} {s x : State} (h : Kept f s x) (hf : Foot.le ⟨false, [0x00, 0x10, 0x15, 0x1B], [], [.freeCtr, .flt, .lod]⟩ f = true) (a0 : Fin 8) (a1 : BitVec 23) (a2 : BitVec 24 → Nat → AluRes) :
    Kept f s (State.aluiShift x a0 a1 a2) := by
  unfold Sys2Proof.Machine.State.aluiShift
  repeat' first
    | with_reducible assumption
    | with_reducible refine Kept.ite ?_ ?_
    | with_reducible refine Kept.lodIssue ?_ (Foot.le_trans (by decide +kernel) hf) _ _ _ _ _ (fun y hy => ?_)
    | with_reducible refine Kept.aluFlags ?_ (Foot.le_trans (by decide +kernel) hf) _ _ _ _
    | with_reducible refine Kept.setDreg ?_ (Foot.le_trans (by decide +kernel) hf) _ _ _
    | with_reducible refine Kept.drawFree ?_ (Foot.le_trans (by decide +kernel) hf)
    | with_reducible refine Kept.eff_runOn ?_

theorem Kept.lodApply {f : Foot} {s x : State} (h : Kept f s x) (hf : Foot.le ⟨false, [0x00, 0x10, 0x15, 0x1B], [], [.freeCtr, .flt, .lod]⟩ f = true) (a0 : State) :
    Kept f s (State.lodApply x a0) := by
  unfold Sys2Proof.Machine.State.lodApply
  repeat' first
    | with_reducible assumption
    | with_reducible refine Kept.ite ?_ ?_
    | with_reducible refine Kept.put _ _ ?_ (Foot.word_of_le hf (by first | decide +kernel | (simp only [LOD_CTRL.EN, LOD_CTRL.addr_win, LOD_STAT.STATE, LOD_STAT.addr_win, LOD_TAP.EN_0, LOD_TAP.addr_win, LOD_TAP.DDC_0, LOD_TAP.EN_1, LOD_TAP.DDC_1]; first | decide +kernel | (split <;> decide +kernel))))
    | with_reducible refine Kept.lodEnd ?_ (Foot.le_trans (by decide +kernel) hf) _ _ _ _
    | with_reducible refine Kept.modTap ?_ (Foot.le_trans (by decide +kernel) hf) _ _ _
    | with_reducible refine Kept.foldl _ (fun y b hy => ?_) ?_

theorem Kept.lodDomain {f : Foot} {s x : State} (h : Kept f s x) (hf : Foot.le ⟨false, [], [], [.lod]⟩ f = true) (a0 : Nat) :
    Kept f s (State.lodDomain x a0) := by
  unfold Sys2Proof.Machine.State.lodDomain
  repeat' first
    | with_reducible assumption
    | with_reducible refine Kept.ite ?_ ?_
    | with_reducible refine Kept.foldl _ (fun y b hy => ?_) ?_
    | lift_lets
    | with_reducible exact Kept.set_lod _ (by with_reducible assumption) (Foot.part_of_le hf (by decide +kernel : Foot.part _ .lod = true))

theorem Kept.lodStart {f : Foot} {s x : State} (h : Kept f s x) (hf : Foot.le ⟨false, [0x00, 0x10, 0x15, 0x1B], [], [.lod]⟩ f = true) (a0 : Fin 8) :
    Kept f s (State.lodStart x a0) := by
  unfold Sys2Proof.Machine.State.lodStart
  repeat' first
    | with_reducible assumption
    | with_reducible refine Kept.ite ?_ ?_
    | with_reducible refine Kept.modCore ?_ (Foot.le_trans (by decide +kernel) hf) _ _
    | with_reducible refine Kept.put _ _ ?_ (Foot.word_of_le hf (by first | decide +kernel | (simp only [LOD_STAT.CAUSE, LOD_STAT.addr_win, LOD_ENTRY.ENTRY, LOD_ENTRY.addr_win, LOD_STAT.V24, LOD_STAT.V56, LOD_STAT.SAT, LOD_STAT.STATE, LOD_CNT0.INVOC, LOD_CNT0.addr_win]; first | decide +kernel | (split <;> decide +kernel))))
    | with_reducible refine Kept.beginInvoc ?_ (Foot.le_trans (by decide +kernel) hf) _
    | with_reducible refine Kept.clearActive ?_ (Foot.le_trans (by decide +kernel) hf) _

theorem Kept.lodCmd {f : Foot} {s x : State} (h : Kept f s x) (hf : Foot.le ⟨false, [0x00, 0x10, 0x15, 0x1B], [], [.freeCtr, .flt, .lod]⟩ f = true) (a0 : Fin 8) (a1 : Word) :
    Kept.res f s (State.lodCmd x a0 a1) := by
  unfold Sys2Proof.Machine.State.lodCmd
  repeat' first
    | with_reducible assumption
    | with_reducible refine Kept.res_ite ?_ ?_
    | with_reducible refine Kept.res_ok ?_
    | with_reducible exact Kept.res_error _ _ _
    | with_reducible refine Kept.lodStart ?_ (Foot.le_trans (by decide +kernel) hf) _
    | with_reducible refine Kept.lodEnd ?_ (Foot.le_trans (by decide +kernel) hf) _ _ _ _
    | with_reducible refine Kept.settleStop ?_ (Foot.le_trans (by decide +kernel) hf) _
    | with_reducible refine Kept.modCore ?_ (Foot.le_trans (by decide +kernel) hf) _ _

theorem Kept.lodRules {f : Foot} {s x : State} (h : Kept f s x) (hf : Foot.le ⟨false, [0x00, 0x10, 0x15, 0x1B], [], [.freeCtr, .flt, .lod]⟩ f = true) (b0 : Source) (b1 : Nat) (b2 : Word) :
    Kept.res f s (lodRules.act b0 b1 b2 x) := by
  unfold Sys2Proof.Machine.lodRules
  repeat' first
    | with_reducible assumption
    | with_reducible refine Kept.res_ite ?_ ?_
    | with_reducible refine Kept.res_ok ?_
    | with_reducible refine Kept.lodCmd ?_ (Foot.le_trans (by decide +kernel) hf) _ _
    | with_reducible refine Kept.modCore ?_ (Foot.le_trans (by decide +kernel) hf) _ _

theorem Kept.storeWord {f : Foot} {s x : State} (h : Kept f s x) (hf : Foot.le ⟨false, [0x00, 0x15, 0x1B], [], [.sram, .flt]⟩ f = true) (a0 : Fin 8) (a1 : Nat) (a2 : BitVec 32) :
    Kept f s (State.storeWord x a0 a1 a2) := by
  unfold Sys2Proof.Machine.State.storeWord
  repeat' first
    | with_reducible assumption
    | with_reducible refine Kept.unpoison ?_ (Foot.le_trans (by decide +kernel) hf) _ _
    | with_reducible refine Kept.setSramLE _ ?_ (Foot.part_of_le hf (by decide +kernel : Foot.part _ .sram = true)) _ _

theorem Kept.landXfers {f : Foot} {s x : State} (h : Kept f s x) (hf : Foot.le ⟨false, [0x00, 0x15, 0x1B], [], [.sram, .freeCtr, .flt, .lod]⟩ f = true) (a0 : Fin 8) (a1 : List (Nat × BitVec 24)) (a2 : List (Nat × BitVec 24)) :
    Kept f s (State.landXfers x a0 a1 a2) := by
  unfold Sys2Proof.Machine.State.landXfers
  repeat' first
    | with_reducible assumption
    | with_reducible refine Kept.ite ?_ ?_
    | with_reducible refine Kept.storeWord ?_ (Foot.le_trans (by decide +kernel) hf) _ _ _
    | with_reducible refine Kept.setDreg ?_ (Foot.le_trans (by decide +kernel) hf) _ _ _
    | with_reducible refine Kept.drawFree ?_ (Foot.le_trans (by decide +kernel) hf)
    | with_reducible refine Kept.foldl _ (fun y b hy => ?_) ?_

theorem Kept.gather {f : Foot} {s : State} (hf : Foot.le ⟨false, [], [], [.lod]⟩ f = true) (old : State) (n : Fin 8) (l : List Xfer) :
    ∀ {x : State} (_ : Kept f s x), Kept.eff f s (State.gather old n l x) := by
  induction l with
  | nil => exact fun h => h
  | cons a l ih =>
    intro x h
    unfold State.gather
    refine Kept.eff_ite (ih h) (Kept.eff_ite ?_ ?_)
    · split
      · trivial
      · have := ih (Kept.advance h hf n a.g)
        split
        · trivial
        · next e => rw [e] at this; exact this
    · have := ih (Kept.advance h hf n a.g)
      split
      · trivial
      · next e => rw [e] at this; exact this

theorem Kept.multiplicand {f : Foot} {s x t : State} (h : Kept f s x) (hf : Foot.le ⟨false, [], [], [.lod]⟩ f = true) (old : State) (n : Fin 8)
    (m : Nat) {v : BitVec 24} (e : State.multiplicand old x n m = .ok (v, t)) : Kept f s t := by
  unfold State.multiplicand at e
  split at e
  · cases e; exact h
  · split at e
    · cases e
    · cases e; exact Kept.ite (Kept.advance h hf _ _) h

theorem Kept.of_gather {f : Foot} {s x t : State} (h : Kept f s x) (hf : Foot.le ⟨false, [], [], [.lod]⟩ f = true) {old : State} {n : Fin 8}
    {l : List Xfer} {ls : List (Nat × BitVec 24) × List (Nat × BitVec 24)} (e : State.gather old n l x = .ok (t, ls)) : Kept f s t := by
  have := Kept.gather hf old n l h
  rw [e] at this; exact this

theorem Kept.cmplxOp {f : Foot} {s x : State} (h : Kept f s x) (hf : Foot.le ⟨false, [0x00, 0x10, 0x15, 0x1B], [], [.sram, .freeCtr, .flt, .lod]⟩ f = true) (a0 : Fin 8) (a1 : BitVec 26) (a2 : Bool) (a3 : Int → Int → Int) :
    Kept f s (State.cmplxOp x a0 a1 a2 a3) := by
  unfold State.cmplxOp
  refine Kept.lodIssue h (Foot.le_trans (by decide +kernel) hf) _ _ _ _ _ (fun y hy => ?_)
  dsimp only
  split
  · trivial
  · next e1 =>
    have h1 := Kept.of_gather hy (Foot.le_trans (by decide +kernel) hf) e1
    exact Kept.landXfers (Kept.setAcc (Kept.setAcc h1 (Foot.le_trans (by decide +kernel) hf) _ _ _) (Foot.le_trans (by decide +kernel) hf) _ _ _) (Foot.le_trans (by decide +kernel) hf) _ _ _

theorem Kept.ldst {f : Foot} {s x : State} (h : Kept f s x) (hf : Foot.le ⟨false, [], [], [.lod]⟩ f = true) (a0 : Fin 8) (a1 : BitVec 26) :
    Kept f s (State.ldst x a0 a1).2 := by
  unfold Sys2Proof.Machine.State.ldst
  repeat' first
    | with_reducible assumption
    | with_reducible refine Kept.advance ?_ (Foot.le_trans (by decide +kernel) hf) _ _
    | split

theorem Kept.lodClockLost {f : Foot} {s x : State} (h : Kept f s x) (hf : Foot.le ⟨false, [0x00, 0x10, 0x15, 0x1B], [], [.freeCtr, .flt, .lod]⟩ f = true) :
    Kept f s (State.lodClockLost x) := by
  unfold Sys2Proof.Machine.State.lodClockLost
  repeat' first
    | with_reducible assumption
    | with_reducible refine Kept.ite ?_ ?_
    | with_reducible refine Kept.lodEnd ?_ (Foot.le_trans (by decide +kernel) hf) _ _ _ _
    | with_reducible refine Kept.foldl _ (fun y b hy => ?_) ?_

theorem Kept.macOp {f : Foot} {s x : State} (h : Kept f s x) (hf : Foot.le ⟨false, [0x00, 0x10, 0x15, 0x1B], [], [.sram, .freeCtr, .flt, .lod]⟩ f = true) (a0 : Fin 8) (a1 : BitVec 26) (a2 : Int → Int → Int) :
    Kept f s (State.macOp x a0 a1 a2) := by
  unfold State.macOp
  refine Kept.lodIssue h (Foot.le_trans (by decide +kernel) hf) _ _ _ _ _ (fun y hy => ?_)
  split
  · trivial
  · next e1 =>
    split
    · trivial
    · next e2 =>
      split
      · trivial
      · next e3 =>
        have h1 := Kept.multiplicand hy (Foot.le_trans (by decide +kernel) hf) _ _ _ e1
        have h2 := Kept.multiplicand h1 (Foot.le_trans (by decide +kernel) hf) _ _ _ e2
        have h3 := Kept.of_gather h2 (Foot.le_trans (by decide +kernel) hf) e3
        exact Kept.landXfers (Kept.setAcc h3 (Foot.le_trans (by decide +kernel) hf) _ _ _) (Foot.le_trans (by decide +kernel) hf) _ _ _

theorem Kept.mvsRead {f : Foot} {s x : State} (h : Kept f s x) (hf : Foot.le ⟨false, [], [], [.lod]⟩ f = true) (a0 : Fin 8) (a1 : Nat) :
    Kept f s (State.mvsRead x a0 a1).2 := by
  unfold Sys2Proof.Machine.State.mvsRead
  repeat' first
    | with_reducible assumption
    | with_reducible refine Kept.modCore ?_ (Foot.le_trans (by decide +kernel) hf) _ _
    | split

theorem Kept.setSr {f : Foot} {s x : State} (h : Kept f s x) (hf : Foot.le ⟨false, [0x10], [], [.lod]⟩ f = true) (a0 : Fin 8) (a1 : Nat) :
    Kept f s (State.setSr x a0 a1) := by
  unfold Sys2Proof.Machine.State.setSr
  repeat' first
    | with_reducible assumption
    | with_reducible refine Kept.modCore ?_ (Foot.le_trans (by decide +kernel) hf) _ _
    | with_reducible refine Kept.putB _ _ ?_ (Foot.word_of_le hf (by first | decide +kernel | (simp only [LOD_STAT.V24, LOD_STAT.addr_win, LOD_STAT.V56, LOD_STAT.SAT]; first | decide +kernel | (split <;> decide +kernel))))

theorem Kept.execAbs {f : Foot} {s x : State} (h : Kept f s x) (hf : Foot.le ⟨false, [0x00, 0x10, 0x15, 0x1B], [], [.freeCtr, .flt, .lod]⟩ f = true) (a0 : Fin 8) (a1 : BitVec 23) :
    ∃ t, execAbs a0 a1 x = .next t ∧ Kept f s t := by
  unfold Sys2Proof.Machine.execAbs
  refine ⟨_, rfl, ?_⟩
  repeat' first
    | with_reducible assumption
    | with_reducible refine Kept.aluOp ?_ (Foot.le_trans (by decide +kernel) hf) _ _ _ _

theorem Kept.execAdd {f : Foot} {s x : State} (h : Kept f s x) (hf : Foot.le ⟨false, [0x00, 0x10, 0x15, 0x1B], [], [.freeCtr, .flt, .lod]⟩ f = true) (a0 : Fin 8) (a1 : BitVec 23) :
    ∃ t, execAdd a0 a1 x = .next t ∧ Kept f s t := by
  unfold Sys2Proof.Machine.execAdd
  refine ⟨_, rfl, ?_⟩
  repeat' first
    | with_reducible assumption
    | with_reducible refine Kept.aluOp ?_ (Foot.le_trans (by decide +kernel) hf) _ _ _ _

theorem Kept.execAdda {f : Foot} {s x : State} (h : Kept f s x) (hf : Foot.le ⟨false, [0x00, 0x10, 0x15, 0x1B], [], [.freeCtr, .flt, .lod]⟩ f = true) (a0 : Fin 8) (a1 : BitVec 24) :
    ∃ t, execAdda a0 a1 x = .next t ∧ Kept f s t := by
  unfold Sys2Proof.Machine.execAdda
  refine ⟨_, rfl, ?_⟩
  repeat' first
    | with_reducible assumption
    | with_reducible refine Kept.accOp ?_ (Foot.le_trans (by decide +kernel) hf) _ _ _

theorem Kept.execAddg {f : Foot} {s x : State} (h : Kept f s x) (hf : Foot.le ⟨false, [0x00, 0x10, 0x15, 0x1B], [], [.freeCtr, .flt, .lod]⟩ f = true) (a0 : Fin 8) (a1 : BitVec 28) :
    ∃ t, execAddg a0 a1 x = .next t ∧ Kept f s t := by
  unfold Sys2Proof.Machine.execAddg
  refine ⟨_, rfl, ?_⟩
  repeat' first
    | with_reducible assumption
    | with_reducible refine Kept.addrOp ?_ (Foot.le_trans (by decide +kernel) hf) _ _ _

theorem Kept.execAluiAbs {f : Foot} {s x : State} (h : Kept f s x) (hf : Foot.le ⟨false, [0x00, 0x10, 0x15, 0x1B], [], [.freeCtr, .flt, .lod]⟩ f = true) (a0 : Fin 8) (a1 : BitVec 23) :
    ∃ t, execAluiAbs a0 a1 x = .next t ∧ Kept f s t := by
  unfold Sys2Proof.Machine.execAluiAbs
  refine ⟨_, rfl, ?_⟩
  repeat' first
    | with_reducible assumption
    | with_reducible refine Kept.aluiOp ?_ (Foot.le_trans (by decide +kernel) hf) _ _ _ _

theorem Kept.execAluiAdd {f : Foot} {s x : State} (h : Kept f s x) (hf : Foot.le ⟨false, [0x00, 0x10, 0x15, 0x1B], [], [.freeCtr, .flt, .lod]⟩ f = true) (a0 : Fin 8) (a1 : BitVec 23) :
    ∃ t, execAluiAdd a0 a1 x = .next t ∧ Kept f s t := by
  unfold Sys2Proof.Machine.execAluiAdd
  refine ⟨_, rfl, ?_⟩
  repeat' first
    | with_reducible assumption
    | with_reducible refine Kept.aluiOp ?_ (Foot.le_trans (by decide +kernel) hf) _ _ _ _

theorem Kept.execAluiAnd {f : Foot} {s x : State} (h : Kept f s x) (hf : Foot.le ⟨false, [0x00, 0x10, 0x15, 0x1B], [], [.freeCtr, .flt, .lod]⟩ f = true) (a0 : Fin 8) (a1 : BitVec 23) :
    ∃ t, execAluiAnd a0 a1 x = .next t ∧ Kept f s t := by
  unfold Sys2Proof.Machine.execAluiAnd
  refine ⟨_, rfl, ?_⟩
  repeat' first
    | with_reducible assumption
    | with_reducible refine Kept.aluiOp ?_ (Foot.le_trans (by decide +kernel) hf) _ _ _ _

theorem Kept.execAluiAsr {f : Foot} {s x : State} (h : Kept f s x) (hf : Foot.le ⟨false, [0x00, 0x10, 0x15, 0x1B], [], [.freeCtr, .flt, .lod]⟩ f = true) (a0 : Fin 8) (a1 : BitVec 23) :
    ∃ t, execAluiAsr a0 a1 x = .next t ∧ Kept f s t := by
  unfold Sys2Proof.Machine.execAluiAsr
  refine ⟨_, rfl, ?_⟩
  repeat' first
    | with_reducible assumption
    | with_reducible refine Kept.aluiShift ?_ (Foot.le_trans (by decide +kernel) hf) _ _ _

theorem Kept.execAluiCmp {f : Foot} {s x : State} (h : Kept f s x) (hf : Foot.le ⟨false, [0x00, 0x10, 0x15, 0x1B], [], [.freeCtr, .flt, .lod]⟩ f = true) (a0 : Fin 8) (a1 : BitVec 23) :
    ∃ t, execAluiCmp a0 a1 x = .next t ∧ Kept f s t := by
  unfold Sys2Proof.Machine.execAluiCmp
  refine ⟨_, rfl, ?_⟩
  repeat' first
    | with_reducible assumption
    | with_reducible refine Kept.aluiOp ?_ (Foot.le_trans (by decide +kernel) hf) _ _ _ _

theorem Kept.execAluiLsr {f : Foot} {s x : State} (h : Kept f s x) (hf : Foot.le ⟨false, [0x00, 0x10, 0x15, 0x1B], [], [.freeCtr, .flt, .lod]⟩ f = true) (a0 : Fin 8) (a1 : BitVec 23) :
    ∃ t, execAluiLsr a0 a1 x = .next t ∧ Kept f s t := by
  unfold Sys2Proof.Machine.execAluiLsr
  refine ⟨_, rfl, ?_⟩
  repeat' first
    | with_reducible assumption
    | with_reducible refine Kept.aluiShift ?_ (Foot.le_trans (by decide +kernel) hf) _ _ _

theorem Kept.execAluiMov {f : Foot} {s x : State} (h : Kept f s x) (hf : Foot.le ⟨false, [0x00, 0x10, 0x15, 0x1B], [], [.freeCtr, .flt, .lod]⟩ f = true) (a0 : Fin 8) (a1 : BitVec 23) :
    ∃ t, execAluiMov a0 a1 x = .next t ∧ Kept f s t := by
  unfold Sys2Proof.Machine.execAluiMov
  refine ⟨_, rfl, ?_⟩
  repeat' first
    | with_reducible assumption
    | with_reducible refine Kept.aluiOp ?_ (Foot.le_trans (by decide +kernel) hf) _ _ _ _

theorem Kept.execAluiNeg {f : Foot} {s x : State} (h : Kept f s x) (hf : Foot.le ⟨false, [0x00, 0x10, 0x15, 0x1B], [], [.freeCtr, .flt, .lod]⟩ f = true) (a0 : Fin 8) (a1 : BitVec 23) :
    ∃ t, execAluiNeg a0 a1 x = .next t ∧ Kept f s t := by
  unfold Sys2Proof.Machine.execAluiNeg
  refine ⟨_, rfl, ?_⟩
  repeat' first
    | with_reducible assumption
    | with_reducible refine Kept.aluiOp ?_ (Foot.le_trans (by decide +kernel) hf) _ _ _ _

theorem Kept.execAluiOr {f : Foot} {s x : State} (h : Kept f s x) (hf : Foot.le ⟨false, [0x00, 0x10, 0x15, 0x1B], [], [.freeCtr, .flt, .lod]⟩ f = true) (a0 : Fin 8) (a1 : BitVec 23) :
    ∃ t, execAluiOr a0 a1 x = .next t ∧ Kept f s t := by
  unfold Sys2Proof.Machine.execAluiOr
  refine ⟨_, rfl, ?_⟩
  repeat' first
    | with_reducible assumption
    | with_reducible refine Kept.aluiOp ?_ (Foot.le_trans (by decide +kernel) hf) _ _ _ _

theorem Kept.execAluiShl {f : Foot} {s x : State} (h : Kept f s x) (hf : Foot.le ⟨false, [0x00, 0x10, 0x15, 0x1B], [], [.freeCtr, .flt, .lod]⟩ f = true) (a0 : Fin 8) (a1 : BitVec 23) :
    ∃ t, execAluiShl a0 a1 x = .next t ∧ Kept f s t := by
  unfold Sys2Proof.Machine.execAluiShl
  refine ⟨_, rfl, ?_⟩
  repeat' first
    | with_reducible assumption
    | with_reducible refine Kept.aluiShift ?_ (Foot.le_trans (by decide +kernel) hf) _ _ _

theorem Kept.execAluiSub {f : Foot} {s x : State} (h : Kept f s x) (hf : Foot.le ⟨false, [0x00, 0x10, 0x15, 0x1B], [], [.freeCtr, .flt, .lod]⟩ f = true) (a0 : Fin 8) (a1 : BitVec 23) :
    ∃ t, execAluiSub a0 a1 x = .next t ∧ Kept f s t := by
  unfold Sys2Proof.Machine.execAluiSub
  refine ⟨_, rfl, ?_⟩
  repeat' first
    | with_reducible assumption
    | with_reducible refine Kept.aluiOp ?_ (Foot.le_trans (by decide +kernel) hf) _ _ _ _

theorem Kept.execAluiXor {f : Foot} {s x : State} (h : Kept f s x) (hf : Foot.le ⟨false, [0x00, 0x10, 0x15, 0x1B], [], [.freeCtr, .flt, .lod]⟩ f = true) (a0 : Fin 8) (a1 : BitVec 23) :
    ∃ t, execAluiXor a0 a1 x = .next t ∧ Kept f s t := by
  unfold Sys2Proof.Machine.execAluiXor
  refine ⟨_, rfl, ?_⟩
  repeat' first
    | with_reducible assumption
    | with_reducible refine Kept.aluiOp ?_ (Foot.le_trans (by decide +kernel) hf) _ _ _ _

theorem Kept.execAnd {f : Foot} {s x : State} (h : Kept f s x) (hf : Foot.le ⟨false, [0x00, 0x10, 0x15, 0x1B], [], [.freeCtr, .flt, .lod]⟩ f = true) (a0 : Fin 8) (a1 : BitVec 23) :
    ∃ t, execAnd a0 a1 x = .next t ∧ Kept f s t := by
  unfold Sys2Proof.Machine.execAnd
  refine ⟨_, rfl, ?_⟩
  repeat' first
    | with_reducible assumption
    | with_reducible refine Kept.aluOp ?_ (Foot.le_trans (by decide +kernel) hf) _ _ _ _

theorem Kept.execAsh {f : Foot} {s x : State} (h : Kept f s x) (hf : Foot.le ⟨false, [0x00, 0x10, 0x15, 0x1B], [], [.freeCtr, .flt, .lod]⟩ f = true) (a0 : Fin 8) (a1 : BitVec 24) :
    ∃ t, execAsh a0 a1 x = .next t ∧ Kept f s t := by
  unfold Sys2Proof.Machine.execAsh
  refine ⟨_, rfl, ?_⟩
  repeat' first
    | with_reducible assumption
    | with_reducible refine Kept.accOp ?_ (Foot.le_trans (by decide +kernel) hf) _ _ _

theorem Kept.execAsr {f : Foot} {s x : State} (h : Kept f s x) (hf : Foot.le ⟨false, [0x00, 0x10, 0x15, 0x1B], [], [.freeCtr, .flt, .lod]⟩ f = true) (a0 : Fin 8) (a1 : BitVec 23) :
    ∃ t, execAsr a0 a1 x = .next t ∧ Kept f s t := by
  unfold Sys2Proof.Machine.execAsr
  refine ⟨_, rfl, ?_⟩
  repeat' first
    | with_reducible assumption
    | with_reducible refine Kept.aluShift ?_ (Foot.le_trans (by decide +kernel) hf) _ _ _

theorem Kept.execBcc {f : Foot} {s x : State} (h : Kept f s x) (hf : Foot.le ⟨false, [0x00, 0x10, 0x15, 0x1B], [], [.freeCtr, .flt, .lod]⟩ f = true) (a0 : Fin 8) (a1 : BitVec 26) :
    ∃ t, execBcc a0 a1 x = .next t ∧ Kept f s t := by
  unfold Sys2Proof.Machine.execBcc
  refine ⟨_, rfl, ?_⟩
  repeat' first
    | with_reducible assumption
    | with_reducible refine Kept.lodIssue ?_ (Foot.le_trans (by decide +kernel) hf) _ _ _ _ _ (fun y hy => ?_)
    | with_reducible refine Kept.eff_ok ?_

theorem Kept.execBra {f : Foot} {s x : State} (h : Kept f s x) (hf : Foot.le ⟨false, [0x00, 0x10, 0x15, 0x1B], [], [.freeCtr, .flt, .lod]⟩ f = true) (a0 : Fin 8) (a1 : BitVec 26) :
    ∃ t, execBra a0 a1 x = .next t ∧ Kept f s t := by
  unfold Sys2Proof.Machine.execBra
  refine ⟨_, rfl, ?_⟩
  repeat' first
    | with_reducible assumption
    | with_reducible refine Kept.lodIssue ?_ (Foot.le_trans (by decide +kernel) hf) _ _ _ _ _ (fun y hy => ?_)
    | with_reducible refine Kept.eff_ok ?_

theorem Kept.execBudgetOverrun {f : Foot} {s x : State} (h : Kept f s x) (hf : Foot.le ⟨false, [0x00, 0x10, 0x15, 0x1B], [], [.freeCtr, .flt, .lod]⟩ f = true) (a0 : Fin 8) :
    ∃ t, execBudgetOverrun a0 x = .next t ∧ Kept f s t := by
  unfold Sys2Proof.Machine.execBudgetOverrun
  refine ⟨_, rfl, ?_⟩
  repeat' first
    | with_reducible assumption
    | with_reducible refine Kept.ite ?_ ?_
    | with_reducible refine Kept.modCore ?_ (Foot.le_trans (by decide +kernel) hf) _ _
    | with_reducible refine Kept.put _ _ ?_ (Foot.word_of_le hf (by first | decide +kernel | (simp only [LOD_BUDGET.CYCLES, LOD_BUDGET.addr_win, LOD_CNT1.OVERRUN, LOD_CNT1.addr_win, LOD_STAT.OVERRUN, LOD_STAT.addr_win, LOD_CTRL.BUDGET_TRAP, LOD_CTRL.addr_win]; first | decide +kernel | (split <;> decide +kernel))))
    | with_reducible refine Kept.bump _ ?_ (Foot.word_of_le hf (by first | decide +kernel | (simp only [LOD_BUDGET.CYCLES, LOD_BUDGET.addr_win, LOD_CNT1.OVERRUN, LOD_CNT1.addr_win, LOD_STAT.OVERRUN, LOD_STAT.addr_win, LOD_CTRL.BUDGET_TRAP, LOD_CTRL.addr_win]; first | decide +kernel | (split <;> decide +kernel))))
    | with_reducible refine Kept.fltInfo ?_ (Foot.le_trans (by decide +kernel) hf) _ _ _ _ _
    | with_reducible refine Kept.lodEnd ?_ (Foot.le_trans (by decide +kernel) hf) _ _ _ _

theorem Kept.execCall {f : Foot} {s x : State} (h : Kept f s x) (hf : Foot.le ⟨false, [0x00, 0x10, 0x15, 0x1B], [], [.freeCtr, .flt, .lod]⟩ f = true) (a0 : Fin 8) (a1 : BitVec 26) :
    ∃ t, execCall a0 a1 x = .next t ∧ Kept f s t := by
  unfold Sys2Proof.Machine.execCall
  refine ⟨_, rfl, ?_⟩
  repeat' first
    | with_reducible assumption
    | with_reducible refine Kept.lodIssue ?_ (Foot.le_trans (by decide +kernel) hf) _ _ _ _ _ (fun y hy => ?_)
    | with_reducible refine Kept.modCore ?_ (Foot.le_trans (by decide +kernel) hf) _ _
    | with_reducible exact Kept.eff_error _ _ _
    | with_reducible refine Kept.eff_ok ?_
    | with_reducible refine Kept.eff_ite ?_ ?_

theorem Kept.execClra {f : Foot} {s x : State} (h : Kept f s x) (hf : Foot.le ⟨false, [0x00, 0x10, 0x15, 0x1B], [], [.freeCtr, .flt, .lod]⟩ f = true) (a0 : Fin 8) (a1 : BitVec 24) :
    ∃ t, execClra a0 a1 x = .next t ∧ Kept f s t := by
  unfold Sys2Proof.Machine.execClra
  refine ⟨_, rfl, ?_⟩
  repeat' first
    | with_reducible assumption
    | with_reducible refine Kept.accOp ?_ (Foot.le_trans (by decide +kernel) hf) _ _ _

theorem Kept.execClrv {f : Foot} {s x : State} (h : Kept f s x) (hf : Foot.le ⟨false, [0x00, 0x10, 0x15, 0x1B], [], [.freeCtr, .flt, .lod]⟩ f = true) (a0 : Fin 8) (a1 : BitVec 24) :
    ∃ t, execClrv a0 a1 x = .next t ∧ Kept f s t := by
  unfold Sys2Proof.Machine.execClrv
  refine ⟨_, rfl, ?_⟩
  repeat' first
    | with_reducible assumption
    | with_reducible refine Kept.lodIssue ?_ (Foot.le_trans (by decide +kernel) hf) _ _ _ _ _ (fun y hy => ?_)
    | with_reducible refine Kept.put _ _ ?_ (Foot.word_of_le hf (by first | decide +kernel | (simp only [LOD_STAT.V24, LOD_STAT.addr_win, LOD_STAT.V56]; first | decide +kernel | (split <;> decide +kernel))))
    | with_reducible refine Kept.eff_runOn ?_

theorem Kept.execCmac {f : Foot} {s x : State} (h : Kept f s x) (hf : Foot.le ⟨false, [0x00, 0x10, 0x15, 0x1B], [], [.sram, .freeCtr, .flt, .lod]⟩ f = true) (a0 : Fin 8) (a1 : BitVec 26) :
    ∃ t, execCmac a0 a1 x = .next t ∧ Kept f s t := by
  unfold Sys2Proof.Machine.execCmac
  refine ⟨_, rfl, ?_⟩
  repeat' first
    | with_reducible assumption
    | with_reducible refine Kept.cmplxOp ?_ (Foot.le_trans (by decide +kernel) hf) _ _ _ _

theorem Kept.execCmacj {f : Foot} {s x : State} (h : Kept f s x) (hf : Foot.le ⟨false, [0x00, 0x10, 0x15, 0x1B], [], [.sram, .freeCtr, .flt, .lod]⟩ f = true) (a0 : Fin 8) (a1 : BitVec 26) :
    ∃ t, execCmacj a0 a1 x = .next t ∧ Kept f s t := by
  unfold Sys2Proof.Machine.execCmacj
  refine ⟨_, rfl, ?_⟩
  repeat' first
    | with_reducible assumption
    | with_reducible refine Kept.cmplxOp ?_ (Foot.le_trans (by decide +kernel) hf) _ _ _ _

theorem Kept.execCmp {f : Foot} {s x : State} (h : Kept f s x) (hf : Foot.le ⟨false, [0x00, 0x10, 0x15, 0x1B], [], [.freeCtr, .flt, .lod]⟩ f = true) (a0 : Fin 8) (a1 : BitVec 23) :
    ∃ t, execCmp a0 a1 x = .next t ∧ Kept f s t := by
  unfold Sys2Proof.Machine.execCmp
  refine ⟨_, rfl, ?_⟩
  repeat' first
    | with_reducible assumption
    | with_reducible refine Kept.aluOp ?_ (Foot.le_trans (by decide +kernel) hf) _ _ _ _

theorem Kept.execCmpy {f : Foot} {s x : State} (h : Kept f s x) (hf : Foot.le ⟨false, [0x00, 0x10, 0x15, 0x1B], [], [.sram, .freeCtr, .flt, .lod]⟩ f = true) (a0 : Fin 8) (a1 : BitVec 26) :
    ∃ t, execCmpy a0 a1 x = .next t ∧ Kept f s t := by
  unfold Sys2Proof.Machine.execCmpy
  refine ⟨_, rfl, ?_⟩
  repeat' first
    | with_reducible assumption
    | with_reducible refine Kept.cmplxOp ?_ (Foot.le_trans (by decide +kernel) hf) _ _ _ _

theorem Kept.execCmsu {f : Foot} {s x : State} (h : Kept f s x) (hf : Foot.le ⟨false, [0x00, 0x10, 0x15, 0x1B], [], [.sram, .freeCtr, .flt, .lod]⟩ f = true) (a0 : Fin 8) (a1 : BitVec 26) :
    ∃ t, execCmsu a0 a1 x = .next t ∧ Kept f s t := by
  unfold Sys2Proof.Machine.execCmsu
  refine ⟨_, rfl, ?_⟩
  repeat' first
    | with_reducible assumption
    | with_reducible refine Kept.cmplxOp ?_ (Foot.le_trans (by decide +kernel) hf) _ _ _ _

theorem Kept.execDi {f : Foot} {s x : State} (h : Kept f s x) (hf : Foot.le ⟨false, [0x00, 0x10, 0x15, 0x1B], [], [.freeCtr, .flt, .lod]⟩ f = true) (a0 : Fin 8) (a1 : BitVec 24) :
    ∃ t, execDi a0 a1 x = .next t ∧ Kept f s t := by
  unfold Sys2Proof.Machine.execDi
  refine ⟨_, rfl, ?_⟩
  repeat' first
    | with_reducible assumption
    | with_reducible refine Kept.lodIssue ?_ (Foot.le_trans (by decide +kernel) hf) _ _ _ _ _ (fun y hy => ?_)
    | with_reducible refine Kept.modCore ?_ (Foot.le_trans (by decide +kernel) hf) _ _
    | with_reducible refine Kept.eff_runOn ?_

theorem Kept.execEi {f : Foot} {s x : State} (h : Kept f s x) (hf : Foot.le ⟨false, [0x00, 0x10, 0x15, 0x1B], [], [.freeCtr, .flt, .lod]⟩ f = true) (a0 : Fin 8) (a1 : BitVec 24) :
    ∃ t, execEi a0 a1 x = .next t ∧ Kept f s t := by
  unfold Sys2Proof.Machine.execEi
  refine ⟨_, rfl, ?_⟩
  repeat' first
    | with_reducible assumption
    | with_reducible refine Kept.lodIssue ?_ (Foot.le_trans (by decide +kernel) hf) _ _ _ _ _ (fun y hy => ?_)
    | with_reducible refine Kept.modCore ?_ (Foot.le_trans (by decide +kernel) hf) _ _
    | with_reducible refine Kept.eff_runOn ?_

theorem Kept.execHostev {f : Foot} {s x : State} (h : Kept f s x) (hf : Foot.le ⟨false, [0x00, 0x10, 0x15, 0x1B], [], [.freeCtr, .flt, .lod]⟩ f = true) (a0 : Fin 8) (a1 : BitVec 24) :
    ∃ t, execHostev a0 a1 x = .next t ∧ Kept f s t := by
  unfold Sys2Proof.Machine.execHostev
  refine ⟨_, rfl, ?_⟩
  repeat' first
    | with_reducible assumption
    | with_reducible refine Kept.lodIssue ?_ (Foot.le_trans (by decide +kernel) hf) _ _ _ _ _ (fun y hy => ?_)
    | with_reducible refine Kept.raiseIrq ?_ (Foot.le_trans (by decide +kernel) hf) _
    | with_reducible refine Kept.put _ _ ?_ (Foot.word_of_le hf (by first | decide +kernel | (simp only [LOD_STAT.HOSTEV, LOD_STAT.addr_win]; first | decide +kernel | (split <;> decide +kernel))))
    | with_reducible refine Kept.eff_runOn ?_

theorem Kept.execInterruptEntry {f : Foot} {s x : State} (h : Kept f s x) (hf : Foot.le ⟨false, [0x00, 0x10, 0x15, 0x1B], [], [.freeCtr, .flt, .lod]⟩ f = true) (a0 : Fin 8) :
    ∃ t, execInterruptEntry a0 x = .next t ∧ Kept f s t := by
  unfold Sys2Proof.Machine.execInterruptEntry
  refine ⟨_, rfl, ?_⟩
  repeat' first
    | with_reducible assumption
    | with_reducible refine Kept.ite ?_ ?_
    | with_reducible refine Kept.takeIrq ?_ (Foot.le_trans (by decide +kernel) hf) _ _
    | split

theorem Kept.execLd {f : Foot} {s x : State} (h : Kept f s x) (hf : Foot.le ⟨false, [0x00, 0x10, 0x15, 0x1B], [], [.freeCtr, .flt, .lod]⟩ f = true) (a0 : Fin 8) (a1 : BitVec 26) :
    ∃ t, execLd a0 a1 x = .next t ∧ Kept f s t := by
  unfold Sys2Proof.Machine.execLd
  refine ⟨_, rfl, ?_⟩
  repeat' first
    | with_reducible assumption
    | with_reducible refine Kept.lodIssue ?_ (Foot.le_trans (by decide +kernel) hf) _ _ _ _ _ (fun y hy => ?_)
    | with_reducible refine Kept.ldst ?_ (Foot.le_trans (by decide +kernel) hf) _ _
    | with_reducible refine Kept.setDreg ?_ (Foot.le_trans (by decide +kernel) hf) _ _ _
    | with_reducible exact Kept.eff_error _ _ _
    | with_reducible refine Kept.eff_ok ?_
    | with_reducible refine Kept.of_snd ?_ (by with_reducible assumption)
    | split

theorem Kept.execLda {f : Foot} {s x : State} (h : Kept f s x) (hf : Foot.le ⟨false, [0x00, 0x10, 0x15, 0x1B], [], [.freeCtr, .flt, .lod]⟩ f = true) (a0 : Fin 8) (a1 : BitVec 24) (a2 : BitVec 32) :
    ∃ t, execLda a0 a1 a2 x = .next t ∧ Kept f s t := by
  unfold Sys2Proof.Machine.execLda
  refine ⟨_, rfl, ?_⟩
  repeat' first
    | with_reducible assumption
    | with_reducible refine Kept.lodIssue ?_ (Foot.le_trans (by decide +kernel) hf) _ _ _ _ _ (fun y hy => ?_)
    | with_reducible refine Kept.setDreg ?_ (Foot.le_trans (by decide +kernel) hf) _ _ _
    | with_reducible exact Kept.eff_error _ _ _
    | with_reducible refine Kept.eff_ok ?_
    | split

theorem Kept.execLdg {f : Foot} {s x : State} (h : Kept f s x) (hf : Foot.le ⟨false, [0x00, 0x10, 0x15, 0x1B], [], [.freeCtr, .flt, .lod]⟩ f = true) (a0 : Fin 8) (a1 : BitVec 28) :
    ∃ t, execLdg a0 a1 x = .next t ∧ Kept f s t := by
  unfold Sys2Proof.Machine.execLdg
  refine ⟨_, rfl, ?_⟩
  repeat' first
    | with_reducible assumption
    | with_reducible refine Kept.addrOp ?_ (Foot.le_trans (by decide +kernel) hf) _ _ _

theorem Kept.execLdi {f : Foot} {s x : State} (h : Kept f s x) (hf : Foot.le ⟨false, [0x00, 0x10, 0x15, 0x1B], [], [.freeCtr, .flt, .lod]⟩ f = true) (a0 : Fin 8) (a1 : BitVec 24) (a2 : BitVec 32) :
    ∃ t, execLdi a0 a1 a2 x = .next t ∧ Kept f s t := by
  unfold Sys2Proof.Machine.execLdi
  refine ⟨_, rfl, ?_⟩
  repeat' first
    | with_reducible assumption
    | with_reducible refine Kept.lodIssue ?_ (Foot.le_trans (by decide +kernel) hf) _ _ _ _ _ (fun y hy => ?_)
    | with_reducible refine Kept.setDreg ?_ (Foot.le_trans (by decide +kernel) hf) _ _ _
    | with_reducible refine Kept.eff_runOn ?_

theorem Kept.execLdl {f : Foot} {s x : State} (h : Kept f s x) (hf : Foot.le ⟨false, [0x00, 0x10, 0x15, 0x1B], [], [.freeCtr, .flt, .lod]⟩ f = true) (a0 : Fin 8) (a1 : BitVec 26) :
    ∃ t, execLdl a0 a1 x = .next t ∧ Kept f s t := by
  unfold Sys2Proof.Machine.execLdl
  refine ⟨_, rfl, ?_⟩
  repeat' first
    | with_reducible assumption
    | with_reducible refine Kept.lodIssue ?_ (Foot.le_trans (by decide +kernel) hf) _ _ _ _ _ (fun y hy => ?_)
    | with_reducible refine Kept.ldst ?_ (Foot.le_trans (by decide +kernel) hf) _ _
    | with_reducible refine Kept.modCore ?_ (Foot.le_trans (by decide +kernel) hf) _ _
    | with_reducible exact Kept.eff_error _ _ _
    | with_reducible refine Kept.eff_ok ?_
    | with_reducible refine Kept.of_snd ?_ (by with_reducible assumption)
    | split

theorem Kept.execLodBusyWindow {f : Foot} {s x : State} (h : Kept f s x) (hf : Foot.le ⟨false, [0x10], [], [.lod]⟩ f = true) (a0 : Fin 8) (a1 : Nat) :
    ∃ t, execLodBusyWindow a0 a1 x = .next t ∧ Kept f s t := by
  unfold Sys2Proof.Machine.execLodBusyWindow
  refine ⟨_, rfl, ?_⟩
  repeat' first
    | with_reducible assumption
    | with_reducible refine Kept.ite ?_ ?_
    | with_reducible refine Kept.put _ _ ?_ (Foot.word_of_le hf (by first | decide +kernel | (simp only [LOD_BUSY.BUSY, LOD_BUSY.addr_win, LOD_CNT1.ISTALL, LOD_CNT1.addr_win, LOD_CNT1.MSTALL]; first | decide +kernel | (split <;> decide +kernel))))
    | with_reducible refine Kept.modCore ?_ (Foot.le_trans (by decide +kernel) hf) _ _

theorem Kept.execLodDoor {f : Foot} {s x : State} (h : Kept f s x) (hf : Foot.le ⟨false, [0x00, 0x10, 0x15, 0x1B], [], [.freeCtr, .resp, .sys, .flt, .lod]⟩ f = true) (a0 : Fin 8) (a1 : Source) (a2 : Word) :
    ∃ t, execLodDoor a0 a1 a2 x = .next t ∧ Kept f s t := by
  unfold Sys2Proof.Machine.execLodDoor
  refine ⟨_, rfl, ?_⟩
  repeat' first
    | with_reducible assumption
    | with_reducible refine Kept.writeReg ?_ (fun y b0 b1 b2 => Kept.lodRules (Kept.refl _ y) (Foot.le_trans (by decide +kernel) hf) b0 b1 b2) (Foot.word_of_le hf (by first | decide +kernel | (simp only [LOD_DOOR.addr_win]; first | decide +kernel | (split <;> decide +kernel)))) (Foot.word_of_le hf (by first | decide +kernel | (simp only [LOD_DOOR.addr_win]; first | decide +kernel | (split <;> decide +kernel)))) (Foot.word_of_le hf (by decide +kernel)) (Foot.part_of_le hf (by decide +kernel : Foot.part _ .resp = true)) (Foot.part_of_le hf (by decide +kernel : Foot.part _ .sys = true))

theorem Kept.execLodStart {f : Foot} {s x : State} (h : Kept f s x) (hf : Foot.le ⟨false, [0x00, 0x10, 0x15, 0x1B], [], [.freeCtr, .resp, .sys, .flt, .lod]⟩ f = true) (a0 : Fin 8) (a1 : Source) (a2 : Word) :
    ∃ t, execLodStart a0 a1 a2 x = .next t ∧ Kept f s t := by
  unfold Sys2Proof.Machine.execLodStart
  refine ⟨_, rfl, ?_⟩
  repeat' first
    | with_reducible assumption
    | with_reducible refine Kept.writeReg ?_ (fun y b0 b1 b2 => Kept.lodRules (Kept.refl _ y) (Foot.le_trans (by decide +kernel) hf) b0 b1 b2) (Foot.word_of_le hf (by first | decide +kernel | (simp only [LOD_CMD.addr_win]; first | decide +kernel | (split <;> decide +kernel)))) (Foot.word_of_le hf (by first | decide +kernel | (simp only [LOD_CMD.addr_win]; first | decide +kernel | (split <;> decide +kernel)))) (Foot.word_of_le hf (by decide +kernel)) (Foot.part_of_le hf (by decide +kernel : Foot.part _ .resp = true)) (Foot.part_of_le hf (by decide +kernel : Foot.part _ .sys = true))

theorem Kept.execLodStop {f : Foot} {s x : State} (h : Kept f s x) (hf : Foot.le ⟨false, [0x00, 0x10, 0x15, 0x1B], [], [.freeCtr, .resp, .sys, .flt, .lod]⟩ f = true) (a0 : Fin 8) (a1 : Source) (a2 : Word) :
    ∃ t, execLodStop a0 a1 a2 x = .next t ∧ Kept f s t := by
  unfold Sys2Proof.Machine.execLodStop
  refine ⟨_, rfl, ?_⟩
  repeat' first
    | with_reducible assumption
    | with_reducible refine Kept.writeReg ?_ (fun y b0 b1 b2 => Kept.lodRules (Kept.refl _ y) (Foot.le_trans (by decide +kernel) hf) b0 b1 b2) (Foot.word_of_le hf (by first | decide +kernel | (simp only [LOD_CMD.addr_win]; first | decide +kernel | (split <;> decide +kernel)))) (Foot.word_of_le hf (by first | decide +kernel | (simp only [LOD_CMD.addr_win]; first | decide +kernel | (split <;> decide +kernel)))) (Foot.word_of_le hf (by decide +kernel)) (Foot.part_of_le hf (by decide +kernel : Foot.part _ .resp = true)) (Foot.part_of_le hf (by decide +kernel : Foot.part _ .sys = true))

theorem Kept.execLodTimer {f : Foot} {s x : State} (h : Kept f s x) (hf : Foot.le ⟨false, [], [], [.lod]⟩ f = true) (a0 : Fin 8) :
    ∃ t, execLodTimer a0 x = .next t ∧ Kept f s t := by
  unfold Sys2Proof.Machine.execLodTimer
  refine ⟨_, rfl, ?_⟩
  repeat' first
    | with_reducible assumption
    | with_reducible refine Kept.ite ?_ ?_
    | with_reducible refine Kept.modCore ?_ (Foot.le_trans (by decide +kernel) hf) _ _

theorem Kept.execLoop {f : Foot} {s x : State} (h : Kept f s x) (hf : Foot.le ⟨false, [0x00, 0x10, 0x15, 0x1B], [], [.freeCtr, .flt, .lod]⟩ f = true) (a0 : Fin 8) (a1 : BitVec 27) :
    ∃ t, execLoop a0 a1 x = .next t ∧ Kept f s t := by
  unfold Sys2Proof.Machine.execLoop
  refine ⟨_, rfl, ?_⟩
  repeat' first
    | with_reducible assumption
    | with_reducible refine Kept.lodIssue ?_ (Foot.le_trans (by decide +kernel) hf) _ _ _ _ _ (fun y hy => ?_)
    | with_reducible exact Kept.eff_error _ _ _
    | with_reducible refine Kept.eff_ok ?_
    | split

theorem Kept.execLsr {f : Foot} {s x : State} (h : Kept f s x) (hf : Foot.le ⟨false, [0x00, 0x10, 0x15, 0x1B], [], [.freeCtr, .flt, .lod]⟩ f = true) (a0 : Fin 8) (a1 : BitVec 23) :
    ∃ t, execLsr a0 a1 x = .next t ∧ Kept f s t := by
  unfold Sys2Proof.Machine.execLsr
  refine ⟨_, rfl, ?_⟩
  repeat' first
    | with_reducible assumption
    | with_reducible refine Kept.aluShift ?_ (Foot.le_trans (by decide +kernel) hf) _ _ _

theorem Kept.execMac {f : Foot} {s x : State} (h : Kept f s x) (hf : Foot.le ⟨false, [0x00, 0x10, 0x15, 0x1B], [], [.sram, .freeCtr, .flt, .lod]⟩ f = true) (a0 : Fin 8) (a1 : BitVec 26) :
    ∃ t, execMac a0 a1 x = .next t ∧ Kept f s t := by
  unfold Sys2Proof.Machine.execMac
  refine ⟨_, rfl, ?_⟩
  repeat' first
    | with_reducible assumption
    | with_reducible refine Kept.macOp ?_ (Foot.le_trans (by decide +kernel) hf) _ _ _

theorem Kept.execMov {f : Foot} {s x : State} (h : Kept f s x) (hf : Foot.le ⟨false, [0x00, 0x10, 0x15, 0x1B], [], [.freeCtr, .flt, .lod]⟩ f = true) (a0 : Fin 8) (a1 : BitVec 23) :
    ∃ t, execMov a0 a1 x = .next t ∧ Kept f s t := by
  unfold Sys2Proof.Machine.execMov
  refine ⟨_, rfl, ?_⟩
  repeat' first
    | with_reducible assumption
    | with_reducible refine Kept.aluOp ?_ (Foot.le_trans (by decide +kernel) hf) _ _ _ _

theorem Kept.execMove {f : Foot} {s x : State} (h : Kept f s x) (hf : Foot.le ⟨false, [0x00, 0x10, 0x15, 0x1B], [], [.sram, .freeCtr, .flt, .lod]⟩ f = true) (a0 : Fin 8) (a1 : BitVec 28) :
    ∃ t, execMove a0 a1 x = .next t ∧ Kept f s t := by
  unfold Sys2Proof.Machine.execMove
  refine ⟨_, rfl, ?_⟩
  refine Kept.lodIssue h (Foot.le_trans (by decide +kernel) hf) _ _ _ _ _ (fun y hy => ?_)
  split
  · trivial
  · next e1 => exact Kept.landXfers (Kept.of_gather hy (Foot.le_trans (by decide +kernel) hf) e1) (Foot.le_trans (by decide +kernel) hf) _ _ _

theorem Kept.execMpy {f : Foot} {s x : State} (h : Kept f s x) (hf : Foot.le ⟨false, [0x00, 0x10, 0x15, 0x1B], [], [.sram, .freeCtr, .flt, .lod]⟩ f = true) (a0 : Fin 8) (a1 : BitVec 26) :
    ∃ t, execMpy a0 a1 x = .next t ∧ Kept f s t := by
  unfold Sys2Proof.Machine.execMpy
  refine ⟨_, rfl, ?_⟩
  repeat' first
    | with_reducible assumption
    | with_reducible refine Kept.macOp ?_ (Foot.le_trans (by decide +kernel) hf) _ _ _

theorem Kept.execMsu {f : Foot} {s x : State} (h : Kept f s x) (hf : Foot.le ⟨false, [0x00, 0x10, 0x15, 0x1B], [], [.sram, .freeCtr, .flt, .lod]⟩ f = true) (a0 : Fin 8) (a1 : BitVec 26) :
    ∃ t, execMsu a0 a1 x = .next t ∧ Kept f s t := by
  unfold Sys2Proof.Machine.execMsu
  refine ⟨_, rfl, ?_⟩
  repeat' first
    | with_reducible assumption
    | with_reducible refine Kept.macOp ?_ (Foot.le_trans (by decide +kernel) hf) _ _ _

theorem Kept.execMva {f : Foot} {s x : State} (h : Kept f s x) (hf : Foot.le ⟨false, [0x00, 0x10, 0x15, 0x1B], [], [.freeCtr, .flt, .lod]⟩ f = true) (a0 : Fin 8) (a1 : BitVec 24) :
    ∃ t, execMva a0 a1 x = .next t ∧ Kept f s t := by
  unfold Sys2Proof.Machine.execMva
  refine ⟨_, rfl, ?_⟩
  repeat' first
    | with_reducible assumption
    | with_reducible refine Kept.lodIssue ?_ (Foot.le_trans (by decide +kernel) hf) _ _ _ _ _ (fun y hy => ?_)
    | with_reducible refine Kept.accStore ?_ (Foot.le_trans (by decide +kernel) hf) _ _
    | with_reducible refine Kept.setDreg ?_ (Foot.le_trans (by decide +kernel) hf) _ _ _
    | with_reducible refine Kept.eff_runOn ?_

theorem Kept.execMvda {f : Foot} {s x : State} (h : Kept f s x) (hf : Foot.le ⟨false, [0x00, 0x10, 0x15, 0x1B], [], [.freeCtr, .flt, .lod]⟩ f = true) (a0 : Fin 8) (a1 : BitVec 24) :
    ∃ t, execMvda a0 a1 x = .next t ∧ Kept f s t := by
  unfold Sys2Proof.Machine.execMvda
  refine ⟨_, rfl, ?_⟩
  repeat' first
    | with_reducible assumption
    | with_reducible refine Kept.accOp ?_ (Foot.le_trans (by decide +kernel) hf) _ _ _

theorem Kept.execMvs {f : Foot} {s x : State} (h : Kept f s x) (hf : Foot.le ⟨false, [0x00, 0x10, 0x15, 0x1B], [], [.freeCtr, .flt, .lod]⟩ f = true) (a0 : Fin 8) (a1 : BitVec 26) :
    ∃ t, execMvs a0 a1 x = .next t ∧ Kept f s t := by
  unfold Sys2Proof.Machine.execMvs
  refine ⟨_, rfl, ?_⟩
  repeat' first
    | with_reducible assumption
    | with_reducible refine Kept.lodIssue ?_ (Foot.le_trans (by decide +kernel) hf) _ _ _ _ _ (fun y hy => ?_)
    | with_reducible refine Kept.mvsRead ?_ (Foot.le_trans (by decide +kernel) hf) _ _
    | with_reducible refine Kept.setDreg ?_ (Foot.le_trans (by decide +kernel) hf) _ _ _
    | with_reducible refine Kept.eff_runOn ?_

theorem Kept.execMvt {f : Foot} {s x : State} (h : Kept f s x) (hf : Foot.le ⟨false, [0x00, 0x10, 0x15, 0x1B], [], [.freeCtr, .flt, .lod]⟩ f = true) (a0 : Fin 8) (a1 : BitVec 26) :
    ∃ t, execMvt a0 a1 x = .next t ∧ Kept f s t := by
  unfold Sys2Proof.Machine.execMvt
  refine ⟨_, rfl, ?_⟩
  repeat' first
    | with_reducible assumption
    | with_reducible refine Kept.lodIssue ?_ (Foot.le_trans (by decide +kernel) hf) _ _ _ _ _ (fun y hy => ?_)
    | with_reducible refine Kept.setSr ?_ (Foot.le_trans (by decide +kernel) hf) _ _
    | with_reducible refine Kept.modCore ?_ (Foot.le_trans (by decide +kernel) hf) _ _
    | with_reducible refine Kept.eff_runOn ?_
    | split

theorem Kept.execNeg {f : Foot} {s x : State} (h : Kept f s x) (hf : Foot.le ⟨false, [0x00, 0x10, 0x15, 0x1B], [], [.freeCtr, .flt, .lod]⟩ f = true) (a0 : Fin 8) (a1 : BitVec 23) :
    ∃ t, execNeg a0 a1 x = .next t ∧ Kept f s t := by
  unfold Sys2Proof.Machine.execNeg
  refine ⟨_, rfl, ?_⟩
  repeat' first
    | with_reducible assumption
    | with_reducible refine Kept.aluOp ?_ (Foot.le_trans (by decide +kernel) hf) _ _ _ _

theorem Kept.execNop {f : Foot} {s x : State} (h : Kept f s x) (hf : Foot.le ⟨false, [0x00, 0x10, 0x15, 0x1B], [], [.freeCtr, .flt, .lod]⟩ f = true) (a0 : Fin 8) (a1 : BitVec 24) :
    ∃ t, execNop a0 a1 x = .next t ∧ Kept f s t := by
  unfold Sys2Proof.Machine.execNop
  refine ⟨_, rfl, ?_⟩
  repeat' first
    | with_reducible assumption
    | with_reducible refine Kept.lodIssue ?_ (Foot.le_trans (by decide +kernel) hf) _ _ _ _ _ (fun y hy => ?_)
    | with_reducible refine Kept.eff_runOn ?_
    | lift_lets
    | dsimp only [id]

theorem Kept.execOr {f : Foot} {s x : State} (h : Kept f s x) (hf : Foot.le ⟨false, [0x00, 0x10, 0x15, 0x1B], [], [.freeCtr, .flt, .lod]⟩ f = true) (a0 : Fin 8) (a1 : BitVec 23) :
    ∃ t, execOr a0 a1 x = .next t ∧ Kept f s t := by
  unfold Sys2Proof.Machine.execOr
  refine ⟨_, rfl, ?_⟩
  repeat' first
    | with_reducible assumption
    | with_reducible refine Kept.aluOp ?_ (Foot.le_trans (by decide +kernel) hf) _ _ _ _

theorem Kept.execRep {f : Foot} {s x : State} (h : Kept f s x) (hf : Foot.le ⟨false, [0x00, 0x10, 0x15, 0x1B], [], [.freeCtr, .flt, .lod]⟩ f = true) (a0 : Fin 8) (a1 : BitVec 27) :
    ∃ t, execRep a0 a1 x = .next t ∧ Kept f s t := by
  unfold Sys2Proof.Machine.execRep
  refine ⟨_, rfl, ?_⟩
  repeat' first
    | with_reducible assumption
    | with_reducible refine Kept.lodIssue ?_ (Foot.le_trans (by decide +kernel) hf) _ _ _ _ _ (fun y hy => ?_)
    | with_reducible exact Kept.eff_error _ _ _
    | with_reducible refine Kept.eff_ok ?_
    | split

theorem Kept.execReti {f : Foot} {s x : State} (h : Kept f s x) (hf : Foot.le ⟨false, [0x00, 0x10, 0x15, 0x1B], [], [.freeCtr, .flt, .lod]⟩ f = true) (a0 : Fin 8) (a1 : BitVec 24) :
    ∃ t, execReti a0 a1 x = .next t ∧ Kept f s t := by
  unfold Sys2Proof.Machine.execReti
  refine ⟨_, rfl, ?_⟩
  repeat' first
    | with_reducible assumption
    | with_reducible refine Kept.lodIssue ?_ (Foot.le_trans (by decide +kernel) hf) _ _ _ _ _ (fun y hy => ?_)
    | with_reducible refine Kept.popRet ?_ (Foot.le_trans (by decide +kernel) hf) _
    | with_reducible refine Kept.setSr ?_ (Foot.le_trans (by decide +kernel) hf) _ _

theorem Kept.execRts {f : Foot} {s x : State} (h : Kept f s x) (hf : Foot.le ⟨false, [0x00, 0x10, 0x15, 0x1B], [], [.freeCtr, .flt, .lod]⟩ f = true) (a0 : Fin 8) (a1 : BitVec 24) :
    ∃ t, execRts a0 a1 x = .next t ∧ Kept f s t := by
  unfold Sys2Proof.Machine.execRts
  refine ⟨_, rfl, ?_⟩
  repeat' first
    | with_reducible assumption
    | with_reducible refine Kept.lodIssue ?_ (Foot.le_trans (by decide +kernel) hf) _ _ _ _ _ (fun y hy => ?_)
    | with_reducible refine Kept.popRet ?_ (Foot.le_trans (by decide +kernel) hf) _

theorem Kept.execShl {f : Foot} {s x : State} (h : Kept f s x) (hf : Foot.le ⟨false, [0x00, 0x10, 0x15, 0x1B], [], [.freeCtr, .flt, .lod]⟩ f = true) (a0 : Fin 8) (a1 : BitVec 23) :
    ∃ t, execShl a0 a1 x = .next t ∧ Kept f s t := by
  unfold Sys2Proof.Machine.execShl
  refine ⟨_, rfl, ?_⟩
  repeat' first
    | with_reducible assumption
    | with_reducible refine Kept.aluShift ?_ (Foot.le_trans (by decide +kernel) hf) _ _ _

theorem Kept.execSig {f : Foot} {s x : State} (h : Kept f s x) (hf : Foot.le ⟨false, [0x00, 0x10, 0x15, 0x1B], [], [.freeCtr, .flt, .lod]⟩ f = true) (a0 : Fin 8) (a1 : BitVec 24) :
    ∃ t, execSig a0 a1 x = .next t ∧ Kept f s t := by
  unfold Sys2Proof.Machine.execSig
  refine ⟨_, rfl, ?_⟩
  repeat' first
    | with_reducible assumption
    | with_reducible refine Kept.ite ?_ ?_
    | with_reducible refine Kept.lodIssue ?_ (Foot.le_trans (by decide +kernel) hf) _ _ _ _ _ (fun y hy => ?_)
    | with_reducible refine Kept.modCore ?_ (Foot.le_trans (by decide +kernel) hf) _ _
    | with_reducible refine Kept.eff_runOn ?_

theorem Kept.execSt {f : Foot} {s x : State} (h : Kept f s x) (hf : Foot.le ⟨false, [0x00, 0x10, 0x15, 0x1B], [], [.sram, .freeCtr, .flt, .lod]⟩ f = true) (a0 : Fin 8) (a1 : Bool) (a2 : BitVec 26) :
    ∃ t, execSt a0 a1 a2 x = .next t ∧ Kept f s t := by
  unfold Sys2Proof.Machine.execSt
  refine ⟨_, rfl, ?_⟩
  repeat' first
    | with_reducible assumption
    | with_reducible refine Kept.lodIssue ?_ (Foot.le_trans (by decide +kernel) hf) _ _ _ _ _ (fun y hy => ?_)
    | with_reducible refine Kept.ldst ?_ (Foot.le_trans (by decide +kernel) hf) _ _
    | with_reducible refine Kept.accStore ?_ (Foot.le_trans (by decide +kernel) hf) _ _
    | with_reducible refine Kept.storeWord ?_ (Foot.le_trans (by decide +kernel) hf) _ _ _
    | with_reducible refine Kept.eff_ok ?_
    | with_reducible refine Kept.eff_ite ?_ ?_

theorem Kept.execSta {f : Foot} {s x : State} (h : Kept f s x) (hf : Foot.le ⟨false, [0x00, 0x10, 0x15, 0x1B], [], [.sram, .freeCtr, .flt, .lod]⟩ f = true) (a0 : Fin 8) (a1 : BitVec 24) (a2 : BitVec 32) :
    ∃ t, execSta a0 a1 a2 x = .next t ∧ Kept f s t := by
  unfold Sys2Proof.Machine.execSta
  refine ⟨_, rfl, ?_⟩
  repeat' first
    | with_reducible assumption
    | with_reducible refine Kept.lodIssue ?_ (Foot.le_trans (by decide +kernel) hf) _ _ _ _ _ (fun y hy => ?_)
    | with_reducible refine Kept.storeWord ?_ (Foot.le_trans (by decide +kernel) hf) _ _ _
    | with_reducible refine Kept.eff_runOn ?_

theorem Kept.execStl {f : Foot} {s x : State} (h : Kept f s x) (hf : Foot.le ⟨false, [0x00, 0x10, 0x15, 0x1B], [], [.sram, .freeCtr, .flt, .lod]⟩ f = true) (a0 : Fin 8) (a1 : BitVec 26) :
    ∃ t, execStl a0 a1 x = .next t ∧ Kept f s t := by
  unfold Sys2Proof.Machine.execStl
  refine ⟨_, rfl, ?_⟩
  repeat' first
    | with_reducible assumption
    | with_reducible refine Kept.ite ?_ ?_
    | with_reducible refine Kept.lodIssue ?_ (Foot.le_trans (by decide +kernel) hf) _ _ _ _ _ (fun y hy => ?_)
    | with_reducible refine Kept.ldst ?_ (Foot.le_trans (by decide +kernel) hf) _ _
    | with_reducible refine Kept.storeWord ?_ (Foot.le_trans (by decide +kernel) hf) _ _ _
    | with_reducible refine Kept.unpoison ?_ (Foot.le_trans (by decide +kernel) hf) _ _
    | with_reducible refine Kept.eff_ok ?_

theorem Kept.execSub {f : Foot} {s x : State} (h : Kept f s x) (hf : Foot.le ⟨false, [0x00, 0x10, 0x15, 0x1B], [], [.freeCtr, .flt, .lod]⟩ f = true) (a0 : Fin 8) (a1 : BitVec 23) :
    ∃ t, execSub a0 a1 x = .next t ∧ Kept f s t := by
  unfold Sys2Proof.Machine.execSub
  refine ⟨_, rfl, ?_⟩
  repeat' first
    | with_reducible assumption
    | with_reducible refine Kept.aluOp ?_ (Foot.le_trans (by decide +kernel) hf) _ _ _ _

theorem Kept.execSuba {f : Foot} {s x : State} (h : Kept f s x) (hf : Foot.le ⟨false, [0x00, 0x10, 0x15, 0x1B], [], [.freeCtr, .flt, .lod]⟩ f = true) (a0 : Fin 8) (a1 : BitVec 24) :
    ∃ t, execSuba a0 a1 x = .next t ∧ Kept f s t := by
  unfold Sys2Proof.Machine.execSuba
  refine ⟨_, rfl, ?_⟩
  repeat' first
    | with_reducible assumption
    | with_reducible refine Kept.accOp ?_ (Foot.le_trans (by decide +kernel) hf) _ _ _

theorem Kept.execTapEntry {f : Foot} {s x : State} (h : Kept f s x) (hf : Foot.le ⟨false, [0x10], [], [.lod]⟩ f = true) (a0 : Fin 8) (a1 : Fin 2) :
    ∃ t, execTapEntry a0 a1 x = .next t ∧ Kept f s t := by
  unfold Sys2Proof.Machine.execTapEntry
  refine ⟨_, rfl, ?_⟩
  repeat' first
    | with_reducible assumption
    | with_reducible refine Kept.ite ?_ ?_
    | with_reducible refine Kept.modTap ?_ (Foot.le_trans (by decide +kernel) hf) _ _ _
    | with_reducible refine Kept.bump _ ?_ (Foot.word_of_le hf (by first | decide +kernel | (simp only [LOD_STAT.TAP_OVF0, LOD_STAT.addr_win, LOD_CNT2.DROP0, LOD_CNT2.addr_win, LOD_STAT.TAP_OVF1, LOD_CNT2.DROP1]; first | decide +kernel | (split <;> decide +kernel))))
    | with_reducible refine Kept.put _ _ ?_ (Foot.word_of_le hf (by first | decide +kernel | (simp only [LOD_STAT.TAP_OVF0, LOD_STAT.addr_win, LOD_CNT2.DROP0, LOD_CNT2.addr_win, LOD_STAT.TAP_OVF1, LOD_CNT2.DROP1]; first | decide +kernel | (split <;> decide +kernel))))
    | intro y
    | split
    | lift_lets

theorem Kept.execTget {f : Foot} {s x : State} (h : Kept f s x) (hf : Foot.le ⟨false, [0x00, 0x10, 0x15, 0x1B], [], [.freeCtr, .flt, .lod]⟩ f = true) (a0 : Fin 8) (a1 : BitVec 26) :
    ∃ t, execTget a0 a1 x = .next t ∧ Kept f s t := by
  unfold Sys2Proof.Machine.execTget
  refine ⟨_, rfl, ?_⟩
  repeat' first
    | with_reducible assumption
    | with_reducible refine Kept.lodIssue ?_ (Foot.le_trans (by decide +kernel) hf) _ _ _ _ _ (fun y hy => ?_)
    | with_reducible refine Kept.modTap ?_ (Foot.le_trans (by decide +kernel) hf) _ _ _
    | with_reducible refine Kept.setDreg ?_ (Foot.le_trans (by decide +kernel) hf) _ _ _
    | with_reducible refine Kept.modCore ?_ (Foot.le_trans (by decide +kernel) hf) _ _
    | with_reducible refine Kept.eff_ok ?_
    | intro y
    | split
    | lift_lets
    | dsimp only

theorem Kept.execTrap {f : Foot} {s x : State} (h : Kept f s x) (hf : Foot.le ⟨false, [0x00, 0x10, 0x15, 0x1B], [], [.freeCtr, .flt, .lod]⟩ f = true) (a0 : Fin 8) (a1 : BitVec 24) :
    ∃ t, execTrap a0 a1 x = .next t ∧ Kept f s t := by
  unfold Sys2Proof.Machine.execTrap
  refine ⟨_, rfl, ?_⟩
  repeat' first
    | with_reducible assumption
    | with_reducible refine Kept.ite ?_ ?_
    | with_reducible refine Kept.lodIssue ?_ (Foot.le_trans (by decide +kernel) hf) _ _ _ _ _ (fun y hy => ?_)
    | with_reducible refine Kept.lodEnd ?_ (Foot.le_trans (by decide +kernel) hf) _ _ _ _
    | with_reducible refine Kept.put _ _ ?_ (Foot.word_of_le hf (by first | decide +kernel | (simp only [LOD_STAT.TCODE, LOD_STAT.addr_win]; first | decide +kernel | (split <;> decide +kernel))))
    | with_reducible refine Kept.lodCycles ?_ (Foot.le_trans (by decide +kernel) hf) _ _ _
    | with_reducible refine Kept.eff_runOn ?_
    | lift_lets
    | dsimp only [id]

theorem Kept.execWait {f : Foot} {s x : State} (h : Kept f s x) (hf : Foot.le ⟨false, [0x00, 0x10, 0x15, 0x1B], [], [.freeCtr, .flt, .lod]⟩ f = true) (a0 : Fin 8) (a1 : BitVec 24) :
    ∃ t, execWait a0 a1 x = .next t ∧ Kept f s t := by
  unfold Sys2Proof.Machine.execWait
  refine ⟨_, rfl, ?_⟩
  repeat' first
    | with_reducible assumption
    | with_reducible refine Kept.lodIssue ?_ (Foot.le_trans (by decide +kernel) hf) _ _ _ _ _ (fun y hy => ?_)
    | with_reducible refine Kept.eff_ok ?_

theorem Kept.execXor {f : Foot} {s x : State} (h : Kept f s x) (hf : Foot.le ⟨false, [0x00, 0x10, 0x15, 0x1B], [], [.freeCtr, .flt, .lod]⟩ f = true) (a0 : Fin 8) (a1 : BitVec 23) :
    ∃ t, execXor a0 a1 x = .next t ∧ Kept f s t := by
  unfold Sys2Proof.Machine.execXor
  refine ⟨_, rfl, ?_⟩
  repeat' first
    | with_reducible assumption
    | with_reducible refine Kept.aluOp ?_ (Foot.le_trans (by decide +kernel) hf) _ _ _ _

end Sys2Proof.Machine
end

