-- ==== Sys2Proof/Laws/KeptCheck.lean ====
section
/-! SUPPORT. What the operations of Sys2Proof/Machine/Check.lean change. -/

set_option Elab.async false

set_option linter.all false

namespace Sys2Proof.Machine

theorem Kept.setChk {f : Foot} {s x : State} (h : Kept f s x) (hf : Foot.le ⟨false, [], [], [.dma]⟩ f = true) (a0 : Nat) (a1 : ChkUnit) :
    Kept f s (State.setChk x a0 a1) := by
  unfold Sys2Proof.Machine.State.setChk
  repeat' first
    | intro y
    | lift_lets
    | with_reducible exact Kept.set_dma _ (by with_reducible assumption) (Foot.part_of_le hf (by decide +kernel : Foot.part _ .dma = true))

theorem Kept.chkOpen {f : Foot} {s x : State} (h : Kept f s x) (hf : Foot.le ⟨false, [0x13], [], [.dma]⟩ f = true) (a0 : Nat) (a1 : Word) (a2 : BitVec 4) :
    Kept f s (State.chkOpen x a0 a1 a2) := by
  unfold Sys2Proof.Machine.State.chkOpen
  repeat' first
    | with_reducible assumption
    | with_reducible refine Kept.put _ _ ?_ (Foot.word_of_le hf (by first | decide +kernel | (simp only [CHK_CFG.ALG, CHK_CFG.addr_win, CHK_STAT.OPEN, CHK_STAT.addr_win]; first | decide +kernel | (split <;> decide +kernel))))
    | with_reducible refine Kept.setChk ?_ (Foot.le_trans (by decide +kernel) hf) _ _

theorem Kept.chkPublish {f : Foot} {s x : State} (h : Kept f s x) (hf : Foot.le ⟨false, [0x13, 0x15], [], [.freeCtr, .dma]⟩ f = true) (a0 : Nat) (a1 : Bool) :
    Kept f s (State.chkPublish x a0 a1) := by
  unfold Sys2Proof.Machine.State.chkPublish
  repeat' first
    | with_reducible assumption
    | with_reducible refine Kept.ite ?_ ?_
    | with_reducible refine Kept.setWord _ _ ?_ (Foot.word_of_le hf (by first | decide +kernel | (simp only [CHK_CFG.ALG, CHK_CFG.addr_win, CHK_RESULT.addr_win, CHK_RESULT.addr_win4, CHK_RESULT.addr_win8, CHK_STAT.INVALIDS, CHK_STAT.addr_win, CHK_RSEQ.addr_win, CHK_RSEQ.addr_win4, CHK_RSEQ.addr_win8, CHK_RINFO.ALIVE, CHK_RINFO.addr_win, CHK_RINFO.VALID, CHK_RBYTES.BYTES, CHK_RBYTES.addr_win, CHK_STAT.NEW]; first | decide +kernel | (split <;> decide +kernel))))
    | with_reducible refine Kept.bump _ ?_ (Foot.word_of_le hf (by first | decide +kernel | (simp only [CHK_CFG.ALG, CHK_CFG.addr_win, CHK_RESULT.addr_win, CHK_RESULT.addr_win4, CHK_RESULT.addr_win8, CHK_STAT.INVALIDS, CHK_STAT.addr_win, CHK_RSEQ.addr_win, CHK_RSEQ.addr_win4, CHK_RSEQ.addr_win8, CHK_RINFO.ALIVE, CHK_RINFO.addr_win, CHK_RINFO.VALID, CHK_RBYTES.BYTES, CHK_RBYTES.addr_win, CHK_STAT.NEW]; first | decide +kernel | (split <;> decide +kernel))))
    | with_reducible refine Kept.drawFree ?_ (Foot.le_trans (by decide +kernel) hf)
    | with_reducible refine Kept.putB _ _ ?_ (Foot.word_of_le hf (by first | decide +kernel | (simp only [CHK_CFG.ALG, CHK_CFG.addr_win, CHK_RESULT.addr_win, CHK_RESULT.addr_win4, CHK_RESULT.addr_win8, CHK_STAT.INVALIDS, CHK_STAT.addr_win, CHK_RSEQ.addr_win, CHK_RSEQ.addr_win4, CHK_RSEQ.addr_win8, CHK_RINFO.ALIVE, CHK_RINFO.addr_win, CHK_RINFO.VALID, CHK_RBYTES.BYTES, CHK_RBYTES.addr_win, CHK_STAT.NEW]; first | decide +kernel | (split <;> decide +kernel))))
    | with_reducible refine Kept.put _ _ ?_ (Foot.word_of_le hf (by first | decide +kernel | (simp only [CHK_CFG.ALG, CHK_CFG.addr_win, CHK_RESULT.addr_win, CHK_RESULT.addr_win4, CHK_RESULT.addr_win8, CHK_STAT.INVALIDS, CHK_STAT.addr_win, CHK_RSEQ.addr_win, CHK_RSEQ.addr_win4, CHK_RSEQ.addr_win8, CHK_RINFO.ALIVE, CHK_RINFO.addr_win, CHK_RINFO.VALID, CHK_RBYTES.BYTES, CHK_RBYTES.addr_win, CHK_STAT.NEW]; first | decide +kernel | (split <;> decide +kernel))))
    | with_reducible refine Kept.riseIrq ?_ (Foot.le_trans (by decide +kernel) hf) _ _ (Foot.word_of_le hf (by first | decide +kernel | (simp only [CHK_CFG.ALG, CHK_CFG.addr_win, CHK_RESULT.addr_win, CHK_RESULT.addr_win4, CHK_RESULT.addr_win8, CHK_STAT.INVALIDS, CHK_STAT.addr_win, CHK_RSEQ.addr_win, CHK_RSEQ.addr_win4, CHK_RSEQ.addr_win8, CHK_RINFO.ALIVE, CHK_RINFO.addr_win, CHK_RINFO.VALID, CHK_RBYTES.BYTES, CHK_RBYTES.addr_win, CHK_STAT.NEW]; first | decide +kernel | (split <;> decide +kernel))))
    | with_reducible refine Kept.chkOpen ?_ (Foot.le_trans (by decide +kernel) hf) _ _ _

theorem Kept.chkApply {f : Foot} {s x : State} (h : Kept f s x) (hf : Foot.le ⟨false, [0x13, 0x15], [], [.freeCtr, .dma]⟩ f = true) (a0 : State) :
    Kept f s (State.chkApply x a0) := by
  unfold Sys2Proof.Machine.State.chkApply
  repeat' first
    | with_reducible assumption
    | with_reducible refine Kept.ite ?_ ?_
    | with_reducible refine Kept.chkPublish ?_ (Foot.le_trans (by decide +kernel) hf) _ _
    | with_reducible refine Kept.chkOpen ?_ (Foot.le_trans (by decide +kernel) hf) _ _ _
    | with_reducible refine Kept.foldl _ (fun y b hy => ?_) ?_

theorem Kept.arbPresent {f : Foot} {s x : State} (h : Kept f s x) (hf : Foot.le ⟨false, [], [], [.dma]⟩ f = true) (a0 : Nat) (a1 : Nat) (a2 : Nat) :
    Kept f s (State.arbPresent x a0 a1 a2) := by
  unfold Sys2Proof.Machine.State.arbPresent
  repeat' first
    | with_reducible assumption
    | with_reducible refine Kept.ite ?_ ?_
    | intro y
    | lift_lets
    | with_reducible exact Kept.set_dma _ (by with_reducible assumption) (Foot.part_of_le hf (by decide +kernel : Foot.part _ .dma = true))

theorem Kept.arbUntil {f : Foot} {s x : State} (h : Kept f s x) (hf : Foot.le ⟨false, [], [], [.dma]⟩ f = true) (a0 : Nat) (a1 : Nat) (a2 : Nat) :
    Kept f s (State.arbUntil x a0 a1 a2) := by
  induction a2 generalizing x with
  | zero => exact h
  | succ n ih =>
    unfold State.arbUntil
    split
    · exact h
    · next w t e =>
      have ht : Kept f s t := by
        unfold State.arbGrant at e
        split at e
        · cases e
        · cases e
          exact Kept.set_dma _ h (Foot.part_of_le hf (by decide +kernel : Foot.part _ .dma = true))
      split
      · exact ht
      · exact ih ht

theorem Kept.arbServe {f : Foot} {s x : State} (h : Kept f s x) (hf : Foot.le ⟨false, [], [], [.dma]⟩ f = true) (a0 : Nat) (a1 : Nat) (a2 : List (Fin 64 × Nat)) :
    Kept f s (State.arbServe x a0 a1 a2) := by
  unfold Sys2Proof.Machine.State.arbServe
  repeat' first
    | with_reducible assumption
    | with_reducible refine Kept.arbPresent ?_ (Foot.le_trans (by decide +kernel) hf) _ _ _
    | with_reducible refine Kept.arbUntil ?_ (Foot.le_trans (by decide +kernel) hf) _ _ _
    | with_reducible refine Kept.foldl _ (fun y b hy => ?_) ?_

theorem Kept.chkFeed {f : Foot} {s x : State} (h : Kept f s x) (hf : Foot.le ⟨false, [0x13], [], [.dma]⟩ f = true) (a0 : Nat) (a1 : List Byte) :
    Kept f s (State.chkFeed x a0 a1) := by
  unfold Sys2Proof.Machine.State.chkFeed
  repeat' first
    | with_reducible assumption
    | with_reducible refine Kept.ite ?_ ?_
    | with_reducible refine Kept.put _ _ ?_ (Foot.word_of_le hf (by first | decide +kernel | (simp only [CHK_CFG.ALG, CHK_CFG.addr_win, CHK_STAT.OPEN, CHK_STAT.addr_win]; first | decide +kernel | (split <;> decide +kernel))))
    | with_reducible refine Kept.setChk ?_ (Foot.le_trans (by decide +kernel) hf) _ _

theorem Kept.chkReset {f : Foot} {s x : State} (h : Kept f s x) (hf : Foot.le ⟨false, [0x13], [], [.dma]⟩ f = true) (a0 : Nat) :
    Kept f s (State.chkReset x a0) := by
  unfold Sys2Proof.Machine.State.chkReset
  repeat' first
    | with_reducible assumption
    | with_reducible refine Kept.chkOpen ?_ (Foot.le_trans (by decide +kernel) hf) _ _ _

theorem Kept.chkRules {f : Foot} {s x : State} (h : Kept f s x) (hf : Foot.le ⟨false, [0x13], [], [.dma]⟩ f = true) (b0 : Source) (b1 : Nat) (b2 : Word) :
    Kept.res f s (chkRules.act b0 b1 b2 x) := by
  unfold Sys2Proof.Machine.chkRules
  repeat' first
    | with_reducible assumption
    | with_reducible refine Kept.ite ?_ ?_
    | with_reducible refine Kept.res_ok ?_
    | with_reducible refine Kept.chkReset ?_ (Foot.le_trans (by decide +kernel) hf) _
    | split
    | dsimp only

theorem Kept.execAgePromote {f : Foot} {s x : State} (h : Kept f s x) (hf : Foot.le ⟨false, [], [], [.dma]⟩ f = true) (a0 : Fin 32) (a1 : Fin 64) :
    ∃ t, execAgePromote a0 a1 x = .next t ∧ Kept f s t := by
  unfold Sys2Proof.Machine.execAgePromote
  refine ⟨_, rfl, ?_⟩
  repeat' first
    | intro y
    | lift_lets
    | with_reducible exact Kept.set_dma _ (by with_reducible assumption) (Foot.part_of_le hf (by decide +kernel : Foot.part _ .dma = true))

theorem Kept.execChkReset {f : Foot} {s x : State} (h : Kept f s x) (hf : Foot.le ⟨false, [0x00, 0x13], [], [.resp, .sys, .dma]⟩ f = true) (a0 : Fin 16) (a1 : Source) (a2 : Word) :
    ∃ t, execChkReset a0 a1 a2 x = .next t ∧ Kept f s t := by
  unfold Sys2Proof.Machine.execChkReset
  refine ⟨_, rfl, ?_⟩
  repeat' first
    | with_reducible assumption
    | with_reducible refine Kept.writeReg ?_ (fun y b0 b1 b2 => Kept.chkRules (Kept.refl _ y) (Foot.le_trans (by decide +kernel) hf) b0 b1 b2) (Foot.word_of_le hf (by first | decide +kernel | (simp only [CHK_CMD.addr_win]; first | decide +kernel | (split <;> decide +kernel)))) (Foot.word_of_le hf (by first | decide +kernel | (simp only [CHK_CMD.addr_win]; first | decide +kernel | (split <;> decide +kernel)))) (Foot.word_of_le hf (by decide +kernel)) (Foot.part_of_le hf (by decide +kernel : Foot.part _ .resp = true)) (Foot.part_of_le hf (by decide +kernel : Foot.part _ .sys = true))

end Sys2Proof.Machine
end

