-- ==== Sys2Proof/Laws/KeptMem.lean ====
section
/-! SUPPORT. What the operations of Sys2Proof/Machine/Mem.lean change. -/

set_option Elab.async false

set_option linter.all false

namespace Sys2Proof.Machine

theorem Kept.memDomain {f : Foot} {s x : State} (h : Kept f s x) (hf : Foot.le ⟨false, [], [], [.mem]⟩ f = true) (a0 : Nat) :
    Kept f s (State.memDomain x a0) := by
  unfold Sys2Proof.Machine.State.memDomain
  repeat' first
    | with_reducible assumption
    | with_reducible refine Kept.ite ?_ ?_
    | lift_lets
    | with_reducible exact Kept.set_mem _ (by with_reducible assumption) (Foot.part_of_le hf (by decide +kernel : Foot.part _ .mem = true))

theorem Kept.writeGddr {f : Foot} {s x : State} (h : Kept f s x) (hf : Foot.le ⟨false, [], [], [.gddr, .mem]⟩ f = true) (a0 : Nat) (a1 : List Byte) :
    Kept f s (State.writeGddr x a0 a1) := by
  unfold Sys2Proof.Machine.State.writeGddr
  repeat' first
    | with_reducible assumption
    | with_reducible refine Kept.ite ?_ ?_
    | with_reducible refine Kept.setGddrBytes _ ?_ (Foot.part_of_le hf (by decide +kernel : Foot.part _ .gddr = true)) _
    | intro y
    | lift_lets
    | fail_if_no_progress (with_reducible refine Kept.set_mem _ ?_ (Foot.part_of_le hf (by decide +kernel : Foot.part _ .mem = true)))

theorem Kept.rowDue {f : Foot} {s x : State} (h : Kept f s x) (hf : Foot.le ⟨false, [0x00, 0x14, 0x15, 0x1B], [], [.flt, .mem]⟩ f = true) (a0 : MemRow) :
    Kept f s (State.rowDue x a0) := by
  unfold Sys2Proof.Machine.State.rowDue
  repeat' first
    | with_reducible assumption
    | with_reducible refine Kept.ite ?_ ?_
    | with_reducible refine Kept.fltRec ?_ (Foot.le_trans (by decide +kernel) hf) _ _ _ _ _ _
    | with_reducible refine Kept.put _ _ ?_ (Foot.word_of_le hf (by first | decide +kernel))
    | intro y
    | lift_lets
    | with_reducible exact Kept.set_mem _ (by with_reducible assumption) (Foot.part_of_le hf (by decide +kernel : Foot.part _ .mem = true))

theorem Kept.memUe {f : Foot} {s x : State} (h : Kept f s x) (hf : Foot.le ⟨false, [0x00, 0x14, 0x15, 0x1B], [], [.flt, .mem]⟩ f = true) (a0 : Nat) :
    Kept f s (State.memUe x a0) := by
  unfold Sys2Proof.Machine.State.memUe
  repeat' first
    | with_reducible assumption
    | with_reducible refine Kept.setWord _ _ ?_ (Foot.word_of_le hf (by first | decide +kernel))
    | with_reducible refine Kept.put _ _ ?_ (Foot.word_of_le hf (by first | decide +kernel))
    | with_reducible refine Kept.bump _ ?_ (Foot.word_of_le hf (by first | decide +kernel))
    | with_reducible refine Kept.rowDue ?_ (Foot.le_trans (by decide +kernel) hf) _
    | with_reducible refine Kept.fltInfo ?_ (Foot.le_trans (by decide +kernel) hf) _ _ _ _ _

theorem Kept.trainNext {f : Foot} {s x : State} (h : Kept f s x) (hf : Foot.le ⟨false, [0x14], [], [.mem]⟩ f = true) :
    Kept f s (State.trainNext x) := by
  unfold Sys2Proof.Machine.State.trainNext
  repeat' first
    | with_reducible assumption
    | with_reducible refine Kept.put _ _ ?_ (Foot.word_of_le hf (by first | decide +kernel))
    | intro y
    | split
    | lift_lets
    | with_reducible exact Kept.set_mem _ (by with_reducible assumption) (Foot.part_of_le hf (by decide +kernel : Foot.part _ .mem = true))

theorem Kept.retrain {f : Foot} {s x : State} (h : Kept f s x) (hf : Foot.le ⟨false, [0x14], [], [.mem]⟩ f = true) (a0 : Nat) :
    Kept f s (State.retrain x a0) := by
  unfold Sys2Proof.Machine.State.retrain
  repeat' first
    | with_reducible assumption
    | with_reducible refine Kept.ite ?_ ?_
    | with_reducible refine Kept.trainNext ?_ (Foot.le_trans (by decide +kernel) hf)
    | intro y
    | lift_lets
    | with_reducible exact Kept.set_mem _ (by with_reducible assumption) (Foot.part_of_le hf (by decide +kernel : Foot.part _ .mem = true))

theorem Kept.memTrain {f : Foot} {s x : State} (h : Kept f s x) (hf : Foot.le ⟨false, [0x14], [], [.mem]⟩ f = true) :
    Kept f s (State.memTrain x) := by
  unfold Sys2Proof.Machine.State.memTrain
  repeat' first
    | with_reducible assumption
    | with_reducible refine Kept.retrain ?_ (Foot.le_trans (by decide +kernel) hf) _
    | with_reducible refine Kept.foldl _ (fun y b hy => ?_) ?_

theorem Kept.memRetune {f : Foot} {s x : State} (h : Kept f s x) (hf : Foot.le ⟨false, [0x02, 0x14], [0x14], [.alm, .mem]⟩ f = true) :
    Kept f s (State.memRetune x) := by
  unfold Sys2Proof.Machine.State.memRetune
  repeat' first
    | with_reducible assumption
    | with_reducible refine Kept.put _ _ ?_ (Foot.word_of_le hf (by first | decide +kernel | (simp only [CLK_PLL_STAT.LOCKED, CLK_PLL_STAT.addr_win, CLK_PLL_STAT.SYNCED]; first | decide +kernel | (split <;> decide +kernel))))
    | with_reducible refine Kept.putApp _ _ ?_ (Foot.app_of_le hf (by first | decide +kernel | (simp only [CLK_PLL_STAT.LOCKED, CLK_PLL_STAT.addr_win, CLK_PLL_STAT.SYNCED]; first | decide +kernel | (split <;> decide +kernel))))
    | (intro y; refine (fun hy : Kept f s y => ?_) ?_ <;> [clear_value y; skip])
    | intro y
    | lift_lets
    | with_reducible exact Kept.set_mem_alm _ _ (by with_reducible assumption) (Foot.part_of_le hf (by decide +kernel : Foot.part _ .mem = true)) (Foot.part_of_le hf (by decide +kernel : Foot.part _ .alm = true))

theorem Kept.freqGo {f : Foot} {s x : State} (h : Kept f s x) (hf : Foot.le ⟨false, [0x02, 0x14], [0x14], [.alm, .mem]⟩ f = true) :
    Kept f s (State.freqGo x) := by
  unfold Sys2Proof.Machine.State.freqGo
  repeat' first
    | with_reducible assumption
    | with_reducible refine Kept.ite ?_ ?_
    | with_reducible refine Kept.put _ _ ?_ (Foot.word_of_le hf (by first | decide +kernel))
    | with_reducible refine Kept.memRetune ?_ (Foot.le_trans (by decide +kernel) hf)
    | (intro y; refine (fun hy : Kept f s y => ?_) ?_ <;> [clear_value y; skip])
    | intro y
    | split
    | lift_lets
    | with_reducible exact Kept.set_mem _ (by with_reducible assumption) (Foot.part_of_le hf (by decide +kernel : Foot.part _ .mem = true))

theorem Kept.memBegin {f : Foot} {s x : State} (h : Kept f s x) (hf : Foot.le ⟨false, [0x14], [0x14], []⟩ f = true) :
    Kept f s (State.memBegin x) := by
  unfold Sys2Proof.Machine.State.memBegin
  repeat' first
    | with_reducible assumption
    | with_reducible refine Kept.ite ?_ ?_
    | with_reducible refine Kept.putApp _ _ ?_ (Foot.app_of_le hf (by first | decide +kernel | (simp only [CLK_PLL_STAT.LOCKED, CLK_PLL_STAT.addr_win]; first | decide +kernel | (split <;> decide +kernel))))
    | with_reducible refine Kept.put _ _ ?_ (Foot.word_of_le hf (by first | decide +kernel | (simp only [CLK_PLL_STAT.LOCKED, CLK_PLL_STAT.addr_win]; first | decide +kernel | (split <;> decide +kernel))))

theorem Kept.memFailed {f : Foot} {s x : State} (h : Kept f s x) (hf : Foot.le ⟨false, [0x14, 0x1B], [], [.flt, .mem]⟩ f = true) (a0 : Nat) :
    Kept f s (State.memFailed x a0) := by
  unfold Sys2Proof.Machine.State.memFailed
  repeat' first
    | with_reducible assumption
    | with_reducible refine Kept.put _ _ ?_ (Foot.word_of_le hf (by first | decide +kernel | (simp only [MEM_C_STAT.TRAINED, MEM_C_STAT.addr_win]; first | decide +kernel | (split <;> decide +kernel))))
    | with_reducible refine Kept.fltInfo ?_ (Foot.le_trans (by decide +kernel) hf) _ _ _ _ _
    | intro y
    | lift_lets
    | fail_if_no_progress (with_reducible refine Kept.set_mem _ ?_ (Foot.part_of_le hf (by decide +kernel : Foot.part _ .mem = true)))

theorem Kept.trained {f : Foot} {s x : State} (h : Kept f s x) (hf : Foot.le ⟨false, [], [], [.mem]⟩ f = true) (a0 : Nat) :
    Kept f s (State.trained x a0) := by
  unfold Sys2Proof.Machine.State.trained
  repeat' first
    | intro y
    | lift_lets
    | with_reducible exact Kept.set_mem _ (by with_reducible assumption) (Foot.part_of_le hf (by decide +kernel : Foot.part _ .mem = true))

theorem Kept.stepApplied {f : Foot} {s x : State} (h : Kept f s x) (hf : Foot.le ⟨false, [0x02, 0x14], [0x14], [.alm, .mem]⟩ f = true) (a0 : MemStep) :
    Kept f s (State.stepApplied x a0) := by
  unfold Sys2Proof.Machine.State.stepApplied
  repeat' first
    | with_reducible assumption
    | with_reducible refine Kept.ite ?_ ?_
    | with_reducible refine Kept.memRetune ?_ (Foot.le_trans (by decide +kernel) hf)
    | with_reducible refine Kept.bump _ ?_ (Foot.word_of_le hf (by first | decide +kernel | (simp only [MEM_C_CNT.RETRAINS, MEM_C_CNT.addr_win]; first | decide +kernel | (split <;> decide +kernel))))
    | with_reducible refine Kept.trained ?_ (Foot.le_trans (by decide +kernel) hf) _
    | with_reducible refine Kept.trainNext ?_ (Foot.le_trans (by decide +kernel) hf)
    | intro y
    | lift_lets
    | with_reducible exact Kept.set_mem _ (by with_reducible assumption) (Foot.part_of_le hf (by decide +kernel : Foot.part _ .mem = true))
    | fail_if_no_progress (with_reducible refine Kept.set_mem _ ?_ (Foot.part_of_le hf (by decide +kernel : Foot.part _ .mem = true)))

theorem Kept.trainingDone {f : Foot} {s x : State} (h : Kept f s x) (hf : Foot.le ⟨false, [0x14, 0x1B], [], [.flt, .mem]⟩ f = true) (a0 : Bool) :
    Kept f s (State.trainingDone x a0) := by
  unfold Sys2Proof.Machine.State.trainingDone
  repeat' first
    | with_reducible assumption
    | with_reducible refine Kept.ite ?_ ?_
    | with_reducible refine Kept.memFailed ?_ (Foot.le_trans (by decide +kernel) hf) _
    | with_reducible refine Kept.put _ _ ?_ (Foot.word_of_le hf (by first | decide +kernel | (simp only [CLK_PLL_STAT.LOCKED, CLK_PLL_STAT.addr_win, MEM_C_STAT.TRAINED, MEM_C_STAT.addr_win]; first | decide +kernel | (split <;> decide +kernel))))
    | with_reducible refine Kept.trained ?_ (Foot.le_trans (by decide +kernel) hf) _
    | with_reducible refine Kept.foldl _ (fun y b hy => ?_) ?_
    | (intro y; refine (fun hy : Kept f s y => ?_) ?_ <;> [clear_value y; skip])
    | intro y
    | lift_lets
    | with_reducible exact Kept.set_mem _ (by with_reducible assumption) (Foot.part_of_le hf (by decide +kernel : Foot.part _ .mem = true))

theorem Kept.execPatrolScrub {f : Foot} {s x : State} (h : Kept f s x) (hf : Foot.le ⟨false, [0x00, 0x14, 0x15, 0x1B], [], [.flt, .mem]⟩ f = true) (a0 : Nat) (a1 : Fin 3) :
    ∃ t, execPatrolScrub a0 a1 x = .next t ∧ Kept f s t := by
  unfold Sys2Proof.Machine.execPatrolScrub
  refine ⟨_, rfl, ?_⟩
  repeat' first
    | with_reducible assumption
    | with_reducible refine Kept.ite ?_ ?_
    | with_reducible refine Kept.memUe ?_ (Foot.le_trans (by decide +kernel) hf) _
    | with_reducible refine Kept.bump _ ?_ (Foot.word_of_le hf (by first | decide +kernel))
    | with_reducible refine Kept.rowDue ?_ (Foot.le_trans (by decide +kernel) hf) _
    | intro y
    | split
    | lift_lets
    | dsimp only
    | with_reducible exact Kept.set_mem _ (by with_reducible assumption) (Foot.part_of_le hf (by decide +kernel : Foot.part _ .mem = true))
    | fail_if_no_progress (with_reducible refine Kept.set_mem _ ?_ (Foot.part_of_le hf (by decide +kernel : Foot.part _ .mem = true)))

theorem Kept.execRefresh {f : Foot} {s x : State} (h : Kept f s x) (hf : Foot.le ⟨false, [], [], [.mem]⟩ f = true) (a0 : Fin 16) (a1 : Fin 16) (a2 : Bool) :
    ∃ t, execRefresh a0 a1 a2 x = .next t ∧ Kept f s t := by
  unfold Sys2Proof.Machine.execRefresh
  refine ⟨_, rfl, ?_⟩
  repeat' first
    | with_reducible assumption
    | with_reducible refine Kept.ite ?_ ?_
    | intro y
    | lift_lets
    | with_reducible exact Kept.set_mem _ (by with_reducible assumption) (Foot.part_of_le hf (by decide +kernel : Foot.part _ .mem = true))

theorem Kept.execRetrainInterval {f : Foot} {s x : State} (h : Kept f s x) (hf : Foot.le ⟨false, [0x14], [], [.mem]⟩ f = true) (a0 : Fin 16) :
    ∃ t, execRetrainInterval a0 x = .next t ∧ Kept f s t := by
  unfold Sys2Proof.Machine.execRetrainInterval
  refine ⟨_, rfl, ?_⟩
  repeat' first
    | with_reducible assumption
    | with_reducible refine Kept.retrain ?_ (Foot.le_trans (by decide +kernel) hf) _

theorem Kept.execRowActivate {f : Foot} {s x : State} (h : Kept f s x) (hf : Foot.le ⟨false, [0x14, 0x1B], [], [.flt, .mem]⟩ f = true) (a0 : Fin 16) (a1 : Fin 16) (a2 : BitVec 15) (a3 : BitVec 6) :
    ∃ t, execRowActivate a0 a1 a2 a3 x = .next t ∧ Kept f s t := by
  unfold Sys2Proof.Machine.execRowActivate
  refine ⟨_, rfl, ?_⟩
  repeat' first
    | with_reducible assumption
    | with_reducible refine Kept.ite ?_ ?_
    | with_reducible refine Kept.setWord _ _ ?_ (Foot.word_of_le hf (by first | decide +kernel | (simp only [MEM_C_CNT.ROW_HOTS, MEM_C_CNT.addr_win]; first | decide +kernel | (split <;> decide +kernel))))
    | with_reducible refine Kept.bump _ ?_ (Foot.word_of_le hf (by first | decide +kernel | (simp only [MEM_C_CNT.ROW_HOTS, MEM_C_CNT.addr_win]; first | decide +kernel | (split <;> decide +kernel))))
    | with_reducible refine Kept.put _ _ ?_ (Foot.word_of_le hf (by first | decide +kernel | (simp only [MEM_C_CNT.ROW_HOTS, MEM_C_CNT.addr_win]; first | decide +kernel | (split <;> decide +kernel))))
    | with_reducible refine Kept.fltInfo ?_ (Foot.le_trans (by decide +kernel) hf) _ _ _ _ _
    | intro y
    | split
    | lift_lets
    | with_reducible exact Kept.set_mem _ (by with_reducible assumption) (Foot.part_of_le hf (by decide +kernel : Foot.part _ .mem = true))

theorem Kept.execRowSpareDone {f : Foot} {s x : State} (h : Kept f s x) (hf : Foot.le ⟨false, [0x14, 0x1B], [], [.flt, .mem]⟩ f = true) (a0 : Fin 16) (a1 : Fin 16) (a2 : BitVec 15) :
    ∃ t, execRowSpareDone a0 a1 a2 x = .next t ∧ Kept f s t := by
  unfold Sys2Proof.Machine.execRowSpareDone
  refine ⟨_, rfl, ?_⟩
  repeat' first
    | with_reducible assumption
    | with_reducible refine Kept.ite ?_ ?_
    | with_reducible refine Kept.put _ _ ?_ (Foot.word_of_le hf (by first | decide +kernel | (simp only [MEM_C_STAT.SPARES, MEM_C_STAT.addr_win]; first | decide +kernel | (split <;> decide +kernel))))
    | with_reducible refine Kept.bump _ ?_ (Foot.word_of_le hf (by first | decide +kernel | (simp only [MEM_C_STAT.SPARES, MEM_C_STAT.addr_win]; first | decide +kernel | (split <;> decide +kernel))))
    | with_reducible refine Kept.fltInfo ?_ (Foot.le_trans (by decide +kernel) hf) _ _ _ _ _
    | intro y
    | lift_lets
    | dsimp only
    | with_reducible exact Kept.set_mem _ (by with_reducible assumption) (Foot.part_of_le hf (by decide +kernel : Foot.part _ .mem = true))

theorem Kept.execTempRead {f : Foot} {s x : State} (h : Kept f s x) (hf : Foot.le ⟨false, [0x14], [], [.mem]⟩ f = true) (a0 : Fin 8) (a1 : BitVec 8) (a2 : BitVec 8) :
    ∃ t, execTempRead a0 a1 a2 x = .next t ∧ Kept f s t := by
  unfold Sys2Proof.Machine.execTempRead
  refine ⟨_, rfl, ?_⟩
  repeat' first
    | with_reducible assumption
    | with_reducible refine Kept.ite ?_ ?_
    | with_reducible refine Kept.put _ _ ?_ (Foot.word_of_le hf (by first | decide +kernel | (simp only [MEM_C_STAT.TEMP_A, MEM_C_STAT.addr_win, MEM_C_STAT.TEMP_B]; first | decide +kernel | (split <;> decide +kernel))))
    | with_reducible refine Kept.retrain ?_ (Foot.le_trans (by decide +kernel) hf) _
    | with_reducible refine Kept.foldl _ (fun y b hy => ?_) ?_

theorem Kept.execThrottleEnd {f : Foot} {s x : State} (h : Kept f s x) (hf : Foot.le ⟨false, [], [], [.mem]⟩ f = true) (a0 : Fin 16) (a1 : Fin 16) (a2 : BitVec 6) :
    ∃ t, execThrottleEnd a0 a1 a2 x = .next t ∧ Kept f s t := by
  unfold Sys2Proof.Machine.execThrottleEnd
  refine ⟨_, rfl, ?_⟩
  repeat' first
    | intro y
    | lift_lets
    | with_reducible exact Kept.set_mem _ (by with_reducible assumption) (Foot.part_of_le hf (by decide +kernel : Foot.part _ .mem = true))

theorem Kept.execTrainStepDone {f : Foot} {s x : State} (h : Kept f s x) (hf : Foot.le ⟨false, [0x02, 0x14], [0x14], [.alm, .mem]⟩ f = true) (a0 : Bool) :
    ∃ t, execTrainStepDone a0 x = .next t ∧ Kept f s t := by
  unfold Sys2Proof.Machine.execTrainStepDone
  refine ⟨_, rfl, ?_⟩
  repeat' first
    | with_reducible assumption
    | with_reducible refine Kept.ite ?_ ?_
    | with_reducible refine Kept.stepApplied ?_ (Foot.le_trans (by decide +kernel) hf) _
    | with_reducible refine Kept.put _ _ ?_ (Foot.word_of_le hf (by first | decide +kernel | (simp only [MEM_C_STAT.TRAIN_FAIL, MEM_C_STAT.addr_win]; first | decide +kernel | (split <;> decide +kernel))))
    | with_reducible refine Kept.memRetune ?_ (Foot.le_trans (by decide +kernel) hf)
    | intro y
    | split
    | lift_lets
    | fail_if_no_progress (with_reducible refine Kept.set_mem _ ?_ (Foot.part_of_le hf (by decide +kernel : Foot.part _ .mem = true)))

end Sys2Proof.Machine
end

