-- ==== Sys2Proof/Laws/KeptDma.lean ====
section
/-! SUPPORT. What the operations of Sys2Proof/Machine/Dma.lean change. -/

set_option Elab.async false

set_option linter.all false

namespace Sys2Proof.Machine

theorem Kept.dmaWriteBack {f : Foot} {s x : State} (h : Kept f s x) (hf : Foot.le ⟨false, [0x00, 0x15, 0x1B], [], [.sram, .flt]⟩ f = true) (a0 : DmaCur) (a1 : Bool) (a2 : Nat) (a3 : Nat) :
    Kept f s (State.dmaWriteBack x a0 a1 a2 a3) := by
  unfold Sys2Proof.Machine.State.dmaWriteBack
  repeat' first
    | with_reducible assumption
    | with_reducible refine Kept.ite ?_ ?_
    | with_reducible refine Kept.setSramLE _ ?_ (Foot.part_of_le hf (by decide +kernel : Foot.part _ .sram = true)) _ _
    | with_reducible refine Kept.unpoison ?_ (Foot.le_trans (by decide +kernel) hf) _ _

theorem Kept.dmaCount {f : Foot} {s x : State} (h : Kept f s x) (hf : Foot.le ⟨false, [0x12], [], []⟩ f = true) (a0 : Nat) (a1 : Nat) :
    Kept f s (State.dmaCount x a0 a1) := by
  unfold Sys2Proof.Machine.State.dmaCount
  repeat' first
    | with_reducible assumption
    | with_reducible refine Kept.putPair _ _ ?_ (Foot.word_of_le hf (by first | decide +kernel | (simp only [DMA_S_BYTES_LO.addr_win, DMA_S_BYTES_LO.addr_win4, DMA_S_BYTES_LO.addr_win8]; first | decide +kernel | (split <;> decide +kernel)))) (Foot.word_of_le hf (by first | decide +kernel | (simp only [DMA_S_BYTES_LO.addr_win, DMA_S_BYTES_LO.addr_win4, DMA_S_BYTES_LO.addr_win8]; first | decide +kernel | (split <;> decide +kernel))))

theorem Kept.setCur {f : Foot} {s x : State} (h : Kept f s x) (hf : Foot.le ⟨false, [], [], [.dma]⟩ f = true) (a0 : Nat) (a1 : Option DmaCur) :
    Kept f s (State.setCur x a0 a1) := by
  unfold Sys2Proof.Machine.State.setCur
  repeat' first
    | intro y
    | lift_lets
    | with_reducible exact Kept.set_dma _ (by with_reducible assumption) (Foot.part_of_le hf (by decide +kernel : Foot.part _ .dma = true))

theorem Kept.setDma {f : Foot} {s x : State} (h : Kept f s x) (hf : Foot.le ⟨false, [0x12], [], []⟩ f = true) (a0 : Nat) (a1 : Nat) :
    Kept f s (State.setDma x a0 a1) := by
  unfold Sys2Proof.Machine.State.setDma
  repeat' first
    | with_reducible assumption
    | with_reducible refine Kept.put _ _ ?_ (Foot.word_of_le hf (by first | decide +kernel | (simp only [DMA_S_STAT.STATE, DMA_S_STAT.addr_win]; first | decide +kernel | (split <;> decide +kernel))))

theorem Kept.dmaFail {f : Foot} {s x : State} (h : Kept f s x) (hf : Foot.le ⟨false, [0x00, 0x12, 0x13, 0x15, 0x1B], [], [.sram, .freeCtr, .flt, .dma, .spt]⟩ f = true) (a0 : Nat) (a1 : DmaCur) (a2 : Nat) (a3 : Nat) (a4 : Bool) (a5 : Nat) :
    Kept f s (State.dmaFail x a0 a1 a2 a3 a4 a5) := by
  induction a5 generalizing x a0 a1 a2 a3 a4 with
  | zero => exact h
  | succ n ih =>
    unfold Sys2Proof.Machine.State.dmaFail
    repeat' first
    | with_reducible assumption
    | with_reducible exact ih (by with_reducible assumption) _ _ _ _ _
    | with_reducible refine Kept.ite ?_ ?_
    | with_reducible refine Kept.dmaWriteBack ?_ (Foot.le_trans (by decide +kernel) hf) _ _ _ _
    | with_reducible refine Kept.dmaCount ?_ (Foot.le_trans (by decide +kernel) hf) _ _
    | with_reducible refine Kept.setCur ?_ (Foot.le_trans (by decide +kernel) hf) _ _
    | with_reducible refine Kept.setDma ?_ (Foot.le_trans (by decide +kernel) hf) _ _
    | with_reducible refine Kept.put _ _ ?_ (Foot.word_of_le hf (by first | decide +kernel | (simp only [DMA_S_HEAD.HEAD, DMA_S_HEAD.addr_win, DMA_S_STAT.LAST_STATUS, DMA_S_STAT.addr_win, DMA_S_STAT.DETAIL, DMA_S_STAT.ERR, DMA_BAR_STAT.ERR, DMA_BAR_STAT.addr_win]; first | decide +kernel | (split <;> decide +kernel))))
    | with_reducible refine Kept.riseIrq ?_ (Foot.le_trans (by decide +kernel) hf) _ _ (Foot.word_of_le hf (by first | decide +kernel | (simp only [DMA_S_HEAD.HEAD, DMA_S_HEAD.addr_win, DMA_S_STAT.LAST_STATUS, DMA_S_STAT.addr_win, DMA_S_STAT.DETAIL, DMA_S_STAT.ERR, DMA_BAR_STAT.ERR, DMA_BAR_STAT.addr_win]; first | decide +kernel | (split <;> decide +kernel))))
    | with_reducible refine Kept.fltInfo ?_ (Foot.le_trans (by decide +kernel) hf) _ _ _ _ _
    | with_reducible refine Kept.chkPublish ?_ (Foot.le_trans (by decide +kernel) hf) _ _
    | with_reducible refine Kept.foldl _ (fun y b hy => ?_) ?_
    | intro y
    | split
    | lift_lets
    | fail_if_no_progress (with_reducible refine Kept.set_spt _ ?_ (Foot.part_of_le hf (by decide +kernel : Foot.part _ .spt = true)))

theorem Kept.dmaEnd {f : Foot} {s x : State} (h : Kept f s x) (hf : Foot.le ⟨false, [0x00, 0x12, 0x13, 0x15, 0x1B], [], [.sram, .freeCtr, .flt, .dma, .spt]⟩ f = true) (a0 : Nat) (a1 : Nat) (a2 : Nat) (a3 : Bool) :
    Kept f s (State.dmaEnd x a0 a1 a2 a3) := by
  unfold Sys2Proof.Machine.State.dmaEnd
  repeat' first
    | with_reducible assumption
    | with_reducible refine Kept.dmaFail ?_ (Foot.le_trans (by decide +kernel) hf) _ _ _ _ _ _
    | split

theorem Kept.dmaApply {f : Foot} {s x : State} (h : Kept f s x) (hf : Foot.le ⟨false, [0x00, 0x12, 0x13, 0x15, 0x1B], [], [.sram, .freeCtr, .flt, .dma, .spt]⟩ f = true) :
    Kept f s (State.dmaApply x) := by
  unfold Sys2Proof.Machine.State.dmaApply
  repeat' first
    | with_reducible assumption
    | with_reducible refine Kept.ite ?_ ?_
    | with_reducible refine Kept.setDma ?_ (Foot.le_trans (by decide +kernel) hf) _ _
    | with_reducible refine Kept.dmaEnd ?_ (Foot.le_trans (by decide +kernel) hf) _ _ _ _
    | with_reducible refine Kept.setCur ?_ (Foot.le_trans (by decide +kernel) hf) _ _
    | with_reducible refine Kept.foldl _ (fun y b hy => ?_) ?_

theorem Kept.barRelease {f : Foot} {s x : State} (h : Kept f s x) (hf : Foot.le ⟨false, [0x00, 0x12, 0x13, 0x15, 0x1B], [], [.sram, .freeCtr, .flt, .dma, .spt]⟩ f = true) (a0 : Nat) :
    Kept f s (State.barRelease x a0) := by
  unfold Sys2Proof.Machine.State.barRelease
  repeat' first
    | with_reducible assumption
    | with_reducible refine Kept.ite ?_ ?_
    | with_reducible refine Kept.putB _ _ ?_ (Foot.word_of_le hf (by first | decide +kernel | (simp only [DMA_BAR_STAT.DONE, DMA_BAR_STAT.addr_win, DMA_BAR_CTRL.TARGET, DMA_BAR_CTRL.addr_win, DMA_BAR_STAT.COUNT, DMA_BAR_STAT.ERR]; first | decide +kernel | (split <;> decide +kernel))))
    | with_reducible refine Kept.dmaEnd ?_ (Foot.le_trans (by decide +kernel) hf) _ _ _ _
    | with_reducible refine Kept.setDma ?_ (Foot.le_trans (by decide +kernel) hf) _ _
    | with_reducible refine Kept.foldl _ (fun y b hy => ?_) ?_
    | split

theorem Kept.setQueue {f : Foot} {s x : State} (h : Kept f s x) (hf : Foot.le ⟨false, [], [], [.fft, .acq]⟩ f = true) (a0 : Nat) (a1 : List (List Byte)) :
    Kept f s (State.setQueue x a0 a1) := by
  unfold Sys2Proof.Machine.State.setQueue
  repeat' first
    | with_reducible assumption
    | with_reducible refine Kept.ite ?_ ?_
    | with_reducible refine Kept.setUnit ?_ (Foot.le_trans (by decide +kernel) hf) _ _
    | with_reducible refine Kept.modFftSrc ?_ (Foot.le_trans (by decide +kernel) hf) _ _
    | split

theorem Kept.dmaFeed {f : Foot} {s x : State} (h : Kept f s x) (hf : Foot.le ⟨false, [0x13], [], [.dma]⟩ f = true) (a0 : DmaCur) (a1 : Bool) (a2 : List Byte) :
    Kept f s (State.dmaFeed x a0 a1 a2) := by
  unfold Sys2Proof.Machine.State.dmaFeed
  repeat' first
    | with_reducible assumption
    | with_reducible refine Kept.ite ?_ ?_
    | with_reducible refine Kept.chkFeed ?_ (Foot.le_trans (by decide +kernel) hf) _ _

theorem Kept.dmaWrite {f : Foot} {s x : State} (h : Kept f s x) (hf : Foot.le ⟨false, [0x00, 0x15, 0x1B], [], [.sram, .gddr, .flt, .mem]⟩ f = true) (a0 : DmaCur) (a1 : Nat) (a2 : Nat) (a3 : List Byte) :
    Kept.res f s (State.dmaWrite x a0 a1 a2 a3) := by
  unfold Sys2Proof.Machine.State.dmaWrite
  repeat' first
    | with_reducible assumption
    | with_reducible refine Kept.res_ite ?_ ?_
    | with_reducible refine Kept.res_ok ?_
    | with_reducible exact Kept.res_error _ _ _
    | with_reducible refine Kept.setSramByte _ _ ?_ (Foot.part_of_le hf (by decide +kernel : Foot.part _ .sram = true))
    | with_reducible refine Kept.unpoison ?_ (Foot.le_trans (by decide +kernel) hf) _ _
    | with_reducible refine Kept.writeGddr ?_ (Foot.le_trans (by decide +kernel) hf) _ _
    | with_reducible refine Kept.foldl _ (fun y b hy => ?_) ?_
    | split

/-- A read of source bytes keeps what footprint f says where it carries a state. -/
def Kept.rd (f : Foot) (s : State) : DmaRead → Prop
  | .bytes _ t => Kept f s t
  | .refused _ t => Kept f s t
  | .none_ => True

/-- A beat keeps what footprint f says where it carries a state. -/
def Kept.beat (f : Foot) (s : State) : DmaBeat → Prop
  | .moved t => Kept f s t
  | .refused _ _ _ t => Kept f s t
  | .waits => True

theorem Kept.dmaReadMem {f : Foot} {s x : State} (h : Kept f s x)
    (hf : Foot.le ⟨false, [0x00, 0x12, 0x13, 0x14, 0x15, 0x1B], [], [.sram, .gddr, .freeCtr, .flt, .fft, .acq, .dma, .spt, .mem]⟩ f = true)
    (g : Bool) (l : List Nat) : Kept.rd f s (x.dmaReadMem g l) := by
  induction l with
  | nil => exact h
  | cons a l ih =>
    unfold State.dmaReadMem
    split
    · exact h
    · split
      · exact Kept.memUe h (Foot.le_trans (by decide) hf) _
      · split
        · exact h
        · split
          · next e => rw [e] at ih; exact ih
          · next e => exact ih

theorem Kept.dmaRead {f : Foot} {s x : State} (h : Kept f s x)
    (hf : Foot.le ⟨false, [0x00, 0x12, 0x13, 0x14, 0x15, 0x1B], [], [.sram, .gddr, .freeCtr, .flt, .fft, .acq, .dma, .spt, .mem]⟩ f = true)
    (c : DmaCur) (row j n : Nat) (host : List Byte) : Kept.rd f s (x.dmaRead c row j n host).1 := by
  unfold State.dmaRead
  dsimp only
  split
  · exact h
  · split
    · exact Kept.dmaReadMem h hf _ _
    · split
      · exact Kept.dmaReadMem h hf _ _
      · split
        · split
          · exact h
          · split
            · trivial
            · exact h
        · split
          · split
            · trivial
            · exact Kept.setQueue h (Foot.le_trans (by decide) hf) _ _
          · exact h

theorem Kept.dmaBeat {f : Foot} {s x : State} (h : Kept f s x)
    (hf : Foot.le ⟨false, [0x00, 0x12, 0x13, 0x14, 0x15, 0x1B], [], [.sram, .gddr, .freeCtr, .flt, .fft, .acq, .dma, .spt, .mem]⟩ f = true)
    (k : Nat) (c : DmaCur) (ack : Bool) (host : List Byte) : Kept.beat f s (x.dmaBeat k c ack host).1 := by
  unfold State.dmaBeat
  dsimp only
  have hr := Kept.dmaRead h hf c (c.pos / c.rowDst) c.row.length (c.need (c.pos % c.rowDst + min 64 (c.rowDst - c.pos % c.rowDst)) - c.row.length) host
  split
  · trivial
  · next e => rw [e] at hr; exact hr
  · next e =>
    rw [e] at hr
    have h1 := Kept.dmaFeed hr (Foot.le_trans (by decide) hf) c false
    split
    · exact h1 _
    · next e2 =>
      exact Kept.setCur (Kept.dmaFeed (Kept.of_ok (Kept.dmaWrite (h1 _) (Foot.le_trans (by decide) hf) _ _ _ _) e2) (Foot.le_trans (by decide) hf) _ _ _) (Foot.le_trans (by decide) hf) _ _

theorem Kept.dmaBeats {f : Foot} {s x : State} (h : Kept f s x) (hf : Foot.le ⟨false, [0x00, 0x12, 0x13, 0x14, 0x15, 0x1B], [], [.sram, .gddr, .freeCtr, .flt, .fft, .acq, .dma, .spt, .mem]⟩ f = true) (a0 : Nat) (a1 : Bool) (a2 : Nat) (a3 : List Byte) :
    Kept f s (State.dmaBeats x a0 a1 a2 a3) := by
  induction a2 generalizing x a3 with
  | zero => exact h
  | succ n ih =>
    unfold Sys2Proof.Machine.State.dmaBeats
    split
    · exact h
    · refine Kept.ite h ?_
      next c _ =>
        have hb := Kept.dmaBeat h hf a0 c a1 a3
        split
        · next e => rw [e] at hb; exact ih hb _
        · next e => rw [e] at hb; exact Kept.dmaEnd hb (Foot.le_trans (by decide +kernel) hf) _ _ _ _
        · exact h

theorem Kept.dmaProgress {f : Foot} {s x : State} (h : Kept f s x) (hf : Foot.le ⟨false, [0x00, 0x12, 0x13, 0x14, 0x15, 0x1B], [], [.sram, .gddr, .freeCtr, .flt, .fft, .acq, .dma, .spt, .mem]⟩ f = true) (a0 : Progress) (a1 : Nat) :
    Kept f s (State.dmaProgress x a0 a1) := by
  unfold Sys2Proof.Machine.State.dmaProgress
  repeat' first
    | with_reducible assumption
    | with_reducible refine Kept.ite ?_ ?_
    | with_reducible refine Kept.dmaBeats ?_ (Foot.le_trans (by decide +kernel) hf) _ _ _ _
    | split

theorem Kept.dmaForced {f : Foot} {s x : State} (h : Kept f s x) (hf : Foot.le ⟨false, [0x00, 0x12, 0x13, 0x14, 0x15, 0x1B], [], [.sram, .gddr, .freeCtr, .flt, .fft, .acq, .dma, .spt, .mem]⟩ f = true) (a0 : Nat) (a1 : Progress) :
    Kept f s (State.dmaForced x a0 a1).2 := by
  unfold Sys2Proof.Machine.State.dmaForced
  repeat' first
    | with_reducible assumption
    | with_reducible refine Kept.dmaProgress ?_ (Foot.le_trans (by decide +kernel) hf) _ _
    | with_reducible refine Kept.dmaEnd ?_ (Foot.le_trans (by decide +kernel) hf) _ _ _ _
    | with_reducible refine Kept.foldl_snd _ (fun y b hy => ?_) ?_
    | (intro y; refine (fun hy : Kept f s y => ?_) ?_ <;> [clear_value y; skip])
    | split
    | lift_lets

theorem Kept.dmaCmd {f : Foot} {s x : State} (h : Kept f s x) (hf : Foot.le ⟨false, [0x00, 0x12, 0x13, 0x15, 0x1B], [], [.sram, .freeCtr, .flt, .dma, .spt]⟩ f = true) (a0 : Nat) (a1 : Word) :
    Kept.res f s (State.dmaCmd x a0 a1) := by
  unfold Sys2Proof.Machine.State.dmaCmd
  repeat' first
    | with_reducible assumption
    | with_reducible refine Kept.ite ?_ ?_
    | with_reducible refine Kept.res_ite ?_ ?_
    | with_reducible refine Kept.res_ok ?_
    | with_reducible exact Kept.res_error _ _ _
    | with_reducible refine Kept.setDma ?_ (Foot.le_trans (by decide +kernel) hf) _ _
    | with_reducible refine Kept.put _ _ ?_ (Foot.word_of_le hf (by first | decide +kernel | (simp only [DMA_S_STAT.KICK_PEND, DMA_S_STAT.addr_win]; first | decide +kernel | (split <;> decide +kernel))))
    | with_reducible refine Kept.setCur ?_ (Foot.le_trans (by decide +kernel) hf) _ _
    | with_reducible refine Kept.dmaEnd ?_ (Foot.le_trans (by decide +kernel) hf) _ _ _ _

theorem Kept.dmaRules {f : Foot} {s x : State} (h : Kept f s x) (hf : Foot.le ⟨false, [0x00, 0x12, 0x13, 0x15, 0x1B], [], [.sram, .freeCtr, .flt, .dma, .spt]⟩ f = true) (b0 : Source) (b1 : Nat) (b2 : Word) :
    Kept.res f s (dmaRules.act b0 b1 b2 x) := by
  unfold Sys2Proof.Machine.dmaRules
  repeat' first
    | with_reducible assumption
    | with_reducible refine Kept.ite ?_ ?_
    | with_reducible refine Kept.res_ite ?_ ?_
    | with_reducible refine Kept.res_ok ?_
    | with_reducible exact Kept.res_error _ _ _
    | with_reducible refine Kept.dmaCmd ?_ (Foot.le_trans (by decide +kernel) hf) _ _
    | with_reducible refine Kept.put _ _ ?_ (Foot.word_of_le hf (by first | decide +kernel | (simp only [DMA_S_CMD.addr_win, DMA_S_HEAD.addr_win, DMA_S_HEAD.HEAD, DMA_BAR_CTRL.addr_win, DMA_BAR_STAT.COUNT, DMA_BAR_STAT.addr_win, DMA_BAR_STAT.ERR]; first | decide +kernel | (split <;> decide +kernel))))
    | with_reducible refine Kept.barRelease ?_ (Foot.le_trans (by decide +kernel) hf) _
    | split

theorem Kept.dmaDone {f : Foot} {s x : State} (h : Kept f s x) (hf : Foot.le ⟨false, [0x00, 0x12, 0x13, 0x15, 0x1B], [], [.sram, .freeCtr, .flt, .pwr, .dma, .spt]⟩ f = true) (a0 : Nat) (a1 : DmaCur) :
    Kept f s (State.dmaDone x a0 a1) := by
  unfold Sys2Proof.Machine.State.dmaDone
  repeat' first
    | with_reducible assumption
    | with_reducible refine Kept.ite ?_ ?_
    | with_reducible refine Kept.dmaCount ?_ (Foot.le_trans (by decide +kernel) hf) _ _
    | with_reducible refine Kept.dmaWriteBack ?_ (Foot.le_trans (by decide +kernel) hf) _ _ _ _
    | with_reducible refine Kept.arbServe ?_ (Foot.le_trans (by decide +kernel) hf) _ _ _
    | with_reducible refine Kept.put _ _ ?_ (Foot.word_of_le hf (by first | decide +kernel | (simp only [DMA_S_DONE.DONE, DMA_S_DONE.addr_win, DMA_S_STAT.LAST_STATUS, DMA_S_STAT.addr_win, DMA_S_STAT.DESC_DONE, DMA_S_HEAD.HEAD, DMA_S_HEAD.addr_win, DMA_BAR_STAT.COUNT, DMA_BAR_STAT.addr_win]; first | decide +kernel | (split <;> decide +kernel))))
    | with_reducible refine Kept.bumpWrap _ ?_ (Foot.word_of_le hf (by first | decide +kernel | (simp only [DMA_S_DONE.DONE, DMA_S_DONE.addr_win, DMA_S_STAT.LAST_STATUS, DMA_S_STAT.addr_win, DMA_S_STAT.DESC_DONE, DMA_S_HEAD.HEAD, DMA_S_HEAD.addr_win, DMA_BAR_STAT.COUNT, DMA_BAR_STAT.addr_win]; first | decide +kernel | (split <;> decide +kernel))))
    | with_reducible refine Kept.setCur ?_ (Foot.le_trans (by decide +kernel) hf) _ _
    | with_reducible refine Kept.chkPublish ?_ (Foot.le_trans (by decide +kernel) hf) _ _
    | with_reducible refine Kept.riseIrq ?_ (Foot.le_trans (by decide +kernel) hf) _ _ (Foot.word_of_le hf (by first | decide +kernel | (simp only [DMA_S_DONE.DONE, DMA_S_DONE.addr_win, DMA_S_STAT.LAST_STATUS, DMA_S_STAT.addr_win, DMA_S_STAT.DESC_DONE, DMA_S_HEAD.HEAD, DMA_S_HEAD.addr_win, DMA_BAR_STAT.COUNT, DMA_BAR_STAT.addr_win]; first | decide +kernel | (split <;> decide +kernel))))
    | with_reducible refine Kept.setDma ?_ (Foot.le_trans (by decide +kernel) hf) _ _
    | with_reducible refine Kept.barRelease ?_ (Foot.le_trans (by decide +kernel) hf) _
    | with_reducible refine Kept.bump _ ?_ (Foot.word_of_le hf (by first | decide +kernel | (simp only [DMA_S_DONE.DONE, DMA_S_DONE.addr_win, DMA_S_STAT.LAST_STATUS, DMA_S_STAT.addr_win, DMA_S_STAT.DESC_DONE, DMA_S_HEAD.HEAD, DMA_S_HEAD.addr_win, DMA_BAR_STAT.COUNT, DMA_BAR_STAT.addr_win]; first | decide +kernel | (split <;> decide +kernel))))
    | (intro y; refine (fun hy : Kept f s y => ?_) ?_ <;> [clear_value y; skip])
    | intro y
    | split
    | lift_lets
    | with_reducible exact Kept.set_pwr _ (by with_reducible assumption) (Foot.part_of_le hf (by decide +kernel : Foot.part _ .pwr = true))

theorem Kept.storePump {f : Foot} {s x : State} (h : Kept f s x) (hf : Foot.le ⟨false, [0x00, 0x12, 0x13, 0x14, 0x15, 0x1B], [], [.sram, .gddr, .freeCtr, .flt, .fft, .acq, .dma, .spt, .mem]⟩ f = true) (a0 : Nat) (a1 : Nat) :
    Kept f s (State.storePump x a0 a1) := by
  induction a1 generalizing x with
  | zero => exact h
  | succ n ih =>
    unfold Sys2Proof.Machine.State.storePump
    split
    · exact h
    · refine Kept.ite h ?_
      dsimp only
      split
      · exact Kept.ite (Kept.setCur h (Foot.le_trans (by decide +kernel) hf) _ _) (Kept.dmaEnd h (Foot.le_trans (by decide +kernel) hf) _ _ _ _)
      · refine Kept.ite h (Kept.ite h (Kept.ite h ?_))
        have h1 := fun z => Kept.dmaBeats h hf a0 false z []
        exact Kept.ite (ih (Kept.set_spt _ (h1 _) (Foot.part_of_le hf (by decide +kernel : Foot.part _ .spt = true)))) (h1 _)

theorem Kept.storePumpAll {f : Foot} {s x : State} (h : Kept f s x) (hf : Foot.le ⟨false, [0x00, 0x12, 0x13, 0x14, 0x15, 0x1B], [], [.sram, .gddr, .freeCtr, .flt, .fft, .acq, .dma, .spt, .mem]⟩ f = true) :
    Kept f s (State.storePumpAll x) := by
  unfold Sys2Proof.Machine.State.storePumpAll
  repeat' first
    | with_reducible assumption
    | with_reducible refine Kept.storePump ?_ (Foot.le_trans (by decide +kernel) hf) _ _
    | with_reducible refine Kept.foldl _ (fun y b hy => ?_) ?_

theorem Kept.execBarrierArm {f : Foot} {s x : State} (h : Kept f s x) (hf : Foot.le ⟨false, [0x00, 0x12, 0x13, 0x15, 0x1B], [], [.sram, .freeCtr, .resp, .sys, .flt, .dma, .spt]⟩ f = true) (a0 : Fin 16) (a1 : Source) (a2 : Word) :
    ∃ t, execBarrierArm a0 a1 a2 x = .next t ∧ Kept f s t := by
  unfold Sys2Proof.Machine.execBarrierArm
  refine ⟨_, rfl, ?_⟩
  repeat' first
    | with_reducible assumption
    | with_reducible refine Kept.writeReg ?_ (fun y b0 b1 b2 => Kept.dmaRules (Kept.refl _ y) (Foot.le_trans (by decide +kernel) hf) b0 b1 b2) (Foot.word_of_le hf (by first | decide +kernel | (simp only [DMA_BAR_CTRL.addr_win]; first | decide +kernel | (split <;> decide +kernel)))) (Foot.word_of_le hf (by first | decide +kernel | (simp only [DMA_BAR_CTRL.addr_win]; first | decide +kernel | (split <;> decide +kernel)))) (Foot.word_of_le hf (by decide +kernel)) (Foot.part_of_le hf (by decide +kernel : Foot.part _ .resp = true)) (Foot.part_of_le hf (by decide +kernel : Foot.part _ .sys = true))

theorem Kept.execBeatRefused {f : Foot} {s x : State} (h : Kept f s x) (hf : Foot.le ⟨false, [0x00, 0x12, 0x13, 0x14, 0x15, 0x1B], [], [.sram, .gddr, .freeCtr, .flt, .fft, .acq, .dma, .spt, .mem]⟩ f = true) (a0 : Fin 32) (a1 : Bool) (a2 : Nat) (a3 : BitVec 8) (a4 : List Byte) :
    ∃ t, execBeatRefused a0 a1 a2 a3 a4 x = .next t ∧ Kept f s t := by
  unfold Sys2Proof.Machine.execBeatRefused
  refine ⟨_, rfl, ?_⟩
  repeat' first
    | with_reducible assumption
    | with_reducible refine Kept.ite ?_ ?_
    | with_reducible refine Kept.dmaBeats ?_ (Foot.le_trans (by decide +kernel) hf) _ _ _ _
    | with_reducible refine Kept.dmaEnd ?_ (Foot.le_trans (by decide +kernel) hf) _ _ _ _
    | (intro y; refine (fun hy : Kept f s y => ?_) ?_ <;> [clear_value y; skip])
    | split
    | lift_lets

theorem Kept.execDescriptorComplete {f : Foot} {s x : State} (h : Kept f s x) (hf : Foot.le ⟨false, [0x00, 0x12, 0x13, 0x14, 0x15, 0x1B], [], [.sram, .gddr, .freeCtr, .flt, .pwr, .fft, .acq, .dma, .spt, .mem]⟩ f = true) (a0 : Fin 32) (a1 : List Byte) :
    ∃ t, execDescriptorComplete a0 a1 x = .next t ∧ Kept f s t := by
  unfold Sys2Proof.Machine.execDescriptorComplete
  refine ⟨_, rfl, ?_⟩
  repeat' first
    | with_reducible assumption
    | with_reducible refine Kept.ite ?_ ?_
    | with_reducible refine Kept.storePump ?_ (Foot.le_trans (by decide +kernel) hf) _ _
    | with_reducible refine Kept.dmaBeats ?_ (Foot.le_trans (by decide +kernel) hf) _ _ _ _
    | with_reducible refine Kept.dmaDone ?_ (Foot.le_trans (by decide +kernel) hf) _ _
    | (intro y; refine (fun hy : Kept f s y => ?_) ?_ <;> [clear_value y; skip])
    | intro y
    | split
    | lift_lets

theorem Kept.execDescriptorFetch {f : Foot} {s x : State} (h : Kept f s x) (hf : Foot.le ⟨false, [0x00, 0x12, 0x13, 0x15, 0x1B], [], [.sram, .freeCtr, .flt, .pwr, .dma, .spt]⟩ f = true) (a0 : Fin 32) :
    ∃ t, execDescriptorFetch a0 x = .next t ∧ Kept f s t := by
  unfold Sys2Proof.Machine.execDescriptorFetch
  refine ⟨_, rfl, ?_⟩
  repeat' first
    | with_reducible assumption
    | with_reducible refine Kept.ite ?_ ?_
    | with_reducible refine Kept.setDma ?_ (Foot.le_trans (by decide +kernel) hf) _ _
    | with_reducible refine Kept.put _ _ ?_ (Foot.word_of_le hf (by first | decide +kernel | (simp only [DMA_S_HEAD.HEAD, DMA_S_HEAD.addr_win, DMA_S_STAT.LAST_STATUS, DMA_S_STAT.addr_win, DMA_S_STAT.KICK_PEND, DMA_BAR_STAT.ERR, DMA_BAR_STAT.addr_win, DMA_BAR_STAT.DONE]; first | decide +kernel | (split <;> decide +kernel))))
    | with_reducible refine Kept.dmaEnd ?_ (Foot.le_trans (by decide +kernel) hf) _ _ _ _
    | with_reducible refine Kept.setCur ?_ (Foot.le_trans (by decide +kernel) hf) _ _
    | (intro y; refine (fun hy : Kept f s y => ?_) ?_ <;> [clear_value y; skip])
    | intro y
    | split
    | lift_lets
    | with_reducible exact Kept.set_pwr _ (by with_reducible assumption) (Foot.part_of_le hf (by decide +kernel : Foot.part _ .pwr = true))

theorem Kept.execDmaAbort {f : Foot} {s x : State} (h : Kept f s x) (hf : Foot.le ⟨false, [0x00, 0x12, 0x13, 0x14, 0x15, 0x1B], [], [.sram, .gddr, .freeCtr, .resp, .sys, .flt, .fft, .acq, .dma, .spt, .mem]⟩ f = true) (a0 : Fin 32) (a1 : Nat) (a2 : List Byte) (a3 : Source) (a4 : Word) :
    ∃ t, execDmaAbort a0 a1 a2 a3 a4 x = .next t ∧ Kept f s t := by
  unfold Sys2Proof.Machine.execDmaAbort
  refine ⟨_, rfl, ?_⟩
  repeat' first
    | with_reducible assumption
    | with_reducible refine Kept.ite ?_ ?_
    | with_reducible refine Kept.dmaBeats ?_ (Foot.le_trans (by decide +kernel) hf) _ _ _ _
    | with_reducible refine Kept.writeReg ?_ (fun y b0 b1 b2 => Kept.dmaRules (Kept.refl _ y) (Foot.le_trans (by decide +kernel) hf) b0 b1 b2) (Foot.word_of_le hf (by first | decide +kernel | (simp only [DMA_S_CMD.addr_win]; first | decide +kernel | (split <;> decide +kernel)))) (Foot.word_of_le hf (by first | decide +kernel | (simp only [DMA_S_CMD.addr_win]; first | decide +kernel | (split <;> decide +kernel)))) (Foot.word_of_le hf (by decide +kernel)) (Foot.part_of_le hf (by decide +kernel : Foot.part _ .resp = true)) (Foot.part_of_le hf (by decide +kernel : Foot.part _ .sys = true))

theorem Kept.execDmaHeadWrite {f : Foot} {s x : State} (h : Kept f s x) (hf : Foot.le ⟨false, [0x00, 0x12, 0x13, 0x15, 0x1B], [], [.sram, .freeCtr, .resp, .sys, .flt, .dma, .spt]⟩ f = true) (a0 : Fin 32) (a1 : Source) (a2 : Word) :
    ∃ t, execDmaHeadWrite a0 a1 a2 x = .next t ∧ Kept f s t := by
  unfold Sys2Proof.Machine.execDmaHeadWrite
  refine ⟨_, rfl, ?_⟩
  repeat' first
    | with_reducible assumption
    | with_reducible refine Kept.writeReg ?_ (fun y b0 b1 b2 => Kept.dmaRules (Kept.refl _ y) (Foot.le_trans (by decide +kernel) hf) b0 b1 b2) (Foot.word_of_le hf (by first | decide +kernel | (simp only [DMA_S_HEAD.addr_win]; first | decide +kernel | (split <;> decide +kernel)))) (Foot.word_of_le hf (by first | decide +kernel | (simp only [DMA_S_HEAD.addr_win]; first | decide +kernel | (split <;> decide +kernel)))) (Foot.word_of_le hf (by decide +kernel)) (Foot.part_of_le hf (by decide +kernel : Foot.part _ .resp = true)) (Foot.part_of_le hf (by decide +kernel : Foot.part _ .sys = true))

theorem Kept.execDmaStart {f : Foot} {s x : State} (h : Kept f s x) (hf : Foot.le ⟨false, [0x00, 0x12, 0x13, 0x15, 0x1B], [], [.sram, .freeCtr, .resp, .sys, .flt, .dma, .spt]⟩ f = true) (a0 : Fin 32) (a1 : Source) (a2 : Word) :
    ∃ t, execDmaStart a0 a1 a2 x = .next t ∧ Kept f s t := by
  unfold Sys2Proof.Machine.execDmaStart
  refine ⟨_, rfl, ?_⟩
  repeat' first
    | with_reducible assumption
    | with_reducible refine Kept.writeReg ?_ (fun y b0 b1 b2 => Kept.dmaRules (Kept.refl _ y) (Foot.le_trans (by decide +kernel) hf) b0 b1 b2) (Foot.word_of_le hf (by first | decide +kernel | (simp only [DMA_S_CMD.addr_win]; first | decide +kernel | (split <;> decide +kernel)))) (Foot.word_of_le hf (by first | decide +kernel | (simp only [DMA_S_CMD.addr_win]; first | decide +kernel | (split <;> decide +kernel)))) (Foot.word_of_le hf (by decide +kernel)) (Foot.part_of_le hf (by decide +kernel : Foot.part _ .resp = true)) (Foot.part_of_le hf (by decide +kernel : Foot.part _ .sys = true))

theorem Kept.execDmaStop {f : Foot} {s x : State} (h : Kept f s x) (hf : Foot.le ⟨false, [0x00, 0x12, 0x13, 0x15, 0x1B], [], [.sram, .freeCtr, .resp, .sys, .flt, .dma, .spt]⟩ f = true) (a0 : Fin 32) (a1 : Source) (a2 : Word) :
    ∃ t, execDmaStop a0 a1 a2 x = .next t ∧ Kept f s t := by
  unfold Sys2Proof.Machine.execDmaStop
  refine ⟨_, rfl, ?_⟩
  repeat' first
    | with_reducible assumption
    | with_reducible refine Kept.writeReg ?_ (fun y b0 b1 b2 => Kept.dmaRules (Kept.refl _ y) (Foot.le_trans (by decide +kernel) hf) b0 b1 b2) (Foot.word_of_le hf (by first | decide +kernel | (simp only [DMA_S_CMD.addr_win]; first | decide +kernel | (split <;> decide +kernel)))) (Foot.word_of_le hf (by first | decide +kernel | (simp only [DMA_S_CMD.addr_win]; first | decide +kernel | (split <;> decide +kernel)))) (Foot.word_of_le hf (by decide +kernel)) (Foot.part_of_le hf (by decide +kernel : Foot.part _ .resp = true)) (Foot.part_of_le hf (by decide +kernel : Foot.part _ .sys = true))

theorem Kept.execKick {f : Foot} {s x : State} (h : Kept f s x) (hf : Foot.le ⟨false, [0x00, 0x12, 0x13, 0x15, 0x1B], [], [.sram, .freeCtr, .resp, .sys, .flt, .dma, .spt]⟩ f = true) (a0 : Fin 32) (a1 : Source) (a2 : Word) :
    ∃ t, execKick a0 a1 a2 x = .next t ∧ Kept f s t := by
  unfold Sys2Proof.Machine.execKick
  refine ⟨_, rfl, ?_⟩
  repeat' first
    | with_reducible assumption
    | with_reducible refine Kept.writeReg ?_ (fun y b0 b1 b2 => Kept.dmaRules (Kept.refl _ y) (Foot.le_trans (by decide +kernel) hf) b0 b1 b2) (Foot.word_of_le hf (by first | decide +kernel | (simp only [DMA_S_CMD.addr_win]; first | decide +kernel | (split <;> decide +kernel)))) (Foot.word_of_le hf (by first | decide +kernel | (simp only [DMA_S_CMD.addr_win]; first | decide +kernel | (split <;> decide +kernel)))) (Foot.word_of_le hf (by decide +kernel)) (Foot.part_of_le hf (by decide +kernel : Foot.part _ .resp = true)) (Foot.part_of_le hf (by decide +kernel : Foot.part _ .sys = true))

end Sys2Proof.Machine
end

