-- ==== Sys2Proof/Laws/KeptPorts.lean ====
section
/-! SUPPORT. What the operations of Sys2Proof/Machine/Ports.lean change. -/

set_option Elab.async false

set_option linter.all false

namespace Sys2Proof.Machine

theorem Kept.resetReg {f : Foot} {s x : State} (h : Kept f s x) (a : Nat) (hw : f.word (a / 0x10000) = true)
    (ha : f.app (a / 0x10000) = true) (hl : f.part .latch = true) : Kept f s (x.resetReg a) := by
  refine h.trans ⟨⟨rfl, fun b hb => ?_, fun b hb => ?_, fun p hq => ?_⟩, fun q =>
    ⟨⟨SMap.wf_erase resetWord a _ q.1.1, SMap.wf_erase appliedDefault a _ q.1.2.1, SMap.wf_erase latchDefault a _ q.1.2.2.1, q.1.2.2.2⟩, q.2⟩⟩
  · have : b ≠ a := by rintro rfl; rw [hw] at hb; exact absurd hb (by simp)
    simp [State.word, State.resetReg, SMap.get, SMap.find_erase_ne _ this]
  · have : b ≠ a := by rintro rfl; rw [ha] at hb; exact absurd hb (by simp)
    simp [State.appWord, State.resetReg, SMap.get, SMap.find_erase_ne _ this]
  · cases p <;> first | rfl | (rw [hl] at hq; exact absurd hq (by simp))

theorem Kept.resetBlock {f : Foot} {s x : State} (h : Kept f s x) (w : Nat) (p : Nat → Bool)
    (hw : ∀ a ∈ addrsOfBlock w, f.word (a / 0x10000) = true ∧ f.app (a / 0x10000) = true) (hl : f.part .latch = true) :
    Kept f s (x.resetBlock w p) := by
  unfold State.resetBlock
  generalize hl : addrsOfBlock w = l at hw
  clear hl
  induction l generalizing x with
  | nil => exact h
  | cons a l ih =>
    refine ih ?_ (fun b hb => hw b (List.mem_cons_of_mem _ hb))
    have := hw a (List.mem_cons_self ..)
    exact Kept.ite (Kept.resetReg h _ this.1 this.2 (by assumption)) h

theorem Kept.setDrive {f : Foot} {s x : State} (h : Kept f s x) (hf : Foot.le ⟨false, [0x15, 0x16], [], []⟩ f = true) (a0 : Nat) (a1 : Nat) :
    Kept f s (State.setDrive x a0 a1) := by
  unfold Sys2Proof.Machine.State.setDrive
  repeat' first
    | with_reducible assumption
    | with_reducible refine Kept.ite ?_ ?_
    | with_reducible refine Kept.put _ _ ?_ (Foot.word_of_le hf (by first | decide +kernel | (simp only [SPT_DRV_STAT.STATE, SPT_DRV_STAT.addr_win]; first | decide +kernel | (split <;> decide +kernel))))
    | with_reducible refine Kept.raiseIrq ?_ (Foot.le_trans (by decide +kernel) hf) _

theorem Kept.drivesGone {f : Foot} {s x : State} (h : Kept f s x) (hf : Foot.le ⟨false, [0x15, 0x16], [], []⟩ f = true) :
    Kept f s (State.drivesGone x) := by
  unfold Sys2Proof.Machine.State.drivesGone
  repeat' first
    | with_reducible assumption
    | with_reducible refine Kept.setDrive ?_ (Foot.le_trans (by decide +kernel) hf) _ _
    | with_reducible refine Kept.put _ _ ?_ (Foot.word_of_le hf (by first | decide +kernel | (simp only [SPT_DRV_STAT.WIDTH, SPT_DRV_STAT.addr_win, SPT_DRV_STAT.SPEED]; first | decide +kernel | (split <;> decide +kernel))))
    | with_reducible refine Kept.foldl _ (fun y b hy => ?_) ?_

theorem Kept.storeSettle {f : Foot} {s x : State} (h : Kept f s x) (hf : Foot.le ⟨false, [0x00, 0x12, 0x13, 0x15, 0x1B], [], [.sram, .freeCtr, .flt, .dma, .spt]⟩ f = true) (a0 : Nat) :
    Kept f s (State.storeSettle x a0) := by
  unfold Sys2Proof.Machine.State.storeSettle
  repeat' first
    | with_reducible assumption
    | with_reducible refine Kept.ite ?_ ?_
    | with_reducible refine Kept.dmaEnd ?_ (Foot.le_trans (by decide +kernel) hf) _ _ _ _
    | split

theorem Kept.storeSettleAll {f : Foot} {s x : State} (h : Kept f s x) (hf : Foot.le ⟨false, [0x00, 0x12, 0x13, 0x15, 0x1B], [], [.sram, .freeCtr, .flt, .dma, .spt]⟩ f = true) :
    Kept f s (State.storeSettleAll x) := by
  unfold Sys2Proof.Machine.State.storeSettleAll
  repeat' first
    | with_reducible assumption
    | with_reducible refine Kept.storeSettle ?_ (Foot.le_trans (by decide +kernel) hf) _
    | with_reducible refine Kept.foldl _ (fun y b hy => ?_) ?_

theorem Kept.storeRefuse {f : Foot} {s x : State} (h : Kept f s x) (hf : Foot.le ⟨false, [], [], [.dma]⟩ f = true) (a0 : NvmeCmd) (a1 : Err) :
    Kept f s (State.storeRefuse x a0 a1) := by
  unfold Sys2Proof.Machine.State.storeRefuse
  repeat' first
    | with_reducible assumption
    | with_reducible refine Kept.setCur ?_ (Foot.le_trans (by decide +kernel) hf) _ _
    | split

theorem Kept.dropCmd {f : Foot} {s x : State} (h : Kept f s x) (hf : Foot.le ⟨false, [], [], [.spt]⟩ f = true) (a0 : NvmeCmd) :
    Kept f s (State.dropCmd x a0) := by
  unfold Sys2Proof.Machine.State.dropCmd
  repeat' first
    | intro y
    | lift_lets
    | with_reducible exact Kept.set_spt _ (by with_reducible assumption) (Foot.part_of_le hf (by decide +kernel : Foot.part _ .spt = true))

theorem Kept.sptApply {f : Foot} {s x : State} (h : Kept f s x) (hf : Foot.le ⟨false, [0x00, 0x12, 0x13, 0x15, 0x16, 0x1B], [], [.sram, .freeCtr, .flt, .dma, .spt]⟩ f = true) (a0 : State) :
    Kept f s (State.sptApply x a0) := by
  unfold Sys2Proof.Machine.State.sptApply
  repeat' first
    | with_reducible assumption
    | with_reducible refine Kept.ite ?_ ?_
    | with_reducible refine Kept.drivesGone ?_ (Foot.le_trans (by decide +kernel) hf)
    | with_reducible refine Kept.storeSettleAll ?_ (Foot.le_trans (by decide +kernel) hf)
    | with_reducible refine Kept.storeRefuse ?_ (Foot.le_trans (by decide +kernel) hf) _ _
    | with_reducible refine Kept.dropCmd ?_ (Foot.le_trans (by decide +kernel) hf) _
    | with_reducible refine Kept.setDrive ?_ (Foot.le_trans (by decide +kernel) hf) _ _
    | with_reducible refine Kept.foldl _ (fun y b hy => ?_) ?_

theorem Kept.hptReset {f : Foot} {s x : State} (h : Kept f s x) (hf : Foot.le ⟨false, [0x15], [0x15], [.latch, .hpt]⟩ f = true) :
    Kept f s (State.hptReset x) := by
  unfold Sys2Proof.Machine.State.hptReset
  repeat' first
    | with_reducible assumption
    | with_reducible refine Kept.resetBlock ?_ _ _ (by first | exact fun a _ => ⟨Foot.word_of_le hf rfl, Foot.app_of_le hf rfl⟩ | exact fun a ha => ⟨Foot.word_of_le hf (by revert a; decide +kernel), Foot.app_of_le hf (by revert a; decide +kernel)⟩) (Foot.part_of_le hf (by decide +kernel : Foot.part _ .latch = true))
    | with_reducible refine Kept.put _ _ ?_ (Foot.word_of_le hf (by first | decide +kernel))
    | (intro y; refine (fun hy : Kept f s y => ?_) ?_ <;> [clear_value y; skip])
    | intro y
    | lift_lets
    | with_reducible exact Kept.set_hpt _ (by with_reducible assumption) (Foot.part_of_le hf (by decide +kernel : Foot.part _ .hpt = true))

theorem Kept.hostFail {f : Foot} {s x : State} (h : Kept f s x) (hf : Foot.le ⟨false, [0x00, 0x12, 0x13, 0x14, 0x15, 0x1B], [], [.sram, .gddr, .freeCtr, .flt, .fft, .acq, .dma, .spt, .mem]⟩ f = true) (a0 : Progress) (a1 : Bool) :
    Kept f s (State.hostFail x a0 a1) := by
  unfold Sys2Proof.Machine.State.hostFail
  repeat' first
    | with_reducible assumption
    | with_reducible refine Kept.ite ?_ ?_
    | with_reducible refine Kept.dmaProgress ?_ (Foot.le_trans (by decide +kernel) hf) _ _
    | with_reducible refine Kept.dmaEnd ?_ (Foot.le_trans (by decide +kernel) hf) _ _ _ _
    | with_reducible refine Kept.foldl _ (fun y b hy => ?_) ?_
    | (intro y; refine (fun hy : Kept f s y => ?_) ?_ <;> [clear_value y; skip])
    | intro y
    | split
    | lift_lets

theorem Kept.hostDown {f : Foot} {s x : State} (h : Kept f s x) (hf : Foot.le ⟨false, [0x00, 0x12, 0x13, 0x14, 0x15, 0x1B], [0x15], [.latch, .sram, .gddr, .freeCtr, .flt, .fft, .acq, .dma, .hpt, .spt, .mem]⟩ f = true) (a0 : Progress) :
    Kept f s (State.hostDown x a0) := by
  unfold Sys2Proof.Machine.State.hostDown
  repeat' first
    | with_reducible assumption
    | with_reducible refine Kept.hostFail ?_ (Foot.le_trans (by decide +kernel) hf) _ _
    | with_reducible refine Kept.fltInfo ?_ (Foot.le_trans (by decide +kernel) hf) _ _ _ _ _
    | with_reducible refine Kept.hptReset ?_ (Foot.le_trans (by decide +kernel) hf)

theorem Kept.sptRules {f : Foot} {s x : State} (h : Kept f s x) (hf : Foot.le ⟨false, [0x15, 0x16], [], []⟩ f = true) (b0 : Source) (b1 : Nat) (b2 : Word) :
    Kept.res f s (sptRules.act b0 b1 b2 x) := by
  unfold Sys2Proof.Machine.sptRules
  repeat' first
    | with_reducible assumption
    | with_reducible refine Kept.ite ?_ ?_
    | with_reducible refine Kept.res_ite ?_ ?_
    | with_reducible refine Kept.res_ok ?_
    | with_reducible refine Kept.put _ _ ?_ (Foot.word_of_le hf (by first | decide +kernel | (simp only [SPT_DRV_STAT.STATE, SPT_DRV_STAT.addr_win, SPT_DRV_CTRL.EN, SPT_DRV_CTRL.addr_win, SPT_DRV_STAT.WIDTH]; first | decide +kernel | (split <;> decide +kernel))))
    | with_reducible refine Kept.setDrive ?_ (Foot.le_trans (by decide +kernel) hf) _ _
    | with_reducible refine Kept.foldl _ (fun y b hy => ?_) ?_

theorem Kept.driveFailed {f : Foot} {s x : State} (h : Kept f s x) (hf : Foot.le ⟨false, [0x00, 0x12, 0x13, 0x15, 0x16, 0x1B], [], [.sram, .freeCtr, .flt, .dma, .spt]⟩ f = true) (a0 : Nat) :
    Kept f s (State.driveFailed x a0) := by
  unfold Sys2Proof.Machine.State.driveFailed
  repeat' first
    | with_reducible assumption
    | with_reducible refine Kept.setDrive ?_ (Foot.le_trans (by decide +kernel) hf) _ _
    | with_reducible refine Kept.storeRefuse ?_ (Foot.le_trans (by decide +kernel) hf) _ _
    | with_reducible refine Kept.dropCmd ?_ (Foot.le_trans (by decide +kernel) hf) _
    | with_reducible refine Kept.storeSettleAll ?_ (Foot.le_trans (by decide +kernel) hf)
    | with_reducible refine Kept.foldl _ (fun y b hy => ?_) ?_

theorem Kept.driveUp {f : Foot} {s x : State} (h : Kept f s x) (hf : Foot.le ⟨false, [0x15, 0x16], [], [.spt]⟩ f = true) (a0 : Fin 4) (a1 : Bool) (a2 : Nat) (a3 : Bool) (a4 : Nat) (a5 : BitVec 8) (a6 : BitVec 16) :
    Kept f s (State.driveUp x a0 a1 a2 a3 a4 a5 a6) := by
  unfold Sys2Proof.Machine.State.driveUp
  repeat' first
    | with_reducible assumption
    | with_reducible refine Kept.ite ?_ ?_
    | with_reducible refine Kept.setDrive ?_ (Foot.le_trans (by decide +kernel) hf) _ _
    | with_reducible refine Kept.putB _ _ ?_ (Foot.word_of_le hf (by first | decide +kernel | (simp only [SPT_DRV_STAT.STATE, SPT_DRV_STAT.addr_win, SPT_DRV_STAT.MDTS, SPT_DRV_STAT.LBA4K, SPT_DRV_BASE_LO.addr_win, SPT_DRV_NLB_LO.addr_win, SPT_DRV_CTRL.QD, SPT_DRV_CTRL.addr_win]; first | decide +kernel | (split <;> decide +kernel))))
    | with_reducible refine Kept.put _ _ ?_ (Foot.word_of_le hf (by first | decide +kernel | (simp only [SPT_DRV_STAT.STATE, SPT_DRV_STAT.addr_win, SPT_DRV_STAT.MDTS, SPT_DRV_STAT.LBA4K, SPT_DRV_BASE_LO.addr_win, SPT_DRV_NLB_LO.addr_win, SPT_DRV_CTRL.QD, SPT_DRV_CTRL.addr_win]; first | decide +kernel | (split <;> decide +kernel))))
    | intro y
    | lift_lets
    | fail_if_no_progress (with_reducible refine Kept.set_spt _ ?_ (Foot.part_of_le hf (by decide +kernel : Foot.part _ .spt = true)))

theorem Kept.drivesStart {f : Foot} {s x : State} (h : Kept f s x) (hf : Foot.le ⟨false, [0x15, 0x16], [], []⟩ f = true) :
    Kept f s (State.drivesStart x) := by
  unfold Sys2Proof.Machine.State.drivesStart
  repeat' first
    | with_reducible assumption
    | with_reducible refine Kept.ite ?_ ?_
    | with_reducible refine Kept.setDrive ?_ (Foot.le_trans (by decide +kernel) hf) _ _
    | with_reducible refine Kept.foldl _ (fun y b hy => ?_) ?_

theorem Kept.hostUp {f : Foot} {s x : State} (h : Kept f s x) (hf : Foot.le ⟨false, [0x15], [], [.hpt]⟩ f = true) (a0 : Nat) (a1 : Nat) (a2 : Bool) (a3 : Bool) (a4 : Bool) :
    Kept f s (State.hostUp x a0 a1 a2 a3 a4) := by
  unfold Sys2Proof.Machine.State.hostUp
  repeat' first
    | with_reducible assumption
    | with_reducible refine Kept.put _ _ ?_ (Foot.word_of_le hf (by first | decide +kernel))
    | with_reducible refine Kept.putB _ _ ?_ (Foot.word_of_le hf (by first | decide +kernel))
    | (intro y; refine (fun hy : Kept f s y => ?_) ?_ <;> [clear_value y; skip])
    | intro y
    | lift_lets
    | with_reducible exact Kept.set_hpt _ (by with_reducible assumption) (Foot.part_of_le hf (by decide +kernel : Foot.part _ .hpt = true))

theorem Kept.nvmeTimeout {f : Foot} {s x : State} (h : Kept f s x) (hf : Foot.le ⟨false, [0x00, 0x12, 0x13, 0x14, 0x15, 0x16, 0x1B], [], [.sram, .gddr, .freeCtr, .flt, .fft, .acq, .dma, .spt, .mem]⟩ f = true) (a0 : Nat) (a1 : Nat) (a2 : BitVec 16) :
    Kept f s (State.nvmeTimeout x a0 a1 a2) := by
  unfold Sys2Proof.Machine.State.nvmeTimeout
  repeat' first
    | with_reducible assumption
    | with_reducible refine Kept.storePumpAll ?_ (Foot.le_trans (by decide +kernel) hf)
    | with_reducible refine Kept.put _ _ ?_ (Foot.word_of_le hf (by first | decide +kernel | (simp only [SPT_DRV_ERR.CID, SPT_DRV_ERR.addr_win, SPT_DRV_ERR.SCT, SPT_DRV_ERR.SC, SPT_DRV_CNT.TIMEOUTS, SPT_DRV_CNT.addr_win]; first | decide +kernel | (split <;> decide +kernel))))
    | with_reducible refine Kept.drawFree ?_ (Foot.le_trans (by decide +kernel) hf)
    | with_reducible refine Kept.dropCmd ?_ (Foot.le_trans (by decide +kernel) hf) _
    | with_reducible refine Kept.raiseIrq ?_ (Foot.le_trans (by decide +kernel) hf) _
    | with_reducible refine Kept.bump _ ?_ (Foot.word_of_le hf (by first | decide +kernel | (simp only [SPT_DRV_ERR.CID, SPT_DRV_ERR.addr_win, SPT_DRV_ERR.SCT, SPT_DRV_ERR.SC, SPT_DRV_CNT.TIMEOUTS, SPT_DRV_CNT.addr_win]; first | decide +kernel | (split <;> decide +kernel))))
    | with_reducible refine Kept.driveFailed ?_ (Foot.le_trans (by decide +kernel) hf) _
    | with_reducible refine Kept.storeRefuse ?_ (Foot.le_trans (by decide +kernel) hf) _ _
    | (intro y; refine (fun hy : Kept f s y => ?_) ?_ <;> [clear_value y; skip])
    | split
    | lift_lets

theorem Kept.rejectBar {f : Foot} {s x : State} (h : Kept f s x) (hf : Foot.le ⟨false, [0x00, 0x15], [], [.resp, .sys]⟩ f = true) (a0 : Space) (a1 : Bool) (a2 : Nat) (a3 : Nat) (a4 : Err) :
    Kept f s (State.rejectBar x a0 a1 a2 a3 a4) := by
  unfold Sys2Proof.Machine.State.rejectBar
  repeat' first
    | with_reducible assumption
    | with_reducible refine Kept.logErr ?_ (Foot.le_trans (by decide +kernel) hf) _ _
    | with_reducible refine Kept.blockErr ?_ _ _ _ _ (Foot.word_of_le hf (by decide +kernel))
    | (intro y; refine (fun hy : Kept f s y => ?_) ?_ <;> [clear_value y; skip])
    | split
    | lift_lets
    | with_reducible exact Kept.set_resp _ (by with_reducible assumption) (Foot.part_of_le hf (by decide +kernel : Foot.part _ .resp = true))

theorem Kept.execBar2Access {f : Foot} {s x : State} (h : Kept f s x) (hf : Foot.le ⟨false, [0x00, 0x15, 0x1B], [], [.sram, .resp, .sys, .flt, .dma]⟩ f = true) (a0 : Nat) (a1 : Bool) (a2 : List (Option Byte)) (a3 : List (Fin 64 × Nat)) :
    ∃ t, execBar2Access a0 a1 a2 a3 x = .next t ∧ Kept f s t := by
  unfold Sys2Proof.Machine.execBar2Access
  refine ⟨_, rfl, ?_⟩
  repeat' first
    | with_reducible assumption
    | with_reducible refine Kept.ite ?_ ?_
    | with_reducible refine Kept.rejectBar ?_ (Foot.le_trans (by decide +kernel) hf) _ _ _ _ _
    | with_reducible refine Kept.arbServe ?_ (Foot.le_trans (by decide +kernel) hf) _ _ _
    | with_reducible refine Kept.setSramByte _ _ ?_ (Foot.part_of_le hf (by decide +kernel : Foot.part _ .sram = true))
    | with_reducible refine Kept.unpoison ?_ (Foot.le_trans (by decide +kernel) hf) _ _
    | with_reducible refine Kept.foldl _ (fun y b hy => ?_) ?_
    | (intro y; refine (fun hy : Kept f s y => ?_) ?_ <;> [clear_value y; skip])
    | intro y
    | split
    | lift_lets
    | with_reducible exact Kept.set_resp _ (by with_reducible assumption) (Foot.part_of_le hf (by decide +kernel : Foot.part _ .resp = true))

theorem Kept.execBar4Access {f : Foot} {s x : State} (h : Kept f s x) (hf : Foot.le ⟨false, [0x00, 0x14, 0x15, 0x1B], [], [.gddr, .resp, .sys, .flt, .dma, .mem]⟩ f = true) (a0 : Nat) (a1 : Bool) (a2 : List (Option Byte)) (a3 : List (Fin 64 × Nat)) :
    ∃ t, execBar4Access a0 a1 a2 a3 x = .next t ∧ Kept f s t := by
  unfold Sys2Proof.Machine.execBar4Access
  refine ⟨_, rfl, ?_⟩
  repeat' first
    | with_reducible assumption
    | with_reducible refine Kept.ite ?_ ?_
    | with_reducible refine Kept.rejectBar ?_ (Foot.le_trans (by decide +kernel) hf) _ _ _ _ _
    | with_reducible refine Kept.arbServe ?_ (Foot.le_trans (by decide +kernel) hf) _ _ _
    | with_reducible refine Kept.writeGddr ?_ (Foot.le_trans (by decide +kernel) hf) _ _
    | with_reducible refine Kept.setGddrByte _ _ ?_ (Foot.part_of_le hf (by decide +kernel : Foot.part _ .gddr = true))
    | with_reducible refine Kept.memUe ?_ (Foot.le_trans (by decide +kernel) hf) _
    | with_reducible refine Kept.foldl _ (fun y b hy => ?_) ?_
    | (intro y; refine (fun hy : Kept f s y => ?_) ?_ <;> [clear_value y; skip])
    | intro y
    | split
    | lift_lets
    | with_reducible exact Kept.set_resp _ (by with_reducible assumption) (Foot.part_of_le hf (by decide +kernel : Foot.part _ .resp = true))

theorem Kept.execDriveLinkUp {f : Foot} {s x : State} (h : Kept f s x) (hf : Foot.le ⟨false, [0x15, 0x16], [], [.pins]⟩ f = true) (a0 : Fin 4) (a1 : BitVec 6) (a2 : BitVec 3) :
    ∃ t, execDriveLinkUp a0 a1 a2 x = .next t ∧ Kept f s t := by
  unfold Sys2Proof.Machine.execDriveLinkUp
  refine ⟨_, rfl, ?_⟩
  repeat' first
    | with_reducible assumption
    | with_reducible refine Kept.ite ?_ ?_
    | with_reducible refine Kept.put _ _ ?_ (Foot.word_of_le hf (by first | decide +kernel | (simp only [SPT_DRV_STAT.WIDTH, SPT_DRV_STAT.addr_win, SPT_DRV_STAT.SPEED, SPT_DRV_CTRL.EN, SPT_DRV_CTRL.addr_win]; first | decide +kernel | (split <;> decide +kernel))))
    | with_reducible refine Kept.setDrive ?_ (Foot.le_trans (by decide +kernel) hf) _ _
    | intro y
    | lift_lets
    | fail_if_no_progress (with_reducible refine Kept.set_pins _ ?_ (Foot.part_of_le hf (by decide +kernel : Foot.part _ .pins = true)))

theorem Kept.execFlushComplete {f : Foot} {s x : State} (h : Kept f s x) (hf : Foot.le ⟨false, [0x15, 0x16], [], []⟩ f = true) (a0 : Bool) :
    ∃ t, execFlushComplete a0 x = .next t ∧ Kept f s t := by
  unfold Sys2Proof.Machine.execFlushComplete
  refine ⟨_, rfl, ?_⟩
  repeat' first
    | with_reducible assumption
    | with_reducible refine Kept.ite ?_ ?_
    | with_reducible refine Kept.put _ _ ?_ (Foot.word_of_le hf (by first | decide +kernel))
    | with_reducible refine Kept.raiseIrq ?_ (Foot.le_trans (by decide +kernel) hf) _

theorem Kept.execFunctionLevelReset {f : Foot} {s x : State} (h : Kept f s x) (hf : Foot.le ⟨false, [0x00, 0x12, 0x13, 0x14, 0x15, 0x1B], [0x15], [.latch, .sram, .gddr, .freeCtr, .flt, .fft, .acq, .dma, .hpt, .spt, .mem]⟩ f = true) (a0 : List (Fin 32 × Nat × List Byte)) :
    ∃ t, execFunctionLevelReset a0 x = .next t ∧ Kept f s t := by
  unfold Sys2Proof.Machine.execFunctionLevelReset
  refine ⟨_, rfl, ?_⟩
  repeat' first
    | with_reducible assumption
    | with_reducible refine Kept.ite ?_ ?_
    | with_reducible refine Kept.hostFail ?_ (Foot.le_trans (by decide +kernel) hf) _ _
    | with_reducible refine Kept.put _ _ ?_ (Foot.word_of_le hf (by first | decide +kernel))
    | with_reducible refine Kept.resetBlock ?_ _ _ (by first | exact fun a _ => ⟨Foot.word_of_le hf rfl, Foot.app_of_le hf rfl⟩ | exact fun a ha => ⟨Foot.word_of_le hf (by revert a; decide +kernel), Foot.app_of_le hf (by revert a; decide +kernel)⟩) (Foot.part_of_le hf (by decide +kernel : Foot.part _ .latch = true))
    | (intro y; refine (fun hy : Kept f s y => ?_) ?_ <;> [clear_value y; skip])
    | intro y
    | split
    | lift_lets
    | with_reducible exact Kept.set_hpt _ (by with_reducible assumption) (Foot.part_of_le hf (by decide +kernel : Foot.part _ .hpt = true))

theorem Kept.execHostCompletionTimeout {f : Foot} {s x : State} (h : Kept f s x) (hf : Foot.le ⟨false, [0x00, 0x12, 0x13, 0x14, 0x15, 0x1B], [], [.sram, .gddr, .freeCtr, .flt, .fft, .acq, .dma, .spt, .mem]⟩ f = true) (a0 : Fin 32) (a1 : Nat) (a2 : List Byte) :
    ∃ t, execHostCompletionTimeout a0 a1 a2 x = .next t ∧ Kept f s t := by
  unfold Sys2Proof.Machine.execHostCompletionTimeout
  refine ⟨_, rfl, ?_⟩
  repeat' first
    | with_reducible assumption
    | with_reducible refine Kept.ite ?_ ?_
    | with_reducible refine Kept.dmaBeats ?_ (Foot.le_trans (by decide +kernel) hf) _ _ _ _
    | with_reducible refine Kept.dmaEnd ?_ (Foot.le_trans (by decide +kernel) hf) _ _ _ _
    | (intro y; refine (fun hy : Kept f s y => ?_) ?_ <;> [clear_value y; skip])
    | split
    | lift_lets

theorem Kept.execMsixMessage {f : Foot} {s x : State} (h : Kept f s x) (hf : Foot.le ⟨false, [0x15], [], [.hpt]⟩ f = true) (a0 : Fin 32) :
    ∃ t, execMsixMessage a0 x = .next t ∧ Kept f s t := by
  unfold Sys2Proof.Machine.execMsixMessage
  refine ⟨_, rfl, ?_⟩
  repeat' first
    | with_reducible assumption
    | with_reducible refine Kept.ite ?_ ?_
    | with_reducible refine Kept.put _ _ ?_ (Foot.word_of_le hf (by first | decide +kernel | (simp only [HPT_VEC.HOLD, HPT_VEC.addr_win, HPT_VEC.PEND, HPT_MSIX_CTRL.MASK, HPT_MSIX_CTRL.addr_win]; first | decide +kernel | (split <;> decide +kernel))))
    | (intro y; refine (fun hy : Kept f s y => ?_) ?_ <;> [clear_value y; skip])
    | intro y
    | lift_lets
    | with_reducible exact Kept.set_hpt _ (by with_reducible assumption) (Foot.part_of_le hf (by decide +kernel : Foot.part _ .hpt = true))

theorem Kept.execSptFlush {f : Foot} {s x : State} (h : Kept f s x) (hf : Foot.le ⟨false, [0x00, 0x15, 0x16], [], [.resp, .sys]⟩ f = true) (a0 : Source) (a1 : Word) :
    ∃ t, execSptFlush a0 a1 x = .next t ∧ Kept f s t := by
  unfold Sys2Proof.Machine.execSptFlush
  refine ⟨_, rfl, ?_⟩
  repeat' first
    | with_reducible assumption
    | with_reducible refine Kept.writeReg ?_ (fun y b0 b1 b2 => Kept.sptRules (Kept.refl _ y) (Foot.le_trans (by decide +kernel) hf) b0 b1 b2) (Foot.word_of_le hf (by first | decide +kernel)) (Foot.word_of_le hf (by first | decide +kernel)) (Foot.word_of_le hf (by decide +kernel)) (Foot.part_of_le hf (by decide +kernel : Foot.part _ .resp = true)) (Foot.part_of_le hf (by decide +kernel : Foot.part _ .sys = true))

theorem Kept.execSptReinit {f : Foot} {s x : State} (h : Kept f s x) (hf : Foot.le ⟨false, [0x00, 0x15, 0x16], [], [.resp, .sys]⟩ f = true) (a0 : BitVec 4) (a1 : Source) (a2 : Word) :
    ∃ t, execSptReinit a0 a1 a2 x = .next t ∧ Kept f s t := by
  unfold Sys2Proof.Machine.execSptReinit
  refine ⟨_, rfl, ?_⟩
  repeat' first
    | with_reducible assumption
    | with_reducible refine Kept.writeReg ?_ (fun y b0 b1 b2 => Kept.sptRules (Kept.refl _ y) (Foot.le_trans (by decide +kernel) hf) b0 b1 b2) (Foot.word_of_le hf (by first | decide +kernel)) (Foot.word_of_le hf (by first | decide +kernel)) (Foot.word_of_le hf (by decide +kernel)) (Foot.part_of_le hf (by decide +kernel : Foot.part _ .resp = true)) (Foot.part_of_le hf (by decide +kernel : Foot.part _ .sys = true))

theorem Kept.execWriteComplete {f : Foot} {s x : State} (h : Kept f s x) (hf : Foot.le ⟨false, [0x00, 0x12, 0x13, 0x14, 0x15, 0x16, 0x1B], [], [.sram, .gddr, .freeCtr, .flt, .fft, .acq, .dma, .spt, .mem]⟩ f = true) (a0 : Fin 4) (a1 : Nat) (a2 : BitVec 3) (a3 : BitVec 8) (a4 : BitVec 16) :
    ∃ t, execWriteComplete a0 a1 a2 a3 a4 x = .next t ∧ Kept f s t := by
  unfold Sys2Proof.Machine.execWriteComplete
  refine ⟨_, rfl, ?_⟩
  repeat' first
    | with_reducible assumption
    | with_reducible refine Kept.ite ?_ ?_
    | with_reducible refine Kept.storePumpAll ?_ (Foot.le_trans (by decide +kernel) hf)
    | with_reducible refine Kept.dropCmd ?_ (Foot.le_trans (by decide +kernel) hf) _
    | with_reducible refine Kept.putPair _ _ ?_ (Foot.word_of_le hf (by first | decide +kernel | (simp only [SPT_DRV_BYTES_LO.addr_win, SPT_DRV_BYTES_LO.addr_win4, SPT_DRV_BYTES_LO.addr_win8, SPT_DRV_ERR.CID, SPT_DRV_ERR.addr_win, SPT_DRV_ERR.SCT, SPT_DRV_ERR.SC, SPT_DRV_CNT.ERRORS, SPT_DRV_CNT.addr_win]; first | decide +kernel | (split <;> decide +kernel)))) (Foot.word_of_le hf (by first | decide +kernel | (simp only [SPT_DRV_BYTES_LO.addr_win, SPT_DRV_BYTES_LO.addr_win4, SPT_DRV_BYTES_LO.addr_win8, SPT_DRV_ERR.CID, SPT_DRV_ERR.addr_win, SPT_DRV_ERR.SCT, SPT_DRV_ERR.SC, SPT_DRV_CNT.ERRORS, SPT_DRV_CNT.addr_win]; first | decide +kernel | (split <;> decide +kernel))))
    | with_reducible refine Kept.setCur ?_ (Foot.le_trans (by decide +kernel) hf) _ _
    | with_reducible refine Kept.put _ _ ?_ (Foot.word_of_le hf (by first | decide +kernel | (simp only [SPT_DRV_BYTES_LO.addr_win, SPT_DRV_BYTES_LO.addr_win4, SPT_DRV_BYTES_LO.addr_win8, SPT_DRV_ERR.CID, SPT_DRV_ERR.addr_win, SPT_DRV_ERR.SCT, SPT_DRV_ERR.SC, SPT_DRV_CNT.ERRORS, SPT_DRV_CNT.addr_win]; first | decide +kernel | (split <;> decide +kernel))))
    | with_reducible refine Kept.storeRefuse ?_ (Foot.le_trans (by decide +kernel) hf) _ _
    | with_reducible refine Kept.raiseIrq ?_ (Foot.le_trans (by decide +kernel) hf) _
    | with_reducible refine Kept.bump _ ?_ (Foot.word_of_le hf (by first | decide +kernel | (simp only [SPT_DRV_BYTES_LO.addr_win, SPT_DRV_BYTES_LO.addr_win4, SPT_DRV_BYTES_LO.addr_win8, SPT_DRV_ERR.CID, SPT_DRV_ERR.addr_win, SPT_DRV_ERR.SCT, SPT_DRV_ERR.SC, SPT_DRV_CNT.ERRORS, SPT_DRV_CNT.addr_win]; first | decide +kernel | (split <;> decide +kernel))))
    | with_reducible refine Kept.storeSettle ?_ (Foot.le_trans (by decide +kernel) hf) _
    | (intro y; refine (fun hy : Kept f s y => ?_) ?_ <;> [clear_value y; skip])
    | split
    | lift_lets

end Sys2Proof.Machine
end

