-- ==== Sys2Proof/Laws/KeptMonitor.lean ====
section
/-! SUPPORT. What the operations of Sys2Proof/Machine/Monitor.lean change. -/

set_option Elab.async false

set_option linter.all false

namespace Sys2Proof.Machine

theorem Kept.adcAfter {f : Foot} {s x : State} (h : Kept f s x) (hf : Foot.le ⟨false, [0x17], [], [.aux]⟩ f = true) (a0 : Fin 2) (a1 : Bool) :
    Kept f s (State.adcAfter x a0 a1) := by
  unfold Sys2Proof.Machine.State.adcAfter
  repeat' first
    | with_reducible refine Kept.ite ?_ ?_
    | with_reducible refine Kept.put _ _ ?_ (Foot.word_of_le hf (by first | decide +kernel))
    | intro y
    | split
    | lift_lets
    | with_reducible exact Kept.set_aux _ (by with_reducible assumption) (Foot.part_of_le hf (by decide +kernel : Foot.part _ .aux = true))

theorem Kept.setCdac {f : Foot} {s x : State} (h : Kept f s x) (hf : Foot.le ⟨false, [], [], [.pins]⟩ f = true) (a0 : Nat) (a1 : Nat) :
    Kept f s (State.setCdac x a0 a1) := by
  unfold Sys2Proof.Machine.State.setCdac
  repeat' first
    | intro y
    | lift_lets
    | with_reducible exact Kept.set_pins _ (by with_reducible assumption) (Foot.part_of_le hf (by decide +kernel : Foot.part _ .pins = true))

theorem Kept.setDuty {f : Foot} {s x : State} (h : Kept f s x) (hf : Foot.le ⟨false, [], [], [.aux]⟩ f = true) (a0 : Nat) (a1 : Nat) :
    Kept f s (State.setDuty x a0 a1) := by
  unfold Sys2Proof.Machine.State.setDuty
  repeat' first
    | intro y
    | lift_lets
    | with_reducible exact Kept.set_aux _ (by with_reducible assumption) (Foot.part_of_le hf (by decide +kernel : Foot.part _ .aux = true))

theorem Kept.setOutput {f : Foot} {s x : State} (h : Kept f s x) (hf : Foot.le ⟨false, [], [], [.pins, .aux]⟩ f = true) (a0 : Nat) (a1 : Nat) :
    Kept f s (State.setOutput x a0 a1) := by
  unfold Sys2Proof.Machine.State.setOutput
  repeat' first
    | with_reducible assumption
    | with_reducible refine Kept.ite ?_ ?_
    | with_reducible refine Kept.setCdac ?_ (Foot.le_trans (by decide +kernel) hf) _ _
    | with_reducible refine Kept.setDuty ?_ (Foot.le_trans (by decide +kernel) hf) _ _

theorem Kept.setTdac {f : Foot} {s x : State} (h : Kept f s x) (hf : Foot.le ⟨false, [], [], [.pins]⟩ f = true) (a0 : Nat) :
    Kept f s (State.setTdac x a0) := by
  unfold Sys2Proof.Machine.State.setTdac
  repeat' first
    | intro y
    | split
    | lift_lets
    | with_reducible exact Kept.set_pins _ (by with_reducible assumption) (Foot.part_of_le hf (by decide +kernel : Foot.part _ .pins = true))

theorem Kept.auxApply {f : Foot} {s x : State} (h : Kept f s x) (hf : Foot.le ⟨false, [], [], [.pins, .aux]⟩ f = true) (a0 : State) :
    Kept f s (State.auxApply x a0) := by
  unfold Sys2Proof.Machine.State.auxApply
  repeat' first
    | with_reducible assumption
    | with_reducible refine Kept.ite ?_ ?_
    | with_reducible refine Kept.setTdac ?_ (Foot.le_trans (by decide +kernel) hf) _
    | with_reducible refine Kept.setCdac ?_ (Foot.le_trans (by decide +kernel) hf) _ _
    | with_reducible refine Kept.setDuty ?_ (Foot.le_trans (by decide +kernel) hf) _ _
    | with_reducible refine Kept.foldl _ (fun y b hy => ?_) ?_
    | intro y
    | lift_lets
    | with_reducible exact Kept.set_aux _ (by with_reducible assumption) (Foot.part_of_le hf (by decide +kernel : Foot.part _ .aux = true))

theorem Kept.calGo {f : Foot} {s x : State} (h : Kept f s x) (hf : Foot.le ⟨false, [0x17], [], [.aux]⟩ f = true) (a0 : Source) :
    Kept.res f s (State.calGo x a0) := by
  unfold Sys2Proof.Machine.State.calGo
  repeat' first
    | with_reducible assumption
    | with_reducible refine Kept.res_ite ?_ ?_
    | with_reducible refine Kept.res_ok ?_
    | with_reducible exact Kept.res_error _ _ _
    | with_reducible refine Kept.put _ _ ?_ (Foot.word_of_le hf (by first | decide +kernel))
    | intro y
    | split
    | lift_lets
    | fail_if_no_progress (with_reducible refine Kept.set_aux _ ?_ (Foot.part_of_le hf (by decide +kernel : Foot.part _ .aux = true)))

theorem Kept.calApply {f : Foot} {s x : State} (h : Kept f s x) (hf : Foot.le ⟨false, [0x17], [], []⟩ f = true) :
    Kept.res f s (State.calApply x) := by
  unfold Sys2Proof.Machine.State.calApply
  repeat' first
    | with_reducible assumption
    | with_reducible refine Kept.res_ite ?_ ?_
    | with_reducible refine Kept.res_ok ?_
    | with_reducible exact Kept.res_error _ _ _
    | with_reducible refine Kept.put _ _ ?_ (Foot.word_of_le hf (by first | decide +kernel | (simp only [AUX_CAL_GAIN.GAIN, AUX_CAL_GAIN.addr_win, AUX_CAL_OFS.OFS, AUX_CAL_OFS.addr_win]; first | decide +kernel | (split <;> decide +kernel))))
    | with_reducible refine Kept.putPair _ _ ?_ (Foot.word_of_le hf (by first | decide +kernel | (simp only [AUX_CAL_GAIN.GAIN, AUX_CAL_GAIN.addr_win, AUX_CAL_OFS.OFS, AUX_CAL_OFS.addr_win]; first | decide +kernel | (split <;> decide +kernel)))) (Foot.word_of_le hf (by first | decide +kernel | (simp only [AUX_CAL_GAIN.GAIN, AUX_CAL_GAIN.addr_win, AUX_CAL_OFS.OFS, AUX_CAL_OFS.addr_win]; first | decide +kernel | (split <;> decide +kernel))))
    | with_reducible refine Kept.bump _ ?_ (Foot.word_of_le hf (by first | decide +kernel | (simp only [AUX_CAL_GAIN.GAIN, AUX_CAL_GAIN.addr_win, AUX_CAL_OFS.OFS, AUX_CAL_OFS.addr_win]; first | decide +kernel | (split <;> decide +kernel))))

theorem Kept.diagWrite {f : Foot} {s x : State} (h : Kept f s x) (hf : Foot.le ⟨false, [0x17], [], [.pins, .aux]⟩ f = true) (a0 : Word) :
    Kept.res f s (State.diagWrite x a0) := by
  unfold Sys2Proof.Machine.State.diagWrite
  repeat' first
    | with_reducible assumption
    | with_reducible refine Kept.res_ite ?_ ?_
    | with_reducible refine Kept.res_ok ?_
    | with_reducible exact Kept.res_error _ _ _
    | with_reducible refine Kept.setTdac ?_ (Foot.le_trans (by decide +kernel) hf) _
    | with_reducible refine Kept.put _ _ ?_ (Foot.word_of_le hf (by first | decide +kernel))
    | intro y
    | split
    | lift_lets
    | with_reducible exact Kept.set_aux _ (by with_reducible assumption) (Foot.part_of_le hf (by decide +kernel : Foot.part _ .aux = true))

theorem Kept.spiStart {f : Foot} {s x : State} (h : Kept f s x) (hf : Foot.le ⟨false, [0x17], [], [.pins, .aux]⟩ f = true) (a0 : Fin 8) (a1 : Bool) :
    Kept f s (State.spiStart x a0 a1) := by
  unfold State.spiStart
  exact Kept.set_pins_aux _ _ (Kept.put _ _ h (Foot.word_of_le hf (by first | decide +kernel | (simp only [AUX_SPI_STAT.BUSY, AUX_SPI_STAT.addr_win]; first | decide +kernel | (split <;> decide +kernel))))) (Foot.part_of_le hf (by decide +kernel : Foot.part _ .pins = true)) (Foot.part_of_le hf (by decide +kernel : Foot.part _ .aux = true))

theorem Kept.auxRules {f : Foot} {s x : State} (h : Kept f s x) (hf : Foot.le ⟨false, [0x17], [], [.pins, .aux]⟩ f = true) (b0 : Source) (b1 : Nat) (b2 : Word) :
    Kept.res f s (auxRules.act b0 b1 b2 x) := by
  unfold Sys2Proof.Machine.auxRules
  repeat' first
    | with_reducible assumption
    | with_reducible refine Kept.ite ?_ ?_
    | with_reducible refine Kept.res_ite ?_ ?_
    | with_reducible refine Kept.res_ok ?_
    | with_reducible exact Kept.res_error _ _ _
    | with_reducible refine Kept.calGo ?_ (Foot.le_trans (by decide +kernel) hf) _
    | with_reducible refine Kept.calApply ?_ (Foot.le_trans (by decide +kernel) hf)
    | with_reducible refine Kept.injRequest ?_ (Foot.le_trans (by decide +kernel) hf)
    | with_reducible refine Kept.diagWrite ?_ (Foot.le_trans (by decide +kernel) hf) _
    | with_reducible refine Kept.spiStart ?_ (Foot.le_trans (by decide +kernel) hf) _ _
    | with_reducible refine Kept.of_ok ?_ (by with_reducible assumption)
    | split

theorem Kept.calSlot {f : Foot} {s x : State} (h : Kept f s x) (hf : Foot.le ⟨false, [0x00, 0x17], [], [.sys, .aux]⟩ f = true) (a0 : CalRun) (a1 : Fin 2 → Nat) :
    Kept f s (State.calSlot x a0 a1) := by
  unfold Sys2Proof.Machine.State.calSlot
  repeat' first
    | with_reducible assumption
    | with_reducible refine Kept.ite ?_ ?_
    | with_reducible refine Kept.adcAfter ?_ (Foot.le_trans (by decide +kernel) hf) _ _
    | with_reducible refine Kept.refuseOp ?_ (Foot.le_trans (by decide +kernel) hf) _ _ _ _ (Foot.word_of_le hf (by first | decide +kernel))
    | with_reducible refine Kept.put _ _ ?_ (Foot.word_of_le hf (by first | decide +kernel))
    | intro y
    | lift_lets
    | fail_if_no_progress (with_reducible refine Kept.set_aux _ ?_ (Foot.part_of_le hf (by decide +kernel : Foot.part _ .aux = true)))

theorem Kept.crossCheck {f : Foot} {s x : State} (h : Kept f s x) (hf : Foot.le ⟨false, [0x17, 0x1B], [], [.flt, .aux]⟩ f = true) (a0 : Nat) :
    Kept f s (State.crossCheck x a0) := by
  unfold Sys2Proof.Machine.State.crossCheck
  repeat' first
    | with_reducible assumption
    | with_reducible refine Kept.ite ?_ ?_
    | with_reducible refine Kept.put _ _ ?_ (Foot.word_of_le hf (by first | decide +kernel | (simp only [AUX_MON_RES.CODE, AUX_MON_RES.addr_win, AUX_MON_RES.OVR, AUX_MON_RES.SUSPECT]; first | decide +kernel | (split <;> decide +kernel))))
    | with_reducible refine Kept.fltInfo ?_ (Foot.le_trans (by decide +kernel) hf) _ _ _ _ _
    | intro y
    | lift_lets
    | fail_if_no_progress (with_reducible refine Kept.set_aux _ ?_ (Foot.part_of_le hf (by decide +kernel : Foot.part _ .aux = true)))

theorem Kept.diagSlot {f : Foot} {s x : State} (h : Kept f s x) (hf : Foot.le ⟨false, [0x17], [], [.pins, .aux]⟩ f = true) (a0 : DiagRun) (a1 : Fin 2 → Nat) :
    Kept f s (State.diagSlot x a0 a1) := by
  unfold Sys2Proof.Machine.State.diagSlot
  repeat' first
    | with_reducible assumption
    | with_reducible refine Kept.ite ?_ ?_
    | with_reducible refine Kept.adcAfter ?_ (Foot.le_trans (by decide +kernel) hf) _ _
    | with_reducible refine Kept.setTdac ?_ (Foot.le_trans (by decide +kernel) hf) _
    | with_reducible refine Kept.foldl_fst _ (fun y b hy => ?_) ?_
    | intro y
    | split
    | lift_lets
    | dsimp only
    | fail_if_no_progress (with_reducible refine Kept.set_aux _ ?_ (Foot.part_of_le hf (by decide +kernel : Foot.part _ .aux = true)))

theorem Kept.injSlot {f : Foot} {s x : State} (h : Kept f s x) (hf : Foot.le ⟨false, [0x17], [], [.aux]⟩ f = true) (a0 : Fin 2 → Nat) :
    Kept f s (State.injSlot x a0) := by
  unfold Sys2Proof.Machine.State.injSlot
  repeat' first
    | with_reducible assumption
    | with_reducible refine Kept.ite ?_ ?_
    | with_reducible refine Kept.putB _ _ ?_ (Foot.word_of_le hf (by first | decide +kernel | (simp only [AUX_INJ_RES.CODE, AUX_INJ_RES.addr_win, AUX_INJ_RES.SUSPECT, AUX_INJ_RES.OVR]; first | decide +kernel | (split <;> decide +kernel))))
    | with_reducible refine Kept.put _ _ ?_ (Foot.word_of_le hf (by first | decide +kernel | (simp only [AUX_INJ_RES.CODE, AUX_INJ_RES.addr_win, AUX_INJ_RES.SUSPECT, AUX_INJ_RES.OVR]; first | decide +kernel | (split <;> decide +kernel))))
    | with_reducible refine Kept.adcAfter ?_ (Foot.le_trans (by decide +kernel) hf) _ _
    | with_reducible refine Kept.putStamp _ _ ?_ (Foot.word_of_le hf (by first | decide +kernel | (simp only [AUX_INJ_RES.CODE, AUX_INJ_RES.addr_win, AUX_INJ_RES.SUSPECT, AUX_INJ_RES.OVR]; first | decide +kernel | (split <;> decide +kernel)))) (Foot.word_of_le hf (by first | decide +kernel | (simp only [AUX_INJ_RES.CODE, AUX_INJ_RES.addr_win, AUX_INJ_RES.SUSPECT, AUX_INJ_RES.OVR]; first | decide +kernel | (split <;> decide +kernel)))) (Foot.word_of_le hf (by first | decide +kernel | (simp only [AUX_INJ_RES.CODE, AUX_INJ_RES.addr_win, AUX_INJ_RES.SUSPECT, AUX_INJ_RES.OVR]; first | decide +kernel | (split <;> decide +kernel))))
    | with_reducible refine Kept.foldl _ (fun y b hy => ?_) ?_
    | intro y
    | split
    | lift_lets
    | dsimp only
    | fail_if_no_progress (with_reducible refine Kept.set_aux _ ?_ (Foot.part_of_le hf (by decide +kernel : Foot.part _ .aux = true)))

theorem Kept.loopCollect {f : Foot} {s x : State} (h : Kept f s x) (hf : Foot.le ⟨false, [], [], [.srv]⟩ f = true) (a0 : Nat) (a1 : Nat) (a2 : Nat) (a3 : Bool) :
    Kept f s (State.loopCollect x a0 a1 a2 a3) := by
  unfold Sys2Proof.Machine.State.loopCollect
  repeat' first
    | with_reducible assumption
    | with_reducible refine Kept.ite ?_ ?_
    | with_reducible refine Kept.foldl _ (fun y b hy => ?_) ?_
    | intro y
    | split
    | lift_lets
    | with_reducible exact Kept.set_srv _ (by with_reducible assumption) (Foot.part_of_le hf (by decide +kernel : Foot.part _ .srv = true))

theorem Kept.pwmLevel {f : Foot} {s x : State} (h : Kept f s x) (hf : Foot.le ⟨false, [], [], [.pins]⟩ f = true) (a0 : Fin 4) (a1 : Bool) :
    Kept f s (State.pwmLevel x a0 a1) := by
  unfold Sys2Proof.Machine.State.pwmLevel
  repeat' first
    | intro y
    | lift_lets
    | with_reducible exact Kept.set_pins _ (by with_reducible assumption) (Foot.part_of_le hf (by decide +kernel : Foot.part _ .pins = true))

theorem Kept.seqSlot {f : Foot} {s x : State} (h : Kept f s x) (hf : Foot.le ⟨false, [0x17], [], [.aux, .srv]⟩ f = true) (a0 : Fin 2) (a1 : Nat) :
    Kept f s (State.seqSlot x a0 a1) := by
  unfold Sys2Proof.Machine.State.seqSlot
  repeat' first
    | with_reducible assumption
    | with_reducible refine Kept.ite ?_ ?_
    | with_reducible refine Kept.adcAfter ?_ (Foot.le_trans (by decide +kernel) hf) _ _
    | with_reducible refine Kept.put _ _ ?_ (Foot.word_of_le hf (by first | decide +kernel | (simp only [AUX_SLOT.INPUT, AUX_SLOT.addr_win, AUX_MON_RES.COUNT, AUX_MON_RES.addr_win, AUX_MON_RES.NEW, AUX_MON_RES.CODE, AUX_MON_RES.SUSPECT, AUX_MON_RES.OVR, AUX_SEQ.LEN_M1, AUX_SEQ.addr_win]; first | decide +kernel | (split <;> decide +kernel))))
    | with_reducible refine Kept.bumpWrap _ ?_ (Foot.word_of_le hf (by first | decide +kernel | (simp only [AUX_SLOT.INPUT, AUX_SLOT.addr_win, AUX_MON_RES.COUNT, AUX_MON_RES.addr_win, AUX_MON_RES.NEW, AUX_MON_RES.CODE, AUX_MON_RES.SUSPECT, AUX_MON_RES.OVR, AUX_SEQ.LEN_M1, AUX_SEQ.addr_win]; first | decide +kernel | (split <;> decide +kernel))))
    | with_reducible refine Kept.putB _ _ ?_ (Foot.word_of_le hf (by first | decide +kernel | (simp only [AUX_SLOT.INPUT, AUX_SLOT.addr_win, AUX_MON_RES.COUNT, AUX_MON_RES.addr_win, AUX_MON_RES.NEW, AUX_MON_RES.CODE, AUX_MON_RES.SUSPECT, AUX_MON_RES.OVR, AUX_SEQ.LEN_M1, AUX_SEQ.addr_win]; first | decide +kernel | (split <;> decide +kernel))))
    | with_reducible refine Kept.loopCollect ?_ (Foot.le_trans (by decide +kernel) hf) _ _ _ _
    | intro y
    | lift_lets
    | dsimp only
    | fail_if_no_progress (with_reducible refine Kept.set_aux _ ?_ (Foot.part_of_le hf (by decide +kernel : Foot.part _ .aux = true)))

theorem Kept.execAdcSlot {f : Foot} {s x : State} (h : Kept f s x) (hf : Foot.le ⟨false, [0x00, 0x17, 0x1B], [], [.pins, .sys, .flt, .aux, .srv]⟩ f = true) (a0 : Bool) (a1 : BitVec 16) (a2 : BitVec 16) :
    ∃ t, execAdcSlot a0 a1 a2 x = .next t ∧ Kept f s t := by
  unfold Sys2Proof.Machine.execAdcSlot
  refine ⟨_, rfl, ?_⟩
  repeat' first
    | with_reducible assumption
    | with_reducible refine Kept.ite ?_ ?_
    | with_reducible refine Kept.injSlot ?_ (Foot.le_trans (by decide +kernel) hf) _
    | with_reducible refine Kept.calSlot ?_ (Foot.le_trans (by decide +kernel) hf) _ _
    | with_reducible refine Kept.diagSlot ?_ (Foot.le_trans (by decide +kernel) hf) _ _
    | with_reducible refine Kept.seqSlot ?_ (Foot.le_trans (by decide +kernel) hf) _ _
    | with_reducible refine Kept.crossCheck ?_ (Foot.le_trans (by decide +kernel) hf) _
    | split

theorem Kept.execCalApply {f : Foot} {s x : State} (h : Kept f s x) (hf : Foot.le ⟨false, [0x00, 0x17], [], [.resp, .pins, .sys, .aux]⟩ f = true) (a0 : Source) (a1 : Word) :
    ∃ t, execCalApply a0 a1 x = .next t ∧ Kept f s t := by
  unfold Sys2Proof.Machine.execCalApply
  refine ⟨_, rfl, ?_⟩
  repeat' first
    | with_reducible assumption
    | with_reducible refine Kept.writeReg ?_ (fun y b0 b1 b2 => Kept.auxRules (Kept.refl _ y) (Foot.le_trans (by decide +kernel) hf) b0 b1 b2) (Foot.word_of_le hf (by first | decide +kernel)) (Foot.word_of_le hf (by first | decide +kernel)) (Foot.word_of_le hf (by decide +kernel)) (Foot.part_of_le hf (by decide +kernel : Foot.part _ .resp = true)) (Foot.part_of_le hf (by decide +kernel : Foot.part _ .sys = true))

theorem Kept.execCalGo {f : Foot} {s x : State} (h : Kept f s x) (hf : Foot.le ⟨false, [0x00, 0x17], [], [.resp, .pins, .sys, .aux]⟩ f = true) (a0 : Source) (a1 : Word) :
    ∃ t, execCalGo a0 a1 x = .next t ∧ Kept f s t := by
  unfold Sys2Proof.Machine.execCalGo
  refine ⟨_, rfl, ?_⟩
  repeat' first
    | with_reducible assumption
    | with_reducible refine Kept.writeReg ?_ (fun y b0 b1 b2 => Kept.auxRules (Kept.refl _ y) (Foot.le_trans (by decide +kernel) hf) b0 b1 b2) (Foot.word_of_le hf (by first | decide +kernel)) (Foot.word_of_le hf (by first | decide +kernel)) (Foot.word_of_le hf (by decide +kernel)) (Foot.part_of_le hf (by decide +kernel : Foot.part _ .resp = true)) (Foot.part_of_le hf (by decide +kernel : Foot.part _ .sys = true))

theorem Kept.execCalPointDone {f : Foot} {s x : State} (h : Kept f s x) (hf : Foot.le ⟨false, [0x17], [], [.aux]⟩ f = true) :
    ∃ t, execCalPointDone x = .next t ∧ Kept f s t := by
  unfold Sys2Proof.Machine.execCalPointDone
  refine ⟨_, rfl, ?_⟩
  repeat' first
    | with_reducible assumption
    | with_reducible refine Kept.ite ?_ ?_
    | with_reducible refine Kept.put _ _ ?_ (Foot.word_of_le hf (by first | decide +kernel))
    | (intro y; refine (fun hy : Kept f s y => ?_) ?_ <;> [clear_value y; skip])
    | intro y
    | split
    | lift_lets
    | with_reducible exact Kept.set_aux _ (by with_reducible assumption) (Foot.part_of_le hf (by decide +kernel : Foot.part _ .aux = true))

theorem Kept.execDiagAbort {f : Foot} {s x : State} (h : Kept f s x) (hf : Foot.le ⟨false, [0x00, 0x17], [], [.resp, .pins, .sys, .aux]⟩ f = true) (a0 : Source) (a1 : Word) :
    ∃ t, execDiagAbort a0 a1 x = .next t ∧ Kept f s t := by
  unfold Sys2Proof.Machine.execDiagAbort
  refine ⟨_, rfl, ?_⟩
  repeat' first
    | with_reducible assumption
    | with_reducible refine Kept.writeReg ?_ (fun y b0 b1 b2 => Kept.auxRules (Kept.refl _ y) (Foot.le_trans (by decide +kernel) hf) b0 b1 b2) (Foot.word_of_le hf (by first | decide +kernel)) (Foot.word_of_le hf (by first | decide +kernel)) (Foot.word_of_le hf (by decide +kernel)) (Foot.part_of_le hf (by decide +kernel : Foot.part _ .resp = true)) (Foot.part_of_le hf (by decide +kernel : Foot.part _ .sys = true))

theorem Kept.execDiagDone {f : Foot} {s x : State} (h : Kept f s x) (hf : Foot.le ⟨false, [0x17], [], [.pins, .aux]⟩ f = true) :
    ∃ t, execDiagDone x = .next t ∧ Kept f s t := by
  unfold Sys2Proof.Machine.execDiagDone
  refine ⟨_, rfl, ?_⟩
  repeat' first
    | with_reducible assumption
    | with_reducible refine Kept.ite ?_ ?_
    | with_reducible refine Kept.put _ _ ?_ (Foot.word_of_le hf (by first | decide +kernel | (simp only [AUX_DIAG_RES.MAXDEV, AUX_DIAG_RES.addr_win, AUX_DIAG_RES.PASS, AUX_DIAG_RES.DONE]; first | decide +kernel | (split <;> decide +kernel))))
    | with_reducible refine Kept.putB _ _ ?_ (Foot.word_of_le hf (by first | decide +kernel | (simp only [AUX_DIAG_RES.MAXDEV, AUX_DIAG_RES.addr_win, AUX_DIAG_RES.PASS, AUX_DIAG_RES.DONE]; first | decide +kernel | (split <;> decide +kernel))))
    | with_reducible refine Kept.setTdac ?_ (Foot.le_trans (by decide +kernel) hf) _
    | with_reducible refine Kept.foldl _ (fun y b hy => ?_) ?_
    | intro y
    | split
    | lift_lets
    | dsimp only
    | fail_if_no_progress (with_reducible refine Kept.set_aux _ ?_ (Foot.part_of_le hf (by decide +kernel : Foot.part _ .aux = true)))

theorem Kept.execDiagGo {f : Foot} {s x : State} (h : Kept f s x) (hf : Foot.le ⟨false, [0x00, 0x17], [], [.resp, .pins, .sys, .aux]⟩ f = true) (a0 : Source) (a1 : Word) :
    ∃ t, execDiagGo a0 a1 x = .next t ∧ Kept f s t := by
  unfold Sys2Proof.Machine.execDiagGo
  refine ⟨_, rfl, ?_⟩
  repeat' first
    | with_reducible assumption
    | with_reducible refine Kept.writeReg ?_ (fun y b0 b1 b2 => Kept.auxRules (Kept.refl _ y) (Foot.le_trans (by decide +kernel) hf) b0 b1 b2) (Foot.word_of_le hf (by first | decide +kernel)) (Foot.word_of_le hf (by first | decide +kernel)) (Foot.word_of_le hf (by decide +kernel)) (Foot.part_of_le hf (by decide +kernel : Foot.part _ .resp = true)) (Foot.part_of_le hf (by decide +kernel : Foot.part _ .sys = true))

theorem Kept.execInj {f : Foot} {s x : State} (h : Kept f s x) (hf : Foot.le ⟨false, [0x00, 0x17], [], [.resp, .pins, .sys, .aux]⟩ f = true) (a0 : Source) (a1 : Word) :
    ∃ t, execInj a0 a1 x = .next t ∧ Kept f s t := by
  unfold Sys2Proof.Machine.execInj
  refine ⟨_, rfl, ?_⟩
  repeat' first
    | with_reducible assumption
    | with_reducible refine Kept.writeReg ?_ (fun y b0 b1 b2 => Kept.auxRules (Kept.refl _ y) (Foot.le_trans (by decide +kernel) hf) b0 b1 b2) (Foot.word_of_le hf (by first | decide +kernel)) (Foot.word_of_le hf (by first | decide +kernel)) (Foot.word_of_le hf (by decide +kernel)) (Foot.part_of_le hf (by decide +kernel : Foot.part _ .resp = true)) (Foot.part_of_le hf (by decide +kernel : Foot.part _ .sys = true))

theorem Kept.execPwmActiveEnd {f : Foot} {s x : State} (h : Kept f s x) (hf : Foot.le ⟨false, [], [], [.pins]⟩ f = true) (a0 : Fin 4) :
    ∃ t, execPwmActiveEnd a0 x = .next t ∧ Kept f s t := by
  unfold Sys2Proof.Machine.execPwmActiveEnd
  refine ⟨_, rfl, ?_⟩
  repeat' first
    | with_reducible assumption
    | with_reducible refine Kept.ite ?_ ?_
    | with_reducible refine Kept.pwmLevel ?_ (Foot.le_trans (by decide +kernel) hf) _ _

theorem Kept.execPwmPeriod {f : Foot} {s x : State} (h : Kept f s x) (hf : Foot.le ⟨false, [], [], [.pins, .aux]⟩ f = true) (a0 : Fin 4) :
    ∃ t, execPwmPeriod a0 x = .next t ∧ Kept f s t := by
  unfold Sys2Proof.Machine.execPwmPeriod
  refine ⟨_, rfl, ?_⟩
  repeat' first
    | with_reducible assumption
    | with_reducible refine Kept.ite ?_ ?_
    | with_reducible refine Kept.pwmLevel ?_ (Foot.le_trans (by decide +kernel) hf) _ _
    | intro y
    | lift_lets
    | with_reducible exact Kept.set_aux _ (by with_reducible assumption) (Foot.part_of_le hf (by decide +kernel : Foot.part _ .aux = true))

theorem Kept.execSpiDone {f : Foot} {s x : State} (h : Kept f s x) (hf : Foot.le ⟨false, [0x17], [], [.pins, .aux, .srv]⟩ f = true) (a0 : Fin 8) (a1 : Word) :
    ∃ t, execSpiDone a0 a1 x = .next t ∧ Kept f s t := by
  unfold Sys2Proof.Machine.execSpiDone
  refine ⟨_, rfl, ?_⟩
  refine Kept.ite ?_ h
  extract_lets a b c d e g
  have hd : Kept f s d := Kept.set_pins _ (Kept.put _ _ (Kept.put _ _ (Kept.setWord _ _ h (Foot.word_of_le hf (by first | decide +kernel | (simp only [AUX_SPI_STAT.BUSY, AUX_SPI_STAT.addr_win, AUX_SPI_RX.addr_win, AUX_SPI_RX.addr_win4, AUX_SPI_RX.addr_win8, AUX_SPI_CFG.LEN_M1, AUX_SPI_CFG.addr_win, AUX_SPI_STAT.DONE]; first | decide +kernel | (split <;> decide +kernel))))) (Foot.word_of_le hf (by first | decide +kernel | (simp only [AUX_SPI_STAT.BUSY, AUX_SPI_STAT.addr_win, AUX_SPI_RX.addr_win, AUX_SPI_RX.addr_win4, AUX_SPI_RX.addr_win8, AUX_SPI_CFG.LEN_M1, AUX_SPI_CFG.addr_win, AUX_SPI_STAT.DONE]; first | decide +kernel | (split <;> decide +kernel))))) (Foot.word_of_le hf (by first | decide +kernel | (simp only [AUX_SPI_STAT.BUSY, AUX_SPI_STAT.addr_win, AUX_SPI_RX.addr_win, AUX_SPI_RX.addr_win4, AUX_SPI_RX.addr_win8, AUX_SPI_CFG.LEN_M1, AUX_SPI_CFG.addr_win, AUX_SPI_STAT.DONE]; first | decide +kernel | (split <;> decide +kernel))))) (Foot.part_of_le hf (by decide +kernel : Foot.part _ .pins = true))
  clear_value d
  rename_i sp u au
  have hu : Kept f s u := Kept.ite (Kept.set_srv_aux _ _ hd (Foot.part_of_le hf (by decide +kernel : Foot.part _ .srv = true)) (Foot.part_of_le hf (by decide +kernel : Foot.part _ .aux = true))) hd
  clear_value u
  exact Kept.ite (Kept.spiStart (Kept.set_aux _ hu (Foot.part_of_le hf (by decide +kernel : Foot.part _ .aux = true))) (Foot.le_trans (by decide +kernel) hf) _ _) hu

theorem Kept.execSpiGo {f : Foot} {s x : State} (h : Kept f s x) (hf : Foot.le ⟨false, [0x00, 0x17], [], [.resp, .pins, .sys, .aux]⟩ f = true) (a0 : Fin 8) (a1 : Source) (a2 : Word) :
    ∃ t, execSpiGo a0 a1 a2 x = .next t ∧ Kept f s t := by
  unfold Sys2Proof.Machine.execSpiGo
  refine ⟨_, rfl, ?_⟩
  repeat' first
    | with_reducible assumption
    | with_reducible refine Kept.writeReg ?_ (fun y b0 b1 b2 => Kept.auxRules (Kept.refl _ y) (Foot.le_trans (by decide +kernel) hf) b0 b1 b2) (Foot.word_of_le hf (by first | decide +kernel | (simp only [AUX_SPI_CMD.addr_win]; first | decide +kernel | (split <;> decide +kernel)))) (Foot.word_of_le hf (by first | decide +kernel | (simp only [AUX_SPI_CMD.addr_win]; first | decide +kernel | (split <;> decide +kernel)))) (Foot.word_of_le hf (by decide +kernel)) (Foot.part_of_le hf (by decide +kernel : Foot.part _ .resp = true)) (Foot.part_of_le hf (by decide +kernel : Foot.part _ .sys = true))

end Sys2Proof.Machine
end

