-- ==== Sys2Proof/Laws/KeptServo.lean ====
section
/-! SUPPORT. What the operations of Sys2Proof/Machine/Servo.lean change. -/

set_option Elab.async false

set_option linter.all false

namespace Sys2Proof.Machine

theorem Kept.setLoop {f : Foot} {s x : State} (h : Kept f s x) (hf : Foot.le ⟨false, [], [], [.srv]⟩ f = true) (a0 : Fin 4) (a1 : SrvLoop) :
    Kept f s (State.setLoop x a0 a1) := by
  unfold Sys2Proof.Machine.State.setLoop
  repeat' first
    | intro y
    | lift_lets
    | with_reducible exact Kept.set_srv _ (by with_reducible assumption) (Foot.part_of_le hf (by decide +kernel : Foot.part _ .srv = true))

theorem Kept.loopSafe {f : Foot} {s x : State} (h : Kept f s x) (hf : Foot.le ⟨false, [0x18], [], [.pins, .aux, .srv]⟩ f = true) (a0 : Fin 4) :
    Kept f s (State.loopSafe x a0) := by
  unfold Sys2Proof.Machine.State.loopSafe
  repeat' first
    | with_reducible assumption
    | with_reducible refine Kept.put _ _ ?_ (Foot.word_of_le hf (by first | decide +kernel | (simp only [SRV_LOOP_CFG.OUT_SEL, SRV_LOOP_CFG.addr_win, SRV_LOOP_OUT.OUT, SRV_LOOP_OUT.addr_win]; first | decide +kernel | (split <;> decide +kernel))))
    | with_reducible refine Kept.setOutput ?_ (Foot.le_trans (by decide +kernel) hf) _ _
    | with_reducible refine Kept.setLoop ?_ (Foot.le_trans (by decide +kernel) hf) _ _

theorem Kept.gateUpdate {f : Foot} {s x : State} (h : Kept f s x) (hf : Foot.le ⟨false, [0x18], [], [.srv]⟩ f = true) :
    Kept f s (State.gateUpdate x) := by
  unfold Sys2Proof.Machine.State.gateUpdate
  repeat' first
    | with_reducible assumption
    | with_reducible refine Kept.ite ?_ ?_
    | with_reducible refine Kept.put _ _ ?_ (Foot.word_of_le hf (by first | decide +kernel))
    | with_reducible refine Kept.bump _ ?_ (Foot.word_of_le hf (by first | decide +kernel))
    | intro y
    | split
    | lift_lets
    | with_reducible exact Kept.set_srv _ (by with_reducible assumption) (Foot.part_of_le hf (by decide +kernel : Foot.part _ .srv = true))

theorem Kept.spiOwned {f : Foot} {s x : State} (h : Kept f s x) (hf : Foot.le ⟨false, [0x17], [], []⟩ f = true) :
    Kept f s (State.spiOwned x) := by
  unfold Sys2Proof.Machine.State.spiOwned
  repeat' first
    | with_reducible assumption
    | with_reducible refine Kept.putB _ _ ?_ (Foot.word_of_le hf (by first | decide +kernel | (simp only [AUX_SPI_STAT.OWNED, AUX_SPI_STAT.addr_win, SRV_STEP_AUX.SPI_MASK, SRV_STEP_AUX.addr_win]; first | decide +kernel | (split <;> decide +kernel))))
    | with_reducible refine Kept.foldl _ (fun y b hy => ?_) ?_

theorem Kept.modSpan {f : Foot} {s x : State} (h : Kept f s x) (hf : Foot.le ⟨false, [], [], [.srv]⟩ f = true) (a0 : SpanRun → SpanRun) :
    Kept f s (State.modSpan x a0) := by
  unfold Sys2Proof.Machine.State.modSpan
  repeat' first
    | intro y
    | lift_lets
    | with_reducible exact Kept.set_srv _ (by with_reducible assumption) (Foot.part_of_le hf (by decide +kernel : Foot.part _ .srv = true))

theorem Kept.ssStop {f : Foot} {s x : State} (h : Kept f s x) (hf : Foot.le ⟨false, [0x17, 0x18], [], [.srv]⟩ f = true) (a0 : Nat) :
    Kept f s (State.ssStop x a0) := by
  unfold Sys2Proof.Machine.State.ssStop
  repeat' first
    | with_reducible assumption
    | with_reducible refine Kept.put _ _ ?_ (Foot.word_of_le hf (by first | decide +kernel))
    | with_reducible refine Kept.gateUpdate ?_ (Foot.le_trans (by decide +kernel) hf)
    | with_reducible refine Kept.spiOwned ?_ (Foot.le_trans (by decide +kernel) hf)
    | with_reducible refine Kept.modSpan ?_ (Foot.le_trans (by decide +kernel) hf) _
    | intro y
    | lift_lets
    | fail_if_no_progress (with_reducible refine Kept.set_srv _ ?_ (Foot.part_of_le hf (by decide +kernel : Foot.part _ .srv = true)))

theorem Kept.srvApply {f : Foot} {s x : State} (h : Kept f s x) (hf : Foot.le ⟨false, [0x17, 0x18], [], [.pins, .aux, .srv]⟩ f = true) (a0 : State) :
    Kept f s (State.srvApply x a0) := by
  unfold Sys2Proof.Machine.State.srvApply
  repeat' first
    | with_reducible assumption
    | with_reducible refine Kept.ite ?_ ?_
    | with_reducible refine Kept.put _ _ ?_ (Foot.word_of_le hf (by first | decide +kernel | (simp only [SRV_STEP_OPEN.OPEN, SRV_STEP_OPEN.addr_win, SRV_LOOP_CFG.PV_ADC, SRV_LOOP_CFG.addr_win, SRV_LOOP_CFG.PV_POS, SRV_LOOP_CFG.DIV_M1, SRV_LOOP_CFG.MODE, SRV_LOOP_STAT.STATE, SRV_LOOP_STAT.addr_win, SRV_LOOP_STAT.SETTLED, SRV_LOOP_CFG.OUT_SEL]; first | decide +kernel | (split <;> decide +kernel))))
    | with_reducible refine Kept.setLoop ?_ (Foot.le_trans (by decide +kernel) hf) _ _
    | with_reducible refine Kept.loopSafe ?_ (Foot.le_trans (by decide +kernel) hf) _
    | with_reducible refine Kept.ssStop ?_ (Foot.le_trans (by decide +kernel) hf) _
    | with_reducible refine Kept.gateUpdate ?_ (Foot.le_trans (by decide +kernel) hf)
    | with_reducible refine Kept.foldl _ (fun y b hy => ?_) ?_

theorem Kept.sweepLoad {f : Foot} {s x : State} (h : Kept f s x) (hf : Foot.le ⟨false, [], [], [.srv]⟩ f = true) :
    Kept f s (State.sweepLoad x) := by
  unfold Sys2Proof.Machine.State.sweepLoad
  repeat' first
    | with_reducible assumption
    | with_reducible refine Kept.modSpan ?_ (Foot.le_trans (by decide +kernel) hf) _

theorem Kept.stepFrame {f : Foot} {s x : State} (h : Kept f s x) (hf : Foot.le ⟨false, [0x17], [], [.pins, .aux, .srv]⟩ f = true) (a0 : Fin 8) :
    Kept f s (State.stepFrame x a0) := by
  unfold Sys2Proof.Machine.State.stepFrame
  repeat' first
    | with_reducible assumption
    | with_reducible refine Kept.ite ?_ ?_
    | with_reducible refine Kept.modSpan ?_ (Foot.le_trans (by decide +kernel) hf) _
    | with_reducible refine Kept.spiStart ?_ (Foot.le_trans (by decide +kernel) hf) _ _
    | intro y
    | lift_lets
    | fail_if_no_progress (with_reducible refine Kept.set_aux _ ?_ (Foot.part_of_le hf (by decide +kernel : Foot.part _ .aux = true)))

theorem Kept.stepStart {f : Foot} {s x : State} (h : Kept f s x) (hf : Foot.le ⟨false, [0x17, 0x18], [], [.pins, .aux, .srv]⟩ f = true) (a0 : Nat) :
    Kept f s (State.stepStart x a0) := by
  unfold Sys2Proof.Machine.State.stepStart
  repeat' first
    | with_reducible assumption
    | with_reducible refine Kept.ite ?_ ?_
    | with_reducible refine Kept.put _ _ ?_ (Foot.word_of_le hf (by first | decide +kernel | (simp only [SRV_LOOP_CFG.SP_SRC, SRV_LOOP_CFG.addr_win, AUX_CDAC.OWNER, AUX_CDAC.addr_win, AUX_PWM.OWNER, AUX_PWM.addr_win, SRV_STEP_AUX.FLAT_EN, SRV_STEP_AUX.addr_win, SRV_STEP_AUX.FLAT_SEL, SRV_STEP_AUX.SPI_MASK]; first | decide +kernel | (split <;> decide +kernel))))
    | with_reducible refine Kept.modSpan ?_ (Foot.le_trans (by decide +kernel) hf) _
    | with_reducible refine Kept.setLoop ?_ (Foot.le_trans (by decide +kernel) hf) _ _
    | with_reducible refine Kept.setCdac ?_ (Foot.le_trans (by decide +kernel) hf) _ _
    | with_reducible refine Kept.setDuty ?_ (Foot.le_trans (by decide +kernel) hf) _ _
    | with_reducible refine Kept.stepFrame ?_ (Foot.le_trans (by decide +kernel) hf) _
    | with_reducible refine Kept.gateUpdate ?_ (Foot.le_trans (by decide +kernel) hf)
    | with_reducible refine Kept.foldl _ (fun y b hy => ?_) ?_
    | intro y
    | lift_lets
    | dsimp only
    | fail_if_no_progress (with_reducible refine Kept.set_srv _ ?_ (Foot.part_of_le hf (by decide +kernel : Foot.part _ .srv = true)))

theorem Kept.stepLog {f : Foot} {s x : State} (h : Kept f s x) (hf : Foot.le ⟨false, [0x00, 0x15, 0x18, 0x1B], [], [.sram, .flt]⟩ f = true) (a0 : Bool) :
    Kept f s (State.stepLog x a0) := by
  unfold Sys2Proof.Machine.State.stepLog
  repeat' first
    | with_reducible assumption
    | with_reducible refine Kept.bumpWrap _ ?_ (Foot.word_of_le hf (by first | decide +kernel))
    | with_reducible refine Kept.unpoison ?_ (Foot.le_trans (by decide +kernel) hf) _ _
    | with_reducible refine Kept.setSramBytes _ ?_ (Foot.part_of_le hf (by decide +kernel : Foot.part _ .sram = true)) _

theorem Kept.ssCmd {f : Foot} {s x : State} (h : Kept f s x) (hf : Foot.le ⟨false, [0x00, 0x15, 0x17, 0x18, 0x1B], [], [.sram, .pins, .flt, .aux, .srv]⟩ f = true) (a0 : Word) :
    Kept.res f s (State.ssCmd x a0) := by
  unfold Sys2Proof.Machine.State.ssCmd
  repeat' first
    | with_reducible assumption
    | with_reducible refine Kept.ite ?_ ?_
    | with_reducible refine Kept.res_ite ?_ ?_
    | with_reducible refine Kept.res_ok ?_
    | with_reducible exact Kept.res_error _ _ _
    | with_reducible refine Kept.put _ _ ?_ (Foot.word_of_le hf (by first | decide +kernel))
    | with_reducible refine Kept.sweepLoad ?_ (Foot.le_trans (by decide +kernel) hf)
    | with_reducible refine Kept.spiOwned ?_ (Foot.le_trans (by decide +kernel) hf)
    | with_reducible refine Kept.stepStart ?_ (Foot.le_trans (by decide +kernel) hf) _
    | with_reducible refine Kept.ssStop ?_ (Foot.le_trans (by decide +kernel) hf) _
    | with_reducible refine Kept.modSpan ?_ (Foot.le_trans (by decide +kernel) hf) _
    | with_reducible refine Kept.stepLog ?_ (Foot.le_trans (by decide +kernel) hf) _

theorem Kept.clrFault {f : Foot} {s x : State} (h : Kept f s x) (hf : Foot.le ⟨false, [0x18], [], [.srv]⟩ f = true) (a0 : Fin 4) :
    Kept.res f s (State.clrFault x a0) := by
  unfold Sys2Proof.Machine.State.clrFault
  repeat' first
    | with_reducible assumption
    | with_reducible refine Kept.res_ite ?_ ?_
    | with_reducible refine Kept.res_ok ?_
    | with_reducible exact Kept.res_error _ _ _
    | with_reducible refine Kept.setLoop ?_ (Foot.le_trans (by decide +kernel) hf) _ _
    | with_reducible refine Kept.put _ _ ?_ (Foot.word_of_le hf (by first | decide +kernel | (simp only [SRV_LOOP_STAT.STATE, SRV_LOOP_STAT.addr_win, SRV_LOOP_CFG.MODE, SRV_LOOP_CFG.addr_win, SRV_LOOP_CFG.OUT_SEL, SRV_LOOP_INT.INT, SRV_LOOP_INT.addr_win]; first | decide +kernel | (split <;> decide +kernel))))

theorem Kept.srvRules {f : Foot} {s x : State} (h : Kept f s x) (hf : Foot.le ⟨false, [0x00, 0x15, 0x17, 0x18, 0x1B], [], [.sram, .pins, .flt, .aux, .srv]⟩ f = true) (b0 : Source) (b1 : Nat) (b2 : Word) :
    Kept.res f s (srvRules.act b0 b1 b2 x) := by
  unfold Sys2Proof.Machine.srvRules
  repeat' first
    | with_reducible assumption
    | with_reducible refine Kept.res_ite ?_ ?_
    | with_reducible refine Kept.res_ok ?_
    | with_reducible refine Kept.ssCmd ?_ (Foot.le_trans (by decide +kernel) hf) _
    | with_reducible refine Kept.clrFault ?_ (Foot.le_trans (by decide +kernel) hf) _

theorem Kept.loopReport {f : Foot} {s x : State} (h : Kept f s x) (hf : Foot.le ⟨false, [0x18], [], [.pins, .aux]⟩ f = true) (a0 : Fin 4) (a1 : Int) (a2 : Int) (a3 : Int) :
    Kept f s (State.loopReport x a0 a1 a2 a3) := by
  unfold Sys2Proof.Machine.State.loopReport
  repeat' first
    | with_reducible assumption
    | with_reducible refine Kept.setOutput ?_ (Foot.le_trans (by decide +kernel) hf) _ _
    | with_reducible refine Kept.put _ _ ?_ (Foot.word_of_le hf (by first | decide +kernel | (simp only [SRV_LOOP_CFG.OUT_SEL, SRV_LOOP_CFG.addr_win, SRV_LOOP_OUT.OUT, SRV_LOOP_OUT.addr_win, SRV_LOOP_ERR.ERR, SRV_LOOP_ERR.addr_win, SRV_LOOP_INT.INT, SRV_LOOP_INT.addr_win]; first | decide +kernel | (split <;> decide +kernel))))

theorem Kept.loopSettle {f : Foot} {s x : State} (h : Kept f s x) (hf : Foot.le ⟨false, [0x18], [], [.srv]⟩ f = true) (a0 : Fin 4) (a1 : Int) :
    Kept f s (State.loopSettle x a0 a1) := by
  unfold Sys2Proof.Machine.State.loopSettle
  repeat' first
    | with_reducible assumption
    | with_reducible refine Kept.putB _ _ ?_ (Foot.word_of_le hf (by first | decide +kernel | (simp only [SRV_LOOP_STAT.STATE, SRV_LOOP_STAT.addr_win, SRV_LOOP_SET.BAND, SRV_LOOP_SET.addr_win, SRV_LOOP_STAT.SETTLED, SRV_LOOP_SET.SETTLE_N]; first | decide +kernel | (split <;> decide +kernel))))
    | with_reducible refine Kept.setLoop ?_ (Foot.le_trans (by decide +kernel) hf) _ _

theorem Kept.loopLaw {f : Foot} {s x : State} (h : Kept f s x) (hf : Foot.le ⟨false, [0x18], [], [.pins, .aux, .srv]⟩ f = true) (a0 : Fin 4) (a1 : Int) :
    Kept f s (State.loopLaw x a0 a1) := by
  unfold Sys2Proof.Machine.State.loopLaw
  repeat' first
    | with_reducible assumption
    | with_reducible refine Kept.ite ?_ ?_
    | with_reducible refine Kept.setLoop ?_ (Foot.le_trans (by decide +kernel) hf) _ _
    | with_reducible refine Kept.putB _ _ ?_ (Foot.word_of_le hf (by first | decide +kernel | (simp only [SRV_LOOP_STAT.STATE, SRV_LOOP_STAT.addr_win, SRV_LOOP_CFG.INV, SRV_LOOP_CFG.addr_win, SRV_LOOP_KP.K, SRV_LOOP_KP.addr_win, SRV_LOOP_KD.KD, SRV_LOOP_KD.addr_win, SRV_LOOP_KD.DFILT, SRV_LOOP_KF.K, SRV_LOOP_KF.addr_win, SRV_LOOP_FOFS.FOFS, SRV_LOOP_FOFS.addr_win, SRV_LOOP_LIM.UMIN, SRV_LOOP_LIM.addr_win, SRV_LOOP_LIM.UMAX, SRV_LOOP_SP.MAN, SRV_LOOP_SP.addr_win, SRV_LOOP_KI.K, SRV_LOOP_KI.addr_win, SRV_LOOP_STAT.AW, SRV_LOOP_CNT.SAT, SRV_LOOP_CNT.addr_win]; first | decide +kernel | (split <;> decide +kernel))))
    | with_reducible refine Kept.loopReport ?_ (Foot.le_trans (by decide +kernel) hf) _ _ _ _
    | with_reducible refine Kept.bump _ ?_ (Foot.word_of_le hf (by first | decide +kernel | (simp only [SRV_LOOP_STAT.STATE, SRV_LOOP_STAT.addr_win, SRV_LOOP_CFG.INV, SRV_LOOP_CFG.addr_win, SRV_LOOP_KP.K, SRV_LOOP_KP.addr_win, SRV_LOOP_KD.KD, SRV_LOOP_KD.addr_win, SRV_LOOP_KD.DFILT, SRV_LOOP_KF.K, SRV_LOOP_KF.addr_win, SRV_LOOP_FOFS.FOFS, SRV_LOOP_FOFS.addr_win, SRV_LOOP_LIM.UMIN, SRV_LOOP_LIM.addr_win, SRV_LOOP_LIM.UMAX, SRV_LOOP_SP.MAN, SRV_LOOP_SP.addr_win, SRV_LOOP_KI.K, SRV_LOOP_KI.addr_win, SRV_LOOP_STAT.AW, SRV_LOOP_CNT.SAT, SRV_LOOP_CNT.addr_win]; first | decide +kernel | (split <;> decide +kernel))))
    | with_reducible refine Kept.loopSettle ?_ (Foot.le_trans (by decide +kernel) hf) _ _

theorem Kept.stepEnd {f : Foot} {s x : State} (h : Kept f s x) (hf : Foot.le ⟨false, [0x00, 0x15, 0x17, 0x18, 0x1B], [], [.sram, .pins, .flt, .aux, .srv]⟩ f = true) (a0 : Bool) :
    Kept f s (State.stepEnd x a0) := by
  unfold Sys2Proof.Machine.State.stepEnd
  repeat' first
    | with_reducible assumption
    | with_reducible refine Kept.ite ?_ ?_
    | with_reducible refine Kept.stepLog ?_ (Foot.le_trans (by decide +kernel) hf) _
    | with_reducible refine Kept.ssStop ?_ (Foot.le_trans (by decide +kernel) hf) _
    | with_reducible refine Kept.put _ _ ?_ (Foot.word_of_le hf (by first | decide +kernel))
    | with_reducible refine Kept.spiOwned ?_ (Foot.le_trans (by decide +kernel) hf)
    | with_reducible refine Kept.sweepLoad ?_ (Foot.le_trans (by decide +kernel) hf)
    | with_reducible refine Kept.stepStart ?_ (Foot.le_trans (by decide +kernel) hf) _

theorem Kept.execClrFault {f : Foot} {s x : State} (h : Kept f s x) (hf : Foot.le ⟨false, [0x00, 0x15, 0x17, 0x18, 0x1B], [], [.sram, .resp, .pins, .sys, .flt, .aux, .srv]⟩ f = true) (a0 : Fin 4) (a1 : Source) (a2 : Word) :
    ∃ t, execClrFault a0 a1 a2 x = .next t ∧ Kept f s t := by
  unfold Sys2Proof.Machine.execClrFault
  refine ⟨_, rfl, ?_⟩
  repeat' first
    | with_reducible assumption
    | with_reducible refine Kept.writeReg ?_ (fun y b0 b1 b2 => Kept.srvRules (Kept.refl _ y) (Foot.le_trans (by decide +kernel) hf) b0 b1 b2) (Foot.word_of_le hf (by first | decide +kernel | (simp only [SRV_LOOP_CMD.addr_win]; first | decide +kernel | (split <;> decide +kernel)))) (Foot.word_of_le hf (by first | decide +kernel | (simp only [SRV_LOOP_CMD.addr_win]; first | decide +kernel | (split <;> decide +kernel)))) (Foot.word_of_le hf (by decide +kernel)) (Foot.part_of_le hf (by decide +kernel : Foot.part _ .resp = true)) (Foot.part_of_le hf (by decide +kernel : Foot.part _ .sys = true))

theorem Kept.execGateOpen {f : Foot} {s x : State} (h : Kept f s x) (hf : Foot.le ⟨false, [0x18], [], [.srv]⟩ f = true) :
    ∃ t, execGateOpen x = .next t ∧ Kept f s t := by
  unfold Sys2Proof.Machine.execGateOpen
  refine ⟨_, rfl, ?_⟩
  repeat' first
    | with_reducible assumption
    | with_reducible refine Kept.ite ?_ ?_
    | with_reducible refine Kept.put _ _ ?_ (Foot.word_of_le hf (by first | decide +kernel))
    | with_reducible refine Kept.gateUpdate ?_ (Foot.le_trans (by decide +kernel) hf)
    | with_reducible refine Kept.modSpan ?_ (Foot.le_trans (by decide +kernel) hf) _

theorem Kept.execLoopCompute {f : Foot} {s x : State} (h : Kept f s x) (hf : Foot.le ⟨false, [0x18, 0x1B], [], [.pins, .flt, .aux, .srv]⟩ f = true) (a0 : Fin 4) :
    ∃ t, execLoopCompute a0 x = .next t ∧ Kept f s t := by
  unfold Sys2Proof.Machine.execLoopCompute
  refine ⟨_, rfl, ?_⟩
  repeat' first
    | with_reducible assumption
    | with_reducible refine Kept.ite ?_ ?_
    | with_reducible refine Kept.setLoop ?_ (Foot.le_trans (by decide +kernel) hf) _ _
    | with_reducible refine Kept.bump _ ?_ (Foot.word_of_le hf (by first | decide +kernel | (simp only [SRV_LOOP_STAT.STATE, SRV_LOOP_STAT.addr_win, SRV_LOOP_CFG.DIV_M1, SRV_LOOP_CFG.addr_win, SRV_LOOP_STAT.HELD, SRV_LOOP_CNT.HOLDS, SRV_LOOP_CNT.addr_win, SRV_LOOP_SLEW.HOLD_MAX, SRV_LOOP_SLEW.addr_win, SRV_LOOP_STAT.SETTLED]; first | decide +kernel | (split <;> decide +kernel))))
    | with_reducible refine Kept.put _ _ ?_ (Foot.word_of_le hf (by first | decide +kernel | (simp only [SRV_LOOP_STAT.STATE, SRV_LOOP_STAT.addr_win, SRV_LOOP_CFG.DIV_M1, SRV_LOOP_CFG.addr_win, SRV_LOOP_STAT.HELD, SRV_LOOP_CNT.HOLDS, SRV_LOOP_CNT.addr_win, SRV_LOOP_SLEW.HOLD_MAX, SRV_LOOP_SLEW.addr_win, SRV_LOOP_STAT.SETTLED]; first | decide +kernel | (split <;> decide +kernel))))
    | with_reducible refine Kept.loopSafe ?_ (Foot.le_trans (by decide +kernel) hf) _
    | with_reducible refine Kept.gateUpdate ?_ (Foot.le_trans (by decide +kernel) hf)
    | with_reducible refine Kept.fltInfo ?_ (Foot.le_trans (by decide +kernel) hf) _ _ _ _ _
    | with_reducible refine Kept.loopLaw ?_ (Foot.le_trans (by decide +kernel) hf) _ _

theorem Kept.execSsAbort {f : Foot} {s x : State} (h : Kept f s x) (hf : Foot.le ⟨false, [0x00, 0x15, 0x17, 0x18, 0x1B], [], [.sram, .resp, .pins, .sys, .flt, .aux, .srv]⟩ f = true) (a0 : Source) (a1 : Word) :
    ∃ t, execSsAbort a0 a1 x = .next t ∧ Kept f s t := by
  unfold Sys2Proof.Machine.execSsAbort
  refine ⟨_, rfl, ?_⟩
  repeat' first
    | with_reducible assumption
    | with_reducible refine Kept.writeReg ?_ (fun y b0 b1 b2 => Kept.srvRules (Kept.refl _ y) (Foot.le_trans (by decide +kernel) hf) b0 b1 b2) (Foot.word_of_le hf (by first | decide +kernel)) (Foot.word_of_le hf (by first | decide +kernel)) (Foot.word_of_le hf (by decide +kernel)) (Foot.part_of_le hf (by decide +kernel : Foot.part _ .resp = true)) (Foot.part_of_le hf (by decide +kernel : Foot.part _ .sys = true))

theorem Kept.execSsGo {f : Foot} {s x : State} (h : Kept f s x) (hf : Foot.le ⟨false, [0x00, 0x15, 0x17, 0x18, 0x1B], [], [.sram, .resp, .pins, .sys, .flt, .aux, .srv]⟩ f = true) (a0 : Source) (a1 : Word) :
    ∃ t, execSsGo a0 a1 x = .next t ∧ Kept f s t := by
  unfold Sys2Proof.Machine.execSsGo
  refine ⟨_, rfl, ?_⟩
  repeat' first
    | with_reducible assumption
    | with_reducible refine Kept.writeReg ?_ (fun y b0 b1 b2 => Kept.srvRules (Kept.refl _ y) (Foot.le_trans (by decide +kernel) hf) b0 b1 b2) (Foot.word_of_le hf (by first | decide +kernel)) (Foot.word_of_le hf (by first | decide +kernel)) (Foot.word_of_le hf (by decide +kernel)) (Foot.part_of_le hf (by decide +kernel : Foot.part _ .resp = true)) (Foot.part_of_le hf (by decide +kernel : Foot.part _ .sys = true))

theorem Kept.execSsStop {f : Foot} {s x : State} (h : Kept f s x) (hf : Foot.le ⟨false, [0x00, 0x15, 0x17, 0x18, 0x1B], [], [.sram, .resp, .pins, .sys, .flt, .aux, .srv]⟩ f = true) (a0 : Source) (a1 : Word) :
    ∃ t, execSsStop a0 a1 x = .next t ∧ Kept f s t := by
  unfold Sys2Proof.Machine.execSsStop
  refine ⟨_, rfl, ?_⟩
  repeat' first
    | with_reducible assumption
    | with_reducible refine Kept.writeReg ?_ (fun y b0 b1 b2 => Kept.srvRules (Kept.refl _ y) (Foot.le_trans (by decide +kernel) hf) b0 b1 b2) (Foot.word_of_le hf (by first | decide +kernel)) (Foot.word_of_le hf (by first | decide +kernel)) (Foot.word_of_le hf (by decide +kernel)) (Foot.part_of_le hf (by decide +kernel : Foot.part _ .resp = true)) (Foot.part_of_le hf (by decide +kernel : Foot.part _ .sys = true))

theorem Kept.execStepEnd {f : Foot} {s x : State} (h : Kept f s x) (hf : Foot.le ⟨false, [0x00, 0x15, 0x17, 0x18, 0x1B], [], [.sram, .pins, .flt, .aux, .srv]⟩ f = true) :
    ∃ t, execStepEnd x = .next t ∧ Kept f s t := by
  unfold Sys2Proof.Machine.execStepEnd
  refine ⟨_, rfl, ?_⟩
  repeat' first
    | with_reducible assumption
    | with_reducible refine Kept.ite ?_ ?_
    | with_reducible refine Kept.stepEnd ?_ (Foot.le_trans (by decide +kernel) hf) _

theorem Kept.execStepLate {f : Foot} {s x : State} (h : Kept f s x) (hf : Foot.le ⟨false, [0x00, 0x15, 0x17, 0x18, 0x1B], [], [.sram, .pins, .flt, .aux, .srv]⟩ f = true) :
    ∃ t, execStepLate x = .next t ∧ Kept f s t := by
  unfold Sys2Proof.Machine.execStepLate
  refine ⟨_, rfl, ?_⟩
  repeat' first
    | with_reducible assumption
    | with_reducible refine Kept.ite ?_ ?_
    | with_reducible refine Kept.stepEnd ?_ (Foot.le_trans (by decide +kernel) hf) _
    | with_reducible refine Kept.put _ _ ?_ (Foot.word_of_le hf (by first | decide +kernel))

theorem Kept.execStepStart {f : Foot} {s x : State} (h : Kept f s x) (hf : Foot.le ⟨false, [0x17, 0x18], [], [.pins, .aux, .srv]⟩ f = true) :
    ∃ t, execStepStart x = .next t ∧ Kept f s t := by
  unfold Sys2Proof.Machine.execStepStart
  refine ⟨_, rfl, ?_⟩
  repeat' first
    | with_reducible assumption
    | with_reducible refine Kept.ite ?_ ?_
    | with_reducible refine Kept.spiOwned ?_ (Foot.le_trans (by decide +kernel) hf)
    | with_reducible refine Kept.sweepLoad ?_ (Foot.le_trans (by decide +kernel) hf)
    | with_reducible refine Kept.stepStart ?_ (Foot.le_trans (by decide +kernel) hf) _

end Sys2Proof.Machine
end

