-- ==== Sys2Proof/Laws/KeptAdmission.lean ====
section
/-! SUPPORT. What the operations of Sys2Proof/Machine/Admission.lean change. -/

set_option Elab.async false

set_option linter.all false

namespace Sys2Proof.Machine

theorem Kept.admitWith {f : Foot} {s x : State} (h : Kept f s x) (hf : Foot.le ⟨false, [0x00], [], []⟩ f = true) (a0 : View') (a1 : Caps) :
    Kept f s (State.admitWith x a0 a1).2 := by
  unfold Sys2Proof.Machine.State.admitWith
  repeat' first
    | with_reducible assumption
    | with_reducible refine Kept.setWord _ _ ?_ (Foot.word_of_le hf (by first | decide +kernel))

theorem Kept.admitRunning {f : Foot} {s x : State} (h : Kept f s x) (hf : Foot.le ⟨false, [0x00], [], []⟩ f = true) :
    Kept f s (State.admitRunning x).2 := by
  unfold Sys2Proof.Machine.State.admitRunning
  repeat' first
    | with_reducible assumption
    | with_reducible refine Kept.admitWith ?_ (Foot.le_trans (by decide +kernel) hf) _ _

theorem Kept.capacityRerun {f : Foot} {s x : State} (h : Kept f s x) (hf : Foot.le ⟨false, [0x00, 0x15, 0x1B], [], [.flt]⟩ f = true) (a0 : Bool) :
    Kept f s (State.capacityRerun x a0) := by
  unfold Sys2Proof.Machine.State.capacityRerun
  repeat' first
    | with_reducible assumption
    | with_reducible refine Kept.ite ?_ ?_
    | with_reducible refine Kept.admitRunning ?_ (Foot.le_trans (by decide +kernel) hf)
    | with_reducible refine Kept.fltRec ?_ (Foot.le_trans (by decide +kernel) hf) _ _ _ _ _ _
    | with_reducible refine Kept.clearActive ?_ (Foot.le_trans (by decide +kernel) hf) _
    | intro y
    | split
    | lift_lets

end Sys2Proof.Machine
end

