-- ==== Sys2Proof/Laws/KeptAlmanac.lean ====
section
/-! SUPPORT. What the operations of Sys2Proof/Machine/Almanac.lean change. -/

set_option Elab.async false

set_option linter.all false

namespace Sys2Proof.Machine

theorem Kept.set_pins_alm {f : Foot} {s x : State} (v : Pins) (w : AlmSt) (h : Kept f s x) (hp : f.part .pins = true)
    (ha : f.part .alm = true) : Kept f s { x with pins := v, alm := w } :=
  Kept.set_alm (x := { x with pins := v }) w (Kept.set_pins v h hp) ha

theorem Kept.almTq {f : Foot} {s x : State} (h : Kept f s x) (hf : Foot.le ⟨false, [0x03], [], []⟩ f = true) :
    Kept f s (State.almTq x) := by
  unfold Sys2Proof.Machine.State.almTq
  repeat' first
    | with_reducible assumption
    | with_reducible refine Kept.put _ _ ?_ (Foot.word_of_le hf (by first | decide +kernel))

theorem Kept.almApply {f : Foot} {s x : State} (h : Kept f s x) (hf : Foot.le ⟨false, [0x03], [], [.pins, .alm]⟩ f = true) (a0 : State) :
    Kept f s (State.almApply x a0) := by
  unfold Sys2Proof.Machine.State.almApply
  repeat' first
    | with_reducible assumption
    | with_reducible exact Kept.set_pins_alm _ _ (by with_reducible assumption) (Foot.part_of_le hf (by decide +kernel : Foot.part _ .pins = true)) (Foot.part_of_le hf (by decide +kernel : Foot.part _ .alm = true))
    | fail_if_no_progress (with_reducible refine Kept.set_pins_alm _ _ ?_ (Foot.part_of_le hf (by decide +kernel : Foot.part _ .pins = true)) (Foot.part_of_le hf (by decide +kernel : Foot.part _ .alm = true)))
    | with_reducible refine Kept.ite ?_ ?_
    | with_reducible refine Kept.almTq ?_ (Foot.le_trans (by decide +kernel) hf)

theorem Kept.almTick {f : Foot} {s x : State} (h : Kept f s x) (hf : Foot.le ⟨false, [0x03], [], [.alm]⟩ f = true) :
    Kept f s (State.almTick x) := by
  unfold Sys2Proof.Machine.State.almTick
  repeat' first
    | with_reducible refine Kept.almTq ?_ (Foot.le_trans (by decide +kernel) hf)
    | intro y
    | lift_lets
    | with_reducible exact Kept.set_alm _ (by with_reducible assumption) (Foot.part_of_le hf (by decide +kernel : Foot.part _ .alm = true))

theorem Kept.tdcArm {f : Foot} {s x : State} (h : Kept f s x) (hf : Foot.le ⟨false, [0x03], [], [.alm]⟩ f = true) :
    Kept f s (State.tdcArm x) := by
  unfold Sys2Proof.Machine.State.tdcArm
  repeat' first
    | with_reducible assumption
    | with_reducible refine Kept.setWord _ _ ?_ (Foot.word_of_le hf (by first | decide +kernel | (simp only [ALM_TDC_RESULT_LO.addr_win, ALM_TDC_RESULT_LO.addr_win4, ALM_TDC_RESULT_LO.addr_win8, ALM_TDC_RESULT_HI.addr_win, ALM_TDC_RESULT_HI.addr_win4, ALM_TDC_RESULT_HI.addr_win8]; first | decide +kernel | (split <;> decide +kernel))))
    | with_reducible refine Kept.putStamp _ _ ?_ (Foot.word_of_le hf (by first | decide +kernel | (simp only [ALM_TDC_RESULT_LO.addr_win, ALM_TDC_RESULT_LO.addr_win4, ALM_TDC_RESULT_LO.addr_win8, ALM_TDC_RESULT_HI.addr_win, ALM_TDC_RESULT_HI.addr_win4, ALM_TDC_RESULT_HI.addr_win8]; first | decide +kernel | (split <;> decide +kernel)))) (Foot.word_of_le hf (by first | decide +kernel | (simp only [ALM_TDC_RESULT_LO.addr_win, ALM_TDC_RESULT_LO.addr_win4, ALM_TDC_RESULT_LO.addr_win8, ALM_TDC_RESULT_HI.addr_win, ALM_TDC_RESULT_HI.addr_win4, ALM_TDC_RESULT_HI.addr_win8]; first | decide +kernel | (split <;> decide +kernel)))) (Foot.word_of_le hf (by first | decide +kernel | (simp only [ALM_TDC_RESULT_LO.addr_win, ALM_TDC_RESULT_LO.addr_win4, ALM_TDC_RESULT_LO.addr_win8, ALM_TDC_RESULT_HI.addr_win, ALM_TDC_RESULT_HI.addr_win4, ALM_TDC_RESULT_HI.addr_win8]; first | decide +kernel | (split <;> decide +kernel))))
    | with_reducible refine Kept.put _ _ ?_ (Foot.word_of_le hf (by first | decide +kernel | (simp only [ALM_TDC_RESULT_LO.addr_win, ALM_TDC_RESULT_LO.addr_win4, ALM_TDC_RESULT_LO.addr_win8, ALM_TDC_RESULT_HI.addr_win, ALM_TDC_RESULT_HI.addr_win4, ALM_TDC_RESULT_HI.addr_win8]; first | decide +kernel | (split <;> decide +kernel))))
    | with_reducible refine Kept.foldl _ (fun y b hy => ?_) ?_
    | intro y
    | lift_lets
    | fail_if_no_progress (with_reducible refine Kept.set_alm _ ?_ (Foot.part_of_le hf (by decide +kernel : Foot.part _ .alm = true)))

theorem Kept.tdcEnd {f : Foot} {s x : State} (h : Kept f s x) (hf : Foot.le ⟨false, [0x03], [], []⟩ f = true) :
    Kept f s (State.tdcEnd x) := by
  unfold Sys2Proof.Machine.State.tdcEnd
  repeat' first
    | with_reducible assumption
    | with_reducible refine Kept.put _ _ ?_ (Foot.word_of_le hf (by first | decide +kernel))

theorem Kept.almRules {f : Foot} {s x : State} (h : Kept f s x) (hf : Foot.le ⟨false, [0x03], [], [.alm]⟩ f = true) (b0 : Source) (b1 : Nat) (b2 : Word) :
    Kept.res f s (almRules.act b0 b1 b2 x) := by
  unfold Sys2Proof.Machine.almRules
  repeat' first
    | with_reducible assumption
    | with_reducible refine Kept.res_ite ?_ ?_
    | with_reducible refine Kept.res_ok ?_
    | with_reducible exact Kept.res_error _ _ _
    | with_reducible refine Kept.put _ _ ?_ (Foot.word_of_le hf (by first | decide +kernel))
    | with_reducible refine Kept.tdcArm ?_ (Foot.le_trans (by decide +kernel) hf)
    | with_reducible refine Kept.tdcEnd ?_ (Foot.le_trans (by decide +kernel) hf)
    | intro y
    | lift_lets
    | with_reducible exact Kept.set_alm _ (by with_reducible assumption) (Foot.part_of_le hf (by decide +kernel : Foot.part _ .alm = true))

theorem Kept.enterHoldover {f : Foot} {s x : State} (h : Kept f s x) (hf : Foot.le ⟨false, [0x03], [], [.alm]⟩ f = true) :
    Kept f s (State.enterHoldover x) := by
  unfold Sys2Proof.Machine.State.enterHoldover
  repeat' first
    | with_reducible refine Kept.almTq ?_ (Foot.le_trans (by decide +kernel) hf)
    | intro y
    | lift_lets
    | with_reducible exact Kept.set_alm _ (by with_reducible assumption) (Foot.part_of_le hf (by decide +kernel : Foot.part _ .alm = true))

theorem Kept.stepTo {f : Foot} {s x : State} (h : Kept f s x) (hf : Foot.le ⟨false, [0x03, 0x1B], [], [.flt, .alm]⟩ f = true) (a0 : Stamp) :
    Kept f s (State.stepTo x a0) := by
  unfold Sys2Proof.Machine.State.stepTo
  repeat' first
    | with_reducible refine Kept.putPair _ _ ?_ (Foot.word_of_le hf (by first | decide +kernel | (simp only [ALM_STEP_LAST.addr_win]; first | decide +kernel | (split <;> decide +kernel)))) (Foot.word_of_le hf (by first | decide +kernel | (simp only [ALM_STEP_LAST.addr_win]; first | decide +kernel | (split <;> decide +kernel))))
    | with_reducible refine Kept.put _ _ ?_ (Foot.word_of_le hf (by first | decide +kernel | (simp only [ALM_STEP_LAST.addr_win]; first | decide +kernel | (split <;> decide +kernel))))
    | with_reducible refine Kept.fltInfo ?_ (Foot.le_trans (by decide +kernel) hf) _ _ _ _ _
    | intro y
    | lift_lets
    | with_reducible exact Kept.set_alm _ (by with_reducible assumption) (Foot.part_of_le hf (by decide +kernel : Foot.part _ .alm = true))

theorem Kept.idle {f : Foot} {s x : State} (h : Kept f s x) (hf : Foot.le ⟨false, [0x03, 0x1B], [], [.flt, .alm]⟩ f = true) :
    Kept f s (State.idle x) := by
  unfold Sys2Proof.Machine.State.idle
  repeat' first
    | with_reducible assumption
    | with_reducible refine Kept.ite ?_ ?_
    | with_reducible refine Kept.almTick ?_ (Foot.le_trans (by decide +kernel) hf)
    | with_reducible refine Kept.stepTo ?_ (Foot.le_trans (by decide +kernel) hf) _
    | intro y
    | lift_lets
    | fail_if_no_progress (with_reducible refine Kept.set_alm _ ?_ (Foot.part_of_le hf (by decide +kernel : Foot.part _ .alm = true)))

theorem Kept.ppsAccept {f : Foot} {s x : State} (h : Kept f s x) (hf : Foot.le ⟨false, [0x03], [], [.alm]⟩ f = true) (a0 : Int) :
    Kept f s (State.ppsAccept x a0) := by
  unfold Sys2Proof.Machine.State.ppsAccept
  repeat' first
    | with_reducible assumption
    | with_reducible refine Kept.ite ?_ ?_
    | with_reducible refine Kept.put _ _ ?_ (Foot.word_of_le hf (by first | decide +kernel))
    | with_reducible refine Kept.almTq ?_ (Foot.le_trans (by decide +kernel) hf)
    | intro y
    | lift_lets
    | fail_if_no_progress (with_reducible refine Kept.set_alm _ ?_ (Foot.part_of_le hf (by decide +kernel : Foot.part _ .alm = true)))

theorem Kept.ppsReject {f : Foot} {s x : State} (h : Kept f s x) (hf : Foot.le ⟨false, [0x03, 0x1B], [], [.flt, .alm]⟩ f = true) (a0 : Stamp) (a1 : Int) :
    Kept f s (State.ppsReject x a0 a1) := by
  unfold Sys2Proof.Machine.State.ppsReject
  repeat' first
    | with_reducible assumption
    | with_reducible refine Kept.ite ?_ ?_
    | with_reducible refine Kept.bump _ ?_ (Foot.word_of_le hf (by first | decide +kernel))
    | with_reducible refine Kept.stepTo ?_ (Foot.le_trans (by decide +kernel) hf) _
    | with_reducible refine Kept.almTq ?_ (Foot.le_trans (by decide +kernel) hf)
    | with_reducible refine Kept.fltInfo ?_ (Foot.le_trans (by decide +kernel) hf) _ _ _ _ _
    | intro y
    | split
    | lift_lets
    | dsimp only
    | fail_if_no_progress (with_reducible refine Kept.set_alm _ ?_ (Foot.part_of_le hf (by decide +kernel : Foot.part _ .alm = true)))

theorem Kept.stampEdge {f : Foot} {s x : State} (h : Kept f s x) (hf : Foot.le ⟨false, [], [], [.alm]⟩ f = true) (a0 : Fin 10) (a1 : Stamp) :
    Kept f s (State.stampEdge x a0 a1) := by
  unfold Sys2Proof.Machine.State.stampEdge
  repeat' first
    | intro y
    | lift_lets
    | with_reducible exact Kept.set_alm _ (by with_reducible assumption) (Foot.part_of_le hf (by decide +kernel : Foot.part _ .alm = true))

theorem Kept.tdcResults {f : Foot} {s x : State} (h : Kept f s x) (hf : Foot.le ⟨false, [0x03], [], []⟩ f = true) :
    Kept f s (State.tdcResults x) := by
  unfold Sys2Proof.Machine.State.tdcResults
  repeat' first
    | with_reducible assumption
    | with_reducible refine Kept.put _ _ ?_ (Foot.word_of_le hf (by first | decide +kernel | (simp only [ALM_TDC_RESULT_LO.INTERVAL, ALM_TDC_RESULT_LO.addr_win, ALM_TDC_RESULT_HI.INTERVAL_HI, ALM_TDC_RESULT_HI.addr_win, ALM_TDC_RESULT_HI.SRC, ALM_TDC_RESULT_HI.EDGE, ALM_TDC_RESULT_HI.VALID]; first | decide +kernel | (split <;> decide +kernel))))
    | with_reducible refine Kept.putB _ _ ?_ (Foot.word_of_le hf (by first | decide +kernel | (simp only [ALM_TDC_RESULT_LO.INTERVAL, ALM_TDC_RESULT_LO.addr_win, ALM_TDC_RESULT_HI.INTERVAL_HI, ALM_TDC_RESULT_HI.addr_win, ALM_TDC_RESULT_HI.SRC, ALM_TDC_RESULT_HI.EDGE, ALM_TDC_RESULT_HI.VALID]; first | decide +kernel | (split <;> decide +kernel))))
    | with_reducible refine Kept.foldl _ (fun y b hy => ?_) ?_

theorem Kept.tdcEdge {f : Foot} {s x : State} (h : Kept f s x) (hf : Foot.le ⟨false, [0x03], [], [.alm]⟩ f = true) (a0 : Nat) (a1 : Bool) (a2 : Stamp) :
    Kept f s (State.tdcEdge x a0 a1 a2) := by
  unfold Sys2Proof.Machine.State.tdcEdge
  repeat' first
    | with_reducible assumption
    | with_reducible refine Kept.ite ?_ ?_
    | with_reducible refine Kept.putStamp _ _ ?_ (Foot.word_of_le hf (by first | decide +kernel)) (Foot.word_of_le hf (by first | decide +kernel)) (Foot.word_of_le hf (by first | decide +kernel))
    | with_reducible refine Kept.tdcResults ?_ (Foot.le_trans (by decide +kernel) hf)
    | with_reducible refine Kept.tdcEnd ?_ (Foot.le_trans (by decide +kernel) hf)
    | intro y
    | lift_lets
    | with_reducible exact Kept.set_alm _ (by with_reducible assumption) (Foot.part_of_le hf (by decide +kernel : Foot.part _ .alm = true))

theorem Kept.track {f : Foot} {s x : State} (h : Kept f s x) (hf : Foot.le ⟨false, [], [], [.alm]⟩ f = true) (a0 : Int) :
    Kept f s (State.track x a0) := by
  unfold Sys2Proof.Machine.State.track
  repeat' first
    | intro y
    | split
    | lift_lets
    | with_reducible exact Kept.set_alm _ (by with_reducible assumption) (Foot.part_of_le hf (by decide +kernel : Foot.part _ .alm = true))

theorem Kept.execAlmStep {f : Foot} {s x : State} (h : Kept f s x) (hf : Foot.le ⟨false, [0x00, 0x03], [], [.resp, .sys, .alm]⟩ f = true) (a0 : Source) (a1 : Word) :
    ∃ t, execAlmStep a0 a1 x = .next t ∧ Kept f s t := by
  unfold Sys2Proof.Machine.execAlmStep
  refine ⟨_, rfl, ?_⟩
  repeat' first
    | with_reducible assumption
    | with_reducible refine Kept.writeReg ?_ (fun y b0 b1 b2 => Kept.almRules (Kept.refl _ y) (Foot.le_trans (by decide +kernel) hf) b0 b1 b2) (Foot.word_of_le hf (by first | decide +kernel)) (Foot.word_of_le hf (by first | decide +kernel)) (Foot.word_of_le hf (by decide +kernel)) (Foot.part_of_le hf (by decide +kernel : Foot.part _ .resp = true)) (Foot.part_of_le hf (by decide +kernel : Foot.part _ .sys = true))

theorem Kept.execHoldoverExit {f : Foot} {s x : State} (h : Kept f s x) (hf : Foot.le ⟨false, [0x03], [], [.alm]⟩ f = true) :
    ∃ t, execHoldoverExit x = .next t ∧ Kept f s t := by
  unfold Sys2Proof.Machine.execHoldoverExit
  refine ⟨_, rfl, ?_⟩
  repeat' first
    | with_reducible assumption
    | with_reducible refine Kept.ite ?_ ?_
    | with_reducible refine Kept.almTq ?_ (Foot.le_trans (by decide +kernel) hf)
    | intro y
    | lift_lets
    | with_reducible exact Kept.set_alm _ (by with_reducible assumption) (Foot.part_of_le hf (by decide +kernel : Foot.part _ .alm = true))

theorem Kept.execPpsAbsent {f : Foot} {s x : State} (h : Kept f s x) (hf : Foot.le ⟨false, [0x03], [], [.alm]⟩ f = true) :
    ∃ t, execPpsAbsent x = .next t ∧ Kept f s t := by
  unfold Sys2Proof.Machine.execPpsAbsent
  refine ⟨_, rfl, ?_⟩
  repeat' first
    | with_reducible assumption
    | with_reducible refine Kept.ite ?_ ?_
    | with_reducible refine Kept.almTq ?_ (Foot.le_trans (by decide +kernel) hf)
    | with_reducible refine Kept.put _ _ ?_ (Foot.word_of_le hf (by first | decide +kernel))
    | intro y
    | lift_lets
    | with_reducible exact Kept.set_alm _ (by with_reducible assumption) (Foot.part_of_le hf (by decide +kernel : Foot.part _ .alm = true))

theorem Kept.execPpsInEdge {f : Foot} {s x : State} (h : Kept f s x) (hf : Foot.le ⟨false, [0x03, 0x1B], [], [.flt, .alm]⟩ f = true) (a0 : Bool) (a1 : Stamp) :
    ∃ t, execPpsInEdge a0 a1 x = .next t ∧ Kept f s t := by
  unfold Sys2Proof.Machine.execPpsInEdge
  refine ⟨_, rfl, ?_⟩
  repeat' first
    | with_reducible assumption
    | with_reducible refine Kept.ite ?_ ?_
    | with_reducible refine Kept.stampEdge ?_ (Foot.le_trans (by decide +kernel) hf) _ _
    | with_reducible refine Kept.ppsAccept ?_ (Foot.le_trans (by decide +kernel) hf) _
    | with_reducible refine Kept.put _ _ ?_ (Foot.word_of_le hf (by first | decide +kernel))
    | with_reducible refine Kept.stepTo ?_ (Foot.le_trans (by decide +kernel) hf) _
    | with_reducible refine Kept.ppsReject ?_ (Foot.le_trans (by decide +kernel) hf) _ _

theorem Kept.execPpsOutEnd {f : Foot} {s x : State} (h : Kept f s x) (hf : Foot.le ⟨false, [], [], [.pins]⟩ f = true) :
    ∃ t, execPpsOutEnd x = .next t ∧ Kept f s t := by
  unfold Sys2Proof.Machine.execPpsOutEnd
  refine ⟨_, rfl, ?_⟩
  repeat' first
    | with_reducible assumption
    | with_reducible refine Kept.ite ?_ ?_
    | intro y
    | lift_lets
    | with_reducible exact Kept.set_pins _ (by with_reducible assumption) (Foot.part_of_le hf (by decide +kernel : Foot.part _ .pins = true))

theorem Kept.execPpsOutPulse {f : Foot} {s x : State} (h : Kept f s x) (hf : Foot.le ⟨false, [], [], [.pins]⟩ f = true) :
    ∃ t, execPpsOutPulse x = .next t ∧ Kept f s t := by
  unfold Sys2Proof.Machine.execPpsOutPulse
  refine ⟨_, rfl, ?_⟩
  repeat' first
    | with_reducible assumption
    | with_reducible refine Kept.ite ?_ ?_
    | intro y
    | lift_lets
    | with_reducible exact Kept.set_pins _ (by with_reducible assumption) (Foot.part_of_le hf (by decide +kernel : Foot.part _ .pins = true))

theorem Kept.execRefWindow {f : Foot} {s x : State} (h : Kept f s x) (hf : Foot.le ⟨false, [0x03, 0x1B], [], [.flt, .alm]⟩ f = true) (a0 : Nat) (a1 : Int) :
    ∃ t, execRefWindow a0 a1 x = .next t ∧ Kept f s t := by
  unfold Sys2Proof.Machine.execRefWindow
  refine ⟨_, rfl, ?_⟩
  repeat' first
    | with_reducible assumption
    | with_reducible refine Kept.ite ?_ ?_
    | with_reducible refine Kept.put _ _ ?_ (Foot.word_of_le hf (by first | decide +kernel))
    | with_reducible refine Kept.putB _ _ ?_ (Foot.word_of_le hf (by first | decide +kernel))
    | with_reducible refine Kept.fltInfo ?_ (Foot.le_trans (by decide +kernel) hf) _ _ _ _ _
    | with_reducible refine Kept.enterHoldover ?_ (Foot.le_trans (by decide +kernel) hf)
    | with_reducible refine Kept.almTq ?_ (Foot.le_trans (by decide +kernel) hf)
    | with_reducible refine Kept.track ?_ (Foot.le_trans (by decide +kernel) hf) _
    | intro y
    | split
    | lift_lets
    | with_reducible exact Kept.set_alm _ (by with_reducible assumption) (Foot.part_of_le hf (by decide +kernel : Foot.part _ .alm = true))

theorem Kept.execSyncInEdge {f : Foot} {s x : State} (h : Kept f s x) (hf : Foot.le ⟨false, [0x02, 0x03, 0x04], [], [.alm, .lnk]⟩ f = true) (a0 : Bool) (a1 : Stamp) (a2 : Bool) :
    ∃ t, execSyncInEdge a0 a1 a2 x = .next t ∧ Kept f s t := by
  unfold Sys2Proof.Machine.execSyncInEdge
  refine ⟨_, rfl, ?_⟩
  repeat' first
    | with_reducible assumption
    | with_reducible refine Kept.ite ?_ ?_
    | with_reducible refine Kept.putStamp _ _ ?_ (Foot.word_of_le hf (by first | decide +kernel | (simp only [CLK_PLL_STAT.LOCKED, CLK_PLL_STAT.addr_win, CLK_PLL_STAT.SYNCED]; first | decide +kernel | (split <;> decide +kernel)))) (Foot.word_of_le hf (by first | decide +kernel | (simp only [CLK_PLL_STAT.LOCKED, CLK_PLL_STAT.addr_win, CLK_PLL_STAT.SYNCED]; first | decide +kernel | (split <;> decide +kernel)))) (Foot.word_of_le hf (by first | decide +kernel | (simp only [CLK_PLL_STAT.LOCKED, CLK_PLL_STAT.addr_win, CLK_PLL_STAT.SYNCED]; first | decide +kernel | (split <;> decide +kernel))))
    | with_reducible refine Kept.stampEdge ?_ (Foot.le_trans (by decide +kernel) hf) _ _
    | with_reducible refine Kept.sysref ?_ (Foot.le_trans (by decide +kernel) hf) _
    | with_reducible refine Kept.put _ _ ?_ (Foot.word_of_le hf (by first | decide +kernel | (simp only [CLK_PLL_STAT.LOCKED, CLK_PLL_STAT.addr_win, CLK_PLL_STAT.SYNCED]; first | decide +kernel | (split <;> decide +kernel))))
    | with_reducible refine Kept.foldl _ (fun y b hy => ?_) ?_

theorem Kept.execTdcAbort {f : Foot} {s x : State} (h : Kept f s x) (hf : Foot.le ⟨false, [0x00, 0x03], [], [.resp, .sys, .alm]⟩ f = true) (a0 : Source) (a1 : Word) :
    ∃ t, execTdcAbort a0 a1 x = .next t ∧ Kept f s t := by
  unfold Sys2Proof.Machine.execTdcAbort
  refine ⟨_, rfl, ?_⟩
  repeat' first
    | with_reducible assumption
    | with_reducible refine Kept.writeReg ?_ (fun y b0 b1 b2 => Kept.almRules (Kept.refl _ y) (Foot.le_trans (by decide +kernel) hf) b0 b1 b2) (Foot.word_of_le hf (by first | decide +kernel)) (Foot.word_of_le hf (by first | decide +kernel)) (Foot.word_of_le hf (by decide +kernel)) (Foot.part_of_le hf (by decide +kernel : Foot.part _ .resp = true)) (Foot.part_of_le hf (by decide +kernel : Foot.part _ .sys = true))

theorem Kept.execTdcArm {f : Foot} {s x : State} (h : Kept f s x) (hf : Foot.le ⟨false, [0x00, 0x03], [], [.resp, .sys, .alm]⟩ f = true) (a0 : Source) (a1 : Word) :
    ∃ t, execTdcArm a0 a1 x = .next t ∧ Kept f s t := by
  unfold Sys2Proof.Machine.execTdcArm
  refine ⟨_, rfl, ?_⟩
  repeat' first
    | with_reducible assumption
    | with_reducible refine Kept.writeReg ?_ (fun y b0 b1 b2 => Kept.almRules (Kept.refl _ y) (Foot.le_trans (by decide +kernel) hf) b0 b1 b2) (Foot.word_of_le hf (by first | decide +kernel)) (Foot.word_of_le hf (by first | decide +kernel)) (Foot.word_of_le hf (by decide +kernel)) (Foot.part_of_le hf (by decide +kernel : Foot.part _ .resp = true)) (Foot.part_of_le hf (by decide +kernel : Foot.part _ .sys = true))

theorem Kept.execTdcCalibrate {f : Foot} {s x : State} (h : Kept f s x) (hf : Foot.le ⟨false, [0x03], [], [.alm]⟩ f = true) (a0 : BitVec 10) :
    ∃ t, execTdcCalibrate a0 x = .next t ∧ Kept f s t := by
  unfold Sys2Proof.Machine.execTdcCalibrate
  refine ⟨_, rfl, ?_⟩
  repeat' first
    | with_reducible assumption
    | with_reducible refine Kept.ite ?_ ?_
    | with_reducible refine Kept.put _ _ ?_ (Foot.word_of_le hf (by first | decide +kernel))
    | intro y
    | lift_lets
    | with_reducible exact Kept.set_alm _ (by with_reducible assumption) (Foot.part_of_le hf (by decide +kernel : Foot.part _ .alm = true))

theorem Kept.execTdcTimeout {f : Foot} {s x : State} (h : Kept f s x) (hf : Foot.le ⟨false, [0x03], [], []⟩ f = true) :
    ∃ t, execTdcTimeout x = .next t ∧ Kept f s t := by
  unfold Sys2Proof.Machine.execTdcTimeout
  refine ⟨_, rfl, ?_⟩
  repeat' first
    | with_reducible assumption
    | with_reducible refine Kept.ite ?_ ?_
    | with_reducible refine Kept.tdcEnd ?_ (Foot.le_trans (by decide +kernel) hf)
    | with_reducible refine Kept.put _ _ ?_ (Foot.word_of_le hf (by first | decide +kernel))

theorem Kept.execTrigInEdge {f : Foot} {s x : State} (h : Kept f s x) (hf : Foot.le ⟨false, [0x03, 0x0A], [], [.alm, .trg]⟩ f = true) (a0 : Fin 8) (a1 : Bool) (a2 : Stamp) :
    ∃ t, execTrigInEdge a0 a1 a2 x = .next t ∧ Kept f s t := by
  unfold Sys2Proof.Machine.execTrigInEdge
  refine ⟨_, rfl, ?_⟩
  repeat' first
    | with_reducible assumption
    | with_reducible refine Kept.ite ?_ ?_
    | with_reducible refine Kept.bump _ ?_ (Foot.word_of_le hf (by first | decide +kernel))
    | with_reducible refine Kept.fileEvent ?_ (Foot.le_trans (by decide +kernel) hf) _ _ _ _
    | with_reducible refine Kept.tdcEdge ?_ (Foot.le_trans (by decide +kernel) hf) _ _ _
    | with_reducible refine Kept.stampEdge ?_ (Foot.le_trans (by decide +kernel) hf) _ _

end Sys2Proof.Machine
end

