-- ==== Sys2Proof/Laws/KeptClocks.lean ====
section
/-! SUPPORT. What the operations of Sys2Proof/Machine/Clocks.lean change. -/

set_option Elab.async false

set_option linter.all false

namespace Sys2Proof.Machine

theorem Kept.clkApply {f : Foot} {s x : State} (h : Kept f s x) (hf : Foot.le ⟨false, [0x02], [], [.alm]⟩ f = true) (a0 : State) :
    Kept f s (State.clkApply x a0) := by
  unfold Sys2Proof.Machine.State.clkApply
  repeat' first
    | with_reducible assumption
    | with_reducible refine Kept.ite ?_ ?_
    | with_reducible refine Kept.put _ _ ?_ (Foot.word_of_le hf (by first | decide +kernel | (simp only [CLK_PLL_CTRL.EN, CLK_PLL_CTRL.addr_win, CLK_PLL_STAT.LOCKED, CLK_PLL_STAT.addr_win, CLK_PLL_STAT.SYNCED]; first | decide +kernel | (split <;> decide +kernel))))
    | with_reducible refine Kept.foldl _ (fun y b hy => ?_) ?_
    | (intro y; refine (fun hy : Kept f s y => ?_) ?_ <;> [clear_value y; skip])
    | intro y
    | lift_lets
    | with_reducible exact Kept.set_alm _ (by with_reducible assumption) (Foot.part_of_le hf (by decide +kernel : Foot.part _ .alm = true))

theorem Kept.clkRules {f : Foot} {s x : State} (h : Kept f s x) (hf : Foot.le ⟨false, [0x02], [], []⟩ f = true) (b0 : Source) (b1 : Nat) (b2 : Word) :
    Kept.res f s (clkRules.act b0 b1 b2 x) := by
  unfold Sys2Proof.Machine.clkRules
  repeat' first
    | with_reducible assumption
    | with_reducible refine Kept.res_ite ?_ ?_
    | with_reducible refine Kept.res_ok ?_
    | with_reducible exact Kept.res_error _ _ _
    | with_reducible refine Kept.put _ _ ?_ (Foot.word_of_le hf (by first | decide +kernel | (simp only [CLK_PLL_CTRL.addr_win]; first | decide +kernel | (split <;> decide +kernel))))

theorem Kept.pllCondition {f : Foot} {s x : State} (h : Kept f s x) (hf : Foot.le ⟨false, [0x00, 0x15, 0x1B], [], []⟩ f = true) (a0 : Nat) :
    Kept f s (State.pllCondition x a0) := by
  unfold Sys2Proof.Machine.State.pllCondition
  repeat' first
    | with_reducible assumption
    | with_reducible refine Kept.ite ?_ ?_
    | with_reducible refine Kept.clearActive ?_ (Foot.le_trans (by decide +kernel) hf) _

theorem Kept.pllLocked {f : Foot} {s x : State} (h : Kept f s x) (hf : Foot.le ⟨false, [0x00, 0x02, 0x0C, 0x0E, 0x14, 0x15, 0x1B], [0x14], [.alm, .neb, .dpy]⟩ f = true) (a0 : Nat) :
    Kept f s (State.pllLocked x a0) := by
  unfold Sys2Proof.Machine.State.pllLocked
  repeat' first
    | with_reducible assumption
    | with_reducible refine Kept.ite ?_ ?_
    | with_reducible refine Kept.put _ _ ?_ (Foot.word_of_le hf (by first | decide +kernel | (simp only [CLK_PLL_STAT.LOCKED, CLK_PLL_STAT.addr_win]; first | decide +kernel | (split <;> decide +kernel))))
    | with_reducible refine Kept.pllCondition ?_ (Foot.le_trans (by decide +kernel) hf) _
    | with_reducible refine Kept.dpyPllLocked ?_ (Foot.le_trans (by decide +kernel) hf)
    | with_reducible refine Kept.memBegin ?_ (Foot.le_trans (by decide +kernel) hf)
    | intro y
    | lift_lets
    | fail_if_no_progress (with_reducible refine Kept.set_alm _ ?_ (Foot.part_of_le hf (by decide +kernel : Foot.part _ .alm = true)))

theorem Kept.pllLost {f : Foot} {s x : State} (h : Kept f s x) (hf : Foot.le ⟨false, [0x00, 0x02, 0x04, 0x05, 0x06, 0x07, 0x08, 0x09, 0x0B, 0x0C, 0x0E, 0x10, 0x15, 0x1B], [], [.gddr, .freeCtr, .pins, .flt, .lnk, .fcv, .fft, .trg, .acq, .neb, .dpy, .lod, .mem, .srv]⟩ f = true) (a0 : Nat) :
    Kept f s (State.pllLost x a0) := by
  unfold Sys2Proof.Machine.State.pllLost
  repeat' first
    | with_reducible assumption
    | with_reducible refine Kept.ite ?_ ?_
    | with_reducible refine Kept.put _ _ ?_ (Foot.word_of_le hf (by first | decide +kernel | (simp only [CLK_PLL_STAT.LOCKED, CLK_PLL_STAT.addr_win, CLK_PLL_STAT.SYNCED, CLK_PLL_STAT.LOST, CLK_PLL_STAT.LOSS_COUNT]; first | decide +kernel | (split <;> decide +kernel))))
    | with_reducible refine Kept.bump _ ?_ (Foot.word_of_le hf (by first | decide +kernel | (simp only [CLK_PLL_STAT.LOCKED, CLK_PLL_STAT.addr_win, CLK_PLL_STAT.SYNCED, CLK_PLL_STAT.LOST, CLK_PLL_STAT.LOSS_COUNT]; first | decide +kernel | (split <;> decide +kernel))))
    | with_reducible refine Kept.fltFatal ?_ (Foot.le_trans (by decide +kernel) hf) _ _ _ _ _
    | with_reducible refine Kept.lodClockLost ?_ (Foot.le_trans (by decide +kernel) hf)
    | with_reducible refine Kept.fltRec ?_ (Foot.le_trans (by decide +kernel) hf) _ _ _ _ _ _
    | with_reducible refine Kept.dpyPllLost ?_ (Foot.le_trans (by decide +kernel) hf)
    | with_reducible refine Kept.lpllLost ?_ (Foot.le_trans (by decide +kernel) hf) _

theorem Kept.execDivArm {f : Foot} {s x : State} (h : Kept f s x) (hf : Foot.le ⟨false, [0x00, 0x02], [], [.resp, .sys]⟩ f = true) (a0 : Source) (a1 : Word) :
    ∃ t, execDivArm a0 a1 x = .next t ∧ Kept f s t := by
  unfold Sys2Proof.Machine.execDivArm
  refine ⟨_, rfl, ?_⟩
  repeat' first
    | with_reducible assumption
    | with_reducible refine Kept.writeReg ?_ (fun y b0 b1 b2 => Kept.clkRules (Kept.refl _ y) (Foot.le_trans (by decide +kernel) hf) b0 b1 b2) (Foot.word_of_le hf (by first | decide +kernel)) (Foot.word_of_le hf (by first | decide +kernel)) (Foot.word_of_le hf (by decide +kernel)) (Foot.part_of_le hf (by decide +kernel : Foot.part _ .resp = true)) (Foot.part_of_le hf (by decide +kernel : Foot.part _ .sys = true))

theorem Kept.execPllLock {f : Foot} {s x : State} (h : Kept f s x) (hf : Foot.le ⟨false, [0x00, 0x02, 0x0C, 0x0E, 0x14, 0x15, 0x1A, 0x1B], [0x14], [.alm, .neb, .dpy, .boot]⟩ f = true) (a0 : Fin 9) :
    ∃ t, execPllLock a0 x = .next t ∧ Kept f s t := by
  unfold Sys2Proof.Machine.execPllLock
  refine ⟨_, rfl, ?_⟩
  repeat' first
    | with_reducible assumption
    | with_reducible refine Kept.ite ?_ ?_
    | with_reducible refine Kept.recSettle ?_ (Foot.le_trans (by decide +kernel) hf)
    | with_reducible refine Kept.pllLocked ?_ (Foot.le_trans (by decide +kernel) hf) _

theorem Kept.execPllLoss {f : Foot} {s x : State} (h : Kept f s x) (hf : Foot.le ⟨false, [0x00, 0x02, 0x04, 0x05, 0x06, 0x07, 0x08, 0x09, 0x0B, 0x0C, 0x0E, 0x10, 0x15, 0x1B], [], [.gddr, .freeCtr, .pins, .flt, .lnk, .fcv, .fft, .trg, .acq, .neb, .dpy, .lod, .mem, .srv]⟩ f = true) (a0 : Fin 9) :
    ∃ t, execPllLoss a0 x = .next t ∧ Kept f s t := by
  unfold Sys2Proof.Machine.execPllLoss
  refine ⟨_, rfl, ?_⟩
  repeat' first
    | with_reducible assumption
    | with_reducible refine Kept.ite ?_ ?_
    | with_reducible refine Kept.pllLost ?_ (Foot.le_trans (by decide +kernel) hf) _

theorem Kept.execPllRetuneTimeout {f : Foot} {s x : State} (h : Kept f s x) (hf : Foot.le ⟨false, [0x00, 0x02, 0x04, 0x05, 0x06, 0x07, 0x08, 0x09, 0x0B, 0x0C, 0x0E, 0x10, 0x15, 0x1B], [], [.gddr, .freeCtr, .pins, .flt, .alm, .lnk, .fcv, .fft, .trg, .acq, .neb, .dpy, .lod, .mem, .srv]⟩ f = true) (a0 : Fin 9) :
    ∃ t, execPllRetuneTimeout a0 x = .next t ∧ Kept f s t := by
  unfold Sys2Proof.Machine.execPllRetuneTimeout
  refine ⟨_, rfl, ?_⟩
  repeat' first
    | with_reducible assumption
    | with_reducible refine Kept.ite ?_ ?_
    | with_reducible refine Kept.pllLost ?_ (Foot.le_trans (by decide +kernel) hf) _
    | intro y
    | lift_lets
    | with_reducible exact Kept.set_alm _ (by with_reducible assumption) (Foot.part_of_le hf (by decide +kernel : Foot.part _ .alm = true))

theorem Kept.execXtalLoss {f : Foot} {s x : State} (h : Kept f s x) (hf : Foot.le ⟨false, [0x00, 0x03, 0x15, 0x1B], [], [.pins, .flt]⟩ f = true) :
    ∃ t, execXtalLoss x = .next t ∧ Kept f s t := by
  unfold Sys2Proof.Machine.execXtalLoss
  refine ⟨_, rfl, ?_⟩
  repeat' first
    | with_reducible assumption
    | with_reducible refine Kept.ite ?_ ?_
    | with_reducible refine Kept.fltFatal ?_ (Foot.le_trans (by decide +kernel) hf) _ _ _ _ _
    | with_reducible refine Kept.put _ _ ?_ (Foot.word_of_le hf (by first | decide +kernel))

end Sys2Proof.Machine
end

