-- ==== Sys2Proof/Laws/KeptUpdate.lean ====
section
/-! SUPPORT. What the operations of Sys2Proof/Machine/Update.lean change. -/

set_option Elab.async false

set_option linter.all false

namespace Sys2Proof.Machine

theorem Kept.copySelected {f : Foot} {s x : State} (h : Kept f s x) (hf : Foot.le ⟨false, [], [0x00, 0x01, 0x02, 0x03, 0x04, 0x05, 0x06, 0x07, 0x08, 0x09, 0x0A, 0x0B, 0x0C, 0x0D, 0x0E, 0x0F, 0x10, 0x11, 0x12, 0x13, 0x14, 0x15, 0x16, 0x17, 0x18, 0x19, 0x1A, 0x1B], []⟩ f = true) (a0 : Word) :
    Kept f s (State.copySelected x a0) := by
  have ha : ∀ k < 28, f.app k = true := fun k hk => Foot.app_of_le hf (by revert k; decide +kernel)
  unfold Sys2Proof.Machine.State.copySelected
  refine Kept.foldl _ (fun y b hy => ?_) h
  have h1 := Kept.applyBlock hy b (fun a hb => ha _ (addrsOfBlock_windows b a hb))
  exact Kept.ite (Kept.setAppWord _ _ h1 (ha _ (by decide))) h1

theorem Kept.applyEdge {f : Foot} {s x : State} (h : Kept f s x) (hf : Foot.le ⟨false, [0x00, 0x02, 0x03, 0x04, 0x05, 0x06, 0x07, 0x08, 0x09, 0x0A, 0x0B, 0x0C, 0x10, 0x12, 0x13, 0x15, 0x16, 0x17, 0x18, 0x19, 0x1B], [0x00, 0x01, 0x02, 0x03, 0x04, 0x05, 0x06, 0x07, 0x08, 0x09, 0x0A, 0x0B, 0x0C, 0x0D, 0x0E, 0x0F, 0x10, 0x11, 0x12, 0x13, 0x14, 0x15, 0x16, 0x17, 0x18, 0x19, 0x1A, 0x1B], [.sram, .gddr, .freeCtr, .pins, .sys, .flt, .alm, .lnk, .fcv, .ddc, .fft, .trg, .acq, .neb, .lod, .dma, .spt, .mem, .aux, .srv, .cst]⟩ f = true) (a0 : Word) (a1 : Bool) :
    Kept f s (State.applyEdge x a0 a1) := by
  unfold Sys2Proof.Machine.State.applyEdge
  repeat' first
    | with_reducible assumption
    | with_reducible refine Kept.copySelected ?_ (Foot.le_trans (by decide +kernel) hf) _
    | with_reducible refine Kept.lnkBefore ?_ (Foot.le_trans (by decide +kernel) hf) _
    | with_reducible refine Kept.trgApply ?_ (Foot.le_trans (by decide +kernel) hf) _
    | with_reducible refine Kept.fftApply ?_ (Foot.le_trans (by decide +kernel) hf) _
    | with_reducible refine Kept.ddcApply ?_ (Foot.le_trans (by decide +kernel) hf) _ _
    | with_reducible refine Kept.fcvApply ?_ (Foot.le_trans (by decide +kernel) hf) _
    | with_reducible refine Kept.lnkAfter ?_ (Foot.le_trans (by decide +kernel) hf) _
    | with_reducible refine Kept.sptApply ?_ (Foot.le_trans (by decide +kernel) hf) _
    | with_reducible refine Kept.chkApply ?_ (Foot.le_trans (by decide +kernel) hf) _
    | with_reducible refine Kept.dmaApply ?_ (Foot.le_trans (by decide +kernel) hf)
    | with_reducible refine Kept.lodApply ?_ (Foot.le_trans (by decide +kernel) hf) _
    | with_reducible refine Kept.nebApply ?_ (Foot.le_trans (by decide +kernel) hf) _
    | with_reducible refine Kept.acqApply ?_ (Foot.le_trans (by decide +kernel) hf)
    | with_reducible refine Kept.cstApply ?_ (Foot.le_trans (by decide +kernel) hf) _
    | with_reducible refine Kept.clkApply ?_ (Foot.le_trans (by decide +kernel) hf) _
    | with_reducible refine Kept.almApply ?_ (Foot.le_trans (by decide +kernel) hf) _
    | with_reducible refine Kept.srvApply ?_ (Foot.le_trans (by decide +kernel) hf) _
    | with_reducible refine Kept.auxApply ?_ (Foot.le_trans (by decide +kernel) hf) _
    | with_reducible refine Kept.bumpWrap _ ?_ (Foot.word_of_le hf (by first | decide +kernel))
    | with_reducible refine Kept.put _ _ ?_ (Foot.word_of_le hf (by first | decide +kernel))
    | with_reducible refine Kept.putB _ _ ?_ (Foot.word_of_le hf (by first | decide +kernel))
    | with_reducible refine Kept.putStamp _ _ ?_ (Foot.word_of_le hf (by first | decide +kernel)) (Foot.word_of_le hf (by first | decide +kernel)) (Foot.word_of_le hf (by first | decide +kernel))
    | with_reducible refine Kept.capacityRerun ?_ (Foot.le_trans (by decide +kernel) hf) _
    | intro y
    | lift_lets
    | fail_if_no_progress (with_reducible refine Kept.set_sys _ ?_ (Foot.part_of_le hf (by decide +kernel : Foot.part _ .sys = true)) (by first | exact fun q => q | (intro q; simp only [List.length_drop, List.length_tail, List.length_map, List.length_nil] at *; omega) | (intro q; simp at *; omega)))

theorem Kept.updateBegin {f : Foot} {s x : State} (h : Kept f s x) (hf : Foot.le ⟨false, [0x00], [], [.sys]⟩ f = true) (a0 : Word) (a1 : Source) (a2 : Bool) (a3 : Bool) (a4 : Bool) :
    Kept f s (State.updateBegin x a0 a1 a2 a3 a4) := by
  unfold Sys2Proof.Machine.State.updateBegin
  repeat' first
    | with_reducible assumption
    | with_reducible refine Kept.put _ _ ?_ (Foot.word_of_le hf (by first | decide +kernel))
    | (intro y; refine (fun hy : Kept f s y => ?_) ?_ <;> [clear_value y; skip])
    | intro y
    | lift_lets
    | with_reducible exact Kept.set_sys _ (by with_reducible assumption) (Foot.part_of_le hf (by decide +kernel : Foot.part _ .sys = true)) (by first | exact fun q => q | (intro q; simp only [List.length_drop, List.length_tail, List.length_map, List.length_nil] at *; omega) | (intro q; simp at *; omega))

theorem Kept.sysRules {f : Foot} {s x : State} (h : Kept f s x) (hf : Foot.le ⟨false, [0x00], [], [.sys]⟩ f = true) (b0 : Source) (b1 : Nat) (b2 : Word) :
    Kept.res f s (sysRules.act b0 b1 b2 x) := by
  unfold Sys2Proof.Machine.sysRules
  repeat' first
    | with_reducible assumption
    | with_reducible refine Kept.res_ite ?_ ?_
    | with_reducible refine Kept.res_ok ?_
    | with_reducible exact Kept.res_error _ _ _
    | with_reducible refine Kept.updateBegin ?_ (Foot.le_trans (by decide +kernel) hf) _ _ _ _ _
    | with_reducible refine Kept.put _ _ ?_ (Foot.word_of_le hf (by first | decide +kernel))
    | intro y
    | lift_lets
    | with_reducible exact Kept.set_sys _ (by with_reducible assumption) (Foot.part_of_le hf (by decide +kernel : Foot.part _ .sys = true)) (by first | exact fun q => q | (intro q; simp only [List.length_drop, List.length_tail, List.length_map, List.length_nil] at *; omega) | (intro q; simp at *; omega))

theorem Kept.updateRefused {f : Foot} {s x : State} (h : Kept f s x) (hf : Foot.le ⟨false, [0x00], [], [.sys]⟩ f = true) (a0 : Err) :
    Kept f s (State.updateRefused x a0) := by
  unfold Sys2Proof.Machine.State.updateRefused
  repeat' first
    | with_reducible assumption
    | with_reducible refine Kept.refuseOp ?_ (Foot.le_trans (by decide +kernel) hf) _ _ _ _ (Foot.word_of_le hf (by first | decide +kernel))
    | with_reducible refine Kept.put _ _ ?_ (Foot.word_of_le hf (by first | decide +kernel))

theorem Kept.capacityChanged {f : Foot} {s x : State} (h : Kept f s x) (hf : Foot.le ⟨false, [0x00, 0x15, 0x1B], [], [.sys, .flt]⟩ f = true) (a0 : Bool) :
    Kept f s (State.capacityChanged x a0) := by
  unfold Sys2Proof.Machine.State.capacityChanged
  repeat' first
    | with_reducible assumption
    | with_reducible refine Kept.ite ?_ ?_
    | with_reducible refine Kept.capacityRerun ?_ (Foot.le_trans (by decide +kernel) hf) _
    | with_reducible refine Kept.admitWith ?_ (Foot.le_trans (by decide +kernel) hf) _ _
    | with_reducible refine Kept.updateRefused ?_ (Foot.le_trans (by decide +kernel) hf) _
    | intro y
    | split
    | lift_lets

theorem Kept.verdict {f : Foot} {s x : State} (h : Kept f s x) (hf : Foot.le ⟨false, [0x00, 0x02, 0x03, 0x04, 0x05, 0x06, 0x07, 0x08, 0x09, 0x0A, 0x0B, 0x0C, 0x10, 0x12, 0x13, 0x15, 0x16, 0x17, 0x18, 0x19, 0x1B], [0x00, 0x01, 0x02, 0x03, 0x04, 0x05, 0x06, 0x07, 0x08, 0x09, 0x0A, 0x0B, 0x0C, 0x0D, 0x0E, 0x0F, 0x10, 0x11, 0x12, 0x13, 0x14, 0x15, 0x16, 0x17, 0x18, 0x19, 0x1A, 0x1B], [.sram, .gddr, .freeCtr, .pins, .sys, .flt, .alm, .lnk, .fcv, .ddc, .fft, .trg, .acq, .neb, .lod, .dma, .spt, .mem, .aux, .srv, .cst]⟩ f = true) :
    Kept f s (State.verdict x) := by
  unfold Sys2Proof.Machine.State.verdict
  repeat' first
    | with_reducible assumption
    | with_reducible refine Kept.ite ?_ ?_
    | with_reducible refine Kept.admitWith ?_ (Foot.le_trans (by decide +kernel) hf) _ _
    | with_reducible refine Kept.put _ _ ?_ (Foot.word_of_le hf (by first | decide +kernel))
    | with_reducible refine Kept.updateRefused ?_ (Foot.le_trans (by decide +kernel) hf) _
    | with_reducible refine Kept.winCheck ?_ (Foot.le_trans (by decide +kernel) hf) _
    | with_reducible refine Kept.applyEdge ?_ (Foot.le_trans (by decide +kernel) hf) _ _
    | (intro y; refine (fun hy : Kept f s y => ?_) ?_ <;> [clear_value y; skip])
    | intro y
    | split
    | lift_lets

theorem Kept.execAdmissionVerdict {f : Foot} {s x : State} (h : Kept f s x) (hf : Foot.le ⟨false, [0x00, 0x02, 0x03, 0x04, 0x05, 0x06, 0x07, 0x08, 0x09, 0x0A, 0x0B, 0x0C, 0x10, 0x12, 0x13, 0x15, 0x16, 0x17, 0x18, 0x19, 0x1A, 0x1B], [0x00, 0x01, 0x02, 0x03, 0x04, 0x05, 0x06, 0x07, 0x08, 0x09, 0x0A, 0x0B, 0x0C, 0x0D, 0x0E, 0x0F, 0x10, 0x11, 0x12, 0x13, 0x14, 0x15, 0x16, 0x17, 0x18, 0x19, 0x1A, 0x1B], [.sram, .gddr, .freeCtr, .pins, .sys, .flt, .alm, .lnk, .fcv, .ddc, .fft, .trg, .acq, .neb, .lod, .dma, .spt, .mem, .aux, .srv, .cst, .boot]⟩ f = true) :
    ∃ t, execAdmissionVerdict x = .next t ∧ Kept f s t := by
  unfold Sys2Proof.Machine.execAdmissionVerdict
  refine ⟨_, rfl, ?_⟩
  repeat' first
    | with_reducible assumption
    | with_reducible refine Kept.ite ?_ ?_
    | with_reducible refine Kept.recSettle ?_ (Foot.le_trans (by decide +kernel) hf)
    | with_reducible refine Kept.verdict ?_ (Foot.le_trans (by decide +kernel) hf)

theorem Kept.execCfgcrcRefWrite {f : Foot} {s x : State} (h : Kept f s x) (hf : Foot.le ⟨false, [0x00], [], [.resp, .sys]⟩ f = true) (a0 : Source) (a1 : Word) :
    ∃ t, execCfgcrcRefWrite a0 a1 x = .next t ∧ Kept f s t := by
  unfold Sys2Proof.Machine.execCfgcrcRefWrite
  refine ⟨_, rfl, ?_⟩
  repeat' first
    | with_reducible assumption
    | with_reducible refine Kept.writeReg ?_ (fun y b0 b1 b2 => Kept.sysRules (Kept.refl _ y) (Foot.le_trans (by decide +kernel) hf) b0 b1 b2) (Foot.word_of_le hf (by first | decide +kernel)) (Foot.word_of_le hf (by first | decide +kernel)) (Foot.word_of_le hf (by decide +kernel)) (Foot.part_of_le hf (by decide +kernel : Foot.part _ .resp = true)) (Foot.part_of_le hf (by decide +kernel : Foot.part _ .sys = true))

theorem Kept.execErrLogPop {f : Foot} {s x : State} (h : Kept f s x) (hf : Foot.le ⟨false, [0x00], [], [.resp, .sys]⟩ f = true) (a0 : Source) (a1 : Word) :
    ∃ t, execErrLogPop a0 a1 x = .next t ∧ Kept f s t := by
  unfold Sys2Proof.Machine.execErrLogPop
  refine ⟨_, rfl, ?_⟩
  repeat' first
    | with_reducible assumption
    | with_reducible refine Kept.writeReg ?_ (fun y b0 b1 b2 => Kept.sysRules (Kept.refl _ y) (Foot.le_trans (by decide +kernel) hf) b0 b1 b2) (Foot.word_of_le hf (by first | decide +kernel)) (Foot.word_of_le hf (by first | decide +kernel)) (Foot.word_of_le hf (by decide +kernel)) (Foot.part_of_le hf (by decide +kernel : Foot.part _ .resp = true)) (Foot.part_of_le hf (by decide +kernel : Foot.part _ .sys = true))

theorem Kept.execGuardPass {f : Foot} {s x : State} (h : Kept f s x) (hf : Foot.le ⟨false, [0x00, 0x1B], [], [.sys, .flt]⟩ f = true) :
    ∃ t, execGuardPass x = .next t ∧ Kept f s t := by
  unfold Sys2Proof.Machine.execGuardPass
  refine ⟨_, rfl, ?_⟩
  repeat' first
    | with_reducible assumption
    | with_reducible refine Kept.ite ?_ ?_
    | with_reducible refine Kept.bumpWrap _ ?_ (Foot.word_of_le hf (by first | decide +kernel))
    | with_reducible refine Kept.setWord _ _ ?_ (Foot.word_of_le hf (by first | decide +kernel))
    | with_reducible refine Kept.put _ _ ?_ (Foot.word_of_le hf (by first | decide +kernel))
    | with_reducible refine Kept.fltInfo ?_ (Foot.le_trans (by decide +kernel) hf) _ _ _ _ _
    | (intro y; refine (fun hy : Kept f s y => ?_) ?_ <;> [clear_value y; skip])
    | intro y
    | lift_lets
    | with_reducible exact Kept.set_sys _ (by with_reducible assumption) (Foot.part_of_le hf (by decide +kernel : Foot.part _ .sys = true)) (by first | exact fun q => q | (intro q; simp only [List.length_drop, List.length_tail, List.length_map, List.length_nil] at *; omega) | (intro q; simp at *; omega))
    | fail_if_no_progress (with_reducible refine Kept.set_sys _ ?_ (Foot.part_of_le hf (by decide +kernel : Foot.part _ .sys = true)) (by first | exact fun q => q | (intro q; simp only [List.length_drop, List.length_tail, List.length_map, List.length_nil] at *; omega) | (intro q; simp at *; omega)))

theorem Kept.execTimedApply {f : Foot} {s x : State} (h : Kept f s x) (hf : Foot.le ⟨false, [0x00, 0x02, 0x03, 0x04, 0x05, 0x06, 0x07, 0x08, 0x09, 0x0A, 0x0B, 0x0C, 0x10, 0x12, 0x13, 0x15, 0x16, 0x17, 0x18, 0x19, 0x1B], [0x00, 0x01, 0x02, 0x03, 0x04, 0x05, 0x06, 0x07, 0x08, 0x09, 0x0A, 0x0B, 0x0C, 0x0D, 0x0E, 0x0F, 0x10, 0x11, 0x12, 0x13, 0x14, 0x15, 0x16, 0x17, 0x18, 0x19, 0x1A, 0x1B], [.sram, .gddr, .freeCtr, .pins, .sys, .flt, .alm, .lnk, .fcv, .ddc, .fft, .trg, .acq, .neb, .lod, .dma, .spt, .mem, .aux, .srv, .cst]⟩ f = true) :
    ∃ t, execTimedApply x = .next t ∧ Kept f s t := by
  unfold Sys2Proof.Machine.execTimedApply
  refine ⟨_, rfl, ?_⟩
  repeat' first
    | with_reducible assumption
    | with_reducible refine Kept.ite ?_ ?_
    | with_reducible refine Kept.applyEdge ?_ (Foot.le_trans (by decide +kernel) hf) _ _

theorem Kept.execUpdateCancel {f : Foot} {s x : State} (h : Kept f s x) (hf : Foot.le ⟨false, [0x00], [], [.resp, .sys]⟩ f = true) (a0 : Source) (a1 : Word) :
    ∃ t, execUpdateCancel a0 a1 x = .next t ∧ Kept f s t := by
  unfold Sys2Proof.Machine.execUpdateCancel
  refine ⟨_, rfl, ?_⟩
  repeat' first
    | with_reducible assumption
    | with_reducible refine Kept.writeReg ?_ (fun y b0 b1 b2 => Kept.sysRules (Kept.refl _ y) (Foot.le_trans (by decide +kernel) hf) b0 b1 b2) (Foot.word_of_le hf (by first | decide +kernel)) (Foot.word_of_le hf (by first | decide +kernel)) (Foot.word_of_le hf (by decide +kernel)) (Foot.part_of_le hf (by decide +kernel : Foot.part _ .resp = true)) (Foot.part_of_le hf (by decide +kernel : Foot.part _ .sys = true))

theorem Kept.execUpdateStrobe {f : Foot} {s x : State} (h : Kept f s x) (hf : Foot.le ⟨false, [0x00], [], [.resp, .sys]⟩ f = true) (a0 : Source) (a1 : Word) :
    ∃ t, execUpdateStrobe a0 a1 x = .next t ∧ Kept f s t := by
  unfold Sys2Proof.Machine.execUpdateStrobe
  refine ⟨_, rfl, ?_⟩
  repeat' first
    | with_reducible assumption
    | with_reducible refine Kept.writeReg ?_ (fun y b0 b1 b2 => Kept.sysRules (Kept.refl _ y) (Foot.le_trans (by decide +kernel) hf) b0 b1 b2) (Foot.word_of_le hf (by first | decide +kernel)) (Foot.word_of_le hf (by first | decide +kernel)) (Foot.word_of_le hf (by decide +kernel)) (Foot.part_of_le hf (by decide +kernel : Foot.part _ .resp = true)) (Foot.part_of_le hf (by decide +kernel : Foot.part _ .sys = true))

end Sys2Proof.Machine
end

