-- ==== Sys2Proof/Laws/KeptPower.lean ====
section
/-! SUPPORT. What the operations of Sys2Proof/Machine/Power.lean change. -/

set_option Elab.async false

set_option linter.all false

namespace Sys2Proof.Machine

theorem Kept.set_pwr_pins {f : Foot} {s x : State} (v : PwrSt) (w : Pins) (h : Kept f s x) (hp : f.part .pwr = true)
    (ha : f.part .pins = true) : Kept f s { x with pwr := v, pins := w } :=
  Kept.set_pins (x := { x with pwr := v }) w (Kept.set_pwr v h hp) ha

theorem Kept.setDom {f : Foot} {s x : State} (h : Kept f s x) (hf : Foot.le ⟨false, [0x01], [], [.sys]⟩ f = true) (a0 : Nat) (a1 : Nat) :
    Kept f s (State.setDom x a0 a1) := by
  unfold Sys2Proof.Machine.State.setDom
  repeat' first
    | with_reducible assumption
    | with_reducible refine Kept.put _ _ ?_ (Foot.word_of_le hf (by first | decide +kernel | (simp only [PWR_DOM_STAT.STATE, PWR_DOM_STAT.addr_win]; first | decide +kernel | (split <;> decide +kernel))))
    | (intro y; refine (fun hy : Kept f s y => ?_) ?_ <;> [clear_value y; skip])
    | intro y
    | lift_lets
    | with_reducible exact Kept.set_sys _ (by with_reducible assumption) (Foot.part_of_le hf (by decide +kernel : Foot.part _ .sys = true)) (by first | exact fun q => q | (intro q; simp only [List.length_drop, List.length_tail, List.length_map, List.length_nil] at *; omega) | (intro q; simp at *; omega))

theorem Kept.blocksForget {f : Foot} {s x : State} (h : Kept f s x) (hf : Foot.le ⟨false, [0x14], [], [.gddr, .pins, .ddc, .fft, .trg, .acq, .neb, .dpy, .lod, .dma, .spt, .mem, .aux, .srv]⟩ f = true) (a0 : Nat) :
    Kept f s (State.blocksForget x a0) := by
  unfold Sys2Proof.Machine.State.blocksForget
  repeat' first
    | with_reducible assumption
    | with_reducible exact Kept.set_gddr _ (by with_reducible assumption) (Foot.part_of_le hf (by decide +kernel : Foot.part _ .gddr = true)) (fun _ => rfl)
    | with_reducible refine Kept.ite ?_ ?_
    | with_reducible refine Kept.lodDomain ?_ (Foot.le_trans (by decide +kernel) hf) _
    | with_reducible refine Kept.memDomain ?_ (Foot.le_trans (by decide +kernel) hf) _
    | with_reducible refine Kept.put _ _ ?_ (Foot.word_of_le hf (by first | decide +kernel))
    | (intro y; refine (fun hy : Kept f s y => ?_) ?_ <;> [clear_value y; skip])
    | intro y
    | split
    | lift_lets
    | with_reducible exact Kept.set_ddc _ (by with_reducible assumption) (Foot.part_of_le hf (by decide +kernel : Foot.part _ .ddc = true))
    | with_reducible exact Kept.set_fft _ (by with_reducible assumption) (Foot.part_of_le hf (by decide +kernel : Foot.part _ .fft = true))
    | with_reducible exact Kept.set_trg _ (by with_reducible assumption) (Foot.part_of_le hf (by decide +kernel : Foot.part _ .trg = true))
    | with_reducible exact Kept.set_neb _ (by with_reducible assumption) (Foot.part_of_le hf (by decide +kernel : Foot.part _ .neb = true))
    | with_reducible exact Kept.set_dpy _ (by with_reducible assumption) (Foot.part_of_le hf (by decide +kernel : Foot.part _ .dpy = true))
    | with_reducible exact Kept.set_srv_aux _ _ (by with_reducible assumption) (Foot.part_of_le hf (by decide +kernel : Foot.part _ .srv = true)) (Foot.part_of_le hf (by decide +kernel : Foot.part _ .aux = true))
    | with_reducible exact Kept.set_spt_pins _ _ (by with_reducible assumption) (Foot.part_of_le hf (by decide +kernel : Foot.part _ .spt = true)) (Foot.part_of_le hf (by decide +kernel : Foot.part _ .pins = true))
    | with_reducible exact Kept.set_acq_dma _ _ (by with_reducible assumption) (Foot.part_of_le hf (by decide +kernel : Foot.part _ .acq = true)) (Foot.part_of_le hf (by decide +kernel : Foot.part _ .dma = true))

theorem Kept.domainDead {f : Foot} {s x : State} (h : Kept f s x) (hf : Foot.le ⟨true, [], [], [.latch, .gddr, .pins, .sys, .pwr, .ddc, .fft, .trg, .acq, .neb, .dpy, .lod, .dma, .hpt, .spt, .mem, .aux, .srv]⟩ f = true) (a0 : Nat) :
    Kept f s (State.domainDead x a0) := by
  unfold Sys2Proof.Machine.State.domainDead
  repeat' first
    | with_reducible assumption
    | with_reducible refine Kept.ite ?_ ?_
    | with_reducible refine Kept.drivesGone ?_ (Foot.le_trans (by decide +kernel) hf)
    | with_reducible refine Kept.setDom ?_ (Foot.le_trans (by decide +kernel) hf) _ _
    | with_reducible refine Kept.hptReset ?_ (Foot.le_trans (by decide +kernel) hf)
    | with_reducible refine Kept.resetReg ?_ _ (Foot.word_of_le hf rfl) (Foot.app_of_le hf rfl) (Foot.part_of_le hf (by decide +kernel : Foot.part _ .latch = true))
    | with_reducible refine Kept.blocksForget ?_ (Foot.le_trans (by decide +kernel) hf) _
    | with_reducible refine Kept.foldl _ (fun y b hy => ?_) ?_
    | intro y
    | split
    | lift_lets
    | fail_if_no_progress (with_reducible refine Kept.set_pwr _ ?_ (Foot.part_of_le hf (by decide +kernel : Foot.part _ .pwr = true)))

theorem Kept.powerUp {f : Foot} {s x : State} (h : Kept f s x) (hf : Foot.le ⟨false, [0x01], [], [.sys]⟩ f = true) (a0 : Nat) :
    Kept f s (State.powerUp x a0) := by
  unfold Sys2Proof.Machine.State.powerUp
  repeat' first
    | with_reducible assumption
    | with_reducible refine Kept.setDom ?_ (Foot.le_trans (by decide +kernel) hf) _ _

theorem Kept.downRefused {f : Foot} {s x : State} (h : Kept f s x) (hf : Foot.le ⟨false, [0x00, 0x01], [], [.sys]⟩ f = true) (a0 : Nat) (a1 : Source) (a2 : Err) :
    Kept f s (State.downRefused x a0 a1 a2) := by
  unfold Sys2Proof.Machine.State.downRefused
  repeat' first
    | with_reducible assumption
    | with_reducible refine Kept.refuseOp ?_ (Foot.le_trans (by decide +kernel) hf) _ _ _ _ (Foot.word_of_le hf (by first | decide +kernel | (simp only [PWR_DOM_STAT.LAST_CODE, PWR_DOM_STAT.addr_win]; first | decide +kernel | (split <;> decide +kernel))))
    | with_reducible refine Kept.put _ _ ?_ (Foot.word_of_le hf (by first | decide +kernel | (simp only [PWR_DOM_STAT.LAST_CODE, PWR_DOM_STAT.addr_win]; first | decide +kernel | (split <;> decide +kernel))))

theorem Kept.switchOff {f : Foot} {s x : State} (h : Kept f s x) (hf : Foot.le ⟨false, [0x00, 0x01, 0x04, 0x08, 0x09, 0x12, 0x13, 0x14, 0x15, 0x16, 0x1B], [0x15], [.latch, .sram, .gddr, .freeCtr, .pins, .sys, .flt, .pwr, .lnk, .fft, .acq, .dma, .hpt, .spt, .mem]⟩ f = true) (a0 : Nat) (a1 : Progress) :
    Kept f s (State.switchOff x a0 a1) := by
  unfold Sys2Proof.Machine.State.switchOff
  repeat' first
    | with_reducible assumption
    | fail_if_no_progress (with_reducible refine Kept.set_pwr_pins _ _ ?_ (Foot.part_of_le hf (by decide +kernel : Foot.part _ .pwr = true)) (Foot.part_of_le hf (by decide +kernel : Foot.part _ .pins = true)))
    | with_reducible refine Kept.ite ?_ ?_
    | with_reducible refine Kept.put _ _ ?_ (Foot.word_of_le hf (by first | decide +kernel | (simp only [PWR_DOM_STAT.LAST_CODE, PWR_DOM_STAT.addr_win]; first | decide +kernel | (split <;> decide +kernel))))
    | with_reducible refine Kept.setDom ?_ (Foot.le_trans (by decide +kernel) hf) _ _
    | with_reducible refine Kept.hostDown ?_ (Foot.le_trans (by decide +kernel) hf) _
    | with_reducible refine Kept.hptReset ?_ (Foot.le_trans (by decide +kernel) hf)
    | with_reducible refine Kept.lanesFollow ?_ (Foot.le_trans (by decide +kernel) hf)
    | with_reducible refine Kept.fftDomain ?_ (Foot.le_trans (by decide +kernel) hf) _ _
    | with_reducible refine Kept.capacityChanged ?_ (Foot.le_trans (by decide +kernel) hf) _
    | split

theorem Kept.forceOff {f : Foot} {s x : State} (h : Kept f s x) (hf : Foot.le ⟨false, [0x00, 0x01, 0x04, 0x08, 0x09, 0x12, 0x13, 0x14, 0x15, 0x16, 0x1B], [0x15], [.latch, .sram, .gddr, .freeCtr, .pins, .sys, .flt, .pwr, .lnk, .fft, .acq, .dma, .hpt, .spt, .mem]⟩ f = true) (a0 : Nat) (a1 : Progress) :
    Kept f s (State.forceOff x a0 a1) := by
  unfold Sys2Proof.Machine.State.forceOff
  repeat' first
    | with_reducible assumption
    | with_reducible refine Kept.dmaForced ?_ (Foot.le_trans (by decide +kernel) hf) _ _
    | with_reducible refine Kept.switchOff ?_ (Foot.le_trans (by decide +kernel) hf) _ _
    | with_reducible refine Kept.fltInfo ?_ (Foot.le_trans (by decide +kernel) hf) _ _ _ _ _
    | with_reducible refine Kept.bump _ ?_ (Foot.word_of_le hf (by first | decide +kernel))

theorem Kept.holdIdle {f : Foot} {s x : State} (h : Kept f s x) (hf : Foot.le ⟨false, [0x12], [], [.pwr]⟩ f = true) (a0 : Nat) :
    Kept f s (State.holdIdle x a0) := by
  unfold Sys2Proof.Machine.State.holdIdle
  repeat' first
    | with_reducible assumption
    | with_reducible refine Kept.ite ?_ ?_
    | with_reducible refine Kept.setDma ?_ (Foot.le_trans (by decide +kernel) hf) _ _
    | with_reducible refine Kept.foldl _ (fun y b hy => ?_) ?_
    | (intro y; refine (fun hy : Kept f s y => ?_) ?_ <;> [clear_value y; skip])
    | intro y
    | lift_lets
    | with_reducible exact Kept.set_pwr _ (by with_reducible assumption) (Foot.part_of_le hf (by decide +kernel : Foot.part _ .pwr = true))

theorem Kept.downGo {f : Foot} {s x : State} (h : Kept f s x) (hf : Foot.le ⟨false, [0x00, 0x01, 0x04, 0x08, 0x09, 0x12, 0x13, 0x14, 0x15, 0x16, 0x1B], [0x15], [.latch, .sram, .gddr, .freeCtr, .pins, .sys, .flt, .pwr, .lnk, .fft, .acq, .dma, .hpt, .spt, .mem]⟩ f = true) (a0 : Nat) (a1 : Source) (a2 : Bool) (a3 : Progress) :
    Kept f s (State.downGo x a0 a1 a2 a3) := by
  unfold Sys2Proof.Machine.State.downGo
  repeat' first
    | with_reducible assumption
    | with_reducible refine Kept.ite ?_ ?_
    | with_reducible refine Kept.admitWith ?_ (Foot.le_trans (by decide +kernel) hf) _ _
    | with_reducible refine Kept.downRefused ?_ (Foot.le_trans (by decide +kernel) hf) _ _ _
    | with_reducible refine Kept.forceOff ?_ (Foot.le_trans (by decide +kernel) hf) _ _
    | with_reducible refine Kept.holdIdle ?_ (Foot.le_trans (by decide +kernel) hf) _
    | with_reducible refine Kept.setDom ?_ (Foot.le_trans (by decide +kernel) hf) _ _
    | (intro y; refine (fun hy : Kept f s y => ?_) ?_ <;> [clear_value y; skip])
    | intro y
    | split
    | lift_lets
    | dsimp only
    | with_reducible exact Kept.set_pwr _ (by with_reducible assumption) (Foot.part_of_le hf (by decide +kernel : Foot.part _ .pwr = true))

theorem Kept.pwrCmd {f : Foot} {s x : State} (h : Kept f s x) (hf : Foot.le ⟨false, [0x00, 0x01, 0x04, 0x08, 0x09, 0x12, 0x13, 0x14, 0x15, 0x16, 0x1B], [0x15], [.latch, .sram, .gddr, .freeCtr, .pins, .sys, .flt, .pwr, .lnk, .fft, .acq, .dma, .hpt, .spt, .mem]⟩ f = true) (a0 : Nat) (a1 : Source) (a2 : Word) (a3 : Progress) :
    Kept.res f s (State.pwrCmd x a0 a1 a2 a3) := by
  unfold Sys2Proof.Machine.State.pwrCmd
  repeat' first
    | with_reducible assumption
    | with_reducible refine Kept.ite ?_ ?_
    | with_reducible refine Kept.res_ite ?_ ?_
    | with_reducible refine Kept.res_ok ?_
    | with_reducible exact Kept.res_error _ _ _
    | with_reducible refine Kept.put _ _ ?_ (Foot.word_of_le hf (by first | decide +kernel | (simp only [PWR_DOM_STAT.LAST_CODE, PWR_DOM_STAT.addr_win, PWR_DOM_STAT.STOP_PENDING, PWR_DOM_STAT.RESTART_PENDING]; first | decide +kernel | (split <;> decide +kernel))))
    | with_reducible refine Kept.powerUp ?_ (Foot.le_trans (by decide +kernel) hf) _
    | with_reducible refine Kept.admitRunning ?_ (Foot.le_trans (by decide +kernel) hf)
    | with_reducible refine Kept.downGo ?_ (Foot.le_trans (by decide +kernel) hf) _ _ _ _
    | with_reducible refine Kept.forceOff ?_ (Foot.le_trans (by decide +kernel) hf) _ _
    | split
    | lift_lets
    | dsimp only
    | with_reducible exact Kept.set_pwr _ (by with_reducible assumption) (Foot.part_of_le hf (by decide +kernel : Foot.part _ .pwr = true))
    | fail_if_no_progress (with_reducible refine Kept.set_pwr _ ?_ (Foot.part_of_le hf (by decide +kernel : Foot.part _ .pwr = true)))

theorem Kept.pwrRules {f : Foot} {s x : State} (h : Kept f s x) (hf : Foot.le ⟨false, [0x00, 0x01, 0x04, 0x08, 0x09, 0x12, 0x13, 0x14, 0x15, 0x16, 0x1B], [0x15], [.latch, .sram, .gddr, .freeCtr, .pins, .sys, .flt, .pwr, .lnk, .fft, .acq, .dma, .hpt, .spt, .mem]⟩ f = true) (a0 : Progress) (b0 : Source) (b1 : Nat) (b2 : Word) :
    Kept.res f s ((pwrRules a0).act b0 b1 b2 x) := by
  unfold Sys2Proof.Machine.pwrRules
  repeat' first
    | with_reducible assumption
    | with_reducible refine Kept.res_ok ?_
    | with_reducible refine Kept.pwrCmd ?_ (Foot.le_trans (by decide +kernel) hf) _ _ _ _
    | split
    | dsimp only

theorem Kept.zeroSram {f : Foot} {s x : State} (h : Kept f s x) (hf : Foot.le ⟨false, [], [], [.sram]⟩ f = true) (a0 : Nat) (a1 : Nat) :
    Kept f s (State.zeroSram x a0 a1) := by
  unfold Sys2Proof.Machine.State.zeroSram
  repeat' first
    | with_reducible exact Kept.set_sram _ (by with_reducible assumption) (Foot.part_of_le hf (by decide +kernel : Foot.part _ .sram = true)) (fun q => by first | exact q | exact SMap.wf_set _ _ _ _ q | exact SMap.wf_filter _ _ _ q)

theorem Kept.zeroMemories {f : Foot} {s x : State} (h : Kept f s x) (hf : Foot.le ⟨false, [0x00, 0x15, 0x1B], [], [.sram, .flt]⟩ f = true) (a0 : Nat) :
    Kept f s (State.zeroMemories x a0) := by
  unfold Sys2Proof.Machine.State.zeroMemories
  repeat' first
    | with_reducible assumption
    | with_reducible refine Kept.unpoison ?_ (Foot.le_trans (by decide +kernel) hf) _ _
    | with_reducible refine Kept.zeroSram ?_ (Foot.le_trans (by decide +kernel) hf) _ _
    | with_reducible refine Kept.foldl _ (fun y b hy => ?_) ?_

theorem Kept.domainStarts {f : Foot} {s x : State} (h : Kept f s x) (hf : Foot.le ⟨false, [0x00, 0x04, 0x08, 0x09, 0x0C, 0x14, 0x15, 0x1B], [0x14], [.sram, .flt, .lnk]⟩ f = true) (a0 : Nat) :
    Kept f s (State.domainStarts x a0) := by
  unfold Sys2Proof.Machine.State.domainStarts
  repeat' first
    | with_reducible assumption
    | with_reducible refine Kept.ite ?_ ?_
    | with_reducible refine Kept.zeroMemories ?_ (Foot.le_trans (by decide +kernel) hf) _
    | with_reducible refine Kept.lanesFollow ?_ (Foot.le_trans (by decide +kernel) hf)
    | with_reducible refine Kept.memBegin ?_ (Foot.le_trans (by decide +kernel) hf)
    | with_reducible refine Kept.fftDomain ?_ (Foot.le_trans (by decide +kernel) hf) _ _
    | with_reducible refine Kept.putB _ _ ?_ (Foot.word_of_le hf (by first | decide +kernel))

theorem Kept.execDomainOff {f : Foot} {s x : State} (h : Kept f s x) (hf : Foot.le ⟨true, [], [], [.latch, .gddr, .pins, .sys, .pwr, .ddc, .fft, .trg, .acq, .neb, .dpy, .lod, .dma, .hpt, .spt, .mem, .aux, .srv]⟩ f = true) (a0 : Fin 24) :
    ∃ t, execDomainOff a0 x = .next t ∧ Kept f s t := by
  unfold Sys2Proof.Machine.execDomainOff
  refine ⟨_, rfl, ?_⟩
  repeat' first
    | with_reducible assumption
    | with_reducible refine Kept.ite ?_ ?_
    | with_reducible refine Kept.domainDead ?_ (Foot.le_trans (by decide +kernel) hf) _
    | with_reducible refine Kept.powerUp ?_ (Foot.le_trans (by decide +kernel) hf) _

theorem Kept.execDomainOn {f : Foot} {s x : State} (h : Kept f s x) (hf : Foot.le ⟨false, [0x00, 0x01, 0x04, 0x08, 0x09, 0x0C, 0x12, 0x13, 0x14, 0x15, 0x16, 0x1A, 0x1B], [0x14, 0x15], [.latch, .sram, .gddr, .freeCtr, .pins, .sys, .flt, .pwr, .lnk, .fft, .acq, .dma, .hpt, .spt, .mem, .boot]⟩ f = true) (a0 : Fin 24) (a1 : Progress) :
    ∃ t, execDomainOn a0 a1 x = .next t ∧ Kept f s t := by
  unfold Sys2Proof.Machine.execDomainOn
  refine ⟨_, rfl, ?_⟩
  repeat' first
    | with_reducible assumption
    | with_reducible refine Kept.ite ?_ ?_
    | with_reducible refine Kept.domainStarts ?_ (Foot.le_trans (by decide +kernel) hf) _
    | with_reducible refine Kept.put _ _ ?_ (Foot.word_of_le hf (by first | decide +kernel | (simp only [PWR_DOM_STAT.RESTART_PENDING, PWR_DOM_STAT.addr_win, PWR_DOM_STAT.STOP_PENDING]; first | decide +kernel | (split <;> decide +kernel))))
    | with_reducible refine Kept.setDom ?_ (Foot.le_trans (by decide +kernel) hf) _ _
    | with_reducible refine Kept.recSettle ?_ (Foot.le_trans (by decide +kernel) hf)
    | with_reducible refine Kept.capacityChanged ?_ (Foot.le_trans (by decide +kernel) hf) _
    | with_reducible refine Kept.downRefused ?_ (Foot.le_trans (by decide +kernel) hf) _ _ _
    | with_reducible refine Kept.downGo ?_ (Foot.le_trans (by decide +kernel) hf) _ _ _ _
    | (intro y; refine (fun hy : Kept f s y => ?_) ?_ <;> [clear_value y; skip])
    | intro y
    | split
    | lift_lets

theorem Kept.execDrainDone {f : Foot} {s x : State} (h : Kept f s x) (hf : Foot.le ⟨false, [0x00, 0x01, 0x04, 0x08, 0x09, 0x12, 0x13, 0x14, 0x15, 0x16, 0x1B], [0x15], [.latch, .sram, .gddr, .freeCtr, .pins, .sys, .flt, .pwr, .lnk, .fft, .acq, .dma, .hpt, .spt, .mem]⟩ f = true) (a0 : Fin 24) (a1 : Progress) :
    ∃ t, execDrainDone a0 a1 x = .next t ∧ Kept f s t := by
  unfold Sys2Proof.Machine.execDrainDone
  refine ⟨_, rfl, ?_⟩
  repeat' first
    | with_reducible assumption
    | with_reducible refine Kept.ite ?_ ?_
    | with_reducible refine Kept.switchOff ?_ (Foot.le_trans (by decide +kernel) hf) _ _

theorem Kept.execDrainTimeout {f : Foot} {s x : State} (h : Kept f s x) (hf : Foot.le ⟨false, [0x00, 0x01, 0x12], [], [.sys, .pwr]⟩ f = true) (a0 : Fin 24) :
    ∃ t, execDrainTimeout a0 x = .next t ∧ Kept f s t := by
  unfold Sys2Proof.Machine.execDrainTimeout
  refine ⟨_, rfl, ?_⟩
  repeat' first
    | with_reducible assumption
    | with_reducible refine Kept.ite ?_ ?_
    | with_reducible refine Kept.put _ _ ?_ (Foot.word_of_le hf (by first | decide +kernel | (simp only [PWR_DOM_STAT.RESTART_PENDING, PWR_DOM_STAT.addr_win]; first | decide +kernel | (split <;> decide +kernel))))
    | with_reducible refine Kept.setDom ?_ (Foot.le_trans (by decide +kernel) hf) _ _
    | with_reducible refine Kept.setDma ?_ (Foot.le_trans (by decide +kernel) hf) _ _
    | with_reducible refine Kept.downRefused ?_ (Foot.le_trans (by decide +kernel) hf) _ _ _
    | with_reducible refine Kept.foldl _ (fun y b hy => ?_) ?_
    | intro y
    | lift_lets
    | fail_if_no_progress (with_reducible refine Kept.set_pwr _ ?_ (Foot.part_of_le hf (by decide +kernel : Foot.part _ .pwr = true)))

theorem Kept.execPwrDown {f : Foot} {s x : State} (h : Kept f s x) (hf : Foot.le ⟨false, [0x00, 0x01, 0x04, 0x08, 0x09, 0x12, 0x13, 0x14, 0x15, 0x16, 0x1B], [0x15], [.latch, .sram, .gddr, .freeCtr, .resp, .pins, .sys, .flt, .pwr, .lnk, .fft, .acq, .dma, .hpt, .spt, .mem]⟩ f = true) (a0 : Fin 24) (a1 : Progress) (a2 : Source) (a3 : Word) :
    ∃ t, execPwrDown a0 a1 a2 a3 x = .next t ∧ Kept f s t := by
  unfold Sys2Proof.Machine.execPwrDown
  refine ⟨_, rfl, ?_⟩
  repeat' first
    | with_reducible assumption
    | with_reducible refine Kept.writeReg ?_ (fun y b0 b1 b2 => Kept.pwrRules (Kept.refl _ y) (Foot.le_trans (by decide +kernel) hf) _ b0 b1 b2) (Foot.word_of_le hf (by first | decide +kernel | (simp only [PWR_DOM_CMD.addr_win]; first | decide +kernel | (split <;> decide +kernel)))) (Foot.word_of_le hf (by first | decide +kernel | (simp only [PWR_DOM_CMD.addr_win]; first | decide +kernel | (split <;> decide +kernel)))) (Foot.word_of_le hf (by decide +kernel)) (Foot.part_of_le hf (by decide +kernel : Foot.part _ .resp = true)) (Foot.part_of_le hf (by decide +kernel : Foot.part _ .sys = true))

theorem Kept.execPwrForce {f : Foot} {s x : State} (h : Kept f s x) (hf : Foot.le ⟨false, [0x00, 0x01, 0x04, 0x08, 0x09, 0x12, 0x13, 0x14, 0x15, 0x16, 0x1B], [0x15], [.latch, .sram, .gddr, .freeCtr, .resp, .pins, .sys, .flt, .pwr, .lnk, .fft, .acq, .dma, .hpt, .spt, .mem]⟩ f = true) (a0 : Fin 24) (a1 : Progress) (a2 : Source) (a3 : Word) :
    ∃ t, execPwrForce a0 a1 a2 a3 x = .next t ∧ Kept f s t := by
  unfold Sys2Proof.Machine.execPwrForce
  refine ⟨_, rfl, ?_⟩
  repeat' first
    | with_reducible assumption
    | with_reducible refine Kept.writeReg ?_ (fun y b0 b1 b2 => Kept.pwrRules (Kept.refl _ y) (Foot.le_trans (by decide +kernel) hf) _ b0 b1 b2) (Foot.word_of_le hf (by first | decide +kernel | (simp only [PWR_DOM_CMD.addr_win]; first | decide +kernel | (split <;> decide +kernel)))) (Foot.word_of_le hf (by first | decide +kernel | (simp only [PWR_DOM_CMD.addr_win]; first | decide +kernel | (split <;> decide +kernel)))) (Foot.word_of_le hf (by decide +kernel)) (Foot.part_of_le hf (by decide +kernel : Foot.part _ .resp = true)) (Foot.part_of_le hf (by decide +kernel : Foot.part _ .sys = true))

theorem Kept.execPwrUp {f : Foot} {s x : State} (h : Kept f s x) (hf : Foot.le ⟨false, [0x00, 0x01, 0x04, 0x08, 0x09, 0x12, 0x13, 0x14, 0x15, 0x16, 0x1B], [0x15], [.latch, .sram, .gddr, .freeCtr, .resp, .pins, .sys, .flt, .pwr, .lnk, .fft, .acq, .dma, .hpt, .spt, .mem]⟩ f = true) (a0 : Fin 24) (a1 : Source) (a2 : Word) :
    ∃ t, execPwrUp a0 a1 a2 x = .next t ∧ Kept f s t := by
  unfold Sys2Proof.Machine.execPwrUp
  refine ⟨_, rfl, ?_⟩
  repeat' first
    | with_reducible assumption
    | with_reducible refine Kept.writeReg ?_ (fun y b0 b1 b2 => Kept.pwrRules (Kept.refl _ y) (Foot.le_trans (by decide +kernel) hf) _ b0 b1 b2) (Foot.word_of_le hf (by first | decide +kernel | (simp only [PWR_DOM_CMD.addr_win]; first | decide +kernel | (split <;> decide +kernel)))) (Foot.word_of_le hf (by first | decide +kernel | (simp only [PWR_DOM_CMD.addr_win]; first | decide +kernel | (split <;> decide +kernel)))) (Foot.word_of_le hf (by decide +kernel)) (Foot.part_of_le hf (by decide +kernel : Foot.part _ .resp = true)) (Foot.part_of_le hf (by decide +kernel : Foot.part _ .sys = true))

theorem Kept.execRestoreDone {f : Foot} {s x : State} (h : Kept f s x) (hf : Foot.le ⟨true, [], [], [.pwr]⟩ f = true) (a0 : Fin 24) :
    ∃ t, execRestoreDone a0 x = .next t ∧ Kept f s t := by
  unfold Sys2Proof.Machine.execRestoreDone
  refine ⟨_, rfl, ?_⟩
  repeat' first
    | with_reducible assumption
    | with_reducible refine Kept.setWord _ _ ?_ (Foot.word_of_le hf rfl)
    | with_reducible refine Kept.ite ?_ ?_
    | with_reducible refine Kept.put _ _ ?_ (Foot.word_of_le hf (by first | decide +kernel | (simp only [PWR_DOM_STAT.RESTORED, PWR_DOM_STAT.addr_win]; first | decide +kernel | (split <;> decide +kernel))))
    | with_reducible refine Kept.foldl _ (fun y b hy => ?_) ?_
    | (intro y; refine (fun hy : Kept f s y => ?_) ?_ <;> [clear_value y; skip])
    | intro y
    | lift_lets
    | with_reducible exact Kept.set_pwr _ (by with_reducible assumption) (Foot.part_of_le hf (by decide +kernel : Foot.part _ .pwr = true))

end Sys2Proof.Machine
end

