-- ==== Sys2Proof/Laws/KeptCapacity.lean ====
section
/-! SUPPORT. What the operations of Sys2Proof/Machine/Capacity.lean change. -/

set_option Elab.async false

set_option linter.all false

namespace Sys2Proof.Machine

theorem Kept.settleCaps {f : Foot} {s x : State} (h : Kept f s x) (hf : Foot.le ⟨false, [0x00, 0x15, 0x1B], [], [.sys, .flt]⟩ f = true) (a0 : State) :
    Kept f s (State.settleCaps x a0) := by
  unfold Sys2Proof.Machine.State.settleCaps
  repeat' first
    | with_reducible assumption
    | with_reducible refine Kept.ite ?_ ?_
    | with_reducible refine Kept.capacityChanged ?_ (Foot.le_trans (by decide +kernel) hf) _

theorem Kept.memRules {f : Foot} {s x : State} (h : Kept f s x) (hf : Foot.le ⟨false, [0x00, 0x02, 0x14, 0x15, 0x1B], [0x14], [.sys, .flt, .alm, .mem]⟩ f = true) (b0 : Source) (b1 : Nat) (b2 : Word) :
    Kept.res f s (memRules.act b0 b1 b2 x) := by
  unfold Sys2Proof.Machine.memRules
  repeat' first
    | with_reducible assumption
    | with_reducible refine Kept.res_ite ?_ ?_
    | with_reducible refine Kept.res_ok ?_
    | with_reducible exact Kept.res_error _ _ _
    | with_reducible refine Kept.memTrain ?_ (Foot.le_trans (by decide +kernel) hf)
    | with_reducible refine Kept.admitWith ?_ (Foot.le_trans (by decide +kernel) hf) _ _
    | with_reducible refine Kept.refuseOp ?_ (Foot.le_trans (by decide +kernel) hf) _ _ _ _ (Foot.word_of_le hf (by first | decide +kernel))
    | with_reducible refine Kept.settleCaps ?_ (Foot.le_trans (by decide +kernel) hf) _
    | with_reducible refine Kept.freqGo ?_ (Foot.le_trans (by decide +kernel) hf)
    | split

theorem Kept.execCapacityFall {f : Foot} {s x : State} (h : Kept f s x) (hf : Foot.le ⟨false, [0x00, 0x02, 0x08, 0x09, 0x0C, 0x0E, 0x12, 0x13, 0x14, 0x15, 0x16, 0x1B], [0x02, 0x0E, 0x15], [.latch, .sram, .gddr, .freeCtr, .sys, .flt, .alm, .fft, .acq, .neb, .dpy, .dma, .hpt, .spt, .mem]⟩ f = true) (a0 : Capacity) :
    ∃ t, execCapacityFall a0 x = .next t ∧ Kept f s t := by
  unfold Sys2Proof.Machine.execCapacityFall
  refine ⟨_, rfl, ?_⟩
  repeat' first
    | with_reducible assumption
    | with_reducible refine Kept.ite ?_ ?_
    | with_reducible refine Kept.pipeCondition ?_ (Foot.le_trans (by decide +kernel) hf)
    | with_reducible refine Kept.loseFrames ?_ (Foot.le_trans (by decide +kernel) hf) _
    | with_reducible refine Kept.setPipe ?_ (Foot.le_trans (by decide +kernel) hf) _ _
    | with_reducible refine Kept.put _ _ ?_ (Foot.word_of_le hf (by first | decide +kernel | (simp only [SPT_DRV_STAT.WIDTH, SPT_DRV_STAT.addr_win, SPT_DRV_STAT.SPEED]; first | decide +kernel | (split <;> decide +kernel))))
    | with_reducible refine Kept.hostDown ?_ (Foot.le_trans (by decide +kernel) hf) _
    | with_reducible refine Kept.driveFailed ?_ (Foot.le_trans (by decide +kernel) hf) _
    | with_reducible refine Kept.linkTrained ?_ (Foot.le_trans (by decide +kernel) hf) _ _ _
    | with_reducible refine Kept.settleCaps ?_ (Foot.le_trans (by decide +kernel) hf) _
    | split

theorem Kept.execCheckTestDone {f : Foot} {s x : State} (h : Kept f s x) (hf : Foot.le ⟨false, [0x00, 0x08, 0x09, 0x15, 0x1B], [], [.sys, .flt, .fft]⟩ f = true) (a0 : Bool) :
    ∃ t, execCheckTestDone a0 x = .next t ∧ Kept f s t := by
  unfold Sys2Proof.Machine.execCheckTestDone
  refine ⟨_, rfl, ?_⟩
  repeat' first
    | with_reducible assumption
    | with_reducible refine Kept.settleCaps ?_ (Foot.le_trans (by decide +kernel) hf) _
    | with_reducible refine Kept.checkTestEvent ?_ (Foot.le_trans (by decide +kernel) hf) _

theorem Kept.execDriveBringup {f : Foot} {s x : State} (h : Kept f s x) (hf : Foot.le ⟨false, [0x00, 0x15, 0x16, 0x1A, 0x1B], [], [.sys, .flt, .spt, .boot]⟩ f = true) (a0 : Fin 4) (a1 : Bool) (a2 : Nat) (a3 : Bool) (a4 : Nat) (a5 : BitVec 8) (a6 : BitVec 16) :
    ∃ t, execDriveBringup a0 a1 a2 a3 a4 a5 a6 x = .next t ∧ Kept f s t := by
  unfold Sys2Proof.Machine.execDriveBringup
  refine ⟨_, rfl, ?_⟩
  repeat' first
    | with_reducible assumption
    | with_reducible refine Kept.recSettle ?_ (Foot.le_trans (by decide +kernel) hf)
    | with_reducible refine Kept.settleCaps ?_ (Foot.le_trans (by decide +kernel) hf) _
    | with_reducible refine Kept.driveUp ?_ (Foot.le_trans (by decide +kernel) hf) _ _ _ _ _ _ _

theorem Kept.execDriveFail {f : Foot} {s x : State} (h : Kept f s x) (hf : Foot.le ⟨false, [0x00, 0x12, 0x13, 0x15, 0x16, 0x1B], [], [.sram, .freeCtr, .sys, .flt, .dma, .spt]⟩ f = true) (a0 : Fin 4) (a1 : Bool) :
    ∃ t, execDriveFail a0 a1 x = .next t ∧ Kept f s t := by
  unfold Sys2Proof.Machine.execDriveFail
  refine ⟨_, rfl, ?_⟩
  repeat' first
    | with_reducible assumption
    | with_reducible refine Kept.ite ?_ ?_
    | with_reducible refine Kept.put _ _ ?_ (Foot.word_of_le hf (by first | decide +kernel | (simp only [SPT_DRV_STAT.STATE, SPT_DRV_STAT.addr_win, SPT_DRV_STAT.WIDTH, SPT_DRV_STAT.SPEED]; first | decide +kernel | (split <;> decide +kernel))))
    | with_reducible refine Kept.settleCaps ?_ (Foot.le_trans (by decide +kernel) hf) _
    | with_reducible refine Kept.driveFailed ?_ (Foot.le_trans (by decide +kernel) hf) _

theorem Kept.execFreqGo {f : Foot} {s x : State} (h : Kept f s x) (hf : Foot.le ⟨false, [0x00, 0x02, 0x14, 0x15, 0x1B], [0x14], [.resp, .sys, .flt, .alm, .mem]⟩ f = true) (a0 : Source) (a1 : Word) :
    ∃ t, execFreqGo a0 a1 x = .next t ∧ Kept f s t := by
  unfold Sys2Proof.Machine.execFreqGo
  refine ⟨_, rfl, ?_⟩
  repeat' first
    | with_reducible assumption
    | with_reducible refine Kept.writeReg ?_ (fun y b0 b1 b2 => Kept.memRules (Kept.refl _ y) (Foot.le_trans (by decide +kernel) hf) b0 b1 b2) (Foot.word_of_le hf (by first | decide +kernel)) (Foot.word_of_le hf (by first | decide +kernel)) (Foot.word_of_le hf (by decide +kernel)) (Foot.part_of_le hf (by decide +kernel : Foot.part _ .resp = true)) (Foot.part_of_le hf (by decide +kernel : Foot.part _ .sys = true))

theorem Kept.execHostLinkReset {f : Foot} {s x : State} (h : Kept f s x) (hf : Foot.le ⟨false, [0x00, 0x12, 0x13, 0x14, 0x15, 0x1B], [0x15], [.latch, .sram, .gddr, .freeCtr, .sys, .flt, .fft, .acq, .dma, .hpt, .spt, .mem]⟩ f = true) (a0 : List (Fin 32 × Nat × List Byte)) :
    ∃ t, execHostLinkReset a0 x = .next t ∧ Kept f s t := by
  unfold Sys2Proof.Machine.execHostLinkReset
  refine ⟨_, rfl, ?_⟩
  repeat' first
    | with_reducible assumption
    | with_reducible refine Kept.ite ?_ ?_
    | with_reducible refine Kept.settleCaps ?_ (Foot.le_trans (by decide +kernel) hf) _
    | with_reducible refine Kept.hostDown ?_ (Foot.le_trans (by decide +kernel) hf) _

theorem Kept.execHostLinkUp {f : Foot} {s x : State} (h : Kept f s x) (hf : Foot.le ⟨false, [0x00, 0x15, 0x1B], [], [.sys, .flt, .hpt]⟩ f = true) (a0 : BitVec 6) (a1 : BitVec 3) (a2 : Bool) (a3 : Bool) (a4 : Bool) :
    ∃ t, execHostLinkUp a0 a1 a2 a3 a4 x = .next t ∧ Kept f s t := by
  unfold Sys2Proof.Machine.execHostLinkUp
  refine ⟨_, rfl, ?_⟩
  repeat' first
    | with_reducible assumption
    | with_reducible refine Kept.ite ?_ ?_
    | with_reducible refine Kept.settleCaps ?_ (Foot.le_trans (by decide +kernel) hf) _
    | with_reducible refine Kept.hostUp ?_ (Foot.le_trans (by decide +kernel) hf) _ _ _ _ _

theorem Kept.execLinkTrained {f : Foot} {s x : State} (h : Kept f s x) (hf : Foot.le ⟨false, [0x00, 0x02, 0x0C, 0x0E, 0x15, 0x1B], [0x02, 0x0E], [.sys, .flt, .alm, .neb, .dpy]⟩ f = true) (a0 : BitVec 3) (a1 : BitVec 2) (a2 : Bool) :
    ∃ t, execLinkTrained a0 a1 a2 x = .next t ∧ Kept f s t := by
  unfold Sys2Proof.Machine.execLinkTrained
  refine ⟨_, rfl, ?_⟩
  repeat' first
    | with_reducible assumption
    | with_reducible refine Kept.ite ?_ ?_
    | with_reducible refine Kept.settleCaps ?_ (Foot.le_trans (by decide +kernel) hf) _
    | with_reducible refine Kept.linkTrained ?_ (Foot.le_trans (by decide +kernel) hf) _ _ _

theorem Kept.execMemTrain {f : Foot} {s x : State} (h : Kept f s x) (hf : Foot.le ⟨false, [0x00, 0x02, 0x14, 0x15, 0x1B], [0x14], [.resp, .sys, .flt, .alm, .mem]⟩ f = true) (a0 : Source) (a1 : Word) :
    ∃ t, execMemTrain a0 a1 x = .next t ∧ Kept f s t := by
  unfold Sys2Proof.Machine.execMemTrain
  refine ⟨_, rfl, ?_⟩
  repeat' first
    | with_reducible assumption
    | with_reducible refine Kept.writeReg ?_ (fun y b0 b1 b2 => Kept.memRules (Kept.refl _ y) (Foot.le_trans (by decide +kernel) hf) b0 b1 b2) (Foot.word_of_le hf (by first | decide +kernel)) (Foot.word_of_le hf (by first | decide +kernel)) (Foot.word_of_le hf (by decide +kernel)) (Foot.part_of_le hf (by decide +kernel : Foot.part _ .resp = true)) (Foot.part_of_le hf (by decide +kernel : Foot.part _ .sys = true))

theorem Kept.execNvmeTimeout {f : Foot} {s x : State} (h : Kept f s x) (hf : Foot.le ⟨false, [0x00, 0x12, 0x13, 0x14, 0x15, 0x16, 0x1B], [], [.sram, .gddr, .freeCtr, .sys, .flt, .fft, .acq, .dma, .spt, .mem]⟩ f = true) (a0 : Fin 4) (a1 : Nat) (a2 : BitVec 16) :
    ∃ t, execNvmeTimeout a0 a1 a2 x = .next t ∧ Kept f s t := by
  unfold Sys2Proof.Machine.execNvmeTimeout
  refine ⟨_, rfl, ?_⟩
  repeat' first
    | with_reducible assumption
    | with_reducible refine Kept.ite ?_ ?_
    | with_reducible refine Kept.settleCaps ?_ (Foot.le_trans (by decide +kernel) hf) _
    | with_reducible refine Kept.nvmeTimeout ?_ (Foot.le_trans (by decide +kernel) hf) _ _ _

theorem Kept.execPatternTestDone {f : Foot} {s x : State} (h : Kept f s x) (hf : Foot.le ⟨false, [0x00, 0x08, 0x09, 0x15, 0x1B], [], [.sys, .flt, .fft]⟩ f = true) (a0 : Fin 10) (a1 : Bool) :
    ∃ t, execPatternTestDone a0 a1 x = .next t ∧ Kept f s t := by
  unfold Sys2Proof.Machine.execPatternTestDone
  refine ⟨_, rfl, ?_⟩
  repeat' first
    | with_reducible assumption
    | with_reducible refine Kept.settleCaps ?_ (Foot.le_trans (by decide +kernel) hf) _
    | with_reducible refine Kept.patternTestEvent ?_ (Foot.le_trans (by decide +kernel) hf) _ _

theorem Kept.execPipeFail {f : Foot} {s x : State} (h : Kept f s x) (hf : Foot.le ⟨false, [0x00, 0x08, 0x09, 0x15, 0x1B], [], [.sys, .flt, .fft]⟩ f = true) (a0 : Fin 10) (a1 : BitVec 4) (a2 : Word) :
    ∃ t, execPipeFail a0 a1 a2 x = .next t ∧ Kept f s t := by
  unfold Sys2Proof.Machine.execPipeFail
  refine ⟨_, rfl, ?_⟩
  repeat' first
    | with_reducible assumption
    | with_reducible refine Kept.settleCaps ?_ (Foot.le_trans (by decide +kernel) hf) _
    | with_reducible refine Kept.pipeFailEvent ?_ (Foot.le_trans (by decide +kernel) hf) _ _ _

theorem Kept.execTrainRetry {f : Foot} {s x : State} (h : Kept f s x) (hf : Foot.le ⟨false, [0x00, 0x02, 0x14, 0x15, 0x1B], [0x14], [.sys, .flt, .alm, .mem]⟩ f = true) (a0 : Bool) :
    ∃ t, execTrainRetry a0 x = .next t ∧ Kept f s t := by
  unfold Sys2Proof.Machine.execTrainRetry
  refine ⟨_, rfl, ?_⟩
  repeat' first
    | with_reducible assumption
    | with_reducible refine Kept.ite ?_ ?_
    | with_reducible refine Kept.stepApplied ?_ (Foot.le_trans (by decide +kernel) hf) _
    | with_reducible refine Kept.settleCaps ?_ (Foot.le_trans (by decide +kernel) hf) _
    | with_reducible refine Kept.memFailed ?_ (Foot.le_trans (by decide +kernel) hf) _
    | intro y
    | split
    | lift_lets
    | with_reducible exact Kept.set_mem _ (by with_reducible assumption) (Foot.part_of_le hf (by decide +kernel : Foot.part _ .mem = true))

theorem Kept.execTrainingDone {f : Foot} {s x : State} (h : Kept f s x) (hf : Foot.le ⟨false, [0x00, 0x14, 0x15, 0x1A, 0x1B], [], [.sys, .flt, .mem, .boot]⟩ f = true) (a0 : Bool) :
    ∃ t, execTrainingDone a0 x = .next t ∧ Kept f s t := by
  unfold Sys2Proof.Machine.execTrainingDone
  refine ⟨_, rfl, ?_⟩
  repeat' first
    | with_reducible assumption
    | with_reducible refine Kept.recSettle ?_ (Foot.le_trans (by decide +kernel) hf)
    | with_reducible refine Kept.settleCaps ?_ (Foot.le_trans (by decide +kernel) hf) _
    | with_reducible refine Kept.trainingDone ?_ (Foot.le_trans (by decide +kernel) hf) _

end Sys2Proof.Machine
end

