-- ==== Sys2Proof/Laws/KeptFaults.lean ====
section
/-! SUPPORT. What the operations of Sys2Proof/Machine/Faults.lean change. -/

set_option Elab.async false

set_option linter.all false

namespace Sys2Proof.Machine

theorem Kept.fltAck {f : Foot} {s x : State} (h : Kept f s x) (hf : Foot.le ⟨false, [0x00, 0x15, 0x1B], [], [.flt]⟩ f = true) (a0 : Nat) :
    Kept f s (State.fltAck x a0) := by
  unfold Sys2Proof.Machine.State.fltAck
  repeat' first
    | with_reducible assumption
    | with_reducible refine Kept.ite ?_ ?_
    | with_reducible refine Kept.clearActive ?_ (Foot.le_trans (by decide +kernel) hf) _
    | with_reducible refine Kept.put _ _ ?_ (Foot.word_of_le hf (by first | decide +kernel))
    | intro y
    | split
    | lift_lets
    | fail_if_no_progress (with_reducible refine Kept.set_flt _ ?_ (Foot.part_of_le hf (by decide +kernel : Foot.part _ .flt = true)) (by first | exact fun q => q | (intro q; simp only [List.length_drop, List.length_tail, List.length_map, List.length_nil] at *; omega) | (intro q; simp at *; omega)))

theorem Kept.fltRules {f : Foot} {s x : State} (h : Kept f s x) (hf : Foot.le ⟨false, [0x00, 0x15, 0x1B], [], [.flt]⟩ f = true) (b0 : Source) (b1 : Nat) (b2 : Word) :
    Kept.res f s (fltRules.act b0 b1 b2 x) := by
  unfold Sys2Proof.Machine.fltRules
  repeat' first
    | with_reducible assumption
    | fail_if_no_progress (with_reducible refine Kept.set_flt _ ?_ (Foot.part_of_le hf (by decide +kernel : Foot.part _ .flt = true)) (fun q => ⟨q.1, Nat.le_trans (by simp [List.length_drop]) q.2⟩))
    | with_reducible refine Kept.ite ?_ ?_
    | with_reducible refine Kept.res_ite ?_ ?_
    | with_reducible refine Kept.res_ok ?_
    | with_reducible exact Kept.res_error _ _ _
    | with_reducible refine Kept.fltAck ?_ (Foot.le_trans (by decide +kernel) hf) _

theorem Kept.haltOff {f : Foot} {s x : State} (h : Kept f s x) (hf : Foot.le ⟨false, [0x01], [], [.gddr, .pins, .sys]⟩ f = true) :
    Kept f s (State.haltOff x) := by
  unfold Sys2Proof.Machine.State.haltOff
  have h1 := Kept.foldl (f := f) (s := s) (g := fun (s : State) d => if haltOn d || s.dom d == 0 then s else s.setDom d 0) (List.range 24)
    (fun y b hy => Kept.ite hy (Kept.setDom hy (Foot.le_trans (by decide +kernel) hf) _ _)) h
  revert h1
  generalize List.foldl _ _ _ = y
  exact fun h1 => Kept.set_pins (x := { y with gddr := [] }) _ (Kept.set_gddr _ h1 (Foot.part_of_le hf (by decide +kernel : Foot.part _ .gddr = true)) (fun _ => rfl)) (Foot.part_of_le hf (by decide +kernel : Foot.part _ .pins = true))

theorem Kept.moveRecord {f : Foot} {s x : State} (h : Kept f s x) (hf : Foot.le ⟨false, [0x15, 0x1B], [], [.flt]⟩ f = true) :
    Kept f s (State.moveRecord x) := by
  unfold Sys2Proof.Machine.State.moveRecord
  split
  · exact h
  · next r l e =>
    have hl : x.flt.hwq.length = l.length + 1 := by rw [e]; rfl
    refine Kept.ite' (fun hc => ?_) (fun _ => ?_)
    · refine Kept.raiseIrq (Kept.set_flt (x := { x with flt := { x.flt with hwq := l } }) { x.flt with hwq := l, log := x.flt.log ++ [r] } (Kept.set_flt _ h (Foot.part_of_le hf (by decide +kernel : Foot.part _ .flt = true)) (fun q => ⟨(show l.length ≤ 64 by omega), q.2⟩)) (Foot.part_of_le hf (by decide +kernel : Foot.part _ .flt = true))
        (fun q => ⟨q.1, ?_⟩)) (Foot.le_trans (by decide +kernel) hf) _
      simp only [List.length_append, List.length_singleton]
      exact hc
    · exact Kept.put _ _ (Kept.bump _ (Kept.set_flt _ h (Foot.part_of_le hf (by decide +kernel : Foot.part _ .flt = true)) (fun q => ⟨(show l.length ≤ 64 by omega), q.2⟩)) (Foot.word_of_le hf (by first | decide +kernel))) (Foot.word_of_le hf (by first | decide +kernel))

theorem Kept.moveRecords {f : Foot} {s x : State} (h : Kept f s x) (hf : Foot.le ⟨false, [0x15, 0x1B], [], [.flt]⟩ f = true) (a0 : Nat) :
    Kept f s (State.moveRecords x a0) := by
  induction a0 generalizing x with
  | zero => exact h
  | succ n ih =>
    unfold Sys2Proof.Machine.State.moveRecords
    exact Kept.ite h (ih (Kept.moveRecord h hf))

theorem Kept.sramRowDue {f : Foot} {s x : State} (h : Kept f s x) (hf : Foot.le ⟨false, [0x00, 0x15, 0x1B], [], [.freeCtr, .flt]⟩ f = true) (a0 : Nat) :
    Kept f s (State.sramRowDue x a0) := by
  unfold Sys2Proof.Machine.State.sramRowDue
  repeat' first
    | with_reducible assumption
    | with_reducible refine Kept.ite ?_ ?_
    | with_reducible refine Kept.sramLoc ?_ (Foot.le_trans (by decide +kernel) hf) _
    | with_reducible refine Kept.fltRec ?_ (Foot.le_trans (by decide +kernel) hf) _ _ _ _ _ _
    | intro y
    | lift_lets
    | with_reducible exact Kept.set_flt _ (by with_reducible assumption) (Foot.part_of_le hf (by decide +kernel : Foot.part _ .flt = true)) (by first | exact fun q => q | (intro q; simp only [List.length_drop, List.length_tail, List.length_map, List.length_nil] at *; omega) | (intro q; simp at *; omega))

theorem Kept.poison {f : Foot} {s x : State} (h : Kept f s x) (hf : Foot.le ⟨false, [0x00, 0x15, 0x1B], [], [.freeCtr, .flt]⟩ f = true) (a0 : Nat) (a1 : Nat) :
    Kept f s (State.poison x a0 a1) := by
  unfold Sys2Proof.Machine.State.poison
  repeat' first
    | with_reducible assumption
    | with_reducible refine Kept.ite ?_ ?_
    | with_reducible refine Kept.bump _ ?_ (Foot.word_of_le hf (by first | decide +kernel))
    | with_reducible refine Kept.put _ _ ?_ (Foot.word_of_le hf (by first | decide +kernel))
    | with_reducible refine Kept.sramLoc ?_ (Foot.le_trans (by decide +kernel) hf) _
    | with_reducible refine Kept.sramRowDue ?_ (Foot.le_trans (by decide +kernel) hf) _
    | with_reducible refine Kept.fltRec ?_ (Foot.le_trans (by decide +kernel) hf) _ _ _ _ _ _
    | intro y
    | lift_lets
    | fail_if_no_progress (with_reducible refine Kept.set_flt _ ?_ (Foot.part_of_le hf (by decide +kernel : Foot.part _ .flt = true)) (by first | exact fun q => q | (intro q; simp only [List.length_drop, List.length_tail, List.length_map, List.length_nil] at *; omega) | (intro q; simp at *; omega)))

theorem Kept.execDumpDone {f : Foot} {s x : State} (h : Kept f s x) (hf : Foot.le ⟨false, [0x01, 0x1B], [], [.sram, .gddr, .freeCtr, .pins, .sys]⟩ f = true) (a0 : BitVec 9) :
    ∃ t, execDumpDone a0 x = .next t ∧ Kept f s t := by
  unfold Sys2Proof.Machine.execDumpDone
  refine ⟨_, rfl, ?_⟩
  repeat' first
    | with_reducible assumption
    | with_reducible refine Kept.ite ?_ ?_
    | with_reducible refine Kept.setSramLE _ ?_ (Foot.part_of_le hf (by decide +kernel : Foot.part _ .sram = true)) _ _
    | with_reducible refine Kept.setSramBytes _ ?_ (Foot.part_of_le hf (by decide +kernel : Foot.part _ .sram = true)) _
    | with_reducible refine Kept.haltOff ?_ (Foot.le_trans (by decide +kernel) hf)
    | with_reducible refine Kept.drawFree ?_ (Foot.le_trans (by decide +kernel) hf)
    | with_reducible refine Kept.put _ _ ?_ (Foot.word_of_le hf (by first | decide +kernel))

theorem Kept.execFaultLogMove {f : Foot} {s x : State} (h : Kept f s x) (hf : Foot.le ⟨false, [0x15, 0x1B], [], [.flt]⟩ f = true) :
    ∃ t, execFaultLogMove x = .next t ∧ Kept f s t := by
  unfold Sys2Proof.Machine.execFaultLogMove
  refine ⟨_, rfl, ?_⟩
  repeat' first
    | with_reducible assumption
    | with_reducible refine Kept.ite ?_ ?_
    | with_reducible refine Kept.moveRecord ?_ (Foot.le_trans (by decide +kernel) hf)

theorem Kept.execFaultLogPop {f : Foot} {s x : State} (h : Kept f s x) (hf : Foot.le ⟨false, [0x00, 0x15, 0x1B], [], [.resp, .sys, .flt]⟩ f = true) (a0 : Source) (a1 : Word) :
    ∃ t, execFaultLogPop a0 a1 x = .next t ∧ Kept f s t := by
  unfold Sys2Proof.Machine.execFaultLogPop
  refine ⟨_, rfl, ?_⟩
  repeat' first
    | with_reducible assumption
    | with_reducible refine Kept.writeReg ?_ (fun y b0 b1 b2 => Kept.fltRules (Kept.refl _ y) (Foot.le_trans (by decide +kernel) hf) b0 b1 b2) (Foot.word_of_le hf (by first | decide +kernel)) (Foot.word_of_le hf (by first | decide +kernel)) (Foot.word_of_le hf (by decide +kernel)) (Foot.part_of_le hf (by decide +kernel : Foot.part _ .resp = true)) (Foot.part_of_le hf (by decide +kernel : Foot.part _ .sys = true))

theorem Kept.execFltAck {f : Foot} {s x : State} (h : Kept f s x) (hf : Foot.le ⟨false, [0x00, 0x15, 0x1B], [], [.resp, .sys, .flt]⟩ f = true) (a0 : Source) (a1 : Word) :
    ∃ t, execFltAck a0 a1 x = .next t ∧ Kept f s t := by
  unfold Sys2Proof.Machine.execFltAck
  refine ⟨_, rfl, ?_⟩
  repeat' first
    | with_reducible assumption
    | with_reducible refine Kept.writeReg ?_ (fun y b0 b1 b2 => Kept.fltRules (Kept.refl _ y) (Foot.le_trans (by decide +kernel) hf) b0 b1 b2) (Foot.word_of_le hf (by first | decide +kernel)) (Foot.word_of_le hf (by first | decide +kernel)) (Foot.word_of_le hf (by decide +kernel)) (Foot.part_of_le hf (by decide +kernel : Foot.part _ .resp = true)) (Foot.part_of_le hf (by decide +kernel : Foot.part _ .sys = true))

theorem Kept.execSramRowSpared {f : Foot} {s x : State} (h : Kept f s x) (hf : Foot.le ⟨false, [0x1B], [], [.freeCtr, .flt]⟩ f = true) :
    ∃ t, execSramRowSpared x = .next t ∧ Kept f s t := by
  unfold Sys2Proof.Machine.execSramRowSpared
  refine ⟨_, rfl, ?_⟩
  repeat' first
    | with_reducible assumption
    | with_reducible refine Kept.ite ?_ ?_
    | with_reducible refine Kept.sramLoc ?_ (Foot.le_trans (by decide +kernel) hf) _
    | with_reducible refine Kept.bump _ ?_ (Foot.word_of_le hf (by first | decide +kernel))
    | with_reducible refine Kept.fltInfo ?_ (Foot.le_trans (by decide +kernel) hf) _ _ _ _ _
    | intro y
    | split
    | lift_lets
    | with_reducible exact Kept.set_flt _ (by with_reducible assumption) (Foot.part_of_le hf (by decide +kernel : Foot.part _ .flt = true)) (by first | exact fun q => q | (intro q; simp only [List.length_drop, List.length_tail, List.length_map, List.length_nil] at *; omega) | (intro q; simp at *; omega))

theorem Kept.execSramScrub {f : Foot} {s x : State} (h : Kept f s x) (hf : Foot.le ⟨false, [0x00, 0x15, 0x1B], [], [.freeCtr, .flt]⟩ f = true) (a0 : Nat) (a1 : Fin 3) :
    ∃ t, execSramScrub a0 a1 x = .next t ∧ Kept f s t := by
  unfold Sys2Proof.Machine.execSramScrub
  refine ⟨_, rfl, ?_⟩
  repeat' first
    | with_reducible assumption
    | with_reducible refine Kept.ite ?_ ?_
    | with_reducible refine Kept.poison ?_ (Foot.le_trans (by decide +kernel) hf) _ _
    | with_reducible refine Kept.bump _ ?_ (Foot.word_of_le hf (by first | decide +kernel))
    | with_reducible refine Kept.sramRowDue ?_ (Foot.le_trans (by decide +kernel) hf) _
    | intro y
    | lift_lets
    | fail_if_no_progress (with_reducible refine Kept.set_flt _ ?_ (Foot.part_of_le hf (by decide +kernel : Foot.part _ .flt = true)) (by first | exact fun q => q | (intro q; simp only [List.length_drop, List.length_tail, List.length_map, List.length_nil] at *; omega) | (intro q; simp at *; omega)))

theorem Kept.execSupplyFault {f : Foot} {s x : State} (h : Kept f s x) (hf : Foot.le ⟨false, [0x00, 0x15, 0x1B], [], [.pins, .flt]⟩ f = true) (a0 : Fin 10) (a1 : Nat) :
    ∃ t, execSupplyFault a0 a1 x = .next t ∧ Kept f s t := by
  unfold Sys2Proof.Machine.execSupplyFault
  refine ⟨_, rfl, ?_⟩
  repeat' first
    | with_reducible assumption
    | with_reducible refine Kept.ite ?_ ?_
    | with_reducible refine Kept.fltFatal ?_ (Foot.le_trans (by decide +kernel) hf) _ _ _ _ _

theorem Kept.execThermSample {f : Foot} {s x : State} (h : Kept f s x) (hf : Foot.le ⟨false, [0x00, 0x15, 0x1B], [], [.pins, .flt]⟩ f = true) (a0 : Int) (a1 : BitVec 6) :
    ∃ t, execThermSample a0 a1 x = .next t ∧ Kept f s t := by
  unfold Sys2Proof.Machine.execThermSample
  refine ⟨_, rfl, ?_⟩
  repeat' first
    | with_reducible assumption
    | with_reducible refine Kept.ite ?_ ?_
    | with_reducible refine Kept.put _ _ ?_ (Foot.word_of_le hf (by first | decide +kernel))
    | with_reducible refine Kept.fltInfo ?_ (Foot.le_trans (by decide +kernel) hf) _ _ _ _ _
    | with_reducible refine Kept.fltFatal ?_ (Foot.le_trans (by decide +kernel) hf) _ _ _ _ _
    | intro y
    | split
    | lift_lets
    | dsimp only
    | fail_if_no_progress (with_reducible refine Kept.set_flt _ ?_ (Foot.part_of_le hf (by decide +kernel : Foot.part _ .flt = true)) (by first | exact fun q => q | (intro q; simp only [List.length_drop, List.length_tail, List.length_map, List.length_nil] at *; omega) | (intro q; simp at *; omega)))

end Sys2Proof.Machine
end

