-- ==== Sys2Proof/Laws/KeptConstellation.lean ====
section
/-! SUPPORT. What the operations of Sys2Proof/Machine/Constellation.lean change. -/

set_option Elab.async false

set_option linter.all false

namespace Sys2Proof.Machine

theorem Kept.modCst {f : Foot} {s x : State} (h : Kept f s x) (hf : Foot.le ⟨false, [], [], [.cst]⟩ f = true) (a0 : CstSt → CstSt) :
    Kept f s (State.modCst x a0) := by
  unfold Sys2Proof.Machine.State.modCst
  repeat' first
    | with_reducible exact Kept.set_cst _ (by with_reducible assumption) (Foot.part_of_le hf (by decide +kernel : Foot.part _ .cst = true))

theorem Kept.applyDrop {f : Foot} {s x : State} (h : Kept f s x) (hf : Foot.le ⟨false, [0x00], [], [.sys, .cst]⟩ f = true) :
    Kept f s (State.applyDrop x) := by
  unfold Sys2Proof.Machine.State.applyDrop
  have h1 := fun g => Kept.modCst h (Foot.le_trans (by decide +kernel) hf) g
  exact Kept.ite (Kept.set_sys _ (Kept.put _ _ (h1 _) (Foot.word_of_le hf (by first | decide +kernel))) (Foot.part_of_le hf (by decide +kernel : Foot.part _ .sys = true)) (fun q => q)) (h1 _)

theorem Kept.opEnd {f : Foot} {s x : State} (h : Kept f s x) (hf : Foot.le ⟨false, [0x19], [], []⟩ f = true) (a0 : Nat) (a1 : Nat) (a2 : Nat) :
    Kept f s (State.opEnd x a0 a1 a2) := by
  unfold Sys2Proof.Machine.State.opEnd
  repeat' first
    | with_reducible assumption
    | with_reducible refine Kept.put _ _ ?_ (Foot.word_of_le hf (by first | decide +kernel | (simp only [CST_OP_STAT.BUSY, CST_OP_STAT.addr_win, CST_OP_STAT.DONE, CST_OP_STAT.NODE, CST_OP_STAT.CODE]; first | decide +kernel | (split <;> decide +kernel))))

theorem Kept.applyAbort {f : Foot} {s x : State} (h : Kept f s x) (hf : Foot.le ⟨false, [0x00, 0x19], [], [.sys, .cst]⟩ f = true) (a0 : Nat) (a1 : Nat) :
    Kept f s (State.applyAbort x a0 a1) := by
  unfold Sys2Proof.Machine.State.applyAbort
  repeat' first
    | with_reducible assumption
    | with_reducible refine Kept.ite ?_ ?_
    | with_reducible refine Kept.applyDrop ?_ (Foot.le_trans (by decide +kernel) hf)
    | with_reducible refine Kept.opEnd ?_ (Foot.le_trans (by decide +kernel) hf) _ _ _

theorem Kept.applyCollect {f : Foot} {s x : State} (h : Kept f s x) (hf : Foot.le ⟨false, [0x00, 0x19], [], [.sys, .cst]⟩ f = true) :
    Kept f s (State.applyCollect x) := by
  unfold Sys2Proof.Machine.State.applyCollect
  repeat' first
    | with_reducible assumption
    | with_reducible refine Kept.ite ?_ ?_
    | with_reducible refine Kept.modCst ?_ (Foot.le_trans (by decide +kernel) hf) _
    | with_reducible refine Kept.cstUp ?_ (Foot.le_trans (by decide +kernel) hf) _
    | with_reducible refine Kept.cstDown ?_ (Foot.le_trans (by decide +kernel) hf) _
    | with_reducible refine Kept.applyAbort ?_ (Foot.le_trans (by decide +kernel) hf) _ _
    | split

theorem Kept.applyCommit {f : Foot} {s x : State} (h : Kept f s x) (hf : Foot.le ⟨false, [0x00, 0x02, 0x03, 0x04, 0x05, 0x06, 0x07, 0x08, 0x09, 0x0A, 0x0B, 0x0C, 0x10, 0x12, 0x13, 0x15, 0x16, 0x17, 0x18, 0x19, 0x1B], [0x00, 0x01, 0x02, 0x03, 0x04, 0x05, 0x06, 0x07, 0x08, 0x09, 0x0A, 0x0B, 0x0C, 0x0D, 0x0E, 0x0F, 0x10, 0x11, 0x12, 0x13, 0x14, 0x15, 0x16, 0x17, 0x18, 0x19, 0x1A, 0x1B], [.sram, .gddr, .freeCtr, .pins, .sys, .flt, .alm, .lnk, .fcv, .ddc, .fft, .trg, .acq, .neb, .lod, .dma, .spt, .mem, .aux, .srv, .cst]⟩ f = true) (a0 : CstApplyRun) :
    Kept f s (State.applyCommit x a0) := by
  unfold Sys2Proof.Machine.State.applyCommit
  repeat' first
    | with_reducible assumption
    | with_reducible refine Kept.ite ?_ ?_
    | with_reducible refine Kept.applyEdge ?_ (Foot.le_trans (by decide +kernel) hf) _ _
    | with_reducible refine Kept.modCst ?_ (Foot.le_trans (by decide +kernel) hf) _
    | with_reducible refine Kept.opEnd ?_ (Foot.le_trans (by decide +kernel) hf) _ _ _

theorem Kept.barRelease' {f : Foot} {s x : State} (h : Kept f s x) (hf : Foot.le ⟨false, [0x19], [], [.cst]⟩ f = true) (a0 : Stamp) (a1 : Bool) :
    Kept f s (State.barRelease' x a0 a1) := by
  unfold Sys2Proof.Machine.State.barRelease'
  repeat' first
    | with_reducible assumption
    | with_reducible refine Kept.putStamp _ _ ?_ (Foot.word_of_le hf (by first | decide +kernel)) (Foot.word_of_le hf (by first | decide +kernel)) (Foot.word_of_le hf (by first | decide +kernel))
    | with_reducible refine Kept.cstDown ?_ (Foot.le_trans (by decide +kernel) hf) _
    | with_reducible refine Kept.opEnd ?_ (Foot.le_trans (by decide +kernel) hf) _ _ _
    | with_reducible refine Kept.modCst ?_ (Foot.le_trans (by decide +kernel) hf) _

theorem Kept.barReport {f : Foot} {s x : State} (h : Kept f s x) (hf : Foot.le ⟨false, [], [], [.cst]⟩ f = true) :
    Kept f s (State.barReport x) := by
  unfold Sys2Proof.Machine.State.barReport
  repeat' first
    | with_reducible assumption
    | with_reducible refine Kept.ite ?_ ?_
    | with_reducible refine Kept.modCst ?_ (Foot.le_trans (by decide +kernel) hf) _
    | with_reducible refine Kept.cstUp ?_ (Foot.le_trans (by decide +kernel) hf) _

theorem Kept.rxShow {f : Foot} {s x : State} (h : Kept f s x) (hf : Foot.le ⟨false, [0x19], [], [.freeCtr]⟩ f = true) :
    Kept f s (State.rxShow x) := by
  unfold Sys2Proof.Machine.State.rxShow
  repeat' first
    | with_reducible assumption
    | with_reducible refine Kept.put _ _ ?_ (Foot.word_of_le hf (by first | decide +kernel | (simp only [CST_BC_RX.addr_win, CST_BC_RX.addr_win4, CST_BC_RX.addr_win8]; first | decide +kernel | (split <;> decide +kernel))))
    | with_reducible refine Kept.setWord _ _ ?_ (Foot.word_of_le hf (by first | decide +kernel | (simp only [CST_BC_RX.addr_win, CST_BC_RX.addr_win4, CST_BC_RX.addr_win8]; first | decide +kernel | (split <;> decide +kernel))))
    | with_reducible refine Kept.drawFree ?_ (Foot.le_trans (by decide +kernel) hf)
    | with_reducible refine Kept.foldl _ (fun y b hy => ?_) ?_
    | (intro y; refine (fun hy : Kept f s y => ?_) ?_ <;> [clear_value y; skip])
    | split
    | lift_lets

theorem Kept.bcPop {f : Foot} {s x : State} (h : Kept f s x) (hf : Foot.le ⟨false, [0x19], [], [.freeCtr, .cst]⟩ f = true) :
    Kept f s (State.bcPop x) := by
  unfold Sys2Proof.Machine.State.bcPop
  repeat' first
    | with_reducible assumption
    | with_reducible refine Kept.rxShow ?_ (Foot.le_trans (by decide +kernel) hf)
    | with_reducible refine Kept.modCst ?_ (Foot.le_trans (by decide +kernel) hf) _

theorem Kept.opBegin {f : Foot} {s x : State} (h : Kept f s x) (hf : Foot.le ⟨false, [0x19], [], []⟩ f = true) (a0 : Nat) :
    Kept f s (State.opBegin x a0) := by
  unfold Sys2Proof.Machine.State.opBegin
  repeat' first
    | with_reducible assumption
    | with_reducible refine Kept.put _ _ ?_ (Foot.word_of_le hf (by first | decide +kernel | (simp only [CST_OP_STAT.BUSY, CST_OP_STAT.addr_win, CST_OP_STAT.DONE, CST_OP_STAT.CODE, CST_OP_STAT.NODE]; first | decide +kernel | (split <;> decide +kernel))))

theorem Kept.cancelOps {f : Foot} {s x : State} (h : Kept f s x) (hf : Foot.le ⟨false, [0x00, 0x19], [], [.sys, .cst]⟩ f = true) :
    Kept f s (State.cancelOps x) := by
  unfold Sys2Proof.Machine.State.cancelOps
  repeat' first
    | with_reducible assumption
    | with_reducible refine Kept.ite ?_ ?_
    | with_reducible refine Kept.opEnd ?_ (Foot.le_trans (by decide +kernel) hf) _ _ _
    | with_reducible refine Kept.modCst ?_ (Foot.le_trans (by decide +kernel) hf) _
    | with_reducible refine Kept.applyAbort ?_ (Foot.le_trans (by decide +kernel) hf) _ _

theorem Kept.opStart {f : Foot} {s x : State} (h : Kept f s x) (hf : Foot.le ⟨false, [0x00, 0x19], [], [.sys, .cst]⟩ f = true) (a0 : Nat) (a1 : Bool) :
    Kept f s (State.opStart x a0 a1) := by
  unfold Sys2Proof.Machine.State.opStart
  repeat' first
    | with_reducible assumption
    | with_reducible refine Kept.ite ?_ ?_
    | with_reducible refine Kept.opBegin ?_ (Foot.le_trans (by decide +kernel) hf) _
    | with_reducible refine Kept.modCst ?_ (Foot.le_trans (by decide +kernel) hf) _
    | with_reducible refine Kept.cstUp ?_ (Foot.le_trans (by decide +kernel) hf) _
    | with_reducible refine Kept.barReport ?_ (Foot.le_trans (by decide +kernel) hf)
    | with_reducible refine Kept.cstDown ?_ (Foot.le_trans (by decide +kernel) hf) _
    | with_reducible refine Kept.cancelOps ?_ (Foot.le_trans (by decide +kernel) hf)
    | split

theorem Kept.opCmd {f : Foot} {s x : State} (h : Kept f s x) (hf : Foot.le ⟨false, [0x00, 0x19], [], [.freeCtr, .sys, .cst]⟩ f = true) (a0 : Word) :
    Kept.res f s (State.opCmd x a0) := by
  unfold Sys2Proof.Machine.State.opCmd
  repeat' first
    | with_reducible assumption
    | with_reducible refine Kept.ite ?_ ?_
    | with_reducible refine Kept.res_ite ?_ ?_
    | with_reducible refine Kept.res_ok ?_
    | with_reducible exact Kept.res_error _ _ _
    | with_reducible refine Kept.bcPop ?_ (Foot.le_trans (by decide +kernel) hf)
    | with_reducible refine Kept.opStart ?_ (Foot.le_trans (by decide +kernel) hf) _ _
    | with_reducible refine Kept.foldl _ (fun y b hy => ?_) ?_

theorem Kept.cstHoldover {f : Foot} {s x : State} (h : Kept f s x) (hf : Foot.le ⟨false, [0x03, 0x19], [], [.alm, .cst]⟩ f = true) :
    Kept f s (State.cstHoldover x) := by
  unfold Sys2Proof.Machine.State.cstHoldover
  repeat' first
    | with_reducible assumption
    | with_reducible refine Kept.ite ?_ ?_
    | with_reducible refine Kept.put _ _ ?_ (Foot.word_of_le hf (by first | decide +kernel))
    | with_reducible refine Kept.modCst ?_ (Foot.le_trans (by decide +kernel) hf) _
    | with_reducible refine Kept.enterHoldover ?_ (Foot.le_trans (by decide +kernel) hf)

theorem Kept.parentLost {f : Foot} {s x : State} (h : Kept f s x) (hf : Foot.le ⟨false, [0x00, 0x19], [], [.sys, .cst]⟩ f = true) :
    Kept f s (State.parentLost x) := by
  unfold Sys2Proof.Machine.State.parentLost
  repeat' first
    | with_reducible assumption
    | with_reducible refine Kept.ite ?_ ?_
    | with_reducible refine Kept.applyAbort ?_ (Foot.le_trans (by decide +kernel) hf) _ _
    | split

theorem Kept.cstLeave {f : Foot} {s x : State} (h : Kept f s x) (hf : Foot.le ⟨false, [0x19], [], []⟩ f = true) :
    Kept f s (State.cstLeave x) := by
  unfold Sys2Proof.Machine.State.cstLeave
  repeat' first
    | with_reducible assumption
    | with_reducible refine Kept.put _ _ ?_ (Foot.word_of_le hf (by first | decide +kernel))

theorem Kept.ringFails {f : Foot} {s x : State} (h : Kept f s x) (hf : Foot.le ⟨false, [0x00, 0x03, 0x19], [], [.sys, .alm, .cst]⟩ f = true) (a0 : Nat) :
    Kept f s (State.ringFails x a0) := by
  unfold Sys2Proof.Machine.State.ringFails
  repeat' first
    | with_reducible assumption
    | with_reducible refine Kept.ite ?_ ?_
    | with_reducible refine Kept.put _ _ ?_ (Foot.word_of_le hf (by first | decide +kernel))
    | with_reducible refine Kept.modCst ?_ (Foot.le_trans (by decide +kernel) hf) _
    | with_reducible refine Kept.cstHoldover ?_ (Foot.le_trans (by decide +kernel) hf)
    | with_reducible refine Kept.parentLost ?_ (Foot.le_trans (by decide +kernel) hf)
    | with_reducible refine Kept.cstLeave ?_ (Foot.le_trans (by decide +kernel) hf)
    | split

theorem Kept.rootLoses {f : Foot} {s x : State} (h : Kept f s x) (hf : Foot.le ⟨false, [0x00, 0x19], [], [.sys, .cst]⟩ f = true) (a0 : Nat) :
    Kept f s (State.rootLoses x a0) := by
  unfold Sys2Proof.Machine.State.rootLoses
  repeat' first
    | with_reducible assumption
    | with_reducible refine Kept.ite ?_ ?_
    | with_reducible refine Kept.put _ _ ?_ (Foot.word_of_le hf (by first | decide +kernel))
    | with_reducible refine Kept.modCst ?_ (Foot.le_trans (by decide +kernel) hf) _
    | with_reducible refine Kept.applyAbort ?_ (Foot.le_trans (by decide +kernel) hf) _ _
    | with_reducible refine Kept.cstDown ?_ (Foot.le_trans (by decide +kernel) hf) _
    | (intro y; refine (fun hy : Kept f s y => ?_) ?_ <;> [clear_value y; skip])
    | split
    | lift_lets

theorem Kept.linkLost {f : Foot} {s x : State} (h : Kept f s x) (hf : Foot.le ⟨false, [0x00, 0x03, 0x19], [], [.sys, .alm, .cst]⟩ f = true) (a0 : Nat) (a1 : Nat) :
    Kept f s (State.linkLost x a0 a1) := by
  unfold Sys2Proof.Machine.State.linkLost
  repeat' first
    | with_reducible assumption
    | with_reducible refine Kept.ite ?_ ?_
    | with_reducible refine Kept.ringFails ?_ (Foot.le_trans (by decide +kernel) hf) _
    | with_reducible refine Kept.cstHoldover ?_ (Foot.le_trans (by decide +kernel) hf)
    | with_reducible refine Kept.cstLeave ?_ (Foot.le_trans (by decide +kernel) hf)
    | with_reducible refine Kept.parentLost ?_ (Foot.le_trans (by decide +kernel) hf)
    | with_reducible refine Kept.rootLoses ?_ (Foot.le_trans (by decide +kernel) hf) _

theorem Kept.cstRules {f : Foot} {s x : State} (h : Kept f s x) (hf : Foot.le ⟨false, [0x00, 0x03, 0x19], [], [.freeCtr, .sys, .alm, .cst]⟩ f = true) (b0 : Source) (b1 : Nat) (b2 : Word) :
    Kept.res f s (cstRules.act b0 b1 b2 x) := by
  unfold Sys2Proof.Machine.cstRules
  repeat' first
    | with_reducible assumption
    | with_reducible refine Kept.ite ?_ ?_
    | with_reducible refine Kept.res_ite ?_ ?_
    | with_reducible refine Kept.res_ok ?_
    | with_reducible exact Kept.res_error _ _ _
    | with_reducible refine Kept.opCmd ?_ (Foot.le_trans (by decide +kernel) hf) _
    | with_reducible refine Kept.put _ _ ?_ (Foot.word_of_le hf (by first | decide +kernel | (simp only [CST_PORT_CTRL.addr_win, CST_PORT_STAT.STATE, CST_PORT_STAT.addr_win, CST_PORT_CTRL.EN, CST_PORT_STAT.CAUSE]; first | decide +kernel | (split <;> decide +kernel))))
    | with_reducible refine Kept.linkLost ?_ (Foot.le_trans (by decide +kernel) hf) _ _
    | split

theorem Kept.cstLockStep {f : Foot} {s x : State} (h : Kept f s x) (hf : Foot.le ⟨false, [0x19], [], [.alm, .cst]⟩ f = true) (a0 : Int) :
    Kept f s (State.cstLockStep x a0) := by
  unfold Sys2Proof.Machine.State.cstLockStep
  repeat' first
    | with_reducible assumption
    | with_reducible refine Kept.ite ?_ ?_
    | with_reducible refine Kept.modCst ?_ (Foot.le_trans (by decide +kernel) hf) _
    | with_reducible refine Kept.put _ _ ?_ (Foot.word_of_le hf (by first | decide +kernel))
    | (intro y; refine (fun hy : Kept f s y => ?_) ?_ <;> [clear_value y; skip])
    | intro y
    | split
    | lift_lets
    | with_reducible exact Kept.set_alm _ (by with_reducible assumption) (Foot.part_of_le hf (by decide +kernel : Foot.part _ .alm = true))

theorem Kept.execApplyCommit {f : Foot} {s x : State} (h : Kept f s x) (hf : Foot.le ⟨false, [0x00, 0x02, 0x03, 0x04, 0x05, 0x06, 0x07, 0x08, 0x09, 0x0A, 0x0B, 0x0C, 0x10, 0x12, 0x13, 0x15, 0x16, 0x17, 0x18, 0x19, 0x1B], [0x00, 0x01, 0x02, 0x03, 0x04, 0x05, 0x06, 0x07, 0x08, 0x09, 0x0A, 0x0B, 0x0C, 0x0D, 0x0E, 0x0F, 0x10, 0x11, 0x12, 0x13, 0x14, 0x15, 0x16, 0x17, 0x18, 0x19, 0x1A, 0x1B], [.sram, .gddr, .freeCtr, .pins, .sys, .flt, .alm, .lnk, .fcv, .ddc, .fft, .trg, .acq, .neb, .lod, .dma, .spt, .mem, .aux, .srv, .cst]⟩ f = true) (a0 : ApplyEnd) :
    ∃ t, execApplyCommit a0 x = .next t ∧ Kept f s t := by
  unfold Sys2Proof.Machine.execApplyCommit
  refine ⟨_, rfl, ?_⟩
  repeat' first
    | with_reducible assumption
    | with_reducible refine Kept.ite ?_ ?_
    | with_reducible refine Kept.cstDown ?_ (Foot.le_trans (by decide +kernel) hf) _
    | with_reducible refine Kept.applyCommit ?_ (Foot.le_trans (by decide +kernel) hf) _
    | with_reducible refine Kept.modCst ?_ (Foot.le_trans (by decide +kernel) hf) _
    | with_reducible refine Kept.applyAbort ?_ (Foot.le_trans (by decide +kernel) hf) _ _
    | split

theorem Kept.execApplyPrepare {f : Foot} {s x : State} (h : Kept f s x) (hf : Foot.le ⟨false, [0x00, 0x19], [], [.sys, .fft, .cst]⟩ f = true) (a0 : Word) :
    ∃ t, execApplyPrepare a0 x = .next t ∧ Kept f s t := by
  unfold Sys2Proof.Machine.execApplyPrepare
  refine ⟨_, rfl, ?_⟩
  repeat' first
    | with_reducible assumption
    | with_reducible refine Kept.ite ?_ ?_
    | with_reducible refine Kept.cstDown ?_ (Foot.le_trans (by decide +kernel) hf) _
    | with_reducible refine Kept.opBegin ?_ (Foot.le_trans (by decide +kernel) hf) _
    | with_reducible refine Kept.updateBegin ?_ (Foot.le_trans (by decide +kernel) hf) _ _ _ _ _
    | with_reducible refine Kept.admitWith ?_ (Foot.le_trans (by decide +kernel) hf) _ _
    | with_reducible refine Kept.winCheck ?_ (Foot.le_trans (by decide +kernel) hf) _
    | with_reducible refine Kept.put _ _ ?_ (Foot.word_of_le hf (by first | decide +kernel))
    | with_reducible refine Kept.applyCollect ?_ (Foot.le_trans (by decide +kernel) hf)
    | with_reducible refine Kept.modCst ?_ (Foot.le_trans (by decide +kernel) hf) _
    | split

theorem Kept.execArrivalReport {f : Foot} {s x : State} (h : Kept f s x) (hf : Foot.le ⟨false, [], [], [.cst]⟩ f = true) (a0 : Fin 4) :
    ∃ t, execArrivalReport a0 x = .next t ∧ Kept f s t := by
  unfold Sys2Proof.Machine.execArrivalReport
  refine ⟨_, rfl, ?_⟩
  repeat' first
    | with_reducible assumption
    | with_reducible refine Kept.ite ?_ ?_
    | with_reducible refine Kept.barReport ?_ (Foot.le_trans (by decide +kernel) hf)
    | with_reducible refine Kept.modCst ?_ (Foot.le_trans (by decide +kernel) hf) _

theorem Kept.execArrive {f : Foot} {s x : State} (h : Kept f s x) (hf : Foot.le ⟨false, [0x00, 0x03, 0x19], [], [.freeCtr, .resp, .sys, .alm, .cst]⟩ f = true) (a0 : Source) (a1 : Word) :
    ∃ t, execArrive a0 a1 x = .next t ∧ Kept f s t := by
  unfold Sys2Proof.Machine.execArrive
  refine ⟨_, rfl, ?_⟩
  repeat' first
    | with_reducible assumption
    | with_reducible refine Kept.writeReg ?_ (fun y b0 b1 b2 => Kept.cstRules (Kept.refl _ y) (Foot.le_trans (by decide +kernel) hf) b0 b1 b2) (Foot.word_of_le hf (by first | decide +kernel)) (Foot.word_of_le hf (by first | decide +kernel)) (Foot.word_of_le hf (by decide +kernel)) (Foot.part_of_le hf (by decide +kernel : Foot.part _ .resp = true)) (Foot.part_of_le hf (by decide +kernel : Foot.part _ .sys = true))

theorem Kept.execBarrierRelease {f : Foot} {s x : State} (h : Kept f s x) (hf : Foot.le ⟨false, [0x19], [], [.cst]⟩ f = true) (a0 : Stamp) (a1 : Bool) :
    ∃ t, execBarrierRelease a0 a1 x = .next t ∧ Kept f s t := by
  unfold Sys2Proof.Machine.execBarrierRelease
  refine ⟨_, rfl, ?_⟩
  repeat' first
    | with_reducible assumption
    | with_reducible refine Kept.ite ?_ ?_
    | with_reducible refine Kept.barRelease' ?_ (Foot.le_trans (by decide +kernel) hf) _ _

theorem Kept.execBcPop {f : Foot} {s x : State} (h : Kept f s x) (hf : Foot.le ⟨false, [0x00, 0x03, 0x19], [], [.freeCtr, .resp, .sys, .alm, .cst]⟩ f = true) (a0 : Source) (a1 : Word) :
    ∃ t, execBcPop a0 a1 x = .next t ∧ Kept f s t := by
  unfold Sys2Proof.Machine.execBcPop
  refine ⟨_, rfl, ?_⟩
  repeat' first
    | with_reducible assumption
    | with_reducible refine Kept.writeReg ?_ (fun y b0 b1 b2 => Kept.cstRules (Kept.refl _ y) (Foot.le_trans (by decide +kernel) hf) b0 b1 b2) (Foot.word_of_le hf (by first | decide +kernel)) (Foot.word_of_le hf (by first | decide +kernel)) (Foot.word_of_le hf (by decide +kernel)) (Foot.part_of_le hf (by decide +kernel : Foot.part _ .resp = true)) (Foot.part_of_le hf (by decide +kernel : Foot.part _ .sys = true))

theorem Kept.execBcast {f : Foot} {s x : State} (h : Kept f s x) (hf : Foot.le ⟨false, [0x00, 0x03, 0x19], [], [.freeCtr, .resp, .sys, .alm, .cst]⟩ f = true) (a0 : Source) (a1 : Word) :
    ∃ t, execBcast a0 a1 x = .next t ∧ Kept f s t := by
  unfold Sys2Proof.Machine.execBcast
  refine ⟨_, rfl, ?_⟩
  repeat' first
    | with_reducible assumption
    | with_reducible refine Kept.writeReg ?_ (fun y b0 b1 b2 => Kept.cstRules (Kept.refl _ y) (Foot.le_trans (by decide +kernel) hf) b0 b1 b2) (Foot.word_of_le hf (by first | decide +kernel)) (Foot.word_of_le hf (by first | decide +kernel)) (Foot.word_of_le hf (by decide +kernel)) (Foot.part_of_le hf (by decide +kernel : Foot.part _ .resp = true)) (Foot.part_of_le hf (by decide +kernel : Foot.part _ .sys = true))

theorem Kept.execBeaconReceive {f : Foot} {s x : State} (h : Kept f s x) (hf : Foot.le ⟨false, [0x00, 0x03, 0x19, 0x1A, 0x1B], [], [.freeCtr, .flt, .alm, .cst, .boot]⟩ f = true) (a0 : Fin 4) (a1 : Stamp) (a2 : BitVec 2) (a3 : Stamp) (a4 : Nat) :
    ∃ t, execBeaconReceive a0 a1 a2 a3 a4 x = .next t ∧ Kept f s t := by
  unfold Sys2Proof.Machine.execBeaconReceive
  refine ⟨_, rfl, ?_⟩
  repeat' first
    | with_reducible assumption
    | with_reducible refine Kept.ite ?_ ?_
    | with_reducible refine Kept.put _ _ ?_ (Foot.word_of_le hf (by first | decide +kernel | (simp only [CST_PORT_DELAY.DELAY, CST_PORT_DELAY.addr_win, CST_PORT_CTRL.ASYM, CST_PORT_CTRL.addr_win]; first | decide +kernel | (split <;> decide +kernel))))
    | with_reducible refine Kept.roundOpen ?_ (Foot.le_trans (by decide +kernel) hf) _ _
    | with_reducible refine Kept.modCst ?_ (Foot.le_trans (by decide +kernel) hf) _
    | with_reducible refine Kept.stepTo ?_ (Foot.le_trans (by decide +kernel) hf) _
    | with_reducible refine Kept.cstLockStep ?_ (Foot.le_trans (by decide +kernel) hf) _
    | with_reducible refine Kept.recSettle ?_ (Foot.le_trans (by decide +kernel) hf)
    | with_reducible refine Kept.almTq ?_ (Foot.le_trans (by decide +kernel) hf)
    | intro y
    | split
    | lift_lets
    | fail_if_no_progress (with_reducible refine Kept.set_alm _ ?_ (Foot.part_of_le hf (by decide +kernel : Foot.part _ .alm = true)))

theorem Kept.execBeaconReply {f : Foot} {s x : State} (h : Kept f s x) (hf : Foot.le ⟨false, [], [], [.cst]⟩ f = true) (a0 : Fin 4) (a1 : Stamp) :
    ∃ t, execBeaconReply a0 a1 x = .next t ∧ Kept f s t := by
  unfold Sys2Proof.Machine.execBeaconReply
  refine ⟨_, rfl, ?_⟩
  repeat' first
    | with_reducible assumption
    | with_reducible refine Kept.ite ?_ ?_
    | with_reducible refine Kept.modCst ?_ (Foot.le_trans (by decide +kernel) hf) _

theorem Kept.execBeaconSend {f : Foot} {s x : State} (h : Kept f s x) (hf : Foot.le ⟨false, [], [], [.cst]⟩ f = true) :
    ∃ t, execBeaconSend x = .next t ∧ Kept f s t := by
  unfold Sys2Proof.Machine.execBeaconSend
  refine ⟨_, rfl, ?_⟩
  repeat' first
    | with_reducible assumption
    | with_reducible refine Kept.ite ?_ ?_
    | with_reducible refine Kept.modCst ?_ (Foot.le_trans (by decide +kernel) hf) _
    | with_reducible refine Kept.foldl _ (fun y b hy => ?_) ?_

theorem Kept.execBroadcastDeliver {f : Foot} {s x : State} (h : Kept f s x) (hf : Foot.le ⟨false, [0x19], [], [.freeCtr, .cst]⟩ f = true) (a0 : BitVec 14) (a1 : Vector Word 8) :
    ∃ t, execBroadcastDeliver a0 a1 x = .next t ∧ Kept f s t := by
  unfold Sys2Proof.Machine.execBroadcastDeliver
  refine ⟨_, rfl, ?_⟩
  repeat' first
    | with_reducible assumption
    | with_reducible refine Kept.ite ?_ ?_
    | with_reducible refine Kept.cstDown ?_ (Foot.le_trans (by decide +kernel) hf) _
    | with_reducible refine Kept.opEnd ?_ (Foot.le_trans (by decide +kernel) hf) _ _ _
    | with_reducible refine Kept.rxShow ?_ (Foot.le_trans (by decide +kernel) hf)
    | with_reducible refine Kept.modCst ?_ (Foot.le_trans (by decide +kernel) hf) _
    | with_reducible refine Kept.put _ _ ?_ (Foot.word_of_le hf (by first | decide +kernel))

theorem Kept.execCstApply {f : Foot} {s x : State} (h : Kept f s x) (hf : Foot.le ⟨false, [0x00, 0x03, 0x19], [], [.freeCtr, .resp, .sys, .alm, .cst]⟩ f = true) (a0 : Source) (a1 : Word) :
    ∃ t, execCstApply a0 a1 x = .next t ∧ Kept f s t := by
  unfold Sys2Proof.Machine.execCstApply
  refine ⟨_, rfl, ?_⟩
  repeat' first
    | with_reducible assumption
    | with_reducible refine Kept.writeReg ?_ (fun y b0 b1 b2 => Kept.cstRules (Kept.refl _ y) (Foot.le_trans (by decide +kernel) hf) b0 b1 b2) (Foot.word_of_le hf (by first | decide +kernel)) (Foot.word_of_le hf (by first | decide +kernel)) (Foot.word_of_le hf (by decide +kernel)) (Foot.part_of_le hf (by decide +kernel : Foot.part _ .resp = true)) (Foot.part_of_le hf (by decide +kernel : Foot.part _ .sys = true))

theorem Kept.execCstReset {f : Foot} {s x : State} (h : Kept f s x) (hf : Foot.le ⟨false, [0x00, 0x03, 0x19], [], [.freeCtr, .resp, .sys, .alm, .cst]⟩ f = true) (a0 : Source) (a1 : Word) :
    ∃ t, execCstReset a0 a1 x = .next t ∧ Kept f s t := by
  unfold Sys2Proof.Machine.execCstReset
  refine ⟨_, rfl, ?_⟩
  repeat' first
    | with_reducible assumption
    | with_reducible refine Kept.writeReg ?_ (fun y b0 b1 b2 => Kept.cstRules (Kept.refl _ y) (Foot.le_trans (by decide +kernel) hf) b0 b1 b2) (Foot.word_of_le hf (by first | decide +kernel)) (Foot.word_of_le hf (by first | decide +kernel)) (Foot.word_of_le hf (by decide +kernel)) (Foot.part_of_le hf (by decide +kernel : Foot.part _ .resp = true)) (Foot.part_of_le hf (by decide +kernel : Foot.part _ .sys = true))

theorem Kept.execCstSnap {f : Foot} {s x : State} (h : Kept f s x) (hf : Foot.le ⟨false, [0x00, 0x03, 0x19], [], [.freeCtr, .resp, .sys, .alm, .cst]⟩ f = true) (a0 : Source) (a1 : Word) :
    ∃ t, execCstSnap a0 a1 x = .next t ∧ Kept f s t := by
  unfold Sys2Proof.Machine.execCstSnap
  refine ⟨_, rfl, ?_⟩
  repeat' first
    | with_reducible assumption
    | with_reducible refine Kept.writeReg ?_ (fun y b0 b1 b2 => Kept.cstRules (Kept.refl _ y) (Foot.le_trans (by decide +kernel) hf) b0 b1 b2) (Foot.word_of_le hf (by first | decide +kernel)) (Foot.word_of_le hf (by first | decide +kernel)) (Foot.word_of_le hf (by decide +kernel)) (Foot.part_of_le hf (by decide +kernel : Foot.part _ .resp = true)) (Foot.part_of_le hf (by decide +kernel : Foot.part _ .sys = true))

theorem Kept.execFrameResend {f : Foot} {s x : State} (h : Kept f s x) (hf : Foot.le ⟨false, [0x19], [], []⟩ f = true) (a0 : Fin 4) :
    ∃ t, execFrameResend a0 x = .next t ∧ Kept f s t := by
  unfold Sys2Proof.Machine.execFrameResend
  refine ⟨_, rfl, ?_⟩
  repeat' first
    | with_reducible assumption
    | with_reducible refine Kept.ite ?_ ?_
    | with_reducible refine Kept.put _ _ ?_ (Foot.word_of_le hf (by first | decide +kernel | (simp only [CST_PORT_CNT.RESENDS, CST_PORT_CNT.addr_win]; first | decide +kernel | (split <;> decide +kernel))))
    | with_reducible refine Kept.bump _ ?_ (Foot.word_of_le hf (by first | decide +kernel | (simp only [CST_PORT_CNT.RESENDS, CST_PORT_CNT.addr_win]; first | decide +kernel | (split <;> decide +kernel))))

theorem Kept.execOpTimeout {f : Foot} {s x : State} (h : Kept f s x) (hf : Foot.le ⟨false, [0x00, 0x19], [], [.sys, .cst]⟩ f = true) (a0 : Fin 5) :
    ∃ t, execOpTimeout a0 x = .next t ∧ Kept f s t := by
  unfold Sys2Proof.Machine.execOpTimeout
  refine ⟨_, rfl, ?_⟩
  repeat' first
    | with_reducible assumption
    | with_reducible refine Kept.ite ?_ ?_
    | with_reducible refine Kept.applyAbort ?_ (Foot.le_trans (by decide +kernel) hf) _ _
    | with_reducible refine Kept.modCst ?_ (Foot.le_trans (by decide +kernel) hf) _
    | with_reducible refine Kept.opEnd ?_ (Foot.le_trans (by decide +kernel) hf) _ _ _

theorem Kept.execPortDown {f : Foot} {s x : State} (h : Kept f s x) (hf : Foot.le ⟨false, [0x00, 0x03, 0x15, 0x19, 0x1B], [], [.sys, .flt, .alm, .cst]⟩ f = true) (a0 : Fin 4) (a1 : BitVec 4) (a2 : Option Nat) (a3 : Nat) :
    ∃ t, execPortDown a0 a1 a2 a3 x = .next t ∧ Kept f s t := by
  unfold Sys2Proof.Machine.execPortDown
  refine ⟨_, rfl, ?_⟩
  repeat' first
    | with_reducible assumption
    | with_reducible refine Kept.ite ?_ ?_
    | with_reducible refine Kept.rootLoses ?_ (Foot.le_trans (by decide +kernel) hf) _
    | with_reducible refine Kept.ringFails ?_ (Foot.le_trans (by decide +kernel) hf) _
    | with_reducible refine Kept.bump _ ?_ (Foot.word_of_le hf (by first | decide +kernel | (simp only [CST_PORT_STAT.STATE, CST_PORT_STAT.addr_win, CST_PORT_STAT.CAUSE, CST_PORT_CNT.DOWNS, CST_PORT_CNT.addr_win]; first | decide +kernel | (split <;> decide +kernel))))
    | with_reducible refine Kept.put _ _ ?_ (Foot.word_of_le hf (by first | decide +kernel | (simp only [CST_PORT_STAT.STATE, CST_PORT_STAT.addr_win, CST_PORT_STAT.CAUSE, CST_PORT_CNT.DOWNS, CST_PORT_CNT.addr_win]; first | decide +kernel | (split <;> decide +kernel))))
    | with_reducible refine Kept.raiseIrq ?_ (Foot.le_trans (by decide +kernel) hf) _
    | with_reducible refine Kept.fltInfo ?_ (Foot.le_trans (by decide +kernel) hf) _ _ _ _ _
    | with_reducible refine Kept.linkLost ?_ (Foot.le_trans (by decide +kernel) hf) _ _
    | split

theorem Kept.execPortUp {f : Foot} {s x : State} (h : Kept f s x) (hf : Foot.le ⟨false, [0x19], [], [.freeCtr, .cst]⟩ f = true) (a0 : Fin 4) (a1 : Nat) (a2 : Option (Nat × Nat × Nat)) (a3 : Option Nat) (a4 : Nat) (a5 : Bool) :
    ∃ t, execPortUp a0 a1 a2 a3 a4 a5 x = .next t ∧ Kept f s t := by
  unfold Sys2Proof.Machine.execPortUp
  refine ⟨_, rfl, ?_⟩
  repeat' first
    | with_reducible assumption
    | with_reducible refine Kept.ite ?_ ?_
    | with_reducible refine Kept.put _ _ ?_ (Foot.word_of_le hf (by first | decide +kernel | (simp only [CST_PORT_STAT.STATE, CST_PORT_STAT.addr_win, CST_PORT_CTRL.EN, CST_PORT_CTRL.addr_win, CST_PORT_DELAY.DELAY, CST_PORT_DELAY.addr_win, CST_PORT_STAT.CAUSE]; first | decide +kernel | (split <;> decide +kernel))))
    | with_reducible refine Kept.roundOpen ?_ (Foot.le_trans (by decide +kernel) hf) _ _
    | with_reducible refine Kept.modCst ?_ (Foot.le_trans (by decide +kernel) hf) _
    | with_reducible refine Kept.putB _ _ ?_ (Foot.word_of_le hf (by first | decide +kernel | (simp only [CST_PORT_STAT.STATE, CST_PORT_STAT.addr_win, CST_PORT_CTRL.EN, CST_PORT_CTRL.addr_win, CST_PORT_DELAY.DELAY, CST_PORT_DELAY.addr_win, CST_PORT_STAT.CAUSE]; first | decide +kernel | (split <;> decide +kernel))))
    | split

theorem Kept.execSnapshotCapture {f : Foot} {s x : State} (h : Kept f s x) (hf : Foot.le ⟨false, [0x00, 0x15, 0x19, 0x1B], [], [.sram, .flt, .dma, .cst]⟩ f = true) (a0 : Option (Stamp × Word × Bool)) :
    ∃ t, execSnapshotCapture a0 x = .next t ∧ Kept f s t := by
  unfold Sys2Proof.Machine.execSnapshotCapture
  refine ⟨_, rfl, ?_⟩
  extract_lets req
  clear_value req
  cases req with
  | none => exact h
  | some p =>
    obtain ⟨t, no, late⟩ := p
    refine Kept.ite h ?_
    have h1 : Kept f s (if x.cstRoot then x else (x.opBegin opSnap).cstDown (.snapshot t no)) :=
      Kept.ite h (Kept.cstDown (Kept.opBegin h (Foot.le_trans (by decide +kernel) hf) _) (Foot.le_trans (by decide +kernel) hf) _)
    revert h1
    generalize (if x.cstRoot = true then x else (x.opBegin opSnap).cstDown (.snapshot t no)) = y
    intro h1
    exact Kept.modCst (Kept.opEnd (Kept.arbServe (Kept.unpoison (Kept.setSramBytes _ h1 (Foot.part_of_le hf (by decide +kernel : Foot.part _ .sram = true)) _) (Foot.le_trans (by decide +kernel) hf) _ _) (Foot.le_trans (by decide +kernel) hf) _ _ _) (Foot.le_trans (by decide +kernel) hf) _ _ _) (Foot.le_trans (by decide +kernel) hf) _

theorem Kept.execVerdictReport {f : Foot} {s x : State} (h : Kept f s x) (hf : Foot.le ⟨false, [0x00, 0x19], [], [.sys, .cst]⟩ f = true) (a0 : Fin 4) (a1 : BitVec 14) (a2 : BitVec 8) :
    ∃ t, execVerdictReport a0 a1 a2 x = .next t ∧ Kept f s t := by
  unfold Sys2Proof.Machine.execVerdictReport
  refine ⟨_, rfl, ?_⟩
  repeat' first
    | with_reducible assumption
    | with_reducible refine Kept.ite ?_ ?_
    | with_reducible refine Kept.applyCollect ?_ (Foot.le_trans (by decide +kernel) hf)
    | with_reducible refine Kept.modCst ?_ (Foot.le_trans (by decide +kernel) hf) _
    | split

end Sys2Proof.Machine
end

