-- ==== Sys2Proof/Laws/KeptSession.lean ====
section
/-! SUPPORT. What the operations of Sys2Proof/Machine/Session.lean change. -/

set_option Elab.async false

set_option linter.all false

namespace Sys2Proof.Machine

theorem Kept.handBegin {f : Foot} {s x : State} (h : Kept f s x) (hf : Foot.le ⟨false, [0x1A], [], [.upd]⟩ f = true) (a0 : HandKind) :
    Kept f s (State.handBegin x a0) := by
  unfold Sys2Proof.Machine.State.handBegin
  repeat' first
    | with_reducible assumption
    | with_reducible refine Kept.put _ _ ?_ (Foot.word_of_le hf (by first | decide +kernel))
    | (intro y; refine (fun hy : Kept f s y => ?_) ?_ <;> [clear_value y; skip])
    | intro y
    | lift_lets
    | with_reducible exact Kept.set_upd _ (by with_reducible assumption) (Foot.part_of_le hf (by decide +kernel : Foot.part _ .upd = true))

theorem Kept.autoRevert {f : Foot} {s x : State} (h : Kept f s x) (hf : Foot.le ⟨false, [0x1A, 0x1B], [], [.flt, .upd]⟩ f = true) :
    Kept f s (State.autoRevert x) := by
  unfold Sys2Proof.Machine.State.autoRevert
  repeat' first
    | with_reducible assumption
    | with_reducible refine Kept.ite ?_ ?_
    | with_reducible refine Kept.handBegin ?_ (Foot.le_trans (by decide +kernel) hf) _
    | with_reducible refine Kept.fltInfo ?_ (Foot.le_trans (by decide +kernel) hf) _ _ _ _ _

theorem Kept.configOff {f : Foot} {s x : State} (h : Kept f s x) (hf : Foot.le ⟨true, [], [], [.latch, .gddr, .pins, .sys, .pwr, .fcv, .ddc, .fft, .trg, .acq, .neb, .dpy, .lod, .dma, .hpt, .spt, .mem, .aux, .srv, .cst]⟩ f = true) :
    Kept f s (State.configOff x) := by
  unfold Sys2Proof.Machine.State.configOff
  repeat' first
    | with_reducible assumption
    | with_reducible refine Kept.ite ?_ ?_
    | with_reducible refine Kept.domainDead ?_ (Foot.le_trans (by decide +kernel) hf) _
    | with_reducible refine Kept.resetBlock ?_ _ _ (by first | exact fun a _ => ⟨Foot.word_of_le hf rfl, Foot.app_of_le hf rfl⟩ | exact fun a ha => ⟨Foot.word_of_le hf (by revert a; decide +kernel), Foot.app_of_le hf (by revert a; decide +kernel)⟩) (Foot.part_of_le hf (by decide +kernel : Foot.part _ .latch = true))
    | with_reducible refine Kept.foldl _ (fun y b hy => ?_) ?_
    | (intro y; refine (fun hy : Kept f s y => ?_) ?_ <;> [clear_value y; skip])
    | intro y
    | lift_lets
    | with_reducible exact Kept.set_fcv_cst_pins _ _ _ (by with_reducible assumption) (Foot.part_of_le hf (by decide +kernel : Foot.part _ .fcv = true)) (Foot.part_of_le hf (by decide +kernel : Foot.part _ .cst = true)) (Foot.part_of_le hf (by decide +kernel : Foot.part _ .pins = true))

theorem Kept.sessEnd {f : Foot} {s x : State} (h : Kept f s x) (hf : Foot.le ⟨false, [0x1A], [], [.upd]⟩ f = true) (a0 : Nat) :
    Kept f s (State.sessEnd x a0) := by
  unfold Sys2Proof.Machine.State.sessEnd
  repeat' first
    | with_reducible assumption
    | with_reducible refine Kept.put _ _ ?_ (Foot.word_of_le hf (by first | decide +kernel))
    | (intro y; refine (fun hy : Kept f s y => ?_) ?_ <;> [clear_value y; skip])
    | intro y
    | lift_lets
    | with_reducible exact Kept.set_upd _ (by with_reducible assumption) (Foot.part_of_le hf (by decide +kernel : Foot.part _ .upd = true))

theorem Kept.configRun {f : Foot} {s x : State} (h : Kept f s x) (hf : Foot.le ⟨true, [], [], [.latch, .gddr, .pins, .sys, .pwr, .fcv, .ddc, .fft, .trg, .acq, .neb, .dpy, .lod, .dma, .hpt, .spt, .mem, .aux, .srv, .cst, .upd, .boot]⟩ f = true) :
    Kept f s (State.configRun x) := by
  unfold Sys2Proof.Machine.State.configRun
  repeat' first
    | with_reducible assumption
    | with_reducible refine Kept.configOff ?_ (Foot.le_trans (by decide +kernel) hf)
    | with_reducible refine Kept.sessEnd ?_ (Foot.le_trans (by decide +kernel) hf) _
    | with_reducible refine Kept.recArrive ?_ (Foot.le_trans (by decide +kernel) hf) _ _
    | intro y
    | lift_lets
    | fail_if_no_progress (with_reducible refine Kept.set_boot _ ?_ (Foot.part_of_le hf (by decide +kernel : Foot.part _ .boot = true)))

theorem Kept.blockAccept {f : Foot} {s x : State} (h : Kept f s x) (hf : Foot.le ⟨true, [], [], [.latch, .gddr, .pins, .sys, .pwr, .fcv, .ddc, .fft, .trg, .acq, .neb, .dpy, .lod, .dma, .hpt, .spt, .mem, .aux, .srv, .cst, .upd, .boot]⟩ f = true) (a0 : Nat) (a1 : Nat) (a2 : BlkHead) :
    Kept f s (State.blockAccept x a0 a1 a2) := by
  unfold Sys2Proof.Machine.State.blockAccept
  repeat' first
    | with_reducible assumption
    | with_reducible refine Kept.ite ?_ ?_
    | with_reducible refine Kept.put _ _ ?_ (Foot.word_of_le hf (by first | decide +kernel))
    | with_reducible refine Kept.configRun ?_ (Foot.le_trans (by decide +kernel) hf)
    | intro y
    | split
    | lift_lets
    | dsimp only
    | fail_if_no_progress (with_reducible refine Kept.set_upd _ ?_ (Foot.part_of_le hf (by decide +kernel : Foot.part _ .upd = true)))

theorem Kept.blockGo {f : Foot} {s x : State} (h : Kept f s x) (hf : Foot.le ⟨true, [], [], [.latch, .gddr, .pins, .sys, .pwr, .fcv, .ddc, .fft, .trg, .acq, .neb, .dpy, .lod, .dma, .hpt, .spt, .mem, .aux, .srv, .cst, .upd, .boot]⟩ f = true) (a0 : Nat) :
    Kept.res f s (State.blockGo x a0) := by
  unfold Sys2Proof.Machine.State.blockGo
  repeat' first
    | with_reducible assumption
    | with_reducible refine Kept.res_ite ?_ ?_
    | with_reducible refine Kept.res_ok ?_
    | with_reducible exact Kept.res_error _ _ _
    | with_reducible refine Kept.put _ _ ?_ (Foot.word_of_le hf (by first | decide +kernel))
    | with_reducible refine Kept.blockAccept ?_ (Foot.le_trans (by decide +kernel) hf) _ _ _
    | split

theorem Kept.eraseFlash {f : Foot} {s x : State} (h : Kept f s x) (hf : Foot.le ⟨false, [], [], [.flash]⟩ f = true) (a0 : Nat) (a1 : Nat) :
    Kept f s (State.eraseFlash x a0 a1) := by
  unfold Sys2Proof.Machine.State.eraseFlash
  repeat' first
    | with_reducible exact Kept.set_flash _ (by with_reducible assumption) (Foot.part_of_le hf (by decide +kernel : Foot.part _ .flash = true)) (fun q => by first | exact q | exact SMap.wf_set _ _ _ _ q | exact SMap.wf_filter _ _ _ q)

theorem Kept.setFlashBytes {f : Foot} {s x : State} (h : Kept f s x) (hf : Foot.le ⟨false, [], [], [.flash]⟩ f = true) (a0 : Nat) (a1 : List Byte) :
    Kept f s (State.setFlashBytes x a0 a1) := by
  induction a1 generalizing x a0 with
  | nil => exact h
  | cons b l ih =>
    unfold Sys2Proof.Machine.State.setFlashBytes
    exact ih (Kept.setFlashByte _ _ h (Foot.part_of_le hf (by decide +kernel : Foot.part _ .flash = true))) _

theorem Kept.writeDir {f : Foot} {s x : State} (h : Kept f s x) (hf : Foot.le ⟨false, [], [], [.flash, .upd]⟩ f = true) :
    Kept f s (State.writeDir x) := by
  unfold Sys2Proof.Machine.State.writeDir
  repeat' first
    | with_reducible refine Kept.setFlashBytes ?_ (Foot.le_trans (by decide +kernel) hf) _ _
    | with_reducible refine Kept.eraseFlash ?_ (Foot.le_trans (by decide +kernel) hf) _ _
    | intro y
    | lift_lets
    | with_reducible exact Kept.set_upd _ (by with_reducible assumption) (Foot.part_of_le hf (by decide +kernel : Foot.part _ .upd = true))

theorem Kept.setSlot {f : Foot} {s x : State} (h : Kept f s x) (hf : Foot.le ⟨false, [0x1A], [], [.upd]⟩ f = true) (a0 : Nat) (a1 : DirSlot) :
    Kept f s (State.setSlot x a0 a1) := by
  unfold Sys2Proof.Machine.State.setSlot
  repeat' first
    | with_reducible refine Kept.put _ _ ?_ (Foot.word_of_le hf (by first | decide +kernel | (simp only [UPD_SLOT.STATE, UPD_SLOT.addr_win, UPD_SLOT.IMG_SEQ]; first | decide +kernel | (split <;> decide +kernel))))
    | intro y
    | split
    | lift_lets
    | with_reducible exact Kept.set_upd _ (by with_reducible assumption) (Foot.part_of_le hf (by decide +kernel : Foot.part _ .upd = true))

theorem Kept.slotState {f : Foot} {s x : State} (h : Kept f s x) (hf : Foot.le ⟨false, [0x1A], [], [.upd]⟩ f = true) (a0 : Nat) (a1 : Nat) :
    Kept f s (State.slotState x a0 a1) := by
  unfold Sys2Proof.Machine.State.slotState
  repeat' first
    | with_reducible assumption
    | with_reducible refine Kept.setSlot ?_ (Foot.le_trans (by decide +kernel) hf) _ _

theorem Kept.updStart {f : Foot} {s x : State} (h : Kept f s x) (hf : Foot.le ⟨false, [0x1A], [], [.flash, .freeCtr, .upd]⟩ f = true) :
    Kept.res f s (State.updStart x) := by
  unfold Sys2Proof.Machine.State.updStart
  repeat' first
    | with_reducible assumption
    | with_reducible refine Kept.ite ?_ ?_
    | with_reducible refine Kept.res_ite ?_ ?_
    | with_reducible refine Kept.res_ok ?_
    | with_reducible exact Kept.res_error _ _ _
    | with_reducible refine Kept.drawFree ?_ (Foot.le_trans (by decide +kernel) hf)
    | with_reducible refine Kept.put _ _ ?_ (Foot.word_of_le hf (by first | decide +kernel))
    | with_reducible refine Kept.eraseFlash ?_ (Foot.le_trans (by decide +kernel) hf) _ _
    | with_reducible refine Kept.writeDir ?_ (Foot.le_trans (by decide +kernel) hf)
    | with_reducible refine Kept.slotState ?_ (Foot.le_trans (by decide +kernel) hf) _ _
    | intro y
    | split
    | lift_lets
    | dsimp only
    | fail_if_no_progress (with_reducible refine Kept.set_upd _ ?_ (Foot.part_of_le hf (by decide +kernel : Foot.part _ .upd = true)))

theorem Kept.handCheck {f : Foot} {s x : State} (h : Kept f s x) (hf : Foot.le ⟨false, [0x00, 0x1A], [], [.sys, .upd]⟩ f = true) (a0 : HandKind) (a1 : Source) :
    Kept f s (State.handCheck x a0 a1) := by
  unfold Sys2Proof.Machine.State.handCheck
  repeat' first
    | with_reducible assumption
    | with_reducible refine Kept.admitRunning ?_ (Foot.le_trans (by decide +kernel) hf)
    | with_reducible refine Kept.refuseOp ?_ (Foot.le_trans (by decide +kernel) hf) _ _ _ _ (Foot.word_of_le hf (by first | decide +kernel))
    | with_reducible refine Kept.put _ _ ?_ (Foot.word_of_le hf (by first | decide +kernel))
    | with_reducible refine Kept.handBegin ?_ (Foot.le_trans (by decide +kernel) hf) _
    | intro y
    | split
    | lift_lets

theorem Kept.trialEnd {f : Foot} {s x : State} (h : Kept f s x) (hf : Foot.le ⟨false, [0x1A], [], []⟩ f = true) :
    Kept f s (State.trialEnd x) := by
  unfold Sys2Proof.Machine.State.trialEnd
  repeat' first
    | with_reducible assumption
    | with_reducible refine Kept.put _ _ ?_ (Foot.word_of_le hf (by first | decide +kernel))

theorem Kept.loadStandby {f : Foot} {s x : State} (h : Kept f s x) (hf : Foot.le ⟨false, [0x1A], [], [.upd]⟩ f = true) (a0 : Nat) :
    Kept f s (State.loadStandby x a0) := by
  unfold Sys2Proof.Machine.State.loadStandby
  repeat' first
    | with_reducible assumption
    | with_reducible refine Kept.put _ _ ?_ (Foot.word_of_le hf (by first | decide +kernel))
    | (intro y; refine (fun hy : Kept f s y => ?_) ?_ <;> [clear_value y; skip])
    | intro y
    | lift_lets
    | with_reducible exact Kept.set_upd _ (by with_reducible assumption) (Foot.part_of_le hf (by decide +kernel : Foot.part _ .upd = true))

theorem Kept.updConfirm {f : Foot} {s x : State} (h : Kept f s x) (hf : Foot.le ⟨false, [0x1A], [], [.flash, .upd]⟩ f = true) :
    Kept f s (State.updConfirm x) := by
  unfold Sys2Proof.Machine.State.updConfirm
  repeat' first
    | with_reducible assumption
    | with_reducible refine Kept.trialEnd ?_ (Foot.le_trans (by decide +kernel) hf)
    | with_reducible refine Kept.slotState ?_ (Foot.le_trans (by decide +kernel) hf) _ _
    | with_reducible refine Kept.loadStandby ?_ (Foot.le_trans (by decide +kernel) hf) _
    | with_reducible refine Kept.writeDir ?_ (Foot.le_trans (by decide +kernel) hf)
    | split

theorem Kept.updCmd {f : Foot} {s x : State} (h : Kept f s x) (hf : Foot.le ⟨false, [0x00, 0x1A], [], [.flash, .freeCtr, .sys, .upd]⟩ f = true) (a0 : Source) (a1 : Nat) :
    Kept.res f s (State.updCmd x a0 a1) := by
  unfold Sys2Proof.Machine.State.updCmd
  repeat' first
    | with_reducible assumption
    | with_reducible refine Kept.ite ?_ ?_
    | with_reducible refine Kept.res_ite ?_ ?_
    | with_reducible refine Kept.res_ok ?_
    | with_reducible exact Kept.res_error _ _ _
    | with_reducible refine Kept.updStart ?_ (Foot.le_trans (by decide +kernel) hf)
    | with_reducible refine Kept.sessEnd ?_ (Foot.le_trans (by decide +kernel) hf) _
    | with_reducible refine Kept.writeDir ?_ (Foot.le_trans (by decide +kernel) hf)
    | with_reducible refine Kept.slotState ?_ (Foot.le_trans (by decide +kernel) hf) _ _
    | with_reducible refine Kept.handCheck ?_ (Foot.le_trans (by decide +kernel) hf) _ _
    | with_reducible refine Kept.updConfirm ?_ (Foot.le_trans (by decide +kernel) hf)
    | with_reducible refine Kept.loadStandby ?_ (Foot.le_trans (by decide +kernel) hf) _
    | split

theorem Kept.updRules {f : Foot} {s x : State} (h : Kept f s x) (hf : Foot.le ⟨true, [], [], [.latch, .gddr, .flash, .freeCtr, .pins, .sys, .pwr, .fcv, .ddc, .fft, .trg, .acq, .neb, .dpy, .lod, .dma, .hpt, .spt, .mem, .aux, .srv, .cst, .upd, .boot]⟩ f = true) (b0 : Source) (b1 : Nat) (b2 : Word) :
    Kept.res f s (updRules.act b0 b1 b2 x) := by
  unfold Sys2Proof.Machine.updRules
  repeat' first
    | with_reducible assumption
    | with_reducible refine Kept.res_ite ?_ ?_
    | with_reducible refine Kept.res_ok ?_
    | with_reducible exact Kept.res_error _ _ _
    | with_reducible refine Kept.updCmd ?_ (Foot.le_trans (by decide +kernel) hf) _ _
    | with_reducible refine Kept.blockGo ?_ (Foot.le_trans (by decide +kernel) hf) _
    | split

theorem Kept.swapRoles {f : Foot} {s x : State} (h : Kept f s x) (hf : Foot.le ⟨false, [0x1A], [], []⟩ f = true) :
    Kept f s (State.swapRoles x) := by
  unfold Sys2Proof.Machine.State.swapRoles
  repeat' first
    | with_reducible assumption
    | with_reducible refine Kept.setWord _ _ ?_ (Foot.word_of_le hf (by first | decide +kernel))
    | with_reducible refine Kept.put _ _ ?_ (Foot.word_of_le hf (by first | decide +kernel))

theorem Kept.updHand {f : Foot} {s x : State} (h : Kept f s x) (hf : Foot.le ⟨true, [], [], [.latch, .gddr, .flash, .freeCtr, .resp, .pins, .sys, .pwr, .fcv, .ddc, .fft, .trg, .acq, .neb, .dpy, .lod, .dma, .hpt, .spt, .mem, .aux, .srv, .cst, .upd, .boot]⟩ f = true) (a0 : Source) (a1 : Word) :
    Kept f s (State.updHand x a0 a1) := by
  unfold Sys2Proof.Machine.State.updHand
  repeat' first
    | with_reducible assumption
    | with_reducible refine Kept.writeReg ?_ (fun y b0 b1 b2 => Kept.updRules (Kept.refl _ y) (Foot.le_trans (by decide +kernel) hf) b0 b1 b2) (Foot.word_of_le hf (by first | decide +kernel)) (Foot.word_of_le hf (by first | decide +kernel)) (Foot.word_of_le hf (by decide +kernel)) (Foot.part_of_le hf (by decide +kernel : Foot.part _ .resp = true)) (Foot.part_of_le hf (by decide +kernel : Foot.part _ .sys = true))

theorem Kept.execBlockProgrammed {f : Foot} {s x : State} (h : Kept f s x) (hf : Foot.le ⟨false, [0x1A], [], [.flash, .upd]⟩ f = true) :
    ∃ t, execBlockProgrammed x = .next t ∧ Kept f s t := by
  unfold Sys2Proof.Machine.execBlockProgrammed
  refine ⟨_, rfl, ?_⟩
  repeat' first
    | with_reducible assumption
    | with_reducible refine Kept.ite ?_ ?_
    | with_reducible refine Kept.setFlashBytes ?_ (Foot.le_trans (by decide +kernel) hf) _ _
    | with_reducible refine Kept.put _ _ ?_ (Foot.word_of_le hf (by first | decide +kernel))
    | (intro y; refine (fun hy : Kept f s y => ?_) ?_ <;> [clear_value y; skip])
    | intro y
    | split
    | lift_lets
    | with_reducible exact Kept.set_upd _ (by with_reducible assumption) (Foot.part_of_le hf (by decide +kernel : Foot.part _ .upd = true))

theorem Kept.execBootnext {f : Foot} {s x : State} (h : Kept f s x) (hf : Foot.le ⟨true, [], [], [.latch, .gddr, .flash, .freeCtr, .resp, .pins, .sys, .pwr, .fcv, .ddc, .fft, .trg, .acq, .neb, .dpy, .lod, .dma, .hpt, .spt, .mem, .aux, .srv, .cst, .upd, .boot]⟩ f = true) (a0 : Source) (a1 : Word) :
    ∃ t, execBootnext a0 a1 x = .next t ∧ Kept f s t := by
  unfold Sys2Proof.Machine.execBootnext
  refine ⟨_, rfl, ?_⟩
  repeat' first
    | with_reducible assumption
    | with_reducible refine Kept.writeReg ?_ (fun y b0 b1 b2 => Kept.updRules (Kept.refl _ y) (Foot.le_trans (by decide +kernel) hf) b0 b1 b2) (Foot.word_of_le hf (by first | decide +kernel)) (Foot.word_of_le hf (by first | decide +kernel)) (Foot.word_of_le hf (by decide +kernel)) (Foot.part_of_le hf (by decide +kernel : Foot.part _ .resp = true)) (Foot.part_of_le hf (by decide +kernel : Foot.part _ .sys = true))

theorem Kept.execConfirm {f : Foot} {s x : State} (h : Kept f s x) (hf : Foot.le ⟨true, [], [], [.latch, .gddr, .flash, .freeCtr, .resp, .pins, .sys, .pwr, .fcv, .ddc, .fft, .trg, .acq, .neb, .dpy, .lod, .dma, .hpt, .spt, .mem, .aux, .srv, .cst, .upd, .boot]⟩ f = true) (a0 : Source) (a1 : Word) :
    ∃ t, execConfirm a0 a1 x = .next t ∧ Kept f s t := by
  unfold Sys2Proof.Machine.execConfirm
  refine ⟨_, rfl, ?_⟩
  repeat' first
    | with_reducible assumption
    | with_reducible refine Kept.writeReg ?_ (fun y b0 b1 b2 => Kept.updRules (Kept.refl _ y) (Foot.le_trans (by decide +kernel) hf) b0 b1 b2) (Foot.word_of_le hf (by first | decide +kernel)) (Foot.word_of_le hf (by first | decide +kernel)) (Foot.word_of_le hf (by decide +kernel)) (Foot.part_of_le hf (by decide +kernel : Foot.part _ .resp = true)) (Foot.part_of_le hf (by decide +kernel : Foot.part _ .sys = true))

theorem Kept.execCopyBlock {f : Foot} {s x : State} (h : Kept f s x) (hf : Foot.le ⟨true, [], [], [.latch, .gddr, .flash, .freeCtr, .resp, .pins, .sys, .pwr, .fcv, .ddc, .fft, .trg, .acq, .neb, .dpy, .lod, .dma, .hpt, .spt, .mem, .aux, .srv, .cst, .upd, .boot]⟩ f = true) (a0 : Source) (a1 : Word) :
    ∃ t, execCopyBlock a0 a1 x = .next t ∧ Kept f s t := by
  unfold Sys2Proof.Machine.execCopyBlock
  refine ⟨_, rfl, ?_⟩
  repeat' first
    | with_reducible assumption
    | with_reducible refine Kept.updHand ?_ (Foot.le_trans (by decide +kernel) hf) _ _

theorem Kept.execDataBlock {f : Foot} {s x : State} (h : Kept f s x) (hf : Foot.le ⟨true, [], [], [.latch, .gddr, .flash, .freeCtr, .resp, .pins, .sys, .pwr, .fcv, .ddc, .fft, .trg, .acq, .neb, .dpy, .lod, .dma, .hpt, .spt, .mem, .aux, .srv, .cst, .upd, .boot]⟩ f = true) (a0 : Source) (a1 : Word) :
    ∃ t, execDataBlock a0 a1 x = .next t ∧ Kept f s t := by
  unfold Sys2Proof.Machine.execDataBlock
  refine ⟨_, rfl, ?_⟩
  repeat' first
    | with_reducible assumption
    | with_reducible refine Kept.updHand ?_ (Foot.le_trans (by decide +kernel) hf) _ _

theorem Kept.execEndBlock {f : Foot} {s x : State} (h : Kept f s x) (hf : Foot.le ⟨true, [], [], [.latch, .gddr, .flash, .freeCtr, .resp, .pins, .sys, .pwr, .fcv, .ddc, .fft, .trg, .acq, .neb, .dpy, .lod, .dma, .hpt, .spt, .mem, .aux, .srv, .cst, .upd, .boot]⟩ f = true) (a0 : Source) (a1 : Word) :
    ∃ t, execEndBlock a0 a1 x = .next t ∧ Kept f s t := by
  unfold Sys2Proof.Machine.execEndBlock
  refine ⟨_, rfl, ?_⟩
  repeat' first
    | with_reducible assumption
    | with_reducible refine Kept.updHand ?_ (Foot.le_trans (by decide +kernel) hf) _ _

theorem Kept.execFillBlock {f : Foot} {s x : State} (h : Kept f s x) (hf : Foot.le ⟨true, [], [], [.latch, .gddr, .flash, .freeCtr, .resp, .pins, .sys, .pwr, .fcv, .ddc, .fft, .trg, .acq, .neb, .dpy, .lod, .dma, .hpt, .spt, .mem, .aux, .srv, .cst, .upd, .boot]⟩ f = true) (a0 : Source) (a1 : Word) :
    ∃ t, execFillBlock a0 a1 x = .next t ∧ Kept f s t := by
  unfold Sys2Proof.Machine.execFillBlock
  refine ⟨_, rfl, ?_⟩
  repeat' first
    | with_reducible assumption
    | with_reducible refine Kept.updHand ?_ (Foot.le_trans (by decide +kernel) hf) _ _

theorem Kept.execFlashFail {f : Foot} {s x : State} (h : Kept f s x) (hf : Foot.le ⟨false, [0x1A], [], [.flash, .upd]⟩ f = true) :
    ∃ t, execFlashFail x = .next t ∧ Kept f s t := by
  unfold Sys2Proof.Machine.execFlashFail
  refine ⟨_, rfl, ?_⟩
  repeat' first
    | with_reducible assumption
    | with_reducible refine Kept.ite ?_ ?_
    | with_reducible refine Kept.put _ _ ?_ (Foot.word_of_le hf (by first | decide +kernel))
    | with_reducible refine Kept.sessEnd ?_ (Foot.le_trans (by decide +kernel) hf) _
    | with_reducible refine Kept.writeDir ?_ (Foot.le_trans (by decide +kernel) hf)
    | with_reducible refine Kept.slotState ?_ (Foot.le_trans (by decide +kernel) hf) _ _
    | split

theorem Kept.execHandover {f : Foot} {s x : State} (h : Kept f s x) (hf : Foot.le ⟨true, [], [], [.latch, .gddr, .flash, .freeCtr, .resp, .pins, .sys, .pwr, .fcv, .ddc, .fft, .trg, .acq, .neb, .dpy, .lod, .dma, .hpt, .spt, .mem, .aux, .srv, .cst, .upd, .boot]⟩ f = true) (a0 : Source) (a1 : Word) :
    ∃ t, execHandover a0 a1 x = .next t ∧ Kept f s t := by
  unfold Sys2Proof.Machine.execHandover
  refine ⟨_, rfl, ?_⟩
  repeat' first
    | with_reducible assumption
    | with_reducible refine Kept.writeReg ?_ (fun y b0 b1 b2 => Kept.updRules (Kept.refl _ y) (Foot.le_trans (by decide +kernel) hf) b0 b1 b2) (Foot.word_of_le hf (by first | decide +kernel)) (Foot.word_of_le hf (by first | decide +kernel)) (Foot.word_of_le hf (by decide +kernel)) (Foot.part_of_le hf (by decide +kernel : Foot.part _ .resp = true)) (Foot.part_of_le hf (by decide +kernel : Foot.part _ .sys = true))

theorem Kept.execHandoverResume {f : Foot} {s x : State} (h : Kept f s x) (hf : Foot.le ⟨false, [0x15, 0x1A, 0x1B], [], [.flt, .upd]⟩ f = true) :
    ∃ t, execHandoverResume x = .next t ∧ Kept f s t := by
  unfold Sys2Proof.Machine.execHandoverResume
  refine ⟨_, rfl, ?_⟩
  repeat' first
    | with_reducible assumption
    | with_reducible refine Kept.ite ?_ ?_
    | with_reducible refine Kept.moveRecords ?_ (Foot.le_trans (by decide +kernel) hf) _
    | with_reducible refine Kept.put _ _ ?_ (Foot.word_of_le hf (by first | decide +kernel))
    | (intro y; refine (fun hy : Kept f s y => ?_) ?_ <;> [clear_value y; skip])
    | intro y
    | lift_lets
    | with_reducible exact Kept.set_upd _ (by with_reducible assumption) (Foot.part_of_le hf (by decide +kernel : Foot.part _ .upd = true))

theorem Kept.execHandoverSwitch {f : Foot} {s x : State} (h : Kept f s x) (hf : Foot.le ⟨false, [0x1A], [], [.flash, .upd]⟩ f = true) :
    ∃ t, execHandoverSwitch x = .next t ∧ Kept f s t := by
  unfold Sys2Proof.Machine.execHandoverSwitch
  refine ⟨_, rfl, ?_⟩
  repeat' first
    | with_reducible assumption
    | with_reducible refine Kept.ite ?_ ?_
    | with_reducible refine Kept.swapRoles ?_ (Foot.le_trans (by decide +kernel) hf)
    | with_reducible refine Kept.writeDir ?_ (Foot.le_trans (by decide +kernel) hf)
    | with_reducible refine Kept.slotState ?_ (Foot.le_trans (by decide +kernel) hf) _ _
    | with_reducible refine Kept.put _ _ ?_ (Foot.word_of_le hf (by first | decide +kernel))
    | with_reducible refine Kept.bump _ ?_ (Foot.word_of_le hf (by first | decide +kernel))
    | with_reducible refine Kept.trialEnd ?_ (Foot.le_trans (by decide +kernel) hf)
    | (intro y; refine (fun hy : Kept f s y => ?_) ?_ <;> [clear_value y; skip])
    | intro y
    | split
    | lift_lets
    | with_reducible exact Kept.set_upd _ (by with_reducible assumption) (Foot.part_of_le hf (by decide +kernel : Foot.part _ .upd = true))

theorem Kept.execLoadstby {f : Foot} {s x : State} (h : Kept f s x) (hf : Foot.le ⟨true, [], [], [.latch, .gddr, .flash, .freeCtr, .resp, .pins, .sys, .pwr, .fcv, .ddc, .fft, .trg, .acq, .neb, .dpy, .lod, .dma, .hpt, .spt, .mem, .aux, .srv, .cst, .upd, .boot]⟩ f = true) (a0 : Source) (a1 : Word) :
    ∃ t, execLoadstby a0 a1 x = .next t ∧ Kept f s t := by
  unfold Sys2Proof.Machine.execLoadstby
  refine ⟨_, rfl, ?_⟩
  repeat' first
    | with_reducible assumption
    | with_reducible refine Kept.writeReg ?_ (fun y b0 b1 b2 => Kept.updRules (Kept.refl _ y) (Foot.le_trans (by decide +kernel) hf) b0 b1 b2) (Foot.word_of_le hf (by first | decide +kernel)) (Foot.word_of_le hf (by first | decide +kernel)) (Foot.word_of_le hf (by decide +kernel)) (Foot.part_of_le hf (by decide +kernel : Foot.part _ .resp = true)) (Foot.part_of_le hf (by decide +kernel : Foot.part _ .sys = true))

theorem Kept.execRevert {f : Foot} {s x : State} (h : Kept f s x) (hf : Foot.le ⟨true, [], [], [.latch, .gddr, .flash, .freeCtr, .resp, .pins, .sys, .pwr, .fcv, .ddc, .fft, .trg, .acq, .neb, .dpy, .lod, .dma, .hpt, .spt, .mem, .aux, .srv, .cst, .upd, .boot]⟩ f = true) (a0 : Source) (a1 : Word) :
    ∃ t, execRevert a0 a1 x = .next t ∧ Kept f s t := by
  unfold Sys2Proof.Machine.execRevert
  refine ⟨_, rfl, ?_⟩
  repeat' first
    | with_reducible assumption
    | with_reducible refine Kept.writeReg ?_ (fun y b0 b1 b2 => Kept.updRules (Kept.refl _ y) (Foot.le_trans (by decide +kernel) hf) b0 b1 b2) (Foot.word_of_le hf (by first | decide +kernel)) (Foot.word_of_le hf (by first | decide +kernel)) (Foot.word_of_le hf (by decide +kernel)) (Foot.part_of_le hf (by decide +kernel : Foot.part _ .resp = true)) (Foot.part_of_le hf (by decide +kernel : Foot.part _ .sys = true))

theorem Kept.execSlotVerify {f : Foot} {s x : State} (h : Kept f s x) (hf : Foot.le ⟨false, [0x00, 0x1A], [], [.flash, .sys, .upd]⟩ f = true) (a0 : BitVec 8) (a1 : Bool) :
    ∃ t, execSlotVerify a0 a1 x = .next t ∧ Kept f s t := by
  unfold Sys2Proof.Machine.execSlotVerify
  refine ⟨_, rfl, ?_⟩
  repeat' first
    | with_reducible assumption
    | with_reducible refine Kept.ite ?_ ?_
    | with_reducible refine Kept.loadStandby ?_ (Foot.le_trans (by decide +kernel) hf) _
    | with_reducible refine Kept.sessEnd ?_ (Foot.le_trans (by decide +kernel) hf) _
    | with_reducible refine Kept.writeDir ?_ (Foot.le_trans (by decide +kernel) hf)
    | with_reducible refine Kept.setSlot ?_ (Foot.le_trans (by decide +kernel) hf) _ _
    | with_reducible refine Kept.slotState ?_ (Foot.le_trans (by decide +kernel) hf) _ _
    | with_reducible refine Kept.put _ _ ?_ (Foot.word_of_le hf (by first | decide +kernel))
    | with_reducible refine Kept.logErr ?_ (Foot.le_trans (by decide +kernel) hf) _ _
    | with_reducible refine Kept.blockErr ?_ _ _ _ _ (Foot.word_of_le hf (by decide +kernel))
    | split

theorem Kept.execStandbyLoaded {f : Foot} {s x : State} (h : Kept f s x) (hf : Foot.le ⟨false, [0x1A, 0x1B], [], [.flt]⟩ f = true) (a0 : Bool) :
    ∃ t, execStandbyLoaded a0 x = .next t ∧ Kept f s t := by
  unfold Sys2Proof.Machine.execStandbyLoaded
  refine ⟨_, rfl, ?_⟩
  repeat' first
    | with_reducible assumption
    | with_reducible refine Kept.ite ?_ ?_
    | with_reducible refine Kept.setWord _ _ ?_ (Foot.word_of_le hf (by first | decide +kernel))
    | with_reducible refine Kept.put _ _ ?_ (Foot.word_of_le hf (by first | decide +kernel))
    | with_reducible refine Kept.fltInfo ?_ (Foot.le_trans (by decide +kernel) hf) _ _ _ _ _

theorem Kept.execTrialExpiry {f : Foot} {s x : State} (h : Kept f s x) (hf : Foot.le ⟨false, [0x1A, 0x1B], [], [.flt, .upd]⟩ f = true) :
    ∃ t, execTrialExpiry x = .next t ∧ Kept f s t := by
  unfold Sys2Proof.Machine.execTrialExpiry
  refine ⟨_, rfl, ?_⟩
  repeat' first
    | with_reducible assumption
    | with_reducible refine Kept.ite ?_ ?_
    | with_reducible refine Kept.autoRevert ?_ (Foot.le_trans (by decide +kernel) hf)
    | with_reducible refine Kept.put _ _ ?_ (Foot.word_of_le hf (by first | decide +kernel))

theorem Kept.execUpdAbort {f : Foot} {s x : State} (h : Kept f s x) (hf : Foot.le ⟨true, [], [], [.latch, .gddr, .flash, .freeCtr, .resp, .pins, .sys, .pwr, .fcv, .ddc, .fft, .trg, .acq, .neb, .dpy, .lod, .dma, .hpt, .spt, .mem, .aux, .srv, .cst, .upd, .boot]⟩ f = true) (a0 : Source) (a1 : Word) :
    ∃ t, execUpdAbort a0 a1 x = .next t ∧ Kept f s t := by
  unfold Sys2Proof.Machine.execUpdAbort
  refine ⟨_, rfl, ?_⟩
  repeat' first
    | with_reducible assumption
    | with_reducible refine Kept.writeReg ?_ (fun y b0 b1 b2 => Kept.updRules (Kept.refl _ y) (Foot.le_trans (by decide +kernel) hf) b0 b1 b2) (Foot.word_of_le hf (by first | decide +kernel)) (Foot.word_of_le hf (by first | decide +kernel)) (Foot.word_of_le hf (by decide +kernel)) (Foot.part_of_le hf (by decide +kernel : Foot.part _ .resp = true)) (Foot.part_of_le hf (by decide +kernel : Foot.part _ .sys = true))

theorem Kept.execUpdStart {f : Foot} {s x : State} (h : Kept f s x) (hf : Foot.le ⟨true, [], [], [.latch, .gddr, .flash, .freeCtr, .resp, .pins, .sys, .pwr, .fcv, .ddc, .fft, .trg, .acq, .neb, .dpy, .lod, .dma, .hpt, .spt, .mem, .aux, .srv, .cst, .upd, .boot]⟩ f = true) (a0 : Source) (a1 : Word) :
    ∃ t, execUpdStart a0 a1 x = .next t ∧ Kept f s t := by
  unfold Sys2Proof.Machine.execUpdStart
  refine ⟨_, rfl, ?_⟩
  repeat' first
    | with_reducible assumption
    | with_reducible refine Kept.writeReg ?_ (fun y b0 b1 b2 => Kept.updRules (Kept.refl _ y) (Foot.le_trans (by decide +kernel) hf) b0 b1 b2) (Foot.word_of_le hf (by first | decide +kernel)) (Foot.word_of_le hf (by first | decide +kernel)) (Foot.word_of_le hf (by decide +kernel)) (Foot.part_of_le hf (by decide +kernel : Foot.part _ .resp = true)) (Foot.part_of_le hf (by decide +kernel : Foot.part _ .sys = true))

theorem Kept.execWatchdogExpiry {f : Foot} {s x : State} (h : Kept f s x) (hf : Foot.le ⟨false, [0x00, 0x15, 0x1A, 0x1B], [], [.pins, .flt, .upd]⟩ f = true) (a0 : Bool) :
    ∃ t, execWatchdogExpiry a0 x = .next t ∧ Kept f s t := by
  unfold Sys2Proof.Machine.execWatchdogExpiry
  refine ⟨_, rfl, ?_⟩
  repeat' first
    | with_reducible assumption
    | with_reducible refine Kept.ite ?_ ?_
    | with_reducible refine Kept.put _ _ ?_ (Foot.word_of_le hf (by first | decide +kernel))
    | with_reducible refine Kept.autoRevert ?_ (Foot.le_trans (by decide +kernel) hf)
    | with_reducible refine Kept.loadStandby ?_ (Foot.le_trans (by decide +kernel) hf) _
    | with_reducible refine Kept.swapRoles ?_ (Foot.le_trans (by decide +kernel) hf)
    | with_reducible refine Kept.fltInfo ?_ (Foot.le_trans (by decide +kernel) hf) _ _ _ _ _
    | with_reducible refine Kept.bump _ ?_ (Foot.word_of_le hf (by first | decide +kernel))
    | with_reducible refine Kept.fltFatal ?_ (Foot.le_trans (by decide +kernel) hf) _ _ _ _ _

end Sys2Proof.Machine
end

