-- ==== Sys2Proof/Laws/KeptRegBus.lean ====
section
/-! SUPPORT. What the operations of Sys2Proof/Machine/RegBus.lean change. -/

set_option Elab.async false

set_option linter.all false

namespace Sys2Proof.Machine

theorem Kept.emptyAccess {f : Foot} {s x : State} (h : Kept f s x) (hf : Foot.le ⟨false, [], [], [.resp]⟩ f = true) :
    Kept f s (State.emptyAccess x) := by
  unfold Sys2Proof.Machine.State.emptyAccess
  repeat' first
    | with_reducible assumption
    | with_reducible refine Kept.ite ?_ ?_
    | with_reducible refine Kept.answer ?_ (Foot.le_trans (by decide +kernel) hf) _ _
    | lift_lets
    | with_reducible exact Kept.set_resp _ (by with_reducible assumption) (Foot.part_of_le hf (by decide +kernel : Foot.part _ .resp = true))

theorem Kept.readReg {f : Foot} {s x : State} (h : Kept f s x) (hf : Foot.le ⟨true, [], [], [.latch, .freeCtr]⟩ f = true) (a0 : Nat) (a1 : Word) :
    Kept f s (State.readReg x a0 a1).2 := by
  unfold Sys2Proof.Machine.State.readReg
  have h1 := Kept.foldl (f := f) (s := s) (g := fun (s : State) h => { s with latch := SMap.set latchDefault s.latch h (s.liveWord h) })
    (latchesAt a0) (fun y b hy => Kept.set_latch _ hy (Foot.part_of_le hf (by decide +kernel : Foot.part _ .latch = true)) (SMap.wf_set _ _ _ _)) h
  revert h1
  generalize List.foldl _ _ _ = y
  intro h1
  have h2 : Kept f s (if a0 == HPT_PBA.addr then y.drawFree else y) := Kept.ite (Kept.drawFree h1 (Foot.le_trans (by decide +kernel) hf)) h1
  exact Kept.ite h2 (Kept.setWord _ _ h2 (Foot.word_of_le hf rfl))

theorem Kept.readPart {f : Foot} {s x : State} (h : Kept f s x) (hf : Foot.le ⟨true, [], [], [.latch, .freeCtr, .resp, .sys]⟩ f = true) (a0 : Source) (a1 : Nat) (a2 : Nat) :
    Kept f s (State.readPart x a0 a1 a2) := by
  unfold Sys2Proof.Machine.State.readPart
  repeat' first
    | with_reducible assumption
    | with_reducible refine Kept.reject ?_ (Foot.le_trans (by decide +kernel) hf) _ _ _ _ (Foot.word_of_le hf rfl)
    | with_reducible refine Kept.ite ?_ ?_
    | with_reducible refine Kept.emptyAccess ?_ (Foot.le_trans (by decide +kernel) hf)
    | with_reducible refine Kept.readReg ?_ (Foot.le_trans (by decide +kernel) hf) _ _
    | with_reducible refine Kept.answer ?_ (Foot.le_trans (by decide +kernel) hf) _ _
    | split
    | lift_lets
    | with_reducible exact Kept.set_resp _ (by with_reducible assumption) (Foot.part_of_le hf (by decide +kernel : Foot.part _ .resp = true))

theorem Kept.busRead {f : Foot} {s x : State} (h : Kept f s x) (hf : Foot.le ⟨true, [], [], [.latch, .freeCtr, .resp, .sys]⟩ f = true) (a0 : Source) (a1 : Nat) (a2 : Nat) :
    Kept f s (State.busRead x a0 a1 a2) := by
  unfold Sys2Proof.Machine.State.busRead
  repeat' first
    | with_reducible assumption
    | with_reducible refine Kept.ite ?_ ?_
    | with_reducible refine Kept.emptyAccess ?_ (Foot.le_trans (by decide +kernel) hf)
    | with_reducible refine Kept.readPart ?_ (Foot.le_trans (by decide +kernel) hf) _ _ _
    | with_reducible refine Kept.answer ?_ (Foot.le_trans (by decide +kernel) hf) _ _

theorem Kept.rulesAt {f : Foot} {s x : State} (h : Kept f s x) (hf : Foot.le ⟨true, [], [], [.latch, .sram, .gddr, .flash, .freeCtr, .pins, .sys, .flt, .pwr, .alm, .lnk, .fcv, .ddc, .fft, .trg, .acq, .neb, .dpy, .lod, .dma, .hpt, .spt, .mem, .aux, .srv, .cst, .upd, .boot]⟩ f = true) (a0 : Nat) (b0 : Source) (b1 : Nat) (b2 : Word) :
    Kept.res f s ((rulesAt a0).act b0 b1 b2 x) := by
  unfold Sys2Proof.Machine.rulesAt
  split
  · exact Kept.sysRules h (Foot.le_trans (by decide +kernel) hf) b0 b1 b2
  · exact Kept.pwrRules h (Foot.le_trans (by decide +kernel) hf) [] b0 b1 b2
  · exact Kept.clkRules h (Foot.le_trans (by decide +kernel) hf) b0 b1 b2
  · exact Kept.almRules h (Foot.le_trans (by decide +kernel) hf) b0 b1 b2
  · exact Kept.lnkRules h (Foot.le_trans (by decide +kernel) hf) b0 b1 b2
  · exact Kept.fcvRules h (Foot.le_trans (by decide +kernel) hf) b0 b1 b2
  · exact Kept.ddcRules h (Foot.le_trans (by decide +kernel) hf) b0 b1 b2
  · exact Kept.fftRules h (Foot.le_trans (by decide +kernel) hf) b0 b1 b2
  · exact Kept.trgRules h (Foot.le_trans (by decide +kernel) hf) b0 b1 b2
  · exact Kept.acqRulesLrd h (Foot.le_trans (by decide +kernel) hf) b0 b1 b2
  · exact Kept.nebRules h (Foot.le_trans (by decide +kernel) hf) b0 b1 b2
  · exact Kept.dpyRules h (Foot.le_trans (by decide +kernel) hf) b0 b1 b2
  · exact Kept.lodRules h (Foot.le_trans (by decide +kernel) hf) b0 b1 b2
  · exact Kept.dmaRules h (Foot.le_trans (by decide +kernel) hf) b0 b1 b2
  · exact Kept.chkRules h (Foot.le_trans (by decide +kernel) hf) b0 b1 b2
  · exact Kept.memRules h (Foot.le_trans (by decide +kernel) hf) b0 b1 b2
  · exact Kept.sptRules h (Foot.le_trans (by decide +kernel) hf) b0 b1 b2
  · exact Kept.auxRules h (Foot.le_trans (by decide +kernel) hf) b0 b1 b2
  · exact Kept.srvRules h (Foot.le_trans (by decide +kernel) hf) b0 b1 b2
  · exact Kept.cstRules h (Foot.le_trans (by decide +kernel) hf) b0 b1 b2
  · exact Kept.updRules h (Foot.le_trans (by decide +kernel) hf) b0 b1 b2
  · exact Kept.fltRules h (Foot.le_trans (by decide +kernel) hf) b0 b1 b2
  · exact h

theorem Kept.writeWord {f : Foot} {s x : State} (h : Kept f s x) (hf : Foot.le ⟨true, [], [], [.latch, .sram, .gddr, .flash, .freeCtr, .resp, .pins, .sys, .flt, .pwr, .alm, .lnk, .fcv, .ddc, .fft, .trg, .acq, .neb, .dpy, .lod, .dma, .hpt, .spt, .mem, .aux, .srv, .cst, .upd, .boot]⟩ f = true) (a0 : Source) (a1 : Nat) (a2 : Word) :
    Kept f s (State.writeWord x a0 a1 a2) := by
  unfold Sys2Proof.Machine.State.writeWord
  repeat' first
    | with_reducible assumption
    | with_reducible refine Kept.writeReg ?_ (fun y b0 b1 b2 => Kept.rulesAt (Kept.refl _ y) (Foot.le_trans (by decide +kernel) hf) _ b0 b1 b2) (Foot.word_of_le hf rfl) (Foot.word_of_le hf rfl) (Foot.word_of_le hf rfl) (Foot.part_of_le hf (by decide +kernel : Foot.part _ .resp = true)) (Foot.part_of_le hf (by decide +kernel : Foot.part _ .sys = true))

theorem Kept.busWrite {f : Foot} {s x : State} (h : Kept f s x) (hf : Foot.le ⟨true, [], [], [.latch, .sram, .gddr, .flash, .freeCtr, .resp, .pins, .sys, .flt, .pwr, .alm, .lnk, .fcv, .ddc, .fft, .trg, .acq, .neb, .dpy, .lod, .dma, .hpt, .spt, .mem, .aux, .srv, .cst, .upd, .boot]⟩ f = true) (a0 : Source) (a1 : Nat) (a2 : Nat) (a3 : BitVec 64) :
    Kept f s (State.busWrite x a0 a1 a2 a3) := by
  unfold Sys2Proof.Machine.State.busWrite
  repeat' first
    | with_reducible assumption
    | with_reducible refine Kept.reject ?_ (Foot.le_trans (by decide +kernel) hf) _ _ _ _ (Foot.word_of_le hf rfl)
    | with_reducible refine Kept.ite ?_ ?_
    | with_reducible refine Kept.emptyAccess ?_ (Foot.le_trans (by decide +kernel) hf)
    | with_reducible refine Kept.writeWord ?_ (Foot.le_trans (by decide +kernel) hf) _ _ _
    | with_reducible refine Kept.answer ?_ (Foot.le_trans (by decide +kernel) hf) _ _
    | split
    | lift_lets
    | with_reducible exact Kept.set_resp _ (by with_reducible assumption) (Foot.part_of_le hf (by decide +kernel : Foot.part _ .resp = true))

theorem Kept.execClearAlias {f : Foot} {s x : State} (h : Kept f s x) (hf : Foot.le ⟨true, [], [], [.latch, .sram, .gddr, .flash, .freeCtr, .resp, .pins, .sys, .flt, .pwr, .alm, .lnk, .fcv, .ddc, .fft, .trg, .acq, .neb, .dpy, .lod, .dma, .hpt, .spt, .mem, .aux, .srv, .cst, .upd, .boot]⟩ f = true) (a0 : Source) (a1 : Nat) (a2 : Word) :
    ∃ t, execClearAlias a0 a1 a2 x = .next t ∧ Kept f s t := by
  unfold Sys2Proof.Machine.execClearAlias
  refine ⟨_, rfl, ?_⟩
  repeat' first
    | with_reducible assumption
    | with_reducible refine Kept.writeWord ?_ (Foot.le_trans (by decide +kernel) hf) _ _ _

theorem Kept.execGroupWrite {f : Foot} {s x : State} (h : Kept f s x) (hf : Foot.le ⟨true, [], [], [.latch, .sram, .gddr, .flash, .freeCtr, .resp, .pins, .sys, .flt, .pwr, .alm, .lnk, .fcv, .ddc, .fft, .trg, .acq, .neb, .dpy, .lod, .dma, .hpt, .spt, .mem, .aux, .srv, .cst, .upd, .boot]⟩ f = true) (a0 : Nat) (a1 : Source) (a2 : Word) :
    ∃ t, execGroupWrite a0 a1 a2 x = .next t ∧ Kept f s t := by
  unfold Sys2Proof.Machine.execGroupWrite
  refine ⟨_, rfl, ?_⟩
  repeat' first
    | with_reducible assumption
    | with_reducible refine Kept.writeWord ?_ (Foot.le_trans (by decide +kernel) hf) _ _ _

theorem Kept.execLatchingRead {f : Foot} {s x : State} (h : Kept f s x) (hf : Foot.le ⟨true, [], [], [.latch, .freeCtr, .resp, .sys]⟩ f = true) (a0 : Source) (a1 : Nat) (a2 : Nat) :
    ∃ t, execLatchingRead a0 a1 a2 x = .next t ∧ Kept f s t := by
  unfold Sys2Proof.Machine.execLatchingRead
  refine ⟨_, rfl, ?_⟩
  repeat' first
    | with_reducible assumption
    | with_reducible refine Kept.busRead ?_ (Foot.le_trans (by decide +kernel) hf) _ _ _

theorem Kept.execReadClear {f : Foot} {s x : State} (h : Kept f s x) (hf : Foot.le ⟨true, [], [], [.latch, .freeCtr, .resp, .sys]⟩ f = true) (a0 : Source) (a1 : Nat) (a2 : Nat) :
    ∃ t, execReadClear a0 a1 a2 x = .next t ∧ Kept f s t := by
  unfold Sys2Proof.Machine.execReadClear
  refine ⟨_, rfl, ?_⟩
  repeat' first
    | with_reducible assumption
    | with_reducible refine Kept.busRead ?_ (Foot.le_trans (by decide +kernel) hf) _ _ _

theorem Kept.execRegisterWrite {f : Foot} {s x : State} (h : Kept f s x) (hf : Foot.le ⟨true, [], [], [.latch, .sram, .gddr, .flash, .freeCtr, .resp, .pins, .sys, .flt, .pwr, .alm, .lnk, .fcv, .ddc, .fft, .trg, .acq, .neb, .dpy, .lod, .dma, .hpt, .spt, .mem, .aux, .srv, .cst, .upd, .boot]⟩ f = true) (a0 : Source) (a1 : Nat) (a2 : Nat) (a3 : BitVec 64) :
    ∃ t, execRegisterWrite a0 a1 a2 a3 x = .next t ∧ Kept f s t := by
  unfold Sys2Proof.Machine.execRegisterWrite
  refine ⟨_, rfl, ?_⟩
  repeat' first
    | with_reducible assumption
    | with_reducible refine Kept.busWrite ?_ (Foot.le_trans (by decide +kernel) hf) _ _ _ _

theorem Kept.execSetAlias {f : Foot} {s x : State} (h : Kept f s x) (hf : Foot.le ⟨true, [], [], [.latch, .sram, .gddr, .flash, .freeCtr, .resp, .pins, .sys, .flt, .pwr, .alm, .lnk, .fcv, .ddc, .fft, .trg, .acq, .neb, .dpy, .lod, .dma, .hpt, .spt, .mem, .aux, .srv, .cst, .upd, .boot]⟩ f = true) (a0 : Source) (a1 : Nat) (a2 : Word) :
    ∃ t, execSetAlias a0 a1 a2 x = .next t ∧ Kept f s t := by
  unfold Sys2Proof.Machine.execSetAlias
  refine ⟨_, rfl, ?_⟩
  repeat' first
    | with_reducible assumption
    | with_reducible refine Kept.writeWord ?_ (Foot.le_trans (by decide +kernel) hf) _ _ _

theorem Kept.execToggleAlias {f : Foot} {s x : State} (h : Kept f s x) (hf : Foot.le ⟨true, [], [], [.latch, .sram, .gddr, .flash, .freeCtr, .resp, .pins, .sys, .flt, .pwr, .alm, .lnk, .fcv, .ddc, .fft, .trg, .acq, .neb, .dpy, .lod, .dma, .hpt, .spt, .mem, .aux, .srv, .cst, .upd, .boot]⟩ f = true) (a0 : Source) (a1 : Nat) (a2 : Word) :
    ∃ t, execToggleAlias a0 a1 a2 x = .next t ∧ Kept f s t := by
  unfold Sys2Proof.Machine.execToggleAlias
  refine ⟨_, rfl, ?_⟩
  repeat' first
    | with_reducible assumption
    | with_reducible refine Kept.writeWord ?_ (Foot.le_trans (by decide +kernel) hf) _ _ _

end Sys2Proof.Machine
end

