-- ==== Sys2Proof/Laws/KeptBoot.lean ====
section
/-! SUPPORT. What the operations of Sys2Proof/Machine/Boot.lean change. -/

set_option Elab.async false

set_option linter.all false

namespace Sys2Proof.Machine

theorem Kept.bootStart {f : Foot} {s x : State} (h : Kept f s x) (hf : Foot.le ⟨false, [0x00, 0x01, 0x15], [], [.sys, .pwr]⟩ f = true) :
    Kept f s (State.bootStart x) := by
  unfold Sys2Proof.Machine.State.bootStart
  repeat' first
    | with_reducible refine Kept.setDom ?_ (Foot.le_trans (by decide +kernel) hf) _ _
    | with_reducible refine Kept.setDev ?_ (Foot.le_trans (by decide +kernel) hf) _
    | intro y
    | lift_lets
    | with_reducible exact Kept.set_pwr _ (by with_reducible assumption) (Foot.part_of_le hf (by decide +kernel : Foot.part _ .pwr = true))

theorem Kept.bootStep {f : Foot} {s x : State} (h : Kept f s x) (hf : Foot.le ⟨false, [], [], [.boot]⟩ f = true) (a0 : BootStep) :
    Kept f s (State.bootStep x a0) := by
  unfold Sys2Proof.Machine.State.bootStep
  repeat' first
    | intro y
    | lift_lets
    | with_reducible exact Kept.set_boot _ (by with_reducible assumption) (Foot.part_of_le hf (by decide +kernel : Foot.part _ .boot = true))

theorem Kept.dirLoad {f : Foot} {s x : State} (h : Kept f s x) (hf : Foot.le ⟨false, [0x1A], [], [.upd]⟩ f = true) (a0 : Nat) :
    Kept f s (State.dirLoad x a0) := by
  unfold Sys2Proof.Machine.State.dirLoad
  repeat' first
    | with_reducible assumption
    | with_reducible refine Kept.setSlot ?_ (Foot.le_trans (by decide +kernel) hf) _ _
    | (intro y; refine (fun hy : Kept f s y => ?_) ?_ <;> [clear_value y; skip])
    | intro y
    | lift_lets
    | with_reducible exact Kept.set_upd _ (by with_reducible assumption) (Foot.part_of_le hf (by decide +kernel : Foot.part _ .upd = true))

theorem Kept.filtered {f : Foot} {s x : State} (h : Kept f s x) (hf : Foot.le ⟨false, [], [], [.freeCtr]⟩ f = true) (a0 : Nat) :
    Kept f s (State.filtered x a0).2 := by
  unfold Sys2Proof.Machine.State.filtered
  repeat' first
    | with_reducible assumption
    | with_reducible refine Kept.drawFree ?_ (Foot.le_trans (by decide +kernel) hf)
    | split

theorem Kept.portParams {f : Foot} {s x : State} (h : Kept f s x) (hf : Foot.le ⟨false, [0x15], [], [.hpt]⟩ f = true) (a0 : Option Nat) :
    Kept f s (State.portParams x a0) := by
  unfold Sys2Proof.Machine.State.portParams
  repeat' first
    | with_reducible assumption
    | with_reducible refine Kept.put _ _ ?_ (Foot.word_of_le hf (by first | decide +kernel))
    | (intro y; refine (fun hy : Kept f s y => ?_) ?_ <;> [clear_value y; skip])
    | intro y
    | split
    | lift_lets
    | with_reducible exact Kept.set_hpt _ (by with_reducible assumption) (Foot.part_of_le hf (by decide +kernel : Foot.part _ .hpt = true))

theorem Kept.powerOffState {f : Foot} {s x : State} (h : Kept f s x) (hf : Foot.le ⟨true, [], [], [.latch, .sram, .gddr, .resp, .pins, .sys, .flt, .pwr, .alm, .lnk, .fcv, .ddc, .fft, .trg, .acq, .neb, .dpy, .lod, .dma, .hpt, .spt, .mem, .aux, .srv, .cst, .upd, .boot]⟩ f = true) :
    Kept f s (State.powerOffState x) := by
  refine h.trans ⟨⟨rfl, fun a ha => ?_, fun a ha => ?_, fun p hp => ?_⟩, fun q => ⟨⟨rfl, rfl, rfl, rfl, rfl, q.1.2.2.2.2.2⟩,
    Nat.zero_le _, Nat.zero_le _, Nat.zero_le _⟩⟩
  · rw [Foot.word_of_le hf rfl] at ha; exact absurd ha (by simp)
  · rw [Foot.app_of_le hf rfl] at ha; exact absurd ha (by simp)
  · have k := Foot.part_of_le (p := p) hf
    cases p <;> first | rfl | (rw [k (by decide)] at hp; exact absurd hp (by simp))

theorem Kept.cfgWrite {f : Foot} {s : State} {x : State × Nat} (h : Kept f s x.1) (hf : Foot.le ⟨true, [], [], [.latch, .sram, .gddr, .flash, .freeCtr, .resp, .pins, .sys, .flt, .pwr, .alm, .lnk, .fcv, .ddc, .fft, .trg, .acq, .neb, .dpy, .lod, .dma, .hpt, .spt, .mem, .aux, .srv, .cst, .upd, .boot]⟩ f = true) (a : Nat) (v : Word) :
    Kept f s (State.cfgWrite x a v).1 := by
  unfold State.cfgWrite
  split
  · exact Kept.writeWord h (Foot.le_trans (by decide +kernel) hf) _ _ _
  · exact h

theorem Kept.cfgEnd {f : Foot} {s : State} {x : State × Nat} (h : Kept f s x.1) (hf : Foot.le ⟨true, [], [], [.latch, .sram, .gddr, .flash, .freeCtr, .resp, .pins, .sys, .flt, .pwr, .alm, .lnk, .fcv, .ddc, .fft, .trg, .acq, .neb, .dpy, .lod, .dma, .hpt, .spt, .mem, .aux, .srv, .cst, .upd, .boot]⟩ f = true) :
    Kept f s (State.cfgEnd x) :=
  Kept.ite (Kept.recDone h (Foot.le_trans (by decide +kernel) hf)) (Kept.loadFail h (Foot.le_trans (by decide +kernel) hf) _)

theorem Kept.standardBanks {f : Foot} {s x : State} (h : Kept f s x) (hf : Foot.le ⟨false, [], [], [.sram]⟩ f = true) :
    Kept f s (State.standardBanks x) := by
  unfold Sys2Proof.Machine.State.standardBanks
  repeat' first
    | with_reducible assumption
    | with_reducible refine Kept.setSramLE _ ?_ (Foot.part_of_le hf (by decide +kernel : Foot.part _ .sram = true)) _ _
    | with_reducible refine Kept.foldl _ (fun y b hy => ?_) ?_

theorem Kept.trialRejected {f : Foot} {s x : State} (h : Kept f s x) (hf : Foot.le ⟨false, [0x1A], [], [.flash, .upd]⟩ f = true) :
    Kept f s (State.trialRejected x) := by
  unfold Sys2Proof.Machine.State.trialRejected
  repeat' first
    | with_reducible assumption
    | with_reducible refine Kept.ite ?_ ?_
    | with_reducible refine Kept.slotState ?_ (Foot.le_trans (by decide +kernel) hf) _ _
    | with_reducible refine Kept.writeDir ?_ (Foot.le_trans (by decide +kernel) hf)

theorem Kept.execApplyRecord {f : Foot} {s x : State} (h : Kept f s x) (hf : Foot.le ⟨true, [], [], [.latch, .sram, .gddr, .flash, .freeCtr, .resp, .pins, .sys, .flt, .pwr, .alm, .lnk, .fcv, .ddc, .fft, .trg, .acq, .neb, .dpy, .lod, .dma, .hpt, .spt, .mem, .aux, .srv, .cst, .upd, .boot]⟩ f = true) :
    ∃ t, execApplyRecord x = .next t ∧ Kept f s t := by
  unfold Sys2Proof.Machine.execApplyRecord
  refine ⟨_, rfl, ?_⟩
  repeat' first
    | with_reducible assumption
    | with_reducible refine Kept.cfgWrite ?_ (Foot.le_trans (by decide +kernel) hf) _ _
    | with_reducible refine Kept.ite ?_ ?_
    | with_reducible refine Kept.recSettle ?_ (Foot.le_trans (by decide +kernel) hf)
    | with_reducible refine Kept.recWait ?_ (Foot.le_trans (by decide +kernel) hf)
    | with_reducible refine Kept.loadFail ?_ (Foot.le_trans (by decide +kernel) hf) _
    | (intro y; refine (fun hy : Kept f s y => ?_) ?_ <;> [clear_value y; skip])
    | split
    | lift_lets

theorem Kept.execCrcrefRecord {f : Foot} {s x : State} (h : Kept f s x) (hf : Foot.le ⟨true, [], [], [.latch, .sram, .gddr, .flash, .freeCtr, .resp, .pins, .sys, .flt, .pwr, .alm, .lnk, .fcv, .ddc, .fft, .trg, .acq, .neb, .dpy, .lod, .dma, .hpt, .spt, .mem, .aux, .srv, .cst, .upd, .boot]⟩ f = true) :
    ∃ t, execCrcrefRecord x = .next t ∧ Kept f s t := by
  unfold Sys2Proof.Machine.execCrcrefRecord
  refine ⟨_, rfl, ?_⟩
  repeat' first
    | with_reducible assumption
    | with_reducible refine Kept.cfgWrite ?_ (Foot.le_trans (by decide +kernel) hf) _ _
    | with_reducible refine Kept.cfgEnd ?_ (Foot.le_trans (by decide +kernel) hf)
    | with_reducible refine Kept.recSettle ?_ (Foot.le_trans (by decide +kernel) hf)
    | (intro y; refine (fun hy : Kept f s y => ?_) ?_ <;> [clear_value y; skip])
    | split
    | lift_lets

theorem Kept.execEndRecord {f : Foot} {s x : State} (h : Kept f s x) (hf : Foot.le ⟨false, [0x00, 0x15, 0x16, 0x1A], [], [.sys, .boot]⟩ f = true) :
    ∃ t, execEndRecord x = .next t ∧ Kept f s t := by
  unfold Sys2Proof.Machine.execEndRecord
  refine ⟨_, rfl, ?_⟩
  repeat' first
    | with_reducible assumption
    | with_reducible refine Kept.recSettle ?_ (Foot.le_trans (by decide +kernel) hf)
    | with_reducible refine Kept.admitRunning ?_ (Foot.le_trans (by decide +kernel) hf)
    | with_reducible refine Kept.loadFail ?_ (Foot.le_trans (by decide +kernel) hf) _
    | with_reducible refine Kept.refuseOp ?_ (Foot.le_trans (by decide +kernel) hf) _ _ _ _ (Foot.word_of_le hf (by first | decide +kernel))
    | with_reducible refine Kept.drivesStart ?_ (Foot.le_trans (by decide +kernel) hf)
    | with_reducible refine Kept.setDev ?_ (Foot.le_trans (by decide +kernel) hf) _
    | (intro y; refine (fun hy : Kept f s y => ?_) ?_ <;> [clear_value y; skip])
    | intro y
    | split
    | lift_lets
    | with_reducible exact Kept.set_boot _ (by with_reducible assumption) (Foot.part_of_le hf (by decide +kernel : Foot.part _ .boot = true))

theorem Kept.execFirmwareStart {f : Foot} {s x : State} (h : Kept f s x) (hf : Foot.le ⟨false, [0x00, 0x15, 0x1A], [], [.sram, .upd, .boot]⟩ f = true) :
    ∃ t, execFirmwareStart x = .next t ∧ Kept f s t := by
  unfold Sys2Proof.Machine.execFirmwareStart
  refine ⟨_, rfl, ?_⟩
  repeat' first
    | with_reducible assumption
    | with_reducible refine Kept.ite ?_ ?_
    | with_reducible refine Kept.standardBanks ?_ (Foot.le_trans (by decide +kernel) hf)
    | with_reducible refine Kept.bootStep ?_ (Foot.le_trans (by decide +kernel) hf) _
    | with_reducible refine Kept.setDev ?_ (Foot.le_trans (by decide +kernel) hf) _
    | with_reducible refine Kept.setWord _ _ ?_ (Foot.word_of_le hf (by first | decide +kernel))
    | with_reducible refine Kept.put _ _ ?_ (Foot.word_of_le hf (by first | decide +kernel))
    | with_reducible refine Kept.loadStandby ?_ (Foot.le_trans (by decide +kernel) hf) _
    | with_reducible refine Kept.recArrive ?_ (Foot.le_trans (by decide +kernel) hf) _ _
    | intro y
    | split
    | lift_lets
    | fail_if_no_progress (with_reducible refine Kept.set_boot _ ?_ (Foot.part_of_le hf (by decide +kernel : Foot.part _ .boot = true)))

theorem Kept.execHeaderRead {f : Foot} {s x : State} (h : Kept f s x) (hf : Foot.le ⟨false, [0x00, 0x15, 0x1A], [], [.flash, .hpt, .upd, .boot]⟩ f = true) :
    ∃ t, execHeaderRead x = .next t ∧ Kept f s t := by
  unfold Sys2Proof.Machine.execHeaderRead
  refine ⟨_, rfl, ?_⟩
  repeat' first
    | with_reducible assumption
    | with_reducible refine Kept.ite ?_ ?_
    | with_reducible refine Kept.bootStep ?_ (Foot.le_trans (by decide +kernel) hf) _
    | with_reducible refine Kept.trialRejected ?_ (Foot.le_trans (by decide +kernel) hf)
    | with_reducible refine Kept.dirLoad ?_ (Foot.le_trans (by decide +kernel) hf) _
    | with_reducible refine Kept.portParams ?_ (Foot.le_trans (by decide +kernel) hf) _
    | with_reducible refine Kept.put _ _ ?_ (Foot.word_of_le hf (by first | decide +kernel))
    | (intro y; refine (fun hy : Kept f s y => ?_) ?_ <;> [clear_value y; skip])
    | split
    | lift_lets
    | dsimp only
    | fail_if_no_progress (with_reducible refine Kept.set_boot _ ?_ (Foot.part_of_le hf (by decide +kernel : Foot.part _ .boot = true)))

theorem Kept.execHostAccessPowerOff {f : Foot} {s x : State} (h : Kept f s x) (hf : Foot.le ⟨false, [], [], [.resp]⟩ f = true) (a0 : Nat) (a1 : Bool) (a2 : Word) :
    ∃ t, execHostAccessPowerOff a0 a1 a2 x = .next t ∧ Kept f s t := by
  unfold Sys2Proof.Machine.execHostAccessPowerOff
  refine ⟨_, rfl, ?_⟩
  repeat' first
    | with_reducible assumption
    | with_reducible refine Kept.ite ?_ ?_
    | lift_lets
    | with_reducible exact Kept.set_resp _ (by with_reducible assumption) (Foot.part_of_le hf (by decide +kernel : Foot.part _ .resp = true))

theorem Kept.execHostCfgTimeout {f : Foot} {s x : State} (h : Kept f s x) (hf : Foot.le ⟨false, [0x00], [], []⟩ f = true) :
    ∃ t, execHostCfgTimeout x = .next t ∧ Kept f s t := by
  unfold Sys2Proof.Machine.execHostCfgTimeout
  refine ⟨_, rfl, ?_⟩
  repeat' first
    | with_reducible assumption
    | with_reducible refine Kept.ite ?_ ?_
    | with_reducible refine Kept.put _ _ ?_ (Foot.word_of_le hf (by first | decide +kernel))

theorem Kept.execImageCheck {f : Foot} {s x : State} (h : Kept f s x) (hf : Foot.le ⟨false, [0x00, 0x1A, 0x1B], [], [.flash, .flt, .upd, .boot]⟩ f = true) (a0 : BitVec 8) (a1 : Bool) :
    ∃ t, execImageCheck a0 a1 x = .next t ∧ Kept f s t := by
  unfold Sys2Proof.Machine.execImageCheck
  refine ⟨_, rfl, ?_⟩
  repeat' first
    | with_reducible assumption
    | with_reducible refine Kept.ite ?_ ?_
    | with_reducible refine Kept.put _ _ ?_ (Foot.word_of_le hf (by first | decide +kernel))
    | with_reducible refine Kept.writeDir ?_ (Foot.le_trans (by decide +kernel) hf)
    | with_reducible refine Kept.slotState ?_ (Foot.le_trans (by decide +kernel) hf) _ _
    | with_reducible refine Kept.fltInfo ?_ (Foot.le_trans (by decide +kernel) hf) _ _ _ _ _
    | with_reducible refine Kept.bootStep ?_ (Foot.le_trans (by decide +kernel) hf) _
    | (intro y; refine (fun hy : Kept f s y => ?_) ?_ <;> [clear_value y; skip])
    | intro y
    | split
    | lift_lets
    | with_reducible exact Kept.set_boot _ (by with_reducible assumption) (Foot.part_of_le hf (by decide +kernel : Foot.part _ .boot = true))

theorem Kept.execMaskRecord {f : Foot} {s x : State} (h : Kept f s x) (hf : Foot.le ⟨true, [], [], [.latch, .sram, .gddr, .flash, .freeCtr, .resp, .pins, .sys, .flt, .pwr, .alm, .lnk, .fcv, .ddc, .fft, .trg, .acq, .neb, .dpy, .lod, .dma, .hpt, .spt, .mem, .aux, .srv, .cst, .upd, .boot]⟩ f = true) :
    ∃ t, execMaskRecord x = .next t ∧ Kept f s t := by
  unfold Sys2Proof.Machine.execMaskRecord
  refine ⟨_, rfl, ?_⟩
  repeat' first
    | with_reducible assumption
    | with_reducible refine Kept.cfgWrite ?_ (Foot.le_trans (by decide +kernel) hf) _ _
    | with_reducible refine Kept.cfgEnd ?_ (Foot.le_trans (by decide +kernel) hf)
    | with_reducible refine Kept.recSettle ?_ (Foot.le_trans (by decide +kernel) hf)
    | with_reducible refine Kept.busRead ?_ (Foot.le_trans (by decide +kernel) hf) _ _ _
    | (intro y; refine (fun hy : Kept f s y => ?_) ?_ <;> [clear_value y; skip])
    | split
    | lift_lets
    | dsimp only

theorem Kept.execPowerRecord {f : Foot} {s x : State} (h : Kept f s x) (hf : Foot.le ⟨true, [], [], [.latch, .sram, .gddr, .flash, .freeCtr, .resp, .pins, .sys, .flt, .pwr, .alm, .lnk, .fcv, .ddc, .fft, .trg, .acq, .neb, .dpy, .lod, .dma, .hpt, .spt, .mem, .aux, .srv, .cst, .upd, .boot]⟩ f = true) :
    ∃ t, execPowerRecord x = .next t ∧ Kept f s t := by
  unfold Sys2Proof.Machine.execPowerRecord
  refine ⟨_, rfl, ?_⟩
  repeat' first
    | with_reducible assumption
    | with_reducible refine Kept.cfgWrite ?_ (Foot.le_trans (by decide +kernel) hf) _ _
    | with_reducible refine Kept.ite ?_ ?_
    | with_reducible refine Kept.recSettle ?_ (Foot.le_trans (by decide +kernel) hf)
    | with_reducible refine Kept.recWait ?_ (Foot.le_trans (by decide +kernel) hf)
    | with_reducible refine Kept.loadFail ?_ (Foot.le_trans (by decide +kernel) hf) _
    | with_reducible refine Kept.foldl_fst _ (fun y b hy => ?_) ?_
    | (intro y; refine (fun hy : Kept f s y => ?_) ?_ <;> [clear_value y; skip])
    | split
    | lift_lets

theorem Kept.execRegRecord {f : Foot} {s x : State} (h : Kept f s x) (hf : Foot.le ⟨true, [], [], [.latch, .sram, .gddr, .flash, .freeCtr, .resp, .pins, .sys, .flt, .pwr, .alm, .lnk, .fcv, .ddc, .fft, .trg, .acq, .neb, .dpy, .lod, .dma, .hpt, .spt, .mem, .aux, .srv, .cst, .upd, .boot]⟩ f = true) :
    ∃ t, execRegRecord x = .next t ∧ Kept f s t := by
  unfold Sys2Proof.Machine.execRegRecord
  refine ⟨_, rfl, ?_⟩
  repeat' first
    | with_reducible assumption
    | with_reducible refine Kept.cfgWrite ?_ (Foot.le_trans (by decide +kernel) hf) _ _
    | with_reducible refine Kept.cfgEnd ?_ (Foot.le_trans (by decide +kernel) hf)
    | with_reducible refine Kept.recSettle ?_ (Foot.le_trans (by decide +kernel) hf)
    | with_reducible refine Kept.foldl_fst _ (fun y b hy => ?_) ?_
    | (intro y; refine (fun hy : Kept f s y => ?_) ?_ <;> [clear_value y; skip])
    | split
    | lift_lets

theorem Kept.execResetNFall {f : Foot} {s x : State} (h : Kept f s x) (hf : Foot.le ⟨true, [], [], [.latch, .sram, .gddr, .freeCtr, .resp, .pins, .sys, .flt, .pwr, .alm, .lnk, .fcv, .ddc, .fft, .trg, .acq, .neb, .dpy, .lod, .dma, .hpt, .spt, .mem, .aux, .srv, .cst, .upd, .boot]⟩ f = true) (a0 : Nat) :
    ∃ t, execResetNFall a0 x = .next t ∧ Kept f s t := by
  unfold Sys2Proof.Machine.execResetNFall
  refine ⟨_, rfl, ?_⟩
  repeat' first
    | with_reducible assumption
    | with_reducible refine Kept.ite ?_ ?_
    | with_reducible refine Kept.filtered ?_ (Foot.le_trans (by decide +kernel) hf) _
    | with_reducible refine Kept.powerOffState ?_ (Foot.le_trans (by decide +kernel) hf)

theorem Kept.execResetNRise {f : Foot} {s x : State} (h : Kept f s x) (hf : Foot.le ⟨false, [0x00, 0x01, 0x15], [], [.sys, .pwr]⟩ f = true) :
    ∃ t, execResetNRise x = .next t ∧ Kept f s t := by
  unfold Sys2Proof.Machine.execResetNRise
  refine ⟨_, rfl, ?_⟩
  repeat' first
    | with_reducible assumption
    | with_reducible refine Kept.ite ?_ ?_
    | with_reducible refine Kept.bootStart ?_ (Foot.le_trans (by decide +kernel) hf)

theorem Kept.execSramRecord {f : Foot} {s x : State} (h : Kept f s x) (hf : Foot.le ⟨false, [0x00, 0x15, 0x1A, 0x1B], [], [.sram, .sys, .flt, .boot]⟩ f = true) :
    ∃ t, execSramRecord x = .next t ∧ Kept f s t := by
  unfold Sys2Proof.Machine.execSramRecord
  refine ⟨_, rfl, ?_⟩
  repeat' first
    | with_reducible assumption
    | with_reducible refine Kept.recSettle ?_ (Foot.le_trans (by decide +kernel) hf)
    | with_reducible refine Kept.logErr ?_ (Foot.le_trans (by decide +kernel) hf) _ _
    | with_reducible refine Kept.blockErr ?_ _ _ _ _ (Foot.word_of_le hf (by decide +kernel))
    | with_reducible refine Kept.loadFail ?_ (Foot.le_trans (by decide +kernel) hf) _
    | with_reducible refine Kept.recDone ?_ (Foot.le_trans (by decide +kernel) hf)
    | with_reducible refine Kept.unpoison ?_ (Foot.le_trans (by decide +kernel) hf) _ _
    | with_reducible refine Kept.setSramBytes _ ?_ (Foot.part_of_le hf (by decide +kernel : Foot.part _ .sram = true)) _
    | (intro y; refine (fun hy : Kept f s y => ?_) ?_ <;> [clear_value y; skip])
    | split
    | lift_lets

theorem Kept.execSupplyBelowReset {f : Foot} {s x : State} (h : Kept f s x) (hf : Foot.le ⟨true, [], [], [.latch, .sram, .gddr, .freeCtr, .resp, .pins, .sys, .flt, .pwr, .alm, .lnk, .fcv, .ddc, .fft, .trg, .acq, .neb, .dpy, .lod, .dma, .hpt, .spt, .mem, .aux, .srv, .cst, .upd, .boot]⟩ f = true) (a0 : Fin 10) (a1 : Nat) :
    ∃ t, execSupplyBelowReset a0 a1 x = .next t ∧ Kept f s t := by
  unfold Sys2Proof.Machine.execSupplyBelowReset
  refine ⟨_, rfl, ?_⟩
  repeat' first
    | with_reducible assumption
    | with_reducible refine Kept.ite ?_ ?_
    | with_reducible refine Kept.filtered ?_ (Foot.le_trans (by decide +kernel) hf) _
    | with_reducible refine Kept.powerOffState ?_ (Foot.le_trans (by decide +kernel) hf)
    | (intro y; refine (fun hy : Kept f s y => ?_) ?_ <;> [clear_value y; skip])
    | intro y
    | lift_lets
    | with_reducible exact Kept.set_pwr _ (by with_reducible assumption) (Foot.part_of_le hf (by decide +kernel : Foot.part _ .pwr = true))

theorem Kept.execSystemReset {f : Foot} {s x : State} (h : Kept f s x) (hf : Foot.le ⟨true, [], [], [.latch, .sram, .gddr, .resp, .pins, .sys, .flt, .pwr, .alm, .lnk, .fcv, .ddc, .fft, .trg, .acq, .neb, .dpy, .lod, .dma, .hpt, .spt, .mem, .aux, .srv, .cst, .upd, .boot]⟩ f = true) (a0 : Option Stamp) :
    ∃ t, execSystemReset a0 x = .next t ∧ Kept f s t := by
  unfold Sys2Proof.Machine.execSystemReset
  refine ⟨_, rfl, ?_⟩
  repeat' first
    | with_reducible assumption
    | with_reducible refine Kept.ite ?_ ?_
    | with_reducible refine Kept.cstDown ?_ (Foot.le_trans (by decide +kernel) hf) _
    | with_reducible refine Kept.modCst ?_ (Foot.le_trans (by decide +kernel) hf) _
    | with_reducible refine Kept.cancelOps ?_ (Foot.le_trans (by decide +kernel) hf)
    | with_reducible refine Kept.bootStart ?_ (Foot.le_trans (by decide +kernel) hf)
    | with_reducible refine Kept.powerOffState ?_ (Foot.le_trans (by decide +kernel) hf)
    | split

theorem Kept.execWaitRecord {f : Foot} {s x : State} (h : Kept f s x) (hf : Foot.le ⟨false, [0x00, 0x1A], [], [.boot]⟩ f = true) :
    ∃ t, execWaitRecord x = .next t ∧ Kept f s t := by
  unfold Sys2Proof.Machine.execWaitRecord
  refine ⟨_, rfl, ?_⟩
  repeat' first
    | with_reducible assumption
    | with_reducible refine Kept.ite ?_ ?_
    | with_reducible refine Kept.recSettle ?_ (Foot.le_trans (by decide +kernel) hf)
    | with_reducible refine Kept.recWait ?_ (Foot.le_trans (by decide +kernel) hf)
    | with_reducible refine Kept.loadFail ?_ (Foot.le_trans (by decide +kernel) hf) _
    | (intro y; refine (fun hy : Kept f s y => ?_) ?_ <;> [clear_value y; skip])
    | split
    | lift_lets

theorem Kept.execWaitRecordTimeout {f : Foot} {s x : State} (h : Kept f s x) (hf : Foot.le ⟨false, [0x00, 0x1A], [], [.boot]⟩ f = true) :
    ∃ t, execWaitRecordTimeout x = .next t ∧ Kept f s t := by
  unfold Sys2Proof.Machine.execWaitRecordTimeout
  refine ⟨_, rfl, ?_⟩
  repeat' first
    | with_reducible assumption
    | with_reducible refine Kept.ite ?_ ?_
    | with_reducible refine Kept.recSettle ?_ (Foot.le_trans (by decide +kernel) hf)
    | with_reducible refine Kept.recDone ?_ (Foot.le_trans (by decide +kernel) hf)
    | with_reducible refine Kept.loadFail ?_ (Foot.le_trans (by decide +kernel) hf) _
    | (intro y; refine (fun hy : Kept f s y => ?_) ?_ <;> [clear_value y; skip])
    | split
    | lift_lets

end Sys2Proof.Machine
end

