-- ==== Sys2Proof/WellFormed.lean ====
section
/-! DEFINITION. Well-formed commands: what a sender may put in an operand where its type is wider than what the manual
lets it name. The machine has a meaning for every command, well formed or not. -/

namespace Sys2Proof

/-- An address of BAR0, which spans 16 MiB (R42). -/
def okAddr (a : Nat) : Bool := decide (a < 2 ^ 24)

/-- A length of a BAR0 access that R508 names. -/
def okSize (n : Nat) : Bool := [0, 1, 2, 4, 8].contains n

/-- A sample on the scale of R129. -/
def okSample (x : Sample) : Bool := decide (x.i.natAbs ≤ 2 ^ 17) && decide (x.q.natAbs ≤ 2 ^ 17)

/-- A command's operands lie in the ranges the manual gives them (R42, R508 and the rule of each row). -/
def Instr.wf : Instr → Bool
  | .resetNRise => true
  | .resetNFall _ => true
  | .supplyBelowReset _ _ => true
  | .hostAccessPowerOff addr _ _ => okAddr addr
  | .supplyFault _ _ => true
  | .dumpDone len => decide (len.toNat ≤ 256)
  | .faultLogMove => true
  | .updateStrobe _ _ => true
  | .admissionVerdict => true
  | .timedApply => true
  | .updateCancel _ _ => true
  | .capacityFall _ => true
  | .xtalLoss => true
  | .pllLoss _ => true
  | .pllLock _ => true
  | .pllRetuneTimeout _ => true
  | .refWindow _ _ => true
  | .holdoverExit => true
  | .syncInEdge _ _ _ => true
  | .divArm _ _ => true
  | .almStep _ _ => true
  | .ppsInEdge _ _ => true
  | .ppsAbsent => true
  | .ppsOutPulse => true
  | .ppsOutEnd => true
  | .trigInEdge _ _ _ => true
  | .tdcArm _ _ => true
  | .tdcAbort _ _ => true
  | .tdcTimeout => true
  | .tdcCalibrate _ => true
  | .laneMarker _ _ _ _ _ => true
  | .cdrDone _ _ _ => true
  | .codeGroupSync _ => true
  | .converterValid _ _ => true
  | .ilasReceive _ _ => true
  | .deskewFail _ => true
  | .fomMeasure _ _ _ => true
  | .dfeAdapt _ moves => moves.toList.all (fun m => decide (m.natAbs ≤ 1))
  | .idleAnnounce _ _ => true
  | .idleExit _ _ _ => true
  | .laneSquelch _ _ => true
  | .laneCodeErrors _ _ _ _ => true
  | .laneMarkerError _ _ => true
  | .cdrLoss _ _ => true
  | .deskewOverrun _ _ => true
  | .lnkRestart _ _ => true
  | .sampleDeliver _ samples => decide (0 < samples.length) && decide (samples.length ≤ 8) && samples.all (fun x => okSample x)
  | .dcbClr _ _ _ => true
  | .ddcSwap _ _ _ => true
  | .fadeEnd _ => true
  | .ddcSyncGo _ _ => true
  | .ddcSyncAbort _ _ => true
  | .ddcSyncReset _ => true
  | .ddcRelease _ => true
  | .spectrumRelease _ bins => decide (0 < bins.length) && decide (bins.length ≤ 65536)
  | .traceSnap _ _ _ _ => true
  | .traceReset _ _ _ _ => true
  | .pipeFail _ cause _ => decide (1 ≤ cause.toNat) && decide (cause.toNat ≤ 3)
  | .pipeReset _ _ _ => true
  | .patternTestDone _ _ => true
  | .spareTakeover _ _ => true
  | .spareRelease _ _ => true
  | .spareSwitch _ => true
  | .checkStart _ _ => true
  | .checkInterval => true
  | .checkAbort _ _ => true
  | .checkTestDone _ => true
  | .slotDecide stamp next _ _ => decide (stamp.toNat < next.toNat)
  | .autoTimer => true
  | .trgArm _ _ => true
  | .trgForce _ _ => true
  | .trgLogPop _ _ => true
  | .seqReset _ _ => true
  | .trigOutPulse _ _ => true
  | .trigOutEnd _ => true
  | .remoteTriggerRx _ _ _ _ _ _ => true
  | .acqArm _ _ _ => true
  | .acqStop _ _ _ => true
  | .acqAbort _ _ _ => true
  | .lrdWrite _ _ _ => true
  | .segmentEntry _ => true
  | .stagingOverrun _ => true
  | .stagingResume _ => true
  | .circularPostStop _ => true
  | .autoRearm _ => true
  | .containerBlock _ => true
  | .nebTimer => true
  | .nebSwap _ _ => true
  | .nebClear _ _ => true
  | .nebHold _ _ => true
  | .nebRelease _ _ => true
  | .swapEdge => true
  | .publicationComplete => true
  | .holdExpired => true
  | .vblank => true
  | .dpyCommit _ _ => true
  | .commitLand => true
  | .composeStart => true
  | .densityLockRelease => true
  | .scanoutLine _ _ => true
  | .teInEdge _ => true
  | .teMiss => true
  | .linkTrained _ _ _ => true
  | .hpdIrq _ => true
  | .hpdUnplug => true
  | .hpdPlug => true
  | .auxGo _ _ => true
  | .auxDone _ data => decide (data.length ≤ 16)
  | .lodStart _ _ _ => true
  | .lodStop _ _ _ => true
  | .lodDoor _ _ _ => true
  | .lodTimer _ => true
  | .tapEntry _ _ => true
  | .interruptEntry _ => true
  | .budgetOverrun _ => true
  | .lodBusyWindow _ _ => true
  | .nop _ _ => true
  | .wait _ _ => true
  | .reti _ _ => true
  | .rts _ _ => true
  | .ei _ _ => true
  | .di _ _ => true
  | .trap _ _ => true
  | .sig _ _ => true
  | .hostev _ _ => true
  | .clrv _ _ => true
  | .bra _ _ => true
  | .bcc _ _ => true
  | .call _ _ => true
  | .rep _ _ => true
  | .loop _ _ => true
  | .add _ _ => true
  | .sub _ _ => true
  | .and _ _ => true
  | .or _ _ => true
  | .xor _ _ => true
  | .asr _ _ => true
  | .lsr _ _ => true
  | .shl _ _ => true
  | .cmp _ _ => true
  | .mov _ _ => true
  | .neg _ _ => true
  | .abs _ _ => true
  | .aluiAdd _ _ => true
  | .aluiSub _ _ => true
  | .aluiAnd _ _ => true
  | .aluiOr _ _ => true
  | .aluiXor _ _ => true
  | .aluiAsr _ _ => true
  | .aluiLsr _ _ => true
  | .aluiShl _ _ => true
  | .aluiCmp _ _ => true
  | .aluiMov _ _ => true
  | .aluiNeg _ _ => true
  | .aluiAbs _ _ => true
  | .mpy _ _ => true
  | .mac _ _ => true
  | .msu _ _ => true
  | .cmpy _ _ => true
  | .cmac _ _ => true
  | .cmacj _ _ => true
  | .cmsu _ _ => true
  | .clra _ _ => true
  | .adda _ _ => true
  | .suba _ _ => true
  | .ash _ _ => true
  | .mva _ _ => true
  | .mvda _ _ => true
  | .ld _ _ => true
  | .st _ _ _ => true
  | .ldl _ _ => true
  | .stl _ _ => true
  | .move _ _ => true
  | .ldg _ _ => true
  | .addg _ _ => true
  | .tget _ _ => true
  | .mvs _ _ => true
  | .mvt _ _ => true
  | .ldi _ _ _ => true
  | .lda _ _ _ => true
  | .sta _ _ _ => true
  | .dmaStart _ _ _ => true
  | .dmaStop _ _ _ => true
  | .dmaAbort _ _ _ _ _ => true
  | .kick _ _ _ => true
  | .dmaHeadWrite _ _ _ => true
  | .descriptorFetch _ => true
  | .descriptorComplete _ _ => true
  | .beatRefused _ _ _ _ _ => true
  | .barrierArm _ _ _ => true
  | .chkReset _ _ _ => true
  | .agePromote _ index => decide (index.val < 64)
  | .hostLinkUp width speed _ _ _ => [1, 2, 4, 8, 16].contains width.toNat && decide (1 ≤ speed.toNat) && decide (speed.toNat ≤ 5)
  | .hostLinkReset _ => true
  | .functionLevelReset _ => true
  | .hostCompletionTimeout _ _ _ => true
  | .msixMessage _ => true
  | .bar2Access addr _ bytes _ => decide (addr + bytes.length ≤ 2 ^ 27) && decide (0 < bytes.length) && decide (bytes.length ≤ 4096)
  | .bar4Access addr _ bytes _ => decide (addr + bytes.length ≤ 2 ^ 34) && decide (0 < bytes.length) && decide (bytes.length ≤ 4096)
  | .driveBringup _ _ lba _ _ _ _ => [512, 4096].contains lba
  | .writeComplete _ _ _ _ _ => true
  | .nvmeTimeout _ _ _ => true
  | .driveFail _ _ => true
  | .sptReinit _ _ _ => true
  | .sptFlush _ _ => true
  | .flushComplete _ => true
  | .refresh _ _ _ => true
  | .tempRead _ _ _ => true
  | .retrainInterval _ => true
  | .memTrain _ _ => true
  | .trainStepDone _ => true
  | .trainRetry _ => true
  | .trainingDone _ => true
  | .freqGo _ _ => true
  | .rowActivate _ _ _ _ => true
  | .throttleEnd _ _ _ => true
  | .patrolScrub word _ => decide (word < 2 ^ 28)
  | .rowSpareDone _ _ _ => true
  | .adcSlot _ _ _ => true
  | .inj _ _ => true
  | .calGo _ _ => true
  | .calPointDone => true
  | .calApply _ _ => true
  | .diagGo _ _ => true
  | .diagAbort _ _ => true
  | .diagDone => true
  | .loopCompute _ => true
  | .clrFault _ _ _ => true
  | .pwmPeriod _ => true
  | .spiGo _ _ _ => true
  | .spiDone _ _ => true
  | .ssGo _ _ => true
  | .ssStop _ _ => true
  | .ssAbort _ _ => true
  | .stepStart => true
  | .gateOpen => true
  | .stepEnd => true
  | .stepLate => true
  | .portUp _ _ _ _ _ _ => true
  | .portDown _ cause remote _ => remote.isSome || (decide (1 ≤ cause.toNat) && decide (cause.toNat ≤ 4))
  | .frameResend _ => true
  | .beaconSend => true
  | .beaconReceive _ _ _ _ _ => true
  | .bcast _ _ => true
  | .broadcastDeliver _ _ => true
  | .bcPop _ _ => true
  | .arrive _ _ => true
  | .barrierRelease _ _ => true
  | .cstSnap _ _ => true
  | .snapshotCapture _ => true
  | .cstApply _ _ => true
  | .applyPrepare _ => true
  | .applyCommit _ => true
  | .cstReset _ _ => true
  | .systemReset _ => true
  | .opTimeout _ => true
  | .registerWrite _ addr size _ => okAddr addr && okSize size
  | .setAlias _ addr _ => okAddr addr && decide (addr % 0x10000 < 0x4000)
  | .clearAlias _ addr _ => okAddr addr && decide (addr % 0x10000 < 0x4000)
  | .toggleAlias _ addr _ => okAddr addr && decide (addr % 0x10000 < 0x4000)
  | .readClear _ addr size => okAddr addr && okSize size
  | .latchingRead _ addr size => okAddr addr && okSize size
  | .groupWrite w _ _ => decide (w < 256)
  | .guardPass => true
  | .cfgcrcRefWrite _ _ => true
  | .errLogPop _ _ => true
  | .headerRead => true
  | .imageCheck _ _ => true
  | .firmwareStart => true
  | .standbyLoaded _ => true
  | .regRecord => true
  | .maskRecord => true
  | .sramRecord => true
  | .powerRecord => true
  | .waitRecord => true
  | .waitRecordTimeout => true
  | .applyRecord => true
  | .crcrefRecord => true
  | .endRecord => true
  | .hostCfgTimeout => true
  | .updStart _ _ => true
  | .updAbort _ _ => true
  | .dataBlock _ _ => true
  | .copyBlock _ _ => true
  | .fillBlock _ _ => true
  | .endBlock _ _ => true
  | .blockProgrammed => true
  | .slotVerify _ _ => true
  | .flashFail => true
  | .handover _ _ => true
  | .handoverSwitch => true
  | .handoverResume => true
  | .confirm _ _ => true
  | .revert _ _ => true
  | .bootnext _ _ => true
  | .loadstby _ _ => true
  | .trialExpiry => true
  | .watchdogExpiry _ => true
  | .fltAck _ _ => true
  | .faultLogPop _ _ => true
  | .sramScrub word _ => decide (word < 2 ^ 24)
  | .sramRowSpared => true
  | .thermSample tj sensor => decide (-128 ≤ tj) && decide (tj ≤ 127) && decide (sensor.toNat < 16)
  | .pwrUp _ _ _ => true
  | .pwrDown _ _ _ _ => true
  | .pwrForce _ _ _ _ => true
  | .domainOn _ _ => true
  | .restoreDone _ => true
  | .drainDone _ _ => true
  | .drainTimeout _ => true
  | .domainOff _ => true
  | .slSyncnRise _ => true
  | .driveLinkUp _ width speed => [1, 2, 4].contains width.toNat && decide (1 ≤ speed.toNat) && decide (speed.toNat ≤ 5)
  | .pwmActiveEnd _ => true
  | .beaconReply _ _ => true
  | .arrivalReport _ => true
  | .verdictReport _ _ _ => true

end Sys2Proof
end

