-- ==== Sys2Proof/Laws/PerInstr.lean ====
section
/-! SUPPORT. What well-formedness says of each command: a BAR0 address that it names lies in the 16 MiB of BAR0 (R42). -/

namespace Sys2Proof.Laws.WellFormed

/-- The BAR0 address that a command names in full, where it names one. -/
def addrOf : Instr → Option Nat
  | .hostAccessPowerOff addr _ _ => some addr
  | .registerWrite _ addr _ _ => some addr
  | .setAlias _ addr _ => some addr
  | .clearAlias _ addr _ => some addr
  | .toggleAlias _ addr _ => some addr
  | .readClear _ addr _ => some addr
  | .latchingRead _ addr _ => some addr
  | _ => none

/-- A well-formed command names no address outside BAR0. -/
def Statement (i : Instr) : Prop := i.wf = true → ∀ a, addrOf i = some a → a < 0x1000000

theorem resetNRise : Statement (.resetNRise) := fun _ _ h => nomatch h
theorem resetNFall (lowNs : Nat) : Statement (.resetNFall lowNs) := fun _ _ h => nomatch h
theorem supplyBelowReset (rail : Fin 10) (lowNs : Nat) : Statement (.supplyBelowReset rail lowNs) := fun _ _ h => nomatch h
theorem hostAccessPowerOff (addr : Nat) (write : Bool) (v : Word) : Statement (.hostAccessPowerOff addr write v) := by
  intro h a e
  cases e
  simp [Instr.wf, okAddr] at h
  omega
theorem supplyFault (rail : Fin 10) (mv : Nat) : Statement (.supplyFault rail mv) := fun _ _ h => nomatch h
theorem dumpDone (len : BitVec 9) : Statement (.dumpDone len) := fun _ _ h => nomatch h
theorem faultLogMove : Statement (.faultLogMove) := fun _ _ h => nomatch h
theorem updateStrobe (src : Source) (v : Word) : Statement (.updateStrobe src v) := fun _ _ h => nomatch h
theorem admissionVerdict : Statement (.admissionVerdict) := fun _ _ h => nomatch h
theorem timedApply : Statement (.timedApply) := fun _ _ h => nomatch h
theorem updateCancel (src : Source) (v : Word) : Statement (.updateCancel src v) := fun _ _ h => nomatch h
theorem capacityFall (c : Capacity) : Statement (.capacityFall c) := fun _ _ h => nomatch h
theorem xtalLoss : Statement (.xtalLoss) := fun _ _ h => nomatch h
theorem pllLoss (n : Fin 9) : Statement (.pllLoss n) := fun _ _ h => nomatch h
theorem pllLock (n : Fin 9) : Statement (.pllLock n) := fun _ _ h => nomatch h
theorem pllRetuneTimeout (n : Fin 9) : Statement (.pllRetuneTimeout n) := fun _ _ h => nomatch h
theorem refWindow (count : Nat) (corr : Int) : Statement (.refWindow count corr) := fun _ _ h => nomatch h
theorem holdoverExit : Statement (.holdoverExit) := fun _ _ h => nomatch h
theorem syncInEdge (rising : Bool) (stamp : Stamp) (onPhase : Bool) : Statement (.syncInEdge rising stamp onPhase) := fun _ _ h => nomatch h
theorem divArm (src : Source) (v : Word) : Statement (.divArm src v) := fun _ _ h => nomatch h
theorem almStep (src : Source) (v : Word) : Statement (.almStep src v) := fun _ _ h => nomatch h
theorem ppsInEdge (rising : Bool) (stamp : Stamp) : Statement (.ppsInEdge rising stamp) := fun _ _ h => nomatch h
theorem ppsAbsent : Statement (.ppsAbsent) := fun _ _ h => nomatch h
theorem ppsOutPulse : Statement (.ppsOutPulse) := fun _ _ h => nomatch h
theorem ppsOutEnd : Statement (.ppsOutEnd) := fun _ _ h => nomatch h
theorem trigInEdge (k : Fin 8) (rising : Bool) (stamp : Stamp) : Statement (.trigInEdge k rising stamp) := fun _ _ h => nomatch h
theorem tdcArm (src : Source) (v : Word) : Statement (.tdcArm src v) := fun _ _ h => nomatch h
theorem tdcAbort (src : Source) (v : Word) : Statement (.tdcAbort src v) := fun _ _ h => nomatch h
theorem tdcTimeout : Statement (.tdcTimeout) := fun _ _ h => nomatch h
theorem tdcCalibrate (failed : BitVec 10) : Statement (.tdcCalibrate failed) := fun _ _ h => nomatch h
theorem laneMarker (n : Fin 32) (stamp : Stamp) (offset : Nat) (samples : Nat) (more : Bool) : Statement (.laneMarker n stamp offset samples more) := fun _ _ h => nomatch h
theorem cdrDone (n : Fin 32) (ctle : BitVec 4) (taps : BitVec 30) : Statement (.cdrDone n ctle taps) := fun _ _ h => nomatch h
theorem codeGroupSync (n : Fin 32) : Statement (.codeGroupSync n) := fun _ _ h => nomatch h
theorem converterValid (c : Fin 4) (firstStamp : Stamp) : Statement (.converterValid c firstStamp) := fun _ _ h => nomatch h
theorem ilasReceive (c : Fin 4) (cfg : Ilas) : Statement (.ilasReceive c cfg) := fun _ _ h => nomatch h
theorem deskewFail (c : Fin 4) : Statement (.deskewFail c) := fun _ _ h => nomatch h
theorem fomMeasure (n : Fin 32) (h v : BitVec 8) : Statement (.fomMeasure n h v) := fun _ _ h => nomatch h
theorem dfeAdapt (n : Fin 32) (moves : Vector Int 5) : Statement (.dfeAdapt n moves) := fun _ _ h => nomatch h
theorem idleAnnounce (c : Fin 4) (lanes : BitVec 32) : Statement (.idleAnnounce c lanes) := fun _ _ h => nomatch h
theorem idleExit (c : Fin 4) (firstStamp : Stamp) (missed : BitVec 32) : Statement (.idleExit c firstStamp missed) := fun _ _ h => nomatch h
theorem laneSquelch (n : Fin 32) (more : Bool) : Statement (.laneSquelch n more) := fun _ _ h => nomatch h
theorem laneCodeErrors (n : Fin 32) (disp : Fin 5) (unexp : Fin 17) (more : Bool) : Statement (.laneCodeErrors n disp unexp more) := fun _ _ h => nomatch h
theorem laneMarkerError (n : Fin 32) (more : Bool) : Statement (.laneMarkerError n more) := fun _ _ h => nomatch h
theorem cdrLoss (n : Fin 32) (more : Bool) : Statement (.cdrLoss n more) := fun _ _ h => nomatch h
theorem deskewOverrun (n : Fin 32) (more : Bool) : Statement (.deskewOverrun n more) := fun _ _ h => nomatch h
theorem lnkRestart (src : Source) (v : Word) : Statement (.lnkRestart src v) := fun _ _ h => nomatch h
theorem sampleDeliver (ch : Fin 4) (samples : List Sample) : Statement (.sampleDeliver ch samples) := fun _ _ h => nomatch h
theorem dcbClr (unit : Fin 20) (src : Source) (v : Word) : Statement (.dcbClr unit src v) := fun _ _ h => nomatch h
theorem ddcSwap (d : Fin 16) (src : Source) (v : Word) : Statement (.ddcSwap d src v) := fun _ _ h => nomatch h
theorem fadeEnd (d : Fin 16) : Statement (.fadeEnd d) := fun _ _ h => nomatch h
theorem ddcSyncGo (src : Source) (v : Word) : Statement (.ddcSyncGo src v) := fun _ _ h => nomatch h
theorem ddcSyncAbort (src : Source) (v : Word) : Statement (.ddcSyncAbort src v) := fun _ _ h => nomatch h
theorem ddcSyncReset (stamp : Stamp) : Statement (.ddcSyncReset stamp) := fun _ _ h => nomatch h
theorem ddcRelease (stamp : Stamp) : Statement (.ddcRelease stamp) := fun _ _ h => nomatch h
theorem spectrumRelease (source : Fin 32) (bins : List (Int × Int)) : Statement (.spectrumRelease source bins) := fun _ _ h => nomatch h
theorem traceSnap (source : Fin 32) (t : Fin 4) (src : Source) (v : Word) : Statement (.traceSnap source t src v) := fun _ _ h => nomatch h
theorem traceReset (source : Fin 32) (t : Fin 4) (src : Source) (v : Word) : Statement (.traceReset source t src v) := fun _ _ h => nomatch h
theorem pipeFail (p : Fin 10) (cause : BitVec 4) (loc : Word) : Statement (.pipeFail p cause loc) := fun _ _ h => nomatch h
theorem pipeReset (p : Fin 10) (src : Source) (v : Word) : Statement (.pipeReset p src v) := fun _ _ h => nomatch h
theorem patternTestDone (p : Fin 10) (pass : Bool) : Statement (.patternTestDone p pass) := fun _ _ h => nomatch h
theorem spareTakeover (src : Source) (v : Word) : Statement (.spareTakeover src v) := fun _ _ h => nomatch h
theorem spareRelease (src : Source) (v : Word) : Statement (.spareRelease src v) := fun _ _ h => nomatch h
theorem spareSwitch (isMatch : Bool) : Statement (.spareSwitch isMatch) := fun _ _ h => nomatch h
theorem checkStart (src : Source) (v : Word) : Statement (.checkStart src v) := fun _ _ h => nomatch h
theorem checkInterval : Statement (.checkInterval) := fun _ _ h => nomatch h
theorem checkAbort (src : Source) (v : Word) : Statement (.checkAbort src v) := fun _ _ h => nomatch h
theorem checkTestDone (pass : Bool) : Statement (.checkTestDone pass) := fun _ _ h => nomatch h
theorem slotDecide (stamp next delivered : Stamp) (real : Bool) : Statement (.slotDecide stamp next delivered real) := fun _ _ h => nomatch h
theorem autoTimer : Statement (.autoTimer) := fun _ _ h => nomatch h
theorem trgArm (src : Source) (v : Word) : Statement (.trgArm src v) := fun _ _ h => nomatch h
theorem trgForce (src : Source) (v : Word) : Statement (.trgForce src v) := fun _ _ h => nomatch h
theorem trgLogPop (src : Source) (v : Word) : Statement (.trgLogPop src v) := fun _ _ h => nomatch h
theorem seqReset (src : Source) (v : Word) : Statement (.seqReset src v) := fun _ _ h => nomatch h
theorem trigOutPulse (k : Fin 4) (t : Stamp) : Statement (.trigOutPulse k t) := fun _ _ h => nomatch h
theorem trigOutEnd (k : Fin 4) : Statement (.trigOutEnd k) := fun _ _ h => nomatch h
theorem remoteTriggerRx (p : Fin 4) (txId : BitVec 4) (instant : Stamp) (node : BitVec 14) (cause : BitVec 26) (hops : Nat) : Statement (.remoteTriggerRx p txId instant node cause hops) := fun _ _ h => nomatch h
theorem acqArm (u : Fin 4) (src : Source) (v : Word) : Statement (.acqArm u src v) := fun _ _ h => nomatch h
theorem acqStop (u : Fin 4) (src : Source) (v : Word) : Statement (.acqStop u src v) := fun _ _ h => nomatch h
theorem acqAbort (u : Fin 4) (src : Source) (v : Word) : Statement (.acqAbort u src v) := fun _ _ h => nomatch h
theorem lrdWrite (u : Fin 4) (src : Source) (v : Word) : Statement (.lrdWrite u src v) := fun _ _ h => nomatch h
theorem segmentEntry (u : Fin 4) : Statement (.segmentEntry u) := fun _ _ h => nomatch h
theorem stagingOverrun (u : Fin 4) : Statement (.stagingOverrun u) := fun _ _ h => nomatch h
theorem stagingResume (u : Fin 4) : Statement (.stagingResume u) := fun _ _ h => nomatch h
theorem circularPostStop (u : Fin 4) : Statement (.circularPostStop u) := fun _ _ h => nomatch h
theorem autoRearm (u : Fin 4) : Statement (.autoRearm u) := fun _ _ h => nomatch h
theorem containerBlock (u : Fin 4) : Statement (.containerBlock u) := fun _ _ h => nomatch h
theorem nebTimer : Statement (.nebTimer) := fun _ _ h => nomatch h
theorem nebSwap (src : Source) (v : Word) : Statement (.nebSwap src v) := fun _ _ h => nomatch h
theorem nebClear (src : Source) (v : Word) : Statement (.nebClear src v) := fun _ _ h => nomatch h
theorem nebHold (src : Source) (v : Word) : Statement (.nebHold src v) := fun _ _ h => nomatch h
theorem nebRelease (src : Source) (v : Word) : Statement (.nebRelease src v) := fun _ _ h => nomatch h
theorem swapEdge : Statement (.swapEdge) := fun _ _ h => nomatch h
theorem publicationComplete : Statement (.publicationComplete) := fun _ _ h => nomatch h
theorem holdExpired : Statement (.holdExpired) := fun _ _ h => nomatch h
theorem vblank : Statement (.vblank) := fun _ _ h => nomatch h
theorem dpyCommit (src : Source) (v : Word) : Statement (.dpyCommit src v) := fun _ _ h => nomatch h
theorem commitLand : Statement (.commitLand) := fun _ _ h => nomatch h
theorem composeStart : Statement (.composeStart) := fun _ _ h => nomatch h
theorem densityLockRelease : Statement (.densityLockRelease) := fun _ _ h => nomatch h
theorem scanoutLine (line : Nat) (composed : Bool) : Statement (.scanoutLine line composed) := fun _ _ h => nomatch h
theorem teInEdge (rising : Bool) : Statement (.teInEdge rising) := fun _ _ h => nomatch h
theorem teMiss : Statement (.teMiss) := fun _ _ h => nomatch h
theorem linkTrained (rate : BitVec 3) (lanes : BitVec 2) (ok : Bool) : Statement (.linkTrained rate lanes ok) := fun _ _ h => nomatch h
theorem hpdIrq (lost : Bool) : Statement (.hpdIrq lost) := fun _ _ h => nomatch h
theorem hpdUnplug : Statement (.hpdUnplug) := fun _ _ h => nomatch h
theorem hpdPlug : Statement (.hpdPlug) := fun _ _ h => nomatch h
theorem auxGo (src : Source) (v : Word) : Statement (.auxGo src v) := fun _ _ h => nomatch h
theorem auxDone (result : BitVec 2) (data : List Byte) : Statement (.auxDone result data) := fun _ _ h => nomatch h
theorem lodStart (core : Fin 8) (src : Source) (v : Word) : Statement (.lodStart core src v) := fun _ _ h => nomatch h
theorem lodStop (core : Fin 8) (src : Source) (v : Word) : Statement (.lodStop core src v) := fun _ _ h => nomatch h
theorem lodDoor (core : Fin 8) (src : Source) (v : Word) : Statement (.lodDoor core src v) := fun _ _ h => nomatch h
theorem lodTimer (core : Fin 8) : Statement (.lodTimer core) := fun _ _ h => nomatch h
theorem tapEntry (core : Fin 8) (q : Fin 2) : Statement (.tapEntry core q) := fun _ _ h => nomatch h
theorem interruptEntry (core : Fin 8) : Statement (.interruptEntry core) := fun _ _ h => nomatch h
theorem budgetOverrun (core : Fin 8) : Statement (.budgetOverrun core) := fun _ _ h => nomatch h
theorem lodBusyWindow (core : Fin 8) (mstall : Nat) : Statement (.lodBusyWindow core mstall) := fun _ _ h => nomatch h
theorem nop (core : Fin 8) (w : BitVec 24) : Statement (.nop core w) := fun _ _ h => nomatch h
theorem wait (core : Fin 8) (w : BitVec 24) : Statement (.wait core w) := fun _ _ h => nomatch h
theorem reti (core : Fin 8) (w : BitVec 24) : Statement (.reti core w) := fun _ _ h => nomatch h
theorem rts (core : Fin 8) (w : BitVec 24) : Statement (.rts core w) := fun _ _ h => nomatch h
theorem ei (core : Fin 8) (w : BitVec 24) : Statement (.ei core w) := fun _ _ h => nomatch h
theorem di (core : Fin 8) (w : BitVec 24) : Statement (.di core w) := fun _ _ h => nomatch h
theorem trap (core : Fin 8) (w : BitVec 24) : Statement (.trap core w) := fun _ _ h => nomatch h
theorem sig (core : Fin 8) (w : BitVec 24) : Statement (.sig core w) := fun _ _ h => nomatch h
theorem hostev (core : Fin 8) (w : BitVec 24) : Statement (.hostev core w) := fun _ _ h => nomatch h
theorem clrv (core : Fin 8) (w : BitVec 24) : Statement (.clrv core w) := fun _ _ h => nomatch h
theorem bra (core : Fin 8) (w : BitVec 26) : Statement (.bra core w) := fun _ _ h => nomatch h
theorem bcc (core : Fin 8) (w : BitVec 26) : Statement (.bcc core w) := fun _ _ h => nomatch h
theorem call (core : Fin 8) (w : BitVec 26) : Statement (.call core w) := fun _ _ h => nomatch h
theorem rep (core : Fin 8) (w : BitVec 27) : Statement (.rep core w) := fun _ _ h => nomatch h
theorem loop (core : Fin 8) (w : BitVec 27) : Statement (.loop core w) := fun _ _ h => nomatch h
theorem add (core : Fin 8) (w : BitVec 23) : Statement (.add core w) := fun _ _ h => nomatch h
theorem sub (core : Fin 8) (w : BitVec 23) : Statement (.sub core w) := fun _ _ h => nomatch h
theorem and (core : Fin 8) (w : BitVec 23) : Statement (.and core w) := fun _ _ h => nomatch h
theorem or (core : Fin 8) (w : BitVec 23) : Statement (.or core w) := fun _ _ h => nomatch h
theorem xor (core : Fin 8) (w : BitVec 23) : Statement (.xor core w) := fun _ _ h => nomatch h
theorem asr (core : Fin 8) (w : BitVec 23) : Statement (.asr core w) := fun _ _ h => nomatch h
theorem lsr (core : Fin 8) (w : BitVec 23) : Statement (.lsr core w) := fun _ _ h => nomatch h
theorem shl (core : Fin 8) (w : BitVec 23) : Statement (.shl core w) := fun _ _ h => nomatch h
theorem cmp (core : Fin 8) (w : BitVec 23) : Statement (.cmp core w) := fun _ _ h => nomatch h
theorem mov (core : Fin 8) (w : BitVec 23) : Statement (.mov core w) := fun _ _ h => nomatch h
theorem neg (core : Fin 8) (w : BitVec 23) : Statement (.neg core w) := fun _ _ h => nomatch h
theorem abs (core : Fin 8) (w : BitVec 23) : Statement (.abs core w) := fun _ _ h => nomatch h
theorem aluiAdd (core : Fin 8) (w : BitVec 23) : Statement (.aluiAdd core w) := fun _ _ h => nomatch h
theorem aluiSub (core : Fin 8) (w : BitVec 23) : Statement (.aluiSub core w) := fun _ _ h => nomatch h
theorem aluiAnd (core : Fin 8) (w : BitVec 23) : Statement (.aluiAnd core w) := fun _ _ h => nomatch h
theorem aluiOr (core : Fin 8) (w : BitVec 23) : Statement (.aluiOr core w) := fun _ _ h => nomatch h
theorem aluiXor (core : Fin 8) (w : BitVec 23) : Statement (.aluiXor core w) := fun _ _ h => nomatch h
theorem aluiAsr (core : Fin 8) (w : BitVec 23) : Statement (.aluiAsr core w) := fun _ _ h => nomatch h
theorem aluiLsr (core : Fin 8) (w : BitVec 23) : Statement (.aluiLsr core w) := fun _ _ h => nomatch h
theorem aluiShl (core : Fin 8) (w : BitVec 23) : Statement (.aluiShl core w) := fun _ _ h => nomatch h
theorem aluiCmp (core : Fin 8) (w : BitVec 23) : Statement (.aluiCmp core w) := fun _ _ h => nomatch h
theorem aluiMov (core : Fin 8) (w : BitVec 23) : Statement (.aluiMov core w) := fun _ _ h => nomatch h
theorem aluiNeg (core : Fin 8) (w : BitVec 23) : Statement (.aluiNeg core w) := fun _ _ h => nomatch h
theorem aluiAbs (core : Fin 8) (w : BitVec 23) : Statement (.aluiAbs core w) := fun _ _ h => nomatch h
theorem mpy (core : Fin 8) (w : BitVec 26) : Statement (.mpy core w) := fun _ _ h => nomatch h
theorem mac (core : Fin 8) (w : BitVec 26) : Statement (.mac core w) := fun _ _ h => nomatch h
theorem msu (core : Fin 8) (w : BitVec 26) : Statement (.msu core w) := fun _ _ h => nomatch h
theorem cmpy (core : Fin 8) (w : BitVec 26) : Statement (.cmpy core w) := fun _ _ h => nomatch h
theorem cmac (core : Fin 8) (w : BitVec 26) : Statement (.cmac core w) := fun _ _ h => nomatch h
theorem cmacj (core : Fin 8) (w : BitVec 26) : Statement (.cmacj core w) := fun _ _ h => nomatch h
theorem cmsu (core : Fin 8) (w : BitVec 26) : Statement (.cmsu core w) := fun _ _ h => nomatch h
theorem clra (core : Fin 8) (w : BitVec 24) : Statement (.clra core w) := fun _ _ h => nomatch h
theorem adda (core : Fin 8) (w : BitVec 24) : Statement (.adda core w) := fun _ _ h => nomatch h
theorem suba (core : Fin 8) (w : BitVec 24) : Statement (.suba core w) := fun _ _ h => nomatch h
theorem ash (core : Fin 8) (w : BitVec 24) : Statement (.ash core w) := fun _ _ h => nomatch h
theorem mva (core : Fin 8) (w : BitVec 24) : Statement (.mva core w) := fun _ _ h => nomatch h
theorem mvda (core : Fin 8) (w : BitVec 24) : Statement (.mvda core w) := fun _ _ h => nomatch h
theorem ld (core : Fin 8) (w : BitVec 26) : Statement (.ld core w) := fun _ _ h => nomatch h
theorem st (core : Fin 8) (acc : Bool) (w : BitVec 26) : Statement (.st core acc w) := fun _ _ h => nomatch h
theorem ldl (core : Fin 8) (w : BitVec 26) : Statement (.ldl core w) := fun _ _ h => nomatch h
theorem stl (core : Fin 8) (w : BitVec 26) : Statement (.stl core w) := fun _ _ h => nomatch h
theorem move (core : Fin 8) (w : BitVec 28) : Statement (.move core w) := fun _ _ h => nomatch h
theorem ldg (core : Fin 8) (w : BitVec 28) : Statement (.ldg core w) := fun _ _ h => nomatch h
theorem addg (core : Fin 8) (w : BitVec 28) : Statement (.addg core w) := fun _ _ h => nomatch h
theorem tget (core : Fin 8) (w : BitVec 26) : Statement (.tget core w) := fun _ _ h => nomatch h
theorem mvs (core : Fin 8) (w : BitVec 26) : Statement (.mvs core w) := fun _ _ h => nomatch h
theorem mvt (core : Fin 8) (w : BitVec 26) : Statement (.mvt core w) := fun _ _ h => nomatch h
theorem ldi (core : Fin 8) (w : BitVec 24) (imm : BitVec 32) : Statement (.ldi core w imm) := fun _ _ h => nomatch h
theorem lda (core : Fin 8) (w : BitVec 24) (imm : BitVec 32) : Statement (.lda core w imm) := fun _ _ h => nomatch h
theorem sta (core : Fin 8) (w : BitVec 24) (imm : BitVec 32) : Statement (.sta core w imm) := fun _ _ h => nomatch h
theorem dmaStart (k : Fin 32) (src : Source) (v : Word) : Statement (.dmaStart k src v) := fun _ _ h => nomatch h
theorem dmaStop (k : Fin 32) (src : Source) (v : Word) : Statement (.dmaStop k src v) := fun _ _ h => nomatch h
theorem dmaAbort (k : Fin 32) (beats : Nat) (host : List Byte) (src : Source) (v : Word) : Statement (.dmaAbort k beats host src v) := fun _ _ h => nomatch h
theorem kick (k : Fin 32) (src : Source) (v : Word) : Statement (.kick k src v) := fun _ _ h => nomatch h
theorem dmaHeadWrite (k : Fin 32) (src : Source) (v : Word) : Statement (.dmaHeadWrite k src v) := fun _ _ h => nomatch h
theorem descriptorFetch (k : Fin 32) : Statement (.descriptorFetch k) := fun _ _ h => nomatch h
theorem descriptorComplete (k : Fin 32) (host : List Byte) : Statement (.descriptorComplete k host) := fun _ _ h => nomatch h
theorem beatRefused (k : Fin 32) (read : Bool) (beats : Nat) (detail : BitVec 8) (host : List Byte) : Statement (.beatRefused k read beats detail host) := fun _ _ h => nomatch h
theorem barrierArm (b : Fin 16) (src : Source) (v : Word) : Statement (.barrierArm b src v) := fun _ _ h => nomatch h
theorem chkReset (n : Fin 16) (src : Source) (v : Word) : Statement (.chkReset n src v) := fun _ _ h => nomatch h
theorem agePromote (path : Fin 32) (index : Fin 64) : Statement (.agePromote path index) := fun _ _ h => nomatch h
theorem hostLinkUp (width : BitVec 6) (speed : BitVec 3) (bme msixEn funcMask : Bool) : Statement (.hostLinkUp width speed bme msixEn funcMask) := fun _ _ h => nomatch h
theorem hostLinkReset (p : List (Fin 32 × Nat × List Byte)) : Statement (.hostLinkReset p) := fun _ _ h => nomatch h
theorem functionLevelReset (p : List (Fin 32 × Nat × List Byte)) : Statement (.functionLevelReset p) := fun _ _ h => nomatch h
theorem hostCompletionTimeout (k : Fin 32) (beats : Nat) (host : List Byte) : Statement (.hostCompletionTimeout k beats host) := fun _ _ h => nomatch h
theorem msixMessage (vec : Fin 32) : Statement (.msixMessage vec) := fun _ _ h => nomatch h
theorem bar2Access (addr : Nat) (write : Bool) (bytes : List (Option Byte)) (rivals : List (Fin 64 × Nat)) : Statement (.bar2Access addr write bytes rivals) := fun _ _ h => nomatch h
theorem bar4Access (addr : Nat) (write : Bool) (bytes : List (Option Byte)) (rivals : List (Fin 64 × Nat)) : Statement (.bar4Access addr write bytes rivals) := fun _ _ h => nomatch h
theorem driveBringup (d : Fin 4) (ok : Bool) (lba : Nat) (metadata : Bool) (nsze : Nat) (mdts : BitVec 8) (mqes : BitVec 16) : Statement (.driveBringup d ok lba metadata nsze mdts mqes) := fun _ _ h => nomatch h
theorem writeComplete (d : Fin 4) (n : Nat) (sct : BitVec 3) (sc : BitVec 8) (cid : BitVec 16) : Statement (.writeComplete d n sct sc cid) := fun _ _ h => nomatch h
theorem nvmeTimeout (d : Fin 4) (n : Nat) (cid : BitVec 16) : Statement (.nvmeTimeout d n cid) := fun _ _ h => nomatch h
theorem driveFail (d : Fin 4) (linkLost : Bool) : Statement (.driveFail d linkLost) := fun _ _ h => nomatch h
theorem sptReinit (mask : BitVec 4) (src : Source) (v : Word) : Statement (.sptReinit mask src v) := fun _ _ h => nomatch h
theorem sptFlush (src : Source) (v : Word) : Statement (.sptFlush src v) := fun _ _ h => nomatch h
theorem flushComplete (err : Bool) : Statement (.flushComplete err) := fun _ _ h => nomatch h
theorem refresh (ch : Fin 16) (bank : Fin 16) (c0 : Bool) : Statement (.refresh ch bank c0) := fun _ _ h => nomatch h
theorem tempRead (c : Fin 8) (tA tB : BitVec 8) : Statement (.tempRead c tA tB) := fun _ _ h => nomatch h
theorem retrainInterval (ch : Fin 16) : Statement (.retrainInterval ch) := fun _ _ h => nomatch h
theorem memTrain (src : Source) (v : Word) : Statement (.memTrain src v) := fun _ _ h => nomatch h
theorem trainStepDone (ok : Bool) : Statement (.trainStepDone ok) := fun _ _ h => nomatch h
theorem trainRetry (ok : Bool) : Statement (.trainRetry ok) := fun _ _ h => nomatch h
theorem trainingDone (ok : Bool) : Statement (.trainingDone ok) := fun _ _ h => nomatch h
theorem freqGo (src : Source) (v : Word) : Statement (.freqGo src v) := fun _ _ h => nomatch h
theorem rowActivate (ch : Fin 16) (bank : Fin 16) (row : BitVec 15) (req : BitVec 6) : Statement (.rowActivate ch bank row req) := fun _ _ h => nomatch h
theorem throttleEnd (ch : Fin 16) (bank : Fin 16) (req : BitVec 6) : Statement (.throttleEnd ch bank req) := fun _ _ h => nomatch h
theorem patrolScrub (word : Nat) (errors : Fin 3) : Statement (.patrolScrub word errors) := fun _ _ h => nomatch h
theorem rowSpareDone (ch : Fin 16) (bank : Fin 16) (row : BitVec 15) : Statement (.rowSpareDone ch bank row) := fun _ _ h => nomatch h
theorem adcSlot (measure : Bool) (raw0 raw1 : BitVec 16) : Statement (.adcSlot measure raw0 raw1) := fun _ _ h => nomatch h
theorem inj (src : Source) (v : Word) : Statement (.inj src v) := fun _ _ h => nomatch h
theorem calGo (src : Source) (v : Word) : Statement (.calGo src v) := fun _ _ h => nomatch h
theorem calPointDone : Statement (.calPointDone) := fun _ _ h => nomatch h
theorem calApply (src : Source) (v : Word) : Statement (.calApply src v) := fun _ _ h => nomatch h
theorem diagGo (src : Source) (v : Word) : Statement (.diagGo src v) := fun _ _ h => nomatch h
theorem diagAbort (src : Source) (v : Word) : Statement (.diagAbort src v) := fun _ _ h => nomatch h
theorem diagDone : Statement (.diagDone) := fun _ _ h => nomatch h
theorem loopCompute (l : Fin 4) : Statement (.loopCompute l) := fun _ _ h => nomatch h
theorem clrFault (l : Fin 4) (src : Source) (v : Word) : Statement (.clrFault l src v) := fun _ _ h => nomatch h
theorem pwmPeriod (p : Fin 4) : Statement (.pwmPeriod p) := fun _ _ h => nomatch h
theorem spiGo (m : Fin 8) (src : Source) (v : Word) : Statement (.spiGo m src v) := fun _ _ h => nomatch h
theorem spiDone (m : Fin 8) (rx : Word) : Statement (.spiDone m rx) := fun _ _ h => nomatch h
theorem ssGo (src : Source) (v : Word) : Statement (.ssGo src v) := fun _ _ h => nomatch h
theorem ssStop (src : Source) (v : Word) : Statement (.ssStop src v) := fun _ _ h => nomatch h
theorem ssAbort (src : Source) (v : Word) : Statement (.ssAbort src v) := fun _ _ h => nomatch h
theorem stepStart : Statement (.stepStart) := fun _ _ h => nomatch h
theorem gateOpen : Statement (.gateOpen) := fun _ _ h => nomatch h
theorem stepEnd : Statement (.stepEnd) := fun _ _ h => nomatch h
theorem stepLate : Statement (.stepLate) := fun _ _ h => nomatch h
theorem portUp (p : Fin 4) (delay : Nat) (peer : Option (Nat × Nat × Nat)) (count : Option Nat) (c : Nat) (healed : Bool) : Statement (.portUp p delay peer count c healed) := fun _ _ h => nomatch h
theorem portDown (p : Fin 4) (cause : BitVec 4) (remote : Option Nat) (members : Nat) : Statement (.portDown p cause remote members) := fun _ _ h => nomatch h
theorem frameResend (p : Fin 4) : Statement (.frameResend p) := fun _ _ h => nomatch h
theorem beaconSend : Statement (.beaconSend) := fun _ _ h => nomatch h
theorem beaconReceive (p : Fin 4) (tTx : Stamp) (tq : BitVec 2) (tRx : Stamp) (c : Nat) : Statement (.beaconReceive p tTx tq tRx c) := fun _ _ h => nomatch h
theorem bcast (src : Source) (v : Word) : Statement (.bcast src v) := fun _ _ h => nomatch h
theorem broadcastDeliver (sender : BitVec 14) (data : Vector Word 8) : Statement (.broadcastDeliver sender data) := fun _ _ h => nomatch h
theorem bcPop (src : Source) (v : Word) : Statement (.bcPop src v) := fun _ _ h => nomatch h
theorem arrive (src : Source) (v : Word) : Statement (.arrive src v) := fun _ _ h => nomatch h
theorem barrierRelease (stamp : Stamp) (lost : Bool) : Statement (.barrierRelease stamp lost) := fun _ _ h => nomatch h
theorem cstSnap (src : Source) (v : Word) : Statement (.cstSnap src v) := fun _ _ h => nomatch h
theorem snapshotCapture (request : Option (Stamp × Word × Bool)) : Statement (.snapshotCapture request) := fun _ _ h => nomatch h
theorem cstApply (src : Source) (v : Word) : Statement (.cstApply src v) := fun _ _ h => nomatch h
theorem applyPrepare (groups : Word) : Statement (.applyPrepare groups) := fun _ _ h => nomatch h
theorem applyCommit (e : ApplyEnd) : Statement (.applyCommit e) := fun _ _ h => nomatch h
theorem cstReset (src : Source) (v : Word) : Statement (.cstReset src v) := fun _ _ h => nomatch h
theorem systemReset (request : Option Stamp) : Statement (.systemReset request) := fun _ _ h => nomatch h
theorem opTimeout (k : Fin 5) : Statement (.opTimeout k) := fun _ _ h => nomatch h
theorem registerWrite (src : Source) (addr size : Nat) (v : BitVec 64) : Statement (.registerWrite src addr size v) := by
  intro h a e
  cases e
  simp [Instr.wf, okAddr] at h
  omega
theorem setAlias (src : Source) (addr : Nat) (v : Word) : Statement (.setAlias src addr v) := by
  intro h a e
  cases e
  simp [Instr.wf, okAddr] at h
  omega
theorem clearAlias (src : Source) (addr : Nat) (v : Word) : Statement (.clearAlias src addr v) := by
  intro h a e
  cases e
  simp [Instr.wf, okAddr] at h
  omega
theorem toggleAlias (src : Source) (addr : Nat) (v : Word) : Statement (.toggleAlias src addr v) := by
  intro h a e
  cases e
  simp [Instr.wf, okAddr] at h
  omega
theorem readClear (src : Source) (addr size : Nat) : Statement (.readClear src addr size) := by
  intro h a e
  cases e
  simp [Instr.wf, okAddr] at h
  omega
theorem latchingRead (src : Source) (addr size : Nat) : Statement (.latchingRead src addr size) := by
  intro h a e
  cases e
  simp [Instr.wf, okAddr] at h
  omega
theorem groupWrite (w : Nat) (src : Source) (v : Word) : Statement (.groupWrite w src v) := fun _ _ h => nomatch h
theorem guardPass : Statement (.guardPass) := fun _ _ h => nomatch h
theorem cfgcrcRefWrite (src : Source) (v : Word) : Statement (.cfgcrcRefWrite src v) := fun _ _ h => nomatch h
theorem errLogPop (src : Source) (v : Word) : Statement (.errLogPop src v) := fun _ _ h => nomatch h
theorem headerRead : Statement (.headerRead) := fun _ _ h => nomatch h
theorem imageCheck (ownFmt : BitVec 8) (sigOk : Bool) : Statement (.imageCheck ownFmt sigOk) := fun _ _ h => nomatch h
theorem firmwareStart : Statement (.firmwareStart) := fun _ _ h => nomatch h
theorem standbyLoaded (ok : Bool) : Statement (.standbyLoaded ok) := fun _ _ h => nomatch h
theorem regRecord : Statement (.regRecord) := fun _ _ h => nomatch h
theorem maskRecord : Statement (.maskRecord) := fun _ _ h => nomatch h
theorem sramRecord : Statement (.sramRecord) := fun _ _ h => nomatch h
theorem powerRecord : Statement (.powerRecord) := fun _ _ h => nomatch h
theorem waitRecord : Statement (.waitRecord) := fun _ _ h => nomatch h
theorem waitRecordTimeout : Statement (.waitRecordTimeout) := fun _ _ h => nomatch h
theorem applyRecord : Statement (.applyRecord) := fun _ _ h => nomatch h
theorem crcrefRecord : Statement (.crcrefRecord) := fun _ _ h => nomatch h
theorem endRecord : Statement (.endRecord) := fun _ _ h => nomatch h
theorem hostCfgTimeout : Statement (.hostCfgTimeout) := fun _ _ h => nomatch h
theorem updStart (src : Source) (v : Word) : Statement (.updStart src v) := fun _ _ h => nomatch h
theorem updAbort (src : Source) (v : Word) : Statement (.updAbort src v) := fun _ _ h => nomatch h
theorem dataBlock (src : Source) (v : Word) : Statement (.dataBlock src v) := fun _ _ h => nomatch h
theorem copyBlock (src : Source) (v : Word) : Statement (.copyBlock src v) := fun _ _ h => nomatch h
theorem fillBlock (src : Source) (v : Word) : Statement (.fillBlock src v) := fun _ _ h => nomatch h
theorem endBlock (src : Source) (v : Word) : Statement (.endBlock src v) := fun _ _ h => nomatch h
theorem blockProgrammed : Statement (.blockProgrammed) := fun _ _ h => nomatch h
theorem slotVerify (ownFmt : BitVec 8) (sigOk : Bool) : Statement (.slotVerify ownFmt sigOk) := fun _ _ h => nomatch h
theorem flashFail : Statement (.flashFail) := fun _ _ h => nomatch h
theorem handover (src : Source) (v : Word) : Statement (.handover src v) := fun _ _ h => nomatch h
theorem handoverSwitch : Statement (.handoverSwitch) := fun _ _ h => nomatch h
theorem handoverResume : Statement (.handoverResume) := fun _ _ h => nomatch h
theorem confirm (src : Source) (v : Word) : Statement (.confirm src v) := fun _ _ h => nomatch h
theorem revert (src : Source) (v : Word) : Statement (.revert src v) := fun _ _ h => nomatch h
theorem bootnext (src : Source) (v : Word) : Statement (.bootnext src v) := fun _ _ h => nomatch h
theorem loadstby (src : Source) (v : Word) : Statement (.loadstby src v) := fun _ _ h => nomatch h
theorem trialExpiry : Statement (.trialExpiry) := fun _ _ h => nomatch h
theorem watchdogExpiry (standby : Bool) : Statement (.watchdogExpiry standby) := fun _ _ h => nomatch h
theorem fltAck (src : Source) (v : Word) : Statement (.fltAck src v) := fun _ _ h => nomatch h
theorem faultLogPop (src : Source) (v : Word) : Statement (.faultLogPop src v) := fun _ _ h => nomatch h
theorem sramScrub (word : Nat) (errors : Fin 3) : Statement (.sramScrub word errors) := fun _ _ h => nomatch h
theorem sramRowSpared : Statement (.sramRowSpared) := fun _ _ h => nomatch h
theorem thermSample (tj : Int) (sensor : BitVec 6) : Statement (.thermSample tj sensor) := fun _ _ h => nomatch h
theorem pwrUp (d : Fin 24) (src : Source) (v : Word) : Statement (.pwrUp d src v) := fun _ _ h => nomatch h
theorem pwrDown (d : Fin 24) (p : List (Fin 32 × Nat × List Byte)) (src : Source) (v : Word) : Statement (.pwrDown d p src v) := fun _ _ h => nomatch h
theorem pwrForce (d : Fin 24) (p : List (Fin 32 × Nat × List Byte)) (src : Source) (v : Word) : Statement (.pwrForce d p src v) := fun _ _ h => nomatch h
theorem domainOn (d : Fin 24) (p : List (Fin 32 × Nat × List Byte)) : Statement (.domainOn d p) := fun _ _ h => nomatch h
theorem restoreDone (d : Fin 24) : Statement (.restoreDone d) := fun _ _ h => nomatch h
theorem drainDone (d : Fin 24) (p : List (Fin 32 × Nat × List Byte)) : Statement (.drainDone d p) := fun _ _ h => nomatch h
theorem drainTimeout (d : Fin 24) : Statement (.drainTimeout d) := fun _ _ h => nomatch h
theorem domainOff (d : Fin 24) : Statement (.domainOff d) := fun _ _ h => nomatch h
theorem slSyncnRise (c : Fin 4) : Statement (.slSyncnRise c) := fun _ _ h => nomatch h
theorem driveLinkUp (d : Fin 4) (width : BitVec 6) (speed : BitVec 3) : Statement (.driveLinkUp d width speed) := fun _ _ h => nomatch h
theorem pwmActiveEnd (p : Fin 4) : Statement (.pwmActiveEnd p) := fun _ _ h => nomatch h
theorem beaconReply (p : Fin 4) (stamp : Stamp) : Statement (.beaconReply p stamp) := fun _ _ h => nomatch h
theorem arrivalReport (p : Fin 4) : Statement (.arrivalReport p) := fun _ _ h => nomatch h
theorem verdictReport (p : Fin 4) (node : BitVec 14) (code : BitVec 8) : Statement (.verdictReport p node code) := fun _ _ h => nomatch h

end Sys2Proof.Laws.WellFormed
end

