-- ==== Sys2Proof/Tests/Slice0.lean ====
section
/-! SUPPORT. The model's own tests: ill-formed commands that WellFormed refuses, and states and operands that meet the
hypotheses of the statements. -/

set_option Elab.async false
set_option maxRecDepth 100000

namespace Sys2Proof.Machine

/-! ### Ill-formed commands -/

theorem test_wf_addr : Instr.wf (.hostAccessPowerOff 0x1000000 false 0) = false := by decide
theorem test_wf_dump : Instr.wf (.dumpDone 257) = false := by decide
theorem test_wf_dfe : Instr.wf (.dfeAdapt 3 #v[0, 0, 2, 0, 0]) = false := by decide
theorem test_wf_samples : Instr.wf (.sampleDeliver 1 []) = false := by decide
theorem test_wf_many_samples : Instr.wf (.sampleDeliver 1 (List.replicate 9 ⟨0, 0, 0, false, false⟩)) = false := by decide
theorem test_wf_sample_scale : Instr.wf (.sampleDeliver 1 [⟨0, 131073, 0, false, false⟩]) = false := by decide
theorem test_wf_spectrum : Instr.wf (.spectrumRelease 0 []) = false := by decide
theorem test_wf_pipe_cause : Instr.wf (.pipeFail 2 4 0) = false := by decide
theorem test_wf_slot : Instr.wf (.slotDecide 8 8 9 true) = false := by decide
theorem test_wf_aux : Instr.wf (.auxDone 0 (List.replicate 17 0)) = false := by decide
theorem test_wf_link_width : Instr.wf (.hostLinkUp 3 1 true true false) = false := by decide
theorem test_wf_link_speed : Instr.wf (.hostLinkUp 4 6 true true false) = false := by decide
theorem test_wf_bar2 : Instr.wf (.bar2Access 0x7FFFFFF false [none, none] []) = false := by decide
theorem test_wf_bar2_empty : Instr.wf (.bar2Access 0 false [] []) = false := by decide
theorem test_wf_bar4 : Instr.wf (.bar4Access 0x3FFFFFFFF false [none, none] []) = false := by decide
theorem test_wf_patrol : Instr.wf (.patrolScrub 0x10000000 1) = false := by decide
theorem test_wf_port_cause : Instr.wf (.portDown 1 5 none 0) = false := by decide
theorem test_wf_write : Instr.wf (.registerWrite .host 0x1000000 4 0) = false := by decide
theorem test_wf_size : Instr.wf (.registerWrite .host 0 3 0) = false := by decide
theorem test_wf_alias : Instr.wf (.setAlias .host 0x4000 0) = false := by decide
theorem test_wf_clear_alias : Instr.wf (.clearAlias .host 0x8000 0) = false := by decide
theorem test_wf_toggle_alias : Instr.wf (.toggleAlias .host 0x4000 0) = false := by decide
theorem test_wf_read : Instr.wf (.readClear .host 0 5) = false := by decide
theorem test_wf_latching_read : Instr.wf (.latchingRead .host 0x1000000 4) = false := by decide
theorem test_wf_window : Instr.wf (.groupWrite 256 .host 0) = false := by decide
theorem test_wf_sram : Instr.wf (.sramScrub 0x1000000 1) = false := by decide
theorem test_wf_therm : Instr.wf (.thermSample 128 0) = false := by decide
theorem test_wf_sensor : Instr.wf (.thermSample 20 16) = false := by decide
theorem test_wf_drive : Instr.wf (.driveLinkUp 0 8 3) = false := by decide
theorem test_wf_good : Instr.wf (.registerWrite .host 0x10040 4 0) = true := by decide

/-- A state in device state `dev` with every power domain on, the fields of `fs` put, and the applied copies of `ap`. -/
def testState (dev : Nat) (fs ap : List (Fld × Nat)) : State :=
  let s : State := { State.reset with regs := (List.range 24).map (fun d => (PWR_DOM_STAT.addr d, 2)) }
  ap.foldl (fun (s : State) x => s.putApp x.1 x.2) (fs.foldl (fun (s : State) x => s.put x.1 x.2) (s.put SYS_STATE.STATE dev))

/-- A record of no event. -/
def testRec : FltRec :=
  { code := 0, cls := .info, sub := 0, window := 0, rep := 0, location := 0, stamp := 0, tq := 0, detail := 0, seq := 1, devState := 4, active := 0 }

/-- Four converters of eight lanes; the lanes of the last, 24 to 31, are enabled and in state `st`; `fs` and `ap` besides. -/
def testLanes (st : Nat) (fs ap : List (Fld × Nat)) : State :=
  let l := (List.range 8).map (fun n => 24 + n)
  testState run (l.map (fun n => (LNK_LANE_STAT.STATE n, st)) ++ fs) ((LNK_CTRL.MODE, 3) :: l.map (fun n => (LNK_LANE_CTRL.EN n, 1)) ++ ap)

/-- Core 7 in state `st`, clocked; every core holds `c`; `fs` and `ap` besides. -/
def testCore (st : Nat) (c : LodCore) (fs ap : List (Fld × Nat)) : State :=
  { testState run ((CLK_PLL_STAT.LOCKED 1, 1) :: (LOD_STAT.STATE 7, st) :: fs) ap with
    lod := { LodSt.reset with core := Vector.replicate 8 c } }

/-- A trigger record. -/
def testTrg : TrgRec :=
  { cause := 1, node := 0, tq := 0, seq := false, noref := false, late := false, primary := 0, stamp := 0, fine := 0, no := 1, delay := 0 }

/-- Capture unit 3 in state `st`, every unit holding `x`; `fs` and `ap` besides. -/
def testAcq (st : Nat) (x : AcqUnit) (fs ap : List (Fld × Nat)) : State :=
  { testState run ((ACQ_U_STAT.STATE 3, st) :: fs) ap with acq := { AcqSt.reset with unit := Vector.replicate 4 x } }

/-- A descriptor of `len` bytes from SRAM to space `space`, with word 0 and word 10 given; `pos` bytes are handed on. -/
def testDesc (w0 w10 : Word) (len pos space : Nat) : DmaCur :=
  { addr := 0x06F00000, pos := pos, acked := pos, row := [], refused := none
    w := Vector.ofFn (fun i => match i.val with
      | 0 => w0 | 1 => BitVec.ofNat 32 len | 2 => 1 | 6 => BitVec.ofNat 32 (space * 2 ^ 28) | 10 => w10 | _ => 0) }

/-- Stall 31 in state `st` with one place in its chain, where the words of `c` stand; it works on `cur`. -/
def testDma (st : Nat) (c : DmaCur) (cur : Option DmaCur) (fs ap : List (Fld × Nat)) : State :=
  let s := testState run ((DMA_S_STAT.STATE 31, st) :: (DMA_S_HEAD.HEAD 31, 0x06F00000 / 64) :: fs) ((DMA_S_CLEN.CLEN 31, 1) :: ap)
  let s := (List.range 16).foldl (fun (s : State) i => s.setSramLE (0x06F00000 + 4 * i) 4 (vget c.w (Fin.ofNat _ i)).toNat) s
  { s with dma := { s.dma with stall := Vector.replicate 32 cur } }

/-- GDDR6 READY with 4 KiB usable, on step `c`; `fs` and `ap` besides. -/
def testMem (c : Option MemStep) (fs ap : List (Fld × Nat)) : State :=
  { testState run ((MEM_STAT.STATE, 2) :: (MEM_USABLE.USABLE, 1) :: fs) ap with mem := { MemSt.reset with cur := c } }


/-- Device state LOAD; the section `sec` is run, and its record at offset 0 stands next, waiting or not; `fs` and `ap` besides. -/
def testRun (sec : List Byte) (w : Bool) (fs ap : List (Fld × Nat)) : State :=
  { testState load fs ap with
    upd := { UpdSt.reset with section_ := sec }, boot := { BootSt.reset with step := .done, run := some ⟨none, sec.length, 0, w⟩ } }

/-- An image of 4224 bytes in slot 0: its header, whose HCRC is `c`, and its FIRMWARE and CERT sections, which are empty. -/
def testImage (c : Nat) : SMap Byte :=
  let hd := leBytes 4 0x39584851 ++ leBytes 4 0x9160 ++ leBytes 4 1 ++ leBytes 4 1 ++ leBytes 4 4224 ++ [0, 0, 0, 0]
    ++ leBytes 6 0 ++ leBytes 2 2 ++ leBytes 4 1 ++ leBytes 4 4096 ++ leBytes 8 0 ++ leBytes 4 3 ++ leBytes 4 4096 ++ leBytes 8 0
  (List.range hd.length).map (fun i => (0x20000 + i, (hd[i]?).getD 0))
    ++ (List.range 4).map (fun i => (0x20FFC + i, BitVec.ofNat 8 (c / 256 ^ i)))

/-- Device state `dev`, with that image in slot 0; boot and update are as `b` and `u` say. -/
def testFlash (dev c : Nat) (b : BootSt) (u : UpdSt) : State := { testState dev [] [] with flash := testImage c, boot := b, upd := u }

/-- The HCRC of that image. -/
def testHcrc : Nat := (crc32c ((testFlash load 0 BootSt.reset UpdSt.reset).flashBytes 0x20000 4092)).toNat

/-- A session of type `ty` and ID 7 writes slot 1, and slot 0 is CONFIRMED with an image of 4224 bytes; NEXT is `next`, and
buffer slot 0 holds block 0 with the given OP, LEN, SRC and payload; `last`: it was accepted. -/
def testBlk (ty next op len src : Nat) (pay : List Byte) (last : Bool) : State :=
  let b := leBytes 4 0x55444B42 ++ leBytes 4 7 ++ leBytes 4 0 ++ leBytes 4 op ++ leBytes 4 0 ++ leBytes 4 len ++ leBytes 4 src
  let c := (crc32c (b ++ pay)).toNat
  let b := b ++ leBytes 4 c ++ pay
  { testState run [(UPD_NEXT.NEXT, next)] [] with
    sram := (List.range b.length).map (fun i => (0x06F00000 + i, (b[i]?).getD 0))
    upd := { UpdSt.reset with
      sess := some (ty, 7, 1), slot0 := { DirSlot.reset with state := kCONFIRMED, len := 4224 }
      lastCrc := if last then some (BitVec.ofNat 32 c) else none } }

/-! ### States and operands that meet the hypotheses of the statements -/

theorem wit_EmptyQueueIdles : (∃ s : State, s.pending = [] ∧ s.dev = powerOff) ∧ (∃ s : State, s.pending = [] ∧ s.dev = run) :=
  ⟨⟨State.reset, by decide +kernel⟩, ⟨testState run [] [], by decide +kernel⟩⟩

theorem wit_EveryStepKeepsSound : ∃ s t : State, (s.canonical ∧ s.logsFit) ∧ step s = .next t := by
  refine ⟨State.reset.pushFront .resetNRise, _, ?_, rfl⟩
  simp only [State.canonical, State.logsFit]
  decide +kernel

theorem wit_CommandsKeepTheirFrame : ∃ (c : Instr) (s t : State), exec c s = .next t := ⟨.resetNRise, State.reset, _, rfl⟩

theorem wit_PowerOffAnswersNothing : ∃ s : State, s.dev = powerOff := ⟨State.reset, by decide +kernel⟩

theorem wit_AliasOfNoRwField :
    (∃ (s : State) (a : Nat), s.dev ≠ powerOff ∧ viewOf a ≠ .normal ∧ rwBits (fieldsAt (normalAddr a / 4 * 4)) = 0)
    ∧ (∃ (s : State) (a : Nat), s.dev ≠ powerOff ∧ viewOf a ≠ .normal ∧ windowImplemented (a / 0x10000) = true) :=
  ⟨⟨testState run [] [], 0x4000, by decide +kernel⟩, ⟨testState run [] [], 0x1BFFFC, by decide +kernel⟩⟩

theorem wit_ReservedAndRangeRefused :
    let meets (s : State) (src : Source) (a : Nat) (v : Word) : Prop :=
      s.dev ≠ powerOff ∧ normalAddr a = a ∧ viewOf a = .normal ∧ s.accessErr src a 4 true = none
      ∧ (hasGroup (blockOfWindow (a / 0x10000)) && s.cstLocks (blockOfWindow (a / 0x10000))) = false ∧ (rulesAt a).pre s src a v = none
      ∧ s.updateBusy a = none ∧ setsReserved (fieldsAt a) v = false
    (∃ s src a v, meets s src a v ∧ ∃ f ∈ fieldsAt a, f.acc.isRw = true ∧ f.reservedVal (f.val v) = true)
    ∧ (∃ s src a v, meets s src a v ∧ (∀ f ∈ fieldsAt a, f.acc.isRw = true → f.reservedVal (f.val v) = false)
      ∧ ∃ f ∈ fieldsAt a, f.acc.isRw = true ∧ f.outOfRange (f.val v) = true) := by
  dsimp only
  exact ⟨⟨testState run [] [], .host, 0x4000C, 0x300, by decide +kernel⟩, ⟨testState run [] [], .host, AUX_DIAG_CTRL.addr, 0, by decide +kernel⟩⟩

theorem wit_ResetCommandsComplete : 
    (∃ (s : State), s.dev = powerOff)
  ∧ (∃ (n : _), 1000 ≤ n)
  ∧ (∃ (n : _), n < 500)
  ∧ (∃ (s : State), s.cstValid = true ∧ s.cstRoot = false)
  ∧ (∃ (s : State) (T : _), s.cst.resetAt = some T ∧ s.cstOn = true ∧ T.toNat ≤ s.now.toNat) := by
  refine ⟨?_, ?_, ?_, ?_, ?_⟩
  · try dsimp only
    refine ⟨State.reset, ?_⟩
    (try dsimp only [State.admits, State.lodRuns]) <;> decide +kernel
  · try dsimp only
    refine ⟨1000, ?_⟩
    (try dsimp only [State.admits, State.lodRuns]) <;> decide +kernel
  · try dsimp only
    refine ⟨499, ?_⟩
    (try dsimp only [State.admits, State.lodRuns]) <;> decide +kernel
  · try dsimp only
    refine ⟨testState run [(CST_NODE.VALID, 1)] [(CST_CTRL.EN, 1)], ?_⟩
    (try dsimp only [State.admits, State.lodRuns]) <;> decide +kernel
  · try dsimp only
    refine ⟨{ testState run [] [(CST_CTRL.EN, 1)] with cst := { CstSt.reset with resetAt := some 0 } }, 0, ?_⟩
    (try dsimp only [State.admits, State.lodRuns]) <;> decide +kernel

theorem wit_PowerDomainCommandsComplete : 
    (∃ (s : State) (d : Fin 24) (src : Source) (v : Word), s.admits (pwrRules []) src (PWR_DOM_CMD.addr d) (v ||| 1) ∧ (v ||| 1).toNat.testBit 1 = false ∧ (v ||| 1).toNat.testBit 2 = false ∧ d.val ≠ dAON ∧ d.val ≠ dMGMT ∧ d.val ≠ dMESH ∧ s.dom d = 0)
  ∧ (∃ (s : State) (d : Fin 24) (p : _) (src : Source) (v : Word), s.admits (pwrRules p) src (PWR_DOM_CMD.addr d) (v ||| 2) ∧ (v ||| 2).toNat.testBit 0 = false ∧ (v ||| 2).toNat.testBit 2 = false ∧ (v ||| 2).toNat.testBit 3 = false ∧ d.val ≠ dAON ∧ d.val ≠ dMGMT ∧ d.val ≠ dMESH ∧ s.dom d = 2 ∧ (s.landed (PWR_DOM_CMD.addr d) (v ||| 2)).downCheck d src = none ∧ s.altersCapacity d = false)
  ∧ (∃ (s : State) (d : Fin 24) (p : _) (src : Source) (v : Word), s.admits (pwrRules p) src (PWR_DOM_CMD.addr d) (v ||| 6) ∧ (v ||| 6).toNat.testBit 0 = false ∧ (v ||| 6).toNat.testBit 3 = false ∧ d.val ≠ dAON ∧ d.val ≠ dMGMT ∧ d.val ≠ dMESH ∧ s.dom d = 2 ∧ (s.landed (PWR_DOM_CMD.addr d) (v ||| 6)).downCheck d src = none ∧ s.altersCapacity d = false)
  ∧ (∃ (s : State) (d : Fin 24), s.alive = true ∧ s.dom d = 1 ∧ s.flag (PWR_DOM_STAT.STOP_PENDING d) = false)
  ∧ (∃ (s : State) (d : Fin 24), s.alive = true ∧ s.domOn d = true ∧ s.pwr.restoreAsked.contains d.val = true)
  ∧ (∃ (s : State) (d : Fin 24), s.alive = true ∧ s.dom d = 3 ∧ s.drainWaits d = false)
  ∧ (∃ (s : State) (d : Fin 24), s.alive = true ∧ s.dom d = 3)
  ∧ (∃ (s : State) (d : Fin 24), s.alive = true ∧ d.val ≠ dAON ∧ s.dom d = 4 ∧ (d.val = dPCIE_S → s.flag SPT_STAT.FLUSH_BUSY = false) ∧ s.flag (PWR_DOM_STAT.RESTART_PENDING d) = false) := by
  refine ⟨?_, ?_, ?_, ?_, ?_, ?_, ?_, ?_⟩
  · try dsimp only
    refine ⟨testState run [(PWR_DOM_STAT.STATE 23, 0)] [], 23, .host, 0, ?_⟩
    (try dsimp only [State.admits, State.lodRuns]) <;> decide +kernel
  · try dsimp only
    refine ⟨testState run [] [], 23, [], .host, 0, ?_⟩
    (try dsimp only [State.admits, State.lodRuns]) <;> decide +kernel
  · try dsimp only
    refine ⟨testState run [] [], 23, [], .host, 0, ?_⟩
    (try dsimp only [State.admits, State.lodRuns]) <;> decide +kernel
  · try dsimp only
    refine ⟨testState run [(PWR_DOM_STAT.STATE 23, 1)] [], 23, ?_⟩
    (try dsimp only [State.admits, State.lodRuns]) <;> decide +kernel
  · try dsimp only
    refine ⟨{ testState run [] [] with pwr := { PwrSt.reset with restoreAsked := [23] } }, 23, ?_⟩
    (try dsimp only [State.admits, State.lodRuns]) <;> decide +kernel
  · try dsimp only
    refine ⟨testState run [(PWR_DOM_STAT.STATE 23, 3)] [], 23, ?_⟩
    (try dsimp only [State.admits, State.lodRuns]) <;> decide +kernel
  · try dsimp only
    refine ⟨testState run [(PWR_DOM_STAT.STATE 23, 3)] [], 23, ?_⟩
    (try dsimp only [State.admits, State.lodRuns]) <;> decide +kernel
  · try dsimp only
    refine ⟨testState run [(PWR_DOM_STAT.STATE 9, 4)] [], 9, ?_⟩
    (try dsimp only [State.admits, State.lodRuns]) <;> decide +kernel

theorem wit_FatalFaultCommandsComplete : 
    (∃ (s : State) (rail : Fin 10) (mv : _), outsideWindow rail mv = true ∧ s.alive = true)
  ∧ (∃ (s : State), s.alive = true)
  ∧ (∃ (s : State), s.alive = true ∧ s.inTrial = false ∧ s.get UPD_STAT.STBY ≠ yREADY)
  ∧ (∃ (s : State), s.alive = true ∧ s.get UPD_STAT.STBY ≠ 0)
  ∧ (∃ (s : State) (len : BitVec 9), s.dev = halt ∧ s.flag FLT_DUMP.DONE = false ∧ len ≠ 0 ∧ len.toNat ≤ 256) := by
  refine ⟨?_, ?_, ?_, ?_, ?_⟩
  · try dsimp only
    refine ⟨testState run [] [], 9, 5000, ?_⟩
    (try dsimp only [State.admits, State.lodRuns]) <;> decide +kernel
  · try dsimp only
    refine ⟨testState degraded [] [], ?_⟩
    (try dsimp only [State.admits, State.lodRuns]) <;> decide +kernel
  · try dsimp only
    refine ⟨testState run [] [], ?_⟩
    (try dsimp only [State.admits, State.lodRuns]) <;> decide +kernel
  · try dsimp only
    refine ⟨testState run [(UPD_STAT.STBY, yREADY)] [], ?_⟩
    (try dsimp only [State.admits, State.lodRuns]) <;> decide +kernel
  · try dsimp only
    refine ⟨testState halt [] [], 256, ?_⟩
    (try dsimp only [State.admits, State.lodRuns]) <;> decide +kernel

theorem wit_FaultLogCommandsComplete : 
    (∃ (s : State) (r : _) (l : _), s.alive = true ∧ s.frozen = false ∧ s.flt.hwq = r :: l ∧ s.flt.log.length < 256)
  ∧ (∃ (s : State) (r : _) (l : _), s.alive = true ∧ s.frozen = false ∧ s.flt.hwq = r :: l ∧ 256 ≤ s.flt.log.length)
  ∧ (∃ (s : State) (src : Source) (v : Word), s.admits fltRules src FLT_CMD.addr v ∧ bitsOf v 16 10 = 2 ^ 7 ∧ v.toNat.testBit 0 = false ∧ s.dev = degraded ∧ s.get FLT_ACTIVE.ACTIVE = 2 ^ 7)
  ∧ (∃ (s : State) (src : Source) (v : Word) (r : _) (l : _), s.admits fltRules src FLT_CMD.addr (v ||| 1) ∧ bitsOf (v ||| 1) 16 10 = 0 ∧ s.flt.log = r :: l)
  ∧ (∃ (s : State) (w : _), s.alive = true ∧ w < 0x01000000 ∧ s.poisoned (w * 8) = false ∧ s.flt.poison.length < 16)
  ∧ (∃ (s : State) (w : _), s.alive = true ∧ w < 0x01000000 ∧ s.poisoned (w * 8) = false ∧ s.get FLT_SRAM_CNT.CE_COUNT < 0xFFFF)
  ∧ (∃ (s : State) (row : _) (l : _), s.alive = true ∧ s.flt.rowsDue = row :: l)
  ∧ (∃ (s : State) (tj : _) (k : BitVec 6), s.dev ≠ powerOff ∧ k.toNat < 16 ∧ tj < 118)
  ∧ (∃ (s : State) (tj : _) (k : BitVec 6), s.alive = true ∧ k.toNat < 16 ∧ 120 ≤ tj ∧ s.flt.tripArmed = true) := by
  refine ⟨?_, ?_, ?_, ?_, ?_, ?_, ?_, ?_, ?_⟩
  · try dsimp only
    refine ⟨{ testState run [] [] with flt := { FltSt.reset with hwq := [testRec], log := List.replicate 255 testRec } }, testRec, [], ?_⟩
    (try dsimp only [State.admits, State.lodRuns]) <;> decide +kernel
  · try dsimp only
    refine ⟨{ testState run [] [] with flt := { FltSt.reset with hwq := [testRec], log := List.replicate 256 testRec } }, testRec, [], ?_⟩
    (try dsimp only [State.admits, State.lodRuns]) <;> decide +kernel
  · try dsimp only
    refine ⟨testState degraded [(FLT_ACTIVE.ACTIVE, 128)] [], .host, 0x800000, ?_⟩
    (try dsimp only [State.admits, State.lodRuns]) <;> decide +kernel
  · try dsimp only
    refine ⟨{ testState run [] [] with flt := { FltSt.reset with log := [testRec] } }, .host, 0, testRec, [], ?_⟩
    (try dsimp only [State.admits, State.lodRuns]) <;> decide +kernel
  · try dsimp only
    refine ⟨testState run [] [], 0xFFFFFF, ?_⟩
    (try dsimp only [State.admits, State.lodRuns]) <;> decide +kernel
  · try dsimp only
    refine ⟨testState run [(FLT_SRAM_CNT.CE_COUNT, 0xFFFE)] [], 0xFFFFFF, ?_⟩
    (try dsimp only [State.admits, State.lodRuns]) <;> decide +kernel
  · try dsimp only
    refine ⟨{ testState run [] [] with flt := { FltSt.reset with rowsDue := [0] } }, 0, [], ?_⟩
    (try dsimp only [State.admits, State.lodRuns]) <;> decide +kernel
  · try dsimp only
    refine ⟨testState run [] [], 117, 15, ?_⟩
    (try dsimp only [State.admits, State.lodRuns]) <;> decide +kernel
  · try dsimp only
    refine ⟨testState run [] [], 120, 15, ?_⟩
    (try dsimp only [State.admits, State.lodRuns]) <;> decide +kernel

theorem wit_UpdateCommandsComplete : 
    (∃ (s : State) (src : Source) (v : Word), s.admits sysRules src SYS_UPDATE.addr v ∧ v ≠ 0 ∧ (s.flag SYS_UPDATE_CTRL.TIMED && s.flag SYS_UPDATE_CTRL.CHECK_ONLY) = false)
  ∧ (∃ (s : State) (e : _), s.inRun = true ∧ s.get SYS_UPDATE_STAT.STATE = 1 ∧ s.sys.updCst = false ∧ (s.admitWith (s.pendView s.sys.updMask) s.caps).1 = some e)
  ∧ (∃ (s : State), s.inRun = true ∧ s.get SYS_UPDATE_STAT.STATE = 1 ∧ s.sys.updCst = false ∧ (s.admitWith (s.pendView s.sys.updMask) s.caps).1 = none ∧ s.sys.updCheckOnly = true)
  ∧ (∃ (s : State), s.inRun = true ∧ s.get SYS_UPDATE_STAT.STATE = 1 ∧ s.sys.updCst = false ∧ (s.admitWith (s.pendView s.sys.updMask) s.caps).1 = none ∧ s.sys.updCheckOnly = false ∧ s.sys.updTimed = true ∧ s.now.toNat ≤ (s.getStamp SYS_UPDATE_TIME.addr).toNat)
  ∧ (∃ (s : State), s.alive = true ∧ s.get SYS_UPDATE_STAT.STATE = 2 ∧ s.sys.updCst = false)
  ∧ (∃ (s : State) (src : Source) (v : Word), s.admits sysRules src SYS_UPDATE_CTRL.addr (v ||| 0x100) ∧ s.get SYS_UPDATE_STAT.STATE ≠ 0)
  ∧ (∃ (s : State) (src : Source) (v : Word) (e : _) (l : _), s.admits sysRules src SYS_ERR_CMD.addr (v ||| 1) ∧ s.sys.errLog = e :: l) := by
  refine ⟨?_, ?_, ?_, ?_, ?_, ?_, ?_⟩
  · try dsimp only
    refine ⟨testState run [] [], .host, 0x80000000, ?_⟩
    (try dsimp only [State.admits, State.lodRuns]) <;> decide +kernel
  · try dsimp only
    refine ⟨testState run [(SYS_UPDATE_STAT.STATE, 1)] [(LNK_CTRL.SUBCLASS, 1)], .conflict, ?_⟩
    (try dsimp only [State.admits, State.lodRuns]) <;> decide +kernel
  · try dsimp only
    refine ⟨{ testState run [(SYS_UPDATE_STAT.STATE, 1)] [] with sys := { SysSt.reset with updCheckOnly := true } }, ?_⟩
    (try dsimp only [State.admits, State.lodRuns]) <;> decide +kernel
  · try dsimp only
    refine ⟨{ testState run [(SYS_UPDATE_STAT.STATE, 1)] [] with sys := { SysSt.reset with updTimed := true } }, ?_⟩
    (try dsimp only [State.admits, State.lodRuns]) <;> decide +kernel
  · try dsimp only
    refine ⟨testState run [(SYS_UPDATE_STAT.STATE, 2)] [], ?_⟩
    (try dsimp only [State.admits, State.lodRuns]) <;> decide +kernel
  · try dsimp only
    refine ⟨testState run [(SYS_UPDATE_STAT.STATE, 2)] [], .host, 0, ?_⟩
    (try dsimp only [State.admits, State.lodRuns]) <;> decide +kernel
  · try dsimp only
    refine ⟨{ testState run [] [] with sys := { SysSt.reset with errLog := [⟨0, 0, 0, 0⟩] } }, .host, 0, ⟨0, 0, 0, 0⟩, [], ?_⟩
    (try dsimp only [State.admits, State.lodRuns]) <;> decide +kernel

theorem wit_GuardAndCapacityCommandsComplete : 
    (∃ (s : State), s.alive = true ∧ s.flag SYS_CFGCRC_CTRL.EN = true ∧ s.sys.guardSpoilt = false ∧ s.word SYS_CFGCRC_REF.addr = s.guardCrc)
  ∧ (∃ (s : State), s.alive = true ∧ s.flag SYS_CFGCRC_CTRL.EN = true ∧ s.sys.guardSpoilt = false ∧ s.word SYS_CFGCRC_REF.addr ≠ s.guardCrc ∧ (s.flag SYS_CFGCRC_CTRL.AUTO && s.sys.guardReload) = false)
  ∧ (∃ (s : State), s.alive = true ∧ s.flag SYS_CFGCRC_CTRL.EN = true ∧ s.sys.guardSpoilt = true)
  ∧ (∃ (s : State) (src : Source) (v : Word), s.admits sysRules src SYS_CFGCRC_REF.addr v)
  ∧ (∃ (s : State) (p : Fin 8), s.alive = true ∧ s.pipeGood p = true)
  ∧ (∃ (s : State), s.memReady = true)
  ∧ (∃ (s : State) (d : Fin 4) (w : _), s.alive = true ∧ s.driveReady d = true ∧ w ≠ 0) := by
  refine ⟨?_, ?_, ?_, ?_, ?_, ?_, ?_⟩
  · try dsimp only
    refine ⟨(State.reset.put SYS_STATE.STATE load).put SYS_CFGCRC_CTRL.EN 1, ?_⟩
    (try dsimp only [State.admits, State.lodRuns]) <;> decide +kernel
  · try dsimp only
    refine ⟨((State.reset.put SYS_STATE.STATE load).put SYS_CFGCRC_CTRL.EN 1).setWord SYS_CFGCRC_REF.addr 1, ?_⟩
    (try dsimp only [State.admits, State.lodRuns]) <;> decide +kernel
  · try dsimp only
    refine ⟨{ testState run [(SYS_CFGCRC_CTRL.EN, 1)] [] with sys := { SysSt.reset with guardSpoilt := true } }, ?_⟩
    (try dsimp only [State.admits, State.lodRuns]) <;> decide +kernel
  · try dsimp only
    refine ⟨testState run [] [], .host, 0xFFFFFFFF, ?_⟩
    (try dsimp only [State.admits, State.lodRuns]) <;> decide +kernel
  · try dsimp only
    refine ⟨testState run [(FFT_PIPE_STAT.STATE 7, 1)] [], 7, ?_⟩
    (try dsimp only [State.admits, State.lodRuns]) <;> decide +kernel
  · try dsimp only
    refine ⟨testState run [(MEM_STAT.STATE, 2)] [], ?_⟩
    (try dsimp only [State.admits, State.lodRuns]) <;> decide +kernel
  · try dsimp only
    refine ⟨testState run [(SPT_DRV_STAT.STATE 3, 3)] [], 3, 4, ?_⟩
    (try dsimp only [State.admits, State.lodRuns]) <;> decide +kernel

theorem wit_ClockCommandsComplete : 
    (∃ (s : State) (n : Fin 9), s.alive = true ∧ s.locked n = true ∧ s.alm.unwatched.contains n.val = false)
  ∧ (∃ (s : State) (n : Fin 9), s.alive = true ∧ s.alm.unwatched.contains n.val = true)
  ∧ (∃ (s : State) (n : Fin 9), s.alive = true ∧ s.appFlag (CLK_PLL_CTRL.EN n) = true ∧ s.locked n = false)
  ∧ (∃ (s : State) (r : _), s.alive = true ∧ r ≠ (s.app CLK_SYNC_CTRL.EDGE == 1) ∧ s.flag CLK_SYNC_STAT.ARMED = true)
  ∧ (∃ (s : State) (r : _) (t : Stamp), s.alive = true ∧ r ≠ (s.app CLK_SYNC_CTRL.EDGE == 1) ∧ s.inDeadTime 8 t = false)
  ∧ (∃ (s : State) (src : Source) (v : Word), s.admits clkRules src CLK_SYNC_CTRL.addr (v ||| 0x1000000)) := by
  refine ⟨?_, ?_, ?_, ?_, ?_, ?_⟩
  · try dsimp only
    refine ⟨testState run [(CLK_PLL_STAT.LOCKED 8, 1)] [], 8, ?_⟩
    (try dsimp only [State.admits, State.lodRuns]) <;> decide +kernel
  · try dsimp only
    refine ⟨{ testState run [] [] with alm := { AlmSt.reset with unwatched := [8] } }, 8, ?_⟩
    (try dsimp only [State.admits, State.lodRuns]) <;> decide +kernel
  · try dsimp only
    refine ⟨testState run [] [(CLK_PLL_CTRL.EN 8, 1)], 8, ?_⟩
    (try dsimp only [State.admits, State.lodRuns]) <;> decide +kernel
  · try dsimp only
    refine ⟨testState run [(CLK_SYNC_STAT.ARMED, 1)] [], true, ?_⟩
    (try dsimp only [State.admits, State.lodRuns]) <;> decide +kernel
  · try dsimp only
    refine ⟨testState run [] [], true, 0, ?_⟩
    (try dsimp only [State.admits, State.lodRuns]) <;> decide +kernel
  · try dsimp only
    refine ⟨testState load [] [], .host, 0, ?_⟩
    (try dsimp only [State.admits, State.lodRuns]) <;> decide +kernel

theorem wit_AlmanacCommandsComplete : 
    (∃ (s : State) (n : _), s.alive = true ∧ (if s.app ALM_CTRL.REF_FREQ = 1 then 90 ≤ n ∧ n ≤ 110 else 9 ≤ n ∧ n ≤ 11))
  ∧ (∃ (s : State) (n : _), s.alive = true ∧ (¬ (if s.app ALM_CTRL.REF_FREQ = 1 then 90 ≤ n ∧ n ≤ 110 else 9 ≤ n ∧ n ≤ 11)))
  ∧ (∃ (s : State), s.alive = true ∧ s.alm.holdover = true ∧ s.refGood = true)
  ∧ (∃ (s : State) (src : Source) (v : Word), s.admits almRules src ALM_CTRL.addr (v ||| 0x1000) ∧ s.almSrc = 2)
  ∧ (∃ (s : State) (src : Source) (v : Word), s.admits almRules src ALM_CTRL.addr (v ||| 0x1000) ∧ s.almSrc ≠ 2)
  ∧ (∃ (s : State) (r : _) (p : Stamp), s.alive = true ∧ r ≠ (s.app ALM_CTRL.PPS_EDGE == 1) ∧ s.inDeadTime 9 p = false ∧ s.almSrc = 2 ∧ s.flag ALM_STAT.STEP_PENDING = true)
  ∧ (∃ (s : State) (r : _) (p : Stamp), s.alive = true ∧ r ≠ (s.app ALM_CTRL.PPS_EDGE == 1) ∧ s.inDeadTime 9 p = false ∧ s.almSrc = 2 ∧ s.flag ALM_STAT.STEP_PENDING = false ∧ (secondError p).natAbs * 1000000 ≤ 2 ^ 40)
  ∧ (∃ (s : State), s.alive = true)
  ∧ (∃ (s : State), s.alive = true ∧ s.appFlag ALM_CTRL.PPSO_EN = true) := by
  refine ⟨?_, ?_, ?_, ?_, ?_, ?_, ?_, ?_, ?_⟩
  · try dsimp only
    refine ⟨testState run [] [], 110, ?_⟩
    (try dsimp only [State.admits, State.lodRuns]) <;> decide +kernel
  · try dsimp only
    refine ⟨testState run [] [], 111, ?_⟩
    (try dsimp only [State.admits, State.lodRuns]) <;> decide +kernel
  · try dsimp only
    refine ⟨{ testState run [(ALM_STAT.REF_PRESENT, 1)] [(ALM_CTRL.SRC, 1)] with alm := { AlmSt.reset with holdover := true } }, ?_⟩
    (try dsimp only [State.admits, State.lodRuns]) <;> decide +kernel
  · try dsimp only
    refine ⟨testState run [] [(ALM_CTRL.SRC, 2)], .host, 2, ?_⟩
    (try dsimp only [State.admits, State.lodRuns]) <;> decide +kernel
  · try dsimp only
    refine ⟨testState run [] [], .host, 0, ?_⟩
    (try dsimp only [State.admits, State.lodRuns]) <;> decide +kernel
  · try dsimp only
    refine ⟨testState run [(ALM_STAT.STEP_PENDING, 1)] [(ALM_CTRL.SRC, 2)], true, 0, ?_⟩
    (try dsimp only [State.admits, State.lodRuns]) <;> decide +kernel
  · try dsimp only
    refine ⟨testState run [] [(ALM_CTRL.SRC, 2)], true, 1099511, ?_⟩
    (try dsimp only [State.admits, State.lodRuns]) <;> decide +kernel
  · try dsimp only
    refine ⟨testState run [] [], ?_⟩
    (try dsimp only [State.admits, State.lodRuns]) <;> decide +kernel
  · try dsimp only
    refine ⟨testState run [] [(ALM_CTRL.PPSO_EN, 1)], ?_⟩
    (try dsimp only [State.admits, State.lodRuns]) <;> decide +kernel

theorem wit_TdcCommandsComplete : 
    (∃ (s : State) (k : Fin 8) (r : Bool) (e : Stamp), s.alive = true ∧ (if r then s.app ALM_TRIG_EDGE.EDGE / 4 ^ k.val % 4 % 2 = 1 else s.app ALM_TRIG_EDGE.EDGE / 4 ^ k.val % 4 / 2 = 1) ∧ s.inDeadTime ⟨k.val, by omega⟩ e = false ∧ s.flag ALM_TDC_STAT.BUSY = false)
  ∧ (∃ (s : State) (src : Source) (v : Word), s.admits almRules src ALM_TDC_CTRL.addr (v ||| 0x1000000) ∧ (v ||| 0x1000000).toNat.testBit 25 = false ∧ s.app ALM_TDC_CTRL.STOP_MASK ≠ 0)
  ∧ (∃ (s : State) (src : Source) (v : Word), s.admits almRules src ALM_TDC_CTRL.addr (v ||| 0x2000000) ∧ (v ||| 0x2000000).toNat.testBit 24 = false ∧ s.flag ALM_TDC_STAT.BUSY = true)
  ∧ (∃ (s : State), s.alive = true ∧ s.flag ALM_TDC_STAT.BUSY = true ∧ s.alm.tdcStarted = true)
  ∧ (∃ (s : State), s.alive = true) := by
  refine ⟨?_, ?_, ?_, ?_, ?_⟩
  · try dsimp only
    refine ⟨testState run [] [(ALM_TRIG_EDGE.EDGE, 0x4000)], 7, true, 0, ?_⟩
    (try dsimp only [State.admits, State.lodRuns]) <;> decide +kernel
  · try dsimp only
    refine ⟨testState run [] [(ALM_TDC_CTRL.STOP_MASK, 0x80)], .host, 0x10000, ?_⟩
    (try dsimp only [State.admits, State.lodRuns]) <;> decide +kernel
  · try dsimp only
    refine ⟨testState run [(ALM_TDC_STAT.BUSY, 1)] [], .host, 0x10000, ?_⟩
    (try dsimp only [State.admits, State.lodRuns]) <;> decide +kernel
  · try dsimp only
    refine ⟨{ testState run [(ALM_TDC_STAT.BUSY, 1)] [] with alm := { AlmSt.reset with tdcStarted := true } }, ?_⟩
    (try dsimp only [State.admits, State.lodRuns]) <;> decide +kernel
  · try dsimp only
    refine ⟨testState run [] [], ?_⟩
    (try dsimp only [State.admits, State.lodRuns]) <;> decide +kernel

theorem wit_LaneBringupCommandsComplete : 
    (∃ (s : State) (n : Fin 32), s.live (laneDomain n) = true ∧ s.laneEn n = true ∧ s.lane n = lnWAIT)
  ∧ (∃ (s : State) (n : Fin 32), s.live (laneDomain n) = true ∧ s.laneEn n = true ∧ s.lane n = lnALIGNED)
  ∧ (∃ (s : State) (n : Fin 32), s.live (laneDomain n) = true ∧ s.laneEn n = true ∧ s.lane n = lnCDR ∧ s.app LNK_ADAPT.MODE ≠ 0)
  ∧ (∃ (s : State) (n : Fin 32), s.live (laneDomain n) = true ∧ s.laneEn n = true ∧ s.lane n = lnCDR ∧ s.app LNK_ADAPT.MODE = 0)
  ∧ (∃ (s : State) (n : Fin 32), s.live (laneDomain n) = true ∧ s.laneEn n = true ∧ s.lane n = lnCGS)
  ∧ (∃ (s : State) (c : Fin 4), s.alive = true ∧ s.app LNK_CTRL.START = 0 ∧ s.convLanes c ≠ [] ∧ (∀ n ∈ s.convLanes c, s.lane n = lnWAIT) ∧ (s.app LNK_CTRL.SUBCLASS = 1 → s.flag LNK_STAT.LMFC_LOCK = true))
  ∧ (∃ (s : State) (c : Fin 4), s.alive = true ∧ s.convLanes c ≠ [] ∧ s.convValid c = false ∧ (∀ n : Fin 32, n.val ∈ s.convLanes c → s.lane n = lnALIGNED ∧ vget s.lnk.marks n = 4) ∧ (s.app LNK_CTRL.SUBCLASS = 1 → s.flag LNK_STAT.LMFC_LOCK = true))
  ∧ (∃ (s : State) (c : Fin 4) (g : _), s.alive = true ∧ s.app LNK_CTRL.PROTO = 1 ∧ s.convLanes c ≠ [] ∧ (∀ n ∈ s.convLanes c, s.lane n = lnALIGNED) ∧ s.ilasAgrees g = false ∧ s.lnk.cycleLosses = [])
  ∧ (∃ (s : State) (c : Fin 4) (n : _) (m : _), s.alive = true ∧ n ∈ s.convLanes c ∧ s.lane n = lnALIGNED ∧ m ∈ s.convLanes c ∧ s.lane m ≠ lnALIGNED ∧ s.lnk.cycleLosses = [])
  ∧ (∃ (s : State) (n : Fin 32), s.live (laneDomain n) = true ∧ s.laneEn n = true ∧ (s.lane n = lnCDR ∨ s.lane n = lnALIGNED ∨ s.lane n = lnDATA))
  ∧ (∃ (s : State) (n : Fin 32), s.live (laneDomain n) = true ∧ s.laneEn n = true ∧ s.lane n = lnDATA ∧ s.app LNK_ADAPT.MODE = 2) := by
  refine ⟨?_, ?_, ?_, ?_, ?_, ?_, ?_, ?_, ?_, ?_, ?_⟩
  · try dsimp only
    refine ⟨testLanes lnWAIT [] [], 31, ?_⟩
    (try dsimp only [State.admits, State.lodRuns]) <;> decide +kernel
  · try dsimp only
    refine ⟨testLanes lnALIGNED [] [], 31, ?_⟩
    (try dsimp only [State.admits, State.lodRuns]) <;> decide +kernel
  · try dsimp only
    refine ⟨testLanes lnCDR [] [(LNK_ADAPT.MODE, 1)], 31, ?_⟩
    (try dsimp only [State.admits, State.lodRuns]) <;> decide +kernel
  · try dsimp only
    refine ⟨testLanes lnCDR [] [(LNK_ADAPT.MODE, 0)], 31, ?_⟩
    (try dsimp only [State.admits, State.lodRuns]) <;> decide +kernel
  · try dsimp only
    refine ⟨testLanes lnCGS [] [], 31, ?_⟩
    (try dsimp only [State.admits, State.lodRuns]) <;> decide +kernel
  · try dsimp only
    refine ⟨testLanes lnWAIT [] [], 3, ?_⟩
    (try dsimp only [State.admits, State.lodRuns]) <;> decide +kernel
  · try dsimp only
    refine ⟨{ testLanes lnALIGNED [] [] with lnk := { LnkSt.reset with marks := Vector.replicate 32 4 } }, 3, ?_⟩
    (try dsimp only [State.admits, State.lodRuns]) <;> decide +kernel
  · try dsimp only
    refine ⟨testLanes lnALIGNED [] [(LNK_CTRL.PROTO, 1)], 3, ⟨0, 0, 0, 0, 0, 0, 0, 0, false, false, 0, Vector.replicate 32 0⟩, ?_⟩
    (try dsimp only [State.admits, State.lodRuns]) <;> decide +kernel
  · try dsimp only
    refine ⟨testLanes lnALIGNED [(LNK_LANE_STAT.STATE 24, lnWAIT)] [], 3, 31, 24, ?_⟩
    (try dsimp only [State.admits, State.lodRuns]) <;> decide +kernel
  · try dsimp only
    refine ⟨testLanes lnDATA [] [], 31, ?_⟩
    (try dsimp only [State.admits, State.lodRuns]) <;> decide +kernel
  · try dsimp only
    refine ⟨testLanes lnDATA [] [(LNK_ADAPT.MODE, 2)], 31, ?_⟩
    (try dsimp only [State.admits, State.lodRuns]) <;> decide +kernel

theorem wit_LaneLossCommandsComplete : 
    (∃ (s : State) (n : Fin 32), s.live (laneDomain n) = true ∧ s.laneEn n = true ∧ (s.lane n = lnALIGNED ∨ s.lane n = lnDATA) ∧ s.lnk.cycleLosses = [])
  ∧ (∃ (s : State) (n : Fin 32), s.live (laneDomain n) = true ∧ s.laneEn n = true ∧ (s.lane n = lnALIGNED ∨ s.lane n = lnDATA) ∧ s.lnk.cycleLosses = [] ∧ s.lane n = lnDATA ∧ (vget s.lnk.wrongOfs n).isSome = true)
  ∧ (∃ (s : State) (c : Fin 4) (ls : BitVec 32), s.alive = true ∧ s.convValid c = true ∧ s.convLanes c ≠ [] ∧ (∀ n ∈ s.convLanes c, s.lane n = lnDATA) ∧ s.lnk.cycleLosses = [] ∧ s.app LNK_CTRL.PROTO = 0 ∧ (∀ n ∈ s.convLanes c, ls.getLsbD n = true))
  ∧ (∃ (s : State) (c : Fin 4), s.alive = true ∧ vget s.lnk.stored c = true ∧ s.convLanes c ≠ [] ∧ (∀ n ∈ s.convLanes c, s.lane n = lnIDLE))
  ∧ (∃ (s : State) (src : Source) (v : Word) (c : Fin 4), s.admits lnkRules src LNK_CTRL.addr v ∧ bitsOf v 20 4 = 2 ^ c.val ∧ s.convValid c = true ∧ s.convLanes c ≠ [] ∧ (∀ n ∈ s.convLanes c, s.lane n = lnDATA) ∧ s.lnk.cycleLosses = []) := by
  refine ⟨?_, ?_, ?_, ?_, ?_⟩
  · try dsimp only
    refine ⟨testLanes lnDATA [] [], 31, ?_⟩
    (try dsimp only [State.admits, State.lodRuns]) <;> decide +kernel
  · try dsimp only
    refine ⟨{ testLanes lnDATA [] [] with lnk := { LnkSt.reset with wrongOfs := Vector.replicate 32 (some 0) } }, 31, ?_⟩
    (try dsimp only [State.admits, State.lodRuns]) <;> decide +kernel
  · try dsimp only
    refine ⟨testLanes lnDATA [(LNK_STAT.CONV_VALID, 8)] [], 3, (0xFF000000 : BitVec 32), ?_⟩
    (try dsimp only [State.admits, State.lodRuns]) <;> decide +kernel
  · try dsimp only
    refine ⟨{ testLanes lnIDLE [] [] with lnk := { LnkSt.reset with stored := Vector.replicate 4 true } }, 3, ?_⟩
    (try dsimp only [State.admits, State.lodRuns]) <;> decide +kernel
  · try dsimp only
    refine ⟨testLanes lnDATA [(LNK_STAT.CONV_VALID, 8)] [], .host, 0x800000, 3, ?_⟩
    (try dsimp only [State.admits, State.lodRuns]) <;> decide +kernel

theorem wit_DdcCommandsComplete : 
    (∃ (s : State) (ch : Fin 4), s.alive = true ∧ s.chanValid ch = true)
  ∧ (∃ (s : State) (u : Fin 20) (src : Source) (v : Word), u.val < 4 ∧ s.admits fcvRules src (FCV_DCB.addr u) (v ||| 8))
  ∧ (∃ (s : State) (u : Fin 20) (src : Source) (v : Word), 4 ≤ u.val ∧ s.admits ddcRules src (DDC_DCB.addr (u - 4)) (v ||| 8))
  ∧ (∃ (s : State) (d : Fin 16) (src : Source) (v : Word), s.admits ddcRules src (DDC_BANK.addr d) (v ||| 1) ∧ s.flag (DDC_STAT.VALID d) = true)
  ∧ (∃ (s : State) (d : Fin 16), s.live dDDC = true ∧ s.flag (DDC_BANK.FADING d) = true ∧ max (vget s.ddc.ch d).fadeLen 1 ≤ (vget s.ddc.ch d).fadePos)
  ∧ (∃ (s : State) (src : Source) (v : Word), s.admits ddcRules src DDC_SYNC_CTRL.addr (v ||| 0x1000000) ∧ (v ||| 0x1000000).toNat.testBit 25 = false ∧ s.app DDC_SYNC_CTRL.MASK ≠ 0)
  ∧ (∃ (s : State) (src : Source) (v : Word), s.admits ddcRules src DDC_SYNC_CTRL.addr (v ||| 0x2000000) ∧ (v ||| 0x2000000).toNat.testBit 24 = false ∧ s.flag DDC_SYNC_STAT.PENDING = true)
  ∧ (∃ (s : State) (t0 : Stamp), s.live dDDC = true ∧ s.flag DDC_SYNC_STAT.PENDING = true ∧ s.ddc.syncSrc ≠ 1 ∧ (s.ddc.syncSrc = 3 → s.ddc.syncTime.toNat ≤ t0.toNat))
  ∧ (∃ (s : State) (t0 : Stamp) (k : Fin 16) (r : _), s.live dDDC = true ∧ s.ddcEn k = true ∧ s.flag (DDC_STAT.SETTLING k) = true ∧ (vget s.ddc.ch k).release = some r ∧ r.toNat ≤ t0.toNat) := by
  refine ⟨?_, ?_, ?_, ?_, ?_, ?_, ?_, ?_, ?_⟩
  · try dsimp only
    refine ⟨testState run [(FCV_STAT.CH_VALID, 8)] [], 3, ?_⟩
    (try dsimp only [State.admits, State.lodRuns]) <;> decide +kernel
  · try dsimp only
    refine ⟨testState run [] [], 3, .host, 0xA00, ?_⟩
    (try dsimp only [State.admits, State.lodRuns]) <;> decide +kernel
  · try dsimp only
    refine ⟨testState run [] [], 19, .host, 0x600, ?_⟩
    (try dsimp only [State.admits, State.lodRuns]) <;> decide +kernel
  · try dsimp only
    refine ⟨testState run [(DDC_STAT.VALID 15, 1)] [], 15, .host, 0, ?_⟩
    (try dsimp only [State.admits, State.lodRuns]) <;> decide +kernel
  · try dsimp only
    refine ⟨{ testState run [(DDC_BANK.FADING 15, 1)] [] with ddc := { DdcSt.reset with ch := Vector.replicate 16 { DdcCh.reset with fadeLen := 8, fadePos := 8 } } }, 15, ?_⟩
    (try dsimp only [State.admits, State.lodRuns]) <;> decide +kernel
  · try dsimp only
    refine ⟨testState run [] [(DDC_SYNC_CTRL.MASK, 0x8000)], .host, 0, ?_⟩
    (try dsimp only [State.admits, State.lodRuns]) <;> decide +kernel
  · try dsimp only
    refine ⟨testState run [(DDC_SYNC_STAT.PENDING, 1)] [], .host, 0, ?_⟩
    (try dsimp only [State.admits, State.lodRuns]) <;> decide +kernel
  · try dsimp only
    refine ⟨{ testState run [(DDC_SYNC_STAT.PENDING, 1)] [] with ddc := { DdcSt.reset with syncSrc := 3, syncTime := 9 } }, (9 : Stamp), ?_⟩
    (try dsimp only [State.admits, State.lodRuns]) <;> decide +kernel
  · try dsimp only
    refine ⟨{ testState run [(DDC_STAT.SETTLING 15, 1)] [(DDC_CFG.EN 15, 1)] with ddc := { DdcSt.reset with ch := Vector.replicate 16 { DdcCh.reset with release := some 9 } } }, (9 : Stamp), 15, 9, ?_⟩
    (try dsimp only [State.admits, State.lodRuns]) <;> decide +kernel

theorem wit_FftCommandsComplete : 
    (∃ (s : State) (i : Fin 20) (src : Fin 32) (f : _) (q : _) (p : _) (rest : _), fftIdx src.val = some i ∧ s.alive = true ∧ (s.fftSrc i).items = .frame f q p false :: rest ∧ q < 2 ^ 32)
  ∧ (∃ (s : State) (i : Fin 20) (t : Fin 4) (src : Source) (v : Word), s.admits fftRules src (FFT_SRC_TRC.addr (fftSourceOf i) t) (v ||| 0x20000000) ∧ s.appFlag (FFT_SRC_TRC.BLOCK (fftSourceOf i) t) = false ∧ s.app (FFT_SRC_TRC.MODE (fftSourceOf i) t) ≠ 0)
  ∧ (∃ (s : State) (i : Fin 20) (t : Fin 4) (src : Source) (v : Word), s.admits fftRules src (FFT_SRC_TRC.addr (fftSourceOf i) t) (v ||| 0x10000000))
  ∧ (∃ (s : State) (p : Fin 10) (c : BitVec 4), p.val ≠ 8 ∧ s.live (pipeDomain p) = true ∧ 1 ≤ c.toNat ∧ c.toNat ≤ 3 ∧ s.pipe p ≠ pFAILED ∧ s.pipe p ≠ pOFF ∧ s.hasSchedule p = false ∧ s.fft.check = none ∧ s.fft.hand = none ∧ s.fft.carry = [])
  ∧ (∃ (s : State) (p : Fin 10) (src : Source) (v : Word), s.admits fftRules src (FFT_PIPE_CTRL.addr p) (v ||| 1) ∧ s.pipe p = pFAILED)
  ∧ (∃ (s : State) (p : Fin 10), s.live (pipeDomain p) = true ∧ s.fft.arb = none ∧ s.pipe p = pRECOVERING)
  ∧ (∃ (s : State) (src : Source) (v : Word), s.admits fftRules src FFT_SPARE_CTRL.addr (v ||| 0x100) ∧ (v ||| 0x100).toNat.testBit 9 = false ∧ s.spareReady = true ∧ s.pipe (v.toNat % 16) = pACTIVE ∧ v.toNat % 16 < 10)
  ∧ (∃ (s : State) (src : Source) (v : Word), s.admits fftRules src FFT_SPARE_CTRL.addr (v ||| 0x200) ∧ (v ||| 0x200).toNat.testBit 8 = false ∧ s.flag FFT_SPARE_STAT.IN_USE = true ∧ s.pipe (s.get FFT_SPARE_STAT.TARGET) ≠ pFAILED ∧ s.pipe (s.get FFT_SPARE_STAT.TARGET) ≠ pRECOVERING)
  ∧ (∃ (s : State) (p : Fin 10) (t0 : _), p.val ≠ 8 ∧ s.live dFFT_S = true ∧ s.fft.hand = some (.takeover, p.val, t0))
  ∧ (∃ (s : State) (src : Source) (v : Word), s.admits fftRules src FFT_CHECK_CTRL.addr (v ||| 0x1000000) ∧ (v ||| 0x1000000).toNat.testBit 25 = false ∧ s.spareReady = true ∧ (v ||| 0x1000000).toNat / 65536 % 16 = 8)
  ∧ (∃ (s : State) (k : _), s.live dFFT_S = true ∧ s.app FFT_CHECK_CTRL.INTERVAL ≠ 0 ∧ s.spareBusy = false ∧ s.flag FFT_CHECK_STAT.SUSPENDED = false ∧ s.spareReady = true ∧ s.nextTurn s.fft.turn = some k)
  ∧ (∃ (s : State) (src : Source) (v : Word), s.admits fftRules src FFT_CHECK_CTRL.addr (v ||| 0x2000000) ∧ (v ||| 0x2000000).toNat.testBit 24 = false ∧ s.fft.check = some 8)
  ∧ (∃ (s : State), s.live dFFT_S = true ∧ s.fft.check = some 8) := by
  refine ⟨?_, ?_, ?_, ?_, ?_, ?_, ?_, ?_, ?_, ?_, ?_, ?_, ?_⟩
  · try dsimp only
    refine ⟨{ testState run [] [] with fft := { FftSt.reset with src := Vector.replicate 20 { FftSrc.reset with items := [.frame (⟨0, 2048, 0, 0, 0, 0, false, false, false⟩ : FftFrame) (2 ^ 32 - 1) 7 false] } } }, 19, 31, (⟨0, 2048, 0, 0, 0, 0, false, false, false⟩ : FftFrame), (2 ^ 32 - 1 : Nat), (7 : Nat), [], ?_⟩
    (try dsimp only [State.admits, State.lodRuns]) <;> decide +kernel
  · try dsimp only
    refine ⟨testState run [] [(FFT_SRC_TRC.MODE 31 3, 3)], 19, 3, .host, 0, ?_⟩
    (try dsimp only [State.admits, State.lodRuns]) <;> decide +kernel
  · try dsimp only
    refine ⟨testState run [] [], 19, 3, .host, 0, ?_⟩
    (try dsimp only [State.admits, State.lodRuns]) <;> decide +kernel
  · try dsimp only
    refine ⟨testState run [(FFT_PIPE_STAT.STATE 9, pIDLE)] [], 9, 3, ?_⟩
    (try dsimp only [State.admits, State.lodRuns]) <;> decide +kernel
  · try dsimp only
    refine ⟨testState run [(FFT_PIPE_STAT.STATE 9, pFAILED)] [], 9, .host, 0, ?_⟩
    (try dsimp only [State.admits, State.lodRuns]) <;> decide +kernel
  · try dsimp only
    refine ⟨testState run [(FFT_PIPE_STAT.STATE 9, pRECOVERING)] [], 9, ?_⟩
    (try dsimp only [State.admits, State.lodRuns]) <;> decide +kernel
  · try dsimp only
    refine ⟨testState run [(FFT_PIPE_STAT.STATE 9, pACTIVE), (FFT_PIPE_STAT.STATE 8, pIDLE)] [], .host, 9, ?_⟩
    (try dsimp only [State.admits, State.lodRuns]) <;> decide +kernel
  · try dsimp only
    refine ⟨testState run [(FFT_SPARE_STAT.IN_USE, 1), (FFT_SPARE_STAT.TARGET, 9), (FFT_PIPE_STAT.STATE 9, pIDLE)] [], .host, 0, ?_⟩
    (try dsimp only [State.admits, State.lodRuns]) <;> decide +kernel
  · try dsimp only
    refine ⟨{ testState run [] [] with fft := { FftSt.reset with hand := some (.takeover, 9, 0) } }, 9, 0, ?_⟩
    (try dsimp only [State.admits, State.lodRuns]) <;> decide +kernel
  · try dsimp only
    refine ⟨testState run [(FFT_PIPE_STAT.STATE 8, pIDLE)] [], .host, 0x80000, ?_⟩
    (try dsimp only [State.admits, State.lodRuns]) <;> decide +kernel
  · try dsimp only
    refine ⟨testState run [(FFT_PIPE_STAT.STATE 8, pIDLE)] [(FFT_CHECK_CTRL.INTERVAL, 1)], 9, ?_⟩
    (try dsimp only [State.admits, State.lodRuns]) <;> decide +kernel
  · try dsimp only
    refine ⟨{ testState run [] [] with fft := { FftSt.reset with check := some 8 } }, .host, 0, ?_⟩
    (try dsimp only [State.admits, State.lodRuns]) <;> decide +kernel
  · try dsimp only
    refine ⟨{ testState run [] [] with fft := { FftSt.reset with check := some 8 } }, ?_⟩
    (try dsimp only [State.admits, State.lodRuns]) <;> decide +kernel

theorem wit_TriggerCommandsComplete : 
    (∃ (s : State) (st : Stamp) (nx : Stamp) (de : Stamp), s.live dTRG = true ∧ s.trgView de TRG_CTRL.EN = 1 ∧ s.trg.closedTo.toNat ≤ st.toNat ∧ st.toNat < nx.toNat ∧ s.trg.fresh = false ∧ s.trg.seqReset = none ∧ s.trg.softs = [] ∧ s.flag TRG_STAT.ARMED = false)
  ∧ (∃ (s : State), s.live dTRG = true ∧ s.appFlag TRG_CTRL.EN = true ∧ s.app TRG_CTRL.MODE = 1 ∧ s.flag TRG_STAT.ARMED = true)
  ∧ (∃ (s : State) (src : Source) (v : Word), s.admits trgRules src TRG_CMD.addr (v ||| 1) ∧ s.appFlag TRG_CTRL.EN = true ∧ (v ||| 1).toNat.testBit 2 = false)
  ∧ (∃ (s : State) (src : Source) (v : Word), s.admits trgRules src TRG_CMD.addr (v ||| 2) ∧ s.appFlag TRG_CTRL.EN = true ∧ (v ||| 2).toNat.testBit 0 = false ∧ (v ||| 2).toNat.testBit 2 = false)
  ∧ (∃ (s : State) (src : Source) (v : Word), s.admits trgRules src TRG_CMD.addr (v ||| 4) ∧ (v ||| 4).toNat.testBit 0 = false ∧ (v ||| 4).toNat.testBit 1 = false ∧ s.trg.log ≠ [])
  ∧ (∃ (s : State) (src : Source) (v : Word), s.admits trgRules src TRG_CMD.addr (v ||| 8) ∧ (v ||| 8).toNat % 8 = 0)
  ∧ (∃ (s : State) (k : Fin 4) (t0 : Stamp), s.live dTRG = true ∧ (vget s.trg.pulses k).contains t0 = true ∧ s.app (TRG_OUT_CTRL.SEL k) ≠ 0 ∧ s.app (TRG_OUT_CTRL.SEL k) ≠ 3)
  ∧ (∃ (s : State) (k : Fin 4), s.live dTRG = true ∧ (vget s.trg.outEnd k).isSome = true ∧ s.app (TRG_OUT_CTRL.SEL k) ≠ 0 ∧ s.app (TRG_OUT_CTRL.SEL k) ≠ 3)
  ∧ (∃ (s : State) (i : BitVec 4) (n : BitVec 14), s.cstValid = true ∧ n.toNat ≠ s.get CST_NODE.ID ∧ (s.app TRG_REM_CTRL.RX_MASK).testBit i.toNat = true ∧ s.live dTRG = true ∧ s.appFlag TRG_CTRL.EN = true ∧ (s.app TRG_EN.EN).testBit 23 = true ∧ ((s.trg.events.filter (fun e => e.src == 23)).length < 1024)) := by
  refine ⟨?_, ?_, ?_, ?_, ?_, ?_, ?_, ?_, ?_⟩
  · try dsimp only
    refine ⟨testState run [] [(TRG_CTRL.EN, 1)], 8, 9, 9, ?_⟩
    (try dsimp only [State.admits, State.lodRuns]) <;> decide +kernel
  · try dsimp only
    refine ⟨testState run [(TRG_STAT.ARMED, 1)] [(TRG_CTRL.EN, 1), (TRG_CTRL.MODE, 1)], ?_⟩
    (try dsimp only [State.admits, State.lodRuns]) <;> decide +kernel
  · try dsimp only
    refine ⟨testState run [] [(TRG_CTRL.EN, 1)], .host, 0, ?_⟩
    (try dsimp only [State.admits, State.lodRuns]) <;> decide +kernel
  · try dsimp only
    refine ⟨testState run [] [(TRG_CTRL.EN, 1)], .host, 0, ?_⟩
    (try dsimp only [State.admits, State.lodRuns]) <;> decide +kernel
  · try dsimp only
    refine ⟨{ testState run [] [] with trg := { TrgSt.reset with log := [testTrg] } }, .host, 0, ?_⟩
    (try dsimp only [State.admits, State.lodRuns]) <;> decide +kernel
  · try dsimp only
    refine ⟨testState run [] [], .host, 0, ?_⟩
    (try dsimp only [State.admits, State.lodRuns]) <;> decide +kernel
  · try dsimp only
    refine ⟨{ testState run [] [(TRG_OUT_CTRL.SEL 3, 1)] with trg := { TrgSt.reset with pulses := Vector.replicate 4 [9] } }, 3, 9, ?_⟩
    (try dsimp only [State.admits, State.lodRuns]) <;> decide +kernel
  · try dsimp only
    refine ⟨{ testState run [] [(TRG_OUT_CTRL.SEL 3, 2)] with trg := { TrgSt.reset with outEnd := Vector.replicate 4 (some 9) } }, 3, ?_⟩
    (try dsimp only [State.admits, State.lodRuns]) <;> decide +kernel
  · try dsimp only
    refine ⟨testState run [(CST_NODE.VALID, 1)] [(CST_CTRL.EN, 1), (TRG_REM_CTRL.RX_MASK, 0x8000), (TRG_CTRL.EN, 1), (TRG_EN.EN, 0x800000)], 15, (0x3FFF : BitVec 14), ?_⟩
    (try dsimp only [State.admits, State.lodRuns]) <;> decide +kernel

theorem wit_CaptureCommandsComplete : 
    (∃ (s : State) (u : Fin 4) (src : Source) (v : Word), s.admits acqRulesLrd src (ACQ_U_CMD.addr u) (v ||| 1) ∧ (v ||| 1).toNat % 8 = 1 ∧ s.app (ACQ_U_CFG.MODE u) ≠ 0)
  ∧ (∃ (s : State) (u : Fin 4) (src : Source) (v : Word), s.admits acqRulesLrd src (ACQ_U_CMD.addr u) (v ||| 2) ∧ (v ||| 2).toNat % 8 = 2 ∧ s.acqBusy u = true)
  ∧ (∃ (s : State) (u : Fin 4) (src : Source) (v : Word), s.admits acqRulesLrd src (ACQ_U_CMD.addr u) (v ||| 4) ∧ (v ||| 4).toNat % 8 = 4 ∧ s.acqBusy u = true)
  ∧ (∃ (s : State) (u : Fin 4) (src : Source) (v : Word), s.admits acqRulesLrd src (ACQ_U_LRD.addr u) v)
  ∧ (∃ (s : State) (u : Fin 4) (g : _) (rest : _), s.live dACQ = true ∧ (s.acqUnit u).segs = g :: rest ∧ s.segReady u g = true ∧ (s.acqUnit u).notes = [] ∧ (s.acqUnit u).held = none ∧ (s.acqUnit u).geom.endMode ≠ 0 ∧ s.acqState u ≠ uSTOPPING)
  ∧ (∃ (s : State) (u : Fin 4), s.live dACQ = true ∧ s.acqBusy u = true ∧ (s.acqUnit u).discarding = false ∧ (s.acqUnit u).gap = none)
  ∧ (∃ (s : State) (u : Fin 4), s.live dACQ = true ∧ (s.acqUnit u).discarding = true)
  ∧ (∃ (s : State) (u : Fin 4) (r : _) (i : _) (st : Stamp) (pt : _) (c : _), s.live dACQ = true ∧ (s.acqUnit u).circ = some (r, i, st, pt, c) ∧ s.acqState u = uFILLING ∧ s.circOpen u = false ∧ c < 16)
  ∧ (∃ (s : State) (u : Fin 4), s.live dACQ = true ∧ (s.acqUnit u).geom.mode = 2 ∧ (s.acqUnit u).geom.autoRearm = true ∧ s.acqState u = uSTOPPED ∧ s.get (ACQ_U_STAT.STOP_CAUSE u) = 6)
  ∧ (∃ (s : State) (u : Fin 4), s.live dACQ = true ∧ s.acqBusy u = true ∧ (s.acqUnit u).geom.mode = 3 ∧ (s.acqUnit u).strm.nsamp = blockSamples (s.acqUnit u).geom.fmt) := by
  refine ⟨?_, ?_, ?_, ?_, ?_, ?_, ?_, ?_, ?_, ?_⟩
  · try dsimp only
    refine ⟨testAcq uIDLE AcqUnit.reset [] [(ACQ_U_CFG.MODE 3, 3)], 3, .host, 0, ?_⟩
    (try dsimp only [State.admits, State.lodRuns]) <;> decide +kernel
  · try dsimp only
    refine ⟨testAcq uSTOPPING AcqUnit.reset [] [], 3, .host, 0, ?_⟩
    (try dsimp only [State.admits, State.lodRuns]) <;> decide +kernel
  · try dsimp only
    refine ⟨testAcq uARMED AcqUnit.reset [] [], 3, .host, 0, ?_⟩
    (try dsimp only [State.admits, State.lodRuns]) <;> decide +kernel
  · try dsimp only
    refine ⟨testState run [] [], 3, .host, 0, ?_⟩
    (try dsimp only [State.admits, State.lodRuns]) <;> decide +kernel
  · try dsimp only
    refine ⟨testAcq uFILLING { AcqUnit.reset with geom := { AcqGeom.reset with mode := 1, endMode := 1 }, segs := [⟨1, 0, 0, 0, testTrg, 16, false, false, false, true, false, [], 0⟩] } [] [], 3, ⟨1, 0, 0, 0, testTrg, 16, false, false, false, true, false, [], 0⟩, [], ?_⟩
    (try dsimp only [State.admits, State.lodRuns]) <;> decide +kernel
  · try dsimp only
    refine ⟨testAcq uFILLING AcqUnit.reset [] [], 3, ?_⟩
    (try dsimp only [State.admits, State.lodRuns]) <;> decide +kernel
  · try dsimp only
    refine ⟨testAcq uFILLING { AcqUnit.reset with discarding := true } [] [], 3, ?_⟩
    (try dsimp only [State.admits, State.lodRuns]) <;> decide +kernel
  · try dsimp only
    refine ⟨testAcq uFILLING { AcqUnit.reset with circ := some (testTrg, 0, 0, 0, 15) } [] [], 3, testTrg, 0, 0, 0, 15, ?_⟩
    (try dsimp only [State.admits, State.lodRuns]) <;> decide +kernel
  · try dsimp only
    refine ⟨testAcq uSTOPPED { AcqUnit.reset with geom := { AcqGeom.reset with mode := 2, autoRearm := true } } [(ACQ_U_STAT.STOP_CAUSE 3, 6)] [], 3, ?_⟩
    (try dsimp only [State.admits, State.lodRuns]) <;> decide +kernel
  · try dsimp only
    refine ⟨testAcq uFILLING { AcqUnit.reset with geom := { AcqGeom.reset with mode := 3 }, strm := { StreamSt.reset with nsamp := blockSamples 0 } } [] [], 3, ?_⟩
    (try dsimp only [State.admits, State.lodRuns]) <;> decide +kernel

theorem wit_NebulaCommandsComplete : 
    (∃ (s : State), s.live dNEB = true ∧ s.appFlag NEB_CTRL.EN = true ∧ s.flag NEB_STAT.PENDING = false ∧ s.app NEB_CTRL.SWAP_SRC = 0)
  ∧ (∃ (s : State) (src : Source) (v : Word), s.live dNEB = true ∧ s.appFlag NEB_CTRL.EN = true ∧ s.flag NEB_STAT.PENDING = false ∧ s.admits nebRules src NEB_CMD.addr (v ||| 1) ∧ (v ||| 1).toNat % 16 = 1)
  ∧ (∃ (s : State) (src : Source) (v : Word), s.live dNEB = true ∧ s.appFlag NEB_CTRL.EN = true ∧ s.flag NEB_STAT.PENDING = false ∧ s.admits nebRules src NEB_CMD.addr (v ||| 2) ∧ (v ||| 2).toNat / 4 % 4 = 0)
  ∧ (∃ (s : State) (src : Source) (v : Word), s.admits nebRules src NEB_CMD.addr (v ||| 4) ∧ (v ||| 4).toNat % 16 = 4)
  ∧ (∃ (s : State) (src : Source) (v : Word), s.admits nebRules src NEB_CMD.addr (v ||| 8) ∧ (v ||| 8).toNat % 16 = 8 ∧ (s.flag NEB_STAT.HELD = true ∨ s.flag NEB_STAT.HOLD_WAIT = true))
  ∧ (∃ (s : State), s.live dNEB = true ∧ s.appFlag NEB_CTRL.EN = true ∧ s.flag NEB_STAT.PENDING = true ∧ s.nebFree = true)
  ∧ (∃ (s : State) (p : _), s.live dNEB = true ∧ s.neb.pub = some p)
  ∧ (∃ (s : State), s.live dNEB = true ∧ s.flag NEB_STAT.HELD = true) := by
  refine ⟨?_, ?_, ?_, ?_, ?_, ?_, ?_, ?_⟩
  · try dsimp only
    refine ⟨testState run [] [(NEB_CTRL.EN, 1), (NEB_CTRL.SWAP_SRC, 0)], ?_⟩
    (try dsimp only [State.admits, State.lodRuns]) <;> decide +kernel
  · try dsimp only
    refine ⟨testState run [] [(NEB_CTRL.EN, 1)], .host, 0, ?_⟩
    (try dsimp only [State.admits, State.lodRuns]) <;> decide +kernel
  · try dsimp only
    refine ⟨testState run [] [(NEB_CTRL.EN, 1)], .host, 0, ?_⟩
    (try dsimp only [State.admits, State.lodRuns]) <;> decide +kernel
  · try dsimp only
    refine ⟨testState run [] [(NEB_CTRL.EN, 1)], .host, 0, ?_⟩
    (try dsimp only [State.admits, State.lodRuns]) <;> decide +kernel
  · try dsimp only
    refine ⟨testState run [(NEB_STAT.HELD, 1)] [(NEB_CTRL.EN, 1)], .host, 0, ?_⟩
    (try dsimp only [State.admits, State.lodRuns]) <;> decide +kernel
  · try dsimp only
    refine ⟨testState run [(NEB_STAT.PENDING, 1)] [(NEB_CTRL.EN, 1)], ?_⟩
    (try dsimp only [State.admits, State.lodRuns]) <;> decide +kernel
  · try dsimp only
    refine ⟨{ testState run [] [] with neb := { NebSt.reset with pub := some ⟨NebPeriod.reset, 0, 0, 0, 0⟩ } }, ⟨NebPeriod.reset, 0, 0, 0, 0⟩, ?_⟩
    (try dsimp only [State.admits, State.lodRuns]) <;> decide +kernel
  · try dsimp only
    refine ⟨testState run [(NEB_STAT.HELD, 1)] [], ?_⟩
    (try dsimp only [State.admits, State.lodRuns]) <;> decide +kernel

theorem wit_DisplayCommandsComplete : 
    (∃ (s : State), s.live dDISP = true ∧ s.get DPY_STAT.MSTATE = mRUN ∧ s.dpy.landed = false ∧ s.app NEB_CTRL.SWAP_SRC ≠ 1)
  ∧ (∃ (s : State) (src : Source) (v : Word), s.admits dpyRules src DPY_COMMIT.addr (v ||| 1))
  ∧ (∃ (s : State), s.live dDISP = true ∧ s.flag DPY_STAT.COMMIT_PEND = true ∧ s.dpy.landed = false ∧ let fresh := s.get DPY_CTRL.RATE != s.app DPY_CTRL.RATE || s.get DPY_CTRL.LANES != s.app DPY_CTRL.LANES;
    (admJudge (dpyItems s.get s.app (s.linkMbps s.get fresh))).2 = none ∧ s.get DPY_STAT.MSTATE = mRUN)
  ∧ (∃ (s : State) (e : _), s.live dDISP = true ∧ s.flag DPY_STAT.COMMIT_PEND = true ∧ s.dpy.landed = false ∧ let fresh := s.get DPY_CTRL.RATE != s.app DPY_CTRL.RATE || s.get DPY_CTRL.LANES != s.app DPY_CTRL.LANES;
    (admJudge (dpyItems s.get s.app (s.linkMbps s.get fresh))).2 = some e)
  ∧ (∃ (s : State), s.live dDISP = true ∧ s.get DPY_STAT.MSTATE = mRUN ∧ s.neb.dpyWant = true ∧ s.flag NEB_STAT.PUB_BUSY = false)
  ∧ (∃ (s : State), s.live dDISP = true ∧ s.neb.dpyLock = true ∧ s.dpy.composing = true)
  ∧ (∃ (s : State) (line : _), s.live dDISP = true ∧ s.get DPY_STAT.MSTATE = mRUN ∧ line < s.app DPY_VTIM.VACTIVE ∧ s.dpy.composing = true ∧ s.dpy.lines ≤ line)
  ∧ (∃ (s : State), s.live dDISP = true ∧ s.get DPY_STAT.MSTATE = mRUN ∧ s.app DPY_CTRL.TE_MODE = 1)
  ∧ (∃ (s : State), s.live dDISP = true ∧ s.get DPY_STAT.MSTATE = mRUN ∧ s.app DPY_CTRL.TE_MODE = 1 ∧ s.dpy.teSeen = false)
  ∧ (∃ (s : State) (r : BitVec 3) (l : BitVec 2), s.live dDISP = true ∧ s.get DPY_STAT.MSTATE = mTRAIN ∧ s.dpy.landed = false ∧ (s.app DPY_CTRL.RATE = r.toNat ∧ s.app DPY_CTRL.LANES = l.toNat ∨ s.appFlag DPY_CTRL.FALLBACK = true))
  ∧ (∃ (s : State), s.live dDISP = true ∧ s.get DPY_STAT.MSTATE = mTRAIN ∧ s.dpy.landed = false)
  ∧ (∃ (s : State), s.live dDISP = true ∧ s.get DPY_STAT.MSTATE = mRUN)
  ∧ (∃ (s : State), s.live dDISP = true)
  ∧ (∃ (s : State) (src : Source) (v : Word), s.admits dpyRules src DPY_AUX_CTRL.addr (v ||| 0x80000000))
  ∧ (∃ (s : State) (r : BitVec 2), s.live dDISP = true ∧ s.dpy.auxBusy = true ∧ s.dpy.auxWait = false ∧ (r ≠ 0 ∨ s.flag DPY_AUX_CTRL.READ = false)) := by
  refine ⟨?_, ?_, ?_, ?_, ?_, ?_, ?_, ?_, ?_, ?_, ?_, ?_, ?_, ?_, ?_⟩
  · try dsimp only
    refine ⟨testState run [(DPY_STAT.MSTATE, mRUN)] [(NEB_CTRL.SWAP_SRC, 0)], ?_⟩
    (try dsimp only [State.admits, State.lodRuns]) <;> decide +kernel
  · try dsimp only
    refine ⟨testState run [] [], .host, 0, ?_⟩
    (try dsimp only [State.admits, State.lodRuns]) <;> decide +kernel
  · try dsimp only
    refine ⟨testState run [(DPY_STAT.COMMIT_PEND, 1), (DPY_STAT.MSTATE, mRUN)] [], ?_⟩
    (try dsimp only [State.admits, State.lodRuns]) <;> decide +kernel
  · try dsimp only
    refine ⟨testState run [(DPY_STAT.COMMIT_PEND, 1), (DPY_CTRL.EN, 1), (DPY_VTIM.VACTIVE, 4095)] [], .conflict, ?_⟩
    (try dsimp only [State.admits, State.lodRuns]) <;> decide +kernel
  · try dsimp only
    refine ⟨{ testState run [(DPY_STAT.MSTATE, mRUN)] [] with neb := { NebSt.reset with dpyWant := true } }, ?_⟩
    (try dsimp only [State.admits, State.lodRuns]) <;> decide +kernel
  · try dsimp only
    refine ⟨{ testState run [] [] with neb := { NebSt.reset with dpyLock := true }, dpy := { DpySt.reset with composing := true } }, ?_⟩
    (try dsimp only [State.admits, State.lodRuns]) <;> decide +kernel
  · try dsimp only
    refine ⟨{ testState run [(DPY_STAT.MSTATE, mRUN)] [(DPY_VTIM.VACTIVE, 1080)] with dpy := { DpySt.reset with composing := true, lines := 1079 } }, 1079, ?_⟩
    (try dsimp only [State.admits, State.lodRuns]) <;> decide +kernel
  · try dsimp only
    refine ⟨testState run [(DPY_STAT.MSTATE, mRUN)] [(DPY_CTRL.TE_MODE, 1)], ?_⟩
    (try dsimp only [State.admits, State.lodRuns]) <;> decide +kernel
  · try dsimp only
    refine ⟨testState run [(DPY_STAT.MSTATE, mRUN)] [(DPY_CTRL.TE_MODE, 1)], ?_⟩
    (try dsimp only [State.admits, State.lodRuns]) <;> decide +kernel
  · try dsimp only
    refine ⟨testState run [(DPY_STAT.MSTATE, mTRAIN)] [(DPY_CTRL.FALLBACK, 1)], 0, 0, ?_⟩
    (try dsimp only [State.admits, State.lodRuns]) <;> decide +kernel
  · try dsimp only
    refine ⟨testState run [(DPY_STAT.MSTATE, mTRAIN)] [], ?_⟩
    (try dsimp only [State.admits, State.lodRuns]) <;> decide +kernel
  · try dsimp only
    refine ⟨testState run [(DPY_STAT.MSTATE, mRUN)] [], ?_⟩
    (try dsimp only [State.admits, State.lodRuns]) <;> decide +kernel
  · try dsimp only
    refine ⟨testState run [] [], ?_⟩
    (try dsimp only [State.admits, State.lodRuns]) <;> decide +kernel
  · try dsimp only
    refine ⟨testState run [] [], .host, 0, ?_⟩
    (try dsimp only [State.admits, State.lodRuns]) <;> decide +kernel
  · try dsimp only
    refine ⟨{ testState run [] [] with dpy := { DpySt.reset with auxBusy := true } }, 3, ?_⟩
    (try dsimp only [State.admits, State.lodRuns]) <;> decide +kernel

theorem wit_LodestarControlCommandsComplete : 
    (∃ (s : State) (n : Fin 8) (src : Source) (v : Word), s.admits lodRules src (LOD_CMD.addr n) (v ||| 1) ∧ (v ||| 1).toNat.testBit 1 = false ∧ s.coreState n ≠ 0)
  ∧ (∃ (s : State) (n : Fin 8) (src : Source) (v : Word), s.admits lodRules src (LOD_CMD.addr n) (v ||| 2) ∧ (v ||| 2).toNat.testBit 0 = false ∧ (s.coreState n = cWAITING ∨ (s.coreState n = cRUNNING ∧ (s.core n).boundary = true)))
  ∧ (∃ (s : State) (n : Fin 8) (src : Source) (v : Word), s.admits lodRules src (LOD_CMD.addr n) (v ||| 2) ∧ (v ||| 2).toNat.testBit 0 = false ∧ s.coreState n = cRUNNING ∧ (s.core n).boundary = false)
  ∧ (∃ (s : State) (n : Fin 8) (src : Source) (v : Word), s.admits lodRules src (LOD_DOOR.addr n) v)
  ∧ (∃ (s : State) (n : Fin 8), s.coreLive n = true ∧ (s.coreState n = cRUNNING ∨ s.coreState n = cWAITING) ∧ s.app (LOD_TIMER.PERIOD n) ≠ 0)
  ∧ (∃ (s : State) (n : Fin 8) (q : Fin 2) (e : _) (es : _), s.live (coreDomain n) = true ∧ (s.tap n q).crossing = e :: es)
  ∧ (∃ (s : State) (n : Fin 8) (i : Nat), s.coreLive n = true ∧ s.coreState n = cRUNNING ∧ (s.core n).ie = true ∧ (s.core n).boundary = true ∧ s.irqDue n = some i ∧ (s.core n).rets.length < 16)
  ∧ (∃ (s : State) (n : Fin 8), s.coreLive n = true ∧ s.coreState n = cRUNNING ∧ (s.core n).overrun = false ∧ s.app (LOD_BUDGET.CYCLES n) < (s.core n).icyc)
  ∧ (∃ (s : State) (n : Fin 8), s.coreLive n = true) := by
  refine ⟨?_, ?_, ?_, ?_, ?_, ?_, ?_, ?_, ?_⟩
  · try dsimp only
    refine ⟨testCore cSTOPPED LodCore.reset [] [], 7, .host, 0, ?_⟩
    (try dsimp only [State.admits, State.lodRuns]) <;> decide +kernel
  · try dsimp only
    refine ⟨testCore cRUNNING LodCore.reset [] [], 7, .host, 0, ?_⟩
    (try dsimp only [State.admits, State.lodRuns]) <;> decide +kernel
  · try dsimp only
    refine ⟨testCore cRUNNING { LodCore.reset with delay := 1 } [] [], 7, .host, 0, ?_⟩
    (try dsimp only [State.admits, State.lodRuns]) <;> decide +kernel
  · try dsimp only
    refine ⟨testCore cRUNNING LodCore.reset [] [], 7, .host, 0, ?_⟩
    (try dsimp only [State.admits, State.lodRuns]) <;> decide +kernel
  · try dsimp only
    refine ⟨testCore cRUNNING LodCore.reset [] [(LOD_TIMER.PERIOD 7, 1)], 7, ?_⟩
    (try dsimp only [State.admits, State.lodRuns]) <;> decide +kernel
  · try dsimp only
    refine ⟨{ testState run [] [] with lod := { LodSt.reset with tap := Vector.replicate 8 (Vector.replicate 2 { LodTap.reset with crossing := [⟨0, 0, false, false, false, 0, false, 0⟩] }) } }, 7, 1, ⟨0, 0, false, false, false, 0, false, 0⟩, [], ?_⟩
    (try dsimp only [State.admits, State.lodRuns]) <;> decide +kernel
  · try dsimp only
    refine ⟨testCore cRUNNING { LodCore.reset with ie := true, peer := true, imr := 16, rets := List.replicate 15 0 } [] [], 7, 4, ?_⟩
    (try dsimp only [State.admits, State.lodRuns]) <;> decide +kernel
  · try dsimp only
    refine ⟨testCore cRUNNING { LodCore.reset with icyc := 2 ^ 32 } [] [], 7, ?_⟩
    (try dsimp only [State.admits, State.lodRuns]) <;> decide +kernel
  · try dsimp only
    refine ⟨testCore cRUNNING LodCore.reset [] [], 7, ?_⟩
    (try dsimp only [State.admits, State.lodRuns]) <;> decide +kernel

theorem wit_LodestarCtrl : 
    (∃ (s : State) (n : Fin 8), s.lodRuns n .plain)
  ∧ (∃ (s : State) (n : Fin 8) (m : Fin 8), s.lodRuns n .plain ∧ m ≠ n ∧ s.coreState m ≠ 0)
  ∧ (∃ (s : State) (n : Fin 8) (a : _) (r : _), s.lodRuns n .ret ∧ (s.core n).rets = a :: r)
  ∧ (∃ (s : State) (n : Fin 8), s.lodRuns n .wait ∧ (s.core n).ie = true ∧ s.irqDue n = none)
  ∧ (∃ (s : State) (n : Fin 8) (w : BitVec 24), s.lodRuns n .plain ∧ wbits w 8 16 = 0) := by
  refine ⟨?_, ?_, ?_, ?_, ?_⟩
  · try dsimp only
    refine ⟨testCore cRUNNING LodCore.reset [] [], 7, ?_⟩
    (try dsimp only [State.admits, State.lodRuns]) <;> decide +kernel
  · try dsimp only
    refine ⟨testCore cRUNNING LodCore.reset [(LOD_STAT.STATE 0, cSTOPPED)] [], 7, 0, ?_⟩
    (try dsimp only [State.admits, State.lodRuns]) <;> decide +kernel
  · try dsimp only
    refine ⟨testCore cRUNNING { LodCore.reset with rets := [32767] } [] [], 7, 32767, [], ?_⟩
    (try dsimp only [State.admits, State.lodRuns]) <;> decide +kernel
  · try dsimp only
    refine ⟨testCore cRUNNING { LodCore.reset with ie := true } [] [], 7, ?_⟩
    (try dsimp only [State.admits, State.lodRuns]) <;> decide +kernel
  · try dsimp only
    refine ⟨testCore cRUNNING LodCore.reset [] [], 7, 0xFF, ?_⟩
    (try dsimp only [State.admits, State.lodRuns]) <;> decide +kernel

theorem wit_LodestarFlow : 
    (∃ (s : State) (n : Fin 8) (w : BitVec 26), s.lodRuns n .branch ∧ wbits w 15 7 = 0)
  ∧ (∃ (s : State) (n : Fin 8) (w : BitVec 26), s.lodRuns n .branch ∧ wbits w 15 7 = 0 ∧ wbits w 22 4 ≤ 11)
  ∧ (∃ (s : State) (n : Fin 8) (w : BitVec 26), s.lodRuns n .branch ∧ wbits w 15 7 = 0 ∧ (s.core n).rets.length < 16)
  ∧ (∃ (s : State) (n : Fin 8) (w : BitVec 27) (k : _), s.lodRuns n .repeats ∧ wbits w 15 1 = 0 ∧ s.repCount n w = .ok k)
  ∧ (∃ (s : State) (n : Fin 8) (w : BitVec 27) (k : _), s.lodRuns n .loops ∧ wbits w 15 1 = 0 ∧ (s.core n).pc < wbits w 0 15 ∧ s.repCount n w = .ok k ∧ (s.core n).loops.length < 4) := by
  refine ⟨?_, ?_, ?_, ?_, ?_⟩
  · try dsimp only
    refine ⟨testCore cRUNNING LodCore.reset [] [], 7, 0x7FFF, ?_⟩
    (try dsimp only [State.admits, State.lodRuns]) <;> decide +kernel
  · try dsimp only
    refine ⟨testCore cRUNNING LodCore.reset [] [], 7, 0x2C07FFF, ?_⟩
    (try dsimp only [State.admits, State.lodRuns]) <;> decide +kernel
  · try dsimp only
    refine ⟨testCore cRUNNING { LodCore.reset with rets := List.replicate 15 0 } [] [], 7, 0x7FFF, ?_⟩
    (try dsimp only [State.admits, State.lodRuns]) <;> decide +kernel
  · try dsimp only
    exact ⟨testCore cRUNNING LodCore.reset [] [], 7, 0x10000, 1, by unfold State.lodRuns; decide +kernel, by decide +kernel, rfl⟩
  · try dsimp only
    exact ⟨testCore cRUNNING LodCore.reset [] [], 7, 0x17FFF, 1, by unfold State.lodRuns; decide +kernel, by decide +kernel, by decide +kernel, rfl, by decide +kernel⟩

theorem wit_LodestarAlu : 
    (∃ (s : State) (n : Fin 8) (w : BitVec 23), s.lodRuns n .plain ∧ wbits w 0 11 = 0) := by
  try dsimp only
  refine ⟨testCore cRUNNING LodCore.reset [] [], 7, 0x7FF800, ?_⟩
  (try dsimp only [State.admits, State.lodRuns]) <;> decide +kernel

theorem wit_LodestarAluImmediate : 
    (∃ (s : State) (n : Fin 8), s.lodRuns n .plain) := by
  try dsimp only
  refine ⟨testCore cRUNNING LodCore.reset [] [], 7, ?_⟩
  (try dsimp only [State.admits, State.lodRuns]) <;> decide +kernel

theorem wit_LodestarAccumulator : 
    (∃ (s : State) (n : Fin 8) (w : BitVec 24), s.lodRuns n .plain ∧ wbits w 6 8 = 0) := by
  try dsimp only
  refine ⟨testCore cRUNNING LodCore.reset [] [], 7, 0xFFC03F, ?_⟩
  (try dsimp only [State.admits, State.lodRuns]) <;> decide +kernel

theorem wit_LodestarMultiply : 
    (∃ (s : State) (n : Fin 8) (w : BitVec 26) (s1 : _) (s2 : _) (s3 : _) (a : _) (b : _) (ls : _) (ws : _), s.lodRuns n .plain ∧ let m1 := wbits w 18 5;
    let m2 := wbits w 13 5;
    let x := xferOf (wbits w 0 9);
    let u := wbits w 23 3;
    let walk (m : Nat) : Nat := if m < 16 then 0 else 2 ^ (m % 8);
    let s0 := s.lodAt n 1 { accW := 2 ^ u, walkR := walk m1 ||| walk m2 ||| xferWalkers [x] };
    wbits w 9 4 = 0 ∧ x.code ≠ 3 ∧ m1 / 16 + m2 / 16 + b2n x.mem ≤ 2 ∧ State.multiplicand s0 s0 n m1 = .ok (a, s1) ∧ State.multiplicand s0 s1 n m2 = .ok (b, s2) ∧ State.gather s0 n [x] s2 = .ok (s3, ls, ws)) := by
  try dsimp only
  exact ⟨testCore cRUNNING LodCore.reset [] [], 7, 0x3BDE000, _, _, _, _, _, _, _, by unfold State.lodRuns; decide +kernel, by decide +kernel, by decide +kernel, by decide +kernel, rfl, rfl, rfl⟩

theorem wit_LodestarComplex : 
    (∃ (s : State) (n : Fin 8) (w : BitVec 26) (s1 : _) (ls : _) (ws : _), s.lodRuns n .plain ∧ let xs := [xferOf (wbits w 9 9), xferOf (wbits w 0 9)];
    let p := wbits w 24 2;
    let s0 := s.lodAt n 1 { accW := 3 * 4 ^ p, walkR := xferWalkers xs };
    (∀ x ∈ xs, x.code ≠ 3) ∧ State.gather s0 n xs s0 = .ok (s1, ls, ws)) := by
  try dsimp only
  exact ⟨testCore cRUNNING LodCore.reset [] [], 7, 0, _, _, _, by unfold State.lodRuns; decide +kernel, by decide +kernel, rfl⟩

theorem wit_LodestarLoads : 
    (∃ (s : State) (n : Fin 8) (w : BitVec 26) (v : Word), s.lodRuns n .plain ∧ ldstOk w false = true ∧ s.loadWord n (s.ldst n w).1 = .ok v)
  ∧ (∃ (s : State) (n : Fin 8) (w : BitVec 26) (lo : _) (hi : _), s.lodRuns n .plain ∧ ldstOk w true = true ∧ s.loadWord n (s.ldst n w).1 = .ok lo ∧ s.loadWord n ((s.ldst n w).1 + 1) = .ok hi)
  ∧ (∃ (s : State) (n : Fin 8) (w : BitVec 24) (imm : BitVec 32), s.lodRuns n .long ∧ wbits w 0 20 = 0 ∧ wbits imm 24 8 = 0)
  ∧ (∃ (s : State) (n : Fin 8) (w : BitVec 24) (imm : BitVec 32) (v : Word), s.lodRuns n .long ∧ wbits w 0 20 = 0 ∧ wbits imm 18 14 = 0 ∧ s.loadWord n imm.toNat = .ok v)
  ∧ (∃ (s : State) (n : Fin 8) (w : BitVec 28), s.lodRuns n .plain ∧ (wbits w 21 1 = 1 ∨ wbits w 18 3 = 0))
  ∧ (∃ (s : State) (n : Fin 8) (w : BitVec 26) (e : _) (es : _), s.lodRuns n .tget ∧ wbits w 0 16 = 0 ∧ let q : Fin 2 := if wbits w 25 1 = 0 then 0 else 1;
    (s.tap n q).queue = e :: es)
  ∧ (∃ (s : State) (n : Fin 8) (w : BitVec 26), s.lodRuns n .plain ∧ wbits w 0 16 = 0 ∧ wbits w 20 5 ≤ 14)
  ∧ (∃ (s : State) (n : Fin 8) (w : BitVec 26), s.lodRuns n .plain ∧ wbits w 0 16 = 0 ∧ wbits w 20 5 ≤ 14 ∧ wbits w 20 5 = 1)
  ∧ (∃ (s : State) (n : Fin 8) (w : BitVec 26), s.lodRuns n .plain ∧ wbits w 0 16 = 0 ∧ wbits w 20 5 ≤ 14 ∧ 1 < wbits w 20 5)
  ∧ (∃ (s : State) (n : Fin 8) (w : BitVec 26), s.lodRuns n .plain ∧ wbits w 0 16 = 0 ∧ wbits w 20 5 ≤ 14 ∧ wbits w 20 5 = 0) := by
  refine ⟨?_, ?_, ?_, ?_, ?_, ?_, ?_, ?_, ?_, ?_⟩
  · try dsimp only
    exact ⟨testCore cRUNNING LodCore.reset [] [], 7, 0, 0, by unfold State.lodRuns; decide +kernel, by decide +kernel, rfl⟩
  · try dsimp only
    exact ⟨testCore cRUNNING LodCore.reset [] [], 7, 0, 0, 0, by unfold State.lodRuns; decide +kernel, by decide +kernel, rfl, rfl⟩
  · try dsimp only
    refine ⟨testCore cRUNNING LodCore.reset [] [], 7, 0xF00000, 0xFFFFFF, ?_⟩
    (try dsimp only [State.admits, State.lodRuns]) <;> decide +kernel
  · try dsimp only
    exact ⟨testCore cRUNNING LodCore.reset [] [], 7, 0xF00000, 0x3FFFF, 0, by unfold State.lodRuns; decide +kernel, by decide +kernel, by decide +kernel, rfl⟩
  · try dsimp only
    refine ⟨testCore cRUNNING LodCore.reset [] [], 7, 0x200000, ?_⟩
    (try dsimp only [State.admits, State.lodRuns]) <;> decide +kernel
  · try dsimp only
    refine ⟨{ testCore cRUNNING LodCore.reset [] [] with lod := { LodSt.reset with tap := Vector.replicate 8 (Vector.replicate 2 { LodTap.reset with queue := [⟨0, 0, false, false, false, 0, false, 0⟩] }) } }, 7, 0x2000000, ⟨0, 0, false, false, false, 0, false, 0⟩, [], ?_⟩
    (try dsimp only [State.admits, State.lodRuns]) <;> decide +kernel
  · try dsimp only
    refine ⟨testCore cRUNNING LodCore.reset [] [], 7, 0xE00000, ?_⟩
    (try dsimp only [State.admits, State.lodRuns]) <;> decide +kernel
  · try dsimp only
    refine ⟨testCore cRUNNING LodCore.reset [] [], 7, 0x100000, ?_⟩
    (try dsimp only [State.admits, State.lodRuns]) <;> decide +kernel
  · try dsimp only
    refine ⟨testCore cRUNNING LodCore.reset [] [], 7, 0xE00000, ?_⟩
    (try dsimp only [State.admits, State.lodRuns]) <;> decide +kernel
  · try dsimp only
    refine ⟨testCore cRUNNING LodCore.reset [] [], 7, 0, ?_⟩
    (try dsimp only [State.admits, State.lodRuns]) <;> decide +kernel

theorem wit_LodestarStores : 
    (∃ (s : State) (n : Fin 8) (w : BitVec 26), s.lodRuns n .plain ∧ ldstOk w false = true)
  ∧ (∃ (s : State) (n : Fin 8) (w : BitVec 26), s.lodRuns n .plain ∧ ldstOk w true = true)
  ∧ (∃ (s : State) (n : Fin 8) (w : BitVec 24) (imm : BitVec 32), s.lodRuns n .long ∧ wbits w 0 20 = 0 ∧ wbits imm 18 14 = 0)
  ∧ (∃ (s : State) (n : Fin 8) (w : BitVec 28) (s1 : _) (ls : _) (ws : _), s.lodRuns n .plain ∧ let xs := [xferOf (wbits w 9 9), xferOf (wbits w 0 9)];
    let s0 := s.lodAt n 1 { walkR := xferWalkers xs };
    wbits w 18 10 = 0 ∧ (∀ x ∈ xs, x.code ≠ 3) ∧ State.gather s0 n xs s0 = .ok (s1, ls, ws)) := by
  refine ⟨?_, ?_, ?_, ?_⟩
  · try dsimp only
    refine ⟨testCore cRUNNING LodCore.reset [] [], 7, 0x2FE0000, ?_⟩
    (try dsimp only [State.admits, State.lodRuns]) <;> decide +kernel
  · try dsimp only
    refine ⟨testCore cRUNNING LodCore.reset [] [], 7, 0x2E00000, ?_⟩
    (try dsimp only [State.admits, State.lodRuns]) <;> decide +kernel
  · try dsimp only
    refine ⟨testCore cRUNNING LodCore.reset [] [], 7, 0xF00000, 0x3FFFF, ?_⟩
    (try dsimp only [State.admits, State.lodRuns]) <;> decide +kernel
  · try dsimp only
    exact ⟨testCore cRUNNING LodCore.reset [] [], 7, 0, _, _, _, by unfold State.lodRuns; decide +kernel, by decide +kernel, by decide +kernel, rfl⟩

theorem wit_StallCommandsComplete : 
    (∃ (s : State) (k : Fin 32) (src : Source) (v : Word), s.admits dmaRules src (DMA_S_CMD.addr k) (v ||| 1) ∧ (v ||| 1).toNat.testBit 1 = false ∧ (v ||| 1).toNat.testBit 2 = false ∧ (v ||| 1).toNat.testBit 3 = false ∧ s.dmaState k ≠ dOFF)
  ∧ (∃ (s : State) (k : Fin 32) (src : Source) (v : Word), s.admits dmaRules src (DMA_S_CMD.addr k) (v ||| 2) ∧ (v ||| 2).toNat.testBit 0 = false ∧ (v ||| 2).toNat.testBit 2 = false ∧ (v ||| 2).toNat.testBit 3 = false ∧ (s.dmaState k = dWAITDESC ∨ s.dmaState k = dWAITBAR))
  ∧ (∃ (s : State) (k : Fin 32) (src : Source) (v : Word), s.admits dmaRules src (DMA_S_CMD.addr k) (v ||| 2) ∧ (v ||| 2).toNat.testBit 0 = false ∧ (v ||| 2).toNat.testBit 2 = false ∧ (v ||| 2).toNat.testBit 3 = false ∧ s.dmaState k = dRUNNING)
  ∧ (∃ (s : State) (k : Fin 32) (src : Source) (v : Word) (beats : _) (host : _), let y := if (s.live dACQ && s.dmaMoving k) = true then s.dmaBeats k true beats host else s;
    y.admits dmaRules src (DMA_S_CMD.addr k) (v ||| 4) ∧ (v ||| 4).toNat.testBit 0 = false ∧ (v ||| 4).toNat.testBit 1 = false ∧ (v ||| 4).toNat.testBit 3 = false ∧ (y.dmaState k = dWAITDESC ∨ y.dmaState k = dWAITBAR))
  ∧ (∃ (s : State) (k : Fin 32) (src : Source) (v : Word) (beats : _) (host : _), let y := if (s.live dACQ && s.dmaMoving k) = true then s.dmaBeats k true beats host else s;
    y.admits dmaRules src (DMA_S_CMD.addr k) (v ||| 4) ∧ (v ||| 4).toNat.testBit 0 = false ∧ (v ||| 4).toNat.testBit 1 = false ∧ (v ||| 4).toNat.testBit 3 = false ∧ (y.dmaState k = dRUNNING ∨ y.dmaState k = dSTOPPING) ∧ (y.dmaCur k).isSome = true)
  ∧ (∃ (s : State) (k : Fin 32) (src : Source) (v : Word), s.admits dmaRules src (DMA_S_CMD.addr k) (v ||| 8) ∧ (v ||| 8).toNat.testBit 0 = false ∧ (v ||| 8).toNat.testBit 1 = false ∧ (v ||| 8).toNat.testBit 2 = false ∧ s.dmaState k = dWAITDESC)
  ∧ (∃ (s : State) (k : Fin 32) (src : Source) (v : Word), s.admits dmaRules src (DMA_S_CMD.addr k) (v ||| 8) ∧ (v ||| 8).toNat.testBit 0 = false ∧ (v ||| 8).toNat.testBit 1 = false ∧ (v ||| 8).toNat.testBit 2 = false ∧ (s.dmaState k = dRUNNING ∨ s.dmaState k = dWAITBAR ∨ s.dmaState k = dSTOPPING))
  ∧ (∃ (s : State) (k : Fin 32) (src : Source) (v : Word), s.admits dmaRules src (DMA_S_HEAD.addr k) v ∧ s.inChain k (bitsOf v (DMA_S_HEAD.HEAD k).lo (DMA_S_HEAD.HEAD k).n * 64) = true)
  ∧ (∃ (s : State) (b : Fin 16) (src : Source) (v : Word), s.admits dmaRules src (DMA_BAR_CTRL.addr b) (v ||| BitVec.ofNat 32 (2 ^ 31)))
  ∧ (∃ (s : State) (u : Fin 16) (src : Source) (v : Word), s.admits chkRules src (CHK_CMD.addr u) (v ||| 1)) := by
  refine ⟨?_, ?_, ?_, ?_, ?_, ?_, ?_, ?_, ?_, ?_⟩
  · try dsimp only
    refine ⟨testDma dSTOPPED (testDesc 0 0 64 0 0) none [] [], 31, .host, 0, ?_⟩
    (try dsimp only [State.admits, State.lodRuns]) <;> decide +kernel
  · try dsimp only
    refine ⟨testDma dWAITDESC (testDesc 0 0 64 0 0) none [] [], 31, .host, 0, ?_⟩
    (try dsimp only [State.admits, State.lodRuns]) <;> decide +kernel
  · try dsimp only
    refine ⟨testDma dRUNNING (testDesc 0 0 64 0 0) none [] [], 31, .host, 0, ?_⟩
    (try dsimp only [State.admits, State.lodRuns]) <;> decide +kernel
  · try dsimp only
    refine ⟨testDma dWAITBAR (testDesc 0 0 64 0 0) none [] [], 31, .host, 0, 0, [], ?_⟩
    (try dsimp only [State.admits, State.lodRuns]) <;> decide +kernel
  · try dsimp only
    refine ⟨testDma dRUNNING (testDesc 1 0 64 0 0) (some (testDesc 1 0 64 0 0)) [] [], 31, .host, 0, 0, [], ?_⟩
    (try dsimp only [State.admits, State.lodRuns]) <;> decide +kernel
  · try dsimp only
    refine ⟨testDma dWAITDESC (testDesc 0 0 64 0 0) none [] [], 31, .host, 0, ?_⟩
    (try dsimp only [State.admits, State.lodRuns]) <;> decide +kernel
  · try dsimp only
    refine ⟨testDma dSTOPPING (testDesc 0 0 64 0 0) none [] [], 31, .host, 0, ?_⟩
    (try dsimp only [State.admits, State.lodRuns]) <;> decide +kernel
  · try dsimp only
    refine ⟨testDma dSTOPPED (testDesc 0 0 64 0 0) none [] [], 31, .host, 0x06F00000, ?_⟩
    (try dsimp only [State.admits, State.lodRuns]) <;> decide +kernel
  · try dsimp only
    refine ⟨testState run [] [], 15, .host, 0xFFFF, ?_⟩
    (try dsimp only [State.admits, State.lodRuns]) <;> decide +kernel
  · try dsimp only
    refine ⟨testState run [] [], 15, .host, 0, ?_⟩
    (try dsimp only [State.admits, State.lodRuns]) <;> decide +kernel

theorem wit_DescriptorCommandsComplete : 
    (∃ (s : State) (k : Fin 32), s.live dACQ = true ∧ s.dmaState k = dRUNNING ∧ s.dmaCur k = none ∧ let a := s.get (DMA_S_HEAD.HEAD k) * 64;
    s.inChain k a = false)
  ∧ (∃ (s : State) (k : Fin 32), s.live dACQ = true ∧ s.dmaState k = dRUNNING ∧ s.dmaCur k = none ∧ let a := s.get (DMA_S_HEAD.HEAD k) * 64;
    let c : DmaCur := { addr := a, w := s.dmaWords a, pos := 0, acked := 0, row := [], refused := none };
    s.inChain k a = true ∧ (∀ i, i < 8 → s.poisoned (a + 8 * i) = false) ∧ c.fld 0 0 1 = 0)
  ∧ (∃ (s : State) (k : Fin 32), s.live dACQ = true ∧ s.dmaState k = dRUNNING ∧ s.dmaCur k = none ∧ let a := s.get (DMA_S_HEAD.HEAD k) * 64;
    let c : DmaCur := { addr := a, w := s.dmaWords a, pos := 0, acked := 0, row := [], refused := none };
    s.inChain k a = true ∧ (∀ i, i < 8 → s.poisoned (a + 8 * i) = false) ∧ c.fld 0 0 1 = 1 ∧ (s.setCur k (some c)).stallDrain k = none ∧ (s.setCur k (some c)).dmaBad k c = false ∧ c.fld 10 4 1 = 0)
  ∧ (∃ (s : State) (k : Fin 32), s.live dACQ = true ∧ s.dmaState k = dRUNNING ∧ s.dmaCur k = none ∧ let a := s.get (DMA_S_HEAD.HEAD k) * 64;
    let c : DmaCur := { addr := a, w := s.dmaWords a, pos := 0, acked := 0, row := [], refused := none };
    s.inChain k a = true ∧ (∀ i, i < 8 → s.poisoned (a + 8 * i) = false) ∧ c.fld 0 0 1 = 1 ∧ (s.setCur k (some c)).stallDrain k = none ∧ (s.setCur k (some c)).dmaBad k c = false ∧ c.fld 10 4 1 = 1 ∧ s.flag (DMA_BAR_STAT.ERR c.bar) = false)
  ∧ (∃ (s : State) (k : Fin 32) (host : _) (c : _) (c' : _), s.live dACQ = true ∧ s.dmaMoving k = true ∧ s.dmaCur k = some c ∧ c.dstSpace ≠ spSTORE ∧ let y := s.dmaBeats k true c.beats host;
    y.dmaCur k = some c' ∧ c'.total ≤ c'.pos ∧ (∀ x ∈ y.spt.out, x.stall ≠ k.val))
  ∧ (∃ (s : State) (k : Fin 32) (beats : _) (host : _) (c : _), s.live dACQ = true ∧ s.dmaMoving k = true ∧ let y := s.dmaBeats k true beats host;
    y.dmaCur k = some c ∧ c.pos < c.total) := by
  refine ⟨?_, ?_, ?_, ?_, ?_, ?_⟩
  · try dsimp only
    refine ⟨testDma dRUNNING (testDesc 0 0 64 0 0) none [(DMA_S_HEAD.HEAD 31, 0x06F00000 / 64 + 1)] [], 31, ?_⟩
    (try dsimp only [State.admits, State.lodRuns]) <;> decide +kernel
  · try dsimp only
    refine ⟨testDma dRUNNING (testDesc 0 0 64 0 0) none [] [], 31, ?_⟩
    (try dsimp only [State.admits, State.lodRuns]) <;> decide +kernel
  · try dsimp only
    refine ⟨testDma dRUNNING (testDesc 1 0 64 0 0) none [] [], 31, ?_⟩
    (try dsimp only [State.admits, State.lodRuns]) <;> decide +kernel
  · try dsimp only
    refine ⟨testDma dRUNNING (testDesc 1 0x10 64 0 0) none [] [], 31, ?_⟩
    (try dsimp only [State.admits, State.lodRuns]) <;> decide +kernel
  · try dsimp only
    refine ⟨testDma dRUNNING (testDesc 1 0 64 0 0) (some (testDesc 1 0 0 0 0)) [] [], 31, [], testDesc 1 0 0 0 0, testDesc 1 0 0 0 0, ?_⟩
    (try dsimp only [State.admits, State.lodRuns]) <;> decide +kernel
  · try dsimp only
    refine ⟨testDma dRUNNING (testDesc 1 0 64 0 0) (some (testDesc 1 0 64 63 0)) [] [], 31, 0, [], testDesc 1 0 64 63 0, ?_⟩
    (try dsimp only [State.admits, State.lodRuns]) <;> decide +kernel

theorem wit_HostPortCommandsComplete : 
    (∃ (s : State), s.dev ≠ powerOff ∧ s.domOn dPCIE_H = true ∧ s.hpt.train = true)
  ∧ (∃ (s : State), s.dev ≠ powerOff ∧ s.domOn dPCIE_H = true ∧ s.flag HPT_LINK.UP = true)
  ∧ (∃ (s : State) (k : Fin 32) (beats : _) (host : _) (c0 : _) (c : _), s.live dACQ = true ∧ s.dmaMoving k = true ∧ s.dmaCur k = some c0 ∧ c0.srcSpace = spHOST ∧ (s.dmaBeats k true beats host).dmaCur k = some c ∧ c.pos < c.total)
  ∧ (∃ (s : State) (v : Fin 32), s.hostLink = true ∧ s.hpt.msixEn = true ∧ (s.hpt.funcMask = false) ∧ s.flag (HPT_VEC.PEND v) = true ∧ s.flag (HPT_MSIX_CTRL.MASK v) = false ∧ vget s.hpt.sent v = none)
  ∧ (∃ (s : State) (a : _) (bytes : List (Option Byte)), s.hostLink = true ∧ (∀ i, i < bytes.length → s.bar2Err (a + i) false = none ∧ s.poisoned (a + i) = false))
  ∧ (∃ (s : State) (a : _) (bytes : List (Option Byte)), s.hostLink = true ∧ (∀ x ∈ enabled bytes, s.bar2Err (a + x.1) true = none))
  ∧ (∃ (s : State) (a : _) (bytes : List (Option Byte)), s.hostLink = true ∧ let base := s.get HPT_BAR4.OFS * 2 ^ 28 + a;
    (∀ i, i < bytes.length → s.bar4Err (base + i) = none ∧ s.mem.ue.contains ((base + i) / 64) = false))
  ∧ (∃ (s : State) (a : _) (bytes : List (Option Byte)), s.hostLink = true ∧ let base := s.get HPT_BAR4.OFS * 2 ^ 28 + a;
    (∀ x ∈ enabled bytes, s.bar4Err (base + x.1) = none)) := by
  refine ⟨?_, ?_, ?_, ?_, ?_, ?_, ?_, ?_⟩
  · try dsimp only
    refine ⟨{ testState run [] [] with hpt := { HptSt.reset with train := true } }, ?_⟩
    (try dsimp only [State.admits, State.lodRuns]) <;> decide +kernel
  · try dsimp only
    refine ⟨testState run [(HPT_LINK.UP, 1)] [], ?_⟩
    (try dsimp only [State.admits, State.lodRuns]) <;> decide +kernel
  · try dsimp only
    refine ⟨testDma dRUNNING (testDesc 1 0 64 0 0) (some (testDesc 1 0 64 63 2)) [] [], 31, 0, [], testDesc 1 0 64 63 2, testDesc 1 0 64 63 2, ?_⟩
    (try dsimp only [State.admits, State.lodRuns]) <;> decide +kernel
  · try dsimp only
    refine ⟨{ testState run [(HPT_LINK.UP, 1), (HPT_VEC.PEND 31, 1), (HPT_MSIX_CTRL.MASK 31, 0)] [] with hpt := { HptSt.reset with msixEn := true } }, 31, ?_⟩
    (try dsimp only [State.admits, State.lodRuns]) <;> decide +kernel
  · try dsimp only
    refine ⟨testState run [(HPT_LINK.UP, 1)] [], 0x06F00000, [none, none], ?_⟩
    (try dsimp only [State.admits, State.lodRuns]) <;> decide +kernel
  · try dsimp only
    refine ⟨testState run [(HPT_LINK.UP, 1)] [], 0x06F00000, [some 1, none, some 2], ?_⟩
    (try dsimp only [State.admits, State.lodRuns]) <;> decide +kernel
  · try dsimp only
    refine ⟨testMem none [(HPT_LINK.UP, 1)] [], 4094, [none, none], ?_⟩
    (try dsimp only [State.admits, State.lodRuns]) <;> decide +kernel
  · try dsimp only
    refine ⟨testMem none [(HPT_LINK.UP, 1)] [], 4093, [some 1, none, some 2], ?_⟩
    (try dsimp only [State.admits, State.lodRuns]) <;> decide +kernel

theorem wit_StorageCommandsComplete : 
    (∃ (s : State) (d : Fin 4), s.alive = true ∧ s.domOn dPCIE_S = true ∧ d.val < bifDrives (s.app SPT_CFG.BIF))
  ∧ (∃ (s : State) (d : Fin 4), s.alive = true ∧ s.domOn dPCIE_S = true ∧ s.get (SPT_DRV_STAT.STATE d) = vINIT)
  ∧ (∃ (s : State) (d : Fin 4) (n : _) (sct : BitVec 3) (sc : BitVec 8) (x : _), s.alive = true ∧ s.storePumpAll.driveCmd d n = some x ∧ (sct = 0 ∧ sc = 0))
  ∧ (∃ (s : State) (d : Fin 4) (n : _) (sct : BitVec 3) (sc : BitVec 8) (x : _), s.alive = true ∧ s.storePumpAll.driveCmd d n = some x ∧ (¬ (sct = 0 ∧ sc = 0)))
  ∧ (∃ (s : State) (d : Fin 4) (n : _) (x : _), s.alive = true ∧ s.domOn dPCIE_S = true ∧ s.storePumpAll.driveCmd d n = some x)
  ∧ (∃ (s : State) (d : Fin 4), s.alive = true ∧ s.domOn dPCIE_S = true ∧ s.get (SPT_DRV_STAT.STATE d) ≠ vABSENT)
  ∧ (∃ (s : State) (mask : BitVec 4) (src : Source) (v : Word), s.admits sptRules src SPT_CMD.addr (v ||| BitVec.ofNat 32 (mask.toNat * 16)))
  ∧ (∃ (s : State) (src : Source) (v : Word), s.admits sptRules src SPT_CMD.addr (v ||| 1))
  ∧ (∃ (s : State), s.alive = true ∧ s.flag SPT_STAT.FLUSH_BUSY = true) := by
  refine ⟨?_, ?_, ?_, ?_, ?_, ?_, ?_, ?_, ?_⟩
  · try dsimp only
    refine ⟨testState run [] [(SPT_CFG.BIF, 2)], 3, ?_⟩
    (try dsimp only [State.admits, State.lodRuns]) <;> decide +kernel
  · try dsimp only
    refine ⟨testState run [(SPT_DRV_STAT.STATE 3, vINIT)] [], 3, ?_⟩
    (try dsimp only [State.admits, State.lodRuns]) <;> decide +kernel
  · try dsimp only
    refine ⟨{ testState run [] [] with spt := { SptSt.reset with out := [⟨3, 31, 0, 4096⟩] } }, 3, (0 : Nat), 0, 0, ⟨3, 31, 0, 4096⟩, ?_⟩
    (try dsimp only [State.admits, State.lodRuns]) <;> decide +kernel
  · try dsimp only
    refine ⟨{ testState run [] [] with spt := { SptSt.reset with out := [⟨3, 31, 0, 4096⟩] } }, 3, (0 : Nat), 7, 0xFF, ⟨3, 31, 0, 4096⟩, ?_⟩
    (try dsimp only [State.admits, State.lodRuns]) <;> decide +kernel
  · try dsimp only
    refine ⟨{ testState run [] [] with spt := { SptSt.reset with out := [⟨3, 31, 0, 4096⟩] } }, 3, (0 : Nat), ⟨3, 31, 0, 4096⟩, ?_⟩
    (try dsimp only [State.admits, State.lodRuns]) <;> decide +kernel
  · try dsimp only
    refine ⟨testState run [(SPT_DRV_STAT.STATE 3, vREADY)] [], 3, ?_⟩
    (try dsimp only [State.admits, State.lodRuns]) <;> decide +kernel
  · try dsimp only
    refine ⟨testState run [] [], 8, .host, 0, ?_⟩
    (try dsimp only [State.admits, State.lodRuns]) <;> decide +kernel
  · try dsimp only
    refine ⟨testState run [] [], .host, 0, ?_⟩
    (try dsimp only [State.admits, State.lodRuns]) <;> decide +kernel
  · try dsimp only
    refine ⟨testState run [(SPT_STAT.FLUSH_BUSY, 1)] [], ?_⟩
    (try dsimp only [State.admits, State.lodRuns]) <;> decide +kernel

theorem wit_MemoryTrainingCommandsComplete : 
    (∃ (s : State) (c : Fin 8), s.alive = true ∧ s.domOn (memDomOf c) = true ∧ c.val < s.memCtrls)
  ∧ (∃ (s : State) (ch : Fin 16), s.inRun = true ∧ s.memState = gREADY ∧ ch.val < s.memNc)
  ∧ (∃ (s : State) (src : Source) (v : Word), s.admits memRules src MEM_CMD.addr (v ||| 2) ∧ (v ||| 2).toNat.testBit 0 = false ∧ s.inRun = true)
  ∧ (∃ (s : State) (c : _), s.memReady = true ∧ s.mem.cur = some c ∧ c.fails = 0 ∧ s.flag MEM_STAT.FREQ_DEFERRED = false ∧ c.step < 2)
  ∧ (∃ (s : State) (c : _), s.memReady = true ∧ s.mem.cur = some c ∧ c.fails = 0 ∧ s.flag MEM_STAT.FREQ_DEFERRED = false ∧ 2 ≤ c.step)
  ∧ (∃ (s : State) (c : _), s.memReady = true ∧ s.mem.cur = some c ∧ c.fails = 0 ∧ s.flag MEM_STAT.FREQ_DEFERRED = true)
  ∧ (∃ (s : State) (c : _), s.memReady = true ∧ s.mem.cur = some c ∧ c.fails = 0 ∧ s.flag MEM_STAT.FREQ_DEFERRED = false)
  ∧ (∃ (s : State) (c : _), s.memReady = true ∧ s.mem.cur = some c ∧ c.fails ≠ 0 ∧ s.flag MEM_STAT.FREQ_DEFERRED = false ∧ c.step < 2)
  ∧ (∃ (s : State) (c : _), s.memReady = true ∧ s.mem.cur = some c ∧ c.fails ≠ 0 ∧ c.fails < 2)
  ∧ (∃ (s : State) (c : _), s.memReady = true ∧ s.mem.cur = some c ∧ c.fails ≠ 0 ∧ 2 ≤ c.fails)
  ∧ (∃ (s : State), s.alive = true ∧ (s.memState = gTRAINING ∨ (s.memState = gFREQ ∧ s.flag (CLK_PLL_STAT.LOCKED 2) = true)))
  ∧ (∃ (s : State) (src : Source) (v : Word), s.admits memRules src MEM_CMD.addr (v ||| 1) ∧ (v ||| 1).toNat.testBit 1 = false ∧ let y := s.landed MEM_CMD.addr (v ||| 1);
    y.freqConflict = false ∧ (y.admitWith y.app { y.caps with memRate := y.memBudget (y.get MEM_FREQ.RATE) }).1 = none) := by
  refine ⟨?_, ?_, ?_, ?_, ?_, ?_, ?_, ?_, ?_, ?_, ?_, ?_⟩
  · try dsimp only
    refine ⟨testState run [] [(MEM_CFG.POP, 0)], 7, ?_⟩
    (try dsimp only [State.admits, State.lodRuns]) <;> decide +kernel
  · try dsimp only
    refine ⟨testMem none [] [(MEM_CFG.POP, 0)], 15, ?_⟩
    (try dsimp only [State.admits, State.lodRuns]) <;> decide +kernel
  · try dsimp only
    refine ⟨testMem none [] [], .host, 0, ?_⟩
    (try dsimp only [State.admits, State.lodRuns]) <;> decide +kernel
  · try dsimp only
    refine ⟨testMem (some ⟨3, 1, 0⟩) [] [], ⟨3, 1, 0⟩, ?_⟩
    (try dsimp only [State.admits, State.lodRuns]) <;> decide +kernel
  · try dsimp only
    refine ⟨testMem (some ⟨3, 2, 0⟩) [] [], ⟨3, 2, 0⟩, ?_⟩
    (try dsimp only [State.admits, State.lodRuns]) <;> decide +kernel
  · try dsimp only
    refine ⟨testMem (some ⟨3, 1, 0⟩) [(MEM_STAT.FREQ_DEFERRED, 1)] [], ⟨3, 1, 0⟩, ?_⟩
    (try dsimp only [State.admits, State.lodRuns]) <;> decide +kernel
  · try dsimp only
    refine ⟨testMem (some ⟨3, 1, 0⟩) [] [], ⟨3, 1, 0⟩, ?_⟩
    (try dsimp only [State.admits, State.lodRuns]) <;> decide +kernel
  · try dsimp only
    refine ⟨testMem (some ⟨3, 1, 2⟩) [] [], ⟨3, 1, 2⟩, ?_⟩
    (try dsimp only [State.admits, State.lodRuns]) <;> decide +kernel
  · try dsimp only
    refine ⟨testMem (some ⟨3, 1, 1⟩) [] [], ⟨3, 1, 1⟩, ?_⟩
    (try dsimp only [State.admits, State.lodRuns]) <;> decide +kernel
  · try dsimp only
    refine ⟨testMem (some ⟨3, 1, 2⟩) [] [], ⟨3, 1, 2⟩, ?_⟩
    (try dsimp only [State.admits, State.lodRuns]) <;> decide +kernel
  · try dsimp only
    refine ⟨testState run [(MEM_STAT.STATE, gTRAINING)] [], ?_⟩
    (try dsimp only [State.admits, State.lodRuns]) <;> decide +kernel
  · try dsimp only
    refine ⟨testMem none [] [], .host, 0, ?_⟩
    (try dsimp only [State.admits, State.lodRuns]) <;> decide +kernel

theorem wit_MemoryUpkeepCommandsComplete : 
    (∃ (s : State) (ch : Fin 16), s.memReady = true ∧ ch.val < s.memNc)
  ∧ (∃ (s : State) (ch : Fin 16) (bank : Fin 16) (row : BitVec 15), s.memReady = true ∧ ch.val < s.memNc ∧ let r : MemRow := ⟨ch, bank, row.toNat⟩;
    let acts := if s.now.toNat * 1000 / (32 * 2 ^ 40) = s.mem.window then s.mem.acts else [];
    let n := ((acts.find? (fun x => x.1 == r)).map (·.2)).getD 0 + 1;
    n < s.app MEM_RD_CFG.THRESH)
  ∧ (∃ (s : State) (ch : Fin 16) (bank : Fin 16) (row : BitVec 15), s.memReady = true ∧ ch.val < s.memNc ∧ let r : MemRow := ⟨ch, bank, row.toNat⟩;
    let acts := if s.now.toNat * 1000 / (32 * 2 ^ 40) = s.mem.window then s.mem.acts else [];
    let n := ((acts.find? (fun x => x.1 == r)).map (·.2)).getD 0 + 1;
    s.app MEM_RD_CFG.THRESH ≤ n)
  ∧ (∃ (s : State) (w : _), s.memReady = true ∧ w * 64 < s.usableBytes ∧ s.mem.ue.contains w = false)
  ∧ (∃ (s : State) (w : _), s.memReady = true ∧ w * 64 < s.usableBytes)
  ∧ (∃ (s : State) (ch : Fin 16) (bank : Fin 16) (row : BitVec 15), s.memReady = true ∧ s.mem.due.contains ⟨ch, bank, row.toNat⟩ = true) := by
  refine ⟨?_, ?_, ?_, ?_, ?_, ?_⟩
  · try dsimp only
    refine ⟨testMem none [] [(MEM_CFG.POP, 0)], 15, ?_⟩
    (try dsimp only [State.admits, State.lodRuns]) <;> decide +kernel
  · try dsimp only
    refine ⟨testMem none [] [(MEM_CFG.POP, 0), (MEM_RD_CFG.THRESH, 2)], 15, 15, 0x7FFF, ?_⟩
    (try dsimp only [State.admits, State.lodRuns]) <;> decide +kernel
  · try dsimp only
    refine ⟨testMem none [] [(MEM_CFG.POP, 0), (MEM_RD_CFG.THRESH, 1)], 15, 15, 0x7FFF, ?_⟩
    (try dsimp only [State.admits, State.lodRuns]) <;> decide +kernel
  · try dsimp only
    refine ⟨testMem none [] [], 63, ?_⟩
    (try dsimp only [State.admits, State.lodRuns]) <;> decide +kernel
  · try dsimp only
    refine ⟨testMem none [] [], 63, ?_⟩
    (try dsimp only [State.admits, State.lodRuns]) <;> decide +kernel
  · try dsimp only
    refine ⟨{ testMem none [] [] with mem := { MemSt.reset with due := [⟨15, 15, 0x7FFF⟩] } }, 15, 15, 0x7FFF, ?_⟩
    (try dsimp only [State.admits, State.lodRuns]) <;> decide +kernel

theorem wit_AuxCommandsComplete : 
    (∃ (s : State) (m : _), s.live dAUX = true ∧ s.aux.inj = 0 ∧ (m = true → s.aux.cal = none ∧ s.aux.diag = none) ∧ s.seqEn 1 = true)
  ∧ (∃ (s : State), s.live dAUX = true ∧ s.aux.inj ≠ 0)
  ∧ (∃ (s : State) (c : _) (r0 : BitVec 16) (r1 : BitVec 16), s.live dAUX = true ∧ s.aux.inj = 0 ∧ s.aux.cal = some c ∧ c.left ≠ 0 ∧ let raw := if c.adc % 2 = 0 then r0.toNat else r1.toNat;
    (s.convert (Fin.ofNat 2 c.adc) c.input raw).2 = false ∧ s.suspectNow (Fin.ofNat 2 c.adc) = false)
  ∧ (∃ (s : State) (src : Source) (v : Word), s.admits auxRules src AUX_CMD.addr (v ||| 1) ∧ (v ||| 1).toNat.testBit 1 = false ∧ (v ||| 1).toNat.testBit 2 = false)
  ∧ (∃ (s : State) (src : Source) (v : Word), s.admits auxRules src AUX_CMD.addr (v ||| 2) ∧ (v ||| 2).toNat.testBit 0 = false ∧ (v ||| 2).toNat.testBit 2 = false ∧ calIndexOk (s.get AUX_CAL_CTRL.ADC) (s.get AUX_CAL_CTRL.INPUT) = true)
  ∧ (∃ (s : State) (c : _), s.live dAUX = true ∧ s.aux.cal = some c ∧ c.left = 0)
  ∧ (∃ (s : State) (src : Source) (v : Word), s.admits auxRules src AUX_CMD.addr (v ||| 4) ∧ (v ||| 4).toNat.testBit 0 = false ∧ (v ||| 4).toNat.testBit 1 = false ∧ s.flag AUX_STAT.ZOK = true ∧ s.flag AUX_STAT.FOK = true ∧ s.aux.zIdx = s.aux.fIdx ∧ let z := s.get AUX_CAL_MEAS.Z;
    let f := s.get AUX_CAL_MEAS.F;
    let g : Int := ((s.app AUX_CAL_TGT.FT : Int) - s.app AUX_CAL_TGT.ZT) * 65536 / ((f : Int) - z);
    z < f ∧ 0x8000 ≤ g ∧ g ≤ 0x20000)
  ∧ (∃ (s : State) (src : Source) (v : Word), let w : Word := v ||| BitVec.ofNat 32 (2 ^ 31);
    s.admits auxRules src AUX_DIAG_CTRL.addr w ∧ w.toNat.testBit 30 = false ∧ let m := s.app AUX_DIAG_CTRL.ADC_MASK;
    (s.appFlag AUX_DIAG_CTRL.PATH = true → ∀ a, a < 2 → m.testBit a = true → adcReaches a (s.app AUX_DIAG_CTRL.INPUT) = true))
  ∧ (∃ (s : State) (src : Source) (v : Word), let w : Word := v ||| BitVec.ofNat 32 (2 ^ 30);
    s.admits auxRules src AUX_DIAG_CTRL.addr w ∧ w.toNat.testBit 31 = false ∧ s.aux.diag.isSome = true)
  ∧ (∃ (s : State) (d : _) (a : Fin 2), s.live dAUX = true ∧ s.aux.diag = some d ∧ 5 ≤ d.step ∧ d.mask.testBit a.val = true)
  ∧ (∃ (s : State), s.live dAUX = true)
  ∧ (∃ (s : State) (m : Fin 8) (src : Source) (v : Word), s.admits auxRules src (AUX_SPI_CMD.addr m) (v ||| 1) ∧ s.appFlag (AUX_SPI_CFG.EN m) = true)
  ∧ (∃ (s : State) (m : Fin 8), s.live dAUX = true ∧ s.flag (AUX_SPI_STAT.BUSY m) = true) := by
  refine ⟨?_, ?_, ?_, ?_, ?_, ?_, ?_, ?_, ?_, ?_, ?_, ?_, ?_⟩
  · try dsimp only
    refine ⟨testState run [] [(AUX_SEQ.EN 1, 1)], false, ?_⟩
    (try dsimp only [State.admits, State.lodRuns]) <;> decide +kernel
  · try dsimp only
    refine ⟨{ testState run [] [] with aux := { AuxSt.reset with inj := 3 } }, ?_⟩
    (try dsimp only [State.admits, State.lodRuns]) <;> decide +kernel
  · try dsimp only
    refine ⟨{ testState run [] [] with aux := { AuxSt.reset with cal := some ⟨.host, 1, 10, false, 1, 0, 0⟩ } }, ⟨.host, 1, 10, false, 1, 0, 0⟩, 1, 2, ?_⟩
    (try dsimp only [State.admits, State.lodRuns]) <;> decide +kernel
  · try dsimp only
    refine ⟨testState run [] [], .host, 0, ?_⟩
    (try dsimp only [State.admits, State.lodRuns]) <;> decide +kernel
  · try dsimp only
    refine ⟨testState run [(AUX_CAL_CTRL.ADC, 1), (AUX_CAL_CTRL.INPUT, 15)] [], .host, 0, ?_⟩
    (try dsimp only [State.admits, State.lodRuns]) <;> decide +kernel
  · try dsimp only
    refine ⟨{ testState run [] [] with aux := { AuxSt.reset with cal := some ⟨.host, 1, 10, false, 0, 1, 5⟩ } }, ⟨.host, 1, 10, false, 0, 1, 5⟩, ?_⟩
    (try dsimp only [State.admits, State.lodRuns]) <;> decide +kernel
  · try dsimp only
    refine ⟨{ testState run [(AUX_STAT.ZOK, 1), (AUX_STAT.FOK, 1), (AUX_CAL_MEAS.Z, 100), (AUX_CAL_MEAS.F, 60000)] [(AUX_CAL_TGT.ZT, 0), (AUX_CAL_TGT.FT, 59900)] with aux := { AuxSt.reset with zIdx := 31, fIdx := 31 } }, .host, 0, ?_⟩
    (try dsimp only [State.admits, State.lodRuns]) <;> decide +kernel
  · try dsimp only
    refine ⟨testState run [] [(AUX_DIAG_CTRL.ADC_MASK, 3), (AUX_DIAG_CTRL.PATH, 1), (AUX_DIAG_CTRL.INPUT, 15)], .host, 0x100, ?_⟩
    (try dsimp only [State.admits, State.lodRuns]) <;> decide +kernel
  · try dsimp only
    refine ⟨{ testState run [(AUX_STAT.DIAG_BUSY, 1)] [] with aux := { AuxSt.reset with diag := some ⟨3, 4, #v[0, 0], #v[0, 0], #v[0, 0]⟩ } }, .host, 0x100, ?_⟩
    (try dsimp only [State.admits, State.lodRuns]) <;> decide +kernel
  · try dsimp only
    refine ⟨{ testState run [(AUX_STAT.DIAG_BUSY, 1)] [] with aux := { AuxSt.reset with diag := some ⟨3, 5, #v[0, 0], #v[0, 0], #v[0, 9]⟩ } }, ⟨3, 5, #v[0, 0], #v[0, 0], #v[0, 9]⟩, 1, ?_⟩
    (try dsimp only [State.admits, State.lodRuns]) <;> decide +kernel
  · try dsimp only
    refine ⟨testState run [] [], ?_⟩
    (try dsimp only [State.admits, State.lodRuns]) <;> decide +kernel
  · try dsimp only
    refine ⟨testState run [] [(AUX_SPI_CFG.EN 7, 1)], 7, .host, 0, ?_⟩
    (try dsimp only [State.admits, State.lodRuns]) <;> decide +kernel
  · try dsimp only
    refine ⟨testState run [(AUX_SPI_STAT.BUSY 7, 1)] [], 7, ?_⟩
    (try dsimp only [State.admits, State.lodRuns]) <;> decide +kernel

theorem wit_ServoCommandsComplete : 
    (∃ (s : State) (l : Fin 4), let computes (s : State) (l : Fin 4) : Prop := s.live dAUX = true ∧ s.app (SRV_LOOP_CFG.DIV_M1 l) < (s.loop l).results ∧ (s.get (SRV_LOOP_STAT.STATE l) = lMANUAL ∨ s.get (SRV_LOOP_STAT.STATE l) = lAUTO);
    computes s l ∧ (s.loop l).usable ≠ 0)
  ∧ (∃ (s : State) (l : Fin 4), let computes (s : State) (l : Fin 4) : Prop := s.live dAUX = true ∧ s.app (SRV_LOOP_CFG.DIV_M1 l) < (s.loop l).results ∧ (s.get (SRV_LOOP_STAT.STATE l) = lMANUAL ∨ s.get (SRV_LOOP_STAT.STATE l) = lAUTO);
    computes s l ∧ (s.loop l).usable = 0)
  ∧ (∃ (s : State) (l : Fin 4) (src : Source) (v : Word), s.admits srvRules src (SRV_LOOP_CMD.addr l) (v ||| 1) ∧ s.get (SRV_LOOP_STAT.STATE l) = lFAULT)
  ∧ (∃ (s : State) (src : Source) (v : Word), s.admits srvRules src SRV_SS_CMD.addr (v ||| 1) ∧ (v ||| 1).toNat.testBit 1 = false ∧ (v ||| 1).toNat.testBit 2 = false ∧ s.appFlag SRV_SS_CTRL.EN = true ∧ let late := s.appFlag SRV_SS_CTRL.SRC = true ∧ (s.appStamp SRV_SS_TIME.addr).toNat < s.now.toNat;
    ¬ late)
  ∧ (∃ (s : State) (src : Source) (v : Word), s.admits srvRules src SRV_SS_CMD.addr (v ||| 1) ∧ (v ||| 1).toNat.testBit 1 = false ∧ (v ||| 1).toNat.testBit 2 = false ∧ s.appFlag SRV_SS_CTRL.EN = true ∧ let late := s.appFlag SRV_SS_CTRL.SRC = true ∧ (s.appStamp SRV_SS_TIME.addr).toNat < s.now.toNat;
    late)
  ∧ (∃ (s : State) (src : Source) (v : Word), s.admits srvRules src SRV_SS_CMD.addr (v ||| 2) ∧ (v ||| 2).toNat.testBit 0 = false ∧ (v ||| 2).toNat.testBit 2 = false ∧ s.ssState = ssWAIT)
  ∧ (∃ (s : State) (src : Source) (v : Word), s.admits srvRules src SRV_SS_CMD.addr (v ||| 2) ∧ (v ||| 2).toNat.testBit 0 = false ∧ (v ||| 2).toNat.testBit 2 = false ∧ s.ssState ≠ ssWAIT ∧ s.ssState ≠ ssIDLE)
  ∧ (∃ (s : State) (src : Source) (v : Word), s.admits srvRules src SRV_SS_CMD.addr (v ||| 4) ∧ (v ||| 4).toNat.testBit 0 = false ∧ (v ||| 4).toNat.testBit 1 = false ∧ s.ssState ≠ ssIDLE)
  ∧ (∃ (s : State), s.live dAUX = true ∧ s.ssState = ssWAIT)
  ∧ (∃ (s : State), s.live dAUX = true ∧ s.ssState = ssSETTLE ∧ s.srv.span.frames = 0 ∧ s.appFlag SRV_GATE.FORCE = false ∧ (∀ l, l < 4 → s.appFlag (SRV_LOOP_CFG.GATE_EN l) = true → s.flag (SRV_LOOP_STAT.SETTLED l) = true))
  ∧ (∃ (s : State) (late : _), s.live dAUX = true ∧ (s.ssState = (if late then ssSETTLE else ssOPEN)) ∧ late = false)
  ∧ (∃ (s : State) (late : _), s.live dAUX = true ∧ (s.ssState = (if late then ssSETTLE else ssOPEN)) ∧ late = true) := by
  refine ⟨?_, ?_, ?_, ?_, ?_, ?_, ?_, ?_, ?_, ?_, ?_, ?_⟩
  · try dsimp only
    refine ⟨{ testState run [(SRV_LOOP_STAT.STATE 3, lAUTO)] [] with srv := { SrvSt.reset with loop := Vector.replicate 4 { SrvLoop.reset with results := 300, usable := 2, sum := 70000 } } }, 3, ?_⟩
    (try dsimp only [State.admits, State.lodRuns]) <;> decide +kernel
  · try dsimp only
    refine ⟨{ testState run [(SRV_LOOP_STAT.STATE 3, lMANUAL)] [(SRV_LOOP_SLEW.HOLD_MAX 3, 1)] with srv := { SrvSt.reset with loop := Vector.replicate 4 { SrvLoop.reset with results := 300, sum := 0 } } }, 3, ?_⟩
    (try dsimp only [State.admits, State.lodRuns]) <;> decide +kernel
  · try dsimp only
    refine ⟨testState run [(SRV_LOOP_STAT.STATE 3, lFAULT)] [], 3, .host, 0, ?_⟩
    (try dsimp only [State.admits, State.lodRuns]) <;> decide +kernel
  · try dsimp only
    refine ⟨testState run [] [(SRV_SS_CTRL.EN, 1), (SRV_SS_CTRL.FIRST, 15)], .host, 0, ?_⟩
    (try dsimp only [State.admits, State.lodRuns]) <;> decide +kernel
  · try dsimp only
    refine ⟨{ testState run [] [(SRV_SS_CTRL.EN, 1), (SRV_SS_CTRL.SRC, 1)] with alm := { AlmSt.reset with word := 2 ^ 40 } }, .host, 0, ?_⟩
    (try dsimp only [State.admits, State.lodRuns]) <;> decide +kernel
  · try dsimp only
    refine ⟨testState run [(SRV_SS_STAT.STATE, ssWAIT)] [(SRV_SS_CTRL.EN, 1)], .host, 0, ?_⟩
    (try dsimp only [State.admits, State.lodRuns]) <;> decide +kernel
  · try dsimp only
    refine ⟨testState run [(SRV_SS_STAT.STATE, ssOPEN)] [(SRV_SS_CTRL.EN, 1)], .host, 0, ?_⟩
    (try dsimp only [State.admits, State.lodRuns]) <;> decide +kernel
  · try dsimp only
    refine ⟨testState run [(SRV_SS_STAT.STATE, ssSETTLE)] [(SRV_SS_CTRL.EN, 1)], .host, 0, ?_⟩
    (try dsimp only [State.admits, State.lodRuns]) <;> decide +kernel
  · try dsimp only
    refine ⟨testState run [(SRV_SS_STAT.STATE, ssWAIT)] [], ?_⟩
    (try dsimp only [State.admits, State.lodRuns]) <;> decide +kernel
  · try dsimp only
    refine ⟨testState run [(SRV_SS_STAT.STATE, ssSETTLE), (SRV_LOOP_STAT.SETTLED 3, 1)] [(SRV_LOOP_CFG.GATE_EN 3, 1)], ?_⟩
    (try dsimp only [State.admits, State.lodRuns]) <;> decide +kernel
  · try dsimp only
    refine ⟨{ testState run [(SRV_SS_STAT.STATE, ssOPEN), (SRV_SS_STAT.STEP, 15)] [] with srv := { SrvSt.reset with span := { SpanRun.reset with last := 15, sweeps := 1 } } }, false, ?_⟩
    (try dsimp only [State.admits, State.lodRuns]) <;> decide +kernel
  · try dsimp only
    refine ⟨{ testState run [(SRV_SS_STAT.STATE, ssSETTLE)] [] with srv := { SrvSt.reset with span := { SpanRun.reset with onLate := true } } }, true, ?_⟩
    (try dsimp only [State.admits, State.lodRuns]) <;> decide +kernel

theorem wit_ConstellationLinkCommandsComplete : 
    (∃ (s : State) (p : Fin 4) (delay : _), s.alive = true ∧ s.flag (CST_PORT_CTRL.EN p) = true ∧ (s.get (CST_PORT_STAT.STATE p) = 1 ∨ s.get (CST_PORT_STAT.STATE p) = 2) ∧ 2000000 < delay)
  ∧ (∃ (s : State) (p : Fin 4) (delay : _), s.alive = true ∧ s.flag (CST_PORT_CTRL.EN p) = true ∧ (s.get (CST_PORT_STAT.STATE p) = 1 ∨ s.get (CST_PORT_STAT.STATE p) = 2) ∧ delay ≤ 2000000 ∧ p ≠ 0)
  ∧ (∃ (s : State) (p : Fin 4) (delay : _) (q : _) (i : _) (h : _), s.alive = true ∧ s.flag (CST_PORT_CTRL.EN p) = true ∧ (s.get (CST_PORT_STAT.STATE p) = 1 ∨ s.get (CST_PORT_STAT.STATE p) = 2) ∧ delay ≤ 2000000 ∧ p = 0 ∧ s.cstOn = true ∧ s.cstRoot = false ∧ s.flag CST_NODE.VALID = false ∧ s.cstIdFrom q = some (i, h))
  ∧ (∃ (s : State) (p : Fin 4) (delay : _) (q : _), s.alive = true ∧ s.flag (CST_PORT_CTRL.EN p) = true ∧ (s.get (CST_PORT_STAT.STATE p) = 1 ∨ s.get (CST_PORT_STAT.STATE p) = 2) ∧ delay ≤ 2000000 ∧ p = 0 ∧ s.cstOn = true ∧ s.cstRoot = false ∧ s.flag CST_NODE.VALID = false ∧ s.cstIdFrom q = none)
  ∧ (∃ (s : State) (p : Fin 4), s.alive = true ∧ (s.get (CST_PORT_STAT.STATE p) = 2 ∨ s.get (CST_PORT_STAT.STATE p) = 3))
  ∧ (∃ (s : State), s.cstValid = true ∧ s.ring = true ∧ s.cst.ringBroken = none)
  ∧ (∃ (s : State), s.cstValid = true ∧ s.cstRoot = true)
  ∧ (∃ (s : State) (p : Fin 4), s.alive = true ∧ s.portUp p = true)
  ∧ (∃ (s : State) (p : Fin 4), s.cstValid = true ∧ s.childPorts.contains p.val = true)
  ∧ (∃ (s : State) (p : Fin 4), s.cstValid = true ∧ s.parentPort = some p.val ∧ s.portUp p = true) := by
  refine ⟨?_, ?_, ?_, ?_, ?_, ?_, ?_, ?_, ?_, ?_⟩
  · try dsimp only
    refine ⟨testState run [(CST_PORT_STAT.STATE 3, 1), (CST_PORT_CTRL.EN 3, 1)] [], 3, 2000001, ?_⟩
    (try dsimp only [State.admits, State.lodRuns]) <;> decide +kernel
  · try dsimp only
    refine ⟨testState run [(CST_PORT_STAT.STATE 3, 2), (CST_PORT_CTRL.EN 3, 1)] [], 3, 2000000, ?_⟩
    (try dsimp only [State.admits, State.lodRuns]) <;> decide +kernel
  · try dsimp only
    refine ⟨testState run [(CST_PORT_STAT.STATE 0, 1), (CST_PORT_CTRL.EN 0, 1)] [(CST_CTRL.EN, 1)], 0, 2000000, (0, 1, 0), 1, 1, ?_⟩
    (try dsimp only [State.admits, State.lodRuns]) <;> decide +kernel
  · try dsimp only
    refine ⟨testState run [(CST_PORT_STAT.STATE 0, 1), (CST_PORT_CTRL.EN 0, 1)] [(CST_CTRL.EN, 1), (CST_CTRL.MAXD, 1)], 0, 0, (0, 1, 1), ?_⟩
    (try dsimp only [State.admits, State.lodRuns]) <;> decide +kernel
  · try dsimp only
    refine ⟨testState run [(CST_PORT_STAT.STATE 3, 3)] [], 3, ?_⟩
    (try dsimp only [State.admits, State.lodRuns]) <;> decide +kernel
  · try dsimp only
    refine ⟨testState run [(CST_NODE.VALID, 1)] [(CST_CTRL.EN, 1), (CST_CTRL.TOPO, 1), (CST_CTRL.RING_N_M1, 3)], ?_⟩
    (try dsimp only [State.admits, State.lodRuns]) <;> decide +kernel
  · try dsimp only
    refine ⟨testState run [(CST_NODE.VALID, 1)] [(CST_CTRL.EN, 1), (CST_CTRL.ROLE, 1)], ?_⟩
    (try dsimp only [State.admits, State.lodRuns]) <;> decide +kernel
  · try dsimp only
    refine ⟨testState run [(CST_PORT_STAT.STATE 3, 3)] [], 3, ?_⟩
    (try dsimp only [State.admits, State.lodRuns]) <;> decide +kernel
  · try dsimp only
    refine ⟨testState run [(CST_NODE.VALID, 1), (CST_PORT_STAT.STATE 3, 3)] [(CST_CTRL.EN, 1)], 3, ?_⟩
    (try dsimp only [State.admits, State.lodRuns]) <;> decide +kernel
  · try dsimp only
    refine ⟨testState run [(CST_NODE.VALID, 1), (CST_PORT_STAT.STATE 0, 3)] [(CST_CTRL.EN, 1)], 0, ?_⟩
    (try dsimp only [State.admits, State.lodRuns]) <;> decide +kernel

theorem wit_ConstellationOperationCommandsComplete : 
    (∃ (s : State), s.cstValid = true)
  ∧ (∃ (s : State) (p : Fin 4), s.cstValid = true ∧ s.childPorts.contains p.val = true)
  ∧ (∃ (s : State), s.cstValid = true ∧ s.cstRoot = false)
  ∧ (∃ (s : State), s.cstValid = true ∧ s.cstRoot = true ∧ s.cst.barLost = true)
  ∧ (∃ (s : State), s.cstValid = true ∧ s.cstRoot = true ∧ s.cst.barLost = false ∧ s.barComplete = true)
  ∧ (∃ (s : State) (req : _) (t0 : Stamp) (no : _) (late : _), s.cstValid = true ∧ ((if s.cstRoot then s.cst.snap else req) = some (t0, no, late)) ∧ t0.toNat ≤ s.now.toNat)
  ∧ (∃ (s : State), s.cstValid = true ∧ s.cstRoot = false ∧ s.opRuns opApply = false ∧ s.get SYS_UPDATE_STAT.STATE ≠ 0)
  ∧ (∃ (s : State), s.cstValid = true ∧ s.cstRoot = false ∧ s.opRuns opApply = false ∧ s.get SYS_UPDATE_STAT.STATE = 0)
  ∧ (∃ (s : State) (x : _) (p : Fin 4), s.cst.apply = some x ∧ s.cstValid = true ∧ s.childPorts.contains p.val = true ∧ x.decided = false ∧ (s.cstRoot = false ∨ x.own = none))
  ∧ (∃ (s : State) (x : _) (p : Fin 4) (node : BitVec 14) (code : BitVec 8), s.cst.apply = some x ∧ s.cstValid = true ∧ s.childPorts.contains p.val = true ∧ x.decided = false ∧ let l := (p.val, node.toNat, code.toNat) :: x.from_.filter (fun y => y.1 != p.val);
    s.cstRoot = true ∧ x.own = some 0 ∧ (∀ q ∈ s.childPorts, ∃ y ∈ l, y.1 = q) ∧ (∀ y ∈ l, y.2.2 = 0))
  ∧ (∃ (s : State) (x : _) (t0 : Stamp), s.cst.apply = some x ∧ s.cstOn = true ∧ s.cstRoot = false ∧ x.commit = none ∧ s.now.toNat < t0.toNat)
  ∧ (∃ (s : State) (x : _) (t0 : Stamp), s.cst.apply = some x ∧ s.cstOn = true ∧ s.cstRoot = false ∧ x.commit = none ∧ t0.toNat ≤ s.now.toNat)
  ∧ (∃ (s : State) (x : _), s.cst.apply = some x ∧ s.cstOn = true ∧ s.cstRoot = false ∧ s.opRuns opApply = true)
  ∧ (∃ (s : State) (x : _) (t0 : Stamp), s.cst.apply = some x ∧ s.cstOn = true ∧ x.commit = some t0 ∧ t0.toNat ≤ s.now.toNat)
  ∧ (∃ (s : State) (src : Source) (v : Word), let starts (s : State) src (w : Word) (k : Nat) : Prop := s.admits cstRules src CST_OP_CMD.addr w ∧ opsAsked w = [k] ∧ w.toNat.testBit 6 = false ∧ s.cstValid = true ∧ s.flag CST_STAT.SIZE_MISMATCH = false;
    starts s src (v ||| 4) opBcast)
  ∧ (∃ (s : State) (src : Source) (v : Word), let starts (s : State) src (w : Word) (k : Nat) : Prop := s.admits cstRules src CST_OP_CMD.addr w ∧ opsAsked w = [k] ∧ w.toNat.testBit 6 = false ∧ s.cstValid = true ∧ s.flag CST_STAT.SIZE_MISMATCH = false;
    starts s src (v ||| 2) opBarrier)
  ∧ (∃ (s : State) (src : Source) (v : Word), let starts (s : State) src (w : Word) (k : Nat) : Prop := s.admits cstRules src CST_OP_CMD.addr w ∧ opsAsked w = [k] ∧ w.toNat.testBit 6 = false ∧ s.cstValid = true ∧ s.flag CST_STAT.SIZE_MISMATCH = false;
    starts s src (v ||| 8) opSnap)
  ∧ (∃ (s : State) (src : Source) (v : Word), let starts (s : State) src (w : Word) (k : Nat) : Prop := s.admits cstRules src CST_OP_CMD.addr w ∧ opsAsked w = [k] ∧ w.toNat.testBit 6 = false ∧ s.cstValid = true ∧ s.flag CST_STAT.SIZE_MISMATCH = false;
    starts s src (v ||| 16) opApply)
  ∧ (∃ (s : State) (src : Source) (v : Word), let starts (s : State) src (w : Word) (k : Nat) : Prop := s.admits cstRules src CST_OP_CMD.addr w ∧ opsAsked w = [k] ∧ w.toNat.testBit 6 = false ∧ s.cstValid = true ∧ s.flag CST_STAT.SIZE_MISMATCH = false;
    starts s src (v ||| 32) opReset)
  ∧ (∃ (s : State) (src : Source) (v : Word), s.admits cstRules src CST_OP_CMD.addr (v ||| 64) ∧ opsAsked (v ||| 64) = [] ∧ s.cst.rx ≠ [])
  ∧ (∃ (s : State) (k : Fin 5), s.cstOn = true ∧ k.val ≠ opBarrier ∧ s.opRuns k = true) := by
  refine ⟨?_, ?_, ?_, ?_, ?_, ?_, ?_, ?_, ?_, ?_, ?_, ?_, ?_, ?_, ?_, ?_, ?_, ?_, ?_, ?_, ?_⟩
  · try dsimp only
    refine ⟨testState run [(CST_NODE.VALID, 1)] [(CST_CTRL.EN, 1)], ?_⟩
    (try dsimp only [State.admits, State.lodRuns]) <;> decide +kernel
  · try dsimp only
    refine ⟨testState run [(CST_NODE.VALID, 1), (CST_PORT_STAT.STATE 3, 3)] [(CST_CTRL.EN, 1)], 3, ?_⟩
    (try dsimp only [State.admits, State.lodRuns]) <;> decide +kernel
  · try dsimp only
    refine ⟨testState run [(CST_NODE.VALID, 1)] [(CST_CTRL.EN, 1)], ?_⟩
    (try dsimp only [State.admits, State.lodRuns]) <;> decide +kernel
  · try dsimp only
    refine ⟨{ testState run [(CST_NODE.VALID, 1)] [(CST_CTRL.EN, 1), (CST_CTRL.ROLE, 1)] with cst := { CstSt.reset with barLost := true } }, ?_⟩
    (try dsimp only [State.admits, State.lodRuns]) <;> decide +kernel
  · try dsimp only
    refine ⟨{ testState run [(CST_NODE.VALID, 1), (CST_PORT_STAT.STATE 3, 3)] [(CST_CTRL.EN, 1), (CST_CTRL.ROLE, 1)] with cst := { CstSt.reset with arrived := true, childArrived := [3] } }, ?_⟩
    (try dsimp only [State.admits, State.lodRuns]) <;> decide +kernel
  · try dsimp only
    refine ⟨testState run [(CST_NODE.VALID, 1)] [(CST_CTRL.EN, 1)], some (0, 1, false), 0, 1, false, ?_⟩
    (try dsimp only [State.admits, State.lodRuns]) <;> decide +kernel
  · try dsimp only
    refine ⟨testState run [(CST_NODE.VALID, 1), (SYS_UPDATE_STAT.STATE, 1)] [(CST_CTRL.EN, 1)], ?_⟩
    (try dsimp only [State.admits, State.lodRuns]) <;> decide +kernel
  · try dsimp only
    refine ⟨testState run [(CST_NODE.VALID, 1)] [(CST_CTRL.EN, 1)], ?_⟩
    (try dsimp only [State.admits, State.lodRuns]) <;> decide +kernel
  · try dsimp only
    refine ⟨{ testState run [(CST_NODE.VALID, 1), (CST_PORT_STAT.STATE 3, 3)] [(CST_CTRL.EN, 1)] with cst := { CstSt.reset with apply := some ⟨0, some 0, [], false, none⟩ } }, ⟨0, some 0, [], false, none⟩, 3, ?_⟩
    (try dsimp only [State.admits, State.lodRuns]) <;> decide +kernel
  · try dsimp only
    refine ⟨{ testState run [(CST_NODE.VALID, 1), (CST_PORT_STAT.STATE 2, 3), (CST_PORT_STAT.STATE 3, 3)] [(CST_CTRL.EN, 1), (CST_CTRL.ROLE, 1)] with cst := { CstSt.reset with apply := some ⟨0, some 0, [(2, 7, 0)], false, none⟩ } }, ⟨0, some 0, [(2, 7, 0)], false, none⟩, 3, (16383 : BitVec 14), (0 : BitVec 8), ?_⟩
    (try dsimp only [State.admits, State.lodRuns]) <;> decide +kernel
  · try dsimp only
    refine ⟨{ testState run [(CST_NODE.VALID, 1)] [(CST_CTRL.EN, 1)] with cst := { CstSt.reset with apply := some ⟨0, some 0, [], true, none⟩ } }, ⟨0, some 0, [], true, none⟩, 1, ?_⟩
    (try dsimp only [State.admits, State.lodRuns]) <;> decide +kernel
  · try dsimp only
    refine ⟨{ testState run [(CST_NODE.VALID, 1)] [(CST_CTRL.EN, 1)] with cst := { CstSt.reset with apply := some ⟨0, some 0, [], true, none⟩ } }, ⟨0, some 0, [], true, none⟩, 0, ?_⟩
    (try dsimp only [State.admits, State.lodRuns]) <;> decide +kernel
  · try dsimp only
    refine ⟨{ testState run [(CST_NODE.VALID, 1), (CST_OP_STAT.BUSY 3, 1)] [(CST_CTRL.EN, 1)] with cst := { CstSt.reset with apply := some ⟨0, some 0, [], true, none⟩ } }, ⟨0, some 0, [], true, none⟩, ?_⟩
    (try dsimp only [State.admits, State.lodRuns]) <;> decide +kernel
  · try dsimp only
    refine ⟨{ testState run [(CST_NODE.VALID, 1)] [(CST_CTRL.EN, 1)] with cst := { CstSt.reset with apply := some ⟨0, some 0, [], true, some 0⟩ } }, ⟨0, some 0, [], true, some 0⟩, 0, ?_⟩
    (try dsimp only [State.admits, State.lodRuns]) <;> decide +kernel
  · try dsimp only
    refine ⟨testState run [(CST_NODE.VALID, 1)] [(CST_CTRL.EN, 1)], .host, 0, ?_⟩
    (try dsimp only [State.admits, State.lodRuns]) <;> decide +kernel
  · try dsimp only
    refine ⟨testState run [(CST_NODE.VALID, 1)] [(CST_CTRL.EN, 1)], .host, 0, ?_⟩
    (try dsimp only [State.admits, State.lodRuns]) <;> decide +kernel
  · try dsimp only
    refine ⟨testState run [(CST_NODE.VALID, 1)] [(CST_CTRL.EN, 1), (CST_CTRL.ROLE, 1)], .host, 0, ?_⟩
    (try dsimp only [State.admits, State.lodRuns]) <;> decide +kernel
  · try dsimp only
    refine ⟨testState run [(CST_NODE.VALID, 1)] [(CST_CTRL.EN, 1), (CST_CTRL.ROLE, 1)], .host, 0, ?_⟩
    (try dsimp only [State.admits, State.lodRuns]) <;> decide +kernel
  · try dsimp only
    refine ⟨testState run [(CST_NODE.VALID, 1)] [(CST_CTRL.EN, 1), (CST_CTRL.ROLE, 1)], .host, 0, ?_⟩
    (try dsimp only [State.admits, State.lodRuns]) <;> decide +kernel
  · try dsimp only
    refine ⟨{ testState run [(CST_NODE.VALID, 1)] [(CST_CTRL.EN, 1)] with cst := { CstSt.reset with rx := [(1, [])] } }, .host, 0, ?_⟩
    (try dsimp only [State.admits, State.lodRuns]) <;> decide +kernel
  · try dsimp only
    refine ⟨testState run [(CST_OP_STAT.BUSY 4, 1)] [(CST_CTRL.EN, 1)], 4, ?_⟩
    (try dsimp only [State.admits, State.lodRuns]) <;> decide +kernel

theorem wit_RegisterAccessCommandsComplete :
    let lands (s : State) (src : Source) (addr : Nat) (v : Word) (y : State) : Prop :=
      let a := normalAddr addr
      let w := aliasWord (viewOf addr) (fieldsAt a) (s.word a) v
      s.dev ≠ powerOff ∧ s.accessErr src addr 4 true = none ∧ (hasGroup (blockOfWindow (a / 0x10000)) && s.cstLocks (blockOfWindow (a / 0x10000))) = false
      ∧ (rulesAt addr).pre s src a w = none ∧ s.updateBusy a = none ∧ setsReserved (fieldsAt a) v = false ∧ valueErr (fieldsAt a) w = none
      ∧ (rulesAt addr).act src a w (s.landed a w) = .ok y
    let plain (s : State) (addr : Nat) (v : Word) (y : State) : Prop :=
      y = s.landed (normalAddr addr) (aliasWord (viewOf addr) (fieldsAt (normalAddr addr)) (s.word (normalAddr addr)) v)
    (∃ (s : State) (src : Source) (a : Nat) (v : Word) (y : State), plain s a v y ∧ viewOf a = .normal ∧ lands s src a v y)
    ∧ (∃ (s : State) (src : Source) (a : Nat) (v : Word) (y : State), plain s (viewAddr a 1) v y ∧ lands s src (viewAddr a 1) v y)
    ∧ (∃ (s : State) (src : Source) (a : Nat) (v : Word) (y : State), plain s (viewAddr a 2) v y ∧ lands s src (viewAddr a 2) v y)
    ∧ (∃ (s : State) (src : Source) (a : Nat) (v : Word) (y : State), plain s (viewAddr a 3) v y ∧ lands s src (viewAddr a 3) v y)
    ∧ (∃ (s : State) (src : Source) (w : Nat) (v : Word) (y : State), plain s (w * 0x10000 + 0x3FF0) v y ∧ lands s src (w * 0x10000 + 0x3FF0) v y)
    ∧ (∃ (s : State) (src : Source) (a : Nat), isLatched a = true ∧ s.dev ≠ powerOff ∧ viewOf a = .normal ∧ s.accessErr src a 4 false = none)
    ∧ (∃ (s : State) (src : Source) (a : Nat), (fieldsAt a).any (fun f => f.acc == .rc) = true ∧ latchesAt a = [] ∧ s.dev ≠ powerOff
      ∧ viewOf a = .normal ∧ s.accessErr src a 4 false = none) := by
  refine ⟨⟨testState run [] [], .host, AUX_CAL_TGT.addr, 0xFFFFFFFF, _, rfl, ?_, ?_, ?_, ?_, ?_, ?_, ?_, ?_, rfl⟩,
    ⟨testState run [] [], .host, AUX_CAL_TGT.addr, 0xFFFFFFFF, _, rfl, ?_, ?_, ?_, ?_, ?_, ?_, ?_, rfl⟩,
    ⟨testState run [] [], .host, AUX_CAL_TGT.addr, 0xFFFFFFFF, _, rfl, ?_, ?_, ?_, ?_, ?_, ?_, ?_, rfl⟩,
    ⟨testState run [] [], .host, AUX_CAL_TGT.addr, 0xFFFFFFFF, _, rfl, ?_, ?_, ?_, ?_, ?_, ?_, ?_, rfl⟩,
    ⟨testState run [] [], .host, 0x17, 31, _, rfl, ?_, ?_, ?_, ?_, ?_, ?_, ?_, rfl⟩,
    ⟨testState run [] [], .host, AUX_INJ_TS_A.addr + 4, ?_⟩, ⟨testState run [] [], .host, 0x5C, ?_⟩⟩ <;> decide +kernel

theorem slot_room : 65536 ≤ slotSize := by
  have h : ∀ n : Nat, 0x2000000 ≤ n → 65536 ≤ slotSizeOf n := fun n hn => by
    have e : 1 ≤ (n - 131072) / 2 / 65536 := by
      rw [Nat.le_div_iff_mul_le (by decide), Nat.le_div_iff_mul_le (by decide)]
      exact Nat.le_sub_of_add_le (Nat.le_trans (by decide) hn)
    exact Nat.le_mul_of_pos_left 65536 e
  exact h _ (Nat.le_add_right 0x2000000 Config.flashOver.val)

theorem find_append {α : Type} (m n : SMap α) (k : Nat) : SMap.find (m ++ n) k = (SMap.find m k).or (SMap.find n k) := by
  induction m with
  | nil => rfl
  | cons x m ih =>
    obtain ⟨a, v⟩ := x
    simp only [List.cons_append, SMap.find, ih]
    split <;> rfl

theorem test_image_bytes (d c : Nat) (b : BootSt) (u : UpdSt) : (testFlash d c b u).flashBytes 0x20000 4092 = (testFlash load 0 BootSt.reset UpdSt.reset).flashBytes 0x20000 4092 := by
  refine List.map_congr_left fun i hi => ?_
  have h : i < 4092 := List.mem_range.1 hi
  simp only [State.flashByte, testFlash, SMap.get, testImage, find_append]
  congr 2
  simp only [List.range_succ_eq_map, List.range_zero, List.map_nil, List.map_cons, SMap.find]
  repeat rw [if_neg (by omega)]

theorem test_image_hcrc (d : Nat) (b : BootSt) (u : UpdSt) : (testFlash d testHcrc b u).hcrcGood 0x20000 = true := by
  have h : ∀ c, c < 2 ^ 32 → (testFlash d c b u).flashLE 0x20FFC 4 = c := fun c hc => by
    have e : (testFlash d c b u).flashLE 0x20FFC 4 = (BitVec.ofNat 8 (c / 256 ^ 0)).toNat + 256 * ((BitVec.ofNat 8 (c / 256 ^ 1)).toNat
      + 256 * ((BitVec.ofNat 8 (c / 256 ^ 2)).toNat + 256 * ((BitVec.ofNat 8 (c / 256 ^ 3)).toNat + 256 * 0))) := rfl
    rw [e]
    simp only [BitVec.toNat_ofNat]
    omega
  unfold State.hcrcGood
  rw [test_image_bytes, h testHcrc (BitVec.isLt _)]
  simp only [testHcrc, beq_self_eq_true]

theorem test_image_sections (d : Nat) (b : BootSt) (u : UpdSt) : (testFlash d testHcrc b u).sectionsGood 0x20000 = true := by
  have n : (testFlash load testHcrc BootSt.reset UpdSt.reset).imgLen 0x20000 = 4224 := by decide +kernel
  have l : (testFlash load testHcrc BootSt.reset UpdSt.reset).sections 0x20000 = [⟨1, 4096, 0, 0⟩, ⟨3, 4096, 0, 0⟩] := by decide +kernel
  have k : (testFlash load testHcrc BootSt.reset UpdSt.reset).imgNsec 0x20000 = 2 := by decide +kernel
  have m : 4224 ≤ slotSize := Nat.le_trans (by decide) slot_room
  have e : ∀ a, (crc32c ((testFlash load testHcrc BootSt.reset UpdSt.reset).flashBytes a 0)).toNat = 0 := fun a => by
    rw [show (testFlash load testHcrc BootSt.reset UpdSt.reset).flashBytes a 0 = [] from rfl]
    decide
  change (testFlash load testHcrc BootSt.reset UpdSt.reset).sectionsGood 0x20000 = true
  simp only [State.sectionsGood, n, l, k, decide_eq_true m, List.all_cons, List.all_nil, e]
  decide

theorem test_image_verdict (d : Nat) (b : BootSt) (u : UpdSt) : (testFlash d testHcrc b u).imageVerdict 0x20000 0 true = 0 := by
  have m : (testFlash d testHcrc b u).flashLE 0x20000 4 = 0x39584851 := by
    change readLE (SMap.get flashDefault (testImage testHcrc)) 0x20000 4 = _
    decide +kernel
  have p : (testFlash d testHcrc b u).flashLE 0x20004 2 = 0x9160 := by
    change readLE (SMap.get flashDefault (testImage testHcrc)) 0x20004 2 = _
    decide +kernel
  have r : (testFlash d testHcrc b u).flashLE 0x20006 2 = 0 := by
    change readLE (SMap.get flashDefault (testImage testHcrc)) 0x20006 2 = _
    decide +kernel
  have f : (testFlash d testHcrc b u).flashLE 0x20014 1 = 0 := by
    change readLE (SMap.get flashDefault (testImage testHcrc)) 0x20014 1 = _
    decide +kernel
  have g : (testFlash d testHcrc b u).flashLE 0x20015 1 = 0 := by
    change readLE (SMap.get flashDefault (testImage testHcrc)) 0x20015 1 = _
    decide +kernel
  unfold State.imageVerdict
  rw [m, p, r, f, g, test_image_hcrc, test_image_sections]
  simp

theorem block_fits (s : State) (t id : Nat) (h : BlkHead) (a : (! h.good || h.magic != 0x55444B42 || h.session != id) = false)
    (b : (decide (3 < h.op) || h.resv != 0) = false)
    (c : (h.index != s.get UPD_NEXT.NEXT || h.dst != s.get UPD_NEXT_DST.DST || (h.op == 3 && h.src != h.dst)) = false)
    (d : h.dst + h.len ≤ 65536) (e : decide (20 ≤ h.payload.length) = false) (f : h.lenOk = true)
    (g : (h.op == 1 && (t != 0 || decide ((s.slot s.inService).len < h.src + h.len))) = false) : s.blockErr' t id h = none := by
  have n : ¬ slotSize < h.dst + h.len := Nat.not_lt.2 (Nat.le_trans d slot_room)
  simp only [State.blockErr', a, b, c, e, f, g, n]
  simp

theorem wit_BootCommandsComplete : 
    (∃ (s : State) (i : _), s.dev = Machine.boot ∧ s.boot.step = .reading i)
  ∧ (∃ (s : State) (i : _) (l : _), s.dev = Machine.boot ∧ s.boot.step = .rom ∧ let y := match s.dirCopy with | some c => (s.dirLoad c).trialRejected | none => s;
    y.candidates = i :: l)
  ∧ (∃ (s : State), s.dev = Machine.boot ∧ s.boot.step = .rom ∧ let y := match s.dirCopy with | some c => (s.dirLoad c).trialRejected | none => s;
    y.candidates = [])
  ∧ (∃ (s : State) (i : _) (fmt : BitVec 8) (ok : Bool), s.dev = Machine.boot ∧ s.boot.step = .checking i ∧ let code := s.imageVerdict (slotBase i) fmt.toNat ok;
    code = 0)
  ∧ (∃ (s : State) (i : _) (fmt : BitVec 8) (ok : Bool), s.dev = Machine.boot ∧ s.boot.step = .checking i ∧ let code := s.imageVerdict (slotBase i) fmt.toNat ok;
    code ≠ 0)
  ∧ (∃ (s : State) (i : _), s.dev = Machine.boot ∧ s.boot.step = .verified i)
  ∧ (∃ (s : State), s.alive = true ∧ s.get UPD_STAT.STBY = yLOADING)
  ∧ (∃ (s : State), s.dev = load ∧ s.boot.byImage = true ∧ s.boot.hostDone = false) := by
  refine ⟨?_, ?_, ?_, ?_, ?_, ?_, ?_, ?_⟩
  · try dsimp only
    refine ⟨{ testState Machine.boot [] [] with boot := { BootSt.reset with step := .reading 1 }, upd := UpdSt.reset }, 1, ?_⟩
    (try dsimp only [State.admits, State.lodRuns]) <;> decide +kernel
  · try dsimp only
    refine ⟨{ testState Machine.boot [] [] with boot := { BootSt.reset with step := .rom }, upd := { UpdSt.reset with slot0 := { DirSlot.reset with state := kCONFIRMED }, slot1 := { DirSlot.reset with state := kNEXT } } }, 1, [0], ?_⟩
    (try dsimp only [State.admits, State.lodRuns]) <;> decide +kernel
  · try dsimp only
    refine ⟨{ testState Machine.boot [] [] with boot := { BootSt.reset with step := .rom }, upd := UpdSt.reset }, ?_⟩
    (try dsimp only [State.admits, State.lodRuns]) <;> decide +kernel
  · try dsimp only
    exact ⟨testFlash Machine.boot testHcrc { BootSt.reset with step := .checking 0 } UpdSt.reset, 0, 0, true, by decide +kernel, rfl, test_image_verdict _ _ _⟩
  · try dsimp only
    refine ⟨{ testState Machine.boot [] [] with boot := { BootSt.reset with step := .checking 0, rest := [1] }, upd := UpdSt.reset }, 0, (255 : BitVec 8), true, ?_⟩
    (try dsimp only [State.admits, State.lodRuns]) <;> decide +kernel
  · try dsimp only
    refine ⟨{ testState Machine.boot [] [] with boot := { BootSt.reset with step := .verified 1 }, upd := UpdSt.reset }, 1, ?_⟩
    (try dsimp only [State.admits, State.lodRuns]) <;> decide +kernel
  · try dsimp only
    refine ⟨testState run [(UPD_STAT.STBY, yLOADING)] [], ?_⟩
    (try dsimp only [State.admits, State.lodRuns]) <;> decide +kernel
  · try dsimp only
    refine ⟨{ testState load [] [] with boot := { BootSt.reset with step := .done, byImage := true }, upd := UpdSt.reset }, ?_⟩
    (try dsimp only [State.admits, State.lodRuns]) <;> decide +kernel

theorem wit_RecordCommandsComplete : 
    (∃ (s : State) (r : _), let next (s : State) (r : RecordRun) : Prop := s.boot.run = some r ∧ r.waiting = false ∧ s.dev = load;
    next s r ∧ (s.recHead r).type = 1 ∧ let x := (List.range ((s.recHead r).len / 4)).foldl (fun (x : State × Nat) k => State.cfgWrite x ((s.recHead r).arg + 4 * k) (s.recWord r k)) (s, 0);
    x.2 = 0)
  ∧ (∃ (s : State) (r : _), let next (s : State) (r : RecordRun) : Prop := s.boot.run = some r ∧ r.waiting = false ∧ s.dev = load;
    next s r ∧ (s.recHead r).type = 1 ∧ let x := (List.range ((s.recHead r).len / 4)).foldl (fun (x : State × Nat) k => State.cfgWrite x ((s.recHead r).arg + 4 * k) (s.recWord r k)) (s, 0);
    x.2 ≠ 0)
  ∧ (∃ (s : State) (r : _), let next (s : State) (r : RecordRun) : Prop := s.boot.run = some r ∧ r.waiting = false ∧ s.dev = load;
    next s r ∧ (s.recHead r).type = 2 ∧ let t0 := s.busRead s.activeSrc (s.recHead r).arg 4;
    t0.respCode ≠ 0)
  ∧ (∃ (s : State) (r : _), let next (s : State) (r : RecordRun) : Prop := s.boot.run = some r ∧ r.waiting = false ∧ s.dev = load;
    let write (s : State) (a : Nat) (v : Word) : State := s.writeWord s.activeSrc a v;
    next s r ∧ (s.recHead r).type = 2 ∧ let t0 := s.busRead s.activeSrc (s.recHead r).arg 4;
    let m := s.recWord r 1;
    let y := write t0 (s.recHead r).arg ((BitVec.ofNat 32 t0.respData &&& ~~~ m) ||| (s.recWord r 0 &&& m));
    t0.respCode = 0 ∧ y.respCode = 0)
  ∧ (∃ (s : State) (r : _), let next (s : State) (r : RecordRun) : Prop := s.boot.run = some r ∧ r.waiting = false ∧ s.dev = load;
    let write (s : State) (a : Nat) (v : Word) : State := s.writeWord s.activeSrc a v;
    next s r ∧ (s.recHead r).type = 2 ∧ let t0 := s.busRead s.activeSrc (s.recHead r).arg 4;
    let m := s.recWord r 1;
    let y := write t0 (s.recHead r).arg ((BitVec.ofNat 32 t0.respData &&& ~~~ m) ||| (s.recWord r 0 &&& m));
    t0.respCode = 0 ∧ y.respCode ≠ 0)
  ∧ (∃ (s : State) (r : _), let next (s : State) (r : RecordRun) : Prop := s.boot.run = some r ∧ r.waiting = false ∧ s.dev = load;
    next s r ∧ (s.recHead r).type = 3 ∧ (∀ i, i < (s.recHead r).len → s.bar2Err ((s.recHead r).arg + i) true = none))
  ∧ (∃ (s : State) (r : _) (e : _), let next (s : State) (r : RecordRun) : Prop := s.boot.run = some r ∧ r.waiting = false ∧ s.dev = load;
    next s r ∧ (s.recHead r).type = 3 ∧ ((List.range (s.recHead r).len).findSome? (fun i => s.bar2Err ((s.recHead r).arg + i) true) = some e))
  ∧ (∃ (s : State) (r : _), let next (s : State) (r : RecordRun) : Prop := s.boot.run = some r ∧ r.waiting = false ∧ s.dev = load;
    next s r ∧ (s.recHead r).type = 4 ∧ let ds := (bitsIn 32 (s.recHead r).arg).filter (fun d => decide (24 ≤ d) || s.dom d != 2);
    let x := ds.foldl (fun (x : State × Nat) d => State.cfgWrite x (PWR_DOM_CMD.addr 0 + 8 * d) 1) (s, 0);
    x.2 = 0)
  ∧ (∃ (s : State) (r : _), let next (s : State) (r : RecordRun) : Prop := s.boot.run = some r ∧ r.waiting = false ∧ s.dev = load;
    next s r ∧ (s.recHead r).type = 4 ∧ let ds := (bitsIn 32 (s.recHead r).arg).filter (fun d => decide (24 ≤ d) || s.dom d != 2);
    let x := ds.foldl (fun (x : State × Nat) d => State.cfgWrite x (PWR_DOM_CMD.addr 0 + 8 * d) 1) (s, 0);
    x.2 ≠ 0)
  ∧ (∃ (s : State) (r : _), let next (s : State) (r : RecordRun) : Prop := s.boot.run = some r ∧ r.waiting = false ∧ s.dev = load;
    next s r ∧ (s.recHead r).type = 5 ∧ let c := (s.recHead r).arg;
    waitCode c = true ∧ s.waitHolds c = false)
  ∧ (∃ (s : State) (r : _), let next (s : State) (r : RecordRun) : Prop := s.boot.run = some r ∧ r.waiting = false ∧ s.dev = load;
    next s r ∧ (s.recHead r).type = 5 ∧ let c := (s.recHead r).arg;
    waitCode c = true ∧ s.waitHolds c = true)
  ∧ (∃ (s : State) (r : _), let next (s : State) (r : RecordRun) : Prop := s.boot.run = some r ∧ r.waiting = false ∧ s.dev = load;
    next s r ∧ (s.recHead r).type = 5 ∧ let c := (s.recHead r).arg;
    waitCode c = false)
  ∧ (∃ (s : State) (r : _), s.boot.run = some r ∧ r.waiting = true ∧ s.dev = load ∧ (s.recHead r).type = 5 ∧ s.waitHolds (s.recHead r).arg = false ∧ (s.recHead r).arg = 0)
  ∧ (∃ (s : State) (r : _), s.boot.run = some r ∧ r.waiting = true ∧ s.dev = load ∧ (s.recHead r).type = 5 ∧ s.waitHolds (s.recHead r).arg = false ∧ (s.recHead r).arg ≠ 0)
  ∧ (∃ (s : State) (r : _), let next (s : State) (r : RecordRun) : Prop := s.boot.run = some r ∧ r.waiting = false ∧ s.dev = load;
    let write (s : State) (a : Nat) (v : Word) : State := s.writeWord s.activeSrc a v;
    next s r ∧ (s.recHead r).type = 6 ∧ let y := write s SYS_UPDATE.addr (BitVec.ofNat 32 (s.recHead r).arg);
    y.respCode = 0)
  ∧ (∃ (s : State) (r : _), let next (s : State) (r : RecordRun) : Prop := s.boot.run = some r ∧ r.waiting = false ∧ s.dev = load;
    let write (s : State) (a : Nat) (v : Word) : State := s.writeWord s.activeSrc a v;
    next s r ∧ (s.recHead r).type = 6 ∧ let y := write s SYS_UPDATE.addr (BitVec.ofNat 32 (s.recHead r).arg);
    y.respCode ≠ 0)
  ∧ (∃ (s : State) (r : _), let next (s : State) (r : RecordRun) : Prop := s.boot.run = some r ∧ r.waiting = false ∧ s.dev = load;
    let write (s : State) (a : Nat) (v : Word) : State := s.writeWord s.activeSrc a v;
    next s r ∧ (s.recHead r).type = 7 ∧ let y := write s SYS_CFGCRC_REF.addr (BitVec.ofNat 32 (s.recHead r).arg);
    y.respCode = 0)
  ∧ (∃ (s : State) (r : _), let next (s : State) (r : RecordRun) : Prop := s.boot.run = some r ∧ r.waiting = false ∧ s.dev = load;
    let write (s : State) (a : Nat) (v : Word) : State := s.writeWord s.activeSrc a v;
    next s r ∧ (s.recHead r).type = 7 ∧ let y := write s SYS_CFGCRC_REF.addr (BitVec.ofNat 32 (s.recHead r).arg);
    y.respCode ≠ 0)
  ∧ (∃ (s : State) (r : _), let next (s : State) (r : RecordRun) : Prop := s.boot.run = some r ∧ r.waiting = false ∧ s.dev = load;
    next s r ∧ (s.recHead r).type = 15 ∧ s.admitRunning.1 = none)
  ∧ (∃ (s : State) (r : _) (e : _), let next (s : State) (r : RecordRun) : Prop := s.boot.run = some r ∧ r.waiting = false ∧ s.dev = load;
    next s r ∧ (s.recHead r).type = 15 ∧ s.admitRunning.1 = some e) := by
  refine ⟨?_, ?_, ?_, ?_, ?_, ?_, ?_, ?_, ?_, ?_, ?_, ?_, ?_, ?_, ?_, ?_, ?_, ?_, ?_, ?_⟩
  · try dsimp only
    refine ⟨testRun [1, 0, 8, 0, 4, 4, 0x17, 0, 1, 2, 3, 4, 5, 6, 7, 8] false [] [], ⟨none, 16, 0, false⟩, ?_⟩
    (try dsimp only [State.admits, State.lodRuns]) <;> decide +kernel
  · try dsimp only
    refine ⟨testRun [1, 0, 4, 0, 0xfc, 0xff, 0xff, 0, 1, 2, 3, 4] false [] [], ⟨none, 12, 0, false⟩, ?_⟩
    (try dsimp only [State.admits, State.lodRuns]) <;> decide +kernel
  · try dsimp only
    refine ⟨testRun [2, 0, 8, 0, 0xfc, 0xff, 0xff, 0, 1, 1, 1, 1, 1, 1, 1, 1] false [] [], ⟨none, 16, 0, false⟩, ?_⟩
    (try dsimp only [State.admits, State.lodRuns]) <;> decide +kernel
  · try dsimp only
    refine ⟨testRun [2, 0, 8, 0, 4, 4, 0x17, 0, 0xff, 0xff, 0, 0, 0xf, 0xf, 0, 0] false [] [], ⟨none, 16, 0, false⟩, ?_⟩
    (try dsimp only [State.admits, State.lodRuns]) <;> decide +kernel
  · try dsimp only
    refine ⟨testRun [2, 0, 8, 0, 4, 6, 0x17, 0, 0, 0, 0, 0, 0xff, 0xff, 0xff, 0xff] false [] [], ⟨none, 16, 0, false⟩, ?_⟩
    (try dsimp only [State.admits, State.lodRuns]) <;> decide +kernel
  · try dsimp only
    refine ⟨testRun [3, 0, 1, 0, 0, 0, 0xf0, 6, 0xaa, 0, 0, 0] false [] [], ⟨none, 12, 0, false⟩, ?_⟩
    (try dsimp only [State.admits, State.lodRuns]) <;> decide +kernel
  · try dsimp only
    refine ⟨testRun [3, 0, 1, 0, 0xfc, 0xff, 0xff, 0xff, 0xaa, 0, 0, 0] false [] [], ⟨none, 12, 0, false⟩, .unmapped, ?_⟩
    (try dsimp only [State.admits, State.lodRuns]) <;> decide +kernel
  · try dsimp only
    refine ⟨testRun [4, 0, 0, 0, 0, 0, 0x80, 0] false [(PWR_DOM_STAT.STATE 23, 0)] [], ⟨none, 8, 0, false⟩, ?_⟩
    (try dsimp only [State.admits, State.lodRuns]) <;> decide +kernel
  · try dsimp only
    refine ⟨testRun [4, 0, 0, 0, 0, 0, 0, 0x80] false [] [], ⟨none, 8, 0, false⟩, ?_⟩
    (try dsimp only [State.admits, State.lodRuns]) <;> decide +kernel
  · try dsimp only
    refine ⟨testRun [5, 0, 0, 0, 0, 0, 0, 0] false [] [], ⟨none, 8, 0, false⟩, ?_⟩
    (try dsimp only [State.admits, State.lodRuns]) <;> decide +kernel
  · try dsimp only
    refine ⟨testRun [5, 0, 0, 0, 9, 0, 0, 0] false [(CLK_PLL_STAT.LOCKED 8, 1)] [], ⟨none, 8, 0, false⟩, ?_⟩
    (try dsimp only [State.admits, State.lodRuns]) <;> decide +kernel
  · try dsimp only
    refine ⟨testRun [5, 0, 0, 0, 0x15, 0, 0, 0] false [] [], ⟨none, 8, 0, false⟩, ?_⟩
    (try dsimp only [State.admits, State.lodRuns]) <;> decide +kernel
  · try dsimp only
    refine ⟨testRun [5, 0, 0, 0, 0, 0, 0, 0] true [] [], ⟨none, 8, 0, true⟩, ?_⟩
    (try dsimp only [State.admits, State.lodRuns]) <;> decide +kernel
  · try dsimp only
    refine ⟨testRun [5, 0, 0, 0, 0x23, 0, 0, 0] true [] [], ⟨none, 8, 0, true⟩, ?_⟩
    (try dsimp only [State.admits, State.lodRuns]) <;> decide +kernel
  · try dsimp only
    refine ⟨testRun [6, 0, 0, 0, 1, 0, 0, 0] false [] [], ⟨none, 8, 0, false⟩, ?_⟩
    (try dsimp only [State.admits, State.lodRuns]) <;> decide +kernel
  · try dsimp only
    refine ⟨testRun [6, 0, 0, 0, 0, 0, 0, 0] false [] [], ⟨none, 8, 0, false⟩, ?_⟩
    (try dsimp only [State.admits, State.lodRuns]) <;> decide +kernel
  · try dsimp only
    refine ⟨testRun [7, 0, 0, 0, 1, 2, 3, 4] false [] [], ⟨none, 8, 0, false⟩, ?_⟩
    (try dsimp only [State.admits, State.lodRuns]) <;> decide +kernel
  · try dsimp only
    refine ⟨testRun [7, 0, 0, 0, 1, 2, 3, 4] false ((List.range 24).map (fun d => (PWR_DOM_STAT.STATE d, 0))) [], ⟨none, 8, 0, false⟩, ?_⟩
    (try dsimp only [State.admits, State.lodRuns]) <;> decide +kernel
  · try dsimp only
    refine ⟨testRun [0xf, 0, 0, 0, 0, 0, 0, 0] false [] [], ⟨none, 8, 0, false⟩, ?_⟩
    (try dsimp only [State.admits, State.lodRuns]) <;> decide +kernel
  · try dsimp only
    refine ⟨testRun [0xf, 0, 0, 0, 0, 0, 0, 0] false [] [(LOD_CTRL.EN 7, 1), (LOD_BUDGET.CYCLES 7, 65535), (LOD_RATE.RATE 7, 0xFFFFFF)], ⟨none, 8, 0, false⟩, .deadline, ?_⟩
    (try dsimp only [State.admits, State.lodRuns]) <;> decide +kernel

theorem wit_UpdateSessionCommandsComplete : 
    (∃ (s : State) (src : Source) (v : Word), s.admits updRules src UPD_CMD.addr (v ||| 1) ∧ updBits (v ||| 1) = [0] ∧ let ty := s.get UPD_SESSION.TYPE;
    (ty = 2 → s.configAllowed = true) ∧ (ty = 0 → s.slotIn kCONFIRMED ≠ none) ∧ (∀ x ∈ s.poolRegions s.app, s.updBuf 0 + 131072 ≤ x.1 ∨ x.2 ≤ s.updBuf 0) ∧ s.poolV s.app + 131072 ≤ 17825792)
  ∧ (∃ (s : State) (src : Source) (v : Word) (ty : _) (id : _) (i : _), s.admits updRules src UPD_CMD.addr (v ||| 2) ∧ updBits (v ||| 2) = [1] ∧ s.upd.sess = some (ty, id, i))
  ∧ (∃ (s : State) (src : Source) (v : Word) (ty : _) (id : _), let go (v : Word) : Word := v ||| BitVec.ofNat 32 (2 ^ 31);
    let handed (s : State) (src : Source) (v : Word) (ty id : Nat) : Prop := s.admits updRules src UPD_BLK.addr (go v) ∧ s.upd.verify = false ∧ ∃ i, s.upd.sess = some (ty, id, i);
    let head (s : State) (v : Word) : BlkHead := s.blkHead ((go v).toNat % 2);
    let resend (s : State) (id : Nat) (h : BlkHead) : Prop := h.good = true ∧ h.magic = 0x55444B42 ∧ h.session = id ∧ h.index + 1 = s.get UPD_NEXT.NEXT ∧ s.upd.lastCrc = some (BitVec.ofNat 32 h.crc);
    let taken (s : State) (src : Source) (v : Word) (ty id : Nat) : Prop := handed s src v ty id ∧ ¬ resend s id (head s v) ∧ s.blockErr' ty id (head s v) = none;
    taken s src v ty id ∧ (head s v).op = 0)
  ∧ (∃ (s : State) (src : Source) (v : Word) (ty : _) (id : _), let go (v : Word) : Word := v ||| BitVec.ofNat 32 (2 ^ 31);
    let handed (s : State) (src : Source) (v : Word) (ty id : Nat) : Prop := s.admits updRules src UPD_BLK.addr (go v) ∧ s.upd.verify = false ∧ ∃ i, s.upd.sess = some (ty, id, i);
    let head (s : State) (v : Word) : BlkHead := s.blkHead ((go v).toNat % 2);
    let resend (s : State) (id : Nat) (h : BlkHead) : Prop := h.good = true ∧ h.magic = 0x55444B42 ∧ h.session = id ∧ h.index + 1 = s.get UPD_NEXT.NEXT ∧ s.upd.lastCrc = some (BitVec.ofNat 32 h.crc);
    let taken (s : State) (src : Source) (v : Word) (ty id : Nat) : Prop := handed s src v ty id ∧ ¬ resend s id (head s v) ∧ s.blockErr' ty id (head s v) = none;
    taken s src v ty id ∧ (head s v).op = 1)
  ∧ (∃ (s : State) (src : Source) (v : Word) (ty : _) (id : _), let go (v : Word) : Word := v ||| BitVec.ofNat 32 (2 ^ 31);
    let handed (s : State) (src : Source) (v : Word) (ty id : Nat) : Prop := s.admits updRules src UPD_BLK.addr (go v) ∧ s.upd.verify = false ∧ ∃ i, s.upd.sess = some (ty, id, i);
    let head (s : State) (v : Word) : BlkHead := s.blkHead ((go v).toNat % 2);
    let resend (s : State) (id : Nat) (h : BlkHead) : Prop := h.good = true ∧ h.magic = 0x55444B42 ∧ h.session = id ∧ h.index + 1 = s.get UPD_NEXT.NEXT ∧ s.upd.lastCrc = some (BitVec.ofNat 32 h.crc);
    let taken (s : State) (src : Source) (v : Word) (ty id : Nat) : Prop := handed s src v ty id ∧ ¬ resend s id (head s v) ∧ s.blockErr' ty id (head s v) = none;
    taken s src v ty id ∧ (head s v).op = 2)
  ∧ (∃ (s : State) (src : Source) (v : Word) (ty : _) (id : _), let go (v : Word) : Word := v ||| BitVec.ofNat 32 (2 ^ 31);
    let handed (s : State) (src : Source) (v : Word) (ty id : Nat) : Prop := s.admits updRules src UPD_BLK.addr (go v) ∧ s.upd.verify = false ∧ ∃ i, s.upd.sess = some (ty, id, i);
    let head (s : State) (v : Word) : BlkHead := s.blkHead ((go v).toNat % 2);
    let resend (s : State) (id : Nat) (h : BlkHead) : Prop := h.good = true ∧ h.magic = 0x55444B42 ∧ h.session = id ∧ h.index + 1 = s.get UPD_NEXT.NEXT ∧ s.upd.lastCrc = some (BitVec.ofNat 32 h.crc);
    let taken (s : State) (src : Source) (v : Word) (ty id : Nat) : Prop := handed s src v ty id ∧ ¬ resend s id (head s v) ∧ s.blockErr' ty id (head s v) = none;
    taken s src v ty id ∧ (head s v).op = 3)
  ∧ (∃ (s : State) (src : Source) (v : Word) (ty : _) (id : _), let go (v : Word) : Word := v ||| BitVec.ofNat 32 (2 ^ 31);
    let handed (s : State) (src : Source) (v : Word) (ty id : Nat) : Prop := s.admits updRules src UPD_BLK.addr (go v) ∧ s.upd.verify = false ∧ ∃ i, s.upd.sess = some (ty, id, i);
    let head (s : State) (v : Word) : BlkHead := s.blkHead ((go v).toNat % 2);
    let resend (s : State) (id : Nat) (h : BlkHead) : Prop := h.good = true ∧ h.magic = 0x55444B42 ∧ h.session = id ∧ h.index + 1 = s.get UPD_NEXT.NEXT ∧ s.upd.lastCrc = some (BitVec.ofNat 32 h.crc);
    handed s src v ty id ∧ resend s id (head s v))
  ∧ (∃ (s : State) (ty : _) (id : _) (i : _) (b : _) (l : _), s.alive = true ∧ s.upd.sess = some (ty, id, i) ∧ s.upd.blocks = b :: l)
  ∧ (∃ (s : State) (ty : _) (id : _) (i : _) (fmt : BitVec 8) (ok : Bool), s.alive = true ∧ s.upd.sess = some (ty, id, i) ∧ s.upd.verify = true ∧ s.upd.blocks = [] ∧ let code := s.imageVerdict (slotBase i) fmt.toNat ok;
    code = 0)
  ∧ (∃ (s : State) (ty : _) (id : _) (i : _) (fmt : BitVec 8) (ok : Bool), s.alive = true ∧ s.upd.sess = some (ty, id, i) ∧ s.upd.verify = true ∧ s.upd.blocks = [] ∧ let code := s.imageVerdict (slotBase i) fmt.toNat ok;
    code ≠ 0)
  ∧ (∃ (s : State) (ty : _) (id : _) (i : _), s.alive = true ∧ s.upd.sess = some (ty, id, i) ∧ ty ≠ 2) := by
  refine ⟨?_, ?_, ?_, ?_, ?_, ?_, ?_, ?_, ?_, ?_, ?_⟩
  · try dsimp only
    refine ⟨{ testState run [] [] with upd := { UpdSt.reset with slot0 := { DirSlot.reset with state := kCONFIRMED } } }, .host, 0, ?_⟩
    (try dsimp only [State.admits, State.lodRuns]) <;> decide +kernel
  · try dsimp only
    refine ⟨{ testState run [] [] with upd := { UpdSt.reset with sess := some (0, 7, 1) } }, .host, 0, 0, 7, 1, ?_⟩
    (try dsimp only [State.admits, State.lodRuns]) <;> decide +kernel
  · try dsimp only
    exact ⟨testBlk 0 0 0 1 0 [0xAA] false, .host, 0, 0, 7, ⟨⟨by try dsimp only [State.admits]; decide +kernel, rfl, 1, rfl⟩, by decide +kernel, block_fits _ _ _ _ (by decide +kernel) (by decide +kernel) (by decide +kernel) (by decide +kernel) (by decide +kernel) (by decide +kernel) (by decide +kernel)⟩, by decide +kernel⟩
  · try dsimp only
    exact ⟨testBlk 0 0 1 1 4223 [] false, .host, 0, 0, 7, ⟨⟨by try dsimp only [State.admits]; decide +kernel, rfl, 1, rfl⟩, by decide +kernel, block_fits _ _ _ _ (by decide +kernel) (by decide +kernel) (by decide +kernel) (by decide +kernel) (by decide +kernel) (by decide +kernel) (by decide +kernel)⟩, by decide +kernel⟩
  · try dsimp only
    exact ⟨testBlk 0 0 2 65536 0xFF [] false, .host, 0, 0, 7, ⟨⟨by try dsimp only [State.admits]; decide +kernel, rfl, 1, rfl⟩, by decide +kernel, block_fits _ _ _ _ (by decide +kernel) (by decide +kernel) (by decide +kernel) (by decide +kernel) (by decide +kernel) (by decide +kernel) (by decide +kernel)⟩, by decide +kernel⟩
  · try dsimp only
    exact ⟨testBlk 0 0 3 0 0 [] false, .host, 0, 0, 7, ⟨⟨by try dsimp only [State.admits]; decide +kernel, rfl, 1, rfl⟩, by decide +kernel, block_fits _ _ _ _ (by decide +kernel) (by decide +kernel) (by decide +kernel) (by decide +kernel) (by decide +kernel) (by decide +kernel) (by decide +kernel)⟩, by decide +kernel⟩
  · try dsimp only
    exact ⟨testBlk 0 1 0 1 0 [0xAA] true, .host, 0, 0, 7, ⟨by try dsimp only [State.admits]; decide +kernel, rfl, 1, rfl⟩, by decide +kernel⟩
  · try dsimp only
    refine ⟨{ testState run [] [] with upd := { UpdSt.reset with sess := some (0, 7, 1), blocks := [⟨1, 0, 2, [0xAA, 0xBB], none, 0⟩] } }, 0, 7, 1, ⟨1, 0, 2, [0xAA, 0xBB], none, 0⟩, [], ?_⟩
    (try dsimp only [State.admits, State.lodRuns]) <;> decide +kernel
  · try dsimp only
    exact ⟨testFlash run testHcrc BootSt.reset { UpdSt.reset with sess := some (1, 7, 0), verify := true }, 1, 7, 0, 0, true, by decide +kernel, rfl, rfl, rfl, test_image_verdict _ _ _⟩
  · try dsimp only
    refine ⟨{ testState run [] [] with upd := { UpdSt.reset with sess := some (1, 7, 0), verify := true } }, 1, 7, 0, 0, true, ?_⟩
    (try dsimp only [State.admits, State.lodRuns]) <;> decide +kernel
  · try dsimp only
    refine ⟨{ testState run [] [] with upd := { UpdSt.reset with sess := some (1, 7, 0) } }, 1, 7, 0, ?_⟩
    (try dsimp only [State.admits, State.lodRuns]) <;> decide +kernel

theorem wit_HandoverCommandsComplete : 
    (∃ (s : State) (src : Source) (v : Word), let asks (s : State) (src : Source) (w : Word) (k : Nat) : Prop := s.admits updRules src UPD_CMD.addr w ∧ updBits w = [k];
    asks s src (v ||| 4) 2 ∧ s.get UPD_STAT.STBY = yREADY ∧ s.slotIn kSTAGED ≠ none ∧ let x := (s.landed UPD_CMD.addr (v ||| 4)).admitRunning;
    x.1 = none)
  ∧ (∃ (s : State) (src : Source) (v : Word) (e : _), let asks (s : State) (src : Source) (w : Word) (k : Nat) : Prop := s.admits updRules src UPD_CMD.addr w ∧ updBits w = [k];
    asks s src (v ||| 4) 2 ∧ s.get UPD_STAT.STBY = yREADY ∧ s.slotIn kSTAGED ≠ none ∧ let x := (s.landed UPD_CMD.addr (v ||| 4)).admitRunning;
    x.1 = some e)
  ∧ (∃ (s : State) (src : Source) (v : Word), let asks (s : State) (src : Source) (w : Word) (k : Nat) : Prop := s.admits updRules src UPD_CMD.addr w ∧ updBits w = [k];
    asks s src (v ||| 16) 4 ∧ s.inTrial = true ∧ let x := (s.landed UPD_CMD.addr (v ||| 16)).admitRunning;
    x.1 = none)
  ∧ (∃ (s : State) (src : Source) (v : Word) (e : _), let asks (s : State) (src : Source) (w : Word) (k : Nat) : Prop := s.admits updRules src UPD_CMD.addr w ∧ updBits w = [k];
    asks s src (v ||| 16) 4 ∧ s.inTrial = true ∧ let x := (s.landed UPD_CMD.addr (v ||| 16)).admitRunning;
    x.1 = some e)
  ∧ (∃ (s : State) (k : _), s.alive = true ∧ s.upd.hand = some k ∧ s.upd.switched = false)
  ∧ (∃ (s : State), s.alive = true ∧ s.upd.hand.isSome = true ∧ s.upd.switched = true)
  ∧ (∃ (s : State) (src : Source) (v : Word), let asks (s : State) (src : Source) (w : Word) (k : Nat) : Prop := s.admits updRules src UPD_CMD.addr w ∧ updBits w = [k];
    asks s src (v ||| 8) 3 ∧ s.inTrial = true)
  ∧ (∃ (s : State) (src : Source) (v : Word) (i : _), let asks (s : State) (src : Source) (w : Word) (k : Nat) : Prop := s.admits updRules src UPD_CMD.addr w ∧ updBits w = [k];
    asks s src (v ||| 32) 5 ∧ s.slotIn kCONFIRMED = some i)
  ∧ (∃ (s : State) (src : Source) (v : Word) (i : _), let asks (s : State) (src : Source) (w : Word) (k : Nat) : Prop := s.admits updRules src UPD_CMD.addr w ∧ updBits w = [k];
    asks s src (v ||| 64) 6 ∧ s.inTrial = false ∧ s.slotIn kSTAGED = some i)
  ∧ (∃ (s : State), s.alive = true ∧ s.inTrial = true ∧ s.get UPD_TRIAL_LEFT.LEFT ≠ 0) := by
  refine ⟨?_, ?_, ?_, ?_, ?_, ?_, ?_, ?_, ?_, ?_⟩
  · try dsimp only
    refine ⟨{ testState run [(UPD_STAT.STBY, yREADY)] [] with upd := { UpdSt.reset with slot1 := { DirSlot.reset with state := kSTAGED } } }, .host, 0, ?_⟩
    (try dsimp only [State.admits, State.lodRuns]) <;> decide +kernel
  · try dsimp only
    refine ⟨{ testState run [(UPD_STAT.STBY, yREADY)] [(LOD_CTRL.EN 7, 1), (LOD_BUDGET.CYCLES 7, 65535), (LOD_RATE.RATE 7, 0xFFFFFF)] with upd := { UpdSt.reset with slot1 := { DirSlot.reset with state := kSTAGED } } }, .host, 0, .deadline, ?_⟩
    (try dsimp only [State.admits, State.lodRuns]) <;> decide +kernel
  · try dsimp only
    refine ⟨{ testState run [(UPD_STAT.TRIAL, 1)] [] with upd := { UpdSt.reset with slot1 := { DirSlot.reset with state := kTRIAL } } }, .host, 0, ?_⟩
    (try dsimp only [State.admits, State.lodRuns]) <;> decide +kernel
  · try dsimp only
    refine ⟨{ testState run [(UPD_STAT.TRIAL, 1)] [(LOD_CTRL.EN 7, 1), (LOD_BUDGET.CYCLES 7, 65535), (LOD_RATE.RATE 7, 0xFFFFFF)] with upd := { UpdSt.reset with slot1 := { DirSlot.reset with state := kTRIAL } } }, .host, 0, .deadline, ?_⟩
    (try dsimp only [State.admits, State.lodRuns]) <;> decide +kernel
  · try dsimp only
    refine ⟨{ testState run [] [] with upd := { UpdSt.reset with hand := some .forward, slot1 := { DirSlot.reset with state := kSTAGED } } }, .forward, ?_⟩
    (try dsimp only [State.admits, State.lodRuns]) <;> decide +kernel
  · try dsimp only
    refine ⟨{ testState run [] [] with upd := { UpdSt.reset with hand := some .forward, switched := true } }, ?_⟩
    (try dsimp only [State.admits, State.lodRuns]) <;> decide +kernel
  · try dsimp only
    refine ⟨{ testState run [(UPD_STAT.TRIAL, 1)] [] with upd := { UpdSt.reset with slot1 := { DirSlot.reset with state := kTRIAL }, slot0 := { DirSlot.reset with state := kCONFIRMED } } }, .host, 0, ?_⟩
    (try dsimp only [State.admits, State.lodRuns]) <;> decide +kernel
  · try dsimp only
    refine ⟨{ testState run [] [] with upd := { UpdSt.reset with slot1 := { DirSlot.reset with state := kCONFIRMED } } }, .host, 0, 1, ?_⟩
    (try dsimp only [State.admits, State.lodRuns]) <;> decide +kernel
  · try dsimp only
    refine ⟨{ testState run [] [] with upd := { UpdSt.reset with slot1 := { DirSlot.reset with state := kSTAGED } } }, .host, 0, 1, ?_⟩
    (try dsimp only [State.admits, State.lodRuns]) <;> decide +kernel
  · try dsimp only
    refine ⟨{ testState run [(UPD_STAT.TRIAL, 1), (UPD_TRIAL_LEFT.LEFT, 1)] [] with upd := { UpdSt.reset with slot1 := { DirSlot.reset with state := kTRIAL } } }, ?_⟩
    (try dsimp only [State.admits, State.lodRuns]) <;> decide +kernel

end Sys2Proof.Machine
end

section
/-! PROOFS. Scope (chapter 0): what a register access does in POWER_OFF (R608), and the values that a field's table does
not allow (R12). -/

namespace Sys2Proof.Machine

/-! ### POWER_OFF: no access is answered (R608) -/

/-- An access without a completion: it leaves everything as it was. -/
def State.unanswered (s : State) : State := { s with resp := none }

@[simp] theorem State.dev_unanswered (s : State) : s.unanswered.dev = s.dev := rfl
@[simp] theorem State.unanswered_unanswered (s : State) : s.unanswered.unanswered = s.unanswered := rfl

theorem State.emptyAccess_powerOff {s : State} (h : s.dev = powerOff) : s.emptyAccess = s.unanswered :=
  if_pos (beq_iff_eq.mpr h)

theorem State.writeWord_powerOff {s : State} (h : s.dev = powerOff) (src : Source) (a : Nat) (v : Word) :
    s.writeWord src a v = s.unanswered :=
  State.writeReg_powerOff (rulesAt a) src a v h

/-- A write of any length and alignment has no completion: an 8-byte one finds POWER_OFF at each of its words. -/
theorem State.busWrite_powerOff {s : State} (h : s.dev = powerOff) (src : Source) (a n : Nat) (v : BitVec 64) :
    s.busWrite src a n v = s.unanswered := by
  have hp : (s.dev == powerOff) = true := beq_iff_eq.mpr h
  simp only [State.busWrite, hp, if_true]
  split_ifs with h0 h8 h4
  · exact State.emptyAccess_powerOff h
  · simp only [State.writeWord_powerOff, State.dev_unanswered, h, State.unanswered_unanswered]
  · exact State.writeWord_powerOff h src a _
  · rfl

theorem State.readPart_powerOff {s : State} (h : s.dev = powerOff) (src : Source) (a n : Nat) :
    s.readPart src a n = s.unanswered :=
  if_pos (beq_iff_eq.mpr h)

/-- A read of any length and alignment has no completion, and latches and clears nothing. -/
theorem State.busRead_powerOff {s : State} (h : s.dev = powerOff) (src : Source) (a n : Nat) :
    s.busRead src a n = s.unanswered := by
  have hp : (s.dev == powerOff) = true := beq_iff_eq.mpr h
  simp only [State.busRead, hp, if_true]
  split_ifs with h0 h8
  · exact State.emptyAccess_powerOff h
  · simp only [State.readPart_powerOff, State.dev_unanswered, h, State.unanswered_unanswered]
  · exact State.readPart_powerOff h src a n

/-- In POWER_OFF the host link carries no access to BAR2 or BAR4. -/
theorem State.hostLink_powerOff {s : State} (h : s.dev = powerOff) : s.hostLink = false := by
  simp [State.hostLink, h]

theorem execBar2Access_of_hostLink_down {s : State} (h : s.hostLink = false) (a : Nat) (w : Bool) (b : List (Option Byte))
    (r : List (Fin 64 × Nat)) : execBar2Access a w b r s = .next s.unanswered := by
  unfold execBar2Access
  rw [if_pos (by simp [h])]
  rfl

theorem execBar4Access_of_hostLink_down {s : State} (h : s.hostLink = false) (a : Nat) (w : Bool) (b : List (Option Byte))
    (r : List (Fin 64 × Nat)) : execBar4Access a w b r s = .next s.unanswered := by
  unfold execBar4Access
  rw [if_pos (by simp [h])]
  rfl

/-- Settles O6: a write, a read and a host access each end at their POWER_OFF test. -/
theorem powerOffAnswersNothing : Obligations.PowerOffAnswersNothing := by
  intro s h
  have hlink := State.hostLink_powerOff h
  refine ⟨fun src a n v => ?_, fun src a v => ⟨?_, ?_, ?_⟩, fun src a n => ⟨?_, ?_⟩, fun a w b r => ⟨?_, ?_⟩⟩
  · exact congrArg Host.Outcome.next (State.busWrite_powerOff h src a n v)
  · exact congrArg Host.Outcome.next (State.writeWord_powerOff h src (viewAddr a 1) v)
  · exact congrArg Host.Outcome.next (State.writeWord_powerOff h src (viewAddr a 2) v)
  · exact congrArg Host.Outcome.next (State.writeWord_powerOff h src (viewAddr a 3) v)
  · exact congrArg Host.Outcome.next (State.busRead_powerOff h src a n)
  · exact congrArg Host.Outcome.next (State.busRead_powerOff h src a n)
  · exact execBar2Access_of_hostLink_down hlink a w b r
  · exact execBar4Access_of_hostLink_down hlink a w b r

/-! ### The registers that record a rejection (R532, R533) -/

/-- BLOCK_ERR and the two words of BLOCK_ERR_OFS of the block with first window `b`. -/
def blockErrRegs (b : Nat) : List Nat := [b * 0x10000 + 0x3FF4, b * 0x10000 + 0x3FF8, b * 0x10000 + 0x3FFC]

/-- The registers that a rejected access to `addr` may change: SYS_ERR_STAT, and the record of its block where the window
is implemented (R510). -/
def rejectRegs (addr : Nat) : List Nat :=
  SYS_ERR_STAT.addr :: if windowImplemented (addr / 0x10000) then blockErrRegs (blockOfWindow (addr / 0x10000)) else []

theorem State.word_blockErr_of_notMem (s : State) (b code : Nat) (sp : Space) (ofs : Nat) {x : Nat} (h : x ∉ blockErrRegs b) :
    (s.blockErr b code sp ofs).word x = s.word x := by
  simp only [blockErrRegs, List.mem_cons, List.not_mem_nil, or_false, not_or] at h
  obtain ⟨herr, hofs, hspace⟩ := h
  unfold State.blockErr
  rw [State.word_setWord_ne _ _ hspace, State.word_put_ne _ _ _ hofs, State.word_put_ne _ _ _ herr]

theorem State.word_logErr_ne (s : State) (w0 w1 : Word) {x : Nat} (h : x ≠ SYS_ERR_STAT.addr) :
    (s.logErr w0 w1).word x = s.word x := by
  unfold State.logErr
  split
  · rfl
  · rw [State.word_put_ne _ SYS_ERR_STAT.OVF _ h, State.word_bump_ne _ SYS_ERR_STAT.DROP h]

/-- A rejection changes no register but those of `rejectRegs`. -/
theorem State.word_reject_of_notMem (s : State) (src : Source) (read : Bool) (addr : Nat) (e : Err) {x : Nat}
    (h : x ∉ rejectRegs addr) : (s.reject src read addr e).word x = s.word x := by
  obtain ⟨hstat, hblock⟩ := not_or.mp (mt List.mem_cons.mpr h)
  have hrec : (if windowImplemented (addr / 0x10000) then
      s.blockErr (blockOfWindow (addr / 0x10000)) e.code .bar0 (addr - blockOfWindow (addr / 0x10000) * 0x10000)
      else s).word x = s.word x := by
    split
    · exact State.word_blockErr_of_notMem _ _ _ _ _ (by simpa [*] using hblock)
    · rfl
  unfold State.reject
  dsimp only
  rw [State.word_answer]
  split
  · exact hrec
  · rw [State.word_logErr_ne _ _ _ hstat, hrec]

theorem State.resp_reject (s : State) (src : Source) (read : Bool) (addr : Nat) (e : Err) :
    (s.reject src read addr e).resp = some ⟨0, [], e.code⟩ := rfl

theorem notMem_rejectRegs_of_offset_lt {addr x : Nat} (hofs : x % 0x10000 < 0x3FF4) (hstat : x ≠ SYS_ERR_STAT.addr) :
    x ∉ rejectRegs addr := by
  unfold rejectRegs
  split
  · simp only [blockErrRegs, List.mem_cons, List.not_mem_nil, or_false, hstat, false_or]
    omega
  · simpa using hstat

theorem blockOfWindow_mem_blocks {w : Nat} (h : windowImplemented w = true) : blockOfWindow w ∈ blocks := by
  simp only [windowImplemented, Bool.or_eq_true, List.contains_iff_mem, beq_iff_eq] at h
  unfold blockOfWindow
  split_ifs with h7 h9
  · decide
  · decide
  · simpa [h7, h9] using h

/-- The manual's tables state no range and no reserved encoding for the fields of a recording register. -/
theorem recordRegs_unchecked :
    ∀ b ∈ blocks, ∀ x ∈ SYS_ERR_STAT.addr :: blockErrRegs b, ∀ f ∈ fieldsAt x, f.chk = .any := by
  decide +kernel

/-- A register with a field whose table refuses values is none of those that record a rejection. -/
theorem notMem_rejectRegs_of_checked {addr x : Nat} {f : FieldRow} (hf : f ∈ fieldsAt x) (hc : f.chk ≠ .any) :
    x ∉ rejectRegs addr := by
  intro hx
  unfold rejectRegs at hx
  split at hx
  · exact hc (recordRegs_unchecked _ (blockOfWindow_mem_blocks ‹_›) x hx f hf)
  · exact hc (recordRegs_unchecked 0 (by decide) x (List.mem_cons.mpr (.inl (List.mem_singleton.mp hx))) f hf)

/-! ### Values that a field's table does not allow (R12) -/

theorem FieldRow.chk_ne_any_of_reservedVal {f : FieldRow} {n : Nat} (h : f.reservedVal n = true) : f.chk ≠ .any := by
  intro hc
  simp [FieldRow.reservedVal, hc] at h

theorem FieldRow.chk_ne_any_of_outOfRange {f : FieldRow} {n : Nat} (h : f.outOfRange n = true) : f.chk ≠ .any := by
  intro hc
  simp [FieldRow.outOfRange, hc] at h

/-- A reserved encoding in a written field is ERR_RESERVED. -/
theorem valueErr_of_reservedVal {fs : List FieldRow} {w : Word} (hs : setsReserved fs w = false)
    (h : ∃ f ∈ fs, f.acc.isRw = true ∧ f.reservedVal (f.val w) = true) : valueErr fs w = some .reserved := by
  have hany : fs.any (fun f => f.acc.isRw && f.reservedVal (f.val w)) = true := by simpa using h
  simp [valueErr, hs, hany]

/-- A value out of range is ERR_RANGE where no written field takes a reserved encoding. -/
theorem valueErr_of_outOfRange {fs : List FieldRow} {w : Word} (hs : setsReserved fs w = false)
    (hr : ∀ f ∈ fs, f.acc.isRw = true → f.reservedVal (f.val w) = false)
    (h : ∃ f ∈ fs, f.acc.isRw = true ∧ f.outOfRange (f.val w) = true) : valueErr fs w = some .range := by
  have hnone : fs.any (fun f => f.acc.isRw && f.reservedVal (f.val w)) = false := by simpa using hr
  have hany : fs.any (fun f => f.acc.isRw && f.outOfRange (f.val w)) = true := by simpa using h
  simp [valueErr, hs, hnone, hany]

/-- No rule of access that ranks ahead of the values of the fields stops a write of `w` at `a` (R509): the conditions of
`State.admits` but its last. -/
def State.reachesValueRules (s : State) (r : WriteRules) (src : Source) (a : Nat) (w : Word) : Prop :=
  s.dev ≠ powerOff ∧ s.accessErr src a 4 true = none
  ∧ (hasGroup (blockOfWindow (a / 0x10000)) && s.cstLocks (blockOfWindow (a / 0x10000))) = false
  ∧ r.pre s src a w = none ∧ s.updateBusy a = none ∧ setsReserved (fieldsAt a) w = false

/-- A write that only a value rule stops is rejected with the error of that rule. -/
theorem State.writeReg_of_valueErr {s : State} {r : WriteRules} {src : Source} {a : Nat} {w : Word} {e : Err}
    (h : s.reachesValueRules r src a w) (hn : normalAddr a = a) (hv : viewOf a = .normal)
    (he : valueErr (fieldsAt a) w = some e) : s.writeReg r src a w = s.reject src false a e := by
  obtain ⟨hdev, hacc, hlock, hpre, hbusy, hres⟩ := h
  have hp : (s.dev == powerOff) = false := by simpa using hdev
  unfold State.writeReg
  simp [hp, hn, hv, hacc, hlock, hpre, hbusy, hres, aliasWord, he]

/-- A REGISTER_WRITE of four bytes is one word write. -/
theorem State.busWrite_word (s : State) (src : Source) (a : Nat) (v : Word) :
    s.busWrite src a 4 (v.setWidth 64) = s.writeWord src a v := by
  have hv : (v.setWidth 64).setWidth 32 = v := by simp
  simp [State.busWrite, hv]

/-- A REGISTER_WRITE that a value rule stops for a field that its table checks is answered with the error, and changes no
register but those that record the rejection. -/
theorem registerWrite_completes_of_valueErr {s : State} {src : Source} {a : Nat} {v : Word} {e : Err}
    (h : s.reachesValueRules (rulesAt a) src a v) (hn : normalAddr a = a) (hv : viewOf a = .normal)
    (he : valueErr (fieldsAt a) v = some e) (hf : ∃ f ∈ fieldsAt a, f.chk ≠ .any) :
    Completes (.registerWrite src a 4 (v.setWidth 64)) s (fun t => t.resp = some ⟨0, [], e.code⟩ ∧ t.word a = s.word a
      ∧ ∀ b, b % 0x10000 < 0x3FF4 → b ≠ SYS_ERR_STAT.addr → t.word b = s.word b) := by
  obtain ⟨f, hmem, hchk⟩ := hf
  have hw : s.busWrite src a 4 (v.setWidth 64) = s.reject src false a e := by
    rw [State.busWrite_word]
    exact State.writeReg_of_valueErr h hn hv he
  exact ⟨s.reject src false a e, congrArg Host.Outcome.next hw, State.resp_reject s src false a e,
    State.word_reject_of_notMem s src false a e (notMem_rejectRegs_of_checked hmem hchk),
    fun b hb hstat => State.word_reject_of_notMem s src false a e (notMem_rejectRegs_of_offset_lt hb hstat)⟩

/-- Settles O8: the value rules give the code, and the rejection leaves the register, which is none of those that record
it. -/
theorem reservedAndRangeRefused : Obligations.ReservedAndRangeRefused := by
  intro s src a v hdev hn hv hacc hlock hpre hbusy hres
  have hreach : s.reachesValueRules (rulesAt a) src a v := ⟨hdev, hacc, hlock, hpre, hbusy, hres⟩
  constructor
  · rintro ⟨f, hf, hrw, hbad⟩
    exact registerWrite_completes_of_valueErr hreach hn hv (valueErr_of_reservedVal hres ⟨f, hf, hrw, hbad⟩)
      ⟨f, hf, FieldRow.chk_ne_any_of_reservedVal hbad⟩
  · rintro hnone ⟨f, hf, hrw, hbad⟩
    exact registerWrite_completes_of_valueErr hreach hn hv (valueErr_of_outOfRange hres hnone ⟨f, hf, hrw, hbad⟩)
      ⟨f, hf, FieldRow.chk_ne_any_of_outOfRange hbad⟩

end Sys2Proof.Machine
end

section
/-! PROOFS. The register model (chapter 16): alias accesses to registers without an RW field (R514). -/

namespace Sys2Proof.Machine

/-! ### Alias writes of a register without an RW field -/

/-- An alias access to a register without an RW field breaks no rule ahead of that of R514, or one with the same code: an
unimplemented window, an offset that holds no register. -/
theorem State.accessErr_alias_of_rwBits_eq_zero (s : State) (src : Source) {a : Nat} (n : Nat) (write : Bool)
    (hv : viewOf a ≠ .normal) (hrw : rwBits (fieldsAt (normalAddr a / 4 * 4)) = 0) :
    s.accessErr src a n write = some .unmapped := by
  have hrule : (viewOf a != .normal && rwBits (fieldsAt (normalAddr a / 4 * 4)) == 0) = true := by simp [hv, hrw]
  unfold State.accessErr
  dsimp only
  rw [if_pos hrule, ite_self, ite_self]

/-- Outside POWER_OFF a word write that breaks a rule of access is rejected with the error of that rule (R509). -/
theorem State.writeReg_of_accessErr {s : State} {src : Source} {a : Nat} {e : Err} (hdev : s.dev ≠ powerOff)
    (he : s.accessErr src a 4 true = some e) (r : WriteRules) (v : Word) :
    s.writeReg r src a v = s.reject src false a e := by
  have hp : (s.dev == powerOff) = false := by simpa using hdev
  unfold State.writeReg
  simp [hp, he]

/-! ### Alias reads -/

/-- Outside POWER_OFF an empty access is answered with 0 and no error. -/
theorem State.emptyAccess_of_dev_ne {s : State} (hdev : s.dev ≠ powerOff) : s.emptyAccess = s.answer 0 0 :=
  if_neg (by simpa using hdev)

/-- A later completion replaces an earlier one. -/
@[simp] theorem State.answer_answer (s : State) (d c d' c' : Nat) : (s.answer d c).answer d' c' = s.answer d' c' := rfl

@[simp] theorem State.respCode_answer (s : State) (d c : Nat) : (s.answer d c).respCode = c := rfl

@[simp] theorem State.respData_answer_zero (s : State) (c : Nat) : (s.answer 0 c).respData = 0 := rfl

/-- Within one register word an alias read is an empty access, whatever its length and alignment. -/
theorem State.readPart_alias {s : State} {a : Nat} (hdev : s.dev ≠ powerOff) (hw : windowImplemented (a / 0x10000) = true)
    (hv : viewOf a ≠ .normal) (src : Source) (n : Nat) : s.readPart src a n = s.answer 0 0 := by
  have hp : (s.dev == powerOff) = false := by simpa using hdev
  unfold State.readPart
  simp [hp, hw, hv, State.emptyAccess_of_dev_ne hdev]

/-- The high word of an aligned pair stands in the window of its low word. -/
theorem window_add_four {a : Nat} (h : a % 8 = 0) : (a + 4) / 0x10000 = a / 0x10000 := by omega

/-- The high word of an aligned pair stands in the view of its low word. -/
theorem viewOf_add_four {a : Nat} (h : a % 8 = 0) : viewOf (a + 4) = viewOf a := by
  have hpart : (a + 4) % 0x10000 / 0x4000 = a % 0x10000 / 0x4000 := by omega
  unfold viewOf
  rw [hpart]

/-- A read of any length at an alias address answers 0 and changes nothing else: an 8-byte one is two alias reads. -/
theorem State.busRead_alias {s : State} {a : Nat} (hdev : s.dev ≠ powerOff) (hw : windowImplemented (a / 0x10000) = true)
    (hv : viewOf a ≠ .normal) (src : Source) (n : Nat) : s.busRead src a n = s.answer 0 0 := by
  have hp : (s.dev == powerOff) = false := by simpa using hdev
  simp only [State.busRead, hp, Bool.false_eq_true, if_false]
  split_ifs with h0 h8
  · exact State.emptyAccess_of_dev_ne hdev
  · have hlow : s.readPart src a 4 = s.answer 0 0 := State.readPart_alias hdev hw hv src 4
    have hhigh : (s.answer 0 0).readPart src (a + 4) 4 = s.answer 0 0 :=
      State.readPart_alias (s := s.answer 0 0) hdev (by rwa [window_add_four h8.2]) (by rwa [viewOf_add_four h8.2]) src 4
    simp [hlow, hhigh, firstCode]
  · exact State.readPart_alias hdev hw hv src n

/-- Settles O7: the access rules refuse the write with ERR_UNMAPPED, and either read is an alias read of the bus. -/
theorem aliasOfNoRwField : Obligations.AliasOfNoRwField := by
  intro s src a hdev hv
  refine ⟨fun v hrw => ?_, fun n hw => ?_⟩
  · have hrej : s.writeWord src a v = s.reject src false a .unmapped :=
      State.writeReg_of_accessErr hdev (s.accessErr_alias_of_rwBits_eq_zero src 4 true hv hrw) (rulesAt a) v
    exact ⟨hrej, by rw [hrej]; exact State.resp_reject s src false a .unmapped⟩
  · have hread : s.busRead src a n = s.answer 0 0 := State.busRead_alias hdev hw hv src n
    exact ⟨congrArg Host.Outcome.next hread, congrArg Host.Outcome.next hread⟩

end Sys2Proof.Machine
end

section
/-! PROOFS. Every step: what each command may change, and that the memories and logs stay sound (chapters 16 and 18). -/

set_option Elab.async false

namespace Sys2Proof.Machine

/-! ### The frame of a command -/

/-- Every command answers a next state, which keeps all that its footprint leaves out and keeps the state sound: the frame
laws of the meanings, command by command. -/
theorem exec_kept (s : State) (c : Instr) : ∃ t, exec c s = .next t ∧ Kept (footOf c) s t :=
  match c with
  | .resetNRise => Kept.execResetNRise (.refl _ s) (Foot.le_refl _)
  | .resetNFall lowNs => Kept.execResetNFall (.refl _ s) (Foot.le_refl _) lowNs
  | .supplyBelowReset rail lowNs => Kept.execSupplyBelowReset (.refl _ s) (Foot.le_refl _) rail lowNs
  | .hostAccessPowerOff addr write v => Kept.execHostAccessPowerOff (.refl _ s) (Foot.le_refl _) addr write v
  | .supplyFault rail mv => Kept.execSupplyFault (.refl _ s) (Foot.le_refl _) rail mv
  | .dumpDone len => Kept.execDumpDone (.refl _ s) (Foot.le_refl _) len
  | .faultLogMove => Kept.execFaultLogMove (.refl _ s) (Foot.le_refl _)
  | .updateStrobe src v => Kept.execUpdateStrobe (.refl _ s) (Foot.le_refl _) src v
  | .admissionVerdict => Kept.execAdmissionVerdict (.refl _ s) (Foot.le_refl _)
  | .timedApply => Kept.execTimedApply (.refl _ s) (Foot.le_refl _)
  | .updateCancel src v => Kept.execUpdateCancel (.refl _ s) (Foot.le_refl _) src v
  | .capacityFall c => Kept.execCapacityFall (.refl _ s) (Foot.le_refl _) c
  | .xtalLoss => Kept.execXtalLoss (.refl _ s) (Foot.le_refl _)
  | .pllLoss n => Kept.execPllLoss (.refl _ s) (Foot.le_refl _) n
  | .pllLock n => Kept.execPllLock (.refl _ s) (Foot.le_refl _) n
  | .pllRetuneTimeout n => Kept.execPllRetuneTimeout (.refl _ s) (Foot.le_refl _) n
  | .refWindow count corr => Kept.execRefWindow (.refl _ s) (Foot.le_refl _) count corr
  | .holdoverExit => Kept.execHoldoverExit (.refl _ s) (Foot.le_refl _)
  | .syncInEdge rising stamp onPhase => Kept.execSyncInEdge (.refl _ s) (Foot.le_refl _) rising stamp onPhase
  | .divArm src v => Kept.execDivArm (.refl _ s) (Foot.le_refl _) src v
  | .almStep src v => Kept.execAlmStep (.refl _ s) (Foot.le_refl _) src v
  | .ppsInEdge rising stamp => Kept.execPpsInEdge (.refl _ s) (Foot.le_refl _) rising stamp
  | .ppsAbsent => Kept.execPpsAbsent (.refl _ s) (Foot.le_refl _)
  | .ppsOutPulse => Kept.execPpsOutPulse (.refl _ s) (Foot.le_refl _)
  | .ppsOutEnd => Kept.execPpsOutEnd (.refl _ s) (Foot.le_refl _)
  | .trigInEdge k rising stamp => Kept.execTrigInEdge (.refl _ s) (Foot.le_refl _) k rising stamp
  | .tdcArm src v => Kept.execTdcArm (.refl _ s) (Foot.le_refl _) src v
  | .tdcAbort src v => Kept.execTdcAbort (.refl _ s) (Foot.le_refl _) src v
  | .tdcTimeout => Kept.execTdcTimeout (.refl _ s) (Foot.le_refl _)
  | .tdcCalibrate failed => Kept.execTdcCalibrate (.refl _ s) (Foot.le_refl _) failed
  | .laneMarker n stamp offset samples more => Kept.execLaneMarker (.refl _ s) (Foot.le_refl _) n stamp offset samples more
  | .cdrDone n ctle taps => Kept.execCdrDone (.refl _ s) (Foot.le_refl _) n ctle taps
  | .codeGroupSync n => Kept.execCodeGroupSync (.refl _ s) (Foot.le_refl _) n
  | .converterValid c firstStamp => Kept.execConverterValid (.refl _ s) (Foot.le_refl _) c firstStamp
  | .ilasReceive c cfg => Kept.execIlasReceive (.refl _ s) (Foot.le_refl _) c cfg
  | .deskewFail c => Kept.execDeskewFail (.refl _ s) (Foot.le_refl _) c
  | .fomMeasure n h v => Kept.execFomMeasure (.refl _ s) (Foot.le_refl _) n h v
  | .dfeAdapt n moves => Kept.execDfeAdapt (.refl _ s) (Foot.le_refl _) n moves
  | .idleAnnounce c lanes => Kept.execIdleAnnounce (.refl _ s) (Foot.le_refl _) c lanes
  | .idleExit c firstStamp missed => Kept.execIdleExit (.refl _ s) (Foot.le_refl _) c firstStamp missed
  | .laneSquelch n more => Kept.execLaneSquelch (.refl _ s) (Foot.le_refl _) n more
  | .laneCodeErrors n disp unexp more => Kept.execLaneCodeErrors (.refl _ s) (Foot.le_refl _) n disp unexp more
  | .laneMarkerError n more => Kept.execLaneMarkerError (.refl _ s) (Foot.le_refl _) n more
  | .cdrLoss n more => Kept.execCdrLoss (.refl _ s) (Foot.le_refl _) n more
  | .deskewOverrun n more => Kept.execDeskewOverrun (.refl _ s) (Foot.le_refl _) n more
  | .lnkRestart src v => Kept.execLnkRestart (.refl _ s) (Foot.le_refl _) src v
  | .sampleDeliver ch samples => Kept.execSampleDeliver (.refl _ s) (Foot.le_refl _) ch samples
  | .dcbClr unit src v => Kept.execDcbClr (.refl _ s) (Foot.le_refl _) unit src v
  | .ddcSwap d src v => Kept.execDdcSwap (.refl _ s) (Foot.le_refl _) d src v
  | .fadeEnd d => Kept.execFadeEnd (.refl _ s) (Foot.le_refl _) d
  | .ddcSyncGo src v => Kept.execDdcSyncGo (.refl _ s) (Foot.le_refl _) src v
  | .ddcSyncAbort src v => Kept.execDdcSyncAbort (.refl _ s) (Foot.le_refl _) src v
  | .ddcSyncReset stamp => Kept.execDdcSyncReset (.refl _ s) (Foot.le_refl _) stamp
  | .ddcRelease stamp => Kept.execDdcRelease (.refl _ s) (Foot.le_refl _) stamp
  | .spectrumRelease source bins => Kept.execSpectrumRelease (.refl _ s) (Foot.le_refl _) source bins
  | .traceSnap source t src v => Kept.execTraceSnap (.refl _ s) (Foot.le_refl _) source t src v
  | .traceReset source t src v => Kept.execTraceReset (.refl _ s) (Foot.le_refl _) source t src v
  | .pipeFail p cause loc => Kept.execPipeFail (.refl _ s) (Foot.le_refl _) p cause loc
  | .pipeReset p src v => Kept.execPipeReset (.refl _ s) (Foot.le_refl _) p src v
  | .patternTestDone p pass => Kept.execPatternTestDone (.refl _ s) (Foot.le_refl _) p pass
  | .spareTakeover src v => Kept.execSpareTakeover (.refl _ s) (Foot.le_refl _) src v
  | .spareRelease src v => Kept.execSpareRelease (.refl _ s) (Foot.le_refl _) src v
  | .spareSwitch isMatch => Kept.execSpareSwitch (.refl _ s) (Foot.le_refl _) isMatch
  | .checkStart src v => Kept.execCheckStart (.refl _ s) (Foot.le_refl _) src v
  | .checkInterval => Kept.execCheckInterval (.refl _ s) (Foot.le_refl _)
  | .checkAbort src v => Kept.execCheckAbort (.refl _ s) (Foot.le_refl _) src v
  | .checkTestDone pass => Kept.execCheckTestDone (.refl _ s) (Foot.le_refl _) pass
  | .slotDecide stamp next delivered real => Kept.execSlotDecide (.refl _ s) (Foot.le_refl _) stamp next delivered real
  | .autoTimer => Kept.execAutoTimer (.refl _ s) (Foot.le_refl _)
  | .trgArm src v => Kept.execTrgArm (.refl _ s) (Foot.le_refl _) src v
  | .trgForce src v => Kept.execTrgForce (.refl _ s) (Foot.le_refl _) src v
  | .trgLogPop src v => Kept.execTrgLogPop (.refl _ s) (Foot.le_refl _) src v
  | .seqReset src v => Kept.execSeqReset (.refl _ s) (Foot.le_refl _) src v
  | .trigOutPulse k t => Kept.execTrigOutPulse (.refl _ s) (Foot.le_refl _) k t
  | .trigOutEnd k => Kept.execTrigOutEnd (.refl _ s) (Foot.le_refl _) k
  | .remoteTriggerRx p txId instant node cause hops => Kept.execRemoteTriggerRx (.refl _ s) (Foot.le_refl _) p txId instant node cause hops
  | .acqArm u src v => Kept.execAcqArm (.refl _ s) (Foot.le_refl _) u src v
  | .acqStop u src v => Kept.execAcqStop (.refl _ s) (Foot.le_refl _) u src v
  | .acqAbort u src v => Kept.execAcqAbort (.refl _ s) (Foot.le_refl _) u src v
  | .lrdWrite u src v => Kept.execLrdWrite (.refl _ s) (Foot.le_refl _) u src v
  | .segmentEntry u => Kept.execSegmentEntry (.refl _ s) (Foot.le_refl _) u
  | .stagingOverrun u => Kept.execStagingOverrun (.refl _ s) (Foot.le_refl _) u
  | .stagingResume u => Kept.execStagingResume (.refl _ s) (Foot.le_refl _) u
  | .circularPostStop u => Kept.execCircularPostStop (.refl _ s) (Foot.le_refl _) u
  | .autoRearm u => Kept.execAutoRearm (.refl _ s) (Foot.le_refl _) u
  | .containerBlock u => Kept.execContainerBlock (.refl _ s) (Foot.le_refl _) u
  | .nebTimer => Kept.execNebTimer (.refl _ s) (Foot.le_refl _)
  | .nebSwap src v => Kept.execNebSwap (.refl _ s) (Foot.le_refl _) src v
  | .nebClear src v => Kept.execNebClear (.refl _ s) (Foot.le_refl _) src v
  | .nebHold src v => Kept.execNebHold (.refl _ s) (Foot.le_refl _) src v
  | .nebRelease src v => Kept.execNebRelease (.refl _ s) (Foot.le_refl _) src v
  | .swapEdge => Kept.execSwapEdge (.refl _ s) (Foot.le_refl _)
  | .publicationComplete => Kept.execPublicationComplete (.refl _ s) (Foot.le_refl _)
  | .holdExpired => Kept.execHoldExpired (.refl _ s) (Foot.le_refl _)
  | .vblank => Kept.execVblank (.refl _ s) (Foot.le_refl _)
  | .dpyCommit src v => Kept.execDpyCommit (.refl _ s) (Foot.le_refl _) src v
  | .commitLand => Kept.execCommitLand (.refl _ s) (Foot.le_refl _)
  | .composeStart => Kept.execComposeStart (.refl _ s) (Foot.le_refl _)
  | .densityLockRelease => Kept.execDensityLockRelease (.refl _ s) (Foot.le_refl _)
  | .scanoutLine line composed => Kept.execScanoutLine (.refl _ s) (Foot.le_refl _) line composed
  | .teInEdge rising => Kept.execTeInEdge (.refl _ s) (Foot.le_refl _) rising
  | .teMiss => Kept.execTeMiss (.refl _ s) (Foot.le_refl _)
  | .linkTrained rate lanes ok => Kept.execLinkTrained (.refl _ s) (Foot.le_refl _) rate lanes ok
  | .hpdIrq lost => Kept.execHpdIrq (.refl _ s) (Foot.le_refl _) lost
  | .hpdUnplug => Kept.execHpdUnplug (.refl _ s) (Foot.le_refl _)
  | .hpdPlug => Kept.execHpdPlug (.refl _ s) (Foot.le_refl _)
  | .auxGo src v => Kept.execAuxGo (.refl _ s) (Foot.le_refl _) src v
  | .auxDone result data => Kept.execAuxDone (.refl _ s) (Foot.le_refl _) result data
  | .lodStart core src v => Kept.execLodStart (.refl _ s) (Foot.le_refl _) core src v
  | .lodStop core src v => Kept.execLodStop (.refl _ s) (Foot.le_refl _) core src v
  | .lodDoor core src v => Kept.execLodDoor (.refl _ s) (Foot.le_refl _) core src v
  | .lodTimer core => Kept.execLodTimer (.refl _ s) (Foot.le_refl _) core
  | .tapEntry core q => Kept.execTapEntry (.refl _ s) (Foot.le_refl _) core q
  | .interruptEntry core => Kept.execInterruptEntry (.refl _ s) (Foot.le_refl _) core
  | .budgetOverrun core => Kept.execBudgetOverrun (.refl _ s) (Foot.le_refl _) core
  | .lodBusyWindow core mstall => Kept.execLodBusyWindow (.refl _ s) (Foot.le_refl _) core mstall
  | .nop core w => Kept.execNop (.refl _ s) (Foot.le_refl _) core w
  | .wait core w => Kept.execWait (.refl _ s) (Foot.le_refl _) core w
  | .reti core w => Kept.execReti (.refl _ s) (Foot.le_refl _) core w
  | .rts core w => Kept.execRts (.refl _ s) (Foot.le_refl _) core w
  | .ei core w => Kept.execEi (.refl _ s) (Foot.le_refl _) core w
  | .di core w => Kept.execDi (.refl _ s) (Foot.le_refl _) core w
  | .trap core w => Kept.execTrap (.refl _ s) (Foot.le_refl _) core w
  | .sig core w => Kept.execSig (.refl _ s) (Foot.le_refl _) core w
  | .hostev core w => Kept.execHostev (.refl _ s) (Foot.le_refl _) core w
  | .clrv core w => Kept.execClrv (.refl _ s) (Foot.le_refl _) core w
  | .bra core w => Kept.execBra (.refl _ s) (Foot.le_refl _) core w
  | .bcc core w => Kept.execBcc (.refl _ s) (Foot.le_refl _) core w
  | .call core w => Kept.execCall (.refl _ s) (Foot.le_refl _) core w
  | .rep core w => Kept.execRep (.refl _ s) (Foot.le_refl _) core w
  | .loop core w => Kept.execLoop (.refl _ s) (Foot.le_refl _) core w
  | .add core w => Kept.execAdd (.refl _ s) (Foot.le_refl _) core w
  | .sub core w => Kept.execSub (.refl _ s) (Foot.le_refl _) core w
  | .and core w => Kept.execAnd (.refl _ s) (Foot.le_refl _) core w
  | .or core w => Kept.execOr (.refl _ s) (Foot.le_refl _) core w
  | .xor core w => Kept.execXor (.refl _ s) (Foot.le_refl _) core w
  | .asr core w => Kept.execAsr (.refl _ s) (Foot.le_refl _) core w
  | .lsr core w => Kept.execLsr (.refl _ s) (Foot.le_refl _) core w
  | .shl core w => Kept.execShl (.refl _ s) (Foot.le_refl _) core w
  | .cmp core w => Kept.execCmp (.refl _ s) (Foot.le_refl _) core w
  | .mov core w => Kept.execMov (.refl _ s) (Foot.le_refl _) core w
  | .neg core w => Kept.execNeg (.refl _ s) (Foot.le_refl _) core w
  | .abs core w => Kept.execAbs (.refl _ s) (Foot.le_refl _) core w
  | .aluiAdd core w => Kept.execAluiAdd (.refl _ s) (Foot.le_refl _) core w
  | .aluiSub core w => Kept.execAluiSub (.refl _ s) (Foot.le_refl _) core w
  | .aluiAnd core w => Kept.execAluiAnd (.refl _ s) (Foot.le_refl _) core w
  | .aluiOr core w => Kept.execAluiOr (.refl _ s) (Foot.le_refl _) core w
  | .aluiXor core w => Kept.execAluiXor (.refl _ s) (Foot.le_refl _) core w
  | .aluiAsr core w => Kept.execAluiAsr (.refl _ s) (Foot.le_refl _) core w
  | .aluiLsr core w => Kept.execAluiLsr (.refl _ s) (Foot.le_refl _) core w
  | .aluiShl core w => Kept.execAluiShl (.refl _ s) (Foot.le_refl _) core w
  | .aluiCmp core w => Kept.execAluiCmp (.refl _ s) (Foot.le_refl _) core w
  | .aluiMov core w => Kept.execAluiMov (.refl _ s) (Foot.le_refl _) core w
  | .aluiNeg core w => Kept.execAluiNeg (.refl _ s) (Foot.le_refl _) core w
  | .aluiAbs core w => Kept.execAluiAbs (.refl _ s) (Foot.le_refl _) core w
  | .mpy core w => Kept.execMpy (.refl _ s) (Foot.le_refl _) core w
  | .mac core w => Kept.execMac (.refl _ s) (Foot.le_refl _) core w
  | .msu core w => Kept.execMsu (.refl _ s) (Foot.le_refl _) core w
  | .cmpy core w => Kept.execCmpy (.refl _ s) (Foot.le_refl _) core w
  | .cmac core w => Kept.execCmac (.refl _ s) (Foot.le_refl _) core w
  | .cmacj core w => Kept.execCmacj (.refl _ s) (Foot.le_refl _) core w
  | .cmsu core w => Kept.execCmsu (.refl _ s) (Foot.le_refl _) core w
  | .clra core w => Kept.execClra (.refl _ s) (Foot.le_refl _) core w
  | .adda core w => Kept.execAdda (.refl _ s) (Foot.le_refl _) core w
  | .suba core w => Kept.execSuba (.refl _ s) (Foot.le_refl _) core w
  | .ash core w => Kept.execAsh (.refl _ s) (Foot.le_refl _) core w
  | .mva core w => Kept.execMva (.refl _ s) (Foot.le_refl _) core w
  | .mvda core w => Kept.execMvda (.refl _ s) (Foot.le_refl _) core w
  | .ld core w => Kept.execLd (.refl _ s) (Foot.le_refl _) core w
  | .st core acc w => Kept.execSt (.refl _ s) (Foot.le_refl _) core acc w
  | .ldl core w => Kept.execLdl (.refl _ s) (Foot.le_refl _) core w
  | .stl core w => Kept.execStl (.refl _ s) (Foot.le_refl _) core w
  | .move core w => Kept.execMove (.refl _ s) (Foot.le_refl _) core w
  | .ldg core w => Kept.execLdg (.refl _ s) (Foot.le_refl _) core w
  | .addg core w => Kept.execAddg (.refl _ s) (Foot.le_refl _) core w
  | .tget core w => Kept.execTget (.refl _ s) (Foot.le_refl _) core w
  | .mvs core w => Kept.execMvs (.refl _ s) (Foot.le_refl _) core w
  | .mvt core w => Kept.execMvt (.refl _ s) (Foot.le_refl _) core w
  | .ldi core w imm => Kept.execLdi (.refl _ s) (Foot.le_refl _) core w imm
  | .lda core w imm => Kept.execLda (.refl _ s) (Foot.le_refl _) core w imm
  | .sta core w imm => Kept.execSta (.refl _ s) (Foot.le_refl _) core w imm
  | .dmaStart k src v => Kept.execDmaStart (.refl _ s) (Foot.le_refl _) k src v
  | .dmaStop k src v => Kept.execDmaStop (.refl _ s) (Foot.le_refl _) k src v
  | .dmaAbort k beats host src v => Kept.execDmaAbort (.refl _ s) (Foot.le_refl _) k beats host src v
  | .kick k src v => Kept.execKick (.refl _ s) (Foot.le_refl _) k src v
  | .dmaHeadWrite k src v => Kept.execDmaHeadWrite (.refl _ s) (Foot.le_refl _) k src v
  | .descriptorFetch k => Kept.execDescriptorFetch (.refl _ s) (Foot.le_refl _) k
  | .descriptorComplete k host => Kept.execDescriptorComplete (.refl _ s) (Foot.le_refl _) k host
  | .beatRefused k read beats detail host => Kept.execBeatRefused (.refl _ s) (Foot.le_refl _) k read beats detail host
  | .barrierArm b src v => Kept.execBarrierArm (.refl _ s) (Foot.le_refl _) b src v
  | .chkReset n src v => Kept.execChkReset (.refl _ s) (Foot.le_refl _) n src v
  | .agePromote path index => Kept.execAgePromote (.refl _ s) (Foot.le_refl _) path index
  | .hostLinkUp width speed bme msixEn funcMask => Kept.execHostLinkUp (.refl _ s) (Foot.le_refl _) width speed bme msixEn funcMask
  | .hostLinkReset p => Kept.execHostLinkReset (.refl _ s) (Foot.le_refl _) p
  | .functionLevelReset p => Kept.execFunctionLevelReset (.refl _ s) (Foot.le_refl _) p
  | .hostCompletionTimeout k beats host => Kept.execHostCompletionTimeout (.refl _ s) (Foot.le_refl _) k beats host
  | .msixMessage vec => Kept.execMsixMessage (.refl _ s) (Foot.le_refl _) vec
  | .bar2Access addr write bytes rivals => Kept.execBar2Access (.refl _ s) (Foot.le_refl _) addr write bytes rivals
  | .bar4Access addr write bytes rivals => Kept.execBar4Access (.refl _ s) (Foot.le_refl _) addr write bytes rivals
  | .driveBringup d ok lba metadata nsze mdts mqes => Kept.execDriveBringup (.refl _ s) (Foot.le_refl _) d ok lba metadata nsze mdts mqes
  | .writeComplete d n sct sc cid => Kept.execWriteComplete (.refl _ s) (Foot.le_refl _) d n sct sc cid
  | .nvmeTimeout d n cid => Kept.execNvmeTimeout (.refl _ s) (Foot.le_refl _) d n cid
  | .driveFail d linkLost => Kept.execDriveFail (.refl _ s) (Foot.le_refl _) d linkLost
  | .sptReinit mask src v => Kept.execSptReinit (.refl _ s) (Foot.le_refl _) mask src v
  | .sptFlush src v => Kept.execSptFlush (.refl _ s) (Foot.le_refl _) src v
  | .flushComplete err => Kept.execFlushComplete (.refl _ s) (Foot.le_refl _) err
  | .refresh ch bank c0 => Kept.execRefresh (.refl _ s) (Foot.le_refl _) ch bank c0
  | .tempRead c tA tB => Kept.execTempRead (.refl _ s) (Foot.le_refl _) c tA tB
  | .retrainInterval ch => Kept.execRetrainInterval (.refl _ s) (Foot.le_refl _) ch
  | .memTrain src v => Kept.execMemTrain (.refl _ s) (Foot.le_refl _) src v
  | .trainStepDone ok => Kept.execTrainStepDone (.refl _ s) (Foot.le_refl _) ok
  | .trainRetry ok => Kept.execTrainRetry (.refl _ s) (Foot.le_refl _) ok
  | .trainingDone ok => Kept.execTrainingDone (.refl _ s) (Foot.le_refl _) ok
  | .freqGo src v => Kept.execFreqGo (.refl _ s) (Foot.le_refl _) src v
  | .rowActivate ch bank row req => Kept.execRowActivate (.refl _ s) (Foot.le_refl _) ch bank row req
  | .throttleEnd ch bank req => Kept.execThrottleEnd (.refl _ s) (Foot.le_refl _) ch bank req
  | .patrolScrub word errors => Kept.execPatrolScrub (.refl _ s) (Foot.le_refl _) word errors
  | .rowSpareDone ch bank row => Kept.execRowSpareDone (.refl _ s) (Foot.le_refl _) ch bank row
  | .adcSlot measure raw0 raw1 => Kept.execAdcSlot (.refl _ s) (Foot.le_refl _) measure raw0 raw1
  | .inj src v => Kept.execInj (.refl _ s) (Foot.le_refl _) src v
  | .calGo src v => Kept.execCalGo (.refl _ s) (Foot.le_refl _) src v
  | .calPointDone => Kept.execCalPointDone (.refl _ s) (Foot.le_refl _)
  | .calApply src v => Kept.execCalApply (.refl _ s) (Foot.le_refl _) src v
  | .diagGo src v => Kept.execDiagGo (.refl _ s) (Foot.le_refl _) src v
  | .diagAbort src v => Kept.execDiagAbort (.refl _ s) (Foot.le_refl _) src v
  | .diagDone => Kept.execDiagDone (.refl _ s) (Foot.le_refl _)
  | .loopCompute l => Kept.execLoopCompute (.refl _ s) (Foot.le_refl _) l
  | .clrFault l src v => Kept.execClrFault (.refl _ s) (Foot.le_refl _) l src v
  | .pwmPeriod p => Kept.execPwmPeriod (.refl _ s) (Foot.le_refl _) p
  | .spiGo m src v => Kept.execSpiGo (.refl _ s) (Foot.le_refl _) m src v
  | .spiDone m rx => Kept.execSpiDone (.refl _ s) (Foot.le_refl _) m rx
  | .ssGo src v => Kept.execSsGo (.refl _ s) (Foot.le_refl _) src v
  | .ssStop src v => Kept.execSsStop (.refl _ s) (Foot.le_refl _) src v
  | .ssAbort src v => Kept.execSsAbort (.refl _ s) (Foot.le_refl _) src v
  | .stepStart => Kept.execStepStart (.refl _ s) (Foot.le_refl _)
  | .gateOpen => Kept.execGateOpen (.refl _ s) (Foot.le_refl _)
  | .stepEnd => Kept.execStepEnd (.refl _ s) (Foot.le_refl _)
  | .stepLate => Kept.execStepLate (.refl _ s) (Foot.le_refl _)
  | .portUp p delay peer count c healed => Kept.execPortUp (.refl _ s) (Foot.le_refl _) p delay peer count c healed
  | .portDown p cause remote members => Kept.execPortDown (.refl _ s) (Foot.le_refl _) p cause remote members
  | .frameResend p => Kept.execFrameResend (.refl _ s) (Foot.le_refl _) p
  | .beaconSend => Kept.execBeaconSend (.refl _ s) (Foot.le_refl _)
  | .beaconReceive p tTx tq tRx c => Kept.execBeaconReceive (.refl _ s) (Foot.le_refl _) p tTx tq tRx c
  | .bcast src v => Kept.execBcast (.refl _ s) (Foot.le_refl _) src v
  | .broadcastDeliver sender data => Kept.execBroadcastDeliver (.refl _ s) (Foot.le_refl _) sender data
  | .bcPop src v => Kept.execBcPop (.refl _ s) (Foot.le_refl _) src v
  | .arrive src v => Kept.execArrive (.refl _ s) (Foot.le_refl _) src v
  | .barrierRelease stamp lost => Kept.execBarrierRelease (.refl _ s) (Foot.le_refl _) stamp lost
  | .cstSnap src v => Kept.execCstSnap (.refl _ s) (Foot.le_refl _) src v
  | .snapshotCapture request => Kept.execSnapshotCapture (.refl _ s) (Foot.le_refl _) request
  | .cstApply src v => Kept.execCstApply (.refl _ s) (Foot.le_refl _) src v
  | .applyPrepare groups => Kept.execApplyPrepare (.refl _ s) (Foot.le_refl _) groups
  | .applyCommit e => Kept.execApplyCommit (.refl _ s) (Foot.le_refl _) e
  | .cstReset src v => Kept.execCstReset (.refl _ s) (Foot.le_refl _) src v
  | .systemReset request => Kept.execSystemReset (.refl _ s) (Foot.le_refl _) request
  | .opTimeout k => Kept.execOpTimeout (.refl _ s) (Foot.le_refl _) k
  | .registerWrite src addr size v => Kept.execRegisterWrite (.refl _ s) (Foot.le_refl _) src addr size v
  | .setAlias src addr v => Kept.execSetAlias (.refl _ s) (Foot.le_refl _) src addr v
  | .clearAlias src addr v => Kept.execClearAlias (.refl _ s) (Foot.le_refl _) src addr v
  | .toggleAlias src addr v => Kept.execToggleAlias (.refl _ s) (Foot.le_refl _) src addr v
  | .readClear src addr size => Kept.execReadClear (.refl _ s) (Foot.le_refl _) src addr size
  | .latchingRead src addr size => Kept.execLatchingRead (.refl _ s) (Foot.le_refl _) src addr size
  | .groupWrite w src v => Kept.execGroupWrite (.refl _ s) (Foot.le_refl _) w src v
  | .guardPass => Kept.execGuardPass (.refl _ s) (Foot.le_refl _)
  | .cfgcrcRefWrite src v => Kept.execCfgcrcRefWrite (.refl _ s) (Foot.le_refl _) src v
  | .errLogPop src v => Kept.execErrLogPop (.refl _ s) (Foot.le_refl _) src v
  | .headerRead => Kept.execHeaderRead (.refl _ s) (Foot.le_refl _)
  | .imageCheck ownFmt sigOk => Kept.execImageCheck (.refl _ s) (Foot.le_refl _) ownFmt sigOk
  | .firmwareStart => Kept.execFirmwareStart (.refl _ s) (Foot.le_refl _)
  | .standbyLoaded ok => Kept.execStandbyLoaded (.refl _ s) (Foot.le_refl _) ok
  | .regRecord => Kept.execRegRecord (.refl _ s) (Foot.le_refl _)
  | .maskRecord => Kept.execMaskRecord (.refl _ s) (Foot.le_refl _)
  | .sramRecord => Kept.execSramRecord (.refl _ s) (Foot.le_refl _)
  | .powerRecord => Kept.execPowerRecord (.refl _ s) (Foot.le_refl _)
  | .waitRecord => Kept.execWaitRecord (.refl _ s) (Foot.le_refl _)
  | .waitRecordTimeout => Kept.execWaitRecordTimeout (.refl _ s) (Foot.le_refl _)
  | .applyRecord => Kept.execApplyRecord (.refl _ s) (Foot.le_refl _)
  | .crcrefRecord => Kept.execCrcrefRecord (.refl _ s) (Foot.le_refl _)
  | .endRecord => Kept.execEndRecord (.refl _ s) (Foot.le_refl _)
  | .hostCfgTimeout => Kept.execHostCfgTimeout (.refl _ s) (Foot.le_refl _)
  | .updStart src v => Kept.execUpdStart (.refl _ s) (Foot.le_refl _) src v
  | .updAbort src v => Kept.execUpdAbort (.refl _ s) (Foot.le_refl _) src v
  | .dataBlock src v => Kept.execDataBlock (.refl _ s) (Foot.le_refl _) src v
  | .copyBlock src v => Kept.execCopyBlock (.refl _ s) (Foot.le_refl _) src v
  | .fillBlock src v => Kept.execFillBlock (.refl _ s) (Foot.le_refl _) src v
  | .endBlock src v => Kept.execEndBlock (.refl _ s) (Foot.le_refl _) src v
  | .blockProgrammed => Kept.execBlockProgrammed (.refl _ s) (Foot.le_refl _)
  | .slotVerify ownFmt sigOk => Kept.execSlotVerify (.refl _ s) (Foot.le_refl _) ownFmt sigOk
  | .flashFail => Kept.execFlashFail (.refl _ s) (Foot.le_refl _)
  | .handover src v => Kept.execHandover (.refl _ s) (Foot.le_refl _) src v
  | .handoverSwitch => Kept.execHandoverSwitch (.refl _ s) (Foot.le_refl _)
  | .handoverResume => Kept.execHandoverResume (.refl _ s) (Foot.le_refl _)
  | .confirm src v => Kept.execConfirm (.refl _ s) (Foot.le_refl _) src v
  | .revert src v => Kept.execRevert (.refl _ s) (Foot.le_refl _) src v
  | .bootnext src v => Kept.execBootnext (.refl _ s) (Foot.le_refl _) src v
  | .loadstby src v => Kept.execLoadstby (.refl _ s) (Foot.le_refl _) src v
  | .trialExpiry => Kept.execTrialExpiry (.refl _ s) (Foot.le_refl _)
  | .watchdogExpiry standby => Kept.execWatchdogExpiry (.refl _ s) (Foot.le_refl _) standby
  | .fltAck src v => Kept.execFltAck (.refl _ s) (Foot.le_refl _) src v
  | .faultLogPop src v => Kept.execFaultLogPop (.refl _ s) (Foot.le_refl _) src v
  | .sramScrub word errors => Kept.execSramScrub (.refl _ s) (Foot.le_refl _) word errors
  | .sramRowSpared => Kept.execSramRowSpared (.refl _ s) (Foot.le_refl _)
  | .thermSample tj sensor => Kept.execThermSample (.refl _ s) (Foot.le_refl _) tj sensor
  | .pwrUp d src v => Kept.execPwrUp (.refl _ s) (Foot.le_refl _) d src v
  | .pwrDown d p src v => Kept.execPwrDown (.refl _ s) (Foot.le_refl _) d p src v
  | .pwrForce d p src v => Kept.execPwrForce (.refl _ s) (Foot.le_refl _) d p src v
  | .domainOn d p => Kept.execDomainOn (.refl _ s) (Foot.le_refl _) d p
  | .restoreDone d => Kept.execRestoreDone (.refl _ s) (Foot.le_refl _) d
  | .drainDone d p => Kept.execDrainDone (.refl _ s) (Foot.le_refl _) d p
  | .drainTimeout d => Kept.execDrainTimeout (.refl _ s) (Foot.le_refl _) d
  | .domainOff d => Kept.execDomainOff (.refl _ s) (Foot.le_refl _) d
  | .slSyncnRise c => Kept.execSlSyncnRise (.refl _ s) (Foot.le_refl _) c
  | .driveLinkUp d width speed => Kept.execDriveLinkUp (.refl _ s) (Foot.le_refl _) d width speed
  | .pwmActiveEnd p => Kept.execPwmActiveEnd (.refl _ s) (Foot.le_refl _) p
  | .beaconReply p stamp => Kept.execBeaconReply (.refl _ s) (Foot.le_refl _) p stamp
  | .arrivalReport p => Kept.execArrivalReport (.refl _ s) (Foot.le_refl _) p
  | .verdictReport p node code => Kept.execVerdictReport (.refl _ s) (Foot.le_refl _) p node code

/-- What a command that completes leaves: the queue, the registers and the parts its footprint leaves out, and soundness. -/
theorem Kept.of_exec {c : Instr} {s t : State} (h : exec c s = .next t) : Kept (footOf c) s t := by
  obtain ⟨t', ht, hk⟩ := exec_kept s c
  obtain rfl : t = t' := Host.Outcome.next.inj (h.symm.trans ht)
  exact hk

/-- Settles O5: the frame laws of the meanings, gathered over the table. -/
theorem commandsKeepTheirFrame : Obligations.CommandsKeepTheirFrame := fun _ _ _ h => (Kept.of_exec h).frame

/-! ### A step keeps the state sound -/

/-- An idle step keeps the state sound: it acts on the Almanac and the fault records alone. -/
theorem State.sound_idle {s : State} (h : s.sound) : s.idle.sound := (Kept.idle (Kept.refl _ s) (Foot.le_refl _)).sound h

/-- Settles O4: a step idles or runs the command at the front, and each keeps the state sound; the queue is no part of
soundness. -/
theorem everyStepKeepsSound : Obligations.EveryStepKeepsSound := by
  intro s t hs hstep
  unfold step at hstep
  split at hstep
  · obtain rfl := Host.Outcome.next.inj hstep
    exact State.sound_idle hs
  · exact (Kept.of_exec hstep).sound hs

/-- Settles O1: the front of the queue is what a step matches on. -/
theorem stepTakesFront : Obligations.StepTakesFront := fun _ _ => rfl

/-- Settles O3: every map of the reset state is empty, so each read returns its default. -/
theorem resetState : Obligations.ResetState := by
  refine ⟨by decide +kernel, rfl, rfl, fun _ => rfl, fun _ => rfl, fun _ => rfl, fun _ => rfl, fun _ => rfl, ?_, ?_⟩
  · exact ⟨rfl, rfl, rfl, rfl, rfl, rfl⟩
  · unfold State.logsFit; decide

end Sys2Proof.Machine
end

section
/-! PROOFS. Reads of a state that a chain of updates has made: fields by their registers alone, fields that share no bit,
fields of other windows, and what the shared operations of PWR, SYS and FLT leave. -/

namespace Sys2Proof.Machine

/-! ### A field depends on its register map alone

These are proved by `(rfl)`, so that `simp` keeps them as steps of a proof: left to unfolding, the kernel would look the
registers up in the tables of the manual. -/

/-- The field f of a register map. -/
def regField (m : SMap Word) (f : Fld) : Nat := bitsOf (SMap.get resetWord m f.addr) f.lo f.n

/-- The field f of a map of applied copies. -/
def appField (m : SMap Word) (f : Fld) : Nat := bitsOf (SMap.get appliedDefault m f.addr) f.lo f.n

@[simp] theorem regField_regs (s : State) (f : Fld) : regField s.regs f = s.get f := (rfl)

@[simp] theorem appField_applied (s : State) (f : Fld) : appField s.applied f = s.app f := (rfl)

@[simp] theorem SMap.get_regs (s : State) (a : Nat) : SMap.get resetWord s.regs a = s.word a := (rfl)

@[simp] theorem SMap.get_applied (s : State) (a : Nat) : SMap.get appliedDefault s.applied a = s.appWord a := (rfl)

section
variable (pe : List Instr) (re ap la : SMap Word) (sr gd fl : SMap Byte) (fr : Nat) (rs : Option Resp) (pi : Pins)
  (sy : SysSt) (ft : FltSt) (pw : PwrSt) (al : AlmSt) (ln : LnkSt) (fc : FcvSt) (dd : DdcSt) (ff : FftSt) (tr : TrgSt)
  (ac : AcqSt) (ne : NebSt) (dp : DpySt) (lo : LodSt) (dm : DmaSt) (hp : HptSt) (sp : SptSt) (me : MemSt) (au : AuxSt)
  (sv : SrvSt) (cs : CstSt) (up : UpdSt) (bo : BootSt)

@[simp] theorem State.get_mk (f : Fld) : (State.mk pe re ap la sr gd fl fr rs pi sy ft pw al ln fc dd ff tr ac ne dp lo dm hp
    sp me au sv cs up bo).get f = regField re f := (rfl)

@[simp] theorem State.dev_mk : (State.mk pe re ap la sr gd fl fr rs pi sy ft pw al ln fc dd ff tr ac ne dp lo dm hp sp me au sv
    cs up bo).dev = regField re SYS_STATE.STATE := (rfl)

@[simp] theorem State.app_mk (f : Fld) : (State.mk pe re ap la sr gd fl fr rs pi sy ft pw al ln fc dd ff tr ac ne dp lo dm hp
    sp me au sv cs up bo).app f = appField ap f := (rfl)

@[simp] theorem State.word_mk (a : Nat) : (State.mk pe re ap la sr gd fl fr rs pi sy ft pw al ln fc dd ff tr ac ne dp lo dm hp
    sp me au sv cs up bo).word a = SMap.get resetWord re a := (rfl)

@[simp] theorem State.appWord_mk (a : Nat) : (State.mk pe re ap la sr gd fl fr rs pi sy ft pw al ln fc dd ff tr ac ne dp lo dm
    hp sp me au sv cs up bo).appWord a = SMap.get appliedDefault ap a := (rfl)

end

/-! ### Fields after a write of another -/

/-- Field f fits its word, and shares no bit with g: as one test that evaluates, also where an index is left open and the
places in the word decide. -/
def Fld.clear (f g : Fld) : Bool :=
  Nat.ble (f.lo + f.n) 32 && (Nat.ble (f.lo + f.n) g.lo || Nat.ble (g.lo + g.n) f.lo || f.addr != g.addr)

theorem Fld.apart_of_clear {f g : Fld} (h : f.clear g = true) : f.lo + f.n ≤ 32 ∧ f.apart g := by
  simp only [Fld.clear, Bool.and_eq_true, Bool.or_eq_true, Nat.ble_eq, bne_iff_ne] at h
  obtain ⟨hw, (h | h) | h⟩ := h
  · exact ⟨hw, .inr (.inl h)⟩
  · exact ⟨hw, .inr (.inr h)⟩
  · exact ⟨hw, .inl h⟩

theorem State.get_put_clear (s : State) (f g : Fld) (v : Nat) (h : f.clear g = true) : (s.put f v).get g = s.get g :=
  State.get_put_apart s f g v (Fld.apart_of_clear h).1 (Fld.apart_of_clear h).2

theorem State.get_bump_clear (s : State) (f g : Fld) (h : f.clear g = true) : (s.bump f).get g = s.get g :=
  State.get_bump_apart s f g (Fld.apart_of_clear h).1 (Fld.apart_of_clear h).2

/-- A bit that the second operand of an `or` sets. -/
theorem testBit_or_right (v w : Word) {k : Nat} (h : w.toNat.testBit k = true) : (v ||| w).toNat.testBit k = true := by
  rw [BitVec.toNat_or, Nat.testBit_or, h, Bool.or_true]

/-! ### Frames read at a window -/

/-- A footprint leaves a register out, told by the register's window. -/
theorem Foot.word_of_win {F : Foot} {a w : Nat} (h : a / 0x10000 = w) (hw : F.word w = false) : F.word (a / 0x10000) = false :=
  h ▸ hw

/-- What holds of a state and is kept by each step of a fold holds at its end. -/
theorem List.foldl_inv {α β : Type} {P : β → Prop} {g : β → α → β} (hg : ∀ b a, P b → P (g b a)) (l : List α) {b : β}
    (h : P b) : P (l.foldl g b) := by
  induction l generalizing b with
  | nil => exact h
  | cons a l ih => exact ih (hg b a h)

/-! ### Device state -/

theorem State.alive_iff {s : State} : s.alive = true ↔ s.dev ≠ powerOff ∧ s.dev ≠ halt := by
  simp [State.alive]

theorem State.get_setDev (s : State) (d : Nat) {g : Fld} {w : Nat} (h : g.addr / 0x10000 = w) (h0 : w ≠ 0x00) (h15 : w ≠ 0x15) :
    (s.setDev d).get g = s.get g :=
  (Kept.setDev (.refl _ s) (Foot.le_refl _) d).get_of (by simp [Foot.word, h, h0, h15])

@[simp] theorem State.dev_answer (s : State) (d c : Nat) : (s.answer d c).dev = s.dev := rfl

@[simp] theorem State.flt_landed (s : State) (a : Nat) (w : Word) : (s.landed a w).flt = s.flt := rfl

/-! ### Power domains -/

theorem PWR_DOM_STAT.addr_eq_iff {d e : Nat} : PWR_DOM_STAT.addr d = PWR_DOM_STAT.addr e ↔ d % 24 = e % 24 := by
  unfold PWR_DOM_STAT.addr; omega

theorem PWR_DOM_STAT.addr_ne_ON (d : Nat) : PWR_DOM_STAT.addr d ≠ PWR_ON.addr := by
  unfold PWR_DOM_STAT.addr PWR_ON.addr; omega

/-- A field of a domain's status register after a change of a domain's state, where neither is that state. -/
theorem State.get_setDom_clear (s : State) (d st : Nat) {g : Fld} (hc : (PWR_DOM_STAT.STATE d).clear g = true)
    (ha : g.addr ≠ PWR_ON.addr) : (s.setDom d st).get g = s.get g := by
  change ((s.put (PWR_DOM_STAT.STATE d) st).put PWR_ON.ON _).get g = s.get g
  rw [State.get_put_reg _ _ _ _ ha, State.get_put_clear _ _ _ _ hc]

theorem State.dom_setDom_same (s : State) (d : Nat) {st : Nat} (h : st < 8) : (s.setDom d st).dom d = st := by
  change ((s.put (PWR_DOM_STAT.STATE d) st).put PWR_ON.ON _).get (PWR_DOM_STAT.STATE d) = st
  rw [State.get_put_reg _ _ _ _ (PWR_DOM_STAT.addr_ne_ON d), State.get_put_same _ _ _ (by decide : 0 + 3 ≤ 32)]
  exact Nat.mod_eq_of_lt h

theorem State.dom_setDom_ne (s : State) {d e : Nat} (st : Nat) (h : e % 24 ≠ d % 24) : (s.setDom d st).dom e = s.dom e := by
  change ((s.put (PWR_DOM_STAT.STATE d) st).put PWR_ON.ON _).get (PWR_DOM_STAT.STATE e) = s.dom e
  rw [State.get_put_reg _ _ _ _ (PWR_DOM_STAT.addr_ne_ON e), State.get_put_reg _ _ _ _ (mt PWR_DOM_STAT.addr_eq_iff.mp h)]
  rfl

theorem State.dom_setDev (s : State) (v d : Nat) : (s.setDev v).dom d = s.dom d :=
  State.get_setDev s v (PWR_DOM_STAT.addr_win d) (by decide) (by decide)

end Sys2Proof.Machine
end

section
/-! PROOFS. Reset and the supplies: RESET_N, POWER_OFF and the system reset (R16, R503, R577, R592, R608). -/

namespace Sys2Proof.Machine

theorem State.filtered_of_le (s : State) {n : Nat} (h : 1000 ≤ n) : s.filtered n = (true, s) := if_pos h

theorem State.filtered_of_lt (s : State) {n : Nat} (h : n < 500) : s.filtered n = (false, s) := by
  rw [State.filtered, if_neg (by omega), if_pos h]

theorem State.dev_bootStart (s : State) : s.bootStart.dev = Machine.boot := State.dev_setDev _ _ (by decide)

theorem State.flash_bootStart (s : State) : s.bootStart.flash = s.flash :=
  (Kept.bootStart (.refl _ s) (Foot.le_refl _)).part_of .flash rfl

theorem State.dev_powerOffState (s : State) : s.powerOffState.dev = powerOff :=
  show State.reset.dev = powerOff by decide +kernel

/-- The four domains of R583 are on when boot begins. -/
theorem State.dom_bootStart (s : State) {d : Nat} (h : d = dAON ∨ d = dMGMT ∨ d = dMESH ∨ d = dPCIE_H) :
    s.bootStart.dom d = 2 := by
  have hlast (x : State) : (x.setDev Machine.boot).dom d = x.dom d := State.dom_setDev x Machine.boot d
  rcases h with rfl | rfl | rfl | rfl
  · rw [State.bootStart, hlast, State.dom_setDom_ne _ _ (by decide), State.dom_setDom_ne _ _ (by decide),
      State.dom_setDom_ne _ _ (by decide), State.dom_setDom_same _ _ (by decide)]
  · rw [State.bootStart, hlast, State.dom_setDom_ne _ _ (by decide), State.dom_setDom_ne _ _ (by decide),
      State.dom_setDom_same _ _ (by decide)]
  · rw [State.bootStart, hlast, State.dom_setDom_ne _ _ (by decide), State.dom_setDom_same _ _ (by decide)]
  · rw [State.bootStart, hlast, State.dom_setDom_same _ _ (by decide)]

/-- A frame sent down the tree changes the outboxes of the ports alone. -/
theorem State.resetAt_cstDown (s : State) (m : CstMsg) : (s.cstDown m).cst.resetAt = s.cst.resetAt :=
  List.foldl_inv (P := fun t : State => t.cst.resetAt = s.cst.resetAt) (g := fun t p => t.cstSend m p) (fun _ _ h => h)
    s.childPorts rfl

/-- Settles O9: each command evaluates to POWER_OFF, to the start of the boot, or to the state it met. -/
theorem resetCommandsComplete : Obligations.ResetCommandsComplete := by
  refine ⟨fun s h => ⟨s.bootStart, ?_, s.dev_bootStart, s.flash_bootStart, fun _ => s.dom_bootStart⟩, fun s n h => ?_,
    fun s n h => ?_, fun s r n h => ?_, fun s a w v h => ?_, fun s T hv hr => ?_, fun s T hT hon hle => ?_⟩
  · exact congrArg Host.Outcome.next (if_pos (beq_iff_eq.mpr h))
  · exact ⟨s.powerOffState, by simp only [exec, execResetNFall, State.filtered_of_le s h, if_true], s.dev_powerOffState, rfl, rfl, rfl, rfl, rfl⟩
  · exact ⟨s, by simp [exec, execResetNFall, State.filtered_of_lt s h], rfl⟩
  · exact ⟨{ s.powerOffState with pwr := { s.powerOffState.pwr with supplyOk := false } },
      by simp only [exec, execSupplyBelowReset, State.filtered_of_le s h, if_true], s.dev_powerOffState, rfl, rfl, rfl, rfl, rfl⟩
  · exact ⟨{ s with resp := none }, congrArg Host.Outcome.next (if_pos (beq_iff_eq.mpr h)), rfl⟩
  · exact ⟨_, by simp only [exec, execSystemReset, hv, hr, Bool.not_false, Bool.and_self, if_true]; rfl, State.resetAt_cstDown _ _⟩
  · refine ⟨s.powerOffState.bootStart, ?_, State.dev_bootStart _, State.flash_bootStart _, ?_, ?_⟩
    · simp only [exec, execSystemReset, hT, hon, hle, decide_true, Bool.and_self, if_true]
    · exact (Kept.bootStart (.refl _ _) (Foot.le_refl _)).part_of .sram rfl
    · exact (Kept.bootStart (.refl _ _) (Foot.le_refl _)).part_of .gddr rfl

end Sys2Proof.Machine
end

section
/-! PROOFS. Faults (chapter 18): what a fault record changes, the fatal faults and HALT, the fault log, the
acknowledgements, the SRAM scrubber and the temperature (R565 to R581). -/

namespace Sys2Proof.Machine

/-! ### What a fault record changes (R566, R568) -/

/-- Of what FLT keeps, a record changes the newest record, the hardware queue and the log alone. -/
theorem State.flt_record (s : State) (cls : FltClass) (code sub window location detail : Nat) :
    ∃ newest hwq log, (s.record cls code sub window location detail).flt
      = { s.flt with newest := newest, hwq := hwq, log := log } := by
  unfold State.record
  dsimp only
  split
  · exact ⟨_, _, _, rfl⟩
  · split
    · exact ⟨_, _, _, rfl⟩
    · rw [State.bump_flt]; exact ⟨_, _, _, rfl⟩

@[simp] theorem State.flt_poison_record (s : State) (cls : FltClass) (code sub window location detail : Nat) :
    (s.record cls code sub window location detail).flt.poison = s.flt.poison := by
  obtain ⟨_, _, _, e⟩ := s.flt_record cls code sub window location detail
  rw [e]

@[simp] theorem State.flt_tripArmed_record (s : State) (cls : FltClass) (code sub window location detail : Nat) :
    (s.record cls code sub window location detail).flt.tripArmed = s.flt.tripArmed := by
  obtain ⟨_, _, _, e⟩ := s.flt_record cls code sub window location detail
  rw [e]

@[simp] theorem State.flt_rowsDue_record (s : State) (cls : FltClass) (code sub window location detail : Nat) :
    (s.record cls code sub window location detail).flt.rowsDue = s.flt.rowsDue := by
  obtain ⟨_, _, _, e⟩ := s.flt_record cls code sub window location detail
  rw [e]

@[simp] theorem State.flt_rowsSpared_record (s : State) (cls : FltClass) (code sub window location detail : Nat) :
    (s.record cls code sub window location detail).flt.rowsSpared = s.flt.rowsSpared := by
  obtain ⟨_, _, _, e⟩ := s.flt_record cls code sub window location detail
  rw [e]

/-- A record counts its sequence number, and a dropped record; no other field changes. -/
theorem State.get_record (s : State) (cls : FltClass) (code sub window location detail : Nat) {g : Fld}
    (hs : FLT_SEQ.SEQ.clear g = true) (hd : FLT_CNT.HWQ_DROP.clear g = true) :
    (s.record cls code sub window location detail).get g = s.get g := by
  unfold State.record
  dsimp only
  split
  · rfl
  · split
    · exact State.get_put_clear s _ _ _ hs
    · rw [State.get_bump_clear _ _ _ hd]; exact State.get_put_clear s _ _ _ hs

theorem State.dev_record (s : State) (cls : FltClass) (code sub window location detail : Nat) :
    (s.record cls code sub window location detail).dev = s.dev :=
  State.get_record s _ _ _ _ _ _ rfl rfl

/-- A fatal fault never coalesces: the newest record is its own. -/
theorem State.newest_record_fatal (s : State) (code sub window location detail : Nat) :
    ∃ r, (s.record .fatal code sub window location detail).flt.newest = some r
      ∧ r.code = code ∧ r.cls = .fatal ∧ r.sub = sub % 64 := by
  unfold State.record
  cases hn : s.flt.newest with
  | none =>
    dsimp only
    split
    · exact ⟨_, rfl, rfl, rfl, rfl⟩
    · rw [State.bump_flt]; exact ⟨_, rfl, rfl, rfl, rfl⟩
  | some r =>
    have hcls : (FltClass.fatal != FltClass.fatal) = false := by decide
    simp only [hcls, Bool.false_and, Bool.not_false]
    split
    · exact ⟨_, rfl, rfl, rfl, rfl⟩
    · rw [State.bump_flt]; exact ⟨_, rfl, rfl, rfl, rfl⟩

/-! ### Conditions of FLT_ACTIVE (R569, R570) -/

/-- Setting a condition changes FLT_ACTIVE, the state of the engine and the host port's interrupt registers. -/
theorem State.get_setActive (s : State) (b : Nat) {g : Fld} {w : Nat} (hc : FLT_ACTIVE.ACTIVE.clear g = true)
    (hw : g.addr / 0x10000 = w) (h0 : w ≠ 0x00) (h15 : w ≠ 0x15) : (s.setActive b).get g = s.get g := by
  unfold State.setActive
  dsimp only
  split
  · rw [State.get_setDev _ _ hw h0 h15, State.get_put_clear _ _ _ _ hc]
  · exact State.get_put_clear _ _ _ _ hc

theorem State.flt_setActive (s : State) (b : Nat) : (s.setActive b).flt = s.flt :=
  (Kept.setActive (.refl _ s) (Foot.le_refl _) b).part_of .flt rfl

/-- A Recoverable event leaves every field of FLT's window but FLT_ACTIVE, FLT_SEQ and the drop count. -/
theorem State.get_fltRec (s : State) (b code sub window location detail : Nat) {g : Fld} (hc : FLT_ACTIVE.ACTIVE.clear g = true)
    (hs : FLT_SEQ.SEQ.clear g = true) (hd : FLT_CNT.HWQ_DROP.clear g = true) (hw : g.addr / 0x10000 = 0x1B) :
    (s.fltRec b code sub window location detail).get g = s.get g := by
  rw [State.fltRec, State.get_record _ _ _ _ _ _ _ hs hd, State.get_setActive _ _ hc hw (by decide) (by decide)]

@[simp] theorem State.flt_poison_fltRec (s : State) (b code sub window location detail : Nat) :
    (s.fltRec b code sub window location detail).flt.poison = s.flt.poison := by
  rw [State.fltRec, State.flt_poison_record, State.flt_setActive]

/-! ### Fatal faults (R578) -/

/-- A fatal fault takes an engine that is alive into HALT and is held as the record of the HALT. -/
theorem State.fltFatal_of_alive {s : State} (h : s.alive = true) (code sub window location detail : Nat) :
    (s.fltFatal code sub window location detail).dev = halt ∧ (s.fltFatal code sub window location detail).pins = s.haltPins
      ∧ ∃ r, (s.fltFatal code sub window location detail).flt.fatal = some r ∧ r.code = code ∧ r.cls = .fatal ∧ r.sub = sub % 64 := by
  obtain ⟨hoff, hhalt⟩ := State.alive_iff.mp h
  have hrun : s.fltFatal code sub window location detail
      = (let t := ({ s.setDev halt with pins := s.haltPins } : State).record .fatal code sub window location detail
        { t with flt := { t.flt with fatal := t.flt.newest } }) := by
    simp [State.fltFatal, hoff, hhalt]
  rw [hrun]
  refine ⟨?_, ?_, State.newest_record_fatal _ _ _ _ _ _⟩
  · exact (State.dev_record _ _ _ _ _ _ _).trans (State.dev_setDev s halt (by decide))
  · exact (Kept.record (.refl _ _) (Foot.le_refl _) _ _ _ _ _ _).part_of .pins rfl

/-- A command that ends in a fatal fault of an engine that is alive. -/
theorem Completes.fltFatal {c : Instr} {s x : State} {code sub window location detail : Nat} {P : State → Prop}
    (he : exec c s = .next (x.fltFatal code sub window location detail)) (h : x.alive = true)
    (hp : ∀ t : State, t.dev = halt → t.pins = x.haltPins →
      (∃ r, t.flt.fatal = some r ∧ r.code = code ∧ r.cls = .fatal ∧ r.sub = sub % 64) → P t) : Completes c s P :=
  ⟨_, he, hp _ (State.fltFatal_of_alive h _ _ _ _ _).1 (State.fltFatal_of_alive h _ _ _ _ _).2.1
    (State.fltFatal_of_alive h _ _ _ _ _).2.2⟩

/-- Settles O11: the four faults each end in `fltFatal`, in a standby that loads again, or in a dump taken. -/
theorem fatalFaultCommandsComplete : Obligations.FatalFaultCommandsComplete := by
  refine ⟨fun s rail mv hout h => ?_, fun s h => ?_, fun s h htrial hstby => ?_, fun s h hstby => ?_, fun s len hd hdone h0 hle => ?_⟩
  · refine Completes.fltFatal (congrArg Host.Outcome.next (if_pos hout)) h fun t hd hp ⟨r, hr, hcode, hcls, hsub⟩ => ?_
    exact ⟨hd, hp, r, hr, hcode, hcls, hsub.trans (Nat.mod_eq_of_lt (by omega))⟩
  · refine Completes.fltFatal (x := s.put ALM_STAT.XTAL_OK 0) (congrArg Host.Outcome.next (if_pos h)) ?_
      fun t hd hp ⟨r, hr, hcode, hcls, _⟩ => ⟨hd, hp, r, hr, hcode, hcls⟩
    have hdev : (s.put ALM_STAT.XTAL_OK 0).dev = s.dev := State.get_put_clear _ _ _ _ rfl
    simpa [State.alive, hdev] using h
  · have he : exec (.watchdogExpiry false) s = .next (s.fltFatal 0x3C s.activeCx 0x1B (cxLoc s.activeCx) 0) := by
      simp [exec, execWatchdogExpiry, h, htrial, hstby]
    exact Completes.fltFatal he h fun t hd hp hr => ⟨hd, hp, hr⟩
  · refine ⟨s.put UPD_STAT.STBY yLOADING, by simp [exec, execWatchdogExpiry, h, hstby], ?_, State.get_put_clear _ _ _ _ rfl⟩
    exact State.get_put_same _ _ _ (by decide)
  · have hlen : len.toNat < 2 ^ 9 := len.isLt
    refine ⟨_, by simp only [exec, execDumpDone, hd, hdone, h0, Nat.not_lt.mpr hle, bne_self_eq_false, Bool.or_self, decide_false, Bool.false_eq_true, if_false]; rfl, ?_, ?_, rfl⟩
    · exact State.flag_put_same _ _ _ (by decide) rfl
    · rw [State.get_put_clear _ _ _ _ rfl, State.get_put_same _ _ _ (by decide)]
      exact Nat.mod_eq_of_lt hlen

end Sys2Proof.Machine
end

section
/-! PROOFS. The fault log, its acknowledgements, the SRAM scrubber and the temperature (R568 to R576). -/

namespace Sys2Proof.Machine

/-! ### The fault log (R568) -/

theorem State.moveRecord_of_room {s : State} {r : FltRec} {l : List FltRec} (hq : s.flt.hwq = r :: l) (h : s.flt.log.length < 256) :
    s.moveRecord = ({ s with flt := { s.flt with hwq := l, log := s.flt.log ++ [r] } } : State).raiseIrq 93 := by
  simp [State.moveRecord, hq, h]

theorem State.moveRecord_of_full {s : State} {r : FltRec} {l : List FltRec} (hq : s.flt.hwq = r :: l) (h : 256 ≤ s.flt.log.length) :
    s.moveRecord = (({ s with flt := { s.flt with hwq := l } } : State).bump FLT_LOG_STAT.DROP).put FLT_LOG_STAT.OVF 1 := by
  simp [State.moveRecord, hq, Nat.not_lt.mpr h]

theorem State.flt_raiseIrq (s : State) (n : Nat) : (s.raiseIrq n).flt = s.flt :=
  (Kept.raiseIrq (.refl _ s) (Foot.le_refl _) n).part_of .flt rfl

/-! ### Acknowledgements (R569, R570) -/

/-- An acknowledgement of condition 7 alone conflicts with nothing. -/
theorem ack_seven_accepted (ovf : Bool) :
    ((List.range 10).any fun b => (2 ^ 7).testBit b && b != 7 && b != 9 && ! (b == 8 && ovf)) = false := by
  cases ovf <;> decide

/-- The acknowledgement of no condition conflicts with nothing. -/
theorem ack_none_accepted (ovf : Bool) :
    ((List.range 10).any fun b => (0 : Nat).testBit b && b != 7 && b != 9 && ! (b == 8 && ovf)) = false := by
  cases ovf <;> decide

/-- The last condition clears, and DEGRADED becomes RUN. -/
theorem State.clearActive_last {s : State} {b : Nat} (hd : s.dev = degraded) (ha : setBit (s.get FLT_ACTIVE.ACTIVE) b false = 0) :
    (s.clearActive b).get FLT_ACTIVE.ACTIVE = 0 ∧ (s.clearActive b).dev = run := by
  have hzero : (s.put FLT_ACTIVE.ACTIVE 0).get FLT_ACTIVE.ACTIVE = 0 := State.get_put_same _ _ _ (by decide)
  have hdev : (s.put FLT_ACTIVE.ACTIVE 0).dev = degraded := (State.get_put_clear _ _ _ _ rfl).trans hd
  have he : s.clearActive b = (s.put FLT_ACTIVE.ACTIVE 0).setDev run := by
    simp [State.clearActive, ha, hzero, hdev]
  rw [he]
  exact ⟨(State.get_setDev _ _ (w := 0x1B) rfl (by decide) (by decide)).trans hzero, State.dev_setDev _ _ (by decide)⟩

theorem State.fltAck_seven (s : State) : s.fltAck (2 ^ 7) = s.clearActive 7 := by
  have h7 : (2 ^ 7 : Nat).testBit 7 = true := by decide
  have h8 : (2 ^ 7 : Nat).testBit 8 = false := by decide
  have h9 : (2 ^ 7 : Nat).testBit 9 = false := by decide
  simp only [State.fltAck, h7, h8, h9, if_true, Bool.false_eq_true, if_false]

/-- A write of FLT_CMD that acknowledges condition 7 alone. -/
theorem fltRules_act_ack_seven (src : Source) {w : Word} (x : State) (hack : bitsOf w 16 10 = 2 ^ 7)
    (hpop : w.toNat.testBit 0 = false) : fltRules.act src FLT_CMD.addr w x = .ok (x.clearActive 7) := by
  have hne : ((2 ^ 7 : Nat) == 0) = false := by decide
  simp only [fltRules, beq_self_eq_true, if_true, hack, hpop, ack_seven_accepted, State.fltAck_seven, hne, Bool.false_and,
    Bool.false_eq_true, if_false]

/-- A write of FLT_CMD that pops the log and acknowledges nothing. -/
theorem fltRules_act_pop (src : Source) {w : Word} {x : State} {r : FltRec} {l : List FltRec} (hack : bitsOf w 16 10 = 0)
    (hpop : w.toNat.testBit 0 = true) (hlog : x.flt.log = r :: l) :
    fltRules.act src FLT_CMD.addr w x = .ok { x with flt := { x.flt with log := l } } := by
  simp only [fltRules, beq_self_eq_true, if_true, hack, hpop, ack_none_accepted, hlog, List.isEmpty_cons, Bool.and_false,
    Bool.false_eq_true, if_false, List.drop_one, List.tail_cons]

/-! ### The SRAM scrubber (R571 to R574) -/

/-- A row that falls due leaves the poisoned words as they are (R574). -/
@[simp] theorem State.flt_poison_sramRowDue (s : State) (a : Nat) : (s.sramRowDue a).flt.poison = s.flt.poison := by
  unfold State.sramRowDue
  dsimp only
  split
  · rfl
  · split
    · rfl
    · exact State.flt_poison_fltRec _ _ _ _ _ _ _

theorem State.get_sramRowDue (s : State) (a : Nat) {g : Fld} (hc : FLT_ACTIVE.ACTIVE.clear g = true)
    (hs : FLT_SEQ.SEQ.clear g = true) (hd : FLT_CNT.HWQ_DROP.clear g = true) (hw : g.addr / 0x10000 = 0x1B) :
    (s.sramRowDue a).get g = s.get g := by
  unfold State.sramRowDue
  dsimp only
  split
  · rfl
  · split
    · rfl
    · exact State.get_fltRec _ _ _ _ _ _ _ hc hs hd hw

theorem State.poison_of_room {s : State} (a requester : Nat) (h : s.flt.poison.length < 16) :
    (s.poison a requester).flt.poison = s.flt.poison ++ [a] := by
  simp only [State.poison, State.bump_flt, h, if_true, State.flt_poison_sramRowDue, State.flt_poison_fltRec]
  rfl

/-- A correction of a word at a, already counted, enters the history of its row (R574). -/
def State.rowCorrected (s : State) (a : Nat) : State :=
  let row := Config.sramRow a
  let day : Nat := 86400 * 2 ^ 40
  let kept := (row, s.now) :: s.flt.rowCorr.filter (fun x => decide (s.now.toNat - x.2.toNat < day))
  if s.get FLT_SCRUB.CE_THRESH ≤ (kept.filter (fun x => x.1 == row)).length then
    ({ s with flt := { s.flt with rowCorr := kept.filter (fun x => x.1 != row) } } : State).sramRowDue a
  else { s with flt := { s.flt with rowCorr := kept } }

theorem State.rowCorrected_kept (s : State) (a : Nat) :
    (s.rowCorrected a).get FLT_SRAM_CNT.CE_COUNT = s.get FLT_SRAM_CNT.CE_COUNT ∧ (s.rowCorrected a).flt.poison = s.flt.poison := by
  unfold State.rowCorrected
  dsimp only
  split
  · exact ⟨State.get_sramRowDue _ _ rfl rfl rfl rfl, State.flt_poison_sramRowDue _ _⟩
  · exact ⟨rfl, rfl⟩

/-- The scrubber acts on a word of SRAM that is not poisoned. -/
theorem State.scrubs {s : State} {w : Nat} (h : s.alive = true) (hw : w < 0x01000000) (hp : s.poisoned (w * 8) = false) :
    (! s.alive || decide (0x08000000 ≤ w * 8) || s.poisoned (w * 8)) = false := by
  simp [h, hp]; omega

/-- What the scrubber does with a word that no fault makes unreadable: nothing, a correction, or a poisoned word. -/
theorem sram_sramScrub {s t : State} {w : Nat} {e : Fin 3} (h : exec (.sramScrub w e) s = .next t) : t.sram = s.sram :=
  (Kept.of_exec h).part_of .sram rfl

/-! ### The temperature (R576) -/

theorem satSigned_lt (n : Nat) (v : Int) : satSigned n v < 2 ^ n := by
  unfold satSigned ofSigned
  have hp : (0 : Int) < ((2 ^ n : Nat) : Int) := by exact_mod_cast Nat.two_pow_pos n
  have := Int.emod_lt_of_pos (clampInt (-(2 ^ (n - 1) : Nat)) ((2 ^ (n - 1) : Nat) - 1) v) hp
  have := Int.emod_nonneg (clampInt (-(2 ^ (n - 1) : Nat)) ((2 ^ (n - 1) : Nat) - 1) v) hp.ne'
  omega

/-- THERM_WARN is judged: recorded, armed again, or neither. -/
def State.thermWarn (s : State) (tj : Int) (k : Nat) : State :=
  let warn : Int := s.get FLT_THERM.WARN
  if decide (warn ≤ tj) && s.flt.warnArmed then
    ({ s with flt := { s.flt with warnArmed := false } } : State).fltInfo 0x3D k 0x1B s.mgmtLocation (ofSigned 32 tj)
  else if tj ≤ warn - 2 then { s with flt := { s.flt with warnArmed := true } }
  else s

theorem State.thermWarn_kept (s : State) (tj : Int) (k : Nat) :
    (s.thermWarn tj k).get FLT_THERM.TJ_NOW = s.get FLT_THERM.TJ_NOW ∧ (s.thermWarn tj k).dev = s.dev
      ∧ (s.thermWarn tj k).flt.tripArmed = s.flt.tripArmed := by
  unfold State.thermWarn State.fltInfo
  dsimp only
  split
  · rw [State.get_record _ _ _ _ _ _ _ rfl rfl, State.dev_record, State.flt_tripArmed_record]
    exact ⟨rfl, rfl, rfl⟩
  · split
    · exact ⟨rfl, rfl, rfl⟩
    · exact ⟨rfl, rfl, rfl⟩

/-- The sample taken and THERM_WARN judged, before the trip is. -/
def State.thermTaken (s : State) (tj : Int) (k : Nat) : State := (s.put FLT_THERM.TJ_NOW (satSigned 8 tj)).thermWarn tj k

theorem State.thermTaken_kept (s : State) (tj : Int) (k : Nat) :
    (s.thermTaken tj k).get FLT_THERM.TJ_NOW = satSigned 8 tj ∧ (s.thermTaken tj k).dev = s.dev
      ∧ (s.thermTaken tj k).flt.tripArmed = s.flt.tripArmed := by
  obtain ⟨htj, hdev, htrip⟩ := (s.put FLT_THERM.TJ_NOW (satSigned 8 tj)).thermWarn_kept tj k
  refine ⟨htj.trans ?_, hdev.trans (State.get_put_clear _ _ _ _ rfl), htrip.trans (by rw [State.put_flt])⟩
  exact (State.get_put_same _ _ _ (by decide)).trans (Nat.mod_eq_of_lt (satSigned_lt 8 tj))

theorem execThermSample_eq {s : State} (hoff : s.dev ≠ powerOff) {k : BitVec 6} (hk : k.toNat < 16) (tj : Int) :
    execThermSample tj k s = .next (let t := s.thermTaken tj k.toNat
      if 120 ≤ tj && t.flt.tripArmed then
        ({ t with flt := { t.flt with tripArmed := false } } : State).fltFatal 0x3E k.toNat 0x1B t.mgmtLocation (ofSigned 32 tj)
      else if tj < 118 then { t with flt := { t.flt with tripArmed := true } }
      else t) := by
  have hguard : (s.dev == powerOff || decide (16 ≤ k.toNat)) = false := by simp [hoff, hk]
  unfold execThermSample
  rw [if_neg (by simpa using hguard)]
  rfl

/-- Settles O12: each command's own branch, and the frames of the records that it makes. -/
theorem faultLogCommandsComplete : Obligations.FaultLogCommandsComplete := by
  refine ⟨fun s r l h hf hq hlog => ?_, fun s r l h hf hq hlog => ?_, fun s src v ha hack hpop hd hact => ?_,
    fun s src v r l ha hack hlog => ?_, fun s w h hw hp hroom => ?_, fun s w h hw hp hcnt => ?_, fun s w => ?_,
    fun s row l h hdue => ?_, fun s tj k hoff hk htj => ?_, fun s tj k h hk htj harm => ?_⟩
  · refine ⟨s.moveRecord, by simp [exec, execFaultLogMove, h, hf], ?_, ?_⟩ <;> rw [State.moveRecord_of_room hq hlog, State.flt_raiseIrq]
  · refine ⟨s.moveRecord, by simp [exec, execFaultLogMove, h, hf], ?_, ?_, ?_⟩ <;> rw [State.moveRecord_of_full hq hlog]
    · rw [State.put_flt, State.bump_flt]
    · rw [State.put_flt, State.bump_flt]
    · exact State.flag_put_same _ _ _ (by decide) rfl
  · have hlast : setBit ((s.landed FLT_CMD.addr v).get FLT_ACTIVE.ACTIVE) 7 false = 0 := by
      rw [State.get_landed_ne _ _ _ _ (by decide), hact]; decide
    have hdeg : (s.landed FLT_CMD.addr v).dev = degraded := (State.get_landed_ne _ _ _ _ (by decide)).trans hd
    obtain ⟨hzero, hrun⟩ := State.clearActive_last hdeg hlast
    exact Completes.of_write rfl ha (by decide) (by decide) (fltRules_act_ack_seven src _ hack hpop)
      ⟨rfl, (State.answer_get _ _ _ _).trans hzero, (State.dev_answer _ _ _).trans hrun⟩
  · exact Completes.of_write rfl ha (by decide) (by decide) (fltRules_act_pop src hack (by simp) (by rw [State.flt_landed, hlog])) ⟨rfl, rfl⟩
  · have he : exec (.sramScrub w 2) s = .next (s.poison (w * 8) 12) :=
      congrArg Host.Outcome.next (if_neg (ne_true_of_eq_false (State.scrubs h hw hp)))
    exact ⟨_, he, State.poison_of_room _ _ hroom, sram_sramScrub he⟩
  · have he : exec (.sramScrub w 1) s = .next ((s.bump FLT_SRAM_CNT.CE_COUNT).rowCorrected (w * 8)) :=
      congrArg Host.Outcome.next (if_neg (ne_true_of_eq_false (State.scrubs h hw hp)))
    have hb : (s.bump FLT_SRAM_CNT.CE_COUNT).get FLT_SRAM_CNT.CE_COUNT = s.get FLT_SRAM_CNT.CE_COUNT + 1 := by
      rw [State.get_bump_same _ _ (by decide)]; exact if_pos hcnt
    obtain ⟨hce, hpoison⟩ := (s.bump FLT_SRAM_CNT.CE_COUNT).rowCorrected_kept (w * 8)
    exact ⟨_, he, hce.trans hb, sram_sramScrub he, hpoison.trans (by rw [State.bump_flt])⟩
  · exact ⟨s, by simp [exec, execSramScrub], rfl⟩
  · refine ⟨_, by simp only [exec, execSramRowSpared, hdue, h]; rfl, ?_⟩
    simp only [Bool.not_true, Bool.false_eq_true, if_false, State.fltInfo, State.flt_rowsDue_record, State.flt_rowsSpared_record, State.flt_poison_record]
    simp [State.sramLoc]
  · have : ¬ 120 ≤ tj := by omega
    obtain ⟨hnow, hdev, -⟩ := s.thermTaken_kept tj k.toNat
    refine ⟨_, by simp only [exec, execThermSample_eq hoff hk, htj, this, decide_false, Bool.false_and, Bool.false_eq_true,
      if_false, if_true]; rfl, ?_, rfl, ?_⟩
    · rw [State.get_mk, regField_regs, hnow]
    · rw [State.dev_mk, regField_regs]; exact hdev
  · obtain ⟨hoff, hhalt⟩ := State.alive_iff.mp h
    obtain ⟨-, hdev, htrip⟩ := s.thermTaken_kept tj k.toNat
    have htrips : (decide (120 ≤ tj) && (s.thermTaken tj k.toNat).flt.tripArmed) = true := by rw [htrip, harm]; simp [htj]
    have halive : (s.thermTaken tj k.toNat).alive = true := State.alive_iff.mpr ⟨hdev ▸ hoff, hdev ▸ hhalt⟩
    refine Completes.fltFatal (x := { s.thermTaken tj k.toNat with flt := { (s.thermTaken tj k.toNat).flt with tripArmed := false } })
      ((execThermSample_eq hoff hk tj).trans (congrArg Host.Outcome.next (if_pos htrips))) halive
      fun t hd _ ⟨r, hr, hcode, hcls, hsub⟩ => ⟨hd, r, hr, hcode, hcls, hsub.trans (Nat.mod_eq_of_lt (by omega))⟩

end Sys2Proof.Machine
end

section
/-! PROOFS. The power domains (R582 to R588): requests, drains, restarts, and the end of each phase. -/

namespace Sys2Proof.Machine

/-! ### The registers of a domain -/

theorem domOfCmd_addr : ∀ d : Fin 24, domOfCmd (PWR_DOM_CMD.addr d) = some d.val := by decide

theorem PWR_DOM_CMD.normalAddr_addr (d : Nat) : normalAddr (PWR_DOM_CMD.addr d) = PWR_DOM_CMD.addr d := by
  unfold normalAddr PWR_DOM_CMD.addr; omega

theorem PWR_DOM_CMD.viewOf_addr (d : Nat) : viewOf (PWR_DOM_CMD.addr d) = .normal := by
  have h : PWR_DOM_CMD.addr d % 0x10000 / 0x4000 = 0 := by unfold PWR_DOM_CMD.addr; omega
  simp [viewOf, h]

theorem PWR_DOM_STAT.addr_ne_cmd (d e : Nat) : PWR_DOM_STAT.addr d ≠ PWR_DOM_CMD.addr e := by
  unfold PWR_DOM_STAT.addr PWR_DOM_CMD.addr; omega

theorem State.dom_landed_cmd (s : State) (d e : Nat) (w : Word) : (s.landed (PWR_DOM_CMD.addr e) w).dom d = s.dom d :=
  State.get_landed_ne _ _ _ _ (PWR_DOM_STAT.addr_ne_cmd d e)

/-- A status field of a domain, where a frame leaves PWR's window out. -/
theorem Kept.get_dom {F : Foot} {s t : State} (k : Kept F s t) (h : F.word 0x01 = false) (d lo n : Nat) :
    t.get ⟨PWR_DOM_STAT.addr d, lo, n⟩ = s.get ⟨PWR_DOM_STAT.addr d, lo, n⟩ :=
  k.get_of (Foot.word_of_win (PWR_DOM_STAT.addr_win d) h)

theorem Kept.dom_of {F : Foot} {s t : State} (k : Kept F s t) (h : F.word 0x01 = false) (d : Nat) : t.dom d = s.dom d :=
  k.get_dom h d 0 3

/-- An admitted write of a domain's command register that PWR accepts completes with the accepted state. -/
theorem Completes.of_pwrCmd {c : Instr} {s t : State} {d : Fin 24} {p : Progress} {src : Source} {w : Word} {P : State → Prop}
    (he : exec c s = .next (s.writeReg (pwrRules p) src (PWR_DOM_CMD.addr d) w)) (h : s.admits (pwrRules p) src (PWR_DOM_CMD.addr d) w)
    (ha : (s.landed (PWR_DOM_CMD.addr d) w).pwrCmd d src w p = .ok t) (hp : P (t.answer 0 0)) : Completes c s P := by
  refine Completes.of_write he h (PWR_DOM_CMD.normalAddr_addr d) (PWR_DOM_CMD.viewOf_addr d) ?_ hp
  simp only [pwrRules, domOfCmd_addr]
  exact ha

/-! ### UP (R584) -/

/-- What an accepted UP remembers of RESTORE. -/
def State.restoreNoted (s : State) (d : Nat) (restore : Bool) : State :=
  { s with pwr := { s.pwr with restoreAsked :=
      if restore then d :: s.pwr.restoreAsked.filter (· != d) else s.pwr.restoreAsked.filter (· != d) } }

/-- An OFF domain begins to power up, with the code of its last request cleared. -/
def State.upBegun (s : State) (d : Nat) : State := (s.powerUp d).put (PWR_DOM_STAT.LAST_CODE d) 0

theorem State.upBegun_fields (s : State) (d : Nat) : (s.upBegun d).dom d = 1 ∧ (s.upBegun d).get (PWR_DOM_STAT.LAST_CODE d) = 0 :=
  ⟨(State.get_put_clear _ _ _ _ rfl).trans (State.dom_setDom_same s d (by decide)),
    State.get_put_same _ _ _ (by decide : 24 + 8 ≤ 32)⟩

theorem State.pwrCmd_up {s : State} {d : Nat} {w : Word} (hup : w.toNat.testBit 0 = true) (hdown : w.toNat.testBit 1 = false)
    (hforce : w.toNat.testBit 2 = false) (hd : d ≠ dAON ∧ d ≠ dMGMT ∧ d ≠ dMESH) (h0 : s.dom d = 0) (src : Source) (p : Progress) :
    s.pwrCmd d src w p = .ok (let t := (s.restoreNoted d (w.toNat.testBit 3)).upBegun d
      if d == dFFT_A || d == dFFT_B then t.admitRunning.2 else t) := by
  have hne : (d == dAON || d == dMGMT || d == dMESH) = false := by simp [hd]
  simp only [State.pwrCmd, hup, hdown, hforce, hne, h0, Bool.and_false, Bool.false_and, Bool.not_true, Bool.or_self,
    Bool.false_eq_true, if_false]
  rfl

/-! ### DOWN and FORCE (R585 to R587) -/

theorem State.altersCapacity_of_dom {s t : State} (h : ∀ d, t.dom d = s.dom d) (d : Nat) : t.altersCapacity d = s.altersCapacity d := by
  unfold State.altersCapacity; rw [h]

/-- The state that remembers who asked for a power-down. -/
def State.downAsked (s : State) (d : Nat) (src : Source) (force : Bool) : State :=
  { s with pwr := { s.pwr with asked := (d, src, force) :: s.pwr.asked.filter (fun x => x.1 != d) } }

theorem State.pwrCmd_down {s : State} {d : Nat} {w : Word} (hup : w.toNat.testBit 0 = false) (hdown : w.toNat.testBit 1 = true)
    (hrestore : w.toNat.testBit 3 = false) (hd : d ≠ dAON ∧ d ≠ dMGMT ∧ d ≠ dMESH) (h2 : s.dom d = 2) {src : Source}
    (hcheck : s.downCheck d src = none) (hcap : s.altersCapacity d = false) (p : Progress) :
    s.pwrCmd d src w p = .ok (if w.toNat.testBit 2 then (s.downAsked d src (w.toNat.testBit 2)).forceOff d p
      else ((s.downAsked d src (w.toNat.testBit 2)).setDom d 3).holdIdle d) := by
  have hne : (d == dAON || d == dMGMT || d == dMESH) = false := by simp [hd]
  simp only [State.pwrCmd, State.downGo, hup, hdown, hrestore, hne, h2, hcheck, hcap, Bool.and_false, Bool.and_true,
    Bool.not_true, Bool.not_false, Bool.or_self, Bool.false_eq_true, if_false]
  rfl

/-- What the isolation of a domain's outputs may change: nothing of PWR's window. -/
abbrev isolationFoot : Foot :=
  ⟨false, [0x00, 0x04, 0x08, 0x09, 0x12, 0x13, 0x14, 0x15, 0x16, 0x1B], [0x15], [.latch, .sram, .gddr, .freeCtr, .pins, .sys,
    .flt, .pwr, .lnk, .fft, .acq, .dma, .hpt, .spt, .mem]⟩

theorem Kept.capacityChanged_ite {F : Foot} {s x : State} (h : Kept F s x) (hf : Foot.le ⟨false, [0x00, 0x15, 0x1B], [], [.sys, .flt]⟩ F = true)
    (c : Prop) [Decidable c] (b : Bool) : Kept F s (if c then x.capacityChanged b else x) :=
  Kept.ite (Kept.capacityChanged h hf b) h

/-- A domain that switches off takes its state, and then its blocks follow. -/
theorem State.switchOff_kept (s : State) (d : Nat) (p : Progress) :
    Kept isolationFoot ((s.setDom d 4).put (PWR_DOM_STAT.LAST_CODE d) 0) (s.switchOff d p) := by
  unfold State.switchOff
  dsimp only
  generalize (s.setDom d 4).put (PWR_DOM_STAT.LAST_CODE d) 0 = x
  have hx : Kept isolationFoot x { x with pwr := { x.pwr with held := x.pwr.held.filter (fun y => y.2 != d) } } :=
    Kept.set_pwr _ (.refl _ x) rfl
  refine Kept.capacityChanged_ite ?_ (by decide) _ _
  split
  · exact Kept.ite (Kept.hostDown hx (by decide) p) (Kept.hptReset hx (by decide))
  · exact Kept.ite (Kept.put _ _ hx (by decide)) hx
  · exact hx
  · exact Kept.set_pins _ hx rfl
  · exact Kept.set_pins _ hx rfl
  · exact Kept.ite (Kept.lanesFollow hx (by decide)) (Kept.ite (Kept.fftDomain hx (by decide) d false) hx)

theorem State.dom_switchOff (s : State) (d : Nat) (p : Progress) : (s.switchOff d p).dom d = 4 :=
  ((s.switchOff_kept d p).dom_of rfl d).trans
    ((State.get_put_clear _ _ _ _ rfl).trans (State.dom_setDom_same s d (by decide)))

/-! ### The ends of the phases (R585, R588) -/

/-- A domain that has come ON. -/
theorem State.domainOn_fields (s : State) (d : Nat) :
    let t := (((((s.setDom d 2).put (PWR_DOM_STAT.RESTART_PENDING d) 0).domainStarts d).capacityChanged false).recSettle)
    t.dom d = 2 ∧ t.flag (PWR_DOM_STAT.RESTART_PENDING d) = false
      ∧ t.flag (PWR_DOM_STAT.STOP_PENDING d) = s.flag (PWR_DOM_STAT.STOP_PENDING d) := by
  have hk (x : State) : Kept ⟨false, [0x00, 0x04, 0x08, 0x09, 0x0C, 0x14, 0x15, 0x1A, 0x1B], [0x14], [.sram, .flt, .lnk, .sys, .boot]⟩ x
      ((x.domainStarts d).capacityChanged false).recSettle :=
    Kept.recSettle (Kept.capacityChanged (Kept.domainStarts (.refl _ x) (by decide) d) (by decide) false) (by decide)
  have hon : ((s.setDom d 2).put (PWR_DOM_STAT.RESTART_PENDING d) 0).dom d = 2 :=
    (State.get_put_clear _ _ _ _ rfl).trans (State.dom_setDom_same s d (by decide))
  have hrestart : ((s.setDom d 2).put (PWR_DOM_STAT.RESTART_PENDING d) 0).get (PWR_DOM_STAT.RESTART_PENDING d) = 0 :=
    State.get_put_same _ _ _ (by decide : 8 + 1 ≤ 32)
  have hstop : ((s.setDom d 2).put (PWR_DOM_STAT.RESTART_PENDING d) 0).get (PWR_DOM_STAT.STOP_PENDING d)
      = s.get (PWR_DOM_STAT.STOP_PENDING d) :=
    (State.get_put_clear _ _ _ _ rfl).trans (State.get_setDom_clear s d 2 rfl (PWR_DOM_STAT.addr_ne_ON d))
  refine ⟨((hk _).dom_of rfl d).trans hon, ?_, ?_⟩
  · rw [State.flag, (hk _).get_of (Foot.word_of_win (PWR_DOM_STAT.addr_win d) rfl), hrestart]; rfl
  · rw [State.flag, (hk _).get_of (Foot.word_of_win (PWR_DOM_STAT.addr_win d) rfl), hstop]; rfl

/-- A refused request leaves its code, and the record of the refusal stands apart from the domains' registers. -/
theorem State.get_downRefused (s : State) (d : Nat) (src : Source) (e : Err) (lo n : Nat) :
    (s.downRefused d src e).get ⟨PWR_DOM_STAT.addr d, lo, n⟩
      = (s.put (PWR_DOM_STAT.LAST_CODE d) e.code).get ⟨PWR_DOM_STAT.addr d, lo, n⟩ := by
  have hlog (x : State) (w0 w1 : Word) : (x.logErr w0 w1).get ⟨PWR_DOM_STAT.addr d, lo, n⟩ = x.get ⟨PWR_DOM_STAT.addr d, lo, n⟩ :=
    (Kept.logErr (.refl _ x) (Foot.le_refl _) w0 w1).get_dom rfl d lo n
  have hofs (k : Nat) (hk : 0x3FF4 ≤ k) : (⟨PWR_DOM_STAT.addr d, lo, n⟩ : Fld).addr ≠ 0x01 * 0x10000 + k := by
    change PWR_DOM_STAT.addr d ≠ _; unfold PWR_DOM_STAT.addr; omega
  rw [State.downRefused, State.refuseOp, hlog, State.blockErr, State.get_setWord_ne _ _ _ _ (hofs _ (by decide)),
    State.get_put_reg _ _ _ _ (hofs _ (by decide)), State.get_put_reg _ _ _ _ (hofs _ (by decide))]

theorem Err.code_lt (e : Err) : e.code < 2 ^ 8 := by cases e <;> decide

/-- The pending copies as a RESTORE leaves them (R584). -/
def State.restored (s : State) (d : Nat) : State :=
  (s.pwr.saved.filter (fun x => x.1 == d)).foldl (fun (s : State) x =>
    s.setWord x.2.1 ((s.word x.2.1 &&& ~~~(bufMask x.2.1)) ||| x.2.2)) s

theorem State.pwr_restored (s : State) (d : Nat) : (s.restored d).pwr = s.pwr := by
  refine List.foldl_inv (P := fun t : State => t.pwr = s.pwr) ?_ _ rfl
  exact fun _ _ h => h

/-- A drain that ends without a power-down: the domain is ON again, and the stalls it held resume (R586). -/
def State.drainEnded (s : State) (d : Nat) : State :=
  let s := (s.setDom d 2).put (PWR_DOM_STAT.RESTART_PENDING d) 0
  let s := (s.pwr.held.filter (fun x => x.2 == d)).foldl (fun (s : State) x =>
    if s.dmaState x.1 == dSTOPPED then s.setDma x.1 dRUNNING else s) s
  { s with pwr := { s.pwr with held := s.pwr.held.filter (fun x => x.2 != d) } }

theorem State.drainEnded_fields (s : State) (d : Nat) :
    (s.drainEnded d).dom d = 2 ∧ ((s.drainEnded d).get (PWR_DOM_STAT.RESTART_PENDING d) == 1) = false := by
  have hon : ((s.setDom d 2).put (PWR_DOM_STAT.RESTART_PENDING d) 0).dom d = 2 :=
    (State.get_put_clear _ _ _ _ rfl).trans (State.dom_setDom_same s d (by decide))
  have hrestart : ((s.setDom d 2).put (PWR_DOM_STAT.RESTART_PENDING d) 0).get (PWR_DOM_STAT.RESTART_PENDING d) = 0 :=
    State.get_put_same _ _ _ (by decide : 8 + 1 ≤ 32)
  have hk : Kept ⟨false, [0x12], [], [.pwr]⟩ ((s.setDom d 2).put (PWR_DOM_STAT.RESTART_PENDING d) 0) (s.drainEnded d) :=
    Kept.set_pwr _ (Kept.foldl _ (fun y a hy => Kept.ite (Kept.setDma hy (by decide) _ _) hy) (.refl _ _)) rfl
  refine ⟨(hk.dom_of rfl d).trans hon, ?_⟩
  rw [hk.get_of (Foot.word_of_win (PWR_DOM_STAT.addr_win d) rfl), hrestart]
  rfl

/-- The registers that go off with a domain other than AON lie outside PWR's window, whose registers AON keeps. -/
theorem State.win_ne_one_of_mem_regsOfDomain {s : State} {d a : Nat} (hd : d ≠ dAON) (h : a ∈ s.regsOfDomain d) :
    a / 0x10000 ≠ 0x01 := by
  intro hw
  simp only [State.regsOfDomain, List.mem_flatMap, List.mem_filter] at h
  obtain ⟨-, -, -, h⟩ := h
  have hregs : domainsOfReg a = [0] := by simp [domainsOfReg, hw, blockOfWindow]
  rw [hregs] at h
  simp at h
  exact hd h.1

theorem State.word_resetReg_ne (s : State) {a b : Nat} (h : b ≠ a) : (s.resetReg a).word b = s.word b := by
  unfold State.word State.resetReg SMap.get
  rw [SMap.find_erase_ne _ h]

theorem State.word_foldl_resetReg (l : List Nat) (s : State) {b : Nat} (h : ∀ a ∈ l, b ≠ a) :
    (l.foldl (fun (s : State) a => s.resetReg a) s).word b = s.word b := by
  induction l generalizing s with
  | nil => rfl
  | cons a l ih =>
    rw [List.foldl_cons, ih _ (fun x hx => h x (List.mem_cons_of_mem a hx)), State.word_resetReg_ne s (h a List.mem_cons_self)]

/-- The drives of PCIE_S are gone before that domain is dead. -/
def State.linksGone (s : State) (d : Nat) : State := if d == dPCIE_S then s.drivesGone else s

/-- Of a domain's status, death changes the state alone: its registers and what its blocks forget lie outside PWR's window. -/
theorem State.word_domainDead (s : State) {d : Nat} (hd : d ≠ dAON) (e : Nat) :
    (s.domainDead d).word (PWR_DOM_STAT.addr e) = ((s.linksGone d).setDom d 0).word (PWR_DOM_STAT.addr e) := by
  unfold State.domainDead
  dsimp only
  change _ = ((if d == dPCIE_S then s.drivesGone else s).setDom d 0).word _
  generalize (if d == dPCIE_S then s.drivesGone else s).setDom d 0 = x
  have hregs (y : State) : ((x.regsOfDomain d).foldl (fun (s : State) a => s.resetReg a) y).word (PWR_DOM_STAT.addr e)
      = y.word (PWR_DOM_STAT.addr e) :=
    State.word_foldl_resetReg _ _ fun a ha hae =>
      State.win_ne_one_of_mem_regsOfDomain hd ha (hae ▸ PWR_DOM_STAT.addr_win e)
  have hforget (y : State) : (y.blocksForget d).word (PWR_DOM_STAT.addr e) = y.word (PWR_DOM_STAT.addr e) :=
    (Kept.blocksForget (.refl _ y) (Foot.le_refl _) d).word_of (Foot.word_of_win (PWR_DOM_STAT.addr_win e) rfl)
  have hreset (y : State) : y.hptReset.word (PWR_DOM_STAT.addr e) = y.word (PWR_DOM_STAT.addr e) :=
    (Kept.hptReset (.refl _ y) (Foot.le_refl _)).word_of (Foot.word_of_win (PWR_DOM_STAT.addr_win e) rfl)
  rw [hforget]
  split
  · rw [hreset]; rfl
  · rw [hregs]; rfl

theorem State.dom_domainDead (s : State) {d : Nat} (hd : d ≠ dAON) : (s.domainDead d).dom d = 0 := by
  have h : (s.domainDead d).dom d = ((s.linksGone d).setDom d 0).dom d := by
    simp only [State.dom, State.get, PWR_DOM_STAT.STATE, State.word_domainDead s hd]
  rw [h, State.dom_setDom_same _ _ (by decide)]

theorem State.restart_domainDead (s : State) {d : Nat} (hd : d ≠ dAON) :
    (s.domainDead d).flag (PWR_DOM_STAT.RESTART_PENDING d) = s.flag (PWR_DOM_STAT.RESTART_PENDING d) := by
  have hlinks : Kept ⟨false, [0x15, 0x16], [], []⟩ s (s.linksGone d) :=
    Kept.ite (Kept.drivesGone (.refl _ s) (Foot.le_refl _)) (.refl _ s)
  have h : (s.domainDead d).get (PWR_DOM_STAT.RESTART_PENDING d) = ((s.linksGone d).setDom d 0).get (PWR_DOM_STAT.RESTART_PENDING d) := by
    simp only [State.get, PWR_DOM_STAT.RESTART_PENDING, State.word_domainDead s hd]
  rw [State.flag, State.flag, h, State.get_setDom_clear _ d 0 rfl (PWR_DOM_STAT.addr_ne_ON d),
    hlinks.get_of (Foot.word_of_win (PWR_DOM_STAT.addr_win d) rfl)]

/-- Settles O10: each request by what `pwrCmd` accepts in the domain's state, each event by the next state of R589. -/
theorem powerDomainCommandsComplete : Obligations.PowerDomainCommandsComplete := by
  refine ⟨fun s d src v ha hdown hforce h1 h2 h3 h0 => ?_, fun s d p src v ha hup hforce hrestore h1 h2 h3 hon hcheck hcap => ?_,
    fun s d p src v ha hup hrestore h1 h2 h3 hon hcheck hcap => ?_, fun s d p h h1 hstop => ?_, fun s d h hon hask => ?_,
    fun s d p h h3 hw => ?_, fun s d h h3 => ?_, fun s d h hd h4 hflush hrestart => ?_⟩
  · have hdom := (s.dom_landed_cmd d d (v ||| 1)).trans h0
    refine Completes.of_pwrCmd rfl ha (State.pwrCmd_up (testBit_or_right v 1 (by decide)) hdown hforce ⟨h1, h2, h3⟩ hdom src []) ?_
    dsimp only
    generalize (s.landed (PWR_DOM_CMD.addr d) (v ||| 1)).restoreNoted d ((v ||| 1).toNat.testBit 3) = x
    obtain ⟨hst, hcode⟩ := x.upBegun_fields d
    have hk : Kept ⟨false, [0x00], [], []⟩ (x.upBegun d)
        (if d.val == dFFT_A || d.val == dFFT_B then (x.upBegun d).admitRunning.2 else x.upBegun d) :=
      Kept.ite (Kept.admitRunning (.refl _ _) (Foot.le_refl _)) (.refl _ _)
    exact ⟨rfl, (hk.dom_of rfl d).trans hst, (hk.get_dom rfl d 24 8).trans hcode⟩
  · have hdom := s.dom_landed_cmd d d (v ||| 2)
    have hcap' := (State.altersCapacity_of_dom (fun e => s.dom_landed_cmd e d (v ||| 2)) d).trans hcap
    refine Completes.of_pwrCmd rfl ha (State.pwrCmd_down hup (testBit_or_right v 2 (by decide)) hrestore ⟨h1, h2, h3⟩ (hdom.trans hon) hcheck
      hcap' p) ?_
    simp only [hforce, Bool.false_eq_true, if_false]
    generalize (s.landed (PWR_DOM_CMD.addr d) (v ||| 2)).downAsked d src false = x
    exact ⟨rfl, ((Kept.holdIdle (.refl _ _) (Foot.le_refl _) d).dom_of rfl d).trans (x.dom_setDom_same d (by decide))⟩
  · have hdom := s.dom_landed_cmd d d (v ||| 6)
    have hcap' := (State.altersCapacity_of_dom (fun e => s.dom_landed_cmd e d (v ||| 6)) d).trans hcap
    have hforce : (v ||| 6).toNat.testBit 2 = true := testBit_or_right v 6 (by decide)
    refine Completes.of_pwrCmd rfl ha (State.pwrCmd_down hup (testBit_or_right v 6 (by decide)) hrestore ⟨h1, h2, h3⟩ (hdom.trans hon) hcheck
      hcap' p) ?_
    simp only [hforce, if_true]
    exact ⟨rfl, State.dom_switchOff _ d p⟩
  · have hguard : (! s.alive || s.dom d != 1) = false := by simp [h, h1]
    obtain ⟨hst, hre, hsp⟩ := s.domainOn_fields d
    refine ⟨_, by simp only [exec, execDomainOn, hguard, hsp, hstop, Bool.false_eq_true, if_false], hst, hre⟩
  · have hguard : (! s.alive || ! s.domOn d || ! s.pwr.restoreAsked.contains d.val) = false := by rw [h, hon, hask]; rfl
    have hpwr := s.pwr_restored d
    refine ⟨_, congrArg Host.Outcome.next (if_neg (ne_true_of_eq_false hguard)), ?_, ?_⟩
    · change State.flag (State.mk ..) _ = true
      rw [State.flag, State.get_mk, regField_regs, State.get_put_same _ _ _ (by decide : 10 + 1 ≤ 32)]; rfl
    · change ((s.restored d).put _ 1).pwr.restoreAsked.filter _ = _
      rw [State.put_pwr, hpwr]
  · have hgo : (s.alive && s.dom d == 3 && ! s.drainWaits d) = true := by rw [h, h3, hw]; rfl
    exact ⟨s.switchOff d p, congrArg Host.Outcome.next (if_pos hgo), s.dom_switchOff d p⟩
  · have hgo : (s.alive && s.dom d == 3) = true := by rw [h, h3]; rfl
    refine ⟨(s.drainEnded d).downRefused d ((s.drainEnded d).downAsk d).1 .busy, congrArg Host.Outcome.next (if_pos hgo), ?_, ?_, ?_⟩
    · exact (State.get_downRefused _ d _ _ 0 3).trans ((State.get_put_clear _ _ _ _ rfl).trans (s.drainEnded_fields d).1)
    · rw [State.flag, PWR_DOM_STAT.RESTART_PENDING, State.get_downRefused _ d _ _ 8 1, State.get_put_clear _ _ _ _ rfl]
      exact (s.drainEnded_fields d).2
    · exact (State.get_downRefused _ d _ _ 24 8).trans
        ((State.get_put_same _ _ _ (by decide : 24 + 8 ≤ 32)).trans (Nat.mod_eq_of_lt (Err.code_lt _)))
  · have hgo : (s.alive && s.dom d == 4 && ! (d.val == dPCIE_S && s.flag SPT_STAT.FLUSH_BUSY)) = true := by
      by_cases h9 : d.val = dPCIE_S
      · simp [h, h4, hflush h9]
      · simp [h, h4, h9]
    have hre : (s.domainDead d).flag (PWR_DOM_STAT.RESTART_PENDING d) = false := (s.restart_domainDead hd).trans hrestart
    refine ⟨s.domainDead d, ?_, s.dom_domainDead hd⟩
    simp only [exec, execDomainOff, hgo, hre, if_true, Bool.false_eq_true, if_false]

end Sys2Proof.Machine
end

section
/-! PROOFS. The configuration guard (R529 to R531) and the loss of a capacity (R44). -/

namespace Sys2Proof.Machine

/-! ### Words and counters of a register -/

theorem State.get_bumpWrap_clear (s : State) (f g : Fld) (h : f.clear g = true) : (s.bumpWrap f).get g = s.get g :=
  State.get_put_clear s f g _ h

theorem State.flag_put_clear (s : State) (f g : Fld) (v : Nat) (h : f.clear g = true) : (s.put f v).flag g = s.flag g := by
  rw [State.flag, State.flag, State.get_put_clear s f g v h]

theorem State.flag_put_one (s : State) (f : Fld) (hw : f.lo + f.n ≤ 32) (hn : f.n = 1) : (s.put f 1).flag f = true := by
  rw [State.flag, State.get_put_same s f 1 hw, hn]; rfl

theorem State.flag_put_zero (s : State) (f : Fld) (hw : f.lo + f.n ≤ 32) : (s.put f 0).flag f = false := by
  rw [State.flag, State.get_put_same s f 0 hw, Nat.zero_mod]; rfl

theorem State.flag_eq_get {s t : State} {f : Fld} (h : t.get f = s.get f) : t.flag f = s.flag f := by
  rw [State.flag, State.flag, h]

theorem flag_of_get_one {s : State} {f : Fld} (h : s.get f = 1) : s.flag f = true := by rw [State.flag, h]; rfl

theorem flag_of_get_zero {s : State} {f : Fld} (h : s.get f = 0) : s.flag f = false := by rw [State.flag, h]; rfl

/-! ### Fields of a landed word (R10, R515) -/

/-- The fields of a row fit the word and share no bit. -/
def fieldsApart (fs : List FieldRow) : Bool :=
  fs.all (fun f => decide (f.lo + f.n ≤ 32)) && decide (fs.Pairwise fun f g => f.lo + f.n ≤ g.lo ∨ g.lo + g.n ≤ f.lo)

/-- The tables of the manual give no register two fields that overlap. -/
theorem rows_apart (b : Nat) : (rowsOfBlock b).all (fun r => fieldsApart r.fields) = true := by
  unfold rowsOfBlock
  split <;> decide +kernel

theorem fieldsApart_fieldsAt (a : Nat) : fieldsApart (fieldsAt a) = true := by
  unfold fieldsAt
  split
  next r h =>
    exact List.all_eq_true.mp (rows_apart _) r (List.mem_of_find?_eq_some h)
  · rfl

theorem bitsOf_foldl_insBits_apart (v : FieldRow → Nat) (w : Word) (fs : List FieldRow) {g : FieldRow}
    (hfit : ∀ f ∈ fs, f.lo + f.n ≤ 32) (h : ∀ f ∈ fs, f.lo + f.n ≤ g.lo ∨ g.lo + g.n ≤ f.lo) :
    bitsOf (fs.foldl (fun acc f => insBits acc f.lo f.n (v f)) w) g.lo g.n = bitsOf w g.lo g.n := by
  induction fs generalizing w with
  | nil => rfl
  | cons f fs ih =>
    rw [List.foldl_cons, ih _ (fun x hx => hfit x (List.mem_cons_of_mem f hx)) (fun x hx => h x (List.mem_cons_of_mem f hx))]
    have hf := hfit f List.mem_cons_self
    rcases h f List.mem_cons_self with h | h
    · exact bitsOf_insBits_above _ _ _ _ _ _ hf h
    · exact bitsOf_insBits_below _ _ _ _ _ _ hf h

theorem FieldRow.val_lt (f : FieldRow) (w : Word) : f.val w < 2 ^ f.n := bitsOf_lt w f.lo f.n

theorem FieldRow.landed_lt (f : FieldRow) (cur w : Word) : f.landed cur w < 2 ^ f.n := by
  unfold FieldRow.landed
  split
  · split
    · next h =>
      have hn : f.n = 1 := by simp at h; exact h.2
      have h1 := f.val_lt cur
      have h2 := f.val_lt w
      rw [hn] at h1 h2 ⊢
      calc f.val cur * f.val w ≤ 1 * 1 := Nat.mul_le_mul (by omega) (by omega)
        _ < 2 ^ 1 := by decide
    · exact f.val_lt w
  · exact f.val_lt cur

/-- What a field holds after a write: what the field alone lets land. -/
theorem FieldRow.val_landWord {fs : List FieldRow} {f : FieldRow} (h : fieldsApart fs = true) (hf : f ∈ fs) (cur w : Word) :
    f.val (landWord fs cur w) = f.landed cur w := by
  simp only [fieldsApart, Bool.and_eq_true, List.all_eq_true, decide_eq_true_eq] at h
  obtain ⟨hfit, hp⟩ := h
  obtain ⟨l, r, rfl⟩ := List.append_of_mem hf
  have hr : ∀ g ∈ r, g.lo + g.n ≤ f.lo ∨ f.lo + f.n ≤ g.lo := fun g hg =>
    ((List.pairwise_cons.mp (List.pairwise_append.mp hp).2.1).1 g hg).symm
  rw [FieldRow.val, landWord, List.foldl_append, List.foldl_cons,
    bitsOf_foldl_insBits_apart _ _ _ (fun g hg => hfit g (by simp [hg])) hr, bitsOf_insBits_same _ _ _ _ (hfit f hf),
    Nat.mod_eq_of_lt (f.landed_lt cur w)]

/-- An RW field that the hardware does not touch holds what was written. -/
theorem FieldRow.val_landWord_rw {fs : List FieldRow} {f : FieldRow} (h : fieldsApart fs = true) (hf : f ∈ fs)
    (hrw : f.acc.isRw = true) (hhw : f.acc ≠ .rwHw ∨ f.n ≠ 1) (cur w : Word) : f.val (landWord fs cur w) = f.val w := by
  have hno : (f.acc == .rwHw && f.n == 1) = false := by
    rw [Bool.and_eq_false_iff, beq_eq_false_iff_ne, beq_eq_false_iff_ne]; exact hhw
  rw [FieldRow.val_landWord h hf, FieldRow.landed, if_pos hrw, hno]
  rfl

/-- A field of a landed state whose row is known. -/
theorem State.get_landed_rw (s : State) (a : Nat) (w : Word) {f : FieldRow} (hf : f ∈ fieldsAt a) (hrw : f.acc.isRw = true)
    (hhw : f.acc ≠ .rwHw ∨ f.n ≠ 1) : (s.landed a w).get ⟨a, f.lo, f.n⟩ = bitsOf w f.lo f.n := by
  have h : (s.landed a w).word a = landWord (fieldsAt a) (s.word a) w := State.word_setWord_same s a _
  rw [State.get, h]
  exact FieldRow.val_landWord_rw (fieldsApart_fieldsAt a) hf hrw hhw _ _

/-- A register that is one RW field holds the word written. -/
theorem State.word_landed_full (s : State) (a : Nat) (w : Word) {f : FieldRow} (hf : f ∈ fieldsAt a) (hrw : f.acc.isRw = true)
    (hlo : f.lo = 0) (hn : f.n = 32) : (s.landed a w).word a = w := by
  have h := s.get_landed_rw a w hf hrw (.inr (by rw [hn]; decide))
  rw [State.get, hlo, hn, bitsOf, bitsOf, Nat.pow_zero, Nat.div_one, Nat.div_one, Nat.mod_eq_of_lt (BitVec.isLt _),
    Nat.mod_eq_of_lt (BitVec.isLt _)] at h
  exact BitVec.eq_of_toNat_eq h

/-! ### The guard (R529 to R531) -/

/-- The CRC of a pass is taken, and the pass counted. -/
def State.guardRead (s : State) (crc : Word) : State := (s.setWord SYS_CFGCRC_NOW.addr crc).bumpWrap SYS_CFGCRC_STAT.PASSES

/-- A pass whose CRC stands in SYS_CFGCRC_REF, or is loaded into it. -/
def State.guardMatch (s : State) (crc : Word) : State :=
  let s := (s.setWord SYS_CFGCRC_REF.addr crc).put SYS_CFGCRC_STAT.MATCH 1
  { s with sys := { s.sys with guardArmed := true } }

/-- A pass whose CRC differs from SYS_CFGCRC_REF. -/
def State.guardMismatch (s : State) (crc : Word) : State :=
  let s := (s.put SYS_CFGCRC_STAT.MATCH 0).put SYS_CFGCRC_STAT.MISMATCH 1
  if s.sys.guardArmed then
    ({ s with sys := { s.sys with guardArmed := false } } : State).fltInfo 0x30 0 0x00 s.mgmtLocation crc.toNat
  else s

theorem State.guardRead_keeps (s : State) (crc : Word) :
    (s.guardRead crc).word SYS_CFGCRC_REF.addr = s.word SYS_CFGCRC_REF.addr
      ∧ (s.guardRead crc).flag SYS_CFGCRC_CTRL.AUTO = s.flag SYS_CFGCRC_CTRL.AUTO ∧ (s.guardRead crc).sys = s.sys := by
  refine ⟨?_, ?_, ?_⟩
  · rw [State.guardRead, State.bumpWrap, State.word_put_ne _ _ _ (by decide), State.word_setWord_ne _ _ (by decide)]
  · refine State.flag_eq_get ?_
    rw [State.guardRead, State.bumpWrap, State.get_put_reg _ _ _ _ (by decide), State.get_setWord_ne _ _ _ _ (by decide)]
  · rw [State.guardRead, State.bumpWrap, State.put_sys, State.setWord_sys]

theorem State.word_now_guardRead (s : State) (crc : Word) : (s.guardRead crc).word SYS_CFGCRC_NOW.addr = crc := by
  rw [State.guardRead, State.bumpWrap, State.word_put_ne _ _ _ (by decide), State.word_setWord_same]

theorem State.guardMatch_fields (s : State) (crc : Word) :
    (s.guardMatch crc).word SYS_CFGCRC_NOW.addr = s.word SYS_CFGCRC_NOW.addr
      ∧ (s.guardMatch crc).flag SYS_CFGCRC_STAT.MATCH = true ∧ (s.guardMatch crc).sys.guardArmed = true := by
  refine ⟨?_, ?_, rfl⟩
  · rw [State.guardMatch, State.word_mk, SMap.get_regs, State.word_put_ne _ _ _ (by decide), State.word_setWord_ne _ _ (by decide)]
  · refine flag_of_get_one ?_
    rw [State.guardMatch, State.get_mk, regField_regs, State.get_put_same _ _ _ (by decide)]
    rfl

theorem State.guardMismatch_fields (s : State) (crc : Word) :
    (s.guardMismatch crc).word SYS_CFGCRC_NOW.addr = s.word SYS_CFGCRC_NOW.addr
      ∧ (s.guardMismatch crc).flag SYS_CFGCRC_STAT.MATCH = false
      ∧ (s.guardMismatch crc).flag SYS_CFGCRC_STAT.MISMATCH = true ∧ (s.guardMismatch crc).sys.guardArmed = false := by
  have hnow : ((s.put SYS_CFGCRC_STAT.MATCH 0).put SYS_CFGCRC_STAT.MISMATCH 1).word SYS_CFGCRC_NOW.addr = s.word SYS_CFGCRC_NOW.addr := by
    rw [State.word_put_ne _ _ _ (by decide), State.word_put_ne _ _ _ (by decide)]
  have hmatch : ((s.put SYS_CFGCRC_STAT.MATCH 0).put SYS_CFGCRC_STAT.MISMATCH 1).get SYS_CFGCRC_STAT.MATCH = 0 := by
    rw [State.get_put_clear _ _ _ _ rfl, State.get_put_same _ _ _ (by decide)]; rfl
  have hmis : ((s.put SYS_CFGCRC_STAT.MATCH 0).put SYS_CFGCRC_STAT.MISMATCH 1).get SYS_CFGCRC_STAT.MISMATCH = 1 := by
    rw [State.get_put_same _ _ _ (by decide)]; rfl
  unfold State.guardMismatch
  generalize (s.put SYS_CFGCRC_STAT.MATCH 0).put SYS_CFGCRC_STAT.MISMATCH 1 = x at hnow hmatch hmis ⊢
  dsimp only
  split
  · have hk := Kept.fltInfo (.refl _ ({ x with sys := { x.sys with guardArmed := false } } : State)) (Foot.le_refl _) 0x30 0 0x00
      x.mgmtLocation crc.toNat
    exact ⟨(hk.word_of rfl).trans hnow, flag_of_get_zero ((hk.get_of rfl).trans hmatch), flag_of_get_one ((hk.get_of rfl).trans hmis),
      by rw [hk.part_of .sys rfl]⟩
  next harm => exact ⟨hnow, flag_of_get_zero hmatch, flag_of_get_one hmis, eq_false_of_ne_true harm⟩

/-- What a pass that nothing spoilt does. -/
theorem execGuardPass_eq {s : State} (h : s.alive = true) (hen : s.flag SYS_CFGCRC_CTRL.EN = true) (hs : s.sys.guardSpoilt = false) :
    let x := s.guardRead s.guardCrc
    let y : State := { x with sys := { x.sys with guardReload := false } }
    execGuardPass s = .next (if s.flag SYS_CFGCRC_CTRL.AUTO && s.sys.guardReload || s.word SYS_CFGCRC_REF.addr == s.guardCrc
      then y.guardMatch s.guardCrc else y.guardMismatch s.guardCrc) := by
  obtain ⟨href, hauto, hsys⟩ := s.guardRead_keeps s.guardCrc
  dsimp only
  rw [← href, ← hauto]
  conv_rhs => rw [← hsys]
  have hguard : (! s.alive || ! s.flag SYS_CFGCRC_CTRL.EN) = false := by rw [h, hen]; rfl
  unfold execGuardPass
  rw [if_neg (ne_true_of_eq_false hguard), if_neg (ne_true_of_eq_false hs)]
  rfl

/-! ### A capacity falls (R44) -/

/-- What follows a change of a capacity leaves the other windows as they are. -/
theorem State.get_settleCaps (s old : State) {f : Fld} {w : Nat} (hf : f.addr / 0x10000 = w) (h0 : w ≠ 0x00) (h15 : w ≠ 0x15)
    (h1B : w ≠ 0x1B) : (s.settleCaps old).get f = s.get f :=
  (Kept.settleCaps (.refl _ s) (Foot.le_refl _) old).get_of (by simp [Foot.word, hf, h0, h15, h1B])

/-- Settles O14: each branch of a guard pass by its own lemma; a capacity that falls by the footprint of what follows it. -/
theorem guardAndCapacityCommandsComplete : Obligations.GuardAndCapacityCommandsComplete := by
  refine ⟨fun s h hen hs href => ?_, fun s h hen hs href hauto => ?_, fun s h hen hs => ?_, fun s src v ha => ?_,
    fun s p h hgood => ?_, fun s code hready => ?_, fun s d w g h hready hw => ?_⟩
  · have hmatch : (s.flag SYS_CFGCRC_CTRL.AUTO && s.sys.guardReload || s.word SYS_CFGCRC_REF.addr == s.guardCrc) = true := by
      rw [href, beq_self_eq_true, Bool.or_true]
    obtain ⟨hnow, hm, harm⟩ := State.guardMatch_fields { s.guardRead s.guardCrc with
      sys := { (s.guardRead s.guardCrc).sys with guardReload := false } } s.guardCrc
    refine ⟨_, (execGuardPass_eq h hen hs).trans (congrArg _ (if_pos hmatch)), hnow.trans ?_, hm, harm⟩
    rw [State.word_mk, SMap.get_regs, State.word_now_guardRead]
  · have hmis : (s.flag SYS_CFGCRC_CTRL.AUTO && s.sys.guardReload || s.word SYS_CFGCRC_REF.addr == s.guardCrc) = false := by
      rw [hauto, Bool.false_or, beq_eq_false_iff_ne]; exact href
    obtain ⟨hnow, hm, hmm, harm⟩ := State.guardMismatch_fields { s.guardRead s.guardCrc with
      sys := { (s.guardRead s.guardCrc).sys with guardReload := false } } s.guardCrc
    refine ⟨_, (execGuardPass_eq h hen hs).trans (congrArg _ (if_neg (ne_true_of_eq_false hmis))), hnow.trans ?_, hm, hmm, harm⟩
    rw [State.word_mk, SMap.get_regs, State.word_now_guardRead]
  · exact ⟨_, by simp only [exec, execGuardPass, h, hen, hs, Bool.not_true, Bool.or_self, Bool.false_eq_true, if_false, if_true], rfl⟩
  · refine Completes.of_write rfl ha (by decide) (by decide) (t := { s.landed SYS_CFGCRC_REF.addr v with
      sys := { (s.landed SYS_CFGCRC_REF.addr v).sys with guardArmed := true } }) rfl ⟨rfl, ?_, rfl⟩
    rw [State.word_answer, State.word_mk, SMap.get_regs]
    exact State.word_landed_full s _ v (f := ⟨0, 32, .rwImm, 0, .any⟩) (by decide +kernel) rfl rfl rfl
  · refine ⟨_, by simp only [exec, execCapacityFall, h, hgood, Bool.not_true, Bool.false_eq_true, if_false, if_true]; rfl, ?_⟩
    have hwin := FFT_PIPE_STAT.addr_win p
    change State.get _ (FFT_PIPE_STAT.STATE p) = _
    rw [State.get_settleCaps _ _ hwin (by decide) (by decide) (by decide)]
    have hk := Kept.pipeCondition (Kept.loseFrames (.refl ⟨false, [0x00, 0x15, 0x1B], [], [.fft]⟩ (s.setPipe p pFAILED)) (by decide) p)
      (by decide)
    exact (hk.get_of (Foot.word_of_win hwin rfl)).trans (State.get_put_same _ _ _ (by decide : 0 + 3 ≤ 32))
  · have h : s.alive = true := by
      rw [State.memReady, Bool.and_eq_true] at hready; exact hready.1
    refine ⟨_, by simp only [exec, execCapacityFall, h, hready, Bool.not_true, Bool.false_eq_true, if_false, if_true]; rfl, ?_⟩
    dsimp only
    rw [State.get_settleCaps _ _ (w := 0x14) rfl (by decide) (by decide) (by decide), State.get_put_same _ _ _ (by decide)]
    exact Nat.mod_eq_of_lt code.isLt
  · refine ⟨_, by simp only [exec, execCapacityFall, h, hready, hw, Bool.not_true, Bool.false_eq_true, if_false]; rfl, ?_, ?_⟩
    · rw [State.get_settleCaps _ _ (SPT_DRV_STAT.addr_win d) (by decide) (by decide) (by decide), State.get_put_clear _ _ _ _ rfl,
        State.get_put_same _ _ _ (by decide : 8 + 6 ≤ 32)]
      exact Nat.mod_eq_of_lt w.isLt
    · rw [State.get_settleCaps _ _ (SPT_DRV_STAT.addr_win d) (by decide) (by decide) (by decide),
        State.get_put_same _ _ _ (by decide : 4 + 3 ≤ 32)]
      exact Nat.mod_eq_of_lt g.isLt

end Sys2Proof.Machine
end

section
/-! PROOFS. The clocks (R50 to R64). -/

namespace Sys2Proof.Machine

/-! ### Stamps and vectors -/

theorem vget_vset_same {α : Type} {n : Nat} (v : Vector α n) (k : Fin n) (x : α) : vget (vset v k x) k = x := by
  simp [vget, vset]

theorem vget_vset_ne {α : Type} {n : Nat} (v : Vector α n) {k j : Fin n} (x : α) (h : j ≠ k) : vget (vset v k x) j = vget v j := by
  have hne : k.val ≠ j.val := fun e => h (Fin.ext e.symm)
  simp [vget, vset, Vector.getElem_set_ne, hne]

/-- A stamp written is the stamp read. -/
theorem State.getStamp_putStamp (s : State) (a : Nat) (t : Stamp) : (s.putStamp a t).getStamp a = t := by
  have h0 : (s.putStamp a t).word a = BitVec.ofNat 32 t.toNat := by
    rw [State.putStamp, State.word_setWord_ne _ _ (by omega), State.word_setWord_ne _ _ (by omega), State.word_setWord_same]
  have h4 : (s.putStamp a t).word (a + 4) = BitVec.ofNat 32 (t.toNat / 2 ^ 32) := by
    rw [State.putStamp, State.word_setWord_ne _ _ (by omega), State.word_setWord_same]
  have h8 : (s.putStamp a t).word (a + 8) = BitVec.ofNat 32 (t.toNat / 2 ^ 64) := State.word_setWord_same _ _ _
  have ht := t.isLt
  rw [State.getStamp, h0, h4, h8]
  apply BitVec.eq_of_toNat_eq
  simp only [BitVec.toNat_ofNat]
  omega

/-- A stamp register outside a footprint keeps its stamp. -/
theorem Kept.getStamp_of {F : Foot} {s t : State} (k : Kept F s t) {a w : Nat} (h0 : a / 0x10000 = w) (h8 : (a + 8) / 0x10000 = w)
    (hw : F.word w = false) : t.getStamp a = s.getStamp a := by
  have h4 : (a + 4) / 0x10000 = w := by omega
  rw [State.getStamp, State.getStamp, k.word_of (Foot.word_of_win h0 hw), k.word_of (Foot.word_of_win h4 hw),
    k.word_of (Foot.word_of_win h8 hw)]

theorem Foot.word_true_of_win {F : Foot} {a w : Nat} (h : a / 0x10000 = w) (hw : F.word w = true) : F.word (a / 0x10000) = true :=
  h ▸ hw

/-! ### Loss of lock (R55, R56) -/

/-- What a PLL's status shows of its loss. -/
def State.pllDown (s : State) (n : Nat) : State :=
  let s := (s.put (CLK_PLL_STAT.LOCKED n) 0).put (CLK_PLL_STAT.SYNCED n) 0
  (s.put (CLK_PLL_STAT.LOST n) 1).bump (CLK_PLL_STAT.LOSS_COUNT n)

theorem State.pllDown_fields (s : State) (n : Nat) :
    (s.pllDown n).get (CLK_PLL_STAT.LOCKED n) = 0 ∧ (s.pllDown n).get (CLK_PLL_STAT.SYNCED n) = 0
      ∧ (s.pllDown n).get (CLK_PLL_STAT.LOST n) = 1 := by
  refine ⟨?_, ?_, ?_⟩ <;> rw [State.pllDown, State.get_bump_clear _ _ _ rfl]
  · rw [State.get_put_clear _ _ _ _ rfl, State.get_put_clear _ _ _ _ rfl]
    exact (State.get_put_same _ _ _ (by decide : 0 + 1 ≤ 32)).trans (Nat.zero_mod _)
  · rw [State.get_put_clear _ _ _ _ rfl]
    exact (State.get_put_same _ _ _ (by decide : 1 + 1 ≤ 32)).trans (Nat.zero_mod _)
  · exact State.get_put_same _ _ _ (by decide : 2 + 1 ≤ 32)

theorem State.alive_of_dev {s t : State} (h : t.dev = s.dev) : t.alive = s.alive := by rw [State.alive, State.alive, h]

theorem CLK_PLL_STAT.addr_ne_of_win (n : Nat) {a w : Nat} (h : a / 0x10000 = w) (hw : w ≠ 2) : a ≠ CLK_PLL_STAT.addr n := by
  have := CLK_PLL_STAT.addr_win n
  rintro rfl
  omega

theorem State.alive_pllDown (s : State) (n : Nat) : (s.pllDown n).alive = s.alive := by
  have hne : SYS_STATE.STATE.addr ≠ CLK_PLL_STAT.addr n := CLK_PLL_STAT.addr_ne_of_win n (w := 0) rfl (by decide)
  refine State.alive_of_dev ?_
  change State.get _ SYS_STATE.STATE = s.get SYS_STATE.STATE
  rw [State.pllDown, State.get, State.word_bump_ne _ _ hne, State.word_put_ne _ _ _ hne, State.word_put_ne _ _ _ hne,
    State.word_put_ne _ _ _ hne]
  rfl

/-- What the engine does about a loss lies outside the windows of CLK and ALM. -/
abbrev pllLossFoot : Foot :=
  ⟨false, [0x00, 0x04, 0x05, 0x06, 0x07, 0x08, 0x09, 0x0B, 0x0C, 0x0E, 0x10, 0x15, 0x1B], [], [.freeCtr, .gddr, .pins, .flt, .lnk,
    .fcv, .fft, .trg, .acq, .neb, .dpy, .lod, .mem, .srv]⟩

theorem State.pllLost_kept (s : State) (n : Nat) : Kept pllLossFoot (s.pllDown n) (s.pllLost n) := by
  unfold State.pllLost
  change Kept _ _ (if n = 0 ∨ n = 2 ∨ n = 4 then (s.pllDown n).fltFatal _ _ _ _ _ else _)
  have hx : Kept pllLossFoot (s.pllDown n) (s.pllDown n) := .refl _ _
  have hrec (b : Nat) := Kept.fltRec hx (by decide) b 0x02 n 0x02 (tileLoc 3 12 n) ((s.pllDown n).get (CLK_PLL_STAT.LOSS_COUNT n))
  exact Kept.ite (Kept.fltFatal hx (by decide) _ _ _ _ _) (Kept.ite (Kept.lodClockLost (hrec 3) (by decide))
    (Kept.ite (Kept.dpyPllLost (hrec 4) (by decide)) (Kept.lpllLost (hrec 5) (by decide) _)))

theorem State.pllLost_fields (s : State) (n : Nat) :
    (s.pllLost n).locked n = false ∧ (s.pllLost n).flag (CLK_PLL_STAT.SYNCED n) = false
      ∧ (s.pllLost n).flag (CLK_PLL_STAT.LOST n) = true ∧ (s.pllLost n).alm = s.alm := by
  obtain ⟨hlocked, hsynced, hlost⟩ := s.pllDown_fields n
  have hk := s.pllLost_kept n
  have hwin : pllLossFoot.word (CLK_PLL_STAT.addr n / 0x10000) = false := Foot.word_of_win (CLK_PLL_STAT.addr_win n) rfl
  refine ⟨flag_of_get_zero ((hk.get_of hwin).trans hlocked), flag_of_get_zero ((hk.get_of hwin).trans hsynced),
    flag_of_get_one ((hk.get_of hwin).trans hlost), (hk.part_of .alm rfl).trans ?_⟩
  rw [State.pllDown, State.bump_alm, State.put_alm, State.put_alm, State.put_alm]

/-- PLL_F, PLL_M and PLL_T halt the engine (R56). -/
theorem State.dev_pllLost {s : State} (h : s.alive = true) {n : Nat} (hn : n = 0 ∨ n = 2 ∨ n = 4) : (s.pllLost n).dev = halt := by
  have he : s.pllLost n = (s.pllDown n).fltFatal 0x02 n 0x02 (tileLoc 3 12 n) ((s.pllDown n).get (CLK_PLL_STAT.LOSS_COUNT n)) :=
    if_pos hn
  rw [he]
  exact (State.fltFatal_of_alive ((s.alive_pllDown n).trans h) _ _ _ _ _).1

/-! ### Lock (R54) -/

/-- A PLL that locks is watched again; what waits for it goes on elsewhere. -/
theorem State.pllLocked_fields (s : State) (n : Nat) :
    (s.pllLocked n).recSettle.locked n = true ∧ (s.pllLocked n).recSettle.alm = { s.alm with unwatched := s.alm.unwatched.filter (· != n) } := by
  have hk : Kept ⟨false, [0x00, 0x0C, 0x0E, 0x14, 0x15, 0x1A, 0x1B], [0x14], [.neb, .dpy, .boot]⟩
      ({ s.put (CLK_PLL_STAT.LOCKED n) 1 with alm := { (s.put (CLK_PLL_STAT.LOCKED n) 1).alm with
        unwatched := (s.put (CLK_PLL_STAT.LOCKED n) 1).alm.unwatched.filter (· != n) } } : State) (s.pllLocked n).recSettle := by
    refine Kept.recSettle ?_ (by decide)
    have hc := Kept.pllCondition (.refl ⟨false, [0x00, 0x0C, 0x0E, 0x14, 0x15, 0x1A, 0x1B], [0x14], [.neb, .dpy, .boot]⟩
      ({ s.put (CLK_PLL_STAT.LOCKED n) 1 with alm := { (s.put (CLK_PLL_STAT.LOCKED n) 1).alm with
        unwatched := (s.put (CLK_PLL_STAT.LOCKED n) 1).alm.unwatched.filter (· != n) } } : State)) (by decide) n
    exact Kept.ite (Kept.dpyPllLocked hc (by decide)) (Kept.ite (Kept.memBegin hc (by decide)) hc)
  refine ⟨flag_of_get_one ?_, ?_⟩
  · rw [hk.get_of (Foot.word_of_win (CLK_PLL_STAT.addr_win n) rfl), State.get_mk, regField_regs]
    exact State.get_put_same _ _ _ (by decide : 0 + 1 ≤ 32)
  · rw [hk.part_of .alm rfl]
    dsimp only
    rw [State.put_alm]

/-! ### SYNC_IN (R60 to R64) -/

/-- An active edge of SYNC_IN is stamped and passed on as SYSREF. -/
def State.syncEdge (s : State) (t : Stamp) (onPhase : Bool) : State :=
  let s := if s.inDeadTime 8 t then s else (s.stampEdge 8 t).putStamp ALM_SYNC_TS.addr t
  if s.appFlag CLK_SYNC_CTRL.SYSREF_EN then s.sysref onPhase else s

/-- The armed dividers reset. -/
def State.dividersReset (s : State) : State :=
  let s := (s.put CLK_SYNC_STAT.ARMED 0).put CLK_SYNC_STAT.DONE 1
  (bitsIn 9 (s.app CLK_SYNC_CTRL.DIV_MASK)).foldl (fun s n =>
    if s.flag (CLK_PLL_STAT.LOCKED n) then s.put (CLK_PLL_STAT.SYNCED n) 1 else s) s

theorem execSyncInEdge_eq {s : State} {r : Bool} (h : s.alive = true) (hr : r ≠ (s.app CLK_SYNC_CTRL.EDGE == 1)) (t : Stamp) (ph : Bool) :
    execSyncInEdge r t ph s = .next (if (s.syncEdge t ph).flag CLK_SYNC_STAT.ARMED then (s.syncEdge t ph).dividersReset
      else s.syncEdge t ph) := by
  have hguard : (! s.alive || r == (s.app CLK_SYNC_CTRL.EDGE == 1)) = false := by rw [h, beq_eq_false_iff_ne.mpr hr]; rfl
  unfold execSyncInEdge
  rw [if_neg (ne_true_of_eq_false hguard)]
  rfl

theorem State.syncEdge_kept (s : State) (t : Stamp) (ph : Bool) : Kept ⟨false, [0x03, 0x04], [], [.alm, .lnk]⟩ s (s.syncEdge t ph) := by
  have hx : Kept ⟨false, [0x03, 0x04], [], [.alm, .lnk]⟩ s (if s.inDeadTime 8 t then s else (s.stampEdge 8 t).putStamp ALM_SYNC_TS.addr t) :=
    Kept.ite (.refl _ s) (Kept.putStamp _ _ (Kept.stampEdge (.refl _ s) (by decide) 8 t) (by decide) (by decide) (by decide))
  exact Kept.ite (Kept.sysref hx (by decide) ph) hx

theorem State.dividersReset_kept (s : State) : Kept ⟨false, [0x02], [], []⟩ s s.dividersReset :=
  Kept.foldl _ (fun _ n hy => Kept.ite (Kept.put _ _ hy (Foot.word_true_of_win (CLK_PLL_STAT.addr_win n) rfl)) hy)
    (Kept.put _ _ (Kept.put _ _ (.refl _ s) (by decide)) (by decide))

theorem State.dividersReset_fields (s : State) :
    s.dividersReset.flag CLK_SYNC_STAT.ARMED = false ∧ s.dividersReset.flag CLK_SYNC_STAT.DONE = true := by
  have hstep (x : State) (n : Nat) (f : Fld) (hf : f.addr = CLK_SYNC_STAT.addr) :
      (if x.flag (CLK_PLL_STAT.LOCKED n) then x.put (CLK_PLL_STAT.SYNCED n) 1 else x).get f = x.get f := by
    have hne : f.addr ≠ (CLK_PLL_STAT.SYNCED n).addr := by
      rw [hf]; change CLK_SYNC_STAT.addr ≠ CLK_PLL_STAT.addr n; unfold CLK_SYNC_STAT.addr CLK_PLL_STAT.addr; omega
    split
    · exact State.get_put_reg _ _ _ _ hne
    · rfl
  have h : s.dividersReset.get CLK_SYNC_STAT.ARMED = 0 ∧ s.dividersReset.get CLK_SYNC_STAT.DONE = 1 := by
    refine List.foldl_inv (P := fun t : State => t.get CLK_SYNC_STAT.ARMED = 0 ∧ t.get CLK_SYNC_STAT.DONE = 1) ?_ _ ⟨?_, ?_⟩
    · intro x n ⟨harmed, hdone⟩
      exact ⟨(hstep x n _ rfl).trans harmed, (hstep x n _ rfl).trans hdone⟩
    · rw [State.get_put_clear _ _ _ _ rfl]; exact State.get_put_same _ _ _ (by decide)
    · exact State.get_put_same _ _ _ (by decide)
  exact ⟨flag_of_get_zero h.1, flag_of_get_one h.2⟩

/-- An edge outside the dead time is stamped. -/
theorem State.syncEdge_stamps {s : State} {t : Stamp} (h : s.inDeadTime 8 t = false) (ph : Bool) :
    (s.syncEdge t ph).getStamp ALM_SYNC_TS.addr = t ∧ vget (s.syncEdge t ph).alm.lastEdge 8 = some t := by
  have hk : Kept ⟨false, [0x04], [], [.lnk]⟩ ((s.stampEdge 8 t).putStamp ALM_SYNC_TS.addr t) (s.syncEdge t ph) := by
    unfold State.syncEdge
    rw [h]
    exact Kept.ite (Kept.sysref (.refl _ _) (by decide) ph) (.refl _ _)
  refine ⟨(hk.getStamp_of (w := 3) rfl rfl rfl).trans (State.getStamp_putStamp _ _ _), ?_⟩
  rw [hk.part_of .alm rfl, State.putStamp_alm]
  exact vget_vset_same _ _ _

/-- A write of CLK_SYNC_CTRL with DIV_ARM. -/
theorem clkRules_act_arm (src : Source) {w : Word} (x : State) (h : w.toNat.testBit 24 = true) :
    clkRules.act src CLK_SYNC_CTRL.addr w x = .ok (x.put CLK_SYNC_STAT.ARMED 1) := by
  simp only [clkRules, beq_self_eq_true, h, Bool.and_self, if_true]

/-- Settles O15: a lost lock by the status that `pllLost` leaves, an edge of SYNC_IN by its two halves. -/
theorem clockCommandsComplete : Obligations.ClockCommandsComplete := by
  refine ⟨fun s n h hl hw => ?_, fun s n h hw => ?_, fun s n h hen hl => ?_, fun s r t ph h hr harmed => ?_,
    fun s r t ph h hr hdead => ?_, fun s src v ha => ?_⟩
  · have hgo : (s.alive && s.locked n && ! s.alm.unwatched.contains n.val) = true := by rw [h, hl, hw]; rfl
    obtain ⟨hlocked, hsynced, hlost, -⟩ := s.pllLost_fields n
    exact ⟨_, congrArg Host.Outcome.next (if_pos hgo), hlocked, hsynced, hlost, fun hn => State.dev_pllLost h hn⟩
  · have hgo : (s.alive && s.alm.unwatched.contains n.val) = true := by rw [h, hw]; rfl
    obtain ⟨hlocked, hsynced, hlost, halm⟩ :=
      State.pllLost_fields { s with alm := { s.alm with unwatched := s.alm.unwatched.filter (· != n.val) } } n
    exact ⟨_, congrArg Host.Outcome.next (if_pos hgo), hlocked, hsynced, hlost, by rw [halm]⟩
  · have hgo : (s.alive && s.appFlag (CLK_PLL_CTRL.EN n) && ! s.locked n) = true := by rw [h, hen, hl]; rfl
    obtain ⟨hlocked, halm⟩ := s.pllLocked_fields n
    exact ⟨_, congrArg Host.Outcome.next (if_pos hgo), hlocked, by rw [halm]⟩
  · have harm : (s.syncEdge t ph).flag CLK_SYNC_STAT.ARMED = true :=
      (State.flag_eq_get ((s.syncEdge_kept t ph).get_of rfl)).trans harmed
    exact ⟨_, (execSyncInEdge_eq h hr t ph).trans (congrArg _ (if_pos harm)), State.dividersReset_fields _⟩
  · obtain ⟨hts, hedge⟩ := State.syncEdge_stamps hdead ph
    have hk : Kept ⟨false, [0x02], [], []⟩ (s.syncEdge t ph) (if (s.syncEdge t ph).flag CLK_SYNC_STAT.ARMED
        then (s.syncEdge t ph).dividersReset else s.syncEdge t ph) := Kept.ite (State.dividersReset_kept _) (.refl _ _)
    refine ⟨_, execSyncInEdge_eq h hr t ph, (hk.getStamp_of (w := 3) rfl rfl rfl).trans hts, ?_⟩
    rw [hk.part_of .alm rfl, hedge]
  · exact Completes.of_write rfl ha (by decide) (by decide) (clkRules_act_arm src _ (testBit_or_right v _ (by decide)))
      ⟨rfl, (State.answer_flag _ _ _ _).trans (State.flag_put_one _ _ (by decide) rfl)⟩

end Sys2Proof.Machine
end

section
/-! PROOFS. The Almanac's discipline (R69 to R77) and the time-to-digital converter (R83 to R87). -/

namespace Sys2Proof.Machine

/-! ### TQ (R66) -/

@[simp] theorem State.alm_almTq (s : State) : s.almTq.alm = s.alm := (Kept.almTq (.refl _ s) (Foot.le_refl _)).part_of .alm rfl

/-- TQ aside, every field stands as it was. -/
theorem State.get_almTq (s : State) {f : Fld} (h : ALM_STAT.TQ.clear f = true) : s.almTq.get f = s.get f :=
  State.get_put_clear s ALM_STAT.TQ f _ h

/-! ### REF_IN (R69 to R71) -/

/-- Windows counted so far: g good ones in succession, or b bad ones. -/
def State.refCounted (s : State) (g b : Nat) : State :=
  let s : State := { s with alm := { s.alm with refGood := g, refBad := b } }
  if g = 3 then s.put ALM_STAT.REF_PRESENT 1 else if b = 3 then s.put ALM_STAT.REF_PRESENT 0 else s

/-- What follows a window: holdover begins, the correction follows, or TQ alone. -/
def State.refFollow (s : State) (was : Bool) (corr : Int) : State :=
  if was && ! s.refGood then (s.enterHoldover).fltInfo 0x03 0 0x03 almLocation 0
  else if s.refGood && ! s.alm.holdover then (s.track corr).almTq
  else s.almTq

theorem State.alm_refCounted (s : State) (g b : Nat) : (s.refCounted g b).alm = { s.alm with refGood := g, refBad := b } := by
  unfold State.refCounted
  dsimp only
  split
  · rw [State.put_alm]
  · split
    · rw [State.put_alm]
    · rfl

theorem State.refFollow_keeps (s : State) (was : Bool) (corr : Int) :
    (s.refFollow was corr).alm.refGood = s.alm.refGood ∧ (s.refFollow was corr).alm.refBad = s.alm.refBad
      ∧ (s.refFollow was corr).get ALM_STAT.REF_PRESENT = s.get ALM_STAT.REF_PRESENT := by
  unfold State.refFollow
  split
  · have hk := Kept.fltInfo (.refl _ s.enterHoldover) (Foot.le_refl _) 0x03 0 0x03 almLocation 0
    rw [hk.part_of .alm rfl, hk.get_of rfl, State.enterHoldover, State.alm_almTq, State.get_almTq _ rfl]
    exact ⟨rfl, rfl, rfl⟩
  · split
    · rw [State.alm_almTq, State.get_almTq _ rfl]
      exact ⟨rfl, rfl, rfl⟩
    · rw [State.alm_almTq, State.get_almTq _ rfl]
      exact ⟨rfl, rfl, rfl⟩

/-- A window that was counted as ok or not, and what it leaves. -/
theorem execRefWindow_fields {s : State} (h : s.alive = true) {n : Nat} {c : Int} {ok : Bool} (hok :
      (decide ((if s.app ALM_CTRL.REF_FREQ == 1 then 100 else 10) * 9 ≤ n * 10)
        && decide (n * 10 ≤ (if s.app ALM_CTRL.REF_FREQ == 1 then 100 else 10) * 11)) = ok) :
    let g := if ok then min (s.alm.refGood + 1) 3 else 0
    let b := if ok then 0 else min (s.alm.refBad + 1) 3
    Completes (.refWindow n c) s fun t => t.alm.refGood = g ∧ t.alm.refBad = b
      ∧ t.get ALM_STAT.REF_PRESENT = (s.refCounted g b).get ALM_STAT.REF_PRESENT := by
  intro g b
  have he : ∃ (off was : Bool), exec (.refWindow n c) s
      = .next (((s.refCounted g b).putB ALM_STAT.REF_OFF_RANGE off).refFollow was c) := by
    exact ⟨_, _, by simp only [exec, execRefWindow, h, hok, Bool.not_true, Bool.false_eq_true, if_false]; rfl⟩
  obtain ⟨off, was, he⟩ := he
  obtain ⟨hg, hb, hp⟩ := ((s.refCounted g b).putB ALM_STAT.REF_OFF_RANGE off).refFollow_keeps was c
  have halm : ((s.refCounted g b).putB ALM_STAT.REF_OFF_RANGE off).alm = { s.alm with refGood := g, refBad := b } := by
    rw [State.putB, State.put_alm, State.alm_refCounted]
  refine ⟨_, he, ?_, ?_, ?_⟩
  · rw [hg, halm]
  · rw [hb, halm]
  · exact hp.trans (State.get_put_clear _ _ _ _ rfl)

theorem State.refCounted_present {s : State} {g b : Nat} (h : g = 3) : (s.refCounted g b).get ALM_STAT.REF_PRESENT = 1 := by
  unfold State.refCounted
  rw [if_pos h]
  exact State.get_put_same _ _ _ (by decide)

theorem State.refCounted_absent {s : State} {g b : Nat} (hg : g ≠ 3) (h : b = 3) :
    (s.refCounted g b).get ALM_STAT.REF_PRESENT = 0 := by
  unfold State.refCounted
  rw [if_neg hg, if_pos h]
  exact State.get_put_same _ _ _ (by decide)

/-! ### Steps and PPS (R73 to R76) -/

/-- The time after a step is the time stepped to. -/
theorem State.stepTo_fields (s : State) (t : Stamp) : (s.stepTo t).now = t ∧ (s.stepTo t).alm.lastEdge = s.alm.lastEdge
    ∧ (s.stepTo t).get ALM_STAT.STEP_PENDING = s.get ALM_STAT.STEP_PENDING := by
  have hnow : ((t.setWidth 104 <<< 24 : BitVec 104) >>> 24).setWidth 80 = t := by
    apply BitVec.eq_of_toNat_eq
    have := t.isLt
    simp [BitVec.toNat_setWidth, BitVec.toNat_shiftLeft, BitVec.toNat_ushiftRight, Nat.shiftLeft_eq, Nat.shiftRight_eq_div_pow]
    omega
  unfold State.stepTo
  dsimp only
  have hk (x : State) (d : Nat) := Kept.fltInfo (.refl _ x) (Foot.le_refl _) 0x05 0 0x03 almLocation d
  have hpend (x : State) (d : Nat) : ((x.put ALM_STAT.STEPPED 1).putPair (ALM_STEP_LAST.addr 0) d).get ALM_STAT.STEP_PENDING
      = x.get ALM_STAT.STEP_PENDING := by
    rw [State.putPair, State.get_setWord_ne _ _ _ _ (by decide), State.get_setWord_ne _ _ _ _ (by decide),
      State.get_put_clear _ _ _ _ rfl]
  refine ⟨?_, ?_, ?_⟩
  · rw [State.now, (hk _ _).part_of .alm rfl, State.putPair_alm, State.put_alm]
    exact hnow
  · rw [(hk _ _).part_of .alm rfl, State.putPair_alm, State.put_alm]
  · rw [(hk _ _).get_of rfl, hpend, State.get_mk, regField_regs]

/-- What an accepted edge of PPS_IN leaves. -/
theorem State.ppsAccept_fields (s : State) (e : Int) :
    (s.ppsAccept e).get ALM_PPS_ERR.ERR = satSigned 32 e ∧ (s.ppsAccept e).alm.slewLeft = -e * 16777216
      ∧ (s.ppsAccept e).alm.ppsMismatch = false ∧ (s.ppsAccept e).alm.word = s.alm.word
      ∧ (s.ppsAccept e).alm.lastEdge = s.alm.lastEdge
      ∧ (s.ppsAccept e).get ALM_STAT.STEP_PENDING = s.get ALM_STAT.STEP_PENDING
      ∧ (1 ≤ s.alm.ppsAccepted → (s.ppsAccept e).flag ALM_STAT.PPS_PRESENT = true) := by
  unfold State.ppsAccept
  dsimp only
  have herr : (s.put ALM_PPS_ERR.ERR (satSigned 32 e)).get ALM_PPS_ERR.ERR = satSigned 32 e :=
    (State.get_put_same _ _ _ (by decide)).trans (Nat.mod_eq_of_lt (satSigned_lt 32 e))
  have hpend : (s.put ALM_PPS_ERR.ERR (satSigned 32 e)).get ALM_STAT.STEP_PENDING = s.get ALM_STAT.STEP_PENDING :=
    State.get_put_clear _ _ _ _ rfl
  have halm : (s.put ALM_PPS_ERR.ERR (satSigned 32 e)).alm = s.alm := State.put_alm _ _ _
  generalize s.put ALM_PPS_ERR.ERR (satSigned 32 e) = x at herr hpend halm ⊢
  rw [← halm, ← hpend, ← herr, State.get_almTq _ rfl, State.get_almTq _ rfl, State.alm_almTq,
    State.flag, State.get_almTq _ rfl]
  split
  · rw [State.put_alm, State.get_put_clear _ _ _ _ rfl, State.get_put_clear _ _ _ _ rfl, State.get_put_same _ _ _ (by decide)]
    exact ⟨rfl, rfl, rfl, rfl, rfl, rfl, fun _ => rfl⟩
  next hn => exact ⟨rfl, rfl, rfl, rfl, rfl, rfl, fun h1 => absurd (by omega) hn⟩

theorem almRules_act_step_pps (src : Source) {w : Word} {x : State} (h : w.toNat.testBit 12 = true) (hsrc : x.almSrc = 2) :
    almRules.act src ALM_CTRL.addr w x = .ok (x.put ALM_STAT.STEP_PENDING 1) := by
  simp only [almRules, beq_self_eq_true, h, hsrc, if_true]

theorem almRules_act_step (src : Source) {w : Word} {x : State} (h : w.toNat.testBit 12 = true) (hsrc : x.almSrc ≠ 2) :
    almRules.act src ALM_CTRL.addr w x = .ok { x with alm := { x.alm with stepDue := true } } := by
  simp only [almRules, beq_self_eq_true, h, beq_eq_false_iff_ne.mpr hsrc, Bool.false_eq_true, if_true, if_false]

/-- An edge of PPS_IN that disciplines the Almanac. -/
theorem execPpsInEdge_eq {s : State} {r : Bool} {p : Stamp} (h : s.alive = true) (hr : r ≠ (s.app ALM_CTRL.PPS_EDGE == 1))
    (hd : s.inDeadTime 9 p = false) (hsrc : s.almSrc = 2) :
    execPpsInEdge r p s = .next (let s := s.stampEdge 9 p
      if s.flag ALM_STAT.STEP_PENDING then
        ((s.put ALM_STAT.STEP_PENDING 0).ppsAccept 0).stepTo (BitVec.ofNat 80 (((((s.put ALM_STAT.STEP_PENDING 0).ppsAccept 0).appStamp
          ALM_SET.addr).toNat) / 2 ^ 40 * 2 ^ 40))
      else if (secondError p).natAbs * 1000000 ≤ 2 ^ 40 then s.ppsAccept (secondError p) else s.ppsReject p (secondError p)) := by
  have hguard : (! s.alive || r == (s.app ALM_CTRL.PPS_EDGE == 1) || s.inDeadTime 9 p) = false := by
    rw [h, hd, beq_eq_false_iff_ne.mpr hr]; rfl
  have hpps : ((s.stampEdge 9 p).almSrc != 2) = false := by
    have : (s.stampEdge 9 p).almSrc = s.almSrc := rfl
    rw [this, hsrc]; rfl
  unfold execPpsInEdge
  rw [if_neg (ne_true_of_eq_false hguard)]
  dsimp only
  rw [if_neg (ne_true_of_eq_false hpps)]

/-- Applied stamps outside a footprint. -/
theorem Kept.appStamp_of {F : Foot} {s t : State} (k : Kept F s t) {a w : Nat} (h0 : a / 0x10000 = w) (h8 : (a + 8) / 0x10000 = w)
    (hw : F.app w = false) : t.appStamp a = s.appStamp a := by
  have h4 : (a + 4) / 0x10000 = w := by omega
  have ha (b : Nat) (hb : b / 0x10000 = w) : t.appWord b = s.appWord b := k.frame.2.2.1 b (by rw [hb]; exact hw)
  rw [State.appStamp, State.appStamp, ha _ h0, ha _ h4, ha _ h8]

/-- Settles O16: each command's own branch, with what TQ, an accepted edge and a step leave. -/
theorem almanacCommandsComplete : Obligations.AlmanacCommandsComplete := by
  refine ⟨fun s n c h hn => ?_, fun s n c h hn => ?_, fun s h hho hgood => ?_, fun s src v ha hsrc => ?_, fun s src v ha hsrc => ?_,
    fun s r p h hr hd hsrc hpend => ?_, fun s r p h hr hd hsrc hpend he => ?_, fun s h => ?_, fun s h hen => ?_, fun s h => ?_⟩
  · have hok : (decide ((if s.app ALM_CTRL.REF_FREQ == 1 then 100 else 10) * 9 ≤ n * 10)
        && decide (n * 10 ≤ (if s.app ALM_CTRL.REF_FREQ == 1 then 100 else 10) * 11)) = true := by
      by_cases hf : s.app ALM_CTRL.REF_FREQ = 1
      · rw [if_pos hf] at hn; simp [hf]; omega
      · rw [if_neg hf] at hn; simp [hf]; omega
    obtain ⟨t, he, hg, hb, hp⟩ := execRefWindow_fields (c := c) h hok
    exact ⟨t, he, hg, hb, fun h2 => flag_of_get_one (hp.trans (State.refCounted_present (by simp; omega)))⟩
  · have hok : (decide ((if s.app ALM_CTRL.REF_FREQ == 1 then 100 else 10) * 9 ≤ n * 10)
        && decide (n * 10 ≤ (if s.app ALM_CTRL.REF_FREQ == 1 then 100 else 10) * 11)) = false := by
      by_cases hf : s.app ALM_CTRL.REF_FREQ = 1
      · rw [if_pos hf] at hn; simp [hf]; omega
      · rw [if_neg hf] at hn; simp [hf]; omega
    obtain ⟨t, he, hg, hb, hp⟩ := execRefWindow_fields (c := c) h hok
    exact ⟨t, he, hb, hg, fun h2 => flag_of_get_zero (hp.trans (State.refCounted_absent (by simp) (by simp; omega)))⟩
  · have hgo : (s.alive && s.alm.holdover && s.refGood) = true := by rw [h, hho, hgood]; rfl
    refine ⟨_, congrArg Host.Outcome.next (if_pos hgo), ?_⟩
    dsimp only
    rw [State.alm_almTq]
    exact ⟨rfl, rfl, rfl⟩
  · refine Completes.of_write rfl ha (by decide) (by decide) (almRules_act_step_pps src (testBit_or_right v _ (by decide)) hsrc)
      ⟨rfl, (State.answer_flag _ _ _ _).trans (State.flag_put_one _ _ (by decide) rfl), ?_⟩
    rw [State.answer_alm, State.put_alm]
    rfl
  · exact Completes.of_write rfl ha (by decide) (by decide) (almRules_act_step src (testBit_or_right v _ (by decide)) hsrc) ⟨rfl, rfl⟩
  · have hflag : (s.stampEdge 9 p).flag ALM_STAT.STEP_PENDING = true := hpend
    have hk : Kept ⟨false, [0x03], [], [.alm]⟩ s (((s.stampEdge 9 p).put ALM_STAT.STEP_PENDING 0).ppsAccept 0) :=
      Kept.ppsAccept (Kept.put _ _ (Kept.stampEdge (.refl _ s) (by decide) 9 p) (by decide)) (by decide) 0
    obtain ⟨-, -, -, -, hedge, hpend', -⟩ := ((s.stampEdge 9 p).put ALM_STAT.STEP_PENDING 0).ppsAccept_fields 0
    refine ⟨_, (execPpsInEdge_eq h hr hd hsrc).trans (congrArg _ (if_pos hflag)), ?_⟩
    dsimp only
    rw [hk.appStamp_of (w := 0x03) rfl rfl rfl]
    obtain ⟨hnow, hedge', hpend''⟩ := (((s.stampEdge 9 p).put ALM_STAT.STEP_PENDING 0).ppsAccept 0).stepTo_fields
      (BitVec.ofNat 80 ((s.appStamp ALM_SET.addr).toNat / 2 ^ 40 * 2 ^ 40))
    refine ⟨flag_of_get_zero ?_, ?_, ?_⟩
    · rw [hpend'', hpend', State.get_put_same _ _ _ (by decide), Nat.zero_mod]
    · have hlt := (s.appStamp ALM_SET.addr).isLt
      rw [hnow, BitVec.toNat_ofNat]
      omega
    · rw [hedge', hedge, State.put_alm]
      exact vget_vset_same _ _ _
  · have hflag : ¬ (s.stampEdge 9 p).flag ALM_STAT.STEP_PENDING = true := ne_true_of_eq_false hpend
    obtain ⟨herr, hslew, hmis, hword, -, -, hpres⟩ := (s.stampEdge 9 p).ppsAccept_fields (secondError p)
    refine ⟨_, (execPpsInEdge_eq h hr hd hsrc).trans (congrArg _ ((if_neg hflag).trans (if_pos he))), herr, hslew, hmis, ?_, hpres⟩
    rw [State.now, hword]
    rfl
  · refine ⟨_, congrArg Host.Outcome.next (if_pos h), flag_of_get_zero ?_, ?_⟩
    · rw [State.get_almTq _ rfl]; exact State.get_put_same _ _ _ (by decide)
    · rw [State.alm_almTq, State.put_alm]
  · have hgo : (s.alive && s.appFlag ALM_CTRL.PPSO_EN) = true := by rw [h, hen]; rfl
    exact ⟨_, congrArg Host.Outcome.next (if_pos hgo), rfl⟩
  · exact ⟨_, congrArg Host.Outcome.next (if_pos h), rfl⟩

/-! ### The TDC (R83 to R87) -/

theorem State.tdcEnd_fields (s : State) : s.tdcEnd.flag ALM_TDC_STAT.BUSY = false ∧ s.tdcEnd.flag ALM_TDC_STAT.DONE = true
    ∧ s.tdcEnd.flag ALM_TDC_STAT.TIMEOUT = s.flag ALM_TDC_STAT.TIMEOUT := by
  refine ⟨State.flag_put_zero _ _ (by decide), ?_, ?_⟩
  · rw [State.tdcEnd, State.flag_put_clear _ _ _ _ rfl]
    exact State.flag_put_one _ _ (by decide) rfl
  · rw [State.tdcEnd, State.flag_put_clear _ _ _ _ rfl, State.flag_put_clear _ _ _ _ rfl]

theorem State.tdcArm_fields (s : State) : s.tdcArm.flag ALM_TDC_STAT.BUSY = true ∧ s.tdcArm.flag ALM_TDC_STAT.DONE = false
    ∧ s.tdcArm.alm.tdcStarted = false ∧ s.tdcArm.alm.tdcList = [] ∧ s.tdcArm.alm.tdcMask = s.app ALM_TDC_CTRL.STOP_MASK := by
  have hk : Kept ⟨false, [0x03], [], []⟩ s ((List.range 7).foldl (fun s j =>
      (s.setWord (ALM_TDC_RESULT_LO.addr j) 0).setWord (ALM_TDC_RESULT_HI.addr j) 0) s) :=
    Kept.foldl _ (fun y j hy => Kept.setWord _ _ (Kept.setWord _ _ hy (Foot.word_true_of_win (ALM_TDC_RESULT_LO.addr_win j) rfl))
      (Foot.word_true_of_win (ALM_TDC_RESULT_HI.addr_win j) rfl)) (.refl _ s)
  unfold State.tdcArm
  dsimp only
  generalize (List.range 7).foldl (fun (s : State) j =>
    (s.setWord (ALM_TDC_RESULT_LO.addr j) 0).setWord (ALM_TDC_RESULT_HI.addr j) 0) s = x at hk ⊢
  refine ⟨State.flag_put_one _ _ (by decide) rfl, ?_, ?_, ?_, ?_⟩
  · refine flag_of_get_zero ?_
    have hword : ((x.setWord ALM_TDC_STAT.addr 0).putStamp ALM_TDC_START.addr 0).word ALM_TDC_STAT.addr = 0 := by
      rw [State.putStamp, State.word_setWord_ne _ _ (by decide), State.word_setWord_ne _ _ (by decide),
        State.word_setWord_ne _ _ (by decide), State.word_setWord_same]
    rw [State.get_put_clear _ _ _ _ rfl, State.get_mk, regField_regs, State.get]
    change bitsOf (State.word _ ALM_TDC_STAT.addr) _ _ = 0
    rw [hword]
    rfl
  · rw [State.put_alm]
  · rw [State.put_alm]
  · rw [State.put_alm]
    change (x.app ALM_TDC_CTRL.STOP_MASK) = _
    exact hk.app_of rfl

theorem almRules_act_arm (src : Source) {w : Word} {x : State} (harm : w.toNat.testBit 24 = true) (habort : w.toNat.testBit 25 = false)
    (hmask : x.app ALM_TDC_CTRL.STOP_MASK ≠ 0) : almRules.act src ALM_TDC_CTRL.addr w x = .ok x.tdcArm := by
  have hne : (ALM_TDC_CTRL.addr == ALM_CTRL.addr) = false := by decide
  simp only [almRules, beq_self_eq_true, hne, harm, habort, beq_eq_false_iff_ne.mpr hmask, Bool.and_false, Bool.false_eq_true, if_true, if_false]

theorem almRules_act_abort (src : Source) {w : Word} {x : State} (habort : w.toNat.testBit 25 = true) (harm : w.toNat.testBit 24 = false)
    (hbusy : x.flag ALM_TDC_STAT.BUSY = true) : almRules.act src ALM_TDC_CTRL.addr w x = .ok x.tdcEnd := by
  have hne : (ALM_TDC_CTRL.addr == ALM_CTRL.addr) = false := by decide
  simp only [almRules, beq_self_eq_true, hne, harm, habort, hbusy, Bool.false_and, Bool.false_eq_true, if_true, if_false]

/-- Outside a measurement an edge is only stamped. -/
theorem State.tdcEdge_idle {s : State} (h : s.flag ALM_TDC_STAT.BUSY = false) (k : Nat) (r : Bool) (t : Stamp) : s.tdcEdge k r t = s := by
  simp only [State.tdcEdge, h, Bool.not_false, if_true]

/-- Settles O17: each strobe by what it does to a landed state, each event by its own branch. -/
theorem tdcCommandsComplete : Obligations.TdcCommandsComplete := by
  refine ⟨fun s k r e h hact hd hbusy => ?_, fun s src v ha habort hmask => ?_, fun s src v ha harm hbusy => ?_,
    fun s h hbusy hst => ?_, fun s h => ?_⟩
  · have hactive : (if r then s.app ALM_TRIG_EDGE.EDGE / 4 ^ k.val % 4 % 2 == 1 else s.app ALM_TRIG_EDGE.EDGE / 4 ^ k.val % 4 / 2 == 1)
        = true := by cases r <;> simpa using hact
    have hb : (s.stampEdge ⟨k.val, by omega⟩ e).flag ALM_TDC_STAT.BUSY = false := hbusy
    have hk := Kept.fileEvent (.refl _ (s.stampEdge ⟨k.val, by omega⟩ e)) (Foot.le_refl _) k e (some e) 0
    refine ⟨((s.stampEdge ⟨k.val, by omega⟩ e).tdcEdge k r e).fileEvent k e (some e) 0, ?_, ?_, ?_⟩
    · simp only [exec, execTrigInEdge, h, hactive, hd, Bool.not_true, Bool.or_self, Bool.false_eq_true, if_false]
    · rw [State.tdcEdge_idle hb, hk.part_of .alm rfl]
      exact vget_vset_same _ _ _
    · rw [State.tdcEdge_idle hb, hk.part_of .pins rfl]
      rfl
  · obtain ⟨hb, hdone, hst, hl, hm⟩ := (s.landed ALM_TDC_CTRL.addr (v ||| 0x1000000)).tdcArm_fields
    exact Completes.of_write rfl ha (by decide) (by decide)
      (almRules_act_arm src (testBit_or_right v _ (by decide)) habort (by rw [State.app_landed]; exact hmask))
      ⟨rfl, (State.answer_flag _ _ _ _).trans hb, (State.answer_flag _ _ _ _).trans hdone, by rw [State.answer_alm]; exact hst,
        by rw [State.answer_alm]; exact hl, by rw [State.answer_alm]; exact hm.trans (State.app_landed _ _ _ _)⟩
  · obtain ⟨hb, hdone, -⟩ := (s.landed ALM_TDC_CTRL.addr (v ||| 0x2000000)).tdcEnd_fields
    exact Completes.of_write rfl ha (by decide) (by decide)
      (almRules_act_abort src (testBit_or_right v _ (by decide)) harm
        ((State.flag_eq_get (State.get_landed_ne _ _ _ _ (by decide))).trans hbusy))
      ⟨rfl, (State.answer_flag _ _ _ _).trans hb, (State.answer_flag _ _ _ _).trans hdone⟩
  · have hgo : (s.alive && s.flag ALM_TDC_STAT.BUSY && s.alm.tdcStarted) = true := by rw [h, hbusy, hst]; rfl
    obtain ⟨hb, hdone, hto⟩ := (s.put ALM_TDC_STAT.TIMEOUT 1).tdcEnd_fields
    exact ⟨_, congrArg Host.Outcome.next (if_pos hgo), hto.trans (State.flag_put_one _ _ (by decide) rfl), hb, hdone⟩
  · have hzero : ∀ k : Fin 10, (if (0 : BitVec 10).getLsbD k then min (vget s.alm.calFails k + 1) 2 else 0) = 0 := fun k => by simp
    have hnone : (Vector.ofFn fun _ : Fin 10 => 0).toList.any (fun n => decide (2 ≤ n)) = false := by decide
    have he : exec (.tdcCalibrate 0) s = .next (({ s with alm := { s.alm with calFails := Vector.ofFn fun _ => 0 } } : State).put
        ALM_STAT.TDC_CAL_OK 1) := by
      simp only [exec, execTdcCalibrate, h, hzero, hnone, beq_self_eq_true, Bool.not_true, Bool.false_eq_true, if_false, if_true]
    refine ⟨_, he, State.flag_put_one _ _ (by decide) rfl, fun k => ?_⟩
    rw [State.put_alm]
    simp [vget]

end Sys2Proof.Machine
end

section
/-! PROOFS. Sample lanes: what the link's operations read and write, and what a loss of a converter leaves (R97 to R122). -/

namespace Sys2Proof.Machine

/-! ### Bits of a mask -/

theorem testBit_setBit_same (m k : Nat) (b : Bool) : (setBit m k b).testBit k = b := by
  unfold setBit
  split
  next h => simpa using h
  next h =>
    split
    next hb =>
      have hm : m.testBit k = false := by simpa [hb] using h
      rw [Nat.add_comm, Nat.testBit_two_pow_add_eq, hm, hb]; rfl
    next hb =>
      have hm : m.testBit k = true := by simpa [hb] using h
      have hle := Nat.ge_two_pow_of_testBit hm
      have hadd : 2 ^ k + (m - 2 ^ k) = m := by omega
      rw [← hadd, Nat.testBit_two_pow_add_eq] at hm
      simp only [Bool.not_eq_true'] at hm
      rw [hm]; simpa using hb

theorem bitsIn_two_pow {n k : Nat} (h : k < n) : bitsIn n (2 ^ k) = [k] := by
  unfold bitsIn
  rw [List.filter_congr (q := fun j => decide (j = k)) (fun j _ => by simp [Nat.testBit_two_pow, eq_comm])]
  simp [List.filter_eq, h]

/-! ### What the link reads -/

/-- Two states that the link reads alike: settings, domains, lanes and its own state. -/
structure LinkAlike (s x : State) : Prop where
  applied : x.applied = s.applied
  dev : x.dev = s.dev
  dom : ∀ d, x.dom d = s.dom d
  lane : ∀ n, x.lane n = s.lane n
  lnk : x.lnk = s.lnk
  valid : x.get LNK_STAT.CONV_VALID = s.get LNK_STAT.CONV_VALID

section
variable {s x : State} (h : LinkAlike s x)
include h

theorem LinkAlike.app (f : Fld) : x.app f = s.app f := State.app_of_applied h.applied f

theorem LinkAlike.alive : x.alive = s.alive := State.alive_of_dev h.dev

theorem LinkAlike.live (d : Nat) : x.live d = s.live d := by rw [State.live, State.live, h.alive, State.domOn, State.domOn, h.dom]

theorem LinkAlike.laneEn : x.laneEn = s.laneEn := by
  funext n
  rw [State.laneEn, State.laneEn, State.appFlag, State.appFlag, h.app, State.domOn, State.domOn, h.dom]

theorem LinkAlike.convOf (n : Nat) : x.convOf n = s.convOf n := by rw [State.convOf, State.convOf, h.app]

theorem LinkAlike.convLanes (c : Nat) : x.convLanes c = s.convLanes c := by
  rw [State.convLanes, State.convLanes, h.app, h.laneEn]

theorem LinkAlike.convValid (c : Nat) : x.convValid c = s.convValid c := by rw [State.convValid, State.convValid, h.valid]

end

theorem LNK_LANE_STAT.addr_ge (n : Nat) : 0x40104 ≤ LNK_LANE_STAT.addr n := by unfold LNK_LANE_STAT.addr; omega

theorem LNK_LANE_STAT.addr_eq_iff {m n : Nat} : LNK_LANE_STAT.addr m = LNK_LANE_STAT.addr n ↔ m % 32 = n % 32 := by
  unfold LNK_LANE_STAT.addr; omega

theorem LNK_CONV_STAT.addr_lt (c : Nat) : LNK_CONV_STAT.addr c < 0x40100 := by unfold LNK_CONV_STAT.addr; omega

theorem LNK_CONV_CNT.addr_lt (c : Nat) : LNK_CONV_CNT.addr c < 0x40100 := by unfold LNK_CONV_CNT.addr; omega

/-- A write of another of the link's registers is not read by it. -/
theorem LinkAlike.setWord (s : State) {a : Nat} (w : Word) (ha : a / 0x10000 = 4) (hl : ∀ n, LNK_LANE_STAT.addr n ≠ a)
    (hv : LNK_STAT.addr ≠ a) : LinkAlike s (s.setWord a w) where
  applied := State.setWord_applied _ _ _
  dev := State.get_setWord_ne _ _ _ _ (fun e => by rw [← e] at ha; exact absurd ha (by decide))
  dom d := State.get_setWord_ne _ _ _ _ (fun e => by
    have := PWR_DOM_STAT.addr_win d
    rw [← e] at ha
    exact absurd (ha.symm.trans this) (by decide))
  lane n := State.get_setWord_ne _ _ _ _ (hl n)
  lnk := State.setWord_lnk _ _ _
  valid := State.get_setWord_ne _ _ _ _ hv

/-- A write of a converter's status or counts. -/
theorem LinkAlike.put_conv (s : State) {f : Fld} (v : Nat) (h : 0x40014 ≤ f.addr) (hlt : f.addr < 0x40100) : LinkAlike s (s.put f v) :=
  LinkAlike.setWord s _ (by omega) (fun n => by have := LNK_LANE_STAT.addr_ge n; omega)
    (by change 0x40010 ≠ f.addr; omega)

/-- A write of a lane's register that is not its status. -/
theorem LinkAlike.put_lane (s : State) {f : Fld} (v : Nat) (h : 0x40100 ≤ f.addr) (hlt : f.addr < 0x50000) (hr : f.addr % 32 ≠ 4) :
    LinkAlike s (s.put f v) :=
  LinkAlike.setWord s _ (by omega) (fun n => by unfold LNK_LANE_STAT.addr; omega) (by change 0x40010 ≠ f.addr; omega)

theorem LinkAlike.trans {s x y : State} (h : LinkAlike s x) (k : LinkAlike x y) : LinkAlike s y where
  applied := k.applied.trans h.applied
  dev := k.dev.trans h.dev
  dom d := (k.dom d).trans (h.dom d)
  lane n := (k.lane n).trans (h.lane n)
  lnk := k.lnk.trans h.lnk
  valid := k.valid.trans h.valid

theorem LinkAlike.refl (s : State) : LinkAlike s s := ⟨rfl, rfl, fun _ => rfl, fun _ => rfl, rfl, rfl⟩

theorem LinkAlike.bump_lane (s : State) {f : Fld} (h : 0x40100 ≤ f.addr) (hlt : f.addr < 0x50000) (hr : f.addr % 32 ≠ 4) :
    LinkAlike s (s.bump f) := by
  unfold State.bump
  split
  · exact LinkAlike.put_lane s _ h hlt hr
  · exact .refl s

/-- Lane n stands in the range of its converter. -/
theorem mem_modeLanes (mode : Nat) {n : Nat} (h : n < 32) : n ∈ modeLanes mode (modeConv mode n) := by
  match mode with
  | 0 => simpa [modeLanes, modeConv] using h
  | 3 =>
    change n ∈ (List.range 8).map (8 * (n / 8) + ·)
    exact List.mem_map.mpr ⟨n % 8, by simp; omega, by omega⟩
  | 1 | 2 | _ + 4 =>
    change n ∈ if n / 16 < 2 then (List.range 16).map (16 * (n / 16) + ·) else []
    rw [if_pos (by omega)]
    exact List.mem_map.mpr ⟨n % 16, by simp; omega, by omega⟩

/-- Lane n, enabled, is one of its converter's lanes. -/
theorem State.mem_convLanes {s : State} (n : Fin 32) (h : s.laneEn n = true) : n.val ∈ s.convLanes (s.convOf n) := by
  rw [State.convLanes, List.mem_filter]
  exact ⟨mem_modeLanes _ n.isLt, h⟩

theorem State.lt_of_mem_convLanes {s : State} {c n : Nat} (h : n ∈ s.convLanes c) (hc : c < 4) : n < 32 := by
  rw [State.convLanes, List.mem_filter] at h
  obtain ⟨h, -⟩ := h
  unfold modeLanes at h
  split at h
  · split at h
    · simpa using h
    · exact absurd h List.not_mem_nil
  · obtain ⟨i, hi, rfl⟩ := List.mem_map.mp h
    rw [List.mem_range] at hi
    omega
  · split at h
    · obtain ⟨i, hi, rfl⟩ := List.mem_map.mp h
      rw [List.mem_range] at hi
      omega
    · exact absurd h List.not_mem_nil

theorem State.convOf_lt (s : State) (n : Fin 32) : s.convOf n < 4 := by
  unfold State.convOf modeConv
  have := n.isLt
  split <;> omega

/-! ### Lanes -/

theorem State.lane_put_same (s : State) (n : Nat) {v : Nat} (h : v < 8) : (s.put (LNK_LANE_STAT.STATE n) v).lane n = v :=
  (State.get_put_same _ _ _ (by decide : 0 + 3 ≤ 32)).trans (Nat.mod_eq_of_lt h)

theorem State.lane_put_ne (s : State) {m n : Nat} (v : Nat) (h : n % 32 ≠ m % 32) :
    (s.put (LNK_LANE_STAT.STATE m) v).lane n = s.lane n :=
  State.get_put_reg _ _ _ _ (mt LNK_LANE_STAT.addr_eq_iff.mp h)

/-- Lanes that all take one state. -/
theorem State.lane_foldl_put (l : List Nat) {v : Nat} (hv : v < 8) (s : State) {n : Nat} (hn : n ∈ l) :
    (l.foldl (fun (s : State) n => s.put (LNK_LANE_STAT.STATE n) v) s).lane n = v := by
  have hkeep (l : List Nat) (s : State) (h : s.lane n = v) :
      (l.foldl (fun (s : State) n => s.put (LNK_LANE_STAT.STATE n) v) s).lane n = v := by
    refine List.foldl_inv (P := fun t : State => t.lane n = v) (fun t m ht => ?_) l h
    by_cases hm : n % 32 = m % 32
    · have he : LNK_LANE_STAT.STATE m = LNK_LANE_STAT.STATE n := by
        unfold LNK_LANE_STAT.STATE; rw [LNK_LANE_STAT.addr_eq_iff.mpr hm]
      rw [he]; exact State.lane_put_same _ _ hv
    · exact (State.lane_put_ne _ _ hm).trans ht
  induction l generalizing s with
  | nil => exact absurd hn List.not_mem_nil
  | cons a l ih =>
    rw [List.foldl_cons]
    rcases List.mem_cons.mp hn with rfl | hn
    · exact hkeep l _ (State.lane_put_same _ _ hv)
    · exact ih _ hn

theorem State.regs_setLane (s : State) (n st : Nat) : (s.setLane n st).regs = (s.put (LNK_LANE_STAT.STATE n) st).regs := by
  unfold State.setLane
  dsimp only
  split
  · split <;> rfl
  · rfl

theorem State.get_setLane (s : State) (n st : Nat) (f : Fld) : (s.setLane n st).get f = (s.put (LNK_LANE_STAT.STATE n) st).get f :=
  State.get_of_regs (State.regs_setLane s n st) f

theorem State.app_setLane (s : State) (n st : Nat) (f : Fld) : (s.setLane n st).app f = s.app f :=
  (Kept.setLane (.refl _ s) (Foot.le_refl _) n st).app_of rfl

/-- A lane that enters the bring-up leaves the other registers of the link. -/
theorem State.get_laneBack (s : State) (st n : Nat) {f : Fld} (h : f.addr < 0x40100) : (s.laneBack st n).get f = s.get f := by
  have hl : f.addr ≠ LNK_LANE_STAT.addr n := by have := LNK_LANE_STAT.addr_ge n; omega
  have hd : f.addr ≠ LNK_LANE_DFE.addr n := by unfold LNK_LANE_DFE.addr; omega
  have hset : (s.setLane n st).get f = s.get f := (State.get_setLane s n st f).trans (State.get_put_reg _ _ _ _ hl)
  rw [State.laneBack, State.holdEq]
  split
  · rw [State.get_setWord_ne _ _ _ _ hd, State.get_put_reg _ _ _ _ hl, hset]
  · exact hset

/-! ### Loss of a converter (R117 to R122) -/

/-- The loss of converter c as its status shows it. -/
def State.lossShown (s : State) (c cause : Nat) : State :=
  let s := (s.put (LNK_CONV_STAT.LOST c) 1).put (LNK_CONV_STAT.CAUSE c) cause
  let s := s.put (LNK_CONV_STAT.STATE c) (if cause == 1 then 3 else 0)
  let s := s.bump (LNK_CONV_CNT.LOSS_COUNT c)
  s.put LNK_STAT.CONV_VALID (setBit (s.get LNK_STAT.CONV_VALID) c false)

/-- The loss charged to its lanes, recorded, and passed on. -/
def State.lossCharged (s : State) (c : Fin 4) (cause : Nat) (lanes all : List Nat) (was : Bool) : State :=
  let s := (if laneCause cause then lanes else all).foldl (fun (s : State) n => s.bump (LNK_LANE_STAT.LOSS_COUNT n)) s
  let s := s.fltInfo 0x08 cause 0x04 (laneLoc (if laneCause cause then lanes.headD 0 else all.headD 0)) c
  let s : State := { s with lnk := { s.lnk with stored := vset s.lnk.stored c (cause == 1), lmfcRealign := true } }
  let s := if cause == 1 then s else s.syncnLow c
  if was then s.convDown c cause else s

theorem State.get_lossCharged (s : State) (c : Fin 4) (cause : Nat) (lanes all : List Nat) (was : Bool) {f : Fld}
    (hw : f.addr / 0x10000 = 4) (h : f.addr < 0x40100) : (s.lossCharged c cause lanes all was).get f = s.get f := by
  have hfold : ((if laneCause cause then lanes else all).foldl (fun (s : State) n => s.bump (LNK_LANE_STAT.LOSS_COUNT n)) s).get f
      = s.get f := by
    refine List.foldl_inv (P := fun t : State => t.get f = s.get f) (fun t n ht => ?_) _ rfl
    have hl : f.addr ≠ LNK_LANE_STAT.addr n := by have := LNK_LANE_STAT.addr_ge n; omega
    rw [State.get, State.word_bump_ne _ _ hl]
    exact ht
  rw [← hfold]
  unfold State.lossCharged
  generalize (if laneCause cause then lanes else all).foldl (fun (s : State) n => s.bump (LNK_LANE_STAT.LOSS_COUNT n)) s = x
  have hk : Kept ⟨false, [0x05, 0x06, 0x07, 0x08, 0x09, 0x0B, 0x15, 0x1B], [], [.gddr, .pins, .flt, .lnk, .fcv, .fft, .trg, .acq, .lod,
      .mem, .srv]⟩ x (let s := x.fltInfo 0x08 cause 0x04 (laneLoc (if laneCause cause then lanes.headD 0 else all.headD 0)) c
        let s : State := { s with lnk := { s.lnk with stored := vset s.lnk.stored c (cause == 1), lmfcRealign := true } }
        let s := if cause == 1 then s else s.syncnLow c
        if was then s.convDown c cause else s) := by
    have h1 := Kept.set_lnk { (x.fltInfo 0x08 cause 0x04 (laneLoc (if laneCause cause then lanes.headD 0 else all.headD 0)) c).lnk with
      stored := vset (x.fltInfo 0x08 cause 0x04 (laneLoc (if laneCause cause then lanes.headD 0 else all.headD 0)) c).lnk.stored c (cause == 1)
      lmfcRealign := true }
      (Kept.fltInfo (.refl ⟨false, [0x05, 0x06, 0x07, 0x08, 0x09, 0x0B, 0x15, 0x1B], [], [.gddr, .pins, .flt, .lnk, .fcv, .fft, .trg, .acq,
        .lod, .mem, .srv]⟩ x) (by decide) 0x08 cause 0x04 (laneLoc (if laneCause cause then lanes.headD 0 else all.headD 0)) c) rfl
    have h2 := Kept.ite (c := (cause == 1) = true) h1 (Kept.syncnLow h1 (by decide) c)
    exact Kept.ite (Kept.convDown h2 (by decide) c cause) h2
  exact hk.get_of (Foot.word_of_win hw rfl)

/-- What a loss shows, in the registers of the link. -/
theorem State.lossShown_fields (s : State) (c : Nat) {cause : Nat} (h : cause < 16) :
    (s.lossShown c cause).get (LNK_CONV_STAT.LOST c) = 1 ∧ (s.lossShown c cause).get (LNK_CONV_STAT.CAUSE c) = cause
      ∧ (s.lossShown c cause).get (LNK_CONV_STAT.STATE c) = (if cause = 1 then 3 else 0)
      ∧ ((s.lossShown c cause).get LNK_STAT.CONV_VALID).testBit c = false
      ∧ (s.lossShown c cause).get (LNK_CONV_STAT.ILAS_MISMATCH c) = s.get (LNK_CONV_STAT.ILAS_MISMATCH c)
      ∧ (s.lossShown c cause).get (LNK_CONV_STAT.DESKEW_FAIL c) = s.get (LNK_CONV_STAT.DESKEW_FAIL c) := by
  have hkeep (x : State) {f : Fld} (hf : f.addr = LNK_CONV_STAT.addr c) (v : Nat) :
      ((x.bump (LNK_CONV_CNT.LOSS_COUNT c)).put LNK_STAT.CONV_VALID v).get f = x.get f := by
    have h1 : f.addr ≠ LNK_STAT.addr := by rw [hf]; unfold LNK_STAT.addr LNK_CONV_STAT.addr; omega
    have h2 : f.addr ≠ LNK_CONV_CNT.addr c := by rw [hf]; unfold LNK_CONV_CNT.addr LNK_CONV_STAT.addr; omega
    rw [State.get_put_reg _ _ _ _ h1, State.get, State.word_bump_ne _ _ h2]
    rfl
  unfold State.lossShown
  refine ⟨?_, ?_, ?_, ?_, ?_, ?_⟩
  · rw [hkeep _ rfl, State.get_put_clear _ _ _ _ rfl, State.get_put_clear _ _ _ _ rfl]
    exact State.get_put_same _ _ _ (by decide : 4 + 1 ≤ 32)
  · rw [hkeep _ rfl, State.get_put_clear _ _ _ _ rfl, State.get_put_same _ _ _ (by decide : 12 + 4 ≤ 32)]
    exact Nat.mod_eq_of_lt h
  · rw [hkeep _ rfl, State.get_put_same _ _ _ (by decide : 0 + 2 ≤ 32)]
    by_cases h1 : cause = 1 <;> simp [h1, LNK_CONV_STAT.STATE]
  · rw [State.get_put_same _ _ _ (by decide)]
    change (_ % 2 ^ 4).testBit c = false
    rw [Nat.testBit_mod_two_pow, testBit_setBit_same, Bool.and_false]
  · rw [hkeep _ rfl, State.get_put_clear _ _ _ _ rfl, State.get_put_clear _ _ _ _ rfl, State.get_put_clear _ _ _ _ rfl]
  · rw [hkeep _ rfl, State.get_put_clear _ _ _ _ rfl, State.get_put_clear _ _ _ _ rfl, State.get_put_clear _ _ _ _ rfl]

/-- A loss that finds a lane in ALIGNED or DATA, with no other loss in its cycle, is shown, charged and passed on. -/
theorem State.convLoss_eq {s : State} {c : Nat} (hc : c < 4) (hcy : s.lnk.cycleLosses = []) {n : Nat} (hn : n ∈ s.convLanes c)
    (hst : s.lane n = lnALIGNED ∨ s.lane n = lnDATA) (cause : Nat) (lanes : List Nat) :
    ∃ (x : State) (l : List Nat) (was : Bool), s.convLoss c cause lanes = (x.lossShown c cause).lossCharged ⟨c, hc⟩ cause l (s.convLanes c) was
      ∧ ∀ f : Fld, f.addr < 0x40100 → x.get f = s.get f := by
  have hcycle : ∃ l, s.cycleCause c cause lanes = (cause, l) := ⟨_, by simp only [State.cycleCause, hcy]; rfl⟩
  obtain ⟨l, hcycle⟩ := hcycle
  have halike : LinkAlike s ({ s with lnk := { s.lnk with cycleLosses := s.lnk.cycleLosses.filter (fun x => s.convOf x.1 != c) } } : State) := by
    refine ⟨rfl, rfl, fun _ => rfl, fun _ => rfl, ?_, rfl⟩
    rw [hcy, List.filter_nil, ← hcy]
  have hne : ((s.convLanes c).filter (fun n => s.lane n == lnALIGNED || s.lane n == lnDATA)).isEmpty = false := by
    rw [List.isEmpty_eq_false_iff_exists_mem]
    exact ⟨n, List.mem_filter.mpr ⟨hn, by rcases hst with h | h <;> rw [h] <;> rfl⟩⟩
  unfold State.convLoss
  rw [hcycle]
  dsimp only
  rw [dif_pos hc, halike.convLanes]
  change ∃ (x : State) (l' : List Nat) (was : Bool), (if ((s.convLanes c).filter (fun n => s.lane n == lnALIGNED || s.lane n == lnDATA)).isEmpty
    then _ else _) = _ ∧ _
  rw [hne]
  refine ⟨_, l, _, rfl, fun f hf => ?_⟩
  refine List.foldl_inv (P := fun t : State => t.get f = s.get f) (fun t m ht => ?_) _ rfl
  exact (State.get_laneBack _ _ _ hf).trans ht

/-- The status of a converter that was lost. -/
theorem State.convLoss_fields {s : State} {c : Nat} (hc : c < 4) (hcy : s.lnk.cycleLosses = []) {n : Nat} (hn : n ∈ s.convLanes c)
    (hst : s.lane n = lnALIGNED ∨ s.lane n = lnDATA) {cause : Nat} (h : cause < 16) (lanes : List Nat) :
    (s.convLoss c cause lanes).flag (LNK_CONV_STAT.LOST c) = true ∧ (s.convLoss c cause lanes).get (LNK_CONV_STAT.CAUSE c) = cause
      ∧ (s.convLoss c cause lanes).get (LNK_CONV_STAT.STATE c) = (if cause = 1 then 3 else 0)
      ∧ (s.convLoss c cause lanes).convValid c = false
      ∧ (s.convLoss c cause lanes).get (LNK_CONV_STAT.ILAS_MISMATCH c) = s.get (LNK_CONV_STAT.ILAS_MISMATCH c)
      ∧ (s.convLoss c cause lanes).get (LNK_CONV_STAT.DESKEW_FAIL c) = s.get (LNK_CONV_STAT.DESKEW_FAIL c) := by
  obtain ⟨x, l, was, he, hx⟩ := State.convLoss_eq hc hcy hn hst cause lanes
  obtain ⟨h1, h2, h3, h4, h5, h6⟩ := x.lossShown_fields c h
  have hlt := LNK_CONV_STAT.addr_lt c
  have hget {f : Fld} (hf : f.addr = LNK_CONV_STAT.addr c) : (s.convLoss c cause lanes).get f = (x.lossShown c cause).get f := by
    rw [he]; exact State.get_lossCharged _ _ _ _ _ _ (by rw [hf]; exact LNK_CONV_STAT.addr_win c) (by omega)
  have hvalid : (s.convLoss c cause lanes).get LNK_STAT.CONV_VALID = (x.lossShown c cause).get LNK_STAT.CONV_VALID := by
    rw [he]; exact State.get_lossCharged _ _ _ _ _ _ rfl (by decide)
  exact ⟨flag_of_get_one ((hget rfl).trans h1), (hget rfl).trans h2, (hget rfl).trans h3, by rw [State.convValid, hvalid, h4],
    (hget rfl).trans (h5.trans (hx _ hlt)), (hget rfl).trans (h6.trans (hx _ hlt))⟩

end Sys2Proof.Machine
end

section
/-! PROOFS. The bring-up of the lanes (R97 to R105, R108 to R110) and the losses of converters (R112 to R122). -/

namespace Sys2Proof.Machine

/-! ### A converter becomes valid (R105) -/

/-- The registers of a converter that starts. -/
def State.convShown (s : State) (c : Nat) : State :=
  let s := (s.convLanes c).foldl (fun s n => s.put (LNK_LANE_STAT.STATE n) lnDATA) s
  let s := s.put (LNK_CONV_STAT.STATE c) 2
  s.put LNK_STAT.CONV_VALID (setBit (s.get LNK_STAT.CONV_VALID) c true)

theorem State.convStart_kept (s : State) (c : Fin 4) (e : Stamp) : Kept ⟨false, [0x05, 0x06, 0x07, 0x08, 0x09, 0x0B, 0x0C, 0x15, 0x1B], [],
    [.sram, .gddr, .freeCtr, .flt, .alm, .lnk, .fcv, .ddc, .fft, .trg, .acq, .neb, .lod, .mem, .srv]⟩ (s.convShown c) (s.convStart c e) := by
  have he : s.convStart c e = (let s := s.convShown c
      let s : State := { s with
        lnk := { s.lnk with stored := vset s.lnk.stored c false, ovrPrev := vset s.lnk.ovrPrev c false }
        alm := { s.alm with marker := vset s.alm.marker c { last := none, intervals := [] } } }
      s.convUp c (s.lessLatency c e)) := rfl
  rw [he]
  generalize s.convShown c = x
  exact Kept.convUp (Kept.set_alm { x.alm with marker := vset x.alm.marker c { last := none, intervals := [] } }
    (Kept.set_lnk { x.lnk with stored := vset x.lnk.stored c false, ovrPrev := vset x.lnk.ovrPrev c false } (.refl _ x) rfl) rfl)
    (by decide) c _

theorem State.convShown_fields (s : State) (c : Fin 4) :
    ((s.convShown c).get LNK_STAT.CONV_VALID).testBit c = true ∧ (s.convShown c).get (LNK_CONV_STAT.STATE c) = 2
      ∧ ∀ n ∈ s.convLanes c, (s.convShown c).lane n = lnDATA := by
  have hne : (LNK_CONV_STAT.STATE c).addr ≠ LNK_STAT.CONV_VALID.addr := by
    change LNK_CONV_STAT.addr c ≠ LNK_STAT.addr; unfold LNK_CONV_STAT.addr LNK_STAT.addr; omega
  unfold State.convShown
  dsimp only
  refine ⟨?_, ?_, fun n hn => ?_⟩
  · rw [State.get_put_same _ _ _ (by decide)]
    change (_ % 2 ^ 4).testBit c = true
    rw [Nat.testBit_mod_two_pow, testBit_setBit_same]
    simp
  · rw [State.get_put_reg _ _ _ _ hne]
    exact State.get_put_same _ _ _ (by decide : 0 + 2 ≤ 32)
  · have hl := LNK_LANE_STAT.addr_ge n
    have h1 : (LNK_LANE_STAT.STATE n).addr ≠ LNK_STAT.CONV_VALID.addr := by change LNK_LANE_STAT.addr n ≠ 0x40010; omega
    have h2 : (LNK_LANE_STAT.STATE n).addr ≠ (LNK_CONV_STAT.STATE c).addr := by
      have := LNK_CONV_STAT.addr_lt c
      change LNK_LANE_STAT.addr n ≠ LNK_CONV_STAT.addr c
      omega
    rw [State.lane, State.get_put_reg _ _ _ _ h1, State.get_put_reg _ _ _ _ h2]
    exact State.lane_foldl_put _ (by decide) s hn

theorem State.convStart_fields (s : State) (c : Fin 4) (e : Stamp) :
    (s.convStart c e).convValid c = true ∧ (s.convStart c e).get (LNK_CONV_STAT.STATE c) = 2
      ∧ ∀ n ∈ s.convLanes c, (s.convStart c e).lane n = lnDATA := by
  obtain ⟨hv, hst, hl⟩ := s.convShown_fields c
  have hk := s.convStart_kept c e
  refine ⟨?_, (hk.get_of (Foot.word_of_win (LNK_CONV_STAT.addr_win c) rfl)).trans hst, fun n hn => ?_⟩
  · rw [State.convValid, hk.get_of rfl, hv]
  · rw [State.lane, hk.get_of (Foot.word_of_win (LNK_LANE_STAT.addr_win n) rfl)]
    exact hl n hn

/-- SKEW apart, nothing of the link changes. -/
theorem State.get_updateSkew (s : State) (c : Nat) {f : Fld} (h : ∀ n, (LNK_LANE_STAT.SKEW n).clear f = true) :
    (s.updateSkew c).get f = s.get f := by
  unfold State.updateSkew
  dsimp only
  split
  · rfl
  · refine List.foldl_inv (P := fun t : State => t.get f = s.get f) (fun t n ht => ?_) _ rfl
    split
    · exact (State.get_put_clear _ _ _ _ (h n)).trans ht
    · exact ht

theorem getLsbD_setBit (m : BitVec 4) (c : Fin 4) : (BitVec.ofNat 4 (setBit m.toNat c true)).getLsbD c = true := by
  rw [BitVec.getLsbD_ofNat, testBit_setBit_same]
  simp

/-- Settles O18: each step of the bring-up by the lane's next state, each refusal by the loss it ends in. -/
theorem laneBringupCommandsComplete : Obligations.LaneBringupCommandsComplete := by
  refine ⟨fun s n e o k m hl hen hst => ?_, fun s n e k m hl hen hst => ?_, fun s n ctle taps hl hen hst hm => ?_,
    fun s n ctle taps hl hen hst hm => ?_, fun s n hl hen hst => ?_, fun s c h hstart hne hall hsub => ?_,
    fun s c e h hne hv hall hsub => ?_, fun s c g h hp hne hall hag hcy => ?_, fun s c n m h hn hna hm hma hcy => ?_,
    fun s n hh v hl hen hst => ?_, fun s n mv hl hen hst hm => ?_⟩
  · have hne : (! (s.live (laneDomain n) && s.laneEn n)) = false := by rw [hl, hen]; rfl
    have hk (x : State) (c : Nat) := Kept.put (LNK_CONV_STAT.STATE c) 1 (Kept.updateSkew (.refl ⟨false, [0x04], [], []⟩ x) (by decide) c)
      (Foot.word_true_of_win (LNK_CONV_STAT.addr_win c) rfl)
    have hlane : (LNK_LANE_STAT.STATE n).addr ≠ (LNK_CONV_STAT.STATE (s.convOf n)).addr := by
      have h1 := LNK_LANE_STAT.addr_ge n
      have h2 := LNK_CONV_STAT.addr_lt (s.convOf n)
      change LNK_LANE_STAT.addr n ≠ LNK_CONV_STAT.addr (s.convOf n)
      omega
    refine ⟨_, by simp only [exec, execLaneMarker, hne, hst, beq_self_eq_true, Bool.false_eq_true, if_false, if_true]; rfl, ?_, ?_, ?_, ?_⟩
    · rw [State.lane, State.get_put_reg _ _ _ _ hlane, State.get_updateSkew _ _ (fun _ => rfl), State.get_mk, regField_regs]
      exact State.lane_put_same _ _ (by decide)
    · rw [(hk _ _).part_of .lnk rfl]; exact vget_vset_same _ _ _
    · rw [(hk _ _).part_of .lnk rfl]; exact vget_vset_same _ _ _
    · exact State.get_put_same _ _ _ (by decide : 0 + 2 ≤ 32)
  · have hne : (! (s.live (laneDomain n) && s.laneEn n)) = false := by rw [hl, hen]; rfl
    have hw : (lnALIGNED == lnWAIT) = false := by decide
    refine ⟨{ s with lnk := { s.lnk with marks := vmod s.lnk.marks n (fun k => min (k + 1) 4) } }, ?_, hst, ?_, rfl⟩
    · simp only [exec, execLaneMarker, hne, hst, hw, beq_self_eq_true, Bool.false_eq_true, if_false, if_true]
    · exact vget_vset_same _ _ _
  · have hgo : (s.live (laneDomain n) && s.laneEn n && s.lane n == lnCDR) = true := by rw [hl, hen, hst]; rfl
    have hmode : ((s.setLane n lnCGS).app LNK_ADAPT.MODE == 0) = false := by rw [State.app_setLane]; exact beq_eq_false_iff_ne.mpr hm
    have hdfe : (LNK_LANE_STAT.STATE n).addr ≠ LNK_LANE_DFE.addr n := by
      change LNK_LANE_STAT.addr n ≠ _; unfold LNK_LANE_STAT.addr LNK_LANE_DFE.addr; omega
    refine ⟨_, by simp only [exec, execCdrDone, hgo, hmode, if_true, Bool.false_eq_true, if_false]; rfl, ?_, ?_, State.word_setWord_same _ _ _⟩
    · rw [State.lane, State.get_setWord_ne _ _ _ _ hdfe, State.get_put_clear _ _ _ _ rfl, State.get_setLane]
      exact State.lane_put_same _ _ (by decide)
    · rw [State.get_setWord_ne _ _ _ (LNK_LANE_STAT.CTLE_NOW n) hdfe, State.get_put_same _ _ _ (by decide : 4 + 4 ≤ 32)]
      exact Nat.mod_eq_of_lt ctle.isLt
  · have hgo : (s.live (laneDomain n) && s.laneEn n && s.lane n == lnCDR) = true := by rw [hl, hen, hst]; rfl
    have hmode : ((s.setLane n lnCGS).app LNK_ADAPT.MODE == 0) = true := by rw [State.app_setLane, hm]; rfl
    have hdfe : (LNK_LANE_STAT.STATE n).addr ≠ LNK_LANE_DFE.addr n := by
      change LNK_LANE_STAT.addr n ≠ _; unfold LNK_LANE_STAT.addr LNK_LANE_DFE.addr; omega
    refine ⟨_, by simp only [exec, execCdrDone, State.holdEq, hgo, hmode, if_true]; rfl, ?_, ?_, State.word_setWord_same _ _ _⟩
    · rw [State.lane, State.get_setWord_ne _ _ _ _ hdfe, State.get_put_clear _ _ _ _ rfl, State.get_setLane]
      exact State.lane_put_same _ _ (by decide)
    · rw [State.get_setWord_ne _ _ _ (LNK_LANE_STAT.CTLE_NOW n) hdfe, State.get_put_same _ _ _ (by decide : 4 + 4 ≤ 32), State.app_setLane]
      rfl
  · have hgo : (s.live (laneDomain n) && s.laneEn n && s.lane n == lnCGS) = true := by rw [hl, hen, hst]; rfl
    exact ⟨_, congrArg Host.Outcome.next (if_pos hgo), (State.get_setLane _ _ _ _).trans (State.lane_put_same _ _ (by decide))⟩
  · have hgo : (s.alive && s.app LNK_CTRL.START == 0 && ! (s.convLanes c).isEmpty && (s.convLanes c).all (fun n => s.lane n == lnWAIT)
        && (s.app LNK_CTRL.SUBCLASS != 1 || s.flag LNK_STAT.LMFC_LOCK)) = true := by
      have hwait : (s.convLanes c).all (fun n => s.lane n == lnWAIT) = true :=
        List.all_eq_true.mpr fun n hn => beq_iff_eq.mpr (hall n hn)
      rw [h, hstart, List.isEmpty_eq_false_iff.mpr hne, hwait]
      by_cases hs : s.app LNK_CTRL.SUBCLASS = 1
      · rw [hsub hs]; simp
      · simp [hs]
    exact ⟨_, congrArg Host.Outcome.next (if_pos hgo), getLsbD_setBit _ _, rfl⟩
  · have hgo : (s.alive && ! (s.convLanes c).isEmpty && ! s.convValid c
        && (s.convLanes c).all (fun n => s.lane n == lnALIGNED && (if h : n < 32 then vget s.lnk.marks ⟨n, h⟩ == 4 else false))
        && (s.app LNK_CTRL.SUBCLASS != 1 || s.flag LNK_STAT.LMFC_LOCK)) = true := by
      have hready : (s.convLanes c).all (fun n => s.lane n == lnALIGNED && (if h : n < 32 then vget s.lnk.marks ⟨n, h⟩ == 4 else false))
          = true := by
        refine List.all_eq_true.mpr fun n hn => ?_
        have hlt : n < 32 := State.lt_of_mem_convLanes hn c.isLt
        obtain ⟨h1, h2⟩ := hall ⟨n, hlt⟩ hn
        rw [dif_pos hlt, h2]
        simpa using h1
      rw [h, hv, List.isEmpty_eq_false_iff.mpr hne, hready]
      by_cases hs : s.app LNK_CTRL.SUBCLASS = 1
      · rw [hsub hs]; simp
      · simp [hs]
    obtain ⟨hvalid, hstate, hlanes⟩ := s.convStart_fields c e
    have hk := Kept.recSettle (.refl _ (s.convStart c e)) (Foot.le_refl _)
    refine ⟨_, congrArg Host.Outcome.next (if_pos hgo), ?_, ?_, fun n hn => ?_⟩
    · rw [State.convValid, hk.get_of rfl]; exact hvalid
    · exact (hk.get_of (Foot.word_of_win (LNK_CONV_STAT.addr_win c) rfl)).trans hstate
    · exact (hk.get_of (Foot.word_of_win (LNK_LANE_STAT.addr_win n) rfl)).trans (hlanes n hn)
  · obtain ⟨n, hn⟩ := List.exists_mem_of_ne_nil _ hne
    have hgo : (s.alive && s.app LNK_CTRL.PROTO == 1 && ! (s.convLanes c).isEmpty && (s.convLanes c).all (fun n => s.lane n == lnALIGNED))
        = true := by
      have hal : (s.convLanes c).all (fun n => s.lane n == lnALIGNED) = true := List.all_eq_true.mpr fun n hn => beq_iff_eq.mpr (hall n hn)
      rw [h, hp, List.isEmpty_eq_false_iff.mpr hne, hal]; rfl
    have ha := LinkAlike.put_conv s (f := LNK_CONV_STAT.ILAS_MISMATCH c) 1 (by change 0x40014 ≤ LNK_CONV_STAT.addr c; unfold LNK_CONV_STAT.addr; omega)
      (LNK_CONV_STAT.addr_lt c)
    obtain ⟨hlost, hcause, -, hv, hil, -⟩ := State.convLoss_fields (c := c) (cause := 9) c.isLt (by rw [ha.lnk]; exact hcy)
      (by rw [ha.convLanes]; exact hn) (.inl ((ha.lane n).trans (hall n hn))) (by decide)
      (if (s.lidWrong c g).isEmpty then s.convLanes c else s.lidWrong c g)
    refine ⟨_, by simp only [exec, execIlasReceive, hgo, hag, Bool.false_and, if_true, Bool.false_eq_true, if_false], ?_, hlost, hcause, hv⟩
    exact flag_of_get_one (hil.trans (State.get_put_same _ _ _ (by decide : 6 + 1 ≤ 32)))
  · have hgo : (s.alive && (s.convLanes c).any (fun n => s.lane n == lnALIGNED) && (s.convLanes c).any (fun n => s.lane n != lnALIGNED))
        = true := by
      have h1 : (s.convLanes c).any (fun n => s.lane n == lnALIGNED) = true := List.any_eq_true.mpr ⟨n, hn, beq_iff_eq.mpr hna⟩
      have h2 : (s.convLanes c).any (fun n => s.lane n != lnALIGNED) = true := List.any_eq_true.mpr ⟨m, hm, bne_iff_ne.mpr hma⟩
      rw [h, h1, h2]; rfl
    have ha := LinkAlike.put_conv s (f := LNK_CONV_STAT.DESKEW_FAIL c) 1 (by change 0x40014 ≤ LNK_CONV_STAT.addr c; unfold LNK_CONV_STAT.addr; omega)
      (LNK_CONV_STAT.addr_lt c)
    obtain ⟨hlost, hcause, -, hv, -, hdf⟩ := State.convLoss_fields (c := c) (cause := 7) c.isLt (by rw [ha.lnk]; exact hcy)
      (by rw [ha.convLanes]; exact hn) (.inl ((ha.lane n).trans hna)) (by decide) []
    have hfold (l : List Nat) (x : State) {f : Fld} (hf : f.addr < 0x40100) :
        (l.foldl (fun (s : State) n => s.laneBack lnCGS n) x).get f = x.get f :=
      List.foldl_inv (P := fun t : State => t.get f = x.get f) (fun t m ht => (State.get_laneBack _ _ _ hf).trans ht) _ rfl
    have hlt := LNK_CONV_STAT.addr_lt c
    refine ⟨_, by simp only [exec, execDeskewFail, hgo, if_true]; rfl, ?_, ?_, ?_, ?_⟩
    · exact flag_of_get_one ((hfold _ _ hlt).trans (hdf.trans (State.get_put_same _ _ _ (by decide : 5 + 1 ≤ 32))))
    · exact (State.flag_eq_get (hfold _ _ hlt)).trans hlost
    · exact (hfold _ _ hlt).trans hcause
    · rw [State.convValid, hfold _ _ (by decide)]; exact hv
  · have hfom : min 255 (hh.toNat * v.toNat / 16) < 2 ^ 8 := by omega
    have hput : (s.put (LNK_LANE_STAT.FOM n) (min 255 (hh.toNat * v.toNat / 16))).get (LNK_LANE_STAT.FOM n) = min 255 (hh.toNat * v.toNat / 16) :=
      (State.get_put_same _ _ _ (by decide : 24 + 8 ≤ 32)).trans (Nat.mod_eq_of_lt hfom)
    have hwin : Foot.word ⟨false, [0x1B], [], [.flt]⟩ ((LNK_LANE_STAT.FOM n).addr / 0x10000) = false :=
      Foot.word_of_win (LNK_LANE_STAT.addr_win n) rfl
    have hany (i : Bool) : (s.live (laneDomain n) && s.laneEn n && (s.lane n == lnCDR || s.lane n == lnALIGNED || s.lane n == lnDATA || i))
        = true := by
      rw [hl, hen]; rcases hst with hst | hst | hst <;> rw [hst] <;> rfl
    refine ⟨_, by simp only [exec, execFomMeasure, hany, if_true]; rfl, ?_⟩
    dsimp only
    split
    · rw [State.get_mk, regField_regs]
      split
      · exact ((Kept.fltInfo (.refl _ _) (Foot.le_refl _) _ _ _ _ _).get_of hwin).trans hput
      · exact hput
    · exact hput
  · have hgo : (s.live (laneDomain n) && s.laneEn n && s.lane n == lnDATA && s.app LNK_ADAPT.MODE == 2) = true := by
      rw [hl, hen, hst, hm]; rfl
    have hdfe : (LNK_LANE_STAT.STATE n).addr ≠ LNK_LANE_DFE.addr n := by
      change LNK_LANE_STAT.addr n ≠ _; unfold LNK_LANE_STAT.addr LNK_LANE_DFE.addr; omega
    exact ⟨_, congrArg Host.Outcome.next (if_pos hgo), State.word_setWord_same _ _ _, (State.get_setWord_ne _ _ _ _ hdfe).trans hst⟩

/-! ### Losses -/

/-- A lane cause that no other loss of the cycle joins ends the lane's converter (R116). -/
theorem State.laneLoss_fields {s x : State} (ha : LinkAlike s x) {n : Fin 32} (hl : s.live (laneDomain n) = true) (hen : s.laneEn n = true)
    (hst : s.lane n = lnALIGNED ∨ s.lane n = lnDATA) (hcy : s.lnk.cycleLosses = []) {cause : Nat} (h : cause < 16) :
    (x.laneLoss n cause false).flag (LNK_CONV_STAT.LOST (s.convOf n)) = true
      ∧ (x.laneLoss n cause false).get (LNK_CONV_STAT.CAUSE (s.convOf n)) = cause
      ∧ (x.laneLoss n cause false).convValid (s.convOf n) = false := by
  have hgo : (x.live (laneDomain n) && x.laneEn n && (x.lane n == lnALIGNED || x.lane n == lnDATA)) = true := by
    rw [ha.live, hl, ha.laneEn, hen, ha.lane]; rcases hst with hst | hst <;> rw [hst] <;> rfl
  have he : x.laneLoss n cause false = x.convLoss (s.convOf n) cause [n.val] := by
    rw [← ha.convOf]
    exact if_pos hgo
  rw [he]
  obtain ⟨h1, h2, -, h4, -, -⟩ := State.convLoss_fields (s := x) (n := n) (s.convOf_lt n) (by rw [ha.lnk]; exact hcy)
    (by rw [ha.convLanes]; exact State.mem_convLanes n hen) (by rw [ha.lane]; exact hst) h [n.val]
  exact ⟨h1, h2, h4⟩

/-- Settles O19: each loss by what `convLoss` shows of it. -/
theorem laneLossCommandsComplete : Obligations.LaneLossCommandsComplete := by
  refine ⟨fun s n hl hen hst hcy => ?_, fun s c ls h hv hne hall hcy hp hls => ?_, fun s c e h hsto hne hall => ?_,
    fun s src v c ha hc hv hne hall hcy => ?_⟩
  · have hgo : (s.live (laneDomain n) && s.laneEn n && (s.lane n == lnALIGNED || s.lane n == lnDATA)) = true := by
      rw [hl, hen]; rcases hst with hst | hst <;> rw [hst] <;> rfl
    have herr0 : 0x40100 ≤ LNK_LANE_ERR0.addr n ∧ LNK_LANE_ERR0.addr n < 0x50000 ∧ LNK_LANE_ERR0.addr n % 32 ≠ 4 := by
      unfold LNK_LANE_ERR0.addr; omega
    have herr1 : 0x40100 ≤ LNK_LANE_ERR1.addr n ∧ LNK_LANE_ERR1.addr n < 0x50000 ∧ LNK_LANE_ERR1.addr n % 32 ≠ 4 := by
      unfold LNK_LANE_ERR1.addr; omega
    have h0 (x : State) (f : Fld) (hf : f.addr = LNK_LANE_ERR0.addr n) (v : Nat) : LinkAlike x (x.put f v) :=
      LinkAlike.put_lane x v (hf ▸ herr0.1) (hf ▸ herr0.2.1) (hf ▸ herr0.2.2)
    have h1 (x : State) (f : Fld) (hf : f.addr = LNK_LANE_ERR1.addr n) (v : Nat) : LinkAlike x (x.put f v) :=
      LinkAlike.put_lane x v (hf ▸ herr1.1) (hf ▸ herr1.2.1) (hf ▸ herr1.2.2)
    refine ⟨⟨_, rfl, State.laneLoss_fields (.refl s) hl hen hst hcy (by decide)⟩, fun d u => ?_, fun hdata hwrong => ?_,
      ⟨_, rfl, State.laneLoss_fields (.refl s) hl hen hst hcy (by decide)⟩, ⟨_, rfl, State.laneLoss_fields (.refl s) hl hen hst hcy (by decide)⟩⟩
    · refine ⟨_, congrArg Host.Outcome.next (if_pos hgo), ?_⟩
      exact State.laneLoss_fields (((h0 s (LNK_LANE_ERR0.DISP n) rfl _).trans (h0 _ (LNK_LANE_ERR0.CODE n) rfl _)).trans
        (h1 _ (LNK_LANE_ERR1.UNEXP_K n) rfl _)) hl hen hst hcy (by decide)
    · have hgo' : (s.live (laneDomain n) && s.laneEn n && s.lane n == lnDATA && (vget s.lnk.wrongOfs n).isSome) = true := by
        rw [hl, hen, hdata, hwrong]; rfl
      exact ⟨_, congrArg Host.Outcome.next (if_pos hgo'),
        State.laneLoss_fields (LinkAlike.bump_lane s herr1.1 herr1.2.1 herr1.2.2) hl hen hst hcy (by decide)⟩
  · obtain ⟨n, hn⟩ := List.exists_mem_of_ne_nil _ hne
    have hstop : (s.convLanes c).filter (fun n => ls.toNat.testBit n) = s.convLanes c :=
      List.filter_eq_self.mpr fun n hn => by rw [BitVec.testBit_toNat]; exact hls n hn
    have hgo : (s.alive && s.convValid c && ! (s.convLanes c).isEmpty) = true := by
      rw [h, hv, List.isEmpty_eq_false_iff.mpr hne]; rfl
    obtain ⟨h1, h2, h3, h4, -, -⟩ := State.convLoss_fields (cause := 1) c.isLt hcy hn (.inr (hall n hn)) (by decide) []
    refine ⟨_, ?_, h1, h2, h3, h4⟩
    simp only [exec, execIdleAnnounce, hstop, hgo, hp, beq_self_eq_true, Bool.and_self, if_true]
  · have hgo : (s.alive && vget s.lnk.stored c && ! (s.convLanes c).isEmpty && (s.convLanes c).all (fun n => s.lane n == lnIDLE)) = true := by
      have hidle : (s.convLanes c).all (fun n => s.lane n == lnIDLE) = true := List.all_eq_true.mpr fun n hn => beq_iff_eq.mpr (hall n hn)
      rw [h, hsto, List.isEmpty_eq_false_iff.mpr hne, hidle]; rfl
    have hbad : (s.convLanes c).filter (fun n => (0 : BitVec 32).toNat.testBit n) = [] := by simp
    refine ⟨_, ?_, s.convStart_fields c e⟩
    simp only [exec, execIdleExit, hgo, hbad, List.isEmpty_nil, if_true]
  · obtain ⟨n, hn⟩ := List.exists_mem_of_ne_nil _ hne
    have hal : LinkAlike s (s.landed LNK_CTRL.addr v) := LinkAlike.setWord s _ (by decide)
      (fun n => by have := LNK_LANE_STAT.addr_ge n; unfold LNK_CTRL.addr; omega) (by decide)
    have hact (x : State) (hx : x.convValid c = true) : lnkRules.act src LNK_CTRL.addr v x = .ok (x.convLoss c 0xB []) := by
      simp only [lnkRules, beq_self_eq_true, if_true, hc, bitsIn_two_pow c.isLt, List.foldl_cons, List.foldl_nil, hx]
    obtain ⟨h1, h2, -, h4, -, -⟩ := State.convLoss_fields (s := s.landed LNK_CTRL.addr v) (cause := 0xB) c.isLt (by rw [hal.lnk]; exact hcy)
      (by rw [hal.convLanes]; exact hn) (.inr ((hal.lane n).trans (hall n hn))) (by decide) []
    exact Completes.of_write rfl ha (by decide) (by decide) (hact _ (by rw [hal.convValid]; exact hv))
      ⟨rfl, (State.answer_flag _ _ _ _).trans h1, (State.answer_get _ _ _ _).trans h2, h4⟩

end Sys2Proof.Machine
end

section
/-! PROOFS. FFT pipes and spectra (R173, R180, R186, R187, R194, R198 to R203). -/

namespace Sys2Proof.Machine

/-! ### The sequence number of a source is written by its release alone -/

/-- No source's sequence number changes. -/
def SeqKept (s t : State) : Prop := ∀ i, t.get (FFT_SRC_SEQ.SEQ i) = s.get (FFT_SRC_SEQ.SEQ i)

theorem SeqKept.refl (s : State) : SeqKept s s := fun _ => rfl

theorem SeqKept.trans {s t u : State} (h : SeqKept s t) (k : SeqKept t u) : SeqKept s u := fun i => (k i).trans (h i)

theorem SeqKept.of_regs {s t : State} (h : t.regs = s.regs) : SeqKept s t := fun _ => State.get_of_regs h _

theorem FFT_SRC_SEQ.addr_mod (i : Nat) : FFT_SRC_SEQ.addr i % 0x40 = 0x30 := by unfold FFT_SRC_SEQ.addr; split <;> omega

/-- A write of a register that stands at another place of the source's 64 bytes. -/
theorem SeqKept.put {s x : State} (h : SeqKept s x) {f : Fld} (v : Nat) (hf : f.addr % 0x40 ≠ 0x30) : SeqKept s (x.put f v) := fun i =>
  (State.get_put_reg _ _ _ _ (fun e : FFT_SRC_SEQ.addr i = f.addr => hf (e ▸ FFT_SRC_SEQ.addr_mod i))).trans (h i)

theorem SeqKept.bump {s x : State} (h : SeqKept s x) {f : Fld} (hf : f.addr % 0x40 ≠ 0x30) : SeqKept s (x.bump f) := by
  unfold State.bump
  split
  · exact h.put _ hf
  · exact h

theorem SeqKept.ite {s a b : State} {c : Prop} [Decidable c] (h : SeqKept s a) (k : SeqKept s b) : SeqKept s (if c then a else b) := by
  split
  · exact h
  · exact k

theorem SeqKept.of_kept {F : Foot} {s t : State} (k : Kept F s t) (h8 : F.word 0x08 = false) (h9 : F.word 0x09 = false) : SeqKept s t :=
  fun i => k.get_of (by
    change F.word (FFT_SRC_SEQ.addr i / 0x10000) = false
    rw [FFT_SRC_SEQ.addr_win]
    split
    · exact h8
    · exact h9)

theorem FFT_SRC_STAT.addr_mod (i : Nat) : FFT_SRC_STAT.addr i % 0x40 = 0x2C := by unfold FFT_SRC_STAT.addr; split <;> omega
theorem FFT_SRC_TRS.addr_mod (i : Nat) : FFT_SRC_TRS.addr i % 0x40 = 0x38 := by unfold FFT_SRC_TRS.addr; split <;> omega
theorem FFT_SRC_CNT.addr_mod (i : Nat) : FFT_SRC_CNT.addr i % 0x40 = 0x3C := by unfold FFT_SRC_CNT.addr; split <;> omega
theorem FFT_SRC_SPGW.addr_mod (i : Nat) : FFT_SRC_SPGW.addr i % 0x40 = 0x28 := by unfold FFT_SRC_SPGW.addr; split <;> omega

/-- A place of a source that is not its sequence number's. -/
theorem mod_ne_of_eq {a m : Nat} (h : a % 0x40 = m) (hm : m ≠ 0x30) : a % 0x40 ≠ 0x30 := h ▸ hm

theorem SeqKept.outRecord (s : State) (i : Fin 20) (n : Nat) (r : List Byte) (c : Bool) : SeqKept s (s.outRecord i n r c) := by
  unfold State.outRecord
  exact .ite (.of_regs rfl) (((SeqKept.of_regs rfl).put _ (mod_ne_of_eq (FFT_SRC_STAT.addr_mod _) (by decide))).bump
    (mod_ne_of_eq (FFT_SRC_CNT.addr_mod _) (by decide)))

theorem SeqKept.closeRec (s : State) (i : Fin 20) : SeqKept s (s.closeRec i) := by
  unfold State.closeRec
  dsimp only
  split
  · exact .refl s
  · refine .ite (.of_regs rfl) (SeqKept.trans ?_ (SeqKept.outRecord _ _ _ _ _))
    exact .of_regs rfl

theorem regs_setSramBytes (s : State) (a : Nat) (l : List Byte) : (s.setSramBytes a l).regs = s.regs := by
  induction l generalizing s a with
  | nil => rfl
  | cons b l ih => exact ih _ _

theorem SeqKept.ringLine (s : State) (i : Fin 20) (size : Nat) (r : List Byte) : SeqKept s (s.ringLine i size r) := by
  have hw : FFT_SRC_SPGW.addr (fftSourceOf i) % 0x40 ≠ 0x30 := mod_ne_of_eq (FFT_SRC_SPGW.addr_mod _) (by decide)
  unfold State.ringLine
  exact .ite (((SeqKept.of_regs (regs_setSramBytes _ _ _)).put _ hw).put _ hw) ((SeqKept.of_regs (regs_setSramBytes _ _ _)).put _ hw)

theorem SeqKept.closeLine (s : State) (i : Fin 20) : SeqKept s (s.closeLine i) := by
  unfold State.closeLine
  dsimp only
  split
  · exact .refl s
  · refine .ite (.of_regs rfl) (SeqKept.trans ?_ (SeqKept.ringLine _ _ _ _))
    exact .of_regs rfl

theorem SeqKept.recSpectrum (s : State) (i : Fin 20) (v : View') (x : Spec) : SeqKept s (s.recSpectrum i v x) := by
  unfold State.recSpectrum
  dsimp only
  have h (o : Option FftGroup) (f : FftGroup → Bool) : SeqKept s (match o with | some y => if f y then s else s.closeRec i | none => s) := by
    split
    · exact .ite (.refl s) (.closeRec s i)
    · exact .refl s
  exact .ite (h _ _) ((h _ _).trans (.of_regs rfl))

theorem SeqKept.lineSpectrum (s : State) (i : Fin 20) (v : View') (x : Spec) : SeqKept s (s.lineSpectrum i v x) := by
  unfold State.lineSpectrum
  dsimp only
  have h (o : Option FftGroup) (f : FftGroup → Bool) : SeqKept s (match o with | some y => if f y then s else s.closeLine i | none => s) := by
    split
    · exact .ite (.refl s) (.closeLine s i)
    · exact .refl s
  exact .ite (h _ _) ((h _ _).trans (.of_regs rfl))

theorem SeqKept.recEnd (s : State) (i : Fin 20) (seq : Nat) : SeqKept s (s.recEnd i seq) := by
  unfold State.recEnd
  split
  · refine .ite (SeqKept.trans ?_ (SeqKept.closeRec _ i)) (.refl s)
    exact .of_regs rfl
  · exact .refl s

theorem SeqKept.lineEnd (s : State) (i : Fin 20) (seq : Nat) : SeqKept s (s.lineEnd i seq) := by
  unfold State.lineEnd
  split
  · refine .ite (SeqKept.trans ?_ (SeqKept.closeLine _ i)) (.refl s)
    exact .of_regs rfl
  · exact .refl s

theorem SeqKept.gapOut (s : State) (i : Fin 20) (cause seq : Nat) (before after : Stamp) : SeqKept s (s.gapOut i cause seq before after) := by
  unfold State.gapOut
  dsimp only
  have hcut (x : State) (h : SeqKept s x) : SeqKept s ((x.closeRec i).closeLine i) := (h.trans (.closeRec _ i)).trans (.closeLine _ i)
  have hgap (x : State) (h : SeqKept s x) : SeqKept s ((x.trgSpecGap (fftSourceOf i)).nebGap (fftSourceOf i)) :=
    h.trans (.of_kept (Kept.nebGap (Kept.trgSpecGap (.refl ⟨false, [0x0C], [], [.sram, .trg, .neb]⟩ x) (by decide) _) (by decide) _) rfl rfl)
  have hmod (x : State) (f : FftSrc → FftSrc) (h : SeqKept s x) : SeqKept s (x.modFftSrc i f) := h.trans (.of_regs rfl)
  have hrec (x : State) (b : Bool) (r : List Byte) (h : SeqKept s x) : SeqKept s (if b then x.outRecord i 0 r false else x) :=
    .ite (h.trans (.outRecord _ _ _ _ _)) h
  have hring (x : State) (b : Bool) (n : Nat) (r : List Byte) (h : SeqKept s x) : SeqKept s (if b then x.ringLine i n r else x) :=
    .ite (h.trans (.ringLine _ _ _ _)) h
  split
  · exact hgap _ (hmod _ _ (hring _ _ _ _ (hrec _ _ _ (hcut _ (hmod _ _ (.refl s))))))
  · exact hmod _ _ (hring _ _ _ _ (hrec _ _ _ (hcut _ (hmod _ _ (.refl s)))))

theorem SeqKept.gapCount (s : State) (src : Nat) : SeqKept s (s.gapCount src) := by
  unfold State.gapCount
  have h (b : Bool) (z : SrvSt) : SeqKept s (if b then { s with srv := z } else s) := .ite (.of_regs rfl) (.refl s)
  exact ((h _ _).put _ (mod_ne_of_eq (FFT_SRC_STAT.addr_mod _) (by decide))).bump (mod_ne_of_eq (FFT_SRC_CNT.addr_mod _) (by decide))

theorem SeqKept.drainGaps (s : State) (i : Fin 20) (n : Nat) : SeqKept s (s.drainGaps i n) := by
  induction n generalizing s with
  | zero => exact .refl s
  | succ n ih =>
    unfold State.drainGaps
    split
    · refine (SeqKept.trans ?_ (SeqKept.gapOut _ _ _ _ _ _)).trans (ih _)
      exact .of_regs rfl
    · exact .refl s

theorem SeqKept.traceSpectrum (s : State) (i : Fin 20) (v : View') (x : Spec) (t : Fin 4) : SeqKept s (s.traceSpectrum i v x t) := by
  have hw : FFT_SRC_TRS.addr (fftSourceOf i) % 0x40 ≠ 0x30 := mod_ne_of_eq (FFT_SRC_TRS.addr_mod _) (by decide)
  have hsram (y : State) (a : Nat) (l : List Byte) (h : SeqKept s y) : SeqKept s (y.setSramBytes a l) :=
    h.trans (.of_regs (regs_setSramBytes _ _ _))
  have hpub (y : State) (a m : Nat) (l : List Byte) (h : SeqKept s y) :
      SeqKept s ((y.setSramBytes a l).put (FFT_SRC_TRS.PUB (fftSourceOf i)) m) := (hsram y a l h).put m hw
  have hstep (y : State) (f : FftSrc → FftSrc) (b : Bool) (a c m : Nat) (l k : List Byte) (h : SeqKept s y) :
      SeqKept s ((if b then ((y.setSramBytes a l).setSramBytes c k).put (FFT_SRC_TRS.PUB (fftSourceOf i)) m
        else y.setSramBytes a l).modFftSrc i f) :=
    (SeqKept.ite (hpub _ _ _ _ (hsram _ _ _ h)) (hsram _ _ _ h)).trans (.of_regs rfl)
  have hfree (y : State) (n : Nat) (h : SeqKept s y) : SeqKept s { y with freeCtr := n } := h.trans (.of_regs rfl)
  unfold State.traceSpectrum
  dsimp only
  split
  · exact .refl s
  · refine hstep _ _ _ _ _ _ _ _ (hfree _ _ ?_)
    split
    · refine SeqKept.put ?_ _ hw
      split
      · exact hpub _ _ _ _ (.refl s)
      · exact .refl s
    · exact .refl s

theorem SeqKept.foldl {α : Type} {g : State → α → State} (hg : ∀ x a, SeqKept x (g x a)) (l : List α) (s : State) :
    SeqKept s (l.foldl g s) := by
  refine List.foldl_inv (P := fun t : State => SeqKept s t) (fun t a h => h.trans (hg t a)) l (.refl s)

/-- The sequence number of a released spectrum stands in FFT_SRC_SEQ (R180). -/
theorem State.get_SEQ_releaseSpec (s : State) (i : Fin 20) (f : FftFrame) {q : Nat} (hq : q < 2 ^ 32) (p : Nat) (bins : List (Int × Int)) :
    (s.releaseSpec i f q p bins).get (FFT_SRC_SEQ.SEQ (fftSourceOf i)) = q := by
  have hput (x : State) : (x.put (FFT_SRC_SEQ.SEQ (fftSourceOf i)) q).get (FFT_SRC_SEQ.SEQ (fftSourceOf i)) = q :=
    (State.get_put_same _ _ _ (by decide : 0 + 32 ≤ 32)).trans (Nat.mod_eq_of_lt hq)
  have hstat (z y : State) (b : Bool) (g : Fld) (hg : g.addr = FFT_SRC_STAT.addr (fftSourceOf i)) (h : SeqKept z y) :
      SeqKept z (if b then y.put g 1 else y) :=
    .ite (h.put _ (hg ▸ mod_ne_of_eq (FFT_SRC_STAT.addr_mod _) (by decide))) h
  have hpass (z y : State) (b : Bool) (k : FftSrc → FftSrc) (v : View') (x : Spec) (h : SeqKept z y) :
      SeqKept z (((if b then y.modFftSrc i k else (List.finRange 4).foldl (fun (s : State) (t : Fin 4) => s.traceSpectrum i v x t)
        ((y.recSpectrum i v x).lineSpectrum i v x)).recEnd i q).lineEnd i q) := by
    refine SeqKept.trans (SeqKept.trans (SeqKept.ite ?_ ?_) (SeqKept.recEnd _ i q)) (SeqKept.lineEnd _ i q)
    · exact h.trans (.of_regs rfl)
    · exact ((h.trans (.recSpectrum y i v x)).trans (.lineSpectrum _ i v x)).trans (.foldl (fun w t => .traceSpectrum w i v x t) _ _)
  have hout (z y : State) (b : Bool) (l : List Int) (src : Nat) (c : Stamp) (h : SeqKept z y) :
      SeqKept z (if b then y else (List.finRange 4).foldl (fun (s : State) (m : Fin 4) => s.fmtSpectrum m src l c) y) :=
    .ite h (h.trans (.foldl (fun w m => .of_kept (Kept.fmtSpectrum (.refl _ w) (Foot.le_refl _) m src l c) rfl rfl) _ _))
  unfold State.releaseSpec
  dsimp only
  generalize hx : State.put _ (FFT_SRC_SEQ.SEQ (fftSourceOf i)) q = x
  replace hx : x.get (FFT_SRC_SEQ.SEQ (fftSourceOf i)) = q := hx ▸ hput _
  have hflags (b1 b2 b3 b4 : Bool) := hstat x _ b4 (FFT_SRC_STAT.CHK (fftSourceOf i)) rfl (hstat x _ b3 (FFT_SRC_STAT.DSAT (fftSourceOf i)) rfl
    (hstat x _ b2 (FFT_SRC_STAT.THR (fftSourceOf i)) rfl (hstat x _ b1 (FFT_SRC_STAT.OVR (fftSourceOf i)) rfl (.refl x))))
  have hbody (b1 b2 b3 b4 b : Bool) (k : FftSrc → FftSrc) (v : View') (z : Spec) := hpass x _ b k v z (hflags b1 b2 b3 b4)
  split
  · refine ((SeqKept.of_kept (Kept.nebSpectrum (.refl _ _) (Foot.le_refl _) _ _ _ _ _ _ _ _ _) rfl rfl) _).trans ?_
    exact (hout x _ _ _ _ _ (hbody _ _ _ _ _ _ _ _) _).trans hx
  · exact (hbody _ _ _ _ _ _ _ _ _).trans hx

end Sys2Proof.Machine
end

section
/-! PROOFS. FFT pipes, the spare and its self-check (R194, R198 to R203), and the FFT commands. -/

namespace Sys2Proof.Machine

/-! ### Pipe states -/

theorem FFT_PIPE_STAT.addr_mod (p : Nat) : FFT_PIPE_STAT.addr p % 0x400 = 0 := by unfold FFT_PIPE_STAT.addr; omega

theorem State.pipe_setPipe_same (s : State) (p : Nat) {st : Nat} (h : st < 8) : (s.setPipe p st).pipe p = st :=
  (State.get_put_same _ _ _ (by decide : 0 + 3 ≤ 32)).trans (Nat.mod_eq_of_lt h)

theorem State.pipe_setPipe_ne (s : State) {p q : Nat} (st : Nat) (h : FFT_PIPE_STAT.addr q ≠ FFT_PIPE_STAT.addr p) :
    (s.setPipe p st).pipe q = s.pipe q :=
  State.get_put_reg _ _ _ _ h

theorem State.get_pipeStat_put (s : State) {f : Fld} (v p lo n : Nat) (h : f.addr % 0x400 ≠ 0) :
    (s.put f v).get ⟨FFT_PIPE_STAT.addr p, lo, n⟩ = s.get ⟨FFT_PIPE_STAT.addr p, lo, n⟩ :=
  State.get_put_reg _ _ _ _ (fun e : FFT_PIPE_STAT.addr p = f.addr => h (e ▸ FFT_PIPE_STAT.addr_mod p))

theorem State.get_pipeStat_spareRefresh (s : State) (p lo n : Nat) :
    s.spareRefresh.get ⟨FFT_PIPE_STAT.addr p, lo, n⟩ = s.get ⟨FFT_PIPE_STAT.addr p, lo, n⟩ := by
  rw [State.spareRefresh, State.putB, State.putB, State.get_pipeStat_put _ _ _ _ _ (by decide), State.get_pipeStat_put _ _ _ _ _ (by decide)]

theorem State.pipe_spareRefresh (s : State) (p : Nat) : s.spareRefresh.pipe p = s.pipe p := s.get_pipeStat_spareRefresh p 0 3

/-- AVAIL and SUSPENDED apart, the spare's registers stand as they were. -/
theorem State.get_spareRefresh (s : State) {f : Fld} (h1 : FFT_SPARE_STAT.AVAIL.clear f = true) (h2 : FFT_CHECK_STAT.SUSPENDED.clear f = true) :
    s.spareRefresh.get f = s.get f := by
  rw [State.spareRefresh, State.putB, State.putB, State.get_put_clear _ _ _ _ h2, State.get_put_clear _ _ _ _ h1]

@[simp] theorem State.fft_spareRefresh (s : State) : s.spareRefresh.fft = s.fft :=
  (Kept.spareRefresh (.refl _ s) (Foot.le_refl _)).part_of .fft rfl

@[simp] theorem State.fft_spareUse (s : State) (p r : Nat) : (s.spareUse p r).fft = s.fft :=
  (Kept.spareUse (.refl _ s) (Foot.le_refl _) p r).part_of .fft rfl

theorem State.spareUse_fields (s : State) {p r : Nat} (hp : p < 16) (hr : r < 4) :
    (s.spareUse p r).get FFT_SPARE_STAT.TARGET = p ∧ (s.spareUse p r).get FFT_SPARE_STAT.REASON = r := by
  constructor <;> rw [State.spareUse, State.get_spareRefresh _ rfl rfl]
  · rw [State.get_put_clear _ _ _ _ rfl, State.get_put_same _ _ _ (by decide)]
    exact Nat.mod_eq_of_lt hp
  · rw [State.get_put_same _ _ _ (by decide)]
    exact Nat.mod_eq_of_lt hr

/-! ### Faults of a pipe (R194) -/

/-- A pipe that fails, and what is recorded of it. -/
theorem State.pipeFailed_fields (s : State) (p loc : Nat) {cause : Nat} (hc : cause < 16) :
    (s.pipeFailed p cause loc).pipe p = pFAILED ∧ (s.pipeFailed p cause loc).get (FFT_PIPE_STAT.FAIL p) = cause
      ∧ (s.pipeFailed p cause loc).fft = s.fft := by
  have hk := Kept.fltRec (.refl _ ((s.setPipe p pFAILED).put (FFT_PIPE_STAT.FAIL p) cause)) (Foot.le_refl _) 1 0x10 p 0x08 loc cause
  have hw := Foot.word_of_win (F := ⟨false, [0x00, 0x15, 0x1B], [], [.flt]⟩) (FFT_PIPE_STAT.addr_win p) rfl
  refine ⟨?_, ?_, ?_⟩
  · refine (hk.get_of (g := FFT_PIPE_STAT.STATE p) hw).trans ((State.get_put_clear _ _ _ _ rfl).trans ?_)
    exact State.pipe_setPipe_same s p (by decide)
  · refine (hk.get_of (g := FFT_PIPE_STAT.FAIL p) hw).trans ((State.get_put_same _ _ _ (by decide : 12 + 4 ≤ 32)).trans ?_)
    exact Nat.mod_eq_of_lt hc
  · rw [State.pipeFailed, hk.part_of .fft rfl, State.put_fft]
    rfl

theorem State.get_pipeStat_settleCaps (s old : State) (p lo n : Nat) :
    (s.settleCaps old).get ⟨FFT_PIPE_STAT.addr p, lo, n⟩ = s.get ⟨FFT_PIPE_STAT.addr p, lo, n⟩ :=
  State.get_settleCaps _ _ (FFT_PIPE_STAT.addr_win p) (by decide) (by decide) (by decide)

theorem State.fft_settleCaps (s old : State) : (s.settleCaps old).fft = s.fft :=
  (Kept.settleCaps (.refl _ s) (Foot.le_refl _) old).part_of .fft rfl

theorem State.get_pipeStat_pipeCondition (s : State) (p lo n : Nat) :
    s.pipeCondition.get ⟨FFT_PIPE_STAT.addr p, lo, n⟩ = s.get ⟨FFT_PIPE_STAT.addr p, lo, n⟩ :=
  (Kept.pipeCondition (.refl _ s) (Foot.le_refl _)).get_of (Foot.word_of_win (FFT_PIPE_STAT.addr_win p) rfl)

theorem State.fft_setPipe (s : State) (p st : Nat) : (s.setPipe p st).fft = s.fft := State.put_fft _ _ _

/-! ### The self-check (R200 to R203) -/

/-- What the end of a self-check shows. -/
def State.checkShown (s : State) (result : Nat) : State :=
  let p := s.fft.check.getD 0
  let s : State := { s with fft := { s.fft with check := none, arb := none, transient := false, hand := none } }
  let s := (s.put FFT_CHECK_STAT.BUSY 0).put FFT_CHECK_STAT.PHASE 0
  (s.put FFT_CHECK_STAT.LAST_RESULT result).put FFT_CHECK_STAT.LAST_PIPE p

theorem State.checkShown_fields (s : State) {result : Nat} (h : result < 8) :
    (s.checkShown result).fft.check = none ∧ (s.checkShown result).get FFT_CHECK_STAT.LAST_RESULT = result
      ∧ (s.checkShown result).get FFT_CHECK_STAT.LAST_PIPE = s.fft.check.getD 0 % 16 := by
  unfold State.checkShown
  refine ⟨?_, ?_, ?_⟩
  · rw [State.put_fft, State.put_fft, State.put_fft, State.put_fft]
  · rw [State.get_put_clear _ _ _ _ rfl, State.get_put_same _ _ _ (by decide)]
    exact Nat.mod_eq_of_lt h
  · exact State.get_put_same _ _ _ (by decide)

/-- The count and the time of a check that ended well, and its interrupt, leave the rest. -/
theorem State.checkEnd_eq (s : State) (result : Nat) :
    s.checkEnd result = (let s := s.checkShown result
      let s := if result == 1 || result == 2 then s.bumpWrap FFT_CHECK_COUNT.COUNT else s
      let s := if result == 1 then
          let sec := s.now.toNat / 2 ^ 40
          (s.put FFT_CHECK_TIME_LO.SEC sec).put FFT_CHECK_TIME_HI.SEC_HI (sec / 2 ^ 32)
        else s
      s.raiseIrq 97) := rfl

theorem State.checkEnd_fields (s : State) {result : Nat} (h : result < 8) :
    (s.checkEnd result).fft.check = none ∧ (s.checkEnd result).get FFT_CHECK_STAT.LAST_RESULT = result
      ∧ (s.checkEnd result).get FFT_CHECK_STAT.LAST_PIPE = s.fft.check.getD 0 % 16 := by
  have hkeep (x : State) : ∃ y : State, s.checkEnd result = y.raiseIrq 97 ∧ y.fft = (s.checkShown result).fft
      ∧ ∀ f : Fld, f.addr = FFT_CHECK_STAT.addr → y.get f = (s.checkShown result).get f := by
    refine ⟨_, s.checkEnd_eq result, ?_, fun f hf => ?_⟩
    · split <;> split <;> simp only [State.put_fft, State.bumpWrap_fft]
    · have h1 : f.addr ≠ FFT_CHECK_TIME_HI.SEC_HI.addr := by rw [hf]; decide
      have h2 : f.addr ≠ FFT_CHECK_TIME_LO.SEC.addr := by rw [hf]; decide
      have h3 : f.addr ≠ FFT_CHECK_COUNT.COUNT.addr := by rw [hf]; decide
      split <;> split <;> simp only [State.bumpWrap, State.get_put_reg _ _ _ _ h1, State.get_put_reg _ _ _ _ h2, State.get_put_reg _ _ _ _ h3]
  obtain ⟨y, he, hfft, hget⟩ := hkeep s
  obtain ⟨h1, h2, h3⟩ := s.checkShown_fields h
  have hk := Kept.raiseIrq (.refl _ y) (Foot.le_refl _) 97
  rw [he, hk.part_of .fft rfl, hfft, hk.get_of rfl, hk.get_of rfl, hget _ rfl, hget _ rfl]
  exact ⟨h1, h2, h3⟩

theorem State.checkBegin_fields (s : State) (p : Nat) : (s.checkBegin p).fft.check = some p ∧ (s.checkBegin p).fft.turn = s.fft.turn := by
  unfold State.checkBegin
  dsimp only
  split
  · rw [State.fft_setPipe, State.put_fft]
    subst p
    exact ⟨rfl, by rw [State.put_fft]⟩
  · rw [State.fft_spareUse, State.put_fft]
    exact ⟨rfl, by rw [State.put_fft]⟩

theorem State.checkBegin_spare (s : State) : (s.checkBegin 8).flag FFT_CHECK_STAT.BUSY = true ∧ (s.checkBegin 8).get FFT_CHECK_STAT.PHASE = 4 := by
  have hne (f : Fld) (hf : f.addr = FFT_CHECK_STAT.addr) (y : State) : (y.setPipe 8 pTEST).get f = y.get f :=
    State.get_put_reg _ _ _ _ (by rw [hf]; decide)
  have he : s.checkBegin 8 = (({ s.put FFT_CHECK_STAT.BUSY 1 with fft := { (s.put FFT_CHECK_STAT.BUSY 1).fft with check := some 8 } } : State).put
      FFT_CHECK_STAT.PHASE 4).setPipe 8 pTEST := rfl
  rw [he, State.flag, hne _ rfl, hne _ rfl, State.get_put_clear _ _ _ _ rfl, State.get_mk, regField_regs]
  exact ⟨flag_of_get_one (State.get_put_same _ _ _ (by decide)), State.get_put_same _ _ _ (by decide)⟩

/-! ### The commands' registers -/

theorem traceAt_addr : ∀ (i : Fin 20) (t : Fin 4), traceAt (FFT_SRC_TRC.addr (fftSourceOf i) t) = some (i, t) := by decide +kernel

theorem FFT_SRC_TRC.normal_addr : ∀ (i : Fin 20) (t : Fin 4), normalAddr (FFT_SRC_TRC.addr (fftSourceOf i) t) = FFT_SRC_TRC.addr (fftSourceOf i) t
    ∧ viewOf (FFT_SRC_TRC.addr (fftSourceOf i) t) = .normal ∧ (FFT_SRC_TRC.addr (fftSourceOf i) t == FFT_SPARE_CTRL.addr) = false
    ∧ (FFT_SRC_TRC.addr (fftSourceOf i) t == FFT_CHECK_CTRL.addr) = false := by decide +kernel

theorem FFT_PIPE_CTRL.normal_addr : ∀ p : Fin 10, normalAddr (FFT_PIPE_CTRL.addr p) = FFT_PIPE_CTRL.addr p ∧ viewOf (FFT_PIPE_CTRL.addr p) = .normal
    ∧ (FFT_PIPE_CTRL.addr p == FFT_SPARE_CTRL.addr) = false ∧ (FFT_PIPE_CTRL.addr p == FFT_CHECK_CTRL.addr) = false
    ∧ traceAt (FFT_PIPE_CTRL.addr p) = none ∧ (List.range 10).find? (fun q => FFT_PIPE_CTRL.addr p == FFT_PIPE_CTRL.addr q) = some p.val := by
  decide +kernel

theorem fftRules_act_trace (src : Source) (i : Fin 20) (t : Fin 4) (w : Word) (x : State) :
    fftRules.act src (FFT_SRC_TRC.addr (fftSourceOf i) t) w x = .ok (x.traceWrite i t w) := by
  obtain ⟨-, -, h1, h2⟩ := FFT_SRC_TRC.normal_addr i t
  simp only [fftRules, h1, h2, traceAt_addr, Bool.false_eq_true, if_false]

theorem fftRules_act_reset (src : Source) (p : Fin 10) {w : Word} {x : State} (hw : w.toNat.testBit 0 = true) (hp : x.pipe p = pFAILED) :
    fftRules.act src (FFT_PIPE_CTRL.addr p) w x = .ok (x.setPipe p pRECOVERING) := by
  obtain ⟨-, -, h1, h2, h3, h4⟩ := FFT_PIPE_CTRL.normal_addr p
  simp only [fftRules, h1, h2, h3, h4, hw, hp, beq_self_eq_true, Bool.false_eq_true, if_false, if_true]

/-- A landed state whose pipes and domains are the old ones. -/
theorem State.spareReady_landed (s : State) {a : Nat} (w : Word) (ha : ∀ p, FFT_PIPE_STAT.addr p ≠ a) (hw : a / 0x10000 = 9) :
    (s.landed a w).spareReady = s.spareReady := by
  have hp : (s.landed a w).pipe 8 = s.pipe 8 :=
    State.get_landed_ne _ _ _ _ (ha 8)
  have hd : (s.landed a w).dom dFFT_S = s.dom dFFT_S := State.get_landed_ne _ _ _ _ (fun e => by
    have := PWR_DOM_STAT.addr_win dFFT_S
    have he : PWR_DOM_STAT.addr dFFT_S = a := e
    omega)
  rw [State.spareReady, State.spareReady, hp, State.domOn, State.domOn, hd]

theorem State.pipe_landed (s : State) {a : Nat} (w : Word) (p : Nat) (ha : ∀ p, FFT_PIPE_STAT.addr p ≠ a) : (s.landed a w).pipe p = s.pipe p :=
  State.get_landed_ne _ _ _ _ (ha p)

theorem FFT_PIPE_STAT.addr_ne_spare (p : Nat) : FFT_PIPE_STAT.addr p ≠ FFT_SPARE_CTRL.addr := by
  unfold FFT_PIPE_STAT.addr FFT_SPARE_CTRL.addr; omega

theorem FFT_PIPE_STAT.addr_ne_check (p : Nat) : FFT_PIPE_STAT.addr p ≠ FFT_CHECK_CTRL.addr := by
  unfold FFT_PIPE_STAT.addr FFT_CHECK_CTRL.addr; omega

theorem bitsOf_or_low (v w : Word) (lo n : Nat) (h : w.toNat / 2 ^ lo % 2 ^ n = 0) : bitsOf (v ||| w) lo n = bitsOf v lo n := by
  apply Nat.eq_of_testBit_eq
  intro k
  have hw : (w.toNat / 2 ^ lo % 2 ^ n).testBit k = false := by rw [h, Nat.zero_testBit]
  simp only [bitsOf, BitVec.toNat_or, Nat.testBit_mod_two_pow, Nat.testBit_div_two_pow, Nat.testBit_or] at hw ⊢
  by_cases hk : k < n
  · simp only [hk, decide_true, Bool.true_and] at hw ⊢
    rw [hw, Bool.or_false]
  · simp [hk]

/-- SNAP of a running trace. -/
theorem State.traceWrite_snap {x : State} {i : Fin 20} {t : Fin 4} {w : Word} (h : w.toNat.testBit 29 = true)
    (hblock : x.appFlag (FFT_SRC_TRC.BLOCK (fftSourceOf i) t) = false) (hmode : x.app (FFT_SRC_TRC.MODE (fftSourceOf i) t) ≠ 0) :
    ((x.traceWrite i t w).get (FFT_SRC_TRS.SNAP_PEND (fftSourceOf i))).testBit t = true := by
  have hget : (x.traceWrite i t w).get (FFT_SRC_TRS.SNAP_PEND (fftSourceOf i))
      = (x.put (FFT_SRC_TRS.SNAP_PEND (fftSourceOf i)) (setBit (x.get (FFT_SRC_TRS.SNAP_PEND (fftSourceOf i))) t true)).get
        (FFT_SRC_TRS.SNAP_PEND (fftSourceOf i)) := by
    refine State.get_of_regs ?_ _
    simp only [State.traceWrite, h, hblock, bne_iff_ne.mpr hmode, Bool.not_false, Bool.and_self, if_true]
    split <;> rfl
  rw [hget, State.get_put_same _ _ _ (by decide : 0 + 4 ≤ 32)]
  change (_ % 2 ^ 4).testBit t = true
  rw [Nat.testBit_mod_two_pow, testBit_setBit_same]
  simp

theorem State.traceWrite_reset (x : State) (i : Fin 20) (t : Fin 4) {w : Word} (h : w.toNat.testBit 28 = true) :
    vget ((x.traceWrite i t w).fftSrc i).traceReset t = true := by
  have (y : State) : vget ((y.modFftSrc i (fun z => { z with traceReset := vset z.traceReset t true })).fftSrc i).traceReset t = true := by
    rw [State.fftSrc, State.modFftSrc, State.setFftSrc]
    dsimp only
    rw [vget_vset_same]
    exact vget_vset_same _ _ _
  simp only [State.traceWrite, h, if_true]
  exact this _

/-! ### The spare's commands (R199) -/

theorem fftRules_act_spare (src : Source) (w : Word) (x : State) : fftRules.act src FFT_SPARE_CTRL.addr w x = x.spareWrite w := by
  simp only [fftRules, beq_self_eq_true, if_true]

theorem fftRules_act_check (src : Source) (w : Word) (x : State) : fftRules.act src FFT_CHECK_CTRL.addr w x = x.checkWrite w := by
  have hne : (FFT_CHECK_CTRL.addr == FFT_SPARE_CTRL.addr) = false := by decide
  simp only [fftRules, hne, beq_self_eq_true, Bool.false_eq_true, if_false, if_true]

theorem State.spareWrite_takeover {x : State} {w : Word} (h8 : w.toNat.testBit 8 = true) (h9 : w.toNat.testBit 9 = false)
    (hready : x.spareReady = true) (hp : x.pipe (x.get FFT_SPARE_CTRL.TARGET) = pACTIVE) :
    x.spareWrite w = .ok (({ x with fft := { x.fft with hand := some (.takeover, x.get FFT_SPARE_CTRL.TARGET, x.now) } } : State).spareUse
      (x.get FFT_SPARE_CTRL.TARGET) 2) := by
  simp only [State.spareWrite, h8, h9, hready, hp, Bool.and_false, Bool.not_true, bne_self_eq_false, Bool.false_eq_true, if_false, if_true]

theorem State.spareWrite_release {x : State} {w : Word} (h8 : w.toNat.testBit 8 = false) (h9 : w.toNat.testBit 9 = true)
    (huse : x.flag FFT_SPARE_STAT.IN_USE = true) (hf : x.pipe (x.get FFT_SPARE_STAT.TARGET) ≠ pFAILED)
    (hr : x.pipe (x.get FFT_SPARE_STAT.TARGET) ≠ pRECOVERING) :
    x.spareWrite w = .ok { x with fft := { x.fft with hand := some (.release, x.get FFT_SPARE_STAT.TARGET, x.now) } } := by
  simp only [State.spareWrite, h8, h9, huse, beq_eq_false_iff_ne.mpr hf, beq_eq_false_iff_ne.mpr hr, Bool.false_and, Bool.or_self,
    Bool.not_true, Bool.false_eq_true, if_false, if_true]

theorem State.checkWrite_start {x : State} {w : Word} (h24 : w.toNat.testBit 24 = true) (h25 : w.toNat.testBit 25 = false)
    (hready : x.spareReady = true) (hp : x.get FFT_CHECK_CTRL.TARGET = 8) : x.checkWrite w = .ok (x.checkBegin 8) := by
  simp only [State.checkWrite, h24, h25, hready, hp, Bool.and_false, bne_self_eq_false, Bool.false_and, Bool.not_true, Bool.false_eq_true,
    if_false, if_true]

theorem State.checkWrite_abort {x : State} {w : Word} (h24 : w.toNat.testBit 24 = false) (h25 : w.toNat.testBit 25 = true)
    (hck : x.fft.check = some 8) : x.checkWrite w = .ok ((x.setPipe 8 pIDLE).checkEnd 5) := by
  simp only [State.checkWrite, State.checkAbort, h24, h25, hck, Bool.false_and, Option.isNone_some, Bool.false_eq_true, if_false, if_true]

/-- The field TARGET of a landed write of FFT_SPARE_CTRL, and of FFT_CHECK_CTRL. -/
theorem State.target_landed_spare (s : State) (w : Word) : (s.landed FFT_SPARE_CTRL.addr w).get FFT_SPARE_CTRL.TARGET = bitsOf w 0 4 :=
  s.get_landed_rw FFT_SPARE_CTRL.addr w (f := ⟨0, 4, .rwImm, 0, .oneOf [0, 1, 2, 3, 4, 5, 6, 7, 9]⟩) (by decide +kernel) rfl (.inr (by decide))

theorem State.target_landed_check (s : State) (w : Word) : (s.landed FFT_CHECK_CTRL.addr w).get FFT_CHECK_CTRL.TARGET = bitsOf w 16 4 :=
  s.get_landed_rw FFT_CHECK_CTRL.addr w (f := ⟨16, 4, .rwImm, 0, .range 0 9⟩) (by decide +kernel) rfl (.inr (by decide))

theorem fftSourceOf_eq {src : Fin 32} {i : Fin 20} (h : fftIdx src.val = some i) : fftSourceOf i = src.val := by
  have hall : ∀ (src : Fin 32) (i : Fin 20), fftIdx src.val = some i → fftSourceOf i = src.val := by decide +kernel
  exact hall src i h

/-- Settles O21: the release by the sequence number that no later step touches, the pipes and the spare by what each step leaves
of their status. -/
theorem fftCommandsComplete : Obligations.FftCommandsComplete := by
  refine ⟨fun s i src bins f q p rest hi h hitems hq => ?_, fun s i t src v ha hblock hmode hlt => ?_, fun s i t src v ha hlt => ?_,
    fun s p c loc h8 hl h1 h3 hpf hpo hsch hck hhand hcarry => ?_, fun s p src v ha hp => ?_, fun s p hl harb hp => ⟨?_, ?_⟩,
    fun s src v ha hrel hready hact hlt => ?_, fun s src v ha htake huse hf hr => ?_, fun s p t0 h8 hl hhand => ?_,
    fun s src v ha habort hready htarget => ?_, fun s k hl hint hbusy hsus hready hturn => ?_, fun s src v ha hstart hck => ?_,
    fun s hl hck => ?_⟩
  · have hdrain : s.drainGaps i 4 = s := by simp only [State.drainGaps, hitems]
    have hdrop (n : Nat) : s.dropLost i n = s := by
      cases n with
      | zero => rfl
      | succ n => simp only [State.dropLost, hitems]
    have he : exec (.spectrumRelease src bins) s = .next (((s.modFftSrc i (fun z => { z with items := rest })).releaseSpec i f q
        (((s.modFftSrc i (fun z => { z with items := rest })).carrier p).getD p) bins).drainGaps i 4) := by
      simp only [exec, execSpectrumRelease, hi, h, hdrain, hdrop, hitems, Bool.not_true, Bool.false_eq_true, if_false]
    refine ⟨_, he, ?_⟩
    dsimp only
    rw [← fftSourceOf_eq hi, SeqKept.drainGaps _ i 4 (fftSourceOf i)]
    exact State.get_SEQ_releaseSpec _ i f hq _ bins
  · obtain ⟨hn, hv, -, -⟩ := FFT_SRC_TRC.normal_addr i t
    refine Completes.of_write rfl ha hn hv (fftRules_act_trace src i t _ _) ⟨rfl, ?_⟩
    rw [State.answer_get]
    exact State.traceWrite_snap (testBit_or_right v _ (by decide)) hblock hmode
  · obtain ⟨hn, hv, -, -⟩ := FFT_SRC_TRC.normal_addr i t
    exact Completes.of_write rfl ha hn hv (fftRules_act_trace src i t _ _)
      ⟨rfl, State.traceWrite_reset _ i t (testBit_or_right v _ (by decide))⟩
  · have hguard : (! (s.live (pipeDomain p) && decide (1 ≤ c.toNat) && decide (c.toNat ≤ 3)) || s.pipe p == pFAILED || s.pipe p == pOFF) = false := by
      rw [hl, decide_eq_true h1, decide_eq_true h3, beq_eq_false_iff_ne.mpr hpf, beq_eq_false_iff_ne.mpr hpo]; rfl
    obtain ⟨hpipe, hfail, hfft⟩ := s.pipeFailed_fields p loc.toNat (cause := c.toNat) c.isLt
    have hsch' : (s.pipeFailed p c.toNat loc.toNat).hasSchedule p = false := by
      rw [← hsch]; simp only [State.hasSchedule, State.zoomSources, State.fftSrc, hfft]
    have he : s.pipeFailEvent p c loc = s.pipeFailed p c.toNat loc.toNat := by
      simp only [State.pipeFailEvent, hguard, hck, hhand, hcarry, h8, hsch', List.find?_nil, Option.isSome_none, Bool.false_eq_true, if_false,
        Bool.not_false, if_true]
      rfl
    refine ⟨_, rfl, ?_, ?_⟩ <;> rw [he]
    · exact (State.get_pipeStat_settleCaps _ _ _ _ _).trans hpipe
    · exact (State.get_pipeStat_settleCaps _ _ _ _ _).trans hfail
  · obtain ⟨hn, hv, -⟩ := FFT_PIPE_CTRL.normal_addr p
    have hmod (q : Nat) : FFT_PIPE_STAT.addr q ≠ FFT_PIPE_CTRL.addr p := by unfold FFT_PIPE_STAT.addr FFT_PIPE_CTRL.addr; omega
    exact Completes.of_write rfl ha hn hv (fftRules_act_reset src p (testBit_or_right v 1 (by decide)) ((s.pipe_landed _ p hmod).trans hp))
      ⟨rfl, (State.answer_get _ _ _ _).trans (State.pipe_setPipe_same _ _ (by decide))⟩
  · refine ⟨_, rfl, (State.get_pipeStat_settleCaps _ _ _ _ _).trans ?_⟩
    simp only [State.patternTestEvent, hl, harb, hp, bne_self_eq_false, Bool.not_true, Bool.false_eq_true, if_false, if_true]
    refine (State.get_pipeStat_spareRefresh _ _ _ _).trans ((State.get_pipeStat_pipeCondition _ _ _ _).trans ?_)
    exact State.pipe_setPipe_same _ _ (by split <;> decide)
  · obtain ⟨hpipe, hfail, -⟩ := s.pipeFailed_fields p (pipeLoc p) (cause := 4) (by decide)
    have he : s.patternTestEvent p false = (s.pipeFailed p 4 (pipeLoc p)).spareRefresh := by
      simp only [State.patternTestEvent, hl, harb, hp, bne_self_eq_false, Bool.not_true, Bool.false_eq_true, if_false]
    refine ⟨_, rfl, ?_, ?_⟩ <;> rw [he]
    · exact (State.get_pipeStat_settleCaps _ _ _ _ _).trans ((State.pipe_spareRefresh _ _).trans hpipe)
    · exact (State.get_pipeStat_settleCaps _ _ _ _ _).trans ((State.get_pipeStat_spareRefresh _ _ _ _).trans hfail)
  · have htarget : (s.landed FFT_SPARE_CTRL.addr (v ||| BitVec.ofNat 32 (2 ^ 8))).get FFT_SPARE_CTRL.TARGET = v.toNat % 16 := by
      rw [State.target_landed_spare, bitsOf_or_low _ _ _ _ (by decide)]; simp [bitsOf]
    refine Completes.of_write rfl ha (by decide) (by decide) ((fftRules_act_spare _ _ _).trans
      (State.spareWrite_takeover (testBit_or_right v _ (by decide)) hrel ((s.spareReady_landed _ FFT_PIPE_STAT.addr_ne_spare (by decide)).trans hready)
        (by rw [htarget, State.pipe_landed _ _ _ FFT_PIPE_STAT.addr_ne_spare]; exact hact))) ?_
    rw [htarget]
    obtain ⟨ht, hr⟩ := State.spareUse_fields { s.landed FFT_SPARE_CTRL.addr (v ||| BitVec.ofNat 32 (2 ^ 8)) with
      fft := { (s.landed FFT_SPARE_CTRL.addr (v ||| BitVec.ofNat 32 (2 ^ 8))).fft with hand := some (.takeover, v.toNat % 16,
        (s.landed FFT_SPARE_CTRL.addr (v ||| BitVec.ofNat 32 (2 ^ 8))).now) } } (p := v.toNat % 16) (r := 2) (by omega) (by decide)
    exact ⟨rfl, by rw [State.answer_fft, State.fft_spareUse]; rfl, (State.answer_get _ _ _ _).trans ht, (State.answer_get _ _ _ _).trans hr⟩
  · have hne : FFT_SPARE_STAT.TARGET.addr ≠ FFT_SPARE_CTRL.addr := by decide
    have htarget : (s.landed FFT_SPARE_CTRL.addr (v ||| BitVec.ofNat 32 (2 ^ 9))).get FFT_SPARE_STAT.TARGET = s.get FFT_SPARE_STAT.TARGET :=
      State.get_landed_ne _ _ _ _ hne
    refine Completes.of_write rfl ha (by decide) (by decide) ((fftRules_act_spare _ _ _).trans
      (State.spareWrite_release htake (testBit_or_right v _ (by decide)) ((State.flag_eq_get (State.get_landed_ne _ _ _ FFT_SPARE_STAT.IN_USE hne)).trans huse)
        (by rw [htarget, State.pipe_landed _ _ _ FFT_PIPE_STAT.addr_ne_spare]; exact hf) (by rw [htarget, State.pipe_landed _ _ _ FFT_PIPE_STAT.addr_ne_spare]; exact hr))) ?_
    rw [htarget]
    exact ⟨rfl, rfl⟩
  · have h8' : FFT_PIPE_STAT.addr 8 ≠ FFT_PIPE_STAT.addr p := by
      have := p.isLt
      unfold FFT_PIPE_STAT.addr; omega
    have he : exec (.spareSwitch true) s = .next (((({ s with fft := { s.fft with hand := none } } : State).spareCarry p).setPipe p pIDLE).setActive 0) := by
      simp only [exec, execSpareSwitch, hl, hhand, Bool.not_true, Bool.false_eq_true, if_false]
    have hk := Kept.setActive (.refl _ ((({ s with fft := { s.fft with hand := none } } : State).spareCarry p).setPipe p pIDLE)) (Foot.le_refl _) 0
    have hw (q : Nat) := Foot.word_of_win (F := ⟨false, [0x00, 0x15, 0x1B], [], []⟩) (FFT_PIPE_STAT.addr_win q) rfl
    refine ⟨_, he, ?_, ?_, ?_⟩
    · exact (hk.get_of (g := FFT_PIPE_STAT.STATE p) (hw p)).trans (State.pipe_setPipe_same _ _ (by decide))
    · refine (hk.get_of (g := FFT_PIPE_STAT.STATE 8) (hw 8)).trans ((State.pipe_setPipe_ne _ _ h8').trans ?_)
      refine (State.get_put_clear _ _ _ _ rfl).trans ((State.get_put_clear _ _ _ _ rfl).trans ?_)
      exact State.pipe_setPipe_same _ _ (by decide)
    · rw [hk.part_of .fft rfl, State.fft_setPipe, State.spareCarry, State.put_fft, State.put_fft, State.fft_setPipe]
  · have htarget' : (s.landed FFT_CHECK_CTRL.addr (v ||| BitVec.ofNat 32 (2 ^ 24))).get FFT_CHECK_CTRL.TARGET = 8 :=
      (State.target_landed_check _ _).trans htarget
    obtain ⟨hb, hph⟩ := (s.landed FFT_CHECK_CTRL.addr (v ||| BitVec.ofNat 32 (2 ^ 24))).checkBegin_spare
    obtain ⟨hc, -⟩ := (s.landed FFT_CHECK_CTRL.addr (v ||| BitVec.ofNat 32 (2 ^ 24))).checkBegin_fields 8
    exact Completes.of_write rfl ha (by decide) (by decide) ((fftRules_act_check _ _ _).trans
      (State.checkWrite_start (testBit_or_right v _ (by decide)) habort ((s.spareReady_landed _ FFT_PIPE_STAT.addr_ne_check (by decide)).trans hready) htarget'))
      ⟨rfl, by rw [State.answer_fft]; exact hc, (State.answer_flag _ _ _ _).trans hb, (State.answer_get _ _ _ _).trans hph⟩
  · have hgo : (s.live dFFT_S && s.app FFT_CHECK_CTRL.INTERVAL != 0 && ! s.spareBusy && ! s.flag FFT_CHECK_STAT.SUSPENDED && s.spareReady)
        = true := by rw [hl, bne_iff_ne.mpr hint, hbusy, hsus, hready]; rfl
    obtain ⟨hc, ht⟩ := State.checkBegin_fields { s with fft := { s.fft with turn := (k + 1) % 10 } } (turnPipe k)
    exact ⟨_, by simp only [exec, execCheckInterval, hgo, hturn, if_true], hc, ht⟩
  · obtain ⟨hc, hr, hlast⟩ := ((s.landed FFT_CHECK_CTRL.addr (v ||| BitVec.ofNat 32 (2 ^ 25))).setPipe 8 pIDLE).checkEnd_fields (result := 5) (by decide)
    have hfft : (s.landed FFT_CHECK_CTRL.addr (v ||| BitVec.ofNat 32 (2 ^ 25))).fft = s.fft := State.setWord_fft _ _ _
    refine Completes.of_write rfl ha (by decide) (by decide) ((fftRules_act_check _ _ _).trans
      (State.checkWrite_abort hstart (testBit_or_right v _ (by decide)) (by rw [hfft]; exact hck)))
      ⟨rfl, by rw [State.answer_fft]; exact hc, (State.answer_get _ _ _ _).trans hr, (State.answer_get _ _ _ _).trans ?_⟩
    rw [hlast, State.fft_setPipe, hfft, hck]
    rfl
  · obtain ⟨hc, hr, -⟩ := (s.setPipe 8 pIDLE).checkEnd_fields (result := 1) (by decide)
    have he : s.checkTestEvent true = (s.setPipe 8 pIDLE).checkEnd 1 := by
      simp only [State.checkTestEvent, hck, hl, Bool.not_true, Bool.false_eq_true, if_false, if_true]
    refine ⟨_, rfl, ?_, ?_⟩ <;> rw [he]
    · rw [State.fft_settleCaps]; exact hc
    · exact (State.get_settleCaps _ _ (w := 9) rfl (by decide) (by decide) (by decide)).trans hr

end Sys2Proof.Machine
end

section
/-! PROOFS. The trigger block: slots, arming, TRIG_OUT and remote triggers (R209 to R246, R504). -/

namespace Sys2Proof.Machine

/-! ### Masks built bit by bit -/

/-- Setting a bit leaves the others. -/
theorem testBit_setBit_ne (m : Nat) {k j : Nat} (b : Bool) (h : j ≠ k) : (setBit m k b).testBit j = m.testBit j := by
  have hadd (m : Nat) (hm : m.testBit k = false) : (m + 2 ^ k).testBit j = m.testBit j := by
    rcases Nat.lt_or_gt_of_ne h with hlt | hgt
    · rw [Nat.add_comm]; exact Nat.testBit_two_pow_add_gt hlt m
    · have heven : m / 2 ^ k % 2 = 0 := by
        rw [Nat.testBit_eq_decide_div_mod_eq] at hm
        simp only [decide_eq_false_iff_not] at hm
        omega
      have hdiv : (m + 2 ^ k) / 2 ^ (k + 1) = m / 2 ^ (k + 1) := by
        rw [Nat.pow_succ, ← Nat.div_div_eq_div_mul, ← Nat.div_div_eq_div_mul, Nat.add_div_right _ (Nat.two_pow_pos k)]
        omega
      obtain ⟨i, rfl⟩ : ∃ i, j = i + (k + 1) := ⟨j - (k + 1), by omega⟩
      rw [← Nat.testBit_div_two_pow, hdiv, Nat.testBit_div_two_pow]
  unfold setBit
  split
  · rfl
  next hb =>
    split
    next ht =>
      exact hadd m (by simpa [ht] using hb)
    next hf =>
      have hm : m.testBit k = true := by simpa [hf] using hb
      have hle := Nat.ge_two_pow_of_testBit hm
      have hsub : m - 2 ^ k + 2 ^ k = m := by omega
      have hclear : (m - 2 ^ k).testBit k = false := by
        rw [← hsub, Nat.add_comm, Nat.testBit_two_pow_add_eq] at hm
        simpa using hm
      exact (hadd _ hclear).symm.trans (by rw [hsub])

/-- A mask that takes one bit for each output holds each output's bit. -/
theorem testBit_foldl_setBit (f : Fin 4 → Bool) (k : Fin 4) :
    ((List.finRange 4).foldl (fun (m : Nat) (k : Fin 4) => setBit m k (f k)) 0).testBit k = f k := by
  have hr : List.finRange 4 = [0, 1, 2, 3] := by decide
  rw [hr]
  simp only [List.foldl_cons, List.foldl_nil]
  have h3 (m : Nat) (b : Bool) {j : Nat} (hj : j < 3) := testBit_setBit_ne m (k := 3) b (j := j) (by omega)
  have h2 (m : Nat) (b : Bool) {j : Nat} (hj : j < 2) := testBit_setBit_ne m (k := 2) b (j := j) (by omega)
  match k with
  | 3 => exact testBit_setBit_same _ _ _
  | 2 => exact (h3 _ _ (by decide)).trans (testBit_setBit_same _ _ _)
  | 1 => exact (h3 _ _ (by decide)).trans ((h2 _ _ (by decide)).trans (testBit_setBit_same _ _ _))
  | 0 => exact (h3 _ _ (by decide)).trans ((h2 _ _ (by decide)).trans ((testBit_setBit_ne _ _ (by decide)).trans (testBit_setBit_same _ _ _)))

/-- Bits set below n leave bit n clear. -/
theorem testBit_foldl_setBit_above {α : Type} (l : List α) (g : α → Nat) (p : α → Bool) {n : Nat} (h : ∀ a ∈ l, g a ≠ n) :
    (l.foldl (fun m a => if p a then setBit m (g a) true else m) 0).testBit n = false := by
  have hall (l : List α) (m : Nat) (hl : ∀ a ∈ l, g a ≠ n) (hm : m.testBit n = false) :
      (l.foldl (fun m a => if p a then setBit m (g a) true else m) m).testBit n = false := by
    induction l generalizing m with
    | nil => exact hm
    | cons a l ih =>
      refine ih _ (fun x hx => hl x (List.mem_cons_of_mem a hx)) ?_
      dsimp only
      split
      · rw [testBit_setBit_ne _ _ (hl a List.mem_cons_self).symm, hm]
      · exact hm
  exact hall l 0 h (Nat.zero_testBit n)

/-! ### TRIG_OUT (R246) -/

/-- An output's pin follows its pulse, where SEL gives it pulses. -/
theorem State.trigLevels_pin {s : State} {k : Fin 4} (h0 : s.app (TRG_OUT_CTRL.SEL k) ≠ 0) (h3 : s.app (TRG_OUT_CTRL.SEL k) ≠ 3) :
    s.trigLevels.pins.trigOut.getLsbD k = ((vget s.trg.outEnd k).isSome != s.appFlag (TRG_OUT_CTRL.POL k)) := by
  unfold State.trigLevels
  dsimp only
  rw [BitVec.getLsbD_ofNat, testBit_foldl_setBit]
  simp only [k.isLt, decide_true, Bool.true_and]

/-- The levels change pins alone. -/
theorem State.trigLevels_keeps (s : State) : s.trigLevels.trg = s.trg ∧ s.trigLevels.regs = s.regs := ⟨rfl, rfl⟩

theorem State.pulseStart_keeps (s : State) (k : Fin 4) (t : Stamp) : (s.pulseStart k t).trg.closedTo = s.trg.closedTo
    ∧ (s.pulseStart k t).trg.events = s.trg.events ∧ (s.pulseStart k t).regs = s.regs := ⟨rfl, rfl, rfl⟩

/-- A pulse that is due starts at once, counted late, or waits. -/
theorem State.schedulePulse_cases (s : State) (k : Fin 4) (i t : Stamp) :
    s.schedulePulse k i t = (s.put TRG_STAT.OUT_LATE 1).pulseStart k t
      ∨ ∃ d, s.schedulePulse k i t = { s with trg := { s.trg with pulses := vmod s.trg.pulses k (fun l => l ++ [d]) } } := by
  unfold State.schedulePulse
  dsimp only
  split
  · exact .inl rfl
  · exact .inr ⟨_, rfl⟩

/-- A pulse leaves what the slots have decided. -/
theorem State.schedulePulse_keeps (s : State) (k : Fin 4) (i t : Stamp) : (s.schedulePulse k i t).trg.closedTo = s.trg.closedTo
    ∧ (s.schedulePulse k i t).trg.events = s.trg.events ∧ (s.schedulePulse k i t).get TRG_STAT.NOREF = s.get TRG_STAT.NOREF := by
  rcases s.schedulePulse_cases k i t with h | ⟨d, h⟩ <;> rw [h]
  · obtain ⟨hc, he, hr⟩ := (s.put TRG_STAT.OUT_LATE 1).pulseStart_keeps k t
    rw [hc, he, State.get_of_regs hr, State.put_trg, State.get_put_clear _ _ _ _ rfl]
    exact ⟨rfl, rfl, rfl⟩
  · exact ⟨rfl, rfl, rfl⟩

/-! ### Slots (R209, R210) -/

/-- The state of TRG as a slot closes, before its triggers are decided. -/
def State.slotTaken (s : State) (nx de : Stamp) (real : Bool) : State :=
  ({ s with trg := { s.trg with
      events := s.trg.events.filter (fun e => decide (nx.toNat ≤ e.instant.toNat)), closedTo := nx
      softs := s.trg.softs.filter (fun x => decide (de.toNat < x.1.toNat)) } } : State).putB TRG_STAT.NOREF (! real)

theorem State.slotTaken_fields (s : State) (nx de : Stamp) (real : Bool) : (s.slotTaken nx de real).trg.closedTo = nx
    ∧ (s.slotTaken nx de real).trg.events = s.trg.events.filter (fun e => decide (nx.toNat ≤ e.instant.toNat))
    ∧ (s.slotTaken nx de real).get TRG_STAT.NOREF = if real then 0 else 1 := by
  refine ⟨?_, ?_, ?_⟩
  · rw [State.slotTaken, State.putB, State.put_trg]
  · rw [State.slotTaken, State.putB, State.put_trg]
  · rw [State.slotTaken, State.putB, State.get_put_same _ _ _ (by decide)]
    cases real <;> rfl

/-- The pulses of a slot's events, and the hold-off shown. -/
def State.slotPulses (s : State) (v : View') (es : List TrgEvent) (at_ : Stamp) : State :=
  (List.finRange 4).foldl (fun (s : State) (k : Fin 4) =>
    if v (TRG_OUT_CTRL.SEL k) == 2 then
      match earliest es (v (TRG_OUT_CTRL.SRC k)) with
      | some e => s.schedulePulse k e.instant at_
      | none => s
    else s) s

theorem State.slotPulses_keeps (s : State) (v : View') (es : List TrgEvent) (at_ : Stamp) :
    (s.slotPulses v es at_).trg.closedTo = s.trg.closedTo ∧ (s.slotPulses v es at_).trg.events = s.trg.events
      ∧ (s.slotPulses v es at_).get TRG_STAT.NOREF = s.get TRG_STAT.NOREF := by
  refine List.foldl_inv (P := fun t : State => t.trg.closedTo = s.trg.closedTo ∧ t.trg.events = s.trg.events
    ∧ t.get TRG_STAT.NOREF = s.get TRG_STAT.NOREF) (fun t k ⟨hc, he, hn⟩ => ?_) _ ⟨rfl, rfl, rfl⟩
  split
  · split
    next e _ =>
      obtain ⟨h1, h2, h3⟩ := t.schedulePulse_keeps k e.instant at_
      exact ⟨h1.trans hc, h2.trans he, h3.trans hn⟩
    · exact ⟨hc, he, hn⟩
  · exact ⟨hc, he, hn⟩

/-- Where TRG is disarmed and no SOFT waits, a slot only counts what it suppresses. -/
theorem State.trgLogic_disarmed (s : State) (v : View') (es : List TrgEvent) {mask : Nat} (h : mask.testBit 24 = false) (stamp at_ : Stamp)
    (noref hold keep : Bool) : s.trgLogic v es mask stamp at_ noref false hold keep = if mask != 0 then s.bump TRG_CNT_SUPP.DISARMED else s := by
  simp only [State.trgLogic, h, Bool.false_eq_true, if_false, Bool.not_false, if_true]

/-- The triggers of a slot whose events were taken. -/
def State.slotJudged (s : State) (v : View') (es : List TrgEvent) (soft : List (Stamp × Bool)) (stamp de : Stamp) (real : Bool) : State :=
  let armed := s.flag TRG_STAT.ARMED && decide (s.trg.armFrom.toNat ≤ de.toNat)
  let s : State := if armed && s.trg.armSlot.isNone then { s with trg := { s.trg with armSlot := some stamp } } else s
  let real_ := (List.range 24).foldl (fun m i => if es.any (fun e => e.src == i) then setBit m i true else m) 0
  let mask := real_ + (if soft.isEmpty then 0 else 2 ^ 24) + (if armed && s.autoFalls v stamp then 2 ^ 25 else 0)
  let at_ := de + BitVec.ofNat 80 (fclkStamp (s.get TRG_LATENCY.L_M))
  let s := s.slotPulses v es at_
  let hold := s.inHoldoff v stamp
  let s := s.putB TRG_STAT.HOLDOFF hold
  (s.trgLogic v es mask stamp at_ (! real) armed hold (soft.any (·.2))).trigLevels

/-- A slot judged while TRG is disarmed, with no SOFT waiting. -/
theorem State.slotJudged_disarmed {s : State} (h : s.flag TRG_STAT.ARMED = false) (v : View') (es : List TrgEvent) (stamp de : Stamp)
    (real : Bool) : ∃ (at_ : Stamp) (hold : Bool) (mask : Nat), s.slotJudged v es [] stamp de real
      = (let x := (s.slotPulses v es at_).putB TRG_STAT.HOLDOFF hold
        if mask != 0 then x.bump TRG_CNT_SUPP.DISARMED else x).trigLevels := by
  have hbits : ((List.range 24).foldl (fun m i => if es.any (fun e => e.src == i) then setBit m i true else m) 0).testBit 24
      = false := testBit_foldl_setBit_above _ (fun i => i) _ (fun i hi => by have := List.mem_range.mp hi; omega)
  unfold State.slotJudged
  simp only [h, Bool.false_and, Bool.false_eq_true, if_false, List.isEmpty_nil, if_true, Nat.add_zero]
  exact ⟨_, _, _, by rw [State.trgLogic_disarmed _ _ _ hbits]⟩

/-- A slot that closes while TRG is disarmed. -/
theorem execSlotDecide_disarmed {s : State} {st nx de : Stamp} (real : Bool) (hl : s.live dTRG = true) (hen : s.trgView de TRG_CTRL.EN = 1)
    (hst : s.trg.closedTo.toNat ≤ st.toNat) (hnx : st.toNat < nx.toNat) (hfresh : s.trg.fresh = false) (hseq : s.trg.seqReset = none)
    (hsoft : s.trg.softs = []) :
    execSlotDecide st nx de real s = .next ((s.slotTaken nx de real).slotJudged (s.trgView de)
      (s.trg.events.filter (fun e => decide (e.instant.toNat < nx.toNat))) [] st de real) := by
  have hgo : (s.live dTRG && s.trgView de TRG_CTRL.EN == 1 && decide (s.trg.closedTo.toNat ≤ st.toNat) && decide (st.toNat < nx.toNat)) = true := by
    rw [hl, hen, decide_eq_true hst, decide_eq_true hnx]; rfl
  have hopen : s.slotOpen de = s := by
    simp only [State.slotOpen, hfresh, hseq, Bool.false_and, Bool.false_eq_true, if_false]
  have hnone : s.trg.softs.filter (fun x => decide (x.1.toNat ≤ de.toNat)) = [] := by rw [hsoft]; rfl
  have he : execSlotDecide st nx de real s = .next (((s.slotOpen de).slotTaken nx de real).slotJudged (s.trgView de)
      ((s.slotOpen de).trg.events.filter (fun e => decide (e.instant.toNat < nx.toNat)))
      ((s.slotOpen de).trg.softs.filter (fun x => decide (x.1.toNat ≤ de.toNat))) st de real) := by
    unfold execSlotDecide
    dsimp only
    rw [if_pos hgo]
    rfl
  rw [he, hopen, hnone]

/-! ### The strobes of TRG_CMD (R237 to R241, R245) -/

/-- The strobes of a word written to TRG_CMD. -/
def State.trgCmd (x : State) (w : Word) : State :=
  let s : State := if w.toNat.testBit 1 then { x with trg := { x.trg with softs := x.trg.softs ++ [(x.now, w.toNat.testBit 0)] } } else x
  let s := if w.toNat.testBit 0 then s.trgArmAt s.now else s
  let s : State := if w.toNat.testBit 2 then { s with trg := { s.trg with log := s.trg.log.tail } } else s
  if w.toNat.testBit 3 then { s with trg := { s.trg with seqReset := some s.now } } else s

/-- What a write of TRG_CMD that is admitted does. -/
theorem trgRules_act_cmd (src : Source) {w : Word} {x : State}
    (hen : (w.toNat.testBit 0 || w.toNat.testBit 1) = true → x.appFlag TRG_CTRL.EN = true)
    (hlog : w.toNat.testBit 2 = true → x.trg.log ≠ []) : trgRules.act src TRG_CMD.addr w x = .ok (x.trgCmd w) := by
  have h1 : ((w.toNat.testBit 0 || w.toNat.testBit 1) && ! x.appFlag TRG_CTRL.EN) = false := by
    cases h : (w.toNat.testBit 0 || w.toNat.testBit 1)
    · rfl
    · rw [hen h]; rfl
  have h2 : (w.toNat.testBit 2 && x.trg.log.isEmpty) = false := by
    cases h : w.toNat.testBit 2
    · rfl
    · rw [List.isEmpty_eq_false_iff.mpr (hlog h)]; rfl
  simp only [trgRules, beq_self_eq_true, if_true, h1, h2, Bool.false_eq_true, if_false]
  rfl

/-- TRG armed, and its levels. -/
theorem State.trgArmAt_fields (s : State) (t : Stamp) : (s.trgArmAt t).flag TRG_STAT.ARMED = true ∧ (s.trgArmAt t).trg.armFrom = t := by
  have hr (x : State) : x.trigLevels.flag TRG_STAT.ARMED = x.flag TRG_STAT.ARMED ∧ x.trigLevels.trg.armFrom = x.trg.armFrom := ⟨rfl, rfl⟩
  rw [State.trgArmAt, (hr _).1, (hr _).2, State.put_trg]
  exact ⟨State.flag_put_one _ _ (by decide) rfl, rfl⟩

theorem State.trgCmd_arm (x : State) {w : Word} (h0 : w.toNat.testBit 0 = true) (h2 : w.toNat.testBit 2 = false) :
    (x.trgCmd w).flag TRG_STAT.ARMED = true ∧ (x.trgCmd w).trg.armFrom = x.now := by
  have key (y : State) (b : Bool) : (if b then { y with trg := { y.trg with seqReset := some y.now } } else y : State).flag TRG_STAT.ARMED
      = y.flag TRG_STAT.ARMED ∧ (if b then { y with trg := { y.trg with seqReset := some y.now } } else y : State).trg.armFrom = y.trg.armFrom := by
    cases b <;> exact ⟨rfl, rfl⟩
  have he : ∃ y : State, y.now = x.now ∧ x.trgCmd w = (if w.toNat.testBit 3
      then { y.trgArmAt y.now with trg := { (y.trgArmAt y.now).trg with seqReset := some (y.trgArmAt y.now).now } } else y.trgArmAt y.now : State) := by
    unfold State.trgCmd
    simp only [h0, h2, if_true, Bool.false_eq_true, if_false]
    refine ⟨_, ?_, rfl⟩
    split <;> rfl
  obtain ⟨y, hy, he⟩ := he
  obtain ⟨harm, hfrom⟩ := y.trgArmAt_fields y.now
  rw [he, (key _ _).1, (key _ _).2, harm, hfrom, hy]
  exact ⟨rfl, rfl⟩

theorem State.trgCmd_force (x : State) {w : Word} (h0 : w.toNat.testBit 0 = false) (h1 : w.toNat.testBit 1 = true) (h2 : w.toNat.testBit 2 = false) :
    (x.trgCmd w).trg.softs = x.trg.softs ++ [(x.now, false)] := by
  unfold State.trgCmd
  simp only [h0, h1, h2, if_true, Bool.false_eq_true, if_false]
  split <;> rfl

theorem State.trgCmd_pop (x : State) {w : Word} (h0 : w.toNat.testBit 0 = false) (h1 : w.toNat.testBit 1 = false) (h2 : w.toNat.testBit 2 = true) :
    (x.trgCmd w).trg.log = x.trg.log.tail := by
  unfold State.trgCmd
  simp only [h0, h1, h2, if_true, Bool.false_eq_true, if_false]
  split <;> rfl

theorem State.trgCmd_reset (x : State) {w : Word} (h0 : w.toNat.testBit 0 = false) (h1 : w.toNat.testBit 1 = false) (h2 : w.toNat.testBit 2 = false)
    (h3 : w.toNat.testBit 3 = true) : (x.trgCmd w).trg.seqReset = some x.now := by
  unfold State.trgCmd
  simp only [h0, h1, h2, h3, if_true, Bool.false_eq_true, if_false]

theorem State.now_landed (s : State) (a : Nat) (w : Word) : (s.landed a w).now = s.now := by
  rw [State.now, State.now, State.landed, State.setWord_alm]

theorem testBit_low_of_mod {n m k : Nat} (h : n % 8 = m) (hk : k < 3) : n.testBit k = m.testBit k := by
  rw [← h]
  change _ = (n % 2 ^ 3).testBit k
  rw [Nat.testBit_mod_two_pow]
  simp [hk]

/-- A source's event that finds room is filed. -/
theorem State.fileEvent_of_room {s : State} {src : Nat} (hl : s.live dTRG = true) (hen : s.appFlag TRG_CTRL.EN = true)
    (hsrc : (s.app TRG_EN.EN).testBit src = true) (hroom : (s.trg.events.filter (fun e => e.src == src)).length < 1024) (t : Stamp)
    (fine : Option Stamp) (node : Nat) :
    ∃ e : TrgEvent, (s.fileEvent src t fine node).trg.events = s.trg.events ++ [e] ∧ e.src = src ∧ e.node = node ∧ e.instant = t := by
  have hgo : (s.live dTRG && s.appFlag TRG_CTRL.EN && (s.app TRG_EN.EN).testBit src) = true := by rw [hl, hen, hsrc]; rfl
  have hfull : ¬ 1024 ≤ ((s.bump (TRG_SRC_CNT.EVENTS src)).trg.events.filter (fun e => e.src == src)).length := by
    rw [State.bump_trg]; omega
  have hfiled (x : State) (late : Bool) (e : TrgEvent) : (let x := if late then x.put TRG_STAT.LATE 1 else x
      ({ x with trg := { x.trg with events := x.trg.events ++ [e] } } : State)).trg.events = x.trg.events ++ [e] := by
    cases late
    · rfl
    · exact congrArg (fun z : TrgSt => z.events ++ [e]) (State.put_trg _ _ _)
  have he : s.fileEvent src t fine node = (let late := decide (t.toNat < (s.bump (TRG_SRC_CNT.EVENTS src)).trg.closedTo.toNat)
      let x := if late then (s.bump (TRG_SRC_CNT.EVENTS src)).put TRG_STAT.LATE 1 else s.bump (TRG_SRC_CNT.EVENTS src)
      { x with trg := { x.trg with events := x.trg.events ++ [⟨src, t, late, node, fine⟩] } }) := by
    unfold State.fileEvent
    rw [if_pos hgo]
    exact if_neg hfull
  refine ⟨⟨src, t, decide (t.toNat < (s.bump (TRG_SRC_CNT.EVENTS src)).trg.closedTo.toNat), node, fine⟩, ?_, rfl, rfl, rfl⟩
  rw [he]
  refine (hfiled _ _ _).trans ?_
  rw [State.bump_trg]

/-- Settles O22: a slot by its stages, the strobes by one account of TRG_CMD, the outputs by their pins. -/
theorem triggerCommandsComplete : Obligations.TriggerCommandsComplete := by
  refine ⟨fun s st nx de real hl hen hst hnx hfresh hseq hsoft harmed => ?_, fun s hl hen hmode harmed => ?_, fun s src v ha hen hpop => ?_,
    fun s src v ha hen harm hpop => ?_, fun s src v ha harm hforce hlog => ?_, fun s src v ha hmod => ?_, fun s k t0 hl hp h0 h3 => ?_,
    fun s k hl he h0 h3 => ?_, fun s p i t0 n c h hv hne hrx hl hen hsrc hroom => ?_⟩
  · have hdis : (s.slotTaken nx de real).flag TRG_STAT.ARMED = false := (State.flag_put_clear _ _ _ _ rfl).trans harmed
    obtain ⟨at_, hold, mask, hj⟩ := State.slotJudged_disarmed hdis (s.trgView de) (s.trg.events.filter (fun e => decide (e.instant.toNat < nx.toNat)))
      st de real
    obtain ⟨h1, h2, h3⟩ := s.slotTaken_fields nx de real
    obtain ⟨k1, k2, k3⟩ := (s.slotTaken nx de real).slotPulses_keeps (s.trgView de)
      (s.trg.events.filter (fun e => decide (e.instant.toNat < nx.toNat))) at_
    have hlast (x : State) (b : Bool) : (if b then (x.putB TRG_STAT.HOLDOFF hold).bump TRG_CNT_SUPP.DISARMED else x.putB TRG_STAT.HOLDOFF hold).trg
        = x.trg ∧ (if b then (x.putB TRG_STAT.HOLDOFF hold).bump TRG_CNT_SUPP.DISARMED else x.putB TRG_STAT.HOLDOFF hold).get TRG_STAT.NOREF
        = x.get TRG_STAT.NOREF := by
      split
      · rw [State.bump_trg, State.putB, State.put_trg, State.get_bump_clear _ _ _ rfl, State.get_put_clear _ _ _ _ rfl]
        exact ⟨rfl, rfl⟩
      · rw [State.putB, State.put_trg, State.get_put_clear _ _ _ _ rfl]
        exact ⟨rfl, rfl⟩
    refine ⟨_, (execSlotDecide_disarmed real hl hen hst hnx hfresh hseq hsoft).trans (congrArg _ hj), ?_, ?_, ?_⟩
    · dsimp only
      rw [(State.trigLevels_keeps _).1, (hlast _ _).1, k1, h1]
    · dsimp only
      rw [State.flag, State.get_of_regs (State.trigLevels_keeps _).2, (hlast _ _).2, k3, h3]
      cases real <;> rfl
    · dsimp only
      rw [(State.trigLevels_keeps _).1, (hlast _ _).1, k2, h2]
  · have hgo : (s.live dTRG && s.appFlag TRG_CTRL.EN && s.app TRG_CTRL.MODE == 1 && s.flag TRG_STAT.ARMED) = true := by
      rw [hl, hen, hmode, harmed]; rfl
    exact ⟨_, congrArg Host.Outcome.next (if_pos hgo), rfl⟩
  · obtain ⟨harm, hfrom⟩ := (s.landed TRG_CMD.addr (v ||| 1)).trgCmd_arm (testBit_or_right v _ (by decide)) hpop
    refine Completes.of_write rfl ha (by decide) (by decide) (trgRules_act_cmd src (fun _ => hen) (fun h => by rw [hpop] at h; cases h))
      ⟨rfl, (State.answer_flag _ _ _ _).trans harm, ?_⟩
    rw [State.answer_trg, hfrom, State.now_landed]
  · have hforce := (s.landed TRG_CMD.addr (v ||| 2)).trgCmd_force harm (testBit_or_right v _ (by decide)) hpop
    refine Completes.of_write rfl ha (by decide) (by decide) (trgRules_act_cmd src (fun _ => hen) (fun h => by rw [hpop] at h; cases h)) ⟨rfl, ?_⟩
    rw [State.answer_trg, hforce, State.now_landed, State.landed, State.setWord_trg]
  · have hpop := (s.landed TRG_CMD.addr (v ||| 4)).trgCmd_pop harm hforce (testBit_or_right v _ (by decide))
    have htrg : (s.landed TRG_CMD.addr (v ||| 4)).trg = s.trg := State.setWord_trg _ _ _
    refine Completes.of_write rfl ha (by decide) (by decide)
      (trgRules_act_cmd src (fun h => by rw [harm, hforce] at h; cases h) (fun _ => by rw [htrg]; exact hlog)) ⟨rfl, ?_⟩
    rw [State.answer_trg, hpop, htrg]
  · have hb (k : Nat) (hk : k < 3) : (v ||| 8).toNat.testBit k = false := (testBit_low_of_mod hmod hk).trans (Nat.zero_testBit k)
    have hreset := (s.landed TRG_CMD.addr (v ||| 8)).trgCmd_reset (hb 0 (by decide)) (hb 1 (by decide)) (hb 2 (by decide))
      (testBit_or_right v _ (by decide))
    refine Completes.of_write rfl ha (by decide) (by decide) (trgRules_act_cmd src (fun h => by rw [hb 0 (by decide), hb 1 (by decide)] at h; cases h)
      (fun h => by rw [hb 2 (by decide)] at h; cases h)) ⟨rfl, ?_⟩
    rw [State.answer_trg, hreset, State.now_landed]
  · have hgo : (s.live dTRG && (vget s.trg.pulses k).contains t0) = true := by rw [hl, hp]; rfl
    have hend (x : State) : (vget (x.pulseStart k t0).trg.outEnd k).isSome = true := by
      change (vget (vset _ k (some _)) k).isSome = true
      rw [vget_vset_same]; rfl
    have hpin (x : State) (h0 : x.app (TRG_OUT_CTRL.SEL k) ≠ 0) (h3 : x.app (TRG_OUT_CTRL.SEL k) ≠ 3) :
        (x.pulseStart k t0).pins.trigOut.getLsbD k = ! x.appFlag (TRG_OUT_CTRL.POL k) := by
      obtain ⟨e, he⟩ : ∃ e, x.pulseStart k t0 = ({ x with trg := { x.trg with outEnd := vset x.trg.outEnd k (some e) } } : State).trigLevels :=
        ⟨_, rfl⟩
      rw [he]
      refine (State.trigLevels_pin (s := { x with trg := { x.trg with outEnd := vset x.trg.outEnd k (some e) } }) h0 h3).trans ?_
      dsimp only
      rw [vget_vset_same]
      exact Bool.true_bne _
    refine ⟨_, congrArg Host.Outcome.next (if_pos hgo), ?_, hend _, hpin _ h0 h3⟩
    exact vget_vset_same _ _ _
  · have hgo : (s.live dTRG && (vget s.trg.outEnd k).isSome) = true := by rw [hl, he]; rfl
    refine ⟨_, congrArg Host.Outcome.next (if_pos hgo), vget_vset_same _ _ _, ?_⟩
    refine (State.trigLevels_pin (s := { s with trg := { s.trg with outEnd := vset s.trg.outEnd k none } }) h0 h3).trans ?_
    dsimp only
    rw [vget_vset_same]
    exact Bool.false_bne _
  · have hgo : (! s.cstValid || n.toNat == s.get CST_NODE.ID) = false := by rw [hv, beq_eq_false_iff_ne.mpr hne]; rfl
    have hk := Kept.floodOn (.refl _ s) (Foot.le_refl _) p i.toNat t0 n.toNat c.toNat h
    have hlive : (s.floodOn p i.toNat t0 n.toNat c.toNat h).live dTRG = true := by
      rw [State.live, State.alive_of_dev (hk.get_of rfl), State.domOn, State.dom, hk.get_of rfl]; exact hl
    have hrx' : ((s.floodOn p i.toNat t0 n.toNat c.toNat h).app TRG_REM_CTRL.RX_MASK).testBit i.toNat = true := by rw [hk.app_of rfl]; exact hrx
    obtain ⟨e, h1, h2, h3, h4⟩ := State.fileEvent_of_room hlive (by rw [State.appFlag, hk.app_of rfl]; exact hen)
      (by rw [hk.app_of rfl]; exact hsrc) (by rw [hk.part_of .trg rfl]; exact hroom)
      (t0 + BitVec.ofNat 80 (fclkStamp ((s.floodOn p i.toNat t0 n.toNat c.toNat h).app TRG_REM_DELAY.DELAY)))
      (some (t0 + BitVec.ofNat 80 (fclkStamp ((s.floodOn p i.toNat t0 n.toNat c.toNat h).app TRG_REM_DELAY.DELAY)))) n.toNat
    refine ⟨_, by simp only [exec, execRemoteTriggerRx, hgo, hrx', Bool.false_eq_true, if_false, if_true]; rfl, e, ?_, h2, h3, ?_⟩
    · rw [h1, hk.part_of .trg rfl]
    · rw [h4, hk.app_of rfl]

end Sys2Proof.Machine
end

section
/-! PROOFS. Acquisition: capture units, the Ledger, circular units and stream blocks (R257 to R280, R429). -/

namespace Sys2Proof.Machine

/-! ### Units and their registers -/

theorem State.acqUnit_setUnit (s : State) (u : Fin 4) (x : AcqUnit) : (s.setUnit u x).acqUnit u = x := vget_vset_same _ _ _

theorem State.acqUnit_of_acq {s t : State} (h : t.acq = s.acq) (u : Fin 4) : t.acqUnit u = s.acqUnit u := by
  rw [State.acqUnit, State.acqUnit, h]

theorem State.acqUnit_put (s : State) (f : Fld) (v : Nat) (u : Fin 4) : (s.put f v).acqUnit u = s.acqUnit u :=
  State.acqUnit_of_acq (State.put_acq s f v) u

theorem State.get_putPair_ne (s : State) (a v : Nat) (f : Fld) (h : f.addr ≠ a) (h4 : f.addr ≠ a + 4) : (s.putPair a v).get f = s.get f := by
  rw [State.putPair, State.get_setWord_ne _ _ _ _ h4, State.get_setWord_ne _ _ _ _ h]

/-- The command and read-release registers of the units are ordinary ones, each at its own address. -/
theorem ACQ_U.normal_addr : ∀ u : Fin 4, (normalAddr (ACQ_U_CMD.addr u) = ACQ_U_CMD.addr u ∧ viewOf (ACQ_U_CMD.addr u) = .normal)
    ∧ (normalAddr (ACQ_U_LRD.addr u) = ACQ_U_LRD.addr u ∧ viewOf (ACQ_U_LRD.addr u) = .normal) := by decide +kernel

theorem unitAt_cmd : ∀ u : Fin 4, unitAt ACQ_U_CMD.addr (ACQ_U_CMD.addr u) = some u := by decide +kernel

theorem unitAt_lrd : ∀ u : Fin 4, unitAt ACQ_U_CMD.addr (ACQ_U_LRD.addr u) = none ∧ unitAt ACQ_U_LRD.addr (ACQ_U_LRD.addr u) = some u := by
  decide +kernel

theorem ACQ_U_LRD.fields : ∀ u : Fin 4, fieldsAt (ACQ_U_LRD.addr u) = [⟨0, 32, .rwImm, 0, .any⟩] := by decide +kernel

theorem State.acqUnit_landed (s : State) (a : Nat) (w : Word) (u : Fin 4) : (s.landed a w).acqUnit u = s.acqUnit u :=
  State.acqUnit_of_acq (State.setWord_acq s a _) u

theorem State.acqState_landed (s : State) (u : Fin 4) (w : Word) : (s.landed (ACQ_U_CMD.addr u) w).acqState u = s.acqState u :=
  State.get_landed_ne s _ _ (ACQ_U_STAT.STATE u) (by show ACQ_U_STAT.addr u ≠ _; unfold ACQ_U_STAT.addr ACQ_U_CMD.addr; omega)

theorem State.acqBusy_landed (s : State) (u : Fin 4) (w : Word) : (s.landed (ACQ_U_CMD.addr u) w).acqBusy u = s.acqBusy u := by
  simp only [State.acqBusy, State.acqState_landed]

/-! ### The Ledger and what an entry leaves (R263 to R265) -/

/-- The state, the cause of the stop, and the release pointer of unit u stand as they were. -/
structure LedgerKept (u : Fin 4) (s t : State) : Prop where
  state : t.acqState u = s.acqState u
  cause : t.get (ACQ_U_STAT.STOP_CAUSE u) = s.get (ACQ_U_STAT.STOP_CAUSE u)
  lrd : t.lrd u = s.lrd u

theorem LedgerKept.of_regs {u : Fin 4} {s t : State} (h : t.regs = s.regs) : LedgerKept u s t :=
  ⟨State.get_of_regs h _, State.get_of_regs h _, State.get_of_regs h _⟩

theorem LedgerKept.of_setUnit {u : Fin 4} {s t : State} {x : AcqUnit} (h : LedgerKept u (s.setUnit u x) t) : LedgerKept u s t := ⟨h.1, h.2, h.3⟩

theorem LedgerKept.setUnit {u : Fin 4} {s t : State} {x : AcqUnit} (h : LedgerKept u s t) : LedgerKept u s (t.setUnit u x) := ⟨h.1, h.2, h.3⟩

theorem LedgerKept.trans {u : Fin 4} {s t r : State} (h : LedgerKept u s t) (k : LedgerKept u t r) : LedgerKept u s r :=
  ⟨k.state.trans h.state, k.cause.trans h.cause, k.lrd.trans h.lrd⟩

/-- A flag of ACQ_U_STAT between the state and the cause. -/
theorem LedgerKept.put_stat (u : Fin 4) (s : State) (lo v : Nat) (h3 : 3 ≤ lo) (h12 : lo < 12) :
    LedgerKept u s (s.put ⟨ACQ_U_STAT.addr u, lo, 1⟩ v) := by
  refine ⟨State.get_put_apart _ _ _ _ (by dsimp only; omega) ?_, State.get_put_apart _ _ _ _ (by dsimp only; omega) ?_,
    State.get_put_reg _ _ _ _ ?_⟩
  · exact .inr (.inr (by show 0 + 3 ≤ lo; omega))
  · exact .inr (.inl (by show lo + 1 ≤ 12; omega))
  · show ACQ_U_LRD.addr u ≠ ACQ_U_STAT.addr u
    unfold ACQ_U_LRD.addr ACQ_U_STAT.addr; omega

theorem LedgerKept.put_lwr (u : Fin 4) (s : State) (v : Nat) : LedgerKept u s (s.put (ACQ_U_LWR.LWR u) v) := by
  have h : ACQ_U_STAT.addr u ≠ ACQ_U_LWR.addr u := by unfold ACQ_U_STAT.addr ACQ_U_LWR.addr; omega
  refine ⟨State.get_put_reg _ _ _ _ h, State.get_put_reg _ _ _ _ h, State.get_put_reg _ _ _ _ ?_⟩
  show ACQ_U_LRD.addr u ≠ ACQ_U_LWR.addr u
  unfold ACQ_U_LRD.addr ACQ_U_LWR.addr; omega

theorem LedgerKept.raiseIrq (u : Fin 4) (s : State) (n : Nat) : LedgerKept u s (s.raiseIrq n) := by
  have k := Kept.raiseIrq (.refl _ s) (Foot.le_refl _) n
  have h := Foot.word_of_win (F := ⟨false, [0x15], [], []⟩) (ACQ_U_STAT.addr_win u) rfl
  exact ⟨k.get_of (g := ACQ_U_STAT.STATE u) h, k.get_of (g := ACQ_U_STAT.STOP_CAUSE u) h,
    k.get_of (g := ACQ_U_LRD.LRD u) (Foot.word_of_win (ACQ_U_LRD.addr_win u) rfl)⟩

/-- A flag of ACQ_U_STAT rises, with its interrupt. -/
theorem LedgerKept.riseIrq (u : Fin 4) (s : State) (lo n : Nat) (h3 : 3 ≤ lo) (h12 : lo < 12) :
    LedgerKept u s (s.riseIrq ⟨ACQ_U_STAT.addr u, lo, 1⟩ n) := by
  unfold State.riseIrq
  split
  · exact .of_regs rfl
  · exact (LedgerKept.put_stat u s lo 1 h3 h12).trans (.raiseIrq u _ n)

theorem State.acq_raiseIrq (s : State) (n : Nat) : (s.raiseIrq n).acq = s.acq :=
  (Kept.raiseIrq (.refl _ s) (Foot.le_refl _) n).part_of .acq rfl

theorem State.acq_riseIrq (s : State) (f : Fld) (n : Nat) : (s.riseIrq f n).acq = s.acq := by
  unfold State.riseIrq
  split
  · rfl
  · rw [State.acq_raiseIrq, State.put_acq]

theorem State.acq_setGddrBytes (l : List Byte) (s : State) (a : Nat) : (s.setGddrBytes a l).acq = s.acq :=
  (Kept.setGddrBytes (f := ⟨false, [], [], [.gddr]⟩) l (.refl _ s) rfl a).part_of .acq rfl

theorem State.regs_setGddrBytes (l : List Byte) (s : State) (a : Nat) : (s.setGddrBytes a l).regs = s.regs := by
  induction l generalizing s a with
  | nil => rfl
  | cons b l ih => exact (ih _ _).trans rfl

/-- A Ledger write before its flag: the bytes and LWR. -/
def State.ledgerBody (s : State) (u : Fin 4) (bytes : List Byte) : State :=
  (s.setGddrBytes ((s.acqUnit u).geom.lbase * 4096 + s.lwr u % (s.acqUnit u).geom.entries * 32) bytes).put (ACQ_U_LWR.LWR u)
    ((s.lwr u + 1) % 2 ^ 32)

theorem State.ledgerBody_fields (s : State) (u : Fin 4) (bytes : List Byte) : LedgerKept u s (s.ledgerBody u bytes)
    ∧ (s.ledgerBody u bytes).acq = s.acq ∧ (s.ledgerBody u bytes).lwr u = (s.lwr u + 1) % 2 ^ 32 := by
  refine ⟨(LedgerKept.of_regs (State.regs_setGddrBytes bytes s _)).trans (.put_lwr u _ _), ?_, ?_⟩
  · rw [State.ledgerBody, State.put_acq, State.acq_setGddrBytes]
  · refine (State.get_put_same _ _ _ (by show 0 + 32 ≤ 32; decide)).trans ?_
    exact Nat.mod_mod _ _

theorem State.ledgerWrite_eq (s : State) (u : Fin 4) (bytes : List Byte) (flag : Option Fld) :
    s.ledgerWrite u bytes flag = flag.elim (s.ledgerBody u bytes) ((s.ledgerBody u bytes).riseIrq · (80 + u)) := by
  have h (a : Nat) : (s.setGddrBytes a bytes).lwr u = s.lwr u := State.get_of_regs (State.regs_setGddrBytes bytes s a) _
  unfold State.ledgerWrite State.ledgerBody
  dsimp only
  rw [h]
  cases flag <;> rfl

theorem LedgerKept.ledgerWrite_none (u : Fin 4) (s : State) (bytes : List Byte) : LedgerKept u s (s.ledgerWrite u bytes none) := by
  rw [State.ledgerWrite_eq]; exact (s.ledgerBody_fields u bytes).1

theorem LedgerKept.ledgerWrite_some (u : Fin 4) (s : State) (bytes : List Byte) {lo : Nat} (h3 : 3 ≤ lo) (h12 : lo < 12) :
    LedgerKept u s (s.ledgerWrite u bytes (some ⟨ACQ_U_STAT.addr u, lo, 1⟩)) := by
  rw [State.ledgerWrite_eq]; exact (s.ledgerBody_fields u bytes).1.trans (.riseIrq u _ lo _ h3 h12)

/-- The entry of a note, which reports a gap. -/
theorem LedgerKept.ledgerWrite_note (u : Fin 4) (s : State) (bytes : List Byte) (stop : Bool) :
    LedgerKept u s (s.ledgerWrite u bytes (if stop then none else some (ACQ_U_STAT.GAP u))) := by
  cases stop
  · exact .ledgerWrite_some u _ _ (lo := 5) (by decide) (by decide)
  · exact .ledgerWrite_none u _ _

/-- An entry of a segment: the unit, LWR and the flag SEG. -/
theorem State.ledgerWrite_seg (s : State) (u : Fin 4) (bytes : List Byte) :
    (s.ledgerWrite u bytes (some (ACQ_U_STAT.SEG u))).acq = s.acq
      ∧ (s.ledgerWrite u bytes (some (ACQ_U_STAT.SEG u))).lwr u = (s.lwr u + 1) % 2 ^ 32
      ∧ (s.ledgerWrite u bytes (some (ACQ_U_STAT.SEG u))).flag (ACQ_U_STAT.SEG u) = true := by
  obtain ⟨-, hacq, hlwr⟩ := s.ledgerBody_fields u bytes
  rw [State.ledgerWrite_eq]
  generalize s.ledgerBody u bytes = x at hacq hlwr
  dsimp only [Option.elim]
  refine ⟨(State.acq_riseIrq x _ _).trans hacq, ?_, ?_⟩
  · rw [← hlwr]
    unfold State.riseIrq
    split
    · rfl
    · have k := Kept.raiseIrq (.refl _ (x.put (ACQ_U_STAT.SEG u) 1)) (Foot.le_refl _) (80 + u)
      refine (k.get_of (g := ACQ_U_LWR.LWR u) (Foot.word_of_win (ACQ_U_LWR.addr_win u) rfl)).trans (State.get_put_reg _ _ _ _ ?_)
      show ACQ_U_LWR.addr u ≠ ACQ_U_STAT.addr u
      unfold ACQ_U_LWR.addr ACQ_U_STAT.addr; omega
  · unfold State.riseIrq
    split
    next h => exact h
    · have k := Kept.raiseIrq (.refl _ (x.put (ACQ_U_STAT.SEG u) 1)) (Foot.le_refl _) (80 + u)
      refine (State.flag_eq_get (k.get_of (g := ACQ_U_STAT.SEG u) (Foot.word_of_win (ACQ_U_STAT.addr_win u) rfl))).trans ?_
      exact State.flag_put_one _ _ (by show 4 + 1 ≤ 32; decide) rfl

/-- Notes that are written, held, or wait leave the state and the cause of the stop. -/
theorem LedgerKept.flushOne (u : Fin 4) (s : State) : LedgerKept u s (s.flushOne u) := by
  unfold State.flushOne
  dsimp only
  split
  · exact .of_regs rfl
  · split
    · exact .of_regs rfl
    · split
      · exact .of_setUnit (.put_stat u _ 8 1 (by decide) (by decide))
      · exact .of_setUnit (.ledgerWrite_note u _ _ _)

theorem LedgerKept.flushNotes (u : Fin 4) (s : State) : LedgerKept u s (s.flushNotes u) :=
  List.foldl_inv (P := fun t => LedgerKept u s t) (fun t _ h => h.trans (.flushOne u t)) _ (.of_regs rfl)

theorem LedgerKept.addNote (u : Fin 4) (s : State) (n : AcqNote) : LedgerKept u s (s.addNote u n) := by
  unfold State.addNote
  dsimp only
  split
  · split <;> exact .of_regs rfl
  · exact .of_setUnit (.flushNotes u _)

theorem LedgerKept.closeBlock (u : Fin 4) (s : State) (final : Bool) : LedgerKept u s (s.closeBlock u final) := .of_regs rfl

theorem State.flushNotes_nil {s : State} {u : Fin 4} (h : (s.acqUnit u).notes = []) : s.flushNotes u = s := by
  rw [State.flushNotes, h]; rfl

/-! ### Arming, stopping, releasing (R264, R266) -/

/-- A stopped unit shows STOPPED and the cause. -/
theorem State.acqStop_fields (s : State) (u : Fin 4) {c : Nat} (aux : Nat) (hc : c < 16) :
    (s.acqStop u c aux).acqState u = uSTOPPED ∧ (s.acqStop u c aux).get (ACQ_U_STAT.STOP_CAUSE u) = c := by
  have hset : ((s.put (ACQ_U_STAT.STATE u) uSTOPPED).put (ACQ_U_STAT.STOP_CAUSE u) c).acqState u = uSTOPPED
      ∧ ((s.put (ACQ_U_STAT.STATE u) uSTOPPED).put (ACQ_U_STAT.STOP_CAUSE u) c).get (ACQ_U_STAT.STOP_CAUSE u) = c := by
    refine ⟨(State.get_put_apart _ _ _ _ (by show 12 + 4 ≤ 32; decide) (.inr (.inr (by show 0 + 3 ≤ 12; decide)))).trans ?_, ?_⟩
    · exact State.get_put_same _ _ _ (by show 0 + 3 ≤ 32; decide)
    · exact (State.get_put_same _ _ _ (by show 12 + 4 ≤ 32; decide)).trans (Nat.mod_eq_of_lt hc)
  suffices h : LedgerKept u ((s.put (ACQ_U_STAT.STATE u) uSTOPPED).put (ACQ_U_STAT.STOP_CAUSE u) c) (s.acqStop u c aux) from
    ⟨h.state.trans hset.1, h.cause.trans hset.2⟩
  have hblock (x : State) (b : Bool) : LedgerKept u x (if b then x.closeBlock u true else x) := by
    split
    · exact .closeBlock u x true
    · exact .of_regs rfl
  have hgap (x : State) (o : Option (Nat × Stamp)) : LedgerKept u x (match o with
      | some (c, before) => x.addNote u ⟨before, false, c, none, false, 0⟩
      | none => x) := by
    split
    · exact .addNote u x _
    · exact .of_regs rfl
  have hnote (x : State) (b : Bool) : LedgerKept u x (if b then x else x.addNote u ⟨x.now, true, c, none, false, aux⟩) := by
    split
    · exact .of_regs rfl
    · exact .addNote u x _
  unfold State.acqStop
  dsimp only
  exact (LedgerKept.raiseIrq u _ _).setUnit.trans ((hblock _ _).trans ((hgap _ _).trans (hnote _ _)))

/-- Unit u shows ARMED, and no geometry pending. -/
def State.shownArmed (u : Fin 4) (t : State) : Prop := t.acqState u = uARMED ∧ t.flag (ACQ_U_STAT.PENDING u) = false

theorem State.shownArmed.put {u : Fin 4} {t : State} (h : t.shownArmed u) {f : Fld} (v : Nat) (hf : ACQ_U_STAT.addr u ≠ f.addr) :
    (t.put f v).shownArmed u :=
  ⟨(State.get_put_reg _ _ _ _ hf).trans h.1, (State.flag_eq_get (State.get_put_reg _ _ _ _ hf)).trans h.2⟩

theorem State.shownArmed.putPair {u : Fin 4} {t : State} (h : t.shownArmed u) {a : Nat} (v : Nat) (hf : ACQ_U_STAT.addr u ≠ a)
    (hf4 : ACQ_U_STAT.addr u ≠ a + 4) : (t.putPair a v).shownArmed u :=
  ⟨(State.get_putPair_ne _ _ _ _ hf hf4).trans h.1, (State.flag_eq_get (State.get_putPair_ne _ _ _ _ hf hf4)).trans h.2⟩

theorem State.shownArmed.setUnit {u : Fin 4} {t : State} (h : t.shownArmed u) {x : AcqUnit} : (t.setUnit u x).shownArmed u := h

theorem State.acqUnit_putPair (s : State) (a v : Nat) (u : Fin 4) : (s.putPair a v).acqUnit u = s.acqUnit u := rfl

theorem ACQ_U_STAT.addr_ne_pointers : ∀ u : Fin 4, (∀ a ∈ [ACQ_U_WPTR_LO.addr u, ACQ_U_RPTR_LO.addr u, ACQ_U_APTR_LO.addr u],
    ACQ_U_STAT.addr u ≠ a ∧ ACQ_U_STAT.addr u ≠ a + 4) ∧ ∀ a ∈ [ACQ_U_SEGNO.addr u, ACQ_U_LWR.addr u, ACQ_U_LRD.addr u], ACQ_U_STAT.addr u ≠ a := by
  decide +kernel

/-- An armed unit shows ARMED, has no pending geometry, and works with the applied one. -/
theorem State.acqArm_fields (s : State) (u : Fin 4) : (s.acqArm u).acqState u = uARMED ∧ (s.acqArm u).flag (ACQ_U_STAT.PENDING u) = false
    ∧ ((s.acqArm u).acqUnit u).geom = geomV s.app u := by
  have hset : ((s.put (ACQ_U_STAT.PENDING u) 0).put (ACQ_U_STAT.STATE u) uARMED).shownArmed u := by
    refine ⟨State.get_put_same _ _ _ (by show 0 + 3 ≤ 32; decide), (State.flag_eq_get (State.get_put_apart _ _ _ _ (by show 0 + 3 ≤ 32; decide)
      (.inr (.inl (by show 0 + 3 ≤ 16; decide))))).trans ?_⟩
    exact State.flag_put_zero _ _ (by show 16 + 1 ≤ 32; decide)
  obtain ⟨hpair, hput⟩ := ACQ_U_STAT.addr_ne_pointers u
  simp only [List.forall_mem_cons] at hpair hput
  obtain ⟨⟨hw, hw4⟩, ⟨hr, hr4⟩, ⟨ha, ha4⟩, -⟩ := hpair
  obtain ⟨hseg, hlwr, hlrd, -⟩ := hput
  suffices h : (s.acqArm u).shownArmed u ∧ ((s.acqArm u).acqUnit u).geom = geomV s.app u from ⟨h.1.1, h.1.2, h.2⟩
  unfold State.acqArm
  dsimp only
  generalize ((s.put (ACQ_U_STAT.PENDING u) 0).put (ACQ_U_STAT.STATE u) uARMED) = x at hset
  split
  · have hlim (y : State) (b : Prop) [Decidable b] (v : Nat) (hy : y.shownArmed u) : (if b then y.putPair (ACQ_U_RPTR_LO.addr u) v else y).shownArmed u
        ∧ (if b then y.putPair (ACQ_U_RPTR_LO.addr u) v else y).acqUnit u = y.acqUnit u := by
      split
      · exact ⟨hy.putPair _ hr hr4, rfl⟩
      · exact ⟨hy, rfl⟩
    split
    · refine ⟨(((hset.setUnit.putPair 0 hw hw4).putPair 0 hr hr4).putPair 0 ha ha4).put 0 hseg, ?_⟩
      rw [State.acqUnit_put, State.acqUnit_putPair, State.acqUnit_putPair, State.acqUnit_putPair, State.acqUnit_setUnit]
    · obtain ⟨hshown, hunit⟩ := hlim _ ((geomV s.app u).samples < x.wptr u - x.rptr u) (State.wptr _ u - (geomV s.app u).samples) hset.setUnit
      refine ⟨hshown.putPair _ ha ha4, ?_⟩
      rw [State.acqUnit_putPair, hunit, State.acqUnit_setUnit]
  · refine ⟨((hset.setUnit.put 0 hseg).put 0 hlwr).put 0 hlrd, ?_⟩
    rw [State.acqUnit_put, State.acqUnit_put, State.acqUnit_put, State.acqUnit_setUnit]

/-- A release of the Ledger leaves the release pointer as written. -/
theorem State.lrd_lrdRelease (s : State) (u : Fin 4) : (s.lrdRelease u).lrd u = s.lrd u := by
  refine LedgerKept.lrd ?_
  unfold State.lrdRelease
  dsimp only
  split
  · split
    · exact .of_setUnit ((LedgerKept.put_stat u _ 8 0 (by decide) (by decide)).trans
        ((LedgerKept.ledgerWrite_some u _ _ (lo := 5) (by decide) (by decide)).trans (.flushNotes u _)))
    · exact .of_regs rfl
  · exact .of_regs rfl

/-! ### The writes (R266, R267) -/

theorem acqRules_act_cmd {u : Fin 4} {w : Word} {m : Nat} (src : Source) (s : State) (h : w.toNat % 8 = m) :
    acqRulesLrd.act src (ACQ_U_CMD.addr u) w s =
      if b2n (m.testBit 0) + b2n (m.testBit 1) + b2n (m.testBit 2) ≥ 2 then .error .conflict
      else if m.testBit 0 then if s.app (ACQ_U_CFG.MODE u) == 0 then .error .sequence else .ok (s.acqArm u)
      else if (m.testBit 1 || m.testBit 2) && ! s.acqBusy u then .error .sequence
      else if m.testBit 1 then .ok (s.acqStopCmd u)
      else if m.testBit 2 then .ok (s.acqAbort u)
      else .ok s := by
  simp only [acqRulesLrd, acqRules, unitAt_cmd, testBit_low_of_mod h (k := 0) (by decide), testBit_low_of_mod h (k := 1) (by decide),
    testBit_low_of_mod h (k := 2) (by decide)]

theorem acqRules_act_arm {u : Fin 4} {w : Word} (src : Source) {s : State} (h : w.toNat % 8 = 1) (hm : s.app (ACQ_U_CFG.MODE u) ≠ 0) :
    acqRulesLrd.act src (ACQ_U_CMD.addr u) w s = .ok (s.acqArm u) :=
  (acqRules_act_cmd src s h).trans ((if_neg (by decide)).trans ((if_pos rfl).trans (if_neg (by rw [beq_iff_eq]; exact hm))))

theorem acqRules_act_stop {u : Fin 4} {w : Word} (src : Source) {s : State} (h : w.toNat % 8 = 2) (hb : s.acqBusy u = true) :
    acqRulesLrd.act src (ACQ_U_CMD.addr u) w s = .ok (s.acqStopCmd u) :=
  (acqRules_act_cmd src s h).trans ((if_neg (by decide)).trans ((if_neg (by decide)).trans ((if_neg (by rw [hb]; decide)).trans (if_pos rfl))))

theorem acqRules_act_abort {u : Fin 4} {w : Word} (src : Source) {s : State} (h : w.toNat % 8 = 4) (hb : s.acqBusy u = true) :
    acqRulesLrd.act src (ACQ_U_CMD.addr u) w s = .ok (s.acqAbort u) :=
  (acqRules_act_cmd src s h).trans ((if_neg (by decide)).trans ((if_neg (by decide)).trans ((if_neg (by rw [hb]; decide)).trans
    ((if_neg (by decide)).trans (if_pos rfl)))))

/-- STOP lets a segmented unit end its fill, and stops any other at once. -/
theorem State.acqStopCmd_fields (s : State) (u : Fin 4) :
    if (s.acqUnit u).geom.mode = 1 ∧ (s.acqUnit u).inFill = true then (s.acqStopCmd u).acqState u = uSTOPPING
      else (s.acqStopCmd u).acqState u = uSTOPPED ∧ (s.acqStopCmd u).get (ACQ_U_STAT.STOP_CAUSE u) = 4 := by
  have hc : ((s.acqUnit u).geom.mode == 1 && (s.acqUnit u).inFill) = true ↔ (s.acqUnit u).geom.mode = 1 ∧ (s.acqUnit u).inFill = true := by
    rw [Bool.and_eq_true, beq_iff_eq]
  by_cases h : (s.acqUnit u).geom.mode = 1 ∧ (s.acqUnit u).inFill = true
  · have he : s.acqStopCmd u = (s.setUnit u { s.acqUnit u with stopWith := 4 }).put (ACQ_U_STAT.STATE u) uSTOPPING := if_pos (hc.mpr h)
    rw [if_pos h, he]
    exact State.get_put_same _ _ _ (by show 0 + 3 ≤ 32; decide)
  · have he : s.acqStopCmd u = s.acqStop u 4 0 := if_neg (fun k => h (hc.mp k))
    rw [if_neg h, he]
    exact s.acqStop_fields u 0 (by decide)

theorem acqRules_act_lrd (u : Fin 4) (src : Source) (w : Word) (s : State) :
    acqRulesLrd.act src (ACQ_U_LRD.addr u) w s = .ok (s.lrdRelease u) := by
  obtain ⟨hc, hl⟩ := unitAt_lrd u
  simp only [acqRulesLrd, acqRules, hc, hl]

/-! ### Units by themselves (R265, R280) -/

/-- A unit that is not STOPPING ends its fills without a stop. -/
theorem State.fillDone_cases {s : State} {u : Fin 4} (h : s.acqState u ≠ uSTOPPING) :
    s.fillDone u = s ∨ s.fillDone u = s.put (ACQ_U_STAT.STATE u) uARMED := by
  unfold State.fillDone
  dsimp only
  rw [beq_eq_false_iff_ne.mpr h]
  split
  · exact .inl rfl
  · split
    · exact .inr rfl
    · exact .inl rfl

theorem State.fillDone_keeps {s : State} {u : Fin 4} (h : s.acqState u ≠ uSTOPPING) : (s.fillDone u).acq = s.acq
    ∧ (s.fillDone u).lwr u = s.lwr u ∧ (s.fillDone u).flag (ACQ_U_STAT.SEG u) = s.flag (ACQ_U_STAT.SEG u) := by
  rcases State.fillDone_cases h with e | e <;> rw [e]
  · exact ⟨rfl, rfl, rfl⟩
  · refine ⟨State.put_acq _ _ _, State.get_put_reg _ _ _ _ ?_, State.flag_eq_get (State.get_put_apart _ _ _ _ (by show 0 + 3 ≤ 32; decide)
      (.inr (.inl (by show 0 + 3 ≤ 4; decide))))⟩
    show ACQ_U_LWR.addr u ≠ ACQ_U_STAT.addr u
    unfold ACQ_U_LWR.addr ACQ_U_STAT.addr; omega

/-- Unit u with the entry of its oldest segment written. -/
def State.segmentTaken (s : State) (u : Fin 4) (g : AcqSeg) (rest : List AcqSeg) : State :=
  let x := s.acqUnit u
  let tested := s.app (ACQ_U_CFG.TEST_MASK u) != 0
  let t := s.ledgerWrite u (segEntry u g tested g.written) (some (ACQ_U_STAT.SEG u))
  let t := if tested && g.fail then (t.put (ACQ_U_STAT.FAIL u) 1).bump (ACQ_U_CNT1.FAILS u) else t
  (t.setUnit u { (t.acqUnit u) with segs := rest, entryNo := (g.no, s.lwr u) :: x.entryNo.take (x.geom.asize) }).flushNotes u

theorem State.segmentTaken_fields {s : State} {u : Fin 4} (g : AcqSeg) (rest : List AcqSeg) (hn : (s.acqUnit u).notes = []) :
    (s.segmentTaken u g rest).acqState u = s.acqState u ∧ ((s.segmentTaken u g rest).acqUnit u).segs = rest
      ∧ (s.segmentTaken u g rest).lwr u = (s.lwr u + 1) % 2 ^ 32 ∧ (s.segmentTaken u g rest).flag (ACQ_U_STAT.SEG u) = true := by
  have hfail (x : State) (b : Bool) : (if b then (x.put (ACQ_U_STAT.FAIL u) 1).bump (ACQ_U_CNT1.FAILS u) else x).acqState u = x.acqState u
      ∧ (if b then (x.put (ACQ_U_STAT.FAIL u) 1).bump (ACQ_U_CNT1.FAILS u) else x).acq = x.acq
      ∧ (if b then (x.put (ACQ_U_STAT.FAIL u) 1).bump (ACQ_U_CNT1.FAILS u) else x).lwr u = x.lwr u
      ∧ (if b then (x.put (ACQ_U_STAT.FAIL u) 1).bump (ACQ_U_CNT1.FAILS u) else x).flag (ACQ_U_STAT.SEG u) = x.flag (ACQ_U_STAT.SEG u) := by
    have hs : ACQ_U_STAT.addr u ≠ ACQ_U_CNT1.addr u := by unfold ACQ_U_STAT.addr ACQ_U_CNT1.addr; omega
    have hw : ACQ_U_LWR.addr u ≠ ACQ_U_CNT1.addr u := by unfold ACQ_U_LWR.addr ACQ_U_CNT1.addr; omega
    have hl : ACQ_U_LWR.addr u ≠ ACQ_U_STAT.addr u := by unfold ACQ_U_LWR.addr ACQ_U_STAT.addr; omega
    have hb (y : State) (f : Fld) (hf : f.addr ≠ ACQ_U_CNT1.addr u) : (y.bump (ACQ_U_CNT1.FAILS u)).get f = y.get f :=
      State.get_bump_apart _ _ _ (by show 0 + 16 ≤ 32; decide) (.inl hf.symm)
    cases b
    · exact ⟨rfl, rfl, rfl, rfl⟩
    · simp only [if_true]
      refine ⟨(hb _ _ hs).trans (LedgerKept.put_stat u x 7 1 (by decide) (by decide)).state, by rw [State.bump_acq, State.put_acq],
        (hb _ _ hw).trans (State.get_put_reg _ _ _ _ hl), State.flag_eq_get ((hb _ (ACQ_U_STAT.SEG u) hs).trans ?_)⟩
      exact State.get_put_apart _ _ _ _ (by show 7 + 1 ≤ 32; decide) (.inr (.inr (by show 4 + 1 ≤ 7; decide)))
  obtain ⟨hacq, hlwr, hseg⟩ := s.ledgerWrite_seg u (segEntry u g (s.app (ACQ_U_CFG.TEST_MASK u) != 0) g.written)
  have hst := (LedgerKept.ledgerWrite_some u s (segEntry u g (s.app (ACQ_U_CFG.TEST_MASK u) != 0) g.written) (lo := 4) (by decide) (by decide)).state
  obtain ⟨k1, k2, k3, k4⟩ := hfail (s.ledgerWrite u (segEntry u g (s.app (ACQ_U_CFG.TEST_MASK u) != 0) g.written) (some (ACQ_U_STAT.SEG u)))
    (s.app (ACQ_U_CFG.TEST_MASK u) != 0 && g.fail)
  unfold State.segmentTaken
  dsimp only
  rw [State.flushNotes_nil (by rw [State.acqUnit_setUnit]; exact (congrArg AcqUnit.notes (State.acqUnit_of_acq (k2.trans hacq) u)).trans hn)]
  exact ⟨k1.trans hst, by rw [State.acqUnit_setUnit], k3.trans hlwr, k4.trans hseg⟩

/-- Settles O23: the units by what the Ledger's entries leave of their status. -/
theorem captureCommandsComplete : Obligations.CaptureCommandsComplete := by
  refine ⟨fun s u src v ha hm hmode => ?_, fun s u src v ha hm hbusy => ?_, fun s u src v ha hm hbusy => ?_, fun s u src v ha => ?_,
    fun s u g rest hl hsegs hready hnotes hheld hend hstop => ?_, fun s u hl hbusy hdis hgap => ?_, fun s u hl hdis => ?_,
    fun s u r i st pt c hl hcirc hfill hopen hc => ?_, fun s u hl hmode hrearm hst hcause => ?_, fun s u hl hbusy hmode hn => ?_⟩
  · obtain ⟨hn, hv⟩ := (ACQ_U.normal_addr u).1
    obtain ⟨h1, h2, h3⟩ := (s.landed (ACQ_U_CMD.addr u) (v ||| 1)).acqArm_fields u
    refine Completes.of_write rfl ha hn hv (acqRules_act_arm src hm (by rw [State.app_landed]; exact hmode)) ⟨rfl, (State.answer_get _ _ _ _).trans h1,
      (State.answer_flag _ _ _ _).trans h2, (congrArg AcqUnit.geom (State.acqUnit_of_acq (State.answer_acq _ _ _) u)).trans (h3.trans ?_)⟩
    exact congrArg (geomV · u) (funext (State.app_landed s _ _))
  · obtain ⟨hn, hv⟩ := (ACQ_U.normal_addr u).1
    refine Completes.of_write rfl ha hn hv (acqRules_act_stop src hm (by rw [State.acqBusy_landed]; exact hbusy)) ⟨rfl, ?_⟩
    have h := (s.landed (ACQ_U_CMD.addr u) (v ||| 2)).acqStopCmd_fields u
    rw [State.acqUnit_landed] at h
    exact h
  · obtain ⟨hn, hv⟩ := (ACQ_U.normal_addr u).1
    refine Completes.of_write rfl ha hn hv (acqRules_act_abort src hm (by rw [State.acqBusy_landed]; exact hbusy)) ⟨rfl, ?_⟩
    exact State.acqStop_fields _ u 0 (c := 5) (by decide)
  · obtain ⟨hn, hv⟩ := (ACQ_U.normal_addr u).2
    refine Completes.of_write rfl ha hn hv (acqRules_act_lrd u src _ _) ⟨rfl, ?_⟩
    refine (State.answer_get _ _ _ _).trans ((State.lrd_lrdRelease _ u).trans ?_)
    refine (State.get_landed_rw s _ v (f := ⟨0, 32, .rwImm, 0, .any⟩) (by rw [ACQ_U_LRD.fields]; exact List.mem_cons_self) rfl (.inr (by decide))).trans ?_
    rw [bitsOf, Nat.pow_zero, Nat.div_one]
    exact Nat.mod_eq_of_lt v.isLt
  · have hnone : (s.acqUnit u).firstNote = none := by rw [AcqUnit.firstNote, hnotes]; rfl
    have he : exec (.segmentEntry u) s = .next ((s.segmentTaken u g rest).fillDone u) := by
      simp only [exec, execSegmentEntry, hl, hsegs, hnone, hready, hheld, Bool.not_true, Bool.false_eq_true, if_false, Option.isSome_none, Bool.or_self,
        beq_eq_false_iff_ne.mpr hend, Bool.false_and]
      rfl
    obtain ⟨hst, hrest, hlwr, hseg⟩ := s.segmentTaken_fields g rest hnotes
    obtain ⟨k1, k2, k3⟩ := State.fillDone_keeps (s := s.segmentTaken u g rest) (u := u) (by rw [hst]; exact hstop)
    exact ⟨_, he, (congrArg AcqUnit.segs (State.acqUnit_of_acq k1 u)).trans hrest, k2.trans hlwr, k3.trans hseg⟩
  · have hgo : (s.live dACQ && s.acqBusy u && ! (s.acqUnit u).discarding && (s.acqUnit u).gap.isNone) = true := by
      rw [hl, hbusy, hdis, hgap]; rfl
    refine ⟨_, congrArg Host.Outcome.next (if_pos hgo), ?_, ?_⟩ <;> dsimp only <;> rw [State.acqUnit_setUnit]
  · have hgo : (s.live dACQ && (s.acqUnit u).discarding) = true := by rw [hl, hdis]; rfl
    refine ⟨_, congrArg Host.Outcome.next (if_pos hgo), ?_, rfl⟩
    dsimp only
    rw [State.acqUnit_setUnit]
  · have hgo : (s.live dACQ && s.acqState u == uFILLING && ! s.circOpen u) = true := by rw [hl, hfill, hopen]; rfl
    refine ⟨_, by simp only [exec, execCircularPostStop, hcirc, hgo, if_true]; rfl, ?_⟩
    exact State.acqStop_fields _ u 0 hc
  · have hgo : (s.live dACQ && (s.acqUnit u).geom.mode == 2 && (s.acqUnit u).geom.autoRearm && s.acqState u == uSTOPPED
        && s.get (ACQ_U_STAT.STOP_CAUSE u) == 6) = true := by rw [hl, hmode, hrearm, hst, hcause]; rfl
    obtain ⟨h1, -, h3⟩ := s.acqArm_fields u
    exact ⟨_, congrArg Host.Outcome.next (if_pos hgo), h1, h3⟩
  · have hgo : (s.live dACQ && s.acqBusy u && (s.acqUnit u).geom.mode == 3
        && (s.acqUnit u).strm.nsamp == blockSamples (s.acqUnit u).geom.fmt) = true := by
      rw [hl, hbusy, hmode, hn, beq_self_eq_true, beq_self_eq_true]; rfl
    refine ⟨_, congrArg Host.Outcome.next (if_pos hgo), ?_⟩
    dsimp only
    rw [State.closeBlock, State.acqUnit_setUnit]
    exact ⟨rfl, rfl, List.length_append⟩

end Sys2Proof.Machine
end

section
/-! PROOFS. The Nebula: swaps, publications and the read lock (R297 to R300). -/

namespace Sys2Proof.Machine

theorem testBit_of_mod {n m i k : Nat} (h : n % 2 ^ i = m) (hk : k < i) : n.testBit k = m.testBit k := by
  rw [← h, Nat.testBit_mod_two_pow, decide_eq_true hk, Bool.true_and]

theorem State.get_putStamp_apart (s : State) (a : Nat) (t : Stamp) {f : Fld} (h : f.addr ≠ a) (h4 : f.addr ≠ a + 4) (h8 : f.addr ≠ a + 8) :
    (s.putStamp a t).get f = s.get f := by
  rw [State.putStamp, State.get_setWord_ne _ _ _ _ h8, State.get_setWord_ne _ _ _ _ h4, State.get_setWord_ne _ _ _ _ h]

/-- A landed word outside the registers of the supplies leaves what is alive. -/
theorem State.live_landed (s : State) {a d : Nat} (w : Word) (h : SYS_STATE.addr ≠ a) (hd : PWR_DOM_STAT.addr d ≠ a) :
    (s.landed a w).live d = s.live d := by
  have hdev : (s.landed a w).dev = s.dev := State.get_landed_ne _ _ _ SYS_STATE.STATE h
  have hdom : (s.landed a w).dom d = s.dom d := State.get_landed_ne _ _ _ (PWR_DOM_STAT.STATE d) hd
  rw [State.live, State.live, State.alive_of_dev hdev, State.domOn, State.domOn, hdom]

/-! ### Requests and swap edges (R297 to R299) -/

/-- A swap edge: the open period is published, and the next one begins. -/
def State.swapDone (clear : Bool) (s t : State) : Prop :=
  t.flag NEB_STAT.PUB_BUSY = true ∧ t.flag NEB_STAT.PENDING = false ∧ t.neb.cur.cleared = clear
    ∧ ∃ p, t.neb.pub = some p ∧ p.period = s.neb.cur ∧ p.t1 = s.now

/-- A request waits for its swap edge. -/
def State.swapWaits (clear : Bool) (t : State) : Prop := t.flag NEB_STAT.PENDING = true ∧ t.neb.waitClear = clear

/-- Settings that waited for a swap edge come into force on it. -/
def State.nebSettled (s : State) : State :=
  if s.neb.settleAsked then
    { s with neb := { s.neb with settings := s.applied, settle := false, settleAsked := false, settleClear := false } }
  else s

theorem State.nebSettled_neb (s : State) : s.nebSettled.neb.cur = s.neb.cur ∧ s.nebSettled.neb.pub = s.neb.pub := by
  unfold State.nebSettled
  split <;> exact ⟨rfl, rfl⟩

theorem State.nebSwap_done (s : State) (clear : Bool) : State.swapDone clear s (s.nebSwap clear) := by
  have hstat (x : State) : ((x.put NEB_STAT.PUB_BUSY 1).put NEB_STAT.PENDING 0).flag NEB_STAT.PUB_BUSY = true
      ∧ ((x.put NEB_STAT.PUB_BUSY 1).put NEB_STAT.PENDING 0).flag NEB_STAT.PENDING = false :=
    ⟨(State.flag_put_clear _ _ _ _ rfl).trans (State.flag_put_one _ _ (by decide) rfl), State.flag_put_zero _ _ (by decide)⟩
  have hneb (x : State) : ((x.put NEB_STAT.PUB_BUSY 1).put NEB_STAT.PENDING 0).neb = x.neb := by rw [State.put_neb, State.put_neb]
  change State.swapDone clear s (((State.nebSettled _).put NEB_STAT.PUB_BUSY 1).put NEB_STAT.PENDING 0)
  refine ⟨(hstat _).1, (hstat _).2, ?_, ?_⟩
  · rw [hneb, (State.nebSettled_neb _).1]
  · exact ⟨_, by rw [hneb, (State.nebSettled_neb _).2], rfl, rfl⟩

/-- A request swaps at once where nothing holds it back, and waits otherwise. -/
theorem State.nebRequest_fields {s : State} (hl : s.live dNEB = true) (hen : s.appFlag NEB_CTRL.EN = true) (hp : s.flag NEB_STAT.PENDING = false)
    (clear : Bool) : if s.nebFree = true then State.swapDone clear s (s.nebRequest clear) else (s.nebRequest clear).swapWaits clear := by
  have he : s.nebRequest clear = if s.nebFree = true then s.nebSwap clear
      else ({ s with neb := { s.neb with waitClear := clear } } : State).put NEB_STAT.PENDING 1 := by
    simp only [State.nebRequest, hl, hen, hp, Bool.and_self, Bool.not_true, Bool.false_eq_true, if_false]
  rw [he]
  split
  · exact s.nebSwap_done clear
  · exact ⟨State.flag_put_one _ _ (by decide) rfl, by rw [State.put_neb]⟩

theorem State.nebFree_of {s t : State} (hr : t.word NEB_STAT.addr = s.word NEB_STAT.addr) (hn : t.neb = s.neb) : t.nebFree = s.nebFree := by
  have h (lo : Nat) : t.flag ⟨NEB_STAT.addr, lo, 1⟩ = s.flag ⟨NEB_STAT.addr, lo, 1⟩ := by rw [State.flag, State.flag, State.get, State.get, hr]
  simp only [State.nebFree, hn]
  rw [show t.flag NEB_STAT.PUB_BUSY = s.flag NEB_STAT.PUB_BUSY from h _, show t.flag NEB_STAT.HELD = s.flag NEB_STAT.HELD from h _]

/-! ### NEB_CMD (R298, R300) -/

/-- NEB_CMD with the bits of its commands. -/
def State.nebCmd (s : State) (hold release req clear : Bool) : State :=
  let s := if release then (s.put NEB_STAT.HELD 0).put NEB_STAT.HOLD_WAIT 0 else s
  let s := if req then s.nebRequest clear else s
  if hold then if s.flag NEB_STAT.PUB_BUSY then s.put NEB_STAT.HOLD_WAIT 1 else s.put NEB_STAT.HELD 1 else s

theorem nebRules_act_cmd {w : Word} (src : Source) {s : State} (hc : (w.toNat.testBit 2 && w.toNat.testBit 3) = false)
    (hs : (w.toNat.testBit 3 && ! s.flag NEB_STAT.HELD && ! s.flag NEB_STAT.HOLD_WAIT) = false) :
    nebRules.act src NEB_CMD.addr w s
      = .ok (s.nebCmd (w.toNat.testBit 2) (w.toNat.testBit 3) (w.toNat.testBit 0 || w.toNat.testBit 1) (w.toNat.testBit 1)) := by
  simp only [nebRules, beq_self_eq_true, if_true, hc, hs, Bool.false_eq_true, if_false]
  rfl

/-- A write of NEB_CMD that asks for a swap alone. -/
theorem Completes.of_nebRequest {c : Instr} {s : State} {src : Source} {w : Word} {clear : Bool} {P : State → Prop}
    (he : exec c s = .next (s.writeReg nebRules src NEB_CMD.addr w)) (ha : s.admits nebRules src NEB_CMD.addr w)
    (h2 : w.toNat.testBit 2 = false) (h3 : w.toNat.testBit 3 = false) (hreq : (w.toNat.testBit 0 || w.toNat.testBit 1) = true)
    (h1 : w.toNat.testBit 1 = clear) (hl : s.live dNEB = true) (hen : s.appFlag NEB_CTRL.EN = true) (hp : s.flag NEB_STAT.PENDING = false)
    (hP : ∀ t, t.okAnswer → (if s.nebFree = true then State.swapDone clear s t else t.swapWaits clear) → P t) : Completes c s P := by
  have hne : NEB_STAT.addr ≠ NEB_CMD.addr := by decide
  have hneb : (s.landed NEB_CMD.addr w).neb = s.neb := State.setWord_neb _ _ _
  refine Completes.of_write he ha (by decide) (by decide) (nebRules_act_cmd src (by rw [h2]; rfl) (by rw [h3]; rfl)) (hP _ rfl ?_)
  have h := State.nebRequest_fields (s := s.landed NEB_CMD.addr w) ((s.live_landed _ (by decide) (by decide)).trans hl)
    (by rw [State.appFlag, State.app_landed]; exact hen) ((State.flag_eq_get (State.get_landed_ne _ _ _ NEB_STAT.PENDING hne)).trans hp) clear
  rw [State.nebFree_of (s := s) (t := s.landed NEB_CMD.addr w) (State.word_setWord_ne _ _ hne) hneb] at h
  rw [h2, h3, h1, show (w.toNat.testBit 0 || clear) = true by rw [← h1]; exact hreq]
  simp only [State.nebCmd, Bool.false_eq_true, if_false, if_true]
  split
  next hf =>
    rw [if_pos hf] at h
    obtain ⟨k1, k2, k3, p, k4, k5, k6⟩ := h
    exact ⟨k1, k2, k3, p, k4, by rw [k5, hneb], by rw [k6, State.now_landed]⟩
  next hf =>
    rw [if_neg hf] at h
    exact h

theorem State.nebCmd_hold (s : State) : if s.flag NEB_STAT.PUB_BUSY = true then (s.nebCmd true false false false).flag NEB_STAT.HOLD_WAIT = true
    else (s.nebCmd true false false false).flag NEB_STAT.HELD = true := by
  simp only [State.nebCmd, Bool.false_eq_true, if_false, if_true]
  split
  · exact State.flag_put_one _ _ (by decide) rfl
  · exact State.flag_put_one _ _ (by decide) rfl

theorem State.nebCmd_release (s : State) : (s.nebCmd false true false false).flag NEB_STAT.HELD = false
    ∧ (s.nebCmd false true false false).flag NEB_STAT.HOLD_WAIT = false := by
  simp only [State.nebCmd, Bool.false_eq_true, if_false, if_true]
  exact ⟨(State.flag_put_clear _ _ _ _ rfl).trans (State.flag_put_zero _ _ (by decide)), State.flag_put_zero _ _ (by decide)⟩

/-! ### The end of a publication (R297, R300) -/

/-- The registers that show a publication. -/
def State.pubShown (s : State) (p : NebPub) : State :=
  let s := (s.put NEB_STAT.PUB_BUSY 0).bumpWrap NEB_PUB_SEQ.PUB_SEQ
  let s := s.put NEB_PUB_COUNT.COUNT (min p.period.count (2 ^ 32 - 1))
  let s := ((s.put NEB_PUB_FLAGS.K p.k).putB NEB_PUB_FLAGS.SAT p.period.sat).putB NEB_PUB_FLAGS.CLEARED p.period.cleared
  let s := ((s.putB NEB_PUB_FLAGS.GAP p.period.gap).putB NEB_PUB_FLAGS.DSAT p.period.dsat).putB NEB_PUB_FLAGS.THR p.period.thr
  let s := (s.putB NEB_PUB_FLAGS.OVR p.period.ovr).setWord NEB_PUB_COLOUR.addr p.colour
  (s.putStamp NEB_PUB_T0.addr p.period.t0).putStamp NEB_PUB_T1.addr p.t1

/-- The flags, the colour and the stamps of a publication stand in registers of their own. -/
theorem State.get_pubShown (s : State) (p : NebPub) {f : Fld} (hf : f.addr < NEB_PUB_FLAGS.addr) :
    (s.pubShown p).get f = (((s.put NEB_STAT.PUB_BUSY 0).bumpWrap NEB_PUB_SEQ.PUB_SEQ).put NEB_PUB_COUNT.COUNT
      (min p.period.count (2 ^ 32 - 1))).get f := by
  have hs : NEB_PUB_FLAGS.addr < NEB_PUB_COLOUR.addr ∧ NEB_PUB_FLAGS.addr < NEB_PUB_T0.addr ∧ NEB_PUB_FLAGS.addr < NEB_PUB_T1.addr := by decide
  have hflags (x : State) (lo n v : Nat) : (x.put ⟨NEB_PUB_FLAGS.addr, lo, n⟩ v).get f = x.get f :=
    State.get_put_reg _ _ _ _ (show f.addr ≠ NEB_PUB_FLAGS.addr by omega)
  unfold State.pubShown
  dsimp only
  rw [State.get_putStamp_apart _ _ _ (by omega) (by omega) (by omega), State.get_putStamp_apart _ _ _ (by omega) (by omega) (by omega),
    State.get_setWord_ne _ _ _ _ (by omega)]
  exact (hflags _ _ _ _).trans ((hflags _ _ _ _).trans ((hflags _ _ _ _).trans ((hflags _ _ _ _).trans ((hflags _ _ _ _).trans
    ((hflags _ _ _ _).trans (hflags _ _ _ _))))))

theorem State.pubShown_fields (s : State) (p : NebPub) : (s.pubShown p).flag NEB_STAT.PUB_BUSY = false
    ∧ (s.pubShown p).get NEB_PUB_SEQ.PUB_SEQ = (s.get NEB_PUB_SEQ.PUB_SEQ + 1) % 2 ^ 32
    ∧ (s.pubShown p).get NEB_PUB_COUNT.COUNT = min p.period.count (2 ^ 32 - 1) := by
  refine ⟨(State.flag_eq_get (s.get_pubShown p (f := NEB_STAT.PUB_BUSY) (by decide))).trans ?_,
    (s.get_pubShown p (f := NEB_PUB_SEQ.PUB_SEQ) (by decide)).trans ?_, (s.get_pubShown p (f := NEB_PUB_COUNT.COUNT) (by decide)).trans ?_⟩
  · refine (State.flag_put_clear _ _ _ _ rfl).trans ((State.flag_eq_get (State.get_bumpWrap_clear _ _ _ rfl)).trans ?_)
    exact State.flag_put_zero _ _ (by decide)
  · rw [State.get_put_clear _ _ _ _ rfl, State.bumpWrap, State.get_put_same _ _ _ (by decide), State.get_put_clear _ _ _ _ rfl]
    rfl
  · refine (State.get_put_same _ _ _ (by decide)).trans (Nat.mod_eq_of_lt ?_)
    exact Nat.lt_of_le_of_lt (Nat.min_le_right _ _) (by decide)

/-- The read lock that waited for the publication is taken. -/
theorem State.holdTaken_keeps (x : State) (b : Bool) {f : Fld} (h0 : NEB_STAT.HOLD_WAIT.clear f = true) (h1 : NEB_STAT.HELD.clear f = true) :
    (if b then (x.put NEB_STAT.HOLD_WAIT 0).put NEB_STAT.HELD 1 else x).get f = x.get f
      ∧ (if b then (x.put NEB_STAT.HOLD_WAIT 0).put NEB_STAT.HELD 1 else x).neb = x.neb := by
  cases b
  · exact ⟨rfl, rfl⟩
  · exact ⟨(State.get_put_clear _ _ _ _ h1).trans (State.get_put_clear _ _ _ _ h0), (State.put_neb _ _ _).trans (State.put_neb _ _ _)⟩

theorem State.neb_pubShown (s : State) (p : NebPub) : (s.pubShown p).neb = s.neb := by
  unfold State.pubShown
  simp only [State.putStamp_neb, State.setWord_neb, State.putB, State.put_neb, State.bumpWrap]

/-- Settles O24: NEB_CMD by its bits, and a publication by the registers that show it. -/
theorem nebulaCommandsComplete : Obligations.NebulaCommandsComplete := by
  refine ⟨fun s hl hen hp hsrc => ?_, fun s src v hl hen hp ha hv => ?_, fun s src v hl hen hp ha hv => ?_, fun s src v ha hv => ?_,
    fun s src v ha hv hheld => ?_, fun s hl hen hp hfree => ?_, fun s p hl hp => ?_, fun s hl hheld => ?_⟩
  · refine ⟨_, congrArg Host.Outcome.next (if_pos (by rw [hsrc]; rfl)), ?_⟩
    exact State.nebRequest_fields hl hen hp false
  · have hb {k : Nat} (hk : k < 4) := testBit_of_mod (i := 4) hv hk
    exact .of_nebRequest rfl ha (hb (by decide)) (hb (by decide)) (by rw [hb (by decide)]; rfl) (hb (by decide)) hl hen hp
      (fun t hok h => ⟨hok, h⟩)
  · have hd : (v ||| 2).toNat / 2 ^ 2 % 2 ^ 2 = 0 := hv
    have hb {k : Nat} (hk : k < 2) : (v ||| 2).toNat.testBit (k + 2) = false := by
      rw [← Nat.testBit_div_two_pow, testBit_of_mod hd hk, Nat.zero_testBit]
    have h1 := testBit_or_right v 2 (k := 1) (by decide)
    exact .of_nebRequest rfl ha (hb (k := 0) (by decide)) (hb (k := 1) (by decide)) (by rw [h1, Bool.or_true]) h1 hl hen hp
      (fun t hok h => ⟨hok, h⟩)
  · have hb {k : Nat} (hk : k < 4) := testBit_of_mod (i := 4) hv hk
    have h0 : (v ||| 4).toNat.testBit 0 = false := hb (by decide)
    have h1 : (v ||| 4).toNat.testBit 1 = false := hb (by decide)
    have h2 : (v ||| 4).toNat.testBit 2 = true := hb (by decide)
    have h3 : (v ||| 4).toNat.testBit 3 = false := hb (by decide)
    refine Completes.of_write rfl ha (by decide) (by decide) (nebRules_act_cmd src (by rw [h2, h3]; rfl) (by rw [h3]; rfl)) ⟨rfl, ?_⟩
    have h := (s.landed NEB_CMD.addr (v ||| 4)).nebCmd_hold
    rw [State.flag_eq_get (State.get_landed_ne s _ _ NEB_STAT.PUB_BUSY (by decide))] at h
    rw [h0, h1, h2, h3, Bool.or_self]
    exact h
  · have hb {k : Nat} (hk : k < 4) := testBit_of_mod (i := 4) hv hk
    have h0 : (v ||| 8).toNat.testBit 0 = false := hb (by decide)
    have h1 : (v ||| 8).toNat.testBit 1 = false := hb (by decide)
    have h2 : (v ||| 8).toNat.testBit 2 = false := hb (by decide)
    have h3 : (v ||| 8).toNat.testBit 3 = true := hb (by decide)
    have hflag (f : Fld) (hf : f.addr ≠ NEB_CMD.addr) : (s.landed NEB_CMD.addr (v ||| 8)).flag f = s.flag f :=
      State.flag_eq_get (State.get_landed_ne s _ _ f hf)
    refine Completes.of_write rfl ha (by decide) (by decide) (nebRules_act_cmd src (by rw [h2]; rfl) ?_) ⟨rfl, ?_⟩
    · rw [hflag NEB_STAT.HELD (by decide), hflag NEB_STAT.HOLD_WAIT (by decide)]
      rcases hheld with h | h <;> simp only [h, Bool.not_true, Bool.and_false, Bool.false_and]
    · obtain ⟨hheld', hwait⟩ := (s.landed NEB_CMD.addr (v ||| 8)).nebCmd_release
      rw [h0, h1, h2, h3, Bool.or_self]
      exact ⟨(State.answer_flag _ _ _ _).trans hheld', (State.answer_flag _ _ _ _).trans hwait⟩
  · have hgo : (s.live dNEB && s.appFlag NEB_CTRL.EN && s.flag NEB_STAT.PENDING && s.nebFree) = true := by rw [hl, hen, hp, hfree]; rfl
    exact ⟨_, congrArg Host.Outcome.next (if_pos hgo), s.nebSwap_done _⟩
  · have he : exec .publicationComplete s = .next (let x := (({ s with neb := { s.neb with
        pub := none, everPub := true, pubUndef := false, pubGeom := p.geom } } : State).pubShown p).raiseIrq 89
        if x.flag NEB_STAT.HOLD_WAIT then (x.put NEB_STAT.HOLD_WAIT 0).put NEB_STAT.HELD 1 else x) := by
      simp only [exec, execPublicationComplete, hp, hl, if_true]
      rfl
    obtain ⟨hbusy, hseq, hcount⟩ := State.pubShown_fields ({ s with neb := { s.neb with
      pub := none, everPub := true, pubUndef := false, pubGeom := p.geom } } : State) p
    have hneb := State.neb_pubShown ({ s with neb := { s.neb with pub := none, everPub := true, pubUndef := false, pubGeom := p.geom } } : State) p
    have k := Kept.raiseIrq (.refl _ (({ s with neb := { s.neb with
      pub := none, everPub := true, pubUndef := false, pubGeom := p.geom } } : State).pubShown p)) (Foot.le_refl _) 89
    refine ⟨_, he, ?_⟩
    dsimp only
    have hh {f : Fld} := State.holdTaken_keeps (State.raiseIrq (State.pubShown { s with neb := { s.neb with
      pub := none, everPub := true, pubUndef := false, pubGeom := p.geom } } p) 89) (State.flag (State.raiseIrq (State.pubShown { s with neb := { s.neb with
      pub := none, everPub := true, pubUndef := false, pubGeom := p.geom } } p) 89) NEB_STAT.HOLD_WAIT) (f := f)
    refine ⟨?_, ?_, ?_, ?_⟩
    · rw [(hh (f := NEB_STAT.SAT) rfl rfl).2, k.part_of .neb rfl, hneb]
    · exact (State.flag_eq_get ((hh (f := NEB_STAT.PUB_BUSY) rfl rfl).1.trans (k.get_of rfl))).trans hbusy
    · exact ((hh (f := NEB_PUB_SEQ.PUB_SEQ) rfl rfl).1.trans (k.get_of rfl)).trans hseq
    · exact ((hh (f := NEB_PUB_COUNT.COUNT) rfl rfl).1.trans (k.get_of rfl)).trans hcount
  · have hgo : (s.live dNEB && s.flag NEB_STAT.HELD) = true := by rw [hl, hheld]; rfl
    refine ⟨_, congrArg Host.Outcome.next (if_pos hgo), ?_, State.flag_put_one _ _ (by decide) rfl⟩
    exact (State.flag_put_clear _ _ _ _ rfl).trans (State.flag_put_zero _ _ (by decide))

end Sys2Proof.Machine
end

section
/-! PROOFS. The display: blanking, commits, scan-out, training, hot plug and the AUX channel (R312 to R334). -/

namespace Sys2Proof.Machine

/-! ### The machine state and video (R327, R333) -/

theorem State.mstate_setMstate (s : State) {m : Nat} (hm : m < 8) : (s.setMstate m).get DPY_STAT.MSTATE = m := by
  refine (State.get_put_clear _ _ _ _ rfl).trans ((State.get_put_same _ _ _ (by decide)).trans ?_)
  exact Nat.mod_eq_of_lt hm

theorem State.get_setMstate (s : State) (m : Nat) {f : Fld} (h : DPY_STAT.MSTATE.clear f = true) (hn : NEB_STAT.NO_VBLANK.clear f = true) :
    (s.setMstate m).get f = s.get f := (State.get_put_clear _ _ _ _ hn).trans (State.get_put_clear _ _ _ _ h)

theorem State.dpy_setMstate (s : State) (m : Nat) : (s.setMstate m).dpy = s.dpy := by
  rw [State.setMstate, State.putB, State.put_dpy, State.put_dpy]

theorem State.mstate_stopVideo (s : State) {m : Nat} (hm : m < 8) : (s.stopVideo m).get DPY_STAT.MSTATE = m := State.mstate_setMstate _ hm

theorem State.get_stopVideo (s : State) (m : Nat) {f : Fld} (h : DPY_STAT.MSTATE.clear f = true) (hn : NEB_STAT.NO_VBLANK.clear f = true) :
    (s.stopVideo m).get f = s.get f := State.get_setMstate _ m h hn

theorem State.toTraining_fields (s : State) : s.toTraining.flag DPY_STAT.LINK_UP = false
    ∧ s.toTraining.get DPY_STAT.MSTATE = (if s.flag DPY_STAT.HPD = true then mTRAIN else mWAIT) := by
  have hhpd : (s.put DPY_STAT.LINK_UP 0).flag DPY_STAT.HPD = s.flag DPY_STAT.HPD := State.flag_put_clear _ _ _ _ rfl
  refine ⟨(State.flag_eq_get (State.get_stopVideo _ _ rfl rfl)).trans (State.flag_put_zero _ _ (by decide)), ?_⟩
  unfold State.toTraining
  dsimp only
  rw [hhpd]
  split <;> exact State.mstate_stopVideo _ (by decide)

/-- A frame that is named changes DPY_STAT.APPLIED_FRAME and raises its interrupt. -/
theorem State.nameFrame_fields (x : State) : x.nameFrame.dpy.landed = x.dpy.landed
    ∧ ∀ {f : Fld}, DPY_STAT.APPLIED_FRAME.clear f = true → f.addr / 0x10000 = 0x0E → x.nameFrame.get f = x.get f := by
  have k := Kept.raiseIrq (.refl _ (({ x with dpy := { x.dpy with nameFrame := false } } : State).put DPY_STAT.APPLIED_FRAME (x.get DPY_FRAME.FRAME)))
    (Foot.le_refl _) 90
  refine ⟨(congrArg DpySt.landed (k.part_of .dpy rfl)).trans (by rw [State.put_dpy]), fun {f} hf hb => ?_⟩
  exact (k.get_of (by rw [hb]; rfl)).trans (State.get_put_clear _ _ _ _ hf)

/-- The display runs, and its composer asks for the lock. -/
def State.videoRun (s : State) : State := { s.setMstate mRUN with neb := { s.neb with dpyWant := true } }

theorem State.get_setNeb (x : State) (z : NebSt) (f : Fld) : ({ x with neb := z } : State).get f = x.get f := rfl

theorem State.get_videoRun (s : State) (f : Fld) : s.videoRun.get f = (s.setMstate mRUN).get f := State.get_setNeb (s.setMstate mRUN) _ f

theorem State.resumeVideo_eq (s : State) : s.resumeVideo = if s.videoRun.dpy.nameFrame then s.videoRun.nameFrame else s.videoRun := rfl

theorem State.resumeVideo_cases (s : State) : s.resumeVideo = s.videoRun.nameFrame ∨ s.resumeVideo = s.videoRun := by
  rw [State.resumeVideo_eq]
  split
  · exact .inl rfl
  · exact .inr rfl

/-- Video that resumes shows RUN, and the link as it was. -/
theorem State.resumeVideo_fields (s : State) : s.resumeVideo.dpy.landed = s.dpy.landed
    ∧ s.resumeVideo.get DPY_LINK.RATE = s.get DPY_LINK.RATE ∧ s.resumeVideo.get DPY_LINK.LANES = s.get DPY_LINK.LANES := by
  have hdpy : s.videoRun.dpy = s.dpy := by
    unfold State.videoRun
    dsimp only
    rw [State.dpy_setMstate]
  have hrate : s.videoRun.get DPY_LINK.RATE = s.get DPY_LINK.RATE := (s.get_videoRun _).trans (State.get_setMstate _ _ rfl rfl)
  have hlanes : s.videoRun.get DPY_LINK.LANES = s.get DPY_LINK.LANES := (s.get_videoRun _).trans (State.get_setMstate _ _ rfl rfl)
  obtain ⟨hl, hn⟩ := s.videoRun.nameFrame_fields
  rcases s.resumeVideo_cases with h | h <;> rw [h]
  · exact ⟨hl.trans (by rw [hdpy]), (hn rfl rfl).trans hrate, (hn rfl rfl).trans hlanes⟩
  · exact ⟨by rw [hdpy], hrate, hlanes⟩

/-! ### Composition and scan-out (R312) -/

/-- The composer finishes the lines below n. -/
theorem State.lines_composeTo {s : State} {n : Nat} (hc : s.dpy.composing = true) (hn : n ≤ s.app DPY_VTIM.VACTIVE) (hl : s.dpy.lines < n) :
    (s.composeTo n).dpy.lines = n := by
  unfold State.composeTo
  dsimp only
  rw [Nat.min_eq_left hn, if_pos (by rw [hc, decide_eq_true hl]; rfl)]
  split <;> rfl

/-- A counter that saturates. -/
theorem State.get_bump_min (s : State) (f : Fld) (h : f.lo + f.n ≤ 32) : (s.bump f).get f = min (s.get f + 1) (2 ^ f.n - 1) := by
  have hlt : s.get f < 2 ^ f.n := bitsOf_lt _ _ _
  rw [State.get_bump_same s f h]
  split <;> omega

/-! ### Writes -/

theorem dpyRules_act_commit {w : Word} (src : Source) (s : State) (h : w.toNat.testBit 0 = true) :
    dpyRules.act src DPY_COMMIT.addr w s = .ok (({ s with dpy := { s.dpy with src := src } } : State).put DPY_STAT.COMMIT_PEND 1) := by
  simp only [dpyRules, beq_self_eq_true, h, Bool.and_self, if_true]

theorem dpyRules_act_aux {w : Word} (src : Source) (s : State) (h : w.toNat.testBit 31 = true) : dpyRules.act src DPY_AUX_CTRL.addr w s
    = .ok { s with dpy := { s.dpy with auxBusy := true, auxWait := s.get DPY_STAT.MSTATE == mTRAIN } } := by
  have hne : (DPY_AUX_CTRL.addr == DPY_COMMIT.addr) = false := by decide
  simp only [dpyRules, hne, Bool.false_and, Bool.false_eq_true, if_false, beq_self_eq_true, h, Bool.and_self, if_true]

/-! ### Training (R329, R330) -/

/-- The link as trained, before the display acts on it. -/
def State.linkShown (s : State) (rate lanes : Nat) : State :=
  let fell := decide (linkRate rate < linkRate (s.app DPY_CTRL.RATE)) || decide (lanes < s.app DPY_CTRL.LANES)
  (((s.put DPY_STAT.LINK_UP 1).put DPY_LINK.RATE rate).put DPY_LINK.LANES lanes).putB DPY_LINK.FELL_BACK fell

theorem State.linkShown_fields (s : State) (r : BitVec 3) (l : BitVec 2) : (s.linkShown r.toNat l.toNat).get DPY_LINK.RATE = r.toNat
    ∧ (s.linkShown r.toNat l.toNat).get DPY_LINK.LANES = l.toNat := by
  constructor
  · refine (State.get_put_clear _ _ _ _ rfl).trans ((State.get_put_clear _ _ _ _ rfl).trans ((State.get_put_same _ _ _ (by decide)).trans ?_))
    exact Nat.mod_eq_of_lt r.isLt
  · refine (State.get_put_clear _ _ _ _ rfl).trans ((State.get_put_same _ _ _ (by decide)).trans ?_)
    exact Nat.mod_eq_of_lt l.isLt

/-- A display whose commit has not landed applies none. -/
theorem State.commitIf_of_not_landed {x : State} (h : x.dpy.landed = false) :
    (if x.dpy.landed && x.get DPY_STAT.MSTATE == mBLANK then x.commitApply else x) = x := if_neg (by rw [h, Bool.false_and]; decide)

/-- Training that succeeds shows the link as trained. -/
theorem State.linkTrained_ok {s : State} (hl : s.dpy.landed = false) (r : BitVec 3) (l : BitVec 2) :
    (s.linkTrained r.toNat l.toNat true).get DPY_LINK.RATE = r.toNat ∧ (s.linkTrained r.toNat l.toNat true).get DPY_LINK.LANES = l.toNat := by
  obtain ⟨h1, h2⟩ := State.linkShown_fields ({ s with dpy := { s.dpy with auxWait := false } } : State) r l
  have hdpy : (State.linkShown { s with dpy := { s.dpy with auxWait := false } } r.toNat l.toNat).dpy.landed = false := by
    unfold State.linkShown State.putB
    simp only [State.put_dpy]
    exact hl
  have he : s.linkTrained r.toNat l.toNat true = (let x := State.linkShown { s with dpy := { s.dpy with auxWait := false } } r.toNat l.toNat
      let y := if (x.dpyApplied x.app).any (fun i => i.res == 8 && i.idx == 0 && i.fail.isSome) then x.setMstate mBLANK else x.resumeVideo
      if y.dpy.landed && y.get DPY_STAT.MSTATE == mBLANK then y.commitApply else y) := rfl
  rw [he]
  generalize State.linkShown { s with dpy := { s.dpy with auxWait := false } } r.toNat l.toNat = x at h1 h2 hdpy
  dsimp only
  split
  · rw [State.commitIf_of_not_landed (by rw [State.dpy_setMstate]; exact hdpy)]
    exact ⟨(State.get_setMstate _ _ rfl rfl).trans h1, (State.get_setMstate _ _ rfl rfl).trans h2⟩
  · obtain ⟨k0, k1, k2⟩ := x.resumeVideo_fields
    rw [State.commitIf_of_not_landed (k0.trans hdpy)]
    exact ⟨k1.trans h1, k2.trans h2⟩

/-- Training that fails leaves the link down and the display blanked. -/
theorem State.linkTrained_fail {s : State} (hl : s.dpy.landed = false) (r l : Nat) :
    (s.linkTrained r l false).flag DPY_STAT.LINK_UP = false ∧ (s.linkTrained r l false).get DPY_STAT.MSTATE = mBLANK := by
  have he : s.linkTrained r l false = (let x := (State.put { s with dpy := { s.dpy with auxWait := false } } DPY_STAT.LINK_UP 0)
      let y := (x.setMstate mBLANK).fltInfo 0x28 0 0x0E (tileLoc 2 11 0) (x.word DPY_LINK.addr).toNat
      if y.dpy.landed && y.get DPY_STAT.MSTATE == mBLANK then y.commitApply else y) := rfl
  have hup : (State.put { s with dpy := { s.dpy with auxWait := false } } DPY_STAT.LINK_UP 0).flag DPY_STAT.LINK_UP = false :=
    State.flag_put_zero _ _ (by decide)
  have hdpy : (State.put { s with dpy := { s.dpy with auxWait := false } } DPY_STAT.LINK_UP 0).dpy.landed = false := by rw [State.put_dpy]; exact hl
  rw [he]
  generalize State.put { s with dpy := { s.dpy with auxWait := false } } DPY_STAT.LINK_UP 0 = x at hup hdpy
  have k := Kept.fltInfo (.refl _ (x.setMstate mBLANK)) (Foot.le_refl _) 0x28 0 0x0E (tileLoc 2 11 0) (x.word DPY_LINK.addr).toNat
  dsimp only
  rw [State.commitIf_of_not_landed (by rw [k.part_of .dpy rfl, State.dpy_setMstate]; exact hdpy)]
  exact ⟨(State.flag_eq_get ((k.get_of rfl).trans (State.get_setMstate _ _ rfl rfl))).trans hup, (k.get_of rfl).trans (State.mstate_setMstate x (by decide))⟩

/-- A refused commit leaves the flags of the display. -/
theorem State.flag_refuseOp_pend (s : State) (src : Source) (e : Err) :
    (s.refuseOp 0x0E 0x100 src e).flag DPY_STAT.COMMIT_PEND = s.flag DPY_STAT.COMMIT_PEND := by
  refine (State.flag_eq_get ((Kept.logErr (.refl _ _) (Foot.le_refl _) _ _).get_of rfl)).trans (State.flag_eq_get ?_)
  rw [State.get, State.get, State.word_blockErr_of_notMem _ _ _ _ _ (by decide)]

theorem State.applied_refuseOp (s : State) (w ofs : Nat) (src : Source) (e : Err) : (s.refuseOp w ofs src e).applied = s.applied := by
  unfold State.refuseOp
  have hlog (x : State) (w0 w1 : Word) : (x.logErr w0 w1).applied = x.applied := by
    unfold State.logErr
    split
    · rfl
    · rw [State.put_applied, State.bump_applied]
  rw [hlog]; rfl

/-- Settles O25: each operation by the machine state it leaves and the flags it sets. -/
theorem displayCommandsComplete : Obligations.DisplayCommandsComplete := by
  refine ⟨fun s hl hm hland hsrc => ?_, fun s src v ha => ?_, fun s hl hp hland => ⟨fun hj hm => ?_, fun e hj => ?_⟩, fun s hl hm hw hb => ?_,
    fun s hl hlock hc => ?_, fun s line hl hm hv hc hle => ⟨?_, ?_⟩, fun s hl hm hte => ⟨?_, fun hseen => ?_⟩,
    fun s r l hl hm hland => ⟨fun h => ?_, ?_⟩, fun s hl hm => ?_, fun s hl => ?_, fun s hl => ?_, fun s src v ha => ?_,
    fun s r d hl hbusy hwait hr => ?_⟩
  · have hx1 : (s.bumpWrap DPY_FRAME.FRAME).dpy.landed = false := by rw [State.bumpWrap, State.put_dpy]; exact hland
    have hx2 : ((s.bumpWrap DPY_FRAME.FRAME).app NEB_CTRL.SWAP_SRC == 1) = false := beq_eq_false_iff_ne.mpr hsrc
    have hx3 : (s.bumpWrap DPY_FRAME.FRAME).get DPY_STAT.MSTATE = mRUN := (State.get_bumpWrap_clear _ _ _ rfl).trans hm
    have hwant (x : State) (f : Fld) (y : DpySt) (z : NebSt) : ({ x with dpy := y, neb := z } : State).get f = x.get f := rfl
    refine ⟨_, by simp only [exec, execVblank, hl, hm, hx1, hx2, hx3, State.get_mk, State.app_mk, appField_applied, regField_regs, beq_self_eq_true, Bool.and_self, Bool.false_eq_true, if_false, if_true]; rfl, ?_, rfl⟩
    refine (hwant _ _ _ _).trans ((State.get_put_same _ _ _ (by decide)).trans ?_)
    rfl
  · refine Completes.of_write rfl ha (by decide) (by decide) (dpyRules_act_commit src _ (testBit_or_right v 1 (by decide)))
      ⟨rfl, (State.answer_flag _ _ _ _).trans (State.flag_put_one _ _ (by decide) rfl), ?_⟩
    rw [State.answer_dpy, State.put_dpy]
  · have hm' : regField (s.setWord SYS_ADMIT_RESULT.addr (admJudge (dpyItems s.get s.app (s.linkMbps s.get
        (s.get DPY_CTRL.RATE != s.app DPY_CTRL.RATE || s.get DPY_CTRL.LANES != s.app DPY_CTRL.LANES)))).1).regs DPY_STAT.MSTATE = mRUN :=
      (State.get_setWord_ne _ _ _ _ (by decide)).trans hm
    have he : exec .commitLand s = .next (let x := s.setWord SYS_ADMIT_RESULT.addr (admJudge (dpyItems s.get s.app (s.linkMbps s.get
        (s.get DPY_CTRL.RATE != s.app DPY_CTRL.RATE || s.get DPY_CTRL.LANES != s.app DPY_CTRL.LANES)))).1
        { x with dpy := { x.dpy with landed := true } }) := by
      simp only [exec, execCommitLand, hl, hp, hland, hj, hm', State.get_mk, beq_self_eq_true, Bool.and_self, Bool.not_false, Bool.true_or, if_true]
    exact ⟨_, he, rfl, rfl⟩
  · refine ⟨_, by simp only [exec, execCommitLand, hl, hp, hland, hj, Bool.and_self, Bool.not_false, if_true]; rfl, ?_, ?_⟩
    · exact (State.flag_refuseOp_pend _ _ _).trans (State.flag_put_zero _ _ (by decide))
    · exact (State.applied_refuseOp _ _ _ _ _).trans rfl
  · have hgo : (s.live dDISP && s.get DPY_STAT.MSTATE == mRUN && s.neb.dpyWant && ! s.flag NEB_STAT.PUB_BUSY) = true := by rw [hl, hm, hw, hb]; rfl
    exact ⟨_, congrArg Host.Outcome.next (if_pos hgo), rfl, rfl, rfl, rfl, rfl⟩
  · have hgo : (s.live dDISP && s.neb.dpyLock && s.dpy.composing) = true := by rw [hl, hlock, hc]; rfl
    exact ⟨_, congrArg Host.Outcome.next (if_pos hgo), rfl⟩
  · have he : exec (.scanoutLine line true) s = .next (s.composeTo (line + 1)) := by
      simp only [exec, execScanoutLine, hl, hm, hc, beq_self_eq_true, decide_eq_true hv, Bool.and_self, if_true, decide_eq_false (Nat.not_lt.mpr hle),
        Bool.not_true, Bool.or_self, Bool.and_false, Bool.false_eq_true, if_false]
    exact ⟨_, he, State.lines_composeTo hc hv (by omega)⟩
  · have he : exec (.scanoutLine line false) s = .next ((s.put DPY_STAT.UNDERRUN 1).bump DPY_CNT.UNDERRUN_COUNT) := by
      simp only [exec, execScanoutLine, hl, hm, hc, beq_self_eq_true, decide_eq_true hv, Bool.and_self, if_true, decide_eq_false (Nat.not_lt.mpr hle),
        Bool.not_true, Bool.or_self, Bool.and_false, Bool.false_and, Bool.false_eq_true, if_false]
    refine ⟨_, he, (State.flag_eq_get (State.get_bump_clear _ _ _ rfl)).trans (State.flag_put_one _ _ (by decide) rfl), ?_⟩
    rw [State.get_bump_min _ _ (by decide), State.get_put_clear _ _ _ _ rfl]
    rfl
  · have hgo : (s.live dDISP && s.get DPY_STAT.MSTATE == mRUN && s.app DPY_CTRL.TE_MODE == 1 && true) = true := by rw [hl, hm, hte]; rfl
    exact ⟨_, congrArg Host.Outcome.next (if_pos hgo), rfl, rfl⟩
  · have hgo : (s.live dDISP && s.get DPY_STAT.MSTATE == mRUN && s.app DPY_CTRL.TE_MODE == 1 && ! s.dpy.teSeen) = true := by rw [hl, hm, hte, hseen]; rfl
    refine ⟨_, congrArg Host.Outcome.next (if_pos hgo), (State.flag_eq_get (State.get_bump_clear _ _ _ rfl)).trans (State.flag_put_one _ _ (by decide) rfl), ?_⟩
    rw [State.get_bump_min _ _ (by decide), State.get_put_clear _ _ _ _ rfl]
    rfl
  · have hsame : (! true || s.app DPY_CTRL.RATE == r.toNat && s.app DPY_CTRL.LANES == l.toNat || s.appFlag DPY_CTRL.FALLBACK) = true := by
      rcases h with ⟨h1, h2⟩ | h
      · rw [h1, h2, beq_self_eq_true, beq_self_eq_true]; rfl
      · rw [h, Bool.or_true]
    obtain ⟨h1, h2⟩ := State.linkTrained_ok hland r l
    refine ⟨_, congrArg Host.Outcome.next (if_pos (by rw [hl, hm, hsame]; rfl)), ?_, ?_⟩
    · exact (State.get_settleCaps _ _ (w := 0x0E) rfl (by decide) (by decide) (by decide)).trans h1
    · exact (State.get_settleCaps _ _ (w := 0x0E) rfl (by decide) (by decide) (by decide)).trans h2
  · obtain ⟨h1, h2⟩ := State.linkTrained_fail hland r.toNat l.toNat
    refine ⟨_, congrArg Host.Outcome.next (if_pos (by rw [hl, hm]; rfl)), ?_, ?_⟩
    · exact (State.flag_eq_get (State.get_settleCaps _ _ (w := 0x0E) rfl (by decide) (by decide) (by decide))).trans h1
    · exact (State.get_settleCaps _ _ (w := 0x0E) rfl (by decide) (by decide) (by decide)).trans h2
  · have hgo : (s.live dDISP && s.get DPY_STAT.MSTATE == mRUN && true) = true := by rw [hl, hm]; rfl
    exact ⟨_, congrArg Host.Outcome.next (if_pos hgo), s.toTraining_fields⟩
  · have hgo (x : State) : (if x.get DPY_STAT.MSTATE == mOFF || x.get DPY_STAT.MSTATE == mPLL then x else x.stopVideo mWAIT).flag DPY_STAT.HPD = x.flag DPY_STAT.HPD
        ∧ (if x.get DPY_STAT.MSTATE == mOFF || x.get DPY_STAT.MSTATE == mPLL then x else x.stopVideo mWAIT).flag DPY_STAT.LINK_UP = x.flag DPY_STAT.LINK_UP := by
      split
      · exact ⟨rfl, rfl⟩
      · exact ⟨State.flag_eq_get (State.get_stopVideo _ _ rfl rfl), State.flag_eq_get (State.get_stopVideo _ _ rfl rfl)⟩
    refine ⟨_, congrArg Host.Outcome.next (if_pos hl), (hgo _).1.trans ?_, (hgo _).2.trans (State.flag_put_zero _ _ (by decide))⟩
    exact (State.flag_put_clear _ _ _ _ rfl).trans (State.flag_put_zero _ _ (by decide))
  · have hm : (s.put DPY_STAT.HPD 1).get DPY_STAT.MSTATE = s.get DPY_STAT.MSTATE := State.get_put_clear _ _ _ _ rfl
    refine ⟨_, congrArg Host.Outcome.next (if_pos hl), ?_, fun hw => ?_⟩
    · dsimp only
      split
      · exact (State.flag_eq_get (State.get_stopVideo _ _ rfl rfl)).trans (State.flag_put_one _ _ (by decide) rfl)
      · exact State.flag_put_one _ _ (by decide) rfl
    · dsimp only
      rw [hm, hw]
      exact State.mstate_stopVideo _ (by decide)
  · have hm : (s.landed DPY_AUX_CTRL.addr (v ||| BitVec.ofNat 32 (2 ^ 31))).get DPY_STAT.MSTATE = s.get DPY_STAT.MSTATE :=
      State.get_landed_ne _ _ _ _ (by decide)
    refine Completes.of_write rfl ha (by decide) (by decide) (dpyRules_act_aux src _ (testBit_or_right v _ (by decide))) ⟨rfl, rfl, ?_⟩
    rw [← hm]
    exact beq_iff_eq
  · have hgo : (s.live dDISP && s.dpy.auxBusy && ! s.dpy.auxWait) = true := by rw [hl, hbusy, hwait]; rfl
    have hread (x : State) : x.flag DPY_AUX_CTRL.READ = s.flag DPY_AUX_CTRL.READ → (r == 0 && x.flag DPY_AUX_CTRL.READ) = false := by
      intro hx
      rcases hr with h | h
      · rw [beq_eq_false_iff_ne.mpr h]; rfl
      · rw [hx, h, Bool.and_false]
    have hstay : ((({ s with dpy := { s.dpy with auxBusy := false } } : State).put DPY_AUX_STAT.RESULT r.toNat).put DPY_AUX_STAT.DONE 1).flag
        DPY_AUX_CTRL.READ = s.flag DPY_AUX_CTRL.READ := (State.flag_put_clear _ _ _ _ rfl).trans (State.flag_put_clear _ _ _ _ rfl)
    have he : exec (.auxDone r d) s = .next ((({ s with dpy := { s.dpy with auxBusy := false } } : State).put DPY_AUX_STAT.RESULT r.toNat).put
        DPY_AUX_STAT.DONE 1) := (congrArg Host.Outcome.next (if_pos hgo)).trans (congrArg Host.Outcome.next (if_neg (by rw [hread _ hstay]; decide)))
    refine ⟨_, he, by rw [State.put_dpy, State.put_dpy], State.flag_put_one _ _ (by decide) rfl, ?_⟩
    exact (State.get_put_clear _ _ _ _ rfl).trans ((State.get_put_same _ _ _ (by decide)).trans (Nat.mod_eq_of_lt r.isLt))

end Sys2Proof.Machine
end

section
/-! PROOFS. The Lodestar cores: what a core's registers hold after an issue, and the instructions of control (R348 to R373). -/

namespace Sys2Proof.Machine

/-! ### A core and its neighbours -/

theorem State.core_modCore_same (s : State) (n : Fin 8) (f : LodCore → LodCore) : (s.modCore n f).core n = f (s.core n) := vget_vset_same _ _ _

theorem State.core_modCore_of {s : State} {n : Fin 8} {c : LodCore} (f : LodCore → LodCore) (h : s.core n = c) : (s.modCore n f).core n = f c := by
  rw [State.core_modCore_same, h]

theorem State.core_modCore_ne (s : State) {n m : Fin 8} (f : LodCore → LodCore) (h : m ≠ n) : (s.modCore n f).core m = s.core m :=
  vget_vset_ne _ _ h

theorem State.core_of_lod {s t : State} (h : t.lod = s.lod) (n : Fin 8) : t.core n = s.core n := by rw [State.core, State.core, h]

theorem State.core_put (s : State) (f : Fld) (v : Nat) (n : Fin 8) : (s.put f v).core n = s.core n := State.core_of_lod (State.put_lod s f v) n

theorem State.lod_stick (s : State) (f : Fld) (b : Bool) : (s.stick f b).lod = s.lod := by
  cases b
  · rfl
  · exact State.put_lod _ _ _

theorem State.core_stick (s : State) (f : Fld) (b : Bool) (n : Fin 8) : (s.stick f b).core n = s.core n := State.core_of_lod (s.lod_stick f b) n

theorem State.flag_stick (s : State) {f : Fld} (b : Bool) (hw : f.lo + f.n ≤ 32) (hn : f.n = 1) : (s.stick f b).flag f = (s.flag f || b) := by
  cases b
  · rw [Bool.or_false]; rfl
  · rw [Bool.or_true]; exact State.flag_put_one s f hw hn

theorem State.otherCores.refl (s : State) (n : Fin 8) : s.otherCores s n := ⟨fun _ _ => rfl, rfl⟩

theorem State.otherCores.of_lod {s t : State} (h : t.lod = s.lod) (n : Fin 8) : s.otherCores t n :=
  ⟨fun m _ => State.core_of_lod h m, by rw [h]⟩

theorem State.otherCores.trans {s t r : State} {n : Fin 8} (h : s.otherCores t n) (k : t.otherCores r n) : s.otherCores r n :=
  ⟨fun m hm => (k.1 m hm).trans (h.1 m hm), k.2.trans h.2⟩

theorem State.otherCores.modCore {s t : State} {n : Fin 8} (h : s.otherCores t n) (f : LodCore → LodCore) : s.otherCores (t.modCore n f) n :=
  ⟨fun m hm => (State.core_modCore_ne t f hm).trans (h.1 m hm), h.2⟩

theorem State.otherCores.put {s t : State} {n : Fin 8} (h : s.otherCores t n) (f : Fld) (v : Nat) : s.otherCores (t.put f v) n :=
  h.trans (.of_lod (State.put_lod t f v) n)

/-! ### What an instruction that runs on leaves (R350 to R352) -/

/-- The step of the program counter reads and writes five fields of a core alone. -/
theorem LodCore.stepOn_of_flow {c c' : LodCore} (hpc : c'.pc = c.pc) (hrep : c'.rep = c.rep) (hdelay : c'.delay = c.delay)
    (htarget : c'.target = c.target) (hloops : c'.loops = c.loops) (len : Nat) :
    c'.stepOn len = { c' with pc := (c.stepOn len).pc, rep := (c.stepOn len).rep, delay := (c.stepOn len).delay,
                              target := (c.stepOn len).target, loops := (c.stepOn len).loops } := by
  cases c; cases c'
  subst hpc hrep hdelay htarget hloops
  simp only [LodCore.stepOn, LodCore.next]
  repeat' split
  all_goals rfl

/-- A core with the cycles and the stall of an instruction counted. -/
def LodCore.counted (c : LodCore) (len : Nat) (u : LodUse) : LodCore :=
  { c with icyc := c.icyc + len + c.stall u, busy := c.busy + len + c.stall u, istall := c.istall + c.stall u }

/-- The core after an instruction has run on, field by field. -/
theorem LodCore.ranOn_eq (c : LodCore) (len : Nat) (u : LodUse) : c.ranOn len u =
    { c.counted len u with
      pc := (c.stepOn len).pc, rep := (c.stepOn len).rep, delay := (c.stepOn len).delay, target := (c.stepOn len).target
      loops := (c.stepOn len).loops, lastAcc := u.accW, lastWalk := u.walkW } := by
  rw [LodCore.ranOn, LodCore.stepOn_of_flow (c := c) (c' := c) rfl rfl rfl rfl rfl]
  rfl

theorem State.core_lodAt (s : State) (n : Fin 8) (len : Nat) (u : LodUse) : (s.lodAt n len u).core n = (s.core n).counted len u :=
  State.core_modCore_same _ _ _

theorem State.otherCores_lodAt (s : State) (n : Fin 8) (len : Nat) (u : LodUse) : s.otherCores (s.lodAt n len u) n :=
  (State.otherCores.refl s n).modCore _

/-- The state after an instruction, with what it used remembered. -/
def State.lodUsed (s : State) (n : Fin 8) (u : LodUse) : State := s.modCore n (fun c => { c with lastAcc := u.accW, lastWalk := u.walkW })

/-- The state after an instruction that has run on. -/
def State.lodDone (s : State) (n : Fin 8) (len : Nat) (u : LodUse) : State := (s.modCore n (fun c => c.stepOn len)).lodUsed n u

theorem State.core_lodUsed (s : State) (n : Fin 8) (u : LodUse) :
    (s.lodUsed n u).core n = { s.core n with lastAcc := u.accW, lastWalk := u.walkW } := State.core_modCore_same _ _ _

theorem State.core_lodDone (s : State) (n : Fin 8) (len : Nat) (u : LodUse) :
    (s.lodDone n len u).core n = { (s.core n).stepOn len with lastAcc := u.accW, lastWalk := u.walkW } := by
  rw [State.lodDone, State.core_lodUsed, State.core_modCore_same]

theorem State.otherCores.lodDone {s t : State} {n : Fin 8} (h : s.otherCores t n) (len : Nat) (u : LodUse) : s.otherCores (t.lodDone n len u) n :=
  (h.modCore _).modCore _

/-- An issue whose effect and flow succeed, and which no STOP follows. -/
theorem State.lodIssue_ok {s s1 s2 : State} {n : Fin 8} {k : LodKind} {ok : Bool} {u : LodUse} {len : Nat} {f : LodFlow}
    {eff : State → Except LodTrap (State × LodFlow)} (h : s.lodRuns n k) (hlen : (if k == .long then 2 else 1) = len) (hok : ok = true)
    (heff : eff (s.lodAt n len u) = .ok (s1, f)) (hflow : s1.lodFlow n len f = .ok s2) (hstop : (s2.core n).stopReq = false) :
    s.lodIssue n k ok u eff = s2.lodUsed n u := by
  obtain ⟨hlive, hrun, -, hplace⟩ := h
  have hgo : (! (s.coreLive n && s.coreState n == cRUNNING)) = false := by rw [hlive, hrun]; rfl
  have hat : s.lodCycles n len (b2n ((u.accR &&& (s.core n).lastAcc) != 0 || (u.walkR &&& (s.core n).lastWalk) != 0)) = s.lodAt n len u := rfl
  have hsettle : (s2.lodUsed n u).settleStop n = s2.lodUsed n u := by
    refine if_neg ?_
    rw [State.core_lodUsed]
    simp [hstop]
  unfold State.lodIssue
  dsimp only
  rw [hgo, hlen, hok, hplace, hat, heff]
  simp only [Bool.not_true, Bool.or_self, Bool.false_eq_true, if_false, hflow]
  exact hsettle

/-- A command that issues an instruction completes with what its effect and its flow leave. -/
theorem Completes.of_issue {c : Instr} {s s1 s2 : State} {n : Fin 8} {k : LodKind} {ok : Bool} {u : LodUse} {len : Nat} {f : LodFlow}
    {eff : State → Except LodTrap (State × LodFlow)} {P : State → Prop} (he : exec c s = .next (s.lodIssue n k ok u eff)) (h : s.lodRuns n k)
    (hlen : (if k == .long then 2 else 1) = len) (hok : ok = true) (heff : eff (s.lodAt n len u) = .ok (s1, f))
    (hflow : s1.lodFlow n len f = .ok s2) (hstop : (s2.core n).stopReq = false) (hP : P (s2.lodUsed n u)) : Completes c s P :=
  ⟨_, he, by rw [State.lodIssue_ok h hlen hok heff hflow hstop]; exact hP⟩

theorem LodCore.stopReq_stepOn (c : LodCore) (len : Nat) : (c.stepOn len).stopReq = c.stopReq := by
  rw [LodCore.stepOn_of_flow (c := c) (c' := c) rfl rfl rfl rfl rfl]

/-- An instruction that runs on to the next word. -/
theorem Completes.of_runOn {c : Instr} {s s1 : State} {n : Fin 8} {k : LodKind} {ok : Bool} {u : LodUse} {len : Nat}
    {eff : State → Except LodTrap (State × LodFlow)} {P : State → Prop} (he : exec c s = .next (s.lodIssue n k ok u eff)) (h : s.lodRuns n k)
    (hlen : (if k == .long then 2 else 1) = len) (hok : ok = true) (heff : eff (s.lodAt n len u) = .ok (s1, .seq))
    (hstop : (s1.core n).stopReq = false) (hP : P (s1.lodDone n len u)) : Completes c s P :=
  .of_issue he h hlen hok heff rfl (by rw [State.core_modCore_same, LodCore.stopReq_stepOn]; exact hstop) hP

theorem State.lodRuns.stop {s : State} {n : Fin 8} {k : LodKind} (h : s.lodRuns n k) (len : Nat) (u : LodUse) :
    ((s.lodAt n len u).core n).stopReq = false := by
  obtain ⟨-, -, hstop, -⟩ := h
  rw [State.core_lodAt]
  exact hstop

/-- The core after an effect that leaves the five fields of its flow. -/
theorem State.core_lodDone_of {s s1 : State} {n : Fin 8} {c : LodCore} (h : s1.core n = c) (hpc : c.pc = (s.core n).pc) (hrep : c.rep = (s.core n).rep)
    (hdelay : c.delay = (s.core n).delay) (htarget : c.target = (s.core n).target) (hloops : c.loops = (s.core n).loops) (len : Nat) (u : LodUse) :
    (s1.lodDone n len u).core n =
      { c with pc := ((s.core n).stepOn len).pc, rep := ((s.core n).stepOn len).rep, delay := ((s.core n).stepOn len).delay,
               target := ((s.core n).stepOn len).target, loops := ((s.core n).stepOn len).loops, lastAcc := u.accW, lastWalk := u.walkW } := by
  rw [State.core_lodDone, h, LodCore.stepOn_of_flow hpc hrep hdelay htarget hloops]

/-- The core after a branch whose effect leaves the five fields of its flow. -/
theorem State.core_jump_of {s s1 : State} {n : Fin 8} {c : LodCore} (h : s1.core n = c) (hpc : c.pc = (s.core n).pc) (hrep : c.rep = (s.core n).rep)
    (hdelay : c.delay = (s.core n).delay) (htarget : c.target = (s.core n).target) (hloops : c.loops = (s.core n).loops) (a : Option Nat) (u : LodUse) :
    ((s1.modCore n (fun c => { c.stepOn 1 with delay := 2, target := a })).lodUsed n u).core n =
      { c with pc := ((s.core n).stepOn 1).pc, rep := ((s.core n).stepOn 1).rep, delay := 2, target := a,
               loops := ((s.core n).stepOn 1).loops, lastAcc := u.accW, lastWalk := u.walkW } := by
  rw [State.core_lodUsed, State.core_modCore_same, h, LodCore.stepOn_of_flow hpc hrep hdelay htarget hloops]

/-- A branch completes with its delay slots open. -/
theorem Completes.of_jump {c : Instr} {s s1 : State} {n : Fin 8} {k : LodKind} {ok : Bool} {u : LodUse} {a : Option Nat}
    {eff : State → Except LodTrap (State × LodFlow)} {P : State → Prop} (he : exec c s = .next (s.lodIssue n k ok u eff)) (h : s.lodRuns n k)
    (hlen : (if k == .long then 2 else 1) = 1) (hok : ok = true) (heff : eff (s.lodAt n 1 u) = .ok (s1, .jump a))
    (hstop : (s1.core n).stopReq = false) (hP : P ((s1.modCore n (fun c => { c.stepOn 1 with delay := 2, target := a })).lodUsed n u)) : Completes c s P :=
  .of_issue he h hlen hok heff rfl (by rw [State.core_modCore_same]; exact (LodCore.stopReq_stepOn _ _).trans hstop) hP

theorem State.get_modCore (s : State) (n : Fin 8) (f : LodCore → LodCore) (g : Fld) : (s.modCore n f).get g = s.get g := rfl

theorem State.sram_modCore (s : State) (n : Fin 8) (f : LodCore → LodCore) : (s.modCore n f).sram = s.sram := rfl

theorem State.get_lodUsed (s : State) (n : Fin 8) (u : LodUse) (g : Fld) : (s.lodUsed n u).get g = s.get g := rfl

theorem State.regs_lodDone (s : State) (n : Fin 8) (len : Nat) (u : LodUse) : (s.lodDone n len u).regs = s.regs := rfl

theorem State.sram_lodDone (s : State) (n : Fin 8) (len : Nat) (u : LodUse) : (s.lodDone n len u).sram = s.sram := rfl

theorem State.flag_lodDone (s : State) (n : Fin 8) (len : Nat) (u : LodUse) (g : Fld) : (s.lodDone n len u).flag g = s.flag g := rfl

theorem State.get_lodDone (s : State) (n : Fin 8) (len : Nat) (u : LodUse) (g : Fld) : (s.lodDone n len u).get g = s.get g := rfl

theorem State.flag_lodAt (s : State) (n : Fin 8) (len : Nat) (u : LodUse) (g : Fld) : (s.lodAt n len u).flag g = s.flag g := rfl

/-- The sources due on a core hang on its pending bits, its mask, its taps and the applied thresholds. -/
theorem State.irqDue_congr {s t : State} {n : Fin 8} (htimer : (t.core n).timer = (s.core n).timer) (hdoor : (t.core n).door = (s.core n).door)
    (hpeer : (t.core n).peer = (s.core n).peer) (himr : (t.core n).imr = (s.core n).imr) (happ : ∀ f, t.app f = s.app f)
    (htap : t.lod.tap = s.lod.tap) : t.irqDue n = s.irqDue n := by
  have hipr : t.ipr n = s.ipr n := by
    rw [State.ipr, State.ipr, State.tap, State.tap, State.tap, State.tap, htimer, hdoor, hpeer, happ, happ, htap]
  rw [State.irqDue, State.irqDue, hipr, himr]

/-- Core n alone has changed, and neither a register, a tap nor a byte of SRAM. -/
def State.quietFor (s t : State) (n : Fin 8) : Prop := s.otherCores t n ∧ t.regs = s.regs ∧ t.sram = s.sram

theorem State.regs_modCore (s : State) (n : Fin 8) (f : LodCore → LodCore) : (s.modCore n f).regs = s.regs := rfl

theorem State.quietFor.modCore {s t : State} {n : Fin 8} (h : s.quietFor t n) (f : LodCore → LodCore) : s.quietFor (t.modCore n f) n :=
  ⟨h.1.modCore f, (t.regs_modCore n f).trans h.2.1, (t.sram_modCore n f).trans h.2.2⟩

theorem State.quietFor.lodUsed {s t : State} {n : Fin 8} (h : s.quietFor t n) (u : LodUse) : s.quietFor (t.lodUsed n u) n := h.modCore _

theorem State.quietFor.lodDone {s t : State} {n : Fin 8} (h : s.quietFor t n) (len : Nat) (u : LodUse) : s.quietFor (t.lodDone n len u) n :=
  (h.modCore _).modCore _

theorem State.quietFor_lodAt (s : State) (n : Fin 8) (len : Nat) (u : LodUse) : s.quietFor (s.lodAt n len u) n :=
  State.quietFor.modCore ⟨.refl s n, rfl, rfl⟩ _

end Sys2Proof.Machine
end

section
/-! PROOFS. The Lodestar instructions of control (R348, R353, R361, R362, R367, R368, R373). -/

namespace Sys2Proof.Machine

/-- An instruction that does nothing else steps on. -/
theorem State.core_lodDone_lodAt (s : State) (n : Fin 8) (len : Nat) (u : LodUse) :
    ((s.lodAt n len u).lodDone n len u).core n = (s.core n).ranOn len u := by
  rw [State.core_lodDone_of (s := s) (s.core_lodAt n len u) rfl rfl rfl rfl rfl, LodCore.ranOn_eq]

/-- The core that has stepped on, before what it used is remembered. -/
theorem State.core_stepped (s : State) (n : Fin 8) (len : Nat) (u : LodUse) : ((s.lodAt n len u).modCore n (fun c => c.stepOn len)).core n =
    { (s.core n).counted len u with
      pc := ((s.core n).stepOn len).pc, rep := ((s.core n).stepOn len).rep, delay := ((s.core n).stepOn len).delay
      target := ((s.core n).stepOn len).target, loops := ((s.core n).stepOn len).loops } :=
  (State.core_modCore_of _ (s.core_lodAt n len u)).trans
    (LodCore.stepOn_of_flow (c := s.core n) (c' := (s.core n).counted len u) rfl rfl rfl rfl rfl len)

theorem State.flag_putB (s : State) {f : Fld} (b : Bool) (hw : f.lo + f.n ≤ 32) (hn : f.n = 1) : (s.putB f b).flag f = b := by
  cases b
  · exact State.flag_put_zero s f hw
  · exact State.flag_put_one s f hw hn

theorem State.core_putB (s : State) (f : Fld) (b : Bool) (n : Fin 8) : (s.putB f b).core n = s.core n := s.core_put f _ n

theorem State.core_setSr (s : State) (n : Fin 8) (v : Nat) : (s.setSr n v).core n =
    { s.core n with z := bit v 0, n := bit v 1, c := bit v 2, v := bit v 3, ie := bit v 7 } := by
  rw [State.setSr, State.core_putB, State.core_putB, State.core_putB, State.core_modCore_same]

theorem State.sram_setSr (s : State) (n : Fin 8) (v : Nat) : (s.setSr n v).sram = s.sram := by
  rw [State.setSr, State.putB, State.put_sram, State.putB, State.put_sram, State.putB, State.put_sram, State.sram_modCore]

/-- The operand of SIG names a core by its low bits. -/
theorem sig_operand : ∀ m : Fin 8, wbits (BitVec.ofNat 24 m) 3 21 = 0 ∧ fin8 (wbits (BitVec.ofNat 24 m) 0 3) = m := by decide

/-- SR written: the sticky flags. -/
theorem State.setSr_flags (s : State) (n : Fin 8) (v : Nat) : (s.setSr n v).flag (LOD_STAT.V24 n) = bit v 4
    ∧ (s.setSr n v).flag (LOD_STAT.V56 n) = bit v 5 ∧ (s.setSr n v).flag (LOD_STAT.SAT n) = bit v 6 := by
  have hne (x : State) (b : Bool) {lo lo' : Nat} (h : lo < 32) (hl : lo ≠ lo') :
      (x.putB ⟨LOD_STAT.addr n, lo, 1⟩ b).flag ⟨LOD_STAT.addr n, lo', 1⟩ = x.flag ⟨LOD_STAT.addr n, lo', 1⟩ :=
    State.flag_eq_get (State.get_put_apart _ _ _ _ h (.inr (by show lo + 1 ≤ lo' ∨ lo' + 1 ≤ lo; omega)))
  have hs (x : State) (b : Bool) {lo : Nat} (h : lo < 32) : (x.putB ⟨LOD_STAT.addr n, lo, 1⟩ b).flag ⟨LOD_STAT.addr n, lo, 1⟩ = b :=
    State.flag_putB x b h rfl
  unfold State.setSr
  exact ⟨(hne _ _ (by decide) (by decide)).trans ((hne _ _ (by decide) (by decide)).trans (hs _ _ (by decide))),
    (hne _ _ (by decide) (by decide)).trans (hs _ _ (by decide)), hs _ _ (by decide)⟩

theorem State.otherCores.putB {s t : State} {n : Fin 8} (h : s.otherCores t n) (f : Fld) (b : Bool) : s.otherCores (t.putB f b) n := h.put f _

theorem State.otherCores.setSr {s t : State} {n : Fin 8} (h : s.otherCores t n) (v : Nat) : s.otherCores (t.setSr n v) n :=
  (((h.modCore _).putB _ _).putB _ _).putB _ _

/-- TRAP halts the core with its cause, and keeps its code and address. -/
theorem State.lodEnd_trap (s : State) (n : Fin 8) (pc a : Nat) : (s.lodEnd n 8 pc a).coreState n = cHALTED
    ∧ (s.lodEnd n 8 pc a).get (LOD_STAT.CAUSE n) = 8 ∧ (s.lodEnd n 8 pc a).get (LOD_STAT.TCODE n) = s.get (LOD_STAT.TCODE n)
    ∧ (s.lodEnd n 8 pc a).get (LOD_PC.PC n) = pc % 2 ^ 15 ∧ s.otherCores (s.lodEnd n 8 pc a) n ∧ (s.lodEnd n 8 pc a).sram = s.sram := by
  have hp : LOD_STAT.addr n ≠ LOD_PC.addr n := by unfold LOD_STAT.addr LOD_PC.addr; omega
  have hm : LOD_STAT.addr n ≠ LOD_MAXINV.addr n := by unfold LOD_STAT.addr LOD_MAXINV.addr; omega
  have hend (x : State) (b : Bool) : (if b then x.endInvoc n else x).get (LOD_STAT.TCODE n) = x.get (LOD_STAT.TCODE n)
      ∧ x.otherCores (if b then x.endInvoc n else x) n ∧ (if b then x.endInvoc n else x).sram = x.sram := by
    cases b
    · exact ⟨rfl, .refl _ _, rfl⟩
    · exact ⟨State.get_put_reg _ _ _ _ hm, (State.otherCores.refl x n).put _ _, State.put_sram _ _ _⟩
  obtain ⟨h1, h2, h3⟩ := hend s (s.coreState n == cRUNNING)
  simp only [State.lodEnd, Nat.reduceBEq, Bool.false_eq_true, if_false]
  generalize (if s.coreState n == cRUNNING then s.endInvoc n else s) = y at h1 h2 h3
  generalize (BitVec.toNat _) = x
  have k := Kept.fltInfo (.raiseIrq (.refl ⟨false, [0x15, 0x1B], [], [.flt]⟩ (State.put (State.modCore ((y.put (LOD_STAT.CAUSE n) 8).put
    (LOD_PC.PC n) pc) n (fun c => { c with stopReq := false })) (LOD_STAT.STATE n) cHALTED)) (by decide) (72 + n)) (by decide) 0x14 n 0x10
    (tileLoc (n.val / 2) (5 + n.val % 2) 0) x
  have hw := Foot.word_of_win (F := ⟨false, [0x15, 0x1B], [], [.flt]⟩) (LOD_STAT.addr_win n) rfl
  have hs : (3 : Nat) ≤ 32 := by decide
  refine ⟨(k.get_of (g := LOD_STAT.STATE n) hw).trans (State.get_put_same _ _ _ (by show 0 + 3 ≤ 32; decide)), (k.get_of (g := LOD_STAT.CAUSE n) hw).trans ?_,
    (k.get_of (g := LOD_STAT.TCODE n) hw).trans ?_, (k.get_of (g := LOD_PC.PC n) (Foot.word_of_win (LOD_PC.addr_win n) rfl)).trans ?_, ?_, ?_⟩
  · refine (State.get_put_apart _ _ _ _ (by show 0 + 3 ≤ 32; decide) (.inr (.inl (by show 0 + 3 ≤ 16; decide)))).trans ?_
    refine (State.get_modCore _ _ _ _).trans ((State.get_put_reg _ _ _ _ hp).trans ?_)
    exact State.get_put_same _ _ _ (by show 16 + 4 ≤ 32; decide)
  · refine (State.get_put_apart _ _ _ _ (by show 0 + 3 ≤ 32; decide) (.inr (.inl (by show 0 + 3 ≤ 24; decide)))).trans ?_
    refine (State.get_modCore _ _ _ _).trans ((State.get_put_reg _ _ _ _ hp).trans ?_)
    exact (State.get_put_apart _ _ _ _ (by show 16 + 4 ≤ 32; decide) (.inr (.inl (by show 16 + 4 ≤ 24; decide)))).trans h1
  · refine (State.get_put_reg _ _ _ _ hp.symm).trans ((State.get_modCore _ _ _ _).trans ?_)
    exact State.get_put_same _ _ _ (by show 0 + 15 ≤ 32; decide)
  · exact ((((h2.put _ _).put _ _).modCore _).put _ _).trans (.of_lod (k.part_of .lod rfl) n)
  · rw [k.part_of .sram rfl, State.put_sram, State.sram_modCore, State.put_sram, State.put_sram]; exact h3

/-- Settles O27: each instruction by its effect on the core and the flags it puts. -/
theorem lodestarCtrl : Obligations.LodestarCtrl := by
  intro s n
  refine ⟨fun h => ?_, fun h => ?_, fun h => ?_, fun h => ?_, fun h => ?_, fun m h hm hoff => ?_, fun a r h hr => ?_, fun a r h hr => ?_,
    fun h hie hirq => ?_, fun w h hw => ?_⟩
  · exact .of_runOn rfl h rfl rfl rfl (h.stop 1 {}) ⟨s.core_lodDone_lodAt n 1 {}, (s.quietFor_lodAt n 1 {}).lodDone 1 {}⟩
  · refine .of_runOn (len := 1) rfl h rfl rfl rfl (by rw [State.core_modCore_same]; exact h.stop 1 {}) ⟨?_, ((s.quietFor_lodAt n 1 {}).modCore _).lodDone 1 {}⟩
    refine (State.core_lodDone_of (s := s) (State.core_modCore_of _ (s.core_lodAt n 1 {})) rfl rfl rfl rfl rfl 1 {}).trans ?_
    beta_reduce; rw [LodCore.ranOn_eq]
  · refine .of_runOn (len := 1) rfl h rfl rfl rfl (by rw [State.core_modCore_same]; exact h.stop 1 {}) ⟨?_, ((s.quietFor_lodAt n 1 {}).modCore _).lodDone 1 {}⟩
    refine (State.core_lodDone_of (s := s) (State.core_modCore_of _ (s.core_lodAt n 1 {})) rfl rfl rfl rfl rfl 1 {}).trans ?_
    beta_reduce; rw [LodCore.ranOn_eq]
  · have hstat (x : State) (v : Nat) {lo lo' : Nat} (hb : lo < 32) (hl : lo ≠ lo') :
        (x.put ⟨LOD_STAT.addr n, lo, 1⟩ v).get ⟨LOD_STAT.addr n, lo', 1⟩ = x.get ⟨LOD_STAT.addr n, lo', 1⟩ :=
      State.get_put_apart _ _ _ _ hb (.inr (by show lo + 1 ≤ lo' ∨ lo' + 1 ≤ lo; omega))
    refine .of_runOn (len := 1) rfl h rfl rfl rfl (by rw [State.core_put, State.core_put]; exact h.stop 1 {})
      ⟨?_, (((s.otherCores_lodAt n 1 {}).put _ _).put _ _).lodDone 1 {}, ?_, ?_, ?_, ?_⟩
    · refine (State.core_lodDone_of (s := s) (((State.core_put _ _ _ n).trans (State.core_put _ _ _ n)).trans (s.core_lodAt n 1 {})) rfl rfl rfl rfl rfl
        1 {}).trans ?_
      beta_reduce; rw [LodCore.ranOn_eq]
    · exact (State.get_lodDone _ _ _ _ _).trans ((hstat _ 0 (by decide) (by decide)).trans (State.get_put_same _ _ _ (by show 7 + 1 ≤ 32; decide)))
    · exact (State.get_lodDone _ _ _ _ _).trans (State.get_put_same _ _ _ (by show 8 + 1 ≤ 32; decide))
    · exact (State.get_lodDone _ _ _ _ _).trans ((hstat _ 0 (by decide) (by decide)).trans (hstat _ 0 (by decide) (by decide)))
    · rw [State.sram_lodDone, State.put_sram, State.put_sram]; exact (s.quietFor_lodAt n 1 {}).2.2
  · have k (x : State) := Kept.raiseIrq (.refl _ x) (Foot.le_refl _) (64 + n)
    have hlod (x : State) : ((x.put (LOD_STAT.HOSTEV n) 1).raiseIrq (64 + n)).lod = x.lod := ((k _).part_of .lod rfl).trans (State.put_lod _ _ _)
    refine .of_runOn (len := 1) rfl h rfl rfl rfl (by rw [State.core_of_lod (hlod _)]; exact h.stop 1 {})
      ⟨?_, ((s.otherCores_lodAt n 1 {}).trans (.of_lod (hlod _) n)).lodDone 1 {}, ?_, ?_⟩
    · refine (State.core_lodDone_of (s := s) ((State.core_of_lod (hlod _) n).trans (s.core_lodAt n 1 {})) rfl rfl rfl rfl rfl 1 {}).trans ?_
      beta_reduce; rw [LodCore.ranOn_eq]
    · refine (State.flag_lodDone _ _ _ _ _).trans ((State.flag_eq_get ((k _).get_of (g := LOD_STAT.HOSTEV n)
        (Foot.word_of_win (LOD_STAT.addr_win n) rfl))).trans ?_)
      exact State.flag_put_one _ _ (by show 13 + 1 ≤ 32; decide) rfl
    · rw [State.sram_lodDone, (k _).part_of .sram rfl, State.put_sram]; exact (s.quietFor_lodAt n 1 {}).2.2
  · obtain ⟨hok, hm'⟩ := sig_operand m
    have h0 : ((s.lodAt n 1 {}).coreState m == 0) = false := beq_eq_false_iff_ne.mpr hoff
    obtain ⟨y, hy⟩ : ∃ y, y = (s.lodAt n 1 {}).modCore m (fun c => { c with peers := c.peers ||| BitVec.ofNat 8 (2 ^ n.val), peer := true }) := ⟨_, rfl⟩
    have heff : runOn (fun s : State => let k := fin8 (wbits (BitVec.ofNat 24 m) 0 3)
        if s.coreState k == 0 then s else s.modCore k (fun c => { c with peers := c.peers ||| BitVec.ofNat 8 (2 ^ n.val), peer := true }))
        (s.lodAt n 1 {}) = .ok (y, .seq) := by
      simp only [runOn, hm', h0, Bool.false_eq_true, if_false, hy]
    have hcn : y.core n = (s.lodAt n 1 {}).core n := by rw [hy]; exact State.core_modCore_ne _ _ hm.symm
    have hcm : y.core m = { s.core m with peers := (s.core m).peers ||| BitVec.ofNat 8 (2 ^ n.val), peer := true } := by
      rw [hy, State.core_modCore_of _ ((s.otherCores_lodAt n 1 {}).1 m hm)]
    have hrest (k : Fin 8) (hn : k ≠ n) (hk : k ≠ m) : y.core k = s.core k := by
      rw [hy]; exact (State.core_modCore_ne _ _ hk).trans ((s.otherCores_lodAt n 1 {}).1 k hn)
    have hdone := (State.otherCores.refl y n).lodDone 1 {}
    have hq : y.regs = s.regs ∧ y.sram = s.sram := by rw [hy]; exact ⟨State.regs_modCore _ _ _, State.sram_modCore _ _ _⟩
    refine .of_runOn (len := 1) rfl h rfl (by rw [hok]; rfl) heff (by rw [hcn]; exact h.stop 1 {})
      ⟨?_, (hdone.1 m hm).trans hcm, fun k hn hk => (hdone.1 k hn).trans (hrest k hn hk), (State.regs_lodDone _ _ _ _).trans hq.1,
        (State.sram_lodDone _ _ _ _).trans hq.2⟩
    refine (State.core_lodDone_of (s := s) (hcn.trans (s.core_lodAt n 1 {})) rfl rfl rfl rfl rfl 1 {}).trans ?_
    beta_reduce; rw [LodCore.ranOn_eq]
  · refine .of_jump (a := some a) (s1 := (s.lodAt n 1 {}).modCore n (fun c => { c with rets := r })) rfl h rfl rfl ?_
      (by rw [State.core_modCore_same]; exact h.stop 1 {}) ⟨?_, (((s.quietFor_lodAt n 1 {}).modCore _).modCore _).lodUsed {}⟩
    · have h0 : ((s.lodAt n 1 {}).core n).rets = a :: r := by rw [s.core_lodAt]; exact hr
      dsimp only [State.popRet]
      rw [h0]
    · refine (State.core_jump_of (s := s) (State.core_modCore_of _ (s.core_lodAt n 1 {})) rfl rfl rfl rfl rfl (some a) {}).trans ?_
      beta_reduce; rw [LodCore.ranOn_eq]
  · obtain ⟨h24, h56, hsat⟩ := (s.lodAt n 1 {}).setSr_flags n (s.core n).shadow.toNat
    have hsh : ((s.lodAt n 1 {}).core n).shadow = (s.core n).shadow := by rw [s.core_lodAt]; rfl
    have hc := (s.lodAt n 1 {}).core_setSr n (s.core n).shadow.toNat
    rw [s.core_lodAt] at hc
    have hcore := State.core_modCore_of (fun c => { c with rets := r }) hc
    refine .of_jump (a := some a) (s1 := ((s.lodAt n 1 {}).setSr n (s.core n).shadow.toNat).modCore n (fun c => { c with rets := r })) rfl h rfl rfl ?_
      (by rw [hcore]; exact h.2.2.1) ⟨?_, ((((s.otherCores_lodAt n 1 {}).setSr _).modCore _).modCore _).modCore _, h24, h56, hsat, ?_⟩
    · have h0 : (((s.lodAt n 1 {}).setSr n (s.core n).shadow.toNat).core n).rets = a :: r := by rw [hc]; exact hr
      dsimp only [State.popRet]
      rw [hsh, h0]
    · refine (State.core_jump_of (s := s) hcore rfl rfl rfl rfl rfl (some a) {}).trans ?_
      beta_reduce; rw [LodCore.ranOn_eq]
    · rw [State.lodUsed, State.sram_modCore, State.sram_modCore, State.sram_modCore, State.sram_setSr]
      exact (s.quietFor_lodAt n 1 {}).2.2
  · obtain ⟨y, hy⟩ : ∃ y, y = (s.lodAt n 1 {}).modCore n (fun c => c.stepOn 1) := ⟨_, rfl⟩
    have hcy := s.core_stepped n 1 {}
    rw [← hy] at hcy
    have hq : s.quietFor y n := by rw [hy]; exact (s.quietFor_lodAt n 1 {}).modCore _
    have hdue : y.irqDue n = none := by
      rw [State.irqDue_congr (s := s) (by rw [hcy]; rfl) (by rw [hcy]; rfl) (by rw [hcy]; rfl) (by rw [hcy]; rfl) (fun f => by rw [hy]; rfl) hq.1.2]; exact hirq
    have hie0 : ((s.lodAt n 1 {}).core n).ie = true := by rw [s.core_lodAt]; exact hie
    have hflow : (s.lodAt n 1 {}).lodFlow n 1 .wait = .ok ((y.endInvoc n).put (LOD_STAT.STATE n) cWAITING) := by
      simp only [State.lodFlow, hie0, ← hy, hdue, Bool.not_true, Bool.false_eq_true, if_false]
    have hcore : ((y.endInvoc n).put (LOD_STAT.STATE n) cWAITING).core n = y.core n := (State.core_put _ _ _ n).trans (State.core_put _ _ _ n)
    have hstall : (s.core n).stall {} = 0 := by simp [LodCore.stall, b2n]
    have hm : LOD_MAXINV.addr n ≠ LOD_STAT.addr n := by unfold LOD_STAT.addr LOD_MAXINV.addr; omega
    refine .of_issue rfl h rfl rfl rfl hflow (by rw [hcore, hcy]; exact h.2.2.1) ⟨?_, ?_, ((hq.1.put _ _).put _ _).modCore _, ?_, ?_⟩
    · exact (State.get_lodUsed _ _ _ _).trans (State.get_put_same _ _ _ (by show 0 + 3 ≤ 32; decide))
    · rw [State.core_lodUsed, hcore, hcy]
      beta_reduce; rw [LodCore.ranOn_eq]
    · refine (State.get_lodUsed _ _ _ _).trans ((State.get_put_reg _ _ _ _ hm).trans ((State.get_put_same _ _ _ (by show 0 + 24 ≤ 32; decide)).trans ?_))
      have hlt : s.get (LOD_MAXINV.MAXINV n) < 2 ^ 24 := bitsOf_lt _ _ _
      have hicyc : (y.core n).icyc = (s.core n).icyc + 1 := by rw [hcy]; show (s.core n).icyc + 1 + (s.core n).stall {} = _; rw [hstall]
      rw [State.get_of_regs hq.2.1, hicyc]
      exact Nat.mod_eq_of_lt (show _ < 2 ^ 24 by omega)
    · rw [State.lodUsed, State.sram_modCore, State.put_sram, State.endInvoc, State.put_sram]; exact hq.2.2
  · have hq : s.quietFor (s.lodCycles n 1 0) n := State.quietFor.modCore ⟨.refl s n, rfl, rfl⟩ _
    obtain ⟨h1, h2, h3, h4, h5, h6⟩ := ((s.lodCycles n 1 0).put (LOD_STAT.TCODE n) (wbits w 0 8)).lodEnd_trap n (s.core n).pc 0
    have hcode : wbits w 0 8 < 2 ^ 8 := Nat.mod_lt _ (by decide)
    have he : exec (.trap n w) s = .next (((s.lodCycles n 1 0).put (LOD_STAT.TCODE n) (wbits w 0 8)).lodEnd n 8 (s.core n).pc 0) := by
      obtain ⟨hlive, hrun, -, -⟩ := h
      simp only [exec, execTrap, hlive, hrun, hw, beq_self_eq_true, Bool.and_self, Bool.not_true, bne_self_eq_false, Bool.false_eq_true, if_false]
    refine ⟨_, he, h1, h2, h3.trans ((State.get_put_same _ _ _ (by show 24 + 8 ≤ 32; decide)).trans (Nat.mod_eq_of_lt hcode)), h4, (hq.1.put _ _).trans h5, ?_⟩
    rw [h6, State.put_sram]; exact hq.2.2

end Sys2Proof.Machine
end

section
/-! PROOFS. The Lodestar branches, calls and repeats (R349 to R354). -/

namespace Sys2Proof.Machine

/-- Counting cycles leaves the conditions of a branch. -/
theorem State.lodCond_lodAt (s : State) (n : Fin 8) (len : Nat) (u : LodUse) (code : Nat) : (s.lodAt n len u).lodCond n code = s.lodCond n code := by
  unfold State.lodCond
  rw [State.core_lodAt]
  rfl

theorem State.dreg_lodAt (s : State) (n : Fin 8) (len : Nat) (u : LodUse) (k : Nat) : (s.lodAt n len u).dreg n k = s.dreg n k := by
  rw [State.dreg, State.dreg, State.core_lodAt]
  rfl

theorem State.repCount_lodAt (s : State) (n : Fin 8) (len : Nat) (u : LodUse) (w : BitVec 27) :
    (s.lodAt n len u).repCount n w = s.repCount n w := by
  rw [State.repCount, State.repCount, State.dreg_lodAt]

/-- Outside a repetition and a delay slot the program counter steps by the loops alone. -/
theorem LodCore.stepOn_of_plain {c : LodCore} (hrep : c.rep = 0) (hdelay : c.delay = 0) (len : Nat) : c.stepOn len = c.next len := by
  cases c
  simp only at hrep hdelay
  subst hrep hdelay
  rfl

/-- REP and LOOP stand neither under a repetition nor in a delay slot. -/
theorem LodCore.plain_of_repeats {c : LodCore} {k : LodKind} (hk : k = .repeats ∨ k = .loops) (h : c.illegalHere k = false) :
    c.rep = 0 ∧ c.delay = 0 := by
  rcases hk with rfl | rfl <;> simp_all [LodCore.illegalHere]

/-- Settles O28: a branch by its delay slots, a repeat by the core outside repetitions. -/
theorem lodestarFlow : Obligations.LodestarFlow := by
  intro s n
  have hjump {c : Instr} {k : LodKind} {ok : Bool} {a : Option Nat} {eff : State → Except LodTrap (State × LodFlow)}
      (he : exec c s = .next (s.lodIssue n k ok {} eff)) (h : s.lodRuns n k) (hlen : (if k == .long then 2 else 1) = 1) (hok : ok = true)
      (heff : eff (s.lodAt n 1 {}) = .ok (s.lodAt n 1 {}, .jump a)) :
      Completes c s (fun t => t.core n = { (s.core n).ranOn 1 {} with delay := 2, target := a } ∧ s.quietFor t n) := by
    refine .of_jump he h hlen hok heff (h.stop 1 {}) ⟨?_, ((s.quietFor_lodAt n 1 {}).modCore _).lodUsed {}⟩
    refine (State.core_jump_of (s := s) (s.core_lodAt n 1 {}) rfl rfl rfl rfl rfl a {}).trans ?_
    rw [LodCore.ranOn_eq]
  refine ⟨fun w h hw => ⟨hjump rfl h rfl (by rw [hw]; rfl) rfl, fun hc => ?_, fun hr => ?_⟩, fun w k h hw hk => ?_, fun w k h hw hpc hk hl => ?_⟩
  · exact hjump rfl h rfl (by rw [hw, decide_eq_true hc]; rfl) (by rw [State.lodCond_lodAt])
  · have h0 : ¬ 16 ≤ ((s.lodAt n 1 {}).core n).rets.length := by rw [s.core_lodAt]; exact Nat.not_le.mpr hr
    refine .of_jump (s1 := (s.lodAt n 1 {}).modCore n (fun c => { c with rets := (c.pc + 3) % 2 ^ 15 :: c.rets })) (a := some (wbits w 0 15)) rfl h rfl
      (by rw [hw]; rfl) (if_neg h0) (by rw [State.core_modCore_same]; exact h.stop 1 {}) ⟨?_, (((s.quietFor_lodAt n 1 {}).modCore _).modCore _).lodUsed {}⟩
    refine (State.core_jump_of (s := s) (State.core_modCore_of _ (s.core_lodAt n 1 {})) rfl rfl rfl rfl rfl _ {}).trans ?_
    beta_reduce; rw [LodCore.ranOn_eq]
    rfl
  · obtain ⟨hrep, hdelay⟩ := LodCore.plain_of_repeats (.inl rfl) h.2.2.2
    have hnext : ((s.core n).counted 1 {}).next 1 = { (s.core n).counted 1 {} with
        pc := ((s.core n).stepOn 1).pc, rep := ((s.core n).stepOn 1).rep, delay := ((s.core n).stepOn 1).delay
        target := ((s.core n).stepOn 1).target, loops := ((s.core n).stepOn 1).loops } :=
      (LodCore.stepOn_of_plain (c := (s.core n).counted 1 {}) hrep hdelay 1).symm.trans
        (LodCore.stepOn_of_flow (c := s.core n) (c' := (s.core n).counted 1 {}) rfl rfl rfl rfl rfl 1)
    have hcount : (s.lodAt n 1 {}).repCount n w = .ok k := (s.repCount_lodAt n 1 {} w).trans hk
    have hstop : (((s.core n).counted 1 {}).next 1).stopReq = false := by rw [hnext]; exact h.2.2.1
    have heff : (match (s.lodAt n 1 {}).repCount n w with
        | .ok k => .ok (s.lodAt n 1 {}, .rep k)
        | .error t => .error t : Except LodTrap (State × LodFlow)) = .ok (s.lodAt n 1 {}, .rep k) := by rw [hcount]
    have hq (f : LodCore → LodCore) := ((s.quietFor_lodAt n 1 {}).modCore f).lodUsed {}
    match k with
    | 0 =>
      refine .of_issue rfl h rfl (by rw [hw]; rfl) heff rfl (by rw [State.core_modCore_of _ (s.core_lodAt n 1 {})]; exact hstop) ⟨?_, hq _⟩
      rw [State.core_lodUsed, State.core_modCore_of _ (s.core_lodAt n 1 {}), hnext]
      beta_reduce; rw [if_pos rfl, LodCore.ranOn_eq]
    | k + 1 =>
      refine .of_issue rfl h rfl (by rw [hw]; rfl) heff rfl (by rw [State.core_modCore_of _ (s.core_lodAt n 1 {})]; exact hstop) ⟨?_, hq _⟩
      rw [State.core_lodUsed, State.core_modCore_of _ (s.core_lodAt n 1 {}), hnext]
      beta_reduce; rw [if_neg (Nat.succ_ne_zero k), LodCore.ranOn_eq]
  · have hcount : (s.lodAt n 1 {}).repCount n w = .ok k := (s.repCount_lodAt n 1 {} w).trans hk
    have hok : (wbits w 15 1 == 0 && decide ((s.core n).pc < wbits w 0 15)) = true := by rw [hw, decide_eq_true hpc]; rfl
    have heff : (match (s.lodAt n 1 {}).repCount n w with
        | .ok k => .ok (s.lodAt n 1 {}, .loop k (wbits w 0 15))
        | .error t => .error t : Except LodTrap (State × LodFlow)) = .ok (s.lodAt n 1 {}, .loop k (wbits w 0 15)) := by rw [hcount]
    have hq (f : LodCore → LodCore) := ((s.quietFor_lodAt n 1 {}).modCore f).lodUsed {}
    have hcore (f : LodCore → LodCore) : (((s.lodAt n 1 {}).modCore n f).lodUsed n {}).core n = { f ((s.core n).counted 1 {}) with lastAcc := 0, lastWalk := 0 } := by
      rw [State.core_lodUsed, State.core_modCore_of _ (s.core_lodAt n 1 {})]
    match k with
    | 0 =>
      refine .of_issue rfl h rfl hok heff rfl (by rw [State.core_modCore_of _ (s.core_lodAt n 1 {})]; exact h.2.2.1) ⟨hq _, ?_⟩
      rw [hcore]
      exact ⟨rfl, rfl, rfl, rfl, rfl, rfl⟩
    | k + 1 =>
      have h4 : ¬ 4 ≤ ((s.lodAt n 1 {}).core n).loops.length := by rw [s.core_lodAt]; exact Nat.not_le.mpr hl
      refine .of_issue rfl h rfl hok heff (if_neg h4) (by rw [State.core_modCore_of _ (s.core_lodAt n 1 {})]; exact h.2.2.1) ⟨hq _, ?_⟩
      rw [hcore]
      exact ⟨rfl, rfl, rfl, rfl, rfl, rfl⟩

end Sys2Proof.Machine
end

section
/-! PROOFS. The Lodestar ALU, on registers and on an immediate (R342, R348). -/

namespace Sys2Proof.Machine

/-- An ALU result lands: its destination, if there is one, and its flags. -/
def State.aluDone (s : State) (n : Fin 8) (dst : Option Nat) (x : AluRes) : State :=
  (dst.elim s (fun r => s.setDreg n r x.r)).aluFlags n x.r x.carry x.wrap

theorem State.aluFlags_eq (s : State) (n : Fin 8) (r : BitVec 24) (carry : Option Bool) (wrap : Bool) : s.aluFlags n r carry wrap =
    ((if carry.isSome then s else s.drawFree).modCore n
      (fun k => { k with z := r == 0, n := r.msb, c := carry.getD (s.free.getLsbD 0), v := wrap })).stick (LOD_STAT.V24 n) wrap := by
  cases carry <;> rfl

theorem State.sram_stick (s : State) (f : Fld) (b : Bool) : (s.stick f b).sram = s.sram := by
  cases b
  · rfl
  · exact State.put_sram _ _ _

/-- What an ALU result leaves of the core, of its neighbours and of V24. -/
theorem State.aluDone_fields {s : State} {n : Fin 8} {c : LodCore} (hc : s.core n = c) (dst : Option Nat) (x : AluRes) :
    (s.aluDone n dst x).core n = { c with
        d := dst.elim c.d (fun r => vset c.d (fin16 r) x.r), z := x.r == 0, n := x.r.msb, c := x.carry.getD (s.free.getLsbD 0), v := x.wrap }
      ∧ s.otherCores (s.aluDone n dst x) n ∧ (s.aluDone n dst x).sram = s.sram
      ∧ (s.aluDone n dst x).flag (LOD_STAT.V24 n) = (s.flag (LOD_STAT.V24 n) || x.wrap) := by
  have hdst : (dst.elim s (fun r => s.setDreg n r x.r)).core n = { c with d := dst.elim c.d (fun r => vset c.d (fin16 r) x.r) }
      ∧ s.quietFor (dst.elim s (fun r => s.setDreg n r x.r)) n ∧ (dst.elim s (fun r => s.setDreg n r x.r)).free = s.free := by
    cases dst with
    | none => exact ⟨hc, ⟨.refl s n, rfl, rfl⟩, rfl⟩
    | some r => exact ⟨State.core_modCore_of _ hc, State.quietFor.modCore ⟨.refl s n, rfl, rfl⟩ _, rfl⟩
  have hdraw (y : State) (b : Bool) : (if b then y else y.drawFree).core n = y.core n ∧ y.quietFor (if b then y else y.drawFree) n := by
    cases b <;> exact ⟨rfl, ⟨fun _ _ => rfl, rfl⟩, rfl, rfl⟩
  obtain ⟨h1, h2, h3⟩ := hdst
  rw [State.aluDone, State.aluFlags_eq, h3]
  generalize dst.elim s (fun r => s.setDreg n r x.r) = y at h1 h2
  obtain ⟨k1, k2, k3, k4⟩ := hdraw y x.carry.isSome
  refine ⟨?_, ?_, ?_, ?_⟩
  · rw [State.core_stick, State.core_modCore_of _ (k1.trans h1)]
  · exact ((h2.1.trans k2).modCore _).trans (.of_lod (State.lod_stick _ _ _) n)
  · rw [State.sram_stick, State.sram_modCore, k4]; exact h2.2.2
  · rw [State.flag_stick _ _ (by show 7 + 1 ≤ 32; decide) rfl]
    have hr : (State.modCore (if x.carry.isSome then y else y.drawFree) n (fun k => { k with
        z := x.r == 0, n := x.r.msb, c := x.carry.getD (s.free.getLsbD 0), v := x.wrap })).regs = s.regs :=
      (State.regs_modCore _ _ _).trans (k3.trans h2.2.1)
    rw [State.flag_eq_get (State.get_of_regs hr _)]

/-- What an ALU instruction leaves. -/
def State.aluResult (n : Fin 8) (s : State) (dst : Option Nat) (x : AluRes) (t : State) : Prop :=
  t.core n = { (s.core n).ranOn 1 {} with
      d := dst.elim (s.core n).d (fun r => vset (s.core n).d (fin16 r) x.r)
      z := x.r == 0, n := x.r.msb, c := x.carry.getD (s.free.getLsbD 0), v := x.wrap }
    ∧ s.otherCores t n ∧ t.sram = s.sram ∧ t.flag (LOD_STAT.V24 n) = (s.flag (LOD_STAT.V24 n) || x.wrap)

/-- The result of an ALU instruction that steps on; x' is the result as the free values at hand give it. -/
theorem State.aluResult_lodDone {s y : State} {n : Fin 8} (hc : y.core n = (s.core n).counted 1 {}) (hq : s.quietFor y n) (dst : Option Nat)
    {x x' : AluRes} (hr : x'.r = x.r) (hw : x'.wrap = x.wrap) (hcarry : x'.carry.getD (y.free.getLsbD 0) = x.carry.getD (s.free.getLsbD 0)) :
    State.aluResult n s dst x ((y.aluDone n dst x').lodDone n 1 {}) := by
  obtain ⟨h1, h2, h3, h4⟩ := State.aluDone_fields hc dst x'
  rw [hr, hw, hcarry] at h1
  obtain ⟨hothers, hregs, hsram⟩ := hq
  refine ⟨?_, (hothers.trans h2).lodDone 1 {}, ?_, ?_⟩
  · refine (State.core_lodDone_of (s := s) h1 rfl rfl rfl rfl rfl 1 {}).trans ?_
    rw [LodCore.ranOn_eq]
    rfl
  · rw [State.sram_lodDone, h3]; exact hsram
  · rw [State.flag_lodDone, h4, hw, State.flag_eq_get (State.get_of_regs hregs _)]

/-- An instruction whose effect is an ALU result. -/
theorem Completes.of_alu {c : Instr} {s y : State} {n : Fin 8} {ok : Bool} {g : State → State} {dst : Option Nat} {x x' : AluRes}
    (he : exec c s = .next (s.lodIssue n .plain ok {} (runOn g))) (h : s.lodRuns n .plain) (hok : ok = true)
    (hg : g (s.lodAt n 1 {}) = y.aluDone n dst x') (hc : y.core n = (s.core n).counted 1 {}) (hq : s.quietFor y n)
    (hr : x'.r = x.r) (hw : x'.wrap = x.wrap) (hcarry : x'.carry.getD (y.free.getLsbD 0) = x.carry.getD (s.free.getLsbD 0)) :
    Completes c s (State.aluResult n s dst x) := by
  obtain ⟨h1, -, -, -⟩ := State.aluDone_fields hc dst x'
  refine .of_runOn (len := 1) he h rfl hok (congrArg (fun t => Except.ok (t, LodFlow.seq)) hg) ?_ (State.aluResult_lodDone hc hq dst hr hw hcarry)
  rw [h1]; exact h.2.2.1

theorem Completes.of_alu_lodAt {c : Instr} {s : State} {n : Fin 8} {ok : Bool} {g : State → State} {dst : Option Nat} {x : AluRes}
    (he : exec c s = .next (s.lodIssue n .plain ok {} (runOn g))) (h : s.lodRuns n .plain) (hok : ok = true)
    (hg : g (s.lodAt n 1 {}) = (s.lodAt n 1 {}).aluDone n dst x) : Completes c s (State.aluResult n s dst x) :=
  .of_alu he h hok hg (s.core_lodAt n 1 {}) (s.quietFor_lodAt n 1 {}) rfl rfl rfl

theorem Completes.of_aluOp {c : Instr} {s : State} {n : Fin 8} {w : BitVec 23} {cmp : Bool} {f : BitVec 24 → BitVec 24 → AluRes}
    (he : exec c s = .next (s.aluOp n w cmp f)) (h : s.lodRuns n .plain) (hw : wbits w 0 11 = 0) :
    Completes c s (State.aluResult n s (if cmp then none else some (wbits w 19 4)) (f (s.dreg n (wbits w 15 4)) (s.dreg n (wbits w 11 4)))) := by
  refine .of_alu_lodAt he h (by rw [hw]; rfl) ?_
  rw [← s.dreg_lodAt n 1 {}, ← s.dreg_lodAt n 1 {}]
  cases cmp <;> rfl

theorem Completes.of_aluShift {c : Instr} {s : State} {n : Fin 8} {w : BitVec 23} {f : BitVec 24 → Nat → AluRes}
    (he : exec c s = .next (s.aluShift n w f)) (h : s.lodRuns n .plain) (hw : wbits w 0 11 = 0) :
    Completes c s (State.aluResult n s (some (wbits w 19 4)) (f (s.dreg n (wbits w 15 4)) (wbits w 11 4))) := by
  refine .of_alu_lodAt he h (by rw [hw]; rfl) ?_
  rw [← s.dreg_lodAt n 1 {}]
  rfl

theorem Completes.of_aluiOp {c : Instr} {s : State} {n : Fin 8} {w : BitVec 23} {cmp : Bool} {f : BitVec 24 → BitVec 24 → AluRes}
    (he : exec c s = .next (s.aluiOp n w cmp f)) (h : s.lodRuns n .plain) :
    Completes c s (State.aluResult n s (if cmp then none else some (wbits w 19 4)) (f (s.dreg n (wbits w 19 4)) (aluImm w))) := by
  refine .of_alu_lodAt he h rfl ?_
  rw [← s.dreg_lodAt n 1 {}]
  cases cmp <;> rfl

/-- Settles O29: each instruction by the one account of an ALU result. -/
theorem lodestarAlu : Obligations.LodestarAlu := by
  intro s n w h hw
  exact ⟨.of_aluOp (cmp := false) (f := aluAdd) rfl h hw, .of_aluOp (cmp := false) (f := aluSub) rfl h hw,
    .of_aluOp (cmp := false) (f := fun a b => aluLogic (a &&& b)) rfl h hw, .of_aluOp (cmp := false) (f := fun a b => aluLogic (a ||| b)) rfl h hw,
    .of_aluOp (cmp := false) (f := fun a b => aluLogic (a ^^^ b)) rfl h hw, .of_aluOp (cmp := true) (f := aluSub) rfl h hw,
    .of_aluOp (cmp := false) (f := fun _ b => aluMov b) rfl h hw, .of_aluOp (cmp := false) (f := fun _ b => aluNeg b) rfl h hw,
    .of_aluOp (cmp := false) (f := fun _ b => aluAbs b) rfl h hw, .of_aluShift (f := aluAsr) rfl h hw, .of_aluShift (f := aluLsr) rfl h hw,
    .of_aluShift (f := aluShl) rfl h hw⟩

/-- A shift by an immediate: a negative count leaves free values. -/
theorem Completes.of_aluiShift {c : Instr} {s : State} {n : Fin 8} {w : BitVec 23} {f : BitVec 24 → Nat → AluRes}
    (he : exec c s = .next (s.aluiShift n w f)) (h : s.lodRuns n .plain) :
    Completes c s (State.aluResult n s (some (wbits w 19 4)) (if (aluImm w).msb = true then
      ⟨s.free.setWidth 24, some (s.drawFree.free.getLsbD 0), s.free.getLsbD 32⟩ else f (s.dreg n (wbits w 19 4)) (aluImm w).toNat)) := by
  by_cases hm : (aluImm w).msb = true
  · rw [if_pos hm]
    exact .of_alu (y := (s.lodAt n 1 {}).drawFree) (x' := ⟨s.free.setWidth 24, none, s.free.getLsbD 32⟩) he h rfl (if_pos hm) (s.core_lodAt n 1 {})
      (s.quietFor_lodAt n 1 {}) rfl rfl rfl
  · rw [if_neg hm]
    refine .of_alu_lodAt he h rfl ?_
    dsimp only
    rw [if_neg hm, ← s.dreg_lodAt n 1 {}]
    rfl

/-- Settles O30: as O29, with the immediate as the second source. -/
theorem lodestarAluImmediate : Obligations.LodestarAluImmediate := by
  intro s n w h
  exact ⟨.of_aluiOp (cmp := false) (f := aluAdd) rfl h, .of_aluiOp (cmp := false) (f := aluSub) rfl h,
    .of_aluiOp (cmp := false) (f := fun a b => aluLogic (a &&& b)) rfl h, .of_aluiOp (cmp := false) (f := fun a b => aluLogic (a ||| b)) rfl h,
    .of_aluiOp (cmp := false) (f := fun a b => aluLogic (a ^^^ b)) rfl h, .of_aluiOp (cmp := true) (f := aluSub) rfl h,
    .of_aluiOp (cmp := false) (f := fun _ b => aluMov b) rfl h, .of_aluiOp (cmp := false) (f := fun _ b => aluNeg b) rfl h,
    .of_aluiOp (cmp := false) (f := fun _ b => aluAbs b) rfl h, .of_aluiShift (f := aluAsr) rfl h, .of_aluiShift (f := aluLsr) rfl h,
    .of_aluiShift (f := aluShl) rfl h⟩

end Sys2Proof.Machine
end

section
/-! PROOFS. The Lodestar accumulators: class ACC, the products and the complex products (R343 to R345, R347). -/

namespace Sys2Proof.Machine

theorem State.acc_lodAt (s : State) (n : Fin 8) (len : Nat) (u : LodUse) (k : Nat) : (s.lodAt n len u).acc n k = s.acc n k := by
  rw [State.acc, State.acc, State.core_lodAt]
  rfl

/-- A value that an accumulator cannot hold. -/
def beyond56 (v : Int) : Bool := decide (v < -(2 ^ 55)) || decide (2 ^ 55 ≤ v)

/-- An accumulator takes a value: the core, its neighbours and V56. -/
theorem State.setAcc_fields {s : State} {n : Fin 8} {c : LodCore} (hc : s.core n = c) (k : Nat) (v : Int) :
    (s.setAcc n k v).core n = { c with u := vset c.u (fin8 k) (BitVec.ofInt 56 v) } ∧ s.otherCores (s.setAcc n k v) n
      ∧ (s.setAcc n k v).sram = s.sram ∧ (s.setAcc n k v).flag (LOD_STAT.V56 n) = (s.flag (LOD_STAT.V56 n) || beyond56 v) := by
  refine ⟨?_, ?_, ?_, ?_⟩
  · rw [State.setAcc, State.core_stick, State.core_modCore_of _ hc]
  · exact ((State.otherCores.refl s n).modCore _).trans (.of_lod (State.lod_stick _ _ _) n)
  · rw [State.setAcc, State.sram_stick, State.sram_modCore]
  · rw [State.setAcc, State.flag_stick _ _ (by show 8 + 1 ≤ 32; decide) rfl]
    rfl

/-- An instruction that writes accumulator u with an exact value. -/
theorem Completes.of_accOp {c : Instr} {s : State} {n : Fin 8} {w : BitVec 24} {f : State → Int} {v : Int}
    (he : exec c s = .next (s.accOp n w f)) (h : s.lodRuns n .plain) (hw : wbits w 6 8 = 0)
    (hf : f (s.lodAt n 1 { accW := 2 ^ wbits w 21 3 }) = v) : Completes c s (fun t =>
      t.core n = { (s.core n).ranOn 1 { accW := 2 ^ wbits w 21 3 } with u := vset (s.core n).u (fin8 (wbits w 21 3)) (BitVec.ofInt 56 v) }
      ∧ s.otherCores t n ∧ t.sram = s.sram
      ∧ t.flag (LOD_STAT.V56 n) = (s.flag (LOD_STAT.V56 n) || decide (v < -(2 ^ 55)) || decide (2 ^ 55 ≤ v))) := by
  obtain ⟨h1, h2, h3, h4⟩ := State.setAcc_fields (s.core_lodAt n 1 { accW := 2 ^ wbits w 21 3 }) (wbits w 21 3) v
  have hissue : exec c s = .next (s.lodIssue n .plain (wbits w 6 8 == 0) { accW := 2 ^ wbits w 21 3 }
    (runOn (fun s => s.setAcc n (wbits w 21 3) (f s)))) := he
  refine .of_runOn (len := 1) hissue h rfl (by rw [hw]; rfl) (congrArg (fun v => Except.ok (State.setAcc _ n (wbits w 21 3) v, LodFlow.seq)) hf)
    (by rw [h1]; exact h.2.2.1) ⟨?_, ((s.otherCores_lodAt n 1 _).trans h2).lodDone 1 _, ?_, ?_⟩
  · refine (State.core_lodDone_of (s := s) h1 rfl rfl rfl rfl rfl 1 _).trans ?_
    rw [LodCore.ranOn_eq]
    rfl
  · rw [State.sram_lodDone, h3]; exact (s.quietFor_lodAt n 1 _).2.2
  · rw [State.flag_lodDone, h4, State.flag_lodAt, beyond56, Bool.or_assoc]

/-- The store of an accumulator hangs on its value alone, and sets SAT at most. -/
theorem State.accStore_cases (s : State) (n : Fin 8) (k : Nat) : (s.accStore n k).2 = s ∨ (s.accStore n k).2 = s.put (LOD_STAT.SAT n) 1 := by
  unfold State.accStore
  dsimp only
  split
  · exact .inr rfl
  · exact .inl rfl

theorem State.accStore_fields {s : State} {n : Fin 8} {c : LodCore} (hc : s.core n = c) (k : Nat) : (s.accStore n k).2.core n = c
    ∧ s.otherCores (s.accStore n k).2 n ∧ (s.accStore n k).2.sram = s.sram := by
  rcases s.accStore_cases n k with h | h <;> rw [h]
  · exact ⟨hc, .refl s n, rfl⟩
  · exact ⟨(State.core_put _ _ _ _).trans hc, (State.otherCores.refl s n).put _ _, State.put_sram _ _ _⟩

theorem State.accStore_lodAt (s : State) (n : Fin 8) (len : Nat) (u : LodUse) (k : Nat) :
    ((s.lodAt n len u).accStore n k).1 = (s.accStore n k).1
      ∧ ((s.lodAt n len u).accStore n k).2.flag (LOD_STAT.SAT n) = (s.accStore n k).2.flag (LOD_STAT.SAT n) := by
  have happ : (s.lodAt n len u).appFlag (LOD_CTRL.SATST n) = s.appFlag (LOD_CTRL.SATST n) := rfl
  have hput (x : State) : (x.put (LOD_STAT.SAT n) 1).flag (LOD_STAT.SAT n) = true := State.flag_put_one _ _ (by show 9 + 1 ≤ 32; decide) rfl
  unfold State.accStore
  rw [State.acc_lodAt, happ]
  dsimp only
  split
  · exact ⟨rfl, (hput _).trans (hput _).symm⟩
  · exact ⟨rfl, rfl⟩

/-- Settles O31: an accumulator write by the one account of it; MVA by the store of R344. -/
theorem lodestarAccumulator : Obligations.LodestarAccumulator := by
  intro s n w h hw
  refine ⟨.of_accOp rfl h hw rfl, .of_accOp rfl h hw ?_, .of_accOp rfl h hw ?_, .of_accOp rfl h hw ?_, .of_accOp rfl h hw ?_, ?_⟩
  · rw [State.acc_lodAt, State.acc_lodAt]
  · rw [State.acc_lodAt, State.acc_lodAt]
  · dsimp only; rw [State.acc_lodAt]
  · rw [State.dreg_lodAt]
  · have hissue : exec (.mva n w) s = .next (s.lodIssue n .plain (wbits w 6 8 == 0) { accR := 2 ^ wbits w 18 3 }
      (runOn (fun s => (s.accStore n (wbits w 18 3)).2.setDreg n (wbits w 14 4) (s.accStore n (wbits w 18 3)).1))) := rfl
    obtain ⟨h1, h2, h3⟩ := State.accStore_fields (s.core_lodAt n 1 { accR := 2 ^ wbits w 18 3 }) (wbits w 18 3)
    obtain ⟨hv, hsat⟩ := s.accStore_lodAt n 1 { accR := 2 ^ wbits w 18 3 } (wbits w 18 3)
    have hc := State.core_modCore_of (fun c => { c with d := vset c.d (fin16 (wbits w 14 4)) (s.accStore n (wbits w 18 3)).1 }) h1
    refine .of_runOn (len := 1) (s1 := State.modCore (State.accStore (s.lodAt n 1 { accR := 2 ^ wbits w 18 3 }) n (wbits w 18 3)).2 n
        (fun c => { c with d := vset c.d (fin16 (wbits w 14 4)) (s.accStore n (wbits w 18 3)).1 }))
      hissue h rfl (by rw [hw]; rfl) (by rw [← hv]; rfl) (by rw [hc]; exact h.2.2.1) ⟨?_, (((s.otherCores_lodAt n 1 _).trans h2).modCore _).lodDone 1 _, ?_, ?_⟩
    · refine (State.core_lodDone_of (s := s) hc rfl rfl rfl rfl rfl 1 _).trans ?_
      rw [LodCore.ranOn_eq]
      rfl
    · rw [State.sram_lodDone, State.sram_modCore, h3]; exact (s.quietFor_lodAt n 1 _).2.2
    · rw [State.flag_lodDone]; exact hsat

end Sys2Proof.Machine
end

section
/-! PROOFS. The Lodestar transfers, and the instructions of products that carry them (R343, R345, R347). -/

namespace Sys2Proof.Machine

/-! ### Walkers (R346) -/

/-- Of core n the walkers' indices alone have moved. -/
def State.walked (n : Fin 8) (s t : State) : Prop := t.core n = { s.core n with idx := (t.core n).idx } ∧ s.quietFor t n

theorem State.walked.refl (n : Fin 8) (s : State) : State.walked n s s := ⟨rfl, .refl s n, rfl, rfl⟩

theorem State.quietFor.trans {s t r : State} {n : Fin 8} (h : s.quietFor t n) (k : t.quietFor r n) : s.quietFor r n :=
  ⟨h.1.trans k.1, k.2.1.trans h.2.1, k.2.2.trans h.2.2⟩

theorem State.walked.trans {n : Fin 8} {s t r : State} (h : State.walked n s t) (k : State.walked n t r) : State.walked n s r := by
  refine ⟨?_, h.2.trans k.2⟩
  have hk := k.1
  rw [h.1] at hk
  exact hk

theorem State.walked_advance (s : State) (n : Fin 8) (g : Nat) : State.walked n s (s.advance n g) := by
  refine ⟨?_, State.quietFor.modCore ⟨.refl s n, rfl, rfl⟩ _⟩
  rw [State.advance, State.core_modCore_same]

theorem State.walked_multiplicand {old s t : State} {n : Fin 8} {m : Nat} {v : BitVec 24} (h : State.multiplicand old s n m = .ok (v, t)) :
    State.walked n s t := by
  unfold State.multiplicand at h
  split at h
  · cases h; exact .refl n s
  · split at h
    · cases h
    · cases h
      split
      · exact s.walked_advance n _
      · exact .refl n s

theorem State.walked_gather (old : State) (n : Fin 8) (xs : List Xfer) {s t : State} {ls ws : List (Nat × BitVec 24)}
    (h : State.gather old n xs s = .ok (t, ls, ws)) : State.walked n s t := by
  induction xs generalizing s t ls ws with
  | nil => cases h; exact .refl n s
  | cons x xs ih =>
    rw [State.gather] at h
    split at h
    · exact ih h
    · dsimp only at h
      split at h
      · split at h
        · cases h
        · split at h
          · cases h
          next hg => cases h; exact (s.walked_advance n x.g).trans (ih hg)
      · split at h
        · cases h
        next hg => cases h; exact (s.walked_advance n x.g).trans (ih hg)

/-! ### What the transfers of an instruction land (R339, R347) -/

theorem State.sram_setSramLE_congr (k : Nat) {s t : State} (h : s.sram = t.sram) (a v : Nat) : (s.setSramLE a k v).sram = (t.setSramLE a k v).sram := by
  induction k generalizing s t a v with
  | zero => exact h
  | succ k ih => exact ih (by rw [State.setSramByte, State.setSramByte, h]) _ _

theorem State.sram_unpoison (s : State) (a k : Nat) : (s.unpoison a k).sram = s.sram :=
  (Kept.unpoison (.refl _ s) (Foot.le_refl _) a k).part_of .sram rfl

/-- A stored word leaves every core, and the bytes of SRAM hang on those before it. -/
theorem State.lod_storeWord (s : State) (n : Fin 8) (a : Nat) (v : BitVec 32) : (s.storeWord n a v).lod = s.lod :=
  (Kept.storeWord (.refl _ s) (Foot.le_refl _) n a v).part_of .lod rfl

theorem State.freeCtr_storeWord (s : State) (n : Fin 8) (a : Nat) (v : BitVec 32) : (s.storeWord n a v).freeCtr = s.freeCtr :=
  (Kept.storeWord (.refl _ s) (Foot.le_refl _) n a v).part_of .freeCtr rfl

theorem State.sram_storeWord_congr {s t : State} (h : s.sram = t.sram) (n : Fin 8) (a : Nat) (v : BitVec 32) :
    (s.storeWord n a v).sram = (t.storeWord n a v).sram := by
  rw [State.storeWord, State.storeWord, State.sram_unpoison, State.sram_unpoison]
  exact State.sram_setSramLE_congr 4 h _ _

/-- The stores of an instruction. -/
def State.storeAll (s : State) (n : Fin 8) (ws : List (Nat × BitVec 24)) : State := ws.foldl (fun (s : State) x => s.storeWord n x.1 (store24 x.2)) s

theorem State.storeAll_keeps (s : State) (n : Fin 8) (ws : List (Nat × BitVec 24)) : (s.storeAll n ws).lod = s.lod
    ∧ (s.storeAll n ws).freeCtr = s.freeCtr :=
  List.foldl_inv (P := fun t : State => t.lod = s.lod ∧ t.freeCtr = s.freeCtr)
    (fun t x ⟨hl, hf⟩ => ⟨(t.lod_storeWord n x.1 _).trans hl, (t.freeCtr_storeWord n x.1 _).trans hf⟩) ws ⟨rfl, rfl⟩

theorem State.sram_storeAll_congr {s t : State} (h : s.sram = t.sram) (n : Fin 8) (ws : List (Nat × BitVec 24)) :
    (s.storeAll n ws).sram = (t.storeAll n ws).sram := by
  induction ws generalizing s t with
  | nil => exact h
  | cons x ws ih => exact ih (State.sram_storeWord_congr h n x.1 _)

/-- The data registers after the loads of an instruction. -/
def landRegs (d : Vector (BitVec 24) 16) (free : BitVec 64) (ls : List (Nat × BitVec 24)) : Vector (BitVec 24) 16 :=
  ls.foldl (fun d x => vset d (fin16 x.1) (if sameLoad ls then free.setWidth 24 else x.2)) d

theorem State.setDreg_foldl (n : Fin 8) (ls : List (Nat × BitVec 24)) (g : Nat × BitVec 24 → BitVec 24) {s : State} {c : LodCore} (hc : s.core n = c) :
    (ls.foldl (fun (s : State) x => s.setDreg n x.1 (g x)) s).core n = { c with d := ls.foldl (fun d x => vset d (fin16 x.1) (g x)) c.d }
      ∧ s.quietFor (ls.foldl (fun (s : State) x => s.setDreg n x.1 (g x)) s) n := by
  induction ls generalizing s c with
  | nil => exact ⟨hc, .refl s n, rfl, rfl⟩
  | cons x ls ih =>
    have hset : s.quietFor (s.setDreg n x.1 (g x)) n := State.quietFor.modCore ⟨.refl s n, rfl, rfl⟩ _
    obtain ⟨h1, h2⟩ := ih (s := s.setDreg n x.1 (g x)) (State.core_modCore_of _ hc)
    exact ⟨h1, hset.trans h2⟩

/-- What the transfers leave: the data registers, the neighbours, and the bytes that the stores alone decide. -/
theorem State.landXfers_fields {s : State} {n : Fin 8} {c : LodCore} (hc : s.core n = c) (ls ws : List (Nat × BitVec 24)) :
    (s.landXfers n ls ws).core n = { c with d := landRegs c.d s.free ls } ∧ s.otherCores (s.landXfers n ls ws) n
      ∧ (s.landXfers n ls ws).sram = (s.storeAll n ws).sram := by
  obtain ⟨hlod, hfree⟩ := s.storeAll_keeps n ws
  have hc' : (s.storeAll n ws).core n = c := (State.core_of_lod hlod n).trans hc
  have hf : (s.storeAll n ws).free = s.free := by rw [State.free, State.free, hfree]
  have he : s.landXfers n ls ws = if sameLoad ls then ls.foldl (fun (t : State) x => t.setDreg n x.1 (s.free.setWidth 24)) (s.storeAll n ws).drawFree
      else ls.foldl (fun (t : State) x => t.setDreg n x.1 x.2) (s.storeAll n ws) := by
    rw [← hf]; rfl
  rw [he]
  split
  next hs =>
    obtain ⟨h1, h2⟩ := State.setDreg_foldl n ls (fun _ => s.free.setWidth 24) (s := (s.storeAll n ws).drawFree) hc'
    refine ⟨h1.trans ?_, (State.otherCores.of_lod hlod n).trans h2.1, h2.2.2⟩
    simp only [landRegs, hs, if_true]
  next hs =>
    obtain ⟨h1, h2⟩ := State.setDreg_foldl n ls (fun x => x.2) hc'
    refine ⟨h1.trans ?_, (State.otherCores.of_lod hlod n).trans h2.1, h2.2.2⟩
    simp only [landRegs, hs, if_false, Bool.false_eq_true]

theorem State.flag_landXfers (s : State) (n : Fin 8) (ls ws : List (Nat × BitVec 24)) {f : Fld} (h : f.addr / 0x10000 = 0x10) :
    (s.landXfers n ls ws).flag f = s.flag f :=
  State.flag_eq_get ((Kept.landXfers (.refl _ s) (Foot.le_refl _) n ls ws).get_of (by rw [h]; rfl))

theorem LOD_STAT.block (n : Nat) : LOD_STAT.addr n / 0x10000 = 0x10 := LOD_STAT.addr_win n

/-! ### Products (R343, R347) -/

/-- The transfers that land in a state land alike where the accumulators have changed besides. -/
theorem State.landXfers_alike {s t : State} {n : Fin 8} {u : Vector (BitVec 56) 8} (hc : t.core n = { s.core n with u := u }) (hs : t.sram = s.sram)
    (hf : t.freeCtr = s.freeCtr) (ls ws : List (Nat × BitVec 24)) :
    (t.landXfers n ls ws).core n = { s.core n with u := u, d := ((s.landXfers n ls ws).core n).d }
      ∧ (t.landXfers n ls ws).sram = (s.landXfers n ls ws).sram := by
  obtain ⟨h1, -, h3⟩ := State.landXfers_fields hc ls ws
  obtain ⟨k1, -, k3⟩ := State.landXfers_fields (rfl : s.core n = s.core n) ls ws
  have hfree : t.free = s.free := by rw [State.free, State.free, hf]
  refine ⟨?_, h3.trans ((State.sram_storeAll_congr hs n ws).trans k3.symm)⟩
  rw [h1, k1, hfree]

theorem State.freeCtr_setAcc (s : State) (n : Fin 8) (k : Nat) (v : Int) : (s.setAcc n k v).freeCtr = s.freeCtr := by
  have hstick (x : State) (f : Fld) (b : Bool) : (x.stick f b).freeCtr = x.freeCtr := by
    cases b
    · rfl
    · exact State.put_freeCtr _ _ _
  rw [State.setAcc, hstick]; rfl

/-- The effect of a class MAC instruction. -/
def State.macEff (n : Fin 8) (w : BitVec 26) (f : Int → Int → Int) (s0 : State) : Except LodTrap (State × LodFlow) :=
  match State.multiplicand s0 s0 n (wbits w 18 5) with
  | .error t => .error t
  | .ok (a, s1) =>
    match State.multiplicand s0 s1 n (wbits w 13 5) with
    | .error t => .error t
    | .ok (b, s2) =>
      match State.gather s0 n [xferOf (wbits w 0 9)] s2 with
      | .error t => .error t
      | .ok (s3, ls, ws) =>
        .ok ((s3.setAcc n (wbits w 23 3) (f (s0.acc n (wbits w 23 3)).toInt (a.toInt * b.toInt))).landXfers n ls ws, .seq)

/-- The accumulators and walkers of a class MAC instruction. -/
def macUse (w : BitVec 26) : LodUse :=
  let walk (m : Nat) : Nat := if m < 16 then 0 else 2 ^ (m % 8)
  { accW := 2 ^ wbits w 23 3, walkR := walk (wbits w 18 5) ||| walk (wbits w 13 5) ||| xferWalkers [xferOf (wbits w 0 9)] }

theorem State.macOp_eq (s : State) (n : Fin 8) (w : BitVec 26) (f : Int → Int → Int) : s.macOp n w f =
    s.lodIssue n .plain (wbits w 9 4 == 0 && (xferOf (wbits w 0 9)).code != 3
      && decide (wbits w 18 5 / 16 + wbits w 13 5 / 16 + b2n (xferOf (wbits w 0 9)).mem ≤ 2)) (macUse w) (State.macEff n w f) := rfl

/-- What an instruction leaves that takes an accumulator from u to u' and lands its transfers in s3. -/
theorem State.accXfer_fields {s s3 y : State} {n : Fin 8} {use : LodUse} (hwalk : State.walked n (s.lodAt n 1 use) s3)
    {u : Vector (BitVec 56) 8} (hy : y.core n = { s3.core n with u := u }) (hothers : s3.otherCores y n) (hsram : y.sram = s3.sram)
    (hfree : y.freeCtr = s3.freeCtr) (ls ws : List (Nat × BitVec 24)) :
    ((y.landXfers n ls ws).core n).stopReq = (s.core n).stopReq
      ∧ (((y.landXfers n ls ws).lodDone n 1 use).core n).u = u
      ∧ (((y.landXfers n ls ws).lodDone n 1 use).core n).idx = (s3.core n).idx
      ∧ (((y.landXfers n ls ws).lodDone n 1 use).core n).d = ((s3.landXfers n ls ws).core n).d
      ∧ (((y.landXfers n ls ws).lodDone n 1 use).core n).pc = ((s.core n).stepOn 1).pc
      ∧ s.otherCores ((y.landXfers n ls ws).lodDone n 1 use) n
      ∧ ((y.landXfers n ls ws).lodDone n 1 use).sram = (s3.landXfers n ls ws).sram := by
  have hc3 : s3.core n = { (s.core n).counted 1 use with idx := (s3.core n).idx } := by
    have hk := hwalk.1
    rw [s.core_lodAt] at hk
    exact hk
  obtain ⟨l1, l2⟩ := State.landXfers_alike hy hsram hfree ls ws
  obtain ⟨-, l4, -⟩ := State.landXfers_fields hy ls ws
  have hdone := State.core_lodDone_of (s := s) l1 (by rw [hc3]; rfl) (by rw [hc3]; rfl) (by rw [hc3]; rfl) (by rw [hc3]; rfl) (by rw [hc3]; rfl) 1 use
  refine ⟨?_, by rw [hdone], by rw [hdone], by rw [hdone], by rw [hdone],
    ((((s.otherCores_lodAt n 1 use).trans hwalk.2.1).trans hothers).trans l4).lodDone 1 use, (State.sram_lodDone _ _ _ _).trans l2⟩
  rw [l1, hc3]
  rfl

/-- A product that an accumulator takes, with its transfers. -/
theorem Completes.of_macOp {c : Instr} {s s1 s2 s3 : State} {n : Fin 8} {w : BitVec 26} {f : Int → Int → Int} {a b : BitVec 24}
    {ls ws : List (Nat × BitVec 24)} (hc : exec c s = .next (s.macOp n w f)) (h : s.lodRuns n .plain) (hw : wbits w 9 4 = 0)
    (hx : (xferOf (wbits w 0 9)).code ≠ 3) (hm : wbits w 18 5 / 16 + wbits w 13 5 / 16 + b2n (xferOf (wbits w 0 9)).mem ≤ 2)
    (h1 : State.multiplicand (s.lodAt n 1 (macUse w)) (s.lodAt n 1 (macUse w)) n (wbits w 18 5) = .ok (a, s1))
    (h2 : State.multiplicand (s.lodAt n 1 (macUse w)) s1 n (wbits w 13 5) = .ok (b, s2))
    (h3 : State.gather (s.lodAt n 1 (macUse w)) n [xferOf (wbits w 0 9)] s2 = .ok (s3, ls, ws)) {v : Int}
    (hv : f (s.acc n (wbits w 23 3)).toInt (a.toInt * b.toInt) = v) :
    Completes c s (fun t => (t.core n).u = vset (s.core n).u (fin8 (wbits w 23 3)) (BitVec.ofInt 56 v)
      ∧ t.flag (LOD_STAT.V56 n) = (s.flag (LOD_STAT.V56 n) || decide (v < -(2 ^ 55)) || decide (2 ^ 55 ≤ v))
      ∧ (t.core n).idx = (s3.core n).idx ∧ (t.core n).d = ((s3.landXfers n ls ws).core n).d ∧ (t.core n).pc = ((s.core n).stepOn 1).pc
      ∧ s.otherCores t n ∧ t.sram = (s3.landXfers n ls ws).sram) := by
  have hwalk : State.walked n (s.lodAt n 1 (macUse w)) s3 :=
    (State.walked_multiplicand h1).trans ((State.walked_multiplicand h2).trans (State.walked_gather _ n _ h3))
  have hok : (wbits w 9 4 == 0 && (xferOf (wbits w 0 9)).code != 3
      && decide (wbits w 18 5 / 16 + wbits w 13 5 / 16 + b2n (xferOf (wbits w 0 9)).mem ≤ 2)) = true := by
    rw [hw, bne_iff_ne.mpr hx, decide_eq_true hm]; rfl
  have heff : State.macEff n w f (s.lodAt n 1 (macUse w)) = .ok ((s3.setAcc n (wbits w 23 3) v).landXfers n ls ws, .seq) := by
    unfold State.macEff
    rw [h1]; dsimp only
    rw [h2]; dsimp only
    rw [h3, State.acc_lodAt, hv]
  have hu : (s3.core n).u = (s.core n).u := by
    have hk := hwalk.1
    rw [s.core_lodAt] at hk
    rw [hk]; rfl
  obtain ⟨k1, k2, k3, k4⟩ := State.setAcc_fields (rfl : s3.core n = s3.core n) (wbits w 23 3) v
  obtain ⟨hstop, h4, h5, h6, h7, h8, h9⟩ := State.accXfer_fields hwalk k1 k2 k3 (s3.freeCtr_setAcc n _ v) ls ws
  refine .of_runOn (len := 1) (hc.trans (congrArg _ (s.macOp_eq n w f))) h rfl hok heff (hstop.trans h.2.2.1)
    ⟨h4.trans (by rw [hu]), ?_, h5, h6, h7, h8, h9⟩
  rw [State.flag_lodDone, State.flag_landXfers _ _ _ _ (LOD_STAT.block n), k4, State.flag_eq_get (State.get_of_regs hwalk.2.2.1 _), State.flag_lodAt,
    beyond56, Bool.or_assoc]

/-- Settles O32: the three products by the one account of class MAC. -/
theorem lodestarMultiply : Obligations.LodestarMultiply := by
  intro s n w s1 s2 s3 a b ls ws h m1 m2 x u walk s0 done hw hx hm h1 h2 h3
  exact ⟨.of_macOp rfl h hw hx hm h1 h2 h3 rfl, .of_macOp rfl h hw hx hm h1 h2 h3 rfl, .of_macOp rfl h hw hx hm h1 h2 h3 rfl⟩

/-! ### Complex products (R345) -/

/-- The effect of a class CMPLX instruction, by the two exact values it gives the pair. -/
def State.cmplxEff (n : Fin 8) (w : BitVec 26) (re im : State → Int) (s0 : State) : Except LodTrap (State × LodFlow) :=
  match State.gather s0 n [xferOf (wbits w 9 9), xferOf (wbits w 0 9)] s0 with
  | .error t => .error t
  | .ok (s1, ls, ws) =>
    .ok (((s1.setAcc n (2 * wbits w 24 2) (re s0)).setAcc n (2 * wbits w 24 2 + 1) (im s0)).landXfers n ls ws, .seq)

/-- The accumulators and walkers of a class CMPLX instruction. -/
def cmplxUse (w : BitVec 26) : LodUse :=
  { accW := 3 * 4 ^ wbits w 24 2, walkR := xferWalkers [xferOf (wbits w 9 9), xferOf (wbits w 0 9)] }

/-- Operand k of a complex product, reduced to 18 bits. -/
def State.cmplxArg (s : State) (n : Fin 8) (k : Nat) : Int := (s.dreg n k).toInt / 64

/-- The real and the imaginary part of the complex product of registers r1 and r2. -/
def State.cmplxParts (s : State) (n : Fin 8) (r1 r2 : Nat) (conj : Bool) : Int × Int :=
  let a := s.cmplxArg n (2 * r1)
  let b := s.cmplxArg n (2 * r1 + 1)
  let c := s.cmplxArg n (2 * r2)
  let d := s.cmplxArg n (2 * r2 + 1)
  (if conj then a * c + b * d else a * c - b * d, if conj then b * c - a * d else a * d + b * c)

theorem State.cmplxOp_eq (s : State) (n : Fin 8) (w : BitVec 26) (conj : Bool) (f : Int → Int → Int) : s.cmplxOp n w conj f =
    s.lodIssue n .plain ([xferOf (wbits w 9 9), xferOf (wbits w 0 9)].all (fun x => x.code != 3)) (cmplxUse w) (State.cmplxEff n w
      (fun s0 => f (s0.acc n (2 * wbits w 24 2)).toInt ((s0.cmplxParts n (wbits w 21 3) (wbits w 18 3) conj).1 * 4096))
      (fun s0 => f (s0.acc n (2 * wbits w 24 2 + 1)).toInt ((s0.cmplxParts n (wbits w 21 3) (wbits w 18 3) conj).2 * 4096))) := rfl

theorem State.cmplxParts_lodAt (s : State) (n : Fin 8) (len : Nat) (u : LodUse) (r1 r2 : Nat) (conj : Bool) :
    (s.lodAt n len u).cmplxParts n r1 r2 conj = s.cmplxParts n r1 r2 conj := by
  simp only [State.cmplxParts, State.cmplxArg, State.dreg_lodAt]

/-- A complex product that a pair of accumulators takes, with its transfers. -/
theorem Completes.of_cmplxOp {c : Instr} {s s1 : State} {n : Fin 8} {w : BitVec 26} {conj : Bool} {f : Int → Int → Int}
    {ls ws : List (Nat × BitVec 24)} (hc : exec c s = .next (s.cmplxOp n w conj f)) (h : s.lodRuns n .plain)
    (hx : ∀ x ∈ [xferOf (wbits w 9 9), xferOf (wbits w 0 9)], x.code ≠ 3)
    (hg : State.gather (s.lodAt n 1 (cmplxUse w)) n [xferOf (wbits w 9 9), xferOf (wbits w 0 9)] (s.lodAt n 1 (cmplxUse w)) = .ok (s1, ls, ws))
    {re im : Int} (hre : f (s.acc n (2 * wbits w 24 2)).toInt ((s.cmplxParts n (wbits w 21 3) (wbits w 18 3) conj).1 * 4096) = re)
    (him : f (s.acc n (2 * wbits w 24 2 + 1)).toInt ((s.cmplxParts n (wbits w 21 3) (wbits w 18 3) conj).2 * 4096) = im) :
    Completes c s (fun t => (t.core n).u = vset (vset (s.core n).u (fin8 (2 * wbits w 24 2)) (BitVec.ofInt 56 re)) (fin8 (2 * wbits w 24 2 + 1))
        (BitVec.ofInt 56 im)
      ∧ t.flag (LOD_STAT.V56 n) = (s.flag (LOD_STAT.V56 n) || beyond56 re || beyond56 im)
      ∧ (t.core n).idx = (s1.core n).idx ∧ (t.core n).d = ((s1.landXfers n ls ws).core n).d ∧ (t.core n).pc = ((s.core n).stepOn 1).pc
      ∧ s.otherCores t n ∧ t.sram = (s1.landXfers n ls ws).sram) := by
  have hwalk : State.walked n (s.lodAt n 1 (cmplxUse w)) s1 := State.walked_gather _ n _ hg
  have hok : [xferOf (wbits w 9 9), xferOf (wbits w 0 9)].all (fun x => x.code != 3) = true :=
    List.all_eq_true.mpr fun x hm => bne_iff_ne.mpr (hx x hm)
  have hu : (s1.core n).u = (s.core n).u := by
    have hk := hwalk.1
    rw [s.core_lodAt] at hk
    rw [hk]; rfl
  obtain ⟨k1, k2, k3, k4⟩ := State.setAcc_fields (rfl : s1.core n = s1.core n) (2 * wbits w 24 2) re
  obtain ⟨m1, m2, m3, m4⟩ := State.setAcc_fields k1 (2 * wbits w 24 2 + 1) im
  obtain ⟨hstop, h4, h5, h6, h7, h8, h9⟩ := State.accXfer_fields hwalk m1 (k2.trans m2) (m3.trans k3)
    ((State.freeCtr_setAcc _ n _ im).trans (s1.freeCtr_setAcc n _ re)) ls ws
  refine .of_runOn (len := 1) (hc.trans (congrArg _ (s.cmplxOp_eq n w conj f))) h rfl hok
    (s1 := ((s1.setAcc n (2 * wbits w 24 2) re).setAcc n (2 * wbits w 24 2 + 1) im).landXfers n ls ws) ?_ (hstop.trans h.2.2.1)
    ⟨h4.trans (by rw [hu]), ?_, h5, h6, h7, h8, h9⟩
  · unfold State.cmplxEff
    rw [hg]
    dsimp only
    rw [State.acc_lodAt, State.acc_lodAt, State.cmplxParts_lodAt, hre, him]
  · rw [State.flag_lodDone, State.flag_landXfers _ _ _ _ (LOD_STAT.block n), m4, k4, State.flag_eq_get (State.get_of_regs hwalk.2.2.1 _), State.flag_lodAt]

/-- Settles O33: the four products by the one account of class CMPLX. -/
theorem lodestarComplex : Obligations.LodestarComplex := by
  intro s n w s1 ls ws h xs p q a b c d u0 u1 beyond s0 done hx hg
  exact ⟨.of_cmplxOp rfl h hx hg rfl rfl, .of_cmplxOp rfl h hx hg rfl rfl, .of_cmplxOp (conj := true) rfl h hx hg rfl rfl,
    .of_cmplxOp rfl h hx hg rfl rfl⟩

end Sys2Proof.Machine
end

section
/-! PROOFS. The Lodestar loads, moves and walker instructions (R338, R346, R348, R356, R359). -/

namespace Sys2Proof.Machine

/-! ### Addresses and words (R338) -/

theorem State.walkAddr_lodAt (s : State) (n : Fin 8) (len : Nat) (u : LodUse) (g : Nat) (d : Int) :
    (s.lodAt n len u).walkAddr n g d = s.walkAddr n g d := by
  rw [State.walkAddr, State.walkAddr, State.core_lodAt]
  rfl

theorem State.loadWord_lodAt (s : State) (n : Fin 8) (len : Nat) (u : LodUse) (a : Nat) : (s.lodAt n len u).loadWord n a = s.loadWord n a := rfl

/-- The operand of class LDST moves a walker's index at most. -/
theorem State.walked_ldst (s : State) (n : Fin 8) (w : BitVec 26) : State.walked n s (s.ldst n w).2 := by
  unfold State.ldst
  dsimp only
  split
  · exact .refl n s
  · exact s.walked_advance n _
  · exact .refl n s

theorem State.idx_advance (s : State) (n : Fin 8) (g : Nat) : ((s.advance n g).core n).idx = vset (s.core n).idx (fin8 g)
    (reduceIdx (vget (s.core n).span (fin8 g)) ((vget (s.core n).idx (fin8 g)).toNat + (vget (s.core n).step (fin8 g)).toInt)) := by
  rw [State.advance, State.core_modCore_same]

/-- Counting cycles leaves the operand of class LDST. -/
theorem State.ldst_lodAt (s : State) (n : Fin 8) (len : Nat) (u : LodUse) (w : BitVec 26) : ((s.lodAt n len u).ldst n w).1 = (s.ldst n w).1
    ∧ (((s.lodAt n len u).ldst n w).2.core n).idx = ((s.ldst n w).2.core n).idx := by
  have hidx : ((s.lodAt n len u).core n).idx = (s.core n).idx := by rw [s.core_lodAt]; rfl
  unfold State.ldst
  dsimp only
  split
  · dsimp only
    exact ⟨s.walkAddr_lodAt n len u _ _, hidx⟩
  · dsimp only
    refine ⟨s.walkAddr_lodAt n len u _ _, ?_⟩
    rw [State.idx_advance, State.idx_advance, s.core_lodAt]
    rfl
  · dsimp only
    exact ⟨s.walkAddr_lodAt n len u _ _, hidx⟩

/-- The core once class LDST has formed its address. -/
theorem State.core_ldst (s : State) (n : Fin 8) (len : Nat) (u : LodUse) (w : BitVec 26) :
    ((s.lodAt n len u).ldst n w).2.core n = { (s.core n).counted len u with idx := ((s.ldst n w).2.core n).idx } := by
  have h := ((s.lodAt n len u).walked_ldst n w).1
  rw [(s.ldst_lodAt n len u w).2, s.core_lodAt] at h
  exact h

theorem State.quietFor_ldst (s : State) (n : Fin 8) (len : Nat) (u : LodUse) (w : BitVec 26) : s.quietFor ((s.lodAt n len u).ldst n w).2 n :=
  (s.quietFor_lodAt n len u).trans ((s.lodAt n len u).walked_ldst n w).2

/-! ### Special registers (R359) -/

/-- A read of a special register latches NOW1 and NOW2, or clears the mail or the peers. -/
theorem State.mvsRead_fields (s : State) (n : Fin 8) (code : Nat) : s.quietFor (s.mvsRead n code).2 n
    ∧ (s.mvsRead n code).2.core n = { s.core n with
      now1 := ((s.mvsRead n code).2.core n).now1, now2 := ((s.mvsRead n code).2.core n).now2, mail := ((s.mvsRead n code).2.core n).mail
      door := ((s.mvsRead n code).2.core n).door, peers := ((s.mvsRead n code).2.core n).peers, peer := ((s.mvsRead n code).2.core n).peer } := by
  have hq (f : LodCore → LodCore) : s.quietFor (s.modCore n f) n := State.quietFor.modCore ⟨.refl s n, rfl, rfl⟩ f
  have hs : s.quietFor s n := ⟨.refl s n, rfl, rfl⟩
  unfold State.mvsRead
  dsimp only
  split
  case h_9 => exact ⟨hq _, by rw [State.core_modCore_same]⟩
  case h_12 => exact ⟨hq _, by rw [State.core_modCore_same]⟩
  case h_13 => exact ⟨hq _, by rw [State.core_modCore_same]⟩
  all_goals exact ⟨hs, rfl⟩

/-! ### Instructions that change their core alone -/

/-- What an instruction leaves whose effect on core n, at most, leaves its flow. -/
theorem Completes.of_coreEff {c : Instr} {s y : State} {n : Fin 8} {k : LodKind} {ok : Bool} {u : LodUse} {len : Nat}
    {eff : State → Except LodTrap (State × LodFlow)} {d r : LodCore} (he : exec c s = .next (s.lodIssue n k ok u eff)) (h : s.lodRuns n k)
    (hlen : (if k == .long then 2 else 1) = len) (hok : ok = true) (heff : eff (s.lodAt n len u) = .ok (y, .seq)) (hc : y.core n = d)
    (hq : s.quietFor y n) (hpc : d.pc = (s.core n).pc) (hrep : d.rep = (s.core n).rep) (hdelay : d.delay = (s.core n).delay)
    (htarget : d.target = (s.core n).target) (hloops : d.loops = (s.core n).loops) (hstop : d.stopReq = (s.core n).stopReq)
    (hr : { d with pc := ((s.core n).stepOn len).pc, rep := ((s.core n).stepOn len).rep, delay := ((s.core n).stepOn len).delay,
                   target := ((s.core n).stepOn len).target, loops := ((s.core n).stepOn len).loops, lastAcc := u.accW, lastWalk := u.walkW } = r) :
    Completes c s (fun t => t.core n = r ∧ s.quietFor t n) :=
  .of_runOn he h hlen hok heff (by rw [hc, hstop]; exact h.2.2.1)
    ⟨(State.core_lodDone_of hc hpc hrep hdelay htarget hloops len u).trans hr, hq.lodDone len u⟩

theorem State.core_setDreg_of {s : State} {n : Fin 8} {c : LodCore} (h : s.core n = c) (k : Nat) (v : BitVec 24) :
    (s.setDreg n k v).core n = { c with d := vset c.d (fin16 k) v } := State.core_modCore_of _ h

theorem State.quietFor.setDreg {s t : State} {n : Fin 8} (h : s.quietFor t n) (k : Nat) (v : BitVec 24) : s.quietFor (t.setDreg n k v) n := h.modCore _

/-- LD takes a word of data memory into a register. -/
theorem completes_ld {s : State} {n : Fin 8} {w : BitVec 26} {v : BitVec 32} (h : s.lodRuns n .plain) (hok : ldstOk w false = true)
    (hv : s.loadWord n (s.ldst n w).1 = .ok v) : Completes (.ld n w) s (fun t =>
      t.core n = { (s.core n).ranOn 1 { walkR := 2 ^ wbits w 21 3 } with
        d := vset (s.core n).d (fin16 (wbits w 17 4)) (v.setWidth 24), idx := ((s.ldst n w).2.core n).idx } ∧ s.quietFor t n) := by
  refine .of_coreEff (len := 1) rfl h rfl hok ?_ (State.core_setDreg_of (s.core_ldst n 1 { walkR := 2 ^ wbits w 21 3 } w) (wbits w 17 4) (v.setWidth 24))
    ((s.quietFor_ldst n 1 _ w).setDreg _ _) rfl rfl rfl rfl rfl rfl ?_
  · dsimp only
    rw [(s.ldst_lodAt n 1 _ w).1, s.loadWord_lodAt, hv]
  · rw [LodCore.ranOn_eq]
    rfl

/-- LDL takes two words of data memory into an accumulator. -/
theorem completes_ldl {s : State} {n : Fin 8} {w : BitVec 26} {lo hi : BitVec 32} (h : s.lodRuns n .plain) (hok : ldstOk w true = true)
    (hlo : s.loadWord n (s.ldst n w).1 = .ok lo) (hhi : s.loadWord n ((s.ldst n w).1 + 1) = .ok hi) : Completes (.ldl n w) s (fun t =>
      t.core n = { (s.core n).ranOn 1 { walkR := 2 ^ wbits w 21 3, accW := 2 ^ wbits w 17 3 } with
        u := vset (s.core n).u (fin8 (wbits w 17 3)) (hi.setWidth 24 ++ lo), idx := ((s.ldst n w).2.core n).idx } ∧ s.quietFor t n) := by
  refine .of_coreEff (len := 1) (u := { walkR := 2 ^ wbits w 21 3, accW := 2 ^ wbits w 17 3 }) rfl h rfl hok ?_
    (State.core_modCore_of (fun c => { c with u := vset c.u (fin8 (wbits w 17 3)) (hi.setWidth 24 ++ lo) }) (s.core_ldst n 1 { walkR := 2 ^ wbits w 21 3, accW := 2 ^ wbits w 17 3 } w))
    ((s.quietFor_ldst n 1 _ w).modCore _) rfl rfl rfl rfl rfl rfl ?_
  · dsimp only
    rw [(s.ldst_lodAt n 1 _ w).1, s.loadWord_lodAt, s.loadWord_lodAt, hlo, hhi]
  · rw [LodCore.ranOn_eq]
    rfl

/-- LDI takes an immediate into a register. -/
theorem completes_ldi {s : State} {n : Fin 8} {w : BitVec 24} {imm : BitVec 32} (h : s.lodRuns n .long) (hw : wbits w 0 20 = 0)
    (himm : wbits imm 24 8 = 0) : Completes (.ldi n w imm) s (fun t =>
      t.core n = { (s.core n).ranOn 2 {} with d := vset (s.core n).d (fin16 (wbits w 20 4)) (imm.setWidth 24) } ∧ s.quietFor t n) := by
  refine .of_coreEff (len := 2) (u := {}) rfl h rfl (by rw [hw, himm]; rfl) rfl
    (State.core_setDreg_of (s.core_lodAt n 2 {}) (wbits w 20 4) (imm.setWidth 24)) ((s.quietFor_lodAt n 2 {}).setDreg _ _) rfl rfl rfl rfl rfl rfl ?_
  rw [LodCore.ranOn_eq]
  rfl

/-- LDA takes a word at an absolute address into a register. -/
theorem completes_lda {s : State} {n : Fin 8} {w : BitVec 24} {imm v : BitVec 32} (h : s.lodRuns n .long) (hw : wbits w 0 20 = 0)
    (himm : wbits imm 18 14 = 0) (hv : s.loadWord n imm.toNat = .ok v) : Completes (.lda n w imm) s (fun t =>
      t.core n = { (s.core n).ranOn 2 {} with d := vset (s.core n).d (fin16 (wbits w 20 4)) (v.setWidth 24) } ∧ s.quietFor t n) := by
  refine .of_coreEff (len := 2) (u := {}) rfl h rfl (by rw [hw, himm]; rfl) ?_
    (State.core_setDreg_of (s.core_lodAt n 2 {}) (wbits w 20 4) (v.setWidth 24)) ((s.quietFor_lodAt n 2 {}).setDreg _ _) rfl rfl rfl rfl rfl rfl ?_
  · rw [s.loadWord_lodAt, hv]
  · rw [LodCore.ranOn_eq]
    rfl

/-! ### Walker registers (R346) -/

/-- What class ADDR makes of a core: the field that the word names takes `new` of its value. -/
def LodCore.addrSet (c : LodCore) (w : BitVec 28) (new : BitVec 18 → BitVec 18) : LodCore :=
  let g := fin8 (wbits w 23 3)
  match wbits w 26 2 with
  | 0 => { c with base := vmod c.base g new }
  | 1 => { c with idx := vmod c.idx g (fun i => reduceIdx (vget c.span g) (new i).toNat) }
  | 2 => { c with step := vmod c.step g new }
  | _ =>
    let i := reduceIdx (new (vget c.span g)) (vget c.idx g).toNat
    { c with span := vmod c.span g new, idx := vset c.idx g i }

/-- The source of class ADDR. -/
def State.addrArg (s : State) (n : Fin 8) (w : BitVec 28) : BitVec 18 :=
  if wbits w 21 1 = 0 then BitVec.ofNat 18 (wbits w 0 18) else (s.dreg n (wbits w 0 4)).setWidth 18

theorem State.addrOp_eq (s : State) (n : Fin 8) (w : BitVec 28) (add : Bool) : s.addrOp n w add =
    s.lodIssue n .plain (wbits w 21 1 == 1 || wbits w 18 3 == 0) { walkW := 2 ^ (fin8 (wbits w 23 3)).val } (runOn (fun s =>
      s.modCore n (fun c => c.addrSet w (fun old => if add then old + s.addrArg n w else s.addrArg n w)))) := rfl

/-- The fields that class ADDR changes hang on the walker's fields alone. -/
theorem LodCore.addrSet_congr {c c' : LodCore} (hb : c'.base = c.base) (hi : c'.idx = c.idx) (hs : c'.step = c.step) (hp : c'.span = c.span) (w : BitVec 28)
    (new : BitVec 18 → BitVec 18) : c'.addrSet w new = { c' with base := (c.addrSet w new).base, idx := (c.addrSet w new).idx
                                                                 step := (c.addrSet w new).step, span := (c.addrSet w new).span } := by
  obtain ⟨⟩ := c
  obtain ⟨⟩ := c'
  dsimp only at hb hi hs hp
  subst hb hi hs hp
  unfold LodCore.addrSet
  dsimp only
  split <;> rfl

/-- A walker's named field takes its new value, and an index is kept within its span. -/
theorem completes_addrOp {c : Instr} {s : State} {n : Fin 8} {w : BitVec 28} {add : Bool} (he : exec c s = .next (s.addrOp n w add))
    (h : s.lodRuns n .plain) (hw : wbits w 21 1 = 1 ∨ wbits w 18 3 = 0) {new : BitVec 18 → BitVec 18}
    (hnew : (fun old => if add then old + s.addrArg n w else s.addrArg n w) = new) : Completes c s (fun t =>
      t.core n = ((s.core n).ranOn 1 { walkW := 2 ^ (fin8 (wbits w 23 3)).val }).addrSet w new ∧ s.quietFor t n) := by
  have harg : (s.lodAt n 1 { walkW := 2 ^ (fin8 (wbits w 23 3)).val }).addrArg n w = s.addrArg n w := by
    rw [State.addrArg, State.dreg_lodAt]; rfl
  have hc : ((s.lodAt n 1 { walkW := 2 ^ (fin8 (wbits w 23 3)).val }).modCore n (fun c => c.addrSet w new)).core n =
      { (s.core n).counted 1 { walkW := 2 ^ (fin8 (wbits w 23 3)).val } with
        base := ((s.core n).addrSet w new).base, idx := ((s.core n).addrSet w new).idx
        step := ((s.core n).addrSet w new).step, span := ((s.core n).addrSet w new).span } :=
    (State.core_modCore_of (fun c => c.addrSet w new) (s.core_lodAt n 1 _)).trans
      (LodCore.addrSet_congr (c := s.core n) (c' := (s.core n).counted 1 { walkW := 2 ^ (fin8 (wbits w 23 3)).val }) rfl rfl rfl rfl w new)
  refine .of_coreEff (len := 1) (he.trans (congrArg _ (s.addrOp_eq n w add))) h rfl ?_ ?_ hc
    ((s.quietFor_lodAt n 1 _).modCore _) rfl rfl rfl rfl rfl rfl ?_
  · rcases hw with hw | hw
    · rw [hw]; rfl
    · rw [hw, Bool.or_comm]; rfl
  · rw [runOn, harg, hnew]
  · refine Eq.symm ((LodCore.addrSet_congr (c := s.core n) ?_ ?_ ?_ ?_ w new).trans ?_) <;> rw [LodCore.ranOn_eq] <;> rfl

/-- The four cases of class ADDR. -/
theorem LodCore.addrSet_cases (c : LodCore) (w : BitVec 28) (new : BitVec 18 → BitVec 18) : let g := fin8 (wbits w 23 3)
    (wbits w 26 2 = 0 → c.addrSet w new = { c with base := vset c.base g (new (vget c.base g)) })
    ∧ (wbits w 26 2 = 1 → c.addrSet w new = { c with idx := vset c.idx g (reduceIdx (vget c.span g) (new (vget c.idx g)).toNat) })
    ∧ (wbits w 26 2 = 2 → c.addrSet w new = { c with step := vset c.step g (new (vget c.step g)) })
    ∧ (wbits w 26 2 = 3 → c.addrSet w new = { c with
        span := vset c.span g (new (vget c.span g)), idx := vset c.idx g (reduceIdx (new (vget c.span g)) (vget c.idx g).toNat) }) := by
  unfold LodCore.addrSet
  refine ⟨fun h => ?_, fun h => ?_, fun h => ?_, fun h => ?_⟩ <;> rw [h] <;> rfl

/-- The walker registers as an instruction of class ADDR leaves them. -/
theorem LodCore.addrSet_ranOn (c : LodCore) (w : BitVec 28) (new : BitVec 18 → BitVec 18) : let g := fin8 (wbits w 23 3)
    let r : LodCore := c.ranOn 1 { walkW := 2 ^ g.val }
    (wbits w 26 2 = 0 → r.addrSet w new = { r with base := vset c.base g (new (vget c.base g)) })
    ∧ (wbits w 26 2 = 1 → r.addrSet w new = { r with idx := vset c.idx g (reduceIdx (vget c.span g) (new (vget c.idx g)).toNat) })
    ∧ (wbits w 26 2 = 2 → r.addrSet w new = { r with step := vset c.step g (new (vget c.step g)) })
    ∧ (wbits w 26 2 = 3 → r.addrSet w new = { r with
        span := vset c.span g (new (vget c.span g)), idx := vset c.idx g (reduceIdx (new (vget c.span g)) (vget c.idx g).toNat) }) := by
  intro g r
  obtain ⟨h0, h1, h2, h3⟩ := r.addrSet_cases w new
  have hr : r = c.ranOn 1 { walkW := 2 ^ g.val } := rfl
  rw [LodCore.ranOn_eq] at hr
  have hb : r.base = c.base := by rw [hr]; rfl
  have hi : r.idx = c.idx := by rw [hr]; rfl
  have hs : r.step = c.step := by rw [hr]; rfl
  have hp : r.span = c.span := by rw [hr]; rfl
  exact ⟨fun hw => (h0 hw).trans (by rw [hb]), fun hw => (h1 hw).trans (by rw [hi, hp]), fun hw => (h2 hw).trans (by rw [hs]),
    fun hw => (h3 hw).trans (by rw [hi, hp])⟩

/-! ### Tap queues (R356) -/

theorem State.tap_modTap_same (s : State) (n : Fin 8) (q : Fin 2) (f : LodTap → LodTap) : (s.modTap n q f).tap n q = f (s.tap n q) := by
  unfold State.tap State.modTap
  dsimp only
  rw [vmod, vget_vset_same, vmod, vget_vset_same]

/-- The flags and the stamp of an entry in TFL and TS. -/
def LodCore.tapRead (e : TapItem) (c : LodCore) : LodCore :=
  { c with
    tfl := BitVec.ofNat 24 (e.seq.toNat + b2n e.ovr * 2 ^ 16 + b2n e.thr * 2 ^ 17 + b2n e.dsat * 2 ^ 18 + b2n e.gap * 2 ^ 19)
    ts := #v[ts0Of e.stamp, ts1Of e.stamp, ts2Of e.stamp] }

/-- TGET takes the oldest entry of a tap. -/
theorem completes_tget {s : State} {n : Fin 8} {w : BitVec 26} {e : TapItem} {es : List TapItem} (h : s.lodRuns n .tget) (hw : wbits w 0 16 = 0) :
    let q : Fin 2 := if wbits w 25 1 = 0 then 0 else 1
    let r := wbits w 16 3
    (s.tap n q).queue = e :: es → Completes (.tget n w) s (fun t =>
      t.core n = { (s.core n).ranOn 1 {} with
        d := vset (vset (s.core n).d (fin16 (2 * r)) e.i) (fin16 (2 * r + 1)) e.q
        tfl := BitVec.ofNat 24 (e.seq.toNat + b2n e.ovr * 2 ^ 16 + b2n e.thr * 2 ^ 17 + b2n e.dsat * 2 ^ 18 + b2n e.gap * 2 ^ 19)
        ts := #v[ts0Of e.stamp, ts1Of e.stamp, ts2Of e.stamp] }
      ∧ (t.tap n q).queue = es ∧ (∀ m, m ≠ n → t.core m = s.core m) ∧ t.regs = s.regs ∧ t.sram = s.sram) := by
  intro q r hq
  let y := (s.lodAt n 1 {}).modTap n q (fun t => { t with queue := es })
  have hy : y.core n = (s.core n).counted 1 {} := s.core_lodAt n 1 {}
  have hc := State.core_modCore_of (LodCore.tapRead e) (State.core_setDreg_of (State.core_setDreg_of hy (2 * r) e.i) (2 * r + 1) e.q)
  have hquiet : y.quietFor ((((y.setDreg n (2 * r) e.i).setDreg n (2 * r + 1) e.q).modCore n (LodCore.tapRead e)).lodDone n 1 {}) n :=
    (((State.quietFor.modCore ⟨.refl y n, rfl, rfl⟩ _).modCore _).modCore _).lodDone 1 {}
  refine .of_runOn (len := 1) rfl h rfl (by rw [hw]; rfl) ?_ (by rw [hc]; exact h.2.2.1)
    ⟨(State.core_lodDone_of (s := s) hc rfl rfl rfl rfl rfl 1 {}).trans ?_, ?_, ?_, hquiet.2.1, hquiet.2.2⟩
  · have ht : (s.lodAt n 1 {}).tap n q = s.tap n q := rfl
    dsimp only
    rw [ht, hq]
    rfl
  · rw [LodCore.ranOn_eq]
    rfl
  · have ht : y.tap n q = { (s.lodAt n 1 {}).tap n q with queue := es } := State.tap_modTap_same _ n q _
    rw [State.tap, hquiet.1.2, ← State.tap, ht]
  · intro m hm
    exact (hquiet.1.1 m hm).trans ((s.otherCores_lodAt n 1 {}).1 m hm)

/-! ### MVS and MVT (R359) -/

/-- MVS reads a special register. -/
theorem completes_mvs {s : State} {n : Fin 8} {w : BitVec 26} (h : s.lodRuns n .plain) (hw : wbits w 0 16 = 0) (hcode : wbits w 20 5 ≤ 14) :
    let x := (s.lodAt n 1 {}).mvsRead n (wbits w 20 5)
    Completes (.mvs n w) s (fun t => (t.core n).d = vset (s.core n).d (fin16 (wbits w 16 4)) x.1 ∧ (t.core n).pc = ((s.core n).stepOn 1).pc
      ∧ (t.core n).mail = (x.2.core n).mail ∧ (t.core n).door = (x.2.core n).door ∧ (t.core n).peers = (x.2.core n).peers ∧ (t.core n).peer = (x.2.core n).peer
      ∧ (t.core n).now1 = (x.2.core n).now1 ∧ (t.core n).now2 = (x.2.core n).now2 ∧ (t.core n).u = (s.core n).u ∧ (t.core n).idx = (s.core n).idx
      ∧ s.quietFor t n) := by
  intro x
  obtain ⟨hquiet, hread⟩ := (s.lodAt n 1 {}).mvsRead_fields n (wbits w 20 5)
  rw [State.core_lodAt] at hread
  have hc := State.core_setDreg_of hread (wbits w 16 4) x.1
  have ht := State.core_lodDone_of (s := s) hc rfl rfl rfl rfl rfl 1 {}
  refine .of_runOn (len := 1) rfl h rfl (by rw [hw, decide_eq_true hcode]; rfl) rfl (by rw [hc]; exact h.2.2.1) ?_
  rw [ht]
  exact ⟨rfl, rfl, rfl, rfl, rfl, rfl, rfl, rfl, rfl, rfl, (((s.quietFor_lodAt n 1 {}).trans hquiet).setDreg _ _).lodDone 1 {}⟩

/-- MVT of a code that is not SR. -/
theorem completes_mvt {s : State} {n : Fin 8} {w : BitVec 26} (h : s.lodRuns n .plain) (hw : wbits w 0 16 = 0) (hcode : wbits w 20 5 ≤ 14) :
    (wbits w 20 5 = 1 → Completes (.mvt n w) s (fun t => t.core n = { (s.core n).ranOn 1 {} with imr := s.dreg n (wbits w 16 4) } ∧ s.quietFor t n))
    ∧ (1 < wbits w 20 5 → Completes (.mvt n w) s (fun t => t.core n = (s.core n).ranOn 1 {} ∧ s.quietFor t n)) := by
  have hok : (wbits w 0 16 == 0 && decide (wbits w 20 5 ≤ 14)) = true := by rw [hw, decide_eq_true hcode]; rfl
  have hq := s.quietFor_lodAt n 1 {}
  constructor
  · intro h1
    refine .of_coreEff (len := 1) (u := {}) rfl h rfl hok ?_
      (State.core_modCore_of (fun c => { c with imr := s.dreg n (wbits w 16 4) }) (s.core_lodAt n 1 {})) (hq.modCore _) rfl rfl rfl rfl rfl rfl ?_
    · rw [runOn, h1, State.dreg_lodAt]
      rfl
    · rw [LodCore.ranOn_eq]
  · intro h1
    refine .of_coreEff (len := 1) (u := {}) rfl h rfl hok ?_ (s.core_lodAt n 1 {}) hq rfl rfl rfl rfl rfl rfl ?_
    · obtain ⟨k, hk⟩ : ∃ k, wbits w 20 5 = k + 2 := ⟨wbits w 20 5 - 2, by omega⟩
      rw [runOn, hk]
      rfl
    · rw [LodCore.ranOn_eq]

/-- MVT of SR. -/
theorem completes_mvt_sr {s : State} {n : Fin 8} {w : BitVec 26} (h : s.lodRuns n .plain) (hw : wbits w 0 16 = 0) (hcode : wbits w 20 5 = 0) :
    let v := s.dreg n (wbits w 16 4)
    Completes (.mvt n w) s (fun t =>
      t.core n = { (s.core n).ranOn 1 {} with
        z := v.getLsbD 0, n := v.getLsbD 1, c := v.getLsbD 2, v := v.getLsbD 3, ie := v.getLsbD 7 }
      ∧ t.flag (LOD_STAT.V24 n) = v.getLsbD 4 ∧ t.flag (LOD_STAT.V56 n) = v.getLsbD 5 ∧ t.flag (LOD_STAT.SAT n) = v.getLsbD 6
      ∧ s.otherCores t n ∧ t.sram = s.sram) := by
  intro v
  have hc := (s.lodAt n 1 {}).core_setSr n v.toNat
  rw [State.core_lodAt] at hc
  obtain ⟨f1, f2, f3⟩ := (s.lodAt n 1 {}).setSr_flags n v.toNat
  refine .of_runOn (len := 1) (s1 := (s.lodAt n 1 {}).setSr n v.toNat) rfl h rfl (by rw [hw, hcode]; rfl) ?_ (by rw [hc]; exact h.2.2.1)
    ⟨(State.core_lodDone_of (s := s) hc rfl rfl rfl rfl rfl 1 {}).trans ?_, ?_, ?_, ?_,
      ((s.otherCores_lodAt n 1 {}).setSr _).lodDone 1 {}, (State.sram_lodDone _ _ _ _).trans ((State.sram_setSr _ n _).trans (State.sram_modCore _ _ _))⟩
  · rw [runOn, hcode, State.dreg_lodAt]
    rfl
  · rw [LodCore.ranOn_eq]
    rfl
  · rw [State.flag_lodDone, f1]; rfl
  · rw [State.flag_lodDone, f2]; rfl
  · rw [State.flag_lodDone, f3]; rfl

/-- Settles O34: an account of each form. -/
theorem lodestarLoads : Obligations.LodestarLoads := by
  intro s n
  refine ⟨fun w v h hok hv => completes_ld h hok hv, fun w lo hi h hok hlo hhi => completes_ldl h hok hlo hhi,
    fun w imm h hw => ⟨fun himm => completes_ldi h hw himm, fun v himm hv => completes_lda h hw himm hv⟩, ?_,
    fun w e es h hw => completes_tget h hw,
    fun w h hw hcode => ⟨completes_mvs h hw hcode, (completes_mvt h hw hcode).1, (completes_mvt h hw hcode).2, completes_mvt_sr h hw⟩⟩
  intro w h hw g v c r after
  have hafter (new : BitVec 18 → BitVec 18) (t : State) (ht : t.core n = r.addrSet w new ∧ s.quietFor t n) : after new t ∧ s.quietFor t n := by
    obtain ⟨h0, h1, h2, h3⟩ := c.addrSet_ranOn w new
    exact ⟨⟨fun hk => ht.1.trans (h0 hk), fun hk => ht.1.trans (h1 hk), fun hk => ht.1.trans (h2 hk), fun hk => ht.1.trans (h3 hk)⟩, ht.2⟩
  obtain ⟨t, he, ht⟩ := completes_addrOp (c := .ldg n w) (add := false) rfl h hw rfl
  obtain ⟨t', he', ht'⟩ := completes_addrOp (c := .addg n w) (add := true) rfl h hw rfl
  exact ⟨⟨t, he, hafter _ t ht⟩, ⟨t', he', hafter _ t' ht'⟩⟩

end Sys2Proof.Machine
end

section
/-! PROOFS. The Lodestar instructions that store to memory (R338, R344, R346, R347). -/

namespace Sys2Proof.Machine

theorem Completes.mono {c : Instr} {s : State} {P Q : State → Prop} (h : Completes c s P) (hpq : ∀ t, P t → Q t) : Completes c s Q := by
  obtain ⟨t, he, ht⟩ := h
  exact ⟨t, he, hpq t ht⟩

/-! ### Words of SRAM -/

theorem readLE_congr {rd rd' : Nat → Byte} (k : Nat) {a : Nat} (h : ∀ i, a ≤ i → i < a + k → rd i = rd' i) : readLE rd a k = readLE rd' a k := by
  induction k generalizing a with
  | zero => rfl
  | succ k ih => rw [readLE, readLE, h a (by omega) (by omega), ih (fun i hi hk => h i (by omega) (by omega))]

theorem State.sramLE_of_sram {s t : State} (h : t.sram = s.sram) (a k : Nat) : t.sramLE a k = s.sramLE a k := by
  rw [State.sramLE, State.sramLE]
  exact readLE_congr k fun i _ _ => by rw [State.sramByte, State.sramByte, h]

/-- A value written to SRAM reads back modulo its width. -/
theorem State.sramLE_setSramLE (s : State) (a k v : Nat) : (s.setSramLE a k v).sramLE a k = v % 256 ^ k := by
  induction k generalizing s a v with
  | zero => rw [pow_zero, Nat.mod_one]; rfl
  | succ k ih =>
    have hfirst : (s.setSramLE a (k + 1) v).sramByte a = BitVec.ofNat 8 v := by
      rw [State.setSramLE, State.sramByte_setSramLE _ _ _ _ _ (by omega), State.sramByte_set_same]
    have hrest : readLE (s.setSramLE a (k + 1) v).sramByte (a + 1) k = v / 256 % 256 ^ k := ih _ _ _
    rw [State.sramLE, readLE, hfirst, hrest, BitVec.toNat_ofNat, Nat.pow_succ' (m := 256), Nat.mod_mul]

theorem State.sram_storeWord (s : State) (n : Fin 8) (w : Nat) (v : BitVec 32) :
    (s.storeWord n w v).sram = (s.setSramLE (dataAddr n w) 4 v.toNat).sram := State.sram_unpoison _ _ _

/-- A stored word reads back. -/
theorem State.sramLE_storeWord (s : State) (n : Fin 8) (w : Nat) (v : BitVec 32) : (s.storeWord n w v).sramLE (dataAddr n w) 4 = v.toNat := by
  rw [State.sramLE_of_sram (s.sram_storeWord n w v), State.sramLE_setSramLE]
  exact Nat.mod_eq_of_lt v.isLt

theorem State.sramByte_of_sram {s t : State} (h : t.sram = s.sram) (a : Nat) : t.sramByte a = s.sramByte a := by
  rw [State.sramByte, State.sramByte, h]

/-- A stored word leaves every byte outside it. -/
theorem State.sramByte_storeWord (s : State) (n : Fin 8) (w : Nat) (v : BitVec 32) {b : Nat} (h : b < dataAddr n w ∨ dataAddr n w + 4 ≤ b) :
    (s.storeWord n w v).sramByte b = s.sramByte b := by
  rw [State.sramByte_of_sram (s.sram_storeWord n w v), State.sramByte_setSramLE _ _ _ _ _ h]

/-- A stored word leaves every word apart from it. -/
theorem State.sramLE_storeWord_ne (s : State) (n : Fin 8) (w : Nat) (v : BitVec 32) {b : Nat} (h : b + 4 ≤ dataAddr n w ∨ dataAddr n w + 4 ≤ b) :
    (s.storeWord n w v).sramLE b 4 = s.sramLE b 4 :=
  readLE_congr 4 fun i hi hk => s.sramByte_storeWord n w v (by omega)

/-- Words that follow each other in data memory lie apart, at its end too. -/
theorem dataAddr_apart (n : Fin 8) (w : Nat) : dataAddr n w + 4 ≤ dataAddr n (w + 1) ∨ dataAddr n (w + 1) + 4 ≤ dataAddr n w := by
  unfold dataAddr
  omega

/-! ### Stores of one instruction -/

theorem State.otherCores_storeWord (s : State) (n : Fin 8) (w : Nat) (v : BitVec 32) : s.otherCores (s.storeWord n w v) n :=
  .of_lod (s.lod_storeWord n w v) n

theorem State.flag_storeWord (s : State) (n : Fin 8) (w : Nat) (v : BitVec 32) {f : Fld} (h : f.addr / 0x10000 = 0x10) :
    (s.storeWord n w v).flag f = s.flag f :=
  State.flag_eq_get ((Kept.storeWord (.refl _ s) (Foot.le_refl _) n w v).get_of (by rw [h]; rfl))

/-- What an instruction leaves whose effect y changes core n at most by d, which keeps its flow, and memory. -/
theorem Completes.of_memEff {c : Instr} {s y : State} {n : Fin 8} {k : LodKind} {ok : Bool} {u : LodUse} {len : Nat}
    {eff : State → Except LodTrap (State × LodFlow)} {d r : LodCore} (he : exec c s = .next (s.lodIssue n k ok u eff)) (h : s.lodRuns n k)
    (hlen : (if k == .long then 2 else 1) = len) (hok : ok = true) (heff : eff (s.lodAt n len u) = .ok (y, .seq)) (hc : y.core n = d)
    (hq : s.otherCores y n) (hpc : d.pc = (s.core n).pc) (hrep : d.rep = (s.core n).rep) (hdelay : d.delay = (s.core n).delay)
    (htarget : d.target = (s.core n).target) (hloops : d.loops = (s.core n).loops) (hstop : d.stopReq = (s.core n).stopReq)
    (hr : { d with pc := ((s.core n).stepOn len).pc, rep := ((s.core n).stepOn len).rep, delay := ((s.core n).stepOn len).delay,
                   target := ((s.core n).stepOn len).target, loops := ((s.core n).stepOn len).loops, lastAcc := u.accW, lastWalk := u.walkW } = r) :
    Completes c s (fun t => t.core n = r ∧ t.sram = y.sram ∧ (∀ f, t.flag f = y.flag f) ∧ s.otherCores t n) :=
  .of_runOn he h hlen hok heff (by rw [hc, hstop]; exact h.2.2.1)
    ⟨(State.core_lodDone_of hc hpc hrep hdelay htarget hloops len u).trans hr, y.sram_lodDone n len u, y.flag_lodDone n len u, hq.lodDone len u⟩

/-- Word w of core n's data memory holds v in t, and every other byte stands as in s. -/
theorem State.stored_of_sram {s s1 t : State} {n : Fin 8} {w : Nat} {v : BitVec 32} (ht : t.sram = (s1.storeWord n w v).sram) (h1 : s1.sram = s.sram) :
    t.sramLE (dataAddr n w) 4 = v.toNat ∧ ∀ b, (b < dataAddr n w ∨ dataAddr n w + 4 ≤ b) → t.sramByte b = s.sramByte b :=
  ⟨(State.sramLE_of_sram ht _ _).trans (s1.sramLE_storeWord n w v),
    fun b hb => (State.sramByte_of_sram ht b).trans ((s1.sramByte_storeWord n w v hb).trans (State.sramByte_of_sram h1 b))⟩

/-- ST of a data register. -/
theorem completes_st {s : State} {n : Fin 8} {w : BitVec 26} (h : s.lodRuns n .plain) (hok : ldstOk w false = true) :
    Completes (.st n false w) s (fun t =>
      t.core n = { (s.core n).ranOn 1 { walkR := 2 ^ wbits w 21 3 } with idx := ((s.ldst n w).2.core n).idx }
      ∧ (t.sramLE (dataAddr n (s.ldst n w).1) 4 = (store24 (s.dreg n (wbits w 17 4))).toNat
        ∧ ∀ b, (b < dataAddr n (s.ldst n w).1 ∨ dataAddr n (s.ldst n w).1 + 4 ≤ b) → t.sramByte b = s.sramByte b)
      ∧ s.otherCores t n) := by
  let s1 := ((s.lodAt n 1 { walkR := 2 ^ wbits w 21 3 }).ldst n w).2
  have hquiet : s.quietFor s1 n := s.quietFor_ldst n 1 _ w
  refine Completes.mono (.of_memEff (len := 1) (u := { walkR := 2 ^ wbits w 21 3 }) rfl h rfl hok ?_
    ((State.core_of_lod (s1.lod_storeWord n (s.ldst n w).1 (store24 (s.dreg n (wbits w 17 4)))) n).trans (s.core_ldst n 1 _ w))
    (hquiet.1.trans (s1.otherCores_storeWord n _ _)) rfl rfl rfl rfl rfl rfl (by rw [LodCore.ranOn_eq]))
    fun t ht => ⟨ht.1, State.stored_of_sram ht.2.1 hquiet.2.2, ht.2.2.2⟩
  rw [← (s.ldst_lodAt n 1 { walkR := 2 ^ wbits w 21 3 } w).1, ← s.dreg_lodAt n 1 { walkR := 2 ^ wbits w 21 3 }]
  rfl

/-- STA. -/
theorem completes_sta {s : State} {n : Fin 8} {w : BitVec 24} {imm : BitVec 32} (h : s.lodRuns n .long) (hw : wbits w 0 20 = 0)
    (himm : wbits imm 18 14 = 0) : Completes (.sta n w imm) s (fun t =>
      t.core n = (s.core n).ranOn 2 {} ∧ (t.sramLE (dataAddr n imm.toNat) 4 = (store24 (s.dreg n (wbits w 20 4))).toNat
        ∧ ∀ b, (b < dataAddr n imm.toNat ∨ dataAddr n imm.toNat + 4 ≤ b) → t.sramByte b = s.sramByte b)
      ∧ s.otherCores t n) := by
  let s1 := s.lodAt n 2 {}
  have hquiet : s.quietFor s1 n := s.quietFor_lodAt n 2 {}
  refine Completes.mono (.of_memEff (len := 2) (u := {}) rfl h rfl (by rw [hw, himm]; rfl) ?_
    ((State.core_of_lod (s1.lod_storeWord n imm.toNat (store24 (s.dreg n (wbits w 20 4)))) n).trans (s.core_lodAt n 2 {}))
    (hquiet.1.trans (s1.otherCores_storeWord n _ _)) rfl rfl rfl rfl rfl rfl (by rw [LodCore.ranOn_eq]))
    fun t ht => ⟨ht.1, State.stored_of_sram ht.2.1 hquiet.2.2, ht.2.2.2⟩
  rw [runOn, s.dreg_lodAt n 2 {}]

/-- The operand of class LDST leaves accumulators, flags and applied copies. -/
theorem State.ldst_keeps (s : State) (n : Fin 8) (w : BitVec 26) : (∀ k, (s.ldst n w).2.acc n k = s.acc n k)
    ∧ (s.ldst n w).2.regs = s.regs ∧ (s.ldst n w).2.applied = s.applied := by
  refine ⟨fun k => ?_, (s.walked_ldst n w).2.2.1, ?_⟩
  · rw [State.acc, State.acc, (s.walked_ldst n w).1]
  · unfold State.ldst
    dsimp only
    split <;> rfl

/-- The store of an accumulator hangs on its value, on SATST and on the flags. -/
theorem State.accStore_congr {s t : State} {n : Fin 8} {k : Nat} (hacc : t.acc n k = s.acc n k) (hregs : t.regs = s.regs) (happ : t.applied = s.applied) :
    (t.accStore n k).1 = (s.accStore n k).1 ∧ (t.accStore n k).2.flag (LOD_STAT.SAT n) = (s.accStore n k).2.flag (LOD_STAT.SAT n) := by
  have hsat : t.appFlag (LOD_CTRL.SATST n) = s.appFlag (LOD_CTRL.SATST n) := by
    unfold State.appFlag State.app State.appWord
    rw [happ]
  have hput (x : State) : (x.put (LOD_STAT.SAT n) 1).flag (LOD_STAT.SAT n) = true := State.flag_put_one _ _ (by show 9 + 1 ≤ 32; decide) rfl
  unfold State.accStore
  rw [hacc, hsat]
  dsimp only
  split
  · exact ⟨rfl, (hput _).trans (hput _).symm⟩
  · exact ⟨rfl, State.flag_eq_get (State.get_of_regs hregs _)⟩

/-- ST of an accumulator. -/
theorem completes_st_acc {s : State} {n : Fin 8} {w : BitVec 26} (h : s.lodRuns n .plain) (hok : ldstOk w true = true) :
    Completes (.st n true w) s (fun t =>
      t.core n = { (s.core n).ranOn 1 { walkR := 2 ^ wbits w 21 3, accR := 2 ^ wbits w 17 3 } with idx := ((s.ldst n w).2.core n).idx }
      ∧ (t.sramLE (dataAddr n (s.ldst n w).1) 4 = (store24 (s.accStore n (wbits w 17 3)).1).toNat
        ∧ ∀ b, (b < dataAddr n (s.ldst n w).1 ∨ dataAddr n (s.ldst n w).1 + 4 ≤ b) → t.sramByte b = s.sramByte b)
      ∧ s.otherCores t n ∧ t.flag (LOD_STAT.SAT n) = (s.accStore n (wbits w 17 3)).2.flag (LOD_STAT.SAT n)) := by
  let u : LodUse := { walkR := 2 ^ wbits w 21 3, accR := 2 ^ wbits w 17 3 }
  let s1 := ((s.lodAt n 1 u).ldst n w).2
  have hquiet : s.quietFor s1 n := s.quietFor_ldst n 1 u w
  obtain ⟨hacc, hregs, happ⟩ := (s.lodAt n 1 u).ldst_keeps n w
  obtain ⟨hval, hsat⟩ := State.accStore_congr ((hacc (wbits w 17 3)).trans (s.acc_lodAt n 1 u _)) (s := s) hregs happ
  obtain ⟨h1, h2, h3⟩ := State.accStore_fields (s.core_ldst n 1 u w) (wbits w 17 3)
  refine Completes.mono (.of_memEff (len := 1) (u := u) rfl h rfl hok ?_
    ((State.core_of_lod (State.lod_storeWord _ n (s.ldst n w).1 (store24 (s.accStore n (wbits w 17 3)).1)) n).trans h1)
    ((hquiet.1.trans h2).trans (State.otherCores_storeWord _ n _ _)) rfl rfl rfl rfl rfl rfl (by rw [LodCore.ranOn_eq]))
    fun t ht => ⟨ht.1, State.stored_of_sram ht.2.1 (h3.trans hquiet.2.2), ht.2.2.2,
      (ht.2.2.1 _).trans ((State.flag_storeWord _ _ _ _ (LOD_STAT.block n)).trans hsat)⟩
  rw [← (s.ldst_lodAt n 1 u w).1, ← hval]
  rfl

/-- STL stores the 56 bits of an accumulator in two words. -/
theorem completes_stl {s : State} {n : Fin 8} {w : BitVec 26} (h : s.lodRuns n .plain) (hok : ldstOk w true = true) :
    let a := dataAddr n (s.ldst n w).1
    let b := dataAddr n ((s.ldst n w).1 + 1)
    let v := s.acc n (wbits w 17 3)
    Completes (.stl n w) s (fun t =>
      t.core n = { (s.core n).ranOn 1 { walkR := 2 ^ wbits w 21 3, accR := 2 ^ wbits w 17 3 } with idx := ((s.ldst n w).2.core n).idx }
      ∧ t.sramLE a 4 = (v.setWidth 32).toNat ∧ t.sramLE b 4 = (store24 ((v >>> 32).setWidth 24)).toNat
      ∧ (∀ x, (x < a ∨ a + 4 ≤ x) → (x < b ∨ b + 4 ≤ x) → t.sramByte x = s.sramByte x) ∧ s.otherCores t n) := by
  intro a b v
  let u : LodUse := { walkR := 2 ^ wbits w 21 3, accR := 2 ^ wbits w 17 3 }
  let s1 := ((s.lodAt n 1 u).ldst n w).2
  let s2 := s1.storeWord n (s.ldst n w).1 (v.setWidth 32)
  let s3 := s2.storeWord n ((s.ldst n w).1 + 1) (store24 ((v >>> 32).setWidth 24))
  let s4 := if (s.ldst n w).1 % 2 = 0 then s3.unpoison a 8 else s3
  have hquiet : s.quietFor s1 n := s.quietFor_ldst n 1 u w
  have hs4 : s4.lod = s3.lod ∧ s4.sram = s3.sram := by
    have hk := Kept.unpoison (.refl _ s3) (Foot.le_refl _) a 8
    unfold s4
    split
    · exact ⟨hk.part_of .lod rfl, hk.part_of .sram rfl⟩
    · exact ⟨rfl, rfl⟩
  obtain ⟨hlod, hsram⟩ := hs4
  have hlod3 : s4.lod = s1.lod := hlod.trans ((State.lod_storeWord _ _ _ _).trans (State.lod_storeWord _ _ _ _))
  refine Completes.mono (.of_memEff (len := 1) (u := u) (y := s4) rfl h rfl hok ?_
    ((State.core_of_lod hlod3 n).trans (s.core_ldst n 1 u w)) (hquiet.1.trans (.of_lod hlod3 n)) rfl rfl rfl rfl rfl rfl (by rw [LodCore.ranOn_eq]))
    fun t ht => ⟨ht.1, ?_, ?_, ?_, ht.2.2.2⟩
  · unfold s4 s3 s2 a v
    rw [← (s.ldst_lodAt n 1 u w).1, ← s.acc_lodAt n 1 u]
  · have hsr := ht.2.1.trans hsram
    exact (State.sramLE_of_sram hsr a 4).trans ((s2.sramLE_storeWord_ne n _ _ (dataAddr_apart n _)).trans (s1.sramLE_storeWord n _ _))
  · exact (State.sramLE_of_sram (ht.2.1.trans hsram) b 4).trans (s2.sramLE_storeWord n _ _)
  · intro x ha hb
    exact (State.sramByte_of_sram (ht.2.1.trans hsram) x).trans ((s2.sramByte_storeWord n _ _ hb).trans
      ((s1.sramByte_storeWord n _ _ ha).trans (State.sramByte_of_sram hquiet.2.2 x)))

/-- MOVE lands its transfers. -/
theorem completes_move {s s1 : State} {n : Fin 8} {w : BitVec 28} {ls ws : List (Nat × BitVec 24)} (h : s.lodRuns n .plain) :
    let xs := [xferOf (wbits w 9 9), xferOf (wbits w 0 9)]
    let s0 := s.lodAt n 1 { walkR := xferWalkers xs }
    wbits w 18 10 = 0 → (∀ x ∈ xs, x.code ≠ 3) → State.gather s0 n xs s0 = .ok (s1, ls, ws) → Completes (.move n w) s (fun t =>
      (t.core n).idx = (s1.core n).idx ∧ (t.core n).d = ((s1.landXfers n ls ws).core n).d ∧ (t.core n).u = (s.core n).u
      ∧ (t.core n).pc = ((s.core n).stepOn 1).pc ∧ s.otherCores t n ∧ t.sram = (s1.landXfers n ls ws).sram) := by
  intro xs s0 hw hx hg
  have hok : (wbits w 18 10 == 0 && xs.all (fun x => x.code != 3)) = true := by
    rw [hw, List.all_eq_true.mpr fun x hm => bne_iff_ne.mpr (hx x hm)]
    rfl
  have hwalk := State.walked_gather _ n _ hg
  have hcore := hwalk.1
  rw [show s0.core n = _ from s.core_lodAt n 1 _] at hcore
  obtain ⟨hc, hothers, -⟩ := State.landXfers_fields hcore ls ws
  refine Completes.mono (.of_memEff (len := 1) (u := { walkR := xferWalkers xs }) rfl h rfl hok ?_ hc
    (((s.otherCores_lodAt n 1 _).trans hwalk.2.1).trans hothers) rfl rfl rfl rfl rfl rfl rfl) fun t ht => ?_
  · rw [hg]
  · obtain ⟨hr, hsram, -, hoth⟩ := ht
    rw [hr, hc]
    exact ⟨rfl, rfl, rfl, rfl, hoth, hsram⟩

/-- Settles O35: an account of each form. -/
theorem lodestarStores : Obligations.LodestarStores := by
  intro s n
  exact ⟨fun w h hok => completes_st h hok, fun w h hok => completes_st_acc h hok, fun w h hok => completes_stl h hok,
    fun w imm h hw himm => completes_sta h hw himm, fun w s1 ls ws h => completes_move h⟩

end Sys2Proof.Machine
end

section
/-! PROOFS. The stalls: what an operation on one leaves of another (R387, R388, R390). -/

namespace Sys2Proof.Machine

/-- Stall k stands in t as in s: its status register, its count of descriptors and the descriptor in work. -/
structure State.stallKept (k : Nat) (s t : State) : Prop where
  stat : t.word (DMA_S_STAT.addr k) = s.word (DMA_S_STAT.addr k)
  done : t.word (DMA_S_DONE.addr k) = s.word (DMA_S_DONE.addr k)
  cur : t.dmaCur k = s.dmaCur k

theorem State.stallKept.refl (k : Nat) (s : State) : s.stallKept k s := ⟨rfl, rfl, rfl⟩

theorem State.stallKept.trans {k : Nat} {s t r : State} (h : s.stallKept k t) (g : t.stallKept k r) : s.stallKept k r :=
  ⟨g.stat.trans h.stat, g.done.trans h.done, g.cur.trans h.cur⟩

theorem State.dmaCur_of {s t : State} (h : t.dma.stall = s.dma.stall) (k : Nat) : t.dmaCur k = s.dmaCur k := by rw [State.dmaCur, State.dmaCur, h]

theorem State.stallKept.state {k : Nat} {s t : State} (h : s.stallKept k t) : t.dmaState k = s.dmaState k := by
  rw [State.dmaState, State.dmaState, State.get, State.get]
  exact congrArg (bitsOf · _ _) h.stat

theorem State.stallKept.get {k lo n : Nat} {s t : State} (h : s.stallKept k t) : t.get ⟨DMA_S_STAT.addr k, lo, n⟩ = s.get ⟨DMA_S_STAT.addr k, lo, n⟩ :=
  congrArg (bitsOf · lo n) h.stat

theorem State.stallKept_put (k : Nat) (s : State) {f : Fld} (v : Nat) (h : f.addr ≠ DMA_S_STAT.addr k) (hd : f.addr ≠ DMA_S_DONE.addr k) :
    s.stallKept k (s.put f v) :=
  ⟨State.word_put_ne s f v h.symm, State.word_put_ne s f v hd.symm, State.dmaCur_of (by rw [State.put_dma]) k⟩

theorem State.stallKept_kept {F : Foot} {s t : State} (k : Nat) (h : Kept F s t) (hw : F.word 0x12 = false) (hp : F.part .dma = false) : s.stallKept k t :=
  ⟨h.word_of (by rw [show DMA_S_STAT.addr k / 0x10000 = 0x12 from DMA_S_STAT.addr_win k]; exact hw),
    h.word_of (by rw [show DMA_S_DONE.addr k / 0x10000 = 0x12 from DMA_S_DONE.addr_win k]; exact hw),
    State.dmaCur_of (by rw [h.part_of .dma hp]) k⟩

theorem fin32_ne {q k : Nat} (hq : q < 32) (hk : k < 32) (h : q ≠ k) : fin32 k ≠ fin32 q := by
  intro e
  have := congrArg Fin.val e
  rw [Fin.val_ofNat, Fin.val_ofNat, Nat.mod_eq_of_lt hq, Nat.mod_eq_of_lt hk] at this
  exact h this.symm

theorem State.stallKept_setCur {q k : Nat} (hq : q < 32) (hk : k < 32) (h : q ≠ k) (s : State) (c : Option DmaCur) : s.stallKept k (s.setCur q c) :=
  ⟨rfl, rfl, vget_vset_ne _ _ (fin32_ne hq hk h)⟩

theorem State.dmaCur_setCur (s : State) (k : Nat) (c : Option DmaCur) : (s.setCur k c).dmaCur k = c := vget_vset_same _ _ _

theorem State.stallKept.ite {k : Nat} {s t r : State} (b : Prop) [Decidable b] (h : s.stallKept k t) (g : s.stallKept k r) :
    s.stallKept k (if b then t else r) := by split; exacts [h, g]

theorem State.stallKept_riseIrq (k : Nat) (s : State) {f : Fld} (n : Nat) (h : f.addr ≠ DMA_S_STAT.addr k) (hd : f.addr ≠ DMA_S_DONE.addr k) :
    s.stallKept k (s.riseIrq f n) :=
  .ite _ (.refl k s) ((State.stallKept_put k s 1 h hd).trans (State.stallKept_kept k (Kept.raiseIrq (.refl _ _) (Foot.le_refl _) n) rfl rfl))

/-- A check unit's result leaves every stall. -/
theorem State.stallKept_chkPublish (k : Nat) (s : State) (u : Nat) (b : Bool) : s.stallKept k (s.chkPublish u b) := by
  have h := Kept.chkPublish (.refl _ s) (Foot.le_refl _) u b
  refine ⟨h.word_of (by rw [show DMA_S_STAT.addr k / 0x10000 = 0x12 from DMA_S_STAT.addr_win k]; rfl),
    h.word_of (by rw [show DMA_S_DONE.addr k / 0x10000 = 0x12 from DMA_S_DONE.addr_win k]; rfl), State.dmaCur_of ?_ k⟩
  have hirq (x : State) (f : Fld) (n : Nat) : (x.riseIrq f n).dma = x.dma := by
    unfold State.riseIrq
    split
    · rfl
    · exact ((Kept.raiseIrq (.refl _ _) (Foot.le_refl _) n).part_of .dma rfl).trans (State.put_dma _ _ _)
  have hif (x : State) (w : Word) : (if b then x.setWord (CHK_RESULT.addr u) w
      else ((x.setWord (CHK_RESULT.addr u) (x.free.setWidth 32)).drawFree).bump (CHK_STAT.INVALIDS u)).dma = x.dma := by
    split
    · exact State.setWord_dma _ _ _
    · exact (State.bump_dma _ _).trans rfl
  unfold State.chkPublish State.chkOpen
  rw [State.put_dma]
  dsimp only [State.setChk]
  rw [hirq, State.put_dma, State.putB, State.put_dma, State.put_dma, State.setWord_dma, hif]

/-! ### Ends with a status other than OK (R387, R388) -/

/-- The Writes of stall k are dropped. -/
def State.sptDrop (s : State) (k : Nat) : State := { s with spt := { s.spt with out := s.spt.out.filter (fun x => x.stall != k) } }

/-- The registers and the interrupt of an end. -/
def State.dmaShow (s : State) (k head status detail : Nat) : State :=
  (((s.put (DMA_S_HEAD.HEAD k) head).put (DMA_S_STAT.LAST_STATUS k) status).put (DMA_S_STAT.DETAIL k) detail).riseIrq (DMA_S_STAT.ERR k) (32 + k)

/-- A descriptor's end before those that wait on its barrier end in turn. -/
def State.dmaFailed (s : State) (k : Nat) (c : DmaCur) (status detail : Nat) (stop : Bool) : State :=
  let s := (s.dmaWriteBack c false status detail).dmaCount k c.acked
  let s := (s.setCur k none).setDma k (if stop then dSTOPPED else dHALTED)
  let s := (s.sptDrop k).dmaShow k (c.addr / 64) status detail
  let s := s.fltInfo 0x18 k 0x12 dmaLocation (detail % 256 * 256 + status)
  if c.chkEn && s.appFlag (CHK_CFG.EN c.chku) && s.app (CHK_CFG.STALL c.chku) == k then s.chkPublish c.chku false else s

/-- The descriptors that wait on barrier b end with ERR_BAR. -/
def State.dmaFailWaiting (s : State) (b fuel : Nat) : State :=
  (List.range 32).foldl (fun (s : State) q =>
    match s.dmaCur q with
    | some d => if s.dmaState q == dWAITBAR && d.bar == b then State.dmaFail s q d 5 0 false fuel else s
    | none => s) s

theorem State.dmaFail_succ (s : State) (k : Nat) (c : DmaCur) (status detail : Nat) (stop : Bool) (fuel : Nat) :
    s.dmaFail k c status detail stop (fuel + 1) = if c.arrive then
      ((s.dmaFailed k c status detail stop).put (DMA_BAR_STAT.ERR c.bar) 1).dmaFailWaiting c.bar fuel else s.dmaFailed k c status detail stop := rfl

/-- What an end leaves of its own stall. -/
structure State.stallEnded (k st status detail : Nat) (t : State) : Prop where
  state : t.dmaState k = st
  cur : t.dmaCur k = none
  status : t.get (DMA_S_STAT.LAST_STATUS k) = status % 16
  detail : t.get (DMA_S_STAT.DETAIL k) = detail % 256

theorem State.stallEnded.kept {k st status detail : Nat} {s t : State} (h : s.stallEnded k st status detail) (g : s.stallKept k t) :
    t.stallEnded k st status detail := ⟨g.state.trans h.state, g.cur.trans h.cur, g.get.trans h.status, g.get.trans h.detail⟩

theorem State.get_put_stat (s : State) (k v : Nat) {lo n lo' n' : Nat} (h : lo + n ≤ 32) (h' : lo + n ≤ lo' ∨ lo' + n' ≤ lo) :
    (s.put ⟨DMA_S_STAT.addr k, lo, n⟩ v).get ⟨DMA_S_STAT.addr k, lo', n'⟩ = s.get ⟨DMA_S_STAT.addr k, lo', n'⟩ :=
  State.get_put_apart s _ _ v h (.inr h')

/-- The registers of other stalls lie apart. -/
theorem DMA_S.apart {q k : Nat} (hq : q < 32) (hk : k < 32) (h : q ≠ k) : DMA_S_STAT.addr q ≠ DMA_S_STAT.addr k ∧ DMA_S_DONE.addr q ≠ DMA_S_DONE.addr k := by
  unfold DMA_S_STAT.addr DMA_S_DONE.addr; omega

/-- Registers of a stall beside its status and its count of descriptors. -/
theorem DMA_S.beside (q k : Nat) : (DMA_S_STAT.addr q ≠ DMA_S_DONE.addr k) ∧ (DMA_S_DONE.addr q ≠ DMA_S_STAT.addr k)
    ∧ (DMA_S_HEAD.addr q ≠ DMA_S_STAT.addr k ∧ DMA_S_HEAD.addr q ≠ DMA_S_DONE.addr k)
    ∧ (DMA_BAR_STAT.addr q ≠ DMA_S_STAT.addr k ∧ DMA_BAR_STAT.addr q ≠ DMA_S_DONE.addr k) := by
  unfold DMA_S_STAT.addr DMA_S_DONE.addr DMA_S_HEAD.addr DMA_BAR_STAT.addr; omega

theorem State.stallKept_dmaCount (k : Nat) (s : State) (q n : Nat) : s.stallKept k (s.dmaCount q n) := by
  have h : DMA_S_BYTES_LO.addr q ≠ DMA_S_STAT.addr k ∧ DMA_S_BYTES_LO.addr q + 4 ≠ DMA_S_STAT.addr k
      ∧ DMA_S_BYTES_LO.addr q ≠ DMA_S_DONE.addr k ∧ DMA_S_BYTES_LO.addr q + 4 ≠ DMA_S_DONE.addr k := by
    unfold DMA_S_BYTES_LO.addr DMA_S_STAT.addr DMA_S_DONE.addr; omega
  unfold State.dmaCount State.putPair
  exact ⟨by rw [State.word_setWord_ne _ _ h.2.1.symm, State.word_setWord_ne _ _ h.1.symm],
    by rw [State.word_setWord_ne _ _ h.2.2.2.symm, State.word_setWord_ne _ _ h.2.2.1.symm],
    State.dmaCur_of (by rw [State.setWord_dma, State.setWord_dma]) k⟩

theorem State.stallKept_before (k : Nat) (s : State) (q : Nat) (c : DmaCur) (done : Bool) (status detail : Nat) :
    s.stallKept k ((s.dmaWriteBack c done status detail).dmaCount q c.acked) :=
  (State.stallKept_kept k (Kept.dmaWriteBack (.refl _ s) (Foot.le_refl _) c done status detail) rfl rfl).trans (State.stallKept_dmaCount k _ q _)

theorem State.stallKept_sptDrop (k : Nat) (s : State) (q : Nat) : s.stallKept k (s.sptDrop q) := ⟨rfl, rfl, rfl⟩

theorem State.dmaState_sptDrop (s : State) (k : Nat) : (s.sptDrop k).dmaState k = s.dmaState k := rfl

theorem State.dmaCur_sptDrop (s : State) (k : Nat) : (s.sptDrop k).dmaCur k = s.dmaCur k := rfl

/-- The record of an end and its check unit's result leave every stall. -/
theorem State.stallKept_after (k : Nat) (s : State) (q : Nat) (c : DmaCur) (detail : Nat) :
    s.stallKept k (if c.chkEn && (s.fltInfo 0x18 q 0x12 dmaLocation detail).appFlag (CHK_CFG.EN c.chku)
        && (s.fltInfo 0x18 q 0x12 dmaLocation detail).app (CHK_CFG.STALL c.chku) == q
      then (s.fltInfo 0x18 q 0x12 dmaLocation detail).chkPublish c.chku false else s.fltInfo 0x18 q 0x12 dmaLocation detail) :=
  have h := State.stallKept_kept k (Kept.fltInfo (.refl _ s) (Foot.le_refl _) 0x18 q 0x12 dmaLocation detail) rfl rfl
  .ite _ (h.trans (State.stallKept_chkPublish k _ _ _)) h

/-- An end of one stall leaves every other, before those that wait end. -/
theorem State.stallKept_dmaFailed {q k : Nat} (hq : q < 32) (hk : k < 32) (h : q ≠ k) (s : State) (c : DmaCur) (status detail : Nat) (stop : Bool) :
    s.stallKept k (s.dmaFailed q c status detail stop) := by
  obtain ⟨hstat, hdone⟩ := DMA_S.apart hq hk h
  obtain ⟨hsd, -, ⟨hh, hhd⟩, -⟩ := DMA_S.beside q k
  have h1 := (State.stallKept_before k s q c false status detail).trans (State.stallKept_setCur hq hk h _ none)
  have h2 := h1.trans (State.stallKept_put k _ (f := DMA_S_STAT.STATE q) (if stop then dSTOPPED else dHALTED) hstat hsd)
  have h3 := h2.trans (State.stallKept_sptDrop k _ q)
  have h4 := (h3.trans (State.stallKept_put k _ (f := DMA_S_HEAD.HEAD q) (c.addr / 64) hh hhd)).trans
    (State.stallKept_put k _ (f := DMA_S_STAT.LAST_STATUS q) status hstat hsd)
  have h5 := (h4.trans (State.stallKept_put k _ (f := DMA_S_STAT.DETAIL q) detail hstat hsd)).trans
    (State.stallKept_riseIrq k _ (f := DMA_S_STAT.ERR q) (32 + q) hstat hsd)
  exact h5.trans (State.stallKept_after k _ q c _)

theorem State.get_riseIrq_stat (s : State) (k i : Nat) {lo n lo' : Nat} (h : lo + 1 ≤ 32) (h' : lo + 1 ≤ lo' ∨ lo' + n ≤ lo) :
    (s.riseIrq ⟨DMA_S_STAT.addr k, lo, 1⟩ i).get ⟨DMA_S_STAT.addr k, lo', n⟩ = s.get ⟨DMA_S_STAT.addr k, lo', n⟩ := by
  unfold State.riseIrq
  split
  · rfl
  · exact ((Kept.raiseIrq (.refl _ _) (Foot.le_refl _) i).get_of (Foot.word_of_win (DMA_S_STAT.addr_win k) rfl)).trans
      (State.get_put_stat _ k 1 h h')

theorem State.dma_riseIrq (s : State) (f : Fld) (i : Nat) : (s.riseIrq f i).dma = s.dma := by
  unfold State.riseIrq
  split
  · rfl
  · exact ((Kept.raiseIrq (.refl _ _) (Foot.le_refl _) i).part_of .dma rfl).trans (State.put_dma _ _ _)

/-- The registers that an end shows. -/
theorem State.dmaShow_fields (s : State) (k head status detail : Nat) : (s.dmaShow k head status detail).dmaState k = s.dmaState k
    ∧ (s.dmaShow k head status detail).dmaCur k = s.dmaCur k ∧ (s.dmaShow k head status detail).get (DMA_S_STAT.LAST_STATUS k) = status % 16
    ∧ (s.dmaShow k head status detail).get (DMA_S_STAT.DETAIL k) = detail % 256 := by
  have hh : DMA_S_STAT.addr k ≠ DMA_S_HEAD.addr k := (DMA_S.beside k k).2.2.1.1.symm
  unfold State.dmaShow
  refine ⟨?_, State.dmaCur_of ?_ k, ?_, ?_⟩
  · exact (State.get_riseIrq_stat _ k _ (by decide) (by decide)).trans ((State.get_put_stat _ k _ (by decide) (by decide)).trans
      ((State.get_put_stat _ k _ (by decide) (by decide)).trans (State.get_put_reg _ _ _ _ hh)))
  · rw [State.dma_riseIrq, State.put_dma, State.put_dma, State.put_dma]
  · exact (State.get_riseIrq_stat _ k _ (by decide) (by decide)).trans ((State.get_put_stat _ k _ (by decide) (by decide)).trans
      (State.get_put_same _ _ _ (by show 4 + 4 ≤ 32; decide)))
  · exact (State.get_riseIrq_stat _ k _ (by decide) (by decide)).trans (State.get_put_same _ _ _ (by show 16 + 8 ≤ 32; decide))

/-- The state, the descriptor and the status that an end leaves. -/
theorem State.stallEnded_dmaFailed (s : State) (k : Nat) (c : DmaCur) (status detail : Nat) (stop : Bool) :
    (s.dmaFailed k c status detail stop).stallEnded k (if stop then dSTOPPED else dHALTED) status detail := by
  have hset (x : State) (b : Bool) : (x.setDma k (if b then dSTOPPED else dHALTED)).dmaState k = if b then dSTOPPED else dHALTED := by
    unfold State.setDma State.dmaState
    rw [State.get_put_same _ _ _ (by show 0 + 3 ≤ 32; decide)]
    cases b <;> rfl
  have hcur (x : State) (v : Nat) : ((x.setCur k none).setDma k v).dmaCur k = none :=
    (State.dmaCur_of (by rw [State.setDma, State.put_dma]) k).trans (x.dmaCur_setCur k none)
  have hshow (x : State) (b : Bool) : (((x.setCur k none).setDma k (if b then dSTOPPED else dHALTED)).sptDrop k).dmaShow k (c.addr / 64) status detail
      |>.stallEnded k (if b then dSTOPPED else dHALTED) status detail := by
    obtain ⟨h1, h2, h3, h4⟩ := (((x.setCur k none).setDma k (if b then dSTOPPED else dHALTED)).sptDrop k).dmaShow_fields k (c.addr / 64) status detail
    exact ⟨h1.trans ((State.dmaState_sptDrop _ k).trans (hset _ b)), h2.trans ((State.dmaCur_sptDrop _ k).trans (hcur _ _)), h3, h4⟩
  exact (hshow _ stop).kept (State.stallKept_after k _ k c _)

/-! ### Ends in turn (R390) -/

/-- Steps over the stalls that each leave a stall which waits on no barrier leave it together. -/
theorem State.stallKept_foldl {k : Nat} {step : State → Nat → State}
    (hstep : ∀ (x : State) (q : Nat), q < 32 → x.dmaState k ≠ dWAITBAR → x.stallKept k (step x q)) (s : State) (hw : s.dmaState k ≠ dWAITBAR) :
    s.stallKept k ((List.range 32).foldl step s) := by
  have hall : ∀ q ∈ List.range 32, q < 32 := fun q hq => List.mem_range.mp hq
  revert hall
  generalize List.range 32 = l
  intro hall
  induction l generalizing s with
  | nil => exact .refl k s
  | cons q l hl =>
    have h := hstep s q (hall q List.mem_cons_self) hw
    exact h.trans (hl _ (by rw [h.state]; exact hw) (fun x hx => hall x (List.mem_cons_of_mem q hx)))

/-- The ends of the stalls that wait on a barrier leave a stall that waits on none. -/
theorem State.stallKept_waiting {k fuel : Nat} (ih : ∀ {q : Nat}, q < 32 → q ≠ k → ∀ (s : State) (c : DmaCur) (status detail : Nat)
    (stop : Bool), s.dmaState k ≠ dWAITBAR → s.stallKept k (s.dmaFail q c status detail stop fuel)) (s : State) (b : Nat)
    (hw : s.dmaState k ≠ dWAITBAR) : s.stallKept k (s.dmaFailWaiting b fuel) := by
  refine State.stallKept_foldl (fun x q hq hx => ?_) s hw
  split
  next d _ =>
    split
    next hwait =>
      have hqw : x.dmaState q = dWAITBAR := beq_iff_eq.mp (Bool.and_eq_true_iff.mp hwait).1
      exact ih hq (fun e => hx (e ▸ hqw)) x d 5 0 false hx
    next => exact .refl k x
  next => exact .refl k x

/-- An end of one stall, with those of the stalls that wait on its barrier, leaves a stall that waits on none. -/
theorem State.stallKept_dmaFail {k : Nat} (hk : k < 32) (fuel : Nat) : ∀ {q : Nat}, q < 32 → q ≠ k → ∀ (s : State) (c : DmaCur) (status detail : Nat)
    (stop : Bool), s.dmaState k ≠ dWAITBAR → s.stallKept k (s.dmaFail q c status detail stop fuel) := by
  induction fuel with
  | zero => exact fun _ _ s _ _ _ _ _ => .refl k s
  | succ fuel ih =>
    intro q hq h s c status detail stop hw
    have h1 := State.stallKept_dmaFailed hq hk h s c status detail stop
    have h2 := h1.trans (State.stallKept_put k _ (f := DMA_BAR_STAT.ERR c.bar) 1 (DMA_S.beside c.bar k).2.2.2.1 (DMA_S.beside c.bar k).2.2.2.2)
    rw [State.dmaFail_succ]
    exact .ite _ (h2.trans (State.stallKept_waiting ih _ c.bar (by rw [h2.state]; exact hw))) h1

end Sys2Proof.Machine
end

section
/-! PROOFS. The commands of the stalls, of the barriers and of the check units (R379, R388, R390, R394). -/

namespace Sys2Proof.Machine

/-- A descriptor's end, with the ends that follow from it, leaves its stall as R387 and R388 say. -/
theorem State.stallEnded_dmaEnd {s : State} {k : Nat} {c : DmaCur} (hk : k < 32) (h : s.dmaCur k = some c) (status detail : Nat) (stop : Bool) :
    (s.dmaEnd k status detail stop).stallEnded k (if stop then dSTOPPED else dHALTED) status detail := by
  have hend := s.stallEnded_dmaFailed k c status detail stop
  have hput := hend.kept (State.stallKept_put k _ (f := DMA_BAR_STAT.ERR c.bar) 1 (DMA_S.beside c.bar k).2.2.2.1 (DMA_S.beside c.bar k).2.2.2.2)
  rw [State.dmaEnd, h]
  dsimp only
  rw [State.dmaFail_succ]
  by_cases ha : c.arrive = true
  · rw [if_pos ha]
    refine hput.kept (State.stallKept_waiting (State.stallKept_dmaFail hk 32) _ c.bar ?_)
    rw [hput.state]
    cases stop <;> decide
  · rw [if_neg ha]
    exact hend

/-! ### DMA_S_CMD (R379, R388) -/

/-- The command register of a stall. -/
theorem DMA_S_CMD.normal_addr : ∀ k : Fin 32, normalAddr (DMA_S_CMD.addr k) = DMA_S_CMD.addr k ∧ viewOf (DMA_S_CMD.addr k) = .normal
    ∧ stallOf (DMA_S_CMD.addr k) = k ∧ DMA_S_CMD.addr k < 0x120800 := by decide +kernel

theorem dmaRules_act_cmd (k : Fin 32) (src : Source) (w : Word) (s : State) : dmaRules.act src (DMA_S_CMD.addr k) w s = s.dmaCmd k w := by
  obtain ⟨-, -, hk, hlt⟩ := DMA_S_CMD.normal_addr k
  simp only [dmaRules, hk, hlt, if_true, beq_self_eq_true]

/-- A landed command leaves its stall. -/
theorem State.stallKept_landed (s : State) (k : Nat) {a : Nat} (w : Word) (h : a ≠ DMA_S_STAT.addr k) (hd : a ≠ DMA_S_DONE.addr k) :
    s.stallKept k (s.landed a w) :=
  ⟨State.word_setWord_ne s _ h.symm, State.word_setWord_ne s _ hd.symm, State.dmaCur_of (by rw [State.landed, State.setWord_dma]) k⟩

theorem DMA_S_CMD.beside (q k : Nat) : DMA_S_CMD.addr q ≠ DMA_S_STAT.addr k ∧ DMA_S_CMD.addr q ≠ DMA_S_DONE.addr k := by
  unfold DMA_S_CMD.addr DMA_S_STAT.addr DMA_S_DONE.addr; omega

/-- A command of a stall that is admitted completes with the action of the command on the landed state. -/
theorem Completes.of_dmaCmd {c : Instr} {s y t : State} {k : Fin 32} {src : Source} {w : Word} {P : State → Prop}
    (he : exec c s = .next (y.writeReg dmaRules src (DMA_S_CMD.addr k) w)) (h : y.admits dmaRules src (DMA_S_CMD.addr k) w)
    (ht : (y.landed (DMA_S_CMD.addr k) w).dmaCmd k w = .ok t) (hp : P (t.answer 0 0)) : Completes c s P := by
  obtain ⟨hn, hv, -⟩ := DMA_S_CMD.normal_addr k
  exact ⟨_, he, by rw [State.writeReg_admitted h hn hv ((dmaRules_act_cmd k src w _).trans ht)]; exact hp⟩

section
variable {s : State} {k : Nat} {w : Word}

/-- START makes a stall fetch afresh. -/
theorem State.dmaCmd_start (h0 : w.toNat.testBit 0 = true) (h1 : w.toNat.testBit 1 = false) (h2 : w.toNat.testBit 2 = false)
    (h3 : w.toNat.testBit 3 = false) (hoff : s.dmaState k ≠ dOFF) : s.dmaCmd k w = .ok ((s.setCur k none).setDma k dRUNNING) := by
  simp only [State.dmaCmd, h0, h1, h2, h3, b2n, beq_eq_false_iff_ne.mpr hoff]
  rfl

/-- STOP or ABORT of a stall that waits. -/
theorem State.dmaCmd_waiting (h0 : w.toNat.testBit 0 = false) (h12 : w.toNat.testBit 1 = ! w.toNat.testBit 2) (h3 : w.toNat.testBit 3 = false)
    (h : s.dmaState k = dWAITDESC ∨ s.dmaState k = dWAITBAR) : s.dmaCmd k w = .ok ((s.setCur k none).setDma k dSTOPPED) := by
  cases h2 : w.toNat.testBit 2 <;> rw [h2] at h12 <;> rcases h with h | h <;> simp only [State.dmaCmd, h0, h12, h2, h3, b2n, h] <;> rfl

/-- STOP of a stall that runs. -/
theorem State.dmaCmd_stop (h0 : w.toNat.testBit 0 = false) (h1 : w.toNat.testBit 1 = true) (h2 : w.toNat.testBit 2 = false)
    (h3 : w.toNat.testBit 3 = false) (h : s.dmaState k = dRUNNING) :
    s.dmaCmd k w = .ok (if (s.dmaCur k).isSome then s.setDma k dSTOPPING else s.setDma k dSTOPPED) := by
  simp only [State.dmaCmd, h0, h1, h2, h3, b2n, h]
  rfl

/-- ABORT of a stall with a descriptor in work. -/
theorem State.dmaCmd_abort (h0 : w.toNat.testBit 0 = false) (h1 : w.toNat.testBit 1 = false) (h2 : w.toNat.testBit 2 = true)
    (h3 : w.toNat.testBit 3 = false) (h : s.dmaState k = dRUNNING ∨ s.dmaState k = dSTOPPING) (hc : (s.dmaCur k).isSome = true) :
    s.dmaCmd k w = .ok (s.dmaEnd k 6 0 true) := by
  rcases h with h | h <;> simp only [State.dmaCmd, h0, h1, h2, h3, b2n, h, Bool.false_eq_true, if_false, hc] <;> rfl

/-- KICK of a stall that waits for a descriptor. -/
theorem State.dmaCmd_kick_waiting (h0 : w.toNat.testBit 0 = false) (h1 : w.toNat.testBit 1 = false) (h2 : w.toNat.testBit 2 = false)
    (h3 : w.toNat.testBit 3 = true) (h : s.dmaState k = dWAITDESC) : s.dmaCmd k w = .ok (s.setDma k dRUNNING) := by
  simp only [State.dmaCmd, h0, h1, h2, h3, b2n, h]
  rfl

/-- KICK of a stall that does not wait for a descriptor. -/
theorem State.dmaCmd_kick (h0 : w.toNat.testBit 0 = false) (h1 : w.toNat.testBit 1 = false) (h2 : w.toNat.testBit 2 = false)
    (h3 : w.toNat.testBit 3 = true) (h : s.dmaState k = dRUNNING ∨ s.dmaState k = dWAITBAR ∨ s.dmaState k = dSTOPPING) :
    s.dmaCmd k w = .ok (s.put (DMA_S_STAT.KICK_PEND k) 1) := by
  rcases h with h | h | h <;> simp only [State.dmaCmd, h0, h1, h2, h3, b2n, h] <;> rfl

end

theorem State.dmaState_setDma (s : State) (k : Nat) {v : Nat} (h : v < 8) : (s.setDma k v).dmaState k = v :=
  (State.get_put_same s _ v (by show 0 + 3 ≤ 32; decide)).trans (Nat.mod_eq_of_lt h)

theorem State.dmaCur_setDma (s : State) (k v : Nat) : (s.setDma k v).dmaCur k = s.dmaCur k :=
  State.dmaCur_of (by rw [State.setDma, State.put_dma]) k

theorem State.dmaCur_answer (s : State) (k : Nat) : (s.answer 0 0).dmaCur k = s.dmaCur k := rfl

/-- A stall set afresh. -/
theorem State.setCur_setDma_fields (s : State) (k : Nat) {v : Nat} (h : v < 8) :
    (((s.setCur k none).setDma k v).answer 0 0).okAnswer ∧ (((s.setCur k none).setDma k v).answer 0 0).dmaState k = v
      ∧ (((s.setCur k none).setDma k v).answer 0 0).dmaCur k = none :=
  ⟨State.answer_ok _, (State.answer_get _ _ _ _).trans (State.dmaState_setDma _ k h), (State.dmaCur_setDma _ k v).trans (State.dmaCur_setCur s k none)⟩

/-- The state of a stall on which a command lands. -/
theorem State.landed_cmd (s : State) (k : Nat) (w : Word) : s.stallKept k (s.landed (DMA_S_CMD.addr k) w) :=
  s.stallKept_landed k w (DMA_S_CMD.beside k k).1 (DMA_S_CMD.beside k k).2

theorem dma_start (s : State) (k : Fin 32) (src : Source) (v : Word) (ha : s.admits dmaRules src (DMA_S_CMD.addr k) (v ||| 1))
    (h1 : (v ||| 1).toNat.testBit 1 = false) (h2 : (v ||| 1).toNat.testBit 2 = false) (h3 : (v ||| 1).toNat.testBit 3 = false)
    (hoff : s.dmaState k ≠ dOFF) :
    Completes (.dmaStart k src v) s (fun t => t.okAnswer ∧ t.dmaState k = dRUNNING ∧ t.dmaCur k = none ∧ t.sram = s.sram) := by
  obtain ⟨hans, hst, hcur⟩ := (s.landed (DMA_S_CMD.addr k) (v ||| 1)).setCur_setDma_fields k (v := dRUNNING) (by decide)
  refine .of_dmaCmd rfl ha (State.dmaCmd_start (testBit_or_right v 1 (by decide)) h1 h2 h3 (by rw [(s.landed_cmd k _).state]; exact hoff))
    ⟨hans, hst, hcur, ?_⟩
  rw [State.answer_sram, State.setDma, State.put_sram]
  rfl

theorem dma_stop (s : State) (k : Fin 32) (src : Source) (v : Word) (ha : s.admits dmaRules src (DMA_S_CMD.addr k) (v ||| 2))
    (h0 : (v ||| 2).toNat.testBit 0 = false) (h2 : (v ||| 2).toNat.testBit 2 = false) (h3 : (v ||| 2).toNat.testBit 3 = false) :
    (s.dmaState k = dWAITDESC ∨ s.dmaState k = dWAITBAR → Completes (.dmaStop k src v) s (fun t => t.okAnswer ∧ t.dmaState k = dSTOPPED ∧ t.dmaCur k = none))
    ∧ (s.dmaState k = dRUNNING → Completes (.dmaStop k src v) s (fun t => t.okAnswer ∧ t.dmaCur k = s.dmaCur k
      ∧ t.dmaState k = (if (s.dmaCur k).isSome = true then dSTOPPING else dSTOPPED))) := by
  have hk := s.landed_cmd k (v ||| 2)
  have h1 : (v ||| 2).toNat.testBit 1 = true := testBit_or_right v 2 (by decide)
  constructor
  · intro h
    refine .of_dmaCmd rfl ha (State.dmaCmd_waiting h0 (by rw [h1, h2]; rfl) h3 (by rw [hk.state]; exact h)) ?_
    exact (s.landed (DMA_S_CMD.addr k) (v ||| 2)).setCur_setDma_fields k (by decide)
  · intro h
    refine .of_dmaCmd rfl ha (State.dmaCmd_stop h0 h1 h2 h3 (by rw [hk.state]; exact h)) ?_
    rw [← hk.cur]
    have hif (x : State) (b : Bool) : ((if b then x.setDma k dSTOPPING else x.setDma k dSTOPPED).answer 0 0).dmaCur k = x.dmaCur k
        ∧ ((if b then x.setDma k dSTOPPING else x.setDma k dSTOPPED).answer 0 0).dmaState k = if b then dSTOPPING else dSTOPPED := by
      cases b
      · exact ⟨(State.dmaCur_answer _ k).trans (x.dmaCur_setDma k _), (State.answer_get _ _ _ _).trans (x.dmaState_setDma k (by decide))⟩
      · exact ⟨(State.dmaCur_answer _ k).trans (x.dmaCur_setDma k _), (State.answer_get _ _ _ _).trans (x.dmaState_setDma k (by decide))⟩
    exact ⟨State.answer_ok _, (hif _ _).1, (hif _ _).2⟩

/-- ABORT, on the state y that the beats before it have left. -/
theorem dma_abort {c : Instr} {s y : State} (k : Fin 32) {src : Source} {v : Word} (he : exec c s = .next (y.writeReg dmaRules src (DMA_S_CMD.addr k) (v ||| 4)))
    (ha : y.admits dmaRules src (DMA_S_CMD.addr k) (v ||| 4))
    (h0 : (v ||| 4).toNat.testBit 0 = false) (h1 : (v ||| 4).toNat.testBit 1 = false) (h3 : (v ||| 4).toNat.testBit 3 = false) :
    (y.dmaState k = dWAITDESC ∨ y.dmaState k = dWAITBAR → Completes c s (fun t => t.okAnswer ∧ t.dmaState k = dSTOPPED ∧ t.dmaCur k = none))
    ∧ (y.dmaState k = dRUNNING ∨ y.dmaState k = dSTOPPING → (y.dmaCur k).isSome = true → Completes c s (fun t =>
      t.okAnswer ∧ t.dmaState k = dSTOPPED ∧ t.dmaCur k = none ∧ t.get (DMA_S_STAT.LAST_STATUS k) = 6)) := by
  have hk := y.landed_cmd k (v ||| 4)
  have h2 : (v ||| 4).toNat.testBit 2 = true := testBit_or_right v 4 (by decide)
  constructor
  · intro h
    exact .of_dmaCmd he ha (State.dmaCmd_waiting h0 (by rw [h1, h2]; rfl) h3 (by rw [hk.state]; exact h))
      ((y.landed (DMA_S_CMD.addr k) (v ||| 4)).setCur_setDma_fields k (by decide))
  · intro h hc
    obtain ⟨d, hd⟩ := Option.isSome_iff_exists.mp hc
    have hd' := hk.cur.trans hd
    have hend := State.stallEnded_dmaEnd k.isLt hd' 6 0 true
    exact .of_dmaCmd he ha (State.dmaCmd_abort h0 h1 h2 h3 (by rw [hk.state]; exact h) (by rw [hk.cur]; exact hc))
      ⟨State.answer_ok _, (State.answer_get _ _ _ _).trans hend.state, hend.cur, (State.answer_get _ _ _ _).trans hend.status⟩

theorem dma_kick (s : State) (k : Fin 32) (src : Source) (v : Word) (ha : s.admits dmaRules src (DMA_S_CMD.addr k) (v ||| 8))
    (h0 : (v ||| 8).toNat.testBit 0 = false) (h1 : (v ||| 8).toNat.testBit 1 = false) (h2 : (v ||| 8).toNat.testBit 2 = false) :
    (s.dmaState k = dWAITDESC → Completes (.kick k src v) s (fun t => t.okAnswer ∧ t.dmaState k = dRUNNING))
    ∧ (s.dmaState k = dRUNNING ∨ s.dmaState k = dWAITBAR ∨ s.dmaState k = dSTOPPING → Completes (.kick k src v) s (fun t =>
      t.okAnswer ∧ t.dmaState k = s.dmaState k ∧ t.flag (DMA_S_STAT.KICK_PEND k) = true)) := by
  have hk := s.landed_cmd k (v ||| 8)
  have h3 : (v ||| 8).toNat.testBit 3 = true := testBit_or_right v 8 (by decide)
  constructor
  · intro h
    exact .of_dmaCmd rfl ha (State.dmaCmd_kick_waiting h0 h1 h2 h3 (hk.state.trans h))
      ⟨State.answer_ok _, (State.answer_get _ _ _ _).trans (State.dmaState_setDma _ k (by decide))⟩
  · intro h
    exact .of_dmaCmd rfl ha (State.dmaCmd_kick h0 h1 h2 h3 (by rw [hk.state]; exact h))
      ⟨State.answer_ok _, (State.answer_get _ _ _ _).trans ((State.get_put_stat _ k _ (by decide) (by decide)).trans hk.state),
        (State.answer_flag _ _ _ _).trans (State.flag_put_one _ _ (by show 8 + 1 ≤ 32; decide) rfl)⟩

/-! ### DMA_S_HEAD (R380, R388) -/

theorem DMA_S_HEAD.normal_addr : ∀ k : Fin 32, normalAddr (DMA_S_HEAD.addr k) = DMA_S_HEAD.addr k ∧ viewOf (DMA_S_HEAD.addr k) = .normal
    ∧ stallOf (DMA_S_HEAD.addr k) = k ∧ DMA_S_HEAD.addr k < 0x120800 ∧ (DMA_S_HEAD.addr k == DMA_S_CMD.addr k) = false
    ∧ fieldsAt (DMA_S_HEAD.addr k) = [⟨6, 21, .rwHw, 1818624, .any⟩] := by decide +kernel

theorem dma_head (s : State) (k : Fin 32) (src : Source) (v : Word) (ha : s.admits dmaRules src (DMA_S_HEAD.addr k) v)
    (hc : s.inChain k (bitsOf v (DMA_S_HEAD.HEAD k).lo (DMA_S_HEAD.HEAD k).n * 64) = true) :
    Completes (.dmaHeadWrite k src v) s (fun t => t.okAnswer ∧ t.get (DMA_S_HEAD.HEAD k) = bitsOf v (DMA_S_HEAD.HEAD k).lo (DMA_S_HEAD.HEAD k).n) := by
  obtain ⟨hn, hv, hk, hlt, hne, hrow⟩ := DMA_S_HEAD.normal_addr k
  have hhead : (s.landed (DMA_S_HEAD.addr k) v).get (DMA_S_HEAD.HEAD k) = bitsOf v (DMA_S_HEAD.HEAD k).lo (DMA_S_HEAD.HEAD k).n :=
    State.get_landed_rw s _ v (f := ⟨6, 21, .rwHw, 1818624, .any⟩) (by rw [hrow]; exact List.mem_cons_self) rfl (.inr (by decide))
  have hin : (s.landed (DMA_S_HEAD.addr k) v).inChain k ((s.landed (DMA_S_HEAD.addr k) v).get (DMA_S_HEAD.HEAD k) * 64) = true := by
    rw [hhead, State.inChain, State.app_landed, State.app_landed]
    exact hc
  refine .of_write rfl ha hn hv (t := s.landed (DMA_S_HEAD.addr k) v) ?_ ⟨State.answer_ok _, (State.answer_get _ _ _ _).trans hhead⟩
  simp only [dmaRules, hk, hlt, hne, if_true, beq_self_eq_true, hin, Bool.false_eq_true, if_false]

/-! ### DMA_BAR_CTRL (R390) -/

theorem DMA_BAR_CTRL.normal_addr : ∀ b : Fin 16, normalAddr (DMA_BAR_CTRL.addr b) = DMA_BAR_CTRL.addr b ∧ viewOf (DMA_BAR_CTRL.addr b) = .normal
    ∧ ¬ DMA_BAR_CTRL.addr b < 0x120800 ∧ (List.range 16).find? (fun c => DMA_BAR_CTRL.addr c == DMA_BAR_CTRL.addr b) = some b.val := by
  decide +kernel

/-- Where a barrier has no error, its release starts stalls alone. -/
theorem State.barRelease_fields (s : State) (b : Nat) (herr : s.flag (DMA_BAR_STAT.ERR b) = false) :
    (s.barRelease b).get (DMA_BAR_STAT.COUNT b) = s.get (DMA_BAR_STAT.COUNT b) ∧ (s.barRelease b).flag (DMA_BAR_STAT.ERR b) = false
    ∧ (s.barRelease b).flag (DMA_BAR_STAT.DONE b) = decide (s.get (DMA_BAR_CTRL.TARGET b) ≤ s.get (DMA_BAR_STAT.COUNT b))
    ∧ (s.barRelease b).get (DMA_BAR_CTRL.TARGET b) = s.get (DMA_BAR_CTRL.TARGET b) := by
  let y := s.putB (DMA_BAR_STAT.DONE b) (decide (s.get (DMA_BAR_CTRL.TARGET b) ≤ s.get (DMA_BAR_STAT.COUNT b)))
  have hbar (q : Nat) : DMA_BAR_STAT.addr b ≠ DMA_S_STAT.addr q ∧ DMA_BAR_CTRL.addr b ≠ DMA_S_STAT.addr q := by
    unfold DMA_BAR_STAT.addr DMA_BAR_CTRL.addr DMA_S_STAT.addr; omega
  have hyerr : y.flag (DMA_BAR_STAT.ERR b) = false :=
    (State.flag_eq_get (State.get_put_apart s _ _ _ (by show 16 + 1 ≤ 32; decide) (.inr (.inl (by show 16 + 1 ≤ 17; decide))))).trans herr
  have hinv : (s.barRelease b).word (DMA_BAR_STAT.addr b) = y.word (DMA_BAR_STAT.addr b)
      ∧ (s.barRelease b).word (DMA_BAR_CTRL.addr b) = y.word (DMA_BAR_CTRL.addr b) := by
    refine List.foldl_inv (P := fun t : State => t.word (DMA_BAR_STAT.addr b) = y.word (DMA_BAR_STAT.addr b)
      ∧ t.word (DMA_BAR_CTRL.addr b) = y.word (DMA_BAR_CTRL.addr b)) (fun t q ht => ?_) _ ⟨rfl, rfl⟩
    have hterr : t.flag (DMA_BAR_STAT.ERR b) = false := (State.flag_eq_get (congrArg (bitsOf · _ _) ht.1)).trans hyerr
    rw [hterr]
    split
    · split
      · rw [if_neg Bool.false_ne_true]
        split
        · exact ⟨(State.word_put_ne t _ _ (hbar q).1).trans ht.1, (State.word_put_ne t _ _ (hbar q).2).trans ht.2⟩
        · exact ht
      · exact ht
    · exact ht
  obtain ⟨hst, hct⟩ := hinv
  have hdone : y.flag (DMA_BAR_STAT.DONE b) = decide (s.get (DMA_BAR_CTRL.TARGET b) ≤ s.get (DMA_BAR_STAT.COUNT b)) :=
    State.flag_putB s (decide (s.get (DMA_BAR_CTRL.TARGET b) ≤ s.get (DMA_BAR_STAT.COUNT b))) (by show 16 + 1 ≤ 32; decide) rfl
  have hstat (lo n : Nat) : (s.barRelease b).get ⟨DMA_BAR_STAT.addr b, lo, n⟩ = y.get ⟨DMA_BAR_STAT.addr b, lo, n⟩ := congrArg (bitsOf · lo n) hst
  have htarget : (s.barRelease b).get (DMA_BAR_CTRL.TARGET b) = y.get (DMA_BAR_CTRL.TARGET b) := congrArg (bitsOf · 0 16) hct
  have hcount : y.get (DMA_BAR_STAT.COUNT b) = s.get (DMA_BAR_STAT.COUNT b) :=
    State.get_put_apart s _ _ _ (by show 16 + 1 ≤ 32; decide) (.inr (.inr (by show 0 + 16 ≤ 16; decide)))
  have hctrl : DMA_BAR_CTRL.addr b ≠ DMA_BAR_STAT.addr b := by unfold DMA_BAR_STAT.addr DMA_BAR_CTRL.addr; omega
  exact ⟨(hstat 0 16).trans hcount, (State.flag_eq_get (hstat 17 1)).trans hyerr, (State.flag_eq_get (hstat 16 1)).trans hdone,
    htarget.trans (State.get_put_reg s _ _ _ hctrl)⟩

theorem barrier_arm (s : State) (b : Fin 16) (src : Source) (v : Word)
    (ha : s.admits dmaRules src (DMA_BAR_CTRL.addr b) (v ||| BitVec.ofNat 32 (2 ^ 31))) :
    Completes (.barrierArm b src v) s (fun t => t.okAnswer ∧ t.get (DMA_BAR_STAT.COUNT b) = 0 ∧ t.flag (DMA_BAR_STAT.ERR b) = false
      ∧ t.flag (DMA_BAR_STAT.DONE b) = (t.get (DMA_BAR_CTRL.TARGET b) == 0)) := by
  obtain ⟨hn, hv, hlt, hfind⟩ := DMA_BAR_CTRL.normal_addr b
  have hbit : (v ||| BitVec.ofNat 32 (2 ^ 31)).toNat.testBit 31 = true := testBit_or_right v _ (by decide)
  let y := ((s.landed (DMA_BAR_CTRL.addr b) (v ||| BitVec.ofNat 32 (2 ^ 31))).put (DMA_BAR_STAT.COUNT b) 0).put (DMA_BAR_STAT.ERR b) 0
  have hcount : y.get (DMA_BAR_STAT.COUNT b) = 0 :=
    (State.get_put_apart _ _ _ _ (by show 17 + 1 ≤ 32; decide) (.inr (.inr (by show 16 ≤ 17; decide)))).trans
      (State.get_put_same _ _ _ (by show 0 + 16 ≤ 32; decide))
  obtain ⟨h1, h2, h3, h4⟩ := y.barRelease_fields b (State.flag_put_zero _ _ (by show 17 + 1 ≤ 32; decide))
  refine .of_write rfl ha hn hv (t := y.barRelease b) ?_ ⟨State.answer_ok _, (State.answer_get _ _ _ _).trans (h1.trans hcount),
    (State.answer_flag _ _ _ _).trans h2, (State.answer_flag _ _ _ _).trans (h3.trans ?_)⟩
  · simp only [dmaRules, hlt, if_false, hfind, hbit, if_true]
    rfl
  · rw [State.answer_get, h4, hcount, Bool.eq_iff_iff, decide_eq_true_iff, beq_iff_eq]
    exact Nat.le_zero

/-! ### CHK_CMD (R394) -/

theorem CHK_CMD.normal_addr : ∀ u : Fin 16, normalAddr (CHK_CMD.addr u) = CHK_CMD.addr u ∧ viewOf (CHK_CMD.addr u) = .normal
    ∧ (List.range 16).find? (fun c => CHK_CMD.addr c == CHK_CMD.addr u) = some u.val := by decide +kernel

theorem chk_reset (s : State) (u : Fin 16) (src : Source) (v : Word) (ha : s.admits chkRules src (CHK_CMD.addr u) (v ||| 1)) :
    Completes (.chkReset u src v) s (fun t => t.okAnswer ∧ t.flag (CHK_STAT.OPEN u) = false
      ∧ t.chk u = { crc := crcInit (s.app (CHK_CFG.ALG u)), bytes := 0, seq := BitVec.ofNat 32 (s.app (CHK_SEQ_INIT.SEQ_INIT u)), alive := 0 }) := by
  obtain ⟨hn, hv, hfind⟩ := CHK_CMD.normal_addr u
  refine .of_write rfl ha hn hv (t := (s.landed (CHK_CMD.addr u) (v ||| 1)).chkReset u) ?_ ⟨State.answer_ok _,
    (State.answer_flag _ _ _ _).trans (State.flag_put_zero _ _ (by show 1 + 1 ≤ 32; decide)), ?_⟩
  · have hbit : (v ||| 1).toNat.testBit 0 = true := testBit_or_right v 1 (by decide)
    simp only [chkRules, hfind, hbit, if_true]
  · rw [State.chk, State.answer_dma, State.chkReset, State.app_landed, State.chkOpen, State.put_dma, State.app_landed]
    exact vget_vset_same _ _ _

/-- Settles O36: an account of each command. -/
theorem stallCommandsComplete : Obligations.StallCommandsComplete :=
  ⟨dma_start, dma_stop, fun _ k _ _ _ _ => dma_abort k rfl, dma_kick, dma_head, barrier_arm, chk_reset⟩

end Sys2Proof.Machine
end

section
/-! PROOFS. The descriptors of the stalls and the Auctioneer's promotion (R378 to R380, R385 to R387, R390, R398, R439). -/

namespace Sys2Proof.Machine

/-! ### Fetches (R378 to R380, R390) -/

section
variable {s : State} {k : Fin 32}

/-- A head outside the chain region halts the stall. -/
theorem fetch_outside (h : (s.live dACQ && s.dmaState k == dRUNNING && (s.dmaCur k).isNone) = true)
    (hin : s.inChain k (s.get (DMA_S_HEAD.HEAD k) * 64) = false) :
    Completes (.descriptorFetch k) s (fun t => t.dmaState k = dHALTED ∧ t.get (DMA_S_STAT.LAST_STATUS k) = 4) := by
  have he : exec (.descriptorFetch k) s = .next ((s.put (DMA_S_STAT.LAST_STATUS k) 4).setDma k dHALTED) := by
    simp only [exec, execDescriptorFetch, h, hin, Bool.not_true, Bool.not_false, Bool.false_eq_true, if_false, if_true]
  exact ⟨_, he, State.dmaState_setDma _ k (by decide), (State.get_put_stat _ k _ (by decide) (by decide)).trans
    (State.get_put_same s _ _ (by show 4 + 4 ≤ 32; decide))⟩

/-- The descriptor at address a, as a fetch takes it. -/
def State.fetched (s : State) (a : Nat) : DmaCur := { addr := a, w := s.dmaWords a, pos := 0, acked := 0, row := [], refused := none }

theorem poison_none {a : Nat} (h : ∀ i, i < 8 → s.poisoned (a + 8 * i) = false) : (List.range 8).any (fun i => s.poisoned (a + 8 * i)) = false :=
  List.any_eq_false.mpr fun i hi => by rw [h i (List.mem_range.mp hi)]; exact Bool.false_ne_true

section
variable (h : (s.live dACQ && s.dmaState k == dRUNNING && (s.dmaCur k).isNone) = true)
    (hin : s.inChain k (s.get (DMA_S_HEAD.HEAD k) * 64) = true) (hp : ∀ i, i < 8 → s.poisoned (s.get (DMA_S_HEAD.HEAD k) * 64 + 8 * i) = false)
include h hin hp

/-- A descriptor that is not yet valid. -/
theorem fetch_invalid (hv : (s.fetched (s.get (DMA_S_HEAD.HEAD k) * 64)).fld 0 0 1 = 0) : exec (.descriptorFetch k) s = .next
    (if s.flag (DMA_S_STAT.KICK_PEND k) then s.put (DMA_S_STAT.KICK_PEND k) 0 else s.setDma k dWAITDESC) := by
  unfold State.fetched at hv
  simp only [exec, execDescriptorFetch, h, hin, poison_none hp, hv, Bool.not_true, Bool.false_eq_true, if_false, beq_self_eq_true, if_true]

/-- A valid descriptor that keeps the rules, with no drain before it, is taken, and waits on its barrier where it names one. -/
theorem fetch_valid {c : DmaCur} (hc : s.fetched (s.get (DMA_S_HEAD.HEAD k) * 64) = c) (hv : c.fld 0 0 1 = 1)
    (hd : (s.setCur k (some c)).stallDrain k = none) (hb : (s.setCur k (some c)).dmaBad k c = false) : exec (.descriptorFetch k) s = .next
      (if c.fld 10 4 1 == 1 then
        if s.flag (DMA_BAR_STAT.ERR c.bar) then (s.setCur k (some c)).dmaEnd k 5 0 false
        else if s.flag (DMA_BAR_STAT.DONE c.bar) then s.setCur k (some c) else (s.setCur k (some c)).setDma k dWAITBAR
      else s.setCur k (some c)) := by
  have hflag (f : Fld) : (s.setCur k (some c)).flag f = s.flag f := rfl
  unfold State.fetched at hc
  simp only [exec, execDescriptorFetch, h, hin, poison_none hp, hc, hv, hd, hb, hflag, Bool.not_true, Bool.false_eq_true, if_false, Nat.reduceBEq]

end

end

theorem descriptor_fetch (s : State) (k : Fin 32) (hlive : s.live dACQ = true) (hst : s.dmaState k = dRUNNING) (hcur : s.dmaCur k = none) :
    let a := s.get (DMA_S_HEAD.HEAD k) * 64
    let c : DmaCur := { addr := a, w := s.dmaWords a, pos := 0, acked := 0, row := [], refused := none }
    (s.inChain k a = false → Completes (.descriptorFetch k) s (fun t => t.dmaState k = dHALTED ∧ t.get (DMA_S_STAT.LAST_STATUS k) = 4))
    ∧ (s.inChain k a = true → (∀ i, i < 8 → s.poisoned (a + 8 * i) = false) →
      (c.fld 0 0 1 = 0 → Completes (.descriptorFetch k) s (fun t =>
        t.dmaState k = (if s.flag (DMA_S_STAT.KICK_PEND k) = true then dRUNNING else dWAITDESC) ∧ t.flag (DMA_S_STAT.KICK_PEND k) = false))
      ∧ (c.fld 0 0 1 = 1 → (s.setCur k (some c)).stallDrain k = none → (s.setCur k (some c)).dmaBad k c = false →
        (c.fld 10 4 1 = 0 → Completes (.descriptorFetch k) s (fun t => t = s.setCur k (some c)))
        ∧ (c.fld 10 4 1 = 1 → s.flag (DMA_BAR_STAT.ERR c.bar) = false → Completes (.descriptorFetch k) s (fun t =>
          t.dmaCur k = some c ∧ t.dmaState k = (if s.flag (DMA_BAR_STAT.DONE c.bar) = true then dRUNNING else dWAITBAR))))) := by
  intro a c
  have h : (s.live dACQ && s.dmaState k == dRUNNING && (s.dmaCur k).isNone) = true := by rw [hlive, hst, hcur]; rfl
  refine ⟨fetch_outside h, fun hin hp => ⟨fun hv => ⟨_, fetch_invalid h hin hp hv, ?_⟩, fun hv hd hb => ⟨fun hbar => ?_, fun hbar herr => ?_⟩⟩⟩
  · split
    next => exact ⟨(State.get_put_stat s k _ (by decide) (by decide)).trans hst, State.flag_put_zero _ _ (by show 8 + 1 ≤ 32; decide)⟩
    next hkick => exact ⟨State.dmaState_setDma s k (by decide),
        (State.flag_eq_get (State.get_put_stat s k _ (by decide) (by decide))).trans (Bool.eq_false_of_not_eq_true hkick)⟩
  · have he := fetch_valid h hin hp rfl hv hd hb
    rw [show s.fetched (s.get (DMA_S_HEAD.HEAD k) * 64) = c from rfl, hbar] at he
    exact ⟨_, he, rfl⟩
  · have he := fetch_valid h hin hp rfl hv hd hb
    rw [show s.fetched (s.get (DMA_S_HEAD.HEAD k) * 64) = c from rfl, hbar, herr] at he
    refine ⟨_, he, ?_⟩
    have hset : (s.setCur k (some c)).dmaCur k = some c := s.dmaCur_setCur k (some c)
    have hif (x : State) (b : Bool) (hx : x.dmaState k = dRUNNING) : (if b then x else x.setDma k dWAITBAR).dmaCur k = x.dmaCur k
        ∧ (if b then x else x.setDma k dWAITBAR).dmaState k = if b then dRUNNING else dWAITBAR := by
      cases b
      · exact ⟨x.dmaCur_setDma k _, x.dmaState_setDma k (by decide)⟩
      · exact ⟨rfl, hx⟩
    have hx := hif (s.setCur k (some c)) (s.flag (DMA_BAR_STAT.DONE c.bar)) hst
    exact ⟨hx.1.trans hset, hx.2⟩

/-! ### Ends (R386, R387) -/

/-- A stall that waits on barrier b starts, or ends with ERR_BAR. -/
def State.barStep (b : Nat) (s : State) (k : Nat) : State :=
  match s.dmaCur k with
  | some c =>
    if s.dmaState k == dWAITBAR && c.bar == b then
      if s.flag (DMA_BAR_STAT.ERR b) then s.dmaEnd k 5 0 false
      else if s.flag (DMA_BAR_STAT.DONE b) then s.setDma k dRUNNING
      else s
    else s
  | none => s

theorem State.barRelease_eq (s : State) (b : Nat) : s.barRelease b = (List.range 32).foldl (State.barStep b)
    (s.put (DMA_BAR_STAT.DONE b) (b2n (decide (s.get (DMA_BAR_CTRL.TARGET b) ≤ s.get (DMA_BAR_STAT.COUNT b))))) := rfl

/-- A barrier that reaches DONE or ERR leaves a stall that waits on none. -/
theorem State.stallKept_barRelease {k : Nat} (hk : k < 32) (s : State) (b : Nat) (hw : s.dmaState k ≠ dWAITBAR) : s.stallKept k (s.barRelease b) := by
  have hput := State.stallKept_put k s (f := DMA_BAR_STAT.DONE b) (b2n (decide (s.get (DMA_BAR_CTRL.TARGET b) ≤ s.get (DMA_BAR_STAT.COUNT b))))
    (DMA_S.beside b k).2.2.2.1 (DMA_S.beside b k).2.2.2.2
  have hw' : (s.put (DMA_BAR_STAT.DONE b) (b2n (decide (s.get (DMA_BAR_CTRL.TARGET b) ≤ s.get (DMA_BAR_STAT.COUNT b))))).dmaState k ≠ dWAITBAR := by
    rw [hput.state]
    exact hw
  rw [State.barRelease_eq]
  refine hput.trans (State.stallKept_foldl (fun x q hq hx => ?_) _ hw')
  unfold State.barStep
  split
  next d hd =>
    split
    next hwait =>
      have hqw : x.dmaState q = dWAITBAR := beq_iff_eq.mp (Bool.and_eq_true_iff.mp hwait).1
      have hqk : q ≠ k := fun e => hx (e ▸ hqw)
      split
      · rw [State.dmaEnd, hd]
        exact State.stallKept_dmaFail hk 33 hq hqk x d 5 0 false hx
      · refine .ite _ (State.stallKept_put k x (f := DMA_S_STAT.STATE q) dRUNNING (DMA_S.apart hq hk hqk).1 (DMA_S.beside q k).1) (.refl k x)
    next => exact .refl k x
  next => exact .refl k x

/-- The Auctioneer leaves every descriptor in work. -/
theorem State.stall_arbGrant {s t : State} {p : Nat} {w : ArbReq} (h : s.arbGrant p = some (w, t)) : t.dma.stall = s.dma.stall := by
  unfold State.arbGrant at h
  split at h
  · cases h
  · cases h; rfl

theorem State.stall_arbUntil (p i fuel : Nat) (s : State) : (s.arbUntil p i fuel).dma.stall = s.dma.stall := by
  induction fuel generalizing s with
  | zero => rfl
  | succ n ih =>
    unfold State.arbUntil
    split
    · rfl
    next w t h =>
      split
      · exact State.stall_arbGrant h
      · exact (ih t).trans (State.stall_arbGrant h)

theorem State.stall_arbPresent (s : State) (p i age : Nat) : (s.arbPresent p i age).dma.stall = s.dma.stall := by
  unfold State.arbPresent
  split <;> rfl

/-- A service leaves every stall. -/
theorem State.stallKept_arbServe (k : Nat) (s : State) (p i : Nat) : s.stallKept k (s.arbServe p i []) := by
  have h := Kept.arbServe (.refl _ s) (Foot.le_refl _) p i []
  exact ⟨h.word_of rfl, h.word_of rfl, State.dmaCur_of ((State.stall_arbUntil _ _ _ _).trans (State.stall_arbPresent _ _ _ _)) k⟩

/-! ### A completed descriptor (R386) -/

/-- The write-back, the count and the service of a descriptor that is done. -/
def State.dmaServed (s : State) (k : Nat) (c : DmaCur) : State :=
  ((s.dmaWriteBack c true 0 0).dmaCount k c.acked).arbServe (sramPath c.addr) (16 + k) []

/-- The counter, the status, the check unit, the interrupt and the head of a descriptor that is done. -/
def State.dmaCounted (s : State) (k : Nat) (c : DmaCur) : State :=
  let s := (s.bumpWrap (DMA_S_DONE.DONE k)).put (DMA_S_STAT.LAST_STATUS k) 0
  let s := s.setCur k none
  let s := if c.chkEn && c.fld 10 14 1 == 1 then s.chkPublish c.chku true else s
  let s := if c.fld 0 2 1 == 1 then s.riseIrq (DMA_S_STAT.DESC_DONE k) k else s
  if c.last then s else s.put (DMA_S_HEAD.HEAD k) (c.fld 9 0 32 / 64)

/-- The state that a stall goes to after a descriptor. -/
def State.dmaNext (s : State) (k : Nat) (c : DmaCur) (drain : Option Nat) : State :=
  if s.dmaState k == dSTOPPING then s.setDma k dSTOPPED
  else if c.last then s.setDma k dSTOPPED
  else if ! s.inChain k (c.fld 9 0 32) then (s.put (DMA_S_STAT.LAST_STATUS k) 4).setDma k dHALTED
  else match drain with
    | some d => { s.setDma k dSTOPPED with pwr := { s.pwr with held := s.pwr.held ++ [(k, d)] } }
    | none => s.setDma k dRUNNING

theorem State.dmaDone_eq (s : State) (k : Nat) (c : DmaCur) : s.dmaDone k c = if c.arrive then
    (((((s.dmaServed k c).dmaCounted k c).dmaNext k c (s.stallDrain k)).bump (DMA_BAR_STAT.COUNT c.bar)).barRelease c.bar)
    else ((s.dmaServed k c).dmaCounted k c).dmaNext k c (s.stallDrain k) := rfl

theorem State.stallKept_dmaServed (s : State) (k : Nat) (c : DmaCur) : s.stallKept k (s.dmaServed k c) :=
  (State.stallKept_before k s k c true 0 0).trans (State.stallKept_arbServe k _ _ _)

/-- A stall in state st without a descriptor, n descriptors done, the last of them OK. -/
structure State.stallDone (k st n : Nat) (t : State) : Prop where
  state : t.dmaState k = st
  cur : t.dmaCur k = none
  status : t.get (DMA_S_STAT.LAST_STATUS k) = 0
  done : t.get (DMA_S_DONE.DONE k) = n

theorem State.stallDone.kept {k st n : Nat} {s t : State} (h : s.stallDone k st n) (g : s.stallKept k t) : t.stallDone k st n :=
  ⟨g.state.trans h.state, g.cur.trans h.cur, g.get.trans h.status, (congrArg (bitsOf · 0 32) g.done).trans h.done⟩

theorem State.stallDone.riseIrq {k st n : Nat} {s : State} (h : s.stallDone k st n) (i : Nat) : (s.riseIrq (DMA_S_STAT.DESC_DONE k) i).stallDone k st n := by
  have hdone : (s.riseIrq (DMA_S_STAT.DESC_DONE k) i).get (DMA_S_DONE.DONE k) = s.get (DMA_S_DONE.DONE k) := by
    unfold State.riseIrq
    split
    · rfl
    · exact ((Kept.raiseIrq (.refl _ _) (Foot.le_refl _) i).get_of (Foot.word_of_win (DMA_S_DONE.addr_win k) rfl)).trans
        (State.get_put_reg _ _ _ _ (DMA_S.beside k k).2.1)
  exact ⟨(State.get_riseIrq_stat s k i (by decide) (by decide)).trans h.state, (State.dmaCur_of (State.dma_riseIrq s _ i ▸ rfl) k).trans h.cur,
    (State.get_riseIrq_stat s k i (by decide) (by decide)).trans h.status, hdone.trans h.done⟩

theorem State.get_setCur (s : State) (k : Nat) (c : Option DmaCur) (f : Fld) : (s.setCur k c).get f = s.get f := rfl

/-- What a descriptor that is done leaves of its stall, before it goes on. -/
theorem State.stallDone_dmaCounted (s : State) (k : Nat) (c : DmaCur) :
    (s.dmaCounted k c).stallDone k (s.dmaState k) ((s.get (DMA_S_DONE.DONE k) + 1) % 2 ^ 32) := by
  have hne : DMA_S_STAT.addr k ≠ DMA_S_DONE.addr k := (DMA_S.beside k k).1
  have h1 : (((s.bumpWrap (DMA_S_DONE.DONE k)).put (DMA_S_STAT.LAST_STATUS k) 0).setCur k none).stallDone k (s.dmaState k)
      ((s.get (DMA_S_DONE.DONE k) + 1) % 2 ^ 32) :=
    ⟨(State.get_setCur _ k _ _).trans ((State.get_put_stat (s.bumpWrap (DMA_S_DONE.DONE k)) k 0 (by decide) (by decide)).trans
        (State.get_put_reg s (DMA_S_DONE.DONE k) (DMA_S_STAT.STATE k) _ hne)), State.dmaCur_setCur _ k none,
      (State.get_setCur _ k _ _).trans (State.get_put_same (s.bumpWrap (DMA_S_DONE.DONE k)) (DMA_S_STAT.LAST_STATUS k) 0 (by show 4 + 4 ≤ 32; decide)),
      (State.get_setCur _ k _ _).trans ((State.get_put_reg (s.bumpWrap (DMA_S_DONE.DONE k)) (DMA_S_STAT.LAST_STATUS k) (DMA_S_DONE.DONE k) 0 hne.symm).trans
        (State.get_put_same s (DMA_S_DONE.DONE k) _ (by show 0 + 32 ≤ 32; decide)))⟩
  have hchk (x : State) (b : Bool) (hx : x.stallDone k (s.dmaState k) ((s.get (DMA_S_DONE.DONE k) + 1) % 2 ^ 32)) :
      (if b then x.chkPublish c.chku true else x).stallDone k (s.dmaState k) ((s.get (DMA_S_DONE.DONE k) + 1) % 2 ^ 32) :=
    hx.kept (.ite _ (State.stallKept_chkPublish k x _ _) (.refl k x))
  have hirq (x : State) (b : Bool) (hx : x.stallDone k (s.dmaState k) ((s.get (DMA_S_DONE.DONE k) + 1) % 2 ^ 32)) :
      (if b then x.riseIrq (DMA_S_STAT.DESC_DONE k) k else x).stallDone k (s.dmaState k) ((s.get (DMA_S_DONE.DONE k) + 1) % 2 ^ 32) := by
    cases b
    · exact hx
    · exact hx.riseIrq k
  have hhead (x : State) (b : Bool) (v : Nat) (hx : x.stallDone k (s.dmaState k) ((s.get (DMA_S_DONE.DONE k) + 1) % 2 ^ 32)) :
      (if b then x else x.put (DMA_S_HEAD.HEAD k) v).stallDone k (s.dmaState k) ((s.get (DMA_S_DONE.DONE k) + 1) % 2 ^ 32) :=
    hx.kept (.ite _ (.refl k x) (State.stallKept_put k x v (DMA_S.beside k k).2.2.1.1 (DMA_S.beside k k).2.2.1.2))
  exact hhead _ c.last (c.fld 9 0 32 / 64) (hirq _ (c.fld 0 2 1 == 1) (hchk _ (c.chkEn && c.fld 10 14 1 == 1) h1))

/-- The next state of a stall that is to stop, or whose descriptor is the last. -/
theorem State.stallDone.dmaNext {k st n : Nat} {s : State} (h : s.stallDone k st n) (c : DmaCur) (drain : Option Nat) :
    (s.dmaNext k c drain).dmaCur k = none ∧ (s.dmaNext k c drain).get (DMA_S_DONE.DONE k) = n ∧ (s.dmaNext k c drain).dmaState k ≠ dWAITBAR
    ∧ (st = dSTOPPING ∨ c.last = true → (s.dmaNext k c drain).dmaState k = dSTOPPED ∧ (s.dmaNext k c drain).get (DMA_S_STAT.LAST_STATUS k) = 0) := by
  have hset (x : State) (v : Nat) (hv : v < 8) (hx : x.dmaCur k = none ∧ x.get (DMA_S_DONE.DONE k) = n) : (x.setDma k v).dmaCur k = none
      ∧ (x.setDma k v).get (DMA_S_DONE.DONE k) = n ∧ (x.setDma k v).dmaState k = v :=
    ⟨(x.dmaCur_setDma k v).trans hx.1, (State.get_put_reg _ _ _ _ (DMA_S.beside k k).2.1).trans hx.2, x.dmaState_setDma k hv⟩
  have hstop : (s.setDma k dSTOPPED).get (DMA_S_STAT.LAST_STATUS k) = 0 := (State.get_put_stat s k _ (by decide) (by decide)).trans h.status
  obtain ⟨hcur, hdone, hstate⟩ := hset s dSTOPPED (by decide) ⟨h.cur, h.done⟩
  unfold State.dmaNext
  rw [h.state]
  by_cases hst : st = dSTOPPING
  · rw [if_pos (beq_iff_eq.mpr hst)]
    exact ⟨hcur, hdone, by rw [hstate]; decide, fun _ => ⟨hstate, hstop⟩⟩
  rw [if_neg (fun e => hst (beq_iff_eq.mp e))]
  by_cases hl : c.last = true
  · rw [if_pos hl]
    exact ⟨hcur, hdone, by rw [hstate]; decide, fun _ => ⟨hstate, hstop⟩⟩
  rw [if_neg hl]
  have hno {p : Prop} (e : st = dSTOPPING ∨ c.last = true) : p := (e.elim hst hl).elim
  split
  · obtain ⟨h1, h2, h3⟩ := hset (s.put (DMA_S_STAT.LAST_STATUS k) 4) dHALTED (by decide)
      ⟨(State.dmaCur_of (by rw [State.put_dma]) k).trans h.cur, (State.get_put_reg _ _ _ _ (DMA_S.beside k k).2.1).trans h.done⟩
    exact ⟨h1, h2, by rw [h3]; decide, fun e => hno e⟩
  · split
    · exact ⟨hcur, hdone, by rw [State.dmaState]; exact ne_of_eq_of_ne hstate (by decide), fun e => hno e⟩
    · obtain ⟨h1, h2, h3⟩ := hset s dRUNNING (by decide) ⟨h.cur, h.done⟩
      exact ⟨h1, h2, by rw [h3]; decide, fun e => hno e⟩

/-- What a completed descriptor leaves of its stall. -/
theorem State.dmaDone_fields {k : Nat} (hk : k < 32) (s : State) (c : DmaCur) : (s.dmaDone k c).dmaCur k = none
    ∧ (s.dmaDone k c).get (DMA_S_DONE.DONE k) = (s.get (DMA_S_DONE.DONE k) + 1) % 2 ^ 32
    ∧ (s.dmaState k = dSTOPPING ∨ c.last = true → (s.dmaDone k c).dmaState k = dSTOPPED ∧ (s.dmaDone k c).get (DMA_S_STAT.LAST_STATUS k) = 0) := by
  have hserved := State.stallKept_dmaServed s k c
  have hdone := State.stallDone_dmaCounted (s.dmaServed k c) k c
  rw [hserved.state, show (s.dmaServed k c).get (DMA_S_DONE.DONE k) = s.get (DMA_S_DONE.DONE k) from congrArg (bitsOf · 0 32) hserved.done] at hdone
  obtain ⟨h1, h2, h3, h4⟩ := hdone.dmaNext c (s.stallDrain k)
  rw [State.dmaDone_eq]
  generalize ((s.dmaServed k c).dmaCounted k c).dmaNext k c (s.stallDrain k) = x at h1 h2 h3 h4
  have hbump : x.stallKept k (x.bump (DMA_BAR_STAT.COUNT c.bar)) :=
    .ite _ (State.stallKept_put k x (f := DMA_BAR_STAT.COUNT c.bar) _ (DMA_S.beside c.bar k).2.2.2.1 (DMA_S.beside c.bar k).2.2.2.2) (.refl k x)
  have hkept : x.stallKept k (if c.arrive then (x.bump (DMA_BAR_STAT.COUNT c.bar)).barRelease c.bar else x) :=
    .ite _ (hbump.trans (State.stallKept_barRelease hk _ _ (by rw [hbump.state]; exact h3))) (.refl k x)
  exact ⟨hkept.cur.trans h1, (congrArg (bitsOf · 0 32) hkept.done).trans h2, fun h => ⟨hkept.state.trans (h4 h).1, hkept.get.trans (h4 h).2⟩⟩

theorem descriptor_complete (s : State) (k : Fin 32) (host : List Byte) (c c' : DmaCur) (hlive : s.live dACQ = true) (hmove : s.dmaMoving k = true)
    (hc : s.dmaCur k = some c) (hstore : c.dstSpace ≠ spSTORE) :
    let y := s.dmaBeats k true c.beats host
    y.dmaCur k = some c' → c'.total ≤ c'.pos → (∀ x ∈ y.spt.out, x.stall ≠ k.val) →
    Completes (.descriptorComplete k host) s (fun t => t.dmaCur k = none ∧ t.get (DMA_S_DONE.DONE k) = (y.get (DMA_S_DONE.DONE k) + 1) % 2 ^ 32
      ∧ (y.dmaState k = dSTOPPING ∨ c'.last = true → t.dmaState k = dSTOPPED ∧ t.get (DMA_S_STAT.LAST_STATUS k) = 0)) := by
  intro y hc' hall hout
  have hany : y.spt.out.any (fun x => x.stall == k.val) = false :=
    List.any_eq_false.mpr fun x hx e => hout x hx (beq_iff_eq.mp e)
  have hst : (c.dstSpace == spSTORE) = false := beq_eq_false_iff_ne.mpr hstore
  have hpos : decide (c'.pos < c'.total) = false := decide_eq_false (Nat.not_lt.mpr hall)
  have he : exec (.descriptorComplete k host) s = .next (y.dmaDone k c') := by
    unfold y at hc' hany
    simp only [exec, execDescriptorComplete, hlive, hmove, hc, hst, hc', hany, hpos, Bool.and_self, Bool.not_true, Bool.false_and, Bool.false_eq_true,
      if_false, Bool.or_self]
    rfl
  exact ⟨_, he, State.dmaDone_fields k.isLt y c'⟩

/-- The status of a refused beat fits its field. -/
theorem beatStatus_lt (read : Bool) (c : DmaCur) (len : Nat) : beatStatus read c len < 16 := by
  unfold beatStatus
  split
  · decide
  · split <;> decide

theorem beat_refused (s : State) (k : Fin 32) (read : Bool) (beats : Nat) (detail : BitVec 8) (host : List Byte) (c : DmaCur)
    (hlive : s.live dACQ = true) (hmove : s.dmaMoving k = true) :
    let y := s.dmaBeats k true beats host
    y.dmaCur k = some c → c.pos < c.total →
    Completes (.beatRefused k read beats detail host) s (fun t => t.dmaState k = dHALTED ∧ t.dmaCur k = none
      ∧ t.get (DMA_S_STAT.LAST_STATUS k) = beatStatus read c (min 64 (c.rowDst - c.pos % c.rowDst)) ∧ t.get (DMA_S_STAT.DETAIL k) = detail.toNat) := by
  intro y hc hpos
  have he : exec (.beatRefused k read beats detail host) s =
      .next (y.dmaEnd k (beatStatus read c (min 64 (c.rowDst - c.pos % c.rowDst))) detail.toNat false) := by
    unfold y at hc
    simp only [exec, execBeatRefused, hlive, hmove, hc, hpos, Bool.and_self, Bool.not_true, Bool.false_eq_true, if_false, if_true]
    rfl
  have hend := State.stallEnded_dmaEnd k.isLt hc (beatStatus read c (min 64 (c.rowDst - c.pos % c.rowDst))) detail.toNat false
  exact ⟨_, he, hend.state, hend.cur, hend.status.trans (Nat.mod_eq_of_lt (beatStatus_lt _ _ _)), hend.detail.trans (Nat.mod_eq_of_lt detail.isLt)⟩

/-! ### Promotion (R398, R439) -/

theorem age_promote (s : State) (p : Fin 32) (x : Fin 64) : Completes (.agePromote p x) s (fun t =>
    t.dma.wait.length = s.dma.wait.length ∧ ∀ (i : Nat) (r : ArbReq), s.dma.wait[i]? = some r → t.dma.wait[i]? = some
      (if r.path = p.val ∧ r.index = x.val ∧ 0 < r.cls ∧ (r.cls = 1 → p.val < 4 ∨ 12 ≤ p.val) then { r with cls := r.cls - 1 } else r)) := by
  refine ⟨_, rfl, List.length_map _, fun i r hr => ?_⟩
  rw [List.getElem?_map, hr, Option.map_some]
  congr 1
  refine if_congr ?_ rfl rfl
  simp only [Bool.and_eq_true, beq_iff_eq, decide_eq_true_iff, Bool.not_eq_true', Bool.and_eq_false_iff, decide_eq_false_iff_not, beq_eq_false_iff_ne]
  omega

/-- Settles O37: an account of each command. -/
theorem descriptorCommandsComplete : Obligations.DescriptorCommandsComplete :=
  ⟨descriptor_fetch, fun s k host c c' => descriptor_complete s k host c c', fun s k read beats detail host c => beat_refused s k read beats detail host c,
    age_promote⟩

end Sys2Proof.Machine
end

section
/-! PROOFS. The host port (R402 to R416): a BAR2 write that covers a poisoned word changes FLT_POISON. -/

namespace Sys2Proof.Machine

/-- An engine in RUN with its host link up that holds one poisoned word of SRAM, and FLT_POISON.HELD says so. -/
def poisonHeld : State :=
  let s := testState run [(HPT_LINK.UP, 1), (FLT_POISON.HELD, 1)] []
  { s with flt := { s.flt with poison := [0x06F00000] } }

/-- The eight bytes of a word, all enabled. -/
def wholeWord : List (Option Byte) := List.replicate 8 (some 1)

theorem poisonHeld_takes : poisonHeld.hostLink = true ∧ ∀ x ∈ enabled wholeWord, poisonHeld.bar2Err (0x06F00000 + x.1) true = none := by
  decide +kernel

/-- FLT_POISON.HELD of an answer. -/
def Out.poisonCount : Out → Option Nat
  | .next t => some (t.get FLT_POISON.HELD)
  | _ => none

/-- The write of the whole word takes its poison away, and HELD with it (R573). -/
theorem poisonHeld_write : poisonHeld.get FLT_POISON.HELD = 1
    ∧ Out.poisonCount (exec (.bar2Access 0x06F00000 true wholeWord []) poisonHeld) = some 0 := by
  decide +kernel

/-- Refutes O38: a BAR2 write of all eight bytes of a poisoned word lowers FLT_POISON.HELD, so it does not leave every register as it was. -/
theorem not_hostPortCommandsComplete : ¬ Obligations.HostPortCommandsComplete := by
  intro h
  obtain ⟨-, -, -, -, -, hbar2, -⟩ := h
  obtain ⟨hlink, hfree⟩ := poisonHeld_takes
  obtain ⟨t, he, -, -, -, hregs⟩ := (hbar2 poisonHeld 0x06F00000 wholeWord [] hlink).2 hfree
  obtain ⟨hbefore, hafter⟩ := poisonHeld_write
  have hheld : t.get FLT_POISON.HELD = 0 := by
    rw [he] at hafter
    exact Option.some.inj hafter
  have hsame : t.get FLT_POISON.HELD = 1 := (State.get_of_regs hregs _).trans hbefore
  exact absurd (hheld.symm.trans hsame) (by decide)

end Sys2Proof.Machine
end

section
/-! PROOFS. The storage port (R417 to R426): a link that comes up while the port's domain drains is not taken. -/

namespace Sys2Proof.Machine

/-- An engine in RUN whose storage port is DRAINING: its domain is on, and takes no new drive. -/
def portDraining : State := testState run [(PWR_DOM_STAT.STATE dPCIE_S, 3)] [(SPT_CFG.BIF, 2)]

theorem portDraining_takes : portDraining.alive = true ∧ portDraining.domOn dPCIE_S = true ∧ (0 : Fin 4).val < bifDrives (portDraining.app SPT_CFG.BIF) := by
  decide +kernel

/-- The width of drive 0 in an answer. -/
def Out.driveWidth : Out → Option Nat
  | .next t => some (t.get (SPT_DRV_STAT.WIDTH 0))
  | _ => none

theorem portDraining_linkUp : Out.driveWidth (exec (.driveLinkUp 0 1 1) portDraining) = some 0 := by decide +kernel

/-- Refutes O39: the statement asks for a domain that is on, and the link of a drive is taken in ON alone; in DRAINING its width stays 0. -/
theorem not_storageCommandsComplete : ¬ Obligations.StorageCommandsComplete := by
  intro h
  obtain ⟨hup, -⟩ := h
  obtain ⟨halive, hon, hbif⟩ := portDraining_takes
  obtain ⟨t, he, hwidth, -⟩ := hup portDraining 0 1 1 halive hon hbif
  have hzero := portDraining_linkUp
  rw [he] at hzero
  exact absurd (hwidth.symm.trans (Option.some.inj hzero)) (by decide)

end Sys2Proof.Machine
end

section
/-! PROOFS. The training of the GDDR6 memory (R442 to R445). -/

namespace Sys2Proof.Machine

/-! ### Channels that wait for their retraining (R443) -/

/-- Channel ch is queued for its retraining, or in it. -/
def State.trainWaits (ch : Nat) (t : State) : Prop := ch ∈ t.mem.queue ∨ ∃ c, t.mem.cur = some c ∧ c.ch = ch

theorem mem_insertAsc {n m : Nat} {l : List Nat} : m ∈ insertAsc n l ↔ m = n ∨ m ∈ l := by
  induction l with
  | nil => simp [insertAsc]
  | cons k l ih =>
    unfold insertAsc
    split
    next e => subst e; simp
    next =>
      split
      · simp
      · simp only [List.mem_cons, ih]; tauto

/-- The next channel starts or goes on waiting. -/
theorem State.trainWaits.next {ch : Nat} {s : State} (h : s.trainWaits ch) : s.trainNext.trainWaits ch := by
  unfold State.trainNext
  split
  next c l hcur hq =>
    rcases h with h | ⟨d, hd, -⟩
    · rw [hq] at h
      rcases List.mem_cons.mp h with rfl | h
      · exact .inr ⟨_, congrArg MemSt.cur (State.put_mem _ _ _), rfl⟩
      · exact .inl (by rw [State.put_mem]; exact h)
    · rw [hcur] at hd; cases hd
  next hcur hq =>
    rcases h with h | ⟨d, hd, -⟩
    · rw [hq] at h; cases h
    · rw [hcur] at hd; cases hd
  next => exact h

theorem State.trainWaits.of_mem {ch : Nat} {s t : State} (h : s.trainWaits ch) (hm : t.mem = s.mem) : t.trainWaits ch := by
  rw [State.trainWaits, hm]
  exact h

/-- A channel queued. -/
def State.trainQueue (s : State) (ch : Nat) : State := { s with mem := { s.mem with queue := insertAsc ch s.mem.queue } }

theorem State.retrain_eq (s : State) (ch : Nat) : s.retrain ch = if s.inRun && s.memState == gREADY && ch < s.memNc then (s.trainQueue ch).trainNext else s := rfl

theorem State.trainWaits.retrain {ch : Nat} {s : State} (h : s.trainWaits ch) (k : Nat) : (s.retrain k).trainWaits ch := by
  rw [State.retrain_eq]
  split
  · refine State.trainWaits.next ?_
    exact h.elim (fun hq => .inl (mem_insertAsc.mpr (.inr hq))) .inr
  · exact h

/-- A retraining that may start leaves its channel waiting or in it. -/
theorem State.trainWaits_retrain {s : State} {ch : Nat} (hrun : s.inRun = true) (hready : s.memState = gREADY) (hch : ch < s.memNc) :
    (s.retrain ch).trainWaits ch := by
  have hgo : (s.inRun && s.memState == gREADY && decide (ch < s.memNc)) = true := by rw [hrun, hready, decide_eq_true hch]; rfl
  rw [State.retrain_eq, if_pos hgo]
  exact State.trainWaits.next (.inl (mem_insertAsc.mpr (.inl rfl)))

/-- What a start of the next channel leaves: MEM_STAT beside TRAIN_BUSY, and every other register. -/
theorem State.get_trainNext (s : State) {f : Fld} (h : MEM_STAT.TRAIN_BUSY.clear f = true) : s.trainNext.get f = s.get f := by
  unfold State.trainNext
  split
  · exact State.get_put_clear _ _ _ _ h
  · exact State.get_put_clear _ _ _ _ h
  · rfl

theorem State.applied_trainNext (s : State) : s.trainNext.applied = s.applied := by
  unfold State.trainNext
  split <;> rfl

/-- A retraining keeps what later ones ask: the engine runs, the memory is READY, its channels. -/
theorem State.retrain_keeps (s : State) (ch : Nat) : (s.retrain ch).inRun = s.inRun ∧ (s.retrain ch).memState = s.memState
    ∧ (s.retrain ch).memNc = s.memNc := by
  have happ (x : State) (h : x.applied = s.applied) : x.memNc = s.memNc := by
    rw [State.memNc, State.memNc, State.memCtrls, State.memCtrls, State.app, State.app, State.appWord, State.appWord, h]
  rw [State.retrain_eq]
  split
  · have hdev : (s.trainQueue ch).trainNext.dev = s.dev := State.get_trainNext (s.trainQueue ch) rfl
    refine ⟨?_, State.get_trainNext (s.trainQueue ch) rfl, happ _ (State.applied_trainNext (s.trainQueue ch))⟩
    rw [State.inRun, State.inRun, hdev]
  · exact ⟨rfl, rfl, rfl⟩

theorem retrain_interval (s : State) (ch : Fin 16) (hrun : s.inRun = true) (hready : s.memState = gREADY) (hch : ch.val < s.memNc) :
    Completes (.retrainInterval ch) s (fun t => t.trainWaits ch ∧ (s.mem.cur = none → t.flag MEM_STAT.TRAIN_BUSY = true)) := by
  refine ⟨_, rfl, State.trainWaits_retrain hrun hready hch, fun hcur => ?_⟩
  have hgo : (s.inRun && s.memState == gREADY && decide (ch.val < s.memNc)) = true := by rw [hrun, hready, decide_eq_true hch]; rfl
  have hmem : ch.val ∈ (s.trainQueue ch).mem.queue := mem_insertAsc.mpr (.inl rfl)
  rw [State.retrain_eq, if_pos hgo]
  unfold State.trainNext
  split
  · exact State.flag_put_one _ _ (by decide) rfl
  next _ hq => rw [hq] at hmem; cases hmem
  next c hc => exact absurd (hc.symm.trans hcur) (by simp)

/-! ### MEM_CMD.TRAIN and the temperatures (R440, R443) -/

/-- MEM_CMD.TRAIN leaves every channel waiting. -/
theorem State.trainWaits_memTrain {s : State} (hrun : s.inRun = true) (hready : s.memState = gREADY) {ch : Nat} (hch : ch < s.memNc) :
    s.memTrain.trainWaits ch := by
  have hfold (l : List Nat) (x : State) (hx : x.inRun = true ∧ x.memState = gREADY ∧ x.memNc = s.memNc) (h : ch ∈ l ∨ x.trainWaits ch) :
      (l.foldl (fun (s : State) ch => s.retrain ch) x).trainWaits ch := by
    induction l generalizing x with
    | nil => exact h.resolve_left List.not_mem_nil
    | cons k l ih =>
      obtain ⟨k1, k2, k3⟩ := x.retrain_keeps k
      refine ih (x.retrain k) ⟨k1.trans hx.1, k2.trans hx.2.1, k3.trans hx.2.2⟩ ?_
      rcases h with h | h
      · rcases List.mem_cons.mp h with rfl | h
        · exact .inr (State.trainWaits_retrain hx.1 hx.2.1 (by rw [hx.2.2]; exact hch))
        · exact .inl h
      · exact .inr (h.retrain k)
  exact hfold _ s ⟨hrun, hready, rfl⟩ (.inl (List.mem_range.mpr hch))

theorem mem_train (s : State) (src : Source) (v : Word) (ha : s.admits memRules src MEM_CMD.addr (v ||| 2))
    (h0 : (v ||| 2).toNat.testBit 0 = false) (hrun : s.inRun = true) :
    Completes (.memTrain src v) s (fun t => t.okAnswer ∧ ∀ ch, ch < s.memNc → t.trainWaits ch) := by
  have h1 : (v ||| 2).toNat.testBit 1 = true := testBit_or_right v 2 (by decide)
  have hget (f : Fld) (h : f.addr ≠ MEM_CMD.addr) : (s.landed MEM_CMD.addr (v ||| 2)).get f = s.get f := State.get_landed_ne s _ _ f h
  have hready : s.memState = gREADY := by
    obtain ⟨-, -, -, hpre, -⟩ := ha
    by_contra hne
    have hmod : ((v ||| 2).toNat % 4 != 3) = true := by
      rw [bne_iff_ne]
      intro e
      have hbit : ((v ||| 2).toNat % 4).testBit 0 = (v ||| 2).toNat.testBit 0 := Nat.testBit_mod_two_pow _ 2 0
      rw [e, h0] at hbit
      exact absurd hbit (by decide)
    have hbusy : memPre s MEM_CMD.addr (v ||| 2) = some .busy := by
      simp only [memPre, hmod, h0, h1, bne_iff_ne.mpr hne, beq_self_eq_true, Bool.and_self, Bool.false_and, Bool.false_eq_true, if_false, if_true]
      rfl
    exact absurd (hbusy.symm.trans hpre) (by simp)
  have hrun' : (s.landed MEM_CMD.addr (v ||| 2)).inRun = true := by
    rw [State.inRun, State.dev, hget _ (by decide)]
    exact hrun
  have hnc : (s.landed MEM_CMD.addr (v ||| 2)).memNc = s.memNc := rfl
  refine .of_write rfl ha (by decide) (by decide) (t := (s.landed MEM_CMD.addr (v ||| 2)).memTrain) ?_ ⟨State.answer_ok _, fun ch hch => ?_⟩
  · simp only [memRules, beq_self_eq_true, h0, h1, Bool.and_false, Bool.false_eq_true, if_false, if_true]
  · exact (State.trainWaits_memTrain hrun' ((hget _ (by decide)).trans hready) (by rw [hnc]; exact hch)).of_mem (State.answer_mem _ _ _)

/-- A temperature taken: its channel is retrained where it drifted. -/
def State.takeTemp (s : State) (ch : Nat) (v : BitVec 8) : State :=
  if s.app MEM_TRAIN.TEMP_DELTA ≤ ((v.toNat : Int) - vget s.mem.lastTemp (Fin.ofNat _ ch)).natAbs then s.retrain ch else s

theorem State.get_takeTemp (s : State) (ch : Nat) (v : BitVec 8) {f : Fld} (h : MEM_STAT.TRAIN_BUSY.clear f = true) : (s.takeTemp ch v).get f = s.get f := by
  unfold State.takeTemp
  split
  · rw [State.retrain_eq]
    split
    · exact State.get_trainNext (s.trainQueue ch) h
    · rfl
  · rfl

theorem State.trainWaits.takeTemp {ch : Nat} {s : State} (h : s.trainWaits ch) (k : Nat) (v : BitVec 8) : (s.takeTemp k v).trainWaits ch := by
  unfold State.takeTemp
  split
  · exact h.retrain k
  · exact h

theorem temp_read (s : State) (c : Fin 8) (tA tB : BitVec 8) (ha : s.alive = true) (hd : s.domOn (memDomOf c) = true) (hc : c.val < s.memCtrls) :
    Completes (.tempRead c tA tB) s (fun t => t.get (MEM_C_STAT.TEMP_A c) = tA.toNat ∧ t.get (MEM_C_STAT.TEMP_B c) = tB.toNat
      ∧ (s.inRun = true → s.memState = gREADY → s.app MEM_TRAIN.TEMP_DELTA ≤ ((tA.toNat : Int) - vget s.mem.lastTemp (Fin.ofNat _ (2 * c.val))).natAbs →
        t.trainWaits (2 * c.val))) := by
  let y := (s.put (MEM_C_STAT.TEMP_A c) tA.toNat).put (MEM_C_STAT.TEMP_B c) tB.toNat
  have hgo : (s.alive && s.domOn (memDomOf c) && decide (c.val < s.memCtrls)) = true := by rw [ha, hd, decide_eq_true hc]; rfl
  have hfold (x : State) : [(2 * c.val, tA), (2 * c.val + 1, tB)].foldl (fun (s : State) x =>
      let last := vget s.mem.lastTemp (Fin.ofNat _ x.1)
      if s.app MEM_TRAIN.TEMP_DELTA ≤ ((x.2.toNat : Int) - last).natAbs then s.retrain x.1 else s) x
        = (x.takeTemp (2 * c.val) tA).takeTemp (2 * c.val + 1) tB := rfl
  have he : exec (.tempRead c tA tB) s = .next ((y.takeTemp (2 * c.val) tA).takeTemp (2 * c.val + 1) tB) :=
    congrArg Host.Outcome.next ((if_pos hgo).trans (hfold y))
  have hclear (lo n : Nat) : MEM_STAT.TRAIN_BUSY.clear ⟨MEM_C_STAT.addr c, lo, n⟩ = true := by
    have hne : (MEM_STAT.TRAIN_BUSY.addr != MEM_C_STAT.addr c) = true :=
      bne_iff_ne.mpr (by show MEM_STAT.addr ≠ _; unfold MEM_STAT.addr MEM_C_STAT.addr; omega)
    simp only [Fld.clear, hne, Bool.or_true, Bool.and_true]
    rfl
  have hA : y.get (MEM_C_STAT.TEMP_A c) = tA.toNat :=
    (State.get_put_apart _ _ _ _ (by show 24 + 8 ≤ 32; decide) (.inr (.inr (by show 16 + 8 ≤ 24; decide)))).trans
      ((State.get_put_same s _ _ (by show 16 + 8 ≤ 32; decide)).trans (Nat.mod_eq_of_lt tA.isLt))
  have hB : y.get (MEM_C_STAT.TEMP_B c) = tB.toNat := (State.get_put_same _ _ _ (by show 24 + 8 ≤ 32; decide)).trans (Nat.mod_eq_of_lt tB.isLt)
  refine ⟨_, he, (State.get_takeTemp _ _ _ (hclear _ _)).trans ((State.get_takeTemp _ _ _ (hclear _ _)).trans hA),
    (State.get_takeTemp _ _ _ (hclear _ _)).trans ((State.get_takeTemp _ _ _ (hclear _ _)).trans hB), fun hrun hready hdelta => ?_⟩
  have hput (f : Fld) (h : f.addr / 0x1000 ≠ 0x141) : y.get f = s.get f :=
    have hne : f.addr ≠ MEM_C_STAT.addr c := fun e => h (by rw [e]; unfold MEM_C_STAT.addr; omega)
    (State.get_put_reg _ _ _ _ hne).trans (State.get_put_reg s _ _ _ hne)
  have hyrun : y.inRun = true := by
    rw [State.inRun, State.dev, hput _ (by decide)]
    exact hrun
  have hymem : y.mem = s.mem := (State.put_mem _ _ _).trans (State.put_mem _ _ _)
  refine State.trainWaits.takeTemp ?_ _ _
  have hyapp (f : Fld) : y.app f = s.app f := (State.app_put _ _ _ _).trans (State.app_put _ _ _ _)
  unfold State.takeTemp
  rw [hymem, hyapp, if_pos hdelta]
  refine State.trainWaits_retrain hyrun ((hput _ (by decide)).trans hready) ?_
  rw [State.memNc, State.memCtrls, hyapp, ← State.memCtrls]
  omega

/-! ### Steps of a retraining (R443 to R445) -/

/-- The retune of PLL_M, as its retrainings and its lock see it. -/
def State.retuned (t : State) : Prop := t.memState = gFREQ ∧ t.flag (CLK_PLL_STAT.LOCKED 2) = false ∧ t.get MEM_USABLE.USABLE = 0
    ∧ t.flag MEM_STAT.FREQ_DEFERRED = false ∧ t.mem.cur = none ∧ t.mem.queue = []

/-- The retrainings dropped, and PLL_M unwatched. -/
def State.trainDropped (s : State) : State :=
  { s with mem := { s.mem with queue := [], cur := none }, alm := { s.alm with unwatched := 2 :: s.alm.unwatched.filter (· != 2) } }

theorem State.get_trainDropped (s : State) (f : Fld) : s.trainDropped.get f = s.get f := rfl

theorem State.get_putApp (s : State) (f g : Fld) (v : Nat) : (s.putApp f v).get g = s.get g := rfl

theorem State.memRetune_eq (s : State) : s.memRetune =
    ((((((((s.put MEM_STAT.STATE gFREQ).put MEM_STAT.FREQ_DEFERRED 0).put (CLK_PLL_STAT.LOCKED 2) 0).put (CLK_PLL_STAT.SYNCED 2) 0).putApp MEM_FREQ.RATE
      ((((((s.put MEM_STAT.STATE gFREQ).put MEM_STAT.FREQ_DEFERRED 0).put (CLK_PLL_STAT.LOCKED 2) 0).put (CLK_PLL_STAT.SYNCED 2) 0).get MEM_FREQ.RATE))).put
        MEM_STAT.TRAIN_BUSY 0).put MEM_USABLE.USABLE 0).trainDropped) := rfl

theorem State.retuned_memRetune (s : State) : s.memRetune.retuned := by
  rw [State.memRetune_eq]
  refine ⟨?_, flag_of_get_zero ?_, ?_, flag_of_get_zero ?_, rfl, rfl⟩
  · rw [State.memState]
    simp (disch := decide) only [State.get_trainDropped, State.get_put_clear, State.get_putApp, State.get_put_same]
    rfl
  · simp (disch := decide) only [State.get_trainDropped, State.get_put_clear, State.get_putApp, State.get_put_same]
    rfl
  · simp (disch := decide) only [State.get_trainDropped, State.get_put_same]
    rfl
  · simp (disch := decide) only [State.get_trainDropped, State.get_put_clear, State.get_putApp, State.get_put_same]
    rfl

/-- A retune stands where the windows of the memory and of the clocks, and the memory's own part, are kept. -/
theorem State.retuned.kept {F : Foot} {s t : State} (h : s.retuned) (k : Kept F s t) (h2 : F.word 0x02 = false) (h14 : F.word 0x14 = false)
    (hm : F.part .mem = false) : t.retuned := by
  obtain ⟨r1, r2, r3, r4, r5, r6⟩ := h
  have hmem : t.mem = s.mem := k.part_of .mem hm
  exact ⟨(k.get_of (g := MEM_STAT.STATE) h14).trans r1, (k.flag_of (g := CLK_PLL_STAT.LOCKED 2) h2).trans r2,
    (k.get_of (g := MEM_USABLE.USABLE) h14).trans r3, (k.flag_of (g := MEM_STAT.FREQ_DEFERRED) h14).trans r4, by rw [hmem]; exact r5, by rw [hmem]; exact r6⟩

theorem State.retuned.answer {s : State} (h : s.retuned) : (s.answer 0 0).retuned := h

/-- The step c.step has applied, and the next begins. -/
theorem State.stepApplied_next {s : State} (c : MemStep) (hf : s.flag MEM_STAT.FREQ_DEFERRED = false) (hs : c.step < 2) :
    (s.stepApplied c).mem.cur = some ⟨c.ch, c.step + 1, 0⟩ := by
  rw [State.stepApplied, hf, if_neg Bool.false_ne_true, if_pos hs]

/-- The last step has applied: the channel is trained, and the next that waits begins. -/
theorem State.stepApplied_last {s : State} (c : MemStep) (hf : s.flag MEM_STAT.FREQ_DEFERRED = false) (hs : 2 ≤ c.step) :
    (s.stepApplied c).get (MEM_C_CNT.RETRAINS (c.ch / 2)) = min (s.get (MEM_C_CNT.RETRAINS (c.ch / 2)) + 1) 65535
    ∧ vget (s.stepApplied c).mem.lastTemp (Fin.ofNat _ c.ch) = s.chTemp c.ch ∧ (s.stepApplied c).mem.cur = s.mem.queue.head?.map (fun ch => ⟨ch, 0, 0⟩) := by
  let y := (s.trained c.ch).bump (MEM_C_CNT.RETRAINS (c.ch / 2))
  have hy : y.mem = (s.trained c.ch).mem := State.bump_mem _ _
  have he : s.stepApplied c = ({ y with mem := { y.mem with cur := none } } : State).trainNext := by
    rw [State.stepApplied, hf, if_neg Bool.false_ne_true, if_neg (Nat.not_lt.mpr hs)]
  have hclear : MEM_STAT.TRAIN_BUSY.clear (MEM_C_CNT.RETRAINS (c.ch / 2)) = true := by
    have hne : (MEM_STAT.TRAIN_BUSY.addr != (MEM_C_CNT.RETRAINS (c.ch / 2)).addr) = true :=
      bne_iff_ne.mpr (by show MEM_STAT.addr ≠ MEM_C_CNT.addr _; unfold MEM_STAT.addr MEM_C_CNT.addr; omega)
    rw [Fld.clear, hne, Bool.or_true, Bool.and_true]
    rfl
  have hnext : (s.stepApplied c).mem.lastTemp = (s.trained c.ch).mem.lastTemp
      ∧ (s.stepApplied c).mem.cur = s.mem.queue.head?.map (fun ch => ⟨ch, 0, 0⟩) := by
    have hqueue : (s.trained c.ch).mem.queue = s.mem.queue := rfl
    rw [he, hy]
    unfold State.trainNext
    split
    next ch l _ hq => rw [State.put_mem, ← hqueue, hq]; exact ⟨rfl, rfl⟩
    next _ hq => rw [State.put_mem, ← hqueue, hq]; exact ⟨rfl, rfl⟩
    next c' hc => cases hc
  refine ⟨?_, ?_, hnext.2⟩
  · rw [he]
    exact (State.get_trainNext _ hclear).trans (State.get_bump_min (s.trained c.ch) _ (by show 16 + 16 ≤ 32; decide))
  · rw [hnext.1]
    exact vget_vset_same _ _ _

/-- The step of the running retraining set. -/
def State.trainStep (s : State) (c : MemStep) : State := { s with mem := { s.mem with cur := some c } }

theorem State.flag_trainStep (s : State) (c : MemStep) (f : Fld) : (s.trainStep c).flag f = s.flag f := rfl

theorem train_step (s : State) (c : MemStep) (hr : s.memReady = true) (hc : s.mem.cur = some c) (h0 : c.fails = 0) :
    (s.flag MEM_STAT.FREQ_DEFERRED = false → c.step < 2 → Completes (.trainStepDone true) s (fun t => t.mem.cur = some ⟨c.ch, c.step + 1, 0⟩))
    ∧ (s.flag MEM_STAT.FREQ_DEFERRED = false → 2 ≤ c.step → Completes (.trainStepDone true) s (fun t =>
      t.get (MEM_C_CNT.RETRAINS (c.ch / 2)) = min (s.get (MEM_C_CNT.RETRAINS (c.ch / 2)) + 1) 65535
      ∧ vget t.mem.lastTemp (Fin.ofNat _ c.ch) = s.chTemp c.ch ∧ t.mem.cur = s.mem.queue.head?.map (fun ch => ⟨ch, 0, 0⟩)))
    ∧ (s.flag MEM_STAT.FREQ_DEFERRED = true → Completes (.trainStepDone true) s State.retuned)
    ∧ (s.flag MEM_STAT.FREQ_DEFERRED = false → Completes (.trainStepDone false) s (fun t =>
      t.flag (MEM_C_STAT.TRAIN_FAIL (c.ch / 2)) = true ∧ t.mem.cur = some { c with fails := 1 })) := by
  have hgo : (! s.memReady || c.fails != 0) = false := by rw [hr, h0]; rfl
  have he : exec (.trainStepDone true) s = .next (s.stepApplied c) := by
    simp only [exec, execTrainStepDone, hc, hgo, Bool.false_eq_true, if_false, if_true]
  refine ⟨fun hf hs => ⟨_, he, State.stepApplied_next c hf hs⟩, fun hf hs => ⟨_, he, State.stepApplied_last c hf hs⟩, fun hf => ⟨_, he, ?_⟩, fun hf => ?_⟩
  · rw [State.stepApplied, hf, if_pos rfl]
    exact s.retuned_memRetune
  · let y := s.put (MEM_C_STAT.TRAIN_FAIL (c.ch / 2)) 1
    let z := y.trainStep { c with fails := 1 }
    have hne : MEM_STAT.addr ≠ MEM_C_STAT.addr (c.ch / 2) := by unfold MEM_STAT.addr MEM_C_STAT.addr; omega
    have hz : z.flag MEM_STAT.FREQ_DEFERRED = false := (State.flag_trainStep y _ _).trans <|
      (State.flag_eq_get (State.get_put_reg s (MEM_C_STAT.TRAIN_FAIL (c.ch / 2)) MEM_STAT.FREQ_DEFERRED 1 hne)).trans hf
    have he' : exec (.trainStepDone false) s = .next (if z.flag MEM_STAT.FREQ_DEFERRED then z.memRetune else z) := by
      simp only [exec, execTrainStepDone, hc, hgo, Bool.false_eq_true, if_false]
      rfl
    rw [hz, if_neg Bool.false_ne_true] at he'
    exact ⟨z, he', (State.flag_trainStep y _ _).trans (State.flag_put_one s _ (by show 13 + 1 ≤ 32; decide) rfl), rfl⟩

/-! ### Failures (R444) -/

/-- The retrainings dropped with the memory. -/
def State.trainFailed (s : State) : State := { s with mem := { s.mem with queue := [], cur := none, freq := false } }

theorem State.get_trainFailed (s : State) (f : Fld) : s.trainFailed.get f = s.get f := rfl

/-- A controller that fails for good takes the memory with it. -/
theorem State.memFailed_fields (s : State) (c : Nat) : (s.memFailed c).memState = gFAILED ∧ (s.memFailed c).get MEM_USABLE.USABLE = 0
    ∧ (s.memFailed c).mem.cur = none := by
  have hpage : MEM_C_STAT.addr c / 0x1000 = 0x141 := by unfold MEM_C_STAT.addr; omega
  have hput (x : State) (v : Nat) {f : Fld} (h : f.addr / 0x1000 ≠ 0x141) : (x.put (MEM_C_STAT.TRAINED c) v).get f = x.get f :=
    State.get_put_reg x _ _ _ (fun e => h ((congrArg (· / 0x1000) e).trans hpage))
  let y := (((s.put MEM_STAT.STATE gFAILED).put MEM_USABLE.USABLE 0).put (MEM_C_STAT.TRAINED c) 0).put MEM_STAT.TRAIN_BUSY 0
  have he : s.memFailed c = y.trainFailed.fltInfo 0x20 c 0x14 (tileLoc (c / 2) (7 + c % 2) 0) 0 := rfl
  have hk := Kept.fltInfo (.refl _ y.trainFailed) (Foot.le_refl _) 0x20 c 0x14 (tileLoc (c / 2) (7 + c % 2) 0) 0
  rw [he]
  refine ⟨(hk.get_of rfl).trans ((State.get_trainFailed y _).trans ?_), (hk.get_of rfl).trans ((State.get_trainFailed y _).trans ?_), ?_⟩
  · exact (State.get_put_clear _ _ _ _ rfl).trans ((hput _ _ (by decide)).trans ((State.get_put_clear _ _ _ _ rfl).trans
      (State.get_put_same s _ _ (by decide))))
  · exact (State.get_put_clear _ _ _ _ rfl).trans ((hput _ _ (by decide)).trans (State.get_put_same _ _ _ (by decide)))
  · rw [hk.part_of .mem rfl]
    rfl

theorem train_retry (s : State) (c : MemStep) (hr : s.memReady = true) (hc : s.mem.cur = some c) (h0 : c.fails ≠ 0) :
    (s.flag MEM_STAT.FREQ_DEFERRED = false → c.step < 2 → Completes (.trainRetry true) s (fun t => t.mem.cur = some ⟨c.ch, c.step + 1, 0⟩))
    ∧ (c.fails < 2 → Completes (.trainRetry false) s (fun t => t.mem.cur = some { c with fails := c.fails + 1 }))
    ∧ (2 ≤ c.fails → Completes (.trainRetry false) s (fun t => t.memState = gFAILED ∧ t.get MEM_USABLE.USABLE = 0 ∧ t.mem.cur = none)) := by
  refine ⟨fun hf hs => ⟨s.stepApplied { c with fails := 0 }, ?_, State.stepApplied_next { c with fails := 0 } hf hs⟩,
    fun hs => ⟨{ s with mem := { s.mem with cur := some { c with fails := c.fails + 1 } } }, ?_, rfl⟩, fun hs => ⟨(s.memFailed (c.ch / 2)).settleCaps s, ?_, ?_⟩⟩
  · simp only [exec, execTrainRetry, hc, hr, h0, Bool.not_true, Bool.false_or, decide_false, Bool.false_eq_true, if_false, if_true]
  · simp only [exec, execTrainRetry, hc, hr, h0, hs, Bool.not_true, Bool.false_or, decide_false, Bool.false_eq_true, if_false, if_true]
  · simp only [exec, execTrainRetry, hc, hr, h0, Nat.not_lt.mpr hs, Bool.not_true, Bool.false_or, decide_false, Bool.false_eq_true, if_false]
  · obtain ⟨h1, h2, h3⟩ := s.memFailed_fields (c.ch / 2)
    have hk := Kept.settleCaps (.refl _ (s.memFailed (c.ch / 2))) (Foot.le_refl _) s
    exact ⟨(hk.get_of rfl).trans h1, (hk.get_of rfl).trans h2, by rw [hk.part_of .mem rfl]; exact h3⟩

/-! ### Full training (R442, R445) -/

/-- The end of full training as its registers show it, before its channels are marked. -/
def State.trainShown (s : State) : State :=
  let s := (s.put MEM_STAT.STATE gREADY).put MEM_FREQ.RATE_NOW (s.app MEM_FREQ.RATE)
  s.put MEM_USABLE.USABLE s.usableUnits

/-- Every controller and channel marked trained. -/
def State.trainMarked (s : State) : State :=
  let s := (List.range s.memCtrls).foldl (fun (s : State) c => s.put (MEM_C_STAT.TRAINED c) 1) s
  let s := (List.range s.memNc).foldl (fun (s : State) ch => s.trained ch) s
  { s with mem := { s.mem with freq := false } }

theorem MEM_C_STAT.page (c : Nat) : MEM_C_STAT.addr c / 0x1000 = 0x141 := by unfold MEM_C_STAT.addr; omega

theorem State.get_trainMarked (s : State) {f : Fld} (h : f.addr / 0x1000 ≠ 0x141) : s.trainMarked.get f = s.get f := by
  have hctrl (l : List Nat) : (l.foldl (fun (s : State) c => s.put (MEM_C_STAT.TRAINED c) 1) s).get f = s.get f :=
    List.foldl_inv (P := fun t : State => t.get f = s.get f) (fun t c ht =>
      (State.get_put_reg t _ _ _ (fun e => h ((congrArg (· / 0x1000) e).trans (MEM_C_STAT.page c)))).trans ht) l rfl
  have hch (l : List Nat) (x : State) : (l.foldl (fun (s : State) ch => s.trained ch) x).get f = x.get f :=
    List.foldl_inv (P := fun t : State => t.get f = x.get f) (fun t ch ht => (rfl : (t.trained ch).get f = t.get f).trans ht) l rfl
  have hset (x : State) : ({ x with mem := { x.mem with freq := false } } : State).get f = x.get f := rfl
  unfold State.trainMarked
  exact (hset _).trans ((hch _ _).trans (hctrl _))

theorem State.usableUnits_lt (s : State) : s.usableUnits < 2 ^ 23 := by
  have hnc : s.memNc ≤ 16 := by
    unfold State.memNc State.memCtrls
    split <;> decide
  have hrows : s.memRows - 16 ≤ 32752 := by
    unfold State.memRows
    split <;> decide
  have h := Nat.mul_le_mul hnc hrows
  unfold State.usableUnits
  omega

theorem training_done (s : State) (ha : s.alive = true)
    (hst : s.memState = gTRAINING ∨ (s.memState = gFREQ ∧ s.flag (CLK_PLL_STAT.LOCKED 2) = true)) :
    Completes (.trainingDone true) s (fun t => t.memState = gREADY ∧ t.get MEM_FREQ.RATE_NOW = s.app MEM_FREQ.RATE ∧ t.get MEM_USABLE.USABLE = s.usableUnits)
    ∧ Completes (.trainingDone false) s (fun t => t.memState = gFAILED ∧ t.get MEM_USABLE.USABLE = 0) := by
  have hgo : (! s.alive || ! (s.memState == gTRAINING || (s.memState == gFREQ && s.flag (CLK_PLL_STAT.LOCKED 2)))) = false := by
    rcases hst with h | ⟨h, hl⟩
    · rw [ha, h]; rfl
    · rw [ha, h, hl]; rfl
  have hsettled (x : State) {f : Fld} (hf : f.addr / 0x10000 = 0x14) : ((x.settleCaps s).recSettle).get f = x.get f :=
    (Kept.recSettle (Kept.settleCaps (.refl ⟨false, [0x00, 0x15, 0x1A, 0x1B], [], [.sys, .flt, .boot]⟩ x) (by decide) s) (by decide)).get_of
      (Foot.word_of_win hf rfl)
  constructor
  · have he : s.trainingDone true = s.trainShown.trainMarked := by
      unfold State.trainingDone
      dsimp only
      rw [if_neg (by rw [hgo]; exact Bool.false_ne_true), if_neg (by decide)]
      rfl
    have hk {f : Fld} (h14 : f.addr / 0x10000 = 0x14) (h : f.addr / 0x1000 ≠ 0x141) :
        ((s.trainShown.trainMarked.settleCaps s).recSettle).get f = s.trainShown.get f := (hsettled _ h14).trans (State.get_trainMarked _ h)
    refine ⟨_, congrArg (fun x : State => Host.Outcome.next ((x.settleCaps s).recSettle)) he, (hk rfl (by decide)).trans ?_,
      (hk rfl (by decide)).trans ?_, (hk rfl (by decide)).trans ?_⟩
    · unfold State.trainShown
      exact (State.get_put_clear _ _ _ _ rfl).trans ((State.get_put_clear _ _ _ _ rfl).trans (State.get_put_same _ _ _ (by decide)))
    · unfold State.trainShown
      exact (State.get_put_clear _ _ _ _ rfl).trans ((State.get_put_same _ _ _ (by decide)).trans (Nat.mod_eq_of_lt (bitsOf_lt _ _ _)))
    · unfold State.trainShown
      exact (State.get_put_same _ _ _ (by decide)).trans (Nat.mod_eq_of_lt (State.usableUnits_lt _))
  · have he : s.trainingDone false = s.memFailed 0 := by
      unfold State.trainingDone
      dsimp only
      rw [if_neg (by rw [hgo]; exact Bool.false_ne_true), if_pos (by decide)]
    obtain ⟨h1, h2, -⟩ := s.memFailed_fields 0
    exact ⟨_, congrArg (fun x : State => Host.Outcome.next ((x.settleCaps s).recSettle)) he, (hsettled _ rfl).trans h1, (hsettled _ rfl).trans h2⟩

/-! ### FREQ_GO (R445) -/

/-- A change of rate waits for a step that gathers data. -/
theorem State.freqGo_deferred {s : State} {c : MemStep} (hc : s.mem.cur = some c) (h : c.fails = 0) : s.freqGo.flag MEM_STAT.FREQ_DEFERRED = true := by
  unfold State.freqGo
  dsimp only
  rw [hc]
  dsimp only
  rw [if_pos h]
  exact State.flag_put_one _ _ (by decide) rfl

/-- A change of rate that waits for nothing retunes PLL_M. -/
theorem State.freqGo_retuned {s : State} (h : ∀ c, s.mem.cur = some c → c.fails ≠ 0) : s.freqGo.retuned := by
  unfold State.freqGo
  dsimp only
  split
  next c hc =>
    rw [if_neg (h c hc)]
    exact State.retuned_memRetune _
  next => exact State.retuned_memRetune _

theorem freq_go (s : State) (src : Source) (v : Word) (ha : s.admits memRules src MEM_CMD.addr (v ||| 1)) (h1 : (v ||| 1).toNat.testBit 1 = false) :
    let y := s.landed MEM_CMD.addr (v ||| 1)
    y.freqConflict = false → (y.admitWith y.app { y.caps with memRate := y.memBudget (y.get MEM_FREQ.RATE) }).1 = none →
    Completes (.freqGo src v) s (fun t => t.okAnswer ∧
      ((∃ c, s.mem.cur = some c ∧ c.fails = 0) → t.flag MEM_STAT.FREQ_DEFERRED = true)
      ∧ ((∀ c, s.mem.cur = some c → c.fails ≠ 0) → t.retuned)) := by
  intro y hconf hadm
  have h0 : (v ||| 1).toNat.testBit 0 = true := testBit_or_right v 1 (by decide)
  let x := (y.admitWith y.app { y.caps with memRate := y.memBudget (y.get MEM_FREQ.RATE) }).2
  have hmem : x.mem = s.mem :=
    ((Kept.admitWith (.refl _ y) (Foot.le_refl _) y.app { y.caps with memRate := y.memBudget (y.get MEM_FREQ.RATE) }).part_of .mem rfl).trans
      (State.setWord_mem _ _ _)
  have hcur : x.mem.cur = s.mem.cur := congrArg MemSt.cur hmem
  have hk := Kept.settleCaps (.refl _ x.freqGo) (Foot.le_refl _) y
  refine .of_write rfl ha (by decide) (by decide) (t := x.freqGo.settleCaps y) ?_ ⟨State.answer_ok _, fun ⟨c, hc, hf⟩ => ?_, fun h => ?_⟩
  · simp only [memRules, beq_self_eq_true, h0, h1, Bool.false_and, Bool.false_eq_true, if_false, if_true]
    rw [show (s.landed MEM_CMD.addr (v ||| 1)).freqConflict = false from hconf, if_neg Bool.false_ne_true]
    rw [show ((s.landed MEM_CMD.addr (v ||| 1)).admitWith _ _).1 = none from hadm]
  · exact (State.answer_flag _ _ _ _).trans ((hk.flag_of rfl).trans (State.freqGo_deferred (hcur.trans hc) hf))
  · have hx : x.freqGo.retuned := State.freqGo_retuned (fun c hc => h c (hcur.symm.trans hc))
    exact (hx.kept hk rfl rfl rfl).answer

/-- Settles O40: an account of each command. -/
theorem memoryTrainingCommandsComplete : Obligations.MemoryTrainingCommandsComplete :=
  ⟨temp_read, retrain_interval, mem_train, train_step, train_retry, training_done, freq_go⟩

end Sys2Proof.Machine
end

section
/-! PROOFS. The upkeep of the GDDR6 memory (R440, R447 to R451). -/

namespace Sys2Proof.Machine

theorem mem_refresh (s : State) (ch bank : Fin 16) (c0 : Bool) (hr : s.memReady = true) (hch : ch.val < s.memNc) :
    Completes (.refresh ch bank c0) s (fun t =>
      t.mem.postponed = (if c0 = true ∧ (s.mem.postponed.filter (fun x => x.1 == ch.val)).length < 8 then s.mem.postponed ++ [(ch.val, bank.val)]
        else s.mem.postponed.filter (fun x => ! (x.1 == ch.val && x.2 == bank.val)))) := by
  have hgo : (s.memReady && decide (ch.val < s.memNc)) = true := by rw [hr, decide_eq_true hch]; rfl
  refine ⟨_, congrArg Host.Outcome.next (if_pos hgo), ?_⟩
  by_cases h : c0 = true ∧ (s.mem.postponed.filter (fun x => x.1 == ch.val)).length < 8
  · rw [if_pos h, if_pos (by rw [h.1, decide_eq_true h.2]; rfl)]
  · rw [if_neg h, if_neg (fun e => h ?_)]
    rw [Bool.and_eq_true, decide_eq_true_iff] at e
    exact e

/-! ### Activations (R447, R448) -/

/-- The window, the counts and the throttles of the row counters. -/
def State.rowCounters (s : State) (w : Nat) (acts : List (MemRow × Nat)) (throttle : List (Nat × Nat × Nat)) : State :=
  { s with mem := { s.mem with window := w, acts := acts, throttle := throttle } }

/-- The registers of a row at its threshold. -/
def State.rowShown (s : State) (ch : Nat) (req : BitVec 6) (r : MemRow) : State :=
  ((s.setWord MEM_RD_STAT.addr (BitVec.ofNat 32 (req.toNat * 2 ^ 26 + r.word))).put MEM_STAT.ROW_HOT 1).bump (MEM_C_CNT.ROW_HOTS (ch / 2))

theorem State.rowShown_fields (s : State) (ch : Nat) (req : BitVec 6) (r : MemRow) : (s.rowShown ch req r).mem = s.mem
    ∧ (s.rowShown ch req r).flag MEM_STAT.ROW_HOT = true
    ∧ (s.rowShown ch req r).word MEM_RD_STAT.addr = BitVec.ofNat 32 (req.toNat * 2 ^ 26 + r.word) := by
  have hne : MEM_STAT.addr ≠ MEM_C_CNT.addr (ch / 2) ∧ MEM_RD_STAT.addr ≠ MEM_C_CNT.addr (ch / 2) := by
    unfold MEM_STAT.addr MEM_RD_STAT.addr MEM_C_CNT.addr; omega
  have hbump (z : State) : (z.bump (MEM_C_CNT.ROW_HOTS (ch / 2))).flag MEM_STAT.ROW_HOT = z.flag MEM_STAT.ROW_HOT
      ∧ (z.bump (MEM_C_CNT.ROW_HOTS (ch / 2))).word MEM_RD_STAT.addr = z.word MEM_RD_STAT.addr := by
    unfold State.bump
    split
    · exact ⟨State.flag_eq_get (State.get_put_reg z _ _ _ hne.1), State.word_put_ne z _ _ hne.2⟩
    · exact ⟨rfl, rfl⟩
  unfold State.rowShown
  exact ⟨by rw [State.bump_mem, State.put_mem, State.setWord_mem], (hbump _).1.trans (State.flag_put_one _ _ (by decide) rfl),
    (hbump _).2.trans ((State.word_put_ne _ _ _ (by decide)).trans (State.word_setWord_same _ _ _))⟩

/-- The report of a row at its threshold. -/
def State.rowHot (s : State) (ch bank : Fin 16) (req : BitVec 6) (r : MemRow) : State :=
  (s.rowShown ch req r).fltInfo 0x1D req.toNat 0x14 (memLoc ch bank) ((s.rowShown ch req r).word MEM_RD_STAT.addr).toNat

theorem State.rowHot_fields (s : State) (ch bank : Fin 16) (req : BitVec 6) (r : MemRow) : (s.rowHot ch bank req r).mem = s.mem
    ∧ (s.rowHot ch bank req r).flag MEM_STAT.ROW_HOT = true
    ∧ (s.rowHot ch bank req r).word MEM_RD_STAT.addr = BitVec.ofNat 32 (req.toNat * 2 ^ 26 + r.word) := by
  obtain ⟨h1, h2, h3⟩ := s.rowShown_fields ch req r
  unfold State.rowHot
  generalize s.rowShown ch req r = y at h1 h2 h3
  have hk := Kept.fltInfo (.refl _ y) (Foot.le_refl _) 0x1D req.toNat 0x14 (memLoc ch bank) (y.word MEM_RD_STAT.addr).toNat
  exact ⟨(hk.part_of .mem rfl).trans h1, (hk.flag_of (g := MEM_STAT.ROW_HOT) rfl).trans h2, (hk.word_of (a := MEM_RD_STAT.addr) rfl).trans h3⟩

theorem row_activate (s : State) (ch bank : Fin 16) (row : BitVec 15) (req : BitVec 6) (hr : s.memReady = true) (hch : ch.val < s.memNc) :
    let r : MemRow := ⟨ch, bank, row.toNat⟩
    let acts := if s.now.toNat * 1000 / (32 * 2 ^ 40) = s.mem.window then s.mem.acts else []
    let n := ((acts.find? (fun x => x.1 == r)).map (·.2)).getD 0 + 1
    (n < s.app MEM_RD_CFG.THRESH → Completes (.rowActivate ch bank row req) s (fun t => t.mem.acts.head? = some (r, n) ∧ t.regs = s.regs))
    ∧ (s.app MEM_RD_CFG.THRESH ≤ n → Completes (.rowActivate ch bank row req) s (fun t => (ch.val, bank.val, req.toNat) ∈ t.mem.throttle
      ∧ t.flag MEM_STAT.ROW_HOT = true ∧ t.word MEM_RD_STAT.addr = BitVec.ofNat 32 (req.toNat * 2 ^ 26 + r.word)
      ∧ (∀ x ∈ t.mem.acts, x.1 ≠ r))) := by
  intro r acts n
  let w := s.now.toNat * 1000 / (32 * 2 ^ 40)
  let rest := acts.filter (fun x => x.1 != r)
  have hgo : ¬ (! s.memReady || decide (s.memNc ≤ ch.val)) = true := by
    rw [hr, decide_eq_false (Nat.not_le.mpr hch)]
    exact Bool.false_ne_true
  have he : exec (.rowActivate ch bank row req) s = .next (if n < s.app MEM_RD_CFG.THRESH then s.rowCounters w ((r, n) :: rest) s.mem.throttle
      else (s.rowCounters w rest ((ch.val, bank.val, req.toNat) :: s.mem.throttle.filter (· != (ch.val, bank.val, req.toNat)))).rowHot ch bank req r) :=
    congrArg Host.Outcome.next (if_neg hgo)
  constructor
  · intro hn
    rw [if_pos hn] at he
    exact ⟨_, he, rfl, rfl⟩
  · intro hn
    rw [if_neg (Nat.not_lt.mpr hn)] at he
    obtain ⟨h1, h2, h3⟩ :=
      (s.rowCounters w rest ((ch.val, bank.val, req.toNat) :: s.mem.throttle.filter (· != (ch.val, bank.val, req.toNat)))).rowHot_fields ch bank req r
    refine ⟨_, he, ?_, h2, h3, ?_⟩
    · rw [h1]
      exact List.mem_cons_self
    · rw [h1]
      exact fun x hx => bne_iff_ne.mp (List.mem_filter.mp hx).2

theorem throttle_end (s : State) (ch bank : Fin 16) (req : BitVec 6) : Completes (.throttleEnd ch bank req) s (fun t =>
    ∀ x, x ∈ t.mem.throttle ↔ x ∈ s.mem.throttle ∧ x ≠ (ch.val, bank.val, req.toNat)) := by
  refine ⟨_, rfl, fun x => ?_⟩
  rw [List.mem_filter, bne_iff_ne]

/-! ### Patrol and spares (R449 to R451) -/

/-- The corrections remembered. -/
def State.corrected (s : State) (l : List (MemRow × Stamp)) : State := { s with mem := { s.mem with corr := l } }

theorem State.get_corrected (s : State) (l : List (MemRow × Stamp)) (f : Fld) : (s.corrected l).get f = s.get f := rfl

/-- Word w remembered as uncorrectable. -/
def State.uncorrectable (s : State) (w : Nat) : State :=
  { s with mem := { s.mem with ue := if s.mem.ue.contains w then s.mem.ue else w :: s.mem.ue } }

/-- The due rows and the spares in use. -/
def State.redirected (s : State) (due : List MemRow) (spares : List (Nat × Nat × Nat)) : State :=
  { s with mem := { s.mem with due := due, spares := spares } }

/-- A row that falls due leaves the counters of the memory, its uncorrectable words and its report. -/
theorem State.rowDue_keeps (s : State) (r : MemRow) : (∀ f : Fld, f.addr / 0x10000 = 0x14 → MEM_STAT.SPARE_EXH.clear f = true → (s.rowDue r).get f = s.get f)
    ∧ (s.rowDue r).word MEM_ERR_ROW.addr = s.word MEM_ERR_ROW.addr ∧ (s.rowDue r).mem.ue = s.mem.ue := by
  unfold State.rowDue
  split
  · exact ⟨fun _ _ _ => rfl, rfl, rfl⟩
  · dsimp only
    split
    · exact ⟨fun _ _ _ => rfl, rfl, rfl⟩
    · have hk := Kept.fltRec (.refl _ (s.put MEM_STAT.SPARE_EXH 1)) (Foot.le_refl _) 7 0x1F 0 0x14 (memLoc r.ch r.bank) (r.ch * 2 ^ 20 + r.bank * 2 ^ 16)
      refine ⟨fun f hf hc => (hk.get_of (Foot.word_of_win hf rfl)).trans (State.get_put_clear s _ _ _ hc),
        (hk.word_of (a := MEM_ERR_ROW.addr) rfl).trans (State.word_put_ne s _ _ (by decide)), ?_⟩
      rw [hk.part_of .mem rfl]
      rfl

/-- An uncorrectable word counts, sets UE and is reported. -/
theorem State.memUe_fields (s : State) (u : Nat) : (s.memUe u).mem.ue = s.mem.ue ∧ (s.memUe u).flag MEM_STAT.UE = true
    ∧ (s.memUe u).get MEM_CNT.UE_COUNT = min (s.get MEM_CNT.UE_COUNT + 1) 65535
    ∧ (s.memUe u).word MEM_ERR_ROW.addr = BitVec.ofNat 32 (s.memPlace u).word := by
  let r := s.memPlace u
  let y := ((s.bump MEM_CNT.UE_COUNT).put MEM_STAT.UE 1).setWord MEM_ERR_ROW.addr (BitVec.ofNat 32 r.word)
  have hk := Kept.fltInfo (.refl _ y) (Foot.le_refl _) 0x1C 0 0x14 (memLoc r.ch r.bank) r.word
  obtain ⟨h1, h2, h3⟩ := (y.fltInfo 0x1C 0 0x14 (memLoc r.ch r.bank) r.word).rowDue_keeps r
  refine ⟨h3.trans ?_, (State.flag_eq_get (h1 _ rfl rfl)).trans ((hk.flag_of (g := MEM_STAT.UE) rfl).trans ?_),
    (h1 _ rfl rfl).trans ((hk.get_of (g := MEM_CNT.UE_COUNT) rfl).trans ?_), h2.trans ((hk.word_of (a := MEM_ERR_ROW.addr) rfl).trans (State.word_setWord_same _ _ _))⟩
  · rw [hk.part_of .mem rfl, State.setWord_mem, State.put_mem, State.bump_mem]
  · exact (State.flag_eq_get (State.get_setWord_ne _ _ _ _ (by decide))).trans (State.flag_put_one _ _ (by decide) rfl)
  · exact (State.get_setWord_ne _ _ _ _ (by decide)).trans ((State.get_put_clear _ _ _ _ rfl).trans (State.get_bump_min s _ (by decide)))

theorem patrol_scrub (s : State) (w : Nat) (hr : s.memReady = true) (hw : w * 64 < s.usableBytes) :
    (s.mem.ue.contains w = false → Completes (.patrolScrub w 0) s (fun t => t = s))
    ∧ (s.mem.ue.contains w = false → Completes (.patrolScrub w 1) s (fun t => t.get MEM_CNT.CE_COUNT = min (s.get MEM_CNT.CE_COUNT + 1) 65535))
    ∧ Completes (.patrolScrub w 2) s (fun t => w ∈ t.mem.ue ∧ t.flag MEM_STAT.UE = true ∧ t.get MEM_CNT.UE_COUNT = min (s.get MEM_CNT.UE_COUNT + 1) 65535
      ∧ t.word MEM_ERR_ROW.addr = BitVec.ofNat 32 (s.memPlace w).word) := by
  have hgo : ¬ (! s.memReady || decide (s.usableBytes ≤ w * 64)) = true := by
    rw [hr, decide_eq_false (Nat.not_le.mpr hw)]
    exact Bool.false_ne_true
  refine ⟨fun hu => ⟨s, ?_, rfl⟩, fun hu => ?_, ?_⟩
  · refine congrArg Host.Outcome.next ((if_neg hgo).trans ?_)
    rw [hu]
    rfl
  · let r := s.memPlace w
    let y := s.bump MEM_CNT.CE_COUNT
    let day : Nat := 86400 * 2 ^ 40
    let kept := (r, y.now) :: y.mem.corr.filter (fun x => decide (y.now.toNat - x.2.toNat < day))
    have he : exec (.patrolScrub w 1) s = .next (if y.app MEM_SCRUB.CE_THRESH ≤ (kept.filter (fun x => x.1 == r)).length
        then (y.corrected (kept.filter (fun x => x.1 != r))).rowDue r else y.corrected kept) := by
      refine congrArg Host.Outcome.next ((if_neg hgo).trans ?_)
      rw [hu]
      rfl
    have hy : y.get MEM_CNT.CE_COUNT = min (s.get MEM_CNT.CE_COUNT + 1) 65535 := State.get_bump_min s _ (by decide)
    refine ⟨_, he, ?_⟩
    split
    · exact ((State.rowDue_keeps _ r).1 _ rfl rfl).trans ((State.get_corrected _ _ _).trans hy)
    · exact (State.get_corrected _ _ _).trans hy
  · have he : exec (.patrolScrub w 2) s = .next ((s.uncorrectable w).memUe w) := congrArg Host.Outcome.next (if_neg hgo)
    obtain ⟨h1, h2, h3, h4⟩ := (s.uncorrectable w).memUe_fields w
    refine ⟨_, he, ?_, h2, h3, h4⟩
    rw [h1]
    unfold State.uncorrectable
    dsimp only
    split
    next h => exact List.contains_iff_mem.mp h
    next => exact List.mem_cons_self

theorem row_spare (s : State) (ch bank : Fin 16) (row : BitVec 15) (hr : s.memReady = true) (hd : s.mem.due.contains ⟨ch, bank, row.toNat⟩ = true) :
    Completes (.rowSpareDone ch bank row) s (fun t => t.mem.due = s.mem.due.erase ⟨ch, bank, row.toNat⟩ ∧ t.flag MEM_STAT.SPARED = true
      ∧ t.get (MEM_C_STAT.SPARES (ch / 2)) = min (s.get (MEM_C_STAT.SPARES (ch / 2)) + 1) 1023) := by
  let r : MemRow := ⟨ch, bank, row.toNat⟩
  let used := ((s.mem.spares.find? (fun x => x.1 == r.ch && x.2.1 == r.bank)).map (·.2.2)).getD 0
  let y := s.redirected (s.mem.due.erase r) ((r.ch, r.bank, used + 1) :: s.mem.spares.filter (fun x => ! (x.1 == r.ch && x.2.1 == r.bank)))
  let z := (y.bump (MEM_C_STAT.SPARES (ch / 2))).put MEM_STAT.SPARED 1
  have hgo : (s.memReady && s.mem.due.contains r) = true := by rw [hr, hd]; rfl
  have he : exec (.rowSpareDone ch bank row) s = .next (z.fltInfo 0x1E 0 0x14 (memLoc ch bank) r.word) := congrArg Host.Outcome.next (if_pos hgo)
  have hk := Kept.fltInfo (.refl _ z) (Foot.le_refl _) 0x1E 0 0x14 (memLoc ch bank) r.word
  have hne : MEM_C_STAT.addr (ch / 2) ≠ MEM_STAT.addr := by unfold MEM_STAT.addr MEM_C_STAT.addr; omega
  refine ⟨_, he, ?_, (hk.flag_of (g := MEM_STAT.SPARED) rfl).trans (State.flag_put_one _ _ (by decide) rfl),
    (hk.get_of (g := MEM_C_STAT.SPARES (ch / 2)) (Foot.word_of_win (MEM_C_STAT.addr_win _) rfl)).trans
      ((State.get_put_reg _ _ _ _ hne).trans (State.get_bump_min y _ (by show 0 + 10 ≤ 32; decide)))⟩
  rw [hk.part_of .mem rfl, State.put_mem, State.bump_mem]
  rfl

/-- Settles O41: an account of each command. -/
theorem memoryUpkeepCommandsComplete : Obligations.MemoryUpkeepCommandsComplete :=
  ⟨mem_refresh, row_activate, throttle_end, patrol_scrub, row_spare⟩

end Sys2Proof.Machine
end

section
/-! PROOFS. The slots of the monitor ADCs (R455 to R463, R465). -/

namespace Sys2Proof.Machine

/-! ### What a slot leaves -/

theorem AUX_MON_RES.page (e : Nat) : AUX_MON_RES.addr e / 0x100 = 0x1702 := by unfold AUX_MON_RES.addr; omega

theorem State.word_adcAfter (s : State) (a : Fin 2) (ovr : Bool) {w : Nat} (h : w ≠ AUX_STAT.addr) : (s.adcAfter a ovr).word w = s.word w := by
  have hput (x : State) (g : Fld) (hg : g.addr = AUX_STAT.addr) : (x.put g 1).word w = x.word w := State.word_put_ne x g 1 (by rw [hg]; exact h)
  unfold State.adcAfter
  dsimp only
  split
  · refine (hput _ _ ?_).trans rfl
    split <;> rfl
  · rfl

theorem State.get_adcAfter (s : State) (a : Fin 2) (ovr : Bool) {f : Fld} (h : f.addr ≠ AUX_STAT.addr) : (s.adcAfter a ovr).get f = s.get f :=
  congrArg (bitsOf · f.lo f.n) (s.word_adcAfter a ovr h)

/-- The parts of AUX after a conversion: the window of SUSPECT of its ADC alone has moved. -/
theorem State.aux_adcAfter (s : State) (a : Fin 2) (ovr : Bool) : (s.adcAfter a ovr).aux =
    { s.aux with suspect := vset s.aux.suspect a (if ovr then 2 else vget s.aux.suspect a - 1) } := by
  unfold State.adcAfter
  dsimp only
  split
  · exact State.put_aux _ _ _
  · rfl

/-- Both conversions of an ADC see registers CAL_GAIN and CAL_OFS alone. -/
theorem State.convert_congr {s t : State} (h : ∀ f : Fld, (∃ i, f = AUX_CAL_GAIN.GAIN i ∨ f = AUX_CAL_OFS.OFS i) → t.get f = s.get f) (a i raw : Nat) :
    t.convert a i raw = s.convert a i raw := by
  have hv : t.calValue a i raw = s.calValue a i raw := by
    unfold State.calValue
    rw [h _ ⟨_, .inl rfl⟩, h _ ⟨_, .inr rfl⟩]
  unfold State.convert
  rw [hv]

/-- A code fits its field. -/
theorem State.convert_lt (s : State) (a i raw : Nat) : (s.convert a i raw).1 < 2 ^ 16 := by
  unfold State.convert
  dsimp only
  split
  · dsimp only
    split <;> decide
  next h =>
    dsimp only
    omega

/-- The result of a slot in its register. -/
def State.monResult (s : State) (e : Nat) (sus : Bool) (x : Nat × Bool) : State :=
  ((((s.bumpWrap (AUX_MON_RES.COUNT e)).put (AUX_MON_RES.NEW e) 1).put (AUX_MON_RES.CODE e) x.1).putB (AUX_MON_RES.SUSPECT e) sus).putB (AUX_MON_RES.OVR e) x.2

/-- The sequence of ADC a moves on from position p. -/
def State.seqMoved (s : State) (a : Fin 2) (p : Nat) : State :=
  { s with aux := { s.aux with pos := vset s.aux.pos a ((p + 1) % (s.app (AUX_SEQ.LEN_M1 a) + 1)) } }

/-- What follows the result of a slot. -/
def State.slotAfter (s : State) (a : Fin 2) (p : Nat) (x : Nat × Bool) (sus : Bool) : State :=
  ((s.adcAfter a x.2).loopCollect a p x.1 (! x.2 && ! sus)).seqMoved a p

theorem State.seqSlot_eq (s : State) (a : Fin 2) (raw : Nat) (h : s.seqEn a = true) : s.seqSlot a raw =
    (s.monResult (a.val * 16 + vget s.aux.pos a) (s.suspectNow a) (s.convert a (s.app (AUX_SLOT.INPUT (a.val * 16 + vget s.aux.pos a))) raw)).slotAfter a
      (vget s.aux.pos a) (s.convert a (s.app (AUX_SLOT.INPUT (a.val * 16 + vget s.aux.pos a))) raw) (s.suspectNow a) :=
  if_neg (by rw [h]; decide)

/-- What follows a result leaves every register but AUX_STAT, and moves its own ADC on. -/
theorem State.slotAfter_keeps (s : State) (a : Fin 2) (p : Nat) (x : Nat × Bool) (sus : Bool) :
    (∀ f : Fld, f.addr ≠ AUX_STAT.addr → (s.slotAfter a p x sus).get f = s.get f)
    ∧ (s.slotAfter a p x sus).aux = { s.aux with
      suspect := vset s.aux.suspect a (if x.2 then 2 else vget s.aux.suspect a - 1), pos := vset s.aux.pos a ((p + 1) % (s.app (AUX_SEQ.LEN_M1 a) + 1)) } := by
  have hk := Kept.loopCollect (.refl _ (s.adcAfter a x.2)) (Foot.le_refl _) a p x.1 (! x.2 && ! sus)
  have happ : ((s.adcAfter a x.2).loopCollect a p x.1 (! x.2 && ! sus)).app (AUX_SEQ.LEN_M1 a) = s.app (AUX_SEQ.LEN_M1 a) :=
    (hk.app_of rfl).trans ((Kept.adcAfter (.refl _ s) (Foot.le_refl _) a x.2).app_of rfl)
  have hmoved (y : State) (f : Fld) : (y.seqMoved a p).get f = y.get f := rfl
  have haux (y : State) : (y.seqMoved a p).aux = { y.aux with pos := vset y.aux.pos a ((p + 1) % (y.app (AUX_SEQ.LEN_M1 a) + 1)) } := rfl
  unfold State.slotAfter
  refine ⟨fun f hf => (hmoved _ f).trans ((hk.get_of (g := f) rfl).trans (State.get_adcAfter s a x.2 hf)), ?_⟩
  rw [haux, happ, hk.part_of .aux rfl, State.aux_adcAfter]

/-- The fields of a result. -/
theorem State.monResult_fields (s : State) (e : Nat) (sus : Bool) (x : Nat × Bool) (hx : x.1 < 2 ^ 16) :
    (s.monResult e sus x).get (AUX_MON_RES.CODE e) = x.1 ∧ (s.monResult e sus x).flag (AUX_MON_RES.OVR e) = x.2
    ∧ (s.monResult e sus x).flag (AUX_MON_RES.NEW e) = true ∧ (s.monResult e sus x).flag (AUX_MON_RES.SUSPECT e) = sus := by
  have hovr (y : State) {f : Fld} (h : f.lo + f.n ≤ 16 ∨ 17 ≤ f.lo) : (y.putB (AUX_MON_RES.OVR e) x.2).get f = y.get f :=
    State.get_put_apart y _ _ _ (by show 16 + 1 ≤ 32; decide) (.inr (h.symm.imp id id))
  have hsus (y : State) {f : Fld} (h : f.lo + f.n ≤ 17 ∨ 18 ≤ f.lo) : (y.putB (AUX_MON_RES.SUSPECT e) sus).get f = y.get f :=
    State.get_put_apart y _ _ _ (by show 17 + 1 ≤ 32; decide) (.inr (h.symm.imp id id))
  have hcode (y : State) {f : Fld} (h : 16 ≤ f.lo) : (y.put (AUX_MON_RES.CODE e) x.1).get f = y.get f :=
    State.get_put_apart y _ _ _ (by show 0 + 16 ≤ 32; decide) (.inr (.inl h))
  unfold State.monResult
  refine ⟨?_, State.flag_putB _ _ (by show 16 + 1 ≤ 32; decide) rfl, ?_,
    (State.flag_eq_get (hovr _ (.inr (by show 17 ≤ 17; decide)))).trans (State.flag_putB _ _ (by show 17 + 1 ≤ 32; decide) rfl)⟩
  · rw [hovr _ (.inl (by show 0 + 16 ≤ 16; decide)), hsus _ (.inl (by show 0 + 16 ≤ 17; decide)), State.get_put_same _ _ _ (by show 0 + 16 ≤ 32; decide)]
    exact Nat.mod_eq_of_lt hx
  · exact (State.flag_eq_get ((hovr _ (.inr (by show 17 ≤ 18; decide))).trans ((hsus _ (.inr (by show 18 ≤ 18; decide))).trans
      (hcode _ (by show 16 ≤ 18; decide))))).trans (State.flag_put_one _ _ (by show 18 + 1 ≤ 32; decide) rfl)

/-- A result leaves every register outside its page and every other part of the state. -/
theorem State.monResult_keeps (s : State) (e : Nat) (sus : Bool) (x : Nat × Bool) :
    (∀ f : Fld, f.addr / 0x100 ≠ 0x1702 → (s.monResult e sus x).get f = s.get f) ∧ (s.monResult e sus x).aux = s.aux
    ∧ ∀ f : Fld, (s.monResult e sus x).app f = s.app f := by
  have hne {f : Fld} (h : f.addr / 0x100 ≠ 0x1702) : f.addr ≠ AUX_MON_RES.addr e := fun h' => h (h' ▸ AUX_MON_RES.page e)
  unfold State.monResult State.putB State.bumpWrap
  refine ⟨fun f hf => ?_, ?_, fun f => ?_⟩
  · rw [State.get_put_reg _ _ _ _ (hne hf), State.get_put_reg _ _ _ _ (hne hf), State.get_put_reg _ _ _ _ (hne hf), State.get_put_reg _ _ _ _ (hne hf),
      State.get_put_reg _ _ _ _ (hne hf)]
  · rw [State.put_aux, State.put_aux, State.put_aux, State.put_aux, State.put_aux]
  · rw [State.app_put, State.app_put, State.app_put, State.app_put, State.app_put]

/-- A slot of an ADC leaves the registers outside the results and AUX_STAT, and the sequence of the other ADC. -/
theorem State.seqSlot_keeps (s : State) (a : Fin 2) (raw : Nat) :
    (∀ f : Fld, f.addr / 0x100 ≠ 0x1702 → f.addr ≠ AUX_STAT.addr → (s.seqSlot a raw).get f = s.get f)
    ∧ ∀ b, b ≠ a → vget (s.seqSlot a raw).aux.pos b = vget s.aux.pos b ∧ vget (s.seqSlot a raw).aux.suspect b = vget s.aux.suspect b := by
  by_cases hen : s.seqEn a = true
  · rw [State.seqSlot_eq s a raw hen]
    generalize s.convert a _ raw = x
    obtain ⟨hg, ha, -⟩ := State.monResult_keeps s (a.val * 16 + vget s.aux.pos a) (s.suspectNow a) x
    generalize s.monResult _ _ x = y at hg ha
    obtain ⟨hg', ha'⟩ := y.slotAfter_keeps a (vget s.aux.pos a) x (s.suspectNow a)
    refine ⟨fun f h1 h2 => (hg' f h2).trans (hg f h1), fun b hb => ?_⟩
    rw [ha', ha]
    exact ⟨vget_vset_ne _ _ hb, vget_vset_ne _ _ hb⟩
  · have he : s.seqSlot a raw = s.adcAfter a false := if_pos (by rw [Bool.eq_false_iff.mpr hen]; rfl)
    rw [he]
    refine ⟨fun f _ h2 => State.get_adcAfter s a false h2, fun b hb => ?_⟩
    rw [State.aux_adcAfter]
    exact ⟨rfl, vget_vset_ne _ _ hb⟩

/-- The cross-check leaves the results of the slots and the positions. -/
theorem State.crossCheck_keeps (s : State) (p : Nat) : (∀ f : Fld, f.addr / 0x100 = 0x1702 → (s.crossCheck p).get f = s.get f)
    ∧ (s.crossCheck p).aux.pos = s.aux.pos := by
  have hput (x : State) (g : Fld) (v : Nat) (hg : g.addr = AUX_STAT.addr ∨ g.addr = AUX_XCHK_DIFF.addr) {f : Fld} (hf : f.addr / 0x100 = 0x1702) :
      (x.put g v).get f = x.get f := State.get_put_reg x g f v (fun h => by rcases hg with hg | hg <;> rw [h, hg] at hf <;> exact absurd hf (by decide))
  unfold State.crossCheck
  split
  · exact ⟨fun _ _ => rfl, rfl⟩
  · dsimp only
    have hdiff := State.put_aux s AUX_XCHK_DIFF.DIFF (ofSigned 17 ((s.get (AUX_MON_RES.CODE p) : Int) - s.get (AUX_MON_RES.CODE (16 + p))))
    have hpos := congrArg AuxSt.pos hdiff
    have hdiff' (f : Fld) (hf : f.addr / 0x100 = 0x1702) := hput s AUX_XCHK_DIFF.DIFF
      (ofSigned 17 ((s.get (AUX_MON_RES.CODE p) : Int) - s.get (AUX_MON_RES.CODE (16 + p)))) (.inr rfl) hf
    generalize s.put AUX_XCHK_DIFF.DIFF _ = y at hdiff hpos hdiff'
    split
    · exact ⟨hdiff', hpos⟩
    · split
      · split
        · refine ⟨fun f hf => ?_, ?_⟩
          · exact (Kept.get_of (Kept.fltInfo (.refl _ _) (Foot.le_refl _) _ _ _ _ _) (Foot.word_of_win (w := 0x17) (by omega) rfl)).trans
              ((hput _ _ 1 (.inl rfl) hf).trans (hdiff' f hf))
          · rw [Kept.part_of (Kept.fltInfo (.refl _ _) (Foot.le_refl _) _ _ _ _ _) .aux rfl, State.put_aux]
            exact hpos
        · exact ⟨hdiff', hpos⟩
      · exact ⟨hdiff', hpos⟩

/-- A slot of an ADC that runs its sequence: its result, and its next position. -/
theorem State.seqSlot_fields (s : State) (a : Fin 2) (raw : Nat) (h : s.seqEn a = true) :
    let e := a.val * 16 + vget s.aux.pos a
    let x := s.convert a (s.app (AUX_SLOT.INPUT e)) raw
    (s.seqSlot a raw).get (AUX_MON_RES.CODE e) = x.1 ∧ (s.seqSlot a raw).flag (AUX_MON_RES.OVR e) = x.2
    ∧ (s.seqSlot a raw).flag (AUX_MON_RES.NEW e) = true ∧ (s.seqSlot a raw).flag (AUX_MON_RES.SUSPECT e) = s.suspectNow a
    ∧ vget (s.seqSlot a raw).aux.pos a = (vget s.aux.pos a + 1) % (s.app (AUX_SEQ.LEN_M1 a) + 1) := by
  intro e x
  have hne : AUX_MON_RES.addr e ≠ AUX_STAT.addr := fun h => absurd (h ▸ AUX_MON_RES.page e) (by decide)
  have he : s.seqSlot a raw = (s.monResult e (s.suspectNow a) x).slotAfter a (vget s.aux.pos a) x (s.suspectNow a) := State.seqSlot_eq s a raw h
  rw [he]
  obtain ⟨hcode, hovr, hnew, hsus⟩ := s.monResult_fields e (s.suspectNow a) x (State.convert_lt _ _ _ _)
  obtain ⟨-, ha, happ⟩ := s.monResult_keeps e (s.suspectNow a) x
  generalize s.monResult e (s.suspectNow a) x = y at hcode hovr hnew hsus ha happ
  obtain ⟨hg, ha'⟩ := y.slotAfter_keeps a (vget s.aux.pos a) x (s.suspectNow a)
  refine ⟨(hg _ hne).trans hcode, (State.flag_eq_get (hg _ hne)).trans hovr, (State.flag_eq_get (hg _ hne)).trans hnew,
    (State.flag_eq_get (hg _ hne)).trans hsus, ?_⟩
  rw [ha', happ]
  exact vget_vset_same _ _ _

theorem mon_slot (s : State) (m : Bool) (r0 r1 : BitVec 16) (hl : s.live dAUX = true) (hi : s.aux.inj = 0) (hm : m = true → s.aux.cal = none ∧ s.aux.diag = none)
    (hen : s.seqEn 1 = true) :
    let e := 16 + vget s.aux.pos 1
    let x := s.convert 1 (s.app (AUX_SLOT.INPUT e)) r1.toNat
    Completes (.adcSlot m r0 r1) s (fun t => t.get (AUX_MON_RES.CODE e) = x.1 ∧ t.flag (AUX_MON_RES.OVR e) = x.2 ∧ t.flag (AUX_MON_RES.NEW e) = true
      ∧ t.flag (AUX_MON_RES.SUSPECT e) = s.suspectNow 1 ∧ vget t.aux.pos 1 = (vget s.aux.pos 1 + 1) % (s.app (AUX_SEQ.LEN_M1 1) + 1)) := by
  intro e x
  let y := (s.seqSlot 0 r0.toNat).seqSlot 1 r1.toNat
  have he : exec (.adcSlot m r0 r1) s = .next (if vget s.aux.pos 0 = vget s.aux.pos 1 then y.crossCheck (vget s.aux.pos 0) else y) := by
    cases m
    · simp only [exec, execAdcSlot, hl, hi, Bool.not_true, Bool.false_eq_true, ne_eq, not_true_eq_false, if_false, y]
    · obtain ⟨hc, hd⟩ := hm rfl
      simp only [exec, execAdcSlot, hl, hi, hc, hd, Bool.not_true, Bool.false_eq_true, ne_eq, not_true_eq_false, if_false, y]
  obtain ⟨hg, hpos⟩ := s.seqSlot_keeps 0 r0.toNat
  obtain ⟨hpos1, hsus1⟩ := hpos 1 (by decide)
  have hk := Kept.seqSlot (.refl _ s) (Foot.le_refl _) 0 r0.toNat
  have happ {f : Fld} (hf : Foot.app ⟨false, [0x17], [], [.aux, .srv]⟩ (f.addr / 0x10000) = false) : (s.seqSlot 0 r0.toNat).app f = s.app f := hk.app_of hf
  have hconv (i : Nat) : (s.seqSlot 0 r0.toNat).convert (1 : Fin 2) i r1.toNat = s.convert (1 : Fin 2) i r1.toNat := by
    refine State.convert_congr (fun f hf => ?_) _ _ _
    obtain ⟨k, rfl | rfl⟩ := hf
    · exact hg _ (by show AUX_CAL_GAIN.addr k / _ ≠ _; unfold AUX_CAL_GAIN.addr; omega) (by show AUX_CAL_GAIN.addr k ≠ 0x170304; unfold AUX_CAL_GAIN.addr; omega)
    · exact hg _ (by show AUX_CAL_OFS.addr k / _ ≠ _; unfold AUX_CAL_OFS.addr; omega) (by show AUX_CAL_OFS.addr k ≠ 0x170304; unfold AUX_CAL_OFS.addr; omega)
  have hen' : (s.seqSlot 0 r0.toNat).seqEn 1 = true := by
    rw [State.seqEn, State.appFlag, happ rfl]
    exact hen
  have hsn : (s.seqSlot 0 r0.toNat).suspectNow 1 = s.suspectNow 1 := by rw [State.suspectNow, hsus1]; rfl
  have hy := (s.seqSlot 0 r0.toNat).seqSlot_fields 1 r1.toNat hen'
  dsimp only at hy
  rw [hpos1, hconv, happ rfl, happ rfl, hsn] at hy
  obtain ⟨hcode, hovr, hnew, hsus, hp⟩ := hy
  refine ⟨_, he, ?_⟩
  split
  · obtain ⟨hc, hcp⟩ := y.crossCheck_keeps (vget s.aux.pos 0)
    exact ⟨(hc _ (AUX_MON_RES.page _)).trans hcode, (State.flag_eq_get (hc _ (AUX_MON_RES.page _))).trans hovr,
      (State.flag_eq_get (hc _ (AUX_MON_RES.page _))).trans hnew, (State.flag_eq_get (hc _ (AUX_MON_RES.page _))).trans hsus, by rw [hcp]; exact hp⟩
  · exact ⟨hcode, hovr, hnew, hsus, hp⟩

/-! ### The injected slot -/

/-- Where an injected conversion of ADC a leaves its stamp. -/
def injStamp (a : Fin 2) : Nat := if a.val = 0 then AUX_INJ_TS_A.addr else AUX_INJ_TS_B.addr

/-- The result of an injected conversion in its register. -/
def State.injResult (s : State) (a : Fin 2) (sus : Bool) (x : Nat × Bool) : State :=
  ((s.put (AUX_INJ_RES.CODE a) x.1).putB (AUX_INJ_RES.SUSPECT a) sus).putB (AUX_INJ_RES.OVR a) x.2

/-- An injected conversion. -/
def State.injTaken (s : State) (a : Fin 2) (sus : Bool) (x : Nat × Bool) : State :=
  ((s.injResult a sus x).putStamp (injStamp a) (s.injResult a sus x).now).adcAfter a x.2

/-- What ADC a does in an injected slot of the ADCs of m. -/
def State.injStep (s : State) (m : Nat) (raws : Fin 2 → Nat) (a : Fin 2) : State :=
  if m.testBit a.val then s.injTaken a (s.suspectNow a) (s.convert a (s.app (if a.val = 0 then AUX_INJ.INPUT0 else AUX_INJ.INPUT1)) (raws a))
  else s.adcAfter a false

/-- The injection is over. -/
def State.injOver (s : State) : State := { s with aux := { s.aux with inj := 0 } }

theorem State.injSlot_eq (s : State) (raws : Fin 2 → Nat) :
    s.injSlot raws = ((s.injStep s.aux.inj raws 0).injStep s.aux.inj raws 1).injOver.put AUX_STAT.INJ_BUSY 0 := rfl

/-- A register that an injected conversion of ADC a does not write. -/
def injApart (a : Fin 2) (w : Nat) : Prop := w ≠ AUX_STAT.addr ∧ w ≠ AUX_INJ_RES.addr a ∧ w ≠ injStamp a ∧ w ≠ injStamp a + 4 ∧ w ≠ injStamp a + 8

theorem State.injResult_keeps (s : State) (a : Fin 2) (sus : Bool) (x : Nat × Bool) :
    (∀ w, w ≠ AUX_INJ_RES.addr a → (s.injResult a sus x).word w = s.word w) ∧ (s.injResult a sus x).now = s.now
    ∧ (x.1 < 2 ^ 16 → (s.injResult a sus x).get (AUX_INJ_RES.CODE a) = x.1) := by
  unfold State.injResult State.putB
  refine ⟨fun w hw => ?_, ?_, fun hx => ?_⟩
  · rw [State.word_put_ne _ _ _ hw, State.word_put_ne _ _ _ hw, State.word_put_ne _ _ _ hw]
  · rw [State.now, State.now, State.put_alm, State.put_alm, State.put_alm]
  · rw [State.get_put_apart _ _ _ _ (by show 16 + 1 ≤ 32; decide) (.inr (.inr (by show 0 + 16 ≤ 16; decide))),
      State.get_put_apart _ _ _ _ (by show 17 + 1 ≤ 32; decide) (.inr (.inr (by show 0 + 16 ≤ 17; decide))), State.get_put_same _ _ _ (by show 0 + 16 ≤ 32; decide)]
    exact Nat.mod_eq_of_lt hx

theorem State.word_putStamp_ne (s : State) (a : Nat) (t : Stamp) {w : Nat} (h : w ≠ a) (h4 : w ≠ a + 4) (h8 : w ≠ a + 8) :
    (s.putStamp a t).word w = s.word w := by
  rw [State.putStamp, State.word_setWord_ne _ _ h8, State.word_setWord_ne _ _ h4, State.word_setWord_ne _ _ h]

/-- A stamp read depends on its three words. -/
theorem State.getStamp_congr {s t : State} {a : Nat} (h : t.word a = s.word a) (h4 : t.word (a + 4) = s.word (a + 4)) (h8 : t.word (a + 8) = s.word (a + 8)) :
    t.getStamp a = s.getStamp a := by
  rw [State.getStamp, State.getStamp, h, h4, h8]

/-- What follows a conversion leaves the time and the applied registers. -/
theorem State.adcAfter_keeps (s : State) (a : Fin 2) (b : Bool) : (s.adcAfter a b).alm = s.alm ∧ ∀ f, (s.adcAfter a b).app f = s.app f := by
  have hk := Kept.adcAfter (.refl _ s) (Foot.le_refl _) a b
  exact ⟨hk.part_of .alm rfl, fun f => hk.app_of rfl⟩

/-- An injected conversion leaves the registers apart from its own, the time and the applied registers. -/
theorem State.injTaken_keeps (s : State) (a : Fin 2) (sus : Bool) (x : Nat × Bool) :
    (∀ w, injApart a w → (s.injTaken a sus x).word w = s.word w) ∧ (s.injTaken a sus x).now = s.now ∧ ∀ f, (s.injTaken a sus x).app f = s.app f := by
  obtain ⟨hw, hnow, -⟩ := s.injResult_keeps a sus x
  have happ (f : Fld) : (s.injResult a sus x).app f = s.app f := by
    unfold State.injResult State.putB
    rw [State.app_put, State.app_put, State.app_put]
  unfold State.injTaken
  generalize s.injResult a sus x = y at hw hnow happ
  obtain ⟨halm, happ'⟩ := (y.putStamp (injStamp a) y.now).adcAfter_keeps a x.2
  refine ⟨fun w ⟨h1, h2, h3, h4, h5⟩ => ?_, ?_, fun f => ?_⟩
  · exact (State.word_adcAfter _ _ _ h1).trans ((State.word_putStamp_ne _ _ _ h3 h4 h5).trans (hw w h2))
  · rw [State.now, halm, State.putStamp_alm]
    exact hnow
  · exact (happ' f).trans ((State.app_of_applied (State.putStamp_applied _ _ _) f).trans (happ f))

/-- What the step of ADC a in an injected slot leaves. -/
theorem State.injStep_keeps (s : State) (m : Nat) (raws : Fin 2 → Nat) (a : Fin 2) :
    (∀ w, injApart a w → (s.injStep m raws a).word w = s.word w) ∧ (s.injStep m raws a).now = s.now ∧ ∀ f, (s.injStep m raws a).app f = s.app f := by
  unfold State.injStep
  split
  · exact s.injTaken_keeps a _ _
  · obtain ⟨halm, happ⟩ := s.adcAfter_keeps a false
    exact ⟨fun w h => State.word_adcAfter s a false h.1, by rw [State.now, State.now, halm], happ⟩

/-- The result of an ADC that the injection names. -/
theorem State.injStep_fields (s : State) (m : Nat) (raws : Fin 2 → Nat) (a : Fin 2) (h : m.testBit a.val = true) :
    (s.injStep m raws a).get (AUX_INJ_RES.CODE a) = (s.convert a (s.app (if a.val = 0 then AUX_INJ.INPUT0 else AUX_INJ.INPUT1)) (raws a)).1
    ∧ (s.injStep m raws a).getStamp (injStamp a) = s.now := by
  have hapart : ∀ a : Fin 2, AUX_INJ_RES.addr a ≠ AUX_STAT.addr ∧ injStamp a ≠ AUX_STAT.addr ∧ injStamp a + 4 ≠ AUX_STAT.addr ∧ injStamp a + 8 ≠ AUX_STAT.addr
    ∧ AUX_INJ_RES.addr a ≠ injStamp a ∧ AUX_INJ_RES.addr a ≠ injStamp a + 4 ∧ AUX_INJ_RES.addr a ≠ injStamp a + 8 := by decide +kernel
  obtain ⟨h1, h2, h3, h4, h5, h6, h7⟩ := hapart a
  have he : s.injStep m raws a = s.injTaken a (s.suspectNow a) (s.convert a (s.app (if a.val = 0 then AUX_INJ.INPUT0 else AUX_INJ.INPUT1)) (raws a)) := if_pos h
  have hx := State.convert_lt s a (s.app (if a.val = 0 then AUX_INJ.INPUT0 else AUX_INJ.INPUT1)) (raws a)
  rw [he]
  generalize s.convert a _ (raws a) = x at hx
  obtain ⟨-, hnow, hcode⟩ := s.injResult_keeps a (s.suspectNow a) x
  unfold State.injTaken
  generalize s.injResult a (s.suspectNow a) x = y at hnow hcode
  constructor
  · exact (State.get_adcAfter _ _ _ h1).trans ((State.get_putStamp_apart _ _ _ h5 h6 h7).trans (hcode hx))
  · exact (State.getStamp_congr (State.word_adcAfter _ _ _ h2) (State.word_adcAfter _ _ _ h3) (State.word_adcAfter _ _ _ h4)).trans
      ((State.getStamp_putStamp _ _ _).trans hnow)

theorem inj_slot (s : State) (m : Bool) (r0 r1 : BitVec 16) (hl : s.live dAUX = true) (hi : s.aux.inj ≠ 0) : Completes (.adcSlot m r0 r1) s (fun t =>
    t.aux.inj = 0 ∧ t.flag AUX_STAT.INJ_BUSY = false
    ∧ (s.aux.inj.testBit 0 = true → t.get (AUX_INJ_RES.CODE 0) = (s.convert 0 (s.app AUX_INJ.INPUT0) r0.toNat).1 ∧ t.getStamp AUX_INJ_TS_A.addr = s.now)
    ∧ (s.aux.inj.testBit 1 = true → t.get (AUX_INJ_RES.CODE 1) = (s.convert 1 (s.app AUX_INJ.INPUT1) r1.toNat).1 ∧ t.getStamp AUX_INJ_TS_B.addr = s.now)) := by
  let raws : Fin 2 → Nat := fun a => if a.val = 0 then r0.toNat else r1.toNat
  have he : exec (.adcSlot m r0 r1) s = .next (((s.injStep s.aux.inj raws 0).injStep s.aux.inj raws 1).injOver.put AUX_STAT.INJ_BUSY 0) := by
    rw [← State.injSlot_eq]
    exact congrArg Host.Outcome.next ((if_neg (by rw [hl]; decide)).trans (if_pos hi))
  obtain ⟨hw0, hnow0, happ0⟩ := s.injStep_keeps s.aux.inj raws 0
  have hf0 := s.injStep_fields s.aux.inj raws 0
  generalize s.injStep s.aux.inj raws 0 = y at he hw0 hnow0 happ0 hf0
  obtain ⟨hw1, -, -⟩ := y.injStep_keeps s.aux.inj raws 1
  have hf1 := y.injStep_fields s.aux.inj raws 1
  generalize y.injStep s.aux.inj raws 1 = z at he hw1 hf1
  have hover (w : Nat) (h : w ≠ AUX_STAT.addr) : (z.injOver.put AUX_STAT.INJ_BUSY 0).word w = z.word w := (State.word_put_ne _ _ _ h).trans rfl
  have hconv (raw i : Nat) : y.convert 1 i raw = s.convert 1 i raw := by
    refine State.convert_congr (fun f hf => congrArg (bitsOf · f.lo f.n) (hw0 _ ?_)) _ _ _
    have hfar {w : Nat} (h : 0x170500 ≤ w) : injApart 0 w := ⟨ne_of_gt (lt_of_lt_of_le (by decide) h), ne_of_gt (lt_of_lt_of_le (by decide) h),
      ne_of_gt (lt_of_lt_of_le (by decide) h), ne_of_gt (lt_of_lt_of_le (by decide) h), ne_of_gt (lt_of_lt_of_le (by decide) h)⟩
    obtain ⟨k, rfl | rfl⟩ := hf
    · exact hfar (Nat.le_add_right _ _)
    · exact hfar (le_trans (by decide) (Nat.le_add_right 0x170580 _))
  refine ⟨_, he, ?_, State.flag_put_zero _ _ (by decide), fun h => ?_, fun h => ?_⟩
  · rw [State.put_aux]
    rfl
  · obtain ⟨hcode, hts⟩ := hf0 h
    constructor
    · exact (congrArg (bitsOf · 0 16) ((hover _ (by decide)).trans (hw1 _ (by unfold injApart; decide)))).trans hcode
    · exact (State.getStamp_congr ((hover _ (by decide)).trans (hw1 _ (by unfold injApart; decide)))
        ((hover _ (by decide)).trans (hw1 _ (by unfold injApart; decide))) ((hover _ (by decide)).trans (hw1 _ (by unfold injApart; decide)))).trans hts
  · obtain ⟨hcode, hts⟩ := hf1 h
    constructor
    · exact (congrArg (bitsOf · 0 16) (hover _ (by decide))).trans (hcode.trans (by rw [happ0]; exact congrArg Prod.fst (hconv _ _)))
    · exact (State.getStamp_congr (hover _ (by decide)) (hover _ (by decide)) (hover _ (by decide))).trans (hts.trans hnow0)

theorem cal_slot (s : State) (c : CalRun) (r0 r1 : BitVec 16) (hl : s.live dAUX = true) (hi : s.aux.inj = 0) (hc : s.aux.cal = some c) (hleft : c.left ≠ 0) :
    let raw := if c.adc % 2 = 0 then r0.toNat else r1.toNat
    (s.convert (Fin.ofNat 2 c.adc) c.input raw).2 = false → s.suspectNow (Fin.ofNat 2 c.adc) = false →
    Completes (.adcSlot true r0 r1) s (fun t => t.aux.cal = some { c with left := c.left - 1, taken := c.taken + 1, sum := c.sum + raw }) := by
  intro raw hconv hsus
  let raws : Fin 2 → Nat := fun a => if a.val = 0 then r0.toNat else r1.toNat
  have he : exec (.adcSlot true r0 r1) s = .next (s.calSlot c raws) := by
    simp only [exec, execAdcSlot, hl, hi, hc, Bool.not_true, Bool.false_eq_true, ne_eq, not_true_eq_false, if_false, raws]
  have hstop : ¬ (s.suspectNow (Fin.ofNat 2 c.adc) || c.left == 0) = true := by
    rw [hsus, beq_false_of_ne hleft]
    decide
  have hovr : ¬ (s.convert (Fin.ofNat 2 c.adc) c.input (raws (Fin.ofNat 2 c.adc))).2 = true := by
    intro h
    exact absurd (h.symm.trans hconv) (by decide)
  refine ⟨_, he, ?_⟩
  unfold State.calSlot
  dsimp only
  rw [if_neg hovr, if_neg hstop]
  rfl

end Sys2Proof.Machine
end

section
/-! PROOFS. Injection, calibration, diagnosis, PWM outputs and SPI masters (R460 to R466, R473, R475). -/

namespace Sys2Proof.Machine

/-! ### AUX_CMD (R462, R465) -/

/-- The action of AUX_CMD, as the three bits that are written ask. -/
theorem auxRules_act_cmd (src : Source) (w : Word) (s : State) : auxRules.act src AUX_CMD.addr w s =
    (if w.toNat.testBit 1 then s.calGo src else .ok s).bind (fun s => (if w.toNat.testBit 2 then s.calApply else .ok s).bind (fun s =>
      .ok (if w.toNat.testBit 0 then s.injRequest else s))) := by
  have hcmd : (AUX_CMD.addr == AUX_CMD.addr) = true := rfl
  simp only [auxRules, hcmd, if_true]
  cases (if w.toNat.testBit 1 then s.calGo src else .ok s) with
  | error e => rfl
  | ok s' => cases h : (if w.toNat.testBit 2 then s'.calApply else .ok s') <;> simp only [Except.bind, h]

theorem State.injRequest_fields (s : State) : let m := s.app AUX_INJ.ADC_MASK
    s.injRequest.aux.inj = (if s.aux.inj &&& m = 0 then s.aux.inj ||| m else s.aux.inj)
    ∧ (m ≠ 0 → s.aux.inj &&& m = 0 → s.injRequest.flag AUX_STAT.INJ_BUSY = true)
    ∧ (s.aux.inj &&& m ≠ 0 → s.injRequest.get AUX_INJ_CNT.MERGED = min (s.get AUX_INJ_CNT.MERGED + 1) 65535) := by
  intro m
  by_cases hm : m = 0
  · have he : s.injRequest = s := if_pos hm
    rw [he, hm]
    exact ⟨by rw [Nat.and_zero, if_pos rfl, Nat.or_zero], fun h => absurd rfl h, fun h => absurd (Nat.and_zero _) h⟩
  by_cases hi : s.aux.inj &&& m = 0
  · have he : s.injRequest = ({ s with aux := { s.aux with inj := s.aux.inj ||| m } } : State).put AUX_STAT.INJ_BUSY 1 :=
      (if_neg hm).trans (if_neg (not_not_intro hi))
    rw [he, if_pos hi]
    exact ⟨congrArg AuxSt.inj (State.put_aux _ _ _), fun _ _ => State.flag_put_one _ _ (by decide) rfl, fun h => absurd hi h⟩
  · have he : s.injRequest = s.bump AUX_INJ_CNT.MERGED := (if_neg hm).trans (if_pos hi)
    rw [he, if_neg hi]
    exact ⟨congrArg AuxSt.inj (State.bump_aux _ _), fun _ h => absurd h hi, fun _ => State.get_bump_min _ _ (by decide)⟩

theorem aux_inj (s : State) (src : Source) (v : Word) (ha : s.admits auxRules src AUX_CMD.addr (v ||| 1)) (h1 : (v ||| 1).toNat.testBit 1 = false)
    (h2 : (v ||| 1).toNat.testBit 2 = false) :
    let m := s.app AUX_INJ.ADC_MASK
    Completes (.inj src v) s (fun t => t.okAnswer ∧ t.aux.inj = (if s.aux.inj &&& m = 0 then s.aux.inj ||| m else s.aux.inj)
      ∧ (m ≠ 0 → s.aux.inj &&& m = 0 → t.flag AUX_STAT.INJ_BUSY = true)
      ∧ (s.aux.inj &&& m ≠ 0 → t.get AUX_INJ_CNT.MERGED = min (s.get AUX_INJ_CNT.MERGED + 1) 65535)) := by
  have h0 : (v ||| 1).toNat.testBit 0 = true := testBit_or_right v 1 (by decide)
  obtain ⟨hinj, hbusy, hcnt⟩ := (s.landed AUX_CMD.addr (v ||| 1)).injRequest_fields
  refine .of_write rfl ha (by decide) (by decide) (t := (s.landed AUX_CMD.addr (v ||| 1)).injRequest) ?_ ⟨State.answer_ok _, ?_, fun hm hi => ?_, fun hi => ?_⟩
  · rw [auxRules_act_cmd, h0, h1, h2]
    rfl
  · rw [State.answer_aux]
    exact hinj
  · exact (State.answer_flag _ _ _ _).trans (hbusy hm hi)
  · exact (State.answer_get _ _ _ _).trans ((hcnt hi).trans (by rw [State.get_landed_ne _ _ _ _ (by decide)]))

/-- Calibration conversions are under way. -/
def State.calBegun (s : State) (c : CalRun) : State := { s with aux := { s.aux with cal := some c } }

theorem State.calGo_ok (s : State) (src : Source) (h : calIndexOk (s.get AUX_CAL_CTRL.ADC) (s.get AUX_CAL_CTRL.INPUT) = true) : s.calGo src =
    .ok (((s.put (if s.flag AUX_CAL_CTRL.POINT then AUX_STAT.FOK else AUX_STAT.ZOK) 0).calBegun
      ⟨src, s.get AUX_CAL_CTRL.ADC, s.get AUX_CAL_CTRL.INPUT, s.flag AUX_CAL_CTRL.POINT, 2 ^ s.get AUX_CAL_CTRL.AVG, 0, 0⟩).put AUX_STAT.CAL_BUSY 1) :=
  if_neg (by rw [h]; decide)

theorem State.calBegun_fields (s : State) (full : Bool) (c : CalRun) :
    let t := ((s.put (if full then AUX_STAT.FOK else AUX_STAT.ZOK) 0).calBegun c).put AUX_STAT.CAL_BUSY 1
    t.flag AUX_STAT.CAL_BUSY = true ∧ t.flag (if full then AUX_STAT.FOK else AUX_STAT.ZOK) = false ∧ t.aux.cal = some c := by
  have hget (y : State) (f : Fld) : (y.calBegun c).get f = y.get f := rfl
  refine ⟨State.flag_put_one _ _ (by decide) rfl, ?_, congrArg AuxSt.cal (State.put_aux _ _ _)⟩
  cases full
  · exact (State.flag_eq_get ((State.get_put_clear _ _ AUX_STAT.ZOK _ rfl).trans (hget _ _))).trans (State.flag_put_zero s AUX_STAT.ZOK (by decide))
  · exact (State.flag_eq_get ((State.get_put_clear _ _ AUX_STAT.FOK _ rfl).trans (hget _ _))).trans (State.flag_put_zero s AUX_STAT.FOK (by decide))

theorem aux_calGo (s : State) (src : Source) (v : Word) (ha : s.admits auxRules src AUX_CMD.addr (v ||| 2)) (h0 : (v ||| 2).toNat.testBit 0 = false)
    (h2 : (v ||| 2).toNat.testBit 2 = false) (hok : calIndexOk (s.get AUX_CAL_CTRL.ADC) (s.get AUX_CAL_CTRL.INPUT) = true) :
    Completes (.calGo src v) s (fun t => t.okAnswer ∧ t.flag AUX_STAT.CAL_BUSY = true
      ∧ t.flag (if s.flag AUX_CAL_CTRL.POINT then AUX_STAT.FOK else AUX_STAT.ZOK) = false
      ∧ t.aux.cal = some ⟨src, s.get AUX_CAL_CTRL.ADC, s.get AUX_CAL_CTRL.INPUT, s.flag AUX_CAL_CTRL.POINT, 2 ^ s.get AUX_CAL_CTRL.AVG, 0, 0⟩) := by
  have h1 : (v ||| 2).toNat.testBit 1 = true := testBit_or_right v 2 (by decide)
  have hget {f : Fld} (h : f.addr ≠ AUX_CMD.addr) : (s.landed AUX_CMD.addr (v ||| 2)).get f = s.get f := State.get_landed_ne _ _ _ _ h
  have hpoint : (s.landed AUX_CMD.addr (v ||| 2)).flag AUX_CAL_CTRL.POINT = s.flag AUX_CAL_CTRL.POINT := State.flag_eq_get (hget (by decide))
  have hgo := (s.landed AUX_CMD.addr (v ||| 2)).calGo_ok src (by rw [hget (by decide), hget (by decide)]; exact hok)
  rw [hget (by decide), hget (by decide), hget (by decide), hpoint] at hgo
  generalize hx : s.landed AUX_CMD.addr (v ||| 2) = x at hgo
  obtain ⟨hbusy, hmeas, hcal⟩ := x.calBegun_fields (s.flag AUX_CAL_CTRL.POINT)
    ⟨src, s.get AUX_CAL_CTRL.ADC, s.get AUX_CAL_CTRL.INPUT, s.flag AUX_CAL_CTRL.POINT, 2 ^ s.get AUX_CAL_CTRL.AVG, 0, 0⟩
  refine .of_write rfl ha (by decide) (by decide) ?_
    ⟨State.answer_ok _, (State.answer_flag _ _ _ _).trans hbusy, (State.answer_flag _ _ _ _).trans hmeas, by rw [State.answer_aux]; exact hcal⟩
  rw [auxRules_act_cmd, hx, h0, h1, h2, if_pos rfl, hgo]
  rfl

/-- A calibration point is taken. -/
def State.pointTaken (s : State) (c : CalRun) : State :=
  { s with aux := { s.aux with cal := none, zIdx := if c.full then s.aux.zIdx else calIndex c.adc c.input,
                               fIdx := if c.full then calIndex c.adc c.input else s.aux.fIdx } }

theorem cal_point_done (s : State) (c : CalRun) (hl : s.live dAUX = true) (hc : s.aux.cal = some c) (hleft : c.left = 0) :
    Completes .calPointDone s (fun t => t.get (if c.full then AUX_CAL_MEAS.F else AUX_CAL_MEAS.Z) = c.sum / max c.taken 1 % 65536
    ∧ t.flag (if c.full then AUX_STAT.FOK else AUX_STAT.ZOK) = true ∧ t.flag AUX_STAT.CAL_BUSY = false ∧ t.aux.cal = none
    ∧ (if c.full then t.aux.fIdx else t.aux.zIdx) = calIndex c.adc c.input) := by
  have hgo : (s.live dAUX && c.left == 0) = true := by rw [hl, hleft]; rfl
  have he : exec .calPointDone s = .next ((((s.put AUX_STAT.CAL_BUSY 0).put (if c.full then AUX_CAL_MEAS.F else AUX_CAL_MEAS.Z) (c.sum / max c.taken 1)).put
      (if c.full then AUX_STAT.FOK else AUX_STAT.ZOK) 1).pointTaken c) := by
    simp only [exec, execCalPointDone, hc, hgo, if_true]
    rfl
  have hget (y : State) (f : Fld) : (y.pointTaken c).get f = y.get f := rfl
  have hidx (y : State) : (y.pointTaken c).aux.cal = none ∧ (if c.full then (y.pointTaken c).aux.fIdx else (y.pointTaken c).aux.zIdx) = calIndex c.adc c.input := by
    refine ⟨rfl, ?_⟩
    split
    next h => exact if_pos h
    next h => exact if_neg h
  refine ⟨_, he, (hget _ _).trans ?_, (State.flag_eq_get (hget _ _)).trans ?_, (State.flag_eq_get (hget _ _)).trans ?_, hidx _⟩
  · cases c.full
    · exact (State.get_put_clear _ AUX_STAT.ZOK AUX_CAL_MEAS.Z _ rfl).trans (State.get_put_same _ _ _ (by decide))
    · exact (State.get_put_clear _ AUX_STAT.FOK AUX_CAL_MEAS.F _ rfl).trans (State.get_put_same _ _ _ (by decide))
  · cases c.full
    · exact State.flag_put_one _ AUX_STAT.ZOK (by decide) rfl
    · exact State.flag_put_one _ AUX_STAT.FOK (by decide) rfl
  · refine (State.flag_eq_get ?_).trans (State.flag_put_zero s AUX_STAT.CAL_BUSY (by decide))
    cases c.full
    · exact (State.get_put_clear _ AUX_STAT.ZOK _ _ rfl).trans (State.get_put_clear _ AUX_CAL_MEAS.Z _ _ rfl)
    · exact (State.get_put_clear _ AUX_STAT.FOK _ _ rfl).trans (State.get_put_clear _ AUX_CAL_MEAS.F _ _ rfl)

/-- What a calibration at time d leaves in the registers of its index. -/
def State.calibrated (s : State) (e g o d : Nat) : State :=
  (((((s.put (AUX_CAL_GAIN.GAIN e) g).put (AUX_CAL_OFS.OFS e) o).bump AUX_CAL_COUNT.COUNT).putPair AUX_CAL_TIME_LO.addr d).put AUX_STAT.ZOK 0).put AUX_STAT.FOK 0

theorem State.calApply_ok (s : State) (h : (s.flag AUX_STAT.ZOK && s.flag AUX_STAT.FOK && s.aux.zIdx == s.aux.fIdx) = true) :
    let z := s.get AUX_CAL_MEAS.Z
    let f := s.get AUX_CAL_MEAS.F
    let g : Int := ((s.app AUX_CAL_TGT.FT : Int) - s.app AUX_CAL_TGT.ZT) * 65536 / ((f : Int) - z)
    z < f → 0x8000 ≤ g → g ≤ 0x20000 →
    ∃ d, s.calApply = .ok (s.calibrated s.aux.zIdx g.toNat (ofSigned 18 ((s.app AUX_CAL_TGT.ZT : Int) - z * g / 65536)) d) := by
  intro z f g hzf h1 h2
  exact ⟨_, (if_neg (by rw [h]; decide)).trans ((if_neg (Nat.not_le.mpr hzf)).trans (if_neg (not_or.mpr ⟨not_lt.mpr h1, not_lt.mpr h2⟩)))⟩

theorem ofSigned_lt (n : Nat) (v : Int) : ofSigned n v < 2 ^ n := by
  have h : (0 : Int) < (2 ^ n : Nat) := by exact_mod_cast Nat.two_pow_pos n
  have h1 := Int.emod_lt_of_pos v h
  have h0 := Int.emod_nonneg v (ne_of_gt h)
  unfold ofSigned
  omega

theorem State.calibrated_fields (s : State) (e d : Nat) {g o : Nat} (hg : g < 2 ^ 18) (ho : o < 2 ^ 18) :
    (s.calibrated e g o d).get (AUX_CAL_GAIN.GAIN e) = g ∧ (s.calibrated e g o d).get (AUX_CAL_OFS.OFS e) = o
    ∧ (s.calibrated e g o d).flag AUX_STAT.ZOK = false ∧ (s.calibrated e g o d).flag AUX_STAT.FOK = false
    ∧ (s.calibrated e g o d).get AUX_CAL_COUNT.COUNT = min (s.get AUX_CAL_COUNT.COUNT + 1) (2 ^ 32 - 1) := by
  have hgain : 0x170500 ≤ AUX_CAL_GAIN.addr e ∧ AUX_CAL_GAIN.addr e < 0x170580 := by unfold AUX_CAL_GAIN.addr; omega
  have hofs : 0x170580 ≤ AUX_CAL_OFS.addr e := Nat.le_add_right _ _
  have hafter (y : State) {f : Fld} (h : 0x170500 ≤ f.addr) :
      ((((y.bump AUX_CAL_COUNT.COUNT).putPair AUX_CAL_TIME_LO.addr d).put AUX_STAT.ZOK 0).put AUX_STAT.FOK 0).get f = y.get f := by
    have hne {a : Nat} (ha : a < 0x170500) : f.addr ≠ a := ne_of_gt (lt_of_lt_of_le ha h)
    rw [State.get_put_reg _ _ _ _ (hne (by decide)), State.get_put_reg _ _ _ _ (hne (by decide)), State.get_putPair_ne _ _ _ _ (hne (by decide)) (hne (by decide)),
      State.get_bump_apart y AUX_CAL_COUNT.COUNT f (by decide) (.inl (hne (by decide)).symm)]
  have hstat (y : State) : ((y.putPair AUX_CAL_TIME_LO.addr d).put AUX_STAT.ZOK 0 |>.put AUX_STAT.FOK 0).get AUX_CAL_COUNT.COUNT = y.get AUX_CAL_COUNT.COUNT := by
    rw [State.get_put_reg _ _ _ _ (by decide), State.get_put_reg _ _ _ _ (by decide), State.get_putPair_ne _ _ _ _ (by decide) (by decide)]
  unfold State.calibrated
  refine ⟨?_, ?_, (State.flag_put_clear _ _ _ _ rfl).trans (State.flag_put_zero _ _ (by decide)), State.flag_put_zero _ _ (by decide), ?_⟩
  · exact (hafter _ hgain.1).trans ((State.get_put_reg _ _ _ _ (by show AUX_CAL_GAIN.addr e ≠ AUX_CAL_OFS.addr e; omega)).trans
      ((State.get_put_same _ _ _ (by show 0 + 18 ≤ 32; decide)).trans (Nat.mod_eq_of_lt hg)))
  · exact (hafter _ (le_trans (by decide) hofs)).trans ((State.get_put_same _ _ _ (by show 0 + 18 ≤ 32; decide)).trans (Nat.mod_eq_of_lt ho))
  · rw [hstat, State.get_bump_min _ _ (by decide), State.get_put_reg _ _ _ _ (by show 0x170408 ≠ AUX_CAL_OFS.addr e; omega),
      State.get_put_reg _ _ _ _ (by show 0x170408 ≠ AUX_CAL_GAIN.addr e; omega)]
    rfl

theorem aux_calApply (s : State) (src : Source) (v : Word) (ha : s.admits auxRules src AUX_CMD.addr (v ||| 4)) (h0 : (v ||| 4).toNat.testBit 0 = false)
    (h1 : (v ||| 4).toNat.testBit 1 = false) (hz : s.flag AUX_STAT.ZOK = true) (hf : s.flag AUX_STAT.FOK = true) (hidx : s.aux.zIdx = s.aux.fIdx) :
    let z := s.get AUX_CAL_MEAS.Z
    let f := s.get AUX_CAL_MEAS.F
    let g : Int := ((s.app AUX_CAL_TGT.FT : Int) - s.app AUX_CAL_TGT.ZT) * 65536 / ((f : Int) - z)
    z < f → 0x8000 ≤ g → g ≤ 0x20000 → Completes (.calApply src v) s (fun t => t.okAnswer ∧ t.get (AUX_CAL_GAIN.GAIN s.aux.zIdx) = g.toNat
      ∧ t.get (AUX_CAL_OFS.OFS s.aux.zIdx) = ofSigned 18 ((s.app AUX_CAL_TGT.ZT : Int) - z * g / 65536)
      ∧ t.flag AUX_STAT.ZOK = false ∧ t.flag AUX_STAT.FOK = false ∧ t.get AUX_CAL_COUNT.COUNT = min (s.get AUX_CAL_COUNT.COUNT + 1) (2 ^ 32 - 1)) := by
  intro z f g hzf hg1 hg2
  have h2 : (v ||| 4).toNat.testBit 2 = true := testBit_or_right v 4 (by decide)
  have hget {f : Fld} (h : f.addr ≠ AUX_CMD.addr) : (s.landed AUX_CMD.addr (v ||| 4)).get f = s.get f := State.get_landed_ne _ _ _ _ h
  have hflag {f : Fld} (h : f.addr ≠ AUX_CMD.addr) : (s.landed AUX_CMD.addr (v ||| 4)).flag f = s.flag f := State.flag_eq_get (hget h)
  have haux : (s.landed AUX_CMD.addr (v ||| 4)).aux = s.aux := State.setWord_aux _ _ _
  have hgo := (s.landed AUX_CMD.addr (v ||| 4)).calApply_ok (by rw [hflag (by decide), hflag (by decide), haux, hz, hf, hidx, beq_self_eq_true]; rfl)
  dsimp only at hgo
  rw [hget (by decide), hget (by decide), State.app_landed, State.app_landed, haux] at hgo
  obtain ⟨d, hd⟩ := hgo hzf hg1 hg2
  have hcnt : (s.landed AUX_CMD.addr (v ||| 4)).get AUX_CAL_COUNT.COUNT = s.get AUX_CAL_COUNT.COUNT := hget (by decide)
  generalize hx : s.landed AUX_CMD.addr (v ||| 4) = x at hd hcnt
  obtain ⟨hgain, hofs, hzok, hfok, hcount⟩ := x.calibrated_fields s.aux.zIdx d (g := g.toNat) (by omega)
    (ofSigned_lt 18 ((s.app AUX_CAL_TGT.ZT : Int) - z * g / 65536))
  refine .of_write rfl ha (by decide) (by decide) ?_ ⟨State.answer_ok _, (State.answer_get _ _ _ _).trans hgain, (State.answer_get _ _ _ _).trans hofs,
    (State.answer_flag _ _ _ _).trans hzok, (State.answer_flag _ _ _ _).trans hfok, (State.answer_get _ _ _ _).trans (hcount.trans (by rw [hcnt]))⟩
  rw [auxRules_act_cmd, hx, h0, h1, h2]
  show (if true = true then x.calApply else .ok x).bind _ = _
  rw [if_pos rfl, hd]
  rfl

/-! ### Diagnosis (R464) -/

/-- A diagnosis is under way, or none is. -/
def State.diagnosing (s : State) (d : Option DiagRun) : State := { s with aux := { s.aux with diag := d } }

theorem State.setTdac_fields (s : State) (code : Nat) : (∀ f, (s.setTdac code).get f = s.get f) ∧ (s.setTdac code).aux = s.aux
    ∧ (s.setTdac code).pins.testDac = if s.appFlag AUX_TDAC.OUT_EN then some (BitVec.ofNat 12 code) else none := ⟨fun _ => rfl, rfl, rfl⟩

/-- The registers and pins of a diagnosis begun or ended. -/
theorem State.diagnosing_fields (s : State) (d : Option DiagRun) (b : Bool) (code : Nat) :
    let t := ((s.diagnosing d).put AUX_STAT.DIAG_BUSY (b2n b)).setTdac code
    t.flag AUX_STAT.DIAG_BUSY = b ∧ t.aux.diag = d ∧ t.pins.testDac = if s.appFlag AUX_TDAC.OUT_EN then some (BitVec.ofNat 12 code) else none := by
  obtain ⟨hget, haux, hpin⟩ := ((s.diagnosing d).putB AUX_STAT.DIAG_BUSY b).setTdac_fields code
  have happ : ((s.diagnosing d).putB AUX_STAT.DIAG_BUSY b).appFlag AUX_TDAC.OUT_EN = s.appFlag AUX_TDAC.OUT_EN := by
    unfold State.appFlag State.putB
    rw [State.app_put]
    rfl
  exact ⟨(State.flag_eq_get (hget _)).trans (State.flag_putB _ _ (by decide) rfl), (congrArg AuxSt.diag haux).trans (congrArg AuxSt.diag (State.put_aux _ _ _)),
    hpin.trans (by rw [happ])⟩

/-- The diagnosis that DIAG_GO begins for the ADCs of m. -/
def DiagRun.begun (m : Nat) : DiagRun :=
  { mask := m, step := if m = 0 then 5 else 0, n := Vector.replicate 2 0, sum := Vector.replicate 2 0, dev := Vector.replicate 2 0 }

theorem auxRules_act_diag (src : Source) (w : Word) (s : State) : auxRules.act src AUX_DIAG_CTRL.addr w s = s.diagWrite w := rfl

theorem State.diagWrite_go (s : State) (w : Word) (h31 : w.toNat.testBit 31 = true) (h30 : w.toNat.testBit 30 = false)
    (hreach : s.appFlag AUX_DIAG_CTRL.PATH = true → ∀ a, a < 2 → (s.app AUX_DIAG_CTRL.ADC_MASK).testBit a = true → adcReaches a (s.app AUX_DIAG_CTRL.INPUT) = true) :
    s.diagWrite w = .ok (((s.diagnosing (some (DiagRun.begun (s.app AUX_DIAG_CTRL.ADC_MASK)))).put AUX_STAT.DIAG_BUSY 1).setTdac 0) := by
  have hpath : ¬ (s.appFlag AUX_DIAG_CTRL.PATH && [0, 1].any (fun a => (s.app AUX_DIAG_CTRL.ADC_MASK).testBit a && ! adcReaches a (s.app AUX_DIAG_CTRL.INPUT))) = true := by
    intro h
    rw [Bool.and_eq_true, List.any_eq_true] at h
    obtain ⟨hp, a, ha, hbad⟩ := h
    have h2 : a < 2 := by
      rcases List.mem_pair.mp ha with rfl | rfl <;> decide
    rw [Bool.and_eq_true] at hbad
    rw [hreach hp a h2 hbad.1] at hbad
    exact absurd hbad.2 (by decide)
  exact (if_neg (by rw [h31, h30]; decide)).trans ((if_pos h31).trans (if_neg hpath))

theorem State.diagWrite_abort (s : State) (w : Word) (h30 : w.toNat.testBit 30 = true) (h31 : w.toNat.testBit 31 = false) (h : s.aux.diag.isSome = true) :
    s.diagWrite w = .ok (((s.diagnosing none).put AUX_STAT.DIAG_BUSY 0).setTdac (s.app AUX_TDAC.VAL)) :=
  (if_neg (by rw [h31, h30]; decide)).trans ((if_neg (by rw [h31]; decide)).trans ((if_pos h30).trans
    (if_neg (by rw [Option.isNone_eq_false_iff.mpr h]; decide))))

theorem State.appFlag_landed (s : State) (a : Nat) (w : Word) (f : Fld) : (s.landed a w).appFlag f = s.appFlag f := by
  rw [State.appFlag, State.appFlag, State.app_landed]

theorem aux_diagGo (s : State) (src : Source) (v : Word) : let w : Word := v ||| BitVec.ofNat 32 (2 ^ 31)
    s.admits auxRules src AUX_DIAG_CTRL.addr w → w.toNat.testBit 30 = false →
    let m := s.app AUX_DIAG_CTRL.ADC_MASK
    (s.appFlag AUX_DIAG_CTRL.PATH = true → ∀ a, a < 2 → m.testBit a = true → adcReaches a (s.app AUX_DIAG_CTRL.INPUT) = true) →
    Completes (.diagGo src v) s (fun t => t.okAnswer ∧ t.flag AUX_STAT.DIAG_BUSY = true ∧ t.aux.diag.map (·.mask) = some m
      ∧ t.aux.diag.map (·.step) = some (if m = 0 then 5 else 0) ∧ t.pins.testDac = if s.appFlag AUX_TDAC.OUT_EN then some 0 else none) := by
  intro w ha h30 m hreach
  have h31 : w.toNat.testBit 31 = true := testBit_or_right v (BitVec.ofNat 32 (2 ^ 31)) (by decide)
  have hwrite := (s.landed AUX_DIAG_CTRL.addr w).diagWrite_go w h31 h30 (by rw [State.appFlag_landed, State.app_landed, State.app_landed]; exact hreach)
  have hact := (auxRules_act_diag src w (s.landed AUX_DIAG_CTRL.addr w)).trans hwrite
  obtain ⟨hbusy, hdiag, hpin⟩ := (s.landed AUX_DIAG_CTRL.addr w).diagnosing_fields (some (DiagRun.begun m)) true 0
  rw [State.app_landed] at hact
  rw [State.appFlag_landed] at hpin
  refine .of_write rfl ha (by decide) (by decide) hact ⟨State.answer_ok _, (State.answer_flag _ _ _ _).trans hbusy, ?_, ?_, ?_⟩
  · rw [State.answer_aux]
    exact congrArg (Option.map (·.mask)) hdiag
  · rw [State.answer_aux]
    exact congrArg (Option.map (·.step)) hdiag
  · rw [State.answer_pins]
    exact hpin

theorem aux_diagAbort (s : State) (src : Source) (v : Word) : let w : Word := v ||| BitVec.ofNat 32 (2 ^ 30)
    s.admits auxRules src AUX_DIAG_CTRL.addr w → w.toNat.testBit 31 = false → s.aux.diag.isSome = true →
    Completes (.diagAbort src v) s (fun t => t.okAnswer ∧ t.flag AUX_STAT.DIAG_BUSY = false ∧ t.aux.diag = none
      ∧ t.pins.testDac = if s.appFlag AUX_TDAC.OUT_EN then some (BitVec.ofNat 12 (s.app AUX_TDAC.VAL)) else none) := by
  intro w ha h31 hsome
  have h30 : w.toNat.testBit 30 = true := testBit_or_right v (BitVec.ofNat 32 (2 ^ 30)) (by decide)
  have haux : (s.landed AUX_DIAG_CTRL.addr w).aux = s.aux := State.setWord_aux _ _ _
  have hwrite := (s.landed AUX_DIAG_CTRL.addr w).diagWrite_abort w h30 h31 (by rw [haux]; exact hsome)
  have hact := (auxRules_act_diag src w (s.landed AUX_DIAG_CTRL.addr w)).trans hwrite
  obtain ⟨hbusy, hdiag, hpin⟩ := (s.landed AUX_DIAG_CTRL.addr w).diagnosing_fields none false (s.app AUX_TDAC.VAL)
  rw [State.app_landed] at hact
  rw [State.appFlag_landed] at hpin
  refine .of_write rfl ha (by decide) (by decide) hact ⟨State.answer_ok _, (State.answer_flag _ _ _ _).trans hbusy, ?_, ?_⟩
  · rw [State.answer_aux]
    exact hdiag
  · rw [State.answer_pins]
    exact hpin

/-- The result of ADC a in a diagnosis. -/
def State.diagResult (s : State) (d : DiagRun) (a : Fin 2) : State :=
  if d.mask.testBit a.val then
    ((s.put (AUX_DIAG_RES.MAXDEV a) (min (vget d.dev a) 0xFFFF)).putB (AUX_DIAG_RES.PASS a) (decide (vget d.dev a ≤ s.app AUX_DIAG_TOL.DTOL))).put
      (AUX_DIAG_RES.DONE a) 1
  else s

theorem State.diagResult_keeps (s : State) (d : DiagRun) (a : Fin 2) : (∀ f : Fld, f.addr ≠ AUX_DIAG_RES.addr a → (s.diagResult d a).get f = s.get f)
    ∧ ∀ f : Fld, (s.diagResult d a).app f = s.app f := by
  unfold State.diagResult State.putB
  split
  · refine ⟨fun f hf => ?_, fun f => by rw [State.app_put, State.app_put, State.app_put]⟩
    rw [State.get_put_reg _ _ _ _ hf, State.get_put_reg _ _ _ _ hf, State.get_put_reg _ _ _ _ hf]
  · exact ⟨fun _ _ => rfl, fun _ => rfl⟩

theorem State.diagResult_fields (s : State) (d : DiagRun) (a : Fin 2) (h : d.mask.testBit a.val = true) :
    (s.diagResult d a).get (AUX_DIAG_RES.MAXDEV a) = min (vget d.dev a) 65535
    ∧ (s.diagResult d a).flag (AUX_DIAG_RES.PASS a) = decide (vget d.dev a ≤ s.app AUX_DIAG_TOL.DTOL) ∧ (s.diagResult d a).flag (AUX_DIAG_RES.DONE a) = true := by
  have hdone (y : State) {f : Fld} (hf : f.lo + f.n ≤ 16 ∨ 17 ≤ f.lo) : (y.put (AUX_DIAG_RES.DONE a) 1).get f = y.get f :=
    State.get_put_apart y _ _ _ (by show 16 + 1 ≤ 32; decide) (.inr (hf.symm.imp id id))
  unfold State.diagResult
  rw [if_pos h]
  refine ⟨?_, (State.flag_eq_get (hdone _ (.inr (by show 17 ≤ 17; decide)))).trans (State.flag_putB _ _ (by show 17 + 1 ≤ 32; decide) rfl),
    State.flag_put_one _ _ (by show 16 + 1 ≤ 32; decide) rfl⟩
  rw [hdone _ (.inl (by show 0 + 16 ≤ 16; decide)), State.putB,
    State.get_put_apart _ _ _ _ (by show 17 + 1 ≤ 32; decide) (.inr (.inr (by show 0 + 16 ≤ 17; decide))), State.get_put_same _ _ _ (by show 0 + 16 ≤ 32; decide)]
  exact Nat.mod_eq_of_lt (Nat.lt_succ_of_le (Nat.min_le_right _ _))

theorem diag_done (s : State) (d : DiagRun) (a : Fin 2) (hl : s.live dAUX = true) (hd : s.aux.diag = some d) (hstep : 5 ≤ d.step) (hm : d.mask.testBit a.val = true) :
    Completes .diagDone s (fun t =>
      t.get (AUX_DIAG_RES.MAXDEV a) = min (vget d.dev a) 65535 ∧ t.flag (AUX_DIAG_RES.PASS a) = decide (vget d.dev a ≤ s.app AUX_DIAG_TOL.DTOL)
      ∧ t.flag (AUX_DIAG_RES.DONE a) = true ∧ t.flag AUX_STAT.DIAG_BUSY = false ∧ t.aux.diag = none) := by
  have hgo : (s.live dAUX && decide (5 ≤ d.step)) = true := by rw [hl, decide_eq_true hstep]; rfl
  let z := (s.diagResult d 0).diagResult d 1
  have he : exec .diagDone s = .next (((z.diagnosing none).put AUX_STAT.DIAG_BUSY 0).setTdac (((z.diagnosing none).put AUX_STAT.DIAG_BUSY 0).app AUX_TDAC.VAL)) := by
    simp only [exec, execDiagDone, hd, hgo, if_true]
    rfl
  have hz : z.get (AUX_DIAG_RES.MAXDEV a) = min (vget d.dev a) 65535 ∧ z.flag (AUX_DIAG_RES.PASS a) = decide (vget d.dev a ≤ s.app AUX_DIAG_TOL.DTOL)
      ∧ z.flag (AUX_DIAG_RES.DONE a) = true := by
    obtain ⟨-, happ⟩ := s.diagResult_keeps d 0
    obtain ⟨hg, -⟩ := (s.diagResult d 0).diagResult_keeps d 1
    match a with
    | 0 =>
      obtain ⟨h1, h2, h3⟩ := s.diagResult_fields d 0 hm
      exact ⟨(hg _ (by decide)).trans h1, (State.flag_eq_get (hg _ (by decide))).trans h2, (State.flag_eq_get (hg _ (by decide))).trans h3⟩
    | 1 =>
      obtain ⟨h1, h2, h3⟩ := (s.diagResult d 0).diagResult_fields d 1 hm
      exact ⟨h1, h2.trans (by rw [happ]), h3⟩
  obtain ⟨h1, h2, h3⟩ := hz
  generalize z = y at he h1 h2 h3
  obtain ⟨hbusy, hdiag, -⟩ := y.diagnosing_fields none false (((y.diagnosing none).put AUX_STAT.DIAG_BUSY 0).app AUX_TDAC.VAL)
  have hget {f : Fld} (h : f.addr ≠ AUX_STAT.addr) :
      (((y.diagnosing none).put AUX_STAT.DIAG_BUSY 0).setTdac (((y.diagnosing none).put AUX_STAT.DIAG_BUSY 0).app AUX_TDAC.VAL)).get f = y.get f :=
    ((State.setTdac_fields _ _).1 f).trans ((State.get_put_reg _ _ _ _ h).trans rfl)
  have hne : AUX_DIAG_RES.addr a ≠ AUX_STAT.addr := by
    unfold AUX_DIAG_RES.addr AUX_STAT.addr
    omega
  exact ⟨_, he, (hget hne).trans h1, (State.flag_eq_get (hget hne)).trans h2, (State.flag_eq_get (hget hne)).trans h3, hbusy, hdiag⟩

/-! ### PWM outputs and SPI masters (R473, R475, R476) -/

theorem pwm_period (s : State) (p : Fin 4) (hl : s.live dAUX = true) :
    Completes (.pwmPeriod p) s (fun t => vget t.aux.duty p = vget s.aux.next p
      ∧ vget t.pins.pwm p = some (decide (0 < vget s.aux.next p * s.app (AUX_PWM.PERIOD p) / 65536) != s.appFlag (AUX_PWM.POL p)))
    ∧ Completes (.pwmActiveEnd p) s (fun t => vget t.pins.pwm p = some (s.appFlag (AUX_PWM.POL p))) := by
  refine ⟨⟨_, congrArg Host.Outcome.next (if_pos hl), vget_vset_same _ _ _, vget_vset_same _ _ _⟩,
    ⟨_, congrArg Host.Outcome.next (if_pos hl), (vget_vset_same _ _ _).trans ?_⟩⟩
  rw [Bool.false_bne]

/-- The select line of master m is low in the eight. -/
theorem testBit_setBit_pins (w : BitVec 8) (m : Fin 8) (b : Bool) : (BitVec.ofNat 8 (setBit w.toNat m b)).toNat.testBit m.val = b := by
  rw [BitVec.toNat_ofNat, Nat.testBit_mod_two_pow, testBit_setBit_same, decide_eq_true m.isLt, Bool.true_and]

theorem State.spiStart_fields (s : State) (m : Fin 8) (b : Bool) : (s.spiStart m b).flag (AUX_SPI_STAT.BUSY m) = true
    ∧ (s.spiStart m b).pins.spiCsn.toNat.testBit m.val = false
    ∧ (s.spiStart m b).get (AUX_SPI_STAT.DONE m) = s.get (AUX_SPI_STAT.DONE m) ∧ (s.spiStart m b).word (AUX_SPI_RX.addr m) = s.word (AUX_SPI_RX.addr m) := by
  have hregs : (s.spiStart m b).regs = (s.put (AUX_SPI_STAT.BUSY m) 1).regs := rfl
  have hne : AUX_SPI_RX.addr m ≠ AUX_SPI_STAT.addr m := by
    unfold AUX_SPI_RX.addr AUX_SPI_STAT.addr
    omega
  refine ⟨(State.flag_eq_get (State.get_of_regs hregs _)).trans (State.flag_put_one _ _ (by show 0 + 1 ≤ 32; decide) rfl), testBit_setBit_pins _ _ _, ?_, ?_⟩
  · exact (State.get_of_regs hregs _).trans (State.get_put_apart s _ _ _ (by show 0 + 1 ≤ 32; decide) (.inr (.inl (by show 1 ≤ 1; decide))))
  · rw [State.word_of_regs hregs, State.word_put_ne _ _ _ hne]

/-- The step frame that waited for master m goes out. -/
def State.spiNext (s : State) (m : Fin 8) : State :=
  ({ s with aux := { s.aux with spiWait := vset s.aux.spiWait m false } } : State).spiStart m true

theorem State.spiNext_fields (s : State) (m : Fin 8) : (s.spiNext m).flag (AUX_SPI_STAT.BUSY m) = true
    ∧ (s.spiNext m).pins.spiCsn.toNat.testBit m.val = false
    ∧ (s.spiNext m).get (AUX_SPI_STAT.DONE m) = s.get (AUX_SPI_STAT.DONE m) ∧ (s.spiNext m).word (AUX_SPI_RX.addr m) = s.word (AUX_SPI_RX.addr m) :=
  State.spiStart_fields _ m true

theorem auxRules_act_spi (src : Source) (m : Fin 8) (w : Word) (s : State) (hw : w.toNat.testBit 0 = true) (h : s.appFlag (AUX_SPI_CFG.EN m) = true) :
    auxRules.act src (AUX_SPI_CMD.addr m) w s = .ok (s.spiStart m false) := by
  have hm : ∀ m : Fin 8, (AUX_SPI_CMD.addr m == AUX_CMD.addr) = false ∧ (AUX_SPI_CMD.addr m == AUX_DIAG_CTRL.addr) = false
    ∧ (0x170800 ≤ AUX_SPI_CMD.addr m ∧ AUX_SPI_CMD.addr m < 0x170900) ∧ spiOf (AUX_SPI_CMD.addr m) = m.val := by decide +kernel
  obtain ⟨h1, h2, h3, h4⟩ := hm m
  simp only [auxRules, h1, h2, if_pos h3, h4, hw, h, beq_self_eq_true, Bool.and_self, Bool.false_eq_true, if_true, if_false, Fin.ofNat_val_eq_self]

theorem spi_go (s : State) (m : Fin 8) (src : Source) (v : Word) (ha : s.admits auxRules src (AUX_SPI_CMD.addr m) (v ||| 1))
    (hen : s.appFlag (AUX_SPI_CFG.EN m) = true) : Completes (.spiGo m src v) s (fun t =>
      t.okAnswer ∧ t.flag (AUX_SPI_STAT.BUSY m) = true ∧ t.pins.spiCsn.toNat.testBit m.val = false) := by
  have hplain : ∀ m : Fin 8, normalAddr (AUX_SPI_CMD.addr m) = AUX_SPI_CMD.addr m ∧ viewOf (AUX_SPI_CMD.addr m) = .normal := by decide +kernel
  obtain ⟨hn, hv⟩ := hplain m
  obtain ⟨hbusy, hcs, -⟩ := (s.landed (AUX_SPI_CMD.addr m) (v ||| 1)).spiStart_fields m false
  refine .of_write rfl ha hn hv (auxRules_act_spi src m (v ||| 1) _ (testBit_or_right v 1 (by decide)) ((State.appFlag_landed _ _ _ _).trans hen))
    ⟨State.answer_ok _, (State.answer_flag _ _ _ _).trans hbusy, ?_⟩
  rw [State.answer_pins]
  exact hcs

/-- The reply of a frame in its register. -/
def State.spiReply (s : State) (m : Fin 8) (rx : Word) : State :=
  ((s.setWord (AUX_SPI_RX.addr m) (BitVec.ofNat 32 (rx.toNat % 2 ^ (s.app (AUX_SPI_CFG.LEN_M1 m) + 1)))).put (AUX_SPI_STAT.DONE m) 1).put (AUX_SPI_STAT.BUSY m) 0

/-- A frame of master m has ended: the select line rises, and the step that it served has its frame. -/
def State.spiEnded (s : State) (m : Fin 8) : State :=
  let s : State := { s with pins := { s.pins with spiCsn := BitVec.ofNat 8 (setBit s.pins.spiCsn.toNat m true) } }
  if vget s.aux.spiStep m then
    { s with srv := { s.srv with span := { s.srv.span with frames := setBit s.srv.span.frames m false } }
             aux := { s.aux with spiStep := vset s.aux.spiStep m false } }
  else s

theorem State.spiEnded_fields (s : State) (m : Fin 8) : (s.spiEnded m).regs = s.regs ∧ (s.spiEnded m).aux.spiWait = s.aux.spiWait
    ∧ (s.spiEnded m).pins.spiCsn.toNat.testBit m.val = true := by
  unfold State.spiEnded
  dsimp only
  split
  · exact ⟨rfl, rfl, testBit_setBit_pins _ _ _⟩
  · exact ⟨rfl, rfl, testBit_setBit_pins _ _ _⟩

theorem State.spiReply_fields (s : State) (m : Fin 8) (rx : Word) :
    (s.spiReply m rx).word (AUX_SPI_RX.addr m) = BitVec.ofNat 32 (rx.toNat % 2 ^ (s.app (AUX_SPI_CFG.LEN_M1 m) + 1))
    ∧ (s.spiReply m rx).flag (AUX_SPI_STAT.DONE m) = true ∧ (s.spiReply m rx).flag (AUX_SPI_STAT.BUSY m) = false ∧ (s.spiReply m rx).aux = s.aux := by
  have hne : AUX_SPI_RX.addr m ≠ AUX_SPI_STAT.addr m := by
    unfold AUX_SPI_RX.addr AUX_SPI_STAT.addr
    omega
  unfold State.spiReply
  refine ⟨?_, ?_, State.flag_put_zero _ _ (by show 0 + 1 ≤ 32; decide), by rw [State.put_aux, State.put_aux, State.setWord_aux]⟩
  · rw [State.word_put_ne _ _ _ hne, State.word_put_ne _ _ _ hne, State.word_setWord_same]
  · exact (State.flag_eq_get (State.get_put_apart _ _ _ _ (by show 0 + 1 ≤ 32; decide) (.inr (.inl (by show 1 ≤ 1; decide))))).trans
      (State.flag_put_one _ _ (by show 1 + 1 ≤ 32; decide) rfl)

theorem spi_done (s : State) (m : Fin 8) (rx : Word) (hl : s.live dAUX = true) (hb : s.flag (AUX_SPI_STAT.BUSY m) = true) : Completes (.spiDone m rx) s (fun t =>
    t.word (AUX_SPI_RX.addr m) = BitVec.ofNat 32 (rx.toNat % 2 ^ (s.app (AUX_SPI_CFG.LEN_M1 m) + 1)) ∧ t.flag (AUX_SPI_STAT.DONE m) = true
    ∧ t.flag (AUX_SPI_STAT.BUSY m) = vget s.aux.spiWait m ∧ t.pins.spiCsn.toNat.testBit m.val = ! vget s.aux.spiWait m) := by
  have hgo : (s.live dAUX && s.flag (AUX_SPI_STAT.BUSY m)) = true := by rw [hl, hb]; rfl
  have he : exec (.spiDone m rx) s = .next (if vget ((s.spiReply m rx).spiEnded m).aux.spiWait m then ((s.spiReply m rx).spiEnded m).spiNext m
      else (s.spiReply m rx).spiEnded m) := congrArg Host.Outcome.next (if_pos hgo)
  obtain ⟨hrx, hdone, hbusy, haux⟩ := s.spiReply_fields m rx
  generalize s.spiReply m rx = y at he hrx hdone hbusy haux
  obtain ⟨hregs, hwait, hcs⟩ := y.spiEnded_fields m
  have hword (a : Nat) : (y.spiEnded m).word a = y.word a := by rw [State.word_of_regs hregs]
  have hflag (f : Fld) : (y.spiEnded m).flag f = y.flag f := State.flag_eq_get (State.get_of_regs hregs f)
  rw [← hflag] at hdone hbusy
  rw [← hword] at hrx
  rw [hwait, haux] at he
  generalize y.spiEnded m = z at he hrx hdone hbusy hcs
  refine ⟨_, he, ?_⟩
  cases vget s.aux.spiWait m
  · exact ⟨hrx, hdone, hbusy, hcs⟩
  · obtain ⟨h1, h2, h3, h4⟩ := z.spiNext_fields m
    exact ⟨h4.trans hrx, (State.flag_eq_get h3).trans hdone, h1, h2⟩

/-- Settles O42, clause by clause: the slots of the monitor, then the commands of calibration, diagnosis, PWM outputs and SPI masters. -/
theorem auxCommandsComplete : Obligations.AuxCommandsComplete := by
  unfold Obligations.AuxCommandsComplete
  exact ⟨mon_slot, inj_slot, cal_slot, aux_inj, aux_calGo, cal_point_done, aux_calApply, aux_diagGo, aux_diagAbort, diag_done, pwm_period,
    fun s m src v ha hen => spi_go s m src v ha hen, spi_done⟩

end Sys2Proof.Machine
end

section
/-! PROOFS. The servo loops (R467 to R471). -/

namespace Sys2Proof.Machine

/-! ### The gate and the outputs -/

/-- The gate follows: no register but SRV_GATE_STAT moves, and neither a loop nor the sequencer. -/
theorem State.gateUpdate_keeps (s : State) : (∀ f : Fld, f.addr ≠ SRV_GATE_STAT.addr → s.gateUpdate.get f = s.get f)
    ∧ s.gateUpdate.srv.loop = s.srv.loop ∧ s.gateUpdate.srv.span = s.srv.span ∧ s.gateUpdate.srv.flat = s.srv.flat := by
  unfold State.gateUpdate
  dsimp only
  split
  · exact ⟨fun _ _ => rfl, rfl, rfl, rfl⟩
  · split
    · refine ⟨fun f hf => (State.get_put_reg _ _ _ _ hf).trans rfl, ?_, ?_, ?_⟩
      all_goals rw [State.put_srv]
    · refine ⟨fun f hf => (State.get_bump_apart _ _ _ (by decide) (.inl hf.symm)).trans ((State.get_put_reg _ _ _ _ hf).trans rfl), ?_, ?_, ?_⟩
      all_goals rw [State.bump_srv, State.put_srv]

/-- An output driven leaves every register and SRV. -/
theorem State.setOutput_keeps (s : State) (o v : Nat) : (∀ f, (s.setOutput o v).get f = s.get f) ∧ (∀ f, (s.setOutput o v).app f = s.app f)
    ∧ (s.setOutput o v).srv = s.srv := by
  have hk := Kept.setOutput (.refl _ s) (Foot.le_refl _) o v
  exact ⟨fun f => hk.get_of rfl, fun f => hk.app_of rfl, hk.part_of .srv rfl⟩

theorem State.loop_setLoop (s : State) (l : Fin 4) (x : SrvLoop) : (s.setLoop l x).loop l = x := vget_vset_same _ _ _

theorem State.get_setLoop (s : State) (l : Fin 4) (x : SrvLoop) (f : Fld) : (s.setLoop l x).get f = s.get f := rfl

theorem State.app_setLoop (s : State) (l : Fin 4) (x : SrvLoop) (f : Fld) : (s.setLoop l x).app f = s.app f := rfl

theorem State.loop_put (s : State) (f : Fld) (v : Nat) (l : Fin 4) : (s.put f v).loop l = s.loop l := by
  rw [State.loop, State.loop, State.put_srv]

theorem State.loop_of_srv {s t : State} (h : t.srv = s.srv) (l : Fin 4) : t.loop l = s.loop l := by
  rw [State.loop, State.loop, h]

/-! ### A computation (R467 to R470) -/

theorem SRV_LOOP.apart (l : Fin 4) : [SRV_LOOP_STAT.addr l, SRV_LOOP_OUT.addr l, SRV_LOOP_ERR.addr l, SRV_LOOP_INT.addr l, SRV_LOOP_CNT.addr l,
    SRV_GATE_STAT.addr].Nodup := by
  revert l
  decide +kernel

/-- What loop l reports: its output and its error. -/
theorem State.loopReport_fields (s : State) (l : Fin 4) (u e i : Int) : let t := s.loopReport l u e i
    t.get (SRV_LOOP_OUT.OUT l) = (clampInt 0 65535 (u / 4096)).toNat ∧ t.get (SRV_LOOP_ERR.ERR l) = ofSigned 17 e ∧ t.srv = s.srv := by
  obtain ⟨-, -, hsrv⟩ := s.setOutput_keeps (s.app (SRV_LOOP_CFG.OUT_SEL l)) (clampInt 0 65535 (u / 4096)).toNat
  have hlt : (clampInt 0 65535 (u / 4096)).toNat < 2 ^ 16 := by
    unfold clampInt
    omega
  unfold State.loopReport
  have hne : SRV_LOOP_OUT.addr l ≠ SRV_LOOP_ERR.addr l ∧ SRV_LOOP_OUT.addr l ≠ SRV_LOOP_INT.addr l ∧ SRV_LOOP_ERR.addr l ≠ SRV_LOOP_INT.addr l := by
    unfold SRV_LOOP_OUT.addr SRV_LOOP_ERR.addr SRV_LOOP_INT.addr
    omega
  obtain ⟨h1, h2, h3⟩ := hne
  refine ⟨?_, ?_, by rw [State.put_srv, State.put_srv, State.put_srv, hsrv]⟩
  · rw [State.get_put_reg _ _ _ _ h2, State.get_put_reg _ _ _ _ h1, State.get_put_same _ _ _ (by show 0 + 16 ≤ 32; decide)]
    exact Nat.mod_eq_of_lt hlt
  · rw [State.get_put_reg _ _ _ _ h3, State.get_put_same _ _ _ (by show 0 + 17 ≤ 32; decide)]
    exact Nat.mod_eq_of_lt (ofSigned_lt _ _)

/-- The settling of a loop: its status alone moves, and its count of settled computations. -/
theorem State.loopSettle_keeps (s : State) (l : Fin 4) (e : Int) : (∀ f : Fld, f.addr ≠ SRV_LOOP_STAT.addr l → (s.loopSettle l e).get f = s.get f)
    ∧ ∃ n, (s.loopSettle l e).loop l = { s.loop l with settled := n } := by
  unfold State.loopSettle State.putB
  refine ⟨fun f hf => (State.get_put_reg _ _ _ _ hf).trans rfl, _, (State.loop_put _ _ _ _).trans (State.loop_setLoop _ _ _)⟩

/-- A law applied: the loop takes x, reports, and settles. -/
def State.lawApplied (s : State) (l : Fin 4) (x : SrvLoop) (u e i : Int) (wind : Bool) : State :=
  (if wind then (((s.setLoop l x).loopReport l u e i).putB (SRV_LOOP_STAT.AW l) wind).bump (SRV_LOOP_CNT.SAT l)
    else ((s.setLoop l x).loopReport l u e i).putB (SRV_LOOP_STAT.AW l) wind).loopSettle l e

theorem State.lawApplied_fields (s : State) (l : Fin 4) (x : SrvLoop) (u e i : Int) (wind : Bool) : let t := s.lawApplied l x u e i wind
    t.get (SRV_LOOP_OUT.OUT l) = (clampInt 0 65535 (u / 4096)).toNat ∧ t.get (SRV_LOOP_ERR.ERR l) = ofSigned 17 e ∧ ∃ n, t.loop l = { x with settled := n } := by
  obtain ⟨hout, herr, hsrv⟩ := (s.setLoop l x).loopReport_fields l u e i
  have hloop := (State.loop_of_srv hsrv l).trans (s.loop_setLoop l x)
  unfold State.lawApplied
  generalize (s.setLoop l x).loopReport l u e i = y at hout herr hloop
  have hne : SRV_LOOP_OUT.addr l ≠ SRV_LOOP_STAT.addr l ∧ SRV_LOOP_ERR.addr l ≠ SRV_LOOP_STAT.addr l ∧ SRV_LOOP_CNT.addr l ≠ SRV_LOOP_OUT.addr l
      ∧ SRV_LOOP_CNT.addr l ≠ SRV_LOOP_ERR.addr l := by
    unfold SRV_LOOP_OUT.addr SRV_LOOP_ERR.addr SRV_LOOP_CNT.addr SRV_LOOP_STAT.addr
    omega
  obtain ⟨h1, h2, h3, h4⟩ := hne
  have hz : ∀ z : State, (z.get (SRV_LOOP_OUT.OUT l) = y.get (SRV_LOOP_OUT.OUT l) ∧ z.get (SRV_LOOP_ERR.ERR l) = y.get (SRV_LOOP_ERR.ERR l) ∧ z.loop l = y.loop l) →
      (z.loopSettle l e).get (SRV_LOOP_OUT.OUT l) = (clampInt 0 65535 (u / 4096)).toNat ∧ (z.loopSettle l e).get (SRV_LOOP_ERR.ERR l) = ofSigned 17 e
      ∧ ∃ n, (z.loopSettle l e).loop l = { x with settled := n } := by
    intro z ⟨ho, he, hl⟩
    obtain ⟨hg, n, hn⟩ := z.loopSettle_keeps l e
    exact ⟨(hg _ h1).trans (ho.trans hout), (hg _ h2).trans (he.trans herr), n, by rw [hn, hl, hloop]⟩
  have haw (b : Bool) : (y.putB (SRV_LOOP_STAT.AW l) b).get (SRV_LOOP_OUT.OUT l) = y.get (SRV_LOOP_OUT.OUT l)
      ∧ (y.putB (SRV_LOOP_STAT.AW l) b).get (SRV_LOOP_ERR.ERR l) = y.get (SRV_LOOP_ERR.ERR l) ∧ (y.putB (SRV_LOOP_STAT.AW l) b).loop l = y.loop l :=
    ⟨State.get_put_reg _ _ _ _ h1, State.get_put_reg _ _ _ _ h2, State.loop_put _ _ _ _⟩
  obtain ⟨ho, he, hl⟩ := haw wind
  dsimp only
  split
  · refine hz _ ⟨(State.get_bump_apart _ _ _ (by show 0 + 16 ≤ 32; decide) (.inl h3)).trans ho,
      (State.get_bump_apart _ _ _ (by show 0 + 16 ≤ 32; decide) (.inl h4)).trans he, (State.loop_of_srv (State.bump_srv _ _) l).trans hl⟩
  · exact hz _ ⟨ho, he, hl⟩

/-- The error of a loop with measured value pv. -/
def State.loopErr (s : State) (l : Fin 4) (pv : Int) : Int := if s.appFlag (SRV_LOOP_CFG.INV l) then pv - s.loopSp l else s.loopSp l - pv

/-- A law leaves the state of a loop with this measured value. -/
theorem State.loopLaw_eq (s : State) (l : Fin 4) (pv : Int) : ∃ x u i wind, s.loopLaw l pv = s.lawApplied l x u (s.loopErr l pv) i wind
    ∧ x.pvPrev = some pv ∧ x.held = 0 ∧ x.results = (s.loop l).results ∧ x.usable = (s.loop l).usable ∧ x.sum = (s.loop l).sum
    ∧ (s.get (SRV_LOOP_STAT.STATE l) ≠ lAUTO → u = s.slewed l (q12 (s.app (SRV_LOOP_SP.MAN l)))) :=
  ⟨_, _, _, _, rfl, rfl, rfl, rfl, rfl, rfl, fun h => if_neg (by rw [beq_false_of_ne h]; decide)⟩

theorem q12_div (v : Int) : q12 v / 4096 = v := by
  unfold q12
  omega

theorem clampInt_of_lt {n : Nat} (h : n < 65536) : (clampInt 0 65535 (n : Int)).toNat = n := by
  unfold clampInt
  omega

theorem State.app_lt_16 (s : State) (f : Fld) (h : f.n = 16) : s.app f < 65536 := by
  have hlt : s.app f < 2 ^ f.n := bitsOf_lt _ _ _
  rwa [h] at hlt

/-- The results of loop l are taken. -/
def State.loopTaken (s : State) (l : Fin 4) : State := s.setLoop l { s.loop l with results := 0, usable := 0, sum := 0 }

theorem State.loopTaken_loop (s : State) (l : Fin 4) : (s.loopTaken l).loop l = { s.loop l with results := 0, usable := 0, sum := 0 } := s.loop_setLoop l _

theorem State.loopErr_loopTaken (s : State) (l : Fin 4) (pv : Int) : (s.loopTaken l).loopErr l pv = s.loopErr l pv := by
  have hsp : (s.loopTaken l).loopSp l = s.loopSp l := by
    unfold State.loopSp
    rw [State.loopTaken_loop]
    rfl
  unfold State.loopErr
  rw [hsp]
  rfl

/-- Loop l holds DIV results and no mean: it holds. -/
def State.loopHold (s : State) (l : Fin 4) (n : Nat) : State :=
  let s := (s.put (SRV_LOOP_STAT.HELD l) 1).bump (SRV_LOOP_CNT.HOLDS l)
  s.setLoop l { s.loop l with held := n }

/-- Loop l has held too long. -/
def State.loopFault (s : State) (l : Fin 4) : State :=
  let s := ((s.put (SRV_LOOP_STAT.STATE l) lFAULT).put (SRV_LOOP_STAT.SETTLED l) 0).loopSafe l
  let s := s.setLoop l { s.loop l with settled := 0, held := 0 }
  (s.fltInfo 0x25 l 0x18 srvLocation 0).gateUpdate

theorem exec_loopCompute (s : State) (l : Fin 4) (hl : s.live dAUX = true) (hn : s.app (SRV_LOOP_CFG.DIV_M1 l) < (s.loop l).results)
    (hst : s.get (SRV_LOOP_STAT.STATE l) = lMANUAL ∨ s.get (SRV_LOOP_STAT.STATE l) = lAUTO) : exec (.loopCompute l) s =
    .next (if (s.loop l).usable = 0 then
        if ((s.loopTaken l).loopHold l ((s.loop l).held + 1)).app (SRV_LOOP_SLEW.HOLD_MAX l) ≤ (s.loop l).held + 1 then
          ((s.loopTaken l).loopHold l ((s.loop l).held + 1)).loopFault l
        else (s.loopTaken l).loopHold l ((s.loop l).held + 1)
      else ((s.loopTaken l).loopLaw l ((s.loop l).sum / (s.loop l).usable : Nat)).gateUpdate) := by
  have hstate : (s.get (SRV_LOOP_STAT.STATE l) == lMANUAL || s.get (SRV_LOOP_STAT.STATE l) == lAUTO) = true := by
    rcases hst with h | h <;> rw [h] <;> rfl
  exact congrArg Host.Outcome.next (if_neg (by rw [hl, hstate, decide_eq_true hn]; decide))

/-- A loop computes with its mean: what the computation leaves. -/
theorem loop_compute_mean (s : State) (l : Fin 4) (hl : s.live dAUX = true) (hn : s.app (SRV_LOOP_CFG.DIV_M1 l) < (s.loop l).results)
    (hst : s.get (SRV_LOOP_STAT.STATE l) = lMANUAL ∨ s.get (SRV_LOOP_STAT.STATE l) = lAUTO) (hu : (s.loop l).usable ≠ 0) :
    let pv : Int := ((s.loop l).sum / (s.loop l).usable : Nat)
    let e : Int := if s.appFlag (SRV_LOOP_CFG.INV l) then pv - s.loopSp l else s.loopSp l - pv
    Completes (.loopCompute l) s (fun t => t.get (SRV_LOOP_ERR.ERR l) = ofSigned 17 e ∧ (t.loop l).pvPrev = some pv ∧ (t.loop l).held = 0
      ∧ (t.loop l).results = 0 ∧ (t.loop l).usable = 0 ∧ (t.loop l).sum = 0
      ∧ (s.get (SRV_LOOP_STAT.STATE l) = lMANUAL → s.app (SRV_LOOP_SLEW.SLEW l) = 0 → t.get (SRV_LOOP_OUT.OUT l) = s.app (SRV_LOOP_SP.MAN l))) := by
  intro pv e
  have he := exec_loopCompute s l hl hn hst
  rw [if_neg hu] at he
  obtain ⟨x, u, i, wind, hlaw, hpv, hheld, hres, huse, hsum, hman⟩ := (s.loopTaken l).loopLaw_eq l pv
  rw [State.loopTaken_loop] at hres huse hsum
  rw [State.loopErr_loopTaken] at hlaw
  obtain ⟨hout, herr, n, hloop⟩ := (s.loopTaken l).lawApplied_fields l x u (s.loopErr l pv) i wind
  rw [hlaw] at he
  generalize (s.loopTaken l).lawApplied l x u (s.loopErr l pv) i wind = y at he hout herr hloop
  obtain ⟨hg, hgl, -, -⟩ := y.gateUpdate_keeps
  have hne : SRV_LOOP_OUT.addr l ≠ SRV_GATE_STAT.addr ∧ SRV_LOOP_ERR.addr l ≠ SRV_GATE_STAT.addr := by
    unfold SRV_LOOP_OUT.addr SRV_LOOP_ERR.addr SRV_GATE_STAT.addr
    omega
  have hx : y.gateUpdate.loop l = { x with settled := n } := by rw [State.loop, hgl]; exact hloop
  refine ⟨_, he, (hg _ hne.2).trans herr, ?_, ?_, ?_, ?_, ?_, fun hm hs => (hg _ hne.1).trans (hout.trans ?_)⟩
  · rw [hx]
    exact hpv
  · rw [hx]
    exact hheld
  · rw [hx]
    exact hres
  · rw [hx]
    exact huse
  · rw [hx]
    exact hsum
  · have hstat : (s.loopTaken l).get (SRV_LOOP_STAT.STATE l) ≠ lAUTO := by
      rw [show (s.loopTaken l).get (SRV_LOOP_STAT.STATE l) = lMANUAL from hm]
      decide
    have hslew : (s.loopTaken l).slewed l (q12 (s.app (SRV_LOOP_SP.MAN l))) = q12 (s.app (SRV_LOOP_SP.MAN l)) := if_pos (by
      rw [show (s.loopTaken l).app (SRV_LOOP_SLEW.SLEW l) = 0 from hs]
      rfl)
    rw [hman hstat, show (s.loopTaken l).app (SRV_LOOP_SP.MAN l) = s.app (SRV_LOOP_SP.MAN l) from rfl, hslew, q12_div]
    exact clampInt_of_lt (s.app_lt_16 _ rfl)

theorem State.loopHold_fields (s : State) (l : Fin 4) (n : Nat) : let t := s.loopHold l n
    t.flag (SRV_LOOP_STAT.HELD l) = true ∧ t.get (SRV_LOOP_CNT.HOLDS l) = min (s.get (SRV_LOOP_CNT.HOLDS l) + 1) 65535
    ∧ t.loop l = { s.loop l with held := n } ∧ t.get (SRV_LOOP_STAT.STATE l) = s.get (SRV_LOOP_STAT.STATE l) ∧ ∀ f, t.app f = s.app f := by
  have hne : SRV_LOOP_CNT.addr l ≠ SRV_LOOP_STAT.addr l := by
    unfold SRV_LOOP_CNT.addr SRV_LOOP_STAT.addr
    omega
  have hheld (y : State) (f : Fld) : ((y.bump (SRV_LOOP_CNT.HOLDS l)).setLoop l { (y.bump (SRV_LOOP_CNT.HOLDS l)).loop l with held := n }).get f
      = (y.bump (SRV_LOOP_CNT.HOLDS l)).get f := rfl
  have hbump (y : State) {f : Fld} (hf : f.addr = SRV_LOOP_STAT.addr l) : (y.bump (SRV_LOOP_CNT.HOLDS l)).get f = y.get f :=
    State.get_bump_apart _ _ _ (by show 16 + 16 ≤ 32; decide) (.inl (by rw [hf]; exact hne))
  unfold State.loopHold
  refine ⟨?_, ?_, ?_, ?_, fun f => ?_⟩
  · exact (State.flag_eq_get ((hheld _ _).trans (hbump _ rfl))).trans (State.flag_put_one _ _ (by show 6 + 1 ≤ 32; decide) rfl)
  · exact (hheld _ _).trans ((State.get_bump_min _ _ (by show 16 + 16 ≤ 32; decide)).trans (by
      rw [State.get_put_reg _ _ _ _ hne]
      rfl))
  · rw [State.loop_setLoop, State.loop_of_srv (State.bump_srv _ _), State.loop_put]
  · exact (hheld _ _).trans ((hbump _ rfl).trans (State.get_put_apart _ _ _ _ (by show 6 + 1 ≤ 32; decide) (.inr (.inr (by show 0 + 3 ≤ 6; decide)))))
  · rw [State.app_setLoop, State.app_of_applied (State.bump_applied _ _), State.app_put]

theorem State.loopSafe_fields (s : State) (l : Fin 4) : let t := s.loopSafe l
    t.get (SRV_LOOP_OUT.OUT l) = s.safeOf (s.app (SRV_LOOP_CFG.OUT_SEL l)) ∧ (∀ f : Fld, f.addr ≠ SRV_LOOP_OUT.addr l → t.get f = s.get f)
    ∧ t.loop l = { s.loop l with uPrev := q12 (s.safeOf (s.app (SRV_LOOP_CFG.OUT_SEL l))) } := by
  have hlt : s.safeOf (s.app (SRV_LOOP_CFG.OUT_SEL l)) < 2 ^ 16 := by
    unfold State.safeOf
    split
    · exact s.app_lt_16 _ rfl
    · exact s.app_lt_16 _ rfl
  unfold State.loopSafe
  dsimp only
  generalize s.safeOf _ = v at hlt
  obtain ⟨hget, -, hsrv⟩ := s.setOutput_keeps (s.app (SRV_LOOP_CFG.OUT_SEL l)) v
  generalize s.setOutput _ v = y at hget hsrv
  refine ⟨?_, fun f hf => ?_, ?_⟩
  · exact (State.get_setLoop _ _ _ _).trans ((State.get_put_same _ _ _ (by show 0 + 16 ≤ 32; decide)).trans (Nat.mod_eq_of_lt hlt))
  · exact (State.get_setLoop _ _ _ _).trans ((State.get_put_reg _ _ _ _ hf).trans (hget f))
  · rw [State.loop_setLoop, State.loop_put, State.loop_of_srv hsrv]

/-- The last of a fault: its counts cleared, its record, and the gate. -/
def State.loopFaulted (s : State) (l : Fin 4) : State := ((s.setLoop l { s.loop l with settled := 0, held := 0 }).fltInfo 0x25 l 0x18 srvLocation 0).gateUpdate

theorem State.loopFaulted_fields (s : State) (l : Fin 4) :
    (∀ f : Fld, f.addr / 0x10000 = 0x18 → f.addr ≠ SRV_GATE_STAT.addr → (s.loopFaulted l).get f = s.get f)
    ∧ (s.loopFaulted l).loop l = { s.loop l with settled := 0, held := 0 } := by
  have hk := Kept.fltInfo (.refl _ (s.setLoop l { s.loop l with settled := 0, held := 0 })) (Foot.le_refl _) 0x25 l 0x18 srvLocation 0
  unfold State.loopFaulted
  obtain ⟨hg, hgl, -, -⟩ := State.gateUpdate_keeps ((s.setLoop l { s.loop l with settled := 0, held := 0 }).fltInfo 0x25 l 0x18 srvLocation 0)
  refine ⟨fun f hf hf' => (hg f hf').trans ((hk.get_of (Foot.word_of_win hf rfl)).trans rfl), ?_⟩
  rw [State.loop, hgl, hk.part_of .srv rfl]
  exact s.loop_setLoop l _

theorem SRV_LOOP_STAT.addr_apart (l : Fin 4) : SRV_LOOP_STAT.addr l ≠ SRV_LOOP_OUT.addr l ∧ SRV_LOOP_CNT.addr l ≠ SRV_LOOP_OUT.addr l
    ∧ SRV_LOOP_CNT.addr l ≠ SRV_LOOP_STAT.addr l ∧ SRV_LOOP_OUT.addr l ≠ SRV_GATE_STAT.addr ∧ SRV_LOOP_STAT.addr l ≠ SRV_GATE_STAT.addr
    ∧ SRV_LOOP_CNT.addr l ≠ SRV_GATE_STAT.addr := by
  revert l
  decide +kernel

theorem State.loopFault_fields (s : State) (l : Fin 4) : let t := s.loopFault l
    t.get (SRV_LOOP_STAT.STATE l) = lFAULT ∧ t.flag (SRV_LOOP_STAT.SETTLED l) = false ∧ t.flag (SRV_LOOP_STAT.HELD l) = s.flag (SRV_LOOP_STAT.HELD l)
    ∧ t.get (SRV_LOOP_CNT.HOLDS l) = s.get (SRV_LOOP_CNT.HOLDS l)
    ∧ t.get (SRV_LOOP_OUT.OUT l) = s.safeOf (s.app (SRV_LOOP_CFG.OUT_SEL l)) ∧ (t.loop l).results = (s.loop l).results := by
  let y := (s.put (SRV_LOOP_STAT.STATE l) lFAULT).put (SRV_LOOP_STAT.SETTLED l) 0
  have hy : s.loopFault l = (y.loopSafe l).loopFaulted l := rfl
  obtain ⟨hso, hcn, hcs, hog, hsg, hcg⟩ := SRV_LOOP_STAT.addr_apart l
  have happ (f : Fld) : y.app f = s.app f := (State.app_put _ _ _ _).trans (State.app_put _ _ _ _)
  have hsafe (o : Nat) : y.safeOf o = s.safeOf o := by
    unfold State.safeOf
    rw [happ, happ]
  have hstate : y.get (SRV_LOOP_STAT.STATE l) = lFAULT :=
    (State.get_put_apart _ _ _ _ (by show 4 + 1 ≤ 32; decide) (.inr (.inr (by show 0 + 3 ≤ 4; decide)))).trans (State.get_put_same _ _ _ (by show 0 + 3 ≤ 32; decide))
  have hset : y.flag (SRV_LOOP_STAT.SETTLED l) = false := State.flag_put_zero _ _ (by show 4 + 1 ≤ 32; decide)
  have hheld : y.flag (SRV_LOOP_STAT.HELD l) = s.flag (SRV_LOOP_STAT.HELD l) :=
    State.flag_eq_get ((State.get_put_apart _ _ _ _ (by show 4 + 1 ≤ 32; decide) (.inr (.inl (by show 4 + 1 ≤ 6; decide)))).trans
      (State.get_put_apart _ _ _ _ (by show 0 + 3 ≤ 32; decide) (.inr (.inl (by show 0 + 3 ≤ 6; decide)))))
  have hholds : y.get (SRV_LOOP_CNT.HOLDS l) = s.get (SRV_LOOP_CNT.HOLDS l) := (State.get_put_reg _ _ _ _ hcs).trans (State.get_put_reg _ _ _ _ hcs)
  have hloop : y.loop l = s.loop l := (State.loop_put _ _ _ _).trans (State.loop_put _ _ _ _)
  rw [hy]
  generalize y = y at happ hsafe hstate hset hheld hholds hloop
  obtain ⟨hout, hget, hl⟩ := y.loopSafe_fields l
  generalize y.loopSafe l = z at hout hget hl
  obtain ⟨hget', hl'⟩ := z.loopFaulted_fields l
  have hwin : SRV_LOOP_STAT.addr l / 0x10000 = 0x18 ∧ SRV_LOOP_CNT.addr l / 0x10000 = 0x18 ∧ SRV_LOOP_OUT.addr l / 0x10000 = 0x18 :=
    ⟨SRV_LOOP_STAT.addr_win l, SRV_LOOP_CNT.addr_win l, SRV_LOOP_OUT.addr_win l⟩
  obtain ⟨hw1, hw2, hw3⟩ := hwin
  refine ⟨(hget' _ hw1 hsg).trans ((hget _ hso).trans hstate), (State.flag_eq_get ((hget' _ hw1 hsg).trans (hget _ hso))).trans hset,
    (State.flag_eq_get ((hget' _ hw1 hsg).trans (hget _ hso))).trans hheld, (hget' _ hw2 hcg).trans ((hget _ hcn).trans hholds),
    (hget' _ hw3 hog).trans (hout.trans (by rw [hsafe, happ])), ?_⟩
  rw [hl', hl, hloop]

theorem loop_compute_hold (s : State) (l : Fin 4) (hl : s.live dAUX = true) (hn : s.app (SRV_LOOP_CFG.DIV_M1 l) < (s.loop l).results)
    (hst : s.get (SRV_LOOP_STAT.STATE l) = lMANUAL ∨ s.get (SRV_LOOP_STAT.STATE l) = lAUTO) (hu : (s.loop l).usable = 0) :
    Completes (.loopCompute l) s (fun t => t.flag (SRV_LOOP_STAT.HELD l) = true
      ∧ t.get (SRV_LOOP_CNT.HOLDS l) = min (s.get (SRV_LOOP_CNT.HOLDS l) + 1) 65535 ∧ (t.loop l).results = 0
      ∧ ((s.loop l).held + 1 < s.app (SRV_LOOP_SLEW.HOLD_MAX l) → (t.loop l).held = (s.loop l).held + 1 ∧ t.get (SRV_LOOP_STAT.STATE l) = s.get (SRV_LOOP_STAT.STATE l))
      ∧ (s.app (SRV_LOOP_SLEW.HOLD_MAX l) ≤ (s.loop l).held + 1 → t.get (SRV_LOOP_STAT.STATE l) = lFAULT ∧ t.flag (SRV_LOOP_STAT.SETTLED l) = false
        ∧ t.get (SRV_LOOP_OUT.OUT l) = s.safeOf (s.app (SRV_LOOP_CFG.OUT_SEL l)))) := by
  have he := exec_loopCompute s l hl hn hst
  rw [if_pos hu] at he
  have htaken : (s.loopTaken l).get (SRV_LOOP_CNT.HOLDS l) = s.get (SRV_LOOP_CNT.HOLDS l)
      ∧ (s.loopTaken l).get (SRV_LOOP_STAT.STATE l) = s.get (SRV_LOOP_STAT.STATE l) := ⟨State.get_setLoop _ _ _ _, State.get_setLoop _ _ _ _⟩
  have happ' (f : Fld) : (s.loopTaken l).app f = s.app f := State.app_setLoop _ _ _ _
  obtain ⟨hheld, hholds, hloop, hstate, happ⟩ := (s.loopTaken l).loopHold_fields l ((s.loop l).held + 1)
  rw [State.loopTaken_loop] at hloop
  rw [htaken.1] at hholds
  rw [htaken.2] at hstate
  have happ'' (f : Fld) := (happ f).trans (happ' f)
  generalize (s.loopTaken l).loopHold l ((s.loop l).held + 1) = y at he hheld hholds hloop hstate happ''
  rw [happ''] at he
  refine ⟨_, he, ?_⟩
  by_cases hmax : s.app (SRV_LOOP_SLEW.HOLD_MAX l) ≤ (s.loop l).held + 1
  · obtain ⟨h1, h2, h3, h4, h5, h6⟩ := y.loopFault_fields l
    have hsafe (o : Nat) : y.safeOf o = s.safeOf o := by
      unfold State.safeOf
      rw [happ'', happ'']
    rw [if_pos hmax]
    exact ⟨h3.trans hheld, h4.trans hholds, h6.trans (by rw [hloop]), fun h => absurd h (Nat.not_lt.mpr hmax), fun _ => ⟨h1, h2, h5.trans (by rw [hsafe, happ''])⟩⟩
  · rw [if_neg hmax]
    exact ⟨hheld, hholds, by rw [hloop], fun _ => ⟨by rw [hloop], hstate⟩, fun h => absurd h hmax⟩

/-! ### CLR_FAULT (R469) -/

/-- Loop l after CLR_FAULT. -/
def State.faultCleared (s : State) (l : Fin 4) : State :=
  let safe := q12 (s.safeOf (s.app (SRV_LOOP_CFG.OUT_SEL l)))
  s.setLoop l { s.loop l with i := safe - (s.loop l).terms, pvPrev := none, uPrev := safe, held := 0, settled := 0, results := 0, usable := 0, sum := 0 }

theorem State.clrFault_ok (s : State) (l : Fin 4) (h : s.get (SRV_LOOP_STAT.STATE l) = lFAULT) : ∃ n,
    s.clrFault l = .ok (((s.faultCleared l).put (SRV_LOOP_STAT.STATE l) (s.app (SRV_LOOP_CFG.MODE l))).put (SRV_LOOP_INT.INT l) n) :=
  ⟨_, if_neg (by rw [h]; decide)⟩

theorem srvRules_act_loop (src : Source) (l : Fin 4) (w : Word) (s : State) (hw : w.toNat.testBit 0 = true) :
    srvRules.act src (SRV_LOOP_CMD.addr l) w s = s.clrFault l := by
  have hl : ∀ l : Fin 4, (SRV_LOOP_CMD.addr l == SRV_SS_CMD.addr) = false ∧ SRV_LOOP_CMD.addr l < 0x180100 ∧ loopOf (SRV_LOOP_CMD.addr l) = l.val := by decide +kernel
  obtain ⟨h1, h2, h3⟩ := hl l
  simp only [srvRules, h1, if_pos h2, h3, hw, beq_self_eq_true, Bool.and_self, Bool.false_eq_true, if_true, if_false, Fin.ofNat_val_eq_self]

theorem loop_clrFault (s : State) (l : Fin 4) (src : Source) (v : Word) (ha : s.admits srvRules src (SRV_LOOP_CMD.addr l) (v ||| 1))
    (hf : s.get (SRV_LOOP_STAT.STATE l) = lFAULT) : Completes (.clrFault l src v) s (fun t =>
      t.okAnswer ∧ t.get (SRV_LOOP_STAT.STATE l) = s.app (SRV_LOOP_CFG.MODE l) ∧ (t.loop l).pvPrev = none
      ∧ (t.loop l).i = q12 (s.safeOf (s.app (SRV_LOOP_CFG.OUT_SEL l))) - (s.loop l).terms) := by
  have hplain : ∀ l : Fin 4, normalAddr (SRV_LOOP_CMD.addr l) = SRV_LOOP_CMD.addr l ∧ viewOf (SRV_LOOP_CMD.addr l) = .normal
    ∧ SRV_LOOP_STAT.addr l ≠ SRV_LOOP_CMD.addr l ∧ SRV_LOOP_STAT.addr l ≠ SRV_LOOP_INT.addr l := by decide +kernel
  obtain ⟨hn, hv, hne, hint⟩ := hplain l
  have hstate : (s.landed (SRV_LOOP_CMD.addr l) (v ||| 1)).get (SRV_LOOP_STAT.STATE l) = lFAULT := (State.get_landed_ne _ _ _ _ hne).trans hf
  have hloop : (s.landed (SRV_LOOP_CMD.addr l) (v ||| 1)).loop l = s.loop l := State.loop_of_srv (State.setWord_srv _ _ _) l
  have happ (f : Fld) := State.app_landed s (SRV_LOOP_CMD.addr l) (v ||| 1) f
  have hact := srvRules_act_loop src l (v ||| 1) (s.landed (SRV_LOOP_CMD.addr l) (v ||| 1)) (testBit_or_right v 1 (by decide))
  generalize hx : s.landed (SRV_LOOP_CMD.addr l) (v ||| 1) = x at hstate hloop happ hact
  have hsafe (o : Nat) : x.safeOf o = s.safeOf o := by
    unfold State.safeOf
    rw [happ, happ]
  obtain ⟨n, hgo⟩ := x.clrFault_ok l hstate
  have hl : (((x.faultCleared l).put (SRV_LOOP_STAT.STATE l) (x.app (SRV_LOOP_CFG.MODE l))).put (SRV_LOOP_INT.INT l) n).loop l = (x.faultCleared l).loop l :=
    (State.loop_put _ _ _ _).trans (State.loop_put _ _ _ _)
  have hc : (x.faultCleared l).loop l = _ := x.loop_setLoop l _
  refine .of_write rfl ha hn hv (by rw [hx, hact, hgo]) ⟨State.answer_ok _, (State.answer_get _ _ _ _).trans ((State.get_put_reg _ _ _ _ hint).trans ?_), ?_, ?_⟩
  · refine (State.get_put_same _ _ _ (by show 0 + 3 ≤ 32; decide)).trans ?_
    rw [happ]
    exact Nat.mod_eq_of_lt (lt_trans (bitsOf_lt _ _ 2) (show 2 ^ 2 < 2 ^ 3 by decide))
  · rw [State.loop_of_srv (State.answer_srv _ _ _), hl, hc]
  · rw [State.loop_of_srv (State.answer_srv _ _ _), hl, hc, hsafe, happ, hloop]

end Sys2Proof.Machine
end

section
/-! PROOFS. The stepped-span sequencer (R476 to R484). -/

namespace Sys2Proof.Machine

/-! ### What the parts of a step leave -/

/-- The sequencer has stopped with a cause. -/
def State.spanIdle (c : Nat) (t : State) : Prop := t.ssState = ssIDLE ∧ t.get SRV_SS_STAT.STOP_CAUSE = c ∧ t.srv.flat = none

/-- Step k settles from time τ on. -/
def State.spanSettles (τ : Stamp) (k : Nat) (t : State) : Prop :=
  t.ssState = ssSETTLE ∧ t.get SRV_SS_STAT.STEP = k ∧ t.srv.span.start = τ ∧ t.srv.span.opened = none

/-- The registers of SRV in t are those of s. -/
def State.srvRegs (s t : State) : Prop := ∀ f : Fld, f.addr / 0x10000 = 0x18 → t.get f = s.get f

/-- The owned masters are shown in the registers of AUX alone. -/
theorem State.spiOwned_keeps (s : State) : s.srvRegs s.spiOwned ∧ s.spiOwned.srv = s.srv ∧ s.spiOwned.now = s.now ∧ ∀ f, s.spiOwned.app f = s.app f := by
  have hk := Kept.spiOwned (.refl _ s) (Foot.le_refl _)
  exact ⟨fun f hf => hk.get_of (Foot.word_of_win hf rfl), hk.part_of .srv rfl, by rw [State.now, State.now, hk.part_of .alm rfl], fun f => hk.app_of rfl⟩

/-- A frame of a step: the sequencer's frames alone move in SRV. -/
theorem State.stepFrame_keeps (s : State) (m : Fin 8) : s.srvRegs (s.stepFrame m)
    ∧ (s.stepFrame m).srv.span.start = s.srv.span.start ∧ (s.stepFrame m).srv.span.opened = s.srv.span.opened := by
  have hk := Kept.stepFrame (.refl _ s) (Foot.le_refl _) m
  refine ⟨fun f hf => hk.get_of (Foot.word_of_win hf rfl), ?_⟩
  unfold State.stepFrame
  dsimp only
  split
  · exact ⟨rfl, rfl⟩
  · have hs := Kept.spiStart (.refl _ (s.modSpan (fun x => { x with frames := setBit x.frames m true }))) (Foot.le_refl _) m true
    rw [hs.part_of .srv rfl]
    exact ⟨rfl, rfl⟩

/-- The values of step k at output and loop i. -/
def State.stepOutput (k : Nat) (s : State) (i : Fin 4) : State :=
  let v := s.stepValue k i
  let s := if s.appFlag (SRV_LOOP_CFG.SP_SRC i) then s.setLoop i { s.loop i with sp := v } else s
  let s := if s.app (AUX_CDAC.OWNER i) == 2 then s.setCdac i v else s
  if s.app (AUX_PWM.OWNER i) == 2 then s.setDuty i v else s

theorem State.stepOutput_keeps (k : Nat) (s : State) (i : Fin 4) : (s.stepOutput k i).regs = s.regs ∧ (s.stepOutput k i).srv.span = s.srv.span := by
  have hset (x : State) (b : Bool) (v : Nat) : (if b then x.setLoop i { x.loop i with sp := v } else x).regs = x.regs
      ∧ (if b then x.setLoop i { x.loop i with sp := v } else x).srv.span = x.srv.span := by cases b <;> exact ⟨rfl, rfl⟩
  have hcdac (x : State) (b : Bool) (v : Nat) : (if b then x.setCdac i v else x).regs = x.regs ∧ (if b then x.setCdac i v else x).srv.span = x.srv.span := by
    cases b <;> exact ⟨rfl, rfl⟩
  have hduty (x : State) (b : Bool) (v : Nat) : (if b then x.setDuty i v else x).regs = x.regs ∧ (if b then x.setDuty i v else x).srv.span = x.srv.span := by
    cases b <;> exact ⟨rfl, rfl⟩
  unfold State.stepOutput
  exact ⟨(hduty _ _ _).1.trans ((hcdac _ _ _).1.trans (hset _ _ _).1), (hduty _ _ _).2.trans ((hcdac _ _ _).2.trans (hset _ _ _).2)⟩

/-- Step k shown as settling, with its times. -/
def State.stepBegun (s : State) (k : Nat) : State :=
  ((s.put SRV_SS_STAT.STATE ssSETTLE).put SRV_SS_STAT.STEP k).modSpan (fun x =>
    { x with start := ((s.put SRV_SS_STAT.STATE ssSETTLE).put SRV_SS_STAT.STEP k).now, opened := none, frames := 0, gap := false })

/-- The flatness of step k. -/
def State.stepFlat (s : State) (k : Nat) : State :=
  { s with srv := { s.srv with flat := some (s.srv.span.ch, s.appFlag (SRV_STEP_AUX.FLAT_EN k), s.app (SRV_STEP_AUX.FLAT_SEL k)) } }

/-- The frames of step k. -/
def State.stepFrames (s : State) (mask : Nat) : State :=
  (List.finRange 8).foldl (fun (s : State) (m : Fin 8) => if mask.testBit m then s.stepFrame m else s) s

theorem State.stepStart_eq (s : State) (k : Nat) : s.stepStart k =
    ((((List.finRange 4).foldl (State.stepOutput k) (s.stepBegun k)).stepFlat k).stepFrames
      ((((List.finRange 4).foldl (State.stepOutput k) (s.stepBegun k)).stepFlat k).app (SRV_STEP_AUX.SPI_MASK k))).gateUpdate := rfl

theorem State.stepBegun_fields (s : State) (k : Nat) (hk : k < 16) : (s.stepBegun k).spanSettles s.now k
    ∧ ∀ f : Fld, SRV_SS_STAT.STATE.clear f = true → SRV_SS_STAT.STEP.clear f = true → (s.stepBegun k).get f = s.get f := by
  let y := (s.put SRV_SS_STAT.STATE ssSETTLE).put SRV_SS_STAT.STEP k
  have hget (f : Fld) : (s.stepBegun k).get f = y.get f := rfl
  have hstate : y.get SRV_SS_STAT.STATE = ssSETTLE := (State.get_put_clear _ SRV_SS_STAT.STEP SRV_SS_STAT.STATE _ rfl).trans (State.get_put_same _ _ _ (by decide))
  have hstep : y.get SRV_SS_STAT.STEP = k := (State.get_put_same _ _ _ (by decide)).trans (Nat.mod_eq_of_lt hk)
  have hnow : y.now = s.now := by rw [State.now, State.now, State.put_alm, State.put_alm]
  refine ⟨⟨(hget _).trans hstate, (hget _).trans hstep, hnow, rfl⟩, fun f h1 h2 => (hget f).trans ((State.get_put_clear _ _ _ _ h2).trans (State.get_put_clear _ _ _ _ h1))⟩

theorem State.stepFrames_keeps (s : State) (mask : Nat) : s.srvRegs (s.stepFrames mask)
    ∧ (s.stepFrames mask).srv.span.start = s.srv.span.start ∧ (s.stepFrames mask).srv.span.opened = s.srv.span.opened := by
  unfold State.stepFrames
  refine List.foldl_inv (P := fun t => s.srvRegs t ∧ t.srv.span.start = s.srv.span.start ∧ t.srv.span.opened = s.srv.span.opened) (fun t m ⟨h1, h2, h3⟩ => ?_) _
    ⟨fun _ _ => rfl, rfl, rfl⟩
  obtain ⟨hg, hs, ho⟩ := t.stepFrame_keeps m
  split
  · exact ⟨fun f hf => (hg f hf).trans (h1 f hf), hs.trans h2, ho.trans h3⟩
  · exact ⟨h1, h2, h3⟩

/-- What a step that starts leaves: it settles, and of the registers of SRV only the state and the number of the step and the gate move. -/
theorem State.stepStart_fields (s : State) (k : Nat) (hk : k < 16) : (s.stepStart k).spanSettles s.now k
    ∧ ∀ f : Fld, f.addr / 0x10000 = 0x18 → f.addr ≠ SRV_GATE_STAT.addr → SRV_SS_STAT.STATE.clear f = true → SRV_SS_STAT.STEP.clear f = true →
      (s.stepStart k).get f = s.get f := by
  obtain ⟨⟨h1, h2, h3, h4⟩, h5⟩ := s.stepBegun_fields k hk
  rw [State.stepStart_eq]
  generalize s.stepBegun k = y at h1 h2 h3 h4 h5
  have hout : ((List.finRange 4).foldl (State.stepOutput k) y).regs = y.regs ∧ ((List.finRange 4).foldl (State.stepOutput k) y).srv.span = y.srv.span := by
    refine List.foldl_inv (P := fun t : State => t.regs = y.regs ∧ t.srv.span = y.srv.span) (fun t i ⟨ha, hb⟩ => ?_) _ ⟨rfl, rfl⟩
    exact ⟨(State.stepOutput_keeps k t i).1.trans ha, (State.stepOutput_keeps k t i).2.trans hb⟩
  generalize (List.finRange 4).foldl (State.stepOutput k) y = z at hout
  have hflat : (z.stepFlat k).regs = z.regs ∧ (z.stepFlat k).srv.span = z.srv.span := ⟨rfl, rfl⟩
  generalize z.stepFlat k = u at hflat
  obtain ⟨hg, hs, ho⟩ := u.stepFrames_keeps (u.app (SRV_STEP_AUX.SPI_MASK k))
  generalize u.stepFrames (u.app (SRV_STEP_AUX.SPI_MASK k)) = v at hg hs ho
  obtain ⟨hg', -, hs', -⟩ := v.gateUpdate_keeps
  have hspan : u.srv.span = y.srv.span := hflat.2.trans hout.2
  have hget (f : Fld) (hf : f.addr / 0x10000 = 0x18) (hn : f.addr ≠ SRV_GATE_STAT.addr) : v.gateUpdate.get f = y.get f :=
    (hg' f hn).trans ((hg f hf).trans (State.get_of_regs (hflat.1.trans hout.1) f))
  refine ⟨⟨(hget _ (by decide) (by decide)).trans h1, (hget _ (by decide) (by decide)).trans h2, ?_, ?_⟩, fun f hf hn hc1 hc2 => (hget f hf hn).trans (h5 f hc1 hc2)⟩
  · rw [hs', hs, hspan, h3]
  · rw [hs', ho, hspan, h4]

/-- No step's flatness, and no stop asked for. -/
def State.spanStopped (s : State) : State := ({ s with srv := { s.srv with flat := none } } : State).modSpan (fun x => { x with stop := false })

theorem State.spanStopped_fields (s : State) : (∀ f, s.spanStopped.get f = s.get f) ∧ s.spanStopped.srv.flat = none := ⟨fun _ => rfl, rfl⟩

/-- The sequencer shown as stopped with a cause. -/
def State.ssDone (s : State) (c : Nat) : State := ((s.put SRV_SS_STAT.STATE ssIDLE).put SRV_SS_STAT.STOP_CAUSE c).spanStopped

theorem State.ssStop_eq (s : State) (c : Nat) : s.ssStop c = (s.ssDone c).spiOwned.gateUpdate := rfl

theorem State.ssDone_fields (s : State) (c : Nat) (hc : c < 16) :
    ((s.ssDone c).get SRV_SS_STAT.STATE = ssIDLE ∧ (s.ssDone c).get SRV_SS_STAT.STOP_CAUSE = c) ∧ (s.ssDone c).srv.flat = none
    ∧ ∀ f : Fld, SRV_SS_STAT.STATE.clear f = true → SRV_SS_STAT.STOP_CAUSE.clear f = true → (s.ssDone c).get f = s.get f := by
  obtain ⟨hget, hflat⟩ := ((s.put SRV_SS_STAT.STATE ssIDLE).put SRV_SS_STAT.STOP_CAUSE c).spanStopped_fields
  refine ⟨⟨(hget _).trans ?_, (hget _).trans ?_⟩, hflat, fun f h1 h2 => (hget f).trans ((State.get_put_clear _ _ _ _ h2).trans (State.get_put_clear _ _ _ _ h1))⟩
  · exact (State.get_put_clear _ SRV_SS_STAT.STOP_CAUSE SRV_SS_STAT.STATE _ rfl).trans (State.get_put_same _ _ _ (by decide))
  · exact (State.get_put_same _ _ _ (by decide)).trans (Nat.mod_eq_of_lt hc)

/-- What a stop leaves. -/
theorem State.ssStop_fields (s : State) (c : Nat) (hc : c < 16) : (s.ssStop c).spanIdle c
    ∧ ∀ f : Fld, f.addr / 0x10000 = 0x18 → f.addr ≠ SRV_GATE_STAT.addr → SRV_SS_STAT.STATE.clear f = true → SRV_SS_STAT.STOP_CAUSE.clear f = true →
      (s.ssStop c).get f = s.get f := by
  obtain ⟨h1, h2, h3⟩ := s.ssDone_fields c hc
  rw [State.ssStop_eq]
  generalize s.ssDone c = y at h1 h2 h3
  obtain ⟨hg, hs, -, -⟩ := y.spiOwned_keeps
  obtain ⟨hg', -, -, hf⟩ := y.spiOwned.gateUpdate_keeps
  refine ⟨⟨(hg' _ (by decide)).trans ((hg _ (by decide)).trans h1.1), (hg' _ (by decide)).trans ((hg _ (by decide)).trans h1.2), ?_⟩,
    fun f hw hn hc1 hc2 => (hg' f hn).trans ((hg f hw).trans (h3 f hc1 hc2))⟩
  rw [hf, hs, h2]

/-! ### The end of a step (R479 to R483) -/

theorem State.stepLog_fields (s : State) (late : Bool) : (s.stepLog late).get SRV_SS_LWR.LWR = (s.get SRV_SS_LWR.LWR + 1) % 2 ^ 32
    ∧ (∀ f : Fld, f.addr / 0x10000 = 0x18 → f.addr ≠ SRV_SS_LWR.addr → (s.stepLog late).get f = s.get f) ∧ (s.stepLog late).srv = s.srv
    ∧ (s.stepLog late).now = s.now ∧ ∀ f, (s.stepLog late).app f = s.app f := by
  have hk := Kept.stepLog (.refl _ s) (Foot.le_refl _) late
  have hbytes (a : Nat) (l : List Byte) : s.srvRegs ((s.setSramBytes a l).unpoison a 32) := fun f hf =>
    ((Kept.unpoison (.refl _ _) (Foot.le_refl _) a 32).get_of (Foot.word_of_win hf rfl)).trans (State.get_of_regs (regs_setSramBytes s a l) f)
  refine ⟨?_, ?_, hk.part_of .srv rfl, by rw [State.now, State.now, hk.part_of .alm rfl], fun f => hk.app_of rfl⟩
  all_goals unfold State.stepLog
  · refine (State.get_put_same _ _ _ (by decide)).trans ?_
    rw [hbytes _ _ _ (by decide)]
    rfl
  · intro f hf hne
    exact (State.get_put_reg _ _ _ _ hne).trans (hbytes _ _ f hf)

/-- The settings of a sweep taken, and the masters it owns. -/
theorem State.sweepLoad_fields (s : State) : s.srvRegs s.sweepLoad.spiOwned ∧ s.sweepLoad.spiOwned.srv.span.first = s.app SRV_SS_CTRL.FIRST
    ∧ s.sweepLoad.spiOwned.now = s.now := by
  obtain ⟨hg, hs, hn, -⟩ := s.sweepLoad.spiOwned_keeps
  exact ⟨fun f hf => (hg f hf).trans rfl, by rw [hs]; rfl, hn.trans rfl⟩

/-- The last step of a sweep has ended, the sweep numbered n. -/
def State.sweepEnd (s : State) (n : Nat) : State :=
  let x := s.srv.span
  let s := s.put SRV_SS_STAT.SWEEP n
  if x.sweeps != 0 && x.sweeps == n then s.ssStop 1
  else s.sweepLoad.spiOwned.stepStart s.sweepLoad.spiOwned.srv.span.first

/-- The end of a step, after its entry in the log. -/
def State.stepNext (s : State) (late : Bool) : State :=
  if s.srv.span.stop then s.ssStop 2
  else if late && s.srv.span.onLate then s.ssStop 4
  else if s.get SRV_SS_STAT.STEP == s.srv.span.last then s.sweepEnd (s.get SRV_SS_STAT.SWEEP + 1)
  else s.stepStart ((s.get SRV_SS_STAT.STEP + 1) % 16)

theorem State.stepEnd_eq (s : State) (late : Bool) : s.stepEnd late = (s.stepLog late).stepNext late := rfl

/-- A register of SRV that neither a stop nor a start of a step moves. -/
def spanApart (f : Fld) : Prop := f.addr / 0x10000 = 0x18 ∧ f.addr ≠ SRV_GATE_STAT.addr ∧ SRV_SS_STAT.STATE.clear f = true ∧ SRV_SS_STAT.STOP_CAUSE.clear f = true
  ∧ SRV_SS_STAT.STEP.clear f = true ∧ SRV_SS_STAT.SWEEP.clear f = true

theorem State.app_first_lt (s : State) : s.app SRV_SS_CTRL.FIRST < 16 := bitsOf_lt _ _ 4

/-- A sweep ends: the sequencer stops after the last one asked for, else FIRST starts again. -/
theorem State.sweepEnd_fields (s : State) (n : Nat) : (s.srv.span.sweeps ≠ 0 → s.srv.span.sweeps = n → (s.sweepEnd n).spanIdle 1)
    ∧ (s.srv.span.sweeps = 0 ∨ s.srv.span.sweeps ≠ n → (s.sweepEnd n).spanSettles s.now (s.app SRV_SS_CTRL.FIRST))
    ∧ ∀ f, spanApart f → (s.sweepEnd n).get f = s.get f := by
  have hnow : (s.put SRV_SS_STAT.SWEEP n).now = s.now := by rw [State.now, State.now, State.put_alm]
  have happ : (s.put SRV_SS_STAT.SWEEP n).app SRV_SS_CTRL.FIRST = s.app SRV_SS_CTRL.FIRST := State.app_put _ _ _ _
  have hget (f : Fld) (hf : spanApart f) : (s.put SRV_SS_STAT.SWEEP n).get f = s.get f := State.get_put_clear _ _ _ _ hf.2.2.2.2.2
  unfold State.sweepEnd
  dsimp only
  generalize s.put SRV_SS_STAT.SWEEP n = y at hnow happ hget
  obtain ⟨hg, hfirst, hn⟩ := y.sweepLoad_fields
  rw [hfirst, happ]
  obtain ⟨hi, hig⟩ := y.ssStop_fields 1 (by decide)
  obtain ⟨hs, hsg⟩ := y.sweepLoad.spiOwned.stepStart_fields _ s.app_first_lt
  rw [hn, hnow] at hs
  by_cases h : s.srv.span.sweeps ≠ 0 ∧ s.srv.span.sweeps = n
  · rw [if_pos (by rw [bne_iff_ne.mpr h.1, beq_iff_eq.mpr h.2]; rfl)]
    refine ⟨fun _ _ => hi, fun h' => ?_, fun f hf => (hig f hf.1 hf.2.1 hf.2.2.1 hf.2.2.2.1).trans (hget f hf)⟩
    exact absurd h (fun ⟨h1, h2⟩ => h'.elim h1 (fun h3 => h3 h2))
  · rw [if_neg (by rw [Bool.and_eq_true, bne_iff_ne, beq_iff_eq]; exact h)]
    exact ⟨fun h1 h2 => absurd ⟨h1, h2⟩ h, fun _ => hs, fun f hf => (hsg f hf.1 hf.2.1 hf.2.2.1 hf.2.2.2.2.1).trans ((hg f hf.1).trans (hget f hf))⟩

theorem State.stepNext_fields (s : State) (late : Bool) :
    let x := s.srv.span
    let k := s.get SRV_SS_STAT.STEP
    let n := s.get SRV_SS_STAT.SWEEP + 1
    let lateStop := late = true ∧ x.onLate = true
    let t := s.stepNext late
    (∀ f, spanApart f → t.get f = s.get f)
    ∧ (x.stop = true → t.spanIdle 2)
    ∧ (x.stop = false → lateStop → t.spanIdle 4)
    ∧ (x.stop = false → ¬ lateStop → k = x.last → x.sweeps ≠ 0 → x.sweeps = n → t.spanIdle 1)
    ∧ (x.stop = false → ¬ lateStop → k = x.last → (x.sweeps = 0 ∨ x.sweeps ≠ n) → t.spanSettles s.now (s.app SRV_SS_CTRL.FIRST))
    ∧ (x.stop = false → ¬ lateStop → k ≠ x.last → t.spanSettles s.now ((k + 1) % 16)) := by
  intro x k n lateStop
  have hstop (c : Nat) (hc : c < 16) (f : Fld) (hf : spanApart f) : (s.ssStop c).get f = s.get f := (s.ssStop_fields c hc).2 f hf.1 hf.2.1 hf.2.2.1 hf.2.2.2.1
  unfold State.stepNext
  by_cases h1 : x.stop = true
  · rw [if_pos h1]
    exact ⟨hstop 2 (by decide), fun _ => (s.ssStop_fields 2 (by decide)).1, fun h => absurd (h1.symm.trans h) (by decide), fun h => absurd (h1.symm.trans h) (by decide),
      fun h => absurd (h1.symm.trans h) (by decide), fun h => absurd (h1.symm.trans h) (by decide)⟩
  rw [if_neg h1]
  by_cases h2 : lateStop
  · rw [if_pos (by rw [Bool.and_eq_true]; exact h2)]
    exact ⟨hstop 4 (by decide), fun h => absurd h h1, fun _ _ => (s.ssStop_fields 4 (by decide)).1, fun _ h => absurd h2 h, fun _ h => absurd h2 h, fun _ h => absurd h2 h⟩
  rw [if_neg (by rw [Bool.and_eq_true]; exact h2)]
  by_cases h3 : k = x.last
  · obtain ⟨hi, hs, hg⟩ := s.sweepEnd_fields n
    rw [if_pos (beq_iff_eq.mpr h3)]
    exact ⟨hg, fun h => absurd h h1, fun _ h => absurd h h2, fun _ _ _ => hi, fun _ _ _ => hs, fun _ _ h => absurd h3 h⟩
  · obtain ⟨hs, hg⟩ := s.stepStart_fields ((k + 1) % 16) (Nat.mod_lt _ (by decide))
    rw [if_neg (by rw [beq_iff_eq]; exact h3)]
    exact ⟨fun f hf => hg f hf.1 hf.2.1 hf.2.2.1 hf.2.2.2.2.1, fun h => absurd h h1, fun _ h => absurd h h2, fun _ _ h => absurd h h3, fun _ _ h => absurd h h3, fun _ _ _ => hs⟩

end Sys2Proof.Machine
end

section
/-! PROOFS. The commands of the stepped span (R478 to R484). -/

namespace Sys2Proof.Machine

theorem srvRules_act_span (src : Source) (w : Word) (s : State) : srvRules.act src SRV_SS_CMD.addr w s = s.ssCmd w := rfl

/-! ### GO (R483) -/

theorem State.spanSettles.answer {τ : Stamp} {k : Nat} {t : State} (h : t.spanSettles τ k) : (t.answer 0 0).spanSettles τ k := by
  obtain ⟨h1, h2, h3, h4⟩ := h
  refine ⟨(State.answer_get _ _ _ _).trans h1, (State.answer_get _ _ _ _).trans h2, ?_, ?_⟩
  · rw [State.answer_srv, h3]
  · rw [State.answer_srv, h4]

theorem State.spanIdle.answer {c : Nat} {t : State} (h : t.spanIdle c) : (t.answer 0 0).spanIdle c := by
  obtain ⟨h1, h2, h3⟩ := h
  refine ⟨(State.answer_get _ _ _ _).trans h1, (State.answer_get _ _ _ _).trans h2, ?_⟩
  rw [State.answer_srv, h3]

/-- The sequencer shown as waiting. -/
def State.waitShown (s : State) : State := ((s.put SRV_SS_STAT.STATE ssWAIT).put SRV_SS_STAT.STOP_CAUSE 0).put SRV_SS_STAT.SWEEP 0

/-- The first step of a sweep shown, and the masters it owns. -/
def State.firstShown (s : State) : State := (s.put SRV_SS_STAT.STEP s.srv.span.first).spiOwned

/-- The sequencer waits for its start. -/
def State.spanWaits (s : State) : State := s.waitShown.sweepLoad.firstShown

/-- The start lies in the past. -/
def State.spanLate (s : State) : Bool := s.appFlag SRV_SS_CTRL.SRC && decide ((s.appStamp SRV_SS_TIME.addr).toNat < s.now.toNat)

theorem State.ssCmd_go (s : State) (w : Word) (h0 : w.toNat.testBit 0 = true) (h1 : w.toNat.testBit 1 = false) (h2 : w.toNat.testBit 2 = false)
    (hen : s.appFlag SRV_SS_CTRL.EN = true) : s.ssCmd w =
    if s.spanWaits.spanLate then .ok ((s.spanWaits.put SRV_SS_STAT.TLATE 1).stepStart s.spanWaits.srv.span.first) else .ok s.spanWaits :=
  (if_neg (by rw [h0, h1, h2]; decide)).trans ((if_neg (by rw [h1, h2]; exact Bool.false_ne_true)).trans ((if_pos h0).trans (if_neg (by rw [hen]; decide))))

theorem State.sweepLoad_get (s : State) (f : Fld) : s.sweepLoad.get f = s.get f := rfl

theorem State.spanLate_of_kept {F : Foot} {s t : State} (k : Kept F s t) (ha : F.app 0x18 = false) (hp : F.part .alm = false) : t.spanLate = s.spanLate := by
  have hnow : t.now = s.now := by rw [State.now, State.now, k.part_of .alm hp]
  have hsrc : t.app SRV_SS_CTRL.SRC = s.app SRV_SS_CTRL.SRC := k.app_of ((congrArg F.app (show SRV_SS_CTRL.SRC.addr / 0x10000 = 0x18 by decide)).trans ha)
  rw [State.spanLate, State.spanLate, hnow, k.appStamp_of (w := 0x18) (by decide) (by decide) ha, State.appFlag, State.appFlag, hsrc]

theorem State.spanWaits_fields (s : State) : s.spanWaits.ssState = ssWAIT ∧ s.spanWaits.get SRV_SS_STAT.STOP_CAUSE = 0 ∧ s.spanWaits.get SRV_SS_STAT.SWEEP = 0
    ∧ s.spanWaits.get SRV_SS_STAT.STEP = s.app SRV_SS_CTRL.FIRST ∧ s.spanWaits.srv.span.first = s.app SRV_SS_CTRL.FIRST ∧ s.spanWaits.now = s.now
    ∧ s.spanWaits.spanLate = s.spanLate := by
  have hwait : Kept ⟨false, [0x17, 0x18], [], [.srv]⟩ s s.waitShown :=
    Kept.put SRV_SS_STAT.SWEEP 0 (Kept.put SRV_SS_STAT.STOP_CAUSE 0 (Kept.put SRV_SS_STAT.STATE ssWAIT (.refl _ s) rfl) rfl) rfl
  have hload := Kept.sweepLoad hwait (by decide)
  have hk : Kept ⟨false, [0x17, 0x18], [], [.srv]⟩ s s.spanWaits := by
    unfold State.spanWaits State.firstShown
    exact Kept.spiOwned (Kept.put SRV_SS_STAT.STEP _ hload rfl) (by decide)
  have hlate := State.spanLate_of_kept hk rfl rfl
  have hnow : s.spanWaits.now = s.now := by rw [State.now, State.now, hk.part_of .alm rfl]
  have hy : s.waitShown.get SRV_SS_STAT.STATE = ssWAIT ∧ s.waitShown.get SRV_SS_STAT.STOP_CAUSE = 0 ∧ s.waitShown.get SRV_SS_STAT.SWEEP = 0
      ∧ s.waitShown.app SRV_SS_CTRL.FIRST = s.app SRV_SS_CTRL.FIRST := by
    unfold State.waitShown
    refine ⟨?_, ?_, State.get_put_same _ _ _ (by decide), ?_⟩
    · exact (State.get_put_clear _ SRV_SS_STAT.SWEEP SRV_SS_STAT.STATE _ rfl).trans
        ((State.get_put_clear _ SRV_SS_STAT.STOP_CAUSE SRV_SS_STAT.STATE _ rfl).trans (State.get_put_same _ _ _ (by decide)))
    · exact (State.get_put_clear _ SRV_SS_STAT.SWEEP SRV_SS_STAT.STOP_CAUSE _ rfl).trans (State.get_put_same _ _ _ (by decide))
    · rw [State.app_put, State.app_put, State.app_put]
  obtain ⟨h1, h2, h3, h4⟩ := hy
  unfold State.spanWaits at hlate hnow ⊢
  generalize s.waitShown = y at h1 h2 h3 h4 hlate hnow
  have hfirst : y.sweepLoad.srv.span.first = s.app SRV_SS_CTRL.FIRST := h4
  have hload (f : Fld) := y.sweepLoad_get f
  unfold State.firstShown at hlate hnow ⊢
  rw [hfirst] at hlate hnow ⊢
  generalize y.sweepLoad = z at hfirst hload hlate hnow
  obtain ⟨hg, hs, -, -⟩ := (z.put SRV_SS_STAT.STEP (s.app SRV_SS_CTRL.FIRST)).spiOwned_keeps
  have hget {f : Fld} (hf : f.addr / 0x10000 = 0x18) (hc : SRV_SS_STAT.STEP.clear f = true) :
      (z.put SRV_SS_STAT.STEP (s.app SRV_SS_CTRL.FIRST)).spiOwned.get f = y.get f := (hg f hf).trans ((State.get_put_clear _ _ _ _ hc).trans (hload f))
  refine ⟨(hget (by decide) rfl).trans h1, (hget (by decide) rfl).trans h2, (hget (by decide) rfl).trans h3, ?_, ?_, hnow, hlate⟩
  · exact (hg _ (by decide)).trans ((State.get_put_same _ _ _ (by decide)).trans (Nat.mod_eq_of_lt s.app_first_lt))
  · rw [hs, State.put_srv]
    exact hfirst

theorem span_go (s : State) (src : Source) (v : Word) (ha : s.admits srvRules src SRV_SS_CMD.addr (v ||| 1)) (h1 : (v ||| 1).toNat.testBit 1 = false)
    (h2 : (v ||| 1).toNat.testBit 2 = false) (hen : s.appFlag SRV_SS_CTRL.EN = true) :
    let late := s.appFlag SRV_SS_CTRL.SRC = true ∧ (s.appStamp SRV_SS_TIME.addr).toNat < s.now.toNat
    (¬ late → Completes (.ssGo src v) s (fun t => t.okAnswer ∧ t.ssState = ssWAIT ∧ t.get SRV_SS_STAT.STOP_CAUSE = 0 ∧ t.get SRV_SS_STAT.SWEEP = 0
      ∧ t.get SRV_SS_STAT.STEP = s.app SRV_SS_CTRL.FIRST))
    ∧ (late → Completes (.ssGo src v) s (fun t => t.okAnswer ∧ t.flag SRV_SS_STAT.TLATE = true ∧ t.spanSettles s.now (s.app SRV_SS_CTRL.FIRST))) := by
  intro late
  have hnow : (s.landed SRV_SS_CMD.addr (v ||| 1)).now = s.now := State.now_landed _ _ _
  have hlate : (s.landed SRV_SS_CMD.addr (v ||| 1)).spanLate = s.spanLate :=
    State.spanLate_of_kept (F := ⟨false, [0x18], [], []⟩) (Kept.setWord _ _ (.refl _ s) rfl) rfl rfl
  have happ := State.app_landed s SRV_SS_CMD.addr (v ||| 1) SRV_SS_CTRL.FIRST
  have hact := (srvRules_act_span src (v ||| 1) _).trans ((s.landed SRV_SS_CMD.addr (v ||| 1)).ssCmd_go (v ||| 1) (testBit_or_right v 1 (by decide)) h1 h2
    ((State.appFlag_landed _ _ _ _).trans hen))
  generalize hx : s.landed SRV_SS_CMD.addr (v ||| 1) = x at hnow hlate happ hact
  obtain ⟨hst, hcause, hsweep, hstep, hfirst, hn, hl⟩ := x.spanWaits_fields
  rw [hl, hlate, hfirst, happ] at hact
  rw [happ] at hstep
  rw [hnow] at hn
  generalize x.spanWaits = y at hst hcause hsweep hstep hn hact
  have hlate' : s.spanLate = true ↔ late := by
    unfold State.spanLate
    rw [Bool.and_eq_true, decide_eq_true_iff]
  constructor
  · intro hnl
    rw [if_neg (fun h => hnl (hlate'.mp h))] at hact
    exact .of_write rfl ha (by decide) (by decide) (by rw [hx]; exact hact) ⟨State.answer_ok _, (State.answer_get _ _ _ _).trans hst,
      (State.answer_get _ _ _ _).trans hcause, (State.answer_get _ _ _ _).trans hsweep, (State.answer_get _ _ _ _).trans hstep⟩
  · intro hlt
    rw [if_pos (hlate'.mpr hlt)] at hact
    obtain ⟨hs, hg⟩ := (y.put SRV_SS_STAT.TLATE 1).stepStart_fields _ s.app_first_lt
    have hn' : (y.put SRV_SS_STAT.TLATE 1).now = s.now := by rw [State.now, State.put_alm]; exact hn
    rw [hn'] at hs
    have hflag := (State.flag_eq_get (hg SRV_SS_STAT.TLATE (by decide) (by decide) rfl rfl)).trans (State.flag_put_one y _ (by decide) rfl)
    exact .of_write rfl ha (by decide) (by decide) (by rw [hx]; exact hact) ⟨State.answer_ok _, (State.answer_flag _ _ _ _).trans hflag, hs.answer⟩

/-! ### STOP and ABORT (R483) -/

theorem State.ssCmd_stop (s : State) (w : Word) (h0 : w.toNat.testBit 0 = false) (h1 : w.toNat.testBit 1 = true) (h2 : w.toNat.testBit 2 = false)
    (hst : s.ssState ≠ ssIDLE) : s.ssCmd w = if s.ssState == ssWAIT then .ok (s.ssStop 2) else .ok (s.modSpan (fun x => { x with stop := true })) :=
  (if_neg (by rw [h0, h1, h2]; decide)).trans ((if_neg (by rw [beq_false_of_ne hst, Bool.and_false]; exact Bool.false_ne_true)).trans
    ((if_neg (by rw [h0]; exact Bool.false_ne_true)).trans (if_pos h1)))

theorem State.ssCmd_abort (s : State) (w : Word) (h0 : w.toNat.testBit 0 = false) (h1 : w.toNat.testBit 1 = false) (h2 : w.toNat.testBit 2 = true)
    (hst : s.ssState ≠ ssIDLE) : s.ssCmd w = .ok ((if s.ssState == ssWAIT then s else s.stepLog false).ssStop 3) :=
  (if_neg (by rw [h0, h1, h2]; decide)).trans ((if_neg (by rw [beq_false_of_ne hst, Bool.and_false]; exact Bool.false_ne_true)).trans
    ((if_neg (by rw [h0]; exact Bool.false_ne_true)).trans ((if_neg (by rw [h1]; exact Bool.false_ne_true)).trans (if_pos h2))))

theorem State.ssState_landed (s : State) (w : Word) : (s.landed SRV_SS_CMD.addr w).ssState = s.ssState := State.get_landed_ne _ _ _ _ (by decide)

theorem span_stop (s : State) (src : Source) (v : Word) (ha : s.admits srvRules src SRV_SS_CMD.addr (v ||| 2)) (h0 : (v ||| 2).toNat.testBit 0 = false)
    (h2 : (v ||| 2).toNat.testBit 2 = false) :
    (s.ssState = ssWAIT → Completes (.ssStop src v) s (fun t => t.okAnswer ∧ t.spanIdle 2))
    ∧ (s.ssState ≠ ssWAIT → s.ssState ≠ ssIDLE → Completes (.ssStop src v) s (fun t => t.okAnswer ∧ t.ssState = s.ssState ∧ t.srv.span.stop = true)) := by
  have hst := s.ssState_landed (v ||| 2)
  have hgo := (s.landed SRV_SS_CMD.addr (v ||| 2)).ssCmd_stop (v ||| 2) h0 (testBit_or_right v 2 (by decide)) h2
  have hact := srvRules_act_span src (v ||| 2) (s.landed SRV_SS_CMD.addr (v ||| 2))
  generalize hx : s.landed SRV_SS_CMD.addr (v ||| 2) = x at hst hgo hact
  constructor
  · intro hw
    rw [hst, hw] at hgo
    exact .of_write rfl ha (by decide) (by decide) (by rw [hx, hact]; exact hgo (by decide)) ⟨State.answer_ok _, (x.ssStop_fields 2 (by decide)).1.answer⟩
  · intro hw hi
    rw [hst, beq_false_of_ne hw] at hgo
    exact .of_write rfl ha (by decide) (by decide) (t := x.modSpan (fun y => { y with stop := true })) (by rw [hx, hact]; exact hgo hi) ⟨State.answer_ok _, hst, rfl⟩

theorem span_abort (s : State) (src : Source) (v : Word) (ha : s.admits srvRules src SRV_SS_CMD.addr (v ||| 4)) (h0 : (v ||| 4).toNat.testBit 0 = false)
    (h1 : (v ||| 4).toNat.testBit 1 = false) (hi : s.ssState ≠ ssIDLE) : Completes (.ssAbort src v) s (fun t => t.okAnswer ∧ t.spanIdle 3) := by
  have hst := s.ssState_landed (v ||| 4)
  have hgo := (s.landed SRV_SS_CMD.addr (v ||| 4)).ssCmd_abort (v ||| 4) h0 h1 (testBit_or_right v 4 (by decide)) (by rw [hst]; exact hi)
  have hact := (srvRules_act_span src (v ||| 4) (s.landed SRV_SS_CMD.addr (v ||| 4))).trans hgo
  exact .of_write rfl ha (by decide) (by decide) hact ⟨State.answer_ok _, (State.ssStop_fields _ 3 (by decide)).1.answer⟩

/-! ### Steps (R478 to R480) -/

theorem step_start (s : State) (hl : s.live dAUX = true) (hst : s.ssState = ssWAIT) : Completes .stepStart s (State.spanSettles s.now (s.app SRV_SS_CTRL.FIRST)) := by
  obtain ⟨-, hfirst, hn⟩ := s.sweepLoad_fields
  obtain ⟨hs, -⟩ := s.sweepLoad.spiOwned.stepStart_fields _ s.app_first_lt
  have he : exec .stepStart s = .next (s.sweepLoad.spiOwned.stepStart s.sweepLoad.spiOwned.srv.span.first) :=
    congrArg Host.Outcome.next (if_pos (by rw [hl, hst]; rfl))
  rw [hfirst] at he
  rw [hn] at hs
  exact ⟨_, he, hs⟩

/-- A gate that nothing holds is open. -/
theorem State.gateUpdate_open (s : State) (h : s.gateHeld = false) : s.gateUpdate.flag SRV_GATE_STAT.OPEN = true := by
  unfold State.gateUpdate
  dsimp only
  rw [h]
  split
  next ho => exact (beq_iff_eq.mp ho).symm
  next => exact State.flag_put_one _ _ (by decide) rfl

theorem gate_open (s : State) (hl : s.live dAUX = true) (hst : s.ssState = ssSETTLE) (hf : s.srv.span.frames = 0) (hforce : s.appFlag SRV_GATE.FORCE = false)
    (hset : ∀ l, l < 4 → s.appFlag (SRV_LOOP_CFG.GATE_EN l) = true → s.flag (SRV_LOOP_STAT.SETTLED l) = true) :
    Completes .gateOpen s (fun t => t.ssState = ssOPEN ∧ t.srv.span.opened = some s.now ∧ t.flag SRV_GATE_STAT.OPEN = true) := by
  let y := s.put SRV_SS_STAT.STATE ssOPEN
  have hst' : y.ssState = ssOPEN := State.get_put_same _ _ _ (by decide)
  have happ (f : Fld) : y.appFlag f = s.appFlag f := by rw [State.appFlag, State.appFlag, State.app_put]
  have hflag (l : Nat) : y.flag (SRV_LOOP_STAT.SETTLED l) = s.flag (SRV_LOOP_STAT.SETTLED l) := State.flag_eq_get (State.get_put_reg _ _ _ _ (by
    show 0x18002C + l % 4 * 0x40 ≠ 0x180308
    omega))
  have hnow : y.now = s.now := by rw [State.now, State.now, State.put_alm]
  have hheld : y.gateHeld = false := by
    unfold State.gateHeld
    have hany : (List.range 4).any (fun l => y.appFlag (SRV_LOOP_CFG.GATE_EN l) && ! y.flag (SRV_LOOP_STAT.SETTLED l)) = false := by
      rw [List.any_eq_false]
      intro l hl h
      rw [happ, hflag, Bool.and_eq_true] at h
      rw [hset l (List.mem_range.mp hl) h.1] at h
      exact absurd h.2 (by decide)
    rw [hst', happ, hforce, hany]
    rfl
  have he : exec .gateOpen s = .next (y.modSpan (fun x => { x with opened := some s.now })).gateUpdate :=
    congrArg Host.Outcome.next ((if_pos (by rw [hl, hst, hf]; rfl)).trans (if_neg (by rw [hheld]; exact Bool.false_ne_true)))
  generalize y = y at he hst' hheld hnow
  obtain ⟨hg, -, hs, -⟩ := (y.modSpan (fun x => { x with opened := some s.now })).gateUpdate_keeps
  exact ⟨_, he, (hg _ (by decide)).trans hst', by rw [hs]; rfl, State.gateUpdate_open _ hheld⟩

theorem step_end (s : State) (late : Bool) (hl : s.live dAUX = true) (hst : s.ssState = (if late then ssSETTLE else ssOPEN)) :
    let x := s.srv.span
    let k := s.get SRV_SS_STAT.STEP
    let n := s.get SRV_SS_STAT.SWEEP + 1
    let lateStop := late = true ∧ x.onLate = true
    let ends (t : State) : Prop := t.get SRV_SS_LWR.LWR = (s.get SRV_SS_LWR.LWR + 1) % 2 ^ 32
      ∧ (late = true → t.flag SRV_SS_STAT.LATE = true)
      ∧ (x.stop = true → t.spanIdle 2)
      ∧ (x.stop = false → lateStop → t.spanIdle 4)
      ∧ (x.stop = false → ¬ lateStop → k = x.last → x.sweeps ≠ 0 → x.sweeps = n → t.spanIdle 1)
      ∧ (x.stop = false → ¬ lateStop → k = x.last → (x.sweeps = 0 ∨ x.sweeps ≠ n) → t.spanSettles s.now (s.app SRV_SS_CTRL.FIRST))
      ∧ (x.stop = false → ¬ lateStop → k ≠ x.last → t.spanSettles s.now ((k + 1) % 16))
    (late = false → Completes .stepEnd s ends) ∧ (late = true → Completes .stepLate s ends) := by
  intro x k n lateStop ends
  have hends (y : State) (hsrv : y.srv = s.srv) (hnow : y.now = s.now) (happ : y.app SRV_SS_CTRL.FIRST = s.app SRV_SS_CTRL.FIRST)
      (hstep : y.get SRV_SS_STAT.STEP = k) (hsweep : y.get SRV_SS_STAT.SWEEP = s.get SRV_SS_STAT.SWEEP) (hlwr : y.get SRV_SS_LWR.LWR = s.get SRV_SS_LWR.LWR)
      (hlate : late = true → y.flag SRV_SS_STAT.LATE = true) : ends (y.stepEnd late) := by
    obtain ⟨h1, h2, h3, h4, h5⟩ := y.stepLog_fields late
    have hn := (y.stepLog late).stepNext_fields late
    rw [← State.stepEnd_eq] at hn
    dsimp only at hn
    rw [h2 _ (by decide) (by decide), h2 _ (by decide) (by decide), h3, h4, h5, hsrv, hnow, happ, hstep, hsweep] at hn
    obtain ⟨hg, hn⟩ := hn
    have hapart : spanApart SRV_SS_LWR.LWR ∧ spanApart SRV_SS_STAT.LATE := by unfold spanApart; decide
    refine ⟨(hg _ hapart.1).trans (h1.trans (by rw [hlwr])), fun hlt => ?_, hn⟩
    exact (State.flag_eq_get ((hg _ hapart.2).trans (h2 _ (by decide) (by decide)))).trans (hlate hlt)
  constructor
  · intro h
    have he : exec .stepEnd s = .next (s.stepEnd late) := by
      rw [h] at hst ⊢
      exact congrArg Host.Outcome.next (if_pos (by rw [hl, hst]; rfl))
    exact ⟨_, he, hends s rfl rfl rfl rfl rfl rfl (fun h' => absurd (h'.symm.trans h) (by decide))⟩
  · intro h
    have he : exec .stepLate s = .next ((s.put SRV_SS_STAT.LATE 1).stepEnd late) := by
      rw [h] at hst ⊢
      exact congrArg Host.Outcome.next (if_pos (by rw [hl, hst]; rfl))
    exact ⟨_, he, hends _ (State.put_srv _ _ _) (by rw [State.now, State.now, State.put_alm]) (State.app_put _ _ _ _) (State.get_put_clear _ _ _ _ rfl)
      (State.get_put_clear _ _ _ _ rfl) (State.get_put_clear _ _ _ _ rfl) (fun _ => State.flag_put_one _ _ (by decide) rfl)⟩

/-- Settles O43: the loops, then the sequencer; every end of a step goes through `State.stepNext_fields`. -/
theorem servoCommandsComplete : Obligations.ServoCommandsComplete := by
  unfold Obligations.ServoCommandsComplete
  intro computes idle settles
  exact ⟨fun s l ⟨hl, hn, hst⟩ hu => loop_compute_mean s l hl hn hst hu, fun s l ⟨hl, hn, hst⟩ hu => loop_compute_hold s l hl hn hst hu, loop_clrFault,
    span_go, span_stop, span_abort, step_start, gate_open, step_end⟩

end Sys2Proof.Machine
end

section
/-! PROOFS. The ports of the Constellation (R486 to R492, R505, R506). -/

namespace Sys2Proof.Machine

/-! ### What the failure of a link leaves alone -/

/-- A field of the port registers. -/
def portReg (f : Fld) : Prop := 0x190100 ≤ f.addr ∧ f.addr < 0x190140

/-- t shows the ports as s does, knows the same failed link and has counted the same members. -/
def State.linkKept (s t : State) : Prop :=
  (∀ f, portReg f → t.get f = s.get f) ∧ t.get CST_STAT.RING_BROKEN = s.get CST_STAT.RING_BROKEN ∧ t.cst.ringBroken = s.cst.ringBroken ∧ t.cst.members = s.cst.members

theorem State.linkKept.refl (s : State) : s.linkKept s := ⟨fun _ _ => rfl, rfl, rfl, rfl⟩

theorem State.linkKept.trans {s t u : State} (h : s.linkKept t) (k : t.linkKept u) : s.linkKept u := by
  obtain ⟨h1, h2, h3, h4⟩ := h
  obtain ⟨k1, k2, k3, k4⟩ := k
  exact ⟨fun f hf => (k1 f hf).trans (h1 f hf), k2.trans h2, k3.trans h3, k4.trans h4⟩

theorem State.linkKept.ite {s a b : State} {c : Prop} [Decidable c] (ha : s.linkKept a) (hb : s.linkKept b) : s.linkKept (if c then a else b) := by
  split
  · exact ha
  · exact hb

/-- A field apart from the ports and from RING_BROKEN. -/
def linkApart (g : Fld) : Bool := (Nat.blt g.addr 0x190100 || Nat.ble 0x190140 g.addr) && g.clear CST_STAT.RING_BROKEN

theorem linkApart.ne {f g : Fld} (hg : linkApart g = true) (hf : portReg f) : f.addr ≠ g.addr := by
  obtain ⟨h1, h2⟩ := hf
  unfold linkApart at hg
  simp only [Bool.and_eq_true, Bool.or_eq_true, Nat.blt_eq, Nat.ble_eq] at hg
  omega

theorem linkApart.clear {g : Fld} (hg : linkApart g = true) : g.clear CST_STAT.RING_BROKEN = true := by
  unfold linkApart at hg
  exact (Bool.and_eq_true _ _ ▸ hg).2

theorem State.linkKept_put (s : State) (g : Fld) (v : Nat) (hg : linkApart g = true) : s.linkKept (s.put g v) :=
  ⟨fun _ hf => State.get_put_reg _ _ _ _ (linkApart.ne hg hf), State.get_put_clear _ _ _ _ (linkApart.clear hg), by rw [State.put_cst], by rw [State.put_cst]⟩

theorem State.linkKept_modCst (s : State) (f : CstSt → CstSt) (hb : (f s.cst).ringBroken = s.cst.ringBroken) (hm : (f s.cst).members = s.cst.members) :
    s.linkKept (s.modCst f) := ⟨fun _ _ => rfl, rfl, hb, hm⟩

theorem CST_OP_STAT.linkApart (k lo n : Nat) (h : lo + n ≤ 32) : linkApart ⟨CST_OP_STAT.addr k, lo, n⟩ = true := by
  have h1 : 0x190140 ≤ CST_OP_STAT.addr k := by
    unfold CST_OP_STAT.addr
    omega
  have h2 : CST_OP_STAT.addr k ≠ CST_STAT.addr := by
    unfold CST_OP_STAT.addr CST_STAT.addr
    omega
  unfold Machine.linkApart Fld.clear
  simp only [Bool.and_eq_true, Bool.or_eq_true, Nat.ble_eq, bne_iff_ne]
  exact ⟨.inr h1, h, .inr h2⟩

theorem State.linkKept_opEnd (s : State) (k node code : Nat) : s.linkKept (s.opEnd k node code) := by
  have hput (x : State) (lo n v : Nat) (h : lo + n ≤ 32) := x.linkKept_put ⟨CST_OP_STAT.addr k, lo, n⟩ v (CST_OP_STAT.linkApart k lo n h)
  exact (((hput s 31 1 0 (by decide)).trans (hput _ 30 1 1 (by decide))).trans (hput _ 16 14 node (by decide))).trans (hput _ 0 8 code (by decide))

theorem State.linkKept_applyDrop (s : State) : s.linkKept s.applyDrop := by
  have hmod := s.linkKept_modCst (fun c => { c with apply := none }) rfl rfl
  unfold State.applyDrop
  refine .ite (hmod.trans ?_) hmod
  exact (State.linkKept_put _ SYS_UPDATE_STAT.STATE 0 rfl).trans ⟨fun _ _ => rfl, rfl, rfl, rfl⟩

theorem State.linkKept_applyAbort (s : State) (node code : Nat) : s.linkKept (s.applyAbort node code) :=
  .ite ((s.linkKept_opEnd _ _ _).trans (State.linkKept_applyDrop _)) (.refl s)

theorem State.linkKept_cstSend (s : State) (m : CstMsg) (p : Nat) : s.linkKept (s.cstSend m p) := ⟨fun _ _ => rfl, rfl, rfl, rfl⟩

theorem State.linkKept_cstDown (s : State) (m : CstMsg) : s.linkKept (s.cstDown m) := by
  unfold State.cstDown
  exact List.foldl_inv (P := s.linkKept) (fun t p h => h.trans (t.linkKept_cstSend m p)) _ (.refl s)

theorem State.linkKept_cstLeave (s : State) : s.linkKept s.cstLeave :=
  ((s.linkKept_put CST_NODE.VALID 0 rfl).trans (State.linkKept_put _ CST_NODE.ID 0 rfl)).trans (State.linkKept_put _ CST_NODE.HOPS 0 rfl)

theorem State.linkKept_enterHoldover (s : State) : s.linkKept s.enterHoldover := by
  have hk := Kept.enterHoldover (.refl _ s) (Foot.le_refl _)
  have hport {f : Fld} (hf : portReg f) : f.addr / 0x10000 = 0x19 := by
    obtain ⟨h1, h2⟩ := hf
    omega
  exact ⟨fun f hf => hk.get_of (Foot.word_of_win (hport hf) rfl), hk.get_of rfl, by rw [hk.part_of .cst rfl], by rw [hk.part_of .cst rfl]⟩

theorem State.linkKept_cstHoldover (s : State) : s.linkKept s.cstHoldover := by
  have hstat := ((s.linkKept_put CST_STAT.LOCKED 0 rfl).trans (State.linkKept_put _ CST_STAT.HOLDOVER 1 rfl)).trans
    (State.linkKept_modCst _ (fun c => { c with stepped := false, good := 0, bad := 0 }) rfl rfl)
  exact .ite (hstat.trans (State.linkKept_enterHoldover _)) hstat

theorem State.linkKept_parentLost (s : State) : s.linkKept s.parentLost := by
  unfold State.parentLost
  split
  · exact .ite (s.linkKept_applyAbort _ _) (.refl s)
  · exact .refl s

/-! ### The ring (R505) -/

/-- What follows the first failure of a ring. -/
def State.ringChain (s : State) (was : Bool) (i : Nat) : State :=
  if s.cstRoot || was == s.via0 i then s.put CST_NODE.HOPS (if s.cstRoot then 0 else s.ringHops i)
  else ((s.put CST_NODE.HOPS (s.ringHops i)).parentLost).cstHoldover

/-- What follows the second. -/
def State.ringCut (s : State) (cut : Bool) : State := if cut then (s.parentLost).cstLeave.cstHoldover else s

/-- The failed link of the ring is known. -/
def State.ringKnown (s : State) (j : Nat) : State := (s.modCst (fun c => { c with ringBroken := some j })).put CST_STAT.RING_BROKEN 1

theorem State.ringFails_first (s : State) (j : Nat) (h : s.cst.ringBroken = none) :
    s.ringFails j = (s.ringKnown j).ringChain (s.via0 (s.get CST_NODE.ID)) (s.get CST_NODE.ID) := by
  unfold State.ringFails
  rw [h]
  rfl

theorem State.ringFails_again (s : State) (j k : Nat) (h : s.cst.ringBroken = some k) :
    s.ringFails j = if k == j || s.cstRoot then s
      else s.ringCut (if s.via0 (s.get CST_NODE.ID) then decide (j < s.get CST_NODE.ID) else decide (s.get CST_NODE.ID ≤ j)) := by
  unfold State.ringFails
  rw [h]
  rfl

theorem State.linkKept_ringChain (s : State) (was : Bool) (i : Nat) : s.linkKept (s.ringChain was i) :=
  .ite (s.linkKept_put CST_NODE.HOPS _ rfl)
    (((s.linkKept_put CST_NODE.HOPS _ rfl).trans (State.linkKept_parentLost _)).trans (State.linkKept_cstHoldover _))

theorem State.linkKept_ringCut (s : State) (cut : Bool) : s.linkKept (s.ringCut cut) :=
  .ite ((s.linkKept_parentLost.trans (State.linkKept_cstLeave _)).trans (State.linkKept_cstHoldover _)) (.refl s)

theorem State.ringKnown_fields (s : State) (j : Nat) : (∀ f, portReg f → (s.ringKnown j).get f = s.get f) ∧ (s.ringKnown j).flag CST_STAT.RING_BROKEN = true
    ∧ (s.ringKnown j).cst.ringBroken = some j := by
  have hne {f : Fld} (hf : portReg f) : f.addr ≠ CST_STAT.addr := by
    obtain ⟨h1, h2⟩ := hf
    exact ne_of_gt (lt_of_lt_of_le (by decide) h1)
  exact ⟨fun f hf => (State.get_put_reg _ _ _ _ (hne hf)).trans rfl, State.flag_put_one _ _ (by decide) rfl, congrArg CstSt.ringBroken (State.put_cst _ _ _)⟩

/-- A failure in the ring leaves the ports. -/
theorem State.ringFails_ports (s : State) (j : Nat) {f : Fld} (hf : portReg f) : (s.ringFails j).get f = s.get f := by
  cases h : s.cst.ringBroken with
  | none =>
    rw [State.ringFails_first s j h]
    exact ((State.linkKept_ringChain _ _ _).1 f hf).trans ((s.ringKnown_fields j).1 f hf)
  | some k =>
    rw [State.ringFails_again s j k h]
    exact (State.linkKept.ite (.refl s) (s.linkKept_ringCut _)).1 f hf

/-! ### The root's count (R505, R506) -/

/-- The root counts its members anew. -/
def State.rootCounts (s : State) (members : Nat) : State :=
  (s.modCst (fun c => { c with members := members, snapLost := c.snap.isSome })).put CST_MEMBERS.MEMBERS members

/-- What the root does about the operations that a lost member was part of. -/
def State.rootSettles (s : State) : State :=
  let s := if s.opRuns opBarrier || ! s.cst.childArrived.isEmpty then s.modCst (fun c => { c with barLost := true }) else s
  match s.cst.apply with
  | some x => if x.commit.isNone then (s.cstDown (.abort 0 Err.sequence.code)).applyAbort 0 Err.sequence.code else s
  | none => s

theorem State.rootLoses_eq (s : State) (members : Nat) : s.rootLoses members = if ! s.cstRoot then s else (s.rootCounts members).rootSettles := rfl

theorem State.linkKept_rootSettles (s : State) : s.linkKept s.rootSettles := by
  have hbar : s.linkKept (if s.opRuns opBarrier || ! s.cst.childArrived.isEmpty then s.modCst (fun c => { c with barLost := true }) else s) :=
    .ite (s.linkKept_modCst _ rfl rfl) (.refl s)
  unfold State.rootSettles
  dsimp only
  split
  · exact .ite (hbar.trans ((State.linkKept_cstDown _ _).trans (State.linkKept_applyAbort _ _ _))) hbar
  · exact hbar

theorem State.rootCounts_fields (s : State) (members : Nat) : (∀ f, portReg f → (s.rootCounts members).get f = s.get f)
    ∧ (s.rootCounts members).get CST_STAT.RING_BROKEN = s.get CST_STAT.RING_BROKEN ∧ (s.rootCounts members).cst.ringBroken = s.cst.ringBroken
    ∧ (s.rootCounts members).cst.members = members := by
  have hne {f : Fld} (hf : portReg f) : f.addr ≠ CST_MEMBERS.addr := by
    obtain ⟨h1, h2⟩ := hf
    exact ne_of_gt (lt_of_lt_of_le (by decide) h1)
  unfold State.rootCounts
  refine ⟨fun f hf => (State.get_put_reg _ _ _ _ (hne hf)).trans rfl, (State.get_put_reg _ _ _ _ (by decide)).trans rfl, ?_, ?_⟩
  · rw [State.put_cst]
    rfl
  · rw [State.put_cst]
    rfl

/-- What the loss of members leaves at this node. -/
theorem State.rootLoses_fields (s : State) (members : Nat) : (∀ f, portReg f → (s.rootLoses members).get f = s.get f)
    ∧ (s.rootLoses members).get CST_STAT.RING_BROKEN = s.get CST_STAT.RING_BROKEN ∧ (s.rootLoses members).cst.ringBroken = s.cst.ringBroken
    ∧ (s.cstRoot = true → (s.rootLoses members).cst.members = members) := by
  rw [State.rootLoses_eq]
  obtain ⟨h1, h2, h3, h4⟩ := s.rootCounts_fields members
  obtain ⟨k1, k2, k3, k4⟩ := (s.rootCounts members).linkKept_rootSettles
  split
  next h => exact ⟨fun _ _ => rfl, rfl, rfl, fun h' => by rw [h'] at h; exact absurd h (by decide)⟩
  next => exact ⟨fun f hf => (k1 f hf).trans (h1 f hf), k2.trans h2, k3.trans h3, fun _ => k4.trans h4⟩

/-- The loss of a link leaves the ports. -/
theorem State.linkLost_ports (s : State) (p members : Nat) {f : Fld} (hf : portReg f) : (s.linkLost p members).get f = s.get f := by
  unfold State.linkLost
  split
  · rfl
  · dsimp only
    refine ((State.rootLoses_fields _ _).1 f hf).trans ?_
    split
    · split
      · exact s.ringFails_ports _ hf
      · rfl
    · exact (State.linkKept.ite ((s.linkKept_parentLost.trans (State.linkKept_cstLeave _)).trans (State.linkKept_cstHoldover _)) (.refl s)).1 f hf

/-! ### PORT_DOWN (R488, R496, R505) -/

theorem port_down_remote (s : State) (p : Fin 4) (cause : BitVec 4) (j members : Nat) (hv : s.cstValid = true) :
    (s.ring = true → s.cst.ringBroken = none → Completes (.portDown p cause (some j) members) s (fun t => t.cst.ringBroken = some j
      ∧ t.flag CST_STAT.RING_BROKEN = true))
    ∧ (s.cstRoot = true → Completes (.portDown p cause (some j) members) s (fun t => t.cst.members = members)) := by
  have he : exec (.portDown p cause (some j) members) s = .next ((if s.ring then s.ringFails j else s).rootLoses members) :=
    congrArg Host.Outcome.next (if_pos hv)
  constructor
  · intro hr hn
    rw [if_pos hr, State.ringFails_first s j hn] at he
    obtain ⟨-, h2, h3⟩ := s.ringKnown_fields j
    obtain ⟨-, k2, k3, -⟩ := (s.ringKnown j).linkKept_ringChain (s.via0 (s.get CST_NODE.ID)) (s.get CST_NODE.ID)
    obtain ⟨-, m2, m3, -⟩ := State.rootLoses_fields ((s.ringKnown j).ringChain (s.via0 (s.get CST_NODE.ID)) (s.get CST_NODE.ID)) members
    exact ⟨_, he, m3.trans (k3.trans h3), (State.flag_eq_get (m2.trans k2)).trans h2⟩
  · intro hroot
    have hkeep : (s.ringFails j).cstRoot = s.cstRoot := by
      rw [State.cstRoot, State.cstRoot, State.appFlag, State.appFlag, (Kept.ringFails (.refl _ s) (Foot.le_refl _) j).app_of (g := CST_CTRL.ROLE) rfl]
    obtain ⟨-, -, -, hm⟩ := State.rootLoses_fields (if s.ring then s.ringFails j else s) members
    refine ⟨_, he, hm ?_⟩
    split
    · exact hkeep.trans hroot
    · exact hroot

/-- Port p shown as down. -/
def State.portDowned (s : State) (p : Fin 4) (cause : Nat) : State :=
  ((s.put (CST_PORT_STAT.STATE p) 1).put (CST_PORT_STAT.CAUSE p) cause).bump (CST_PORT_CNT.DOWNS p)

theorem CST_PORT.apart (p : Fin 4) : CST_PORT_CNT.addr p ≠ CST_PORT_STAT.addr p ∧ CST_PORT_DELAY.addr p ≠ CST_PORT_STAT.addr p := by
  revert p
  decide +kernel

theorem State.portDowned_fields (s : State) (p : Fin 4) (cause : BitVec 4) : let t := s.portDowned p cause.toNat
    t.get (CST_PORT_STAT.STATE p) = 1 ∧ t.get (CST_PORT_STAT.CAUSE p) = cause.toNat
    ∧ t.get (CST_PORT_CNT.DOWNS p) = min (s.get (CST_PORT_CNT.DOWNS p) + 1) 65535 := by
  have hne := (CST_PORT.apart p).1
  have hbump (x : State) {f : Fld} (hf : f.addr = CST_PORT_STAT.addr p) : (x.bump (CST_PORT_CNT.DOWNS p)).get f = x.get f :=
    State.get_bump_apart _ _ _ (by show 16 + 16 ≤ 32; decide) (.inl (by rw [hf]; exact hne))
  unfold State.portDowned
  refine ⟨(hbump _ rfl).trans ?_, (hbump _ rfl).trans ?_, (State.get_bump_min _ _ (by show 16 + 16 ≤ 32; decide)).trans ?_⟩
  · exact (State.get_put_apart _ _ _ _ (by show 8 + 4 ≤ 32; decide) (.inr (.inr (by show 0 + 2 ≤ 8; decide)))).trans (State.get_put_same _ _ _ (by show 0 + 2 ≤ 32; decide))
  · exact (State.get_put_same _ _ _ (by show 8 + 4 ≤ 32; decide)).trans (Nat.mod_eq_of_lt cause.isLt)
  · rw [State.get_put_reg _ _ _ _ hne, State.get_put_reg _ _ _ _ hne]
    rfl

theorem CST_PORT_STAT.portReg (p : Nat) (lo n : Nat) : portReg ⟨CST_PORT_STAT.addr p, lo, n⟩ := by
  unfold Machine.portReg CST_PORT_STAT.addr
  dsimp only
  omega

theorem CST_PORT_CNT.portReg (p : Nat) (lo n : Nat) : portReg ⟨CST_PORT_CNT.addr p, lo, n⟩ := by
  unfold Machine.portReg CST_PORT_CNT.addr
  dsimp only
  omega

theorem port_down (s : State) (p : Fin 4) (cause : BitVec 4) (members : Nat) (ha : s.alive = true)
    (hst : s.get (CST_PORT_STAT.STATE p) = 2 ∨ s.get (CST_PORT_STAT.STATE p) = 3) :
    Completes (.portDown p cause none members) s (fun t => t.get (CST_PORT_STAT.STATE p) = 1 ∧ t.get (CST_PORT_STAT.CAUSE p) = cause.toNat
      ∧ t.get (CST_PORT_CNT.DOWNS p) = min (s.get (CST_PORT_CNT.DOWNS p) + 1) 65535) := by
  have hgo : ¬ (! s.alive || (s.get (CST_PORT_STAT.STATE p) != 2 && s.get (CST_PORT_STAT.STATE p) != 3)) = true := by
    rcases hst with h | h <;> rw [ha, h] <;> decide
  have he : exec (.portDown p cause none members) s = .next ((((s.portDowned p cause.toNat).fltInfo 0x2C p 0x19 cstLocation
      ((s.portDowned p cause.toNat).word (CST_PORT_STAT.addr p)).toNat).raiseIrq 96).linkLost p members) := congrArg Host.Outcome.next (if_neg hgo)
  obtain ⟨h1, h2, h3⟩ := s.portDowned_fields p cause
  generalize s.portDowned p cause.toNat = y at he h1 h2 h3
  have hk : Kept ⟨false, [0x15, 0x1B], [], [.flt]⟩ y ((y.fltInfo 0x2C p 0x19 cstLocation (y.word (CST_PORT_STAT.addr p)).toNat).raiseIrq 96) :=
    Kept.raiseIrq (Kept.fltInfo (.refl _ y) (by decide) _ _ _ _ _) (by decide) 96
  have hget {f : Fld} (hf : portReg f) : (((y.fltInfo 0x2C p 0x19 cstLocation (y.word (CST_PORT_STAT.addr p)).toNat).raiseIrq 96).linkLost p members).get f = y.get f := by
    refine (State.linkLost_ports _ _ _ hf).trans (hk.get_of (Foot.word_of_win (w := 0x19) ?_ rfl))
    obtain ⟨h1, h2⟩ := hf
    omega
  exact ⟨_, he, (hget (CST_PORT_STAT.portReg _ _ _)).trans h1, (hget (CST_PORT_STAT.portReg _ _ _)).trans h2, (hget (CST_PORT_CNT.portReg _ _ _)).trans h3⟩

end Sys2Proof.Machine
end

section
/-! PROOFS. Ports that come up, and the beacons (R487 to R496). -/

namespace Sys2Proof.Machine

/-! ### PORT_UP (R487, R490 to R492) -/

/-- Port p shown as up. -/
def State.portShown (s : State) (p delay : Nat) : State :=
  ((s.put (CST_PORT_DELAY.DELAY p) delay).put (CST_PORT_STAT.STATE p) 3).put (CST_PORT_STAT.CAUSE p) 0

/-- The largest delay of the Constellation shown as H. -/
def State.hopShown (s : State) (c : Nat) : State :=
  let x := s.roundOpen (96000 + c : Nat) 1000
  x.2.put CST_HOP.H (min x.1.toNat 4095)

/-- A broken ring is whole again. -/
def State.ringHealed (s : State) (healed : Bool) : State :=
  if healed then (s.modCst (fun k => { k with ringBroken := none })).put CST_STAT.RING_BROKEN 0 else s

/-- The node takes the ID that its neighbour gives, or is out of range. -/
def State.idTaken (s : State) (p : Nat) (x : Option (Nat × Nat)) : State :=
  match x with
  | some (i, h) => (((s.put CST_NODE.ID i).put CST_NODE.HOPS h).put CST_NODE.VALID 1).put CST_STAT.ID_RANGE 0
  | none => (s.put CST_STAT.ID_RANGE 1).put (CST_PORT_STAT.STATE p) 1

/-- The neighbour on port p gives an ID, where the node has none. -/
def State.idGiven (s : State) (p : Nat) (peer : Option (Nat × Nat × Nat)) : State :=
  if ! s.cstRoot && p = 0 && ! s.flag CST_NODE.VALID then
    match peer with
    | none => s
    | some q => s.idTaken p (s.cstIdFrom q)
  else s

/-- The offsets of the parent port begin anew. -/
def State.parentFresh (s : State) (p : Nat) : State :=
  if s.parentPort == some p then s.modCst (fun k => { k with stepped := false, good := 0, bad := 0 }) else s

/-- The root takes the count that returns. -/
def State.rootCounted (s : State) (count : Option Nat) : State :=
  match count with
  | some m =>
    if s.cstRoot then (s.modCst (fun k => { k with members := m })).putB CST_STAT.SIZE_MISMATCH (s.ring && m != s.ringN) else s
  | none => s

/-- t shows the ports, the node and ID_RANGE as s does. -/
def State.portsKept (s t : State) : Prop := ∀ f : Fld, CST_STAT.SIZE_MISMATCH.clear f = true → CST_STAT.RING_BROKEN.clear f = true → f.addr ≠ CST_HOP.addr → t.get f = s.get f

theorem State.portsKept.trans {s t u : State} (h : s.portsKept t) (k : t.portsKept u) : s.portsKept u :=
  fun f h1 h2 h3 => (k f h1 h2 h3).trans (h f h1 h2 h3)

theorem State.portsKept_parentFresh (s : State) (p : Nat) : s.portsKept (s.parentFresh p) := by
  unfold State.parentFresh
  split
  · exact fun _ _ _ _ => rfl
  · exact fun _ _ _ _ => rfl

theorem State.portsKept_rootCounted (s : State) (count : Option Nat) : s.portsKept (s.rootCounted count) := by
  unfold State.rootCounted
  split
  · split
    · exact fun f h1 _ _ => (State.get_put_clear _ _ _ _ h1).trans rfl
    · exact fun _ _ _ _ => rfl
  · exact fun _ _ _ _ => rfl

theorem State.portsKept_ringHealed (s : State) (healed : Bool) : s.portsKept (s.ringHealed healed) := by
  unfold State.ringHealed
  split
  · exact fun f _ h2 _ => (State.get_put_clear _ _ _ _ h2).trans rfl
  · exact fun _ _ _ _ => rfl

theorem State.hopShown_fields (s : State) (c : Nat) : s.portsKept (s.hopShown c) ∧ (s.hopShown c).cst = s.cst ∧ ∀ f, (s.hopShown c).app f = s.app f := by
  have hk := Kept.roundOpen (.refl _ s) (Foot.le_refl _) (96000 + c : Nat) 1000
  unfold State.hopShown
  refine ⟨fun f _ _ h3 => (State.get_put_reg _ _ _ _ h3).trans (hk.get_of rfl), ?_, fun f => (State.app_put _ _ _ _).trans (hk.app_of rfl)⟩
  rw [State.put_cst, hk.part_of .cst rfl]

theorem State.portShown_fields (s : State) (p delay : Nat) (hd : delay ≤ 2000000) : let t := s.portShown p delay
    t.get (CST_PORT_STAT.STATE p) = 3 ∧ t.get (CST_PORT_STAT.CAUSE p) = 0 ∧ t.get (CST_PORT_DELAY.DELAY p) = delay ∧ t.cstOn = s.cstOn
    ∧ t.cst = s.cst ∧ (∀ f, t.app f = s.app f) ∧ t.flag CST_NODE.VALID = s.flag CST_NODE.VALID := by
  have hne : CST_PORT_DELAY.addr p ≠ CST_PORT_STAT.addr p := by
    unfold CST_PORT_DELAY.addr CST_PORT_STAT.addr
    omega
  have happ (f : Fld) : (s.portShown p delay).app f = s.app f := by
    unfold State.portShown
    rw [State.app_put, State.app_put, State.app_put]
  have hget (f : Fld) (h1 : f.addr ≠ CST_PORT_STAT.addr p) (h2 : f.addr ≠ CST_PORT_DELAY.addr p) : (s.portShown p delay).get f = s.get f :=
    (State.get_put_reg _ _ _ _ h1).trans ((State.get_put_reg _ _ _ _ h1).trans (State.get_put_reg _ _ _ _ h2))
  have hfar {a : Nat} (h : a < 0x190100) : a ≠ CST_PORT_STAT.addr p ∧ a ≠ CST_PORT_DELAY.addr p := by
    unfold CST_PORT_STAT.addr CST_PORT_DELAY.addr
    omega
  refine ⟨?_, State.get_put_same _ _ _ (by show 8 + 4 ≤ 32; decide), ?_, ?_, ?_, happ, State.flag_eq_get (hget _ (hfar (by decide)).1 (hfar (by decide)).2)⟩
  · exact (State.get_put_apart _ _ _ _ (by show 8 + 4 ≤ 32; decide) (.inr (.inr (by show 0 + 2 ≤ 8; decide)))).trans (State.get_put_same _ _ _ (by show 0 + 2 ≤ 32; decide))
  · exact (State.get_put_reg _ _ _ _ hne).trans ((State.get_put_reg _ _ _ _ hne).trans ((State.get_put_same _ _ _ (by show 0 + 21 ≤ 32; decide)).trans
      (Nat.mod_eq_of_lt (lt_of_le_of_lt hd (by show 2000000 < 2 ^ 21; decide)))))
  · have hdev : (s.portShown p delay).dev = s.dev := hget _ (hfar (by decide)).1 (hfar (by decide)).2
    rw [State.cstOn, State.cstOn, State.appFlag, State.appFlag, happ, State.alive, State.alive, hdev]
  · unfold State.portShown
    rw [State.put_cst, State.put_cst, State.put_cst]

theorem exec_portUp (s : State) (p : Fin 4) (delay : Nat) (peer : Option (Nat × Nat × Nat)) (count : Option Nat) (c : Nat) (healed : Bool) (ha : s.alive = true)
    (hen : s.flag (CST_PORT_CTRL.EN p) = true) (hst : s.get (CST_PORT_STAT.STATE p) = 1 ∨ s.get (CST_PORT_STAT.STATE p) = 2) :
    exec (.portUp p delay peer count c healed) s = .next (if 2000000 < delay then
        ((s.put (CST_PORT_DELAY.DELAY p) delay).put (CST_PORT_STAT.STATE p) 1).put (CST_PORT_STAT.CAUSE p) 1
      else if ! (s.portShown p delay).cstOn then s.portShown p delay
      else ((((((s.portShown p delay).hopShown c).ringHealed healed).idGiven p peer).parentFresh p).rootCounted count)) := by
  have hgo : ¬ (! s.alive || ! s.flag (CST_PORT_CTRL.EN p) || (s.get (CST_PORT_STAT.STATE p) != 1 && s.get (CST_PORT_STAT.STATE p) != 2)) = true := by
    rcases hst with h | h <;> rw [ha, hen, h] <;> decide
  exact congrArg Host.Outcome.next (if_neg hgo)

/-- A port too far away stays down. -/
theorem port_up_far (s : State) (p : Fin 4) (delay : Nat) (peer : Option (Nat × Nat × Nat)) (count : Option Nat) (c : Nat) (healed : Bool) (ha : s.alive = true)
    (hen : s.flag (CST_PORT_CTRL.EN p) = true) (hst : s.get (CST_PORT_STAT.STATE p) = 1 ∨ s.get (CST_PORT_STAT.STATE p) = 2) (hd : 2000000 < delay) :
    Completes (.portUp p delay peer count c healed) s (fun t => t.get (CST_PORT_STAT.STATE p) = 1 ∧ t.get (CST_PORT_STAT.CAUSE p) = 1) := by
  have he := exec_portUp s p delay peer count c healed ha hen hst
  rw [if_pos hd] at he
  exact ⟨_, he, (State.get_put_apart _ _ _ _ (by show 8 + 4 ≤ 32; decide) (.inr (.inr (by show 0 + 2 ≤ 8; decide)))).trans
    (State.get_put_same _ _ _ (by show 0 + 2 ≤ 32; decide)), State.get_put_same _ _ _ (by show 8 + 4 ≤ 32; decide)⟩

/-- The fields of a port are among those that PORT_UP keeps. -/
theorem portsKept_port (p : Nat) {a : Nat} (ha : a = CST_PORT_STAT.addr p ∨ a = CST_PORT_DELAY.addr p) (lo n : Nat) :
    CST_STAT.SIZE_MISMATCH.clear ⟨a, lo, n⟩ = true ∧ CST_STAT.RING_BROKEN.clear ⟨a, lo, n⟩ = true ∧ (⟨a, lo, n⟩ : Fld).addr ≠ CST_HOP.addr := by
  have h : 0x190100 ≤ a := by
    rcases ha with rfl | rfl
    · unfold CST_PORT_STAT.addr
      omega
    · unfold CST_PORT_DELAY.addr
      omega
  have hne : CST_STAT.addr ≠ a := ne_of_lt (lt_of_lt_of_le (by decide) h)
  unfold Fld.clear
  simp only [Bool.and_eq_true, Bool.or_eq_true, bne_iff_ne]
  exact ⟨⟨rfl, .inr hne⟩, ⟨rfl, .inr hne⟩, ne_of_gt (lt_of_lt_of_le (by decide) h)⟩

theorem State.portsKept.port {s t : State} (h : s.portsKept t) (p : Nat) {a : Nat} (ha : a = CST_PORT_STAT.addr p ∨ a = CST_PORT_DELAY.addr p) (lo n : Nat) :
    t.get ⟨a, lo, n⟩ = s.get ⟨a, lo, n⟩ :=
  h _ (portsKept_port p ha lo n).1 (portsKept_port p ha lo n).2.1 (portsKept_port p ha lo n).2.2

theorem port_up_near (s : State) (p : Fin 4) (delay : Nat) (peer : Option (Nat × Nat × Nat)) (count : Option Nat) (c : Nat) (healed : Bool) (ha : s.alive = true)
    (hen : s.flag (CST_PORT_CTRL.EN p) = true) (hst : s.get (CST_PORT_STAT.STATE p) = 1 ∨ s.get (CST_PORT_STAT.STATE p) = 2) (hd : delay ≤ 2000000) (hp : p ≠ 0) :
    Completes (.portUp p delay peer count c healed) s (fun t => t.get (CST_PORT_STAT.STATE p) = 3
      ∧ t.get (CST_PORT_STAT.CAUSE p) = 0 ∧ t.get (CST_PORT_DELAY.DELAY p) = delay) := by
  have he := exec_portUp s p delay peer count c healed ha hen hst
  rw [if_neg (Nat.not_lt.mpr hd)] at he
  obtain ⟨h1, h2, h3, -⟩ := s.portShown_fields p delay hd
  generalize s.portShown p delay = y at he h1 h2 h3
  have hgiven (x : State) : x.idGiven p peer = x := if_neg (by
    have hp' : p.val ≠ 0 := fun h => hp (Fin.ext h)
    rw [decide_eq_false hp', Bool.and_false, Bool.false_and]
    exact Bool.false_ne_true)
  rw [hgiven] at he
  have hkept : y.portsKept (((((y.hopShown c).ringHealed healed)).parentFresh p).rootCounted count) :=
    (((y.hopShown_fields c).1.trans (State.portsKept_ringHealed _ _)).trans (State.portsKept_parentFresh _ _)).trans (State.portsKept_rootCounted _ _)
  refine ⟨_, he, ?_⟩
  split
  · exact ⟨h1, h2, h3⟩
  · exact ⟨(hkept.port p (.inl rfl) 0 2).trans h1, (hkept.port p (.inl rfl) 8 4).trans h2, (hkept.port p (.inr rfl) 0 21).trans h3⟩

theorem State.cstIdFrom_congr {s t : State} (hc : t.cst = s.cst) (ha : ∀ f, t.app f = s.app f) (q : Nat × Nat × Nat) : t.cstIdFrom q = s.cstIdFrom q := by
  have hn : t.ringN = s.ringN := by rw [State.ringN, State.ringN, ha]
  have hv (i : Nat) : t.via0 i = s.via0 i := by
    unfold State.via0
    rw [hc, hn]
  have hr : t.ring = s.ring := by rw [State.ring, State.ring, State.appFlag, State.appFlag, ha]
  have hh (i : Nat) : t.ringHops i = s.ringHops i := by rw [State.ringHops, State.ringHops, hv, hn]
  unfold State.cstIdFrom
  rw [hr, hn, hh, ha]

theorem State.idTaken_some (s : State) (p i h : Nat) : let t := s.idTaken p (some (i, h))
    t.flag CST_NODE.VALID = true ∧ t.get CST_NODE.ID = i % 2 ^ 14 ∧ t.get CST_NODE.HOPS = h % 2 ^ 6 ∧ t.get (CST_PORT_STAT.STATE p) = s.get (CST_PORT_STAT.STATE p) := by
  have hne : CST_PORT_STAT.addr p ≠ CST_NODE.addr ∧ CST_PORT_STAT.addr p ≠ CST_STAT.addr := by
    unfold CST_PORT_STAT.addr CST_NODE.addr CST_STAT.addr
    omega
  obtain ⟨h1, h2⟩ := hne
  have hrange (x : State) {f : Fld} (hf : f.addr ≠ CST_STAT.addr) : (x.put CST_STAT.ID_RANGE 0).get f = x.get f := State.get_put_reg _ _ _ _ hf
  refine ⟨?_, ?_, ?_, ?_⟩
  · exact (State.flag_eq_get (hrange _ (by decide))).trans (State.flag_put_one _ _ (by decide) rfl)
  · exact (hrange _ (by decide)).trans ((State.get_put_clear _ CST_NODE.VALID _ _ rfl).trans ((State.get_put_clear _ CST_NODE.HOPS _ _ rfl).trans
      (State.get_put_same _ _ _ (by decide))))
  · exact (hrange _ (by decide)).trans ((State.get_put_clear _ CST_NODE.VALID _ _ rfl).trans (State.get_put_same _ _ _ (by decide)))
  · exact (hrange _ h2).trans ((State.get_put_reg _ _ _ _ h1).trans ((State.get_put_reg _ _ _ _ h1).trans (State.get_put_reg _ _ _ _ h1)))

theorem State.idTaken_none (s : State) (p : Nat) : (s.idTaken p none).flag CST_STAT.ID_RANGE = true ∧ (s.idTaken p none).get (CST_PORT_STAT.STATE p) = 1 := by
  have hne : CST_STAT.addr ≠ CST_PORT_STAT.addr p := by
    unfold CST_PORT_STAT.addr CST_STAT.addr
    omega
  exact ⟨(State.flag_eq_get (State.get_put_reg _ _ _ _ hne)).trans (State.flag_put_one _ _ (by decide) rfl), State.get_put_same _ _ _ (by show 0 + 2 ≤ 32; decide)⟩

theorem port_up_parent (s : State) (p : Fin 4) (delay : Nat) (count : Option Nat) (c : Nat) (ha : s.alive = true)
    (hen : s.flag (CST_PORT_CTRL.EN p) = true) (hst : s.get (CST_PORT_STAT.STATE p) = 1 ∨ s.get (CST_PORT_STAT.STATE p) = 2) (hd : delay ≤ 2000000) (hp : p = 0)
    (hon : s.cstOn = true) (hroot : s.cstRoot = false) (hvalid : s.flag CST_NODE.VALID = false) (q : Nat × Nat × Nat) :
    (∀ i h, s.cstIdFrom q = some (i, h) → Completes (.portUp p delay (some q) count c false) s (fun t => t.flag CST_NODE.VALID = true
        ∧ t.get CST_NODE.ID = i % 2 ^ 14 ∧ t.get CST_NODE.HOPS = h % 2 ^ 6 ∧ t.get (CST_PORT_STAT.STATE p) = 3))
    ∧ (s.cstIdFrom q = none → Completes (.portUp p delay (some q) count c false) s (fun t => t.flag CST_STAT.ID_RANGE = true
        ∧ t.get (CST_PORT_STAT.STATE p) = 1)) := by
  have he := exec_portUp s p delay (some q) count c false ha hen hst
  obtain ⟨h1, -, -, h4, h5, h6, h7⟩ := s.portShown_fields p delay hd
  rw [if_neg (Nat.not_lt.mpr hd), h4, hon, if_neg (by decide)] at he
  generalize s.portShown p delay = y at he h1 h5 h6 h7
  obtain ⟨k1, k2, k3⟩ := y.hopShown_fields c
  have hz : ((y.hopShown c).ringHealed false).idGiven p (some q) = (y.hopShown c).idTaken p (s.cstIdFrom q) := by
    have hroot' : (y.hopShown c).cstRoot = false := by rw [State.cstRoot, State.appFlag, k3, h6]; exact hroot
    have hvalid' : (y.hopShown c).flag CST_NODE.VALID = false := (State.flag_eq_get (k1 _ rfl rfl (by decide))).trans (h7.trans hvalid)
    have hcond : (! (y.hopShown c).cstRoot && decide (p.val = 0) && ! (y.hopShown c).flag CST_NODE.VALID) = true := by rw [hroot', hvalid', hp]; rfl
    rw [← State.cstIdFrom_congr (k2.trans h5) (fun f => (k3 f).trans (h6 f)) q]
    exact if_pos hcond
  have h1' : (y.hopShown c).get (CST_PORT_STAT.STATE p) = 3 := (k1.port p (.inl rfl) 0 2).trans h1
  rw [hz] at he
  generalize y.hopShown c = z at he h1'
  have hkept (x : State) : x.portsKept ((x.parentFresh p).rootCounted count) := (x.portsKept_parentFresh p).trans (State.portsKept_rootCounted _ _)
  constructor
  · intro i h hid
    rw [hid] at he
    obtain ⟨m1, m2, m3, m4⟩ := z.idTaken_some p i h
    generalize z.idTaken p (some (i, h)) = x at he m1 m2 m3 m4
    exact ⟨_, he, (State.flag_eq_get (hkept x _ rfl rfl (by decide))).trans m1, (hkept x _ rfl rfl (by decide)).trans m2, (hkept x _ rfl rfl (by decide)).trans m3,
      ((hkept x).port p (.inl rfl) 0 2).trans (m4.trans h1')⟩
  · intro hid
    rw [hid] at he
    obtain ⟨m1, m2⟩ := z.idTaken_none p
    generalize z.idTaken p none = x at he m1 m2
    exact ⟨_, he, (State.flag_eq_get (hkept x _ rfl rfl (by decide))).trans m1, ((hkept x).port p (.inl rfl) 0 2).trans m2⟩

/-! ### Frames and beacons (R488, R493 to R495) -/

theorem frame_resend (s : State) (p : Fin 4) (ha : s.alive = true) (hp : s.portUp p = true) : Completes (.frameResend p) s (fun t =>
    t.get (CST_PORT_CNT.RESENDS p) = min (s.get (CST_PORT_CNT.RESENDS p) + 1) 65535 ∧ t.flag CST_STAT.RESENT = true) := by
  have hgo : (s.alive && s.portUp p) = true := by rw [ha, hp]; rfl
  have hne : CST_PORT_CNT.addr p ≠ CST_STAT.addr := by
    unfold CST_PORT_CNT.addr CST_STAT.addr
    omega
  exact ⟨_, congrArg Host.Outcome.next (if_pos hgo), (State.get_put_reg _ _ _ _ hne).trans (State.get_bump_min _ _ (by show 0 + 16 ≤ 32; decide)),
    State.flag_put_one _ _ (by decide) rfl⟩

/-- A beacon goes out on port q. -/
def State.beaconOut (s : State) (p : Nat) : State :=
  let q : Fin 4 := Fin.ofNat _ p
  let b : Beacon := { time := s.now, tq := s.tq, reply := vget s.cst.reply q }
  s.modCst (fun c => { c with beacon := vset c.beacon q (some b), reply := vset c.reply q none })

theorem State.beaconOut_same (s : State) (p : Fin 4) : vget (s.beaconOut p).cst.beacon p = some ⟨s.now, s.tq, vget s.cst.reply p⟩
    ∧ vget (s.beaconOut p).cst.reply p = none := by
  have hp : Fin.ofNat 4 p.val = p := Fin.ofNat_val_eq_self p
  unfold State.beaconOut
  rw [hp]
  exact ⟨vget_vset_same _ _ _, vget_vset_same _ _ _⟩

theorem State.beaconOut_ne (s : State) {p : Fin 4} {k : Nat} (hk : k < 4) (h : k ≠ p.val) : vget (s.beaconOut k).cst.beacon p = vget s.cst.beacon p
    ∧ vget (s.beaconOut k).cst.reply p = vget s.cst.reply p := by
  have hp : p ≠ Fin.ofNat 4 k := fun e => h (by rw [e]; exact (Nat.mod_eq_of_lt hk).symm)
  exact ⟨vget_vset_ne _ _ hp, vget_vset_ne _ _ hp⟩

theorem State.beaconOut_now (s : State) (p : Nat) : (s.beaconOut p).now = s.now ∧ (s.beaconOut p).tq = s.tq := ⟨rfl, rfl⟩

/-- Beacons on other ports leave a port's own. -/
theorem State.foldl_beaconOut_ne (s : State) {p : Fin 4} (l : List Nat) (hl : ∀ k ∈ l, k < 4) (h : p.val ∉ l) :
    vget (l.foldl State.beaconOut s).cst.beacon p = vget s.cst.beacon p ∧ vget (l.foldl State.beaconOut s).cst.reply p = vget s.cst.reply p := by
  induction l generalizing s with
  | nil => exact ⟨rfl, rfl⟩
  | cons k l ih =>
    rw [List.mem_cons, not_or] at h
    obtain ⟨h1, h2⟩ := ih (s.beaconOut k) (fun j hj => hl j (List.mem_cons_of_mem _ hj)) h.2
    obtain ⟨h3, h4⟩ := s.beaconOut_ne (hl k List.mem_cons_self) (Ne.symm h.1)
    exact ⟨h1.trans h3, h2.trans h4⟩

/-- Each port of a list without repetition has its own beacon. -/
theorem State.foldl_beaconOut (s : State) {p : Fin 4} (l : List Nat) (hl : ∀ k ∈ l, k < 4) (hd : l.Nodup) (h : p.val ∈ l) :
    vget (l.foldl State.beaconOut s).cst.beacon p = some ⟨s.now, s.tq, vget s.cst.reply p⟩ ∧ vget (l.foldl State.beaconOut s).cst.reply p = none := by
  induction l generalizing s with
  | nil => exact absurd h List.not_mem_nil
  | cons k l ih =>
    have hl' : ∀ j ∈ l, j < 4 := fun j hj => hl j (List.mem_cons_of_mem _ hj)
    obtain ⟨hk, hd'⟩ := List.nodup_cons.mp hd
    by_cases hkp : k = p.val
    · subst hkp
      obtain ⟨h1, h2⟩ := (s.beaconOut p).foldl_beaconOut_ne l hl' hk
      obtain ⟨h3, h4⟩ := s.beaconOut_same p
      exact ⟨h1.trans h3, h2.trans h4⟩
    · obtain ⟨h1, h2⟩ := ih (s.beaconOut k) hl' hd' ((List.mem_cons.mp h).resolve_left (Ne.symm hkp))
      obtain ⟨-, h4⟩ := s.beaconOut_ne (hl k List.mem_cons_self) hkp
      rw [h4, (s.beaconOut_now k).1, (s.beaconOut_now k).2] at h1
      exact ⟨h1, h2⟩

theorem State.childPorts_nodup (s : State) : s.childPorts.Nodup ∧ ∀ k ∈ s.childPorts, k < 4 := by
  have hports (a b c : Bool) : (if a then [1, 2, 3] else (if b then [0] else []) ++ (if c then [1] else [])).Nodup
      ∧ ∀ k ∈ (if a then [1, 2, 3] else (if b then [0] else []) ++ (if c then [1] else [])), k < 4 := by
    cases a <;> cases b <;> cases c <;> decide
  unfold State.childPorts
  exact ⟨List.Nodup.filter _ (hports _ _ _).1, fun k hk => (hports _ _ _).2 k (List.mem_filter.mp hk).1⟩

theorem beacon_send (s : State) (p : Fin 4) (hv : s.cstValid = true) (hp : s.childPorts.contains p.val = true) :
    Completes .beaconSend s (fun t => vget t.cst.beacon p = some ⟨s.now, s.tq, vget s.cst.reply p⟩ ∧ vget t.cst.reply p = none)
    ∧ ∀ x, Completes (.beaconReply p x) s (fun t => vget t.cst.reply p = some x) := by
  have he : exec .beaconSend s = .next (s.childPorts.foldl State.beaconOut s) := congrArg Host.Outcome.next (if_neg (by rw [hv]; decide))
  obtain ⟨hd, hl⟩ := s.childPorts_nodup
  refine ⟨⟨_, he, s.foldl_beaconOut _ hl hd (List.contains_iff_mem.mp hp)⟩, fun x => ?_⟩
  exact ⟨_, congrArg Host.Outcome.next (if_pos (by rw [hv, hp]; rfl)), vget_vset_same _ _ _⟩

/-- The counts of good and bad offsets. -/
def State.lockCounted (s : State) (good bad : Nat) : State := s.modCst (fun c => { c with good := min good 64, bad := min bad 4 })

/-- The node has been locked, and its Almanac returns. -/
def State.lockReturns (s : State) : State :=
  let s := s.modCst (fun c => { c with everLocked := true })
  { s with alm := { s.alm with holdover := false, returning := true } }

/-- LOCKED as the counts ask. -/
def State.lockShown (s : State) (good bad : Nat) : State :=
  if s.flag CST_STAT.LOCKED then if 4 ≤ bad then s.put CST_STAT.LOCKED 0 else s
  else if 64 ≤ good then ((s.put CST_STAT.LOCKED 1).put CST_STAT.HOLDOVER 0).lockReturns else s

theorem State.cstLockStep_eq (s : State) (o : Int) : ∃ good bad, s.cstLockStep o = (s.lockCounted good bad).lockShown good bad := ⟨_, _, rfl⟩

theorem State.lockReturns_fields (s : State) : (∀ f, s.lockReturns.get f = s.get f) ∧ s.lockReturns.cst.stepped = s.cst.stepped
    ∧ s.lockReturns.alm.slewLeft = s.alm.slewLeft := ⟨fun _ => rfl, rfl, rfl⟩

theorem State.lockShown_keeps (s : State) (good bad : Nat) : (∀ f : Fld, f.addr ≠ CST_STAT.addr → (s.lockShown good bad).get f = s.get f)
    ∧ (s.lockShown good bad).cst.stepped = s.cst.stepped ∧ (s.lockShown good bad).alm.slewLeft = s.alm.slewLeft := by
  unfold State.lockShown
  split
  · split
    · exact ⟨fun f hf => State.get_put_reg _ _ _ _ hf, by rw [State.put_cst], by rw [State.put_alm]⟩
    · exact ⟨fun _ _ => rfl, rfl, rfl⟩
  · split
    · obtain ⟨h1, h2, h3⟩ := ((s.put CST_STAT.LOCKED 1).put CST_STAT.HOLDOVER 0).lockReturns_fields
      exact ⟨fun f hf => (h1 f).trans ((State.get_put_reg _ _ _ _ hf).trans (State.get_put_reg _ _ _ _ hf)), h2.trans (by rw [State.put_cst, State.put_cst]),
        h3.trans (by rw [State.put_alm, State.put_alm])⟩
    · exact ⟨fun _ _ => rfl, rfl, rfl⟩

/-- An offset of `o` picoseconds moves CST_STAT alone of the registers, and neither the slew nor whether an offset was taken. -/
theorem State.cstLockStep_keeps (s : State) (o : Int) : (∀ f : Fld, f.addr ≠ CST_STAT.addr → (s.cstLockStep o).get f = s.get f)
    ∧ (s.cstLockStep o).cst.stepped = s.cst.stepped ∧ (s.cstLockStep o).alm.slewLeft = s.alm.slewLeft := by
  obtain ⟨good, bad, he⟩ := s.cstLockStep_eq o
  rw [he]
  exact (s.lockCounted good bad).lockShown_keeps good bad

/-- The Almanac steps, or slews by d. -/
def State.beaconSlew (s : State) (d : Int) (jump : Bool) : State :=
  if jump then s.stepTo (BitVec.ofInt 80 ((s.now.toNat : Int) - d)) else { s with alm := { s.alm with slewLeft := -d * 2 ^ 24 } }

/-- The Almanac takes the quality of the root's time. -/
def State.rootTqTaken (s : State) (tq : BitVec 2) : State := { s with alm := { s.alm with rootTq := if s.cst.everLocked then tq.toNat else 0 } }

/-- What a beacon does to an Almanac that the Constellation disciplines: its offset is o picoseconds, d in units of a stamp. -/
def State.beaconTaken (s : State) (d o : Int) (tq : BitVec 2) : State :=
  ((((s.modCst (fun k => { k with stepped := true })).beaconSlew d (! s.cst.stepped && decide (1000000 < o.natAbs))).cstLockStep o).rootTqTaken tq).almTq.recSettle

theorem State.beaconSlew_keeps (s : State) (d : Int) (jump : Bool) : (∀ f : Fld, f.addr / 0x10000 = 0x19 → (s.beaconSlew d jump).get f = s.get f)
    ∧ (s.beaconSlew d jump).cst = s.cst ∧ (jump = false → (s.beaconSlew d jump).alm.slewLeft = -d * 2 ^ 24) := by
  unfold State.beaconSlew
  split
  next h =>
    have hk := Kept.stepTo (.refl _ s) (Foot.le_refl _) (BitVec.ofInt 80 ((s.now.toNat : Int) - d))
    exact ⟨fun f hf => hk.get_of (Foot.word_of_win hf rfl), hk.part_of .cst rfl, fun h' => absurd (h.symm.trans h') (by decide)⟩
  next => exact ⟨fun _ _ => rfl, rfl, fun _ => rfl⟩

theorem State.beaconTaken_fields (s : State) (d o : Int) (tq : BitVec 2) :
    (∀ f : Fld, f.addr / 0x10000 = 0x19 → f.addr ≠ CST_STAT.addr → (s.beaconTaken d o tq).get f = s.get f) ∧ (s.beaconTaken d o tq).cst.stepped = true
    ∧ (s.cst.stepped = true → (s.beaconTaken d o tq).alm.slewLeft = -d * 2 ^ 24) := by
  obtain ⟨h1, h2, h3⟩ := (s.modCst (fun k => { k with stepped := true })).beaconSlew_keeps d (! s.cst.stepped && decide (1000000 < o.natAbs))
  have hget (f : Fld) : (s.modCst (fun k => { k with stepped := true })).get f = s.get f := rfl
  have hst : (s.modCst (fun k => { k with stepped := true })).cst.stepped = true := rfl
  unfold State.beaconTaken
  generalize s.modCst (fun k => { k with stepped := true }) = x at h1 h2 h3 hget hst
  generalize x.beaconSlew d _ = y at h1 h2 h3
  obtain ⟨k1, k2, k3⟩ := y.cstLockStep_keeps o
  generalize y.cstLockStep o = z at k1 k2 k3
  have hk : Kept ⟨false, [0x00, 0x03, 0x1A], [], [.boot]⟩ (z.rootTqTaken tq) (z.rootTqTaken tq).almTq.recSettle :=
    Kept.recSettle (Kept.almTq (.refl _ _) (by decide)) (by decide)
  have hz (f : Fld) : (z.rootTqTaken tq).get f = z.get f := rfl
  refine ⟨fun f hf hne => ?_, ?_, fun hs => ?_⟩
  · exact (hk.get_of (Foot.word_of_win hf rfl)).trans ((hz f).trans ((k1 f hne).trans ((h1 f hf).trans (hget f))))
  · rw [hk.part_of .cst rfl]
    exact k2.trans ((congrArg CstSt.stepped h2).trans hst)
  · rw [hk.part_of .alm rfl]
    exact k3.trans (h3 (by rw [hs]; rfl))

/-- The offset of a beacon shown. -/
def State.offsetShown (s : State) (num den : Int) : State := (s.roundOpen num den).2.put CST_OFFSET.OFFSET (satSigned 32 (s.roundOpen num den).1)

theorem State.offsetShown_fields (s : State) (num den : Int) : (∀ f : Fld, f.addr ≠ CST_OFFSET.addr → (s.offsetShown num den).get f = s.get f)
    ∧ (s.offsetShown num den).cst = s.cst ∧ (s.offsetShown num den).almSrc = s.almSrc := by
  have hk := Kept.roundOpen (.refl _ s) (Foot.le_refl _) num den
  unfold State.offsetShown
  refine ⟨fun f hf => (State.get_put_reg _ _ _ _ hf).trans (hk.get_of rfl), by rw [State.put_cst, hk.part_of .cst rfl], ?_⟩
  rw [State.almSrc, State.app_put]
  exact hk.app_of rfl

theorem beacon_receive (s : State) (p : Fin 4) (tTx : Stamp) (tq : BitVec 2) (tRx : Stamp) (c : Nat) (hv : s.cstValid = true)
    (hp : s.parentPort = some p.val) (hu : s.portUp p = true) :
    let raw : Int := (tRx.toNat : Int) - tTx.toNat
    Completes (.beaconReceive p tTx tq tRx c) s (fun t => t.get (CST_PORT_DELAY.DELAY p) = c % 2 ^ 21
      ∧ (s.almSrc = 3 → t.cst.stepped = true)
      ∧ (s.almSrc = 3 → s.cst.stepped = true → s.dev ≠ load →
        t.alm.slewLeft = -(raw - psToStamp (c + toSigned 16 (s.get (CST_PORT_CTRL.ASYM p)))) * 2 ^ 24)) := by
  intro raw
  let y := s.put (CST_PORT_DELAY.DELAY p) c
  let fix : Int := c + toSigned 16 (y.get (CST_PORT_CTRL.ASYM p))
  let z := y.offsetShown (raw * 1000000000000 - fix * 2 ^ 40) (2 ^ 40)
  have hgo : ¬ (! (s.cstValid && s.parentPort == some p.val && s.portUp p)) = true := by
    rw [hv, hp, hu, beq_self_eq_true]
    decide
  have he : exec (.beaconReceive p tTx tq tRx c) s = .next (if z.almSrc != 3 then z
      else z.beaconTaken (raw - psToStamp fix) (y.roundOpen (raw * 1000000000000 - fix * 2 ^ 40) (2 ^ 40)).1 tq) := congrArg Host.Outcome.next (if_neg hgo)
  have hne : CST_PORT_CTRL.addr p ≠ CST_PORT_DELAY.addr p ∧ CST_PORT_DELAY.addr p ≠ CST_OFFSET.addr ∧ CST_PORT_DELAY.addr p ≠ CST_STAT.addr := by
    unfold CST_PORT_CTRL.addr CST_PORT_DELAY.addr CST_OFFSET.addr CST_STAT.addr
    omega
  have hfix : fix = c + toSigned 16 (s.get (CST_PORT_CTRL.ASYM p)) := congrArg (fun n => (c : Int) + toSigned 16 n) (State.get_put_reg _ _ _ _ hne.1)
  have hdelay : y.get (CST_PORT_DELAY.DELAY p) = c % 2 ^ 21 := State.get_put_same _ _ _ (by show 0 + 21 ≤ 32; decide)
  have hcst : y.cst = s.cst := State.put_cst _ _ _
  have hsrc : y.almSrc = s.almSrc := State.app_put _ _ _ _
  obtain ⟨h1, h2, h3⟩ := y.offsetShown_fields (raw * 1000000000000 - fix * 2 ^ 40) (2 ^ 40)
  have hz1 : z.get (CST_PORT_DELAY.DELAY p) = c % 2 ^ 21 := (h1 _ hne.2.1).trans hdelay
  have hz2 : z.cst = s.cst := h2.trans hcst
  have hz3 : z.almSrc = s.almSrc := h3.trans hsrc
  generalize (y.roundOpen (raw * 1000000000000 - fix * 2 ^ 40) (2 ^ 40)).1 = o at he
  generalize z = x at he hz1 hz2 hz3
  rw [hfix, hz3] at he
  obtain ⟨k1, k2, k3⟩ := x.beaconTaken_fields (raw - psToStamp (c + toSigned 16 (s.get (CST_PORT_CTRL.ASYM p)))) o tq
  refine ⟨_, he, ?_⟩
  by_cases h : s.almSrc = 3
  · rw [h, if_neg (by decide)]
    exact ⟨(k1 _ (CST_PORT_DELAY.addr_win p) hne.2.2).trans hz1, fun _ => k2, fun _ hs _ => k3 (by rw [hz2]; exact hs)⟩
  · rw [if_pos (bne_iff_ne.mpr h)]
    exact ⟨hz1, fun h' => absurd h' h, fun h' => absurd h' h⟩

/-- Settles O44: ports that come up and go down, frames, and beacons out and in. -/
theorem constellationLinkCommandsComplete : Obligations.ConstellationLinkCommandsComplete := by
  unfold Obligations.ConstellationLinkCommandsComplete
  exact ⟨fun s p delay peer count c healed ha hen hst => ⟨port_up_far s p delay peer count c healed ha hen hst, port_up_near s p delay peer count c healed ha hen hst,
      port_up_parent s p delay count c ha hen hst⟩,
    port_down, port_down_remote, frame_resend, beacon_send, beacon_receive⟩

end Sys2Proof.Machine
end

section
/-! PROOFS. The operations of the Constellation as a member and the root take part in them (R498 to R503). -/

namespace Sys2Proof.Machine

/-! ### Operation status and messages -/

/-- Operation k has ended with a code. -/
def State.opEnded (k code : Nat) (t : State) : Prop := t.opRuns k = false ∧ t.flag (CST_OP_STAT.DONE k) = true ∧ t.get (CST_OP_STAT.CODE k) = code

theorem State.opEnded.of_get {s t : State} {k code : Nat} (h : s.opEnded k code) (hg : ∀ lo n, t.get ⟨CST_OP_STAT.addr k, lo, n⟩ = s.get ⟨CST_OP_STAT.addr k, lo, n⟩) :
    t.opEnded k code := by
  obtain ⟨h1, h2, h3⟩ := h
  exact ⟨(State.flag_eq_get (hg 31 1)).trans h1, (State.flag_eq_get (hg 30 1)).trans h2, (hg 0 8).trans h3⟩

theorem State.opEnd_fields (s : State) (k node : Nat) {code : Nat} (hc : code < 256) : (s.opEnd k node code).opEnded k code
    ∧ (s.opEnd k node code).get (CST_OP_STAT.NODE k) = node % 2 ^ 14 ∧ (∀ a, a ≠ CST_OP_STAT.addr k → (s.opEnd k node code).word a = s.word a)
    ∧ (s.opEnd k node code).cst = s.cst := by
  have hput (x : State) (lo n v lo' n' : Nat) (h : lo + n ≤ 32) (hd : lo + n ≤ lo' ∨ lo' + n' ≤ lo) :
      (x.put ⟨CST_OP_STAT.addr k, lo, n⟩ v).get ⟨CST_OP_STAT.addr k, lo', n'⟩ = x.get ⟨CST_OP_STAT.addr k, lo', n'⟩ :=
    State.get_put_apart _ _ _ _ h (.inr hd)
  have hnode (x : State) (lo n : Nat) (h : 30 ≤ lo) : ((x.put (CST_OP_STAT.NODE k) node).put (CST_OP_STAT.CODE k) code).get ⟨CST_OP_STAT.addr k, lo, n⟩
      = x.get ⟨CST_OP_STAT.addr k, lo, n⟩ :=
    (hput _ 0 8 code lo n (by decide) (.inl (by omega))).trans (hput _ 16 14 node lo n (by decide) (.inl (by omega)))
  unfold State.opEnd
  refine ⟨⟨?_, ?_, ?_⟩, ?_, fun a ha => ?_, ?_⟩
  · exact (State.flag_eq_get ((hnode _ 31 1 (by decide)).trans (hput _ 30 1 1 31 1 (by decide) (.inl (by decide))))).trans (State.flag_put_zero _ _ (by show 31 + 1 ≤ 32; decide))
  · exact (State.flag_eq_get (hnode _ 30 1 (by decide))).trans (State.flag_put_one _ _ (by show 30 + 1 ≤ 32; decide) rfl)
  · exact (State.get_put_same _ _ _ (by show 0 + 8 ≤ 32; decide)).trans (Nat.mod_eq_of_lt hc)
  · exact (hput _ 0 8 code 16 14 (by decide) (.inl (by decide))).trans (State.get_put_same _ _ _ (by show 16 + 14 ≤ 32; decide))
  · rw [State.word_put_ne _ _ _ ha, State.word_put_ne _ _ _ ha, State.word_put_ne _ _ _ ha, State.word_put_ne _ _ _ ha]
  · rw [State.put_cst, State.put_cst, State.put_cst, State.put_cst]

theorem CST_OP_STAT.addr_lt (k : Nat) : 0x190210 ≤ CST_OP_STAT.addr k ∧ CST_OP_STAT.addr k < 0x190224 := by
  unfold CST_OP_STAT.addr
  omega

theorem State.opBegin_fields (s : State) (k : Nat) : (s.opBegin k).opRuns k = true ∧ (s.opBegin k).cst = s.cst
    ∧ ∀ f : Fld, f.addr ≠ CST_OP_STAT.addr k → f.addr ≠ CST_MEMBERS.addr → (s.opBegin k).get f = s.get f := by
  have hput (x : State) (lo n v : Nat) (h : lo + n ≤ 31) : (x.put ⟨CST_OP_STAT.addr k, lo, n⟩ v).get (CST_OP_STAT.BUSY k) = x.get (CST_OP_STAT.BUSY k) :=
    State.get_put_apart _ _ _ _ (by show lo + n ≤ 32; omega) (.inr (.inl h))
  have hmem (x : State) (v : Nat) {f : Fld} (hf : f.addr ≠ CST_MEMBERS.addr) : (x.put CST_MEMBERS.MEMBERS v).get f = x.get f := State.get_put_reg _ _ _ _ hf
  have hne : CST_OP_STAT.addr k ≠ CST_MEMBERS.addr := ne_of_gt (lt_of_lt_of_le (by decide) (CST_OP_STAT.addr_lt k).1)
  unfold State.opBegin
  refine ⟨?_, ?_, fun f h1 h2 => ?_⟩
  · exact (State.flag_eq_get ((hmem _ _ hne).trans ((hput _ 16 14 0 (by decide)).trans ((hput _ 0 8 0 (by decide)).trans (hput _ 30 1 0 (by decide)))))).trans
      (State.flag_put_one s _ (by show 31 + 1 ≤ 32; decide) rfl)
  · rw [State.put_cst, State.put_cst, State.put_cst, State.put_cst, State.put_cst]
  · exact (hmem _ _ h2).trans ((State.get_put_reg _ _ _ _ h1).trans ((State.get_put_reg _ _ _ _ h1).trans ((State.get_put_reg _ _ _ _ h1).trans (State.get_put_reg _ _ _ _ h1))))

/-- The last frames sent on the ports. -/
def State.sentSet (s : State) (v : Vector (Option CstMsg) 4) : State := s.modCst (fun c => { c with sent := v })

/-- A message to the children moves only what was last sent. -/
theorem State.cstDown_eq (s : State) (m : CstMsg) : ∃ v, s.cstDown m = s.sentSet v := by
  unfold State.cstDown
  refine List.foldl_inv (P := fun t : State => ∃ v, t = s.sentSet v) (fun t p ⟨v, hv⟩ => ⟨vset v (Fin.ofNat _ p) (some m), ?_⟩) _ ⟨s.cst.sent, rfl⟩
  rw [hv]
  rfl

theorem State.cstUp_eq (s : State) (m : CstMsg) : ∃ v, s.cstUp m = s.sentSet v := by
  unfold State.cstUp
  split
  next p _ => exact ⟨vset s.cst.sent (Fin.ofNat _ p) (some m), rfl⟩
  next => exact ⟨s.cst.sent, rfl⟩

theorem State.get_sentSet (s : State) (v : Vector (Option CstMsg) 4) (f : Fld) : (s.sentSet v).get f = s.get f := rfl

theorem State.get_modCst (s : State) (g : CstSt → CstSt) (f : Fld) : (s.modCst g).get f = s.get f := rfl

/-! ### Broadcasts (R499) -/

theorem CST_BC_RX.addr_ne (k : Nat) : CST_BC_STAT.addr ≠ CST_BC_RX.addr k := by
  unfold CST_BC_STAT.addr CST_BC_RX.addr
  omega

/-- The oldest broadcast is shown with the count of those held. -/
theorem State.rxShow_fields (s : State) : s.rxShow.cst = s.cst ∧ s.rxShow.get CST_BC_STAT.COUNT = s.cst.rx.length % 32 := by
  have hk := Kept.rxShow (.refl _ s) (Foot.le_refl _)
  refine ⟨hk.part_of .cst rfl, ?_⟩
  have hcount : (s.put CST_BC_STAT.COUNT s.cst.rx.length).get CST_BC_STAT.COUNT = s.cst.rx.length % 32 := State.get_put_same _ _ _ (by decide)
  unfold State.rxShow
  generalize s.put CST_BC_STAT.COUNT s.cst.rx.length = y at hcount
  have hsrc (x : State) (v : Nat) : (x.put CST_BC_STAT.SRC v).get CST_BC_STAT.COUNT = x.get CST_BC_STAT.COUNT := State.get_put_clear _ _ _ _ rfl
  have hword (x : State) (k : Nat) (w : Word) : (x.setWord (CST_BC_RX.addr k) w).get CST_BC_STAT.COUNT = x.get CST_BC_STAT.COUNT :=
    State.get_setWord_ne _ _ _ _ (CST_BC_RX.addr_ne k)
  have hfree (x : State) : x.drawFree.get CST_BC_STAT.COUNT = x.get CST_BC_STAT.COUNT := rfl
  dsimp only
  split
  next m _ _ =>
    exact List.foldl_inv (P := fun t : State => t.get CST_BC_STAT.COUNT = s.cst.rx.length % 32) (fun t k ht => (hword t k _).trans ht) _ ((hsrc y _).trans hcount)
  next =>
    exact List.foldl_inv (P := fun t : State => t.get CST_BC_STAT.COUNT = s.cst.rx.length % 32) (fun t k ht => (hfree _).trans ((hword t k _).trans ht)) _
      ((hfree _).trans ((hsrc y _).trans hcount))

/-- A broadcast has come in: it is held, or overflows. -/
def State.rxTaken (s : State) (m : Nat × List Word) : State :=
  if s.cst.rx.length < 16 then (s.modCst (fun c => { c with rx := c.rx ++ [m] })).rxShow else s.put CST_BC_STAT.OVF 1

theorem broadcast_deliver (s : State) (sender : BitVec 14) (data : Vector Word 8) (hv : s.cstValid = true) : Completes (.broadcastDeliver sender data) s (fun t =>
    (s.cst.rx.length < 16 → t.cst.rx = s.cst.rx ++ [(sender.toNat, data.toList)] ∧ t.get CST_BC_STAT.COUNT = s.cst.rx.length + 1)
    ∧ (16 ≤ s.cst.rx.length → t.cst.rx = s.cst.rx ∧ t.flag CST_BC_STAT.OVF = true)) := by
  obtain ⟨v, hdown⟩ := s.cstDown_eq (.broadcast sender.toNat data.toList)
  let y := s.sentSet v
  let z := if y.opRuns opBcast && sender.toNat == y.get CST_NODE.ID && data.toList == y.cst.tx then y.opEnd opBcast 0 0 else y
  have he : exec (.broadcastDeliver sender data) s = .next (z.rxTaken (sender.toNat, data.toList)) := by
    have h : exec (.broadcastDeliver sender data) s = .next ((if (s.cstDown (.broadcast sender.toNat data.toList)).opRuns opBcast
        && sender.toNat == (s.cstDown (.broadcast sender.toNat data.toList)).get CST_NODE.ID && data.toList == (s.cstDown (.broadcast sender.toNat data.toList)).cst.tx
        then (s.cstDown (.broadcast sender.toNat data.toList)).opEnd opBcast 0 0 else s.cstDown (.broadcast sender.toNat data.toList)).rxTaken
        (sender.toNat, data.toList)) := congrArg Host.Outcome.next (if_neg (by rw [hv]; decide))
    rw [h, hdown]
  have hrx : z.cst.rx = s.cst.rx := by
    have hend := congrArg CstSt.rx (y.opEnd_fields opBcast 0 (code := 0) (by decide)).2.2.2
    show (if _ then y.opEnd opBcast 0 0 else y).cst.rx = _
    split
    · exact hend
    · rfl
  generalize z = x at he hrx
  refine ⟨_, he, fun h => ?_, fun h => ?_⟩
  · unfold State.rxTaken
    rw [if_pos (by rw [hrx]; exact h)]
    obtain ⟨h1, h2⟩ := (x.modCst (fun c => { c with rx := c.rx ++ [(sender.toNat, data.toList)] })).rxShow_fields
    have h3 : (x.modCst (fun c => { c with rx := c.rx ++ [(sender.toNat, data.toList)] })).cst.rx = s.cst.rx ++ [(sender.toNat, data.toList)] := by
      rw [← hrx]
      rfl
    rw [h1, h2, h3]
    refine ⟨rfl, ?_⟩
    rw [List.length_append, List.length_singleton]
    omega
  · unfold State.rxTaken
    rw [if_neg (by rw [hrx]; exact Nat.not_lt.mpr h)]
    exact ⟨by rw [State.put_cst, hrx], State.flag_put_one _ _ (by decide) rfl⟩

/-! ### Barriers (R500) -/

/-- A report upward leaves what has arrived. -/
theorem State.barReport_keeps (s : State) : s.barReport.cst.childArrived = s.cst.childArrived ∧ s.barReport.cst.arrived = s.cst.arrived
    ∧ ∀ f, s.barReport.get f = s.get f := by
  unfold State.barReport
  split
  · obtain ⟨v, hv⟩ := s.cstUp_eq .arrived
    rw [hv]
    exact ⟨rfl, rfl, fun _ => rfl⟩
  · exact ⟨rfl, rfl, fun _ => rfl⟩

theorem arrival_report (s : State) (p : Fin 4) (hv : s.cstValid = true) (hp : s.childPorts.contains p.val = true) :
    Completes (.arrivalReport p) s (fun t => ∀ q, q ∈ t.cst.childArrived ↔ q = p.val ∨ q ∈ s.cst.childArrived) := by
  have he : exec (.arrivalReport p) s = .next (s.modCst (fun c => { c with childArrived := p.val :: c.childArrived.filter (· != p.val) })).barReport :=
    congrArg Host.Outcome.next (if_pos (by rw [hv, hp]; rfl))
  refine ⟨_, he, fun q => ?_⟩
  rw [(State.barReport_keeps _).1]
  show q ∈ p.val :: s.cst.childArrived.filter (· != p.val) ↔ _
  rw [List.mem_cons, List.mem_filter, bne_iff_ne]
  by_cases h : q = p.val
  · simp [h]
  · simp [h]

/-- The barrier is released at root time x. -/
def State.barDone (x : Stamp) (l : Bool) (t : State) : Prop := t.getStamp CST_BAR_TS.addr = x ∧ t.opEnded opBarrier (if l then Err.sequence.code else 0)
  ∧ t.cst.arrived = false ∧ t.cst.childArrived = [] ∧ t.cst.reported = false

/-- The barrier's part of the state, cleared. -/
def State.barCleared (s : State) : State := s.modCst (fun c => { c with arrived := false, childArrived := [], reported := false, barLost := false })

theorem State.barRelease'_eq (s : State) (x : Stamp) (l : Bool) :
    s.barRelease' x l = (((s.cstDown (.release x l)).putStamp CST_BAR_TS.addr x).opEnd opBarrier 0 (if l then Err.sequence.code else 0)).barCleared := by
  unfold State.barRelease' State.barCleared
  rfl

theorem State.barCleared_done {s : State} {x : Stamp} {l : Bool} (hts : s.getStamp CST_BAR_TS.addr = x)
    (he : s.opEnded opBarrier (if l then Err.sequence.code else 0)) : s.barCleared.barDone x l :=
  ⟨(State.getStamp_congr rfl rfl rfl).trans hts, he.of_get (fun _ _ => rfl), rfl, rfl, rfl⟩

theorem State.getStamp_opEnd (s : State) (k node code : Nat) (hc : code < 256) : (s.opEnd k node code).getStamp CST_BAR_TS.addr = s.getStamp CST_BAR_TS.addr := by
  obtain ⟨-, -, hw, -⟩ := s.opEnd_fields k node hc
  have hne {a : Nat} (h : 0x190224 ≤ a) : a ≠ CST_OP_STAT.addr k := ne_of_gt (lt_of_lt_of_le (CST_OP_STAT.addr_lt k).2 h)
  exact State.getStamp_congr (hw _ (hne (by decide))) (hw _ (hne (by decide))) (hw _ (hne (by decide)))

theorem State.barRelease'_done (s : State) (x : Stamp) (l : Bool) : (s.barRelease' x l).barDone x l := by
  have hc : (if l then Err.sequence.code else 0) < 256 := by cases l <;> decide
  rw [State.barRelease'_eq]
  exact State.barCleared_done ((State.getStamp_opEnd _ _ _ _ hc).trans (State.getStamp_putStamp _ _ _)) (State.opEnd_fields _ _ _ hc).1

theorem barrier_release (s : State) (x : Stamp) (lost : Bool) (hv : s.cstValid = true) :
    (s.cstRoot = false → Completes (.barrierRelease x lost) s (State.barDone x lost))
    ∧ (s.cstRoot = true → s.cst.barLost = true → Completes (.barrierRelease x lost) s (State.barDone s.now true))
    ∧ (s.cstRoot = true → s.cst.barLost = false → s.barComplete = true → Completes (.barrierRelease x lost) s (State.barDone s.now false)) := by
  have hgo : ¬ (! s.cstValid) = true := by rw [hv]; decide
  refine ⟨fun h => ?_, fun h hl => ?_, fun h hl hc => ?_⟩
  · exact ⟨_, congrArg Host.Outcome.next ((if_neg hgo).trans (if_neg (by rw [h]; decide))), s.barRelease'_done x lost⟩
  · exact ⟨_, congrArg Host.Outcome.next ((if_neg hgo).trans ((if_pos h).trans (if_pos hl))), s.barRelease'_done s.now true⟩
  · exact ⟨_, congrArg Host.Outcome.next ((if_neg hgo).trans ((if_pos h).trans ((if_neg (by rw [hl]; decide)).trans (if_pos hc)))), s.barRelease'_done s.now false⟩

end Sys2Proof.Machine
end

section
/-! PROOFS. Snapshots and synchronised applies (R501, R502). -/

namespace Sys2Proof.Machine

theorem State.cst_sentSet (s : State) (v : Vector (Option CstMsg) 4) : (s.sentSet v).cst = { s.cst with sent := v } := rfl

/-! ### Snapshots (R501) -/

/-- A record depends on the node's ID and on registers of other blocks. -/
theorem State.snapRecord_congr {s t : State} (h : ∀ a, a / 0x10000 ≠ 0x19 → t.word a = s.word a) (hid : t.get CST_NODE.ID = s.get CST_NODE.ID) (x : Stamp) (no : Word)
    (late : Bool) : t.snapRecord x no late = s.snapRecord x no late := by
  have htq : t.tq = s.tq := congrArg (bitsOf · _ _) (h ALM_STAT.addr (by decide))
  have hdev : t.dev = s.dev := congrArg (bitsOf · _ _) (h SYS_STATE.addr (by decide))
  have htrg : t.word TRG_CNT_ACCEPT.addr = s.word TRG_CNT_ACCEPT.addr := h _ (by decide)
  have hneb : t.word NEB_PUB_SEQ.addr = s.word NEB_PUB_SEQ.addr := h _ (by decide)
  have hfft (k : Nat) : t.word (FFT_SRC_SEQ.addr k) = s.word (FFT_SRC_SEQ.addr k) := h _ (by rw [FFT_SRC_SEQ.addr_win]; split <;> decide)
  have hacq (k : Nat) : t.word (ACQ_U_SEGNO.addr k) = s.word (ACQ_U_SEGNO.addr k) := h _ (by rw [ACQ_U_SEGNO.addr_win]; decide)
  unfold State.snapRecord
  rw [htq, hdev, htrg, hneb, hid]
  simp only [hfft, hacq]

/-- A member takes part in a snapshot and hands it on. -/
def State.snapBegun (s : State) (x : Stamp) (no : Word) : State := if s.cstRoot then s else (s.opBegin opSnap).cstDown (.snapshot x no)

/-- The record in SRAM, and the arbiter's turn. -/
def State.snapStored (s : State) (a : Nat) (l : List Byte) : State := ((s.setSramBytes a l).unpoison a 64).arbServe (sramPath a) 11 []

/-- No snapshot is under way. -/
def State.snapCleared (s : State) : State := s.modCst (fun c => { c with snap := none, snapLost := false })

/-- The end of a snapshot at this node. -/
def State.snapOver (s : State) : State := (s.opEnd opSnap 0 (if s.cstRoot && s.cst.snapLost then Err.sequence.code else 0)).snapCleared

theorem exec_snapshotCapture (s : State) (req : Option (Stamp × Word × Bool)) (x : Stamp) (no : Word) (late : Bool) (hv : s.cstValid = true)
    (hreq : (if s.cstRoot then s.cst.snap else req) = some (x, no, late)) (hx : x.toNat ≤ s.now.toNat) : exec (.snapshotCapture req) s =
    .next (((s.snapBegun x no).snapStored (0x06F00000 + (s.snapBegun x no).app CST_SNAP_BASE.BASE * 64 + no.toNat % 16 * 64)
      ((s.snapBegun x no).snapRecord x no late)).snapOver) := by
  have hgo : ¬ (! s.cstValid || s.now.toNat < x.toNat) = true := by
    rw [hv, decide_eq_false (Nat.not_lt.mpr hx)]
    decide
  have he : exec (.snapshotCapture req) s = execSnapshotCapture req s := rfl
  rw [he]
  unfold execSnapshotCapture State.snapOver State.snapCleared State.snapStored State.snapBegun
  simp only [hreq, if_neg hgo]

theorem State.snapBegun_fields (s : State) (x : Stamp) (no : Word) : (∀ a, a / 0x10000 ≠ 0x19 → (s.snapBegun x no).word a = s.word a)
    ∧ (s.snapBegun x no).get CST_NODE.ID = s.get CST_NODE.ID ∧ (s.snapBegun x no).cst.snapLost = s.cst.snapLost ∧ ∀ f, (s.snapBegun x no).app f = s.app f := by
  unfold State.snapBegun
  split
  · exact ⟨fun _ _ => rfl, rfl, rfl, fun _ => rfl⟩
  · have hk : Kept ⟨false, [0x19], [], [.cst]⟩ s ((s.opBegin opSnap).cstDown (.snapshot x no)) := Kept.cstDown (Kept.opBegin (.refl _ s) (by decide) _) (by decide) _
    obtain ⟨-, hc, hg⟩ := s.opBegin_fields opSnap
    refine ⟨fun a ha => hk.word_of ?_, ?_, ?_, fun f => hk.app_of rfl⟩
    · show [0x19].contains (a / 0x10000) = false
      simpa using ha
    · obtain ⟨v, hv⟩ := (s.opBegin opSnap).cstDown_eq (.snapshot x no)
      rw [hv, State.get_sentSet]
      exact hg _ (by decide) (by decide)
    · obtain ⟨v, hv⟩ := (s.opBegin opSnap).cstDown_eq (.snapshot x no)
      rw [hv, State.cst_sentSet, hc]

theorem State.snapStored_fields (s : State) (a : Nat) (l : List Byte) : (∀ (k : Nat) b, l[k]? = some b → (s.snapStored a l).sramByte (a + k) = b)
    ∧ (s.snapStored a l).cst = s.cst ∧ ∀ f, (s.snapStored a l).app f = s.app f := by
  have hk : Kept ⟨false, [0x00, 0x15, 0x1B], [], [.flt, .dma]⟩ (s.setSramBytes a l) (s.snapStored a l) :=
    Kept.arbServe (Kept.unpoison (.refl _ _) (by decide) a 64) (by decide) _ _ _
  have hb : Kept ⟨false, [], [], [.sram]⟩ s (s.setSramBytes a l) := Kept.setSramBytes l (.refl _ s) rfl a
  refine ⟨fun k b h => ?_, (hk.part_of .cst rfl).trans (hb.part_of .cst rfl), fun f => (hk.app_of rfl).trans (hb.app_of rfl)⟩
  rw [State.sramByte_of_sram (hk.part_of .sram rfl)]
  obtain ⟨hlt, hget⟩ := List.getElem?_eq_some_iff.mp h
  rw [State.sramByte_setSramBytes_mem s a l k hlt, hget]

theorem State.snapOver_fields (s : State) : s.snapOver.opEnded opSnap (if s.cstRoot && s.cst.snapLost then Err.sequence.code else 0)
    ∧ s.snapOver.cst.snap = none ∧ ∀ a, s.snapOver.sramByte a = s.sramByte a := by
  have hc : (if s.cstRoot && s.cst.snapLost then Err.sequence.code else 0) < 256 := by split <;> decide
  have he := (s.opEnd_fields opSnap 0 hc).1
  have hk := Kept.opEnd (.refl _ s) (Foot.le_refl _) opSnap 0 (if s.cstRoot && s.cst.snapLost then Err.sequence.code else 0)
  have hs := hk.part_of .sram rfl
  have hclear (y : State) : (∀ f, y.snapCleared.get f = y.get f) ∧ y.snapCleared.cst.snap = none ∧ y.snapCleared.sram = y.sram := ⟨fun _ => rfl, rfl, rfl⟩
  unfold State.snapOver
  obtain ⟨h1, h2, h3⟩ := hclear (s.opEnd opSnap 0 (if s.cstRoot && s.cst.snapLost then Err.sequence.code else 0))
  exact ⟨he.of_get (fun _ _ => h1 _), h2, State.sramByte_of_sram (h3.trans hs)⟩

theorem snapshot_capture (s : State) (req : Option (Stamp × Word × Bool)) (t0 : Stamp) (no : Word) (late : Bool) (hv : s.cstValid = true)
    (hreq : (if s.cstRoot then s.cst.snap else req) = some (t0, no, late)) (ht : t0.toNat ≤ s.now.toNat) :
    let a := 0x06F00000 + s.app CST_SNAP_BASE.BASE * 64 + no.toNat % 16 * 64
    Completes (.snapshotCapture req) s (fun t => t.opEnded opSnap (if s.cstRoot && s.cst.snapLost then Err.sequence.code else 0) ∧ t.cst.snap = none
      ∧ ∀ (k : Nat) b, (s.snapRecord t0 no late)[k]? = some b → t.sramByte (a + k) = b) := by
  intro a
  have he := exec_snapshotCapture s req t0 no late hv hreq ht
  obtain ⟨h1, h2, h3, h4⟩ := s.snapBegun_fields t0 no
  rw [State.snapRecord_congr h1 h2, h4] at he
  generalize s.snapBegun t0 no = y at he h3 h4
  obtain ⟨k1, k2, k3⟩ := y.snapStored_fields a (s.snapRecord t0 no late)
  have hlost : (y.snapStored a (s.snapRecord t0 no late)).cst.snapLost = s.cst.snapLost := (congrArg CstSt.snapLost k2).trans h3
  have hroot : (y.snapStored a (s.snapRecord t0 no late)).cstRoot = s.cstRoot := by
    rw [State.cstRoot, State.cstRoot, State.appFlag, State.appFlag, k3, h4]
  obtain ⟨m1, m2, m3⟩ := (y.snapStored a (s.snapRecord t0 no late)).snapOver_fields
  rw [hlost, hroot] at m1
  exact ⟨_, he, m1, m2, fun k b hb => (m3 _).trans (k1 k b hb)⟩

/-! ### Verdicts (R502) -/

/-- The apply under way. -/
def State.applySet (s : State) (x : CstApplyRun) : State := s.modCst (fun c => { c with apply := some x })

/-- At a member, or before its own verdict, a node collects: it may pass the verdict on, and decides nothing else. -/
theorem State.applyCollect_keeps (s : State) (x : CstApplyRun) (hx : s.cst.apply = some x) (h : s.cstRoot = false ∨ x.own = none) :
    (∃ d, s.applyCollect.cst.apply = some { x with decided := d }) ∧ (∀ f, s.applyCollect.get f = s.get f) ∧ s.applyCollect.sys = s.sys := by
  have hsame : (∃ d, s.cst.apply = some { x with decided := d }) ∧ (∀ f, s.get f = s.get f) ∧ s.sys = s.sys := ⟨⟨x.decided, hx⟩, fun _ => rfl, rfl⟩
  unfold State.applyCollect
  rw [hx]
  dsimp only
  split
  · exact hsame
  next own hown =>
    split
    · exact hsame
    · have hroot : s.cstRoot = false := h.resolve_right (fun h' => by rw [h'] at hown; exact absurd hown (by simp))
      rw [hroot, if_pos (by decide)]
      obtain ⟨v, hv⟩ := s.cstUp_eq (.verdict (lowestRefusal ((s.get CST_NODE.ID, own) :: x.from_.map (·.2))).1 (lowestRefusal ((s.get CST_NODE.ID, own) :: x.from_.map (·.2))).2)
      rw [hv]
      exact ⟨⟨true, rfl⟩, fun _ => rfl, rfl⟩

theorem lowestRefusal_of_pass (l : List (Nat × Nat)) (h : ∀ y ∈ l, y.2 = 0) : lowestRefusal l = (0, 0) := by
  unfold lowestRefusal
  generalize hb : ((0, 0) : Nat × Nat) = b
  induction l with
  | nil => rfl
  | cons y l ih =>
    rw [List.foldl_cons, if_pos (h y List.mem_cons_self)]
    exact ih (fun z hz => h z (List.mem_cons_of_mem _ hz))

theorem State.cstInstant_modCst (s : State) (f : CstSt → CstSt) (h : (f s.cst).ringBroken = s.cst.ringBroken) : (s.modCst f).cstInstant = s.cstInstant := by
  have hd : (s.modCst f).cstDepth = s.cstDepth := by
    unfold State.cstDepth
    rw [show (s.modCst f).cst.ringBroken = s.cst.ringBroken from h]
    rfl
  unfold State.cstInstant State.cstLead
  rw [hd]
  rfl

theorem State.childPorts_applySet (s : State) (x : CstApplyRun) : (s.applySet x).childPorts = s.childPorts := rfl

/-- The root decides for a commit once every verdict passes. -/
theorem State.applyCollect_commit (s : State) (x : CstApplyRun) (hx : s.cst.apply = some x) (hr : s.cstRoot = true) (hown : x.own = some 0) (hd : x.decided = false)
    (hall : ∀ q ∈ s.childPorts, ∃ y ∈ x.from_, y.1 = q) (hpass : ∀ y ∈ x.from_, y.2.2 = 0) :
    s.applyCollect.cst.apply = some { x with decided := true, commit := some s.cstInstant } := by
  have hchild : s.childPorts.all (fun p => x.from_.any (fun y => y.1 == p)) = true := by
    rw [List.all_eq_true]
    intro q hq
    obtain ⟨y, hy, hyq⟩ := hall q hq
    exact List.any_eq_true.mpr ⟨y, hy, beq_iff_eq.mpr hyq⟩
  have hlow : lowestRefusal ((s.get CST_NODE.ID, 0) :: x.from_.map (·.2)) = (0, 0) := by
    refine lowestRefusal_of_pass _ (fun y hy => ?_)
    rcases List.mem_cons.mp hy with rfl | hy
    · rfl
    · obtain ⟨z, hz, rfl⟩ := List.mem_map.mp hy
      exact hpass z hz
  unfold State.applyCollect
  rw [hx]
  dsimp only
  rw [hown]
  dsimp only
  rw [hd, hchild, hlow, hr]
  rfl

theorem verdict_report (s : State) (x : CstApplyRun) (p : Fin 4) (node : BitVec 14) (code : BitVec 8) (hx : s.cst.apply = some x) (hv : s.cstValid = true)
    (hp : s.childPorts.contains p.val = true) (hd : x.decided = false) :
    let l := (p.val, node.toNat, code.toNat) :: x.from_.filter (fun y => y.1 != p.val)
    ((s.cstRoot = false ∨ x.own = none) → Completes (.verdictReport p node code) s (fun t => t.cst.apply.map (·.from_) = some l))
    ∧ (s.cstRoot = true → x.own = some 0 → (∀ q ∈ s.childPorts, ∃ y ∈ l, y.1 = q) → (∀ y ∈ l, y.2.2 = 0) →
      Completes (.verdictReport p node code) s (fun t => t.cst.apply = some { x with from_ := l, decided := true, commit := some s.cstInstant })) := by
  intro l
  have he : exec (.verdictReport p node code) s = .next (s.applySet { x with from_ := l }).applyCollect := by
    simp only [exec, execVerdictReport, hx, hv, hp, hd, Bool.not_false, Bool.and_self, if_true]
    rfl
  constructor
  · intro h
    obtain ⟨⟨d, h1⟩, -, -⟩ := (s.applySet { x with from_ := l }).applyCollect_keeps { x with from_ := l } rfl h
    exact ⟨_, he, congrArg (Option.map (·.from_)) h1⟩
  · intro hr hown hall hpass
    have hc := (s.applySet { x with from_ := l }).applyCollect_commit { x with from_ := l } rfl hr hown hd (by rw [State.childPorts_applySet]; exact hall) hpass
    have hi : (s.applySet { x with from_ := l }).cstInstant = s.cstInstant := State.cstInstant_modCst s _ rfl
    rw [hi] at hc
    exact ⟨_, he, hc⟩

/-! ### PREPARE (R502) -/

/-- A member begins an apply of these groups and hands it on. -/
def State.prepBegun (s : State) (groups : Word) : State := (s.opBegin opApply).cstDown (.prepare groups)

/-- The admission check of the groups, its result and its windows. -/
def State.prepJudged (s : State) (groups : Word) : State :=
  if (s.admitWith (s.pendView groups) s.caps).1.isNone then (s.admitWith (s.pendView groups) s.caps).2.winCheck (s.pendView groups)
  else (s.admitWith (s.pendView groups) s.caps).2

/-- The code of that check. -/
def State.prepCode (s : State) (groups : Word) : Nat := match (s.admitWith (s.pendView groups) s.caps).1 with | some e => e.code | none => 0

/-- The groups are locked with their verdict. -/
def State.prepLocked (s : State) (code : Nat) : State := ((s.put SYS_UPDATE_STAT.DONE 1).put SYS_UPDATE_STAT.CODE code).put SYS_UPDATE_STAT.STATE 2

/-- An apply of these groups with a verdict of this node's own. -/
def CstApplyRun.prepared (groups : Word) (own : Option Nat) : CstApplyRun := { groups := groups, own := own, from_ := [], decided := false, commit := none }

theorem exec_applyPrepare (s : State) (groups : Word) (hv : s.cstValid = true) (hr : s.cstRoot = false) (ho : s.opRuns opApply = false) : exec (.applyPrepare groups) s =
    .next (if (s.prepBegun groups).get SYS_UPDATE_STAT.STATE != 0 then ((s.prepBegun groups).applySet (.prepared groups (some Err.busy.code))).applyCollect
      else (((((s.prepBegun groups).updateBegin groups .constellation false false true).prepJudged groups).prepLocked
        (((s.prepBegun groups).updateBegin groups .constellation false false true).prepCode groups)).applySet
        (.prepared groups (some (((s.prepBegun groups).updateBegin groups .constellation false false true).prepCode groups)))).applyCollect) := by
  have he : exec (.applyPrepare groups) s = execApplyPrepare groups s := rfl
  rw [he]
  unfold execApplyPrepare
  simp only [hv, hr, ho, Bool.not_true, Bool.false_eq_true, if_false]
  generalize hy : s.prepBegun groups = y
  have hy' : (s.opBegin opApply).cstDown (.prepare groups) = y := hy
  rw [hy']
  split
  · rfl
  · dsimp only
    generalize y.updateBegin groups .constellation false false true = u
    unfold State.prepLocked State.prepJudged State.prepCode State.applySet CstApplyRun.prepared
    generalize u.admitWith (u.pendView groups) u.caps = v
    rfl

theorem State.prepBegun_fields (s : State) (groups : Word) : (s.prepBegun groups).opRuns opApply = true
    ∧ (s.prepBegun groups).get SYS_UPDATE_STAT.STATE = s.get SYS_UPDATE_STAT.STATE ∧ (s.prepBegun groups).cstRoot = s.cstRoot := by
  have hk : Kept ⟨false, [0x19], [], [.cst]⟩ s (s.prepBegun groups) := Kept.cstDown (Kept.opBegin (.refl _ s) (by decide) _) (by decide) _
  obtain ⟨hb, -, -⟩ := s.opBegin_fields opApply
  obtain ⟨v, hv⟩ := (s.opBegin opApply).cstDown_eq (.prepare groups)
  refine ⟨?_, hk.get_of rfl, ?_⟩
  · unfold State.prepBegun
    rw [hv]
    exact (State.flag_eq_get (State.get_sentSet _ _ _)).trans hb
  · rw [State.cstRoot, State.cstRoot, State.appFlag, State.appFlag, hk.app_of (g := CST_CTRL.ROLE) rfl]

theorem State.updateBegin_sys (s : State) (groups : Word) : (s.updateBegin groups .constellation false false true).sys.updMask = groups
    ∧ (s.updateBegin groups .constellation false false true).sys.updCst = true := ⟨rfl, rfl⟩

theorem State.prepLocked_fields (s : State) (groups : Word) (code : Nat) : Kept ⟨false, [0x00], [], [.fft]⟩ s ((s.prepJudged groups).prepLocked code)
    ∧ ((s.prepJudged groups).prepLocked code).get SYS_UPDATE_STAT.STATE = 2 := by
  have ha : Kept ⟨false, [0x00], [], [.fft]⟩ s (s.admitWith (s.pendView groups) s.caps).2 := Kept.admitWith (.refl _ s) (by decide) _ _
  have hj : Kept ⟨false, [0x00], [], [.fft]⟩ s (s.prepJudged groups) := by
    unfold State.prepJudged
    split
    · exact Kept.winCheck ha (by decide) _
    · exact ha
  unfold State.prepLocked
  exact ⟨Kept.put SYS_UPDATE_STAT.STATE 2 (Kept.put SYS_UPDATE_STAT.CODE code (Kept.put SYS_UPDATE_STAT.DONE 1 hj rfl) rfl) rfl, State.get_put_same _ _ _ (by decide)⟩

theorem State.applySet_fields (s : State) (x : CstApplyRun) : (s.applySet x).cst.apply = some x ∧ (s.applySet x).cstRoot = s.cstRoot
    ∧ (∀ f, (s.applySet x).get f = s.get f) ∧ (s.applySet x).sys = s.sys := ⟨rfl, rfl, fun _ => rfl, rfl⟩

theorem apply_prepare (s : State) (groups : Word) (hv : s.cstValid = true) (hr : s.cstRoot = false) (ho : s.opRuns opApply = false) :
    (s.get SYS_UPDATE_STAT.STATE ≠ 0 → Completes (.applyPrepare groups) s (fun t => t.opRuns opApply = true
      ∧ t.cst.apply.bind (·.own) = some Err.busy.code ∧ t.cst.apply.map (·.groups) = some groups))
    ∧ (s.get SYS_UPDATE_STAT.STATE = 0 → Completes (.applyPrepare groups) s (fun t => t.opRuns opApply = true ∧ t.get SYS_UPDATE_STAT.STATE = 2
      ∧ t.sys.updCst = true ∧ t.sys.updMask = groups ∧ (t.cst.apply.bind (·.own)).isSome = true)) := by
  have he := exec_applyPrepare s groups hv hr ho
  obtain ⟨hruns, hstate, hroot⟩ := s.prepBegun_fields groups
  rw [hstate] at he
  generalize s.prepBegun groups = y at he hruns hstate hroot
  have hroot' : y.cstRoot = false := hroot.trans hr
  constructor
  · intro hs
    rw [if_pos (bne_iff_ne.mpr hs)] at he
    obtain ⟨k1, k2, k3, -⟩ := y.applySet_fields (.prepared groups (some Err.busy.code))
    obtain ⟨⟨d, m1⟩, m2, -⟩ := (y.applySet (.prepared groups (some Err.busy.code))).applyCollect_keeps _ k1 (.inl (k2.trans hroot'))
    exact ⟨_, he, (State.flag_eq_get ((m2 _).trans (k3 _))).trans hruns, congrArg (Option.bind · (·.own)) m1, congrArg (Option.map (·.groups)) m1⟩
  · intro hs
    rw [hs, if_neg (by decide)] at he
    have hu := Kept.updateBegin (.refl _ y) (Foot.le_refl _) groups .constellation false false true
    obtain ⟨hmask, hcst⟩ := y.updateBegin_sys groups
    generalize y.updateBegin groups .constellation false false true = u at he hu hmask hcst
    obtain ⟨hl, h2⟩ := u.prepLocked_fields groups (u.prepCode groups)
    generalize u.prepCode groups = code at he hl h2
    generalize (u.prepJudged groups).prepLocked code = z at he hl h2
    have hzroot : z.cstRoot = false := by
      rw [State.cstRoot, State.appFlag, hl.app_of (g := CST_CTRL.ROLE) rfl, hu.app_of (g := CST_CTRL.ROLE) rfl]
      exact hroot'
    have hzruns : z.opRuns opApply = true := (hl.flag_of (g := CST_OP_STAT.BUSY opApply) rfl).trans ((hu.flag_of (g := CST_OP_STAT.BUSY opApply) rfl).trans hruns)
    have hzsys : z.sys = u.sys := hl.part_of .sys rfl
    obtain ⟨k1, k2, k3, k4⟩ := z.applySet_fields (.prepared groups (some code))
    obtain ⟨⟨d, m1⟩, m2, m3⟩ := (z.applySet (.prepared groups (some code))).applyCollect_keeps _ k1 (.inl (k2.trans hzroot))
    refine ⟨_, he, (State.flag_eq_get ((m2 _).trans (k3 _))).trans hzruns, ((m2 _).trans (k3 _)).trans h2, ?_, ?_, ?_⟩
    · rw [m3, k4, hzsys, hcst]
    · rw [m3, k4, hzsys, hmask]
    · rw [m1]
      rfl

/-! ### COMMIT and ABORT (R502) -/

/-- No apply is under way. -/
def State.applyCleared (s : State) : State := s.modCst (fun c => { c with apply := none })

theorem State.applyCommit_fields (s : State) (x : CstApplyRun) : (s.applyCommit x).opEnded opApply 0 ∧ (s.applyCommit x).cst.apply = none := by
  have hc (y : State) : (∀ f, y.applyCleared.get f = y.get f) ∧ y.applyCleared.cst.apply = none := ⟨fun _ => rfl, rfl⟩
  have he : s.applyCommit x = ((if s.sys.updCst then s.applyEdge x.groups false else s).opEnd opApply 0 0).applyCleared := rfl
  rw [he]
  obtain ⟨h1, -⟩ := State.opEnd_fields (if s.sys.updCst then s.applyEdge x.groups false else s) opApply 0 (code := 0) (by decide)
  obtain ⟨k1, k2⟩ := hc ((if s.sys.updCst then s.applyEdge x.groups false else s).opEnd opApply 0 0)
  exact ⟨h1.of_get (fun _ _ => k1 _), k2⟩

theorem State.applyDrop_fields (s : State) : (∀ f : Fld, f.addr ≠ SYS_UPDATE_STAT.addr → s.applyDrop.get f = s.get f) ∧ s.applyDrop.cst.apply = none := by
  have hfree (y : State) : (∀ f, ({ y with sys := { y.sys with updCst := false } } : State).get f = y.get f)
    ∧ ({ y with sys := { y.sys with updCst := false } } : State).cst = y.cst := ⟨fun _ => rfl, rfl⟩
  have hc : (∀ f, s.applyCleared.get f = s.get f) ∧ s.applyCleared.cst.apply = none := ⟨fun _ => rfl, rfl⟩
  have he : s.applyDrop = if s.applyCleared.sys.updCst then
      { s.applyCleared.put SYS_UPDATE_STAT.STATE 0 with sys := { s.applyCleared.sys with updCst := false } } else s.applyCleared := rfl
  rw [he]
  generalize s.applyCleared = y at hc
  split
  · have hsys : y.sys = (y.put SYS_UPDATE_STAT.STATE 0).sys := (State.put_sys _ _ _).symm
    rw [hsys]
    obtain ⟨h1, h2⟩ := hfree (y.put SYS_UPDATE_STAT.STATE 0)
    refine ⟨fun f hf => (h1 f).trans ((State.get_put_reg _ _ _ _ hf).trans (hc.1 f)), ?_⟩
    rw [h2, State.put_cst]
    exact hc.2
  · exact ⟨fun f _ => hc.1 f, hc.2⟩

theorem State.applyAbort_fields (s : State) (node : Nat) {code : Nat} (hc : code < 256) (hr : s.opRuns opApply = true) : (s.applyAbort node code).opEnded opApply code
    ∧ (s.applyAbort node code).get (CST_OP_STAT.NODE opApply) = node % 2 ^ 14 ∧ (s.applyAbort node code).cst.apply = none := by
  have he : s.applyAbort node code = (s.opEnd opApply node code).applyDrop := if_pos hr
  obtain ⟨h1, h2, -, -⟩ := s.opEnd_fields opApply node hc
  rw [he]
  generalize s.opEnd opApply node code = y at h1 h2
  obtain ⟨k1, k2⟩ := y.applyDrop_fields
  exact ⟨h1.of_get (fun _ _ => k1 _ (show CST_OP_STAT.addr opApply ≠ SYS_UPDATE_STAT.addr by decide)), (k1 _ (by decide)).trans h2, k2⟩

theorem apply_commit (s : State) (x : CstApplyRun) (t0 : Stamp) (hx : s.cst.apply = some x) (ho : s.cstOn = true) (hr : s.cstRoot = false) (hc : x.commit = none) :
    (s.now.toNat < t0.toNat → Completes (.applyCommit (.commit t0)) s (fun t => t.cst.apply = some { x with commit := some t0 }))
    ∧ (t0.toNat ≤ s.now.toNat → Completes (.applyCommit (.commit t0)) s (fun t => t.opEnded opApply 0 ∧ t.cst.apply = none)) := by
  obtain ⟨v, hv⟩ := s.cstDown_eq (.commit t0)
  have he : exec (.applyCommit (.commit t0)) s = .next (if t0.toNat ≤ (s.sentSet v).now.toNat then (s.sentSet v).applyCommit x
      else (s.sentSet v).applySet { x with commit := some t0 }) := by
    simp only [exec, execApplyCommit, hx, ho, hr, hc, hv, Bool.not_true, Bool.false_eq_true, Option.isSome_none, Bool.or_self, if_false]
    rfl
  have hnow : (s.sentSet v).now = s.now := rfl
  rw [hnow] at he
  constructor
  · intro h
    rw [if_neg (Nat.not_le.mpr h)] at he
    exact ⟨_, he, rfl⟩
  · intro h
    rw [if_pos h] at he
    exact ⟨_, he, State.applyCommit_fields _ _⟩

theorem apply_abort (s : State) (x : CstApplyRun) (node : BitVec 14) (code : BitVec 8) (hx : s.cst.apply = some x) (ho : s.cstOn = true) (hr : s.cstRoot = false)
    (hruns : s.opRuns opApply = true) : Completes (.applyCommit (.abort node code)) s (fun t =>
      t.opEnded opApply code.toNat ∧ t.get (CST_OP_STAT.NODE opApply) = node.toNat ∧ t.cst.apply = none) := by
  obtain ⟨v, hv⟩ := s.cstDown_eq (.abort node.toNat code.toNat)
  have he : exec (.applyCommit (.abort node code)) s = .next ((s.sentSet v).applyAbort node.toNat code.toNat) := by
    simp only [exec, execApplyCommit, hx, ho, hr, hv, Bool.not_true, Bool.false_eq_true, if_false]
  obtain ⟨h1, h2, h3⟩ := (s.sentSet v).applyAbort_fields node.toNat code.isLt ((State.flag_eq_get (State.get_sentSet _ _ _)).trans hruns)
  exact ⟨_, he, h1, h2.trans (Nat.mod_eq_of_lt node.isLt), h3⟩

theorem apply_edge (s : State) (x : CstApplyRun) (t0 : Stamp) (hx : s.cst.apply = some x) (ho : s.cstOn = true) (hc : x.commit = some t0) (ht : t0.toNat ≤ s.now.toNat) :
    Completes (.applyCommit .edge) s (fun t => t.opEnded opApply 0 ∧ t.cst.apply = none) := by
  have he : exec (.applyCommit .edge) s = .next (s.applyCommit x) := by
    simp only [exec, execApplyCommit, hx, ho, hc, Bool.not_true, Bool.false_eq_true, if_false, if_pos ht]
  exact ⟨_, he, s.applyCommit_fields x⟩

end Sys2Proof.Machine
end

section
/-! PROOFS. CST_OP_CMD and the time-out of an operation (R498 to R503). -/

namespace Sys2Proof.Machine

theorem cstRules_act_op (src : Source) (w : Word) (s : State) : cstRules.act src CST_OP_CMD.addr w s = s.opCmd w := rfl

/-- A write that asks for one operation. -/
structure State.opStarts (s : State) (src : Source) (w : Word) (k : Nat) : Prop where
  admits : s.admits cstRules src CST_OP_CMD.addr w
  asks : opsAsked w = [k]
  noPop : w.toNat.testBit 6 = false
  valid : s.cstValid = true
  sized : s.flag CST_STAT.SIZE_MISMATCH = false

theorem State.opCmd_start (s : State) (w : Word) (k : Nat) (hk : opsAsked w = [k]) (hp : w.toNat.testBit 6 = false) (hv : s.cstValid = true)
    (hs : s.flag CST_STAT.SIZE_MISMATCH = false) : s.opCmd w = .ok (s.opStart k (w.toNat.testBit 8)) := by
  unfold State.opCmd
  rw [hk, hp, hv, hs]
  rfl

theorem State.opCmd_pop (s : State) (w : Word) (hk : opsAsked w = []) (hp : w.toNat.testBit 6 = true) (hr : s.cst.rx ≠ []) : s.opCmd w = .ok s.bcPop := by
  have hne : s.cst.rx.isEmpty = false := by
    rw [List.isEmpty_eq_false_iff]
    exact hr
  unfold State.opCmd
  rw [hk, hp, hne]
  rfl

/-- What a write of CST_OP_CMD leaves alone before its action. -/
theorem State.opCmd_landed (s : State) (w : Word) : (s.landed CST_OP_CMD.addr w).cstValid = s.cstValid
    ∧ (s.landed CST_OP_CMD.addr w).flag CST_STAT.SIZE_MISMATCH = s.flag CST_STAT.SIZE_MISMATCH ∧ (s.landed CST_OP_CMD.addr w).cst = s.cst
    ∧ (s.landed CST_OP_CMD.addr w).now = s.now ∧ (s.landed CST_OP_CMD.addr w).cstInstant = s.cstInstant
    ∧ (s.landed CST_OP_CMD.addr w).appStamp CST_TIME.addr = s.appStamp CST_TIME.addr ∧ ∀ a, (s.landed CST_OP_CMD.addr w).appWord a = s.appWord a := by
  have hg (f : Fld) (h : f.addr ≠ CST_OP_CMD.addr) : (s.landed CST_OP_CMD.addr w).get f = s.get f := State.get_landed_ne _ _ _ _ h
  have happ (f : Fld) := State.app_landed s CST_OP_CMD.addr w f
  have hword (a : Nat) : (s.landed CST_OP_CMD.addr w).appWord a = s.appWord a := by
    unfold State.appWord State.landed
    rw [State.setWord_applied]
  have hcst : (s.landed CST_OP_CMD.addr w).cst = s.cst := State.setWord_cst _ _ _
  have hnow : (s.landed CST_OP_CMD.addr w).now = s.now := State.now_landed _ _ _
  have hdev : (s.landed CST_OP_CMD.addr w).dev = s.dev := hg _ (by decide)
  have hvalid : (s.landed CST_OP_CMD.addr w).flag CST_NODE.VALID = s.flag CST_NODE.VALID := State.flag_eq_get (hg _ (by decide))
  have hsize : (s.landed CST_OP_CMD.addr w).flag CST_STAT.SIZE_MISMATCH = s.flag CST_STAT.SIZE_MISMATCH := State.flag_eq_get (hg _ (by decide))
  have hhop : (s.landed CST_OP_CMD.addr w).get CST_HOP.H = s.get CST_HOP.H := hg _ (by decide)
  generalize s.landed CST_OP_CMD.addr w = x at hg happ hword hcst hnow hdev hvalid hsize hhop
  have hdepth : x.cstDepth = s.cstDepth := by
    unfold State.cstDepth State.ring State.ringN State.appFlag
    rw [happ, happ, happ, hcst]
  refine ⟨?_, hsize, hcst, hnow, ?_, ?_, hword⟩
  · unfold State.cstValid State.cstOn State.alive State.appFlag
    rw [hdev, hvalid, happ]
  · unfold State.cstInstant State.cstLead
    rw [hdepth, hnow, hhop]
  · unfold State.appStamp
    rw [hword, hword, hword]

/-- A started operation leaves this state, which answers the write. -/
theorem Completes.of_opStart {c : Instr} {s : State} {src : Source} {w : Word} {k : Nat} {P : State → Prop} (he : exec c s = .next (s.writeReg cstRules src CST_OP_CMD.addr w))
    (h : s.opStarts src w k) (hp : P (((s.landed CST_OP_CMD.addr w).opStart k (w.toNat.testBit 8)).answer 0 0)) : Completes c s P := by
  obtain ⟨h1, h2, -⟩ := s.opCmd_landed w
  exact .of_write he h.admits (by decide) (by decide) ((cstRules_act_op _ _ _).trans (State.opCmd_start _ w k h.asks h.noPop (h1.trans h.valid) (h2.trans h.sized))) hp

/-- The instant of an operation: the time that the register holds, or the next one. -/
def State.opInstant (s : State) (useTime : Bool) : Stamp := if useTime then s.appStamp CST_TIME.addr else s.cstInstant

theorem State.opInstant_landed (s : State) (w : Word) (b : Bool) : (s.landed CST_OP_CMD.addr w).opInstant b = s.opInstant b := by
  obtain ⟨-, -, -, -, h5, h6, -⟩ := s.opCmd_landed w
  unfold State.opInstant
  rw [h5, h6]

/-! ### The five operations -/

theorem State.opRuns_of_get {s t : State} {k : Nat} (h : t.get (CST_OP_STAT.BUSY k) = s.get (CST_OP_STAT.BUSY k)) : t.opRuns k = s.opRuns k := State.flag_eq_get h

/-- A broadcast of this node starts with this payload. -/
def State.bcastStarted (s : State) (data : List Word) : State :=
  let s := s.modCst (fun c => { c with tx := data })
  if s.cstRoot then s else s.cstUp (.broadcast (s.get CST_NODE.ID) data)

theorem State.bcastStarted_fields (s : State) (data : List Word) : (∀ f, (s.bcastStarted data).get f = s.get f) ∧ (s.bcastStarted data).cst.tx = data := by
  unfold State.bcastStarted
  dsimp only
  split
  · exact ⟨fun _ => rfl, rfl⟩
  · obtain ⟨v, hv⟩ := (s.modCst (fun c => { c with tx := data })).cstUp_eq (.broadcast ((s.modCst (fun c => { c with tx := data })).get CST_NODE.ID) data)
    rw [hv]
    exact ⟨fun _ => rfl, rfl⟩

/-- The payload that the registers hold. -/
def State.txData (s : State) : List Word := (List.range 8).map (fun i => s.appWord (CST_BC_TX.addr i))

theorem State.txData_congr {s t : State} (h : ∀ a, t.appWord a = s.appWord a) : t.txData = s.txData := by
  unfold State.txData
  simp only [h]

theorem State.appWord_opBegin (s : State) (k a : Nat) : (s.opBegin k).appWord a = s.appWord a := by
  unfold State.opBegin State.appWord
  rw [State.put_applied, State.put_applied, State.put_applied, State.put_applied, State.put_applied]

theorem State.opStart_bcast (s : State) (b : Bool) : s.opStart opBcast b = (s.opBegin opBcast).bcastStarted (s.opBegin opBcast).txData := by
  unfold State.opStart State.bcastStarted State.txData
  rfl

theorem cst_bcast (s : State) (src : Source) (v : Word) (h : s.opStarts src (v ||| 4) opBcast) : Completes (.bcast src v) s (fun t =>
    t.okAnswer ∧ t.opRuns opBcast = true ∧ t.cst.tx = (List.range 8).map (fun i => s.appWord (CST_BC_TX.addr i))) := by
  obtain ⟨-, -, -, -, -, -, h7⟩ := s.opCmd_landed (v ||| 4)
  refine .of_opStart rfl h ?_
  generalize s.landed CST_OP_CMD.addr (v ||| 4) = x at h7 ⊢
  obtain ⟨hb, -, -⟩ := x.opBegin_fields opBcast
  rw [State.opStart_bcast, State.txData_congr (x.appWord_opBegin opBcast), State.txData_congr h7]
  obtain ⟨k1, k2⟩ := (x.opBegin opBcast).bcastStarted_fields s.txData
  refine ⟨State.answer_ok _, (State.answer_flag _ _ _ _).trans ((State.opRuns_of_get (k1 _)).trans hb), ?_⟩
  rw [State.answer_cst]
  exact k2

/-- This node has arrived at the barrier. -/
def State.hasArrived (s : State) : State := s.modCst (fun c => { c with arrived := true })

theorem State.opStart_barrier (s : State) (b : Bool) : s.opStart opBarrier b = (s.opBegin opBarrier).hasArrived.barReport := by
  unfold State.opStart State.hasArrived
  rfl

theorem cst_arrive (s : State) (src : Source) (v : Word) (h : s.opStarts src (v ||| 2) opBarrier) : Completes (.arrive src v) s (fun t =>
    t.okAnswer ∧ t.opRuns opBarrier = true ∧ t.cst.arrived = true) := by
  refine .of_opStart rfl h ?_
  generalize s.landed CST_OP_CMD.addr (v ||| 2) = x
  obtain ⟨hb, -, -⟩ := x.opBegin_fields opBarrier
  rw [State.opStart_barrier]
  have ha (y : State) : (∀ f, y.hasArrived.get f = y.get f) ∧ y.hasArrived.cst.arrived = true := ⟨fun _ => rfl, rfl⟩
  obtain ⟨h1, h2⟩ := ha (x.opBegin opBarrier)
  obtain ⟨-, k2, k3⟩ := (x.opBegin opBarrier).hasArrived.barReport_keeps
  refine ⟨State.answer_ok _, (State.answer_flag _ _ _ _).trans ((State.opRuns_of_get ((k3 _).trans (h1 _))).trans hb), ?_⟩
  rw [State.answer_cst]
  exact k2.trans h2

/-- A snapshot at x is under way. -/
def State.snapAsked (s : State) (x : Stamp) : State :=
  s.modCst (fun c => { c with snapCount := c.snapCount + 1, snap := some (x, BitVec.ofNat 32 (Config.firstSnapNo + s.cst.snapCount), decide (x.toNat < s.now.toNat)), snapLost := false })

theorem State.snapAsked_fields (s : State) (x : Stamp) (m : CstMsg) : (∀ f, ((s.snapAsked x).cstDown m).get f = s.get f)
    ∧ ((s.snapAsked x).cstDown m).cst.snapCount = s.cst.snapCount + 1
    ∧ ((s.snapAsked x).cstDown m).cst.snap = some (x, BitVec.ofNat 32 (Config.firstSnapNo + s.cst.snapCount), decide (x.toNat < s.now.toNat)) := by
  obtain ⟨v, hv⟩ := (s.snapAsked x).cstDown_eq m
  rw [hv]
  exact ⟨fun _ => rfl, rfl, rfl⟩

theorem State.opStart_snap (s : State) (b : Bool) : ∃ m, s.opStart opSnap b = ((s.opBegin opSnap).snapAsked (s.opInstant b)).cstDown m := by
  unfold State.opStart State.snapAsked State.opInstant
  exact ⟨_, rfl⟩

theorem State.now_opBegin (s : State) (k : Nat) : (s.opBegin k).now = s.now := by
  have hk := Kept.opBegin (.refl _ s) (Foot.le_refl _) k
  rw [State.now, State.now, hk.part_of .alm rfl]

theorem cst_snap (s : State) (src : Source) (v : Word) (h : s.opStarts src (v ||| 8) opSnap) : let x := s.opInstant ((v ||| 8).toNat.testBit 8)
    Completes (.cstSnap src v) s (fun t => t.okAnswer ∧ t.opRuns opSnap = true ∧ t.cst.snapCount = s.cst.snapCount + 1
      ∧ t.cst.snap = some (x, BitVec.ofNat 32 (Config.firstSnapNo + s.cst.snapCount), decide (x.toNat < s.now.toNat))) := by
  intro x
  obtain ⟨-, -, h3, h4, -⟩ := s.opCmd_landed (v ||| 8)
  have hx : (s.landed CST_OP_CMD.addr (v ||| 8)).opInstant ((v ||| 8).toNat.testBit 8) = x := s.opInstant_landed (v ||| 8) _
  refine .of_opStart rfl h ?_
  generalize s.landed CST_OP_CMD.addr (v ||| 8) = y at h3 h4 hx ⊢
  obtain ⟨m, hm⟩ := y.opStart_snap ((v ||| 8).toNat.testBit 8)
  obtain ⟨hb, hc, -⟩ := y.opBegin_fields opSnap
  have hn := y.now_opBegin opSnap
  rw [hm, hx]
  obtain ⟨k1, k2, k3⟩ := (y.opBegin opSnap).snapAsked_fields x m
  rw [hc, h3] at k2
  rw [hc, h3, hn, h4] at k3
  refine ⟨State.answer_ok _, (State.answer_flag _ _ _ _).trans ((State.opRuns_of_get (k1 _)).trans hb), ?_, ?_⟩
  · rw [State.answer_cst]
    exact k2
  · rw [State.answer_cst]
    exact k3

theorem State.opStart_apply (s : State) (b : Bool) : s.opStart opApply b =
    ((s.opBegin opApply).applySet (.prepared ((s.opBegin opApply).appWord CST_APPLY.addr) none)).cstDown (.prepare ((s.opBegin opApply).appWord CST_APPLY.addr)) := by
  unfold State.opStart State.applySet CstApplyRun.prepared
  rfl

theorem cst_apply (s : State) (src : Source) (v : Word) (h : s.opStarts src (v ||| 16) opApply) : Completes (.cstApply src v) s (fun t =>
    t.okAnswer ∧ t.opRuns opApply = true ∧ t.cst.apply = some ⟨s.appWord CST_APPLY.addr, none, [], false, none⟩) := by
  obtain ⟨-, -, -, -, -, -, h7⟩ := s.opCmd_landed (v ||| 16)
  refine .of_opStart rfl h ?_
  generalize s.landed CST_OP_CMD.addr (v ||| 16) = y at h7 ⊢
  rw [State.opStart_apply, State.appWord_opBegin, h7]
  obtain ⟨hb, -, -⟩ := y.opBegin_fields opApply
  obtain ⟨k1, -, k3, -⟩ := (y.opBegin opApply).applySet_fields (.prepared (s.appWord CST_APPLY.addr) none)
  obtain ⟨u, hu⟩ := ((y.opBegin opApply).applySet (.prepared (s.appWord CST_APPLY.addr) none)).cstDown_eq (.prepare (s.appWord CST_APPLY.addr))
  rw [hu]
  refine ⟨State.answer_ok _, (State.answer_flag _ _ _ _).trans ((State.opRuns_of_get ((State.get_sentSet _ _ _).trans (k3 _))).trans hb), ?_⟩
  rw [State.answer_cst, State.cst_sentSet]
  exact k1

/-- Operation k is cancelled where it runs. -/
def State.opCancel (s : State) (k : Nat) : State := if s.opRuns k then s.opEnd k 0 Err.sequence.code else s

/-- What the operations keep, once they are all cancelled. -/
def State.opsCleared (s : State) : State :=
  s.modCst (fun c => { c with tx := [], arrived := false, childArrived := [], reported := false, barLost := false, snap := none, snapLost := false })

theorem State.cancelOps_eq (s : State) : s.cancelOps =
    ((((s.opCancel opBcast).opCancel opBarrier).opCancel opSnap).applyAbort 0 Err.sequence.code).opsCleared := rfl

theorem State.opCancel_fields (s : State) (k : Nat) : (s.opCancel k).opRuns k = false
    ∧ ∀ j, CST_OP_STAT.addr j ≠ CST_OP_STAT.addr k → (s.opCancel k).opRuns j = s.opRuns j := by
  by_cases h : s.opRuns k = true
  · have he : s.opCancel k = s.opEnd k 0 Err.sequence.code := if_pos h
    obtain ⟨h1, -, h3, -⟩ := s.opEnd_fields k 0 (code := Err.sequence.code) (by decide)
    rw [he]
    exact ⟨h1.1, fun j hj => State.opRuns_of_get (congrArg (bitsOf · 31 1) (h3 _ hj))⟩
  · have he : s.opCancel k = s := if_neg h
    rw [he]
    exact ⟨Bool.eq_false_iff.mpr h, fun _ _ => rfl⟩

theorem State.applyAbort_runs (s : State) (node : Nat) {code : Nat} (hc : code < 256) : (s.applyAbort node code).opRuns opApply = false
    ∧ ∀ j, CST_OP_STAT.addr j ≠ CST_OP_STAT.addr opApply → (s.applyAbort node code).opRuns j = s.opRuns j := by
  by_cases h : s.opRuns opApply = true
  · refine ⟨(s.applyAbort_fields node hc h).1.1, fun j hj => ?_⟩
    have he : s.applyAbort node code = (s.opEnd opApply node code).applyDrop := if_pos h
    have hsys : CST_OP_STAT.addr j ≠ SYS_UPDATE_STAT.addr := ne_of_gt (lt_of_lt_of_le (by decide) (CST_OP_STAT.addr_lt j).1)
    obtain ⟨-, -, h3, -⟩ := s.opEnd_fields opApply node hc
    rw [he]
    exact State.opRuns_of_get (((State.applyDrop_fields _).1 _ hsys).trans (congrArg (bitsOf · 31 1) (h3 _ hj)))
  · have he : s.applyAbort node code = s := if_neg h
    rw [he]
    exact ⟨Bool.eq_false_iff.mpr h, fun _ _ => rfl⟩

/-- A cancellation leaves the reset as it runs, and no other operation running. -/
theorem State.cancelOps_runs (s : State) : s.cancelOps.opRuns opReset = s.opRuns opReset ∧ ∀ k, k < 4 → s.cancelOps.opRuns k = false := by
  have hcl (y : State) (k : Nat) : y.opsCleared.opRuns k = y.opRuns k := rfl
  rw [State.cancelOps_eq]
  obtain ⟨a1, a2⟩ := s.opCancel_fields opBcast
  generalize s.opCancel opBcast = y at a1 a2 ⊢
  obtain ⟨b1, b2⟩ := y.opCancel_fields opBarrier
  generalize y.opCancel opBarrier = z at b1 b2 ⊢
  obtain ⟨c1, c2⟩ := z.opCancel_fields opSnap
  generalize z.opCancel opSnap = u at c1 c2 ⊢
  obtain ⟨d1, d2⟩ := u.applyAbort_runs 0 (code := Err.sequence.code) (by decide)
  generalize u.applyAbort 0 Err.sequence.code = w at d1 d2 ⊢
  refine ⟨(hcl _ _).trans ((d2 _ (by decide)).trans ((c2 _ (by decide)).trans ((b2 _ (by decide)).trans (a2 _ (by decide))))), fun k hk => (hcl _ _).trans ?_⟩
  match k, hk with
  | 0, _ => exact (d2 _ (by decide)).trans ((c2 _ (by decide)).trans ((b2 _ (by decide)).trans a1))
  | 1, _ => exact (d2 _ (by decide)).trans ((c2 _ (by decide)).trans b1)
  | 2, _ => exact (d2 _ (by decide)).trans c1
  | 3, _ => exact d1

/-- A system reset is scheduled for x. -/
def State.resetScheduled (s : State) (x : Stamp) : State := s.modCst (fun c => { c with resetAt := some x })

theorem State.opStart_reset (s : State) (b : Bool) : s.opStart opReset b =
    ((s.opBegin opReset).cancelOps.resetScheduled (s.opInstant b)).cstDown (.reset (s.opInstant b)) := by
  unfold State.opStart State.resetScheduled State.opInstant
  rfl

theorem State.resetScheduled_fields (s : State) (x : Stamp) (m : CstMsg) : (∀ k, (((s.resetScheduled x).cstDown m).answer 0 0).opRuns k = s.opRuns k)
    ∧ (((s.resetScheduled x).cstDown m).answer 0 0).cst.resetAt = some x := by
  obtain ⟨v, hv⟩ := (s.resetScheduled x).cstDown_eq m
  rw [hv, State.answer_cst]
  exact ⟨fun k => State.answer_flag _ _ _ _, rfl⟩

theorem cst_reset (s : State) (src : Source) (v : Word) (h : s.opStarts src (v ||| 32) opReset) : Completes (.cstReset src v) s (fun t =>
    t.okAnswer ∧ t.opRuns opReset = true ∧ t.cst.resetAt = some (s.opInstant ((v ||| 32).toNat.testBit 8)) ∧ ∀ k, k < 4 → t.opRuns k = false) := by
  refine .of_opStart rfl h ?_
  have hx := s.opInstant_landed (v ||| 32) ((v ||| 32).toNat.testBit 8)
  generalize s.landed CST_OP_CMD.addr (v ||| 32) = y at hx ⊢
  rw [State.opStart_reset, hx]
  obtain ⟨hb, -, -⟩ := y.opBegin_fields opReset
  generalize y.opBegin opReset = z at hb ⊢
  obtain ⟨h1, h2⟩ := z.cancelOps_runs
  generalize z.cancelOps = u at h1 h2 ⊢
  obtain ⟨k1, k2⟩ := u.resetScheduled_fields (s.opInstant ((v ||| 32).toNat.testBit 8)) (.reset (s.opInstant ((v ||| 32).toNat.testBit 8)))
  exact ⟨State.answer_ok _, (k1 _).trans (h1.trans hb), k2, fun k hk => (k1 k).trans (h2 k hk)⟩

/-! ### BC_POP and the time-out (R498, R499) -/

theorem cst_bcPop (s : State) (src : Source) (v : Word) (ha : s.admits cstRules src CST_OP_CMD.addr (v ||| 64)) (hk : opsAsked (v ||| 64) = [])
    (hr : s.cst.rx ≠ []) : Completes (.bcPop src v) s (fun t =>
      t.okAnswer ∧ t.cst.rx = s.cst.rx.drop 1 ∧ t.get CST_BC_STAT.COUNT = (s.cst.rx.length - 1) % 32) := by
  obtain ⟨-, -, h3, -⟩ := s.opCmd_landed (v ||| 64)
  have hact := cstRules_act_op src (v ||| 64) (s.landed CST_OP_CMD.addr (v ||| 64))
  generalize hx : s.landed CST_OP_CMD.addr (v ||| 64) = x at h3 hact
  have hpop := x.opCmd_pop (v ||| 64) hk (testBit_or_right v 64 (by decide)) (by rw [h3]; exact hr)
  have he : x.bcPop = (x.modCst (fun c => { c with rx := c.rx.drop 1 })).rxShow := rfl
  obtain ⟨k1, k2⟩ := (x.modCst (fun c => { c with rx := c.rx.drop 1 })).rxShow_fields
  have hrx : (x.modCst (fun c => { c with rx := c.rx.drop 1 })).cst.rx = s.cst.rx.drop 1 := by
    rw [← h3]
    rfl
  rw [hrx, List.length_drop] at k2
  refine .of_write rfl ha (by decide) (by decide) (by rw [hx, hact, hpop, he]) ⟨State.answer_ok _, ?_, (State.answer_get _ _ _ _).trans k2⟩
  rw [State.answer_cst, k1, hrx]

/-- What an operation other than an apply leaves when its time is up. -/
def opForgets (k : Nat) (c : CstSt) : CstSt :=
  if k == opSnap then { c with snap := none, snapLost := false } else if k == opReset then { c with resetAt := none } else { c with tx := [] }

theorem op_timeout (s : State) (k : Fin 5) (ho : s.cstOn = true) (hb : k.val ≠ opBarrier) (hr : s.opRuns k = true) :
    Completes (.opTimeout k) s (State.opEnded k Err.timeout.code) := by
  have hgo : ¬ (! s.cstOn || k.val == opBarrier || ! s.opRuns k) = true := by
    rw [ho, hr, beq_false_of_ne hb]
    decide
  have he : exec (.opTimeout k) s = .next (if k.val == opApply then s.applyAbort 0 Err.timeout.code
      else (s.opEnd k 0 Err.timeout.code).modCst (opForgets k)) := congrArg Host.Outcome.next (if_neg hgo)
  refine ⟨_, he, ?_⟩
  split
  next h =>
    have hk : k.val = opApply := beq_iff_eq.mp h
    rw [hk] at hr ⊢
    exact (s.applyAbort_fields 0 (by decide) hr).1
  next => exact (s.opEnd_fields k 0 (by decide)).1.of_get (fun _ _ => State.get_modCst _ _ _)

/-- Settles O45: broadcasts, barriers, snapshots and applies as they pass through a node, then the commands of CST_OP_CMD. -/
theorem constellationOperationCommandsComplete : Obligations.ConstellationOperationCommandsComplete := by
  unfold Obligations.ConstellationOperationCommandsComplete
  intro ended starts at_
  have hs {s : State} {src : Source} {w : Word} {k : Nat} (h : starts s src w k) : s.opStarts src w k := ⟨h.1, h.2.1, h.2.2.1, h.2.2.2.1, h.2.2.2.2⟩
  exact ⟨broadcast_deliver, arrival_report, barrier_release, snapshot_capture, apply_prepare, verdict_report, apply_commit, apply_abort, apply_edge,
    fun s src v h => cst_bcast s src v (hs h), fun s src v h => cst_arrive s src v (hs h), fun s src v h => cst_snap s src v (hs h),
    fun s src v h => cst_apply s src v (hs h), fun s src v h => cst_reset s src v (hs h), cst_bcPop, op_timeout⟩

end Sys2Proof.Machine
end

section
/-! PROOFS. Accesses of registers (R10, R68, R508 to R519). -/

namespace Sys2Proof.Machine

/-! ### Bits of fields -/

theorem testBit_bitsOf (w : Word) (lo n i : Nat) : (bitsOf w lo n).testBit i = (decide (i < n) && w.getLsbD (lo + i)) := by
  rw [bitsOf, Nat.testBit_mod_two_pow, Nat.testBit_div_two_pow, BitVec.testBit_toNat, Nat.add_comm]

theorem bitsOf_congr {x y : Word} {lo n : Nat} (h : ∀ i, i < n → x.getLsbD (lo + i) = y.getLsbD (lo + i)) : bitsOf x lo n = bitsOf y lo n := by
  refine Nat.eq_of_testBit_eq (fun i => ?_)
  rw [testBit_bitsOf, testBit_bitsOf]
  by_cases hi : i < n
  · rw [h i hi]
  · rw [decide_eq_false hi, Bool.false_and, Bool.false_and]

/-- All bits of the word in a field are set, or none is. -/
def fieldFull (w : Word) (f : FieldRow) (b : Bool) : Prop := ∀ i, i < f.n → w.getLsbD (f.lo + i) = b

theorem fieldFull_of_bitsOf {w : Word} {f : FieldRow} {b : Bool} (h : bitsOf w f.lo f.n = if b then 2 ^ f.n - 1 else 0) : fieldFull w f b := by
  intro i hi
  have ht : (bitsOf w f.lo f.n).testBit i = w.getLsbD (f.lo + i) := by rw [testBit_bitsOf, decide_eq_true hi, Bool.true_and]
  rw [← ht, h]
  cases b
  · exact Nat.zero_testBit i
  · rw [if_pos rfl, Nat.testBit_two_pow_sub_one, decide_eq_true hi]

/-- The bits that a read clears where it reads the whole word. -/
def rcBits (fs : List FieldRow) : Word := BitVec.ofNat 32 (fs.foldl (fun m f => if f.acc == .rc then m + f.mask else m) 0)

/-- The masks of the RW fields and of the RC fields are made of those fields, whole. -/
def masksWhole (fs : List FieldRow) : Bool :=
  fs.all (fun f => bitsOf (rwBits fs) f.lo f.n == (if f.acc.isRw then 2 ^ f.n - 1 else 0) && bitsOf (rcBits fs) f.lo f.n == (if f.acc == .rc then 2 ^ f.n - 1 else 0))

theorem rows_masksWhole (b : Nat) : (rowsOfBlock b).all (fun r => masksWhole r.fields) = true := by
  unfold rowsOfBlock
  split <;> decide +kernel

theorem masksWhole_fieldsAt (a : Nat) : masksWhole (fieldsAt a) = true := by
  unfold fieldsAt
  split
  next r h => exact List.all_eq_true.mp (rows_masksWhole _) r (List.mem_of_find?_eq_some h)
  · rfl

theorem fieldFull_masks {a : Nat} {f : FieldRow} (hf : f ∈ fieldsAt a) : fieldFull (rwBits (fieldsAt a)) f f.acc.isRw ∧ fieldFull (rcBits (fieldsAt a)) f (f.acc == .rc) := by
  have h := List.all_eq_true.mp (masksWhole_fieldsAt a) f hf
  rw [Bool.and_eq_true, beq_iff_eq, beq_iff_eq] at h
  exact ⟨fieldFull_of_bitsOf h.1, fieldFull_of_bitsOf h.2⟩

theorem fieldsAt_fit {a : Nat} {f : FieldRow} (hf : f ∈ fieldsAt a) : f.lo + f.n ≤ 32 := by
  have h := fieldsApart_fieldsAt a
  unfold fieldsApart at h
  rw [Bool.and_eq_true] at h
  exact of_decide_eq_true (List.all_eq_true.mp h.1 f hf)

/-! ### Writes (R508, R512, R515, R519) -/

/-- A write of four bytes that every rule admits and whose block takes it, to y. -/
structure State.writeLands (s : State) (src : Source) (addr : Nat) (v : Word) (y : State) : Prop where
  on : s.dev ≠ powerOff
  access : s.accessErr src addr 4 true = none
  locks : (hasGroup (blockOfWindow (normalAddr addr / 0x10000)) && s.cstLocks (blockOfWindow (normalAddr addr / 0x10000))) = false
  pre : (rulesAt addr).pre s src (normalAddr addr) (aliasWord (viewOf addr) (fieldsAt (normalAddr addr)) (s.word (normalAddr addr)) v) = none
  busy : s.updateBusy (normalAddr addr) = none
  reserved : setsReserved (fieldsAt (normalAddr addr)) v = false
  value : valueErr (fieldsAt (normalAddr addr)) (aliasWord (viewOf addr) (fieldsAt (normalAddr addr)) (s.word (normalAddr addr)) v) = none
  act : (rulesAt addr).act src (normalAddr addr) (aliasWord (viewOf addr) (fieldsAt (normalAddr addr)) (s.word (normalAddr addr)) v)
    (s.landed (normalAddr addr) (aliasWord (viewOf addr) (fieldsAt (normalAddr addr)) (s.word (normalAddr addr)) v)) = .ok y

/-- Such a write ends as its block acts. -/
theorem State.writeLands.writeWord {s y : State} {src : Source} {addr : Nat} {v : Word} (h : s.writeLands src addr v y) : s.writeWord src addr v = y.answer 0 0 := by
  have hp : (s.dev == powerOff) = false := beq_false_of_ne h.on
  have hact := h.act
  unfold State.landed at hact
  unfold State.writeWord State.writeReg
  simp only [hp, h.access, h.locks, h.pre, h.busy, h.reserved, h.value, hact, Bool.false_eq_true, if_false]

/-- The block adds nothing to the write. -/
def State.writePlain (s : State) (addr : Nat) (v : Word) (y : State) : Prop :=
  y = s.landed (normalAddr addr) (aliasWord (viewOf addr) (fieldsAt (normalAddr addr)) (s.word (normalAddr addr)) v)

/-- A field that a write sets as it is written. -/
def FieldRow.written (f : FieldRow) : Prop := f.acc.isRw = true ∧ (f.acc = .rwHw → f.n ≠ 1)

theorem FieldRow.written.apart {f : FieldRow} (h : f.written) : f.acc ≠ .rwHw ∨ f.n ≠ 1 := by
  by_cases hhw : f.acc = .rwHw
  · exact .inr (h.2 hhw)
  · exact .inl hhw

/-- What a plain write leaves: the field holds what the word of the view has for it. -/
theorem State.writePlain.val {s y : State} {addr : Nat} {v : Word} (h : s.writePlain addr v y) {f : FieldRow} (hf : f ∈ fieldsAt (normalAddr addr)) (hw : f.written) :
    f.val ((y.answer 0 0).word (normalAddr addr)) = f.val (aliasWord (viewOf addr) (fieldsAt (normalAddr addr)) (s.word (normalAddr addr)) v) := by
  rw [State.answer_word, h]
  have hword : (s.landed (normalAddr addr) (aliasWord (viewOf addr) (fieldsAt (normalAddr addr)) (s.word (normalAddr addr)) v)).word (normalAddr addr)
      = landWord (fieldsAt (normalAddr addr)) (s.word (normalAddr addr)) (aliasWord (viewOf addr) (fieldsAt (normalAddr addr)) (s.word (normalAddr addr)) v) :=
    State.word_setWord_same _ _ _
  rw [hword]
  exact FieldRow.val_landWord_rw (fieldsApart_fieldsAt _) hf hw.1 hw.apart _ _

/-- A plain write changes no other register. -/
theorem State.writePlain.word_ne {s y : State} {addr b : Nat} {v : Word} (h : s.writePlain addr v y) (hb : b ≠ normalAddr addr) : (y.answer 0 0).word b = s.word b := by
  rw [State.answer_word, h]
  exact State.word_setWord_ne _ _ hb

/-- The word that a view makes, field by field (R512). -/
theorem aliasWord_val (view : View) {a : Nat} {f : FieldRow} (hf : f ∈ fieldsAt a) (hw : f.written) (cur v : Word) :
    f.val (aliasWord view (fieldsAt a) cur v) = f.val (match view with | .normal => v | .set => cur ||| v | .clear => cur &&& ~~~ v | .toggle => cur ^^^ v) := by
  have hfull := (fieldFull_masks hf).1
  rw [hw.1] at hfull
  have hfit := fieldsAt_fit hf
  refine bitsOf_congr (fun i hi => ?_)
  have hbit := hfull i hi
  have h32 : f.lo + i < 32 := by omega
  cases view
  · rfl
  · show ((cur &&& rwBits (fieldsAt a)) ||| (v &&& rwBits (fieldsAt a))).getLsbD _ = (cur ||| v).getLsbD _
    simp [hbit]
  · show ((cur &&& rwBits (fieldsAt a)) &&& ~~~ (v &&& rwBits (fieldsAt a))).getLsbD _ = (cur &&& ~~~ v).getLsbD _
    simp only [BitVec.getLsbD_and, BitVec.getLsbD_not, hbit, h32, decide_true, Bool.true_and, Bool.and_true]
  · show ((cur &&& rwBits (fieldsAt a)) ^^^ (v &&& rwBits (fieldsAt a))).getLsbD _ = (cur ^^^ v).getLsbD _
    simp [hbit]

theorem viewOf_viewAddr (a : Nat) : viewOf (viewAddr a 1) = .set ∧ viewOf (viewAddr a 2) = .clear ∧ viewOf (viewAddr a 3) = .toggle := by
  have h (k : Nat) (hk : k < 4) : viewAddr a k % 0x10000 / 0x4000 = k := by
    unfold viewAddr
    omega
  unfold viewOf
  rw [h 1 (by decide), h 2 (by decide), h 3 (by decide)]
  exact ⟨rfl, rfl, rfl⟩

theorem register_write (s : State) (src : Source) (a : Nat) (v : Word) (y : State) (hv : viewOf a = .normal) (h : s.writeLands src a v y) :
    Completes (.registerWrite src a 4 (v.setWidth 64)) s (fun t => t = y.answer 0 0
      ∧ (s.writePlain a v y → (∀ f ∈ fieldsAt (normalAddr a), f.written → f.val (t.word (normalAddr a)) = f.val v) ∧ ∀ b, b ≠ normalAddr a → t.word b = s.word b)) := by
  have hw : (v.setWidth 64).setWidth 32 = v := by
    apply BitVec.eq_of_toNat_eq
    simp only [BitVec.toNat_setWidth]
    have := v.isLt
    omega
  have he : exec (.registerWrite src a 4 (v.setWidth 64)) s = .next (s.writeWord src a ((v.setWidth 64).setWidth 32)) :=
    congrArg Host.Outcome.next ((if_neg (by decide)).trans ((if_neg (fun h => absurd h.1 (by decide))).trans (if_pos rfl)))
  rw [hw, h.writeWord] at he
  refine ⟨_, he, rfl, fun hp => ⟨fun f hf hfw => (hp.val hf hfw).trans ?_, fun b hb => hp.word_ne hb⟩⟩
  rw [aliasWord_val _ hf hfw, hv]

/-- A write through a view: each field takes the word that the view makes. -/
theorem alias_write {c : Instr} {s y : State} {src : Source} {a : Nat} {v : Word} (he : exec c s = .next (s.writeWord src a v)) (h : s.writeLands src a v y) :
    Completes c s (fun t => t = y.answer 0 0 ∧ (s.writePlain a v y → ∀ f ∈ fieldsAt (normalAddr a), f.written →
      f.val (t.word (normalAddr a)) = f.val (aliasWord (viewOf a) (fieldsAt (normalAddr a)) (s.word (normalAddr a)) v))) := by
  rw [h.writeWord] at he
  exact ⟨_, he, rfl, fun hp f hf hw => hp.val hf hw⟩

theorem set_alias (s : State) (src : Source) (a : Nat) (v : Word) (y : State) (h : s.writeLands src (viewAddr a 1) v y) :
    Completes (.setAlias src a v) s (fun t => t = y.answer 0 0 ∧ (s.writePlain (viewAddr a 1) v y → let b := normalAddr (viewAddr a 1)
      ∀ f ∈ fieldsAt b, f.written → f.val (t.word b) = f.val (s.word b ||| v))) :=
  (alias_write (c := .setAlias src a v) rfl h).mono fun _ ⟨ht, hp⟩ => ⟨ht, fun hpl f hf hw => (hp hpl f hf hw).trans (by
    rw [aliasWord_val _ hf hw, (viewOf_viewAddr a).1])⟩

theorem clear_alias (s : State) (src : Source) (a : Nat) (v : Word) (y : State) (h : s.writeLands src (viewAddr a 2) v y) :
    Completes (.clearAlias src a v) s (fun t => t = y.answer 0 0 ∧ (s.writePlain (viewAddr a 2) v y → let b := normalAddr (viewAddr a 2)
      ∀ f ∈ fieldsAt b, f.written → f.val (t.word b) = f.val (s.word b &&& ~~~ v))) :=
  (alias_write (c := .clearAlias src a v) rfl h).mono fun _ ⟨ht, hp⟩ => ⟨ht, fun hpl f hf hw => (hp hpl f hf hw).trans (by
    rw [aliasWord_val _ hf hw, (viewOf_viewAddr a).2.1])⟩

theorem toggle_alias (s : State) (src : Source) (a : Nat) (v : Word) (y : State) (h : s.writeLands src (viewAddr a 3) v y) :
    Completes (.toggleAlias src a v) s (fun t => t = y.answer 0 0 ∧ (s.writePlain (viewAddr a 3) v y → let b := normalAddr (viewAddr a 3)
      ∀ f ∈ fieldsAt b, f.written → f.val (t.word b) = f.val (s.word b ^^^ v))) :=
  (alias_write (c := .toggleAlias src a v) rfl h).mono fun _ ⟨ht, hp⟩ => ⟨ht, fun hpl f hf hw => (hp hpl f hf hw).trans (by
    rw [aliasWord_val _ hf hw, (viewOf_viewAddr a).2.2])⟩

/-- Where a block has a group register, it holds a group number of five bits. -/
theorem groupField (w : Nat) (hw : windowImplemented w = true) (hr : (regRow? (w * 0x10000 + 0x3FF0)).isNone = false) :
    ∃ f ∈ fieldsAt (w * 0x10000 + 0x3FF0), f.written ∧ f.lo = 0 ∧ f.n = 5 := by
  have hall : (blocks ++ [7, 9]).all (fun w => (regRow? (w * 0x10000 + 0x3FF0)).isNone
      || (fieldsAt (w * 0x10000 + 0x3FF0)).any (fun f : FieldRow => f.acc == Acc.rwImm && f.lo == 0 && f.n == 5)) = true := by decide +kernel
  have hmem : w ∈ blocks ++ [7, 9] := by
    unfold windowImplemented at hw
    simp only [Bool.or_eq_true, List.contains_iff_mem, beq_iff_eq] at hw
    rw [List.mem_append]
    rcases hw with (hw | rfl) | rfl
    · exact .inl hw
    · exact .inr (by decide)
    · exact .inr (by decide)
  have h := List.all_eq_true.mp hall w hmem
  rw [hr, Bool.false_or, List.any_eq_true] at h
  obtain ⟨f, hf, hfx⟩ := h
  simp only [Bool.and_eq_true, beq_iff_eq] at hfx
  obtain ⟨⟨hacc, hlo⟩, hn⟩ := hfx
  exact ⟨f, hf, ⟨by rw [hacc]; rfl, fun h => absurd (hacc.symm.trans h) (by decide)⟩, hlo, hn⟩

theorem accessErr_none {s : State} {src : Source} {addr size : Nat} {write : Bool} (h : s.accessErr src addr size write = none) :
    windowImplemented (addr / 0x10000) = true ∧ (regRow? (normalAddr addr / 4 * 4)).isNone = false ∧ addr % size = 0 := by
  unfold State.accessErr at h
  dsimp only at h
  have hwin : ¬ (! windowImplemented (addr / 0x10000)) = true := fun hn => nomatch (if_pos hn).symm.trans h
  rw [if_neg hwin] at h
  have hrow : ¬ (regRow? (normalAddr addr / 4 * 4)).isNone = true := fun hn => nomatch (if_pos hn).symm.trans h
  rw [if_neg hrow] at h
  have hview : ¬ (viewOf addr != .normal && rwBits (fieldsAt (normalAddr addr / 4 * 4)) == 0) = true := fun hn => nomatch (if_pos hn).symm.trans h
  rw [if_neg hview] at h
  have hsize : ¬ (! [1, 2, 4, 8].contains size) = true := fun hn => nomatch (if_pos hn).symm.trans h
  rw [if_neg hsize] at h
  have halign : ¬ (addr % size != 0) = true := fun hn => nomatch (if_pos hn).symm.trans h
  exact ⟨by simpa using hwin, Bool.eq_false_iff.mpr hrow, by simpa using halign⟩

theorem group_write (s : State) (src : Source) (w : Nat) (v : Word) (y : State) (h : s.writeLands src (w * 0x10000 + 0x3FF0) v y) :
    Completes (.groupWrite w src v) s (fun t => t = y.answer 0 0
      ∧ (s.writePlain (w * 0x10000 + 0x3FF0) v y → t.get ⟨w * 0x10000 + 0x3FF0, 0, 5⟩ = v.toNat % 32)) := by
  have hn : normalAddr (w * 0x10000 + 0x3FF0) = w * 0x10000 + 0x3FF0 := by
    unfold normalAddr
    omega
  have hview : viewOf (w * 0x10000 + 0x3FF0) = .normal := by
    have h0 : (w * 0x10000 + 0x3FF0) % 0x10000 / 0x4000 = 0 := by omega
    unfold viewOf
    rw [h0]
    rfl
  obtain ⟨hw, hr, -⟩ := accessErr_none h.access
  have h4 : (w * 0x10000 + 0x3FF0) / 4 * 4 = w * 0x10000 + 0x3FF0 := by omega
  have hwin : (w * 0x10000 + 0x3FF0) / 0x10000 = w := by omega
  rw [hn, h4] at hr
  rw [hwin] at hw
  obtain ⟨f, hf, hfw, hlo, hfn⟩ := groupField w hw hr
  have he : exec (.groupWrite w src v) s = .next (y.answer 0 0) := congrArg Host.Outcome.next h.writeWord
  refine ⟨_, he, rfl, fun hp => ?_⟩
  have hval := hp.val (hn.symm ▸ hf) hfw
  rw [hn, aliasWord_val _ hf hfw, hview] at hval
  unfold FieldRow.val at hval
  rw [hlo, hfn] at hval
  refine hval.trans ?_
  have hbits : bitsOf v 0 5 = v.toNat / 1 % 32 := rfl
  exact hbits.trans (congrArg (fun x => x % 32) (Nat.div_one _))

/-! ### Reads (R10, R68, R511, R515) -/

/-- Word h of a latching register takes its live value. -/
def State.latched (s : State) (h : Nat) : State := { s with latch := SMap.set latchDefault s.latch h (s.liveWord h) }

theorem State.liveWord_latched (s : State) (h a : Nat) : (s.latched h).liveWord a = s.liveWord a := rfl

theorem State.foldl_latched (l : List Nat) (s : State) : (∀ h, h ∈ l ∨ SMap.get latchDefault s.latch h = s.liveWord h →
      SMap.get latchDefault (l.foldl State.latched s).latch h = s.liveWord h)
    ∧ (l.foldl State.latched s).regs = s.regs := by
  induction l generalizing s with
  | nil => exact ⟨fun h hh => hh.resolve_left List.not_mem_nil, rfl⟩
  | cons k l ih =>
    obtain ⟨h1, h2⟩ := ih (s.latched k)
    refine ⟨fun h hh => ?_, h2.trans rfl⟩
    refine (h1 h ?_).trans (s.liveWord_latched k h)
    rw [State.liveWord_latched]
    by_cases hk : h = k
    · subst hk
      exact .inr (SMap.get_set_same _ _ _ _)
    · rcases hh with hh | hh
      · exact .inl ((List.mem_cons.mp hh).resolve_left hk)
      · exact .inr ((SMap.get_set_ne _ _ _ hk).trans hh)

/-- The value that a read of the whole word at a returns. -/
def State.readSource (s : State) (a : Nat) : Word := if isLatched a then SMap.get latchDefault s.latch a else s.liveWord a

/-- The state after a read of the whole word at a. -/
def State.readEnd (s : State) (a : Nat) (lanes : Word) : State :=
  let s := (latchesAt a).foldl State.latched s
  let s := if a == HPT_PBA.addr then s.drawFree else s
  if rcCleared (fieldsAt a) (s.word a) lanes == s.word a then s else s.setWord a (rcCleared (fieldsAt a) (s.word a) lanes)

theorem State.readReg_eq (s : State) (a : Nat) (lanes : Word) : s.readReg a lanes = (readValue (fieldsAt a) (s.readSource a) &&& lanes, s.readEnd a lanes) := rfl

theorem State.readEnd_fields (s : State) (a : Nat) (lanes : Word) : (s.readEnd a lanes).word a = rcCleared (fieldsAt a) (s.word a) lanes
    ∧ (∀ b, b ≠ a → (s.readEnd a lanes).word b = s.word b) ∧ ∀ h ∈ latchesAt a, SMap.get latchDefault (s.readEnd a lanes).latch h = s.liveWord h := by
  obtain ⟨h1, h2⟩ := State.foldl_latched (latchesAt a) s
  unfold State.readEnd
  generalize (latchesAt a).foldl State.latched s = y at h1 h2 ⊢
  have hz : (if a == HPT_PBA.addr then y.drawFree else y).regs = s.regs ∧ (if a == HPT_PBA.addr then y.drawFree else y).latch = y.latch := by
    split
    · exact ⟨h2, rfl⟩
    · exact ⟨h2, rfl⟩
  dsimp only
  generalize (if a == HPT_PBA.addr then y.drawFree else y) = z at hz ⊢
  obtain ⟨hr, hl⟩ := hz
  have hw (b : Nat) : z.word b = s.word b := State.word_of_regs hr b
  rw [hw]
  split
  next h => exact ⟨(hw a).trans (beq_iff_eq.mp h).symm, fun b _ => hw b, fun k hk => by rw [hl]; exact h1 k (.inl hk)⟩
  next =>
    refine ⟨State.word_setWord_same _ _ _, fun b hb => (State.word_setWord_ne _ _ hb).trans (hw b), fun k hk => ?_⟩
    rw [State.setWord_latch, hl]
    exact h1 k (.inl hk)

theorem rcCleared_val {a : Nat} {f : FieldRow} (hf : f ∈ fieldsAt a) (cur : Word) :
    f.val (rcCleared (fieldsAt a) cur (laneMask 0 4)) = if f.acc == .rc then 0 else f.val cur := by
  have hfull := (fieldFull_masks hf).2
  have hfit := fieldsAt_fit hf
  have hlanes : laneMask 0 4 = BitVec.allOnes 32 := by decide
  have he : rcCleared (fieldsAt a) cur (laneMask 0 4) = cur &&& ~~~ rcBits (fieldsAt a) := by
    rw [hlanes]
    unfold rcCleared rcBits
    rw [BitVec.and_allOnes]
  rw [he]
  have hbit (i : Nat) (hi : i < f.n) : (cur &&& ~~~ rcBits (fieldsAt a)).getLsbD (f.lo + i) = (cur.getLsbD (f.lo + i) && ! (f.acc == .rc)) := by
    have h32 : f.lo + i < 32 := by omega
    rw [BitVec.getLsbD_and, BitVec.getLsbD_not, hfull i hi, decide_eq_true h32, Bool.true_and]
  cases hrc : f.acc == .rc
  · refine bitsOf_congr (fun i hi => ?_)
    rw [hbit i hi, hrc, Bool.not_false, Bool.and_true]
  · refine Nat.eq_of_testBit_eq (fun i => ?_)
    rw [FieldRow.val, testBit_bitsOf, if_pos rfl, Nat.zero_testBit]
    by_cases hi : i < f.n
    · rw [hbit i hi, hrc, Bool.not_true, Bool.and_false, Bool.and_false]
    · rw [decide_eq_false hi, Bool.false_and]

/-- A read of a whole word. -/
theorem exec_read {s : State} {src : Source} {a : Nat} (hd : s.dev ≠ powerOff) (hv : viewOf a = .normal) (ha : s.accessErr src a 4 false = none) :
    s.busRead src a 4 = (s.readEnd a (laneMask 0 4)).answer (readValue (fieldsAt a) (s.readSource a)).toNat 0 := by
  have hp : (s.dev == powerOff) = false := beq_false_of_ne hd
  have h4 := (accessErr_none ha).2.2
  have haddr : a / 4 * 4 = a := by omega
  have hlanes : readValue (fieldsAt a) (s.readSource a) &&& laneMask 0 4 = readValue (fieldsAt a) (s.readSource a) := by
    have h : laneMask 0 4 = BitVec.allOnes 32 := by decide
    rw [h, BitVec.and_allOnes]
  have he : s.busRead src a 4 = s.readPart src a 4 := (if_neg (by decide)).trans (if_neg (fun h => absurd h.1 (by decide)))
  have hnv : (windowImplemented (a / 0x10000) && viewOf a != .normal) = false := by rw [hv, bne_self_eq_false, Bool.and_false]
  rw [he]
  unfold State.readPart
  simp only [hp, hnv, ha, h4, haddr, State.readReg_eq, hlanes, Bool.false_eq_true, if_false, Nat.mul_zero, Nat.pow_zero, Nat.div_one]

theorem resp_answer_word (s : State) (w : Word) : (s.answer w.toNat 0).resp = some ⟨w.setWidth 64, [], 0⟩ := by
  have h : BitVec.ofNat 64 w.toNat = w.setWidth 64 := by
    apply BitVec.eq_of_toNat_eq
    rw [BitVec.toNat_ofNat, BitVec.toNat_setWidth]
  unfold State.answer
  rw [h]

theorem register_read (s : State) (src : Source) (a : Nat) (hd : s.dev ≠ powerOff) (hv : viewOf a = .normal) (ha : s.accessErr src a 4 false = none) :
    let value := if isLatched a then SMap.get latchDefault s.latch a else s.liveWord a
    (Completes (.readClear src a 4) s (fun t => t.resp = some ⟨(readValue (fieldsAt a) value).setWidth 64, [], 0⟩
      ∧ (∀ f ∈ fieldsAt a, f.acc = .rc → f.val (t.word a) = 0) ∧ (∀ f ∈ fieldsAt a, f.acc ≠ .rc → f.val (t.word a) = f.val (s.word a))
      ∧ ∀ b, b ≠ a → t.word b = s.word b))
    ∧ Completes (.latchingRead src a 4) s (fun t => t.resp = some ⟨(readValue (fieldsAt a) value).setWidth 64, [], 0⟩
      ∧ ∀ h ∈ latchesAt a, SMap.get latchDefault t.latch h = s.liveWord h) := by
  intro value
  have he1 : exec (.readClear src a 4) s = .next _ := congrArg Host.Outcome.next (exec_read hd hv ha)
  have he2 : exec (.latchingRead src a 4) s = .next _ := congrArg Host.Outcome.next (exec_read hd hv ha)
  obtain ⟨h1, h2, h3⟩ := s.readEnd_fields a (laneMask 0 4)
  refine ⟨⟨_, he1, resp_answer_word _ _, fun f hf hrc => ?_, fun f hf hrc => ?_, fun b hb => h2 b hb⟩, ⟨_, he2, resp_answer_word _ _, h3⟩⟩
  · rw [State.answer_word, h1, rcCleared_val hf, if_pos (beq_iff_eq.mpr hrc)]
  · rw [State.answer_word, h1, rcCleared_val hf, if_neg (by rw [beq_iff_eq]; exact hrc)]

/-- Settles O46: writes through each view, group writes, and reads. -/
theorem registerAccessCommandsComplete : Obligations.RegisterAccessCommandsComplete := by
  unfold Obligations.RegisterAccessCommandsComplete
  intro lands plain rw
  have hl {s : State} {src : Source} {a : Nat} {v : Word} {y : State} (h : lands s src a v y) : s.writeLands src a v y :=
    ⟨h.1, h.2.1, h.2.2.1, h.2.2.2.1, h.2.2.2.2.1, h.2.2.2.2.2.1, h.2.2.2.2.2.2.1, h.2.2.2.2.2.2.2⟩
  exact ⟨fun s src a v y hv h => register_write s src a v y hv (hl h), fun s src a v y h => set_alias s src a v y (hl h),
    fun s src a v y h => clear_alias s src a v y (hl h), fun s src a v y h => toggle_alias s src a v y (hl h),
    fun s src w v y h => group_write s src w v y (hl h), register_read⟩

end Sys2Proof.Machine
end

section
/-! PROOFS. The flash, its directory and the slots (R535 to R538). -/

namespace Sys2Proof.Machine

/-! ### Bytes of flash -/

theorem SMap.find_filter_key {α : Type} (q : Nat → Bool) (m : SMap α) (k : Nat) :
    SMap.find (m.filter (fun x => q x.1)) k = if q k then SMap.find m k else none := by
  induction m with
  | nil => exact (ite_self none).symm
  | cons e m ih =>
    obtain ⟨a, v⟩ := e
    rw [List.filter_cons]
    by_cases ha : a = k
    · subst ha
      cases hq : q a
      · simp [ih, hq]
      · simp [SMap.find]
    · cases hq : q a
      · simp [SMap.find, ih, ha]
      · simp [SMap.find, ih, ha]

theorem State.flashByte_eraseFlash (s : State) (lo n a : Nat) :
    (s.eraseFlash lo n).flashByte a = if a < lo ∨ lo + n ≤ a then s.flashByte a else flashDefault a := by
  have h : SMap.find (s.eraseFlash lo n).flash a = if decide (a < lo) || decide (lo + n ≤ a) then SMap.find s.flash a else none :=
    SMap.find_filter_key (fun b => decide (b < lo) || decide (lo + n ≤ b)) s.flash a
  unfold State.flashByte SMap.get
  rw [h]
  by_cases ha : a < lo ∨ lo + n ≤ a
  · rw [if_pos ha, if_pos (by rw [Bool.or_eq_true, decide_eq_true_iff, decide_eq_true_iff]; exact ha)]
  · rw [if_neg ha, if_neg (by rw [Bool.or_eq_true, decide_eq_true_iff, decide_eq_true_iff]; exact ha)]
    rfl

theorem State.flashByte_setFlashBytes (s : State) (a : Nat) (bs : List Byte) {c : Nat} (h : c < a ∨ a + bs.length ≤ c) :
    (s.setFlashBytes a bs).flashByte c = s.flashByte c := by
  induction bs generalizing s a with
  | nil => rfl
  | cons b bs ih =>
    rw [List.length_cons] at h
    exact (ih _ _ (by omega)).trans (State.flashByte_set_ne s b (by omega))

theorem State.flashByte_setFlashBytes_mem (s : State) (a : Nat) (bs : List Byte) {j : Nat} {x : Byte} (h : bs[j]? = some x) :
    (s.setFlashBytes a bs).flashByte (a + j) = x := by
  induction bs generalizing s a j with
  | nil => exact nomatch h
  | cons b bs ih =>
    cases j with
    | zero =>
      rw [List.getElem?_cons_zero, Option.some_inj] at h
      subst h
      exact (State.flashByte_setFlashBytes (s.setFlashByte a b) (a + 1) bs (.inl (Nat.lt_succ_self a))).trans (State.flashByte_set_same s a b)
    | succ j =>
      have he : a + (j + 1) = a + 1 + j := by omega
      rw [he]
      exact ih _ _ h

theorem State.setFlashBytes_eq (s : State) (a : Nat) (bs : List Byte) : s.setFlashBytes a bs = { s with flash := (s.setFlashBytes a bs).flash } := by
  induction bs generalizing s a with
  | nil => rfl
  | cons b bs ih => exact (ih (s.setFlashByte a b) (a + 1)).trans rfl

/-! ### The directory (R537) -/

/-- The state with other state of UPD; it reads the same registers. -/
def State.withUpd (s : State) (u : UpdSt) : State := { s with upd := u }

theorem State.get_withUpd (s : State) (u : UpdSt) (f : Fld) : (s.withUpd u).get f = s.get f := rfl
theorem State.word_withUpd (s : State) (u : UpdSt) (a : Nat) : (s.withUpd u).word a = s.word a := rfl

theorem length_leBytes (n v : Nat) : (leBytes n v).length = n := by
  induction n generalizing v with
  | zero => rfl
  | succ n ih => exact congrArg Nat.succ (ih _)

theorem State.length_dirRecord (s : State) : s.dirRecord.length = 64 := by
  unfold State.dirRecord
  simp only [List.length_append, length_leBytes, List.length_replicate]

/-- The directory after a write of it. -/
def State.dirNext (s : State) : UpdSt := { s.upd with newer := 1 - s.upd.newer, dseq := s.upd.dseq + 1 }

theorem State.writeDir_eq (s : State) : s.writeDir = { s with upd := s.dirNext, flash := s.writeDir.flash } :=
  (State.setFlashBytes_eq (({ s with upd := s.dirNext } : State).eraseFlash _ _) _ _).trans rfl

theorem State.writeDir_regs (s : State) : s.writeDir.regs = s.regs := by rw [State.writeDir_eq]
theorem State.writeDir_upd (s : State) : s.writeDir.upd = s.dirNext := by rw [State.writeDir_eq]
theorem State.writeDir_boot (s : State) : s.writeDir.boot = s.boot := by rw [State.writeDir_eq]

/-- A write of the directory leaves every byte beyond its two copies. -/
theorem State.flashByte_writeDir (s : State) {a : Nat} (h : 0x20000 ≤ a) : s.writeDir.flashByte a = s.flashByte a := by
  unfold State.writeDir
  dsimp only
  rw [State.flashByte_setFlashBytes _ _ _ (.inr (by rw [State.length_dirRecord]; omega)), State.flashByte_eraseFlash, if_pos (.inr (by omega))]
  rfl

/-! ### Slots (R538) -/

theorem State.slot_setSlot_same (s : State) (i : Nat) (x : DirSlot) : (s.setSlot i x).slot i = x := by
  by_cases h : i = 0
  · subst h
    rfl
  · unfold State.slot State.setSlot
    simp only [State.put_upd, if_neg h]

theorem State.slot_setSlot_ne (s : State) {i j : Nat} (x : DirSlot) (h : ¬ (i = 0 ↔ j = 0)) : (s.setSlot i x).slot j = s.slot j := by
  unfold State.slot State.setSlot
  simp only [State.put_upd]
  by_cases hi : i = 0
  · have hj : ¬ j = 0 := fun hj => h ⟨fun _ => hj, fun _ => hi⟩
    rw [if_pos hi, if_neg hj, if_neg hj]
  · have hj : j = 0 := by
      by_contra hj
      exact h ⟨fun hi' => absurd hi' hi, fun hj' => absurd hj' hj⟩
    rw [if_neg hi, if_pos hj, if_pos hj]

/-- Of UPD's state, a change of a slot changes that slot. -/
theorem State.setSlot_upd (s : State) (i : Nat) (x : DirSlot) :
    (s.setSlot i x).upd = if i = 0 then { s.upd with slot0 := x } else { s.upd with slot1 := x } := rfl

/-- Of the registers, a change of a slot changes UPD_SLOT. -/
theorem State.get_setSlot (s : State) (i : Nat) (x : DirSlot) {f : Fld} (h : f.addr < 0x1A0030 ∨ 0x1A0038 ≤ f.addr) :
    (s.setSlot i x).get f = s.get f := by
  have hne : f.addr ≠ UPD_SLOT.addr i := by
    unfold UPD_SLOT.addr
    omega
  unfold State.get
  exact congrArg (fun w => bitsOf w f.lo f.n) ((State.word_put_ne _ (UPD_SLOT.IMG_SEQ i) _ hne).trans (State.word_put_ne _ (UPD_SLOT.STATE i) _ hne))

theorem slotIn_some {s : State} {k i : Nat} (h : s.slotIn k = some i) : (i = 0 ∨ i = 1) ∧ (s.slot i).state = k := by
  unfold State.slotIn at h
  split at h
  next h0 =>
    cases h
    exact ⟨.inl rfl, beq_iff_eq.mp h0⟩
  next =>
    split at h
    next h1 =>
      cases h
      exact ⟨.inr rfl, beq_iff_eq.mp h1⟩
    next => exact nomatch h

theorem slotIn_congr {s t : State} (h : t.upd = s.upd) (k : Nat) : t.slotIn k = s.slotIn k := by
  unfold State.slotIn
  rw [h]

/-- Slots in two states are two slots. -/
theorem slotIn_apart {s : State} {k l i j : Nat} (hi : s.slotIn k = some i) (hj : s.slotIn l = some j) (hkl : k ≠ l) : ¬ (i = 0 ↔ j = 0) := by
  obtain ⟨hi01, hik⟩ := slotIn_some hi
  obtain ⟨hj01, hjl⟩ := slotIn_some hj
  intro h
  have hij : i = j := by omega
  subst hij
  exact hkl (hik.symm.trans hjl)

/-- Slot i takes a state, and the directory is written. -/
def State.slotWritten (s : State) (i k : Nat) : State := (s.slotState i k).writeDir

theorem State.get_slotState (s : State) (i k : Nat) {f : Fld} (h : f.addr < 0x1A0030 ∨ 0x1A0038 ≤ f.addr) : (s.slotState i k).get f = s.get f :=
  s.get_setSlot i _ h

theorem State.slot_slotState (s : State) (i k : Nat) : (s.slotState i k).slot i = { s.slot i with state := k } := s.slot_setSlot_same i _

theorem State.slot_writeDir (s : State) (i : Nat) : s.writeDir.slot i = s.slot i := by
  unfold State.slot
  rw [State.writeDir_upd]
  rfl

theorem State.get_writeDir (s : State) (f : Fld) : s.writeDir.get f = s.get f := State.get_of_regs s.writeDir_regs f

/-- What such a change leaves. -/
theorem State.slotWritten_fields (s : State) (i k : Nat) :
    ((s.slotWritten i k).slot i).state = k ∧ (∀ f : Fld, f.addr < 0x1A0030 ∨ 0x1A0038 ≤ f.addr → (s.slotWritten i k).get f = s.get f)
    ∧ (s.slotWritten i k).boot = s.boot ∧ ∀ a, 0x20000 ≤ a → (s.slotWritten i k).flashByte a = s.flashByte a := by
  refine ⟨?_, fun f hf => (State.get_writeDir _ f).trans (s.get_slotState i k hf), State.writeDir_boot _, fun a ha => State.flashByte_writeDir _ ha⟩
  unfold State.slotWritten
  rw [State.slot_writeDir, State.slot_slotState]

end Sys2Proof.Machine
end

section
/-! PROOFS. The boot (R543 to R546, R550, R554). -/

namespace Sys2Proof.Machine

/-! ### The directory and the candidates (R543 to R545) -/

theorem slotBase_ge (i : Nat) : 0x20000 ≤ slotBase i := by
  unfold slotBase
  split <;> omega

theorem imgFlags_congr {s t : State} (i : Nat) (h : ∀ a, 0x20000 ≤ a → t.flashByte a = s.flashByte a) :
    t.imgFlags (slotBase i) = s.imgFlags (slotBase i) :=
  readLE_congr 1 fun a ha _ => h a ((slotBase_ge i).trans (Nat.le_of_add_right_le ha))

theorem State.flashByte_trialRejected (s : State) {a : Nat} (h : 0x20000 ≤ a) : s.trialRejected.flashByte a = s.flashByte a := by
  unfold State.trialRejected
  dsimp only
  split
  · refine (State.flashByte_writeDir _ h).trans ?_
    split <;> split <;> rfl
  · rfl

/-- The state with the directory read. -/
def State.dirRead (s : State) : State := match s.dirCopy with | some c => (s.dirLoad c).trialRejected | none => s

theorem State.flashByte_dirRead (s : State) {a : Nat} (h : 0x20000 ≤ a) : s.dirRead.flashByte a = s.flashByte a := by
  unfold State.dirRead
  split
  next c _ =>
    have hflash : (s.dirLoad c).flash = s.flash := (Kept.dirLoad (.refl _ s) (Foot.le_refl _) c).part_of .flash rfl
    rw [State.flashByte_trialRejected _ h, State.flashByte, hflash]
    rfl
  · rfl

theorem header_read_next (s : State) (i : Nat) (hd : s.dev = Machine.boot) (hs : s.boot.step = .reading i) :
    Completes .headerRead s (fun t => t = s.bootStep (.checking i)) := by
  have he : exec .headerRead s = execHeaderRead s := rfl
  refine ⟨_, he.trans ?_, rfl⟩
  unfold execHeaderRead
  simp only [hd, bne_self_eq_false, Bool.false_eq_true, if_false, hs]

/-- The state with another boot. -/
def State.booted (s : State) (b : BootSt) : State := { s with boot := b }

theorem State.get_booted (s : State) (b : BootSt) (f : Fld) : (s.booted b).get f = s.get f := rfl

/-- The header of the first candidate has been read. -/
def State.firstRead (y : State) (i : Nat) (l : List Nat) : State :=
  (y.portParams (some i)).booted { (y.portParams (some i)).boot with step := .checking i, rest := l, first := i, trialBoot := (y.portParams (some i)).slotIn kNEXT == some i }

/-- No candidate was found. -/
def State.noneRead (y : State) : State := ((y.portParams y.headerOnly).put SYS_STATE.LAST_ERR Err.check.code).bootStep .stuck

/-- What HEADER_READ does once the directory is read. -/
def State.candidateTaken (s : State) : State :=
  match s.candidates with
  | i :: l =>
    let s := s.portParams (some i)
    { s with boot := { s.boot with step := .checking i, rest := l, first := i, trialBoot := s.slotIn kNEXT == some i } }
  | [] => ((s.portParams s.headerOnly).put SYS_STATE.LAST_ERR Err.check.code).bootStep .stuck

theorem State.candidateTaken_cons {s : State} {i : Nat} {l : List Nat} (h : s.candidates = i :: l) : s.candidateTaken = s.firstRead i l := by
  unfold State.candidateTaken
  rw [h]
  rfl

theorem State.candidateTaken_nil {s : State} (h : s.candidates = []) : s.candidateTaken = s.noneRead := by
  unfold State.candidateTaken
  rw [h]
  rfl

/-- The state with other parameters of the host port. -/
def State.ported (s : State) (h : HptSt) : State := { s with hpt := h }

theorem State.get_ported (s : State) (h : HptSt) (f : Fld) : (s.ported h).get f = s.get f := rfl

theorem State.portParams_size (y : State) (i : Nat) : (y.portParams (some i)).get HPT_BAR4.SIZE = y.imgFlags (slotBase i) / 4 % 2 ^ HPT_BAR4.SIZE.n :=
  (State.get_ported (y.put HPT_BAR4.SIZE (y.imgFlags (slotBase i) / 4)) _ _).trans (State.get_put_same y HPT_BAR4.SIZE (y.imgFlags (slotBase i) / 4) (by decide))

theorem State.firstRead_size (y : State) (i : Nat) (l : List Nat) :
    (y.firstRead i l).get HPT_BAR4.SIZE = y.imgFlags (slotBase i) / 4 % 2 ^ HPT_BAR4.SIZE.n :=
  (State.get_booted (y.portParams (some i)) _ _).trans (State.portParams_size y i)

theorem State.bootStep_fields (s : State) (b : BootStep) : (s.bootStep b).dev = s.dev ∧ (s.bootStep b).flash = s.flash ∧ (s.bootStep b).boot.step = b := ⟨rfl, rfl, rfl⟩

theorem State.get_bootStep (s : State) (b : BootStep) (f : Fld) : (s.bootStep b).get f = s.get f := rfl

theorem State.portParams_train (y : State) (h : Option Nat) : (y.portParams h).hpt.train = true := rfl

theorem State.firstRead_fields (y : State) (i : Nat) (l : List Nat) : (y.firstRead i l).boot.step = .checking i ∧ (y.firstRead i l).boot.rest = l
    ∧ (y.firstRead i l).boot.first = i ∧ (y.firstRead i l).hpt.train = true := by
  have ht := y.portParams_train (some i)
  unfold State.firstRead
  generalize y.portParams (some i) = z at *
  exact ⟨rfl, rfl, rfl, ht⟩

theorem State.noneRead_fields (y : State) : y.noneRead.boot.step = .stuck ∧ y.noneRead.hpt.train = true := by
  have ht := y.portParams_train y.headerOnly
  unfold State.noneRead
  generalize y.portParams y.headerOnly = z at *
  exact ⟨rfl, ht⟩

theorem State.noneRead_err (y : State) : y.noneRead.get SYS_STATE.LAST_ERR = Err.check.code :=
  (State.get_bootStep _ _ _).trans ((State.get_put_same (y.portParams y.headerOnly) SYS_STATE.LAST_ERR _ (by decide)).trans (Nat.mod_eq_of_lt Err.check.code_lt))

theorem header_read_first (s : State) (hd : s.dev = Machine.boot) (hs : s.boot.step = .rom) :
    (∀ i l, s.dirRead.candidates = i :: l → Completes .headerRead s (fun t => t.boot.step = .checking i ∧ t.boot.rest = l ∧ t.boot.first = i ∧ t.hpt.train = true
      ∧ t.get HPT_BAR4.SIZE = s.imgFlags (slotBase i) / 4 % 2 ^ HPT_BAR4.SIZE.n))
    ∧ (s.dirRead.candidates = [] → Completes .headerRead s (fun t => t.boot.step = .stuck ∧ t.get SYS_STATE.LAST_ERR = Err.check.code ∧ t.hpt.train = true)) := by
  have he : exec .headerRead s = .next s.dirRead.candidateTaken := by
    have h : exec .headerRead s = .next (if s.dev != Machine.boot then s else match s.boot.step with
        | .reading i => s.bootStep (.checking i)
        | .rom => s.dirRead.candidateTaken
        | _ => s) := rfl
    have hno : ¬ (s.dev != Machine.boot) = true := by rw [hd]; decide
    rw [h, if_neg hno, hs]
  have hflags (i : Nat) : s.dirRead.imgFlags (slotBase i) = s.imgFlags (slotBase i) := imgFlags_congr i fun a ha => s.flashByte_dirRead ha
  generalize s.dirRead = y at *
  constructor
  · intro i l hc
    obtain ⟨hstep, hrest, hfirst, htrain⟩ := y.firstRead_fields i l
    have hsize := y.firstRead_size i l
    rw [State.candidateTaken_cons hc] at he
    rw [hflags] at hsize
    exact ⟨_, he, hstep, hrest, hfirst, htrain, hsize⟩
  · intro hc
    obtain ⟨hstep, htrain⟩ := y.noneRead_fields
    rw [State.candidateTaken_nil hc] at he
    exact ⟨_, he, hstep, y.noneRead_err, htrain⟩

/-! ### The checks of a candidate (R542, R544) -/

/-- The code of a candidate's check is shown. -/
def State.codeShown (s : State) (i code : Nat) : State := s.put (if i = 0 then UPD_BOOT.CODE0 else UPD_BOOT.CODE1) code

/-- A candidate found NEXT becomes TRIAL. -/
def State.trialTaken (s : State) (i : Nat) : State := if s.boot.trialBoot && i == s.boot.first then (s.slotState i kTRIAL).writeDir else s

/-- A candidate after the first is a fallback. -/
def State.fallbackShown (s : State) (i : Nat) : State :=
  if i == s.boot.first then s
  else
    let s := s.put UPD_BOOT.FALLBACK 1
    s.fltInfo 0x34 i 0x1A s.mgmtLocation (s.word UPD_BOOT.addr).toNat

theorem State.trialTaken_fields (s : State) (i : Nat) : (s.trialTaken i).get UPD_BOOT.SLOT = s.get UPD_BOOT.SLOT ∧ (s.trialTaken i).boot = s.boot := by
  unfold State.trialTaken
  split
  · obtain ⟨-, hget, hboot, -⟩ := s.slotWritten_fields i kTRIAL
    exact ⟨hget _ (by decide), hboot⟩
  · exact ⟨rfl, rfl⟩

theorem State.fallbackShown_fields (s : State) (i : Nat) : (s.fallbackShown i).get UPD_BOOT.SLOT = s.get UPD_BOOT.SLOT
    ∧ (i ≠ s.boot.first → (s.fallbackShown i).flag UPD_BOOT.FALLBACK = true) := by
  unfold State.fallbackShown
  split
  next h => exact ⟨rfl, fun hne => absurd (beq_iff_eq.mp h) hne⟩
  next =>
    dsimp only
    have hk := Kept.fltInfo (.refl _ (s.put UPD_BOOT.FALLBACK 1)) (Foot.le_refl _) 0x34 i 0x1A
      (s.put UPD_BOOT.FALLBACK 1).mgmtLocation ((s.put UPD_BOOT.FALLBACK 1).word UPD_BOOT.addr).toNat
    exact ⟨(hk.get_of (g := UPD_BOOT.SLOT) rfl).trans (State.get_put_clear _ _ _ _ rfl),
      fun _ => (State.flag_eq_get (hk.get_of (g := UPD_BOOT.FALLBACK) rfl)).trans (State.flag_put_one _ _ (by decide) rfl)⟩

/-- A candidate has passed its checks. -/
def State.imagePassed (s : State) (i : Nat) : State := (((s.put UPD_BOOT.SLOT i).trialTaken i).fallbackShown i).bootStep (.verified i)

/-- The next candidate is tried, or none is left. -/
def State.nextTried (s : State) (code : Nat) : State :=
  match s.boot.rest with
  | j :: l => { s with boot := { s.boot with step := .reading j, rest := l } }
  | [] => (s.put SYS_STATE.LAST_ERR code).bootStep .stuck

theorem State.nextTried_cons {s : State} {j : Nat} {l : List Nat} {code : Nat} (h : s.boot.rest = j :: l) :
    s.nextTried code = s.booted { s.boot with step := .reading j, rest := l } := by
  unfold State.nextTried
  rw [h]
  rfl

theorem State.nextTried_nil {s : State} {code : Nat} (h : s.boot.rest = []) : s.nextTried code = (s.put SYS_STATE.LAST_ERR code).bootStep .stuck := by
  unfold State.nextTried
  rw [h]

theorem State.slot_nextTried (s : State) (code i : Nat) : (s.nextTried code).slot i = s.slot i := by
  unfold State.nextTried
  split <;> rfl

/-- A candidate has failed its checks. -/
def State.imageFailed (s : State) (i code : Nat) : State := (s.slotWritten i kREJECTED).nextTried code

theorem exec_imageCheck (s : State) (i : Nat) (fmt : BitVec 8) (ok : Bool) (hd : s.dev = Machine.boot) (hs : s.boot.step = .checking i) :
    exec (.imageCheck fmt ok) s = .next (let code := s.imageVerdict (slotBase i) fmt.toNat ok
      if code = 0 then (s.codeShown i code).imagePassed i else (s.codeShown i code).imageFailed i code) := by
  have he : exec (.imageCheck fmt ok) s = execImageCheck fmt ok s := rfl
  refine he.trans ?_
  unfold execImageCheck
  simp only [hd, bne_self_eq_false, Bool.false_eq_true, if_false, hs]
  rfl

theorem imageVerdict_lt (s : State) (a fmt : Nat) (ok : Bool) : s.imageVerdict a fmt ok < 2 ^ 8 := by
  unfold State.imageVerdict
  split_ifs <;> decide

theorem State.imageFailed_fields (s : State) (i : Nat) {code : Nat} (hc : code < 2 ^ 8) : ((s.imageFailed i code).slot i).state = kREJECTED
    ∧ (∀ j l, s.boot.rest = j :: l → (s.imageFailed i code).boot.step = .reading j ∧ (s.imageFailed i code).boot.rest = l)
    ∧ (s.boot.rest = [] → (s.imageFailed i code).boot.step = .stuck ∧ (s.imageFailed i code).get SYS_STATE.LAST_ERR = code) := by
  obtain ⟨hslot, -, hboot, -⟩ := s.slotWritten_fields i kREJECTED
  have hfail : s.imageFailed i code = (s.slotWritten i kREJECTED).nextTried code := rfl
  rw [hfail, ← hboot]
  refine ⟨((s.slotWritten i kREJECTED).slot_nextTried code i).symm ▸ hslot, fun j l h => ?_, fun h => ?_⟩
  · rw [State.nextTried_cons h]
    exact ⟨rfl, rfl⟩
  · rw [State.nextTried_nil h]
    exact ⟨rfl, (State.get_bootStep _ _ _).trans ((State.get_put_same _ SYS_STATE.LAST_ERR _ (by decide)).trans (Nat.mod_eq_of_lt hc))⟩

theorem image_check (s : State) (i : Nat) (fmt : BitVec 8) (ok : Bool) (hd : s.dev = Machine.boot) (hs : s.boot.step = .checking i) :
    let code := s.imageVerdict (slotBase i) fmt.toNat ok
    (code = 0 → Completes (.imageCheck fmt ok) s (fun t => t.boot.step = .verified i ∧ t.get UPD_BOOT.SLOT = i % 2
      ∧ (i ≠ s.boot.first → t.flag UPD_BOOT.FALLBACK = true)))
    ∧ (code ≠ 0 → Completes (.imageCheck fmt ok) s (fun t => (t.slot i).state = kREJECTED
      ∧ (∀ j l, s.boot.rest = j :: l → t.boot.step = .reading j ∧ t.boot.rest = l)
      ∧ (s.boot.rest = [] → t.boot.step = .stuck ∧ t.get SYS_STATE.LAST_ERR = code))) := by
  intro code
  have he := exec_imageCheck s i fmt ok hd hs
  refine ⟨fun h => ⟨_, he.trans (congrArg Host.Outcome.next (if_pos h)), rfl, ?_⟩,
    fun h => ⟨_, he.trans (congrArg Host.Outcome.next (if_neg h)), State.imageFailed_fields (s.codeShown i code) i (imageVerdict_lt _ _ _ _)⟩⟩
  obtain ⟨hslot, hboot⟩ := ((s.codeShown i code).put UPD_BOOT.SLOT i).trialTaken_fields i
  obtain ⟨hfslot, hfall⟩ := (((s.codeShown i code).put UPD_BOOT.SLOT i).trialTaken i).fallbackShown_fields i
  rw [hboot] at hfall
  exact ⟨(hfslot.trans hslot).trans (State.get_put_same _ _ _ (by decide)), hfall⟩

/-! ### The start of the firmware (R543, R546, R550) -/

theorem State.get_loadFail (s : State) (code : Nat) {f : Fld} (h1 : SYS_STATE.LAST_ERR.clear f = true) (h2 : UPD_LOAD_ERR.OFS.clear f = true) :
    (s.loadFail code).get f = s.get f :=
  (State.get_put_clear (s.put SYS_STATE.LAST_ERR code) UPD_LOAD_ERR.OFS f _ h2).trans (State.get_put_clear s SYS_STATE.LAST_ERR f code h1)

/-- The run stands at offset ofs. -/
def State.runAt (s : State) (r : RecordRun) (ofs : Nat) : State := { s with boot := { s.boot with run := some { r with ofs := ofs, waiting := false } } }

theorem State.recArrive_cases (s : State) (r : RecordRun) (ofs : Nat) : s.recArrive r ofs = s.runAt r ofs ∨ ∃ code, s.recArrive r ofs = (s.runAt r ofs).loadFail code := by
  have hdef : s.recArrive r ofs = if r.len < ofs + 8 then (s.runAt r ofs).loadFail Err.check.code
      else if ! recTypes.contains ((s.runAt r ofs).recHead { r with ofs := ofs, waiting := false }).type then (s.runAt r ofs).loadFail Err.reserved.code
      else if r.len < ((s.runAt r ofs).recHead { r with ofs := ofs, waiting := false }).next ofs then (s.runAt r ofs).loadFail Err.check.code
      else s.runAt r ofs := rfl
  rw [hdef]
  split
  · exact .inr ⟨_, rfl⟩
  split
  · exact .inr ⟨_, rfl⟩
  split
  · exact .inr ⟨_, rfl⟩
  · exact .inl rfl

/-- The arrival at a record changes the run and, where it fails, LAST_ERR and OFS. -/
theorem State.recArrive_fields (s : State) (r : RecordRun) (ofs : Nat) : (s.recArrive r ofs).boot.step = s.boot.step ∧ (s.recArrive r ofs).boot.hostDone = s.boot.hostDone
    ∧ (s.recArrive r ofs).upd = s.upd
    ∧ ∀ f : Fld, SYS_STATE.LAST_ERR.clear f = true → UPD_LOAD_ERR.OFS.clear f = true → (s.recArrive r ofs).get f = s.get f := by
  rcases s.recArrive_cases r ofs with h | ⟨code, h⟩
  · rw [h]
    exact ⟨rfl, rfl, rfl, fun f _ _ => rfl⟩
  · rw [h]
    exact ⟨rfl, rfl, rfl, fun f h1 h2 => ((s.runAt r ofs).get_loadFail code h1 h2).trans rfl⟩

theorem load_begun (s : State) : let y := ((s.setDev load).bootStep .done).standardBanks
    y.dev = load ∧ y.boot.step = .done ∧ y.flash = s.flash := by
  intro y
  obtain ⟨hdev, hflash, hstep⟩ := (s.setDev load).bootStep_fields .done
  have hk : Kept ⟨false, [], [], [.sram]⟩ ((s.setDev load).bootStep .done) y := Kept.standardBanks (.refl _ _) (Foot.le_refl _)
  have hset : (s.setDev load).flash = s.flash := (Kept.setDev (.refl _ s) (Foot.le_refl _) load).part_of .flash rfl
  have hboot : y.boot = ((s.setDev load).bootStep .done).boot := hk.part_of .boot rfl
  have hflash' : y.flash = ((s.setDev load).bootStep .done).flash := hk.part_of .flash rfl
  have hdev' : y.get SYS_STATE.STATE = ((s.setDev load).bootStep .done).get SYS_STATE.STATE := hk.get_of rfl
  refine ⟨?_, ?_, ?_⟩
  · rw [State.dev, hdev']
    exact hdev.trans (State.dev_setDev s load (by decide))
  · rw [hboot, hstep]
  · rw [hflash', hflash, hset]

/-- The firmware of slot i runs on complex A, and complex B loads it. -/
def State.firmwareRuns (s : State) (i : Nat) : State :=
  ((s.put UPD_STAT.ACTIVE 0).setWord UPD_VER_ACT.addr (s.imgVer (slotBase i))).loadStandby i

/-- The trial of a slot found NEXT begins. -/
def State.trialBegun (s : State) (i : Nat) : State :=
  if s.boot.trialBoot && i == s.boot.first then (s.put UPD_STAT.TRIAL 1).put UPD_TRIAL_LEFT.LEFT (s.get UPD_CTRL.TRIAL_TO) else s

theorem State.trialBegun_fields (s : State) (i : Nat) : (s.trialBegun i).dev = s.dev ∧ (s.trialBegun i).boot = s.boot ∧ (s.trialBegun i).upd = s.upd
    ∧ (s.trialBegun i).flash = s.flash ∧ (s.trialBegun i).get UPD_STAT.ACTIVE = s.get UPD_STAT.ACTIVE ∧ (s.trialBegun i).get UPD_STAT.STBY = s.get UPD_STAT.STBY := by
  unfold State.trialBegun
  split
  · have h (f : Fld) (h1 : UPD_STAT.TRIAL.clear f = true) (h2 : UPD_TRIAL_LEFT.LEFT.clear f = true) :
        ((s.put UPD_STAT.TRIAL 1).put UPD_TRIAL_LEFT.LEFT (s.get UPD_CTRL.TRIAL_TO)).get f = s.get f :=
      (State.get_put_clear (s.put UPD_STAT.TRIAL 1) _ f _ h2).trans (State.get_put_clear s _ f _ h1)
    exact ⟨h _ rfl rfl, rfl, rfl, rfl, h _ rfl rfl, h _ rfl rfl⟩
  · exact ⟨rfl, rfl, rfl, rfl, rfl, rfl⟩

theorem State.get_loadStandby (s : State) (i : Nat) {f : Fld} (h : UPD_STAT.STBY.clear f = true) : (s.loadStandby i).get f = s.get f :=
  (State.get_withUpd (s.put UPD_STAT.STBY yLOADING) _ f).trans (State.get_put_clear s UPD_STAT.STBY f yLOADING h)

theorem State.stby_loadStandby (s : State) (i : Nat) : (s.loadStandby i).get UPD_STAT.STBY = yLOADING :=
  (State.get_withUpd (s.put UPD_STAT.STBY yLOADING) _ _).trans (State.get_put_same s UPD_STAT.STBY yLOADING (by decide))

theorem State.loadStandby_boot (s : State) (i : Nat) : (s.loadStandby i).boot = s.boot := rfl
theorem State.loadStandby_flash (s : State) (i : Nat) : (s.loadStandby i).flash = s.flash := rfl

theorem State.firmwareRuns_fields (s : State) (i : Nat) : (s.firmwareRuns i).dev = s.dev ∧ (s.firmwareRuns i).boot = s.boot ∧ (s.firmwareRuns i).flash = s.flash
    ∧ (s.firmwareRuns i).get UPD_STAT.ACTIVE = 0 ∧ (s.firmwareRuns i).get UPD_STAT.STBY = yLOADING ∧ (s.firmwareRuns i).upd.stbyFrom = i := by
  have hne {f : Fld} (h : f.addr ≠ UPD_VER_ACT.addr) (h0 : UPD_STAT.STBY.clear f = true) : (s.firmwareRuns i).get f = (s.put UPD_STAT.ACTIVE 0).get f :=
    (State.get_loadStandby ((s.put UPD_STAT.ACTIVE 0).setWord UPD_VER_ACT.addr (s.imgVer (slotBase i))) i h0).trans (State.get_setWord_ne _ _ _ _ h)
  refine ⟨?_, ?_, ?_, ?_, ?_, rfl⟩
  · rw [State.dev, hne (by decide) rfl, State.get_put_clear s _ _ _ rfl]
    rfl
  · exact (State.loadStandby_boot _ i).trans ((State.setWord_boot _ _ _).trans (State.put_boot _ _ _))
  · exact (State.loadStandby_flash _ i).trans ((State.setWord_flash _ _ _).trans (State.put_flash _ _ _))
  · rw [hne (by decide) rfl, State.get_put_same s _ _ (by decide)]
    rfl
  · exact State.stby_loadStandby ((s.put UPD_STAT.ACTIVE 0).setWord UPD_VER_ACT.addr (s.imgVer (slotBase i))) i

/-- The configuration records begin, or the host is to send them (R550). -/
def State.recordsBegin (s : State) (a : Nat) : State :=
  if (s.imgFlags a).testBit 0 then { s with boot := { s.boot with hostCfg := true, byImage := true } } else s.recArrive (s.configSection a) 0

theorem State.recordsBegin_fields (s : State) (a : Nat) : (s.recordsBegin a).dev = s.dev ∧ (s.recordsBegin a).boot.step = s.boot.step
    ∧ (s.recordsBegin a).get UPD_STAT.ACTIVE = s.get UPD_STAT.ACTIVE ∧ (s.recordsBegin a).get UPD_STAT.STBY = s.get UPD_STAT.STBY ∧ (s.recordsBegin a).upd = s.upd
    ∧ ((s.imgFlags a).testBit 0 = true → (s.recordsBegin a).boot.hostCfg = true ∧ (s.recordsBegin a).boot.byImage = true) := by
  unfold State.recordsBegin
  split
  next h => exact ⟨rfl, rfl, rfl, rfl, rfl, fun _ => ⟨rfl, rfl⟩⟩
  next h =>
    obtain ⟨hstep, -, hupd, hget⟩ := s.recArrive_fields (s.configSection a) 0
    exact ⟨hget _ rfl rfl, hstep, hget _ rfl rfl, hget _ rfl rfl, hupd, fun hb => absurd hb h⟩

/-- What FIRMWARE_START does once LOAD has begun. -/
def State.firmwareGo (s : State) (i : Nat) : State :=
  let a := slotBase i
  let s := (s.put UPD_STAT.ACTIVE 0).setWord UPD_VER_ACT.addr (s.imgVer a)
  let s := s.loadStandby i
  let s := if s.boot.trialBoot && i == s.boot.first then
      (s.put UPD_STAT.TRIAL 1).put UPD_TRIAL_LEFT.LEFT (s.get UPD_CTRL.TRIAL_TO)
    else s
  if (s.imgFlags a).testBit 0 then { s with boot := { s.boot with hostCfg := true, byImage := true } }
  else s.recArrive (s.configSection a) 0

theorem State.firmwareGo_eq (s : State) (i : Nat) : s.firmwareGo i = ((s.firmwareRuns i).trialBegun i).recordsBegin (slotBase i) := rfl

theorem firmware_start (s : State) (i : Nat) (hd : s.dev = Machine.boot) (hs : s.boot.step = .verified i) :
    Completes .firmwareStart s (fun t => t.dev = load ∧ t.boot.step = .done
      ∧ t.get UPD_STAT.ACTIVE = 0 ∧ t.get UPD_STAT.STBY = yLOADING ∧ t.upd.stbyFrom = i
      ∧ ((s.imgFlags (slotBase i)).testBit 0 = true → t.boot.hostCfg = true ∧ t.boot.byImage = true)) := by
  have he : exec .firmwareStart s = .next ((((s.setDev load).bootStep .done).standardBanks).firmwareGo i) := by
    have h : exec .firmwareStart s = .next (match s.boot.step with
        | .verified i => if s.dev != Machine.boot then s else (((s.setDev load).bootStep .done).standardBanks).firmwareGo i
        | _ => s) := rfl
    have hno : ¬ (s.dev != Machine.boot) = true := by rw [hd]; decide
    rw [h, hs]
    exact congrArg Host.Outcome.next (if_neg hno)
  obtain ⟨hdev, hstep, hflash⟩ := load_begun s
  rw [State.firmwareGo_eq] at he
  generalize ((s.setDev load).bootStep .done).standardBanks = y at *
  obtain ⟨fdev, fboot, fflash, hact, hstby, hfrom⟩ := y.firmwareRuns_fields i
  obtain ⟨tdev, tboot, tupd, tflash, tact, tstby⟩ := (y.firmwareRuns i).trialBegun_fields i
  obtain ⟨rdev, rstep, ract, rstby, rupd, rhost⟩ := ((y.firmwareRuns i).trialBegun i).recordsBegin_fields (slotBase i)
  have hflags : ((y.firmwareRuns i).trialBegun i).imgFlags (slotBase i) = s.imgFlags (slotBase i) :=
    imgFlags_congr i fun a _ => congrArg (fun m => SMap.get flashDefault m a) (tflash.trans (fflash.trans hflash))
  rw [hflags] at rhost
  refine ⟨_, he, rdev.trans (tdev.trans (fdev.trans hdev)), ?_, ract.trans (tact.trans hact), rstby.trans (tstby.trans hstby), ?_, rhost⟩
  · rw [rstep, tboot, fboot, hstep]
  · rw [rupd, tupd, hfrom]

/-! ### The standby and the host's configuration -/

theorem standby_loaded (s : State) (ha : s.alive = true) (hs : s.get UPD_STAT.STBY = yLOADING) :
    Completes (.standbyLoaded true) s (fun t => t.get UPD_STAT.STBY = yREADY ∧ t.word UPD_VER_STBY.addr = s.imgVer (slotBase s.upd.stbyFrom))
    ∧ Completes (.standbyLoaded false) s (fun t => t.get UPD_STAT.STBY = yFAILED) := by
  have hno : ¬ (! s.alive || s.get UPD_STAT.STBY != yLOADING) = true := by rw [ha, hs]; decide
  have ht : exec (.standbyLoaded true) s = .next ((s.put UPD_STAT.STBY yREADY).setWord UPD_VER_STBY.addr (s.imgVer (slotBase s.upd.stbyFrom))) :=
    congrArg Host.Outcome.next (if_neg hno)
  have hf : exec (.standbyLoaded false) s = .next ((s.put UPD_STAT.STBY yFAILED).fltInfo 0x35 s.standbyCx 0x1A (cxLoc s.standbyCx) 0) :=
    congrArg Host.Outcome.next (if_neg hno)
  refine ⟨⟨_, ht, ?_, State.word_setWord_same _ _ _⟩, ⟨_, hf, ?_⟩⟩
  · exact (State.get_setWord_ne _ _ _ _ (by decide)).trans (State.get_put_same s _ _ (by decide))
  · exact ((Kept.fltInfo (.refl _ (s.put UPD_STAT.STBY yFAILED)) (Foot.le_refl _) _ _ _ _ _).get_of (g := UPD_STAT.STBY) rfl).trans (State.get_put_same s _ _ (by decide))

theorem host_cfg_timeout (s : State) (hd : s.dev = load) (hi : s.boot.byImage = true) (hh : s.boot.hostDone = false) :
    Completes .hostCfgTimeout s (fun t => t.get SYS_STATE.LAST_ERR = Err.timeout.code ∧ t.dev = load) := by
  have hgo : (s.dev == load && s.boot.byImage && ! s.boot.hostDone) = true := by rw [hd, hi, hh]; rfl
  have he : exec .hostCfgTimeout s = .next (s.put SYS_STATE.LAST_ERR Err.timeout.code) := congrArg Host.Outcome.next (if_pos hgo)
  exact ⟨_, he, (State.get_put_same s _ _ (by decide)).trans (Nat.mod_eq_of_lt Err.timeout.code_lt), (State.get_put_clear s SYS_STATE.LAST_ERR SYS_STATE.STATE _ rfl).trans hd⟩

/-- Settles O47: each event of the boot by the stage it ends. -/
theorem bootCommandsComplete : Obligations.BootCommandsComplete :=
  ⟨header_read_next, header_read_first, image_check, firmware_start, standby_loaded, host_cfg_timeout⟩

end Sys2Proof.Machine
end

section
/-! PROOFS. The configuration records (R547 to R549). -/

namespace Sys2Proof.Machine

/-- Record r stands next and does not wait. -/
structure State.stands (s : State) (r : RecordRun) : Prop where
  run : s.boot.run = some r
  ready : r.waiting = false
  dev : s.dev = load

/-- The run of records has failed with a code. -/
def loadFailed (code : Nat) (t : State) : Prop := t.boot.run = none ∧ t.boot.hostCfg = true ∧ t.get SYS_STATE.LAST_ERR = code % 256

theorem State.loadFail_failed (s : State) (code : Nat) : loadFailed code (s.loadFail code) := by
  refine ⟨rfl, rfl, ?_⟩
  have h : (s.loadFail code).get SYS_STATE.LAST_ERR = (s.put SYS_STATE.LAST_ERR code).get SYS_STATE.LAST_ERR :=
    (State.get_booted ((s.put SYS_STATE.LAST_ERR code).put UPD_LOAD_ERR.OFS (match s.boot.run with | some r => r.ofs | none => 0)) _ _).trans
      (State.get_put_clear _ _ _ _ rfl)
  exact h.trans (State.get_put_same s _ _ (by decide))

/-! ### What stands next -/

theorem State.stands.settled {s : State} {r : RecordRun} (h : s.stands r) : s.recSettle = s := by
  unfold State.recSettle
  rw [h.run]
  exact if_pos (by rw [h.ready]; rfl)

theorem State.stands.recordAt {s : State} {r : RecordRun} (h : s.stands r) {k : Nat} (hk : (s.recHead r).type = k) : s.recordAt k = some (r, s.recHead r) := by
  unfold State.recordAt
  rw [h.run]
  exact if_pos (by rw [h.dev, h.ready, hk]; simp)

theorem State.cfgWrite_first (s : State) (a : Nat) (v : Word) : State.cfgWrite (s, 0) a v = (s.writeWord s.activeSrc a v, (s.writeWord s.activeSrc a v).respCode) := rfl

theorem State.cfgWrite_failed {x : State × Nat} (h : x.2 ≠ 0) (a : Nat) (v : Word) : State.cfgWrite x a v = x := if_neg h

theorem State.cfgEnd_done {x : State × Nat} (h : x.2 = 0) : State.cfgEnd x = x.1.recDone := if_pos h

theorem State.cfgEnd_failed {x : State × Nat} (h : x.2 ≠ 0) : loadFailed x.2 (State.cfgEnd x) := by
  have he : State.cfgEnd x = x.1.loadFail x.2 := if_neg h
  rw [he]
  exact x.1.loadFail_failed x.2

/-- A record whose command ends as its writes did. -/
theorem cfg_record {c : Instr} {s : State} {x : State × Nat} (he : exec c s = .next (State.cfgEnd x)) :
    (x.2 = 0 → Completes c s (fun t => t = x.1.recDone)) ∧ (x.2 ≠ 0 → Completes c s (loadFailed x.2)) :=
  ⟨fun h => ⟨_, he, State.cfgEnd_done h⟩, fun h => ⟨_, he, State.cfgEnd_failed h⟩⟩

/-! ### REG, MASK, CRCREF and APPLY -/

theorem reg_record (s : State) (r : RecordRun) (h : s.stands r) (hk : (s.recHead r).type = 1) :
    let x := (List.range ((s.recHead r).len / 4)).foldl (fun (x : State × Nat) k => State.cfgWrite x ((s.recHead r).arg + 4 * k) (s.recWord r k)) (s, 0)
    (x.2 = 0 → Completes .regRecord s (fun t => t = x.1.recDone)) ∧ (x.2 ≠ 0 → Completes .regRecord s (loadFailed x.2)) := by
  refine cfg_record ?_
  have he : exec .regRecord s = execRegRecord s := rfl
  refine he.trans ?_
  unfold execRegRecord
  rw [h.settled]
  dsimp only
  rw [h.recordAt hk]

theorem mask_record (s : State) (r : RecordRun) (h : s.stands r) (hk : (s.recHead r).type = 2) :
    let t0 := s.busRead s.activeSrc (s.recHead r).arg 4
    let m := s.recWord r 1
    let y := t0.writeWord t0.activeSrc (s.recHead r).arg ((BitVec.ofNat 32 t0.respData &&& ~~~ m) ||| (s.recWord r 0 &&& m))
    (t0.respCode ≠ 0 → Completes .maskRecord s (loadFailed t0.respCode))
    ∧ (t0.respCode = 0 → y.respCode = 0 → Completes .maskRecord s (fun t => t = y.recDone))
    ∧ (t0.respCode = 0 → y.respCode ≠ 0 → Completes .maskRecord s (loadFailed y.respCode)) := by
  intro t0 m y
  have he : exec .maskRecord s = .next (State.cfgEnd (State.cfgWrite (t0, t0.respCode) (s.recHead r).arg
      ((BitVec.ofNat 32 t0.respData &&& ~~~ m) ||| (s.recWord r 0 &&& m)))) := by
    have he : exec .maskRecord s = execMaskRecord s := rfl
    refine he.trans ?_
    unfold execMaskRecord
    rw [h.settled]
    dsimp only
    rw [h.recordAt hk]
  refine ⟨fun h0 => ?_, fun h0 h1 => ?_, fun h0 h1 => ?_⟩
  · rw [State.cfgWrite_failed (x := (t0, t0.respCode)) h0] at he
    exact (cfg_record he).2 h0
  · rw [h0, State.cfgWrite_first] at he
    exact (cfg_record he).1 h1
  · rw [h0, State.cfgWrite_first] at he
    exact (cfg_record he).2 h1

theorem crcref_record (s : State) (r : RecordRun) (h : s.stands r) (hk : (s.recHead r).type = 7) :
    let y := s.writeWord s.activeSrc SYS_CFGCRC_REF.addr (BitVec.ofNat 32 (s.recHead r).arg)
    (y.respCode = 0 → Completes .crcrefRecord s (fun t => t = y.recDone)) ∧ (y.respCode ≠ 0 → Completes .crcrefRecord s (loadFailed y.respCode)) := by
  intro y
  refine cfg_record (x := (y, y.respCode)) ?_
  have he : exec .crcrefRecord s = execCrcrefRecord s := rfl
  refine he.trans ?_
  unfold execCrcrefRecord
  rw [h.settled]
  dsimp only
  rw [h.recordAt hk]
  dsimp only
  rw [State.cfgWrite_first]

/-- A record that waits after its writes, or fails. -/
def State.cfgWait (x : State × Nat) (f : State → State) : State := if x.2 = 0 then f x.1 else x.1.loadFail x.2

theorem wait_record_ends {c : Instr} {s : State} {x : State × Nat} {f : State → State} (he : exec c s = .next (State.cfgWait x f)) :
    (x.2 = 0 → Completes c s (fun t => t = f x.1)) ∧ (x.2 ≠ 0 → Completes c s (loadFailed x.2)) :=
  ⟨fun h => ⟨_, he, if_pos h⟩, fun h => ⟨_, he, (congrArg (loadFailed x.2) (if_neg h)).mpr (x.1.loadFail_failed x.2)⟩⟩

theorem apply_record (s : State) (r : RecordRun) (h : s.stands r) (hk : (s.recHead r).type = 6) :
    let y := s.writeWord s.activeSrc SYS_UPDATE.addr (BitVec.ofNat 32 (s.recHead r).arg)
    (y.respCode = 0 → Completes .applyRecord s (fun t => t = y.recWait)) ∧ (y.respCode ≠ 0 → Completes .applyRecord s (loadFailed y.respCode)) := by
  intro y
  refine wait_record_ends (x := (y, y.respCode)) (f := State.recWait) ?_
  have he : exec .applyRecord s = execApplyRecord s := rfl
  refine he.trans ?_
  unfold execApplyRecord
  rw [h.settled]
  dsimp only
  rw [h.recordAt hk]
  dsimp only
  rw [State.cfgWrite_first]
  rfl

/-! ### POWER and WAIT -/

theorem power_record (s : State) (r : RecordRun) (h : s.stands r) (hk : (s.recHead r).type = 4) :
    let ds := (bitsIn 32 (s.recHead r).arg).filter (fun d => decide (24 ≤ d) || s.dom d != 2)
    let x := ds.foldl (fun (x : State × Nat) d => State.cfgWrite x (PWR_DOM_CMD.addr 0 + 8 * d) 1) (s, 0)
    (x.2 = 0 → Completes .powerRecord s (fun t => t = x.1.recWait.recSettle)) ∧ (x.2 ≠ 0 → Completes .powerRecord s (loadFailed x.2)) := by
  intro ds x
  refine wait_record_ends (x := x) (f := fun y => y.recWait.recSettle) ?_
  have he : exec .powerRecord s = execPowerRecord s := rfl
  refine he.trans ?_
  unfold execPowerRecord
  rw [h.settled]
  dsimp only
  rw [h.recordAt hk]
  rfl

theorem State.stands.recWait {s : State} {r : RecordRun} (h : s.stands r) : s.recWait = s.booted { s.boot with run := some { r with waiting := true } } := by
  unfold State.recWait
  rw [h.run]
  rfl

/-- What the settling of a WAIT record does: it ends where its condition holds. -/
theorem recSettle_wait {s : State} {r : RecordRun} (hr : s.boot.run = some r) (hw : r.waiting = true) (hd : s.dev = load) (hk : (s.recHead r).type = 5) :
    s.recSettle = if s.waitHolds (s.recHead r).arg then s.recDone else s := by
  unfold State.recSettle
  rw [hr]
  dsimp only
  rw [if_neg (by rw [hw, hd]; decide), hk]
  rfl

theorem State.recHead_booted (s : State) (b : BootSt) (r : RecordRun) (w : Bool) : (s.booted b).recHead { r with waiting := w } = s.recHead r := rfl

theorem wait_record (s : State) (r : RecordRun) (h : s.stands r) (hk : (s.recHead r).type = 5) : let c := (s.recHead r).arg
    (waitCode c = true → s.waitHolds c = false → Completes .waitRecord s (fun t => t = s.recWait))
    ∧ (waitCode c = true → s.waitHolds c = true → Completes .waitRecord s (fun t => t = s.recWait.recDone))
    ∧ (waitCode c = false → Completes .waitRecord s (loadFailed Err.reserved.code)) := by
  intro c
  have he : exec .waitRecord s = .next (if waitCode c then s.recWait.recSettle else s.loadFail Err.reserved.code) := by
    have he : exec .waitRecord s = execWaitRecord s := rfl
    refine he.trans ?_
    unfold execWaitRecord
    rw [h.settled]
    dsimp only
    rw [h.recordAt hk]
  have hsettle : s.recWait.recSettle = if s.waitHolds c then s.recWait.recDone else s.recWait := by
    rw [h.recWait]
    exact recSettle_wait (s := s.booted { s.boot with run := some { r with waiting := true } }) (r := { r with waiting := true }) rfl rfl
      ((State.get_booted _ _ _).trans h.dev) ((congrArg RecHead.type (s.recHead_booted _ r true)).trans hk)
  rw [hsettle] at he
  refine ⟨fun hc hh => ⟨_, he, ?_⟩, fun hc hh => ⟨_, he, ?_⟩, fun hc => ⟨_, he, ?_⟩⟩
  · rw [hc, hh]
    rfl
  · rw [hc, hh]
    rfl
  · rw [hc]
    exact s.loadFail_failed _

theorem wait_record_timeout (s : State) (r : RecordRun) (hr : s.boot.run = some r) (hw : r.waiting = true) (hd : s.dev = load) (hk : (s.recHead r).type = 5)
    (hh : s.waitHolds (s.recHead r).arg = false) :
    ((s.recHead r).arg = 0 → Completes .waitRecordTimeout s (fun t => t = s.recDone))
    ∧ ((s.recHead r).arg ≠ 0 → Completes .waitRecordTimeout s (loadFailed Err.timeout.code)) := by
  have he : exec .waitRecordTimeout s = .next (if (s.recHead r).arg = 0 then s.recDone else s.loadFail Err.timeout.code) := by
    have he : exec .waitRecordTimeout s = execWaitRecordTimeout s := rfl
    have hs : s.recSettle = s := by rw [recSettle_wait hr hw hd hk, hh]; rfl
    refine he.trans ?_
    unfold execWaitRecordTimeout
    rw [hs]
    dsimp only
    rw [hr]
    exact congrArg Host.Outcome.next (if_neg (by rw [hd, hw, hk]; decide))
  refine ⟨fun h0 => ⟨_, he, if_pos h0⟩, fun h0 => ⟨_, he, ?_⟩⟩
  rw [if_neg h0]
  exact s.loadFail_failed _

/-! ### SRAM and END -/

theorem sram_record (s : State) (r : RecordRun) (h : s.stands r) (hk : (s.recHead r).type = 3) :
    ((∀ i, i < (s.recHead r).len → s.bar2Err ((s.recHead r).arg + i) true = none) → Completes .sramRecord s (fun t =>
      ∀ i, i < (s.recHead r).len → t.sramByte ((s.recHead r).arg + i) = s.recByte r (r.ofs + 8 + i)))
    ∧ (∀ e, (List.range (s.recHead r).len).findSome? (fun i => s.bar2Err ((s.recHead r).arg + i) true) = some e →
      Completes .sramRecord s (loadFailed e.code)) := by
  have he : exec .sramRecord s = .next (match (List.range (s.recHead r).len).findSome? (fun i => s.bar2Err ((s.recHead r).arg + i) true) with
      | some e => (((s.blockErr 0x15 e.code .bar2 (s.recHead r).arg).logErr
          (errW0 0 false s.activeSrc .bar2 0x15 e.code) (BitVec.ofNat 32 (s.recHead r).arg))).loadFail e.code
      | none => ((s.setSramBytes (s.recHead r).arg ((List.range (s.recHead r).len).map (fun i => s.recByte r (r.ofs + 8 + i)))).unpoison
          (s.recHead r).arg (s.recHead r).len).recDone) := by
    have he : exec .sramRecord s = execSramRecord s := rfl
    refine he.trans ?_
    unfold execSramRecord
    rw [h.settled]
    dsimp only
    generalize hx : s.recordAt 3 = x
    have he : x = some (r, s.recHead r) := hx.symm.trans (h.recordAt hk)
    subst he
    rfl
  refine ⟨fun hall => ?_, fun e hx => ?_⟩
  · have hnone : (List.range (s.recHead r).len).findSome? (fun i => s.bar2Err ((s.recHead r).arg + i) true) = none :=
      List.findSome?_eq_none_iff.mpr fun i hi => hall i (List.mem_range.mp hi)
    rw [hnone] at he
    refine ⟨_, he, fun i hi => ?_⟩
    have hkept {y : State} : (y.unpoison (s.recHead r).arg (s.recHead r).len).recDone.sram = y.sram := by
      have h1 := Kept.unpoison (.refl _ y) (Foot.le_refl _) (s.recHead r).arg (s.recHead r).len
      have h2 := Kept.recDone (.refl _ (y.unpoison (s.recHead r).arg (s.recHead r).len)) (Foot.le_refl _)
      exact (h2.part_of .sram rfl).trans (h1.part_of .sram rfl)
    rw [State.sramByte_of_sram hkept]
    have hlen : i < ((List.range (s.recHead r).len).map (fun i => s.recByte r (r.ofs + 8 + i))).length := by
      rw [List.length_map, List.length_range]
      exact hi
    rw [State.sramByte_setSramBytes_mem _ _ _ i hlen, List.getElem_map, List.getElem_range]
  · rw [hx] at he
    exact ⟨_, he, State.loadFail_failed _ _⟩

theorem end_record (s : State) (r : RecordRun) (h : s.stands r) (hk : (s.recHead r).type = 15) :
    (s.admitRunning.1 = none → Completes .endRecord s (fun t => t.dev = run ∧ t.boot.run = none))
    ∧ (∀ e, s.admitRunning.1 = some e → Completes .endRecord s (loadFailed e.code)) := by
  have he : exec .endRecord s = .next (match s.admitRunning.1 with
      | some e => (s.admitRunning.2.refuseOp 0x00 0x04 s.admitRunning.2.activeSrc e).loadFail e.code
      | none => ((s.admitRunning.2.booted { s.admitRunning.2.boot with run := none }).setDev run).drivesStart) := by
    have he : exec .endRecord s = execEndRecord s := rfl
    refine he.trans ?_
    unfold execEndRecord
    rw [h.settled]
    dsimp only
    rw [h.recordAt hk]
    generalize s.admitRunning = x
    rfl
  refine ⟨fun hx => ?_, fun e hx => ?_⟩
  · rw [hx] at he
    refine ⟨_, he, ?_⟩
    generalize s.admitRunning.2 = y
    have hset : (y.booted { y.boot with run := none }).boot.run = none := rfl
    generalize y.booted { y.boot with run := none } = z at *
    have h1 := Kept.drivesStart (.refl _ (z.setDev run)) (Foot.le_refl _)
    have h2 := Kept.setDev (.refl _ z) (Foot.le_refl _) run
    have hboot : (z.setDev run).drivesStart.boot = z.boot := (h1.part_of .boot rfl).trans (h2.part_of .boot rfl)
    exact ⟨(h1.get_of (g := SYS_STATE.STATE) rfl).trans (State.dev_setDev z run (by decide)), by rw [hboot, hset]⟩
  · rw [hx] at he
    exact ⟨_, he, State.loadFail_failed _ _⟩

/-- Settles O48: each record by its type, as it stands next or waits. -/
theorem recordCommandsComplete : Obligations.RecordCommandsComplete := by
  unfold Obligations.RecordCommandsComplete
  intro next failed write
  have hn {s : State} {r : RecordRun} (h : next s r) : s.stands r := ⟨h.1, h.2.1, h.2.2⟩
  exact ⟨fun s r h => reg_record s r (hn h), fun s r h => mask_record s r (hn h), fun s r h => sram_record s r (hn h), fun s r h => power_record s r (hn h),
    fun s r h => wait_record s r (hn h), wait_record_timeout, fun s r h => apply_record s r (hn h), fun s r h => crcref_record s r (hn h),
    fun s r h => end_record s r (hn h)⟩

end Sys2Proof.Machine
end

section
/-! PROOFS. Handover, trial and fallback (R556 to R563). -/

namespace Sys2Proof.Machine

/-! ### Commands of UPD_CMD -/

theorem updRules_command {w : Word} {k : Nat} (h : updBits w = [k]) (src : Source) (s : State) : updRules.act src UPD_CMD.addr w s = s.updCmd src k := by
  have he : updRules.act src UPD_CMD.addr w s = match updBits w with
      | [] => .ok s
      | [k] => s.updCmd src k
      | _ => .error .conflict := rfl
  rw [he, h]

/-- A command of UPD_CMD that its rules admit. -/
theorem upd_command {c : Instr} {s t : State} {src : Source} {w : Word} {k : Nat} {P : State → Prop} (he : exec c s = .next (s.writeReg updRules src UPD_CMD.addr w))
    (ha : s.admits updRules src UPD_CMD.addr w) (hb : updBits w = [k]) (ht : (s.landed UPD_CMD.addr w).updCmd src k = .ok t) (hp : P (t.answer 0 0)) : Completes c s P :=
  Completes.of_write he ha (by decide) (by decide) ((updRules_command hb src _).trans ht) hp

/-- What a landed write of UPD_CMD keeps. -/
structure State.commanded (s y : State) : Prop where
  upd : y.upd = s.upd
  get : ∀ f : Fld, f.addr ≠ UPD_CMD.addr → y.get f = s.get f

theorem State.commanded_landed (s : State) (w : Word) : s.commanded (s.landed UPD_CMD.addr w) :=
  ⟨State.setWord_upd _ _ _, fun f h => State.get_landed_ne s _ w f h⟩

theorem State.commanded.inTrial {s y : State} (h : s.commanded y) : y.inTrial = s.inTrial := State.flag_eq_get (h.get UPD_STAT.TRIAL (by decide))

/-! ### Refusals -/

theorem State.get_blockErr (s : State) (w code : Nat) (sp : Space) (ofs : Nat) {f : Fld} (h : f.addr < w * 0x10000 + 0x3FF4) : (s.blockErr w code sp ofs).get f = s.get f := by
  unfold State.blockErr
  rw [State.get_setWord_ne _ _ _ _ (by omega), State.get_put_reg _ _ _ _ (by show f.addr ≠ w * 0x10000 + 0x3FF8; omega),
    State.get_put_reg _ _ _ _ (by show f.addr ≠ w * 0x10000 + 0x3FF4; omega)]

theorem State.get_logErr (s : State) (w0 w1 : Word) {f : Fld} (h : f.addr / 0x10000 = 0x1A) : (s.logErr w0 w1).get f = s.get f :=
  (Kept.logErr (.refl _ s) (Foot.le_refl _) w0 w1).get_of (Foot.word_of_win h rfl)

theorem State.upd_logErr (s : State) (w0 w1 : Word) : (s.logErr w0 w1).upd = s.upd := (Kept.logErr (.refl _ s) (Foot.le_refl _) w0 w1).part_of .upd rfl

theorem State.upd_blockErr (s : State) (w code : Nat) (sp : Space) (ofs : Nat) : (s.blockErr w code sp ofs).upd = s.upd :=
  (State.setWord_upd _ _ _).trans ((State.put_upd _ _ _).trans (State.put_upd _ _ _))

/-! ### The beginning of a handover (R557) -/

theorem State.handBegin_fields (s : State) (k : HandKind) : (s.handBegin k).flag UPD_STAT.HANDOVER = true ∧ (s.handBegin k).upd.hand = some k
    ∧ (s.handBegin k).upd.switched = false ∧ ∀ f : Fld, UPD_STAT.HANDOVER.clear f = true → (s.handBegin k).get f = s.get f := by
  have hget (f : Fld) : (s.handBegin k).get f = (s.put UPD_STAT.HANDOVER 1).get f := State.get_withUpd (s.put UPD_STAT.HANDOVER 1) _ f
  refine ⟨?_, rfl, rfl, fun f hf => (hget f).trans (State.get_put_clear s _ _ _ hf)⟩
  exact (State.flag_eq_get (hget _)).trans (State.flag_put_one s _ (by decide) rfl)

/-- A handover that admission refuses. -/
def State.handRefused (s : State) (src : Source) (e : Err) : State := (s.put UPD_STAT.LAST_CODE e.code).refuseOp 0x1A 0x04 src e

theorem State.handRefused_fields (s : State) (src : Source) (e : Err) : (s.handRefused src e).get UPD_STAT.LAST_CODE = e.code ∧ (s.handRefused src e).upd = s.upd := by
  constructor
  · unfold State.handRefused State.refuseOp
    rw [State.get_logErr _ _ _ rfl, State.get_blockErr _ _ _ _ _ (by decide), State.get_put_same _ _ _ (by decide)]
    exact Nat.mod_eq_of_lt e.code_lt
  · unfold State.handRefused State.refuseOp
    rw [State.upd_logErr, State.upd_blockErr, State.put_upd]

theorem State.upd_admitRunning (s : State) : s.admitRunning.2.upd = s.upd := (Kept.admitRunning (.refl _ s) (Foot.le_refl _)).part_of .upd rfl

theorem handCheck_refused {y : State} {e : Err} (k : HandKind) (src : Source) (h : y.admitRunning.1 = some e) : y.handCheck k src = y.admitRunning.2.handRefused src e := by
  unfold State.handCheck
  dsimp only
  rw [h]
  rfl

theorem handCheck_begins {y : State} (k : HandKind) (src : Source) (h : y.admitRunning.1 = none) : y.handCheck k src = y.admitRunning.2.handBegin k := by
  unfold State.handCheck
  dsimp only
  rw [h]

/-- HANDOVER and REVERT, once the command's own conditions hold. -/
theorem hand_command {c : Instr} {s : State} {src : Source} {w : Word} {k : Nat} {kind : HandKind} (he : exec c s = .next (s.writeReg updRules src UPD_CMD.addr w))
    (ha : s.admits updRules src UPD_CMD.addr w) (hb : updBits w = [k])
    (ht : (s.landed UPD_CMD.addr w).updCmd src k = .ok ((s.landed UPD_CMD.addr w).handCheck kind src)) : let x := (s.landed UPD_CMD.addr w).admitRunning
    (x.1 = none → Completes c s (fun t => t.okAnswer ∧ t.flag UPD_STAT.HANDOVER = true ∧ t.upd.hand = some kind ∧ t.upd.switched = false))
    ∧ (∀ e, x.1 = some e → Completes c s (fun t => t.okAnswer ∧ t.get UPD_STAT.LAST_CODE = e.code ∧ t.upd = s.upd)) := by
  intro x
  have hupd : x.2.upd = s.upd := (State.upd_admitRunning _).trans (s.commanded_landed w).upd
  refine ⟨fun hx => ?_, fun e hx => ?_⟩
  · rw [handCheck_begins kind src hx] at ht
    obtain ⟨hflag, hhand, hsw, -⟩ := x.2.handBegin_fields kind
    refine upd_command he ha hb ht ⟨State.answer_ok _, (State.answer_flag _ _ _ _).trans hflag, ?_, ?_⟩
    · rw [State.answer_upd, hhand]
    · rw [State.answer_upd, hsw]
  · rw [handCheck_refused kind src hx] at ht
    obtain ⟨hcode, hu⟩ := x.2.handRefused_fields src e
    exact upd_command he ha hb ht ⟨State.answer_ok _, (State.answer_get _ _ _ _).trans hcode, (State.answer_upd _ _ _).trans (hu.trans hupd)⟩

theorem updCmd_handover {y : State} (src : Source) (hs : y.get UPD_STAT.STBY = yREADY) (hn : y.slotIn kSTAGED ≠ none) : y.updCmd src 2 = .ok (y.handCheck .forward src) := by
  refine if_neg ?_
  rw [hs, Option.isNone_iff_eq_none.not.mpr hn |> Bool.eq_false_iff.mpr]
  decide

theorem updCmd_confirm {y : State} (src : Source) (h : y.inTrial = true) : y.updCmd src 3 = .ok y.updConfirm := if_pos h

theorem updCmd_revert {y : State} (src : Source) (h : y.inTrial = true) : y.updCmd src 4 = .ok (y.handCheck .revert src) := if_pos h

theorem updCmd_loadstby {y : State} (src : Source) {i : Nat} (h : y.slotIn kCONFIRMED = some i) : y.updCmd src 5 = .ok (y.loadStandby i) := by
  have he : y.updCmd src 5 = match y.slotIn kCONFIRMED with | some i => .ok (y.loadStandby i) | none => .error .sequence := rfl
  rw [he, h]

theorem updCmd_bootnext {y : State} (src : Source) {i : Nat} (ht : y.inTrial = false) (h : y.slotIn kSTAGED = some i) : y.updCmd src 6 = .ok (y.slotWritten i kNEXT) := by
  have he : y.updCmd src 6 = match y.slotIn kSTAGED with
      | some i => if y.inTrial then .error .sequence else .ok ((y.slotState i kNEXT).writeDir)
      | none => .error .sequence := rfl
  rw [he, h]
  exact if_neg (by rw [ht]; decide)

/-! ### The exchange of roles (R557 to R560) -/

theorem State.word_slotWritten (s : State) (i k : Nat) {a : Nat} (h : a < 0x1A0030 ∨ 0x1A0038 ≤ a) : (s.slotWritten i k).word a = s.word a := by
  have hne : a ≠ UPD_SLOT.addr i := by
    unfold UPD_SLOT.addr
    omega
  refine (State.word_of_regs (State.writeDir_regs _) a).trans ?_
  exact (State.word_put_ne _ (UPD_SLOT.IMG_SEQ i) _ hne).trans (State.word_put_ne _ (UPD_SLOT.STATE i) _ hne)

/-- A slot found in state k goes to state l. -/
def State.slotMoved (s : State) (k l : Nat) : State := match s.slotIn k with | some i => (s.slotState i l).writeDir | none => s

theorem State.slotMoved_fields (s : State) (k l : Nat) : (∀ a, a < 0x1A0030 ∨ 0x1A0038 ≤ a → (s.slotMoved k l).word a = s.word a)
    ∧ (s.slotMoved k l).upd.switched = s.upd.switched ∧ ∀ i, s.slotIn k = some i → ((s.slotMoved k l).slot i).state = l := by
  unfold State.slotMoved
  cases hk : s.slotIn k with
  | none => exact ⟨fun _ _ => rfl, rfl, fun _ h => nomatch h⟩
  | some i =>
    refine ⟨fun a ha => s.word_slotWritten i l ha, ?_, fun j hj => ?_⟩
    · rw [State.writeDir_upd]
      show (s.setSlot i _).upd.switched = _
      rw [State.setSlot_upd]
      split <;> rfl
    · cases hj
      exact (s.slotWritten_fields i l).1

/-- The complexes have exchanged roles. -/
def State.switchedOver (s : State) : State := s.swapRoles.withUpd { s.upd with switched := true }

theorem State.switchedOver_fields (s : State) : s.switchedOver.get UPD_STAT.ACTIVE = 1 - s.get UPD_STAT.ACTIVE
    ∧ s.switchedOver.word UPD_VER_ACT.addr = s.word UPD_VER_STBY.addr ∧ s.switchedOver.word UPD_VER_STBY.addr = s.word UPD_VER_ACT.addr
    ∧ s.switchedOver.upd = { s.upd with switched := true }
    ∧ ∀ a, a ≠ UPD_STAT.addr → a ≠ UPD_VER_ACT.addr → a ≠ UPD_VER_STBY.addr → s.switchedOver.word a = s.word a := by
  have hw (a : Nat) : s.switchedOver.word a = s.swapRoles.word a := State.word_withUpd _ _ _
  have hact : s.switchedOver.get UPD_STAT.ACTIVE = s.swapRoles.get UPD_STAT.ACTIVE := State.get_withUpd _ _ _
  refine ⟨?_, ?_, ?_, rfl, fun a h1 h2 h3 => ?_⟩
  · rw [hact]
    unfold State.swapRoles
    dsimp only
    rw [State.get_setWord_ne _ _ _ _ (by decide), State.get_setWord_ne _ _ _ _ (by decide), State.get_put_same _ _ _ (by decide)]
    exact Nat.mod_eq_of_lt (by unfold State.standbyCx; show _ < 2; omega)
  · rw [hw]
    exact (State.word_setWord_ne _ _ (by decide)).trans (State.word_setWord_same _ _ _)
  · rw [hw]
    exact State.word_setWord_same _ _ _
  · rw [hw]
    exact (State.word_setWord_ne _ _ h3).trans ((State.word_setWord_ne _ _ h2).trans (State.word_put_ne _ UPD_STAT.ACTIVE _ h1))

/-- The trial begins. -/
def State.trialStart (s : State) : State :=
  let s := (s.bump UPD_CNT.HANDOVERS).put UPD_STAT.TRIAL 1
  (s.put UPD_STAT.CFMT_DUAL 1).put UPD_TRIAL_LEFT.LEFT (s.get UPD_CTRL.TRIAL_TO)

theorem State.trialStart_fields (s : State) : s.trialStart.inTrial = true ∧ s.trialStart.flag UPD_STAT.CFMT_DUAL = true
    ∧ s.trialStart.get UPD_TRIAL_LEFT.LEFT = s.get UPD_CTRL.TRIAL_TO ∧ s.trialStart.get UPD_CNT.HANDOVERS = min (s.get UPD_CNT.HANDOVERS + 1) 65535
    ∧ s.trialStart.get UPD_STAT.ACTIVE = s.get UPD_STAT.ACTIVE ∧ s.trialStart.upd = s.upd
    ∧ s.trialStart.word UPD_VER_ACT.addr = s.word UPD_VER_ACT.addr ∧ s.trialStart.word UPD_VER_STBY.addr = s.word UPD_VER_STBY.addr := by
  have hto : ((s.bump UPD_CNT.HANDOVERS).put UPD_STAT.TRIAL 1).get UPD_CTRL.TRIAL_TO = s.get UPD_CTRL.TRIAL_TO :=
    (State.get_put_clear _ _ _ _ rfl).trans (State.get_bump_clear _ _ _ rfl)
  have hlt : s.get UPD_CTRL.TRIAL_TO < 2 ^ 16 := bitsOf_lt _ _ _
  unfold State.trialStart
  dsimp only
  rw [hto]
  have hbump := s.get_bump_min UPD_CNT.HANDOVERS (by decide)
  have hact : (s.bump UPD_CNT.HANDOVERS).get UPD_STAT.ACTIVE = s.get UPD_STAT.ACTIVE := State.get_bump_clear _ _ _ rfl
  have hupd : (s.bump UPD_CNT.HANDOVERS).upd = s.upd := State.bump_upd _ _
  have hword {a : Nat} (ha : a ≠ UPD_CNT.addr) : (s.bump UPD_CNT.HANDOVERS).word a = s.word a := s.word_bump_ne _ ha
  generalize s.bump UPD_CNT.HANDOVERS = y at *
  have hw {a : Nat} (h0 : a ≠ UPD_CNT.addr) (h1 : a ≠ UPD_STAT.addr) (h2 : a ≠ UPD_TRIAL_LEFT.addr) :
      (((y.put UPD_STAT.TRIAL 1).put UPD_STAT.CFMT_DUAL 1).put UPD_TRIAL_LEFT.LEFT (s.get UPD_CTRL.TRIAL_TO)).word a = s.word a := by
    rw [State.word_put_ne _ _ _ h2, State.word_put_ne _ UPD_STAT.CFMT_DUAL _ h1, State.word_put_ne _ UPD_STAT.TRIAL _ h1, hword h0]
  refine ⟨?_, ?_, ?_, ?_, ?_, ?_, hw (by decide) (by decide) (by decide), hw (by decide) (by decide) (by decide)⟩
  · rw [State.inTrial, State.flag_put_clear _ _ _ _ rfl, State.flag_put_clear _ _ _ _ rfl, State.flag_put_one _ _ (by decide) rfl]
  · rw [State.flag_put_clear _ _ _ _ rfl, State.flag_put_one _ _ (by decide) rfl]
  · rw [State.get_put_same _ _ _ (by decide)]
    exact Nat.mod_eq_of_lt hlt
  · rw [State.get_put_clear _ _ _ _ rfl, State.get_put_clear _ _ _ _ rfl, State.get_put_clear _ _ _ _ rfl, hbump]
    rfl
  · rw [State.get_put_clear _ _ _ _ rfl, State.get_put_clear _ _ _ _ rfl, State.get_put_clear _ _ _ _ rfl, hact]
  · rw [State.put_upd, State.put_upd, State.put_upd, hupd]

theorem State.trialEnd_fields (s : State) : s.trialEnd.inTrial = false ∧ s.trialEnd.flag UPD_STAT.CFMT_DUAL = false ∧ s.trialEnd.get UPD_TRIAL_LEFT.LEFT = 0
    ∧ s.trialEnd.upd = s.upd ∧ s.trialEnd.get UPD_STAT.ACTIVE = s.get UPD_STAT.ACTIVE
    ∧ ∀ a, a ≠ UPD_STAT.addr → a ≠ UPD_TRIAL_LEFT.addr → s.trialEnd.word a = s.word a := by
  unfold State.trialEnd
  refine ⟨?_, ?_, ?_, ?_, ?_, fun a h1 h2 => ?_⟩
  · rw [State.inTrial, State.flag_put_clear _ _ _ _ rfl, State.flag_put_clear _ _ _ _ rfl, State.flag_put_zero _ _ (by decide)]
  · rw [State.flag_put_clear _ _ _ _ rfl, State.flag_put_zero _ _ (by decide)]
  · rw [State.get_put_same _ _ _ (by decide)]
    rfl
  · rw [State.put_upd, State.put_upd, State.put_upd]
  · rw [State.get_put_clear _ _ _ _ rfl, State.get_put_clear _ _ _ _ rfl, State.get_put_clear _ _ _ _ rfl]
  · rw [State.word_put_ne _ _ _ h2, State.word_put_ne _ UPD_STAT.CFMT_DUAL _ h1, State.word_put_ne _ UPD_STAT.TRIAL _ h1]

theorem slot_of_upd {s t : State} (h : t.upd = s.upd) (i : Nat) : t.slot i = s.slot i := by
  unfold State.slot
  rw [h]

/-- What every switch leaves, with the slot that it moves. -/
theorem State.slotMoved_switched (s : State) (k l : Nat) :
    (s.switchedOver.slotMoved k l).upd.switched = true ∧ (s.switchedOver.slotMoved k l).get UPD_STAT.ACTIVE = 1 - s.get UPD_STAT.ACTIVE
    ∧ (s.switchedOver.slotMoved k l).word UPD_VER_ACT.addr = s.word UPD_VER_STBY.addr ∧ (s.switchedOver.slotMoved k l).word UPD_VER_STBY.addr = s.word UPD_VER_ACT.addr
    ∧ (∀ i, s.slotIn k = some i → ((s.switchedOver.slotMoved k l).slot i).state = l)
    ∧ ∀ f : Fld, f.addr = UPD_CTRL.addr ∨ f.addr = UPD_CNT.addr → (s.switchedOver.slotMoved k l).get f = s.get f := by
  obtain ⟨hact, hva, hvs, hupd, hword⟩ := s.switchedOver_fields
  obtain ⟨mword, msw, mslot⟩ := s.switchedOver.slotMoved_fields k l
  have hin : s.switchedOver.slotIn k = s.slotIn k := by
    unfold State.slotIn
    rw [hupd]
  refine ⟨msw.trans (by rw [hupd]), ?_, (mword _ (by decide)).trans hva, (mword _ (by decide)).trans hvs, fun i hi => mslot i (hin.trans hi), fun f hf => ?_⟩
  · refine Eq.trans ?_ hact
    unfold State.get
    rw [mword _ (by decide)]
  · unfold State.get
    rcases hf with hf | hf
    · rw [hf, mword _ (by decide), hword _ (by decide) (by decide) (by decide)]
    · rw [hf, mword _ (by decide), hword _ (by decide) (by decide) (by decide)]

/-- What a switch of kind k leaves. -/
def State.handSwitched (s : State) (k : HandKind) : State :=
  match k with
  | .forward => (s.switchedOver.slotMoved kSTAGED kTRIAL).trialStart
  | _ => ((s.switchedOver.slotMoved kTRIAL kREJECTED).bump UPD_CNT.REVERTS).trialEnd

theorem exec_handoverSwitch {s : State} {k : HandKind} (ha : s.alive = true) (hk : s.upd.hand = some k) (hs : s.upd.switched = false) :
    exec .handoverSwitch s = .next (s.handSwitched k) := by
  have he : exec .handoverSwitch s = execHandoverSwitch s := rfl
  have hgo : ¬ (! s.alive || s.upd.switched) = true := by rw [ha, hs]; decide
  refine he.trans ?_
  unfold execHandoverSwitch
  rw [hk]
  refine congrArg Host.Outcome.next ((if_neg hgo).trans ?_)
  cases k <;> rfl

theorem State.handSwitched_forward (s : State) : let t := s.handSwitched .forward
    (t.upd.switched = true ∧ t.get UPD_STAT.ACTIVE = 1 - s.get UPD_STAT.ACTIVE ∧ t.word UPD_VER_ACT.addr = s.word UPD_VER_STBY.addr ∧ t.word UPD_VER_STBY.addr = s.word UPD_VER_ACT.addr)
    ∧ t.inTrial = true ∧ t.flag UPD_STAT.CFMT_DUAL = true ∧ t.get UPD_TRIAL_LEFT.LEFT = s.get UPD_CTRL.TRIAL_TO
      ∧ t.get UPD_CNT.HANDOVERS = min (s.get UPD_CNT.HANDOVERS + 1) 65535 ∧ ∀ i, s.slotIn kSTAGED = some i → (t.slot i).state = kTRIAL := by
  obtain ⟨hsw, hact, hva, hvs, hslot, hget⟩ := s.slotMoved_switched kSTAGED kTRIAL
  have he : s.handSwitched .forward = (s.switchedOver.slotMoved kSTAGED kTRIAL).trialStart := rfl
  rw [he]
  generalize s.switchedOver.slotMoved kSTAGED kTRIAL = y at *
  obtain ⟨ttrial, tdual, tleft, tcnt, tact, tupd, tva, tvs⟩ := y.trialStart_fields
  exact ⟨⟨by rw [tupd, hsw], tact.trans hact, tva.trans hva, tvs.trans hvs⟩, ttrial, tdual, tleft.trans (hget _ (.inl rfl)),
    tcnt.trans (by rw [hget _ (.inr rfl)]), fun i hi => (congrArg DirSlot.state (slot_of_upd tupd i)).trans (hslot i hi)⟩

theorem State.handSwitched_back (s : State) {k : HandKind} (hk : k ≠ .forward) : let t := s.handSwitched k
    (t.upd.switched = true ∧ t.get UPD_STAT.ACTIVE = 1 - s.get UPD_STAT.ACTIVE ∧ t.word UPD_VER_ACT.addr = s.word UPD_VER_STBY.addr ∧ t.word UPD_VER_STBY.addr = s.word UPD_VER_ACT.addr)
    ∧ t.inTrial = false ∧ t.flag UPD_STAT.CFMT_DUAL = false ∧ t.get UPD_TRIAL_LEFT.LEFT = 0
      ∧ t.get UPD_CNT.REVERTS = min (s.get UPD_CNT.REVERTS + 1) 65535 ∧ ∀ i, s.slotIn kTRIAL = some i → (t.slot i).state = kREJECTED := by
  have he : s.handSwitched k = ((s.switchedOver.slotMoved kTRIAL kREJECTED).bump UPD_CNT.REVERTS).trialEnd := by
    cases k with
    | forward => exact absurd rfl hk
    | revert => rfl
    | automatic => rfl
  obtain ⟨hsw, hact, hva, hvs, hslot, hget⟩ := s.slotMoved_switched kTRIAL kREJECTED
  rw [he]
  generalize s.switchedOver.slotMoved kTRIAL kREJECTED = y at *
  obtain ⟨ttrial, tdual, tleft, tupd, tact, tword⟩ := (y.bump UPD_CNT.REVERTS).trialEnd_fields
  have hbupd : (y.bump UPD_CNT.REVERTS).upd = y.upd := State.bump_upd _ _
  have hw {a : Nat} (h0 : a ≠ UPD_CNT.addr) (h1 : a ≠ UPD_STAT.addr) (h2 : a ≠ UPD_TRIAL_LEFT.addr) : (y.bump UPD_CNT.REVERTS).trialEnd.word a = y.word a :=
    (tword a h1 h2).trans (y.word_bump_ne _ h0)
  have hcnt : (y.bump UPD_CNT.REVERTS).trialEnd.get UPD_CNT.REVERTS = (y.bump UPD_CNT.REVERTS).get UPD_CNT.REVERTS := by
    unfold State.get
    rw [tword _ (by decide) (by decide)]
  refine ⟨⟨by rw [tupd, hbupd, hsw], (tact.trans (State.get_bump_clear _ _ _ rfl)).trans hact, (hw (by decide) (by decide) (by decide)).trans hva,
    (hw (by decide) (by decide) (by decide)).trans hvs⟩, ttrial, tdual, tleft, ?_, fun i hi => (congrArg DirSlot.state (slot_of_upd (tupd.trans hbupd) i)).trans (hslot i hi)⟩
  rw [hcnt, State.get_bump_min _ _ (by decide), hget _ (.inr rfl)]
  rfl

theorem handover_switch (s : State) (k : HandKind) (ha : s.alive = true) (hk : s.upd.hand = some k) (hs : s.upd.switched = false) :
    Completes .handoverSwitch s (fun t => t.upd.switched = true
      ∧ t.get UPD_STAT.ACTIVE = 1 - s.get UPD_STAT.ACTIVE ∧ t.word UPD_VER_ACT.addr = s.word UPD_VER_STBY.addr ∧ t.word UPD_VER_STBY.addr = s.word UPD_VER_ACT.addr
      ∧ (k = .forward → t.inTrial = true ∧ t.flag UPD_STAT.CFMT_DUAL = true ∧ t.get UPD_TRIAL_LEFT.LEFT = s.get UPD_CTRL.TRIAL_TO
        ∧ t.get UPD_CNT.HANDOVERS = min (s.get UPD_CNT.HANDOVERS + 1) 65535 ∧ ∀ i, s.slotIn kSTAGED = some i → (t.slot i).state = kTRIAL)
      ∧ (k ≠ .forward → t.inTrial = false ∧ t.flag UPD_STAT.CFMT_DUAL = false ∧ t.get UPD_TRIAL_LEFT.LEFT = 0
        ∧ t.get UPD_CNT.REVERTS = min (s.get UPD_CNT.REVERTS + 1) 65535 ∧ ∀ i, s.slotIn kTRIAL = some i → (t.slot i).state = kREJECTED)) := by
  refine ⟨_, exec_handoverSwitch ha hk hs, ?_⟩
  by_cases hf : k = .forward
  · subst hf
    obtain ⟨⟨hsw, hact, hva, hvs⟩, htrial⟩ := s.handSwitched_forward
    exact ⟨hsw, hact, hva, hvs, fun _ => htrial, fun h => absurd rfl h⟩
  · obtain ⟨⟨hsw, hact, hva, hvs⟩, hback⟩ := s.handSwitched_back hf
    exact ⟨hsw, hact, hva, hvs, fun h => absurd h hf, fun _ => hback⟩

theorem handover_resume (s : State) (ha : s.alive = true) (hh : s.upd.hand.isSome = true) (hs : s.upd.switched = true) : Completes .handoverResume s (fun t =>
    t.flag UPD_STAT.HANDOVER = false ∧ t.upd.hand = none ∧ t.upd.switched = false) := by
  have hgo : (s.alive && s.upd.hand.isSome && s.upd.switched) = true := by rw [ha, hh, hs]; rfl
  have he : exec .handoverResume s = .next (((s.moveRecords 64).put UPD_STAT.HANDOVER 0).withUpd { (s.moveRecords 64).upd with hand := none, switched := false }) :=
    congrArg Host.Outcome.next (if_pos hgo)
  generalize s.moveRecords 64 = y at *
  exact ⟨_, he, (State.flag_eq_get (State.get_withUpd _ _ _)).trans (State.flag_put_zero y _ (by decide)), rfl, rfl⟩

/-! ### CONFIRM, LOADSTBY, BOOTNEXT and the end of a trial (R559 to R563) -/

/-- The slot that was confirmed becomes the previous one. -/
def State.confirmedKept (s : State) : State := match s.slotIn kCONFIRMED with | some j => s.slotState j kPREVIOUS | none => s

theorem State.confirmedKept_slot {s : State} {j : Nat} (h : s.slotIn kCONFIRMED = some j) : (s.confirmedKept.slot j).state = kPREVIOUS := by
  unfold State.confirmedKept
  rw [h]
  exact congrArg DirSlot.state (s.slot_slotState j kPREVIOUS)

/-- A slot in trial is confirmed. -/
def State.slotConfirmed (s : State) (i : Nat) : State := ((s.confirmedKept.slotWritten i kCONFIRMED).trialEnd).loadStandby i

theorem State.loadStandby_slot (s : State) (i j : Nat) : (s.loadStandby i).slot j = s.slot j := rfl

theorem State.slotConfirmed_fields (s : State) (i : Nat) : (s.slotConfirmed i).inTrial = false ∧ (s.slotConfirmed i).flag UPD_STAT.CFMT_DUAL = false
    ∧ (s.slotConfirmed i).get UPD_TRIAL_LEFT.LEFT = 0 ∧ (s.slotConfirmed i).get UPD_STAT.STBY = yLOADING ∧ (s.slotConfirmed i).upd.stbyFrom = i
    ∧ ∀ j, (s.slotConfirmed i).slot j = (s.confirmedKept.slotWritten i kCONFIRMED).slot j := by
  unfold State.slotConfirmed
  generalize s.confirmedKept.slotWritten i kCONFIRMED = y
  obtain ⟨ttrial, tdual, tleft, tupd, -, -⟩ := y.trialEnd_fields
  generalize hz : y.trialEnd = z at *
  exact ⟨(State.flag_eq_get (z.get_loadStandby i rfl)).trans ttrial, (State.flag_eq_get (z.get_loadStandby i rfl)).trans tdual, (z.get_loadStandby i rfl).trans tleft,
    z.stby_loadStandby i, rfl, fun j => (z.loadStandby_slot i j).trans (slot_of_upd tupd j)⟩

theorem updConfirm_some {s : State} {i : Nat} (h : s.slotIn kTRIAL = some i) : s.updConfirm = s.slotConfirmed i := by
  unfold State.updConfirm
  rw [h]
  rfl

theorem updConfirm_none {s : State} (h : s.slotIn kTRIAL = none) : s.updConfirm = s.trialEnd := by
  unfold State.updConfirm
  rw [h]

theorem State.updConfirm_fields (s : State) : s.updConfirm.inTrial = false ∧ s.updConfirm.flag UPD_STAT.CFMT_DUAL = false ∧ s.updConfirm.get UPD_TRIAL_LEFT.LEFT = 0
    ∧ ∀ i, s.slotIn kTRIAL = some i → (s.updConfirm.slot i).state = kCONFIRMED ∧ s.updConfirm.get UPD_STAT.STBY = yLOADING ∧ s.updConfirm.upd.stbyFrom = i
      ∧ ∀ j, s.slotIn kCONFIRMED = some j → (s.updConfirm.slot j).state = kPREVIOUS := by
  cases hk : s.slotIn kTRIAL with
  | none =>
    rw [updConfirm_none hk]
    obtain ⟨ttrial, tdual, tleft, -, -, -⟩ := s.trialEnd_fields
    exact ⟨ttrial, tdual, tleft, fun _ h => nomatch h⟩
  | some i =>
    rw [updConfirm_some hk]
    obtain ⟨ctrial, cdual, cleft, cstby, cfrom, cslot⟩ := s.slotConfirmed_fields i
    refine ⟨ctrial, cdual, cleft, fun i' hi => ?_⟩
    cases hi
    refine ⟨?_, cstby, cfrom, fun j hj => ?_⟩
    · rw [cslot]
      exact (s.confirmedKept.slotWritten_fields i kCONFIRMED).1
    · have hne := slotIn_apart hk hj (by decide)
      rw [cslot]
      unfold State.slotWritten
      rw [State.slot_writeDir, State.slotState, State.slot_setSlot_ne _ _ hne, State.confirmedKept_slot hj]

theorem confirm_ends (s : State) (src : Source) (v : Word) (ha : s.admits updRules src UPD_CMD.addr (v ||| 8)) (hb : updBits (v ||| 8) = [3]) (ht : s.inTrial = true) :
    Completes (.confirm src v) s (fun t => t.okAnswer ∧ t.inTrial = false
      ∧ t.flag UPD_STAT.CFMT_DUAL = false ∧ t.get UPD_TRIAL_LEFT.LEFT = 0
      ∧ ∀ i, s.slotIn kTRIAL = some i → (t.slot i).state = kCONFIRMED ∧ t.get UPD_STAT.STBY = yLOADING ∧ t.upd.stbyFrom = i
        ∧ ∀ j, s.slotIn kCONFIRMED = some j → (t.slot j).state = kPREVIOUS) := by
  have hy := s.commanded_landed (v ||| 8)
  refine upd_command rfl ha hb (updCmd_confirm src (hy.inTrial.trans ht)) ?_
  generalize s.landed UPD_CMD.addr (v ||| 8) = y at hy ⊢
  obtain ⟨ttrial, tdual, tleft, tslots⟩ := y.updConfirm_fields
  rw [slotIn_congr hy.upd, slotIn_congr hy.upd] at tslots
  have hslot (j : Nat) : (y.updConfirm.answer 0 0).slot j = y.updConfirm.slot j := slot_of_upd (State.answer_upd _ _ _) j
  refine ⟨State.answer_ok _, (State.answer_flag _ _ _ _).trans ttrial, (State.answer_flag _ _ _ _).trans tdual, (State.answer_get _ _ _ _).trans tleft, fun i hi => ?_⟩
  obtain ⟨hc, hs, hf, hp⟩ := tslots i hi
  refine ⟨by rw [hslot, hc], (State.answer_get _ _ _ _).trans hs, by rw [State.answer_upd, hf], fun j hj => by rw [hslot, hp j hj]⟩

theorem loadstby_begins (s : State) (src : Source) (v : Word) (i : Nat) (ha : s.admits updRules src UPD_CMD.addr (v ||| 32)) (hb : updBits (v ||| 32) = [5])
    (hi : s.slotIn kCONFIRMED = some i) : Completes (.loadstby src v) s (fun t => t.okAnswer ∧ t.get UPD_STAT.STBY = yLOADING ∧ t.upd.stbyFrom = i) := by
  have hy := s.commanded_landed (v ||| 32)
  refine upd_command rfl ha hb (updCmd_loadstby src ((slotIn_congr hy.upd _).trans hi)) ?_
  generalize s.landed UPD_CMD.addr (v ||| 32) = y at hy ⊢
  exact ⟨State.answer_ok _, (State.answer_get _ _ _ _).trans (y.stby_loadStandby i), by rw [State.answer_upd]; rfl⟩

theorem bootnext_sets (s : State) (src : Source) (v : Word) (i : Nat) (ha : s.admits updRules src UPD_CMD.addr (v ||| 64)) (hb : updBits (v ||| 64) = [6])
    (ht : s.inTrial = false) (hi : s.slotIn kSTAGED = some i) : Completes (.bootnext src v) s (fun t => t.okAnswer ∧ (t.slot i).state = kNEXT) := by
  have hy := s.commanded_landed (v ||| 64)
  refine upd_command rfl ha hb (updCmd_bootnext src (hy.inTrial.trans ht) ((slotIn_congr hy.upd _).trans hi)) ?_
  generalize s.landed UPD_CMD.addr (v ||| 64) = y at hy ⊢
  exact ⟨State.answer_ok _, (congrArg DirSlot.state (slot_of_upd (State.answer_upd _ _ _) i)).trans (y.slotWritten_fields i kNEXT).1⟩

theorem State.autoRevert_fields (s : State) : s.autoRevert.get UPD_TRIAL_LEFT.LEFT = s.get UPD_TRIAL_LEFT.LEFT
    ∧ (s.upd.hand = none → s.autoRevert.upd.hand = some .automatic ∧ s.autoRevert.flag UPD_STAT.HANDOVER = true)
    ∧ (s.upd.hand.isSome = true → s.autoRevert.upd = s.upd) := by
  unfold State.autoRevert
  cases hh : s.upd.hand with
  | some k =>
    rw [if_pos (show (some k).isSome = true from rfl)]
    refine ⟨rfl, ?_, fun _ => rfl⟩
    intro h
    cases h
  | none =>
    have hk := Kept.fltInfo (.refl _ s) (Foot.le_refl _) 0x36 0 0x1A s.mgmtLocation (s.get UPD_TRIAL_LEFT.LEFT)
    rw [if_neg (by decide)]
    generalize s.fltInfo 0x36 0 0x1A s.mgmtLocation (s.get UPD_TRIAL_LEFT.LEFT) = y at hk ⊢
    obtain ⟨hflag, hhand, -, hget⟩ := y.handBegin_fields .automatic
    refine ⟨(hget _ rfl).trans (hk.get_of rfl), fun _ => ⟨hhand, hflag⟩, ?_⟩
    intro h
    cases h

theorem trial_expiry (s : State) (ha : s.alive = true) (ht : s.inTrial = true) (hl : s.get UPD_TRIAL_LEFT.LEFT ≠ 0) :
    Completes .trialExpiry s (fun t => t.get UPD_TRIAL_LEFT.LEFT = 0
      ∧ (s.upd.hand = none → t.upd.hand = some .automatic ∧ t.flag UPD_STAT.HANDOVER = true) ∧ (s.upd.hand.isSome = true → t.upd = s.upd)) := by
  have hgo : (s.alive && s.inTrial && s.get UPD_TRIAL_LEFT.LEFT != 0) = true := by rw [ha, ht, bne_iff_ne.mpr hl]; rfl
  have he : exec .trialExpiry s = .next (s.put UPD_TRIAL_LEFT.LEFT 0).autoRevert := congrArg Host.Outcome.next (if_pos hgo)
  obtain ⟨hleft, hnone, hsome⟩ := (s.put UPD_TRIAL_LEFT.LEFT 0).autoRevert_fields
  rw [State.put_upd] at hnone hsome
  exact ⟨_, he, hleft.trans (State.get_put_same s _ _ (by decide)), hnone, hsome⟩

/-- Settles O50: the commands by what `updCmd` admits, the switch by its kind, the expiry by whether a handover runs. -/
theorem handoverCommandsComplete : Obligations.HandoverCommandsComplete := by
  unfold Obligations.HandoverCommandsComplete
  intro asks begins
  refine ⟨fun s src v ⟨ha, hb⟩ hs hn => ?_, fun s src v ⟨ha, hb⟩ ht => ?_, handover_switch, handover_resume, fun s src v ⟨ha, hb⟩ => confirm_ends s src v ha hb,
    fun s src v i ⟨ha, hb⟩ => loadstby_begins s src v i ha hb, fun s src v i ⟨ha, hb⟩ => bootnext_sets s src v i ha hb, trial_expiry⟩
  · have hy := s.commanded_landed (v ||| 4)
    exact hand_command rfl ha hb (updCmd_handover src ((hy.get _ (by decide)).trans hs) (by rw [slotIn_congr hy.upd]; exact hn))
  · exact hand_command rfl ha hb (updCmd_revert src ((s.commanded_landed (v ||| 16)).inTrial.trans ht))

end Sys2Proof.Machine
end

section
/-! PROOFS. Update sessions: their begin, the programming and check of the slot, their end (R551 to R555). -/

namespace Sys2Proof.Machine

/-! ### The end of a session -/

theorem State.sessEnd_fields (s : State) {k : Nat} (hk : k < 4) : (s.sessEnd k).get UPD_STAT.SESS = k ∧ (s.sessEnd k).get UPD_STAT.SLOT_FREE = 3
    ∧ (s.sessEnd k).upd = { s.upd with sess := none, blocks := [], verify := false, lastCrc := none } ∧ (∀ i, (s.sessEnd k).slot i = s.slot i)
    ∧ ∀ f : Fld, UPD_STAT.SESS.clear f = true → UPD_STAT.SLOT_FREE.clear f = true → (s.sessEnd k).get f = s.get f := by
  have hget (f : Fld) : (s.sessEnd k).get f = ((s.put UPD_STAT.SESS k).put UPD_STAT.SLOT_FREE 3).get f := State.get_withUpd ((s.put UPD_STAT.SESS k).put UPD_STAT.SLOT_FREE 3) _ f
  have hupd : (s.sessEnd k).upd = { s.upd with sess := none, blocks := [], verify := false, lastCrc := none } := by
    have h : (s.sessEnd k).upd = { ((s.put UPD_STAT.SESS k).put UPD_STAT.SLOT_FREE 3).upd with sess := none, blocks := [], verify := false, lastCrc := none } := rfl
    rw [h, State.put_upd, State.put_upd]
  refine ⟨?_, ?_, hupd, fun i => ?_, fun f h1 h2 => ?_⟩
  · rw [hget, State.get_put_clear _ _ _ _ rfl, State.get_put_same _ _ _ (by decide)]
    exact Nat.mod_eq_of_lt hk
  · rw [hget, State.get_put_same _ _ _ (by decide)]
    rfl
  · unfold State.slot
    rw [hupd]
  · rw [hget, State.get_put_clear _ _ _ _ h2, State.get_put_clear _ _ _ _ h1]

/-- What an end of the session with a change of the slot leaves. -/
theorem State.sessEnd_slotWritten (s : State) (i l : Nat) {k : Nat} (hk : k < 4) : ((s.slotWritten i l).sessEnd k).get UPD_STAT.SESS = k
    ∧ ((s.slotWritten i l).sessEnd k).upd.sess = none ∧ (((s.slotWritten i l).sessEnd k).slot i).state = l := by
  obtain ⟨hsess, -, hupd, hslot, -⟩ := (s.slotWritten i l).sessEnd_fields hk
  refine ⟨hsess, by rw [hupd], ?_⟩
  rw [hslot]
  exact (s.slotWritten_fields i l).1

/-! ### START (R551) -/

/-- A session of type ty is open, with slot i to write. -/
def State.sessOpened (s : State) (ty i : Nat) : State :=
  let s := ((s.put UPD_STAT.SESS 1).put UPD_STAT.SLOT_FREE 3).put UPD_STAT.LAST_CODE 0
  let s := (s.put UPD_NEXT.NEXT 0).put UPD_NEXT_DST.DST 0
  s.withUpd { s.upd with sess := some (ty, s.get UPD_SESSION.ID, i), lastCrc := none, blocks := [], verify := false, section_ := [] }

/-- Slot i is erased for a session that writes it. -/
def State.slotErased (s : State) (ty i : Nat) : State := if ty == 2 then s else ((s.slotState i kWRITING).writeDir).eraseFlash (slotBase i) slotSize

theorem State.sessOpened_fields (s : State) (ty i : Nat) : (s.sessOpened ty i).get UPD_STAT.SESS = 1 ∧ (s.sessOpened ty i).get UPD_STAT.SLOT_FREE = 3
    ∧ (s.sessOpened ty i).get UPD_NEXT.NEXT = 0 ∧ (s.sessOpened ty i).get UPD_NEXT_DST.DST = 0
    ∧ (s.sessOpened ty i).upd.sess = some (ty, s.get UPD_SESSION.ID, i) ∧ (s.sessOpened ty i).upd.blocks = [] := by
  unfold State.sessOpened
  dsimp only
  refine ⟨?_, ?_, ?_, ?_, ?_, rfl⟩
  · rw [State.get_withUpd, State.get_put_clear _ _ _ _ rfl, State.get_put_clear _ _ _ _ rfl, State.get_put_clear _ _ _ _ rfl, State.get_put_clear _ _ _ _ rfl,
      State.get_put_same _ _ _ (by decide)]
    rfl
  · rw [State.get_withUpd, State.get_put_clear _ _ _ _ rfl, State.get_put_clear _ _ _ _ rfl, State.get_put_clear _ _ _ _ rfl, State.get_put_same _ _ _ (by decide)]
    rfl
  · rw [State.get_withUpd, State.get_put_clear _ _ _ _ rfl, State.get_put_same _ _ _ (by decide)]
    rfl
  · rw [State.get_withUpd, State.get_put_same _ _ _ (by decide)]
    rfl
  · have hid : (((((s.put UPD_STAT.SESS 1).put UPD_STAT.SLOT_FREE 3).put UPD_STAT.LAST_CODE 0).put UPD_NEXT.NEXT 0).put UPD_NEXT_DST.DST 0).get UPD_SESSION.ID
        = s.get UPD_SESSION.ID := by
      rw [State.get_put_clear _ _ _ _ rfl, State.get_put_clear _ _ _ _ rfl, State.get_put_clear _ _ _ _ rfl, State.get_put_clear _ _ _ _ rfl,
        State.get_put_clear _ _ _ _ rfl]
    rw [hid]
    rfl

theorem State.writeDir_sess (s : State) : s.writeDir.upd.sess = s.upd.sess ∧ s.writeDir.upd.blocks = s.upd.blocks := by
  rw [State.writeDir_upd]
  exact ⟨rfl, rfl⟩

theorem State.slotState_sess (s : State) (i k : Nat) : (s.slotState i k).upd.sess = s.upd.sess ∧ (s.slotState i k).upd.blocks = s.upd.blocks := by
  unfold State.slotState
  rw [State.setSlot_upd]
  split <;> exact ⟨rfl, rfl⟩

theorem State.slotWritten_sess (s : State) (i k : Nat) : (s.slotWritten i k).upd.sess = s.upd.sess ∧ (s.slotWritten i k).upd.blocks = s.upd.blocks := by
  unfold State.slotWritten
  rw [(State.writeDir_sess _).1, (State.writeDir_sess _).2]
  exact s.slotState_sess i k

theorem State.slot_eraseFlash (s : State) (lo n i : Nat) : (s.eraseFlash lo n).slot i = s.slot i := rfl
theorem State.get_eraseFlash (s : State) (lo n : Nat) (f : Fld) : (s.eraseFlash lo n).get f = s.get f := rfl
theorem State.upd_eraseFlash (s : State) (lo n : Nat) : (s.eraseFlash lo n).upd = s.upd := rfl

theorem State.slotErased_fields (s : State) (ty i : Nat) : (s.slotErased ty i).upd.sess = s.upd.sess ∧ (s.slotErased ty i).upd.blocks = s.upd.blocks
    ∧ (∀ f : Fld, f.addr < 0x1A0030 ∨ 0x1A0038 ≤ f.addr → (s.slotErased ty i).get f = s.get f)
    ∧ (ty ≠ 2 → ((s.slotErased ty i).slot i).state = kWRITING
      ∧ ∀ a, slotBase i ≤ a → a < slotBase i + slotSize → (s.slotErased ty i).flashByte a = flashDefault a) := by
  unfold State.slotErased
  split
  next h => exact ⟨rfl, rfl, fun _ _ => rfl, fun hne => absurd (beq_iff_eq.mp h) hne⟩
  next =>
    obtain ⟨hslot, hget, -, -⟩ := s.slotWritten_fields i kWRITING
    obtain ⟨hsess, hblocks⟩ := s.slotWritten_sess i kWRITING
    unfold State.slotWritten at hslot hget hsess hblocks
    generalize (s.slotState i kWRITING).writeDir = y at *
    rw [State.upd_eraseFlash, State.slot_eraseFlash]
    refine ⟨hsess, hblocks, fun f hf => (y.get_eraseFlash _ _ f).trans (hget f hf), fun _ => ⟨hslot, fun a h1 h2 => ?_⟩⟩
    rw [State.flashByte_eraseFlash, if_neg (by omega)]

/-- What START does once it is admitted. -/
def State.sessBegun (s : State) : State :=
  let t := s.get UPD_SESSION.TYPE
  let k : Nat × State := match s.slotIn kCONFIRMED with
    | some c => (1 - c, s)
    | none => (s.free.toNat % 2, if t == 2 then s else s.drawFree)
  let s := k.2
  let s := ((s.put UPD_STAT.SESS 1).put UPD_STAT.SLOT_FREE 3).put UPD_STAT.LAST_CODE 0
  let s := (s.put UPD_NEXT.NEXT 0).put UPD_NEXT_DST.DST 0
  let s : State := { s with upd := { s.upd with
    sess := some (t, s.get UPD_SESSION.ID, k.1), lastCrc := none, blocks := [], verify := false, section_ := [] } }
  if t == 2 then s else ((s.slotState k.1 kWRITING).writeDir).eraseFlash (slotBase k.1) slotSize

theorem sessBegun_some {s : State} {c : Nat} (h : s.slotIn kCONFIRMED = some c) :
    s.sessBegun = (s.sessOpened (s.get UPD_SESSION.TYPE) (1 - c)).slotErased (s.get UPD_SESSION.TYPE) (1 - c) := by
  unfold State.sessBegun
  rw [h]
  rfl

theorem sessBegun_none {s : State} (h : s.slotIn kCONFIRMED = none) : ∃ (x : State) (i : Nat), x.get UPD_SESSION.ID = s.get UPD_SESSION.ID
    ∧ s.sessBegun = (x.sessOpened (s.get UPD_SESSION.TYPE) i).slotErased (s.get UPD_SESSION.TYPE) i := by
  refine ⟨if s.get UPD_SESSION.TYPE == 2 then s else s.drawFree, s.free.toNat % 2, ?_, ?_⟩
  · split <;> rfl
  · unfold State.sessBegun
    rw [h]
    rfl

theorem sessBegun_fields (s : State) : s.sessBegun.get UPD_STAT.SESS = 1 ∧ s.sessBegun.get UPD_STAT.SLOT_FREE = 3 ∧ s.sessBegun.get UPD_NEXT.NEXT = 0
    ∧ s.sessBegun.get UPD_NEXT_DST.DST = 0 ∧ s.sessBegun.upd.sess.map (fun x => (x.1, x.2.1)) = some (s.get UPD_SESSION.TYPE, s.get UPD_SESSION.ID)
    ∧ s.sessBegun.upd.blocks = [] ∧ ∀ c, s.slotIn kCONFIRMED = some c → s.get UPD_SESSION.TYPE ≠ 2 → (s.sessBegun.slot (1 - c)).state = kWRITING
      ∧ ∀ a, slotBase (1 - c) ≤ a → a < slotBase (1 - c) + slotSize → s.sessBegun.flashByte a = flashDefault a := by
  obtain ⟨x, i, hid, he, hc⟩ : ∃ (x : State) (i : Nat), x.get UPD_SESSION.ID = s.get UPD_SESSION.ID
      ∧ s.sessBegun = (x.sessOpened (s.get UPD_SESSION.TYPE) i).slotErased (s.get UPD_SESSION.TYPE) i ∧ ∀ c, s.slotIn kCONFIRMED = some c → i = 1 - c := by
    cases h : s.slotIn kCONFIRMED with
    | some c => exact ⟨s, 1 - c, rfl, sessBegun_some h, fun _ h => by cases h; rfl⟩
    | none =>
      obtain ⟨x, i, hid, he⟩ := sessBegun_none h
      exact ⟨x, i, hid, he, fun _ h => nomatch h⟩
  rw [he, ← hid]
  obtain ⟨osess, ofree, onext, odst, oupd, oblocks⟩ := x.sessOpened_fields (s.get UPD_SESSION.TYPE) i
  generalize x.sessOpened (s.get UPD_SESSION.TYPE) i = y at *
  obtain ⟨esess, eblocks, eget, eslot⟩ := y.slotErased_fields (s.get UPD_SESSION.TYPE) i
  refine ⟨(eget _ (by decide)).trans osess, (eget _ (by decide)).trans ofree, (eget _ (by decide)).trans onext, (eget _ (by decide)).trans odst, ?_, ?_, fun c h hty => ?_⟩
  · rw [esess, oupd]
    rfl
  · rw [eblocks, oblocks]
  · rw [← hc c h]
    exact eslot hty

theorem updStart_ok {s : State} (h2 : s.get UPD_SESSION.TYPE = 2 → s.configAllowed = true) (h0 : s.get UPD_SESSION.TYPE = 0 → s.slotIn kCONFIRMED ≠ none)
    (hr : ∀ x ∈ s.poolRegions s.app, s.updBuf 0 + 131072 ≤ x.1 ∨ x.2 ≤ s.updBuf 0) (hp : s.poolV s.app + 131072 ≤ 17825792) : s.updStart = .ok s.sessBegun := by
  have n2 : ¬ (s.get UPD_SESSION.TYPE == 2 && ! s.configAllowed) = true := by
    rw [Bool.and_eq_true, beq_iff_eq, Bool.not_eq_true']
    exact fun ⟨h, hc⟩ => absurd (h2 h) (by rw [hc]; decide)
  have n0 : ¬ (s.get UPD_SESSION.TYPE == 0 && (s.slotIn kCONFIRMED).isNone) = true := by
    rw [Bool.and_eq_true, beq_iff_eq, Option.isNone_iff_eq_none]
    exact fun ⟨h, hc⟩ => h0 h hc
  have nr : ¬ (s.poolRegions s.app).any (fun x => decide (x.1 < s.updBuf 0 + 131072) && decide (s.updBuf 0 < x.2)) = true := by
    rw [List.any_eq_true]
    rintro ⟨x, hx, hlt⟩
    rw [Bool.and_eq_true, decide_eq_true_iff, decide_eq_true_iff] at hlt
    have := hr x hx
    omega
  exact (if_neg n2).trans ((if_neg n0).trans ((if_neg nr).trans (if_neg (Nat.not_lt.mpr hp))))

theorem poolRegions_congr {s t : State} (h : t.domOn dPCIE_S = s.domOn dPCIE_S) (r : View') : t.poolRegions r = s.poolRegions r := by
  unfold State.poolRegions
  rw [h]

theorem poolV_congr {s t : State} (h : t.domOn dPCIE_S = s.domOn dPCIE_S) (hu : t.upd = s.upd) (r : View') : t.poolV r = s.poolV r := by
  unfold State.poolV
  rw [h, hu]

theorem app_landed_all (s : State) (a : Nat) (w : Word) : (s.landed a w).app = s.app := funext (State.app_landed s a w)

theorem upd_start (s : State) (src : Source) (v : Word) (ha : s.admits updRules src UPD_CMD.addr (v ||| 1)) (hb : updBits (v ||| 1) = [0])
    (h2 : s.get UPD_SESSION.TYPE = 2 → s.configAllowed = true) (h0 : s.get UPD_SESSION.TYPE = 0 → s.slotIn kCONFIRMED ≠ none)
    (hr : ∀ x ∈ s.poolRegions s.app, s.updBuf 0 + 131072 ≤ x.1 ∨ x.2 ≤ s.updBuf 0) (hp : s.poolV s.app + 131072 ≤ 17825792) :
    Completes (.updStart src v) s (fun t => t.okAnswer ∧ t.get UPD_STAT.SESS = 1 ∧ t.get UPD_STAT.SLOT_FREE = 3 ∧ t.get UPD_NEXT.NEXT = 0
      ∧ t.get UPD_NEXT_DST.DST = 0 ∧ t.upd.sess.map (fun x => (x.1, x.2.1)) = some (s.get UPD_SESSION.TYPE, s.get UPD_SESSION.ID) ∧ t.upd.blocks = []
      ∧ ∀ c, s.slotIn kCONFIRMED = some c → s.get UPD_SESSION.TYPE ≠ 2 → (t.slot (1 - c)).state = kWRITING
        ∧ ∀ a, slotBase (1 - c) ≤ a → a < slotBase (1 - c) + slotSize → t.flashByte a = flashDefault a) := by
  have hy := s.commanded_landed (v ||| 1)
  have happ := app_landed_all s UPD_CMD.addr (v ||| 1)
  have hboot : (s.landed UPD_CMD.addr (v ||| 1)).boot = s.boot := State.setWord_boot _ _ _
  have hstart : (s.landed UPD_CMD.addr (v ||| 1)).updCmd src 0 = (s.landed UPD_CMD.addr (v ||| 1)).updStart := rfl
  have hdom : (s.landed UPD_CMD.addr (v ||| 1)).domOn dPCIE_S = s.domOn dPCIE_S := by
    unfold State.domOn State.dom
    rw [hy.get _ (by decide)]
  have hregions := poolRegions_congr hdom s.app
  have hpool := poolV_congr hdom hy.upd s.app
  refine upd_command rfl ha hb (hstart.trans ?_) ?_ (t := (s.landed UPD_CMD.addr (v ||| 1)).sessBegun)
  · generalize s.landed UPD_CMD.addr (v ||| 1) = y at *
    have hty := hy.get UPD_SESSION.TYPE (by decide)
    have hbuf : y.updBuf 0 = s.updBuf 0 := by
      unfold State.updBuf
      rw [hy.get _ (by decide)]
    have hconf : y.configAllowed = s.configAllowed := by
      unfold State.configAllowed State.dev
      rw [hy.get _ (by decide), hboot]
    refine updStart_ok (by rw [hty, hconf]; exact h2) (by rw [hty, slotIn_congr hy.upd]; exact h0) ?_ (by rw [happ, hpool]; exact hp)
    rw [happ, hregions, hbuf]
    exact hr
  · generalize s.landed UPD_CMD.addr (v ||| 1) = y at *
    obtain ⟨bsess, bfree, bnext, bdst, bupd, bblocks, bslot⟩ := sessBegun_fields y
    rw [hy.get _ (by decide), hy.get _ (by decide)] at bupd
    rw [hy.get _ (by decide), slotIn_congr hy.upd] at bslot
    exact ⟨State.answer_ok _, bsess, bfree, bnext, bdst, bupd, bblocks, bslot⟩

/-! ### ABORT (R555) -/

theorem upd_abort (s : State) (src : Source) (v : Word) (ty id i : Nat) (ha : s.admits updRules src UPD_CMD.addr (v ||| 2)) (hb : updBits (v ||| 2) = [1])
    (hs : s.upd.sess = some (ty, id, i)) : Completes (.updAbort src v) s (fun t => t.okAnswer ∧ t.get UPD_STAT.SESS = 0 ∧ t.get UPD_STAT.SLOT_FREE = 3 ∧ t.upd.sess = none ∧ t.upd.blocks = []
      ∧ (ty ≠ 2 → (t.slot i).state = kEMPTY)) := by
  have hy := s.commanded_landed (v ||| 2)
  have hc (y : State) (h : y.upd.sess = some (ty, id, i)) : y.updCmd src 1 = .ok (if ty == 2 then y.sessEnd 0 else (y.sessEnd 0).slotWritten i kEMPTY) := by
    have he : y.updCmd src 1 = match y.upd.sess with
        | none => .error .sequence
        | some (t, _, i) => .ok (if t == 2 then y.sessEnd 0 else ((y.sessEnd 0).slotState i kEMPTY).writeDir) := rfl
    rw [he, h]
    rfl
  refine upd_command rfl ha hb (hc _ (by rw [hy.upd, hs])) ?_
  generalize s.landed UPD_CMD.addr (v ||| 2) = y at *
  obtain ⟨hsess, hfree, hupd, -, -⟩ := y.sessEnd_fields (k := 0) (by decide)
  generalize y.sessEnd 0 = z at *
  have hz : (if ty == 2 then z else z.slotWritten i kEMPTY).get UPD_STAT.SESS = 0 ∧ (if ty == 2 then z else z.slotWritten i kEMPTY).get UPD_STAT.SLOT_FREE = 3
      ∧ (if ty == 2 then z else z.slotWritten i kEMPTY).upd.sess = none ∧ (if ty == 2 then z else z.slotWritten i kEMPTY).upd.blocks = []
      ∧ (ty ≠ 2 → ((if ty == 2 then z else z.slotWritten i kEMPTY).slot i).state = kEMPTY) := by
    split
    next h => exact ⟨hsess, hfree, by rw [hupd], by rw [hupd], fun hne => absurd (beq_iff_eq.mp h) hne⟩
    next =>
      obtain ⟨wslot, wget, -, -⟩ := z.slotWritten_fields i kEMPTY
      obtain ⟨wsess, wblocks⟩ := z.slotWritten_sess i kEMPTY
      exact ⟨(wget _ (by decide)).trans hsess, (wget _ (by decide)).trans hfree, by rw [wsess, hupd], by rw [wblocks, hupd], fun _ => wslot⟩
  generalize (if ty == 2 then z else z.slotWritten i kEMPTY) = u at *
  exact ⟨State.answer_ok _, hz⟩

/-! ### The programming of a block (R553) -/

/-- The bytes that a block puts into flash. -/
def State.blockBytes (s : State) (b : UpdBlock) : List Byte :=
  match b.copy with
  | some o => s.flashBytes (slotBase s.inService + o) b.len
  | none => if b.data.isEmpty then List.replicate b.len b.fill else b.data

/-- Bytes are in flash, the buffer slot of their block is free, and the blocks l remain. -/
def State.programmed (s : State) (a : Nat) (bs : List Byte) (k : Nat) (l : List UpdBlock) : State :=
  let s := s.setFlashBytes a bs
  let s := s.put UPD_STAT.SLOT_FREE (setBit (s.get UPD_STAT.SLOT_FREE) k true)
  s.withUpd { s.upd with blocks := l }

theorem State.flashByte_programmed (s : State) (a : Nat) (bs : List Byte) (k : Nat) (l : List UpdBlock) (c : Nat) :
    (s.programmed a bs k l).flashByte c = (s.setFlashBytes a bs).flashByte c := by
  unfold State.programmed
  generalize s.setFlashBytes a bs = y
  rfl

theorem State.programmed_fields (s : State) (a : Nat) (bs : List Byte) (k : Nat) (l : List UpdBlock) : (s.programmed a bs k l).upd.blocks = l
    ∧ (k < 2 → ((s.programmed a bs k l).get UPD_STAT.SLOT_FREE).testBit k = true) := by
  unfold State.programmed
  generalize s.setFlashBytes a bs = y
  refine ⟨rfl, fun hk => ?_⟩
  dsimp only
  rw [State.get_withUpd, State.get_put_same _ _ _ (by decide)]
  show (setBit (y.get UPD_STAT.SLOT_FREE) k true % 2 ^ 2).testBit k = true
  rw [Nat.testBit_mod_two_pow, decide_eq_true hk, Bool.true_and, testBit_setBit_same]

theorem block_programmed (s : State) (ty id i : Nat) (b : UpdBlock) (l : List UpdBlock) (ha : s.alive = true) (hs : s.upd.sess = some (ty, id, i)) (hb : s.upd.blocks = b :: l) :
    Completes .blockProgrammed s (fun t => t.upd.blocks = l ∧ (b.slot < 2 → (t.get UPD_STAT.SLOT_FREE).testBit b.slot = true)
      ∧ ∀ (j : Nat) x, (s.blockBytes b)[j]? = some x → t.flashByte (slotBase i + b.dst + j) = x) := by
  have he : exec .blockProgrammed s = .next (s.programmed (slotBase i + b.dst) (s.blockBytes b) b.slot l) := by
    have he : exec .blockProgrammed s = execBlockProgrammed s := rfl
    refine he.trans ?_
    unfold execBlockProgrammed
    rw [hs, hb]
    exact congrArg Host.Outcome.next (if_neg (by rw [ha]; decide))
  obtain ⟨hblocks, hfree⟩ := s.programmed_fields (slotBase i + b.dst) (s.blockBytes b) b.slot l
  exact ⟨_, he, hblocks, hfree, fun j x hx => (s.flashByte_programmed _ _ _ _ _).trans (s.flashByte_setFlashBytes_mem _ _ hx)⟩

/-! ### The check of the slot and the failure of the flash (R554, R555) -/

/-- The slot as a good image leaves it. -/
def State.staged (s : State) (a : Nat) : DirSlot :=
  { state := kSTAGED, imgSeq := s.imgSeq a, len := s.imgLen a, icrc := crc32c (s.flashBytes a (s.imgLen a)) }

/-- The slot is rejected with a code. -/
def State.slotRejected (s : State) (i code : Nat) : State :=
  (((((s.slotWritten i kREJECTED).sessEnd 3).put UPD_STAT.LAST_CODE code).blockErr 0x1A code .operation 0x10).logErr
    (errW0 0 false .host .operation 0x1A code) (BitVec.ofNat 32 0x1A0010))

theorem State.slotRejected_fields (s : State) (i : Nat) {code : Nat} (hc : code < 2 ^ 8) : (s.slotRejected i code).upd.sess = none
    ∧ (s.slotRejected i code).get UPD_STAT.SESS = 3 ∧ (s.slotRejected i code).get UPD_STAT.LAST_CODE = code ∧ ((s.slotRejected i code).slot i).state = kREJECTED := by
  obtain ⟨hsess, hupd, hslot⟩ := s.sessEnd_slotWritten i kREJECTED (k := 3) (by decide)
  unfold State.slotRejected
  generalize (s.slotWritten i kREJECTED).sessEnd 3 = y at *
  have hu : (((y.put UPD_STAT.LAST_CODE code).blockErr 0x1A code .operation 0x10).logErr (errW0 0 false .host .operation 0x1A code) (BitVec.ofNat 32 0x1A0010)).upd = y.upd :=
    (State.upd_logErr _ _ _).trans ((State.upd_blockErr _ _ _ _ _).trans (State.put_upd _ _ _))
  refine ⟨by rw [hu, hupd], ?_, ?_, by rw [slot_of_upd hu, hslot]⟩
  · rw [State.get_logErr _ _ _ rfl, State.get_blockErr _ _ _ _ _ (by decide), State.get_put_clear _ _ _ _ rfl, hsess]
  · rw [State.get_logErr _ _ _ rfl, State.get_blockErr _ _ _ _ _ (by decide), State.get_put_same _ _ _ (by decide)]
    exact Nat.mod_eq_of_lt hc

theorem State.loadStandby_sess (s : State) (i : Nat) : (s.loadStandby i).upd.sess = s.upd.sess := rfl

/-- The session ends, and the standby loads the slot. -/
theorem State.stagedLoads_fields (s : State) (i : Nat) : ((s.sessEnd 2).loadStandby i).upd.sess = none ∧ ((s.sessEnd 2).loadStandby i).get UPD_STAT.SESS = 2
    ∧ ((s.sessEnd 2).loadStandby i).get UPD_STAT.STBY = yLOADING ∧ ((s.sessEnd 2).loadStandby i).upd.stbyFrom = i
    ∧ ((s.sessEnd 2).loadStandby i).slot i = s.slot i := by
  obtain ⟨hsess, -, hupd, hslot, -⟩ := s.sessEnd_fields (k := 2) (by decide)
  generalize s.sessEnd 2 = y at *
  exact ⟨by rw [State.loadStandby_sess, hupd], (y.get_loadStandby i rfl).trans hsess, y.stby_loadStandby i, rfl, (y.loadStandby_slot i i).trans (hslot i)⟩

theorem State.slotStaged_slot (s : State) (i : Nat) (x : DirSlot) : (s.setSlot i x).writeDir.slot i = x :=
  (State.slot_writeDir _ i).trans (s.slot_setSlot_same i x)

theorem slot_verify (s : State) (ty id i : Nat) (fmt : BitVec 8) (ok : Bool) (ha : s.alive = true) (hs : s.upd.sess = some (ty, id, i)) (hv : s.upd.verify = true) (hb : s.upd.blocks = []) :
    let code := s.imageVerdict (slotBase i) fmt.toNat ok
    (code = 0 → Completes (.slotVerify fmt ok) s (fun t => t.upd.sess = none ∧ t.get UPD_STAT.SESS = 2 ∧ t.get UPD_STAT.STBY = yLOADING ∧ t.upd.stbyFrom = i
      ∧ t.slot i = s.staged (slotBase i)))
    ∧ (code ≠ 0 → Completes (.slotVerify fmt ok) s (fun t => t.upd.sess = none ∧ t.get UPD_STAT.SESS = 3 ∧ t.get UPD_STAT.LAST_CODE = code
      ∧ (t.slot i).state = kREJECTED)) := by
  intro code
  have he : exec (.slotVerify fmt ok) s = .next (if code = 0 then (((s.setSlot i (s.staged (slotBase i))).writeDir).sessEnd 2).loadStandby i else s.slotRejected i code) := by
    have he : exec (.slotVerify fmt ok) s = execSlotVerify fmt ok s := rfl
    refine he.trans ?_
    unfold execSlotVerify
    rw [hs]
    exact congrArg Host.Outcome.next (if_neg (by rw [ha, hv, hb]; decide))
  have hslot := s.slotStaged_slot i (s.staged (slotBase i))
  obtain ⟨hsess, hstat, hstby, hfrom, hsame⟩ := ((s.setSlot i (s.staged (slotBase i))).writeDir).stagedLoads_fields i
  refine ⟨fun h => ⟨_, he.trans (congrArg Host.Outcome.next (if_pos h)), hsess, hstat, hstby, hfrom, hsame.trans hslot⟩,
    fun h => ⟨_, he.trans (congrArg Host.Outcome.next (if_neg h)), s.slotRejected_fields i (imageVerdict_lt _ _ _ _)⟩⟩

theorem flash_fail (s : State) (ty id i : Nat) (ha : s.alive = true) (hs : s.upd.sess = some (ty, id, i)) (hty : ty ≠ 2) : Completes .flashFail s (fun t => t.upd.sess = none
    ∧ t.get UPD_STAT.SESS = 3 ∧ t.get UPD_STAT.LAST_CODE = Err.check.code ∧ (t.slot i).state = kREJECTED) := by
  have he : exec .flashFail s = .next (((s.slotWritten i kREJECTED).sessEnd 3).put UPD_STAT.LAST_CODE Err.check.code) := by
    have he : exec .flashFail s = execFlashFail s := rfl
    refine he.trans ?_
    unfold execFlashFail
    rw [hs]
    exact congrArg Host.Outcome.next (if_pos (by rw [ha, Bool.true_and]; exact bne_iff_ne.mpr hty))
  obtain ⟨hsess, hupd, hslot⟩ := s.sessEnd_slotWritten i kREJECTED (k := 3) (by decide)
  generalize (s.slotWritten i kREJECTED).sessEnd 3 = y at *
  refine ⟨_, he, by rw [State.put_upd, hupd], (State.get_put_clear y _ _ _ rfl).trans hsess, ?_, by rw [slot_of_upd (State.put_upd y _ _), hslot]⟩
  exact (State.get_put_same y _ _ (by decide)).trans (Nat.mod_eq_of_lt Err.check.code_lt)

end Sys2Proof.Machine
end

section
/-! PROOFS. The blocks of an update session (R550, R552 to R554). -/

namespace Sys2Proof.Machine

/-! ### The hand-over of a buffer slot -/

/-- The word that hands a buffer slot over. -/
def goWord (v : Word) : Word := v ||| BitVec.ofNat 32 (2 ^ 31)

/-- The block in the buffer slot that a word hands over. -/
def State.handedHead (s : State) (v : Word) : BlkHead := s.blkHead ((goWord v).toNat % 2)

/-- A hand-over that UPD_BLK's rules admit, in a session that takes blocks. -/
structure State.handsOver (s : State) (src : Source) (v : Word) (ty id : Nat) : Prop where
  admits : s.admits updRules src UPD_BLK.addr (goWord v)
  verify : s.upd.verify = false
  sess : ∃ i, s.upd.sess = some (ty, id, i)

/-- A block handed over again (R553). -/
structure State.resends (s : State) (id : Nat) (h : BlkHead) : Prop where
  good : h.good = true
  magic : h.magic = 0x55444B42
  session : h.session = id
  index : h.index + 1 = s.get UPD_NEXT.NEXT
  crc : s.upd.lastCrc = some (BitVec.ofNat 32 h.crc)

/-- The test of a resend. -/
def State.resendTest (s : State) (id : Nat) (h : BlkHead) : Bool :=
  h.good && h.magic == 0x55444B42 && h.session == id && h.index + 1 == s.get UPD_NEXT.NEXT && s.upd.lastCrc == some (BitVec.ofNat 32 h.crc)

theorem resendTest_iff (s : State) (id : Nat) (h : BlkHead) : s.resendTest id h = true ↔ s.resends id h := by
  unfold State.resendTest
  simp only [Bool.and_eq_true, beq_iff_eq]
  constructor
  · rintro ⟨⟨⟨⟨hg, hm⟩, hs⟩, hi⟩, hc⟩
    exact ⟨hg, hm, hs, hi, hc⟩
  · rintro ⟨hg, hm, hs, hi, hc⟩
    exact ⟨⟨⟨⟨hg, hm⟩, hs⟩, hi⟩, hc⟩

theorem updRules_go (src : Source) (v : Word) (s : State) : updRules.act src UPD_BLK.addr (goWord v) s = s.blockGo ((goWord v).toNat % 2) := by
  have he : updRules.act src UPD_BLK.addr (goWord v) s = if (goWord v).toNat.testBit 31 then s.blockGo ((goWord v).toNat % 2) else .ok s := rfl
  exact he.trans (if_pos (testBit_or_right v (BitVec.ofNat 32 (2 ^ 31)) (by decide)))

theorem blockGo_open {s : State} {ty id i k : Nat} (hs : s.upd.sess = some (ty, id, i)) (hv : s.upd.verify = false) : s.blockGo k = if s.resendTest id (s.blkHead k) then .ok s
    else match s.blockErr' ty id (s.blkHead k) with
      | some e => .ok (s.put UPD_STAT.LAST_CODE e.code)
      | none => .ok (s.blockAccept ty k (s.blkHead k)) := by
  unfold State.blockGo
  rw [hs]
  exact if_neg (by rw [hv]; decide)

/-- A landed write of UPD_BLK leaves what a block is judged by. -/
structure State.blkLanded (s y : State) : Prop where
  upd : y.upd = s.upd
  get : ∀ f : Fld, f.addr ≠ UPD_BLK.addr → y.get f = s.get f
  sram : y.sram = s.sram
  boot : y.boot = s.boot

theorem State.blkLanded_landed (s : State) (w : Word) : s.blkLanded (s.landed UPD_BLK.addr w) :=
  ⟨State.setWord_upd _ _ _, fun f h => State.get_landed_ne s _ w f h, State.setWord_sram _ _ _, State.setWord_boot _ _ _⟩

theorem State.blkLanded.blkHead {s y : State} (h : s.blkLanded y) (k : Nat) : y.blkHead k = s.blkHead k := by
  have hbuf : y.updBuf k = s.updBuf k := by
    unfold State.updBuf
    rw [h.get _ (by decide)]
  have hle (a n : Nat) : y.sramLE a n = s.sramLE a n := State.sramLE_of_sram h.sram a n
  have hbyte (a : Nat) : y.sramByte a = s.sramByte a := State.sramByte_of_sram h.sram a
  unfold State.blkHead
  simp only [hbuf, hle, hbyte]

theorem State.blkLanded.blockErr {s y : State} (h : s.blkLanded y) (ty id : Nat) (x : BlkHead) : y.blockErr' ty id x = s.blockErr' ty id x := by
  have hin : y.inService = s.inService := by
    unfold State.inService
    rw [slotIn_congr h.upd]
  have hslot (i : Nat) : y.slot i = s.slot i := slot_of_upd h.upd i
  unfold State.blockErr'
  rw [h.get UPD_NEXT.NEXT (by decide), h.get UPD_NEXT_DST.DST (by decide), hin, hslot]

theorem State.blkLanded.resends_iff {s y : State} (h : s.blkLanded y) (id : Nat) (x : BlkHead) : y.resends id x ↔ s.resends id x := by
  have hi := h.get UPD_NEXT.NEXT (by decide)
  have hu := h.upd
  constructor
  · rintro ⟨h1, h2, h3, h4, h5⟩
    exact ⟨h1, h2, h3, h4.trans hi, by rw [← hu, h5]⟩
  · rintro ⟨h1, h2, h3, h4, h5⟩
    exact ⟨h1, h2, h3, h4.trans hi.symm, by rw [hu, h5]⟩

/-- A block that the session takes. -/
structure State.takes (s : State) (src : Source) (v : Word) (ty id : Nat) : Prop where
  handed : s.handsOver src v ty id
  fresh : ¬ s.resends id (s.handedHead v)
  valid : s.blockErr' ty id (s.handedHead v) = none

theorem blk_command {c : Instr} {s t : State} {src : Source} {v : Word} {ty id : Nat} {P : State → Prop} (he : exec c s = .next (s.updHand src v))
    (h : s.handsOver src v ty id) (ht : (s.landed UPD_BLK.addr (goWord v)).blockGo ((goWord v).toNat % 2) = .ok t) (hp : P (t.answer 0 0)) : Completes c s P :=
  Completes.of_write he h.admits (by decide) (by decide) ((updRules_go src v _).trans ht) hp

/-- A taken block is accepted, in a state that differs from s by the landed write alone. -/
theorem block_taken {c : Instr} {s : State} {src : Source} {v : Word} {ty id : Nat} {P : State → Prop} (he : exec c s = .next (s.updHand src v)) (h : s.takes src v ty id)
    (hp : ∀ y, s.blkLanded y → P ((y.blockAccept ty ((goWord v).toNat % 2) (s.handedHead v)).answer 0 0)) : Completes c s P := by
  have hy := s.blkLanded_landed (goWord v)
  obtain ⟨i, hs⟩ := h.handed.sess
  refine blk_command he h.handed ?_ (hp _ hy)
  generalize s.landed UPD_BLK.addr (goWord v) = y at *
  have hno : ¬ y.resendTest id (y.blkHead ((goWord v).toNat % 2)) = true := by
    rw [resendTest_iff, hy.blkHead, hy.resends_iff]
    exact h.fresh
  have hvalid : y.blockErr' ty id (y.blkHead ((goWord v).toNat % 2)) = none := by
    rw [hy.blkHead, hy.blockErr]
    exact h.valid
  rw [blockGo_open (by rw [hy.upd, hs]) (by rw [hy.upd, h.handed.verify]), if_neg hno, hvalid, hy.blkHead]
  rfl

theorem block_resent (s : State) (src : Source) (v : Word) (ty id : Nat) (h : s.handsOver src v ty id) (hr : s.resends id (s.handedHead v)) :
    Completes (.dataBlock src v) s (fun t => t.okAnswer ∧ t.upd = s.upd) := by
  have hy := s.blkLanded_landed (goWord v)
  obtain ⟨i, hs⟩ := h.sess
  refine blk_command (t := s.landed UPD_BLK.addr (goWord v)) rfl h ?_ ⟨State.answer_ok _, (State.answer_upd _ _ _).trans hy.upd⟩
  generalize s.landed UPD_BLK.addr (goWord v) = y at *
  have hyes : y.resendTest id (y.blkHead ((goWord v).toNat % 2)) = true := by
    rw [resendTest_iff, hy.blkHead, hy.resends_iff]
    exact hr
  rw [blockGo_open (by rw [hy.upd, hs]) (by rw [hy.upd, h.verify]), if_pos hyes]

/-! ### What an accepted block leaves -/

/-- The session has moved past the block. -/
def State.pastBlock (s : State) (h : BlkHead) : State :=
  let s := (s.put UPD_NEXT.NEXT (h.index + 1)).put UPD_NEXT_DST.DST (h.dst + h.len)
  s.withUpd { s.upd with lastCrc := some (BitVec.ofNat 32 h.crc) }

/-- Where the session stands after a block. -/
structure BlkHead.movedTo (h : BlkHead) (t : State) : Prop where
  next : t.get UPD_NEXT.NEXT = (h.index + 1) % 2 ^ 32
  dst : t.get UPD_NEXT_DST.DST = (h.dst + h.len) % 2 ^ 32

theorem State.pastBlock_fields (s : State) (h : BlkHead) : h.movedTo (s.pastBlock h) ∧ (s.pastBlock h).upd = { s.upd with lastCrc := some (BitVec.ofNat 32 h.crc) } := by
  unfold State.pastBlock
  dsimp only
  refine ⟨⟨?_, ?_⟩, rfl⟩
  · rw [State.get_withUpd, State.get_put_clear _ _ _ _ rfl, State.get_put_same _ _ _ (by decide)]
    rfl
  · rw [State.get_withUpd, State.get_put_same _ _ _ (by decide)]
    rfl

theorem BlkHead.movedTo.of_get {h : BlkHead} {s t : State} (hm : h.movedTo s) (hn : t.get UPD_NEXT.NEXT = s.get UPD_NEXT.NEXT)
    (hd : t.get UPD_NEXT_DST.DST = s.get UPD_NEXT_DST.DST) : h.movedTo t :=
  ⟨hn.trans hm.next, hd.trans hm.dst⟩

/-- The block that waits to be programmed. -/
def BlkHead.waiting (h : BlkHead) (k : Nat) : UpdBlock :=
  { slot := k, dst := h.dst, len := h.len, data := h.payload, copy := if h.op == 1 then some h.src else none, fill := BitVec.ofNat 8 h.src }

/-- What the acceptance does once the session has moved. -/
def State.blockKept (s : State) (t k : Nat) (h : BlkHead) : State :=
  if t == 2 then
    let s : State := { s with upd := { s.upd with section_ := s.upd.section_ ++ h.bytes } }
    if h.op == 3 then s.configRun else s
  else if h.op == 3 then { s with upd := { s.upd with verify := true } }
  else
    let s : State := { s with upd := { s.upd with blocks := s.upd.blocks ++ [h.waiting k] } }
    s.put UPD_STAT.SLOT_FREE (setBit (s.get UPD_STAT.SLOT_FREE) k false)

theorem blockAccept_eq (s : State) (t k : Nat) (h : BlkHead) : s.blockAccept t k h = (s.pastBlock h).blockKept t k h := rfl

/-- A block that produces bytes, as the session keeps it. -/
theorem State.blockKept_queued (s : State) (t k : Nat) (h : BlkHead) (ho : h.op ≠ 3) : (s.blockKept t k h).get UPD_NEXT.NEXT = s.get UPD_NEXT.NEXT
    ∧ (s.blockKept t k h).get UPD_NEXT_DST.DST = s.get UPD_NEXT_DST.DST ∧ (s.blockKept t k h).upd.lastCrc = s.upd.lastCrc
    ∧ (t ≠ 2 → (s.blockKept t k h).upd.blocks = s.upd.blocks ++ [h.waiting k] ∧ ((s.blockKept t k h).get UPD_STAT.SLOT_FREE).testBit k = false)
    ∧ (t = 2 → (s.blockKept t k h).upd.section_ = s.upd.section_ ++ h.bytes) := by
  have h3 : ¬ (h.op == 3) = true := by rw [beq_iff_eq]; exact ho
  by_cases ht : t = 2
  · have he : s.blockKept t k h = s.withUpd { s.upd with section_ := s.upd.section_ ++ h.bytes } := (if_pos (beq_iff_eq.mpr ht)).trans (if_neg h3)
    rw [he]
    exact ⟨State.get_withUpd _ _ _, State.get_withUpd _ _ _, rfl, fun hne => absurd ht hne, fun _ => rfl⟩
  · have he : s.blockKept t k h = (s.withUpd { s.upd with blocks := s.upd.blocks ++ [h.waiting k] }).put UPD_STAT.SLOT_FREE
        (setBit ((s.withUpd { s.upd with blocks := s.upd.blocks ++ [h.waiting k] }).get UPD_STAT.SLOT_FREE) k false) :=
      (if_neg (by rw [beq_iff_eq]; exact ht)).trans (if_neg h3)
    have hget (f : Fld) : (s.withUpd { s.upd with blocks := s.upd.blocks ++ [h.waiting k] }).get f = s.get f := State.get_withUpd _ _ _
    have hupd : (s.withUpd { s.upd with blocks := s.upd.blocks ++ [h.waiting k] }).upd = { s.upd with blocks := s.upd.blocks ++ [h.waiting k] } := rfl
    rw [he]
    generalize s.withUpd { s.upd with blocks := s.upd.blocks ++ [h.waiting k] } = y at *
    refine ⟨(State.get_put_clear y _ _ _ rfl).trans (hget _), (State.get_put_clear y _ _ _ rfl).trans (hget _), by rw [State.put_upd, hupd],
      fun _ => ⟨by rw [State.put_upd, hupd], ?_⟩, fun h2 => absurd h2 ht⟩
    rw [State.get_put_same _ _ _ (by decide)]
    show (setBit (y.get UPD_STAT.SLOT_FREE) k false % 2 ^ 2).testBit k = false
    rw [Nat.testBit_mod_two_pow, testBit_setBit_same, Bool.and_false]

/-- What a block leaves that the session keeps for programming or for the section. -/
def blockQueued (s : State) (k : Nat) (h : BlkHead) (ty : Nat) (t : State) : Prop :=
  (t.okAnswer ∧ t.get UPD_NEXT.NEXT = (h.index + 1) % 2 ^ 32 ∧ t.get UPD_NEXT_DST.DST = (h.dst + h.len) % 2 ^ 32) ∧ t.upd.lastCrc = some (BitVec.ofNat 32 h.crc)
    ∧ (ty ≠ 2 → t.upd.blocks = s.upd.blocks ++ [h.waiting k] ∧ (t.get UPD_STAT.SLOT_FREE).testBit k = false)
    ∧ (ty = 2 → t.upd.section_ = s.upd.section_ ++ h.bytes)

theorem block_queued {c : Instr} (s : State) (src : Source) (v : Word) (ty id : Nat) (he : exec c s = .next (s.updHand src v)) (h : s.takes src v ty id)
    (ho : (s.handedHead v).op ≠ 3) : Completes c s (blockQueued s ((goWord v).toNat % 2) (s.handedHead v) ty) := by
  refine block_taken he h fun y hy => ?_
  generalize s.handedHead v = x at *
  obtain ⟨hmoved, hupd⟩ := y.pastBlock_fields x
  rw [blockAccept_eq]
  generalize y.pastBlock x = z at *
  obtain ⟨hn, hd, hcrc, hblocks, hsection⟩ := z.blockKept_queued ty ((goWord v).toNat % 2) x ho
  generalize z.blockKept ty ((goWord v).toNat % 2) x = t at *
  rw [hupd] at hcrc hblocks hsection
  rw [hy.upd] at hblocks hsection
  have hm := hmoved.of_get hn hd
  exact ⟨⟨State.answer_ok _, hm.next, hm.dst⟩, hcrc, hblocks, hsection⟩

/-! ### The end of a CONFIG session (R550, R554) -/

theorem win_ne_upd_of_mem_regsOfDomain {s : State} {d a : Nat} (hd : d ≠ dMGMT) (h : a ∈ s.regsOfDomain d) : a / 0x10000 ≠ 0x1A := by
  intro hw
  simp only [State.regsOfDomain, List.mem_flatMap, List.mem_filter] at h
  obtain ⟨-, -, -, h⟩ := h
  have hregs : domainsOfReg a = [1] := by simp [domainsOfReg, hw, blockOfWindow]
  rw [hregs] at h
  simp at h
  exact hd h.1

/-- The death of a domain other than MGMT leaves UPD's registers. -/
theorem State.word_domainDead_upd (s : State) {d : Nat} (hd : d ≠ dMGMT) {a : Nat} (ha : a / 0x10000 = 0x1A) : (s.domainDead d).word a = s.word a := by
  have hlinks : (if d == dPCIE_S then s.drivesGone else s).word a = s.word a :=
    (Kept.ite (Kept.drivesGone (.refl _ s) (Foot.le_refl _)) (.refl _ s)).word_of (Foot.word_of_win ha rfl)
  have hset (x : State) : (x.setDom d 0).word a = x.word a := (Kept.setDom (.refl _ x) (Foot.le_refl _) d 0).word_of (Foot.word_of_win ha rfl)
  unfold State.domainDead
  dsimp only
  refine Eq.trans ?_ ((hset _).trans hlinks)
  generalize (if d == dPCIE_S then s.drivesGone else s).setDom d 0 = x
  have hregs (y : State) : ((x.regsOfDomain d).foldl (fun (s : State) a => s.resetReg a) y).word a = y.word a :=
    State.word_foldl_resetReg _ _ fun b hb hab => win_ne_upd_of_mem_regsOfDomain hd hb (hab ▸ ha)
  have hforget (y : State) : (y.blocksForget d).word a = y.word a := (Kept.blocksForget (.refl _ y) (Foot.le_refl _) d).word_of (Foot.word_of_win ha rfl)
  have hreset (y : State) : y.hptReset.word a = y.word a := (Kept.hptReset (.refl _ y) (Foot.le_refl _)).word_of (Foot.word_of_win ha rfl)
  rw [hforget]
  split
  · rw [hreset]
    rfl
  · rw [hregs]
    rfl

theorem State.word_resetBlock (s : State) (w : Nat) (p : Nat → Bool) {a : Nat} (h : ∀ b ∈ addrsOfBlock w, a ≠ b) : (s.resetBlock w p).word a = s.word a := by
  unfold State.resetBlock
  generalize addrsOfBlock w = l at h
  induction l generalizing s with
  | nil => rfl
  | cons b l ih =>
    rw [List.foldl_cons, ih _ fun c hc => h c (List.mem_cons_of_mem b hc)]
    split
    · exact State.word_resetReg_ne s (h b List.mem_cons_self)
    · rfl

theorem addrs_ne_upd {w a : Nat} (hw : w = 0x05 ∨ w = 0x19 ∨ w = 0x15) (ha : a / 0x10000 = 0x1A) : ∀ b ∈ addrsOfBlock w, a ≠ b := by
  have hall : ([0x05, 0x19, 0x15] : List Nat).all (fun w => (addrsOfBlock w).all (fun b => b / 0x10000 != 0x1A)) = true := by decide +kernel
  have hmem : w ∈ ([0x05, 0x19, 0x15] : List Nat) := by
    rcases hw with rfl | rfl | rfl <;> decide
  intro b hb hab
  have h := List.all_eq_true.mp (List.all_eq_true.mp hall w hmem) b hb
  exact bne_iff_ne.mp h (hab ▸ ha)

/-- The switchable domains are off. -/
def State.domainsDead (s : State) : State := (List.range 24).foldl (fun (s : State) d => if haltOn d || s.dom d == 0 then s else s.domainDead d) s

theorem State.word_domainsDead (s : State) {a : Nat} (ha : a / 0x10000 = 0x1A) : s.domainsDead.word a = s.word a := by
  unfold State.domainsDead
  generalize List.range 24 = l
  induction l generalizing s with
  | nil => rfl
  | cons d l ih =>
    rw [List.foldl_cons, ih]
    split
    · rfl
    next h =>
      refine s.word_domainDead_upd (fun hd => ?_) ha
      subst hd
      exact h rfl

/-- Blocks 05, 19 and 15 are reset, and what they keep beside their registers starts afresh. -/
def State.portsAfresh (s : State) : State := { s with fcv := FcvSt.reset, cst := CstSt.reset, pins := { Pins.reset with spPerstN := 0 } }

theorem State.word_portsAfresh (s : State) (a : Nat) : s.portsAfresh.word a = s.word a := rfl

/-- The registers of HPT that outlast the end of a CONFIG session. -/
def hptKept (a : Nat) : Bool := a == HPT_LINK.addr || a == HPT_BAR4.addr || (decide (0x150300 ≤ a) && decide (a < 0x151C00))

theorem configOff_eq (s : State) : s.configOff
    = (((s.domainsDead.resetBlock 0x05 (fun _ => true)).resetBlock 0x19 (fun _ => true)).resetBlock 0x15 (fun a => ! hptKept a)).portsAfresh := rfl

theorem State.word_configOff (s : State) {a : Nat} (ha : a / 0x10000 = 0x1A) : s.configOff.word a = s.word a := by
  rw [configOff_eq, State.word_portsAfresh, State.word_resetBlock _ _ _ (addrs_ne_upd (.inr (.inr rfl)) ha), State.word_resetBlock _ _ _ (addrs_ne_upd (.inr (.inl rfl)) ha),
    State.word_resetBlock _ _ _ (addrs_ne_upd (.inl rfl) ha), State.word_domainsDead _ ha]

theorem State.get_configOff (s : State) {f : Fld} (h : f.addr / 0x10000 = 0x1A) : s.configOff.get f = s.get f := by
  unfold State.get
  rw [State.word_configOff s h]

/-- A CONFIG session has delivered its section. -/
def State.hostDone (s : State) : State := s.booted { s.boot with hostDone := true }

/-- The delivered section is run from its start. -/
def State.sectionRun (s : State) : State :=
  let s : State := { s with boot := { s.boot with hostDone := true } }
  s.recArrive { flash := none, len := s.upd.section_.length, ofs := 0, waiting := false } 0

theorem State.configRun_eq (s : State) : s.configRun = (s.sessEnd 2).configOff.sectionRun := rfl

theorem State.sectionRun_fields (s : State) : s.sectionRun.boot.hostDone = true ∧ s.sectionRun.upd = s.upd
    ∧ ∀ f : Fld, SYS_STATE.LAST_ERR.clear f = true → UPD_LOAD_ERR.OFS.clear f = true → s.sectionRun.get f = s.get f := by
  have he : s.sectionRun = s.hostDone.recArrive { flash := none, len := s.hostDone.upd.section_.length, ofs := 0, waiting := false } 0 := rfl
  have hdone : s.hostDone.boot.hostDone = true := rfl
  have hupd : s.hostDone.upd = s.upd := rfl
  have hget (f : Fld) : s.hostDone.get f = s.get f := State.get_booted _ _ _
  rw [he]
  generalize s.hostDone = z at *
  obtain ⟨-, adone, aupd, aget⟩ := z.recArrive_fields { flash := none, len := z.upd.section_.length, ofs := 0, waiting := false } 0
  exact ⟨adone.trans hdone, aupd.trans hupd, fun f h1 h2 => (aget f h1 h2).trans (hget f)⟩

theorem State.configRun_fields (s : State) : s.configRun.upd.sess = none ∧ s.configRun.boot.hostDone = true ∧ s.configRun.get UPD_STAT.SESS = 2
    ∧ s.configRun.get UPD_NEXT.NEXT = s.get UPD_NEXT.NEXT ∧ s.configRun.get UPD_NEXT_DST.DST = s.get UPD_NEXT_DST.DST := by
  obtain ⟨esess, -, eupd, -, eget⟩ := s.sessEnd_fields (k := 2) (by decide)
  rw [State.configRun_eq]
  generalize s.sessEnd 2 = x at *
  have hoff {f : Fld} (h : f.addr / 0x10000 = 0x1A) : x.configOff.get f = x.get f := State.get_configOff _ h
  have hupd : x.configOff.upd = x.upd := (Kept.configOff (.refl _ x) (Foot.le_refl _)).part_of .upd rfl
  generalize x.configOff = y at *
  obtain ⟨hdone, rupd, rget⟩ := y.sectionRun_fields
  refine ⟨by rw [rupd, hupd, eupd], hdone, ?_, ?_, ?_⟩
  · rw [rget _ rfl rfl, hoff rfl, esess]
  · rw [rget _ rfl rfl, hoff rfl, eget _ rfl rfl]
  · rw [rget _ rfl rfl, hoff rfl, eget _ rfl rfl]

/-- What an END block leaves, in a state y with the session moved past it. -/
theorem State.blockKept_end (s : State) (t k : Nat) (h : BlkHead) (ho : h.op = 3) : (s.blockKept t k h).get UPD_NEXT.NEXT = s.get UPD_NEXT.NEXT
    ∧ (s.blockKept t k h).get UPD_NEXT_DST.DST = s.get UPD_NEXT_DST.DST
    ∧ (t ≠ 2 → (s.blockKept t k h).upd.verify = true ∧ (s.blockKept t k h).upd.blocks = s.upd.blocks)
    ∧ (t = 2 → (s.blockKept t k h).upd.sess = none ∧ (s.blockKept t k h).boot.hostDone = true ∧ (s.blockKept t k h).get UPD_STAT.SESS = 2) := by
  have h3 : (h.op == 3) = true := beq_iff_eq.mpr ho
  by_cases ht : t = 2
  · have he : s.blockKept t k h = (s.withUpd { s.upd with section_ := s.upd.section_ ++ h.bytes }).configRun := (if_pos (beq_iff_eq.mpr ht)).trans (if_pos h3)
    have hget (f : Fld) : (s.withUpd { s.upd with section_ := s.upd.section_ ++ h.bytes }).get f = s.get f := State.get_withUpd _ _ _
    rw [he]
    generalize s.withUpd { s.upd with section_ := s.upd.section_ ++ h.bytes } = y at *
    obtain ⟨hsess, hdone, hstat, hn, hd⟩ := y.configRun_fields
    exact ⟨hn.trans (hget _), hd.trans (hget _), fun hne => absurd ht hne, fun _ => ⟨hsess, hdone, hstat⟩⟩
  · have he : s.blockKept t k h = s.withUpd { s.upd with verify := true } := (if_neg (by rw [beq_iff_eq]; exact ht)).trans (if_pos h3)
    rw [he]
    exact ⟨State.get_withUpd _ _ _, State.get_withUpd _ _ _, fun _ => ⟨rfl, rfl⟩, fun h2 => absurd h2 ht⟩

theorem end_block (s : State) (src : Source) (v : Word) (ty id : Nat) (h : s.takes src v ty id) (ho : (s.handedHead v).op = 3) :
    Completes (.endBlock src v) s (fun t => (t.okAnswer ∧ t.get UPD_NEXT.NEXT = ((s.handedHead v).index + 1) % 2 ^ 32
        ∧ t.get UPD_NEXT_DST.DST = ((s.handedHead v).dst + (s.handedHead v).len) % 2 ^ 32)
      ∧ (ty ≠ 2 → t.upd.verify = true ∧ t.upd.blocks = s.upd.blocks) ∧ (ty = 2 → t.upd.sess = none ∧ t.boot.hostDone = true ∧ t.get UPD_STAT.SESS = 2)) := by
  refine block_taken rfl h fun y hy => ?_
  generalize s.handedHead v = x at *
  obtain ⟨hmoved, hupd⟩ := y.pastBlock_fields x
  rw [blockAccept_eq]
  generalize y.pastBlock x = z at *
  obtain ⟨hn, hd, hverify, hconfig⟩ := z.blockKept_end ty ((goWord v).toNat % 2) x ho
  generalize z.blockKept ty ((goWord v).toNat % 2) x = t at *
  rw [hupd] at hverify
  rw [hy.upd] at hverify
  have hm := hmoved.of_get hn hd
  exact ⟨⟨State.answer_ok _, hm.next, hm.dst⟩, hverify, hconfig⟩

/-- Settles O49: START and ABORT by UPD_CMD, blocks by what the session takes, the rest by the open session. -/
theorem updateSessionCommandsComplete : Obligations.UpdateSessionCommandsComplete := by
  unfold Obligations.UpdateSessionCommandsComplete
  intro go handed head resend taken moved queued
  have hover {s : State} {src : Source} {v : Word} {ty id : Nat} (h : handed s src v ty id) : s.handsOver src v ty id := ⟨h.1, h.2.1, h.2.2⟩
  have hresend {s : State} {id : Nat} {x : BlkHead} : s.resends id x ↔ resend s id x :=
    ⟨fun ⟨h1, h2, h3, h4, h5⟩ => ⟨h1, h2, h3, h4, h5⟩, fun ⟨h1, h2, h3, h4, h5⟩ => ⟨h1, h2, h3, h4, h5⟩⟩
  have htaken {s : State} {src : Source} {v : Word} {ty id : Nat} (h : taken s src v ty id) : s.takes src v ty id :=
    ⟨hover h.1, fun hr => h.2.1 (hresend.mp hr), h.2.2⟩
  have hop {s : State} {v : Word} {k : Nat} (h : (head s v).op = k) (hk : k ≠ 3) : (s.handedHead v).op ≠ 3 := fun h3 => hk (h.symm.trans h3)
  exact ⟨fun s src v ha hb h2 h0 hr hp => upd_start s src v ha hb h2 h0 hr hp, fun s src v ty id i ha hb hs => upd_abort s src v ty id i ha hb hs,
    fun s src v ty id h ho => block_queued s src v ty id rfl (htaken h) (hop ho (by decide)),
    fun s src v ty id h ho => block_queued s src v ty id rfl (htaken h) (hop ho (by decide)),
    fun s src v ty id h ho => block_queued s src v ty id rfl (htaken h) (hop ho (by decide)),
    fun s src v ty id h ho => end_block s src v ty id (htaken h) ho,
    fun s src v ty id h hr => block_resent s src v ty id (hover h) (hresend.mpr hr),
    block_programmed, slot_verify, flash_fail⟩

end Sys2Proof.Machine
end
